-- ==== Sys2Proof/Word.lean ====
section
/-! DEFINITION. Word.lean: the widths of the spec's data. Registers are 32-bit words (R12), time-stamps and host-memory
addresses are 64-bit (R4, R27). -/

namespace Sys2Proof

/-- A 32-bit register word (R12). -/
abbrev Word := BitVec 32
/-- A 64-bit time-stamp or host-memory address (R4). -/
abbrev Dword := BitVec 64
/-- One byte. -/
abbrev Byte := BitVec 8

end Sys2Proof
end

