-- ==== Sys2Proof/Syntax.lean ====
section
/-! DEFINITION. Syntax.lean: who sends a command (the requester codes of VL_DENY_ADDR, R38), what a command carries, and
the commands themselves: Instr, one constructor per row of spec/opcode_table.json. A command is a register access, an
operation of a bus or protocol, or an event on a pin or inside the block; an event carries the time-stamp t of its edge
and the analogue or external values that the spec says the block samples there. -/

namespace Sys2Proof

/-- The requester codes (spec/01_architecture.md, VL_DENY_ADDR): host software 0x0, SEC, PMC, SCH, CC0..CC7, a Coupler
peer 0xC, a Velol DMA engine 0xD. -/
inductive Requester where
  | host | sec | pmc | sch
  | cc (k : Fin 8)
  | peer | dma
  deriving DecidableEq, Repr

/-- The code of a requester. -/
def Requester.code : Requester → Nat
  | .host => 0x0
  | .sec => 0x1
  | .pmc => 0x2
  | .sch => 0x3
  | .cc k => 0x4 + k.val
  | .peer => 0xC
  | .dma => 0xD

/-- The width of a register access (R12, R13). -/
inductive Width where
  | b8 | b16 | b32
  deriving DecidableEq, Repr

/-- The bytes of an access. -/
def Width.bytes : Width → Nat
  | .b8 => 1
  | .b16 => 2
  | .b32 => 4

/-- A byte offset in the 32 MiB register window (R35). -/
abbrev Offset := BitVec 25
/-- A cell index c (R65). -/
abbrev CellIx := Fin 3072
/-- A region index n; 0 names the parked set and no region (R119). -/
abbrev RegionIx := Fin 256
/-- A front-stage phase p. -/
abbrev PhaseIx := Fin 32
/-- An engine group g. -/
abbrev GroupIx := Fin 64
/-- Index of a memory (R498). -/
abbrev MemIx := Fin 18
/-- A Postilion source number (R580); 0 is none. -/
abbrev SourceIx := Fin 1024
/-- A firmware core i: SEC, PMC, SCH, CC0..CC7. -/
abbrev CoreIx := Fin 11

/-- The atomic accesses of RV32A (R569). -/
inductive AmoOp where
  | lr | sc | swap | add | bxor | band | bor | min | max | minu | maxu
  deriving DecidableEq, Repr

/-- The second measurement of a cell test (R116): LOAD takes the raw codes of the four sensors, every other test a word. -/
inductive TestB where
  | raws (raw0 raw1 raw2 raw3 : BitVec 11)
  | word (v : BitVec 16)
  deriving DecidableEq, Repr

/-- What a cell test measured (R116): LOAD the replica current and the raw codes of the four sensors; RON the number of
switches out of tolerance and R_FSL; LEAK the leakiest capacitor and its leakage; SNSCAL the raw readings at 0.900 V and
0.500 V; and whether the test could complete. -/
structure TestResult where
  resa : BitVec 13
  resb : TestB
  complete : Bool := true
  deriving DecidableEq, Repr

/-- The replica current of a cell, in 0.25 mA steps, and the FCODE_EFF that holds it at the limit (R86). -/
structure LimitReading where
  cur : BitVec 13
  fcodeEff : Nat
  deriving DecidableEq, Repr

/-- A CKX edge and the combined sense at it, in microvolts (R180, R185). -/
structure EdgeSense where
  x : Nat
  uv : Nat
  deriving DecidableEq, Repr

/-- A minimum that a region's tree delivers: its code and its sensor (R151). -/
structure Minimum where
  v : BitVec 11
  sensor : BitVec 14
  deriving DecidableEq, Repr

/-- What the host TAP loads into the segment's 127 cells, and when (R664, R665). -/
structure ScanUpdate where
  t : Dword
  cells : BitVec 127
  deriving DecidableEq, Repr

/-- A Yutre command (R618) as SCH takes it from a channel: sender and channel, header but for the opcode, and payload bytes;
bytes beyond the list are 0. -/
structure YMsg where
  sndr : Requester
  /-- member id of a peer; 0 for other senders -/
  member : BitVec 17
  ch : Fin 32
  vmaj : BitVec 8
  vmin : BitVec 8
  sq : BitVec 16
  len : BitVec 8
  flags : BitVec 8
  pay : List (BitVec 8)
  deriving DecidableEq, Repr

/-- What the cell sea's replicas and sensors gave at one CKS edge (R84, R90): replica currents in 0.25 mA by cell, and raw
codes by cell and sensor. A cell or sensor not listed gave what its register already holds. -/
structure SeaEdge where
  ts : Dword
  currents : List (CellIx × BitVec 13)
  raws : List (CellIx × Fin 4 × BitVec 11)
  deriving DecidableEq, Repr

/-- What the outside world gave the block over the base frame that ends at a base tick: the CKS edges' samples, the event
counts of the engine groups by class (R298, R372), the groups that issued program work, each with the TS of its last issue (R345), and the least slack among
the critical-path replicas of a region in 1/1,024 of a clock period, none where its clock regions hold no replica (R522). -/
structure TickSamples where
  sea : List SeaEdge
  events : List (GroupIx × Fin 4 × Nat)
  issued : List (GroupIx × Dword)
  slacks : List (RegionIx × Option (BitVec 16))
  deriving DecidableEq, Repr

/-- The commands: one constructor per row of spec/opcode_table.json, in the table's order. -/
inductive Instr where
  /-- REGISTER_WRITE (R17): A write to a register that has no row of its own stores, ignores or acts on the written fields according to their access codes. -/
  | registerWrite (req : Requester) (width : Width) (addr : Offset) (value : Word)
  /-- COUNTER_LOW_READ (R503): A read of the low half of a 64-bit counter latches its high half for that requester. -/
  | counterLowRead (req : Requester) (width : Width) (addr : Offset)
  /-- READ_CLEAR (R17): A read of a register with RC fields returns their values and then clears them. -/
  | readClear (req : Requester) (width : Width) (addr : Offset)
  /-- PLL_ENABLE (R40): A write of 1 to TIM_CTRL.PLL_EN enables the PLL so that lock can follow. -/
  | pllEnable (req : Requester)
  /-- PLL_STOP (R674): A write of 0 to TIM_CTRL.PLL_EN either stops the clocks in order or is refused under R47. -/
  | pllStop (req : Requester)
  /-- PLL_LOCK (R45): The PLL reaches lock, so the CTRL clocks restart, CKA switches back, and the rules that wait for relock act. -/
  | pllLock (t : Dword)
  /-- LOSS_OF_LOCK (R42): Loss of lock is declared, so the fast clocks stop, CKA changes source and the lock detector forces the safe states. -/
  | lossOfLock (t : Dword) (refAbsent : Bool)
  /-- TS_SLEW (R54): A write to TIM_TS_ADJ with MODE = SLEW starts or replaces a slew of TS. -/
  | tsSlew (req : Requester) (offset : BitVec 16)
  /-- TS_STEP (R55): A write to TIM_TS_ADJ with MODE = STEP either adds OFFSET to TS at the next CKF edge or is refused. -/
  | tsStep (req : Requester) (offset : BitVec 16)
  /-- SLEW_STEP (R54): Every 256th CKF edge of a slew, TS advances by 2 or 0, and BUSY clears after the last step. -/
  | slewStep
  /-- CTRL_POWER_GOOD (R61): The CTRL island becomes good. -/
  | ctrlPowerGood (t : Dword)
  /-- CTRL_POWER_LOSS (R63): The CTRL island stops being good, so the clamps engage and every cell enters its safe state. -/
  | ctrlPowerLoss (t : Dword)
  /-- CELL_ISLAND_GOOD (R101): CELL_GOOD becomes 1, so mapped cells leave PARKED and cells held only by the island's loss leave their safe state. -/
  | cellIslandGood (t : Dword)
  /-- CELL_ISLAND_LOSS (R101): CELL_GOOD falls, so STANDBY and UNCOUPLED cells park and ACTIVE and TEST cells enter their safe state. -/
  | cellIslandLoss (t : Dword)
  /-- BLEND_FRAME_BOUNDARY (R76): A blend frame of 16 cell cycles ends, so a new ratio or blend applies, or a multi-step ratio change advances by one ratio. -/
  | blendFrameBoundary (c : CellIx)
  /-- WINDOW_CROSSING (R81): The tile voltage crosses an edge of the cell's window, so the cell boosts, runs normally or skips cycles. -/
  | windowCrossing (c : CellIx) (uv : Nat)
  /-- CELL_CURRENT_LIMIT (R86): The replica current reaches the cell's limit, so the cell lowers FCODE_EFF and sets ILIM and ILIM_SEEN. -/
  | cellCurrentLimit (c : CellIx) (r : LimitReading)
  /-- FOLDBACK (R88): EXQF reaches 7,680,000, so the cell sets FOLDBACK and lowers its limit to 0.36 A. -/
  | foldback (c : CellIx)
  /-- FOLDBACK_RECOVERY (R88): EXQF returns to 0, so the cell clears FOLDBACK and restores the 0.60 A limit. -/
  | foldbackRecovery (c : CellIx)
  /-- SENSOR_EXCLUSION (R94): A voltage sensor meets a RANGE, STUCK or DISAGREE run and is excluded from its tree, with a Caboose source and a doorbell. -/
  | sensorExclusion (c : CellIx) (j : Fin 4) (cause : Nat)
  /-- CELL_SNS_WRITE (R96): Software sets or clears CELL_SNS.EXCL bits, and each cleared bit also clears its cause and restarts the checks. -/
  | cellSnsWrite (req : Requester) (c : CellIx) (excl : BitVec 4)
  /-- NOP (R102): CELL_CMD OP 0x0 does nothing. -/
  | nop (req : Requester) (c : CellIx)
  /-- DEMOTE (R102): CELL_CMD DEMOTE moves an ACTIVE cell to STANDBY unless the healthy-cell floor forbids it. -/
  | demote (req : Requester) (c : CellIx)
  /-- JOIN (R102): CELL_CMD JOIN starts the pre-charge of a STANDBY cell of a live region towards ACTIVE. -/
  | join (req : Requester) (c : CellIx)
  /-- RECOUPLE (R102): CELL_CMD RECOUPLE starts the self-check of an uncoupled cell. -/
  | recouple (req : Requester) (c : CellIx)
  /-- ENTER_TEST (R102): CELL_CMD ENTER_TEST moves a PARKED cell to TEST. -/
  | enterTest (req : Requester) (c : CellIx)
  /-- EXIT_TEST (R102): CELL_CMD EXIT_TEST returns a TEST cell to PARKED. -/
  | exitTest (req : Requester) (c : CellIx)
  /-- UNCOUPLE (R102): CELL_CMD UNCOUPLE uncouples a STANDBY or ACTIVE cell with CAUSE = SOFTWARE. -/
  | uncouple (req : Requester) (c : CellIx)
  /-- CELL_CMD_RESERVED (R102): A reserved CELL_CMD OP completes with BAD_PARAM. -/
  | cellCmdReserved (req : Requester) (c : CellIx) (op : BitVec 4)
  /-- CELL_PRECHARGE_DONE (R99): A cell's 256-cycle pre-charge ends and it closes its output switch and becomes ACTIVE. -/
  | cellPrechargeDone (c : CellIx)
  /-- CELL_SELFCHECK_DONE (R102): A RECOUPLE self-check ends and the cell either returns to STANDBY with CAUSE = NONE or records SELFCHECK. -/
  | cellSelfcheckDone (c : CellIx) (pass : Bool)
  /-- CELL_FAILURE (R107): A cell failure is detected, so the cell uncouples, raises its source and doorbell, updates its neighbours and a spare joins. -/
  | cellFailure (t : Dword) (c : CellIx) (cause : Nat)
  /-- CELL_TEST_START (R116): A write of GO to CELL_TEST starts the selected test on a TEST cell. -/
  | cellTestStart (req : Requester) (c : CellIx) (value : Word)
  /-- CELL_TEST_DONE (R116): A cell test ends, so GO clears, DONE sets and the results are stored. -/
  | cellTestDone (c : CellIx) (resa : BitVec 13) (resb : TestB) (complete : Bool)
  /-- CELL_TEST_ABANDON (R117): A write of MODE = IDLE while a test runs abandons it with FAIL = 1. -/
  | cellTestAbandon (req : Requester) (c : CellIx) (value : Word)
  /-- CFG_COMMIT (R123): A write of 1 to RGN_CFG_CTRL.COMMIT starts a commit, which validates the whole shadow first. -/
  | cfgCommit (req : Requester) (value : Word)
  /-- COMMIT_VALIDATION_DONE (R124): Commit validation ends, so the commit either fails with BAD_PARAM or waits for a safe point. -/
  | commitValidationDone
  /-- COMMIT_SAFE_POINT (R126): At the safe point, every shadowed register is copied live and every cell receives its committed entry. -/
  | commitSafePoint (t : Dword)
  /-- SAFE_POINT_TIMEOUT (R125): No safe point comes within 1 ms, so the commit ends with BUSY and SAFE_POINT. -/
  | safePointTimeout (t : Dword)
  /-- CFG_REVERT (R128): A write of 1 to RGN_CFG_CTRL.REVERT starts copying every live value back into its shadow. -/
  | cfgRevert (req : Requester) (value : Word)
  /-- CFG_REVERT_DONE (R128): A revert completes and BUSY clears. -/
  | cfgRevertDone
  /-- RGN_VSET_WRITE (R129): A write to RGN_VSET stores a clamped code that becomes a profile target or takes effect at the next loop tick. -/
  | rgnVsetWrite (req : Requester) (n : RegionIx) (value : Word)
  /-- REGION_NOP (R133): RGN_CMD NOP completes with OK. -/
  | regionNop (req : Requester) (n : RegionIx)
  /-- ENABLE (R133): RGN_CMD ENABLE starts a ramp after the inrush check, queues a pending enable, or is refused. -/
  | enable (req : Requester) (n : RegionIx)
  /-- DISABLE (R133): RGN_CMD DISABLE starts the drain of a live region or clears a pending enable. -/
  | disable (req : Requester) (n : RegionIx)
  /-- CLEAR_FAULT (R133): RGN_CMD CLEAR_FAULT releases the region override and returns a FAULTED region to OFF. -/
  | clearFault (req : Requester) (n : RegionIx)
  /-- REGION_CMD_RESERVED (R133): A reserved RGN_CMD OP completes with BAD_PARAM. -/
  | regionCmdReserved (req : Requester) (n : RegionIx) (op : BitVec 4)
  /-- PENDING_ENABLE_EXECUTE (R136): A pending enable executes, or is discarded, at the first tick at which the region is OFF with no ACTIVE cell. -/
  | pendingEnableExecute (t : Dword) (n : RegionIx)
  /-- RAMP_END (R141): After 16 valid minima near the target, the region enters ON or LAME. -/
  | rampEnd (t : Dword) (n : RegionIx)
  /-- REGION_NO_RISE (R142): A NO_RISE window runs out during RAMPING, so the region enters FAULTED. -/
  | regionNoRise (t : Dword) (n : RegionIx)
  /-- REGION_SHORT (R142): A quarter of the ACTIVE cells are at their limit for 4 samples, so the region enters FAULTED with SHORT. -/
  | regionShort (t : Dword) (n : RegionIx)
  /-- REGION_BLIND (R148): The region tree is empty for 64 samples, so the region enters FAULTED with BLIND. -/
  | regionBlind (t : Dword) (n : RegionIx)
  /-- MINV_CLEAR (R154): A write of 1 to VSN_CTRL.CLR resets the region's recorded minimum. -/
  | minvClear (req : Requester) (n : RegionIx)
  /-- MINV_READ (R155): A read of VSN_MINV latches that value's time-stamp for the requester. -/
  | minvRead (req : Requester) (n : RegionIx)
  /-- START (R169): XPH_CMD START begins soft start when the preconditions hold. -/
  | start (req : Requester)
  /-- STOP (R169): XPH_CMD STOP idles every phase and turns the front stage OFF when no region is live. -/
  | stop (req : Requester)
  /-- CLEAR (R169): XPH_CMD CLEAR returns a LATCHED front stage to OFF once its cause is gone. -/
  | clear (req : Requester)
  /-- XPH_NOP (R169): XPH_CMD NOP completes with OK. -/
  | xphNop (req : Requester)
  /-- XPH_CMD_RESERVED (R169): A reserved XPH_CMD OP completes with BAD_PARAM. -/
  | xphCmdReserved (req : Requester) (op : BitVec 4)
  /-- SOFTSTART_REF_START (R171): 20 µs after START, the VIM reference starts from the present VIM and phases may be added. -/
  | softstartRefStart (t : Dword)
  /-- SOFTSTART_RAMP_STEP (R171): Each microsecond of soft start, the reference rises by SLOPE × 0.1 mV towards the set-point. -/
  | softstartRampStep (t : Dword)
  /-- SOFTSTART_END (R172): VIM stays within ±50 mV of the set-point for 10 µs, so the front stage enters RUN and sets PG. -/
  | softstartEnd (t : Dword)
  /-- XPH_NO_RISE (R173): VIM stays below the reference margin for NR_WIN µs in soft start, so the front stage latches. -/
  | xphNoRise (t : Dword)
  /-- XPH_UNDER_VOLTAGE (R197): VIM stays below the UV level for NR_WIN µs in RUN, so the front stage latches with UV. -/
  | xphUnderVoltage (t : Dword)
  /-- XPH_VSET_WRITE (R174): A write to XPH_VSET.CODE in RUN stores a clamped code and slews the reference towards it. -/
  | xphVsetWrite (req : Requester) (value : Word)
  /-- SENSE_POINT_EXCLUSION (R176): A VIM point disagrees with the median for 8 conversions and is excluded, and the stage latches when fewer than two remain. -/
  | sensePointExclusion (t : Dword) (k : Fin 4)
  /-- SENSE_POINT_INCLUDE (R176): A write of 1 to an EXCL bit of XPH_VIMPT re-includes the sense point. -/
  | sensePointInclude (req : Requester) (upper : Bool) (value : Word)
  /-- TRIGGER (R180): The comparator condition, blanking and ring readiness are met, so the next ring phase begins an on-time. -/
  | trigger (x : EdgeSense)
  /-- ON_TIME_END (R182): A phase's on-time ends and its PWM is driven low. -/
  | onTimeEnd (p : PhaseIx) (x : Nat)
  /-- CYCLE_LIMIT (R181): A phase current reaches ILIM during an on-time, which ends that on-time early. -/
  | cycleLimit (p : PhaseIx) (x : Nat)
  /-- ZERO_CURRENT (R182): Zero-current detection takes a phase's PWM to high-impedance, and a SHEDDING phase becomes SHED. -/
  | zeroCurrent (p : PhaseIx)
  /-- NEGATIVE_CURRENT_LIMIT (R182): A phase current falls to −NILIM, so its PWM goes high-impedance until the next on-time. -/
  | negativeCurrentLimit (p : PhaseIx)
  /-- SYNC_LOCK (R183): Eight consistent FS_SYNC_IN periods set SYNC_LOCK. -/
  | syncLock (t : Dword) (period : Nat)
  /-- SYNC_EDGE (R184): A rising edge of FS_SYNC_IN schedules the slot triggers of the ring phases. -/
  | syncEdge (x : Nat) (period : Nat)
  /-- SLOT_TRIGGER (R184): A phase's slot offset after the sync edge elapses, and the phase fires when it is ready. -/
  | slotTrigger (p : PhaseIx) (x : Nat)
  /-- FAST_TRIP (R185): VIM falls below the fast-trip level in SYNC, so the next ready phase fires at once. -/
  | fastTrip (x : EdgeSense)
  /-- SYNC_LOST (R186): A missing or out-of-range sync edge clears SYNC_LOCK and returns the stage to free triggering. -/
  | syncLost (t : Dword)
  /-- SHED_DWELL_EXPIRY (R188): N_req has stayed below N_act for DWELL µs, so the highest ACTIVE phase becomes SHEDDING. -/
  | shedDwellExpiry (t : Dword)
  /-- LOAD_STEP (R189): ISEA rises by STEP_TH within 160 ns, so a hold starts and any shed in progress is cancelled. -/
  | loadStep (t : Dword)
  /-- STEP_HOLD_END (R189): The hold after a load step ends and phase shedding may resume. -/
  | stepHoldEnd (t : Dword)
  /-- RETURN_PHASE_FIRE (R191): A phase returned by a cancelled shed or a forecast add fires its first on-time once blanking and readiness allow. -/
  | returnPhaseFire (x : Nat)
  /-- OVER_VOLTAGE (R192): A VIM over-voltage comparator trips, so the front stage enters CROWBAR and raises its fatal source. -/
  | overVoltage (t : Dword) (k : Fin 4)
  /-- CROWBAR_RELEASE (R194): Every point stays below REL for 1 µs, so the crowbar releases and the front stage latches with OV. -/
  | crowbarRelease (t : Dword)
  /-- PHASE_OVER_CURRENT (R195): FS_IMON reaches OCP, so the phase latches, and a fourth such latch within 10 µs latches the stage with MULTI_OC. -/
  | phaseOverCurrent (t : Dword) (p : PhaseIx)
  /-- PHASE_ENABLE_WRITE (R166): A write to XPH_PH_CFG.EN sheds, disables or brings back a phase. -/
  | phaseEnableWrite (req : Requester) (p : PhaseIx) (value : Word)
  /-- PHASE_CLEAR (R199): A write of 1 to XPH_PH_CTRL.CLR clears a phase latch once its cause is gone. -/
  | phaseClear (req : Requester) (p : PhaseIx)
  /-- BASE_TICK (R206): floor(TS / 100) changes, so profile generators step, loop outputs apply, a pending LPE commit applies and loops sample, and the per-tick work of the other blocks runs. -/
  | baseTick (t : Dword) (x : TickSamples)
  /-- LPE_COMMIT (R210): A write of 1 to LPE_CTRL.COMMIT starts validation of every shadow header. -/
  | lpeCommit (req : Requester) (value : Word)
  /-- LPE_VALIDATION_DONE (R211): LPE validation ends, so the commit either fails or waits for the next base tick to replace the live headers. -/
  | lpeValidationDone (t : Dword)
  /-- LPE_REVERT (R213): A write of 1 to LPE_CTRL.REVERT starts copying the live headers back into memory. -/
  | lpeRevert (req : Requester) (value : Word)
  /-- LPE_REVERT_DONE (R213): An LPE revert completes and BUSY clears. -/
  | lpeRevertDone (t : Dword)
  /-- LPE_INIT_DONE (R217): LPE memory initialisation after reset completes and INIT_DONE sets. -/
  | lpeInitDone (t : Dword)
  /-- LPE_STATE_WRITE (R216): A write to a loop state word is accepted only while the loop is held or disabled. -/
  | lpeStateWrite (req : Requester) (addr : Offset) (value : Word)
  /-- LPE_ENABLE_WRITE (R251): A write to LPE_CTRL.EN starts or stops loop computation, and stopping discards pending outputs. -/
  | lpeEnableWrite (req : Requester) (value : Word)
  /-- PG_TARGET_WRITE (R241): A write to PG_TGT of an unbound generator redirects its move. -/
  | pgTargetWrite (req : Requester) (j : Fin 16) (value : Word)
  /-- TRC_ARM (R246): A write of 1 to TRC_CTRL.ARM arms the trace and resets its pointers. -/
  | trcArm (req : Requester)
  /-- TRC_STOP (R246): A write of 1 to TRC_CTRL.STOP returns the trace to IDLE and keeps the buffer. -/
  | trcStop (req : Requester)
  /-- TRC_SWTRIG (R247): A write of 1 to TRC_CTRL.SWTRIG fires the trigger while the trace is ARMED. -/
  | trcSwtrig (req : Requester)
  /-- TRACE_TIMED_TRIGGER (R247): TS reaches TRC_TTS while ARMED with SRC = TIMED, so the trigger fires. -/
  | traceTimedTrigger (t : Dword)
  /-- MARKER (R260): A schedule marker is accepted at the port and queued, counted as free, or dropped when the queue is full. -/
  | marker (t : Dword) (cp : Fin 16) (marker : BitVec 16)
  /-- MARKER_HANDLE (R265): A forecast marker taken from the queue activates a group, skips one, resynchronises, or sends the path to LOST. -/
  | markerHandle (t : Dword) (lag : Fin 5)
  /-- FORECAST_ARM (R264): A write of 1 to TTB_CTRL.ARM withdraws every action and starts SCAN, or is refused during a DMA transfer. -/
  | forecastArm (req : Requester)
  /-- FORECAST_STOP (R264): A write of 1 to TTB_CTRL.STOP returns the path to IDLE and withdraws every action. -/
  | forecastStop (req : Requester)
  /-- RESCAN (R270): A write of 1 to TTB_CTRL.RESCAN starts a rebuild of the sync directory. -/
  | rescan (req : Requester)
  /-- DIRECTORY_BUILD_DONE (R270): A directory build ends, so the new directory replaces the old one and SCAN moves to TRACKING. -/
  | directoryBuildDone (t : Dword)
  /-- TTB_DMA_START (R285): A write of 1 to TTB_DMA_CTRL.GO starts a Timetable transfer or ends it at once with BAD_PARAM. -/
  | ttbDmaStart (req : Requester)
  /-- TTB_DMA_ENTRY_WRITE (R286): A transferred entry is written to the Timetable once its index is outside the live span. -/
  | ttbDmaEntryWrite (t : Dword) (w0 w1 w2 w3 : Word)
  /-- TTB_DMA_DONE (R285): A Timetable transfer ends with OK or INTERNAL, and a directory rebuild starts. -/
  | ttbDmaDone (t : Dword) (ok : Bool)
  /-- TIMETABLE_WRITE (R286): A register-window write to a Timetable entry is ignored when it falls in the live span. -/
  | timetableWrite (req : Requester) (idx : BitVec 16) (w : Fin 4) (value : Word)
  /-- TTB_INIT_DONE (R288): The zeroing of the Timetable after reset completes and INIT_DONE sets. -/
  | ttbInitDone (t : Dword)
  /-- OUTRIDER_RUN_TICK (R303): A run tick publishes the previous run and samples the inputs for the next one. -/
  | outriderRunTick (t : Dword)
  /-- OUTRIDER_START (R312): A write of 1 to OUT_CTL.START begins validation or ends at once with NOT_READY or BUSY. -/
  | outriderStart (req : Requester) (value : Word)
  /-- OUTRIDER_VALIDATION_DONE (R312): START validation ends, so Outrider either runs or reports BAD_PARAM. -/
  | outriderValidationDone (t : Dword)
  /-- OUTRIDER_STOP (R311): A write of 1 to OUT_CTL.STOP returns Outrider to IDLE and publishes the zero set. -/
  | outriderStop (req : Requester) (value : Word)
  /-- OUTRIDER_CLEAR (R311): A write of 1 to OUT_CTL.CLEAR returns Outrider from ERROR to IDLE. -/
  | outriderClear (req : Requester) (value : Word)
  /-- OUTRIDER_ERROR (R314): An uncorrectable error during a run abandons it, publishes the zero set and enters ERROR. -/
  | outriderError (t : Dword)
  /-- OUTRIDER_DMA_START (R309): A write of 1 to OUT_DMA_CTRL.GO starts a weight transfer or ends it at once. -/
  | outriderDmaStart (req : Requester)
  /-- OUTRIDER_DMA_DONE (R309): A weight transfer ends with OK or INTERNAL. -/
  | outriderDmaDone (t : Dword) (words : List Word) (ok : Bool)
  /-- OUTRIDER_INIT_DONE (R315): Outrider memory initialisation completes and INIT_DONE sets. -/
  | outriderInitDone (t : Dword)
  /-- SKID_TRIP (R322): A delivered minimum below the effective trip level deepens the region's stretch depth. -/
  | skidTrip (t : Dword) (n : RegionIx) (v : Minimum) (cnt : Nat)
  /-- SKID_RELEASE_STEP (R323): RELCNT reaches RELHOLD, so the stretch depth falls by one. -/
  | skidReleaseStep (t : Dword) (n : RegionIx) (v : Minimum) (cnt : Nat)
  /-- SKID_WINDOW_END (R332): A duty window ends, and LEVEL falls by one when the window was quiet. -/
  | skidWindowEnd (t : Dword) (n : RegionIx)
  /-- SKID_ESCALATE (R331): The duty count exceeds its threshold in a window, so LEVEL rises and the Reins request follows. -/
  | skidEscalate (t : Dword) (n : RegionIx)
  /-- SKID_ESC_WRITE (R331): A write to SKID_ESC applies new escalation parameters and may lower LEVEL to the new LCAP. -/
  | skidEscWrite (req : Requester) (n : RegionIx) (value : Word)
  /-- SKID_WIN_WRITE (R330): A write to SKID_WIN.WIN changes the window length from the next boundary of the new length. -/
  | skidWinWrite (req : Requester) (n : RegionIx) (value : Word)
  /-- SKID_FORCE_WRITE (R324): A write to SKID_FORCE sets a forced stretch depth that drives the lines from the next decision. -/
  | skidForceWrite (req : Requester) (n : RegionIx) (value : Word)
  /-- GROUP_IDLE (R345): An engine group issues no program operation for IDLE_WIN cycles and becomes fillable. -/
  | groupIdle (t : Dword) (g : GroupIx)
  /-- OP_ENABLE (R360): A write changing PWR_CTRL.OP_EN from 0 to 1 starts validation of the operating-point tables. -/
  | opEnable (req : Requester) (value : Word)
  /-- OP_VALIDATION_DONE (R360): Operating-point validation ends, so point selection either starts or OP_ERR is set. -/
  | opValidationDone (t : Dword)
  /-- MOVE_UP_COMPLETE (R364): The new voltage is reached, so the frequency request is raised and the point in force changes. -/
  | moveUpComplete (t : Dword) (n : RegionIx)
  /-- FREQ_ACK (R365): The host clock service writes PWR_FREQ.ACK, which completes a pending move down. -/
  | freqAck (req : Requester) (n : RegionIx) (value : Word)
  /-- FREQ_ACK_TIMEOUT (R367): A move down waits TO µs without acknowledgement, which sets FTO. -/
  | freqAckTimeout (t : Dword) (n : RegionIx)
  /-- POWER_ESTIMATE (R372): Every 1 µs, the power estimate of each live region and the Waybill weights are formed. -/
  | powerEstimate (t : Dword)
  /-- CALIBRATION_SNAPSHOT (R375): Every 10 ms, the calibration totals are copied into PWR_CS and CAL is set. -/
  | calibrationSnapshot (t : Dword)
  /-- COEFF_COMMIT (R376): A write of 1 to PWR_CAL.COMMIT requests that the coefficient shadows be copied live. -/
  | coeffCommit (req : Requester) (value : Word)
  /-- COEFF_COMMIT_APPLY (R376): At the next TS multiple of 800, the shadows are copied live and CALGEN increments. -/
  | coeffCommitApply (t : Dword)
  /-- CAP_WINDOW_BOUNDARY (R382): At each 100 µs boundary, M is latched, the share is reported and the cap stepper acts. -/
  | capWindowBoundary (t : Dword)
  /-- SHARE_REPORT (R380): Instance 0 receives an instance's M over the sideband. -/
  | shareReport (t : Dword) (k : Fin 4) (m : BitVec 16)
  /-- SHARE_COMPUTE (R380): Instance 0 computes and sends the four shares, taking S for a missing report. -/
  | shareCompute (t : Dword)
  /-- SHARE_RECEIVE (R380): An instance 1..3 receives its share and the mirrored P_PKG. -/
  | shareReceive (t : Dword) (share cap : BitVec 16) (pkg bmc : Word) (envEn : Bool) (pg : Fin 16)
  /-- WAYBILL_INTERVAL_END (R390): A Waybill interval ends, so energy is divided among slots, totals accumulate, records are written and shadows take effect. -/
  | waybillIntervalEnd (t : Dword) (fail : Option (Fin 16))
  /-- GET_POLICY (R394): Opcode 0x0200 returns the policy registers. -/
  | getPolicy (m : YMsg)
  /-- SET_PKG_CAP (R394): Opcode 0x0201 writes PWR_PKG. -/
  | setPkgCap (m : YMsg)
  /-- SET_OP (R394): Opcode 0x0202 writes an operating point. -/
  | setOp (m : YMsg)
  /-- SET_LEG_PREF (R394): Opcode 0x0203 writes a leg preference. -/
  | setLegPref (m : YMsg)
  /-- SET_MODE (R394): Opcode 0x0204 writes PWR_CTRL. -/
  | setMode (m : YMsg)
  /-- GET_REGION (R394): Opcode 0x0205 returns a region's policy state. -/
  | getRegion (m : YMsg)
  /-- EPOCH_BOUNDARY (R410): A new epoch starts, so heartbeats and SYNC are sent, absences are judged, emergency caps expire and the envelope target and trim update. -/
  | epochBoundary (t : Dword)
  /-- EPOCH_PULSE (R408): An instance 1..3 receives the epoch pulse, computes its offset and corrects TS. -/
  | epochPulse (t : Dword)
  /-- LINK_UP (R400): The host link layer reports a route up, which starts the training of an endpoint. -/
  | linkUp (t : Dword) (e : Fin 17)
  /-- HELLO (R401): A HELLO message is received from a peer. -/
  | hello (t : Dword) (e : Fin 20)
  /-- HB (R402): A heartbeat is received, which resets the miss count and may return an absent peer. -/
  | hb (t : Dword) (e : Fin 20)
  /-- SYNC (R406): A child receives SYNC, records t2 and answers with SYNC_RSP. -/
  | sync (t : Dword) (e : Fin 20) (t1 : Dword) (turn : Nat)
  /-- SYNC_RSP (R406): A parent receives SYNC_RSP, records t4 and sends SYNC_FIN. -/
  | syncRsp (t : Dword) (e : Fin 20)
  /-- SYNC_FIN (R407): A child receives SYNC_FIN, computes θ and writes TIM_TS_ADJ. -/
  | syncFin (t : Dword) (e : Fin 20) (t4 : Dword)
  /-- ENV (R412): An envelope point is received, entered in the pending table and forwarded. -/
  | env (t : Dword) (e : Fin 20) (epoch : Word) (frac : BitVec 16) (fleet : Bool)
  /-- EMCAP_MESSAGE (R423): An EMCAP message updates the emergency table and is forwarded. -/
  | emcapMessage (t : Dword) (e : Fin 20) (issuer : BitVec 17) (sq : BitVec 16) (rate : BitVec 8) (expire : Word)
  /-- CONOTE (R419): A CONOTE updates the aggregation table, and is sent upward or turned into a COCAP at the root. -/
  | conote (t : Dword) (e : Fin 20) (gid : BitVec 16) (rate : BitVec 8)
  /-- COCAP (R421): A COCAP is entered in the slot's pending list or applied late, and is forwarded down. -/
  | cocap (t : Dword) (e : Fin 20) (gid : BitVec 16) (rate : BitVec 8) (epoch : Word)
  /-- RWRITE (R426): A remote write is accepted and lands, or is rejected. -/
  | rwrite (t : Dword) (peer : BitVec 17) (win be : BitVec 8) (commit : Bool) (sq : BitVec 16) (lo hi off : Word)
  /-- RESERVED_KIND (R401): A message of reserved KIND is discarded and counted. -/
  | reservedKind (t : Dword) (e : Fin 20)
  /-- ENV_ISSUE (R411): A write of CPLR_ENV_ISSUE at the root issues an envelope point. -/
  | envIssue (req : Requester) (value : Word)
  /-- ENV_POINT_CURRENT (R412): TS reaches a pending point's epoch and the point becomes current. -/
  | envPointCurrent (t : Dword)
  /-- ENV_WINDOW_END (R415): A 100 ms envelope window ends and its error is reported. -/
  | envWindowEnd (t : Dword)
  /-- COCAP_ADOPT (R421): TS reaches the epoch of a pending COCAP pair, and GRATE takes its rate. -/
  | cocapAdopt (t : Dword)
  /-- EMCAP_ISSUE (R422): A write of CPLR_EM_ISSUE applies an emergency cap locally and sends it to the subtree. -/
  | emcapIssue (req : Requester) (value : Word)
  /-- RWRITE_SEND (R425): CPLR_TX CMD.SEND queues a remote write. -/
  | rwriteSend (req : Requester) (q : Fin 12)
  /-- RWRITE_COMMIT_SEND (R425): CPLR_TX CMD.COMMIT queues a remote write with COMMIT set. -/
  | rwriteCommitSend (req : Requester) (q : Fin 12)
  /-- RWRITE_COMMIT_LAND (R427): A held COMMIT lands once its earlier writes have landed, queues a completion record, closes the window and may post a peer mailbox. -/
  | rwriteCommitLand (t : Dword) (peer : BitVec 17) (win : BitVec 8)
  /-- RWRITE_COMMIT_TIMEOUT (R428): A held COMMIT lands incomplete after CPLR_RW_TO. -/
  | rwriteCommitTimeout (t : Dword) (peer : BitVec 17) (win : BitVec 8)
  /-- RWRITE_WINDOW_IDLE (R428): An open window that receives nothing for 10 ms is closed without a record. -/
  | rwriteWindowIdle (t : Dword) (peer : BitVec 17) (win : BitVec 8)
  /-- COMPLETION_READ (R427): A read of CPLR_RXC0 returns and removes the oldest completion record. -/
  | completionRead (req : Requester)
  /-- COUPLER_ENABLE (R431): A write of CPLR_CTRL.EN from 0 to 1 checks the endpoint configuration, and is refused when it is wrong. -/
  | couplerEnable (req : Requester) (value : Word)
  /-- GET_COUPLER (R430): Opcode 0x0400 returns the Coupler state. -/
  | getCoupler (m : YMsg)
  /-- SET_TREE (R430): Opcode 0x0401 reconfigures the tree and re-enables Coupler. -/
  | setTree (m : YMsg)
  /-- SET_GROUP (R430): Opcode 0x0402 writes a group slot. -/
  | setGroup (m : YMsg)
  /-- ENV_POINT (R430): Opcode 0x0403 issues an envelope point at the root. -/
  | envPoint (m : YMsg)
  /-- SET_ENV (R430): Opcode 0x0404 writes the envelope reference and trim. -/
  | setEnv (m : YMsg)
  /-- EMCAP (R430): Opcode 0x0405 issues an emergency cap. -/
  | emcap (m : YMsg)
  /-- GET_GROUP (R430): Opcode 0x0406 returns a group slot. -/
  | getGroup (m : YMsg)
  /-- CONVERSION_COMPLETE (R432): A converter slot's result is written at the base tick, and the readings, checks, comparators and front-stage conversions that use it update. -/
  | conversionComplete (t : Dword) (k : Fin 4) (raw : BitVec 14)
  /-- URGENT_REQUEST (R445): A write to SNS_URG queues an urgent conversion, or is refused. -/
  | urgentRequest (req : Requester) (k : Fin 4) (ch : BitVec 6)
  /-- SNS_REF_WRITE (R440): A write that changes REF or VEXT clears SETTLED. -/
  | snsRefWrite (req : Requester) (k : Fin 4) (value : Word)
  /-- REF_SETTLED (R441): The settling time ends, so SETTLED sets and results become valid again. -/
  | refSettled (t : Dword) (k : Fin 4)
  /-- PAIR_FAIL (R450): A converter pair disagrees for NFAIL check periods, so blame is assigned and results are invalidated. -/
  | pairFail (t : Dword) (pair : Fin 2)
  /-- PAIR_RECOVER (R450): A failed pair agrees for NFAIL check periods and recovers. -/
  | pairRecover (t : Dword) (pair : Fin 2)
  /-- WINDOW_EXIT (R454): FILT results lie outside a comparator's band, so it goes OUT and reports. -/
  | windowExit (t : Dword) (w : Fin 64)
  /-- WINDOW_REENTRY (R453): FILT results lie within the hysteresis band, so the comparator returns IN. -/
  | windowReentry (t : Dword) (w : Fin 64)
  /-- WINDOW_DUTY_END (R455): A comparator duty window ends and its count is copied to DUTY. -/
  | windowDutyEnd (t : Dword) (w : Fin 64)
  /-- WINDOW_CONFIG_WRITE (R456): A write to SNS_WC_CFG or SNS_WC_BAND resets the comparator to IN. -/
  | windowConfigWrite (req : Requester) (w : Fin 64) (band : Bool) (value : Word)
  /-- SNS_PT_CTL_WRITE (R668): A write to SNS_PT_CTL applies or removes the test current on a ball, or is ignored. -/
  | snsPtCtlWrite (req : Requester) (value : Word)
  /-- THERMAL_GUARD (R461): A guard window boundary demands a sweep of every group. -/
  | thermalGuard (t : Dword)
  /-- THERMAL_DEMAND (R461): A write to THM_DEM demands sweeps of the groups written as 1. -/
  | thermalDemand (req : Requester) (hi : Bool) (value : Word)
  /-- THERMAL_MEASUREMENT (R460): A sensor measurement ends and writes THM_S. -/
  | thermalMeasurement (t : Dword) (q : GroupIx) (count : Option (BitVec 32 × BitVec 16))
  /-- SWEEP_END (R466): A group sweep ends, so exclusions apply, the group is evaluated and thermal state changes follow. -/
  | sweepEnd (t : Dword) (q : GroupIx)
  /-- THERMAL_SENSOR_EXCL_WRITE (R465): Software sets or clears THM_SCTL.EXCL, and clearing also clears XCAUSE. -/
  | thermalSensorExclWrite (req : Requester) (x : Fin 512) (value : Word)
  /-- DIE_DRAINED (R472): No program operation issues for 1,024 cycles in SHUTDOWN, so every live region is disabled. -/
  | dieDrained (t : Dword)
  /-- THERMAL_DOWN (R472): Every region is OFF or FAULTED in SHUTDOWN, so the front stage stops and the state becomes DOWN. -/
  | thermalDown (t : Dword)
  /-- THERMAL_HARD_TIMEOUT (R473): 2 ms pass in SHUTDOWN, so the state becomes HARD and a fatal source is raised. -/
  | thermalHardTimeout (t : Dword)
  /-- THERMAL_CLEAR (R476): A write of 1 to THM_CTRL.CLR returns the state from DOWN or HARD to RUN, or is refused. -/
  | thermalClear (req : Requester) (value : Word)
  /-- FAULT_LATCH (R480): A Caboose pin is asserted, so its status bit latches, the record opens or merges, interrupts follow and a fatal source brings the override. -/
  | faultLatch (t : Dword)
  /-- STATUS_CLEAR (R486): A write of 1s to CBSE_STATUS clears bits whose pins are deasserted, which may close the record and end the override. -/
  | statusClear (req : Requester) (hi : Bool) (value : Word)
  /-- FORCE_WRITE (R492): A write to CBSE_FORCE asserts or releases forced source pins. -/
  | forceWrite (req : Requester) (hi : Bool) (value : Word)
  /-- MEMORY_CORRECTED_ERROR (R495): A read finds a correctable error, so the corrected data is used and written back and MEM_CE latches. -/
  | memoryCorrectedError (t : Dword) (m : MemIx) (off : BitVec 20)
  /-- MEMORY_UNCORRECTABLE_ERROR (R495): A read finds an uncorrectable error, so it returns an error response and the memory's source latches. -/
  | memoryUncorrectableError (t : Dword) (m : MemIx) (off : BitVec 20) (fabric : Bool)
  /-- SCRUB_READ (R497): A memory's scrubber reads its next word after INT cycles. -/
  | scrubRead (t : Dword) (m : MemIx) (found : Fin 3)
  /-- FREEZE_LOCAL (R508): A write of 1 to TLM_FRZ_CTRL.LOCAL captures at the next edge, or is refused while busy. -/
  | freezeLocal (req : Requester) (value : Word)
  /-- FREEZE_ARM (R508): A write of 1 to TLM_FRZ_CTRL.ARM arms a timed capture. -/
  | freezeArm (req : Requester) (value : Word)
  /-- FREEZE_DISARM (R508): A write of 1 to TLM_FRZ_CTRL.DISARM cancels the armed capture. -/
  | freezeDisarm (req : Requester) (value : Word)
  /-- FREEZE_TIMED_CAPTURE (R509): TS reaches TLM_FRZ_AT, so the capture takes place, or it is missed while busy. -/
  | freezeTimedCapture (t : Dword)
  /-- FREEZE_UNLOAD_DONE (R511): The unload of the 80 tiles ends, and an export starts when one was requested. -/
  | freezeUnloadDone (t : Dword)
  /-- RING_EXPORT_DONE (R516): The copy of the selected tiles into the host ring ends. -/
  | ringExportDone (t : Dword) (fail : Option (Fin 80 × Fin 1024))
  /-- TRACE_EXPORT_START (R518): A write of GO, or the trace reaching DONE with AUTO set, starts a trace export. -/
  | traceExportStart (req : Requester) (value : Word)
  /-- TRACE_EXPORT_DONE (R518): A trace export ends with its RES, and a deferred trace ARM takes effect. -/
  | traceExportDone (t : Dword) (fail : Option (BitVec 19))
  /-- AGE_WINDOW_END (R520): A 65,536-edge ageing window ends and RHO and SDRIFT update. -/
  | ageWindowEnd (t : Dword) (ties : List (Fin 4))
  /-- EOL_WRITE (R525): A write to an EOL word that falls below ALARM latches AGE_EOL and writes the AGE doorbell. -/
  | eolWrite (req : Requester) (region : Bool) (ix : CellIx) (value : Word)
  /-- IMAGE_VERIFIED (R537): The image is found valid, so it is pushed to instances 1..3 and the cores are released, or the other slot is tried. -/
  | imageVerified (t : Dword)
  /-- IMAGE_PUSH (R539): An instance 1..3 receives the pushed image, verifies it and releases its cores, or reports failure. -/
  | imagePush (t : Dword) (slot trial : Bool) (image : List (BitVec 8))
  /-- FIRMWARE_RESET (R542): The eleven cores are held, their memories zeroed and the boot runs again. -/
  | firmwareReset (t : Dword)
  /-- GET_FW (R543): Opcode 0x0600 returns the firmware state. -/
  | getFw (m : YMsg)
  /-- STAGE_BEGIN (R543): Opcode 0x0601 erases the staged slot. -/
  | stageBegin (m : YMsg)
  /-- STAGE_DATA (R543): Opcode 0x0602 copies host memory into the staged slot. -/
  | stageData (m : YMsg) (data : Option (List (BitVec 8)))
  /-- STAGE_END (R543): Opcode 0x0603 checks the staged image. -/
  | stageEnd (m : YMsg)
  /-- ACTIVATE (R544): Opcode 0x0604 sets an activation pending, deferred while Class 0 conditions stand. -/
  | activate (m : YMsg)
  /-- CANCEL (R543): Opcode 0x0605 withdraws a pending activation. -/
  | cancel (m : YMsg)
  /-- CONFIRM (R547): Opcode 0x0606 ends a trial and blows anti-rollback fuses. -/
  | confirm (m : YMsg)
  /-- HEARTBEAT (R550): Opcode 0x0607 writes FW_HOST_KICK. -/
  | heartbeat (m : YMsg)
  /-- ACTIVATION_START (R546): The quiet period ends with activation pending, so the directory is written and firmware resets follow. -/
  | activationStart (t : Dword)
  /-- WATCHDOG_KICK (R549): Core i writes FW_KICK and restarts its watchdog. -/
  | watchdogKick (t : Dword) (req : Requester) (core : CoreIx)
  /-- WATCHDOG_EXPIRY (R549): A core watchdog expires, so the core is held and reloaded, or the instance takes a firmware reset. -/
  | watchdogExpiry (t : Dword) (core : CoreIx)
  /-- CORE_RELOAD_DONE (R549): SEC finishes reloading a core's sections and releases it. -/
  | coreReloadDone (t : Dword) (core : CoreIx)
  /-- HOST_KICK (R550): A write to FW_HOST_KICK kicks the host heartbeat and clears HOST_LOST. -/
  | hostKick (req : Requester) (value : Word)
  /-- HOST_PERIOD_END (R550): A host period ends, and HOST_LOST is set after three periods without a kick. -/
  | hostPeriodEnd (t : Dword)
  /-- FW_HEARTBEAT_STALE (R550): 3 ms pass without an SCH write to FW_HB, so FW_OK clears. -/
  | fwHeartbeatStale (t : Dword)
  /-- HALT (R552): DBG_CTRL.HALT stops the core at an instruction boundary. -/
  | halt (req : Requester) (core : CoreIx) (pc : Word)
  /-- RESUME (R552): DBG_CTRL.RESUME releases a halted core. -/
  | resume (req : Requester) (core : CoreIx)
  /-- STEP (R552): DBG_CTRL.STEP executes one instruction and halts. -/
  | step (req : Requester) (core : CoreIx) (pc : Word)
  /-- VL_FREL (R562): A release instruction orders the core's earlier accesses before its later ones within the scope. -/
  | vlFrel (t : Dword) (core : CoreIx) (scope : Fin 4)
  /-- VL_FACQ (R563): An acquire instruction orders later accesses after earlier loads, and for INST or SYS it invalidates the group cache. -/
  | vlFacq (t : Dword) (core : CoreIx) (scope : Fin 4)
  /-- VL_FFULL (R564): A full-fence instruction performs a release and then an acquire of the scope. -/
  | vlFfull (t : Dword) (core : CoreIx) (scope : Fin 4)
  /-- FENCE (R568): A standard FENCE orders the core's accesses with scope GRP. -/
  | fence (t : Dword) (core : CoreIx) (storesFirst : Bool)
  /-- ATOMIC (R569): An AMO or LR/SC access is performed at the commons or in local memory, or faults. -/
  | atomic (t : Dword) (core : CoreIx) (op : AmoOp) (addr value : Word) (aq rl : Bool)
  /-- RESERVATION_EXPIRY (R570): An LR reservation is lost 256 cycles after the LR. -/
  | reservationExpiry (t : Dword) (core : CoreIx)
  /-- DIRTY_WRITE_BACK (R558): A dirty byte of a group cache is written back to the commons within 20 µs. -/
  | dirtyWriteBack (t : Dword) (group : Fin 3) (addr : Word)
  /-- TS_CSR_READ (R531): A read of CSR 0xFC0 returns TS bits 31:0 and latches bits 63:32. -/
  | tsCsrRead (t : Dword) (core : CoreIx) (high : Bool)
  /-- CLAIM (R590): A read of CSR 0xFC2 claims the top source bound to the core. -/
  | claim (t : Dword) (core : CoreIx)
  /-- COMPLETE (R591): A write to CSR 0xFC3 completes an active source. -/
  | complete (t : Dword) (core : CoreIx) (value : Word)
  /-- DOORBELL (R583): A doorbell is accepted, so the source becomes pending or is merged, coalesced or discarded. -/
  | doorbell (t : Dword) (write : Option (Requester × BitVec 16))
  /-- SOURCE_BIND (R587): A deliverable source is bound to the most eligible core or to the host, with an MSI for the host. -/
  | sourceBind (t : Dword) (n : SourceIx)
  /-- COALESCE_RELEASE (R595): A coalescing group reaches CNT or TIME and releases its held sources. -/
  | coalesceRelease (t : Dword) (c : Fin 16)
  /-- HOST_CLAIM (R594): A read of PST_HOST_CLAIM claims the top host-bound source. -/
  | hostClaim (t : Dword)
  /-- SOURCE_MASK (R598): A write of EN = 0 to a bound source opens a mask window. -/
  | sourceMask (req : Requester) (n : SourceIx) (value : Word)
  /-- MASK_WINDOW_END (R598): A mask window ends, which unbinds a still-bound source. -/
  | maskWindowEnd (t : Dword) (n : SourceIx)
  /-- SOURCE_PEND_CLEAR (R599): A write of 1 to PST_SRC_STAT.PEND clears PEND, HELD and BOUND at once. -/
  | sourcePendClear (req : Requester) (n : SourceIx) (value : Word)
  /-- GLOBAL_DISABLE (R597): A write to PST_CTRL.GDIS stops or resumes the binding of sources that are not Class 0. -/
  | globalDisable (req : Requester) (value : Word)
  /-- EDGE_CAUGHT (R603): An edge latch catches an edge, which writes its doorbell or is held, and may set PLL_EN. -/
  | edgeCaught (t : Dword) (e : Fin 32) (rising : Bool)
  /-- CHANNEL_CLAIM (R607): A read of MCH_CH_CLAIM claims an empty enabled channel. -/
  | channelClaim (t : Dword) (req : Requester) (c : Fin 32)
  /-- POST (R609): MCH_CH_CTL POST by the owner makes the channel FULL and signals its receiver. -/
  | post (t : Dword) (req : Requester) (c : Fin 32) (esrc : BitVec 10)
  /-- TAKE (R610): MCH_CH_CTL TAKE by the receiver empties the channel and writes the empty doorbell. -/
  | take (req : Requester) (c : Fin 32)
  /-- ABANDON (R606): MCH_CH_CTL ABANDON by the owner returns the channel to EMPTY. -/
  | abandon (req : Requester) (c : Fin 32)
  /-- FILL_TIMEOUT (R608): A channel FILLING for FILL_TO µs returns to EMPTY. -/
  | fillTimeout (t : Dword) (c : Fin 32)
  /-- CHANNEL_CONFIG_WRITE (R611): A write to MCH_CH_CFG is accepted only while the channel is EMPTY. -/
  | channelConfigWrite (req : Requester) (c : Fin 32) (value : Word)
  /-- SLOT_WRITE (R608): A write to a slot word is accepted only from the owner of a FILLING channel. -/
  | slotWrite (req : Requester) (c : Fin 32) (w : Fin 16) (value : Word)
  /-- DBEN_WRITE (R612): A write of 1 to an MCH_DBEN bit whose doorbell bit is set writes that channel's doorbell. -/
  | dbenWrite (req : Requester) (r : Fin 12) (value : Word)
  /-- YUTRE_UNKNOWN_OPCODE (R620): A command with an undefined opcode is answered with BAD_OPCODE. -/
  | yutreUnknownOpcode (m : YMsg) (op : BitVec 16)
  /-- GET_VERSION (R624): Opcode 0x0100 returns the versions. -/
  | getVersion (m : YMsg)
  /-- GET_STATUS (R624): Opcode 0x0101 returns the status registers. -/
  | getStatus (m : YMsg)
  /-- READ_REG (R624): Opcode 0x0102 reads up to 12 register words. -/
  | readReg (m : YMsg)
  /-- WRITE_REG (R624): Opcode 0x0103 makes one register write by SCH. -/
  | writeReg (m : YMsg)
  /-- REGION_CMD (R624): Opcode 0x0104 writes RGN_CMD and waits for it to complete. -/
  | regionCmd (m : YMsg)
  /-- FRONT_CMD (R624): Opcode 0x0105 writes XPH_CMD and waits for it to complete. -/
  | frontCmd (m : YMsg)
  /-- CONFIG (R624): Opcode 0x0106 writes configuration pairs and optionally commits. -/
  | config (m : YMsg)
  /-- LOAD_PROGRAM (R624): Opcode 0x0300 stops the path, loads the Timetable, sets the range and optionally arms. -/
  | loadProgram (m : YMsg) (data : List Word) (ok : Bool)
  /-- LOAD_RSET (R624): Opcode 0x0301 loads region-set masks. -/
  | loadRset (m : YMsg) (data : Option (List Word))
  /-- LOAD_WEIGHTS (R625): Opcode 0x0302 loads an Outrider weight-set image and optionally starts Outrider. -/
  | loadWeights (m : YMsg) (data : Option (List Word))
  /-- FORECAST_CTL (R624): Opcode 0x0303 writes forecast configuration and performs an op. -/
  | forecastCtl (m : YMsg)
  /-- GET_FORECAST (R624): Opcode 0x0304 returns the forecast state. -/
  | getForecast (m : YMsg)
  /-- SET_JOB (R624): Opcode 0x0500 writes a Waybill slot tag. -/
  | setJob (m : YMsg)
  /-- SET_GROUPS (R624): Opcode 0x0501 assigns engine groups to a Waybill slot. -/
  | setGroups (m : YMsg)
  /-- WAYBILL_RING (R624): Opcode 0x0502 configures the Waybill ring. -/
  | waybillRing (m : YMsg)
  /-- GET_JOB (R624): Opcode 0x0503 returns a slot's tag and totals. -/
  | getJob (m : YMsg)
  /-- FREEZE (R624): Opcode 0x0504 arms or takes a Freeze. -/
  | freeze (m : YMsg)
  /-- TLM_RING (R624): Opcode 0x0505 configures the telemetry ring. -/
  | tlmRing (m : YMsg)
  /-- TRACE_EXPORT (R624): Opcode 0x0506 configures or starts a trace export. -/
  | traceExport (m : YMsg)
  /-- GET_AGE (R624): Opcode 0x0507 returns a region's ageing words. -/
  | getAge (m : YMsg)
  /-- CBSE_FORCE (R624): Opcode 0x0700 writes the Caboose force bits. -/
  | cbseForce (m : YMsg)
  /-- CELL_TEST (R624): Opcode 0x0701 runs a test on a cell. -/
  | cellTest (m : YMsg) (result : Option TestResult)
  /-- SKID_FORCE (R624): Opcode 0x0702 writes SKID_FORCE. -/
  | skidForce (m : YMsg)
  /-- TRACE_ARM (R624): Opcode 0x0703 configures and arms the trace. -/
  | traceArm (m : YMsg)
  /-- SNS_URGENT (R624): Opcode 0x0704 takes an urgent conversion and returns it. -/
  | snsUrgent (m : YMsg) (raw : Option (BitVec 14))
  /-- PAGE (R627): A PMBus PAGE write is accepted for 0 and flags invalid data otherwise. -/
  | page (page : BitVec 8)
  /-- PAGE_READ (R627): A PMBus PAGE read returns 0. -/
  | pageRead
  /-- CLEAR_FAULTS (R629): PMBus CLEAR_FAULTS clears every latched status bit. -/
  | clearFaults
  /-- CAPABILITY (R627): PMBus CAPABILITY returns 0xD0. -/
  | capability
  /-- VOUT_MODE (R627): PMBus VOUT_MODE returns 0x14. -/
  | voutMode
  /-- STATUS_BYTE (R629): PMBus STATUS_BYTE returns the low byte of the status word. -/
  | statusByte
  /-- STATUS_WORD (R629): PMBus STATUS_WORD returns the status word formed at the read. -/
  | statusWord
  /-- STATUS_VOUT (R629): PMBus STATUS_VOUT returns its latched bits. -/
  | statusVout
  /-- STATUS_IOUT (R629): PMBus STATUS_IOUT returns its latched bits. -/
  | statusIout
  /-- STATUS_INPUT (R629): PMBus STATUS_INPUT returns its latched bits. -/
  | statusInput
  /-- STATUS_TEMPERATURE (R629): PMBus STATUS_TEMPERATURE returns its latched bits. -/
  | statusTemperature
  /-- STATUS_CML (R629): PMBus STATUS_CML returns its latched bits. -/
  | statusCml
  /-- STATUS_MFR_SPECIFIC (R629): PMBus STATUS_MFR_SPECIFIC returns its latched bits. -/
  | statusMfrSpecific
  /-- READ_VIN (R628): PMBus READ_VIN returns V12 in LINEAR11. -/
  | readVin
  /-- READ_IIN (R628): PMBus READ_IIN returns I12 in LINEAR11. -/
  | readIin
  /-- READ_VOUT (R628): PMBus READ_VOUT returns VIM in ULINEAR16. -/
  | readVout
  /-- READ_IOUT (R628): PMBus READ_IOUT returns IVIM in LINEAR11. -/
  | readIout
  /-- READ_TEMPERATURE_1 (R628): PMBus READ_TEMPERATURE_1 returns the hottest valid thermal group. -/
  | readTemperature1
  /-- READ_TEMPERATURE_2 (R628): PMBus READ_TEMPERATURE_2 returns the hottest enabled stage. -/
  | readTemperature2
  /-- READ_POUT (R628): PMBus READ_POUT returns VIM × IVIM in LINEAR11. -/
  | readPout
  /-- PMBUS_REVISION (R627): PMBus PMBUS_REVISION returns 0x44. -/
  | pmbusRevision
  /-- MFR_ID (R627): PMBus MFR_ID returns BIRAURI. -/
  | mfrId
  /-- MFR_MODEL (R627): PMBus MFR_MODEL returns VELOL. -/
  | mfrModel
  /-- MFR_PKG_CAP (R627): A PMBus MFR_PKG_CAP write sets PWR_PKG_BMC on instance 0, or flags invalid data on instances 1..3. -/
  | mfrPkgCap (value : BitVec 16)
  /-- MFR_PKG_CAP_READ (R627): A PMBus MFR_PKG_CAP read returns PWR_PKG_BMC. -/
  | mfrPkgCapRead
  /-- MFR_INST_STATUS (R627): PMBus MFR_INST_STATUS returns the instance status words. -/
  | mfrInstStatus
  /-- MFR_CAP_STATE (R627): PMBus MFR_CAP_STATE returns the cap state. -/
  | mfrCapState
  /-- MFR_EIN (R627): PMBus MFR_EIN returns PWR_EIN taken at one edge. -/
  | mfrEin
  /-- PMBUS_INVALID_COMMAND (R627): An unsupported, wrongly sized or PEC-failed transaction is NACKed and sets STATUS_CML. -/
  | pmbusInvalidCommand (fault : Fin 4)
  /-- ALERT_RESPONSE (R630): The target wins the Alert Response Address, returns its address and releases SMBALERT#. -/
  | alertResponse
  /-- POWER_ON_RESET (R634): VAON falls below its threshold, which asserts power-on reset. -/
  | powerOnReset (asel : Fin 4)
  /-- POWER_ON_RESET_RELEASE (R637): 1 ms after VAON rises through 4.5 V, power-on reset is released and PLL_EN is set. -/
  | powerOnResetRelease (t : Dword)
  /-- RESET_PIN (R635): The host drives VL_RST_N low, which asserts instance reset. -/
  | resetPin (t : Dword) (low : Bool)
  /-- SOFTWARE_INSTANCE_RESET (R635): A write of 0x0000_5A01 to HOLD_RST asserts instance reset for 1 µs. -/
  | softwareInstanceReset (t : Dword) (req : Requester)
  /-- SOFTWARE_FIRMWARE_RESET (R636): A write of 0x0000_5A02 to HOLD_RST causes a firmware reset. -/
  | softwareFirmwareReset (t : Dword) (req : Requester)
  /-- INSTANCE_RESET_RELEASE (R635): Instance reset is released at the first CKF edge with no source held and the PLL locked. -/
  | instanceResetRelease (t : Dword)
  /-- SAG_DECLARED (R640): SNS_V12 stays below TH for FILT cycles, so the sag sequence starts and the crash record is captured. -/
  | sagDeclared (t : Dword)
  /-- FRONT_STOP_SAG (R641): Every region is OFF or FS_TO passes, so the front stage stops with CAUSE = SAG. -/
  | frontStopSag (t : Dword)
  /-- CRASH_CAPTURE_DONE (R642): The crash record is complete, or partial, in the AON buffer. -/
  | crashCaptureDone (t : Dword) (missing : List (Fin 1024)) (peers : List (Fin 4))
  /-- RECORD_PROGRAMMED (R644): The AON flash path finishes programming one instance's record into the armed frame. -/
  | recordProgrammed (t : Dword) (k : Fin 4) (words : List Word)
  /-- SAVE_TIMEOUT (R646): 32 ms pass after declaration with a record unprogrammed, which sets TIMEOUT. -/
  | saveTimeout (t : Dword)
  /-- SAG_END (R647): V12 stays above TH + HYST for 1 ms with the save finished, so the sag sequence ends. -/
  | sagEnd (t : Dword)
  /-- BOUNDARY_SCAN_ENTER (R665): The host TAP enters EXTEST, CLAMP or HIGHZ, so the cells drive the balls and the instance is held in reset. -/
  | boundaryScanEnter (e : ScanUpdate)
  /-- BOUNDARY_SCAN_EXIT (R665): The host TAP leaves those instructions, which releases instance reset. -/
  | boundaryScanExit (t : Dword)
  /-- REFERENCE_ABSENT (R39): While the PLL is not locked, the 100 MHz reference stops, so CKA changes glitch-free to the AON backup oscillator and TS_DEGRADED is set. -/
  | referenceAbsent (t : Dword)
  /-- REFERENCE_RETURN (R44): The reference reappears while the PLL is not locked, so CKA changes from the backup oscillator to reference ÷ 4 and REF_PRESENT sets. -/
  | referenceReturn (t : Dword)
  /-- LINK_DOWN (R400): The host link layer reports the route of a link endpoint down, so the endpoint is no longer trained and LINKS_TRAINED and C0_GUARANTEED may fall. -/
  | linkDown (t : Dword) (e : Fin 17)
  /-- SIDEBAND_END_RESET_CHANGE (R400): The other end of a package sideband endpoint enters or leaves reset, which changes whether that endpoint is trained. -/
  | sidebandEndResetChange (t : Dword) (k : Fin 3) (up : Bool)
  /-- MINV_REPLACEMENT (R153): A delivered region minimum lower than VSN_MINV replaces it, with the sensor index and the TS of the sample. -/
  | minvReplacement (t : Dword) (n : RegionIx) (v : BitVec 11) (sensor : BitVec 14)
  /-- VIM_REFERENCE_SLEW (R174): In RUN, the VIM reference moves one step towards a newly written XPH_VSET.CODE at SLEW mV/µs until it reaches it. -/
  | vimReferenceSlew (t : Dword)
  /-- PLAIN_STORE (R559): A core's plain store enters its store buffer and dirties bytes of its group cache for COMMONS, or writes through for WMEM. -/
  | plainStore (t : Dword) (core : CoreIx) (width : Width) (addr value : Word)
  /-- INTERRUPT_ENTRY (R570): A core takes its machine external interrupt, which cancels any LR reservation it holds. -/
  | interruptEntry (t : Dword) (core : CoreIx)
  /-- PKG_CONDITION_REPORT (R545): Instance 0 receives over the sideband a change in the Class 0 conditions of instance 1..3, which updates FW_ACT.COND bit 6. -/
  | pkgConditionReport (t : Dword) (k : Fin 4) (conds : BitVec 6)
  deriving DecidableEq, Repr

end Sys2Proof
end

