-- ==== Sys2Proof/Decode.lean ====
section
/-! DEFINITION. Decode.lean: the command that a word spells by the command table's bits. No row of
spec/opcode_table.json gives any bits (its "fields" lists are empty), so no word spells a command. -/

namespace Sys2Proof

/-- The command that a word of nbits bits spells: none, since the table gives no row bits. -/
def decodeTableWord (_nbits _w : Nat) : Option Instr := none

end Sys2Proof
end

