-- ==== Sys2Proof/Config.lean ====
section
/-! DEFINITION. Config.lean: the free values. Each is opaque: nothing can evaluate it, so whatever is proved holds for
every value. A meaning applies one to the counter State.freeCtr, which the step then advances, so each use is a fresh
value. -/

namespace Sys2Proof.Config

/-- A fresh word where the spec says that a value results and does not say which (see the assumption log). -/
opaque freeWord : Nat → BitVec 32

end Sys2Proof.Config
end

