-- ==== Sys2Proof/Machine/Bits.lean ====
section
/-! DEFINITION. Machine/Bits.lean: bit fields of a word, signed readings (R3), saturation, and the sparse maps in one
canonical form that hold registers and per-element hidden state. -/

namespace Sys2Proof.Machine

/-- Bits hi..lo of a word, as a number. -/
def fldGet (w : Word) (hi lo : Nat) : Nat := (w >>> lo).toNat % 2 ^ (hi + 1 - lo)

/-- The word with 1s in bits hi..lo. -/
def fldMask (hi lo : Nat) : Word := BitVec.ofNat 32 ((2 ^ (hi + 1 - lo) - 1) * 2 ^ lo)

/-- The word w with bits hi..lo replaced by the low bits of v. -/
def fldSet (w : Word) (hi lo v : Nat) : Word :=
  (w &&& ~~~(fldMask hi lo)) ||| (BitVec.ofNat 32 (v * 2 ^ lo) &&& fldMask hi lo)

/-- The two's complement reading of the low `width` bits of v (R3). -/
def toSigned (width v : Nat) : Int :=
  let u := v % 2 ^ width
  if u < 2 ^ (width - 1) then (u : Int) else (u : Int) - (2 ^ width : Nat)

/-- The two's complement encoding of v in `width` bits (R3). -/
def ofSigned (width : Nat) (v : Int) : Nat := (v % ((2 ^ width : Nat) : Int)).toNat

/-- v saturated to a signed range of `width` bits. -/
def satS (width : Nat) (v : Int) : Int :=
  max (-((2 ^ (width - 1) : Nat) : Int)) (min v (((2 ^ (width - 1) : Nat) : Int) - 1))

/-- v saturated to an unsigned range of `width` bits. -/
def satU (width v : Nat) : Nat := min v (2 ^ width - 1)

/-- v limited to lo..hi. -/
def clampN (lo hi v : Nat) : Nat := max lo (min hi v)

/-- v limited to lo..hi. -/
def clampI (lo hi v : Int) : Int := max lo (min hi v)

/-- The nearest usable voltage code (R6, R7): 40..440. -/
def clampCode (v : Nat) : Nat := clampN 40 440 v

/-- Bit b of a number. -/
def bitOf (n b : Nat) : Bool := n / 2 ^ b % 2 == 1

/-- The number with bit b set. -/
def setBitN (n b : Nat) : Nat := if bitOf n b then n else n + 2 ^ b

/-- The number with bit b cleared. -/
def clearBitN (n b : Nat) : Nat := if bitOf n b then n - 2 ^ b else n

/-- The bits of n below `width` that are 1, rising. -/
def bitsOf (n width : Nat) : List Nat := (List.range width).filter (bitOf n)

/-- How many of the low `width` bits of n are 1. -/
def popcount (n width : Nat) : Nat := (bitsOf n width).length

/-- A map from Nat keys held as the list of its listed entries; an unlisted key reads as a default. -/
abbrev Map (α : Type) := List (Nat × α)

/-- The value listed for key k, or d. -/
def mapGet {α : Type} (d : α) (m : Map α) (k : Nat) : α :=
  match m with
  | [] => d
  | (a, v) :: rest => if a = k then v else mapGet d rest k

/-- The map without key k. -/
def mapErase {α : Type} (m : Map α) (k : Nat) : Map α := m.filter (fun e => decide (e.1 ≠ k))

/-- Insertion before the first greater key. -/
def mapInsert {α : Type} (m : Map α) (k : Nat) (v : α) : Map α :=
  match m with
  | [] => [(k, v)]
  | (a, w) :: rest => if k < a then (k, v) :: (a, w) :: rest else (a, w) :: mapInsert rest k v

/-- Write key k: an entry equal to the default is not listed, so equal maps are equal lists. -/
def mapSet {α : Type} [DecidableEq α] (d : α) (m : Map α) (k : Nat) (v : α) : Map α :=
  if v = d then mapErase m k else mapInsert (mapErase m k) k v

/-- The canonical form of a map with defaults d: keys strictly rising and no entry equal to its default. -/
def mapWf {α : Type} [DecidableEq α] (d : Nat → α) : Map α → Bool
  | [] => true
  | [(a, v)] => decide (v ≠ d a)
  | (a, v) :: (b, w) :: rest => decide (v ≠ d a) && decide (a < b) && mapWf d ((b, w) :: rest)

/-- Replace element i of a list. -/
def listSet {α : Type} (l : List α) (i : Nat) (v : α) : List α := l.set i v

/-- The least key among the keys of a map that satisfy p. -/
def mapFind? {α : Type} (m : Map α) (p : Nat → α → Bool) : Option (Nat × α) := m.find? (fun e => p e.1 e.2)

/-- The union of two rising lists, rising, without repeats; fuel bounds the steps. -/
def unionRising : Nat → List Nat → List Nat → List Nat
  | 0, a, b => a ++ b
  | _ + 1, [], b => b
  | _ + 1, a, [] => a
  | k + 1, x :: a, y :: b =>
    if x < y then x :: unionRising k a (y :: b)
    else if y < x then y :: unionRising k (x :: a) b
    else x :: unionRising k a b

/-- The union of two rising lists. -/
def union (a b : List Nat) : List Nat := unionRising (a.length + b.length) a b

/-- Floor division of integers, for scaled signed values. -/
def floorDiv (a : Int) (b : Nat) : Int := a.fdiv b

/-- The median of three integers. -/
def median3 (a b c : Int) : Int := max (min a b) (min (max a b) c)

end Sys2Proof.Machine
end

