-- ==== Sys2Proof/Machine/Regs.lean ====
section
/-! DEFINITION. Machine/Regs.lean: the register window of R35 as data: the byte offset of every register the
spec's register tables name, the place of every field, its access code (R17), its legal values (R19), its clamp (R7) and
its permitted writers (R38, R671), and the word each register holds at its reset. Chapter order follows the window. -/

namespace Sys2Proof.Machine

/-- A field of a register: the register's byte offset in the window and the field's bit range hi..lo. -/
structure Fld where
  addr : Nat
  hi : Nat
  lo : Nat
  deriving DecidableEq, Repr

/-- The access codes of R17 (RSV bits belong to no field). -/
inductive Acc where
  | rw | ro | wo | w1c | w1s | rc
  deriving DecidableEq, Repr

/-- One field of a register table: place, access code, least and most legal value of an RW field (R19), whether R7
clamps it, and the set of requester codes that may write it (bit r for requester code r). -/
structure FieldDef where
  hi : Nat
  lo : Nat
  acc : Acc
  least : Nat
  most : Nat
  clamp : Bool
  writers : Nat
  deriving DecidableEq, Repr

/-- One register table: base offset, two strides with the first and one-past-last index of each, the word held at reset,
whether only power-on reset resets it, and its fields. -/
structure RegDef where
  base : Nat
  s1 : Nat
  f1 : Nat
  n1 : Nat
  s2 : Nat
  f2 : Nat
  n2 : Nat
  reset : Nat
  por : Bool
  fields : List FieldDef
  deriving DecidableEq, Repr

/-- Every requester may write. -/
def anyone : Nat := 0xFFFF

/-- A field that software reads and does not write (RO, WO, W1C, W1S, RC), or an RW field all of whose values are legal. -/
def fdef (hi lo : Nat) (acc : Acc) : FieldDef := ⟨hi, lo, acc, 0, 2 ^ (hi + 1 - lo) - 1, false, anyone⟩
/-- An RW field whose legal values are least..most (R19). -/
def frange (hi lo least most : Nat) : FieldDef := ⟨hi, lo, .rw, least, most, false, anyone⟩
/-- An RW voltage-code field clamped by R7. -/
def fclamp (hi lo : Nat) : FieldDef := ⟨hi, lo, .rw, 40, 440, true, anyone⟩
/-- The VIM set-point code, clamped by R174. -/
def fvim (hi lo : Nat) : FieldDef := ⟨hi, lo, .rw, 1280, 1920, true, anyone⟩
/-- A field whose writers are restricted (R671). -/
def FieldDef.by (f : FieldDef) (writers : Nat) : FieldDef := { f with writers := writers }

/-- VL_ID: spec/01_architecture.md, power-on reset. -/
def VL_ID : Nat := 0x0
def VL_ID.FAMILY : Fld := ⟨VL_ID, 31, 24⟩
def VL_ID.MAJOR : Fld := ⟨VL_ID, 23, 16⟩
def VL_ID.MINOR : Fld := ⟨VL_ID, 15, 8⟩
def VL_ID.STEP : Fld := ⟨VL_ID, 7, 4⟩
def VL_ID.INST : Fld := ⟨VL_ID, 1, 0⟩
/-- VL_CTRL: spec/01_architecture.md, instance reset. -/
def VL_CTRL : Nat := 0x4
def VL_CTRL.C0_STRICT : Fld := ⟨VL_CTRL, 2, 2⟩
def VL_CTRL.HOST_RO : Fld := ⟨VL_CTRL, 1, 1⟩
def VL_CTRL.DBG_EN : Fld := ⟨VL_CTRL, 0, 0⟩
/-- VL_STAT: spec/01_architecture.md, instance reset. -/
def VL_STAT : Nat := 0x8
def VL_STAT.C0_PEAK : Fld := ⟨VL_STAT, 15, 8⟩
def VL_STAT.DENIED_WR : Fld := ⟨VL_STAT, 5, 5⟩
def VL_STAT.C0_OVERLOAD : Fld := ⟨VL_STAT, 4, 4⟩
def VL_STAT.C0_GUARANTEED : Fld := ⟨VL_STAT, 3, 3⟩
def VL_STAT.LINKS_TRAINED : Fld := ⟨VL_STAT, 2, 2⟩
def VL_STAT.CFG_COMMITTED : Fld := ⟨VL_STAT, 1, 1⟩
def VL_STAT.CKF_LOCKED : Fld := ⟨VL_STAT, 0, 0⟩
/-- VL_DENY_ADDR: spec/01_architecture.md, instance reset. -/
def VL_DENY_ADDR : Nat := 0xc
def VL_DENY_ADDR.REQ : Fld := ⟨VL_DENY_ADDR, 31, 28⟩
def VL_DENY_ADDR.OFFSET : Fld := ⟨VL_DENY_ADDR, 24, 0⟩
/-- FW_STAT: spec/17_firmware.md, instance reset. -/
def FW_STAT : Nat := 0x100
def FW_STAT.HOST_LOST : Fld := ⟨FW_STAT, 31, 31⟩
def FW_STAT.FW_OK : Fld := ⟨FW_STAT, 30, 30⟩
def FW_STAT.ACT_DEFERRED : Fld := ⟨FW_STAT, 29, 29⟩
def FW_STAT.TRIAL : Fld := ⟨FW_STAT, 28, 28⟩
def FW_STAT.SLOT : Fld := ⟨FW_STAT, 24, 24⟩
def FW_STAT.SVN : Fld := ⟨FW_STAT, 23, 16⟩
def FW_STAT.FUSED : Fld := ⟨FW_STAT, 15, 8⟩
def FW_STAT.BOOT : Fld := ⟨FW_STAT, 2, 0⟩
/-- FW_VER: spec/17_firmware.md, instance reset. -/
def FW_VER : Nat := 0x104
def FW_VER.VERSION : Fld := ⟨FW_VER, 31, 0⟩
/-- FW_ACT: spec/17_firmware.md, instance reset. -/
def FW_ACT : Nat := 0x108
def FW_ACT.PEND : Fld := ⟨FW_ACT, 31, 31⟩
def FW_ACT.DEFERRED : Fld := ⟨FW_ACT, 30, 30⟩
def FW_ACT.COND : Fld := ⟨FW_ACT, 22, 16⟩
def FW_ACT.QUIET : Fld := ⟨FW_ACT, 3, 0⟩
/-- FW_HB: spec/17_firmware.md, instance reset. -/
def FW_HB : Nat := 0x10c
def FW_HB.COUNT : Fld := ⟨FW_HB, 31, 0⟩
/-- FW_HOST_HB: spec/17_firmware.md, instance reset. -/
def FW_HOST_HB : Nat := 0x110
def FW_HOST_HB.MISS : Fld := ⟨FW_HOST_HB, 31, 24⟩
def FW_HOST_HB.PERIOD : Fld := ⟨FW_HOST_HB, 15, 0⟩
/-- FW_HOST_KICK: spec/17_firmware.md, instance reset. -/
def FW_HOST_KICK : Nat := 0x114
def FW_HOST_KICK.SEQ : Fld := ⟨FW_HOST_KICK, 31, 0⟩
/-- FW_WDOG: spec/17_firmware.md, instance reset. -/
def FW_WDOG (i : Nat) : Nat := 0x140 + 0x4 * i
def FW_WDOG.EN (i : Nat) : Fld := ⟨FW_WDOG i, 31, 31⟩
def FW_WDOG.EXP (i : Nat) : Fld := ⟨FW_WDOG i, 30, 30⟩
def FW_WDOG.TO (i : Nat) : Fld := ⟨FW_WDOG i, 15, 0⟩
/-- FW_KICK: spec/17_firmware.md, instance reset. -/
def FW_KICK (i : Nat) : Nat := 0x180 + 0x4 * i
def FW_KICK.KICK (i : Nat) : Fld := ⟨FW_KICK i, 31, 0⟩
/-- FW_CORE: spec/17_firmware.md, instance reset. -/
def FW_CORE (i : Nat) : Nat := 0x1c0 + 0x4 * i
def FW_CORE.RESETS (i : Nat) : Fld := ⟨FW_CORE i, 31, 24⟩
def FW_CORE.STATE (i : Nat) : Fld := ⟨FW_CORE i, 1, 0⟩
/-- PST_CTRL: spec/19_postilion.md, instance reset. -/
def PST_CTRL : Nat := 0x10000
def PST_CTRL.GDIS : Fld := ⟨PST_CTRL, 0, 0⟩
/-- PST_STAT: spec/19_postilion.md, instance reset. -/
def PST_STAT : Nat := 0x10004
def PST_STAT.C0ACT : Fld := ⟨PST_STAT, 15, 8⟩
def PST_STAT.EDGE_LOST : Fld := ⟨PST_STAT, 2, 2⟩
def PST_STAT.BADCOMP : Fld := ⟨PST_STAT, 1, 1⟩
def PST_STAT.BADSRC : Fld := ⟨PST_STAT, 0, 0⟩
/-- PST_DOORBELL: spec/19_postilion.md, instance reset. -/
def PST_DOORBELL : Nat := 0x10008
def PST_DOORBELL.SRC : Fld := ⟨PST_DOORBELL, 15, 0⟩
/-- PST_MSI_LO: spec/19_postilion.md, instance reset. -/
def PST_MSI_LO : Nat := 0x10010
def PST_MSI_LO.ADDR : Fld := ⟨PST_MSI_LO, 31, 0⟩
/-- PST_MSI_HI: spec/19_postilion.md, instance reset. -/
def PST_MSI_HI : Nat := 0x10014
def PST_MSI_HI.ADDR : Fld := ⟨PST_MSI_HI, 31, 0⟩
/-- PST_MSI_DATA: spec/19_postilion.md, instance reset. -/
def PST_MSI_DATA : Nat := 0x10018
def PST_MSI_DATA.DATA : Fld := ⟨PST_MSI_DATA, 31, 0⟩
/-- PST_HOST_CLAIM: spec/19_postilion.md, instance reset. -/
def PST_HOST_CLAIM : Nat := 0x10020
def PST_HOST_CLAIM.SRC : Fld := ⟨PST_HOST_CLAIM, 9, 0⟩
/-- PST_TIER_LO: spec/19_postilion.md, instance reset. -/
def PST_TIER_LO : Nat := 0x10030
def PST_TIER_LO.B4 : Fld := ⟨PST_TIER_LO, 31, 24⟩
def PST_TIER_LO.B3 : Fld := ⟨PST_TIER_LO, 23, 16⟩
def PST_TIER_LO.B2 : Fld := ⟨PST_TIER_LO, 15, 8⟩
def PST_TIER_LO.B1 : Fld := ⟨PST_TIER_LO, 7, 0⟩
/-- PST_TIER_HI: spec/19_postilion.md, instance reset. -/
def PST_TIER_HI : Nat := 0x10034
def PST_TIER_HI.B7 : Fld := ⟨PST_TIER_HI, 23, 16⟩
def PST_TIER_HI.B6 : Fld := ⟨PST_TIER_HI, 15, 8⟩
def PST_TIER_HI.B5 : Fld := ⟨PST_TIER_HI, 7, 0⟩
/-- PST_CORE: spec/19_postilion.md, instance reset. -/
def PST_CORE (i : Nat) : Nat := 0x10100 + 0x4 * i
def PST_CORE.MEIP (i : Nat) : Fld := ⟨PST_CORE i, 31, 31⟩
def PST_CORE.RP (i : Nat) : Fld := ⟨PST_CORE i, 19, 16⟩
def PST_CORE.TOP (i : Nat) : Fld := ⟨PST_CORE i, 9, 0⟩
/-- PST_CG_CFG: spec/19_postilion.md, instance reset. -/
def PST_CG_CFG (c : Nat) : Nat := 0x10200 + 0x8 * c
def PST_CG_CFG.CNT (c : Nat) : Fld := ⟨PST_CG_CFG c, 31, 24⟩
def PST_CG_CFG.TIME (c : Nat) : Fld := ⟨PST_CG_CFG c, 15, 0⟩
/-- PST_CG_STAT: spec/19_postilion.md, instance reset. -/
def PST_CG_STAT (c : Nat) : Nat := 0x10204 + 0x8 * c
def PST_CG_STAT.OPEN (c : Nat) : Fld := ⟨PST_CG_STAT c, 31, 31⟩
def PST_CG_STAT.COUNT (c : Nat) : Fld := ⟨PST_CG_STAT c, 23, 16⟩
/-- PST_EDGE: spec/19_postilion.md, power-on reset. -/
def PST_EDGE (e : Nat) : Nat := 0x10400 + 0x4 * e
def PST_EDGE.EN (e : Nat) : Fld := ⟨PST_EDGE e, 31, 31⟩
def PST_EDGE.WAKE (e : Nat) : Fld := ⟨PST_EDGE e, 30, 30⟩
def PST_EDGE.POL (e : Nat) : Fld := ⟨PST_EDGE e, 29, 28⟩
def PST_EDGE.LATCHED (e : Nat) : Fld := ⟨PST_EDGE e, 27, 27⟩
def PST_EDGE.LOST (e : Nat) : Fld := ⟨PST_EDGE e, 26, 26⟩
def PST_EDGE.SRC (e : Nat) : Fld := ⟨PST_EDGE e, 9, 0⟩
/-- PST_SRC_CFG: spec/19_postilion.md, instance reset. -/
def PST_SRC_CFG (s : Nat) : Nat := 0x12000 + 0x8 * s
def PST_SRC_CFG.EN (s : Nat) : Fld := ⟨PST_SRC_CFG s, 31, 31⟩
def PST_SRC_CFG.C0 (s : Nat) : Fld := ⟨PST_SRC_CFG s, 30, 30⟩
def PST_SRC_CFG.CG (s : Nat) : Fld := ⟨PST_SRC_CFG s, 27, 24⟩
def PST_SRC_CFG.PRIO (s : Nat) : Fld := ⟨PST_SRC_CFG s, 23, 16⟩
def PST_SRC_CFG.TMASK (s : Nat) : Fld := ⟨PST_SRC_CFG s, 11, 0⟩
/-- PST_SRC_STAT: spec/19_postilion.md, instance reset. -/
def PST_SRC_STAT (s : Nat) : Nat := 0x12004 + 0x8 * s
def PST_SRC_STAT.PEND (s : Nat) : Fld := ⟨PST_SRC_STAT s, 31, 31⟩
def PST_SRC_STAT.ACTIVE (s : Nat) : Fld := ⟨PST_SRC_STAT s, 30, 30⟩
def PST_SRC_STAT.BOUND (s : Nat) : Fld := ⟨PST_SRC_STAT s, 29, 29⟩
def PST_SRC_STAT.HELD (s : Nat) : Fld := ⟨PST_SRC_STAT s, 28, 28⟩
def PST_SRC_STAT.TGT (s : Nat) : Fld := ⟨PST_SRC_STAT s, 27, 24⟩
def PST_SRC_STAT.NDB (s : Nat) : Fld := ⟨PST_SRC_STAT s, 15, 0⟩
/-- MCH_CFG: spec/20_mail_coach.md, instance reset. -/
def MCH_CFG : Nat := 0x20000
def MCH_CFG.FILL_TO : Fld := ⟨MCH_CFG, 15, 0⟩
/-- MCH_STAT: spec/20_mail_coach.md, instance reset. -/
def MCH_STAT : Nat := 0x20004
def MCH_STAT.PEER_REJ : Fld := ⟨MCH_STAT, 4, 4⟩
def MCH_STAT.FILL_EXP : Fld := ⟨MCH_STAT, 3, 3⟩
def MCH_STAT.BADTAKE : Fld := ⟨MCH_STAT, 2, 2⟩
def MCH_STAT.BADPOST : Fld := ⟨MCH_STAT, 1, 1⟩
def MCH_STAT.BADWR : Fld := ⟨MCH_STAT, 0, 0⟩
/-- MCH_CNT: spec/20_mail_coach.md, instance reset. -/
def MCH_CNT : Nat := 0x20008
def MCH_CNT.PEER_REJ : Fld := ⟨MCH_CNT, 31, 16⟩
def MCH_CNT.FILL_EXP : Fld := ⟨MCH_CNT, 15, 0⟩
/-- MCH_PEER: spec/20_mail_coach.md, instance reset. -/
def MCH_PEER : Nat := 0x20010
def MCH_PEER.EN : Fld := ⟨MCH_PEER, 31, 31⟩
def MCH_PEER.BASE : Fld := ⟨MCH_PEER, 17, 0⟩
/-- MCH_SMB: spec/20_mail_coach.md, power-on reset. -/
def MCH_SMB : Nat := 0x20020
def MCH_SMB.ALERT_EN : Fld := ⟨MCH_SMB, 31, 31⟩
def MCH_SMB.ADDR : Fld := ⟨MCH_SMB, 6, 0⟩
/-- MCH_DB: spec/20_mail_coach.md, instance reset. -/
def MCH_DB (r : Nat) : Nat := 0x20100 + 0x8 * r
def MCH_DB.DB (r : Nat) : Fld := ⟨MCH_DB r, 31, 0⟩
/-- MCH_DBEN: spec/20_mail_coach.md, instance reset. -/
def MCH_DBEN (r : Nat) : Nat := 0x20104 + 0x8 * r
def MCH_DBEN.DBEN (r : Nat) : Fld := ⟨MCH_DBEN r, 31, 0⟩
/-- MCH_SLOT: spec/20_mail_coach.md, instance reset. -/
def MCH_SLOT (c : Nat) (w : Nat) : Nat := 0x21000 + 0x80 * c + 0x4 * w
def MCH_SLOT.DATA (c : Nat) (w : Nat) : Fld := ⟨MCH_SLOT c w, 31, 0⟩
/-- MCH_CH_CFG: spec/20_mail_coach.md, instance reset. -/
def MCH_CH_CFG (c : Nat) : Nat := 0x21040 + 0x80 * c
def MCH_CH_CFG.EN (c : Nat) : Fld := ⟨MCH_CH_CFG c, 31, 31⟩
def MCH_CH_CFG.C0 (c : Nat) : Fld := ⟨MCH_CH_CFG c, 30, 30⟩
def MCH_CH_CFG.RCV (c : Nat) : Fld := ⟨MCH_CH_CFG c, 3, 0⟩
/-- MCH_CH_CLAIM: spec/20_mail_coach.md, instance reset. -/
def MCH_CH_CLAIM (c : Nat) : Nat := 0x21044 + 0x80 * c
def MCH_CH_CLAIM.WON (c : Nat) : Fld := ⟨MCH_CH_CLAIM c, 0, 0⟩
/-- MCH_CH_CTL: spec/20_mail_coach.md, instance reset. -/
def MCH_CH_CTL (c : Nat) : Nat := 0x21048 + 0x80 * c
def MCH_CH_CTL.ESRC (c : Nat) : Fld := ⟨MCH_CH_CTL c, 25, 16⟩
def MCH_CH_CTL.ABANDON (c : Nat) : Fld := ⟨MCH_CH_CTL c, 2, 2⟩
def MCH_CH_CTL.TAKE (c : Nat) : Fld := ⟨MCH_CH_CTL c, 1, 1⟩
def MCH_CH_CTL.POST (c : Nat) : Fld := ⟨MCH_CH_CTL c, 0, 0⟩
/-- MCH_CH_STAT: spec/20_mail_coach.md, instance reset. -/
def MCH_CH_STAT (c : Nat) : Nat := 0x2104c + 0x80 * c
def MCH_CH_STAT.ESRC (c : Nat) : Fld := ⟨MCH_CH_STAT c, 31, 22⟩
def MCH_CH_STAT.SNDR (c : Nat) : Fld := ⟨MCH_CH_STAT c, 19, 16⟩
def MCH_CH_STAT.OWNER (c : Nat) : Fld := ⟨MCH_CH_STAT c, 15, 12⟩
def MCH_CH_STAT.STATE (c : Nat) : Fld := ⟨MCH_CH_STAT c, 1, 0⟩
/-- MCH_CH_TS: spec/20_mail_coach.md, instance reset. -/
def MCH_CH_TS (c : Nat) : Nat := 0x21050 + 0x80 * c
def MCH_CH_TS.TS (c : Nat) : Fld := ⟨MCH_CH_TS c, 31, 0⟩
/-- MCH_CH_PEER: spec/20_mail_coach.md, instance reset. -/
def MCH_CH_PEER (c : Nat) : Nat := 0x21054 + 0x80 * c
def MCH_CH_PEER.PEER (c : Nat) : Fld := ⟨MCH_CH_PEER c, 16, 0⟩
/-- CBSE_CTRL: spec/15_caboose.md, instance reset. -/
def CBSE_CTRL : Nat := 0x30000
def CBSE_CTRL.CE_IE : Fld := ⟨CBSE_CTRL, 0, 0⟩
/-- CBSE_STAT: spec/15_caboose.md, instance reset. -/
def CBSE_STAT : Nat := 0x30004
def CBSE_STAT.OVR : Fld := ⟨CBSE_STAT, 31, 31⟩
def CBSE_STAT.NFATAL : Fld := ⟨CBSE_STAT, 21, 16⟩
def CBSE_STAT.CLR_REFUSED : Fld := ⟨CBSE_STAT, 8, 8⟩
/-- CBSE_STATUS_LO: spec/15_caboose.md, instance reset. -/
def CBSE_STATUS_LO : Nat := 0x30008
def CBSE_STATUS_LO.STATUS : Fld := ⟨CBSE_STATUS_LO, 31, 0⟩
/-- CBSE_STATUS_HI: spec/15_caboose.md, instance reset. -/
def CBSE_STATUS_HI : Nat := 0x3000c
def CBSE_STATUS_HI.STATUS : Fld := ⟨CBSE_STATUS_HI, 10, 0⟩
/-- CBSE_PIN_LO: spec/15_caboose.md, instance reset. -/
def CBSE_PIN_LO : Nat := 0x30010
def CBSE_PIN_LO.PIN : Fld := ⟨CBSE_PIN_LO, 31, 0⟩
/-- CBSE_PIN_HI: spec/15_caboose.md, instance reset. -/
def CBSE_PIN_HI : Nat := 0x30014
def CBSE_PIN_HI.PIN : Fld := ⟨CBSE_PIN_HI, 31, 0⟩
/-- CBSE_FORCE_LO: spec/15_caboose.md, instance reset. -/
def CBSE_FORCE_LO : Nat := 0x30018
def CBSE_FORCE_LO.FORCE : Fld := ⟨CBSE_FORCE_LO, 31, 0⟩
/-- CBSE_FORCE_HI: spec/15_caboose.md, instance reset. -/
def CBSE_FORCE_HI : Nat := 0x3001c
def CBSE_FORCE_HI.FORCE : Fld := ⟨CBSE_FORCE_HI, 10, 0⟩
/-- CBSE_FIRST: spec/15_caboose.md, power-on reset. -/
def CBSE_FIRST : Nat := 0x30020
def CBSE_FIRST.OPEN : Fld := ⟨CBSE_FIRST, 31, 31⟩
def CBSE_FIRST.PRIOR : Fld := ⟨CBSE_FIRST, 30, 30⟩
def CBSE_FIRST.OVERFLOW : Fld := ⟨CBSE_FIRST, 29, 29⟩
def CBSE_FIRST.FORCED : Fld := ⟨CBSE_FIRST, 28, 28⟩
def CBSE_FIRST.CLASS : Fld := ⟨CBSE_FIRST, 25, 24⟩
def CBSE_FIRST.NMERGED : Fld := ⟨CBSE_FIRST, 23, 16⟩
def CBSE_FIRST.SRC : Fld := ⟨CBSE_FIRST, 5, 0⟩
/-- CBSE_FIRST_TS_LO: spec/15_caboose.md, power-on reset. -/
def CBSE_FIRST_TS_LO : Nat := 0x30024
def CBSE_FIRST_TS_LO.TS : Fld := ⟨CBSE_FIRST_TS_LO, 31, 0⟩
/-- CBSE_FIRST_TS_HI: spec/15_caboose.md, power-on reset. -/
def CBSE_FIRST_TS_HI : Nat := 0x30028
def CBSE_FIRST_TS_HI.TS : Fld := ⟨CBSE_FIRST_TS_HI, 31, 0⟩
/-- CBSE_DMA: spec/15_caboose.md, instance reset. -/
def CBSE_DMA : Nat := 0x30030
def CBSE_DMA.VALID : Fld := ⟨CBSE_DMA, 31, 31⟩
def CBSE_DMA.UNIT : Fld := ⟨CBSE_DMA, 26, 24⟩
/-- CBSE_DMA_ADDR_LO: spec/15_caboose.md, instance reset. -/
def CBSE_DMA_ADDR_LO : Nat := 0x30034
def CBSE_DMA_ADDR_LO.ADDR : Fld := ⟨CBSE_DMA_ADDR_LO, 31, 0⟩
/-- CBSE_DMA_ADDR_HI: spec/15_caboose.md, instance reset. -/
def CBSE_DMA_ADDR_HI : Nat := 0x30038
def CBSE_DMA_ADDR_HI.ADDR : Fld := ⟨CBSE_DMA_ADDR_HI, 31, 0⟩
/-- CBSE_SCRUB: spec/15_caboose.md, instance reset. -/
def CBSE_SCRUB : Nat := 0x3003c
def CBSE_SCRUB.EN : Fld := ⟨CBSE_SCRUB, 31, 31⟩
def CBSE_SCRUB.INT : Fld := ⟨CBSE_SCRUB, 15, 0⟩
/-- CBSE_CNT: spec/15_caboose.md, instance reset. -/
def CBSE_CNT (b : Nat) : Nat := 0x30100 + 0x4 * b
def CBSE_CNT.COUNT (b : Nat) : Fld := ⟨CBSE_CNT b, 15, 0⟩
/-- CBSE_MEM_CNT: spec/15_caboose.md, instance reset. -/
def CBSE_MEM_CNT (m : Nat) : Nat := 0x30200 + 0x10 * m
def CBSE_MEM_CNT.CE (m : Nat) : Fld := ⟨CBSE_MEM_CNT m, 31, 16⟩
def CBSE_MEM_CNT.UE (m : Nat) : Fld := ⟨CBSE_MEM_CNT m, 15, 0⟩
/-- CBSE_CE_ADDR: spec/15_caboose.md, instance reset. -/
def CBSE_CE_ADDR (m : Nat) : Nat := 0x30204 + 0x10 * m
def CBSE_CE_ADDR.V (m : Nat) : Fld := ⟨CBSE_CE_ADDR m, 31, 0⟩
/-- CBSE_UE_ADDR: spec/15_caboose.md, instance reset. -/
def CBSE_UE_ADDR (m : Nat) : Nat := 0x30208 + 0x10 * m
def CBSE_UE_ADDR.V (m : Nat) : Fld := ⟨CBSE_UE_ADDR m, 31, 0⟩
/-- CBSE_PASS: spec/15_caboose.md, instance reset. -/
def CBSE_PASS (m : Nat) : Nat := 0x3020c + 0x10 * m
def CBSE_PASS.V (m : Nat) : Fld := ⟨CBSE_PASS m, 31, 0⟩
/-- TIM_CTRL: spec/02_time_and_clocks.md, power-on reset. -/
def TIM_CTRL : Nat := 0x40000
def TIM_CTRL.PLL_EN : Fld := ⟨TIM_CTRL, 0, 0⟩
/-- TIM_STAT: spec/02_time_and_clocks.md, power-on reset. -/
def TIM_STAT : Nat := 0x40004
def TIM_STAT.ADJ_REFUSED : Fld := ⟨TIM_STAT, 11, 11⟩
def TIM_STAT.PLL_OFF_REFUSED : Fld := ⟨TIM_STAT, 10, 10⟩
def TIM_STAT.CELL_GOOD : Fld := ⟨TIM_STAT, 9, 9⟩
def TIM_STAT.CTRL_GOOD : Fld := ⟨TIM_STAT, 8, 8⟩
def TIM_STAT.TS_ALIGNED : Fld := ⟨TIM_STAT, 7, 7⟩
def TIM_STAT.TS_DEGRADED : Fld := ⟨TIM_STAT, 6, 6⟩
def TIM_STAT.TS_COARSE : Fld := ⟨TIM_STAT, 5, 5⟩
def TIM_STAT.CKA_SRC : Fld := ⟨TIM_STAT, 4, 3⟩
def TIM_STAT.REF_PRESENT : Fld := ⟨TIM_STAT, 2, 2⟩
def TIM_STAT.LOCK_LOST : Fld := ⟨TIM_STAT, 1, 1⟩
def TIM_STAT.PLL_LOCK : Fld := ⟨TIM_STAT, 0, 0⟩
/-- TIM_TS_LO: spec/02_time_and_clocks.md, power-on reset. -/
def TIM_TS_LO : Nat := 0x40010
def TIM_TS_LO.TS_LO : Fld := ⟨TIM_TS_LO, 31, 0⟩
/-- TIM_TS_HI: spec/02_time_and_clocks.md, power-on reset. -/
def TIM_TS_HI : Nat := 0x40014
def TIM_TS_HI.TS_HI : Fld := ⟨TIM_TS_HI, 31, 0⟩
/-- TIM_TS_ADJ: spec/02_time_and_clocks.md, power-on reset. -/
def TIM_TS_ADJ : Nat := 0x40018
def TIM_TS_ADJ.BUSY : Fld := ⟨TIM_TS_ADJ, 31, 31⟩
def TIM_TS_ADJ.MODE : Fld := ⟨TIM_TS_ADJ, 16, 16⟩
def TIM_TS_ADJ.OFFSET : Fld := ⟨TIM_TS_ADJ, 15, 0⟩
/-- TIM_LOCK_CNT: spec/02_time_and_clocks.md, power-on reset. -/
def TIM_LOCK_CNT : Nat := 0x40020
def TIM_LOCK_CNT.COUNT : Fld := ⟨TIM_LOCK_CNT, 15, 0⟩
/-- XPH_CMD: spec/05_front_stage.md, instance reset. -/
def XPH_CMD : Nat := 0x80000
def XPH_CMD.RES : Fld := ⟨XPH_CMD, 31, 16⟩
def XPH_CMD.PEND : Fld := ⟨XPH_CMD, 15, 15⟩
def XPH_CMD.OP : Fld := ⟨XPH_CMD, 3, 0⟩
/-- XPH_STAT: spec/05_front_stage.md, instance reset. -/
def XPH_STAT : Nat := 0x80004
def XPH_STAT.CAUSE : Fld := ⟨XPH_STAT, 31, 28⟩
def XPH_STAT.SYNC_LOCK : Fld := ⟨XPH_STAT, 26, 26⟩
def XPH_STAT.PG : Fld := ⟨XPH_STAT, 25, 25⟩
def XPH_STAT.NAVAIL : Fld := ⟨XPH_STAT, 21, 16⟩
def XPH_STAT.NACT : Fld := ⟨XPH_STAT, 13, 8⟩
def XPH_STAT.STATE : Fld := ⟨XPH_STAT, 2, 0⟩
/-- XPH_CFG: spec/05_front_stage.md, instance reset. -/
def XPH_CFG : Nat := 0x80008
def XPH_CFG.NMIN : Fld := ⟨XPH_CFG, 29, 24⟩
def XPH_CFG.SNS_EN : Fld := ⟨XPH_CFG, 19, 16⟩
def XPH_CFG.SHED_EN : Fld := ⟨XPH_CFG, 4, 4⟩
def XPH_CFG.DE_EN : Fld := ⟨XPH_CFG, 3, 3⟩
def XPH_CFG.AUTO_OFS : Fld := ⟨XPH_CFG, 2, 2⟩
def XPH_CFG.MODE : Fld := ⟨XPH_CFG, 0, 0⟩
/-- XPH_VSET: spec/05_front_stage.md, instance reset. -/
def XPH_VSET : Nat := 0x8000c
def XPH_VSET.SLEW : Fld := ⟨XPH_VSET, 23, 16⟩
def XPH_VSET.CODE : Fld := ⟨XPH_VSET, 11, 0⟩
/-- XPH_VIM: spec/05_front_stage.md, instance reset. -/
def XPH_VIM : Nat := 0x80010
def XPH_VIM.VREF : Fld := ⟨XPH_VIM, 27, 16⟩
def XPH_VIM.VIM : Fld := ⟨XPH_VIM, 11, 0⟩
/-- XPH_FSW: spec/05_front_stage.md, instance reset. -/
def XPH_FSW : Nat := 0x80014
def XPH_FSW.FSW : Fld := ⟨XPH_FSW, 10, 0⟩
/-- XPH_TON: spec/05_front_stage.md, instance reset. -/
def XPH_TON : Nat := 0x80018
def XPH_TON.TON : Fld := ⟨XPH_TON, 15, 0⟩
/-- XPH_TLIM: spec/05_front_stage.md, instance reset. -/
def XPH_TLIM : Nat := 0x8001c
def XPH_TLIM.TON_MAX : Fld := ⟨XPH_TLIM, 31, 16⟩
def XPH_TLIM.TBLANK : Fld := ⟨XPH_TLIM, 15, 8⟩
def XPH_TLIM.TON_MIN : Fld := ⟨XPH_TLIM, 7, 0⟩
/-- XPH_RIP: spec/05_front_stage.md, instance reset. -/
def XPH_RIP : Nat := 0x80020
def XPH_RIP.FAST : Fld := ⟨XPH_RIP, 23, 20⟩
def XPH_RIP.LEAK : Fld := ⟨XPH_RIP, 19, 16⟩
def XPH_RIP.KRIP : Fld := ⟨XPH_RIP, 9, 0⟩
/-- XPH_OV: spec/05_front_stage.md, instance reset. -/
def XPH_OV : Nat := 0x80024
def XPH_OV.OV : Fld := ⟨XPH_OV, 27, 16⟩
def XPH_OV.REL : Fld := ⟨XPH_OV, 11, 0⟩
/-- XPH_OCP: spec/05_front_stage.md, instance reset. -/
def XPH_OCP : Nat := 0x80028
def XPH_OCP.OT : Fld := ⟨XPH_OCP, 31, 24⟩
def XPH_OCP.OCP : Fld := ⟨XPH_OCP, 23, 16⟩
def XPH_OCP.ILIM : Fld := ⟨XPH_OCP, 15, 8⟩
def XPH_OCP.NILIM : Fld := ⟨XPH_OCP, 7, 0⟩
/-- XPH_SS: spec/05_front_stage.md, instance reset. -/
def XPH_SS : Nat := 0x8002c
def XPH_SS.NR_MARGIN : Fld := ⟨XPH_SS, 31, 24⟩
def XPH_SS.NR_WIN : Fld := ⟨XPH_SS, 23, 14⟩
def XPH_SS.SLOPE : Fld := ⟨XPH_SS, 7, 0⟩
/-- XPH_SHED: spec/05_front_stage.md, instance reset. -/
def XPH_SHED : Nat := 0x80030
def XPH_SHED.STEP_TH : Fld := ⟨XPH_SHED, 31, 24⟩
def XPH_SHED.HOLD : Fld := ⟨XPH_SHED, 23, 16⟩
def XPH_SHED.DWELL : Fld := ⟨XPH_SHED, 15, 8⟩
def XPH_SHED.IPER : Fld := ⟨XPH_SHED, 7, 0⟩
/-- XPH_NREQ: spec/05_front_stage.md, instance reset. -/
def XPH_NREQ : Nat := 0x80034
def XPH_NREQ.NFC : Fld := ⟨XPH_NREQ, 21, 16⟩
def XPH_NREQ.NSW : Fld := ⟨XPH_NREQ, 5, 0⟩
/-- XPH_VIMPT01: spec/05_front_stage.md, instance reset. -/
def XPH_VIMPT01 : Nat := 0x80038
def XPH_VIMPT01.EXCL1 : Fld := ⟨XPH_VIMPT01, 31, 31⟩
def XPH_VIMPT01.V1 : Fld := ⟨XPH_VIMPT01, 27, 16⟩
def XPH_VIMPT01.EXCL0 : Fld := ⟨XPH_VIMPT01, 15, 15⟩
def XPH_VIMPT01.V0 : Fld := ⟨XPH_VIMPT01, 11, 0⟩
/-- XPH_VIMPT23: spec/05_front_stage.md, instance reset. -/
def XPH_VIMPT23 : Nat := 0x8003c
def XPH_VIMPT23.EXCL3 : Fld := ⟨XPH_VIMPT23, 31, 31⟩
def XPH_VIMPT23.V3 : Fld := ⟨XPH_VIMPT23, 27, 16⟩
def XPH_VIMPT23.EXCL2 : Fld := ⟨XPH_VIMPT23, 15, 15⟩
def XPH_VIMPT23.V2 : Fld := ⟨XPH_VIMPT23, 11, 0⟩
/-- XPH_IN: spec/05_front_stage.md, instance reset. -/
def XPH_IN : Nat := 0x80040
def XPH_IN.I12 : Fld := ⟨XPH_IN, 31, 16⟩
def XPH_IN.V12 : Fld := ⟨XPH_IN, 15, 0⟩
/-- XPH_IVIM: spec/05_front_stage.md, instance reset. -/
def XPH_IVIM : Nat := 0x80044
def XPH_IVIM.IPEAK : Fld := ⟨XPH_IVIM, 31, 16⟩
def XPH_IVIM.IVIM : Fld := ⟨XPH_IVIM, 15, 0⟩
/-- XPH_EVT: spec/05_front_stage.md, instance reset. -/
def XPH_EVT : Nat := 0x80048
def XPH_EVT.RUN : Fld := ⟨XPH_EVT, 7, 7⟩
def XPH_EVT.LATCH : Fld := ⟨XPH_EVT, 6, 6⟩
def XPH_EVT.PH_LATCH : Fld := ⟨XPH_EVT, 5, 5⟩
def XPH_EVT.PT_EXCL : Fld := ⟨XPH_EVT, 4, 4⟩
def XPH_EVT.SYNC_LOCK : Fld := ⟨XPH_EVT, 3, 3⟩
def XPH_EVT.SYNC_LOST : Fld := ⟨XPH_EVT, 2, 2⟩
def XPH_EVT.SHED_CANCEL : Fld := ⟨XPH_EVT, 1, 1⟩
def XPH_EVT.STEP : Fld := ⟨XPH_EVT, 0, 0⟩
/-- XPH_PH_CFG: spec/05_front_stage.md, instance reset. -/
def XPH_PH_CFG (p : Nat) : Nat := 0x81000 + 0x20 * p
def XPH_PH_CFG.EN (p : Nat) : Fld := ⟨XPH_PH_CFG p, 31, 31⟩
def XPH_PH_CFG.OFS (p : Nat) : Fld := ⟨XPH_PH_CFG p, 21, 16⟩
def XPH_PH_CFG.TRIM (p : Nat) : Fld := ⟨XPH_PH_CFG p, 7, 0⟩
/-- XPH_PH_STAT: spec/05_front_stage.md, instance reset. -/
def XPH_PH_STAT (p : Nat) : Nat := 0x81004 + 0x20 * p
def XPH_PH_STAT.LCAUSE (p : Nat) : Fld := ⟨XPH_PH_STAT p, 19, 16⟩
def XPH_PH_STAT.ILIM_SEEN (p : Nat) : Fld := ⟨XPH_PH_STAT p, 8, 8⟩
def XPH_PH_STAT.STATE (p : Nat) : Fld := ⟨XPH_PH_STAT p, 2, 0⟩
/-- XPH_PH_CTRL: spec/05_front_stage.md, instance reset. -/
def XPH_PH_CTRL (p : Nat) : Nat := 0x81008 + 0x20 * p
def XPH_PH_CTRL.CLR (p : Nat) : Fld := ⟨XPH_PH_CTRL p, 0, 0⟩
/-- XPH_PH_MEAS: spec/05_front_stage.md, instance reset. -/
def XPH_PH_MEAS (p : Nat) : Nat := 0x8100c + 0x20 * p
def XPH_PH_MEAS.TEMP (p : Nat) : Fld := ⟨XPH_PH_MEAS p, 31, 24⟩
def XPH_PH_MEAS.I (p : Nat) : Fld := ⟨XPH_PH_MEAS p, 15, 0⟩
/-- RGN_CFG_CTRL: spec/04_regions.md, instance reset. -/
def RGN_CFG_CTRL : Nat := 0x100000
def RGN_CFG_CTRL.REVERT : Fld := ⟨RGN_CFG_CTRL, 1, 1⟩
def RGN_CFG_CTRL.COMMIT : Fld := ⟨RGN_CFG_CTRL, 0, 0⟩
/-- RGN_CMD: spec/04_regions.md, instance reset. -/
def RGN_CMD (n : Nat) : Nat := 0x100000 + 0x100 * n
def RGN_CMD.RES (n : Nat) : Fld := ⟨RGN_CMD n, 31, 16⟩
def RGN_CMD.PEND (n : Nat) : Fld := ⟨RGN_CMD n, 15, 15⟩
def RGN_CMD.OP (n : Nat) : Fld := ⟨RGN_CMD n, 3, 0⟩
/-- RGN_CFG_STAT: spec/04_regions.md, instance reset. -/
def RGN_CFG_STAT : Nat := 0x100004
def RGN_CFG_STAT.RES : Fld := ⟨RGN_CFG_STAT, 31, 16⟩
def RGN_CFG_STAT.BUSY : Fld := ⟨RGN_CFG_STAT, 15, 15⟩
def RGN_CFG_STAT.WR_DURING : Fld := ⟨RGN_CFG_STAT, 14, 14⟩
def RGN_CFG_STAT.ERR_CAUSE : Fld := ⟨RGN_CFG_STAT, 11, 8⟩
def RGN_CFG_STAT.ERR_RGN : Fld := ⟨RGN_CFG_STAT, 7, 0⟩
/-- RGN_STAT: spec/04_regions.md, instance reset. -/
def RGN_STAT (n : Nat) : Nat := 0x100004 + 0x100 * n
def RGN_STAT.LAME_N (n : Nat) : Fld := ⟨RGN_STAT n, 22, 16⟩
def RGN_STAT.SLOWED (n : Nat) : Fld := ⟨RGN_STAT n, 5, 5⟩
def RGN_STAT.ENABLE_PENDING (n : Nat) : Fld := ⟨RGN_STAT n, 4, 4⟩
def RGN_STAT.STATE (n : Nat) : Fld := ⟨RGN_STAT n, 2, 0⟩
/-- RGN_CFG_CNT: spec/04_regions.md, instance reset. -/
def RGN_CFG_CNT : Nat := 0x100008
def RGN_CFG_CNT.COUNT : Fld := ⟨RGN_CFG_CNT, 31, 0⟩
/-- RGN_HEALTH: spec/04_regions.md, instance reset. -/
def RGN_HEALTH (n : Nat) : Nat := 0x100008 + 0x100 * n
def RGN_HEALTH.NH (n : Nat) : Fld := ⟨RGN_HEALTH n, 27, 16⟩
def RGN_HEALTH.NA (n : Nat) : Fld := ⟨RGN_HEALTH n, 11, 0⟩
/-- RGN_ISUM: spec/04_regions.md, instance reset. -/
def RGN_ISUM (n : Nat) : Nat := 0x10000c + 0x100 * n
def RGN_ISUM.IPEAK (n : Nat) : Fld := ⟨RGN_ISUM n, 31, 16⟩
def RGN_ISUM.I (n : Nat) : Fld := ⟨RGN_ISUM n, 15, 0⟩
/-- RGN_VSET: spec/04_regions.md, instance reset. -/
def RGN_VSET (n : Nat) : Nat := 0x100010 + 0x100 * n
def RGN_VSET.CODE (n : Nat) : Fld := ⟨RGN_VSET n, 8, 0⟩
/-- RGN_VEFF: spec/04_regions.md, instance reset. -/
def RGN_VEFF (n : Nat) : Nat := 0x100014 + 0x100 * n
def RGN_VEFF.CODE (n : Nat) : Fld := ⟨RGN_VEFF n, 8, 0⟩
/-- RGN_RAMP: spec/04_regions.md, instance reset. -/
def RGN_RAMP (n : Nat) : Nat := 0x100018 + 0x100 * n
def RGN_RAMP.HR (n : Nat) : Fld := ⟨RGN_RAMP n, 31, 16⟩
def RGN_RAMP.REF (n : Nat) : Fld := ⟨RGN_RAMP n, 10, 0⟩
/-- RGN_FAULT: spec/04_regions.md, instance reset. -/
def RGN_FAULT (n : Nat) : Nat := 0x10001c + 0x100 * n
def RGN_FAULT.CAUSE (n : Nat) : Fld := ⟨RGN_FAULT n, 3, 0⟩
/-- RGN_LIM: spec/04_regions.md, instance reset. -/
def RGN_LIM (n : Nat) : Nat := 0x100020 + 0x100 * n
def RGN_LIM.VMAX (n : Nat) : Fld := ⟨RGN_LIM n, 24, 16⟩
def RGN_LIM.VMIN (n : Nat) : Fld := ⟨RGN_LIM n, 8, 0⟩
/-- RGN_VTRIP: spec/04_regions.md, instance reset. -/
def RGN_VTRIP (n : Nat) : Nat := 0x100024 + 0x100 * n
def RGN_VTRIP.VTRIP (n : Nat) : Fld := ⟨RGN_VTRIP n, 8, 0⟩
/-- RGN_SS: spec/04_regions.md, instance reset. -/
def RGN_SS (n : Nat) : Nat := 0x100028 + 0x100 * n
def RGN_SS.WIN (n : Nat) : Fld := ⟨RGN_SS n, 31, 24⟩
def RGN_SS.DSLOPE (n : Nat) : Fld := ⟨RGN_SS n, 23, 16⟩
def RGN_SS.SLOPE (n : Nat) : Fld := ⟨RGN_SS n, 15, 8⟩
/-- RGN_INRUSH: spec/04_regions.md, instance reset. -/
def RGN_INRUSH (n : Nat) : Nat := 0x10002c + 0x100 * n
def RGN_INRUSH.BUDGET (n : Nat) : Fld := ⟨RGN_INRUSH n, 15, 0⟩
/-- RGN_FLOOR: spec/04_regions.md, instance reset. -/
def RGN_FLOOR (n : Nat) : Nat := 0x100030 + 0x100 * n
def RGN_FLOOR.FLOOR (n : Nat) : Fld := ⟨RGN_FLOOR n, 6, 0⟩
/-- RGN_EG_LO: spec/04_regions.md, instance reset. -/
def RGN_EG_LO (n : Nat) : Nat := 0x100034 + 0x100 * n
def RGN_EG_LO.EG (n : Nat) : Fld := ⟨RGN_EG_LO n, 31, 0⟩
/-- RGN_EG_HI: spec/04_regions.md, instance reset. -/
def RGN_EG_HI (n : Nat) : Nat := 0x100038 + 0x100 * n
def RGN_EG_HI.EG (n : Nat) : Fld := ⟨RGN_EG_HI n, 31, 0⟩
/-- RGN_PROF: spec/04_regions.md, instance reset. -/
def RGN_PROF (n : Nat) : Nat := 0x10003c + 0x100 * n
def RGN_PROF.PG_EN (n : Nat) : Fld := ⟨RGN_PROF n, 4, 4⟩
def RGN_PROF.PG (n : Nat) : Fld := ⟨RGN_PROF n, 3, 0⟩
/-- RGN_EVT_FAULT: spec/04_regions.md, instance reset. -/
def RGN_EVT_FAULT (i : Nat) : Nat := 0x100040 + 0x4 * i
def RGN_EVT_FAULT.EVT (i : Nat) : Fld := ⟨RGN_EVT_FAULT i, 31, 0⟩
/-- RGN_EVT_LAME: spec/04_regions.md, instance reset. -/
def RGN_EVT_LAME (i : Nat) : Nat := 0x100060 + 0x4 * i
def RGN_EVT_LAME.EVT (i : Nat) : Fld := ⟨RGN_EVT_LAME i, 31, 0⟩
/-- RGN_LIM_LIVE: spec/04_regions.md, instance reset. -/
def RGN_LIM_LIVE (n : Nat) : Nat := 0x100060 + 0x100 * n
def RGN_LIM_LIVE.VMAX (n : Nat) : Fld := ⟨RGN_LIM_LIVE n, 24, 16⟩
def RGN_LIM_LIVE.VMIN (n : Nat) : Fld := ⟨RGN_LIM_LIVE n, 8, 0⟩
/-- RGN_VTRIP_LIVE: spec/04_regions.md, instance reset. -/
def RGN_VTRIP_LIVE (n : Nat) : Nat := 0x100064 + 0x100 * n
def RGN_VTRIP_LIVE.VTRIP (n : Nat) : Fld := ⟨RGN_VTRIP_LIVE n, 8, 0⟩
/-- RGN_SS_LIVE: spec/04_regions.md, instance reset. -/
def RGN_SS_LIVE (n : Nat) : Nat := 0x100068 + 0x100 * n
def RGN_SS_LIVE.WIN (n : Nat) : Fld := ⟨RGN_SS_LIVE n, 31, 24⟩
def RGN_SS_LIVE.DSLOPE (n : Nat) : Fld := ⟨RGN_SS_LIVE n, 23, 16⟩
def RGN_SS_LIVE.SLOPE (n : Nat) : Fld := ⟨RGN_SS_LIVE n, 15, 8⟩
/-- RGN_INRUSH_LIVE: spec/04_regions.md, instance reset. -/
def RGN_INRUSH_LIVE (n : Nat) : Nat := 0x10006c + 0x100 * n
def RGN_INRUSH_LIVE.BUDGET (n : Nat) : Fld := ⟨RGN_INRUSH_LIVE n, 15, 0⟩
/-- RGN_FLOOR_LIVE: spec/04_regions.md, instance reset. -/
def RGN_FLOOR_LIVE (n : Nat) : Nat := 0x100070 + 0x100 * n
def RGN_FLOOR_LIVE.FLOOR (n : Nat) : Fld := ⟨RGN_FLOOR_LIVE n, 6, 0⟩
/-- RGN_EG_LO_LIVE: spec/04_regions.md, instance reset. -/
def RGN_EG_LO_LIVE (n : Nat) : Nat := 0x100074 + 0x100 * n
def RGN_EG_LO_LIVE.EG (n : Nat) : Fld := ⟨RGN_EG_LO_LIVE n, 31, 0⟩
/-- RGN_EG_HI_LIVE: spec/04_regions.md, instance reset. -/
def RGN_EG_HI_LIVE (n : Nat) : Nat := 0x100078 + 0x100 * n
def RGN_EG_HI_LIVE.EG (n : Nat) : Fld := ⟨RGN_EG_HI_LIVE n, 31, 0⟩
/-- RGN_PROF_LIVE: spec/04_regions.md, instance reset. -/
def RGN_PROF_LIVE (n : Nat) : Nat := 0x10007c + 0x100 * n
def RGN_PROF_LIVE.PG_EN (n : Nat) : Fld := ⟨RGN_PROF_LIVE n, 4, 4⟩
def RGN_PROF_LIVE.PG (n : Nat) : Fld := ⟨RGN_PROF_LIVE n, 3, 0⟩
/-- RGN_FAULT_TS: spec/04_regions.md, instance reset. -/
def RGN_FAULT_TS (n : Nat) : Nat := 0x100080 + 0x100 * n
def RGN_FAULT_TS.TS (n : Nat) : Fld := ⟨RGN_FAULT_TS n, 31, 0⟩
/-- RGN_EVT_CMD: spec/04_regions.md, instance reset. -/
def RGN_EVT_CMD (i : Nat) : Nat := 0x100080 + 0x4 * i
def RGN_EVT_CMD.EVT (i : Nat) : Fld := ⟨RGN_EVT_CMD i, 31, 0⟩
/-- CELL_MAP: spec/03_cells.md, instance reset. -/
def CELL_MAP (c : Nat) : Nat := 0x200000 + 0x40 * c
def CELL_MAP.NO_ASSIST (c : Nat) : Fld := ⟨CELL_MAP c, 10, 10⟩
def CELL_MAP.SNS_OUT (c : Nat) : Fld := ⟨CELL_MAP c, 9, 9⟩
def CELL_MAP.SPARE (c : Nat) : Fld := ⟨CELL_MAP c, 8, 8⟩
def CELL_MAP.REGION (c : Nat) : Fld := ⟨CELL_MAP c, 7, 0⟩
/-- CELL_MAP_LIVE: spec/03_cells.md, instance reset. -/
def CELL_MAP_LIVE (c : Nat) : Nat := 0x200004 + 0x40 * c
def CELL_MAP_LIVE.NO_ASSIST (c : Nat) : Fld := ⟨CELL_MAP_LIVE c, 10, 10⟩
def CELL_MAP_LIVE.SNS_OUT (c : Nat) : Fld := ⟨CELL_MAP_LIVE c, 9, 9⟩
def CELL_MAP_LIVE.SPARE (c : Nat) : Fld := ⟨CELL_MAP_LIVE c, 8, 8⟩
def CELL_MAP_LIVE.REGION (c : Nat) : Fld := ⟨CELL_MAP_LIVE c, 7, 0⟩
/-- CELL_CMD: spec/03_cells.md, instance reset. -/
def CELL_CMD (c : Nat) : Nat := 0x200008 + 0x40 * c
def CELL_CMD.RES (c : Nat) : Fld := ⟨CELL_CMD c, 31, 16⟩
def CELL_CMD.PEND (c : Nat) : Fld := ⟨CELL_CMD c, 15, 15⟩
def CELL_CMD.OP (c : Nat) : Fld := ⟨CELL_CMD c, 3, 0⟩
/-- CELL_STAT: spec/03_cells.md, instance reset. -/
def CELL_STAT (c : Nat) : Nat := 0x20000c + 0x40 * c
def CELL_STAT.CAUSE (c : Nat) : Fld := ⟨CELL_STAT c, 23, 20⟩
def CELL_STAT.MAP_PEND (c : Nat) : Fld := ⟨CELL_STAT c, 19, 19⟩
def CELL_STAT.SAFE (c : Nat) : Fld := ⟨CELL_STAT c, 18, 18⟩
def CELL_STAT.FOLDBACK (c : Nat) : Fld := ⟨CELL_STAT c, 17, 17⟩
def CELL_STAT.ILIM (c : Nat) : Fld := ⟨CELL_STAT c, 16, 16⟩
def CELL_STAT.ILIM_SEEN (c : Nat) : Fld := ⟨CELL_STAT c, 15, 15⟩
def CELL_STAT.HYS_LO (c : Nat) : Fld := ⟨CELL_STAT c, 14, 14⟩
def CELL_STAT.HYS_HI (c : Nat) : Fld := ⟨CELL_STAT c, 13, 13⟩
def CELL_STAT.NBR_UNC (c : Nat) : Fld := ⟨CELL_STAT c, 12, 10⟩
def CELL_STAT.TGT_BAD (c : Nat) : Fld := ⟨CELL_STAT c, 9, 9⟩
def CELL_STAT.STATE (c : Nat) : Fld := ⟨CELL_STAT c, 2, 0⟩
/-- CELL_TGT: spec/03_cells.md, instance reset. -/
def CELL_TGT (c : Nat) : Nat := 0x200010 + 0x40 * c
def CELL_TGT.RATIO (c : Nat) : Fld := ⟨CELL_TGT c, 22, 20⟩
def CELL_TGT.BLEND (c : Nat) : Fld := ⟨CELL_TGT c, 19, 16⟩
def CELL_TGT.FCODE_BASE (c : Nat) : Fld := ⟨CELL_TGT c, 14, 8⟩
def CELL_TGT.FCODE (c : Nat) : Fld := ⟨CELL_TGT c, 6, 0⟩
/-- CELL_TGT_SP: spec/03_cells.md, instance reset. -/
def CELL_TGT_SP (c : Nat) : Nat := 0x200014 + 0x40 * c
def CELL_TGT_SP.VT (c : Nat) : Fld := ⟨CELL_TGT_SP c, 24, 16⟩
def CELL_TGT_SP.SPMASK (c : Nat) : Fld := ⟨CELL_TGT_SP c, 15, 0⟩
/-- CELL_TRIM: spec/03_cells.md, instance reset. -/
def CELL_TRIM (c : Nat) : Nat := 0x200018 + 0x40 * c
def CELL_TRIM.VW (c : Nat) : Fld := ⟨CELL_TRIM c, 27, 24⟩
def CELL_TRIM.FBAND (c : Nat) : Fld := ⟨CELL_TRIM c, 19, 16⟩
def CELL_TRIM.NB_BOOST (c : Nat) : Fld := ⟨CELL_TRIM c, 10, 8⟩
def CELL_TRIM.FOFS (c : Nat) : Fld := ⟨CELL_TRIM c, 4, 0⟩
/-- CELL_IMEAS: spec/03_cells.md, instance reset. -/
def CELL_IMEAS (c : Nat) : Nat := 0x20001c + 0x40 * c
def CELL_IMEAS.IPEAK (c : Nat) : Fld := ⟨CELL_IMEAS c, 28, 16⟩
def CELL_IMEAS.I (c : Nat) : Fld := ⟨CELL_IMEAS c, 12, 0⟩
/-- CELL_EXQ: spec/03_cells.md, instance reset. -/
def CELL_EXQ (c : Nat) : Nat := 0x200020 + 0x40 * c
def CELL_EXQ.EXQ (c : Nat) : Fld := ⟨CELL_EXQ c, 15, 0⟩
/-- CELL_VS01: spec/03_cells.md, instance reset. -/
def CELL_VS01 (c : Nat) : Nat := 0x200024 + 0x40 * c
def CELL_VS01.VALID1 (c : Nat) : Fld := ⟨CELL_VS01 c, 31, 31⟩
def CELL_VS01.V1 (c : Nat) : Fld := ⟨CELL_VS01 c, 26, 16⟩
def CELL_VS01.VALID0 (c : Nat) : Fld := ⟨CELL_VS01 c, 15, 15⟩
def CELL_VS01.V0 (c : Nat) : Fld := ⟨CELL_VS01 c, 10, 0⟩
/-- CELL_VS23: spec/03_cells.md, instance reset. -/
def CELL_VS23 (c : Nat) : Nat := 0x200028 + 0x40 * c
def CELL_VS23.VALID3 (c : Nat) : Fld := ⟨CELL_VS23 c, 31, 31⟩
def CELL_VS23.V3 (c : Nat) : Fld := ⟨CELL_VS23 c, 26, 16⟩
def CELL_VS23.VALID2 (c : Nat) : Fld := ⟨CELL_VS23 c, 15, 15⟩
def CELL_VS23.V2 (c : Nat) : Fld := ⟨CELL_VS23 c, 10, 0⟩
/-- CELL_SNS: spec/03_cells.md, instance reset. -/
def CELL_SNS (c : Nat) : Nat := 0x20002c + 0x40 * c
def CELL_SNS.XCAUSE (c : Nat) : Fld := ⟨CELL_SNS c, 15, 8⟩
def CELL_SNS.EXCL (c : Nat) : Fld := ⟨CELL_SNS c, 3, 0⟩
/-- CELL_VCAL01: spec/03_cells.md, instance reset. -/
def CELL_VCAL01 (c : Nat) : Nat := 0x200030 + 0x40 * c
def CELL_VCAL01.GAIN1 (c : Nat) : Fld := ⟨CELL_VCAL01 c, 31, 24⟩
def CELL_VCAL01.OFS1 (c : Nat) : Fld := ⟨CELL_VCAL01 c, 23, 16⟩
def CELL_VCAL01.GAIN0 (c : Nat) : Fld := ⟨CELL_VCAL01 c, 15, 8⟩
def CELL_VCAL01.OFS0 (c : Nat) : Fld := ⟨CELL_VCAL01 c, 7, 0⟩
/-- CELL_VCAL23: spec/03_cells.md, instance reset. -/
def CELL_VCAL23 (c : Nat) : Nat := 0x200034 + 0x40 * c
def CELL_VCAL23.GAIN3 (c : Nat) : Fld := ⟨CELL_VCAL23 c, 31, 24⟩
def CELL_VCAL23.OFS3 (c : Nat) : Fld := ⟨CELL_VCAL23 c, 23, 16⟩
def CELL_VCAL23.GAIN2 (c : Nat) : Fld := ⟨CELL_VCAL23 c, 15, 8⟩
def CELL_VCAL23.OFS2 (c : Nat) : Fld := ⟨CELL_VCAL23 c, 7, 0⟩
/-- CELL_TEST: spec/03_cells.md, instance reset. -/
def CELL_TEST (c : Nat) : Nat := 0x200038 + 0x40 * c
def CELL_TEST.TSNS (c : Nat) : Fld := ⟨CELL_TEST c, 28, 27⟩
def CELL_TEST.TFCODE (c : Nat) : Fld := ⟨CELL_TEST c, 26, 20⟩
def CELL_TEST.TBLEND (c : Nat) : Fld := ⟨CELL_TEST c, 19, 16⟩
def CELL_TEST.TRATIO (c : Nat) : Fld := ⟨CELL_TEST c, 12, 10⟩
def CELL_TEST.LOAD (c : Nat) : Fld := ⟨CELL_TEST c, 9, 4⟩
def CELL_TEST.GO (c : Nat) : Fld := ⟨CELL_TEST c, 3, 3⟩
def CELL_TEST.MODE (c : Nat) : Fld := ⟨CELL_TEST c, 2, 0⟩
/-- CELL_TEST_RES: spec/03_cells.md, instance reset. -/
def CELL_TEST_RES (c : Nat) : Nat := 0x20003c + 0x40 * c
def CELL_TEST_RES.DONE (c : Nat) : Fld := ⟨CELL_TEST_RES c, 31, 31⟩
def CELL_TEST_RES.FAIL (c : Nat) : Fld := ⟨CELL_TEST_RES c, 30, 30⟩
def CELL_TEST_RES.RESA (c : Nat) : Fld := ⟨CELL_TEST_RES c, 27, 16⟩
def CELL_TEST_RES.RESB (c : Nat) : Fld := ⟨CELL_TEST_RES c, 15, 0⟩
/-- VSN_VMIN: spec/04_regions.md, instance reset. -/
def VSN_VMIN (n : Nat) : Nat := 0x400000 + 0x20 * n
def VSN_VMIN.VALID (n : Nat) : Fld := ⟨VSN_VMIN n, 31, 31⟩
def VSN_VMIN.CNT (n : Nat) : Fld := ⟨VSN_VMIN n, 29, 16⟩
def VSN_VMIN.V (n : Nat) : Fld := ⟨VSN_VMIN n, 10, 0⟩
/-- VSN_MINV: spec/04_regions.md, instance reset. -/
def VSN_MINV (n : Nat) : Nat := 0x400004 + 0x20 * n
def VSN_MINV.VALID (n : Nat) : Fld := ⟨VSN_MINV n, 31, 31⟩
def VSN_MINV.SENSOR (n : Nat) : Fld := ⟨VSN_MINV n, 29, 16⟩
def VSN_MINV.V (n : Nat) : Fld := ⟨VSN_MINV n, 10, 0⟩
/-- VSN_MINV_TSL: spec/04_regions.md, instance reset. -/
def VSN_MINV_TSL (n : Nat) : Nat := 0x400008 + 0x20 * n
def VSN_MINV_TSL.TS_LO (n : Nat) : Fld := ⟨VSN_MINV_TSL n, 31, 0⟩
/-- VSN_MINV_TSH: spec/04_regions.md, instance reset. -/
def VSN_MINV_TSH (n : Nat) : Nat := 0x40000c + 0x20 * n
def VSN_MINV_TSH.TS_HI (n : Nat) : Fld := ⟨VSN_MINV_TSH n, 31, 0⟩
/-- VSN_CTRL: spec/04_regions.md, instance reset. -/
def VSN_CTRL (n : Nat) : Nat := 0x400010 + 0x20 * n
def VSN_CTRL.CLR (n : Nat) : Fld := ⟨VSN_CTRL n, 0, 0⟩
/-- SNS_CTRL: spec/13_sense_converters.md, instance reset. -/
def SNS_CTRL : Nat := 0x600000
def SNS_CTRL.CHK_EN : Fld := ⟨SNS_CTRL, 4, 4⟩
def SNS_CTRL.EN : Fld := ⟨SNS_CTRL, 3, 0⟩
/-- SNS_STAT: spec/13_sense_converters.md, instance reset. -/
def SNS_STAT : Nat := 0x600004
def SNS_STAT.BLAME23 : Fld := ⟨SNS_STAT, 19, 18⟩
def SNS_STAT.BLAME01 : Fld := ⟨SNS_STAT, 17, 16⟩
def SNS_STAT.PAIR23_BAD : Fld := ⟨SNS_STAT, 13, 13⟩
def SNS_STAT.PAIR01_BAD : Fld := ⟨SNS_STAT, 12, 12⟩
def SNS_STAT.REF_BAD : Fld := ⟨SNS_STAT, 11, 8⟩
def SNS_STAT.SETTLED : Fld := ⟨SNS_STAT, 7, 4⟩
def SNS_STAT.RUN : Fld := ⟨SNS_STAT, 3, 0⟩
/-- SNS_CHK: spec/13_sense_converters.md, instance reset. -/
def SNS_CHK : Nat := 0x600008
def SNS_CHK.PER : Fld := ⟨SNS_CHK, 31, 24⟩
def SNS_CHK.NFAIL : Fld := ⟨SNS_CHK, 23, 20⟩
def SNS_CHK.RTOL : Fld := ⟨SNS_CHK, 15, 8⟩
def SNS_CHK.TOL : Fld := ⟨SNS_CHK, 7, 0⟩
/-- SNS_EVT: spec/13_sense_converters.md, instance reset. -/
def SNS_EVT : Nat := 0x60000c
def SNS_EVT.URG_BAD : Fld := ⟨SNS_EVT, 5, 5⟩
def SNS_EVT.URG_OVF : Fld := ⟨SNS_EVT, 4, 4⟩
def SNS_EVT.URG_DONE : Fld := ⟨SNS_EVT, 3, 3⟩
def SNS_EVT.SETTLED : Fld := ⟨SNS_EVT, 2, 2⟩
def SNS_EVT.REFCHK : Fld := ⟨SNS_EVT, 1, 1⟩
def SNS_EVT.PLAUS : Fld := ⟨SNS_EVT, 0, 0⟩
/-- SNS_V12K: spec/13_sense_converters.md, instance reset. -/
def SNS_V12K : Nat := 0x600010
def SNS_V12K.KV12 : Fld := ⟨SNS_V12K, 15, 0⟩
/-- SNS_I12K: spec/13_sense_converters.md, instance reset. -/
def SNS_I12K : Nat := 0x600014
def SNS_I12K.I12OFS : Fld := ⟨SNS_I12K, 31, 16⟩
def SNS_I12K.I12K : Fld := ⟨SNS_I12K, 15, 0⟩
/-- SNS_PRIV: spec/13_sense_converters.md, instance reset. -/
def SNS_PRIV : Nat := 0x600018
def SNS_PRIV.SLOT : Fld := ⟨SNS_PRIV, 31, 0⟩
/-- SNS_AON: spec/13_sense_converters.md, instance reset. -/
def SNS_AON : Nat := 0x60001c
def SNS_AON.VAON : Fld := ⟨SNS_AON, 31, 16⟩
def SNS_AON.HOLD : Fld := ⟨SNS_AON, 15, 0⟩
/-- SNS_WEVT_LO: spec/13_sense_converters.md, instance reset. -/
def SNS_WEVT_LO : Nat := 0x600020
def SNS_WEVT_LO.EVT : Fld := ⟨SNS_WEVT_LO, 31, 0⟩
/-- SNS_WEVT_HI: spec/13_sense_converters.md, instance reset. -/
def SNS_WEVT_HI : Nat := 0x600024
def SNS_WEVT_HI.EVT : Fld := ⟨SNS_WEVT_HI, 31, 0⟩
/-- SNS_CFG: spec/13_sense_converters.md, instance reset. -/
def SNS_CFG (k : Nat) : Nat := 0x601000 + 0x400 * k
def SNS_CFG.REF (k : Nat) : Fld := ⟨SNS_CFG k, 31, 30⟩
def SNS_CFG.VEXT (k : Nat) : Fld := ⟨SNS_CFG k, 10, 0⟩
/-- SNS_MASK_LO: spec/13_sense_converters.md, instance reset. -/
def SNS_MASK_LO (k : Nat) : Nat := 0x601004 + 0x400 * k
def SNS_MASK_LO.MASK (k : Nat) : Fld := ⟨SNS_MASK_LO k, 31, 0⟩
/-- SNS_MASK_HI: spec/13_sense_converters.md, instance reset. -/
def SNS_MASK_HI (k : Nat) : Nat := 0x601008 + 0x400 * k
def SNS_MASK_HI.MASK (k : Nat) : Fld := ⟨SNS_MASK_HI k, 15, 0⟩
/-- SNS_TRIM: spec/13_sense_converters.md, instance reset. -/
def SNS_TRIM (k : Nat) : Nat := 0x60100c + 0x400 * k
def SNS_TRIM.GAIN (k : Nat) : Fld := ⟨SNS_TRIM k, 31, 16⟩
def SNS_TRIM.OFS (k : Nat) : Fld := ⟨SNS_TRIM k, 15, 0⟩
/-- SNS_URG: spec/13_sense_converters.md, instance reset. -/
def SNS_URG (k : Nat) : Nat := 0x601010 + 0x400 * k
def SNS_URG.QD (k : Nat) : Fld := ⟨SNS_URG k, 10, 8⟩
def SNS_URG.CH (k : Nat) : Fld := ⟨SNS_URG k, 5, 0⟩
/-- SNS_URES: spec/13_sense_converters.md, instance reset. -/
def SNS_URES (k : Nat) : Nat := 0x601014 + 0x400 * k
def SNS_URES.VALID (k : Nat) : Fld := ⟨SNS_URES k, 31, 31⟩
def SNS_URES.OVR (k : Nat) : Fld := ⟨SNS_URES k, 30, 30⟩
def SNS_URES.CH (k : Nat) : Fld := ⟨SNS_URES k, 21, 16⟩
def SNS_URES.CODE (k : Nat) : Fld := ⟨SNS_URES k, 15, 0⟩
/-- SNS_CNT: spec/13_sense_converters.md, instance reset. -/
def SNS_CNT (k : Nat) : Nat := 0x601018 + 0x400 * k
def SNS_CNT.COUNT (k : Nat) : Fld := ⟨SNS_CNT k, 31, 0⟩
/-- SNS_RES: spec/13_sense_converters.md, instance reset. -/
def SNS_RES (k : Nat) (ch : Nat) : Nat := 0x601100 + 0x400 * k + 0x4 * ch
def SNS_RES.VALID (k : Nat) (ch : Nat) : Fld := ⟨SNS_RES k ch, 31, 31⟩
def SNS_RES.OVR (k : Nat) (ch : Nat) : Fld := ⟨SNS_RES k ch, 30, 30⟩
def SNS_RES.SEQ (k : Nat) (ch : Nat) : Fld := ⟨SNS_RES k ch, 29, 24⟩
def SNS_RES.NVC (k : Nat) (ch : Nat) : Fld := ⟨SNS_RES k ch, 18, 16⟩
def SNS_RES.CODE (k : Nat) (ch : Nat) : Fld := ⟨SNS_RES k ch, 15, 0⟩
/-- SNS_WC_CFG: spec/13_sense_converters.md, instance reset. -/
def SNS_WC_CFG (w : Nat) : Nat := 0x602000 + 0x10 * w
def SNS_WC_CFG.EN (w : Nat) : Fld := ⟨SNS_WC_CFG w, 31, 31⟩
def SNS_WC_CFG.CBSE (w : Nat) : Fld := ⟨SNS_WC_CFG w, 30, 30⟩
def SNS_WC_CFG.REENTRY (w : Nat) : Fld := ⟨SNS_WC_CFG w, 29, 29⟩
def SNS_WC_CFG.ROUTE (w : Nat) : Fld := ⟨SNS_WC_CFG w, 28, 26⟩
def SNS_WC_CFG.CONV (w : Nat) : Fld := ⟨SNS_WC_CFG w, 25, 24⟩
def SNS_WC_CFG.CH (w : Nat) : Fld := ⟨SNS_WC_CFG w, 21, 16⟩
def SNS_WC_CFG.FILT (w : Nat) : Fld := ⟨SNS_WC_CFG w, 11, 8⟩
def SNS_WC_CFG.HYST (w : Nat) : Fld := ⟨SNS_WC_CFG w, 7, 0⟩
/-- SNS_WC_BAND: spec/13_sense_converters.md, instance reset. -/
def SNS_WC_BAND (w : Nat) : Nat := 0x602004 + 0x10 * w
def SNS_WC_BAND.HI (w : Nat) : Fld := ⟨SNS_WC_BAND w, 31, 16⟩
def SNS_WC_BAND.LO (w : Nat) : Fld := ⟨SNS_WC_BAND w, 15, 0⟩
/-- SNS_WC_WIN: spec/13_sense_converters.md, instance reset. -/
def SNS_WC_WIN (w : Nat) : Nat := 0x602008 + 0x10 * w
def SNS_WC_WIN.WIN (w : Nat) : Fld := ⟨SNS_WC_WIN w, 15, 0⟩
/-- SNS_WC_STAT: spec/13_sense_converters.md, instance reset. -/
def SNS_WC_STAT (w : Nat) : Nat := 0x60200c + 0x10 * w
def SNS_WC_STAT.OUT (w : Nat) : Fld := ⟨SNS_WC_STAT w, 31, 31⟩
def SNS_WC_STAT.HIGH (w : Nat) : Fld := ⟨SNS_WC_STAT w, 30, 30⟩
def SNS_WC_STAT.FCNT (w : Nat) : Fld := ⟨SNS_WC_STAT w, 27, 24⟩
def SNS_WC_STAT.DUTY (w : Nat) : Fld := ⟨SNS_WC_STAT w, 15, 0⟩
/-- SNS_PT_CTL: spec/22_signals_and_test.md, instance reset. -/
def SNS_PT_CTL : Nat := 0x603000
def SNS_PT_CTL.EN : Fld := ⟨SNS_PT_CTL, 31, 31⟩
def SNS_PT_CTL.POL : Fld := ⟨SNS_PT_CTL, 30, 30⟩
def SNS_PT_CTL.IREF : Fld := ⟨SNS_PT_CTL, 29, 29⟩
def SNS_PT_CTL.CONV : Fld := ⟨SNS_PT_CTL, 25, 24⟩
def SNS_PT_CTL.CH : Fld := ⟨SNS_PT_CTL, 21, 16⟩
/-- THM_CTRL: spec/14_thermal.md, instance reset. -/
def THM_CTRL : Nat := 0x680000
def THM_CTRL.CLR : Fld := ⟨THM_CTRL, 0, 0⟩
/-- THM_STAT: spec/14_thermal.md, instance reset. -/
def THM_STAT : Nat := 0x680004
def THM_STAT.NBLIND : Fld := ⟨THM_STAT, 30, 24⟩
def THM_STAT.NTHR : Fld := ⟨THM_STAT, 22, 16⟩
def THM_STAT.HOTGRP : Fld := ⟨THM_STAT, 13, 8⟩
def THM_STAT.STATE : Fld := ⟨THM_STAT, 1, 0⟩
/-- THM_GUARD: spec/14_thermal.md, instance reset. -/
def THM_GUARD : Nat := 0x680008
def THM_GUARD.EN : Fld := ⟨THM_GUARD, 31, 31⟩
def THM_GUARD.PERIOD : Fld := ⟨THM_GUARD, 15, 0⟩
/-- THM_PROP: spec/14_thermal.md, instance reset. -/
def THM_PROP : Nat := 0x68000c
def THM_PROP.BLIND_RATE : Fld := ⟨THM_PROP, 22, 16⟩
def THM_PROP.MINS : Fld := ⟨THM_PROP, 15, 12⟩
def THM_PROP.FLOOR : Fld := ⟨THM_PROP, 11, 6⟩
def THM_PROP.KT : Fld := ⟨THM_PROP, 5, 0⟩
/-- THM_LDEM: spec/14_thermal.md, instance reset. -/
def THM_LDEM : Nat := 0x680010
def THM_LDEM.EN : Fld := ⟨THM_LDEM, 31, 31⟩
def THM_LDEM.RATE : Fld := ⟨THM_LDEM, 19, 16⟩
def THM_LDEM.PHASE : Fld := ⟨THM_LDEM, 14, 0⟩
/-- THM_LMASK_LO: spec/14_thermal.md, instance reset. -/
def THM_LMASK_LO : Nat := 0x680014
def THM_LMASK_LO.MASK : Fld := ⟨THM_LMASK_LO, 31, 0⟩
/-- THM_LMASK_HI: spec/14_thermal.md, instance reset. -/
def THM_LMASK_HI : Nat := 0x680018
def THM_LMASK_HI.MASK : Fld := ⟨THM_LMASK_HI, 31, 0⟩
/-- THM_DEM_LO: spec/14_thermal.md, instance reset. -/
def THM_DEM_LO : Nat := 0x68001c
def THM_DEM_LO.MASK : Fld := ⟨THM_DEM_LO, 31, 0⟩
/-- THM_DEM_HI: spec/14_thermal.md, instance reset. -/
def THM_DEM_HI : Nat := 0x680020
def THM_DEM_HI.MASK : Fld := ⟨THM_DEM_HI, 31, 0⟩
/-- THM_EVT: spec/14_thermal.md, instance reset. -/
def THM_EVT : Nat := 0x680024
def THM_EVT.CLR_REFUSED : Fld := ⟨THM_EVT, 7, 7⟩
def THM_EVT.FWDONE : Fld := ⟨THM_EVT, 6, 6⟩
def THM_EVT.BLIND : Fld := ⟨THM_EVT, 5, 5⟩
def THM_EVT.EXCL : Fld := ⟨THM_EVT, 4, 4⟩
def THM_EVT.DOWN : Fld := ⟨THM_EVT, 3, 3⟩
def THM_EVT.SHUT : Fld := ⟨THM_EVT, 2, 2⟩
def THM_EVT.THROT : Fld := ⟨THM_EVT, 1, 1⟩
def THM_EVT.WARN : Fld := ⟨THM_EVT, 0, 0⟩
/-- THM_SD_TS: spec/14_thermal.md, instance reset. -/
def THM_SD_TS : Nat := 0x680028
def THM_SD_TS.TS : Fld := ⟨THM_SD_TS, 31, 0⟩
/-- THM_CNT: spec/14_thermal.md, instance reset. -/
def THM_CNT : Nat := 0x68002c
def THM_CNT.MERGED : Fld := ⟨THM_CNT, 31, 16⟩
def THM_CNT.SWEEPS : Fld := ⟨THM_CNT, 15, 0⟩
/-- THM_GTH: spec/14_thermal.md, instance reset. -/
def THM_GTH (q : Nat) : Nat := 0x681000 + 0x20 * q
def THM_GTH.HYST (q : Nat) : Fld := ⟨THM_GTH q, 31, 28⟩
def THM_GTH.SHUT (q : Nat) : Fld := ⟨THM_GTH q, 23, 16⟩
def THM_GTH.THROT (q : Nat) : Fld := ⟨THM_GTH q, 15, 8⟩
def THM_GTH.WARN (q : Nat) : Fld := ⟨THM_GTH q, 7, 0⟩
/-- THM_GMAP_LO: spec/14_thermal.md, instance reset. -/
def THM_GMAP_LO (q : Nat) : Nat := 0x681004 + 0x20 * q
def THM_GMAP_LO.EG (q : Nat) : Fld := ⟨THM_GMAP_LO q, 31, 0⟩
/-- THM_GMAP_HI: spec/14_thermal.md, instance reset. -/
def THM_GMAP_HI (q : Nat) : Nat := 0x681008 + 0x20 * q
def THM_GMAP_HI.EG (q : Nat) : Fld := ⟨THM_GMAP_HI q, 31, 0⟩
/-- THM_GSTAT: spec/14_thermal.md, instance reset. -/
def THM_GSTAT (q : Nat) : Nat := 0x68100c + 0x20 * q
def THM_GSTAT.LEVEL (q : Nat) : Fld := ⟨THM_GSTAT q, 31, 30⟩
def THM_GSTAT.BLIND (q : Nat) : Fld := ⟨THM_GSTAT q, 29, 29⟩
def THM_GSTAT.VALID (q : Nat) : Fld := ⟨THM_GSTAT q, 28, 28⟩
def THM_GSTAT.NINC (q : Nat) : Fld := ⟨THM_GSTAT q, 27, 24⟩
def THM_GSTAT.HOTS (q : Nat) : Fld := ⟨THM_GSTAT q, 23, 20⟩
def THM_GSTAT.TEMP (q : Nat) : Fld := ⟨THM_GSTAT q, 15, 0⟩
/-- THM_GREQ: spec/14_thermal.md, instance reset. -/
def THM_GREQ (q : Nat) : Nat := 0x681010 + 0x20 * q
def THM_GREQ.TGT (q : Nat) : Fld := ⟨THM_GREQ q, 22, 16⟩
def THM_GREQ.REQ (q : Nat) : Fld := ⟨THM_GREQ q, 6, 0⟩
/-- THM_GTS: spec/14_thermal.md, instance reset. -/
def THM_GTS (q : Nat) : Nat := 0x681014 + 0x20 * q
def THM_GTS.TS (q : Nat) : Fld := ⟨THM_GTS q, 31, 0⟩
/-- THM_S: spec/14_thermal.md, instance reset. -/
def THM_S (s : Nat) : Nat := 0x684000 + 0x8 * s
def THM_S.VALID (s : Nat) : Fld := ⟨THM_S s, 31, 31⟩
def THM_S.NOCNT (s : Nat) : Fld := ⟨THM_S s, 30, 30⟩
def THM_S.SEQ (s : Nat) : Fld := ⟨THM_S s, 29, 24⟩
def THM_S.TEMP (s : Nat) : Fld := ⟨THM_S s, 15, 0⟩
/-- THM_SCTL: spec/14_thermal.md, instance reset. -/
def THM_SCTL (s : Nat) : Nat := 0x684004 + 0x8 * s
def THM_SCTL.EXCL (s : Nat) : Fld := ⟨THM_SCTL s, 31, 31⟩
def THM_SCTL.XCAUSE (s : Nat) : Fld := ⟨THM_SCTL s, 29, 28⟩
def THM_SCTL.OFS (s : Nat) : Fld := ⟨THM_SCTL s, 15, 0⟩
/-- LPE_CTRL: spec/06_loop_engine.md, instance reset. -/
def LPE_CTRL : Nat := 0x700000
def LPE_CTRL.EN : Fld := ⟨LPE_CTRL, 2, 2⟩
def LPE_CTRL.REVERT : Fld := ⟨LPE_CTRL, 1, 1⟩
def LPE_CTRL.COMMIT : Fld := ⟨LPE_CTRL, 0, 0⟩
/-- LPE_STAT: spec/06_loop_engine.md, instance reset. -/
def LPE_STAT : Nat := 0x700004
def LPE_STAT.RES : Fld := ⟨LPE_STAT, 31, 16⟩
def LPE_STAT.BUSY : Fld := ⟨LPE_STAT, 15, 15⟩
def LPE_STAT.COMMITTED : Fld := ⟨LPE_STAT, 14, 14⟩
def LPE_STAT.INIT_DONE : Fld := ⟨LPE_STAT, 13, 13⟩
def LPE_STAT.ERR_CAUSE : Fld := ⟨LPE_STAT, 11, 9⟩
def LPE_STAT.ERR_K : Fld := ⟨LPE_STAT, 8, 0⟩
/-- LPE_LOAD: spec/06_loop_engine.md, instance reset. -/
def LPE_LOAD : Nat := 0x700008
def LPE_LOAD.LANES : Fld := ⟨LPE_LOAD, 21, 16⟩
def LPE_LOAD.PEAK : Fld := ⟨LPE_LOAD, 12, 0⟩
/-- LPE_EVT: spec/06_loop_engine.md, instance reset. -/
def LPE_EVT : Nat := 0x70000c
def LPE_EVT.PGDONE : Fld := ⟨LPE_EVT, 6, 6⟩
def LPE_EVT.TDONE : Fld := ⟨LPE_EVT, 5, 5⟩
def LPE_EVT.TRG : Fld := ⟨LPE_EVT, 4, 4⟩
def LPE_EVT.WR_DURING : Fld := ⟨LPE_EVT, 3, 3⟩
def LPE_EVT.WR_LIVE : Fld := ⟨LPE_EVT, 2, 2⟩
def LPE_EVT.COMMIT : Fld := ⟨LPE_EVT, 1, 1⟩
def LPE_EVT.SAT : Fld := ⟨LPE_EVT, 0, 0⟩
/-- LPE_SAT: spec/06_loop_engine.md, instance reset. -/
def LPE_SAT (i : Nat) : Nat := 0x700040 + 0x4 * i
def LPE_SAT.SAT (i : Nat) : Fld := ⟨LPE_SAT i, 31, 0⟩
/-- LPE_BAL_X1: spec/06_loop_engine.md, instance reset. -/
def LPE_BAL_X1 (p : Nat) : Nat := 0x700100 + 0x10 * p
def LPE_BAL_X1.V (p : Nat) : Fld := ⟨LPE_BAL_X1 p, 31, 0⟩
/-- LPE_BAL_X2: spec/06_loop_engine.md, instance reset. -/
def LPE_BAL_X2 (p : Nat) : Nat := 0x700104 + 0x10 * p
def LPE_BAL_X2.V (p : Nat) : Fld := ⟨LPE_BAL_X2 p, 31, 0⟩
/-- LPE_BAL_Y1: spec/06_loop_engine.md, instance reset. -/
def LPE_BAL_Y1 (p : Nat) : Nat := 0x700108 + 0x10 * p
def LPE_BAL_Y1.V (p : Nat) : Fld := ⟨LPE_BAL_Y1 p, 31, 0⟩
/-- LPE_BAL_Y2: spec/06_loop_engine.md, instance reset. -/
def LPE_BAL_Y2 (p : Nat) : Nat := 0x70010c + 0x10 * p
def LPE_BAL_Y2.V (p : Nat) : Fld := ⟨LPE_BAL_Y2 p, 31, 0⟩
/-- PG_CFG: spec/06_loop_engine.md, instance reset. -/
def PG_CFG (j : Nat) : Nat := 0x701000 + 0x40 * j
def PG_CFG.EN (j : Nat) : Fld := ⟨PG_CFG j, 31, 31⟩
def PG_CFG.RATE (j : Nat) : Fld := ⟨PG_CFG j, 3, 0⟩
/-- PG_STAT: spec/06_loop_engine.md, instance reset. -/
def PG_STAT (j : Nat) : Nat := 0x701004 + 0x40 * j
def PG_STAT.BOUND (j : Nat) : Fld := ⟨PG_STAT j, 2, 2⟩
def PG_STAT.OVS (j : Nat) : Fld := ⟨PG_STAT j, 1, 1⟩
def PG_STAT.DONE (j : Nat) : Fld := ⟨PG_STAT j, 0, 0⟩
/-- PG_TGT: spec/06_loop_engine.md, instance reset. -/
def PG_TGT (j : Nat) : Nat := 0x701008 + 0x40 * j
def PG_TGT.TGT (j : Nat) : Fld := ⟨PG_TGT j, 31, 0⟩
/-- PG_OUT: spec/06_loop_engine.md, instance reset. -/
def PG_OUT (j : Nat) : Nat := 0x70100c + 0x40 * j
def PG_OUT.OUT (j : Nat) : Fld := ⟨PG_OUT j, 31, 0⟩
/-- PG_VMAX: spec/06_loop_engine.md, instance reset. -/
def PG_VMAX (j : Nat) : Nat := 0x701010 + 0x40 * j
def PG_VMAX.LIMIT (j : Nat) : Fld := ⟨PG_VMAX j, 30, 0⟩
/-- PG_AMAX: spec/06_loop_engine.md, instance reset. -/
def PG_AMAX (j : Nat) : Nat := 0x701014 + 0x40 * j
def PG_AMAX.LIMIT (j : Nat) : Fld := ⟨PG_AMAX j, 30, 0⟩
/-- PG_JMAX: spec/06_loop_engine.md, instance reset. -/
def PG_JMAX (j : Nat) : Nat := 0x701018 + 0x40 * j
def PG_JMAX.LIMIT (j : Nat) : Fld := ⟨PG_JMAX j, 30, 0⟩
/-- PG_X_LO: spec/06_loop_engine.md, instance reset. -/
def PG_X_LO (j : Nat) : Nat := 0x701020 + 0x40 * j
def PG_X_LO.V (j : Nat) : Fld := ⟨PG_X_LO j, 31, 0⟩
/-- PG_X_HI: spec/06_loop_engine.md, instance reset. -/
def PG_X_HI (j : Nat) : Nat := 0x701024 + 0x40 * j
def PG_X_HI.V (j : Nat) : Fld := ⟨PG_X_HI j, 31, 0⟩
/-- PG_V: spec/06_loop_engine.md, instance reset. -/
def PG_V (j : Nat) : Nat := 0x701028 + 0x40 * j
def PG_V.V (j : Nat) : Fld := ⟨PG_V j, 31, 0⟩
/-- PG_A: spec/06_loop_engine.md, instance reset. -/
def PG_A (j : Nat) : Nat := 0x70102c + 0x40 * j
def PG_A.V (j : Nat) : Fld := ⟨PG_A j, 31, 0⟩
/-- LPE_LIVE_DCFG: spec/06_loop_engine.md, instance reset. -/
def LPE_LIVE_DCFG (k : Nat) : Nat := 0x710000 + 0x10 * k
def LPE_LIVE_DCFG.EN (k : Nat) : Fld := ⟨LPE_LIVE_DCFG k, 31, 31⟩
def LPE_LIVE_DCFG.KIND (k : Nat) : Fld := ⟨LPE_LIVE_DCFG k, 30, 28⟩
def LPE_LIVE_DCFG.FMT (k : Nat) : Fld := ⟨LPE_LIVE_DCFG k, 27, 27⟩
def LPE_LIVE_DCFG.NOTCH (k : Nat) : Fld := ⟨LPE_LIVE_DCFG k, 26, 26⟩
def LPE_LIVE_DCFG.AW (k : Nat) : Fld := ⟨LPE_LIVE_DCFG k, 25, 25⟩
def LPE_LIVE_DCFG.RSTV (k : Nat) : Fld := ⟨LPE_LIVE_DCFG k, 24, 24⟩
def LPE_LIVE_DCFG.NSEC (k : Nat) : Fld := ⟨LPE_LIVE_DCFG k, 23, 20⟩
def LPE_LIVE_DCFG.RATE (k : Nat) : Fld := ⟨LPE_LIVE_DCFG k, 19, 16⟩
def LPE_LIVE_DCFG.PHASE (k : Nat) : Fld := ⟨LPE_LIVE_DCFG k, 14, 0⟩
/-- LPE_LIVE_DSRC: spec/06_loop_engine.md, instance reset. -/
def LPE_LIVE_DSRC (k : Nat) : Nat := 0x710004 + 0x10 * k
def LPE_LIVE_DSRC.BTYPE (k : Nat) : Fld := ⟨LPE_LIVE_DSRC k, 31, 26⟩
def LPE_LIVE_DSRC.BIDX (k : Nat) : Fld := ⟨LPE_LIVE_DSRC k, 25, 16⟩
def LPE_LIVE_DSRC.ATYPE (k : Nat) : Fld := ⟨LPE_LIVE_DSRC k, 15, 10⟩
def LPE_LIVE_DSRC.AIDX (k : Nat) : Fld := ⟨LPE_LIVE_DSRC k, 9, 0⟩
/-- LPE_LIVE_DSRC2: spec/06_loop_engine.md, instance reset. -/
def LPE_LIVE_DSRC2 (k : Nat) : Nat := 0x710008 + 0x10 * k
def LPE_LIVE_DSRC2.CTYPE (k : Nat) : Fld := ⟨LPE_LIVE_DSRC2 k, 15, 10⟩
def LPE_LIVE_DSRC2.CIDX (k : Nat) : Fld := ⟨LPE_LIVE_DSRC2 k, 9, 0⟩
/-- LPE_LIVE_DDST: spec/06_loop_engine.md, instance reset. -/
def LPE_LIVE_DDST (k : Nat) : Nat := 0x71000c + 0x10 * k
def LPE_LIVE_DDST.SPMASK (k : Nat) : Fld := ⟨LPE_LIVE_DDST k, 31, 16⟩
def LPE_LIVE_DDST.DTYPE (k : Nat) : Fld := ⟨LPE_LIVE_DDST k, 15, 10⟩
def LPE_LIVE_DDST.DIDX (k : Nat) : Fld := ⟨LPE_LIVE_DDST k, 9, 0⟩
/-- LPE_DCFG: spec/06_loop_engine.md, instance reset. -/
def LPE_DCFG (k : Nat) : Nat := 0x740000 + 0x200 * k
def LPE_DCFG.EN (k : Nat) : Fld := ⟨LPE_DCFG k, 31, 31⟩
def LPE_DCFG.KIND (k : Nat) : Fld := ⟨LPE_DCFG k, 30, 28⟩
def LPE_DCFG.FMT (k : Nat) : Fld := ⟨LPE_DCFG k, 27, 27⟩
def LPE_DCFG.NOTCH (k : Nat) : Fld := ⟨LPE_DCFG k, 26, 26⟩
def LPE_DCFG.AW (k : Nat) : Fld := ⟨LPE_DCFG k, 25, 25⟩
def LPE_DCFG.RSTV (k : Nat) : Fld := ⟨LPE_DCFG k, 24, 24⟩
def LPE_DCFG.NSEC (k : Nat) : Fld := ⟨LPE_DCFG k, 23, 20⟩
def LPE_DCFG.RATE (k : Nat) : Fld := ⟨LPE_DCFG k, 19, 16⟩
def LPE_DCFG.PHASE (k : Nat) : Fld := ⟨LPE_DCFG k, 14, 0⟩
/-- LPE_DSRC: spec/06_loop_engine.md, instance reset. -/
def LPE_DSRC (k : Nat) : Nat := 0x740004 + 0x200 * k
def LPE_DSRC.BTYPE (k : Nat) : Fld := ⟨LPE_DSRC k, 31, 26⟩
def LPE_DSRC.BIDX (k : Nat) : Fld := ⟨LPE_DSRC k, 25, 16⟩
def LPE_DSRC.ATYPE (k : Nat) : Fld := ⟨LPE_DSRC k, 15, 10⟩
def LPE_DSRC.AIDX (k : Nat) : Fld := ⟨LPE_DSRC k, 9, 0⟩
/-- LPE_DSRC2: spec/06_loop_engine.md, instance reset. -/
def LPE_DSRC2 (k : Nat) : Nat := 0x740008 + 0x200 * k
def LPE_DSRC2.CTYPE (k : Nat) : Fld := ⟨LPE_DSRC2 k, 15, 10⟩
def LPE_DSRC2.CIDX (k : Nat) : Fld := ⟨LPE_DSRC2 k, 9, 0⟩
/-- LPE_DDST: spec/06_loop_engine.md, instance reset. -/
def LPE_DDST (k : Nat) : Nat := 0x74000c + 0x200 * k
def LPE_DDST.SPMASK (k : Nat) : Fld := ⟨LPE_DDST k, 31, 16⟩
def LPE_DDST.DTYPE (k : Nat) : Fld := ⟨LPE_DDST k, 15, 10⟩
def LPE_DDST.DIDX (k : Nat) : Fld := ⟨LPE_DDST k, 9, 0⟩
/-- LPE_GA: spec/06_loop_engine.md, instance reset. -/
def LPE_GA (k : Nat) : Nat := 0x740010 + 0x200 * k
def LPE_GA.V (k : Nat) : Fld := ⟨LPE_GA k, 31, 0⟩
/-- LPE_GB: spec/06_loop_engine.md, instance reset. -/
def LPE_GB (k : Nat) : Nat := 0x740014 + 0x200 * k
def LPE_GB.V (k : Nat) : Fld := ⟨LPE_GB k, 31, 0⟩
/-- LPE_OFS: spec/06_loop_engine.md, instance reset. -/
def LPE_OFS (k : Nat) : Nat := 0x740018 + 0x200 * k
def LPE_OFS.V (k : Nat) : Fld := ⟨LPE_OFS k, 31, 0⟩
/-- LPE_SHIFTS: spec/06_loop_engine.md, instance reset. -/
def LPE_SHIFTS (k : Nat) : Nat := 0x74001c + 0x200 * k
def LPE_SHIFTS.OSH (k : Nat) : Fld := ⟨LPE_SHIFTS k, 13, 8⟩
def LPE_SHIFTS.ISH (k : Nat) : Fld := ⟨LPE_SHIFTS k, 5, 0⟩
/-- LPE_GC: spec/06_loop_engine.md, instance reset. -/
def LPE_GC (k : Nat) : Nat := 0x740020 + 0x200 * k
def LPE_GC.V (k : Nat) : Fld := ⟨LPE_GC k, 31, 0⟩
/-- LPE_GO: spec/06_loop_engine.md, instance reset. -/
def LPE_GO (k : Nat) : Nat := 0x740024 + 0x200 * k
def LPE_GO.V (k : Nat) : Fld := ⟨LPE_GO k, 31, 0⟩
/-- LPE_OMIN: spec/06_loop_engine.md, instance reset. -/
def LPE_OMIN (k : Nat) : Nat := 0x740028 + 0x200 * k
def LPE_OMIN.V (k : Nat) : Fld := ⟨LPE_OMIN k, 31, 0⟩
/-- LPE_OMAX: spec/06_loop_engine.md, instance reset. -/
def LPE_OMAX (k : Nat) : Nat := 0x74002c + 0x200 * k
def LPE_OMAX.V (k : Nat) : Fld := ⟨LPE_OMAX k, 31, 0⟩
/-- LPE_DCTL: spec/06_loop_engine.md, instance reset. -/
def LPE_DCTL (k : Nat) : Nat := 0x740030 + 0x200 * k
def LPE_DCTL.HOLD (k : Nat) : Fld := ⟨LPE_DCTL k, 0, 0⟩
/-- LPE_DSTAT: spec/06_loop_engine.md, instance reset. -/
def LPE_DSTAT (k : Nat) : Nat := 0x740034 + 0x200 * k
def LPE_DSTAT.HOLDING (k : Nat) : Fld := ⟨LPE_DSTAT k, 13, 13⟩
def LPE_DSTAT.SKIP (k : Nat) : Fld := ⟨LPE_DSTAT k, 12, 12⟩
def LPE_DSTAT.LIM (k : Nat) : Fld := ⟨LPE_DSTAT k, 11, 11⟩
def LPE_DSTAT.SAT_OUT (k : Nat) : Fld := ⟨LPE_DSTAT k, 10, 10⟩
def LPE_DSTAT.SAT_IN (k : Nat) : Fld := ⟨LPE_DSTAT k, 9, 9⟩
def LPE_DSTAT.SAT_SEC (k : Nat) : Fld := ⟨LPE_DSTAT k, 8, 0⟩
/-- LPE_DU: spec/06_loop_engine.md, instance reset. -/
def LPE_DU (k : Nat) : Nat := 0x740038 + 0x200 * k
def LPE_DU.DU (k : Nat) : Fld := ⟨LPE_DU k, 31, 0⟩
/-- LPE_DX: spec/06_loop_engine.md, instance reset. -/
def LPE_DX (k : Nat) : Nat := 0x74003c + 0x200 * k
def LPE_DX.DX (k : Nat) : Fld := ⟨LPE_DX k, 31, 0⟩
/-- LPE_SEC_B0: spec/06_loop_engine.md, instance reset. -/
def LPE_SEC_B0 (k : Nat) (i : Nat) : Nat := 0x740040 + 0x200 * k + 0x28 * i
def LPE_SEC_B0.V (k : Nat) (i : Nat) : Fld := ⟨LPE_SEC_B0 k i, 31, 0⟩
/-- LPE_SEC_B1: spec/06_loop_engine.md, instance reset. -/
def LPE_SEC_B1 (k : Nat) (i : Nat) : Nat := 0x740044 + 0x200 * k + 0x28 * i
def LPE_SEC_B1.V (k : Nat) (i : Nat) : Fld := ⟨LPE_SEC_B1 k i, 31, 0⟩
/-- LPE_SEC_B2: spec/06_loop_engine.md, instance reset. -/
def LPE_SEC_B2 (k : Nat) (i : Nat) : Nat := 0x740048 + 0x200 * k + 0x28 * i
def LPE_SEC_B2.V (k : Nat) (i : Nat) : Fld := ⟨LPE_SEC_B2 k i, 31, 0⟩
/-- LPE_SEC_A1: spec/06_loop_engine.md, instance reset. -/
def LPE_SEC_A1 (k : Nat) (i : Nat) : Nat := 0x74004c + 0x200 * k + 0x28 * i
def LPE_SEC_A1.V (k : Nat) (i : Nat) : Fld := ⟨LPE_SEC_A1 k i, 31, 0⟩
/-- LPE_SEC_A2: spec/06_loop_engine.md, instance reset. -/
def LPE_SEC_A2 (k : Nat) (i : Nat) : Nat := 0x740050 + 0x200 * k + 0x28 * i
def LPE_SEC_A2.V (k : Nat) (i : Nat) : Fld := ⟨LPE_SEC_A2 k i, 31, 0⟩
/-- LPE_SEC_SSH: spec/06_loop_engine.md, instance reset. -/
def LPE_SEC_SSH (k : Nat) (i : Nat) : Nat := 0x740054 + 0x200 * k + 0x28 * i
def LPE_SEC_SSH.V (k : Nat) (i : Nat) : Fld := ⟨LPE_SEC_SSH k i, 31, 0⟩
/-- LPE_SEC_X1: spec/06_loop_engine.md, instance reset. -/
def LPE_SEC_X1 (k : Nat) (i : Nat) : Nat := 0x740058 + 0x200 * k + 0x28 * i
def LPE_SEC_X1.V (k : Nat) (i : Nat) : Fld := ⟨LPE_SEC_X1 k i, 31, 0⟩
/-- LPE_SEC_X2: spec/06_loop_engine.md, instance reset. -/
def LPE_SEC_X2 (k : Nat) (i : Nat) : Nat := 0x74005c + 0x200 * k + 0x28 * i
def LPE_SEC_X2.V (k : Nat) (i : Nat) : Fld := ⟨LPE_SEC_X2 k i, 31, 0⟩
/-- LPE_SEC_Y1: spec/06_loop_engine.md, instance reset. -/
def LPE_SEC_Y1 (k : Nat) (i : Nat) : Nat := 0x740060 + 0x200 * k + 0x28 * i
def LPE_SEC_Y1.V (k : Nat) (i : Nat) : Fld := ⟨LPE_SEC_Y1 k i, 31, 0⟩
/-- LPE_SEC_Y2: spec/06_loop_engine.md, instance reset. -/
def LPE_SEC_Y2 (k : Nat) (i : Nat) : Nat := 0x740064 + 0x200 * k + 0x28 * i
def LPE_SEC_Y2.V (k : Nat) (i : Nat) : Fld := ⟨LPE_SEC_Y2 k i, 31, 0⟩
/-- LPE_TMAP0: spec/06_loop_engine.md, instance reset. -/
def LPE_TMAP0 (k : Nat) : Nat := 0x7401a8 + 0x200 * k
def LPE_TMAP0.RSSL (k : Nat) : Fld := ⟨LPE_TMAP0 k, 31, 16⟩
def LPE_TMAP0.RFSL (k : Nat) : Fld := ⟨LPE_TMAP0 k, 15, 0⟩
/-- LPE_TMAP1: spec/06_loop_engine.md, instance reset. -/
def LPE_TMAP1 (k : Nat) : Nat := 0x7401ac + 0x200 * k
def LPE_TMAP1.RSSL (k : Nat) : Fld := ⟨LPE_TMAP1 k, 31, 16⟩
def LPE_TMAP1.RFSL (k : Nat) : Fld := ⟨LPE_TMAP1 k, 15, 0⟩
/-- LPE_TMAP2: spec/06_loop_engine.md, instance reset. -/
def LPE_TMAP2 (k : Nat) : Nat := 0x7401b0 + 0x200 * k
def LPE_TMAP2.RSSL (k : Nat) : Fld := ⟨LPE_TMAP2 k, 31, 16⟩
def LPE_TMAP2.RFSL (k : Nat) : Fld := ⟨LPE_TMAP2 k, 15, 0⟩
/-- LPE_TMAP3: spec/06_loop_engine.md, instance reset. -/
def LPE_TMAP3 (k : Nat) : Nat := 0x7401b4 + 0x200 * k
def LPE_TMAP3.RSSL (k : Nat) : Fld := ⟨LPE_TMAP3 k, 31, 16⟩
def LPE_TMAP3.RFSL (k : Nat) : Fld := ⟨LPE_TMAP3 k, 15, 0⟩
/-- LPE_TMAP4: spec/06_loop_engine.md, instance reset. -/
def LPE_TMAP4 (k : Nat) : Nat := 0x7401b8 + 0x200 * k
def LPE_TMAP4.RSSL (k : Nat) : Fld := ⟨LPE_TMAP4 k, 31, 16⟩
def LPE_TMAP4.RFSL (k : Nat) : Fld := ⟨LPE_TMAP4 k, 15, 0⟩
/-- TTB_ENT: spec/07_forecast.md, instance reset. -/
def TTB_ENT (i : Nat) (w : Nat) : Nat := 0x800000 + 0x10 * i + 0x4 * w
def TTB_ENT.V (i : Nat) (w : Nat) : Fld := ⟨TTB_ENT i w, 31, 0⟩
/-- TTB_CTRL: spec/07_forecast.md, instance reset. -/
def TTB_CTRL : Nat := 0x900000
def TTB_CTRL.RESCAN : Fld := ⟨TTB_CTRL, 2, 2⟩
def TTB_CTRL.STOP : Fld := ⟨TTB_CTRL, 1, 1⟩
def TTB_CTRL.ARM : Fld := ⟨TTB_CTRL, 0, 0⟩
/-- TTB_STAT: spec/07_forecast.md, instance reset. -/
def TTB_STAT : Nat := 0x900004
def TTB_STAT.NSYNC : Fld := ⟨TTB_STAT, 26, 16⟩
def TTB_STAT.QDEPTH : Fld := ⟨TTB_STAT, 14, 8⟩
def TTB_STAT.INIT_DONE : Fld := ⟨TTB_STAT, 7, 7⟩
def TTB_STAT.DIR_FULL : Fld := ⟨TTB_STAT, 6, 6⟩
def TTB_STAT.DUP_SYNC : Fld := ⟨TTB_STAT, 5, 5⟩
def TTB_STAT.SCANNING : Fld := ⟨TTB_STAT, 4, 4⟩
def TTB_STAT.STATE : Fld := ⟨TTB_STAT, 2, 0⟩
/-- TTB_CFG: spec/07_forecast.md, instance reset. -/
def TTB_CFG : Nat := 0x900008
def TTB_CFG.FF_EN : Fld := ⟨TTB_CFG, 8, 8⟩
def TTB_CFG.SKIP1 : Fld := ⟨TTB_CFG, 4, 4⟩
def TTB_CFG.CMIN : Fld := ⟨TTB_CFG, 3, 0⟩
/-- TTB_RANGE: spec/07_forecast.md, instance reset. -/
def TTB_RANGE : Nat := 0x90000c
def TTB_RANGE.LOOP : Fld := ⟨TTB_RANGE, 31, 16⟩
def TTB_RANGE.START : Fld := ⟨TTB_RANGE, 15, 0⟩
/-- TTB_LEAD: spec/07_forecast.md, instance reset. -/
def TTB_LEAD : Nat := 0x900010
def TTB_LEAD.LEAD_BUMP : Fld := ⟨TTB_LEAD, 28, 20⟩
def TTB_LEAD.LEAD_FCI : Fld := ⟨TTB_LEAD, 18, 10⟩
def TTB_LEAD.LEAD_PH : Fld := ⟨TTB_LEAD, 8, 0⟩
/-- TTB_HOLD: spec/07_forecast.md, instance reset. -/
def TTB_HOLD : Nat := 0x900014
def TTB_HOLD.PHOLD : Fld := ⟨TTB_HOLD, 24, 16⟩
def TTB_HOLD.FHOLD : Fld := ⟨TTB_HOLD, 8, 0⟩
/-- TTB_BUMP: spec/07_forecast.md, instance reset. -/
def TTB_BUMP : Nat := 0x900018
def TTB_BUMP.BMAX : Fld := ⟨TTB_BUMP, 23, 16⟩
def TTB_BUMP.BK : Fld := ⟨TTB_BUMP, 11, 0⟩
/-- TTB_ETA: spec/07_forecast.md, instance reset. -/
def TTB_ETA : Nat := 0x90001c
def TTB_ETA.ETA : Fld := ⟨TTB_ETA, 10, 0⟩
/-- TTB_CUR: spec/07_forecast.md, instance reset. -/
def TTB_CUR : Nat := 0x900020
def TTB_CUR.EXPECT : Fld := ⟨TTB_CUR, 31, 16⟩
def TTB_CUR.IDX : Fld := ⟨TTB_CUR, 15, 0⟩
/-- TTB_LAST: spec/07_forecast.md, instance reset. -/
def TTB_LAST : Nat := 0x900024
def TTB_LAST.MATCH : Fld := ⟨TTB_LAST, 31, 31⟩
def TTB_LAST.CP : Fld := ⟨TTB_LAST, 19, 16⟩
def TTB_LAST.MARKER : Fld := ⟨TTB_LAST, 15, 0⟩
/-- TTB_LAST_TS: spec/07_forecast.md, instance reset. -/
def TTB_LAST_TS : Nat := 0x900028
def TTB_LAST_TS.TS : Fld := ⟨TTB_LAST_TS, 31, 0⟩
/-- TTB_FCAST: spec/07_forecast.md, instance reset. -/
def TTB_FCAST : Nat := 0x90002c
def TTB_FCAST.NFC : Fld := ⟨TTB_FCAST, 21, 16⟩
def TTB_FCAST.F : Fld := ⟨TTB_FCAST, 15, 0⟩
/-- TTB_LEG: spec/07_forecast.md, instance reset. -/
def TTB_LEG : Nat := 0x900030
def TTB_LEG.VALID : Fld := ⟨TTB_LEG, 31, 31⟩
def TTB_LEG.LEG : Fld := ⟨TTB_LEG, 5, 0⟩
/-- TTB_LEG_TS: spec/07_forecast.md, instance reset. -/
def TTB_LEG_TS : Nat := 0x900034
def TTB_LEG_TS.TS : Fld := ⟨TTB_LEG_TS, 31, 0⟩
/-- TTB_EVT: spec/07_forecast.md, instance reset. -/
def TTB_EVT : Nat := 0x900038
def TTB_EVT.ARM_REFUSED : Fld := ⟨TTB_EVT, 8, 8⟩
def TTB_EVT.WR_LIVE : Fld := ⟨TTB_EVT, 7, 7⟩
def TTB_EVT.LEG : Fld := ⟨TTB_EVT, 6, 6⟩
def TTB_EVT.QOVF : Fld := ⟨TTB_EVT, 5, 5⟩
def TTB_EVT.BAD_ENTRY : Fld := ⟨TTB_EVT, 4, 4⟩
def TTB_EVT.DMA : Fld := ⟨TTB_EVT, 3, 3⟩
def TTB_EVT.DONE : Fld := ⟨TTB_EVT, 2, 2⟩
def TTB_EVT.RESYNC : Fld := ⟨TTB_EVT, 1, 1⟩
def TTB_EVT.LOST : Fld := ⟨TTB_EVT, 0, 0⟩
/-- TTB_CNT0: spec/07_forecast.md, instance reset. -/
def TTB_CNT0 : Nat := 0x900040
def TTB_CNT0.MATCHED : Fld := ⟨TTB_CNT0, 31, 0⟩
/-- TTB_CNT1: spec/07_forecast.md, instance reset. -/
def TTB_CNT1 : Nat := 0x900044
def TTB_CNT1.LOST : Fld := ⟨TTB_CNT1, 31, 24⟩
def TTB_CNT1.LATE : Fld := ⟨TTB_CNT1, 23, 16⟩
def TTB_CNT1.SKIPPED : Fld := ⟨TTB_CNT1, 15, 8⟩
def TTB_CNT1.QOVF : Fld := ⟨TTB_CNT1, 7, 0⟩
/-- TTB_CNT2: spec/07_forecast.md, instance reset. -/
def TTB_CNT2 : Nat := 0x900048
def TTB_CNT2.STRAY : Fld := ⟨TTB_CNT2, 31, 24⟩
def TTB_CNT2.MDROP : Fld := ⟨TTB_CNT2, 23, 16⟩
def TTB_CNT2.BADENT : Fld := ⟨TTB_CNT2, 15, 8⟩
def TTB_CNT2.FREE : Fld := ⟨TTB_CNT2, 7, 0⟩
/-- TTB_DMA_SRC_LO: spec/07_forecast.md, instance reset. -/
def TTB_DMA_SRC_LO : Nat := 0x900050
def TTB_DMA_SRC_LO.SRC : Fld := ⟨TTB_DMA_SRC_LO, 31, 0⟩
/-- TTB_DMA_SRC_HI: spec/07_forecast.md, instance reset. -/
def TTB_DMA_SRC_HI : Nat := 0x900054
def TTB_DMA_SRC_HI.SRC : Fld := ⟨TTB_DMA_SRC_HI, 31, 0⟩
/-- TTB_DMA_LEN: spec/07_forecast.md, instance reset. -/
def TTB_DMA_LEN : Nat := 0x900058
def TTB_DMA_LEN.CNT : Fld := ⟨TTB_DMA_LEN, 31, 16⟩
def TTB_DMA_LEN.DST : Fld := ⟨TTB_DMA_LEN, 15, 0⟩
/-- TTB_DMA_CTRL: spec/07_forecast.md, instance reset. -/
def TTB_DMA_CTRL : Nat := 0x90005c
def TTB_DMA_CTRL.RES : Fld := ⟨TTB_DMA_CTRL, 31, 16⟩
def TTB_DMA_CTRL.BUSY : Fld := ⟨TTB_DMA_CTRL, 1, 1⟩
def TTB_DMA_CTRL.GO : Fld := ⟨TTB_DMA_CTRL, 0, 0⟩
/-- TTB_RGN: spec/07_forecast.md, instance reset. -/
def TTB_RGN (n : Nat) : Nat := 0x901000 + 0x4 * n
def TTB_RGN.BUMP (n : Nat) : Fld := ⟨TTB_RGN n, 24, 16⟩
def TTB_RGN.FCI (n : Nat) : Fld := ⟨TTB_RGN n, 15, 0⟩
/-- TTB_RSET: spec/07_forecast.md, instance reset. -/
def TTB_RSET (i : Nat) (w : Nat) : Nat := 0x902000 + 0x20 * i + 0x4 * w
def TTB_RSET.MASK (i : Nat) (w : Nat) : Fld := ⟨TTB_RSET i w, 31, 0⟩
/-- OUT_CTL: spec/08_outrider.md, instance reset. -/
def OUT_CTL : Nat := 0x1000000
def OUT_CTL.PERIOD : Fld := ⟨OUT_CTL, 23, 16⟩
def OUT_CTL.PHASE : Fld := ⟨OUT_CTL, 15, 8⟩
def OUT_CTL.FTZ : Fld := ⟨OUT_CTL, 3, 3⟩
def OUT_CTL.CLEAR : Fld := ⟨OUT_CTL, 2, 2⟩
def OUT_CTL.STOP : Fld := ⟨OUT_CTL, 1, 1⟩
def OUT_CTL.START : Fld := ⟨OUT_CTL, 0, 0⟩
/-- OUT_STAT: spec/08_outrider.md, instance reset. -/
def OUT_STAT : Nat := 0x1000004
def OUT_STAT.RES : Fld := ⟨OUT_STAT, 31, 16⟩
def OUT_STAT.ERR_CAUSE : Fld := ⟨OUT_STAT, 15, 12⟩
def OUT_STAT.INIT_DONE : Fld := ⟨OUT_STAT, 8, 8⟩
def OUT_STAT.FLUSHED : Fld := ⟨OUT_STAT, 7, 7⟩
def OUT_STAT.NONFIN : Fld := ⟨OUT_STAT, 6, 6⟩
def OUT_STAT.CLAMPED : Fld := ⟨OUT_STAT, 5, 5⟩
def OUT_STAT.VALIDATING : Fld := ⟨OUT_STAT, 4, 4⟩
def OUT_STAT.STATE : Fld := ⟨OUT_STAT, 1, 0⟩
/-- OUT_SHAPE: spec/08_outrider.md, instance reset. -/
def OUT_SHAPE : Nat := 0x1000008
def OUT_SHAPE.NOUT : Fld := ⟨OUT_SHAPE, 23, 16⟩
def OUT_SHAPE.NHID : Fld := ⟨OUT_SHAPE, 15, 8⟩
def OUT_SHAPE.NIN : Fld := ⟨OUT_SHAPE, 7, 0⟩
/-- OUT_CYC: spec/08_outrider.md, instance reset. -/
def OUT_CYC : Nat := 0x100000c
def OUT_CYC.CYC : Fld := ⟨OUT_CYC, 15, 0⟩
/-- OUT_LCFG: spec/08_outrider.md, instance reset. -/
def OUT_LCFG (l : Nat) : Nat := 0x1000010 + 0x8 * l
def OUT_LCFG.ACT (l : Nat) : Fld := ⟨OUT_LCFG l, 9, 8⟩
def OUT_LCFG.AFMT (l : Nat) : Fld := ⟨OUT_LCFG l, 6, 4⟩
def OUT_LCFG.WFMT (l : Nat) : Fld := ⟨OUT_LCFG l, 2, 0⟩
/-- OUT_LBASE: spec/08_outrider.md, instance reset. -/
def OUT_LBASE (l : Nat) : Nat := 0x1000014 + 0x8 * l
def OUT_LBASE.BBASE (l : Nat) : Fld := ⟨OUT_LBASE l, 31, 16⟩
def OUT_LBASE.WBASE (l : Nat) : Fld := ⟨OUT_LBASE l, 15, 0⟩
/-- OUT_RUNCNT: spec/08_outrider.md, instance reset. -/
def OUT_RUNCNT : Nat := 0x1000020
def OUT_RUNCNT.COUNT : Fld := ⟨OUT_RUNCNT, 31, 0⟩
/-- OUT_PUB_TS: spec/08_outrider.md, instance reset. -/
def OUT_PUB_TS : Nat := 0x1000024
def OUT_PUB_TS.TS : Fld := ⟨OUT_PUB_TS, 31, 0⟩
/-- OUT_EVT: spec/08_outrider.md, instance reset. -/
def OUT_EVT : Nat := 0x1000028
def OUT_EVT.WR_REFUSED : Fld := ⟨OUT_EVT, 4, 4⟩
def OUT_EVT.DMA : Fld := ⟨OUT_EVT, 3, 3⟩
def OUT_EVT.NONFIN : Fld := ⟨OUT_EVT, 2, 2⟩
def OUT_EVT.ERROR : Fld := ⟨OUT_EVT, 1, 1⟩
def OUT_EVT.STARTED : Fld := ⟨OUT_EVT, 0, 0⟩
/-- OUT_CNT: spec/08_outrider.md, instance reset. -/
def OUT_CNT : Nat := 0x100002c
def OUT_CNT.NONFIN : Fld := ⟨OUT_CNT, 31, 16⟩
def OUT_CNT.CLAMP : Fld := ⟨OUT_CNT, 15, 0⟩
/-- OUT_DMA_SRC_LO: spec/08_outrider.md, instance reset. -/
def OUT_DMA_SRC_LO : Nat := 0x1000040
def OUT_DMA_SRC_LO.SRC : Fld := ⟨OUT_DMA_SRC_LO, 31, 0⟩
/-- OUT_DMA_SRC_HI: spec/08_outrider.md, instance reset. -/
def OUT_DMA_SRC_HI : Nat := 0x1000044
def OUT_DMA_SRC_HI.SRC : Fld := ⟨OUT_DMA_SRC_HI, 31, 0⟩
/-- OUT_DMA_LEN: spec/08_outrider.md, instance reset. -/
def OUT_DMA_LEN : Nat := 0x1000048
def OUT_DMA_LEN.CNT : Fld := ⟨OUT_DMA_LEN, 31, 16⟩
def OUT_DMA_LEN.DST : Fld := ⟨OUT_DMA_LEN, 15, 0⟩
/-- OUT_DMA_CTRL: spec/08_outrider.md, instance reset. -/
def OUT_DMA_CTRL : Nat := 0x100004c
def OUT_DMA_CTRL.RES : Fld := ⟨OUT_DMA_CTRL, 31, 16⟩
def OUT_DMA_CTRL.BUSY : Fld := ⟨OUT_DMA_CTRL, 1, 1⟩
def OUT_DMA_CTRL.GO : Fld := ⟨OUT_DMA_CTRL, 0, 0⟩
/-- OUT_O: spec/08_outrider.md, instance reset. -/
def OUT_O (j : Nat) : Nat := 0x1000100 + 0x4 * j
def OUT_O.O (j : Nat) : Fld := ⟨OUT_O j, 31, 0⟩
/-- OUT_ISEL: spec/08_outrider.md, instance reset. -/
def OUT_ISEL (i : Nat) : Nat := 0x1001000 + 0x4 * i
def OUT_ISEL.SCL (i : Nat) : Fld := ⟨OUT_ISEL i, 23, 16⟩
def OUT_ISEL.TYPE (i : Nat) : Fld := ⟨OUT_ISEL i, 15, 10⟩
def OUT_ISEL.IDX (i : Nat) : Fld := ⟨OUT_ISEL i, 9, 0⟩
/-- OUT_XIN: spec/08_outrider.md, instance reset. -/
def OUT_XIN (i : Nat) : Nat := 0x1001200 + 0x4 * i
def OUT_XIN.X (i : Nat) : Fld := ⟨OUT_XIN i, 31, 0⟩
/-- OUT_ACTB: spec/08_outrider.md, instance reset. -/
def OUT_ACTB (t : Nat) (i : Nat) : Nat := 0x1002000 + 0x400 * t + 0x4 * i
def OUT_ACTB.V (t : Nat) (i : Nat) : Fld := ⟨OUT_ACTB t i, 31, 0⟩
/-- OUT_ACTM: spec/08_outrider.md, instance reset. -/
def OUT_ACTM (t : Nat) (s : Nat) : Nat := 0x1002100 + 0x400 * t + 0x4 * s
def OUT_ACTM.V (t : Nat) (s : Nat) : Fld := ⟨OUT_ACTM t s, 31, 0⟩
/-- OUT_ACTC: spec/08_outrider.md, instance reset. -/
def OUT_ACTC (t : Nat) (s : Nat) : Nat := 0x1002200 + 0x400 * t + 0x4 * s
def OUT_ACTC.V (t : Nat) (s : Nat) : Fld := ⟨OUT_ACTC t s, 31, 0⟩
/-- OUT_WMEM: spec/08_outrider.md, instance reset. -/
def OUT_WMEM (i : Nat) : Nat := 0x1010000 + 0x4 * i
def OUT_WMEM.V (i : Nat) : Fld := ⟨OUT_WMEM i, 31, 0⟩
/-- REIN_SUM: spec/10_reins_and_tender.md, instance reset. -/
def REIN_SUM : Nat := 0x1100000
def REIN_SUM.NLIM : Fld := ⟨REIN_SUM, 14, 8⟩
def REIN_SUM.MINN : Fld := ⟨REIN_SUM, 6, 0⟩
/-- REIN_EVT: spec/10_reins_and_tender.md, instance reset. -/
def REIN_EVT : Nat := 0x1100004
def REIN_EVT.LIM_END : Fld := ⟨REIN_EVT, 2, 2⟩
def REIN_EVT.LIM_START : Fld := ⟨REIN_EVT, 1, 1⟩
def REIN_EVT.FLOOR : Fld := ⟨REIN_EVT, 0, 0⟩
/-- REIN_RATE: spec/10_reins_and_tender.md, instance reset. -/
def REIN_RATE (g : Nat) : Nat := 0x1101000 + 0x20 * g
def REIN_RATE.SRC (g : Nat) : Fld := ⟨REIN_RATE g, 10, 8⟩
def REIN_RATE.N (g : Nat) : Fld := ⟨REIN_RATE g, 6, 0⟩
/-- REIN_FW: spec/10_reins_and_tender.md, instance reset. -/
def REIN_FW (g : Nat) : Nat := 0x1101004 + 0x20 * g
def REIN_FW.RATE (g : Nat) : Fld := ⟨REIN_FW g, 6, 0⟩
/-- REIN_CAP: spec/10_reins_and_tender.md, instance reset. -/
def REIN_CAP (g : Nat) : Nat := 0x1101008 + 0x20 * g
def REIN_CAP.RATE (g : Nat) : Fld := ⟨REIN_CAP g, 6, 0⟩
/-- REIN_HWREQ0: spec/10_reins_and_tender.md, instance reset. -/
def REIN_HWREQ0 (g : Nat) : Nat := 0x110100c + 0x20 * g
def REIN_HWREQ0.SAFE (g : Nat) : Fld := ⟨REIN_HWREQ0 g, 31, 31⟩
def REIN_HWREQ0.THERM (g : Nat) : Fld := ⟨REIN_HWREQ0 g, 22, 16⟩
def REIN_HWREQ0.SKID (g : Nat) : Fld := ⟨REIN_HWREQ0 g, 14, 8⟩
def REIN_HWREQ0.LAME (g : Nat) : Fld := ⟨REIN_HWREQ0 g, 6, 0⟩
/-- REIN_HWREQ1: spec/10_reins_and_tender.md, instance reset. -/
def REIN_HWREQ1 (g : Nat) : Nat := 0x1101010 + 0x20 * g
def REIN_HWREQ1.COCAP (g : Nat) : Fld := ⟨REIN_HWREQ1 g, 14, 8⟩
def REIN_HWREQ1.EMCAP (g : Nat) : Fld := ⟨REIN_HWREQ1 g, 6, 0⟩
/-- REIN_LIMCYC_LO: spec/10_reins_and_tender.md, instance reset. -/
def REIN_LIMCYC_LO (g : Nat) : Nat := 0x1101014 + 0x20 * g
def REIN_LIMCYC_LO.CNT (g : Nat) : Fld := ⟨REIN_LIMCYC_LO g, 31, 0⟩
/-- REIN_LIMCYC_HI: spec/10_reins_and_tender.md, instance reset. -/
def REIN_LIMCYC_HI (g : Nat) : Nat := 0x1101018 + 0x20 * g
def REIN_LIMCYC_HI.CNT (g : Nat) : Fld := ⟨REIN_LIMCYC_HI g, 31, 0⟩
/-- TNDR_CTRL: spec/10_reins_and_tender.md, instance reset. -/
def TNDR_CTRL : Nat := 0x1180000
def TNDR_CTRL.FC_EN : Fld := ⟨TNDR_CTRL, 3, 3⟩
def TNDR_CTRL.PRE_EN : Fld := ⟨TNDR_CTRL, 2, 2⟩
def TNDR_CTRL.FLEET_EN : Fld := ⟨TNDR_CTRL, 1, 1⟩
def TNDR_CTRL.EN : Fld := ⟨TNDR_CTRL, 0, 0⟩
/-- TNDR_DIE: spec/10_reins_and_tender.md, instance reset. -/
def TNDR_DIE : Nat := 0x1180004
def TNDR_DIE.SLOPE : Fld := ⟨TNDR_DIE, 7, 0⟩
/-- TNDR_FLEET: spec/10_reins_and_tender.md, instance reset. -/
def TNDR_FLEET : Nat := 0x1180008
def TNDR_FLEET.SLOPE : Fld := ⟨TNDR_FLEET, 23, 0⟩
/-- TNDR_CFG: spec/10_reins_and_tender.md, instance reset. -/
def TNDR_CFG : Nat := 0x118000c
def TNDR_CFG.IFG : Fld := ⟨TNDR_CFG, 31, 16⟩
def TNDR_CFG.IDLE_WIN : Fld := ⟨TNDR_CFG, 15, 8⟩
/-- TNDR_PRE: spec/10_reins_and_tender.md, instance reset. -/
def TNDR_PRE : Nat := 0x1180010
def TNDR_PRE.MAX : Fld := ⟨TNDR_PRE, 15, 0⟩
/-- TNDR_STAT: spec/10_reins_and_tender.md, instance reset. -/
def TNDR_STAT : Nat := 0x1180014
def TNDR_STAT.D : Fld := ⟨TNDR_STAT, 31, 16⟩
def TNDR_STAT.NFILL : Fld := ⟨TNDR_STAT, 15, 8⟩
def TNDR_STAT.SHORT : Fld := ⟨TNDR_STAT, 1, 1⟩
def TNDR_STAT.ACTIVE : Fld := ⟨TNDR_STAT, 0, 0⟩
/-- TNDR_FLOOR: spec/10_reins_and_tender.md, instance reset. -/
def TNDR_FLOOR : Nat := 0x1180018
def TNDR_FLOOR.IPRG : Fld := ⟨TNDR_FLOOR, 31, 16⟩
def TNDR_FLOOR.IFL : Fld := ⟨TNDR_FLOOR, 15, 0⟩
/-- TNDR_EFIL_LO: spec/10_reins_and_tender.md, instance reset. -/
def TNDR_EFIL_LO : Nat := 0x1180020
def TNDR_EFIL_LO.E : Fld := ⟨TNDR_EFIL_LO, 31, 0⟩
/-- TNDR_EFIL_HI: spec/10_reins_and_tender.md, instance reset. -/
def TNDR_EFIL_HI : Nat := 0x1180024
def TNDR_EFIL_HI.E : Fld := ⟨TNDR_EFIL_HI, 31, 0⟩
/-- TNDR_SHORT: spec/10_reins_and_tender.md, instance reset. -/
def TNDR_SHORT : Nat := 0x1180028
def TNDR_SHORT.TICKS : Fld := ⟨TNDR_SHORT, 31, 16⟩
def TNDR_SHORT.PEAK : Fld := ⟨TNDR_SHORT, 15, 0⟩
/-- TNDR_EVT: spec/10_reins_and_tender.md, instance reset. -/
def TNDR_EVT : Nat := 0x118002c
def TNDR_EVT.NOTICE : Fld := ⟨TNDR_EVT, 3, 3⟩
def TNDR_EVT.SHORT_START : Fld := ⟨TNDR_EVT, 2, 2⟩
def TNDR_EVT.FILL_END : Fld := ⟨TNDR_EVT, 1, 1⟩
def TNDR_EVT.FILL_START : Fld := ⟨TNDR_EVT, 0, 0⟩
/-- TNDR_ORD: spec/10_reins_and_tender.md, instance reset. -/
def TNDR_ORD (g : Nat) : Nat := 0x1181000 + 0x4 * g
def TNDR_ORD.FILLABLE (g : Nat) : Fld := ⟨TNDR_ORD g, 31, 31⟩
def TNDR_ORD.WHY (g : Nat) : Fld := ⟨TNDR_ORD g, 29, 28⟩
def TNDR_ORD.F (g : Nat) : Fld := ⟨TNDR_ORD g, 22, 16⟩
def TNDR_ORD.O (g : Nat) : Fld := ⟨TNDR_ORD g, 6, 0⟩
/-- SKID_CTRL: spec/09_skid.md, instance reset. -/
def SKID_CTRL : Nat := 0x1200000
def SKID_CTRL.EN : Fld := ⟨SKID_CTRL, 0, 0⟩
/-- SKID_SUM: spec/09_skid.md, instance reset. -/
def SKID_SUM : Nat := 0x1200004
def SKID_SUM.NESC : Fld := ⟨SKID_SUM, 23, 16⟩
def SKID_SUM.NSTR : Fld := ⟨SKID_SUM, 15, 8⟩
/-- SKID_EVT_ESC: spec/09_skid.md, instance reset. -/
def SKID_EVT_ESC (i : Nat) : Nat := 0x1200040 + 0x4 * i
def SKID_EVT_ESC.EVT (i : Nat) : Fld := ⟨SKID_EVT_ESC i, 31, 0⟩
/-- SKID_CK: spec/09_skid.md, instance reset. -/
def SKID_CK (h : Nat) : Nat := 0x1200800 + 0x4 * h
def SKID_CK.SRC (h : Nat) : Fld := ⟨SKID_CK h, 15, 8⟩
def SKID_CK.DEPTH (h : Nat) : Fld := ⟨SKID_CK h, 2, 0⟩
/-- SKID_CFG: spec/09_skid.md, instance reset. -/
def SKID_CFG (n : Nat) : Nat := 0x1201000 + 0x40 * n
def SKID_CFG.EN (n : Nat) : Fld := ⟨SKID_CFG n, 31, 31⟩
def SKID_CFG.DMAX (n : Nat) : Fld := ⟨SKID_CFG n, 26, 24⟩
def SKID_CFG.RELHOLD (n : Nat) : Fld := ⟨SKID_CFG n, 23, 16⟩
def SKID_CFG.DSTEP (n : Nat) : Fld := ⟨SKID_CFG n, 15, 8⟩
def SKID_CFG.HYST (n : Nat) : Fld := ⟨SKID_CFG n, 7, 0⟩
/-- SKID_MAP: spec/09_skid.md, instance reset. -/
def SKID_MAP (n : Nat) : Nat := 0x1201004 + 0x40 * n
def SKID_MAP.RMARG (n : Nat) : Fld := ⟨SKID_MAP n, 23, 16⟩
def SKID_MAP.XMAP (n : Nat) : Fld := ⟨SKID_MAP n, 7, 0⟩
/-- SKID_FORCE: spec/09_skid.md, instance reset. -/
def SKID_FORCE (n : Nat) : Nat := 0x1201008 + 0x40 * n
def SKID_FORCE.DEPTH (n : Nat) : Fld := ⟨SKID_FORCE n, 2, 0⟩
/-- SKID_RSTAT: spec/09_skid.md, instance reset. -/
def SKID_RSTAT (n : Nat) : Nat := 0x120100c + 0x40 * n
def SKID_RSTAT.LEVEL (n : Nat) : Fld := ⟨SKID_RSTAT n, 27, 24⟩
def SKID_RSTAT.RELCNT (n : Nat) : Fld := ⟨SKID_RSTAT n, 23, 16⟩
def SKID_RSTAT.DEPTH (n : Nat) : Fld := ⟨SKID_RSTAT n, 2, 0⟩
/-- SKID_ESC: spec/09_skid.md, instance reset. -/
def SKID_ESC (n : Nat) : Nat := 0x1201010 + 0x40 * n
def SKID_ESC.TH (n : Nat) : Fld := ⟨SKID_ESC n, 31, 24⟩
def SKID_ESC.TH_LO (n : Nat) : Fld := ⟨SKID_ESC n, 23, 16⟩
def SKID_ESC.STEP (n : Nat) : Fld := ⟨SKID_ESC n, 15, 12⟩
def SKID_ESC.FLOOR (n : Nat) : Fld := ⟨SKID_ESC n, 11, 6⟩
/-- SKID_WIN: spec/09_skid.md, instance reset. -/
def SKID_WIN (n : Nat) : Nat := 0x1201014 + 0x40 * n
def SKID_WIN.ESC_EN (n : Nat) : Fld := ⟨SKID_WIN n, 31, 31⟩
def SKID_WIN.WIN (n : Nat) : Fld := ⟨SKID_WIN n, 15, 0⟩
/-- SKID_STRCYC_LO: spec/09_skid.md, instance reset. -/
def SKID_STRCYC_LO (n : Nat) : Nat := 0x1201018 + 0x40 * n
def SKID_STRCYC_LO.CNT (n : Nat) : Fld := ⟨SKID_STRCYC_LO n, 31, 0⟩
/-- SKID_STRCYC_HI: spec/09_skid.md, instance reset. -/
def SKID_STRCYC_HI (n : Nat) : Nat := 0x120101c + 0x40 * n
def SKID_STRCYC_HI.CNT (n : Nat) : Fld := ⟨SKID_STRCYC_HI n, 31, 0⟩
/-- SKID_NSTART: spec/09_skid.md, instance reset. -/
def SKID_NSTART (n : Nat) : Nat := 0x1201020 + 0x40 * n
def SKID_NSTART.COUNT (n : Nat) : Fld := ⟨SKID_NSTART n, 31, 0⟩
/-- SKID_DUTY: spec/09_skid.md, instance reset. -/
def SKID_DUTY (n : Nat) : Nat := 0x1201024 + 0x40 * n
def SKID_DUTY.CW (n : Nat) : Fld := ⟨SKID_DUTY n, 31, 0⟩
/-- SKID_DCUR: spec/09_skid.md, instance reset. -/
def SKID_DCUR (n : Nat) : Nat := 0x1201028 + 0x40 * n
def SKID_DCUR.CW (n : Nat) : Fld := ⟨SKID_DCUR n, 31, 0⟩
/-- SKID_PEAK: spec/09_skid.md, instance reset. -/
def SKID_PEAK (n : Nat) : Nat := 0x120102c + 0x40 * n
def SKID_PEAK.DEPTH (n : Nat) : Fld := ⟨SKID_PEAK n, 18, 16⟩
def SKID_PEAK.DEFICIT (n : Nat) : Fld := ⟨SKID_PEAK n, 15, 0⟩
/-- SKID_LAST_TS: spec/09_skid.md, instance reset. -/
def SKID_LAST_TS (n : Nat) : Nat := 0x1201030 + 0x40 * n
def SKID_LAST_TS.TS (n : Nat) : Fld := ⟨SKID_LAST_TS n, 31, 0⟩
/-- SKID_ESCCNT: spec/09_skid.md, instance reset. -/
def SKID_ESCCNT (n : Nat) : Nat := 0x1201034 + 0x40 * n
def SKID_ESCCNT.RISES (n : Nat) : Fld := ⟨SKID_ESCCNT n, 15, 0⟩
/-- PWR_CTRL: spec/11_power_policy.md, instance reset. -/
def PWR_CTRL : Nat := 0x1300000
def PWR_CTRL.PG : Fld := ⟨PWR_CTRL, 23, 20⟩
def PWR_CTRL.DEF_IDX : Fld := ⟨PWR_CTRL, 19, 16⟩
def PWR_CTRL.FIXED : Fld := ⟨PWR_CTRL, 4, 4⟩
def PWR_CTRL.BOOST_EN : Fld := ⟨PWR_CTRL, 3, 3⟩
def PWR_CTRL.ENV_EN : Fld := ⟨PWR_CTRL, 2, 2⟩
def PWR_CTRL.CAP_EN : Fld := ⟨PWR_CTRL, 1, 1⟩
def PWR_CTRL.OP_EN : Fld := ⟨PWR_CTRL, 0, 0⟩
/-- PWR_STAT: spec/11_power_policy.md, instance reset. -/
def PWR_STAT : Nat := 0x1300004
def PWR_STAT.UNATTAIN : Fld := ⟨PWR_STAT, 31, 31⟩
def PWR_STAT.SHARE_LOST : Fld := ⟨PWR_STAT, 30, 30⟩
def PWR_STAT.OP_ERR : Fld := ⟨PWR_STAT, 29, 29⟩
def PWR_STAT.L : Fld := ⟨PWR_STAT, 23, 16⟩
def PWR_STAT.LMAX : Fld := ⟨PWR_STAT, 12, 8⟩
def PWR_STAT.ERR_RGN : Fld := ⟨PWR_STAT, 7, 0⟩
/-- PWR_PKG: spec/11_power_policy.md, instance reset. -/
def PWR_PKG : Nat := 0x1300008
def PWR_PKG.HOST : Fld := ⟨PWR_PKG, 31, 16⟩
def PWR_PKG.SMIN : Fld := ⟨PWR_PKG, 15, 0⟩
/-- PWR_PKG_BMC: spec/11_power_policy.md, instance reset. -/
def PWR_PKG_BMC : Nat := 0x130000c
def PWR_PKG_BMC.BMC : Fld := ⟨PWR_PKG_BMC, 15, 0⟩
/-- PWR_PKG_EFF: spec/11_power_policy.md, instance reset. -/
def PWR_PKG_EFF : Nat := 0x1300010
def PWR_PKG_EFF.P : Fld := ⟨PWR_PKG_EFF, 15, 0⟩
/-- PWR_CAPCFG: spec/11_power_policy.md, instance reset. -/
def PWR_CAPCFG : Nat := 0x1300014
def PWR_CAPCFG.RELAX : Fld := ⟨PWR_CAPCFG, 23, 16⟩
def PWR_CAPCFG.BMARG : Fld := ⟨PWR_CAPCFG, 15, 8⟩
def PWR_CAPCFG.HYST : Fld := ⟨PWR_CAPCFG, 7, 0⟩
/-- PWR_SHARE: spec/11_power_policy.md, instance reset. -/
def PWR_SHARE : Nat := 0x1300018
def PWR_SHARE.MEAS : Fld := ⟨PWR_SHARE, 31, 16⟩
def PWR_SHARE.SHARE : Fld := ⟨PWR_SHARE, 15, 0⟩
/-- PWR_DEFICIT: spec/11_power_policy.md, instance reset. -/
def PWR_DEFICIT : Nat := 0x130001c
def PWR_DEFICIT.TICKS : Fld := ⟨PWR_DEFICIT, 31, 16⟩
def PWR_DEFICIT.W : Fld := ⟨PWR_DEFICIT, 15, 0⟩
/-- PWR_SHTAB: spec/11_power_policy.md, instance reset. -/
def PWR_SHTAB (i : Nat) : Nat := 0x1300020 + 0x4 * i
def PWR_SHTAB.M (i : Nat) : Fld := ⟨PWR_SHTAB i, 31, 16⟩
def PWR_SHTAB.SHARE (i : Nat) : Fld := ⟨PWR_SHTAB i, 15, 0⟩
/-- PWR_EIN_LO: spec/11_power_policy.md, power-on reset. -/
def PWR_EIN_LO : Nat := 0x1300030
def PWR_EIN_LO.E : Fld := ⟨PWR_EIN_LO, 31, 0⟩
/-- PWR_EIN_HI: spec/11_power_policy.md, power-on reset. -/
def PWR_EIN_HI : Nat := 0x1300034
def PWR_EIN_HI.E : Fld := ⟨PWR_EIN_HI, 31, 0⟩
/-- PWR_CAL: spec/11_power_policy.md, instance reset. -/
def PWR_CAL : Nat := 0x1300038
def PWR_CAL.CALGEN : Fld := ⟨PWR_CAL, 31, 16⟩
def PWR_CAL.BAD : Fld := ⟨PWR_CAL, 1, 1⟩
def PWR_CAL.COMMIT : Fld := ⟨PWR_CAL, 0, 0⟩
/-- PWR_FACK: spec/11_power_policy.md, instance reset. -/
def PWR_FACK : Nat := 0x130003c
def PWR_FACK.TO : Fld := ⟨PWR_FACK, 15, 0⟩
/-- PWR_EVT: spec/11_power_policy.md, instance reset. -/
def PWR_EVT : Nat := 0x1300040
def PWR_EVT.MEAS_BAD : Fld := ⟨PWR_EVT, 10, 10⟩
def PWR_EVT.WR_REFUSED : Fld := ⟨PWR_EVT, 9, 9⟩
def PWR_EVT.OPERR : Fld := ⟨PWR_EVT, 8, 8⟩
def PWR_EVT.WBL_DROP : Fld := ⟨PWR_EVT, 7, 7⟩
def PWR_EVT.WBL : Fld := ⟨PWR_EVT, 6, 6⟩
def PWR_EVT.CAL : Fld := ⟨PWR_EVT, 5, 5⟩
def PWR_EVT.FTO : Fld := ⟨PWR_EVT, 4, 4⟩
def PWR_EVT.FREQ : Fld := ⟨PWR_EVT, 3, 3⟩
def PWR_EVT.SHARE_LOST : Fld := ⟨PWR_EVT, 2, 2⟩
def PWR_EVT.ATTAIN : Fld := ⟨PWR_EVT, 1, 1⟩
def PWR_EVT.UNATTAIN : Fld := ⟨PWR_EVT, 0, 0⟩
/-- PWR_LEG: spec/11_power_policy.md, instance reset. -/
def PWR_LEG (t : Nat) : Nat := 0x1300100 + 0x4 * t
def PWR_LEG.NOBOOST (t : Nat) : Fld := ⟨PWR_LEG t, 4, 4⟩
def PWR_LEG.IDX (t : Nat) : Fld := ⟨PWR_LEG t, 3, 0⟩
/-- PWR_OP: spec/11_power_policy.md, instance reset. -/
def PWR_OP (n : Nat) (i : Nat) : Nat := 0x1301000 + 0x80 * n + 0x4 * i
def PWR_OP.VALID (n : Nat) (i : Nat) : Fld := ⟨PWR_OP n i, 31, 31⟩
def PWR_OP.FMHZ (n : Nat) (i : Nat) : Fld := ⟨PWR_OP n i, 27, 16⟩
def PWR_OP.VCODE (n : Nat) (i : Nat) : Fld := ⟨PWR_OP n i, 8, 0⟩
/-- PWR_RGN_STAT: spec/11_power_policy.md, instance reset. -/
def PWR_RGN_STAT (n : Nat) : Nat := 0x1301040 + 0x80 * n
def PWR_RGN_STAT.PEND (n : Nat) : Fld := ⟨PWR_RGN_STAT n, 31, 31⟩
def PWR_RGN_STAT.FTO (n : Nat) : Fld := ⟨PWR_RGN_STAT n, 29, 29⟩
def PWR_RGN_STAT.BOOSTED (n : Nat) : Fld := ⟨PWR_RGN_STAT n, 28, 28⟩
def PWR_RGN_STAT.P (n : Nat) : Fld := ⟨PWR_RGN_STAT n, 27, 24⟩
def PWR_RGN_STAT.T (n : Nat) : Fld := ⟨PWR_RGN_STAT n, 23, 20⟩
def PWR_RGN_STAT.I (n : Nat) : Fld := ⟨PWR_RGN_STAT n, 19, 16⟩
def PWR_RGN_STAT.K (n : Nat) : Fld := ⟨PWR_RGN_STAT n, 12, 8⟩
def PWR_RGN_STAT.RATE (n : Nat) : Fld := ⟨PWR_RGN_STAT n, 6, 0⟩
/-- PWR_K01: spec/11_power_policy.md, instance reset. -/
def PWR_K01 (n : Nat) : Nat := 0x1301044 + 0x80 * n
def PWR_K01.K1 (n : Nat) : Fld := ⟨PWR_K01 n, 31, 16⟩
def PWR_K01.K0 (n : Nat) : Fld := ⟨PWR_K01 n, 15, 0⟩
/-- PWR_K23: spec/11_power_policy.md, instance reset. -/
def PWR_K23 (n : Nat) : Nat := 0x1301048 + 0x80 * n
def PWR_K23.K3 (n : Nat) : Fld := ⟨PWR_K23 n, 31, 16⟩
def PWR_K23.K2 (n : Nat) : Fld := ⟨PWR_K23 n, 15, 0⟩
/-- PWR_PS: spec/11_power_policy.md, instance reset. -/
def PWR_PS (n : Nat) : Nat := 0x130104c + 0x80 * n
def PWR_PS.PS (n : Nat) : Fld := ⟨PWR_PS n, 15, 0⟩
/-- PWR_FREQ: spec/11_power_policy.md, instance reset. -/
def PWR_FREQ (n : Nat) : Nat := 0x1301050 + 0x80 * n
def PWR_FREQ.ACK (n : Nat) : Fld := ⟨PWR_FREQ n, 27, 16⟩
def PWR_FREQ.REQ (n : Nat) : Fld := ⟨PWR_FREQ n, 11, 0⟩
/-- PWR_EST: spec/11_power_policy.md, instance reset. -/
def PWR_EST (n : Nat) : Nat := 0x1301054 + 0x80 * n
def PWR_EST.P (n : Nat) : Fld := ⟨PWR_EST n, 19, 0⟩
/-- PWR_MEAS: spec/11_power_policy.md, instance reset. -/
def PWR_MEAS (n : Nat) : Nat := 0x1301058 + 0x80 * n
def PWR_MEAS.P (n : Nat) : Fld := ⟨PWR_MEAS n, 19, 0⟩
/-- PWR_KL01: spec/11_power_policy.md, instance reset. -/
def PWR_KL01 (n : Nat) : Nat := 0x130105c + 0x80 * n
def PWR_KL01.K1 (n : Nat) : Fld := ⟨PWR_KL01 n, 31, 16⟩
def PWR_KL01.K0 (n : Nat) : Fld := ⟨PWR_KL01 n, 15, 0⟩
/-- PWR_KL23: spec/11_power_policy.md, instance reset. -/
def PWR_KL23 (n : Nat) : Nat := 0x1301060 + 0x80 * n
def PWR_KL23.K3 (n : Nat) : Fld := ⟨PWR_KL23 n, 31, 16⟩
def PWR_KL23.K2 (n : Nat) : Fld := ⟨PWR_KL23 n, 15, 0⟩
/-- PWR_PSL: spec/11_power_policy.md, instance reset. -/
def PWR_PSL (n : Nat) : Nat := 0x1301064 + 0x80 * n
def PWR_PSL.PS (n : Nat) : Fld := ⟨PWR_PSL n, 15, 0⟩
/-- PWR_RE_LO: spec/11_power_policy.md, instance reset. -/
def PWR_RE_LO (n : Nat) : Nat := 0x1301068 + 0x80 * n
def PWR_RE_LO.E (n : Nat) : Fld := ⟨PWR_RE_LO n, 31, 0⟩
/-- PWR_RE_HI: spec/11_power_policy.md, instance reset. -/
def PWR_RE_HI (n : Nat) : Nat := 0x130106c + 0x80 * n
def PWR_RE_HI.E (n : Nat) : Fld := ⟨PWR_RE_HI n, 31, 0⟩
/-- PWR_CS: spec/11_power_policy.md, instance reset. -/
def PWR_CS (n : Nat) (w : Nat) : Nat := 0x1310000 + 0x20 * n + 0x4 * w
def PWR_CS.V (n : Nat) (w : Nat) : Fld := ⟨PWR_CS n w, 31, 0⟩
/-- WBL_CTRL: spec/11_power_policy.md, instance reset. -/
def WBL_CTRL : Nat := 0x1380000
def WBL_CTRL.EN : Fld := ⟨WBL_CTRL, 31, 31⟩
def WBL_CTRL.IVL : Fld := ⟨WBL_CTRL, 15, 8⟩
def WBL_CTRL.SZ : Fld := ⟨WBL_CTRL, 4, 0⟩
/-- WBL_STAT: spec/11_power_policy.md, instance reset. -/
def WBL_STAT : Nat := 0x1380004
def WBL_STAT.DROPPED : Fld := ⟨WBL_STAT, 31, 16⟩
/-- WBL_SEQ: spec/11_power_policy.md, instance reset. -/
def WBL_SEQ : Nat := 0x1380008
def WBL_SEQ.SEQ : Fld := ⟨WBL_SEQ, 31, 0⟩
/-- WBL_RING_LO: spec/11_power_policy.md, instance reset. -/
def WBL_RING_LO : Nat := 0x1380010
def WBL_RING_LO.ADDR : Fld := ⟨WBL_RING_LO, 31, 0⟩
/-- WBL_RING_HI: spec/11_power_policy.md, instance reset. -/
def WBL_RING_HI : Nat := 0x1380014
def WBL_RING_HI.ADDR : Fld := ⟨WBL_RING_HI, 31, 0⟩
/-- WBL_WPTR: spec/11_power_policy.md, instance reset. -/
def WBL_WPTR : Nat := 0x1380018
def WBL_WPTR.PTR : Fld := ⟨WBL_WPTR, 15, 0⟩
/-- WBL_RPTR: spec/11_power_policy.md, instance reset. -/
def WBL_RPTR : Nat := 0x138001c
def WBL_RPTR.PTR : Fld := ⟨WBL_RPTR, 15, 0⟩
/-- WBL_TAG_LO: spec/11_power_policy.md, instance reset. -/
def WBL_TAG_LO (j : Nat) : Nat := 0x1380100 + 0x20 * j
def WBL_TAG_LO.V (j : Nat) : Fld := ⟨WBL_TAG_LO j, 31, 0⟩
/-- WBL_TAG_HI: spec/11_power_policy.md, instance reset. -/
def WBL_TAG_HI (j : Nat) : Nat := 0x1380104 + 0x20 * j
def WBL_TAG_HI.V (j : Nat) : Fld := ⟨WBL_TAG_HI j, 31, 0⟩
/-- WBL_LTAG_LO: spec/11_power_policy.md, instance reset. -/
def WBL_LTAG_LO (j : Nat) : Nat := 0x1380108 + 0x20 * j
def WBL_LTAG_LO.V (j : Nat) : Fld := ⟨WBL_LTAG_LO j, 31, 0⟩
/-- WBL_LTAG_HI: spec/11_power_policy.md, instance reset. -/
def WBL_LTAG_HI (j : Nat) : Nat := 0x138010c + 0x20 * j
def WBL_LTAG_HI.V (j : Nat) : Fld := ⟨WBL_LTAG_HI j, 31, 0⟩
/-- WBL_TOT_LO: spec/11_power_policy.md, power-on reset. -/
def WBL_TOT_LO (j : Nat) : Nat := 0x1380110 + 0x20 * j
def WBL_TOT_LO.V (j : Nat) : Fld := ⟨WBL_TOT_LO j, 31, 0⟩
/-- WBL_TOT_HI: spec/11_power_policy.md, power-on reset. -/
def WBL_TOT_HI (j : Nat) : Nat := 0x1380114 + 0x20 * j
def WBL_TOT_HI.V (j : Nat) : Fld := ⟨WBL_TOT_HI j, 31, 0⟩
/-- WBL_FTOT_LO: spec/11_power_policy.md, power-on reset. -/
def WBL_FTOT_LO (j : Nat) : Nat := 0x1380118 + 0x20 * j
def WBL_FTOT_LO.V (j : Nat) : Fld := ⟨WBL_FTOT_LO j, 31, 0⟩
/-- WBL_FTOT_HI: spec/11_power_policy.md, power-on reset. -/
def WBL_FTOT_HI (j : Nat) : Nat := 0x138011c + 0x20 * j
def WBL_FTOT_HI.V (j : Nat) : Fld := ⟨WBL_FTOT_HI j, 31, 0⟩
/-- WBL_GMAP: spec/11_power_policy.md, instance reset. -/
def WBL_GMAP (g : Nat) : Nat := 0x1380400 + 0x4 * g
def WBL_GMAP.LIVE (g : Nat) : Fld := ⟨WBL_GMAP g, 19, 16⟩
def WBL_GMAP.SLOT (g : Nat) : Fld := ⟨WBL_GMAP g, 3, 0⟩
/-- CPLR_CTRL: spec/12_coupler.md, instance reset. -/
def CPLR_CTRL : Nat := 0x1400000
def CPLR_CTRL.EN : Fld := ⟨CPLR_CTRL, 31, 31⟩
def CPLR_CTRL.ROLE : Fld := ⟨CPLR_CTRL, 30, 29⟩
def CPLR_CTRL.HB_MISS : Fld := ⟨CPLR_CTRL, 3, 0⟩
/-- CPLR_STAT: spec/12_coupler.md, instance reset. -/
def CPLR_STAT : Nat := 0x1400004
def CPLR_STAT.NCHILD : Fld := ⟨CPLR_STAT, 20, 16⟩
def CPLR_STAT.PARENT_OK : Fld := ⟨CPLR_STAT, 8, 8⟩
def CPLR_STAT.STATE : Fld := ⟨CPLR_STAT, 2, 0⟩
/-- CPLR_ID: spec/12_coupler.md, instance reset. -/
def CPLR_ID : Nat := 0x1400008
def CPLR_ID.PKG : Fld := ⟨CPLR_ID, 16, 2⟩
def CPLR_ID.INST : Fld := ⟨CPLR_ID, 1, 0⟩
/-- CPLR_EPOCH: spec/12_coupler.md, instance reset. -/
def CPLR_EPOCH : Nat := 0x140000c
def CPLR_EPOCH.EPOCH : Fld := ⟨CPLR_EPOCH, 31, 0⟩
/-- CPLR_OFS: spec/12_coupler.md, instance reset. -/
def CPLR_OFS : Nat := 0x1400010
def CPLR_OFS.VALID : Fld := ⟨CPLR_OFS, 31, 31⟩
def CPLR_OFS.THETA : Fld := ⟨CPLR_OFS, 15, 0⟩
/-- CPLR_SB: spec/12_coupler.md, instance reset. -/
def CPLR_SB : Nat := 0x1400014
def CPLR_SB.SBDLY : Fld := ⟨CPLR_SB, 7, 0⟩
/-- CPLR_EVT: spec/12_coupler.md, instance reset. -/
def CPLR_EVT : Nat := 0x1400018
def CPLR_EVT.ENV_BAD : Fld := ⟨CPLR_EVT, 12, 12⟩
def CPLR_EVT.CFG_ERR : Fld := ⟨CPLR_EVT, 11, 11⟩
def CPLR_EVT.RW_OVF : Fld := ⟨CPLR_EVT, 10, 10⟩
def CPLR_EVT.EM_OVF : Fld := ⟨CPLR_EVT, 9, 9⟩
def CPLR_EVT.AGG_OVF : Fld := ⟨CPLR_EVT, 8, 8⟩
def CPLR_EVT.CFG : Fld := ⟨CPLR_EVT, 7, 7⟩
def CPLR_EVT.OVF : Fld := ⟨CPLR_EVT, 6, 6⟩
def CPLR_EVT.ENV : Fld := ⟨CPLR_EVT, 5, 5⟩
def CPLR_EVT.CC : Fld := ⟨CPLR_EVT, 4, 4⟩
def CPLR_EVT.EM : Fld := ⟨CPLR_EVT, 3, 3⟩
def CPLR_EVT.RWC : Fld := ⟨CPLR_EVT, 2, 2⟩
def CPLR_EVT.ORPHAN : Fld := ⟨CPLR_EVT, 1, 1⟩
def CPLR_EVT.PEER : Fld := ⟨CPLR_EVT, 0, 0⟩
/-- CPLR_CNT: spec/12_coupler.md, instance reset. -/
def CPLR_CNT : Nat := 0x140001c
def CPLR_CNT.RW_REJ : Fld := ⟨CPLR_CNT, 31, 24⟩
def CPLR_CNT.RW_LATE : Fld := ⟨CPLR_CNT, 23, 16⟩
def CPLR_CNT.CC_LATE : Fld := ⟨CPLR_CNT, 15, 8⟩
def CPLR_CNT.BADMSG : Fld := ⟨CPLR_CNT, 7, 0⟩
/-- CPLR_CC: spec/12_coupler.md, instance reset. -/
def CPLR_CC : Nat := 0x1400020
def CPLR_CC.GUARD : Fld := ⟨CPLR_CC, 15, 0⟩
/-- CPLR_EP_CFG: spec/12_coupler.md, instance reset. -/
def CPLR_EP_CFG (e : Nat) : Nat := 0x1400100 + 0x8 * e
def CPLR_EP_CFG.ROLE (e : Nat) : Fld := ⟨CPLR_EP_CFG e, 31, 30⟩
def CPLR_EP_CFG.PEER (e : Nat) : Fld := ⟨CPLR_EP_CFG e, 14, 0⟩
/-- CPLR_EP_STAT: spec/12_coupler.md, instance reset. -/
def CPLR_EP_STAT (e : Nat) : Nat := 0x1400104 + 0x8 * e
def CPLR_EP_STAT.TRAINED (e : Nat) : Fld := ⟨CPLR_EP_STAT e, 31, 31⟩
def CPLR_EP_STAT.PRESENT (e : Nat) : Fld := ⟨CPLR_EP_STAT e, 30, 30⟩
def CPLR_EP_STAT.MISS (e : Nat) : Fld := ⟨CPLR_EP_STAT e, 3, 0⟩
/-- CPLR_EP_CFG_SB: spec/12_coupler.md, instance reset. -/
def CPLR_EP_CFG_SB (e : Nat) : Nat := 0x1400188 + 0x8 * e
def CPLR_EP_CFG_SB.ROLE (e : Nat) : Fld := ⟨CPLR_EP_CFG_SB e, 31, 30⟩
def CPLR_EP_CFG_SB.PEER (e : Nat) : Fld := ⟨CPLR_EP_CFG_SB e, 14, 0⟩
/-- CPLR_GRP_CFG: spec/12_coupler.md, instance reset. -/
def CPLR_GRP_CFG (x : Nat) : Nat := 0x1400200 + 0x10 * x
def CPLR_GRP_CFG.EN (x : Nat) : Fld := ⟨CPLR_GRP_CFG x, 31, 31⟩
def CPLR_GRP_CFG.POLICY (x : Nat) : Fld := ⟨CPLR_GRP_CFG x, 30, 30⟩
def CPLR_GRP_CFG.GID (x : Nat) : Fld := ⟨CPLR_GRP_CFG x, 11, 0⟩
/-- CPLR_GMASK_LO: spec/12_coupler.md, instance reset. -/
def CPLR_GMASK_LO (x : Nat) : Nat := 0x1400204 + 0x10 * x
def CPLR_GMASK_LO.V (x : Nat) : Fld := ⟨CPLR_GMASK_LO x, 31, 0⟩
/-- CPLR_GMASK_HI: spec/12_coupler.md, instance reset. -/
def CPLR_GMASK_HI (x : Nat) : Nat := 0x1400208 + 0x10 * x
def CPLR_GMASK_HI.V (x : Nat) : Fld := ⟨CPLR_GMASK_HI x, 31, 0⟩
/-- CPLR_GRP_STAT: spec/12_coupler.md, instance reset. -/
def CPLR_GRP_STAT (x : Nat) : Nat := 0x140020c + 0x10 * x
def CPLR_GRP_STAT.LATE (x : Nat) : Fld := ⟨CPLR_GRP_STAT x, 31, 31⟩
def CPLR_GRP_STAT.GRATE (x : Nat) : Fld := ⟨CPLR_GRP_STAT x, 22, 16⟩
def CPLR_GRP_STAT.ANN (x : Nat) : Fld := ⟨CPLR_GRP_STAT x, 14, 8⟩
def CPLR_GRP_STAT.RG (x : Nat) : Fld := ⟨CPLR_GRP_STAT x, 6, 0⟩
/-- CPLR_EM_ISSUE: spec/12_coupler.md, instance reset. -/
def CPLR_EM_ISSUE : Nat := 0x1400300
def CPLR_EM_ISSUE.TTL : Fld := ⟨CPLR_EM_ISSUE, 31, 16⟩
def CPLR_EM_ISSUE.RATE : Fld := ⟨CPLR_EM_ISSUE, 6, 0⟩
/-- CPLR_EM_STAT: spec/12_coupler.md, instance reset. -/
def CPLR_EM_STAT : Nat := 0x1400304
def CPLR_EM_STAT.NENT : Fld := ⟨CPLR_EM_STAT, 10, 8⟩
def CPLR_EM_STAT.RATE : Fld := ⟨CPLR_EM_STAT, 6, 0⟩
/-- CPLR_EM_TAB0: spec/12_coupler.md, instance reset. -/
def CPLR_EM_TAB0 (i : Nat) : Nat := 0x1400310 + 0x10 * i
def CPLR_EM_TAB0.VALID (i : Nat) : Fld := ⟨CPLR_EM_TAB0 i, 31, 31⟩
def CPLR_EM_TAB0.ISSUER (i : Nat) : Fld := ⟨CPLR_EM_TAB0 i, 16, 0⟩
/-- CPLR_EM_TAB1: spec/12_coupler.md, instance reset. -/
def CPLR_EM_TAB1 (i : Nat) : Nat := 0x1400314 + 0x10 * i
def CPLR_EM_TAB1.SEQ (i : Nat) : Fld := ⟨CPLR_EM_TAB1 i, 31, 16⟩
def CPLR_EM_TAB1.RATE (i : Nat) : Fld := ⟨CPLR_EM_TAB1 i, 6, 0⟩
/-- CPLR_EM_TAB2: spec/12_coupler.md, instance reset. -/
def CPLR_EM_TAB2 (i : Nat) : Nat := 0x1400318 + 0x10 * i
def CPLR_EM_TAB2.EXPIRE (i : Nat) : Fld := ⟨CPLR_EM_TAB2 i, 31, 0⟩
/-- CPLR_ENV_REF: spec/12_coupler.md, instance reset. -/
def CPLR_ENV_REF : Nat := 0x1400400
def CPLR_ENV_REF.REF : Fld := ⟨CPLR_ENV_REF, 15, 0⟩
/-- CPLR_ENV_CUR: spec/12_coupler.md, instance reset. -/
def CPLR_ENV_CUR : Nat := 0x1400404
def CPLR_ENV_CUR.VALID : Fld := ⟨CPLR_ENV_CUR, 31, 31⟩
def CPLR_ENV_CUR.FLEET : Fld := ⟨CPLR_ENV_CUR, 16, 16⟩
def CPLR_ENV_CUR.FRAC : Fld := ⟨CPLR_ENV_CUR, 15, 0⟩
/-- CPLR_ENV_TGT: spec/12_coupler.md, instance reset. -/
def CPLR_ENV_TGT : Nat := 0x1400408
def CPLR_ENV_TGT.I : Fld := ⟨CPLR_ENV_TGT, 31, 16⟩
def CPLR_ENV_TGT.T : Fld := ⟨CPLR_ENV_TGT, 15, 0⟩
/-- CPLR_ENV_TRIM: spec/12_coupler.md, instance reset. -/
def CPLR_ENV_TRIM : Nat := 0x140040c
def CPLR_ENV_TRIM.IMAX : Fld := ⟨CPLR_ENV_TRIM, 31, 16⟩
def CPLR_ENV_TRIM.KI : Fld := ⟨CPLR_ENV_TRIM, 7, 0⟩
/-- CPLR_ENV_ERR: spec/12_coupler.md, instance reset. -/
def CPLR_ENV_ERR : Nat := 0x1400410
def CPLR_ENV_ERR.CONSTR : Fld := ⟨CPLR_ENV_ERR, 31, 31⟩
def CPLR_ENV_ERR.VALID : Fld := ⟨CPLR_ENV_ERR, 30, 30⟩
def CPLR_ENV_ERR.ERR : Fld := ⟨CPLR_ENV_ERR, 15, 0⟩
/-- CPLR_ENV_ISSUE_E: spec/12_coupler.md, instance reset. -/
def CPLR_ENV_ISSUE_E : Nat := 0x1400418
def CPLR_ENV_ISSUE_E.E : Fld := ⟨CPLR_ENV_ISSUE_E, 31, 0⟩
/-- CPLR_ENV_ISSUE: spec/12_coupler.md, instance reset. -/
def CPLR_ENV_ISSUE : Nat := 0x140041c
def CPLR_ENV_ISSUE.FLEET : Fld := ⟨CPLR_ENV_ISSUE, 16, 16⟩
def CPLR_ENV_ISSUE.FRAC : Fld := ⟨CPLR_ENV_ISSUE, 15, 0⟩
/-- CPLR_RW_BASE: spec/12_coupler.md, instance reset. -/
def CPLR_RW_BASE : Nat := 0x1400500
def CPLR_RW_BASE.BASE : Fld := ⟨CPLR_RW_BASE, 17, 0⟩
/-- CPLR_RW_LIM: spec/12_coupler.md, instance reset. -/
def CPLR_RW_LIM : Nat := 0x1400504
def CPLR_RW_LIM.LIM : Fld := ⟨CPLR_RW_LIM, 18, 0⟩
/-- CPLR_RW_TO: spec/12_coupler.md, instance reset. -/
def CPLR_RW_TO : Nat := 0x1400508
def CPLR_RW_TO.TO : Fld := ⟨CPLR_RW_TO, 15, 0⟩
/-- CPLR_RW_OPEN: spec/12_coupler.md, instance reset. -/
def CPLR_RW_OPEN : Nat := 0x140050c
def CPLR_RW_OPEN.OPEN : Fld := ⟨CPLR_RW_OPEN, 6, 0⟩
/-- CPLR_RXC0: spec/12_coupler.md, instance reset. -/
def CPLR_RXC0 : Nat := 0x1400510
def CPLR_RXC0.VALID : Fld := ⟨CPLR_RXC0, 31, 31⟩
def CPLR_RXC0.INCOMPLETE : Fld := ⟨CPLR_RXC0, 30, 30⟩
def CPLR_RXC0.WIN : Fld := ⟨CPLR_RXC0, 23, 16⟩
def CPLR_RXC0.COUNT : Fld := ⟨CPLR_RXC0, 15, 0⟩
/-- CPLR_RXC1: spec/12_coupler.md, instance reset. -/
def CPLR_RXC1 : Nat := 0x1400514
def CPLR_RXC1.PEER : Fld := ⟨CPLR_RXC1, 16, 0⟩
/-- CPLR_TX_DST: spec/12_coupler.md, instance reset. -/
def CPLR_TX_DST (q : Nat) : Nat := 0x1400800 + 0x20 * q
def CPLR_TX_DST.V (q : Nat) : Fld := ⟨CPLR_TX_DST q, 16, 0⟩
/-- CPLR_TX_ADDR: spec/12_coupler.md, instance reset. -/
def CPLR_TX_ADDR (q : Nat) : Nat := 0x1400804 + 0x20 * q
def CPLR_TX_ADDR.V (q : Nat) : Fld := ⟨CPLR_TX_ADDR q, 17, 3⟩
/-- CPLR_TX_DATA_LO: spec/12_coupler.md, instance reset. -/
def CPLR_TX_DATA_LO (q : Nat) : Nat := 0x1400808 + 0x20 * q
def CPLR_TX_DATA_LO.V (q : Nat) : Fld := ⟨CPLR_TX_DATA_LO q, 31, 0⟩
/-- CPLR_TX_DATA_HI: spec/12_coupler.md, instance reset. -/
def CPLR_TX_DATA_HI (q : Nat) : Nat := 0x140080c + 0x20 * q
def CPLR_TX_DATA_HI.V (q : Nat) : Fld := ⟨CPLR_TX_DATA_HI q, 31, 0⟩
/-- CPLR_TX_CTL: spec/12_coupler.md, instance reset. -/
def CPLR_TX_CTL (q : Nat) : Nat := 0x1400810 + 0x20 * q
def CPLR_TX_CTL.BE (q : Nat) : Fld := ⟨CPLR_TX_CTL q, 31, 24⟩
def CPLR_TX_CTL.WIN (q : Nat) : Fld := ⟨CPLR_TX_CTL q, 23, 16⟩
def CPLR_TX_CTL.SEQ (q : Nat) : Fld := ⟨CPLR_TX_CTL q, 15, 0⟩
/-- CPLR_TX_CMD: spec/12_coupler.md, instance reset. -/
def CPLR_TX_CMD (q : Nat) : Nat := 0x1400814 + 0x20 * q
def CPLR_TX_CMD.COMMIT (q : Nat) : Fld := ⟨CPLR_TX_CMD q, 1, 1⟩
def CPLR_TX_CMD.SEND (q : Nat) : Fld := ⟨CPLR_TX_CMD q, 0, 0⟩
/-- CPLR_TX_STAT: spec/12_coupler.md, instance reset. -/
def CPLR_TX_STAT (q : Nat) : Nat := 0x1400818 + 0x20 * q
def CPLR_TX_STAT.OVF (q : Nat) : Fld := ⟨CPLR_TX_STAT q, 31, 31⟩
def CPLR_TX_STAT.N (q : Nat) : Fld := ⟨CPLR_TX_STAT q, 3, 0⟩
/-- CPLR_RAM: spec/12_coupler.md, instance reset. -/
def CPLR_RAM (i : Nat) : Nat := 0x1440000 + 0x4 * i
def CPLR_RAM.V (i : Nat) : Fld := ⟨CPLR_RAM i, 31, 0⟩
/-- TLM_FRZ_CTRL: spec/16_telemetry_and_ageing.md, instance reset. -/
def TLM_FRZ_CTRL : Nat := 0x1500000
def TLM_FRZ_CTRL.TAG : Fld := ⟨TLM_FRZ_CTRL, 31, 16⟩
def TLM_FRZ_CTRL.EXPORT : Fld := ⟨TLM_FRZ_CTRL, 8, 8⟩
def TLM_FRZ_CTRL.DISARM : Fld := ⟨TLM_FRZ_CTRL, 2, 2⟩
def TLM_FRZ_CTRL.ARM : Fld := ⟨TLM_FRZ_CTRL, 1, 1⟩
def TLM_FRZ_CTRL.LOCAL : Fld := ⟨TLM_FRZ_CTRL, 0, 0⟩
/-- TLM_FRZ_STAT: spec/16_telemetry_and_ageing.md, instance reset. -/
def TLM_FRZ_STAT : Nat := 0x1500004
def TLM_FRZ_STAT.BUSY : Fld := ⟨TLM_FRZ_STAT, 31, 31⟩
def TLM_FRZ_STAT.ARMED : Fld := ⟨TLM_FRZ_STAT, 30, 30⟩
def TLM_FRZ_STAT.LATE : Fld := ⟨TLM_FRZ_STAT, 29, 29⟩
def TLM_FRZ_STAT.MISSED : Fld := ⟨TLM_FRZ_STAT, 28, 28⟩
def TLM_FRZ_STAT.REFUSED : Fld := ⟨TLM_FRZ_STAT, 27, 27⟩
/-- TLM_FRZ_AT_LO: spec/16_telemetry_and_ageing.md, instance reset. -/
def TLM_FRZ_AT_LO : Nat := 0x1500008
def TLM_FRZ_AT_LO.AT : Fld := ⟨TLM_FRZ_AT_LO, 31, 0⟩
/-- TLM_FRZ_AT_HI: spec/16_telemetry_and_ageing.md, instance reset. -/
def TLM_FRZ_AT_HI : Nat := 0x150000c
def TLM_FRZ_AT_HI.AT : Fld := ⟨TLM_FRZ_AT_HI, 31, 0⟩
/-- TLM_FRZ_NUM: spec/16_telemetry_and_ageing.md, instance reset. -/
def TLM_FRZ_NUM : Nat := 0x1500010
def TLM_FRZ_NUM.NUM : Fld := ⟨TLM_FRZ_NUM, 31, 0⟩
/-- TLM_FRZ_TS_LO: spec/16_telemetry_and_ageing.md, instance reset. -/
def TLM_FRZ_TS_LO : Nat := 0x1500014
def TLM_FRZ_TS_LO.TS : Fld := ⟨TLM_FRZ_TS_LO, 31, 0⟩
/-- TLM_FRZ_TS_HI: spec/16_telemetry_and_ageing.md, instance reset. -/
def TLM_FRZ_TS_HI : Nat := 0x1500018
def TLM_FRZ_TS_HI.TS : Fld := ⟨TLM_FRZ_TS_HI, 31, 0⟩
/-- TLM_RING_LO: spec/16_telemetry_and_ageing.md, instance reset. -/
def TLM_RING_LO : Nat := 0x1500020
def TLM_RING_LO.ADDR : Fld := ⟨TLM_RING_LO, 31, 0⟩
/-- TLM_RING_HI: spec/16_telemetry_and_ageing.md, instance reset. -/
def TLM_RING_HI : Nat := 0x1500024
def TLM_RING_HI.ADDR : Fld := ⟨TLM_RING_HI, 31, 0⟩
/-- TLM_RING_CFG: spec/16_telemetry_and_ageing.md, instance reset. -/
def TLM_RING_CFG : Nat := 0x1500028
def TLM_RING_CFG.EN : Fld := ⟨TLM_RING_CFG, 31, 31⟩
def TLM_RING_CFG.SZ : Fld := ⟨TLM_RING_CFG, 4, 0⟩
/-- TLM_RING_SEL: spec/16_telemetry_and_ageing.md, instance reset. -/
def TLM_RING_SEL : Nat := 0x150002c
def TLM_RING_SEL.LAST : Fld := ⟨TLM_RING_SEL, 23, 16⟩
def TLM_RING_SEL.FIRST : Fld := ⟨TLM_RING_SEL, 7, 0⟩
/-- TLM_RING_WPTR: spec/16_telemetry_and_ageing.md, instance reset. -/
def TLM_RING_WPTR : Nat := 0x1500030
def TLM_RING_WPTR.WPTR : Fld := ⟨TLM_RING_WPTR, 15, 0⟩
/-- TLM_RING_RPTR: spec/16_telemetry_and_ageing.md, instance reset. -/
def TLM_RING_RPTR : Nat := 0x1500034
def TLM_RING_RPTR.RPTR : Fld := ⟨TLM_RING_RPTR, 15, 0⟩
/-- TLM_RING_STAT: spec/16_telemetry_and_ageing.md, instance reset. -/
def TLM_RING_STAT : Nat := 0x1500038
def TLM_RING_STAT.DROPPED : Fld := ⟨TLM_RING_STAT, 31, 16⟩
/-- TLM_TRX_LO: spec/16_telemetry_and_ageing.md, instance reset. -/
def TLM_TRX_LO : Nat := 0x1500040
def TLM_TRX_LO.ADDR : Fld := ⟨TLM_TRX_LO, 31, 0⟩
/-- TLM_TRX_HI: spec/16_telemetry_and_ageing.md, instance reset. -/
def TLM_TRX_HI : Nat := 0x1500044
def TLM_TRX_HI.ADDR : Fld := ⟨TLM_TRX_HI, 31, 0⟩
/-- TLM_TRX_CTRL: spec/16_telemetry_and_ageing.md, instance reset. -/
def TLM_TRX_CTRL : Nat := 0x1500048
def TLM_TRX_CTRL.RES : Fld := ⟨TLM_TRX_CTRL, 31, 16⟩
def TLM_TRX_CTRL.CHMASK : Fld := ⟨TLM_TRX_CTRL, 15, 8⟩
def TLM_TRX_CTRL.BUSY : Fld := ⟨TLM_TRX_CTRL, 2, 2⟩
def TLM_TRX_CTRL.AUTO : Fld := ⟨TLM_TRX_CTRL, 1, 1⟩
def TLM_TRX_CTRL.GO : Fld := ⟨TLM_TRX_CTRL, 0, 0⟩
/-- TLM_EVT: spec/16_telemetry_and_ageing.md, instance reset. -/
def TLM_EVT : Nat := 0x150004c
def TLM_EVT.LOSS : Fld := ⟨TLM_EVT, 4, 4⟩
def TLM_EVT.TRX : Fld := ⟨TLM_EVT, 3, 3⟩
def TLM_EVT.DROP : Fld := ⟨TLM_EVT, 2, 2⟩
def TLM_EVT.RING : Fld := ⟨TLM_EVT, 1, 1⟩
def TLM_EVT.FRZ : Fld := ⟨TLM_EVT, 0, 0⟩
/-- TLM_SHADOW: spec/16_telemetry_and_ageing.md, instance reset. -/
def TLM_SHADOW (i : Nat) : Nat := 0x1510000 + 0x4 * i
def TLM_SHADOW.V (i : Nat) : Fld := ⟨TLM_SHADOW i, 31, 0⟩
/-- AGE_CTRL: spec/16_telemetry_and_ageing.md, instance reset. -/
def AGE_CTRL : Nat := 0x1600000
def AGE_CTRL.EVT : Fld := ⟨AGE_CTRL, 31, 31⟩
def AGE_CTRL.ALARM : Fld := ⟨AGE_CTRL, 15, 0⟩
/-- AGE_LIM: spec/16_telemetry_and_ageing.md, instance reset. -/
def AGE_LIM : Nat := 0x1600004
def AGE_LIM.RHO : Fld := ⟨AGE_LIM, 31, 20⟩
def AGE_LIM.LEAK : Fld := ⟨AGE_LIM, 19, 10⟩
def AGE_LIM.SDRIFT : Fld := ⟨AGE_LIM, 9, 0⟩
/-- AGE_CELL0: spec/16_telemetry_and_ageing.md, instance reset. -/
def AGE_CELL0 (c : Nat) : Nat := 0x1601000 + 0x10 * c
def AGE_CELL0.NSAMP (c : Nat) : Fld := ⟨AGE_CELL0 c, 31, 16⟩
def AGE_CELL0.RHO (c : Nat) : Fld := ⟨AGE_CELL0 c, 15, 0⟩
/-- AGE_CELL1: spec/16_telemetry_and_ageing.md, instance reset. -/
def AGE_CELL1 (c : Nat) : Nat := 0x1601004 + 0x10 * c
def AGE_CELL1.J (c : Nat) : Fld := ⟨AGE_CELL1 c, 17, 16⟩
def AGE_CELL1.SDRIFT (c : Nat) : Fld := ⟨AGE_CELL1 c, 15, 0⟩
/-- AGE_CELL2: spec/16_telemetry_and_ageing.md, instance reset. -/
def AGE_CELL2 (c : Nat) : Nat := 0x1601008 + 0x10 * c
def AGE_CELL2.RFSL (c : Nat) : Fld := ⟨AGE_CELL2 c, 31, 16⟩
def AGE_CELL2.LEAK (c : Nat) : Fld := ⟨AGE_CELL2 c, 15, 0⟩
/-- AGE_CELL3: spec/16_telemetry_and_ageing.md, instance reset. -/
def AGE_CELL3 (c : Nat) : Nat := 0x160100c + 0x10 * c
def AGE_CELL3.CAUSE (c : Nat) : Fld := ⟨AGE_CELL3 c, 17, 16⟩
def AGE_CELL3.DAYS (c : Nat) : Fld := ⟨AGE_CELL3 c, 15, 0⟩
/-- AGE_RGN0: spec/16_telemetry_and_ageing.md, instance reset. -/
def AGE_RGN0 (n : Nat) : Nat := 0x1610000 + 0x10 * n
def AGE_RGN0.CPM_EN (n : Nat) : Fld := ⟨AGE_RGN0 n, 31, 31⟩
def AGE_RGN0.BASE (n : Nat) : Fld := ⟨AGE_RGN0 n, 24, 16⟩
def AGE_RGN0.DLIM (n : Nat) : Fld := ⟨AGE_RGN0 n, 8, 0⟩
/-- AGE_RGN1: spec/16_telemetry_and_ageing.md, instance reset. -/
def AGE_RGN1 (n : Nat) : Nat := 0x1610004 + 0x10 * n
def AGE_RGN1.RUN (n : Nat) : Fld := ⟨AGE_RGN1 n, 31, 31⟩
def AGE_RGN1.CPM (n : Nat) : Fld := ⟨AGE_RGN1 n, 15, 0⟩
/-- AGE_HRAVG: spec/16_telemetry_and_ageing.md, instance reset. -/
def AGE_HRAVG (n : Nat) : Nat := 0x1610008 + 0x10 * n
def AGE_HRAVG.HRAVG (n : Nat) : Fld := ⟨AGE_HRAVG n, 31, 0⟩
/-- AGE_RGN3: spec/16_telemetry_and_ageing.md, instance reset. -/
def AGE_RGN3 (n : Nat) : Nat := 0x161000c + 0x10 * n
def AGE_RGN3.DAYS (n : Nat) : Fld := ⟨AGE_RGN3 n, 15, 0⟩
/-- HOLD_CTRL: spec/21_reset_and_holdup.md, power-on reset. -/
def HOLD_CTRL : Nat := 0x1700000
def HOLD_CTRL.EN : Fld := ⟨HOLD_CTRL, 31, 31⟩
def HOLD_CTRL.FS_TO : Fld := ⟨HOLD_CTRL, 15, 0⟩
/-- HOLD_SAGCFG: spec/21_reset_and_holdup.md, power-on reset. -/
def HOLD_SAGCFG : Nat := 0x1700004
def HOLD_SAGCFG.FILT : Fld := ⟨HOLD_SAGCFG, 31, 24⟩
def HOLD_SAGCFG.HYST : Fld := ⟨HOLD_SAGCFG, 23, 16⟩
def HOLD_SAGCFG.TH : Fld := ⟨HOLD_SAGCFG, 11, 0⟩
/-- HOLD_FRAME: spec/21_reset_and_holdup.md, power-on reset. -/
def HOLD_FRAME : Nat := 0x1700008
def HOLD_FRAME.ARMED : Fld := ⟨HOLD_FRAME, 31, 31⟩
def HOLD_FRAME.FRAME : Fld := ⟨HOLD_FRAME, 3, 0⟩
/-- HOLD_STAT: spec/21_reset_and_holdup.md, power-on reset. -/
def HOLD_STAT : Nat := 0x170000c
def HOLD_STAT.DONE : Fld := ⟨HOLD_STAT, 31, 28⟩
def HOLD_STAT.PARTIAL : Fld := ⟨HOLD_STAT, 27, 27⟩
def HOLD_STAT.NOFRAME : Fld := ⟨HOLD_STAT, 26, 26⟩
def HOLD_STAT.TIMEOUT : Fld := ⟨HOLD_STAT, 25, 25⟩
def HOLD_STAT.SAGS : Fld := ⟨HOLD_STAT, 23, 16⟩
def HOLD_STAT.STATE : Fld := ⟨HOLD_STAT, 2, 0⟩
/-- HOLD_SAG_TS_LO: spec/21_reset_and_holdup.md, power-on reset. -/
def HOLD_SAG_TS_LO : Nat := 0x1700010
def HOLD_SAG_TS_LO.TS : Fld := ⟨HOLD_SAG_TS_LO, 31, 0⟩
/-- HOLD_SAG_TS_HI: spec/21_reset_and_holdup.md, power-on reset. -/
def HOLD_SAG_TS_HI : Nat := 0x1700014
def HOLD_SAG_TS_HI.TS : Fld := ⟨HOLD_SAG_TS_HI, 31, 0⟩
/-- HOLD_RCAUSE: spec/21_reset_and_holdup.md, power-on reset. -/
def HOLD_RCAUSE : Nat := 0x1700018
def HOLD_RCAUSE.WDOG : Fld := ⟨HOLD_RCAUSE, 5, 5⟩
def HOLD_RCAUSE.SW_FW : Fld := ⟨HOLD_RCAUSE, 4, 4⟩
def HOLD_RCAUSE.SW_INST : Fld := ⟨HOLD_RCAUSE, 3, 3⟩
def HOLD_RCAUSE.CTRL_PG : Fld := ⟨HOLD_RCAUSE, 2, 2⟩
def HOLD_RCAUSE.PIN : Fld := ⟨HOLD_RCAUSE, 1, 1⟩
def HOLD_RCAUSE.POR : Fld := ⟨HOLD_RCAUSE, 0, 0⟩
/-- HOLD_RST: spec/21_reset_and_holdup.md, instance reset. -/
def HOLD_RST : Nat := 0x170001c
def HOLD_RST.KEY : Fld := ⟨HOLD_RST, 31, 0⟩
/-- HOLD_FWTAG: spec/21_reset_and_holdup.md, instance reset. -/
def HOLD_FWTAG : Nat := 0x1700020
def HOLD_FWTAG.FWTAG : Fld := ⟨HOLD_FWTAG, 31, 0⟩
/-- TRC_BUF: spec/06_loop_engine.md, instance reset. -/
def TRC_BUF (i : Nat) : Nat := 0x1800000 + 0x4 * i
def TRC_BUF.V (i : Nat) : Fld := ⟨TRC_BUF i, 31, 0⟩
/-- TRC_CTRL: spec/06_loop_engine.md, instance reset. -/
def TRC_CTRL : Nat := 0x1a00000
def TRC_CTRL.STOP : Fld := ⟨TRC_CTRL, 2, 2⟩
def TRC_CTRL.SWTRIG : Fld := ⟨TRC_CTRL, 1, 1⟩
def TRC_CTRL.ARM : Fld := ⟨TRC_CTRL, 0, 0⟩
/-- TRC_STAT: spec/06_loop_engine.md, instance reset. -/
def TRC_STAT : Nat := 0x1a00004
def TRC_STAT.CAUSE : Fld := ⟨TRC_STAT, 6, 4⟩
def TRC_STAT.STATE : Fld := ⟨TRC_STAT, 1, 0⟩
/-- TRC_TRIG: spec/06_loop_engine.md, instance reset. -/
def TRC_TRIG : Nat := 0x1a00008
def TRC_TRIG.SRC : Fld := ⟨TRC_TRIG, 18, 16⟩
def TRC_TRIG.MODE : Fld := ⟨TRC_TRIG, 13, 12⟩
def TRC_TRIG.IDX : Fld := ⟨TRC_TRIG, 9, 0⟩
/-- TRC_THR: spec/06_loop_engine.md, instance reset. -/
def TRC_THR : Nat := 0x1a0000c
def TRC_THR.THR : Fld := ⟨TRC_THR, 31, 0⟩
/-- TRC_POST: spec/06_loop_engine.md, instance reset. -/
def TRC_POST : Nat := 0x1a00010
def TRC_POST.POST : Fld := ⟨TRC_POST, 11, 0⟩
/-- TRC_TTS_LO: spec/06_loop_engine.md, instance reset. -/
def TRC_TTS_LO : Nat := 0x1a00018
def TRC_TTS_LO.TTS : Fld := ⟨TRC_TTS_LO, 31, 0⟩
/-- TRC_TTS_HI: spec/06_loop_engine.md, instance reset. -/
def TRC_TTS_HI : Nat := 0x1a0001c
def TRC_TTS_HI.TTS : Fld := ⟨TRC_TTS_HI, 31, 0⟩
/-- TRC_TRIG_TS_LO: spec/06_loop_engine.md, instance reset. -/
def TRC_TRIG_TS_LO : Nat := 0x1a00020
def TRC_TRIG_TS_LO.TS : Fld := ⟨TRC_TRIG_TS_LO, 31, 0⟩
/-- TRC_TRIG_TS_HI: spec/06_loop_engine.md, instance reset. -/
def TRC_TRIG_TS_HI : Nat := 0x1a00024
def TRC_TRIG_TS_HI.TS : Fld := ⟨TRC_TRIG_TS_HI, 31, 0⟩
/-- TRC_CH_CFG: spec/06_loop_engine.md, instance reset. -/
def TRC_CH_CFG (ch : Nat) : Nat := 0x1a00100 + 0x10 * ch
def TRC_CH_CFG.EN (ch : Nat) : Fld := ⟨TRC_CH_CFG ch, 31, 31⟩
def TRC_CH_CFG.SIG (ch : Nat) : Fld := ⟨TRC_CH_CFG ch, 30, 28⟩
def TRC_CH_CFG.DEC (ch : Nat) : Fld := ⟨TRC_CH_CFG ch, 27, 24⟩
def TRC_CH_CFG.SEC (ch : Nat) : Fld := ⟨TRC_CH_CFG ch, 23, 20⟩
def TRC_CH_CFG.PH (ch : Nat) : Fld := ⟨TRC_CH_CFG ch, 19, 15⟩
def TRC_CH_CFG.IDX (ch : Nat) : Fld := ⟨TRC_CH_CFG ch, 9, 0⟩
/-- TRC_CH_WPTR: spec/06_loop_engine.md, instance reset. -/
def TRC_CH_WPTR (ch : Nat) : Nat := 0x1a00104 + 0x10 * ch
def TRC_CH_WPTR.WRAP (ch : Nat) : Fld := ⟨TRC_CH_WPTR ch, 31, 31⟩
def TRC_CH_WPTR.PTR (ch : Nat) : Fld := ⟨TRC_CH_WPTR ch, 11, 0⟩
/-- TRC_CH_TPTR: spec/06_loop_engine.md, instance reset. -/
def TRC_CH_TPTR (ch : Nat) : Nat := 0x1a00108 + 0x10 * ch
def TRC_CH_TPTR.PTR (ch : Nat) : Fld := ⟨TRC_CH_TPTR ch, 11, 0⟩
/-- DBG_CTRL: spec/17_firmware.md, instance reset. -/
def DBG_CTRL (i : Nat) : Nat := 0x1c00000 + 0x40000 * i
def DBG_CTRL.STEP (i : Nat) : Fld := ⟨DBG_CTRL i, 2, 2⟩
def DBG_CTRL.RESUME (i : Nat) : Fld := ⟨DBG_CTRL i, 1, 1⟩
def DBG_CTRL.HALT (i : Nat) : Fld := ⟨DBG_CTRL i, 0, 0⟩
/-- DBG_STAT: spec/17_firmware.md, instance reset. -/
def DBG_STAT (i : Nat) : Nat := 0x1c00004 + 0x40000 * i
def DBG_STAT.HALTED (i : Nat) : Fld := ⟨DBG_STAT i, 0, 0⟩
/-- DBG_PC: spec/17_firmware.md, instance reset. -/
def DBG_PC (i : Nat) : Nat := 0x1c00008 + 0x40000 * i
def DBG_PC.PC (i : Nat) : Fld := ⟨DBG_PC i, 31, 0⟩
/-- DBG_APBASE: spec/17_firmware.md, instance reset. -/
def DBG_APBASE (i : Nat) : Nat := 0x1c0000c + 0x40000 * i
def DBG_APBASE.APBASE (i : Nat) : Fld := ⟨DBG_APBASE i, 31, 17⟩

/-- Register tables of block VL, part 1. -/
def tableVL1 : List RegDef :=
  [ ⟨0x0, 4, 0, 1, 4, 0, 1, 0x56010000, true,
     [fdef 31 24 .ro, fdef 23 16 .ro, fdef 15 8 .ro, fdef 7 4 .ro, fdef 1 0 .ro]⟩,
    ⟨0x4, 4, 0, 1, 4, 0, 1, 0x0, false,
     [fdef 2 2 .rw, (fdef 1 1 .rw).by 2, (fdef 0 0 .rw).by 2]⟩,
    ⟨0x8, 4, 0, 1, 4, 0, 1, 0x0, false,
     [fdef 15 8 .rc, fdef 5 5 .w1c, fdef 4 4 .w1c, fdef 3 3 .ro, fdef 2 2 .ro, fdef 1 1 .ro, fdef 0 0 .ro]⟩,
    ⟨0xc, 4, 0, 1, 4, 0, 1, 0x0, false,
     [fdef 31 28 .ro, fdef 24 0 .ro]⟩,
    ⟨0x100, 4, 0, 1, 4, 0, 1, 0x0, false,
     [fdef 31 31 .ro, fdef 30 30 .ro, fdef 29 29 .ro, fdef 28 28 .ro, fdef 24 24 .ro, fdef 23 16 .ro, fdef 15 8 .ro, fdef 2 0 .ro]⟩,
    ⟨0x104, 4, 0, 1, 4, 0, 1, 0x0, false,
     [fdef 31 0 .ro]⟩,
    ⟨0x108, 4, 0, 1, 4, 0, 1, 0xa, false,
     [fdef 31 31 .ro, fdef 30 30 .ro, fdef 22 16 .ro, fdef 3 0 .ro]⟩,
    ⟨0x10c, 4, 0, 1, 4, 0, 1, 0x0, false,
     [(fdef 31 0 .rw).by 8]⟩,
    ⟨0x110, 4, 0, 1, 4, 0, 1, 0x64, false,
     [fdef 31 24 .ro, frange 15 0 1 65535]⟩,
    ⟨0x114, 4, 0, 1, 4, 0, 1, 0x0, false,
     [fdef 31 0 .wo]⟩,
    ⟨0x140, 4, 0, 11, 4, 0, 1, 0x80000064, false,
     [(fdef 31 31 .rw).by 2, fdef 30 30 .w1c, frange 15 0 1 65535]⟩,
    ⟨0x180, 4, 0, 11, 4, 0, 1, 0x0, false,
     [fdef 31 0 .wo]⟩ ]
/-- Register tables of block VL, part 2. -/
def tableVL2 : List RegDef :=
  [ ⟨0x1c0, 4, 0, 11, 4, 0, 1, 0x0, false,
     [fdef 31 24 .rc, fdef 1 0 .ro]⟩ ]
/-- Register tables of block VL (R35). -/
def tableVL : List RegDef := tableVL1 ++ tableVL2
/-- Register tables of block PST, part 1. -/
def tablePST1 : List RegDef :=
  [ ⟨0x10000, 4, 0, 1, 4, 0, 1, 0x0, false,
     [fdef 0 0 .rw]⟩,
    ⟨0x10004, 4, 0, 1, 4, 0, 1, 0x0, false,
     [fdef 15 8 .ro, fdef 2 2 .w1c, fdef 1 1 .w1c, fdef 0 0 .w1c]⟩,
    ⟨0x10008, 4, 0, 1, 4, 0, 1, 0x0, false,
     [fdef 15 0 .wo]⟩,
    ⟨0x10010, 4, 0, 1, 4, 0, 1, 0x0, false,
     [fdef 31 0 .rw]⟩,
    ⟨0x10014, 4, 0, 1, 4, 0, 1, 0x0, false,
     [fdef 31 0 .rw]⟩,
    ⟨0x10018, 4, 0, 1, 4, 0, 1, 0x0, false,
     [fdef 31 0 .rw]⟩,
    ⟨0x10020, 4, 0, 1, 4, 0, 1, 0x0, false,
     [fdef 9 0 .ro]⟩,
    ⟨0x10030, 4, 0, 1, 4, 0, 1, 0x80604020, false,
     [(fdef 31 24 .rw).by 2, (fdef 23 16 .rw).by 2, (fdef 15 8 .rw).by 2, (fdef 7 0 .rw).by 2]⟩,
    ⟨0x10034, 4, 0, 1, 4, 0, 1, 0xe0c0a0, false,
     [(fdef 23 16 .rw).by 2, (fdef 15 8 .rw).by 2, (fdef 7 0 .rw).by 2]⟩,
    ⟨0x10100, 4, 0, 11, 4, 0, 1, 0x80000, false,
     [fdef 31 31 .ro, fdef 19 16 .ro, fdef 9 0 .ro]⟩,
    ⟨0x10200, 8, 1, 16, 4, 0, 1, 0x1000001, false,
     [frange 31 24 1 255, frange 15 0 1 65535]⟩,
    ⟨0x10204, 8, 1, 16, 4, 0, 1, 0x0, false,
     [fdef 31 31 .ro, fdef 23 16 .ro]⟩ ]
/-- Register tables of block PST, part 2. -/
def tablePST2 : List RegDef :=
  [ ⟨0x10400, 4, 0, 32, 4, 0, 1, 0x0, true,
     [fdef 31 31 .rw, fdef 30 30 .rw, frange 29 28 0 2, fdef 27 27 .ro, fdef 26 26 .w1c, fdef 9 0 .rw]⟩,
    ⟨0x12000, 8, 1, 1024, 4, 0, 1, 0x800000, false,
     [fdef 31 31 .rw, (fdef 30 30 .rw).by 2, fdef 27 24 .rw, fdef 23 16 .rw, fdef 11 0 .rw]⟩,
    ⟨0x12004, 8, 1, 1024, 4, 0, 1, 0x0, false,
     [fdef 31 31 .w1c, fdef 30 30 .ro, fdef 29 29 .ro, fdef 28 28 .ro, fdef 27 24 .ro, fdef 15 0 .rc]⟩ ]
/-- Register tables of block PST (R35). -/
def tablePST : List RegDef := tablePST1 ++ tablePST2
/-- Register tables of block MCH, part 1. -/
def tableMCH1 : List RegDef :=
  [ ⟨0x20000, 4, 0, 1, 4, 0, 1, 0x64, false,
     [frange 15 0 1 65535]⟩,
    ⟨0x20004, 4, 0, 1, 4, 0, 1, 0x0, false,
     [fdef 4 4 .w1c, fdef 3 3 .w1c, fdef 2 2 .w1c, fdef 1 1 .w1c, fdef 0 0 .w1c]⟩,
    ⟨0x20008, 4, 0, 1, 4, 0, 1, 0x0, false,
     [fdef 31 16 .rc, fdef 15 0 .rc]⟩,
    ⟨0x20010, 4, 0, 1, 4, 0, 1, 0x3f800, false,
     [fdef 31 31 .rw, fdef 17 0 .rw]⟩,
    ⟨0x20020, 4, 0, 1, 4, 0, 1, 0x80000000, true,
     [fdef 31 31 .rw, fdef 6 0 .ro]⟩,
    ⟨0x20100, 8, 0, 12, 4, 0, 1, 0x0, false,
     [fdef 31 0 .w1c]⟩,
    ⟨0x20104, 8, 0, 12, 4, 0, 1, 0x0, false,
     [fdef 31 0 .rw]⟩,
    ⟨0x21000, 128, 0, 32, 4, 0, 16, 0x0, false,
     [fdef 31 0 .rw]⟩,
    ⟨0x21040, 128, 0, 32, 4, 0, 1, 0x80000002, false,
     [fdef 31 31 .rw, fdef 30 30 .ro, frange 3 0 0 11]⟩,
    ⟨0x21044, 128, 0, 32, 4, 0, 1, 0x0, false,
     [fdef 0 0 .ro]⟩,
    ⟨0x21048, 128, 0, 32, 4, 0, 1, 0x0, false,
     [fdef 25 16 .wo, fdef 2 2 .wo, fdef 1 1 .wo, fdef 0 0 .wo]⟩,
    ⟨0x2104c, 128, 0, 32, 4, 0, 1, 0x0, false,
     [fdef 31 22 .ro, fdef 19 16 .ro, fdef 15 12 .ro, fdef 1 0 .ro]⟩ ]
/-- Register tables of block MCH, part 2. -/
def tableMCH2 : List RegDef :=
  [ ⟨0x21050, 128, 0, 32, 4, 0, 1, 0x0, false,
     [fdef 31 0 .ro]⟩,
    ⟨0x21054, 128, 0, 32, 4, 0, 1, 0x0, false,
     [fdef 16 0 .ro]⟩ ]
/-- Register tables of block MCH (R35). -/
def tableMCH : List RegDef := tableMCH1 ++ tableMCH2
/-- Register tables of block CBSE, part 1. -/
def tableCBSE1 : List RegDef :=
  [ ⟨0x30000, 4, 0, 1, 4, 0, 1, 0x1, false,
     [fdef 0 0 .rw]⟩,
    ⟨0x30004, 4, 0, 1, 4, 0, 1, 0x0, false,
     [fdef 31 31 .ro, fdef 21 16 .ro, fdef 8 8 .w1c]⟩,
    ⟨0x30008, 4, 0, 1, 4, 0, 1, 0x0, false,
     [fdef 31 0 .w1c]⟩,
    ⟨0x3000c, 4, 0, 1, 4, 0, 1, 0x0, false,
     [fdef 10 0 .w1c]⟩,
    ⟨0x30010, 4, 0, 1, 4, 0, 1, 0x0, false,
     [fdef 31 0 .ro]⟩,
    ⟨0x30014, 4, 0, 1, 4, 0, 1, 0x0, false,
     [fdef 31 0 .ro]⟩,
    ⟨0x30018, 4, 0, 1, 4, 0, 1, 0x0, false,
     [fdef 31 0 .rw]⟩,
    ⟨0x3001c, 4, 0, 1, 4, 0, 1, 0x0, false,
     [fdef 10 0 .rw]⟩,
    ⟨0x30020, 4, 0, 1, 4, 0, 1, 0x0, true,
     [fdef 31 31 .ro, fdef 30 30 .ro, fdef 29 29 .ro, fdef 28 28 .ro, fdef 25 24 .ro, fdef 23 16 .ro, fdef 5 0 .ro]⟩,
    ⟨0x30024, 4, 0, 1, 4, 0, 1, 0x0, true,
     [fdef 31 0 .ro]⟩,
    ⟨0x30028, 4, 0, 1, 4, 0, 1, 0x0, true,
     [fdef 31 0 .ro]⟩,
    ⟨0x30030, 4, 0, 1, 4, 0, 1, 0x0, false,
     [fdef 31 31 .w1c, fdef 26 24 .ro]⟩ ]
/-- Register tables of block CBSE, part 2. -/
def tableCBSE2 : List RegDef :=
  [ ⟨0x30034, 4, 0, 1, 4, 0, 1, 0x0, false,
     [fdef 31 0 .ro]⟩,
    ⟨0x30038, 4, 0, 1, 4, 0, 1, 0x0, false,
     [fdef 31 0 .ro]⟩,
    ⟨0x3003c, 4, 0, 1, 4, 0, 1, 0x80000100, false,
     [(fdef 31 31 .rw).by 2, frange 15 0 16 65535]⟩,
    ⟨0x30100, 4, 0, 64, 4, 0, 1, 0x0, false,
     [fdef 15 0 .rc]⟩,
    ⟨0x30200, 16, 0, 18, 4, 0, 1, 0x0, false,
     [fdef 31 16 .rc, fdef 15 0 .rc]⟩,
    ⟨0x30204, 16, 0, 18, 4, 0, 1, 0x0, false,
     [fdef 31 0 .ro]⟩,
    ⟨0x30208, 16, 0, 18, 4, 0, 1, 0x0, false,
     [fdef 31 0 .ro]⟩,
    ⟨0x3020c, 16, 0, 18, 4, 0, 1, 0x0, false,
     [fdef 31 0 .ro]⟩ ]
/-- Register tables of block CBSE (R35). -/
def tableCBSE : List RegDef := tableCBSE1 ++ tableCBSE2
/-- Register tables of block TIM, part 1. -/
def tableTIM1 : List RegDef :=
  [ ⟨0x40000, 4, 0, 1, 4, 0, 1, 0x0, true,
     [fdef 0 0 .rw]⟩,
    ⟨0x40004, 4, 0, 1, 4, 0, 1, 0x70, true,
     [fdef 11 11 .w1c, fdef 10 10 .w1c, fdef 9 9 .ro, fdef 8 8 .ro, fdef 7 7 .ro, fdef 6 6 .ro, fdef 5 5 .ro, fdef 4 3 .ro, fdef 2 2 .ro, fdef 1 1 .w1c, fdef 0 0 .ro]⟩,
    ⟨0x40010, 4, 0, 1, 4, 0, 1, 0x0, true,
     [fdef 31 0 .ro]⟩,
    ⟨0x40014, 4, 0, 1, 4, 0, 1, 0x0, true,
     [fdef 31 0 .ro]⟩,
    ⟨0x40018, 4, 0, 1, 4, 0, 1, 0x0, true,
     [fdef 31 31 .ro, fdef 16 16 .rw, fdef 15 0 .rw]⟩,
    ⟨0x40020, 4, 0, 1, 4, 0, 1, 0x0, true,
     [fdef 15 0 .rc]⟩ ]
/-- Register tables of block TIM (R35). -/
def tableTIM : List RegDef := tableTIM1
/-- Register tables of block XPH, part 1. -/
def tableXPH1 : List RegDef :=
  [ ⟨0x80000, 4, 0, 1, 4, 0, 1, 0x0, false,
     [fdef 31 16 .ro, fdef 15 15 .ro, fdef 3 0 .wo]⟩,
    ⟨0x80004, 4, 0, 1, 4, 0, 1, 0x0, false,
     [fdef 31 28 .ro, fdef 26 26 .ro, fdef 25 25 .ro, fdef 21 16 .ro, fdef 13 8 .ro, fdef 2 0 .ro]⟩,
    ⟨0x80008, 4, 0, 1, 4, 0, 1, 0x20f001c, false,
     [frange 29 24 2 32, fdef 19 16 .rw, fdef 4 4 .rw, fdef 3 3 .rw, fdef 2 2 .rw, fdef 0 0 .rw]⟩,
    ⟨0x8000c, 4, 0, 1, 4, 0, 1, 0x40640, false,
     [frange 23 16 1 255, fvim 11 0]⟩,
    ⟨0x80010, 4, 0, 1, 4, 0, 1, 0x0, false,
     [fdef 27 16 .ro, fdef 11 0 .ro]⟩,
    ⟨0x80014, 4, 0, 1, 4, 0, 1, 0x3e8, false,
     [frange 10 0 600 1500]⟩,
    ⟨0x80018, 4, 0, 1, 4, 0, 1, 0x215, false,
     [fdef 15 0 .rw]⟩,
    ⟨0x8001c, 4, 0, 1, 4, 0, 1, 0xc802040, false,
     [fdef 31 16 .rw, fdef 15 8 .rw, fdef 7 0 .rw]⟩,
    ⟨0x80020, 4, 0, 1, 4, 0, 1, 0x5c0040, false,
     [fdef 23 20 .rw, fdef 19 16 .rw, fdef 9 0 .rw]⟩,
    ⟨0x80024, 4, 0, 1, 4, 0, 1, 0x8200140, false,
     [fdef 27 16 .rw, fdef 11 0 .rw]⟩,
    ⟨0x80028, 4, 0, 1, 4, 0, 1, 0x7d64501e, false,
     [fdef 31 24 .rw, fdef 23 16 .rw, fdef 15 8 .rw, fdef 7 0 .rw]⟩,
    ⟨0x8002c, 4, 0, 1, 4, 0, 1, 0x1e32000a, false,
     [fdef 31 24 .rw, frange 23 14 1 1023, frange 7 0 1 255]⟩ ]
/-- Register tables of block XPH, part 2. -/
def tableXPH2 : List RegDef :=
  [ ⟨0x80030, 4, 0, 1, 4, 0, 1, 0x28143246, false,
     [fdef 31 24 .rw, fdef 23 16 .rw, frange 15 8 1 255, frange 7 0 1 255]⟩,
    ⟨0x80034, 4, 0, 1, 4, 0, 1, 0x0, false,
     [fdef 21 16 .ro, frange 5 0 0 32]⟩,
    ⟨0x80038, 4, 0, 1, 4, 0, 1, 0x0, false,
     [fdef 31 31 .w1c, fdef 27 16 .ro, fdef 15 15 .w1c, fdef 11 0 .ro]⟩,
    ⟨0x8003c, 4, 0, 1, 4, 0, 1, 0x0, false,
     [fdef 31 31 .w1c, fdef 27 16 .ro, fdef 15 15 .w1c, fdef 11 0 .ro]⟩,
    ⟨0x80040, 4, 0, 1, 4, 0, 1, 0x0, false,
     [fdef 31 16 .ro, fdef 15 0 .ro]⟩,
    ⟨0x80044, 4, 0, 1, 4, 0, 1, 0x0, false,
     [fdef 31 16 .rc, fdef 15 0 .ro]⟩,
    ⟨0x80048, 4, 0, 1, 4, 0, 1, 0x0, false,
     [fdef 7 7 .w1c, fdef 6 6 .w1c, fdef 5 5 .w1c, fdef 4 4 .w1c, fdef 3 3 .w1c, fdef 2 2 .w1c, fdef 1 1 .w1c, fdef 0 0 .w1c]⟩,
    ⟨0x81000, 32, 0, 32, 4, 0, 1, 0x80000000, false,
     [fdef 31 31 .rw, fdef 21 16 .rw, fdef 7 0 .rw]⟩,
    ⟨0x81004, 32, 0, 32, 4, 0, 1, 0x1, false,
     [fdef 19 16 .ro, fdef 8 8 .w1c, fdef 2 0 .ro]⟩,
    ⟨0x81008, 32, 0, 32, 4, 0, 1, 0x0, false,
     [fdef 0 0 .wo]⟩,
    ⟨0x8100c, 32, 0, 32, 4, 0, 1, 0x0, false,
     [fdef 31 24 .ro, fdef 15 0 .ro]⟩ ]
/-- Register tables of block XPH (R35). -/
def tableXPH : List RegDef := tableXPH1 ++ tableXPH2
/-- Register tables of block RGN, part 1. -/
def tableRGN1 : List RegDef :=
  [ ⟨0x100000, 4, 0, 1, 4, 0, 1, 0x0, false,
     [fdef 1 1 .wo, fdef 0 0 .w1s]⟩,
    ⟨0x100000, 256, 1, 256, 4, 0, 1, 0x0, false,
     [fdef 31 16 .ro, fdef 15 15 .ro, fdef 3 0 .wo]⟩,
    ⟨0x100004, 4, 0, 1, 4, 0, 1, 0x70000, false,
     [fdef 31 16 .ro, fdef 15 15 .ro, fdef 14 14 .w1c, fdef 11 8 .ro, fdef 7 0 .ro]⟩,
    ⟨0x100004, 256, 1, 256, 4, 0, 1, 0x400000, false,
     [fdef 22 16 .ro, fdef 5 5 .ro, fdef 4 4 .ro, fdef 2 0 .ro]⟩,
    ⟨0x100008, 4, 0, 1, 4, 0, 1, 0x0, false,
     [fdef 31 0 .ro]⟩,
    ⟨0x100008, 256, 1, 256, 4, 0, 1, 0x0, false,
     [fdef 27 16 .ro, fdef 11 0 .ro]⟩,
    ⟨0x10000c, 256, 1, 256, 4, 0, 1, 0x0, false,
     [fdef 31 16 .rc, fdef 15 0 .ro]⟩,
    ⟨0x100010, 256, 1, 256, 4, 0, 1, 0x28, false,
     [fclamp 8 0]⟩,
    ⟨0x100014, 256, 1, 256, 4, 0, 1, 0x28, false,
     [fdef 8 0 .ro]⟩,
    ⟨0x100018, 256, 1, 256, 4, 0, 1, 0x0, false,
     [fdef 31 16 .ro, fdef 10 0 .ro]⟩,
    ⟨0x10001c, 256, 1, 256, 4, 0, 1, 0x0, false,
     [fdef 3 0 .ro]⟩,
    ⟨0x100020, 256, 1, 256, 4, 0, 1, 0x1b80028, false,
     [fclamp 24 16, fclamp 8 0]⟩ ]
/-- Register tables of block RGN, part 2. -/
def tableRGN2 : List RegDef :=
  [ ⟨0x100024, 256, 1, 256, 4, 0, 1, 0x28, false,
     [fclamp 8 0]⟩,
    ⟨0x100028, 256, 1, 256, 4, 0, 1, 0x64323200, false,
     [frange 31 24 1 255, frange 23 16 1 255, frange 15 8 1 255]⟩,
    ⟨0x10002c, 256, 1, 256, 4, 0, 1, 0x0, false,
     [frange 15 0 0 32767]⟩,
    ⟨0x100030, 256, 1, 256, 4, 0, 1, 0x55, false,
     [frange 6 0 50 100]⟩,
    ⟨0x100034, 256, 1, 256, 4, 0, 1, 0x0, false,
     [fdef 31 0 .rw]⟩,
    ⟨0x100038, 256, 1, 256, 4, 0, 1, 0x0, false,
     [fdef 31 0 .rw]⟩,
    ⟨0x10003c, 256, 1, 256, 4, 0, 1, 0x0, false,
     [fdef 4 4 .rw, fdef 3 0 .rw]⟩,
    ⟨0x100040, 4, 0, 8, 4, 0, 1, 0x0, false,
     [fdef 31 0 .w1c]⟩,
    ⟨0x100060, 4, 0, 8, 4, 0, 1, 0x0, false,
     [fdef 31 0 .w1c]⟩,
    ⟨0x100060, 256, 1, 256, 4, 0, 1, 0x1b80028, false,
     [fdef 24 16 .ro, fdef 8 0 .ro]⟩,
    ⟨0x100064, 256, 1, 256, 4, 0, 1, 0x28, false,
     [fdef 8 0 .ro]⟩,
    ⟨0x100068, 256, 1, 256, 4, 0, 1, 0x64323200, false,
     [fdef 31 24 .ro, fdef 23 16 .ro, fdef 15 8 .ro]⟩ ]
/-- Register tables of block RGN, part 3. -/
def tableRGN3 : List RegDef :=
  [ ⟨0x10006c, 256, 1, 256, 4, 0, 1, 0x0, false,
     [fdef 15 0 .ro]⟩,
    ⟨0x100070, 256, 1, 256, 4, 0, 1, 0x55, false,
     [fdef 6 0 .ro]⟩,
    ⟨0x100074, 256, 1, 256, 4, 0, 1, 0x0, false,
     [fdef 31 0 .ro]⟩,
    ⟨0x100078, 256, 1, 256, 4, 0, 1, 0x0, false,
     [fdef 31 0 .ro]⟩,
    ⟨0x10007c, 256, 1, 256, 4, 0, 1, 0x0, false,
     [fdef 4 4 .ro, fdef 3 0 .ro]⟩,
    ⟨0x100080, 256, 1, 256, 4, 0, 1, 0x0, false,
     [fdef 31 0 .ro]⟩,
    ⟨0x100080, 4, 0, 8, 4, 0, 1, 0x0, false,
     [fdef 31 0 .w1c]⟩ ]
/-- Register tables of block RGN (R35). -/
def tableRGN : List RegDef := tableRGN1 ++ tableRGN2 ++ tableRGN3
/-- Register tables of block CELL, part 1. -/
def tableCELL1 : List RegDef :=
  [ ⟨0x200000, 64, 0, 3072, 4, 0, 1, 0x0, false,
     [fdef 10 10 .rw, fdef 9 9 .rw, fdef 8 8 .rw, fdef 7 0 .rw]⟩,
    ⟨0x200004, 64, 0, 3072, 4, 0, 1, 0x0, false,
     [fdef 10 10 .ro, fdef 9 9 .ro, fdef 8 8 .ro, fdef 7 0 .ro]⟩,
    ⟨0x200008, 64, 0, 3072, 4, 0, 1, 0x0, false,
     [fdef 31 16 .ro, fdef 15 15 .ro, fdef 3 0 .wo]⟩,
    ⟨0x20000c, 64, 0, 3072, 4, 0, 1, 0x0, false,
     [fdef 23 20 .ro, fdef 19 19 .ro, fdef 18 18 .ro, fdef 17 17 .ro, fdef 16 16 .ro, fdef 15 15 .w1c, fdef 14 14 .ro, fdef 13 13 .ro, fdef 12 10 .ro, fdef 9 9 .w1c, fdef 2 0 .ro]⟩,
    ⟨0x200010, 64, 0, 3072, 4, 0, 1, 0x400000, false,
     [fdef 22 20 .ro, fdef 19 16 .ro, fdef 14 8 .ro, fdef 6 0 .ro]⟩,
    ⟨0x200014, 64, 0, 3072, 4, 0, 1, 0x280000, false,
     [fdef 24 16 .ro, fdef 15 0 .ro]⟩,
    ⟨0x200018, 64, 0, 3072, 4, 0, 1, 0x8080400, false,
     [fdef 27 24 .rw, fdef 19 16 .rw, fdef 10 8 .rw, fdef 4 0 .rw]⟩,
    ⟨0x20001c, 64, 0, 3072, 4, 0, 1, 0x0, false,
     [fdef 28 16 .rc, fdef 12 0 .ro]⟩,
    ⟨0x200020, 64, 0, 3072, 4, 0, 1, 0x0, false,
     [fdef 15 0 .ro]⟩,
    ⟨0x200024, 64, 0, 3072, 4, 0, 1, 0x0, false,
     [fdef 31 31 .ro, fdef 26 16 .ro, fdef 15 15 .ro, fdef 10 0 .ro]⟩,
    ⟨0x200028, 64, 0, 3072, 4, 0, 1, 0x0, false,
     [fdef 31 31 .ro, fdef 26 16 .ro, fdef 15 15 .ro, fdef 10 0 .ro]⟩,
    ⟨0x20002c, 64, 0, 3072, 4, 0, 1, 0x0, false,
     [fdef 15 8 .ro, fdef 3 0 .rw]⟩ ]
/-- Register tables of block CELL, part 2. -/
def tableCELL2 : List RegDef :=
  [ ⟨0x200030, 64, 0, 3072, 4, 0, 1, 0x0, false,
     [fdef 31 24 .rw, fdef 23 16 .rw, fdef 15 8 .rw, fdef 7 0 .rw]⟩,
    ⟨0x200034, 64, 0, 3072, 4, 0, 1, 0x0, false,
     [fdef 31 24 .rw, fdef 23 16 .rw, fdef 15 8 .rw, fdef 7 0 .rw]⟩,
    ⟨0x200038, 64, 0, 3072, 4, 0, 1, 0x0, false,
     [fdef 28 27 .rw, frange 26 20 0 64, fdef 19 16 .rw, frange 12 10 0 4, fdef 9 4 .rw, fdef 3 3 .w1s, frange 2 0 0 4]⟩,
    ⟨0x20003c, 64, 0, 3072, 4, 0, 1, 0x0, false,
     [fdef 31 31 .ro, fdef 30 30 .ro, fdef 27 16 .ro, fdef 15 0 .ro]⟩ ]
/-- Register tables of block CELL (R35). -/
def tableCELL : List RegDef := tableCELL1 ++ tableCELL2
/-- Register tables of block VSN, part 1. -/
def tableVSN1 : List RegDef :=
  [ ⟨0x400000, 32, 1, 256, 4, 0, 1, 0x7ff, false,
     [fdef 31 31 .ro, fdef 29 16 .ro, fdef 10 0 .ro]⟩,
    ⟨0x400004, 32, 1, 256, 4, 0, 1, 0x7ff, false,
     [fdef 31 31 .ro, fdef 29 16 .ro, fdef 10 0 .ro]⟩,
    ⟨0x400008, 32, 1, 256, 4, 0, 1, 0x0, false,
     [fdef 31 0 .ro]⟩,
    ⟨0x40000c, 32, 1, 256, 4, 0, 1, 0x0, false,
     [fdef 31 0 .ro]⟩,
    ⟨0x400010, 32, 1, 256, 4, 0, 1, 0x0, false,
     [fdef 0 0 .wo]⟩ ]
/-- Register tables of block VSN (R35). -/
def tableVSN : List RegDef := tableVSN1
/-- Register tables of block SNS, part 1. -/
def tableSNS1 : List RegDef :=
  [ ⟨0x600000, 4, 0, 1, 4, 0, 1, 0x1f, false,
     [fdef 4 4 .rw, fdef 3 0 .rw]⟩,
    ⟨0x600004, 4, 0, 1, 4, 0, 1, 0x0, false,
     [fdef 19 18 .ro, fdef 17 16 .ro, fdef 13 13 .ro, fdef 12 12 .ro, fdef 11 8 .ro, fdef 7 4 .ro, fdef 3 0 .ro]⟩,
    ⟨0x600008, 4, 0, 1, 4, 0, 1, 0x402029a4, false,
     [frange 31 24 8 255, frange 23 20 1 15, fdef 15 8 .rw, fdef 7 0 .rw]⟩,
    ⟨0x60000c, 4, 0, 1, 4, 0, 1, 0x0, false,
     [fdef 5 5 .w1c, fdef 4 4 .w1c, fdef 3 3 .w1c, fdef 2 2 .w1c, fdef 1 1 .w1c, fdef 0 0 .w1c]⟩,
    ⟨0x600010, 4, 0, 1, 4, 0, 1, 0xc00, false,
     [frange 15 0 1 65535]⟩,
    ⟨0x600014, 4, 0, 1, 4, 0, 1, 0x640064, false,
     [fdef 31 16 .rw, frange 15 0 1 65535]⟩,
    ⟨0x600018, 4, 0, 1, 4, 0, 1, 0x6052413, false,
     [fdef 31 0 .rw]⟩,
    ⟨0x60001c, 4, 0, 1, 4, 0, 1, 0x0, false,
     [fdef 31 16 .ro, fdef 15 0 .ro]⟩,
    ⟨0x600020, 4, 0, 1, 4, 0, 1, 0x0, false,
     [fdef 31 0 .w1c]⟩,
    ⟨0x600024, 4, 0, 1, 4, 0, 1, 0x0, false,
     [fdef 31 0 .w1c]⟩,
    ⟨0x601000, 1024, 0, 4, 4, 0, 1, 0x4b0, false,
     [frange 31 30 0 2, frange 10 0 1000 1800]⟩,
    ⟨0x601004, 1024, 0, 4, 4, 0, 1, 0x0, false,
     [fdef 31 0 .rw]⟩ ]
/-- Register tables of block SNS, part 2. -/
def tableSNS2 : List RegDef :=
  [ ⟨0x601008, 1024, 0, 4, 4, 0, 1, 0x0, false,
     [fdef 15 0 .rw]⟩,
    ⟨0x60100c, 1024, 0, 4, 4, 0, 1, 0x0, false,
     [fdef 31 16 .rw, fdef 15 0 .rw]⟩,
    ⟨0x601010, 1024, 0, 4, 4, 0, 1, 0x0, false,
     [fdef 10 8 .ro, fdef 5 0 .wo]⟩,
    ⟨0x601014, 1024, 0, 4, 4, 0, 1, 0x0, false,
     [fdef 31 31 .ro, fdef 30 30 .ro, fdef 21 16 .ro, fdef 15 0 .ro]⟩,
    ⟨0x601018, 1024, 0, 4, 4, 0, 1, 0x0, false,
     [fdef 31 0 .ro]⟩,
    ⟨0x601100, 1024, 0, 4, 4, 0, 48, 0x70000, false,
     [fdef 31 31 .ro, fdef 30 30 .ro, fdef 29 24 .ro, fdef 18 16 .ro, fdef 15 0 .ro]⟩,
    ⟨0x602000, 16, 0, 64, 4, 0, 1, 0x100, false,
     [fdef 31 31 .rw, fdef 30 30 .rw, fdef 29 29 .rw, fdef 28 26 .rw, fdef 25 24 .rw, fdef 21 16 .rw, frange 11 8 1 15, fdef 7 0 .rw]⟩,
    ⟨0x602004, 16, 0, 64, 4, 0, 1, 0xffff0000, false,
     [fdef 31 16 .rw, fdef 15 0 .rw]⟩,
    ⟨0x602008, 16, 0, 64, 4, 0, 1, 0x0, false,
     [fdef 15 0 .rw]⟩,
    ⟨0x60200c, 16, 0, 64, 4, 0, 1, 0x0, false,
     [fdef 31 31 .ro, fdef 30 30 .ro, fdef 27 24 .ro, fdef 15 0 .ro]⟩,
    ⟨0x603000, 4, 0, 1, 4, 0, 1, 0x0, false,
     [fdef 31 31 .rw, fdef 30 30 .rw, fdef 29 29 .rw, fdef 25 24 .rw, fdef 21 16 .rw]⟩ ]
/-- Register tables of block SNS (R35). -/
def tableSNS : List RegDef := tableSNS1 ++ tableSNS2
/-- Register tables of block THM, part 1. -/
def tableTHM1 : List RegDef :=
  [ ⟨0x680000, 4, 0, 1, 4, 0, 1, 0x0, false,
     [fdef 0 0 .wo]⟩,
    ⟨0x680004, 4, 0, 1, 4, 0, 1, 0x0, false,
     [fdef 30 24 .ro, fdef 22 16 .ro, fdef 13 8 .ro, fdef 1 0 .ro]⟩,
    ⟨0x680008, 4, 0, 1, 4, 0, 1, 0x800000c8, false,
     [(fdef 31 31 .rw).by 2, frange 15 0 20 65535]⟩,
    ⟨0x68000c, 4, 0, 1, 4, 0, 1, 0x203404, false,
     [frange 22 16 1 64, frange 15 12 1 8, frange 11 6 1 63, frange 5 0 1 63]⟩,
    ⟨0x680010, 4, 0, 1, 4, 0, 1, 0x0, false,
     [fdef 31 31 .rw, fdef 19 16 .rw, fdef 14 0 .rw]⟩,
    ⟨0x680014, 4, 0, 1, 4, 0, 1, 0x0, false,
     [fdef 31 0 .rw]⟩,
    ⟨0x680018, 4, 0, 1, 4, 0, 1, 0x0, false,
     [fdef 31 0 .rw]⟩,
    ⟨0x68001c, 4, 0, 1, 4, 0, 1, 0x0, false,
     [fdef 31 0 .wo]⟩,
    ⟨0x680020, 4, 0, 1, 4, 0, 1, 0x0, false,
     [fdef 31 0 .wo]⟩,
    ⟨0x680024, 4, 0, 1, 4, 0, 1, 0x0, false,
     [fdef 7 7 .w1c, fdef 6 6 .w1c, fdef 5 5 .w1c, fdef 4 4 .w1c, fdef 3 3 .w1c, fdef 2 2 .w1c, fdef 1 1 .w1c, fdef 0 0 .w1c]⟩,
    ⟨0x680028, 4, 0, 1, 4, 0, 1, 0x0, false,
     [fdef 31 0 .ro]⟩,
    ⟨0x68002c, 4, 0, 1, 4, 0, 1, 0x0, false,
     [fdef 31 16 .rc, fdef 15 0 .rc]⟩ ]
/-- Register tables of block THM, part 2. -/
def tableTHM2 : List RegDef :=
  [ ⟨0x681000, 32, 0, 64, 4, 0, 1, 0x3076695f, false,
     [(frange 31 28 1 15).by 6, (fdef 23 16 .rw).by 6, (fdef 15 8 .rw).by 6, (fdef 7 0 .rw).by 6]⟩,
    ⟨0x681004, 32, 0, 64, 4, 0, 1, 0x0, false,
     [fdef 31 0 .rw]⟩,
    ⟨0x681008, 32, 0, 64, 4, 0, 1, 0x0, false,
     [fdef 31 0 .rw]⟩,
    ⟨0x68100c, 32, 0, 64, 4, 0, 1, 0x0, false,
     [fdef 31 30 .ro, fdef 29 29 .ro, fdef 28 28 .ro, fdef 27 24 .ro, fdef 23 20 .ro, fdef 15 0 .ro]⟩,
    ⟨0x681010, 32, 0, 64, 4, 0, 1, 0x400040, false,
     [fdef 22 16 .ro, fdef 6 0 .ro]⟩,
    ⟨0x681014, 32, 0, 64, 4, 0, 1, 0x0, false,
     [fdef 31 0 .ro]⟩,
    ⟨0x684000, 8, 0, 512, 4, 0, 1, 0x0, false,
     [fdef 31 31 .ro, fdef 30 30 .ro, fdef 29 24 .ro, fdef 15 0 .ro]⟩,
    ⟨0x684004, 8, 0, 512, 4, 0, 1, 0x0, false,
     [fdef 31 31 .rw, fdef 29 28 .ro, fdef 15 0 .rw]⟩ ]
/-- Register tables of block THM (R35). -/
def tableTHM : List RegDef := tableTHM1 ++ tableTHM2
/-- Register tables of block LPE, part 1. -/
def tableLPE1 : List RegDef :=
  [ ⟨0x700000, 4, 0, 1, 4, 0, 1, 0x0, false,
     [fdef 2 2 .rw, fdef 1 1 .wo, fdef 0 0 .w1s]⟩,
    ⟨0x700004, 4, 0, 1, 4, 0, 1, 0x70000, false,
     [fdef 31 16 .ro, fdef 15 15 .ro, fdef 14 14 .ro, fdef 13 13 .ro, fdef 11 9 .ro, fdef 8 0 .ro]⟩,
    ⟨0x700008, 4, 0, 1, 4, 0, 1, 0x0, false,
     [fdef 21 16 .ro, fdef 12 0 .ro]⟩,
    ⟨0x70000c, 4, 0, 1, 4, 0, 1, 0x0, false,
     [fdef 6 6 .w1c, fdef 5 5 .w1c, fdef 4 4 .w1c, fdef 3 3 .w1c, fdef 2 2 .w1c, fdef 1 1 .w1c, fdef 0 0 .w1c]⟩,
    ⟨0x700040, 4, 0, 16, 4, 0, 1, 0x0, false,
     [fdef 31 0 .w1c]⟩,
    ⟨0x700100, 16, 0, 32, 4, 0, 1, 0x0, false,
     [fdef 31 0 .rw]⟩,
    ⟨0x700104, 16, 0, 32, 4, 0, 1, 0x0, false,
     [fdef 31 0 .rw]⟩,
    ⟨0x700108, 16, 0, 32, 4, 0, 1, 0x0, false,
     [fdef 31 0 .rw]⟩,
    ⟨0x70010c, 16, 0, 32, 4, 0, 1, 0x0, false,
     [fdef 31 0 .rw]⟩,
    ⟨0x701000, 64, 0, 16, 4, 0, 1, 0x0, false,
     [fdef 31 31 .rw, fdef 3 0 .rw]⟩,
    ⟨0x701004, 64, 0, 16, 4, 0, 1, 0x1, false,
     [fdef 2 2 .ro, fdef 1 1 .w1c, fdef 0 0 .ro]⟩,
    ⟨0x701008, 64, 0, 16, 4, 0, 1, 0x0, false,
     [fdef 31 0 .rw]⟩ ]
/-- Register tables of block LPE, part 2. -/
def tableLPE2 : List RegDef :=
  [ ⟨0x70100c, 64, 0, 16, 4, 0, 1, 0x0, false,
     [fdef 31 0 .ro]⟩,
    ⟨0x701010, 64, 0, 16, 4, 0, 1, 0x1, false,
     [fdef 30 0 .rw]⟩,
    ⟨0x701014, 64, 0, 16, 4, 0, 1, 0x1, false,
     [fdef 30 0 .rw]⟩,
    ⟨0x701018, 64, 0, 16, 4, 0, 1, 0x1, false,
     [fdef 30 0 .rw]⟩,
    ⟨0x701020, 64, 0, 16, 4, 0, 1, 0x0, false,
     [fdef 31 0 .rw]⟩,
    ⟨0x701024, 64, 0, 16, 4, 0, 1, 0x0, false,
     [fdef 31 0 .rw]⟩,
    ⟨0x701028, 64, 0, 16, 4, 0, 1, 0x0, false,
     [fdef 31 0 .rw]⟩,
    ⟨0x70102c, 64, 0, 16, 4, 0, 1, 0x0, false,
     [fdef 31 0 .rw]⟩,
    ⟨0x710000, 16, 0, 512, 4, 0, 1, 0x0, false,
     [fdef 31 31 .ro, fdef 30 28 .ro, fdef 27 27 .ro, fdef 26 26 .ro, fdef 25 25 .ro, fdef 24 24 .ro, fdef 23 20 .ro, fdef 19 16 .ro, fdef 14 0 .ro]⟩,
    ⟨0x710004, 16, 0, 512, 4, 0, 1, 0x0, false,
     [fdef 31 26 .ro, fdef 25 16 .ro, fdef 15 10 .ro, fdef 9 0 .ro]⟩,
    ⟨0x710008, 16, 0, 512, 4, 0, 1, 0x0, false,
     [fdef 15 10 .ro, fdef 9 0 .ro]⟩,
    ⟨0x71000c, 16, 0, 512, 4, 0, 1, 0x0, false,
     [fdef 31 16 .ro, fdef 15 10 .ro, fdef 9 0 .ro]⟩ ]
/-- Register tables of block LPE, part 3. -/
def tableLPE3 : List RegDef :=
  [ ⟨0x740000, 512, 0, 512, 4, 0, 1, 0x0, false,
     [fdef 31 31 .rw, frange 30 28 0 1, fdef 27 27 .rw, fdef 26 26 .rw, fdef 25 25 .rw, fdef 24 24 .rw, fdef 23 20 .rw, fdef 19 16 .rw, fdef 14 0 .rw]⟩,
    ⟨0x740004, 512, 0, 512, 4, 0, 1, 0x0, false,
     [frange 31 26 0 13, fdef 25 16 .rw, frange 15 10 0 13, fdef 9 0 .rw]⟩,
    ⟨0x740008, 512, 0, 512, 4, 0, 1, 0x0, false,
     [frange 15 10 0 13, fdef 9 0 .rw]⟩,
    ⟨0x74000c, 512, 0, 512, 4, 0, 1, 0x0, false,
     [fdef 31 16 .rw, frange 15 10 0 4, fdef 9 0 .rw]⟩,
    ⟨0x740010, 512, 0, 512, 4, 0, 1, 0x0, false,
     [fdef 31 0 .rw]⟩,
    ⟨0x740014, 512, 0, 512, 4, 0, 1, 0x0, false,
     [fdef 31 0 .rw]⟩,
    ⟨0x740018, 512, 0, 512, 4, 0, 1, 0x0, false,
     [fdef 31 0 .rw]⟩,
    ⟨0x74001c, 512, 0, 512, 4, 0, 1, 0x0, false,
     [fdef 13 8 .rw, fdef 5 0 .rw]⟩,
    ⟨0x740020, 512, 0, 512, 4, 0, 1, 0x0, false,
     [fdef 31 0 .rw]⟩,
    ⟨0x740024, 512, 0, 512, 4, 0, 1, 0x0, false,
     [fdef 31 0 .rw]⟩,
    ⟨0x740028, 512, 0, 512, 4, 0, 1, 0x0, false,
     [fdef 31 0 .rw]⟩,
    ⟨0x74002c, 512, 0, 512, 4, 0, 1, 0x0, false,
     [fdef 31 0 .rw]⟩ ]
/-- Register tables of block LPE, part 4. -/
def tableLPE4 : List RegDef :=
  [ ⟨0x740030, 512, 0, 512, 4, 0, 1, 0x0, false,
     [fdef 0 0 .rw]⟩,
    ⟨0x740034, 512, 0, 512, 4, 0, 1, 0x0, false,
     [fdef 13 13 .ro, fdef 12 12 .w1c, fdef 11 11 .w1c, fdef 10 10 .w1c, fdef 9 9 .w1c, fdef 8 0 .w1c]⟩,
    ⟨0x740038, 512, 0, 512, 4, 0, 1, 0x0, false,
     [fdef 31 0 .ro]⟩,
    ⟨0x74003c, 512, 0, 512, 4, 0, 1, 0x0, false,
     [fdef 31 0 .ro]⟩,
    ⟨0x740040, 512, 0, 512, 40, 0, 9, 0x0, false,
     [fdef 31 0 .rw]⟩,
    ⟨0x740044, 512, 0, 512, 40, 0, 9, 0x0, false,
     [fdef 31 0 .rw]⟩,
    ⟨0x740048, 512, 0, 512, 40, 0, 9, 0x0, false,
     [fdef 31 0 .rw]⟩,
    ⟨0x74004c, 512, 0, 512, 40, 0, 9, 0x0, false,
     [fdef 31 0 .rw]⟩,
    ⟨0x740050, 512, 0, 512, 40, 0, 9, 0x0, false,
     [fdef 31 0 .rw]⟩,
    ⟨0x740054, 512, 0, 512, 40, 0, 9, 0x0, false,
     [fdef 31 0 .rw]⟩,
    ⟨0x740058, 512, 0, 512, 40, 0, 9, 0x0, false,
     [fdef 31 0 .rw]⟩,
    ⟨0x74005c, 512, 0, 512, 40, 0, 9, 0x0, false,
     [fdef 31 0 .rw]⟩ ]
/-- Register tables of block LPE, part 5. -/
def tableLPE5 : List RegDef :=
  [ ⟨0x740060, 512, 0, 512, 40, 0, 9, 0x0, false,
     [fdef 31 0 .rw]⟩,
    ⟨0x740064, 512, 0, 512, 40, 0, 9, 0x0, false,
     [fdef 31 0 .rw]⟩,
    ⟨0x7401a8, 512, 0, 512, 4, 0, 1, 0x1f400bb8, false,
     [fdef 31 16 .rw, fdef 15 0 .rw]⟩,
    ⟨0x7401ac, 512, 0, 512, 4, 0, 1, 0x27100dac, false,
     [fdef 31 16 .rw, fdef 15 0 .rw]⟩,
    ⟨0x7401b0, 512, 0, 512, 4, 0, 1, 0x2ee00fa0, false,
     [fdef 31 16 .rw, fdef 15 0 .rw]⟩,
    ⟨0x7401b4, 512, 0, 512, 4, 0, 1, 0x36b01194, false,
     [fdef 31 16 .rw, fdef 15 0 .rw]⟩,
    ⟨0x7401b8, 512, 0, 512, 4, 0, 1, 0x3e801388, false,
     [fdef 31 16 .rw, fdef 15 0 .rw]⟩ ]
/-- Register tables of block LPE (R35). -/
def tableLPE : List RegDef := tableLPE1 ++ tableLPE2 ++ tableLPE3 ++ tableLPE4 ++ tableLPE5
/-- Register tables of block TTB, part 1. -/
def tableTTB1 : List RegDef :=
  [ ⟨0x800000, 16, 0, 65536, 4, 0, 4, 0x0, false,
     [fdef 31 0 .rw]⟩,
    ⟨0x900000, 4, 0, 1, 4, 0, 1, 0x0, false,
     [fdef 2 2 .wo, fdef 1 1 .wo, fdef 0 0 .wo]⟩,
    ⟨0x900004, 4, 0, 1, 4, 0, 1, 0x0, false,
     [fdef 26 16 .ro, fdef 14 8 .ro, fdef 7 7 .ro, fdef 6 6 .ro, fdef 5 5 .ro, fdef 4 4 .ro, fdef 2 0 .ro]⟩,
    ⟨0x900008, 4, 0, 1, 4, 0, 1, 0x100, false,
     [fdef 8 8 .rw, fdef 4 4 .rw, fdef 3 0 .rw]⟩,
    ⟨0x90000c, 4, 0, 1, 4, 0, 1, 0x0, false,
     [fdef 31 16 .rw, fdef 15 0 .rw]⟩,
    ⟨0x900010, 4, 0, 1, 4, 0, 1, 0x64190c8, false,
     [frange 28 20 0 400, frange 18 10 0 400, frange 8 0 0 400]⟩,
    ⟨0x900014, 4, 0, 1, 4, 0, 1, 0xc80032, false,
     [fdef 24 16 .rw, fdef 8 0 .rw]⟩,
    ⟨0x900018, 4, 0, 1, 4, 0, 1, 0x100000, false,
     [fdef 23 16 .rw, fdef 11 0 .rw]⟩,
    ⟨0x90001c, 4, 0, 1, 4, 0, 1, 0x385, false,
     [frange 10 0 512 1024]⟩,
    ⟨0x900020, 4, 0, 1, 4, 0, 1, 0xffff0000, false,
     [fdef 31 16 .ro, fdef 15 0 .ro]⟩,
    ⟨0x900024, 4, 0, 1, 4, 0, 1, 0x0, false,
     [fdef 31 31 .ro, fdef 19 16 .ro, fdef 15 0 .ro]⟩,
    ⟨0x900028, 4, 0, 1, 4, 0, 1, 0x0, false,
     [fdef 31 0 .ro]⟩ ]
/-- Register tables of block TTB, part 2. -/
def tableTTB2 : List RegDef :=
  [ ⟨0x90002c, 4, 0, 1, 4, 0, 1, 0x0, false,
     [fdef 21 16 .ro, fdef 15 0 .ro]⟩,
    ⟨0x900030, 4, 0, 1, 4, 0, 1, 0x0, false,
     [fdef 31 31 .ro, fdef 5 0 .ro]⟩,
    ⟨0x900034, 4, 0, 1, 4, 0, 1, 0x0, false,
     [fdef 31 0 .ro]⟩,
    ⟨0x900038, 4, 0, 1, 4, 0, 1, 0x0, false,
     [fdef 8 8 .w1c, fdef 7 7 .w1c, fdef 6 6 .w1c, fdef 5 5 .w1c, fdef 4 4 .w1c, fdef 3 3 .w1c, fdef 2 2 .w1c, fdef 1 1 .w1c, fdef 0 0 .w1c]⟩,
    ⟨0x900040, 4, 0, 1, 4, 0, 1, 0x0, false,
     [fdef 31 0 .ro]⟩,
    ⟨0x900044, 4, 0, 1, 4, 0, 1, 0x0, false,
     [fdef 31 24 .rc, fdef 23 16 .rc, fdef 15 8 .rc, fdef 7 0 .rc]⟩,
    ⟨0x900048, 4, 0, 1, 4, 0, 1, 0x0, false,
     [fdef 31 24 .rc, fdef 23 16 .rc, fdef 15 8 .rc, fdef 7 0 .rc]⟩,
    ⟨0x900050, 4, 0, 1, 4, 0, 1, 0x0, false,
     [fdef 31 0 .rw]⟩,
    ⟨0x900054, 4, 0, 1, 4, 0, 1, 0x0, false,
     [fdef 31 0 .rw]⟩,
    ⟨0x900058, 4, 0, 1, 4, 0, 1, 0x0, false,
     [fdef 31 16 .rw, fdef 15 0 .rw]⟩,
    ⟨0x90005c, 4, 0, 1, 4, 0, 1, 0x70000, false,
     [fdef 31 16 .ro, fdef 1 1 .ro, fdef 0 0 .w1s]⟩,
    ⟨0x901000, 4, 1, 256, 4, 0, 1, 0x0, false,
     [fdef 24 16 .ro, fdef 15 0 .ro]⟩ ]
/-- Register tables of block TTB, part 3. -/
def tableTTB3 : List RegDef :=
  [ ⟨0x902000, 32, 0, 256, 4, 0, 8, 0x0, false,
     [fdef 31 0 .rw]⟩ ]
/-- Register tables of block TTB (R35). -/
def tableTTB : List RegDef := tableTTB1 ++ tableTTB2 ++ tableTTB3
/-- Register tables of block ODR, part 1. -/
def tableODR1 : List RegDef :=
  [ ⟨0x1000000, 4, 0, 1, 4, 0, 1, 0x80000, false,
     [fdef 23 16 .rw, fdef 15 8 .rw, fdef 3 3 .rw, fdef 2 2 .wo, fdef 1 1 .wo, fdef 0 0 .wo]⟩,
    ⟨0x1000004, 4, 0, 1, 4, 0, 1, 0x70000, false,
     [fdef 31 16 .ro, fdef 15 12 .ro, fdef 8 8 .ro, fdef 7 7 .w1c, fdef 6 6 .w1c, fdef 5 5 .w1c, fdef 4 4 .ro, fdef 1 0 .ro]⟩,
    ⟨0x1000008, 4, 0, 1, 4, 0, 1, 0x0, false,
     [fdef 23 16 .rw, fdef 15 8 .rw, fdef 7 0 .rw]⟩,
    ⟨0x100000c, 4, 0, 1, 4, 0, 1, 0x0, false,
     [fdef 15 0 .ro]⟩,
    ⟨0x1000010, 8, 0, 2, 4, 0, 1, 0x0, false,
     [frange 9 8 0 2, frange 6 4 0 3, frange 2 0 0 3]⟩,
    ⟨0x1000014, 8, 0, 2, 4, 0, 1, 0x0, false,
     [fdef 31 16 .rw, fdef 15 0 .rw]⟩,
    ⟨0x1000020, 4, 0, 1, 4, 0, 1, 0x0, false,
     [fdef 31 0 .ro]⟩,
    ⟨0x1000024, 4, 0, 1, 4, 0, 1, 0x0, false,
     [fdef 31 0 .ro]⟩,
    ⟨0x1000028, 4, 0, 1, 4, 0, 1, 0x0, false,
     [fdef 4 4 .w1c, fdef 3 3 .w1c, fdef 2 2 .w1c, fdef 1 1 .w1c, fdef 0 0 .w1c]⟩,
    ⟨0x100002c, 4, 0, 1, 4, 0, 1, 0x0, false,
     [fdef 31 16 .rc, fdef 15 0 .rc]⟩,
    ⟨0x1000040, 4, 0, 1, 4, 0, 1, 0x0, false,
     [fdef 31 0 .rw]⟩,
    ⟨0x1000044, 4, 0, 1, 4, 0, 1, 0x0, false,
     [fdef 31 0 .rw]⟩ ]
/-- Register tables of block ODR, part 2. -/
def tableODR2 : List RegDef :=
  [ ⟨0x1000048, 4, 0, 1, 4, 0, 1, 0x0, false,
     [fdef 31 16 .rw, fdef 15 0 .rw]⟩,
    ⟨0x100004c, 4, 0, 1, 4, 0, 1, 0x70000, false,
     [fdef 31 16 .ro, fdef 1 1 .ro, fdef 0 0 .w1s]⟩,
    ⟨0x1000100, 4, 0, 32, 4, 0, 1, 0x0, false,
     [fdef 31 0 .ro]⟩,
    ⟨0x1001000, 4, 0, 128, 4, 0, 1, 0x0, false,
     [fdef 23 16 .rw, frange 15 10 0 11, fdef 9 0 .rw]⟩,
    ⟨0x1001200, 4, 0, 128, 4, 0, 1, 0x0, false,
     [fdef 31 0 .ro]⟩,
    ⟨0x1002000, 1024, 0, 2, 4, 1, 64, 0x0, false,
     [fdef 31 0 .rw]⟩,
    ⟨0x1002100, 1024, 0, 2, 4, 0, 64, 0x0, false,
     [fdef 31 0 .rw]⟩,
    ⟨0x1002200, 1024, 0, 2, 4, 0, 64, 0x0, false,
     [fdef 31 0 .rw]⟩,
    ⟨0x1010000, 4, 0, 16384, 4, 0, 1, 0x0, false,
     [fdef 31 0 .rw]⟩ ]
/-- Register tables of block ODR (R35). -/
def tableODR : List RegDef := tableODR1 ++ tableODR2
/-- Register tables of block REIN, part 1. -/
def tableREIN1 : List RegDef :=
  [ ⟨0x1100000, 4, 0, 1, 4, 0, 1, 0x40, false,
     [fdef 14 8 .ro, fdef 6 0 .ro]⟩,
    ⟨0x1100004, 4, 0, 1, 4, 0, 1, 0x0, false,
     [fdef 2 2 .w1c, fdef 1 1 .w1c, fdef 0 0 .w1c]⟩,
    ⟨0x1101000, 32, 0, 64, 4, 0, 1, 0x740, false,
     [fdef 10 8 .ro, fdef 6 0 .ro]⟩,
    ⟨0x1101004, 32, 0, 64, 4, 0, 1, 0x40, false,
     [frange 6 0 1 64]⟩,
    ⟨0x1101008, 32, 0, 64, 4, 0, 1, 0x40, false,
     [(frange 6 0 1 64).by 6]⟩,
    ⟨0x110100c, 32, 0, 64, 4, 0, 1, 0x404040, false,
     [fdef 31 31 .ro, fdef 22 16 .ro, fdef 14 8 .ro, fdef 6 0 .ro]⟩,
    ⟨0x1101010, 32, 0, 64, 4, 0, 1, 0x4040, false,
     [fdef 14 8 .ro, fdef 6 0 .ro]⟩,
    ⟨0x1101014, 32, 0, 64, 4, 0, 1, 0x0, false,
     [fdef 31 0 .ro]⟩,
    ⟨0x1101018, 32, 0, 64, 4, 0, 1, 0x0, false,
     [fdef 31 0 .ro]⟩ ]
/-- Register tables of block REIN (R35). -/
def tableREIN : List RegDef := tableREIN1
/-- Register tables of block TNDR, part 1. -/
def tableTNDR1 : List RegDef :=
  [ ⟨0x1180000, 4, 0, 1, 4, 0, 1, 0xd, false,
     [fdef 3 3 .rw, fdef 2 2 .rw, (fdef 1 1 .rw).by 12, fdef 0 0 .rw]⟩,
    ⟨0x1180004, 4, 0, 1, 4, 0, 1, 0x4, false,
     [frange 7 0 1 255]⟩,
    ⟨0x1180008, 4, 0, 1, 4, 0, 1, 0x2db, false,
     [(frange 23 0 1 16777215).by 12]⟩,
    ⟨0x118000c, 4, 0, 1, 4, 0, 1, 0xc04000, false,
     [frange 31 16 1 32767, frange 15 8 1 255]⟩,
    ⟨0x1180010, 4, 0, 1, 4, 0, 1, 0x320, false,
     [fdef 15 0 .rw]⟩,
    ⟨0x1180014, 4, 0, 1, 4, 0, 1, 0x0, false,
     [fdef 31 16 .ro, fdef 15 8 .ro, fdef 1 1 .ro, fdef 0 0 .ro]⟩,
    ⟨0x1180018, 4, 0, 1, 4, 0, 1, 0x0, false,
     [fdef 31 16 .ro, fdef 15 0 .ro]⟩,
    ⟨0x1180020, 4, 0, 1, 4, 0, 1, 0x0, false,
     [fdef 31 0 .ro]⟩,
    ⟨0x1180024, 4, 0, 1, 4, 0, 1, 0x0, false,
     [fdef 31 0 .ro]⟩,
    ⟨0x1180028, 4, 0, 1, 4, 0, 1, 0x0, false,
     [fdef 31 16 .rc, fdef 15 0 .rc]⟩,
    ⟨0x118002c, 4, 0, 1, 4, 0, 1, 0x0, false,
     [fdef 3 3 .w1c, fdef 2 2 .w1c, fdef 1 1 .w1c, fdef 0 0 .w1c]⟩,
    ⟨0x1181000, 4, 0, 64, 4, 0, 1, 0x0, false,
     [fdef 31 31 .ro, fdef 29 28 .ro, fdef 22 16 .ro, fdef 6 0 .ro]⟩ ]
/-- Register tables of block TNDR (R35). -/
def tableTNDR : List RegDef := tableTNDR1
/-- Register tables of block SKID, part 1. -/
def tableSKID1 : List RegDef :=
  [ ⟨0x1200000, 4, 0, 1, 4, 0, 1, 0x1, false,
     [(fdef 0 0 .rw).by 6]⟩,
    ⟨0x1200004, 4, 0, 1, 4, 0, 1, 0x0, false,
     [fdef 23 16 .ro, fdef 15 8 .ro]⟩,
    ⟨0x1200040, 4, 0, 8, 4, 0, 1, 0x0, false,
     [fdef 31 0 .w1c]⟩,
    ⟨0x1200800, 4, 0, 72, 4, 0, 1, 0x0, false,
     [fdef 15 8 .ro, fdef 2 0 .ro]⟩,
    ⟨0x1201000, 64, 1, 256, 4, 0, 1, 0x84400a05, false,
     [fdef 31 31 .rw, frange 26 24 1 4, frange 23 16 1 255, frange 15 8 1 255, fdef 7 0 .rw]⟩,
    ⟨0x1201004, 64, 1, 256, 4, 0, 1, 0x640000, false,
     [fdef 23 16 .rw, fdef 7 0 .rw]⟩,
    ⟨0x1201008, 64, 1, 256, 4, 0, 1, 0x0, false,
     [frange 2 0 0 4]⟩,
    ⟨0x120100c, 64, 1, 256, 4, 0, 1, 0x0, false,
     [fdef 27 24 .ro, fdef 23 16 .ro, fdef 2 0 .ro]⟩,
    ⟨0x1201010, 64, 1, 256, 4, 0, 1, 0x40108400, false,
     [frange 31 24 1 255, fdef 23 16 .rw, frange 15 12 1 15, frange 11 6 1 63]⟩,
    ⟨0x1201014, 64, 1, 256, 4, 0, 1, 0x80000064, false,
     [fdef 31 31 .rw, frange 15 0 1 65535]⟩,
    ⟨0x1201018, 64, 1, 256, 4, 0, 1, 0x0, false,
     [fdef 31 0 .ro]⟩,
    ⟨0x120101c, 64, 1, 256, 4, 0, 1, 0x0, false,
     [fdef 31 0 .ro]⟩ ]
/-- Register tables of block SKID, part 2. -/
def tableSKID2 : List RegDef :=
  [ ⟨0x1201020, 64, 1, 256, 4, 0, 1, 0x0, false,
     [fdef 31 0 .ro]⟩,
    ⟨0x1201024, 64, 1, 256, 4, 0, 1, 0x0, false,
     [fdef 31 0 .ro]⟩,
    ⟨0x1201028, 64, 1, 256, 4, 0, 1, 0x0, false,
     [fdef 31 0 .ro]⟩,
    ⟨0x120102c, 64, 1, 256, 4, 0, 1, 0x0, false,
     [fdef 18 16 .rc, fdef 15 0 .rc]⟩,
    ⟨0x1201030, 64, 1, 256, 4, 0, 1, 0x0, false,
     [fdef 31 0 .ro]⟩,
    ⟨0x1201034, 64, 1, 256, 4, 0, 1, 0x0, false,
     [fdef 15 0 .rc]⟩ ]
/-- Register tables of block SKID (R35). -/
def tableSKID : List RegDef := tableSKID1 ++ tableSKID2
/-- Register tables of block PWR, part 1. -/
def tablePWR1 : List RegDef :=
  [ ⟨0x1300000, 4, 0, 1, 4, 0, 1, 0xf0000, false,
     [fdef 23 20 .rw, fdef 19 16 .rw, fdef 4 4 .rw, fdef 3 3 .rw, fdef 2 2 .rw, fdef 1 1 .rw, fdef 0 0 .rw]⟩,
    ⟨0x1300004, 4, 0, 1, 4, 0, 1, 0xa00, false,
     [fdef 31 31 .ro, fdef 30 30 .ro, fdef 29 29 .w1c, fdef 23 16 .ro, fdef 12 8 .ro, fdef 7 0 .ro]⟩,
    ⟨0x1300008, 4, 0, 1, 4, 0, 1, 0xffff0190, false,
     [fdef 31 16 .rw, fdef 15 0 .rw]⟩,
    ⟨0x130000c, 4, 0, 1, 4, 0, 1, 0xffff, false,
     [fdef 15 0 .rw]⟩,
    ⟨0x1300010, 4, 0, 1, 4, 0, 1, 0xffff, false,
     [fdef 15 0 .ro]⟩,
    ⟨0x1300014, 4, 0, 1, 4, 0, 1, 0xac850, false,
     [frange 23 16 1 255, fdef 15 8 .rw, fdef 7 0 .rw]⟩,
    ⟨0x1300018, 4, 0, 1, 4, 0, 1, 0xffff, false,
     [fdef 31 16 .ro, fdef 15 0 .ro]⟩,
    ⟨0x130001c, 4, 0, 1, 4, 0, 1, 0x0, false,
     [fdef 31 16 .rc, fdef 15 0 .ro]⟩,
    ⟨0x1300020, 4, 0, 4, 4, 0, 1, 0x0, false,
     [fdef 31 16 .ro, fdef 15 0 .ro]⟩,
    ⟨0x1300030, 4, 0, 1, 4, 0, 1, 0x0, true,
     [fdef 31 0 .ro]⟩,
    ⟨0x1300034, 4, 0, 1, 4, 0, 1, 0x0, true,
     [fdef 31 0 .ro]⟩,
    ⟨0x1300038, 4, 0, 1, 4, 0, 1, 0x0, false,
     [fdef 31 16 .ro, fdef 1 1 .rw, fdef 0 0 .w1s]⟩ ]
/-- Register tables of block PWR, part 2. -/
def tablePWR2 : List RegDef :=
  [ ⟨0x130003c, 4, 0, 1, 4, 0, 1, 0x3e8, false,
     [frange 15 0 1 65535]⟩,
    ⟨0x1300040, 4, 0, 1, 4, 0, 1, 0x0, false,
     [fdef 10 10 .w1c, fdef 9 9 .w1c, fdef 8 8 .w1c, fdef 7 7 .w1c, fdef 6 6 .w1c, fdef 5 5 .w1c, fdef 4 4 .w1c, fdef 3 3 .w1c, fdef 2 2 .w1c, fdef 1 1 .w1c, fdef 0 0 .w1c]⟩,
    ⟨0x1300100, 4, 0, 64, 4, 0, 1, 0xf, false,
     [fdef 4 4 .rw, fdef 3 0 .rw]⟩,
    ⟨0x1301000, 128, 1, 256, 4, 0, 16, 0x28, false,
     [fdef 31 31 .rw, fdef 27 16 .rw, fclamp 8 0]⟩,
    ⟨0x1301040, 128, 1, 256, 4, 0, 1, 0x40, false,
     [fdef 31 31 .ro, fdef 29 29 .w1c, fdef 28 28 .ro, fdef 27 24 .ro, fdef 23 20 .ro, fdef 19 16 .ro, fdef 12 8 .ro, fdef 6 0 .ro]⟩,
    ⟨0x1301044, 128, 1, 256, 4, 0, 1, 0x0, false,
     [fdef 31 16 .rw, fdef 15 0 .rw]⟩,
    ⟨0x1301048, 128, 1, 256, 4, 0, 1, 0x0, false,
     [fdef 31 16 .rw, fdef 15 0 .rw]⟩,
    ⟨0x130104c, 128, 1, 256, 4, 0, 1, 0x0, false,
     [fdef 15 0 .rw]⟩,
    ⟨0x1301050, 128, 1, 256, 4, 0, 1, 0x0, false,
     [fdef 27 16 .rw, fdef 11 0 .ro]⟩,
    ⟨0x1301054, 128, 1, 256, 4, 0, 1, 0x0, false,
     [fdef 19 0 .ro]⟩,
    ⟨0x1301058, 128, 1, 256, 4, 0, 1, 0x0, false,
     [fdef 19 0 .ro]⟩,
    ⟨0x130105c, 128, 1, 256, 4, 0, 1, 0x0, false,
     [fdef 31 16 .ro, fdef 15 0 .ro]⟩ ]
/-- Register tables of block PWR, part 3. -/
def tablePWR3 : List RegDef :=
  [ ⟨0x1301060, 128, 1, 256, 4, 0, 1, 0x0, false,
     [fdef 31 16 .ro, fdef 15 0 .ro]⟩,
    ⟨0x1301064, 128, 1, 256, 4, 0, 1, 0x0, false,
     [fdef 15 0 .ro]⟩,
    ⟨0x1301068, 128, 1, 256, 4, 0, 1, 0x0, false,
     [fdef 31 0 .ro]⟩,
    ⟨0x130106c, 128, 1, 256, 4, 0, 1, 0x0, false,
     [fdef 31 0 .ro]⟩,
    ⟨0x1310000, 32, 1, 256, 4, 0, 7, 0x0, false,
     [fdef 31 0 .ro]⟩,
    ⟨0x1380000, 4, 0, 1, 4, 0, 1, 0xa08, false,
     [fdef 31 31 .rw, frange 15 8 1 255, frange 4 0 4 16]⟩,
    ⟨0x1380004, 4, 0, 1, 4, 0, 1, 0x0, false,
     [fdef 31 16 .rc]⟩,
    ⟨0x1380008, 4, 0, 1, 4, 0, 1, 0x0, false,
     [fdef 31 0 .ro]⟩,
    ⟨0x1380010, 4, 0, 1, 4, 0, 1, 0x0, false,
     [fdef 31 0 .rw]⟩,
    ⟨0x1380014, 4, 0, 1, 4, 0, 1, 0x0, false,
     [fdef 31 0 .rw]⟩,
    ⟨0x1380018, 4, 0, 1, 4, 0, 1, 0x0, false,
     [fdef 15 0 .ro]⟩,
    ⟨0x138001c, 4, 0, 1, 4, 0, 1, 0x0, false,
     [fdef 15 0 .rw]⟩ ]
/-- Register tables of block PWR, part 4. -/
def tablePWR4 : List RegDef :=
  [ ⟨0x1380100, 32, 1, 16, 4, 0, 1, 0x0, false,
     [fdef 31 0 .rw]⟩,
    ⟨0x1380104, 32, 1, 16, 4, 0, 1, 0x0, false,
     [fdef 31 0 .rw]⟩,
    ⟨0x1380108, 32, 0, 16, 4, 0, 1, 0x0, false,
     [fdef 31 0 .ro]⟩,
    ⟨0x138010c, 32, 0, 16, 4, 0, 1, 0x0, false,
     [fdef 31 0 .ro]⟩,
    ⟨0x1380110, 32, 0, 16, 4, 0, 1, 0x0, true,
     [fdef 31 0 .ro]⟩,
    ⟨0x1380114, 32, 0, 16, 4, 0, 1, 0x0, true,
     [fdef 31 0 .ro]⟩,
    ⟨0x1380118, 32, 0, 16, 4, 0, 1, 0x0, true,
     [fdef 31 0 .ro]⟩,
    ⟨0x138011c, 32, 0, 16, 4, 0, 1, 0x0, true,
     [fdef 31 0 .ro]⟩,
    ⟨0x1380400, 4, 0, 64, 4, 0, 1, 0x0, false,
     [fdef 19 16 .ro, fdef 3 0 .rw]⟩ ]
/-- Register tables of block PWR (R35). -/
def tablePWR : List RegDef := tablePWR1 ++ tablePWR2 ++ tablePWR3 ++ tablePWR4
/-- Register tables of block CPLR, part 1. -/
def tableCPLR1 : List RegDef :=
  [ ⟨0x1400000, 4, 0, 1, 4, 0, 1, 0x3, false,
     [(fdef 31 31 .rw).by 10, frange 30 29 0 1, frange 3 0 1 15]⟩,
    ⟨0x1400004, 4, 0, 1, 4, 0, 1, 0x0, false,
     [fdef 20 16 .ro, fdef 8 8 .ro, fdef 2 0 .ro]⟩,
    ⟨0x1400008, 4, 0, 1, 4, 0, 1, 0x0, false,
     [fdef 16 2 .rw, fdef 1 0 .ro]⟩,
    ⟨0x140000c, 4, 0, 1, 4, 0, 1, 0x0, false,
     [fdef 31 0 .ro]⟩,
    ⟨0x1400010, 4, 0, 1, 4, 0, 1, 0x0, false,
     [fdef 31 31 .ro, fdef 15 0 .ro]⟩,
    ⟨0x1400014, 4, 0, 1, 4, 0, 1, 0x4, false,
     [fdef 7 0 .rw]⟩,
    ⟨0x1400018, 4, 0, 1, 4, 0, 1, 0x0, false,
     [fdef 12 12 .w1c, fdef 11 11 .w1c, fdef 10 10 .w1c, fdef 9 9 .w1c, fdef 8 8 .w1c, fdef 7 7 .w1c, fdef 6 6 .w1c, fdef 5 5 .w1c, fdef 4 4 .w1c, fdef 3 3 .w1c, fdef 2 2 .w1c, fdef 1 1 .w1c, fdef 0 0 .w1c]⟩,
    ⟨0x140001c, 4, 0, 1, 4, 0, 1, 0x0, false,
     [fdef 31 24 .rc, fdef 23 16 .rc, fdef 15 8 .rc, fdef 7 0 .rc]⟩,
    ⟨0x1400020, 4, 0, 1, 4, 0, 1, 0x32, false,
     [frange 15 0 1 500]⟩,
    ⟨0x1400100, 8, 0, 17, 4, 0, 1, 0x0, false,
     [frange 31 30 0 2, fdef 14 0 .rw]⟩,
    ⟨0x1400104, 8, 0, 20, 4, 0, 1, 0x0, false,
     [fdef 31 31 .ro, fdef 30 30 .ro, fdef 3 0 .ro]⟩,
    ⟨0x1400188, 8, 0, 3, 4, 0, 1, 0x0, false,
     [fdef 31 30 .ro, fdef 14 0 .ro]⟩ ]
/-- Register tables of block CPLR, part 2. -/
def tableCPLR2 : List RegDef :=
  [ ⟨0x1400200, 16, 0, 4, 4, 0, 1, 0x0, false,
     [fdef 31 31 .rw, fdef 30 30 .rw, fdef 11 0 .rw]⟩,
    ⟨0x1400204, 16, 0, 4, 4, 0, 1, 0x0, false,
     [fdef 31 0 .rw]⟩,
    ⟨0x1400208, 16, 0, 4, 4, 0, 1, 0x0, false,
     [fdef 31 0 .rw]⟩,
    ⟨0x140020c, 16, 0, 4, 4, 0, 1, 0x404040, false,
     [fdef 31 31 .w1c, fdef 22 16 .ro, fdef 14 8 .ro, fdef 6 0 .ro]⟩,
    ⟨0x1400300, 4, 0, 1, 4, 0, 1, 0x0, false,
     [fdef 31 16 .wo, fdef 6 0 .wo]⟩,
    ⟨0x1400304, 4, 0, 1, 4, 0, 1, 0x40, false,
     [fdef 10 8 .ro, fdef 6 0 .ro]⟩,
    ⟨0x1400310, 16, 0, 4, 4, 0, 1, 0x0, false,
     [fdef 31 31 .ro, fdef 16 0 .ro]⟩,
    ⟨0x1400314, 16, 0, 4, 4, 0, 1, 0x40, false,
     [fdef 31 16 .ro, fdef 6 0 .ro]⟩,
    ⟨0x1400318, 16, 0, 4, 4, 0, 1, 0x0, false,
     [fdef 31 0 .ro]⟩,
    ⟨0x1400400, 4, 0, 1, 4, 0, 1, 0x3840, false,
     [fdef 15 0 .rw]⟩,
    ⟨0x1400404, 4, 0, 1, 4, 0, 1, 0x0, false,
     [fdef 31 31 .ro, fdef 16 16 .ro, fdef 15 0 .ro]⟩,
    ⟨0x1400408, 4, 0, 1, 4, 0, 1, 0x0, false,
     [fdef 31 16 .ro, fdef 15 0 .ro]⟩ ]
/-- Register tables of block CPLR, part 3. -/
def tableCPLR3 : List RegDef :=
  [ ⟨0x140040c, 4, 0, 1, 4, 0, 1, 0x3200040, false,
     [fdef 31 16 .rw, fdef 7 0 .rw]⟩,
    ⟨0x1400410, 4, 0, 1, 4, 0, 1, 0x0, false,
     [fdef 31 31 .ro, fdef 30 30 .ro, fdef 15 0 .ro]⟩,
    ⟨0x1400418, 4, 0, 1, 4, 0, 1, 0x0, false,
     [fdef 31 0 .rw]⟩,
    ⟨0x140041c, 4, 0, 1, 4, 0, 1, 0x0, false,
     [fdef 16 16 .wo, fdef 15 0 .wo]⟩,
    ⟨0x1400500, 4, 0, 1, 4, 0, 1, 0x30000, false,
     [fdef 17 0 .rw]⟩,
    ⟨0x1400504, 4, 0, 1, 4, 0, 1, 0x40000, false,
     [fdef 18 0 .rw]⟩,
    ⟨0x1400508, 4, 0, 1, 4, 0, 1, 0x64, false,
     [frange 15 0 1 65535]⟩,
    ⟨0x140050c, 4, 0, 1, 4, 0, 1, 0x0, false,
     [fdef 6 0 .ro]⟩,
    ⟨0x1400510, 4, 0, 1, 4, 0, 1, 0x0, false,
     [fdef 31 31 .rc, fdef 30 30 .rc, fdef 23 16 .rc, fdef 15 0 .rc]⟩,
    ⟨0x1400514, 4, 0, 1, 4, 0, 1, 0x0, false,
     [fdef 16 0 .ro]⟩,
    ⟨0x1400800, 32, 0, 12, 4, 0, 1, 0x0, false,
     [fdef 16 0 .rw]⟩,
    ⟨0x1400804, 32, 0, 12, 4, 0, 1, 0x0, false,
     [fdef 17 3 .rw]⟩ ]
/-- Register tables of block CPLR, part 4. -/
def tableCPLR4 : List RegDef :=
  [ ⟨0x1400808, 32, 0, 12, 4, 0, 1, 0x0, false,
     [fdef 31 0 .rw]⟩,
    ⟨0x140080c, 32, 0, 12, 4, 0, 1, 0x0, false,
     [fdef 31 0 .rw]⟩,
    ⟨0x1400810, 32, 0, 12, 4, 0, 1, 0x0, false,
     [fdef 31 24 .rw, fdef 23 16 .rw, fdef 15 0 .rw]⟩,
    ⟨0x1400814, 32, 0, 12, 4, 0, 1, 0x0, false,
     [fdef 1 1 .wo, fdef 0 0 .wo]⟩,
    ⟨0x1400818, 32, 0, 12, 4, 0, 1, 0x0, false,
     [fdef 31 31 .w1c, fdef 3 0 .ro]⟩,
    ⟨0x1440000, 4, 0, 65536, 4, 0, 1, 0x0, false,
     [fdef 31 0 .rw]⟩ ]
/-- Register tables of block CPLR (R35). -/
def tableCPLR : List RegDef := tableCPLR1 ++ tableCPLR2 ++ tableCPLR3 ++ tableCPLR4
/-- Register tables of block TLM, part 1. -/
def tableTLM1 : List RegDef :=
  [ ⟨0x1500000, 4, 0, 1, 4, 0, 1, 0x0, false,
     [fdef 31 16 .rw, fdef 8 8 .rw, fdef 2 2 .wo, fdef 1 1 .wo, fdef 0 0 .wo]⟩,
    ⟨0x1500004, 4, 0, 1, 4, 0, 1, 0x0, false,
     [fdef 31 31 .ro, fdef 30 30 .ro, fdef 29 29 .w1c, fdef 28 28 .w1c, fdef 27 27 .w1c]⟩,
    ⟨0x1500008, 4, 0, 1, 4, 0, 1, 0x0, false,
     [fdef 31 0 .rw]⟩,
    ⟨0x150000c, 4, 0, 1, 4, 0, 1, 0x0, false,
     [fdef 31 0 .rw]⟩,
    ⟨0x1500010, 4, 0, 1, 4, 0, 1, 0x0, false,
     [fdef 31 0 .ro]⟩,
    ⟨0x1500014, 4, 0, 1, 4, 0, 1, 0x0, false,
     [fdef 31 0 .ro]⟩,
    ⟨0x1500018, 4, 0, 1, 4, 0, 1, 0x0, false,
     [fdef 31 0 .ro]⟩,
    ⟨0x1500020, 4, 0, 1, 4, 0, 1, 0x0, false,
     [fdef 31 0 .rw]⟩,
    ⟨0x1500024, 4, 0, 1, 4, 0, 1, 0x0, false,
     [fdef 31 0 .rw]⟩,
    ⟨0x1500028, 4, 0, 1, 4, 0, 1, 0x8, false,
     [fdef 31 31 .rw, frange 4 0 4 16]⟩,
    ⟨0x150002c, 4, 0, 1, 4, 0, 1, 0x4f0000, false,
     [fdef 23 16 .rw, fdef 7 0 .rw]⟩,
    ⟨0x1500030, 4, 0, 1, 4, 0, 1, 0x0, false,
     [fdef 15 0 .ro]⟩ ]
/-- Register tables of block TLM, part 2. -/
def tableTLM2 : List RegDef :=
  [ ⟨0x1500034, 4, 0, 1, 4, 0, 1, 0x0, false,
     [fdef 15 0 .rw]⟩,
    ⟨0x1500038, 4, 0, 1, 4, 0, 1, 0x0, false,
     [fdef 31 16 .rc]⟩,
    ⟨0x1500040, 4, 0, 1, 4, 0, 1, 0x0, false,
     [fdef 31 0 .rw]⟩,
    ⟨0x1500044, 4, 0, 1, 4, 0, 1, 0x0, false,
     [fdef 31 0 .rw]⟩,
    ⟨0x1500048, 4, 0, 1, 4, 0, 1, 0x7ff00, false,
     [fdef 31 16 .ro, fdef 15 8 .rw, fdef 2 2 .ro, fdef 1 1 .rw, fdef 0 0 .w1s]⟩,
    ⟨0x150004c, 4, 0, 1, 4, 0, 1, 0x0, false,
     [fdef 4 4 .w1c, fdef 3 3 .w1c, fdef 2 2 .w1c, fdef 1 1 .w1c, fdef 0 0 .w1c]⟩,
    ⟨0x1510000, 4, 0, 49152, 4, 0, 1, 0x0, false,
     [fdef 31 0 .ro]⟩ ]
/-- Register tables of block TLM (R35). -/
def tableTLM : List RegDef := tableTLM1 ++ tableTLM2
/-- Register tables of block AGE, part 1. -/
def tableAGE1 : List RegDef :=
  [ ⟨0x1600000, 4, 0, 1, 4, 0, 1, 0xb4, false,
     [fdef 31 31 .w1c, fdef 15 0 .rw]⟩,
    ⟨0x1600004, 4, 0, 1, 4, 0, 1, 0x5007d280, false,
     [fdef 31 20 .rw, fdef 19 10 .rw, fdef 9 0 .rw]⟩,
    ⟨0x1601000, 16, 0, 3072, 4, 0, 1, 0x400, false,
     [fdef 31 16 .ro, fdef 15 0 .ro]⟩,
    ⟨0x1601004, 16, 0, 3072, 4, 0, 1, 0x0, false,
     [fdef 17 16 .ro, fdef 15 0 .ro]⟩,
    ⟨0x1601008, 16, 0, 3072, 4, 0, 1, 0xffff, false,
     [fdef 31 16 .rw, fdef 15 0 .rw]⟩,
    ⟨0x160100c, 16, 0, 3072, 4, 0, 1, 0xffff, false,
     [fdef 17 16 .rw, fdef 15 0 .rw]⟩,
    ⟨0x1610000, 16, 1, 256, 4, 0, 1, 0x28, false,
     [fdef 31 31 .rw, fdef 24 16 .rw, fdef 8 0 .rw]⟩,
    ⟨0x1610004, 16, 1, 256, 4, 0, 1, 0x0, false,
     [fdef 31 31 .ro, fdef 15 0 .ro]⟩,
    ⟨0x1610008, 16, 1, 256, 4, 0, 1, 0x0, false,
     [fdef 31 0 .ro]⟩,
    ⟨0x161000c, 16, 1, 256, 4, 0, 1, 0xffff, false,
     [fdef 15 0 .rw]⟩ ]
/-- Register tables of block AGE (R35). -/
def tableAGE : List RegDef := tableAGE1
/-- Register tables of block HOLD, part 1. -/
def tableHOLD1 : List RegDef :=
  [ ⟨0x1700000, 4, 0, 1, 4, 0, 1, 0x80000014, true,
     [(fdef 31 31 .rw).by 2, (frange 15 0 1 65535).by 2]⟩,
    ⟨0x1700004, 4, 0, 1, 4, 0, 1, 0x32080352, true,
     [(frange 31 24 1 255).by 2, (fdef 23 16 .rw).by 2, (fdef 11 0 .rw).by 2]⟩,
    ⟨0x1700008, 4, 0, 1, 4, 0, 1, 0x0, true,
     [(fdef 31 31 .rw).by 2, (fdef 3 0 .rw).by 2]⟩,
    ⟨0x170000c, 4, 0, 1, 4, 0, 1, 0x0, true,
     [fdef 31 28 .w1c, fdef 27 27 .w1c, fdef 26 26 .w1c, fdef 25 25 .w1c, fdef 23 16 .rc, fdef 2 0 .ro]⟩,
    ⟨0x1700010, 4, 0, 1, 4, 0, 1, 0x0, true,
     [fdef 31 0 .ro]⟩,
    ⟨0x1700014, 4, 0, 1, 4, 0, 1, 0x0, true,
     [fdef 31 0 .ro]⟩,
    ⟨0x1700018, 4, 0, 1, 4, 0, 1, 0x1, true,
     [fdef 5 5 .w1c, fdef 4 4 .w1c, fdef 3 3 .w1c, fdef 2 2 .w1c, fdef 1 1 .w1c, fdef 0 0 .w1c]⟩,
    ⟨0x170001c, 4, 0, 1, 4, 0, 1, 0x0, false,
     [fdef 31 0 .wo]⟩,
    ⟨0x1700020, 4, 0, 1, 4, 0, 1, 0x0, false,
     [fdef 31 0 .rw]⟩ ]
/-- Register tables of block HOLD (R35). -/
def tableHOLD : List RegDef := tableHOLD1
/-- Register tables of block TRC, part 1. -/
def tableTRC1 : List RegDef :=
  [ ⟨0x1800000, 4, 0, 65536, 4, 0, 1, 0x0, false,
     [fdef 31 0 .ro]⟩,
    ⟨0x1a00000, 4, 0, 1, 4, 0, 1, 0x0, false,
     [fdef 2 2 .wo, fdef 1 1 .wo, fdef 0 0 .wo]⟩,
    ⟨0x1a00004, 4, 0, 1, 4, 0, 1, 0x0, false,
     [fdef 6 4 .ro, fdef 1 0 .ro]⟩,
    ⟨0x1a00008, 4, 0, 1, 4, 0, 1, 0x0, false,
     [frange 18 16 0 5, fdef 13 12 .rw, fdef 9 0 .rw]⟩,
    ⟨0x1a0000c, 4, 0, 1, 4, 0, 1, 0x0, false,
     [fdef 31 0 .rw]⟩,
    ⟨0x1a00010, 4, 0, 1, 4, 0, 1, 0x0, false,
     [fdef 11 0 .rw]⟩,
    ⟨0x1a00018, 4, 0, 1, 4, 0, 1, 0x0, false,
     [fdef 31 0 .rw]⟩,
    ⟨0x1a0001c, 4, 0, 1, 4, 0, 1, 0x0, false,
     [fdef 31 0 .rw]⟩,
    ⟨0x1a00020, 4, 0, 1, 4, 0, 1, 0x0, false,
     [fdef 31 0 .ro]⟩,
    ⟨0x1a00024, 4, 0, 1, 4, 0, 1, 0x0, false,
     [fdef 31 0 .ro]⟩,
    ⟨0x1a00100, 16, 0, 8, 4, 0, 1, 0x0, false,
     [fdef 31 31 .rw, frange 30 28 0 5, fdef 27 24 .rw, fdef 23 20 .rw, fdef 19 15 .rw, fdef 9 0 .rw]⟩,
    ⟨0x1a00104, 16, 0, 8, 4, 0, 1, 0x0, false,
     [fdef 31 31 .ro, fdef 11 0 .ro]⟩ ]
/-- Register tables of block TRC, part 2. -/
def tableTRC2 : List RegDef :=
  [ ⟨0x1a00108, 16, 0, 8, 4, 0, 1, 0x0, false,
     [fdef 11 0 .ro]⟩ ]
/-- Register tables of block TRC (R35). -/
def tableTRC : List RegDef := tableTRC1 ++ tableTRC2
/-- Register tables of block DBG, part 1. -/
def tableDBG1 : List RegDef :=
  [ ⟨0x1c00000, 262144, 0, 11, 4, 0, 1, 0x0, false,
     [fdef 2 2 .wo, fdef 1 1 .wo, fdef 0 0 .wo]⟩,
    ⟨0x1c00004, 262144, 0, 11, 4, 0, 1, 0x0, false,
     [fdef 0 0 .ro]⟩,
    ⟨0x1c00008, 262144, 0, 11, 4, 0, 1, 0x0, false,
     [fdef 31 0 .ro]⟩,
    ⟨0x1c0000c, 262144, 0, 11, 4, 0, 1, 0x0, false,
     [fdef 31 17 .rw]⟩ ]
/-- Register tables of block DBG (R35). -/
def tableDBG : List RegDef := tableDBG1
/-- The register tables of the block that holds a window offset (R35). -/
def tableOf (a : Nat) : List RegDef :=
  if a < 0x10000 then tableVL
  else if a < 0x20000 then tablePST
  else if a < 0x30000 then tableMCH
  else if a < 0x40000 then tableCBSE
  else if a < 0x80000 then tableTIM
  else if a < 0x100000 then tableXPH
  else if a < 0x200000 then tableRGN
  else if a < 0x400000 then tableCELL
  else if a < 0x600000 then tableVSN
  else if a < 0x680000 then tableSNS
  else if a < 0x700000 then tableTHM
  else if a < 0x800000 then tableLPE
  else if a < 0x1000000 then tableTTB
  else if a < 0x1100000 then tableODR
  else if a < 0x1180000 then tableREIN
  else if a < 0x1200000 then tableTNDR
  else if a < 0x1300000 then tableSKID
  else if a < 0x1400000 then tablePWR
  else if a < 0x1500000 then tableCPLR
  else if a < 0x1600000 then tableTLM
  else if a < 0x1700000 then tableAGE
  else if a < 0x1800000 then tableHOLD
  else if a < 0x1c00000 then tableTRC
  else tableDBG

/-- Does register table r define the register at window offset a (naturally aligned, R12)? -/
def RegDef.covers (r : RegDef) (a : Nat) : Bool :=
  let d := a - r.base
  decide (r.base ≤ a) && decide (r.f1 ≤ d / r.s1) && decide (d / r.s1 < r.n1) &&
    decide (r.f2 ≤ d % r.s1 / r.s2) && decide (d % r.s1 / r.s2 < r.n2) && decide (d % r.s1 % r.s2 < 4)

/-- The register table that defines window offset a; none where no register is defined (R14). -/
def regDef? (a : Nat) : Option RegDef := (tableOf a).find? (·.covers a)

end Sys2Proof.Machine
end

