-- ==== Sys2Proof/Machine/State.lean ====
section
/-! DEFINITION. Machine/State.lean: everything the spec gives one instance, as plain data. Every register and window
memory of R35 stands in `regs`, sparse and in one canonical form over the reset words of Machine/Regs.lean; what the
chapters describe beside the window (targets held in a cell, queues, timers, store buffers, latches of the AON island)
stands in one structure per block. -/

namespace Sys2Proof.Machine

/-- Why a step stops with a fault. No command of the table ends in one: every row has an effect. -/
inductive Fault where
  /-- Raised by no meaning; the type needs a value. Safe. -/
  | unreachable
  deriving DecidableEq, Repr

/-- Why a command is refused. -/
inductive Refusal where
  /-- Raised by exec's arms for a command that has no meaning yet. Safe. -/
  | notModelled (mnemonic : String)
  deriving DecidableEq, Repr

/-- The eFuse shadow: values programmed at assembly, kept in AON (R28, R61). -/
structure Efuse where
  /-- instance number (VL_ID.INST) -/
  inst : Nat := 0
  /-- silicon stepping (VL_ID.STEP) -/
  step : Nat := 0
  /-- factory trims of the sense converters, one word per converter k (SNS_TRIM, R437) -/
  snsTrim : Map Word := []
  /-- factory offset trims of the thermal sensors (THM_SCTL.OFS, R460) -/
  thmOfs : Map Nat := []
  /-- anti-rollback fuses blown (FW_STAT.FUSED) -/
  fused : Nat := 0
  /-- SHA-384 of the public key of each slot (KEYHASH, R536) -/
  keyHash : Map Nat := []
  /-- revoke fuses blown, one bit per key slot (R536) -/
  revoked : Nat := 0
  deriving DecidableEq, Repr

/-- A write of words to host memory by a Velol DMA engine or as an MSI (R27). -/
structure HostWrite where
  addr : Nat
  data : List Word
  deriving DecidableEq, Repr
/-- Time base state beside the window (R49..R57, R674, R481). -/
structure TimSt where
  /-- slew steps not yet made, signed (R54) -/
  slewLeft : Int := 0
  /-- CKF edges since the slew's request or last step (R56) -/
  slewEdges : Nat := 0
  /-- CKF edges so far, and how many of them the edge counters of Reins and Skid have taken in -/
  edges : Nat := 0
  counted : Nat := 0
  /-- CKS rises at CKF edges whose count is even when this is 0 and odd when it is 1 (R39, R45) -/
  cksPar : Nat := 0
  /-- the window as it stood when the present CKF cycle began: what differs now was set or written in this cycle (R18) -/
  cycle : Map Word := []
  /-- the lock detector holds the safe-state inputs (R43): set at loss of lock or orderly stop, released at relock -/
  lockSafe : Bool := false
  /-- loss of lock was declared and its PLL_UNLOCK is still to be latched by Caboose (R481) -/
  unlockDue : Bool := false
  /-- the PLL has relocked and no base tick has fallen since (R208, R306) -/
  relocked : Bool := false
  /-- TS at which loss of lock was declared (R481), kept in AON -/
  unlockTs : Dword := 0
  /-- floor(TS / 100) at the last base tick, or at the relock since (R204, R208) -/
  frame : Nat := 0
  deriving DecidableEq, Repr
/-- A tie between the tiles of cells lo < hi, and the TS from which it is closed (R68, R69). -/
structure Tie where
  lo : Nat
  hi : Nat
  since : Nat
  deriving DecidableEq, Repr

/-- The minimum trees' and current sums' pipelines (R151, RGN_ISUM). -/
structure SeaSt where
  /-- TS of the last CKS edge whose samples are in the registers -/
  t : Dword := 0
  /-- sums of CELL_IMEAS.I by region formed at that edge and at the one before -/
  sum1 : Map Int := []
  sum2 : Map Int := []
  /-- CKS cycles up to the last CKS edge whose samples are in the registers -/
  cks : Nat := 0
  /-- closed ties, and those that are about to close (R68, R69) -/
  ties : List Tie := []
  deriving DecidableEq, Repr
/-- A cell target (R70..R75). -/
structure Target where
  ratio : Nat := 4
  blend : Nat := 0
  fcode : Nat := 0
  vt : Nat := 0x28
  spmask : Nat := 0
  deriving DecidableEq, Repr

/-- Why a cell pre-charges (R99). -/
inductive Precharge where
  | none | region | join | spare
  deriving DecidableEq, Repr

/-- What a cell was before the last command that took effect on it (R104): the CKS cycle of the command, STATE, CAUSE, the
live entry and the pending entry. -/
structure CellUndo where
  cks : Nat
  st : Nat
  cause : Nat
  live : Nat
  entry : Option Nat
  deriving DecidableEq, Repr

/-- State of one cell beside its registers. -/
structure CellHid where
  /-- excess-charge integrator EXQF (R87) -/
  exqf : Nat := 0
  /-- the most recent target received (R76) -/
  want : Target := {}
  /-- pre-charge in progress (R99) -/
  pre : Precharge := .none
  /-- pending Cell Map entry (R100) -/
  entry : Option Nat := Option.none
  /-- OP of the command in progress (R103): 2 JOIN, 3 RECOUPLE, 0 none -/
  cmd : Nat := 0
  /-- FCODE_EFF that the current limit holds (R86), when ILIM is 1 -/
  limFcode : Nat := 0
  /-- runs of CKS samples in progress, by the CKS cycle of their first sample: 3 j + cause - 1 for sensor j (R94), 12 at or
  above 0.75 A, 13 at or below -0.10 A (R107) -/
  runs : Map Nat := []
  /-- the last command that took effect (R104) -/
  undo : Option CellUndo := Option.none
  /-- CKS cycle of the last failure detected (R104, R107) -/
  failAt : Option Nat := Option.none
  /-- the bias supply has failed in TEST, and stands so (R107) -/
  biasBad : Bool := false
  deriving DecidableEq, Repr
/-- State of one region beside its registers. -/
structure RgnHid where
  /-- ramp reference in 0.25 mV units (R139) -/
  ref : Nat := 0
  /-- the ramp has not yet met its first tick (R139) -/
  first : Bool := false
  /-- I_CEIL in 1/32 current codes (R139) -/
  iceil : Int := 0
  /-- headroom-loop trim, voltage codes (R21, R232) -/
  trim : Int := 0
  /-- the bound generator is still to be loaded at the first tick of ON (R242) -/
  pgLoad : Bool := false
  /-- TS of the sample that VSN_MINV records (R153) -/
  minvTs : Dword := 0
  /-- OP of the command that takes effect at the next region loop tick (R132, R134); 0 none -/
  cmd : Nat := 0
  /-- CKS cycle in which a command last took effect (R135) -/
  cmdAt : Option Nat := none
  /-- CKS cycle of the last entry into FAULTED, and the state before it (R148) -/
  faultAt : Option Nat := none
  faultFrom : Nat := 0
  /-- consecutive valid minima at or above the ramp's target less 20 mV, up to 16 (R141) -/
  good : Nat := 0
  /-- TS of the first valid minimum of the run below the ramp reference less 100 mV (R142) -/
  lag : Option Nat := none
  /-- TS from which the ramp reference has equalled its target (R142) -/
  flat : Option Nat := none
  /-- CKS cycle from which a quarter of the ACTIVE cells have been at their limit (R142) -/
  short : Option Nat := none
  /-- CKS cycle from which the tree has been empty (R148) -/
  blind : Option Nat := none
  deriving DecidableEq, Repr

/-- What a commit or revert is doing (R123..R128). -/
inductive CfgPhase where
  | idle | validating | waiting | reverting
  deriving DecidableEq, Repr
/-- The command on a three-level FS_PWM line (R160). -/
inductive Pwm where
  | hiZ | low | high
  deriving DecidableEq, Repr

/-- State of one front-stage phase beside its registers; edges are counted in CKX ticks (R178..R184). -/
structure PhHid where
  /-- FS_PWM[p] (R160) -/
  pwm : Pwm := .hiZ
  /-- CKX edge at which the on-time in progress, or the last one, began -/
  start : Nat := 0
  /-- on-time that the last trigger gave the phase, CKX ticks (R178) -/
  ton : Nat := 0
  /-- CKX edge at which the last on-time ended (R180) -/
  ended : Option Nat := none
  /-- consecutive on-times ended by ILIM (R196) -/
  ilimRun : Nat := 0
  /-- consecutive conversions at or above OT (R196) -/
  otRun : Nat := 0
  /-- consecutive TMON conversions at code 16,320 or more (R196) -/
  stageRun : Nat := 0
  /-- consecutive conversions at or below -40 A while ACTIVE (R196) -/
  imonRun : Nat := 0
  /-- code of the last TMON conversion (R199) -/
  tmon : Nat := 0
  /-- crowbarred: driven low from the over-voltage until release (R193) -/
  crow : Bool := false
  deriving DecidableEq, Repr

/-- Front-stage state beside the window. -/
structure XphSt where
  /-- ripple accumulator A (R179) -/
  acc : Int := 0
  /-- VIM reference in 0.05 mV units: one VIM code is 25 (R171, R174) -/
  ref : Nat := 0
  /-- the 20 microseconds after START are over: the reference ramps and phases may be added (R171) -/
  refOn : Bool := false
  /-- phase last triggered (R180) -/
  last : Option Nat := none
  /-- CKX edge of the previous trigger (R180) -/
  lastTrig : Option Nat := none
  /-- a shed dwell is running (R188) -/
  dwell : Bool := false
  /-- a hold after a load step is running (R189) -/
  hold : Bool := false
  /-- phases made ACTIVE by a cancellation or add that have not fired yet, in firing order (R191) -/
  back : List Nat := []
  /-- P, the latest period of FS_SYNC_IN, CKX ticks (R183) -/
  period : Nat := 0
  /-- slot triggers still due: phase and CKX edge (R184) -/
  slots : List (Nat × Nat) := []
  /-- sync was lost since the last lock (R186) -/
  lostSync : Bool := false
  /-- the present latch arose while a region was neither OFF nor FAULTED (R200) -/
  loaded : Bool := false
  /-- TS of the OCP latches of the last 10 microseconds (R197) -/
  ocp : List Nat := []
  /-- triggers since the start of the present 16 microsecond window (R229) -/
  trigs : Nat := 0
  /-- index of the present window -/
  win : Nat := 0
  /-- the front stage has been in RUN with MODE = FREE since that start -/
  whole : Bool := false
  /-- FMEAS of the latest complete window of this RUN, kHz (R229) -/
  fmeas : Option Int := none
  /-- TS of the first of the present run of V12 readings above 14.0 V (R197) -/
  vinOv : Option Nat := none
  /-- CKF edges that the ripple accumulator has taken in (R179) -/
  ripEdges : Nat := 0
  /-- TS from which the combined reading has been within 50 mV of the reference (R172), below the no-rise level (R173), and
  below the under-voltage level (R197) -/
  near : Option Nat := none
  low : Option Nat := none
  under : Option Nat := none
  /-- consecutive conversions of sense point i that disagree with the other points (R176) -/
  ptRun : Map Nat := []
  /-- the latest periods of FS_SYNC_IN, up to 8, oldest first (R183) -/
  periods : List Nat := []
  /-- what XPH_CFG held before writes that apply at the next trigger (R203) -/
  cfgWas : Option Word := none
  /-- ISEA from the CKS cycle given on, newest first, as far back as 64 cycles (R189) -/
  isea : List (Nat × Int) := []
  deriving DecidableEq, Repr
/-- Loop Engine state of one descriptor beside its words. -/
structure LoopHid where
  /-- output computed at the last tick and not yet applied (R207) -/
  pend : Option Int := none
  /-- output last applied since the loop was last enabled by a commit (R228, LOUT) -/
  applied : Option Int := none
  /-- the last tick was skipped (R230, R231) -/
  skipped : Bool := false
  /-- no tick has fallen since a commit changed the live header (R231) -/
  fresh : Bool := false
  /-- BAL: outputs not yet applied, by channel -/
  balPend : Map Int := []
  /-- BAL: bit p, channel p skipped its last tick -/
  balSkip : Nat := 0
  deriving DecidableEq, Repr

/-- Loop Engine state beside the window. -/
structure LpeSt where
  /-- the commit or revert in progress (R210..R213); waiting: validated, due at the next base tick -/
  phase : CfgPhase := .idle
  deriving DecidableEq, Repr

/-- Trace state of one channel beside its registers. -/
structure TrcCh where
  /-- occasions since ARM (R244) -/
  occ : Nat := 0
  /-- entries recorded since the trigger (R246) -/
  since : Nat := 0
  /-- value of the previous record (R247) -/
  prev : Option Int := none
  /-- TS of the last record's occasion (R248) -/
  lastTs : Option Nat := none
  deriving DecidableEq, Repr
/-- A marker waiting in the queue (R260, R261). -/
structure Marker where
  marker : Nat
  cp : Nat
  /-- T_m -/
  tm : Nat
  /-- the Outrider set that R305 gives this marker -/
  snap : List Word
  deriving DecidableEq, Repr

/-- A half-open window on TS (R5, R276). -/
structure TsWindow where
  start : Nat
  stop : Nat
  deriving DecidableEq, Repr

/-- An entry in the action queue (R274). -/
structure FAct where
  /-- KIND (R256) -/
  kind : Nat
  /-- DI_eff (R272) -/
  di : Int
  /-- SLOPE of a RAMP -/
  slope : Nat
  /-- the region set, resolved at activation (R259) -/
  regions : List Nat
  /-- T_land (R273) -/
  land : Nat
  phase : Option TsWindow
  current : Option TsWindow
  bump : Option TsWindow
  /-- leg tag of a LEG entry -/
  leg : Nat
  /-- base ticks of the current window so far (R279) -/
  ticks : Nat
  /-- TS from which the slot is free; a LEG entry's is freed by its landing tick -/
  stop : Nat
  deriving DecidableEq, Repr

/-- A marker presented at the port and not yet accepted (R260). -/
structure PortMarker where
  /-- the CKF edge at which it was presented -/
  edge : Nat
  cp : Nat
  marker : Nat
  deriving DecidableEq, Repr

/-- A group whose entries are being activated (R271). -/
structure GroupRun where
  /-- the entry activated next -/
  next : Nat
  /-- the last entry of the group -/
  last : Nat
  /-- the CKF edge at which `next` is activated -/
  edge : Nat
  /-- the activating marker -/
  marker : Marker
  deriving DecidableEq, Repr

/-- Forecast path state beside the window. -/
structure TtbSt where
  /-- the marker queue, oldest first -/
  queue : List Marker := []
  /-- markers that wait at the port (R260) -/
  port : List PortMarker := []
  /-- the first CKF edge at which the port accepts again -/
  portEdge : Nat := 0
  /-- the activation in progress (R271, R675) -/
  run : Option GroupRun := none
  /-- the action queue, in order of activation -/
  acts : List FAct := []
  /-- the sync directory: marker and entry index (R267) -/
  dir : List (Nat × Nat) := []
  /-- a directory build after ARM is running (R270) -/
  arming : Bool := false
  /-- words 0 and 2 that entries held before writes made while a build runs, in order of the writes (R270) -/
  olds : List (Nat × Word × Word) := []
  /-- Timetable transfer: next index and entries left (R285) -/
  dmaNext : Nat := 0
  dmaLeft : Nat := 0
  /-- its next host address -/
  dmaSrc : Nat := 0
  /-- the first CKF edge at which the transfer may write again (R676) -/
  dmaEdge : Nat := 0
  /-- TS of the last accepted forecast marker (R296, SINCE) -/
  lastFc : Option Nat := none
  deriving DecidableEq, Repr
/-- Outrider state beside the window. -/
structure OdrSt where
  /-- outputs of the run sampled at the last run tick and not yet published (R304) -/
  run : Option (List Word) := none
  /-- TS of the last publication (R305) -/
  pubAt : Nat := 0
  /-- the set published before the present one (R305) -/
  before : List Word := []
  /-- engine events of the latest base frames, newest first: the frame, and key 4 * g + class with its count (R298) -/
  egHist : List (Nat × List (Nat × Nat)) := []
  /-- a weight transfer: words, first byte offset written and host address, as GO found them (R309) -/
  dmaLeft : Nat := 0
  dmaDst : Nat := 0
  dmaSrc : Nat := 0
  deriving DecidableEq, Repr
/-- Skid state of one region beside its registers (R330..R332). -/
structure SkidHid where
  /-- WIN of the windows in force, microseconds -/
  win : Nat := 0x64
  /-- between the end of the last old window and the first of a new length -/
  gap : Bool := false
  /-- LEVEL rose in this window -/
  rose : Bool := false
  /-- CKF edges passed when the window began, and the TS of its start -/
  start : Nat := 0
  since : Nat := 0
  /-- CKS edges with a request at or after the end of a window whose end is still to be worked -/
  ahead : Nat := 0
  /-- the request on the lines (R318, R325) -/
  line : Nat := 0
  /-- requests decided and not yet on the lines, oldest first: CKS cycle of the decision, request, TS of the sample -/
  due : List (Nat × Nat × Nat) := []
  /-- what SKID_CFG, SKID_MAP and SKID_ESC held before a write that applies from the next CKS edge, and the CKS cycle of
  that write (R328) -/
  cfgWas : Option (Nat × Word) := none
  mapWas : Option (Nat × Word) := none
  escWas : Option (Nat × Word) := none
  deriving DecidableEq, Repr
/-- A barrier notice given to Tender (R282, R346). -/
structure Notice where
  /-- the notice is a BARRIER_OUT -/
  out : Bool
  /-- T_land -/
  land : Nat
  /-- DI_eff -/
  di : Int
  regions : List Nat
  /-- pre-warm window of a BARRIER_OUT -/
  window : TsWindow
  /-- base ticks of the window so far -/
  ticks : Nat := 0
  deriving DecidableEq, Repr

/-- Tender state beside the window. -/
structure TndrSt where
  /-- IFL with 16 fraction bits (R348) -/
  ifl : Nat := 0
  /-- the filler-energy accumulator (R351) -/
  efil : Nat := 0
  /-- regions ON or LAME at the last base tick and their RGN_ISUM (R347) -/
  members : List (Nat × Int) := []
  /-- notices that stand (R346) -/
  notices : List Notice := []
  /-- T_land of the last BARRIER_IN notice that reached it, by region (R345) -/
  landed : Map Nat := []
  /-- E terms still contributing and the base ticks left to them (R346) -/
  eTerms : List (Nat × Nat) := []
  /-- TS of the last program operation that a group issued (R345) -/
  lastIssue : Map Nat := []
  /-- groups reported to have issued none for IDLE_WIN CKF cycles (R345) -/
  idle : List Nat := []
  deriving DecidableEq, Repr
/-- A move of a region between operating points (R363..R366). -/
structure Move where
  up : Bool
  /-- t_n -/
  dest : Nat
  /-- TS of the write that started it -/
  since : Nat
  deriving DecidableEq, Repr

/-- Policy state of one region beside its registers. -/
structure PwrRgn where
  /-- the pending move -/
  move : Option Move := none
  /-- accumulator of R373, modulo 2^64, and what it held at the last 1 microsecond and 10 ms boundaries -/
  re : Nat := 0
  re1 : Nat := 0
  reCal : Nat := 0
  /-- sums of the calibration window: X0..X3 and XS (R375) -/
  xs : List Nat := []
  deriving DecidableEq, Repr

/-- Waybill weights and counts of one engine group over the present interval (R388, R390). -/
structure WblGrp where
  d : Nat := 0
  f : Nat := 0
  st : Nat := 0
  /-- base ticks with N_g below 64 -/
  limt : Nat := 0
  /-- the group's region was LAME -/
  lame : Bool := false
  deriving DecidableEq, Repr

/-- Power policy and Waybill state beside the window. -/
structure PwrSt where
  /-- operating-point validation is running (R360) -/
  checking : Bool := false
  /-- FIXED as of the last base tick (R370) -/
  fixed : Bool := false
  /-- E_IN (R374), modulo 2^64; kept by instance reset -/
  ein : Nat := 0
  /-- the sum of all increments of R373, for ΔS of R379 -/
  sum : Int := 0
  /-- E_IN and the sum at the last cap boundary and at the last Waybill boundary -/
  einCap : Nat := 0
  sumCap : Int := 0
  einIvl : Nat := 0
  sumIvl : Int := 0
  /-- MEAS_BAD was set in the cap window, in the Waybill interval -/
  badCap : Bool := false
  badIvl : Bool := false
  /-- quiet windows counted by the stepper (R382) -/
  under : Nat := 0
  /-- the share to use from the next boundary (R380) -/
  next : Option Nat := none
  /-- a share is due at the next boundary, and how many in a row were missing (R381) -/
  due : Bool := false
  missed : Nat := 0
  /-- instance 0: the shares of the last boundary are still to be computed, and the reports received for it -/
  sharesDue : Bool := false
  got : Map Nat := []
  /-- the fraction of a microjoule carried to the next interval, in units of E_IN (R389) -/
  carry : Nat := 0
  /-- TS at which the present interval started -/
  ivlStart : Nat := 0
  /-- TS of the last 1 µs, 10 ms and cap-window boundary made -/
  estAt : Nat := 0
  calAt : Nat := 0
  capAt : Nat := 0
  /-- cap conditions at the boundaries of the interval (R390, FLAGS) -/
  capped : Bool := false
  unattain : Bool := false
  boost : Bool := false
  lost : Bool := false
  /-- sum of the values M_i used in this epoch's cap windows, and l at or above 1 at one of its boundaries (R413) -/
  mEpoch : Nat := 0
  lEpoch : Bool := false
  /-- leg tags in force at base ticks of the interval, one bit each -/
  legs : Nat := 0
  /-- live tag of each slot in its previous interval -/
  prevTag : Map Nat := []
  deriving DecidableEq, Repr
/-- A share sent to an instance over the package sideband (R380), with the terms that instance mirrors (R378). -/
structure ShareMsg where
  dest : Nat
  share : Nat
  /-- P_PKG -/
  cap : Nat
  /-- PWR_PKG and PWR_PKG_BMC -/
  pkg : Word
  bmc : Word
  envEn : Bool
  pg : Nat
  deriving DecidableEq, Repr
/-- Coupler state of one endpoint beside its registers (R400, R402, R404). -/
structure CplrEp where
  /-- the host link layer reports the route up, or the other end of a sideband endpoint is out of reset -/
  up : Bool := false
  /-- epoch of the last HELLO received and sent -/
  helloIn : Option Nat := none
  helloOut : Option Nat := none
  /-- an HB has come in the present epoch -/
  hb : Bool := false
  /-- consecutive epochs with an HB, the present one included once it has come -/
  run : Nat := 0
  deriving DecidableEq, Repr

/-- A group slot as it stands in the present epoch (R417), and its pending pairs (rate, E) (R421). -/
structure CplrSlot where
  en : Bool := false
  alone : Bool := false
  gid : Nat := 0
  gmask : Nat := 0
  pairs : List (Nat × Nat) := []
  deriving DecidableEq, Repr

/-- An entry of the aggregation table (R419). -/
structure AggEntry where
  gid : Nat
  /-- contributions other than 64: key x for slot x, 4 + e for endpoint e -/
  rates : Map Nat
  /-- the least contribution last announced -/
  least : Nat
  /-- the latest COCAP passed down: rate and epoch -/
  down : Option (Nat × Nat)
  deriving DecidableEq, Repr

/-- An envelope point (R411). -/
structure EnvPoint where
  epoch : Nat
  frac : Nat
  fleet : Bool
  deriving DecidableEq, Repr

/-- A held COMMIT (R427). -/
structure HeldCommit where
  seq : Nat
  off : Nat
  be : Nat
  lo : Word
  hi : Word
  /-- TS of its arrival -/
  since : Nat
  deriving DecidableEq, Repr

/-- An open remote-write window (R427, R428). -/
structure RwWindow where
  peer : Nat
  win : Nat
  /-- SEQ of the writes landed -/
  landed : List Nat
  held : Option HeldCommit
  /-- TS of the last arrival -/
  last : Nat
  deriving DecidableEq, Repr

/-- Coupler state beside the window. -/
structure CplrSt where
  /-- instants of the SYNC exchange in progress (R406): t1, t2, t3 -/
  sync : Option (Nat × Nat × Nat) := none
  /-- pending envelope points, by epoch (R412), and the epoch of the current one -/
  env : List EnvPoint := []
  envEpoch : Nat := 0
  /-- TS of the last epoch boundary and the last envelope-window boundary made -/
  epochAt : Nat := 0
  envAt : Nat := 0
  /-- aggregation table -/
  agg : List AggEntry := []
  /-- issue sequence of emergency caps (R422) -/
  emSeq : Nat := 0
  /-- open windows, and those closed INCOMPLETE with the SEQ of their COMMIT: (peer, WIN, n) (R428) -/
  wins : List RwWindow := []
  late : List (Nat × Nat × Nat) := []
  /-- completion records, oldest first: RXC0 word and peer -/
  recs : List (Word × Nat) := []
  /-- peer of the record that each requester last read -/
  rxPeer : Map Nat := []
  /-- queued remote writes by requester code, oldest first (R425) -/
  tx : Map (List (List Word)) := []
  /-- sums over the present 100 ms window (R415): package power of its epochs (10 M each), targets, and whether every
  epoch was constrained -/
  winM : Nat := 0
  winT : Nat := 0
  winOk : Bool := true
  deriving DecidableEq, Repr
/-- A Coupler message (R401) sent on an endpoint, or routed by destination (RWRITE). -/
structure CplrMsg where
  ep : Option Nat
  words : List Word
  deriving DecidableEq, Repr
/-- A slot in progress on a sense converter (R432): its channel, whether an urgent request or which check it carries out,
and the TS of its base tick. -/
structure SnsSlot where
  ch : Nat
  urgent : Bool
  /-- 0 no check; 1 + m: the check slot with f mod (8 PER) = m (R448) -/
  chk : Nat
  start : Nat
  deriving DecidableEq, Repr

/-- State of one sense converter beside its registers. -/
structure SnsConv where
  cur : Option SnsSlot := none
  /-- urgent requests, oldest first (R445) -/
  urg : List Nat := []
  /-- channel that the scan last converted (R442) -/
  last : Option Nat := none
  /-- pattern pointer (R443) -/
  ptr : Nat := 0
  /-- pre-selector positions, bit i for input i (R434) -/
  pos : Nat := 0
  /-- VCHK code of the present check period, until its ZERO (R449) -/
  vchk : Option Nat := none
  /-- the latest pair check slot (R450): the TS of its base tick and its code -/
  pair : Option (Nat × Nat) := none
  /-- consecutive check periods in which the pair whose first converter this is disagreed, and agreed (R450) -/
  dis : Nat := 0
  agr : Nat := 0
  /-- TS at which the reference that settles has settled (R440) -/
  settle : Option Nat := none
  deriving DecidableEq, Repr

/-- State of a window comparator beside its registers (R453, R455). -/
structure SnsComp where
  /-- the last out-of-band result lay above HI -/
  high : Bool := false
  /-- out-of-band results in the present duty window -/
  duty : Nat := 0
  /-- length of the duty windows in force, µs; 0 none -/
  win : Nat := 0
  /-- a TS in the present duty window -/
  since : Nat := 0
  /-- TS of the boundary at which a length written since comes into force -/
  turn : Nat := 0
  deriving DecidableEq, Repr

/-- Sense-converter state beside the window. -/
structure SnsSt where
  /-- cause of each result converted since reset or relock, by 48 k + ch: 0 or SETTLING (R441) -/
  base : Map Nat := []
  /-- the cause of every other result: NEVER, or STOPPED after a relock (R433) -/
  other : Nat := 7
  deriving DecidableEq, Repr
/-- Thermal state of one sensor beside its registers (R464). -/
structure ThmSensor where
  /-- raw count of the last measurement that yielded one, and how many in a row gave it -/
  raw : Option Nat := none
  same : Nat := 0
  /-- measurements in a row out of range or without a count -/
  range : Nat := 0
  /-- sweeps in a row that disagree with the group -/
  apart : Nat := 0
  deriving DecidableEq, Repr

/-- Thermal state of one sensor group beside its registers (R461, R462). -/
structure ThmGroup where
  /-- position of the sensor being measured; 8: all are measured and the sweep ends; none: idle -/
  pos : Option Nat := none
  /-- CKF edge at which the present measurement began, as tim.edges counts them (R460) -/
  start : Nat := 0
  /-- firmware demanded the sweep in progress -/
  fw : Bool := false
  pending : Bool := false
  /-- firmware demanded the pending sweep -/
  fwNext : Bool := false
  /-- TS of the last demand, and its sources in that CKF cycle: bit 0 guard, 1 Loop Engine tick, 2 firmware, 3 shutdown -/
  demAt : Nat := 0
  demBy : Nat := 0
  deriving DecidableEq, Repr

/-- Thermal state of the die (R471..R473). -/
structure ThmSt where
  /-- TS of the last entry to SHUTDOWN -/
  sd : Nat := 0
  /-- the die has drained in this SHUTDOWN -/
  drained : Bool := false
  /-- guard period in force, µs; a TS in the present guard window; the boundary at which a period written since applies (R461) -/
  guard : Nat := 200
  guardAt : Nat := 0
  guardTurn : Nat := 0
  deriving DecidableEq, Repr
/-- Caboose state beside the window. -/
structure CbseSt where
  /-- EVENT pins asserted since the last sample, by bit, one entry per pulse (R479) -/
  pulses : List Nat := []
  /-- the CKF cycle of each of them, as tim.edges counts: a pin is asserted once in a cycle -/
  pulseAt : List Nat := []
  /-- unit and host address of the first DMA error not yet latched (R500) -/
  dma : Option (Nat × Nat) := none
  /-- words known to hold an uncorrectable error: memory m and byte offset of the 64-bit word (R495, R496) -/
  bad : List (Nat × Nat) := []
  /-- byte offset of the word that the scrubber of memory m reads next (R497) -/
  scrub : Map Nat := []
  /-- CKF edge from which the scrubber of memory m may make its next read, as tim.edges counts (R497) -/
  scrubAt : Map Nat := []
  deriving DecidableEq, Repr
/-- A Freeze whose unload runs (R510, R511). -/
structure FreezeRun where
  /-- CKF edges passed at the capture edge -/
  edge : Nat
  /-- captured rows 1..15 and headers without SEQ, by word of the shadow; words not listed are 0 -/
  image : Map Word
  /-- an export follows the unload (R516) -/
  exports : Bool
  deriving DecidableEq, Repr

/-- What an ageing window has gathered for one cell (R520, R521). -/
structure AgeAcc where
  /-- samples that entered, their sum N in mV, and their sum D in mV, which is open once no region loop gave the constants -/
  n : Nat := 0
  num : Rat := 0
  den : Rat := 0
  bare : Bool := false
  /-- samples with all four sensors included, and the sums of v_j minus the median of the other three, mV -/
  k : Nat := 0
  d : List Int := [0, 0, 0, 0]
  deriving DecidableEq, Repr

/-- Telemetry state beside the window: Freeze, exports, and the counters of R506. -/
structure TlmSt where
  /-- the unload in progress -/
  run : Option FreezeRun := none
  /-- a ring export is in progress -/
  exporting : Bool := false
  /-- the armed time (R508), and TS had reached it at the ARM or while the PLL was not locked (R509) -/
  armed : Option Nat := none
  late : Bool := false
  /-- a LOCAL request made while the PLL was not locked -/
  localDue : Bool := false
  /-- channels of the trace export in progress (R518), and an ARM held until it ends (R519) -/
  trxMask : Nat := 0
  armDue : Bool := false
  /-- host address that the trace export in progress writes to (R518) -/
  trxBase : Nat := 0
  /-- CKS cycle at which the ageing window began, and what it and the one after it have gathered, by cell (R520) -/
  ageAt : Nat := 0
  age : Map AgeAcc := []
  ageNext : Map AgeAcc := []
  /-- EGC[c] of group g, by 4 g + c -/
  egc : Map Nat := []
  /-- QOUT, NILIM and NFOLD by cell -/
  qout : Map Int := []
  nilim : Map Nat := []
  nfold : Map Nat := []
  /-- NTRIG and NLIMT by phase -/
  ntrig : Map Nat := []
  nlimt : Map Nat := []
  deriving DecidableEq, Repr
/-- A store in a core's store buffer (R555, R559): address, bytes. -/
structure BufStore where
  addr : Nat
  data : List (BitVec 8)
  deriving DecidableEq, Repr

/-- An LR reservation (R570): its 64-byte line and the CKF edges passed at the LR. -/
structure Reservation where
  line : Nat
  since : Nat
  deriving DecidableEq, Repr

/-- State of a firmware core beside its registers (R529, R549, R555, R570). -/
structure CoreSt where
  /-- address at which it runs from its release, or stopped -/
  pc : Word := 0
  /-- store buffer, oldest first -/
  buf : List BufStore := []
  resv : Option Reservation := none
  /-- TS from which its watchdog counts on: its last kick or release, or the end of a pause -/
  kicked : Nat := 0
  /-- ticks that its watchdog counted before that (R549) -/
  wdog : Nat := 0
  /-- its watchdog holds it until SEC reloads it (R549) -/
  reload : Bool := false
  /-- cause of the last exception it raised: 2 illegal instruction, 7 store/AMO access fault; 0 none -/
  exc : Nat := 0
  deriving DecidableEq, Repr

/-- A line of a group cache (R557). -/
structure CacheLine where
  /-- address / 64 -/
  line : Nat
  data : List (BitVec 8)
  /-- one bit per byte -/
  dirty : Nat
  /-- cores that stored to it since it was last clean -/
  writers : Nat
  /-- CKF edges passed when it last stopped being clean (R558) -/
  since : Nat
  deriving DecidableEq, Repr

/-- Firmware state beside the window (R532..R550). -/
structure FwSt where
  /-- bytes of the serial flash on instance 0 that are not erased (R532) -/
  flash : Map (BitVec 8) := []
  /-- the slot being loaded and hashed, and whether it is the second tried (R537) -/
  loading : Option (Nat × Bool) := none
  /-- failed pushes on instances 1..3 (R539) -/
  pushFails : Nat := 0
  /-- instances 1..3: the image last pushed to this one, from which SEC reloads a core -/
  pushed : Map (BitVec 8) := []
  /-- length given by STAGE_BEGIN, and VERSION and SVN of the verified staged image (R543) -/
  staged : Option Nat := none
  verified : Option (Word × Nat) := none
  /-- an activation has started and its firmware reset is due (R546) -/
  resetDue : Bool := false
  /-- TS from which no Class 0 condition has stood (R544) -/
  quiet : Nat := 0
  /-- conditions of instances 1..3 as reported to instance 0, and the report last sent by this one (R545) -/
  pkg : Map Nat := []
  sent : Nat := 0
  /-- TS of SCH's last write of FW_HB -/
  hbAt : Nat := 0
  /-- the host has kicked in the present period (R550) -/
  kick : Bool := false
  /-- TS up to which the host periods have been counted (R550) -/
  hostAt : Nat := 0
  deriving DecidableEq, Repr

/-- A Yutre command's header and its reply, kept for a repeated sequence number (R623). -/
structure YutreSeen where
  sndr : Nat
  /-- member id of a peer -/
  member : Nat
  ch : Nat
  seq : Nat
  reply : List Word
  deriving DecidableEq, Repr
/-- Postilion state beside the window. -/
structure PstSt where
  /-- doorbells written on the internal port and through PST_DOORBELL, not yet accepted (R581, R582) -/
  port : List Nat := []
  /-- Class 0 sources active on the shared paths (R32): 1..1023 interrupts -/
  c0 : List Nat := []
  /-- open mask windows: source and CKF edges passed when it opened (R598) -/
  windows : List (Nat × Nat) := []
  /-- TS at which the open window of a coalescing group began (R595) -/
  t1 : Map Nat := []
  /-- CKF edges passed at the last acceptance, the doorbells accepted at that edge, and whether one of them was an edge latch's
  (R582, R603) -/
  takenAt : Nat := 0
  taken : Nat := 0
  latchTaken : Bool := false
  deriving DecidableEq, Repr
/-- PMBus status bytes (R629) and the alert line (R630). -/
structure SmbSt where
  vout : Nat := 0
  iout : Nat := 0
  input : Nat := 0
  temp : Nat := 0
  cml : Nat := 0
  mfr : Nat := 0
  /-- the target drives SMBALERT# low (R630) -/
  alert : Bool := false
  deriving DecidableEq, Repr
/-- What holds the resets asserted (R634, R635, R665). -/
structure RstSt where
  /-- power-on reset -/
  por : Bool := true
  /-- VL_RST_N is low -/
  pin : Bool := false
  /-- the host TAP holds EXTEST, CLAMP or HIGHZ -/
  scan : Bool := false
  /-- the 127 cells of the boundary-scan segment, cell i at bit i (R664) -/
  cells : BitVec 127 := 0
  /-- TS of a write of 0x0000_5A01 to HOLD_RST that still holds the reset -/
  soft : Option Nat := none
  /-- PLL_EN is to be set at the first reference edge (R637) -/
  pllDue : Bool := false
  /-- A, the level of the SMB_ASEL straps sampled at power-on reset (R626) -/
  asel : Nat := 0
  /-- TS at which the CTRL island last became good (R440) -/
  ctrlAt : Nat := 0
  /-- TS at which instance reset was last released -/
  released : Nat := 0
  /-- instance reset is asserted -/
  inst : Bool := true
  deriving DecidableEq, Repr

/-- Hold-up state of the AON island beside the HOLD registers (R639..R648). -/
structure HoldSt where
  /-- TS at which the sag sequence in progress was declared -/
  decl : Nat := 0
  /-- no CKF edge has come since the declaration (R640) -/
  edgeDue : Bool := false
  /-- the frame that was armed at the declaration, or that a save uses (R643) -/
  frame : Option Nat := none
  /-- values taken at the capture edge, by word of the record, and not yet in the AON buffer (R642) -/
  taken : Option (Map Word) := none
  /-- instances whose records are still to be programmed, in order (R644) -/
  todo : List Nat := []
  /-- a record that no frame was armed for is held in an AON buffer: instances (R646) -/
  kept : List Nat := []
  /-- records saved by this instance since power-on reset (R650) -/
  saves : Nat := 0
  /-- the record of the sequence in progress is not yet in the AON buffer (R642) -/
  due : Bool := false
  /-- the CTRL island stopped being good since the capture edge (R642) -/
  cut : Bool := false
  /-- HOLD_SAVE is to be latched once CTRL runs (R646) -/
  saveDue : Bool := false
  deriving DecidableEq, Repr

/-- The model's view of what leaves the instance. Each list is in order of emission, the oldest first. -/
structure OutSt where
  /-- words written to host memory -/
  host : List HostWrite := []
  /-- M values reported to instance 0 over the sideband (R380) -/
  reports : List Nat := []
  /-- shares sent by instance 0 -/
  shares : List ShareMsg := []
  /-- Coupler messages sent (R401) -/
  msgs : List CplrMsg := []
  /-- TS of the rising edges that instance 0 drove on the epoch pulse line (R408) -/
  epochPulses : List Nat := []
  /-- images that instance 0 pushed over the package sideband (R537) -/
  pushes : List (List (BitVec 8)) := []
  /-- TS of a push reported as failed to instance 0 (R539) -/
  pushFails : List Nat := []
  /-- TS at which instance 0 ordered firmware resets of instances 1..3 (R546) -/
  fwOrders : List Nat := []
  /-- Class 0 conditions reported to instance 0 (R545) -/
  conds : List Nat := []
  /-- stores performed through the host-memory aperture: offset in the aperture and bytes (R556) -/
  aperture : List (Nat × List (BitVec 8)) := []
  deriving DecidableEq, Repr

/-- One Velol instance. -/
structure State where
  /-- registers and window memories that differ from their reset words (R35), by rising byte offset -/
  regs : Map Word
  /-- the global time TS (R4, R48) -/
  ts : Dword
  /-- the eFuse shadow (R28) -/
  efuse : Efuse
  /-- high halves latched by reads of low halves (R15, R503): key 16 * offset of the high half + requester code -/
  latch : Map Word
  /-- the model's own field: words that the last read or command returned to its sender -/
  rdata : List Word
  /-- the model's own field: how many free values have been drawn -/
  freeCtr : Nat
  /-- time base and lock detector -/
  tim : TimSt
  /-- pipelines of the cell sea's readings -/
  sea : SeaSt
  /-- hidden state of the cells, by cell index -/
  cell : Map CellHid
  /-- hidden state of the regions, by region index -/
  rgn : Map RgnHid
  /-- the commit or revert in progress -/
  cfg : CfgPhase
  /-- hidden state of the front-stage phases, by phase index -/
  ph : Map PhHid
  /-- front stage -/
  xph : XphSt
  /-- Loop Engine state by descriptor -/
  loop : Map LoopHid
  /-- Loop Engine -/
  lpe : LpeSt
  /-- trace channels -/
  trc : Map TrcCh
  /-- forecast path -/
  ttb : TtbSt
  /-- Outrider -/
  odr : OdrSt
  /-- Skid windows, by region index -/
  skid : Map SkidHid
  /-- Tender -/
  tndr : TndrSt
  /-- power policy and Waybill -/
  pwr : PwrSt
  /-- power policy by region -/
  pwrRgn : Map PwrRgn
  /-- Waybill by engine group -/
  wblGrp : Map WblGrp
  /-- Coupler -/
  cplr : CplrSt
  /-- Coupler endpoints -/
  cplrEp : Map CplrEp
  /-- Coupler group slots -/
  cplrSlot : Map CplrSlot
  /-- sense converters -/
  sns : SnsSt
  /-- sense converters by number -/
  snsConv : Map SnsConv
  /-- window comparators -/
  snsComp : Map SnsComp
  /-- thermal sensors -/
  thmSensor : Map ThmSensor
  /-- thermal sensor groups -/
  thmGroup : Map ThmGroup
  /-- thermal state -/
  thm : ThmSt
  /-- fault collector -/
  cbse : CbseSt
  /-- telemetry -/
  tlm : TlmSt
  /-- firmware, boot and update -/
  fw : FwSt
  /-- firmware cores -/
  core : Map CoreSt
  /-- the lines of the group caches: Head 0, A 1, B 2 -/
  cache : Map (List CacheLine)
  /-- local memories and commons: key 2^20 * m + byte address in memory m (R498) -/
  ram : Map (BitVec 8)
  /-- last commands and replies -/
  yutre : List YutreSeen
  /-- interrupt controller -/
  pst : PstSt
  /-- PMBus target -/
  smb : SmbSt
  /-- TS at which the present FILLING of a Mail Coach channel began (R608) -/
  mch : Map Nat
  /-- resets -/
  rst : RstSt
  /-- V12 sag and hold-up -/
  hold : HoldSt
  /-- what has left the instance -/
  out : OutSt
  /-- commands that wait, first in first out -/
  pending : List Instr
  deriving DecidableEq, Repr

/-- The instance right after power-on reset and instance reset: every register at its reset word, every queue empty. -/
def State.reset : State where
  regs := []
  ts := 0
  efuse := {}
  latch := []
  rdata := []
  freeCtr := 0
  tim := {}
  sea := {}
  cell := []
  rgn := []
  cfg := .idle
  ph := []
  xph := {}
  loop := []
  lpe := {}
  trc := []
  ttb := {}
  odr := {}
  skid := []
  tndr := {}
  pwr := {}
  pwrRgn := []
  wblGrp := []
  cplr := {}
  cplrEp := []
  cplrSlot := []
  sns := {}
  snsConv := []
  snsComp := []
  thmSensor := []
  thmGroup := []
  thm := {}
  cbse := {}
  tlm := {}
  fw := {}
  core := []
  cache := []
  ram := []
  yutre := []
  pst := {}
  smb := {}
  mch := []
  rst := {}
  hold := {}
  out := {}
  pending := []

end Sys2Proof.Machine
end

