-- ==== Sys2Proof/Machine/Ops.lean ====
section
/-! DEFINITION. Machine/Ops.lean: the named operations over the register window and the block's shared outputs: reading
and writing a word or a field, the access codes of R17..R19 and R7, the writer restrictions of R36..R38 and R671, 64-bit
pairs, time, Caboose pulses and Postilion doorbells, and the two resets' effect on the window. -/

namespace Sys2Proof.Machine

/-- What a meaning answers. -/
abbrev Out := Host.Outcome State Fault Refusal

/-- Reset words that depend on an index and do not stand in the tables: XPH_PH_CFG.OFS = 2·p, SNS_MASK (R447), 0 for
SNS_RES of a channel that the converter lacks (R14),
THM_GMAP, PST_SRC_CFG[65], MCH_CH_CFG.C0 (R615), CPLR_EP_CFG[17..19] (the roles a sideband endpoint reports are a view). -/
def specialReset (a : Nat) : Option Word :=
  if 0x81000 ≤ a ∧ a < 0x81400 ∧ (a - 0x81000) % 0x20 = 0 then
    some (BitVec.ofNat 32 (0x80000000 + (a - 0x81000) / 0x20 * 2 * 0x10000))
  else if a = SNS_MASK_LO 0 ∨ a = SNS_MASK_LO 1 then some 0xFFFF
  else if a = SNS_MASK_LO 2 then some 0xFFFFFFFF
  else if a = SNS_MASK_HI 2 then some 0xFF
  else if a = SNS_MASK_LO 3 then some 0x2C0
  else if SNS_RES 0 0 ≤ a ∧ a < SNS_RES 4 0 ∧ (a - SNS_RES 0 0) % 0x400 < 192 ∧
      [24, 24, 43, 20].getD ((a - SNS_RES 0 0) / 0x400) 0 ≤ (a - SNS_RES 0 0) % 0x400 / 4 then some 0
  else if THM_GMAP_LO 0 ≤ a ∧ a < THM_GMAP_LO 64 ∧ (a - THM_GMAP_LO 0) % 0x20 = 0 then
    let q := (a - THM_GMAP_LO 0) / 0x20
    some (if q < 32 then BitVec.ofNat 32 (2 ^ q) else 0)
  else if THM_GMAP_HI 0 ≤ a ∧ a < THM_GMAP_HI 64 ∧ (a - THM_GMAP_HI 0) % 0x20 = 0 then
    let q := (a - THM_GMAP_HI 0) / 0x20
    some (if q < 32 then 0 else BitVec.ofNat 32 (2 ^ (q - 32)))
  else if a = PST_SRC_CFG 65 then some 0xC0000002
  else if MCH_CH_CFG 28 ≤ a ∧ a ≤ MCH_CH_CFG 31 ∧ (a - MCH_CH_CFG 28) % 0x80 = 0 then some 0xC0000002
  else none

/-- The word a window offset holds after its reset, and reads as while nothing has been written there (R14: 0 where no
register is defined). -/
def regReset (a : Nat) : Word :=
  match specialReset a with
  | some w => w
  | none =>
    match regDef? a with
    | some r => BitVec.ofNat 32 r.reset
    | none => 0

namespace State

/-- The stored word at window offset a. -/
def rd (s : State) (a : Nat) : Word := mapGet (regReset a) s.regs a

/-- Store a word at window offset a. -/
def wr (s : State) (a : Nat) (w : Word) : State := { s with regs := mapSet (regReset a) s.regs a w }

/-- The stored value of a field. -/
def get (s : State) (f : Fld) : Nat := fldGet (s.rd f.addr) f.hi f.lo

/-- Store a value in a field. -/
def put (s : State) (f : Fld) (v : Nat) : State := s.wr f.addr (fldSet (s.rd f.addr) f.hi f.lo v)

/-- Is a one-bit field 1? -/
def bit (s : State) (f : Fld) : Bool := s.get f != 0

/-- Set a one-bit field to a truth value. -/
def putB (s : State) (f : Fld) (b : Bool) : State := s.put f b.toNat

/-- The two's complement value of a field (R3). -/
def getI (s : State) (f : Fld) : Int := toSigned (f.hi + 1 - f.lo) (s.get f)

/-- Store a two's complement value in a field (R3). -/
def putI (s : State) (f : Fld) (v : Int) : State := s.put f (ofSigned (f.hi + 1 - f.lo) v)

/-- Add k to a counter field that saturates at its largest value. -/
def addSat (s : State) (f : Fld) (k : Nat) : State := s.put f (min (s.get f + k) (2 ^ (f.hi + 1 - f.lo) - 1))

/-- Add 1 to a counter field that saturates. -/
def incSat (s : State) (f : Fld) : State := s.addSat f 1

/-- Add k to a counter field that wraps. -/
def addWrap (s : State) (f : Fld) (k : Nat) : State := s.put f ((s.get f + k) % 2 ^ (f.hi + 1 - f.lo))

/-- Keep the larger value in a peak field. -/
def keepMax (s : State) (f : Fld) (v : Nat) : State := if s.get f < v then s.put f v else s

/-- Keep the larger value in a signed peak field. -/
def keepMaxI (s : State) (f : Fld) (v : Int) : State := if s.getI f < v then s.putI f v else s

/-- A word as a number. -/
def num (s : State) (a : Nat) : Nat := (s.rd a).toNat

/-- The signed reading of a whole word. -/
def numI (s : State) (a : Nat) : Int := (s.rd a).toInt

/-- Store a number in a word. -/
def wrN (s : State) (a : Nat) (v : Nat) : State := s.wr a (BitVec.ofNat 32 v)

/-- Store a signed number in a word. -/
def wrI (s : State) (a : Nat) (v : Int) : State := s.wr a (BitVec.ofInt 32 v)

/-- A 64-bit value whose low half stands at offset a and whose high half at a + 4 (R15). -/
def get64 (s : State) (a : Nat) : Nat := s.num a + s.num (a + 4) * 2 ^ 32

/-- Store a 64-bit value, modulo 2^64, in the pair at offset a (R15). -/
def put64 (s : State) (a : Nat) (v : Nat) : State := (s.wrN a (v % 2 ^ 32)).wrN (a + 4) (v / 2 ^ 32 % 2 ^ 32)

/-- Store a 64-bit value in two registers whose offsets are given apart. -/
def put64At (s : State) (lo hi : Nat) (v : Nat) : State := (s.wrN lo (v % 2 ^ 32)).wrN hi (v / 2 ^ 32 % 2 ^ 32)

/-- The indices i, rising, below n at which a register array with the given base and stride differs from reset. -/
def listed (s : State) (base stride n : Nat) : List Nat :=
  s.regs.filterMap fun e =>
    if base ≤ e.1 ∧ (e.1 - base) % stride = 0 ∧ (e.1 - base) / stride < n then some ((e.1 - base) / stride) else none

/-- TS as a number. -/
def now (s : State) : Nat := s.ts.toNat

/-- The low half of TS, as the 32-bit time-stamp fields record it (R4). -/
def now32 (s : State) : Nat := s.now % 2 ^ 32

/-- CKS cycles passed: CKS rises at every second CKF edge (R39), aligned at the relock (R45). -/
def cks (s : State) : Nat := (s.tim.edges + s.tim.cksPar) / 2

/-- The Class 0 conditions of FW_ACT.COND (R545): bits 0..5 are this instance's, bit 6 another's. -/
def class0Bits (s : State) : Nat :=
  let b (k : Nat) (c : Bool) : Nat := if c then 2 ^ k else 0
  b 0 (s.num CBSE_STATUS_LO &&& (2 ^ 3 + 2 ^ 4 + 2 ^ 5 + 2 ^ 19 + 2 ^ 20) != 0) +
    b 1 (s.get THM_STAT.STATE != 0 || s.get THM_STAT.NTHR != 0) + b 2 (s.get XPH_STAT.STATE == 3) +
    b 3 (s.get HOLD_STAT.STATE != 0) + b 4 (decide (s.get CPLR_EM_STAT.RATE < 64)) + b 5 (s.bit PWR_STAT.UNATTAIN) +
    b 6 (s.fw.pkg.any fun e => e.2 != 0)

/-- The window is taken as it stands at the start of a CKF cycle (R18), and the quiet period of R544 starts anew while a
Class 0 condition stands. -/
def newCycle (s : State) : State :=
  { s with tim := { s.tim with cycle := s.regs },
           fw := if s.class0Bits = 0 then s.fw else { s.fw with quiet := s.now } }

/-- Slew steps that fall among the next n CKF edges (R54, R56): the 256th edge after the request or after the last step
makes one, until none is left. -/
def slewSteps (s : State) (n : Nat) : Nat := min s.tim.slewLeft.natAbs ((s.tim.slewEdges + n) / 256)

/-- n CKF edges pass (R49): TS advances by 1 at each, by 2 or 0 at an edge that makes a slew step. -/
def passEdges (s : State) (n : Nat) : State :=
  let k := s.slewSteps n
  let left := if 0 < s.tim.slewLeft then s.tim.slewLeft - k else s.tim.slewLeft + k
  newCycle
    { s with ts := if 0 < s.tim.slewLeft then s.ts + BitVec.ofNat 64 (n + k) else s.ts + BitVec.ofNat 64 (n - k),
             tim := { s.tim with edges := s.tim.edges + n, slewLeft := left,
                                 slewEdges := if left = 0 then 0 else s.tim.slewEdges + n - 256 * k } }

/-- The least number of CKF edges after which TS has moved on by d or more, d at least 1 (R49). -/
def edgesFor (s : State) (d : Nat) : Nat :=
  let l := s.tim.slewLeft.natAbs
  let m := s.tim.slewEdges + d
  if 0 < s.tim.slewLeft then d - min l (m / 257) else d + min l ((m - 1) / 255)

/-- CKA edges while the PLL is not locked: TS advances by 32 at each (R49), so it reaches the last of its values that is not
beyond d ticks from here (R51). -/
def passCoarse (s : State) (d : Nat) : State := newCycle { s with ts := s.ts + BitVec.ofNat 64 (d / 32 * 32) }

/-- Time passes to the event at t; TS never decreases (R50), and stands at 0 in power-on reset (R48, R633). -/
def advanceTo (s : State) (t : Dword) : State :=
  let d := t.toNat - s.ts.toNat
  if d = 0 ∨ s.rst.por then s
  else if s.bit TIM_STAT.PLL_LOCK then s.passEdges (s.edgesFor d)
  else if d < 32 then s else s.passCoarse d

/-- What a command into the CTRL island or the cell sea does: nothing while instance reset is asserted, which holds
everything there at its reset value, behind the clamps when the island is not good (R62, R633, R635). -/
def running (s : State) (k : State → State) : State := if s.rst.inst then s else k s

/-- The bits of the word at offset a that became 1 in the present CKF cycle. -/
def freshBits (s : State) (a : Nat) : Word := s.rd a &&& ~~~(mapGet (regReset a) s.tim.cycle a)

/-- Draw a fresh free value. -/
def drawFree (s : State) : Word × State := (Config.freeWord s.freeCtr, { s with freeCtr := s.freeCtr + 1 })

/-- The quotient a / b as an integer where the spec states no rounding: exact when it divides, else one of the two
neighbours, by a free value. -/
def roundOpen (s : State) (a : Int) (b : Nat) : Int × State :=
  let q := floorDiv a b
  if q * b = a then (q, s)
  else
    let (w, s) := s.drawFree
    (q + (w.toNat % 2 : Nat), s)

/-- Store a value in a field for which the spec states no saturation: outside its range the result is not stated, and a
free value stands there. -/
def putOr (s : State) (f : Fld) (v : Int) : State :=
  if 0 ≤ v ∧ v < ((2 ^ (f.hi + 1 - f.lo) : Nat) : Int) then s.put f v.toNat
  else
    let (w, s) := s.drawFree
    s.put f (w.toNat % 2 ^ (f.hi + 1 - f.lo))

/-- Store a signed value in a field for which the spec states no saturation: outside its range a free value stands there. -/
def putIOr (s : State) (f : Fld) (v : Int) : State :=
  if v = satS (f.hi + 1 - f.lo) v then s.putI f v
  else
    let (w, s) := s.drawFree
    s.put f (w.toNat % 2 ^ (f.hi + 1 - f.lo))

/-- Assert an EVENT pin of Caboose for one cycle (R479). -/
def pulse (s : State) (b : Nat) : State :=
  { s with cbse := { s.cbse with pulses := s.cbse.pulses ++ [b], pulseAt := s.cbse.pulseAt ++ [s.tim.edges] } }

/-- A block writes the doorbell of its source at offset o; k is its allocation index (R580, R581). -/
def ring (s : State) (k o : Nat) : State := { s with pst := { s.pst with port := s.pst.port ++ [32 * k + o] } }

/-- The largest number of Class 0 sources active at once, and the overload of a ninth (R33), with n active now. -/
def c0Count (s : State) (n : Nat) : State :=
  let s := if s.get VL_STAT.C0_PEAK < n then s.put VL_STAT.C0_PEAK (min n 0xFF) else s
  if n ≤ 8 then s
  else
    let was := s.bit VL_STAT.C0_OVERLOAD
    let s := s.put VL_STAT.C0_OVERLOAD 1
    if !was && s.bit VL_CTRL.C0_STRICT then s.pulse 0 else s

/-- A Class 0 source that reaches its end point within this step (R32): it counts while it is on its way. -/
def c0Touch (s : State) : State := s.c0Count (s.pst.c0.length + 1)

/-- Class 0 interrupt n becomes active on the interrupt path (R601). -/
def c0Enter (s : State) (n : Nat) : State :=
  if s.pst.c0.contains n then s
  else
    let s := { s with pst := { s.pst with c0 := s.pst.c0 ++ [n] } }
    s.c0Count s.pst.c0.length

/-- Class 0 interrupt n is active no longer (R601). -/
def c0Leave (s : State) (n : Nat) : State := { s with pst := { s.pst with c0 := s.pst.c0.filter (· != n) } }

/-- Reply to a command with a status code of R10 and a payload. -/
def reply (s : State) (st : Nat) (ws : List Word) : State := { s with rdata := BitVec.ofNat 32 st :: ws }

/-- Answer words to the sender of a command. -/
def answer (s : State) (ws : List Word) : State := { s with rdata := ws }

/-- Write words to host memory through a Velol DMA engine (R27). -/
def hostWrite (s : State) (addr : Nat) (ws : List Word) : State :=
  { s with out := { s.out with host := s.out.host ++ [⟨addr % 2 ^ 64, ws⟩] } }

/-- The instance number (R28). -/
def inst (s : State) : Nat := s.efuse.inst % 4

/-- Apply f for every element of a list, in order. -/
def each {α : Type} (s : State) (l : List α) (f : State → α → State) : State := l.foldl f s

end State

/-! ### Writing a register -/

/-- One field of a register after a write of v, by its access code: RW stores (a clamped field its nearest usable code,
R7; a reserved encoding leaves it, R19), W1C clears and W1S sets (R17); every other code ignores the write. A W1C bit that
hardware set in this CKF cycle, one of `fresh`, stays set (R18). -/
def storeField (fresh v acc : Word) (f : FieldDef) : Word :=
  let x := fldGet v f.hi f.lo
  match f.acc with
  | .rw =>
    let x := if f.clamp then clampN f.least f.most x else x
    if f.least ≤ x ∧ x ≤ f.most then fldSet acc f.hi f.lo x else acc
  | .w1c => acc &&& ~~~(v &&& fldMask f.hi f.lo &&& ~~~fresh)
  | .w1s => acc ||| (v &&& fldMask f.hi f.lo)
  | .ro | .wo | .rc => acc

/-- A register's word after a write of v (R17); RSV bits keep reading 0. -/
def storeWord (r : RegDef) (fresh old v : Word) : Word := r.fields.foldl (storeField fresh v) old

/-- Write v to the register at offset a by its access codes; a write where no register is defined is ignored (R14). -/
def storeReg (a : Nat) (v : Word) (s : State) : State :=
  match regDef? a with
  | some r => s.wr a (storeWord r (s.freshBits a) (s.rd a) v)
  | none => s

/-- May requester code q write field f? -/
def FieldDef.allows (f : FieldDef) (q : Nat) : Bool := bitOf f.writers q

/-- A field that software writes values into. -/
def FieldDef.writable (f : FieldDef) : Bool := f.acc == .rw || f.acc == .wo

/-- A write denied as a whole because every writable field of the register is restricted to other writers (R671). -/
def RegDef.shuts (r : RegDef) (q : Nat) : Bool :=
  r.fields.any FieldDef.writable && r.fields.all (fun f => !f.writable || !f.allows q)

/-- Restricted fields that this requester may not write (R671). -/
def RegDef.heldFrom (r : RegDef) (q : Nat) : List FieldDef := r.fields.filter (fun f => f.writable && !f.allows q)

/-- Writers that other rules restrict: CBSE_FORCE to SEC unless DBG_EN is 1 (R492), FW_KICK[i] to core i (R549), the
end-of-life and test words of AGE to SEC, PMC and, for a cell, the core of its cluster (R525), a Coupler transmit set to its
requester (R425), CPLR_EM_ISSUE to SEC, SCH and host software (R422), HOLD_RST to SEC and host software and to its two keys (R636), and doorbells of hardware sources to SEC unless DBG_EN is 1 (R581). -/
def deniedByRule (q a : Nat) (v : Word) (s : State) : Bool :=
  if a = CBSE_FORCE_LO ∨ a = CBSE_FORCE_HI then q != 1 && !s.bit VL_CTRL.DBG_EN
  else if FW_KICK 0 ≤ a ∧ a ≤ FW_KICK 10 then q != (a - FW_KICK 0) / 4 + 1
  else if a = PST_DOORBELL then
    let n := fldGet v 15 0
    decide (1 ≤ n) && decide (n ≤ 607) && q != 1 && !s.bit VL_CTRL.DBG_EN
  else if CPLR_TX_DST 0 ≤ a ∧ a < CPLR_TX_DST 12 then q != (a - CPLR_TX_DST 0) / 0x20
  else if a = HOLD_RST then (q != 0 && q != 1) || (v != 0x5A01 && v != 0x5A02)
  else if a = CPLR_EM_ISSUE then q != 0 && q != 1 && q != 3
  else if AGE_CELL2 0 ≤ a ∧ a < AGE_CELL2 3072 ∧ 8 ≤ (a - AGE_CELL0 0) % 16 then
    q != 1 && q != 2 && q != 4 + (a - AGE_CELL0 0) / 16 / 384
  else if AGE_RGN3 1 ≤ a ∧ a ≤ AGE_RGN3 255 ∧ (a - AGE_RGN0 0) % 16 = 12 then q != 1 && q != 2
  else false

/-- Is a write by requester q to offset a denied as a whole? R36 (core debug windows), R37 (HOST_RO), R671 (every
writable field restricted), and the rules of deniedByRule. -/
def deniedWhole (req : Requester) (a : Nat) (v : Word) (s : State) : Bool :=
  let q := req.code
  (decide (0x1C00000 ≤ a) &&
      (match req with
       | .sec => false
       | .peer => true
       | .dma => true
       | _ => !s.bit VL_CTRL.DBG_EN)) ||
    (req == .host && s.bit VL_CTRL.HOST_RO && !(decide (0x20000 ≤ a) && decide (a < 0x30000)) && a != VL_STAT) ||
    (match regDef? a with
     | some r => r.shuts q
     | none => false) ||
    deniedByRule q a v s

/-- A denied write sets DENIED_WR, and the first one is recorded in VL_DENY_ADDR (R38); instance reset holds both (R633). -/
def recordDenied (req : Requester) (a : Nat) (s : State) : State :=
  if s.rst.inst then s
  else
    let s := if s.bit VL_STAT.DENIED_WR then s
      else (s.put VL_DENY_ADDR.REQ req.code).put VL_DENY_ADDR.OFFSET (a / 4 * 4)
    s.put VL_STAT.DENIED_WR 1

/-- The word a write by requester q carries once every restricted field has its present value in it (R671). -/
def restrictedWord (r : RegDef) (q : Nat) (old v : Word) : Word :=
  (r.heldFrom q).foldl (fun w f => fldSet w f.hi f.lo (fldGet old f.hi f.lo)) v

/-- Does an instance reset keep the word at offset a (registers of power-on reset only, R633, and the AON record buffer,
R652)? -/
def keptByInstanceReset (a : Nat) : Bool :=
  (decide (0x1710000 ≤ a) && decide (a < 0x1711000)) ||
  match regDef? a with
  | some r => r.por
  | none => false

/-- A naturally aligned 32-bit write of v to offset a by a requester, through the writer restrictions (R36..R38, R671) to
the register's own action h; while instance reset is asserted, only the registers that it does not hold take writes (R62,
R633). -/
def gated (req : Requester) (a : Nat) (v : Word) (h : Word → State → State) (s : State) : State :=
  if s.rst.inst ∧ !keptByInstanceReset a then s
  else if deniedWhole req a v s then recordDenied req a s
  else
    match regDef? a with
    | some r =>
      let v' := restrictedWord r req.code (s.rd a) v
      h v' (if v' = v then s else recordDenied req a s)
    | none => h v s

/-! ### Memories (R494..R499) -/

/-- Bytes of memory m (R498). -/
def memSize (m : Nat) : Nat :=
  1024 * [256, 512, 256, 128, 128, 128, 128, 128, 128, 128, 128, 512, 1024, 64, 256, 256, 256, 192].getD m 0

/-- Caboose bit of the uncorrectable errors of memory m (R498). -/
def memSource (m : Nat) : Nat := [29, 30, 31, 32, 33, 34, 35, 36, 37, 38, 39, 40, 21, 22, 20, 28, 23, 24].getD m 40

/-- Is the word of memory m with byte offset o known to hold an uncorrectable error? -/
def State.memBad (s : State) (m o : Nat) : Bool := s.cbse.bad.contains (m, o / 8 * 8)

/-- A read or a half write meets an uncorrectable error in memory m at byte offset o (R495, R499). -/
def memUe (m o : Nat) (s : State) : State :=
  let s := (s.incSat (CBSE_MEM_CNT.UE m)).wrN (CBSE_UE_ADDR m) (o / 8 * 8)
  let w := (m, o / 8 * 8)
  let s := if s.cbse.bad.contains w then s else { s with cbse := { s.cbse with bad := s.cbse.bad ++ [w] } }
  s.pulse (memSource m)

/-- A read in memory m at byte offset o finds and corrects an error (R495, R499). -/
def memCe (m o : Nat) (s : State) : State :=
  ((s.incSat (CBSE_MEM_CNT.CE m)).wrN (CBSE_CE_ADDR m) (o / 8 * 8)).pulse 42

/-- The 32-bit halves at the byte offsets `os` of memory m, held at window offset base, have been written: a bad word
written whole is good again; one written by half latches its source, and its other half may be wrong (R496). A half that
no rule defines takes no write and stays 0 (R14). -/
def memWritten (m base : Nat) (os : List Nat) (s : State) : State :=
  let os := os.filter fun o => (regDef? (base + o)).isSome
  s.each ((os.map fun o => o / 8 * 8).eraseDups) fun s w =>
    if s.memBad m w then
      let whole := os.contains w && os.contains (w + 4)
      let s := if whole then s else memUe m w s
      let s := { s with cbse := { s.cbse with bad := s.cbse.bad.filter (· != (m, w)) } }
      let other := base + (if os.contains w then w + 4 else w)
      if whole ∨ (regDef? other).isNone then s
      else
        let (f, s) := s.drawFree
        s.wr other f
    else s

/-! ### Reading -/

/-- The latch of R15 is kept separately for each counter and each requester (R503). -/
def latchKey (req : Requester) (hi : Nat) : Nat := 16 * hi + req.code

/-- Latch the high half of a counter for a requester (R15). -/
def latchHi (req : Requester) (hi : Nat) (w : Word) (s : State) : State :=
  { s with latch := mapSet 0 s.latch (latchKey req hi) w }

/-- The latched high half; 0 before the first read of the low half (R504). -/
def latchedHi (req : Requester) (hi : Nat) (s : State) : Word := mapGet 0 s.latch (latchKey req hi)

/-- The RC fields that keep the largest value seen since the last read; every other RC field counts events. -/
def peakField (a lo : Nat) : Bool :=
  a == VL_STAT || (decide (CELL_IMEAS 0 ≤ a) && decide (a < CELL_IMEAS 3072)) ||
    (decide (RGN_ISUM 0 ≤ a) && decide (a < RGN_ISUM 256)) || a == XPH_IVIM ||
    (decide (SKID_PEAK 0 ≤ a) && decide (a < SKID_PEAK 256) && (a - SKID_PEAK 0) % 0x40 == 0) ||
    (a == TNDR_SHORT && lo == 0)

/-- What a read that clears an RC field leaves in it (R17, R18), from its value and its value when the present CKF cycle
began: a count keeps the events of this cycle, and a peak the value that this cycle set. -/
def rcLeft (peak : Bool) (was now : Nat) : Nat := if peak then (if was = now then 0 else now) else now - was

/-- A read clears the RC fields of the register (R17), but for what hardware set in the same CKF cycle (R18). -/
def clearRC (a : Nat) (s : State) : State :=
  match regDef? a with
  | some r =>
    let was := mapGet (regReset a) s.tim.cycle a
    s.wr a (r.fields.foldl (fun w f =>
      if f.acc = .rc then fldSet w f.hi f.lo (rcLeft (peakField a f.lo) (fldGet was f.hi f.lo) (fldGet w f.hi f.lo)) else w)
      (s.rd a))
  | none => s

/-! ### Resets of the window -/

/-- The window after instance reset. -/
def resetWindow (s : State) : State := { s with regs := s.regs.filter (fun e => keptByInstanceReset e.1) }

/-- Registers loaded from eFuse at reset: the converters' and thermal sensors' factory trims. -/
def loadEfuse (s : State) : State :=
  let s := s.each s.efuse.snsTrim fun s e => if e.1 < 4 then s.wr (SNS_TRIM e.1) e.2 else s
  s.each s.efuse.thmOfs fun s e => if e.1 < 512 then s.put (THM_SCTL.OFS e.1) e.2 else s

end Sys2Proof.Machine
end

