-- ==== Sys2Proof/Machine/CellOps.lean ====
section
/-! DEFINITION. Machine/CellOps.lean: the shared operations of the cell sea (spec/03_cells.md): neighbours, counts, the
safe state, entering a state, Cell Map entries, targets and the target map of R77, commands and pre-charge. -/

namespace Sys2Proof.Machine

/-! ### Names of the cell states (R97) and failure causes (R107) -/

/-- PARKED. -/
def cPARKED : Nat := 0
/-- STANDBY. -/
def cSTANDBY : Nat := 1
/-- ACTIVE. -/
def cACTIVE : Nat := 2
/-- UNCOUPLED. -/
def cUNCOUPLED : Nat := 3
/-- TEST. -/
def cTEST : Nat := 4

/-- Status codes of R10. -/
def stOK : Nat := 0
/-- BUSY (R10). -/
def stBUSY : Nat := 1
/-- BAD_OPCODE (R10). -/
def stBADOPCODE : Nat := 2
/-- BAD_PARAM (R10). -/
def stBADPARAM : Nat := 3
/-- DENIED (R10). -/
def stDENIED : Nat := 4
/-- DEFERRED (R10). -/
def stDEFERRED : Nat := 5
/-- VERSION (R10). -/
def stVERSION : Nat := 6
/-- NOT_READY (R10). -/
def stNOTREADY : Nat := 7
/-- INTERNAL (R10). -/
def stINTERNAL : Nat := 0xFF

/-- Postilion allocation indices of the blocks (R580). -/
def kVL : Nat := 0
/-- Mail Coach. -/
def kMCH : Nat := 1
/-- Caboose. -/
def kCBSE : Nat := 2
/-- Front stage. -/
def kXPH : Nat := 3
/-- Regions. -/
def kRGN : Nat := 4
/-- Cells. -/
def kCELL : Nat := 5
/-- Sense converters. -/
def kSNS : Nat := 6
/-- Thermal. -/
def kTHM : Nat := 7
/-- Loop Engine. -/
def kLPE : Nat := 8
/-- Timetable. -/
def kTTB : Nat := 9
/-- Outrider. -/
def kODR : Nat := 10
/-- Reins. -/
def kREIN : Nat := 11
/-- Tender. -/
def kTNDR : Nat := 12
/-- Skid. -/
def kSKID : Nat := 13
/-- Power policy. -/
def kPWR : Nat := 14
/-- Coupler. -/
def kCPLR : Nat := 15
/-- Telemetry. -/
def kTLM : Nat := 16
/-- Ageing. -/
def kAGE : Nat := 17
/-- Hold-up. -/
def kHOLD : Nat := 18

/-! ### Names of the region states (R131) -/

/-- OFF. -/
def rOFF : Nat := 0
/-- RAMPING. -/
def rRAMPING : Nat := 1
/-- ON. -/
def rON : Nat := 2
/-- LAME. -/
def rLAME : Nat := 3
/-- DRAINING. -/
def rDRAINING : Nat := 4
/-- FAULTED. -/
def rFAULTED : Nat := 5

/-- RAMPING, ON, LAME or DRAINING: the states with cells at work. -/
def poweredState (st : Nat) : Bool := decide (1 ≤ st) && decide (st ≤ 4)

/-- Set region n's bit in an event bitmap of eight words at offset base (R156). -/
def setRegionBit (base n : Nat) (s : State) : State :=
  s.wrN (base + 4 * (n / 32)) (setBitN (s.num (base + 4 * (n / 32))) (n % 32))

/-- The fatal bits of the status word: PLL_UNLOCK, XPH_OV, XPH_LATCH_LOADED, THM_HARD, LPE_UE (R479). -/
def fatalMask : Nat := 2 ^ 3 + 2 ^ 4 + 2 ^ 5 + 2 ^ 19 + 2 ^ 20

namespace State

/-- Is the PLL locked? -/
def locked (s : State) : Bool := s.bit TIM_STAT.PLL_LOCK

/-- FW_STAT.FW_OK (R550): SCH has written FW_HB within the last 3 ms. -/
def fwOk (s : State) : Bool := s.bit FW_STAT.FW_OK && decide (s.now < s.fw.hbAt + 2400000)

/-- Is the safe-state override in force (R488)? -/
def overrideOn (s : State) : Bool := s.num CBSE_STATUS_LO &&& fatalMask != 0

/-- Hidden state of cell c. -/
def chid (s : State) (c : Nat) : CellHid := mapGet {} s.cell c

/-- Replace the hidden state of cell c. -/
def setChid (s : State) (c : Nat) (h : CellHid) : State := { s with cell := mapSet {} s.cell c h }

/-- State of cell c (R97). -/
def cellState (s : State) (c : Nat) : Nat := s.get (CELL_STAT.STATE c)

/-- Live region of cell c. -/
def cellRegion (s : State) (c : Nat) : Nat := s.get (CELL_MAP_LIVE.REGION c)

/-- Cells whose live region is n, for n = 1..255, rising (R119). -/
def cellsOf (s : State) (n : Nat) : List Nat :=
  (s.listed (CELL_MAP_LIVE 0) 0x40 3072).filter fun c => s.cellRegion c == n

/-- Cells whose STATE differs from PARKED, or that hold other reported status, rising. -/
def busyCells (s : State) : List Nat := s.listed (CELL_STAT 0) 0x40 3072

/-- Assigned count N_A (R119). -/
def assigned (s : State) (n : Nat) : Nat :=
  ((s.cellsOf n).filter fun c => let t := s.cellState c; t == 1 || t == 2 || t == 3).length

/-- Healthy count N_H (R119). -/
def healthy (s : State) (n : Nat) : Nat :=
  ((s.cellsOf n).filter fun c => let t := s.cellState c; t == 1 || t == 2).length

/-- ACTIVE cells of region n. -/
def activeCells (s : State) (n : Nat) : List Nat := (s.cellsOf n).filter fun c => s.cellState c == cACTIVE

/-- State of region n (R131). -/
def rgnState (s : State) (n : Nat) : Nat := s.get (RGN_STAT.STATE n)

/-- Regions that are not OFF, rising. -/
def liveRegions (s : State) : List Nat :=
  (s.listed (RGN_STAT 0) 0x100 256).filter fun n => decide (1 ≤ n) && s.rgnState n != 0

/-- Hidden state of region n. -/
def rhid (s : State) (n : Nat) : RgnHid := mapGet {} s.rgn n

/-- Replace the hidden state of region n. -/
def setRhid (s : State) (n : Nat) (h : RgnHid) : State := { s with rgn := mapSet {} s.rgn n h }

/-- An override on cell c that must be released: Caboose's, the lock detector's (R43), or its FAULTED region's (R149). -/
def cellOverride (s : State) (c : Nat) : Bool :=
  s.overrideOn || s.tim.lockSafe || (s.cellRegion c != 0 && s.rgnState (s.cellRegion c) == 5)

/-- Does a recorded CKS cycle equal the present one? -/
def thisCycle (s : State) (k : Option Nat) : Bool := k == some s.cks

/-- Is cell c in its safe state (R105, and R101 for an ACTIVE or TEST cell whose island is lost)? -/
def cellSafe (s : State) (c : Nat) : Bool :=
  s.cellOverride c ||
    (!s.bit TIM_STAT.CELL_GOOD && (s.cellState c == cACTIVE || s.cellState c == cTEST))

end State

/-- The cluster of cell c (R66). -/
def cluster (c : Nat) : Nat := c / 64 / 6

/-- The 4-neighbours of cell c (R67). -/
def neighbours (c : Nat) : List Nat :=
  let col := c / 64
  let row := c % 64
  (if row = 0 then [] else [c - 1]) ++ (if row = 63 then [] else [c + 1]) ++
    (if col = 0 then [] else [c - 64]) ++ (if col = 47 then [] else [c + 64])

namespace State

/-- Is the tie between 4-neighbours c and d closed (R68, R69)? In TEST a cell's ties are open (R97, R115). -/
def tieClosed (s : State) (c d : Nat) : Bool :=
  s.sea.ties.any (fun t => t.lo == min c d && t.hi == max c d && decide (t.since ≤ s.now)) &&
    s.cellState c != cTEST && s.cellState d != cTEST

/-- UNCOUPLED 4-neighbours in the same live region (R80, R113). -/
def nbrUnc (s : State) (c : Nat) : Nat :=
  if s.cellRegion c = 0 then 0
  else ((neighbours c).filter fun d => s.cellRegion d == s.cellRegion c && s.cellState d == cUNCOUPLED).length

/-- FCODE_BASE (R79). -/
def fcodeBase (s : State) (c : Nat) : Nat :=
  let k := if s.bit (CELL_MAP_LIVE.NO_ASSIST c) then 0 else s.nbrUnc c
  (clampI 0 64 (s.get (CELL_TGT.FCODE c) + s.getI (CELL_TRIM.FOFS c) + (s.get (CELL_TRIM.NB_BOOST c) * k : Nat))).toNat

/-- FCODE_EFF (R81, R83). -/
def fcodeEff (s : State) (c : Nat) : Nat :=
  if s.bit (CELL_STAT.ILIM c) then (s.chid c).limFcode
  else if s.bit (CELL_STAT.HYS_LO c) then min 64 (s.fcodeBase c + s.get (CELL_TRIM.FBAND c))
  else s.fcodeBase c

/-- The pending entry of R100 differs from the live entry. -/
def mapPend (s : State) (c : Nat) : Bool :=
  match (s.chid c).entry with
  | some e => e != s.num (CELL_MAP_LIVE c)
  | none => false

end State

/-- The ties of cell c after its live region may have changed (R68, R69): those between unlike regions open at once, and
those that close do so 20 ns, 16 ticks, later. -/
def tieSync (c : Nat) (s : State) : State :=
  let n := s.cellRegion c
  let want (d : Nat) : Bool := n != 0 && s.cellRegion d == n
  let kept := s.sea.ties.filter fun t => !(t.lo == c || t.hi == c) || want (if t.lo == c then t.hi else t.lo)
  let new := (neighbours c).filter fun d => want d && !kept.any fun t => t.lo == min c d && t.hi == max c d
  { s with sea := { s.sea with ties := kept ++ new.map fun d => ⟨min c d, max c d, s.now + 16⟩ } }

/-! ### What a cell's switches do (R71, R75, R81, R97, R105) -/

/-- The ratio of cycle i of a blend frame of 16 at RATIO = r and BLEND = b (R71). -/
def cycleRatio (r b i : Nat) : Nat := if 1 ≤ r ∧ i * b / 16 < (i + 1) * b / 16 then r - 1 else r

namespace State

/-- The sub-phases of cell c that switch, one bit each (R75, R81, R97): none in the safe state (R105) and above the window,
all 16 below it and in a LOAD test (R116), those of SPMASK otherwise. -/
def subPhases (s : State) (c : Nat) : Nat :=
  if s.cellSafe c then 0
  else if s.cellState c = cACTIVE then
    if s.bit (CELL_STAT.HYS_HI c) then 0
    else if s.bit (CELL_STAT.HYS_LO c) then 0xFFFF
    else s.get (CELL_TGT_SP.SPMASK c)
  else if s.cellState c = cTEST ∧ s.bit (CELL_TEST.GO c) ∧ s.get (CELL_TEST.MODE c) = 1 then 0xFFFF
  else 0

/-- Is the output switch of cell c closed (R75, R97, R105)? -/
def outputClosed (s : State) (c : Nat) : Bool := s.cellState c == cACTIVE && !s.cellSafe c

/-- Is the internal test load connected (R97, R115)? -/
def testLoad (s : State) (c : Nat) : Bool := s.cellState c == cTEST && !s.cellSafe c

/-- Are the flying capacitors of cell c discharged (R97, R108)? -/
def capsDischarged (s : State) (c : Nat) : Bool := s.cellState c == cUNCOUPLED

/-- Are the bias and the sensors of cell c on (R97)? -/
def biasOn (s : State) (c : Nat) : Bool :=
  let t := s.cellState c
  t == cSTANDBY || t == cACTIVE || t == cTEST || (t == cUNCOUPLED && s.get (CELL_STAT.CAUSE c) != 4)

/-- Can current flow from cell c, into its tile or into its test load (R75, R81, R97)? -/
def conducts (s : State) (c : Nat) : Bool := (s.outputClosed c && s.subPhases c != 0) || s.testLoad c

end State

/-! ### Commands (R102, R103) -/

/-- A command to cell c ends with a status; the doorbell of its cluster is written (R110). -/
def cellCmdDone (c res : Nat) (s : State) : State :=
  let s := s.setChid c { s.chid c with cmd := 0 }
  ((s.put (CELL_CMD.PEND c) 0).put (CELL_CMD.RES c) res).ring kCELL (24 + cluster c)

/-- A command in progress to cell c is abandoned with RES = NOT_READY (R99, R104). -/
def cellCmdAbandon (c : Nat) (s : State) : State :=
  if s.bit (CELL_CMD.PEND c) then cellCmdDone c stNOTREADY s else s

/-- A pre-charge in progress is abandoned; a JOIN ends NOT_READY (R99). A target held during it stays held until the cell
is next pre-charged or takes another, and CELL_TGT keeps the target that the pre-charge started from (log entry 112). -/
def prechargeAbandon (c : Nat) (s : State) : State :=
  match (s.chid c).pre with
  | .none => s
  | .join => cellCmdAbandon c (s.setChid c { s.chid c with pre := .none })
  | _ => s.setChid c { s.chid c with pre := .none }

/-- The pre-charge of a STANDBY cell starts (R99); a cell in its safe state joins nothing. -/
def prechargeStart (why : Precharge) (c : Nat) (s : State) : State :=
  if s.cellState c = cSTANDBY ∧ !s.cellSafe c then s.setChid c { s.chid c with pre := why } else s

/-- A test in progress ends with FAIL = 1 (R117). -/
def testFail (c : Nat) (s : State) : State :=
  if s.bit (CELL_TEST.GO c) then
    ((s.put (CELL_TEST.GO c) 0).put (CELL_TEST_RES.DONE c) 1).put (CELL_TEST_RES.FAIL c) 1
  else s

/-! ### States and Cell Map entries -/

/-- No reading of cell c is valid (R91). -/
def readingsEnd (c : Nat) (s : State) : State :=
  (((s.put (CELL_VS01.VALID0 c) 0).put (CELL_VS01.VALID1 c) 0).put (CELL_VS23.VALID2 c) 0).put (CELL_VS23.VALID3 c) 0

/-- Cell c reports a state; leaving ACTIVE ends the local response and the current-limit report, and the readings of a
PARKED or TEST cell are not valid (R91). -/
def putCellState (c st : Nat) (s : State) : State :=
  let s := if st = cACTIVE then s
    else ((s.put (CELL_STAT.HYS_LO c) 0).put (CELL_STAT.HYS_HI c) 0).put (CELL_STAT.ILIM c) 0
  let s := if st = cPARKED ∨ st = cTEST then readingsEnd c s else s
  s.put (CELL_STAT.STATE c) st

/-- A PARKED cell whose live region is 1..255 follows R98 and R101 while the island is good. -/
def unpark (c : Nat) (s : State) : State :=
  if s.cellState c = cPARKED ∧ s.cellRegion c ≠ 0 ∧ s.bit TIM_STAT.CELL_GOOD then
    putCellState c (if s.get (CELL_STAT.CAUSE c) = 0 then cSTANDBY else cUNCOUPLED) s
  else s

/-- A Cell Map entry takes effect in a PARKED, STANDBY or UNCOUPLED cell (R98, R100), and its ties follow (R69). An entry
that moves a pre-charging cell to another region abandons its pre-charge (log entry 114). -/
def applyEntry (c e : Nat) (s : State) : State :=
  let moved := e % 256 != s.cellRegion c
  let s := if moved then prechargeAbandon c s else s
  let s := tieSync c ((s.setChid c { s.chid c with entry := none }).wrN (CELL_MAP_LIVE c) e)
  if e % 256 = 0 then
    (if s.cellState c = cSTANDBY ∨ s.cellState c = cUNCOUPLED then putCellState c cPARKED s else s)
  else unpark c s

/-- A committed entry reaches cell c: held by an ACTIVE or TEST cell, applied in every other state (R100). -/
def commitEntry (c e : Nat) (s : State) : State :=
  if s.cellState c = cACTIVE ∨ s.cellState c = cTEST then
    s.setChid c { s.chid c with entry := if e = s.num (CELL_MAP_LIVE c) then none else some e }
  else applyEntry c e s

/-- Cell c enters STANDBY or PARKED, where its pending entry takes effect (R100). A cell that leaves ACTIVE in the middle of
a ratio change keeps the ratio it runs and BLEND 0 in CELL_TGT (log entry 111), and a cell parked with a live region of 1..255 while
the island is good goes on as R101 gives (log entry 115). -/
def settle (c st : Nat) (s : State) : State :=
  let s := putCellState c st s
  match (s.chid c).entry with
  | some e => applyEntry c e s
  | none => if st = cPARKED then unpark c s else s

/-- An ACTIVE or TEST cell leaves its safe state when no override remains on it (R106, R101). -/
def releaseCell (c : Nat) (s : State) : State :=
  if s.cellOverride c then s
  else if s.cellState c = cTEST then settle c cPARKED (testFail c s)
  else if s.cellState c = cACTIVE then settle c (if s.bit TIM_STAT.CELL_GOOD then cSTANDBY else cPARKED) s
  else s

/-- Every cell meets the end of an override (R106, R150, R491). -/
def releaseCells (cs : List Nat) (s : State) : State := s.each cs fun s c => releaseCell c s

/-- A self-check in progress, which moves switches, is abandoned (R105; log entry 118). -/
def selfcheckAbandon (c : Nat) (s : State) : State := if (s.chid c).cmd = 3 then cellCmdAbandon c s else s

/-- A safe state begins on the cells: pre-charges are abandoned (R99), and self-checks (R105). -/
def safeBegins (cs : List Nat) (s : State) : State :=
  s.each cs fun s c => if s.cellSafe c then selfcheckAbandon c (prechargeAbandon c s) else s

/-! ### Targets -/

/-- A target takes hold in full (R76, a STANDBY cell). -/
def takeTarget (c : Nat) (g : Target) (s : State) : State :=
  ((((s.put (CELL_TGT.RATIO c) g.ratio).put (CELL_TGT.BLEND c) g.blend).put (CELL_TGT.FCODE c) g.fcode).put
    (CELL_TGT_SP.VT c) g.vt).put (CELL_TGT_SP.SPMASK c) g.spmask

/-- A new target arrives at cell c (R72, R76): a reserved RATIO sets TGT_BAD and changes nothing; RATIO 0 takes BLEND 0;
a pre-charging cell holds it; an ACTIVE cell takes FCODE, V_t and SPMASK and moves its ratio at frame boundaries; a cell
that does not switch takes it in full. -/
def deliverTarget (c : Nat) (g : Target) (s : State) : State :=
  if 5 ≤ g.ratio then s.put (CELL_STAT.TGT_BAD c) 1
  else
    let g := if g.ratio = 0 then { g with blend := 0 } else g
    let s := s.setChid c { s.chid c with want := g }
    if (s.chid c).pre ≠ .none then s
    else if s.cellState c = cACTIVE then
      ((s.put (CELL_TGT.FCODE c) g.fcode).put (CELL_TGT_SP.VT c) g.vt).put (CELL_TGT_SP.SPMASK c) g.spmask
    else takeTarget c g s

/-- One blend frame ends in an ACTIVE cell: the ratio moves by at most one step towards the target's, with BLEND = 0 on
an intermediate ratio (R76). -/
def blendFrame (c : Nat) (s : State) : State :=
  let g := (s.chid c).want
  let r := s.get (CELL_TGT.RATIO c)
  if g.ratio ≤ r + 1 ∧ r ≤ g.ratio + 1 then
    (s.put (CELL_TGT.RATIO c) g.ratio).put (CELL_TGT.BLEND c) g.blend
  else (s.put (CELL_TGT.RATIO c) (if r < g.ratio then r + 1 else r - 1)).put (CELL_TGT.BLEND c) 0

/-- FT[k] = round(65,536 × 2^(−k/16)) for k = 0..64 (R77). -/
def ftTable : List Nat :=
  [65536, 62757, 60097, 57549, 55109, 52773, 50535, 48393, 46341, 44376, 42495, 40693, 38968, 37316, 35734, 34219,
   32768, 31379, 30048, 28774, 27554, 26386, 25268, 24196, 23170, 22188, 21247, 20347, 19484, 18658, 17867, 17109,
   16384, 15689, 15024, 14387, 13777, 13193, 12634, 12098, 11585, 11094, 10624, 10173, 9742, 9329, 8933, 8555,
   8192, 7845, 7512, 7194, 6889, 6597, 6317, 6049, 5793, 5547, 5312, 5087, 4871, 4664, 4467, 4277, 4096]

/-- G(FCODE) = FT[FCODE] / 65,536, in place of 24 MHz / f (R77). -/
def gOf (k : Nat) : Rat := (ftTable.getD k 4096 : Rat) / 65536

/-- The gains M of ratios 0..4 (R70). -/
def gain (r : Nat) : Rat := [(1 / 2 : Rat), 2 / 5, 1 / 3, 2 / 7, 1 / 4].getD r (1 / 4)

/-- X_r + (b / 16)·(X_(r−1) − X_r): M_eff, R_SSL and R_FSL of a blended target (R71). -/
def blended (x : Nat → Rat) (r b : Nat) : Rat :=
  if r = 0 then x 0 else x r + (b : Rat) / 16 * (x (r - 1) - x r)

/-- The 65 ladder settings (ratio, blend) by rising effective gain (R71). -/
def ladder : List (Nat × Nat) :=
  ([4, 3, 2, 1].flatMap fun r => (List.range 16).map fun b => (r, b)) ++ [(0, 0)]

/-- The target map of R77 in volts, amperes and ohms, exact on rational values: voltage vt, per-cell current ic, the rail
vim and the characterised resistances; answers RATIO, BLEND and FCODE. -/
def targetMap (vt ic vim : Rat) (rssl rfsl : Nat → Rat) : Nat × Nat × Nat :=
  let rout (e : Nat × Nat) (k : Nat) : Rat := blended rssl e.1 e.2 * gOf k + blended rfsl e.1 e.2
  let ideal (e : Nat × Nat) : Rat := blended gain e.1 e.2 * vim
  match ladder.find? (fun e => decide (vt + ic * rout e 64 + 15 / 1000 ≤ ideal e)) with
  | none => (0, 0, 64)
  | some e =>
    let k := ((List.range 65).find? fun k => decide (vt ≤ ideal e - ic * rout e k)).getD 64
    (e.1, e.2, k)

/-- The calibrated reading of a voltage sensor (R92, R90). -/
def calibrate (raw : Nat) (ofs gainTrim : Int) : Nat :=
  (clampI 0 2047 ((raw : Int) + ofs + floorDiv ((raw : Int) * gainTrim + 2048) 4096)).toNat

/-- n CKS edges of the excess-charge integrator with replica current i, in 0.25 mA steps (R87). -/
def exqRun (x : Nat) (i : Int) (n : Nat) : Nat :=
  if 1440 < i then min (x + n * (i - 1440).toNat) (2 ^ 23 - 1) else x - n * (max (1440 - i) 144).toNat

/-- The current limit of cell c in 0.25 mA steps: 0.60 A, or 0.36 A folded back (R86, R88). -/
def State.cellLimit (s : State) (c : Nat) : Int := if s.bit (CELL_STAT.FOLDBACK c) then 1440 else 2400

/-- Cell c reaches its current limit (R86): FCODE_EFF falls to the code f that holds the current there, never upwards. -/
def limitReached (c f : Nat) (s : State) : State :=
  let f := min f (s.fcodeEff c)
  let n := if s.bit (CELL_STAT.ILIM c) then 0 else 1
  let s := { s with tlm := { s.tlm with nilim := mapSet 0 s.tlm.nilim c (min 0xFFFF (mapGet 0 s.tlm.nilim c + n)) } }
  let s := (s.put (CELL_STAT.ILIM c) 1).put (CELL_STAT.ILIM_SEEN c) 1
  s.setChid c { s.chid c with limFcode := f }

/-- EXQF has reached 7,680,000 or has returned to 0 (R88): FOLDBACK sets, with its doorbell, or clears. -/
def foldCheck (c : Nat) (s : State) : State :=
  let x := (s.chid c).exqf
  if s.bit (CELL_STAT.FOLDBACK c) then (if x = 0 then s.put (CELL_STAT.FOLDBACK c) 0 else s)
  else if 7680000 ≤ x then
    let s := { s with tlm := { s.tlm with nfold := mapSet 0 s.tlm.nfold c (min 0xFFFF (mapGet 0 s.tlm.nfold c + 1)) } }
    (s.put (CELL_STAT.FOLDBACK c) 1).ring kCELL (16 + cluster c)
  else s

/-- The calibration field pair and the reading fields of sensor j of cell c. -/
def sensorFields (c j : Nat) : Fld × Fld × Fld × Fld :=
  match j with
  | 0 => (CELL_VCAL01.OFS0 c, CELL_VCAL01.GAIN0 c, CELL_VS01.V0 c, CELL_VS01.VALID0 c)
  | 1 => (CELL_VCAL01.OFS1 c, CELL_VCAL01.GAIN1 c, CELL_VS01.V1 c, CELL_VS01.VALID1 c)
  | 2 => (CELL_VCAL23.OFS2 c, CELL_VCAL23.GAIN2 c, CELL_VS23.V2 c, CELL_VS23.VALID2 c)
  | _ => (CELL_VCAL23.OFS3 c, CELL_VCAL23.GAIN3 c, CELL_VS23.V3 c, CELL_VS23.VALID3 c)

/-- The reading of sensor j of cell c, mV. -/
def State.reading (s : State) (c j : Nat) : Nat := s.get (sensorFields c j).2.2.1

/-- The live region loop of region n: the lowest enabled descriptor whose destination is the region's cells (R232). -/
def State.regionLoop (s : State) (n : Nat) : Option Nat :=
  (s.listed (LPE_LIVE_DCFG 0) 0x10 512).find? fun k =>
    s.bit (LPE_LIVE_DCFG.EN k) && s.get (LPE_LIVE_DDST.DTYPE k) == 1 && s.get (LPE_LIVE_DDST.DIDX k) == n

/-- R_out of cell c in mΩ at its present target and FCODE_EFF, with the constants of descriptor k and n sub-phases
switching (R520); 24 MHz / f is G(FCODE), as in R77. -/
def State.rout (s : State) (c k n : Nat) : Rat :=
  let tm (r : Nat) : Word := s.rd (LPE_TMAP0 k + 4 * r)
  let r := s.get (CELL_TGT.RATIO c)
  let b := s.get (CELL_TGT.BLEND c)
  16 / (n : Rat) * (blended (fun r => (fldGet (tm r) 31 16 : Rat) / 10) r b * gOf (s.fcodeEff c) +
    blended (fun r => (fldGet (tm r) 15 0 : Rat) / 100) r b)

/-- m CKS edges of ACTIVE cell c with its readings held enter what its ageing window has gathered (R520, R521). -/
def State.ageAdd (s : State) (c m : Nat) (a : AgeAcc) : AgeAcc :=
  let i := s.getI (CELL_IMEAS.I c)
  let inc := [0, 1, 2, 3].filter fun j => !bitOf (s.get (CELL_SNS.EXCL c)) j
  let v (j : Nat) : Int := (s.reading c j : Nat)
  let a :=
    if 200 ≤ i ∧ i ≤ 2400 ∧ 2 ≤ inc.length ∧
        !(s.bit (CELL_STAT.ILIM c) || s.bit (CELL_STAT.HYS_LO c) || s.bit (CELL_STAT.HYS_HI c)) then
      let mean : Rat := ((inc.map v).sum : Rat) / (inc.length : Rat)
      let top : Rat := blended gain (s.get (CELL_TGT.RATIO c)) (s.get (CELL_TGT.BLEND c)) * (s.get XPH_VIM.VIM : Rat) * 5 / 4
      let a := { a with n := a.n + m, num := a.num + (m : Rat) * (top - mean) }
      match s.regionLoop (s.cellRegion c) with
      | some k => { a with den := a.den + (m : Rat) * (i : Rat) / 4000 * s.rout c k (bitsOf (s.subPhases c) 16).length }
      | none => { a with bare := true }
    else a
  if inc.length = 4 then
    let d := [median3 (v 1) (v 2) (v 3), median3 (v 0) (v 2) (v 3), median3 (v 0) (v 1) (v 3), median3 (v 0) (v 1) (v 2)]
    { a with k := a.k + m, d := (a.d.zip (d.zipIdx.map fun e => v e.2 - e.1)).map fun e => e.1 + (m : Nat) * e.2 }
  else a

/-- The CKS edges up to cycle k that the cells have not yet taken in pass for the ageing windows (R520); those past the end
of the present window are the next one's. -/
def ageTake (k : Nat) (s : State) : State :=
  let old := s.sea.cks
  let e := s.tlm.ageAt + 65536
  let here := min k e - min old e
  let past := min k (e + 65536) - max old e
  s.each (s.busyCells.filter fun c => s.cellState c == cACTIVE) fun s c =>
    { s with tlm := { s.tlm with age := if here = 0 then s.tlm.age else
                                   mapSet {} s.tlm.age c (s.ageAdd c here (mapGet {} s.tlm.age c)),
                                 ageNext := if past = 0 then s.tlm.ageNext else
                                   mapSet {} s.tlm.ageNext c (s.ageAdd c past (mapGet {} s.tlm.ageNext c)) } }

/-- n CKS edges pass for cell c with the replica current that CELL_IMEAS holds: EXQF (R87), FOLDBACK (R88) and QOUT (R506)
follow. -/
def cellRun (c n : Nat) (s : State) : State :=
  let i := s.getI (CELL_IMEAS.I c)
  let t := s.cellState c
  let q := if t = cSTANDBY ∨ t = cACTIVE ∨ t = cUNCOUPLED then i * (n : Nat) else 0
  let s := { s with tlm := { s.tlm with qout := mapSet 0 s.tlm.qout c (mapGet 0 s.tlm.qout c + q) } }
  foldCheck c (s.setChid c { s.chid c with exqf := exqRun (s.chid c).exqf i n })

/-- Cells whose replica current or integrator is not 0, rising. -/
def State.chargedCells (s : State) : List Nat :=
  union (s.listed (CELL_IMEAS 0) 0x40 3072) ((s.cell.filter fun e => e.2.exqf != 0).map Prod.fst)

/-- The CKS edges up to cycle k that the cells have not yet taken in pass with the currents held (R87). -/
def seaTake (k : Nat) (s : State) : State :=
  let n := k - s.sea.cks
  if n = 0 then s
  else
    let s := (ageTake k s).each s.chargedCells fun s c => cellRun c n s
    { s with sea := { s.sea with cks := k } }

/-- The CKS edges that have passed since the cells last took any in, with the currents held (R87). -/
def seaCatch (s : State) : State := seaTake s.cks s

/-- The replica current of cell c sampled at a CKS edge (R84): CELL_IMEAS and its peak follow; 0 while no current can flow
(R75, R97); at the limit the cell lowers FCODE_EFF to a code that is not stated, and below it the report clears (R86). -/
def cellCurrent (c : Nat) (i : Int) (s : State) : State :=
  let i := if s.conducts c then satS 13 i else 0
  let s := (s.putI (CELL_IMEAS.I c) i).keepMaxI (CELL_IMEAS.IPEAK c) i
  if i < s.cellLimit c then s.put (CELL_STAT.ILIM c) 0
  else if s.bit (CELL_STAT.ILIM c) then s.put (CELL_STAT.ILIM_SEEN c) 1
  else
    let (f, s) := s.drawFree
    limitReached c f.toNat s

/-- May the readings of cell c be valid (R91)? -/
def State.readingsValid (s : State) (c : Nat) : Bool :=
  let t := s.cellState c
  (t == cSTANDBY || t == cACTIVE || t == cUNCOUPLED) && !(t == cUNCOUPLED && s.get (CELL_STAT.CAUSE c) == 4)

/-- A raw sample of sensor j of cell c is calibrated and reported (R90..R92). -/
def sensorSample (c j raw : Nat) (s : State) : State :=
  let (ofs, gn, v, valid) := sensorFields c j
  (s.put v (calibrate raw (s.getI ofs) (s.getI gn))).putB valid (s.readingsValid c)

/-- The reading that a raw sample of sensor j of cell c gives (R92). -/
def State.calibrated (s : State) (c j raw : Nat) : Nat :=
  calibrate raw (s.getI (sensorFields c j).1) (s.getI (sensorFields c j).2.1)

/-- Does sensor j of cell c feed the minimum tree of the cell's live region (R95, R112)? -/
def State.feeds (s : State) (c j : Nat) : Bool :=
  let t := s.cellState c
  let k := s.get (CELL_STAT.CAUSE c)
  (t == cSTANDBY || t == cACTIVE || (t == cUNCOUPLED && k != 4 && k != 5)) &&
    !s.bit (CELL_MAP_LIVE.SNS_OUT c) && !bitOf (s.get (CELL_SNS.EXCL c)) j

/-- How many sensors feed the minimum tree of region n (VSN_VMIN.CNT). -/
def State.treeCount (s : State) (n : Nat) : Nat :=
  ((s.cellsOf n).map fun c => ((List.range 4).filter (s.feeds c)).length).sum

/-! ### Runs of samples (R94, R96, R107) -/

/-- The run `k` of cell c at the present CKS edge: it goes on or begins while its condition holds, and ends otherwise. -/
def cellRunPut (c k : Nat) (holds anew : Bool) (s : State) : State :=
  let h := s.chid c
  let runs :=
    if !holds then mapErase h.runs k
    else if anew || !h.runs.any (fun e => e.1 == k) then mapInsert (mapErase h.runs k) k s.cks
    else h.runs
  s.setChid c { h with runs := runs }

/-- Samples in run `k` of cell c, the present CKS edge's included; 0 when it is not in progress. -/
def State.cellRunLen (s : State) (c k : Nat) : Nat :=
  match (s.chid c).runs.find? (fun e => e.1 == k) with
  | some e => s.cks + 1 - e.2
  | none => 0

/-- Does sensor j of cell c meet the condition of a cause of R94 with the present readings: 1 RANGE, 2 STUCK, 3 DISAGREE? No
check runs on an excluded sensor (R96), nor on one that has given no reading since its cell could. -/
def State.snsMeets (s : State) (c j cause : Nat) : Bool :=
  let excl := s.get (CELL_SNS.EXCL c)
  let v : Int := (s.reading c j : Nat)
  let others := [0, 1, 2, 3].filter (· != j)
  !bitOf excl j && s.readingsValid c && s.bit (sensorFields c j).2.2.2 &&
    (match cause with
     | 1 => (s.rgnState (s.cellRegion c) == rON || s.rgnState (s.cellRegion c) == rLAME) && s.cellRegion c != 0 &&
        (decide (v < 300) || decide (1200 < v))
     | 2 => s.cellState c == cACTIVE
     | 3 => others.all (fun i => !bitOf excl i) &&
        decide (40 < (v - (match others.map fun i => ((s.reading c i : Nat) : Int) with
          | [x, y, z] => median3 x y z
          | _ => v)).natAbs)
     | _ => false)

/-- Samples in a row after which a cause of R94 excludes. -/
def snsRunLength (cause : Nat) : Nat := [0, 4, 65536, 64].getD cause 0

/-- The lowest cause of R94 whose run is complete for sensor j of cell c. -/
def State.snsDue (s : State) (c j : Nat) : Option Nat :=
  [1, 2, 3].find? fun k => s.snsMeets c j k && decide (snsRunLength k ≤ s.cellRunLen c (3 * j + k - 1))

/-- Sensor j of cell c is excluded by hardware for a cause (R94, R110, R111). -/
def sensorExclude (c j cause : Nat) (s : State) : State :=
  let s := s.put (CELL_SNS.EXCL c) (setBitN (s.get (CELL_SNS.EXCL c)) j)
  let s := s.put ⟨CELL_SNS c, 2 * j + 9, 2 * j + 8⟩ cause
  (s.pulse 12).ring kCELL (8 + cluster c)

/-- The checks of R94 on cell c at a CKS edge; `moved` are the sensors whose reading differs from the one before. -/
def sensorChecks (c : Nat) (moved : List Nat) (s : State) : State :=
  let s := s.each [0, 1, 2, 3] fun s j =>
    s.each [1, 2, 3] fun s k => cellRunPut c (3 * j + k - 1) (s.snsMeets c j k) (k == 2 && moved.contains j) s
  let due := [0, 1, 2, 3].filterMap fun j => (s.snsDue c j).map fun k => (j, k)
  s.each due fun s e => sensorExclude c e.1 e.2 s

/-- Does a run of replica currents meet a failure of R107: 1 OVERCURRENT, 3 REVERSE? -/
def State.currentFails (s : State) (c cause : Nat) : Bool :=
  if cause = 1 then decide (2 ≤ s.cellRunLen c 12) else decide (256 ≤ s.cellRunLen c 13)

/-- The runs of OVERCURRENT and REVERSE of cell c at a CKS edge (R107). -/
def currentRuns (c : Nat) (s : State) : State :=
  let i := s.getI (CELL_IMEAS.I c)
  let st := s.cellState c
  cellRunPut c 13 (decide (i ≤ -400) && st == cACTIVE) false
    (cellRunPut c 12 (decide (3000 ≤ i) && (st == cSTANDBY || st == cACTIVE || st == cTEST)) false s)

end Sys2Proof.Machine
end

