-- ==== Sys2Proof/Machine/TraceOps.lean ====
section
/-! DEFINITION. Machine/TraceOps.lean: the trace unit of the Loop Engine (R244..R249). -/

namespace Sys2Proof.Machine

namespace State

/-- Trace state (R246): 0 IDLE, 1 ARMED, 2 TRIGGERED, 3 DONE. -/
def trcState (s : State) : Nat := s.get TRC_STAT.STATE

/-- State of trace channel ch beside its registers. -/
def trcCh (s : State) (ch : Nat) : TrcCh := mapGet {} s.trc ch

/-- Replace the state of trace channel ch. -/
def setTrcCh (s : State) (ch : Nat) (h : TrcCh) : State := { s with trc := mapSet {} s.trc ch h }

end State

/-- A trace export ends with a status (R518, R526); `runs` when another one goes on. -/
def traceExportEnd (res : Nat) (runs : Bool) (s : State) : State :=
  let s := (s.put TLM_TRX_CTRL.RES res).put TLM_EVT.TRX 1
  let s := if runs then s else (s.put TLM_TRX_CTRL.BUSY 0).put TLM_TRX_CTRL.GO 0
  s.ring kTLM 3

/-- A trace export starts (R518). -/
def traceExport (s : State) : State :=
  if s.bit TLM_TRX_CTRL.BUSY then traceExportEnd stBUSY true s
  else if s.trcState = 1 ∨ s.trcState = 2 then traceExportEnd stNOTREADY false s
  else
    let m := (List.range 8).foldl (fun m ch => if s.bit (TRC_CH_CFG.EN ch) then setBitN m ch else m) 0
    { s.put TLM_TRX_CTRL.BUSY 1 with
      tlm := { s.tlm with trxMask := m &&& s.get TLM_TRX_CTRL.CHMASK, trxBase := s.get64 TLM_TRX_LO } }

/-- TRIGGERED ends in DONE once every enabled channel has recorded POST entries (R246, R248). -/
def traceFinish (s : State) : State :=
  if s.trcState = 2 ∧ (List.range 8).all (fun ch =>
      !s.bit (TRC_CH_CFG.EN ch) || decide (s.get TRC_POST.POST ≤ (s.trcCh ch).since)) then
    let s := ((s.put TRC_STAT.STATE 3).put LPE_EVT.TDONE 1).ring kLPE 3
    if s.bit TLM_TRX_CTRL.AUTO then traceExport s else s
  else s

/-- The trigger fires (R247, R248): an entry recorded at this edge counts as the first after the trigger. -/
def traceTrigger (cause : Nat) (s : State) : State :=
  if s.trcState = 1 then
    let s := (s.put TRC_STAT.STATE 2).put TRC_STAT.CAUSE cause
    let s := (s.put64 TRC_TRIG_TS_LO s.now).put LPE_EVT.TRG 1
    let s := s.each (List.range 8) fun s ch =>
      let h := s.trcCh ch
      let w := s.get (TRC_CH_WPTR.PTR ch)
      if h.lastTs = some s.now then (s.setTrcCh ch { h with since := 1 }).put (TRC_CH_TPTR.PTR ch) ((w + 4095) % 4096)
      else (s.setTrcCh ch { h with since := 0 }).put (TRC_CH_TPTR.PTR ch) w
    traceFinish (s.ring kLPE 2)
  else s

/-- Does a record of value v after `prev` meet the comparison of TRC_TRIG (R247)? -/
def State.traceMeets (s : State) (prev : Option Int) (v : Int) : Bool :=
  let thr := s.numI TRC_THR
  match s.get TRC_TRIG.MODE with
  | 0 => decide (thr < v)
  | 1 => decide (v < thr)
  | 2 => (match prev with
          | some p => decide (p ≤ thr) && decide (thr < v)
          | none => false)
  | _ => (match prev with
          | some p => decide (thr ≤ p) && decide (v < thr)
          | none => false)

/-- Channel ch writes an entry (R245) and may trigger on it (R247, CMP). -/
def traceRecord (ch : Nat) (v : Int) (s : State) : State :=
  let h := s.trcCh ch
  let w := s.get (TRC_CH_WPTR.PTR ch)
  let s := (s.wrI (TRC_BUF (8192 * ch + 2 * w)) v).wrN (TRC_BUF (8192 * ch + 2 * w + 1)) s.now32
  let o := 4 * (8192 * ch + 2 * w)
  let s := memWritten 15 (TRC_BUF 0) [o, o + 4] s
  let s := s.put (TRC_CH_WPTR.PTR ch) ((w + 1) % 4096)
  let s := if w = 4095 then s.put (TRC_CH_WPTR.WRAP ch) 1 else s
  let fires := s.trcState == 1 && s.get TRC_TRIG.SRC == 1 && s.get TRC_TRIG.IDX == ch && s.traceMeets h.prev v
  let since := if s.trcState = 2 then h.since + 1 else h.since
  let s := s.setTrcCh ch { h with prev := some v, lastTs := some s.now, since := since }
  if fires then traceTrigger 1 s else traceFinish s

/-- An occasion of channel ch with value v (R244): every 2^DEC-th one records. -/
def traceOccasion (ch : Nat) (v : Int) (s : State) : State :=
  if s.bit (TRC_CH_CFG.EN ch) ∧ (s.trcState = 1 ∨ s.trcState = 2) then
    let h := s.trcCh ch
    let n := h.occ + 1
    let s := s.setTrcCh ch { h with occ := n }
    if n % 2 ^ s.get (TRC_CH_CFG.DEC ch) = 0 then traceRecord ch v s else s
  else s

/-- An occasion of every channel of signal sig whose configuration satisfies p. -/
def traceSignal (sig : Nat) (p : State → Nat → Bool) (v : Int) (s : State) : State :=
  if s.trcState = 1 ∨ s.trcState = 2 then
    s.each (List.range 8) fun s ch =>
      if s.get (TRC_CH_CFG.SIG ch) = sig ∧ p s ch then traceOccasion ch v s else s
  else s

/-- ARM from IDLE or DONE (R246). -/
def traceArm (s : State) : State :=
  if s.trcState = 0 ∨ s.trcState = 3 then
    let s := { s.put TRC_STAT.STATE 1 with trc := [] }
    s.each (List.range 8) fun s ch => s.wr (TRC_CH_WPTR ch) 0
  else s

/-- SWTRIG (R247): the trigger fires while ARMED; in the CKF cycle in which another condition fired it, SOFT is the lowest
SRC and becomes the cause. A later SWTRIG is ignored. -/
def softTrigger (s : State) : State :=
  if s.trcState = 1 then traceTrigger 0 s
  else if 2 ≤ s.trcState ∧ s.get64 TRC_TRIG_TS_LO = s.now then s.put TRC_STAT.CAUSE 0
  else s

/-- A write of TRC_CTRL (R246, R247): SWTRIG and ARM, which is held while an export runs (R519), meet the state before the
write; then STOP. -/
def trcCtrlWrite (v : Word) (s : State) : State :=
  let arms := fldGet v 0 0 == 1 && (s.trcState == 0 || s.trcState == 3)
  let s := if fldGet v 1 1 = 1 then softTrigger s else s
  let s :=
    if arms then
      (if s.bit TLM_TRX_CTRL.BUSY then { s with tlm := { s.tlm with armDue := true } } else traceArm s)
    else s
  if fldGet v 2 2 = 1 ∧ s.trcState ≠ 0 then s.put TRC_STAT.STATE 0 else s

/-- A write of TRC_POST: a capture that has the entries it now asks for is DONE (R246). -/
def trcPostWrite (v : Word) (s : State) : State := traceFinish (storeReg TRC_POST v s)

/-- A write of TRC_CH_CFG or TRC_TRIG, ignored while ARMED or TRIGGERED (R249). -/
def trcCfgWrite (a : Nat) (v : Word) (s : State) : State :=
  if s.trcState = 1 ∨ s.trcState = 2 then s else storeReg a v s

end Sys2Proof.Machine
end

