-- ==== Sys2Proof/Machine/SkidOps.lean ====
section
/-! DEFINITION. Machine/SkidOps.lean: Skid (spec/09_skid.md): requests, decisions, escalation, the duty windows, and the
counters of CKF and CKS edges that Skid and Reins keep. -/

namespace Sys2Proof.Machine

namespace State

/-- Skid windows of region n. -/
def skidHid (s : State) (n : Nat) : SkidHid := mapGet {} s.skid n

/-- Replace them. -/
def setSkidHid (s : State) (n : Nat) (h : SkidHid) : State := { s with skid := mapSet {} s.skid n h }

/-- The request of region n on its lines (R318, R325): a decision of one CKS edge reaches them at the next; 0 in reset and
from loss of lock until relock (R329). -/
def skidRequest (s : State) (n : Nat) : Nat :=
  let h := s.skidHid n
  if s.rst.inst ∨ !s.locked then 0
  else h.due.foldl (fun r e => if e.1 < s.cks then e.2.1 else r) h.line

/-- A word that a write replaces from the next CKS edge on (R328): `was` is what it held before that write. -/
def skidWord (s : State) (was : Option (Nat × Word)) (a : Nat) : Word :=
  match was with
  | some (k, w) => if k < s.cks then s.rd a else w
  | none => s.rd a

/-- SKID_CFG[n], SKID_MAP[n] and SKID_ESC[n] as they apply at the present CKS edge (R328). -/
def skidCfg (s : State) (n : Nat) (f : Fld) : Nat := fldGet (s.skidWord (s.skidHid n).cfgWas (SKID_CFG n)) f.hi f.lo
/-- A field of SKID_MAP[n] in force (R328). -/
def skidMap (s : State) (n : Nat) (f : Fld) : Nat := fldGet (s.skidWord (s.skidHid n).mapWas (SKID_MAP n)) f.hi f.lo
/-- A field of SKID_ESC[n] in force (R328). -/
def skidEsc (s : State) (n : Nat) (f : Fld) : Nat := fldGet (s.skidWord (s.skidHid n).escWas (SKID_ESC n)) f.hi f.lo

/-- Regions with a depth, a level, a forced depth or a request, rising. -/
def skidRegions (s : State) : List Nat :=
  union (union (s.listed (SKID_RSTAT 0) 0x40 256) (s.listed (SKID_FORCE 0) 0x40 256)) (s.skid.map Prod.fst)

/-- Regions whose live masks cover clock region h (R320). -/
def covering (s : State) (h : Nat) : List Nat :=
  s.skidRegions.filter fun n =>
    if h < 32 then bitOf (s.num (RGN_EG_LO_LIVE n)) h
    else if h < 64 then bitOf (s.num (RGN_EG_HI_LIVE n)) (h - 32)
    else bitOf (s.skidMap n (SKID_MAP.XMAP n)) (h - 64)

/-- SKID_CK[h] (R318, R320): the depth on the lines of clock region h, and the lowest region that asks for it. -/
def skidLines (s : State) (h : Nat) : Nat × Nat :=
  let rs := s.covering h
  let d := rs.foldl (fun m n => max m (s.skidRequest n)) 0
  (d, if d = 0 then 0 else (rs.find? fun n => s.skidRequest n == d).getD 0)

/-- Does Skid act in region n (R327)? -/
def skidActs (s : State) (n : Nat) : Bool :=
  poweredState (s.rgnState n) && s.bit SKID_CTRL.EN && s.skidCfg n (SKID_CFG.EN n) != 0

/-- The effective trip level of region n, 0.25 mV (R321). -/
def skidTrip (s : State) (n : Nat) : Int :=
  let t : Int := (1600 + 5 * s.get (RGN_VTRIP_LIVE.VTRIP n) : Nat)
  let st := s.rgnState n
  if st = rON ∨ st = rLAME then t else min t ((s.rhid n).ref - (4 * s.skidMap n (SKID_MAP.RMARG n) : Nat))

/-- LCAP of region n (R331). -/
def skidCap (s : State) (n : Nat) : Nat :=
  let st := s.skidEsc n (SKID_ESC.STEP n)
  min 15 ((64 - s.skidEsc n (SKID_ESC.FLOOR n) + st - 1) / st)

/-- n_E of region n (R333); 64 while LEVEL is 0. -/
def skidRate (s : State) (n : Nat) : Nat :=
  let l := s.get (SKID_RSTAT.LEVEL n)
  if l = 0 then 64 else max (s.skidEsc n (SKID_ESC.FLOOR n)) (64 - s.skidEsc n (SKID_ESC.STEP n) * l)

end State

/-- LEVEL of region n takes a value, with the events of R334. -/
def skidLevel (n lv : Nat) (s : State) : State :=
  let old := s.get (SKID_RSTAT.LEVEL n)
  let s := s.put (SKID_RSTAT.LEVEL n) lv
  if old = 0 ∧ 1 ≤ lv then
    let s := (setRegionBit (SKID_EVT_ESC 0) n s).ring kSKID 0
    if lv = s.skidCap n then s.ring kSKID 2 else s
  else if 1 ≤ old ∧ lv = 0 then s.ring kSKID 1
  else if old < lv ∧ lv = s.skidCap n then s.ring kSKID 2
  else s

/-- The end of the duty window, or of the gap, of region n (R58, R330): the first multiple, after its start or the
last release of reset, of the window length, in a gap of the new one. -/
def State.skidEnd (s : State) (n : Nat) : Nat :=
  let h := s.skidHid n
  let l := 800 * (if h.gap then s.get (SKID_WIN.WIN n) else h.win)
  (max h.since s.rst.released / l + 1) * l

/-- k CKS edges with the request of region n on the lines as it stands (R330, R335): STRCYC and DCUR; edges at or after the
end of the window (`past`) belong to the next one (R5). -/
def skidCount (past : Bool) (n k : Nat) (s : State) : State :=
  let h := s.skidHid n
  if h.line = 0 ∨ s.rst.inst ∨ !s.locked then s
  else
    let s := s.put64 (SKID_STRCYC_LO n) (s.get64 (SKID_STRCYC_LO n) + k)
    if past then s.setSkidHid n { h with ahead := h.ahead + k }
    else if h.gap then s else s.wrN (SKID_DCUR n) (s.num (SKID_DCUR n) + k)

/-- The request r reaches the lines of region n (R325): peak, start count, the TS of the sample edge and the trace trigger
follow (R247, R335). -/
def skidLine (n r ts : Nat) (s : State) : State :=
  let h := s.skidHid n
  let s := (s.setSkidHid n { h with line := r }).keepMax (SKID_PEAK.DEPTH n) r
  if h.line = 0 ∧ 1 ≤ r then
    let s := (s.addWrap (SKID_NSTART.COUNT n) 1).wrN (SKID_LAST_TS n) (ts % 2 ^ 32)
    if s.get TRC_TRIG.SRC = 3 ∧ s.get TRC_TRIG.IDX = n then traceTrigger 3 s else s
  else s

/-- The CKS cycles after `low` and up to `upto` pass for region n: each decided request reaches the lines at the CKS edge
after its decision, and the edges count with the request that stands at them (R325, R330). -/
def skidPass (past : Bool) (n low upto : Nat) (s : State) : State :=
  let h := s.skidHid n
  let ready := h.due.filter fun e => decide (e.1 < upto)
  let s := s.setSkidHid n { h with due := h.due.filter fun e => !decide (e.1 < upto) }
  let r := ready.foldl (fun (a : Nat × State) e =>
    (max a.1 e.1, skidLine n e.2.1 e.2.2 (skidCount past n (e.1 - a.1) a.2))) (low, s)
  skidCount past n (upto - r.1) r.2

/-- The request of region n, max(D, FORCE) (R324), is decided in CKS cycle k on a sample of TS ts; the lines follow at the
next CKS edge (R325). -/
def skidSchedule (n k ts : Nat) (s : State) : State :=
  let h := s.skidHid n
  let r := max (s.get (SKID_RSTAT.DEPTH n)) (s.get (SKID_FORCE.DEPTH n))
  let before := h.due.filter fun e => decide (e.1 < k)
  let last := before.foldl (fun _ e => e.2.1) h.line
  s.setSkidHid n { h with due := if r = last then before else before ++ [(k, r, ts)] }

/-- Skid does not act in region n: D, RELCNT and LEVEL are 0 (R327, R332), and the request falls to its FORCE depth at the
next CKS edge. -/
def skidStop (n : Nat) (s : State) : State :=
  if s.rd (SKID_RSTAT n) = 0 then s
  else
    skidLevel n 0 (skidSchedule n s.cks s.now ((s.put (SKID_RSTAT.DEPTH n) 0).put (SKID_RSTAT.RELCNT n) 0))

/-- What holds in region n from the present CKS edge on (R327, R331, R332): a region in which Skid no longer acts is
released, ESC_EN = 0 holds LEVEL at 0, and LEVEL is not above LCAP. -/
def skidRecheck (n : Nat) (s : State) : State :=
  let s := if s.skidActs n then s else skidStop n s
  let lv := s.get (SKID_RSTAT.LEVEL n)
  if lv = 0 then s
  else if !s.bit (SKID_WIN.ESC_EN n) then skidLevel n 0 s
  else if s.skidCap n < lv then skidLevel n (s.skidCap n) s
  else s

/-- The edge counters take in the CKF edges passed: LIMCYC of every limited group (R355), and for each region
with a request the CKS edges among them, with what applies from those edges (R325, R328, R330, R335). -/
def countEdges (s : State) : State :=
  let upto := s.tim.edges
  let d := upto - s.tim.counted
  let low := (s.tim.counted + s.tim.cksPar) / 2
  let high := (upto + s.tim.cksPar) / 2
  if d = 0 then s
  else
    let s := { s with tim := { s.tim with counted := upto } }
    let s := s.each (s.listed (REIN_RATE 0) 0x20 64) fun s g =>
      if s.get (REIN_RATE.N g) < 64 then s.put64 (REIN_LIMCYC_LO g) (s.get64 (REIN_LIMCYC_LO g) + d) else s
    if low = high then s
    else s.each s.skidRegions fun s n =>
      let last := (upto - 1 - (s.now - s.skidEnd n) + s.tim.cksPar) / 2
      let m := if s.skidEnd n ≤ s.now then max low (min high last) else high
      skidRecheck n (skidPass true n m high (skidPass false n low m s))

/-- The decision on a valid minimum of v mV delivered for region n at this CKS edge, sampled at TS ts (R322, R323, R325). -/
def skidDecide (n v ts : Nat) (s : State) : State :=
  let s := countEdges s
  if s.skidActs n then
    let m : Int := (4 * v : Nat)
    let t := s.skidTrip n
    let d := s.get (SKID_RSTAT.DEPTH n)
    let unit := 4 * s.skidCfg n (SKID_CFG.DSTEP n)
    let dt := if m < t then min (s.skidCfg n (SKID_CFG.DMAX n)) (((t - m).toNat + unit - 1) / unit) else 0
    let s := if m < t then s.keepMax (SKID_PEAK.DEFICIT n) (min (t - m).toNat 0xFFFF) else s
    if d < dt then
      skidSchedule n s.cks ts ((s.put (SKID_RSTAT.DEPTH n) dt).put (SKID_RSTAT.RELCNT n) 0)
    else if m < t + (4 * s.skidCfg n (SKID_CFG.HYST n) : Nat) then s.put (SKID_RSTAT.RELCNT n) 0
    else if d = 0 then s
    else
      let c := s.get (SKID_RSTAT.RELCNT n) + 1
      if s.skidCfg n (SKID_CFG.RELHOLD n) ≤ c then
        skidSchedule n s.cks ts ((s.put (SKID_RSTAT.DEPTH n) (d - 1)).put (SKID_RSTAT.RELCNT n) 0)
      else s.put (SKID_RSTAT.RELCNT n) c
  else s

/-- floor(TH × 400 × WIN / 256) for a duty field (R331, R332). -/
def State.skidDuty (s : State) (n th : Nat) : Nat := th * 400 * (s.skidHid n).win / 256

/-- The duty window of region n ends at the TS that stands (R330, R332): the CKS edge at that TS counts in the next one, and
a window that held a CKS edge and was no gap is evaluated. -/
def skidWindowEnd (n : Nat) (s : State) : State :=
  let s := countEdges s
  let h := s.skidHid n
  let s :=
    if h.gap then s
    else
      let cw := s.num (SKID_DCUR n)
      let lv := s.get (SKID_RSTAT.LEVEL n)
      let quiet := !h.rose && decide (cw ≤ s.skidDuty n (s.skidEsc n (SKID_ESC.TH_LO n))) &&
        decide ((h.start + s.tim.cksPar) / 2 < (s.tim.edges - 1 + s.tim.cksPar) / 2)
      let s := s.wrN (SKID_DUTY n) cw
      if quiet && decide (1 ≤ lv) then skidLevel n (lv - 1) s else s
  let new := s.get (SKID_WIN.WIN n)
  let gap := decide (new ≠ h.win) && decide (s.now % (800 * new) ≠ 0) && !h.gap
  let h := s.skidHid n
  (s.setSkidHid n { h with win := new, gap := gap, rose := false, start := s.tim.edges - 1, since := s.now, ahead := 0 }).wrN
    (SKID_DCUR n) (if gap then 0 else h.ahead)

/-- Time passes to t, through the end of region n's duty window when t has reached it. -/
def skidWindowTo (n : Nat) (t : Dword) (s : State) : State :=
  let e := s.skidEnd n
  if e ≤ t.toNat then (skidWindowEnd n (s.advanceTo (BitVec.ofNat 64 e))).advanceTo t else s.advanceTo t

/-- C_w exceeds its threshold in a window of region n (R331): LEVEL rises, once in a window and not above LCAP. -/
def skidEscalate (n : Nat) (s : State) : State :=
  let s := countEdges s
  let h := s.skidHid n
  let lv := s.get (SKID_RSTAT.LEVEL n)
  if s.skidActs n ∧ s.bit (SKID_WIN.ESC_EN n) ∧ !h.rose ∧ !h.gap ∧
      s.skidDuty n (s.skidEsc n (SKID_ESC.TH n)) < s.num (SKID_DCUR n) ∧ lv < s.skidCap n then
    (skidLevel n (lv + 1) (s.setSkidHid n { h with rose := true })).incSat (SKID_ESCCNT.RISES n)
  else s

/-- A write of SKID_ESC[n] (R335): TH_LO must stay below TH. -/
def skidEscWrite (n : Nat) (v : Word) (s : State) : State :=
  let old := s.rd (SKID_ESC n)
  let s := storeReg (SKID_ESC n) v s
  if s.get (SKID_ESC.TH n) ≤ s.get (SKID_ESC.TH_LO n) then
    (s.put (SKID_ESC.TH n) (fldGet old 31 24)).put (SKID_ESC.TH_LO n) (fldGet old 23 16)
  else s

/-- What a word that applies from the next CKS edge held before (R328), when it is written in the present CKS cycle. -/
def State.skidKeep (s : State) (was : Option (Nat × Word)) (a : Nat) : Option (Nat × Word) :=
  some (s.cks, s.skidWord was a)

/-- A write in the SKID block. SKID_CFG, SKID_MAP and SKID_ESC apply from the next CKS edge, where a FORCE depth takes part
in the decision (R328). -/
def skidWrite (a : Nat) (v : Word) (s : State) : State :=
  let n := (a - SKID_CFG 0) / 0x40
  let o := (a - SKID_CFG 0) % 0x40
  if a < SKID_CFG 0 then
    let s := countEdges (storeReg a v s)
    s.each s.skidRegions fun s n => skidRecheck n s
  else if n = 0 ∨ 256 ≤ n then storeReg a v s
  else
    let s := countEdges s
    let h := s.skidHid n
    if o = 0x00 then storeReg a v (s.setSkidHid n { h with cfgWas := s.skidKeep h.cfgWas a })
    else if o = 0x04 then storeReg a v (s.setSkidHid n { h with mapWas := s.skidKeep h.mapWas a })
    else if o = 0x08 then skidSchedule n (s.cks + 1) s.now (storeReg a v s)
    else if o = 0x10 then skidEscWrite n v (s.setSkidHid n { h with escWas := s.skidKeep h.escWas a })
    else skidRecheck n (storeReg a v s)

end Sys2Proof.Machine
end

