-- ==== Sys2Proof/Machine/RegionOps.lean ====
section
/-! DEFINITION. Machine/RegionOps.lean: the shared operations of the regions (spec/04_regions.md): shadow and live
configuration, the commit's checks, the life cycle, health, FAULTED, the ramp, the effective set-point and the minimum
trees. -/

namespace Sys2Proof.Machine

namespace State

/-- N_pool: phases ACTIVE, SHEDDING or SHED (R164, R165). -/
def poolSize (s : State) : Nat :=
  ((List.range 32).filter fun p =>
    let t := s.get (XPH_PH_STAT.STATE p)
    t == 2 || t == 3 || t == 4).length

/-- Instance headroom H (R26), in current codes: 25 A for every phase not latched off (R165), less the present VIM current
and the forecast term F (R277). -/
def headroom (s : State) : Int :=
  (400 * s.poolSize : Nat) - s.getI XPH_IVIM.IVIM - s.getI TTB_FCAST.F

/-- Does the margin monitor of region n run (R522)? RUN tells that its clock regions hold a replica. -/
def cpmRuns (s : State) (n : Nat) : Bool :=
  (s.rgnState n == rON || s.rgnState n == rLAME) && s.bit (AGE_RGN0.CPM_EN n) && s.bit (AGE_RGN1.RUN n)

/-- LAME request n_L of region n (R147). -/
def lameRate (s : State) (n : Nat) : Nat := max 1 (64 * s.healthy n / s.assigned n)

end State

/-! ### FAULTED, health and the life cycle -/

/-- Region n reports a state; entering and leaving LAME are events (R156) and set or withdraw its Reins request (R147). -/
def putRgnState (n st : Nat) (s : State) : State :=
  let was := s.rgnState n
  let s := s.put (RGN_STAT.STATE n) st
  let s := s.put (RGN_STAT.LAME_N n) (if st = rLAME then s.lameRate n else 64)
  let s := if st = rOFF ∨ st = rFAULTED then skidStop n s else s
  if (was = rLAME) = (st = rLAME) then s else (setRegionBit (RGN_EVT_LAME 0) n s).ring kRGN 1

/-- A command to region n ends with a status (R134, R156). -/
def rgnCmdDone (n : Nat) (r : Nat × State) : State :=
  let s := (r.2.put (RGN_CMD.PEND n) 0).put (RGN_CMD.RES n) r.1
  (setRegionBit (RGN_EVT_CMD 0) n s).ring kRGN 2

/-- A command of region n that is in progress, or took effect in this CKS cycle, is abandoned with NOT_READY (R135). -/
def rgnCmdAbandon (n : Nat) (s : State) : State :=
  let h := s.rhid n
  let s := s.setRhid n { h with cmd := 0 }
  if s.bit (RGN_CMD.PEND n) then rgnCmdDone n (stNOTREADY, s)
  else if s.thisCycle h.cmdAt then s.put (RGN_CMD.RES n) stNOTREADY
  else s

/-- Region n enters FAULTED with a cause of R148, recorded with a time-stamp; its command is abandoned (R135) and its cells'
safe-state input is asserted (R149). RGN_FAULTED is a CONDITION pin of Caboose, so it follows from the state. -/
def regionFault (n cause ts : Nat) (s : State) : State :=
  let s := rgnCmdAbandon n s
  let s := s.setRhid n { s.rhid n with faultAt := some s.cks, faultFrom := s.rgnState n }
  let s := putRgnState n rFAULTED s
  let s := ((s.put (RGN_FAULT.CAUSE n) cause).wrN (RGN_FAULT_TS n) ts).put (RGN_STAT.ENABLE_PENDING n) 0
  let s := safeBegins (s.cellsOf n) s
  (setRegionBit (RGN_EVT_FAULT 0) n s).ring kRGN 0

/-- The region states in which a cause of R148 faults. -/
def causeStates (cause st : Nat) : Bool :=
  match cause with
  | 2 => st == rRAMPING
  | 3 => st == rRAMPING
  | 4 => st == rRAMPING || st == rON || st == rLAME
  | _ => poweredState st

/-- A cause of R148 arises for region n: the region enters FAULTED; of several in one CKS cycle the lowest is recorded. -/
def regionCause (n cause ts : Nat) (s : State) : State :=
  let h := s.rhid n
  if causeStates cause (s.rgnState n) then regionFault n cause ts s
  else if s.rgnState n = rFAULTED ∧ s.thisCycle h.faultAt ∧ causeStates cause h.faultFrom ∧
      cause < s.get (RGN_FAULT.CAUSE n) then s.put (RGN_FAULT.CAUSE n) cause
  else s

/-- Every region at work enters FAULTED with CAUSE = SAFE (R148, R489). -/
def regionsSafe (ts : Nat) (s : State) : State := s.each s.liveRegions fun s n => regionCause n 1 ts s

/-- N_A and N_H are evaluated for region n (R145): DARK faults it (R148), and a LAME region's request follows (R147). -/
def healthCheck (n : Nat) (s : State) : State :=
  let st := s.rgnState n
  if causeStates 4 st then
    if 2 * s.healthy n < s.assigned n then regionCause n 4 s.now32 s
    else if st = rLAME then s.put (RGN_STAT.LAME_N n) (s.lameRate n)
    else s
  else s

/-- ON and LAME follow the healthy-cell floor at a region loop tick (R132, R146). -/
def lameTick (n : Nat) (s : State) : State :=
  let st := s.rgnState n
  let low := decide (100 * s.healthy n < s.get (RGN_FLOOR_LIVE.FLOOR n) * s.assigned n)
  if st = rON ∧ low then putRgnState n rLAME s
  else if st = rLAME ∧ !low then putRgnState n rON s
  else s

/-- A spare of region n starts joining (R114): its lowest-numbered STANDBY cell with SPARE = 1, while ON or LAME. -/
def spareJoin (n : Nat) (s : State) : State :=
  if s.rgnState n = rON ∨ s.rgnState n = rLAME then
    match (s.cellsOf n).find? (fun c =>
      s.bit (CELL_MAP_LIVE.SPARE c) && s.cellState c == cSTANDBY && (s.chid c).pre == .none) with
    | some c => prechargeStart .spare c s
    | none => s
  else s

/-- A STANDBY or ACTIVE cell goes to UNCOUPLED with a cause (R108, R109): its command is abandoned (R104), the Caboose
source and the doorbell of its cluster are written, a spare joins for an ACTIVE cell (R114), and the region's health is
evaluated (R145). -/
def uncoupleCell (c cause : Nat) (s : State) : State :=
  let wasActive := s.cellState c == cACTIVE
  let n := s.cellRegion c
  let s := cellCmdAbandon c s
  let s := s.setChid c { s.chid c with pre := .none }
  let s := (putCellState c cUNCOUPLED s).put (CELL_STAT.CAUSE c) cause
  let s := (s.pulse 11).ring kCELL (cluster c)
  let s := if wasActive then spareJoin n s else s
  healthCheck n s

/-- The inrush check of region n (R138): H is recorded, and the next ramp is NORMAL or SLOWED. -/
def inrushCheck (n : Nat) (s : State) : State :=
  let h := s.headroom
  (s.putI (RGN_RAMP.HR n) (satS 16 h)).putB (RGN_STAT.SLOWED n) (decide (h < s.getI (RGN_INRUSH_LIVE.BUDGET n)))

/-- The ramp of region n starts: its non-spare STANDBY cells pre-charge (R98, R99), and its checks start anew (R141,
R142). -/
def startRamp (n : Nat) (s : State) : State :=
  let s := s.setRhid n
    { s.rhid n with first := true, ref := 0, iceil := 0, good := 0, lag := none, flat := none, short := none }
  let s := putRgnState n rRAMPING s
  s.each (s.cellsOf n) fun s c => if s.bit (CELL_MAP_LIVE.SPARE c) then s else prechargeStart .region c s

/-- The status of an ENABLE of region n, by R474 and the rows of R133 in order. -/
def State.enableStatus (s : State) (n : Nat) : Nat :=
  if !s.bit VL_STAT.CFG_COMMITTED ∨ s.get THM_STAT.STATE ≠ 0 then stNOTREADY
  else
    let st := s.rgnState n
    if st = rOFF then
      if s.get XPH_STAT.STATE ≠ 2 ∨ !s.bit TIM_STAT.CELL_GOOD then stNOTREADY
      else if s.assigned n = 0 then stBADPARAM
      else if 2 * s.healthy n < s.assigned n then stNOTREADY
      else stOK
    else if st = rDRAINING then stDEFERRED
    else if st = rFAULTED then stNOTREADY
    else stOK

/-- An ENABLE of region n takes effect (R133): the status, and the state after it. -/
def doEnable (n : Nat) (s : State) : Nat × State :=
  let r := s.enableStatus n
  (r, if r = stDEFERRED then s.put (RGN_STAT.ENABLE_PENDING n) 1
    else if r = stOK ∧ s.rgnState n = rOFF then startRamp n s else s)

/-- Region n has neither a command in progress nor one accepted by hardware: one is to take effect at its next loop tick. -/
def rgnPend (n op : Nat) (s : State) : State := s.setRhid n { s.rhid n with cmd := op }

/-- Store the ramp reference of region n and report it in whole mV (R139). -/
def putRef (n ref : Nat) (s : State) : State :=
  (s.setRhid n { s.rhid n with ref := ref }).put (RGN_RAMP.REF n) (ref / 4)

/-- A DISABLE of region n takes effect (R133, R143): the reference starts at the effective set-point, or stays where the
ramp has it. -/
def doDisable (n : Nat) (s : State) : Nat × State :=
  if !s.bit VL_STAT.CFG_COMMITTED then (stNOTREADY, s)
  else
    let st := s.rgnState n
    if st = rRAMPING then (stOK, putRgnState n rDRAINING s)
    else if st = rON ∨ st = rLAME then (stOK, putRgnState n rDRAINING (putRef n (1600 + 5 * s.get (RGN_VEFF.CODE n)) s))
    else if st = rDRAINING then (stOK, s.put (RGN_STAT.ENABLE_PENDING n) 0)
    else (stOK, s)

/-- A CLEAR_FAULT of region n takes effect (R133, R150): the region's override ends and its cells follow R106. -/
def doClearFault (n : Nat) (s : State) : Nat × State :=
  if !s.bit VL_STAT.CFG_COMMITTED then (stNOTREADY, s)
  else if s.rgnState n = rFAULTED then
    let s := putRgnState n rOFF s
    (stOK, releaseCells (s.cellsOf n) s)
  else (stNOTREADY, s)

/-- Region n reaches OFF at the end of its drain (R144): its ACTIVE cells enter STANDBY and unfinished joins of its ramp
end. A pre-charge of a JOIN or of a spare goes on, and its cell becomes ACTIVE in the OFF region
(log entry 113). -/
def regionOff (n : Nat) (s : State) : State :=
  let cs := s.cellsOf n
  let s := putRgnState n rOFF s
  s.each cs fun s c =>
    let s := if (s.chid c).pre = .region then prechargeAbandon c s else s
    if s.cellState c = cACTIVE then settle c cSTANDBY s else s

/-- Does a command change the state of region n, so that it takes effect at a region loop tick (R132)? -/
def State.rgnMoves (s : State) (n op : Nat) : Bool :=
  let st := s.rgnState n
  s.bit VL_STAT.CFG_COMMITTED &&
    ((op == 1 && st == rOFF && s.enableStatus n == stOK) || (op == 2 && (st == rRAMPING || st == rON || st == rLAME)) ||
      (op == 3 && st == rFAULTED))

/-- A write of RGN_CMD[n].OP (R133). While a command is in progress it is ignored (R134). One that changes the region's state
is in progress until the next region loop tick; an ENABLE makes its inrush check at once. In the CKS cycle of a fault it is
abandoned (R135). Every other command completes at once. -/
def rgnCommand (n op : Nat) (s : State) : State :=
  if s.bit (RGN_CMD.PEND n) then s
  else if 1 ≤ op ∧ op ≤ 3 ∧ s.rgnState n = rFAULTED ∧ s.thisCycle (s.rhid n).faultAt then rgnCmdDone n (stNOTREADY, s)
  else if s.rgnMoves n op then
    let s := if op = 1 then inrushCheck n s else s
    rgnPend n op ((s.put (RGN_CMD.PEND n) 1).put (RGN_CMD.RES n) stBUSY)
  else
    let s := s.setRhid n { s.rhid n with cmdAt := some s.cks }
    rgnCmdDone n
      (match op with
       | 0 => (if s.bit VL_STAT.CFG_COMMITTED then stOK else stNOTREADY, s)
       | 1 => doEnable n s
       | 2 => doDisable n s
       | 3 => doClearFault n s
       | _ => (if s.bit VL_STAT.CFG_COMMITTED then stBADPARAM else stNOTREADY, s))

/-- Hardware stops region n (R472, R641): a DISABLE takes effect at its next loop tick; a command in progress goes on in its
place. -/
def rgnDisable (n : Nat) (s : State) : State :=
  if causeStates 4 (s.rgnState n) ∧ (s.rhid n).cmd = 0 then rgnPend n 18 s else s

/-- The command that waits for region n's loop tick takes effect on the state and the configuration of that tick (R132,
R134, R137). -/
def rgnCmdTick (n : Nat) (s : State) : State :=
  let op := (s.rhid n).cmd
  let s := s.setRhid n { s.rhid n with cmd := 0, cmdAt := some s.cks }
  if op = 18 then (doDisable n s).2
  else rgnCmdDone n (if op = 1 then doEnable n s else if op = 2 then doDisable n s else doClearFault n s)

/-- The pending enable of region n executes, or is discarded, when the region is OFF with no ACTIVE cell (R136). -/
def rgnPendingTick (n : Nat) (s : State) : State :=
  if s.bit (RGN_STAT.ENABLE_PENDING n) ∧ s.rgnState n = rOFF ∧ (s.activeCells n).isEmpty then
    let s := s.put (RGN_STAT.ENABLE_PENDING n) 0
    let s := if s.enableStatus n = stOK then startRamp n (inrushCheck n s) else s
    (setRegionBit (RGN_EVT_CMD 0) n s).ring kRGN 4
  else s

/-! ### Ramp and effective set-point -/

/-- The set-point of region n clamped to its live limits (R139, R21), voltage code. -/
def State.clampedSet (s : State) (n : Nat) (v : Int) : Nat :=
  clampCode (clampI (s.get (RGN_LIM_LIVE.VMIN n)) (s.get (RGN_LIM_LIVE.VMAX n)) v).toNat

/-- Is region n's set-point shaped by a profile generator (R129, R242)? -/
def State.profiled (s : State) (n : Nat) : Bool :=
  s.bit (RGN_PROF_LIVE.PG_EN n) && (s.rgnState n == rON || s.rgnState n == rLAME)

/-- The effective set-point (R21, R140): profile output or stored code, plus headroom trim and forecast bump while ON or
LAME, clamped to the region's limits and by R7. -/
def State.effective (s : State) (n : Nat) : Nat :=
  let atWork := s.rgnState n == rON || s.rgnState n == rLAME
  let base : Int := if s.profiled n then s.numI (PG_OUT (s.get (RGN_PROF_LIVE.PG n))) else (s.get (RGN_VSET.CODE n) : Nat)
  let extra : Int := if atWork then (s.rhid n).trim + (s.get (TTB_RGN.BUMP n) : Nat) else 0
  s.clampedSet n (base + extra)

/-- The ramp's target in 0.25 mV (R139). -/
def State.rampTarget (s : State) (n : Nat) : Nat := 1600 + 5 * s.clampedSet n (s.get (RGN_VSET.CODE n) : Nat)

/-- One region loop tick of the ramp reference (R139): SLOPE × 0.25 µs is SLOPE quarter-millivolts. -/
def rampTick (n : Nat) (s : State) : State :=
  let h := s.rhid n
  let isum := s.getI (RGN_ISUM.I n)
  if h.first then
    let start := if s.bit (VSN_VMIN.VALID n) then 4 * s.get (VSN_VMIN.V n) else 0
    putRef n start (s.setRhid n { h with first := false, iceil := 32 * isum })
  else
    let target := s.rampTarget n
    let iceil := h.iceil + (s.assigned n : Nat)
    let may := !s.bit (RGN_STAT.SLOWED n) || decide (32 * isum ≤ iceil)
    let step := s.get (RGN_SS_LIVE.SLOPE n)
    let ref := if may then (if h.ref ≤ target then min target (h.ref + step) else max target (h.ref - step)) else h.ref
    let flat := if ref ≠ target then none else match h.flat with
      | some t => some t
      | none => some s.now
    putRef n ref (s.setRhid n { h with iceil := iceil, flat := flat })

/-- Is the ramp of region n at its end (R141)? -/
def State.rampMet (s : State) (n : Nat) : Bool :=
  let h := s.rhid n
  s.rgnState n == rRAMPING && !h.first && h.ref == s.rampTarget n && decide (16 ≤ h.good)

/-- The ramp of region n ends: ON, or LAME below the floor (R132, R141); a bound generator is to be loaded at the first tick
(R242). -/
def rampEnd (n : Nat) (s : State) : State :=
  let s := s.setRhid n { s.rhid n with pgLoad := true }
  putRgnState n (if 100 * s.healthy n < s.get (RGN_FLOOR_LIVE.FLOOR n) * s.assigned n then rLAME else rON) s

/-- Has a condition of NO_RISE lasted WIN µs for region n (R142)? -/
def State.noRise (s : State) (n : Nat) : Bool :=
  let h := s.rhid n
  let w := 800 * s.get (RGN_SS_LIVE.WIN n)
  s.rgnState n == rRAMPING &&
    (h.lag.any (fun t => decide (t + w ≤ s.now)) || (h.flat.any (fun t => decide (t + w ≤ s.now)) && !s.rampMet n))

/-- One region loop tick of a draining reference (R143, R144): down to 450 mV, where the region enters OFF. -/
def drainTick (n : Nat) (s : State) : State :=
  let h := s.rhid n
  let ref := max (min h.ref 1800) (h.ref - s.get (RGN_SS_LIVE.DSLOPE n))
  let s := putRef n ref s
  if ref ≤ 1800 then regionOff n s else s

/-- RGN_VEFF of region n follows what forms it (R21). -/
def veffPut (n : Nat) (s : State) : State := s.put (RGN_VEFF.CODE n) (s.effective n)

/-- One region loop tick of region n (R132, R136, R139, R143, R490): a standing override faults a region at work, a command
that waits takes effect, and otherwise the state's own work goes on. -/
def regionTick (n : Nat) (s : State) : State :=
  let s := if s.overrideOn then regionCause n 1 s.now32 s else s
  let s := lameTick n (healthCheck n s)
  let st := s.rgnState n
  let s :=
    if (s.rhid n).cmd ≠ 0 then rgnCmdTick n s
    else if st = rRAMPING then
      (let s := rampTick n s
       if s.rampMet n then rampEnd n s else if s.noRise n then regionCause n 3 s.now32 s else s)
    else if st = rDRAINING then drainTick n s
    else rgnPendingTick n s
  veffPut n s

/-- Regions that a region loop tick can change: not OFF, with a command that waits, or with a set-point, an effective
set-point or limits of their own, rising. -/
def State.tickRegions (s : State) : List Nat :=
  (union (union (s.listed (RGN_STAT 0) 0x100 256) ((s.rgn.filter fun e => e.2.cmd != 0).map Prod.fst))
    (union (union (s.listed (RGN_VSET 0) 0x100 256) (s.listed (RGN_VEFF 0) 0x100 256))
      (s.listed (RGN_LIM_LIVE 0) 0x100 256))).filter (fun n => n != 0)

/-! ### Minimum trees (R151..R155) -/

/-- A minimum is delivered for region n (R151, R152): an empty tree reports VALID = 0 and V = 0x7FF. -/
def deliverMin (n v cnt : Nat) (valid : Bool) (s : State) : State :=
  ((s.putB (VSN_VMIN.VALID n) valid).put (VSN_VMIN.V n) (if valid then v else 0x7FF)).put (VSN_VMIN.CNT n)
    (if valid then cnt else 0)

/-- A delivered minimum below VSN_MINV replaces it while the region is ON or LAME and the tree is valid (R153). -/
def minvReplace (n v sensor : Nat) (ts : Dword) (s : State) : State :=
  if (s.rgnState n = rON ∨ s.rgnState n = rLAME) ∧ v < s.get (VSN_MINV.V n) then
    let s := ((s.put (VSN_MINV.VALID n) 1).put (VSN_MINV.SENSOR n) sensor).put (VSN_MINV.V n) v
    s.setRhid n { s.rhid n with minvTs := ts }
  else s

/-- The ramp checks of region n take a valid minimum of v mV (R141, R142). -/
def rampSeen (n v : Nat) (s : State) : State :=
  let h := s.rhid n
  if s.rgnState n = rRAMPING ∧ !h.first then
    let good := if s.rampTarget n ≤ 4 * v + 80 then min 16 (h.good + 1) else 0
    let lag := if h.ref ≤ 4 * v + 400 then none else match h.lag with
      | some t => some t
      | none => some s.now
    s.setRhid n { h with good := good, lag := lag }
  else s

/-- A valid minimum of v mV, which sensor x gave at TS ts, is delivered for region n to VSN_VMIN and VSN_MINV (R151, R153),
to the ramp checks, and to Skid, which decides on it (R322, R323). -/
def deliverValid (n v x cnt : Nat) (ts : Dword) (s : State) : State :=
  skidDecide n v ts.toNat (rampSeen n v (minvReplace n v x ts (deliverMin n v cnt true s)))

/-- VSN_MINV is cleared (R154). -/
def minvClear (n : Nat) (s : State) : State := (s.put (VSN_MINV.VALID n) 0).put (VSN_MINV.V n) 0x7FF

/-- A read of VSN_MINV latches its time-stamp for the requester (R155); after a clear, that of the value last recorded
(log entry 124). -/
def minvLatch (req : Requester) (n : Nat) (s : State) : State :=
  let t := (s.rhid n).minvTs.toNat
  latchHi req (VSN_MINV_TSH n) (BitVec.ofNat 32 (t / 2 ^ 32))
    (latchHi req (VSN_MINV_TSL n) (BitVec.ofNat 32 t) s)

/-- Do a quarter of region n's ACTIVE cells report ILIM while it ramps (R142)? -/
def State.shortNow (s : State) (n : Nat) : Bool :=
  let act := s.activeCells n
  s.rgnState n == rRAMPING && !act.isEmpty &&
    decide (act.length ≤ 4 * (act.filter fun c => s.bit (CELL_STAT.ILIM c)).length)

/-- Has that held in 4 CKS samples in a row (R142)? -/
def State.shortRun (s : State) (n : Nat) : Bool :=
  s.shortNow n && (s.rhid n).short.any fun k => decide (k + 3 ≤ s.cks)

/-- Has the tree of region n been empty in 64 CKS samples in a row (R148)? -/
def State.blindRun (s : State) (n : Nat) : Bool :=
  s.treeCount n == 0 && (s.rhid n).blind.any fun k => decide (k + 63 ≤ s.cks)

/-- The CKS cycle from which a condition holds, given that of the edge before. -/
def runFrom (holds : Bool) (was : Option Nat) (k : Nat) : Option Nat :=
  if holds then some (was.getD k) else none

/-- What is evaluated for region n at a CKS edge (R142, R145, R148): its counts, and the runs of SHORT and BLIND. -/
def regionChecks (n : Nat) (s : State) : State :=
  let h := s.rhid n
  let s := s.setRhid n
    { h with short := runFrom (s.shortNow n) h.short s.cks, blind := runFrom (s.treeCount n == 0) h.blind s.cks }
  let s := if s.shortRun n then regionCause n 2 s.now32 s else s
  let s := if s.noRise n then regionCause n 3 s.now32 s else s
  let s := healthCheck n s
  if s.blindRun n then regionCause n 5 s.now32 s else s

/-- Regions that have a tree to deliver: those with cells, and those whose last minimum stands, rising. -/
def State.treeRegions (s : State) : List Nat :=
  let names := (s.listed (CELL_MAP_LIVE 0) 0x40 3072).map s.cellRegion
  (union (s.listed (VSN_VMIN 0) 0x20 256) (((List.range 256).drop 1).filter names.contains)).filter (fun n => n != 0)

/-! ### Shadow configuration and commit (R120..R128) -/

/-- Offsets, within a region's block, of the shadowed registers; each live copy stands 0x40 higher (R121). -/
def shadowOffsets : List Nat := [0x20, 0x24, 0x28, 0x2C, 0x30, 0x34, 0x38, 0x3C]

/-- The offset of word o of region n's block. -/
def rgnWord (n o : Nat) : Nat := 0x100000 + 0x100 * n + o

/-- Regions one of whose shadowed registers, shadow or live, differs from reset. -/
def State.cfgRegions (s : State) : List Nat :=
  ((shadowOffsets ++ shadowOffsets.map (· + 0x40)).foldl
    (fun l o => union l (s.listed (rgnWord 0 o) 0x100 256)) []).filter (fun n => n != 0)

/-- Cells whose shadow, live or pending entry is not the parked set. -/
def State.cfgCells (s : State) : List Nat :=
  union (union (s.listed (CELL_MAP 0) 0x40 3072) (s.listed (CELL_MAP_LIVE 0) 0x40 3072))
    ((s.cell.filter fun e => e.2.entry != none).map Prod.fst)

/-- Cells whose shadow entry names region n. -/
def State.shadowCells (s : State) (n : Nat) : List Nat :=
  (s.listed (CELL_MAP 0) 0x40 3072).filter fun c => s.get (CELL_MAP.REGION c) == n

/-- The cells of a set reached from some of them through 4-neighbours in the set. -/
def reach (cs : List Nat) : Nat → List Nat → List Nat
  | 0, got => got
  | k + 1, got => reach cs k (cs.filter fun c => got.contains c || (neighbours c).any got.contains)

/-- One 4-connected set, or no cells at all (R120). -/
def connected (cs : List Nat) : Bool :=
  match cs with
  | [] => true
  | c :: _ => (reach cs cs.length [c]).length == cs.length

/-- Regions named by a shadow Cell Map entry, rising. -/
def State.shadowRegions (s : State) : List Nat :=
  let names := (s.listed (CELL_MAP 0) 0x40 3072).map fun c => s.get (CELL_MAP.REGION c)
  ((List.range 256).drop 1).filter names.contains

/-- The checks of R123 in order of cause: (ERR_CAUSE, ERR_RGN), or (0, 0) when none fails. -/
def State.commitCheck (s : State) : Nat × Nat :=
  let rs := s.cfgRegions
  let eg (n : Nat) : Nat := s.num (RGN_EG_LO n) + s.num (RGN_EG_HI n) * 2 ^ 32
  let pg (n : Nat) : Option Nat := if s.bit (RGN_PROF.PG_EN n) then some (s.get (RGN_PROF.PG n)) else none
  match s.shadowRegions.find? (fun n => !connected (s.shadowCells n)) with
  | some n => (1, n)
  | none =>
  match rs.find? (fun n => decide (s.get (RGN_LIM.VMAX n) < s.get (RGN_LIM.VMIN n))) with
  | some n => (2, n)
  | none =>
  match rs.find? (fun n => decide (s.get (RGN_LIM.VMIN n) < s.get (RGN_VTRIP.VTRIP n))) with
  | some n => (3, n)
  | none =>
  match rs.find? (fun n => rs.any fun m => decide (m < n) && eg m &&& eg n != 0) with
  | some n => (4, n)
  | none =>
  match rs.find? (fun n => pg n != none && rs.any fun m => decide (m < n) && pg m == pg n) with
  | some n => (5, n)
  | none =>
  match s.liveRegions.find? (fun n => (s.shadowCells n).isEmpty) with
  | some n => (6, n)
  | none => (0, 0)

/-- Is region n affected by the commit (R125)? -/
def State.affected (s : State) (n : Nat) : Bool :=
  shadowOffsets.any (fun o => s.rd (rgnWord n o) != s.rd (rgnWord n (o + 0x40))) ||
    s.cfgCells.any (fun c => (s.get (CELL_MAP.REGION c) == n) != (s.cellRegion c == n))

/-- Affected regions, rising. -/
def State.affectedRegions (s : State) : List Nat :=
  (union (union s.cfgRegions s.shadowRegions)
    (((List.range 256).drop 1).filter ((s.cfgCells.map s.cellRegion).contains ·))).filter s.affected

/-- Does region n hold the safe point up (R125): RAMPING, DRAINING, or a CELL_CMD pending on one of its cells? -/
def State.blocksCommit (s : State) (n : Nat) : Bool :=
  s.rgnState n == rRAMPING || s.rgnState n == rDRAINING || (s.cellsOf n).any (fun c => s.bit (CELL_CMD.PEND c))

/-- A commit ends (R124..R126, R156). -/
def commitEnd (res cause n : Nat) (s : State) : State :=
  let s := { s with cfg := .idle }
  ((((s.put RGN_CFG_CTRL.COMMIT 0).put RGN_CFG_STAT.BUSY 0).put RGN_CFG_STAT.RES res).put RGN_CFG_STAT.ERR_CAUSE cause).put
    RGN_CFG_STAT.ERR_RGN n |>.ring kRGN 3

/-- The safe point (R126): every shadowed region register becomes live, every cell receives its entry, and the health of
every region is evaluated on the new counts (R145). -/
def commitApply (s : State) : State :=
  let s := s.each s.cfgRegions fun s n =>
    let s := if s.get (RGN_VTRIP.VTRIP n) = s.get (RGN_VTRIP_LIVE.VTRIP n) then s else s.put (SKID_RSTAT.RELCNT n) 0
    s.each shadowOffsets fun s o => s.wr (rgnWord n (o + 0x40)) (s.rd (rgnWord n o))
  let s := s.each s.cfgCells fun s c => commitEntry c (s.num (CELL_MAP c)) s
  let s := (s.put VL_STAT.CFG_COMMITTED 1).addWrap RGN_CFG_CNT.COUNT 1
  s.each s.liveRegions fun s n => healthCheck n s

/-- A revert copies every live value into its shadow (R128). -/
def revertApply (s : State) : State :=
  let s := s.each s.cfgRegions fun s n =>
    s.each shadowOffsets fun s o => s.wr (rgnWord n o) (s.rd (rgnWord n (o + 0x40)))
  s.each s.cfgCells fun s c => s.wrN (CELL_MAP c) ((s.chid c).entry.getD (s.num (CELL_MAP_LIVE c)))

/-- A write of RGN_CFG_CTRL (R123, R127, R128). -/
def cfgCtrlWrite (v : Word) (s : State) : State :=
  let busy := s.bit RGN_CFG_STAT.BUSY
  if fldGet v 0 0 = 1 then
    if busy then s.put RGN_CFG_STAT.WR_DURING 1
    else
      { ((s.put RGN_CFG_CTRL.COMMIT 1).put RGN_CFG_STAT.BUSY 1).put RGN_CFG_STAT.RES stBUSY with cfg := .validating }
  else if fldGet v 1 1 = 1 then
    if busy then s else { s.put RGN_CFG_STAT.BUSY 1 with cfg := .reverting }
  else s

/-- A write to a shadowed register: ignored, with WR_DURING, while a commit or revert runs (R127). -/
def shadowWrite (a : Nat) (v : Word) (s : State) : State :=
  if s.bit RGN_CFG_STAT.BUSY then s.put RGN_CFG_STAT.WR_DURING 1 else storeReg a v s

end Sys2Proof.Machine
end

