-- ==== Sys2Proof/Machine/EngineOps.lean ====
section
/-! DEFINITION. Machine/EngineOps.lean: Reins and Tender (spec/10_reins_and_tender.md): the request combiner of each engine
group, and Tender's floor, demand and filler orders. -/

namespace Sys2Proof.Machine

/-! ### Reins -/

namespace State

/-- Does region n's live engine-group mask include group g (R320, R339)? -/
def owns (s : State) (n g : Nat) : Bool :=
  if g < 32 then bitOf (s.num (RGN_EG_LO_LIVE n)) g else bitOf (s.num (RGN_EG_HI_LIVE n)) (g - 32)

/-- Regions with a live engine-group mask, rising. -/
def maskedRegions (s : State) : List Nat :=
  (union (s.listed (RGN_EG_LO_LIVE 0) 0x100 256) (s.listed (RGN_EG_HI_LIVE 0) 0x100 256)).filter (· != 0)

/-- The region of group g. -/
def groupRegion (s : State) (g : Nat) : Option Nat := s.maskedRegions.find? fun n => s.owns n g

/-- Is the SAFE request of 1 standing (R339)? -/
def reinSafe (s : State) : Bool := s.overrideOn || s.tim.lockSafe || s.tim.unlockDue

/-- The request of Skid for group g (R333). -/
def reinSkid (s : State) (g : Nat) : Nat := ((s.groupRegion g).map s.skidRate).getD 64

/-- The LAME request for group g (R147). -/
def reinLame (s : State) (g : Nat) : Nat := ((s.groupRegion g).map fun n => s.get (RGN_STAT.LAME_N n)).getD 64

/-- The requests for group g, in SRC order (R339). -/
def reinRequests (s : State) (g : Nat) : List Nat :=
  [if s.reinSafe then 1 else 64, s.get (REIN_HWREQ1.EMCAP g), s.get (REIN_HWREQ0.THERM g), s.reinSkid g, s.reinLame g,
    s.get (REIN_CAP.RATE g), s.get (REIN_HWREQ1.COCAP g), s.get (REIN_FW.RATE g)]

/-- N_g and SRC of R340. -/
def reinChoice (s : State) (g : Nat) : Nat × Nat :=
  let rs := s.reinRequests g
  let n := rs.foldl min 64
  (n, if n = 64 then 7 else (rs.zipIdx.find? fun e => e.1 == n).elim 7 (·.2))

end State

/-- The combiner at a CKF edge (R340), with the events of R354. -/
def reinCombine (s : State) : State :=
  let s := countEdges s
  let was := (List.range 64).map fun g => s.get (REIN_RATE.N g)
  let new := (List.range 64).map s.reinChoice
  let s := s.each (new.zipIdx) fun s e => (s.put (REIN_RATE.N e.2) e.1.1).put (REIN_RATE.SRC e.2) e.1.2
  let lim (l : List Nat) : Nat := (l.filter (· < 64)).length
  let ns := new.map Prod.fst
  let s := (s.put REIN_SUM.NLIM (lim ns)).put REIN_SUM.MINN (ns.foldl min 64)
  let s := if (was.zip ns).any (fun e => e.1 != 1 && e.2 == 1) then (s.put REIN_EVT.FLOOR 1).ring kREIN 0 else s
  if lim was = 0 ∧ lim ns ≠ 0 then (s.put REIN_EVT.LIM_START 1).ring kREIN 1
  else if lim was ≠ 0 ∧ lim ns = 0 then (s.put REIN_EVT.LIM_END 1).ring kREIN 2
  else s

/-- Are the engine lines held: in instance reset, with CTRL not good, or by the lock detector (R342)? -/
def State.linesHeld (s : State) : Bool := s.rst.inst || !s.bit TIM_STAT.CTRL_GOOD || !s.locked

/-- N_g − 1 on the rate lines of group g (R336); N = 1 while the lines are held (R342). -/
def State.rateLines (s : State) (g : Nat) : Nat := if s.linesHeld then 0 else s.get (REIN_RATE.N g) - 1

/-- F_g on the filler lines of group g (R348); 0 while the lines are held (R342). -/
def State.fillerLines (s : State) (g : Nat) : Nat := if s.linesHeld then 0 else s.get (TNDR_ORD.F g)

/-! ### Tender -/

/-- Tender is given a barrier notice (R282, R346); it takes it while FC_EN is 1. -/
def giveNotice (out : Bool) (land : Nat) (di : Int) (regions : List Nat) (act : Nat) (s : State) : State :=
  if s.bit TNDR_CTRL.FC_EN then
    let d := di.toNat * regions.length
    let sl := s.get TNDR_DIE.SLOPE
    let l := min (s.get TNDR_PRE.MAX) ((d + sl - 1) / sl)
    let n : Notice := ⟨out, land, di, regions, ⟨max (land - 100 * l) act, land⟩, 0⟩
    let s := { s with tndr := { s.tndr with notices := s.tndr.notices ++ [n] } }
    (s.put TNDR_EVT.NOTICE 1).ring kTNDR 3
  else s

/-- Standing notices are withdrawn (R266, R264). -/
def withdrawNotices (s : State) : State := { s with tndr := { s.tndr with notices := [] } }

/-- Is a window in force at TS b? -/
def TsWindow.holds (w : TsWindow) (b : Nat) : Bool := decide (w.start ≤ b) && decide (b < w.stop)

/-- Tender's orders are held at 0: override, loss of lock (R352), thermal stop (R472, R474) or a sag (R640). -/
def State.tenderOff (s : State) : Bool :=
  s.overrideOn || s.tim.lockSafe || s.get THM_STAT.STATE != 0 || s.get HOLD_STAT.STATE != 0

/-- Has group g issued a program operation at TS t or later? -/
def State.issuedSince (s : State) (g t : Nat) : Bool := s.tndr.lastIssue.any fun e => e.1 == g && decide (t ≤ e.2)

/-- Has group g issued no program operation in the last IDLE_WIN CKF cycles (R345, OBSERVED)? It is reported so, or its last
issue lies that far back. -/
def State.groupIdle (s : State) (g : Nat) : Bool :=
  s.tndr.idle.contains g ||
    s.tndr.lastIssue.any fun e => e.1 == g && decide (e.2 + s.get TNDR_CFG.IDLE_WIN ≤ s.now)

/-- Why group g of region n is fillable: 0 not, 1 OBSERVED, 2 NOTICE (R345). -/
def State.fillable (s : State) (n g : Nat) : Nat :=
  let notice := s.bit TNDR_CTRL.FC_EN && s.tndr.landed.any fun e => e.1 == n && !s.issuedSince g e.2
  if notice then 2 else if s.groupIdle g then 1 else 0

/-- Group g issued its last program operation of a frame at TS t (R345); a report that it is idle since then stands. -/
def noteIssue (g t : Nat) (s : State) : State :=
  let t := min t s.now
  let idle := if t + s.get TNDR_CFG.IDLE_WIN ≤ s.now then s.tndr.idle else s.tndr.idle.filter (· != g)
  { s with tndr := { s.tndr with lastIssue := mapInsert (mapErase s.tndr.lastIssue g) g t, idle := idle } }

/-- The groups of the regions ON or LAME with their region and reason, by group index, fillable ones only. -/
def State.fillables (s : State) : List (Nat × Nat × Nat) :=
  let rs := s.maskedRegions.filter fun n => s.rgnState n == rON || s.rgnState n == rLAME
  (List.range 64).filterMap fun g =>
    match rs.find? fun n => s.owns n g with
    | some n => let w := s.fillable n g; if w = 0 then none else some (g, n, w)
    | none => none

/-- Notices that have reached their land time pass into E terms and landed barriers (R345, R346). -/
def landNotices (s : State) : State :=
  let b := s.now
  let due := s.tndr.notices.filter fun n => decide (n.land ≤ b)
  let ins := due.filter fun n => !n.out
  let e := (ins.filter fun n => decide (n.di < 0)).map fun n => ((-n.di).toNat * n.regions.length, 2)
  let landed := ins.foldl (fun m n => n.regions.foldl (fun m r => mapInsert (mapErase m r) r n.land) m) s.tndr.landed
  { s with tndr := { s.tndr with notices := s.tndr.notices.filter (fun n => decide (b < n.land)),
                                 eTerms := s.tndr.eTerms ++ e, landed := landed } }

/-- Store one group's order. -/
def putOrder (g why o f : Nat) (s : State) : State :=
  (((s.putB (TNDR_ORD.FILLABLE g) (why != 0)).put (TNDR_ORD.WHY g) why).put (TNDR_ORD.O g) o).put (TNDR_ORD.F g) f

/-- Report d and short of a base tick, with the events of R350 and R354. -/
def tenderReport (d nfill short : Nat) (s : State) : State :=
  let wasD := s.bit TNDR_STAT.ACTIVE
  let wasS := s.bit TNDR_STAT.SHORT
  let s := (((s.put TNDR_STAT.D (min d 0xFFFF)).put TNDR_STAT.NFILL nfill).putB TNDR_STAT.SHORT (short != 0)).putB
    TNDR_STAT.ACTIVE (d != 0)
  let s := if !wasD && d != 0 then (s.put TNDR_EVT.FILL_START 1).ring kTNDR 0 else s
  let s := if wasD && d == 0 then (s.put TNDR_EVT.FILL_END 1).ring kTNDR 1 else s
  let s := if !wasS && short != 0 then (s.put TNDR_EVT.SHORT_START 1).ring kTNDR 2 else s
  if short = 0 then s else (s.incSat TNDR_SHORT.TICKS).keepMax TNDR_SHORT.PEAK (min short 0xFFFF)

/-- Each standing notice whose window holds the present base tick counts it (R346). -/
def countNotices (s : State) : State :=
  let count (n : Notice) : Notice := if n.window.holds s.now then { n with ticks := n.ticks + 1 } else n
  { s with tndr := { s.tndr with notices := s.tndr.notices.map count } }

/-- Tender's part of a base tick (R345..R352); `issued` are the groups that issued program work in the frame that ends,
each with the TS of its last issue. -/
def tenderTick (issued : List (Nat × Nat)) (s : State) : State :=
  let b := s.now
  let s := countNotices (landNotices (s.each issued fun s e => noteIssue e.1 e.2 s))
  let t := s.tndr
  let off := s.tenderOff
  let ifg := s.get TNDR_CFG.IFG
  let members := (s.liveRegions.filter fun n => s.rgnState n == rON || s.rgnState n == rLAME).map
    fun n => (n, s.getI (RGN_ISUM.I n))
  let left := ((t.members.filter fun e => !(members.map Prod.fst).contains e.1).map Prod.snd).sum
  let ifl0 : Int := max 0 ((t.ifl : Int) - left * 65536)
  let isea := (members.map Prod.snd).sum
  let orders := s.listed (TNDR_ORD 0) 4 64
  let fprev := (orders.map fun g => s.get (TNDR_ORD.F g)).sum
  let iprg : Int := isea - (fprev * ifg / 64 : Nat)
  let floorNow : Int := max 0 iprg * 65536
  let en := s.bit TNDR_CTRL.EN
  let die := s.get TNDR_DIE.SLOPE * 65536
  let slope := if s.bit TNDR_CTRL.FLEET_EN then min (s.get TNDR_FLEET.SLOPE) die else die
  let ifl : Int := if off then 0 else if en then max floorNow (ifl0 - slope) else floorNow
  let e : Nat := (t.eTerms.map Prod.fst).sum
  let w : Nat :=
    if s.bit TNDR_CTRL.PRE_EN then
      ((t.notices.filter fun n => n.out && decide (0 < n.di) && n.window.holds b).map fun n =>
        min (n.di.toNat * n.regions.length) (s.get TNDR_DIE.SLOPE * n.ticks)).sum
    else 0
  let d : Nat := if off || !en then 0 else (max (max 0 (ifl.fdiv 65536 - iprg)) (max (e : Int) w)).toNat
  let want := (64 * d + ifg - 1) / ifg
  let gs := s.fillables
  let q := want / gs.length
  let r := want % gs.length
  let os : List (Nat × Nat × Nat × Nat × Nat) := gs.zipIdx.map fun x =>
    let o := if off then 0 else min 64 (if x.2 < r then q + 1 else q)
    (x.1.1, x.1.2.1, x.1.2.2, o, min o (s.get (REIN_RATE.N x.1.1)))
  let s := s.each orders fun s g => putOrder g 0 0 0 s
  let s := s.each os fun s (g, _, why, o, f) => putOrder g why o f s
  let fsum := (os.map fun (_, _, _, _, f) => f).sum
  let add := (os.map fun (_, n, _, _, f) => f * ifg * (320 + s.get (RGN_VEFF.CODE n))).sum
  let efil := (t.efil + add) % 2 ^ 64
  let eTerms : List (Nat × Nat) := (t.eTerms.map fun (e : Nat × Nat) => (e.1, e.2 - 1)).filter fun e => e.2 != 0
  let s := { s with tndr := { s.tndr with ifl := ifl.toNat, efil := efil, members := members,
                                          eTerms := eTerms } }
  let s := s.put64 TNDR_EFIL_LO (efil / 65536)
  let s := (s.putI TNDR_FLOOR.IPRG (satS 16 iprg)).put TNDR_FLOOR.IFL (min (ifl.toNat / 65536) 0xFFFF)
  tenderReport d (os.filter fun (_, _, _, _, f) => f != 0).length (want - fsum) s

end Sys2Proof.Machine
end

