-- ==== Sys2Proof/Machine/FpOps.lean ====
section
/-! DEFINITION. Machine/FpOps.lean: the floating-point formats of R293 and their exact arithmetic: decoding, rounding to
nearest even, FP32 addition and fused multiply-add, and the conversion of R294. A finite value is (-1)^neg · m · 2^e. -/

namespace Sys2Proof.Machine

/-- A floating-point value. -/
inductive Fp where
  | nan
  | inf (neg : Bool)
  | fin (neg : Bool) (m : Nat) (e : Int)
  deriving DecidableEq, Repr

/-- A binary format: exponent and fraction bits, bias, largest finite magnitude as m · 2^e, whether it has infinities, and
its canonical NaN (R293). -/
structure FpFmt where
  ebits : Nat
  fbits : Nat
  bias : Nat
  maxM : Nat
  maxE : Int
  hasInf : Bool
  nanCode : Nat
  deriving DecidableEq, Repr

/-- E4M3. -/
def fmtE4M3 : FpFmt := ⟨4, 3, 7, 14, 5, false, 0x7F⟩
/-- E5M2. -/
def fmtE5M2 : FpFmt := ⟨5, 2, 15, 7, 13, true, 0x7F⟩
/-- BF16. -/
def fmtBF16 : FpFmt := ⟨8, 7, 127, 255, 120, true, 0x7FC0⟩
/-- FP32. -/
def fmtFP32 : FpFmt := ⟨8, 23, 127, 16777215, 104, true, 0x7FC00000⟩

/-- The format of code 0, 1 or 2 (R293). -/
def fmtOf (code : Nat) : FpFmt := if code = 0 then fmtE4M3 else if code = 1 then fmtE5M2 else fmtBF16

/-- Least exponent of a quantum: subnormals are multiples of 2 to this power. -/
def FpFmt.qmin (f : FpFmt) : Int := 1 - f.bias - f.fbits

/-- Read an encoding (R293). -/
def FpFmt.decode (f : FpFmt) (code : Nat) : Fp :=
  let frac := code % 2 ^ f.fbits
  let ex := code / 2 ^ f.fbits % 2 ^ f.ebits
  let neg := bitOf code (f.ebits + f.fbits)
  if ex = 0 then .fin neg frac f.qmin
  else if ex = 2 ^ f.ebits - 1 ∧ f.hasInf then (if frac = 0 then .inf neg else .nan)
  else if ex = 2 ^ f.ebits - 1 ∧ frac = 2 ^ f.fbits - 1 then .nan
  else .fin neg (2 ^ f.fbits + frac) (f.qmin + ex - 1)

/-- Is a finite nonzero value subnormal in the format? -/
def FpFmt.subnormal (f : FpFmt) (m : Nat) (e : Int) : Bool :=
  decide (m ≠ 0) && decide ((Nat.log2 m : Int) + e < f.qmin + f.fbits)

/-- m · 2^e in units of 2^q, rounded to the nearest integer, ties to even. -/
def rneUnits (m : Nat) (e q : Int) : Nat :=
  if q ≤ e then m * 2 ^ (e - q).toNat
  else
    let d := 2 ^ (q - e).toNat
    let n := m / d
    let r := m % d
    if d < 2 * r ∨ (2 * r = d ∧ n % 2 = 1) then n + 1 else n

/-- Round a magnitude to the format's grid, subnormals included, with unbounded exponent: n and q for n · 2^q. -/
def FpFmt.round (f : FpFmt) (m : Nat) (e : Int) : Nat × Int :=
  if m = 0 then (0, f.qmin)
  else
    let q := max f.qmin ((Nat.log2 m : Int) + e - f.fbits)
    (rneUnits m e q, q)

/-- a · 2^p > b · 2^q. -/
def dyadicLt (b : Nat) (q : Int) (a : Nat) (p : Int) : Bool :=
  if q ≤ p then decide (b < a * 2 ^ (p - q).toNat) else decide (b * 2 ^ (q - p).toNat < a)

/-- Does n · 2^q exceed the largest finite magnitude? -/
def FpFmt.tooLarge (f : FpFmt) (n : Nat) (q : Int) : Bool := dyadicLt f.maxM f.maxE n q

/-- Write a rounded finite value. -/
def FpFmt.encodeFin (f : FpFmt) (neg : Bool) (n : Nat) (q : Int) : Nat :=
  let sgn := if neg then 2 ^ (f.ebits + f.fbits) else 0
  let (n, q) := if n = 2 ^ (f.fbits + 1) then (2 ^ f.fbits, q + 1) else (n, q)
  if n < 2 ^ f.fbits then sgn + n
  else sgn + (q - f.qmin + 1).toNat * 2 ^ f.fbits + (n - 2 ^ f.fbits)

/-- An infinity of a format that has them. -/
def FpFmt.encodeInf (f : FpFmt) (neg : Bool) : Nat :=
  (if neg then 2 ^ (f.ebits + f.fbits) else 0) + (2 ^ f.ebits - 1) * 2 ^ f.fbits

/-- Round to FP32 with ties to even; magnitudes beyond the range give an infinity (R300). -/
def toFp32 : Fp → Word
  | .nan => 0x7FC00000
  | .inf neg => BitVec.ofNat 32 (fmtFP32.encodeInf neg)
  | .fin neg m e =>
    let (n, q) := fmtFP32.round m e
    BitVec.ofNat 32 (if fmtFP32.tooLarge n q then fmtFP32.encodeInf neg else fmtFP32.encodeFin neg n q)

/-- Read an FP32 word. -/
def ofFp32 (w : Word) : Fp := fmtFP32.decode w.toNat

/-- Signed integer as a value. -/
def fpInt (v : Int) (e : Int) : Fp := .fin (decide (v < 0)) v.natAbs e

/-- Exact sum of two finite values: its sign, magnitude and exponent; an exact zero is +0 unless both terms are −0. -/
def finAdd (n1 : Bool) (m1 : Nat) (e1 : Int) (n2 : Bool) (m2 : Nat) (e2 : Int) : Fp :=
  let e := min e1 e2
  let a : Int := (if n1 then -1 else 1) * (m1 * 2 ^ (e1 - e).toNat : Nat)
  let b : Int := (if n2 then -1 else 1) * (m2 * 2 ^ (e2 - e).toNat : Nat)
  if a + b = 0 then .fin (n1 && n2) 0 0 else fpInt (a + b) e

/-- Exact addition, with the special values of IEEE 754. -/
def fpAdd : Fp → Fp → Fp
  | .nan, _ => .nan
  | _, .nan => .nan
  | .inf a, .inf b => if a = b then .inf a else .nan
  | .inf a, .fin _ _ _ => .inf a
  | .fin _ _ _, .inf b => .inf b
  | .fin n1 m1 e1, .fin n2 m2 e2 => finAdd n1 m1 e1 n2 m2 e2

/-- Exact product: NaN for a NaN operand or zero times infinity (R301). -/
def fpMul : Fp → Fp → Fp
  | .nan, _ => .nan
  | _, .nan => .nan
  | .inf a, .inf b => .inf (a != b)
  | .inf a, .fin n m _ => if m = 0 then .nan else .inf (a != n)
  | .fin n m _, .inf b => if m = 0 then .nan else .inf (n != b)
  | .fin n1 m1 e1, .fin n2 m2 e2 => .fin (n1 != n2) (m1 * m2) (e1 + e2)

/-- a ≤ b, where zeros compare equal and a NaN compares false. -/
def fpLe : Fp → Fp → Bool
  | .nan, _ => false
  | _, .nan => false
  | .inf true, _ => true
  | _, .inf false => true
  | .inf false, _ => false
  | _, .inf true => false
  | .fin n1 m1 e1, .fin n2 m2 e2 =>
    match finAdd n2 m2 e2 (!n1) m1 e1 with
    | .fin neg m _ => m == 0 || !neg
    | _ => false

/-- The exact rational value of a finite value; a NaN counts as 0 and an infinity as ±10^6 beyond every limit used (R272). -/
def fpClampRat (lo hi : Rat) : Fp → Rat
  | .nan => 0
  | .inf true => lo
  | .inf false => hi
  | .fin neg m e =>
    let v : Rat := (if neg then -1 else 1) * (m : Rat) * (if 0 ≤ e then (2 : Rat) ^ e.toNat else 1 / (2 : Rat) ^ (-e).toNat)
    max lo (min v hi)

/-- Round a rational to the nearest integer, ties to even (R272). -/
def rneRat (v : Rat) : Int :=
  let n := v.floor
  let r := v - n
  if 1 / 2 < r ∨ (r = 1 / 2 ∧ n % 2 = 1) then n + 1 else n

/-! ### Flushing and conversion (R294, R295) -/

/-- What a computation reports: a nonzero value was flushed, a conversion saturated. -/
structure FpFlags where
  flushed : Bool
  clamped : Bool
  deriving DecidableEq, Repr

/-- Nothing to report. -/
def noFlags : FpFlags := ⟨false, false⟩

/-- Both reports. -/
def FpFlags.or (a b : FpFlags) : FpFlags := ⟨a.flushed || b.flushed, a.clamped || b.clamped⟩

/-- Under FTZ a value subnormal in its format is zero with its sign (R295). -/
def flushFp (ftz : Bool) (f : FpFmt) (v : Fp) : Fp × FpFlags :=
  match v with
  | .fin neg m e => if ftz && f.subnormal m e then (.fin neg 0 0, ⟨true, false⟩) else (v, noFlags)
  | _ => (v, noFlags)

/-- Read an operand of a format under FTZ. -/
def operand (ftz : Bool) (f : FpFmt) (code : Nat) : Fp × FpFlags := flushFp ftz f (f.decode code)

/-- Round a value to FP32 and flush it under FTZ: the formed value. -/
def formFp32 (ftz : Bool) (v : Fp) : Fp × FpFlags := flushFp ftz fmtFP32 (ofFp32 (toFp32 v))

/-- Convert an FP32 value to an activation format (R294), and flush the result under FTZ (R295). -/
def convertTo (ftz : Bool) (f : FpFmt) (v : Fp) : Fp × FpFlags :=
  match v with
  | .nan => (.nan, noFlags)
  | .inf neg => (.fin neg f.maxM f.maxE, ⟨false, true⟩)
  | .fin neg m e =>
    let (n, q) := f.round m e
    if f.tooLarge n q then (.fin neg f.maxM f.maxE, ⟨false, true⟩) else flushFp ftz f (.fin neg n q)

/-! ### The exact dot product (R299..R301) -/

/-- floor(log2) of a nonzero finite magnitude. -/
def fpExp (m : Nat) (e : Int) : Int := (Nat.log2 m : Int) + e

/-- block_round of a block of products (R300, R301), before R295. -/
def blockRound (ps : List Fp) : Fp :=
  let infs := ps.filterMap fun p => match p with
    | .inf n => some n
    | _ => none
  if ps.contains .nan || (infs.contains true && infs.contains false) then .nan
  else
    match infs with
    | n :: _ => .inf n
    | [] =>
      let fs := ps.filterMap fun p => match p with
        | .fin n m e => if m = 0 then none else some (n, m, e)
        | _ => none
      match fs with
      | [] => .fin false 0 0
      | (_, m0, e0) :: _ =>
        let emax := fs.foldl (fun a p => max a (fpExp p.2.1 p.2.2)) (fpExp m0 e0)
        let k := emax - 80
        let term (p : Bool × Nat × Int) : Nat × Bool :=
          if k ≤ p.2.2 then (p.2.1 * 2 ^ (p.2.2 - k).toNat, false)
          else (p.2.1 / 2 ^ (k - p.2.2).toNat, decide (p.2.1 % 2 ^ (k - p.2.2).toNat ≠ 0))
        let acc : Int := (fs.map fun p => (if p.1 then -1 else 1) * ((term p).1 : Int)).sum
        let sticky := fs.any fun p => (term p).2
        if acc = 0 then .fin false 0 0
        else ofFp32 (toFp32 (.fin (decide (acc < 0)) (2 * acc.natAbs + sticky.toNat) (k - 1)))

/-- Split a list into blocks of 32. -/
def blocks32 (ps : List Fp) : List (List Fp) :=
  (List.range ((ps.length + 31) / 32)).map fun b => (ps.drop (32 * b)).take 32

/-- The pre-activation of a row (R299). -/
def dotRow (ftz : Bool) (ps : List Fp) (bias : Fp) : Fp × FpFlags :=
  let rs := (blocks32 ps).map fun b => flushFp ftz fmtFP32 (blockRound b)
  let add (a : Fp × FpFlags) (b : Fp × FpFlags) : Fp × FpFlags :=
    let (v, f) := formFp32 ftz (fpAdd a.1 b.1)
    (v, (a.2.or b.2).or f)
  match rs with
  | [] => (.fin false 0 0, noFlags)
  | r :: rest => add (rest.foldl add r) (bias, noFlags)

end Sys2Proof.Machine
end

