-- ==== Sys2Proof/Machine/Pins.lean ====
section
/-! DEFINITION. Machine/Pins.lean: the boundary-scan segment of R664 and what its cells drive (R665). -/

namespace Sys2Proof.Machine

/-- The digital balls of an instance that the boundary-scan segment covers (R654, R664). -/
inductive Ball where
  | fsSyncIn
  | fsPwm (p : Nat)
  | fsEn (p : Nat)
  | flCsN
  | flSck
  | flIo (k : Nat)
  | smbScl
  | smbSda
  | smbAlert
  | smbAsel (k : Nat)
  | vlWake (k : Nat)
  deriving DecidableEq, Repr

/-- The types of boundary-scan cells (R664): a control cell of 0 makes its ball high-impedance, and 1 in an open-drain
output drives its ball low. -/
inductive ScanType where
  | input | control | output | openDrain
  deriving DecidableEq, Repr

/-- The ball and the type of cell i of the segment, numbered from 0 at its TDO end (R664). -/
def scanCell (i : Nat) : Option (Ball × ScanType) :=
  if i = 0 then some (.fsSyncIn, .input)
  else if i ≤ 96 then
    let p := (i - 1) / 3
    some ([(.fsPwm p, .control), (.fsPwm p, .output)].getD ((i - 1) % 3) (.fsEn p, .output))
  else if i = 97 then some (.flCsN, .output)
  else if i = 98 then some (.flSck, .output)
  else if i ≤ 110 then some (.flIo ((i - 99) / 3), [.control, .output].getD ((i - 99) % 3) .input)
  else if i ≤ 116 then
    some ([.smbScl, .smbSda].getD ((i - 111) / 2) .smbAlert, if (i - 111) % 2 = 0 then .openDrain else .input)
  else if i ≤ 118 then some (.smbAsel (i - 117), .input)
  else if i ≤ 126 then some (.vlWake (i - 119), .input)
  else none

namespace State

/-- The content of cell i. -/
def scanBit (s : State) (i : Nat) : Bool := s.rst.cells.getLsbD i

/-- The cell of a type on a ball. -/
def scanOf (b : Ball) (ty : ScanType) : Option Nat := (List.range 127).find? fun i => scanCell i == some (b, ty)

/-- What the cells drive a ball to (R664, R665): nothing when its control cell is 0 or it has no output; 1 in an open-drain
output drives it low. -/
def scanLevel (s : State) (b : Ball) : Pwm :=
  match scanOf b .openDrain, scanOf b .output, scanOf b .control with
  | some i, _, _ => if s.scanBit i then .low else .hiZ
  | none, some i, some c => if !s.scanBit c then .hiZ else if s.scanBit i then .high else .low
  | none, some i, none => if s.scanBit i then .high else .low
  | none, none, _ => .hiZ

/-- The level of a flash pin of instance 0, where the spec states one (R638, R665): in power-on or instance reset the chip
select is high and the others high-impedance, except while records are programmed (R644). -/
def pinFlash (s : State) (b : Ball) : Option Pwm :=
  if s.rst.scan then some (s.scanLevel b)
  else if s.rst.inst && s.inst == 0 && s.hold.todo.isEmpty then some (if b = .flCsN then .high else .hiZ)
  else none

/-- Does the instance drive the package sideband, its AON lanes apart, and the epoch pulse line (R405, R638)? -/
def sidebandDriven (s : State) : Bool := !s.rst.inst

end State

end Sys2Proof.Machine
end

