-- ==== Sys2Proof/Machine/FrontOps.lean ====
section
/-! DEFINITION. Machine/FrontOps.lean: the front stage's shared operations (spec/05_front_stage.md): phases, ring,
triggers, phase count, latches, and the PMBus status bits (R629) that its events and those of other blocks latch. -/

namespace Sys2Proof.Machine

/-! ### PMBus status bits (R629, R630) -/

namespace State

/-- State of the front stage (R167). -/
def fsState (s : State) : Nat := s.get XPH_STAT.STATE

/-- State of phase p (R164). -/
def phState (s : State) (p : Nat) : Nat := s.get (XPH_PH_STAT.STATE p)

/-- Front stage LATCHED with one of these causes. -/
def latchedBy (s : State) (causes : List Nat) : Bool := s.fsState == 4 && causes.contains (s.get XPH_STAT.CAUSE)

/-- A phase LATCHED with one of these causes. -/
def phLatchedBy (s : State) (causes : List Nat) : Bool :=
  (List.range 32).any fun p => s.phState p == 5 && causes.contains (s.get (XPH_PH_STAT.LCAUSE p))

/-- The V12 sag sequence is in progress (R479, HOLD_SAG). -/
def sagOn (s : State) : Bool := s.get HOLD_STAT.STATE != 0

/-- The conditions of R629 that hold now, as STATUS_VOUT, _IOUT, _INPUT, _TEMPERATURE and _MFR_SPECIFIC bits. -/
def smbNow (s : State) : Nat × Nat × Nat × Nat × Nat :=
  let b (x : Bool) (k : Nat) : Nat := if x then 2 ^ k else 0
  let lv (q : Nat) : Nat := s.get (THM_GSTAT.LEVEL q)
  (b (s.fsState == 3 || s.latchedBy [1]) 7 + b (s.latchedBy [3, 4]) 4,
   b (s.latchedBy [2, 5] || s.phLatchedBy [1]) 7 +
     b ((List.range 32).any fun p => s.bit (XPH_PH_STAT.ILIM_SEEN p)) 5,
   b (s.latchedBy [6]) 7 + b (decide (s.get XPH_IN.V12 < 10800) || s.sagOn) 4,
   b (s.get THM_STAT.STATE != 0 || s.phLatchedBy [3, 4]) 7 +
     b ((s.listed (THM_GSTAT 0) 0x20 64).any fun q => lv q == 1 || lv q == 2) 6,
   b s.overrideOn 0 + b (s.bit CBSE_FIRST.OPEN) 1 + b (s.bit PWR_STAT.UNATTAIN) 2 + b (s.bit FW_STAT.HOST_LOST) 3 +
     b (s.liveRegions.any fun n => s.rgnState n == 5) 4 + b (s.bit PWR_STAT.SHARE_LOST) 5)

end State

/-- Every sub-status bit whose condition holds latches; a bit that newly latches asserts the alert (R629, R630). -/
def smbLatch (s : State) : State :=
  let (v, i, n, t, m) := s.smbNow
  let o := s.smb
  let o' := { o with vout := o.vout ||| v, iout := o.iout ||| i, input := o.input ||| n, temp := o.temp ||| t,
                     mfr := o.mfr ||| m }
  { s with smb := { o' with alert := o.alert || (s.bit MCH_SMB.ALERT_EN && o' != o) } }

/-! ### Phases and the ring -/

namespace State

/-- Hidden state of phase p. -/
def phid (s : State) (p : Nat) : PhHid := mapGet {} s.ph p

/-- Replace the hidden state of phase p. -/
def setPhid (s : State) (p : Nat) (h : PhHid) : State := { s with ph := mapSet {} s.ph p h }

/-- Is phase p in the pool (R164)? -/
def inPool (s : State) (p : Nat) : Bool := s.phState p == 2 || s.phState p == 3 || s.phState p == 4

/-- The pool, rising. -/
def pool (s : State) : List Nat := (List.range 32).filter s.inPool

/-- The phases in one state, rising. -/
def phasesIn (s : State) (st : Nat) : List Nat := (List.range 32).filter fun p => s.phState p == st

/-- The ring: the ACTIVE phases, rising (R180). -/
def actives (s : State) : List Nat := s.phasesIn 2

/-- SOFTSTART or RUN. -/
def fsRuns (s : State) : Bool := s.fsState == 1 || s.fsState == 2

/-- Is FS_EN[p] high (R164, R193)? -/
def fsEn (s : State) (p : Nat) : Bool := s.inPool p || (s.phid p).crow

/-- The level on pin FS_PWM[p] (R159, R163, R665). -/
def pinPwm (s : State) (p : Nat) : Pwm :=
  if s.rst.por then .hiZ
  else if s.rst.scan then s.scanLevel (.fsPwm p)
  else if s.rst.inst then .hiZ else (s.phid p).pwm

/-- The level on pin FS_EN[p] (R159, R163, R665): high-impedance only while the instance is unpowered. -/
def pinEn (s : State) (p : Nat) : Pwm :=
  if s.rst.por then .hiZ
  else if s.rst.scan then s.scanLevel (.fsEn p)
  else if s.rst.inst then .low else if s.fsEn p then .high else .low

/-- The voltage that FS_IREF is driven to, mV, or none for high-impedance (R159, R161, R163); SNS_PT_CTL.IREF drives it
while the front stage is OFF (R667). -/
def pinIref (s : State) : Option Nat :=
  if s.rst.por ∨ s.rst.inst ∨ (s.fsState = 0 ∧ !s.bit SNS_PT_CTL.IREF) then none else some 400

/-- A field of XPH_CFG as it applies: a write while the front stage is not OFF applies at the next trigger (R203). -/
def xphCfg (s : State) (f : Fld) : Nat := fldGet (s.xph.cfgWas.getD (s.rd XPH_CFG)) f.hi f.lo

/-- The phase after the one last triggered, in the ring (R180). -/
def nextPhase (s : State) : Option Nat :=
  let r := s.actives
  match s.xph.last with
  | none => r.head?
  | some l => (r.find? fun p => decide (l < p)).or r.head?

/-- Is phase p ready at CKX edge x: not in an on-time, and 128 ticks after its last one (R180)? -/
def phReady (s : State) (p x : Nat) : Bool :=
  (s.phid p).pwm != .high &&
    (match (s.phid p).ended with
     | none => true
     | some e => decide (e + 128 ≤ x))

/-- Have TBLANK ticks passed at CKX edge x since the previous trigger (R180)? -/
def blanked (s : State) (x : Nat) : Bool :=
  match s.xph.lastTrig with
  | none => true
  | some l => decide (l + s.get XPH_TLIM.TBLANK ≤ x)

/-- T_on[p] (R178): TON trimmed, halves upwards, limited to TON_MIN..TON_MAX. -/
def tOn (s : State) (p : Nat) : Nat :=
  let v := floorDiv ((s.get XPH_TON.TON : Int) * (512 + s.getI (XPH_PH_CFG.TRIM p)) + 256) 512
  max (s.get XPH_TLIM.TON_MIN) (min v.toNat (s.get XPH_TLIM.TON_MAX))

/-- The latest conversion of VIM sense point i (R175). -/
def vimPoint (s : State) (i : Nat) : Nat :=
  match i with
  | 0 => s.get XPH_VIMPT01.V0
  | 1 => s.get XPH_VIMPT01.V1
  | 2 => s.get XPH_VIMPT23.V2
  | _ => s.get XPH_VIMPT23.V3

end State

/-- The exclusion bit of VIM sense point i (R176). -/
def ptExcl (i : Nat) : Fld :=
  match i with
  | 0 => XPH_VIMPT01.EXCL0
  | 1 => XPH_VIMPT01.EXCL1
  | 2 => XPH_VIMPT23.EXCL2
  | _ => XPH_VIMPT23.EXCL3

/-- The sense points enabled and not excluded (R175). -/
def State.vimPoints (s : State) : List Nat :=
  (List.range 4).filter fun i => bitOf (s.get XPH_CFG.SNS_EN) i && !s.bit (ptExcl i)

/-- The TS from which a condition has held, given that of the evaluation before. -/
def heldFrom (holds : Bool) (was : Option Nat) (t : Nat) : Option Nat := if holds then some (was.getD t) else none

/-- The combined reading is compared with the reference and its margins (R172, R173, R197). -/
def vimWatch (s : State) : State :=
  let v : Int := (25 * s.get XPH_VIM.VIM : Nat)
  let r : Int := (s.xph.ref : Nat)
  let m : Int := (100 * s.get XPH_SS.NR_MARGIN : Nat)
  { s with xph := { s.xph with
      near := heldFrom (s.fsState == 1 && s.xph.refOn && decide ((v - r).natAbs ≤ 1000)) s.xph.near s.now,
      low := heldFrom (s.fsState == 1 && decide (v < r - m)) s.xph.low s.now,
      under := heldFrom (s.fsState == 2 && decide (v < r - 2 * m)) s.xph.under s.now } }

/-- Store the VIM reference and report it in whole codes (R171, R174). -/
def putVimRef (ref : Nat) (s : State) : State :=
  vimWatch (({ s with xph := { s.xph with ref := ref } }).put XPH_VIM.VREF (min 4095 ((2 * ref + 25) / 50)))

/-- The combined reading is the mean of the included points' latest conversions, to the nearest code (R175, R202); in the
first 20 µs of a start the reference follows it (R171). -/
def combineVim (s : State) : State :=
  match s.vimPoints with
  | [] => s
  | ps =>
    let s := s.put XPH_VIM.VIM ((2 * (ps.map s.vimPoint).sum + ps.length) / (2 * ps.length))
    if s.fsState = 1 ∧ !s.xph.refOn then putVimRef (25 * s.get XPH_VIM.VIM) s else vimWatch s

/-- The reference moves by at most `step` towards the set-point code (R171, R174). -/
def moveVimRef (step : Nat) (s : State) : State :=
  let target := 25 * s.get XPH_VSET.CODE
  let r := s.xph.ref
  putVimRef (if r ≤ target then min target (r + step) else max target (r - step)) s

/-! ### Ripple synthesis (R179) -/

/-- The ripple accumulator's update at one CKF edge (R179). An exact half in d is rounded upwards (log entry 128); with no V12
reading the quotient has no stated value. -/
def rippleEdge (s : State) : State :=
  let act := s.actives
  let v12 := s.get XPH_IN.V12
  let (d, s) : Int × State :=
    if act.isEmpty then (0, s)
    else if v12 = 0 then let (w, s) := s.drawFree; (w.toInt, s)
    else (floorDiv (2 * 1024 * (s.xph.ref : Int) + 20 * v12) (2 * 20 * v12), s)
  let nOn := (s.pool.filter fun p => (s.phid p).pwm == .high).length
  let a := satS 48 (s.xph.acc + (s.get XPH_RIP.KRIP : Nat) * (1024 * (nOn : Int) - d * (act.length : Nat)))
  let leak := s.get XPH_RIP.LEAK
  let a := if leak = 0 then a else a - floorDiv a (2 ^ leak)
  { s with xph := { s.xph with acc := a } }

/-- n CKF edges of the accumulator with everything else unchanged; an edge that changes nothing ends the work. -/
def rippleRun : Nat → State → State
  | 0, s => s
  | n + 1, s => let t := rippleEdge s; if t = s then s else rippleRun n t

/-- The accumulator takes in the CKF edges that have passed since it last did (R179). -/
def rippleCatch (s : State) : State :=
  let n := s.tim.edges - s.xph.ripEdges
  let s := rippleRun n s
  { s with xph := { s.xph with ripEdges := s.tim.edges } }

/-- rip (R179), in 0.25 mV. -/
def State.ripple (s : State) : Int := clampI (-512) 511 (floorDiv s.xph.acc (2 ^ 16))

/-- The combined VIM sense of `uv` microvolts plus the ripple stands at or below the reference less `depth` microvolts (R179,
R185). -/
def State.vimBelow (s : State) (uv depth : Nat) : Bool :=
  decide ((uv : Int) + 250 * s.ripple ≤ 50 * (s.xph.ref : Int) - (depth : Int))

/-- The first slot trigger that waits for phase p is used up (R184). -/
def slotUsed (p : Nat) : List (Nat × Nat) → List (Nat × Nat)
  | [] => []
  | e :: rest => if e.1 = p then rest else e :: slotUsed p rest

/-- A trigger of phase p at CKX edge x begins its on-time (R178), and writes of XPH_CFG apply (R203). -/
def firePhase (p x : Nat) (s : State) : State :=
  let s := s.setPhid p { s.phid p with pwm := .high, start := x, ton := s.tOn p }
  let s := { s with tlm := { s.tlm with ntrig := mapSet 0 s.tlm.ntrig p (mapGet 0 s.tlm.ntrig p + 1) } }
  { s with xph := { s.xph with last := some p, lastTrig := some x, trigs := s.xph.trigs + 1, cfgWas := none } }

/-- An on-time of phase p ends at CKX edge x: FS_PWM[p] is driven low (R182). -/
def endOnTime (p x run : Nat) (s : State) : State :=
  s.setPhid p { s.phid p with pwm := .low, ended := some x, ilimRun := run }

/-- A phase leaves the pool and stops: IDLE, or DISABLED with EN = 0 (R164). -/
def idlePhase (p : Nat) (s : State) : State :=
  let s := s.setPhid p { s.phid p with pwm := .hiZ, crow := false }
  s.put (XPH_PH_STAT.STATE p) (if s.bit (XPH_PH_CFG.EN p) then 1 else 0)

/-- Every pool phase becomes IDLE and nothing waits to fire; crowbarred outputs are released (R194, R197). -/
def idlePool (s : State) : State :=
  let s := s.each s.pool fun s p => idlePhase p s
  let s := s.each (s.ph.map Prod.fst) fun s p =>
    if (s.phid p).crow then s.setPhid p { s.phid p with pwm := .hiZ, crow := false } else s
  { s with xph := { s.xph with back := [], slots := [], dwell := false, refOn := false, near := none, low := none,
                               under := none, cfgWas := none } }

/-- The front stage latches with a cause (R197, R200, R201). -/
def frontLatch (cause : Nat) (s : State) : State :=
  let loaded := s.liveRegions.any fun n => s.rgnState n != 5
  let s := idlePool (rippleCatch s)
  let s := (((s.put XPH_STAT.STATE 4).put XPH_STAT.CAUSE cause).put XPH_STAT.PG 0).put XPH_EVT.LATCH 1
  smbLatch (({ s with xph := { s.xph with loaded := loaded } }).ring kXPH 0)

/-- A cause of R197 arises while the front stage is SOFTSTART or RUN. -/
def frontFault (cause : Nat) (s : State) : State := if s.fsRuns then frontLatch cause s else s

/-- Phase p latches with a cause (R193, R196): OT and STAGE in whatever state it is, the others in the pool. A crowbarred
phase keeps its outputs until release. OCP and ILIM in SOFTSTART are SHORT (R173); the fourth OCP within 10 µs in RUN is
MULTI_OC (R197). -/
def phaseLatch (p cause : Nat) (s : State) : State :=
  if s.phState p ≠ 5 ∧ (s.inPool p ∨ cause = 3 ∨ cause = 4) then
    let s := rippleCatch s
    let h := s.phid p
    let s := s.setPhid p { h with pwm := if h.crow then .low else .hiZ }
    let s := ((s.put (XPH_PH_STAT.LCAUSE p) cause).put (XPH_PH_STAT.STATE p) 5).put XPH_EVT.PH_LATCH 1
    let s := { s with xph := { s.xph with back := s.xph.back.filter (· != p), slots := s.xph.slots.filter (·.1 != p) } }
    let s := smbLatch ((s.pulse 7).ring kXPH 1)
    let recent := if cause = 1 then s.xph.ocp.filter (fun t => decide (s.now ≤ t + 8000)) ++ [s.now] else s.xph.ocp
    let s := { s with xph := { s.xph with ocp := recent } }
    if s.fsState = 1 ∧ (cause = 1 ∨ cause = 2) then frontLatch 2 s
    else if s.fsState = 2 ∧ cause = 1 ∧ 4 ≤ recent.length then frontLatch 5 s
    else s
  else s

/-! ### Phase count (R188..R191) -/

/-- N_req (R188), with IVIM as a current code and IPER in 0.25 A units of 4 codes. -/
def State.nReq (s : State) : Nat :=
  let npool := s.pool.length
  if s.xphCfg XPH_CFG.SHED_EN = 0 ∨ s.xph.hold then npool
  else
    let i := s.getI XPH_IVIM.IVIM
    let iper := 4 * s.get XPH_SHED.IPER
    let auto := if i ≤ 0 then 0 else (i.toNat + iper - 1) / iper
    min npool (max auto (max (s.get XPH_NREQ.NFC) (max (s.get XPH_NREQ.NSW) (s.xphCfg XPH_CFG.NMIN))))

/-- May R188 make phases ACTIVE: RUN, or SOFTSTART once its first 20 µs are over (R171)? -/
def State.counting (s : State) : Bool := s.fsState == 2 || (s.fsState == 1 && s.xph.refOn)

/-- k pool phases become ACTIVE, SHEDDING ones first and then SHED ones, lowest index first (R188); also answers which. One
whose EN is 0 is on its way to DISABLED and is not taken (R164, R166). -/
def addPhases (k : Nat) (s : State) : List Nat × State :=
  let ps := ((s.phasesIn 3 ++ s.phasesIn 4).filter fun p => s.bit (XPH_PH_CFG.EN p)).take k
  (ps, s.each ps fun s p => s.put (XPH_PH_STAT.STATE p) 2)

/-- The phase count follows N_req (R188): phases are added at once; the dwell runs while N_req stays below N_act. -/
def phaseCount (s : State) : State :=
  if s.counting then
    let want := s.nReq
    let have_ := s.actives.length
    let s := if have_ < want then (addPhases (want - have_) s).2 else s
    { s with xph := { s.xph with dwell := decide (want < have_) } }
  else s

/-- The highest ACTIVE phase becomes SHEDDING: its PWM goes low until zero current, after the on-time in progress (R164,
R188), also when zero current had already made it high-impedance (log entry 126). -/
def shedPhase (p : Nat) (s : State) : State :=
  let h := s.phid p
  let s := s.setPhid p (if h.pwm = .high then h else { h with pwm := .low })
  let s := s.put (XPH_PH_STAT.STATE p) 3
  { s with xph := { s.xph with back := s.xph.back.filter (· != p), slots := s.xph.slots.filter (·.1 != p) } }

/-- Sort a list of phases by index. -/
def byIndex (ps : List Nat) : List Nat := (List.range 32).filter ps.contains

/-- A detected step or a forecast add cancels any shed in progress; the phases that come back fire at once, in order of
index (R191). A phase whose EN is 0 goes on to DISABLED (R166; log entry 36). -/
def cancelShed (s : State) : State :=
  let s := rippleCatch s
  let shedding := if s.fsRuns then (s.phasesIn 3).filter fun p => s.bit (XPH_PH_CFG.EN p) else []
  let was := s.xph.dwell || !shedding.isEmpty
  let s := s.each shedding fun s p => s.put (XPH_PH_STAT.STATE p) 2
  let s := if was then (s.put XPH_EVT.SHED_CANCEL 1).ring kXPH 4 else s
  if s.counting then
    let (added, s) := addPhases (s.nReq - s.actives.length) s
    { s with xph := { s.xph with dwell := decide (s.nReq < s.actives.length),
                                 back := byIndex (s.xph.back ++ shedding ++ added) } }
  else { s with xph := { s.xph with dwell := false } }

/-- The forecast path writes its phase floor (R190); a floor above N_act is a forecast add. -/
def writeNfc (v : Nat) (s : State) : State :=
  let v := min v 63
  let s := s.put XPH_NREQ.NFC v
  if s.actives.length < v then cancelShed s else s

/-! ### Commands -/

/-- The preconditions of START (R169), and R474; the lock detector's hold counts as an override (R46). -/
def State.startReady (s : State) : Bool :=
  let v := s.get XPH_IN.V12
  s.locked && !s.overrideOn && !s.tim.lockSafe && decide (10800 ≤ v) && decide (v ≤ 13200) && s.get THM_STAT.STATE == 0 &&
    decide (s.get XPH_CFG.NMIN ≤
      ((List.range 32).filter fun p => s.bit (XPH_PH_CFG.EN p) && s.phState p != 5).length) &&
    decide (2 ≤ s.vimPoints.length)

/-- START is accepted (R171): FS_EN rises, every enabled phase is SHED, and the reference follows the VIM reading. -/
def startFront (s : State) : State :=
  let s := s.each (s.phasesIn 1) fun s p =>
    (s.setPhid p { s.phid p with pwm := .hiZ, ilimRun := 0 }).put (XPH_PH_STAT.STATE p) 4
  let s := { s with xph := { s.xph with acc := 0, ripEdges := s.tim.edges, refOn := false, last := none, lastTrig := none, dwell := false,
                                        back := [], slots := [] } }
  putVimRef (25 * s.get XPH_VIM.VIM) (s.put XPH_STAT.STATE 1)

/-- STOP is accepted: all phases IDLE, the front stage OFF (R169). -/
def stopFront (s : State) : State := ((idlePool (rippleCatch s)).put XPH_STAT.STATE 0).put XPH_STAT.PG 0

/-- Is the recorded latch cause gone (R199)? -/
def State.causeGone (s : State) : Bool :=
  match s.get XPH_STAT.CAUSE with
  | 1 => s.vimPoints.all fun i => decide (s.vimPoint i < s.get XPH_OV.OV)
  | 6 => decide (s.get XPH_IN.V12 ≤ 13200)
  | 7 => decide (2 ≤ s.vimPoints.length)
  | 8 => !s.overrideOn && !s.tim.lockSafe
  | 9 => !s.overrideOn && !s.tim.lockSafe
  | _ => true

/-- A write of XPH_CMD.OP (R169, R170). -/
def frontCommand (op : Nat) (s : State) : State :=
  if s.bit XPH_CMD.PEND then s
  else
    let st := s.fsState
    let (res, s) : Nat × State :=
      match op with
      | 0 => (stOK, s)
      | 1 =>
        if st = 0 then (if s.startReady then (stOK, startFront s) else (stNOTREADY, s))
        else if s.get THM_STAT.STATE ≠ 0 then (stNOTREADY, s)
        else (if st = 1 ∨ st = 2 then stOK else stNOTREADY, s)
      | 2 =>
        if st = 1 ∨ st = 2 then
          (if s.liveRegions.all (fun n => s.rgnState n == 5) then (stOK, stopFront s) else (stNOTREADY, s))
        else (if st = 3 then stBUSY else stOK, s)
      | 3 =>
        if st = 4 then (if s.causeGone then (stOK, s.put XPH_STAT.STATE 0) else (stBUSY, s)) else (stNOTREADY, s)
      | _ => (stBADPARAM, s)
    ((s.put XPH_CMD.PEND 0).put XPH_CMD.RES res).ring kXPH 7

/-! ### Register writes with rules of their own -/

/-- A write of XPH_CFG (R203): while the front stage is not OFF, MODE and SNS_EN keep their values and the other fields apply
at the next trigger; leaving SYNC drops the lock. -/
def xphCfgWrite (v : Word) (s : State) : State :=
  let mode := s.get XPH_CFG.MODE
  let en := s.get XPH_CFG.SNS_EN
  let was := some (s.xph.cfgWas.getD (s.rd XPH_CFG))
  let s := storeReg XPH_CFG v s
  let s :=
    if s.fsState = 0 then s
    else { (s.put XPH_CFG.MODE mode).put XPH_CFG.SNS_EN en with xph := { s.xph with cfgWas := was } }
  combineVim
    (if s.get XPH_CFG.MODE = 0 then
      { s.put XPH_STAT.SYNC_LOCK 0 with xph := { s.xph with slots := [], periods := [] } }
    else s)

/-- A write of XPH_OCP (R203): a write that would make ILIM reach OCP leaves both. -/
def xphOcpWrite (v : Word) (s : State) : State :=
  let old := s.rd XPH_OCP
  let s := storeReg XPH_OCP v s
  if s.get XPH_OCP.OCP ≤ s.get XPH_OCP.ILIM then
    (s.put XPH_OCP.OCP (fldGet old 23 16)).put XPH_OCP.ILIM (fldGet old 15 8)
  else s

/-- A write of XPH_VIMPT01 or XPH_VIMPT23: 1 in an EXCL bit re-includes the point (R176). -/
def vimPtWrite (hi : Bool) (v : Word) (s : State) : State :=
  combineVim (storeReg (if hi then XPH_VIMPT23 else XPH_VIMPT01) v s)

/-- A write of EN to phase p (R166). -/
def phaseEnable (p : Nat) (en : Bool) (s : State) : State :=
  let st := s.phState p
  let was := s.bit (XPH_PH_CFG.EN p)
  let s := s.putB (XPH_PH_CFG.EN p) en
  let s :=
    if was ∧ !en then
      (match st with
       | 1 => s.put (XPH_PH_STAT.STATE p) 0
       | 2 => shedPhase p s
       | 4 => s.put (XPH_PH_STAT.STATE p) 0
       | _ => s)
    else if en ∧ st = 0 then s.put (XPH_PH_STAT.STATE p) (if s.fsRuns then 4 else 1)
    else s
  phaseCount s

/-- A write of XPH_PH_CFG[p] (R166, R187): TRIM outside −64..+64 is left. -/
def phCfgWrite (p : Nat) (v : Word) (s : State) : State :=
  let trim := toSigned 8 (fldGet v 7 0)
  let s := s.put (XPH_PH_CFG.OFS p) (fldGet v 21 16)
  let s := if -64 ≤ trim ∧ trim ≤ 64 then s.putI (XPH_PH_CFG.TRIM p) trim else s
  phaseEnable p (fldGet v 31 31 == 1) s

/-- A write of 1 to XPH_PH_CTRL[p].CLR (R199): to a LATCHED phase whose cause is gone. -/
def phaseClear (p : Nat) (s : State) : State :=
  let gone : Bool :=
    match s.get (XPH_PH_STAT.LCAUSE p) with
    | 3 => decide (s.get (XPH_PH_MEAS.TEMP p) + 10 < s.get XPH_OCP.OT)
    | 4 => decide ((s.phid p).tmon < 16320)
    | _ => true
  if s.phState p = 5 ∧ gone then
    s.put (XPH_PH_STAT.STATE p) (if !s.bit (XPH_PH_CFG.EN p) then 0 else if s.fsRuns then 4 else 1)
  else s

/-- OFS_eff of ring position i with n ACTIVE phases (R184). -/
def State.slotOffset (s : State) (p i n : Nat) : Nat :=
  if s.xphCfg XPH_CFG.AUTO_OFS = 1 then (64 * i + n / 2) / n else s.get (XPH_PH_CFG.OFS p)

/-- A rising edge of FS_SYNC_IN at CKX edge x with period P: the slots of the ring are computed anew (R184), an exact half
rounded upwards (log entry 128); a slot trigger that still waits for its phase goes on waiting. -/
def syncEdge (x period : Nat) (s : State) : State :=
  let r := s.actives
  let n := r.length
  let slots := r.zipIdx.map fun e => (e.1, x + (2 * s.slotOffset e.1 e.2 n * period + 64) / 128)
  { s with xph := { s.xph with slots := s.xph.slots.filter (fun e => decide (e.2 ≤ x)) ++ slots } }

/-- |a − b| of two numbers. -/
def codeGap (a b : Nat) : Nat := (a - b) + (b - a)

/-- A period of FS_SYNC_IN is measured (R183). -/
def syncPeriod (period : Nat) (s : State) : State :=
  { s with xph := { s.xph with period := period,
                               periods := (s.xph.periods ++ [period]).drop (s.xph.periods.length - 7) } }

/-- Is a period of FS_SYNC_IN within the range of R183? -/
def syncRange (p : Nat) : Bool := decide (2133 ≤ p) && decide (p ≤ 5334)

/-- Do the latest 8 periods each lie in range and within 1 % of the first of them (R183)? -/
def State.syncMet (s : State) : Bool :=
  match s.xph.periods with
  | [] => false
  | p :: ps => ps.length == 7 && (p :: ps).all fun q => syncRange q && decide (100 * codeGap p q ≤ p)

/-- Sync is lost (R186, R200, R201). -/
def syncLost (s : State) : State :=
  if s.bit XPH_STAT.SYNC_LOCK then
    let s := (s.put XPH_STAT.SYNC_LOCK 0).put XPH_EVT.SYNC_LOST 1
    let s := { s with xph := { s.xph with slots := [], periods := [], lostSync := true } }
    (s.pulse 9).ring kXPH 5
  else s

/-! ### Load steps (R189) -/

/-- ISEA: the sum of RGN_ISUM over all regions, in current codes. -/
def State.isea (s : State) : Int :=
  (((s.listed (RGN_ISUM 0) 0x100 256).filter (· != 0)).map fun n => s.getI (RGN_ISUM.I n)).sum

/-- ISEA of the present CKS edge is kept for the 64 edges that follow. -/
def iseaKeep (s : State) : State :=
  let v := s.isea
  let l := s.xph.isea
  if (l.headD (0, 0)).2 = v then s
  else
    let young := l.filter fun e => decide (s.cks < e.1 + 64)
    let old := (l.filter fun e => decide (e.1 + 64 ≤ s.cks)).take 1
    { s with xph := { s.xph with isea := (s.cks, v) :: (young ++ old) } }

/-- ISEA of 64 CKS edges ago. -/
def State.iseaBefore (s : State) : Int :=
  match s.xph.isea.find? fun e => decide (e.1 + 64 ≤ s.cks) with
  | some e => e.2
  | none => 0

/-- Does ISEA exceed that of 64 CKS edges ago by STEP_TH amperes or more (R189)? 0 disables detection. -/
def State.stepSeen (s : State) : Bool :=
  s.get XPH_SHED.STEP_TH != 0 && decide ((16 * s.get XPH_SHED.STEP_TH : Nat) ≤ s.isea - s.iseaBefore)

/-- What an event of the front stage does out of reset, after the ripple accumulator has taken in the edges passed. -/
def State.front (s : State) (k : State → State) : State := s.running fun s => k (rippleCatch s)

/-- The same at TS t. -/
def State.frontAt (s : State) (t : Dword) (k : State → State) : State :=
  s.running fun s => k (rippleCatch (s.advanceTo t))

end Sys2Proof.Machine
end

