-- ==== Sys2Proof/Machine/ProfileOps.lean ====
section
/-! DEFINITION. Machine/ProfileOps.lean: the exact arithmetic of R218 and the profile generators (R240..R243). -/

namespace Sys2Proof.Machine

/-- v limited to −2^63..2^63 − 1 (R218). -/
def sat64 (v : Int) : Int := satS 64 v
/-- v limited to −2^31..2^31 − 1 (R218). -/
def sat32 (v : Int) : Int := satS 32 v
/-- The rounding right shift: halves towards plus infinity (R218). -/
def rshr (v : Int) (s : Nat) : Int := if s = 0 then v else floorDiv (v + (2 ^ (s - 1) : Nat)) (2 ^ s)
/-- max(lo, min(v, hi)): lo wins when lo > hi (R218). -/
def lim (v lo hi : Int) : Int := max lo (min v hi)
/-- −1, 0 or 1. -/
def sgn (v : Int) : Int := if v < 0 then -1 else if v = 0 then 0 else 1
/-- floor(√m) for m < 2^64, bit by bit (R240). -/
def isqrt (m : Nat) : Nat :=
  (List.range 32).foldl (fun r i => let t := r + 2 ^ (31 - i); if t * t ≤ m then t else r) 0
/-- A product or sum that would exceed 2^64 − 1 is taken as 2^64 − 1 (R240). -/
def cap64 (v : Nat) : Nat := min v (2 ^ 64 - 1)

namespace State

/-- Position X of generator j. -/
def pgX (s : State) (j : Nat) : Int := toSigned 64 (s.get64 (PG_X_LO j))

/-- Regions with PG_EN = 1 whose live RGN_PROF names generator j (R242). -/
def pgRegions (s : State) (j : Nat) : List Nat :=
  (s.listed (rgnWord 0 0x7C) 0x100 256).filter fun n =>
    n != 0 && s.bit (RGN_PROF_LIVE.PG_EN n) && s.get (RGN_PROF_LIVE.PG n) == j

/-- Is generator j bound (R242)? -/
def pgBound (s : State) (j : Nat) : Bool := !(s.pgRegions j).isEmpty

/-- Does generator j step now: its region ON or LAME while bound (R242), EN otherwise (R243)? -/
def pgSteps (s : State) (j : Nat) : Bool :=
  if s.pgBound j then (s.pgRegions j).any (fun n => s.rgnState n == rON || s.rgnState n == rLAME)
  else s.bit (PG_CFG.EN j)

end State

/-- PG_OUT and PG_STAT.DONE follow X, V, A and the target (R240, R241); DONE set anew is an event (R250, R251). -/
def pgRefresh (j : Nat) (s : State) : State :=
  let x := s.pgX j
  let was := s.bit (PG_STAT.DONE j)
  let s := s.wrI (PG_OUT j) (sat32 (rshr x 16))
  let s := s.putB (PG_STAT.DONE j)
    (decide (x = s.numI (PG_TGT j) * 65536) && decide (s.num (PG_V j) = 0) && decide (s.num (PG_A j) = 0))
  if !was && s.bit (PG_STAT.DONE j) then (s.put LPE_EVT.PGDONE 1).ring kLPE 4 else s

/-- Generator j takes a new target and goes on from its present x, v and a (R241). -/
def pgTarget (j : Nat) (v : Int) (s : State) : State := pgRefresh j (s.wrI (PG_TGT j) v)

/-- Generator j is placed at rest at a set-point code (R242). -/
def pgLoad (j code : Nat) (s : State) : State :=
  pgRefresh j ((((s.put64 (PG_X_LO j) (65536 * code)).wrN (PG_V j) 0).wrN (PG_A j) 0).wrN (PG_TGT j) code)

/-- One jerk-limited step of generator j (R240, R241). -/
def pgStep (j : Nat) (s : State) : State :=
  let amax := s.get (PG_AMAX.LIMIT j)
  let vmax := s.get (PG_VMAX.LIMIT j)
  let jmax := s.get (PG_JMAX.LIMIT j)
  let tgt := s.numI (PG_TGT j) * 65536
  let x := s.pgX j
  let v := s.numI (PG_V j)
  let a := s.numI (PG_A j)
  let e := sat64 (tgt - x)
  let d := e.natAbs
  let qa := amax * amax / (2 * max 1 jmax)
  let vlim : Int := isqrt (cap64 (cap64 (qa * qa) + cap64 (2 * amax * d))) - (qa : Int)
  let vc := sgn e * min (vmax : Int) vlim
  let ac := lim (vc - v) (-amax) amax
  let a := a + lim (ac - a) (-jmax) jmax
  let v := lim (v + a) (-vmax) vmax
  let x := sat64 (x + v)
  let e' := sat64 (tgt - x)
  let s := if sgn e ≠ 0 ∧ sgn e' = -sgn e then s.put (PG_STAT.OVS j) 1 else s
  let place := decide (e'.natAbs ≤ jmax) && decide (v.natAbs ≤ jmax) && decide (a.natAbs ≤ jmax)
  let (x, v, a) := if place then (tgt, (0 : Int), (0 : Int)) else (x, v, a)
  pgRefresh j (((s.put64 (PG_X_LO j) (ofSigned 64 x)).wrI (PG_V j) v).wrI (PG_A j) a)

/-- The first base tick at which region n is ON after RAMPING: a generator bound to it is placed at the ramp's end value; one
bound later is not (R242). -/
def pgFirst (n : Nat) (s : State) : State :=
  if (s.rhid n).pgLoad ∧ s.rgnState n = rON then
    let s := s.setRhid n { s.rhid n with pgLoad := false }
    if s.bit (RGN_PROF_LIVE.PG_EN n) then pgLoad (s.get (RGN_PROF_LIVE.PG n)) (s.get (RGN_VSET.CODE n)) s else s
  else s

/-- The profile generators' part of a base tick of frame f (R206 step 1, R240, R242, R244). -/
def pgTick (f : Nat) (s : State) : State :=
  let s := s.each s.liveRegions fun s n => pgFirst n s
  s.each (List.range 16) fun s j =>
    if s.pgSteps j ∧ f % 2 ^ s.get (PG_CFG.RATE j) = 0 then
      let s := pgStep j s
      traceSignal 4 (fun s ch => s.get (TRC_CH_CFG.IDX ch) == j) (s.numI (PG_OUT j)) s
    else s

/-- A write to a generator's register (R241..R243): limits of 0 are stored as 1; while bound, EN, TGT and the states are
not written, and the states only while EN = 0. -/
def pgWrite (j o : Nat) (v : Word) (s : State) : State :=
  let bound := s.pgBound j
  let a := PG_CFG j + o
  if o = 0x00 then
    let keep := s.get (PG_CFG.EN j)
    let s := storeReg a v s
    if bound then s.put (PG_CFG.EN j) keep else s
  else if o = 0x08 then if bound then s else pgTarget j v.toInt s
  else if o = 0x10 ∨ o = 0x14 ∨ o = 0x18 then
    s.wr a (if fldGet v 30 0 = 0 then 1 else BitVec.ofNat 32 (fldGet v 30 0))
  else if o = 0x20 ∨ o = 0x24 ∨ o = 0x28 ∨ o = 0x2C then
    if bound ∨ s.bit (PG_CFG.EN j) then s else pgRefresh j (s.wr a v)
  else storeReg a v s

/-- A write to RGN_VSET[n] (R129): the clamped code becomes the profile's target while the region is ON or LAME with
PG_EN = 1; otherwise it takes effect at the next region loop tick. -/
def vsetWrite (n : Nat) (v : Word) (s : State) : State :=
  let s := storeReg (RGN_VSET n) v s
  if s.profiled n then pgTarget (s.get (RGN_PROF_LIVE.PG n)) (s.get (RGN_VSET.CODE n) : Nat) s else s

end Sys2Proof.Machine
end

