-- ==== Sys2Proof/Machine/LoopOps.lean ====
section
/-! DEFINITION. Machine/LoopOps.lean: the Loop Engine (spec/06_loop_engine.md): headers, sources, arithmetic of R219..R226,
destinations, validation and schedule of R210 and R236, and the writes its rules restrict. -/

namespace Sys2Proof.Machine

/-- A quotient rounded to the nearest integer, halves upwards. -/
def rdiv (a b : Nat) : Nat := (2 * a + b) / (2 * b)

/-! ### Headers -/

/-- The four header words of a descriptor (R209, R252). -/
structure LoopHdr where
  cfg : Word
  src : Word
  src2 : Word
  dst : Word
  deriving DecidableEq, Repr

/-- EN. -/
def LoopHdr.en (h : LoopHdr) : Bool := fldGet h.cfg 31 31 == 1
/-- KIND. -/
def LoopHdr.kind (h : LoopHdr) : Nat := fldGet h.cfg 30 28
/-- KIND is BAL. -/
def LoopHdr.bal (h : LoopHdr) : Bool := h.kind == 1
/-- FMT. -/
def LoopHdr.bfp (h : LoopHdr) : Bool := fldGet h.cfg 27 27 == 1
/-- NOTCH. -/
def LoopHdr.notch (h : LoopHdr) : Bool := fldGet h.cfg 26 26 == 1
/-- AW. -/
def LoopHdr.aw (h : LoopHdr) : Bool := fldGet h.cfg 25 25 == 1
/-- RSTV. -/
def LoopHdr.rstv (h : LoopHdr) : Bool := fldGet h.cfg 24 24 == 1
/-- NSEC. -/
def LoopHdr.nsec (h : LoopHdr) : Nat := fldGet h.cfg 23 20
/-- RATE. -/
def LoopHdr.rate (h : LoopHdr) : Nat := fldGet h.cfg 19 16
/-- PHASE. -/
def LoopHdr.phase (h : LoopHdr) : Nat := fldGet h.cfg 14 0
/-- The selectors of sources A, B and C: TYPE and IDX. -/
def LoopHdr.sources (h : LoopHdr) : List (Nat × Nat) :=
  [(fldGet h.src 15 10, fldGet h.src 9 0), (fldGet h.src 31 26, fldGet h.src 25 16),
   (fldGet h.src2 15 10, fldGet h.src2 9 0)]
/-- Destination TYPE. -/
def LoopHdr.dtype (h : LoopHdr) : Nat := fldGet h.dst 15 10
/-- Destination IDX. -/
def LoopHdr.didx (h : LoopHdr) : Nat := fldGet h.dst 9 0
/-- SPMASK. -/
def LoopHdr.spmask (h : LoopHdr) : Nat := fldGet h.dst 31 16
/-- The sections run, in order (R220). -/
def LoopHdr.sections (h : LoopHdr) : List Nat := List.range h.nsec ++ (if h.notch then [8] else [])
/-- Does the loop have a tick in frame f (R205)? -/
def LoopHdr.due (h : LoopHdr) (f : Nat) : Bool := f % 2 ^ h.rate == h.phase

namespace State

/-- Live header of descriptor k. -/
def liveHdr (s : State) (k : Nat) : LoopHdr :=
  ⟨s.rd (LPE_LIVE_DCFG k), s.rd (LPE_LIVE_DSRC k), s.rd (LPE_LIVE_DSRC2 k), s.rd (LPE_LIVE_DDST k)⟩

/-- Shadow header of descriptor k. -/
def shadowHdr (s : State) (k : Nat) : LoopHdr :=
  ⟨s.rd (LPE_DCFG k), s.rd (LPE_DSRC k), s.rd (LPE_DSRC2 k), s.rd (LPE_DDST k)⟩

/-- Descriptors whose live EN is 1, rising. -/
def liveLoops (s : State) : List Nat := (s.listed (LPE_LIVE_DCFG 0) 0x10 512).filter fun k => (s.liveHdr k).en

/-- Descriptors whose shadow EN is 1, rising. -/
def shadowLoops (s : State) : List Nat := (s.listed (LPE_DCFG 0) 0x200 512).filter fun k => (s.shadowHdr k).en

/-- Loop Engine state of descriptor k beside its words. -/
def loopHid (s : State) (k : Nat) : LoopHid := mapGet {} s.loop k

/-- Replace it. -/
def setLoopHid (s : State) (k : Nat) (h : LoopHid) : State := { s with loop := mapSet {} s.loop k h }

/-! ### Sources (R228, R229) -/

/-- Does region n give its loops references and currents: RAMPING, ON, LAME or DRAINING? -/
def rgnAtWork (s : State) (n : Nat) : Bool := poweredState (s.rgnState n)

/-- IMEAN (R229). -/
def imean (s : State) : Int :=
  let a := s.actives
  if a.isEmpty then 0
  else floorDiv (2 * (a.map fun p => s.getI (XPH_PH_MEAS.I p)).sum + a.length) (2 * a.length)

/-- TONFF (R229). -/
def tonff (s : State) : Nat :=
  let vref := s.get XPH_VIM.VREF
  let v12 := s.get XPH_IN.V12
  if s.bit XPH_STAT.SYNC_LOCK then rdiv (5 * vref * s.xph.period) (4 * v12)
  else rdiv (4000000 * vref) (v12 * s.get XPH_FSW.FSW)

/-- The value of a source for BAL channel or SISO phase index idx; none while it is not valid (R228). -/
def source (s : State) (type idx : Nat) : Option Int :=
  let given (ok : Bool) (v : Int) : Option Int := if ok then some v else none
  match type with
  | 0 => some 0
  | 1 => given (s.bit (VSN_VMIN.VALID idx) && s.rgnAtWork idx) (4 * s.get (VSN_VMIN.V idx) : Nat)
  | 2 =>
    let st := s.rgnState idx
    given (s.rgnAtWork idx)
      (if st = rON ∨ st = rLAME then (1600 + 5 * s.get (RGN_VEFF.CODE idx) : Nat) else ((s.rhid idx).ref : Nat))
  | 3 => given (s.rgnAtWork idx) (s.getI (RGN_ISUM.I idx))
  | 4 => given (s.cpmRuns idx) (s.getI (AGE_RGN1.CPM idx))
  | 5 => given s.fsRuns (s.get XPH_VIM.VIM : Nat)
  | 6 => given s.fsRuns (s.get XPH_VIM.VREF : Nat)
  | 7 =>
    if s.fsState = 2 ∧ s.get XPH_CFG.MODE = 0 then s.xph.fmeas.map (fun m => m - (s.get XPH_FSW.FSW : Nat)) else none
  | 8 => given (s.fsRuns && decide (0 < s.get XPH_IN.V12)) (s.tonff : Nat)
  | 9 => given (s.phState idx == 2) (s.getI (XPH_PH_MEAS.I idx) - s.imean)
  | 10 => given s.fsRuns (s.getI XPH_IVIM.IVIM)
  | 11 => (s.loopHid idx).applied
  | 12 => given (s.bit (PG_CFG.EN idx) || s.pgBound idx) (s.numI (PG_OUT idx))
  | 13 => some (s.getI (TTB_RGN.FCI idx))
  | _ => none

end State

/-! ### Arithmetic (R218..R226) -/

/-- v limited by sat64, and whether that changed it. -/
def lim64 (v : Int) : Int × Bool := (sat64 v, sat64 v != v)

/-- v limited by sat32, and whether that changed it. -/
def lim32 (v : Int) : Int × Bool := (sat32 v, sat32 v != v)

/-- The input stage (R219): x0, and whether anything saturated. -/
def inputStage (a b ga gb ofs : Int) (ish : Nat) : Int × Bool :=
  let (t, f1) := lim64 (a * ga + b * gb)
  let (u, f2) := lim64 (t + ofs)
  let (x, f3) := lim32 (rshr u ish)
  (x, f1 || f2 || f3)

/-- One section's words: coefficients b0 b1 b2 a1 a2, the SSH word, and states x1 x2 y1 y2 (R221). -/
structure Section where
  coef : List Word
  ssh : Word
  x1 : Int
  x2 : Int
  y1 : Int
  y2 : Int
  deriving DecidableEq, Repr

/-- A section in fixed-point format (R222). -/
def sectionFix (c : Section) (x0 : Int) : Int × Bool :=
  let step (acc : Int × Bool) (e : Word × Int × Nat) : Int × Bool :=
    let (v, f) := lim64 (acc.1 + rshr (e.1.toInt * e.2.1) (fldGet c.ssh (5 * e.2.2 + 4) (5 * e.2.2)))
    (v, acc.2 || f)
  let terms := c.coef.zip ([x0, c.x1, c.x2, c.y1, c.y2].zip (List.range 5))
  let (acc, f) := terms.foldl step (0, false)
  let (y, g) := lim32 acc
  (y, f || g)

/-- A section in block floating-point format (R223). -/
def sectionBfp (c : Section) (x0 : Int) : Int × Bool :=
  let acc := ((c.coef.zip [x0, c.x1, c.x2, c.y1, c.y2]).map fun e => toSigned 24 (fldGet e.1 23 0) * e.2).sum
  let e := toSigned 8 (fldGet c.ssh 31 24)
  lim32 (if 0 ≤ e then acc * 2 ^ e.toNat else rshr acc (min (-e).toNat 63))

/-- The output stage (R225): w, u and whether anything saturated. -/
def outputStage (y c go gc : Int) (osh : Nat) (omin omax : Int) : Int × Int × Bool :=
  let (t, f1) := lim64 (y * go)
  let (t, f2) := lim64 (t + c * gc)
  let (w, f3) := lim32 (rshr t osh)
  (w, lim w omin omax, f1 || f2 || f3)

/-- What one section did at a tick: its index, input, output and whether it saturated. -/
structure SecRun where
  ix : Nat
  x0 : Int
  y0 : Int
  sat : Bool
  deriving DecidableEq, Repr

/-- The cascade (R220): the sections run in order, and its output. -/
def cascade (bfp : Bool) (secs : List (Nat × Section)) (x0 : Int) : List SecRun × Int :=
  secs.foldl
    (fun acc e =>
      let (y, f) := if bfp then sectionBfp e.2 acc.2 else sectionFix e.2 acc.2
      (acc.1 ++ [⟨e.1, acc.2, y, f⟩], y)) ([], x0)

/-! ### One tick of a loop (R215, R219..R231) -/

/-- Section i of descriptor k; BAL channel p's states when p is given. -/
def State.sectionOf (s : State) (k i : Nat) (p : Option Nat) : Section :=
  let coef := [s.rd (LPE_SEC_B0 k i), s.rd (LPE_SEC_B1 k i), s.rd (LPE_SEC_B2 k i), s.rd (LPE_SEC_A1 k i),
    s.rd (LPE_SEC_A2 k i)]
  match p with
  | none =>
    ⟨coef, s.rd (LPE_SEC_SSH k i), s.numI (LPE_SEC_X1 k i), s.numI (LPE_SEC_X2 k i), s.numI (LPE_SEC_Y1 k i),
      s.numI (LPE_SEC_Y2 k i)⟩
  | some p =>
    ⟨coef, s.rd (LPE_SEC_SSH k i), s.numI (LPE_BAL_X1 p), s.numI (LPE_BAL_X2 p), s.numI (LPE_BAL_Y1 p),
      s.numI (LPE_BAL_Y2 p)⟩

/-- Store the states of section i of descriptor k, or of BAL channel p. -/
def putSection (k i : Nat) (p : Option Nat) (x1 x2 y1 y2 : Int) (s : State) : State :=
  match p with
  | none => (((s.wrI (LPE_SEC_X1 k i) x1).wrI (LPE_SEC_X2 k i) x2).wrI (LPE_SEC_Y1 k i) y1).wrI (LPE_SEC_Y2 k i) y2
  | some p => (((s.wrI (LPE_BAL_X1 p) x1).wrI (LPE_BAL_X2 p) x2).wrI (LPE_BAL_Y1 p) y1).wrI (LPE_BAL_Y2 p) y2

/-- Every section state of the loop, or of the channel, is set to zero (R231). -/
def clearSections (k : Nat) (p : Option Nat) (s : State) : State :=
  match p with
  | none => s.each (List.range 9) fun s i => putSection k i none 0 0 0 0 s
  | some _ => putSection k 0 p 0 0 0 0 s

/-- Sticky saturation flags of loop k (R224, R227): a flag that goes from 0 to 1 is an event. -/
def noteSaturation (k : Nat) (inp out : Bool) (secs : List Nat) (s : State) : State :=
  let old := s.num (LPE_DSTAT k)
  let add := (if inp then 2 ^ 9 else 0) + (if out then 2 ^ 10 else 0) + (secs.map (2 ^ ·)).sum
  let s := s.wrN (LPE_DSTAT k) (old ||| add)
  let s :=
    if s.num (LPE_DSTAT k) ≠ old then
      let s := s.wr (LPE_SAT (k / 32)) (s.rd (LPE_SAT (k / 32)) ||| BitVec.ofNat 32 (2 ^ (k % 32)))
      (s.put LPE_EVT.SAT 1).ring kLPE 0
    else s
  if add ≠ 0 ∧ s.get TRC_TRIG.SRC = 2 ∧ s.get TRC_TRIG.IDX = k then traceTrigger 2 s else s

/-- Is the trace channel ch set to loop k, and to channel p of a BAL loop? -/
def traceLoop (k : Nat) (p : Option Nat) (s : State) (ch : Nat) : Bool :=
  s.get (TRC_CH_CFG.IDX ch) == k &&
    (match p with
     | none => true
     | some p => s.get (TRC_CH_CFG.PH ch) == p)

/-- Loop k, or BAL channel p of it, computes from sampled sources a, b and c; answers its output (R219..R227). -/
def loopCompute (k : Nat) (h : LoopHdr) (p : Option Nat) (a b c : Int) (s : State) : Int × State :=
  let single := p.isNone
  let (x0, fin) := inputStage a b (s.numI (LPE_GA k)) (if single then s.numI (LPE_GB k) else 0) (s.numI (LPE_OFS k))
    (s.get (LPE_SHIFTS.ISH k))
  let secs := if single then h.sections else [0]
  let before := secs.map fun i => (i, s.sectionOf k i p)
  let (runs, y) := cascade h.bfp before x0
  let (w, u, fout) := outputStage y c (s.numI (LPE_GO k)) (if single then s.numI (LPE_GC k) else 0)
    (s.get (LPE_SHIFTS.OSH k)) (s.numI (LPE_OMIN k)) (s.numI (LPE_OMAX k))
  let s :=
    if h.aw ∧ u ≠ w then s
    else
      s.each (runs.zip before) fun s e => putSection k e.1.ix p e.1.x0 e.2.2.x1 e.1.y0 e.2.2.y1 s
  let s := if u ≠ w then s.put (LPE_DSTAT.LIM k) 1 else s
  let s := (s.wrI (LPE_DU k) u).wrI (LPE_DX k) x0
  let s := traceSignal 0 (traceLoop k p) x0 s
  let s := s.each runs fun s r =>
    traceSignal 1 (fun s ch => traceLoop k p s ch && s.get (TRC_CH_CFG.SEC ch) == r.ix) r.y0 s
  (u, noteSaturation k fin fout ((runs.filter (·.sat)).map (·.ix)) s)

/-- One channel of BAL loop k at a tick (R230, R231 for the channel). -/
def balChannel (k : Nat) (h : LoopHdr) (fresh : Bool) (p : Nat) (s : State) : State :=
  match s.source 9 p with
  | none =>
    let d := s.loopHid k
    (s.setLoopHid k { d with balSkip := setBitN d.balSkip p }).put (LPE_DSTAT.SKIP k) 1
  | some a =>
    let d := s.loopHid k
    let s := if h.rstv ∧ (fresh ∨ bitOf d.balSkip p) then clearSections k (some p) s else s
    let (u, s) := loopCompute k h (some p) a 0 0 s
    s.setLoopHid k { s.loopHid k with balPend := mapInsert (mapErase (s.loopHid k).balPend p) p u,
                                      balSkip := clearBitN d.balSkip p }

/-- Loop k has a tick: it is held (R215), skips (R230), or samples its sources and computes. -/
def loopTick (k : Nat) (s : State) : State :=
  let h := s.liveHdr k
  let d := s.loopHid k
  let s := s.setLoopHid k { d with fresh := false }
  if s.bit (LPE_DCTL.HOLD k) then s.put (LPE_DSTAT.HOLDING k) 1
  else
    let s := s.put (LPE_DSTAT.HOLDING k) 0
    if h.bal then s.each (List.range 32) fun s p => balChannel k h d.fresh p s
    else
      match h.sources.map (fun e => s.source e.1 e.2) with
      | [some a, some b, some c] =>
        let s := if h.rstv ∧ (d.fresh ∨ d.skipped) then clearSections k none s else s
        let (u, s) := loopCompute k h none a b c s
        s.setLoopHid k { s.loopHid k with pend := some u, skipped := false }
      | _ => (s.setLoopHid k { s.loopHid k with skipped := true }).put (LPE_DSTAT.SKIP k) 1

/-! ### Destinations (R232, R233) -/

/-- The target map with the constants of descriptor k for region n and output u. -/
def State.cellTarget (s : State) (k n : Nat) (h : LoopHdr) (u : Int) : Target :=
  let tm (r : Nat) : Word := s.rd (LPE_TMAP0 k + 4 * r)
  let ic : Rat := (max 0 (s.getI (RGN_ISUM.I n) + s.getI (TTB_RGN.FCI n)) : Int) * (625 / 10000 : Rat) /
    (max 1 (s.activeCells n).length : Nat)
  let (r, b, f) := targetMap ((u : Rat) / 4000) ic ((s.get XPH_VIM.VIM : Rat) * 125 / 100000)
    (fun r => (fldGet (tm r) 31 16 : Rat) / 10000) (fun r => (fldGet (tm r) 15 0 : Rat) / 100000)
  { ratio := r, blend := b, fcode := f, vt := (clampI 40 440 (floorDiv (2 * (u - 1600) + 5) 10)).toNat,
    spmask := h.spmask }

/-- The output u of loop k is applied to its destination (R232). A balance output sampled while its phase was ACTIVE is
applied at the next tick whatever the phase is then, as R207 has it; R187 keeps the TRIM of a phase outside the ring, and
the spec does not say which of the two holds: DESIGN CHOICE (log entry 127). -/
def loopApply (k : Nat) (h : LoopHdr) (p : Option Nat) (u : Int) (s : State) : State :=
  let s :=
    match h.dtype with
    | 1 =>
      let g := s.cellTarget k h.didx h u
      s.each ((s.cellsOf h.didx).filter fun c => s.cellState c == cSTANDBY || s.cellState c == cACTIVE)
        fun s c => deliverTarget c g s
    | 2 => s.setRhid h.didx { s.rhid h.didx with trim := lim u (-255) 255 }
    | 3 => s.put XPH_TON.TON (lim u 0 65535).toNat
    | 4 =>
      (match p with
       | some p => s.putI (XPH_PH_CFG.TRIM p) (lim u (-64) 64)
       | none => s)
    | _ => s
  traceSignal 2 (traceLoop k p) u s

/-- Outputs due in frame f are applied (R206 step 2, R207). -/
def applyOutputs (f : Nat) (s : State) : State :=
  s.each s.liveLoops fun s k =>
    let h := s.liveHdr k
    if h.due f then
      let d := s.loopHid k
      if h.bal then
        let s := s.setLoopHid k { d with balPend := [] }
        s.each d.balPend fun s e => loopApply k h (some e.1) e.2 s
      else
        match d.pend with
        | some u => loopApply k h none u (s.setLoopHid k { d with pend := none, applied := some u })
        | none => s
    else s

/-- Every output not yet applied is discarded (R208, R251). -/
def discardOutputs (s : State) : State :=
  s.each (s.loop.map Prod.fst) fun s k => s.setLoopHid k { s.loopHid k with pend := none, balPend := [] }

/-- Loops with a tick in frame f sample and compute (R206 step 4). -/
def sampleLoops (f : Nat) (s : State) : State :=
  s.each s.liveLoops fun s k => if (s.liveHdr k).due f then loopTick k s else s

/-! ### Commit, schedule and load (R210, R235, R236) -/

/-- The destination of a header, for the sharing check; none for NONE. -/
def LoopHdr.target (h : LoopHdr) : Option (Nat × Nat) :=
  match h.dtype with
  | 0 => none
  | 1 => some (1, h.didx)
  | 2 => some (2, h.didx)
  | d => some (d, 0)

/-- Is source (type, idx) of descriptor k refused by the SRC check? -/
def State.badSource (s : State) (k : Nat) (bal : Bool) (e : Nat × Nat) : Bool :=
  let rgn := decide (e.2 = 0) || decide (255 < e.2)
  match e.1 with
  | 0 => false
  | 1 => rgn
  | 2 => rgn
  | 3 => rgn
  | 4 => rgn
  | 13 => rgn
  | 5 => false
  | 6 => false
  | 7 => false
  | 8 => false
  | 10 => false
  | 9 => !bal && decide (31 < e.2)
  | 11 => decide (511 < e.2) || e.2 == k || !(s.shadowHdr e.2).en || (s.shadowHdr e.2).bal
  | 12 => decide (15 < e.2)
  | _ => true

/-- The check of one cause of R210 that descriptor k fails, among the enabled descriptors ks. -/
def State.headerFails (s : State) (ks : List Nat) (cause k : Nat) : Bool :=
  let h := s.shadowHdr k
  match cause with
  | 1 => decide (2 ^ h.rate ≤ h.phase)
  | 2 => decide (8 < h.nsec) || decide (1 < h.kind) || (h.bal && (h.nsec != 1 || h.notch))
  | 3 => h.sources.any (s.badSource k h.bal)
  | 4 => h.sources.any fun e =>
      let j := s.shadowHdr e.2
      let r := 2 ^ min j.rate h.rate
      e.1 == 11 && j.phase % r != h.phase % r
  | 5 => h.target != none && ks.any fun j => decide (j < k) && (s.shadowHdr j).target == h.target
  | 6 => (h.dtype == 4 && !h.bal) || (h.bal && ((h.sources.head?.map Prod.fst) != some 9 || h.dtype != 4)) ||
      decide (4 < h.dtype) || ((h.dtype == 1 || h.dtype == 2) && (h.didx == 0 || decide (255 < h.didx)))
  | _ => false

/-- The costs of a descriptor's work items (R235). -/
def LoopHdr.items (h : LoopHdr) : List Nat :=
  if h.bal then List.replicate 32 9 else [5 * (h.nsec + h.notch.toNat) + 4]

/-- A work item goes into the first lane with enough cycles left (R236). -/
def placeItem (cost : Nat) : List Nat → Option (List Nat)
  | [] => none
  | r :: rest => if cost ≤ r then some ((r - cost) :: rest) else (placeItem cost rest).map (r :: ·)

/-- Place the items of one frame, tagged with their descriptor: the lanes' remaining cycles, or the descriptor whose item
finds no lane. -/
def placeFrame : List (Nat × Nat) → List Nat → Except Nat (List Nat)
  | [], lanes => .ok lanes
  | (k, c) :: rest, lanes =>
    match placeItem c lanes with
    | some lanes => placeFrame rest lanes
    | none => .error k

/-- The schedule of enabled headers: per frame pattern, (total cost, lanes used), or the lowest descriptor that finds no
lane (R236). The pattern repeats with the largest rate. -/
def schedule (hs : List (Nat × LoopHdr)) : List (Nat × Nat) × Option Nat :=
  let rates := hs.foldl (fun m e => max m e.2.rate) 0
  (List.range (2 ^ rates)).foldl
    (fun acc f =>
      let items := (hs.filter fun e => e.2.due f).flatMap fun e => e.2.items.map fun c => (e.1, c)
      match placeFrame items (List.replicate 32 192) with
      | .ok lanes => (acc.1 ++ [((items.map Prod.snd).sum, (lanes.filter (· != 192)).length)], acc.2)
      | .error k => (acc.1, some (match acc.2 with
                                  | some j => min j k
                                  | none => k))) ([], none)

/-- Validation of R210: (ERR_CAUSE, ERR_K), or (0, 0). -/
def State.lpeCheck (s : State) : Nat × Nat :=
  let ks := s.shadowLoops
  match [1, 2, 3, 4, 5, 6].findSome? (fun c => (ks.find? (s.headerFails ks c)).map fun k => (c, k)) with
  | some e => e
  | none =>
    match (schedule (ks.map fun k => (k, s.shadowHdr k))).2 with
    | some k => (7, k)
    | none => (0, 0)

/-- A commit ends (R211, R250). -/
def lpeCommitEnd (res cause k : Nat) (s : State) : State :=
  let s := ((s.put LPE_STAT.RES res).put LPE_STAT.ERR_CAUSE cause).put LPE_STAT.ERR_K k
  let s := ((s.put LPE_STAT.BUSY 0).put LPE_CTRL.COMMIT 0).put LPE_EVT.COMMIT 1
  ({ s with lpe := { s.lpe with phase := .idle } }).ring kLPE 1

/-- LPE_LOAD of the live schedule (R236). -/
def lpeLoad (s : State) : State :=
  let fs := (schedule (s.liveLoops.map fun k => (k, s.liveHdr k))).1
  let peak := fs.foldl (fun m e => max m e.1) 0
  let lanes := (fs.filter fun e => e.1 == peak).foldl (fun m e => max m e.2) 0
  (s.put LPE_LOAD.PEAK peak).put LPE_LOAD.LANES lanes

/-- Descriptors whose shadow or live header differs from reset. -/
def State.headers (s : State) : List Nat :=
  [LPE_DCFG 0, LPE_DSRC 0, LPE_DSRC2 0, LPE_DDST 0].foldl (fun l a => union l (s.listed a 0x200 512))
    ([LPE_LIVE_DCFG 0, LPE_LIVE_DSRC 0, LPE_LIVE_DSRC2 0, LPE_LIVE_DDST 0].foldl
      (fun l a => union l (s.listed a 0x10 512)) [])

/-- The live headers are replaced at step 3 of R206 (R211, R212). -/
def lpeApplyCommit (s : State) : State :=
  if s.lpe.phase = .waiting then
    let s := s.each s.headers fun s k =>
      let old := s.liveHdr k
      let new := s.shadowHdr k
      if old = new then s
      else
        let s := (((s.wr (LPE_LIVE_DCFG k) new.cfg).wr (LPE_LIVE_DSRC k) new.src).wr (LPE_LIVE_DSRC2 k) new.src2).wr
          (LPE_LIVE_DDST k) new.dst
        let d := s.loopHid k
        s.setLoopHid k { d with pend := none, balPend := [], fresh := true,
                                applied := if old.en then d.applied else none }
    lpeLoad (lpeCommitEnd stOK 0 0 (s.put LPE_STAT.COMMITTED 1))
  else s

/-- A revert copies every live header back into memory (R213). -/
def lpeApplyRevert (s : State) : State :=
  s.each s.headers fun s k =>
    let h := s.liveHdr k
    memWritten 14 (LPE_DCFG 0) ([0, 4, 8, 12].map (0x200 * k + ·))
      ((((s.wr (LPE_DCFG k) h.cfg).wr (LPE_DSRC k) h.src).wr (LPE_DSRC2 k) h.src2).wr (LPE_DDST k) h.dst)

/-- A write of LPE_CTRL (R210, R213, R251). -/
def lpeCtrlWrite (v : Word) (s : State) : State :=
  let s := s.put LPE_CTRL.EN (fldGet v 2 2)
  let s := if fldGet v 2 2 = 0 then discardOutputs s else s
  if fldGet v 0 0 = 1 then
    if s.bit LPE_STAT.BUSY then s.put LPE_EVT.WR_DURING 1
    else
      let s := ((s.put LPE_CTRL.COMMIT 1).put LPE_STAT.BUSY 1).put LPE_STAT.RES stBUSY
      { s with lpe := { s.lpe with phase := .validating } }
  else if fldGet v 1 1 = 1 ∧ !s.bit LPE_STAT.BUSY then
    { s.put LPE_STAT.BUSY 1 with lpe := { s.lpe with phase := .reverting } }
  else s

/-! ### Writes to LPE memory (R213, R216, R217) -/

/-- Is loop k held, or its live EN 0 (R216)? -/
def State.loopIdle (s : State) (k : Nat) : Bool := s.bit (LPE_DSTAT.HOLDING k) || !(s.liveHdr k).en

/-- A write to LPE_BAL_ST, accepted while every live BAL loop is held (R216). -/
def balStateWrite (a : Nat) (v : Word) (s : State) : State :=
  if s.liveLoops.all (fun k => !(s.liveHdr k).bal || s.loopIdle k) then storeReg a v s else s.put LPE_EVT.WR_LIVE 1

/-- The word at offset a of descriptor memory takes a software write (R496). -/
def lpePut (a : Nat) (v : Word) (s : State) : State := memWritten 14 (LPE_DCFG 0) [a - LPE_DCFG 0] (storeReg a v s)

/-- A write to descriptor memory: ignored before INIT_DONE (R217), header words while BUSY (R213), state words unless the
loop is held or disabled (R216). -/
def lpeMemWrite (a : Nat) (v : Word) (s : State) : State :=
  let k := (a - LPE_DCFG 0) / 0x200
  let o := (a - LPE_DCFG 0) % 0x200
  if !s.bit LPE_STAT.INIT_DONE then s
  else if o < 0x10 then (if s.bit LPE_STAT.BUSY then s.put LPE_EVT.WR_DURING 1 else lpePut a v s)
  else if 0x40 ≤ o ∧ o < 0x1A8 ∧ 0x18 ≤ (o - 0x40) % 0x28 then
    (if s.loopIdle k then lpePut a v s else s.put LPE_EVT.WR_LIVE 1)
  else lpePut a v s

/-- A write in the LPE block's memories and states. -/
def lpeWrite (a : Nat) (v : Word) (s : State) : State :=
  if LPE_DCFG 0 ≤ a ∧ a < LPE_DCFG 512 then lpeMemWrite a v s
  else if LPE_BAL_X1 0 ≤ a ∧ a < LPE_BAL_X1 32 then balStateWrite a v s
  else storeReg a v s

end Sys2Proof.Machine
end

