-- ==== Sys2Proof/Machine/OutriderOps.lean ====
section
/-! DEFINITION. Machine/OutriderOps.lean: Outrider (spec/08_outrider.md): inputs, the two-layer run, publication,
validation, and the writes its rules restrict. -/

namespace Sys2Proof.Machine

/-- A Velol DMA transfer meets an error of the host fabric: the DMA pin, and unit and address for R500. -/
def dmaError (unit addr : Nat) (s : State) : State :=
  let s := s.pulse 1
  { s with cbse := { s.cbse with dma := s.cbse.dma.or (some (unit, addr % 2 ^ 64)) } }

namespace State

/-- Outrider's state (R311). -/
def odrState (s : State) : Nat := s.get OUT_STAT.STATE

/-- The published set (R292). -/
def outSet (s : State) : List Word := (List.range 32).map fun j => s.rd (OUT_O j)

/-- The set that a marker accepted at TS tm uses (R305). -/
def outSetFor (s : State) (tm : Nat) : List Word := if s.odr.pubAt < tm then s.outSet else s.odr.before

/-- Events of class c of group g in the `period` base frames that end at the present tick (R298); a frame that TS skipped
holds none (R60). -/
def egCount (s : State) (key period : Nat) : Nat :=
  let evs := (s.odr.egHist.filter fun e => decide (s.now / 100 ≤ e.1 + period)).flatMap Prod.snd
  (evs.filter (·.1 == key)).foldl (fun a e => a + e.2) 0

/-- The integer value of input source (type, idx) (R296); none for PREV. -/
def odrSource (s : State) (type idx : Nat) : Option Int :=
  match type with
  | 0 => some 0
  | 1 => some 1
  | 2 => some (s.egCount (4 * (idx % 64) + idx / 256) (s.get OUT_CTL.PERIOD) : Nat)
  | 3 => some (s.get (REIN_RATE.N (idx % 64)) : Nat)
  | 4 => some (s.getI (RGN_ISUM.I idx))
  | 5 => some (s.getI (TTB_RGN.FCI idx))
  | 6 => some (s.getI XPH_IVIM.IVIM)
  | 7 => some (s.get XPH_VIM.VIM : Nat)
  | 8 => some (if s.bit TTB_LEG.VALID then (s.get TTB_LEG.LEG : Nat) else -1)
  | 9 => some (match s.ttb.lastFc with
               | some t => (min 65535 (s.now / 100 - t / 100) : Nat)
               | none => 65535)
  | 10 => some (if s.get TTB_STAT.STATE = 2 then
                  toSigned 16 (fldGet (s.rd (TTB_ENT ((s.get TTB_CUR.IDX + idx) % 65536) 0)) 31 16) else 0)
  | 11 => none
  | _ => some 0

/-- Input value x_i as FP32 (R297). -/
def odrInput (s : State) (i : Nat) : Fp × FpFlags :=
  let type := s.get (OUT_ISEL.TYPE i)
  let idx := s.get (OUT_ISEL.IDX i)
  let scl := s.getI (OUT_ISEL.SCL i)
  let ftz := s.bit OUT_CTL.FTZ
  match s.odrSource type idx with
  | some v => formFp32 ftz (fpInt v scl)
  | none =>
    match ofFp32 (s.rd (OUT_O (idx % 32))) with
    | .fin n m e => formFp32 ftz (.fin n m (e + scl))
    | v => (v, noFlags)

/-- Byte o of the weight memory. -/
def wmemByte (s : State) (o : Nat) : Nat :=
  fldGet (s.rd (OUT_WMEM (o / 4))) (8 * (o % 4) + 7) (8 * (o % 4))

/-- The FP32 word at byte o of the weight memory. -/
def wmemWord (s : State) (o : Nat) : Nat := s.num (OUT_WMEM (o / 4))

end State

/-- Bytes from one row to the next (R308). -/
def rowStride (wfmt n : Nat) : Nat :=
  match wfmt with
  | 2 => 4 * ((n + 1) / 2)
  | 3 => 4 + 4 * ((n + 3) / 4)
  | _ => 4 * ((n + 3) / 4)

/-- The products w(r, i) · a_i of row r (R299, R301, R308), and their flags. -/
def State.rowProducts (s : State) (l r : Nat) (as : List Fp) : List Fp × FpFlags :=
  let ftz := s.bit OUT_CTL.FTZ
  let wf := s.get (OUT_LCFG.WFMT l)
  let row := s.get (OUT_LBASE.WBASE l) + r * rowStride wf as.length
  let (sc, fs) := operand ftz fmtFP32 (s.wmemWord row)
  as.zipIdx.foldl
    (fun acc e =>
      let (a, i) := e
      if wf = 3 then
        let q : Fp := fpInt (toSigned 8 (s.wmemByte (row + 4 + i))) 0
        let z (v : Fp) : Bool := match v with
          | .fin _ m _ => m == 0
          | _ => false
        let isInf (v : Fp) : Bool := match v with
          | .inf _ => true
          | _ => false
        let p := if (z q || z sc || z a) && (isInf sc || isInf a) then .nan else fpMul (fpMul q sc) a
        (acc.1 ++ [p], acc.2.or fs)
      else
        let f := fmtOf wf
        let code := if wf = 2 then s.wmemByte (row + 2 * i) + 256 * s.wmemByte (row + 2 * i + 1) else s.wmemByte (row + i)
        let (w, fw) := operand ftz f code
        (acc.1 ++ [fpMul w a], acc.2.or fw)) ([], noFlags)

/-- The activation of layer l (R302). -/
def State.activate (s : State) (l : Nat) (z : Fp) : Fp × FpFlags :=
  match s.get (OUT_LCFG.ACT l) with
  | 0 => (z, noFlags)
  | t =>
    if z = .nan then (.nan, noFlags)
    else
      let ftz := s.bit OUT_CTL.FTZ
      let rdw (a : Nat) : Fp × FpFlags := operand ftz fmtFP32 (s.num a)
      let bs := ((List.range 64).drop 1).map fun i => rdw (OUT_ACTB (t - 1) i)
      let seg := (bs.filter fun b => fpLe b.1 z).length
      let (m, f1) := rdw (OUT_ACTM (t - 1) seg)
      let (c, f2) := rdw (OUT_ACTC (t - 1) seg)
      let (y, f3) := formFp32 ftz (fpAdd (fpMul m z) c)
      (y, (bs.foldl (fun f b => f.or b.2) noFlags).or (f1.or (f2.or f3)))

/-- Layer l with `rows` rows on its FP32 inputs: the inputs are converted to AFMT, each row's dot product is formed and the
activation applied (R291, R294, R299, R302). -/
def State.layer (s : State) (l rows : Nat) (xs : List Fp) : List Fp × FpFlags :=
  let ftz := s.bit OUT_CTL.FTZ
  let conv := xs.map (convertTo ftz (fmtOf (s.get (OUT_LCFG.AFMT l))))
  let f0 := conv.foldl (fun f c => f.or c.2) noFlags
  let as := conv.map Prod.fst
  (List.range rows).foldl
    (fun acc r =>
      let (ps, f1) := s.rowProducts l r as
      let (b, f2) := operand ftz fmtFP32 (s.wmemWord (s.get (OUT_LBASE.BBASE l) + 4 * r))
      let (z, f3) := dotRow ftz ps b
      let (y, f4) := s.activate l z
      (acc.1 ++ [y], (acc.2.or (f1.or f2)).or (f3.or f4))) ([], f0)

/-- One run on the inputs sampled now: the 32 output words and its flags (R291, R292). -/
def State.odrRun (s : State) (xs : List Fp) : List Word × FpFlags :=
  let (h, f0) := s.layer 0 (s.get OUT_SHAPE.NHID) xs
  let (o, f1) := s.layer 1 (s.get OUT_SHAPE.NOUT) h
  ((o.map toFp32 ++ List.replicate 32 0).take 32, f0.or f1)

/-- Is an FP32 word NaN or infinite? -/
def nonFinite (w : Word) : Bool := fldGet w 30 23 == 255

/-- A set is published at the CKF edge of TS t (R304). -/
def publish (ws : List Word) (t : Nat) (s : State) : State :=
  let before := if s.odr.pubAt < t then s.outSet else s.odr.before
  let s := { s with odr := { s.odr with pubAt := t, before := before } }
  let s := s.each ws.zipIdx fun s e => s.wr (OUT_O e.2) e.1
  let s := (s.addWrap OUT_RUNCNT.COUNT 1).put OUT_PUB_TS.TS (t % 2 ^ 32)
  if (ws.take (s.get OUT_SHAPE.NOUT)).any nonFinite then
    (((s.put OUT_STAT.NONFIN 1).put OUT_EVT.NONFIN 1).incSat OUT_CNT.NONFIN).ring kODR 2
  else s

/-- The zero set is published at the CKF edge of TS t and a run not yet published is discarded (R306). -/
def publishZero (t : Nat) (s : State) : State :=
  publish (List.replicate 32 0) t { s with odr := { s.odr with run := none } }

/-- TS at the next CKF edge. -/
def State.nextEdge (s : State) : Nat := (s.passEdges 1).now

/-- Outrider enters ERROR during a run; the zero set is published at the next CKF edge (R314). ODR_ERROR is a CONDITION pin
that follows STATE. -/
def odrFail (s : State) : State :=
  if s.odrState = 1 then ((publishZero s.nextEdge (s.put OUT_STAT.STATE 2)).put OUT_EVT.ERROR 1).ring kODR 1 else s

/-- Is frame f a run tick (R303)? -/
def State.runTick (s : State) (f : Nat) : Bool :=
  s.odrState == 1 && f % s.get OUT_CTL.PERIOD == s.get OUT_CTL.PHASE

/-- Step 1 of a run tick: the previous run is published (R304). -/
def odrPublish (f : Nat) (s : State) : State :=
  if s.runTick f then
    match s.odr.run with
    | some ws => publish ws s.now { s with odr := { s.odr with run := none } }
    | none => s
  else s

/-- The byte ranges of weight memory that a run of the present model reads: first byte and length (R308). -/
def State.odrReads (s : State) : List (Nat × Nat) :=
  let layer (l rows cols : Nat) : List (Nat × Nat) :=
    [(s.get (OUT_LBASE.WBASE l), rows * rowStride (s.get (OUT_LCFG.WFMT l)) cols), (s.get (OUT_LBASE.BBASE l), 4 * rows)]
  layer 0 (s.get OUT_SHAPE.NHID) (s.get OUT_SHAPE.NIN) ++ layer 1 (s.get OUT_SHAPE.NOUT) (s.get OUT_SHAPE.NHID)

/-- The word with an uncorrectable error that a run meets (R314). -/
def State.odrBad (s : State) : Option Nat :=
  ((s.cbse.bad.filter (·.1 == 13)).map Prod.snd).find? fun w =>
    s.odrReads.any fun r => decide (r.1 < w + 8) && decide (w < r.1 + r.2)

/-- Step 4 of a run tick: the inputs are sampled and the run is computed (R297, R303); a run that meets an uncorrectable
error is abandoned (R314). -/
def odrSample (f : Nat) (s : State) : State :=
  if s.runTick f then
    match s.odrBad with
    | some w => odrFail (memUe 13 w s)
    | none =>
    let xs := (List.range (s.get OUT_SHAPE.NIN)).map s.odrInput
    let (ws, fl) := s.odrRun (xs.map Prod.fst)
    let fl := xs.foldl (fun a x => a.or x.2) fl
    let s := s.each xs.zipIdx fun s e => s.wr (OUT_XIN e.2) (toFp32 e.1.1)
    let s := if fl.flushed then s.put OUT_STAT.FLUSHED 1 else s
    let s := if fl.clamped then (s.put OUT_STAT.CLAMPED 1).incSat OUT_CNT.CLAMP else s
    { s with odr := { s.odr with run := some ws } }
  else s

/-- Engine events of the base frame that ends enter the windows of R298 and the counters EGC of R506. -/
def noteEngineEvents (evs : List (Nat × Nat)) (s : State) : State :=
  let egc := evs.foldl (fun m e => mapSet 0 m e.1 (mapGet 0 m e.1 + e.2)) s.tlm.egc
  { s with odr := { s.odr with egHist := ((s.tim.frame, evs) :: s.odr.egHist).take 128 }, tlm := { s.tlm with egc := egc } }

/-! ### START (R311..R313) -/

/-- C of R313. -/
def State.odrCycles (s : State) : Nat :=
  let ni := s.get OUT_SHAPE.NIN
  let nh := s.get OUT_SHAPE.NHID
  nh * ((ni + 15) / 16) + s.get OUT_SHAPE.NOUT * ((nh + 15) / 16) + 128

/-- Is input selector i outside R296? -/
def State.badInput (s : State) (i : Nat) : Bool :=
  let idx := s.get (OUT_ISEL.IDX i)
  match s.get (OUT_ISEL.TYPE i) with
  | 2 => idx / 64 % 4 != 0
  | 3 => idx / 64 != 0
  | 4 => decide (idx = 0) || decide (255 < idx)
  | 5 => decide (idx = 0) || decide (255 < idx)
  | 10 => decide (15 < idx)
  | 11 => decide (31 < idx)
  | t => decide (11 < t)

/-- Does table t fail the ACT check: a NaN breakpoint, or breakpoints out of order? -/
def State.badTable (s : State) (t : Nat) : Bool :=
  let bs := ((List.range 64).drop 1).map fun i => ofFp32 (s.rd (OUT_ACTB t i))
  bs.contains .nan || (bs.zip bs.tail).any fun e => !fpLe e.1 e.2

/-- Validation of R312: ERR_CAUSE. -/
def State.odrCheck (s : State) : Nat :=
  let ni := s.get OUT_SHAPE.NIN
  let nh := s.get OUT_SHAPE.NHID
  let no := s.get OUT_SHAPE.NOUT
  let ls := [0, 1]
  let rows (l : Nat) : Nat := if l = 0 then nh else no
  let cols (l : Nat) : Nat := if l = 0 then ni else nh
  if ni = 0 ∨ 128 < ni ∨ nh = 0 ∨ 128 < nh ∨ no = 0 ∨ 32 < no ∨
      ls.any (fun l => decide (3 < s.get (OUT_LCFG.WFMT l)) || decide (2 < s.get (OUT_LCFG.AFMT l)) ||
        s.get (OUT_LCFG.ACT l) == 3) then 1
  else if ls.any (fun l =>
      let w := s.get (OUT_LBASE.WBASE l)
      let b := s.get (OUT_LBASE.BBASE l)
      w % 4 != 0 || b % 4 != 0 || decide (65536 < w + rows l * rowStride (s.get (OUT_LCFG.WFMT l)) (cols l)) ||
        decide (65536 < b + 4 * rows l)) then 2
  else if (List.range ni).any s.badInput then 3
  else if ls.any (fun l => s.get (OUT_LCFG.ACT l) != 0 && s.badTable (s.get (OUT_LCFG.ACT l) - 1)) then 4
  else
    let per := s.get OUT_CTL.PERIOD
    if per < 4 ∨ 128 < per ∨ per ≤ s.get OUT_CTL.PHASE then 5
    else if 200 * per < s.odrCycles + 16 then 6
    else 0

/-- A START ends (R311, R316). -/
def odrStartEnd (res : Nat) (s : State) : State :=
  (((s.put OUT_STAT.RES res).put OUT_STAT.VALIDATING 0).put OUT_EVT.STARTED 1).ring kODR 0

/-- START validation ends (R312, R313). -/
def odrValidated (s : State) : State :=
  if s.bit OUT_STAT.VALIDATING then
    let cause := s.odrCheck
    let s := s.put OUT_STAT.ERR_CAUSE cause
    if cause = 0 then odrStartEnd stOK ((s.wrN OUT_CYC s.odrCycles).put OUT_STAT.STATE 1) else odrStartEnd stBADPARAM s
  else s

/-- A refused write (R310, R316). -/
def odrRefuse (s : State) : State := (s.put OUT_EVT.WR_REFUSED 1).ring kODR 4

/-- Is the configuration locked (R310)? -/
def State.odrLocked (s : State) : Bool := s.odrState == 1 || s.bit OUT_STAT.VALIDATING

/-- STOP (R306, R307, R311): it takes effect, and the zero set is published, at the next CKF edge. -/
def odrStop (s : State) : State :=
  if s.bit OUT_STAT.VALIDATING then odrStartEnd stBUSY s
  else if s.odrState = 1 then publishZero s.nextEdge (s.put OUT_STAT.STATE 0)
  else s

/-- A write of OUT_CTL (R310, R311): PERIOD, PHASE and FTZ, then STOP, START and CLEAR. -/
def outCtlWrite (v : Word) (s : State) : State :=
  let s := if s.odrLocked then odrRefuse s else storeReg OUT_CTL v s
  let s :=
    if fldGet v 1 1 = 1 then odrStop s
    else if fldGet v 0 0 = 1 then
      if s.odrLocked then s
      else if s.odrState = 2 ∨ !s.bit OUT_STAT.INIT_DONE then odrStartEnd stNOTREADY s
      else if s.bit OUT_DMA_CTRL.BUSY then odrStartEnd stBUSY s
      else s.put OUT_STAT.VALIDATING 1
    else s
  if fldGet v 2 2 = 1 ∧ s.odrState = 2 then s.put OUT_STAT.STATE 0 else s

/-- A weight transfer ends (R309, R316). -/
def odrDmaEnd (res : Nat) (s : State) : State :=
  (((((s.put OUT_DMA_CTRL.RES res).put OUT_DMA_CTRL.BUSY 0).put OUT_DMA_CTRL.GO 0).put OUT_EVT.DMA 1)).ring kODR 3

/-- Words of a weight transfer (R309). -/
def State.odrDmaCount (s : State) : Nat := let n := s.get OUT_DMA_LEN.CNT; if n = 0 then 16384 else n

/-- A write of OUT_DMA_CTRL.GO (R309). -/
def outDmaWrite (v : Word) (s : State) : State :=
  if fldGet v 0 0 = 0 ∨ s.bit OUT_DMA_CTRL.BUSY then s
  else if s.odrState ≠ 0 ∨ s.bit OUT_STAT.VALIDATING then odrDmaEnd stBUSY s
  else if s.get64 OUT_DMA_SRC_LO % 4 ≠ 0 ∨ s.get OUT_DMA_LEN.DST % 4 ≠ 0 ∨
      65536 < s.get OUT_DMA_LEN.DST + 4 * s.odrDmaCount then odrDmaEnd stBADPARAM s
  else
    let s := (s.put OUT_DMA_CTRL.GO 1).put OUT_DMA_CTRL.BUSY 1
    { s with odr := { s.odr with dmaLeft := s.odrDmaCount, dmaDst := s.get OUT_DMA_LEN.DST,
                                 dmaSrc := s.get64 OUT_DMA_SRC_LO } }

/-- A weight transfer ends, completely or with an error of the host fabric after the words ws (R309). -/
def outDmaDone (ws : List Word) (ok : Bool) (s : State) : State :=
  let ws := ws.take s.odr.dmaLeft
  if !s.bit OUT_DMA_CTRL.BUSY || (ok && ws.length != s.odr.dmaLeft) then s
  else
    let dst := s.odr.dmaDst / 4
    let s :=
      if s.bit OUT_STAT.INIT_DONE then
        memWritten 13 (OUT_WMEM 0) ((List.range ws.length).map fun i => 4 * (dst + i))
          (s.each ws.zipIdx fun s e => s.wr (OUT_WMEM (dst + e.2)) e.1)
      else s
    let s := { s with odr := { s.odr with dmaLeft := 0 } }
    if ok then odrDmaEnd stOK s
    else odrDmaEnd stINTERNAL (dmaError 1 (s.odr.dmaSrc + 4 * ws.length) s)

/-- A write in the ODR block (R310, R315); words that no table defines take none (R14). -/
def odrWrite (a : Nat) (v : Word) (s : State) : State :=
  let mem := decide (OUT_WMEM 0 ≤ a) && decide (a < OUT_WMEM 16384)
  let tab := decide (OUT_ACTB 0 0 ≤ a) && decide (a < OUT_ACTB 2 0)
  let cfg := decide (OUT_SHAPE ≤ a) && decide (a < OUT_RUNCNT) && a != OUT_CYC
  let sel := decide (OUT_ISEL 0 ≤ a) && decide (a < OUT_ISEL 128)
  if (regDef? a).isNone then s
  else if a = OUT_CTL then outCtlWrite v s
  else if a = OUT_DMA_CTRL then outDmaWrite v s
  else if (mem || tab) && !s.bit OUT_STAT.INIT_DONE then s
  else if ((mem || tab || cfg || sel) && s.odrLocked) || (mem && s.bit OUT_DMA_CTRL.BUSY) then odrRefuse s
  else if mem then memWritten 13 (OUT_WMEM 0) [a - OUT_WMEM 0] (storeReg a v s)
  else storeReg a v s

end Sys2Proof.Machine
end

