-- ==== Sys2Proof/Machine/SenseBits.lean ====
section
/-! DEFINITION. Machine/SenseBits.lean: the channels of the sense converters and the validity of their results
(spec/13_sense_converters.md), which the energy accumulator reads too. -/

namespace Sys2Proof.Machine

/-- How many channels converter k has (R435). -/
def snsChannels (k : Nat) : Nat := [24, 24, 43, 20].getD k 0

/-- Key of a result. -/
def snsKey (k ch : Nat) : Nat := 48 * k + ch

namespace State

/-- Causes that make result (k, ch) not valid (R433, R441, R449, R451). -/
def snsCauses (s : State) (k ch : Nat) : List Nat :=
  let base := mapGet s.sns.other s.sns.base (snsKey k ch)
  let b01 := s.get SNS_STAT.BLAME01
  let b23 := s.get SNS_STAT.BLAME23
  let plaus := (b01 == 1 && k == 0) || (b01 == 2 && k == 1) || (b23 == 1 && k == 2) || (b23 == 2 && k == 3)
  let dis := (b01 == 3 && ch == 16 && (k == 0 || k == 1)) || (b23 == 3 && ((k == 2 && ch == 40) || (k == 3 && ch == 0)))
  (if base = 0 then [] else [base]) ++ (if bitOf (s.get SNS_STAT.REF_BAD) k then [3] else []) ++
    (if plaus then [4] else []) ++ (if dis then [5] else []) ++ (if bitOf (s.get SNS_CTRL.EN) k then [] else [7])

/-- The lowest cause, 0 when the result is valid (R451). -/
def snsCause (s : State) (k ch : Nat) : Nat :=
  match s.snsCauses k ch with
  | [] => 0
  | c :: cs => cs.foldl min c

/-- VALID of result (k, ch). -/
def snsValid (s : State) (k ch : Nat) : Bool := s.snsCause k ch == 0

end State

end Sys2Proof.Machine
end

