-- ==== Sys2Proof/Machine/PowerOps.lean ====
section
/-! DEFINITION. Machine/PowerOps.lean: power policy (spec/11_power_policy.md): operating points and moves, the estimate
and the measurement, the package cap and its stepper, and the Waybill. -/

namespace Sys2Proof.Machine

/-- A PWR event: its flag and its Postilion source (R393). -/
def pwrEvent (f : Fld) (off : Nat) (s : State) : State := (s.put f 1).ring kPWR off

namespace State

/-- Policy state of region n. -/
def prgn (s : State) (n : Nat) : PwrRgn := mapGet {} s.pwrRgn n

/-- Replace it. -/
def setPrgn (s : State) (n : Nat) (h : PwrRgn) : State := { s with pwrRgn := mapSet {} s.pwrRgn n h }

/-- Waybill state of group g. -/
def wgrp (s : State) (g : Nat) : WblGrp := mapGet {} s.wblGrp g

/-- Replace it. -/
def setWgrp (s : State) (g : Nat) (h : WblGrp) : State := { s with wblGrp := mapSet {} s.wblGrp g h }

/-! ### Operating points (R358..R362) -/

/-- NOP_n: the valid points from i = 0 (R358). -/
def nop (s : State) (n : Nat) : Nat := ((List.range 16).takeWhile fun i => s.bit (PWR_OP.VALID n i)).length

/-- Regions with a word of an operating-point table that is not at reset. -/
def opRegions (s : State) : List Nat :=
  ((List.range 256).drop 1).filter fun n =>
    s.regs.any fun e => decide (PWR_OP n 0 ≤ e.1) && decide (e.1 < PWR_OP n 16)

/-- Does the table of region n meet R358? -/
def opTableOk (s : State) (n : Nat) : Bool :=
  let k := s.nop n
  let is := List.range k
  ((List.range 16).filter fun i => s.bit (PWR_OP.VALID n i)).length == k &&
    is.all (fun i =>
      decide (s.get (RGN_LIM_LIVE.VMIN n) ≤ s.get (PWR_OP.VCODE n i)) &&
        decide (s.get (PWR_OP.VCODE n i) ≤ s.get (RGN_LIM_LIVE.VMAX n)) &&
        (i == 0 || (decide (s.get (PWR_OP.VCODE n (i - 1)) < s.get (PWR_OP.VCODE n i)) &&
          decide (s.get (PWR_OP.FMHZ n (i - 1)) ≤ s.get (PWR_OP.FMHZ n i)))))

/-- The cap level l. -/
def capLevel (s : State) : Int := s.getI PWR_STAT.L

/-- p_n of region n (R361). -/
def preferred (s : State) (n : Nat) : Nat :=
  min (if s.bit TTB_LEG.VALID then s.get (PWR_LEG.IDX (s.get TTB_LEG.LEG)) else s.get PWR_CTRL.DEF_IDX) (s.nop n - 1)

/-- t_n of region n (R362). -/
def targetPoint (s : State) (n : Nat) : Nat :=
  let p := s.preferred n
  let l := s.capLevel
  if s.pwr.fixed then p
  else
    let t := (clampI 0 ((s.nop n : Int) - 1) ((p : Int) - l)).toNat
    if l = -1 ∧ (s.rgnState n = rLAME ∨ (s.bit TTB_LEG.VALID ∧ s.bit (PWR_LEG.NOBOOST (s.get TTB_LEG.LEG)))) then min t p
    else t

/-- LMAX (R382). -/
def capMax (s : State) : Nat :=
  if s.pwr.fixed then 10
  else 10 + ((s.opRegions.filter fun n => 1 ≤ s.nop n).map s.preferred).foldl max 0

end State

/-- Region n's set-point takes the voltage of point i (R129, R363..R365). -/
def policyVset (n i : Nat) (s : State) : State :=
  vsetWrite n (fldSet (s.rd (RGN_VSET n)) 8 0 (s.get (PWR_OP.VCODE n i))) s

/-- The frequency request of region n takes a value; a change is an event (R393). -/
def freqRequest (n f : Nat) (s : State) : State :=
  if s.get (PWR_FREQ.REQ n) = f then s else pwrEvent PWR_EVT.FREQ 3 (s.put (PWR_FREQ.REQ n) f)

/-- A move of region n to t completes at once (R363). -/
def moveAtOnce (n t : Nat) (s : State) : State :=
  let s := (policyVset n t s).setPrgn n { s.prgn n with move := none }
  ((s.put (PWR_FREQ.REQ n) (s.get (PWR_OP.FMHZ n t))).put (PWR_RGN_STAT.I n) t).put (PWR_RGN_STAT.PEND n) 0

/-- Is region n in a state in which a move completes at once (R363)? -/
def State.movesAtOnce (s : State) (n : Nat) : Bool := s.rgnState n == rOFF || s.rgnState n == rFAULTED

/-- A move of region n to t starts (R363..R365). A move down to a point with FMHZ = 0 requests 0 and waits for nothing. -/
def moveStart (n t : Nat) (s : State) : State :=
  let i := s.get (PWR_RGN_STAT.I n)
  let st := s.rgnState n
  let f := s.get (PWR_OP.FMHZ n t)
  if s.movesAtOnce n then moveAtOnce n t s
  else if st = rRAMPING ∨ st = rDRAINING then s
  else if i < t then (policyVset n t s).setPrgn n { s.prgn n with move := some ⟨true, t, s.now⟩ }
  else if f = 0 then (policyVset n t (freqRequest n 0 s)).put (PWR_RGN_STAT.I n) t
  else
    ((freqRequest n f s).setPrgn n { s.prgn n with move := some ⟨false, t, s.now⟩ }).put (PWR_RGN_STAT.PEND n) 1

/-- P, T and BOOSTED of region n; a region without points has none (R358, R361, R362). -/
def pointReport (n : Nat) (s : State) : State :=
  if s.nop n = 0 then
    ((s.put (PWR_RGN_STAT.P n) 0).put (PWR_RGN_STAT.T n) 0).put (PWR_RGN_STAT.BOOSTED n) 0
  else
    let p := s.preferred n
    ((s.put (PWR_RGN_STAT.P n) p).put (PWR_RGN_STAT.T n) (s.targetPoint n)).putB (PWR_RGN_STAT.BOOSTED n)
      (s.get (PWR_RGN_STAT.I n) == p + 1)

/-- Point selection of region n at a base tick (R361..R366). -/
def pointTick (n : Nat) (s : State) : State :=
  let t := s.targetPoint n
  let i := s.get (PWR_RGN_STAT.I n)
  let s :=
    match (s.prgn n).move with
    | some ⟨false, _, _⟩ =>
      if i ≤ t then
        (freqRequest n (s.get (PWR_OP.FMHZ n i)) (s.setPrgn n { s.prgn n with move := none })).put (PWR_RGN_STAT.PEND n) 0
      else s
    | _ => s
  let s :=
    match (s.prgn n).move with
    | some m => if s.movesAtOnce n then moveAtOnce n m.dest s else s
    | none => s
  if (s.prgn n).move = none ∧ t ≠ s.get (PWR_RGN_STAT.I n) then moveStart n t s else s

/-- The voltage of a pending move up is reached (R364): DONE of the generator, or 1 µs after the write. -/
def moveUpDone (n : Nat) (s : State) : State :=
  match (s.prgn n).move with
  | some ⟨true, t, since⟩ =>
    let reached :=
      if s.profiled n then s.bit (PG_STAT.DONE (s.get (RGN_PROF_LIVE.PG n))) else decide (since + 800 ≤ s.now)
    if reached then
      let f := s.get (PWR_OP.FMHZ n t)
      let s := if f = 0 then s else freqRequest n f s
      (s.setPrgn n { s.prgn n with move := none }).put (PWR_RGN_STAT.I n) t
    else s
  | _ => s

/-- A write of PWR_FREQ[n] (R365, R368): an acknowledgement at or below the request completes a move down. -/
def freqAck (n : Nat) (v : Word) (s : State) : State :=
  let s := storeReg (PWR_FREQ n) v s
  match (s.prgn n).move with
  | some ⟨false, t, _⟩ =>
    if s.get (PWR_FREQ.ACK n) ≤ s.get (PWR_OP.FMHZ n t) then
      ((policyVset n t (s.setPrgn n { s.prgn n with move := none })).put (PWR_RGN_STAT.I n) t).put
        (PWR_RGN_STAT.PEND n) 0
    else s
  | _ => s

/-- A move down has waited TO microseconds (R367). -/
def ackTimeout (n : Nat) (s : State) : State :=
  match (s.prgn n).move with
  | some ⟨false, _, since⟩ =>
    if since + 800 * s.get PWR_FACK.TO ≤ s.now then pwrEvent PWR_EVT.FTO 4 (s.put (PWR_RGN_STAT.FTO n) 1) else s
  | _ => s

/-- Validation of the operating-point tables ends (R360). -/
def opValidate (s : State) : State :=
  if s.pwr.checking then
    let s := { s with pwr := { s.pwr with checking := false } }
    match s.opRegions.find? fun n => !s.opTableOk n with
    | some n => pwrEvent PWR_EVT.OPERR 8 ((s.put PWR_STAT.OP_ERR 1).put PWR_STAT.ERR_RGN n)
    | none => s.put PWR_CTRL.OP_EN 1
  else s

/-- A write of PWR_CTRL (R360, R378, R382, R383); while ENV_EN is 0 the trim of the envelope is 0 (R413). -/
def pwrCtrlWrite (v : Word) (s : State) : State :=
  let old := s.rd PWR_CTRL
  let s := storeReg PWR_CTRL v s
  let s := if s.inst = 0 then s
    else (s.put PWR_CTRL.ENV_EN (fldGet old 2 2)).put PWR_CTRL.PG (fldGet old 23 20)
  let s :=
    if fldGet v 0 0 = 0 then { s with pwr := { s.pwr with checking := false } }
    else if fldGet old 0 0 = 0 then { s.put PWR_CTRL.OP_EN 0 with pwr := { s.pwr with checking := true } }
    else s
  let s := if s.bit PWR_CTRL.ENV_EN then s else s.put CPLR_ENV_TGT.I 0
  if s.bit PWR_CTRL.CAP_EN then s else { s.put PWR_STAT.L 0 with pwr := { s.pwr with under := 0 } }

/-- A write of PWR_OP[n,i] (R359). -/
def opWrite (n i : Nat) (v : Word) (s : State) : State :=
  if s.bit PWR_CTRL.OP_EN ∧ s.rgnState n ≠ rOFF then s.put PWR_EVT.WR_REFUSED 1 else storeReg (PWR_OP n i) v s

/-! ### Estimate and measurement (R372..R376) -/

/-- u of region n (R372). -/
def State.uOf (s : State) (n : Nat) : Nat := 320 + s.get (RGN_VEFF.CODE n)

/-- Events of class c of group g in the last 1 µs, eight base frames (R372). -/
def State.cnt (s : State) (g c : Nat) : Nat := s.egCount (4 * g + c) 8

/-- Groups in the live masks of region n. -/
def State.groupsOf (s : State) (n : Nat) : List Nat := (List.range 64).filter fun g => s.owns n g

/-- KL[n,c], pJ (R372). -/
def State.kl (s : State) (n c : Nat) : Nat :=
  match c with
  | 0 => s.get (PWR_KL01.K0 n)
  | 1 => s.get (PWR_KL01.K1 n)
  | 2 => s.get (PWR_KL23.K2 n)
  | _ => s.get (PWR_KL23.K3 n)

/-- Regions RAMPING, ON, LAME or DRAINING. -/
def State.workRegions (s : State) : List Nat := s.liveRegions.filter fun n => poweredState (s.rgnState n)

/-- The estimated power of region n over the last 1 µs, mW (R372). -/
def State.regionPower (s : State) (n : Nat) : Nat :=
  let u := s.uOf n
  let dyn := ([0, 1, 2, 3].map fun c => s.kl n c * ((s.groupsOf n).map fun g => s.cnt g c).sum).sum
  dyn * u * u / 360000000 + s.get (PWR_PSL.PS n) * u / 600

/-- The 1 µs estimate of region n (R372), the sums of R375, the Waybill weights of its groups (R388) and the measured
mean power (R373). -/
def estimateRegion (n : Nat) (s : State) : State :=
  let u := s.uOf n
  let gs := s.groupsOf n
  let cnt (c : Nat) : Nat := (gs.map fun g => s.cnt g c).sum
  let cs := [0, 1, 2, 3]
  let psl := s.get (PWR_PSL.PS n)
  let h := s.prgn n
  let add := (cs.map fun c => cnt c * u * u / 360000) ++ [u]
  let xs := add.zipIdx.map fun e => h.xs.getD e.2 0 + e.1
  let ws := gs.map fun g =>
    (g, (cs.map fun c => s.kl n c * s.cnt g c).sum * u * u / 360000, s.kl n 1 * s.cnt g 1 * u * u / 360000)
  let s := s.putOr (PWR_EST.P n) (s.regionPower n)
  let s := s.setPrgn n { h with xs := xs }
  s.each ws fun s w =>
    let k := s.wgrp w.1
    s.setWgrp w.1 { k with d := k.d + w.2.1, f := k.f + w.2.2, st := k.st + psl * u * 1000 / (600 * gs.length) }

/-- The measured mean power of the microsecond just closed (R373), mW; the spec states no rounding below 1 mW. -/
def measureRegion (n : Nat) (s : State) : State :=
  let h := s.prgn n
  let d := toSigned 64 (h.re + 2 ^ 64 - h.re1)
  let r := s.roundOpen (d * 10) 1024
  (r.2.putOr (PWR_MEAS.P n) r.1).setPrgn n { h with re1 := h.re }

/-- Has TS reached a multiple of L since TS `at_` and since the release of reset (R58, R60)? -/
def State.boundaryDue (s : State) (l at_ : Nat) : Bool := decide (max at_ s.rst.released / l < s.now / l)

/-- The work at a TS multiple of 800 (R372, R373, R388); the estimate of any other region is 0. -/
def powerEstimate (s : State) : State :=
  let s := { s with pwr := { s.pwr with estAt := s.now } }
  let work := s.workRegions
  let s := s.each ((s.listed (PWR_EST 0) 0x80 256).filter fun n => !work.contains n) fun s n => s.put (PWR_EST.P n) 0
  let s := s.each work fun s n => estimateRegion n s
  s.each (s.pwrRgn.map Prod.fst) fun s n => measureRegion n s

/-- The work at a TS multiple of 8,000,000 (R375). -/
def calSnapshot (s : State) : State :=
  let s := { s with pwr := { s.pwr with calAt := s.now } }
  let ns := union (s.pwrRgn.map Prod.fst)
    (((List.range 256).drop 1).filter fun n =>
      s.regs.any fun e => decide (PWR_CS n 0 ≤ e.1) && decide (e.1 < PWR_CS n 7))
  let s := s.each ns fun s n =>
    let h := s.prgn n
    let e := (h.re + 2 ^ 64 - h.reCal) % 2 ^ 64 / 1024
    let s := s.put64 (PWR_CS n 0) e
    let s := s.each [0, 1, 2, 3, 4] fun s k => s.wrN (PWR_CS n (2 + k)) (min (h.xs.getD k 0) 0xFFFFFFFF)
    s.setPrgn n { h with reCal := h.re, xs := [] }
  pwrEvent PWR_EVT.CAL 5 s

/-- The coefficient shadows are copied live (R376). -/
def coeffApply (s : State) : State :=
  if s.bit PWR_CAL.COMMIT then
    let s := s.each ((List.range 256).drop 1) fun s n =>
      if s.rd (PWR_K01 n) = s.rd (PWR_KL01 n) ∧ s.rd (PWR_K23 n) = s.rd (PWR_KL23 n) ∧
          s.rd (PWR_PS n) = s.rd (PWR_PSL n) then s
      else ((s.wr (PWR_KL01 n) (s.rd (PWR_K01 n))).wr (PWR_KL23 n) (s.rd (PWR_K23 n))).wr (PWR_PSL n) (s.rd (PWR_PS n))
    (s.addWrap PWR_CAL.CALGEN 1).put PWR_CAL.COMMIT 0
  else s

/-! ### The package cap (R378..R384) -/

/-- P_PKG (R378): on instance 0 the least of its terms, elsewhere the mirrored value. -/
def State.pkgCap (s : State) : Nat :=
  if s.inst = 0 then
    let e := if s.bit PWR_CTRL.ENV_EN then (clampI 0 65535 (s.numI (PG_OUT (s.get PWR_CTRL.PG)))).toNat else 65535
    min (s.get PWR_PKG.HOST) (min (s.get PWR_PKG_BMC.BMC) e)
  else s.get PWR_PKG_EFF.P

/-- RATE for a level k (R383). -/
def rateOf (k : Int) : Nat := if k ≤ 0 then 64 else [56, 48, 40, 32, 24, 16, 8, 4, 2, 1].getD (k.toNat - 1) 1

/-- k_n of region n (R383). -/
def State.kOf (s : State) (n : Nat) : Int :=
  if s.pwr.fixed ∨ s.nop n = 0 then s.capLevel
  else s.capLevel - ((s.preferred n : Int) - (s.get (PWR_RGN_STAT.I n) : Nat))

/-- The stepper's part of a base tick (R383). -/
def capTick (s : State) : State :=
  if s.bit PWR_CTRL.CAP_EN then
    let s := s.each (List.range 64) fun s g =>
      let r := (s.groupRegion g).elim 64 fun n => rateOf (s.kOf n)
      s.put (REIN_CAP.RATE g) r
    s.each s.maskedRegions fun s n => s.put (PWR_RGN_STAT.RATE n) (rateOf (s.kOf n))
  else s

/-- The accumulators of R373 and R374 and the Waybill's per-tick counts (R390). -/
def energyTick (s : State) : State :=
  let s := s.each s.workRegions fun s n =>
    let h := s.prgn n
    let d := s.getI (RGN_ISUM.I n) * (s.uOf n : Int)
    let re := (((h.re : Int) + d) % ((2 ^ 64 : Nat) : Int)).toNat
    let s := { s.setPrgn n { h with re := re } with pwr := { s.pwr with sum := s.pwr.sum + d } }
    s.put64At (PWR_RE_LO n) (PWR_RE_HI n) (re / 1024)
  let s :=
    if s.snsValid 3 0 ∧ s.snsValid 3 1 then
      let e := (((s.pwr.ein : Int) + (s.get XPH_IN.V12 : Int) * s.getI XPH_IN.I12) % ((2 ^ 64 : Nat) : Int)).toNat
      { s with pwr := { s.pwr with ein := e } }.put64At PWR_EIN_LO PWR_EIN_HI (e / 128)
    else { s.put PWR_EVT.MEAS_BAD 1 with pwr := { s.pwr with badCap := true, badIvl := true } }
  let legs := if s.bit TTB_LEG.VALID then setBitN s.pwr.legs (s.get TTB_LEG.LEG) else s.pwr.legs
  let s := { s with pwr := { s.pwr with legs := legs } }
  s.each (List.range 64) fun s g =>
    let k := s.wgrp g
    let lim := decide (s.get (REIN_RATE.N g) < 64)
    let lame := (s.groupRegion g).any fun n => s.rgnState n == rLAME
    if lim || lame then s.setWgrp g { k with limt := k.limt + lim.toNat, lame := k.lame || lame } else s

/-- FIXED and LMAX as they stand at a base tick (R370, R382): a fall of LMAX lowers l. -/
def levelTick (s : State) : State :=
  let s := { s with pwr := { s.pwr with fixed := s.bit PWR_CTRL.FIXED } }
  let s := if s.pwr.fixed = true ∧ s.capLevel = -1 then s.put PWR_STAT.L 0 else s
  let s := s.put PWR_STAT.LMAX s.capMax
  if (s.capMax : Int) < s.capLevel then s.putI PWR_STAT.L s.capMax else s

/-- Point selection of every region with points, and what every region with a table reports (R361..R366). -/
def pointsTick (s : State) : State :=
  let s :=
    if s.bit PWR_CTRL.OP_EN then s.each (s.opRegions.filter fun n => decide (1 ≤ s.nop n)) fun s n => pointTick n s
    else s
  s.each (union s.opRegions (s.listed (PWR_RGN_STAT 0) 0x80 256)) fun s n => pointReport n s

/-- Mean power over a window from the input accumulator, or from the regions' when a reading was not valid (R379). -/
def windowPower (de : Int) (ds : Int) (bad : Bool) : Int :=
  if bad then floorDiv ds (1250 * 857) else floorDiv de 1600000

/-- The cap stepper at a boundary (R382, R384). -/
def capStep (m share : Nat) (s : State) : State :=
  let l := s.capLevel
  let lmax : Nat := s.capMax
  let hyst := s.get PWR_CAPCFG.HYST
  let atMax := decide (share < m) && l == (lmax : Int) && s.bit PWR_CTRL.CAP_EN
  let s :=
    if !s.bit PWR_CTRL.CAP_EN then s
    else if share < m then
      { s.putI PWR_STAT.L (if l = -1 then 0 else if l < lmax then l + 1 else l) with pwr := { s.pwr with under := 0 } }
    else if m + hyst ≤ share then
      let u := s.pwr.under + 1
      if s.get PWR_CAPCFG.RELAX ≤ u then
        let boost := l == 0 && s.bit PWR_CTRL.BOOST_EN && !s.bit PWR_CTRL.FIXED &&
          decide (m + s.get PWR_CAPCFG.BMARG ≤ share)
        { s.putI PWR_STAT.L (if 0 < l then l - 1 else if boost then -1 else l) with pwr := { s.pwr with under := 0 } }
      else { s with pwr := { s.pwr with under := u } }
    else { s with pwr := { s.pwr with under := 0 } }
  let s :=
    if atMax then
      let s := if s.bit PWR_STAT.UNATTAIN then s else pwrEvent PWR_EVT.UNATTAIN 0 (s.put PWR_STAT.UNATTAIN 1)
      (s.put PWR_DEFICIT.W (m - share)).incSat PWR_DEFICIT.TICKS
    else if m ≤ share then
      (if s.bit PWR_STAT.UNATTAIN then pwrEvent PWR_EVT.ATTAIN 1 (s.put PWR_STAT.UNATTAIN 0) else s).put PWR_DEFICIT.W 0
    else s
  { s with pwr := { s.pwr with capped := s.pwr.capped || decide (0 < s.capLevel),
                               boost := s.pwr.boost || s.capLevel == -1,
                               unattain := s.pwr.unattain || s.bit PWR_STAT.UNATTAIN,
                               lost := s.pwr.lost || s.bit PWR_STAT.SHARE_LOST,
                               lEpoch := s.pwr.lEpoch || decide (1 ≤ s.capLevel) } }

/-- The share used from a boundary (R380, R381). -/
def takeShare (s : State) : State :=
  match s.pwr.next with
  | some sh => { s.put PWR_SHARE.SHARE sh with pwr := { s.pwr with next := none, missed := 0 } }
  | none =>
    if s.inst ≠ 0 ∧ s.pwr.due then
      let k := s.pwr.missed + 1
      let s := { s with pwr := { s.pwr with missed := k } }
      if 3 ≤ k then
        let s := s.put PWR_SHARE.SHARE (s.pkgCap / 4)
        if s.bit PWR_STAT.SHARE_LOST then s else pwrEvent PWR_EVT.SHARE_LOST 2 (s.put PWR_STAT.SHARE_LOST 1)
      else s
    else s

/-- A cap-window boundary (R379..R384): M is latched and reported, the share in use changes, and the stepper acts. -/
def capBoundary (s : State) : State :=
  let p := s.pwr
  let m := windowPower (toSigned 64 (p.ein + 2 ^ 64 - p.einCap)) (p.sum - p.sumCap) p.badCap
  let s := { s with pwr := { p with einCap := p.ein, sumCap := p.sum, badCap := false, capAt := s.now } }
  if s.locked then
    let s := takeShare (s.putOr PWR_SHARE.MEAS m)
    let m := s.get PWR_SHARE.MEAS
    let s := { s with pwr := { s.pwr with due := true, sharesDue := true, got := [] } }
    let s := if s.inst = 0 then s else { s with out := { s.out with reports := s.out.reports ++ [m] } }
    capStep m (s.get PWR_SHARE.SHARE) s
  else s

/-- Instance 0 receives M of instance k over the sideband (R380); a report later than 10 µs after the boundary is not used
(R381). -/
def shareReport (k m : Nat) (s : State) : State :=
  if s.inst = 0 ∧ k ≠ 0 ∧ s.now % 80000 ≤ 8000 then
    { s.put (PWR_SHTAB.M k) m with pwr := { s.pwr with got := mapInsert (mapErase s.pwr.got k) k m } }
  else s

/-- The four shares of a cap P from the four values M (R380). -/
def sharesOf (p smin : Nat) (ms : List Nat) : List Nat :=
  let total := ms.sum
  if p < 4 * smin then ms.map fun _ => p / 4
  else if total ≤ p then ms.map fun m => m + (p - total) / 4
  else
    let es := ms.map fun m => m - smin
    if es.sum = 0 then ms.map fun _ => smin + (p - 4 * smin) / 4
    else es.map fun e => smin + (p - 4 * smin) * e / es.sum

/-- Instance 0 computes and sends the shares (R380, R381). -/
def shareCompute (s : State) : State :=
  if s.inst = 0 ∧ s.pwr.sharesDue then
    let smin := s.get PWR_PKG.SMIN
    let got (i : Nat) : Option Nat :=
      if i = 0 then some (s.get PWR_SHARE.MEAS) else (s.pwr.got.find? fun e => e.1 == i).map (·.2)
    let ms := (List.range 4).map fun i => (got i).getD smin
    let shares := sharesOf s.pkgCap smin ms
    let s := s.each (List.range 4) fun s i =>
      (s.put (PWR_SHTAB.M i) ((got i).getD 0xFFFF)).put (PWR_SHTAB.SHARE i) (shares.getD i 0)
    let msgs := [1, 2, 3].map fun i =>
      (⟨i, shares.getD i 0, s.pkgCap, s.rd PWR_PKG, s.rd PWR_PKG_BMC, s.bit PWR_CTRL.ENV_EN, s.get PWR_CTRL.PG⟩ : ShareMsg)
    { s with pwr := { s.pwr with sharesDue := false, next := some (shares.getD 0 0), mEpoch := s.pwr.mEpoch + ms.sum },
             out := { s.out with shares := s.out.shares ++ msgs } }
  else s

/-- An instance 1..3 receives its share and the mirrored terms (R378, R380, R381). -/
def shareReceive (m : ShareMsg) (s : State) : State :=
  if s.inst = 0 then s
  else
    let s := ((s.put PWR_PKG_EFF.P m.cap).wr PWR_PKG m.pkg).wr PWR_PKG_BMC m.bmc
    let s := (s.putB PWR_CTRL.ENV_EN m.envEn).put PWR_CTRL.PG m.pg
    { s.put PWR_STAT.SHARE_LOST 0 with pwr := { s.pwr with next := some m.share, missed := 0 } }

/-! ### The Waybill (R387..R392) -/

/-- Live groups of slot j. -/
def State.slotGroups (s : State) (j : Nat) : List Nat := (List.range 64).filter fun g => s.get (WBL_GMAP.LIVE g) == j

/-- The interval's input energy in whole microjoules and the carried remainder (R389), from E_IN or its equivalent. -/
def State.intervalEnergy (s : State) : Nat × Nat :=
  let p := s.pwr
  let de : Int :=
    if p.badIvl then floorDiv ((p.sum - p.sumIvl) * 128000) 85700 else toSigned 64 (p.ein + 2 ^ 64 - p.einIvl)
  let u := p.carry + de.toNat
  (u / 128000, u % 128000)

/-- The split of an interval's energy: (E_j, fill_j) for j = 0..15 (R389). -/
def splitEnergy (e : Nat) (ws fs : List Nat) : List (Nat × Nat) :=
  let total := ws.sum
  let es :=
    if total = 0 then e :: List.replicate 15 0
    else
      let rest := (ws.drop 1).map fun w => e * w / total
      (e - rest.sum) :: rest
  (es.zip (ws.zip fs)).map fun x => (x.1, if x.2.1 = 0 then 0 else x.1 * x.2.2 / x.2.1)

/-- The record of slot j (R390). -/
def State.wblRecord (s : State) (idx j e fill w limt : Nat) (lame : Bool) : List Word :=
  let p := s.pwr
  let tag := s.get64 (WBL_LTAG_LO j)
  let chg := tag != mapGet 0 p.prevTag j
  let flags := p.capped.toNat + 2 * p.unattain.toNat + 4 * lame.toNat + 8 * p.badIvl.toNat +
    16 * s.get PWR_CTRL.FIXED + 32 * chg.toNat + 64 * p.lost.toNat + 128 * p.boost.toNat
  let tot := s.get64 (WBL_TOT_LO j)
  [0x0101 + 65536 * j + 16777216 * flags, idx, tag, tag / 2 ^ 32, p.ivlStart, p.ivlStart / 2 ^ 32, e, fill,
    tot, tot / 2 ^ 32, w / 1000000, s.get PWR_CAL.CALGEN + 65536 * (s.slotGroups j).length, limt,
    p.legs, p.legs / 2 ^ 32, s.num WBL_SEQ].map fun v => BitVec.ofNat 32 v

/-- One record goes to the ring, or is dropped when the ring is full (R391); `left` records can still be written before
the host fabric fails. The second answer tells that writing goes on, the third that a record was written. -/
def wblWrite (rec : List Word) (left : Option Nat) (s : State) : Bool × Bool × State :=
  let size := 2 ^ s.get WBL_CTRL.SZ
  let w := s.get WBL_WPTR.PTR
  let addr := s.get64 WBL_RING_LO + 64 * w
  if (w + 1) % size = s.get WBL_RPTR.PTR then
    (true, false, pwrEvent PWR_EVT.WBL_DROP 7 ((s.incSat WBL_STAT.DROPPED).addWrap WBL_SEQ.SEQ 1))
  else if left = some 0 then (false, false, dmaError 2 addr s)
  else (true, true, ((s.hostWrite addr rec).put WBL_WPTR.PTR ((w + 1) % size)).addWrap WBL_SEQ.SEQ 1)

/-- A Waybill interval ends (R387..R392); `fail` is the number of records written before a host-fabric error. -/
def waybillEnd (fail : Option Nat) (s : State) : State :=
  let (e, carry) := s.intervalEnergy
  let js := List.range 16
  let grp (j : Nat) : List WblGrp := (s.slotGroups j).map s.wgrp
  let ws := js.map fun j => ((grp j).map fun k => k.d + k.st).sum
  let fs := js.map fun j => ((grp j).map fun k => k.f).sum
  let parts := splitEnergy e ws fs
  let idx := s.now / (800000 * s.get WBL_CTRL.IVL) - 1
  let s := s.each parts.zipIdx fun s x =>
    let s := s.put64 (WBL_TOT_LO x.2) (s.get64 (WBL_TOT_LO x.2) + x.1.1)
    s.put64 (WBL_FTOT_LO x.2) (s.get64 (WBL_FTOT_LO x.2) + x.1.2)
  let due := js.filter fun j => s.bit WBL_CTRL.EN && (decide (0 < (parts.getD j (0, 0)).1) || !(s.slotGroups j).isEmpty)
  let (_, n, s) : Bool × Nat × State := due.foldl
    (fun acc j =>
      if acc.1 then
        let s := acc.2.2
        let p := parts.getD j (0, 0)
        let ks := (s.slotGroups j).map s.wgrp
        let rec_ := s.wblRecord idx j p.1 p.2 (ws.getD j 0) (ks.map (·.limt)).sum (ks.any (·.lame))
        let (go, wrote, s) := wblWrite rec_ (fail.map (· - acc.2.1)) s
        (go, acc.2.1 + wrote.toNat, s)
      else acc) (true, 0, s)
  let s := if n = 0 then s else pwrEvent PWR_EVT.WBL 6 s
  let prev := js.filterMap fun j => let t := s.get64 (WBL_LTAG_LO j); if t = 0 then none else some (j, t)
  let s := s.each js fun s j => s.put64 (WBL_LTAG_LO j) (s.get64 (WBL_TAG_LO j))
  let s := s.each (List.range 64) fun s g => s.put (WBL_GMAP.LIVE g) (s.get (WBL_GMAP.SLOT g))
  let p := s.pwr
  { s with wblGrp := [],
           pwr := { p with einIvl := p.ein, sumIvl := p.sum, badIvl := false, carry := carry, ivlStart := s.now,
                           capped := false, unattain := false, boost := false, lost := false, legs := 0,
                           prevTag := prev } }

/-! ### The base tick -/

/-- TS ticks of a Waybill interval (R387). -/
def State.ivlLength (s : State) : Nat := 800000 * s.get WBL_CTRL.IVL

/-- The boundaries that fall on this base tick and that no command has made: the 1 µs estimate, the coefficients, the
calibration, the Waybill interval and the cap window. What accrues at the tick itself lies in the new windows (R5, R58). -/
def pwrBounds (s : State) : State :=
  let s := if s.boundaryDue 800 s.pwr.estAt then coeffApply (powerEstimate s) else s
  let s := if s.boundaryDue 8000000 s.pwr.calAt then calSnapshot s else s
  let s := if s.boundaryDue s.ivlLength s.pwr.ivlStart then waybillEnd none s else s
  if s.boundaryDue 80000 s.pwr.capAt then capBoundary s else s

/-- Power policy's part of a base tick (R361..R366, R370, R373, R374, R378, R382, R383). -/
def pwrTick (s : State) : State :=
  let s := pointsTick (levelTick (energyTick (pwrBounds s)))
  let s := if s.inst = 0 then s.put PWR_PKG_EFF.P s.pkgCap else s
  capTick s

/-! ### Register writes -/

/-- A write of PWR_CAPCFG: BMARG below HYST leaves both. -/
def capCfgWrite (v : Word) (s : State) : State :=
  let old := s.rd PWR_CAPCFG
  let s := storeReg PWR_CAPCFG v s
  if s.get PWR_CAPCFG.BMARG < s.get PWR_CAPCFG.HYST then
    (s.put PWR_CAPCFG.BMARG (fldGet old 15 8)).put PWR_CAPCFG.HYST (fldGet old 7 0)
  else s

/-- A write in the PWR or WBL block. -/
def pwrWrite (a : Nat) (v : Word) (s : State) : State :=
  let n := (a - PWR_OP 0 0) / 0x80
  let o := (a - PWR_OP 0 0) % 0x80
  if a = PWR_CTRL then pwrCtrlWrite v s
  else if a = PWR_PKG ∨ a = PWR_PKG_BMC then (if s.inst = 0 then storeReg a v s else s)
  else if a = PWR_CAPCFG then capCfgWrite v s
  else if PWR_OP 1 0 ≤ a ∧ a < PWR_OP 256 0 ∧ o < 0x40 then opWrite n (o / 4) v s
  else if PWR_OP 1 0 ≤ a ∧ a < PWR_OP 256 0 ∧ o = 0x50 then freqAck n v s
  else if a = WBL_CTRL ∧ s.bit WBL_CTRL.EN then
    let sz := s.get WBL_CTRL.SZ
    (storeReg a v s).put WBL_CTRL.SZ sz
  else if a = WBL_TAG_LO 0 ∨ a = WBL_TAG_HI 0 then s
  else if a = WBL_RING_LO ∧ fldGet v 5 0 ≠ 0 then s
  else storeReg a v s

end Sys2Proof.Machine
end

