-- ==== Sys2Proof/Machine/TimeOps.lean ====
section
/-! DEFINITION. Machine/TimeOps.lean: adjustments of TS (spec/02_time_and_clocks.md). -/

namespace Sys2Proof.Machine

/-- A write of TIM_TS_ADJ (R54..R56): SLEW starts or replaces a slew; an accepted STEP adds OFFSET + 1 at the next CKF
edge and replaces it; a refused STEP changes nothing but ADJ_REFUSED. BUSY is a view of the steps left. -/
def tsAdjWrite (v : Word) (s : State) : State :=
  let off := toSigned 16 (fldGet v 15 0)
  if fldGet v 16 16 = 0 then
    let s := (s.put TIM_TS_ADJ.MODE 0).putI TIM_TS_ADJ.OFFSET off
    { s with tim := { s.tim with slewLeft := off, slewEdges := 0 } }
  else if 0 < off ∧ !s.bit TIM_STAT.TS_ALIGNED then
    let s := (s.put TIM_TS_ADJ.MODE 1).putI TIM_TS_ADJ.OFFSET off
    State.newCycle
      { s with ts := s.ts + BitVec.ofInt 64 (off + 1),
               tim := { s.tim with slewLeft := 0, slewEdges := 0, edges := s.tim.edges + 1 } }
  else s.put TIM_STAT.ADJ_REFUSED 1

/-- The next step of a slew (R49, R54): time passes to the CKF edge that makes it, the 256th since the request or the last
step, where TS advances by 2 or 0. -/
def slewStep (s : State) : State :=
  if s.tim.slewLeft = 0 ∨ !s.bit TIM_STAT.PLL_LOCK then s else s.passEdges (256 - s.tim.slewEdges)

end Sys2Proof.Machine
end

