-- ==== Sys2Proof/Machine/CouplerOps.lean ====
section
/-! DEFINITION. Machine/CouplerOps.lean: Coupler (spec/12_coupler.md): endpoints and messages, heartbeats, time, the fleet
envelope, co-capping, emergency caps and remote writes. -/

namespace Sys2Proof.Machine

/-- A CPLR event: its flag and its Postilion source (R429). -/
def cplrEvent (f : Fld) (off : Nat) (s : State) : State := (s.put f 1).ring kCPLR off

/-- An overflow: its own flag, OVF and source 6. -/
def cplrOvf (f : Fld) (s : State) : State := cplrEvent CPLR_EVT.OVF 6 (s.put f 1)

/-- A refused configuration or target write: its own flag, CFG and source 7. -/
def cplrCfg (f : Fld) (s : State) : State := cplrEvent CPLR_EVT.CFG 7 (s.put f 1)

namespace State

/-- Coupler runs (CPLR_CTRL.EN). -/
def cplrOn (s : State) : Bool := s.bit CPLR_CTRL.EN

/-- The present epoch (R410). -/
def epoch (s : State) : Nat := s.now / 800000

/-- An epoch index from its bits 31:0: the one nearest the present epoch. -/
def epochOf (s : State) (e : Nat) : Nat :=
  let c := s.epoch
  ((c : Int) + toSigned 32 (e + 2 ^ 32 - c % 2 ^ 32)).toNat

/-- Member id (R397). -/
def memberId (s : State) : Nat := 4 * s.get CPLR_ID.PKG + s.inst

/-- State of endpoint e. -/
def cep (s : State) (e : Nat) : CplrEp := mapGet {} s.cplrEp e

/-- Replace it. -/
def setCep (s : State) (e : Nat) (h : CplrEp) : State := { s with cplrEp := mapSet {} s.cplrEp e h }

/-- State of group slot x. -/
def cslot (s : State) (x : Nat) : CplrSlot := mapGet {} s.cplrSlot x

/-- Replace it. -/
def setCslot (s : State) (x : Nat) (h : CplrSlot) : State := { s with cplrSlot := mapSet {} s.cplrSlot x h }

/-- ROLE of endpoint e: 0 UNUSED, 1 PARENT, 2 CHILD; sideband roles follow the instance, and instances 1..3 have no link
endpoints (R398). -/
def epRole (s : State) (e : Nat) : Nat :=
  if s.inst = 0 then (if e ≤ 16 then s.get (CPLR_EP_CFG.ROLE e) else 2)
  else if e = 17 then 1
  else 0

/-- Endpoints of a role. -/
def epsOf (s : State) (r : Nat) : List Nat := (List.range 20).filter fun e => s.epRole e == r

/-- Is endpoint e trained (R400)? A link endpoint: its route is up, and a HELLO has passed each way within the last 4
epochs; a sideband endpoint: both ends are out of reset. -/
def trained (s : State) (e : Nat) : Bool :=
  let h := s.cep e
  let fresh (o : Option Nat) : Bool := o.any fun k => decide (s.epoch < k + 4)
  !s.rst.inst && h.up && (decide (17 ≤ e) || (fresh h.helloIn && fresh h.helloOut))

/-- PRESENT of endpoint e. -/
def present (s : State) (e : Nat) : Bool := s.bit (CPLR_EP_STAT.PRESENT e)

/-- VL_STAT.LINKS_TRAINED (R400). -/
def linksTrained (s : State) : Bool := (List.range 20).all fun e => s.epRole e == 0 || s.trained e

/-- Is this member the root (R398)? -/
def isRoot (s : State) : Bool := s.cplrOn && s.inst == 0 && s.get CPLR_CTRL.ROLE == 1

end State

/-! ### Messages (R401) -/

/-- A message of this member: KIND, FLAGS, SEQ, bytes 8..15 and the words from byte 16. -/
def State.message (s : State) (kind flags seq hi : Nat) (body : List Nat) : List Word :=
  ([kind + 256 * flags + 65536 * seq, s.memberId, hi, hi / 2 ^ 32] ++ (body ++ [0, 0, 0, 0]).take 4).map
    fun v => BitVec.ofNat 32 v

/-- Send a message on endpoint e, when Coupler runs and the endpoint is trained. -/
def cplrSend (e : Nat) (ws : List Word) (s : State) : State :=
  if s.cplrOn ∧ s.trained e then { s with out := { s.out with msgs := s.out.msgs ++ [⟨some e, ws⟩] } } else s

/-- Send a message to every child. -/
def cplrSendDown (ws : List Word) (s : State) : State := s.each (s.epsOf 2) fun s e => cplrSend e ws s

/-- Send a message to the parent. -/
def cplrSendUp (ws : List Word) (s : State) : State := s.each (s.epsOf 1) fun s e => cplrSend e ws s

/-- ENV of a point. -/
def State.envMessage (s : State) (p : EnvPoint) : List Word :=
  s.message 0x06 0 0 0 [p.epoch, p.frac + 65536 * p.fleet.toNat]

/-- EMCAP of an entry. -/
def State.emMessage (s : State) (issuer seq rate expire : Nat) : List Word :=
  s.message 0x07 0 seq 0 [issuer, rate, expire]

/-- COCAP of a group. -/
def State.cocapMessage (s : State) (gid rate e : Nat) : List Word := s.message 0x09 0 0 0 [gid + 65536 * rate, e]

/-! ### HELLO and presence (R400, R402..R404) -/

/-- A HELLO goes out on link endpoint e while its route is up. -/
def sendHello (e : Nat) (s : State) : State :=
  let h := s.cep e
  if s.cplrOn ∧ s.epRole e ≠ 0 ∧ h.up ∧ e ≤ 16 then
    let ws := s.message 0x01 0 0 0 [s.get CPLR_CTRL.ROLE]
    { s with out := { s.out with msgs := s.out.msgs ++ [(⟨some e, ws⟩ : CplrMsg)] } }.setCep e
      { h with helloOut := some s.epoch }
  else s

/-- NCHILD, PARENT_OK and STATE of CPLR_STAT; a member that loses its parent enters ORPHAN (R403). -/
def cplrRefresh (s : State) : State :=
  let old := s.get CPLR_STAT.STATE
  let parent := (s.epsOf 1).any s.present
  let s := (s.put CPLR_STAT.NCHILD ((s.epsOf 2).filter s.present).length).putB CPLR_STAT.PARENT_OK parent
  let st := if !s.cplrOn then 0 else if s.isRoot then 3 else if parent then 2 else if old = 2 ∨ old = 4 then 4 else 1
  let s := s.put CPLR_STAT.STATE st
  if (old = 4) = (st = 4) then s else cplrEvent CPLR_EVT.ORPHAN 1 s

/-! ### Co-capping (R417..R421) -/

/-- Is slot x an enabled MATCH slot? -/
def CplrSlot.isMatch (h : CplrSlot) : Bool := h.en && h.gid != 0 && !h.alone

/-- The COCAP requests of R421 go to Reins. -/
def cocapRequests (s : State) : State :=
  let s := s.each (List.range 64) fun s g =>
    let rs := ((List.range 4).filter fun x => (s.cslot x).isMatch && bitOf (s.cslot x).gmask g).map fun x =>
      s.get (CPLR_GRP_STAT.GRATE x)
    s.put (REIN_HWREQ1.COCAP g) (rs.foldl min 64)
  reinCombine s

/-- The adopted rate of slot x takes a value. -/
def putGrate (x r : Nat) (s : State) : State :=
  if s.get (CPLR_GRP_STAT.GRATE x) = r then s
  else cplrEvent CPLR_EVT.CC 4 (s.put (CPLR_GRP_STAT.GRATE x) r)

/-- A pair (rate, E) enters a pending list (R421). -/
def pairInsert (r e : Nat) : List (Nat × Nat) → List (Nat × Nat)
  | [] => [(r, e)]
  | (q, f) :: rest => if f = e then (r, e) :: rest else if e < f then [(r, e)] else (q, f) :: pairInsert r e rest

/-- A COCAP applies to slot x (R421). -/
def cocapSlot (x r e : Nat) (s : State) : State :=
  let s := s.put (CPLR_GRP_STAT.RG x) r
  if 800000 * e ≤ s.now then ((putGrate x r s).put (CPLR_GRP_STAT.LATE x) 1).incSat CPLR_CNT.CC_LATE
  else
    let h := s.cslot x
    let ps := pairInsert r e h.pairs
    let s := s.setCslot x { h with pairs := ps.take 4 }
    if 4 < ps.length then cplrOvf CPLR_EVT.AGG_OVF s else s

/-- An entry whose contributions are all 64 and which has passed down 64 is freed (R419). -/
def aggFree (l : List AggEntry) : List AggEntry := l.filter fun a => !(a.rates.isEmpty && a.down.any (·.1 == 64))

/-- A COCAP passes: down to the children, into the aggregation table and to the slots of its GID (R420, R421). -/
def cocapPass (gid r e : Nat) (s : State) : State :=
  let s := cplrSendDown (s.cocapMessage gid r e) s
  let agg := s.cplr.agg.map fun a => if a.gid = gid then { a with down := some (r, e) } else a
  let s := { s with cplr := { s.cplr with agg := aggFree agg } }
  let xs := (List.range 4).filter fun x => (s.cslot x).isMatch && (s.cslot x).gid == gid
  if xs.isEmpty then s else cocapRequests (s.each xs fun s x => cocapSlot x r e s)

/-- The least contribution of a GID has changed (R419, R420). -/
def aggReport (gid r : Nat) (s : State) : State :=
  if s.isRoot then
    let e := (s.now + 800 * s.get CPLR_CC.GUARD + 799999) / 800000
    cocapPass gid r e s
  else cplrSendUp (s.message 0x08 0 0 0 [gid + 65536 * r]) s

/-- A contribution to the aggregation table: key x of a slot, 4 + e of an endpoint (R419). -/
def aggPut (gid key r : Nat) (s : State) : State :=
  let l := s.cplr.agg
  if l.any (·.gid == gid) then
    let l := l.map fun a => if a.gid = gid then { a with rates := mapSet 64 a.rates key r } else a
    match l.find? (·.gid == gid) with
    | some a =>
      let least := (a.rates.map Prod.snd).foldl min 64
      let l := l.map fun a => if a.gid = gid then { a with least := least } else a
      let s := { s with cplr := { s.cplr with agg := aggFree l } }
      if least = a.least then s else aggReport gid least s
    | none => s
  else if r = 64 then s
  else if l.length < 256 then
    aggReport gid r { s with cplr := { s.cplr with agg := l ++ [⟨gid, [(key, r)], r, none⟩] } }
  else cplrOvf CPLR_EVT.AGG_OVF s

/-- The announced rate of slot x (R418). -/
def State.announced (s : State) (x : Nat) : Nat :=
  let h := s.cslot x
  if h.isMatch then
    ((bitsOf h.gmask 64).map fun g =>
      min (s.get (REIN_CAP.RATE g)) (min (s.get (REIN_HWREQ0.THERM g)) (min (s.reinSkid g) (min (s.reinLame g)
        (s.get (REIN_FW.RATE g)))))).foldl min 64
  else 64

/-- Announcements are formed anew; a change enters the aggregation table (R418, R419). -/
def announceAll (s : State) : State :=
  s.each (List.range 4) fun s x =>
    let r := s.announced x
    if s.get (CPLR_GRP_STAT.ANN x) = r then s
    else aggPut (s.cslot x).gid x r (s.put (CPLR_GRP_STAT.ANN x) r)

/-- Reins' combiner and Coupler's announcements at a CKF edge (R340, R418). -/
def reinAll (s : State) : State := announceAll (reinCombine s)

/-- What an event in the CTRL island or the cell sea does out of reset; every group's rate follows (R336, R340). -/
def State.working (s : State) (k : State → State) : State := s.running fun s => reinAll (k s)

/-- The slots' registers take effect at an epoch boundary (R417). -/
def slotsApply (s : State) : State :=
  let s := s.each (List.range 4) fun s x =>
    let h := s.cslot x
    let gid := s.get (CPLR_GRP_CFG.GID x)
    let new : CplrSlot :=
      ⟨s.bit (CPLR_GRP_CFG.EN x), s.bit (CPLR_GRP_CFG.POLICY x), gid,
        s.num (CPLR_GMASK_LO x) + 2 ^ 32 * s.num (CPLR_GMASK_HI x), if gid = h.gid then h.pairs else []⟩
    let s := if gid = h.gid then s
      else
        let s := (putGrate x 64 s).put (CPLR_GRP_STAT.ANN x) 64
        if h.gid = 0 then s else aggPut h.gid x 64 s
    s.setCslot x new
  announceAll (cocapRequests s)

/-- The first pairs whose epoch has begun are adopted (R421). -/
def cocapAdopt (s : State) : State :=
  cocapRequests
    (s.each (List.range 4) fun s x =>
      let h := s.cslot x
      match h.pairs with
      | (r, e) :: rest => if 800000 * e ≤ s.now then putGrate x r (s.setCslot x { h with pairs := rest }) else s
      | [] => s)

/-! ### Emergency caps (R422..R424) -/

/-- Entries of the emergency table in use. -/
def State.emEntries (s : State) : List Nat := (List.range 4).filter fun i => s.bit (CPLR_EM_TAB0.VALID i)

/-- The EMCAP request follows the table (R424). -/
def emRefresh (s : State) : State :=
  let old := s.get CPLR_EM_STAT.RATE
  let r := (s.emEntries.map fun i => s.get (CPLR_EM_TAB1.RATE i)).foldl min 64
  let s := (s.put CPLR_EM_STAT.NENT s.emEntries.length).put CPLR_EM_STAT.RATE r
  if r = old then s
  else
    let s := s.each (List.range 64) fun s g => s.put (REIN_HWREQ1.EMCAP g) r
    reinAll (cplrEvent CPLR_EVT.EM 3 s)

/-- Entry i of the table is written. -/
def emPut (i issuer seq rate expire : Nat) (s : State) : State :=
  ((((s.put (CPLR_EM_TAB0.VALID i) 1).put (CPLR_EM_TAB0.ISSUER i) issuer).put (CPLR_EM_TAB1.SEQ i) seq).put
    (CPLR_EM_TAB1.RATE i) rate).put (CPLR_EM_TAB2.EXPIRE i) expire

/-- Entry i of the table is removed. -/
def emDrop (i : Nat) (s : State) : State :=
  ((s.wr (CPLR_EM_TAB0 i) 0).wr (CPLR_EM_TAB1 i) 0x40).wr (CPLR_EM_TAB2 i) 0

/-- The entry that a message from a fifth issuer may replace: the largest rate, lowest issuer among equals (R424). -/
def State.emVictim (s : State) : Nat :=
  s.emEntries.foldl (fun b i =>
    let r := s.get (CPLR_EM_TAB1.RATE i)
    let rb := s.get (CPLR_EM_TAB1.RATE b)
    if rb < r ∨ (rb = r ∧ s.get (CPLR_EM_TAB0.ISSUER i) < s.get (CPLR_EM_TAB0.ISSUER b)) then i else b) 0

/-- A message, or the member's own issue, updates the table (R424); it is a Class 0 source until then (R29, R32). -/
def emApply (issuer seq rate expire : Nat) (s : State) : State :=
  let s := s.c0Touch
  let s :=
    match s.emEntries.find? fun i => s.get (CPLR_EM_TAB0.ISSUER i) == issuer with
    | some i =>
      let d := (seq + 65536 - s.get (CPLR_EM_TAB1.SEQ i)) % 65536
      if 1 ≤ d ∧ d ≤ 32767 then (if rate = 64 then emDrop i s else emPut i issuer seq rate expire s) else s
    | none =>
      if rate = 64 then s
      else
        match (List.range 4).find? fun i => !s.bit (CPLR_EM_TAB0.VALID i) with
        | some i => emPut i issuer seq rate expire s
        | none =>
          let v := s.emVictim
          let s := if rate < s.get (CPLR_EM_TAB1.RATE v) then emPut v issuer seq rate expire s else s
          cplrOvf CPLR_EVT.EM_OVF s
  emRefresh s

/-- Entries whose expiry epoch has started are removed (R424). -/
def emExpire (s : State) : State :=
  emRefresh (s.each s.emEntries fun s i =>
    let x := s.get (CPLR_EM_TAB2.EXPIRE i)
    if x ≠ 0 ∧ s.epochOf x ≤ s.epoch then emDrop i s else s)

/-- A write of CPLR_EM_ISSUE (R422). -/
def emIssue (v : Word) (s : State) : State :=
  let rate := fldGet v 6 0
  let ttl := fldGet v 31 16
  if rate = 0 ∨ 64 < rate then s
  else
    let seq := (s.cplr.emSeq + 1) % 65536
    let expire := if ttl = 0 then 0 else (s.epoch + ttl) % 2 ^ 32
    let s := emApply s.memberId seq rate expire { s with cplr := { s.cplr with emSeq := seq } }
    cplrSendDown (s.emMessage s.memberId seq rate expire) s

/-! ### The fleet envelope (R411..R415) -/

/-- A point enters the pending table (R412). -/
def envInsert (p : EnvPoint) : List EnvPoint → List EnvPoint
  | [] => [p]
  | q :: rest => if q.epoch = p.epoch then [p] else if p.epoch < q.epoch then p :: q :: rest else q :: envInsert p rest

/-- A point becomes current (R412). -/
def envCurrent (p : EnvPoint) (s : State) : State :=
  let s := ((s.put CPLR_ENV_CUR.VALID 1).putB CPLR_ENV_CUR.FLEET p.fleet).put CPLR_ENV_CUR.FRAC p.frac
  cplrEvent CPLR_EVT.ENV 5 { s with cplr := { s.cplr with envEpoch := p.epoch } }

/-- A point is received or issued (R411, R412). -/
def envTake (p : EnvPoint) (s : State) : State :=
  let s := cplrSendDown (s.envMessage p) s
  if 800000 * p.epoch ≤ s.now then envCurrent p s
  else { s with cplr := { s.cplr with env := (envInsert p s.cplr.env).take 4 } }

/-- Pending points whose epoch has begun become current. -/
def envDue : List EnvPoint → State → State
  | [], s => s
  | p :: rest, s =>
    if 800000 * p.epoch ≤ s.now then envDue rest (envCurrent p { s with cplr := { s.cplr with env := rest } }) else s

/-- A write of CPLR_ENV_ISSUE (R411). -/
def envIssue (v : Word) (s : State) : State :=
  if s.isRoot then envTake ⟨s.epochOf (s.get CPLR_ENV_ISSUE_E.E), fldGet v 15 0, fldGet v 16 16 == 1⟩ s
  else cplrCfg CPLR_EVT.CFG_ERR s

/-- Envelope target and trim at an epoch boundary, on instance 0 (R413, R414, R415); while ENV_EN is 0 the trim is 0 and
nothing is written to the generator. -/
def envTarget (s : State) : State :=
  if s.inst ≠ 0 then s
  else
    let p := s.pwr
    let ok := s.bit PWR_CTRL.ENV_EN && p.lEpoch &&
      (clampI 0 65535 (s.numI (PG_OUT (s.get PWR_CTRL.PG)))).toNat == s.pkgCap
    let s := { s with cplr := { s.cplr with winM := s.cplr.winM + p.mEpoch, winT := s.cplr.winT + s.get CPLR_ENV_TGT.T,
                                            winOk := s.cplr.winOk && ok } }
    let s := { s with pwr := { p with mEpoch := 0, lEpoch := false } }
    let t : Nat := s.get CPLR_ENV_REF.REF * s.get CPLR_ENV_CUR.FRAC / 32768
    if !s.bit PWR_CTRL.ENV_EN then
      let s := s.put CPLR_ENV_TGT.I 0
      if s.bit CPLR_ENV_CUR.VALID then s.putOr CPLR_ENV_TGT.T t else s
    else if !s.bit CPLR_ENV_CUR.VALID then s
    else
      let e : Int := (t : Int) - (p.mEpoch / 10 : Nat)
      let imax : Int := (s.get CPLR_ENV_TRIM.IMAX : Nat)
      let i := s.getI CPLR_ENV_TGT.I
      let i := if e < 0 ∨ p.lEpoch = true then clampI (-imax) imax (i + floorDiv (e * (s.get CPLR_ENV_TRIM.KI : Nat)) 256)
        else i
      let s := (s.putOr CPLR_ENV_TGT.T t).putI CPLR_ENV_TGT.I i
      let j := s.get PWR_CTRL.PG
      if s.pgBound j then cplrCfg CPLR_EVT.ENV_BAD s else pgTarget j (max 0 ((t : Int) + i)) s

/-- A 100 ms envelope window ends (R415): the relative error in 0.01 %; its rounding is not stated. -/
def envWindowEnd (s : State) : State :=
  let s := { s with cplr := { s.cplr with envAt := s.now } }
  if s.inst ≠ 0 then s
  else
    let c := s.cplr
    let s := { (s.put CPLR_ENV_ERR.VALID 1).putB CPLR_ENV_ERR.CONSTR c.winOk with
                 cplr := { c with winM := 0, winT := 0, winOk := true } }
    if c.winT = 0 then
      let (w, s) := s.drawFree
      s.put CPLR_ENV_ERR.ERR (w.toNat % 65536)
    else
      let (v, s) := s.roundOpen (((c.winM : Int) - 10 * c.winT) * 10000) (10 * c.winT)
      if -32768 ≤ v ∧ v ≤ 32767 then s.putI CPLR_ENV_ERR.ERR v
      else
        let (w, s) := s.drawFree
        s.put CPLR_ENV_ERR.ERR (w.toNat % 65536)

/-! ### Time (R406..R409) -/

/-- A measured offset θ is reported and, from 2 ticks on, corrected (R57, R406, R407). ±100 ns is ±80 ticks. -/
def applyTheta (theta : Int) (s : State) : State :=
  let aligned := decide (-80 ≤ theta) && decide (theta ≤ 80)
  let s := (s.put CPLR_OFS.VALID 1).putI CPLR_OFS.THETA (satS 16 theta)
  let s := s.putB TIM_STAT.TS_ALIGNED aligned
  let s := if aligned ∧ s.get TIM_STAT.CKA_SRC ≠ 2 then s.put TIM_STAT.TS_DEGRADED 0 else s
  if -2 < theta ∧ theta < 2 then s
  else if !aligned ∧ theta ≤ -800 then
    tsAdjWrite (BitVec.ofNat 32 (65536 + (min (-theta) 32767).toNat)) s
  else tsAdjWrite (BitVec.ofNat 32 (ofSigned 16 (clampI (-32768) 32767 (-theta)))) s

/-- The offset is no longer measured (R403, R57). -/
def unmeasure (s : State) : State := (s.put CPLR_OFS.VALID 0).put TIM_STAT.TS_ALIGNED 0

/-! ### Heartbeats (R402..R404) -/

/-- Endpoint e's peer is declared absent (R403). -/
def peerAbsent (e : Nat) (s : State) : State :=
  let s := s.put (CPLR_EP_STAT.PRESENT e) 0
  let s := cplrRefresh s
  if s.epRole e = 2 then
    let s := cplrEvent CPLR_EVT.PEER 0 s
    s.each (s.cplr.agg.map (·.gid)) fun s g => aggPut g (4 + e) 64 s
  else unmeasure s

/-- Endpoint e's peer is present again (R404). -/
def peerReturn (e : Nat) (s : State) : State :=
  let s := cplrRefresh (s.put (CPLR_EP_STAT.PRESENT e) 1)
  if s.epRole e = 2 then
    let s := cplrEvent CPLR_EVT.PEER 0 s
    let cur := if s.bit CPLR_ENV_CUR.VALID then
        [(⟨s.cplr.envEpoch, s.get CPLR_ENV_CUR.FRAC, s.bit CPLR_ENV_CUR.FLEET⟩ : EnvPoint)] else []
    let s := s.each (cur ++ s.cplr.env) fun s p => cplrSend e (s.envMessage p) s
    let s := s.each s.emEntries fun s i =>
      cplrSend e (s.emMessage (s.get (CPLR_EM_TAB0.ISSUER i)) (s.get (CPLR_EM_TAB1.SEQ i)) (s.get (CPLR_EM_TAB1.RATE i))
        (s.get (CPLR_EM_TAB2.EXPIRE i))) s
    s.each s.cplr.agg fun s a =>
      match a.down with
      | some d => cplrSend e (s.cocapMessage a.gid d.1 d.2) s
      | none => s
  else s

/-- An HB arrives on endpoint e (R402, R404). -/
def heartbeatIn (e : Nat) (s : State) : State :=
  if s.cplrOn ∧ s.epRole e ≠ 0 then
    let h := s.cep e
    let run := if h.hb then h.run else h.run + 1
    let s := (s.setCep e { h with hb := true, run := run }).put (CPLR_EP_STAT.MISS e) 0
    if !s.present e && decide (2 ≤ run) then peerReturn e s else s
  else s

/-- An epoch of endpoint e ends: a miss, or none (R402). -/
def epochEnd (e : Nat) (s : State) : State :=
  let h := s.cep e
  if h.hb then s.setCep e { h with hb := false }
  else
    let s := (s.setCep e { h with run := 0 }).incSat (CPLR_EP_STAT.MISS e)
    if s.present e ∧ s.get CPLR_CTRL.HB_MISS ≤ s.get (CPLR_EP_STAT.MISS e) then peerAbsent e s else s

/-- Coupler's work at an epoch boundary (R402, R403, R406, R408, R410, R412, R413, R417, R421, R424). -/
def cplrEpoch (s : State) : State :=
  let s := { s with cplr := { s.cplr with epochAt := s.now } }
  let used := (List.range 20).filter fun e => s.epRole e != 0
  let s := if s.cplrOn then s.each used fun s e => epochEnd e s else s
  let s := cocapAdopt (slotsApply (emExpire s))
  let s := envTarget (envDue s.cplr.env s)
  if s.cplrOn then
    let s := s.each used fun s e => sendHello e s
    let s := s.each used fun s e => cplrSend e (s.message 0x02 0 0 0 [s.epoch, s.fwOk.toNat]) s
    let s := s.each (s.epsOf 2) fun s e => cplrSend e (s.message 0x03 0 0 s.now []) s
    let s := if s.isRoot && s.locked then applyTheta 0 s else s
    if s.inst = 0 then { s with out := { s.out with epochPulses := s.out.epochPulses ++ [s.now] } } else s
  else s

/-! ### Configuration (R431) -/

/-- Is the endpoint configuration wrong? -/
def State.cplrBad (s : State) : Bool :=
  let parents := s.epsOf 1
  decide (1 < parents.length) || (!parents.isEmpty && s.get CPLR_CTRL.ROLE == 1) ||
    decide (16 < ((List.range 17).filter fun e => s.epRole e == 2).length)

/-- A write of CPLR_CTRL (R431): ROLE is kept while EN is 1, and EN rises only over a right configuration. -/
def cplrCtrlWrite (v : Word) (s : State) : State :=
  let was := s.cplrOn
  let role := s.get CPLR_CTRL.ROLE
  let s := storeReg CPLR_CTRL v s
  let s := if was then s.put CPLR_CTRL.ROLE role else s
  if !was && s.cplrOn then
    if s.cplrBad then cplrCfg CPLR_EVT.CFG_ERR (s.put CPLR_CTRL.EN 0)
    else
      let s := s.each (List.range 20) fun s e =>
        let h := s.cep e
        ((s.setCep e { h with hb := false, run := 0 }).put (CPLR_EP_STAT.PRESENT e) 0).put (CPLR_EP_STAT.MISS e) 0
      cplrRefresh (s.each (List.range 17) fun s e => sendHello e s)
  else cplrRefresh s

/-! ### Remote writes (R425..R428) -/

/-- Remote writes queued by requester code q. -/
def State.txQueue (s : State) (q : Nat) : List (List Word) := mapGet [] s.cplr.tx q

/-- A write of CPLR_TX[q].CMD (R425). -/
def txCommand (q : Nat) (v : Word) (s : State) : State :=
  if fldGet v 1 0 = 0 then s
  else
    let l := s.txQueue q
    if 8 ≤ l.length then s.put (CPLR_TX_STAT.OVF q) 1
    else
      let commit := fldGet v 1 1
      let hi := s.num (CPLR_TX_DST q) + 2 ^ 32 * (s.get (CPLR_TX_CTL.WIN q) + 256 * s.get (CPLR_TX_CTL.BE q))
      let ws := s.message 0x0A commit (s.get (CPLR_TX_CTL.SEQ q)) hi
        [s.num (CPLR_TX_DATA_LO q), s.num (CPLR_TX_DATA_HI q), s.num (CPLR_TX_ADDR q)]
      let s := { s with cplr := { s.cplr with tx := mapSet [] s.cplr.tx q (l ++ [ws]) } }
      s.put (CPLR_TX_STAT.N q) (l.length + 1)

/-- The oldest remote write of each set leaves. -/
def txDrain (s : State) : State :=
  if s.cplrOn then
    s.each (s.cplr.tx.map Prod.fst) fun s q =>
      match s.txQueue q with
      | [] => s
      | ws :: rest =>
        let s := { s with cplr := { s.cplr with tx := mapSet [] s.cplr.tx q rest },
                          out := { s.out with msgs := s.out.msgs ++ [(⟨none, ws⟩ : CplrMsg)] } }
        s.put (CPLR_TX_STAT.N q) rest.length
  else s

/-- The enabled bytes of a 32-bit word (`be` has one bit a byte). -/
def mergeBytes (old new : Word) (be : Nat) : Word :=
  (List.range 4).foldl (fun w b => if bitOf be b then fldSet w (8 * b + 7) (8 * b) (fldGet new (8 * b + 7) (8 * b)) else w)
    old

/-- Eight bytes land at an offset of Coupler RAM (R426, R496). -/
def rwLand (off be : Nat) (lo hi : Word) (s : State) : State :=
  let a := CPLR_RAM (off / 4)
  let s := memWritten 16 (CPLR_RAM 0) ((if be % 16 = 0 then [] else [off]) ++ (if be / 16 = 0 then [] else [off + 4])) s
  (s.wr a (mergeBytes (s.rd a) lo (be % 16))).wr (a + 4) (mergeBytes (s.rd (a + 4)) hi (be / 16))

/-- The open window of a peer and WIN. -/
def State.rwFind (s : State) (peer win : Nat) : Option RwWindow :=
  s.cplr.wins.find? fun w => w.peer == peer && w.win == win

/-- Replace a window, or close it. -/
def rwPut (peer win : Nat) (w : Option RwWindow) (s : State) : State :=
  let rest := s.cplr.wins.filter fun w => !(w.peer == peer && w.win == win)
  let l := rest ++ w.toList
  { s with cplr := { s.cplr with wins := l } }.put CPLR_RW_OPEN.OPEN l.length

/-- A remote write is accepted and lands, is held, or is rejected (R426..R428). -/
def rwAccept (peer win be : Nat) (commit : Bool) (seq off : Nat) (lo hi : Word) (s : State) : State :=
  if off % 8 ≠ 0 ∨ be = 0 ∨ off < s.get CPLR_RW_BASE.BASE ∨ s.get CPLR_RW_LIM.LIM < off + 8 ∨ 262144 < off + 8 then
    s.incSat CPLR_CNT.RW_REJ
  else if (s.rwFind peer win).isNone ∧ s.cplr.late.any (fun e => e.1 == peer && e.2.1 == win && decide (seq < e.2.2)) then
    s.incSat CPLR_CNT.RW_LATE
  else if (s.rwFind peer win).isNone ∧ 64 ≤ s.cplr.wins.length then
    cplrOvf CPLR_EVT.RW_OVF (s.incSat CPLR_CNT.RW_REJ)
  else
    let w := (s.rwFind peer win).getD ⟨peer, win, [], none, s.now⟩
    let s := { s with cplr := { s.cplr with late := s.cplr.late.filter fun e => !(e.1 == peer && e.2.1 == win) } }
    if commit then rwPut peer win (some { w with held := some ⟨seq, off, be, lo, hi, s.now⟩, last := s.now }) s
    else rwPut peer win (some { w with landed := w.landed ++ [seq], last := s.now }) (rwLand off be lo hi s)

/-- A held COMMIT lands (R427, R428): its data, the completion record, the window's end and the doorbell. -/
def commitLand (w : RwWindow) (h : HeldCommit) (incomplete : Bool) (s : State) : State :=
  let s := rwPut w.peer w.win none (rwLand h.off h.be h.lo h.hi s)
  let rec_ := BitVec.ofNat 32 (2 ^ 31 + incomplete.toNat * 2 ^ 30 + w.win * 65536 + (w.landed.length + 1) % 65536)
  let s := { s with cplr := { s.cplr with recs := s.cplr.recs ++ [(rec_, w.peer)],
                                          late := if incomplete then s.cplr.late ++ [(w.peer, w.win, h.seq)]
                                                  else s.cplr.late } }
  cplrEvent CPLR_EVT.RWC 2 s

/-- Have the writes 0..n − 1 of a window landed? -/
def RwWindow.complete (w : RwWindow) (n : Nat) : Bool := (List.range n).all w.landed.contains

/-- A read of CPLR_RXC0 (R427): the oldest record is answered and removed, and its peer is kept for the requester. -/
def completionRead (req : Requester) (s : State) : State :=
  match s.cplr.recs with
  | [] => s.answer [0]
  | (w, p) :: rest =>
    { s with cplr := { s.cplr with recs := rest, rxPeer := mapSet 0 s.cplr.rxPeer req.code p } }.answer [w]

/-- A write in the CPLR block. -/
def cplrWrite (a : Nat) (v : Word) (s : State) : State :=
  if a = CPLR_CTRL then cplrCtrlWrite v s
  else if a = CPLR_ID ∨ (CPLR_EP_CFG 0 ≤ a ∧ a < CPLR_EP_CFG 20) then (if s.cplrOn then s else storeReg a v s)
  else if a = CPLR_EM_ISSUE then emIssue v s
  else if a = CPLR_ENV_ISSUE then envIssue v s
  else if CPLR_TX_DST 0 ≤ a ∧ a < CPLR_TX_DST 12 ∧ (a - CPLR_TX_DST 0) % 0x20 = 0x14 then
    txCommand ((a - CPLR_TX_DST 0) / 0x20) v s
  else if CPLR_RAM 0 ≤ a ∧ a < CPLR_RAM 65536 then memWritten 16 (CPLR_RAM 0) [a - CPLR_RAM 0] (storeReg a v s)
  else storeReg a v s

end Sys2Proof.Machine
end

