-- ==== Sys2Proof/Machine/Cells.lean ====
section
/-! DEFINITION. Machine/Cells.lean: the meanings of the cell sea's commands and events (spec/03_cells.md). -/

namespace Sys2Proof.Machine

/-- The counts of the regions a cell belongs to may have changed (R145). -/
def healthAround (n : Nat) (c : Nat) (s : State) : State :=
  let s := healthCheck n s
  if s.cellRegion c = n then s else healthCheck (s.cellRegion c) s

/-- What cell c was before a command that takes effect on it now is kept until the CKS cycle is over (R104); `st` is the
state that a failure of this cycle finds. -/
def undoKeep (c st : Nat) (s : State) : State :=
  let h := s.chid c
  s.setChid c { h with undo := some ⟨s.cks, st, s.get (CELL_STAT.CAUSE c), s.num (CELL_MAP_LIVE c), h.entry⟩ }

/-- DEMOTE (R102): refused by the healthy-cell floor, else to STANDBY. -/
def cmdDemote (c : Nat) (s : State) : State :=
  let n := s.cellRegion c
  if s.cellState c ≠ cACTIVE then cellCmdDone c stNOTREADY s
  else if 100 * ((s.activeCells n).length - 1) < s.get (RGN_FLOOR_LIVE.FLOOR n) * s.assigned n then
    cellCmdDone c stBADPARAM s
  else healthAround n c (cellCmdDone c stOK (settle c cSTANDBY (undoKeep c cACTIVE s)))

/-- JOIN (R102): the pre-charge of R99 starts; the command completes when it ends. -/
def cmdJoin (c : Nat) (s : State) : State :=
  let n := s.cellRegion c
  if s.cellState c = cSTANDBY ∧ (s.rgnState n = rON ∨ s.rgnState n = rLAME) ∧ n ≠ 0 ∧ !s.cellSafe c then
    let s := (s.put (CELL_CMD.PEND c) 1).put (CELL_CMD.RES c) stBUSY
    s.setChid c { s.chid c with cmd := 2, pre := .join }
  else cellCmdDone c stNOTREADY s

/-- RECOUPLE (R102): the self-check starts; the command completes when it ends. -/
def cmdRecouple (c : Nat) (s : State) : State :=
  let st := s.cellState c
  if (st = cUNCOUPLED ∨ (st = cPARKED ∧ s.get (CELL_STAT.CAUSE c) ≠ 0)) ∧ !s.cellSafe c then
    let s := (s.put (CELL_CMD.PEND c) 1).put (CELL_CMD.RES c) stBUSY
    s.setChid c { s.chid c with cmd := 3 }
  else cellCmdDone c stNOTREADY s

/-- ENTER_TEST (R102, R115). -/
def cmdEnterTest (c : Nat) (s : State) : State :=
  if s.cellState c = cPARKED then cellCmdDone c stOK (putCellState c cTEST (undoKeep c cPARKED s))
  else cellCmdDone c stNOTREADY s

/-- EXIT_TEST (R102): to PARKED, where a pending entry takes effect (R100); a test in progress is abandoned. -/
def cmdExitTest (c : Nat) (s : State) : State :=
  let n := s.cellRegion c
  if s.cellState c = cTEST then
    let s := settle c cPARKED (testFail c (undoKeep c cTEST s))
    healthAround n c (cellCmdDone c stOK (s.setChid c { s.chid c with biasBad := false }))
  else cellCmdDone c stNOTREADY s

/-- UNCOUPLE (R102, R109). -/
def cmdUncouple (c : Nat) (s : State) : State :=
  if s.cellState c = cSTANDBY ∨ s.cellState c = cACTIVE then
    cellCmdDone c stOK (uncoupleCell c 6 (undoKeep c (s.cellState c) s))
  else cellCmdDone c stNOTREADY s

/-- A write of CELL_CMD[c].OP (R102); while a command is in progress it is ignored (R103), and in the CKS cycle of a failure
it is abandoned (R104). -/
def cellCommand (c op : Nat) (s : State) : State :=
  if s.bit (CELL_CMD.PEND c) then s
  else if 1 ≤ op ∧ op ≤ 6 ∧ s.thisCycle (s.chid c).failAt then cellCmdDone c stNOTREADY s
  else
    match op with
    | 0 => cellCmdDone c stOK s
    | 1 => cmdDemote c s
    | 2 => cmdJoin c s
    | 3 => cmdRecouple c s
    | 4 => cmdEnterTest c s
    | 5 => cmdExitTest c s
    | 6 => cmdUncouple c s
    | _ => cellCmdDone c stBADPARAM s

/-- A write of CELL_CMD[c] by a requester, through the writer restrictions. -/
def cellCmdWrite (req : Requester) (c op : Nat) (s : State) : State :=
  gated req (CELL_CMD c) (BitVec.ofNat 32 op) (fun v s => reinAll (cellCommand c (fldGet v 3 0) s)) s

/-- CELL_CMD OP 0x0 (R102). -/
def execNop (req : Requester) (c : CellIx) (s : State) : Out := .next (cellCmdWrite req c 0 s)
/-- CELL_CMD OP 0x1 (R102). -/
def execDemote (req : Requester) (c : CellIx) (s : State) : Out := .next (cellCmdWrite req c 1 s)
/-- CELL_CMD OP 0x2 (R102). -/
def execJoin (req : Requester) (c : CellIx) (s : State) : Out := .next (cellCmdWrite req c 2 s)
/-- CELL_CMD OP 0x3 (R102). -/
def execRecouple (req : Requester) (c : CellIx) (s : State) : Out := .next (cellCmdWrite req c 3 s)
/-- CELL_CMD OP 0x4 (R102). -/
def execEnterTest (req : Requester) (c : CellIx) (s : State) : Out := .next (cellCmdWrite req c 4 s)
/-- CELL_CMD OP 0x5 (R102). -/
def execExitTest (req : Requester) (c : CellIx) (s : State) : Out := .next (cellCmdWrite req c 5 s)
/-- CELL_CMD OP 0x6 (R102). -/
def execUncouple (req : Requester) (c : CellIx) (s : State) : Out := .next (cellCmdWrite req c 6 s)
/-- A reserved CELL_CMD OP, 0x7..0xF, completes with BAD_PARAM (R102). -/
def execCellCmdReserved (req : Requester) (c : CellIx) (op : BitVec 4) (s : State) : Out :=
  .next (cellCmdWrite req c op.toNat s)

/-- The consecutive-sample counts of the sensors of `mask` stand at zero, and so do the DISAGREE counts of the sensors that
have one of them beside them (R94, R96). -/
def snsRunsEnd (c mask : Nat) (s : State) : State :=
  let h := s.chid c
  s.setChid c { h with runs := h.runs.filter fun e =>
    12 ≤ e.1 || !(bitOf mask (e.1 / 3) || (e.1 % 3 == 2 && [0, 1, 2, 3].any fun i => i != e.1 / 3 && bitOf mask i)) }

/-- A write of CELL_SNS[c] (R96): each cleared bit also clears its cause; a bit that hardware set in this CKF cycle ends
set. -/
def snsWrite (c : Nat) (v : Word) (s : State) : State :=
  let was := s.get (CELL_SNS.EXCL c)
  let fresh := s.freshBits (CELL_SNS c)
  let s := storeReg (CELL_SNS c) v s
  let s := s.each (List.range 4) fun s j =>
    if bitOf was j ∧ !bitOf (fldGet v 3 0) j then
      if bitOf (fldGet fresh 3 0) j ∧ s.get ⟨CELL_SNS c, 2 * j + 9, 2 * j + 8⟩ ≠ 0 then
        s.put (CELL_SNS.EXCL c) (setBitN (s.get (CELL_SNS.EXCL c)) j)
      else s.put ⟨CELL_SNS c, 2 * j + 9, 2 * j + 8⟩ 0
    else s
  snsRunsEnd c (was ||| s.get (CELL_SNS.EXCL c)) s

/-- Software sets or clears exclusion bits (R96). -/
def execCellSnsWrite (req : Requester) (c : CellIx) (excl : BitVec 4) (s : State) : Out :=
  .next (gated req (CELL_SNS c) (BitVec.ofNat 32 excl.toNat) (fun v s => reinAll (snsWrite c v s)) s)

/-- A sensor completes the run of a cause of R94 and is excluded (R94, R111); of several complete runs the lowest cause is
recorded. -/
def execSensorExclusion (c : CellIx) (j : Fin 4) (cause : Nat) (s : State) : Out :=
  .next (s.working fun s =>
    if s.snsMeets c j cause && decide (snsRunLength cause ≤ s.cellRunLen c (3 * j + cause - 1)) then
      match s.snsDue c j with
      | some k => sensorExclude c j k s
      | none => s
    else s)

/-- A blend frame ends in an ACTIVE cell, whose oscillator runs whether or not the cell switches (R76). -/
def execBlendFrameBoundary (c : CellIx) (s : State) : Out :=
  .next (s.working fun s => if s.cellState c = cACTIVE ∧ !s.cellSafe c then blendFrame c s else s)

/-- The comparator of cell c finds the tile at `uv` microvolts (R78, R81): below the window at its lower edge, back inside
2 mV above that edge, and the same mirrored at the upper edge. -/
def windowCompare (c uv : Nat) (s : State) : State :=
  let v : Int := (400000 + 1250 * s.get (CELL_TGT_SP.VT c) : Nat)
  let w : Int := (1250 * s.get (CELL_TRIM.VW c) : Nat)
  let x : Int := (uv : Nat)
  let lo := decide (x < v - w) || (s.bit (CELL_STAT.HYS_LO c) && decide (x < v - w + 2000))
  let hi := decide (v + w < x) || (s.bit (CELL_STAT.HYS_HI c) && decide (v + w - 2000 < x))
  (s.putB (CELL_STAT.HYS_LO c) (lo && !decide (v + w < x))).putB (CELL_STAT.HYS_HI c) (hi && !decide (x < v - w))

/-- The tile voltage crosses an edge of the window and stands at `uv` microvolts (R78, R81); with VW = 0 the local response
is disabled. -/
def execWindowCrossing (c : CellIx) (uv : Nat) (s : State) : Out :=
  .next (s.working fun s =>
    if s.cellState c = cACTIVE ∧ !s.cellSafe c ∧ s.get (CELL_TRIM.VW c) ≠ 0 then windowCompare c uv s else s)

/-- The replica current reaches the limit (R86): FCODE_EFF falls to the code that holds it there. -/
def execCellCurrentLimit (c : CellIx) (r : LimitReading) (s : State) : Out :=
  .next (s.working fun s =>
    if s.conducts c ∧ s.cellLimit c ≤ r.cur.toInt then limitReached c r.fcodeEff s else s)

/-- EXQF has reached 7,680,000 with the CKS edges passed so far (R88). -/
def execFoldback (c : CellIx) (s : State) : Out := .next (s.working fun s => foldCheck c (seaCatch s))

/-- EXQF has returned to 0 with the CKS edges passed so far (R88). -/
def execFoldbackRecovery (c : CellIx) (s : State) : Out :=
  .next (s.working fun s => let s := seaCatch s; if s.bit (CELL_STAT.FOLDBACK c) then foldCheck c s else s)

/-- A pre-charge ends: the output switch closes, the cell is ACTIVE, and the target held applies from the ratio
pre-charged (R76, R99). -/
def execCellPrechargeDone (c : CellIx) (s : State) : Out :=
  .next (s.working fun s =>
    let h := s.chid c
    if h.pre ≠ .none ∧ s.cellState c = cSTANDBY ∧ !s.cellSafe c then
      let s := if h.pre = .join then undoKeep c cACTIVE s else s
      let s := putCellState c cACTIVE (s.setChid c { s.chid c with pre := .none })
      let s := deliverTarget c h.want s
      if h.pre = .join then cellCmdDone c stOK s else s
    else s)

/-- A RECOUPLE self-check ends (R102): on a pass an UNCOUPLED cell enters STANDBY, where a pending entry takes effect
(R100). -/
def execCellSelfcheckDone (c : CellIx) (pass : Bool) (s : State) : Out :=
  .next (s.working fun s =>
    if s.bit (CELL_CMD.PEND c) ∧ (s.chid c).cmd = 3 ∧ !s.cellSafe c then
      if pass then
        let n := s.cellRegion c
        let s := (undoKeep c cSTANDBY s).put (CELL_STAT.CAUSE c) 0
        let s := if s.cellState c = cUNCOUPLED then settle c cSTANDBY s else s
        healthAround n c (cellCmdDone c stOK s)
      else cellCmdDone c stINTERNAL (s.put (CELL_STAT.CAUSE c) 7)
    else s)

/-- Does the state allow the failure (R107): STANDBY, ACTIVE or TEST, REVERSE and BLIND while ACTIVE only, OVERCURRENT and
REVERSE with their runs of samples complete, BLIND with all four sensors excluded? -/
def State.mayFail (s : State) (c cause : Nat) : Bool :=
  let st := s.cellState c
  (st == cSTANDBY || st == cACTIVE || st == cTEST) &&
    (match cause with
     | 1 => s.currentFails c 1
     | 2 => true
     | 3 => st == cACTIVE && s.currentFails c 3
     | 4 => true
     | 5 => st == cACTIVE && s.get (CELL_SNS.EXCL c) == 0xF
     | _ => false)

/-- The command that took effect on cell c in this CKS cycle is abandoned (R104): the cell is again what it was. An
UNCOUPLED cell stays so, for the failure takes it there too. -/
def undoCommand (c : Nat) (s : State) : State :=
  let h := s.chid c
  match h.undo with
  | some u =>
    if u.cks = s.cks then
      let s := (s.setChid c { h with undo := none, entry := u.entry }).put (CELL_CMD.RES c) stNOTREADY
      if s.cellState c = cUNCOUPLED ∧ s.get (CELL_STAT.CAUSE c) = 6 then s.setChid c { s.chid c with entry := h.entry }
      else if u.st = cSTANDBY then s.setChid c { s.chid c with entry := h.entry }
      else putCellState c u.st (tieSync c (s.wrN (CELL_MAP_LIVE c) u.live))
    else s
  | none => s

/-- A failure of R107 is detected in cell c: recorded in TEST, ending a test (R117); in STANDBY and ACTIVE the cell
uncouples (R108..R114), with cause SELFCHECK during pre-charge. Of several in one CKS cycle the lowest cause is recorded,
and a command that took effect in that cycle is abandoned (R104). -/
def cellFail (c cause : Nat) (s : State) : State :=
  let h := s.chid c
  let again := s.thisCycle h.failAt
  let undone := !again && h.undo.any fun u => u.cks == s.cks
  let s := if again then s else undoCommand c s
  let s := s.setChid c { s.chid c with failAt := some s.cks }
  let st := s.cellState c
  let k := s.get (CELL_STAT.CAUSE c)
  if st = cTEST ∨ st = cPARKED then
    let s := testFail c (s.put (CELL_STAT.CAUSE c) (if again then min k cause else cause))
    if cause = 4 ∧ st = cTEST then s.setChid c { s.chid c with biasBad := true } else s
  else if st = cUNCOUPLED then
    (if again ∧ k = 7 then s else s.put (CELL_STAT.CAUSE c) (if again then min k cause else cause))
  else
    let s := uncoupleCell c (if (s.chid c).pre = .none then cause else 7) s
    if undone then s.put (CELL_CMD.RES c) stNOTREADY else s

/-- A failure of R107 is detected: one that the state allows, one more in the CKS cycle of another, or one in the cycle of
an UNCOUPLE or EXIT_TEST. -/
def execCellFailure (t : Dword) (c : CellIx) (cause : Nat) (s : State) : Out :=
  .next (s.working fun s =>
    let s := s.advanceTo t
    let late := s.thisCycle (s.chid c).failAt || (s.chid c).undo.any fun u => u.cks == s.cks && u.st != cPARKED
    if s.mayFail c cause || (late && (cause == 2 || cause == 4 || (cause == 1 && s.currentFails c 1))) then
      cellFail c cause s
    else s)

/-- A write of CELL_TEST[c] (R116, R117): while a test runs only MODE = IDLE acts and abandons it. Elsewhere GO sets only in
TEST, where writing it clears the results; outside TEST they stay (log entry 116). A test of MODE IDLE ends at once, and one started
while the bias supply stands failed ends with FAIL (R107). -/
def testWrite (c : Nat) (v : Word) (s : State) : State :=
  if s.bit (CELL_TEST.GO c) then
    if fldGet v 2 0 = 0 then (testFail c s).put (CELL_TEST.MODE c) 0 else s
  else
    let s := (storeReg (CELL_TEST c) v s).put (CELL_TEST.GO c) 0
    if fldGet v 3 3 = 1 ∧ s.cellState c = cTEST then
      let s := s.put (CELL_TEST_RES.FAIL c) 0
      if s.get (CELL_TEST.MODE c) = 0 then s.put (CELL_TEST_RES.DONE c) 1
      else
        let s := (s.put (CELL_TEST_RES.DONE c) 0).put (CELL_TEST.GO c) 1
        if (s.chid c).biasBad then testFail c s else s
    else s

/-- A write of GO starts the selected test (R116). -/
def execCellTestStart (req : Requester) (c : CellIx) (value : Word) (s : State) : Out :=
  .next (gated req (CELL_TEST c) value (testWrite c) s)

/-- A write of MODE = IDLE abandons the test in progress (R117). -/
def execCellTestAbandon (req : Requester) (c : CellIx) (value : Word) (s : State) : Out :=
  .next (gated req (CELL_TEST c) value (testWrite c) s)

/-- What a test's measurement leaves in RESA and RESB (R116): LOAD the low 12 bits of the replica current and the lowest of
the four calibrated readings, the others what they measured; none when it is no result of the mode that runs. -/
def State.testResult (s : State) (c : Nat) (r : TestResult) : Option (Nat × Nat) :=
  let mode := s.get (CELL_TEST.MODE c)
  if !r.complete then none
  else
    match r.resb with
    | .raws a b d e =>
      if mode = 1 then
        some (r.resa.toNat % 4096, min (min (s.calibrated c 0 a.toNat) (s.calibrated c 1 b.toNat))
          (min (s.calibrated c 2 d.toNat) (s.calibrated c 3 e.toNat)))
      else none
    | .word v => if 2 ≤ mode ∧ mode ≤ 4 then some (r.resa.toNat % 4096, v.toNat) else none

/-- A test ends: GO clears, DONE sets and the measured results are stored (R116); one that could not complete sets FAIL
(R117), and no test that moves switches completes in the safe state (R105). -/
def cellTestDone (c : Nat) (r : TestResult) (s : State) : State :=
  if s.bit (CELL_TEST.GO c) then
    match s.testResult c r with
    | some (a, b) =>
      if s.cellSafe c ∧ s.get (CELL_TEST.MODE c) ≠ 4 then testFail c s
      else
        (((s.put (CELL_TEST.GO c) 0).put (CELL_TEST_RES.DONE c) 1).put (CELL_TEST_RES.RESA c) a).put
          (CELL_TEST_RES.RESB c) b
    | none => testFail c s
  else s

/-- A test of cell c ends (R116). -/
def execCellTestDone (c : CellIx) (resa : BitVec 13) (resb : TestB) (complete : Bool) (s : State) : Out :=
  .next (s.working fun s => cellTestDone c.val ⟨resa, resb, complete⟩ s)

/-- CELL_GOOD becomes 1 (R101): mapped PARKED cells leave it, and cells held only by the island's loss follow R106; the
regions' counts are evaluated (R145). -/
def cellIslandGood (s : State) : State :=
  let s := s.put TIM_STAT.CELL_GOOD 1
  let busy := s.busyCells
  let s := s.each (s.listed (CELL_MAP_LIVE 0) 0x40 3072) fun s c => unpark c s
  let s := releaseCells busy s
  s.each s.liveRegions fun s n => healthCheck n s

/-- CELL_GOOD becomes 1 (R101), while the CTRL island is good; in reset no cell has an entry, and only the bit follows. -/
def execCellIslandGood (t : Dword) (s : State) : Out :=
  .next
    (if s.bit TIM_STAT.CTRL_GOOD ∧ !s.bit TIM_STAT.CELL_GOOD then reinAll (cellIslandGood (s.advanceTo t)) else s)

/-- CELL_GOOD falls (R101): STANDBY and UNCOUPLED cells park and keep their live entries, but for a pending entry, which
takes effect (R100); ACTIVE and TEST cells enter their safe state. -/
def cellIslandLoss (s : State) : State :=
  let s := s.put TIM_STAT.CELL_GOOD 0
  let s := s.each s.busyCells fun s c =>
    let s := prechargeAbandon c s
    if s.cellState c = cSTANDBY ∨ s.cellState c = cUNCOUPLED then settle c cPARKED s else s
  s.each s.liveRegions fun s n => healthCheck n s

/-- CELL_GOOD falls (R101). -/
def execCellIslandLoss (t : Dword) (s : State) : Out :=
  .next (if s.bit TIM_STAT.CELL_GOOD then reinAll (cellIslandLoss (s.advanceTo t)) else s)

end Sys2Proof.Machine
end

