-- ==== Sys2Proof/Machine/Crypto.lean ====
section
/-! DEFINITION. Machine/Crypto.lean: the published algorithms that R533, R535, R536 and R650 name: CRC-32 of IEEE 802.3,
SHA-384 and the verification of an ECDSA signature on the curve P-384. PRESUMED: spec/17_firmware.md gives their names and
leaves their definition to the standards (log entry on image validity). -/

namespace Sys2Proof.Machine

/-- A byte. -/
abbrev Byte := BitVec 8

/-- The value of bytes, the first least significant. -/
def leBytes (l : List Byte) : Nat := l.foldr (fun b acc => b.toNat + 256 * acc) 0

/-- The value of bytes, the first most significant. -/
def beBytes (l : List Byte) : Nat := l.foldl (fun acc b => 256 * acc + b.toNat) 0

/-- n bytes of a value, the least significant first. -/
def toLe : Nat → Nat → List Byte
  | 0, _ => []
  | k + 1, v => BitVec.ofNat 8 v :: toLe k (v / 256)

/-- n bytes of a value, the most significant first. -/
def toBe (n v : Nat) : List Byte := (toLe n v).reverse

/-! ### CRC-32 -/

/-- Eight steps of the reflected polynomial. -/
def crcByte (c : Word) (b : Byte) : Word :=
  (List.range 8).foldl (fun c _ => if c.getLsbD 0 then (c >>> 1) ^^^ 0xEDB88320 else c >>> 1) (c ^^^ b.zeroExtend 32)

/-- CRC-32 of IEEE 802.3. -/
def crc32 (l : List Byte) : Word := ~~~(l.foldl crcByte 0xFFFFFFFF)

/-! ### SHA-384 -/

/-- A 64-bit word of SHA-384. -/
abbrev W64 := BitVec 64

/-- The bits of the root sought, from bit b - 1 down, that leave its d-th power at most n. -/
def rootFrom (d n : Nat) : Nat → Nat → Nat
  | 0, r => r
  | b + 1, r => rootFrom d n b (if (r + 2 ^ b) ^ d ≤ n then r + 2 ^ b else r)

/-- The first 64 fraction bits of the d-th root of p, below 2^6. -/
def rootFraction (d p : Nat) : W64 := BitVec.ofNat 64 (rootFrom d (p * 2 ^ (64 * d)) 70 0)

/-- The first 80 primes, up to 409. -/
def shaPrimes : List Nat :=
  (List.range 410).filter fun p =>
    decide (1 < p) && (List.range 21).all fun k => decide (k < 2) || p == k || p % k != 0

/-- The constants of the rounds: fractions of the cube roots of the first 80 primes. -/
def shaK : List W64 := shaPrimes.map (rootFraction 3)

/-- The hash value before the first block: fractions of the square roots of the ninth to sixteenth primes. -/
def shaInit : List W64 := ((shaPrimes.drop 8).take 8).map (rootFraction 2)

/-- Message bytes with the padding, of a multiple of 128 bytes. -/
def shaPad (m : List Byte) : List Byte :=
  let n := m.length
  m ++ 0x80 :: List.replicate ((239 - n % 128) % 128) 0 ++ toBe 16 (8 * n)

/-- The next word of the schedule from the latest 16, newest first. -/
def shaNext (w : List W64) : W64 :=
  let g (i : Nat) : W64 := w.getD i 0
  let s0 (x : W64) : W64 := x.rotateRight 1 ^^^ x.rotateRight 8 ^^^ (x >>> 7)
  let s1 (x : W64) : W64 := x.rotateRight 19 ^^^ x.rotateRight 61 ^^^ (x >>> 6)
  s1 (g 1) + g 6 + s0 (g 14) + g 15

/-- The 80 schedule words of a block's 16. -/
def shaSchedule (b : List W64) : List W64 :=
  ((List.range 64).foldl (fun w _ => shaNext w :: w) b.reverse).reverse

/-- One round. -/
def shaRound (h : List W64) (kw : W64 × W64) : List W64 :=
  match h with
  | [a, b, c, d, e, f, g, i] =>
    let t1 := i + (e.rotateRight 14 ^^^ e.rotateRight 18 ^^^ e.rotateRight 41) + ((e &&& f) ^^^ (~~~e &&& g)) + kw.1 + kw.2
    let t2 := (a.rotateRight 28 ^^^ a.rotateRight 34 ^^^ a.rotateRight 39) + ((a &&& b) ^^^ (a &&& c) ^^^ (b &&& c))
    [t1 + t2, a, b, c, d + t1, e, f, g]
  | _ => h

/-- One block of 128 bytes. -/
def shaBlock (h : List W64) (b : List Byte) : List W64 :=
  let ws := (List.range 16).map fun i => (BitVec.ofNat 64 (beBytes ((b.drop (8 * i)).take 8)))
  let h' := (shaK.zip (shaSchedule ws)).foldl shaRound h
  (h.zip h').map fun p => p.1 + p.2

/-- The blocks of a padded message; fuel bounds their number. -/
def shaBlocks : Nat → List Byte → List W64 → List W64
  | 0, _, h => h
  | k + 1, m, h => if m.isEmpty then h else shaBlocks k (m.drop 128) (shaBlock h (m.take 128))

/-- SHA-384 of bytes, as a number whose most significant byte is the first of the digest. -/
def sha384 (m : List Byte) : Nat :=
  let p := shaPad m
  ((shaBlocks (p.length / 128) p shaInit).take 6).foldl (fun acc w => acc * 2 ^ 64 + w.toNat) 0

/-! ### ECDSA on P-384 -/

/-- The field prime. -/
def ecP : Nat := 2 ^ 384 - 2 ^ 128 - 2 ^ 96 + 2 ^ 32 - 1

/-- The order of the base point. -/
def ecN : Nat :=
  0xffffffffffffffffffffffffffffffffffffffffffffffffc7634d81f4372ddf581a0db248b0a77aecec196accc52973

/-- The coefficient b of y² = x³ - 3x + b. -/
def ecB : Nat :=
  0xb3312fa7e23ee7e4988e056be3f82d19181d9c6efe8141120314088f5013875ac656398d8a2ed19d2a85c8edd3ec2aef

/-- The base point. -/
def ecG : Nat × Nat :=
  (0xaa87ca22be8b05378eb1c71ef320ad746e1d3b628ba79b9859f741e082542a385502f25dbf55296c3a545e3872760ab7,
   0x3617de4a96262c6f5d9e98bf9292dc29f8f41dbd289a147ce9da3113b5f0b8c00a60b1ce1d7e819d7a431d7c90ea0e5f)

/-- a^e modulo m, over the low k bits of e. -/
def powMod (m : Nat) : Nat → Nat → Nat → Nat
  | 0, _, _ => 1
  | k + 1, a, e => let r := powMod m k (a * a % m) (e / 2); if e % 2 = 1 then a * r % m else r

/-- The inverse of a modulo the prime m. -/
def invMod (m a : Nat) : Nat := powMod m 384 (a % m) (m - 2)

/-- The sum of two points; none is the point at infinity. -/
def ecAdd (a b : Option (Nat × Nat)) : Option (Nat × Nat) :=
  match a, b with
  | none, q => q
  | p, none => p
  | some (x1, y1), some (x2, y2) =>
    if x1 = x2 ∧ (y1 + y2) % ecP = 0 then none
    else
      let l :=
        if x1 = x2 then (3 * (x1 * x1 + ecP - 1)) * invMod ecP (2 * y1) % ecP
        else (y2 + ecP - y1) * invMod ecP (x2 + ecP - x1) % ecP
      let x := (l * l + 2 * ecP - x1 - x2) % ecP
      some (x, (l * (x1 + ecP - x) + ecP - y1) % ecP)

/-- k·p over the low `bits` bits of k. -/
def ecMul : Nat → Nat → Option (Nat × Nat) → Option (Nat × Nat)
  | 0, _, _ => none
  | n + 1, k, p => let r := ecMul n (k / 2) (ecAdd p p); if k % 2 = 1 then ecAdd p r else r

/-- Is (x, y) a point of the curve? -/
def ecOn (x y : Nat) : Bool :=
  decide (x < ecP) && decide (y < ecP) && (y * y % ecP == (x * x * x + (ecP - 3) * x + ecB) % ecP)

/-- Does the signature (r, t) verify over a message digest with the public key (qx, qy)? -/
def ecdsaVerify (digest qx qy r t : Nat) : Bool :=
  decide (0 < r) && decide (r < ecN) && decide (0 < t) && decide (t < ecN) && ecOn qx qy &&
    (let w := invMod ecN t
     match ecAdd (ecMul 384 (digest * w % ecN) (some ecG)) (ecMul 384 (r * w % ecN) (some (qx, qy))) with
     | none => false
     | some (x, _) => x % ecN == r)

end Sys2Proof.Machine
end

