-- ==== Sys2Proof/Machine/PostilionOps.lean ====
section
/-! DEFINITION. Machine/PostilionOps.lean: the interrupt controller (spec/19_postilion.md): doorbells, coalescing, binding,
claiming, completing, masking and the edge latches. -/

namespace Sys2Proof.Machine

namespace State

/-- A source's Class 0 bit (R600). -/
def srcC0 (s : State) (n : Nat) : Bool := s.bit (PST_SRC_CFG.C0 n)

/-- The tier of source n (R584). -/
def srcTier (s : State) (n : Nat) : Nat :=
  let p := s.get (PST_SRC_CFG.PRIO n)
  ([PST_TIER_LO.B1, PST_TIER_LO.B2, PST_TIER_LO.B3, PST_TIER_LO.B4, PST_TIER_HI.B5, PST_TIER_HI.B6,
    PST_TIER_HI.B7].filter fun f => decide (s.get f ≤ p)).length

/-- Sources with status, rising. -/
def srcs (s : State) : List Nat := (s.listed (PST_SRC_STAT 0) 8 1024).filter (· != 0)

/-- The key of precedence (R585): Class 0, tier, PRIO, number; the smaller goes first. -/
def srcKey (s : State) (n : Nat) : Nat :=
  ((if s.srcC0 n then 0 else 1) * 8 + s.srcTier n) * 0x40000 + s.get (PST_SRC_CFG.PRIO n) * 1024 + n

/-- The first source of a list in precedence; 0 for an empty list. -/
def topOf (s : State) (l : List Nat) : Nat :=
  l.foldl (fun best n => if best = 0 ∨ s.srcKey n < s.srcKey best then n else best) 0

/-- Sources bound to target i. -/
def boundTo (s : State) (i : Nat) : List Nat :=
  s.srcs.filter fun n => s.bit (PST_SRC_STAT.BOUND n) && s.get (PST_SRC_STAT.TGT n) == i

/-- Sources active at core i. -/
def activeAt (s : State) (i : Nat) : List Nat :=
  s.srcs.filter fun n => s.bit (PST_SRC_STAT.ACTIVE n) && s.get (PST_SRC_STAT.TGT n) == i

/-- The running priority of core i (R586). -/
def runPrio (s : State) (i : Nat) : Nat := ((s.activeAt i).map s.srcTier).foldl min 8

/-- The top source bound to target i (R585). -/
def topAt (s : State) (i : Nat) : Nat := s.topOf (s.boundTo i)

/-- MEIP of core i (R589). -/
def meip (s : State) (i : Nat) : Bool :=
  let n := s.topAt i
  n != 0 && (s.srcC0 n || decide (s.srcTier n < s.runPrio i))

/-- State of core i (R529): 0 HELD, 1 RUN, 2 HALTED, 3 SLEEP. -/
def coreState (s : State) (i : Nat) : Nat := s.get (FW_CORE.STATE i)

/-- Is source n deliverable (R583, R591, R597)? -/
def deliverable (s : State) (n : Nat) : Bool :=
  s.bit (PST_SRC_STAT.PEND n) && !s.bit (PST_SRC_STAT.HELD n) && !s.bit (PST_SRC_STAT.BOUND n) &&
    !s.bit (PST_SRC_STAT.ACTIVE n) && s.bit (PST_SRC_CFG.EN n) && (s.srcC0 n || !s.bit PST_CTRL.GDIS)

/-- Is core i eligible for source n (R587, R600)? -/
def eligible (s : State) (n i : Nat) : Bool :=
  bitOf (s.get (PST_SRC_CFG.TMASK n)) i && (s.coreState i == 1 || s.coreState i == 3) &&
    (s.srcC0 n || decide (s.srcTier n < s.runPrio i))

/-- The target of a deliverable source (R587, R593): 11 the host. -/
def route (s : State) (n : Nat) : Option Nat :=
  if bitOf (s.get (PST_SRC_CFG.TMASK n)) 11 && !s.bit FW_STAT.HOST_LOST then some 11
  else
    ((List.range 11).filter (s.eligible n)).foldl
      (fun b i =>
        match b with
        | none => some i
        | some j => if s.runPrio j < s.runPrio i then some i else b) none

end State

namespace State

/-- State of core i beside its registers. -/
def coreSt (s : State) (i : Nat) : CoreSt := mapGet {} s.core i

/-- Replace it. -/
def setCoreSt (s : State) (i : Nat) (c : CoreSt) : State := { s with core := mapSet {} s.core i c }

/-- Does the watchdog of core i count (R549)? -/
def wdogCounts (s : State) (i : Nat) : Bool := s.bit (FW_WDOG.EN i) && s.coreState i == 1

/-- The TS at which the watchdog of core i, which counts, reaches TO ms. -/
def wdogEnd (s : State) (i : Nat) : Nat := (s.coreSt i).kicked + (800000 * s.get (FW_WDOG.TO i) - (s.coreSt i).wdog)

end State

/-- The watchdog of core i starts from zero (R549). -/
def wdogStart (i : Nat) (s : State) : State := s.setCoreSt i { s.coreSt i with kicked := s.now, wdog := 0 }

/-- The watchdog of core i keeps what it has counted up to now, before what it counts by changes (R549). -/
def wdogKeep (i : Nat) (s : State) : State :=
  let c := s.coreSt i
  s.setCoreSt i { c with kicked := s.now, wdog := if s.wdogCounts i then c.wdog + (s.now - c.kicked) else c.wdog }

/-- Doorbell n waits at Postilion's inputs (R581). -/
def doorbellIn (n : Nat) (s : State) : State := { s with pst := { s.pst with port := s.pst.port ++ [n] } }

namespace State

/-- The TS at which the open window of coalescing group c is over (R595). -/
def coalesceEnd (s : State) (c : Nat) : Nat := mapGet 0 s.pst.t1 c + 800 * s.get (PST_CG_CFG.TIME c)

/-- Has the open window of coalescing group c reached its count or its time (R595)? -/
def coalesceDue (s : State) (c : Nat) : Bool :=
  decide (s.get (PST_CG_CFG.CNT c) ≤ s.get (PST_CG_STAT.COUNT c)) || decide (s.coalesceEnd c ≤ s.now)

end State

/-- A coalescing group releases when its count or its time is reached (R595). -/
def coalesceRelease (c : Nat) (s : State) : State :=
  if c ≠ 0 ∧ s.bit (PST_CG_STAT.OPEN c) ∧ s.coalesceDue c then
    let s := { (s.put (PST_CG_STAT.OPEN c) 0).put (PST_CG_STAT.COUNT c) 0 with
               pst := { s.pst with t1 := mapSet 0 s.pst.t1 c 0 } }
    s.each (s.srcs.filter fun n => s.get (PST_SRC_CFG.CG n) == c) fun s n => s.put (PST_SRC_STAT.HELD n) 0
  else s

/-- A doorbell of source n is accepted (R582, R583, R595, R601), after a release of its group that is due (R596, R5). -/
def acceptDoorbell (n : Nat) (s : State) : State :=
  if n = 0 ∨ 1023 < n then (s.put PST_STAT.BADSRC 1).pulse 2
  else
    let c := if s.srcC0 n then 0 else s.get (PST_SRC_CFG.CG n)
    let s := (coalesceRelease c s).incSat (PST_SRC_STAT.NDB n)
    let s := if s.srcC0 n ∧ !s.bit (PST_SRC_STAT.PEND n) then s.c0Enter n else s
    if s.bit (PST_SRC_STAT.PEND n) then
      (if s.bit (PST_SRC_STAT.HELD n) ∧ c ≠ 0 then s.incSat (PST_CG_STAT.COUNT c) else s)
    else
      let s := s.put (PST_SRC_STAT.PEND n) 1
      if c = 0 then s
      else
        let s :=
          if s.bit (PST_CG_STAT.OPEN c) then s
          else
            { (s.put (PST_CG_STAT.OPEN c) 1).put (PST_CG_STAT.COUNT c) 0 with
              pst := { s.pst with t1 := mapSet 0 s.pst.t1 c s.now } }
        (s.incSat (PST_CG_STAT.COUNT c)).put (PST_SRC_STAT.HELD n) 1

namespace State

/-- The port's entry for the held edge of latch e, which signals source n (R603): the doorbell of latch e stands above bit
15. -/
def edgeEntry (e n : Nat) : Nat := 65536 * (e + 1) + n

/-- Doorbells accepted at the present CKF edge, and whether a held edge's is among them. -/
def takenNow (s : State) : Nat × Bool :=
  if s.pst.takenAt = s.tim.edges then (s.pst.taken, s.pst.latchTaken) else (0, false)

/-- The doorbells that stand at the inputs: of the held edges, which come one per CKF edge, the first (R603). -/
def portNow (s : State) : List Nat :=
  let first := if s.takenNow.2 then none else s.pst.port.find? fun x => decide (65536 ≤ x)
  s.pst.port.filter fun x => decide (x < 65536) || some x == first

/-- The next waiting doorbell: Class 0 first, the others in order of arrival (R582). -/
def nextDoorbell (s : State) : Option Nat :=
  match s.portNow.find? fun x => decide (1 ≤ x % 65536) && decide (x % 65536 ≤ 1023) && s.srcC0 (x % 65536) with
  | some x => some x
  | none => s.portNow.head?

end State

/-- One waiting doorbell is accepted, of two at most at one CKF edge (R582); a held edge's LATCHED clears with it (R603). -/
def acceptNext (s : State) : State :=
  match (if s.locked && decide (s.takenNow.1 < 2) then s.nextDoorbell else none) with
  | none => s
  | some x =>
    let was := s.takenNow
    let s := { s with pst := { s.pst with port := s.pst.port.erase x, takenAt := s.tim.edges, taken := was.1 + 1,
                                          latchTaken := was.2 || decide (65536 ≤ x) } }
    acceptDoorbell (x % 65536) (if x < 65536 then s else s.put (PST_EDGE.LATCHED (x / 65536 - 1)) 0)

/-- A core in SLEEP wakes when its MEIP is asserted (R589). -/
def wakeCore (i : Nat) (s : State) : State :=
  if s.coreState i = 3 ∧ s.meip i then (wdogKeep i s).put (FW_CORE.STATE i) 1 else s

/-- A deliverable source is bound to its target (R587, R593, R594, R601). -/
def bindSource (n : Nat) (s : State) : State :=
  if s.deliverable n then
    match s.route n with
    | none => s
    | some i =>
      let quiet := (s.boundTo 11).isEmpty
      let s := ((s.put (PST_SRC_STAT.BOUND n) 1).put (PST_SRC_STAT.TGT n) i).c0Leave n
      if i = 11 then (if quiet then s.hostWrite (s.get64 PST_MSI_LO) [s.rd PST_MSI_DATA] else s)
      else wakeCore i s
  else s

/-- Source n is bound no longer; it stays pending. -/
def unbind (n : Nat) (s : State) : State :=
  { (s.put (PST_SRC_STAT.BOUND n) 0).put (PST_SRC_STAT.TGT n) (if s.bit (PST_SRC_STAT.ACTIVE n) then s.get (PST_SRC_STAT.TGT n) else 0) with
    pst := { s.pst with windows := s.pst.windows.filter (·.1 != n) } }

/-- A claim by core i (R590): the number returned, and the state after it. -/
def claim (i : Nat) (s : State) : Nat × State :=
  let n := s.topAt i
  if n = 0 then (0, s)
  else
    let s := { s with pst := { s.pst with windows := s.pst.windows.filter (·.1 != n) } }
    (n, ((s.put (PST_SRC_STAT.ACTIVE n) 1).put (PST_SRC_STAT.BOUND n) 0).put (PST_SRC_STAT.PEND n) 0)

/-- A complete of source n by core i (R591). -/
def complete (i n : Nat) (s : State) : State :=
  if 1 ≤ n ∧ n ≤ 1023 ∧ s.bit (PST_SRC_STAT.ACTIVE n) ∧ s.get (PST_SRC_STAT.TGT n) = i then
    (s.put (PST_SRC_STAT.ACTIVE n) 0).put (PST_SRC_STAT.TGT n) 0
  else s.put PST_STAT.BADCOMP 1

/-- A claim by the host (R594). -/
def hostClaim (s : State) : Nat × State :=
  let n := s.topAt 11
  if n = 0 then (0, s) else (n, (unbind n s).put (PST_SRC_STAT.PEND n) 0)

/-- Core i leaves RUN and SLEEP (R592). -/
def coreLeave (i : Nat) (s : State) : State :=
  let s := s.each (s.boundTo i) fun s n => unbind n s
  s.each (s.activeAt i) fun s n =>
    ((s.put (PST_SRC_STAT.ACTIVE n) 0).put (PST_SRC_STAT.PEND n) 1).put (PST_SRC_STAT.TGT n) 0

/-- HOST_LOST is set: sources bound to the host are routed again (R593). -/
def hostUnbind (s : State) : State := s.each (s.boundTo 11) fun s n => unbind n s

/-- A mask window opens for a bound source (R598). -/
def openWindow (n : Nat) (s : State) : State :=
  if s.bit (PST_SRC_STAT.BOUND n) ∧ !(s.pst.windows.any fun e => e.1 == n) then
    { s with pst := { s.pst with windows := s.pst.windows ++ [(n, s.tim.edges)] } }
  else s

/-- The mask window of source n ends, 16 CKF cycles after it opened (R598). -/
def maskWindowEnd (n : Nat) (s : State) : State :=
  match s.pst.windows.find? fun e => e.1 == n with
  | none => s
  | some e =>
    if e.2 + 16 ≤ s.tim.edges then
      (if s.bit (PST_SRC_STAT.BOUND n) then unbind n s
       else { s with pst := { s.pst with windows := s.pst.windows.filter (·.1 != n) } })
    else s

/-- The mask windows that ended before the present CKF edge: a claim at the edge at which one ends still returns its source
(R598). -/
def windowsCatch (s : State) : State :=
  s.each ((s.pst.windows.filter fun e => decide (e.2 + 16 < s.tim.edges)).map Prod.fst) fun s n => maskWindowEnd n s

/-- Every deliverable source is bound, in the order of R585 (R587, R588). -/
def bindAll (s : State) : State :=
  let l := s.srcs.filter s.deliverable
  s.each (List.range l.length) fun s _ =>
    bindSource (s.topOf (s.srcs.filter fun n => s.deliverable n && (s.route n).isSome)) s

/-- What Postilion does by itself at a CKF edge: the mask windows and coalescing windows that are over end, and what is
deliverable is bound (R587, R595, R598). -/
def pstWork (s : State) : State :=
  if s.rst.inst ∨ !s.locked then s
  else bindAll ((windowsCatch s).each ((List.range 16).drop 1) fun s c => coalesceRelease c s)

/-- A write of PST_SRC_CFG[n] (R598, R599, R600); a source that leaves its coalescing group, or that becomes Class 0 and so
ignores it, is held no longer. -/
def srcCfgWrite (n : Nat) (v : Word) (s : State) : State :=
  let en := s.bit (PST_SRC_CFG.EN n)
  let c0 := s.srcC0 n
  let cg := s.get (PST_SRC_CFG.CG n)
  let s := storeReg (PST_SRC_CFG n) v s
  let s := if cg ≠ s.get (PST_SRC_CFG.CG n) ∨ s.srcC0 n then s.put (PST_SRC_STAT.HELD n) 0 else s
  let s := if c0 && !s.srcC0 n then s.c0Leave n else s
  if (en && !s.bit (PST_SRC_CFG.EN n)) || c0 != s.srcC0 n then openWindow n s else s

/-- A write of PST_SRC_STAT[n] (R599). -/
def srcStatWrite (n : Nat) (v : Word) (s : State) : State :=
  if fldGet v 31 31 = 0 then s
  else (((unbind n s).put (PST_SRC_STAT.PEND n) 0).put (PST_SRC_STAT.HELD n) 0).c0Leave n

/-- A write of PST_CTRL (R597). -/
def pstCtrlWrite (v : Word) (s : State) : State :=
  let was := s.bit PST_CTRL.GDIS
  let s := storeReg PST_CTRL v s
  if !was && s.bit PST_CTRL.GDIS then
    s.each (s.srcs.filter fun n => !s.srcC0 n) fun s n => openWindow n s
  else s

/-- A write of a tier register (R605): one that leaves the boundaries out of order is ignored. -/
def tierWrite (a : Nat) (v : Word) (s : State) : State :=
  let t := storeReg a v s
  let bs := [PST_TIER_LO.B1, PST_TIER_LO.B2, PST_TIER_LO.B3, PST_TIER_LO.B4, PST_TIER_HI.B5, PST_TIER_HI.B6,
    PST_TIER_HI.B7].map t.get
  if (bs.zip (bs.drop 1)).all fun e => decide (e.1 ≤ e.2) then t else s

/-- A write in the PST block. -/
def pstWrite (a : Nat) (v : Word) (s : State) : State :=
  if a = PST_CTRL then pstCtrlWrite v s
  else if a = PST_TIER_LO ∨ a = PST_TIER_HI then tierWrite a v s
  else if a = PST_DOORBELL then doorbellIn (fldGet v 15 0) s
  else if a = PST_MSI_LO then (if fldGet v 1 0 = 0 then storeReg a v s else s)
  else if PST_SRC_CFG 1 ≤ a ∧ a < PST_SRC_CFG 1024 then
    let n := (a - PST_SRC_CFG 0) / 8
    if (a - PST_SRC_CFG 0) % 8 = 0 then srcCfgWrite n v s
    else if (a - PST_SRC_CFG 0) % 8 = 4 then srcStatWrite n v s
    else s
  else storeReg a v s

/-- Latch e catches an edge (R602, R603); `rising` is its direction. While the fabric is in instance reset it waits as it
does while CKF is stopped (R604). -/
def edgeCaught (e : Nat) (rising : Bool) (s : State) : State :=
  let pol := s.get (PST_EDGE.POL e)
  if s.bit (PST_EDGE.EN e) ∧ e ≠ 7 ∧ (pol = 2 ∨ (pol = 0 ∧ rising) ∨ (pol = 1 ∧ !rising)) then
    let n := s.get (PST_EDGE.SRC e)
    let s :=
      if s.bit (PST_EDGE.LATCHED e) then
        (let s := s.put (PST_EDGE.LOST e) 1
         if s.rst.inst then s else s.put PST_STAT.EDGE_LOST 1)
      else if s.locked ∧ !s.rst.inst then (if n = 0 then s else doorbellIn n s)
      else s.put (PST_EDGE.LATCHED e) 1
    if s.bit (PST_EDGE.WAKE e) ∧ !s.bit TIM_CTRL.PLL_EN then s.put TIM_CTRL.PLL_EN 1 else s
  else s

/-- CKF starts: the doorbells of the held edges wait in increasing e; an edge that only wakes is held no longer (R603). -/
def edgesRelease (s : State) : State :=
  s.each (List.range 32) fun s e =>
    if s.bit (PST_EDGE.LATCHED e) then
      let n := s.get (PST_EDGE.SRC e)
      if n = 0 then s.put (PST_EDGE.LATCHED e) 0
      else if s.pst.port.any fun x => x / 65536 == e + 1 then s
      else { s with pst := { s.pst with port := s.pst.port ++ [State.edgeEntry e n] } }
    else s

namespace State

/-- PST_CORE[i] (R586, R589). -/
def viewPstCore (s : State) (i : Nat) : Word :=
  fldSet (fldSet (fldSet 0 31 31 (s.meip i).toNat) 19 16 (s.runPrio i)) 9 0 (s.topAt i)

end State

end Sys2Proof.Machine
end

