-- ==== Sys2Proof/Machine/ThermalOps.lean ====
section
/-! DEFINITION. Machine/ThermalOps.lean: thermal management (spec/14_thermal.md): demands and sweeps, sensor exclusion, group
levels and throttle, and the thermal states of the die. -/

namespace Sys2Proof.Machine

namespace State

/-- State of thermal sensor x. -/
def tsen (s : State) (x : Nat) : ThmSensor := mapGet {} s.thmSensor x

/-- Replace it. -/
def setTsen (s : State) (x : Nat) (h : ThmSensor) : State := { s with thmSensor := mapSet {} s.thmSensor x h }

/-- State of sensor group q. -/
def tgrp (s : State) (q : Nat) : ThmGroup := mapGet {} s.thmGroup q

/-- Replace it. -/
def setTgrp (s : State) (q : Nat) (h : ThmGroup) : State := { s with thmGroup := mapSet {} s.thmGroup q h }

/-- Thermal state: 0 RUN, 1 SHUTDOWN, 2 DOWN, 3 HARD (R471). -/
def thmState (s : State) : Nat := s.get THM_STAT.STATE

/-- The drain request line to the command processors (R472, R474, R640). -/
def drainLine (s : State) : Bool := s.thmState != 0 || s.sagOn

/-- The sensors of group q. -/
def sensorsOf (q : Nat) : List Nat := (List.range 8).map (8 * q + ·)

/-- The included sensors of group q whose last measurement yielded a count (R460, R466). -/
def thmIncluded (s : State) (q : Nat) : List Nat :=
  (sensorsOf q).filter fun x => !s.bit (THM_SCTL.EXCL x) && !s.bit (THM_S.NOCNT x) && s.bit (THM_S.VALID x)

end State

/-! ### Demands and sweeps (R461..R463) -/

/-- A thermal event (R477): its flag and its Postilion source. -/
def thmEvent (f : Fld) (o : Nat) (s : State) : State := (s.put f 1).ring kTHM o

/-- A demand of source src (0 guard, 1 Loop Engine tick, 2 firmware, 3 shutdown) reaches group q (R462, R463). -/
def thmDemand (src q : Nat) (s : State) : State :=
  let g := s.tgrp q
  let fw := src == 2
  if g.demBy ≠ 0 ∧ g.demAt = s.now ∧ !bitOf g.demBy src then
    let g := { g with demBy := setBitN g.demBy src }
    s.setTgrp q (if g.pending then { g with fwNext := g.fwNext || fw } else { g with fw := g.fw || fw })
  else
    let g := { g with demAt := s.now, demBy := 2 ^ src }
    if g.pending then (s.incSat THM_CNT.MERGED).setTgrp q { g with fwNext := g.fwNext || fw }
    else if g.pos.isSome || !s.locked then s.setTgrp q { g with pending := true, fwNext := fw }
    else s.setTgrp q { g with pos := some 0, start := s.tim.edges + 1, fw := fw }

/-- Every group is demanded. -/
def thmDemandAll (src : Nat) (s : State) : State := s.each (List.range 64) fun s q => thmDemand src q s

/-- The groups set in a pair of mask words are demanded. -/
def thmDemandMask (src m : Nat) (s : State) : State := s.each (bitsOf m 64) fun s q => thmDemand src q s

/-- The guard windows up to the TS that stands (R58, R60, R461): a boundary among them demands every group while EN is 1; a
new period applies from its first boundary. -/
def thmGuard (s : State) : State :=
  let p := s.get THM_GUARD.PERIOD
  let h := s.thm
  let turn := decide (p ≠ h.guard) && decide (h.guardTurn ≤ s.now)
  let due := turn || decide (h.guardAt / (800 * h.guard) ≠ s.now / (800 * h.guard))
  let s := { s with thm := { h with guardAt := s.now, guard := if turn then p else h.guard } }
  if due ∧ s.bit THM_GUARD.EN then thmDemandAll 0 s else s

/-- A write of THM_GUARD (R461, R478). -/
def thmGuardWrite (v : Word) (s : State) : State :=
  let s := thmGuard s
  let old := s.get THM_GUARD.PERIOD
  let s := storeReg THM_GUARD v s
  let l := 800 * s.get THM_GUARD.PERIOD
  if s.get THM_GUARD.PERIOD = old then s
  else { s with thm := { s.thm with guardTurn := (s.now / l + 1) * l } }

/-- A Loop Engine tick demands the groups of THM_LMASK at base frame f (R461). -/
def thmTickDemand (f : Nat) (s : State) : State :=
  if s.bit THM_LDEM.EN ∧ f % 2 ^ s.get THM_LDEM.RATE = s.get THM_LDEM.PHASE then thmDemandMask 1 (s.get64 THM_LMASK_LO) s
  else s

/-- A sweep with a pending demand starts anew, at the edge at which the last one ended (R462). -/
def thmNextSweep (q : Nat) (s : State) : State :=
  let g := s.tgrp q
  let e := if g.pos.isSome then g.start else s.tim.edges
  s.setTgrp q
    (if g.pending then { g with pos := some 0, start := e, fw := g.fwNext, pending := false, fwNext := false }
     else { g with pos := none, fw := false })

/-- At relock the pending sweeps begin, and a measurement that the loss of lock cut short is made anew (R463). -/
def thmRelock (s : State) : State :=
  s.each (List.range 64) fun s q =>
    let g := s.tgrp q
    if g.pos.isNone then thmNextSweep q s else s.setTgrp q { g with start := s.tim.edges }

/-- Time passes to the CKF edge that ends the present measurement of group q, the 800th (R460). -/
def thmMeasureTo (q : Nat) (s : State) : State :=
  let g := s.tgrp q
  if s.locked ∧ g.pos.any (· < 8) ∧ s.tim.edges < g.start + 800 then s.passEdges (g.start + 800 - s.tim.edges) else s

/-- A measurement of the present sensor of group q ends: its raw count and C(raw), or no count (R460, R464). -/
def thmMeasure (q : Nat) (count : Option (Nat × Int)) (s : State) : State :=
  let g := s.tgrp q
  match g.pos with
  | none => s
  | some p =>
    if 8 ≤ p ∨ !s.locked then s
    else
      let x := 8 * q + p
      let s := s.setTgrp q { g with pos := some (p + 1), start := g.start + 800 }
      let s := s.addWrap (THM_S.SEQ x) 1
      let off := s.bit (THM_SCTL.EXCL x)
      let h := s.tsen x
      match count with
      | none =>
        let h := if off then h else { h with range := h.range + 1, raw := none, same := 0 }
        (s.put (THM_S.NOCNT x) 1).setTsen x h
      | some (raw, c) =>
        let t := c + s.getI (THM_SCTL.OFS x)
        let s := (s.put (THM_S.NOCNT x) 0).put (THM_S.VALID x) 1
        let s :=
          if -32768 ≤ t ∧ t ≤ 32767 then s.putI (THM_S.TEMP x) t
          else
            let (w, s) := s.drawFree
            s.put (THM_S.TEMP x) (w.toNat % 65536)
        let out := decide (t < -640) || decide (2400 < t)
        let h :=
          if off then h
          else { h with range := if out then h.range + 1 else 0, raw := some raw,
                        same := if h.raw = some raw then h.same + 1 else 1 }
        s.setTsen x h

/-! ### Exclusion (R464, R465) -/

/-- Hardware excludes sensor x. -/
def thmExclude (x cause : Nat) (s : State) : State :=
  let s := ((s.put (THM_SCTL.EXCL x) 1).put (THM_SCTL.XCAUSE x) cause).setTsen x {}
  (thmEvent THM_EVT.EXCL 4 s).pulse 16

/-- The median of values (R464). -/
def medianOf (l : List Int) : Int := (l.mergeSort (· ≤ ·)).getD ((l.length - 1) / 2) 0

/-- Does sensor x differ by more than 15 °C from the median of the other included sensors of its group (R464)? -/
def State.thmApart (s : State) (inc : List Nat) (x : Nat) : Bool :=
  let others := (inc.filter (· != x)).map fun y => s.getI (THM_S.TEMP y)
  inc.contains x && decide (2 ≤ others.length) && decide (240 < (s.getI (THM_S.TEMP x) - medianOf others).natAbs)

/-- The exclusions that a sweep of group q completes: RANGE and STUCK, then DISAGREE among the sensors that remain
(R464, R466). -/
def thmExclusions (q : Nat) (s : State) : State :=
  let s := s.each (State.sensorsOf q) fun s x =>
    let h := s.tsen x
    if s.bit (THM_SCTL.EXCL x) then s
    else if 2 ≤ h.range then thmExclude x 1 s
    else if 64 ≤ h.same then thmExclude x 2 s
    else s
  let inc := s.thmIncluded q
  let far := (State.sensorsOf q).filter fun x => s.thmApart inc x
  s.each (State.sensorsOf q) fun s x =>
    if s.bit (THM_SCTL.EXCL x) then s
    else
      let n := if far.contains x then (s.tsen x).apart + 1 else 0
      if 2 ≤ n then thmExclude x 3 s else s.setTsen x { s.tsen x with apart := n }

/-- A write of THM_SCTL[x] (R465); an exclusion by hardware in the same CKF cycle stands. -/
def thmSctlWrite (x : Nat) (v : Word) (s : State) : State :=
  let hard := s.bit (THM_SCTL.XCAUSE x)
  let v := if hard then v ||| (s.freshBits (THM_SCTL x) &&& 0x80000000) else v
  let was := s.bit (THM_SCTL.EXCL x)
  let s := storeReg (THM_SCTL x) v s
  let now := s.bit (THM_SCTL.EXCL x)
  let s := if was && !now then s.put (THM_SCTL.XCAUSE x) 0 else s
  if was != now then s.setTsen x {} else s

/-! ### Levels and throttle (R467..R470) -/

/-- Threshold of a level of group q, °C. -/
def State.thmThreshold (s : State) (q lv : Nat) : Int :=
  match lv with
  | 1 => s.get (THM_GTH.WARN q)
  | 2 => s.get (THM_GTH.THROT q)
  | _ => s.get (THM_GTH.SHUT q)

/-- The level of group q after an evaluation at temperature t (R467). -/
def State.thmLevel (s : State) (q : Nat) (t : Int) : Nat :=
  let lv := s.get (THM_GSTAT.LEVEL q)
  let top := ([1, 2, 3].filter fun k => decide (16 * s.thmThreshold q k ≤ t)).foldl max 0
  if lv < top then top
  else if 0 < lv ∧ t < 16 * (s.thmThreshold q lv - s.get (THM_GTH.HYST q)) then lv - 1
  else lv

/-- The throttle target n_T (R469). -/
def State.thmTarget (s : State) (q : Nat) (t : Int) (level : Nat) (blind : Bool) : Nat :=
  let x := t - 16 * s.thmThreshold q 2
  let n := if 2 ≤ level then
      (clampI (s.get THM_PROP.FLOOR) 64 (64 - -(floorDiv (-((s.get THM_PROP.KT : Int) * x)) 16))).toNat
    else 64
  if blind then min n (s.get THM_PROP.BLIND_RATE) else n

/-- Every Tender order goes to 0, and IFL with them (R352, R472, R640). -/
def ordersZero (s : State) : State :=
  let s := s.each (s.listed (TNDR_ORD 0) 4 64) fun s g => (s.put (TNDR_ORD.O g) 0).put (TNDR_ORD.F g) 0
  { s.put TNDR_FLOOR.IFL 0 with tndr := { s.tndr with ifl := 0 } }

/-- Velol enters SHUTDOWN for group q (R471, R472). -/
def thmShutdown (q : Nat) (s : State) : State :=
  let s := ((s.put THM_STAT.STATE 1).put THM_STAT.HOTGRP q).wrN THM_SD_TS s.now32
  ordersZero { thmEvent THM_EVT.SHUT 2 s with thm := { s.thm with sd := s.now, drained := false } }

/-- Velol enters HARD (R473). -/
def thmHard (s : State) : State := thmEvent THM_EVT.DOWN 3 (s.put THM_STAT.STATE 3)

/-- The counts of THM_STAT. -/
def thmCounts (s : State) : State :=
  let qs := s.listed (THM_GSTAT 0) 0x20 64
  (s.put THM_STAT.NBLIND (qs.filter fun q => s.bit (THM_GSTAT.BLIND q)).length).put THM_STAT.NTHR
    (qs.filter fun q => decide (2 ≤ s.get (THM_GSTAT.LEVEL q))).length

/-- Group q is evaluated (R466..R469, R471, R473). -/
def thmEvaluate (q : Nat) (s : State) : State :=
  let inc := s.thmIncluded q
  let n := inc.length
  let s := s.put (THM_GSTAT.NINC q) n
  let wasBlind := s.bit (THM_GSTAT.BLIND q)
  let blind := decide (n < s.get THM_PROP.MINS)
  let s := s.putB (THM_GSTAT.BLIND q) blind
  let s := if blind ≠ wasBlind then thmEvent THM_EVT.BLIND 5 s else s
  let s := if blind ∧ !wasBlind then s.pulse 17 else s
  if n = 0 then thmCounts s
  else
    let ts := inc.map fun x => s.getI (THM_S.TEMP x)
    let t := ts.foldl max (ts.getD 0 0)
    let hot := (inc.find? fun x => s.getI (THM_S.TEMP x) == t).getD 0 % 8
    let s := (((s.putI (THM_GSTAT.TEMP q) t).put (THM_GSTAT.VALID q) 1).put (THM_GSTAT.HOTS q) hot).wrN (THM_GTS q) s.now32
    let old := s.get (THM_GSTAT.LEVEL q)
    let lv := s.thmLevel q t
    let s := s.put (THM_GSTAT.LEVEL q) lv
    let s := if old ≠ lv ∧ (old = 1 ∨ lv = 1) then thmEvent THM_EVT.WARN 0 s else s
    let s := if old ≠ lv ∧ (old = 2 ∨ lv = 2) then thmEvent THM_EVT.THROT 1 s else s
    let s := thmCounts (s.put (THM_GREQ.TGT q) (s.thmTarget q t lv blind))
    let s := if s.thmState = 0 ∧ lv = 3 then thmShutdown q s else s
    if s.thmState = 1 ∧ 16 * (s.thmThreshold q 3 + 5) ≤ t then thmHard s else s

/-- The sweep of group q ends: exclusions, evaluation, the shutdown's demands, and the next sweep (R462, R466, R472). -/
def thmSweepEnd (q : Nat) (s : State) : State :=
  if (s.tgrp q).pos = some 8 then
    let s := (thmEvaluate q (thmExclusions q s)).incSat THM_CNT.SWEEPS
    let s := if (s.tgrp q).fw then thmEvent THM_EVT.FWDONE 6 s else s
    let s := if s.thmState = 1 then thmDemandAll 3 s else s
    thmNextSweep q s
  else s

/-- THERM of every engine group: the smallest REQ over the groups that map to it (R470). -/
def thmRequests (s : State) : State :=
  let low := (List.range 64).filter fun q => s.get (THM_GREQ.REQ q) < 64
  let maps := low.map fun q => (s.get64 (THM_GMAP_LO q), s.get (THM_GREQ.REQ q))
  s.each (List.range 64) fun s g =>
    s.put (REIN_HWREQ0.THERM g) (((maps.filter fun m => bitOf m.1 g).map Prod.snd).foldl min 64)

/-- The throttle's part of a base tick (R470). -/
def thmThrottleTick (s : State) : State :=
  let s := s.each (s.listed (THM_GREQ 0) 0x20 64) fun s q =>
    let r := s.get (THM_GREQ.REQ q)
    let t := s.get (THM_GREQ.TGT q)
    s.put (THM_GREQ.REQ q) (if r < t then r + 1 else if t < r then r - 1 else r)
  thmRequests s

/-! ### Shutdown (R472..R476) -/

/-- Time passes until no engine group has issued in 1,024 consecutive CKF cycles (R472). -/
def drainTo (s : State) : State :=
  s.advanceTo (BitVec.ofNat 64 ((s.tndr.lastIssue.map Prod.snd).foldl (fun m t => max m (t + 1024)) 0))

/-- Time passes to the end of the 2 ms of a SHUTDOWN, and Velol enters HARD (R473). -/
def thmTimeout (s : State) : State :=
  if s.thmState = 1 then thmHard (s.advanceTo (BitVec.ofNat 64 (s.thm.sd + 1600000))) else s

/-- The die has drained: regions are disabled (R472). -/
def thmDrained (s : State) : State :=
  if s.thmState = 1 ∧ !s.thm.drained ∧ !s.sagOn ∧ s.locked then
    let s := { s with thm := { s.thm with drained := true } }
    s.each (s.listed (RGN_STAT 0) 0x100 256) fun s n => (rgnDisable n s).put (RGN_STAT.ENABLE_PENDING n) 0
  else s

/-- Every region is OFF or FAULTED after the drain: the front stage stops and the state becomes DOWN (R472). -/
def thmDown (s : State) : State :=
  if s.thmState = 1 ∧ s.thm.drained ∧ !s.sagOn ∧ s.liveRegions.all (fun n => s.rgnState n == 5) then
    let s := if s.fsState = 1 ∨ s.fsState = 2 then stopFront s else s
    thmEvent THM_EVT.DOWN 3 (s.put THM_STAT.STATE 2)
  else s

/-- A write of THM_CTRL (R476). The override that THM_HARD itself holds does not count (R479). -/
def thmCtrlWrite (v : Word) (s : State) : State :=
  if fldGet v 0 0 = 0 then s
  else
    let st := s.thmState
    let others := s.num CBSE_STATUS_LO &&& fatalMask &&& (2 ^ 32 - 1 - 2 ^ 19)
    let cool := (s.listed (THM_GSTAT 0) 0x20 64).all fun q => s.get (THM_GSTAT.LEVEL q) != 3
    if 2 ≤ st ∧ cool ∧ (st = 3 → others = 0) then s.put THM_STAT.STATE 0 else s.put THM_EVT.CLR_REFUSED 1

/-- A write of THM_GTH[q] (R478): thresholds that break the rule stay, HYST takes effect. -/
def thmGthWrite (q : Nat) (v : Word) (s : State) : State :=
  let old := s.rd (THM_GTH q)
  let s := storeReg (THM_GTH q) v s
  let w := s.get (THM_GTH.WARN q)
  let p := s.get (THM_GTH.THROT q)
  let h := s.get (THM_GTH.SHUT q)
  if w ≤ p ∧ p < h ∧ h ≤ 125 then s
  else
    ((s.put (THM_GTH.WARN q) (fldGet old 7 0)).put (THM_GTH.THROT q) (fldGet old 15 8)).put (THM_GTH.SHUT q)
      (fldGet old 23 16)

/-- A write of THM_LDEM (R478): a phase that RATE does not admit leaves RATE and PHASE. -/
def thmLdemWrite (v : Word) (s : State) : State :=
  let old := s.rd THM_LDEM
  let s := storeReg THM_LDEM v s
  if s.get THM_LDEM.PHASE < 2 ^ s.get THM_LDEM.RATE then s
  else (s.put THM_LDEM.RATE (fldGet old 19 16)).put THM_LDEM.PHASE (fldGet old 14 0)

/-- A write of THM_DEM_LO or THM_DEM_HI (R461). -/
def thmDemWrite (hi : Bool) (v : Word) (s : State) : State :=
  thmDemandMask 2 (if hi then v.toNat * 2 ^ 32 else v.toNat) s

/-- A write in the THM block. -/
def thmWrite (a : Nat) (v : Word) (s : State) : State :=
  if a = THM_CTRL then thmCtrlWrite v s
  else if a = THM_LDEM then thmLdemWrite v s
  else if a = THM_GUARD then thmGuardWrite v s
  else if a = THM_DEM_LO then thmDemWrite false v s
  else if a = THM_DEM_HI then thmDemWrite true v s
  else if THM_GTH 0 ≤ a ∧ a < THM_GTH 64 then
    let o := (a - THM_GTH 0) % 0x20
    if o = 0 then thmGthWrite ((a - THM_GTH 0) / 0x20) v s
    else if o = 4 ∨ o = 8 then thmRequests (storeReg a v s)
    else storeReg a v s
  else if THM_S 0 ≤ a ∧ a < THM_S 512 ∧ (a - THM_S 0) % 8 = 4 then thmSctlWrite ((a - THM_S 0) / 8) v s
  else storeReg a v s

end Sys2Proof.Machine
end

