-- ==== Sys2Proof/Machine/CabooseOps.lean ====
section
/-! DEFINITION. Machine/CabooseOps.lean: Caboose (spec/15_caboose.md): the pins of the sources, latching, the first-error
record, the safe-state override, and the scrubbers. -/

namespace Sys2Proof.Machine

/-- Class of source b (R479): 1 CORRECTED, 2 CONTAINED, 3 FATAL. -/
def cbseClass (b : Nat) : Nat :=
  if [8, 9, 12, 16, 25, 42].contains b then 1 else if [3, 4, 5, 19, 20].contains b then 3 else 2

/-- Sources of the status word (R479). -/
def cbseBits : Nat := 43

namespace State

/-- The levels of the CONDITION pins (R479), by bit; PLL_UNLOCK is low at every CKF edge (R481). -/
def cbseConditions (s : State) : List (Nat × Bool) :=
  let latched := s.fsState == 4 && !([1, 8, 9].contains (s.get XPH_STAT.CAUSE))
  [(4, s.fsState == 3), (5, latched && s.xph.loaded), (6, latched && !s.xph.loaded),
    (10, s.liveRegions.any fun n => s.rgnState n == 5 && s.get (RGN_FAULT.CAUSE n) != 1),
    (18, s.thmState != 0), (19, s.thmState == 3), (22, s.odrState == 2), (26, s.sagOn)]

/-- Pin levels of the CONDITION pins ORed with CBSE_FORCE, as a bit mask (R480, R486). -/
def cbseLevels (s : State) : Nat :=
  s.cbseConditions.foldl (fun m e => if e.2 then setBitN m e.1 else m) (s.get64 CBSE_FORCE_LO)

/-- The status word. -/
def cbseStatus (s : State) : Nat := s.get64 CBSE_STATUS_LO

end State

/-- Times that each source latches at a CKF edge: EVENT pulses, or the rising edge of its level (R480), and PLL_UNLOCK
after a relock (R481). -/
def State.cbseLatches (s : State) : List (Nat × Nat) :=
  let lv := s.cbseLevels
  let was := s.get64 CBSE_PIN_LO
  (List.range cbseBits).filterMap fun b =>
    let pulses := ((s.cbse.pulses.zip s.cbse.pulseAt).eraseDups.filter fun e => e.1 == b).length
    let rise := bitOf lv b && !bitOf was b
    let n := (if pulses = 0 then rise.toNat else pulses) + (b == 3 && s.tim.unlockDue).toNat
    if n = 0 then none else some (b, n)

/-- The first-error record meets one latch of source b (R483, R484). -/
def recordLatch (b ts : Nat) (s : State) : State :=
  let cl := cbseClass b
  if s.bit CBSE_FIRST.OPEN then
    ((s.put CBSE_FIRST.OVERFLOW 1).incSat CBSE_FIRST.NMERGED).keepMax CBSE_FIRST.CLASS cl
  else
    let s := ((s.wrN CBSE_FIRST 0).put CBSE_FIRST.OPEN 1).put CBSE_FIRST.SRC b
    let s := (s.put CBSE_FIRST.CLASS cl).putB CBSE_FIRST.FORCED (bitOf (s.get64 CBSE_FORCE_LO) b)
    let s := (s.put64 CBSE_FIRST_TS_LO ts).ring kCBSE 0
    if s.get TRC_TRIG.SRC = 4 then traceTrigger 4 s else s

/-- The reaction to the override's beginning, or to a further fatal latch (R22, R105, R148, R197, R352, R489). -/
def overrideBegins (ts : Nat) (s : State) : State :=
  let s := frontFault 8 (regionsSafe (ts % 2 ^ 32) s)
  reinAll (ordersZero (safeBegins (s.listed (CELL_STAT 0) 0x40 3072) s))

/-- The order in which the latches of one edge meet the record: highest class first, lowest bit among equals (R483). -/
def latchOrder (l : List (Nat × Nat)) : List Nat :=
  let sel (c : Nat) := (l.filter fun e => cbseClass e.1 == c).flatMap fun e => List.replicate e.2 e.1
  sel 3 ++ sel 2

/-- The latches ls of a CKF edge are stored: the pins, the status bits, the counts and the first DMA error (R480, R482,
R488, R500, R501). -/
def latchStore (ls : List (Nat × Nat)) (s : State) : State :=
  let pins := s.cbse.pulses.foldl setBitN s.cbseLevels
  let dma := if ls.any (fun e => e.1 == 1) && !s.bit CBSE_DMA.VALID then s.cbse.dma else none
  let s := s.put64 CBSE_PIN_LO pins
  let s := { s with cbse := { s.cbse with pulses := [], pulseAt := [], dma := none },
                    tim := { s.tim with unlockDue := false, lockSafe := false } }
  let s := s.put64 CBSE_STATUS_LO (ls.foldl (fun m e => setBitN m e.1) s.cbseStatus)
  let s := s.each ls fun s e => s.addSat (CBSE_CNT.COUNT e.1) e.2
  match dma with
  | some (u, a) => ((s.put CBSE_DMA.VALID 1).put CBSE_DMA.UNIT u).put64 CBSE_DMA_ADDR_LO a
  | none => s

/-- Caboose samples its pins at a CKF edge (R480..R484, R488, R500, R501). -/
def faultLatch (s : State) : State :=
  if !s.locked then s
  else
    let ls := s.cbseLatches
    let has (c : Nat) : Bool := ls.any fun e => cbseClass e.1 == c
    let unlock := s.tim.unlockDue
    let tsOf (b : Nat) : Nat := if b = 3 ∧ unlock then s.tim.unlockTs.toNat else s.now
    let s := (latchStore ls s).each (latchOrder ls) fun s b => recordLatch b (tsOf b) s
    let s := if has 1 && s.bit CBSE_CTRL.CE_IE then s.ring kCBSE 2 else s
    if has 3 then
      smbLatch (overrideBegins (if ls.any (fun e => e.1 == 3) then tsOf 3 else s.now) (s.ring kCBSE 1))
    else if has 2 then smbLatch s
    else s

/-- The status bits `ask` are to be cleared, of which those in `up` have their pin high (R485, R486): a bit whose pin is high
stays, and the record closes once no contained or fatal bit stands. -/
def statusDrop (ask up : Nat) (s : State) : State :=
  let s := s.put64 CBSE_STATUS_LO (s.cbseStatus - (ask - up))
  let s := if up = 0 then s else (s.put CBSE_STAT.CLR_REFUSED 1).ring kCBSE 4
  let serious := (bitsOf s.cbseStatus cbseBits).any fun b => cbseClass b != 1
  if s.bit CBSE_FIRST.OPEN && !serious then (s.put CBSE_FIRST.OPEN 0).ring kCBSE 3 else s

/-- The pins as a status clear finds them (R481, R486): levels, EVENT pins asserted in this cycle, and PLL_UNLOCK until its
latch. -/
def State.clearPins (s : State) : Nat :=
  let m := s.cbse.pulses.foldl setBitN s.cbseLevels
  if s.tim.unlockDue then setBitN m 3 else m

/-- A write of 1s to half a status word (R485, R486, R491); `hi` is CBSE_STATUS_HI. A bit that hardware set in the same CKF
cycle ends set (R18). -/
def statusClear (hi : Bool) (v : Word) (s : State) : State :=
  let ask := (if hi then v.toNat * 2 ^ 32 else v.toNat) &&& s.cbseStatus
  let new := (s.freshBits CBSE_STATUS_LO).toNat + 2 ^ 32 * (s.freshBits CBSE_STATUS_HI).toNat
  let was := s.overrideOn
  let s := statusDrop (ask - (ask &&& new)) ((ask - (ask &&& new)) &&& s.clearPins) s
  if was && !s.overrideOn then reinAll (releaseCells (s.listed (CELL_STAT 0) 0x40 3072) s) else s

/-- A write of CBSE_FORCE_LO or CBSE_FORCE_HI (R492); bits 63:43 are reserved. -/
def forceWrite (hi : Bool) (v : Word) (s : State) : State :=
  if hi then s.wr CBSE_FORCE_HI (v &&& 0x7FF) else s.wr CBSE_FORCE_LO v

/-- Time passes to the CKF edge at which the scrubber of memory m may make its next read (R497). -/
def scrubTo (m : Nat) (s : State) : State :=
  let e := mapGet 0 s.cbse.scrubAt m
  if s.bit CBSE_SCRUB.EN ∧ s.locked ∧ s.tim.edges < e then s.passEdges (e - s.tim.edges) else s

/-- The scrubber of memory m reads its next word, in which it finds nothing (0), a correctable (1) or an uncorrectable
error (2) (R495, R497, R499); a read is due every INT cycles, and one that waited for a free cycle does not move the next. -/
def scrubRead (m found : Nat) (s : State) : State :=
  if s.bit CBSE_SCRUB.EN ∧ s.locked then
    let o := mapGet 0 s.cbse.scrub m
    let next := if memSize m ≤ o + 8 then 0 else o + 8
    let int := s.get CBSE_SCRUB.INT
    let e := mapGet 0 s.cbse.scrubAt m
    let due := (if s.tim.edges ≤ e + int then e else s.tim.edges) + int
    let s := { s with cbse := { s.cbse with scrub := mapSet 0 s.cbse.scrub m next,
                                            scrubAt := mapSet 0 s.cbse.scrubAt m due } }
    let s := if next = 0 then s.addWrap (CBSE_PASS.V m) 1 else s
    if found = 2 ∨ s.memBad m o then memUe m o s else if found = 1 then memCe m o s else s
  else s

/-- A write in the CBSE block. -/
def cbseWrite (a : Nat) (v : Word) (s : State) : State :=
  if a = CBSE_STATUS_LO then statusClear false v s
  else if a = CBSE_STATUS_HI then statusClear true v s
  else if a = CBSE_FORCE_LO then forceWrite false v s
  else if a = CBSE_FORCE_HI then forceWrite true v s
  else storeReg a v s

end Sys2Proof.Machine
end

