-- ==== Sys2Proof/Machine/SenseOps.lean ====
section
/-! DEFINITION. Machine/SenseOps.lean: the sense converters (spec/13_sense_converters.md): slots and sequencing, codes and
scaling, checks, window comparators, and the register writes of the SNS block. -/

namespace Sys2Proof.Machine

/-- An SNS event: its flag and its Postilion source (R457). -/
def snsEvent (f : Fld) (off : Nat) (s : State) : State := (s.put f 1).ring kSNS off

namespace State

/-- State of converter k. -/
def sconv (s : State) (k : Nat) : SnsConv := mapGet {} s.snsConv k

/-- Replace it. -/
def setSconv (s : State) (k : Nat) (h : SnsConv) : State := { s with snsConv := mapSet {} s.snsConv k h }

/-- State of comparator w. -/
def scomp (s : State) (w : Nat) : SnsComp := mapGet {} s.snsComp w

/-- Replace it. -/
def setScomp (s : State) (w : Nat) (h : SnsComp) : State := { s with snsComp := mapSet {} s.snsComp w h }

/-- Is converter k enabled? -/
def snsOn (s : State) (k : Nat) : Bool := bitOf (s.get SNS_CTRL.EN) k

end State

/-! ### Sequencing (R434, R442..R448) -/

/-- Input and position of a pre-selected channel of converter 2 (R434). -/
def preselect (k ch : Nat) : Option (Nat × Nat) :=
  if k = 2 ∧ ch < 32 then some (ch % 16, ch / 16)
  else if k = 2 ∧ ch < 40 then some (16 + (ch - 32) % 4, (ch - 32) / 4)
  else none

/-- Is the pre-selector of channel ch set for it? -/
def preselected (k pos ch : Nat) : Bool :=
  match preselect k ch with
  | some (i, p) => (bitOf pos i).toNat == p
  | none => true

/-- Set the pre-selector of channel ch, unless the slot that starts converts the same input at the other position. -/
def setPreselect (k : Nat) (slot : Option Nat) (pos ch : Nat) : Nat :=
  match preselect k ch with
  | some (i, p) =>
    let clash : Bool :=
      match slot.bind (preselect k) with
      | some (j, q) => j == i && q != p
      | none => false
    if clash then pos else if p = 1 then setBitN pos i else clearBitN pos i
  | none => pos

/-- The scan's next channel after `last` (R442). -/
def State.scanNext (s : State) (k : Nat) (last : Option Nat) : Option Nat :=
  let chs := bitsOf (s.num (SNS_MASK_LO k) + 2 ^ 32 * s.get (SNS_MASK_HI.MASK k)) 48
  match last with
  | none => chs.head?
  | some l => (chs.find? fun c => decide (l < c)).or chs.head?

/-- What the sequence of converter k holds next: an idle pattern slot, or a channel and whether it is the scan's (R442,
R443). -/
def State.seqNext (s : State) (k : Nat) (h : SnsConv) : Option (Nat × Bool) :=
  let v := fldGet (s.rd SNS_PRIV) (4 * h.ptr + 3) (4 * h.ptr)
  if k = 3 ∧ v ≠ 0 then some (v - 1, false) else (s.scanNext k h.last).map fun c => (c, true)

/-- The sequence after its next entry is carried out (R442, R443). -/
def seqTake (k : Nat) (e : Option (Nat × Bool)) (h : SnsConv) : SnsConv :=
  let h := if k = 3 then { h with ptr := (h.ptr + 1) % 8 } else h
  match e with
  | some (c, true) => { h with last := some c }
  | _ => h

/-- The check conversion due on converter k in base frame f (R448): channel and 1 + f mod (8 PER). -/
def State.checkDue (s : State) (k f : Nat) : Option (Nat × Nat) :=
  let m := f % (8 * s.get SNS_CHK.PER)
  let ch : Option Nat :=
    match m with
    | 0 => [some 16, some 16, none, some 2].getD k none
    | 1 => [none, none, some 40, some 0].getD k none
    | 2 => [some 22, some 22, some 41, some 10].getD k none
    | 3 => [some 23, some 23, some 42, some 11].getD k none
    | _ => none
  if s.bit SNS_CTRL.CHK_EN then ch.map fun c => (c, m + 1) else none

/-- A slot starts on converter k at base frame f (R444): a due check, the oldest eligible urgent request, or the entry of
the sequence; then the pre-selectors of what comes next are set (R434). -/
def startSlot (k f : Nat) (s : State) : State :=
  let h := s.sconv k
  let seq := s.seqNext k h
  let (cur, h) : Option SnsSlot × SnsConv :=
    match s.checkDue k f with
    | some (ch, m) => (some ⟨ch, false, m, s.now⟩, h)
    | none =>
      match h.urg.find? (preselected k h.pos) with
      | some ch => (some ⟨ch, true, 0, s.now⟩, { h with urg := h.urg.erase ch })
      | none =>
        match seq with
        | none => (none, seqTake k none h)
        | some (ch, b) =>
          if preselected k h.pos ch then (some ⟨ch, false, 0, s.now⟩, seqTake k (some (ch, b)) h) else (none, h)
  let slot := cur.map (·.ch)
  let next := (s.seqNext k h).map (·.1)
  let pos := (next.toList ++ h.urg.reverse).foldl (setPreselect k slot) h.pos
  (s.setSconv k { h with cur := cur, pos := pos }).put (SNS_URG.QD k) h.urg.length

/-- Every enabled converter starts a slot at a base tick (R432). -/
def senseSlots (f : Nat) (s : State) : State :=
  s.each [0, 1, 2, 3] fun s k => if s.snsOn k then startSlot k f s else s

/-! ### Codes and scaling (R437, R438, R202) -/

/-- A quotient rounded to the nearest integer, ties upwards. -/
def roundUp (a : Int) (b : Nat) : Int := floorDiv (2 * a + b) (2 * b)

/-- The reference of converter k in mV (R437). -/
def State.vrefOf (s : State) (k : Nat) : Nat :=
  match s.get (SNS_CFG.REF k) with
  | 1 => s.get (SNS_CFG.VEXT k)
  | 2 => 1800
  | _ => 1200

/-- The code of a raw conversion of converter k (R437). -/
def State.snsCode (s : State) (k raw : Nat) : Nat :=
  let c := clampI 0 16383 ((raw : Int) + s.getI (SNS_TRIM.OFS k) +
    floorDiv ((raw : Int) * s.getI (SNS_TRIM.GAIN k) + 8192) 16384)
  (roundUp (c * (s.vrefOf k : Nat)) 1200).toNat

/-- A phase-current conversion of phase p (R202, R196, R188). A sum beyond the field has no stated value (log entry 125). -/
def senseCurrent (p code : Nat) (s : State) : State :=
  let i := roundUp (((code * 1200 : Nat) - (400 * 16384 : Nat) : Int) * 16) (5 * 16384)
  let s := s.putI (XPH_PH_MEAS.I p) i
  let h := s.phid p
  let run := if i ≤ -640 ∧ s.phState p = 2 then h.imonRun + 1 else 0
  let s := s.setPhid p { h with imonRun := run }
  let s := if 4 ≤ run then phaseLatch p 5 s else s
  let ivim := ((s.phasesIn 2 ++ s.phasesIn 3).map fun q => s.getI (XPH_PH_MEAS.I q)).sum
  let s := s.putIOr XPH_IVIM.IVIM ivim
  phaseCount (s.keepMaxI XPH_IVIM.IPEAK (s.getI XPH_IVIM.IVIM))

/-- A stage-temperature conversion of phase p (R202, R196). -/
def senseStage (p code : Nat) (s : State) : State :=
  let t := (clampI 0 255 (roundUp ((code * 1200 : Nat) - (200 * 16384 : Nat) : Int) (6 * 16384))).toNat
  let s := s.put (XPH_PH_MEAS.TEMP p) t
  let h := s.phid p
  let ot := if s.get XPH_OCP.OT ≤ t then h.otRun + 1 else 0
  let st := if 16320 ≤ code then h.stageRun + 1 else 0
  let s := s.setPhid p { h with tmon := code, otRun := ot, stageRun := st }
  if 2 ≤ ot then phaseLatch p 3 s else if 2 ≤ st then phaseLatch p 4 s else s

/-- A V12 conversion of converter 3 (R438, R197 VIN_OV). -/
def senseV12 (code : Nat) (s : State) : State :=
  let v := (clampI 0 65535 (roundUp (code * 1200 * s.get SNS_V12K.KV12 : Nat) 4194304)).toNat
  let s := s.put XPH_IN.V12 v
  if 14000 < v then
    let first := s.xph.vinOv.getD s.now
    let s := { s with xph := { s.xph with vinOv := some first } }
    if first + 1600 ≤ s.now then frontFault 6 s else s
  else { s with xph := { s.xph with vinOv := none } }

/-- The field of VIM sense point i. -/
def vimField (i : Nat) : Fld :=
  match i with
  | 0 => XPH_VIMPT01.V0
  | 1 => XPH_VIMPT01.V1
  | 2 => XPH_VIMPT23.V2
  | _ => XPH_VIMPT23.V3

/-- Twice the median of two or three codes (R176). -/
def median2 : List Nat → Option Nat
  | [a, b] => some (a + b)
  | [a, b, c] => some (2 * (median3 (a : Int) b c).toNat)
  | _ => none

/-- A conversion of VIM sense point i (R175): its code, the run of its check against the other included points, 40 codes to
50 mV (R176), and the combined reading. -/
def sensePoint (i v : Nat) (s : State) : State :=
  let s := s.put (vimField i) v
  let apart : Bool :=
    match median2 ((s.vimPoints.filter (· != i)).map s.vimPoint) with
    | some m => s.vimPoints.contains i && decide (80 < codeGap (2 * v) m)
    | none => false
  let run := if apart then min 8 (mapGet 0 s.xph.ptRun i + 1) else 0
  combineVim { s with xph := { s.xph with ptRun := mapSet 0 s.xph.ptRun i run } }

/-- What a code of channel ch of converter k updates outside the SNS block (R436, R438). -/
def senseUse (k ch code : Nat) (s : State) : State :=
  let s := rippleCatch s
  match k with
  | 0 => if ch < 16 then senseCurrent ch code s else s
  | 1 => if ch < 16 then senseCurrent (16 + ch) code s else s
  | 2 => if ch < 32 then senseStage ch code s else s
  | _ =>
    if ch = 0 then senseV12 code s
    else if ch = 1 then
      let i := roundUp (((code * 1200 : Nat) - (s.get SNS_I12K.I12OFS * 16384 : Nat) : Int) * 160)
        (16384 * s.get SNS_I12K.I12K)
      s.putI XPH_IN.I12 (satS 16 i)
    else if ch ≤ 5 then sensePoint (ch - 2) (roundUp (code * 15 : Nat) 128).toNat s
    else if ch = 6 then s.put SNS_AON.HOLD (roundUp (code * 6000 : Nat) 16384).toNat
    else if ch = 7 then s.put SNS_AON.VAON (roundUp (code * 6000 : Nat) 16384).toNat
    else s

/-! ### Checks and comparators (R449..R455) -/

/-- The pair, by its first converter, that the check slot with f mod (8 PER) = m compares on converter k, and the
converter that it is compared with (R450). -/
def pairOf (k m : Nat) : Option (Nat × Nat) :=
  match k, m with
  | 0, 0 => some (0, 1)
  | 1, 0 => some (0, 0)
  | 2, 1 => some (2, 3)
  | 3, 1 => some (2, 2)
  | _, _ => none

/-- Do two codes differ by more than TOL (R450)? -/
def State.apart (s : State) (a b : Nat) : Bool := decide (s.get SNS_CHK.TOL < codeGap a b)

/-- A pair's check slot gives a code on converter k (R448, R450): with the other converter's code of the same slot, the check
period counts as one of disagreement or of agreement. -/
def pairCheck (k m start code : Nat) (s : State) : State :=
  let s := s.setSconv k { s.sconv k with pair := some (start, code) }
  match pairOf k m with
  | none => s
  | some (a, other) =>
    match (s.sconv other).pair with
    | some (at_, c) =>
      if at_ = start then
        let h := s.sconv a
        if s.apart code c then s.setSconv a { h with dis := min 15 (h.dis + 1), agr := 0 }
        else s.setSconv a { h with dis := 0, agr := min 15 (h.agr + 1) }
      else s
    | none => s

/-- The ZERO code of a check period completes the reference check of converter k with the VCHK code before it (R449). -/
def referenceCheck (k code : Nat) (s : State) : State :=
  let h := s.sconv k
  let s := s.setSconv k { h with vchk := none }
  match h.vchk with
  | none => s
  | some v =>
    let tol := s.get SNS_CHK.RTOL
    let bad := s.get SNS_STAT.REF_BAD
    if 8192 ≤ v + tol ∧ v ≤ 8192 + tol ∧ code ≤ tol then s.put SNS_STAT.REF_BAD (clearBitN bad k)
    else (snsEvent SNS_EVT.REFCHK 9 (s.put SNS_STAT.REF_BAD (setBitN bad k))).pulse 13

/-- A check conversion (R448) in a slot that started at TS `start`: the pairs' codes, VCHK, or ZERO. -/
def senseCheck (k chk start code : Nat) (s : State) : State :=
  match chk with
  | 1 => pairCheck k 0 start code s
  | 2 => pairCheck k 1 start code s
  | 3 => s.setSconv k { s.sconv k with vchk := some code }
  | 4 => referenceCheck k code s
  | _ => s

/-- The duty windows of comparator w up to TS x with the length in force (R58, R60, R455): the last window that is complete
gives STAT.DUTY, 0 when TS stepped over it. -/
def compWindows (w x : Nat) (s : State) : State :=
  let h := s.scomp w
  let k := if h.win = 0 then 0 else x / (800 * h.win) - h.since / (800 * h.win)
  let s := if k = 0 then s else s.put (SNS_WC_STAT.DUTY w) (if k = 1 then min h.duty 0xFFFF else 0)
  s.setScomp w { h with duty := if k = 0 then h.duty else 0, since := x }

/-- Time passes to TS x for comparator w's duty count: a length written to SNS_WC_WIN comes into force at its first
boundary, and a length of 0 at once (R455). -/
def compTo (w x : Nat) (s : State) : State :=
  let new := s.get (SNS_WC_WIN.WIN w)
  let h := s.scomp w
  if x ≤ h.since then s
  else if new = h.win then compWindows w x s
  else if new = 0 then s.setScomp w { h with win := 0, duty := 0, since := x }
  else if x < h.turn then compWindows w x s
  else
    let s := compWindows w h.turn s
    compWindows w x (s.setScomp w { s.scomp w with win := new, duty := 0 })

/-- A write of SNS_WC_WIN[w] (R455). -/
def compWinWrite (w : Nat) (v : Word) (s : State) : State :=
  let s := storeReg (SNS_WC_WIN w) v (compTo w s.now s)
  let l := 800 * s.get (SNS_WC_WIN.WIN w)
  s.setScomp w { s.scomp w with turn := (s.now / l + 1) * l }

/-- An out-of-band result whose slot started at TS b counts in the duty window that holds b (R455); when that window has
ended meanwhile, DUTY takes it in. -/
def compCount (w b : Nat) (s : State) : State :=
  let s := compTo w b s
  let h := s.scomp w
  if h.win = 0 then s
  else if b / (800 * h.win) = h.since / (800 * h.win) then s.setScomp w { h with duty := h.duty + 1 }
  else if b / (800 * h.win) + 1 = h.since / (800 * h.win) then s.incSat (SNS_WC_STAT.DUTY w)
  else s

/-- A valid result of a slot that started at TS b counts in the filter and the duty window of comparator w (R453, R455). -/
def compResult (w b code : Nat) (s : State) : State :=
  let lo := s.get (SNS_WC_BAND.LO w)
  let hi := s.get (SNS_WC_BAND.HI w)
  let hy := s.get (SNS_WC_CFG.HYST w)
  let outside := decide (code < lo) || decide (hi < code)
  let hit := if s.bit (SNS_WC_STAT.OUT w) then decide (lo + hy ≤ code) && decide (code + hy ≤ hi) else outside
  let n := if hit then min (s.get (SNS_WC_STAT.FCNT w) + 1) (s.get (SNS_WC_CFG.FILT w)) else 0
  let s := s.put (SNS_WC_STAT.FCNT w) n
  if outside then compCount w b (s.setScomp w { s.scomp w with high := decide (hi < code) }) else s

/-- Bit w of SNS_WEVT and the routed source (R454). -/
def compReport (w : Nat) (s : State) : State :=
  let a := if w < 32 then SNS_WEVT_LO else SNS_WEVT_HI
  (s.wr a (s.rd a ||| BitVec.ofNat 32 (2 ^ (w % 32)))).ring kSNS (s.get (SNS_WC_CFG.ROUTE w))

/-- A comparator goes OUT (R453, R454). -/
def compExit (w : Nat) (s : State) : State :=
  if s.bit (SNS_WC_CFG.EN w) ∧ !s.bit (SNS_WC_STAT.OUT w) ∧ s.get (SNS_WC_CFG.FILT w) ≤ s.get (SNS_WC_STAT.FCNT w) then
    let s := ((s.put (SNS_WC_STAT.OUT w) 1).putB (SNS_WC_STAT.HIGH w) (s.scomp w).high).put (SNS_WC_STAT.FCNT w) 0
    let s := compReport w s
    if s.bit (SNS_WC_CFG.CBSE w) then s.pulse 15 else s
  else s

/-- A comparator returns IN (R453, R454). -/
def compReenter (w : Nat) (s : State) : State :=
  if s.bit (SNS_WC_CFG.EN w) ∧ s.bit (SNS_WC_STAT.OUT w) ∧ s.get (SNS_WC_CFG.FILT w) ≤ s.get (SNS_WC_STAT.FCNT w) then
    let s := (s.put (SNS_WC_STAT.OUT w) 0).put (SNS_WC_STAT.FCNT w) 0
    if s.bit (SNS_WC_CFG.REENTRY w) then compReport w s else s
  else s

/-- The result of a slot of converter k is written: code, SEQ, OVR and COUNT (R437, R438, R441). -/
def convStore (k ch code : Nat) (ovr : Bool) (s : State) : State :=
  let s := s.setSconv k { s.sconv k with cur := none }
  let s := ((s.putB (SNS_RES.OVR k ch) ovr).put (SNS_RES.CODE k ch) code).addWrap (SNS_RES.SEQ k ch) 1
  let base := if bitOf (s.get SNS_STAT.SETTLED) k then 0 else 2
  let s := { s with sns := { s.sns with base := mapInsert (mapErase s.sns.base (snsKey k ch)) (snsKey k ch) base } }
  s.addWrap (SNS_CNT.COUNT k) 1

/-- An urgent result is reported (R446), and a valid one counts in the comparators of its channel (R453). -/
def convReport (k ch start code : Nat) (ovr urgent : Bool) (s : State) : State :=
  let valid := s.snsValid k ch
  let s :=
    if urgent then
      let s := ((s.putB (SNS_URES.VALID k) valid).putB (SNS_URES.OVR k) ovr).put (SNS_URES.CH k) ch
      snsEvent SNS_EVT.URG_DONE 11 (s.put (SNS_URES.CODE k) code)
    else s
  if valid then
    s.each (List.range 64) fun s w =>
      if s.bit (SNS_WC_CFG.EN w) ∧ s.get (SNS_WC_CFG.CONV w) = k ∧ s.get (SNS_WC_CFG.CH w) = ch then compResult w start code s
      else s
  else s

/-- The slot in progress on converter k ends with a raw value (R432, R437, R438, R441, R446). -/
def convComplete (k raw : Nat) (s : State) : State :=
  match (s.sconv k).cur with
  | none => s
  | some slot =>
    let code := s.snsCode k raw
    let ovr := raw == 0 || raw == 16383
    let s := convStore k slot.ch code ovr s
    convReport k slot.ch slot.start code ovr slot.urgent (senseUse k slot.ch code (senseCheck k slot.chk slot.start code s))

/-- The blame on a pair's failure (R450): 1 or 2 for the first or second converter, 3 undetermined. For pair 01 converter 3
gives its VIM_A code of the same slot. -/
def State.pairBlame (s : State) (pair : Nat) : Nat :=
  let bad (k : Nat) : Bool := bitOf (s.get SNS_STAT.REF_BAD) k
  if pair = 0 then
    match (s.sconv 0).pair, (s.sconv 1).pair, (s.sconv 3).pair with
    | some (x, a), some (_, b), some (y, c) =>
      if !s.snsOn 3 || bad 3 || x != y then 3
      else if s.apart a c && !s.apart b c then 1
      else if s.apart b c && !s.apart a c then 2
      else 3
    | _, _, _ => 3
  else if bad 2 && !bad 3 then 1
  else if bad 3 && !bad 2 then 2
  else 3

/-- Pair's failed bit and BLAME field. -/
def pairFields (pair : Nat) : Fld × Fld :=
  if pair = 0 then (SNS_STAT.PAIR01_BAD, SNS_STAT.BLAME01) else (SNS_STAT.PAIR23_BAD, SNS_STAT.BLAME23)

/-- A pair fails when it has disagreed in NFAIL consecutive check periods (R450). -/
def pairFail (pair : Nat) (s : State) : State :=
  let (f, b) := pairFields pair
  if !s.bit f ∧ s.get SNS_CHK.NFAIL ≤ (s.sconv (2 * pair)).dis then
    (snsEvent SNS_EVT.PLAUS 8 ((s.put f 1).put b (s.pairBlame pair))).pulse 14
  else s

/-- A failed pair recovers when it has agreed in NFAIL consecutive check periods (R450, R451). -/
def pairRecover (pair : Nat) (s : State) : State :=
  let (f, b) := pairFields pair
  if s.bit f ∧ s.get SNS_CHK.NFAIL ≤ (s.sconv (2 * pair)).agr then
    snsEvent SNS_EVT.PLAUS 8 ((s.put f 0).put b 0)
  else s

/-- Converter k's reference has settled (R440, R441): time passes to the end of its settling time. -/
def refSettled (k : Nat) (s : State) : State :=
  match (s.sconv k).settle with
  | none => s
  | some t =>
    let s := s.advanceTo (BitVec.ofNat 64 t)
    let s := s.setSconv k { s.sconv k with settle := none }
    snsEvent SNS_EVT.SETTLED 10 (s.put SNS_STAT.SETTLED (setBitN (s.get SNS_STAT.SETTLED) k))

/-- Time passes to the base tick at which the slot in progress on converter k ends (R432). -/
def slotEnd (k : Nat) (s : State) : State :=
  match (s.sconv k).cur with
  | none => s
  | some h => s.advanceTo (BitVec.ofNat 64 ((h.start / 100 + 1) * 100))

/-! ### Register writes -/

/-- A write of SNS_URG[k].CH (R445). -/
def urgentWrite (k ch : Nat) (s : State) : State :=
  let h := s.sconv k
  if snsChannels k ≤ ch then s.put SNS_EVT.URG_BAD 1
  else if 4 ≤ h.urg.length then s.put SNS_EVT.URG_OVF 1
  else (s.setSconv k { h with urg := h.urg ++ [ch] }).put (SNS_URG.QD k) (h.urg.length + 1)

/-- A write of SNS_CFG[k] (R440): the reference settles for 20 µs, or 50 µs for EXT. -/
def snsCfgWrite (k : Nat) (v : Word) (s : State) : State :=
  let old := s.rd (SNS_CFG k)
  let s := storeReg (SNS_CFG k) v s
  if s.rd (SNS_CFG k) = old then s
  else
    let l := if s.get (SNS_CFG.REF k) = 1 then 40000 else 16000
    (s.setSconv k { s.sconv k with settle := some (s.now + l) }).put SNS_STAT.SETTLED
      (clearBitN (s.get SNS_STAT.SETTLED) k)

/-- A write of SNS_CTRL: setting an EN bit restarts that converter's scan and pattern. -/
def snsCtrlWrite (v : Word) (s : State) : State :=
  let old := s.get SNS_CTRL.EN
  let s := storeReg SNS_CTRL v s
  s.each [0, 1, 2, 3] fun s k =>
    let h := s.sconv k
    if !s.snsOn k then s.setSconv k { h with cur := none }
    else if bitOf old k then s
    else s.setSconv k { h with last := none, ptr := 0 }

/-- A write of SNS_WC_CFG[w] or SNS_WC_BAND[w] (R456). -/
def compWrite (w : Nat) (band : Bool) (v : Word) (s : State) : State :=
  let old := s
  let s := storeReg (if band then SNS_WC_BAND w else SNS_WC_CFG w) v s
  let lo := s.get (SNS_WC_BAND.LO w)
  let hi := s.get (SNS_WC_BAND.HI w)
  let s :=
    if hi < lo ∨ hi < lo + 2 * s.get (SNS_WC_CFG.HYST w) then
      (if band then s.wr (SNS_WC_BAND w) (old.rd (SNS_WC_BAND w))
       else s.put (SNS_WC_CFG.HYST w) (old.get (SNS_WC_CFG.HYST w)))
    else s
  (s.put (SNS_WC_STAT.OUT w) 0).put (SNS_WC_STAT.FCNT w) 0

/-- Is a write of SNS_PT_CTL ignored (R668)? Only a write with EN = 1 is. -/
def State.testCurrentBad (s : State) (v : Word) : Bool :=
  let k := fldGet v 25 24
  let ch := fldGet v 21 16
  let internal := (decide (k ≤ 1) && (ch == 22 || ch == 23)) || (k == 2 && (ch == 41 || ch == 42)) ||
    (k == 3 && (ch == 6 || ch == 7 || ch == 9 || ch == 10 || ch == 11))
  let v12 := (k == 2 && ch == 40) || (k == 3 && ch == 0)
  fldGet v 31 31 == 1 &&
    (s.fsState != 0 || internal || decide (snsChannels k ≤ ch) || (fldGet v 30 30 == 1 && v12))

/-- A write of SNS_PT_CTL (R668). -/
def testCurrentWrite (v : Word) (s : State) : State :=
  if s.testCurrentBad v then s.put SNS_EVT.URG_BAD 1 else storeReg SNS_PT_CTL v s

/-- Bits of the scan masks that name channels of converter k. -/
def maskBits (k : Nat) (hi : Bool) : Nat :=
  let m := 2 ^ snsChannels k - 1
  if hi then m / 2 ^ 32 else m % 2 ^ 32

/-- The duty windows of the comparator whose registers lie at offset a follow TS (R455). -/
def compCatch (a : Nat) (s : State) : State :=
  if SNS_WC_CFG 0 ≤ a ∧ a < SNS_WC_CFG 64 then compTo ((a - SNS_WC_CFG 0) / 0x10) s.now s else s

/-- A write in the SNS block. -/
def snsBlockWrite (a : Nat) (v : Word) (s : State) : State :=
  let k := (a - SNS_CFG 0) / 0x400
  let o := (a - SNS_CFG 0) % 0x400
  let w := (a - SNS_WC_CFG 0) / 0x10
  if a = SNS_CTRL then snsCtrlWrite v s
  else if a = SNS_PRIV then
    (if (List.range 8).all fun i => decide (fldGet v (4 * i + 3) (4 * i) ≤ 6) then storeReg a v s else s)
  else if a = SNS_PT_CTL then testCurrentWrite v s
  else if SNS_CFG 0 ≤ a ∧ a < SNS_CFG 4 then
    (if o = 0 then snsCfgWrite k v s
     else if o = 4 then storeReg a (v &&& BitVec.ofNat 32 (maskBits k false)) s
     else if o = 8 then storeReg a (v &&& BitVec.ofNat 32 (maskBits k true)) s
     else if o = 0x10 then urgentWrite k (fldGet v 5 0) s
     else storeReg a v s)
  else if SNS_WC_CFG 0 ≤ a ∧ a < SNS_WC_CFG 64 ∧ (a - SNS_WC_CFG 0) % 0x10 = 0 then compWrite w false v s
  else if SNS_WC_CFG 0 ≤ a ∧ a < SNS_WC_CFG 64 ∧ (a - SNS_WC_CFG 0) % 0x10 = 4 then compWrite w true v s
  else if SNS_WC_CFG 0 ≤ a ∧ a < SNS_WC_CFG 64 ∧ (a - SNS_WC_CFG 0) % 0x10 = 8 then compWinWrite w v s
  else storeReg a v s

end Sys2Proof.Machine
end

