-- ==== Sys2Proof/Machine/Views.lean ====
section
/-! DEFINITION. Machine/Views.lean: the values that registers of the blocks read as where they are not simply stored: mirrors
and counts of other state. -/

namespace Sys2Proof.Machine

/-- A word with field f set to v. -/
def Fld.set (f : Fld) (v : Nat) (w : Word) : Word := fldSet w f.hi f.lo v

/-- Index of offset a in an array of registers, when a lies in it. -/
def indexIn (base stride n a : Nat) : Option Nat :=
  if base ≤ a ∧ (a - base) % stride = 0 ∧ (a - base) / stride < n then some ((a - base) / stride) else none

namespace State

/-- VL_STAT (R28, R31, R400). -/
def viewVlStat (s : State) (w : Word) : Word :=
  let l := s.linksTrained
  let g := s.locked && s.bit VL_STAT.CFG_COMMITTED && l && decide (s.pst.c0.length ≤ 8)
  VL_STAT.C0_GUARANTEED.set g.toNat (VL_STAT.LINKS_TRAINED.set l.toNat (VL_STAT.CKF_LOCKED.set s.locked.toNat w))

/-- The identity registers, from eFuse (R28). -/
def viewId (s : State) (w : Word) : Word := VL_ID.STEP.set s.efuse.step (VL_ID.INST.set s.inst w)

/-- CELL_STAT[c] (R80, R100, R105). -/
def viewCellStat (s : State) (c : Nat) (w : Word) : Word :=
  (CELL_STAT.SAFE c).set (s.cellSafe c).toNat
    ((CELL_STAT.NBR_UNC c).set (s.nbrUnc c) ((CELL_STAT.MAP_PEND c).set (s.mapPend c).toNat w))

/-- RGN_HEALTH[n] (R119). -/
def viewHealth (s : State) (n : Nat) (w : Word) : Word :=
  if n = 0 then w else (RGN_HEALTH.NH n).set (s.healthy n) ((RGN_HEALTH.NA n).set (s.assigned n) w)

/-- XPH_STAT (R160, R161). -/
def viewXph (s : State) (w : Word) : Word :=
  XPH_STAT.NAVAIL.set s.pool.length (XPH_STAT.NACT.set s.actives.length w)

/-- CBSE_STAT (R488). -/
def viewCbse (s : State) (w : Word) : Word :=
  CBSE_STAT.OVR.set s.overrideOn.toNat
    (CBSE_STAT.NFATAL.set (bitsOf (s.cbseStatus &&& fatalMask) 64).length w)

/-- SKID_SUM: regions with LEVEL of 1 or more, and regions whose request is 1 or more. -/
def viewSkidSum (s : State) (w : Word) : Word :=
  let rs := s.skidRegions
  SKID_SUM.NESC.set (rs.filter fun n => s.get (SKID_RSTAT.LEVEL n) != 0).length
    (SKID_SUM.NSTR.set (rs.filter fun n => s.skidRequest n != 0).length w)

/-- SKID_PEAK[n] (R335): a standing request counts as seen. -/
def viewSkidPeak (s : State) (n : Nat) (w : Word) : Word :=
  (SKID_PEAK.DEPTH n).set (max (s.get (SKID_PEAK.DEPTH n)) (s.skidRequest n)) w

/-- SNS_RES[k][ch] (R441, R451). -/
def viewRes (s : State) (k ch : Nat) (w : Word) : Word :=
  if ch < snsChannels k then
    (SNS_RES.VALID k ch).set (s.snsValid k ch).toNat ((SNS_RES.NVC k ch).set (s.snsCause k ch) w)
  else w

/-- SNS_URES[k] (R446): VALID as of a result of its channel (R441, R449, R451). -/
def viewUres (s : State) (k : Nat) (w : Word) : Word :=
  (SNS_URES.VALID k).set (s.bit (SNS_URES.VALID k) && s.snsValid k (s.get (SNS_URES.CH k))).toNat w

/-- REIN_HWREQ0[g] (R339). -/
def viewHwreq (s : State) (g : Nat) (w : Word) : Word :=
  (REIN_HWREQ0.SAFE g).set s.reinSafe.toNat
    ((REIN_HWREQ0.SKID g).set (s.reinSkid g) ((REIN_HWREQ0.LAME g).set (s.reinLame g) w))

/-- Registers of arrays whose value is a mirror or a count. -/
def viewArray (s : State) (a : Nat) (w : Word) : Word :=
  match indexIn (CELL_STAT 0) 0x40 3072 a with
  | some c => s.viewCellStat c w
  | none =>
  match indexIn (CELL_TGT 0) 0x40 3072 a with
  | some c => (CELL_TGT.FCODE_BASE c).set (s.fcodeBase c) w
  | none =>
  match indexIn (CELL_EXQ 0) 0x40 3072 a with
  | some c => (CELL_EXQ.EXQ c).set ((s.chid c).exqf / 160) w
  | none =>
  match indexIn (RGN_HEALTH 0) 0x100 256 a with
  | some n => s.viewHealth n w
  | none =>
  match indexIn (PG_STAT 0) 0x40 16 a with
  | some j => (PG_STAT.BOUND j).set (s.pgBound j).toNat w
  | none =>
  match indexIn (CPLR_EP_CFG_SB 0) 8 3 a with
  | some k => (CPLR_EP_CFG_SB.ROLE k).set (s.epRole (17 + k)) w
  | none =>
  match indexIn (CPLR_EP_STAT 0) 8 20 a with
  | some e => (CPLR_EP_STAT.TRAINED e).set (s.trained e).toNat w
  | none =>
  match indexIn (REIN_HWREQ0 0) 0x20 64 a with
  | some g => s.viewHwreq g w
  | none =>
  match indexIn (SKID_CK 0) 4 72 a with
  | some h => (SKID_CK.SRC h).set (s.skidLines h).2 ((SKID_CK.DEPTH h).set (s.skidLines h).1 w)
  | none =>
  match indexIn (SKID_PEAK 0) 0x40 256 a with
  | some n => s.viewSkidPeak n w
  | none =>
  match indexIn (PWR_RGN_STAT 0) 0x80 256 a with
  | some n => (PWR_RGN_STAT.K n).set (max 0 (s.kOf n)).toNat w
  | none =>
  match indexIn (AGE_RGN1 0) 0x10 256 a with
  | some n => (AGE_RGN1.RUN n).set (s.cpmRuns n).toNat w
  | none =>
  match indexIn (SNS_URES 0) 0x400 4 a with
  | some k => s.viewUres k w
  | none =>
  if SNS_RES 0 0 ≤ a ∧ a < SNS_RES 4 0 then
    (if (a - SNS_RES 0 0) % 0x400 < 192 then s.viewRes ((a - SNS_RES 0 0) / 0x400) ((a - SNS_RES 0 0) % 0x400 / 4) w else w)
  else w

/-- The value that offset a of a block reads as, without the effects of a read. -/
def blockView (s : State) (a : Nat) : Word :=
  let w := s.rd a
  if a = VL_ID then s.viewId w
  else if a = VL_STAT then s.viewVlStat w
  else if a = TIM_TS_LO then BitVec.ofNat 32 s.now
  else if a = TIM_TS_HI then BitVec.ofNat 32 (s.now / 2 ^ 32)
  else if a = TIM_TS_ADJ then TIM_TS_ADJ.BUSY.set (s.tim.slewLeft != 0).toNat w
  else if a = CBSE_STAT then s.viewCbse w
  else if a = XPH_STAT then s.viewXph w
  else if a = SNS_STAT then SNS_STAT.RUN.set (if s.locked then s.get SNS_CTRL.EN else 0) w
  else if a = TTB_STAT then TTB_STAT.QDEPTH.set s.ttb.acts.length w
  else if a = SKID_SUM then s.viewSkidSum w
  else if a = PWR_PKG_EFF then PWR_PKG_EFF.P.set s.pkgCap w
  else if a = CPLR_ID then CPLR_ID.INST.set s.inst w
  else if a = CPLR_EPOCH then BitVec.ofNat 32 s.epoch
  else s.viewArray a w

end State

end Sys2Proof.Machine
end

