-- ==== Sys2Proof/Machine/FirmwareOps.lean ====
section
/-! DEFINITION. Machine/FirmwareOps.lean: firmware cores, flash, images, boot, update, watchdogs and heartbeats
(spec/17_firmware.md). -/

namespace Sys2Proof.Machine

/-! ### Flash and the boot directory (R532..R534) -/

namespace State

/-- A byte of the flash; erased bytes read 0xFF. -/
def flashByte (s : State) (a : Nat) : Byte := mapGet 0xFF s.fw.flash a

/-- n bytes of the flash from offset a. -/
def flashRead (s : State) (a n : Nat) : List Byte := (List.range n).map fun k => s.flashByte (a + k)

end State

/-- Erase n bytes of the flash from offset a. -/
def flashErase (a n : Nat) (s : State) : State :=
  { s with fw := { s.fw with flash := s.fw.flash.filter fun e => decide (e.1 < a) || decide (a + n ≤ e.1) } }

/-- Program bytes into the flash from offset a. -/
def flashWrite (a : Nat) (bs : List Byte) (s : State) : State :=
  { s with fw := { s.fw with flash := bs.zipIdx.foldl (fun f e => mapSet 0xFF f (a + e.2) e.1) s.fw.flash } }

/-- The fields of a boot directory (R533): ACTIVE slot, STATE (0 CONFIRMED, 1 TRIAL, 2 FALLBACK), TRIES. -/
structure BootDir where
  seq : Nat
  active : Nat
  state : Nat
  tries : Nat
  deriving DecidableEq, Repr

/-- Copy k of the directory, when its MAGIC and CRC are good. -/
def State.dirCopy (s : State) (k : Nat) : Option BootDir :=
  let b := s.flashRead (0x8000 * k) 16
  let n (o w : Nat) : Nat := leBytes ((b.drop o).take w)
  if n 0 4 = 0x44494C56 ∧ n 12 4 = (crc32 (b.take 12)).toNat then some ⟨n 4 4, n 8 1 % 2, n 9 1, n 10 1⟩ else none

/-- SEQ a is newer than SEQ b (R533). -/
def seqNewer (a b : Nat) : Bool :=
  let d := (a + 2 ^ 32 - b) % 2 ^ 32
  decide (1 ≤ d) && decide (d < 2 ^ 31)

/-- The directory and the copy that holds it; slot A, CONFIRMED, when neither copy is good (R533). -/
def State.directory (s : State) : Option Nat × BootDir :=
  match s.dirCopy 0, s.dirCopy 1 with
  | some a, some b => if seqNewer b.seq a.seq then (some 1, b) else (some 0, a)
  | some a, none => (some 0, a)
  | none, some b => (some 1, b)
  | none, none => (none, ⟨0, 0, 0, 0⟩)

/-- SEC of instance 0 writes a directory into the copy that is not the directory (R534); FW_STAT.TRIAL follows. -/
def dirWrite (active state tries : Nat) (s : State) : State :=
  let d := s.directory
  let base := if d.1 = some 0 then 0x8000 else 0
  let b := toLe 4 0x44494C56 ++ toLe 4 ((d.2.seq + 1) % 2 ^ 32) ++
    [BitVec.ofNat 8 active, BitVec.ofNat 8 state, BitVec.ofNat 8 tries, 0]
  let s := flashWrite base (b ++ toLe 4 (crc32 b).toNat) (flashErase base 0x8000 s)
  s.putB FW_STAT.TRIAL (state == 1)

/-! ### Images (R535, R536) -/

/-- Flash offset of slot A (0) or B (1). -/
def slotBase (k : Nat) : Nat := 0x10000 + 0x800000 * k

/-- A field of n bytes at offset o of a header. -/
def hdrField (h : List Byte) (o n : Nat) : Nat := leBytes ((h.drop o).take n)

/-- Section i of a header: TYPE, OFFSET, LENGTH, LOAD. -/
def hdrSection (h : List Byte) (i : Nat) : Nat × Nat × Nat × Nat :=
  (hdrField h (72 + 16 * i) 1, hdrField h (76 + 16 * i) 4, hdrField h (80 + 16 * i) 4, hdrField h (84 + 16 * i) 4)

/-- The sections of a header. -/
def hdrSections (h : List Byte) : List (Nat × Nat × Nat × Nat) := (List.range (min (hdrField h 21 1) 12)).map (hdrSection h)

/-- The memories that a section TYPE loads into, and the core address at which they begin (R530, R535). -/
def secMems (t : Nat) : List Nat × Nat :=
  if t < 3 then ([t], 0) else if t = 3 then ([3, 4, 5, 6, 7, 8, 9, 10], 0) else ([11], 0x10000000)

/-- A section lies within the body and loads within the memory of its TYPE (R536). -/
def secOk (bodyLen : Nat) (x : Nat × Nat × Nat × Nat) : Bool :=
  let (t, off, len, load) := x
  let (ms, base) := secMems t
  decide (t ≤ 4) && decide (off + len ≤ bodyLen) && decide (base ≤ load) &&
    ms.all fun m => decide (load + len ≤ base + memSize m)

/-- The largest body: 8 MiB less the header. -/
def bodyMax : Nat := 0x800000 - 512

/-- The checks of R536 on a header, in their order: constants, key, signature, anti-rollback. -/
def headerChecks (ef : Efuse) (h : List Byte) : List Bool :=
  let slot := hdrField h 20 1
  let key := (h.drop 264).take 96
  let sig := (h.drop 416).take 96
  [hdrField h 0 4 == 0x57464C56 && hdrField h 4 2 == 0x0100 && hdrField h 6 2 == 512 && hdrField h 22 2 == 0 &&
      ((h.drop 360).take 56).all (· == 0),
    decide (slot < 4) && sha384 key == mapGet 0 ef.keyHash slot && !bitOf ef.revoked slot,
    ecdsaVerify (sha384 (h.take 416)) (beBytes (key.take 48)) (beBytes (key.drop 48)) (beBytes (sig.take 48))
      (beBytes (sig.drop 48)),
    decide (ef.fused ≤ hdrField h 8 4)]

/-- The first failing check of R536, counted from 1; 0 for a valid image. -/
def imageFault (ef : Efuse) (h body : List Byte) : Nat :=
  let n := hdrField h 12 4
  let nsec := hdrField h 21 1
  let cs := headerChecks ef h ++
    [decide (n ≤ bodyMax) && sha384 (body.take n) == beBytes ((h.drop 24).take 48),
      decide (1 ≤ nsec) && decide (nsec ≤ 12) && (hdrSections h).all (secOk n)]
  match cs.findIdx? (!·) with
  | some k => k + 1
  | none => 0

namespace State

/-- The header in slot k. -/
def slotHeader (s : State) (k : Nat) : List Byte := s.flashRead (slotBase k) 512

/-- The body in slot k, as long as its header says and the slot allows. -/
def slotBody (s : State) (k : Nat) : List Byte :=
  s.flashRead (slotBase k + 512) (min bodyMax (hdrField (s.slotHeader k) 12 4))

/-- The first failing check of the image in slot k. -/
def slotFault (s : State) (k : Nat) : Nat := imageFault s.efuse (s.slotHeader k) (s.slotBody k)

/-- The slot that is not ACTIVE: the staged slot (R543). -/
def stagedSlot (s : State) : Nat := 1 - s.directory.2.active

/-! ### Cores and their memories -/

/-- Key of byte o of memory m in `ram`. -/
def ramKey (m o : Nat) : Nat := 2 ^ 20 * m + o

/-- A byte of a core memory or of the commons. -/
def ramByte (s : State) (m o : Nat) : Byte := mapGet 0 s.ram (ramKey m o)

/-- Store bytes in memory m from offset o. -/
def ramPut (s : State) (m o : Nat) (bs : List Byte) : State :=
  { s with ram := bs.zipIdx.foldl (fun r e => mapSet 0 r (ramKey m (o + e.2)) e.1) s.ram }

end State

/-- Write the sections of an image into the memories that p selects (R535, R537). -/
def loadSections (p : Nat → Bool) (h body : List Byte) (s : State) : State :=
  s.each ((hdrSections h).filter (secOk (hdrField h 12 4))) fun s x =>
    let (t, off, len, load) := x
    let (ms, base) := secMems t
    s.each (ms.filter p) fun s m => s.ramPut m (load - base) ((body.drop off).take len)

/-- The entry address of core i: the LOAD of its first section (R537). -/
def entryOf (h : List Byte) (i : Nat) : Option Nat :=
  ((hdrSections h).find? fun x => x.1 == (if i < 3 then i else 3)).map fun x => x.2.2.2

/-- Core i goes on at its entry address; without a section of its own the address is not stated. -/
def coreEntry (h : List Byte) (i : Nat) (s : State) : State :=
  let (pc, s) : Word × State :=
    match entryOf h i with
    | some a => (BitVec.ofNat 32 a, s)
    | none => s.drawFree
  s.setCoreSt i { s.coreSt i with pc := pc }

/-- Core i is released at its entry address. -/
def releaseCore (h : List Byte) (i : Nat) (s : State) : State :=
  let s := (coreEntry h i s).put (FW_CORE.STATE i) 1
  wdogStart i (s.setCoreSt i { s.coreSt i with reload := false })

/-- An image found valid runs on this instance (R537): the other cores are released, SEC goes on in its own section, and
FW_STAT tells of the image. -/
def imageRuns (h : List Byte) (slot : Nat) (s : State) : State :=
  let s := coreEntry h 0 (s.each ((List.range 11).drop 1) fun s i => releaseCore h i s)
  let s := ((s.put FW_STAT.BOOT 3).put FW_STAT.SLOT slot).put FW_STAT.SVN (hdrField h 8 4 % 256)
  s.wrN FW_VER (hdrField h 16 4)

/-- The instance stays in FAIL (R540): its ROM configures channels 0 and 1. -/
def bootFail (s : State) : State :=
  ({ s.put FW_STAT.BOOT 4 with fw := { s.fw with loading := none } }.put (MCH_CH_CFG.RCV 0) 0).put (MCH_CH_CFG.RCV 1) 11

/-- The ROM of instance 0 checks the header in a slot and, when it is good, reads and hashes the body and writes its
sections into the memories (R537, step 2). -/
def romLoad (slot : Nat) (second : Bool) (s : State) : State :=
  let s := { s.put FW_STAT.BOOT 1 with fw := { s.fw with loading := some (slot, second) } }
  if (headerChecks s.efuse (s.slotHeader slot)).all id then
    loadSections (fun _ => true) (s.slotHeader slot) (s.slotBody slot) s
  else s

/-- SEC leaves reset and runs its ROM (R537, R539): instance 0 chooses the slot, the others wait for a push. -/
def romBoot (s : State) : State :=
  let s := (s.put (FW_CORE.STATE 0) 1).put FW_STAT.BOOT 0
  let s := wdogStart 0 (s.setCoreSt 0 { s.coreSt 0 with reload := false })
  if s.inst = 0 then
    let d := s.directory.2
    let spent := d.state = 1 ∧ d.tries = 0
    let slot := if spent then 1 - d.active else d.active
    let s := if spent then dirWrite slot 2 0 s else s.putB FW_STAT.TRIAL (d.state == 1)
    romLoad slot false s
  else { s with fw := { s.fw with pushFails := 0 } }

/-- The memories that a load wrote are zeroed (R537, step 4). -/
def unload (h : List Byte) (s : State) : State :=
  let ms := ((hdrSections h).filter (secOk (hdrField h 12 4))).flatMap fun x => (secMems x.1).1
  { s with ram := s.ram.filter fun e => !ms.contains (e.1 / 2 ^ 20) }

/-- The body has been hashed and the image checked: it is pushed and runs, or the other slot is tried (R537, R540). -/
def imageVerified (s : State) : State :=
  match (if s.coreState 0 = 1 then s.fw.loading else none) with
  | none => s
  | some (slot, second) =>
    let h := s.slotHeader slot
    if s.slotFault slot = 0 then
      imageRuns h slot { s with fw := { s.fw with loading := none },
                                out := { s.out with pushes := s.out.pushes ++ [h ++ s.slotBody slot] } }
    else
      let s := unload h s
      if second then bootFail s else romLoad (1 - slot) true s

/-- An instance 1..3 receives an image with the slot it came from and whether the directory is in TRIAL (R539). -/
def imagePush (slot : Nat) (trial : Bool) (img : List Byte) (s : State) : State :=
  if s.inst = 0 ∨ s.get FW_STAT.BOOT ≠ 0 ∨ s.coreState 0 ≠ 1 then s
  else
    let h := img.take 512
    let body := img.drop 512
    if imageFault s.efuse h body = 0 then
      let s := { s with fw := { s.fw with pushed := img.zipIdx.foldl (fun f e => mapSet 0xFF f e.2 e.1) [] } }
      (imageRuns h slot (loadSections (fun _ => true) h body s)).putB FW_STAT.TRIAL trial
    else if s.fw.pushFails = 0 then
      { s with fw := { s.fw with pushFails := 1 }, out := { s.out with pushFails := s.out.pushFails ++ [s.now] } }
    else bootFail { s with fw := { s.fw with pushFails := 2 } }

/-! ### Firmware reset (R542) -/

/-- Core i is held: its store buffer and reservation are gone (R574). -/
def holdCore (i : Nat) (s : State) : State :=
  let s := (coreLeave i s).put (FW_CORE.STATE i) 0
  s.setCoreSt i { s.coreSt i with buf := [], resv := none }

/-- The registers of core i that a firmware reset resets (R542). -/
def coreRegs (i : Nat) : List Nat := [FW_WDOG i, FW_KICK i, FW_CORE i, DBG_CTRL i, DBG_STAT i, DBG_PC i, DBG_APBASE i]

/-- A firmware reset (R542, R574, R592, R623): cores held, memories zeroed, caches and store buffers discarded; then the
boot runs. RESETS counts it after the register's own reset (R554). -/
def firmwareReset (s : State) : State :=
  let s := s.each (List.range 11) fun s i => holdCore i s
  let s := s.each (List.range 11) fun s i => s.each (coreRegs i) fun s a => s.wr a (regReset a)
  let s := s.each (List.range 11) fun s i => s.incSat (FW_CORE.RESETS i)
  romBoot { s with ram := [], cache := [], core := [], yutre := [],
                   fw := { s.fw with loading := none, resetDue := false } }

/-- A firmware reset caused by a watchdog (R547, R549): in TRIAL it uses up a try. -/
def watchdogReset (s : State) : State :=
  let d := s.directory.2
  let s := if s.inst = 0 ∧ d.state = 1 then dirWrite d.active 1 (d.tries - 1) s else s
  firmwareReset (s.put HOLD_RCAUSE.WDOG 1)

/-! ### Watchdogs and heartbeats (R549, R550) -/

/-- A write of FW_KICK[i] by core i. -/
def kickCore (i : Nat) (s : State) : State := wdogStart i s

/-- The watchdog of core i, while it counts, has counted TO ms: time passes to that (R549). -/
def watchdogExpiry (i : Nat) (s : State) : State :=
  if s.wdogCounts i then
    let s := s.advanceTo (BitVec.ofNat 64 (s.wdogEnd i))
    let s := holdCore i (((s.put (FW_WDOG.EXP i) 1).pulse 41).ring kVL 1)
    if i = 0 then watchdogReset s else s.setCoreSt i { s.coreSt i with reload := true }
  else s

/-- The image from which SEC reloads: the ACTIVE slot, or on instances 1..3 the image pushed to them. -/
def State.runningImage (s : State) : List Byte × List Byte :=
  if s.inst = 0 then (s.slotHeader s.directory.2.active, s.slotBody s.directory.2.active)
  else
    let g (o n : Nat) : List Byte := (List.range n).map fun k => mapGet 0xFF s.fw.pushed (o + k)
    let h := g 0 512
    (h, g 512 (min bodyMax (hdrField h 12 4)))

/-- SEC has checked the DIGEST again and reloads core i, which its watchdog held (R549). -/
def reloadDone (i : Nat) (s : State) : State :=
  if (s.coreSt i).reload then
    let (h, body) := s.runningImage
    if sha384 body = beBytes ((h.drop 24).take 48) then
      releaseCore h i ((loadSections (· == i) h body s).incSat (FW_CORE.RESETS i))
    else watchdogReset s
  else s

/-- A write of FW_HB, by SCH (R550). -/
def hbWrite (v : Word) (s : State) : State :=
  let s := storeReg FW_HB v s
  { s.put FW_STAT.FW_OK 1 with fw := { s.fw with hbAt := s.now } }

/-- 3 ms have passed without a write of FW_HB: time passes to that. -/
def hbStale (s : State) : State :=
  if s.bit FW_STAT.FW_OK then (s.advanceTo (BitVec.ofNat 64 (s.fw.hbAt + 2400000))).put FW_STAT.FW_OK 0 else s

/-- A host period ends (R550). -/
def hostPeriodEnd (s : State) : State :=
  if s.fw.kick then { s with fw := { s.fw with kick := false } }
  else
    let s := s.incSat FW_HOST_HB.MISS
    if 3 ≤ s.get FW_HOST_HB.MISS ∧ !s.bit FW_STAT.HOST_LOST then
      smbLatch (hostUnbind ((s.put FW_STAT.HOST_LOST 1).ring kVL 2))
    else s

/-- The host periods up to the TS that stands (R550, R58, R60): every period that has ended since the last look ends here;
after 256 without a kick another one changes nothing. -/
def hostTo (s : State) : State :=
  let l := 800000 * s.get FW_HOST_HB.PERIOD
  let n := s.now / l - s.fw.hostAt / l
  let s := { s with fw := { s.fw with hostAt := s.now } }
  s.each (List.range (min n 256)) fun s _ => hostPeriodEnd s

/-- The host kicks. -/
def hostKick (s : State) : State :=
  let s := hostTo s
  let s := { s.put FW_HOST_HB.MISS 0 with fw := { s.fw with kick := true } }
  if s.bit FW_STAT.HOST_LOST then (s.put FW_STAT.HOST_LOST 0).ring kVL 2 else s

/-! ### Update (R543..R548) -/

/-- Is the quiet period of R544 over, with no Class 0 condition standing? -/
def State.settled (s : State) : Bool := s.class0Bits == 0 && decide (s.fw.quiet + 8000000 ≤ s.now)

/-- Activation starts (R546), at the end of the quiet period, to which time passes (R544). -/
def activationStart (s : State) : State :=
  if s.inst = 0 ∧ s.bit FW_ACT.PEND ∧ s.class0Bits = 0 then
    let s := s.advanceTo (BitVec.ofNat 64 (s.fw.quiet + 8000000))
    let s := (dirWrite s.stagedSlot 1 3 s).ring kVL 3
    { (s.put FW_ACT.PEND 0).put FW_ACT.DEFERRED 0 with
      fw := { s.fw with staged := none, verified := none, resetDue := true } }
  else s

/-- The firmware reset that an activation orders: first of instances 1..3, then of instance 0 itself; or the one that
instance 0 orders of this instance (R546). -/
def orderedReset (s : State) : State :=
  if s.inst = 0 then
    (if s.fw.resetDue then firmwareReset { s with out := { s.out with fwOrders := s.out.fwOrders ++ [s.now] } } else s)
  else firmwareReset s

/-- STAGE_BEGIN with a total length. -/
def stageBegin (len : Nat) (s : State) : State :=
  if s.inst ≠ 0 then s.reply stBADPARAM []
  else if s.bit FW_ACT.PEND ∨ s.fw.resetDue then s.reply stBUSY []
  else if 0x800000 < len then s.reply stBADPARAM []
  else
    let s := flashErase (slotBase s.stagedSlot) 0x800000 s
    { s with fw := { s.fw with staged := some len, verified := none } }.reply stOK []

/-- A host-fabric error of an access by SCH or SEC (R500, R621); R500 names no unit for it, so UNIT is not stated. -/
def fabricError (addr : Nat) (s : State) : State :=
  let (w, s) := s.drawFree
  dmaError (w.toNat % 5) addr s

/-- STAGE_DATA of n bytes from a host address at a slot offset; none: the host fabric failed. -/
def stageData (off n addr : Nat) (descOk : Bool) (data : Option (List Byte)) (s : State) : State :=
  if s.inst ≠ 0 then s.reply stBADPARAM []
  else
    match s.fw.staged with
    | none => s.reply stNOTREADY []
    | some len =>
      if !descOk ∨ len < off + n then s.reply stBADPARAM []
      else
        match data with
        | none => (fabricError addr s).reply stINTERNAL []
        | some d =>
          let s := flashWrite (slotBase s.stagedSlot + off) (d.take n) s
          { s with fw := { s.fw with verified := none } }.reply stOK []

/-- STAGE_END (R543, R553); in FAIL an OK makes the ROM boot again (R540). -/
def stageEnd (s : State) : State :=
  if s.inst ≠ 0 then s.reply stBADPARAM []
  else
    let s := s.ring kVL 5
    let k := s.stagedSlot
    let f := s.slotFault k
    if f = 0 then
      let h := s.slotHeader k
      let s := { s with fw := { s.fw with verified := some (BitVec.ofNat 32 (hdrField h 16 4), hdrField h 8 4) } }
      (if s.get FW_STAT.BOOT = 4 then romBoot s else s).reply stOK []
    else { s with fw := { s.fw with verified := none } }.reply stBADPARAM [BitVec.ofNat 32 f]

/-- ACTIVATE (R544, R546). -/
def activate (s : State) : State :=
  if s.inst ≠ 0 then s.reply stBADPARAM []
  else if s.bit FW_ACT.PEND then s.reply (if s.bit FW_ACT.DEFERRED then stDEFERRED else stOK) []
  else if s.fw.verified.isNone then s.reply stNOTREADY []
  else
    let s := s.put FW_ACT.PEND 1
    if s.settled then s.reply stOK [] else ((s.put FW_ACT.DEFERRED 1).ring kVL 4).reply stDEFERRED []

/-- CANCEL (R544). -/
def cancelActivation (s : State) : State :=
  if s.inst ≠ 0 then s.reply stBADPARAM [] else ((s.put FW_ACT.PEND 0).put FW_ACT.DEFERRED 0).reply stOK []

/-- CONFIRM (R547): the trial ends, and fuses are blown up to the running image's SVN. -/
def confirm (s : State) : State :=
  if s.inst ≠ 0 then s.reply stBADPARAM []
  else
    let d := s.directory.2
    if d.state = 1 then
      let s := dirWrite d.active 0 d.tries s
      { s with efuse := { s.efuse with fused := max s.efuse.fused (s.get FW_STAT.SVN) } }.reply stOK []
    else s.reply stNOTREADY []

/-! ### Debug windows (R552) -/

/-- Core i stops, or has executed one instruction and stops, at address pc. -/
def haltCore (i : Nat) (pc : Word) (s : State) : State :=
  let s := ((coreLeave i s).put (FW_CORE.STATE i) 2).put (DBG_STAT.HALTED i) 1
  (s.wr (DBG_PC i) pc).setCoreSt i { s.coreSt i with pc := pc }

/-- A write of DBG_CTRL[i], where a core that stops does so at pc: HALT, then RESUME, then STEP. -/
def dbgCtrlWrite (i : Nat) (pc : Word) (v : Word) (s : State) : State :=
  let runs (s : State) : Bool := s.coreState i == 1 || s.coreState i == 3
  let s := if fldGet v 0 0 = 1 ∧ runs s then haltCore i pc s else s
  let s :=
    if fldGet v 1 1 = 1 ∧ s.coreState i = 2 then
      kickCore i ((s.put (FW_CORE.STATE i) 1).put (DBG_STAT.HALTED i) 0)
    else s
  if fldGet v 2 2 = 1 ∧ s.coreState i ≠ 0 then haltCore i pc s else s

/-! ### Reading and writing -/

namespace State

/-- FW_ACT (R544, R545): COND, and the whole milliseconds of quiet period that remain, 10 while a condition stands. -/
def viewFwAct (s : State) : Word :=
  let c := s.class0Bits
  let q := if c = 0 then (s.fw.quiet + 8000000 - s.now) / 800000 else 10
  FW_ACT.QUIET.set q (FW_ACT.COND.set c (s.rd FW_ACT))

/-- FW_STAT (R554). -/
def viewFwStat (s : State) : Word :=
  FW_STAT.FUSED.set s.efuse.fused (FW_STAT.ACT_DEFERRED.set (s.get FW_ACT.DEFERRED) (FW_STAT.FW_OK.set s.fwOk.toNat (s.rd FW_STAT)))

end State

/-- A write in the FW registers: what a watchdog counts by and the host period apply from the write on. -/
def fwWrite (a : Nat) (v : Word) (s : State) : State :=
  if a = FW_HB then hbWrite v s
  else if a = FW_HOST_KICK then hostKick s
  else if a = FW_HOST_HB then storeReg a v (hostTo s)
  else if FW_WDOG 0 ≤ a ∧ a < FW_WDOG 11 then storeReg a v (wdogKeep ((a - FW_WDOG 0) / 4) s)
  else if FW_KICK 0 ≤ a ∧ a < FW_KICK 11 then kickCore ((a - FW_KICK 0) / 4) s
  else storeReg a v s

end Sys2Proof.Machine
end

