-- ==== Sys2Proof/Machine/MailOps.lean ====
section
/-! DEFINITION. Machine/MailOps.lean: Mail Coach (spec/20_mail_coach.md): channels, posts, takes, doorbell words and peer
posts. -/

namespace Sys2Proof.Machine

namespace State

/-- State of channel c (R606): 0 EMPTY, 1 FILLING, 2 FULL. -/
def chState (s : State) (c : Nat) : Nat := s.get (MCH_CH_STAT.STATE c)

/-- Does the requester own channel c, which is FILLING (R606)? -/
def ownsCh (s : State) (req : Requester) (c : Nat) : Bool :=
  s.chState c == 1 && s.get (MCH_CH_STAT.OWNER c) == req.code

/-- Is the requester the receiver of channel c (R610)? -/
def receivesCh (s : State) (req : Requester) (c : Nat) : Bool :=
  let r := s.get (MCH_CH_CFG.RCV c)
  if r = 11 then req.code == 0 else decide (r ≤ 10) && req.code == r + 1

end State

/-- Channel c returns to EMPTY. -/
def chEmpty (c : Nat) (s : State) : State :=
  { (s.put (MCH_CH_STAT.STATE c) 0).put (MCH_CH_STAT.OWNER c) 0 with mch := mapSet 0 s.mch c 0 }

/-- The TS at which channel c will have been FILLING for FILL_TO microseconds (R608). -/
def State.fillEnd (s : State) (c : Nat) : Nat := mapGet 0 s.mch c + 800 * s.get MCH_CFG.FILL_TO

/-- A FILLING channel has been so for FILL_TO microseconds (R608); every access to a channel comes after this (R5). -/
def fillTimeout (c : Nat) (s : State) : State :=
  if s.chState c = 1 ∧ s.fillEnd c ≤ s.now then ((chEmpty c s).put MCH_STAT.FILL_EXP 1).incSat MCH_CNT.FILL_EXP else s

/-- Every fill that is over ends. -/
def fillTimeouts (s : State) : State := s.each (List.range 32) fun s c => fillTimeout c s

/-- A read of MCH_CH_CLAIM[c] (R606, R607): the value returned, and the state after it. -/
def chClaim (req : Requester) (c : Nat) (s : State) : Nat × State :=
  let s := fillTimeout c s
  if s.chState c = 0 ∧ s.bit (MCH_CH_CFG.EN c) then
    (1, { (s.put (MCH_CH_STAT.STATE c) 1).put (MCH_CH_STAT.OWNER c) req.code with mch := mapSet 0 s.mch c s.now })
  else (0, s)

/-- A message stands in channel c (R609, R617): it is FULL, its doorbell bit is set and, when enabled, its source's doorbell
is written; a Class 0 channel is active until then (R615). -/
def chArrive (c sndr esrc : Nat) (s : State) : State :=
  let r := s.get (MCH_CH_CFG.RCV c)
  let s := ((chEmpty c s).put (MCH_CH_STAT.STATE c) 2).put (MCH_CH_STAT.SNDR c) sndr
  let s := ((s.put (MCH_CH_STAT.ESRC c) esrc).wrN (MCH_CH_TS c) s.now32).wrN (MCH_DB r) (setBitN (s.num (MCH_DB r)) c)
  let s := if bitOf (s.num (MCH_DBEN r)) c then s.ring kMCH c else s
  if s.bit (MCH_CH_CFG.C0 c) then s.c0Touch else s

/-- POST (R609). -/
def chPost (req : Requester) (c esrc : Nat) (s : State) : State :=
  if s.ownsCh req c ∧ (esrc = 0 ∨ 608 ≤ esrc) then chArrive c req.code esrc s else s.put MCH_STAT.BADPOST 1

/-- TAKE (R610). -/
def chTake (req : Requester) (c : Nat) (s : State) : State :=
  if s.chState c = 2 ∧ s.receivesCh req c then
    let r := s.get (MCH_CH_CFG.RCV c)
    let e := s.get (MCH_CH_STAT.ESRC c)
    let s := (chEmpty c s).wrN (MCH_DB r) (clearBitN (s.num (MCH_DB r)) c)
    if e = 0 then s else doorbellIn e s
  else s.put MCH_STAT.BADTAKE 1

/-- ABANDON (R606). -/
def chAbandon (req : Requester) (c : Nat) (s : State) : State := if s.ownsCh req c then chEmpty c s else s

/-- A write of MCH_CH_CTL[c]: POST, TAKE and ABANDON, in this order. -/
def chCtlWrite (req : Requester) (c : Nat) (v : Word) (s : State) : State :=
  let s := fillTimeout c s
  let s := if fldGet v 0 0 = 1 then chPost req c (fldGet v 25 16) s else s
  let s := if fldGet v 1 1 = 1 then chTake req c s else s
  if fldGet v 2 2 = 1 then chAbandon req c s else s

/-- A write of MCH_CH_CFG[c] (R611). -/
def chCfgWrite (c : Nat) (v : Word) (s : State) : State :=
  let s := fillTimeout c s
  if s.chState c = 0 then storeReg (MCH_CH_CFG c) v s else s.put MCH_STAT.BADWR 1

/-- A write of slot word w of channel c (R608). -/
def slotWrite (req : Requester) (c w : Nat) (v : Word) (s : State) : State :=
  let s := fillTimeout c s
  if s.ownsCh req c then s.wr (MCH_SLOT c w) v else s.put MCH_STAT.BADWR 1

/-- A write of MCH_DBEN[r] (R612). -/
def dbenWrite (r : Nat) (v : Word) (s : State) : State :=
  (s.wr (MCH_DBEN r) v).each (bitsOf (v &&& s.rd (MCH_DB r)).toNat 32) fun s c => s.ring kMCH c

/-- A write of MCH_PEER: BASE is a multiple of 64. -/
def mchPeerWrite (v : Word) (s : State) : State :=
  let old := s.get MCH_PEER.BASE
  let s := storeReg MCH_PEER v s
  if s.get MCH_PEER.BASE % 64 = 0 then s else s.put MCH_PEER.BASE old

/-- A peer's commit to window WIN has completed (R616, R617). -/
def peerPost (peer win : Nat) (incomplete : Bool) (s : State) : State :=
  if win < 0x80 ∨ 0xA0 ≤ win ∨ !s.bit MCH_PEER.EN then s
  else
    let c := win - 0x80
    let s := fillTimeout c s
    let base := s.get MCH_PEER.BASE
    let inside := decide (s.get CPLR_RW_BASE.BASE ≤ base) && decide (base + 2048 ≤ s.get CPLR_RW_LIM.LIM)
    if inside && s.chState c == 0 && s.bit (MCH_CH_CFG.EN c) && !incomplete then
      let s := s.each (List.range 16) fun s w => s.wr (MCH_SLOT c w) (s.rd (CPLR_RAM (base / 4 + 16 * c + w)))
      chArrive c 0xC 0 (s.put (MCH_CH_PEER.PEER c) peer)
    else (s.put MCH_STAT.PEER_REJ 1).incSat MCH_CNT.PEER_REJ

/-- The COMMIT held in a peer's window lands and may post a channel (R427, R428, R617); on its timeout, to which time
passes, whatever has not come. -/
def commitDue (peer win : Nat) (timeout : Bool) (s : State) : State :=
  match s.rwFind peer win with
  | none => s
  | some w =>
    match w.held with
    | none => s
    | some h =>
      let s := if timeout then s.advanceTo (BitVec.ofNat 64 (h.since + 800 * s.get CPLR_RW_TO.TO)) else s
      if (timeout || w.complete h.seq) && decide (s.cplr.recs.length < 64) then peerPost peer win timeout (commitLand w h timeout s) else s

/-- A write in the MCH block. -/
def mchWrite (req : Requester) (a : Nat) (v : Word) (s : State) : State :=
  if a = MCH_PEER then mchPeerWrite v s
  else if a = MCH_CFG then storeReg a v (fillTimeouts s)
  else if MCH_DBEN 0 ≤ a ∧ a < MCH_DBEN 12 ∧ (a - MCH_DBEN 0) % 8 = 0 then dbenWrite ((a - MCH_DBEN 0) / 8) v s
  else if MCH_SLOT 0 0 ≤ a ∧ a < MCH_SLOT 32 0 then
    let c := (a - MCH_SLOT 0 0) / 0x80
    let o := (a - MCH_SLOT 0 0) % 0x80
    if o < 0x40 then slotWrite req c (o / 4) v s
    else if o = 0x40 then chCfgWrite c v s
    else if o = 0x48 then chCtlWrite req c v s
    else s
  else storeReg a v s

end Sys2Proof.Machine
end

