-- ==== Sys2Proof/Machine/TelemetryOps.lean ====
section
/-! DEFINITION. Machine/TelemetryOps.lean: Freeze, the exports to host memory and the ageing measurements
(spec/16_telemetry_and_ageing.md). -/

namespace Sys2Proof.Machine

/-! ### What a Freeze captures (R514, R515) -/

/-- The two words of a 64-bit value. -/
def words64 (v : Nat) : List Nat := [v % 2 ^ 32, v / 2 ^ 32 % 2 ^ 32]

namespace State

/-- A register's reading as a number. -/
def viewN (s : State) (a : Nat) : Nat := (s.blockView a).toNat

/-- Row 1 of tile 0. -/
def sumRow1 (s : State) : List Nat :=
  [PWR_EIN_LO, PWR_EIN_HI, TNDR_EFIL_LO, TNDR_EFIL_HI, TTB_CNT0, OUT_RUNCNT, XPH_IN, XPH_IVIM, XPH_VIM, XPH_STAT,
    PWR_STAT, PWR_SHARE, CBSE_STAT, TNDR_STAT].map s.viewN

/-- Row 2 of tile 0. -/
def sumRow2 (s : State) : List Nat :=
  [VL_STAT, TIM_STAT, TTB_STAT, TTB_LEG, REIN_SUM, SKID_SUM, THM_STAT, CPLR_STAT, CPLR_EPOCH, CPLR_OFS, WBL_SEQ,
    RGN_CFG_CNT].map s.viewN

/-- Totals of every Waybill slot, from row 3 of tile 0. -/
def sumJobs (s : State) : List Nat :=
  (List.range 16).flatMap fun j => words64 (s.get64 (WBL_TOT_LO j)) ++ words64 (s.get64 (WBL_FTOT_LO j))

/-- The row of region n. -/
def regionRow (s : State) (n : Nat) : List Nat :=
  [PWR_RE_LO n, PWR_RE_HI n, SKID_STRCYC_LO n, SKID_STRCYC_HI n, SKID_NSTART n, VSN_MINV n].map s.viewN ++
    words64 (s.rhid n).minvTs.toNat ++
    [RGN_ISUM n, RGN_STAT n, RGN_HEALTH n, PWR_EST n, PWR_MEAS n, SKID_DUTY n, AGE_RGN1 n].map s.viewN

/-- The row of engine group g. -/
def groupRow (s : State) (g : Nat) : List Nat :=
  ((List.range 4).flatMap fun c => words64 (mapGet 0 s.tlm.egc (4 * g + c))) ++
    [REIN_LIMCYC_LO g, REIN_LIMCYC_HI g, REIN_RATE g, TNDR_ORD g].map s.viewN

/-- The slot of cell c. -/
def cellSlot (s : State) (c : Nat) : List Nat :=
  words64 (ofSigned 64 (mapGet 0 s.tlm.qout c)) ++
    [s.viewN (CELL_STAT c), mapGet 0 s.tlm.nilim c + 0x10000 * mapGet 0 s.tlm.nfold c]

/-- The slot of phase p. -/
def phaseSlot (s : State) (p : Nat) : List Nat :=
  words64 (mapGet 0 s.tlm.ntrig p) ++ [mapGet 0 s.tlm.nlimt p % 2 ^ 32, s.viewN (XPH_PH_MEAS p)]

/-- Rows of the fault tile. -/
def faultTile (s : State) : List (Nat × List Nat) :=
  [(1, (List.range 32).map fun i => s.get (CBSE_CNT.COUNT (2 * i)) + 0x10000 * s.get (CBSE_CNT.COUNT (2 * i + 1))),
    (3, (List.range 18).flatMap fun m => [CBSE_MEM_CNT m, CBSE_CE_ADDR m, CBSE_UE_ADDR m, CBSE_PASS m].map s.viewN),
    (8, [CBSE_STATUS_LO, CBSE_STATUS_HI, CBSE_FIRST, CBSE_FIRST_TS_LO, CBSE_FIRST_TS_HI].map s.viewN)]

/-- Every captured run of words: tile, first row, words. -/
def capture (s : State) : List (Nat × Nat × List Nat) :=
  [(0, 1, s.sumRow1), (0, 2, s.sumRow2), (0, 3, s.sumJobs)] ++
    ((List.range 255).map fun i => (1 + i / 15, 1 + i % 15, s.regionRow (i + 1))) ++
    ((List.range 64).map fun g => (18 + g / 15, 1 + g % 15, s.groupRow g)) ++
    ((List.range 768).map fun i => (23 + i / 15, 1 + i % 15, (List.range 4).flatMap fun k => s.cellSlot (4 * i + k))) ++
    ((List.range 32).map fun i => (75 + i / 15, 1 + i % 15, (List.range 16).map fun k => s.viewN (THM_S (16 * i + k)))) ++
    ((List.range 8).map fun i => (78, 1 + i, (List.range 4).flatMap fun k => s.phaseSlot (4 * i + k))) ++
    s.faultTile.map fun e => (79, e.1, e.2)

/-- KIND of a tile (R514). -/
def tileKind (t : Nat) : Nat :=
  if t = 0 then 0 else if t ≤ 17 then 1 else if t ≤ 22 then 2 else if t ≤ 74 then 3 else if t ≤ 77 then 4
  else if t = 78 then 5 else 6

/-- Header words 1..6 of tile t (R514). -/
def tileHeader (s : State) (t flags : Nat) : List Nat :=
  [t + 0x10000 * tileKind t + 0x1000000 * flags] ++ words64 s.now ++
    [s.num TLM_FRZ_NUM, s.viewN CPLR_ID % 2 ^ 17, s.get TLM_FRZ_CTRL.TAG]

/-- The image of a capture: words of the shadow other than SEQ, zero words left out. -/
def freezeImage (s : State) (flags : Nat) : Map Word :=
  let runs := ((List.range 80).map fun t => (256 * t + 1, s.tileHeader t flags)) ++
    s.capture.map fun e => (256 * e.1 + 16 * e.2.1, e.2.2)
  runs.foldl
    (fun m r => r.2.zipIdx.foldl (fun m e => mapSet 0 m (r.1 + e.2) (BitVec.ofNat 32 e.1)) m) []

end State

/-! ### Freeze (R507..R513) -/

/-- A telemetry event (R526). -/
def tlmEvent (f : Fld) (o : Nat) (s : State) : State := (s.put f 1).ring kTLM o

/-- A capture edge (R507, R510, R511); `timed` when an armed time is served. -/
def freezeCapture (timed : Bool) (s : State) : State :=
  let s := seaCatch (rippleCatch (countEdges s))
  let late := timed && s.tlm.late
  let s := s.wrN TLM_FRZ_NUM ((s.num TLM_FRZ_NUM + 1) % 2 ^ 32)
  let s := (s.put64 TLM_FRZ_TS_LO s.now).put TLM_FRZ_STAT.BUSY 1
  let s := if late then s.put TLM_FRZ_STAT.LATE 1 else s
  let s := if timed then { s.put TLM_FRZ_STAT.ARMED 0 with tlm := { s.tlm with armed := none, late := false } } else s
  let run : FreezeRun := ⟨s.tim.edges, s.freezeImage (2 * late.toNat + 4 * timed.toNat),
    s.bit TLM_FRZ_CTRL.EXPORT && s.bit TLM_RING_CFG.EN⟩
  { s with tlm := { s.tlm with run := some run, localDue := false } }

/-- Has TS reached the armed time? -/
def State.armedDue (s : State) : Bool := s.tlm.armed.any fun t => decide (t ≤ s.now)

/-- A LOCAL request meets a CKF edge (R508, R510). -/
def freezeLocal (s : State) : State :=
  if s.bit TLM_FRZ_STAT.BUSY then tlmEvent TLM_EVT.LOSS 4 (s.put TLM_FRZ_STAT.REFUSED 1)
  else if s.locked then
    let s := s.advanceTo (s.ts + 1)
    freezeCapture s.armedDue s
  else { s with tlm := { s.tlm with localDue := true } }

/-- The armed time meets a CKF edge (R509, R510). -/
def freezeTimed (s : State) : State :=
  if s.armedDue ∧ s.locked then
    if s.bit TLM_FRZ_STAT.BUSY then
      let s := { s.put TLM_FRZ_STAT.ARMED 0 with tlm := { s.tlm with armed := none, late := false } }
      tlmEvent TLM_EVT.LOSS 4 (s.put TLM_FRZ_STAT.MISSED 1)
    else freezeCapture true s
  else s

/-- Time passes to the armed time (R508). -/
def armedTo (s : State) : State :=
  match s.tlm.armed with
  | some t => s.advanceTo (BitVec.ofNat 64 t)
  | none => s

/-- CKF runs again: an armed time that has passed is late, and a LOCAL request that waits is served (R508, R509). -/
def freezeRelock (s : State) : State :=
  let s := if s.armedDue then { s with tlm := { s.tlm with late := true } } else s
  if s.tlm.localDue then freezeLocal s else s

/-- A write of TLM_FRZ_CTRL (R508). -/
def frzCtrlWrite (v : Word) (s : State) : State :=
  let s := (s.put TLM_FRZ_CTRL.TAG (fldGet v 31 16)).put TLM_FRZ_CTRL.EXPORT (fldGet v 8 8)
  let s :=
    if fldGet v 2 2 = 1 then
      { s.put TLM_FRZ_STAT.ARMED 0 with tlm := { s.tlm with armed := none, late := false } }
    else if fldGet v 1 1 = 1 then
      let at_ := s.get64 TLM_FRZ_AT_LO
      { s.put TLM_FRZ_STAT.ARMED 1 with tlm := { s.tlm with armed := some at_, late := decide (at_ ≤ s.now) } }
    else s
  if fldGet v 0 0 = 1 then freezeLocal s else s

/-- A Freeze and all it asked for have ended (R510). -/
def freezeDone (s : State) : State := s.put TLM_FRZ_STAT.BUSY 0

/-- Time passes to the CKF edge at which the unload ends, 66 after the capture edge for each of its 80 tiles (R511). -/
def unloadTo (s : State) : State :=
  match s.tlm.run with
  | some r => if s.locked ∧ s.tim.edges < r.edge + 5280 then s.passEdges (r.edge + 5280 - s.tim.edges) else s
  | none => s

/-- The unload ends: the tiles hold the capture (R511, R513, R526). -/
def freezeUnloaded (s : State) : State :=
  match s.tlm.run with
  | none => s
  | some r =>
    if s.tim.edges < r.edge + 5280 then s
    else
      let seq := BitVec.ofNat 32 (2 * s.num TLM_FRZ_NUM)
      let s := s.each (s.listed (TLM_SHADOW 0) 4 (80 * 256)) fun s i => s.wr (TLM_SHADOW i) 0
      let s := s.each r.image fun s e => s.wr (TLM_SHADOW e.1) e.2
      let s := s.each (List.range 80) fun s t => s.wr (TLM_SHADOW (256 * t)) seq
      let bad := s.cbse.bad.filter fun e => !(e.1 == 17 && decide (e.2 < 80 * 1024))
      let s := { s with cbse := { s.cbse with bad := bad }, tlm := { s.tlm with run := none, exporting := r.exports } }
      let s := tlmEvent TLM_EVT.FRZ 0 s
      if r.exports then s else freezeDone s

/-! ### Exports (R516..R519) -/

/-- Word i of the shadow as an export copies it, and whether it holds an uncorrectable error. -/
def State.shadowWord (s : State) (i : Nat) : Word × Bool :=
  if s.memBad 17 (4 * i) then (0xFFFFFFFF, true) else (s.rd (TLM_SHADOW i), false)

/-- The record of tile t (R516). -/
def State.tileRecord (s : State) (t : Nat) : List Word :=
  let ws := (List.range 256).map fun i => s.shadowWord (256 * t + i)
  let ue := ws.any (·.2)
  ws.zipIdx.map fun e => if ue ∧ e.2 = 1 then e.1.1 ||| 0x01000000 else e.1.1

/-- The ring export ends (R516, R526). `fail`: the record at which the host fabric returns an error, and the byte offset in
it of the failed access. -/
def ringExport (fail : Option (Nat × Nat)) (s : State) : State :=
  if s.tlm.exporting then
    let first := s.get TLM_RING_SEL.FIRST
    let ts := (List.range (s.get TLM_RING_SEL.LAST + 1 - first)).map (first + ·)
    let (s, _) := ts.foldl
      (fun (acc : State × Bool) t =>
        let (s, go) := acc
        if !go then acc
        else
          let w := s.get TLM_RING_WPTR.WPTR
          let next := (w + 1) % 2 ^ s.get TLM_RING_CFG.SZ
          let addr := s.get64 TLM_RING_LO + 1024 * w
          if next = s.get TLM_RING_RPTR.RPTR then
            (tlmEvent TLM_EVT.DROP 2 (s.incSat TLM_RING_STAT.DROPPED), true)
          else
            match fail with
            | some (k, o) =>
              if k = t then (dmaError 3 (addr + o) (s.hostWrite addr ((s.tileRecord t).take (o / 4))), false)
              else ((s.hostWrite addr (s.tileRecord t)).put TLM_RING_WPTR.WPTR next, true)
            | none => ((s.hostWrite addr (s.tileRecord t)).put TLM_RING_WPTR.WPTR next, true))
      (s, true)
    freezeDone (tlmEvent TLM_EVT.RING 1 { s with tlm := { s.tlm with exporting := false } })
  else s

/-- A word of the trace buffer as an export copies it (R498). -/
def State.traceWord (s : State) (i : Nat) : Word := if s.memBad 15 (4 * i) then 0xFFFFFFFF else s.rd (TRC_BUF i)

/-- The block of trace channel ch (R518). -/
def State.traceBlock (s : State) (ch : Nat) : List Word :=
  [BitVec.ofNat 32 ch, s.rd (TRC_CH_CFG ch), s.rd (TRC_CH_WPTR ch), s.rd (TRC_CH_TPTR ch), s.rd TRC_TRIG_TS_LO,
    s.rd TRC_TRIG_TS_HI, s.rd TRC_STAT] ++ List.replicate 9 0 ++
    (List.range 8192).map fun i => s.traceWord (8192 * ch + i)

/-- The trace export in progress ends (R518, R519); `fail`: byte offset of the failed access in the buffer. -/
def traceExported (fail : Option Nat) (s : State) : State :=
  if s.bit TLM_TRX_CTRL.BUSY then
    let base := s.tlm.trxBase
    let ws := (bitsOf s.tlm.trxMask 8).flatMap s.traceBlock
    let s :=
      match fail with
      | none => traceExportEnd stOK false (s.hostWrite base ws)
      | some o => traceExportEnd stINTERNAL false (dmaError 4 (base + o) (s.hostWrite base (ws.take (o / 4))))
    if s.tlm.armDue then traceArm { s with tlm := { s.tlm with armDue := false } } else s
  else s

/-- A write of TLM_TRX_CTRL (R518). -/
def trxWrite (v : Word) (s : State) : State :=
  let s := (s.put TLM_TRX_CTRL.CHMASK (fldGet v 15 8)).put TLM_TRX_CTRL.AUTO (fldGet v 1 1)
  if fldGet v 0 0 = 1 then
    (if s.bit TLM_TRX_CTRL.BUSY then traceExport s else traceExport (s.put TLM_TRX_CTRL.GO 1))
  else s

/-- A write in the TLM block. -/
def tlmWrite (a : Nat) (v : Word) (s : State) : State :=
  if a = TLM_FRZ_CTRL then frzCtrlWrite v s
  else if a = TLM_TRX_CTRL then trxWrite v s
  else if a = TLM_RING_LO then (if fldGet v 9 0 = 0 then storeReg a v s else s)
  else if a = TLM_TRX_LO then (if fldGet v 5 0 = 0 then storeReg a v s else s)
  else if a = TLM_RING_CFG then
    (let sz := s.get TLM_RING_CFG.SZ
     let on := s.bit TLM_RING_CFG.EN
     let s := storeReg a v s
     if on then s.put TLM_RING_CFG.SZ sz else s)
  else if a = TLM_RING_SEL then
    (let old := s.rd a
     let s := storeReg a v s
     if s.get TLM_RING_SEL.LAST < s.get TLM_RING_SEL.FIRST then
       (s.put TLM_RING_SEL.FIRST (fldGet old 7 0)).put TLM_RING_SEL.LAST (fldGet old 23 16)
     else s)
  else storeReg a v s

/-! ### Ageing (R520..R525) -/

/-- The indicators of ACTIVE cell c after a window that gathered a (R520, R521); a value that the spec does not give is a
free one, and `tie` settles which of several equally large means is reported. -/
def ageCell (c : Nat) (a : AgeAcc) (tie : Nat) (s : State) : State :=
  let s := s.put (AGE_CELL0.NSAMP c) (a.n / 16)
  let s :=
    if a.n < 4096 then s
    else if a.bare ∨ a.den = 0 then s.putOr (AGE_CELL0.RHO c) (-1)
    else s.putOr (AGE_CELL0.RHO c) (1024 * a.num / a.den).floor
  if a.k = 0 then s
  else
    let top := (a.d.map Int.natAbs).foldl max 0
    let js := (List.range 4).filter fun j => (a.d.getD j 0).natAbs == top
    let j := js.getD (tie % js.length) 0
    let (m, s) := s.roundOpen (64 * a.d.getD j 0) a.k
    (s.put (AGE_CELL1.J c) j).putI (AGE_CELL1.SDRIFT c) (satS 16 m)

/-- Time passes to the end of the ageing window, 65,536 CKS edges after its beginning (R520). -/
def ageTo (s : State) : State :=
  let e := 2 * (s.tlm.ageAt + 65536) - s.tim.cksPar
  if s.locked ∧ s.tim.edges < e then s.passEdges (e - s.tim.edges) else s

/-- The ageing window ends (R520, R521): every ACTIVE cell reports what it gathered, and the next window goes on. -/
def ageWindowEnd (ties : List (Fin 4)) (s : State) : State :=
  let s := seaCatch s
  let n := (s.cks - s.tlm.ageAt) / 65536
  if n = 0 then s
  else
    let s := s.each (s.busyCells.filter fun c => s.cellState c == cACTIVE) fun s c =>
      ageCell c (mapGet {} s.tlm.age c) (ties.getD c 0).val s
    { s with tlm := { s.tlm with ageAt := s.tlm.ageAt + 65536 * n, age := if n = 1 then s.tlm.ageNext else [],
                                 ageNext := [] } }

/-- HRAVG of every region whose margin monitor runs, at an epoch boundary (R523). -/
def hravgEpoch (s : State) : State :=
  s.each (s.liveRegions.filter s.cpmRuns) fun s n =>
    let h := s.numI (AGE_HRAVG n)
    s.wrI (AGE_HRAVG n) (h + floorDiv ((s.rhid n).trim * 256 - h) 1024)

/-- The work of an epoch boundary (R402..R424, R523). -/
def epochBoundary (s : State) : State := hravgEpoch (cplrEpoch s)

/-- The epoch and envelope-window boundaries that fall on this base tick and that no command has made; an epoch boundary lies
in the epoch that it begins (R59). -/
def epochBounds (s : State) : State :=
  let s := if s.boundaryDue 80000000 s.cplr.envAt then envWindowEnd s else s
  if s.boundaryDue 800000 s.cplr.epochAt then epochBoundary s else s

/-- The margin monitor of region n at a base tick: the least slack among its replicas, none while its clock regions hold no
replica (R522). -/
def cpmSample (n : Nat) (slack : Option (BitVec 16)) (s : State) : State :=
  let s := s.putB (AGE_RGN1.RUN n) slack.isSome
  if s.cpmRuns n then
    let stretched := (List.range 72).any fun h =>
      (if h < 64 then s.owns n h else bitOf (s.get (SKID_MAP.XMAP n)) (h - 64)) && (s.skidLines h).1 != 0
    if stretched then s else s.putI (AGE_RGN1.CPM n) (slack.getD 0).toInt
  else s

/-- A write of an EOL word at offset a (R525). -/
def eolWrite (a : Nat) (v : Word) (s : State) : State :=
  let alarm := s.get AGE_CTRL.ALARM
  let old := fldGet (s.rd a) 15 0
  let s := storeReg a v s
  if alarm ≤ old ∧ fldGet (s.rd a) 15 0 < alarm then ((s.pulse 25).put AGE_CTRL.EVT 1).ring kAGE 0 else s

/-- A write in the AGE block. -/
def ageWrite (a : Nat) (v : Word) (s : State) : State :=
  if (AGE_CELL3 0 ≤ a ∧ a < AGE_CELL3 3072 ∧ a % 16 = 12) ∨ (AGE_RGN3 1 ≤ a ∧ a < AGE_RGN3 256 ∧ a % 16 = 12) then
    eolWrite a v s
  else storeReg a v s

end Sys2Proof.Machine
end

