-- ==== Sys2Proof/Machine/TtbOps.lean ====
section
/-! DEFINITION. Machine/TtbOps.lean: the forecast path (spec/07_forecast.md): Timetable entries, tracking, the sync
directory, activation, the actions in force at a base tick, and loading. -/

namespace Sys2Proof.Machine

/-! ### Entries (R255..R259) -/

namespace State

/-- State of the forecast path (R263): 0 IDLE, 1 SCAN, 2 TRACKING, 3 LOST, 4 DONE. -/
def ttbState (s : State) : Nat := s.get TTB_STAT.STATE

/-- Bits hi..lo of word w of Timetable entry i (R255). -/
def entry (s : State) (i w hi lo : Nat) : Nat := fldGet (s.rd (TTB_ENT i w)) hi lo

/-- MARKER of entry i. -/
def entMarker (s : State) (i : Nat) : Nat := s.entry i 0 15 0

/-- KIND of entry i (R256). -/
def entKind (s : State) (i : Nat) : Nat := s.entry i 2 11 8

/-- LAST of entry i. -/
def entLast (s : State) (i : Nat) : Bool := s.entry i 2 29 29 == 1

/-- Does a word of entry i hold an uncorrectable error (R498)? -/
def entUe (s : State) (i : Nat) : Bool := s.memBad 12 (16 * i) || s.memBad 12 (16 * i + 8)

/-- Is entry i BAD (R257)? -/
def entBad (s : State) (i : Nat) : Bool :=
  let kind := s.entKind i
  s.entUe i || decide (6 ≤ kind) || decide (0x8000 ≤ s.entMarker i) || s.rd (TTB_ENT i 3) != 0 ||
    (kind == 1 && s.entry i 1 31 20 == 0) || (!s.entLast i && (s.entry i 2 31 31 == 1 || s.entry i 2 30 30 == 1))

/-- Entries with a word other than 0 or an uncorrectable error, rising. -/
def listedEntries (s : State) : List Nat :=
  ((s.cbse.bad.filter (·.1 == 12)).map (·.2 / 16)).foldl (fun l i => union l [i])
    ((s.listed (TTB_ENT 0 0) 4 262144).map (· / 4)).eraseReps

/-- The last entry of the group that begins at entry i (R258); entry 65,535 where none has LAST. -/
def groupEnd (s : State) (i : Nat) : Nat :=
  ((s.listed (TTB_ENT 0 2) 0x10 65536).find? fun k => decide (i ≤ k) && s.entLast k).getD 65535

/-- Where the cursor stands after the group that ends at entry e (R265). -/
def cursorAfter (s : State) (e : Nat) : Nat :=
  if s.entry e 2 30 30 = 1 ∧ s.entry e 2 31 31 = 0 then s.get TTB_RANGE.LOOP else (e + 1) % 65536

/-- The regions of mask i (R259). -/
def regionSet (s : State) (i : Nat) : List Nat :=
  ((List.range 8).flatMap fun w => (bitsOf (s.num (TTB_RSET i w)) 32).map (32 * w + ·)).filter (· != 0)

/-- The entry that the sync directory records for a marker (R267). -/
def dirFind (s : State) (m : Nat) : Option Nat := (s.ttb.dir.find? fun e => e.1 == m).map (·.2)

/-- The live span: 256 entries from the cursor while TRACKING (R286). -/
def inLiveSpan (s : State) (i : Nat) : Bool :=
  s.ttbState == 2 && decide ((i + 65536 - s.get TTB_CUR.IDX) % 65536 < 256)

/-- A build of the sync directory is running (R270). -/
def building (s : State) : Bool := s.ttb.arming || s.bit TTB_STAT.SCANNING

end State

/-! ### State changes (R264, R266, R675) -/

/-- The path takes a state; EXPECT is the marker at the cursor while TRACKING. -/
def putTtb (st : Nat) (s : State) : State :=
  let s := s.put TTB_STAT.STATE st
  s.put TTB_CUR.EXPECT (if st = 2 then s.entMarker (s.get TTB_CUR.IDX) else 0xFFFF)

/-- The cursor moves (R265). -/
def putCursor (i : Nat) (s : State) : State := s.put TTB_CUR.IDX (i % 65536)

/-- Every action and every notice given is withdrawn (R266, R282, R675); the outputs follow at the next base tick. -/
def withdrawActions (s : State) : State := withdrawNotices { s with ttb := { s.ttb with acts := [] } }

/-- An activation in progress ends, the rest of its group unactivated, and every action is withdrawn (R675). -/
def endActivation (s : State) : State := withdrawActions { s with ttb := { s.ttb with run := none } }

/-- A build of the directory starts, or starts afresh when its trigger falls in a running one: the spec does not say whether
that one goes on, and only a new one reflects what was written before the trigger (R270, DESIGN CHOICE: log entry 133). -/
def startBuild (s : State) : State := { s with ttb := { s.ttb with olds := [] } }

/-- The path enters LOST (R264, R266, R675). -/
def enterLost (s : State) : State :=
  let s := putTtb 3 (endActivation s)
  ((s.incSat TTB_CNT1.LOST).put TTB_EVT.LOST 1).ring kTTB 0

/-- ARM (R264, R270, R675). -/
def ttbArm (s : State) : State :=
  if s.bit TTB_DMA_CTRL.BUSY then s.put TTB_EVT.ARM_REFUSED 1
  else
    let n := s.ttb.queue.length
    let s := s.addSat TTB_CNT2.MDROP n
    let s := endActivation { s with ttb := { s.ttb with queue := [], arming := true } }
    putTtb 1 (startBuild s)

/-- STOP (R264, R675): the marker queue is emptied in every state, and a build that ARM alone started ends. -/
def ttbStop (s : State) : State :=
  let s := { s with ttb := { s.ttb with queue := [], arming := false } }
  let s := if s.bit TTB_STAT.SCANNING then s else startBuild s
  if s.ttbState = 0 then s else putTtb 0 (endActivation s)

/-- A write of TTB_CTRL (R264, R270): ARM with STOP acts as STOP alone. -/
def ttbCtrlWrite (v : Word) (s : State) : State :=
  let s :=
    if fldGet v 1 1 = 1 then ttbStop s
    else if fldGet v 0 0 = 1 then ttbArm s
    else s
  if fldGet v 2 2 = 1 then (startBuild s).put TTB_STAT.SCANNING 1 else s

/-! ### The sync directory (R267, R270) -/

/-- What the directory knows of an entry: index, MARKER, is it SYNC, LAST. -/
abbrev DirEntry := Nat × Nat × Bool × Bool

/-- Entry i from its words 0 and 2. -/
def dirEntry (i : Nat) (w0 w2 : Word) : DirEntry := (i, fldGet w0 15 0, fldGet w2 11 8 == 4, fldGet w2 29 29 == 1)

/-- The entries as the build read them: an entry written meanwhile is read before or after each write, which the spec
leaves open (a free value chooses). -/
def dirRead (s : State) : List DirEntry × State :=
  let idx := s.ttb.olds.foldl (fun l e => union l [e.1]) (s.listed (TTB_ENT 0 2) 0x10 65536)
  idx.foldl
    (fun acc i =>
      let s := acc.2
      let vs := (s.ttb.olds.filter (·.1 == i)).map (·.2) ++ [(s.rd (TTB_ENT i 0), s.rd (TTB_ENT i 2))]
      match vs with
      | [v] => (acc.1 ++ [dirEntry i v.1 v.2], s)
      | _ =>
        let (w, s) := s.drawFree
        let v := vs.getD (w.toNat % vs.length) (0, 0)
        (acc.1 ++ [dirEntry i v.1 v.2], s)) ([], s)

/-- The records, and whether one was a duplicate or left out. -/
def dirBuild (start : Nat) (es : List DirEntry) : List (Nat × Nat) × Bool × Bool :=
  es.foldl
    (fun acc e =>
      let (i, m, sync, _) := e
      let first := i == start || es.any fun p => p.1 + 1 == i && p.2.2.2
      if !sync || !first then acc
      else if acc.1.any (·.1 == m) then (acc.1, true, acc.2.2)
      else if acc.1.length < 1024 then (acc.1 ++ [(m, i)], acc.2)
      else (acc.1, acc.2.1, true)) ([], false, false)

/-- A build ends (R264, R267, R270). -/
def dirDone (s : State) : State :=
  if s.building then
    let (es, s) := dirRead s
    let s := s.each (es.filter fun e => s.entUe e.1) fun s e => memUe 12 (16 * e.1) s
    let es := es.filter fun e => !s.entUe e.1
    let (dir, dup, full) := dirBuild (s.get TTB_RANGE.START) es
    let arming := s.ttb.arming
    let s := { s with ttb := { s.ttb with dir := dir, arming := false, olds := [] } }
    let s := ((s.putB TTB_STAT.DUP_SYNC dup).putB TTB_STAT.DIR_FULL full).put TTB_STAT.NSYNC dir.length
    let s := (s.put TTB_STAT.SCANNING 0).ring kTTB 7
    if arming then putTtb 2 (putCursor (s.get TTB_RANGE.START) s) else s
  else s

/-- Entry i takes new words; a running build may have read it before (R270). -/
def putEntry (i : Nat) (ws : List (Nat × Word)) (s : State) : State :=
  let s := if s.building then
      { s with ttb := { s.ttb with olds := s.ttb.olds ++ [(i, s.rd (TTB_ENT i 0), s.rd (TTB_ENT i 2))] } }
    else s
  let s := s.each ws fun s e => s.wr (TTB_ENT i e.1) e.2
  memWritten 12 (TTB_ENT 0 0) (ws.map fun e => 16 * i + 4 * e.1) s

/-! ### Activation (R271..R276, R282) -/

/-- DI_eff and DT_eff of entry i under a marker's Outrider set (R272). -/
def State.corrected (s : State) (i : Nat) (snap : List Word) : Int × Nat :=
  let di := toSigned 16 (s.entry i 0 31 16)
  let dt := s.entry i 1 19 0
  if s.entry i 2 24 24 = 0 then (di, dt)
  else
    let slot := s.entry i 2 28 25
    let a := fpClampRat (-(1 / 2)) (1 / 2) (ofFp32 (snap.getD (2 * slot) 0))
    let b := fpClampRat (-1024) 1024 (ofFp32 (snap.getD (2 * slot + 1) 0))
    (clampI (-32768) 32767 (rneRat ((di : Rat) * (1 + a))), (clampI 0 1048575 ((dt : Int) + rneRat b)).toNat)

/-- The window from `lead` before the land time, not before T_act, until `stop` (R276); and was it raised? -/
def leadWindow (land lead act stop : Nat) : TsWindow × Bool :=
  (⟨max (land - 8 * lead) act, stop⟩, decide (land < act + 8 * lead))

/-- The action slot of entry i activated at T_act = act by a marker of time tm (R273..R276), and is it late? None when
the entry takes no slot. -/
def State.slotOf (s : State) (i tm act : Nat) (snap : List Word) : Option (FAct × Bool) :=
  let kind := s.entKind i
  let (di, dt) := s.corrected i snap
  let land := tm + 8 * dt
  let slope := s.entry i 1 31 20
  let lr := if kind = 1 ∧ 0 < di then (di.toNat + slope - 1) / slope else 0
  let acts := decide (0 < di) && (kind == 0 || kind == 1 || kind == 3) && s.bit TTB_CFG.FF_EN &&
    decide (s.get TTB_CFG.CMIN ≤ s.entry i 2 15 12)
  let arrived := land + 100 * lr
  let held := arrived + 8 * s.get TTB_HOLD.FHOLD
  let win (on : Bool) (lead stop : Nat) : Option (TsWindow × Bool) :=
    if acts && on then some (leadWindow land lead act stop) else none
  let ph := win (s.entry i 2 23 23 == 0) (s.get TTB_LEAD.LEAD_PH) (arrived + 8 * s.get TTB_HOLD.PHOLD)
  let cu := win true (s.get TTB_LEAD.LEAD_FCI) held
  let bu := win (s.entry i 2 22 22 == 0) (s.get TTB_LEAD.LEAD_BUMP) held
  let ws := [ph, cu, bu].filterMap id
  let notice := kind == 2 || kind == 3
  if ws.isEmpty && !notice && kind != 5 then none
  else
    some (⟨kind, di, slope, s.regionSet (s.entry i 2 7 0), land, ph.map (·.1), cu.map (·.1), bu.map (·.1),
      s.entry i 2 21 16, 0, (ws.map fun w => w.1.stop).foldl max land⟩, ws.any (·.2))

/-- Slots whose windows and notices have ended are freed (R274). -/
def freeSlots (at_ : Nat) (s : State) : State :=
  { s with ttb := { s.ttb with acts := s.ttb.acts.filter fun a => a.kind == 5 || decide (at_ < a.stop) } }

/-- One entry is activated at T_act = act (R257, R271..R276, R282). -/
def activateEntry (tm act : Nat) (snap : List Word) (i : Nat) (s : State) : State :=
  if s.entBad i then
    let s := if s.entUe i then memUe 12 (16 * i) s else s
    ((s.incSat TTB_CNT2.BADENT).put TTB_EVT.BAD_ENTRY 1).ring kTTB 4
  else
    match s.slotOf i tm act snap with
    | none => s
    | some (a, late) =>
      let s := freeSlots act s
      if 64 ≤ s.ttb.acts.length then ((s.incSat TTB_CNT1.QOVF).put TTB_EVT.QOVF 1).ring kTTB 5
      else
        let s := { s with ttb := { s.ttb with acts := s.ttb.acts ++ [a] } }
        let s := if late then s.incSat TTB_CNT1.LATE else s
        if a.kind = 2 ∨ a.kind = 3 then giveNotice (a.kind == 3) a.land a.di a.regions act s else s

/-- TS at CKF edge e, the last of which is the present one. -/
def State.tsAtEdge (s : State) (e : Nat) : Nat := s.now - (s.tim.edges - e)

/-- The last entry of a group has been activated (R264, R265): the cursor moves past it; END leads to DONE. -/
def groupDone (e : Nat) (s : State) : State :=
  let s := putCursor (s.cursorAfter e) (s.addWrap TTB_CNT0.MATCHED 1)
  if s.entry e 2 31 31 = 1 then ((putTtb 4 s).put TTB_EVT.DONE 1).ring kTTB 2 else putTtb 2 s

/-- The entries of the group in progress whose CKF edges have come, up to edge `upto`, are activated, one per edge in
increasing index (R271). -/
def groupCatch (upto : Nat) (s : State) : State :=
  match s.ttb.run with
  | none => s
  | some r =>
    if upto < r.edge then s
    else
      let e := min r.last (r.next + (upto - r.edge))
      let es := s.listedEntries.filter fun k => decide (r.next ≤ k) && decide (k ≤ e)
      let s := s.each es fun s k =>
        activateEntry r.marker.tm (s.tsAtEdge (r.edge + (k - r.next))) r.marker.snap k s
      let rest := if e = r.last then none else some { r with next := e + 1, edge := r.edge + (e + 1 - r.next) }
      let s := { s with ttb := { s.ttb with run := rest } }
      if e = r.last then groupDone e s else s

/-- The activation of the group at entry i starts at CKF edge `edge` (R271). -/
def startGroup (i edge : Nat) (m : Marker) (s : State) : State :=
  { s with ttb := { s.ttb with run := some ⟨i, s.groupEnd i, edge, m⟩ } }

/-! ### Markers (R260..R262, R265..R269) -/

/-- The port accepts a marker at TS t (R260..R262). -/
def markerIn (m cp t : Nat) (s : State) : State :=
  let accept (s : State) : State :=
    ((s.put TTB_LAST.MARKER m).put TTB_LAST.CP cp).put TTB_LAST_TS.TS (t % 2 ^ 32)
  if 0x8000 ≤ m then (accept s).incSat TTB_CNT2.FREE
  else if s.ttb.queue.length < 16 then
    let s := accept s
    { s with ttb := { s.ttb with queue := s.ttb.queue ++ [⟨m, cp, t, s.outSetFor t⟩],
                                 lastFc := some t } }
  else if s.ttbState = 0 then s
  else
    let s := s.incSat TTB_CNT2.MDROP
    if s.ttbState = 2 then enterLost s else s

/-- Of the markers presented by the first free CKF edge, not after edge `upto`, the port accepts the one of the lowest
command processor (R260); entries of earlier edges have been activated before. -/
def portNext (upto : Nat) (s : State) : State :=
  match s.ttb.port with
  | [] => s
  | p :: ps =>
    let e := max s.ttb.portEdge (ps.foldl (fun e q => min e q.edge) p.edge)
    if upto < e then s
    else
      let ready := s.ttb.port.filter fun q => decide (q.edge ≤ e)
      let q := ready.foldl (fun b q => if q.cp < b.cp then q else b) (ready.headD p)
      let s := groupCatch (e - 1) s
      let s := { s with ttb := { s.ttb with port := s.ttb.port.erase q, portEdge := e + 1 } }
      markerIn q.marker q.cp (s.tsAtEdge e) s

/-- The port has accepted the markers that it could by edge `upto`. -/
def portCatch (upto : Nat) (s : State) : State :=
  s.each (List.range s.ttb.port.length) fun s _ => portNext upto s

/-- The port and the activation have done the work of every CKF edge passed. -/
def ttbCatch (s : State) : State := groupCatch s.tim.edges (portCatch s.tim.edges s)

/-- Command processor cp presents a marker at the present CKF edge, or, without a CKF clock, at the next (R260); which of
the markers of this edge is accepted first is decided when all of them stand. -/
def markerPresent (m cp : Nat) (s : State) : State :=
  let s := groupCatch s.tim.edges (portCatch (s.tim.edges - 1) s)
  let e := if s.locked then s.tim.edges else s.tim.edges + 1
  { s with ttb := { s.ttb with port := s.ttb.port ++ [⟨e, cp, m⟩] } }

/-- A forecast marker is looked up in the sync directory (R268, R269): found, the cursor is set, the path tracks and the
group's activation starts at once. -/
def ttbLookup (edge : Nat) (m : Marker) (s : State) : Bool × State :=
  match s.dirFind m.marker with
  | some i => (true, startGroup i edge m (putTtb 2 (putCursor i ((s.put TTB_EVT.RESYNC 1).ring kTTB 1))))
  | none => (false, s)

/-- A forecast marker taken from the queue (R263, R265, R268, R269): does it activate a group? -/
def handleMarker (edge : Nat) (m : Marker) (s : State) : Bool × State :=
  let cur := s.get TTB_CUR.IDX
  match s.ttbState with
  | 1 => (false, s.incSat TTB_CNT2.MDROP)
  | 2 =>
    let e := s.groupEnd cur
    let next := s.cursorAfter e
    if m.marker = s.entMarker cur then (true, startGroup cur edge m s)
    else if s.bit TTB_CFG.SKIP1 ∧ s.entry e 2 31 31 = 0 ∧ m.marker = s.entMarker next then
      (true, startGroup next edge m (s.incSat TTB_CNT1.SKIPPED))
    else ttbLookup edge m (enterLost s)
  | 0 => (false, s)
  | _ =>
    let r := ttbLookup edge m s
    if r.1 then r else (false, s.incSat TTB_CNT2.STRAY)

/-- The oldest marker of the queue is taken once no group is being activated (R271), and its group's activation starts `lag`
CKF edges later. -/
def markerHandle (lag : Nat) (s : State) : State :=
  let s := ttbCatch s
  match s.ttb.run, s.ttb.queue with
  | none, m :: rest =>
    let (hit, s) := handleMarker (s.tim.edges + lag) m { s with ttb := { s.ttb with queue := rest } }
    groupCatch s.tim.edges (s.putB TTB_LAST.MATCH hit)
  | _, _ => s

/-! ### Actions in force at a base tick (R277..R283) -/

/-- The forecast term F (R277), before its limit. -/
def State.forecastTerm (s : State) : Int :=
  let b := s.now
  let scale (n : Nat) : Int := (320 + s.get (RGN_VEFF.CODE n) : Nat)
  let dp := ((s.ttb.acts.filter fun a => a.phase.any (·.holds b)).map fun a =>
    a.di * (a.regions.map scale).sum).sum
  let p := ((s.liveRegions.filter fun n => poweredState (s.rgnState n)).map fun n =>
    s.getI (RGN_ISUM.I n) * scale n).sum
  let vim := s.get XPH_VIM.VIM
  if dp ≤ 0 ∨ vim = 0 then 0
  else max 0 (-floorDiv (-((p + dp) * 1024)) (s.get TTB_ETA.ETA * vim) - s.getI XPH_IVIM.IVIM)

/-- FCI of region n (R279). -/
def State.fciOf (s : State) (n : Nat) : Int :=
  let b := s.now
  clampI (-32768) 32767
    (s.ttb.acts.map fun a =>
      match a.current with
      | some w =>
        if w.holds b && a.regions.contains n then
          (if a.kind = 1 then min a.di ((a.slope * a.ticks : Nat) : Int) else a.di)
        else 0
      | none => 0).sum

/-- The bump of region n (R281). -/
def State.bumpOf (s : State) (n : Nat) : Nat :=
  let b := s.now
  (s.ttb.acts.map fun a =>
    if a.bump.any (·.holds b) && a.regions.contains n then
      min (s.get TTB_BUMP.BMAX) (a.di.toNat * s.get TTB_BUMP.BK / 4096)
    else 0).foldl max 0

/-- LEG entries that have landed set the tag (R283); of two at one tick, the one activated later stands. -/
def landLegs (s : State) : State :=
  let b := s.now
  let due := s.ttb.acts.filter fun a => a.kind == 5 && decide (a.land ≤ b)
  let s := { s with ttb := { s.ttb with acts := s.ttb.acts.filter fun a => a.kind != 5 || decide (b < a.land) } }
  match due.getLast? with
  | some a =>
    if s.bit TTB_LEG.VALID ∧ s.get TTB_LEG.LEG = a.leg then s
    else
      ((((s.put TTB_LEG.LEG a.leg).put TTB_LEG.VALID 1).put TTB_LEG_TS.TS s.now32).put TTB_EVT.LEG 1).ring kTTB 6
  | none => s

/-- Each action whose current window holds the present base tick counts it (R279). -/
def countActions (s : State) : State :=
  let count (a : FAct) : FAct := if a.current.any (·.holds s.now) then { a with ticks := a.ticks + 1 } else a
  { s with ttb := { s.ttb with acts := s.ttb.acts.map count } }

/-- The forecast path's part of a base tick (R266, R277..R283). -/
def forecastTick (s : State) : State :=
  let s := ttbCatch s
  let s := countActions (freeSlots s.now (landLegs s))
  let ns := union (s.listed (TTB_RGN 0) 4 256)
    (((List.range 256).drop 1).filter fun n => s.ttb.acts.any fun a => a.regions.contains n)
  let s := s.each ns fun s n => (s.putI (TTB_RGN.FCI n) (s.fciOf n)).put (TTB_RGN.BUMP n) (s.bumpOf n)
  let f := min s.forecastTerm 32767
  let s := s.put TTB_FCAST.F f.toNat
  let iper := 4 * s.get XPH_SHED.IPER
  let nfc := if 0 < f then min 32 (((s.getI XPH_IVIM.IVIM + f).toNat + iper - 1) / iper) else 0
  if nfc = s.get TTB_FCAST.NFC then s else writeNfc nfc (s.put TTB_FCAST.NFC nfc)

/-! ### Loading (R285..R288) -/

/-- Entries of a transfer (R285). -/
def State.ttbDmaCount (s : State) : Nat := let n := s.get TTB_DMA_LEN.CNT; if n = 0 then 65536 else n

/-- A transfer ends; a rebuild of the directory starts (R270, R285). -/
def ttbDmaEnd (res : Nat) (s : State) : State :=
  let s := ((s.put TTB_DMA_CTRL.RES res).put TTB_DMA_CTRL.BUSY 0).put TTB_DMA_CTRL.GO 0
  (startBuild ((s.put TTB_EVT.DMA 1).ring kTTB 3)).put TTB_STAT.SCANNING 1

/-- A write of TTB_DMA_CTRL (R285). -/
def ttbDmaWrite (v : Word) (s : State) : State :=
  if fldGet v 0 0 = 0 ∨ s.bit TTB_DMA_CTRL.BUSY then s
  else if s.get64 TTB_DMA_SRC_LO % 16 ≠ 0 ∨ 65536 < s.get TTB_DMA_LEN.DST + s.ttbDmaCount then ttbDmaEnd stBADPARAM s
  else
    let s := (s.put TTB_DMA_CTRL.GO 1).put TTB_DMA_CTRL.BUSY 1
    { s with ttb := { s.ttb with dmaNext := s.get TTB_DMA_LEN.DST, dmaLeft := s.ttbDmaCount,
                                 dmaSrc := s.get64 TTB_DMA_SRC_LO } }

/-- Time passes to the CKF edge at which a transfer may write its next entry: at most one in each cycle (R676). -/
def dmaSlot (s : State) : State :=
  if s.tim.edges < s.ttb.dmaEdge then s.passEdges (s.ttb.dmaEdge - s.tim.edges) else s

/-- The next entry of a transfer arrives; in the live span it waits (R286), and before INIT_DONE its write is ignored
(R288). -/
def ttbDmaEntry (ws : List Word) (s : State) : State :=
  let i := s.ttb.dmaNext
  if !s.bit TTB_DMA_CTRL.BUSY ∨ s.ttb.dmaLeft = 0 ∨ s.inLiveSpan i then s
  else
    let s := if s.bit TTB_STAT.INIT_DONE then putEntry i (ws.zipIdx.map fun e => (e.2, e.1)) s else s
    { s with ttb := { s.ttb with dmaNext := i + 1, dmaLeft := s.ttb.dmaLeft - 1,
                                 dmaSrc := s.ttb.dmaSrc + 16, dmaEdge := s.tim.edges + 1 } }

/-- A transfer completes, or meets an error of the host fabric (R285). -/
def ttbDmaFinish (ok : Bool) (s : State) : State :=
  if !s.bit TTB_DMA_CTRL.BUSY then s
  else if ok then (if s.ttb.dmaLeft = 0 then ttbDmaEnd stOK s else s)
  else ttbDmaEnd stINTERNAL (dmaError 0 s.ttb.dmaSrc s)

/-- A host or firmware write to the Timetable (R286..R288). -/
def timetableWrite (i w : Nat) (v : Word) (s : State) : State :=
  if !s.bit TTB_STAT.INIT_DONE then s
  else if s.inLiveSpan i then s.put TTB_EVT.WR_LIVE 1
  else putEntry i [(w, v)] s

/-- A write in the TTB block, after the work of the CKF edges passed. -/
def ttbWrite (a : Nat) (v : Word) (s : State) : State :=
  let s := ttbCatch s
  if a < TTB_CTRL then timetableWrite ((a - TTB_ENT 0 0) / 16) ((a - TTB_ENT 0 0) / 4 % 4) v s
  else if a = TTB_CTRL then ttbCtrlWrite v s
  else if a = TTB_DMA_CTRL then ttbDmaWrite v s
  else if TTB_RSET 0 0 ≤ a ∧ (a - TTB_RSET 0 0) % 32 = 0 then storeReg a (v &&& ~~~1) s
  else storeReg a v s

end Sys2Proof.Machine
end

