-- ==== Sys2Proof/Machine/HoldOps.lean ====
section
/-! DEFINITION. Machine/HoldOps.lean: the V12 sag sequence and the crash record (spec/21_reset_and_holdup.md). -/

namespace Sys2Proof.Machine

/-- HOLD_STAT.STATE. -/
def State.holdState (s : State) : Nat := s.get HOLD_STAT.STATE

/-! ### The crash record (R650) -/

/-- Word offsets of the AON buffer. -/
def aonBuffer (w : Nat) : Nat := 0x1710000 + 4 * w

namespace State

/-- The registers of the fault log, in its order. -/
def faultLog (s : State) : List Nat :=
  ([CBSE_STATUS_LO, CBSE_STATUS_HI, CBSE_FIRST, CBSE_FIRST_TS_LO, CBSE_FIRST_TS_HI, CBSE_STAT, VL_STAT, TIM_STAT, XPH_STAT,
    THM_STAT, THM_SD_TS, FW_STAT, PWR_SHARE, PWR_DEFICIT, TNDR_STAT, CPLR_STAT].map fun a =>
      if a = FW_STAT then s.viewFwStat.toNat else s.viewN a)

/-- The byte of region n: STATE in bits 2:0, CAUSE in bits 7:4. -/
def crashRegion (s : State) (n : Nat) : Nat := s.rgnState n + 16 * s.get (RGN_FAULT.CAUSE n)

/-- The words that CTRL gives a crash record, by word of the record. -/
def crashWords (s : State) : List (Nat × List Nat) :=
  let rs := (List.range 256).drop 1
  [(5, [s.viewN CPLR_ID, s.viewN CPLR_EPOCH, s.num FW_VER]),
    (9, [s.num XPH_IN, s.num SNS_AON, s.num HOLD_FWTAG, s.num TTB_LEG, s.num PWR_STAT]),
    (16, s.faultLog),
    (32, (List.range 32).map fun k => s.get (CBSE_CNT.COUNT (2 * k)) + 65536 * s.get (CBSE_CNT.COUNT (2 * k + 1))),
    (64, (List.range 16).flatMap fun j => [WBL_TOT_LO j, WBL_TOT_HI j, WBL_FTOT_LO j, WBL_FTOT_HI j].map s.num),
    (128, (List.range 16).flatMap fun j => [WBL_LTAG_LO j, WBL_LTAG_HI j].map s.num),
    (160, [PWR_EIN_LO, PWR_EIN_HI, TNDR_EFIL_LO, TNDR_EFIL_HI, WBL_SEQ].map s.num),
    (192, rs.map fun n => s.num (AGE_HRAVG n)),
    (448, rs.map fun n => s.num (VSN_MINV n)),
    (704, rs.map fun n => (s.rhid n).minvTs.toNat % 2 ^ 32),
    (960, (List.range 64).map fun k =>
      ((List.range 4).map fun b => 2 ^ (8 * b) * (if 4 * k + b < 255 then s.crashRegion (4 * k + b + 1) else 0)).sum)]

/-- The FLAGS of CTRL, as word 1 holds them. -/
def crashFlags (s : State) : Nat :=
  2 ^ 24 * (2 * (s.thmState != 0).toNat + 4 * s.overrideOn.toNat + 8 * s.get FW_STAT.HOST_LOST)

/-- What the capture edge takes (R642), by word of the record; word 1 holds FLAGS alone. -/
def crashTake (s : State) : Map Word :=
  let es := (1, [s.crashFlags]) :: s.crashWords
  (es.flatMap fun e => e.2.zipIdx.map fun x => (e.1 + x.2, x.1)).foldl
    (fun m e => mapSet 0 m e.1 (BitVec.ofNat 32 e.2)) []

/-- Words of the record that the AON island gives: MAGIC, the header with INST, TS_DECL, SAVE_SEQ, RCAUSE. -/
def crashAon (s : State) (flags : Nat) : List (Nat × Nat) :=
  [(0, 0x52434C56), (1, 0x0100 + 2 ^ 16 * s.inst + flags), (2, s.num HOLD_SAG_TS_LO), (3, s.num HOLD_SAG_TS_HI),
    (4, (s.hold.saves + 1) % 2 ^ 32), (8, s.num HOLD_RCAUSE)]

/-- The crash record, when the words `missing` were not written (R642, R650). -/
def crashRecord (s : State) (missing : List Nat) : List Word :=
  let partialRec := s.hold.taken.isNone || !missing.isEmpty
  let taken := s.hold.taken.getD []
  let flags := (mapGet 0 taken 1).toNat + (if partialRec then 2 ^ 24 else 0)
  let ws : List Word := (List.range 1024).map fun w =>
    match (s.crashAon flags).find? fun e => e.1 == w with
    | some e => BitVec.ofNat 32 e.2
    | none => if w = 15 then 0 else if s.hold.taken.isNone ∨ missing.contains w then 0xFFFFFFFF else mapGet 0 taken w
  ws.set 15 (crc32 (ws.flatMap fun (w : Word) => toLe 4 w.toNat))

/-- The record in the AON buffer. -/
def aonRecord (s : State) : List Word := (List.range 1024).map fun w => s.rd (aonBuffer w)

end State

/-! ### The sequence -/

/-- A HOLD event (R651). -/
def holdEvent (o : Nat) (s : State) : State := s.ring kHOLD o

/-- The first CKF edge at or after the declaration (R640): the capture edge, when it comes within 100 µs (R642), and what
stops there. -/
def sagEdge (s : State) : State :=
  let inTime := decide (s.now ≤ s.hold.decl + 80000)
  let s := { s with hold := { s.hold with edgeDue := false, cut := false, taken := if inTime then some s.crashTake else none } }
  let s := odrStop (ttbStop (ordersZero s))
  let s := s.each (s.listed (RGN_STAT 0) 0x100 256) fun s n =>
    (rgnDisable n s).put (RGN_STAT.ENABLE_PENDING n) 0
  smbLatch s

/-- A sag is declared (R639, R640, R648). -/
def sagDeclared (s : State) : State :=
  if !s.bit HOLD_CTRL.EN ∨ s.rst.scan ∨ s.rst.por then s
  else
    let s := (s.incSat HOLD_STAT.SAGS).put64 HOLD_SAG_TS_LO s.now
    if s.holdState ≠ 0 then s
    else
      let frame := if s.inst = 0 ∧ s.bit HOLD_FRAME.ARMED then some (s.get HOLD_FRAME.FRAME) else none
      let s := { s.put HOLD_STAT.STATE 1 with
        hold := { s.hold with decl := s.now, edgeDue := true, frame := frame, taken := none, todo := [], due := true } }
      let s := holdEvent 0 s
      if s.locked ∧ !s.rst.inst then sagEdge s else s

/-- The front stage stops for the sag: every region is OFF or FAULTED, or FS_TO has passed (R641). -/
def sagFrontStop (s : State) : State :=
  if s.holdState ≠ 0 ∧ s.fsRuns ∧ (s.liveRegions.all (fun n => s.rgnState n == 5) ∨
      s.hold.decl + 800 * s.get HOLD_CTRL.FS_TO ≤ s.now) then frontFault 9 s
  else s

/-- Nothing is left to program: HOLDING follows SAVING, and HOLD offset 2 is written (R647, R651). -/
def savesDone (s : State) : State :=
  if s.hold.todo.isEmpty then holdEvent 2 (if s.holdState = 2 then s.put HOLD_STAT.STATE 3 else s) else s

/-- The crash record stands in the AON buffer (R642, R643): the words `missing` were not written when the CTRL island stopped
being good before, and `peers` are the instances that answer over the AON lanes. Without a CKF edge time passes to 100 µs
after the declaration. The save starts when a frame was armed. -/
def captureDone (missing peers : List Nat) (s : State) : State :=
  if s.holdState ≠ 1 ∨ !s.hold.due then s
  else
    let s := if s.hold.edgeDue then s.advanceTo (BitVec.ofNat 64 (s.hold.decl + 80000)) else s
    let missing := if s.hold.cut then missing else []
    let partialRec := s.hold.taken.isNone || !missing.isEmpty
    let rec_ := s.crashRecord missing
    let s := s.each rec_.zipIdx fun s e => s.wr (aonBuffer e.2) e.1
    let s := { s with hold := { s.hold with taken := none, due := false, kept := [], saves := s.hold.saves + 1 } }
    let s := if partialRec then holdEvent 3 (s.put HOLD_STAT.PARTIAL 1) else s
    if s.inst = 0 then
      let all := (List.range 4).filter fun k => k == 0 || peers.contains k
      if s.hold.frame.isSome then
        { (s.put HOLD_FRAME.ARMED 0).put HOLD_STAT.STATE 2 with hold := { s.hold with todo := all } }
      else holdEvent 3 { s.put HOLD_STAT.NOFRAME 1 with hold := { s.hold with kept := all } }
    else if peers.contains 0 then { s.put HOLD_STAT.STATE 2 with hold := { s.hold with todo := [s.inst] } }
    else { s with hold := { s.hold with kept := [s.inst] } }

/-- The AON flash path has programmed the record of instance k (R644): on instance 0 into the frame, from its own buffer or
from the words that instance k sent. -/
def recordProgrammed (k : Nat) (words : List Word) (s : State) : State :=
  if s.hold.todo.head? = some k then
    let s :=
      match s.hold.frame with
      | some f =>
        let ws := if k = s.inst then s.aonRecord else words.take 1024
        let base := 0x1010000 + 0x4000 * f + 0x1000 * k
        if s.inst = 0 then flashWrite base (ws.flatMap fun (w : Word) => toLe 4 w.toNat) s else s
      | none => s
    let s := s.put HOLD_STAT.DONE (setBitN (s.get HOLD_STAT.DONE) k)
    savesDone { s with hold := { s.hold with todo := s.hold.todo.drop 1 } }
  else s

/-- Is a record of the sequence not in flash? -/
def State.unsaved (s : State) : Bool := s.holdState == 1 || !s.hold.todo.isEmpty || !s.hold.kept.isEmpty

/-- Caboose's HOLD_SAVE pin, at a CKF edge with CTRL good and no instance reset (R646). -/
def saveRaise (s : State) : State :=
  if s.hold.saveDue ∧ s.locked ∧ s.bit TIM_STAT.CTRL_GOOD ∧ !s.rst.inst then
    { s with hold := { s.hold with saveDue := false } }.pulse 27
  else s

/-- 32 ms have passed since the declaration, to which time passes (R646). -/
def saveTimeout (s : State) : State :=
  if s.holdState ≠ 0 ∧ s.unsaved then
    let s := s.advanceTo (BitVec.ofNat 64 (s.hold.decl + 25600000))
    let s := holdEvent 3 (s.put HOLD_STAT.TIMEOUT 1)
    saveRaise { s with hold := { s.hold with saveDue := true } }
  else s

/-- The records still held in AON buffers go into the frame that SEC has armed (R646). -/
def keptSave (s : State) : State :=
  if s.inst = 0 ∧ s.bit HOLD_FRAME.ARMED ∧ s.holdState = 0 ∧ !s.hold.kept.isEmpty then
    { s.put HOLD_FRAME.ARMED 0 with
      hold := { s.hold with frame := some (s.get HOLD_FRAME.FRAME), todo := s.hold.kept, kept := [] } }
  else s

/-- The pin has been at or above TH + HYST for 1 ms (R647): the sequence ends. -/
def sagEnd (s : State) : State :=
  let st := s.holdState
  let idle := s.hold.todo.isEmpty && !s.hold.due
  if st = 3 ∨ ((st = 1 ∨ st = 2) ∧ idle) then keptSave (holdEvent 1 (s.put HOLD_STAT.STATE 0)) else s

/-- A write of HOLD_FRAME (R643, R646): a frame that SEC arms takes the records still held in AON buffers. -/
def holdFrameWrite (v : Word) (s : State) : State := keptSave (storeReg HOLD_FRAME v s)

end Sys2Proof.Machine
end

