-- ==== Sys2Proof/Machine/PmbusOps.lean ====
section
/-! DEFINITION. Machine/PmbusOps.lean: the PMBus target (R626..R630): data formats, status words and the alert. Replies are
lists of bytes, least significant first, one byte a word. -/

namespace Sys2Proof.Machine

/-- n bytes of a value, least significant first, one byte a word. -/
def smbBytes (n v : Nat) : List Word := (List.range n).map fun k => BitVec.ofNat 32 (v / 256 ^ k % 256)

/-- round(num / den), halves upwards. -/
def roundHalfUp (num : Int) (den : Nat) : Int := floorDiv (2 * num + den) (2 * den)

/-- Y of R628 for value num / den and exponent n. -/
def linearY (num : Int) (den : Nat) (n : Int) : Int :=
  if 0 ≤ n then roundHalfUp num (den * 2 ^ n.toNat) else roundHalfUp (num * (2 ^ (-n).toNat : Nat)) den

/-- The LINEAR11 word of num / den with N between lo and hi: the smallest N for which Y fits (R628). -/
def linear11 (num : Int) (den : Nat) (lo hi : Int) : Option Nat :=
  let ns := (List.range (hi - lo + 1).toNat).map fun (k : Nat) => lo + (k : Int)
  (ns.find? fun n => decide (-1024 ≤ linearY num den n) && decide (linearY num den n ≤ 1023)).map fun n =>
    ofSigned 5 n * 2 ^ 11 + ofSigned 11 (linearY num den n)

/-- Reply with a LINEAR11 word; a value outside the command's range has no stated word, and a free value stands there. -/
def replyLinear (w : Option Nat) (s : State) : State :=
  match w with
  | some v => s.answer (smbBytes 2 v)
  | none =>
    let (f, s) := s.drawFree
    s.answer (smbBytes 2 f.toNat)

/-- Reply with the largest of temperatures in 1/den °C; with none there is no stated value. -/
def replyHottest (l : List Int) (den : Nat) (s : State) : State :=
  match l with
  | [] => replyLinear none s
  | t :: ts => replyLinear (linear11 (ts.foldl max t) den (-4) 0) s

/-- A bit of STATUS_CML latches (R627, R629, R630). -/
def cmlLatch (b : Nat) (s : State) : State :=
  let o := s.smb
  let c := setBitN o.cml b
  { s with smb := { o with cml := c, alert := o.alert || (s.bit MCH_SMB.ALERT_EN && c != o.cml) } }

/-- The sub-status bits are up to date with the last CKF edge. -/
def smbFresh (s : State) : State := if s.locked then smbLatch s else s

namespace State

/-- STATUS_WORD, formed from the latched bits (R629). Every sub-status byte has a summary bit, so NONE_OF_THE_ABOVE is 0. -/
def statusWord (s : State) : Nat :=
  let b (c : Bool) (k : Nat) : Nat := if c then 2 ^ k else 0
  let o := s.smb
  b (o.vout != 0) 15 + b (o.iout != 0) 14 + b (o.input != 0) 13 + b (o.mfr != 0) 12 + b (!s.bit XPH_STAT.PG) 11 +
    b (s.fsState != 2) 6 + b (bitOf o.vout 7) 5 + b (bitOf o.iout 7) 4 + b (bitOf o.input 4) 3 + b (o.temp != 0) 2 +
    b (o.cml != 0) 1

/-- The SMBus address of the target (R626). -/
def smbAddr (s : State) : Nat := 0x60 + 4 * s.rst.asel + s.inst

/-- SMBALERT# is driven low (R630). -/
def smbAlert (s : State) : Bool := s.smb.alert && s.bit MCH_SMB.ALERT_EN

/-- The level that the instance drives on ball SMBALERT# (R630, R665). -/
def pinAlert (s : State) : Pwm :=
  if s.rst.scan then s.scanLevel .smbAlert else if s.smbAlert then .low else .hiZ

end State

/-- A transaction: the target answers in instance reset too, and its pins are high-impedance in power-on reset (R638). -/
def smbDo (k : State → State) (s : State) : State := if s.rst.por then s else k s

/-- Reply with registers, four bytes each. -/
def replyRegs (as : List Nat) (s : State) : State := s.answer (as.flatMap fun a => smbBytes 4 (s.blockView a).toNat)

/-- Reply with the bytes of a name. -/
def replyText (t : String) (s : State) : State := s.answer (t.toList.map fun c => BitVec.ofNat 32 c.toNat)

end Sys2Proof.Machine
end

