-- ==== Sys2Proof/Machine/ResetOps.lean ====
section
/-! DEFINITION. Machine/ResetOps.lean: the resets (spec/21_reset_and_holdup.md), lock and loss of lock, and the power
islands (spec/02_time_and_clocks.md). -/

namespace Sys2Proof.Machine

/-! ### Resets (R633..R637) -/

/-- Does a source hold instance reset asserted (R635, R665)? A HOLD_RST write holds it for 1 µs. -/
def State.resetHeld (s : State) : Bool :=
  s.rst.por || s.rst.pin || s.rst.scan || !s.bit TIM_STAT.CTRL_GOOD || s.rst.soft.any fun w => decide (s.now < w + 800)

/-- Everything of the CTRL island and the cell sea that an instance reset resets, beside the AON island (R633): the window
but for the registers of power-on reset, the memories, and all hidden state; the energy accumulator stays with PWR_EIN
(R374), and the links' reports of their routes are not Velol's. -/
def resetCtrl (s : State) : State :=
  let up := s.cplrEp.filterMap fun e => if e.2.up then some (e.1, ({ up := true } : CplrEp)) else none
  { resetWindow s with
    latch := [], cell := [], rgn := [], cfg := .idle, ph := [], xph := { ripEdges := s.tim.edges }, loop := [], lpe := {}, trc := [], ttb := {},
    odr := {}, skid := [], tndr := {}, pwr := { ein := s.pwr.ein, einCap := s.pwr.ein, einIvl := s.pwr.ein },
    pwrRgn := [], wblGrp := [], cplr := {}, cplrEp := up, cplrSlot := [], sns := {}, snsConv := [], snsComp := [],
    thmSensor := [], thmGroup := [], thm := {}, cbse := {}, tlm := {},
    fw := { flash := s.fw.flash, quiet := s.now }, core := [], cache := [], ram := [], yutre := [], pst := {}, mch := [],
    tim := { s.tim with counted := s.tim.edges }, sea := { cks := s.cks } }

/-- Instance reset is asserted: CBSE_FIRST keeps the last record as a prior one (R487). -/
def assertReset (s : State) : State :=
  if s.rst.inst then s
  else
    let s := resetCtrl s
    State.newCycle <| loadEfuse
      { (s.put CBSE_FIRST.PRIOR 1).put CBSE_FIRST.OPEN 0 with rst := { s.rst with inst := true } }

/-- Instance reset is released at a CKF edge (R635): the lines follow the combiner (R342), the edges caught meanwhile are
delivered (R604), a HOLD_SAVE that waits is latched (R646), and SEC runs its ROM (R537). -/
def releaseReset (s : State) : State :=
  if s.rst.inst ∧ !s.resetHeld ∧ s.locked then
    let s := { s with rst := { s.rst with inst := false, soft := none, released := s.now }, fw := { s.fw with quiet := s.now, hostAt := s.now },
                      pwr := { s.pwr with ivlStart := s.now / 8000000 * 8000000 },
                      tlm := { s.tlm with ageAt := s.cks },
                      thm := { s.thm with guardAt := s.now },
                      snsConv := [0, 1, 2, 3].map fun k => (k, { settle := some (s.rst.ctrlAt + 16000) }) }
    let s := saveRaise s
    romBoot (edgesRelease (reinAll s))
  else s

/-- Power-on reset (R633, R634): everything but the eFuses and the flash; TS is 0 and the straps are sampled. -/
def powerOnReset (asel : Nat) (s : State) : State :=
  let s := resetCtrl { s with ts := 0 }
  loadEfuse
    { s with regs := [], ts := 0, tim := {}, smb := {}, hold := {}, pwr := {},
             rst := { por := true, pin := s.rst.pin, scan := s.rst.scan, cells := s.rst.cells, asel := asel, inst := true } }

/-- A source of instance reset sets its bit in HOLD_RCAUSE (R635). -/
def noteCause (f : Fld) (s : State) : State := s.put f 1

/-- Power-on reset is released (R637): PLL_EN is written, at the first reference edge when there is none yet. -/
def releasePor (s : State) : State :=
  if s.rst.por then
    let s := { s with rst := { s.rst with por := false } }
    let s := if s.bit TIM_STAT.CTRL_GOOD then s else noteCause HOLD_RCAUSE.CTRL_PG s
    let s := if s.rst.pin then noteCause HOLD_RCAUSE.PIN s else s
    if s.bit TIM_STAT.REF_PRESENT then s.put TIM_CTRL.PLL_EN 1 else { s with rst := { s.rst with pllDue := true } }
  else s

/-- An accepted write of HOLD_RST (R635, R636); instance reset holds the cores already. -/
def holdRstWrite (v : Word) (s : State) : State :=
  if v = 0x5A01 then
    let s := noteCause HOLD_RCAUSE.SW_INST s
    let s := assertReset s
    { s with rst := { s.rst with soft := some s.now } }
  else if v = 0x5A02 then
    let s := noteCause HOLD_RCAUSE.SW_FW s
    if s.rst.inst then s else firmwareReset s
  else s

/-- A write in the HOLD block; the AON record buffer is read-only. -/
def holdWrite (a : Nat) (v : Word) (s : State) : State :=
  if a = HOLD_FRAME then holdFrameWrite v s
  else if a = HOLD_RST then holdRstWrite v s
  else storeReg a v s

/-! ### Clocks (R39..R47, R674) -/

/-- Every cell with a state of its own. -/
def State.touchedCells (s : State) : List Nat := s.listed (CELL_STAT 0) 0x40 3072

/-- The fast clocks stop and CKA changes source (R42, R44): the lock detector drives the safe states (R43), and Tender's
orders fall to 0 (R352). -/
def clocksStop (s : State) : State :=
  let backup := !s.bit TIM_STAT.REF_PRESENT
  let s := countEdges s
  let s := ((s.put TIM_STAT.PLL_LOCK 0).put TIM_STAT.TS_COARSE 1).put TIM_STAT.TS_ALIGNED 0
  let s := if backup then (s.put TIM_STAT.CKA_SRC 2).put TIM_STAT.TS_DEGRADED 1 else s.put TIM_STAT.CKA_SRC 1
  let s := { s with tim := { s.tim with lockSafe := true } }
  let s := s.each [0, 1, 2, 3] fun s k => s.setSconv k { s.sconv k with cur := none }
  ordersZero (frontFault 8 (safeBegins s.touchedCells s))

/-- Loss of lock is declared (R41, R42): it is fatal, and Caboose latches it after the relock (R481). -/
def lossOfLock (refAbsent : Bool) (s : State) : State :=
  if s.locked then
    let s := ((s.putB TIM_STAT.REF_PRESENT (!refAbsent)).put TIM_STAT.LOCK_LOST 1).incSat TIM_LOCK_CNT.COUNT
    clocksStop { s with tim := { s.tim with unlockDue := true, unlockTs := s.ts } }
  else s

/-- A write of TIM_CTRL (R40, R47, R674): a phase that is DISABLED, IDLE or LATCHED counts as latched off or disabled
(R165). -/
def timCtrlWrite (v : Word) (s : State) : State :=
  if fldGet v 0 0 = 1 then s.put TIM_CTRL.PLL_EN 1
  else if !s.bit TIM_CTRL.PLL_EN then s
  else if !s.liveRegions.isEmpty || (List.range 32).any fun p => s.phState p != 0 && s.phState p != 1 && s.phState p != 5 then
    s.put TIM_STAT.PLL_OFF_REFUSED 1
  else
    let s := s.put TIM_CTRL.PLL_EN 0
    if s.locked then clocksStop s else s

/-- What waits for a relock acts (R148, R306, R329, R433, R463, R509, R603). -/
def relock (s : State) : State :=
  let s := { s with tim := { s.tim with relocked := true }, sns := { base := [], other := 1 } }
  let s := s.each s.skidRegions fun s n =>
    let s := skidStop n s
    skidSchedule n s.cks s.now (s.setSkidHid n { s.skidHid n with line := 0, due := [] })
  let s := if s.tim.unlockDue then regionsSafe (s.tim.unlockTs.toNat % 2 ^ 32) s else s
  freezeRelock (thmRelock s)

/-- The PLL locks (R40, R45): CKF, CKL and CKS run, aligned to this edge, and CKA is PLL ÷ 128. Without a PLL_UNLOCK to latch, the lock
detector lets the cells go (R674). -/
def pllLock (s : State) : State :=
  if s.bit TIM_CTRL.PLL_EN ∧ !s.locked ∧ s.bit TIM_STAT.REF_PRESENT then
    let s := ((s.put TIM_STAT.PLL_LOCK 1).put TIM_STAT.TS_COARSE 0).put TIM_STAT.CKA_SRC 0
    let s := { s with tim := { s.tim with cksPar := s.tim.edges % 2 } }
    let s := if s.rst.inst then s else relock s
    let s := { s with tim := { s.tim with lockSafe := s.tim.unlockDue, frame := s.now / 100 } }
    let s := if s.tim.lockSafe then s else releaseCells s.touchedCells s
    let s := if s.rst.inst then s else edgesRelease (reinAll s)
    saveRaise (if s.hold.edgeDue ∧ !s.rst.inst then sagEdge s else s)
  else s

/-- The reference stops while the PLL is not locked (R39, R52). -/
def referenceAbsent (s : State) : State :=
  if s.locked then s
  else ((s.put TIM_STAT.REF_PRESENT 0).put TIM_STAT.CKA_SRC 2).put TIM_STAT.TS_DEGRADED 1

/-- The reference returns while the PLL is not locked (R39, R44, R637). -/
def referenceReturn (s : State) : State :=
  if s.locked then s
  else
    let s := (s.put TIM_STAT.REF_PRESENT 1).put TIM_STAT.CKA_SRC 1
    if s.rst.pllDue ∧ !s.rst.por then { s.put TIM_CTRL.PLL_EN 1 with rst := { s.rst with pllDue := false } } else s

/-- A write in the TIM block. -/
def timWrite (a : Nat) (v : Word) (s : State) : State :=
  if a = TIM_CTRL then timCtrlWrite v s else if a = TIM_TS_ADJ then tsAdjWrite v s else storeReg a v s

/-! ### The CTRL island (R61..R63) -/

/-- The CTRL island becomes good. -/
def ctrlGood (s : State) : State :=
  if s.bit TIM_STAT.CTRL_GOOD then s
  else { s.put TIM_STAT.CTRL_GOOD 1 with rst := { s.rst with ctrlAt := s.now } }

/-- The CTRL island stops being good: the cell sea goes with it, and instance reset is asserted (R63, R635). -/
def ctrlLoss (s : State) : State :=
  if s.bit TIM_STAT.CTRL_GOOD then
    let s := { s with hold := { s.hold with cut := s.hold.cut || s.hold.taken.isSome } }
    assertReset (noteCause HOLD_RCAUSE.CTRL_PG ((s.put TIM_STAT.CTRL_GOOD 0).put TIM_STAT.CELL_GOOD 0))
  else s

end Sys2Proof.Machine
end

