-- ==== Sys2Proof/Machine/AccessOps.lean ====
section
/-! DEFINITION. Machine/AccessOps.lean: reading and writing the register window as one observer does it (R12..R19, R35..R38,
R503, R504, R671): the action of every block on a write, the value every offset reads as, the side effects of a read, the
errors of the memories that stand in the window (R495, R496), and the apertures of the debug windows (R551). -/

namespace Sys2Proof.Machine

/-! ### Local memories and the commons -/

namespace State

/-- Bytes o..o+n-1 of memory m (0..11). -/
def ramBytes (s : State) (m o n : Nat) : List Byte := (List.range n).map fun k => s.ramByte m (o + k)

end State

/-- Bytes written to memory m (0..11) at byte offset o (R496): a word with an uncorrectable error is good again; when part of
it was not written the source latches, and that part is not stated. -/
def ramWrite (m o : Nat) (bs : List Byte) (s : State) : State :=
  let s := s.ramPut m o bs
  let os := (List.range bs.length).map (o + ·)
  s.each ((os.map fun a => a / 8 * 8).eraseDups) fun s w =>
    if s.memBad m w then
      let rest := ((List.range 8).map (w + ·)).filter fun a => !os.contains a
      let s := if rest = [] then s else memUe m w s
      let s := { s with cbse := { s.cbse with bad := s.cbse.bad.filter (· != (m, w)) } }
      s.each rest fun s a => let (f, s) := s.drawFree; s.ramPut m a [BitVec.ofNat 8 f.toNat]
    else s

/-- A read of n bytes of memory m (0..11) at byte offset o, within one 8-byte word (R495): none with an uncorrectable
error. -/
def ramRead (m o n : Nat) (s : State) : Option (List Byte) × State :=
  if s.memBad m o then (none, memUe m o s) else (some (s.ramBytes m o n), s)

/-- A write to line `line` of the commons, on behalf of the cores in `writers` (one bit per core): every other core loses
its reservation of that line (R570). -/
def loseReservations (writers line : Nat) (s : State) : State :=
  s.each (List.range 11) fun s i =>
    match (s.coreSt i).resv with
    | some r =>
      if r.line = 0x400000 + line ∧ writers ≠ 2 ^ i then s.setCoreSt i { s.coreSt i with resv := none } else s
    | none => s

/-- The memory and offset that a core address of core i names, when it lies in its local memory or the commons (R530). -/
def coreMem (i a : Nat) : Option (Nat × Nat) :=
  if a < memSize i then some (i, a)
  else if 0x10000000 ≤ a ∧ a < 0x10080000 then some (11, a - 0x10000000)
  else none

/-! ### Writes -/

/-- A write in the VL block: the VL registers, then the firmware registers from 0x100. -/
def vlWrite (a : Nat) (v : Word) (s : State) : State := if a < FW_STAT then storeReg a v s else fwWrite a v s

/-- A write in the XPH block. -/
def xphWrite (a : Nat) (v : Word) (s : State) : State :=
  let p := (a - XPH_PH_CFG 0) / 0x20
  let s := rippleCatch s
  if a = XPH_CMD then frontCommand (fldGet v 3 0) s
  else if a = XPH_CFG then xphCfgWrite v s
  else if a = XPH_OCP then xphOcpWrite v s
  else if a = XPH_VIMPT01 then vimPtWrite false v s
  else if a = XPH_VIMPT23 then vimPtWrite true v s
  else if XPH_PH_CFG 0 ≤ a ∧ a < XPH_PH_CFG 32 ∧ a % 0x20 = 0 then phCfgWrite p v s
  else if XPH_PH_CFG 0 ≤ a ∧ a < XPH_PH_CFG 32 ∧ a % 0x20 = 8 then (if fldGet v 0 0 = 1 then phaseClear p s else s)
  else storeReg a v s

/-- A write in the RGN block. -/
def rgnWrite (a : Nat) (v : Word) (s : State) : State :=
  let n := (a - 0x100000) / 0x100
  let o := (a - 0x100000) % 0x100
  if a = RGN_CFG_CTRL then cfgCtrlWrite v s
  else if n = 0 ∨ 256 ≤ n then storeReg a v s
  else if o = 0x00 then rgnCommand n (fldGet v 3 0) s
  else if o = 0x10 then vsetWrite n v s
  else if 0x20 ≤ o ∧ o < 0x40 then shadowWrite a v s
  else storeReg a v s

/-- A write in the CELL block. -/
def cellWrite (a : Nat) (v : Word) (s : State) : State :=
  let c := (a - 0x200000) / 0x40
  let o := (a - 0x200000) % 0x40
  if 3072 ≤ c then storeReg a v s
  else if o = 0x00 then shadowWrite a v s
  else if o = 0x08 then cellCommand c (fldGet v 3 0) s
  else if o = 0x18 then
    (let s := storeReg a v s
     if s.get (CELL_TRIM.VW c) = 0 then (s.put (CELL_STAT.HYS_LO c) 0).put (CELL_STAT.HYS_HI c) 0 else s)
  else if o = 0x2C then snsWrite c v s
  else if o = 0x38 then testWrite c v s
  else storeReg a v s

/-- A write in the VSN block. -/
def vsnWrite (a : Nat) (v : Word) (s : State) : State :=
  let n := (a - 0x400000) / 0x20
  if 1 ≤ n ∧ n < 256 ∧ a % 0x20 = 0x10 ∧ fldGet v 0 0 = 1 then minvClear n s else storeReg a v s

/-- A write in the LPE block. -/
def lpeBlockWrite (a : Nat) (v : Word) (s : State) : State :=
  if a = LPE_CTRL then lpeCtrlWrite v s
  else if PG_CFG 0 ≤ a ∧ a < PG_CFG 16 then pgWrite ((a - PG_CFG 0) / 0x40) ((a - PG_CFG 0) % 0x40) v s
  else lpeWrite a v s

/-- A write in the TRC block. -/
def trcWrite (a : Nat) (v : Word) (s : State) : State :=
  if a = TRC_CTRL then trcCtrlWrite v s
  else if a = TRC_POST then trcPostWrite v s
  else if a = TRC_TRIG ∨ (TRC_CH_CFG 0 ≤ a ∧ a < TRC_CH_CFG 8 ∧ a % 0x10 = 0) then trcCfgWrite a v s
  else storeReg a v s

/-- A write of the registers of a debug window. A core that stops does so at an address that no rule gives. -/
def dbgWrite (a : Nat) (v : Word) (s : State) : State :=
  let i := (a - DBG_CTRL 0) / 0x40000
  if a % 0x40000 = 0 ∧ i < 11 then
    let (pc, s) := s.drawFree
    dbgCtrlWrite i pc v s
  else storeReg a v s

/-- What the register at window offset a (naturally aligned, below the debug apertures) does with a permitted write of v by
a requester (R17, R35). -/
def regAction (req : Requester) (a : Nat) (v : Word) (s : State) : State :=
  if a < 0x10000 then vlWrite a v s
  else if a < 0x20000 then pstWrite a v s
  else if a < 0x30000 then mchWrite req a v s
  else if a < 0x40000 then cbseWrite a v s
  else if a < 0x80000 then timWrite a v s
  else if a < 0x100000 then xphWrite a v s
  else if a < 0x200000 then rgnWrite a v s
  else if a < 0x400000 then cellWrite a v s
  else if a < 0x600000 then vsnWrite a v s
  else if a < 0x680000 then snsBlockWrite a v s
  else if a < 0x700000 then thmWrite a v s
  else if a < 0x800000 then lpeBlockWrite a v s
  else if a < 0x1000000 then ttbWrite a v s
  else if a < 0x1100000 then odrWrite a v s
  else if a < 0x1200000 then storeReg a v s
  else if a < 0x1300000 then skidWrite a v s
  else if a < 0x1400000 then pwrWrite a v s
  else if a < 0x1500000 then cplrWrite a v s
  else if a < 0x1600000 then tlmWrite a v s
  else if a < 0x1700000 then ageWrite a v s
  else if a < 0x1800000 then holdWrite a v s
  else if a < 0x1C00000 then trcWrite a v s
  else dbgWrite a v s

/-- A naturally aligned 32-bit write by a requester to a register (R36..R38, R671); the rate combiner of every engine group
follows its registers (R336). -/
def regWrite (req : Requester) (a : Nat) (v : Word) (s : State) : State :=
  gated req a v (fun v s => reinAll (regAction req a v s)) s

/-- The word that a narrow write would leave in the register that reads old. -/
def narrowMerge (w : Width) (a : Nat) (old v : Word) : Word :=
  let lo := 8 * (a % 4)
  fldSet old (min 31 (lo + 8 * w.bytes - 1)) lo (v.toNat % 2 ^ (8 * w.bytes))

/-- A write narrower than 32 bits, or not naturally aligned (R13): recorded when the requester may not make it. -/
def narrowWrite (req : Requester) (w : Width) (addr : Nat) (v : Word) (s : State) : State :=
  let a := addr / 4 * 4
  let m := narrowMerge w addr (s.rd a) v
  let held : Bool :=
    match regDef? a with
    | some r => restrictedWord r req.code (s.rd a) m != m
    | none => false
  if deniedWhole req a (if a = HOLD_RST then 0x5A01 else m) s || held then recordDenied req a s else s

/-! ### Reads -/

/-- The pairs of R15: the offsets of the low and the high half of the 64-bit counter whose low or high half stands at a. -/
def counterPair (a : Nat) : Option (Nat × Nat) :=
  let one (lo hi : Nat) : Option (Nat × Nat) := if a = lo ∨ a = hi then some (lo, hi) else none
  let arr (lo : Nat) (stride n : Nat) : Option (Nat × Nat) :=
    let i := (a - lo) / stride
    if lo ≤ a ∧ i < n ∧ ((a - lo) % stride = 0 ∨ (a - lo) % stride = 4) then some (lo + stride * i, lo + stride * i + 4)
    else none
  if a < 0x40000 then one CBSE_FIRST_TS_LO CBSE_FIRST_TS_HI
  else if a < 0x80000 then one TIM_TS_LO TIM_TS_HI
  else if a < 0x800000 then arr (PG_X_LO 0) 0x40 16
  else if a < 0x1180000 then arr (REIN_LIMCYC_LO 0) 0x20 64
  else if a < 0x1200000 then one TNDR_EFIL_LO TNDR_EFIL_HI
  else if a < 0x1300000 then arr (SKID_STRCYC_LO 0) 0x40 256
  else if a < PWR_OP 0 0 then one PWR_EIN_LO PWR_EIN_HI
  else if a < 0x1380000 then arr (PWR_RE_LO 0) 0x80 256
  else if a < 0x1400000 then ((arr (WBL_TOT_LO 0) 0x20 16) <|> (arr (WBL_FTOT_LO 0) 0x20 16))
  else if a < 0x1600000 then one TLM_FRZ_TS_LO TLM_FRZ_TS_HI
  else if a < 0x1800000 then one HOLD_SAG_TS_LO HOLD_SAG_TS_HI
  else one TRC_TRIG_TS_LO TRC_TRIG_TS_HI

/-- The registers whose value follows the clock edges that have passed. -/
def edgeCounted (a : Nat) : Bool :=
  (decide (REIN_LIMCYC_LO 0 ≤ a) && decide (a < REIN_LIMCYC_LO 64)) || (decide (0x1200000 ≤ a) && decide (a < 0x1300000))

/-- The memory that stands in the window at offset a, and where it begins (R498). -/
def windowMem (a : Nat) : Option (Nat × Nat) :=
  if 0x740000 ≤ a ∧ a < 0x780000 then some (14, 0x740000)
  else if 0x800000 ≤ a ∧ a < 0x900000 then some (12, 0x800000)
  else if 0x1010000 ≤ a ∧ a < 0x1020000 then some (13, 0x1010000)
  else if 0x1440000 ≤ a ∧ a < 0x1480000 then some (16, 0x1440000)
  else if 0x1510000 ≤ a ∧ a < 0x1540000 then some (17, 0x1510000)
  else if 0x1800000 ≤ a ∧ a < 0x1840000 then some (15, 0x1800000)
  else none

/-- Word i of the telemetry shadow as a read finds it. While an unload runs, 66 CKF cycles pass for each tile (R511): tiles
behind it are new, tiles before it old, and in the tile being written SEQ is odd and every other word either. -/
def shadowRead (i : Nat) (s : State) : Word × State :=
  match s.tlm.run with
  | none => (s.rd (TLM_SHADOW i), s)
  | some r =>
    let at0 := (s.tim.edges - r.edge) / 66
    let t := i / 256
    let seq := 2 * s.num TLM_FRZ_NUM
    let fresh := if i % 256 = 0 then BitVec.ofNat 32 seq else mapGet 0 r.image i
    if 80 ≤ t ∨ at0 < t then (s.rd (TLM_SHADOW i), s)
    else if t < at0 then (fresh, s)
    else if i % 256 = 0 then (BitVec.ofNat 32 (seq - 1), s)
    else
      let (f, s) := s.drawFree
      (if f.toNat % 2 = 0 then fresh else s.rd (TLM_SHADOW i), s)

namespace State

/-- The value that a register reads as for a requester, without the effects of the read: high halves as latched for it
(R503, R504), the views of the blocks, and the stored word elsewhere. -/
def regView (s : State) (req : Requester) (a : Nat) : Word :=
  match counterPair a with
  | some (_, hi) => if a = hi then latchedHi req hi s else s.blockView a
  | none =>
    if a = FW_STAT then s.viewFwStat
    else if a = FW_ACT then s.viewFwAct
    else if a = PST_STAT then PST_STAT.C0ACT.set (min 0xFF s.pst.c0.length) (s.rd a)
    else if a = MCH_SMB then MCH_SMB.ADDR.set s.smbAddr (s.rd a)
    else if a = CPLR_RXC1 then BitVec.ofNat 32 (mapGet 0 s.cplr.rxPeer req.code)
    else
      match indexIn (PST_CORE 0) 4 11 a with
      | some i => s.viewPstCore i
      | none =>
      match indexIn (VSN_MINV_TSL 0) 0x20 256 a with
      | some _ => latchedHi req a s
      | none =>
      match indexIn (VSN_MINV_TSH 0) 0x20 256 a with
      | some _ => latchedHi req a s
      | none => s.blockView a

end State

/-- A read of a word of a memory in the window (R495); words that no rule defines read as 0 (R14). -/
def memRead (m base a : Nat) (s : State) : Word × State :=
  if (regDef? a).isNone then (0, s)
  else if s.memBad m (a - base) then (0xFFFFFFFF, memUe m (a - base) s)
  else if m = 17 then shadowRead ((a - base) / 4) s
  else (s.rd a, s)

/-- A read of an aligned word of the window by a requester: the value, and the state after the read's side effects: claims
(R594, R606, R607), completion records (R427), latches (R15, R155), and cleared RC fields (R17). -/
def regRead (req : Requester) (a : Nat) (s : State) : Word × State :=
  match windowMem a with
  | some (m, base) => memRead m base a s
  | none =>
    if a = PST_HOST_CLAIM then (let r := hostClaim (windowsCatch s); (BitVec.ofNat 32 r.1, r.2))
    else if a = CPLR_RXC0 then (let t := completionRead req s; (t.rdata.getD 0 0, { t with rdata := s.rdata }))
    else
      match indexIn (MCH_CH_CLAIM 0) 0x80 32 a with
      | some c => (let r := chClaim req c s; (BitVec.ofNat 32 r.1, r.2))
      | none =>
        let s := if edgeCounted a then countEdges s else s
        let s := if CELL_MAP 0 ≤ a ∧ a < CELL_MAP 3072 then seaCatch s else s
        let s := if TTB_CTRL ≤ a ∧ a < OUT_CTL then ttbCatch s else s
        let s := compCatch a s
        let s := if a = FW_STAT ∨ a = FW_HOST_HB then hostTo s else s
        let s := if MCH_CFG ≤ a ∧ a < MCH_CH_PEER 32 then fillTimeouts s else s
        let w := s.regView req a
        let s :=
          match counterPair a with
          | some (lo, hi) => if a = lo then latchHi req hi (s.blockView hi) s else s
          | none =>
            match indexIn (VSN_MINV 0) 0x20 256 a with
            | some n => minvLatch req n s
            | none => s
        (w, clearRC a s)

/-! ### The apertures of the debug windows (R551, R579) -/

/-- The core and the core address that a window offset reaches through the aperture of a debug window. -/
def apertureAddr (s : State) (a : Nat) : Option (Nat × Nat) :=
  let i := (a - 0x1C00000) / 0x40000
  let o := (a - 0x1C00000) % 0x40000
  if 0x1C00000 ≤ a ∧ i < 11 ∧ 0x20000 ≤ o then some (i, (s.num (DBG_APBASE i) + (o - 0x20000)) % 2 ^ 32) else none

/-- The bytes of a word, the least significant first. -/
def wordBytes (w : Word) : List Byte := toLe 4 w.toNat

/-- A write through the aperture of core i to the core address ca: its memories directly, the register window as the
requester's own access (one level), host memory for the cores of the Head group. -/
def apertureWrite (req : Requester) (i ca : Nat) (v : Word) (s : State) : State :=
  match coreMem i ca with
  | some (m, o) =>
    let s := ramWrite m o (wordBytes v) s
    if m = 11 then loseReservations 0 (o / 64) s else s
  | none =>
    if 0x40000000 ≤ ca ∧ ca < 0x42000000 then
      (if (apertureAddr s (ca - 0x40000000)).isSome then s else regWrite req (ca - 0x40000000) v s)
    else if 0x80000000 ≤ ca ∧ ca < 0xC0000000 ∧ i < 3 then
      { s with out := { s.out with aperture := s.out.aperture ++ [(ca - 0x80000000, wordBytes v)] } }
    else s

/-- A read through the aperture of core i at the core address ca; a word of host memory is not stated. -/
def apertureRead (req : Requester) (i ca : Nat) (s : State) : Word × State :=
  match coreMem i ca with
  | some (m, o) =>
    (match ramRead m o 4 s with
     | (some bs, s) => (BitVec.ofNat 32 (leBytes bs), s)
     | (none, s) => (0xFFFFFFFF, s))
  | none =>
    if 0x40000000 ≤ ca ∧ ca < 0x42000000 then
      (if (apertureAddr s (ca - 0x40000000)).isSome then (0, s) else regRead req (ca - 0x40000000) s)
    else if 0x80000000 ≤ ca ∧ ca < 0xC0000000 ∧ i < 3 then s.drawFree
    else (0, s)

/-! ### Accesses to the window -/

/-- A write to the window (R12, R13, R36); while instance reset is asserted, only the registers that it does not hold take
writes (R62, R633). -/
def windowWrite (req : Requester) (w : Width) (a : Nat) (v : Word) (s : State) : State :=
  if s.rst.inst ∧ !keptByInstanceReset a then s
  else if w = .b32 ∧ a % 4 = 0 then
    match apertureAddr s a with
    | some (i, ca) => if deniedWhole req a v s then recordDenied req a s else apertureWrite req i ca v s
    | none => regWrite req a v s
  else narrowWrite req w a v s

/-- The bytes of word v that an access of a width addresses, in the low bits. -/
def narrowRead (w : Width) (a : Nat) (v : Word) : Word :=
  BitVec.ofNat 32 ((v >>> (8 * (a % 4))).toNat % 2 ^ (8 * w.bytes))

/-- A read of the window (R12..R15): a narrow read returns the addressed bytes and has the side effects of the whole
word's; none while instance reset holds what they act on (R633). -/
def windowRead (req : Requester) (w : Width) (a : Nat) (s : State) : Word × State :=
  let wa := a / 4 * 4
  let r :=
    if s.rst.inst then (s.regView req wa, s)
    else
      match apertureAddr s wa with
      | some (i, ca) => apertureRead req i ca s
      | none => regRead req wa s
  (narrowRead w a r.1, r.2)

end Sys2Proof.Machine
end

