-- ==== Sys2Proof/Machine/Access.lean ====
section
/-! DEFINITION. Machine/Access.lean: the meanings of the plain register accesses (spec/00_scope.md, spec/01_architecture.md,
spec/16_telemetry_and_ageing.md). -/

namespace Sys2Proof.Machine

/-- A write to a register (R12..R19, R36..R38, R671). -/
def execRegisterWrite (req : Requester) (width : Width) (addr : Offset) (value : Word) (s : State) : Out :=
  .next (windowWrite req width addr.toNat value s)

/-- A read of the low half of a 64-bit counter (R15, R503), or of any other offset. -/
def execCounterLowRead (req : Requester) (width : Width) (addr : Offset) (s : State) : Out :=
  .next (let r := windowRead req width addr.toNat s; r.2.answer [r.1])

/-- A read of a register with RC fields (R17), or of any other offset. -/
def execReadClear (req : Requester) (width : Width) (addr : Offset) (s : State) : Out :=
  .next (let r := windowRead req width addr.toNat s; r.2.answer [r.1])

end Sys2Proof.Machine
end

