-- ==== Sys2Proof/Machine/Caboose.lean ====
section
/-! DEFINITION. Machine/Caboose.lean: the meanings of the fault collector's commands and events (spec/15_caboose.md). -/

namespace Sys2Proof.Machine

/-- Caboose samples its pins at a CKF edge (R480). -/
def execFaultLatch (t : Dword) (s : State) : Out := .next (s.running fun s => faultLatch (s.advanceTo t))

/-- A write of CBSE_STATUS_LO or, with `hi`, CBSE_STATUS_HI (R486). -/
def execStatusClear (req : Requester) (hi : Bool) (value : Word) (s : State) : Out :=
  .next (gated req (if hi then CBSE_STATUS_HI else CBSE_STATUS_LO) value (statusClear hi) s)

/-- A write of CBSE_FORCE_LO or, with `hi`, CBSE_FORCE_HI (R492). -/
def execForceWrite (req : Requester) (hi : Bool) (value : Word) (s : State) : Out :=
  .next (gated req (if hi then CBSE_FORCE_HI else CBSE_FORCE_LO) value (forceWrite hi) s)

/-- A read of memory m at byte offset `off` finds a correctable error (R495). -/
def execMemoryCorrectedError (t : Dword) (m : MemIx) (off : BitVec 20) (s : State) : Out :=
  .next (s.running fun s => memCe m.val (off.toNat % memSize m.val) (s.advanceTo t))

/-- A read of memory m at byte offset `off` finds an uncorrectable error; a read by the fabric returns all ones (R495). -/
def execMemoryUncorrectableError (t : Dword) (m : MemIx) (off : BitVec 20) (fabric : Bool) (s : State) : Out :=
  .next (s.running fun s =>
     let s := memUe m.val (off.toNat % memSize m.val) (s.advanceTo t)
     if fabric then s.answer [0xFFFFFFFF] else s)

/-- The scrubber of memory m reads its next word (R497). -/
def execScrubRead (t : Dword) (m : MemIx) (found : Fin 3) (s : State) : Out :=
  .next (s.running fun s => scrubRead m.val found.val (scrubTo m.val (s.advanceTo t)))

end Sys2Proof.Machine
end

