-- ==== Sys2Proof/Machine/CoreMemOps.lean ====
section
/-! DEFINITION. Machine/CoreMemOps.lean: the memory model among the cores (spec/18_memory_model.md): memory kinds, store
buffers, the three group caches, release and acquire, atomics at the commons and reservations. -/

namespace Sys2Proof.Machine

/-- The requester of core i (R529). -/
def coreReq (i : Nat) : Requester :=
  if i = 0 then .sec else if i = 1 then .pmc else if i = 2 then .sch else .cc (Fin.ofNat 8 (i - 3))

/-- The group of core i (R529): Head 0, A 1, B 2. -/
def coreGroup (i : Nat) : Nat := if i < 3 then 0 else if i < 7 then 1 else 2

/-- The memory kinds of R556, with the offset inside the memory, the window or the aperture; nowhere where R530 maps
nothing. -/
inductive MemKind where
  | loc (o : Nat) | commons (o : Nat) | wmem (o : Nat) | device (o : Nat) | host (o : Nat) | nowhere
  deriving DecidableEq, Repr

/-- Is window offset o in one of the memories of kind WMEM (R556)? -/
def isWmem (o : Nat) : Bool :=
  (decide (0x800000 ≤ o) && decide (o < 0x900000)) || (decide (0x1010000 ≤ o) && decide (o < 0x1020000)) ||
    (decide (0x1440000 ≤ o) && decide (o < 0x1480000)) || (decide (0x1510000 ≤ o) && decide (o < 0x1540000)) ||
    (decide (0x1800000 ≤ o) && decide (o < 0x1840000))

/-- The kind of core address a of core i (R530, R556). -/
def memKind (i a : Nat) : MemKind :=
  match coreMem i a with
  | some (m, o) => if m = 11 then .commons o else .loc o
  | none =>
    if 0x40000000 ≤ a ∧ a < 0x42000000 then
      (if isWmem (a - 0x40000000) then .wmem (a - 0x40000000) else .device (a - 0x40000000))
    else if 0x80000000 ≤ a ∧ a < 0xC0000000 ∧ i < 3 then .host (a - 0x80000000)
    else .nowhere

/-! ### Writes at the commons -/

/-- Bytes written at the commons on behalf of the cores in `writers` (one bit per core) (R570). -/
def commonsWrite (writers o : Nat) (bs : List Byte) (s : State) : State :=
  loseReservations writers (o / 64) (ramWrite 11 o bs s)

/-! ### Group caches (R556..R558) -/

namespace State

/-- The lines of a group's cache. -/
def lines (s : State) (g : Nat) : List CacheLine := mapGet [] s.cache g

/-- The group's cache holds these lines. -/
def setLines (s : State) (g : Nat) (l : List CacheLine) : State := { s with cache := mapSet [] s.cache g l }

/-- The line of a group's cache that holds address a. -/
def lineAt (s : State) (g a : Nat) : Option CacheLine := (s.lines g).find? fun l => l.line == a / 64

/-- Replace the line of the same address, or add it. -/
def putLine (s : State) (g : Nat) (l : CacheLine) : State :=
  s.setLines g ((s.lines g).filter (fun x => x.line != l.line) ++ [l])

end State

/-- The dirty bytes of a line go to the commons; clean lines write nothing. -/
def lineOut (l : CacheLine) (s : State) : State :=
  s.each (bitsOf l.dirty 64) fun s k =>
    commonsWrite l.writers (64 * l.line + k - 0x10000000) [l.data.getD k 0] s

/-- The line of address a is written back and is clean (R558). -/
def lineClean (g a : Nat) (s : State) : State :=
  match s.lineAt g a with
  | some l => if l.dirty = 0 then s else (lineOut l s).putLine g { l with dirty := 0, writers := 0 }
  | none => s

/-- The lines of the group caches that hold a dirty byte 20 µs, or 16,000 CKF cycles, after its store are written back, when
nothing wrote them back before (R558). -/
def cacheDue (s : State) : State :=
  s.each [0, 1, 2] fun s g =>
    s.each ((s.lines g).filter fun l => l.dirty != 0 && decide (l.since + 16000 ≤ s.tim.edges)) fun s l =>
      lineClean g (64 * l.line) s

/-- The line of address a is written back and leaves the cache (R569). -/
def lineDrop (g a : Nat) (s : State) : State :=
  match s.lineAt g a with
  | some l => (lineOut l s).setLines g ((s.lines g).filter fun x => x.line != l.line)
  | none => s

/-- Every dirty byte of a group's cache goes to the commons (R562). -/
def cacheClean (g : Nat) (s : State) : State := s.each ((s.lines g).map (64 * ·.line)) fun s a => lineClean g a s

/-- A group's cache writes back its dirty bytes and invalidates every line (R563). -/
def cacheDrop (g : Nat) (s : State) : State := (cacheClean g s).setLines g []

/-- The 64 bytes of a line of the commons; a word with an uncorrectable error reads as ones (R495). -/
def lineFetch (a : Nat) (s : State) : List Byte × State :=
  let o := a / 64 * 64 - 0x10000000
  (List.range 8).foldl
    (fun acc k =>
      match ramRead 11 (o + 8 * k) 8 acc.2 with
      | (some bs, s) => (acc.1 ++ bs, s)
      | (none, s) => (acc.1 ++ List.replicate 8 0xFF, s))
    ([], s)

/-- A full cache makes room: it writes back and drops a line; which one is not stated. -/
def cacheRoom (g : Nat) (s : State) : State :=
  let ls := s.lines g
  if ls.length < 512 then s
  else
    let (w, s) := s.drawFree
    lineDrop g (64 * ((ls.map (·.line)).getD (w.toNat % ls.length) 0)) s

/-- The line of a commons address stands in the cache (write-allocate). -/
def lineIn (g a : Nat) (s : State) : State :=
  match s.lineAt g a with
  | some _ => s
  | none =>
    let s := cacheRoom g s
    let (d, s) := lineFetch a s
    s.putLine g ⟨a / 64, d, 0, 0, 0⟩

/-- The line l after core i stored byte b at address a in it, at CKF edge e. -/
def CacheLine.store (l : CacheLine) (i e a : Nat) (b : Byte) : CacheLine :=
  { l with data := l.data.set (a % 64) b, dirty := setBitN l.dirty (a % 64), writers := setBitN l.writers i,
           since := if l.dirty = 0 then e else l.since }

/-- Core i's byte for a commons address reaches its group's cache (R557, R558). -/
def cacheByte (i a : Nat) (b : Byte) (s : State) : State :=
  let g := coreGroup i
  let s := lineIn g a s
  match s.lineAt g a with
  | some l => s.putLine g (l.store i s.tim.edges a b)
  | none => s

/-- A cached copy of a WMEM byte in the writer's own group is updated (R556). -/
def cacheCopy (i a : Nat) (b : Byte) (s : State) : State :=
  match s.lineAt (coreGroup i) a with
  | some l => s.putLine (coreGroup i) { l with data := l.data.set (a % 64) b }
  | none => s

/-! ### Stores -/

/-- The access width of a store of n bytes. -/
def widthOf (n : Nat) : Width := if n = 1 then .b8 else if n = 2 then .b16 else .b32

/-- A store leaves core i's store buffer: into the group cache, or through to a memory of the window (R556). -/
def drainStore (i : Nat) (e : BufStore) (s : State) : State :=
  let bytes (s : State) (f : Nat → Byte → State → State) : State := s.each e.data.zipIdx fun s x => f (e.addr + x.2) x.1 s
  match memKind i e.addr with
  | .commons _ => bytes s (cacheByte i)
  | .wmem o =>
    bytes (windowWrite (coreReq i) (widthOf e.data.length) o (BitVec.ofNat 32 (leBytes e.data)) s) (cacheCopy i)
  | _ => s

/-- Do two stores share a byte? -/
def BufStore.meets (a b : BufStore) : Bool :=
  decide (a.addr < b.addr + b.data.length) && decide (b.addr < a.addr + a.data.length)

/-- The stores of core i's buffer that `go` names leave it, oldest first; one that shares a byte with an older store that
stays, stays too (R559). -/
def drainSome (i : Nat) (go : Nat → BufStore → Bool) (s : State) : State :=
  let c := s.coreSt i
  let r := c.buf.zipIdx.foldl
    (fun (acc : List BufStore × State) e =>
      if go e.2 e.1 && !acc.1.any e.1.meets then (acc.1, drainStore i e.1 acc.2) else (acc.1 ++ [e.1], acc.2))
    ([], s)
  r.2.setCoreSt i { r.2.coreSt i with buf := r.1 }

/-- Core i's store buffer drains into the group cache (R562). -/
def drainAll (i : Nat) (s : State) : State := drainSome i (fun _ _ => true) s

/-- A plain store of core i (R556, R559, R560). LOCAL, DEVICE and HOST stores are performed at once and in order; COMMONS
and WMEM stores enter the store buffer of 8, from which any may then leave. -/
def plainStore (i a : Nat) (bs : List Byte) (s : State) : State :=
  match memKind i a with
  | .loc o => ramWrite i o bs s
  | .device o => windowWrite (coreReq i) (widthOf bs.length) o (BitVec.ofNat 32 (leBytes bs)) s
  | .host o => { s with out := { s.out with aperture := s.out.aperture ++ [(o, bs)] } }
  | .nowhere => s
  | _ =>
    let s := if 8 ≤ (s.coreSt i).buf.length then drainSome i (fun k _ => k == 0) s else s
    let s := s.setCoreSt i { s.coreSt i with buf := (s.coreSt i).buf ++ [⟨a, bs⟩] }
    let (w, s) := s.drawFree
    drainSome i (fun k _ => bitOf w.toNat k) s

/-! ### Ordering (R561..R568) -/

/-- Core i takes an exception with a cause of the RISC-V base architecture: 2 illegal instruction, 5 load access fault,
7 store/AMO access fault. -/
def coreException (i cause : Nat) (s : State) : State := s.setCoreSt i { s.coreSt i with exc := cause }

/-- A release of core i in a scope: 0 GRP, 1 INST, 2 SYS (R562). -/
def release (i scope : Nat) (s : State) : State :=
  let s := drainAll i s
  if scope = 0 then s else cacheClean (coreGroup i) s

/-- An acquire of core i in a scope (R563). -/
def acquire (i scope : Nat) (s : State) : State := if scope = 0 then s else cacheDrop (coreGroup i) s

/-- An ordering instruction of core i; the reserved scope raises an illegal-instruction exception (R564). -/
def ordering (i scope : Nat) (f : State → State) (s : State) : State :=
  if s.coreState i ≠ 1 then s else if scope = 3 then coreException i 2 s else f s

/-! ### Atomics (R569, R570) -/

/-- What an AMO stores. -/
def amoResult (op : AmoOp) (old v : Word) : Word :=
  match op with
  | .swap => v
  | .add => old + v
  | .bxor => old ^^^ v
  | .band => old &&& v
  | .bor => old ||| v
  | .min => if old.toInt ≤ v.toInt then old else v
  | .max => if old.toInt ≤ v.toInt then v else old
  | .minu => if old.toNat ≤ v.toNat then old else v
  | .maxu => if old.toNat ≤ v.toNat then v else old
  | .lr => old
  | .sc => v

/-- Does core i hold a valid reservation of the line of address a (R570)? -/
def State.reserves (s : State) (i a : Nat) : Bool :=
  match (s.coreSt i).resv with
  | some r => r.line == a / 64 && decide (s.tim.edges < r.since + 256)
  | none => false

/-- The access of an atomic at memory m (local or the commons), byte offset o. -/
def atomicAt (i : Nat) (op : AmoOp) (a m o : Nat) (v : Word) (s : State) : Bool × State :=
  let put (w : Word) (s : State) : State :=
    if m = 11 then commonsWrite (2 ^ i) o (toLe 4 w.toNat) s else ramWrite m o (toLe 4 w.toNat) s
  if op = .sc then
    let ok := s.reserves i a
    let s := if ok then put v s else s
    (true, (s.setCoreSt i { s.coreSt i with resv := none }).answer [if ok then 0 else 1])
  else
    match ramRead m o 4 s with
    | (none, s) => (false, coreException i 5 s)
    | (some bs, s) =>
      let old : Word := BitVec.ofNat 32 (leBytes bs)
      let s :=
        if op = .lr then s.setCoreSt i { s.coreSt i with resv := some ⟨a / 64, s.tim.edges⟩ }
        else put (amoResult op old v) s
      (true, s.answer [old])

/-- An atomic of core i (R569): release before when rl, the access, acquire after when aq. An address that is not a multiple
of 4 faults like one that admits no atomics. -/
def atomicAccess (i : Nat) (op : AmoOp) (a : Nat) (v : Word) (aq rl : Bool) (s : State) : State :=
  if s.coreState i ≠ 1 then s
  else
    let s := if rl then release i 1 s else s
    let r : Bool × State :=
      if a % 4 ≠ 0 then (false, coreException i 7 s)
      else
        match memKind i a with
        | .loc o => atomicAt i op a i o v s
        | .commons o =>
          let s := drainSome i (fun _ e => e.addr / 64 == a / 64 || (e.addr + e.data.length - 1) / 64 == a / 64) s
          atomicAt i op a 11 o v (lineDrop (coreGroup i) a s)
        | _ => (false, coreException i 7 s)
    if aq && r.1 then acquire i 1 r.2 else r.2

end Sys2Proof.Machine
end

