-- ==== Sys2Proof/Machine/CoreMem.lean ====
section
/-! DEFINITION. Machine/CoreMem.lean: the meanings of the cores' memory accesses and ordering instructions
(spec/18_memory_model.md). -/

namespace Sys2Proof.Machine

/-- VL.FREL (R562, R564). -/
def execVlFrel (t : Dword) (core : CoreIx) (scope : Fin 4) (s : State) : Out :=
  .next (ordering core.val scope.val (release core.val scope.val) (cacheDue (s.advanceTo t)))

/-- VL.FACQ (R563, R564). -/
def execVlFacq (t : Dword) (core : CoreIx) (scope : Fin 4) (s : State) : Out :=
  .next (ordering core.val scope.val (acquire core.val scope.val) (cacheDue (s.advanceTo t)))

/-- VL.FFULL (R564). -/
def execVlFfull (t : Dword) (core : CoreIx) (scope : Fin 4) (s : State) : Out :=
  .next
    (ordering core.val scope.val (fun s => acquire core.val scope.val (release core.val scope.val s)) (cacheDue (s.advanceTo t)))

/-- FENCE (R568); storesFirst: earlier stores are among the accesses that it orders before later ones. -/
def execFence (t : Dword) (core : CoreIx) (storesFirst : Bool) (s : State) : Out :=
  .next
    (let s := cacheDue (s.advanceTo t)
     if s.coreState core.val = 1 ∧ storesFirst then drainAll core.val s else s)

/-- An AMO, LR or SC (R569, R570). -/
def execAtomic (t : Dword) (core : CoreIx) (op : AmoOp) (addr value : Word) (aq rl : Bool) (s : State) : Out :=
  .next (atomicAccess core.val op addr.toNat value aq rl (cacheDue (s.advanceTo t)))

/-- A reservation ends 256 CKF cycles after its LR (R570): time passes to that. -/
def execReservationExpiry (t : Dword) (core : CoreIx) (s : State) : Out :=
  .next
    (let s := s.advanceTo t
     match (s.coreSt core.val).resv with
     | some r =>
       let s := if s.locked ∧ s.tim.edges < r.since + 256 then s.passEdges (r.since + 256 - s.tim.edges) else s
       if r.since + 256 ≤ s.tim.edges then s.setCoreSt core.val { s.coreSt core.val with resv := none } else s
     | none => s)

/-- The dirty bytes of the line of address addr go to the commons (R558). -/
def execDirtyWriteBack (t : Dword) (group : Fin 3) (addr : Word) (s : State) : Out :=
  .next (lineClean group.val addr.toNat (cacheDue (s.advanceTo t)))

/-- A plain store (R559). -/
def execPlainStore (t : Dword) (core : CoreIx) (width : Width) (addr value : Word) (s : State) : Out :=
  .next
    (let s := cacheDue (s.advanceTo t)
     if s.coreState core.val = 1 then plainStore core.val addr.toNat (toLe width.bytes value.toNat) s else s)

/-- A core takes its machine external interrupt (R570). -/
def execInterruptEntry (t : Dword) (core : CoreIx) (s : State) : Out :=
  .next
    (let s := cacheDue (s.advanceTo t)
     if s.coreState core.val = 1 ∧ s.meip core.val then
       s.setCoreSt core.val { s.coreSt core.val with resv := none }
     else s)

end Sys2Proof.Machine
end

