-- ==== Sys2Proof/Machine/Coupler.lean ====
section
/-! DEFINITION. Machine/Coupler.lean: the meanings of Coupler's commands, messages and events (spec/12_coupler.md). A
message on endpoint e is received while Coupler runs and e has the role its direction asks for. -/

namespace Sys2Proof.Machine

/-- A message on endpoint e of role r is received: f acts on it. -/
def cplrReceive (t : Dword) (e r : Nat) (f : State → State) (s : State) : State :=
  s.working fun s =>
    let s := s.advanceTo t
    if s.cplrOn ∧ s.epRole e = r then f s else s

/-- The epoch pulse of instance 0 is received (R408). -/
def execEpochPulse (t : Dword) (s : State) : Out :=
  .next (s.running fun s =>
    let s := s.advanceTo t
    if s.inst ≠ 0 ∧ s.cplrOn then
      let e := (s.now + 400000) / 800000
      applyTheta ((s.now : Int) - 800000 * e - (s.get CPLR_SB.SBDLY : Nat)) s
    else s)

/-- The route of link endpoint e is reported up (R400): training starts with a HELLO. -/
def execLinkUp (t : Dword) (e : Fin 17) (s : State) : Out :=
  .next
    (let s := s.advanceTo t
     let s := s.setCep e.val { s.cep e.val with up := true }
     s.running fun s => sendHello e.val s)

/-- The route of link endpoint e is reported down (R400). -/
def execLinkDown (t : Dword) (e : Fin 17) (s : State) : Out :=
  .next (let s := s.advanceTo t; s.setCep e.val { s.cep e.val with up := false })

/-- The other end of sideband endpoint 17 + k enters or leaves reset (R400). -/
def execSidebandEndResetChange (t : Dword) (k : Fin 3) (up : Bool) (s : State) : Out :=
  .next (let s := s.advanceTo t; s.setCep (17 + k.val) { s.cep (17 + k.val) with up := up })

/-- HELLO (R400, R401). -/
def execHello (t : Dword) (e : Fin 20) (s : State) : Out :=
  .next (s.running fun s =>
    let s := s.advanceTo t
    if s.cplrOn ∧ s.epRole e.val ≠ 0 then s.setCep e.val { s.cep e.val with helloIn := some s.epoch } else s)

/-- HB (R402, R404). -/
def execHb (t : Dword) (e : Fin 20) (s : State) : Out := .next (s.working fun s => heartbeatIn e.val (s.advanceTo t))

/-- SYNC from the parent (R406): t2 is recorded, and SYNC_RSP leaves `turn` ticks later. -/
def execSync (t : Dword) (e : Fin 20) (t1 : Dword) (turn : Nat) (s : State) : Out :=
  .next
    (cplrReceive t e.val 1 (fun s =>
      cplrSend e.val (s.message 0x04 0 0 0 [])
        { s with cplr := { s.cplr with sync := some (t1.toNat, s.now, s.now + turn) } }) s)

/-- SYNC_RSP from a child (R406): t4 goes back in SYNC_FIN. -/
def execSyncRsp (t : Dword) (e : Fin 20) (s : State) : Out :=
  .next (cplrReceive t e.val 2 (fun s => cplrSend e.val (s.message 0x05 0 0 s.now []) s) s)

/-- SYNC_FIN from the parent (R406, R407): θ is computed, rounded towards zero, and corrected. -/
def execSyncFin (t : Dword) (e : Fin 20) (t4 : Dword) (s : State) : Out :=
  .next
    (cplrReceive t e.val 1 (fun s =>
      match s.cplr.sync with
      | some (t1, t2, t3) =>
        let theta := ((t2 : Int) - t1 - ((t4.toNat : Int) - t3)).tdiv 2
        applyTheta theta { s with cplr := { s.cplr with sync := none } }
      | none => s) s)

/-- ENV from the parent (R411, R412). -/
def execEnv (t : Dword) (e : Fin 20) (epoch : Word) (frac : BitVec 16) (fleet : Bool) (s : State) : Out :=
  .next (cplrReceive t e.val 1 (fun s => envTake ⟨s.epochOf epoch.toNat, frac.toNat, fleet⟩ s) s)

/-- EMCAP from the parent (R423, R424): RATE 1..64. -/
def execEmcapMessage (t : Dword) (e : Fin 20) (issuer : BitVec 17) (sq : BitVec 16) (rate : BitVec 8) (expire : Word)
    (s : State) : Out :=
  .next
    (cplrReceive t e.val 1 (fun s =>
      if rate.toNat = 0 ∨ 64 < rate.toNat then s
      else
        let s := emApply issuer.toNat sq.toNat rate.toNat expire.toNat s
        cplrSendDown (s.emMessage issuer.toNat sq.toNat rate.toNat expire.toNat) s) s)

/-- CONOTE from a child (R419, R420): a rate of 1..64 for a GID of 1..4,095. -/
def execConote (t : Dword) (e : Fin 20) (gid : BitVec 16) (rate : BitVec 8) (s : State) : Out :=
  .next
    (cplrReceive t e.val 2 (fun s =>
      if rate.toNat = 0 ∨ 64 < rate.toNat ∨ gid.toNat = 0 ∨ 4095 < gid.toNat then s
      else aggPut gid.toNat (4 + e.val) rate.toNat s) s)

/-- COCAP from the parent (R421). -/
def execCocap (t : Dword) (e : Fin 20) (gid : BitVec 16) (rate : BitVec 8) (epoch : Word) (s : State) : Out :=
  .next
    (cplrReceive t e.val 1 (fun s =>
      if rate.toNat = 0 ∨ 64 < rate.toNat ∨ gid.toNat = 0 ∨ 4095 < gid.toNat then s
      else cocapPass gid.toNat rate.toNat (s.epochOf epoch.toNat) s) s)

/-- RWRITE from a peer (R426..R428). -/
def execRwrite (t : Dword) (peer : BitVec 17) (win be : BitVec 8) (commit : Bool) (sq : BitVec 16) (lo hi off : Word)
    (s : State) : Out :=
  .next (s.running fun s =>
    let s := s.advanceTo t
    if s.cplrOn then rwAccept peer.toNat win.toNat be.toNat commit sq.toNat off.toNat lo hi s else s)

/-- A message of reserved KIND (R401). -/
def execReservedKind (t : Dword) (e : Fin 20) (s : State) : Out :=
  .next (s.running fun s =>
    let s := s.advanceTo t
    if s.cplrOn ∧ s.epRole e.val ≠ 0 then s.incSat CPLR_CNT.BADMSG else s)

/-- A write of CPLR_ENV_ISSUE (R411). -/
def execEnvIssue (req : Requester) (value : Word) (s : State) : Out := .next (gated req CPLR_ENV_ISSUE value envIssue s)

/-- TS reaches a pending point's epoch (R412). -/
def execEnvPointCurrent (t : Dword) (s : State) : Out :=
  .next (s.running fun s => let s := s.advanceTo t; envDue s.cplr.env s)

/-- A 100 ms envelope window ends (R415), unless its base tick has ended it. -/
def execEnvWindowEnd (t : Dword) (s : State) : Out :=
  .next (s.running fun s =>
    let s := s.advanceTo t
    if s.boundaryDue 80000000 s.cplr.envAt then envWindowEnd s else s)

/-- TS reaches the epoch of a pending COCAP pair (R421). -/
def execCocapAdopt (t : Dword) (s : State) : Out := 
  .next (s.working fun s => cocapAdopt (s.advanceTo t))

/-- A write of CPLR_EM_ISSUE (R422). -/
def execEmcapIssue (req : Requester) (value : Word) (s : State) : Out := .next (gated req CPLR_EM_ISSUE value emIssue s)

/-- A write of CPLR_TX[q].CMD.SEND (R425). -/
def execRwriteSend (req : Requester) (q : Fin 12) (s : State) : Out :=
  .next (gated req (CPLR_TX_CMD q.val) 1 (txCommand q.val) s)

/-- A write of CPLR_TX[q].CMD.COMMIT (R425). -/
def execRwriteCommitSend (req : Requester) (q : Fin 12) (s : State) : Out :=
  .next (gated req (CPLR_TX_CMD q.val) 2 (txCommand q.val) s)

/-- An open window has received nothing for 10 ms (R428): it closes without a record. -/
def execRwriteWindowIdle (t : Dword) (peer : BitVec 17) (win : BitVec 8) (s : State) : Out :=
  .next (s.running fun s =>
    let s := s.advanceTo t
    match s.rwFind peer.toNat win.toNat with
    | some w => if w.last + 8000000 ≤ s.now then rwPut peer.toNat win.toNat none s else s
    | none => s)

/-- A read of CPLR_RXC0 (R427). -/
def execCompletionRead (req : Requester) (s : State) : Out :=
  .next (completionRead req s)

/-- A write of CPLR_CTRL with EN = 1 (R431). -/
def execCouplerEnable (req : Requester) (value : Word) (s : State) : Out :=
  .next (gated req CPLR_CTRL (value ||| 0x80000000) cplrCtrlWrite s)

end Sys2Proof.Machine
end

