-- ==== Sys2Proof/Machine/YutreOps.lean ====
section
/-! DEFINITION. Machine/YutreOps.lean: what every Yutre command shares (R618..R623): its fields, the checks in their order,
permission, the DMA descriptor, the reply and the repeated sequence number. -/

namespace Sys2Proof

/-- Payload byte o of a message. -/
def YMsg.b8 (m : YMsg) (o : Nat) : Nat := (m.pay.getD o 0).toNat

/-- Payload bytes o, o + 1 (little-endian). -/
def YMsg.b16 (m : YMsg) (o : Nat) : Nat := m.b8 o + 256 * m.b8 (o + 1)

/-- Payload bytes o..o + 3. -/
def YMsg.b32 (m : YMsg) (o : Nat) : Nat := m.b16 o + 65536 * m.b16 (o + 2)

/-- Payload bytes o..o + 7. -/
def YMsg.b64 (m : YMsg) (o : Nat) : Nat := m.b32 o + 2 ^ 32 * m.b32 (o + 4)

/-- A payload word. -/
def YMsg.word (m : YMsg) (o : Nat) : BitVec 32 := BitVec.ofNat 32 (m.b32 o)

/-- The descriptor at payload offset o is acceptable (R621): DESC is set, ADDR is aligned, DIR and the reserved bytes are
as they must be, and LENGTH is one that the opcode allows. -/
def YMsg.descOk (m : YMsg) (o align dir : Nat) (lenOk : Nat → Bool) : Bool :=
  let n := m.b32 (o + 8)
  m.flags.getLsbD 1 && decide (m.b64 o % align = 0) && decide (m.b8 (o + 12) = dir) && m.b16 (o + 13) == 0 &&
    m.b8 (o + 15) == 0 && decide (1 ≤ n) && decide (n ≤ 16777216) && lenOk n

end Sys2Proof

namespace Sys2Proof.Machine

/-- Opcodes open to peers: those marked P in R624, the fleet opcodes of R430, and the firmware opcodes that R543 leaves. -/
def peerOpcode (op : Nat) : Bool :=
  [0x100, 0x101, 0x304, 0x503, 0x504, 0x507, 0x400, 0x401, 0x402, 0x403, 0x404, 0x405, 0x406, 0x600, 0x607].contains op

/-- Opcodes that are defined (R624). -/
def definedOpcode (op : Nat) : Bool :=
  (decide (0x100 ≤ op) && decide (op ≤ 0x106)) || (decide (0x200 ≤ op) && decide (op ≤ 0x205)) ||
    (decide (0x300 ≤ op) && decide (op ≤ 0x304)) || (decide (0x400 ≤ op) && decide (op ≤ 0x406)) ||
    (decide (0x500 ≤ op) && decide (op ≤ 0x507)) || (decide (0x600 ≤ op) && decide (op ≤ 0x607)) ||
    (decide (0x700 ≤ op) && decide (op ≤ 0x704))

namespace State

/-- May the sender use the opcode (R622)? -/
def permits (s : State) (m : YMsg) (op : Nat) : Bool :=
  let debug := op / 256 != 7 || s.bit VL_CTRL.DBG_EN
  match m.sndr with
  | .host => debug && !(op == 0x103 && s.bit VL_CTRL.HOST_RO)
  | .peer => peerOpcode op
  | .dma => false
  | _ => debug

/-- Does a core serve the command: SCH while it runs, or in FAIL the ROM, its four opcodes on channel 0 (R540, R620)? -/
def serves (s : State) (m : YMsg) (op : Nat) : Bool :=
  if s.get FW_STAT.BOOT = 4 then m.ch.val == 0 && decide (0x600 ≤ op) && decide (op ≤ 0x603) else s.coreState 2 == 1

/-- The last command of the same sender and channel (R623). -/
def lastYutre (s : State) (m : YMsg) : Option YutreSeen :=
  s.yutre.find? fun e => e.sndr == m.sndr.code && e.member == m.member.toNat && e.ch == m.ch.val

end State

/-- The words of a reply (R618, R619) whose status and payload words are ws; GET_VERSION and STAGE_END end in half a word. -/
def replyWords (m : YMsg) (op : Nat) (ws : List Word) : List Word :=
  let pad := if (op = 0x100 ∨ op = 0x603) ∧ 1 < ws.length then 2 else 0
  BitVec.ofNat 32 (3 + 2 * 2 ^ 8 + op * 2 ^ 16) ::
    BitVec.ofNat 32 (m.sq.toNat + (4 * ws.length - pad) * 2 ^ 16 + 2 ^ 24) :: ws

/-- SCH carries out a Yutre command, which `body` describes, once the checks before it have passed (R620), and replies; a
repeated sequence number gets the stored reply (R623). -/
def yutre (m : YMsg) (op : Nat) (body : State → State) (s : State) : State :=
  if !s.serves m op then s
  else
    let again : Option (List Word) :=
      match s.lastYutre m with
      | some e => if e.seq = m.sq.toNat then some e.reply else none
      | none => none
    match again with
    | some ws => s.answer ws
    | none =>
      let s :=
        if m.vmaj ≠ 3 then s.reply stVERSION []
        else if 56 < m.len.toNat ∨ 8 ≤ m.flags.toNat ∨ m.flags.toNat % 2 = 1 then s.reply stBADPARAM []
        else if !definedOpcode op then s.reply stBADOPCODE []
        else if !s.permits m op then s.reply stDENIED []
        else body s
      let ws := replyWords m op s.rdata
      let others := s.yutre.filter fun e => !(e.sndr == m.sndr.code && e.member == m.member.toNat && e.ch == m.ch.val)
      { s with rdata := ws, yutre := others ++ [⟨m.sndr.code, m.member.toNat, m.ch.val, m.sq.toNat, ws⟩] }

end Sys2Proof.Machine
end

