-- ==== Sys2Proof/Machine/Firmware.lean ====
section
/-! DEFINITION. Machine/Firmware.lean: the meanings of boot, update, watchdog, heartbeat and debug commands
(spec/17_firmware.md). -/

namespace Sys2Proof.Machine

/-- The image has been read, hashed and checked (R537). -/
def execImageVerified (t : Dword) (s : State) : Out := .next (s.running fun s => imageVerified (s.advanceTo t))

/-- An instance 1..3 receives the image that instance 0 pushes (R539). -/
def execImagePush (t : Dword) (slot trial : Bool) (image : List (BitVec 8)) (s : State) : Out :=
  .next (s.running fun s => imagePush slot.toNat trial image (s.advanceTo t))

/-- The firmware reset of an activation (R542, R546). -/
def execFirmwareReset (t : Dword) (s : State) : Out := .next (s.running fun s => orderedReset (s.advanceTo t))

/-- Opcode 0x0600. -/
def execGetFw (m : YMsg) (s : State) : Out :=
  .next
    (yutre m 0x600 (fun s =>
      let (ver, svn) : Word × Word :=
        match s.fw.verified with
        | some (v, n) => (v, BitVec.ofNat 32 n)
        | none => (0, 0)
      s.reply stOK [s.viewFwStat, s.rd FW_VER, s.viewFwAct, ver, svn]) s)

/-- Opcode 0x0601: bytes 0..3 are the total length. -/
def execStageBegin (m : YMsg) (s : State) : Out := .next (yutre m 0x601 (stageBegin (m.b32 0)) s)

/-- Opcode 0x0602: bytes 0..3 are the slot offset, and a descriptor follows; `data` is what the host memory holds there. -/
def execStageData (m : YMsg) (data : Option (List (BitVec 8))) (s : State) : Out :=
  .next (yutre m 0x602 (stageData (m.b32 0) (m.b32 12) (m.b64 4) (m.descOk 4 1 0 (fun _ => true)) data) s)

/-- Opcode 0x0603. -/
def execStageEnd (m : YMsg) (s : State) : Out := .next (yutre m 0x603 stageEnd s)

/-- Opcode 0x0604. -/
def execActivate (m : YMsg) (s : State) : Out := .next (yutre m 0x604 activate s)

/-- Opcode 0x0605. -/
def execCancel (m : YMsg) (s : State) : Out := .next (yutre m 0x605 cancelActivation s)

/-- Opcode 0x0606. -/
def execConfirm (m : YMsg) (s : State) : Out := .next (yutre m 0x606 confirm s)

/-- Opcode 0x0607: SCH writes FW_HOST_KICK. -/
def execHeartbeat (m : YMsg) (s : State) : Out :=
  .next (yutre m 0x607 (fun s => (gated .sch FW_HOST_KICK 0 (fun _ s => hostKick s) s).reply stOK []) s)

/-- Activation starts (R544, R546). -/
def execActivationStart (t : Dword) (s : State) : Out := .next (s.running fun s => activationStart (s.advanceTo t))

/-- Requester `req` writes FW_KICK of a core (R549). -/
def execWatchdogKick (t : Dword) (req : Requester) (core : CoreIx) (s : State) : Out :=
  .next (gated req (FW_KICK core.val) 0 (fun _ s => kickCore core.val s) (s.advanceTo t))

/-- The watchdog of a core expires (R549). -/
def execWatchdogExpiry (t : Dword) (core : CoreIx) (s : State) : Out := .next (s.running fun s => watchdogExpiry core.val (s.advanceTo t))

/-- SEC has reloaded a core (R549). -/
def execCoreReloadDone (t : Dword) (core : CoreIx) (s : State) : Out := .next (s.running fun s => reloadDone core.val (s.advanceTo t))

/-- A write of FW_HOST_KICK (R550). -/
def execHostKick (req : Requester) (value : Word) (s : State) : Out :=
  .next (gated req FW_HOST_KICK value (fun _ s => hostKick s) s)

/-- A host period ends (R550); the periods that ended earlier without a row end with it. -/
def execHostPeriodEnd (t : Dword) (s : State) : Out := .next (s.running fun s => hostTo (s.advanceTo t))

/-- 3 ms without a write of FW_HB (R550). -/
def execFwHeartbeatStale (t : Dword) (s : State) : Out := .next (s.running fun s => hbStale (s.advanceTo t))

/-- A write of DBG_CTRL.HALT; the core stops at address pc (R552). -/
def execHalt (req : Requester) (core : CoreIx) (pc : Word) (s : State) : Out :=
  .next (gated req (DBG_CTRL core.val) 1 (dbgCtrlWrite core.val pc) s)

/-- A write of DBG_CTRL.RESUME (R552). -/
def execResume (req : Requester) (core : CoreIx) (s : State) : Out :=
  .next (gated req (DBG_CTRL core.val) 2 (dbgCtrlWrite core.val 0) s)

/-- A write of DBG_CTRL.STEP; the core executes one instruction and stops at address pc (R552). -/
def execStep (req : Requester) (core : CoreIx) (pc : Word) (s : State) : Out :=
  .next (gated req (DBG_CTRL core.val) 4 (dbgCtrlWrite core.val pc) s)

/-- Instance 0 learns the Class 0 conditions of instance k (R545). -/
def execPkgConditionReport (t : Dword) (k : Fin 4) (conds : BitVec 6) (s : State) : Out :=
  .next
    (s.running fun s =>
     let s := s.advanceTo t
     if s.inst = 0 ∧ k.val ≠ 0 then
       { s with fw := { s.fw with pkg := mapSet 0 s.fw.pkg k.val conds.toNat,
                                  quiet := if conds = 0 then s.fw.quiet else s.now } }
     else s)

end Sys2Proof.Machine
end

