-- ==== Sys2Proof/Machine/Forecast.lean ====
section
/-! DEFINITION. Machine/Forecast.lean: the meanings of the forecast path's commands and events (spec/07_forecast.md). -/

namespace Sys2Proof.Machine

/-- Command processor cp presents a marker at the port (R260..R262). -/
def execMarker (t : Dword) (cp : Fin 16) (marker : BitVec 16) (s : State) : Out :=
  .next (s.running fun s => markerPresent marker.toNat cp.val (s.advanceTo t))

/-- A marker leaves the queue and is handled (R265, R268); its group's activation starts `lag` CKF cycles later (R271). -/
def execMarkerHandle (t : Dword) (lag : Fin 5) (s : State) : Out :=
  .next (s.running fun s => markerHandle lag.val (s.advanceTo t))

/-- A write of 1 to TTB_CTRL.ARM (R264). -/
def execForecastArm (req : Requester) (s : State) : Out := .next (gated req TTB_CTRL 1 (ttbWrite TTB_CTRL) s)

/-- A write of 1 to TTB_CTRL.STOP (R264). -/
def execForecastStop (req : Requester) (s : State) : Out := .next (gated req TTB_CTRL 2 (ttbWrite TTB_CTRL) s)

/-- A write of 1 to TTB_CTRL.RESCAN (R270). -/
def execRescan (req : Requester) (s : State) : Out := .next (gated req TTB_CTRL 4 (ttbWrite TTB_CTRL) s)

/-- A build of the sync directory ends (R264, R267, R270). -/
def execDirectoryBuildDone (t : Dword) (s : State) : Out := 
  .next (s.running fun s => dirDone (ttbCatch (s.advanceTo t)))

/-- A write of 1 to TTB_DMA_CTRL.GO (R285). -/
def execTtbDmaStart (req : Requester) (s : State) : Out := .next (gated req TTB_DMA_CTRL 1 (ttbWrite TTB_DMA_CTRL) s)

/-- The next entry of a Timetable transfer arrives (R286, R676). -/
def execTtbDmaEntryWrite (t : Dword) (w0 w1 w2 w3 : Word) (s : State) : Out :=
  .next (s.running fun s => ttbDmaEntry [w0, w1, w2, w3] (ttbCatch (dmaSlot (s.advanceTo t))))

/-- A Timetable transfer ends (R285). -/
def execTtbDmaDone (t : Dword) (ok : Bool) (s : State) : Out := 
  .next (s.running fun s => ttbDmaFinish ok (ttbCatch (s.advanceTo t)))

/-- A direct write of word w of Timetable entry idx (R286..R288). -/
def execTimetableWrite (req : Requester) (idx : BitVec 16) (w : Fin 4) (value : Word) (s : State) : Out :=
  .next (gated req (TTB_ENT idx.toNat w.val) value (ttbWrite (TTB_ENT idx.toNat w.val)) s)

/-- The Timetable's initialisation ends (R288). -/
def execTtbInitDone (t : Dword) (s : State) : Out := 
  .next (s.running fun s => (s.advanceTo t).put TTB_STAT.INIT_DONE 1)

/-- Group g has issued no program operation in the last IDLE_WIN CKF cycles (R345, OBSERVED). -/
def execGroupIdle (t : Dword) (g : GroupIx) (s : State) : Out :=
  .next (s.running fun s =>
    let s := s.advanceTo t
    if s.issuedSince g.val (s.now + 1 - s.get TNDR_CFG.IDLE_WIN) then s
    else { s with tndr := { s.tndr with idle := g.val :: s.tndr.idle.filter (· != g.val) } })

end Sys2Proof.Machine
end

