-- ==== Sys2Proof/Machine/Front.lean ====
section
/-! DEFINITION. Machine/Front.lean: the meanings of the front stage's commands and events (spec/05_front_stage.md). -/

namespace Sys2Proof.Machine

/-- A write of XPH_CMD.OP by a requester, through the writer restrictions. -/
def xphCmdWrite (req : Requester) (op : Nat) (s : State) : State :=
  gated req XPH_CMD (BitVec.ofNat 32 op) (fun v s => frontCommand (fldGet v 3 0) (rippleCatch s)) s

/-- XPH_CMD START (R169). -/
def execStart (req : Requester) (s : State) : Out := .next (xphCmdWrite req 1 s)
/-- XPH_CMD STOP (R169). -/
def execStop (req : Requester) (s : State) : Out := .next (xphCmdWrite req 2 s)
/-- XPH_CMD CLEAR (R169, R199). -/
def execClear (req : Requester) (s : State) : Out := .next (xphCmdWrite req 3 s)
/-- XPH_CMD NOP (R169). -/
def execXphNop (req : Requester) (s : State) : Out := .next (xphCmdWrite req 0 s)
/-- A reserved XPH_CMD OP, 0x4..0xF (R169). -/
def execXphCmdReserved (req : Requester) (op : BitVec 4) (s : State) : Out := .next (xphCmdWrite req op.toNat s)

/-- 20 µs after START the reference starts from the present reading and phases may be added (R171). -/
def execSoftstartRefStart (t : Dword) (s : State) : Out :=
  .next (s.frontAt t fun s =>
    if s.fsState = 1 ∧ !s.xph.refOn then
      phaseCount (putVimRef s.xph.ref { s with xph := { s.xph with refOn := true } })
    else s)

/-- One microsecond of soft start: SLOPE × 0.1 mV towards the set-point (R171). -/
def execSoftstartRampStep (t : Dword) (s : State) : Out :=
  .next (s.frontAt t fun s =>
    if s.fsState = 1 ∧ s.xph.refOn then moveVimRef (2 * s.get XPH_SS.SLOPE) s else s)

/-- Soft start ends (R172): the reference equals the set-point; VIM has stayed within ±50 mV for 10 µs. -/
def execSoftstartEnd (t : Dword) (s : State) : Out :=
  .next (s.frontAt t fun s =>
    if s.fsState = 1 ∧ s.xph.refOn ∧ s.xph.ref = 25 * s.get XPH_VSET.CODE ∧
        s.xph.near.any (fun t => decide (t + 8000 ≤ s.now)) then
      (vimWatch (((s.put XPH_STAT.STATE 2).put XPH_STAT.PG 1).put XPH_EVT.RUN 1)).ring kXPH 2
    else s)

/-- VIM has stayed below the no-rise level for NR_WIN µs during soft start (R173). -/
def execXphNoRise (t : Dword) (s : State) : Out :=
  .next (s.frontAt t fun s =>
    if s.fsState = 1 ∧ s.xph.low.any (fun t => decide (t + 800 * s.get XPH_SS.NR_WIN ≤ s.now)) then frontLatch 3 s
    else s)

/-- VIM has stayed below the UV level for NR_WIN µs in RUN (R197). -/
def execXphUnderVoltage (t : Dword) (s : State) : Out :=
  .next (s.frontAt t fun s =>
    if s.fsState = 2 ∧ s.xph.under.any (fun t => decide (t + 800 * s.get XPH_SS.NR_WIN ≤ s.now)) then frontLatch 4 s
    else s)

/-- A write to XPH_VSET (R174): the stored code is limited to 1,280..1,920. -/
def execXphVsetWrite (req : Requester) (value : Word) (s : State) : Out :=
  .next (gated req XPH_VSET value (storeReg XPH_VSET) s)

/-- One microsecond of slew in RUN: SLEW mV towards the set-point (R174). -/
def execVimReferenceSlew (t : Dword) (s : State) : Out :=
  .next (s.frontAt t fun s =>
    if s.fsState = 2 then moveVimRef (20 * s.get XPH_VSET.SLEW) s else s)

/-- A VIM sense point disagrees for 8 conversions while at least two others are included (R176, R177). -/
def execSensePointExclusion (t : Dword) (k : Fin 4) (s : State) : Out :=
  .next (s.frontAt t fun s =>
    if s.vimPoints.contains k.val ∧ 3 ≤ s.vimPoints.length ∧ 8 ≤ mapGet 0 s.xph.ptRun k then
      let s := { s with xph := { s.xph with ptRun := mapSet 0 s.xph.ptRun k 0 } }
      let s := combineVim ((s.put (ptExcl k) 1).put XPH_EVT.PT_EXCL 1)
      let s := (s.pulse 8).ring kXPH 6
      if s.vimPoints.length < 2 then frontFault 7 s else s
    else s)

/-- A write of XPH_VIMPT01 (or 23, `upper`): 1 in an EXCL bit re-includes the point (R176). -/
def execSensePointInclude (req : Requester) (upper : Bool) (value : Word) (s : State) : Out :=
  .next (gated req (if upper then XPH_VIMPT23 else XPH_VIMPT01) value (fun v s => vimPtWrite upper v (rippleCatch s)) s)

/-- May a ring trigger fall now: switching, and no returning phase still to fire (R180, R191)? -/
def State.mayTrigger (s : State) : Bool := s.fsRuns && s.xph.back.isEmpty

/-- The comparator condition is met at CKX edge x, outside slot triggering (R179,
R180). -/
def execTrigger (e : EdgeSense) (s : State) : Out :=
  .next (s.front fun s =>
    let x := e.x
    if s.mayTrigger ∧ !(s.bit XPH_CFG.MODE && s.bit XPH_STAT.SYNC_LOCK) ∧ s.blanked x ∧ s.vimBelow e.uv 0 then
      match s.nextPhase with
      | some p => if s.phReady p x then firePhase p x s else s
      | none => s
    else s)

/-- The on-time of phase p runs to its end at CKX edge x (R178, R182); it breaks a run of ILIM (R196). -/
def execOnTimeEnd (p : PhaseIx) (x : Nat) (s : State) : Out :=
  .next (s.front fun s =>
    let h := s.phid p
     if h.pwm = .high ∧ h.start + h.ton ≤ x then endOnTime p x 0 s else s)

/-- FS_IMON[p] reaches ILIM during an on-time (R181); the eighth in a row latches the phase (R196). -/
def execCycleLimit (p : PhaseIx) (x : Nat) (s : State) : Out :=
  .next (s.front fun s =>
    let h := s.phid p
     if h.pwm = .high then
      let s := { s with tlm := { s.tlm with nlimt := mapSet 0 s.tlm.nlimt p (mapGet 0 s.tlm.nlimt p + 1) } }
      let s := smbLatch ((endOnTime p x (h.ilimRun + 1) s).put (XPH_PH_STAT.ILIM_SEEN p) 1)
      if 8 ≤ h.ilimRun + 1 then phaseLatch p 2 s else s
    else s)

/-- Zero-current detection (R182): FS_PWM[p] goes high-impedance; a SHEDDING phase becomes SHED, or DISABLED with EN = 0
(R166, R188). -/
def execZeroCurrent (p : PhaseIx) (s : State) : Out :=
  .next (s.front fun s =>
    let st := s.phState p
     let h := s.phid p
     if s.fsRuns ∧ h.pwm = .low ∧ (st = 3 ∨ (st = 2 ∧ (s.fsState = 1 ∨ s.xphCfg XPH_CFG.DE_EN = 1))) then
      let s := s.setPhid p { h with pwm := .hiZ }
      if st = 3 then phaseCount (s.put (XPH_PH_STAT.STATE p) (if s.bit (XPH_PH_CFG.EN p) then 4 else 0)) else s
    else s)

/-- FS_IMON[p] falls to −NILIM without diode emulation (R182). -/
def execNegativeCurrentLimit (p : PhaseIx) (s : State) : Out :=
  .next (s.front fun s =>
    let h := s.phid p
     if s.fsState = 2 ∧ s.phState p = 2 ∧ s.xphCfg XPH_CFG.DE_EN = 0 ∧ h.pwm = .low then
      s.setPhid p { h with pwm := .hiZ }
    else s)

/-- The period that makes eight consistent ones of FS_SYNC_IN sets SYNC_LOCK (R183); a lock regained is an event (R186,
R201). -/
def execSyncLock (t : Dword) (period : Nat) (s : State) : Out :=
  .next (s.frontAt t fun s =>
    if s.bit XPH_CFG.MODE ∧ !s.bit XPH_STAT.SYNC_LOCK then
      let s := syncPeriod period s
      if s.syncMet then
        let again := s.xph.lostSync
        let s := { s.put XPH_STAT.SYNC_LOCK 1 with xph := { s.xph with lostSync := false } }
        if again then (s.put XPH_EVT.SYNC_LOCK 1).ring kXPH 5 else s
      else s
    else s)

/-- A rising edge of FS_SYNC_IN at CKX edge x ends a period (R183): while locked it lays out the slots (R184), or loses sync
when the period is out of range (R186). -/
def execSyncEdge (x : Nat) (period : Nat) (s : State) : Out :=
  .next (s.front fun s =>
    if s.bit XPH_CFG.MODE then
      let s := syncPeriod period s
      if !s.bit XPH_STAT.SYNC_LOCK then s
      else if !syncRange period then syncLost s
      else if s.fsRuns then syncEdge x period s
      else s
    else s)

/-- A slot comes due at CKX edge x and its phase is ready (R184). -/
def execSlotTrigger (p : PhaseIx) (x : Nat) (s : State) : Out :=
  .next (s.front fun s =>
    if s.mayTrigger ∧ s.bit XPH_STAT.SYNC_LOCK ∧ s.phState p = 2 ∧ s.phReady p x ∧
        s.xph.slots.any (fun e => e.1 == p.val && decide (e.2 ≤ x)) then
      firePhase p x { s with xph := { s.xph with slots := slotUsed p s.xph.slots } }
    else s)

/-- The first ring phase after the last triggered one that is ready at CKX edge x (R185). -/
def State.nextReady (s : State) (x : Nat) : Option Nat :=
  let r := s.actives
  let l := s.xph.last.getD 32
  ((r.filter fun p => decide (l < p)) ++ (r.filter fun p => decide (p ≤ l))).find? fun p => s.phReady p x

/-- The combined sense falls to the fast-trip level while locked (R185): the phase fired skips its slot
of the present period. -/
def execFastTrip (e : EdgeSense) (s : State) : Out :=
  .next (s.front fun s =>
    let x := e.x
    if s.mayTrigger ∧ s.bit XPH_STAT.SYNC_LOCK ∧ s.blanked x ∧
        s.vimBelow e.uv (5000 * s.get XPH_RIP.FAST) then
      match s.nextReady x with
      | some p => firePhase p x { s with xph := { s.xph with slots := s.xph.slots.filter (·.1 != p) } }
      | none => s
    else s)

/-- A missing or out-of-range edge clears SYNC_LOCK (R186). -/
def execSyncLost (t : Dword) (s : State) : Out := .next (s.frontAt t syncLost)

/-- The dwell ends (R188): the highest ACTIVE phase becomes SHEDDING and the dwell starts again. -/
def execShedDwellExpiry (t : Dword) (s : State) : Out :=
  .next (s.frontAt t fun s =>
    if s.xph.dwell ∧ s.counting then
      match s.actives.getLast? with
      | some p => phaseCount (shedPhase p s)
      | none => s
    else s)

/-- ISEA exceeds that of 64 CKS edges before by STEP_TH (R189, R191). -/
def execLoadStep (t : Dword) (s : State) : Out :=
  .next (s.frontAt t fun s =>
    if s.stepSeen then
      let s := (s.put XPH_EVT.STEP 1).ring kXPH 3
      cancelShed { s with xph := { s.xph with hold := decide (s.get XPH_SHED.HOLD ≠ 0) } }
    else s)

/-- The hold after a load step ends (R189). -/
def execStepHoldEnd (t : Dword) (s : State) : Out :=
  .next (s.frontAt t fun s =>
    if s.xph.hold then
      phaseCount { s with xph := { s.xph with hold := false } }
    else s)

/-- The next returning phase fires at CKX edge x (R191). -/
def execReturnPhaseFire (x : Nat) (s : State) : Out :=
  .next (s.front fun s =>
    match s.xph.back with
     | [] => s
     | p :: rest =>
      if s.fsRuns ∧ s.phState p = 2 ∧ s.blanked x ∧ s.phReady p x then
        let s := firePhase p x s
        { s with xph := { s.xph with back := rest } }
      else s)

/-- The over-voltage comparator of an included sense point trips (R192). -/
def execOverVoltage (t : Dword) (k : Fin 4) (s : State) : Out :=
  .next (s.frontAt t fun s =>
    if s.fsRuns ∧ s.vimPoints.contains k.val then
      let s := s.each (s.phasesIn 2 ++ s.phasesIn 3) fun s p =>
        s.setPhid p { s.phid p with pwm := .low, crow := true }
      let s := { s with xph := { s.xph with back := [], slots := [], dwell := false, refOn := false } }
      smbLatch ((s.put XPH_STAT.STATE 3).put XPH_STAT.PG 0)
    else s)

/-- Every included point has stayed below REL for 1 µs (R194): the front stage latches with OV. -/
def execCrowbarRelease (t : Dword) (s : State) : Out :=
  .next (s.frontAt t fun s =>
    if s.fsState = 3 then frontLatch 1 s else s)

/-- FS_IMON[p] reaches OCP while FS_EN[p] is high (R195, R196). -/
def execPhaseOverCurrent (t : Dword) (p : PhaseIx) (s : State) : Out :=
  .next (s.frontAt t fun s =>
    if s.inPool p then phaseLatch p 1 s else s)

/-- A write of XPH_PH_CFG[p] (R166). -/
def execPhaseEnableWrite (req : Requester) (p : PhaseIx) (value : Word) (s : State) : Out :=
  .next (gated req (XPH_PH_CFG p) value (fun v s => phCfgWrite p v (rippleCatch s)) s)

/-- A write of 1 to XPH_PH_CTRL[p].CLR (R199). -/
def execPhaseClear (req : Requester) (p : PhaseIx) (s : State) : Out :=
  .next (gated req (XPH_PH_CTRL p) 1 (fun v s => if fldGet v 0 0 = 1 then phaseClear p (rippleCatch s) else s) s)

end Sys2Proof.Machine
end

