-- ==== Sys2Proof/Machine/Hold.lean ====
section
/-! DEFINITION. Machine/Hold.lean: the meanings of the V12 sag sequence's events (spec/21_reset_and_holdup.md). -/

namespace Sys2Proof.Machine

/-- A sag is declared (R639, R640). -/
def execSagDeclared (t : Dword) (s : State) : Out := .next (sagDeclared (s.advanceTo t))

/-- The front stage stops with CAUSE = SAG (R641): with a region still on, time passes to the end of FS_TO. -/
def execFrontStopSag (t : Dword) (s : State) : Out :=
  .next
    (let s := s.advanceTo t
     if s.holdState = 0 ∨ !s.fsRuns then s
     else if s.liveRegions.all (fun n => s.rgnState n == 5) then sagFrontStop s
     else sagFrontStop (s.advanceTo (BitVec.ofNat 64 (s.hold.decl + 800 * s.get HOLD_CTRL.FS_TO))))

/-- The crash record is complete, or partial (R642, R643). -/
def execCrashCaptureDone (t : Dword) (missing : List (Fin 1024)) (peers : List (Fin 4)) (s : State) : Out :=
  .next (captureDone (missing.map (·.val)) (peers.map (·.val)) (s.advanceTo t))

/-- The record of instance k is in flash (R644); `words` is what instance k sent over the AON lanes. -/
def execRecordProgrammed (t : Dword) (k : Fin 4) (words : List Word) (s : State) : Out :=
  .next (recordProgrammed k.val words (s.advanceTo t))

/-- 32 ms have passed since the declaration (R646). -/
def execSaveTimeout (t : Dword) (s : State) : Out := .next (saveTimeout (s.advanceTo t))

/-- V12 has been back for 1 ms (R647). -/
def execSagEnd (t : Dword) (s : State) : Out := .next (sagEnd (s.advanceTo t))

end Sys2Proof.Machine
end

