-- ==== Sys2Proof/Machine/Loops.lean ====
section
/-! DEFINITION. Machine/Loops.lean: the meanings of the Loop Engine's and the trace's commands and events
(spec/06_loop_engine.md); the base tick itself stands in Machine/Tick.lean. -/

namespace Sys2Proof.Machine

/-- A write of 1 to LPE_CTRL.COMMIT (R210, R213). -/
def execLpeCommit (req : Requester) (value : Word) (s : State) : Out :=
  .next (gated req LPE_CTRL (value ||| 1) lpeCtrlWrite s)

/-- Validation ends (R210, R211): BAD_PARAM at once, or the live headers follow at the next base tick. -/
def execLpeValidationDone (t : Dword) (s : State) : Out :=
  .next (s.running fun s =>
    if s.lpe.phase = .validating then
      let s := s.advanceTo t
      let (cause, k) := s.lpeCheck
      if cause = 0 then { s with lpe := { s.lpe with phase := .waiting } } else lpeCommitEnd stBADPARAM cause k s
    else s)

/-- A write of 1 to LPE_CTRL.REVERT (R213). -/
def execLpeRevert (req : Requester) (value : Word) (s : State) : Out :=
  .next (gated req LPE_CTRL ((value ||| 2) &&& ~~~1) lpeCtrlWrite s)

/-- A revert completes (R213). -/
def execLpeRevertDone (t : Dword) (s : State) : Out :=
  .next (s.running fun s =>
    if s.lpe.phase = .reverting then
      let s := (lpeApplyRevert (s.advanceTo t)).put LPE_STAT.BUSY 0
      { s with lpe := { s.lpe with phase := .idle } }
    else s)

/-- The initialisation of Loop Engine memory after reset completes (R217). -/
def execLpeInitDone (t : Dword) (s : State) : Out := 
  .next (s.running fun s => (s.advanceTo t).put LPE_STAT.INIT_DONE 1)

/-- A write to a loop state word (R216), or to any other word of the descriptors. -/
def execLpeStateWrite (req : Requester) (addr : Offset) (value : Word) (s : State) : Out :=
  let a := addr.toNat / 4 * 4
  .next
    (if (LPE_DCFG 0 ≤ a ∧ a < LPE_DCFG 512) ∨ (LPE_BAL_X1 0 ≤ a ∧ a < LPE_BAL_X1 32) then
      gated req a value (lpeWrite a) s
    else s)

/-- A write to LPE_CTRL.EN (R251). -/
def execLpeEnableWrite (req : Requester) (value : Word) (s : State) : Out :=
  .next (gated req LPE_CTRL value lpeCtrlWrite s)

/-- A write to PG_TGT[j] (R241..R243). -/
def execPgTargetWrite (req : Requester) (j : Fin 16) (value : Word) (s : State) : Out :=
  .next (gated req (PG_TGT j) value (pgWrite j 8) s)

/-- A write of 1 to TRC_CTRL.ARM (R246). -/
def execTrcArm (req : Requester) (s : State) : Out := .next (gated req TRC_CTRL 1 trcCtrlWrite s)

/-- A write of 1 to TRC_CTRL.STOP (R246). -/
def execTrcStop (req : Requester) (s : State) : Out := .next (gated req TRC_CTRL 4 trcCtrlWrite s)

/-- A write of 1 to TRC_CTRL.SWTRIG (R247). -/
def execTrcSwtrig (req : Requester) (s : State) : Out := .next (gated req TRC_CTRL 2 trcCtrlWrite s)

/-- TS reaches TRC_TTS while ARMED with SRC = TIMED (R247). -/
def execTraceTimedTrigger (t : Dword) (s : State) : Out :=
  .next (s.running fun s =>
    let s := s.advanceTo t
    if s.trcState = 1 ∧ s.get TRC_TRIG.SRC = 5 ∧ s.get64 TRC_TTS_LO ≤ s.now then traceTrigger 5 s else s)

end Sys2Proof.Machine
end

