-- ==== Sys2Proof/Machine/Mail.lean ====
section
/-! DEFINITION. Machine/Mail.lean: the meanings of Mail Coach's commands and events (spec/20_mail_coach.md), and of the
remote COMMITs that may post a channel (R427, R428). -/

namespace Sys2Proof.Machine

/-- A read of MCH_CH_CLAIM[c] (R607). -/
def execChannelClaim (t : Dword) (req : Requester) (c : Fin 32) (s : State) : Out :=
  .next
    (if s.rst.inst then s.answer [s.rd (MCH_CH_CLAIM c)]
     else let r := chClaim req c.val (s.advanceTo t); r.2.answer [BitVec.ofNat 32 r.1])

/-- A write of MCH_CH_CTL[c] with POST (R609). -/
def execPost (t : Dword) (req : Requester) (c : Fin 32) (esrc : BitVec 10) (s : State) : Out :=
  .next
    (let v := BitVec.ofNat 32 (esrc.toNat * 65536 + 1)
     gated req (MCH_CH_CTL c.val) v (chCtlWrite req c.val) (s.advanceTo t))

/-- A write of MCH_CH_CTL[c] with TAKE (R610). -/
def execTake (req : Requester) (c : Fin 32) (s : State) : Out :=
  .next (gated req (MCH_CH_CTL c.val) 2 (chCtlWrite req c.val) s)

/-- A write of MCH_CH_CTL[c] with ABANDON (R606). -/
def execAbandon (req : Requester) (c : Fin 32) (s : State) : Out :=
  .next (gated req (MCH_CH_CTL c.val) 4 (chCtlWrite req c.val) s)

/-- FILL_TO passes (R608): time passes to the end of the fill. -/
def execFillTimeout (t : Dword) (c : Fin 32) (s : State) : Out :=
  .next
    (let s := s.advanceTo t
     if s.chState c.val = 1 then fillTimeout c.val (s.advanceTo (BitVec.ofNat 64 (s.fillEnd c.val))) else s)

/-- A write of MCH_CH_CFG[c] (R611). -/
def execChannelConfigWrite (req : Requester) (c : Fin 32) (value : Word) (s : State) : Out :=
  .next (gated req (MCH_CH_CFG c.val) value (chCfgWrite c.val) s)

/-- A write of MCH_SLOT[c,w] (R608). -/
def execSlotWrite (req : Requester) (c : Fin 32) (w : Fin 16) (value : Word) (s : State) : Out :=
  .next (gated req (MCH_SLOT c.val w.val) value (slotWrite req c.val w.val) s)

/-- A write of MCH_DBEN[r] (R612). -/
def execDbenWrite (req : Requester) (r : Fin 12) (value : Word) (s : State) : Out :=
  .next (gated req (MCH_DBEN r.val) value (dbenWrite r.val) s)

/-- A held COMMIT whose earlier writes have landed lands (R427, R617). -/
def execRwriteCommitLand (t : Dword) (peer : BitVec 17) (win : BitVec 8) (s : State) : Out :=
  .next (commitDue peer.toNat win.toNat false (s.advanceTo t))

/-- A COMMIT held for CPLR_RW_TO microseconds lands (R428, R617). -/
def execRwriteCommitTimeout (t : Dword) (peer : BitVec 17) (win : BitVec 8) (s : State) : Out :=
  .next (commitDue peer.toNat win.toNat true (s.advanceTo t))

end Sys2Proof.Machine
end

