-- ==== Sys2Proof/Machine/TickOps.lean ====
section
/-! DEFINITION. Machine/TickOps.lean: the work of the clock edges that no command names: the CKS edge of the cell sea, the
base tick of R206, and one edge of the block's clock. -/

namespace Sys2Proof.Machine

/-! ### CKS edges (R84, R90, R151) -/

namespace State

/-- The least valid reading of the sensors that feed region n's tree, mV, and the lowest sensor that gave it (R151, R153);
none while the tree is empty (R152). -/
def treeMin (s : State) (n : Nat) : Option (Nat × Nat) :=
  ((s.cellsOf n).flatMap fun c => ([0, 1, 2, 3].filter (s.feeds c)).map fun j => (c, j)).foldl
    (fun best e =>
      let (_, _, v, valid) := sensorFields e.1 e.2
      if s.bit valid && best.all (fun b => decide (s.get v < b.1)) then some (s.get v, 4 * e.1 + e.2) else best) none

/-- The sum of CELL_IMEAS.I over the cells of every region that has any, in 0.25 mA steps. -/
def regionSums (s : State) : Map Int :=
  s.treeRegions.map fun n => (n, ((s.cellsOf n).map fun c => s.getI (CELL_IMEAS.I c)).sum)

end State

/-- The tree of region n delivers the minimum of the samples of the edge before (R151..R153). -/
def treeDeliver (n : Nat) (s : State) : State :=
  match s.treeMin n with
  | some (v, x) => deliverValid n v x (s.treeCount n) s.sea.t s
  | none => deliverMin n 0 0 false s

/-- RGN_ISUM of region n takes the sum formed two CKS edges ago, in current codes of 250 steps of 0.25 mA (R8); the spec
states neither the rounding nor a sum beyond the field. -/
def sumDeliver (n : Nat) (s : State) : State :=
  let (q, s) := s.roundOpen (mapGet 0 s.sea.sum2 n) 250
  let s := s.putIOr (RGN_ISUM.I n) q
  s.keepMaxI (RGN_ISUM.IPEAK n) (s.getI (RGN_ISUM.I n))

/-- The replicas' samples of a CKS edge (R84): the currents given, and 0 where none can flow any more; the integrators take
the edge in (R87), and the runs of OVERCURRENT and REVERSE go on (R107). -/
def seaCurrents (xs : List (CellIx × BitVec 13)) (s : State) : State :=
  let s := s.each xs fun s x => cellCurrent x.1.val x.2.toInt s
  let s := s.each (s.listed (CELL_IMEAS 0) 0x40 3072) fun s c => if s.conducts c then s else cellCurrent c 0 s
  let s := seaCatch s
  s.each (union s.chargedCells ((s.cell.filter fun e => !e.2.runs.isEmpty).map Prod.fst)) fun s c => currentRuns c s

/-- The sensors' samples of a CKS edge (R90), and the checks of R94 on every cell with valid readings. -/
def seaReadings (xs : List (CellIx × Fin 4 × BitVec 11)) (s : State) : State :=
  let was := s.busyCells.map fun c => (c, [0, 1, 2, 3].map (s.reading c))
  let s := s.each xs fun s x => sensorSample x.1.val x.2.1.val x.2.2.toNat s
  s.each was fun s e =>
    if s.readingsValid e.1 then
      sensorChecks e.1 ([0, 1, 2, 3].filter fun j => e.2.getD j 0 != s.reading e.1 j) s
    else s

/-- The failures that the block itself detects at a CKS edge, with the lowest cause of each cell (R107). -/
def seaFailures (s : State) : State :=
  s.each s.busyCells fun s c =>
    match [1, 3, 5].find? (s.mayFail c) with
    | some k => cellFail c k s
    | none => s

/-- One CKS edge of the cell sea with what its replicas and sensors gave. -/
def seaEdge (e : SeaEdge) (s : State) : State :=
  let s := s.advanceTo e.ts
  let s := seaTake (s.cks - 1) s
  let s := s.each s.treeRegions fun s n => treeDeliver n s
  let s := s.each (union s.treeRegions (s.listed (RGN_ISUM 0) 0x100 256)) fun s n => sumDeliver n s
  let s := iseaKeep s
  let s := seaFailures (seaCurrents e.currents (seaReadings e.raws s))
  let s := s.each (union s.treeRegions s.liveRegions) fun s n => regionChecks n s
  { s with sea := { s.sea with t := e.ts, sum1 := s.regionSums, sum2 := s.sea.sum1 } }

/-! ### Base ticks (R204..R208) -/

/-- FMEAS (R229): a window of 16 µs that the front stage spent in RUN with MODE = FREE has ended. With no ACTIVE phase the
quotient has no stated value. -/
def fmeasTick (s : State) : State :=
  let runs := s.fsState == 2 && s.get XPH_CFG.MODE == 0
  let w := s.now / 12800
  let x := s.xph
  if w = x.win then
    { s with xph := { x with whole := x.whole && runs, fmeas := if runs then x.fmeas else none } }
  else
    let n := s.actives.length
    let (m, s) : Int × State :=
      if n = 0 then let (v, s) := s.drawFree; (v.toInt, s) else (((125 * x.trigs + n) / (2 * n) : Nat), s)
    { s with xph := { x with win := w, trigs := 0, whole := runs,
                             fmeas := if runs then (if x.whole then some m else x.fmeas) else none } }

/-- The trace's occasions of every base tick (R244): RMIN and VIM. -/
def traceTick (s : State) : State :=
  s.each (List.range 8) fun s ch =>
    let n := s.get (TRC_CH_CFG.IDX ch)
    match s.get (TRC_CH_CFG.SIG ch) with
    | 3 => traceOccasion ch (if n = 0 ∨ 255 < n then 0x7FFFFFFF else (s.source 1 n).getD 0x7FFFFFFF) s
    | 5 => traceOccasion ch (s.get XPH_VIM.VIM : Nat) s
    | _ => s

/-- Every region has a region loop tick in every second base frame (R132, R139); in the other frames RGN_VEFF follows the
profile and the trim of this tick (R206, R239). -/
def regionTicks (f : Nat) (s : State) : State :=
  if f % 2 = 0 then s.each s.tickRegions fun s n => regionTick n s
  else s.each s.liveRegions fun s n => veffPut n s

/-- The first base tick after a relock (R208, R306). -/
def relockTick (s : State) : State :=
  if s.tim.relocked then publishZero s.now (discardOutputs { s with tim := { s.tim with relocked := false } }) else s

/-- The work of the base tick that begins frame f (R206): profiles, Outrider's publication, the forecast and Tender at
step 1, loop outputs at step 2, a Loop Engine commit at step 3, the regions' ticks, the samples of the loops and of Outrider
at step 4, and the other blocks. -/
def tickWork (f : Nat) (issued : List (Nat × Nat)) (slacks : List (Nat × Option (BitVec 16))) (s : State) : State :=
  let s := fmeasTick (epochBounds (hostTo (fillTimeouts (relockTick { s with tim := { s.tim with frame := f } }))))
  let s := tenderTick issued (forecastTick (odrPublish f (pgTick f s)))
  let s := if s.bit LPE_CTRL.EN then applyOutputs f s else s
  let s := regionTicks f (lpeApplyCommit s)
  let s := odrSample f (if s.bit LPE_CTRL.EN then sampleLoops f s else s)
  let s := thmThrottleTick (thmTickDemand f (thmGuard (pwrTick s)))
  let s := s.each slacks fun s e => cpmSample e.1 e.2 s
  pstWork (sagFrontStop (cacheDue (reinAll (traceTick (senseSlots f s)))))

/-- A base tick at TS t, with the samples of the frame that ends (R204, R206). None falls while the PLL is not locked, in
instance reset, or before floor(TS / 100) changes. -/
def baseTick (t : Dword) (x : TickSamples) (s : State) : State :=
  let f := t.toNat / 100
  if !s.locked ∨ s.rst.inst ∨ f ≤ s.tim.frame then s
  else
    let s := (s.each x.sea fun s e => seaEdge e s).advanceTo t
    let s := noteEngineEvents (x.events.map fun e => (4 * e.1.val + e.2.1.val, e.2.2)) s
    tickWork f (x.issued.map fun e => (e.1.val, e.2.toNat))
      ((x.slacks.filter fun e => e.1.val != 0).map fun e => (e.1.val, e.2)) s

/-! ### One clock edge -/

/-- Instances 1..3 report a change of their Class 0 conditions to instance 0 (R545). -/
def reportConds (s : State) : State :=
  let c := s.class0Bits % 64
  if s.inst = 0 ∨ c = s.fw.sent then s
  else { s with fw := { s.fw with sent := c }, out := { s.out with conds := s.out.conds ++ [c] } }

/-- The work of a CKF edge of the CTRL island: Caboose samples its pins, Postilion accepts up to two doorbells (R582), the
ripple accumulator and the combiners step, a remote write leaves, and the conditions of the other buses follow. -/
def edgeWork (s : State) : State :=
  let s := pstWork (acceptNext (acceptNext (faultLatch s)))
  let s := txDrain (ttbCatch (rippleCatch s))
  let s := sagFrontStop (if s.hold.edgeDue then sagEdge s else s)
  let s := if s.tim.edges % 2 = s.tim.cksPar then seaEdge ⟨s.ts, [], []⟩ s else s
  let s := reportConds (smbLatch (reinAll s))
  freezeTimed (if s.now / 100 ≤ s.tim.frame then s else tickWork (s.now / 100) [] [] (noteEngineEvents [] s))

/-- One edge of the clock that runs, with nothing from outside: CKF while the PLL is locked, else CKA, of 32 ticks (R49).
Power-on reset holds everything (R48, R633). -/
def clockEdge (s : State) : State :=
  if s.rst.por then s
  else if s.locked then
    let s := s.passEdges 1
    if s.rst.inst then releaseReset s else edgeWork s
  else s.passCoarse 32

end Sys2Proof.Machine
end

