-- ==== Sys2Proof/Machine/Outrider.lean ====
section
/-! DEFINITION. Machine/Outrider.lean: the meanings of Outrider's commands and events (spec/08_outrider.md). -/

namespace Sys2Proof.Machine

/-- A run tick (R303, R304): the base tick of a frame f with f mod PERIOD = PHASE while Outrider is RUNNING, at which the
previous run is published, the inputs are sampled and the next run is computed, each at its step of R206. A base tick that
has been made already made the run tick with it; samples of the engines come with BASE_TICK. -/
def execOutriderRunTick (t : Dword) (s : State) : Out :=
  .next (if s.runTick (t.toNat / 100) then baseTick t ⟨[], [], [], []⟩ s else s)

/-- A write of OUT_CTL with START = 1 alone (R311). -/
def execOutriderStart (req : Requester) (value : Word) (s : State) : Out :=
  .next (gated req OUT_CTL ((value &&& ~~~7) ||| 1) outCtlWrite s)

/-- START validation ends (R312, R313). -/
def execOutriderValidationDone (t : Dword) (s : State) : Out :=
  .next (s.running fun s => odrValidated (s.advanceTo t))

/-- A write of OUT_CTL with STOP = 1 alone (R306, R307, R311). -/
def execOutriderStop (req : Requester) (value : Word) (s : State) : Out :=
  .next (gated req OUT_CTL ((value &&& ~~~7) ||| 2) outCtlWrite s)

/-- A write of OUT_CTL with CLEAR = 1 alone (R311). -/
def execOutriderClear (req : Requester) (value : Word) (s : State) : Out :=
  .next (gated req OUT_CTL ((value &&& ~~~7) ||| 4) outCtlWrite s)

/-- An uncorrectable error in an activation table, in working storage or in a weight word during a run (R314). -/
def execOutriderError (t : Dword) (s : State) : Out :=
  .next (s.running fun s => odrFail (s.advanceTo t))

/-- A write of 1 to OUT_DMA_CTRL.GO (R309). -/
def execOutriderDmaStart (req : Requester) (s : State) : Out := .next (gated req OUT_DMA_CTRL 1 outDmaWrite s)

/-- A weight transfer ends, completely or with an error of the host fabric after some words (R309). -/
def execOutriderDmaDone (t : Dword) (words : List Word) (ok : Bool) (s : State) : Out :=
  .next (s.running fun s => outDmaDone words ok (s.advanceTo t))

/-- Outrider's initialisation ends (R315). -/
def execOutriderInitDone (t : Dword) (s : State) : Out := 
  .next (s.running fun s => (s.advanceTo t).put OUT_STAT.INIT_DONE 1)

end Sys2Proof.Machine
end

