-- ==== Sys2Proof/Machine/Pmbus.lean ====
section
/-! DEFINITION. Machine/Pmbus.lean: the meanings of the PMBus transactions (R627..R630). Reads have no side effects. -/

namespace Sys2Proof.Machine

/-- 0x00 PAGE, written: any page but 0 is invalid data. -/
def execPage (page : BitVec 8) (s : State) : Out := .next (smbDo (fun s => if page = 0 then s else cmlLatch 6 s) s)

/-- 0x00 PAGE, read. -/
def execPageRead (s : State) : Out := .next (smbDo (fun s => s.answer [0]) s)

/-- 0x03 CLEAR_FAULTS (R629). -/
def execClearFaults (s : State) : Out := .next (smbDo (fun s => { s with smb := { alert := s.smb.alert } }) s)

/-- 0x19 CAPABILITY. -/
def execCapability (s : State) : Out := .next (smbDo (fun s => s.answer [0xD0]) s)

/-- 0x20 VOUT_MODE. -/
def execVoutMode (s : State) : Out := .next (smbDo (fun s => s.answer [0x14]) s)

/-- 0x78 STATUS_BYTE. -/
def execStatusByte (s : State) : Out :=
  .next (smbDo (fun s => let s := smbFresh s; s.answer (smbBytes 1 s.statusWord)) s)

/-- 0x79 STATUS_WORD. -/
def execStatusWord (s : State) : Out :=
  .next (smbDo (fun s => let s := smbFresh s; s.answer (smbBytes 2 s.statusWord)) s)

/-- 0x7A STATUS_VOUT. -/
def execStatusVout (s : State) : Out :=
  .next (smbDo (fun s => let s := smbFresh s; s.answer (smbBytes 1 s.smb.vout)) s)

/-- 0x7B STATUS_IOUT. -/
def execStatusIout (s : State) : Out :=
  .next (smbDo (fun s => let s := smbFresh s; s.answer (smbBytes 1 s.smb.iout)) s)

/-- 0x7C STATUS_INPUT. -/
def execStatusInput (s : State) : Out :=
  .next (smbDo (fun s => let s := smbFresh s; s.answer (smbBytes 1 s.smb.input)) s)

/-- 0x7D STATUS_TEMPERATURE. -/
def execStatusTemperature (s : State) : Out :=
  .next (smbDo (fun s => let s := smbFresh s; s.answer (smbBytes 1 s.smb.temp)) s)

/-- 0x7E STATUS_CML. -/
def execStatusCml (s : State) : Out := .next (smbDo (fun s => let s := smbFresh s; s.answer (smbBytes 1 s.smb.cml)) s)

/-- 0x80 STATUS_MFR_SPECIFIC. -/
def execStatusMfrSpecific (s : State) : Out :=
  .next (smbDo (fun s => let s := smbFresh s; s.answer (smbBytes 1 s.smb.mfr)) s)

/-- 0x88 READ_VIN: V12 in mV. -/
def execReadVin (s : State) : Out :=
  .next (smbDo (fun s => replyLinear (linear11 (s.get XPH_IN.V12 : Nat) 1000 (-6) 0) s) s)

/-- 0x89 READ_IIN: I12 in 1/16 A. -/
def execReadIin (s : State) : Out := .next (smbDo (fun s => replyLinear (linear11 (s.getI XPH_IN.I12) 16 (-6) 0) s) s)

/-- 0x8B READ_VOUT: VIM in volts × 4,096, rounded. -/
def execReadVout (s : State) : Out :=
  .next (smbDo (fun s => s.answer (smbBytes 2 (roundHalfUp (128 * s.get XPH_VIM.VIM : Nat) 25).toNat)) s)

/-- 0x8C READ_IOUT: IVIM in 1/16 A. -/
def execReadIout (s : State) : Out :=
  .next (smbDo (fun s => replyLinear (linear11 (s.getI XPH_IVIM.IVIM) 16 (-4) 2) s) s)

/-- 0x8D READ_TEMPERATURE_1: the hottest valid thermal group, in 1/16 °C. -/
def execReadTemperature1 (s : State) : Out :=
  .next (smbDo (fun s =>
    replyHottest (((List.range 64).filter fun q => s.bit (THM_GSTAT.VALID q)).map fun q => s.getI (THM_GSTAT.TEMP q)) 16 s) s)

/-- 0x8E READ_TEMPERATURE_2: the hottest stage of the enabled phases, in °C. -/
def execReadTemperature2 (s : State) : Out :=
  .next (smbDo (fun s => replyHottest
      (((List.range 32).filter fun p => s.bit (XPH_PH_CFG.EN p)).map fun p => ((s.get (XPH_PH_MEAS.TEMP p) : Nat) : Int)) 1 s) s)

/-- 0x96 READ_POUT: VIM × IVIM, in 1/12,800 W. -/
def execReadPout (s : State) : Out :=
  .next (smbDo (fun s => replyLinear (linear11 (s.get XPH_VIM.VIM * s.getI XPH_IVIM.IVIM) 12800 (-2) 3) s) s)

/-- 0x98 PMBUS_REVISION. -/
def execPmbusRevision (s : State) : Out := .next (smbDo (fun s => s.answer [0x44]) s)

/-- 0x99 MFR_ID. -/
def execMfrId (s : State) : Out := .next (smbDo (fun s => replyText "BIRAURI" s) s)

/-- 0x9A MFR_MODEL. -/
def execMfrModel (s : State) : Out := .next (smbDo (fun s => replyText "VELOL" s) s)

/-- 0xD0 MFR_PKG_CAP, written (R378): only instance 0 takes it. -/
def execMfrPkgCap (value : BitVec 16) (s : State) : Out :=
  .next (smbDo (fun s =>
    if s.inst = 0 then s.running (pwrWrite PWR_PKG_BMC (value.zeroExtend 32)) else cmlLatch 6 s) s)

/-- 0xD0 MFR_PKG_CAP, read. -/
def execMfrPkgCapRead (s : State) : Out := .next (smbDo (fun s => s.answer (smbBytes 2 (s.get PWR_PKG_BMC.BMC))) s)

/-- 0xD1 MFR_INST_STATUS. -/
def execMfrInstStatus (s : State) : Out :=
  .next (smbDo (fun s => replyRegs [VL_STAT, CBSE_STAT, CBSE_FIRST, THM_STAT, XPH_STAT] s) s)

/-- 0xD2 MFR_CAP_STATE. -/
def execMfrCapState (s : State) : Out :=
  .next (smbDo (fun s =>
    s.answer (smbBytes 4 (s.blockView PWR_STAT).toNat ++ smbBytes 2 (s.blockView PWR_DEFICIT).toNat ++ smbBytes 2 0)) s)

/-- 0xD3 MFR_EIN. -/
def execMfrEin (s : State) : Out := .next (smbDo (fun s => s.answer (smbBytes 8 (s.get64 PWR_EIN_LO))) s)

/-- A transaction that R627 NACKs: bit 7 an invalid command, 6 invalid data, 5 a failed PEC, 1 another fault. -/
def execPmbusInvalidCommand (fault : Fin 4) (s : State) : Out :=
  .next (smbDo (fun s => cmlLatch ([7, 6, 5, 1].getD fault.val 1) s) s)

/-- The target wins the Alert Response Address (R630). -/
def execAlertResponse (s : State) : Out :=
  .next (smbDo (fun s => let s := smbFresh s
     if s.smbAlert then { s with smb := { s.smb with alert := false }, rdata := [BitVec.ofNat 32 s.smbAddr] } else s) s)

end Sys2Proof.Machine
end

