-- ==== Sys2Proof/Machine/Postilion.lean ====
section
/-! DEFINITION. Machine/Postilion.lean: the meanings of the interrupt controller's commands and events
(spec/19_postilion.md), and of the cores' time-stamp read (R531). -/

namespace Sys2Proof.Machine

/-- A core reads a CSR: it does so while it is RUN. -/
def onCore (i : Nat) (f : State → State) (s : State) : State := if s.coreState i = 1 then f s else s

/-- Core i reads CSR 0xFC0, which latches bits 63:32, or with `high` CSR 0xFC1 (R531). -/
def execTsCsrRead (t : Dword) (i : CoreIx) (high : Bool) (s : State) : Out :=
  .next
    (onCore i.val
      (fun s =>
        let key := 16 * 2 ^ 25 + i.val
        if high then s.answer [mapGet 0 s.latch key]
        else
          { s with latch := mapSet 0 s.latch key (BitVec.ofNat 32 (s.now / 2 ^ 32)),
                   rdata := [BitVec.ofNat 32 s.now] })
      (s.advanceTo t))

/-- Core i reads CSR 0xFC2 (R590). -/
def execClaim (t : Dword) (i : CoreIx) (s : State) : Out :=
  .next (onCore i.val (fun s => let r := claim i.val s; r.2.answer [BitVec.ofNat 32 r.1]) (windowsCatch (s.advanceTo t)))

/-- Core i writes CSR 0xFC3 (R591). -/
def execComplete (t : Dword) (i : CoreIx) (value : Word) (s : State) : Out :=
  .next (onCore i.val (fun s => complete i.val value.toNat s) (s.advanceTo t))

/-- After two acceptances at a CKF edge the next falls on the next edge (R582). -/
def acceptEdge (s : State) : State := if s.locked ∧ 2 ≤ s.takenNow.1 then s.passEdges 1 else s

/-- A doorbell is accepted: the next that waits, after a write of PST_DOORBELL when one comes with it (R581..R583). -/
def execDoorbell (t : Dword) (write : Option (Requester × BitVec 16)) (s : State) : Out :=
  .next (s.running fun s =>
    (let s := s.advanceTo t
     match write with
     | none => acceptNext (acceptEdge s)
     | some (req, n) =>
       let v := BitVec.ofNat 32 n.toNat
       if deniedWhole req PST_DOORBELL v s then recordDenied req PST_DOORBELL s
       else acceptNext (acceptEdge (doorbellIn n.toNat s))))

/-- A deliverable source is bound (R587). -/
def execSourceBind (t : Dword) (n : SourceIx) (s : State) : Out :=
  .next (let s := s.advanceTo t; if n.val = 0 then s else bindSource n.val s)

/-- A coalescing group releases (R595): below its count, time passes to the end of its window. -/
def execCoalesceRelease (t : Dword) (c : Fin 16) (s : State) : Out :=
  .next
    (let s := s.advanceTo t
     if c.val = 0 ∨ !s.bit (PST_CG_STAT.OPEN c.val) then s
     else coalesceRelease c.val (if s.coalesceDue c.val then s else s.advanceTo (BitVec.ofNat 64 (s.coalesceEnd c.val))))

/-- A read of PST_HOST_CLAIM (R594). -/
def execHostClaim (t : Dword) (s : State) : Out :=
  .next
    (if s.rst.inst then s.answer [s.rd PST_HOST_CLAIM]
     else let r := hostClaim (windowsCatch (s.advanceTo t)); r.2.answer [BitVec.ofNat 32 r.1])

/-- A write of PST_SRC_CFG[n] (R598, R599). -/
def execSourceMask (req : Requester) (n : SourceIx) (value : Word) (s : State) : Out :=
  .next (if n.val = 0 then s else gated req (PST_SRC_CFG n.val) value (srcCfgWrite n.val) s)

/-- The mask window of source n ends (R598): CKF cycles pass to its sixteenth. -/
def execMaskWindowEnd (t : Dword) (n : SourceIx) (s : State) : Out :=
  .next
    (let s := s.advanceTo t
     maskWindowEnd n.val
       (match s.pst.windows.find? fun e => e.1 == n.val with
        | some e => if s.locked ∧ s.tim.edges < e.2 + 16 then s.passEdges (e.2 + 16 - s.tim.edges) else s
        | none => s))

/-- A write of PST_SRC_STAT[n] (R599). -/
def execSourcePendClear (req : Requester) (n : SourceIx) (value : Word) (s : State) : Out :=
  .next (if n.val = 0 then s else gated req (PST_SRC_STAT n.val) value (srcStatWrite n.val) s)

/-- A write of PST_CTRL (R597). -/
def execGlobalDisable (req : Requester) (value : Word) (s : State) : Out :=
  .next (gated req PST_CTRL value pstCtrlWrite s)

/-- Edge latch e catches an edge (R603). -/
def execEdgeCaught (t : Dword) (e : Fin 32) (rising : Bool) (s : State) : Out :=
  .next (edgeCaught e.val rising (s.advanceTo t))

end Sys2Proof.Machine
end

