-- ==== Sys2Proof/Machine/Power.lean ====
section
/-! DEFINITION. Machine/Power.lean: the meanings of power policy's commands and events (spec/11_power_policy.md). The
opcodes of R394 are carried out by SCH and answered with a status of R10 and a payload. -/

namespace Sys2Proof.Machine

/-- A write of PWR_CTRL with OP_EN = 1 (R360). -/
def execOpEnable (req : Requester) (value : Word) (s : State) : Out :=
  .next (gated req PWR_CTRL (value ||| 1) pwrCtrlWrite s)

/-- Operating-point validation ends (R360). -/
def execOpValidationDone (t : Dword) (s : State) : Out := .next (s.running fun s => opValidate (s.advanceTo t))

/-- The voltage of region n's move up is reached (R364). -/
def execMoveUpComplete (t : Dword) (n : RegionIx) (s : State) : Out := 
  .next (s.running fun s => moveUpDone n.val (s.advanceTo t))

/-- A write of PWR_FREQ[n].ACK (R365, R368). -/
def execFreqAck (req : Requester) (n : RegionIx) (value : Word) (s : State) : Out :=
  .next (if n.val = 0 then s else gated req (PWR_FREQ n.val) value (freqAck n.val) s)

/-- Region n's move down has waited TO microseconds (R367). -/
def execFreqAckTimeout (t : Dword) (n : RegionIx) (s : State) : Out := 
  .next (s.running fun s => ackTimeout n.val (s.advanceTo t))

/-- A TS multiple of 800 (R372, R373, R388), unless its base tick has made the estimate. -/
def execPowerEstimate (t : Dword) (s : State) : Out :=
  .next (s.running fun s =>
    let s := s.advanceTo t
    if s.boundaryDue 800 s.pwr.estAt then powerEstimate s else s)

/-- A TS multiple of 8,000,000 (R375), unless its base tick has taken the snapshot. -/
def execCalibrationSnapshot (t : Dword) (s : State) : Out :=
  .next (s.running fun s =>
    let s := s.advanceTo t
    if s.boundaryDue 8000000 s.pwr.calAt then calSnapshot s else s)

/-- A write of PWR_CAL with COMMIT = 1 (R376). -/
def execCoeffCommit (req : Requester) (value : Word) (s : State) : Out :=
  .next (gated req PWR_CAL (value ||| 1) (storeReg PWR_CAL) s)

/-- The next TS multiple of 800 after COMMIT (R376). -/
def execCoeffCommitApply (t : Dword) (s : State) : Out := 
  .next (s.running fun s =>
    let s := s.advanceTo t
    if s.boundaryDue 800 s.pwr.estAt ∨ s.pwr.estAt = s.now then coeffApply s else s)

/-- A cap-window boundary (R379..R384), unless its base tick has made it. -/
def execCapWindowBoundary (t : Dword) (s : State) : Out :=
  .next (s.running fun s =>
    let s := s.advanceTo t
    if s.boundaryDue 80000 s.pwr.capAt then capBoundary s else s)

/-- Instance 0 receives M of instance k over the sideband (R380, R381). -/
def execShareReport (t : Dword) (k : Fin 4) (m : BitVec 16) (s : State) : Out :=
  .next (s.running fun s => shareReport k.val m.toNat (s.advanceTo t))

/-- Instance 0 computes and sends the shares (R380, R381). -/
def execShareCompute (t : Dword) (s : State) : Out := .next (s.running fun s => shareCompute (s.advanceTo t))

/-- An instance 1..3 receives its share and the mirrored terms (R378, R380, R381). -/
def execShareReceive (t : Dword) (share cap : BitVec 16) (pkg bmc : Word) (envEn : Bool) (pg : Fin 16) (s : State) : Out :=
  .next (s.running fun s =>
    shareReceive ⟨s.inst, share.toNat, cap.toNat, pkg, bmc &&& 0xFFFF, envEn, pg.val⟩ (s.advanceTo t))

/-- A Waybill interval ends (R387..R392), unless its base tick has ended it; with `fail`, the host fabric fails after that
many records. -/
def execWaybillIntervalEnd (t : Dword) (fail : Option (Fin 16)) (s : State) : Out :=
  .next (s.running fun s =>
    let s := s.advanceTo t
    if s.boundaryDue s.ivlLength s.pwr.ivlStart then waybillEnd (fail.map (·.val)) s else s)

end Sys2Proof.Machine
end

