-- ==== Sys2Proof/Machine/Regions.lean ====
section
/-! DEFINITION. Machine/Regions.lean: the meanings of the regions' commands and events (spec/04_regions.md). -/

namespace Sys2Proof.Machine

/-- Region 0 is no region: a command that names it does nothing (R119, R158). -/
def onRegion (n : RegionIx) (f : State → State) (s : State) : Out := .next (if n.val = 0 then s else f s)

/-- A write of 1 to RGN_CFG_CTRL.COMMIT (R123, R127, R128). -/
def execCfgCommit (req : Requester) (value : Word) (s : State) : Out :=
  .next (gated req RGN_CFG_CTRL (value ||| 1) cfgCtrlWrite s)

/-- A write of 1 to RGN_CFG_CTRL.REVERT alone (R128). -/
def execCfgRevert (req : Requester) (value : Word) (s : State) : Out :=
  .next (gated req RGN_CFG_CTRL ((value ||| 2) &&& ~~~1) cfgCtrlWrite s)

/-- Commit validation ends (R123, R124). -/
def execCommitValidationDone (s : State) : Out :=
  .next (s.running fun s =>
    if s.cfg = .validating then
      let (cause, n) := s.commitCheck
      if cause = 0 then { s with cfg := .waiting } else commitEnd stBADPARAM cause n s
    else s)

/-- A safe point: no affected region holds the commit up (R125, R126). -/
def execCommitSafePoint (t : Dword) (s : State) : Out :=
  .next (s.working fun s =>
    if s.cfg = .waiting ∧ !s.affectedRegions.any s.blocksCommit then
      commitEnd stOK 0 0 (commitApply (s.advanceTo t))
    else s)

/-- No safe point within 1 ms (R125). -/
def execSafePointTimeout (t : Dword) (s : State) : Out :=
  .next (s.running fun s =>
    if s.cfg = .waiting then
      match s.affectedRegions.find? s.blocksCommit with
      | some n => commitEnd stBUSY 7 n (s.advanceTo t)
      | none => s
    else s)

/-- A revert completes (R128). -/
def execCfgRevertDone (s : State) : Out :=
  .next (s.running fun s =>
    if s.cfg = .reverting then { (revertApply s).put RGN_CFG_STAT.BUSY 0 with cfg := .idle } else s)

/-- A write to RGN_VSET[n] (R129). -/
def execRgnVsetWrite (req : Requester) (n : RegionIx) (value : Word) (s : State) : Out :=
  onRegion n (gated req (RGN_VSET n) value (vsetWrite n)) s

/-- A write of RGN_CMD[n].OP by a requester, through the writer restrictions. -/
def rgnCmdWrite (req : Requester) (n op : Nat) (s : State) : State :=
  gated req (RGN_CMD n) (BitVec.ofNat 32 op) (fun v s => reinAll (rgnCommand n (fldGet v 3 0) s)) s

/-- RGN_CMD NOP (R133). -/
def execRegionNop (req : Requester) (n : RegionIx) (s : State) : Out := onRegion n (rgnCmdWrite req n 0) s
/-- RGN_CMD ENABLE (R133). -/
def execEnable (req : Requester) (n : RegionIx) (s : State) : Out := onRegion n (rgnCmdWrite req n 1) s
/-- RGN_CMD DISABLE (R133). -/
def execDisable (req : Requester) (n : RegionIx) (s : State) : Out := onRegion n (rgnCmdWrite req n 2) s
/-- RGN_CMD CLEAR_FAULT (R133). -/
def execClearFault (req : Requester) (n : RegionIx) (s : State) : Out := onRegion n (rgnCmdWrite req n 3) s
/-- A reserved RGN_CMD OP, 0x4..0xF (R133). -/
def execRegionCmdReserved (req : Requester) (n : RegionIx) (op : BitVec 4) (s : State) : Out :=
  onRegion n (rgnCmdWrite req n op.toNat) s

/-- A pending enable executes, or is discarded, at the first tick at which the region is OFF with no ACTIVE cell (R136). -/
def execPendingEnableExecute (t : Dword) (n : RegionIx) (s : State) : Out :=
  onRegion n (fun s => s.working fun s => rgnPendingTick n (s.advanceTo t)) s

/-- The ramp ends (R141): the reference equals its target after 16 good minima; ON, or LAME below the floor (R132). -/
def execRampEnd (t : Dword) (n : RegionIx) (s : State) : Out :=
  onRegion n (fun s => s.working fun s => if s.rampMet n then rampEnd n (s.advanceTo t) else s) s

/-- A NO_RISE window runs out during RAMPING (R142, R148). -/
def execRegionNoRise (t : Dword) (n : RegionIx) (s : State) : Out :=
  onRegion n
    (fun s => s.working fun s =>
      let s := s.advanceTo t
      if s.noRise n then regionCause n 3 s.now32 s else s) s

/-- A quarter of the ACTIVE cells have reported ILIM in 4 CKS samples in a row during RAMPING (R142, R148). -/
def execRegionShort (t : Dword) (n : RegionIx) (s : State) : Out :=
  onRegion n
    (fun s => s.working fun s =>
      let s := s.advanceTo t
      if s.shortRun n then regionCause n 2 s.now32 s else s) s

/-- The region's tree has been empty for 64 samples (R148). -/
def execRegionBlind (t : Dword) (n : RegionIx) (s : State) : Out :=
  onRegion n
    (fun s => s.working fun s =>
      let s := s.advanceTo t
      if s.blindRun n then regionCause n 5 s.now32 s else s) s

/-- A write of 1 to VSN_CTRL[n].CLR (R154). -/
def execMinvClear (req : Requester) (n : RegionIx) (s : State) : Out :=
  onRegion n (gated req (VSN_CTRL n) 1 (fun v s => if fldGet v 0 0 = 1 then minvClear n s else s)) s

/-- A read of VSN_MINV[n] latches its time-stamp for the requester (R155). -/
def execMinvRead (req : Requester) (n : RegionIx) (s : State) : Out :=
  onRegion n (fun s => (s.answer [s.rd (VSN_MINV n)]).running (minvLatch req n)) s

/-- A delivered minimum below VSN_MINV replaces it (R153), from the samples of the CKS edge before, 2 ticks earlier (R151);
the tree delivers it to Skid and the ramp checks too. -/
def execMinvReplacement (t : Dword) (n : RegionIx) (v : BitVec 11) (sensor : BitVec 14) (s : State) : Out :=
  onRegion n
    (fun s => s.working fun s =>
      let s := s.advanceTo t
      deliverValid n v.toNat sensor.toNat (s.treeCount n) (s.ts - 2) s) s

end Sys2Proof.Machine
end

