-- ==== Sys2Proof/Machine/Reset.lean ====
section
/-! DEFINITION. Machine/Reset.lean: the meanings of the resets, of the clock and island events, and of boundary scan
(spec/02_time_and_clocks.md, spec/21_reset_and_holdup.md, spec/22_signals_and_test.md). -/

namespace Sys2Proof.Machine

/-- A write of 1 to TIM_CTRL.PLL_EN (R40). -/
def execPllEnable (req : Requester) (s : State) : Out := .next (gated req TIM_CTRL 1 timCtrlWrite s)

/-- A write of 0 to TIM_CTRL.PLL_EN (R47, R674). -/
def execPllStop (req : Requester) (s : State) : Out := .next (gated req TIM_CTRL 0 timCtrlWrite s)

/-- The PLL locks (R45). -/
def execPllLock (t : Dword) (s : State) : Out := .next (pllLock (s.advanceTo t))

/-- Loss of lock is declared (R41, R42). -/
def execLossOfLock (t : Dword) (refAbsent : Bool) (s : State) : Out := .next (lossOfLock refAbsent (s.advanceTo t))

/-- A write of TIM_TS_ADJ with MODE = SLEW (R54). -/
def execTsSlew (req : Requester) (offset : BitVec 16) (s : State) : Out :=
  .next (gated req TIM_TS_ADJ (offset.zeroExtend 32) tsAdjWrite s)

/-- A write of TIM_TS_ADJ with MODE = STEP (R55). -/
def execTsStep (req : Requester) (offset : BitVec 16) (s : State) : Out :=
  .next (gated req TIM_TS_ADJ (BitVec.ofNat 32 (65536 + offset.toNat)) tsAdjWrite s)

/-- The 256th CKF edge of a slew (R54). -/
def execSlewStep (s : State) : Out := .next (slewStep s)

/-- The CTRL island becomes good (R61). -/
def execCtrlPowerGood (t : Dword) (s : State) : Out := .next (ctrlGood (s.advanceTo t))

/-- The CTRL island stops being good (R63). -/
def execCtrlPowerLoss (t : Dword) (s : State) : Out := .next (ctrlLoss (s.advanceTo t))

/-- The reference stops (R39). -/
def execReferenceAbsent (t : Dword) (s : State) : Out := .next (referenceAbsent (s.advanceTo t))

/-- The reference returns (R44). -/
def execReferenceReturn (t : Dword) (s : State) : Out := .next (referenceReturn (s.advanceTo t))

/-- VAON falls: power-on reset, with the straps at `asel` (R634). -/
def execPowerOnReset (asel : Fin 4) (s : State) : Out := .next (powerOnReset asel.val s)

/-- Power-on reset is released (R637). -/
def execPowerOnResetRelease (t : Dword) (s : State) : Out := .next (releasePor (s.advanceTo t))

/-- The host drives VL_RST_N low, or lets it go high (R635). -/
def execResetPin (t : Dword) (low : Bool) (s : State) : Out :=
  .next
    (let s := s.advanceTo t
     if low then
       let s := assertReset (noteCause HOLD_RCAUSE.PIN s)
       { s with rst := { s.rst with pin := true } }
     else { s with rst := { s.rst with pin := false } })

/-- A write of 0x0000_5A01 to HOLD_RST (R635). -/
def execSoftwareInstanceReset (t : Dword) (req : Requester) (s : State) : Out :=
  .next (gated req HOLD_RST 0x5A01 holdRstWrite (s.advanceTo t))

/-- A write of 0x0000_5A02 to HOLD_RST (R636). -/
def execSoftwareFirmwareReset (t : Dword) (req : Requester) (s : State) : Out :=
  .next (gated req HOLD_RST 0x5A02 holdRstWrite (s.advanceTo t))

/-- Instance reset is released (R635). -/
def execInstanceResetRelease (t : Dword) (s : State) : Out := .next (releaseReset (s.advanceTo t))

/-- The host TAP enters EXTEST, CLAMP or HIGHZ, or updates the cells in one of them: the segment's 127 cells drive the digital
balls (R664, R665). -/
def execBoundaryScanEnter (e : ScanUpdate) (s : State) : Out :=
  .next
    (let s := assertReset (s.advanceTo e.t)
     { s with rst := { s.rst with scan := true, cells := e.cells } })

/-- The host TAP leaves these instructions (R665); instance reset is then released under R635. -/
def execBoundaryScanExit (t : Dword) (s : State) : Out :=
  .next
    (let s := s.advanceTo t
     { s with rst := { s.rst with scan := false } })

end Sys2Proof.Machine
end

