-- ==== Sys2Proof/Machine/Sense.lean ====
section
/-! DEFINITION. Machine/Sense.lean: the meanings of the sense converters' commands and events
(spec/13_sense_converters.md, spec/22_signals_and_test.md). -/

namespace Sys2Proof.Machine

/-- The slot in progress on converter k ends with a raw value, at the base tick t (R432). -/
def execConversionComplete (t : Dword) (k : Fin 4) (raw : BitVec 14) (s : State) : Out :=
  .next (s.running fun s => convComplete k.val raw.toNat (slotEnd k.val (s.advanceTo t)))

/-- A write of SNS_URG[k] (R445). -/
def execUrgentRequest (req : Requester) (k : Fin 4) (ch : BitVec 6) (s : State) : Out :=
  .next (gated req (SNS_URG k.val) (BitVec.ofNat 32 ch.toNat) (fun v s => urgentWrite k.val (fldGet v 5 0) s) s)

/-- A write of SNS_CFG[k] (R440). -/
def execSnsRefWrite (req : Requester) (k : Fin 4) (value : Word) (s : State) : Out :=
  .next (gated req (SNS_CFG k.val) value (snsCfgWrite k.val) s)

/-- The settling time of converter k's reference ends (R440, R441). -/
def execRefSettled (t : Dword) (k : Fin 4) (s : State) : Out :=
  .next (s.running fun s => refSettled k.val (s.advanceTo t))

/-- A pair has disagreed for NFAIL check periods (R450). -/
def execPairFail (t : Dword) (pair : Fin 2) (s : State) : Out :=
  .next (s.running fun s => pairFail pair.val (s.advanceTo t))

/-- A failed pair has agreed for NFAIL check periods (R450). -/
def execPairRecover (t : Dword) (pair : Fin 2) (s : State) : Out :=
  .next (s.running fun s => pairRecover pair.val (s.advanceTo t))

/-- FILT results lie outside comparator w's band (R453, R454). -/
def execWindowExit (t : Dword) (w : Fin 64) (s : State) : Out :=
  .next (s.running fun s => compExit w.val (s.advanceTo t))

/-- FILT results lie within comparator w's hysteresis band (R453, R454). -/
def execWindowReentry (t : Dword) (w : Fin 64) (s : State) : Out :=
  .next (s.running fun s => compReenter w.val (s.advanceTo t))

/-- A duty window of comparator w ends (R455): the windows that have ended by t do. -/
def execWindowDutyEnd (t : Dword) (w : Fin 64) (s : State) : Out :=
  .next (s.running fun s =>
    let s := s.advanceTo t
    compTo w.val s.now s)

/-- A write of SNS_WC_CFG[w] or, with `band`, SNS_WC_BAND[w] (R456). -/
def execWindowConfigWrite (req : Requester) (w : Fin 64) (band : Bool) (value : Word) (s : State) : Out :=
  .next (gated req (if band then SNS_WC_BAND w.val else SNS_WC_CFG w.val) value (compWrite w.val band) s)

/-- A write of SNS_PT_CTL (R667, R668). -/
def execSnsPtCtlWrite (req : Requester) (value : Word) (s : State) : Out :=
  .next (gated req SNS_PT_CTL value testCurrentWrite s)

end Sys2Proof.Machine
end

