-- ==== Sys2Proof/Machine/Skid.lean ====
section
/-! DEFINITION. Machine/Skid.lean: the meanings of Skid's commands and events (spec/09_skid.md). -/

namespace Sys2Proof.Machine

/-- A valid minimum of v mV that sensor x gave is delivered for region n at this CKS edge (R151, R153), from the samples of
the CKS edge before, 2 ticks earlier, and Skid decides on it (R322, R323). -/
def skidMinimum (n v x cnt : Nat) (s : State) : State :=
  if n = 0 then s else deliverValid n v x cnt (s.ts - 2) s

/-- A delivered minimum below the trip level (R322). -/
def execSkidTrip (t : Dword) (n : RegionIx) (v : Minimum) (cnt : Nat) (s : State) : Out :=
  .next (s.running fun s => skidMinimum n.val v.v.toNat v.sensor.toNat cnt (s.advanceTo t))

/-- A delivered minimum at or above the release level (R323): the one that completes RELHOLD in a row takes D down a step. -/
def execSkidReleaseStep (t : Dword) (n : RegionIx) (v : Minimum) (cnt : Nat) (s : State) : Out :=
  .next (s.running fun s => skidMinimum n.val v.v.toNat v.sensor.toNat cnt (s.advanceTo t))

/-- A duty window of region n ends (R330, R332). -/
def execSkidWindowEnd (t : Dword) (n : RegionIx) (s : State) : Out :=
  .next (s.running fun s => if n.val = 0 then s else reinAll (skidWindowTo n.val t s))

/-- The duty count first exceeds its threshold in a window (R331). -/
def execSkidEscalate (t : Dword) (n : RegionIx) (s : State) : Out :=
  .next (s.running fun s => if n.val = 0 then s else reinAll (skidEscalate n.val (s.advanceTo t)))

/-- A write of SKID_ESC[n] (R331). -/
def execSkidEscWrite (req : Requester) (n : RegionIx) (value : Word) (s : State) : Out :=
  .next (if n.val = 0 then s
    else gated req (SKID_ESC n.val) value (fun v s => reinAll (skidWrite (SKID_ESC n.val) v s)) s)

/-- A write of SKID_WIN[n] (R330). -/
def execSkidWinWrite (req : Requester) (n : RegionIx) (value : Word) (s : State) : Out :=
  .next (if n.val = 0 then s
    else gated req (SKID_WIN n.val) value (fun v s => reinAll (skidWrite (SKID_WIN n.val) v s)) s)

/-- A write of SKID_FORCE[n] (R324). -/
def execSkidForceWrite (req : Requester) (n : RegionIx) (value : Word) (s : State) : Out :=
  .next (if n.val = 0 then s else gated req (SKID_FORCE n.val) value (skidWrite (SKID_FORCE n.val)) s)

end Sys2Proof.Machine
end

