-- ==== Sys2Proof/Machine/Telemetry.lean ====
section
/-! DEFINITION. Machine/Telemetry.lean: the meanings of the Freeze, export and ageing commands and events
(spec/16_telemetry_and_ageing.md), and of the epoch boundary (spec/12_coupler.md), which updates HRAVG too. -/

namespace Sys2Proof.Machine

/-- A write of TLM_FRZ_CTRL with LOCAL = 1 (R508, R510). -/
def execFreezeLocal (req : Requester) (value : Word) (s : State) : Out :=
  .next (gated req TLM_FRZ_CTRL (value ||| 1) frzCtrlWrite s)

/-- A write of TLM_FRZ_CTRL with ARM = 1 (R508, R509). -/
def execFreezeArm (req : Requester) (value : Word) (s : State) : Out :=
  .next (gated req TLM_FRZ_CTRL (value ||| 2) frzCtrlWrite s)

/-- A write of TLM_FRZ_CTRL with DISARM = 1 (R508). -/
def execFreezeDisarm (req : Requester) (value : Word) (s : State) : Out :=
  .next (gated req TLM_FRZ_CTRL (value ||| 4) frzCtrlWrite s)

/-- The first CKF edge at or after the armed time (R508..R511). -/
def execFreezeTimedCapture (t : Dword) (s : State) : Out := .next (s.running fun s => freezeTimed (armedTo (s.advanceTo t)))

/-- The unload of the 80 tiles ends (R511). -/
def execFreezeUnloadDone (t : Dword) (s : State) : Out := .next (s.running fun s => freezeUnloaded (unloadTo (s.advanceTo t)))

/-- The copy into the host ring ends, perhaps at an error of the host fabric (R516). -/
def execRingExportDone (t : Dword) (fail : Option (Fin 80 × Fin 1024)) (s : State) : Out :=
  .next (s.running fun s => ringExport (fail.map fun f => (f.1.val, f.2.val)) (s.advanceTo t))

/-- A write of TLM_TRX_CTRL with GO = 1 (R518); AUTO starts one as the trace reaches DONE. -/
def execTraceExportStart (req : Requester) (value : Word) (s : State) : Out :=
  .next (gated req TLM_TRX_CTRL (value ||| 1) trxWrite s)

/-- The trace export ends, perhaps at an error of the host fabric (R518, R519). -/
def execTraceExportDone (t : Dword) (fail : Option (BitVec 19)) (s : State) : Out :=
  .next (s.running fun s => traceExported (fail.map BitVec.toNat) (s.advanceTo t))

/-- An ageing window ends (R520, R521); where several means of cell c are equally large, entry c of `ties` settles the sensor. -/
def execAgeWindowEnd (t : Dword) (ties : List (Fin 4)) (s : State) : Out :=
  .next (s.running fun s => ageWindowEnd ties (ageTo (s.advanceTo t)))

/-- A write of AGE_CELL[ix].EOL or, with `region`, AGE_RGN[ix].EOL (R525). -/
def execEolWrite (req : Requester) (region : Bool) (ix : CellIx) (value : Word) (s : State) : Out :=
  .next
    (if region then
      (if 1 ≤ ix.val ∧ ix.val < 256 then gated req (AGE_RGN3 ix.val) value (eolWrite (AGE_RGN3 ix.val)) s else s)
    else gated req (AGE_CELL3 ix.val) value (eolWrite (AGE_CELL3 ix.val)) s)

/-- An epoch boundary (R410..R421, R523), unless its base tick has made it. -/
def execEpochBoundary (t : Dword) (s : State) : Out :=
  .next (s.working fun s =>
    let s := s.advanceTo t
    if s.boundaryDue 800000 s.cplr.epochAt then epochBoundary s else s)

end Sys2Proof.Machine
end

