-- ==== Sys2Proof/Machine/Thermal.lean ====
section
/-! DEFINITION. Machine/Thermal.lean: the meanings of the thermal commands and events (spec/14_thermal.md). -/

namespace Sys2Proof.Machine

/-- A guard window boundary (R461). -/
def execThermalGuard (t : Dword) (s : State) : Out :=
  .next (s.running fun s => thmGuard (s.advanceTo t))

/-- A write of THM_DEM_LO or, with `hi`, THM_DEM_HI (R461). -/
def execThermalDemand (req : Requester) (hi : Bool) (value : Word) (s : State) : Out :=
  .next (gated req (if hi then THM_DEM_HI else THM_DEM_LO) value (thmDemWrite hi) s)

/-- A measurement of group q ends with a raw count and the factory curve's temperature for it, or no count (R460). -/
def execThermalMeasurement (t : Dword) (q : GroupIx) (count : Option (BitVec 32 × BitVec 16)) (s : State) : Out :=
  .next (s.running fun s =>
    thmMeasure q.val (count.map fun c => (c.1.toNat, c.2.toInt)) (thmMeasureTo q.val (s.advanceTo t)))

/-- A sweep of group q ends (R466). -/
def execSweepEnd (t : Dword) (q : GroupIx) (s : State) : Out :=
  .next (s.working fun s => thmSweepEnd q.val (s.advanceTo t))

/-- A write of THM_SCTL[x] (R465). -/
def execThermalSensorExclWrite (req : Requester) (x : Fin 512) (value : Word) (s : State) : Out :=
  .next (gated req (THM_SCTL x.val) value (thmSctlWrite x.val) s)

/-- No engine group has issued in 1,024 CKF cycles of SHUTDOWN (R472). -/
def execDieDrained (t : Dword) (s : State) : Out := .next (s.working fun s =>
    let s := s.advanceTo t
    thmDrained (if s.thmState = 1 then drainTo s else s))

/-- Every region is OFF or FAULTED in SHUTDOWN (R472). -/
def execThermalDown (t : Dword) (s : State) : Out := .next (s.working fun s => thmDown (s.advanceTo t))

/-- 2 ms have passed in SHUTDOWN (R473). -/
def execThermalHardTimeout (t : Dword) (s : State) : Out :=
  .next (s.working fun s => thmTimeout (s.advanceTo t))

/-- A write of THM_CTRL (R476). -/
def execThermalClear (req : Requester) (value : Word) (s : State) : Out := .next (gated req THM_CTRL value thmCtrlWrite s)

end Sys2Proof.Machine
end

