-- ==== Sys2Proof/Machine/Tick.lean ====
section
/-! DEFINITION. Machine/Tick.lean: the base tick (R204, R206). -/

namespace Sys2Proof.Machine

/-- A base tick at TS t with what the outside world gave in the frame that ends (R206). -/
def execBaseTick (t : Dword) (x : TickSamples) (s : State) : Out := .next (baseTick t x s)

end Sys2Proof.Machine
end

