-- ==== Sys2Proof/Machine/YutreReg.lean ====
section
/-! DEFINITION. Machine/YutreReg.lean: what the Yutre opcodes do, as register accesses of SCH (R394, R430, R622, R624,
R625). -/

namespace Sys2Proof.Machine

/-! ### Register accesses of SCH -/

/-- SCH writes a register. -/
def schWrite (a : Nat) (v : Word) (s : State) : State := windowWrite .sch .b32 a v s

/-- SCH writes registers in order. -/
def schWrites (l : List (Nat × Word)) (s : State) : State := s.each l fun s e => schWrite e.1 e.2 s

/-- SCH reads registers in order. -/
def schReads (as : List Nat) (s : State) : List Word × State :=
  as.foldl (fun acc a => let r := windowRead .sch .b32 a acc.2; (acc.1 ++ [r.1], r.2)) ([], s)

/-- SCH replies with a status and the registers' words. -/
def schReply (st : Nat) (as : List Nat) (s : State) : State := let r := schReads as s; r.2.reply st r.1

/-- A word from a number. -/
def w32 (n : Nat) : Word := BitVec.ofNat 32 n

/-- A word of host memory that the host fabric returned; the list gives the words from the descriptor's address on. -/
def hostWord (data : List Word) (k : Nat) : Word := data.getD k 0

/-! ### Status and single registers -/

/-- READ_REG. -/
def yReadReg (off n : Nat) (s : State) : State :=
  if n = 0 ∨ 12 < n ∨ off % 4 ≠ 0 ∨ 2 ^ 25 < off + 4 * n then s.reply stBADPARAM []
  else schReply stOK ((List.range n).map fun i => off + 4 * i) s

/-- The field in which a command register reports the outcome of a command (R10), when offset a is one. -/
def resultOf (a : Nat) : Option Fld :=
  if a = XPH_CMD then some XPH_CMD.RES
  else
    match indexIn (RGN_CMD 0) 0x100 256 a with
    | some n => if n = 0 then none else some (RGN_CMD.RES n)
    | none => (indexIn (CELL_CMD 0) 0x40 3072 a).map CELL_CMD.RES

/-- WRITE_REG; the reply carries the status that a command register reports. -/
def yWriteReg (off : Nat) (v : Word) (s : State) : State :=
  if off % 4 ≠ 0 ∨ 2 ^ 25 ≤ off then s.reply stBADPARAM []
  else
    let s := schWrite off v s
    match resultOf off with
    | some f => s.reply (s.get f) []
    | none => s.reply stOK []

/-- A status that the spec does not state, one of the nine of R10. -/
def drawStatus (s : State) : Nat × State :=
  let (f, s) := s.drawFree
  ([stOK, stBUSY, stBADOPCODE, stBADPARAM, stDENIED, stDEFERRED, stVERSION, stNOTREADY, stINTERNAL].getD (f.toNat % 9) stOK, s)

/-- A command to region n that is in progress runs to its end at the region loop tick that SCH waits for (R132, R134). -/
def rgnToEnd (n : Nat) (s : State) : State := if (s.rhid n).cmd ≠ 0 then reinAll (veffPut n (rgnCmdTick n s)) else s

/-- REGION_CMD. -/
def yRegionCmd (n op : Nat) (s : State) : State :=
  if n = 0 ∨ 256 ≤ n then s.reply stBADPARAM []
  else
    let s := rgnToEnd n (schWrite (RGN_CMD n) (w32 op) s)
    schReply (s.get (RGN_CMD.RES n)) [RGN_CMD n] s

/-- FRONT_CMD. -/
def yFrontCmd (op : Nat) (s : State) : State :=
  let s := schWrite XPH_CMD (w32 op) s
  schReply (s.get XPH_CMD.RES) [XPH_CMD] s

/-- The offsets that CONFIG may write: CELL_MAP, RGN_VSET, and the registers of R121. -/
def configOffset (a : Nat) : Bool :=
  (indexIn (CELL_MAP 0) 0x40 3072 a).isSome ||
    (decide (0x100100 ≤ a) && decide (a < 0x110000) && a % 4 == 0 &&
      (a % 0x100 == 0x10 || (decide (0x20 ≤ a % 0x100) && decide (a % 0x100 < 0x40))))

/-- A commit that CONFIG has started runs to its end (R123..R126): the regions stay as they are meanwhile, so one that holds
the commit up now does so for the whole wait. -/
def commitToEnd (s : State) : State :=
  if s.cfg = .validating then
    let (cause, n) := s.commitCheck
    if cause = 0 then
      match s.affectedRegions.find? s.blocksCommit with
      | some n => commitEnd stBUSY 7 n s
      | none => commitEnd stOK 0 0 (commitApply s)
    else commitEnd stBADPARAM cause n s
  else s

/-- CONFIG. -/
def yConfig (n : Nat) (commit : Bool) (pairs : List (Nat × Word)) (s : State) : State :=
  if n = 0 ∨ 6 < n ∨ !pairs.all (fun e => configOffset e.1) then s.reply stBADPARAM []
  else
    let s := schWrites pairs s
    if commit then
      let s := schWrite RGN_CFG_CTRL 1 s
      let s := commitToEnd s
      schReply (s.get RGN_CFG_STAT.RES) [RGN_CFG_STAT] s
    else schReply stOK [RGN_CFG_STAT] s

/-! ### Power policy (R394) -/

/-- SET_PKG_CAP. -/
def ySetPkgCap (host smin : Nat) (s : State) : State :=
  if s.inst = 0 then (schWrite PWR_PKG (w32 (host * 65536 + smin)) s).reply stOK [] else s.reply stBADPARAM []

/-- SET_OP: BUSY when R359 refuses the write. -/
def ySetOp (n ix vcode fmhz valid : Nat) (s : State) : State :=
  if n = 0 ∨ 256 ≤ n ∨ 15 < ix ∨ 511 < vcode ∨ 4095 < fmhz ∨ 1 < valid then s.reply stBADPARAM []
  else
    let res := if s.bit PWR_CTRL.OP_EN ∧ s.rgnState n ≠ rOFF then stBUSY else stOK
    (schWrite (PWR_OP n ix) (w32 (valid * 2 ^ 31 + fmhz * 2 ^ 16 + vcode)) s).reply res []

/-- SET_LEG_PREF. -/
def ySetLegPref (leg ix noBoost : Nat) (s : State) : State :=
  if 63 < leg then s.reply stBADPARAM []
  else (schWrite (PWR_LEG leg) (w32 (noBoost % 2 * 16 + ix % 16)) s).reply stOK []

/-- SET_MODE: the reply follows validation, BAD_PARAM when it refuses OP_EN. -/
def ySetMode (flags defIdx pg : Nat) (s : State) : State :=
  let s := opValidate (schWrite PWR_CTRL (w32 (pg % 16 * 2 ^ 20 + defIdx % 16 * 2 ^ 16 + flags % 32)) s)
  s.reply (if flags % 2 = 1 ∧ !s.bit PWR_CTRL.OP_EN then stBADPARAM else stOK) []

/-- GET_REGION. -/
def yGetRegion (n : Nat) (s : State) : State :=
  if n = 0 ∨ 256 ≤ n then s.reply stBADPARAM [] else schReply stOK [PWR_RGN_STAT n, PWR_EST n, PWR_MEAS n, PWR_FREQ n] s

/-! ### Fleet (R430) -/

/-- SET_TREE: EN falls, the configuration is written, EN rises; BAD_PARAM under R431. -/
def ySetTree (role hbMiss pkg mask : Nat) (eps : List Nat) (s : State) : State :=
  if 2 ^ 17 ≤ mask then s.reply stBADPARAM []
  else
    let es := bitsOf mask 17
    let ctrl := role % 4 * 2 ^ 29 + hbMiss % 16
    let s := schWrite CPLR_CTRL (s.rd CPLR_CTRL &&& 0x7FFFFFFF) s
    let s := schWrite CPLR_ID (w32 (pkg % 32768 * 4)) s
    let s := s.each (List.range 17) fun s e =>
      let w : Nat :=
        match (es.zip eps).find? fun x => x.1 == e with
        | some (_, x) => (if 32768 ≤ x then 1 else 2) * 2 ^ 30 + x % 32768
        | none => 0
      schWrite (CPLR_EP_CFG e) (w32 w) s
    let s := schWrite CPLR_CTRL (w32 ctrl) s
    let s := schWrite CPLR_CTRL (w32 (ctrl + 2 ^ 31)) s
    s.reply (if s.cplrOn then stOK else stBADPARAM) []

/-- SET_GROUP. -/
def ySetGroup (x gid policy en : Nat) (lo hi : Word) (s : State) : State :=
  if 3 < x then s.reply stBADPARAM []
  else
    (schWrites [(CPLR_GRP_CFG x, w32 (en % 2 * 2 ^ 31 + policy % 2 * 2 ^ 30 + gid % 4096)), (CPLR_GMASK_LO x, lo),
      (CPLR_GMASK_HI x, hi)] s).reply stOK []

/-- ENV_POINT: the root issues a point (R411); other members answer BAD_PARAM. -/
def yEnvPoint (epoch : Word) (frac fleet : Nat) (s : State) : State :=
  if !s.isRoot then s.reply stBADPARAM []
  else (schWrites [(CPLR_ENV_ISSUE_E, epoch), (CPLR_ENV_ISSUE, w32 (fleet % 2 * 65536 + frac))] s).reply stOK []

/-- SET_ENV. -/
def ySetEnv (ref ki imax : Nat) (s : State) : State :=
  (schWrites [(CPLR_ENV_REF, w32 ref), (CPLR_ENV_TRIM, w32 (imax * 65536 + ki))] s).reply stOK []

/-- EMCAP. -/
def yEmcap (rate ttl : Nat) (s : State) : State :=
  (schWrite CPLR_EM_ISSUE (w32 (ttl * 65536 + rate % 128)) s).reply stOK []

/-- GET_GROUP. -/
def yGetGroup (x : Nat) (s : State) : State :=
  if 3 < x then s.reply stBADPARAM [] else schReply stOK [CPLR_GRP_CFG x, CPLR_GMASK_LO x, CPLR_GMASK_HI x, CPLR_GRP_STAT x] s

/-! ### Forecast and Outrider -/

/-- LOAD_PROGRAM: STOP, the transfer of n entries from a host address (R285), TTB_RANGE, and ARM. With `ok` false the host
fabric fails after the entries that `data` gives. -/
def yLoadProgram (descOk : Bool) (addr n dst start loop : Nat) (arm : Bool) (data : List Word) (ok : Bool) (s : State) :
    State :=
  if !descOk ∨ 65536 < dst + n then s.reply stBADPARAM []
  else if s.bit TTB_DMA_CTRL.BUSY then s.reply stBUSY []
  else
    let s := schWrite TTB_CTRL 2 s
    let s := schWrites [(TTB_DMA_SRC_LO, w32 addr), (TTB_DMA_SRC_HI, w32 (addr / 2 ^ 32)),
      (TTB_DMA_LEN, w32 (n % 65536 * 65536 + dst)), (TTB_DMA_CTRL, 1)] s
    let got := if ok then n else min n (data.length / 4)
    let s := s.each (List.range got) fun s i => ttbDmaEntry ((List.range 4).map fun w => hostWord data (4 * i + w)) (dmaSlot s)
    let s := ttbDmaFinish ok s
    if ok then
      let s := schWrite TTB_RANGE (w32 (loop * 65536 + start)) s
      let s := if arm then schWrite TTB_CTRL 1 s else s
      schReply (s.get TTB_DMA_CTRL.RES) [TTB_DMA_CTRL, TTB_STAT] s
    else schReply stINTERNAL [TTB_DMA_CTRL, TTB_STAT] s

/-- LOAD_RSET: n masks from the host memory go to mask i onwards. -/
def yLoadRset (descOk : Bool) (addr n i : Nat) (data : Option (List Word)) (s : State) : State :=
  if !descOk ∨ 256 < i + n then s.reply stBADPARAM []
  else
    match data with
    | none => (fabricError addr s).reply stINTERNAL []
    | some d => (schWrites ((List.range (8 * n)).map fun k => (TTB_RSET i 0 + 4 * k, hostWord d k)) s).reply stOK []

/-- The registers and memory words of a weight-set image of `len` bytes (R625). -/
def weightImage (len : Nat) (d : List Word) : List (Nat × Word) :=
  [(OUT_SHAPE, hostWord d 0), (OUT_LCFG 0, hostWord d 1), (OUT_LBASE 0, hostWord d 2), (OUT_LCFG 1, hostWord d 3),
    (OUT_LBASE 1, hostWord d 4), (OUT_CTL, hostWord d 5 &&& 0xFFFFF8)] ++
  ((List.range 128).map fun i => (OUT_ISEL i, hostWord d (8 + i))) ++
  ((List.range 384).map fun i => (OUT_ACTB (i / 192) (i % 192), hostWord d (136 + i))) ++
  ((List.range ((len - 0x820) / 4)).map fun i => (OUT_WMEM i, hostWord d (520 + i)))

/-- LOAD_WEIGHTS: STOP, the image, and START, whose validation runs to its end. -/
def yLoadWeights (descOk : Bool) (addr len : Nat) (start : Bool) (data : Option (List Word)) (s : State) : State :=
  if !descOk then s.reply stBADPARAM []
  else
    let s := odrStop s
    if s.odrState ≠ 0 ∨ s.bit OUT_DMA_CTRL.BUSY then schReply stBUSY [OUT_STAT, OUT_CYC] s
    else
      match data with
      | none => schReply stINTERNAL [OUT_STAT, OUT_CYC] (fabricError addr s)
      | some d =>
        let s := schWrites (weightImage len d) s
        if start then
          let s := odrValidated (schWrite OUT_CTL ((s.rd OUT_CTL &&& 0xFFFFF8) ||| 1) s)
          schReply (s.get OUT_STAT.RES) [OUT_STAT, OUT_CYC] s
        else schReply stOK [OUT_STAT, OUT_CYC] s

/-- FORECAST_CTL. -/
def yForecastCtl (op mask : Nat) (ws : List Word) (s : State) : State :=
  if 2 < op then s.reply stBADPARAM []
  else
    let regs := [TTB_CFG, TTB_LEAD, TTB_HOLD, TTB_BUMP, TTB_ETA]
    let s := schWrites (((regs.zip ws).zipIdx.filter fun e => bitOf mask e.2).map (·.1)) s
    schReply stOK [TTB_STAT] (schWrite TTB_CTRL ([2, 1, 4].getD op 0) s)

/-! ### Waybill, telemetry and ageing -/

/-- SET_JOB. -/
def ySetJob (j : Nat) (lo hi : Word) (s : State) : State :=
  if j = 0 ∨ 15 < j then s.reply stBADPARAM [] else (schWrites [(WBL_TAG_LO j, lo), (WBL_TAG_HI j, hi)] s).reply stOK []

/-- SET_GROUPS. -/
def ySetGroups (j mask : Nat) (s : State) : State :=
  if 15 < j then s.reply stBADPARAM [] else (schWrites ((bitsOf mask 64).map fun g => (WBL_GMAP g, w32 j)) s).reply stOK []

/-- WAYBILL_RING: EN falls, then the ring and WBL_CTRL are written. -/
def yWaybillRing (addr sz ivl : Nat) (en : Bool) (s : State) : State :=
  let s := schWrite WBL_CTRL (s.rd WBL_CTRL &&& 0x7FFFFFFF) s
  let v := en.toNat * 2 ^ 31 + ivl * 256 + sz % 32
  (schWrites [(WBL_RING_LO, w32 addr), (WBL_RING_HI, w32 (addr / 2 ^ 32)), (WBL_CTRL, w32 v)] s).reply stOK []

/-- GET_JOB. -/
def yGetJob (j : Nat) (s : State) : State :=
  if 15 < j then s.reply stBADPARAM []
  else schReply stOK [WBL_LTAG_LO j, WBL_LTAG_HI j, WBL_TOT_LO j, WBL_TOT_HI j, WBL_FTOT_LO j, WBL_FTOT_HI j] s

/-- FREEZE: bit 0 LOCAL, bit 1 ARM, bit 2 EXPORT, bit 3 DISARM. -/
def yFreeze (flags tag ts : Nat) (s : State) : State :=
  let b (k : Nat) : Nat := flags / 2 ^ k % 2
  let s := if b 1 = 1 then schWrites [(TLM_FRZ_AT_LO, w32 ts), (TLM_FRZ_AT_HI, w32 (ts / 2 ^ 32))] s else s
  schReply stOK [TLM_FRZ_STAT, TLM_FRZ_NUM]
    (schWrite TLM_FRZ_CTRL (w32 (tag * 65536 + b 2 * 256 + b 3 * 4 + b 1 * 2 + b 0)) s)

/-- TLM_RING: EN falls, then the ring is written. -/
def yTlmRing (addr sz first last : Nat) (en : Bool) (s : State) : State :=
  let s := schWrite TLM_RING_CFG (s.rd TLM_RING_CFG &&& 0x7FFFFFFF) s
  (schWrites [(TLM_RING_LO, w32 addr), (TLM_RING_HI, w32 (addr / 2 ^ 32)), (TLM_RING_SEL, w32 (last * 65536 + first)),
    (TLM_RING_CFG, w32 (en.toNat * 2 ^ 31 + sz % 32))] s).reply stOK []

/-- TRACE_EXPORT: bit 0 AUTO, bit 1 GO. A GO that starts no export reports its RES. -/
def yTraceExport (addr mask flags : Nat) (s : State) : State :=
  let was := s.bit TLM_TRX_CTRL.BUSY
  let go := flags / 2 % 2
  let s := schWrites [(TLM_TRX_LO, w32 addr), (TLM_TRX_HI, w32 (addr / 2 ^ 32)),
    (TLM_TRX_CTRL, w32 (mask * 256 + flags % 2 * 2 + go))] s
  schReply (if go = 1 ∧ (was ∨ !s.bit TLM_TRX_CTRL.BUSY) then s.get TLM_TRX_CTRL.RES else stOK) [TLM_TRX_CTRL] s

/-- GET_AGE. -/
def yGetAge (n : Nat) (s : State) : State :=
  if n = 0 ∨ 256 ≤ n then s.reply stBADPARAM []
  else schReply stOK ((List.range 4).map fun w => AGE_RGN0 n + 4 * w) s

/-! ### Test -/

/-- CELL_TEST: ENTER_TEST when PARKED, the test, whose result the environment gives, and EXIT_TEST. With no result within
2 ms the status is not stated. -/
def yCellTest (c : Nat) (v : Word) (exit : Bool) (result : Option TestResult) (s : State) : State :=
  if 3072 ≤ c then s.reply stBADPARAM []
  else if s.cellState c ≠ cPARKED ∧ s.cellState c ≠ cTEST then schReply stNOTREADY [CELL_TEST_RES c, CELL_STAT c] s
  else
    let s := if s.cellState c = cPARKED then schWrite (CELL_CMD c) 4 s else s
    if s.cellState c ≠ cTEST then schReply (s.get (CELL_CMD.RES c)) [CELL_TEST_RES c, CELL_STAT c] s
    else
      let s := schWrite (CELL_TEST c) v s
      let waits := s.bit (CELL_TEST.GO c)
      let (st, s) : Nat × State :=
        if !waits then (stOK, s)
        else
          match result with
          | some r => (stOK, cellTestDone c r s)
          | none => drawStatus s
      let s := if exit then schWrite (CELL_CMD c) 5 s else s
      schReply st [CELL_TEST_RES c, CELL_STAT c] s

/-- SKID_FORCE. -/
def ySkidForce (n depth : Nat) (s : State) : State :=
  if n = 0 ∨ 256 ≤ n then s.reply stBADPARAM [] else (schWrite (SKID_FORCE n) (w32 depth) s).reply stOK []

/-- TRACE_ARM: STOP, the words, then ARM. -/
def yTraceArm (cfg : List Word) (trig thr : Word) (post : Nat) (s : State) : State :=
  let s := schWrite TRC_CTRL 4 s
  let s := schWrites ((cfg.zipIdx.map fun e => (TRC_CH_CFG e.2, e.1)) ++ [(TRC_TRIG, trig), (TRC_THR, thr),
    (TRC_POST, w32 post)]) s
  schReply stOK [TRC_STAT] (schWrite TRC_CTRL 1 s)

/-- SNS_URGENT: the request is queued and its conversion, whose raw result the environment gives, completes (R445, R446). A
channel that the converter lacks answers BAD_PARAM and a full queue BUSY; with no conversion the status is not stated. -/
def ySnsUrgent (k ch : Nat) (raw : Option (BitVec 14)) (s : State) : State :=
  if 3 < k then s.reply stBADPARAM []
  else
    let bad := decide (snsChannels k ≤ ch % 64)
    let full := decide (4 ≤ (s.sconv k).urg.length)
    let s := schWrite (SNS_URG k) (w32 (ch % 64)) s
    if bad then schReply stBADPARAM [SNS_URES k] s
    else if full then schReply stBUSY [SNS_URES k] s
    else
      match if s.snsOn k ∧ s.locked then raw else none with
      | some r =>
        let h := s.sconv k
        let s := (s.setSconv k { h with cur := some ⟨ch % 64, true, 0, (s.now / 100 + 1) * 100⟩, urg := h.urg.erase (ch % 64) }).put
          (SNS_URG.QD k) (h.urg.erase (ch % 64)).length
        let s := convComplete k r.toNat s
        let s := s.setSconv k { s.sconv k with cur := h.cur }
        schReply stOK [SNS_URES k] s
      | none => let (st, s) := drawStatus s; schReply st [SNS_URES k] s

end Sys2Proof.Machine
end

