-- ==== Sys2Proof/Machine/Yutre.lean ====
section
/-! DEFINITION. Machine/Yutre.lean: the meanings of the Yutre opcodes of spec/20_mail_coach.md (R618..R625), of the power
policy (R394) and of the fleet (R430). -/

namespace Sys2Proof.Machine

/-- An opcode that is not defined answers BAD_OPCODE (R620, R624). -/
def execYutreUnknownOpcode (m : YMsg) (op : BitVec 16) (s : State) : Out :=
  .next (if definedOpcode op.toNat then s else yutre m op.toNat id s)

/-- Opcode 0x0100. -/
def execGetVersion (m : YMsg) (s : State) : Out :=
  .next (yutre m 0x100 (fun s => let r := schReads [VL_ID, FW_VER] s; r.2.reply stOK (r.1 ++ [0x0203])) s)

/-- Opcode 0x0101. -/
def execGetStatus (m : YMsg) (s : State) : Out :=
  .next (yutre m 0x101 (schReply stOK [VL_STAT, CBSE_STAT, CBSE_FIRST, XPH_STAT, THM_STAT, PWR_STAT, TTB_STAT, FW_STAT]) s)

/-- Opcode 0x0102. -/
def execReadReg (m : YMsg) (s : State) : Out := .next (yutre m 0x102 (yReadReg (m.b32 0) (m.b8 4)) s)

/-- Opcode 0x0103. -/
def execWriteReg (m : YMsg) (s : State) : Out := .next (yutre m 0x103 (yWriteReg (m.b32 0) (m.word 4)) s)

/-- Opcode 0x0104. -/
def execRegionCmd (m : YMsg) (s : State) : Out := .next (yutre m 0x104 (yRegionCmd (m.b8 0) (m.b8 1)) s)

/-- Opcode 0x0105. -/
def execFrontCmd (m : YMsg) (s : State) : Out := .next (yutre m 0x105 (yFrontCmd (m.b8 0)) s)

/-- Opcode 0x0106. -/
def execConfig (m : YMsg) (s : State) : Out :=
  .next
    (yutre m 0x106
      (yConfig (m.b8 0) (m.b8 1 % 2 == 1) ((List.range (m.b8 0)).map fun k => (m.b32 (4 + 8 * k), m.word (8 + 8 * k)))) s)

/-- Opcode 0x0200. -/
def execGetPolicy (m : YMsg) (s : State) : Out :=
  .next (yutre m 0x200 (schReply stOK [PWR_CTRL, PWR_STAT, PWR_SHARE, PWR_PKG_EFF]) s)

/-- Opcode 0x0201. -/
def execSetPkgCap (m : YMsg) (s : State) : Out := .next (yutre m 0x201 (ySetPkgCap (m.b16 0) (m.b16 2)) s)

/-- Opcode 0x0202. -/
def execSetOp (m : YMsg) (s : State) : Out :=
  .next (yutre m 0x202 (ySetOp (m.b8 0) (m.b8 1) (m.b16 2) (m.b16 4) (m.b8 6)) s)

/-- Opcode 0x0203. -/
def execSetLegPref (m : YMsg) (s : State) : Out := .next (yutre m 0x203 (ySetLegPref (m.b8 0) (m.b8 1) (m.b8 2)) s)

/-- Opcode 0x0204. -/
def execSetMode (m : YMsg) (s : State) : Out := .next (yutre m 0x204 (ySetMode (m.b8 0) (m.b8 1) (m.b8 2)) s)

/-- Opcode 0x0205. -/
def execGetRegion (m : YMsg) (s : State) : Out := .next (yutre m 0x205 (yGetRegion (m.b8 0)) s)

/-- Opcode 0x0300. -/
def execLoadProgram (m : YMsg) (data : List Word) (ok : Bool) (s : State) : Out :=
  .next
    (yutre m 0x300
      (yLoadProgram (m.descOk 0 16 0 fun n => n % 16 == 0) (m.b64 0) (m.b32 8 / 16) (m.b16 16) (m.b16 18) (m.b16 20)
        (m.b8 22 % 2 == 1) data ok) s)

/-- Opcode 0x0301. -/
def execLoadRset (m : YMsg) (data : Option (List Word)) (s : State) : Out :=
  .next (yutre m 0x301 (yLoadRset (m.descOk 0 1 0 fun n => n % 32 == 0) (m.b64 0) (m.b32 8 / 32) (m.b8 16) data) s)

/-- Opcode 0x0302. -/
def execLoadWeights (m : YMsg) (data : Option (List Word)) (s : State) : Out :=
  .next
    (yutre m 0x302
      (yLoadWeights (m.descOk 0 4 0 fun n => decide (2080 ≤ n) && decide (n ≤ 67616)) (m.b64 0) (m.b32 8)
        (m.b8 16 % 2 == 1) data) s)

/-- Opcode 0x0303. -/
def execForecastCtl (m : YMsg) (s : State) : Out :=
  .next (yutre m 0x303 (yForecastCtl (m.b8 0) (m.b8 1) ((List.range 5).map fun k => m.word (4 + 4 * k))) s)

/-- Opcode 0x0304. -/
def execGetForecast (m : YMsg) (s : State) : Out :=
  .next
    (yutre m 0x304 (schReply stOK [TTB_STAT, TTB_CUR, TTB_LAST, TTB_FCAST, TTB_LEG, TTB_CNT0, OUT_STAT, OUT_RUNCNT]) s)

/-- Opcode 0x0400. -/
def execGetCoupler (m : YMsg) (s : State) : Out :=
  .next (yutre m 0x400 (schReply stOK [CPLR_STAT, CPLR_ID, CPLR_EPOCH, CPLR_OFS, CPLR_ENV_TGT, CPLR_ENV_ERR]) s)

/-- Opcode 0x0401. -/
def execSetTree (m : YMsg) (s : State) : Out :=
  .next
    (yutre m 0x401
      (ySetTree (m.b8 0) (m.b8 1) (m.b16 2) (m.b32 4) ((List.range 17).map fun k => m.b16 (8 + 2 * k))) s)

/-- Opcode 0x0402. -/
def execSetGroup (m : YMsg) (s : State) : Out :=
  .next (yutre m 0x402 (ySetGroup (m.b8 0) (m.b16 1) (m.b8 3) (m.b8 4) (m.word 8) (m.word 12)) s)

/-- Opcode 0x0403. -/
def execEnvPoint (m : YMsg) (s : State) : Out := .next (yutre m 0x403 (yEnvPoint (m.word 0) (m.b16 4) (m.b8 6)) s)

/-- Opcode 0x0404. -/
def execSetEnv (m : YMsg) (s : State) : Out := .next (yutre m 0x404 (ySetEnv (m.b16 0) (m.b8 2) (m.b16 4)) s)

/-- Opcode 0x0405. -/
def execEmcap (m : YMsg) (s : State) : Out := .next (yutre m 0x405 (yEmcap (m.b8 0) (m.b16 2)) s)

/-- Opcode 0x0406. -/
def execGetGroup (m : YMsg) (s : State) : Out := .next (yutre m 0x406 (yGetGroup (m.b8 0)) s)

/-- Opcode 0x0500. -/
def execSetJob (m : YMsg) (s : State) : Out := .next (yutre m 0x500 (ySetJob (m.b8 0) (m.word 8) (m.word 12)) s)

/-- Opcode 0x0501. -/
def execSetGroups (m : YMsg) (s : State) : Out := .next (yutre m 0x501 (ySetGroups (m.b8 0) (m.b64 8)) s)

/-- Opcode 0x0502. -/
def execWaybillRing (m : YMsg) (s : State) : Out :=
  .next (yutre m 0x502 (yWaybillRing (m.b64 0) (m.b8 8) (m.b8 9) (m.b8 10 % 2 == 1)) s)

/-- Opcode 0x0503. -/
def execGetJob (m : YMsg) (s : State) : Out := .next (yutre m 0x503 (yGetJob (m.b8 0)) s)

/-- Opcode 0x0504. -/
def execFreeze (m : YMsg) (s : State) : Out := .next (yutre m 0x504 (yFreeze (m.b8 0) (m.b16 2) (m.b64 8)) s)

/-- Opcode 0x0505. -/
def execTlmRing (m : YMsg) (s : State) : Out :=
  .next (yutre m 0x505 (yTlmRing (m.b64 0) (m.b8 8) (m.b8 9) (m.b8 10) (m.b8 11 % 2 == 1)) s)

/-- Opcode 0x0506. -/
def execTraceExport (m : YMsg) (s : State) : Out := .next (yutre m 0x506 (yTraceExport (m.b64 0) (m.b8 8) (m.b8 9)) s)

/-- Opcode 0x0507. -/
def execGetAge (m : YMsg) (s : State) : Out := .next (yutre m 0x507 (yGetAge (m.b8 0)) s)

/-- Opcode 0x0700. -/
def execCbseForce (m : YMsg) (s : State) : Out :=
  .next
    (yutre m 0x700
      (fun s => schReply stOK [CBSE_STAT] (schWrites [(CBSE_FORCE_LO, m.word 0), (CBSE_FORCE_HI, m.word 4)] s)) s)

/-- Opcode 0x0701. -/
def execCellTest (m : YMsg) (result : Option TestResult) (s : State) : Out :=
  .next (yutre m 0x701 (yCellTest (m.b16 0) (m.word 4) (m.b8 8 % 2 == 1) result) s)

/-- Opcode 0x0702. -/
def execSkidForce (m : YMsg) (s : State) : Out := .next (yutre m 0x702 (ySkidForce (m.b8 0) (m.b8 1)) s)

/-- Opcode 0x0703. -/
def execTraceArm (m : YMsg) (s : State) : Out :=
  .next
    (yutre m 0x703 (yTraceArm ((List.range 8).map fun k => m.word (4 * k)) (m.word 32) (m.word 36) (m.b16 40)) s)

/-- Opcode 0x0704. -/
def execSnsUrgent (m : YMsg) (raw : Option (BitVec 14)) (s : State) : Out :=
  .next (yutre m 0x704 (ySnsUrgent (m.b8 0) (m.b8 1) raw) s)

end Sys2Proof.Machine
end

