-- ==== Sys2Proof/Machine/Dispatch.lean ====
section
/-! DEFINITION. Machine/Dispatch.lean: one arm per command, each one direct call of its meaning. -/

namespace Sys2Proof.Machine

def exec (i : Instr) (s : State) : Host.Outcome State Fault Refusal :=
  match i with
  | .registerWrite req width addr value => Sys2Proof.Machine.execRegisterWrite req width addr value s
  | .counterLowRead req width addr => Sys2Proof.Machine.execCounterLowRead req width addr s
  | .readClear req width addr => Sys2Proof.Machine.execReadClear req width addr s
  | .pllEnable req => Sys2Proof.Machine.execPllEnable req s
  | .pllStop req => Sys2Proof.Machine.execPllStop req s
  | .pllLock t => Sys2Proof.Machine.execPllLock t s
  | .lossOfLock t refAbsent => Sys2Proof.Machine.execLossOfLock t refAbsent s
  | .tsSlew req offset => Sys2Proof.Machine.execTsSlew req offset s
  | .tsStep req offset => Sys2Proof.Machine.execTsStep req offset s
  | .slewStep => Sys2Proof.Machine.execSlewStep s
  | .ctrlPowerGood t => Sys2Proof.Machine.execCtrlPowerGood t s
  | .ctrlPowerLoss t => Sys2Proof.Machine.execCtrlPowerLoss t s
  | .cellIslandGood t => Sys2Proof.Machine.execCellIslandGood t s
  | .cellIslandLoss t => Sys2Proof.Machine.execCellIslandLoss t s
  | .blendFrameBoundary c => Sys2Proof.Machine.execBlendFrameBoundary c s
  | .windowCrossing c uv => Sys2Proof.Machine.execWindowCrossing c uv s
  | .cellCurrentLimit c r => Sys2Proof.Machine.execCellCurrentLimit c r s
  | .foldback c => Sys2Proof.Machine.execFoldback c s
  | .foldbackRecovery c => Sys2Proof.Machine.execFoldbackRecovery c s
  | .sensorExclusion c j cause => Sys2Proof.Machine.execSensorExclusion c j cause s
  | .cellSnsWrite req c excl => Sys2Proof.Machine.execCellSnsWrite req c excl s
  | .nop req c => Sys2Proof.Machine.execNop req c s
  | .demote req c => Sys2Proof.Machine.execDemote req c s
  | .join req c => Sys2Proof.Machine.execJoin req c s
  | .recouple req c => Sys2Proof.Machine.execRecouple req c s
  | .enterTest req c => Sys2Proof.Machine.execEnterTest req c s
  | .exitTest req c => Sys2Proof.Machine.execExitTest req c s
  | .uncouple req c => Sys2Proof.Machine.execUncouple req c s
  | .cellCmdReserved req c op => Sys2Proof.Machine.execCellCmdReserved req c op s
  | .cellPrechargeDone c => Sys2Proof.Machine.execCellPrechargeDone c s
  | .cellSelfcheckDone c pass => Sys2Proof.Machine.execCellSelfcheckDone c pass s
  | .cellFailure t c cause => Sys2Proof.Machine.execCellFailure t c cause s
  | .cellTestStart req c value => Sys2Proof.Machine.execCellTestStart req c value s
  | .cellTestDone c resa resb complete => Sys2Proof.Machine.execCellTestDone c resa resb complete s
  | .cellTestAbandon req c value => Sys2Proof.Machine.execCellTestAbandon req c value s
  | .cfgCommit req value => Sys2Proof.Machine.execCfgCommit req value s
  | .commitValidationDone => Sys2Proof.Machine.execCommitValidationDone s
  | .commitSafePoint t => Sys2Proof.Machine.execCommitSafePoint t s
  | .safePointTimeout t => Sys2Proof.Machine.execSafePointTimeout t s
  | .cfgRevert req value => Sys2Proof.Machine.execCfgRevert req value s
  | .cfgRevertDone => Sys2Proof.Machine.execCfgRevertDone s
  | .rgnVsetWrite req n value => Sys2Proof.Machine.execRgnVsetWrite req n value s
  | .regionNop req n => Sys2Proof.Machine.execRegionNop req n s
  | .enable req n => Sys2Proof.Machine.execEnable req n s
  | .disable req n => Sys2Proof.Machine.execDisable req n s
  | .clearFault req n => Sys2Proof.Machine.execClearFault req n s
  | .regionCmdReserved req n op => Sys2Proof.Machine.execRegionCmdReserved req n op s
  | .pendingEnableExecute t n => Sys2Proof.Machine.execPendingEnableExecute t n s
  | .rampEnd t n => Sys2Proof.Machine.execRampEnd t n s
  | .regionNoRise t n => Sys2Proof.Machine.execRegionNoRise t n s
  | .regionShort t n => Sys2Proof.Machine.execRegionShort t n s
  | .regionBlind t n => Sys2Proof.Machine.execRegionBlind t n s
  | .minvClear req n => Sys2Proof.Machine.execMinvClear req n s
  | .minvRead req n => Sys2Proof.Machine.execMinvRead req n s
  | .start req => Sys2Proof.Machine.execStart req s
  | .stop req => Sys2Proof.Machine.execStop req s
  | .clear req => Sys2Proof.Machine.execClear req s
  | .xphNop req => Sys2Proof.Machine.execXphNop req s
  | .xphCmdReserved req op => Sys2Proof.Machine.execXphCmdReserved req op s
  | .softstartRefStart t => Sys2Proof.Machine.execSoftstartRefStart t s
  | .softstartRampStep t => Sys2Proof.Machine.execSoftstartRampStep t s
  | .softstartEnd t => Sys2Proof.Machine.execSoftstartEnd t s
  | .xphNoRise t => Sys2Proof.Machine.execXphNoRise t s
  | .xphUnderVoltage t => Sys2Proof.Machine.execXphUnderVoltage t s
  | .xphVsetWrite req value => Sys2Proof.Machine.execXphVsetWrite req value s
  | .sensePointExclusion t k => Sys2Proof.Machine.execSensePointExclusion t k s
  | .sensePointInclude req upper value => Sys2Proof.Machine.execSensePointInclude req upper value s
  | .trigger x => Sys2Proof.Machine.execTrigger x s
  | .onTimeEnd p x => Sys2Proof.Machine.execOnTimeEnd p x s
  | .cycleLimit p x => Sys2Proof.Machine.execCycleLimit p x s
  | .zeroCurrent p => Sys2Proof.Machine.execZeroCurrent p s
  | .negativeCurrentLimit p => Sys2Proof.Machine.execNegativeCurrentLimit p s
  | .syncLock t period => Sys2Proof.Machine.execSyncLock t period s
  | .syncEdge x period => Sys2Proof.Machine.execSyncEdge x period s
  | .slotTrigger p x => Sys2Proof.Machine.execSlotTrigger p x s
  | .fastTrip x => Sys2Proof.Machine.execFastTrip x s
  | .syncLost t => Sys2Proof.Machine.execSyncLost t s
  | .shedDwellExpiry t => Sys2Proof.Machine.execShedDwellExpiry t s
  | .loadStep t => Sys2Proof.Machine.execLoadStep t s
  | .stepHoldEnd t => Sys2Proof.Machine.execStepHoldEnd t s
  | .returnPhaseFire x => Sys2Proof.Machine.execReturnPhaseFire x s
  | .overVoltage t k => Sys2Proof.Machine.execOverVoltage t k s
  | .crowbarRelease t => Sys2Proof.Machine.execCrowbarRelease t s
  | .phaseOverCurrent t p => Sys2Proof.Machine.execPhaseOverCurrent t p s
  | .phaseEnableWrite req p value => Sys2Proof.Machine.execPhaseEnableWrite req p value s
  | .phaseClear req p => Sys2Proof.Machine.execPhaseClear req p s
  | .baseTick t x => Sys2Proof.Machine.execBaseTick t x s
  | .lpeCommit req value => Sys2Proof.Machine.execLpeCommit req value s
  | .lpeValidationDone t => Sys2Proof.Machine.execLpeValidationDone t s
  | .lpeRevert req value => Sys2Proof.Machine.execLpeRevert req value s
  | .lpeRevertDone t => Sys2Proof.Machine.execLpeRevertDone t s
  | .lpeInitDone t => Sys2Proof.Machine.execLpeInitDone t s
  | .lpeStateWrite req addr value => Sys2Proof.Machine.execLpeStateWrite req addr value s
  | .lpeEnableWrite req value => Sys2Proof.Machine.execLpeEnableWrite req value s
  | .pgTargetWrite req j value => Sys2Proof.Machine.execPgTargetWrite req j value s
  | .trcArm req => Sys2Proof.Machine.execTrcArm req s
  | .trcStop req => Sys2Proof.Machine.execTrcStop req s
  | .trcSwtrig req => Sys2Proof.Machine.execTrcSwtrig req s
  | .traceTimedTrigger t => Sys2Proof.Machine.execTraceTimedTrigger t s
  | .marker t cp marker => Sys2Proof.Machine.execMarker t cp marker s
  | .markerHandle t lag => Sys2Proof.Machine.execMarkerHandle t lag s
  | .forecastArm req => Sys2Proof.Machine.execForecastArm req s
  | .forecastStop req => Sys2Proof.Machine.execForecastStop req s
  | .rescan req => Sys2Proof.Machine.execRescan req s
  | .directoryBuildDone t => Sys2Proof.Machine.execDirectoryBuildDone t s
  | .ttbDmaStart req => Sys2Proof.Machine.execTtbDmaStart req s
  | .ttbDmaEntryWrite t w0 w1 w2 w3 => Sys2Proof.Machine.execTtbDmaEntryWrite t w0 w1 w2 w3 s
  | .ttbDmaDone t ok => Sys2Proof.Machine.execTtbDmaDone t ok s
  | .timetableWrite req idx w value => Sys2Proof.Machine.execTimetableWrite req idx w value s
  | .ttbInitDone t => Sys2Proof.Machine.execTtbInitDone t s
  | .outriderRunTick t => Sys2Proof.Machine.execOutriderRunTick t s
  | .outriderStart req value => Sys2Proof.Machine.execOutriderStart req value s
  | .outriderValidationDone t => Sys2Proof.Machine.execOutriderValidationDone t s
  | .outriderStop req value => Sys2Proof.Machine.execOutriderStop req value s
  | .outriderClear req value => Sys2Proof.Machine.execOutriderClear req value s
  | .outriderError t => Sys2Proof.Machine.execOutriderError t s
  | .outriderDmaStart req => Sys2Proof.Machine.execOutriderDmaStart req s
  | .outriderDmaDone t words ok => Sys2Proof.Machine.execOutriderDmaDone t words ok s
  | .outriderInitDone t => Sys2Proof.Machine.execOutriderInitDone t s
  | .skidTrip t n v cnt => Sys2Proof.Machine.execSkidTrip t n v cnt s
  | .skidReleaseStep t n v cnt => Sys2Proof.Machine.execSkidReleaseStep t n v cnt s
  | .skidWindowEnd t n => Sys2Proof.Machine.execSkidWindowEnd t n s
  | .skidEscalate t n => Sys2Proof.Machine.execSkidEscalate t n s
  | .skidEscWrite req n value => Sys2Proof.Machine.execSkidEscWrite req n value s
  | .skidWinWrite req n value => Sys2Proof.Machine.execSkidWinWrite req n value s
  | .skidForceWrite req n value => Sys2Proof.Machine.execSkidForceWrite req n value s
  | .groupIdle t g => Sys2Proof.Machine.execGroupIdle t g s
  | .opEnable req value => Sys2Proof.Machine.execOpEnable req value s
  | .opValidationDone t => Sys2Proof.Machine.execOpValidationDone t s
  | .moveUpComplete t n => Sys2Proof.Machine.execMoveUpComplete t n s
  | .freqAck req n value => Sys2Proof.Machine.execFreqAck req n value s
  | .freqAckTimeout t n => Sys2Proof.Machine.execFreqAckTimeout t n s
  | .powerEstimate t => Sys2Proof.Machine.execPowerEstimate t s
  | .calibrationSnapshot t => Sys2Proof.Machine.execCalibrationSnapshot t s
  | .coeffCommit req value => Sys2Proof.Machine.execCoeffCommit req value s
  | .coeffCommitApply t => Sys2Proof.Machine.execCoeffCommitApply t s
  | .capWindowBoundary t => Sys2Proof.Machine.execCapWindowBoundary t s
  | .shareReport t k m => Sys2Proof.Machine.execShareReport t k m s
  | .shareCompute t => Sys2Proof.Machine.execShareCompute t s
  | .shareReceive t share cap pkg bmc envEn pg => Sys2Proof.Machine.execShareReceive t share cap pkg bmc envEn pg s
  | .waybillIntervalEnd t fail => Sys2Proof.Machine.execWaybillIntervalEnd t fail s
  | .getPolicy m => Sys2Proof.Machine.execGetPolicy m s
  | .setPkgCap m => Sys2Proof.Machine.execSetPkgCap m s
  | .setOp m => Sys2Proof.Machine.execSetOp m s
  | .setLegPref m => Sys2Proof.Machine.execSetLegPref m s
  | .setMode m => Sys2Proof.Machine.execSetMode m s
  | .getRegion m => Sys2Proof.Machine.execGetRegion m s
  | .epochBoundary t => Sys2Proof.Machine.execEpochBoundary t s
  | .epochPulse t => Sys2Proof.Machine.execEpochPulse t s
  | .linkUp t e => Sys2Proof.Machine.execLinkUp t e s
  | .hello t e => Sys2Proof.Machine.execHello t e s
  | .hb t e => Sys2Proof.Machine.execHb t e s
  | .sync t e t1 turn => Sys2Proof.Machine.execSync t e t1 turn s
  | .syncRsp t e => Sys2Proof.Machine.execSyncRsp t e s
  | .syncFin t e t4 => Sys2Proof.Machine.execSyncFin t e t4 s
  | .env t e epoch frac fleet => Sys2Proof.Machine.execEnv t e epoch frac fleet s
  | .emcapMessage t e issuer sq rate expire => Sys2Proof.Machine.execEmcapMessage t e issuer sq rate expire s
  | .conote t e gid rate => Sys2Proof.Machine.execConote t e gid rate s
  | .cocap t e gid rate epoch => Sys2Proof.Machine.execCocap t e gid rate epoch s
  | .rwrite t peer win be commit sq lo hi off => Sys2Proof.Machine.execRwrite t peer win be commit sq lo hi off s
  | .reservedKind t e => Sys2Proof.Machine.execReservedKind t e s
  | .envIssue req value => Sys2Proof.Machine.execEnvIssue req value s
  | .envPointCurrent t => Sys2Proof.Machine.execEnvPointCurrent t s
  | .envWindowEnd t => Sys2Proof.Machine.execEnvWindowEnd t s
  | .cocapAdopt t => Sys2Proof.Machine.execCocapAdopt t s
  | .emcapIssue req value => Sys2Proof.Machine.execEmcapIssue req value s
  | .rwriteSend req q => Sys2Proof.Machine.execRwriteSend req q s
  | .rwriteCommitSend req q => Sys2Proof.Machine.execRwriteCommitSend req q s
  | .rwriteCommitLand t peer win => Sys2Proof.Machine.execRwriteCommitLand t peer win s
  | .rwriteCommitTimeout t peer win => Sys2Proof.Machine.execRwriteCommitTimeout t peer win s
  | .rwriteWindowIdle t peer win => Sys2Proof.Machine.execRwriteWindowIdle t peer win s
  | .completionRead req => Sys2Proof.Machine.execCompletionRead req s
  | .couplerEnable req value => Sys2Proof.Machine.execCouplerEnable req value s
  | .getCoupler m => Sys2Proof.Machine.execGetCoupler m s
  | .setTree m => Sys2Proof.Machine.execSetTree m s
  | .setGroup m => Sys2Proof.Machine.execSetGroup m s
  | .envPoint m => Sys2Proof.Machine.execEnvPoint m s
  | .setEnv m => Sys2Proof.Machine.execSetEnv m s
  | .emcap m => Sys2Proof.Machine.execEmcap m s
  | .getGroup m => Sys2Proof.Machine.execGetGroup m s
  | .conversionComplete t k raw => Sys2Proof.Machine.execConversionComplete t k raw s
  | .urgentRequest req k ch => Sys2Proof.Machine.execUrgentRequest req k ch s
  | .snsRefWrite req k value => Sys2Proof.Machine.execSnsRefWrite req k value s
  | .refSettled t k => Sys2Proof.Machine.execRefSettled t k s
  | .pairFail t pair => Sys2Proof.Machine.execPairFail t pair s
  | .pairRecover t pair => Sys2Proof.Machine.execPairRecover t pair s
  | .windowExit t w => Sys2Proof.Machine.execWindowExit t w s
  | .windowReentry t w => Sys2Proof.Machine.execWindowReentry t w s
  | .windowDutyEnd t w => Sys2Proof.Machine.execWindowDutyEnd t w s
  | .windowConfigWrite req w band value => Sys2Proof.Machine.execWindowConfigWrite req w band value s
  | .snsPtCtlWrite req value => Sys2Proof.Machine.execSnsPtCtlWrite req value s
  | .thermalGuard t => Sys2Proof.Machine.execThermalGuard t s
  | .thermalDemand req hi value => Sys2Proof.Machine.execThermalDemand req hi value s
  | .thermalMeasurement t q count => Sys2Proof.Machine.execThermalMeasurement t q count s
  | .sweepEnd t q => Sys2Proof.Machine.execSweepEnd t q s
  | .thermalSensorExclWrite req x value => Sys2Proof.Machine.execThermalSensorExclWrite req x value s
  | .dieDrained t => Sys2Proof.Machine.execDieDrained t s
  | .thermalDown t => Sys2Proof.Machine.execThermalDown t s
  | .thermalHardTimeout t => Sys2Proof.Machine.execThermalHardTimeout t s
  | .thermalClear req value => Sys2Proof.Machine.execThermalClear req value s
  | .faultLatch t => Sys2Proof.Machine.execFaultLatch t s
  | .statusClear req hi value => Sys2Proof.Machine.execStatusClear req hi value s
  | .forceWrite req hi value => Sys2Proof.Machine.execForceWrite req hi value s
  | .memoryCorrectedError t m off => Sys2Proof.Machine.execMemoryCorrectedError t m off s
  | .memoryUncorrectableError t m off fabric => Sys2Proof.Machine.execMemoryUncorrectableError t m off fabric s
  | .scrubRead t m found => Sys2Proof.Machine.execScrubRead t m found s
  | .freezeLocal req value => Sys2Proof.Machine.execFreezeLocal req value s
  | .freezeArm req value => Sys2Proof.Machine.execFreezeArm req value s
  | .freezeDisarm req value => Sys2Proof.Machine.execFreezeDisarm req value s
  | .freezeTimedCapture t => Sys2Proof.Machine.execFreezeTimedCapture t s
  | .freezeUnloadDone t => Sys2Proof.Machine.execFreezeUnloadDone t s
  | .ringExportDone t fail => Sys2Proof.Machine.execRingExportDone t fail s
  | .traceExportStart req value => Sys2Proof.Machine.execTraceExportStart req value s
  | .traceExportDone t fail => Sys2Proof.Machine.execTraceExportDone t fail s
  | .ageWindowEnd t ties => Sys2Proof.Machine.execAgeWindowEnd t ties s
  | .eolWrite req region ix value => Sys2Proof.Machine.execEolWrite req region ix value s
  | .imageVerified t => Sys2Proof.Machine.execImageVerified t s
  | .imagePush t slot trial image => Sys2Proof.Machine.execImagePush t slot trial image s
  | .firmwareReset t => Sys2Proof.Machine.execFirmwareReset t s
  | .getFw m => Sys2Proof.Machine.execGetFw m s
  | .stageBegin m => Sys2Proof.Machine.execStageBegin m s
  | .stageData m data => Sys2Proof.Machine.execStageData m data s
  | .stageEnd m => Sys2Proof.Machine.execStageEnd m s
  | .activate m => Sys2Proof.Machine.execActivate m s
  | .cancel m => Sys2Proof.Machine.execCancel m s
  | .confirm m => Sys2Proof.Machine.execConfirm m s
  | .heartbeat m => Sys2Proof.Machine.execHeartbeat m s
  | .activationStart t => Sys2Proof.Machine.execActivationStart t s
  | .watchdogKick t req core => Sys2Proof.Machine.execWatchdogKick t req core s
  | .watchdogExpiry t core => Sys2Proof.Machine.execWatchdogExpiry t core s
  | .coreReloadDone t core => Sys2Proof.Machine.execCoreReloadDone t core s
  | .hostKick req value => Sys2Proof.Machine.execHostKick req value s
  | .hostPeriodEnd t => Sys2Proof.Machine.execHostPeriodEnd t s
  | .fwHeartbeatStale t => Sys2Proof.Machine.execFwHeartbeatStale t s
  | .halt req core pc => Sys2Proof.Machine.execHalt req core pc s
  | .resume req core => Sys2Proof.Machine.execResume req core s
  | .step req core pc => Sys2Proof.Machine.execStep req core pc s
  | .vlFrel t core scope => Sys2Proof.Machine.execVlFrel t core scope s
  | .vlFacq t core scope => Sys2Proof.Machine.execVlFacq t core scope s
  | .vlFfull t core scope => Sys2Proof.Machine.execVlFfull t core scope s
  | .fence t core storesFirst => Sys2Proof.Machine.execFence t core storesFirst s
  | .atomic t core op addr value aq rl => Sys2Proof.Machine.execAtomic t core op addr value aq rl s
  | .reservationExpiry t core => Sys2Proof.Machine.execReservationExpiry t core s
  | .dirtyWriteBack t group addr => Sys2Proof.Machine.execDirtyWriteBack t group addr s
  | .tsCsrRead t core high => Sys2Proof.Machine.execTsCsrRead t core high s
  | .claim t core => Sys2Proof.Machine.execClaim t core s
  | .complete t core value => Sys2Proof.Machine.execComplete t core value s
  | .doorbell t write => Sys2Proof.Machine.execDoorbell t write s
  | .sourceBind t n => Sys2Proof.Machine.execSourceBind t n s
  | .coalesceRelease t c => Sys2Proof.Machine.execCoalesceRelease t c s
  | .hostClaim t => Sys2Proof.Machine.execHostClaim t s
  | .sourceMask req n value => Sys2Proof.Machine.execSourceMask req n value s
  | .maskWindowEnd t n => Sys2Proof.Machine.execMaskWindowEnd t n s
  | .sourcePendClear req n value => Sys2Proof.Machine.execSourcePendClear req n value s
  | .globalDisable req value => Sys2Proof.Machine.execGlobalDisable req value s
  | .edgeCaught t e rising => Sys2Proof.Machine.execEdgeCaught t e rising s
  | .channelClaim t req c => Sys2Proof.Machine.execChannelClaim t req c s
  | .post t req c esrc => Sys2Proof.Machine.execPost t req c esrc s
  | .take req c => Sys2Proof.Machine.execTake req c s
  | .abandon req c => Sys2Proof.Machine.execAbandon req c s
  | .fillTimeout t c => Sys2Proof.Machine.execFillTimeout t c s
  | .channelConfigWrite req c value => Sys2Proof.Machine.execChannelConfigWrite req c value s
  | .slotWrite req c w value => Sys2Proof.Machine.execSlotWrite req c w value s
  | .dbenWrite req r value => Sys2Proof.Machine.execDbenWrite req r value s
  | .yutreUnknownOpcode m op => Sys2Proof.Machine.execYutreUnknownOpcode m op s
  | .getVersion m => Sys2Proof.Machine.execGetVersion m s
  | .getStatus m => Sys2Proof.Machine.execGetStatus m s
  | .readReg m => Sys2Proof.Machine.execReadReg m s
  | .writeReg m => Sys2Proof.Machine.execWriteReg m s
  | .regionCmd m => Sys2Proof.Machine.execRegionCmd m s
  | .frontCmd m => Sys2Proof.Machine.execFrontCmd m s
  | .config m => Sys2Proof.Machine.execConfig m s
  | .loadProgram m data ok => Sys2Proof.Machine.execLoadProgram m data ok s
  | .loadRset m data => Sys2Proof.Machine.execLoadRset m data s
  | .loadWeights m data => Sys2Proof.Machine.execLoadWeights m data s
  | .forecastCtl m => Sys2Proof.Machine.execForecastCtl m s
  | .getForecast m => Sys2Proof.Machine.execGetForecast m s
  | .setJob m => Sys2Proof.Machine.execSetJob m s
  | .setGroups m => Sys2Proof.Machine.execSetGroups m s
  | .waybillRing m => Sys2Proof.Machine.execWaybillRing m s
  | .getJob m => Sys2Proof.Machine.execGetJob m s
  | .freeze m => Sys2Proof.Machine.execFreeze m s
  | .tlmRing m => Sys2Proof.Machine.execTlmRing m s
  | .traceExport m => Sys2Proof.Machine.execTraceExport m s
  | .getAge m => Sys2Proof.Machine.execGetAge m s
  | .cbseForce m => Sys2Proof.Machine.execCbseForce m s
  | .cellTest m result => Sys2Proof.Machine.execCellTest m result s
  | .skidForce m => Sys2Proof.Machine.execSkidForce m s
  | .traceArm m => Sys2Proof.Machine.execTraceArm m s
  | .snsUrgent m raw => Sys2Proof.Machine.execSnsUrgent m raw s
  | .page page => Sys2Proof.Machine.execPage page s
  | .pageRead => Sys2Proof.Machine.execPageRead s
  | .clearFaults => Sys2Proof.Machine.execClearFaults s
  | .capability => Sys2Proof.Machine.execCapability s
  | .voutMode => Sys2Proof.Machine.execVoutMode s
  | .statusByte => Sys2Proof.Machine.execStatusByte s
  | .statusWord => Sys2Proof.Machine.execStatusWord s
  | .statusVout => Sys2Proof.Machine.execStatusVout s
  | .statusIout => Sys2Proof.Machine.execStatusIout s
  | .statusInput => Sys2Proof.Machine.execStatusInput s
  | .statusTemperature => Sys2Proof.Machine.execStatusTemperature s
  | .statusCml => Sys2Proof.Machine.execStatusCml s
  | .statusMfrSpecific => Sys2Proof.Machine.execStatusMfrSpecific s
  | .readVin => Sys2Proof.Machine.execReadVin s
  | .readIin => Sys2Proof.Machine.execReadIin s
  | .readVout => Sys2Proof.Machine.execReadVout s
  | .readIout => Sys2Proof.Machine.execReadIout s
  | .readTemperature1 => Sys2Proof.Machine.execReadTemperature1 s
  | .readTemperature2 => Sys2Proof.Machine.execReadTemperature2 s
  | .readPout => Sys2Proof.Machine.execReadPout s
  | .pmbusRevision => Sys2Proof.Machine.execPmbusRevision s
  | .mfrId => Sys2Proof.Machine.execMfrId s
  | .mfrModel => Sys2Proof.Machine.execMfrModel s
  | .mfrPkgCap value => Sys2Proof.Machine.execMfrPkgCap value s
  | .mfrPkgCapRead => Sys2Proof.Machine.execMfrPkgCapRead s
  | .mfrInstStatus => Sys2Proof.Machine.execMfrInstStatus s
  | .mfrCapState => Sys2Proof.Machine.execMfrCapState s
  | .mfrEin => Sys2Proof.Machine.execMfrEin s
  | .pmbusInvalidCommand fault => Sys2Proof.Machine.execPmbusInvalidCommand fault s
  | .alertResponse => Sys2Proof.Machine.execAlertResponse s
  | .powerOnReset asel => Sys2Proof.Machine.execPowerOnReset asel s
  | .powerOnResetRelease t => Sys2Proof.Machine.execPowerOnResetRelease t s
  | .resetPin t low => Sys2Proof.Machine.execResetPin t low s
  | .softwareInstanceReset t req => Sys2Proof.Machine.execSoftwareInstanceReset t req s
  | .softwareFirmwareReset t req => Sys2Proof.Machine.execSoftwareFirmwareReset t req s
  | .instanceResetRelease t => Sys2Proof.Machine.execInstanceResetRelease t s
  | .sagDeclared t => Sys2Proof.Machine.execSagDeclared t s
  | .frontStopSag t => Sys2Proof.Machine.execFrontStopSag t s
  | .crashCaptureDone t missing peers => Sys2Proof.Machine.execCrashCaptureDone t missing peers s
  | .recordProgrammed t k words => Sys2Proof.Machine.execRecordProgrammed t k words s
  | .saveTimeout t => Sys2Proof.Machine.execSaveTimeout t s
  | .sagEnd t => Sys2Proof.Machine.execSagEnd t s
  | .boundaryScanEnter e => Sys2Proof.Machine.execBoundaryScanEnter e s
  | .boundaryScanExit t => Sys2Proof.Machine.execBoundaryScanExit t s
  | .referenceAbsent t => Sys2Proof.Machine.execReferenceAbsent t s
  | .referenceReturn t => Sys2Proof.Machine.execReferenceReturn t s
  | .linkDown t e => Sys2Proof.Machine.execLinkDown t e s
  | .sidebandEndResetChange t k up => Sys2Proof.Machine.execSidebandEndResetChange t k up s
  | .minvReplacement t n v sensor => Sys2Proof.Machine.execMinvReplacement t n v sensor s
  | .vimReferenceSlew t => Sys2Proof.Machine.execVimReferenceSlew t s
  | .plainStore t core width addr value => Sys2Proof.Machine.execPlainStore t core width addr value s
  | .interruptEntry t core => Sys2Proof.Machine.execInterruptEntry t core s
  | .pkgConditionReport t k conds => Sys2Proof.Machine.execPkgConditionReport t k conds s

end Sys2Proof.Machine
end

