-- ==== Sys2Proof/Safety.lean ====
section
/-! DEFINITION. Safety.lean: what counts as a safe state of the instance (the register map and the local memories stand in
their one canonical form, so that equal contents are equal data), and the terms in which statements speak of a command: that
it completes, what it leaves as it was, and that a write is one its requester may make. -/

namespace Sys2Proof.Machine

namespace State

/-- The window map is canonical: offsets strictly rising, no entry equal to its reset word. -/
abbrev regsWf (s : State) : Prop := mapWf regReset s.regs = true

/-- The local memories and the commons are canonical: addresses strictly rising, no entry equal to 0. -/
abbrev ramWf (s : State) : Prop := mapWf (fun _ => (0 : Byte)) s.ram = true

/-- Every bit of the register window outside the fields `fs` reads in t as in u. -/
def KeepsBits (u t : State) (fs : List Fld) : Prop :=
  ∀ a i, (∀ f ∈ fs, ¬ (f.addr = a ∧ f.lo ≤ i ∧ i ≤ f.hi)) → (t.rd a).getLsbD i = (u.rd a).getLsbD i

/-- t differs from u in the fields `fs` of the register window and in nothing else. -/
def Frame (u t : State) (fs : List Fld) : Prop := KeepsBits u t fs ∧ { t with regs := u.regs } = u

/-- Every register at an offset outside `p` reads in t as in u. -/
def KeepsRegs (u t : State) (p : Nat → Prop) : Prop := ∀ a, ¬ p a → t.rd a = u.rd a

/-- Instance reset does not hold the register at offset a: it is not asserted, or it leaves the register alone (R633). -/
def Free (s : State) (a : Nat) : Prop := s.rst.inst = true → keptByInstanceReset a = true

/-- The requester may write v at offset a, every field of it: nothing of R36..R38 and R671 holds the write up, and instance
reset does not hold the register. -/
def Permits (s : State) (req : Requester) (a : Nat) (v : Word) : Prop :=
  deniedWhole req a v s = false ∧ (∀ r, regDef? a = some r → restrictedWord r req.code (s.rd a) v = v) ∧ s.Free a

/-- A Yutre command of this opcode passes the checks that stand before the opcode's own (R620, R622, R623): it is served, its
SEQ is new, and no status of the shared checks applies. -/
def Accepts (s : State) (m : YMsg) (op : Nat) : Prop :=
  s.serves m op = true ∧ (∀ e, s.lastYutre m = some e → e.seq ≠ m.sq.toNat) ∧ m.vmaj = 3 ∧ m.len.toNat ≤ 56 ∧
    m.flags.toNat < 8 ∧ m.flags.toNat % 2 = 0 ∧ definedOpcode op = true ∧ s.permits m op = true

/-- t is u after the reply that u holds in rdata has been framed, sent and kept with its SEQ (R618, R619, R623). -/
def Replied (u : State) (m : YMsg) (op : Nat) (t : State) : Prop :=
  t = { u with
        rdata := replyWords m op u.rdata,
        yutre := u.yutre.filter (fun e => !(e.sndr == m.sndr.code && e.member == m.member.toNat && e.ch == m.ch.val)) ++
          [⟨m.sndr.code, m.member.toNat, m.ch.val, m.sq.toNat, replyWords m op u.rdata⟩] }

end State

/-- The command completes: its meaning answers a next state, of which `post` holds. -/
def Completes (c : Instr) (s : State) (post : State → Prop) : Prop := ∃ t, exec c s = .next t ∧ post t

/-- Commands that act within the CTRL island and its engines alone: instance reset holds all they change (R62, R633). -/
def heldInReset : Instr → Bool
  | .activationStart .. | .ageWindowEnd .. | .blendFrameBoundary .. | .calibrationSnapshot .. | .capWindowBoundary ..
    | .cellCurrentLimit .. | .cellFailure .. | .cellPrechargeDone .. | .cellSelfcheckDone .. | .cellTestDone .. |
    .cfgRevertDone .. | .cocap .. | .cocapAdopt .. | .coeffCommitApply .. | .commitSafePoint .. |
    .commitValidationDone .. | .conote .. | .conversionComplete .. | .coreReloadDone .. | .crowbarRelease .. |
    .cycleLimit .. | .dieDrained .. | .directoryBuildDone .. | .doorbell .. | .emcapMessage .. | .env .. |
    .envPointCurrent .. | .envWindowEnd .. | .epochBoundary .. | .epochPulse .. | .fastTrip .. | .faultLatch .. |
    .firmwareReset .. | .foldback .. | .foldbackRecovery .. | .freezeTimedCapture .. | .freezeUnloadDone .. |
    .freqAckTimeout .. | .fwHeartbeatStale .. | .groupIdle .. | .hb .. | .hello .. | .hostPeriodEnd .. | .imagePush ..
    | .imageVerified .. | .loadStep .. | .lpeInitDone .. | .lpeRevertDone .. | .lpeValidationDone .. | .marker .. |
    .markerHandle .. | .memoryCorrectedError .. | .memoryUncorrectableError .. | .minvReplacement .. | .moveUpComplete
    .. | .negativeCurrentLimit .. | .onTimeEnd .. | .opValidationDone .. | .outriderDmaDone .. | .outriderError .. |
    .outriderInitDone .. | .outriderValidationDone .. | .overVoltage .. | .pairFail .. | .pairRecover .. |
    .pendingEnableExecute .. | .phaseOverCurrent .. | .pkgConditionReport .. | .powerEstimate .. | .rampEnd .. |
    .refSettled .. | .regionBlind .. | .regionNoRise .. | .regionShort .. | .reservedKind .. | .returnPhaseFire .. |
    .ringExportDone .. | .rwrite .. | .rwriteWindowIdle .. | .safePointTimeout .. | .scrubRead .. |
    .sensePointExclusion .. | .sensorExclusion .. | .shareCompute .. | .shareReceive .. | .shareReport .. |
    .shedDwellExpiry .. | .skidEscalate .. | .skidReleaseStep .. | .skidTrip .. | .skidWindowEnd .. | .slotTrigger ..
    | .softstartEnd .. | .softstartRampStep .. | .softstartRefStart .. | .stepHoldEnd .. | .sweepEnd .. | .sync .. |
    .syncEdge .. | .syncFin .. | .syncLock .. | .syncLost .. | .syncRsp .. | .thermalDown .. | .thermalGuard .. |
    .thermalHardTimeout .. | .thermalMeasurement .. | .traceExportDone .. | .traceTimedTrigger .. | .trigger .. |
    .ttbDmaDone .. | .ttbDmaEntryWrite .. | .ttbInitDone .. | .vimReferenceSlew .. | .watchdogExpiry .. |
    .waybillIntervalEnd .. | .windowCrossing .. | .windowDutyEnd .. | .windowExit .. | .windowReentry .. | .xphNoRise
    .. | .xphUnderVoltage .. | .zeroCurrent .. => true
  | _ => false

/-- The PMBus transactions, which power-on reset leaves without a target (R638). -/
def onPmbus : Instr → Bool
  | .page .. | .pageRead .. | .clearFaults .. | .capability .. | .voutMode .. | .statusByte .. | .statusWord .. |
    .statusVout .. | .statusIout .. | .statusInput .. | .statusTemperature .. | .statusCml .. | .statusMfrSpecific ..
    | .readVin .. | .readIin .. | .readVout .. | .readIout .. | .readTemperature1 .. | .readTemperature2 .. |
    .readPout .. | .pmbusRevision .. | .mfrId .. | .mfrModel .. | .mfrPkgCap .. | .mfrPkgCapRead .. | .mfrInstStatus
    .. | .mfrCapState .. | .mfrEin .. | .pmbusInvalidCommand .. | .alertResponse .. => true
  | _ => false

end Sys2Proof.Machine
end

