-- ==== Sys2Proof/Certificates/Slice0/Obligations.lean ====
section
/-! DEFINITION. Certificates/Slice0/Obligations.lean: the statements for the provers. -/

open Sys2Proof Sys2Proof.Machine

/-- O1 (derived; spec/00_scope.md). A step with a command at the front of the queue runs that command on the machine
with the queue's rest (model: log entry 1). -/
def Obligations.StepRunsFront : Prop :=
  ∀ (c : Instr) (s : State) (rest : List Instr),
    s.pending = c :: rest → Sys2Proof.Machine.step s = exec c { s with pending := rest }

/-- O2 (derived; R48, R49, spec/02_time_and_clocks.md). On an empty queue one clock edge passes: none under power-on
reset, a TS advance of 32 while the PLL is not locked (model: log entry 2). -/
def Obligations.EmptyQueueIsOneClockEdge : Prop :=
  ∀ s : State, s.pending = [] →
    (s.rst.por = true → Sys2Proof.Machine.step s = .next s) ∧
    (s.rst.por = false → s.bit TIM_STAT.PLL_LOCK = false →
      ∃ t, Sys2Proof.Machine.step s = .next t ∧ t = s.passCoarse 32 ∧ t.ts = s.ts + 32 ∧ t.regs = s.regs) ∧
    (s.rst.por = false → s.bit TIM_STAT.PLL_LOCK = true →
      ∃ t, Sys2Proof.Machine.step s = .next t ∧ t.pending = [])

/-- O3 (derived; R14, R35, R498, spec/01_architecture.md, spec/15_caboose.md). Every step of every command ends, and
keeps the register window and the local memories in their one canonical form. -/
def Obligations.EveryStepKeepsTheCanonicalForms : Prop :=
  ∀ s : State, s.regsWf → s.ramWf →
    ∃ t, Sys2Proof.Machine.step s = .next t ∧ t.regsWf ∧ t.ramWf

/-- O4 (derived; R28, R536, R547, spec/17_firmware.md). No step of any command lowers the anti-rollback fuses or changes
another eFuse. -/
def Obligations.AntiRollbackFusesAreNeverUnblown : Prop :=
  ∀ s : State, ∃ t, Sys2Proof.Machine.step s = .next t ∧
    s.efuse.fused ≤ t.efuse.fused ∧ { t.efuse with fused := s.efuse.fused } = s.efuse

/-- O5 (derived; spec/93_implementation_defined.md). Every command completes, leaves the queue to step, and draws no
free value twice (the queue and the counter are the model's: log entries 1 and 8). -/
def Obligations.CommandsLeaveTheQueueAndFreshFreeValues : Prop :=
  ∀ (c : Instr) (s : State), Completes c s fun t => t.pending = s.pending ∧ s.freeCtr ≤ t.freeCtr

/-- O6 (derived; R633, R634, spec/21_reset_and_holdup.md). After reset the window and the memories are canonical, the
queue is empty, TS is 0 and the reset words of the tables stand. -/
def Obligations.ResetStateIsCanonical : Prop :=
  State.reset.regsWf ∧ State.reset.ramWf ∧ State.reset.pending = [] ∧ State.reset.ts = 0 ∧
    State.reset.rd VL_CTRL = 0 ∧ State.reset.get XPH_VSET.CODE = 1600 ∧ State.reset.rd HOLD_RST = 0 ∧
    (∀ n : RegionIx, 1 ≤ n.val → State.reset.get (RGN_VSET.CODE n) = 40 ∧ State.reset.rd (VSN_MINV n) = 0x7FF) ∧ State.reset.get XPH_STAT.STATE = 0 ∧ State.reset.rd CBSE_STATUS_LO = 0 ∧
    (∀ c : CellIx, State.reset.cellState c = 0) ∧ (∀ n : RegionIx, State.reset.rgnState n = 0)

/-- O7 (stated; R38). A denied write is ignored, sets DENIED_WR, and the first one is recorded with its requester and
address. -/
def Obligations.DeniedWritesAreIgnoredAndRecorded : Prop :=
  ∀ (req : Requester) (a : Offset) (v : Word) (s : State),
    a.toNat % 4 = 0 → s.rst.inst = false → deniedWhole req a.toNat v s = true →
      Completes (.registerWrite req .b32 a v) s fun t =>
        t.get VL_STAT.DENIED_WR = 1 ∧
        (s.get VL_STAT.DENIED_WR = 0 →
          t.get VL_DENY_ADDR.REQ = req.code ∧ t.get VL_DENY_ADDR.OFFSET = a.toNat) ∧
        (s.get VL_STAT.DENIED_WR = 1 → t.rd VL_DENY_ADDR = s.rd VL_DENY_ADDR) ∧
        s.Frame t [VL_STAT.DENIED_WR, VL_DENY_ADDR.REQ, VL_DENY_ADDR.OFFSET]

/-- O8 (derived; R13, spec/00_scope.md). A write narrower than 32 bits changes nothing but the record of a denied write. -/
def Obligations.NarrowWritesAreIgnored : Prop :=
  ∀ (req : Requester) (w : Width) (a : Offset) (v : Word) (s : State),
    ¬ (w = .b32 ∧ a.toNat % 4 = 0) →
      Completes (.registerWrite req w a v) s fun t =>
        s.Frame t [VL_STAT.DENIED_WR, VL_DENY_ADDR.REQ, VL_DENY_ADDR.OFFSET] ∧
        (t = s ∨ t = recordDenied req (a.toNat / 4 * 4) s) ∧
        (a.toNat / 4 * 4 ≠ HOLD_RST →
          s.Permits req (a.toNat / 4 * 4) (narrowMerge w a.toNat (s.rd (a.toNat / 4 * 4)) v) → t = s)

/-- O9 (derived; R17, R14, R18, R19, spec/01_architecture.md). A permitted write of a VL register leaves every field as
its access code says, and no register below the Reins block else (but LPE_EVT). -/
def Obligations.RegisterWriteActsByAccessCode : Prop :=
  ∀ (req : Requester) (a : Offset) (v : Word) (s : State),
    a.toNat % 4 = 0 → a.toNat < 0x100 → s.Permits req a.toNat v →
      Completes (.registerWrite req .b32 a v) s fun t =>
        (∀ r, regDef? a.toNat = some r → t.rd a.toNat = storeWord r (s.freshBits a.toNat) (s.rd a.toNat) v) ∧
        (regDef? a.toNat = none → t.rd a.toNat = s.rd a.toNat) ∧
        (∀ b, b < 0x1100000 → b ≠ LPE_EVT → b ≠ a.toNat → t.rd b = s.rd b)

/-- O10 (derived; R15, R503, spec/00_scope.md). A read of the low half of TS answers it and latches the high half for
that requester; a read of the high half answers the latch. -/
def Obligations.TimeReadLatchesItsHighHalf : Prop :=
  ∀ (req : Requester) (s : State), s.rst.inst = false →
    (Completes (.counterLowRead req .b32 (BitVec.ofNat 25 TIM_TS_LO)) s fun t =>
      t.rdata = [BitVec.ofNat 32 s.now] ∧ latchedHi req TIM_TS_HI t = BitVec.ofNat 32 (s.now / 2 ^ 32) ∧
      (∀ q, q.code ≠ req.code → latchedHi q TIM_TS_HI t = latchedHi q TIM_TS_HI s) ∧
      s.KeepsBits t [] ∧ t.ts = s.ts) ∧
    (Completes (.counterLowRead req .b32 (BitVec.ofNat 25 TIM_TS_HI)) s fun t =>
      t.rdata = [latchedHi req TIM_TS_HI s] ∧ s.KeepsBits t [] ∧ t.ts = s.ts)

/-- O11 (derived; R17, R7, R18, R19, spec/00_scope.md, spec/01_architecture.md). What a register write leaves in each
field of every register table, by the field's access code. -/
def Obligations.FieldsFollowTheirAccessCodes : Prop :=
  ∀ (a : Nat) (v : Word) (s : State) (r : RegDef), regDef? a = some r →
    (∀ f ∈ r.fields,
      (f.acc = .rw → f.clamp = true →
        (storeReg a v s).get ⟨a, f.hi, f.lo⟩ = clampN f.least f.most (fldGet v f.hi f.lo)) ∧
      (f.acc = .rw → f.clamp = false →
        (storeReg a v s).get ⟨a, f.hi, f.lo⟩ =
          if f.least ≤ fldGet v f.hi f.lo ∧ fldGet v f.hi f.lo ≤ f.most then fldGet v f.hi f.lo
          else s.get ⟨a, f.hi, f.lo⟩) ∧
      (f.acc = .w1c → ∀ i, f.lo ≤ i → i ≤ f.hi →
        ((storeReg a v s).rd a).getLsbD i = ((s.rd a).getLsbD i && !(v.getLsbD i && !(s.freshBits a).getLsbD i))) ∧
      (f.acc = .w1s → ∀ i, f.lo ≤ i → i ≤ f.hi →
        ((storeReg a v s).rd a).getLsbD i = ((s.rd a).getLsbD i || v.getLsbD i)) ∧
      (f.acc = .ro ∨ f.acc = .wo ∨ f.acc = .rc →
        (storeReg a v s).get ⟨a, f.hi, f.lo⟩ = s.get ⟨a, f.hi, f.lo⟩)) ∧
    ∀ b, b ≠ a → (storeReg a v s).rd b = s.rd b

/-- O12 (derived; R17, R18, R13, spec/00_scope.md). A READ_CLEAR of VL_STAT answers it and clears C0_PEAK, but for a
peak of the same CKF cycle, at every width, and no other register bit. -/
def Obligations.ReadClearsItsCounters : Prop :=
  ∀ (req : Requester) (w : Width) (s : State), s.rst.inst = false →
    Completes (.readClear req w (BitVec.ofNat 25 VL_STAT)) s fun t =>
      t.rdata = [narrowRead w VL_STAT (s.viewVlStat (s.rd VL_STAT))] ∧
        (∀ was, was = fldGet (mapGet (regReset VL_STAT) s.tim.cycle VL_STAT) 15 8 →
          t.get VL_STAT.C0_PEAK = if was = s.get VL_STAT.C0_PEAK then 0 else s.get VL_STAT.C0_PEAK) ∧
        s.KeepsBits t [VL_STAT.C0_PEAK]

/-- O13 (derived; R40, R47, R49, R54, R55, R56, R674, R39, R44, spec/02_time_and_clocks.md). What PLL_ENABLE, PLL_STOP,
TS_SLEW, TS_STEP, SLEW_STEP, REFERENCE_ABSENT and REFERENCE_RETURN leave, and their frames. -/
def Obligations.TimeBaseCommandsComplete : Prop :=
  (∀ req s, s.Permits req TIM_CTRL 1 → Completes (.pllEnable req) s fun t =>
      t.get TIM_CTRL.PLL_EN = 1 ∧ s.Frame t [TIM_CTRL.PLL_EN]) ∧
  (∀ req s, s.Permits req TIM_CTRL 0 → s.get TIM_CTRL.PLL_EN = 1 → s.locked = false → s.liveRegions = [] →
      (∀ p < 32, s.phState p = 0 ∨ s.phState p = 1 ∨ s.phState p = 5) → Completes (.pllStop req) s fun t =>
        t.get TIM_CTRL.PLL_EN = 0 ∧ s.Frame t [TIM_CTRL.PLL_EN]) ∧
  (∀ req s, s.Permits req TIM_CTRL 0 → s.get TIM_CTRL.PLL_EN = 1 → s.liveRegions ≠ [] →
      Completes (.pllStop req) s fun t => t.get TIM_STAT.PLL_OFF_REFUSED = 1 ∧ s.Frame t [TIM_STAT.PLL_OFF_REFUSED]) ∧
  (∀ req (off : BitVec 16) s, s.Permits req TIM_TS_ADJ (off.zeroExtend 32) → Completes (.tsSlew req off) s fun t =>
      t.tim.slewLeft = toSigned 16 off.toNat ∧ t.tim.slewEdges = 0 ∧
      t.get TIM_TS_ADJ.MODE = 0 ∧ t.get TIM_TS_ADJ.OFFSET = off.toNat ∧ t.ts = s.ts ∧
      State.Frame { s with tim := { s.tim with slewLeft := toSigned 16 off.toNat, slewEdges := 0 } } t
        [TIM_TS_ADJ.MODE, TIM_TS_ADJ.OFFSET]) ∧
  (∀ req (off : BitVec 16) s, s.Permits req TIM_TS_ADJ (BitVec.ofNat 32 (65536 + off.toNat)) →
      0 < toSigned 16 off.toNat → s.bit TIM_STAT.TS_ALIGNED = false → Completes (.tsStep req off) s fun t =>
        t.ts = s.ts + BitVec.ofNat 64 (off.toNat + 1) ∧ t.get TIM_TS_ADJ.MODE = 1 ∧
        t.get TIM_TS_ADJ.OFFSET = off.toNat ∧ t.tim.slewLeft = 0 ∧
        s.KeepsBits t [TIM_TS_ADJ.MODE, TIM_TS_ADJ.OFFSET]) ∧
  (∀ req (off : BitVec 16) s, s.Permits req TIM_TS_ADJ (BitVec.ofNat 32 (65536 + off.toNat)) →
      (toSigned 16 off.toNat ≤ 0 ∨ s.bit TIM_STAT.TS_ALIGNED = true) → Completes (.tsStep req off) s fun t =>
        t.get TIM_STAT.ADJ_REFUSED = 1 ∧ s.Frame t [TIM_STAT.ADJ_REFUSED]) ∧
  (∀ s, s.locked = true → 0 < s.tim.slewLeft → s.tim.slewEdges < 256 → Completes .slewStep s fun t =>
      t.ts = s.ts + BitVec.ofNat 64 (256 - s.tim.slewEdges + 1) ∧ t.tim.slewLeft = s.tim.slewLeft - 1 ∧
      t.tim.slewEdges = 0 ∧ t.tim.edges = s.tim.edges + (256 - s.tim.slewEdges) ∧ t.regs = s.regs) ∧
  (∀ s, s.locked = true → s.tim.slewLeft < 0 → s.tim.slewEdges < 256 → Completes .slewStep s fun t =>
      t.ts = s.ts + BitVec.ofNat 64 (256 - s.tim.slewEdges - 1) ∧ t.tim.slewLeft = s.tim.slewLeft + 1 ∧
      t.tim.slewEdges = 0 ∧ t.tim.edges = s.tim.edges + (256 - s.tim.slewEdges) ∧ t.regs = s.regs) ∧
  (∀ e s, s.locked = false → Completes (.referenceAbsent e) s fun t =>
      t.get TIM_STAT.REF_PRESENT = 0 ∧ t.get TIM_STAT.CKA_SRC = 2 ∧ t.get TIM_STAT.TS_DEGRADED = 1 ∧
      (s.advanceTo e).Frame t [TIM_STAT.REF_PRESENT, TIM_STAT.CKA_SRC, TIM_STAT.TS_DEGRADED]) ∧
  (∀ e s, s.locked = false → s.rst.pllDue = false → Completes (.referenceReturn e) s fun t =>
      t.get TIM_STAT.REF_PRESENT = 1 ∧ t.get TIM_STAT.CKA_SRC = 1 ∧
      (s.advanceTo e).Frame t [TIM_STAT.REF_PRESENT, TIM_STAT.CKA_SRC]) ∧
  (∀ e s, s.locked = false → s.rst.pllDue = true → s.rst.por = false → Completes (.referenceReturn e) s fun t =>
      t.get TIM_STAT.REF_PRESENT = 1 ∧ t.get TIM_CTRL.PLL_EN = 1 ∧ t.rst.pllDue = false ∧
      s.KeepsBits t [TIM_STAT.REF_PRESENT, TIM_STAT.CKA_SRC, TIM_CTRL.PLL_EN]) ∧
  (∀ s : State, s.tim.slewLeft = 0 ∨ s.locked = false → Completes .slewStep s fun t => t = s) ∧
  (∀ s : State, fldGet (s.blockView TIM_TS_ADJ) 31 31 = (s.tim.slewLeft != 0).toNat)

/-- O14 (derived; R61, R63, R633, R634, R635, R636, R637, R665, spec/21_reset_and_holdup.md). What the resets, their
sources and their releases leave, register by register. -/
def Obligations.ResetCommandsComplete : Prop :=
  (∀ e s, s.get TIM_STAT.CTRL_GOOD = 0 → Completes (.ctrlPowerGood e) s fun t => t.get TIM_STAT.CTRL_GOOD = 1 ∧
    State.Frame { s.advanceTo e with rst := { s.rst with ctrlAt := (s.advanceTo e).now } } t [TIM_STAT.CTRL_GOOD]) ∧
  (∀ e s, s.get TIM_STAT.CTRL_GOOD = 1 → s.rst.inst = false → Completes (.ctrlPowerLoss e) s fun t =>
    t.rst.inst = true ∧ t.get HOLD_RCAUSE.CTRL_PG = 1 ∧ t.get TIM_STAT.CTRL_GOOD = 0 ∧ t.get TIM_STAT.CELL_GOOD = 0) ∧
  (∀ e s, s.rst.inst = false → Completes (.resetPin e true) s fun t =>
    t.rst.inst = true ∧ t.rst.pin = true ∧ t.get HOLD_RCAUSE.PIN = 1) ∧
  (∀ e s, Completes (.resetPin e false) s fun t =>
    t = { s.advanceTo e with rst := { s.rst with pin := false } } ∧ t.regs = s.regs) ∧
  (∀ e req s, s.Permits req HOLD_RST 0x5A01 → s.rst.inst = false → Completes (.softwareInstanceReset e req) s fun t =>
    t.rst.inst = true ∧ t.rst.soft = some (s.advanceTo e).now ∧ t.get HOLD_RCAUSE.SW_INST = 1) ∧
  (∀ e req s, s.Permits req HOLD_RST 0x5A02 → s.rst.inst = false → Completes (.softwareFirmwareReset e req) s fun t =>
    ∃ u, (s.advanceTo e).Frame u [HOLD_RCAUSE.SW_FW] ∧ u.get HOLD_RCAUSE.SW_FW = 1 ∧ t = firmwareReset u) ∧
  (∀ e x s, s.rst.inst = false → Completes (.boundaryScanEnter ⟨e, x⟩) s fun t =>
    t.rst.inst = true ∧ t.rst.scan = true ∧ t.rst.cells = x ∧
    (∀ a, (∀ k < 4, a ≠ SNS_TRIM k) → (∀ k < 512, a ≠ THM_SCTL k) → a ≠ CBSE_FIRST →
      t.rd a = if keptByInstanceReset a then s.rd a else regReset a)) ∧
  (∀ e s, Completes (.boundaryScanExit e) s fun t =>
    t = { s.advanceTo e with rst := { s.rst with scan := false } } ∧ t.regs = s.regs) ∧
  (∀ k s, Completes (.powerOnReset k) s fun t =>
    t.ts = 0 ∧ t.rst.por = true ∧ t.rst.inst = true ∧ t.rst.asel = k.val ∧ t.ram = [] ∧ t.core = [] ∧ t.yutre = [] ∧
    t.efuse = s.efuse ∧ t.fw.flash = s.fw.flash ∧ t.pending = s.pending ∧
    (∀ a, (∀ j < 4, a ≠ SNS_TRIM j) → (∀ j < 512, a ≠ THM_SCTL j) → t.rd a = regReset a)) ∧
  (∀ e s, s.rst.por = true → s.rst.pin = false → s.get TIM_STAT.CTRL_GOOD = 1 → s.get TIM_STAT.REF_PRESENT = 1 →
    Completes (.powerOnResetRelease e) s fun t => t.get TIM_CTRL.PLL_EN = 1 ∧ t.rst.por = false ∧
      State.Frame { s.advanceTo e with rst := { s.rst with por := false } } t [TIM_CTRL.PLL_EN]) ∧
  (∀ e s, s.rst.por = true → s.rst.pin = false → s.get TIM_STAT.CTRL_GOOD = 1 → s.get TIM_STAT.REF_PRESENT = 0 →
    Completes (.powerOnResetRelease e) s fun t => t.rst.por = false ∧ t.rst.pllDue = true ∧ t.regs = s.regs) ∧
  (∀ e s, s.rst.inst = true → (s.advanceTo e).resetHeld = false → s.locked = true → s.hold.saveDue = false →
    Completes (.instanceResetRelease e) s fun t =>
      ∃ u, t = romBoot (edgesRelease (reinAll u)) ∧ u.rst = { s.rst with inst := false, soft := none, released := (s.advanceTo e).now } ∧
        u.fw.quiet = (s.advanceTo e).now ∧ u.fw.hostAt = (s.advanceTo e).now ∧ u.regs = s.regs)

/-- O15 (derived; R40, R41, R42, R43, R44, R45, R47, R101, R481, spec/02_time_and_clocks.md, spec/03_cells.md). What
PLL_LOCK, LOSS_OF_LOCK, CELL_ISLAND_GOOD and CELL_ISLAND_LOSS leave, and in which order their consequences follow. -/
def Obligations.LockAndIslandCommandsComplete : Prop :=
  (∀ e s, s.get TIM_CTRL.PLL_EN = 1 → s.locked = false → s.get TIM_STAT.REF_PRESENT = 1 → s.rst.inst = true →
    s.tim.unlockDue = true → Completes (.pllLock e) s fun t =>
      ∃ u, (s.advanceTo e).Frame u [TIM_STAT.PLL_LOCK, TIM_STAT.TS_COARSE, TIM_STAT.CKA_SRC] ∧
        u.get TIM_STAT.PLL_LOCK = 1 ∧ u.get TIM_STAT.TS_COARSE = 0 ∧ u.get TIM_STAT.CKA_SRC = 0 ∧
        u.tim.unlockDue = true ∧
        t = saveRaise { u with tim := { u.tim with cksPar := u.tim.edges % 2, lockSafe := u.tim.unlockDue, frame := u.now / 100 } }) ∧
  (∀ e s, s.get TIM_CTRL.PLL_EN = 1 → s.locked = false → s.get TIM_STAT.REF_PRESENT = 1 → s.rst.inst = false →
    Completes (.pllLock e) s fun t =>
      ∃ u v w, (s.advanceTo e).Frame u [TIM_STAT.PLL_LOCK, TIM_STAT.TS_COARSE, TIM_STAT.CKA_SRC] ∧
        u.get TIM_STAT.PLL_LOCK = 1 ∧ u.get TIM_STAT.TS_COARSE = 0 ∧ u.get TIM_STAT.CKA_SRC = 0 ∧
        v = relock { u with tim := { u.tim with cksPar := u.tim.edges % 2 } } ∧
        w = { v with tim := { v.tim with lockSafe := v.tim.unlockDue, frame := v.now / 100 } } ∧
        t = (let x := if w.tim.lockSafe then w else releaseCells w.touchedCells w
             let x := if x.rst.inst then x else edgesRelease (reinAll x)
             saveRaise (if x.hold.edgeDue ∧ !x.rst.inst then sagEdge x else x))) ∧
  (∀ e r s, s.locked = true → Completes (.lossOfLock e r) s fun t =>
    ∃ u, t = clocksStop u ∧ u.get TIM_STAT.REF_PRESENT = (if r then 0 else 1) ∧ u.get TIM_STAT.LOCK_LOST = 1 ∧
      u.get TIM_LOCK_CNT.COUNT = min (s.get TIM_LOCK_CNT.COUNT + 1) 65535 ∧
      u.tim.unlockDue = true ∧ u.tim.unlockTs = (s.advanceTo e).ts ∧
      s.KeepsBits u [TIM_STAT.REF_PRESENT, TIM_STAT.LOCK_LOST, TIM_LOCK_CNT.COUNT]) ∧
  (∀ req s, s.Permits req TIM_CTRL 0 → s.get TIM_CTRL.PLL_EN = 1 → s.locked = true → s.liveRegions = [] →
    (∀ p < 32, s.phState p = 0 ∨ s.phState p = 1 ∨ s.phState p = 5) → Completes (.pllStop req) s fun t =>
      ∃ u, t = clocksStop u ∧ u.get TIM_CTRL.PLL_EN = 0 ∧ s.Frame u [TIM_CTRL.PLL_EN]) ∧
  (∀ s : State, ∃ u, clocksStop s = ordersZero (frontFault 8 (safeBegins u.touchedCells u)) ∧
    u.get TIM_STAT.PLL_LOCK = 0 ∧ u.get TIM_STAT.TS_COARSE = 1 ∧ u.get TIM_STAT.TS_ALIGNED = 0 ∧ u.tim.lockSafe = true ∧
    u.get TIM_STAT.CKA_SRC = (if s.get TIM_STAT.REF_PRESENT = 0 then 2 else 1) ∧
    (s.get TIM_STAT.REF_PRESENT = 0 → u.get TIM_STAT.TS_DEGRADED = 1) ∧
    (countEdges s).KeepsBits u [TIM_STAT.PLL_LOCK, TIM_STAT.TS_COARSE, TIM_STAT.TS_ALIGNED, TIM_STAT.CKA_SRC,
      TIM_STAT.TS_DEGRADED]) ∧
  (∀ e s, s.get TIM_STAT.CTRL_GOOD = 1 → s.get TIM_STAT.CELL_GOOD = 0 → Completes (.cellIslandGood e) s fun t =>
    ∃ u, (s.advanceTo e).Frame u [TIM_STAT.CELL_GOOD] ∧ u.get TIM_STAT.CELL_GOOD = 1 ∧
      t = (let v := releaseCells u.busyCells (u.each (u.listed (CELL_MAP_LIVE 0) 0x40 3072) fun z c => unpark c z)
           reinAll (v.each v.liveRegions fun z n => healthCheck n z))) ∧
  (∀ e s, s.get TIM_STAT.CELL_GOOD = 1 → Completes (.cellIslandLoss e) s fun t =>
    ∃ u, (s.advanceTo e).Frame u [TIM_STAT.CELL_GOOD] ∧ u.get TIM_STAT.CELL_GOOD = 0 ∧
      t = (let v := u.each u.busyCells fun z c =>
             let z := prechargeAbandon c z
             if z.cellState c = 1 ∨ z.cellState c = 3 then settle c 0 z else z
           reinAll (v.each v.liveRegions fun z n => healthCheck n z))) ∧
  (∀ (c : CellIx) s, s.cellState c = 0 → s.cellRegion c ≠ 0 → s.get TIM_STAT.CELL_GOOD = 1 →
    (unpark c s).cellState c = (if s.get (CELL_STAT.CAUSE c) = 0 then 1 else 3) ∧
    s.KeepsBits (unpark c s) [CELL_STAT.STATE c, CELL_STAT.HYS_LO c, CELL_STAT.HYS_HI c, CELL_STAT.ILIM c])

/-- O16 (derived; R639, R640, R641, R642, R643, R644, R646, R647, R648, R651, spec/21_reset_and_holdup.md). What the
events of the V12 sag sequence leave: declaration, front stop, capture, programming, time-out and end. -/
def Obligations.SagSequenceCommandsComplete : Prop :=
  (∀ e s, s.get HOLD_CTRL.EN = 1 → s.rst.scan = false → s.rst.por = false → s.holdState ≠ 0 →
    Completes (.sagDeclared e) s fun t =>
      t.get HOLD_STAT.SAGS = min (s.get HOLD_STAT.SAGS + 1) 255 ∧
      t.num HOLD_SAG_TS_LO = (s.advanceTo e).now % 2 ^ 32 ∧ t.num HOLD_SAG_TS_HI = (s.advanceTo e).now / 2 ^ 32 ∧
      (s.advanceTo e).Frame t [HOLD_STAT.SAGS, HOLD_SAG_TS_LO.TS, HOLD_SAG_TS_HI.TS]) ∧
  (∀ e s, s.get HOLD_CTRL.EN = 1 → s.rst.scan = false → s.rst.por = false → s.holdState = 0 →
    Completes (.sagDeclared e) s fun t =>
      ∃ u, t = (if s.locked ∧ !s.rst.inst then sagEdge u else u) ∧
        u.get HOLD_STAT.STATE = 1 ∧ u.get HOLD_STAT.SAGS = min (s.get HOLD_STAT.SAGS + 1) 255 ∧
        u.num HOLD_SAG_TS_LO = (s.advanceTo e).now % 2 ^ 32 ∧ u.num HOLD_SAG_TS_HI = (s.advanceTo e).now / 2 ^ 32 ∧
        u.hold.decl = (s.advanceTo e).now ∧ u.hold.edgeDue = true ∧ u.hold.due = true ∧
        u.hold.frame = (if s.inst = 0 ∧ s.bit HOLD_FRAME.ARMED then some (s.get HOLD_FRAME.FRAME) else none) ∧
        u.pst.port = s.pst.port ++ [32 * kHOLD] ∧
        s.KeepsBits u [HOLD_STAT.STATE, HOLD_STAT.SAGS, HOLD_SAG_TS_LO.TS, HOLD_SAG_TS_HI.TS]) ∧
  (∀ e s, s.holdState ≠ 0 → s.fsRuns = true → s.liveRegions.all (fun n => s.rgnState n == 5) = true →
    Completes (.frontStopSag e) s fun t => t = frontFault 9 (s.advanceTo e)) ∧
  (∀ e s, s.holdState ≠ 0 → s.fsRuns = true → s.liveRegions.all (fun n => s.rgnState n == 5) = false →
    Completes (.frontStopSag e) s fun t =>
      ∃ u, u = (s.advanceTo e).advanceTo (BitVec.ofNat 64 (s.hold.decl + 800 * s.get HOLD_CTRL.FS_TO)) ∧
        (s.hold.decl + 800 * s.get HOLD_CTRL.FS_TO ≤ u.now → t = frontFault 9 u)) ∧
  (∀ e s, s.holdState ≠ 0 → s.unsaved = true → s.locked = true → s.get TIM_STAT.CTRL_GOOD = 1 → s.rst.inst = false →
    Completes (.saveTimeout e) s fun t =>
      ∃ u, u = (s.advanceTo e).advanceTo (BitVec.ofNat 64 (s.hold.decl + 25600000)) ∧ t.ts = u.ts ∧
        t.get HOLD_STAT.TIMEOUT = 1 ∧ t.hold.saveDue = false ∧ t.cbse.pulses = u.cbse.pulses ++ [27] ∧
        t.pst.port = u.pst.port ++ [32 * kHOLD + 3] ∧ u.KeepsBits t [HOLD_STAT.TIMEOUT]) ∧
  (∀ e s, s.holdState ≠ 0 → s.unsaved = true → s.locked = false →
    Completes (.saveTimeout e) s fun t =>
      ∃ u, u = (s.advanceTo e).advanceTo (BitVec.ofNat 64 (s.hold.decl + 25600000)) ∧ t.ts = u.ts ∧
        t.get HOLD_STAT.TIMEOUT = 1 ∧ t.hold.saveDue = true ∧
        t.pst.port = u.pst.port ++ [32 * kHOLD + 3] ∧ u.KeepsBits t [HOLD_STAT.TIMEOUT]) ∧
  (∀ e s, s.holdState = 3 → (s.inst ≠ 0 ∨ s.get HOLD_FRAME.ARMED = 0 ∨ s.hold.kept = []) → Completes (.sagEnd e) s fun t =>
    t.holdState = 0 ∧ t.pst.port = s.pst.port ++ [32 * kHOLD + 1] ∧ s.KeepsBits t [HOLD_STAT.STATE]) ∧
  (∀ s, s.inst = 0 → s.get HOLD_FRAME.ARMED = 1 → s.holdState = 0 → s.hold.kept ≠ [] →
    keptSave s = { s.put HOLD_FRAME.ARMED 0 with
      hold := { s.hold with frame := some (s.get HOLD_FRAME.FRAME), todo := s.hold.kept, kept := [] } }) ∧
  (∀ e k ws s, s.hold.todo.head? = some k.val → s.inst ≠ 0 → s.hold.todo.length ≠ 1 →
    Completes (.recordProgrammed e k ws) s fun t =>
      t.get HOLD_STAT.DONE = setBitN (s.get HOLD_STAT.DONE) k.val ∧ t.hold.todo = s.hold.todo.drop 1 ∧
      s.KeepsBits t [HOLD_STAT.DONE]) ∧
  (∀ e miss peers s, s.holdState = 1 → s.hold.due = true → s.hold.edgeDue = false → s.hold.cut = false → s.inst ≠ 0 →
    s.hold.taken.isSome = true → peers.contains 0 = true → Completes (.crashCaptureDone e miss peers) s fun t =>
      t.holdState = 2 ∧ t.hold.todo = [s.inst] ∧ t.hold.saves = s.hold.saves + 1 ∧ t.hold.taken = none ∧ t.hold.due = false ∧
      (∀ w < 1024, t.rd (aonBuffer w) = (s.crashRecord []).getD w 0))

/-- O17 (derived; R76, R78, R81, R86, R87, R88, R94, R96, R99, R102, R103, R104). What the commands and events of the
cell sea leave in the cell, and their frames. -/
def Obligations.CellCommandsComplete : Prop :=
  (∀ (c : CellIx) s, s.cellState c = 2 → s.cellSafe c = false → s.rst.inst = false → Completes (.blendFrameBoundary c) s fun t =>
    ∃ u, t = reinAll u ∧
    let g := (s.chid c).want
    let r := s.get (CELL_TGT.RATIO c)
    u.get (CELL_TGT.RATIO c) =
      (if g.ratio ≤ r + 1 ∧ r ≤ g.ratio + 1 then g.ratio else if r < g.ratio then r + 1 else r - 1) % 8 ∧
    u.get (CELL_TGT.BLEND c) = (if g.ratio ≤ r + 1 ∧ r ≤ g.ratio + 1 then g.blend else 0) % 16 ∧
    s.Frame u [CELL_TGT.RATIO c, CELL_TGT.BLEND c]) ∧
  (∀ (c : CellIx) uv s, s.cellState c = 2 → s.cellSafe c = false → s.get (CELL_TRIM.VW c) ≠ 0 →
    s.rst.inst = false → Completes (.windowCrossing c uv) s fun t =>
      ∃ u, t = reinAll u ∧
      let v : Int := (400000 + 1250 * s.get (CELL_TGT_SP.VT c) : Nat)
      let w : Int := (1250 * s.get (CELL_TRIM.VW c) : Nat)
      ((uv : Int) < v - w → u.bit (CELL_STAT.HYS_LO c) = true ∧ u.bit (CELL_STAT.HYS_HI c) = false) ∧
      (v + w < (uv : Int) → u.bit (CELL_STAT.HYS_HI c) = true ∧ u.bit (CELL_STAT.HYS_LO c) = false) ∧
      (v - w + 2000 ≤ (uv : Int) ∧ (uv : Int) ≤ v + w - 2000 →
        u.bit (CELL_STAT.HYS_LO c) = false ∧ u.bit (CELL_STAT.HYS_HI c) = false) ∧
      (v - w ≤ (uv : Int) ∧ (uv : Int) < v - w + 2000 ∧ (uv : Int) ≤ v + w →
        u.bit (CELL_STAT.HYS_LO c) = s.bit (CELL_STAT.HYS_LO c)) ∧
      (v + w - 2000 < (uv : Int) ∧ (uv : Int) ≤ v + w ∧ v - w ≤ (uv : Int) →
        u.bit (CELL_STAT.HYS_HI c) = s.bit (CELL_STAT.HYS_HI c)) ∧
      s.Frame u [CELL_STAT.HYS_LO c, CELL_STAT.HYS_HI c]) ∧
  (∀ (c : CellIx) i f s, s.conducts c = true → s.cellLimit c ≤ i.toInt → s.rst.inst = false → Completes (.cellCurrentLimit c ⟨i, f⟩) s fun t =>
    ∃ u, t = reinAll u ∧ u.get (CELL_STAT.ILIM c) = 1 ∧ u.get (CELL_STAT.ILIM_SEEN c) = 1 ∧
    u.cell = mapSet {} s.cell c { s.chid c with limFcode := min f (s.fcodeEff c) } ∧
    s.KeepsBits u [CELL_STAT.ILIM c, CELL_STAT.ILIM_SEEN c]) ∧
  (∀ (c : CellIx) i f s, s.conducts c = false ∨ i.toInt < s.cellLimit c → s.rst.inst = false → Completes (.cellCurrentLimit c ⟨i, f⟩) s fun t =>
    t = reinAll s) ∧
  (∀ (c : CellIx) s, (seaCatch s).get (CELL_STAT.FOLDBACK c) = 0 → 7680000 ≤ ((seaCatch s).chid c).exqf →
    s.rst.inst = false → Completes (.foldback c) s fun t => ∃ u, t = reinAll u ∧
      u.get (CELL_STAT.FOLDBACK c) = 1 ∧ u.pst.port = (seaCatch s).pst.port ++ [32 * kCELL + (16 + cluster c)] ∧
      u.cell = (seaCatch s).cell ∧
      u.tlm.nfold = mapSet 0 (seaCatch s).tlm.nfold c (min 0xFFFF (mapGet 0 (seaCatch s).tlm.nfold c + 1)) ∧
      (seaCatch s).KeepsBits u [CELL_STAT.FOLDBACK c]) ∧
  (∀ (c : CellIx) s, (seaCatch s).get (CELL_STAT.FOLDBACK c) = 0 → ((seaCatch s).chid c).exqf < 7680000 →
    s.rst.inst = false → Completes (.foldback c) s fun t => t = reinAll (seaCatch s)) ∧
  (∀ (c : CellIx) s, (seaCatch s).get (CELL_STAT.FOLDBACK c) = 1 → ((seaCatch s).chid c).exqf = 0 →
    s.rst.inst = false → Completes (.foldbackRecovery c) s fun t => ∃ u, t = reinAll u ∧
      u.get (CELL_STAT.FOLDBACK c) = 0 ∧ (seaCatch s).Frame u [CELL_STAT.FOLDBACK c]) ∧
  (∀ (c : CellIx) s, (seaCatch s).get (CELL_STAT.FOLDBACK c) = 0 ∨ ((seaCatch s).chid c).exqf ≠ 0 →
    s.rst.inst = false → Completes (.foldbackRecovery c) s fun t => t = reinAll (seaCatch s)) ∧
  (∀ (c : CellIx) (j : Fin 4) k d s, s.snsMeets c j k = true → snsRunLength k ≤ s.cellRunLen c (3 * j + k - 1) →
    s.snsDue c j = some d → s.rst.inst = false → Completes (.sensorExclusion c j k) s fun t => ∃ u, t = reinAll u ∧
    u.get (CELL_SNS.EXCL c) = setBitN (s.get (CELL_SNS.EXCL c)) j ∧
    u.get ⟨CELL_SNS c, 2 * j + 9, 2 * j + 8⟩ = d ∧
    u.cbse.pulses = s.cbse.pulses ++ [12] ∧ u.pst.port = s.pst.port ++ [32 * kCELL + (8 + cluster c)] ∧
    s.KeepsBits u [CELL_SNS.EXCL c, ⟨CELL_SNS c, 2 * j + 9, 2 * j + 8⟩]) ∧
  (∀ req (c : CellIx) (x : BitVec 4) s, s.Permits req (CELL_SNS c) (BitVec.ofNat 32 x.toNat) →
    s.freshBits (CELL_SNS c) = 0 →
    Completes (.cellSnsWrite req c x) s fun t => ∃ u v, t = reinAll v ∧ u = storeReg (CELL_SNS c) (BitVec.ofNat 32 x.toNat) s ∧
      v.get (CELL_SNS.EXCL c) = u.get (CELL_SNS.EXCL c) ∧
      (∀ j < 4, v.get ⟨CELL_SNS c, 2 * j + 9, 2 * j + 8⟩ =
        if bitOf (s.get (CELL_SNS.EXCL c)) j ∧ bitOf x.toNat j = false then 0 else u.get ⟨CELL_SNS c, 2 * j + 9, 2 * j + 8⟩) ∧
      u.KeepsBits v [CELL_SNS.XCAUSE c] ∧ { v with regs := u.regs, cell := u.cell } = u) ∧
  (∀ req (c : CellIx) s, s.Permits req (CELL_CMD c) 0 → s.get (CELL_CMD.PEND c) = 0 → Completes (.nop req c) s fun t =>
    ∃ u, t = reinAll u ∧
    u.get (CELL_CMD.RES c) = stOK ∧ u.get (CELL_CMD.PEND c) = 0 ∧ u.pst.port = s.pst.port ++ [32 * kCELL + (24 + cluster c)] ∧
    s.KeepsBits u [CELL_CMD.RES c, CELL_CMD.PEND c]) ∧
  (∀ req (c : CellIx) (op : BitVec 4) s, s.Permits req (CELL_CMD c) (BitVec.ofNat 32 op.toNat) →
    s.get (CELL_CMD.PEND c) = 0 → 7 ≤ op.toNat → Completes (.cellCmdReserved req c op) s fun t => ∃ u, t = reinAll u ∧
      u.get (CELL_CMD.RES c) = stBADPARAM ∧ u.get (CELL_CMD.PEND c) = 0 ∧
      u.pst.port = s.pst.port ++ [32 * kCELL + (24 + cluster c)] ∧ s.KeepsBits u [CELL_CMD.RES c, CELL_CMD.PEND c]) ∧
  (∀ req (c : CellIx) s, s.Permits req (CELL_CMD c) 1 → s.get (CELL_CMD.PEND c) = 0 → s.thisCycle (s.chid c).failAt = false →
    s.cellState c = 2 →
    s.get (RGN_FLOOR_LIVE.FLOOR (s.cellRegion c)) * s.assigned (s.cellRegion c) ≤
      100 * ((s.activeCells (s.cellRegion c)).length - 1) →
    (s.chid c).entry = none → Completes (.demote req c) s fun t =>
      ∃ u, t = reinAll (healthAround (s.cellRegion c) c u) ∧ u.cellState c = 1 ∧ u.get (CELL_CMD.RES c) = stOK ∧
        u.get (CELL_CMD.PEND c) = 0 ∧ u.pst.port = s.pst.port ++ [32 * kCELL + (24 + cluster c)] ∧
        s.KeepsBits u [CELL_CMD.RES c, CELL_CMD.PEND c, CELL_STAT.STATE c, CELL_STAT.HYS_LO c, CELL_STAT.HYS_HI c,
          CELL_STAT.ILIM c]) ∧
  (∀ req (c : CellIx) s, s.Permits req (CELL_CMD c) 2 → s.get (CELL_CMD.PEND c) = 0 → s.thisCycle (s.chid c).failAt = false →
    s.cellState c = 1 →
    (s.rgnState (s.cellRegion c) = 2 ∨ s.rgnState (s.cellRegion c) = 3) → s.cellRegion c ≠ 0 → s.cellSafe c = false →
    Completes (.join req c) s fun t => ∃ u, t = reinAll u ∧
      u.get (CELL_CMD.PEND c) = 1 ∧ u.get (CELL_CMD.RES c) = stBUSY ∧
      State.Frame (s.setChid c { s.chid c with cmd := 2, pre := .join }) u [CELL_CMD.PEND c, CELL_CMD.RES c]) ∧
  (∀ req (c : CellIx) s, s.Permits req (CELL_CMD c) 3 → s.get (CELL_CMD.PEND c) = 0 → s.thisCycle (s.chid c).failAt = false →
    (s.cellState c = 3 ∨ (s.cellState c = 0 ∧ s.get (CELL_STAT.CAUSE c) ≠ 0)) → s.cellSafe c = false →
    Completes (.recouple req c) s fun t => ∃ u, t = reinAll u ∧
      u.get (CELL_CMD.PEND c) = 1 ∧ u.get (CELL_CMD.RES c) = stBUSY ∧
      State.Frame (s.setChid c { s.chid c with cmd := 3 }) u [CELL_CMD.PEND c, CELL_CMD.RES c]) ∧
  (∀ req (c : CellIx) s, s.Permits req (CELL_CMD c) 4 → s.get (CELL_CMD.PEND c) = 0 → s.thisCycle (s.chid c).failAt = false →
    s.cellState c = 0 →
    Completes (.enterTest req c) s fun t => ∃ u, t = reinAll u ∧
      u.cellState c = 4 ∧ u.get (CELL_CMD.RES c) = stOK ∧ u.pst.port = s.pst.port ++ [32 * kCELL + (24 + cluster c)] ∧
      s.KeepsBits u [CELL_CMD.RES c, CELL_CMD.PEND c, CELL_STAT.STATE c, CELL_STAT.HYS_LO c, CELL_STAT.HYS_HI c,
        CELL_STAT.ILIM c, CELL_VS01.VALID0 c, CELL_VS01.VALID1 c, CELL_VS23.VALID2 c, CELL_VS23.VALID3 c]) ∧
  (∀ req (c : CellIx) s, s.Permits req (CELL_CMD c) 5 → s.get (CELL_CMD.PEND c) = 0 → s.thisCycle (s.chid c).failAt = false →
    s.cellState c = 4 →
    Completes (.exitTest req c) s fun t => ∃ u, u = settle c 0 (testFail c (undoKeep c 4 s)) ∧
      t = reinAll (healthAround (s.cellRegion c) c (cellCmdDone c stOK (u.setChid c { u.chid c with biasBad := false })))) ∧
  (∀ req (c : CellIx) s, s.Permits req (CELL_CMD c) 6 → s.get (CELL_CMD.PEND c) = 0 → s.thisCycle (s.chid c).failAt = false →
    (s.cellState c = 1 ∨ s.cellState c = 2) →
    Completes (.uncouple req c) s fun t => ∃ u v, u = uncoupleCell c 6 (undoKeep c (s.cellState c) s) ∧ t = reinAll v ∧
      v.get (CELL_CMD.RES c) = stOK ∧ v.get (CELL_CMD.PEND c) = 0 ∧ v.pst.port = u.pst.port ++ [32 * kCELL + (24 + cluster c)] ∧
      u.KeepsBits v [CELL_CMD.RES c, CELL_CMD.PEND c]) ∧
  (∀ (c : CellIx) s (op : Nat), 1 ≤ op → op ≤ 6 → s.get (CELL_CMD.PEND c) = 0 →
    s.thisCycle (s.chid c).failAt = true → cellCommand c op s = cellCmdDone c stNOTREADY s) ∧
  (∀ (s : State) a, a < 0x1100000 → a ≠ LPE_EVT → (reinAll s).rd a = s.rd a)

/-- O18 (derived; R76, R99, R102, R107, R108, R115, R116, R117). What the ends of pre-charge, self-check and test, and a
failure, leave in a cell. -/
def Obligations.CellTestAndFailureCommandsComplete : Prop :=
  (∀ (c : CellIx) s, (s.chid c).pre ≠ .none → (s.chid c).pre ≠ .join → s.cellState c = 1 → s.cellSafe c = false →
    s.rst.inst = false → Completes (.cellPrechargeDone c) s fun t => ∃ u, t = reinAll (deliverTarget c (s.chid c).want u) ∧ u.cellState c = 2 ∧
      State.Frame (s.setChid c { s.chid c with pre := .none }) u [CELL_STAT.STATE c]) ∧
  (∀ (c : CellIx) s, (s.chid c).pre = .join → s.cellState c = 1 → s.cellSafe c = false →
    s.rst.inst = false → Completes (.cellPrechargeDone c) s fun t =>
      ∃ u, t = reinAll (cellCmdDone c stOK (deliverTarget c (s.chid c).want u)) ∧ u.cellState c = 2 ∧
        State.Frame ((undoKeep c 2 s).setChid c { (undoKeep c 2 s).chid c with pre := .none }) u [CELL_STAT.STATE c]) ∧
  (∀ (c : CellIx) s, s.get (CELL_CMD.PEND c) = 1 → (s.chid c).cmd = 3 → s.cellState c = 3 → s.cellSafe c = false →
    (s.chid c).entry = none →
    s.rst.inst = false → Completes (.cellSelfcheckDone c true) s fun t => ∃ u, t = reinAll (healthAround (s.cellRegion c) c u) ∧
      u.cellState c = 1 ∧ u.get (CELL_STAT.CAUSE c) = 0 ∧ u.get (CELL_CMD.PEND c) = 0 ∧ u.get (CELL_CMD.RES c) = stOK ∧
      u.pst.port = s.pst.port ++ [32 * kCELL + (24 + cluster c)] ∧
      s.KeepsBits u [CELL_STAT.CAUSE c, CELL_STAT.STATE c, CELL_STAT.HYS_LO c, CELL_STAT.HYS_HI c, CELL_STAT.ILIM c,
        CELL_CMD.PEND c, CELL_CMD.RES c]) ∧
  (∀ (c : CellIx) s, s.get (CELL_CMD.PEND c) = 1 → (s.chid c).cmd = 3 → s.cellSafe c = false →
    s.rst.inst = false → Completes (.cellSelfcheckDone c false) s fun t => ∃ u, t = reinAll u ∧
      u.get (CELL_STAT.CAUSE c) = 7 ∧ u.get (CELL_CMD.PEND c) = 0 ∧ u.get (CELL_CMD.RES c) = stINTERNAL ∧
      s.KeepsBits u [CELL_STAT.CAUSE c, CELL_CMD.PEND c, CELL_CMD.RES c]) ∧
  (∀ e (c : CellIx) k s, (s.advanceTo e).mayFail c k = true → s.cellState c ≠ 4 →
    (∀ j, (s.chid c).failAt = some j → j ≠ (s.advanceTo e).cks) →
    (∀ u, (s.chid c).undo = some u → u.cks ≠ (s.advanceTo e).cks) → s.rst.inst = false → Completes (.cellFailure e c k) s fun t =>
    t = reinAll (uncoupleCell c (if (s.chid c).pre = .none then k else 7)
      ((s.advanceTo e).setChid c { s.chid c with failAt := some (s.advanceTo e).cks }))) ∧
  (∀ e (c : CellIx) k s, (s.advanceTo e).mayFail c k = true → s.cellState c = 4 → s.get (CELL_TEST.GO c) = 1 →
    (∀ j, (s.chid c).failAt = some j → j ≠ (s.advanceTo e).cks) →
    (∀ u, (s.chid c).undo = some u → u.cks ≠ (s.advanceTo e).cks) →
    s.rst.inst = false → Completes (.cellFailure e c k) s fun t => ∃ u, t = reinAll u ∧
      u.get (CELL_STAT.CAUSE c) = k ∧ u.get (CELL_TEST.GO c) = 0 ∧ u.get (CELL_TEST_RES.DONE c) = 1 ∧
      u.get (CELL_TEST_RES.FAIL c) = 1 ∧ ((u.chid c).biasBad = true ↔ k = 4 ∨ (s.chid c).biasBad = true) ∧
      (s.advanceTo e).KeepsBits u [CELL_STAT.CAUSE c, CELL_TEST.GO c, CELL_TEST_RES.DONE c, CELL_TEST_RES.FAIL c]) ∧
  (∀ (c : CellIx) (k : Fin 16) s, s.get (CELL_CMD.PEND c) = 0 → ∃ u,
    uncoupleCell c k s = healthCheck (s.cellRegion c) (if s.cellState c = 2 then spareJoin (s.cellRegion c) u else u) ∧
    u.cellState c = 3 ∧ u.get (CELL_STAT.CAUSE c) = k ∧ u.cbse.pulses = s.cbse.pulses ++ [11] ∧
    u.pst.port = s.pst.port ++ [32 * kCELL + cluster c] ∧
    s.KeepsBits u [CELL_STAT.STATE c, CELL_STAT.CAUSE c, CELL_STAT.HYS_LO c, CELL_STAT.HYS_HI c, CELL_STAT.ILIM c]) ∧
  (∀ req (c : CellIx) v s, s.Permits req (CELL_TEST c) v → s.get (CELL_TEST.GO c) = 0 → s.cellState c = 4 →
    (s.chid c).biasBad = false →
    fldGet v 3 3 = 1 → (storeReg (CELL_TEST c) v s).get (CELL_TEST.MODE c) ≠ 0 → Completes (.cellTestStart req c v) s fun t =>
      t.get (CELL_TEST.GO c) = 1 ∧ t.get (CELL_TEST_RES.DONE c) = 0 ∧ t.get (CELL_TEST_RES.FAIL c) = 0 ∧
      (storeReg (CELL_TEST c) v s).Frame t [CELL_TEST.GO c, CELL_TEST_RES.DONE c, CELL_TEST_RES.FAIL c]) ∧
  (∀ req (c : CellIx) v s, s.Permits req (CELL_TEST c) v → s.get (CELL_TEST.GO c) = 1 → fldGet v 2 0 = 0 →
    Completes (.cellTestAbandon req c v) s fun t =>
      t.get (CELL_TEST.GO c) = 0 ∧ t.get (CELL_TEST.MODE c) = 0 ∧ t.get (CELL_TEST_RES.DONE c) = 1 ∧
      t.get (CELL_TEST_RES.FAIL c) = 1 ∧
      s.Frame t [CELL_TEST.GO c, CELL_TEST.MODE c, CELL_TEST_RES.DONE c, CELL_TEST_RES.FAIL c]) ∧
  (∀ (c : CellIx) r a b s, s.get (CELL_TEST.GO c) = 1 → s.testResult c r = some (a, b) →
    s.cellSafe c = false ∨ s.get (CELL_TEST.MODE c) = 4 →
    s.rst.inst = false → Completes (.cellTestDone c r.resa r.resb r.complete) s fun t => ∃ u, t = reinAll u ∧
      u.get (CELL_TEST.GO c) = 0 ∧ u.get (CELL_TEST_RES.DONE c) = 1 ∧
      u.get (CELL_TEST_RES.RESA c) = a % 4096 ∧ u.get (CELL_TEST_RES.RESB c) = b % 65536 ∧
      s.Frame u [CELL_TEST.GO c, CELL_TEST_RES.DONE c, CELL_TEST_RES.RESA c, CELL_TEST_RES.RESB c]) ∧
  (∀ (c : CellIx) r s, s.get (CELL_TEST.GO c) = 1 →
    s.testResult c r = none ∨ (s.cellSafe c = true ∧ s.get (CELL_TEST.MODE c) ≠ 4) →
    s.rst.inst = false → Completes (.cellTestDone c r.resa r.resb r.complete) s fun t => ∃ u, t = reinAll u ∧
      u.get (CELL_TEST.GO c) = 0 ∧ u.get (CELL_TEST_RES.DONE c) = 1 ∧ u.get (CELL_TEST_RES.FAIL c) = 1 ∧
      s.Frame u [CELL_TEST.GO c, CELL_TEST_RES.DONE c, CELL_TEST_RES.FAIL c])

/-- O19 (derived; R123, R124, R125, R126, R127, R128, R129, R156, spec/04_regions.md). What a commit, its validation,
safe point and time-out, a revert, and a set-point write leave. -/
def Obligations.ConfigurationCommandsComplete : Prop :=
  (∀ req v s, s.Permits req RGN_CFG_CTRL (v ||| 1) → s.get RGN_CFG_STAT.BUSY = 0 → Completes (.cfgCommit req v) s fun t =>
    t.get RGN_CFG_CTRL.COMMIT = 1 ∧ t.get RGN_CFG_STAT.BUSY = 1 ∧ t.get RGN_CFG_STAT.RES = stBUSY ∧
    State.Frame { s with cfg := .validating } t [RGN_CFG_CTRL.COMMIT, RGN_CFG_STAT.BUSY, RGN_CFG_STAT.RES]) ∧
  (∀ req v s, s.Permits req RGN_CFG_CTRL (v ||| 1) → s.get RGN_CFG_STAT.BUSY = 1 → Completes (.cfgCommit req v) s fun t =>
    t.get RGN_CFG_STAT.WR_DURING = 1 ∧ s.Frame t [RGN_CFG_STAT.WR_DURING]) ∧
  (∀ req s, s.Permits req RGN_CFG_CTRL 2 → s.get RGN_CFG_STAT.BUSY = 0 → Completes (.cfgRevert req 2) s fun t =>
    t.get RGN_CFG_STAT.BUSY = 1 ∧ State.Frame { s with cfg := .reverting } t [RGN_CFG_STAT.BUSY]) ∧
  (∀ s, s.cfg = .validating → s.commitCheck.1 = 0 → s.rst.inst = false → Completes .commitValidationDone s fun t => t = { s with cfg := .waiting }) ∧
  (∀ k n s, s.cfg = .validating → s.commitCheck = (k, n) → k ≠ 0 → k < 16 → n < 256 → s.rst.inst = false → Completes .commitValidationDone s fun t =>
    t.get RGN_CFG_CTRL.COMMIT = 0 ∧ t.get RGN_CFG_STAT.BUSY = 0 ∧ t.get RGN_CFG_STAT.RES = stBADPARAM ∧
    t.get RGN_CFG_STAT.ERR_CAUSE = k ∧ t.get RGN_CFG_STAT.ERR_RGN = n ∧ t.cfg = .idle ∧
    t.pst.port = s.pst.port ++ [32 * kRGN + 3] ∧
    s.KeepsBits t [RGN_CFG_CTRL.COMMIT, RGN_CFG_STAT.BUSY, RGN_CFG_STAT.RES, RGN_CFG_STAT.ERR_CAUSE, RGN_CFG_STAT.ERR_RGN]) ∧
  (∀ e s, s.cfg = .waiting → s.affectedRegions.any s.blocksCommit = false → s.rst.inst = false → Completes (.commitSafePoint e) s fun t =>
    ∃ u v, u = commitApply (s.advanceTo e) ∧ t = reinAll v ∧
      v.get RGN_CFG_CTRL.COMMIT = 0 ∧ v.get RGN_CFG_STAT.BUSY = 0 ∧ v.get RGN_CFG_STAT.RES = stOK ∧ v.cfg = .idle ∧
      v.pst.port = u.pst.port ++ [32 * kRGN + 3] ∧
      u.KeepsBits v [RGN_CFG_CTRL.COMMIT, RGN_CFG_STAT.BUSY, RGN_CFG_STAT.RES, RGN_CFG_STAT.ERR_CAUSE, RGN_CFG_STAT.ERR_RGN]) ∧
  (∀ e n s, s.cfg = .waiting → s.affectedRegions.find? s.blocksCommit = some n → n < 256 →
    s.rst.inst = false → Completes (.safePointTimeout e) s fun t =>
      t.get RGN_CFG_CTRL.COMMIT = 0 ∧ t.get RGN_CFG_STAT.BUSY = 0 ∧ t.get RGN_CFG_STAT.RES = stBUSY ∧
      t.get RGN_CFG_STAT.ERR_CAUSE = 7 ∧ t.get RGN_CFG_STAT.ERR_RGN = n ∧ t.cfg = .idle ∧
      t.pst.port = s.pst.port ++ [32 * kRGN + 3] ∧
      s.KeepsBits t [RGN_CFG_CTRL.COMMIT, RGN_CFG_STAT.BUSY, RGN_CFG_STAT.RES, RGN_CFG_STAT.ERR_CAUSE, RGN_CFG_STAT.ERR_RGN]) ∧
  (∀ s, s.cfg = .reverting → s.rst.inst = false → Completes .cfgRevertDone s fun t =>
    t.cfg = .idle ∧ t.get RGN_CFG_STAT.BUSY = 0 ∧ (revertApply s).KeepsBits t [RGN_CFG_STAT.BUSY]) ∧
  (∀ s, s.cfg = .reverting → s.rst.inst = false → Completes .cfgRevertDone s fun t =>
    ∀ n ∈ s.cfgRegions, 1 ≤ n → n < 256 → ∀ o ∈ shadowOffsets, t.rd (rgnWord n o) = s.rd (rgnWord n (o + 0x40))) ∧
  (∀ req (n : RegionIx) v s, n.val ≠ 0 → s.Permits req (RGN_VSET n) v → (storeReg (RGN_VSET n) v s).profiled n = false →
    Completes (.rgnVsetWrite req n v) s fun t => t = storeReg (RGN_VSET n) v s) ∧
  (∀ req (n : RegionIx) v s, n.val ≠ 0 → s.Permits req (RGN_VSET n) v → (storeReg (RGN_VSET n) v s).profiled n = true →
    Completes (.rgnVsetWrite req n v) s fun t => ∃ u, u = storeReg (RGN_VSET n) v s ∧
      t = pgTarget (u.get (RGN_PROF_LIVE.PG n)) (u.get (RGN_VSET.CODE n) : Nat) u)

/-- O20 (derived; R132, R133, R134, R135, R136, R138, R141, R142, R143, R148, R150, R153). What the commands and events
of a region leave: NOP to CLEAR_FAULT, ramp end, faults, and the recorded minimum. -/
def Obligations.RegionCommandsComplete : Prop :=
  (∀ (k r : Nat) (u : State), r < 256 → k ≠ 0 → k < 256 →
    (rgnCmdDone k (r, u)).get (RGN_CMD.RES k) = r ∧ (rgnCmdDone k (r, u)).get (RGN_CMD.PEND k) = 0 ∧
    (rgnCmdDone k (r, u)).pst.port = u.pst.port ++ [32 * kRGN + 2] ∧
    bitOf ((rgnCmdDone k (r, u)).num (RGN_EVT_CMD (k / 32))) (k % 32) = true ∧
    u.KeepsBits (rgnCmdDone k (r, u)) [RGN_CMD.PEND k, RGN_CMD.RES k, RGN_EVT_CMD.EVT (k / 32)]) ∧
  (∀ req (n : RegionIx) s, n.val ≠ 0 → s.Permits req (RGN_CMD n) 0 → s.get (RGN_CMD.PEND n) = 0 →
    s.get VL_STAT.CFG_COMMITTED = 1 → Completes (.regionNop req n) s fun t => ∃ u, t = reinAll u ∧ u = rgnCmdDone n (stOK, s.setRhid n { s.rhid n with cmdAt := some s.cks })) ∧
  (∀ req (n : RegionIx) s, n.val ≠ 0 → s.Permits req (RGN_CMD n) 0 → s.get (RGN_CMD.PEND n) = 0 →
    s.get VL_STAT.CFG_COMMITTED = 0 → Completes (.regionNop req n) s fun t => ∃ u, t = reinAll u ∧ u = rgnCmdDone n (stNOTREADY, s.setRhid n { s.rhid n with cmdAt := some s.cks })) ∧
  (∀ req (n : RegionIx) s, n.val ≠ 0 → s.Permits req (RGN_CMD n) 1 → s.get (RGN_CMD.PEND n) = 0 →
    s.get VL_STAT.CFG_COMMITTED = 1 → s.get THM_STAT.STATE = 0 → s.rgnState n = 0 → s.get XPH_STAT.STATE = 2 →
    s.get TIM_STAT.CELL_GOOD = 1 → s.assigned n ≠ 0 → s.assigned n ≤ 2 * s.healthy n → Completes (.enable req n) s fun t => ∃ u, t = reinAll u ∧ 
      u.get (RGN_CMD.PEND n) = 1 ∧ u.get (RGN_CMD.RES n) = stBUSY ∧ (u.rhid n).cmd = 1 ∧
      u.getI (RGN_RAMP.HR n) = satS 16 s.headroom ∧
      u.bit (RGN_STAT.SLOWED n) = decide (s.headroom < s.getI (RGN_INRUSH_LIVE.BUDGET n)) ∧
      s.KeepsBits u [RGN_CMD.PEND n, RGN_CMD.RES n, RGN_RAMP.HR n, RGN_STAT.SLOWED n]) ∧
  (∀ req (n : RegionIx) s, n.val ≠ 0 → s.Permits req (RGN_CMD n) 1 → s.get (RGN_CMD.PEND n) = 0 →
    s.get VL_STAT.CFG_COMMITTED = 1 → s.get THM_STAT.STATE = 0 → s.rgnState n = 4 → Completes (.enable req n) s fun t => ∃ u, t = reinAll u ∧ 
      u = rgnCmdDone n (stDEFERRED, (s.setRhid n { s.rhid n with cmdAt := some s.cks }).put (RGN_STAT.ENABLE_PENDING n) 1)) ∧
  (∀ req (n : RegionIx) s, n.val ≠ 0 → s.Permits req (RGN_CMD n) 2 → s.get (RGN_CMD.PEND n) = 0 →
    s.get VL_STAT.CFG_COMMITTED = 1 → (s.rgnState n = 1 ∨ s.rgnState n = 2 ∨ s.rgnState n = 3) → Completes (.disable req n) s fun t => ∃ u, t = reinAll u ∧ 
      u.get (RGN_CMD.PEND n) = 1 ∧ u.get (RGN_CMD.RES n) = stBUSY ∧
      (s.setRhid n { s.rhid n with cmd := 2 }).Frame u [RGN_CMD.PEND n, RGN_CMD.RES n]) ∧
  (∀ req (n : RegionIx) s, n.val ≠ 0 → s.Permits req (RGN_CMD n) 3 → s.get (RGN_CMD.PEND n) = 0 →
    s.get VL_STAT.CFG_COMMITTED = 1 → s.rgnState n = 5 → s.thisCycle (s.rhid n).faultAt = false → Completes (.clearFault req n) s fun t => ∃ u, t = reinAll u ∧ 
      u.get (RGN_CMD.PEND n) = 1 ∧ u.get (RGN_CMD.RES n) = stBUSY ∧
      (s.setRhid n { s.rhid n with cmd := 3 }).Frame u [RGN_CMD.PEND n, RGN_CMD.RES n]) ∧
  (∀ req (n : RegionIx) (op : BitVec 4) s, n.val ≠ 0 → s.Permits req (RGN_CMD n) (BitVec.ofNat 32 op.toNat) →
    s.get (RGN_CMD.PEND n) = 0 → 4 ≤ op.toNat → s.get VL_STAT.CFG_COMMITTED = 1 →
    Completes (.regionCmdReserved req n op) s fun t =>
      t = reinAll (rgnCmdDone n (stBADPARAM, s.setRhid n { s.rhid n with cmdAt := some s.cks }))) ∧
  (∀ (k op : Nat) (u : State), 1 ≤ op → op ≤ 3 → u.get (RGN_CMD.PEND k) = 0 → u.rgnState k = 5 → u.thisCycle (u.rhid k).faultAt = true →
    rgnCommand k op u = rgnCmdDone k (stNOTREADY, u)) ∧
  (∀ (k op : Nat) (u : State), u.get (RGN_CMD.PEND k) = 1 → rgnCommand k op u = u) ∧
  (∀ (k : Nat) s, (s.rhid k).cmd = 1 → s.rgnState k = 0 → s.enableStatus k = 0 →
    let u := s.setRhid k { s.rhid k with cmd := 0, cmdAt := some s.cks }
    rgnCmdTick k s = rgnCmdDone k (stOK, startRamp k u)) ∧
  (∀ (k : Nat) s, (s.rhid k).cmd = 2 → (s.rgnState k = 2 ∨ s.rgnState k = 3) → s.get VL_STAT.CFG_COMMITTED = 1 →
    let u := s.setRhid k { s.rhid k with cmd := 0, cmdAt := some s.cks }
    rgnCmdTick k s = rgnCmdDone k (stOK, putRgnState k 4 (putRef k (1600 + 5 * s.get (RGN_VEFF.CODE k)) u))) ∧
  (∀ (k : Nat) s, (s.rhid k).cmd = 2 → s.rgnState k = 1 → s.get VL_STAT.CFG_COMMITTED = 1 →
    let u := s.setRhid k { s.rhid k with cmd := 0, cmdAt := some s.cks }
    rgnCmdTick k s = rgnCmdDone k (stOK, putRgnState k 4 u)) ∧
  (∀ (k : Nat) s, (s.rhid k).cmd = 3 → s.rgnState k = 5 → s.get VL_STAT.CFG_COMMITTED = 1 →
    let u := s.setRhid k { s.rhid k with cmd := 0, cmdAt := some s.cks }
    rgnCmdTick k s = rgnCmdDone k (stOK, releaseCells ((putRgnState k 0 u).cellsOf k) (putRgnState k 0 u))) ∧
  (∀ e (n : RegionIx) s, n.val ≠ 0 → s.get (RGN_STAT.ENABLE_PENDING n) = 1 → s.rgnState n = 0 → s.activeCells n = [] →
    s.rst.inst = false → Completes (.pendingEnableExecute e n) s fun t => ∃ z, z = (s.advanceTo e).put (RGN_STAT.ENABLE_PENDING n) 0 ∧
      t = reinAll ((setRegionBit (RGN_EVT_CMD 0) n
        (if z.enableStatus n = 0 then startRamp n (inrushCheck n z) else z)).ring kRGN 4)) ∧
  (∀ e (n : RegionIx) s, n.val ≠ 0 → s.rgnState n = 1 → (s.rhid n).first = false → (s.rhid n).ref = s.rampTarget n →
    16 ≤ (s.rhid n).good →
    s.rst.inst = false → Completes (.rampEnd e n) s fun t => ∃ u, u = (s.advanceTo e).setRhid n { s.rhid n with pgLoad := true } ∧
      t = reinAll (putRgnState n (if 100 * s.healthy n < s.get (RGN_FLOOR_LIVE.FLOOR n) * s.assigned n then 3 else 2) u)) ∧
  (∀ e (n : RegionIx) t0 s, n.val ≠ 0 → s.rgnState n = 1 → (s.rhid n).lag = some t0 →
    t0 + 800 * s.get (RGN_SS_LIVE.WIN n) ≤ (s.advanceTo e).now → s.rst.inst = false → Completes (.regionNoRise e n) s fun t =>
    t = reinAll (regionFault n 3 (s.advanceTo e).now32 (s.advanceTo e))) ∧
  (∀ e (n : RegionIx) k s, n.val ≠ 0 → s.rgnState n = 1 → s.activeCells n ≠ [] →
    (s.activeCells n).length ≤ 4 * ((s.activeCells n).filter fun c => s.bit (CELL_STAT.ILIM c)).length →
    (s.rhid n).short = some k → k + 3 ≤ (s.advanceTo e).cks →
    s.rst.inst = false → Completes (.regionShort e n) s fun t => t = reinAll (regionFault n 2 (s.advanceTo e).now32 (s.advanceTo e))) ∧
  (∀ e (n : RegionIx) k s, n.val ≠ 0 → 1 ≤ s.rgnState n → s.rgnState n ≤ 4 → s.treeCount n = 0 →
    (s.rhid n).blind = some k → k + 63 ≤ (s.advanceTo e).cks →
    s.rst.inst = false → Completes (.regionBlind e n) s fun t => t = reinAll (regionFault n 5 (s.advanceTo e).now32 (s.advanceTo e))) ∧
  (∀ req (n : RegionIx) s, n.val ≠ 0 → s.Permits req (VSN_CTRL n) 1 → Completes (.minvClear req n) s fun t =>
    t.get (VSN_MINV.VALID n) = 0 ∧ t.get (VSN_MINV.V n) = 0x7FF ∧ s.Frame t [VSN_MINV.VALID n, VSN_MINV.V n]) ∧
  (∀ req (n : RegionIx) s, n.val ≠ 0 → s.rst.inst = false → Completes (.minvRead req n) s fun t =>
    t.rdata = [s.rd (VSN_MINV n)] ∧
    latchedHi req (VSN_MINV_TSL n) t = BitVec.ofNat 32 (s.rhid n).minvTs.toNat ∧
    latchedHi req (VSN_MINV_TSH n) t = BitVec.ofNat 32 ((s.rhid n).minvTs.toNat / 2 ^ 32) ∧ t.regs = s.regs) ∧
  (∀ e (n : RegionIx) (v : BitVec 11) (x : BitVec 14) s, n.val ≠ 0 →
    s.rst.inst = false → Completes (.minvReplacement e n v x) s fun t => ∃ u, t = reinAll (skidDecide n v.toNat ((s.advanceTo e).ts - 2).toNat u) ∧
      u.get (VSN_VMIN.VALID n) = 1 ∧ u.get (VSN_VMIN.V n) = v.toNat ∧
      ((s.rgnState n = 2 ∨ s.rgnState n = 3) ∧ v.toNat < s.get (VSN_MINV.V n) →
        u.get (VSN_MINV.VALID n) = 1 ∧ u.get (VSN_MINV.V n) = v.toNat ∧ u.get (VSN_MINV.SENSOR n) = x.toNat ∧
        (u.rhid n).minvTs = (s.advanceTo e).ts - 2) ∧
      (¬ ((s.rgnState n = 2 ∨ s.rgnState n = 3) ∧ v.toNat < s.get (VSN_MINV.V n)) → (u.rhid n).minvTs = (s.rhid n).minvTs ∧
        s.KeepsBits u [VSN_VMIN.VALID n, VSN_VMIN.V n, VSN_VMIN.CNT n]) ∧
      s.KeepsBits u [VSN_MINV.VALID n, VSN_MINV.V n, VSN_MINV.SENSOR n, VSN_VMIN.VALID n, VSN_VMIN.V n, VSN_VMIN.CNT n])

/-- O21 (derived; R169, R170, R171, R172, R173, R174, R176, R177, R192, R197, R199, R201). What the commands, soft
start, set-point, sense points and latches of the front stage leave. -/
def Obligations.FrontStageCommandsComplete : Prop :=
  (∀ req s, s.Permits req XPH_CMD 1 → s.get XPH_CMD.PEND = 0 → s.fsState = 0 → s.startReady = true →
    Completes (.start req) s fun t => ∃ u, u = startFront (rippleCatch s) ∧ t.get XPH_CMD.RES = stOK ∧ t.get XPH_CMD.PEND = 0 ∧
      t.fsState = 1 ∧ t.xph.ref = 25 * s.get XPH_VIM.VIM ∧ t.xph.refOn = false ∧ t.pst.port = s.pst.port ++ [32 * kXPH + 7] ∧
      u.KeepsBits t [XPH_CMD.RES, XPH_CMD.PEND]) ∧
  (∀ req s, s.Permits req XPH_CMD 1 → s.get XPH_CMD.PEND = 0 → s.fsState = 0 → s.startReady = false →
    Completes (.start req) s fun t => t.get XPH_CMD.RES = stNOTREADY ∧ t.get XPH_CMD.PEND = 0 ∧
      t.pst.port = s.pst.port ++ [32 * kXPH + 7] ∧ s.KeepsBits t [XPH_CMD.RES, XPH_CMD.PEND]) ∧
  (∀ req s, s.Permits req XPH_CMD 2 → s.get XPH_CMD.PEND = 0 → (s.fsState = 1 ∨ s.fsState = 2) →
    (∀ n ∈ s.liveRegions, s.rgnState n = 5) → Completes (.stop req) s fun t =>
      t.get XPH_CMD.RES = stOK ∧ t.get XPH_CMD.PEND = 0 ∧ t.fsState = 0 ∧ t.get XPH_STAT.PG = 0 ∧
      (stopFront (rippleCatch s)).KeepsBits t [XPH_CMD.RES, XPH_CMD.PEND]) ∧
  (∀ req s, s.Permits req XPH_CMD 3 → s.get XPH_CMD.PEND = 0 → s.fsState = 4 → s.causeGone = true →
    Completes (.clear req) s fun t => t.get XPH_CMD.RES = stOK ∧ t.get XPH_CMD.PEND = 0 ∧ t.fsState = 0 ∧
      t.pst.port = s.pst.port ++ [32 * kXPH + 7] ∧ s.KeepsBits t [XPH_CMD.RES, XPH_CMD.PEND, XPH_STAT.STATE]) ∧
  (∀ req s, s.Permits req XPH_CMD 3 → s.get XPH_CMD.PEND = 0 → s.fsState = 4 → s.causeGone = false →
    Completes (.clear req) s fun t => t.get XPH_CMD.RES = stBUSY ∧ t.get XPH_CMD.PEND = 0 ∧ t.fsState = 4 ∧
      t.pst.port = s.pst.port ++ [32 * kXPH + 7] ∧ s.KeepsBits t [XPH_CMD.RES, XPH_CMD.PEND]) ∧
  (∀ req s, s.Permits req XPH_CMD 0 → s.get XPH_CMD.PEND = 0 → Completes (.xphNop req) s fun t =>
    t.get XPH_CMD.RES = stOK ∧ t.get XPH_CMD.PEND = 0 ∧ t.pst.port = s.pst.port ++ [32 * kXPH + 7] ∧
    s.KeepsBits t [XPH_CMD.RES, XPH_CMD.PEND]) ∧
  (∀ req (op : BitVec 4) s, s.Permits req XPH_CMD (BitVec.ofNat 32 op.toNat) → s.get XPH_CMD.PEND = 0 → 4 ≤ op.toNat →
    Completes (.xphCmdReserved req op) s fun t => t.get XPH_CMD.RES = stBADPARAM ∧ t.get XPH_CMD.PEND = 0 ∧
      t.pst.port = s.pst.port ++ [32 * kXPH + 7] ∧ s.KeepsBits t [XPH_CMD.RES, XPH_CMD.PEND]) ∧
  (∀ e s, s.fsState = 1 → s.xph.refOn = false → s.rst.inst = false → Completes (.softstartRefStart e) s fun t => ∃ z, z = rippleCatch (s.advanceTo e) ∧
    t = phaseCount (putVimRef s.xph.ref { z with xph := { z.xph with refOn := true } })) ∧
  (∀ e s, s.fsState = 1 → s.xph.refOn = true → s.rst.inst = false → Completes (.softstartRampStep e) s fun t =>
    t.xph.ref = (if s.xph.ref ≤ 25 * s.get XPH_VSET.CODE then min (25 * s.get XPH_VSET.CODE) (s.xph.ref + 2 * s.get XPH_SS.SLOPE)
      else max (25 * s.get XPH_VSET.CODE) (s.xph.ref - 2 * s.get XPH_SS.SLOPE)) ∧
    t.get XPH_VIM.VREF = min 4095 ((2 * t.xph.ref + 25) / 50) ∧ s.KeepsBits t [XPH_VIM.VREF]) ∧
  (∀ e s, s.fsState = 2 → s.rst.inst = false → Completes (.vimReferenceSlew e) s fun t =>
    t.xph.ref = (if s.xph.ref ≤ 25 * s.get XPH_VSET.CODE then min (25 * s.get XPH_VSET.CODE) (s.xph.ref + 20 * s.get XPH_VSET.SLEW)
      else max (25 * s.get XPH_VSET.CODE) (s.xph.ref - 20 * s.get XPH_VSET.SLEW)) ∧
    t.get XPH_VIM.VREF = min 4095 ((2 * t.xph.ref + 25) / 50) ∧ s.KeepsBits t [XPH_VIM.VREF]) ∧
  (∀ e t0 s, s.fsState = 1 → s.xph.refOn = true → s.xph.ref = 25 * s.get XPH_VSET.CODE → s.xph.near = some t0 →
    t0 + 8000 ≤ (s.advanceTo e).now → s.rst.inst = false → Completes (.softstartEnd e) s fun t =>
    t.fsState = 2 ∧ t.get XPH_STAT.PG = 1 ∧ t.get XPH_EVT.RUN = 1 ∧ t.pst.port = s.pst.port ++ [32 * kXPH + 2] ∧
    s.KeepsBits t [XPH_STAT.STATE, XPH_STAT.PG, XPH_EVT.RUN]) ∧
  (∀ e s, (s.fsState ≠ 1 ∨ s.xph.refOn = false ∨ s.xph.ref ≠ 25 * s.get XPH_VSET.CODE ∨ s.xph.near = none) →
    s.rst.inst = false → Completes (.softstartEnd e) s fun t => t = rippleCatch (s.advanceTo e)) ∧
  (∀ k s, k < 16 → ∃ u, frontLatch k s = u ∧ u.fsState = 4 ∧ u.get XPH_STAT.CAUSE = k ∧ u.get XPH_STAT.PG = 0 ∧
    u.get XPH_EVT.LATCH = 1 ∧ (idlePool (rippleCatch s)).KeepsBits u [XPH_STAT.STATE, XPH_STAT.CAUSE, XPH_STAT.PG, XPH_EVT.LATCH]) ∧
  (∀ e t0 s, s.fsState = 1 → s.xph.low = some t0 → t0 + 800 * s.get XPH_SS.NR_WIN ≤ (s.advanceTo e).now →
    s.rst.inst = false → Completes (.xphNoRise e) s fun t => t = frontLatch 3 (rippleCatch (s.advanceTo e))) ∧
  (∀ e t0 s, s.fsState = 2 → s.xph.under = some t0 → t0 + 800 * s.get XPH_SS.NR_WIN ≤ (s.advanceTo e).now →
    s.rst.inst = false → Completes (.xphUnderVoltage e) s fun t => t = frontLatch 4 (rippleCatch (s.advanceTo e))) ∧
  (∀ e s, s.fsState = 3 → s.rst.inst = false → Completes (.crowbarRelease e) s fun t => t = frontLatch 1 (rippleCatch (s.advanceTo e))) ∧
  (∀ (s : State), (vimWatch s).regs = s.regs ∧
    ((vimWatch s).xph.low = if s.fsState = 1 ∧ (25 * s.get XPH_VIM.VIM : Nat) < (s.xph.ref : Int) - (100 * s.get XPH_SS.NR_MARGIN : Nat)
      then some (s.xph.low.getD s.now) else none) ∧
    ((vimWatch s).xph.under = if s.fsState = 2 ∧ (25 * s.get XPH_VIM.VIM : Nat) < (s.xph.ref : Int) - 2 * (100 * s.get XPH_SS.NR_MARGIN : Nat)
      then some (s.xph.under.getD s.now) else none) ∧
    ((vimWatch s).xph.near = if s.fsState = 1 ∧ s.xph.refOn = true ∧
        (((25 * s.get XPH_VIM.VIM : Nat) : Int) - (s.xph.ref : Nat)).natAbs ≤ 1000
      then some (s.xph.near.getD s.now) else none)) ∧
  (∀ req up v s, s.Permits req (if up then XPH_VIMPT23 else XPH_VIMPT01) v → Completes (.sensePointInclude req up v) s fun t =>
    ∃ u, u = storeReg (if up then XPH_VIMPT23 else XPH_VIMPT01) v (rippleCatch s) ∧ t = combineVim u ∧
      u.KeepsBits t [XPH_VIM.VIM, XPH_VIM.VREF] ∧
      (∀ ps, u.vimPoints = ps → ps ≠ [] → t.get XPH_VIM.VIM = (2 * (ps.map u.vimPoint).sum + ps.length) / (2 * ps.length) % 4096)) ∧
  (∀ e (k : Fin 4) s, s.vimPoints.contains k.val = true → 3 ≤ s.vimPoints.length → 8 ≤ mapGet 0 s.xph.ptRun k →
    s.rst.inst = false → Completes (.sensePointExclusion e k) s fun t =>
      ∃ u, t = (if u.vimPoints.length < 2 then frontFault 7 u else u) ∧ u.get (ptExcl k) = 1 ∧ u.get XPH_EVT.PT_EXCL = 1 ∧
        u.cbse.pulses = s.cbse.pulses ++ [8] ∧ u.pst.port = s.pst.port ++ [32 * kXPH + 6] ∧
        s.KeepsBits u [ptExcl k, XPH_EVT.PT_EXCL, XPH_VIM.VIM, XPH_VIM.VREF])

/-- O22 (derived; R166, R174, R178, R180, R181, R182, R184, R185, R188, R191, R196). What the triggers, the ends of on-
times and the current limits of the phases leave, and a write of XPH_VSET. -/
def Obligations.FrontStageSwitchingCommandsComplete : Prop :=
  (∀ req v s, s.Permits req XPH_VSET v → Completes (.xphVsetWrite req v) s fun t =>
    t.get XPH_VSET.CODE = max 1280 (min 1920 (fldGet v 11 0)) ∧
    t.get XPH_VSET.SLEW = (if fldGet v 23 16 = 0 then s.get XPH_VSET.SLEW else fldGet v 23 16) ∧
    s.Frame t [XPH_VSET.CODE, XPH_VSET.SLEW]) ∧
  (∀ x uv p s, s.mayTrigger = true → (s.get XPH_CFG.MODE = 0 ∨ s.get XPH_STAT.SYNC_LOCK = 0) → s.blanked x = true →
    (rippleCatch s).vimBelow uv 0 = true → s.nextPhase = some p → s.phReady p x = true → s.rst.inst = false → Completes (.trigger ⟨x, uv⟩) s fun t =>
      t.xph.last = some p ∧ t.xph.lastTrig = some x ∧ t.xph.trigs = s.xph.trigs + 1 ∧ t.xph.cfgWas = none ∧
      (t.phid p).pwm = .high ∧ (t.phid p).start = x ∧ (t.phid p).ton = s.tOn p ∧
      (∀ q, q ≠ p → t.phid q = s.phid q) ∧ t.regs = s.regs ∧ t.xph.slots = s.xph.slots) ∧
  (∀ x uv s, (s.mayTrigger = false ∨ (s.get XPH_CFG.MODE = 1 ∧ s.get XPH_STAT.SYNC_LOCK = 1) ∨ s.blanked x = false ∨
      (rippleCatch s).vimBelow uv 0 = false ∨ (∃ p, s.nextPhase = some p ∧ s.phReady p x = false)) →
    s.rst.inst = false → Completes (.trigger ⟨x, uv⟩) s fun t => t = rippleCatch s) ∧
  (∀ (p : PhaseIx) x s, s.mayTrigger = true → s.get XPH_STAT.SYNC_LOCK = 1 → s.phState p = 2 → s.phReady p x = true →
    (∃ e ∈ s.xph.slots, e.1 = p.val ∧ e.2 ≤ x) → s.rst.inst = false → Completes (.slotTrigger p x) s fun t => ∃ p', p' = p.val ∧
      t.xph.last = some p' ∧ t.xph.lastTrig = some x ∧ t.xph.trigs = s.xph.trigs + 1 ∧ t.xph.cfgWas = none ∧
      (t.phid p').pwm = .high ∧ (t.phid p').start = x ∧ (t.phid p').ton = s.tOn p' ∧
      (∀ q, q ≠ p' → t.phid q = s.phid q) ∧ t.regs = s.regs ∧ t.xph.slots = slotUsed p s.xph.slots) ∧
  (∀ x uv p s, s.mayTrigger = true → s.get XPH_STAT.SYNC_LOCK = 1 → s.blanked x = true →
    (rippleCatch s).vimBelow uv (5000 * s.get XPH_RIP.FAST) = true → s.nextReady x = some p →
    s.rst.inst = false → Completes (.fastTrip ⟨x, uv⟩) s fun t => t.xph.last = some p ∧ t.xph.lastTrig = some x ∧ t.xph.trigs = s.xph.trigs + 1 ∧ t.xph.cfgWas = none ∧
      (t.phid p).pwm = .high ∧ (t.phid p).start = x ∧ (t.phid p).ton = s.tOn p ∧
      (∀ q, q ≠ p → t.phid q = s.phid q) ∧ t.regs = s.regs ∧ t.xph.slots = s.xph.slots.filter (·.1 != p)) ∧
  (∀ x p rest s, s.xph.back = p :: rest → s.fsRuns = true → s.phState p = 2 → s.blanked x = true → s.phReady p x = true →
    s.rst.inst = false → Completes (.returnPhaseFire x) s fun t => t.xph.back = rest ∧ t.xph.last = some p ∧ t.xph.lastTrig = some x ∧ t.xph.trigs = s.xph.trigs + 1 ∧ t.xph.cfgWas = none ∧
      (t.phid p).pwm = .high ∧ (t.phid p).start = x ∧ (t.phid p).ton = s.tOn p ∧
      (∀ q, q ≠ p → t.phid q = s.phid q) ∧ t.regs = s.regs) ∧
  (∀ (p : PhaseIx) x s, (s.phid p).pwm = .high → (s.phid p).start + (s.phid p).ton ≤ x →
    s.rst.inst = false → Completes (.onTimeEnd p x) s fun t =>
      t.phid p = { s.phid p with pwm := .low, ended := some x, ilimRun := 0 } ∧ (∀ q, q ≠ p.val → t.phid q = s.phid q) ∧
      { t with ph := s.ph } = rippleCatch s) ∧
  (∀ (p : PhaseIx) x s, (s.phid p).pwm = .high → s.rst.inst = false → Completes (.cycleLimit p x) s fun t => ∃ u,
    t = (if 8 ≤ (s.phid p).ilimRun + 1 then phaseLatch p 2 u else u) ∧
    u.phid p = { s.phid p with pwm := .low, ended := some x, ilimRun := (s.phid p).ilimRun + 1 } ∧
    u.get (XPH_PH_STAT.ILIM_SEEN p) = 1 ∧ s.KeepsBits u [XPH_PH_STAT.ILIM_SEEN p]) ∧
  (∀ (p : PhaseIx) s, s.fsState = 2 → s.phState p = 2 → s.xphCfg XPH_CFG.DE_EN = 0 → (s.phid p).pwm = .low →
    s.rst.inst = false → Completes (.negativeCurrentLimit p) s fun t => t.phid p = { s.phid p with pwm := .hiZ } ∧
      (∀ q, q ≠ p.val → t.phid q = s.phid q) ∧ { t with ph := s.ph } = rippleCatch s) ∧
  (∀ (p : PhaseIx) s, s.fsRuns = true → (s.phid p).pwm = .low → s.phState p = 2 → (s.fsState = 1 ∨ s.xphCfg XPH_CFG.DE_EN = 1) →
    s.rst.inst = false → Completes (.zeroCurrent p) s fun t => t.phid p = { s.phid p with pwm := .hiZ } ∧
      (∀ q, q ≠ p.val → t.phid q = s.phid q) ∧ { t with ph := s.ph } = rippleCatch s) ∧
  (∀ (p : PhaseIx) s, s.fsRuns = true → (s.phid p).pwm = .low → s.phState p = 3 →
    s.rst.inst = false → Completes (.zeroCurrent p) s fun t => ∃ u, t = phaseCount u ∧ u.phid p = { s.phid p with pwm := .hiZ } ∧
      u.phState p = (if s.get (XPH_PH_CFG.EN p) = 0 then 0 else 4) ∧ s.KeepsBits u [XPH_PH_STAT.STATE p])

/-- O23 (derived; R166, R183, R184, R186, R187, R188, R189, R191, R192, R195, R199, R201). What sync lock, a sync edge,
shedding, load steps, over-voltage, phase enables and phase clears leave. -/
def Obligations.PhaseAndSyncCommandsComplete : Prop :=
  (∀ e period s, s.get XPH_CFG.MODE = 1 → s.get XPH_STAT.SYNC_LOCK = 0 → (syncPeriod period s).syncMet = true →
    s.rst.inst = false → Completes (.syncLock e period) s fun t => t.get XPH_STAT.SYNC_LOCK = 1 ∧ t.xph.period = period ∧ t.xph.lostSync = false ∧
      (s.xph.lostSync = true → t.get XPH_EVT.SYNC_LOCK = 1 ∧ t.pst.port = s.pst.port ++ [32 * kXPH + 5]) ∧
      (s.xph.lostSync = false → t.rd XPH_EVT = s.rd XPH_EVT ∧ t.pst.port = s.pst.port) ∧
      s.KeepsBits t [XPH_STAT.SYNC_LOCK, XPH_EVT.SYNC_LOCK]) ∧
  (∀ e period s, s.get XPH_CFG.MODE = 1 → s.get XPH_STAT.SYNC_LOCK = 0 → (syncPeriod period s).syncMet = false →
    s.rst.inst = false → Completes (.syncLock e period) s fun t => t = syncPeriod period (rippleCatch (s.advanceTo e)) ∧ t.regs = s.regs) ∧
  (∀ p ps (s : State), s.xph.periods = p :: ps → (s.syncMet = true ↔ ps.length = 7 ∧
    ∀ q ∈ p :: ps, 2133 ≤ q ∧ q ≤ 5334 ∧ 100 * (q : Int) ≤ 101 * p ∧ 99 * (p : Int) ≤ 100 * q)) ∧
  (∀ x period s, s.get XPH_CFG.MODE = 1 → s.get XPH_STAT.SYNC_LOCK = 1 → s.fsRuns = true → 2133 ≤ period → period ≤ 5334 →
    s.rst.inst = false → Completes (.syncEdge x period) s fun t => t.xph.period = period ∧
    t.xph.slots = s.xph.slots.filter (fun e => decide (e.2 ≤ x)) ++
      s.actives.zipIdx.map (fun e => (e.1, x + (2 * s.slotOffset e.1 e.2 s.actives.length * period + 64) / 128)) ∧
    t.regs = s.regs ∧ t.ph = s.ph) ∧
  (∀ x period s, s.get XPH_CFG.MODE = 1 → s.get XPH_STAT.SYNC_LOCK = 1 → (period < 2133 ∨ 5334 < period) →
    s.rst.inst = false → Completes (.syncEdge x period) s fun t => t = syncLost (syncPeriod period (rippleCatch s))) ∧
  (∀ x period s, s.get XPH_CFG.MODE = 1 → s.get XPH_STAT.SYNC_LOCK = 0 →
    s.rst.inst = false → Completes (.syncEdge x period) s fun t => t = syncPeriod period (rippleCatch s) ∧ t.regs = s.regs) ∧
  (∀ e s, s.get XPH_STAT.SYNC_LOCK = 1 → s.rst.inst = false → Completes (.syncLost e) s fun t =>
    t.get XPH_STAT.SYNC_LOCK = 0 ∧ t.get XPH_EVT.SYNC_LOST = 1 ∧ t.xph.slots = [] ∧ t.xph.lostSync = true ∧
    t.cbse.pulses = s.cbse.pulses ++ [9] ∧ t.pst.port = s.pst.port ++ [32 * kXPH + 5] ∧
    s.KeepsBits t [XPH_STAT.SYNC_LOCK, XPH_EVT.SYNC_LOST]) ∧
  (∀ e p s, s.xph.dwell = true → s.counting = true → s.actives.getLast? = some p →
    s.rst.inst = false → Completes (.shedDwellExpiry e) s fun t => ∃ u, t = phaseCount u ∧ u.phState p = 3 ∧
      u.phid p = (if (s.phid p).pwm = .high then s.phid p else { s.phid p with pwm := .low }) ∧
      (∀ q ∈ u.xph.back, q ≠ p) ∧ (∀ f ∈ u.xph.slots, f.1 ≠ p) ∧ s.KeepsBits u [XPH_PH_STAT.STATE p]) ∧
  (∀ e s, (s.advanceTo e).stepSeen = true → s.rst.inst = false → Completes (.loadStep e) s fun t => ∃ u, t = cancelShed u ∧
    u.get XPH_EVT.STEP = 1 ∧ u.xph.hold = decide (s.get XPH_SHED.HOLD ≠ 0) ∧ u.pst.port = s.pst.port ++ [32 * kXPH + 3] ∧
    s.KeepsBits u [XPH_EVT.STEP]) ∧
  (∀ e s, (s.advanceTo e).stepSeen = false → s.rst.inst = false → Completes (.loadStep e) s fun t => t = rippleCatch (s.advanceTo e)) ∧
  (∀ s : State, s.stepSeen = true ↔ s.get XPH_SHED.STEP_TH ≠ 0 ∧ (16 * s.get XPH_SHED.STEP_TH : Nat) ≤ s.isea - s.iseaBefore) ∧
  (∀ e s, s.xph.hold = true → s.rst.inst = false → Completes (.stepHoldEnd e) s fun t => ∃ u, t = phaseCount u ∧ u.xph.hold = false ∧ u.regs = s.regs) ∧
  (∀ e (k : Fin 4) s, s.fsRuns = true → s.vimPoints.contains k.val = true → s.rst.inst = false → Completes (.overVoltage e k) s fun t =>
    t.fsState = 3 ∧ t.get XPH_STAT.PG = 0 ∧ t.xph.back = [] ∧ t.xph.slots = [] ∧ t.xph.dwell = false ∧
    (∀ p, p < 32 → (s.phState p = 2 ∨ s.phState p = 3) → (t.phid p).pwm = .low ∧ (t.phid p).crow = true) ∧
    (∀ p, s.phState p ≠ 2 → s.phState p ≠ 3 → t.phid p = s.phid p) ∧
    s.KeepsBits t [XPH_STAT.STATE, XPH_STAT.PG]) ∧
  (∀ e (p : PhaseIx) s, s.inPool p = true → s.rst.inst = false → Completes (.phaseOverCurrent e p) s fun t => t = phaseLatch p 1 (rippleCatch (s.advanceTo e))) ∧
  (∀ req (p : PhaseIx) v s, s.Permits req (XPH_PH_CFG p) v → Completes (.phaseEnableWrite req p v) s fun t =>
    t = phCfgWrite p v (rippleCatch s)) ∧
  (∀ p v s, p < 32 → ∃ u, phCfgWrite p v s = phaseEnable p (fldGet v 31 31 == 1) u ∧ u.get (XPH_PH_CFG.OFS p) = fldGet v 21 16 ∧
    u.get (XPH_PH_CFG.TRIM p) = (if fldGet v 7 0 ≤ 64 ∨ 192 ≤ fldGet v 7 0 then fldGet v 7 0 else s.get (XPH_PH_CFG.TRIM p)) ∧
    s.KeepsBits u [XPH_PH_CFG.OFS p, XPH_PH_CFG.TRIM p]) ∧
  (∀ p s, p < 32 → s.phState p = 1 → s.get (XPH_PH_CFG.EN p) = 1 → ∃ u, phaseEnable p false s = phaseCount u ∧
    u.get (XPH_PH_CFG.EN p) = 0 ∧ u.phState p = 0 ∧ s.KeepsBits u [XPH_PH_CFG.EN p, XPH_PH_STAT.STATE p]) ∧
  (∀ p s, p < 32 → s.phState p = 4 → s.get (XPH_PH_CFG.EN p) = 1 → ∃ u, phaseEnable p false s = phaseCount u ∧
    u.get (XPH_PH_CFG.EN p) = 0 ∧ u.phState p = 0 ∧ s.KeepsBits u [XPH_PH_CFG.EN p, XPH_PH_STAT.STATE p]) ∧
  (∀ p s, p < 32 → s.phState p = 0 → ∃ u, phaseEnable p true s = phaseCount u ∧
    u.get (XPH_PH_CFG.EN p) = 1 ∧ u.phState p = (if s.fsRuns then 4 else 1) ∧ s.KeepsBits u [XPH_PH_CFG.EN p, XPH_PH_STAT.STATE p]) ∧
  (∀ req (p : PhaseIx) s, s.Permits req (XPH_PH_CTRL p) 1 → s.phState p = 5 →
    s.get (XPH_PH_STAT.LCAUSE p) ≠ 3 → s.get (XPH_PH_STAT.LCAUSE p) ≠ 4 → Completes (.phaseClear req p) s fun t =>
      t.phState p = (if s.get (XPH_PH_CFG.EN p) = 0 then 0 else if s.fsRuns then 4 else 1) ∧
      (rippleCatch s).Frame t [XPH_PH_STAT.STATE p])

/-- O24 (derived; R206, R208, R210, R211, R213, R216, R217, R241, R242, R251). What a base tick, a Loop Engine commit
and revert, its initialisation, state writes, EN and PG_TGT leave. -/
def Obligations.LoopEngineCommandsComplete : Prop :=
  (∀ t x s, s.locked = true → s.rst.inst = false → s.tim.frame < t.toNat / 100 → Completes (.baseTick t x) s fun u =>
    u = tickWork (t.toNat / 100) (x.issued.map fun e => (e.1.val, e.2.toNat)) ((x.slacks.filter fun e => e.1.val != 0).map fun e => (e.1.val, e.2))
      (noteEngineEvents (x.events.map fun e => (4 * e.1.val + e.2.1.val, e.2.2)) ((s.each x.sea fun s e => seaEdge e s).advanceTo t))) ∧
  (∀ t x s, (s.locked = false ∨ s.rst.inst = true ∨ t.toNat / 100 ≤ s.tim.frame) → Completes (.baseTick t x) s fun u => u = s) ∧
  (∀ req v s, s.Permits req LPE_CTRL (v ||| 1) → s.get LPE_STAT.BUSY = 0 → fldGet v 2 2 = 1 →
    Completes (.lpeCommit req v) s fun t => t.get LPE_CTRL.COMMIT = 1 ∧ t.get LPE_STAT.BUSY = 1 ∧ t.get LPE_STAT.RES = stBUSY ∧
      t.get LPE_CTRL.EN = 1 ∧ t.lpe.phase = .validating ∧ t.loop = s.loop ∧
      s.KeepsBits t [LPE_CTRL.COMMIT, LPE_CTRL.EN, LPE_STAT.BUSY, LPE_STAT.RES]) ∧
  (∀ req v s, s.Permits req LPE_CTRL (v ||| 1) → s.get LPE_STAT.BUSY = 1 → fldGet v 2 2 = 1 →
    Completes (.lpeCommit req v) s fun t => t.get LPE_EVT.WR_DURING = 1 ∧ t.lpe = s.lpe ∧ s.KeepsBits t [LPE_CTRL.EN, LPE_EVT.WR_DURING]) ∧
  (∀ t s, s.lpe.phase = .validating → s.lpeCheck = (0, 0) → s.rst.inst = false → Completes (.lpeValidationDone t) s fun u =>
    u.lpe.phase = .waiting ∧ u.regs = s.regs) ∧
  (∀ t s, s.lpe.phase = .validating → s.lpeCheck.1 ≠ 0 → s.lpeCheck.1 < 8 → s.lpeCheck.2 < 512 →
    s.rst.inst = false → Completes (.lpeValidationDone t) s fun u =>
      u.get LPE_STAT.RES = stBADPARAM ∧ u.get LPE_STAT.ERR_CAUSE = s.lpeCheck.1 ∧ u.get LPE_STAT.ERR_K = s.lpeCheck.2 ∧
      u.get LPE_STAT.BUSY = 0 ∧ u.get LPE_CTRL.COMMIT = 0 ∧ u.get LPE_EVT.COMMIT = 1 ∧ u.lpe.phase = .idle ∧
      u.pst.port = s.pst.port ++ [32 * kLPE + 1] ∧
      s.KeepsBits u [LPE_STAT.RES, LPE_STAT.ERR_CAUSE, LPE_STAT.ERR_K, LPE_STAT.BUSY, LPE_CTRL.COMMIT, LPE_EVT.COMMIT]) ∧
  (∀ req v s, s.Permits req LPE_CTRL ((v ||| 2) &&& ~~~1) → s.get LPE_STAT.BUSY = 0 → fldGet v 2 2 = 1 →
    Completes (.lpeRevert req v) s fun t => t.get LPE_STAT.BUSY = 1 ∧ t.get LPE_CTRL.EN = 1 ∧ t.lpe.phase = .reverting ∧
      t.loop = s.loop ∧ s.KeepsBits t [LPE_CTRL.EN, LPE_STAT.BUSY]) ∧
  (∀ t s, s.lpe.phase = .reverting → s.rst.inst = false → Completes (.lpeRevertDone t) s fun u => ∃ w, w = lpeApplyRevert (s.advanceTo t) ∧
    u.get LPE_STAT.BUSY = 0 ∧ u.lpe.phase = .idle ∧ w.KeepsBits u [LPE_STAT.BUSY]) ∧
  (∀ t s, s.rst.inst = false → Completes (.lpeInitDone t) s fun u => u.get LPE_STAT.INIT_DONE = 1 ∧ (s.advanceTo t).Frame u [LPE_STAT.INIT_DONE]) ∧
  (∀ req v s, s.Permits req LPE_CTRL v → fldGet v 0 0 = 0 → fldGet v 1 1 = 0 → Completes (.lpeEnableWrite req v) s fun t =>
    t.get LPE_CTRL.EN = fldGet v 2 2 ∧ (fldGet v 2 2 = 1 → t.loop = s.loop) ∧ (fldGet v 2 2 = 0 → t.loop = (discardOutputs s).loop) ∧
    s.KeepsBits t [LPE_CTRL.EN] ∧ { t with regs := s.regs, loop := s.loop } = s) ∧
  (∀ (s : State) k, ((discardOutputs s).loopHid k).pend = none ∧ ((discardOutputs s).loopHid k).balPend = []) ∧
  (∀ req (a : Offset) v s, (LPE_DCFG 0 ≤ a.toNat ∧ a.toNat < LPE_DCFG 512) → a.toNat % 4 = 0 → s.Permits req a.toNat v →
    s.get LPE_STAT.INIT_DONE = 1 → (0x40 ≤ (a.toNat - LPE_DCFG 0) % 0x200 ∧ (a.toNat - LPE_DCFG 0) % 0x200 < 0x1A8 ∧
      0x18 ≤ ((a.toNat - LPE_DCFG 0) % 0x200 - 0x40) % 0x28) → Completes (.lpeStateWrite req a v) s fun t =>
    (s.loopIdle ((a.toNat - LPE_DCFG 0) / 0x200) = true → t = lpePut a.toNat v s) ∧
    (s.loopIdle ((a.toNat - LPE_DCFG 0) / 0x200) = false → t.get LPE_EVT.WR_LIVE = 1 ∧ s.Frame t [LPE_EVT.WR_LIVE])) ∧
  (∀ req (a : Offset) v s, (LPE_BAL_X1 0 ≤ a.toNat ∧ a.toNat < LPE_BAL_X1 32) → a.toNat % 4 = 0 → s.Permits req a.toNat v →
    Completes (.lpeStateWrite req a v) s fun t =>
    ((∀ k ∈ s.liveLoops, (s.liveHdr k).bal = true → s.loopIdle k = true) → t = storeReg a.toNat v s) ∧
    ((∃ k ∈ s.liveLoops, (s.liveHdr k).bal = true ∧ s.loopIdle k = false) → t.get LPE_EVT.WR_LIVE = 1 ∧ s.Frame t [LPE_EVT.WR_LIVE])) ∧
  (∀ req (j : Fin 16) v s, s.Permits req (PG_TGT j) v → s.pgBound j = false → Completes (.pgTargetWrite req j v) s fun t =>
    t.rd (PG_TGT j) = v ∧ t.get (PG_STAT.DONE j) = (if s.pgX j = v.toInt * 65536 ∧ s.num (PG_V j) = 0 ∧ s.num (PG_A j) = 0 then 1 else 0) ∧
    t.pgX j = s.pgX j ∧ t.rd (PG_V j) = s.rd (PG_V j) ∧ t.rd (PG_A j) = s.rd (PG_A j) ∧
    (s.get (PG_STAT.DONE j) = 0 → t.get (PG_STAT.DONE j) = 1 → t.get LPE_EVT.PGDONE = 1 ∧ t.pst.port = s.pst.port ++ [32 * kLPE + 4]) ∧
    (t.get (PG_STAT.DONE j) = 0 → t.pst = s.pst)) ∧
  (∀ req (j : Fin 16) v s, s.Permits req (PG_TGT j) v → s.pgBound j = true → Completes (.pgTargetWrite req j v) s fun t => t = s)

/-- O25 (derived; R246, R247, R248, R250). ARM, STOP, SWTRIG and the timed trigger of the trace, and what a trigger
records. -/
def Obligations.TraceCommandsComplete : Prop :=
  (∀ req s, s.Permits req TRC_CTRL 1 → (s.trcState = 0 ∨ s.trcState = 3) → s.get TLM_TRX_CTRL.BUSY = 0 →
    Completes (.trcArm req) s fun t => t.trcState = 1 ∧ (∀ ch, ch < 8 → t.rd (TRC_CH_WPTR ch) = 0) ∧ t.trc = [] ∧
      (∀ a, a ≠ TRC_STAT → (∀ ch, ch < 8 → a ≠ TRC_CH_WPTR ch) → t.rd a = s.rd a) ∧ { t with regs := s.regs, trc := s.trc } = s) ∧
  (∀ req s, s.Permits req TRC_CTRL 4 → s.trcState ≠ 0 → Completes (.trcStop req) s fun t =>
    t.trcState = 0 ∧ s.Frame t [TRC_STAT.STATE]) ∧
  (∀ req s, s.Permits req TRC_CTRL 2 → Completes (.trcSwtrig req) s fun t =>
    (s.trcState = 1 → t = traceTrigger 0 s) ∧
    (2 ≤ s.trcState → s.get64 TRC_TRIG_TS_LO = s.now → t.get TRC_STAT.CAUSE = 0 ∧ s.Frame t [TRC_STAT.CAUSE]) ∧
    (s.trcState = 0 ∨ 2 ≤ s.trcState ∧ s.get64 TRC_TRIG_TS_LO ≠ s.now → t = s)) ∧
  (∀ e s, s.trcState = 1 → s.get TRC_TRIG.SRC = 5 → s.get64 TRC_TTS_LO ≤ (s.advanceTo e).now →
    s.rst.inst = false → Completes (.traceTimedTrigger e) s fun t => t = traceTrigger 5 (s.advanceTo e)) ∧
  (∀ cause s, s.trcState = 1 → cause < 8 → ∃ u, traceTrigger cause s = traceFinish u ∧ u.trcState = 2 ∧ u.get TRC_STAT.CAUSE = cause ∧
    u.get64 TRC_TRIG_TS_LO = s.now ∧ u.get LPE_EVT.TRG = 1 ∧ u.pst.port = s.pst.port ++ [32 * kLPE + 2] ∧
    (∀ ch, ch < 8 → (u.trcCh ch).since = (if (s.trcCh ch).lastTs = some s.now then 1 else 0) ∧
      u.get (TRC_CH_TPTR.PTR ch) = (if (s.trcCh ch).lastTs = some s.now then (s.get (TRC_CH_WPTR.PTR ch) + 4095) % 4096
        else s.get (TRC_CH_WPTR.PTR ch))))

/-- O26 (derived; R260, R261, R262, R264, R265, R266, R267, R268, R270, R285, R286, R675). What markers, ARM, STOP,
RESCAN, the directory build, Timetable transfers and writes and an idle group leave. -/
def Obligations.ForecastCommandsComplete : Prop :=
  (∀ (m cp : Nat) (n : Nat) s, 0x8000 ≤ m → m < 2 ^ 16 → cp < 16 → ∃ t, t = markerIn m cp n s ∧ t.get TTB_LAST.MARKER = m ∧
    t.get TTB_LAST.CP = cp ∧ t.get TTB_LAST_TS.TS = n % 2 ^ 32 ∧ t.get TTB_CNT2.FREE = min (s.get TTB_CNT2.FREE + 1) 255 ∧ t.ttb = s.ttb ∧
    s.KeepsBits t [TTB_LAST.MARKER, TTB_LAST.CP, TTB_LAST_TS.TS, TTB_CNT2.FREE]) ∧
  (∀ (m cp n : Nat) s, m < 0x8000 → cp < 16 → s.ttb.queue.length < 16 → ∃ t, t = markerIn m cp n s ∧
    t.ttb.queue = s.ttb.queue ++ [⟨m, cp, n, s.outSetFor n⟩] ∧ t.ttb.lastFc = some n ∧
    t.get TTB_LAST.MARKER = m ∧ t.get TTB_LAST.CP = cp ∧ t.get TTB_LAST_TS.TS = n % 2 ^ 32 ∧
    s.KeepsBits t [TTB_LAST.MARKER, TTB_LAST.CP, TTB_LAST_TS.TS]) ∧
  (∀ (m cp n : Nat) s, m < 0x8000 → 16 ≤ s.ttb.queue.length →
    markerIn m cp n s = (if s.ttbState = 0 then s else if s.ttbState = 2 then enterLost (s.incSat TTB_CNT2.MDROP) else s.incSat TTB_CNT2.MDROP)) ∧
  (∀ e (cp : Fin 16) (m : BitVec 16) s, s.rst.inst = false → Completes (.marker e cp m) s fun t => ∃ u,
    u = groupCatch (s.advanceTo e).tim.edges (portCatch ((s.advanceTo e).tim.edges - 1) (s.advanceTo e)) ∧
    t.ttb.port = u.ttb.port ++ [⟨if u.locked then u.tim.edges else u.tim.edges + 1, cp.val, m.toNat⟩] ∧ { t with ttb := u.ttb } = u) ∧
  (∀ upto (p q : PortMarker) s, s.ttb.run = none → s.ttb.port = [p, q] → p.edge = q.edge → q.cp < p.cp → s.ttb.portEdge ≤ p.edge → p.edge ≤ upto →
    portNext upto s = markerIn q.marker q.cp (s.tsAtEdge p.edge) { s with ttb := { s.ttb with port := [p], portEdge := p.edge + 1 } }) ∧
  (∀ s, ∃ u, u = enterLost s ∧ u.ttbState = 3 ∧ u.get TTB_CUR.EXPECT = 0xFFFF ∧ u.get TTB_EVT.LOST = 1 ∧ u.ttb.acts = [] ∧ u.ttb.run = none ∧ u.tndr.notices = [] ∧
    u.get TTB_CNT1.LOST = min (s.get TTB_CNT1.LOST + 1) 255 ∧ u.pst.port = s.pst.port ++ [32 * kTTB + 0] ∧
    s.KeepsBits u [TTB_STAT.STATE, TTB_CUR.EXPECT, TTB_EVT.LOST, TTB_CNT1.LOST]) ∧
  (∀ e (lag : Fin 5) s, s.rst.inst = false → Completes (.markerHandle e lag) s fun t => ∃ u, u = ttbCatch (s.advanceTo e) ∧
    (∀ m rest, u.ttb.run = none → u.ttb.queue = m :: rest → ∃ b w, (b, w) = handleMarker (u.tim.edges + lag.val) m { u with ttb := { u.ttb with queue := rest } } ∧
      t = groupCatch w.tim.edges (w.putB TTB_LAST.MATCH b)) ∧
    ((u.ttb.run ≠ none ∨ u.ttb.queue = []) → t = u)) ∧
  (∀ edge m s, s.ttbState = 2 → m.marker = s.entMarker (s.get TTB_CUR.IDX) →
    handleMarker edge m s = (true, startGroup (s.get TTB_CUR.IDX) edge m s) ∧
    (startGroup (s.get TTB_CUR.IDX) edge m s).ttb.run = some ⟨s.get TTB_CUR.IDX, s.groupEnd (s.get TTB_CUR.IDX), edge, m⟩) ∧
  (∀ upto (r : GroupRun) s, s.ttb.run = some r → (upto < r.edge → groupCatch upto s = s) ∧
    (r.edge ≤ upto → r.last ≤ r.next + (upto - r.edge) → groupCatch upto s = groupDone r.last
      { (s.each (s.listedEntries.filter fun k => decide (r.next ≤ k) && decide (k ≤ r.last)) fun s k =>
          activateEntry r.marker.tm (s.tsAtEdge (r.edge + (k - r.next))) r.marker.snap k s) with
        ttb := { (s.each (s.listedEntries.filter fun k => decide (r.next ≤ k) && decide (k ≤ r.last)) fun s k =>
          activateEntry r.marker.tm (s.tsAtEdge (r.edge + (k - r.next))) r.marker.snap k s).ttb with run := none } })) ∧
  (∀ from_ m s, s.ttbState = 1 → handleMarker from_ m s = (false, s.incSat TTB_CNT2.MDROP)) ∧
  (∀ req s, s.Permits req TTB_CTRL 1 → (ttbCatch s).get TTB_DMA_CTRL.BUSY = 0 → Completes (.forecastArm req) s fun t => ∃ u, u = ttbCatch s ∧
    t.ttbState = 1 ∧ t.get TTB_CUR.EXPECT = 0xFFFF ∧ t.ttb.queue = [] ∧ t.ttb.acts = [] ∧ t.ttb.arming = true ∧ t.ttb.run = none ∧ t.ttb.olds = [] ∧
    t.tndr.notices = [] ∧ t.get TTB_CNT2.MDROP = min (u.get TTB_CNT2.MDROP + u.ttb.queue.length) 255 ∧
    u.KeepsBits t [TTB_STAT.STATE, TTB_CUR.EXPECT, TTB_CNT2.MDROP]) ∧
  (∀ req s, s.Permits req TTB_CTRL 1 → (ttbCatch s).get TTB_DMA_CTRL.BUSY = 1 → Completes (.forecastArm req) s fun t =>
    t.get TTB_EVT.ARM_REFUSED = 1 ∧ (ttbCatch s).Frame t [TTB_EVT.ARM_REFUSED]) ∧
  (∀ req s, s.Permits req TTB_CTRL 2 → Completes (.forecastStop req) s fun t => ∃ u, u = ttbCatch s ∧
    t.ttb.queue = [] ∧ t.ttb.arming = false ∧ t.ttbState = 0 ∧
    (u.ttbState ≠ 0 → t.get TTB_CUR.EXPECT = 0xFFFF ∧ t.ttb.acts = [] ∧ t.ttb.run = none ∧ t.tndr.notices = []) ∧
    u.KeepsBits t [TTB_STAT.STATE, TTB_CUR.EXPECT]) ∧
  (∀ req s, s.Permits req TTB_CTRL 4 → Completes (.rescan req) s fun t => t.get TTB_STAT.SCANNING = 1 ∧ t.ttb.olds = [] ∧
    (ttbCatch s).KeepsBits t [TTB_STAT.SCANNING] ∧ { t with regs := (ttbCatch s).regs, ttb := (ttbCatch s).ttb } = ttbCatch s) ∧
  (∀ e s, (ttbCatch (s.advanceTo e)).building = true → s.rst.inst = false → Completes (.directoryBuildDone e) s fun t => ∃ es u dir dup full,
    (es, u) = dirRead (ttbCatch (s.advanceTo e)) ∧
    (dir, dup, full) = dirBuild ((u.each (es.filter fun x => u.entUe x.1) fun s x => memUe 12 (16 * x.1) s).get TTB_RANGE.START)
      (es.filter fun x => !(u.each (es.filter fun x => u.entUe x.1) fun s x => memUe 12 (16 * x.1) s).entUe x.1) ∧
    t.ttb.dir = dir ∧ t.ttb.arming = false ∧ t.ttb.olds = [] ∧ t.get TTB_STAT.SCANNING = 0 ∧
    t.get TTB_STAT.DUP_SYNC = dup.toNat ∧ t.get TTB_STAT.DIR_FULL = full.toNat ∧ t.pst.port = (u.each (es.filter fun x => u.entUe x.1) fun s x => memUe 12 (16 * x.1) s).pst.port ++ [32 * kTTB + 7]) ∧
  (∀ req s, s.Permits req TTB_DMA_CTRL 1 → ∀ u, u = ttbCatch s → u.get TTB_DMA_CTRL.BUSY = 0 → u.get64 TTB_DMA_SRC_LO % 16 = 0 →
    u.get TTB_DMA_LEN.DST + u.ttbDmaCount ≤ 65536 → Completes (.ttbDmaStart req) s fun t =>
      t.get TTB_DMA_CTRL.BUSY = 1 ∧ t.get TTB_DMA_CTRL.GO = 1 ∧
      t.ttb = { u.ttb with dmaNext := u.get TTB_DMA_LEN.DST, dmaLeft := u.ttbDmaCount, dmaSrc := u.get64 TTB_DMA_SRC_LO } ∧
      u.KeepsBits t [TTB_DMA_CTRL.BUSY, TTB_DMA_CTRL.GO] ∧ { t with regs := u.regs, ttb := u.ttb } = u) ∧
  (∀ req s, s.Permits req TTB_DMA_CTRL 1 → ∀ u, u = ttbCatch s → u.get TTB_DMA_CTRL.BUSY = 0 →
    (u.get64 TTB_DMA_SRC_LO % 16 ≠ 0 ∨ 65536 < u.get TTB_DMA_LEN.DST + u.ttbDmaCount) → Completes (.ttbDmaStart req) s fun t =>
      t = ttbDmaEnd stBADPARAM u) ∧
  (∀ res s, res < 65536 → ∃ u, u = ttbDmaEnd res s ∧ u.get TTB_DMA_CTRL.RES = res ∧ u.get TTB_DMA_CTRL.BUSY = 0 ∧ u.get TTB_DMA_CTRL.GO = 0 ∧
    u.get TTB_EVT.DMA = 1 ∧ u.get TTB_STAT.SCANNING = 1 ∧ u.pst.port = s.pst.port ++ [32 * kTTB + 3] ∧
    s.KeepsBits u [TTB_DMA_CTRL.RES, TTB_DMA_CTRL.BUSY, TTB_DMA_CTRL.GO, TTB_EVT.DMA, TTB_STAT.SCANNING]) ∧
  (∀ e w0 w1 w2 w3 s, ∀ z, z = ttbCatch (dmaSlot (s.advanceTo e)) → z.get TTB_DMA_CTRL.BUSY = 1 → z.ttb.dmaLeft ≠ 0 →
    z.inLiveSpan z.ttb.dmaNext = false → z.get TTB_STAT.INIT_DONE = 1 →
    s.rst.inst = false → Completes (.ttbDmaEntryWrite e w0 w1 w2 w3) s fun t => ∃ u,
      u = putEntry z.ttb.dmaNext [(0, w0), (1, w1), (2, w2), (3, w3)] z ∧ t.regs = u.regs ∧
      t.ttb.dmaNext = z.ttb.dmaNext + 1 ∧ t.ttb.dmaLeft = z.ttb.dmaLeft - 1) ∧
  (∀ e s, ∀ z, z = ttbCatch (s.advanceTo e) → z.get TTB_DMA_CTRL.BUSY = 1 → z.ttb.dmaLeft = 0 →
    s.rst.inst = false → Completes (.ttbDmaDone e true) s fun t => t = ttbDmaEnd stOK z) ∧
  (∀ e s, ∀ z, z = ttbCatch (s.advanceTo e) → z.get TTB_DMA_CTRL.BUSY = 1 →
    s.rst.inst = false → Completes (.ttbDmaDone e false) s fun t => ∃ u, t = ttbDmaEnd stINTERNAL u ∧ u.regs = z.regs ∧
    u.cbse.pulses = z.cbse.pulses ++ [1] ∧ u.cbse.dma = z.cbse.dma.or (some (0, z.ttb.dmaSrc % 2 ^ 64))) ∧
  (∀ req (i : BitVec 16) (w : Fin 4) v s, s.Permits req (TTB_ENT i.toNat w.val) v → ∀ u, u = ttbCatch s → u.get TTB_STAT.INIT_DONE = 1 →
    Completes (.timetableWrite req i w v) s fun t =>
      (u.inLiveSpan i.toNat = true → t.get TTB_EVT.WR_LIVE = 1 ∧ u.Frame t [TTB_EVT.WR_LIVE]) ∧
      (u.inLiveSpan i.toNat = false → t = putEntry i.toNat [(w.val, v)] u)) ∧
  (∀ req (i : BitVec 16) (w : Fin 4) v s, s.Permits req (TTB_ENT i.toNat w.val) v → (ttbCatch s).get TTB_STAT.INIT_DONE = 0 →
    Completes (.timetableWrite req i w v) s fun t => t = ttbCatch s) ∧
  (∀ i w v s, s.building = false → (∀ o, s.memBad 12 o = false) → putEntry i [(w, v)] s = s.wr (TTB_ENT i w) v) ∧
  (∀ e s, s.rst.inst = false → Completes (.ttbInitDone e) s fun t => t.get TTB_STAT.INIT_DONE = 1 ∧ (s.advanceTo e).Frame t [TTB_STAT.INIT_DONE]) ∧
  (∀ e (g : GroupIx) s, s.rst.inst = false → Completes (.groupIdle e g) s fun t => ∃ z, z = s.advanceTo e ∧
    (z.issuedSince g.val (z.now + 1 - z.get TNDR_CFG.IDLE_WIN) = true → t = z) ∧
    (z.issuedSince g.val (z.now + 1 - z.get TNDR_CFG.IDLE_WIN) = false → t.tndr.idle.contains g.val = true ∧
      (∀ h, h ≠ g.val → t.tndr.idle.contains h = z.tndr.idle.contains h) ∧ { t with tndr := z.tndr } = z))

/-- O27 (derived; R303, R304, R306, R307, R309, R310, R311, R312, R313, R314, R315, R316). What a run tick, START, its
validation, STOP, CLEAR, an error and weight transfers of Outrider leave. -/
def Obligations.OutriderCommandsComplete : Prop :=
  (∀ e s, Completes (.outriderRunTick e) s fun t => (s.runTick (e.toNat / 100) = false → t = s) ∧
    (s.runTick (e.toNat / 100) = true → t = baseTick e ⟨[], [], [], []⟩ s)) ∧
  (∀ f s, (s.runTick f = false → odrPublish f s = s ∧ odrSample f s = s) ∧
    (∀ ws, s.runTick f = true → s.odr.run = some ws → odrPublish f s = publish ws s.now { s with odr := { s.odr with run := none } }) ∧
    (∀ w, s.runTick f = true → s.odrBad = some w → odrSample f s = odrFail (memUe 13 w s)) ∧
    (s.runTick f = true → s.odrBad = none → (odrSample f s).odr.run =
      some (s.odrRun (((List.range (s.get OUT_SHAPE.NIN)).map s.odrInput).map Prod.fst)).1)) ∧
  (∀ ws n s j, ws.length = 32 → j < 32 → (publish ws n s).rd (OUT_O j) = ws.getD j 0 ∧ (publish ws n s).odr.pubAt = n ∧
    (publish ws n s).get OUT_RUNCNT.COUNT = (s.get OUT_RUNCNT.COUNT + 1) % 2 ^ 32 ∧ (publish ws n s).get OUT_PUB_TS.TS = n % 2 ^ 32 ∧
    (publish ws n s).odr.before = (if s.odr.pubAt < n then s.outSet else s.odr.before)) ∧
  (∀ req v s, s.Permits req OUT_CTL ((v &&& ~~~7) ||| 1) → s.odrState = 0 → s.get OUT_STAT.VALIDATING = 0 → s.get OUT_STAT.INIT_DONE = 1 →
    s.get OUT_DMA_CTRL.BUSY = 0 → Completes (.outriderStart req v) s fun t => t = (storeReg OUT_CTL ((v &&& ~~~7) ||| 1) s).put OUT_STAT.VALIDATING 1) ∧
  (∀ e s, s.get OUT_STAT.VALIDATING = 1 → s.odrCheck = 0 → s.rst.inst = false → Completes (.outriderValidationDone e) s fun t =>
    t.odrState = 1 ∧ t.get OUT_STAT.RES = stOK ∧ t.get OUT_STAT.ERR_CAUSE = 0 ∧ t.get OUT_STAT.VALIDATING = 0 ∧ t.get OUT_EVT.STARTED = 1 ∧
    t.num OUT_CYC = s.odrCycles % 2 ^ 32 ∧ t.pst.port = s.pst.port ++ [32 * kODR + 0]) ∧
  (∀ e s, s.get OUT_STAT.VALIDATING = 1 → s.odrCheck ≠ 0 → s.odrCheck < 8 → s.rst.inst = false → Completes (.outriderValidationDone e) s fun t =>
    t.get OUT_STAT.RES = stBADPARAM ∧ t.get OUT_STAT.ERR_CAUSE = s.odrCheck ∧ t.get OUT_STAT.VALIDATING = 0 ∧ t.get OUT_EVT.STARTED = 1 ∧
    t.pst.port = s.pst.port ++ [32 * kODR + 0] ∧ s.KeepsBits t [OUT_STAT.RES, OUT_STAT.ERR_CAUSE, OUT_STAT.VALIDATING, OUT_EVT.STARTED]) ∧
  (∀ req v s, s.Permits req OUT_CTL ((v &&& ~~~7) ||| 2) → s.odrState = 1 → s.get OUT_STAT.VALIDATING = 0 →
    Completes (.outriderStop req v) s fun t => t = publishZero (odrRefuse s).nextEdge ((odrRefuse s).put OUT_STAT.STATE 0)) ∧
  (∀ req v s, s.Permits req OUT_CTL ((v &&& ~~~7) ||| 2) → s.odrState = 0 → s.get OUT_STAT.VALIDATING = 1 →
    Completes (.outriderStop req v) s fun t => t = odrStartEnd stBUSY (odrRefuse s)) ∧
  (∀ req v s, s.Permits req OUT_CTL ((v &&& ~~~7) ||| 4) → s.odrState = 2 → s.get OUT_STAT.VALIDATING = 0 →
    Completes (.outriderClear req v) s fun t => t.odrState = 0 ∧ (storeReg OUT_CTL ((v &&& ~~~7) ||| 4) s).Frame t [OUT_STAT.STATE]) ∧
  (∀ e s, s.odrState = 1 → s.rst.inst = false → Completes (.outriderError e) s fun t => ∃ z u, z = s.advanceTo e ∧ u = publishZero z.nextEdge (z.put OUT_STAT.STATE 2) ∧
    t.get OUT_EVT.ERROR = 1 ∧ t.pst.port = u.pst.port ++ [32 * kODR + 1] ∧ u.KeepsBits t [OUT_EVT.ERROR]) ∧
  (∀ req s, s.Permits req OUT_DMA_CTRL 1 → s.get OUT_DMA_CTRL.BUSY = 0 → s.odrState = 0 → s.get OUT_STAT.VALIDATING = 0 →
    s.get64 OUT_DMA_SRC_LO % 4 = 0 → s.get OUT_DMA_LEN.DST % 4 = 0 → s.get OUT_DMA_LEN.DST + 4 * s.odrDmaCount ≤ 65536 →
    Completes (.outriderDmaStart req) s fun t => t.get OUT_DMA_CTRL.BUSY = 1 ∧ t.get OUT_DMA_CTRL.GO = 1 ∧ t.odr.dmaLeft = s.odrDmaCount ∧
      t.odr.dmaDst = s.get OUT_DMA_LEN.DST ∧ t.odr.dmaSrc = s.get64 OUT_DMA_SRC_LO ∧
      s.KeepsBits t [OUT_DMA_CTRL.BUSY, OUT_DMA_CTRL.GO]) ∧
  (∀ req s, s.Permits req OUT_DMA_CTRL 1 → s.get OUT_DMA_CTRL.BUSY = 0 → s.odrState ≠ 0 → Completes (.outriderDmaStart req) s fun t =>
    t = odrDmaEnd stBUSY s) ∧
  (∀ e ws s, s.get OUT_DMA_CTRL.BUSY = 1 → ws.length = s.odr.dmaLeft → s.get OUT_STAT.INIT_DONE = 1 → s.rst.inst = false → Completes (.outriderDmaDone e ws true) s fun t =>
    ∃ u, u = memWritten 13 (OUT_WMEM 0) ((List.range ws.length).map fun i => 4 * (s.odr.dmaDst / 4 + i))
        ((s.advanceTo e).each ws.zipIdx fun z x => z.wr (OUT_WMEM (s.odr.dmaDst / 4 + x.2)) x.1) ∧
      t = odrDmaEnd stOK { u with odr := { u.odr with dmaLeft := 0 } }) ∧
  (∀ e ws s, s.get OUT_DMA_CTRL.BUSY = 1 → ws.length ≤ s.odr.dmaLeft → s.get OUT_STAT.INIT_DONE = 1 → s.rst.inst = false → Completes (.outriderDmaDone e ws false) s fun t =>
    ∃ u, u = memWritten 13 (OUT_WMEM 0) ((List.range ws.length).map fun i => 4 * (s.odr.dmaDst / 4 + i))
        ((s.advanceTo e).each ws.zipIdx fun z x => z.wr (OUT_WMEM (s.odr.dmaDst / 4 + x.2)) x.1) ∧
      t = odrDmaEnd stINTERNAL (dmaError 1 (s.odr.dmaSrc + 4 * ws.length) { u with odr := { u.odr with dmaLeft := 0 } })) ∧
  (∀ res s, res < 65536 → ∃ u, u = odrDmaEnd res s ∧ u.get OUT_DMA_CTRL.RES = res ∧ u.get OUT_DMA_CTRL.BUSY = 0 ∧ u.get OUT_DMA_CTRL.GO = 0 ∧
    u.get OUT_EVT.DMA = 1 ∧ u.pst.port = s.pst.port ++ [32 * kODR + 3] ∧
    s.KeepsBits u [OUT_DMA_CTRL.RES, OUT_DMA_CTRL.BUSY, OUT_DMA_CTRL.GO, OUT_EVT.DMA]) ∧
  (∀ e s, s.rst.inst = false → Completes (.outriderInitDone e) s fun t => t.get OUT_STAT.INIT_DONE = 1 ∧ (s.advanceTo e).Frame t [OUT_STAT.INIT_DONE])

/-- O28 (derived; R318, R320, R321, R322, R323, R324, R325, R327, R328, R330, R331, R332). What a delivered minimum, the
windows, escalation and the register writes of Skid leave. -/
def Obligations.SkidCommandsComplete : Prop :=
  (∀ e (n : RegionIx) (v : BitVec 11) (x : BitVec 14) cnt s, n.val ≠ 0 → s.rst.inst = false → Completes (.skidTrip e n ⟨v, x⟩ cnt) s fun t => ∃ z, z = s.advanceTo e ∧
    t = skidDecide n.val v.toNat (z.ts - 2).toNat (rampSeen n.val v.toNat (minvReplace n.val v.toNat x.toNat (z.ts - 2) (deliverMin n.val v.toNat cnt true z)))) ∧
  (∀ e (n : RegionIx) (v : BitVec 11) (x : BitVec 14) cnt s, n.val ≠ 0 → s.rst.inst = false → Completes (.skidReleaseStep e n ⟨v, x⟩ cnt) s fun t => ∃ z, z = s.advanceTo e ∧
    t = skidDecide n.val v.toNat (z.ts - 2).toNat (rampSeen n.val v.toNat (minvReplace n.val v.toNat x.toNat (z.ts - 2) (deliverMin n.val v.toNat cnt true z)))) ∧
  (∀ n v ts s, (countEdges s).skidActs n = false → skidDecide n v ts s = countEdges s) ∧
  (∀ n v ts dt s u, u = countEdges s → u.skidActs n = true → ((4 * v : Nat) : Int) < u.skidTrip n →
    dt = min (u.skidCfg n (SKID_CFG.DMAX n)) (((u.skidTrip n - ((4 * v : Nat) : Int)).toNat + 4 * u.skidCfg n (SKID_CFG.DSTEP n) - 1) / (4 * u.skidCfg n (SKID_CFG.DSTEP n))) →
    ∃ w, w = u.keepMax (SKID_PEAK.DEFICIT n) (min (u.skidTrip n - ((4 * v : Nat) : Int)).toNat 0xFFFF) ∧
      (u.get (SKID_RSTAT.DEPTH n) < dt → skidDecide n v ts s =
        skidSchedule n w.cks ts ((w.put (SKID_RSTAT.DEPTH n) dt).put (SKID_RSTAT.RELCNT n) 0)) ∧
      (dt ≤ u.get (SKID_RSTAT.DEPTH n) → skidDecide n v ts s = w.put (SKID_RSTAT.RELCNT n) 0)) ∧
  (∀ n v ts s u, u = countEdges s → u.skidActs n = true → u.skidTrip n + (4 * u.skidCfg n (SKID_CFG.HYST n) : Nat) ≤ ((4 * v : Nat) : Int) →
    0 < u.get (SKID_RSTAT.DEPTH n) →
    (u.skidCfg n (SKID_CFG.RELHOLD n) ≤ u.get (SKID_RSTAT.RELCNT n) + 1 → skidDecide n v ts s =
      skidSchedule n u.cks ts ((u.put (SKID_RSTAT.DEPTH n) (u.get (SKID_RSTAT.DEPTH n) - 1)).put (SKID_RSTAT.RELCNT n) 0)) ∧
    (u.get (SKID_RSTAT.RELCNT n) + 1 < u.skidCfg n (SKID_CFG.RELHOLD n) → skidDecide n v ts s =
      u.put (SKID_RSTAT.RELCNT n) (u.get (SKID_RSTAT.RELCNT n) + 1))) ∧
  (∀ n k ts s, (s.skidHid n).due = [] → ∀ q, q = max (s.get (SKID_RSTAT.DEPTH n)) (s.get (SKID_FORCE.DEPTH n)) →
    (skidSchedule n k ts s).regs = s.regs ∧ ((skidSchedule n k ts s).skidHid n).line = (s.skidHid n).line ∧
    ((skidSchedule n k ts s).skidHid n).due = (if q = (s.skidHid n).line then [] else [(k, q, ts)])) ∧
  (∀ n k q ts (s : State), s.rst.inst = false → s.locked = true → (s.skidHid n).due = [(k, q, ts)] →
    s.skidRequest n = (if k < s.cks then q else (s.skidHid n).line)) ∧
  (∀ n (s : State), (s.rst.inst = true ∨ s.locked = false) → s.skidRequest n = 0) ∧
  (∀ e (n : RegionIx) s, n.val ≠ 0 → s.rst.inst = false → Completes (.skidWindowEnd e n) s fun t =>
    (s.skidEnd n.val ≤ e.toNat → t = reinAll ((skidWindowEnd n.val (s.advanceTo (BitVec.ofNat 64 (s.skidEnd n.val)))).advanceTo e)) ∧
    (e.toNat < s.skidEnd n.val → t = reinAll (s.advanceTo e))) ∧
  (∀ n s u, u = countEdges s → (u.skidHid n).gap = false → u.get (SKID_RSTAT.LEVEL n) = 0 → ∃ w, w = skidWindowEnd n s ∧
    w.rd (SKID_DUTY n) = u.rd (SKID_DCUR n) ∧
    (w.skidHid n).win = u.get (SKID_WIN.WIN n) ∧ (w.skidHid n).rose = false ∧ (w.skidHid n).since = u.now ∧ (w.skidHid n).ahead = 0 ∧
    (w.skidHid n).gap = (decide (u.get (SKID_WIN.WIN n) ≠ (u.skidHid n).win) && decide (u.now % (800 * u.get (SKID_WIN.WIN n)) ≠ 0)) ∧
    w.num (SKID_DCUR n) = (if (w.skidHid n).gap then 0 else (u.skidHid n).ahead % 2 ^ 32) ∧
    (∀ a, a ≠ SKID_DUTY n → a ≠ SKID_DCUR n → w.rd a = u.rd a)) ∧
  (∀ e (n : RegionIx) s, n.val ≠ 0 → s.rst.inst = false → Completes (.skidEscalate e n) s fun t => t = reinAll (skidEscalate n.val (s.advanceTo e))) ∧
  (∀ n s u, u = countEdges s → u.skidActs n = true → u.get (SKID_WIN.ESC_EN n) = 1 → (u.skidHid n).rose = false → (u.skidHid n).gap = false →
    u.get (SKID_RSTAT.LEVEL n) < u.skidCap n →
    (u.skidDuty n (u.skidEsc n (SKID_ESC.TH n)) < u.num (SKID_DCUR n) → ∃ w, skidEscalate n s =
      (skidLevel n (u.get (SKID_RSTAT.LEVEL n) + 1) w).incSat (SKID_ESCCNT.RISES n) ∧ w.skidHid n = { u.skidHid n with rose := true } ∧ w.regs = u.regs) ∧
    (u.num (SKID_DCUR n) ≤ u.skidDuty n (u.skidEsc n (SKID_ESC.TH n)) → skidEscalate n s = u)) ∧
  (∀ req (n : RegionIx) v s, n.val ≠ 0 → s.Permits req (SKID_ESC n.val) v → Completes (.skidEscWrite req n v) s fun t => ∃ u, u = countEdges s ∧
    t = reinAll (skidEscWrite n.val v (u.setSkidHid n.val { u.skidHid n.val with
      escWas := some (u.cks, u.skidWord (u.skidHid n.val).escWas (SKID_ESC n.val)) }))) ∧
  (∀ req (n : RegionIx) v s, n.val ≠ 0 → s.Permits req (SKID_WIN n.val) v → Completes (.skidWinWrite req n v) s fun t =>
    t = reinAll (skidRecheck n.val (storeReg (SKID_WIN n.val) v (countEdges s)))) ∧
  (∀ req (n : RegionIx) v s, n.val ≠ 0 → s.Permits req (SKID_FORCE n.val) v → Completes (.skidForceWrite req n v) s fun t =>
    ∃ u, u = countEdges s ∧ t = skidSchedule n.val (u.cks + 1) u.now (storeReg (SKID_FORCE n.val) v u))

/-- O29 (derived; R358, R360, R364, R365, R367, R372, R376, R379, R380, R381, R389, R393). What operating-point checks,
moves, estimates, coefficients, cap windows, shares and Waybill intervals leave. -/
def Obligations.PowerPolicyCommandsComplete : Prop :=
  (∀ req v s, s.Permits req PWR_CTRL (v ||| 1) → s.inst = 0 → s.get PWR_CTRL.OP_EN = 0 → Completes (.opEnable req v) s fun t => ∃ u,
    u = storeReg PWR_CTRL (v ||| 1) s ∧ t.get PWR_CTRL.OP_EN = 0 ∧ t.pwr.checking = true ∧ u.KeepsBits t [PWR_CTRL.OP_EN, CPLR_ENV_TGT.I, PWR_STAT.L]) ∧
  (∀ e s, s.pwr.checking = true → (∀ n ∈ s.opRegions, s.opTableOk n = true) → s.rst.inst = false → Completes (.opValidationDone e) s fun t =>
    t.get PWR_CTRL.OP_EN = 1 ∧ t.pwr.checking = false ∧ s.KeepsBits t [PWR_CTRL.OP_EN]) ∧
  (∀ e n s, s.pwr.checking = true → n < 256 → (s.opRegions.find? fun n => !s.opTableOk n) = some n → s.rst.inst = false → Completes (.opValidationDone e) s fun t =>
    t.get PWR_STAT.OP_ERR = 1 ∧ t.get PWR_STAT.ERR_RGN = n ∧ t.get PWR_EVT.OPERR = 1 ∧ t.get PWR_CTRL.OP_EN = s.get PWR_CTRL.OP_EN ∧
    t.pwr.checking = false ∧ t.pst.port = s.pst.port ++ [32 * kPWR + 8] ∧ s.KeepsBits t [PWR_STAT.OP_ERR, PWR_STAT.ERR_RGN, PWR_EVT.OPERR]) ∧
  (∀ e (n : RegionIx) tt since s, (s.prgn n).move = some ⟨true, tt, since⟩ → s.profiled n = false → since + 800 ≤ (s.advanceTo e).now → tt < 16 →
    s.rst.inst = false → Completes (.moveUpComplete e n) s fun t => t.get (PWR_RGN_STAT.I n) = tt ∧ (t.prgn n).move = none ∧
      (s.get (PWR_OP.FMHZ n tt) ≠ 0 → t.get (PWR_FREQ.REQ n) = s.get (PWR_OP.FMHZ n tt) % 4096) ∧
      (s.get (PWR_OP.FMHZ n tt) = 0 → t.get (PWR_FREQ.REQ n) = s.get (PWR_FREQ.REQ n)) ∧
      s.KeepsBits t [PWR_RGN_STAT.I n, PWR_FREQ.REQ n, PWR_EVT.FREQ]) ∧
  (∀ req (n : RegionIx) v tt since u s, n.val ≠ 0 → s.Permits req (PWR_FREQ n) v → (s.prgn n).move = some ⟨false, tt, since⟩ →
    u = storeReg (PWR_FREQ n) v s → u.get (PWR_FREQ.ACK n) ≤ u.get (PWR_OP.FMHZ n tt) → tt < 16 → Completes (.freqAck req n v) s fun t => ∃ w,
      w = policyVset n tt (u.setPrgn n { s.prgn n with move := none }) ∧ t.get (PWR_RGN_STAT.I n) = tt ∧ t.get (PWR_RGN_STAT.PEND n) = 0 ∧
      w.Frame t [PWR_RGN_STAT.I n, PWR_RGN_STAT.PEND n]) ∧
  (∀ req (n : RegionIx) v tt since u s, n.val ≠ 0 → s.Permits req (PWR_FREQ n) v → (s.prgn n).move = some ⟨false, tt, since⟩ →
    u = storeReg (PWR_FREQ n) v s → u.get (PWR_OP.FMHZ n tt) < u.get (PWR_FREQ.ACK n) → Completes (.freqAck req n v) s fun t => t = u) ∧
  (∀ e (n : RegionIx) tt since s, (s.prgn n).move = some ⟨false, tt, since⟩ → since + 800 * s.get PWR_FACK.TO ≤ (s.advanceTo e).now →
    s.rst.inst = false → Completes (.freqAckTimeout e n) s fun t => t.get (PWR_RGN_STAT.FTO n) = 1 ∧ t.get PWR_EVT.FTO = 1 ∧
      t.pst.port = s.pst.port ++ [32 * kPWR + 4] ∧ t.pwrRgn = s.pwrRgn ∧ s.KeepsBits t [PWR_RGN_STAT.FTO n, PWR_EVT.FTO]) ∧
  (∀ e s, s.rst.inst = false → Completes (.powerEstimate e) s fun t => ∃ z, z = s.advanceTo e ∧ (z.boundaryDue 800 z.pwr.estAt = true → t = powerEstimate z) ∧
    (z.boundaryDue 800 z.pwr.estAt = false → t = z)) ∧
  (∀ s, ∃ z u, z = { s with pwr := { s.pwr with estAt := s.now } } ∧ powerEstimate s = u.each (u.pwrRgn.map Prod.fst) (fun s n => measureRegion n s) ∧
    u = (z.each ((z.listed (PWR_EST 0) 0x80 256).filter fun n => !z.workRegions.contains n) fun s n => s.put (PWR_EST.P n) 0).each
      z.workRegions fun s n => estimateRegion n s) ∧
  (∀ n s, s.regionPower n < 2 ^ 20 → (estimateRegion n s).get (PWR_EST.P n) = s.regionPower n ∧
    s.KeepsBits (estimateRegion n s) [PWR_EST.P n]) ∧
  (∀ e s, s.rst.inst = false → Completes (.calibrationSnapshot e) s fun t => ∃ z, z = s.advanceTo e ∧ (z.boundaryDue 8000000 z.pwr.calAt = true → t = calSnapshot z) ∧
    (z.boundaryDue 8000000 z.pwr.calAt = false → t = z) ∧
    (calSnapshot z).get PWR_EVT.CAL = 1) ∧
  (∀ req v s, s.Permits req PWR_CAL (v ||| 1) → Completes (.coeffCommit req v) s fun t => t = storeReg PWR_CAL (v ||| 1) s ∧
    t.get PWR_CAL.COMMIT = 1) ∧
  (∀ e s, s.rst.inst = false → Completes (.coeffCommitApply e) s fun t => ∃ z, z = s.advanceTo e ∧
    (z.boundaryDue 800 z.pwr.estAt = true ∨ z.pwr.estAt = z.now → t = coeffApply z) ∧
    (z.boundaryDue 800 z.pwr.estAt = false → z.pwr.estAt ≠ z.now → t = z)) ∧
  (∀ s, s.get PWR_CAL.COMMIT = 1 → ∃ t, t = coeffApply s ∧ t.get PWR_CAL.COMMIT = 0 ∧
    t.get PWR_CAL.CALGEN = (s.get PWR_CAL.CALGEN + 1) % 65536 ∧
    (∀ n, 1 ≤ n → n < 256 → t.rd (PWR_KL01 n) = s.rd (PWR_K01 n) ∧ t.rd (PWR_KL23 n) = s.rd (PWR_K23 n) ∧ t.rd (PWR_PSL n) = s.rd (PWR_PS n)) ∧
    (∀ a, a ≠ PWR_CAL → (∀ n, a ≠ PWR_KL01 n ∧ a ≠ PWR_KL23 n ∧ a ≠ PWR_PSL n) → t.rd a = s.rd a)) ∧
  (∀ e s, s.rst.inst = false → Completes (.capWindowBoundary e) s fun t => ∃ z, z = s.advanceTo e ∧ (z.boundaryDue 80000 z.pwr.capAt = true → t = capBoundary z) ∧
    (z.boundaryDue 80000 z.pwr.capAt = false → t = z)) ∧
  (∀ s, s.locked = false → ∃ t, t = capBoundary s ∧ t.regs = s.regs ∧ t.pwr.badCap = false ∧
    t.pwr.einCap = s.pwr.ein ∧ t.pwr.sumCap = s.pwr.sum ∧ t.pwr.capAt = s.now) ∧
  (∀ s, s.locked = true → ∃ u v, u = { s with pwr := { s.pwr with einCap := s.pwr.ein, sumCap := s.pwr.sum, badCap := false, capAt := s.now } } ∧
    v = takeShare (u.putOr PWR_SHARE.MEAS (windowPower (toSigned 64 (s.pwr.ein + 2 ^ 64 - s.pwr.einCap)) (s.pwr.sum - s.pwr.sumCap) s.pwr.badCap)) ∧
    capBoundary s = capStep (v.get PWR_SHARE.MEAS) (v.get PWR_SHARE.SHARE) { v with
      pwr := { v.pwr with due := true, sharesDue := true, got := [] },
      out := if v.inst = 0 then v.out else { v.out with reports := v.out.reports ++ [v.get PWR_SHARE.MEAS] } }) ∧
  (∀ e (k : Fin 4) (m : BitVec 16) s, s.inst = 0 → k.val ≠ 0 → s.rst.inst = false → Completes (.shareReport e k m) s fun t => ∃ z, z = s.advanceTo e ∧
    (z.now % 80000 ≤ 8000 → t.get (PWR_SHTAB.M k) = m.toNat ∧ mapGet 0 t.pwr.got k = m.toNat ∧ z.KeepsBits t [PWR_SHTAB.M k] ∧
      { t with regs := z.regs, pwr := z.pwr } = z) ∧
    (8000 < z.now % 80000 → t = z)) ∧
  (∀ e s, s.inst = 0 → s.pwr.sharesDue = true → s.rst.inst = false → Completes (.shareCompute e) s fun t => ∃ ms, ms.length = 4 ∧
    ms.getD 0 0 = s.get PWR_SHARE.MEAS ∧
    (∀ i, 1 ≤ i → i < 4 → ms.getD i 0 = ((s.pwr.got.find? fun x => x.1 == i).map (·.2)).getD (s.get PWR_PKG.SMIN)) ∧
    t.pwr.next = some ((sharesOf s.pkgCap (s.get PWR_PKG.SMIN) ms).getD 0 0) ∧ t.pwr.sharesDue = false ∧
    (t.out.shares.drop s.out.shares.length).map (fun x => (x.dest, x.share, x.cap)) =
      [1, 2, 3].map fun i => (i, (sharesOf s.pkgCap (s.get PWR_PKG.SMIN) ms).getD i 0, t.pkgCap)) ∧
  (∀ e (share cap : BitVec 16) (pkg bmc : Word) (envEn : Bool) (pg : Fin 16) s, s.inst ≠ 0 → s.rst.inst = false → Completes (.shareReceive e share cap pkg bmc envEn pg) s fun t =>
    t.pwr.next = some share.toNat ∧ t.pwr.missed = 0 ∧ t.get PWR_PKG_EFF.P = cap.toNat ∧ t.rd PWR_PKG = pkg ∧ t.rd PWR_PKG_BMC = bmc &&& 0xFFFF ∧
    t.get PWR_CTRL.ENV_EN = envEn.toNat ∧ t.get PWR_CTRL.PG = pg.val ∧ t.get PWR_STAT.SHARE_LOST = 0) ∧
  (∀ e (fail : Option (Fin 16)) s, s.rst.inst = false → Completes (.waybillIntervalEnd e fail) s fun t => ∃ z, z = s.advanceTo e ∧
    (z.boundaryDue z.ivlLength z.pwr.ivlStart = true → t = waybillEnd (fail.map (·.val)) z) ∧
    (z.boundaryDue z.ivlLength z.pwr.ivlStart = false → t = z)) ∧
  (∀ fail s, ∃ t, t = waybillEnd fail s ∧ t.wblGrp = [] ∧ t.pwr.carry = s.intervalEnergy.2 ∧
    t.pwr.badIvl = false ∧ t.pwr.capped = false ∧ t.pwr.unattain = false ∧ t.pwr.boost = false ∧ t.pwr.lost = false ∧ t.pwr.legs = 0)

/-- O30 (derived; R432, R437, R440, R441, R445, R450, R453, R454, R455, R456, R667, R668). What conversions, urgent
requests, reference changes, pair checks, window comparators and the pattern current leave. -/
def Obligations.SenseCommandsComplete : Prop :=
  (∀ e (k : Fin 4) (raw : BitVec 14) slot s, ∀ z, z = slotEnd k (s.advanceTo e) → (z.sconv k).cur = some slot → slot.ch < 64 → s.rst.inst = false → Completes (.conversionComplete e k raw) s fun t => ∃ u c o,
    c = z.snsCode k raw.toNat ∧ o = (raw.toNat == 0 || raw.toNat == 16383) ∧ u.get (SNS_RES.CODE k slot.ch) = c % 65536 ∧
    u.get (SNS_RES.SEQ k slot.ch) = (z.get (SNS_RES.SEQ k slot.ch) + 1) % 64 ∧ u.bit (SNS_RES.OVR k slot.ch) = o ∧
    u.get (SNS_CNT.COUNT k) = (z.get (SNS_CNT.COUNT k) + 1) % 2 ^ 32 ∧ (u.sconv k).cur = none ∧
    z.KeepsBits u [SNS_RES.CODE k slot.ch, SNS_RES.SEQ k slot.ch, SNS_RES.OVR k slot.ch, SNS_CNT.COUNT k] ∧
    t = convReport k slot.ch slot.start c o slot.urgent (senseUse k slot.ch c (senseCheck k slot.chk slot.start c u))) ∧
  (∀ e (k : Fin 4) raw s, (s.sconv k).cur = none → s.rst.inst = false → Completes (.conversionComplete e k raw) s fun t => t = s.advanceTo e) ∧
  (∀ req (k : Fin 4) (ch : BitVec 6) s, s.Permits req (SNS_URG k) (BitVec.ofNat 32 ch.toNat) → ch.toNat < snsChannels k → (s.sconv k).urg.length < 4 →
    Completes (.urgentRequest req k ch) s fun t => t.sconv k = { s.sconv k with urg := (s.sconv k).urg ++ [ch.toNat] } ∧
      t.get (SNS_URG.QD k) = (s.sconv k).urg.length + 1 ∧ (∀ j, j ≠ k.val → t.sconv j = s.sconv j) ∧
      s.KeepsBits t [SNS_URG.QD k] ∧ { t with regs := s.regs, snsConv := s.snsConv } = s) ∧
  (∀ req (k : Fin 4) (ch : BitVec 6) s, s.Permits req (SNS_URG k) (BitVec.ofNat 32 ch.toNat) →
    (snsChannels k ≤ ch.toNat → Completes (.urgentRequest req k ch) s fun t => t.get SNS_EVT.URG_BAD = 1 ∧ s.Frame t [SNS_EVT.URG_BAD]) ∧
    (ch.toNat < snsChannels k → 4 ≤ (s.sconv k).urg.length →
      Completes (.urgentRequest req k ch) s fun t => t.get SNS_EVT.URG_OVF = 1 ∧ s.Frame t [SNS_EVT.URG_OVF])) ∧
  (∀ req (k : Fin 4) v u s, s.Permits req (SNS_CFG k) v → u = storeReg (SNS_CFG k) v s → Completes (.snsRefWrite req k v) s fun t =>
    (u.rd (SNS_CFG k) = s.rd (SNS_CFG k) → t = u) ∧
    (u.rd (SNS_CFG k) ≠ s.rd (SNS_CFG k) → t.get SNS_STAT.SETTLED = clearBitN (s.get SNS_STAT.SETTLED) k ∧ u.KeepsBits t [SNS_STAT.SETTLED] ∧
      (t.sconv k).settle = some (u.now + if u.get (SNS_CFG.REF k) = 1 then 40000 else 16000))) ∧
  (∀ e (k : Fin 4) x s, ∀ z, z = s.advanceTo e → (z.sconv k).settle = some x → s.rst.inst = false → Completes (.refSettled e k) s fun t => ∃ y, y = z.advanceTo (BitVec.ofNat 64 x) ∧
    t.get SNS_STAT.SETTLED = setBitN (y.get SNS_STAT.SETTLED) k ∧ (t.sconv k).settle = none ∧
    t.get SNS_EVT.SETTLED = 1 ∧ t.pst.port = y.pst.port ++ [32 * kSNS + 10] ∧ y.KeepsBits t [SNS_STAT.SETTLED, SNS_EVT.SETTLED]) ∧
  (∀ e (k : Fin 4) s, (s.sconv k).settle = none → s.rst.inst = false → Completes (.refSettled e k) s fun t => t = s.advanceTo e) ∧
  (∀ e (p : Fin 2) f b s, pairFields p = (f, b) → s.get f = 0 → s.get SNS_CHK.NFAIL ≤ (s.sconv (2 * p.val)).dis → s.rst.inst = false → Completes (.pairFail e p) s fun t =>
    t.get f = 1 ∧ t.get b = (s.advanceTo e).pairBlame p ∧ t.get SNS_EVT.PLAUS = 1 ∧ t.cbse.pulses = s.cbse.pulses ++ [14] ∧
    t.pst.port = s.pst.port ++ [32 * kSNS + 8] ∧ s.KeepsBits t [f, b, SNS_EVT.PLAUS]) ∧
  (∀ e (p : Fin 2) f b s, pairFields p = (f, b) → s.get f = 1 → s.get SNS_CHK.NFAIL ≤ (s.sconv (2 * p.val)).agr → s.rst.inst = false → Completes (.pairRecover e p) s fun t =>
    t.get f = 0 ∧ t.get b = 0 ∧ t.get SNS_EVT.PLAUS = 1 ∧ t.pst.port = s.pst.port ++ [32 * kSNS + 8] ∧ s.KeepsBits t [f, b, SNS_EVT.PLAUS]) ∧
  (∀ k m a other start code d s, pairOf k m = some (a, other) → k ≠ other → k < 4 → (s.sconv other).pair = some (start, d) → ∃ t, t = pairCheck k m start code s ∧
    (s.apart code d = true → (t.sconv a).dis = min 15 ((s.sconv a).dis + 1) ∧ (t.sconv a).agr = 0) ∧
    (s.apart code d = false → (t.sconv a).dis = 0 ∧ (t.sconv a).agr = min 15 ((s.sconv a).agr + 1))) ∧
  (∀ e (w : Fin 64) s, s.get (SNS_WC_CFG.EN w) = 1 → s.get (SNS_WC_STAT.OUT w) = 0 → s.get (SNS_WC_CFG.FILT w) ≤ s.get (SNS_WC_STAT.FCNT w) →
    s.rst.inst = false → Completes (.windowExit e w) s fun t => t.get (SNS_WC_STAT.OUT w) = 1 ∧ t.bit (SNS_WC_STAT.HIGH w) = (s.scomp w).high ∧
      t.get (SNS_WC_STAT.FCNT w) = 0 ∧ (t.rd (if w.val < 32 then SNS_WEVT_LO else SNS_WEVT_HI)).getLsbD (w % 32) = true ∧
      t.pst.port = s.pst.port ++ [32 * kSNS + s.get (SNS_WC_CFG.ROUTE w)] ∧
      t.cbse.pulses = s.cbse.pulses ++ (if s.get (SNS_WC_CFG.CBSE w) = 1 then [15] else []) ∧
      s.KeepsBits t [SNS_WC_STAT.OUT w, SNS_WC_STAT.HIGH w, SNS_WC_STAT.FCNT w,
        ⟨if w.val < 32 then SNS_WEVT_LO else SNS_WEVT_HI, 31, 0⟩]) ∧
  (∀ e (w : Fin 64) s, s.get (SNS_WC_CFG.EN w) = 1 → s.get (SNS_WC_STAT.OUT w) = 1 → s.get (SNS_WC_CFG.FILT w) ≤ s.get (SNS_WC_STAT.FCNT w) →
    s.rst.inst = false → Completes (.windowReentry e w) s fun t => t.get (SNS_WC_STAT.OUT w) = 0 ∧ t.get (SNS_WC_STAT.FCNT w) = 0 ∧
      (s.get (SNS_WC_CFG.REENTRY w) = 0 → (s.advanceTo e).Frame t [SNS_WC_STAT.OUT w, SNS_WC_STAT.FCNT w]) ∧
      (s.get (SNS_WC_CFG.REENTRY w) = 1 → t.pst.port = s.pst.port ++ [32 * kSNS + s.get (SNS_WC_CFG.ROUTE w)])) ∧
  (∀ e (w : Fin 64) s, s.rst.inst = false → Completes (.windowDutyEnd e w) s fun t => ∃ z, z = s.advanceTo e ∧ t = compTo w z.now z) ∧
  (∀ w x s, (s.scomp w).since < x → s.get (SNS_WC_WIN.WIN w) = (s.scomp w).win → (s.scomp w).win ≠ 0 →
    ∀ k, k = x / (800 * (s.scomp w).win) - (s.scomp w).since / (800 * (s.scomp w).win) → ∃ t, t = compTo w x s ∧ (t.scomp w).since = x ∧
    (k = 0 → (t.scomp w).duty = (s.scomp w).duty ∧ t.regs = s.regs) ∧
    (k = 1 → t.get (SNS_WC_STAT.DUTY w) = min (s.scomp w).duty 0xFFFF ∧ (t.scomp w).duty = 0) ∧
    (1 < k → t.get (SNS_WC_STAT.DUTY w) = 0 ∧ (t.scomp w).duty = 0) ∧ s.KeepsBits t [SNS_WC_STAT.DUTY w]) ∧
  (∀ req (w : Fin 64) band v u s, s.Permits req (if band then SNS_WC_BAND w else SNS_WC_CFG w) v →
    u = storeReg (if band then SNS_WC_BAND w else SNS_WC_CFG w) v s → Completes (.windowConfigWrite req w band v) s fun t =>
    t.get (SNS_WC_STAT.OUT w) = 0 ∧ t.get (SNS_WC_STAT.FCNT w) = 0 ∧
    (u.get (SNS_WC_BAND.LO w) + 2 * u.get (SNS_WC_CFG.HYST w) ≤ u.get (SNS_WC_BAND.HI w) →
      u.Frame t [SNS_WC_STAT.OUT w, SNS_WC_STAT.FCNT w]) ∧
    (u.get (SNS_WC_BAND.HI w) < u.get (SNS_WC_BAND.LO w) + 2 * u.get (SNS_WC_CFG.HYST w) →
      t.rd (SNS_WC_BAND w) = s.rd (SNS_WC_BAND w) ∧ t.get (SNS_WC_CFG.HYST w) = s.get (SNS_WC_CFG.HYST w))) ∧
  (∀ req v s, s.Permits req SNS_PT_CTL v → Completes (.snsPtCtlWrite req v) s fun t =>
    (s.testCurrentBad v = false → t = storeReg SNS_PT_CTL v s) ∧
    (s.testCurrentBad v = true → t.get SNS_EVT.URG_BAD = 1 ∧ s.Frame t [SNS_EVT.URG_BAD]))

/-- O31 (derived; R460, R461, R462, R464, R465, R466, R471, R472, R473, R476). What demands, measurements, sweeps,
exclusions, the drain, DOWN, HARD and the clear leave. -/
def Obligations.ThermalCommandsComplete : Prop :=
  (∀ e s, s.rst.inst = false → Completes (.thermalGuard e) s fun t => t = thmGuard (s.advanceTo e)) ∧
  (∀ q s, s.get THM_GUARD.EN = 1 → s.locked = true → q < 64 → (s.tgrp q).pos = none → (s.tgrp q).pending = false → (s.tgrp q).demBy = 0 →
    s.thm.guardAt / (800 * s.thm.guard) ≠ s.now / (800 * s.thm.guard) →
    (thmGuard s).tgrp q = { s.tgrp q with pos := some 0, start := s.tim.edges + 1, fw := false, demAt := s.now, demBy := 1 }) ∧
  (∀ s, (s.get THM_GUARD.EN = 0 ∨ s.get THM_GUARD.PERIOD = s.thm.guard ∧ s.thm.guardAt / (800 * s.thm.guard) = s.now / (800 * s.thm.guard)) →
    (thmGuard s).thmGroup = s.thmGroup ∧ (thmGuard s).regs = s.regs) ∧
  (∀ req hi v m q s, s.Permits req (if hi then THM_DEM_HI else THM_DEM_LO) v → s.locked = true → m = (if hi then v.toNat * 2 ^ 32 else v.toNat) →
    (s.tgrp q).pos = none → (s.tgrp q).pending = false → (s.tgrp q).demBy = 0 → Completes (.thermalDemand req hi v) s fun t =>
      t.tgrp q = if q ∈ bitsOf m 64 then { s.tgrp q with pos := some 0, start := s.tim.edges + 1, fw := true, demAt := s.now, demBy := 4 } else s.tgrp q) ∧
  (∀ e (q : GroupIx) p s, ∀ y, y = thmMeasureTo q (s.advanceTo e) → (y.tgrp q).pos = some p → p < 8 → y.locked = true → s.rst.inst = false → Completes (.thermalMeasurement e q none) s fun t => ∃ x, x = 8 * q.val + p ∧
    t.get (THM_S.NOCNT x) = 1 ∧ t.get (THM_S.SEQ x) = (y.get (THM_S.SEQ x) + 1) % 64 ∧ (t.tgrp q).pos = some (p + 1) ∧
    t.tsen x = (if y.get (THM_SCTL.EXCL x) = 1 then y.tsen x else { y.tsen x with range := (y.tsen x).range + 1, raw := none, same := 0 }) ∧
    y.KeepsBits t [THM_S.NOCNT x, THM_S.SEQ x]) ∧
  (∀ e (q : GroupIx) p (raw : BitVec 32) (c : BitVec 16) z s, ∀ y, y = thmMeasureTo q (s.advanceTo e) → (y.tgrp q).pos = some p → p < 8 → y.locked = true →
    z = c.toInt + y.getI (THM_SCTL.OFS (8 * q.val + p)) → -32768 ≤ z → z ≤ 32767 →
    s.rst.inst = false → Completes (.thermalMeasurement e q (some (raw, c))) s fun t => ∃ x, x = 8 * q.val + p ∧
      t.getI (THM_S.TEMP x) = z ∧ t.get (THM_S.NOCNT x) = 0 ∧ t.get (THM_S.VALID x) = 1 ∧ (t.tgrp q).pos = some (p + 1) ∧
      t.get (THM_S.SEQ x) = (y.get (THM_S.SEQ x) + 1) % 64 ∧
      (y.get (THM_SCTL.EXCL x) = 0 → (t.tsen x).range = (if z < -640 ∨ 2400 < z then (y.tsen x).range + 1 else 0) ∧ (t.tsen x).raw = some raw.toNat) ∧
      y.KeepsBits t [THM_S.TEMP x, THM_S.NOCNT x, THM_S.VALID x, THM_S.SEQ x]) ∧
  (∀ e (q : GroupIx) s, (s.tgrp q).pos ≠ some 8 → s.rst.inst = false → Completes (.sweepEnd e q) s fun t => t = reinAll (s.advanceTo e)) ∧
  (∀ e (q : GroupIx) u v s, (s.tgrp q).pos = some 8 → u = (thmEvaluate q (thmExclusions q (s.advanceTo e))).incSat THM_CNT.SWEEPS →
    v = (if (u.tgrp q).fw then thmEvent THM_EVT.FWDONE 6 u else u) → s.rst.inst = false → Completes (.sweepEnd e q) s fun t =>
      t = reinAll (thmNextSweep q (if v.thmState = 1 then thmDemandAll 3 v else v))) ∧
  (∀ q s, (s.tgrp q).pos.isSome = true → (thmNextSweep q s).tgrp q =
    (if (s.tgrp q).pending then { s.tgrp q with pos := some 0, fw := (s.tgrp q).fwNext, pending := false, fwNext := false }
     else { s.tgrp q with pos := none, fw := false }) ∧ { thmNextSweep q s with thmGroup := s.thmGroup } = s) ∧
  (∀ req (x : Fin 512) v u s, s.Permits req (THM_SCTL x) v → u = storeReg (THM_SCTL x) (if s.bit (THM_SCTL.XCAUSE x) then v ||| (s.freshBits (THM_SCTL x) &&& 0x80000000) else v) s →
    Completes (.thermalSensorExclWrite req x v) s fun t =>
    (u.get (THM_SCTL.EXCL x) = s.get (THM_SCTL.EXCL x) → t = u) ∧
    (u.get (THM_SCTL.EXCL x) ≠ s.get (THM_SCTL.EXCL x) → t.tsen x = {} ∧
      (u.get (THM_SCTL.EXCL x) = 0 → t.get (THM_SCTL.XCAUSE x) = 0 ∧ u.KeepsBits t [THM_SCTL.XCAUSE x]) ∧
      (u.get (THM_SCTL.EXCL x) = 1 → t.regs = u.regs))) ∧
  (∀ e y z u s, y = s.advanceTo e → z = (if y.thmState = 1 then drainTo y else y) → z.thmState = 1 → z.thm.drained = false → z.sagOn = false → z.locked = true →
    u = { z with thm := { z.thm with drained := true } } → s.rst.inst = false → Completes (.dieDrained e) s fun t =>
      t = reinAll (u.each (u.listed (RGN_STAT 0) 0x100 256) fun s n => (rgnDisable n s).put (RGN_STAT.ENABLE_PENDING n) 0)) ∧
  (∀ e y z s, y = s.advanceTo e → z = (if y.thmState = 1 then drainTo y else y) → z.thmState ≠ 1 ∨ z.thm.drained = true → s.rst.inst = false → Completes (.dieDrained e) s fun t => t = reinAll z) ∧
  (∀ e z s, z = s.advanceTo e → z.thmState = 1 → z.thm.drained = true → z.sagOn = false → (∀ n ∈ z.liveRegions, z.rgnState n = rFAULTED) → s.rst.inst = false → Completes (.thermalDown e) s fun t => ∃ w,
    t = reinAll w ∧ w.get THM_STAT.STATE = 2 ∧ w.get THM_EVT.DOWN = 1 ∧ (z.fsState = 1 ∨ z.fsState = 2 → w.get XPH_STAT.STATE = 0 ∧ w.get XPH_STAT.PG = 0) ∧
    (z.fsState ≠ 1 → z.fsState ≠ 2 → z.KeepsBits w [THM_STAT.STATE, THM_EVT.DOWN] ∧ w.pst.port = z.pst.port ++ [32 * kTHM + 3])) ∧
  (∀ e y s, y = s.advanceTo e → y.thmState = 1 → s.rst.inst = false → Completes (.thermalHardTimeout e) s fun t => ∃ z w, z = y.advanceTo (BitVec.ofNat 64 (y.thm.sd + 1600000)) ∧ t = reinAll w ∧
    w.get THM_STAT.STATE = 3 ∧ w.get THM_EVT.DOWN = 1 ∧ w.pst.port = z.pst.port ++ [32 * kTHM + 3] ∧ z.KeepsBits w [THM_STAT.STATE, THM_EVT.DOWN]) ∧
  (∀ req v s, s.Permits req THM_CTRL v → fldGet v 0 0 = 1 → Completes (.thermalClear req v) s fun t =>
    (2 ≤ s.thmState ∧ (∀ q ∈ s.listed (THM_GSTAT 0) 0x20 64, s.get (THM_GSTAT.LEVEL q) ≠ 3) ∧
        (s.thmState = 3 → s.num CBSE_STATUS_LO &&& fatalMask &&& (2 ^ 32 - 1 - 2 ^ 19) = 0) →
      t.get THM_STAT.STATE = 0 ∧ s.Frame t [THM_STAT.STATE]) ∧
    (s.thmState < 2 ∨ (∃ q ∈ s.listed (THM_GSTAT 0) 0x20 64, s.get (THM_GSTAT.LEVEL q) = 3) →
      t.get THM_EVT.CLR_REFUSED = 1 ∧ s.Frame t [THM_EVT.CLR_REFUSED]))

/-- O32 (derived; R480, R481, R483, R484, R485, R486, R489, R491, R492, R495, R497, R499). What sampling the fault pins,
clearing status, forcing sources, memory errors and the scrubbers leave. -/
def Obligations.CabooseCommandsComplete : Prop :=
  (∀ e s, s.locked = false → s.rst.inst = false → Completes (.faultLatch e) s fun t => t = s.advanceTo e) ∧
  (∀ e (ls : List (Nat × Nat)) (u v w y s : State), s.locked = true → y = s.advanceTo e → ls = y.cbseLatches → u = latchStore ls y →
    v = u.each (latchOrder ls) (fun z b => recordLatch b (if b = 3 ∧ y.tim.unlockDue then y.tim.unlockTs.toNat else y.now) z) →
    w = (if (ls.any fun e => cbseClass e.1 == 1) && v.bit CBSE_CTRL.CE_IE then v.ring kCBSE 2 else v) → s.rst.inst = false → Completes (.faultLatch e) s fun t =>
    ((∀ x ∈ ls, cbseClass x.1 = 1) → t = w) ∧
    ((∀ x ∈ ls, cbseClass x.1 ≠ 3) → (∃ x ∈ ls, cbseClass x.1 = 2) → t = smbLatch w) ∧
    ((∃ x ∈ ls, cbseClass x.1 = 3) → ∃ ts, t = smbLatch (overrideBegins ts (w.ring kCBSE 1)))) ∧
  (∀ (ls : List (Nat × Nat)) (u s : State), (∀ x ∈ ls, x.1 < 43) → u = latchStore ls s →
    u.get64 CBSE_STATUS_LO = ls.foldl (fun m e => setBitN m e.1) s.cbseStatus % 2 ^ 64 ∧
    u.get64 CBSE_PIN_LO = s.cbse.pulses.foldl setBitN s.cbseLevels % 2 ^ 64 ∧ u.cbse.pulses = [] ∧ u.tim.unlockDue = false ∧
    (∀ b, b < 43 → b ∉ ls.map Prod.fst → u.rd (CBSE_CNT b) = s.rd (CBSE_CNT b))) ∧
  (∀ req hi v new ask u s, s.Permits req (if hi then CBSE_STATUS_HI else CBSE_STATUS_LO) v →
    new = (s.freshBits CBSE_STATUS_LO).toNat + 2 ^ 32 * (s.freshBits CBSE_STATUS_HI).toNat →
    ask = ((if hi then v.toNat * 2 ^ 32 else v.toNat) &&& s.cbseStatus) - (((if hi then v.toNat * 2 ^ 32 else v.toNat) &&& s.cbseStatus) &&& new) →
    u = statusDrop ask (ask &&& s.clearPins) s →
    Completes (.statusClear req hi v) s fun t =>
      t = if s.overrideOn && !u.overrideOn then reinAll (releaseCells (u.listed (CELL_STAT 0) 0x40 3072) u) else u) ∧
  (∀ ask up (u s : State), u = statusDrop ask up s → u.get64 CBSE_STATUS_LO = (s.cbseStatus - (ask - up)) % 2 ^ 64 ∧
    (up = 0 → u.get CBSE_STAT.CLR_REFUSED = s.get CBSE_STAT.CLR_REFUSED) ∧ (up ≠ 0 → u.get CBSE_STAT.CLR_REFUSED = 1) ∧
    u.get CBSE_FIRST.OPEN = (if (bitsOf u.cbseStatus cbseBits).any (fun b => cbseClass b != 1) then s.get CBSE_FIRST.OPEN else 0) ∧
    s.KeepsRegs u (fun a => a ∈ [CBSE_STATUS_LO, CBSE_STATUS_HI, CBSE_STAT, CBSE_FIRST])) ∧
  (∀ req hi v s, s.Permits req (if hi then CBSE_FORCE_HI else CBSE_FORCE_LO) v → Completes (.forceWrite req hi v) s fun t =>
    t.rd (if hi then CBSE_FORCE_HI else CBSE_FORCE_LO) = (if hi then v &&& 0x7FF else v) ∧
    s.Frame t [⟨if hi then CBSE_FORCE_HI else CBSE_FORCE_LO, 31, 0⟩]) ∧
  (∀ e (m : MemIx) (off : BitVec 20) s, s.rst.inst = false → Completes (.memoryCorrectedError e m off) s fun t =>
    t.get (CBSE_MEM_CNT.CE m) = min (s.get (CBSE_MEM_CNT.CE m) + 1) 0xFFFF ∧ t.num (CBSE_CE_ADDR m) = off.toNat % memSize m / 8 * 8 ∧
    t.cbse.pulses = s.cbse.pulses ++ [42] ∧ s.KeepsBits t [CBSE_MEM_CNT.CE m, CBSE_CE_ADDR.V m]) ∧
  (∀ e (m : MemIx) (off : BitVec 20) o fabric s, o = off.toNat % memSize m → s.rst.inst = false → Completes (.memoryUncorrectableError e m off fabric) s fun t =>
    t.get (CBSE_MEM_CNT.UE m) = min (s.get (CBSE_MEM_CNT.UE m) + 1) 0xFFFF ∧ t.num (CBSE_UE_ADDR m) = o / 8 * 8 ∧
    (m.val, o / 8 * 8) ∈ t.cbse.bad ∧ (∀ x, x ≠ (m.val, o / 8 * 8) → (x ∈ t.cbse.bad ↔ x ∈ s.cbse.bad)) ∧
    t.cbse.pulses = s.cbse.pulses ++ [memSource m] ∧ t.rdata = (if fabric then [0xFFFFFFFF] else s.rdata) ∧
    s.KeepsBits t [CBSE_MEM_CNT.UE m, CBSE_UE_ADDR.V m]) ∧
  (∀ e (m : MemIx) (found : Fin 3) o next int was due u z s, z = scrubTo m (s.advanceTo e) → z.get CBSE_SCRUB.EN = 1 → z.locked = true →
    o = mapGet 0 z.cbse.scrub m → next = (if memSize m ≤ o + 8 then 0 else o + 8) →
    int = z.get CBSE_SCRUB.INT → was = mapGet 0 z.cbse.scrubAt m → due = (if z.tim.edges ≤ was + int then was else z.tim.edges) + int →
    u = { z with cbse := { z.cbse with scrub := mapSet 0 z.cbse.scrub m next, scrubAt := mapSet 0 z.cbse.scrubAt m due } } →
    s.rst.inst = false → Completes (.scrubRead e m found) s fun t => ∃ v, v = (if next = 0 then u.addWrap (CBSE_PASS.V m) 1 else u) ∧
      (found.val = 0 → z.memBad m o = false → t = v) ∧ (found.val = 1 → z.memBad m o = false → t = memCe m o v) ∧
      (found.val = 2 ∨ z.memBad m o = true → t = memUe m o v)) ∧
  (∀ e (m : MemIx) found z s, z = scrubTo m (s.advanceTo e) → z.get CBSE_SCRUB.EN = 0 ∨ z.locked = false →
    s.rst.inst = false → Completes (.scrubRead e m found) s fun t => t = z) ∧
  (∀ (m : MemIx) (s : State), (s.get CBSE_SCRUB.EN = 0 ∨ s.locked = false ∨ mapGet 0 s.cbse.scrubAt m ≤ s.tim.edges → scrubTo m s = s) ∧
    (s.get CBSE_SCRUB.EN = 1 → s.locked = true → s.tim.edges < mapGet 0 s.cbse.scrubAt m →
      scrubTo m s = s.passEdges (mapGet 0 s.cbse.scrubAt m - s.tim.edges)))

/-- O33 (derived; R507, R508, R509, R510, R511, R513, R516, R518, R519, R520, R525, R526). What Freeze requests,
captures, unloads, the exports, ageing windows and end-of-life words leave. -/
def Obligations.TelemetryCommandsComplete : Prop :=
  (∀ req v u s, s.Permits req TLM_FRZ_CTRL (v ||| 1) → u = frzCtrlWrite ((v ||| 1) &&& 0xFFFFFFFE) s → Completes (.freezeLocal req v) s fun t =>
    (u.get TLM_FRZ_STAT.BUSY = 1 → t.get TLM_FRZ_STAT.REFUSED = 1 ∧ t.get TLM_EVT.LOSS = 1 ∧ t.pst.port = u.pst.port ++ [32 * kTLM + 4] ∧
      u.KeepsBits t [TLM_FRZ_STAT.REFUSED, TLM_EVT.LOSS]) ∧
    (u.get TLM_FRZ_STAT.BUSY = 0 → u.locked = false → t = { u with tlm := { u.tlm with localDue := true } }) ∧
    (u.get TLM_FRZ_STAT.BUSY = 0 → u.locked = true → t = freezeCapture (u.advanceTo (u.ts + 1)).armedDue (u.advanceTo (u.ts + 1)))) ∧
  (∀ timed (u s : State), u = seaCatch (rippleCatch (countEdges s)) → (freezeCapture timed s).num TLM_FRZ_NUM = (u.num TLM_FRZ_NUM + 1) % 2 ^ 32 ∧
    (freezeCapture timed s).get64 TLM_FRZ_TS_LO = u.now % 2 ^ 64 ∧ (freezeCapture timed s).get TLM_FRZ_STAT.BUSY = 1 ∧
    (freezeCapture timed s).tlm.localDue = false ∧ (timed = true → (freezeCapture timed s).tlm.armed = none) ∧
    (freezeCapture timed s).tlm.run.isSome = true) ∧
  (∀ req v s, s.Permits req TLM_FRZ_CTRL (v ||| 2) → v.getLsbD 0 = false → v.getLsbD 2 = false → Completes (.freezeArm req v) s fun t =>
    t.get TLM_FRZ_STAT.ARMED = 1 ∧ t.tlm.armed = some (s.get64 TLM_FRZ_AT_LO) ∧ t.tlm.late = decide (s.get64 TLM_FRZ_AT_LO ≤ s.now) ∧
    t.get TLM_FRZ_CTRL.TAG = fldGet v 31 16 ∧ t.get TLM_FRZ_CTRL.EXPORT = fldGet v 8 8 ∧
    s.KeepsBits t [TLM_FRZ_STAT.ARMED, TLM_FRZ_CTRL.TAG, TLM_FRZ_CTRL.EXPORT]) ∧
  (∀ req v s, s.Permits req TLM_FRZ_CTRL (v ||| 4) → v.getLsbD 0 = false → Completes (.freezeDisarm req v) s fun t =>
    t.get TLM_FRZ_STAT.ARMED = 0 ∧ t.tlm.armed = none ∧ t.tlm.late = false ∧ s.KeepsBits t [TLM_FRZ_STAT.ARMED, TLM_FRZ_CTRL.TAG, TLM_FRZ_CTRL.EXPORT]) ∧
  (∀ (s : State), (s.tlm.armed = none → armedTo s = s) ∧ (∀ ts, s.tlm.armed = some ts → armedTo s = s.advanceTo (BitVec.ofNat 64 ts)) ∧
    (s.tlm.run = none → unloadTo s = s) ∧ (∀ r, s.tlm.run = some r →
      (s.locked = true → s.tim.edges < r.edge + 5280 → unloadTo s = s.passEdges (r.edge + 5280 - s.tim.edges)) ∧
      (s.locked = false ∨ r.edge + 5280 ≤ s.tim.edges → unloadTo s = s))) ∧
  (∀ e z s, z = armedTo (s.advanceTo e) → s.rst.inst = false → Completes (.freezeTimedCapture e) s fun t =>
    (z.armedDue = false ∨ z.locked = false → t = z) ∧
    (z.armedDue = true → z.locked = true → z.get TLM_FRZ_STAT.BUSY = 0 → t = freezeCapture true z) ∧
    (z.armedDue = true → z.locked = true → z.get TLM_FRZ_STAT.BUSY = 1 → t.get TLM_FRZ_STAT.ARMED = 0 ∧ t.get TLM_FRZ_STAT.MISSED = 1 ∧
      t.get TLM_EVT.LOSS = 1 ∧ t.tlm.armed = none ∧ z.KeepsBits t [TLM_FRZ_STAT.ARMED, TLM_FRZ_STAT.MISSED, TLM_EVT.LOSS])) ∧
  (∀ e z s, z = unloadTo (s.advanceTo e) → (z.tlm.run = none ∨ ∃ r, z.tlm.run = some r ∧ z.tim.edges < r.edge + 5280) →
    s.rst.inst = false → Completes (.freezeUnloadDone e) s fun t => t = z) ∧
  (∀ e r (s w : State), s = unloadTo (w.advanceTo e) → s.tlm.run = some r → r.edge + 5280 ≤ s.tim.edges →
    w.rst.inst = false → Completes (.freezeUnloadDone e) w fun t => t.tlm.run = none ∧ t.tlm.exporting = r.exports ∧ t.get TLM_EVT.FRZ = 1 ∧
    (r.exports = false → t.get TLM_FRZ_STAT.BUSY = 0) ∧ t.pst.port = s.pst.port ++ [32 * kTLM + 0] ∧
    (∀ i, i < 80 → t.rd (TLM_SHADOW (256 * i)) = BitVec.ofNat 32 (2 * s.num TLM_FRZ_NUM))) ∧
  (∀ e fail s, s.tlm.exporting = false → s.rst.inst = false → Completes (.ringExportDone e fail) s fun t => t = s.advanceTo e) ∧
  (∀ e fail s, s.tlm.exporting = true → s.rst.inst = false → Completes (.ringExportDone e fail) s fun t =>
    t.tlm.exporting = false ∧ t.get TLM_FRZ_STAT.BUSY = 0 ∧ t.get TLM_EVT.RING = 1) ∧
  (∀ req v u s, s.Permits req TLM_TRX_CTRL (v ||| 1) → u = (s.put TLM_TRX_CTRL.CHMASK (fldGet (v ||| 1) 15 8)).put TLM_TRX_CTRL.AUTO (fldGet (v ||| 1) 1 1) →
    Completes (.traceExportStart req v) s fun t =>
    (s.get TLM_TRX_CTRL.BUSY = 1 → t.get TLM_TRX_CTRL.RES = stBUSY ∧ t.get TLM_EVT.TRX = 1 ∧ u.KeepsBits t [TLM_TRX_CTRL.RES, TLM_EVT.TRX]) ∧
    (s.get TLM_TRX_CTRL.BUSY = 0 → (s.trcState = 1 ∨ s.trcState = 2) → t.get TLM_TRX_CTRL.RES = stNOTREADY ∧ t.get TLM_TRX_CTRL.BUSY = 0 ∧
      t.get TLM_TRX_CTRL.GO = 0 ∧ t.get TLM_EVT.TRX = 1) ∧
    (s.get TLM_TRX_CTRL.BUSY = 0 → s.trcState ≠ 1 → s.trcState ≠ 2 → t.get TLM_TRX_CTRL.BUSY = 1 ∧ t.get TLM_TRX_CTRL.GO = 1 ∧
      u.KeepsBits t [TLM_TRX_CTRL.BUSY, TLM_TRX_CTRL.GO])) ∧
  (∀ e fail s, s.get TLM_TRX_CTRL.BUSY = 0 → s.rst.inst = false → Completes (.traceExportDone e fail) s fun t => t = s.advanceTo e) ∧
  (∀ e s, s.get TLM_TRX_CTRL.BUSY = 1 → s.tlm.armDue = false → s.rst.inst = false → Completes (.traceExportDone e none) s fun t =>
    t.get TLM_TRX_CTRL.RES = stOK ∧ t.get TLM_TRX_CTRL.BUSY = 0 ∧ t.get TLM_TRX_CTRL.GO = 0 ∧ t.get TLM_EVT.TRX = 1 ∧
    t.out.host = s.out.host ++ [⟨s.tlm.trxBase % 2 ^ 64, (bitsOf s.tlm.trxMask 8).flatMap s.traceBlock⟩] ∧
    s.KeepsBits t [TLM_TRX_CTRL.RES, TLM_TRX_CTRL.BUSY, TLM_TRX_CTRL.GO, TLM_EVT.TRX]) ∧
  (∀ e ties z u n s, z = ageTo (s.advanceTo e) → u = seaCatch z → n = (u.cks - u.tlm.ageAt) / 65536 → s.rst.inst = false → Completes (.ageWindowEnd e ties) s fun t =>
    (n = 0 → t = u) ∧ (n ≠ 0 → t.tlm.ageAt = u.tlm.ageAt + 65536 * n ∧ t.tlm.age = (if n = 1 then u.tlm.ageNext else []) ∧ t.tlm.ageNext = [] ∧
      t.regs = (u.each (u.busyCells.filter fun c => u.cellState c == cACTIVE) fun s c => ageCell c (mapGet {} s.tlm.age c) (ties.getD c 0).val s).regs)) ∧
  (∀ (c : CellIx) (a : AgeAcc) tie s, a.n < 4096 → a.k = 0 → (ageCell c a tie s).get (AGE_CELL0.NSAMP c) = a.n / 16 ∧ s.Frame (ageCell c a tie s) [AGE_CELL0.NSAMP c]) ∧
  (∀ (c : CellIx) (a : AgeAcc) tie v s, 4096 ≤ a.n → a.n ≤ 65536 → a.k = 0 → a.bare = false → a.den ≠ 0 → v = (1024 * a.num / a.den).floor →
    0 ≤ v → v < 65536 → (ageCell c a tie s).get (AGE_CELL0.NSAMP c) = a.n / 16 ∧ ((ageCell c a tie s).get (AGE_CELL0.RHO c) : Int) = v ∧
    s.Frame (ageCell c a tie s) [AGE_CELL0.NSAMP c, AGE_CELL0.RHO c]) ∧
  (∀ (c : CellIx) (a : AgeAcc) tie top js j m w s, a.n < 4096 → a.k ≠ 0 → top = (a.d.map Int.natAbs).foldl max 0 →
    js = (List.range 4).filter (fun j => (a.d.getD j 0).natAbs == top) → j = js.getD (tie % js.length) 0 →
    (m, w) = (s.put (AGE_CELL0.NSAMP c) (a.n / 16)).roundOpen (64 * a.d.getD j 0) a.k →
    (ageCell c a tie s).get (AGE_CELL1.J c) = j % 4 ∧ (ageCell c a tie s).getI (AGE_CELL1.SDRIFT c) = satS 16 m ∧
    (ageCell c a tie s).get (AGE_CELL0.NSAMP c) = a.n / 16) ∧
  (∀ req rg (ix : CellIx) v a u s, (rg = true → 1 ≤ ix.val ∧ ix.val < 256) → a = (if rg then AGE_RGN3 ix else AGE_CELL3 ix) → s.Permits req a v →
    u = storeReg a v s → Completes (.eolWrite req rg ix v) s fun t =>
    (s.get AGE_CTRL.ALARM ≤ fldGet (s.rd a) 15 0 ∧ fldGet (u.rd a) 15 0 < s.get AGE_CTRL.ALARM →
      t.get AGE_CTRL.EVT = 1 ∧ t.cbse.pulses = s.cbse.pulses ++ [25] ∧ t.pst.port = s.pst.port ++ [32 * kAGE + 0] ∧ u.KeepsBits t [AGE_CTRL.EVT]) ∧
    (¬ (s.get AGE_CTRL.ALARM ≤ fldGet (s.rd a) 15 0 ∧ fldGet (u.rd a) 15 0 < s.get AGE_CTRL.ALARM) → t = u))

/-- O34 (derived; R400, R401, R402, R404, R406, R407, R408, R410). What epochs, routes, HELLO, HB and the SYNC exchange
do to endpoints and to the member time offset. -/
def Obligations.CouplerTimeAndTrainingCommandsComplete : Prop :=
  (∀ e z s, z = s.advanceTo e → s.rst.inst = false → Completes (.epochBoundary e) s fun t =>
    (z.boundaryDue 800000 z.cplr.epochAt = true → t = reinAll (hravgEpoch (cplrEpoch z))) ∧
    (z.boundaryDue 800000 z.cplr.epochAt = false → t = reinAll z)) ∧
  (∀ e s, (s.cep e).hb = true → epochEnd e s = s.setCep e { s.cep e with hb := false }) ∧
  (∀ e s, (s.cep e).hb = false → e < 20 → (s.get (CPLR_EP_STAT.PRESENT e) = 0 ∨ min (s.get (CPLR_EP_STAT.MISS e) + 1) 15 < s.get CPLR_CTRL.HB_MISS) →
    (epochEnd e s).get (CPLR_EP_STAT.MISS e) = min (s.get (CPLR_EP_STAT.MISS e) + 1) 15 ∧
    State.Frame (s.setCep e { s.cep e with run := 0 }) (epochEnd e s) [CPLR_EP_STAT.MISS e]) ∧
  (∀ e s u, (s.cep e).hb = false → e < 20 → s.get (CPLR_EP_STAT.PRESENT e) = 1 → s.get CPLR_CTRL.HB_MISS ≤ min (s.get (CPLR_EP_STAT.MISS e) + 1) 15 →
    u = (s.setCep e { s.cep e with run := 0 }).put (CPLR_EP_STAT.MISS e) (min (s.get (CPLR_EP_STAT.MISS e) + 1) 15) → epochEnd e s = peerAbsent e u) ∧
  (∀ e (k : Nat) s u, u = s.advanceTo e → s.inst ≠ 0 → s.get CPLR_CTRL.EN = 1 → k = (u.now + 400000) / 800000 → s.rst.inst = false → Completes (.epochPulse e) s fun t =>
    t = applyTheta ((u.now : Int) - 800000 * k - (s.get CPLR_SB.SBDLY : Nat)) u) ∧
  (∀ (th : Int) s u, u = ((s.put CPLR_OFS.VALID 1).putI CPLR_OFS.THETA (satS 16 th)).putB TIM_STAT.TS_ALIGNED (decide (-80 ≤ th ∧ th ≤ 80)) →
    -1 ≤ th → th ≤ 1 → (s.get TIM_STAT.CKA_SRC = 2 → applyTheta th s = u) ∧ (s.get TIM_STAT.CKA_SRC ≠ 2 → applyTheta th s = u.put TIM_STAT.TS_DEGRADED 0)) ∧
  (∀ (th : Int) s u, u = ((s.put CPLR_OFS.VALID 1).putI CPLR_OFS.THETA (satS 16 th)).put TIM_STAT.TS_ALIGNED 0 →
    (th ≤ -800 → applyTheta th s = tsAdjWrite (BitVec.ofNat 32 (65536 + (min (-th) 32767).toNat)) u) ∧
    (-800 < th → th < -80 → applyTheta th s = tsAdjWrite (BitVec.ofNat 32 (-th).toNat) u) ∧
    (80 < th → th ≤ 32768 → applyTheta th s = tsAdjWrite (BitVec.ofNat 32 (65536 - th.toNat)) u)) ∧
  (∀ e (x : Fin 17) s u, u = (s.advanceTo e).setCep x { s.cep x with up := true } → Completes (.linkUp e x) s fun t =>
    (s.rst.inst = false → t = sendHello x u) ∧ (s.rst.inst = true → t = u)) ∧
  (∀ e (x : Fin 17) s u, u = (s.advanceTo e).setCep x { s.cep x with up := false } → Completes (.linkDown e x) s fun t => t = u ∧ t.trained x = false) ∧
  (∀ e (k : Fin 3) up s u, u = (s.advanceTo e).setCep (17 + k) { s.cep (17 + k) with up := up } → Completes (.sidebandEndResetChange e k up) s fun t =>
    t = u ∧ t.trained (17 + k) = (!s.rst.inst && up)) ∧
  (∀ (x : Nat) (s : State), x < 17 → s.epoch ≥ 4 → ((s.cep x).helloIn = none ∨ (s.cep x).helloIn = some (s.epoch - 4)) → s.trained x = false) ∧
  (∀ (x a b : Nat) (s : State), s.rst.inst = false → (s.cep x).up = true → (s.cep x).helloIn = some a → (s.cep x).helloOut = some b →
    s.epoch < a + 4 → s.epoch < b + 4 → s.trained x = true) ∧
  (∀ e (x : Fin 20) s, s.get CPLR_CTRL.EN = 1 → s.epRole x ≠ 0 → s.rst.inst = false → Completes (.hello e x) s fun t =>
    t = (s.advanceTo e).setCep x { s.cep x with helloIn := some (s.advanceTo e).epoch }) ∧
  (∀ e (x : Fin 20) s u v, u = (s.advanceTo e).setCep x { s.cep x with hb := true, run := if (s.cep x).hb then (s.cep x).run else (s.cep x).run + 1 } →
    v = u.put (CPLR_EP_STAT.MISS x) 0 → s.get CPLR_CTRL.EN = 1 → s.epRole x ≠ 0 → s.rst.inst = false → Completes (.hb e x) s fun t =>
      (s.get (CPLR_EP_STAT.PRESENT x) = 0 ∧ 2 ≤ (u.cep x).run → t = reinAll (peerReturn x v)) ∧
      (s.get (CPLR_EP_STAT.PRESENT x) = 1 ∨ (u.cep x).run < 2 → t = reinAll v)) ∧
  (∀ (x : Nat) ws s, (s.cplrOn = true → s.trained x = true → cplrSend x ws s = { s with out := { s.out with msgs := s.out.msgs ++ [⟨some x, ws⟩] } }) ∧
    (s.cplrOn = false ∨ s.trained x = false → cplrSend x ws s = s)) ∧
  (∀ e (x : Fin 20) (t1 : Dword) turn s u, u = s.advanceTo e → s.get CPLR_CTRL.EN = 1 → s.epRole x = 1 → s.rst.inst = false → Completes (.sync e x t1 turn) s fun t =>
    t = reinAll (cplrSend x (u.message 0x04 0 0 0 []) { u with cplr := { u.cplr with sync := some (t1.toNat, u.now, u.now + turn) } })) ∧
  (∀ e (x : Fin 20) s u, u = s.advanceTo e → s.get CPLR_CTRL.EN = 1 → s.epRole x = 2 → s.rst.inst = false → Completes (.syncRsp e x) s fun t =>
    t = reinAll (cplrSend x (u.message 0x05 0 0 u.now []) u)) ∧
  (∀ e (x : Fin 20) (t4 : Dword) (t1 t2 t3 : Nat) s u, u = s.advanceTo e → s.get CPLR_CTRL.EN = 1 → s.epRole x = 1 → s.cplr.sync = some (t1, t2, t3) →
    s.rst.inst = false → Completes (.syncFin e x t4) s fun t =>
      t = reinAll (applyTheta (((t2 : Int) - t1 - ((t4.toNat : Int) - t3)).tdiv 2) { u with cplr := { u.cplr with sync := none } })) ∧
  (∀ e (x : Fin 20) s u, u = s.advanceTo e → s.get CPLR_CTRL.EN = 1 → s.epRole x ≠ 0 → s.rst.inst = false → Completes (.reservedKind e x) s fun t =>
    t.get CPLR_CNT.BADMSG = min (s.get CPLR_CNT.BADMSG + 1) 255 ∧ u.Frame t [CPLR_CNT.BADMSG])

/-- O35 (derived; R411, R412, R415, R418, R419, R420, R421, R422, R423, R424, R431). What envelope points, emergency
caps, co-capping messages and enabling leave in Coupler. -/
def Obligations.CouplerPolicyCommandsComplete : Prop :=
  (∀ e (x : Fin 20) (ep : Word) (fr : BitVec 16) fl s u, u = s.advanceTo e → s.get CPLR_CTRL.EN = 1 → s.epRole x = 1 → s.rst.inst = false → Completes (.env e x ep fr fl) s fun t =>
    t = reinAll (envTake ⟨u.epochOf ep.toNat, fr.toNat, fl⟩ u)) ∧
  (∀ (p : EnvPoint) s u, u = cplrSendDown (s.envMessage p) s → u.now = s.now →
    (800000 * p.epoch ≤ s.now → envTake p s = envCurrent p u) ∧
    (s.now < 800000 * p.epoch → envTake p s = { u with cplr := { u.cplr with env := (envInsert p u.cplr.env).take 4 } })) ∧
  (∀ (ws : List Word) s, (cplrSendDown ws s).now = s.now ∧ (cplrSendDown ws s).regs = s.regs ∧ (cplrSendDown ws s).cplr = s.cplr) ∧
  (∀ (p : EnvPoint) s, (envCurrent p s).get CPLR_ENV_CUR.VALID = 1 ∧ (envCurrent p s).get CPLR_ENV_CUR.FRAC = p.frac % 65536 ∧
    (envCurrent p s).bit CPLR_ENV_CUR.FLEET = p.fleet ∧ (envCurrent p s).get CPLR_EVT.ENV = 1 ∧ (envCurrent p s).cplr = { s.cplr with envEpoch := p.epoch } ∧
    (envCurrent p s).pst.port = s.pst.port ++ [32 * kCPLR + 5] ∧
    s.KeepsBits (envCurrent p s) [CPLR_ENV_CUR.VALID, CPLR_ENV_CUR.FRAC, CPLR_ENV_CUR.FLEET, CPLR_EVT.ENV]) ∧
  (∀ (p : EnvPoint) l, l.Pairwise (fun a b => a.epoch < b.epoch) → (envInsert p l).Pairwise (fun a b => a.epoch < b.epoch) ∧ p ∈ envInsert p l ∧
    (∀ q ∈ envInsert p l, q = p ∨ q ∈ l) ∧ (∀ q ∈ l, q.epoch < p.epoch → q ∈ envInsert p l) ∧
    ((∃ q ∈ l, q.epoch = p.epoch) → ∀ q ∈ envInsert p l, q.epoch ≤ p.epoch)) ∧
  (∀ req v s, s.Permits req CPLR_ENV_ISSUE v → Completes (.envIssue req v) s fun t =>
    (s.isRoot = true → t = envTake ⟨s.epochOf (s.get CPLR_ENV_ISSUE_E.E), fldGet v 15 0, v.getLsbD 16⟩ s) ∧
    (s.isRoot = false → t.get CPLR_EVT.CFG_ERR = 1 ∧ t.get CPLR_EVT.CFG = 1 ∧ t.pst.port = s.pst.port ++ [32 * kCPLR + 7] ∧
      s.KeepsBits t [CPLR_EVT.CFG_ERR, CPLR_EVT.CFG])) ∧
  (∀ e p rest s u, u = s.advanceTo e → s.cplr.env = p :: rest → s.rst.inst = false → Completes (.envPointCurrent e) s fun t =>
    (u.now < 800000 * p.epoch → t = u) ∧
    (800000 * p.epoch ≤ u.now → t = envDue rest (envCurrent p { u with cplr := { u.cplr with env := rest } }))) ∧
  (∀ e s, s.cplr.env = [] → s.rst.inst = false → Completes (.envPointCurrent e) s fun t => t = s.advanceTo e) ∧
  (∀ e z s, z = s.advanceTo e → s.rst.inst = false → Completes (.envWindowEnd e) s fun t =>
    (z.boundaryDue 80000000 z.cplr.envAt = true → t = envWindowEnd z) ∧ (z.boundaryDue 80000000 z.cplr.envAt = false → t = z)) ∧
  (∀ u : State, (u.inst ≠ 0 → envWindowEnd u = { u with cplr := { u.cplr with envAt := u.now } }) ∧
    (u.inst = 0 → (envWindowEnd u).get CPLR_ENV_ERR.VALID = 1 ∧ (envWindowEnd u).bit CPLR_ENV_ERR.CONSTR = u.cplr.winOk ∧
      (envWindowEnd u).cplr = { u.cplr with envAt := u.now, winM := 0, winT := 0, winOk := true } ∧
      u.KeepsBits (envWindowEnd u) [CPLR_ENV_ERR.VALID, CPLR_ENV_ERR.CONSTR, CPLR_ENV_ERR.ERR]) ∧
    (u.inst = 0 → 0 < u.cplr.winT → u.cplr.winM = 10 * u.cplr.winT → (envWindowEnd u).getI CPLR_ENV_ERR.ERR = 0)) ∧
  (∀ e (x : Fin 20) (is : BitVec 17) (q : BitVec 16) (r : BitVec 8) (ex : Word) s u v, u = s.advanceTo e → s.get CPLR_CTRL.EN = 1 → s.epRole x = 1 →
    v = emApply is.toNat q.toNat r.toNat ex.toNat u → s.rst.inst = false → Completes (.emcapMessage e x is q r ex) s fun t =>
      (1 ≤ r.toNat ∧ r.toNat ≤ 64 → t = reinAll (cplrSendDown (v.emMessage is.toNat q.toNat r.toNat ex.toNat) v)) ∧ (r.toNat = 0 ∨ 64 < r.toNat → t = reinAll u)) ∧
  (∀ s rate, rate = (s.emEntries.map fun i => s.get (CPLR_EM_TAB1.RATE i)).foldl min 64 → s.get CPLR_EM_STAT.RATE = rate →
    (emRefresh s).get CPLR_EM_STAT.NENT = s.emEntries.length ∧ (emRefresh s).get CPLR_EM_STAT.RATE = rate ∧
    s.Frame (emRefresh s) [CPLR_EM_STAT.NENT, CPLR_EM_STAT.RATE]) ∧
  (∀ is sq r ex i s u, u = s.c0Touch → (u.emEntries.find? fun i => u.get (CPLR_EM_TAB0.ISSUER i) == is) = some i →
    (1 ≤ (sq + 65536 - u.get (CPLR_EM_TAB1.SEQ i)) % 65536 → (sq + 65536 - u.get (CPLR_EM_TAB1.SEQ i)) % 65536 ≤ 32767 →
      (r = 64 → emApply is sq r ex s = emRefresh (emDrop i u)) ∧ (r ≠ 64 → emApply is sq r ex s = emRefresh (emPut i is sq r ex u))) ∧
    ((sq + 65536 - u.get (CPLR_EM_TAB1.SEQ i)) % 65536 = 0 ∨ 32767 < (sq + 65536 - u.get (CPLR_EM_TAB1.SEQ i)) % 65536 → emApply is sq r ex s = emRefresh u)) ∧
  (∀ is sq r ex s u, u = s.c0Touch → (u.emEntries.find? fun i => u.get (CPLR_EM_TAB0.ISSUER i) == is) = none → r ≠ 64 →
    (∀ i, ((List.range 4).find? fun i => !u.bit (CPLR_EM_TAB0.VALID i)) = some i → emApply is sq r ex s = emRefresh (emPut i is sq r ex u)) ∧
    (((List.range 4).find? fun i => !u.bit (CPLR_EM_TAB0.VALID i)) = none →
      emApply is sq r ex s = emRefresh (cplrOvf CPLR_EVT.EM_OVF (if r < u.get (CPLR_EM_TAB1.RATE u.emVictim) then emPut u.emVictim is sq r ex u else u)))) ∧
  (∀ i is sq r ex s, i < 4 → is < 2 ^ 17 → sq < 65536 → r < 128 → ex < 2 ^ 32 → (emPut i is sq r ex s).get (CPLR_EM_TAB0.VALID i) = 1 ∧
    (emPut i is sq r ex s).get (CPLR_EM_TAB0.ISSUER i) = is ∧ (emPut i is sq r ex s).get (CPLR_EM_TAB1.SEQ i) = sq ∧
    (emPut i is sq r ex s).get (CPLR_EM_TAB1.RATE i) = r ∧ (emPut i is sq r ex s).get (CPLR_EM_TAB2.EXPIRE i) = ex ∧
    (emDrop i s).get (CPLR_EM_TAB0.VALID i) = 0 ∧
    s.Frame (emPut i is sq r ex s) [CPLR_EM_TAB0.VALID i, CPLR_EM_TAB0.ISSUER i, CPLR_EM_TAB1.SEQ i, CPLR_EM_TAB1.RATE i, CPLR_EM_TAB2.EXPIRE i]) ∧
  (∀ req v s u w, s.Permits req CPLR_EM_ISSUE v → 1 ≤ fldGet v 6 0 → fldGet v 6 0 ≤ 64 →
    u = emApply s.memberId ((s.cplr.emSeq + 1) % 65536) (fldGet v 6 0) w { s with cplr := { s.cplr with emSeq := (s.cplr.emSeq + 1) % 65536 } } →
    (fldGet v 31 16 = 0 → w = 0) → (fldGet v 31 16 ≠ 0 → w = (s.epoch + fldGet v 31 16) % 2 ^ 32) → Completes (.emcapIssue req v) s fun t =>
      t = cplrSendDown (u.emMessage u.memberId ((s.cplr.emSeq + 1) % 65536) (fldGet v 6 0) w) u) ∧
  (∀ req v s, s.Permits req CPLR_EM_ISSUE v → fldGet v 6 0 = 0 ∨ 64 < fldGet v 6 0 → Completes (.emcapIssue req v) s fun t => t = s) ∧
  (∀ e (x : Fin 20) (gid : BitVec 16) (r : BitVec 8) s u, u = s.advanceTo e → s.get CPLR_CTRL.EN = 1 → s.epRole x = 2 → s.rst.inst = false → Completes (.conote e x gid r) s fun t =>
    (1 ≤ r.toNat ∧ r.toNat ≤ 64 ∧ 1 ≤ gid.toNat ∧ gid.toNat ≤ 4095 → t = reinAll (aggPut gid.toNat (4 + x) r.toNat u)) ∧
    (r.toNat = 0 ∨ 64 < r.toNat ∨ gid.toNat = 0 ∨ 4095 < gid.toNat → t = reinAll u)) ∧
  (∀ (gid k r : Nat) s, (s.cplr.agg.any fun a => a.gid == gid) = false → r ≠ 64 →
    (s.cplr.agg.length < 256 → aggPut gid k r s = aggReport gid r { s with cplr := { s.cplr with agg := s.cplr.agg ++ [⟨gid, [(k, r)], r, none⟩] } }) ∧
    (256 ≤ s.cplr.agg.length → aggPut gid k r s = cplrOvf CPLR_EVT.AGG_OVF s)) ∧
  (∀ (gid r : Nat) s, (s.isRoot = true → aggReport gid r s = cocapPass gid r ((s.now + 800 * s.get CPLR_CC.GUARD + 799999) / 800000) s) ∧
    (s.isRoot = false → aggReport gid r s = cplrSendUp (s.message 0x08 0 0 0 [gid + 65536 * r]) s)) ∧
  (∀ (f : Fld) s, f = CPLR_EVT.AGG_OVF ∨ f = CPLR_EVT.EM_OVF ∨ f = CPLR_EVT.RW_OVF → (cplrOvf f s).get f = 1 ∧ (cplrOvf f s).get CPLR_EVT.OVF = 1 ∧
    (cplrOvf f s).pst.port = s.pst.port ++ [32 * kCPLR + 6] ∧ s.KeepsBits (cplrOvf f s) [f, CPLR_EVT.OVF]) ∧
  (∀ e (x : Fin 20) (gid : BitVec 16) (r : BitVec 8) (ep : Word) s u, u = s.advanceTo e → s.get CPLR_CTRL.EN = 1 → s.epRole x = 1 → s.rst.inst = false → Completes (.cocap e x gid r ep) s fun t =>
    (1 ≤ r.toNat ∧ r.toNat ≤ 64 ∧ 1 ≤ gid.toNat ∧ gid.toNat ≤ 4095 → t = reinAll (cocapPass gid.toNat r.toNat (u.epochOf ep.toNat) u)) ∧
    (r.toNat = 0 ∨ 64 < r.toNat ∨ gid.toNat = 0 ∨ 4095 < gid.toNat → t = reinAll u)) ∧
  (∀ x r ep s u ps, x < 4 → r < 128 → u = s.put (CPLR_GRP_STAT.RG x) r → ps = pairInsert r ep (s.cslot x).pairs → s.now < 800000 * ep →
    (ps.length ≤ 4 → cocapSlot x r ep s = u.setCslot x { s.cslot x with pairs := ps }) ∧
    (4 < ps.length → cocapSlot x r ep s = cplrOvf CPLR_EVT.AGG_OVF (u.setCslot x { s.cslot x with pairs := ps.take 4 }))) ∧
  (∀ x r ep s u, x < 4 → u = putGrate x r (s.put (CPLR_GRP_STAT.RG x) r) → 800000 * ep ≤ s.now →
    (cocapSlot x r ep s).get (CPLR_GRP_STAT.LATE x) = 1 ∧ u.KeepsBits (cocapSlot x r ep s) [CPLR_GRP_STAT.LATE x, CPLR_CNT.CC_LATE]) ∧
  (∀ e s, s.rst.inst = false → Completes (.cocapAdopt e) s fun t => t = reinAll (cocapAdopt (s.advanceTo e))) ∧
  (∀ e s, (∀ x < 4, (s.cslot x).pairs = []) → s.rst.inst = false → Completes (.cocapAdopt e) s fun t => t = reinAll (cocapRequests (s.advanceTo e))) ∧
  (∀ req v s u, s.Permits req CPLR_CTRL (v ||| 0x80000000) → s.get CPLR_CTRL.EN = 0 → u = storeReg CPLR_CTRL (v ||| 0x80000000) s →
    (u.cplrBad = true → Completes (.couplerEnable req v) s fun t => t.get CPLR_CTRL.EN = 0 ∧ t.get CPLR_EVT.CFG_ERR = 1 ∧ t.get CPLR_EVT.CFG = 1 ∧
      u.KeepsBits t [CPLR_CTRL.EN, CPLR_EVT.CFG_ERR, CPLR_EVT.CFG]) ∧
    (u.cplrBad = false → Completes (.couplerEnable req v) s fun t => ∃ w : State, t = cplrRefresh (w.each (List.range 17) fun s e => sendHello e s) ∧
      (∀ x < 20, w.get (CPLR_EP_STAT.PRESENT x) = 0 ∧ w.get (CPLR_EP_STAT.MISS x) = 0) ∧ w.get CPLR_CTRL.EN = 1))

/-- O36 (derived; R425, R426, R427, R428). What remote writes, commits, windows, completion records and transmit sets do. -/
def Obligations.RemoteWriteCommandsComplete : Prop :=
  (∀ e (pr : BitVec 17) (win be : BitVec 8) c (sq : BitVec 16) (lo hi off : Word) s u, u = s.advanceTo e → s.get CPLR_CTRL.EN = 1 →
    s.rst.inst = false → Completes (.rwrite e pr win be c sq lo hi off) s fun t => t = rwAccept pr.toNat win.toNat be.toNat c sq.toNat off.toNat lo hi u) ∧
  (∀ pr win be c sq off lo hi s, (off % 8 ≠ 0 ∨ be = 0 ∨ off < s.get CPLR_RW_BASE.BASE ∨ s.get CPLR_RW_LIM.LIM < off + 8 ∨ 262144 < off + 8) →
    (rwAccept pr win be c sq off lo hi s).get CPLR_CNT.RW_REJ = min (s.get CPLR_CNT.RW_REJ + 1) 255 ∧
    s.Frame (rwAccept pr win be c sq off lo hi s) [CPLR_CNT.RW_REJ]) ∧
  (∀ pr win be sq off lo hi s w u, off % 8 = 0 → be ≠ 0 → s.get CPLR_RW_BASE.BASE ≤ off → off + 8 ≤ s.get CPLR_RW_LIM.LIM → off + 8 ≤ 262144 →
    s.rwFind pr win = some w → u = { s with cplr := { s.cplr with late := s.cplr.late.filter fun e => !(e.1 == pr && e.2.1 == win) } } →
    rwAccept pr win be false sq off lo hi s = rwPut pr win (some { w with landed := w.landed ++ [sq], last := s.now }) (rwLand off be lo hi u) ∧
    rwAccept pr win be true sq off lo hi s = rwPut pr win (some { w with held := some ⟨sq, off, be, lo, hi, s.now⟩, last := s.now }) u) ∧
  (∀ pr win be c sq off lo hi s, off % 8 = 0 → be ≠ 0 → s.get CPLR_RW_BASE.BASE ≤ off → off + 8 ≤ s.get CPLR_RW_LIM.LIM → off + 8 ≤ 262144 →
    s.rwFind pr win = none → (s.cplr.late.any fun e => e.1 == pr && e.2.1 == win && decide (sq < e.2.2)) = true →
    (rwAccept pr win be c sq off lo hi s).get CPLR_CNT.RW_LATE = min (s.get CPLR_CNT.RW_LATE + 1) 255 ∧
    s.Frame (rwAccept pr win be c sq off lo hi s) [CPLR_CNT.RW_LATE]) ∧
  (∀ (req : Requester) (q : Fin 12) s l ws, s.Permits req (CPLR_TX_CMD q) 1 → l = s.txQueue q → l.length < 8 →
    ws = s.message 0x0A 0 (s.get (CPLR_TX_CTL.SEQ q)) (s.num (CPLR_TX_DST q) + 2 ^ 32 * (s.get (CPLR_TX_CTL.WIN q) + 256 * s.get (CPLR_TX_CTL.BE q)))
      [s.num (CPLR_TX_DATA_LO q), s.num (CPLR_TX_DATA_HI q), s.num (CPLR_TX_ADDR q)] → Completes (.rwriteSend req q) s fun t =>
    t.txQueue q = l ++ [ws] ∧ t.get (CPLR_TX_STAT.N q) = l.length + 1 ∧
      State.Frame { s with cplr := { s.cplr with tx := mapSet [] s.cplr.tx q (l ++ [ws]) } } t [CPLR_TX_STAT.N q]) ∧
  (∀ (req : Requester) (q : Fin 12) s l ws, s.Permits req (CPLR_TX_CMD q) 2 → l = s.txQueue q → l.length < 8 →
    ws = s.message 0x0A 1 (s.get (CPLR_TX_CTL.SEQ q)) (s.num (CPLR_TX_DST q) + 2 ^ 32 * (s.get (CPLR_TX_CTL.WIN q) + 256 * s.get (CPLR_TX_CTL.BE q)))
      [s.num (CPLR_TX_DATA_LO q), s.num (CPLR_TX_DATA_HI q), s.num (CPLR_TX_ADDR q)] → Completes (.rwriteCommitSend req q) s fun t =>
    t.txQueue q = l ++ [ws] ∧ t.get (CPLR_TX_STAT.N q) = l.length + 1 ∧
      State.Frame { s with cplr := { s.cplr with tx := mapSet [] s.cplr.tx q (l ++ [ws]) } } t [CPLR_TX_STAT.N q]) ∧
  (∀ (req : Requester) (q : Fin 12) s, 8 ≤ (s.txQueue q).length → (s.Permits req (CPLR_TX_CMD q) 1 → Completes (.rwriteSend req q) s fun t =>
      t.get (CPLR_TX_STAT.OVF q) = 1 ∧ s.Frame t [CPLR_TX_STAT.OVF q]) ∧ (s.Permits req (CPLR_TX_CMD q) 2 → Completes (.rwriteCommitSend req q) s fun t =>
      t.get (CPLR_TX_STAT.OVF q) = 1 ∧ s.Frame t [CPLR_TX_STAT.OVF q])) ∧
  (∀ e (pr : BitVec 17) (win : BitVec 8) w h s u y, u = s.advanceTo e → s.rwFind pr.toNat win.toNat = some w → w.held = some h →
    y = u.advanceTo (BitVec.ofNat 64 (h.since + 800 * s.get CPLR_RW_TO.TO)) →
    (w.complete h.seq = true → s.cplr.recs.length < 64 → Completes (.rwriteCommitLand e pr win) s fun t =>
      t = peerPost pr.toNat win.toNat false (commitLand w h false u)) ∧
    (w.complete h.seq = false ∨ 64 ≤ s.cplr.recs.length → Completes (.rwriteCommitLand e pr win) s fun t => t = u) ∧
    (s.cplr.recs.length < 64 → Completes (.rwriteCommitTimeout e pr win) s fun t => t = peerPost pr.toNat win.toNat true (commitLand w h true y)) ∧
    (64 ≤ s.cplr.recs.length → Completes (.rwriteCommitTimeout e pr win) s fun t => t = y)) ∧
  (∀ w h s t, t = commitLand w h false s → t.cplr.recs = s.cplr.recs ++ [(BitVec.ofNat 32 (2 ^ 31 + w.win * 65536 + (w.landed.length + 1) % 65536), w.peer)] ∧
    t.get CPLR_EVT.RWC = 1 ∧ t.cplr.late = s.cplr.late ∧ (t.rwFind w.peer w.win) = none) ∧
  (∀ e (pr : BitVec 17) (win : BitVec 8) w s u, u = s.advanceTo e → s.rwFind pr.toNat win.toNat = some w → s.rst.inst = false → Completes (.rwriteWindowIdle e pr win) s fun t =>
    (w.last + 8000000 ≤ u.now → t = rwPut pr.toNat win.toNat none u) ∧ (u.now < w.last + 8000000 → t = u)) ∧
  (∀ (req : Requester) s, (s.cplr.recs = [] → Completes (.completionRead req) s fun t => t = s.answer [0]) ∧
    (∀ w p rest, s.cplr.recs = (w, p) :: rest → Completes (.completionRead req) s fun t => t.rdata = [w] ∧ t.regs = s.regs ∧
      t.cplr = { s.cplr with recs := rest, rxPeer := mapSet 0 s.cplr.rxPeer req.code p })) ∧
  (∀ (pr win : Nat) s, (rwPut pr win none s).rwFind pr win = none ∧ (rwPut pr win none s).get CPLR_RW_OPEN.OPEN = (rwPut pr win none s).cplr.wins.length % 128 ∧
    (∀ p x, (p, x) ≠ (pr, win) → (rwPut pr win none s).rwFind p x = s.rwFind p x) ∧ s.KeepsBits (rwPut pr win none s) [CPLR_RW_OPEN.OPEN])

/-- O37 (derived; R531, R581, R582, R583, R587, R589, R590, R591, R594, R595, R598, R603). What time-stamp reads,
doorbells, binding, claims, completes, coalescing, masking and edge latches leave. -/
def Obligations.InterruptControllerCommandsComplete : Prop :=
  (∀ e (i : CoreIx) s u, u = s.advanceTo e → s.coreState i = 1 → (Completes (.tsCsrRead e i false) s fun t => t.rdata = [BitVec.ofNat 32 u.now] ∧
      mapGet 0 t.latch (16 * 2 ^ 25 + i) = BitVec.ofNat 32 (u.now / 2 ^ 32) ∧ t.regs = s.regs) ∧
    (Completes (.tsCsrRead e i true) s fun t => t = u.answer [mapGet 0 s.latch (16 * 2 ^ 25 + i)])) ∧
  (∀ e (i : CoreIx) s u, u = windowsCatch (s.advanceTo e) → u.coreState i = 1 → (u.topAt i = 0 → Completes (.claim e i) s fun t => t = u.answer [0]) ∧
    (∀ n, u.topAt i = n → n ≠ 0 → Completes (.claim e i) s fun t => t.rdata = [BitVec.ofNat 32 n] ∧ t.get (PST_SRC_STAT.ACTIVE n) = 1 ∧
      t.get (PST_SRC_STAT.BOUND n) = 0 ∧ t.get (PST_SRC_STAT.PEND n) = 0 ∧ t.pst = { u.pst with windows := u.pst.windows.filter (·.1 != n) } ∧
      u.KeepsBits t [PST_SRC_STAT.ACTIVE n, PST_SRC_STAT.BOUND n, PST_SRC_STAT.PEND n])) ∧
  (∀ e (i : CoreIx) (v : Word) n s u, u = s.advanceTo e → s.coreState i = 1 → v.toNat = n → 1 ≤ n → n ≤ 1023 → s.get (PST_SRC_STAT.ACTIVE n) = 1 →
    s.get (PST_SRC_STAT.TGT n) = i.val → Completes (.complete e i v) s fun t => t.get (PST_SRC_STAT.ACTIVE n) = 0 ∧ t.get (PST_SRC_STAT.TGT n) = 0 ∧
      u.Frame t [PST_SRC_STAT.ACTIVE n, PST_SRC_STAT.TGT n]) ∧
  (∀ e (i : CoreIx) (v : Word) s u, u = s.advanceTo e → s.coreState i = 1 → (v.toNat = 0 ∨ 1023 < v.toNat ∨ s.get (PST_SRC_STAT.ACTIVE v.toNat) = 0 ∨
    s.get (PST_SRC_STAT.TGT v.toNat) ≠ i.val) → Completes (.complete e i v) s fun t => t.get PST_STAT.BADCOMP = 1 ∧ u.Frame t [PST_STAT.BADCOMP]) ∧
  (∀ e req (n : BitVec 16) s u, u = s.advanceTo e → deniedWhole req PST_DOORBELL (BitVec.ofNat 32 n.toNat) u = false →
    s.rst.inst = false → Completes (.doorbell e (some (req, n))) s fun t => t = acceptNext (acceptEdge (doorbellIn n.toNat u))) ∧
  (∀ e s, s.rst.inst = false → Completes (.doorbell e none) s fun t => t = acceptNext (acceptEdge (s.advanceTo e))) ∧
  (∀ s : State, (s.locked = true → 2 ≤ s.takenNow.1 → acceptEdge s = s.passEdges 1) ∧ (s.locked = false ∨ s.takenNow.1 < 2 → acceptEdge s = s) ∧
    (s.pst.takenAt = s.tim.edges → s.takenNow = (s.pst.taken, s.pst.latchTaken)) ∧ (s.pst.takenAt ≠ s.tim.edges → s.takenNow = (0, false))) ∧
  (∀ (n : Nat) (s v : State), n = 0 ∨ 1023 < n → v = acceptDoorbell n s → v.get PST_STAT.BADSRC = 1 ∧ v.cbse.pulses = s.cbse.pulses ++ [2] ∧ s.KeepsBits v [PST_STAT.BADSRC]) ∧
  (∀ (n : Nat) (s v : State), 1 ≤ n → n ≤ 1023 → s.get (PST_SRC_CFG.C0 n) = 0 → s.get (PST_SRC_STAT.PEND n) = 0 → s.get (PST_SRC_CFG.CG n) = 0 → v = acceptDoorbell n s →
    v.get (PST_SRC_STAT.PEND n) = 1 ∧ v.get (PST_SRC_STAT.NDB n) = min (s.get (PST_SRC_STAT.NDB n) + 1) 65535 ∧
    s.Frame v [PST_SRC_STAT.PEND n, PST_SRC_STAT.NDB n]) ∧
  (∀ (n : Nat) (z s v : State), 1 ≤ n → n ≤ 1023 → s = coalesceRelease (if z.srcC0 n then 0 else z.get (PST_SRC_CFG.CG n)) z → s.get (PST_SRC_STAT.PEND n) = 1 →
    s.get (PST_SRC_STAT.HELD n) = 0 → v = acceptDoorbell n z →
    v.get (PST_SRC_STAT.NDB n) = min (s.get (PST_SRC_STAT.NDB n) + 1) 65535 ∧ s.Frame v [PST_SRC_STAT.NDB n]) ∧
  (∀ (s u : State) x, s.locked = true → s.takenNow.1 < 2 → s.nextDoorbell = some x →
    u = { s with pst := { s.pst with port := s.pst.port.erase x, takenAt := s.tim.edges, taken := s.takenNow.1 + 1, latchTaken := s.takenNow.2 || decide (65536 ≤ x) } } →
    (x < 65536 → acceptNext s = acceptDoorbell x u) ∧ (65536 ≤ x → acceptNext s = acceptDoorbell (x % 65536) (u.put (PST_EDGE.LATCHED (x / 65536 - 1)) 0))) ∧
  (∀ s : State, (s.locked = false ∨ 2 ≤ s.takenNow.1 ∨ s.portNow = [] → acceptNext s = s) ∧
    (∀ x, (s.portNow.find? fun x => decide (1 ≤ x % 65536) && decide (x % 65536 ≤ 1023) && s.srcC0 (x % 65536)) = some x → s.nextDoorbell = some x) ∧
    (∀ x rest, (s.portNow.find? fun x => decide (1 ≤ x % 65536) && decide (x % 65536 ≤ 1023) && s.srcC0 (x % 65536)) = none → s.portNow = x :: rest → s.nextDoorbell = some x)) ∧
  (∀ e (n : SourceIx) s u v, n.val ≠ 0 → u = s.advanceTo e → (u.deliverable n = false → Completes (.sourceBind e n) s fun t => t = u) ∧
    (u.deliverable n = true → u.route n = none → Completes (.sourceBind e n) s fun t => t = u) ∧
    (∀ i, u.deliverable n = true → u.route n = some i → i ≠ 11 → v = ((u.put (PST_SRC_STAT.BOUND n) 1).put (PST_SRC_STAT.TGT n) i).c0Leave n →
      Completes (.sourceBind e n) s fun t => t = wakeCore i v) ∧
    (u.deliverable n = true → u.route n = some 11 → v = ((u.put (PST_SRC_STAT.BOUND n) 1).put (PST_SRC_STAT.TGT n) 11).c0Leave n →
      Completes (.sourceBind e n) s fun t => ((u.boundTo 11).isEmpty = true → t = v.hostWrite (v.get64 PST_MSI_LO) [v.rd PST_MSI_DATA]) ∧
        ((u.boundTo 11).isEmpty = false → t = v))) ∧
  (∀ (n i : Nat) (s v : State), n < 1024 → i < 16 → v = ((s.put (PST_SRC_STAT.BOUND n) 1).put (PST_SRC_STAT.TGT n) i).c0Leave n → v.get (PST_SRC_STAT.BOUND n) = 1 ∧
    v.get (PST_SRC_STAT.TGT n) = i ∧ v.pst.c0 = s.pst.c0.filter (· != n) ∧ s.KeepsBits v [PST_SRC_STAT.BOUND n, PST_SRC_STAT.TGT n]) ∧
  (∀ i (s : State), i < 11 → (s.coreState i = 3 → s.meip i = true → wakeCore i s = (wdogKeep i s).put (FW_CORE.STATE i) 1 ∧
      (wakeCore i s).coreState i = 1 ∧ s.KeepsBits (wakeCore i s) [FW_CORE.STATE i]) ∧
    (s.coreState i ≠ 3 ∨ s.meip i = false → wakeCore i s = s)) ∧
  (∀ (s : State) n, (s.get (PST_SRC_STAT.PEND n) = 0 ∨ s.get (PST_SRC_STAT.HELD n) = 1 ∨ s.get (PST_SRC_STAT.BOUND n) = 1 ∨ s.get (PST_SRC_STAT.ACTIVE n) = 1 ∨
    s.get (PST_SRC_CFG.EN n) = 0 ∨ (s.get PST_CTRL.GDIS = 1 ∧ s.get (PST_SRC_CFG.C0 n) = 0)) → s.deliverable n = false) ∧
  (∀ (s : State) n i, i ≠ 11 → s.route n = some i → i < 11 ∧ s.eligible n i = true ∧ ∀ j < 11, s.eligible n j = true → s.runPrio j ≤ s.runPrio i) ∧
  (∀ e (c : Fin 16) s u y, c.val ≠ 0 → u = s.advanceTo e → y = (if u.coalesceDue c then u else u.advanceTo (BitVec.ofNat 64 (u.coalesceEnd c))) →
    (u.get (PST_CG_STAT.OPEN c) = 1 → y.coalesceDue c = true → Completes (.coalesceRelease e c) s fun t => ∃ w : State,
        t = w.each (w.srcs.filter fun n => w.get (PST_SRC_CFG.CG n) == c) (fun s n => s.put (PST_SRC_STAT.HELD n) 0) ∧
        w.get (PST_CG_STAT.OPEN c) = 0 ∧ w.get (PST_CG_STAT.COUNT c) = 0 ∧ w.pst = { y.pst with t1 := mapSet 0 y.pst.t1 c 0 } ∧
        y.KeepsBits w [PST_CG_STAT.OPEN c, PST_CG_STAT.COUNT c]) ∧
    (u.get (PST_CG_STAT.OPEN c) = 0 → Completes (.coalesceRelease e c) s fun t => t = u)) ∧
  (∀ c (s : State), s.coalesceEnd c = mapGet 0 s.pst.t1 c + 800 * s.get (PST_CG_CFG.TIME c) ∧
    (s.coalesceDue c = true ↔ s.get (PST_CG_CFG.CNT c) ≤ s.get (PST_CG_STAT.COUNT c) ∨ s.coalesceEnd c ≤ s.now)) ∧
  (∀ (l : List Nat) (s t : State), t = s.each l (fun s n => s.put (PST_SRC_STAT.HELD n) 0) → (∀ n ∈ l, t.get (PST_SRC_STAT.HELD n) = 0) ∧
    (∀ n, t.get (PST_SRC_STAT.PEND n) = s.get (PST_SRC_STAT.PEND n)) ∧ (∀ a, (∀ n ∈ l, a ≠ PST_SRC_STAT n) → t.rd a = s.rd a)) ∧
  (∀ (n : Nat) (s t : State), t = unbind n s → t.get (PST_SRC_STAT.BOUND n) = 0 ∧ (s.get (PST_SRC_STAT.ACTIVE n) = 0 → t.get (PST_SRC_STAT.TGT n) = 0) ∧
    (s.get (PST_SRC_STAT.ACTIVE n) = 1 → t.get (PST_SRC_STAT.TGT n) = s.get (PST_SRC_STAT.TGT n)) ∧ t.pst.windows = s.pst.windows.filter (·.1 != n) ∧
    s.KeepsBits t [PST_SRC_STAT.BOUND n, PST_SRC_STAT.TGT n]) ∧
  (∀ e s u, u = windowsCatch (s.advanceTo e) → (s.rst.inst = true → Completes (.hostClaim e) s fun t => t = s.answer [s.rd PST_HOST_CLAIM]) ∧
    (s.rst.inst = false → u.topAt 11 = 0 → Completes (.hostClaim e) s fun t => t = u.answer [0]) ∧
    (∀ n, s.rst.inst = false → u.topAt 11 = n → n ≠ 0 → Completes (.hostClaim e) s fun t => t = ((unbind n u).put (PST_SRC_STAT.PEND n) 0).answer [BitVec.ofNat 32 n])) ∧
  (∀ req (n : SourceIx) v s u w, n.val ≠ 0 → s.Permits req (PST_SRC_CFG n) v → s.get (PST_SRC_CFG.C0 n) = 0 → u = storeReg (PST_SRC_CFG n) v s →
    u.get (PST_SRC_CFG.C0 n) = 0 → w = (if s.get (PST_SRC_CFG.CG n) = u.get (PST_SRC_CFG.CG n) then u else u.put (PST_SRC_STAT.HELD n) 0) →
    Completes (.sourceMask req n v) s fun t =>
      (s.get (PST_SRC_CFG.EN n) = 1 → u.get (PST_SRC_CFG.EN n) = 0 → t = openWindow n w) ∧
      (s.get (PST_SRC_CFG.EN n) = 0 ∨ u.get (PST_SRC_CFG.EN n) = 1 → t = w)) ∧
  (∀ (n : Nat) (s : State), (s.get (PST_SRC_STAT.BOUND n) = 1 → (s.pst.windows.any fun e => e.1 == n) = false →
      openWindow n s = { s with pst := { s.pst with windows := s.pst.windows ++ [(n, s.tim.edges)] } }) ∧
    (s.get (PST_SRC_STAT.BOUND n) = 0 ∨ (s.pst.windows.any fun e => e.1 == n) = true → openWindow n s = s)) ∧
  (∀ e (n : SourceIx) s u y x, u = s.advanceTo e → (u.pst.windows.find? fun e => e.1 == n.val) = some x →
    y = (if u.locked = true ∧ u.tim.edges < x.2 + 16 then u.passEdges (x.2 + 16 - u.tim.edges) else u) →
    (u.locked = false → u.tim.edges < x.2 + 16 → Completes (.maskWindowEnd e n) s fun t => t = u) ∧
    (x.2 + 16 ≤ y.tim.edges → s.get (PST_SRC_STAT.BOUND n) = 1 → Completes (.maskWindowEnd e n) s fun t => t = unbind n y) ∧
    (x.2 + 16 ≤ y.tim.edges → s.get (PST_SRC_STAT.BOUND n) = 0 → Completes (.maskWindowEnd e n) s fun t =>
      t = { y with pst := { y.pst with windows := y.pst.windows.filter (·.1 != n) } })) ∧
  (∀ req (n : SourceIx) v s, n.val ≠ 0 → s.Permits req (PST_SRC_STAT n) v → (v.getLsbD 31 = false → Completes (.sourcePendClear req n v) s fun t => t = s) ∧
    (v.getLsbD 31 = true → Completes (.sourcePendClear req n v) s fun t => t.get (PST_SRC_STAT.PEND n) = 0 ∧ t.get (PST_SRC_STAT.HELD n) = 0 ∧
      t.get (PST_SRC_STAT.BOUND n) = 0 ∧ t.pst.c0 = s.pst.c0.filter (· != n.val) ∧
      s.KeepsBits t [PST_SRC_STAT.PEND n, PST_SRC_STAT.HELD n, PST_SRC_STAT.BOUND n, PST_SRC_STAT.TGT n])) ∧
  (∀ req v s u, s.Permits req PST_CTRL v → u = storeReg PST_CTRL v s → (s.get PST_CTRL.GDIS = 1 ∨ u.get PST_CTRL.GDIS = 0 → Completes (.globalDisable req v) s fun t => t = u) ∧
    (s.get PST_CTRL.GDIS = 0 → u.get PST_CTRL.GDIS = 1 → Completes (.globalDisable req v) s fun t =>
      t = u.each (u.srcs.filter fun n => !u.srcC0 n) fun s n => openWindow n s)) ∧
  (∀ e (k : Fin 32) rising s u, u = s.advanceTo e → (s.get (PST_EDGE.EN k) = 0 ∨ k.val = 7 ∨ s.get (PST_EDGE.POL k) = 3 ∨ (s.get (PST_EDGE.POL k) = 0 ∧ rising = false) ∨
    (s.get (PST_EDGE.POL k) = 1 ∧ rising = true)) → Completes (.edgeCaught e k rising) s fun t => t = u) ∧
  (∀ e (k : Fin 32) s u, u = s.advanceTo e → s.get (PST_EDGE.EN k) = 1 → k.val ≠ 7 → s.get (PST_EDGE.POL k) = 2 → s.get (PST_EDGE.WAKE k) = 0 → ∀ rising,
    (s.get (PST_EDGE.LATCHED k) = 0 → s.locked = true → s.rst.inst = false → Completes (.edgeCaught e k rising) s fun t =>
      (s.get (PST_EDGE.SRC k) = 0 → t = u) ∧ (s.get (PST_EDGE.SRC k) ≠ 0 → t = doorbellIn (s.get (PST_EDGE.SRC k)) u)) ∧
    (s.get (PST_EDGE.LATCHED k) = 0 → s.locked = false ∨ s.rst.inst = true → Completes (.edgeCaught e k rising) s fun t =>
      t.get (PST_EDGE.LATCHED k) = 1 ∧ u.Frame t [PST_EDGE.LATCHED k]) ∧
    (s.get (PST_EDGE.LATCHED k) = 1 → Completes (.edgeCaught e k rising) s fun t => t.get (PST_EDGE.LOST k) = 1 ∧
      (s.rst.inst = false → t.get PST_STAT.EDGE_LOST = 1) ∧ u.Frame t [PST_EDGE.LOST k, PST_STAT.EDGE_LOST]))

/-- O38 (derived; R606, R607, R608, R609, R610, R611, R612). What claiming, posting, taking, abandoning, timing out and
writing a mail channel leave. -/
def Obligations.MailCoachCommandsComplete : Prop :=
  (∀ e (req : Requester) (c : Fin 32) s u, u = fillTimeout c (s.advanceTo e) → s.rst.inst = false →
    (u.chState c = 0 → u.get (MCH_CH_CFG.EN c) = 1 → Completes (.channelClaim e req c) s fun t =>
      t.rdata = [1] ∧ t.chState c = 1 ∧ t.get (MCH_CH_STAT.OWNER c) = req.code % 16 ∧ mapGet 0 t.mch c.val = u.now ∧
      u.KeepsBits t [MCH_CH_STAT.STATE c, MCH_CH_STAT.OWNER c]) ∧
    (u.chState c ≠ 0 ∨ u.get (MCH_CH_CFG.EN c) = 0 → Completes (.channelClaim e req c) s fun t => t = u.answer [0])) ∧
  (∀ e (req : Requester) (c : Fin 32) s, s.rst.inst = true → Completes (.channelClaim e req c) s fun t => t = s.answer [s.rd (MCH_CH_CLAIM c)]) ∧
  (∀ e (req : Requester) (c : Fin 32) (esrc : BitVec 10) s z u v, z = s.advanceTo e → u = fillTimeout c z → v = BitVec.ofNat 32 (esrc.toNat * 65536 + 1) →
    z.Permits req (MCH_CH_CTL c) v →
    (u.ownsCh req c = true → esrc.toNat = 0 ∨ 608 ≤ esrc.toNat → Completes (.post e req c esrc) s fun t => t = chArrive c req.code esrc.toNat u) ∧
    (u.ownsCh req c = false ∨ (1 ≤ esrc.toNat ∧ esrc.toNat < 608) → Completes (.post e req c esrc) s fun t => t.get MCH_STAT.BADPOST = 1 ∧ u.Frame t [MCH_STAT.BADPOST])) ∧
  (∀ (req : Requester) (c : Fin 32) z s r, z.Permits req (MCH_CH_CTL c) 2 → s = fillTimeout c z → r = s.get (MCH_CH_CFG.RCV c) → (s.chState c = 2 → s.receivesCh req c = true →
      Completes (.take req c) z fun t => ∃ w, w = (chEmpty c s).wrN (MCH_DB r) (clearBitN (s.num (MCH_DB r)) c) ∧
        (s.get (MCH_CH_STAT.ESRC c) = 0 → t = w) ∧ (s.get (MCH_CH_STAT.ESRC c) ≠ 0 → t = doorbellIn (s.get (MCH_CH_STAT.ESRC c)) w)) ∧
    (s.chState c ≠ 2 ∨ s.receivesCh req c = false → Completes (.take req c) z fun t => t.get MCH_STAT.BADTAKE = 1 ∧ s.Frame t [MCH_STAT.BADTAKE])) ∧
  (∀ (req : Requester) (c : Fin 32) z s, z.Permits req (MCH_CH_CTL c) 4 → s = fillTimeout c z → (s.ownsCh req c = true → Completes (.abandon req c) z fun t =>
      t.chState c = 0 ∧ t.get (MCH_CH_STAT.OWNER c) = 0 ∧ t.mch = mapSet 0 s.mch c 0 ∧ s.KeepsBits t [MCH_CH_STAT.STATE c, MCH_CH_STAT.OWNER c]) ∧
    (s.ownsCh req c = false → Completes (.abandon req c) z fun t => t = s)) ∧
  (∀ e (c : Fin 32) s u, u = s.advanceTo e → (u.chState c = 1 → Completes (.fillTimeout e c) s fun t => t = fillTimeout c (u.advanceTo (BitVec.ofNat 64 (u.fillEnd c)))) ∧
    (u.chState c ≠ 1 → Completes (.fillTimeout e c) s fun t => t = u)) ∧
  (∀ (c : Fin 32) (s t : State), t = fillTimeout c s → (s.chState c = 1 → s.fillEnd c ≤ s.now →
      t.chState c = 0 ∧ t.get (MCH_CH_STAT.OWNER c) = 0 ∧ t.get MCH_STAT.FILL_EXP = 1 ∧ t.get MCH_CNT.FILL_EXP = min (s.get MCH_CNT.FILL_EXP + 1) 65535 ∧
      s.KeepsBits t [MCH_CH_STAT.STATE c, MCH_CH_STAT.OWNER c, MCH_STAT.FILL_EXP, MCH_CNT.FILL_EXP]) ∧
    (s.chState c ≠ 1 ∨ s.now < s.fillEnd c → t = s) ∧ s.fillEnd c = mapGet 0 s.mch c.val + 800 * s.get MCH_CFG.FILL_TO) ∧
  (∀ (req : Requester) (c : Fin 32) v z s, z.Permits req (MCH_CH_CFG c) v → s = fillTimeout c z →
    (s.chState c = 0 → Completes (.channelConfigWrite req c v) z fun t => t = storeReg (MCH_CH_CFG c) v s) ∧
    (s.chState c ≠ 0 → Completes (.channelConfigWrite req c v) z fun t => t.get MCH_STAT.BADWR = 1 ∧ s.Frame t [MCH_STAT.BADWR])) ∧
  (∀ (req : Requester) (c : Fin 32) (w : Fin 16) v z s, z.Permits req (MCH_SLOT c w) v → s = fillTimeout c z → (s.ownsCh req c = true → Completes (.slotWrite req c w v) z fun t =>
      t.rd (MCH_SLOT c w) = v ∧ s.KeepsRegs t (· = MCH_SLOT c w) ∧ { t with regs := s.regs } = s) ∧
    (s.ownsCh req c = false → Completes (.slotWrite req c w v) z fun t => t.get MCH_STAT.BADWR = 1 ∧ s.Frame t [MCH_STAT.BADWR])) ∧
  (∀ (req : Requester) (r : Fin 12) v s, s.Permits req (MCH_DBEN r) v → Completes (.dbenWrite req r v) s fun t => t.rd (MCH_DBEN r) = v ∧
    t.pst.port = s.pst.port ++ (bitsOf (v &&& s.rd (MCH_DB r)).toNat 32).map (fun c => 32 * kMCH + c) ∧ s.KeepsRegs t (· = MCH_DBEN r)) ∧
  (∀ (c : Fin 32) (q x : Nat) (s : State) r t, r = s.get (MCH_CH_CFG.RCV c) → r < 12 → q < 16 → x < 1024 → s.get (MCH_CH_CFG.C0 c) = 0 → t = chArrive c q x s →
    t.chState c = 2 ∧ t.get (MCH_CH_STAT.SNDR c) = q ∧ t.get (MCH_CH_STAT.ESRC c) = x ∧ t.get (MCH_CH_STAT.OWNER c) = 0 ∧ t.num (MCH_CH_TS c) = s.now32 ∧
    (t.rd (MCH_DB r)).getLsbD c = true ∧ (bitOf (s.num (MCH_DBEN r)) c = true → t.pst.port = s.pst.port ++ [32 * kMCH + c]) ∧
    (bitOf (s.num (MCH_DBEN r)) c = false → t.pst = s.pst))

/-- O39 (derived; R556, R557, R558, R559, R562, R563, R564, R568, R569, R570). What releases, acquires, fences, atomics,
plain stores, reservations and write-backs do to core memory. -/
def Obligations.CoreMemoryCommandsComplete : Prop :=
  (∀ e (i : CoreIx) (k : Fin 4) s u, u = cacheDue (s.advanceTo e) → u.coreState i ≠ 1 → (Completes (.vlFrel e i k) s fun t => t = u) ∧ (Completes (.vlFacq e i k) s fun t => t = u) ∧
    (Completes (.vlFfull e i k) s fun t => t = u)) ∧
  (∀ e (i : CoreIx) s u, u = cacheDue (s.advanceTo e) → u.coreState i = 1 → (Completes (.vlFrel e i 3) s fun t => t = u.setCoreSt i { u.coreSt i with exc := 2 }) ∧
    (Completes (.vlFacq e i 3) s fun t => t = u.setCoreSt i { u.coreSt i with exc := 2 }) ∧ (Completes (.vlFfull e i 3) s fun t => t = u.setCoreSt i { u.coreSt i with exc := 2 })) ∧
  (∀ e (i : CoreIx) (k : Fin 4) s u, u = cacheDue (s.advanceTo e) → u.coreState i = 1 → k.val ≠ 3 →
    (k.val = 0 → (Completes (.vlFrel e i k) s fun t => t = drainAll i u) ∧ (Completes (.vlFacq e i k) s fun t => t = u) ∧ (Completes (.vlFfull e i k) s fun t => t = drainAll i u)) ∧
    (k.val ≠ 0 → (Completes (.vlFrel e i k) s fun t => t = cacheClean (coreGroup i) (drainAll i u)) ∧ (Completes (.vlFacq e i k) s fun t => t = cacheDrop (coreGroup i) u) ∧
      (Completes (.vlFfull e i k) s fun t => t = cacheDrop (coreGroup i) (cacheClean (coreGroup i) (drainAll i u))))) ∧
  (∀ (i g a : Nat) s, ((drainAll i s).coreSt i).buf = [] ∧ (cacheDrop g s).lines g = [] ∧ (∀ l, (lineClean g a s).lineAt g a = some l → l.dirty = 0)) ∧
  (∀ e (i : CoreIx) s u, u = cacheDue (s.advanceTo e) → u.coreState i = 1 → (Completes (.fence e i true) s fun t => t = drainAll i u) ∧
    (Completes (.fence e i false) s fun t => t = u)) ∧
  (∀ e (i : CoreIx) op a v s u, u = cacheDue (s.advanceTo e) → u.coreState i = 1 → a.toNat % 4 ≠ 0 ∨ (∀ o, memKind i a.toNat ≠ .loc o ∧ memKind i a.toNat ≠ .commons o) →
    ∀ aq, Completes (.atomic e i op a v aq false) s fun t => t = u.setCoreSt i { u.coreSt i with exc := 7 }) ∧
  (∀ e (i : CoreIx) op (a v : Word) o s u w bs old, u = cacheDue (s.advanceTo e) → u.coreState i = 1 → a.toNat % 4 = 0 → memKind i a.toNat = .loc o → i.val ≠ 11 → op ≠ .sc → op ≠ .lr →
    ramRead i o 4 u = (some bs, w) → old = BitVec.ofNat 32 (leBytes bs) → Completes (.atomic e i op a v false false) s fun t =>
      t = (ramWrite i o (toLe 4 (amoResult op old v).toNat) w).answer [old]) ∧
  (∀ e (i : CoreIx) (a v : Word) o s u w bs, u = cacheDue (s.advanceTo e) → u.coreState i = 1 → a.toNat % 4 = 0 → memKind i a.toNat = .loc o → i.val ≠ 11 →
    (ramRead i o 4 u = (some bs, w) → Completes (.atomic e i .lr a v false false) s fun t => t.rdata = [BitVec.ofNat 32 (leBytes bs)] ∧
      (t.coreSt i).resv = some ⟨a.toNat / 64, w.tim.edges⟩ ∧ t.ram = w.ram) ∧
    (ramRead i o 4 u = (none, w) → Completes (.atomic e i .lr a v false false) s fun t => t = w.setCoreSt i { w.coreSt i with exc := 5 })) ∧
  (∀ e (i : CoreIx) (a v : Word) o s u, u = cacheDue (s.advanceTo e) → u.coreState i = 1 → a.toNat % 4 = 0 → memKind i a.toNat = .loc o → i.val ≠ 11 →
    Completes (.atomic e i .sc a v false false) s fun t => (t.coreSt i).resv = none ∧ (u.reserves i a.toNat = true → t.rdata = [0] ∧ t.ram = (ramWrite i o (toLe 4 v.toNat) u).ram) ∧
      (u.reserves i a.toNat = false → t.rdata = [1] ∧ t.ram = u.ram)) ∧
  (∀ e (i : CoreIx) s u y r, u = s.advanceTo e → (u.coreSt i).resv = some r →
    y = (if u.locked = true ∧ u.tim.edges < r.since + 256 then u.passEdges (r.since + 256 - u.tim.edges) else u) →
    (r.since + 256 ≤ y.tim.edges → Completes (.reservationExpiry e i) s fun t => t = y.setCoreSt i { y.coreSt i with resv := none }) ∧
    (y.tim.edges < r.since + 256 → Completes (.reservationExpiry e i) s fun t => t = y)) ∧
  (∀ e (g : Fin 3) a s, Completes (.dirtyWriteBack e g a) s fun t => t = lineClean g a.toNat (cacheDue (s.advanceTo e))) ∧
  (∀ e (i : CoreIx) w a v s u o, u = cacheDue (s.advanceTo e) → u.coreState i = 1 → (memKind i a.toNat = .loc o → Completes (.plainStore e i w a v) s fun t =>
      t = ramWrite i o (toLe w.bytes v.toNat) u) ∧
    (memKind i a.toNat = .host o → Completes (.plainStore e i w a v) s fun t => t = { u with out := { u.out with aperture := u.out.aperture ++ [(o, toLe w.bytes v.toNat)] } }) ∧
    (memKind i a.toNat = .device o → Completes (.plainStore e i w a v) s fun t => t = windowWrite (coreReq i) (widthOf (toLe w.bytes v.toNat).length) o (BitVec.ofNat 32 (leBytes (toLe w.bytes v.toNat))) u) ∧
    (memKind i a.toNat = .nowhere → Completes (.plainStore e i w a v) s fun t => t = u)) ∧
  (∀ e (i : CoreIx) w a v s u z f, u = cacheDue (s.advanceTo e) → u.coreState i = 1 → (∃ o, memKind i a.toNat = .commons o ∨ memKind i a.toNat = .wmem o) → (u.coreSt i).buf.length < 8 →
    z = { u.setCoreSt i { u.coreSt i with buf := (u.coreSt i).buf ++ [⟨a.toNat, toLe w.bytes v.toNat⟩] } with freeCtr := u.freeCtr + 1 } → f = Config.freeWord u.freeCtr →
    Completes (.plainStore e i w a v) s fun t => t = drainSome i (fun k _ => bitOf f.toNat k) z) ∧
  (∀ e (i : CoreIx) s u, u = cacheDue (s.advanceTo e) → (u.coreState i = 1 → u.meip i = true → Completes (.interruptEntry e i) s fun t => t = u.setCoreSt i { u.coreSt i with resv := none }) ∧
    (u.coreState i ≠ 1 ∨ u.meip i = false → Completes (.interruptEntry e i) s fun t => t = u)) ∧
  (∀ (s : State), (∀ g l, l ∈ s.lines g → l.dirty = 0 ∨ s.tim.edges < l.since + 16000) → cacheDue s = s)

/-- O40 (derived; R537, R539, R540, R542, R544, R545, R546, R549, R550, R552). What boot, pushes, firmware resets,
activations, watchdogs, heartbeats, debug halts and condition reports leave. -/
def Obligations.FirmwareCommandsComplete : Prop :=
  (∀ e s u, u = s.advanceTo e → (u.coreState 0 ≠ 1 ∨ u.fw.loading = none → s.rst.inst = false → Completes (.imageVerified e) s fun t => t = u) ∧
    (∀ k b, u.coreState 0 = 1 → u.fw.loading = some (k, b) → s.rst.inst = false → Completes (.imageVerified e) s fun t =>
      (u.slotFault k = 0 →
        t = imageRuns (u.slotHeader k) k { u with fw := { u.fw with loading := none }, out := { u.out with pushes := u.out.pushes ++ [u.slotHeader k ++ u.slotBody k] } }) ∧
      (u.slotFault k ≠ 0 → b = false → t = romLoad (1 - k) true (unload (u.slotHeader k) u)) ∧
      (u.slotFault k ≠ 0 → b = true → t = bootFail (unload (u.slotHeader k) u)))) ∧
  (∀ (s t : State), t = bootFail s → t.get FW_STAT.BOOT = 4 ∧ t.get (MCH_CH_CFG.RCV 0) = 0 ∧ t.get (MCH_CH_CFG.RCV 1) = 11 ∧ t.fw.loading = none ∧
    s.KeepsBits t [FW_STAT.BOOT, MCH_CH_CFG.RCV 0, MCH_CH_CFG.RCV 1]) ∧
  (∀ (h : List (BitVec 8)) (i a : Nat) (s t : State), entryOf h i = some a → t = releaseCore h i s → t.coreState i = 1 ∧ (t.coreSt i).pc = BitVec.ofNat 32 a ∧
    (t.coreSt i).kicked = s.now ∧ (t.coreSt i).wdog = 0 ∧ (t.coreSt i).reload = false ∧ s.KeepsBits t [FW_CORE.STATE i]) ∧
  (∀ (h : List (BitVec 8)) (k : Nat) (s : State), (imageRuns h k s).get FW_STAT.BOOT = 3 ∧ (imageRuns h k s).get FW_STAT.SLOT = k % 2 ∧
    (imageRuns h k s).get FW_STAT.SVN = hdrField h 8 4 % 256 ∧ (imageRuns h k s).num FW_VER = hdrField h 16 4 % 2 ^ 32) ∧
  (∀ e k b img s u, u = s.advanceTo e → (u.inst = 0 ∨ u.get FW_STAT.BOOT ≠ 0 ∨ u.coreState 0 ≠ 1 → s.rst.inst = false → Completes (.imagePush e k b img) s fun t => t = u) ∧
    (u.inst ≠ 0 → u.get FW_STAT.BOOT = 0 → u.coreState 0 = 1 → s.rst.inst = false → Completes (.imagePush e k b img) s fun t =>
      (imageFault u.efuse (img.take 512) (img.drop 512) ≠ 0 → u.fw.pushFails = 0 →
        t = { u with fw := { u.fw with pushFails := 1 }, out := { u.out with pushFails := u.out.pushFails ++ [u.now] } }) ∧
      (imageFault u.efuse (img.take 512) (img.drop 512) ≠ 0 → u.fw.pushFails ≠ 0 → t = bootFail { u with fw := { u.fw with pushFails := 2 } }) ∧
      (imageFault u.efuse (img.take 512) (img.drop 512) = 0 → ∀ w, w = { u with fw := { u.fw with pushed := img.zipIdx.foldl (fun f e => mapSet 0xFF f e.2 e.1) [] } } →
        t = (imageRuns (img.take 512) k.toNat (loadSections (fun _ => true) (img.take 512) (img.drop 512) w)).putB FW_STAT.TRIAL b))) ∧
  (∀ e s u, u = s.advanceTo e → (u.inst ≠ 0 → s.rst.inst = false → Completes (.firmwareReset e) s fun t => t = firmwareReset u) ∧
    (u.inst = 0 → u.fw.resetDue = true → s.rst.inst = false → Completes (.firmwareReset e) s fun t => t = firmwareReset { u with out := { u.out with fwOrders := u.out.fwOrders ++ [u.now] } }) ∧
    (u.inst = 0 → u.fw.resetDue = false → s.rst.inst = false → Completes (.firmwareReset e) s fun t => t = u)) ∧
  (∀ s : State, s.inst ≠ 0 → (firmwareReset s).ram = [] ∧ (firmwareReset s).cache = [] ∧ (firmwareReset s).yutre = [] ∧ (firmwareReset s).coreState 0 = 1 ∧
    (firmwareReset s).get FW_STAT.BOOT = 0 ∧ (firmwareReset s).fw.resetDue = false ∧ ((firmwareReset s).coreSt 0).buf = [] ∧ ((firmwareReset s).coreSt 0).resv = none) ∧
  (∀ e s u, u = s.advanceTo e → (u.inst ≠ 0 ∨ u.get FW_ACT.PEND = 0 ∨ u.class0Bits ≠ 0 → s.rst.inst = false → Completes (.activationStart e) s fun t => t = u) ∧
    (∀ y w, u.inst = 0 → u.get FW_ACT.PEND = 1 → u.class0Bits = 0 → y = u.advanceTo (BitVec.ofNat 64 (u.fw.quiet + 8000000)) → w = (dirWrite y.stagedSlot 1 3 y).ring kVL 3 →
      s.rst.inst = false → Completes (.activationStart e) s fun t => t = { (w.put FW_ACT.PEND 0).put FW_ACT.DEFERRED 0 with fw := { w.fw with staged := none, verified := none, resetDue := true } })) ∧
  (∀ e req (i : CoreIx) s u, u = s.advanceTo e → u.Permits req (FW_KICK i) 0 → Completes (.watchdogKick e req i) s fun t => t = wdogStart i u) ∧
  (∀ e (i : CoreIx) s u, u = s.advanceTo e → (u.wdogCounts i = false → s.rst.inst = false → Completes (.watchdogExpiry e i) s fun t => t = u) ∧
    (∀ y w : State, u.wdogCounts i = true → y = u.advanceTo (BitVec.ofNat 64 (u.wdogEnd i)) → w = holdCore i (((y.put (FW_WDOG.EXP i) 1).pulse 41).ring kVL 1) →
      s.rst.inst = false → Completes (.watchdogExpiry e i) s fun t => (i.val = 0 → t = watchdogReset w) ∧ (i.val ≠ 0 → t = w.setCoreSt i { w.coreSt i with reload := true }))) ∧
  (∀ (i : Nat) (s : State), (holdCore i s).coreState i = 0 ∧ ((holdCore i s).coreSt i).buf = [] ∧ ((holdCore i s).coreSt i).resv = none ∧
    (holdCore i s).KeepsBits (coreLeave i s) [FW_CORE.STATE i]) ∧
  (∀ e (i : CoreIx) s u h b, u = s.advanceTo e → u.runningImage = (h, b) → ((u.coreSt i).reload = false → s.rst.inst = false → Completes (.coreReloadDone e i) s fun t => t = u) ∧
    ((u.coreSt i).reload = true → sha384 b = beBytes ((h.drop 24).take 48) → s.rst.inst = false → Completes (.coreReloadDone e i) s fun t =>
      t = releaseCore h i ((loadSections (· == i.val) h b u).incSat (FW_CORE.RESETS i))) ∧
    ((u.coreSt i).reload = true → sha384 b ≠ beBytes ((h.drop 24).take 48) → s.rst.inst = false → Completes (.coreReloadDone e i) s fun t => t = watchdogReset u)) ∧
  (∀ req v s z u, s.Permits req FW_HOST_KICK v → z = hostTo s → u = { z.put FW_HOST_HB.MISS 0 with fw := { z.fw with kick := true } } → Completes (.hostKick req v) s fun t =>
    (z.get FW_STAT.HOST_LOST = 0 → t = u) ∧ (z.get FW_STAT.HOST_LOST = 1 → t.get FW_STAT.HOST_LOST = 0 ∧ t.pst.port = z.pst.port ++ [32 * kVL + 2] ∧
      u.KeepsBits t [FW_STAT.HOST_LOST])) ∧
  (∀ (u t : State), t = hostPeriodEnd u → (u.fw.kick = true → t = { u with fw := { u.fw with kick := false } }) ∧
    (u.fw.kick = false → min (u.get FW_HOST_HB.MISS + 1) 255 < 3 ∨ u.get FW_STAT.HOST_LOST = 1 → t = u.put FW_HOST_HB.MISS (min (u.get FW_HOST_HB.MISS + 1) 255)) ∧
    (u.fw.kick = false → 3 ≤ min (u.get FW_HOST_HB.MISS + 1) 255 → u.get FW_STAT.HOST_LOST = 0 →
      t = smbLatch (hostUnbind (((u.put FW_HOST_HB.MISS (min (u.get FW_HOST_HB.MISS + 1) 255)).put FW_STAT.HOST_LOST 1).ring kVL 2)))) ∧
  (∀ e s u l, u = s.advanceTo e → l = 800000 * u.get FW_HOST_HB.PERIOD → s.rst.inst = false → Completes (.hostPeriodEnd e) s fun t =>
    t = (List.range (min (u.now / l - u.fw.hostAt / l) 256)).foldl (fun z _ => hostPeriodEnd z) { u with fw := { u.fw with hostAt := u.now } }) ∧
  (∀ e s u, u = s.advanceTo e → (u.get FW_STAT.FW_OK = 1 → s.rst.inst = false → Completes (.fwHeartbeatStale e) s fun t => t = (u.advanceTo (BitVec.ofNat 64 (u.fw.hbAt + 2400000))).put FW_STAT.FW_OK 0) ∧
    (u.get FW_STAT.FW_OK = 0 → s.rst.inst = false → Completes (.fwHeartbeatStale e) s fun t => t = u)) ∧
  (∀ req (i : CoreIx) pc s, s.Permits req (DBG_CTRL i) 1 → (s.coreState i = 1 ∨ s.coreState i = 3 → Completes (.halt req i pc) s fun t => t = haltCore i pc s) ∧
    (s.coreState i ≠ 1 → s.coreState i ≠ 3 → Completes (.halt req i pc) s fun t => t = s)) ∧
  (∀ req (i : CoreIx) s, s.Permits req (DBG_CTRL i) 2 → (s.coreState i = 2 → Completes (.resume req i) s fun t => t.coreState i = 1 ∧ t.get (DBG_STAT.HALTED i) = 0 ∧
      (t.coreSt i).pc = (s.coreSt i).pc ∧ (t.coreSt i).kicked = s.now ∧ (t.coreSt i).wdog = 0 ∧ s.KeepsBits t [FW_CORE.STATE i, DBG_STAT.HALTED i]) ∧
    (s.coreState i ≠ 2 → Completes (.resume req i) s fun t => t = s)) ∧
  (∀ req (i : CoreIx) pc s, s.Permits req (DBG_CTRL i) 4 → (s.coreState i ≠ 0 → Completes (.step req i pc) s fun t => t = haltCore i pc s) ∧
    (s.coreState i = 0 → Completes (.step req i pc) s fun t => t = s)) ∧
  (∀ (i : Nat) (pc : Word) (s : State), (haltCore i pc s).rd (DBG_PC i) = pc ∧ ((haltCore i pc s).coreSt i).pc = pc ∧ (coreLeave i s).KeepsBits (haltCore i pc s)
    [FW_CORE.STATE i, DBG_STAT.HALTED i, ⟨DBG_PC i, 31, 0⟩] ∧ (i < 11 → (haltCore i pc s).coreState i = 2 ∧ (haltCore i pc s).get (DBG_STAT.HALTED i) = 1)) ∧
  (∀ e (k : Fin 4) c s u, u = s.advanceTo e → (u.inst ≠ 0 ∨ k.val = 0 → s.rst.inst = false → Completes (.pkgConditionReport e k c) s fun t => t = u) ∧
    (u.inst = 0 → k.val ≠ 0 → s.rst.inst = false → Completes (.pkgConditionReport e k c) s fun t => t.fw.pkg = mapSet 0 u.fw.pkg k c.toNat ∧ t.regs = u.regs ∧
      (c ≠ 0 → t.fw.quiet = u.now) ∧ (c = 0 → t.fw.quiet = u.fw.quiet)))

/-- O41 (stated; R623). The SEQ and reply of the last command of a sender and channel are kept; a repeated SEQ gets the
stored reply; resets forget them. -/
def Obligations.RepeatedYutreCommandsGetTheStoredReply : Prop :=
  (∀ m op (body : State → State) s t, s.serves m op = true → t = yutre m op body s → ∃ e, t.lastYutre m = some e ∧ e.seq = m.sq.toNat ∧ e.reply = t.rdata) ∧
  (∀ m op (body : State → State) s e, s.serves m op = true → s.lastYutre m = some e → e.seq = m.sq.toNat → yutre m op body s = s.answer e.reply) ∧
  (∀ s : State, s.rst.inst = false → (assertReset s).yutre = []) ∧
  (∀ s : State, (firmwareReset s).yutre = [])

/-- O42 (derived; R540, R618, R619, R620, R622, R623, R624). Which status answers a Yutre command before its opcode is
carried out, and how a reply is framed. -/
def Obligations.YutreChecksComeBeforeTheOpcode : Prop :=
  (∀ m op (body : State → State) s, s.serves m op = false → yutre m op body s = s) ∧
  (∀ m op (body : State → State) (s : State), s.serves m op = true → (∀ e, s.lastYutre m = some e → e.seq ≠ m.sq.toNat) → m.vmaj ≠ 3 → (s.reply stVERSION []).Replied m op (yutre m op body s)) ∧
  (∀ m op (body : State → State) (s : State), s.serves m op = true → (∀ e, s.lastYutre m = some e → e.seq ≠ m.sq.toNat) → m.vmaj = 3 → 56 < m.len.toNat ∨ 8 ≤ m.flags.toNat ∨ m.flags.toNat % 2 = 1 → (s.reply stBADPARAM []).Replied m op (yutre m op body s)) ∧
  (∀ m op (body : State → State) (s : State), s.serves m op = true → (∀ e, s.lastYutre m = some e → e.seq ≠ m.sq.toNat) → m.vmaj = 3 → m.len.toNat ≤ 56 → m.flags.toNat < 8 → m.flags.toNat % 2 = 0 → definedOpcode op = true → s.permits m op = false →
    (s.reply stDENIED []).Replied m op (yutre m op body s)) ∧
  (∀ m (op : BitVec 16) (s : State), s.serves m op.toNat = true → (∀ e, s.lastYutre m = some e → e.seq ≠ m.sq.toNat) → m.vmaj = 3 → m.len.toNat ≤ 56 → m.flags.toNat < 8 →
    m.flags.toNat % 2 = 0 → definedOpcode op.toNat = false → Completes (.yutreUnknownOpcode m op) s fun t => (s.reply stBADOPCODE []).Replied m op.toNat t) ∧
  (∀ op, definedOpcode op = true ↔ (0x100 ≤ op ∧ op ≤ 0x106) ∨ (0x200 ≤ op ∧ op ≤ 0x205) ∨ (0x300 ≤ op ∧ op ≤ 0x304) ∨ (0x400 ≤ op ∧ op ≤ 0x406) ∨
    (0x500 ≤ op ∧ op ≤ 0x507) ∨ (0x600 ≤ op ∧ op ≤ 0x607) ∨ (0x700 ≤ op ∧ op ≤ 0x704)) ∧
  (∀ m op (s : State), (m.sndr = .host → s.permits m op = ((op / 256 != 7 || s.bit VL_CTRL.DBG_EN) && !(op == 0x103 && s.bit VL_CTRL.HOST_RO))) ∧
    (m.sndr = .peer → s.permits m op = peerOpcode op) ∧ (m.sndr = .sch ∨ m.sndr = .sec ∨ m.sndr = .pmc → s.permits m op = (op / 256 != 7 || s.bit VL_CTRL.DBG_EN))) ∧
  (∀ m op (u t : State), op < 65536 → u.rdata.length ≤ 16 → u.Replied m op t → ∃ w0 w1, t.rdata = w0 :: w1 :: u.rdata ∧ fldGet w0 7 0 = 3 ∧ fldGet w0 15 8 = 2 ∧
    fldGet w0 31 16 = op ∧ fldGet w1 15 0 = m.sq.toNat ∧ fldGet w1 31 24 = 1 ∧ (op ≠ 0x100 → op ≠ 0x603 → fldGet w1 23 16 = 4 * u.rdata.length))

/-- O43 (derived; R394, R620, R624). What GET_VERSION, GET_STATUS, the register, region, front and CONFIG opcodes and
the power-policy opcodes do. -/
def Obligations.YutreStatusAndPowerOpcodesComplete : Prop :=
  (∀ m s, s.Accepts m 0x100 → (Completes (.getVersion m) s fun t => ((schReads [VL_ID, FW_VER] s).2.reply stOK ((schReads [VL_ID, FW_VER] s).1 ++ [0x0203])).Replied m 0x100 t)) ∧
  (∀ m s, s.Accepts m 0x101 → (Completes (.getStatus m) s fun t => (schReply stOK [VL_STAT, CBSE_STAT, CBSE_FIRST, XPH_STAT, THM_STAT, PWR_STAT, TTB_STAT, FW_STAT] s).Replied m 0x101 t)) ∧
  (∀ m s, s.Accepts m 0x102 → (m.b8 4 = 0 ∨ 12 < m.b8 4 ∨ m.b32 0 % 4 ≠ 0 ∨ 2 ^ 25 < m.b32 0 + 4 * m.b8 4 → Completes (.readReg m) s fun t => (s.reply stBADPARAM []).Replied m 0x102 t) ∧
    (1 ≤ m.b8 4 ∧ m.b8 4 ≤ 12 ∧ m.b32 0 % 4 = 0 ∧ m.b32 0 + 4 * m.b8 4 ≤ 2 ^ 25 → Completes (.readReg m) s fun t => (schReply stOK ((List.range (m.b8 4)).map fun i => m.b32 0 + 4 * i) s).Replied m 0x102 t)) ∧
  (∀ m s, s.Accepts m 0x103 → (m.b32 0 % 4 ≠ 0 ∨ 2 ^ 25 ≤ m.b32 0 → Completes (.writeReg m) s fun t => (s.reply stBADPARAM []).Replied m 0x103 t) ∧
    (m.b32 0 % 4 = 0 ∧ m.b32 0 < 2 ^ 25 ∧ resultOf (m.b32 0) = none → Completes (.writeReg m) s fun t => ((schWrite (m.b32 0) (m.word 4) s).reply stOK []).Replied m 0x103 t) ∧
    (∀ f, m.b32 0 % 4 = 0 ∧ m.b32 0 < 2 ^ 25 ∧ resultOf (m.b32 0) = some f → Completes (.writeReg m) s fun t => ((schWrite (m.b32 0) (m.word 4) s).reply ((schWrite (m.b32 0) (m.word 4) s).get f) []).Replied m 0x103 t)) ∧
  (∀ m s, s.Accepts m 0x104 → (m.b8 0 = 0 → Completes (.regionCmd m) s fun t => (s.reply stBADPARAM []).Replied m 0x104 t) ∧
    (1 ≤ m.b8 0 ∧ m.b8 0 ≤ 255 → Completes (.regionCmd m) s fun t => (schReply ((rgnToEnd (m.b8 0) (schWrite (RGN_CMD (m.b8 0)) (w32 (m.b8 1)) s)).get (RGN_CMD.RES (m.b8 0))) [RGN_CMD (m.b8 0)] (rgnToEnd (m.b8 0) (schWrite (RGN_CMD (m.b8 0)) (w32 (m.b8 1)) s))).Replied m 0x104 t)) ∧
  (∀ m s, s.Accepts m 0x105 → (Completes (.frontCmd m) s fun t => (schReply ((schWrite XPH_CMD (w32 (m.b8 0)) s).get XPH_CMD.RES) [XPH_CMD] (schWrite XPH_CMD (w32 (m.b8 0)) s)).Replied m 0x105 t)) ∧
  (∀ m s pairs, s.Accepts m 0x106 → pairs = (List.range (m.b8 0)).map (fun k => (m.b32 (4 + 8 * k), m.word (8 + 8 * k))) →
    (m.b8 0 = 0 ∨ 6 < m.b8 0 ∨ (pairs.all fun e => configOffset e.1) = false → Completes (.config m) s fun t => (s.reply stBADPARAM []).Replied m 0x106 t) ∧
    (1 ≤ m.b8 0 → m.b8 0 ≤ 6 → (pairs.all fun e => configOffset e.1) = true → m.b8 1 % 2 = 0 → Completes (.config m) s fun t =>
      (schReply stOK [RGN_CFG_STAT] (schWrites pairs s)).Replied m 0x106 t) ∧
    (∀ u, 1 ≤ m.b8 0 → m.b8 0 ≤ 6 → (pairs.all fun e => configOffset e.1) = true → m.b8 1 % 2 = 1 → u = commitToEnd (schWrite RGN_CFG_CTRL 1 (schWrites pairs s)) →
      Completes (.config m) s fun t => (schReply (u.get RGN_CFG_STAT.RES) [RGN_CFG_STAT] u).Replied m 0x106 t)) ∧
  (∀ m s, s.Accepts m 0x200 → (Completes (.getPolicy m) s fun t => (schReply stOK [PWR_CTRL, PWR_STAT, PWR_SHARE, PWR_PKG_EFF] s).Replied m 0x200 t)) ∧
  (∀ m s, s.Accepts m 0x201 → (s.inst ≠ 0 → Completes (.setPkgCap m) s fun t => (s.reply stBADPARAM []).Replied m 0x201 t) ∧
    (s.inst = 0 → Completes (.setPkgCap m) s fun t => ((schWrite PWR_PKG (w32 (m.b16 0 * 65536 + m.b16 2)) s).reply stOK []).Replied m 0x201 t)) ∧
  (∀ m s, s.Accepts m 0x202 → (m.b8 0 = 0 ∨ 256 ≤ m.b8 0 ∨ 15 < m.b8 1 ∨ 511 < m.b16 2 ∨ 4095 < m.b16 4 ∨ 1 < m.b8 6 → Completes (.setOp m) s fun t => (s.reply stBADPARAM []).Replied m 0x202 t) ∧
    ((1 ≤ m.b8 0 ∧ m.b8 0 ≤ 255 ∧ m.b8 1 ≤ 15 ∧ m.b16 2 ≤ 511 ∧ m.b16 4 ≤ 4095 ∧ m.b8 6 ≤ 1) ∧ s.get PWR_CTRL.OP_EN = 1 ∧ s.rgnState (m.b8 0) ≠ 0 → Completes (.setOp m) s fun t => ((schWrite (PWR_OP (m.b8 0) (m.b8 1)) (w32 (m.b8 6 * 2 ^ 31 + m.b16 4 * 2 ^ 16 + m.b16 2)) s).reply stBUSY []).Replied m 0x202 t) ∧
    ((1 ≤ m.b8 0 ∧ m.b8 0 ≤ 255 ∧ m.b8 1 ≤ 15 ∧ m.b16 2 ≤ 511 ∧ m.b16 4 ≤ 4095 ∧ m.b8 6 ≤ 1) ∧ (s.get PWR_CTRL.OP_EN = 0 ∨ s.rgnState (m.b8 0) = 0) → Completes (.setOp m) s fun t => ((schWrite (PWR_OP (m.b8 0) (m.b8 1)) (w32 (m.b8 6 * 2 ^ 31 + m.b16 4 * 2 ^ 16 + m.b16 2)) s).reply stOK []).Replied m 0x202 t)) ∧
  (∀ m s, s.Accepts m 0x203 → (63 < m.b8 0 → Completes (.setLegPref m) s fun t => (s.reply stBADPARAM []).Replied m 0x203 t) ∧
    (m.b8 0 ≤ 63 → Completes (.setLegPref m) s fun t => ((schWrite (PWR_LEG (m.b8 0)) (w32 (m.b8 2 % 2 * 16 + m.b8 1 % 16)) s).reply stOK []).Replied m 0x203 t)) ∧
  (∀ m (s u : State), s.Accepts m 0x204 → u = opValidate (schWrite PWR_CTRL (w32 (m.b8 2 % 16 * 2 ^ 20 + m.b8 1 % 16 * 2 ^ 16 + m.b8 0 % 32)) s) →
    (m.b8 0 % 2 = 1 ∧ u.get PWR_CTRL.OP_EN = 0 → Completes (.setMode m) s fun t => (u.reply stBADPARAM []).Replied m 0x204 t) ∧
    (m.b8 0 % 2 = 0 ∨ u.get PWR_CTRL.OP_EN = 1 → Completes (.setMode m) s fun t => (u.reply stOK []).Replied m 0x204 t)) ∧
  (∀ m s, s.Accepts m 0x205 → (m.b8 0 = 0 → Completes (.getRegion m) s fun t => (s.reply stBADPARAM []).Replied m 0x205 t) ∧
    (1 ≤ m.b8 0 ∧ m.b8 0 ≤ 255 → Completes (.getRegion m) s fun t => (schReply stOK [PWR_RGN_STAT (m.b8 0), PWR_EST (m.b8 0), PWR_MEAS (m.b8 0), PWR_FREQ (m.b8 0)] s).Replied m 0x205 t))

/-- O44 (derived; R430, R431, R620). What GET_COUPLER, SET_TREE, SET_GROUP, ENV_POINT, SET_ENV, EMCAP and GET_GROUP do. -/
def Obligations.YutreFleetOpcodesComplete : Prop :=
  (∀ m s, s.Accepts m 0x400 → (Completes (.getCoupler m) s fun t => (schReply stOK [CPLR_STAT, CPLR_ID, CPLR_EPOCH, CPLR_OFS, CPLR_ENV_TGT, CPLR_ENV_ERR] s).Replied m 0x400 t)) ∧
  (∀ m s, s.Accepts m 0x401 → (Completes (.setTree m) s fun t => (ySetTree (m.b8 0) (m.b8 1) (m.b16 2) (m.b32 4) ((List.range 17).map fun k => m.b16 (8 + 2 * k)) s).Replied m 0x401 t)) ∧
  (∀ role hb pkg mask eps (s a b c : State), (2 ^ 17 ≤ mask → ySetTree role hb pkg mask eps s = s.reply stBADPARAM []) ∧
    (mask < 2 ^ 17 → a = schWrite CPLR_ID (w32 (pkg % 32768 * 4)) (schWrite CPLR_CTRL (s.rd CPLR_CTRL &&& 0x7FFFFFFF) s) →
      b = a.each (List.range 17) (fun s e => schWrite (CPLR_EP_CFG e) (w32 (match ((bitsOf mask 17).zip eps).find? fun x => x.1 == e with
        | some (_, x) => (if 32768 ≤ x then 1 else 2) * 2 ^ 30 + x % 32768
        | none => 0)) s) →
      c = schWrite CPLR_CTRL (w32 (role % 4 * 2 ^ 29 + hb % 16 + 2 ^ 31)) (schWrite CPLR_CTRL (w32 (role % 4 * 2 ^ 29 + hb % 16)) b) →
      (c.get CPLR_CTRL.EN = 0 → ySetTree role hb pkg mask eps s = c.reply stBADPARAM []) ∧ (c.get CPLR_CTRL.EN = 1 → ySetTree role hb pkg mask eps s = c.reply stOK []))) ∧
  (∀ m s, s.Accepts m 0x402 → (3 < m.b8 0 → Completes (.setGroup m) s fun t => (s.reply stBADPARAM []).Replied m 0x402 t) ∧
    (m.b8 0 ≤ 3 → Completes (.setGroup m) s fun t => ((schWrites [(CPLR_GRP_CFG (m.b8 0), w32 (m.b8 4 % 2 * 2 ^ 31 + m.b8 3 % 2 * 2 ^ 30 + m.b16 1 % 4096)), (CPLR_GMASK_LO (m.b8 0), m.word 8), (CPLR_GMASK_HI (m.b8 0), m.word 12)] s).reply stOK []).Replied m 0x402 t)) ∧
  (∀ m s, s.Accepts m 0x403 → (s.isRoot = false → Completes (.envPoint m) s fun t => (s.reply stBADPARAM []).Replied m 0x403 t) ∧
    (s.isRoot = true → Completes (.envPoint m) s fun t => ((schWrites [(CPLR_ENV_ISSUE_E, m.word 0), (CPLR_ENV_ISSUE, w32 (m.b8 6 % 2 * 65536 + m.b16 4))] s).reply stOK []).Replied m 0x403 t)) ∧
  (∀ m s, s.Accepts m 0x404 → (Completes (.setEnv m) s fun t => ((schWrites [(CPLR_ENV_REF, w32 (m.b16 0)), (CPLR_ENV_TRIM, w32 (m.b16 4 * 65536 + m.b8 2))] s).reply stOK []).Replied m 0x404 t)) ∧
  (∀ m s, s.Accepts m 0x405 → (Completes (.emcap m) s fun t => ((schWrite CPLR_EM_ISSUE (w32 (m.b16 2 * 65536 + m.b8 0 % 128)) s).reply stOK []).Replied m 0x405 t)) ∧
  (∀ m s, s.Accepts m 0x406 → (3 < m.b8 0 → Completes (.getGroup m) s fun t => (s.reply stBADPARAM []).Replied m 0x406 t) ∧
    (m.b8 0 ≤ 3 → Completes (.getGroup m) s fun t => (schReply stOK [CPLR_GRP_CFG (m.b8 0), CPLR_GMASK_LO (m.b8 0), CPLR_GMASK_HI (m.b8 0), CPLR_GRP_STAT (m.b8 0)] s).Replied m 0x406 t))

/-- O45 (derived; R311, R620, R621, R624, R625). What the forecast, waybill, telemetry, ageing and test opcodes of Yutre
do. -/
def Obligations.YutreForecastTelemetryAndTestOpcodesComplete : Prop :=
  (∀ m data ok s n, s.Accepts m 0x300 → n = m.b32 8 / 16 →
    (m.descOk 0 16 0 (fun n => n % 16 == 0) = false ∨ 65536 < m.b16 16 + n → Completes (.loadProgram m data ok) s fun t => (s.reply stBADPARAM []).Replied m 0x300 t) ∧
    (m.descOk 0 16 0 (fun n => n % 16 == 0) = true → m.b16 16 + n ≤ 65536 → s.get TTB_DMA_CTRL.BUSY = 1 → Completes (.loadProgram m data ok) s fun t => (s.reply stBUSY []).Replied m 0x300 t) ∧
    (∀ u v, m.descOk 0 16 0 (fun n => n % 16 == 0) = true → m.b16 16 + n ≤ 65536 → s.get TTB_DMA_CTRL.BUSY = 0 →
      u = schWrites [(TTB_DMA_SRC_LO, w32 (m.b64 0)), (TTB_DMA_SRC_HI, w32 (m.b64 0 / 2 ^ 32)), (TTB_DMA_LEN, w32 (n % 65536 * 65536 + m.b16 16)), (TTB_DMA_CTRL, 1)] (schWrite TTB_CTRL 2 s) →
      v = ttbDmaFinish ok (u.each (List.range (if ok then n else min n (data.length / 4))) fun s i => ttbDmaEntry ((List.range 4).map fun w => hostWord data (4 * i + w)) (dmaSlot s)) →
      (ok = false → Completes (.loadProgram m data ok) s fun t => (schReply stINTERNAL [TTB_DMA_CTRL, TTB_STAT] v).Replied m 0x300 t) ∧
      (∀ w : State, ok = true → (m.b8 22 % 2 = 1 → w = schWrite TTB_CTRL 1 (schWrite TTB_RANGE (w32 (m.b16 20 * 65536 + m.b16 18)) v)) →
        (m.b8 22 % 2 = 0 → w = schWrite TTB_RANGE (w32 (m.b16 20 * 65536 + m.b16 18)) v) →
        Completes (.loadProgram m data ok) s fun t => (schReply (w.get TTB_DMA_CTRL.RES) [TTB_DMA_CTRL, TTB_STAT] w).Replied m 0x300 t))) ∧
  (∀ m data s n, s.Accepts m 0x301 → n = m.b32 8 / 32 →
    (m.descOk 0 1 0 (fun n => n % 32 == 0) = false ∨ 256 < m.b8 16 + n → Completes (.loadRset m data) s fun t => (s.reply stBADPARAM []).Replied m 0x301 t) ∧
    (m.descOk 0 1 0 (fun n => n % 32 == 0) = true → m.b8 16 + n ≤ 256 → data = none → Completes (.loadRset m data) s fun t => ((fabricError (m.b64 0) s).reply stINTERNAL []).Replied m 0x301 t) ∧
    (∀ d, m.descOk 0 1 0 (fun n => n % 32 == 0) = true → m.b8 16 + n ≤ 256 → data = some d → Completes (.loadRset m data) s fun t =>
      ((schWrites ((List.range (8 * n)).map fun k => (TTB_RSET (m.b8 16) 0 + 4 * k, hostWord d k)) s).reply stOK []).Replied m 0x301 t)) ∧
  (∀ m data (s u : State) ok, s.Accepts m 0x302 → ok = m.descOk 0 4 0 (fun n => decide (2080 ≤ n) && decide (n ≤ 67616)) → u = odrStop s →
    (ok = false → Completes (.loadWeights m data) s fun t => (s.reply stBADPARAM []).Replied m 0x302 t) ∧
    (ok = true → u.odrState ≠ 0 ∨ u.get OUT_DMA_CTRL.BUSY = 1 → Completes (.loadWeights m data) s fun t => (schReply stBUSY [OUT_STAT, OUT_CYC] u).Replied m 0x302 t) ∧
    (ok = true → u.odrState = 0 → u.get OUT_DMA_CTRL.BUSY = 0 →
      (data = none → Completes (.loadWeights m data) s fun t => (schReply stINTERNAL [OUT_STAT, OUT_CYC] (fabricError (m.b64 0) u)).Replied m 0x302 t) ∧
      (∀ d v, data = some d → v = schWrites (weightImage (m.b32 8) d) u →
        (m.b8 16 % 2 = 0 → Completes (.loadWeights m data) s fun t => (schReply stOK [OUT_STAT, OUT_CYC] v).Replied m 0x302 t) ∧
        (∀ w, m.b8 16 % 2 = 1 → w = odrValidated (schWrite OUT_CTL ((v.rd OUT_CTL &&& 0xFFFFF8) ||| 1) v) →
          Completes (.loadWeights m data) s fun t => (schReply (w.get OUT_STAT.RES) [OUT_STAT, OUT_CYC] w).Replied m 0x302 t)))) ∧
  (∀ m s ws, s.Accepts m 0x303 → ws = (((([TTB_CFG, TTB_LEAD, TTB_HOLD, TTB_BUMP, TTB_ETA].zip ((List.range 5).map fun k => m.word (4 + 4 * k))).zipIdx.filter
      fun e => bitOf (m.b8 1) e.2).map (·.1)) : List (Nat × Word)) →
    (2 < m.b8 0 → Completes (.forecastCtl m) s fun t => (s.reply stBADPARAM []).Replied m 0x303 t) ∧
    (m.b8 0 = 0 → Completes (.forecastCtl m) s fun t => (schReply stOK [TTB_STAT] (schWrite TTB_CTRL 2 (schWrites ws s))).Replied m 0x303 t) ∧
    (m.b8 0 = 1 → Completes (.forecastCtl m) s fun t => (schReply stOK [TTB_STAT] (schWrite TTB_CTRL 1 (schWrites ws s))).Replied m 0x303 t) ∧
    (m.b8 0 = 2 → Completes (.forecastCtl m) s fun t => (schReply stOK [TTB_STAT] (schWrite TTB_CTRL 4 (schWrites ws s))).Replied m 0x303 t)) ∧
  (∀ m s, s.Accepts m 0x304 → (Completes (.getForecast m) s fun t => (schReply stOK [TTB_STAT, TTB_CUR, TTB_LAST, TTB_FCAST, TTB_LEG, TTB_CNT0, OUT_STAT, OUT_RUNCNT] s).Replied m 0x304 t)) ∧
  (∀ m s, s.Accepts m 0x500 → (m.b8 0 = 0 ∨ 15 < m.b8 0 → Completes (.setJob m) s fun t => (s.reply stBADPARAM []).Replied m 0x500 t) ∧
    (1 ≤ m.b8 0 ∧ m.b8 0 ≤ 15 → Completes (.setJob m) s fun t => ((schWrites [(WBL_TAG_LO (m.b8 0), m.word 8), (WBL_TAG_HI (m.b8 0), m.word 12)] s).reply stOK []).Replied m 0x500 t)) ∧
  (∀ m s, s.Accepts m 0x501 → (15 < m.b8 0 → Completes (.setGroups m) s fun t => (s.reply stBADPARAM []).Replied m 0x501 t) ∧
    (m.b8 0 ≤ 15 → Completes (.setGroups m) s fun t => ((schWrites ((bitsOf (m.b64 8) 64).map fun g => (WBL_GMAP g, w32 (m.b8 0))) s).reply stOK []).Replied m 0x501 t)) ∧
  (∀ m s, s.Accepts m 0x502 → (Completes (.waybillRing m) s fun t => ((schWrites [(WBL_RING_LO, w32 (m.b64 0)), (WBL_RING_HI, w32 (m.b64 0 / 2 ^ 32)), (WBL_CTRL, w32 ((m.b8 10 % 2 == 1).toNat * 2 ^ 31 + m.b8 9 * 256 + m.b8 8 % 32))] (schWrite WBL_CTRL (s.rd WBL_CTRL &&& 0x7FFFFFFF) s)).reply stOK []).Replied m 0x502 t)) ∧
  (∀ m s, s.Accepts m 0x503 → (15 < m.b8 0 → Completes (.getJob m) s fun t => (s.reply stBADPARAM []).Replied m 0x503 t) ∧
    (m.b8 0 ≤ 15 → Completes (.getJob m) s fun t => (schReply stOK [WBL_LTAG_LO (m.b8 0), WBL_LTAG_HI (m.b8 0), WBL_TOT_LO (m.b8 0), WBL_TOT_HI (m.b8 0), WBL_FTOT_LO (m.b8 0), WBL_FTOT_HI (m.b8 0)] s).Replied m 0x503 t)) ∧
  (∀ m s, s.Accepts m 0x504 → (m.b8 0 / 2 ^ 1 % 2 = 1 → Completes (.freeze m) s fun t => (schReply stOK [TLM_FRZ_STAT, TLM_FRZ_NUM] (schWrite TLM_FRZ_CTRL (w32 (m.b16 2 * 65536 + m.b8 0 / 2 ^ 2 % 2 * 256 + m.b8 0 / 2 ^ 3 % 2 * 4 + m.b8 0 / 2 ^ 1 % 2 * 2 + m.b8 0 / 2 ^ 0 % 2)) (schWrites [(TLM_FRZ_AT_LO, w32 (m.b64 8)), (TLM_FRZ_AT_HI, w32 (m.b64 8 / 2 ^ 32))] s))).Replied m 0x504 t) ∧
    (m.b8 0 / 2 ^ 1 % 2 = 0 → Completes (.freeze m) s fun t => (schReply stOK [TLM_FRZ_STAT, TLM_FRZ_NUM] (schWrite TLM_FRZ_CTRL (w32 (m.b16 2 * 65536 + m.b8 0 / 2 ^ 2 % 2 * 256 + m.b8 0 / 2 ^ 3 % 2 * 4 + m.b8 0 / 2 ^ 1 % 2 * 2 + m.b8 0 / 2 ^ 0 % 2)) s)).Replied m 0x504 t)) ∧
  (∀ m s, s.Accepts m 0x505 → (Completes (.tlmRing m) s fun t => ((schWrites [(TLM_RING_LO, w32 (m.b64 0)), (TLM_RING_HI, w32 (m.b64 0 / 2 ^ 32)), (TLM_RING_SEL, w32 (m.b8 10 * 65536 + m.b8 9)), (TLM_RING_CFG, w32 ((m.b8 11 % 2 == 1).toNat * 2 ^ 31 + m.b8 8 % 32))] (schWrite TLM_RING_CFG (s.rd TLM_RING_CFG &&& 0x7FFFFFFF) s)).reply stOK []).Replied m 0x505 t)) ∧
  (∀ m (s u : State), s.Accepts m 0x506 → u = schWrites [(TLM_TRX_LO, w32 (m.b64 0)), (TLM_TRX_HI, w32 (m.b64 0 / 2 ^ 32)), (TLM_TRX_CTRL, w32 (m.b8 8 * 256 + m.b8 9 % 2 * 2 + m.b8 9 / 2 % 2))] s →
    (m.b8 9 / 2 % 2 = 1 ∧ (s.get TLM_TRX_CTRL.BUSY = 1 ∨ u.get TLM_TRX_CTRL.BUSY = 0) → Completes (.traceExport m) s fun t => (schReply (u.get TLM_TRX_CTRL.RES) [TLM_TRX_CTRL] u).Replied m 0x506 t) ∧
    (m.b8 9 / 2 % 2 = 0 ∨ (s.get TLM_TRX_CTRL.BUSY = 0 ∧ u.get TLM_TRX_CTRL.BUSY = 1) → Completes (.traceExport m) s fun t => (schReply stOK [TLM_TRX_CTRL] u).Replied m 0x506 t)) ∧
  (∀ m s, s.Accepts m 0x507 → (m.b8 0 = 0 → Completes (.getAge m) s fun t => (s.reply stBADPARAM []).Replied m 0x507 t) ∧
    (1 ≤ m.b8 0 ∧ m.b8 0 ≤ 255 → Completes (.getAge m) s fun t => (schReply stOK ((List.range 4).map fun w => AGE_RGN0 (m.b8 0) + 4 * w) s).Replied m 0x507 t)) ∧
  (∀ m s, s.Accepts m 0x700 → (Completes (.cbseForce m) s fun t => (schReply stOK [CBSE_STAT] (schWrites [(CBSE_FORCE_LO, m.word 0), (CBSE_FORCE_HI, m.word 4)] s)).Replied m 0x700 t)) ∧
  (∀ m r s c, s.Accepts m 0x701 → c = m.b16 0 → (3072 ≤ c → Completes (.cellTest m r) s fun t => (s.reply stBADPARAM []).Replied m 0x701 t) ∧
    (c < 3072 → s.cellState c ≠ 0 → s.cellState c ≠ 4 → Completes (.cellTest m r) s fun t => (schReply stNOTREADY [CELL_TEST_RES c, CELL_STAT c] s).Replied m 0x701 t) ∧
    (∀ x u v, c < 3072 → s.cellState c = 4 → r = some x → u = schWrite (CELL_TEST c) (m.word 4) s → u.get (CELL_TEST.GO c) = 1 → v = cellTestDone c x u →
      (m.b8 8 % 2 = 0 → Completes (.cellTest m r) s fun t => (schReply stOK [CELL_TEST_RES c, CELL_STAT c] v).Replied m 0x701 t) ∧
      (m.b8 8 % 2 = 1 → Completes (.cellTest m r) s fun t => (schReply stOK [CELL_TEST_RES c, CELL_STAT c] (schWrite (CELL_CMD c) 5 v)).Replied m 0x701 t)) ∧
    (∀ w x u v, c < 3072 → s.cellState c = 0 → w = schWrite (CELL_CMD c) 4 s → w.cellState c = 4 → r = some x → u = schWrite (CELL_TEST c) (m.word 4) w → u.get (CELL_TEST.GO c) = 1 →
      v = cellTestDone c x u → m.b8 8 % 2 = 1 → Completes (.cellTest m r) s fun t => (schReply stOK [CELL_TEST_RES c, CELL_STAT c] (schWrite (CELL_CMD c) 5 v)).Replied m 0x701 t)) ∧
  (∀ m s, s.Accepts m 0x702 → (m.b8 0 = 0 → Completes (.skidForce m) s fun t => (s.reply stBADPARAM []).Replied m 0x702 t) ∧
    (1 ≤ m.b8 0 ∧ m.b8 0 ≤ 255 → Completes (.skidForce m) s fun t => ((schWrite (SKID_FORCE (m.b8 0)) (w32 (m.b8 1)) s).reply stOK []).Replied m 0x702 t)) ∧
  (∀ m s, s.Accepts m 0x703 → (Completes (.traceArm m) s fun t => (schReply stOK [TRC_STAT] (schWrite TRC_CTRL 1 (schWrites ((((List.range 8).map fun k => m.word (4 * k)).zipIdx.map fun e => (TRC_CH_CFG e.2, e.1)) ++ [(TRC_TRIG, m.word 32), (TRC_THR, m.word 36), (TRC_POST, w32 (m.b16 40))]) (schWrite TRC_CTRL 4 s)))).Replied m 0x703 t)) ∧
  (∀ m r s k u, s.Accepts m 0x704 → k = m.b8 0 → u = schWrite (SNS_URG k) (w32 (m.b8 1 % 64)) s →
    (3 < k → Completes (.snsUrgent m r) s fun t => (s.reply stBADPARAM []).Replied m 0x704 t) ∧
    (k ≤ 3 → snsChannels k ≤ m.b8 1 % 64 → Completes (.snsUrgent m r) s fun t => (schReply stBADPARAM [SNS_URES k] u).Replied m 0x704 t) ∧
    (k ≤ 3 → m.b8 1 % 64 < snsChannels k → 4 ≤ (s.sconv k).urg.length → Completes (.snsUrgent m r) s fun t => (schReply stBUSY [SNS_URES k] u).Replied m 0x704 t) ∧
    (∀ x v w, k ≤ 3 → m.b8 1 % 64 < snsChannels k → (s.sconv k).urg.length < 4 → u.snsOn k = true → u.locked = true → r = some x →
      v = (u.setSconv k { u.sconv k with cur := some ⟨m.b8 1 % 64, true, 0, (u.now / 100 + 1) * 100⟩, urg := (u.sconv k).urg.erase (m.b8 1 % 64) }).put (SNS_URG.QD k) ((u.sconv k).urg.erase (m.b8 1 % 64)).length →
      w = convComplete k x.toNat v → Completes (.snsUrgent m r) s fun t => (schReply stOK [SNS_URES k] (w.setSconv k { w.sconv k with cur := (u.sconv k).cur })).Replied m 0x704 t))

/-- O46 (derived; R536, R540, R543, R544, R546, R547, R550, R620). What GET_FW, STAGE_BEGIN, STAGE_DATA, STAGE_END,
ACTIVATE, CANCEL, CONFIRM and HEARTBEAT do. -/
def Obligations.YutreFirmwareOpcodesComplete : Prop :=
  (∀ m s, s.Accepts m 0x600 → (s.fw.verified = none → Completes (.getFw m) s fun t => (s.reply stOK [s.viewFwStat, s.rd FW_VER, s.viewFwAct, 0, 0]).Replied m 0x600 t) ∧
    (∀ f, s.fw.verified = some f → Completes (.getFw m) s fun t => (s.reply stOK [s.viewFwStat, s.rd FW_VER, s.viewFwAct, f.1, BitVec.ofNat 32 f.2]).Replied m 0x600 t)) ∧
  (∀ m s, s.Accepts m 0x601 → (s.inst ≠ 0 → Completes (.stageBegin m) s fun t => (s.reply stBADPARAM []).Replied m 0x601 t) ∧
    (s.inst = 0 ∧ (s.get FW_ACT.PEND = 1 ∨ s.fw.resetDue = true) → Completes (.stageBegin m) s fun t => (s.reply stBUSY []).Replied m 0x601 t) ∧
    ((s.inst = 0 ∧ s.get FW_ACT.PEND = 0 ∧ s.fw.resetDue = false) ∧ 0x800000 < m.b32 0 → Completes (.stageBegin m) s fun t => (s.reply stBADPARAM []).Replied m 0x601 t) ∧
    ((s.inst = 0 ∧ s.get FW_ACT.PEND = 0 ∧ s.fw.resetDue = false) ∧ m.b32 0 ≤ 0x800000 → Completes (.stageBegin m) s fun t => ((({ flashErase (slotBase s.stagedSlot) 0x800000 s with fw := { (flashErase (slotBase s.stagedSlot) 0x800000 s).fw with staged := some (m.b32 0), verified := none } } : State).reply stOK [])).Replied m 0x601 t)) ∧
  (∀ m data (s : State) ok, s.Accepts m 0x602 → ok = m.descOk 4 1 0 (fun _ => true) → (s.inst ≠ 0 → Completes (.stageData m data) s fun t => (s.reply stBADPARAM []).Replied m 0x602 t) ∧
    (s.inst = 0 → s.fw.staged = none → Completes (.stageData m data) s fun t => (s.reply stNOTREADY []).Replied m 0x602 t) ∧
    (∀ len, s.inst = 0 → s.fw.staged = some len → ok = false ∨ len < m.b32 0 + m.b32 12 → Completes (.stageData m data) s fun t => (s.reply stBADPARAM []).Replied m 0x602 t) ∧
    (∀ len, s.inst = 0 → s.fw.staged = some len → ok = true → m.b32 0 + m.b32 12 ≤ len → data = none → Completes (.stageData m data) s fun t => ((fabricError (m.b64 4) s).reply stINTERNAL []).Replied m 0x602 t) ∧
    (∀ len d u, s.inst = 0 → s.fw.staged = some len → ok = true → m.b32 0 + m.b32 12 ≤ len → data = some d → u = flashWrite (slotBase s.stagedSlot + m.b32 0) (d.take (m.b32 12)) s →
      Completes (.stageData m data) s fun t => (({ u with fw := { u.fw with verified := none } } : State).reply stOK []).Replied m 0x602 t)) ∧
  (∀ m (s u : State) f v, s.Accepts m 0x603 → u = s.ring kVL 5 → f = u.slotFault u.stagedSlot →
    v = { u with fw := { u.fw with verified := some (BitVec.ofNat 32 (hdrField (u.slotHeader u.stagedSlot) 16 4), hdrField (u.slotHeader u.stagedSlot) 8 4) } } →
    (s.inst ≠ 0 → Completes (.stageEnd m) s fun t => (s.reply stBADPARAM []).Replied m 0x603 t) ∧
    (s.inst = 0 → Completes (.stageEnd m) s fun t =>
      (f ≠ 0 → (({ u with fw := { u.fw with verified := none } } : State).reply stBADPARAM [BitVec.ofNat 32 f]).Replied m 0x603 t) ∧
      (f = 0 → s.get FW_STAT.BOOT = 4 → ((romBoot v).reply stOK []).Replied m 0x603 t) ∧
      (f = 0 → s.get FW_STAT.BOOT ≠ 4 → (v.reply stOK []).Replied m 0x603 t))) ∧
  (∀ m s, s.Accepts m 0x604 → (s.inst ≠ 0 → Completes (.activate m) s fun t => (s.reply stBADPARAM []).Replied m 0x604 t) ∧
    (s.inst = 0 ∧ s.get FW_ACT.PEND = 1 ∧ s.get FW_ACT.DEFERRED = 1 → Completes (.activate m) s fun t => (s.reply stDEFERRED []).Replied m 0x604 t) ∧
    (s.inst = 0 ∧ s.get FW_ACT.PEND = 1 ∧ s.get FW_ACT.DEFERRED = 0 → Completes (.activate m) s fun t => (s.reply stOK []).Replied m 0x604 t) ∧
    (s.inst = 0 ∧ s.get FW_ACT.PEND = 0 ∧ s.fw.verified = none → Completes (.activate m) s fun t => (s.reply stNOTREADY []).Replied m 0x604 t) ∧
    ((s.inst = 0 ∧ s.get FW_ACT.PEND = 0 ∧ s.fw.verified.isSome = true) ∧ (s.put FW_ACT.PEND 1).settled = true → Completes (.activate m) s fun t => ((s.put FW_ACT.PEND 1).reply stOK []).Replied m 0x604 t) ∧
    ((s.inst = 0 ∧ s.get FW_ACT.PEND = 0 ∧ s.fw.verified.isSome = true) ∧ (s.put FW_ACT.PEND 1).settled = false → Completes (.activate m) s fun t => ((((s.put FW_ACT.PEND 1).put FW_ACT.DEFERRED 1).ring kVL 4).reply stDEFERRED []).Replied m 0x604 t)) ∧
  (∀ m s, s.Accepts m 0x605 → (s.inst ≠ 0 → Completes (.cancel m) s fun t => (s.reply stBADPARAM []).Replied m 0x605 t) ∧
    (s.inst = 0 → Completes (.cancel m) s fun t => (((s.put FW_ACT.PEND 0).put FW_ACT.DEFERRED 0).reply stOK []).Replied m 0x605 t)) ∧
  (∀ m (s u : State) d, s.Accepts m 0x606 → d = s.directory.2 → u = dirWrite d.active 0 d.tries s → (s.inst ≠ 0 → Completes (.confirm m) s fun t => (s.reply stBADPARAM []).Replied m 0x606 t) ∧
    (s.inst = 0 → d.state ≠ 1 → Completes (.confirm m) s fun t => (s.reply stNOTREADY []).Replied m 0x606 t) ∧
    (s.inst = 0 → d.state = 1 → Completes (.confirm m) s fun t =>
      (({ u with efuse := { s.efuse with fused := max s.efuse.fused (u.get FW_STAT.SVN) } } : State).reply stOK []).Replied m 0x606 t)) ∧
  (∀ m s, s.Accepts m 0x607 → (s.Permits .sch FW_HOST_KICK 0 → Completes (.heartbeat m) s fun t => ((hostKick s).reply stOK []).Replied m 0x607 t))

/-- O47 (derived; R378, R626, R627, R628, R629, R630). What every PMBus transaction answers and latches. -/
def Obligations.PmbusTransactionsComplete : Prop :=
  (∀ p s, (p = 0 → s.rst.por = false → Completes (.page p) s fun t => t = s) ∧ (p ≠ 0 → s.rst.por = false → Completes (.page p) s fun t => t = cmlLatch 6 s)) ∧
  (∀ s, s.rst.por = false → Completes (.pageRead) s fun t => t = s.answer [0]) ∧
  (∀ s, s.rst.por = false → Completes (.capability) s fun t => t = s.answer [0xD0]) ∧
  (∀ s, s.rst.por = false → Completes (.voutMode) s fun t => t = s.answer [0x14]) ∧
  (∀ s, s.rst.por = false → Completes (.pmbusRevision) s fun t => t = s.answer [0x44]) ∧
  (∀ s, s.rst.por = false → Completes (.mfrId) s fun t => t = s.answer [0x42, 0x49, 0x52, 0x41, 0x55, 0x52, 0x49]) ∧
  (∀ s, s.rst.por = false → Completes (.mfrModel) s fun t => t = s.answer [0x56, 0x45, 0x4C, 0x4F, 0x4C]) ∧
  (∀ s, s.rst.por = false → Completes (.clearFaults) s fun t => t.smb = { alert := s.smb.alert } ∧ { t with smb := s.smb } = s) ∧
  (∀ s u, u = smbFresh s → (s.rst.por = false → Completes .statusByte s fun t => t = u.answer [BitVec.ofNat 32 (u.statusWord % 256)]) ∧
    (s.rst.por = false → Completes .statusWord s fun t => t = u.answer [BitVec.ofNat 32 (u.statusWord % 256), BitVec.ofNat 32 (u.statusWord / 256 % 256)])) ∧
  (∀ s u, u = smbFresh s → (s.rst.por = false → Completes .statusVout s fun t => t = u.answer [BitVec.ofNat 32 (u.smb.vout % 256)]) ∧ (s.rst.por = false → Completes .statusIout s fun t => t = u.answer [BitVec.ofNat 32 (u.smb.iout % 256)]) ∧
    (s.rst.por = false → Completes .statusInput s fun t => t = u.answer [BitVec.ofNat 32 (u.smb.input % 256)]) ∧ (s.rst.por = false → Completes .statusTemperature s fun t => t = u.answer [BitVec.ofNat 32 (u.smb.temp % 256)]) ∧
    (s.rst.por = false → Completes .statusCml s fun t => t = u.answer [BitVec.ofNat 32 (u.smb.cml % 256)]) ∧ (s.rst.por = false → Completes .statusMfrSpecific s fun t => t = u.answer [BitVec.ofNat 32 (u.smb.mfr % 256)])) ∧
  (∀ s : State, ((s.smb.cml ≠ 0 ↔ bitOf s.statusWord 1 = true) ∧ (s.smb.temp ≠ 0 ↔ bitOf s.statusWord 2 = true) ∧ (s.fsState ≠ 2 ↔ bitOf s.statusWord 6 = true) ∧
    (s.get XPH_STAT.PG = 0 ↔ bitOf s.statusWord 11 = true) ∧ (s.smb.mfr ≠ 0 ↔ bitOf s.statusWord 12 = true) ∧ (s.smb.input ≠ 0 ↔ bitOf s.statusWord 13 = true) ∧
    (s.smb.iout ≠ 0 ↔ bitOf s.statusWord 14 = true) ∧ (s.smb.vout ≠ 0 ↔ bitOf s.statusWord 15 = true))) ∧
  (∀ (num : Int) (den : Nat), 0 < den → 2 * num - den < 2 * den * roundHalfUp num den ∧ 2 * den * roundHalfUp num den ≤ 2 * num + den) ∧
  (∀ (num : Int) den lo hi w, linear11 num den lo hi = some w → ∃ n, lo ≤ n ∧ n ≤ hi ∧ -1024 ≤ linearY num den n ∧ linearY num den n ≤ 1023 ∧
    w = ofSigned 5 n * 2 ^ 11 + ofSigned 11 (linearY num den n) ∧ ∀ k, lo ≤ k → k < n → ¬ (-1024 ≤ linearY num den k ∧ linearY num den k ≤ 1023)) ∧
  (∀ s w, linear11 (s.get XPH_IN.V12 : Nat) 1000 (-6) 0 = some w → s.rst.por = false → Completes (.readVin) s fun t => t = s.answer [BitVec.ofNat 32 (w % 256), BitVec.ofNat 32 (w / 256 % 256)]) ∧
  (∀ s, (∀ w, linear11 (s.getI XPH_IN.I12) 16 (-6) 0 = some w → s.rst.por = false → Completes (.readIin) s fun t => t = s.answer [BitVec.ofNat 32 (w % 256), BitVec.ofNat 32 (w / 256 % 256)]) ∧
    (linear11 (s.getI XPH_IN.I12) 16 (-6) 0 = none → s.rst.por = false → Completes (.readIin) s fun t => ∃ b0 b1 : Word, t.rdata = [b0, b1] ∧ t.regs = s.regs)) ∧
  (∀ s, s.rst.por = false → Completes .readVout s fun t => ∃ v : Nat, (v : Int) = roundHalfUp (128 * s.get XPH_VIM.VIM : Nat) 25 ∧ t = s.answer [BitVec.ofNat 32 (v % 256), BitVec.ofNat 32 (v / 256 % 256)]) ∧
  (∀ s w, linear11 (s.getI XPH_IVIM.IVIM) 16 (-4) 2 = some w → s.rst.por = false → Completes (.readIout) s fun t => t = s.answer [BitVec.ofNat 32 (w % 256), BitVec.ofNat 32 (w / 256 % 256)]) ∧
  (∀ s, (∀ w, linear11 (s.get XPH_VIM.VIM * s.getI XPH_IVIM.IVIM) 12800 (-2) 3 = some w → s.rst.por = false → Completes (.readPout) s fun t => t = s.answer [BitVec.ofNat 32 (w % 256), BitVec.ofNat 32 (w / 256 % 256)]) ∧
    (linear11 (s.get XPH_VIM.VIM * s.getI XPH_IVIM.IVIM) 12800 (-2) 3 = none → s.rst.por = false → Completes (.readPout) s fun t => ∃ b0 b1 : Word, t.rdata = [b0, b1] ∧ t.regs = s.regs)) ∧
  (∀ (s : State) l, l = (((List.range 64).filter fun q => s.bit (THM_GSTAT.VALID q)).map fun q => s.getI (THM_GSTAT.TEMP q)) → (l = [] → s.rst.por = false → Completes (.readTemperature1) s fun t => ∃ b0 b1 : Word, t.rdata = [b0, b1] ∧ t.regs = s.regs) ∧
    (∀ x ∈ l, (∀ y ∈ l, y ≤ x) → ∀ w, linear11 x 16 (-4) 0 = some w → s.rst.por = false → Completes (.readTemperature1) s fun t => t = s.answer [BitVec.ofNat 32 (w % 256), BitVec.ofNat 32 (w / 256 % 256)])) ∧
  (∀ (s : State) l, l = (((List.range 32).filter fun p => s.bit (XPH_PH_CFG.EN p)).map fun p => ((s.get (XPH_PH_MEAS.TEMP p) : Nat) : Int)) → (l = [] → s.rst.por = false → Completes (.readTemperature2) s fun t => ∃ b0 b1 : Word, t.rdata = [b0, b1] ∧ t.regs = s.regs) ∧
    (∀ x ∈ l, (∀ y ∈ l, y ≤ x) → ∀ w, linear11 x 1 (-4) 0 = some w → s.rst.por = false → Completes (.readTemperature2) s fun t => t = s.answer [BitVec.ofNat 32 (w % 256), BitVec.ofNat 32 (w / 256 % 256)])) ∧
  (∀ v s, s.rst.por = false → (s.inst = 0 → s.rst.inst = false → Completes (.mfrPkgCap v) s fun t => t = pwrWrite PWR_PKG_BMC (v.zeroExtend 32) s) ∧
    (s.inst = 0 → s.rst.inst = true → Completes (.mfrPkgCap v) s fun t => t = s) ∧ (s.inst ≠ 0 → Completes (.mfrPkgCap v) s fun t => t = cmlLatch 6 s)) ∧
  (∀ s v, v = s.get PWR_PKG_BMC.BMC → s.rst.por = false → Completes (.mfrPkgCapRead) s fun t => t = s.answer [BitVec.ofNat 32 (v % 256), BitVec.ofNat 32 (v / 256 % 256)]) ∧
  (∀ s, s.rst.por = false → Completes (.mfrInstStatus) s fun t => t = s.answer ([VL_STAT, CBSE_STAT, CBSE_FIRST, THM_STAT, XPH_STAT].flatMap fun a => smbBytes 4 (s.blockView a).toNat)) ∧
  (∀ s, s.rst.por = false → Completes (.mfrCapState) s fun t => t = s.answer (smbBytes 4 (s.blockView PWR_STAT).toNat ++ smbBytes 2 (s.blockView PWR_DEFICIT).toNat ++ [0, 0])) ∧
  (∀ s, s.rst.por = false → Completes (.mfrEin) s fun t => t = s.answer (smbBytes 8 (s.get64 PWR_EIN_LO)) ∧ t.rdata.length = 8) ∧
  (∀ (f : Fin 4) s, s.rst.por = false → Completes (.pmbusInvalidCommand f) s fun t => ∃ b, b = [7, 6, 5, 1].getD f.val 1 ∧ bitOf t.smb.cml b = true ∧ { t with smb := s.smb } = s ∧
    t.smb = { s.smb with cml := setBitN s.smb.cml b, alert := s.smb.alert || (s.bit MCH_SMB.ALERT_EN && setBitN s.smb.cml b != s.smb.cml) }) ∧
  (∀ s u, u = smbFresh s → (u.smb.alert = true → u.get MCH_SMB.ALERT_EN = 1 → s.rst.por = false → Completes .alertResponse s fun t => t.smb = { u.smb with alert := false } ∧
      t.rdata = [BitVec.ofNat 32 (0x60 + 4 * s.rst.asel + s.inst)] ∧ t.regs = u.regs) ∧
    (u.smb.alert = false ∨ u.get MCH_SMB.ALERT_EN = 0 → s.rst.por = false → Completes .alertResponse s fun t => t = u))

/-- O48 (derived; R47, R132, spec/04_regions.md). The list of regions that the machine walks holds exactly the regions
1..255 whose state is not OFF. -/
def Obligations.LiveRegionsAreThoseNotOff : Prop :=
  (∀ (n : Nat) (s : State), n ∈ s.liveRegions ↔ 1 ≤ n ∧ n < 256 ∧ s.rgnState n ≠ 0)

/-- O49 (stated; R47). A write of 0 to TIM_CTRL.PLL_EN is refused exactly while a region is not OFF or a phase is not
latched off or disabled. -/
def Obligations.PllStopIsRefusedWhileAnythingIsLive : Prop :=
  ∀ (req : Requester) (s : State), s.Permits req TIM_CTRL 0 → s.get TIM_CTRL.PLL_EN = 1 →
    ((∃ n, 1 ≤ n ∧ n < 256 ∧ s.rgnState n ≠ 0) ∨ (∃ p, p < 32 ∧ s.phState p ≠ 0 ∧ s.phState p ≠ 1 ∧ s.phState p ≠ 5) →
      Completes (.pllStop req) s fun t =>
        t.get TIM_CTRL.PLL_EN = 1 ∧ t.get TIM_STAT.PLL_OFF_REFUSED = 1 ∧ s.Frame t [TIM_STAT.PLL_OFF_REFUSED]) ∧
    ((∀ n, 1 ≤ n → n < 256 → s.rgnState n = 0) → (∀ p, p < 32 → s.phState p = 0 ∨ s.phState p = 1 ∨ s.phState p = 5) →
      Completes (.pllStop req) s fun t =>
        (s.locked = false → t = s.put TIM_CTRL.PLL_EN 0) ∧ (s.locked = true → t = clocksStop (s.put TIM_CTRL.PLL_EN 0)))

/-- O50 (stated; R607). A claim of a channel that is not EMPTY or not enabled returns 0 and changes nothing; while a
claim that returned 1 stands, the next returns 0. -/
def Obligations.OneClaimOfAMailChannelSucceeds : Prop :=
  ∀ (e e' : Dword) (p q : Requester) (c : Fin 32) (s : State),
    (s.rst.inst = true → Completes (.channelClaim e p c) s fun t => t = s.answer [s.rd (MCH_CH_CLAIM c)]) ∧
    (s.rst.inst = false →
      ((fillTimeout c (s.advanceTo e)).chState c ≠ 0 ∨ (fillTimeout c (s.advanceTo e)).get (MCH_CH_CFG.EN c) = 0 →
        Completes (.channelClaim e p c) s fun t => t = (fillTimeout c (s.advanceTo e)).answer [0]) ∧
      (Completes (.channelClaim e p c) s fun t => t.rdata = [1] → (t.advanceTo e').now < (t.advanceTo e').fillEnd c →
        Completes (.channelClaim e' q c) t fun w => w = (t.advanceTo e').answer [0]))

/-- O51 (stated; R611). A write of MCH_CH_CFG[c] is taken while the channel is EMPTY, else ignored with BADWR; with EN =
0 taken, claims return 0. -/
def Obligations.ChannelConfigurationWaitsForEmpty : Prop :=
  ∀ (req p : Requester) (e : Dword) (c : Fin 32) (v : Word) (s : State), s.Permits req (MCH_CH_CFG c) v →
    ∀ u, u = fillTimeout c s →
    (u.chState c ≠ 0 →
      Completes (.channelConfigWrite req c v) s fun t => t.get MCH_STAT.BADWR = 1 ∧ u.Frame t [MCH_STAT.BADWR]) ∧
    (u.chState c = 0 →
      Completes (.channelConfigWrite req c v) s fun t =>
        (∃ r, regDef? (MCH_CH_CFG c) = some r ∧ t.rd (MCH_CH_CFG c) = storeWord r (u.freshBits (MCH_CH_CFG c)) (u.rd (MCH_CH_CFG c)) v) ∧
        u.KeepsRegs t (· = MCH_CH_CFG c) ∧
        (s.rst.inst = false → fldGet v (MCH_CH_CFG.EN c).hi (MCH_CH_CFG.EN c).lo = 0 →
          t.get (MCH_CH_CFG.EN c) = 0 ∧
          Completes (.channelClaim e p c) t fun w => w = (fillTimeout c (t.advanceTo e)).answer [0]))

/-- O52 (derived; R240, R380, R389, spec/06_loop_engine.md, spec/11_power_policy.md). The integer square root is exact,
the four shares never exceed the package cap, and a Waybill interval's energy is shared out whole. -/
def Obligations.ExactArithmeticKeepsItsBounds : Prop :=
  (∀ m, m < 2 ^ 64 → isqrt m * isqrt m ≤ m ∧ m < (isqrt m + 1) * (isqrt m + 1)) ∧
  (∀ (p smin : Nat) (ms : List Nat), ms.length = 4 → (sharesOf p smin ms).length = 4 ∧ (sharesOf p smin ms).sum ≤ p ∧
    (4 * smin ≤ p → p < ms.sum → ∀ x ∈ sharesOf p smin ms, smin ≤ x)) ∧
  (∀ (e : Nat) (ws fs : List Nat), ws.length = 16 → fs.length = 16 → (splitEnergy e ws fs).length = 16 ∧ ((splitEnergy e ws fs).map (·.1)).sum = e)

/-- O53 (derived; R62, R633, R635, R638). While instance reset is asserted the commands of the CTRL island change
nothing, and in power-on reset PMBus changes nothing. -/
def Obligations.ResetsHoldTheirCommands : Prop :=
  (∀ c s, heldInReset c = true → s.rst.inst = true → Completes c s fun t => t = s) ∧
  (∀ c s, onPmbus c = true → s.rst.por = true → Completes c s fun t => t = s)
end

