-- ==== Sys2Proof/Laws/Maps.lean ====
section
/-! SUPPORT. Laws/Maps.lean: what the bit fields and the sparse maps of Machine/Bits.lean do: a read after a write, and the
canonical form. -/

namespace Sys2Proof.Machine

/-! ### Bit fields -/

/-- A field reads the value stored in it, cut to its width. -/
theorem fldGet_fldSet_same (w : Word) (hi lo v : Nat) (h : lo ≤ hi) (hh : hi < 32) :
    fldGet (fldSet w hi lo v) hi lo = v % 2 ^ (hi + 1 - lo) := by
  apply Nat.eq_of_testBit_eq
  intro i
  simp only [fldGet, fldSet, fldMask, BitVec.toNat_ushiftRight, Nat.testBit_mod_two_pow, Nat.testBit_shiftRight,
    BitVec.testBit_toNat, BitVec.getLsbD_or, BitVec.getLsbD_and, BitVec.getLsbD_not, BitVec.getLsbD_ofNat,
    Nat.testBit_mul_two_pow, Nat.testBit_two_pow_sub_one]
  by_cases hi' : i < hi + 1 - lo
  · have h1 : lo + i < 32 := by omega
    have h2 : lo ≤ lo + i := by omega
    simp [hi', h1]
  · simp [hi']

/-- Storing a field leaves a field of other bits. -/
theorem fldGet_fldSet_other (w : Word) (hi lo hi' lo' v : Nat) (h : hi < lo' ∨ hi' < lo) :
    fldGet (fldSet w hi lo v) hi' lo' = fldGet w hi' lo' := by
  apply Nat.eq_of_testBit_eq
  intro i
  simp only [fldGet, fldSet, fldMask, BitVec.toNat_ushiftRight, Nat.testBit_mod_two_pow, Nat.testBit_shiftRight,
    BitVec.testBit_toNat, BitVec.getLsbD_or, BitVec.getLsbD_and, BitVec.getLsbD_not, BitVec.getLsbD_ofNat,
    Nat.testBit_mul_two_pow, Nat.testBit_two_pow_sub_one]
  by_cases hi1 : i < hi' + 1 - lo'
  · have hd : ¬ (lo ≤ lo' + i ∧ lo' + i - lo < hi + 1 - lo) := by omega
    by_cases hb : lo' + i < 32
    · by_cases hl : lo ≤ lo' + i
      · have : ¬ (lo' + i - lo < hi + 1 - lo) := fun x => hd ⟨hl, x⟩
        simp [hi1, hb, this]
      · simp [hi1, hb, hl]
    · simp [hi1, hb, BitVec.getLsbD_of_ge _ _ (Nat.le_of_not_lt hb)]
  · simp [hi1]

/-- A field is less than two to its width. -/
theorem fldGet_lt (w : Word) (hi lo : Nat) : fldGet w hi lo < 2 ^ (hi + 1 - lo) := Nat.mod_lt _ (by positivity)

/-! ### Maps -/

variable {α : Type}

theorem mapGet_erase_same (d : α) (m : Map α) (k : Nat) : mapGet d (mapErase m k) k = d := by
  induction m with
  | nil => rfl
  | cons e rest ih =>
    by_cases h : e.1 = k
    · simpa [mapErase, h] using ih
    · simp only [mapErase, List.filter, h, ne_eq, not_false_eq_true, decide_true, mapGet] at ih ⊢
      simpa [h] using ih

theorem mapGet_erase_other (d : α) (m : Map α) (k j : Nat) (h : j ≠ k) : mapGet d (mapErase m k) j = mapGet d m j := by
  induction m with
  | nil => rfl
  | cons e rest ih =>
    by_cases hk : e.1 = k
    · have : e.1 ≠ j := by omega
      simpa [mapErase, hk, mapGet, this, Ne.symm h] using ih
    · have hf : mapErase (e :: rest) k = e :: mapErase rest k := by simp [mapErase, hk]
      rw [hf]
      by_cases hj : e.1 = j
      · simp [mapGet, hj]
      · simpa [mapGet, hj] using ih

theorem mapGet_insert_same (d : α) (m : Map α) (k : Nat) (v : α) (h : ∀ e ∈ m, e.1 ≠ k) :
    mapGet d (mapInsert m k v) k = v := by
  induction m with
  | nil => simp [mapInsert, mapGet]
  | cons e rest ih =>
    by_cases hk : k < e.1
    · simp [mapInsert, hk, mapGet]
    · have h1 : e.1 ≠ k := h e (by simp)
      have := ih (fun x hx => h x (List.mem_cons_of_mem _ hx))
      simpa [mapInsert, hk, mapGet, h1] using this

theorem mapGet_insert_other (d : α) (m : Map α) (k j : Nat) (v : α) (h : j ≠ k) :
    mapGet d (mapInsert m k v) j = mapGet d m j := by
  induction m with
  | nil => simp [mapInsert, mapGet, Ne.symm h]
  | cons e rest ih =>
    by_cases hk : k < e.1
    · simp [mapInsert, hk, mapGet, Ne.symm h]
    · by_cases hj : e.1 = j
      · have hjk : ¬ k < j := hj ▸ hk
        simp [mapInsert, mapGet, hj, hjk]
      · simpa [mapInsert, hk, mapGet, hj] using ih

theorem mapErase_ne (m : Map α) (k : Nat) : ∀ e ∈ mapErase m k, e.1 ≠ k := by
  intro e he
  simpa [mapErase] using (List.mem_filter.mp he).2

theorem mapErase_pairwise (m : Map α) (k : Nat) (h : List.Pairwise (fun a b => a.1 < b.1) m) :
    List.Pairwise (fun a b => a.1 < b.1) (mapErase m k) := h.filter _

theorem mapInsert_mem (m : Map α) (k : Nat) (v : α) (e : Nat × α) (h : e ∈ mapInsert m k v) : e = (k, v) ∨ e ∈ m := by
  induction m with
  | nil => simpa [mapInsert] using h
  | cons f rest ih =>
    unfold mapInsert at h
    split at h
    · simpa using h
    · rcases List.mem_cons.mp h with h | h
      · exact .inr (by simp [h])
      · rcases ih h with h | h
        · exact .inl h
        · exact .inr (List.mem_cons_of_mem _ h)

theorem mapInsert_pairwise (m : Map α) (k : Nat) (v : α) (h : List.Pairwise (fun a b => a.1 < b.1) m)
    (hk : ∀ e ∈ m, e.1 ≠ k) : List.Pairwise (fun a b => a.1 < b.1) (mapInsert m k v) := by
  induction m with
  | nil => simp [mapInsert]
  | cons f rest ih =>
    rw [List.pairwise_cons] at h
    unfold mapInsert
    split
    · rename_i hlt
      exact List.pairwise_cons.mpr ⟨fun e he => by
        rcases List.mem_cons.mp he with rfl | he
        · exact hlt
        · exact lt_trans hlt (h.1 e he), List.pairwise_cons.mpr h⟩
    · rename_i hlt
      have hne : f.1 ≠ k := hk f (by simp)
      refine List.pairwise_cons.mpr ⟨fun e he => ?_, ih h.2 (fun e he => hk e (List.mem_cons_of_mem _ he))⟩
      rcases mapInsert_mem _ _ _ _ he with rfl | he
      · exact lt_of_le_of_ne (Nat.le_of_not_lt hlt) hne
      · exact h.1 e he

variable [DecidableEq α]

/-- The written key reads the written value. -/
theorem mapGet_mapSet_same (d : α) (m : Map α) (k : Nat) (v : α) : mapGet d (mapSet d m k v) k = v := by
  unfold mapSet
  split
  · rename_i h; rw [mapGet_erase_same, h]
  · exact mapGet_insert_same d _ k v (mapErase_ne m k)

/-- Every other key reads as before. -/
theorem mapGet_mapSet_other (d d' : α) (m : Map α) (k j : Nat) (v : α) (h : j ≠ k) :
    mapGet d' (mapSet d m k v) j = mapGet d' m j := by
  unfold mapSet
  split
  · exact mapGet_erase_other d' m k j h
  · rw [mapGet_insert_other _ _ _ _ _ h, mapGet_erase_other d' m k j h]

/-! ### The canonical form -/

/-- The canonical form as two facts: keys strictly rising, no entry equal to its default. -/
theorem mapWf_iff (d : Nat → α) (m : Map α) :
    mapWf d m = true ↔ List.Pairwise (fun a b => a.1 < b.1) m ∧ ∀ e ∈ m, e.2 ≠ d e.1 := by
  induction m with
  | nil => simp [mapWf]
  | cons e rest ih =>
    cases rest with
    | nil => simp [mapWf]
    | cons f rest =>
      simp only [mapWf, Bool.and_eq_true, decide_eq_true_eq, ih, List.pairwise_cons, List.mem_cons, forall_eq_or_imp]
      constructor
      · rintro ⟨⟨h1, h2⟩, ⟨⟨h3, h4⟩, h5, h6⟩⟩
        exact ⟨⟨⟨h2, fun x hx => lt_trans h2 (h3 x hx)⟩, h3, h4⟩, h1, h5, h6⟩
      · rintro ⟨⟨⟨h2, _⟩, h3, h4⟩, h1, h5, h6⟩
        exact ⟨⟨h1, h2⟩, ⟨h3, h4⟩, h5, h6⟩

/-- A write keeps the canonical form. -/
theorem mapWf_mapSet (d : Nat → α) (m : Map α) (k : Nat) (v : α) (h : mapWf d m = true) :
    mapWf d (mapSet (d k) m k v) = true := by
  rw [mapWf_iff] at h ⊢
  have he : ∀ e ∈ mapErase m k, e.2 ≠ d e.1 := fun e he => h.2 e (List.mem_filter.mp he).1
  unfold mapSet
  split
  · exact ⟨mapErase_pairwise m k h.1, he⟩
  · rename_i hv
    refine ⟨mapInsert_pairwise _ k v (mapErase_pairwise m k h.1) (mapErase_ne m k), fun e hm => ?_⟩
    rcases mapInsert_mem _ _ _ _ hm with rfl | hm
    · exact hv
    · exact he e hm

/-- Leaving entries out keeps the canonical form. -/
theorem mapWf_filter (d : Nat → α) (m : Map α) (p : Nat × α → Bool) (h : mapWf d m = true) :
    mapWf d (m.filter p) = true := by
  rw [mapWf_iff] at h ⊢
  exact ⟨h.1.filter _, fun e he => h.2 e (List.mem_filter.mp he).1⟩

omit [DecidableEq α] in
/-- Leaving keys out gives those keys the default and leaves the others. -/
theorem mapGet_filter (d : α) (m : Map α) (q : Nat → Bool) (k : Nat) :
    mapGet d (m.filter fun e => q e.1) k = if q k then mapGet d m k else d := by
  induction m with
  | nil => simp [mapGet]
  | cons e rest ih =>
    obtain ⟨a, v⟩ := e
    by_cases hq : q a = true
    · rw [List.filter_cons_of_pos (by simpa using hq)]
      by_cases ha : a = k
      · subst ha; simp [mapGet, hq]
      · simpa [mapGet, ha] using ih
    · rw [List.filter_cons_of_neg (by simpa using hq), ih]
      by_cases ha : a = k
      · subst ha; simp [hq]
      · simp [mapGet, ha]

end Sys2Proof.Machine
end

