-- ==== Sys2Proof/Laws/State.lean ====
section
/-! SUPPORT. Laws/State.lean: a write to a register leaves every other field of State as it is, field by field, and an update of
another field leaves the registers. -/

namespace Sys2Proof.Machine.State

/-! ### wr -/

@[simp] theorem wr_ts (s : State) (a : Nat) (w : Word) : (s.wr a w).ts = s.ts := rfl
@[simp] theorem wr_efuse (s : State) (a : Nat) (w : Word) : (s.wr a w).efuse = s.efuse := rfl
@[simp] theorem wr_latch (s : State) (a : Nat) (w : Word) : (s.wr a w).latch = s.latch := rfl
@[simp] theorem wr_rdata (s : State) (a : Nat) (w : Word) : (s.wr a w).rdata = s.rdata := rfl
@[simp] theorem wr_freeCtr (s : State) (a : Nat) (w : Word) : (s.wr a w).freeCtr = s.freeCtr := rfl
@[simp] theorem wr_tim (s : State) (a : Nat) (w : Word) : (s.wr a w).tim = s.tim := rfl
@[simp] theorem wr_sea (s : State) (a : Nat) (w : Word) : (s.wr a w).sea = s.sea := rfl
@[simp] theorem wr_cell (s : State) (a : Nat) (w : Word) : (s.wr a w).cell = s.cell := rfl
@[simp] theorem wr_rgn (s : State) (a : Nat) (w : Word) : (s.wr a w).rgn = s.rgn := rfl
@[simp] theorem wr_cfg (s : State) (a : Nat) (w : Word) : (s.wr a w).cfg = s.cfg := rfl
@[simp] theorem wr_ph (s : State) (a : Nat) (w : Word) : (s.wr a w).ph = s.ph := rfl
@[simp] theorem wr_xph (s : State) (a : Nat) (w : Word) : (s.wr a w).xph = s.xph := rfl
@[simp] theorem wr_loop (s : State) (a : Nat) (w : Word) : (s.wr a w).loop = s.loop := rfl
@[simp] theorem wr_lpe (s : State) (a : Nat) (w : Word) : (s.wr a w).lpe = s.lpe := rfl
@[simp] theorem wr_trc (s : State) (a : Nat) (w : Word) : (s.wr a w).trc = s.trc := rfl
@[simp] theorem wr_ttb (s : State) (a : Nat) (w : Word) : (s.wr a w).ttb = s.ttb := rfl
@[simp] theorem wr_odr (s : State) (a : Nat) (w : Word) : (s.wr a w).odr = s.odr := rfl
@[simp] theorem wr_skid (s : State) (a : Nat) (w : Word) : (s.wr a w).skid = s.skid := rfl
@[simp] theorem wr_tndr (s : State) (a : Nat) (w : Word) : (s.wr a w).tndr = s.tndr := rfl
@[simp] theorem wr_pwr (s : State) (a : Nat) (w : Word) : (s.wr a w).pwr = s.pwr := rfl
@[simp] theorem wr_pwrRgn (s : State) (a : Nat) (w : Word) : (s.wr a w).pwrRgn = s.pwrRgn := rfl
@[simp] theorem wr_wblGrp (s : State) (a : Nat) (w : Word) : (s.wr a w).wblGrp = s.wblGrp := rfl
@[simp] theorem wr_cplr (s : State) (a : Nat) (w : Word) : (s.wr a w).cplr = s.cplr := rfl
@[simp] theorem wr_cplrEp (s : State) (a : Nat) (w : Word) : (s.wr a w).cplrEp = s.cplrEp := rfl
@[simp] theorem wr_cplrSlot (s : State) (a : Nat) (w : Word) : (s.wr a w).cplrSlot = s.cplrSlot := rfl
@[simp] theorem wr_sns (s : State) (a : Nat) (w : Word) : (s.wr a w).sns = s.sns := rfl
@[simp] theorem wr_snsConv (s : State) (a : Nat) (w : Word) : (s.wr a w).snsConv = s.snsConv := rfl
@[simp] theorem wr_snsComp (s : State) (a : Nat) (w : Word) : (s.wr a w).snsComp = s.snsComp := rfl
@[simp] theorem wr_thmSensor (s : State) (a : Nat) (w : Word) : (s.wr a w).thmSensor = s.thmSensor := rfl
@[simp] theorem wr_thmGroup (s : State) (a : Nat) (w : Word) : (s.wr a w).thmGroup = s.thmGroup := rfl
@[simp] theorem wr_thm (s : State) (a : Nat) (w : Word) : (s.wr a w).thm = s.thm := rfl
@[simp] theorem wr_cbse (s : State) (a : Nat) (w : Word) : (s.wr a w).cbse = s.cbse := rfl
@[simp] theorem wr_tlm (s : State) (a : Nat) (w : Word) : (s.wr a w).tlm = s.tlm := rfl
@[simp] theorem wr_fw (s : State) (a : Nat) (w : Word) : (s.wr a w).fw = s.fw := rfl
@[simp] theorem wr_core (s : State) (a : Nat) (w : Word) : (s.wr a w).core = s.core := rfl
@[simp] theorem wr_cache (s : State) (a : Nat) (w : Word) : (s.wr a w).cache = s.cache := rfl
@[simp] theorem wr_ram (s : State) (a : Nat) (w : Word) : (s.wr a w).ram = s.ram := rfl
@[simp] theorem wr_yutre (s : State) (a : Nat) (w : Word) : (s.wr a w).yutre = s.yutre := rfl
@[simp] theorem wr_pst (s : State) (a : Nat) (w : Word) : (s.wr a w).pst = s.pst := rfl
@[simp] theorem wr_smb (s : State) (a : Nat) (w : Word) : (s.wr a w).smb = s.smb := rfl
@[simp] theorem wr_mch (s : State) (a : Nat) (w : Word) : (s.wr a w).mch = s.mch := rfl
@[simp] theorem wr_rst (s : State) (a : Nat) (w : Word) : (s.wr a w).rst = s.rst := rfl
@[simp] theorem wr_hold (s : State) (a : Nat) (w : Word) : (s.wr a w).hold = s.hold := rfl
@[simp] theorem wr_out (s : State) (a : Nat) (w : Word) : (s.wr a w).out = s.out := rfl
@[simp] theorem wr_pending (s : State) (a : Nat) (w : Word) : (s.wr a w).pending = s.pending := rfl

/-! ### put -/

@[simp] theorem put_ts (s : State) (f : Fld) (v : Nat) : (s.put f v).ts = s.ts := rfl
@[simp] theorem put_efuse (s : State) (f : Fld) (v : Nat) : (s.put f v).efuse = s.efuse := rfl
@[simp] theorem put_latch (s : State) (f : Fld) (v : Nat) : (s.put f v).latch = s.latch := rfl
@[simp] theorem put_rdata (s : State) (f : Fld) (v : Nat) : (s.put f v).rdata = s.rdata := rfl
@[simp] theorem put_freeCtr (s : State) (f : Fld) (v : Nat) : (s.put f v).freeCtr = s.freeCtr := rfl
@[simp] theorem put_tim (s : State) (f : Fld) (v : Nat) : (s.put f v).tim = s.tim := rfl
@[simp] theorem put_sea (s : State) (f : Fld) (v : Nat) : (s.put f v).sea = s.sea := rfl
@[simp] theorem put_cell (s : State) (f : Fld) (v : Nat) : (s.put f v).cell = s.cell := rfl
@[simp] theorem put_rgn (s : State) (f : Fld) (v : Nat) : (s.put f v).rgn = s.rgn := rfl
@[simp] theorem put_cfg (s : State) (f : Fld) (v : Nat) : (s.put f v).cfg = s.cfg := rfl
@[simp] theorem put_ph (s : State) (f : Fld) (v : Nat) : (s.put f v).ph = s.ph := rfl
@[simp] theorem put_xph (s : State) (f : Fld) (v : Nat) : (s.put f v).xph = s.xph := rfl
@[simp] theorem put_loop (s : State) (f : Fld) (v : Nat) : (s.put f v).loop = s.loop := rfl
@[simp] theorem put_lpe (s : State) (f : Fld) (v : Nat) : (s.put f v).lpe = s.lpe := rfl
@[simp] theorem put_trc (s : State) (f : Fld) (v : Nat) : (s.put f v).trc = s.trc := rfl
@[simp] theorem put_ttb (s : State) (f : Fld) (v : Nat) : (s.put f v).ttb = s.ttb := rfl
@[simp] theorem put_odr (s : State) (f : Fld) (v : Nat) : (s.put f v).odr = s.odr := rfl
@[simp] theorem put_skid (s : State) (f : Fld) (v : Nat) : (s.put f v).skid = s.skid := rfl
@[simp] theorem put_tndr (s : State) (f : Fld) (v : Nat) : (s.put f v).tndr = s.tndr := rfl
@[simp] theorem put_pwr (s : State) (f : Fld) (v : Nat) : (s.put f v).pwr = s.pwr := rfl
@[simp] theorem put_pwrRgn (s : State) (f : Fld) (v : Nat) : (s.put f v).pwrRgn = s.pwrRgn := rfl
@[simp] theorem put_wblGrp (s : State) (f : Fld) (v : Nat) : (s.put f v).wblGrp = s.wblGrp := rfl
@[simp] theorem put_cplr (s : State) (f : Fld) (v : Nat) : (s.put f v).cplr = s.cplr := rfl
@[simp] theorem put_cplrEp (s : State) (f : Fld) (v : Nat) : (s.put f v).cplrEp = s.cplrEp := rfl
@[simp] theorem put_cplrSlot (s : State) (f : Fld) (v : Nat) : (s.put f v).cplrSlot = s.cplrSlot := rfl
@[simp] theorem put_sns (s : State) (f : Fld) (v : Nat) : (s.put f v).sns = s.sns := rfl
@[simp] theorem put_snsConv (s : State) (f : Fld) (v : Nat) : (s.put f v).snsConv = s.snsConv := rfl
@[simp] theorem put_snsComp (s : State) (f : Fld) (v : Nat) : (s.put f v).snsComp = s.snsComp := rfl
@[simp] theorem put_thmSensor (s : State) (f : Fld) (v : Nat) : (s.put f v).thmSensor = s.thmSensor := rfl
@[simp] theorem put_thmGroup (s : State) (f : Fld) (v : Nat) : (s.put f v).thmGroup = s.thmGroup := rfl
@[simp] theorem put_thm (s : State) (f : Fld) (v : Nat) : (s.put f v).thm = s.thm := rfl
@[simp] theorem put_cbse (s : State) (f : Fld) (v : Nat) : (s.put f v).cbse = s.cbse := rfl
@[simp] theorem put_tlm (s : State) (f : Fld) (v : Nat) : (s.put f v).tlm = s.tlm := rfl
@[simp] theorem put_fw (s : State) (f : Fld) (v : Nat) : (s.put f v).fw = s.fw := rfl
@[simp] theorem put_core (s : State) (f : Fld) (v : Nat) : (s.put f v).core = s.core := rfl
@[simp] theorem put_cache (s : State) (f : Fld) (v : Nat) : (s.put f v).cache = s.cache := rfl
@[simp] theorem put_ram (s : State) (f : Fld) (v : Nat) : (s.put f v).ram = s.ram := rfl
@[simp] theorem put_yutre (s : State) (f : Fld) (v : Nat) : (s.put f v).yutre = s.yutre := rfl
@[simp] theorem put_pst (s : State) (f : Fld) (v : Nat) : (s.put f v).pst = s.pst := rfl
@[simp] theorem put_smb (s : State) (f : Fld) (v : Nat) : (s.put f v).smb = s.smb := rfl
@[simp] theorem put_mch (s : State) (f : Fld) (v : Nat) : (s.put f v).mch = s.mch := rfl
@[simp] theorem put_rst (s : State) (f : Fld) (v : Nat) : (s.put f v).rst = s.rst := rfl
@[simp] theorem put_hold (s : State) (f : Fld) (v : Nat) : (s.put f v).hold = s.hold := rfl
@[simp] theorem put_out (s : State) (f : Fld) (v : Nat) : (s.put f v).out = s.out := rfl
@[simp] theorem put_pending (s : State) (f : Fld) (v : Nat) : (s.put f v).pending = s.pending := rfl

/-! ### Updates of another field -/

/-- The stored word depends on the register map alone. -/
theorem rd_congr (s t : State) (a : Nat) (h : t.regs = s.regs) : t.rd a = s.rd a := by rw [rd, rd, h]

@[simp] theorem rd_with_ts (s : State) (x) (a : Nat) : ({ s with ts := x } : State).rd a = s.rd a := rfl
@[simp] theorem get_with_ts (s : State) (x) (g : Fld) : ({ s with ts := x } : State).get g = s.get g := rfl
@[simp] theorem rd_with_efuse (s : State) (x) (a : Nat) : ({ s with efuse := x } : State).rd a = s.rd a := rfl
@[simp] theorem get_with_efuse (s : State) (x) (g : Fld) : ({ s with efuse := x } : State).get g = s.get g := rfl
@[simp] theorem rd_with_latch (s : State) (x) (a : Nat) : ({ s with latch := x } : State).rd a = s.rd a := rfl
@[simp] theorem get_with_latch (s : State) (x) (g : Fld) : ({ s with latch := x } : State).get g = s.get g := rfl
@[simp] theorem rd_with_rdata (s : State) (x) (a : Nat) : ({ s with rdata := x } : State).rd a = s.rd a := rfl
@[simp] theorem get_with_rdata (s : State) (x) (g : Fld) : ({ s with rdata := x } : State).get g = s.get g := rfl
@[simp] theorem rd_with_freeCtr (s : State) (x) (a : Nat) : ({ s with freeCtr := x } : State).rd a = s.rd a := rfl
@[simp] theorem get_with_freeCtr (s : State) (x) (g : Fld) : ({ s with freeCtr := x } : State).get g = s.get g := rfl
@[simp] theorem rd_with_tim (s : State) (x) (a : Nat) : ({ s with tim := x } : State).rd a = s.rd a := rfl
@[simp] theorem get_with_tim (s : State) (x) (g : Fld) : ({ s with tim := x } : State).get g = s.get g := rfl
@[simp] theorem rd_with_sea (s : State) (x) (a : Nat) : ({ s with sea := x } : State).rd a = s.rd a := rfl
@[simp] theorem get_with_sea (s : State) (x) (g : Fld) : ({ s with sea := x } : State).get g = s.get g := rfl
@[simp] theorem rd_with_cell (s : State) (x) (a : Nat) : ({ s with cell := x } : State).rd a = s.rd a := rfl
@[simp] theorem get_with_cell (s : State) (x) (g : Fld) : ({ s with cell := x } : State).get g = s.get g := rfl
@[simp] theorem rd_with_rgn (s : State) (x) (a : Nat) : ({ s with rgn := x } : State).rd a = s.rd a := rfl
@[simp] theorem get_with_rgn (s : State) (x) (g : Fld) : ({ s with rgn := x } : State).get g = s.get g := rfl
@[simp] theorem rd_with_cfg (s : State) (x) (a : Nat) : ({ s with cfg := x } : State).rd a = s.rd a := rfl
@[simp] theorem get_with_cfg (s : State) (x) (g : Fld) : ({ s with cfg := x } : State).get g = s.get g := rfl
@[simp] theorem rd_with_ph (s : State) (x) (a : Nat) : ({ s with ph := x } : State).rd a = s.rd a := rfl
@[simp] theorem get_with_ph (s : State) (x) (g : Fld) : ({ s with ph := x } : State).get g = s.get g := rfl
@[simp] theorem rd_with_xph (s : State) (x) (a : Nat) : ({ s with xph := x } : State).rd a = s.rd a := rfl
@[simp] theorem get_with_xph (s : State) (x) (g : Fld) : ({ s with xph := x } : State).get g = s.get g := rfl
@[simp] theorem rd_with_loop (s : State) (x) (a : Nat) : ({ s with loop := x } : State).rd a = s.rd a := rfl
@[simp] theorem get_with_loop (s : State) (x) (g : Fld) : ({ s with loop := x } : State).get g = s.get g := rfl
@[simp] theorem rd_with_lpe (s : State) (x) (a : Nat) : ({ s with lpe := x } : State).rd a = s.rd a := rfl
@[simp] theorem get_with_lpe (s : State) (x) (g : Fld) : ({ s with lpe := x } : State).get g = s.get g := rfl
@[simp] theorem rd_with_trc (s : State) (x) (a : Nat) : ({ s with trc := x } : State).rd a = s.rd a := rfl
@[simp] theorem get_with_trc (s : State) (x) (g : Fld) : ({ s with trc := x } : State).get g = s.get g := rfl
@[simp] theorem rd_with_ttb (s : State) (x) (a : Nat) : ({ s with ttb := x } : State).rd a = s.rd a := rfl
@[simp] theorem get_with_ttb (s : State) (x) (g : Fld) : ({ s with ttb := x } : State).get g = s.get g := rfl
@[simp] theorem rd_with_odr (s : State) (x) (a : Nat) : ({ s with odr := x } : State).rd a = s.rd a := rfl
@[simp] theorem get_with_odr (s : State) (x) (g : Fld) : ({ s with odr := x } : State).get g = s.get g := rfl
@[simp] theorem rd_with_skid (s : State) (x) (a : Nat) : ({ s with skid := x } : State).rd a = s.rd a := rfl
@[simp] theorem get_with_skid (s : State) (x) (g : Fld) : ({ s with skid := x } : State).get g = s.get g := rfl
@[simp] theorem rd_with_tndr (s : State) (x) (a : Nat) : ({ s with tndr := x } : State).rd a = s.rd a := rfl
@[simp] theorem get_with_tndr (s : State) (x) (g : Fld) : ({ s with tndr := x } : State).get g = s.get g := rfl
@[simp] theorem rd_with_pwr (s : State) (x) (a : Nat) : ({ s with pwr := x } : State).rd a = s.rd a := rfl
@[simp] theorem get_with_pwr (s : State) (x) (g : Fld) : ({ s with pwr := x } : State).get g = s.get g := rfl
@[simp] theorem rd_with_pwrRgn (s : State) (x) (a : Nat) : ({ s with pwrRgn := x } : State).rd a = s.rd a := rfl
@[simp] theorem get_with_pwrRgn (s : State) (x) (g : Fld) : ({ s with pwrRgn := x } : State).get g = s.get g := rfl
@[simp] theorem rd_with_wblGrp (s : State) (x) (a : Nat) : ({ s with wblGrp := x } : State).rd a = s.rd a := rfl
@[simp] theorem get_with_wblGrp (s : State) (x) (g : Fld) : ({ s with wblGrp := x } : State).get g = s.get g := rfl
@[simp] theorem rd_with_cplr (s : State) (x) (a : Nat) : ({ s with cplr := x } : State).rd a = s.rd a := rfl
@[simp] theorem get_with_cplr (s : State) (x) (g : Fld) : ({ s with cplr := x } : State).get g = s.get g := rfl
@[simp] theorem rd_with_cplrEp (s : State) (x) (a : Nat) : ({ s with cplrEp := x } : State).rd a = s.rd a := rfl
@[simp] theorem get_with_cplrEp (s : State) (x) (g : Fld) : ({ s with cplrEp := x } : State).get g = s.get g := rfl
@[simp] theorem rd_with_cplrSlot (s : State) (x) (a : Nat) : ({ s with cplrSlot := x } : State).rd a = s.rd a := rfl
@[simp] theorem get_with_cplrSlot (s : State) (x) (g : Fld) : ({ s with cplrSlot := x } : State).get g = s.get g := rfl
@[simp] theorem rd_with_sns (s : State) (x) (a : Nat) : ({ s with sns := x } : State).rd a = s.rd a := rfl
@[simp] theorem get_with_sns (s : State) (x) (g : Fld) : ({ s with sns := x } : State).get g = s.get g := rfl
@[simp] theorem rd_with_snsConv (s : State) (x) (a : Nat) : ({ s with snsConv := x } : State).rd a = s.rd a := rfl
@[simp] theorem get_with_snsConv (s : State) (x) (g : Fld) : ({ s with snsConv := x } : State).get g = s.get g := rfl
@[simp] theorem rd_with_snsComp (s : State) (x) (a : Nat) : ({ s with snsComp := x } : State).rd a = s.rd a := rfl
@[simp] theorem get_with_snsComp (s : State) (x) (g : Fld) : ({ s with snsComp := x } : State).get g = s.get g := rfl
@[simp] theorem rd_with_thmSensor (s : State) (x) (a : Nat) : ({ s with thmSensor := x } : State).rd a = s.rd a := rfl
@[simp] theorem get_with_thmSensor (s : State) (x) (g : Fld) : ({ s with thmSensor := x } : State).get g = s.get g := rfl
@[simp] theorem rd_with_thmGroup (s : State) (x) (a : Nat) : ({ s with thmGroup := x } : State).rd a = s.rd a := rfl
@[simp] theorem get_with_thmGroup (s : State) (x) (g : Fld) : ({ s with thmGroup := x } : State).get g = s.get g := rfl
@[simp] theorem rd_with_thm (s : State) (x) (a : Nat) : ({ s with thm := x } : State).rd a = s.rd a := rfl
@[simp] theorem get_with_thm (s : State) (x) (g : Fld) : ({ s with thm := x } : State).get g = s.get g := rfl
@[simp] theorem rd_with_cbse (s : State) (x) (a : Nat) : ({ s with cbse := x } : State).rd a = s.rd a := rfl
@[simp] theorem get_with_cbse (s : State) (x) (g : Fld) : ({ s with cbse := x } : State).get g = s.get g := rfl
@[simp] theorem rd_with_tlm (s : State) (x) (a : Nat) : ({ s with tlm := x } : State).rd a = s.rd a := rfl
@[simp] theorem get_with_tlm (s : State) (x) (g : Fld) : ({ s with tlm := x } : State).get g = s.get g := rfl
@[simp] theorem rd_with_fw (s : State) (x) (a : Nat) : ({ s with fw := x } : State).rd a = s.rd a := rfl
@[simp] theorem get_with_fw (s : State) (x) (g : Fld) : ({ s with fw := x } : State).get g = s.get g := rfl
@[simp] theorem rd_with_core (s : State) (x) (a : Nat) : ({ s with core := x } : State).rd a = s.rd a := rfl
@[simp] theorem get_with_core (s : State) (x) (g : Fld) : ({ s with core := x } : State).get g = s.get g := rfl
@[simp] theorem rd_with_cache (s : State) (x) (a : Nat) : ({ s with cache := x } : State).rd a = s.rd a := rfl
@[simp] theorem get_with_cache (s : State) (x) (g : Fld) : ({ s with cache := x } : State).get g = s.get g := rfl
@[simp] theorem rd_with_ram (s : State) (x) (a : Nat) : ({ s with ram := x } : State).rd a = s.rd a := rfl
@[simp] theorem get_with_ram (s : State) (x) (g : Fld) : ({ s with ram := x } : State).get g = s.get g := rfl
@[simp] theorem rd_with_yutre (s : State) (x) (a : Nat) : ({ s with yutre := x } : State).rd a = s.rd a := rfl
@[simp] theorem get_with_yutre (s : State) (x) (g : Fld) : ({ s with yutre := x } : State).get g = s.get g := rfl
@[simp] theorem rd_with_pst (s : State) (x) (a : Nat) : ({ s with pst := x } : State).rd a = s.rd a := rfl
@[simp] theorem get_with_pst (s : State) (x) (g : Fld) : ({ s with pst := x } : State).get g = s.get g := rfl
@[simp] theorem rd_with_smb (s : State) (x) (a : Nat) : ({ s with smb := x } : State).rd a = s.rd a := rfl
@[simp] theorem get_with_smb (s : State) (x) (g : Fld) : ({ s with smb := x } : State).get g = s.get g := rfl
@[simp] theorem rd_with_mch (s : State) (x) (a : Nat) : ({ s with mch := x } : State).rd a = s.rd a := rfl
@[simp] theorem get_with_mch (s : State) (x) (g : Fld) : ({ s with mch := x } : State).get g = s.get g := rfl
@[simp] theorem rd_with_rst (s : State) (x) (a : Nat) : ({ s with rst := x } : State).rd a = s.rd a := rfl
@[simp] theorem get_with_rst (s : State) (x) (g : Fld) : ({ s with rst := x } : State).get g = s.get g := rfl
@[simp] theorem rd_with_hold (s : State) (x) (a : Nat) : ({ s with hold := x } : State).rd a = s.rd a := rfl
@[simp] theorem get_with_hold (s : State) (x) (g : Fld) : ({ s with hold := x } : State).get g = s.get g := rfl
@[simp] theorem rd_with_out (s : State) (x) (a : Nat) : ({ s with out := x } : State).rd a = s.rd a := rfl
@[simp] theorem get_with_out (s : State) (x) (g : Fld) : ({ s with out := x } : State).get g = s.get g := rfl
@[simp] theorem rd_with_pending (s : State) (x) (a : Nat) : ({ s with pending := x } : State).rd a = s.rd a := rfl
@[simp] theorem get_with_pending (s : State) (x) (g : Fld) : ({ s with pending := x } : State).get g = s.get g := rfl

end Sys2Proof.Machine.State
end

