-- ==== Sys2Proof/Laws/Regs.lean ====
section
/-! SUPPORT. Laws/Regs.lean: reading the register window after a write, the frame of a write, the writer restrictions, and
the canonical form of the map. -/

namespace Sys2Proof.Machine.State

/-! ### A read after a write -/

/-- The written word is read back. -/
@[simp] theorem rd_wr_same (s : State) (a : Nat) (w : Word) : (s.wr a w).rd a = w :=
  mapGet_mapSet_same _ _ _ _

/-- Another word reads as before. -/
theorem rd_wr_other (s : State) (a b : Nat) (w : Word) (h : b ≠ a) : (s.wr a w).rd b = s.rd b :=
  mapGet_mapSet_other _ _ _ _ _ _ h

/-- A field of another word reads as before. -/
theorem get_wr_other (s : State) (a : Nat) (w : Word) (g : Fld) (h : g.addr ≠ a) : (s.wr a w).get g = s.get g := by
  rw [get, get, rd_wr_other _ _ _ _ h]

/-- A field of the written word. -/
theorem get_wr_same (s : State) (a : Nat) (w : Word) (g : Fld) (h : g.addr = a) : (s.wr a w).get g = fldGet w g.hi g.lo := by
  subst h; rw [get, rd_wr_same]

/-- A stored field reads back, cut to its width. -/
theorem get_put_same (s : State) (f : Fld) (v : Nat) (h : f.lo ≤ f.hi) (hh : f.hi < 32) :
    (s.put f v).get f = v % 2 ^ (f.hi + 1 - f.lo) := by
  rw [get, put, rd_wr_same, fldGet_fldSet_same _ _ _ _ h hh]

/-- A field of another word, or of other bits, reads as before. -/
theorem get_put_other (s : State) (f g : Fld) (v : Nat) (h : g.addr ≠ f.addr ∨ f.hi < g.lo ∨ g.hi < f.lo) :
    (s.put f v).get g = s.get g := by
  by_cases ha : g.addr = f.addr
  · rw [put, get_wr_same _ _ _ _ ha, get, ha, fldGet_fldSet_other _ _ _ _ _ _ (h.resolve_left (fun x => x ha))]
  · rw [put, get_wr_other _ _ _ _ ha]

/-- Another word reads as before. -/
theorem rd_put_other (s : State) (f : Fld) (b v : Nat) (h : b ≠ f.addr) : (s.put f v).rd b = s.rd b :=
  rd_wr_other _ _ _ _ h

/-! ### Frames -/

theorem KeepsBits.refl (u : State) : KeepsBits u u [] := fun _ _ _ => rfl

/-- Only the registers count. -/
theorem KeepsBits.of_regs {u s t : State} {fs : List Fld} (h : KeepsBits u s fs) (ht : t.regs = s.regs) :
    KeepsBits u t fs := fun a i ha => by rw [rd_congr s t a ht]; exact h a i ha

/-- An update of the other fields changes no register. -/
theorem KeepsBits.upd {u s : State} {fs : List Fld} (h : KeepsBits u s fs)
    (ts efuse latch rdata freeCtr tim sea cell rgn cfg ph xph loop lpe trc ttb odr skid tndr pwr pwrRgn wblGrp cplr cplrEp cplrSlot sns snsConv snsComp thmSensor thmGroup thm cbse tlm fw core cache ram yutre pst smb mch rst hold out pending) :
    KeepsBits u (State.mk s.regs ts efuse latch rdata freeCtr tim sea cell rgn cfg ph xph loop lpe trc ttb odr skid tndr pwr pwrRgn wblGrp cplr cplrEp cplrSlot sns snsConv snsComp thmSensor thmGroup thm cbse tlm fw core cache ram yutre pst smb mch rst hold out pending) fs := h

/-- A write of a word extends a frame by that word. -/
theorem KeepsBits.wr {u t : State} {fs : List Fld} (h : KeepsBits u t fs) (a : Nat) (w : Word) :
    KeepsBits u (t.wr a w) (⟨a, 31, 0⟩ :: fs) := by
  intro b i hb
  by_cases hab : b = a
  · by_cases hi : i ≤ 31
    · exact absurd ⟨hab.symm, Nat.zero_le i, hi⟩ (hb ⟨a, 31, 0⟩ (by simp))
    · rw [BitVec.getLsbD_of_ge _ _ (by omega), BitVec.getLsbD_of_ge _ _ (by omega)]
  · rw [rd_wr_other _ _ _ _ hab]
    exact h b i (fun f hf => hb f (List.mem_cons_of_mem _ hf))

/-- Storing a field leaves every bit outside it. -/
theorem fldSet_getLsbD_other (w : Word) (hi lo v i : Nat) (h : ¬ (lo ≤ i ∧ i ≤ hi)) :
    (fldSet w hi lo v).getLsbD i = w.getLsbD i := by
  have h1 := fldGet_fldSet_other w hi lo i i v (by omega)
  simp only [fldGet] at h1
  have key (x : Word) : (x >>> i).toNat % 2 ^ (i + 1 - i) = (x.getLsbD i).toNat := by
    have : i + 1 - i = 1 := by omega
    rw [this, pow_one]
    have := Nat.toNat_testBit ((x >>> i).toNat) 0
    simp only [pow_zero, Nat.div_one] at this
    rw [← this]
    simp [BitVec.testBit_toNat]
  rw [key, key] at h1
  revert h1
  cases (fldSet w hi lo v).getLsbD i <;> cases w.getLsbD i <;> simp

/-- A write of a field extends a frame by that field. -/
theorem KeepsBits.put {u t : State} {fs : List Fld} (h : KeepsBits u t fs) (f : Fld) (v : Nat) :
    KeepsBits u (t.put f v) (f :: fs) := by
  intro b i hb
  have hr := h b i (fun g hg => hb g (List.mem_cons_of_mem _ hg))
  have hf := hb f (by simp)
  by_cases hab : b = f.addr
  · subst hab
    rw [State.put, rd_wr_same, fldSet_getLsbD_other _ _ _ _ _ (fun x => hf ⟨rfl, x⟩), hr]
  · rw [rd_put_other _ _ _ _ hab, hr]

/-- A frame may name more fields. -/
theorem KeepsBits.mono {u t : State} {fs gs : List Fld} (h : KeepsBits u t fs) (hs : ∀ f ∈ fs, f ∈ gs) :
    KeepsBits u t gs := fun a i ha => h a i (fun f hf => ha f (hs f hf))

/-- A frame says that a field outside it reads as before. -/
theorem KeepsBits.get {u t : State} {fs : List Fld} (h : KeepsBits u t fs) (g : Fld)
    (hg : ∀ f ∈ fs, g.addr ≠ f.addr ∨ f.hi < g.lo ∨ g.hi < f.lo) : t.get g = u.get g := by
  rw [State.get, State.get, fldGet, fldGet]
  apply Nat.eq_of_testBit_eq
  intro i
  simp only [Nat.testBit_mod_two_pow, BitVec.toNat_ushiftRight, Nat.testBit_shiftRight, BitVec.testBit_toNat]
  by_cases hi : i < g.hi + 1 - g.lo
  · rw [h g.addr (g.lo + i) (fun f hf ⟨h1, h2, h3⟩ => by
      rcases hg f hf with h4 | h4 | h4
      · exact h4 h1.symm
      · omega
      · omega)]
  · simp [hi]

/-! ### The writer restrictions -/

/-- Where instance reset does not hold the register, `gated` goes on to the writer restrictions. -/
theorem not_held {s : State} {a : Nat} (hf : s.Free a) : ¬(s.rst.inst = true ∧ (!keptByInstanceReset a) = true) := by
  rintro ⟨h1, h2⟩
  simp [hf h1] at h2

/-- A write to a register that instance reset holds changes nothing. -/
theorem gated_held {s : State} {req : Requester} {a : Nat} {v : Word} (hr : s.rst.inst = true)
    (hk : keptByInstanceReset a = false) (h : Word → State → State) : gated req a v h s = s := by
  unfold gated
  rw [if_pos (by simp [hr, hk])]

/-- A permitted write reaches the register's own action. -/
theorem gated_permits {s : State} {req : Requester} {a : Nat} {v : Word} (hp : s.Permits req a v)
    (h : Word → State → State) : gated req a v h s = h v s := by
  unfold gated
  rw [if_neg (not_held hp.2.2), if_neg (by simp [hp.1])]
  split
  · rename_i r hr
    simp only [hp.2.1 r hr, if_true]
  · rfl

/-- A write denied as a whole only records the denial. -/
theorem gated_denied {s : State} {req : Requester} {a : Nat} {v : Word} (hd : deniedWhole req a v s = true)
    (hf : s.Free a) (h : Word → State → State) : gated req a v h s = recordDenied req a s := by
  unfold gated
  rw [if_neg (not_held hf), if_pos hd]

/-! ### The canonical form -/

theorem wr_wf {s : State} (h : s.regsWf) (a : Nat) (w : Word) : (s.wr a w).regsWf := mapWf_mapSet regReset _ a w h
theorem put_wf {s : State} (h : s.regsWf) (f : Fld) (v : Nat) : (s.put f v).regsWf := wr_wf h _ _

end Sys2Proof.Machine.State
end

