-- ==== Sys2Proof/Laws/Hidden.lean ====
section
/-! SUPPORT. Laws/Hidden.lean: operations that change no register: every word and every field reads as before. -/

namespace Sys2Proof.Machine

@[simp] theorem State.advanceTo_regs (s : State) (t : Dword) : (s.advanceTo t).regs = s.regs := by
  unfold State.advanceTo; dsimp only; split; · rfl
  split; · rfl
  split <;> rfl
@[simp] theorem State.advanceTo_rd (s : State) (t : Dword) (z : Nat) : (s.advanceTo t).rd z = s.rd z :=
  State.rd_congr _ _ _ (State.advanceTo_regs s t)
@[simp] theorem State.advanceTo_get (s : State) (t : Dword) (fd : Fld) : (s.advanceTo t).get fd = s.get fd := by
  rw [State.get, State.get, State.advanceTo_rd]
theorem State.advanceTo_keepsBits {u₀ s : State} {fs₀ : List Fld} (hk : State.KeepsBits u₀ s fs₀) (t : Dword) :
    State.KeepsBits u₀ (s.advanceTo t) fs₀ := fun a i h => by rw [State.advanceTo_rd]; exact hk a i h
@[simp] theorem State.newCycle_rd (s : State)  (z : Nat) : (State.newCycle s).rd z = s.rd z :=
  State.rd_congr _ _ _ rfl
@[simp] theorem State.newCycle_get (s : State)  (fd : Fld) : (State.newCycle s).get fd = s.get fd := by
  rw [State.get, State.get, State.newCycle_rd]
theorem State.newCycle_keepsBits {u₀ s : State} {fs₀ : List Fld} (hk : State.KeepsBits u₀ s fs₀)  :
    State.KeepsBits u₀ (State.newCycle s) fs₀ := hk
@[simp] theorem State.passEdges_rd (s : State) (n : Nat) (z : Nat) : (State.passEdges s n).rd z = s.rd z :=
  State.rd_congr _ _ _ rfl
@[simp] theorem State.passEdges_get (s : State) (n : Nat) (fd : Fld) : (State.passEdges s n).get fd = s.get fd := by
  rw [State.get, State.get, State.passEdges_rd]
theorem State.passEdges_keepsBits {u₀ s : State} {fs₀ : List Fld} (hk : State.KeepsBits u₀ s fs₀) (n : Nat) :
    State.KeepsBits u₀ (State.passEdges s n) fs₀ := hk
@[simp] theorem State.passCoarse_rd (s : State) (d : Nat) (z : Nat) : (State.passCoarse s d).rd z = s.rd z :=
  State.rd_congr _ _ _ rfl
@[simp] theorem State.passCoarse_get (s : State) (d : Nat) (fd : Fld) : (State.passCoarse s d).get fd = s.get fd := by
  rw [State.get, State.get, State.passCoarse_rd]
theorem State.passCoarse_keepsBits {u₀ s : State} {fs₀ : List Fld} (hk : State.KeepsBits u₀ s fs₀) (d : Nat) :
    State.KeepsBits u₀ (State.passCoarse s d) fs₀ := hk
@[simp] theorem State.pulse_rd (s : State) (b : Nat) (z : Nat) : (State.pulse s b).rd z = s.rd z :=
  State.rd_congr _ _ _ rfl
@[simp] theorem State.pulse_get (s : State) (b : Nat) (fd : Fld) : (State.pulse s b).get fd = s.get fd := by
  rw [State.get, State.get, State.pulse_rd]
theorem State.pulse_keepsBits {u₀ s : State} {fs₀ : List Fld} (hk : State.KeepsBits u₀ s fs₀) (b : Nat) :
    State.KeepsBits u₀ (State.pulse s b) fs₀ := hk
@[simp] theorem State.ring_rd (s : State) (k o : Nat) (z : Nat) : (State.ring s k o).rd z = s.rd z :=
  State.rd_congr _ _ _ rfl
@[simp] theorem State.ring_get (s : State) (k o : Nat) (fd : Fld) : (State.ring s k o).get fd = s.get fd := by
  rw [State.get, State.get, State.ring_rd]
theorem State.ring_keepsBits {u₀ s : State} {fs₀ : List Fld} (hk : State.KeepsBits u₀ s fs₀) (k o : Nat) :
    State.KeepsBits u₀ (State.ring s k o) fs₀ := hk
@[simp] theorem State.c0Leave_rd (s : State) (n : Nat) (z : Nat) : (State.c0Leave s n).rd z = s.rd z :=
  State.rd_congr _ _ _ rfl
@[simp] theorem State.c0Leave_get (s : State) (n : Nat) (fd : Fld) : (State.c0Leave s n).get fd = s.get fd := by
  rw [State.get, State.get, State.c0Leave_rd]
theorem State.c0Leave_keepsBits {u₀ s : State} {fs₀ : List Fld} (hk : State.KeepsBits u₀ s fs₀) (n : Nat) :
    State.KeepsBits u₀ (State.c0Leave s n) fs₀ := hk
@[simp] theorem State.reply_rd (s : State) (st : Nat) (ws : List Word) (z : Nat) : (State.reply s st ws).rd z = s.rd z :=
  State.rd_congr _ _ _ rfl
@[simp] theorem State.reply_get (s : State) (st : Nat) (ws : List Word) (fd : Fld) : (State.reply s st ws).get fd = s.get fd := by
  rw [State.get, State.get, State.reply_rd]
theorem State.reply_keepsBits {u₀ s : State} {fs₀ : List Fld} (hk : State.KeepsBits u₀ s fs₀) (st : Nat) (ws : List Word) :
    State.KeepsBits u₀ (State.reply s st ws) fs₀ := hk
@[simp] theorem State.answer_rd (s : State) (ws : List Word) (z : Nat) : (State.answer s ws).rd z = s.rd z :=
  State.rd_congr _ _ _ rfl
@[simp] theorem State.answer_get (s : State) (ws : List Word) (fd : Fld) : (State.answer s ws).get fd = s.get fd := by
  rw [State.get, State.get, State.answer_rd]
theorem State.answer_keepsBits {u₀ s : State} {fs₀ : List Fld} (hk : State.KeepsBits u₀ s fs₀) (ws : List Word) :
    State.KeepsBits u₀ (State.answer s ws) fs₀ := hk
@[simp] theorem State.hostWrite_rd (s : State) (addr : Nat) (ws : List Word) (z : Nat) : (State.hostWrite s addr ws).rd z = s.rd z :=
  State.rd_congr _ _ _ rfl
@[simp] theorem State.hostWrite_get (s : State) (addr : Nat) (ws : List Word) (fd : Fld) : (State.hostWrite s addr ws).get fd = s.get fd := by
  rw [State.get, State.get, State.hostWrite_rd]
theorem State.hostWrite_keepsBits {u₀ s : State} {fs₀ : List Fld} (hk : State.KeepsBits u₀ s fs₀) (addr : Nat) (ws : List Word) :
    State.KeepsBits u₀ (State.hostWrite s addr ws) fs₀ := hk
@[simp] theorem State.setChid_rd (s : State) (c : Nat) (h : CellHid) (z : Nat) : (State.setChid s c h).rd z = s.rd z :=
  State.rd_congr _ _ _ rfl
@[simp] theorem State.setChid_get (s : State) (c : Nat) (h : CellHid) (fd : Fld) : (State.setChid s c h).get fd = s.get fd := by
  rw [State.get, State.get, State.setChid_rd]
theorem State.setChid_keepsBits {u₀ s : State} {fs₀ : List Fld} (hk : State.KeepsBits u₀ s fs₀) (c : Nat) (h : CellHid) :
    State.KeepsBits u₀ (State.setChid s c h) fs₀ := hk
@[simp] theorem State.setRhid_rd (s : State) (n : Nat) (h : RgnHid) (z : Nat) : (State.setRhid s n h).rd z = s.rd z :=
  State.rd_congr _ _ _ rfl
@[simp] theorem State.setRhid_get (s : State) (n : Nat) (h : RgnHid) (fd : Fld) : (State.setRhid s n h).get fd = s.get fd := by
  rw [State.get, State.get, State.setRhid_rd]
theorem State.setRhid_keepsBits {u₀ s : State} {fs₀ : List Fld} (hk : State.KeepsBits u₀ s fs₀) (n : Nat) (h : RgnHid) :
    State.KeepsBits u₀ (State.setRhid s n h) fs₀ := hk
@[simp] theorem State.setLines_rd (s : State) (g : Nat) (l : List CacheLine) (z : Nat) : (State.setLines s g l).rd z = s.rd z :=
  State.rd_congr _ _ _ rfl
@[simp] theorem State.setLines_get (s : State) (g : Nat) (l : List CacheLine) (fd : Fld) : (State.setLines s g l).get fd = s.get fd := by
  rw [State.get, State.get, State.setLines_rd]
theorem State.setLines_keepsBits {u₀ s : State} {fs₀ : List Fld} (hk : State.KeepsBits u₀ s fs₀) (g : Nat) (l : List CacheLine) :
    State.KeepsBits u₀ (State.setLines s g l) fs₀ := hk
@[simp] theorem State.setCep_rd (s : State) (e : Nat) (h : CplrEp) (z : Nat) : (State.setCep s e h).rd z = s.rd z :=
  State.rd_congr _ _ _ rfl
@[simp] theorem State.setCep_get (s : State) (e : Nat) (h : CplrEp) (fd : Fld) : (State.setCep s e h).get fd = s.get fd := by
  rw [State.get, State.get, State.setCep_rd]
theorem State.setCep_keepsBits {u₀ s : State} {fs₀ : List Fld} (hk : State.KeepsBits u₀ s fs₀) (e : Nat) (h : CplrEp) :
    State.KeepsBits u₀ (State.setCep s e h) fs₀ := hk
@[simp] theorem State.setCslot_rd (s : State) (x : Nat) (h : CplrSlot) (z : Nat) : (State.setCslot s x h).rd z = s.rd z :=
  State.rd_congr _ _ _ rfl
@[simp] theorem State.setCslot_get (s : State) (x : Nat) (h : CplrSlot) (fd : Fld) : (State.setCslot s x h).get fd = s.get fd := by
  rw [State.get, State.get, State.setCslot_rd]
theorem State.setCslot_keepsBits {u₀ s : State} {fs₀ : List Fld} (hk : State.KeepsBits u₀ s fs₀) (x : Nat) (h : CplrSlot) :
    State.KeepsBits u₀ (State.setCslot s x h) fs₀ := hk
@[simp] theorem State.setCoreSt_rd (s : State) (i : Nat) (c : CoreSt) (z : Nat) : (State.setCoreSt s i c).rd z = s.rd z :=
  State.rd_congr _ _ _ rfl
@[simp] theorem State.setCoreSt_get (s : State) (i : Nat) (c : CoreSt) (fd : Fld) : (State.setCoreSt s i c).get fd = s.get fd := by
  rw [State.get, State.get, State.setCoreSt_rd]
theorem State.setCoreSt_keepsBits {u₀ s : State} {fs₀ : List Fld} (hk : State.KeepsBits u₀ s fs₀) (i : Nat) (c : CoreSt) :
    State.KeepsBits u₀ (State.setCoreSt s i c) fs₀ := hk
@[simp] theorem State.setPhid_rd (s : State) (p : Nat) (h : PhHid) (z : Nat) : (State.setPhid s p h).rd z = s.rd z :=
  State.rd_congr _ _ _ rfl
@[simp] theorem State.setPhid_get (s : State) (p : Nat) (h : PhHid) (fd : Fld) : (State.setPhid s p h).get fd = s.get fd := by
  rw [State.get, State.get, State.setPhid_rd]
theorem State.setPhid_keepsBits {u₀ s : State} {fs₀ : List Fld} (hk : State.KeepsBits u₀ s fs₀) (p : Nat) (h : PhHid) :
    State.KeepsBits u₀ (State.setPhid s p h) fs₀ := hk
@[simp] theorem State.setLoopHid_rd (s : State) (k : Nat) (h : LoopHid) (z : Nat) : (State.setLoopHid s k h).rd z = s.rd z :=
  State.rd_congr _ _ _ rfl
@[simp] theorem State.setLoopHid_get (s : State) (k : Nat) (h : LoopHid) (fd : Fld) : (State.setLoopHid s k h).get fd = s.get fd := by
  rw [State.get, State.get, State.setLoopHid_rd]
theorem State.setLoopHid_keepsBits {u₀ s : State} {fs₀ : List Fld} (hk : State.KeepsBits u₀ s fs₀) (k : Nat) (h : LoopHid) :
    State.KeepsBits u₀ (State.setLoopHid s k h) fs₀ := hk
@[simp] theorem State.setPrgn_rd (s : State) (n : Nat) (h : PwrRgn) (z : Nat) : (State.setPrgn s n h).rd z = s.rd z :=
  State.rd_congr _ _ _ rfl
@[simp] theorem State.setPrgn_get (s : State) (n : Nat) (h : PwrRgn) (fd : Fld) : (State.setPrgn s n h).get fd = s.get fd := by
  rw [State.get, State.get, State.setPrgn_rd]
theorem State.setPrgn_keepsBits {u₀ s : State} {fs₀ : List Fld} (hk : State.KeepsBits u₀ s fs₀) (n : Nat) (h : PwrRgn) :
    State.KeepsBits u₀ (State.setPrgn s n h) fs₀ := hk
@[simp] theorem State.setWgrp_rd (s : State) (g : Nat) (h : WblGrp) (z : Nat) : (State.setWgrp s g h).rd z = s.rd z :=
  State.rd_congr _ _ _ rfl
@[simp] theorem State.setWgrp_get (s : State) (g : Nat) (h : WblGrp) (fd : Fld) : (State.setWgrp s g h).get fd = s.get fd := by
  rw [State.get, State.get, State.setWgrp_rd]
theorem State.setWgrp_keepsBits {u₀ s : State} {fs₀ : List Fld} (hk : State.KeepsBits u₀ s fs₀) (g : Nat) (h : WblGrp) :
    State.KeepsBits u₀ (State.setWgrp s g h) fs₀ := hk
@[simp] theorem State.setSconv_rd (s : State) (k : Nat) (h : SnsConv) (z : Nat) : (State.setSconv s k h).rd z = s.rd z :=
  State.rd_congr _ _ _ rfl
@[simp] theorem State.setSconv_get (s : State) (k : Nat) (h : SnsConv) (fd : Fld) : (State.setSconv s k h).get fd = s.get fd := by
  rw [State.get, State.get, State.setSconv_rd]
theorem State.setSconv_keepsBits {u₀ s : State} {fs₀ : List Fld} (hk : State.KeepsBits u₀ s fs₀) (k : Nat) (h : SnsConv) :
    State.KeepsBits u₀ (State.setSconv s k h) fs₀ := hk
@[simp] theorem State.setScomp_rd (s : State) (w : Nat) (h : SnsComp) (z : Nat) : (State.setScomp s w h).rd z = s.rd z :=
  State.rd_congr _ _ _ rfl
@[simp] theorem State.setScomp_get (s : State) (w : Nat) (h : SnsComp) (fd : Fld) : (State.setScomp s w h).get fd = s.get fd := by
  rw [State.get, State.get, State.setScomp_rd]
theorem State.setScomp_keepsBits {u₀ s : State} {fs₀ : List Fld} (hk : State.KeepsBits u₀ s fs₀) (w : Nat) (h : SnsComp) :
    State.KeepsBits u₀ (State.setScomp s w h) fs₀ := hk
@[simp] theorem State.setSkidHid_rd (s : State) (n : Nat) (h : SkidHid) (z : Nat) : (State.setSkidHid s n h).rd z = s.rd z :=
  State.rd_congr _ _ _ rfl
@[simp] theorem State.setSkidHid_get (s : State) (n : Nat) (h : SkidHid) (fd : Fld) : (State.setSkidHid s n h).get fd = s.get fd := by
  rw [State.get, State.get, State.setSkidHid_rd]
theorem State.setSkidHid_keepsBits {u₀ s : State} {fs₀ : List Fld} (hk : State.KeepsBits u₀ s fs₀) (n : Nat) (h : SkidHid) :
    State.KeepsBits u₀ (State.setSkidHid s n h) fs₀ := hk
@[simp] theorem State.setTsen_rd (s : State) (x : Nat) (h : ThmSensor) (z : Nat) : (State.setTsen s x h).rd z = s.rd z :=
  State.rd_congr _ _ _ rfl
@[simp] theorem State.setTsen_get (s : State) (x : Nat) (h : ThmSensor) (fd : Fld) : (State.setTsen s x h).get fd = s.get fd := by
  rw [State.get, State.get, State.setTsen_rd]
theorem State.setTsen_keepsBits {u₀ s : State} {fs₀ : List Fld} (hk : State.KeepsBits u₀ s fs₀) (x : Nat) (h : ThmSensor) :
    State.KeepsBits u₀ (State.setTsen s x h) fs₀ := hk
@[simp] theorem State.setTgrp_rd (s : State) (q : Nat) (h : ThmGroup) (z : Nat) : (State.setTgrp s q h).rd z = s.rd z :=
  State.rd_congr _ _ _ rfl
@[simp] theorem State.setTgrp_get (s : State) (q : Nat) (h : ThmGroup) (fd : Fld) : (State.setTgrp s q h).get fd = s.get fd := by
  rw [State.get, State.get, State.setTgrp_rd]
theorem State.setTgrp_keepsBits {u₀ s : State} {fs₀ : List Fld} (hk : State.KeepsBits u₀ s fs₀) (q : Nat) (h : ThmGroup) :
    State.KeepsBits u₀ (State.setTgrp s q h) fs₀ := hk
@[simp] theorem State.setTrcCh_rd (s : State) (ch : Nat) (h : TrcCh) (z : Nat) : (State.setTrcCh s ch h).rd z = s.rd z :=
  State.rd_congr _ _ _ rfl
@[simp] theorem State.setTrcCh_get (s : State) (ch : Nat) (h : TrcCh) (fd : Fld) : (State.setTrcCh s ch h).get fd = s.get fd := by
  rw [State.get, State.get, State.setTrcCh_rd]
theorem State.setTrcCh_keepsBits {u₀ s : State} {fs₀ : List Fld} (hk : State.KeepsBits u₀ s fs₀) (ch : Nat) (h : TrcCh) :
    State.KeepsBits u₀ (State.setTrcCh s ch h) fs₀ := hk
@[simp] theorem State.ramPut_rd (s : State) (m o : Nat) (bs : List Byte) (z : Nat) : (State.ramPut s m o bs).rd z = s.rd z :=
  State.rd_congr _ _ _ rfl
@[simp] theorem State.ramPut_get (s : State) (m o : Nat) (bs : List Byte) (fd : Fld) : (State.ramPut s m o bs).get fd = s.get fd := by
  rw [State.get, State.get, State.ramPut_rd]
theorem State.ramPut_keepsBits {u₀ s : State} {fs₀ : List Fld} (hk : State.KeepsBits u₀ s fs₀) (m o : Nat) (bs : List Byte) :
    State.KeepsBits u₀ (State.ramPut s m o bs) fs₀ := hk
@[simp] theorem smbLatch_rd (s : State)  (z : Nat) : (smbLatch s).rd z = s.rd z :=
  State.rd_congr _ _ _ rfl
@[simp] theorem smbLatch_get (s : State)  (fd : Fld) : (smbLatch s).get fd = s.get fd := by
  rw [State.get, State.get, smbLatch_rd]
theorem smbLatch_keepsBits {u₀ s : State} {fs₀ : List Fld} (hk : State.KeepsBits u₀ s fs₀)  :
    State.KeepsBits u₀ (smbLatch s) fs₀ := hk
@[simp] theorem firePhase_rd (s : State) (p x : Nat) (z : Nat) : (firePhase p x s).rd z = s.rd z :=
  State.rd_congr _ _ _ rfl
@[simp] theorem firePhase_get (s : State) (p x : Nat) (fd : Fld) : (firePhase p x s).get fd = s.get fd := by
  rw [State.get, State.get, firePhase_rd]
theorem firePhase_keepsBits {u₀ s : State} {fs₀ : List Fld} (hk : State.KeepsBits u₀ s fs₀) (p x : Nat) :
    State.KeepsBits u₀ (firePhase p x s) fs₀ := hk
@[simp] theorem endOnTime_rd (s : State) (p x run : Nat) (z : Nat) : (endOnTime p x run s).rd z = s.rd z :=
  State.rd_congr _ _ _ rfl
@[simp] theorem endOnTime_get (s : State) (p x run : Nat) (fd : Fld) : (endOnTime p x run s).get fd = s.get fd := by
  rw [State.get, State.get, endOnTime_rd]
theorem endOnTime_keepsBits {u₀ s : State} {fs₀ : List Fld} (hk : State.KeepsBits u₀ s fs₀) (p x run : Nat) :
    State.KeepsBits u₀ (endOnTime p x run s) fs₀ := hk
@[simp] theorem syncEdge_rd (s : State) (x period : Nat) (z : Nat) : (syncEdge x period s).rd z = s.rd z :=
  State.rd_congr _ _ _ rfl
@[simp] theorem syncEdge_get (s : State) (x period : Nat) (fd : Fld) : (syncEdge x period s).get fd = s.get fd := by
  rw [State.get, State.get, syncEdge_rd]
theorem syncEdge_keepsBits {u₀ s : State} {fs₀ : List Fld} (hk : State.KeepsBits u₀ s fs₀) (x period : Nat) :
    State.KeepsBits u₀ (syncEdge x period s) fs₀ := hk
@[simp] theorem latchHi_rd (s : State) (req : Requester) (hi : Nat) (w : Word) (z : Nat) : (latchHi req hi w s).rd z = s.rd z :=
  State.rd_congr _ _ _ rfl
@[simp] theorem latchHi_get (s : State) (req : Requester) (hi : Nat) (w : Word) (fd : Fld) : (latchHi req hi w s).get fd = s.get fd := by
  rw [State.get, State.get, latchHi_rd]
theorem latchHi_keepsBits {u₀ s : State} {fs₀ : List Fld} (hk : State.KeepsBits u₀ s fs₀) (req : Requester) (hi : Nat) (w : Word) :
    State.KeepsBits u₀ (latchHi req hi w s) fs₀ := hk
@[simp] theorem withdrawNotices_rd (s : State)  (z : Nat) : (withdrawNotices s).rd z = s.rd z :=
  State.rd_congr _ _ _ rfl
@[simp] theorem withdrawNotices_get (s : State)  (fd : Fld) : (withdrawNotices s).get fd = s.get fd := by
  rw [State.get, State.get, withdrawNotices_rd]
theorem withdrawNotices_keepsBits {u₀ s : State} {fs₀ : List Fld} (hk : State.KeepsBits u₀ s fs₀)  :
    State.KeepsBits u₀ (withdrawNotices s) fs₀ := hk

end Sys2Proof.Machine
end

