-- ==== Sys2Proof/Laws/Below.lean ====
section
/-! SUPPORT. Laws/Below.lean: the combiner of Reins and Coupler's announcements, which follow every register write, change no
register below the Reins block but LPE_EVT, which marks a trace trigger that Skid gives. -/

namespace Sys2Proof.Machine

/-- Every register below offset b but LPE_EVT reads in t as in u. -/
def Below (b : Nat) (u t : State) : Prop := ∀ a, a < b → a ≠ LPE_EVT → t.rd a = u.rd a

/-- An offset that Below leaves open. -/
abbrev Outside (b a : Nat) : Prop := b ≤ a ∨ a = LPE_EVT

theorem Outside.ofEvent (b : Nat) : Outside b LPE_EVT := Or.inr rfl

theorem Below.refl (b : Nat) (s : State) : Below b s s := fun _ _ _ => rfl

theorem wr_below {b : Nat} {u s : State} (h : Below b u s) (a : Nat) (w : Word) (ha : Outside b a) :
    Below b u (s.wr a w) :=
  fun x hx hn => by
    rw [State.rd_wr_other _ _ _ _ (by rcases ha with h1 | h1 <;> omega)]
    exact h x hx hn

theorem put_below {b : Nat} {u s : State} (h : Below b u s) (f : Fld) (v : Nat) (ha : Outside b f.addr) :
    Below b u (s.put f v) :=
  wr_below h _ _ ha

theorem upd_below {b : Nat} {u s : State} (h : Below b u s)
    (ts efuse latch rdata freeCtr tim sea cell rgn cfg ph xph loop lpe trc ttb odr skid tndr pwr pwrRgn wblGrp cplr cplrEp cplrSlot sns snsConv snsComp thmSensor thmGroup thm cbse tlm fw core cache ram yutre pst smb mch rst hold out pending) :
    Below b u (State.mk s.regs ts efuse latch rdata freeCtr tim sea cell rgn cfg ph xph loop lpe trc ttb odr skid tndr pwr pwrRgn wblGrp cplr cplrEp cplrSlot sns snsConv snsComp thmSensor thmGroup thm cbse tlm fw core cache ram yutre pst smb mch rst hold out pending) := h

theorem ite_below {b : Nat} {u x y : State} {c : Prop} [Decidable c] (hx : Below b u x) (hy : Below b u y) :
    Below b u (if c then x else y) := by split <;> assumption

theorem each_below {α : Type} {b : Nat} {u s : State} (h : Below b u s) (l : List α) (f : State → α → State)
    (hf : ∀ s x, Below b u s → Below b u (f s x)) : Below b u (s.each l f) := by
  unfold State.each
  induction l generalizing s with
  | nil => exact h
  | cons x l ih => exact ih (hf _ _ h)

theorem State.putB_below {b₀ : Nat} {u₀ s : State} (hk : Below b₀ u₀ s) (f : Fld) (b : Bool) (ha : Outside b₀ f.addr) :
    Below b₀ u₀ (State.putB s f b) := by
  unfold State.putB
  repeat' first
    | with_reducible assumption
    | with_reducible apply put_below

theorem State.wrN_below {b₀ : Nat} {u₀ s : State} (hk : Below b₀ u₀ s) (a : Nat) (v : Nat) (ha : Outside b₀ a) :
    Below b₀ u₀ (State.wrN s a v) := by
  unfold State.wrN
  repeat' first
    | with_reducible assumption
    | with_reducible apply put_below
    | with_reducible apply wr_below

theorem State.put64_below {b₀ : Nat} {u₀ s : State} (hk : Below b₀ u₀ s) (a : Nat) (v : Nat) (ha : b₀ ≤ a) :
    Below b₀ u₀ (State.put64 s a v) := by
  unfold State.put64
  repeat' first
    | with_reducible assumption
    | with_reducible apply State.wrN_below
    | with_reducible apply put_below
    | with_reducible apply wr_below
    | with_reducible apply ite_below
    | with_reducible refine each_below ?_ _ _ (fun _ _ _ => ?_)
    | fail_if_no_progress with_reducible apply upd_below
    | split
    | (unfold Outside; omega)

theorem State.addSat_below {b₀ : Nat} {u₀ s : State} (hk : Below b₀ u₀ s) (f : Fld) (k : Nat) (ha : Outside b₀ f.addr) :
    Below b₀ u₀ (State.addSat s f k) := by
  unfold State.addSat
  repeat' first
    | with_reducible assumption
    | with_reducible apply put_below

theorem State.incSat_below {b₀ : Nat} {u₀ s : State} (hk : Below b₀ u₀ s) (f : Fld) (ha : Outside b₀ f.addr) :
    Below b₀ u₀ (State.incSat s f) := by
  unfold State.incSat
  repeat' first
    | with_reducible assumption
    | with_reducible apply State.addSat_below

theorem State.ring_below {b₀ : Nat} {u₀ s : State} (hk : Below b₀ u₀ s) (k o : Nat) :
    Below b₀ u₀ (State.ring s k o) := by
  unfold State.ring
  repeat' first
    | with_reducible assumption
    | with_reducible apply put_below
    | with_reducible apply wr_below
    | with_reducible apply ite_below
    | with_reducible refine each_below ?_ _ _ (fun _ _ _ => ?_)
    | fail_if_no_progress with_reducible apply upd_below

theorem each2_below {α : Type} {b : Nat} {u : State} {p : Nat × State} (h : Below b u p.2) (l : List α)
    (f : Nat × State → α → Nat × State) (hf : ∀ a x, Below b u a.2 → Below b u (f a x).2) : Below b u (l.foldl f p).2 := by
  induction l generalizing p with
  | nil => exact h
  | cons x l ih => exact ih (hf _ _ h)

theorem State.addWrap_below {b₀ : Nat} {u₀ s : State} (hk : Below b₀ u₀ s) (f : Fld) (k : Nat) (ha : Outside b₀ f.addr)  :
    Below b₀ u₀ (State.addWrap s f k) := by
  unfold State.addWrap
  repeat' first
    | with_reducible assumption
    | with_reducible apply put_below

theorem State.keepMax_below {b₀ : Nat} {u₀ s : State} (hk : Below b₀ u₀ s) (f : Fld) (v : Nat) (ha : Outside b₀ f.addr)  :
    Below b₀ u₀ (State.keepMax s f v) := by
  unfold State.keepMax
  repeat' first
    | with_reducible assumption
    | with_reducible apply put_below
    | with_reducible apply wr_below
    | with_reducible apply ite_below

theorem State.setTrcCh_below {b₀ : Nat} {u₀ s : State} (hk : Below b₀ u₀ s) (ch : Nat) (h : TrcCh)  :
    Below b₀ u₀ (State.setTrcCh s ch h) := by
  unfold State.setTrcCh
  repeat' first
    | with_reducible assumption
    | with_reducible apply put_below
    | with_reducible apply wr_below
    | with_reducible apply ite_below
    | with_reducible refine each_below ?_ _ _ (fun _ _ _ => ?_)
    | with_reducible refine each2_below ?_ _ _ (fun _ _ _ => ?_)
    | fail_if_no_progress with_reducible apply upd_below

theorem State.setSkidHid_below {b₀ : Nat} {u₀ s : State} (hk : Below b₀ u₀ s) (n : Nat) (h : SkidHid)  :
    Below b₀ u₀ (State.setSkidHid s n h) := by
  unfold State.setSkidHid
  repeat' first
    | with_reducible assumption
    | with_reducible apply put_below
    | with_reducible apply wr_below
    | with_reducible apply ite_below
    | with_reducible refine each_below ?_ _ _ (fun _ _ _ => ?_)
    | with_reducible refine each2_below ?_ _ _ (fun _ _ _ => ?_)
    | fail_if_no_progress with_reducible apply upd_below

theorem traceExportEnd_below {b₀ : Nat} {u₀ s : State} (hk : Below b₀ u₀ s) (res : Nat) (runs : Bool) (hb : b₀ ≤ 0x1100000) :
    Below b₀ u₀ (traceExportEnd res runs s) := by
  unfold traceExportEnd
  repeat' first
    | with_reducible assumption
    | with_reducible apply State.ring_below
    | with_reducible apply put_below
    | with_reducible apply wr_below
    | with_reducible apply ite_below
    | with_reducible refine each_below ?_ _ _ (fun _ _ _ => ?_)
    | with_reducible refine each2_below ?_ _ _ (fun _ _ _ => ?_)
    | fail_if_no_progress with_reducible apply upd_below
    | exact Or.inr rfl
    | split
    | (simp only [TLM_TRX_CTRL.RES, TLM_TRX_CTRL.BUSY, TLM_TRX_CTRL.GO, TLM_TRX_CTRL, TLM_EVT.TRX, TLM_EVT]; first | omega | (unfold Outside; omega))

theorem traceExport_below {b₀ : Nat} {u₀ s : State} (hk : Below b₀ u₀ s)  (hb : b₀ ≤ 0x1100000) :
    Below b₀ u₀ (traceExport s) := by
  unfold traceExport
  repeat' first
    | with_reducible assumption
    | with_reducible apply traceExportEnd_below
    | with_reducible apply put_below
    | with_reducible apply wr_below
    | with_reducible apply ite_below
    | with_reducible refine each_below ?_ _ _ (fun _ _ _ => ?_)
    | with_reducible refine each2_below ?_ _ _ (fun _ _ _ => ?_)
    | fail_if_no_progress with_reducible apply upd_below
    | exact Or.inr rfl
    | split
    | (simp only [TLM_TRX_CTRL.BUSY, TLM_TRX_CTRL]; first | omega | (unfold Outside; omega))

theorem traceFinish_below {b₀ : Nat} {u₀ s : State} (hk : Below b₀ u₀ s)  (hb : b₀ ≤ 0x1100000) :
    Below b₀ u₀ (traceFinish s) := by
  unfold traceFinish
  repeat' first
    | with_reducible assumption
    | with_reducible apply traceExport_below
    | with_reducible apply State.ring_below
    | with_reducible apply put_below
    | with_reducible apply wr_below
    | with_reducible apply ite_below
    | with_reducible refine each_below ?_ _ _ (fun _ _ _ => ?_)
    | with_reducible refine each2_below ?_ _ _ (fun _ _ _ => ?_)
    | fail_if_no_progress with_reducible apply upd_below
    | exact Or.inr rfl
    | split
    | (simp only [TRC_STAT.STATE, TRC_STAT]; first | omega | (unfold Outside; omega))

theorem traceTrigger_below {b₀ : Nat} {u₀ s : State} (hk : Below b₀ u₀ s) (cause : Nat) (hb : b₀ ≤ 0x1100000) :
    Below b₀ u₀ (traceTrigger cause s) := by
  unfold traceTrigger
  repeat' first
    | with_reducible assumption
    | with_reducible apply traceFinish_below
    | with_reducible apply State.ring_below
    | with_reducible apply State.put64_below
    | with_reducible apply State.setTrcCh_below
    | with_reducible apply put_below
    | with_reducible apply wr_below
    | with_reducible apply ite_below
    | with_reducible refine each_below ?_ _ _ (fun _ _ _ => ?_)
    | with_reducible refine each2_below ?_ _ _ (fun _ _ _ => ?_)
    | fail_if_no_progress with_reducible apply upd_below
    | exact Or.inr rfl
    | split
    | (simp only [TRC_STAT.STATE, TRC_STAT.CAUSE, TRC_STAT, TRC_TRIG_TS_LO, TRC_CH_TPTR.PTR, TRC_CH_TPTR]; first | omega | (unfold Outside; omega))

theorem setRegionBit_below {b₀ : Nat} {u₀ s : State} (hk : Below b₀ u₀ s) (base n : Nat) (ha : 0x1100000 ≤ base) (hb : b₀ ≤ 0x1100000) :
    Below b₀ u₀ (setRegionBit base n s) := by
  unfold setRegionBit
  repeat' first
    | with_reducible assumption
    | with_reducible apply State.wrN_below
    | with_reducible apply put_below
    | with_reducible apply wr_below
    | with_reducible apply ite_below
    | with_reducible refine each_below ?_ _ _ (fun _ _ _ => ?_)
    | with_reducible refine each2_below ?_ _ _ (fun _ _ _ => ?_)
    | fail_if_no_progress with_reducible apply upd_below
    | exact Or.inr rfl
    | split
    | (unfold Outside; omega)

theorem skidLevel_below {b₀ : Nat} {u₀ s : State} (hk : Below b₀ u₀ s) (n lv : Nat) (hb : b₀ ≤ 0x1100000) :
    Below b₀ u₀ (skidLevel n lv s) := by
  unfold skidLevel
  repeat' first
    | with_reducible assumption
    | with_reducible apply State.ring_below
    | with_reducible apply setRegionBit_below
    | with_reducible apply put_below
    | with_reducible apply wr_below
    | with_reducible apply ite_below
    | with_reducible refine each_below ?_ _ _ (fun _ _ _ => ?_)
    | with_reducible refine each2_below ?_ _ _ (fun _ _ _ => ?_)
    | fail_if_no_progress with_reducible apply upd_below
    | exact Or.inr rfl
    | split
    | (simp only [SKID_RSTAT.LEVEL, SKID_RSTAT, SKID_EVT_ESC]; first | omega | (unfold Outside; omega))

theorem skidSchedule_below {b₀ : Nat} {u₀ s : State} (hk : Below b₀ u₀ s) (n k ts : Nat)  :
    Below b₀ u₀ (skidSchedule n k ts s) := by
  unfold skidSchedule
  repeat' first
    | with_reducible assumption
    | with_reducible apply State.setSkidHid_below

theorem skidStop_below {b₀ : Nat} {u₀ s : State} (hk : Below b₀ u₀ s) (n : Nat) (hb : b₀ ≤ 0x1100000) :
    Below b₀ u₀ (skidStop n s) := by
  unfold skidStop
  repeat' first
    | with_reducible assumption
    | with_reducible apply skidLevel_below
    | with_reducible apply skidSchedule_below
    | with_reducible apply put_below
    | with_reducible apply wr_below
    | with_reducible apply ite_below
    | with_reducible refine each_below ?_ _ _ (fun _ _ _ => ?_)
    | with_reducible refine each2_below ?_ _ _ (fun _ _ _ => ?_)
    | fail_if_no_progress with_reducible apply upd_below
    | exact Or.inr rfl
    | split
    | (simp only [SKID_RSTAT.DEPTH, SKID_RSTAT.RELCNT, SKID_RSTAT]; first | omega | (unfold Outside; omega))

theorem skidRecheck_below {b₀ : Nat} {u₀ s : State} (hk : Below b₀ u₀ s) (n : Nat) (hb : b₀ ≤ 0x1100000) :
    Below b₀ u₀ (skidRecheck n s) := by
  unfold skidRecheck
  repeat' first
    | with_reducible assumption
    | with_reducible apply skidStop_below
    | with_reducible apply skidLevel_below
    | with_reducible apply put_below
    | with_reducible apply wr_below
    | with_reducible apply ite_below

theorem skidCount_below {b₀ : Nat} {u₀ s : State} (hk : Below b₀ u₀ s) (past : Bool) (n k : Nat) (hb : b₀ ≤ 0x1100000) :
    Below b₀ u₀ (skidCount past n k s) := by
  unfold skidCount
  repeat' first
    | with_reducible assumption
    | with_reducible apply State.setSkidHid_below
    | with_reducible apply State.wrN_below
    | with_reducible apply State.put64_below
    | with_reducible apply put_below
    | with_reducible apply wr_below
    | with_reducible apply ite_below
    | with_reducible refine each_below ?_ _ _ (fun _ _ _ => ?_)
    | with_reducible refine each2_below ?_ _ _ (fun _ _ _ => ?_)
    | fail_if_no_progress with_reducible apply upd_below
    | exact Or.inr rfl
    | split
    | (simp only [SKID_STRCYC_LO, SKID_DCUR]; first | omega | (unfold Outside; omega))

theorem skidLine_below {b₀ : Nat} {u₀ s : State} (hk : Below b₀ u₀ s) (n r ts : Nat) (hb : b₀ ≤ 0x1100000) :
    Below b₀ u₀ (skidLine n r ts s) := by
  unfold skidLine
  repeat' first
    | with_reducible assumption
    | with_reducible apply traceTrigger_below
    | with_reducible apply State.setSkidHid_below
    | with_reducible apply State.wrN_below
    | with_reducible apply State.addWrap_below
    | with_reducible apply State.keepMax_below
    | with_reducible apply put_below
    | with_reducible apply wr_below
    | with_reducible apply ite_below
    | with_reducible refine each_below ?_ _ _ (fun _ _ _ => ?_)
    | with_reducible refine each2_below ?_ _ _ (fun _ _ _ => ?_)
    | fail_if_no_progress with_reducible apply upd_below
    | exact Or.inr rfl
    | split
    | (simp only [SKID_PEAK.DEPTH, SKID_PEAK, SKID_NSTART.COUNT, SKID_NSTART, SKID_LAST_TS]; first | omega | (unfold Outside; omega))

theorem skidPass_below {b₀ : Nat} {u₀ s : State} (hk : Below b₀ u₀ s) (past : Bool) (n low upto : Nat) (hb : b₀ ≤ 0x1100000) :
    Below b₀ u₀ (skidPass past n low upto s) := by
  unfold skidPass
  repeat' first
    | with_reducible assumption
    | with_reducible apply skidCount_below
    | with_reducible apply skidLine_below
    | with_reducible apply State.setSkidHid_below
    | with_reducible apply put_below
    | with_reducible apply wr_below
    | with_reducible apply ite_below
    | with_reducible refine each_below ?_ _ _ (fun _ _ _ => ?_)
    | with_reducible refine each2_below ?_ _ _ (fun _ _ _ => ?_)

theorem countEdges_below {b₀ : Nat} {u₀ s : State} (hk : Below b₀ u₀ s)  (hb : b₀ ≤ 0x1100000) :
    Below b₀ u₀ (countEdges s) := by
  unfold countEdges
  repeat' first
    | with_reducible assumption
    | with_reducible apply skidRecheck_below
    | with_reducible apply skidPass_below
    | with_reducible apply State.wrN_below
    | with_reducible apply State.put64_below
    | with_reducible apply put_below
    | with_reducible apply wr_below
    | with_reducible apply ite_below
    | with_reducible refine each_below ?_ _ _ (fun _ _ _ => ?_)
    | fail_if_no_progress with_reducible apply upd_below
    | split
    | dsimp only
    | (simp only [REIN_LIMCYC_LO, REIN_RATE, REIN_RATE.N, SKID_DCUR, SKID_STRCYC_LO]; first | omega | (unfold Outside; omega))

theorem reinCombine_below {b₀ : Nat} {u₀ s : State} (hk : Below b₀ u₀ s)  (hb : b₀ ≤ 0x1100000) :
    Below b₀ u₀ (reinCombine s) := by
  unfold reinCombine
  repeat' first
    | with_reducible assumption
    | with_reducible apply State.ring_below
    | with_reducible apply countEdges_below
    | with_reducible apply put_below
    | with_reducible apply wr_below
    | with_reducible apply ite_below
    | with_reducible refine each_below ?_ _ _ (fun _ _ _ => ?_)
    | fail_if_no_progress with_reducible apply upd_below
    | split
    | (simp only [REIN_EVT, REIN_EVT.FLOOR, REIN_EVT.LIM_END, REIN_EVT.LIM_START, REIN_RATE, REIN_RATE.N, REIN_RATE.SRC, REIN_SUM, REIN_SUM.MINN, REIN_SUM.NLIM]; first | omega | (unfold Outside; omega))

theorem cplrEvent_below {b₀ : Nat} {u₀ s : State} (hk : Below b₀ u₀ s) (f : Fld) (off : Nat) (ha : Outside b₀ f.addr) :
    Below b₀ u₀ (cplrEvent f off s) := by
  unfold cplrEvent
  repeat' first
    | with_reducible assumption
    | with_reducible apply State.ring_below
    | with_reducible apply put_below

theorem cplrOvf_below {b₀ : Nat} {u₀ s : State} (hk : Below b₀ u₀ s) (f : Fld) (hb : b₀ ≤ 0x1400000) (hf : Outside b₀ f.addr) :
    Below b₀ u₀ (cplrOvf f s) := by
  unfold cplrOvf
  repeat' first
    | with_reducible assumption
    | with_reducible apply cplrEvent_below
    | with_reducible apply put_below
    | with_reducible apply wr_below
    | with_reducible apply ite_below
    | with_reducible refine each_below ?_ _ _ (fun _ _ _ => ?_)
    | fail_if_no_progress with_reducible apply upd_below
    | split
    | (simp only [CPLR_EVT, CPLR_EVT.OVF]; first | omega | (unfold Outside; omega))

theorem cplrSend_below {b₀ : Nat} {u₀ s : State} (hk : Below b₀ u₀ s) (e : Nat) (ws : List Word) :
    Below b₀ u₀ (cplrSend e ws s) := by
  unfold cplrSend
  repeat' first
    | with_reducible assumption
    | with_reducible apply put_below
    | with_reducible apply wr_below
    | with_reducible apply ite_below
    | with_reducible refine each_below ?_ _ _ (fun _ _ _ => ?_)
    | fail_if_no_progress with_reducible apply upd_below

theorem cplrSendDown_below {b₀ : Nat} {u₀ s : State} (hk : Below b₀ u₀ s) (ws : List Word) :
    Below b₀ u₀ (cplrSendDown ws s) := by
  unfold cplrSendDown
  repeat' first
    | with_reducible assumption
    | with_reducible apply cplrSend_below
    | with_reducible apply put_below
    | with_reducible apply wr_below
    | with_reducible apply ite_below
    | with_reducible refine each_below ?_ _ _ (fun _ _ _ => ?_)

theorem cplrSendUp_below {b₀ : Nat} {u₀ s : State} (hk : Below b₀ u₀ s) (ws : List Word) :
    Below b₀ u₀ (cplrSendUp ws s) := by
  unfold cplrSendUp
  repeat' first
    | with_reducible assumption
    | with_reducible apply cplrSend_below
    | with_reducible apply put_below
    | with_reducible apply wr_below
    | with_reducible apply ite_below
    | with_reducible refine each_below ?_ _ _ (fun _ _ _ => ?_)

theorem putGrate_below {b₀ : Nat} {u₀ s : State} (hk : Below b₀ u₀ s) (x r : Nat) (hb : b₀ ≤ 0x1100000) :
    Below b₀ u₀ (putGrate x r s) := by
  unfold putGrate
  repeat' first
    | with_reducible assumption
    | with_reducible apply cplrEvent_below
    | with_reducible apply put_below
    | with_reducible apply wr_below
    | with_reducible apply ite_below
    | with_reducible refine each_below ?_ _ _ (fun _ _ _ => ?_)
    | fail_if_no_progress with_reducible apply upd_below
    | split
    | (simp only [CPLR_EVT, CPLR_EVT.CC, CPLR_GRP_STAT, CPLR_GRP_STAT.GRATE]; first | omega | (unfold Outside; omega))

theorem State.setCslot_below {b₀ : Nat} {u₀ s : State} (hk : Below b₀ u₀ s) (x : Nat) (h : CplrSlot) :
    Below b₀ u₀ (State.setCslot s x h) := by
  unfold State.setCslot
  repeat' first
    | with_reducible assumption
    | with_reducible apply put_below
    | with_reducible apply wr_below
    | with_reducible apply ite_below
    | with_reducible refine each_below ?_ _ _ (fun _ _ _ => ?_)
    | fail_if_no_progress with_reducible apply upd_below

theorem cocapSlot_below {b₀ : Nat} {u₀ s : State} (hk : Below b₀ u₀ s) (x r e : Nat) (hb : b₀ ≤ 0x1100000) :
    Below b₀ u₀ (cocapSlot x r e s) := by
  unfold cocapSlot
  repeat' first
    | with_reducible assumption
    | with_reducible apply State.incSat_below
    | with_reducible apply cplrOvf_below
    | with_reducible apply putGrate_below
    | with_reducible apply State.setCslot_below
    | with_reducible apply put_below
    | with_reducible apply wr_below
    | with_reducible apply ite_below
    | with_reducible refine each_below ?_ _ _ (fun _ _ _ => ?_)
    | fail_if_no_progress with_reducible apply upd_below
    | split
    | (simp only [CPLR_CNT, CPLR_CNT.CC_LATE, CPLR_EVT, CPLR_EVT.AGG_OVF, CPLR_GRP_STAT, CPLR_GRP_STAT.LATE, CPLR_GRP_STAT.RG]; first | omega | (unfold Outside; omega))
    | (unfold Outside; omega)
    | omega

theorem cocapRequests_below {b₀ : Nat} {u₀ s : State} (hk : Below b₀ u₀ s)  (hb : b₀ ≤ 0x1100000) :
    Below b₀ u₀ (cocapRequests s) := by
  unfold cocapRequests
  repeat' first
    | with_reducible assumption
    | with_reducible apply reinCombine_below
    | with_reducible apply put_below
    | with_reducible apply wr_below
    | with_reducible apply ite_below
    | with_reducible refine each_below ?_ _ _ (fun _ _ _ => ?_)
    | fail_if_no_progress with_reducible apply upd_below
    | split
    | (simp only [CPLR_GRP_STAT, CPLR_GRP_STAT.GRATE, REIN_HWREQ1, REIN_HWREQ1.COCAP]; first | omega | (unfold Outside; omega))

theorem cocapPass_below {b₀ : Nat} {u₀ s : State} (hk : Below b₀ u₀ s) (gid r e : Nat) (hb : b₀ ≤ 0x1100000) :
    Below b₀ u₀ (cocapPass gid r e s) := by
  unfold cocapPass
  repeat' first
    | with_reducible assumption
    | with_reducible apply cplrSendDown_below
    | with_reducible apply cocapSlot_below
    | with_reducible apply cocapRequests_below
    | with_reducible apply put_below
    | with_reducible apply wr_below
    | with_reducible apply ite_below
    | with_reducible refine each_below ?_ _ _ (fun _ _ _ => ?_)
    | fail_if_no_progress with_reducible apply upd_below

theorem aggReport_below {b₀ : Nat} {u₀ s : State} (hk : Below b₀ u₀ s) (gid r : Nat) (hb : b₀ ≤ 0x1100000) :
    Below b₀ u₀ (aggReport gid r s) := by
  unfold aggReport
  repeat' first
    | with_reducible assumption
    | with_reducible apply cplrSendUp_below
    | with_reducible apply cocapPass_below
    | with_reducible apply put_below
    | with_reducible apply wr_below
    | with_reducible apply ite_below

theorem aggPut_below {b₀ : Nat} {u₀ s : State} (hk : Below b₀ u₀ s) (gid key r : Nat) (hb : b₀ ≤ 0x1100000) :
    Below b₀ u₀ (aggPut gid key r s) := by
  unfold aggPut
  repeat' first
    | with_reducible assumption
    | with_reducible apply cplrOvf_below
    | with_reducible apply aggReport_below
    | with_reducible apply put_below
    | with_reducible apply wr_below
    | with_reducible apply ite_below
    | with_reducible refine each_below ?_ _ _ (fun _ _ _ => ?_)
    | fail_if_no_progress with_reducible apply upd_below
    | split
    | (simp only [CPLR_EVT, CPLR_EVT.AGG_OVF]; first | omega | (unfold Outside; omega))
    | (unfold Outside; omega)
    | omega
    | dsimp only

theorem announceAll_below {b₀ : Nat} {u₀ s : State} (hk : Below b₀ u₀ s)  (hb : b₀ ≤ 0x1100000) :
    Below b₀ u₀ (announceAll s) := by
  unfold announceAll
  repeat' first
    | with_reducible assumption
    | with_reducible apply aggPut_below
    | with_reducible apply put_below
    | with_reducible apply wr_below
    | with_reducible apply ite_below
    | with_reducible refine each_below ?_ _ _ (fun _ _ _ => ?_)
    | fail_if_no_progress with_reducible apply upd_below
    | split
    | (simp only [CPLR_GRP_STAT, CPLR_GRP_STAT.ANN]; first | omega | (unfold Outside; omega))

theorem reinAll_below {b₀ : Nat} {u₀ s : State} (hk : Below b₀ u₀ s)  (hb : b₀ ≤ 0x1100000) :
    Below b₀ u₀ (reinAll s) := by
  unfold reinAll
  repeat' first
    | with_reducible assumption
    | with_reducible apply reinCombine_below
    | with_reducible apply announceAll_below

/-- After every register write the combiner runs; a register below the Reins block other than LPE_EVT reads as without
it. -/
theorem reinAll_rd (s : State) (a : Nat) (h : a < 0x1100000) (hn : a ≠ LPE_EVT) : (reinAll s).rd a = s.rd a :=
  reinAll_below (Below.refl 0x1100000 s) (le_refl _) a h hn

theorem reinAll_get (s : State) (f : Fld) (h : f.addr < 0x1100000) (hn : f.addr ≠ LPE_EVT) :
    (reinAll s).get f = s.get f := by
  rw [State.get, State.get, reinAll_rd _ _ h hn]

end Sys2Proof.Machine
end

