-- ==== Sys2Proof/Laws/Tables.lean ====
section
/-! SUPPORT. Laws/Tables.lean: the register tables are well formed (fields inside the word, apart from each other, legal values
inside the field), and what a write by access codes leaves in each field. -/

namespace Sys2Proof.Machine

/-- Two fields share no bit. -/
def FieldDef.apart (f g : FieldDef) : Bool := decide (f.hi < g.lo) || decide (g.hi < f.lo)

/-- A field lies inside the word, and its legal values inside the field. -/
def FieldDef.inside (f : FieldDef) : Bool :=
  decide (f.lo ≤ f.hi) && decide (f.hi < 32) && decide (f.least ≤ f.most) && decide (f.most < 2 ^ (f.hi + 1 - f.lo))

/-- Fields inside the word and apart from each other. -/
def fieldsOk : List FieldDef → Bool
  | [] => true
  | f :: fs => f.inside && fs.all f.apart && fieldsOk fs

def tableOk (t : List RegDef) : Bool := t.all fun r => fieldsOk r.fields

theorem tableVL_ok : tableOk tableVL = true := by decide
theorem tablePST_ok : tableOk tablePST = true := by decide
theorem tableMCH_ok : tableOk tableMCH = true := by decide
theorem tableCBSE_ok : tableOk tableCBSE = true := by decide
theorem tableTIM_ok : tableOk tableTIM = true := by decide
theorem tableXPH_ok : tableOk tableXPH = true := by decide
theorem tableRGN_ok : tableOk tableRGN = true := by decide
theorem tableCELL_ok : tableOk tableCELL = true := by decide
theorem tableVSN_ok : tableOk tableVSN = true := by decide
theorem tableSNS_ok : tableOk tableSNS = true := by decide
theorem tableTHM_ok : tableOk tableTHM = true := by decide
theorem tableLPE_ok : tableOk tableLPE = true := by decide
theorem tableTTB_ok : tableOk tableTTB = true := by decide
theorem tableODR_ok : tableOk tableODR = true := by decide
theorem tableREIN_ok : tableOk tableREIN = true := by decide
theorem tableTNDR_ok : tableOk tableTNDR = true := by decide
theorem tableSKID_ok : tableOk tableSKID = true := by decide
theorem tablePWR_ok : tableOk tablePWR = true := by decide
theorem tableCPLR_ok : tableOk tableCPLR = true := by decide
theorem tableTLM_ok : tableOk tableTLM = true := by decide
theorem tableAGE_ok : tableOk tableAGE = true := by decide
theorem tableHOLD_ok : tableOk tableHOLD = true := by decide
theorem tableTRC_ok : tableOk tableTRC = true := by decide
theorem tableDBG_ok : tableOk tableDBG = true := by decide

theorem tableOk_ite {c : Prop} [Decidable c] {x y : List RegDef} (hx : tableOk x = true) (hy : tableOk y = true) :
    tableOk (if c then x else y) = true := by split <;> assumption

/-- Every register table of the window is well formed. -/
theorem tableOf_ok (a : Nat) : tableOk (tableOf a) = true :=
  tableOk_ite tableVL_ok (tableOk_ite tablePST_ok (tableOk_ite tableMCH_ok (tableOk_ite tableCBSE_ok
  (tableOk_ite tableTIM_ok (tableOk_ite tableXPH_ok (tableOk_ite tableRGN_ok (tableOk_ite tableCELL_ok
  (tableOk_ite tableVSN_ok (tableOk_ite tableSNS_ok (tableOk_ite tableTHM_ok (tableOk_ite tableLPE_ok
  (tableOk_ite tableTTB_ok (tableOk_ite tableODR_ok (tableOk_ite tableREIN_ok (tableOk_ite tableTNDR_ok
  (tableOk_ite tableSKID_ok (tableOk_ite tablePWR_ok (tableOk_ite tableCPLR_ok (tableOk_ite tableTLM_ok
  (tableOk_ite tableAGE_ok (tableOk_ite tableHOLD_ok (tableOk_ite tableTRC_ok tableDBG_ok))))))))))))))))))))))

theorem regDef?_ok {a : Nat} {r : RegDef} (h : regDef? a = some r) : fieldsOk r.fields = true := by
  have hm := List.mem_of_find?_eq_some h
  exact List.all_eq_true.mp (tableOf_ok a) r hm

/-! ### A write by access codes -/

/-- Storing through the code of one field leaves a field apart from it. -/
theorem storeField_other (fresh v acc : Word) (f g : FieldDef) (h : f.apart g = true) :
    fldGet (storeField fresh v acc f) g.hi g.lo = fldGet acc g.hi g.lo := by
  have hd : f.hi < g.lo ∨ g.hi < f.lo := by simpa [FieldDef.apart] using h
  have key (w : Word) (i : Nat) : i < g.hi + 1 - g.lo → (w &&& fldMask f.hi f.lo).getLsbD (g.lo + i) = false := by
    intro hi
    simp only [fldMask, BitVec.getLsbD_and, BitVec.getLsbD_ofNat, Nat.testBit_mul_two_pow, Nat.testBit_two_pow_sub_one]
    by_cases h1 : f.lo ≤ g.lo + i
    · have h2 : ¬ (g.lo + i - f.lo < f.hi + 1 - f.lo) := by omega
      simp [h2]
    · simp [h1]
  have ext (x y : Word) (hxy : ∀ i, i < g.hi + 1 - g.lo → x.getLsbD (g.lo + i) = y.getLsbD (g.lo + i)) :
      fldGet x g.hi g.lo = fldGet y g.hi g.lo := by
    apply Nat.eq_of_testBit_eq
    intro i
    simp only [fldGet, Nat.testBit_mod_two_pow, BitVec.toNat_ushiftRight, Nat.testBit_shiftRight, BitVec.testBit_toNat]
    by_cases hi : i < g.hi + 1 - g.lo
    · simp [hi, hxy i hi]
    · simp [hi]
  have hset (x : Nat) : fldGet (fldSet acc f.hi f.lo x) g.hi g.lo = fldGet acc g.hi g.lo := fldGet_fldSet_other _ _ _ _ _ _ hd
  unfold storeField
  split
  · dsimp only
    split <;> split <;> first | exact hset _ | rfl
  · refine ext _ _ fun i hi => ?_
    rw [BitVec.getLsbD_and, BitVec.getLsbD_not, BitVec.getLsbD_and, key v i hi, Bool.false_and]
    by_cases hb : g.lo + i < 32
    · simp [hb]
    · rw [BitVec.getLsbD_of_ge _ _ (by omega)]; simp
  · refine ext _ _ fun i hi => ?_
    rw [BitVec.getLsbD_or, key v i hi, Bool.or_false]
  all_goals rfl

/-- Fields apart from those of a list keep their value through its stores. -/
theorem storeFields_other (fresh v : Word) (fs : List FieldDef) (acc : Word) (g : FieldDef) (h : ∀ f ∈ fs, f.apart g = true) :
    fldGet (fs.foldl (storeField fresh v) acc) g.hi g.lo = fldGet acc g.hi g.lo := by
  induction fs generalizing acc with
  | nil => rfl
  | cons f fs ih =>
    rw [List.foldl_cons, ih _ (fun x hx => h x (List.mem_cons_of_mem _ hx)), storeField_other _ _ _ _ _ (h f (by simp))]

/-- A field of a well-formed register after a write holds what its own access code stores. -/
theorem storeWord_field (r : RegDef) (hr : fieldsOk r.fields = true) (fresh old v : Word) (f : FieldDef) (hf : f ∈ r.fields) :
    ∃ acc, fldGet acc f.hi f.lo = fldGet old f.hi f.lo ∧
      fldGet (storeWord r fresh old v) f.hi f.lo = fldGet (storeField fresh v acc f) f.hi f.lo := by
  unfold storeWord
  generalize r.fields = fs at hr hf
  induction fs generalizing old with
  | nil => simp at hf
  | cons x fs ih =>
    simp only [fieldsOk, Bool.and_eq_true, List.all_eq_true] at hr
    rcases List.mem_cons.mp hf with rfl | hf
    · refine ⟨old, rfl, ?_⟩
      rw [List.foldl_cons]
      refine storeFields_other _ _ _ _ _ fun y hy => ?_
      have := hr.1.2 y hy
      simp only [FieldDef.apart, Bool.or_eq_true, decide_eq_true_eq] at this ⊢
      omega
    · obtain ⟨acc, h1, h2⟩ := ih (storeField fresh v old x) hr.2 hf
      exact ⟨acc, h1.trans (storeField_other _ _ _ _ _ (hr.1.2 f hf)), h2⟩

end Sys2Proof.Machine
end

