-- ==== Sys2Proof/Laws/Facts.lean ====
section
/-! SUPPORT. Laws/Facts.lean: what the small updates of State leave as it was, field by field, and lemmas on fields, loops over
lists, frames and Yutre replies that the proofs of the statements cite. -/

namespace Sys2Proof.Machine

open State

theorem State.rd_wr (s : State) (a b : Nat) (w : Word) : (s.wr a w).rd b = if b = a then w else s.rd b := by
  split
  · rename_i h; subst h; simp
  · rename_i h; exact rd_wr_other _ _ _ _ h

theorem fldGet_fldSet_same' (w : Word) (hi lo v : Nat) (h : (decide (lo ≤ hi) && decide (hi < 32)) = true) :
    fldGet (fldSet w hi lo v) hi lo = v % 2 ^ (hi + 1 - lo) := by
  simp at h; exact fldGet_fldSet_same _ _ _ _ h.1 h.2

theorem fldGet_fldSet_other' (w : Word) (hi lo hi' lo' v : Nat) (h : (decide (hi < lo') || decide (hi' < lo)) = true) :
    fldGet (fldSet w hi lo v) hi' lo' = fldGet w hi' lo' := by
  simp at h; exact fldGet_fldSet_other _ _ _ _ _ _ h

@[simp] theorem advanceTo_efuse (s : State) (e : Dword) : (s.advanceTo e).efuse = s.efuse := by
  unfold State.advanceTo; dsimp only; split; · rfl
  split; · rfl
  split <;> rfl

@[simp] theorem advanceTo_latch (s : State) (e : Dword) : (s.advanceTo e).latch = s.latch := by
  unfold State.advanceTo; dsimp only; split; · rfl
  split; · rfl
  split <;> rfl

@[simp] theorem advanceTo_rdata (s : State) (e : Dword) : (s.advanceTo e).rdata = s.rdata := by
  unfold State.advanceTo; dsimp only; split; · rfl
  split; · rfl
  split <;> rfl

@[simp] theorem advanceTo_freeCtr (s : State) (e : Dword) : (s.advanceTo e).freeCtr = s.freeCtr := by
  unfold State.advanceTo; dsimp only; split; · rfl
  split; · rfl
  split <;> rfl

@[simp] theorem advanceTo_sea (s : State) (e : Dword) : (s.advanceTo e).sea = s.sea := by
  unfold State.advanceTo; dsimp only; split; · rfl
  split; · rfl
  split <;> rfl

@[simp] theorem advanceTo_cell (s : State) (e : Dword) : (s.advanceTo e).cell = s.cell := by
  unfold State.advanceTo; dsimp only; split; · rfl
  split; · rfl
  split <;> rfl

@[simp] theorem advanceTo_rgn (s : State) (e : Dword) : (s.advanceTo e).rgn = s.rgn := by
  unfold State.advanceTo; dsimp only; split; · rfl
  split; · rfl
  split <;> rfl

@[simp] theorem advanceTo_cfg (s : State) (e : Dword) : (s.advanceTo e).cfg = s.cfg := by
  unfold State.advanceTo; dsimp only; split; · rfl
  split; · rfl
  split <;> rfl

@[simp] theorem advanceTo_ph (s : State) (e : Dword) : (s.advanceTo e).ph = s.ph := by
  unfold State.advanceTo; dsimp only; split; · rfl
  split; · rfl
  split <;> rfl

@[simp] theorem advanceTo_xph (s : State) (e : Dword) : (s.advanceTo e).xph = s.xph := by
  unfold State.advanceTo; dsimp only; split; · rfl
  split; · rfl
  split <;> rfl

@[simp] theorem advanceTo_loop (s : State) (e : Dword) : (s.advanceTo e).loop = s.loop := by
  unfold State.advanceTo; dsimp only; split; · rfl
  split; · rfl
  split <;> rfl

@[simp] theorem advanceTo_lpe (s : State) (e : Dword) : (s.advanceTo e).lpe = s.lpe := by
  unfold State.advanceTo; dsimp only; split; · rfl
  split; · rfl
  split <;> rfl

@[simp] theorem advanceTo_trc (s : State) (e : Dword) : (s.advanceTo e).trc = s.trc := by
  unfold State.advanceTo; dsimp only; split; · rfl
  split; · rfl
  split <;> rfl

@[simp] theorem advanceTo_ttb (s : State) (e : Dword) : (s.advanceTo e).ttb = s.ttb := by
  unfold State.advanceTo; dsimp only; split; · rfl
  split; · rfl
  split <;> rfl

@[simp] theorem advanceTo_odr (s : State) (e : Dword) : (s.advanceTo e).odr = s.odr := by
  unfold State.advanceTo; dsimp only; split; · rfl
  split; · rfl
  split <;> rfl

@[simp] theorem advanceTo_skid (s : State) (e : Dword) : (s.advanceTo e).skid = s.skid := by
  unfold State.advanceTo; dsimp only; split; · rfl
  split; · rfl
  split <;> rfl

@[simp] theorem advanceTo_tndr (s : State) (e : Dword) : (s.advanceTo e).tndr = s.tndr := by
  unfold State.advanceTo; dsimp only; split; · rfl
  split; · rfl
  split <;> rfl

@[simp] theorem advanceTo_pwr (s : State) (e : Dword) : (s.advanceTo e).pwr = s.pwr := by
  unfold State.advanceTo; dsimp only; split; · rfl
  split; · rfl
  split <;> rfl

@[simp] theorem advanceTo_pwrRgn (s : State) (e : Dword) : (s.advanceTo e).pwrRgn = s.pwrRgn := by
  unfold State.advanceTo; dsimp only; split; · rfl
  split; · rfl
  split <;> rfl

@[simp] theorem advanceTo_wblGrp (s : State) (e : Dword) : (s.advanceTo e).wblGrp = s.wblGrp := by
  unfold State.advanceTo; dsimp only; split; · rfl
  split; · rfl
  split <;> rfl

@[simp] theorem advanceTo_cplr (s : State) (e : Dword) : (s.advanceTo e).cplr = s.cplr := by
  unfold State.advanceTo; dsimp only; split; · rfl
  split; · rfl
  split <;> rfl

@[simp] theorem advanceTo_cplrEp (s : State) (e : Dword) : (s.advanceTo e).cplrEp = s.cplrEp := by
  unfold State.advanceTo; dsimp only; split; · rfl
  split; · rfl
  split <;> rfl

@[simp] theorem advanceTo_cplrSlot (s : State) (e : Dword) : (s.advanceTo e).cplrSlot = s.cplrSlot := by
  unfold State.advanceTo; dsimp only; split; · rfl
  split; · rfl
  split <;> rfl

@[simp] theorem advanceTo_sns (s : State) (e : Dword) : (s.advanceTo e).sns = s.sns := by
  unfold State.advanceTo; dsimp only; split; · rfl
  split; · rfl
  split <;> rfl

@[simp] theorem advanceTo_snsConv (s : State) (e : Dword) : (s.advanceTo e).snsConv = s.snsConv := by
  unfold State.advanceTo; dsimp only; split; · rfl
  split; · rfl
  split <;> rfl

@[simp] theorem advanceTo_snsComp (s : State) (e : Dword) : (s.advanceTo e).snsComp = s.snsComp := by
  unfold State.advanceTo; dsimp only; split; · rfl
  split; · rfl
  split <;> rfl

@[simp] theorem advanceTo_thmSensor (s : State) (e : Dword) : (s.advanceTo e).thmSensor = s.thmSensor := by
  unfold State.advanceTo; dsimp only; split; · rfl
  split; · rfl
  split <;> rfl

@[simp] theorem advanceTo_thmGroup (s : State) (e : Dword) : (s.advanceTo e).thmGroup = s.thmGroup := by
  unfold State.advanceTo; dsimp only; split; · rfl
  split; · rfl
  split <;> rfl

@[simp] theorem advanceTo_thm (s : State) (e : Dword) : (s.advanceTo e).thm = s.thm := by
  unfold State.advanceTo; dsimp only; split; · rfl
  split; · rfl
  split <;> rfl

@[simp] theorem advanceTo_cbse (s : State) (e : Dword) : (s.advanceTo e).cbse = s.cbse := by
  unfold State.advanceTo; dsimp only; split; · rfl
  split; · rfl
  split <;> rfl

@[simp] theorem advanceTo_tlm (s : State) (e : Dword) : (s.advanceTo e).tlm = s.tlm := by
  unfold State.advanceTo; dsimp only; split; · rfl
  split; · rfl
  split <;> rfl

@[simp] theorem advanceTo_core (s : State) (e : Dword) : (s.advanceTo e).core = s.core := by
  unfold State.advanceTo; dsimp only; split; · rfl
  split; · rfl
  split <;> rfl

@[simp] theorem advanceTo_cache (s : State) (e : Dword) : (s.advanceTo e).cache = s.cache := by
  unfold State.advanceTo; dsimp only; split; · rfl
  split; · rfl
  split <;> rfl

@[simp] theorem advanceTo_ram (s : State) (e : Dword) : (s.advanceTo e).ram = s.ram := by
  unfold State.advanceTo; dsimp only; split; · rfl
  split; · rfl
  split <;> rfl

@[simp] theorem advanceTo_yutre (s : State) (e : Dword) : (s.advanceTo e).yutre = s.yutre := by
  unfold State.advanceTo; dsimp only; split; · rfl
  split; · rfl
  split <;> rfl

@[simp] theorem advanceTo_pst (s : State) (e : Dword) : (s.advanceTo e).pst = s.pst := by
  unfold State.advanceTo; dsimp only; split; · rfl
  split; · rfl
  split <;> rfl

@[simp] theorem advanceTo_smb (s : State) (e : Dword) : (s.advanceTo e).smb = s.smb := by
  unfold State.advanceTo; dsimp only; split; · rfl
  split; · rfl
  split <;> rfl

@[simp] theorem advanceTo_mch (s : State) (e : Dword) : (s.advanceTo e).mch = s.mch := by
  unfold State.advanceTo; dsimp only; split; · rfl
  split; · rfl
  split <;> rfl

@[simp] theorem advanceTo_rst (s : State) (e : Dword) : (s.advanceTo e).rst = s.rst := by
  unfold State.advanceTo; dsimp only; split; · rfl
  split; · rfl
  split <;> rfl

@[simp] theorem advanceTo_hold (s : State) (e : Dword) : (s.advanceTo e).hold = s.hold := by
  unfold State.advanceTo; dsimp only; split; · rfl
  split; · rfl
  split <;> rfl

@[simp] theorem advanceTo_out (s : State) (e : Dword) : (s.advanceTo e).out = s.out := by
  unfold State.advanceTo; dsimp only; split; · rfl
  split; · rfl
  split <;> rfl

@[simp] theorem advanceTo_pending (s : State) (e : Dword) : (s.advanceTo e).pending = s.pending := by
  unfold State.advanceTo; dsimp only; split; · rfl
  split; · rfl
  split <;> rfl

@[simp] theorem pulse_regs (s : State) (b : Nat) : (s.pulse b).regs = s.regs := rfl
@[simp] theorem pulse_ts (s : State) (b : Nat) : (s.pulse b).ts = s.ts := rfl
@[simp] theorem pulse_efuse (s : State) (b : Nat) : (s.pulse b).efuse = s.efuse := rfl
@[simp] theorem pulse_latch (s : State) (b : Nat) : (s.pulse b).latch = s.latch := rfl
@[simp] theorem pulse_rdata (s : State) (b : Nat) : (s.pulse b).rdata = s.rdata := rfl
@[simp] theorem pulse_freeCtr (s : State) (b : Nat) : (s.pulse b).freeCtr = s.freeCtr := rfl
@[simp] theorem pulse_tim (s : State) (b : Nat) : (s.pulse b).tim = s.tim := rfl
@[simp] theorem pulse_sea (s : State) (b : Nat) : (s.pulse b).sea = s.sea := rfl
@[simp] theorem pulse_cell (s : State) (b : Nat) : (s.pulse b).cell = s.cell := rfl
@[simp] theorem pulse_rgn (s : State) (b : Nat) : (s.pulse b).rgn = s.rgn := rfl
@[simp] theorem pulse_cfg (s : State) (b : Nat) : (s.pulse b).cfg = s.cfg := rfl
@[simp] theorem pulse_ph (s : State) (b : Nat) : (s.pulse b).ph = s.ph := rfl
@[simp] theorem pulse_xph (s : State) (b : Nat) : (s.pulse b).xph = s.xph := rfl
@[simp] theorem pulse_loop (s : State) (b : Nat) : (s.pulse b).loop = s.loop := rfl
@[simp] theorem pulse_lpe (s : State) (b : Nat) : (s.pulse b).lpe = s.lpe := rfl
@[simp] theorem pulse_trc (s : State) (b : Nat) : (s.pulse b).trc = s.trc := rfl
@[simp] theorem pulse_ttb (s : State) (b : Nat) : (s.pulse b).ttb = s.ttb := rfl
@[simp] theorem pulse_odr (s : State) (b : Nat) : (s.pulse b).odr = s.odr := rfl
@[simp] theorem pulse_skid (s : State) (b : Nat) : (s.pulse b).skid = s.skid := rfl
@[simp] theorem pulse_tndr (s : State) (b : Nat) : (s.pulse b).tndr = s.tndr := rfl
@[simp] theorem pulse_pwr (s : State) (b : Nat) : (s.pulse b).pwr = s.pwr := rfl
@[simp] theorem pulse_pwrRgn (s : State) (b : Nat) : (s.pulse b).pwrRgn = s.pwrRgn := rfl
@[simp] theorem pulse_wblGrp (s : State) (b : Nat) : (s.pulse b).wblGrp = s.wblGrp := rfl
@[simp] theorem pulse_cplr (s : State) (b : Nat) : (s.pulse b).cplr = s.cplr := rfl
@[simp] theorem pulse_cplrEp (s : State) (b : Nat) : (s.pulse b).cplrEp = s.cplrEp := rfl
@[simp] theorem pulse_cplrSlot (s : State) (b : Nat) : (s.pulse b).cplrSlot = s.cplrSlot := rfl
@[simp] theorem pulse_sns (s : State) (b : Nat) : (s.pulse b).sns = s.sns := rfl
@[simp] theorem pulse_snsConv (s : State) (b : Nat) : (s.pulse b).snsConv = s.snsConv := rfl
@[simp] theorem pulse_snsComp (s : State) (b : Nat) : (s.pulse b).snsComp = s.snsComp := rfl
@[simp] theorem pulse_thmSensor (s : State) (b : Nat) : (s.pulse b).thmSensor = s.thmSensor := rfl
@[simp] theorem pulse_thmGroup (s : State) (b : Nat) : (s.pulse b).thmGroup = s.thmGroup := rfl
@[simp] theorem pulse_thm (s : State) (b : Nat) : (s.pulse b).thm = s.thm := rfl
@[simp] theorem pulse_tlm (s : State) (b : Nat) : (s.pulse b).tlm = s.tlm := rfl
@[simp] theorem pulse_fw (s : State) (b : Nat) : (s.pulse b).fw = s.fw := rfl
@[simp] theorem pulse_core (s : State) (b : Nat) : (s.pulse b).core = s.core := rfl
@[simp] theorem pulse_cache (s : State) (b : Nat) : (s.pulse b).cache = s.cache := rfl
@[simp] theorem pulse_ram (s : State) (b : Nat) : (s.pulse b).ram = s.ram := rfl
@[simp] theorem pulse_yutre (s : State) (b : Nat) : (s.pulse b).yutre = s.yutre := rfl
@[simp] theorem pulse_pst (s : State) (b : Nat) : (s.pulse b).pst = s.pst := rfl
@[simp] theorem pulse_smb (s : State) (b : Nat) : (s.pulse b).smb = s.smb := rfl
@[simp] theorem pulse_mch (s : State) (b : Nat) : (s.pulse b).mch = s.mch := rfl
@[simp] theorem pulse_rst (s : State) (b : Nat) : (s.pulse b).rst = s.rst := rfl
@[simp] theorem pulse_hold (s : State) (b : Nat) : (s.pulse b).hold = s.hold := rfl
@[simp] theorem pulse_out (s : State) (b : Nat) : (s.pulse b).out = s.out := rfl
@[simp] theorem pulse_pending (s : State) (b : Nat) : (s.pulse b).pending = s.pending := rfl
@[simp] theorem ring_regs (s : State) (k o : Nat) : (s.ring k o).regs = s.regs := rfl
@[simp] theorem ring_ts (s : State) (k o : Nat) : (s.ring k o).ts = s.ts := rfl
@[simp] theorem ring_efuse (s : State) (k o : Nat) : (s.ring k o).efuse = s.efuse := rfl
@[simp] theorem ring_latch (s : State) (k o : Nat) : (s.ring k o).latch = s.latch := rfl
@[simp] theorem ring_rdata (s : State) (k o : Nat) : (s.ring k o).rdata = s.rdata := rfl
@[simp] theorem ring_freeCtr (s : State) (k o : Nat) : (s.ring k o).freeCtr = s.freeCtr := rfl
@[simp] theorem ring_tim (s : State) (k o : Nat) : (s.ring k o).tim = s.tim := rfl
@[simp] theorem ring_sea (s : State) (k o : Nat) : (s.ring k o).sea = s.sea := rfl
@[simp] theorem ring_cell (s : State) (k o : Nat) : (s.ring k o).cell = s.cell := rfl
@[simp] theorem ring_rgn (s : State) (k o : Nat) : (s.ring k o).rgn = s.rgn := rfl
@[simp] theorem ring_cfg (s : State) (k o : Nat) : (s.ring k o).cfg = s.cfg := rfl
@[simp] theorem ring_ph (s : State) (k o : Nat) : (s.ring k o).ph = s.ph := rfl
@[simp] theorem ring_xph (s : State) (k o : Nat) : (s.ring k o).xph = s.xph := rfl
@[simp] theorem ring_loop (s : State) (k o : Nat) : (s.ring k o).loop = s.loop := rfl
@[simp] theorem ring_lpe (s : State) (k o : Nat) : (s.ring k o).lpe = s.lpe := rfl
@[simp] theorem ring_trc (s : State) (k o : Nat) : (s.ring k o).trc = s.trc := rfl
@[simp] theorem ring_ttb (s : State) (k o : Nat) : (s.ring k o).ttb = s.ttb := rfl
@[simp] theorem ring_odr (s : State) (k o : Nat) : (s.ring k o).odr = s.odr := rfl
@[simp] theorem ring_skid (s : State) (k o : Nat) : (s.ring k o).skid = s.skid := rfl
@[simp] theorem ring_tndr (s : State) (k o : Nat) : (s.ring k o).tndr = s.tndr := rfl
@[simp] theorem ring_pwr (s : State) (k o : Nat) : (s.ring k o).pwr = s.pwr := rfl
@[simp] theorem ring_pwrRgn (s : State) (k o : Nat) : (s.ring k o).pwrRgn = s.pwrRgn := rfl
@[simp] theorem ring_wblGrp (s : State) (k o : Nat) : (s.ring k o).wblGrp = s.wblGrp := rfl
@[simp] theorem ring_cplr (s : State) (k o : Nat) : (s.ring k o).cplr = s.cplr := rfl
@[simp] theorem ring_cplrEp (s : State) (k o : Nat) : (s.ring k o).cplrEp = s.cplrEp := rfl
@[simp] theorem ring_cplrSlot (s : State) (k o : Nat) : (s.ring k o).cplrSlot = s.cplrSlot := rfl
@[simp] theorem ring_sns (s : State) (k o : Nat) : (s.ring k o).sns = s.sns := rfl
@[simp] theorem ring_snsConv (s : State) (k o : Nat) : (s.ring k o).snsConv = s.snsConv := rfl
@[simp] theorem ring_snsComp (s : State) (k o : Nat) : (s.ring k o).snsComp = s.snsComp := rfl
@[simp] theorem ring_thmSensor (s : State) (k o : Nat) : (s.ring k o).thmSensor = s.thmSensor := rfl
@[simp] theorem ring_thmGroup (s : State) (k o : Nat) : (s.ring k o).thmGroup = s.thmGroup := rfl
@[simp] theorem ring_thm (s : State) (k o : Nat) : (s.ring k o).thm = s.thm := rfl
@[simp] theorem ring_cbse (s : State) (k o : Nat) : (s.ring k o).cbse = s.cbse := rfl
@[simp] theorem ring_tlm (s : State) (k o : Nat) : (s.ring k o).tlm = s.tlm := rfl
@[simp] theorem ring_fw (s : State) (k o : Nat) : (s.ring k o).fw = s.fw := rfl
@[simp] theorem ring_core (s : State) (k o : Nat) : (s.ring k o).core = s.core := rfl
@[simp] theorem ring_cache (s : State) (k o : Nat) : (s.ring k o).cache = s.cache := rfl
@[simp] theorem ring_ram (s : State) (k o : Nat) : (s.ring k o).ram = s.ram := rfl
@[simp] theorem ring_yutre (s : State) (k o : Nat) : (s.ring k o).yutre = s.yutre := rfl
@[simp] theorem ring_smb (s : State) (k o : Nat) : (s.ring k o).smb = s.smb := rfl
@[simp] theorem ring_mch (s : State) (k o : Nat) : (s.ring k o).mch = s.mch := rfl
@[simp] theorem ring_rst (s : State) (k o : Nat) : (s.ring k o).rst = s.rst := rfl
@[simp] theorem ring_hold (s : State) (k o : Nat) : (s.ring k o).hold = s.hold := rfl
@[simp] theorem ring_out (s : State) (k o : Nat) : (s.ring k o).out = s.out := rfl
@[simp] theorem ring_pending (s : State) (k o : Nat) : (s.ring k o).pending = s.pending := rfl
@[simp] theorem reply_regs (s : State) (st : Nat) (ws : List Word) : (s.reply st ws).regs = s.regs := rfl
@[simp] theorem reply_ts (s : State) (st : Nat) (ws : List Word) : (s.reply st ws).ts = s.ts := rfl
@[simp] theorem reply_efuse (s : State) (st : Nat) (ws : List Word) : (s.reply st ws).efuse = s.efuse := rfl
@[simp] theorem reply_latch (s : State) (st : Nat) (ws : List Word) : (s.reply st ws).latch = s.latch := rfl
@[simp] theorem reply_freeCtr (s : State) (st : Nat) (ws : List Word) : (s.reply st ws).freeCtr = s.freeCtr := rfl
@[simp] theorem reply_tim (s : State) (st : Nat) (ws : List Word) : (s.reply st ws).tim = s.tim := rfl
@[simp] theorem reply_sea (s : State) (st : Nat) (ws : List Word) : (s.reply st ws).sea = s.sea := rfl
@[simp] theorem reply_cell (s : State) (st : Nat) (ws : List Word) : (s.reply st ws).cell = s.cell := rfl
@[simp] theorem reply_rgn (s : State) (st : Nat) (ws : List Word) : (s.reply st ws).rgn = s.rgn := rfl
@[simp] theorem reply_cfg (s : State) (st : Nat) (ws : List Word) : (s.reply st ws).cfg = s.cfg := rfl
@[simp] theorem reply_ph (s : State) (st : Nat) (ws : List Word) : (s.reply st ws).ph = s.ph := rfl
@[simp] theorem reply_xph (s : State) (st : Nat) (ws : List Word) : (s.reply st ws).xph = s.xph := rfl
@[simp] theorem reply_loop (s : State) (st : Nat) (ws : List Word) : (s.reply st ws).loop = s.loop := rfl
@[simp] theorem reply_lpe (s : State) (st : Nat) (ws : List Word) : (s.reply st ws).lpe = s.lpe := rfl
@[simp] theorem reply_trc (s : State) (st : Nat) (ws : List Word) : (s.reply st ws).trc = s.trc := rfl
@[simp] theorem reply_ttb (s : State) (st : Nat) (ws : List Word) : (s.reply st ws).ttb = s.ttb := rfl
@[simp] theorem reply_odr (s : State) (st : Nat) (ws : List Word) : (s.reply st ws).odr = s.odr := rfl
@[simp] theorem reply_skid (s : State) (st : Nat) (ws : List Word) : (s.reply st ws).skid = s.skid := rfl
@[simp] theorem reply_tndr (s : State) (st : Nat) (ws : List Word) : (s.reply st ws).tndr = s.tndr := rfl
@[simp] theorem reply_pwr (s : State) (st : Nat) (ws : List Word) : (s.reply st ws).pwr = s.pwr := rfl
@[simp] theorem reply_pwrRgn (s : State) (st : Nat) (ws : List Word) : (s.reply st ws).pwrRgn = s.pwrRgn := rfl
@[simp] theorem reply_wblGrp (s : State) (st : Nat) (ws : List Word) : (s.reply st ws).wblGrp = s.wblGrp := rfl
@[simp] theorem reply_cplr (s : State) (st : Nat) (ws : List Word) : (s.reply st ws).cplr = s.cplr := rfl
@[simp] theorem reply_cplrEp (s : State) (st : Nat) (ws : List Word) : (s.reply st ws).cplrEp = s.cplrEp := rfl
@[simp] theorem reply_cplrSlot (s : State) (st : Nat) (ws : List Word) : (s.reply st ws).cplrSlot = s.cplrSlot := rfl
@[simp] theorem reply_sns (s : State) (st : Nat) (ws : List Word) : (s.reply st ws).sns = s.sns := rfl
@[simp] theorem reply_snsConv (s : State) (st : Nat) (ws : List Word) : (s.reply st ws).snsConv = s.snsConv := rfl
@[simp] theorem reply_snsComp (s : State) (st : Nat) (ws : List Word) : (s.reply st ws).snsComp = s.snsComp := rfl
@[simp] theorem reply_thmSensor (s : State) (st : Nat) (ws : List Word) : (s.reply st ws).thmSensor = s.thmSensor := rfl
@[simp] theorem reply_thmGroup (s : State) (st : Nat) (ws : List Word) : (s.reply st ws).thmGroup = s.thmGroup := rfl
@[simp] theorem reply_thm (s : State) (st : Nat) (ws : List Word) : (s.reply st ws).thm = s.thm := rfl
@[simp] theorem reply_cbse (s : State) (st : Nat) (ws : List Word) : (s.reply st ws).cbse = s.cbse := rfl
@[simp] theorem reply_tlm (s : State) (st : Nat) (ws : List Word) : (s.reply st ws).tlm = s.tlm := rfl
@[simp] theorem reply_fw (s : State) (st : Nat) (ws : List Word) : (s.reply st ws).fw = s.fw := rfl
@[simp] theorem reply_core (s : State) (st : Nat) (ws : List Word) : (s.reply st ws).core = s.core := rfl
@[simp] theorem reply_cache (s : State) (st : Nat) (ws : List Word) : (s.reply st ws).cache = s.cache := rfl
@[simp] theorem reply_ram (s : State) (st : Nat) (ws : List Word) : (s.reply st ws).ram = s.ram := rfl
@[simp] theorem reply_yutre (s : State) (st : Nat) (ws : List Word) : (s.reply st ws).yutre = s.yutre := rfl
@[simp] theorem reply_pst (s : State) (st : Nat) (ws : List Word) : (s.reply st ws).pst = s.pst := rfl
@[simp] theorem reply_smb (s : State) (st : Nat) (ws : List Word) : (s.reply st ws).smb = s.smb := rfl
@[simp] theorem reply_mch (s : State) (st : Nat) (ws : List Word) : (s.reply st ws).mch = s.mch := rfl
@[simp] theorem reply_rst (s : State) (st : Nat) (ws : List Word) : (s.reply st ws).rst = s.rst := rfl
@[simp] theorem reply_hold (s : State) (st : Nat) (ws : List Word) : (s.reply st ws).hold = s.hold := rfl
@[simp] theorem reply_out (s : State) (st : Nat) (ws : List Word) : (s.reply st ws).out = s.out := rfl
@[simp] theorem reply_pending (s : State) (st : Nat) (ws : List Word) : (s.reply st ws).pending = s.pending := rfl
@[simp] theorem answer_regs (s : State) (ws : List Word) : (s.answer ws).regs = s.regs := rfl
@[simp] theorem answer_ts (s : State) (ws : List Word) : (s.answer ws).ts = s.ts := rfl
@[simp] theorem answer_efuse (s : State) (ws : List Word) : (s.answer ws).efuse = s.efuse := rfl
@[simp] theorem answer_latch (s : State) (ws : List Word) : (s.answer ws).latch = s.latch := rfl
@[simp] theorem answer_freeCtr (s : State) (ws : List Word) : (s.answer ws).freeCtr = s.freeCtr := rfl
@[simp] theorem answer_tim (s : State) (ws : List Word) : (s.answer ws).tim = s.tim := rfl
@[simp] theorem answer_sea (s : State) (ws : List Word) : (s.answer ws).sea = s.sea := rfl
@[simp] theorem answer_cell (s : State) (ws : List Word) : (s.answer ws).cell = s.cell := rfl
@[simp] theorem answer_rgn (s : State) (ws : List Word) : (s.answer ws).rgn = s.rgn := rfl
@[simp] theorem answer_cfg (s : State) (ws : List Word) : (s.answer ws).cfg = s.cfg := rfl
@[simp] theorem answer_ph (s : State) (ws : List Word) : (s.answer ws).ph = s.ph := rfl
@[simp] theorem answer_xph (s : State) (ws : List Word) : (s.answer ws).xph = s.xph := rfl
@[simp] theorem answer_loop (s : State) (ws : List Word) : (s.answer ws).loop = s.loop := rfl
@[simp] theorem answer_lpe (s : State) (ws : List Word) : (s.answer ws).lpe = s.lpe := rfl
@[simp] theorem answer_trc (s : State) (ws : List Word) : (s.answer ws).trc = s.trc := rfl
@[simp] theorem answer_ttb (s : State) (ws : List Word) : (s.answer ws).ttb = s.ttb := rfl
@[simp] theorem answer_odr (s : State) (ws : List Word) : (s.answer ws).odr = s.odr := rfl
@[simp] theorem answer_skid (s : State) (ws : List Word) : (s.answer ws).skid = s.skid := rfl
@[simp] theorem answer_tndr (s : State) (ws : List Word) : (s.answer ws).tndr = s.tndr := rfl
@[simp] theorem answer_pwr (s : State) (ws : List Word) : (s.answer ws).pwr = s.pwr := rfl
@[simp] theorem answer_pwrRgn (s : State) (ws : List Word) : (s.answer ws).pwrRgn = s.pwrRgn := rfl
@[simp] theorem answer_wblGrp (s : State) (ws : List Word) : (s.answer ws).wblGrp = s.wblGrp := rfl
@[simp] theorem answer_cplr (s : State) (ws : List Word) : (s.answer ws).cplr = s.cplr := rfl
@[simp] theorem answer_cplrEp (s : State) (ws : List Word) : (s.answer ws).cplrEp = s.cplrEp := rfl
@[simp] theorem answer_cplrSlot (s : State) (ws : List Word) : (s.answer ws).cplrSlot = s.cplrSlot := rfl
@[simp] theorem answer_sns (s : State) (ws : List Word) : (s.answer ws).sns = s.sns := rfl
@[simp] theorem answer_snsConv (s : State) (ws : List Word) : (s.answer ws).snsConv = s.snsConv := rfl
@[simp] theorem answer_snsComp (s : State) (ws : List Word) : (s.answer ws).snsComp = s.snsComp := rfl
@[simp] theorem answer_thmSensor (s : State) (ws : List Word) : (s.answer ws).thmSensor = s.thmSensor := rfl
@[simp] theorem answer_thmGroup (s : State) (ws : List Word) : (s.answer ws).thmGroup = s.thmGroup := rfl
@[simp] theorem answer_thm (s : State) (ws : List Word) : (s.answer ws).thm = s.thm := rfl
@[simp] theorem answer_cbse (s : State) (ws : List Word) : (s.answer ws).cbse = s.cbse := rfl
@[simp] theorem answer_tlm (s : State) (ws : List Word) : (s.answer ws).tlm = s.tlm := rfl
@[simp] theorem answer_fw (s : State) (ws : List Word) : (s.answer ws).fw = s.fw := rfl
@[simp] theorem answer_core (s : State) (ws : List Word) : (s.answer ws).core = s.core := rfl
@[simp] theorem answer_cache (s : State) (ws : List Word) : (s.answer ws).cache = s.cache := rfl
@[simp] theorem answer_ram (s : State) (ws : List Word) : (s.answer ws).ram = s.ram := rfl
@[simp] theorem answer_yutre (s : State) (ws : List Word) : (s.answer ws).yutre = s.yutre := rfl
@[simp] theorem answer_pst (s : State) (ws : List Word) : (s.answer ws).pst = s.pst := rfl
@[simp] theorem answer_smb (s : State) (ws : List Word) : (s.answer ws).smb = s.smb := rfl
@[simp] theorem answer_mch (s : State) (ws : List Word) : (s.answer ws).mch = s.mch := rfl
@[simp] theorem answer_rst (s : State) (ws : List Word) : (s.answer ws).rst = s.rst := rfl
@[simp] theorem answer_hold (s : State) (ws : List Word) : (s.answer ws).hold = s.hold := rfl
@[simp] theorem answer_out (s : State) (ws : List Word) : (s.answer ws).out = s.out := rfl
@[simp] theorem answer_pending (s : State) (ws : List Word) : (s.answer ws).pending = s.pending := rfl
@[simp] theorem hostWrite_regs (s : State) (addr : Nat) (ws : List Word) : (s.hostWrite addr ws).regs = s.regs := rfl
@[simp] theorem hostWrite_ts (s : State) (addr : Nat) (ws : List Word) : (s.hostWrite addr ws).ts = s.ts := rfl
@[simp] theorem hostWrite_efuse (s : State) (addr : Nat) (ws : List Word) : (s.hostWrite addr ws).efuse = s.efuse := rfl
@[simp] theorem hostWrite_latch (s : State) (addr : Nat) (ws : List Word) : (s.hostWrite addr ws).latch = s.latch := rfl
@[simp] theorem hostWrite_rdata (s : State) (addr : Nat) (ws : List Word) : (s.hostWrite addr ws).rdata = s.rdata := rfl
@[simp] theorem hostWrite_freeCtr (s : State) (addr : Nat) (ws : List Word) : (s.hostWrite addr ws).freeCtr = s.freeCtr := rfl
@[simp] theorem hostWrite_tim (s : State) (addr : Nat) (ws : List Word) : (s.hostWrite addr ws).tim = s.tim := rfl
@[simp] theorem hostWrite_sea (s : State) (addr : Nat) (ws : List Word) : (s.hostWrite addr ws).sea = s.sea := rfl
@[simp] theorem hostWrite_cell (s : State) (addr : Nat) (ws : List Word) : (s.hostWrite addr ws).cell = s.cell := rfl
@[simp] theorem hostWrite_rgn (s : State) (addr : Nat) (ws : List Word) : (s.hostWrite addr ws).rgn = s.rgn := rfl
@[simp] theorem hostWrite_cfg (s : State) (addr : Nat) (ws : List Word) : (s.hostWrite addr ws).cfg = s.cfg := rfl
@[simp] theorem hostWrite_ph (s : State) (addr : Nat) (ws : List Word) : (s.hostWrite addr ws).ph = s.ph := rfl
@[simp] theorem hostWrite_xph (s : State) (addr : Nat) (ws : List Word) : (s.hostWrite addr ws).xph = s.xph := rfl
@[simp] theorem hostWrite_loop (s : State) (addr : Nat) (ws : List Word) : (s.hostWrite addr ws).loop = s.loop := rfl
@[simp] theorem hostWrite_lpe (s : State) (addr : Nat) (ws : List Word) : (s.hostWrite addr ws).lpe = s.lpe := rfl
@[simp] theorem hostWrite_trc (s : State) (addr : Nat) (ws : List Word) : (s.hostWrite addr ws).trc = s.trc := rfl
@[simp] theorem hostWrite_ttb (s : State) (addr : Nat) (ws : List Word) : (s.hostWrite addr ws).ttb = s.ttb := rfl
@[simp] theorem hostWrite_odr (s : State) (addr : Nat) (ws : List Word) : (s.hostWrite addr ws).odr = s.odr := rfl
@[simp] theorem hostWrite_skid (s : State) (addr : Nat) (ws : List Word) : (s.hostWrite addr ws).skid = s.skid := rfl
@[simp] theorem hostWrite_tndr (s : State) (addr : Nat) (ws : List Word) : (s.hostWrite addr ws).tndr = s.tndr := rfl
@[simp] theorem hostWrite_pwr (s : State) (addr : Nat) (ws : List Word) : (s.hostWrite addr ws).pwr = s.pwr := rfl
@[simp] theorem hostWrite_pwrRgn (s : State) (addr : Nat) (ws : List Word) : (s.hostWrite addr ws).pwrRgn = s.pwrRgn := rfl
@[simp] theorem hostWrite_wblGrp (s : State) (addr : Nat) (ws : List Word) : (s.hostWrite addr ws).wblGrp = s.wblGrp := rfl
@[simp] theorem hostWrite_cplr (s : State) (addr : Nat) (ws : List Word) : (s.hostWrite addr ws).cplr = s.cplr := rfl
@[simp] theorem hostWrite_cplrEp (s : State) (addr : Nat) (ws : List Word) : (s.hostWrite addr ws).cplrEp = s.cplrEp := rfl
@[simp] theorem hostWrite_cplrSlot (s : State) (addr : Nat) (ws : List Word) : (s.hostWrite addr ws).cplrSlot = s.cplrSlot := rfl
@[simp] theorem hostWrite_sns (s : State) (addr : Nat) (ws : List Word) : (s.hostWrite addr ws).sns = s.sns := rfl
@[simp] theorem hostWrite_snsConv (s : State) (addr : Nat) (ws : List Word) : (s.hostWrite addr ws).snsConv = s.snsConv := rfl
@[simp] theorem hostWrite_snsComp (s : State) (addr : Nat) (ws : List Word) : (s.hostWrite addr ws).snsComp = s.snsComp := rfl
@[simp] theorem hostWrite_thmSensor (s : State) (addr : Nat) (ws : List Word) : (s.hostWrite addr ws).thmSensor = s.thmSensor := rfl
@[simp] theorem hostWrite_thmGroup (s : State) (addr : Nat) (ws : List Word) : (s.hostWrite addr ws).thmGroup = s.thmGroup := rfl
@[simp] theorem hostWrite_thm (s : State) (addr : Nat) (ws : List Word) : (s.hostWrite addr ws).thm = s.thm := rfl
@[simp] theorem hostWrite_cbse (s : State) (addr : Nat) (ws : List Word) : (s.hostWrite addr ws).cbse = s.cbse := rfl
@[simp] theorem hostWrite_tlm (s : State) (addr : Nat) (ws : List Word) : (s.hostWrite addr ws).tlm = s.tlm := rfl
@[simp] theorem hostWrite_fw (s : State) (addr : Nat) (ws : List Word) : (s.hostWrite addr ws).fw = s.fw := rfl
@[simp] theorem hostWrite_core (s : State) (addr : Nat) (ws : List Word) : (s.hostWrite addr ws).core = s.core := rfl
@[simp] theorem hostWrite_cache (s : State) (addr : Nat) (ws : List Word) : (s.hostWrite addr ws).cache = s.cache := rfl
@[simp] theorem hostWrite_ram (s : State) (addr : Nat) (ws : List Word) : (s.hostWrite addr ws).ram = s.ram := rfl
@[simp] theorem hostWrite_yutre (s : State) (addr : Nat) (ws : List Word) : (s.hostWrite addr ws).yutre = s.yutre := rfl
@[simp] theorem hostWrite_pst (s : State) (addr : Nat) (ws : List Word) : (s.hostWrite addr ws).pst = s.pst := rfl
@[simp] theorem hostWrite_smb (s : State) (addr : Nat) (ws : List Word) : (s.hostWrite addr ws).smb = s.smb := rfl
@[simp] theorem hostWrite_mch (s : State) (addr : Nat) (ws : List Word) : (s.hostWrite addr ws).mch = s.mch := rfl
@[simp] theorem hostWrite_rst (s : State) (addr : Nat) (ws : List Word) : (s.hostWrite addr ws).rst = s.rst := rfl
@[simp] theorem hostWrite_hold (s : State) (addr : Nat) (ws : List Word) : (s.hostWrite addr ws).hold = s.hold := rfl
@[simp] theorem hostWrite_pending (s : State) (addr : Nat) (ws : List Word) : (s.hostWrite addr ws).pending = s.pending := rfl
@[simp] theorem setChid_regs (s : State) (c : Nat) (h : CellHid) : (s.setChid c h).regs = s.regs := rfl
@[simp] theorem setChid_ts (s : State) (c : Nat) (h : CellHid) : (s.setChid c h).ts = s.ts := rfl
@[simp] theorem setChid_efuse (s : State) (c : Nat) (h : CellHid) : (s.setChid c h).efuse = s.efuse := rfl
@[simp] theorem setChid_latch (s : State) (c : Nat) (h : CellHid) : (s.setChid c h).latch = s.latch := rfl
@[simp] theorem setChid_rdata (s : State) (c : Nat) (h : CellHid) : (s.setChid c h).rdata = s.rdata := rfl
@[simp] theorem setChid_freeCtr (s : State) (c : Nat) (h : CellHid) : (s.setChid c h).freeCtr = s.freeCtr := rfl
@[simp] theorem setChid_tim (s : State) (c : Nat) (h : CellHid) : (s.setChid c h).tim = s.tim := rfl
@[simp] theorem setChid_sea (s : State) (c : Nat) (h : CellHid) : (s.setChid c h).sea = s.sea := rfl
@[simp] theorem setChid_rgn (s : State) (c : Nat) (h : CellHid) : (s.setChid c h).rgn = s.rgn := rfl
@[simp] theorem setChid_cfg (s : State) (c : Nat) (h : CellHid) : (s.setChid c h).cfg = s.cfg := rfl
@[simp] theorem setChid_ph (s : State) (c : Nat) (h : CellHid) : (s.setChid c h).ph = s.ph := rfl
@[simp] theorem setChid_xph (s : State) (c : Nat) (h : CellHid) : (s.setChid c h).xph = s.xph := rfl
@[simp] theorem setChid_loop (s : State) (c : Nat) (h : CellHid) : (s.setChid c h).loop = s.loop := rfl
@[simp] theorem setChid_lpe (s : State) (c : Nat) (h : CellHid) : (s.setChid c h).lpe = s.lpe := rfl
@[simp] theorem setChid_trc (s : State) (c : Nat) (h : CellHid) : (s.setChid c h).trc = s.trc := rfl
@[simp] theorem setChid_ttb (s : State) (c : Nat) (h : CellHid) : (s.setChid c h).ttb = s.ttb := rfl
@[simp] theorem setChid_odr (s : State) (c : Nat) (h : CellHid) : (s.setChid c h).odr = s.odr := rfl
@[simp] theorem setChid_skid (s : State) (c : Nat) (h : CellHid) : (s.setChid c h).skid = s.skid := rfl
@[simp] theorem setChid_tndr (s : State) (c : Nat) (h : CellHid) : (s.setChid c h).tndr = s.tndr := rfl
@[simp] theorem setChid_pwr (s : State) (c : Nat) (h : CellHid) : (s.setChid c h).pwr = s.pwr := rfl
@[simp] theorem setChid_pwrRgn (s : State) (c : Nat) (h : CellHid) : (s.setChid c h).pwrRgn = s.pwrRgn := rfl
@[simp] theorem setChid_wblGrp (s : State) (c : Nat) (h : CellHid) : (s.setChid c h).wblGrp = s.wblGrp := rfl
@[simp] theorem setChid_cplr (s : State) (c : Nat) (h : CellHid) : (s.setChid c h).cplr = s.cplr := rfl
@[simp] theorem setChid_cplrEp (s : State) (c : Nat) (h : CellHid) : (s.setChid c h).cplrEp = s.cplrEp := rfl
@[simp] theorem setChid_cplrSlot (s : State) (c : Nat) (h : CellHid) : (s.setChid c h).cplrSlot = s.cplrSlot := rfl
@[simp] theorem setChid_sns (s : State) (c : Nat) (h : CellHid) : (s.setChid c h).sns = s.sns := rfl
@[simp] theorem setChid_snsConv (s : State) (c : Nat) (h : CellHid) : (s.setChid c h).snsConv = s.snsConv := rfl
@[simp] theorem setChid_snsComp (s : State) (c : Nat) (h : CellHid) : (s.setChid c h).snsComp = s.snsComp := rfl
@[simp] theorem setChid_thmSensor (s : State) (c : Nat) (h : CellHid) : (s.setChid c h).thmSensor = s.thmSensor := rfl
@[simp] theorem setChid_thmGroup (s : State) (c : Nat) (h : CellHid) : (s.setChid c h).thmGroup = s.thmGroup := rfl
@[simp] theorem setChid_thm (s : State) (c : Nat) (h : CellHid) : (s.setChid c h).thm = s.thm := rfl
@[simp] theorem setChid_cbse (s : State) (c : Nat) (h : CellHid) : (s.setChid c h).cbse = s.cbse := rfl
@[simp] theorem setChid_tlm (s : State) (c : Nat) (h : CellHid) : (s.setChid c h).tlm = s.tlm := rfl
@[simp] theorem setChid_fw (s : State) (c : Nat) (h : CellHid) : (s.setChid c h).fw = s.fw := rfl
@[simp] theorem setChid_core (s : State) (c : Nat) (h : CellHid) : (s.setChid c h).core = s.core := rfl
@[simp] theorem setChid_cache (s : State) (c : Nat) (h : CellHid) : (s.setChid c h).cache = s.cache := rfl
@[simp] theorem setChid_ram (s : State) (c : Nat) (h : CellHid) : (s.setChid c h).ram = s.ram := rfl
@[simp] theorem setChid_yutre (s : State) (c : Nat) (h : CellHid) : (s.setChid c h).yutre = s.yutre := rfl
@[simp] theorem setChid_pst (s : State) (c : Nat) (h : CellHid) : (s.setChid c h).pst = s.pst := rfl
@[simp] theorem setChid_smb (s : State) (c : Nat) (h : CellHid) : (s.setChid c h).smb = s.smb := rfl
@[simp] theorem setChid_mch (s : State) (c : Nat) (h : CellHid) : (s.setChid c h).mch = s.mch := rfl
@[simp] theorem setChid_rst (s : State) (c : Nat) (h : CellHid) : (s.setChid c h).rst = s.rst := rfl
@[simp] theorem setChid_hold (s : State) (c : Nat) (h : CellHid) : (s.setChid c h).hold = s.hold := rfl
@[simp] theorem setChid_out (s : State) (c : Nat) (h : CellHid) : (s.setChid c h).out = s.out := rfl
@[simp] theorem setChid_pending (s : State) (c : Nat) (h : CellHid) : (s.setChid c h).pending = s.pending := rfl
@[simp] theorem setRhid_regs (s : State) (n : Nat) (h : RgnHid) : (s.setRhid n h).regs = s.regs := rfl
@[simp] theorem setRhid_ts (s : State) (n : Nat) (h : RgnHid) : (s.setRhid n h).ts = s.ts := rfl
@[simp] theorem setRhid_efuse (s : State) (n : Nat) (h : RgnHid) : (s.setRhid n h).efuse = s.efuse := rfl
@[simp] theorem setRhid_latch (s : State) (n : Nat) (h : RgnHid) : (s.setRhid n h).latch = s.latch := rfl
@[simp] theorem setRhid_rdata (s : State) (n : Nat) (h : RgnHid) : (s.setRhid n h).rdata = s.rdata := rfl
@[simp] theorem setRhid_freeCtr (s : State) (n : Nat) (h : RgnHid) : (s.setRhid n h).freeCtr = s.freeCtr := rfl
@[simp] theorem setRhid_tim (s : State) (n : Nat) (h : RgnHid) : (s.setRhid n h).tim = s.tim := rfl
@[simp] theorem setRhid_sea (s : State) (n : Nat) (h : RgnHid) : (s.setRhid n h).sea = s.sea := rfl
@[simp] theorem setRhid_cell (s : State) (n : Nat) (h : RgnHid) : (s.setRhid n h).cell = s.cell := rfl
@[simp] theorem setRhid_cfg (s : State) (n : Nat) (h : RgnHid) : (s.setRhid n h).cfg = s.cfg := rfl
@[simp] theorem setRhid_ph (s : State) (n : Nat) (h : RgnHid) : (s.setRhid n h).ph = s.ph := rfl
@[simp] theorem setRhid_xph (s : State) (n : Nat) (h : RgnHid) : (s.setRhid n h).xph = s.xph := rfl
@[simp] theorem setRhid_loop (s : State) (n : Nat) (h : RgnHid) : (s.setRhid n h).loop = s.loop := rfl
@[simp] theorem setRhid_lpe (s : State) (n : Nat) (h : RgnHid) : (s.setRhid n h).lpe = s.lpe := rfl
@[simp] theorem setRhid_trc (s : State) (n : Nat) (h : RgnHid) : (s.setRhid n h).trc = s.trc := rfl
@[simp] theorem setRhid_ttb (s : State) (n : Nat) (h : RgnHid) : (s.setRhid n h).ttb = s.ttb := rfl
@[simp] theorem setRhid_odr (s : State) (n : Nat) (h : RgnHid) : (s.setRhid n h).odr = s.odr := rfl
@[simp] theorem setRhid_skid (s : State) (n : Nat) (h : RgnHid) : (s.setRhid n h).skid = s.skid := rfl
@[simp] theorem setRhid_tndr (s : State) (n : Nat) (h : RgnHid) : (s.setRhid n h).tndr = s.tndr := rfl
@[simp] theorem setRhid_pwr (s : State) (n : Nat) (h : RgnHid) : (s.setRhid n h).pwr = s.pwr := rfl
@[simp] theorem setRhid_pwrRgn (s : State) (n : Nat) (h : RgnHid) : (s.setRhid n h).pwrRgn = s.pwrRgn := rfl
@[simp] theorem setRhid_wblGrp (s : State) (n : Nat) (h : RgnHid) : (s.setRhid n h).wblGrp = s.wblGrp := rfl
@[simp] theorem setRhid_cplr (s : State) (n : Nat) (h : RgnHid) : (s.setRhid n h).cplr = s.cplr := rfl
@[simp] theorem setRhid_cplrEp (s : State) (n : Nat) (h : RgnHid) : (s.setRhid n h).cplrEp = s.cplrEp := rfl
@[simp] theorem setRhid_cplrSlot (s : State) (n : Nat) (h : RgnHid) : (s.setRhid n h).cplrSlot = s.cplrSlot := rfl
@[simp] theorem setRhid_sns (s : State) (n : Nat) (h : RgnHid) : (s.setRhid n h).sns = s.sns := rfl
@[simp] theorem setRhid_snsConv (s : State) (n : Nat) (h : RgnHid) : (s.setRhid n h).snsConv = s.snsConv := rfl
@[simp] theorem setRhid_snsComp (s : State) (n : Nat) (h : RgnHid) : (s.setRhid n h).snsComp = s.snsComp := rfl
@[simp] theorem setRhid_thmSensor (s : State) (n : Nat) (h : RgnHid) : (s.setRhid n h).thmSensor = s.thmSensor := rfl
@[simp] theorem setRhid_thmGroup (s : State) (n : Nat) (h : RgnHid) : (s.setRhid n h).thmGroup = s.thmGroup := rfl
@[simp] theorem setRhid_thm (s : State) (n : Nat) (h : RgnHid) : (s.setRhid n h).thm = s.thm := rfl
@[simp] theorem setRhid_cbse (s : State) (n : Nat) (h : RgnHid) : (s.setRhid n h).cbse = s.cbse := rfl
@[simp] theorem setRhid_tlm (s : State) (n : Nat) (h : RgnHid) : (s.setRhid n h).tlm = s.tlm := rfl
@[simp] theorem setRhid_fw (s : State) (n : Nat) (h : RgnHid) : (s.setRhid n h).fw = s.fw := rfl
@[simp] theorem setRhid_core (s : State) (n : Nat) (h : RgnHid) : (s.setRhid n h).core = s.core := rfl
@[simp] theorem setRhid_cache (s : State) (n : Nat) (h : RgnHid) : (s.setRhid n h).cache = s.cache := rfl
@[simp] theorem setRhid_ram (s : State) (n : Nat) (h : RgnHid) : (s.setRhid n h).ram = s.ram := rfl
@[simp] theorem setRhid_yutre (s : State) (n : Nat) (h : RgnHid) : (s.setRhid n h).yutre = s.yutre := rfl
@[simp] theorem setRhid_pst (s : State) (n : Nat) (h : RgnHid) : (s.setRhid n h).pst = s.pst := rfl
@[simp] theorem setRhid_smb (s : State) (n : Nat) (h : RgnHid) : (s.setRhid n h).smb = s.smb := rfl
@[simp] theorem setRhid_mch (s : State) (n : Nat) (h : RgnHid) : (s.setRhid n h).mch = s.mch := rfl
@[simp] theorem setRhid_rst (s : State) (n : Nat) (h : RgnHid) : (s.setRhid n h).rst = s.rst := rfl
@[simp] theorem setRhid_hold (s : State) (n : Nat) (h : RgnHid) : (s.setRhid n h).hold = s.hold := rfl
@[simp] theorem setRhid_out (s : State) (n : Nat) (h : RgnHid) : (s.setRhid n h).out = s.out := rfl
@[simp] theorem setRhid_pending (s : State) (n : Nat) (h : RgnHid) : (s.setRhid n h).pending = s.pending := rfl
@[simp] theorem setCep_regs (s : State) (e : Nat) (h : CplrEp) : (s.setCep e h).regs = s.regs := rfl
@[simp] theorem setCep_ts (s : State) (e : Nat) (h : CplrEp) : (s.setCep e h).ts = s.ts := rfl
@[simp] theorem setCep_efuse (s : State) (e : Nat) (h : CplrEp) : (s.setCep e h).efuse = s.efuse := rfl
@[simp] theorem setCep_latch (s : State) (e : Nat) (h : CplrEp) : (s.setCep e h).latch = s.latch := rfl
@[simp] theorem setCep_rdata (s : State) (e : Nat) (h : CplrEp) : (s.setCep e h).rdata = s.rdata := rfl
@[simp] theorem setCep_freeCtr (s : State) (e : Nat) (h : CplrEp) : (s.setCep e h).freeCtr = s.freeCtr := rfl
@[simp] theorem setCep_tim (s : State) (e : Nat) (h : CplrEp) : (s.setCep e h).tim = s.tim := rfl
@[simp] theorem setCep_sea (s : State) (e : Nat) (h : CplrEp) : (s.setCep e h).sea = s.sea := rfl
@[simp] theorem setCep_cell (s : State) (e : Nat) (h : CplrEp) : (s.setCep e h).cell = s.cell := rfl
@[simp] theorem setCep_rgn (s : State) (e : Nat) (h : CplrEp) : (s.setCep e h).rgn = s.rgn := rfl
@[simp] theorem setCep_cfg (s : State) (e : Nat) (h : CplrEp) : (s.setCep e h).cfg = s.cfg := rfl
@[simp] theorem setCep_ph (s : State) (e : Nat) (h : CplrEp) : (s.setCep e h).ph = s.ph := rfl
@[simp] theorem setCep_xph (s : State) (e : Nat) (h : CplrEp) : (s.setCep e h).xph = s.xph := rfl
@[simp] theorem setCep_loop (s : State) (e : Nat) (h : CplrEp) : (s.setCep e h).loop = s.loop := rfl
@[simp] theorem setCep_lpe (s : State) (e : Nat) (h : CplrEp) : (s.setCep e h).lpe = s.lpe := rfl
@[simp] theorem setCep_trc (s : State) (e : Nat) (h : CplrEp) : (s.setCep e h).trc = s.trc := rfl
@[simp] theorem setCep_ttb (s : State) (e : Nat) (h : CplrEp) : (s.setCep e h).ttb = s.ttb := rfl
@[simp] theorem setCep_odr (s : State) (e : Nat) (h : CplrEp) : (s.setCep e h).odr = s.odr := rfl
@[simp] theorem setCep_skid (s : State) (e : Nat) (h : CplrEp) : (s.setCep e h).skid = s.skid := rfl
@[simp] theorem setCep_tndr (s : State) (e : Nat) (h : CplrEp) : (s.setCep e h).tndr = s.tndr := rfl
@[simp] theorem setCep_pwr (s : State) (e : Nat) (h : CplrEp) : (s.setCep e h).pwr = s.pwr := rfl
@[simp] theorem setCep_pwrRgn (s : State) (e : Nat) (h : CplrEp) : (s.setCep e h).pwrRgn = s.pwrRgn := rfl
@[simp] theorem setCep_wblGrp (s : State) (e : Nat) (h : CplrEp) : (s.setCep e h).wblGrp = s.wblGrp := rfl
@[simp] theorem setCep_cplr (s : State) (e : Nat) (h : CplrEp) : (s.setCep e h).cplr = s.cplr := rfl
@[simp] theorem setCep_cplrSlot (s : State) (e : Nat) (h : CplrEp) : (s.setCep e h).cplrSlot = s.cplrSlot := rfl
@[simp] theorem setCep_sns (s : State) (e : Nat) (h : CplrEp) : (s.setCep e h).sns = s.sns := rfl
@[simp] theorem setCep_snsConv (s : State) (e : Nat) (h : CplrEp) : (s.setCep e h).snsConv = s.snsConv := rfl
@[simp] theorem setCep_snsComp (s : State) (e : Nat) (h : CplrEp) : (s.setCep e h).snsComp = s.snsComp := rfl
@[simp] theorem setCep_thmSensor (s : State) (e : Nat) (h : CplrEp) : (s.setCep e h).thmSensor = s.thmSensor := rfl
@[simp] theorem setCep_thmGroup (s : State) (e : Nat) (h : CplrEp) : (s.setCep e h).thmGroup = s.thmGroup := rfl
@[simp] theorem setCep_thm (s : State) (e : Nat) (h : CplrEp) : (s.setCep e h).thm = s.thm := rfl
@[simp] theorem setCep_cbse (s : State) (e : Nat) (h : CplrEp) : (s.setCep e h).cbse = s.cbse := rfl
@[simp] theorem setCep_tlm (s : State) (e : Nat) (h : CplrEp) : (s.setCep e h).tlm = s.tlm := rfl
@[simp] theorem setCep_fw (s : State) (e : Nat) (h : CplrEp) : (s.setCep e h).fw = s.fw := rfl
@[simp] theorem setCep_core (s : State) (e : Nat) (h : CplrEp) : (s.setCep e h).core = s.core := rfl
@[simp] theorem setCep_cache (s : State) (e : Nat) (h : CplrEp) : (s.setCep e h).cache = s.cache := rfl
@[simp] theorem setCep_ram (s : State) (e : Nat) (h : CplrEp) : (s.setCep e h).ram = s.ram := rfl
@[simp] theorem setCep_yutre (s : State) (e : Nat) (h : CplrEp) : (s.setCep e h).yutre = s.yutre := rfl
@[simp] theorem setCep_pst (s : State) (e : Nat) (h : CplrEp) : (s.setCep e h).pst = s.pst := rfl
@[simp] theorem setCep_smb (s : State) (e : Nat) (h : CplrEp) : (s.setCep e h).smb = s.smb := rfl
@[simp] theorem setCep_mch (s : State) (e : Nat) (h : CplrEp) : (s.setCep e h).mch = s.mch := rfl
@[simp] theorem setCep_rst (s : State) (e : Nat) (h : CplrEp) : (s.setCep e h).rst = s.rst := rfl
@[simp] theorem setCep_hold (s : State) (e : Nat) (h : CplrEp) : (s.setCep e h).hold = s.hold := rfl
@[simp] theorem setCep_out (s : State) (e : Nat) (h : CplrEp) : (s.setCep e h).out = s.out := rfl
@[simp] theorem setCep_pending (s : State) (e : Nat) (h : CplrEp) : (s.setCep e h).pending = s.pending := rfl
@[simp] theorem setCslot_regs (s : State) (x : Nat) (h : CplrSlot) : (s.setCslot x h).regs = s.regs := rfl
@[simp] theorem setCslot_ts (s : State) (x : Nat) (h : CplrSlot) : (s.setCslot x h).ts = s.ts := rfl
@[simp] theorem setCslot_efuse (s : State) (x : Nat) (h : CplrSlot) : (s.setCslot x h).efuse = s.efuse := rfl
@[simp] theorem setCslot_latch (s : State) (x : Nat) (h : CplrSlot) : (s.setCslot x h).latch = s.latch := rfl
@[simp] theorem setCslot_rdata (s : State) (x : Nat) (h : CplrSlot) : (s.setCslot x h).rdata = s.rdata := rfl
@[simp] theorem setCslot_freeCtr (s : State) (x : Nat) (h : CplrSlot) : (s.setCslot x h).freeCtr = s.freeCtr := rfl
@[simp] theorem setCslot_tim (s : State) (x : Nat) (h : CplrSlot) : (s.setCslot x h).tim = s.tim := rfl
@[simp] theorem setCslot_sea (s : State) (x : Nat) (h : CplrSlot) : (s.setCslot x h).sea = s.sea := rfl
@[simp] theorem setCslot_cell (s : State) (x : Nat) (h : CplrSlot) : (s.setCslot x h).cell = s.cell := rfl
@[simp] theorem setCslot_rgn (s : State) (x : Nat) (h : CplrSlot) : (s.setCslot x h).rgn = s.rgn := rfl
@[simp] theorem setCslot_cfg (s : State) (x : Nat) (h : CplrSlot) : (s.setCslot x h).cfg = s.cfg := rfl
@[simp] theorem setCslot_ph (s : State) (x : Nat) (h : CplrSlot) : (s.setCslot x h).ph = s.ph := rfl
@[simp] theorem setCslot_xph (s : State) (x : Nat) (h : CplrSlot) : (s.setCslot x h).xph = s.xph := rfl
@[simp] theorem setCslot_loop (s : State) (x : Nat) (h : CplrSlot) : (s.setCslot x h).loop = s.loop := rfl
@[simp] theorem setCslot_lpe (s : State) (x : Nat) (h : CplrSlot) : (s.setCslot x h).lpe = s.lpe := rfl
@[simp] theorem setCslot_trc (s : State) (x : Nat) (h : CplrSlot) : (s.setCslot x h).trc = s.trc := rfl
@[simp] theorem setCslot_ttb (s : State) (x : Nat) (h : CplrSlot) : (s.setCslot x h).ttb = s.ttb := rfl
@[simp] theorem setCslot_odr (s : State) (x : Nat) (h : CplrSlot) : (s.setCslot x h).odr = s.odr := rfl
@[simp] theorem setCslot_skid (s : State) (x : Nat) (h : CplrSlot) : (s.setCslot x h).skid = s.skid := rfl
@[simp] theorem setCslot_tndr (s : State) (x : Nat) (h : CplrSlot) : (s.setCslot x h).tndr = s.tndr := rfl
@[simp] theorem setCslot_pwr (s : State) (x : Nat) (h : CplrSlot) : (s.setCslot x h).pwr = s.pwr := rfl
@[simp] theorem setCslot_pwrRgn (s : State) (x : Nat) (h : CplrSlot) : (s.setCslot x h).pwrRgn = s.pwrRgn := rfl
@[simp] theorem setCslot_wblGrp (s : State) (x : Nat) (h : CplrSlot) : (s.setCslot x h).wblGrp = s.wblGrp := rfl
@[simp] theorem setCslot_cplr (s : State) (x : Nat) (h : CplrSlot) : (s.setCslot x h).cplr = s.cplr := rfl
@[simp] theorem setCslot_cplrEp (s : State) (x : Nat) (h : CplrSlot) : (s.setCslot x h).cplrEp = s.cplrEp := rfl
@[simp] theorem setCslot_sns (s : State) (x : Nat) (h : CplrSlot) : (s.setCslot x h).sns = s.sns := rfl
@[simp] theorem setCslot_snsConv (s : State) (x : Nat) (h : CplrSlot) : (s.setCslot x h).snsConv = s.snsConv := rfl
@[simp] theorem setCslot_snsComp (s : State) (x : Nat) (h : CplrSlot) : (s.setCslot x h).snsComp = s.snsComp := rfl
@[simp] theorem setCslot_thmSensor (s : State) (x : Nat) (h : CplrSlot) : (s.setCslot x h).thmSensor = s.thmSensor := rfl
@[simp] theorem setCslot_thmGroup (s : State) (x : Nat) (h : CplrSlot) : (s.setCslot x h).thmGroup = s.thmGroup := rfl
@[simp] theorem setCslot_thm (s : State) (x : Nat) (h : CplrSlot) : (s.setCslot x h).thm = s.thm := rfl
@[simp] theorem setCslot_cbse (s : State) (x : Nat) (h : CplrSlot) : (s.setCslot x h).cbse = s.cbse := rfl
@[simp] theorem setCslot_tlm (s : State) (x : Nat) (h : CplrSlot) : (s.setCslot x h).tlm = s.tlm := rfl
@[simp] theorem setCslot_fw (s : State) (x : Nat) (h : CplrSlot) : (s.setCslot x h).fw = s.fw := rfl
@[simp] theorem setCslot_core (s : State) (x : Nat) (h : CplrSlot) : (s.setCslot x h).core = s.core := rfl
@[simp] theorem setCslot_cache (s : State) (x : Nat) (h : CplrSlot) : (s.setCslot x h).cache = s.cache := rfl
@[simp] theorem setCslot_ram (s : State) (x : Nat) (h : CplrSlot) : (s.setCslot x h).ram = s.ram := rfl
@[simp] theorem setCslot_yutre (s : State) (x : Nat) (h : CplrSlot) : (s.setCslot x h).yutre = s.yutre := rfl
@[simp] theorem setCslot_pst (s : State) (x : Nat) (h : CplrSlot) : (s.setCslot x h).pst = s.pst := rfl
@[simp] theorem setCslot_smb (s : State) (x : Nat) (h : CplrSlot) : (s.setCslot x h).smb = s.smb := rfl
@[simp] theorem setCslot_mch (s : State) (x : Nat) (h : CplrSlot) : (s.setCslot x h).mch = s.mch := rfl
@[simp] theorem setCslot_rst (s : State) (x : Nat) (h : CplrSlot) : (s.setCslot x h).rst = s.rst := rfl
@[simp] theorem setCslot_hold (s : State) (x : Nat) (h : CplrSlot) : (s.setCslot x h).hold = s.hold := rfl
@[simp] theorem setCslot_out (s : State) (x : Nat) (h : CplrSlot) : (s.setCslot x h).out = s.out := rfl
@[simp] theorem setCslot_pending (s : State) (x : Nat) (h : CplrSlot) : (s.setCslot x h).pending = s.pending := rfl
@[simp] theorem setCoreSt_regs (s : State) (i : Nat) (c : CoreSt) : (s.setCoreSt i c).regs = s.regs := rfl
@[simp] theorem setCoreSt_ts (s : State) (i : Nat) (c : CoreSt) : (s.setCoreSt i c).ts = s.ts := rfl
@[simp] theorem setCoreSt_efuse (s : State) (i : Nat) (c : CoreSt) : (s.setCoreSt i c).efuse = s.efuse := rfl
@[simp] theorem setCoreSt_latch (s : State) (i : Nat) (c : CoreSt) : (s.setCoreSt i c).latch = s.latch := rfl
@[simp] theorem setCoreSt_rdata (s : State) (i : Nat) (c : CoreSt) : (s.setCoreSt i c).rdata = s.rdata := rfl
@[simp] theorem setCoreSt_freeCtr (s : State) (i : Nat) (c : CoreSt) : (s.setCoreSt i c).freeCtr = s.freeCtr := rfl
@[simp] theorem setCoreSt_tim (s : State) (i : Nat) (c : CoreSt) : (s.setCoreSt i c).tim = s.tim := rfl
@[simp] theorem setCoreSt_sea (s : State) (i : Nat) (c : CoreSt) : (s.setCoreSt i c).sea = s.sea := rfl
@[simp] theorem setCoreSt_cell (s : State) (i : Nat) (c : CoreSt) : (s.setCoreSt i c).cell = s.cell := rfl
@[simp] theorem setCoreSt_rgn (s : State) (i : Nat) (c : CoreSt) : (s.setCoreSt i c).rgn = s.rgn := rfl
@[simp] theorem setCoreSt_cfg (s : State) (i : Nat) (c : CoreSt) : (s.setCoreSt i c).cfg = s.cfg := rfl
@[simp] theorem setCoreSt_ph (s : State) (i : Nat) (c : CoreSt) : (s.setCoreSt i c).ph = s.ph := rfl
@[simp] theorem setCoreSt_xph (s : State) (i : Nat) (c : CoreSt) : (s.setCoreSt i c).xph = s.xph := rfl
@[simp] theorem setCoreSt_loop (s : State) (i : Nat) (c : CoreSt) : (s.setCoreSt i c).loop = s.loop := rfl
@[simp] theorem setCoreSt_lpe (s : State) (i : Nat) (c : CoreSt) : (s.setCoreSt i c).lpe = s.lpe := rfl
@[simp] theorem setCoreSt_trc (s : State) (i : Nat) (c : CoreSt) : (s.setCoreSt i c).trc = s.trc := rfl
@[simp] theorem setCoreSt_ttb (s : State) (i : Nat) (c : CoreSt) : (s.setCoreSt i c).ttb = s.ttb := rfl
@[simp] theorem setCoreSt_odr (s : State) (i : Nat) (c : CoreSt) : (s.setCoreSt i c).odr = s.odr := rfl
@[simp] theorem setCoreSt_skid (s : State) (i : Nat) (c : CoreSt) : (s.setCoreSt i c).skid = s.skid := rfl
@[simp] theorem setCoreSt_tndr (s : State) (i : Nat) (c : CoreSt) : (s.setCoreSt i c).tndr = s.tndr := rfl
@[simp] theorem setCoreSt_pwr (s : State) (i : Nat) (c : CoreSt) : (s.setCoreSt i c).pwr = s.pwr := rfl
@[simp] theorem setCoreSt_pwrRgn (s : State) (i : Nat) (c : CoreSt) : (s.setCoreSt i c).pwrRgn = s.pwrRgn := rfl
@[simp] theorem setCoreSt_wblGrp (s : State) (i : Nat) (c : CoreSt) : (s.setCoreSt i c).wblGrp = s.wblGrp := rfl
@[simp] theorem setCoreSt_cplr (s : State) (i : Nat) (c : CoreSt) : (s.setCoreSt i c).cplr = s.cplr := rfl
@[simp] theorem setCoreSt_cplrEp (s : State) (i : Nat) (c : CoreSt) : (s.setCoreSt i c).cplrEp = s.cplrEp := rfl
@[simp] theorem setCoreSt_cplrSlot (s : State) (i : Nat) (c : CoreSt) : (s.setCoreSt i c).cplrSlot = s.cplrSlot := rfl
@[simp] theorem setCoreSt_sns (s : State) (i : Nat) (c : CoreSt) : (s.setCoreSt i c).sns = s.sns := rfl
@[simp] theorem setCoreSt_snsConv (s : State) (i : Nat) (c : CoreSt) : (s.setCoreSt i c).snsConv = s.snsConv := rfl
@[simp] theorem setCoreSt_snsComp (s : State) (i : Nat) (c : CoreSt) : (s.setCoreSt i c).snsComp = s.snsComp := rfl
@[simp] theorem setCoreSt_thmSensor (s : State) (i : Nat) (c : CoreSt) : (s.setCoreSt i c).thmSensor = s.thmSensor := rfl
@[simp] theorem setCoreSt_thmGroup (s : State) (i : Nat) (c : CoreSt) : (s.setCoreSt i c).thmGroup = s.thmGroup := rfl
@[simp] theorem setCoreSt_thm (s : State) (i : Nat) (c : CoreSt) : (s.setCoreSt i c).thm = s.thm := rfl
@[simp] theorem setCoreSt_cbse (s : State) (i : Nat) (c : CoreSt) : (s.setCoreSt i c).cbse = s.cbse := rfl
@[simp] theorem setCoreSt_tlm (s : State) (i : Nat) (c : CoreSt) : (s.setCoreSt i c).tlm = s.tlm := rfl
@[simp] theorem setCoreSt_fw (s : State) (i : Nat) (c : CoreSt) : (s.setCoreSt i c).fw = s.fw := rfl
@[simp] theorem setCoreSt_cache (s : State) (i : Nat) (c : CoreSt) : (s.setCoreSt i c).cache = s.cache := rfl
@[simp] theorem setCoreSt_ram (s : State) (i : Nat) (c : CoreSt) : (s.setCoreSt i c).ram = s.ram := rfl
@[simp] theorem setCoreSt_yutre (s : State) (i : Nat) (c : CoreSt) : (s.setCoreSt i c).yutre = s.yutre := rfl
@[simp] theorem setCoreSt_pst (s : State) (i : Nat) (c : CoreSt) : (s.setCoreSt i c).pst = s.pst := rfl
@[simp] theorem setCoreSt_smb (s : State) (i : Nat) (c : CoreSt) : (s.setCoreSt i c).smb = s.smb := rfl
@[simp] theorem setCoreSt_mch (s : State) (i : Nat) (c : CoreSt) : (s.setCoreSt i c).mch = s.mch := rfl
@[simp] theorem setCoreSt_rst (s : State) (i : Nat) (c : CoreSt) : (s.setCoreSt i c).rst = s.rst := rfl
@[simp] theorem setCoreSt_hold (s : State) (i : Nat) (c : CoreSt) : (s.setCoreSt i c).hold = s.hold := rfl
@[simp] theorem setCoreSt_out (s : State) (i : Nat) (c : CoreSt) : (s.setCoreSt i c).out = s.out := rfl
@[simp] theorem setCoreSt_pending (s : State) (i : Nat) (c : CoreSt) : (s.setCoreSt i c).pending = s.pending := rfl
@[simp] theorem setPhid_regs (s : State) (p : Nat) (h : PhHid) : (s.setPhid p h).regs = s.regs := rfl
@[simp] theorem setPhid_ts (s : State) (p : Nat) (h : PhHid) : (s.setPhid p h).ts = s.ts := rfl
@[simp] theorem setPhid_efuse (s : State) (p : Nat) (h : PhHid) : (s.setPhid p h).efuse = s.efuse := rfl
@[simp] theorem setPhid_latch (s : State) (p : Nat) (h : PhHid) : (s.setPhid p h).latch = s.latch := rfl
@[simp] theorem setPhid_rdata (s : State) (p : Nat) (h : PhHid) : (s.setPhid p h).rdata = s.rdata := rfl
@[simp] theorem setPhid_freeCtr (s : State) (p : Nat) (h : PhHid) : (s.setPhid p h).freeCtr = s.freeCtr := rfl
@[simp] theorem setPhid_tim (s : State) (p : Nat) (h : PhHid) : (s.setPhid p h).tim = s.tim := rfl
@[simp] theorem setPhid_sea (s : State) (p : Nat) (h : PhHid) : (s.setPhid p h).sea = s.sea := rfl
@[simp] theorem setPhid_cell (s : State) (p : Nat) (h : PhHid) : (s.setPhid p h).cell = s.cell := rfl
@[simp] theorem setPhid_rgn (s : State) (p : Nat) (h : PhHid) : (s.setPhid p h).rgn = s.rgn := rfl
@[simp] theorem setPhid_cfg (s : State) (p : Nat) (h : PhHid) : (s.setPhid p h).cfg = s.cfg := rfl
@[simp] theorem setPhid_xph (s : State) (p : Nat) (h : PhHid) : (s.setPhid p h).xph = s.xph := rfl
@[simp] theorem setPhid_loop (s : State) (p : Nat) (h : PhHid) : (s.setPhid p h).loop = s.loop := rfl
@[simp] theorem setPhid_lpe (s : State) (p : Nat) (h : PhHid) : (s.setPhid p h).lpe = s.lpe := rfl
@[simp] theorem setPhid_trc (s : State) (p : Nat) (h : PhHid) : (s.setPhid p h).trc = s.trc := rfl
@[simp] theorem setPhid_ttb (s : State) (p : Nat) (h : PhHid) : (s.setPhid p h).ttb = s.ttb := rfl
@[simp] theorem setPhid_odr (s : State) (p : Nat) (h : PhHid) : (s.setPhid p h).odr = s.odr := rfl
@[simp] theorem setPhid_skid (s : State) (p : Nat) (h : PhHid) : (s.setPhid p h).skid = s.skid := rfl
@[simp] theorem setPhid_tndr (s : State) (p : Nat) (h : PhHid) : (s.setPhid p h).tndr = s.tndr := rfl
@[simp] theorem setPhid_pwr (s : State) (p : Nat) (h : PhHid) : (s.setPhid p h).pwr = s.pwr := rfl
@[simp] theorem setPhid_pwrRgn (s : State) (p : Nat) (h : PhHid) : (s.setPhid p h).pwrRgn = s.pwrRgn := rfl
@[simp] theorem setPhid_wblGrp (s : State) (p : Nat) (h : PhHid) : (s.setPhid p h).wblGrp = s.wblGrp := rfl
@[simp] theorem setPhid_cplr (s : State) (p : Nat) (h : PhHid) : (s.setPhid p h).cplr = s.cplr := rfl
@[simp] theorem setPhid_cplrEp (s : State) (p : Nat) (h : PhHid) : (s.setPhid p h).cplrEp = s.cplrEp := rfl
@[simp] theorem setPhid_cplrSlot (s : State) (p : Nat) (h : PhHid) : (s.setPhid p h).cplrSlot = s.cplrSlot := rfl
@[simp] theorem setPhid_sns (s : State) (p : Nat) (h : PhHid) : (s.setPhid p h).sns = s.sns := rfl
@[simp] theorem setPhid_snsConv (s : State) (p : Nat) (h : PhHid) : (s.setPhid p h).snsConv = s.snsConv := rfl
@[simp] theorem setPhid_snsComp (s : State) (p : Nat) (h : PhHid) : (s.setPhid p h).snsComp = s.snsComp := rfl
@[simp] theorem setPhid_thmSensor (s : State) (p : Nat) (h : PhHid) : (s.setPhid p h).thmSensor = s.thmSensor := rfl
@[simp] theorem setPhid_thmGroup (s : State) (p : Nat) (h : PhHid) : (s.setPhid p h).thmGroup = s.thmGroup := rfl
@[simp] theorem setPhid_thm (s : State) (p : Nat) (h : PhHid) : (s.setPhid p h).thm = s.thm := rfl
@[simp] theorem setPhid_cbse (s : State) (p : Nat) (h : PhHid) : (s.setPhid p h).cbse = s.cbse := rfl
@[simp] theorem setPhid_tlm (s : State) (p : Nat) (h : PhHid) : (s.setPhid p h).tlm = s.tlm := rfl
@[simp] theorem setPhid_fw (s : State) (p : Nat) (h : PhHid) : (s.setPhid p h).fw = s.fw := rfl
@[simp] theorem setPhid_core (s : State) (p : Nat) (h : PhHid) : (s.setPhid p h).core = s.core := rfl
@[simp] theorem setPhid_cache (s : State) (p : Nat) (h : PhHid) : (s.setPhid p h).cache = s.cache := rfl
@[simp] theorem setPhid_ram (s : State) (p : Nat) (h : PhHid) : (s.setPhid p h).ram = s.ram := rfl
@[simp] theorem setPhid_yutre (s : State) (p : Nat) (h : PhHid) : (s.setPhid p h).yutre = s.yutre := rfl
@[simp] theorem setPhid_pst (s : State) (p : Nat) (h : PhHid) : (s.setPhid p h).pst = s.pst := rfl
@[simp] theorem setPhid_smb (s : State) (p : Nat) (h : PhHid) : (s.setPhid p h).smb = s.smb := rfl
@[simp] theorem setPhid_mch (s : State) (p : Nat) (h : PhHid) : (s.setPhid p h).mch = s.mch := rfl
@[simp] theorem setPhid_rst (s : State) (p : Nat) (h : PhHid) : (s.setPhid p h).rst = s.rst := rfl
@[simp] theorem setPhid_hold (s : State) (p : Nat) (h : PhHid) : (s.setPhid p h).hold = s.hold := rfl
@[simp] theorem setPhid_out (s : State) (p : Nat) (h : PhHid) : (s.setPhid p h).out = s.out := rfl
@[simp] theorem setPhid_pending (s : State) (p : Nat) (h : PhHid) : (s.setPhid p h).pending = s.pending := rfl
@[simp] theorem setLoopHid_regs (s : State) (k : Nat) (h : LoopHid) : (s.setLoopHid k h).regs = s.regs := rfl
@[simp] theorem setLoopHid_ts (s : State) (k : Nat) (h : LoopHid) : (s.setLoopHid k h).ts = s.ts := rfl
@[simp] theorem setLoopHid_efuse (s : State) (k : Nat) (h : LoopHid) : (s.setLoopHid k h).efuse = s.efuse := rfl
@[simp] theorem setLoopHid_latch (s : State) (k : Nat) (h : LoopHid) : (s.setLoopHid k h).latch = s.latch := rfl
@[simp] theorem setLoopHid_rdata (s : State) (k : Nat) (h : LoopHid) : (s.setLoopHid k h).rdata = s.rdata := rfl
@[simp] theorem setLoopHid_freeCtr (s : State) (k : Nat) (h : LoopHid) : (s.setLoopHid k h).freeCtr = s.freeCtr := rfl
@[simp] theorem setLoopHid_tim (s : State) (k : Nat) (h : LoopHid) : (s.setLoopHid k h).tim = s.tim := rfl
@[simp] theorem setLoopHid_sea (s : State) (k : Nat) (h : LoopHid) : (s.setLoopHid k h).sea = s.sea := rfl
@[simp] theorem setLoopHid_cell (s : State) (k : Nat) (h : LoopHid) : (s.setLoopHid k h).cell = s.cell := rfl
@[simp] theorem setLoopHid_rgn (s : State) (k : Nat) (h : LoopHid) : (s.setLoopHid k h).rgn = s.rgn := rfl
@[simp] theorem setLoopHid_cfg (s : State) (k : Nat) (h : LoopHid) : (s.setLoopHid k h).cfg = s.cfg := rfl
@[simp] theorem setLoopHid_ph (s : State) (k : Nat) (h : LoopHid) : (s.setLoopHid k h).ph = s.ph := rfl
@[simp] theorem setLoopHid_xph (s : State) (k : Nat) (h : LoopHid) : (s.setLoopHid k h).xph = s.xph := rfl
@[simp] theorem setLoopHid_lpe (s : State) (k : Nat) (h : LoopHid) : (s.setLoopHid k h).lpe = s.lpe := rfl
@[simp] theorem setLoopHid_trc (s : State) (k : Nat) (h : LoopHid) : (s.setLoopHid k h).trc = s.trc := rfl
@[simp] theorem setLoopHid_ttb (s : State) (k : Nat) (h : LoopHid) : (s.setLoopHid k h).ttb = s.ttb := rfl
@[simp] theorem setLoopHid_odr (s : State) (k : Nat) (h : LoopHid) : (s.setLoopHid k h).odr = s.odr := rfl
@[simp] theorem setLoopHid_skid (s : State) (k : Nat) (h : LoopHid) : (s.setLoopHid k h).skid = s.skid := rfl
@[simp] theorem setLoopHid_tndr (s : State) (k : Nat) (h : LoopHid) : (s.setLoopHid k h).tndr = s.tndr := rfl
@[simp] theorem setLoopHid_pwr (s : State) (k : Nat) (h : LoopHid) : (s.setLoopHid k h).pwr = s.pwr := rfl
@[simp] theorem setLoopHid_pwrRgn (s : State) (k : Nat) (h : LoopHid) : (s.setLoopHid k h).pwrRgn = s.pwrRgn := rfl
@[simp] theorem setLoopHid_wblGrp (s : State) (k : Nat) (h : LoopHid) : (s.setLoopHid k h).wblGrp = s.wblGrp := rfl
@[simp] theorem setLoopHid_cplr (s : State) (k : Nat) (h : LoopHid) : (s.setLoopHid k h).cplr = s.cplr := rfl
@[simp] theorem setLoopHid_cplrEp (s : State) (k : Nat) (h : LoopHid) : (s.setLoopHid k h).cplrEp = s.cplrEp := rfl
@[simp] theorem setLoopHid_cplrSlot (s : State) (k : Nat) (h : LoopHid) : (s.setLoopHid k h).cplrSlot = s.cplrSlot := rfl
@[simp] theorem setLoopHid_sns (s : State) (k : Nat) (h : LoopHid) : (s.setLoopHid k h).sns = s.sns := rfl
@[simp] theorem setLoopHid_snsConv (s : State) (k : Nat) (h : LoopHid) : (s.setLoopHid k h).snsConv = s.snsConv := rfl
@[simp] theorem setLoopHid_snsComp (s : State) (k : Nat) (h : LoopHid) : (s.setLoopHid k h).snsComp = s.snsComp := rfl
@[simp] theorem setLoopHid_thmSensor (s : State) (k : Nat) (h : LoopHid) : (s.setLoopHid k h).thmSensor = s.thmSensor := rfl
@[simp] theorem setLoopHid_thmGroup (s : State) (k : Nat) (h : LoopHid) : (s.setLoopHid k h).thmGroup = s.thmGroup := rfl
@[simp] theorem setLoopHid_thm (s : State) (k : Nat) (h : LoopHid) : (s.setLoopHid k h).thm = s.thm := rfl
@[simp] theorem setLoopHid_cbse (s : State) (k : Nat) (h : LoopHid) : (s.setLoopHid k h).cbse = s.cbse := rfl
@[simp] theorem setLoopHid_tlm (s : State) (k : Nat) (h : LoopHid) : (s.setLoopHid k h).tlm = s.tlm := rfl
@[simp] theorem setLoopHid_fw (s : State) (k : Nat) (h : LoopHid) : (s.setLoopHid k h).fw = s.fw := rfl
@[simp] theorem setLoopHid_core (s : State) (k : Nat) (h : LoopHid) : (s.setLoopHid k h).core = s.core := rfl
@[simp] theorem setLoopHid_cache (s : State) (k : Nat) (h : LoopHid) : (s.setLoopHid k h).cache = s.cache := rfl
@[simp] theorem setLoopHid_ram (s : State) (k : Nat) (h : LoopHid) : (s.setLoopHid k h).ram = s.ram := rfl
@[simp] theorem setLoopHid_yutre (s : State) (k : Nat) (h : LoopHid) : (s.setLoopHid k h).yutre = s.yutre := rfl
@[simp] theorem setLoopHid_pst (s : State) (k : Nat) (h : LoopHid) : (s.setLoopHid k h).pst = s.pst := rfl
@[simp] theorem setLoopHid_smb (s : State) (k : Nat) (h : LoopHid) : (s.setLoopHid k h).smb = s.smb := rfl
@[simp] theorem setLoopHid_mch (s : State) (k : Nat) (h : LoopHid) : (s.setLoopHid k h).mch = s.mch := rfl
@[simp] theorem setLoopHid_rst (s : State) (k : Nat) (h : LoopHid) : (s.setLoopHid k h).rst = s.rst := rfl
@[simp] theorem setLoopHid_hold (s : State) (k : Nat) (h : LoopHid) : (s.setLoopHid k h).hold = s.hold := rfl
@[simp] theorem setLoopHid_out (s : State) (k : Nat) (h : LoopHid) : (s.setLoopHid k h).out = s.out := rfl
@[simp] theorem setLoopHid_pending (s : State) (k : Nat) (h : LoopHid) : (s.setLoopHid k h).pending = s.pending := rfl
@[simp] theorem setPrgn_regs (s : State) (n : Nat) (h : PwrRgn) : (s.setPrgn n h).regs = s.regs := rfl
@[simp] theorem setPrgn_ts (s : State) (n : Nat) (h : PwrRgn) : (s.setPrgn n h).ts = s.ts := rfl
@[simp] theorem setPrgn_efuse (s : State) (n : Nat) (h : PwrRgn) : (s.setPrgn n h).efuse = s.efuse := rfl
@[simp] theorem setPrgn_latch (s : State) (n : Nat) (h : PwrRgn) : (s.setPrgn n h).latch = s.latch := rfl
@[simp] theorem setPrgn_rdata (s : State) (n : Nat) (h : PwrRgn) : (s.setPrgn n h).rdata = s.rdata := rfl
@[simp] theorem setPrgn_freeCtr (s : State) (n : Nat) (h : PwrRgn) : (s.setPrgn n h).freeCtr = s.freeCtr := rfl
@[simp] theorem setPrgn_tim (s : State) (n : Nat) (h : PwrRgn) : (s.setPrgn n h).tim = s.tim := rfl
@[simp] theorem setPrgn_sea (s : State) (n : Nat) (h : PwrRgn) : (s.setPrgn n h).sea = s.sea := rfl
@[simp] theorem setPrgn_cell (s : State) (n : Nat) (h : PwrRgn) : (s.setPrgn n h).cell = s.cell := rfl
@[simp] theorem setPrgn_rgn (s : State) (n : Nat) (h : PwrRgn) : (s.setPrgn n h).rgn = s.rgn := rfl
@[simp] theorem setPrgn_cfg (s : State) (n : Nat) (h : PwrRgn) : (s.setPrgn n h).cfg = s.cfg := rfl
@[simp] theorem setPrgn_ph (s : State) (n : Nat) (h : PwrRgn) : (s.setPrgn n h).ph = s.ph := rfl
@[simp] theorem setPrgn_xph (s : State) (n : Nat) (h : PwrRgn) : (s.setPrgn n h).xph = s.xph := rfl
@[simp] theorem setPrgn_loop (s : State) (n : Nat) (h : PwrRgn) : (s.setPrgn n h).loop = s.loop := rfl
@[simp] theorem setPrgn_lpe (s : State) (n : Nat) (h : PwrRgn) : (s.setPrgn n h).lpe = s.lpe := rfl
@[simp] theorem setPrgn_trc (s : State) (n : Nat) (h : PwrRgn) : (s.setPrgn n h).trc = s.trc := rfl
@[simp] theorem setPrgn_ttb (s : State) (n : Nat) (h : PwrRgn) : (s.setPrgn n h).ttb = s.ttb := rfl
@[simp] theorem setPrgn_odr (s : State) (n : Nat) (h : PwrRgn) : (s.setPrgn n h).odr = s.odr := rfl
@[simp] theorem setPrgn_skid (s : State) (n : Nat) (h : PwrRgn) : (s.setPrgn n h).skid = s.skid := rfl
@[simp] theorem setPrgn_tndr (s : State) (n : Nat) (h : PwrRgn) : (s.setPrgn n h).tndr = s.tndr := rfl
@[simp] theorem setPrgn_pwr (s : State) (n : Nat) (h : PwrRgn) : (s.setPrgn n h).pwr = s.pwr := rfl
@[simp] theorem setPrgn_wblGrp (s : State) (n : Nat) (h : PwrRgn) : (s.setPrgn n h).wblGrp = s.wblGrp := rfl
@[simp] theorem setPrgn_cplr (s : State) (n : Nat) (h : PwrRgn) : (s.setPrgn n h).cplr = s.cplr := rfl
@[simp] theorem setPrgn_cplrEp (s : State) (n : Nat) (h : PwrRgn) : (s.setPrgn n h).cplrEp = s.cplrEp := rfl
@[simp] theorem setPrgn_cplrSlot (s : State) (n : Nat) (h : PwrRgn) : (s.setPrgn n h).cplrSlot = s.cplrSlot := rfl
@[simp] theorem setPrgn_sns (s : State) (n : Nat) (h : PwrRgn) : (s.setPrgn n h).sns = s.sns := rfl
@[simp] theorem setPrgn_snsConv (s : State) (n : Nat) (h : PwrRgn) : (s.setPrgn n h).snsConv = s.snsConv := rfl
@[simp] theorem setPrgn_snsComp (s : State) (n : Nat) (h : PwrRgn) : (s.setPrgn n h).snsComp = s.snsComp := rfl
@[simp] theorem setPrgn_thmSensor (s : State) (n : Nat) (h : PwrRgn) : (s.setPrgn n h).thmSensor = s.thmSensor := rfl
@[simp] theorem setPrgn_thmGroup (s : State) (n : Nat) (h : PwrRgn) : (s.setPrgn n h).thmGroup = s.thmGroup := rfl
@[simp] theorem setPrgn_thm (s : State) (n : Nat) (h : PwrRgn) : (s.setPrgn n h).thm = s.thm := rfl
@[simp] theorem setPrgn_cbse (s : State) (n : Nat) (h : PwrRgn) : (s.setPrgn n h).cbse = s.cbse := rfl
@[simp] theorem setPrgn_tlm (s : State) (n : Nat) (h : PwrRgn) : (s.setPrgn n h).tlm = s.tlm := rfl
@[simp] theorem setPrgn_fw (s : State) (n : Nat) (h : PwrRgn) : (s.setPrgn n h).fw = s.fw := rfl
@[simp] theorem setPrgn_core (s : State) (n : Nat) (h : PwrRgn) : (s.setPrgn n h).core = s.core := rfl
@[simp] theorem setPrgn_cache (s : State) (n : Nat) (h : PwrRgn) : (s.setPrgn n h).cache = s.cache := rfl
@[simp] theorem setPrgn_ram (s : State) (n : Nat) (h : PwrRgn) : (s.setPrgn n h).ram = s.ram := rfl
@[simp] theorem setPrgn_yutre (s : State) (n : Nat) (h : PwrRgn) : (s.setPrgn n h).yutre = s.yutre := rfl
@[simp] theorem setPrgn_pst (s : State) (n : Nat) (h : PwrRgn) : (s.setPrgn n h).pst = s.pst := rfl
@[simp] theorem setPrgn_smb (s : State) (n : Nat) (h : PwrRgn) : (s.setPrgn n h).smb = s.smb := rfl
@[simp] theorem setPrgn_mch (s : State) (n : Nat) (h : PwrRgn) : (s.setPrgn n h).mch = s.mch := rfl
@[simp] theorem setPrgn_rst (s : State) (n : Nat) (h : PwrRgn) : (s.setPrgn n h).rst = s.rst := rfl
@[simp] theorem setPrgn_hold (s : State) (n : Nat) (h : PwrRgn) : (s.setPrgn n h).hold = s.hold := rfl
@[simp] theorem setPrgn_out (s : State) (n : Nat) (h : PwrRgn) : (s.setPrgn n h).out = s.out := rfl
@[simp] theorem setPrgn_pending (s : State) (n : Nat) (h : PwrRgn) : (s.setPrgn n h).pending = s.pending := rfl
@[simp] theorem setWgrp_regs (s : State) (g : Nat) (h : WblGrp) : (s.setWgrp g h).regs = s.regs := rfl
@[simp] theorem setWgrp_ts (s : State) (g : Nat) (h : WblGrp) : (s.setWgrp g h).ts = s.ts := rfl
@[simp] theorem setWgrp_efuse (s : State) (g : Nat) (h : WblGrp) : (s.setWgrp g h).efuse = s.efuse := rfl
@[simp] theorem setWgrp_latch (s : State) (g : Nat) (h : WblGrp) : (s.setWgrp g h).latch = s.latch := rfl
@[simp] theorem setWgrp_rdata (s : State) (g : Nat) (h : WblGrp) : (s.setWgrp g h).rdata = s.rdata := rfl
@[simp] theorem setWgrp_freeCtr (s : State) (g : Nat) (h : WblGrp) : (s.setWgrp g h).freeCtr = s.freeCtr := rfl
@[simp] theorem setWgrp_tim (s : State) (g : Nat) (h : WblGrp) : (s.setWgrp g h).tim = s.tim := rfl
@[simp] theorem setWgrp_sea (s : State) (g : Nat) (h : WblGrp) : (s.setWgrp g h).sea = s.sea := rfl
@[simp] theorem setWgrp_cell (s : State) (g : Nat) (h : WblGrp) : (s.setWgrp g h).cell = s.cell := rfl
@[simp] theorem setWgrp_rgn (s : State) (g : Nat) (h : WblGrp) : (s.setWgrp g h).rgn = s.rgn := rfl
@[simp] theorem setWgrp_cfg (s : State) (g : Nat) (h : WblGrp) : (s.setWgrp g h).cfg = s.cfg := rfl
@[simp] theorem setWgrp_ph (s : State) (g : Nat) (h : WblGrp) : (s.setWgrp g h).ph = s.ph := rfl
@[simp] theorem setWgrp_xph (s : State) (g : Nat) (h : WblGrp) : (s.setWgrp g h).xph = s.xph := rfl
@[simp] theorem setWgrp_loop (s : State) (g : Nat) (h : WblGrp) : (s.setWgrp g h).loop = s.loop := rfl
@[simp] theorem setWgrp_lpe (s : State) (g : Nat) (h : WblGrp) : (s.setWgrp g h).lpe = s.lpe := rfl
@[simp] theorem setWgrp_trc (s : State) (g : Nat) (h : WblGrp) : (s.setWgrp g h).trc = s.trc := rfl
@[simp] theorem setWgrp_ttb (s : State) (g : Nat) (h : WblGrp) : (s.setWgrp g h).ttb = s.ttb := rfl
@[simp] theorem setWgrp_odr (s : State) (g : Nat) (h : WblGrp) : (s.setWgrp g h).odr = s.odr := rfl
@[simp] theorem setWgrp_skid (s : State) (g : Nat) (h : WblGrp) : (s.setWgrp g h).skid = s.skid := rfl
@[simp] theorem setWgrp_tndr (s : State) (g : Nat) (h : WblGrp) : (s.setWgrp g h).tndr = s.tndr := rfl
@[simp] theorem setWgrp_pwr (s : State) (g : Nat) (h : WblGrp) : (s.setWgrp g h).pwr = s.pwr := rfl
@[simp] theorem setWgrp_pwrRgn (s : State) (g : Nat) (h : WblGrp) : (s.setWgrp g h).pwrRgn = s.pwrRgn := rfl
@[simp] theorem setWgrp_cplr (s : State) (g : Nat) (h : WblGrp) : (s.setWgrp g h).cplr = s.cplr := rfl
@[simp] theorem setWgrp_cplrEp (s : State) (g : Nat) (h : WblGrp) : (s.setWgrp g h).cplrEp = s.cplrEp := rfl
@[simp] theorem setWgrp_cplrSlot (s : State) (g : Nat) (h : WblGrp) : (s.setWgrp g h).cplrSlot = s.cplrSlot := rfl
@[simp] theorem setWgrp_sns (s : State) (g : Nat) (h : WblGrp) : (s.setWgrp g h).sns = s.sns := rfl
@[simp] theorem setWgrp_snsConv (s : State) (g : Nat) (h : WblGrp) : (s.setWgrp g h).snsConv = s.snsConv := rfl
@[simp] theorem setWgrp_snsComp (s : State) (g : Nat) (h : WblGrp) : (s.setWgrp g h).snsComp = s.snsComp := rfl
@[simp] theorem setWgrp_thmSensor (s : State) (g : Nat) (h : WblGrp) : (s.setWgrp g h).thmSensor = s.thmSensor := rfl
@[simp] theorem setWgrp_thmGroup (s : State) (g : Nat) (h : WblGrp) : (s.setWgrp g h).thmGroup = s.thmGroup := rfl
@[simp] theorem setWgrp_thm (s : State) (g : Nat) (h : WblGrp) : (s.setWgrp g h).thm = s.thm := rfl
@[simp] theorem setWgrp_cbse (s : State) (g : Nat) (h : WblGrp) : (s.setWgrp g h).cbse = s.cbse := rfl
@[simp] theorem setWgrp_tlm (s : State) (g : Nat) (h : WblGrp) : (s.setWgrp g h).tlm = s.tlm := rfl
@[simp] theorem setWgrp_fw (s : State) (g : Nat) (h : WblGrp) : (s.setWgrp g h).fw = s.fw := rfl
@[simp] theorem setWgrp_core (s : State) (g : Nat) (h : WblGrp) : (s.setWgrp g h).core = s.core := rfl
@[simp] theorem setWgrp_cache (s : State) (g : Nat) (h : WblGrp) : (s.setWgrp g h).cache = s.cache := rfl
@[simp] theorem setWgrp_ram (s : State) (g : Nat) (h : WblGrp) : (s.setWgrp g h).ram = s.ram := rfl
@[simp] theorem setWgrp_yutre (s : State) (g : Nat) (h : WblGrp) : (s.setWgrp g h).yutre = s.yutre := rfl
@[simp] theorem setWgrp_pst (s : State) (g : Nat) (h : WblGrp) : (s.setWgrp g h).pst = s.pst := rfl
@[simp] theorem setWgrp_smb (s : State) (g : Nat) (h : WblGrp) : (s.setWgrp g h).smb = s.smb := rfl
@[simp] theorem setWgrp_mch (s : State) (g : Nat) (h : WblGrp) : (s.setWgrp g h).mch = s.mch := rfl
@[simp] theorem setWgrp_rst (s : State) (g : Nat) (h : WblGrp) : (s.setWgrp g h).rst = s.rst := rfl
@[simp] theorem setWgrp_hold (s : State) (g : Nat) (h : WblGrp) : (s.setWgrp g h).hold = s.hold := rfl
@[simp] theorem setWgrp_out (s : State) (g : Nat) (h : WblGrp) : (s.setWgrp g h).out = s.out := rfl
@[simp] theorem setWgrp_pending (s : State) (g : Nat) (h : WblGrp) : (s.setWgrp g h).pending = s.pending := rfl
@[simp] theorem setSconv_regs (s : State) (k : Nat) (h : SnsConv) : (s.setSconv k h).regs = s.regs := rfl
@[simp] theorem setSconv_ts (s : State) (k : Nat) (h : SnsConv) : (s.setSconv k h).ts = s.ts := rfl
@[simp] theorem setSconv_efuse (s : State) (k : Nat) (h : SnsConv) : (s.setSconv k h).efuse = s.efuse := rfl
@[simp] theorem setSconv_latch (s : State) (k : Nat) (h : SnsConv) : (s.setSconv k h).latch = s.latch := rfl
@[simp] theorem setSconv_rdata (s : State) (k : Nat) (h : SnsConv) : (s.setSconv k h).rdata = s.rdata := rfl
@[simp] theorem setSconv_freeCtr (s : State) (k : Nat) (h : SnsConv) : (s.setSconv k h).freeCtr = s.freeCtr := rfl
@[simp] theorem setSconv_tim (s : State) (k : Nat) (h : SnsConv) : (s.setSconv k h).tim = s.tim := rfl
@[simp] theorem setSconv_sea (s : State) (k : Nat) (h : SnsConv) : (s.setSconv k h).sea = s.sea := rfl
@[simp] theorem setSconv_cell (s : State) (k : Nat) (h : SnsConv) : (s.setSconv k h).cell = s.cell := rfl
@[simp] theorem setSconv_rgn (s : State) (k : Nat) (h : SnsConv) : (s.setSconv k h).rgn = s.rgn := rfl
@[simp] theorem setSconv_cfg (s : State) (k : Nat) (h : SnsConv) : (s.setSconv k h).cfg = s.cfg := rfl
@[simp] theorem setSconv_ph (s : State) (k : Nat) (h : SnsConv) : (s.setSconv k h).ph = s.ph := rfl
@[simp] theorem setSconv_xph (s : State) (k : Nat) (h : SnsConv) : (s.setSconv k h).xph = s.xph := rfl
@[simp] theorem setSconv_loop (s : State) (k : Nat) (h : SnsConv) : (s.setSconv k h).loop = s.loop := rfl
@[simp] theorem setSconv_lpe (s : State) (k : Nat) (h : SnsConv) : (s.setSconv k h).lpe = s.lpe := rfl
@[simp] theorem setSconv_trc (s : State) (k : Nat) (h : SnsConv) : (s.setSconv k h).trc = s.trc := rfl
@[simp] theorem setSconv_ttb (s : State) (k : Nat) (h : SnsConv) : (s.setSconv k h).ttb = s.ttb := rfl
@[simp] theorem setSconv_odr (s : State) (k : Nat) (h : SnsConv) : (s.setSconv k h).odr = s.odr := rfl
@[simp] theorem setSconv_skid (s : State) (k : Nat) (h : SnsConv) : (s.setSconv k h).skid = s.skid := rfl
@[simp] theorem setSconv_tndr (s : State) (k : Nat) (h : SnsConv) : (s.setSconv k h).tndr = s.tndr := rfl
@[simp] theorem setSconv_pwr (s : State) (k : Nat) (h : SnsConv) : (s.setSconv k h).pwr = s.pwr := rfl
@[simp] theorem setSconv_pwrRgn (s : State) (k : Nat) (h : SnsConv) : (s.setSconv k h).pwrRgn = s.pwrRgn := rfl
@[simp] theorem setSconv_wblGrp (s : State) (k : Nat) (h : SnsConv) : (s.setSconv k h).wblGrp = s.wblGrp := rfl
@[simp] theorem setSconv_cplr (s : State) (k : Nat) (h : SnsConv) : (s.setSconv k h).cplr = s.cplr := rfl
@[simp] theorem setSconv_cplrEp (s : State) (k : Nat) (h : SnsConv) : (s.setSconv k h).cplrEp = s.cplrEp := rfl
@[simp] theorem setSconv_cplrSlot (s : State) (k : Nat) (h : SnsConv) : (s.setSconv k h).cplrSlot = s.cplrSlot := rfl
@[simp] theorem setSconv_sns (s : State) (k : Nat) (h : SnsConv) : (s.setSconv k h).sns = s.sns := rfl
@[simp] theorem setSconv_snsComp (s : State) (k : Nat) (h : SnsConv) : (s.setSconv k h).snsComp = s.snsComp := rfl
@[simp] theorem setSconv_thmSensor (s : State) (k : Nat) (h : SnsConv) : (s.setSconv k h).thmSensor = s.thmSensor := rfl
@[simp] theorem setSconv_thmGroup (s : State) (k : Nat) (h : SnsConv) : (s.setSconv k h).thmGroup = s.thmGroup := rfl
@[simp] theorem setSconv_thm (s : State) (k : Nat) (h : SnsConv) : (s.setSconv k h).thm = s.thm := rfl
@[simp] theorem setSconv_cbse (s : State) (k : Nat) (h : SnsConv) : (s.setSconv k h).cbse = s.cbse := rfl
@[simp] theorem setSconv_tlm (s : State) (k : Nat) (h : SnsConv) : (s.setSconv k h).tlm = s.tlm := rfl
@[simp] theorem setSconv_fw (s : State) (k : Nat) (h : SnsConv) : (s.setSconv k h).fw = s.fw := rfl
@[simp] theorem setSconv_core (s : State) (k : Nat) (h : SnsConv) : (s.setSconv k h).core = s.core := rfl
@[simp] theorem setSconv_cache (s : State) (k : Nat) (h : SnsConv) : (s.setSconv k h).cache = s.cache := rfl
@[simp] theorem setSconv_ram (s : State) (k : Nat) (h : SnsConv) : (s.setSconv k h).ram = s.ram := rfl
@[simp] theorem setSconv_yutre (s : State) (k : Nat) (h : SnsConv) : (s.setSconv k h).yutre = s.yutre := rfl
@[simp] theorem setSconv_pst (s : State) (k : Nat) (h : SnsConv) : (s.setSconv k h).pst = s.pst := rfl
@[simp] theorem setSconv_smb (s : State) (k : Nat) (h : SnsConv) : (s.setSconv k h).smb = s.smb := rfl
@[simp] theorem setSconv_mch (s : State) (k : Nat) (h : SnsConv) : (s.setSconv k h).mch = s.mch := rfl
@[simp] theorem setSconv_rst (s : State) (k : Nat) (h : SnsConv) : (s.setSconv k h).rst = s.rst := rfl
@[simp] theorem setSconv_hold (s : State) (k : Nat) (h : SnsConv) : (s.setSconv k h).hold = s.hold := rfl
@[simp] theorem setSconv_out (s : State) (k : Nat) (h : SnsConv) : (s.setSconv k h).out = s.out := rfl
@[simp] theorem setSconv_pending (s : State) (k : Nat) (h : SnsConv) : (s.setSconv k h).pending = s.pending := rfl
@[simp] theorem setScomp_regs (s : State) (w : Nat) (h : SnsComp) : (s.setScomp w h).regs = s.regs := rfl
@[simp] theorem setScomp_ts (s : State) (w : Nat) (h : SnsComp) : (s.setScomp w h).ts = s.ts := rfl
@[simp] theorem setScomp_efuse (s : State) (w : Nat) (h : SnsComp) : (s.setScomp w h).efuse = s.efuse := rfl
@[simp] theorem setScomp_latch (s : State) (w : Nat) (h : SnsComp) : (s.setScomp w h).latch = s.latch := rfl
@[simp] theorem setScomp_rdata (s : State) (w : Nat) (h : SnsComp) : (s.setScomp w h).rdata = s.rdata := rfl
@[simp] theorem setScomp_freeCtr (s : State) (w : Nat) (h : SnsComp) : (s.setScomp w h).freeCtr = s.freeCtr := rfl
@[simp] theorem setScomp_tim (s : State) (w : Nat) (h : SnsComp) : (s.setScomp w h).tim = s.tim := rfl
@[simp] theorem setScomp_sea (s : State) (w : Nat) (h : SnsComp) : (s.setScomp w h).sea = s.sea := rfl
@[simp] theorem setScomp_cell (s : State) (w : Nat) (h : SnsComp) : (s.setScomp w h).cell = s.cell := rfl
@[simp] theorem setScomp_rgn (s : State) (w : Nat) (h : SnsComp) : (s.setScomp w h).rgn = s.rgn := rfl
@[simp] theorem setScomp_cfg (s : State) (w : Nat) (h : SnsComp) : (s.setScomp w h).cfg = s.cfg := rfl
@[simp] theorem setScomp_ph (s : State) (w : Nat) (h : SnsComp) : (s.setScomp w h).ph = s.ph := rfl
@[simp] theorem setScomp_xph (s : State) (w : Nat) (h : SnsComp) : (s.setScomp w h).xph = s.xph := rfl
@[simp] theorem setScomp_loop (s : State) (w : Nat) (h : SnsComp) : (s.setScomp w h).loop = s.loop := rfl
@[simp] theorem setScomp_lpe (s : State) (w : Nat) (h : SnsComp) : (s.setScomp w h).lpe = s.lpe := rfl
@[simp] theorem setScomp_trc (s : State) (w : Nat) (h : SnsComp) : (s.setScomp w h).trc = s.trc := rfl
@[simp] theorem setScomp_ttb (s : State) (w : Nat) (h : SnsComp) : (s.setScomp w h).ttb = s.ttb := rfl
@[simp] theorem setScomp_odr (s : State) (w : Nat) (h : SnsComp) : (s.setScomp w h).odr = s.odr := rfl
@[simp] theorem setScomp_skid (s : State) (w : Nat) (h : SnsComp) : (s.setScomp w h).skid = s.skid := rfl
@[simp] theorem setScomp_tndr (s : State) (w : Nat) (h : SnsComp) : (s.setScomp w h).tndr = s.tndr := rfl
@[simp] theorem setScomp_pwr (s : State) (w : Nat) (h : SnsComp) : (s.setScomp w h).pwr = s.pwr := rfl
@[simp] theorem setScomp_pwrRgn (s : State) (w : Nat) (h : SnsComp) : (s.setScomp w h).pwrRgn = s.pwrRgn := rfl
@[simp] theorem setScomp_wblGrp (s : State) (w : Nat) (h : SnsComp) : (s.setScomp w h).wblGrp = s.wblGrp := rfl
@[simp] theorem setScomp_cplr (s : State) (w : Nat) (h : SnsComp) : (s.setScomp w h).cplr = s.cplr := rfl
@[simp] theorem setScomp_cplrEp (s : State) (w : Nat) (h : SnsComp) : (s.setScomp w h).cplrEp = s.cplrEp := rfl
@[simp] theorem setScomp_cplrSlot (s : State) (w : Nat) (h : SnsComp) : (s.setScomp w h).cplrSlot = s.cplrSlot := rfl
@[simp] theorem setScomp_sns (s : State) (w : Nat) (h : SnsComp) : (s.setScomp w h).sns = s.sns := rfl
@[simp] theorem setScomp_snsConv (s : State) (w : Nat) (h : SnsComp) : (s.setScomp w h).snsConv = s.snsConv := rfl
@[simp] theorem setScomp_thmSensor (s : State) (w : Nat) (h : SnsComp) : (s.setScomp w h).thmSensor = s.thmSensor := rfl
@[simp] theorem setScomp_thmGroup (s : State) (w : Nat) (h : SnsComp) : (s.setScomp w h).thmGroup = s.thmGroup := rfl
@[simp] theorem setScomp_thm (s : State) (w : Nat) (h : SnsComp) : (s.setScomp w h).thm = s.thm := rfl
@[simp] theorem setScomp_cbse (s : State) (w : Nat) (h : SnsComp) : (s.setScomp w h).cbse = s.cbse := rfl
@[simp] theorem setScomp_tlm (s : State) (w : Nat) (h : SnsComp) : (s.setScomp w h).tlm = s.tlm := rfl
@[simp] theorem setScomp_fw (s : State) (w : Nat) (h : SnsComp) : (s.setScomp w h).fw = s.fw := rfl
@[simp] theorem setScomp_core (s : State) (w : Nat) (h : SnsComp) : (s.setScomp w h).core = s.core := rfl
@[simp] theorem setScomp_cache (s : State) (w : Nat) (h : SnsComp) : (s.setScomp w h).cache = s.cache := rfl
@[simp] theorem setScomp_ram (s : State) (w : Nat) (h : SnsComp) : (s.setScomp w h).ram = s.ram := rfl
@[simp] theorem setScomp_yutre (s : State) (w : Nat) (h : SnsComp) : (s.setScomp w h).yutre = s.yutre := rfl
@[simp] theorem setScomp_pst (s : State) (w : Nat) (h : SnsComp) : (s.setScomp w h).pst = s.pst := rfl
@[simp] theorem setScomp_smb (s : State) (w : Nat) (h : SnsComp) : (s.setScomp w h).smb = s.smb := rfl
@[simp] theorem setScomp_mch (s : State) (w : Nat) (h : SnsComp) : (s.setScomp w h).mch = s.mch := rfl
@[simp] theorem setScomp_rst (s : State) (w : Nat) (h : SnsComp) : (s.setScomp w h).rst = s.rst := rfl
@[simp] theorem setScomp_hold (s : State) (w : Nat) (h : SnsComp) : (s.setScomp w h).hold = s.hold := rfl
@[simp] theorem setScomp_out (s : State) (w : Nat) (h : SnsComp) : (s.setScomp w h).out = s.out := rfl
@[simp] theorem setScomp_pending (s : State) (w : Nat) (h : SnsComp) : (s.setScomp w h).pending = s.pending := rfl
@[simp] theorem setSkidHid_regs (s : State) (n : Nat) (h : SkidHid) : (s.setSkidHid n h).regs = s.regs := rfl
@[simp] theorem setSkidHid_ts (s : State) (n : Nat) (h : SkidHid) : (s.setSkidHid n h).ts = s.ts := rfl
@[simp] theorem setSkidHid_efuse (s : State) (n : Nat) (h : SkidHid) : (s.setSkidHid n h).efuse = s.efuse := rfl
@[simp] theorem setSkidHid_latch (s : State) (n : Nat) (h : SkidHid) : (s.setSkidHid n h).latch = s.latch := rfl
@[simp] theorem setSkidHid_rdata (s : State) (n : Nat) (h : SkidHid) : (s.setSkidHid n h).rdata = s.rdata := rfl
@[simp] theorem setSkidHid_freeCtr (s : State) (n : Nat) (h : SkidHid) : (s.setSkidHid n h).freeCtr = s.freeCtr := rfl
@[simp] theorem setSkidHid_tim (s : State) (n : Nat) (h : SkidHid) : (s.setSkidHid n h).tim = s.tim := rfl
@[simp] theorem setSkidHid_sea (s : State) (n : Nat) (h : SkidHid) : (s.setSkidHid n h).sea = s.sea := rfl
@[simp] theorem setSkidHid_cell (s : State) (n : Nat) (h : SkidHid) : (s.setSkidHid n h).cell = s.cell := rfl
@[simp] theorem setSkidHid_rgn (s : State) (n : Nat) (h : SkidHid) : (s.setSkidHid n h).rgn = s.rgn := rfl
@[simp] theorem setSkidHid_cfg (s : State) (n : Nat) (h : SkidHid) : (s.setSkidHid n h).cfg = s.cfg := rfl
@[simp] theorem setSkidHid_ph (s : State) (n : Nat) (h : SkidHid) : (s.setSkidHid n h).ph = s.ph := rfl
@[simp] theorem setSkidHid_xph (s : State) (n : Nat) (h : SkidHid) : (s.setSkidHid n h).xph = s.xph := rfl
@[simp] theorem setSkidHid_loop (s : State) (n : Nat) (h : SkidHid) : (s.setSkidHid n h).loop = s.loop := rfl
@[simp] theorem setSkidHid_lpe (s : State) (n : Nat) (h : SkidHid) : (s.setSkidHid n h).lpe = s.lpe := rfl
@[simp] theorem setSkidHid_trc (s : State) (n : Nat) (h : SkidHid) : (s.setSkidHid n h).trc = s.trc := rfl
@[simp] theorem setSkidHid_ttb (s : State) (n : Nat) (h : SkidHid) : (s.setSkidHid n h).ttb = s.ttb := rfl
@[simp] theorem setSkidHid_odr (s : State) (n : Nat) (h : SkidHid) : (s.setSkidHid n h).odr = s.odr := rfl
@[simp] theorem setSkidHid_tndr (s : State) (n : Nat) (h : SkidHid) : (s.setSkidHid n h).tndr = s.tndr := rfl
@[simp] theorem setSkidHid_pwr (s : State) (n : Nat) (h : SkidHid) : (s.setSkidHid n h).pwr = s.pwr := rfl
@[simp] theorem setSkidHid_pwrRgn (s : State) (n : Nat) (h : SkidHid) : (s.setSkidHid n h).pwrRgn = s.pwrRgn := rfl
@[simp] theorem setSkidHid_wblGrp (s : State) (n : Nat) (h : SkidHid) : (s.setSkidHid n h).wblGrp = s.wblGrp := rfl
@[simp] theorem setSkidHid_cplr (s : State) (n : Nat) (h : SkidHid) : (s.setSkidHid n h).cplr = s.cplr := rfl
@[simp] theorem setSkidHid_cplrEp (s : State) (n : Nat) (h : SkidHid) : (s.setSkidHid n h).cplrEp = s.cplrEp := rfl
@[simp] theorem setSkidHid_cplrSlot (s : State) (n : Nat) (h : SkidHid) : (s.setSkidHid n h).cplrSlot = s.cplrSlot := rfl
@[simp] theorem setSkidHid_sns (s : State) (n : Nat) (h : SkidHid) : (s.setSkidHid n h).sns = s.sns := rfl
@[simp] theorem setSkidHid_snsConv (s : State) (n : Nat) (h : SkidHid) : (s.setSkidHid n h).snsConv = s.snsConv := rfl
@[simp] theorem setSkidHid_snsComp (s : State) (n : Nat) (h : SkidHid) : (s.setSkidHid n h).snsComp = s.snsComp := rfl
@[simp] theorem setSkidHid_thmSensor (s : State) (n : Nat) (h : SkidHid) : (s.setSkidHid n h).thmSensor = s.thmSensor := rfl
@[simp] theorem setSkidHid_thmGroup (s : State) (n : Nat) (h : SkidHid) : (s.setSkidHid n h).thmGroup = s.thmGroup := rfl
@[simp] theorem setSkidHid_thm (s : State) (n : Nat) (h : SkidHid) : (s.setSkidHid n h).thm = s.thm := rfl
@[simp] theorem setSkidHid_cbse (s : State) (n : Nat) (h : SkidHid) : (s.setSkidHid n h).cbse = s.cbse := rfl
@[simp] theorem setSkidHid_tlm (s : State) (n : Nat) (h : SkidHid) : (s.setSkidHid n h).tlm = s.tlm := rfl
@[simp] theorem setSkidHid_fw (s : State) (n : Nat) (h : SkidHid) : (s.setSkidHid n h).fw = s.fw := rfl
@[simp] theorem setSkidHid_core (s : State) (n : Nat) (h : SkidHid) : (s.setSkidHid n h).core = s.core := rfl
@[simp] theorem setSkidHid_cache (s : State) (n : Nat) (h : SkidHid) : (s.setSkidHid n h).cache = s.cache := rfl
@[simp] theorem setSkidHid_ram (s : State) (n : Nat) (h : SkidHid) : (s.setSkidHid n h).ram = s.ram := rfl
@[simp] theorem setSkidHid_yutre (s : State) (n : Nat) (h : SkidHid) : (s.setSkidHid n h).yutre = s.yutre := rfl
@[simp] theorem setSkidHid_pst (s : State) (n : Nat) (h : SkidHid) : (s.setSkidHid n h).pst = s.pst := rfl
@[simp] theorem setSkidHid_smb (s : State) (n : Nat) (h : SkidHid) : (s.setSkidHid n h).smb = s.smb := rfl
@[simp] theorem setSkidHid_mch (s : State) (n : Nat) (h : SkidHid) : (s.setSkidHid n h).mch = s.mch := rfl
@[simp] theorem setSkidHid_rst (s : State) (n : Nat) (h : SkidHid) : (s.setSkidHid n h).rst = s.rst := rfl
@[simp] theorem setSkidHid_hold (s : State) (n : Nat) (h : SkidHid) : (s.setSkidHid n h).hold = s.hold := rfl
@[simp] theorem setSkidHid_out (s : State) (n : Nat) (h : SkidHid) : (s.setSkidHid n h).out = s.out := rfl
@[simp] theorem setSkidHid_pending (s : State) (n : Nat) (h : SkidHid) : (s.setSkidHid n h).pending = s.pending := rfl
@[simp] theorem setTsen_regs (s : State) (x : Nat) (h : ThmSensor) : (s.setTsen x h).regs = s.regs := rfl
@[simp] theorem setTsen_ts (s : State) (x : Nat) (h : ThmSensor) : (s.setTsen x h).ts = s.ts := rfl
@[simp] theorem setTsen_efuse (s : State) (x : Nat) (h : ThmSensor) : (s.setTsen x h).efuse = s.efuse := rfl
@[simp] theorem setTsen_latch (s : State) (x : Nat) (h : ThmSensor) : (s.setTsen x h).latch = s.latch := rfl
@[simp] theorem setTsen_rdata (s : State) (x : Nat) (h : ThmSensor) : (s.setTsen x h).rdata = s.rdata := rfl
@[simp] theorem setTsen_freeCtr (s : State) (x : Nat) (h : ThmSensor) : (s.setTsen x h).freeCtr = s.freeCtr := rfl
@[simp] theorem setTsen_tim (s : State) (x : Nat) (h : ThmSensor) : (s.setTsen x h).tim = s.tim := rfl
@[simp] theorem setTsen_sea (s : State) (x : Nat) (h : ThmSensor) : (s.setTsen x h).sea = s.sea := rfl
@[simp] theorem setTsen_cell (s : State) (x : Nat) (h : ThmSensor) : (s.setTsen x h).cell = s.cell := rfl
@[simp] theorem setTsen_rgn (s : State) (x : Nat) (h : ThmSensor) : (s.setTsen x h).rgn = s.rgn := rfl
@[simp] theorem setTsen_cfg (s : State) (x : Nat) (h : ThmSensor) : (s.setTsen x h).cfg = s.cfg := rfl
@[simp] theorem setTsen_ph (s : State) (x : Nat) (h : ThmSensor) : (s.setTsen x h).ph = s.ph := rfl
@[simp] theorem setTsen_xph (s : State) (x : Nat) (h : ThmSensor) : (s.setTsen x h).xph = s.xph := rfl
@[simp] theorem setTsen_loop (s : State) (x : Nat) (h : ThmSensor) : (s.setTsen x h).loop = s.loop := rfl
@[simp] theorem setTsen_lpe (s : State) (x : Nat) (h : ThmSensor) : (s.setTsen x h).lpe = s.lpe := rfl
@[simp] theorem setTsen_trc (s : State) (x : Nat) (h : ThmSensor) : (s.setTsen x h).trc = s.trc := rfl
@[simp] theorem setTsen_ttb (s : State) (x : Nat) (h : ThmSensor) : (s.setTsen x h).ttb = s.ttb := rfl
@[simp] theorem setTsen_odr (s : State) (x : Nat) (h : ThmSensor) : (s.setTsen x h).odr = s.odr := rfl
@[simp] theorem setTsen_skid (s : State) (x : Nat) (h : ThmSensor) : (s.setTsen x h).skid = s.skid := rfl
@[simp] theorem setTsen_tndr (s : State) (x : Nat) (h : ThmSensor) : (s.setTsen x h).tndr = s.tndr := rfl
@[simp] theorem setTsen_pwr (s : State) (x : Nat) (h : ThmSensor) : (s.setTsen x h).pwr = s.pwr := rfl
@[simp] theorem setTsen_pwrRgn (s : State) (x : Nat) (h : ThmSensor) : (s.setTsen x h).pwrRgn = s.pwrRgn := rfl
@[simp] theorem setTsen_wblGrp (s : State) (x : Nat) (h : ThmSensor) : (s.setTsen x h).wblGrp = s.wblGrp := rfl
@[simp] theorem setTsen_cplr (s : State) (x : Nat) (h : ThmSensor) : (s.setTsen x h).cplr = s.cplr := rfl
@[simp] theorem setTsen_cplrEp (s : State) (x : Nat) (h : ThmSensor) : (s.setTsen x h).cplrEp = s.cplrEp := rfl
@[simp] theorem setTsen_cplrSlot (s : State) (x : Nat) (h : ThmSensor) : (s.setTsen x h).cplrSlot = s.cplrSlot := rfl
@[simp] theorem setTsen_sns (s : State) (x : Nat) (h : ThmSensor) : (s.setTsen x h).sns = s.sns := rfl
@[simp] theorem setTsen_snsConv (s : State) (x : Nat) (h : ThmSensor) : (s.setTsen x h).snsConv = s.snsConv := rfl
@[simp] theorem setTsen_snsComp (s : State) (x : Nat) (h : ThmSensor) : (s.setTsen x h).snsComp = s.snsComp := rfl
@[simp] theorem setTsen_thmGroup (s : State) (x : Nat) (h : ThmSensor) : (s.setTsen x h).thmGroup = s.thmGroup := rfl
@[simp] theorem setTsen_thm (s : State) (x : Nat) (h : ThmSensor) : (s.setTsen x h).thm = s.thm := rfl
@[simp] theorem setTsen_cbse (s : State) (x : Nat) (h : ThmSensor) : (s.setTsen x h).cbse = s.cbse := rfl
@[simp] theorem setTsen_tlm (s : State) (x : Nat) (h : ThmSensor) : (s.setTsen x h).tlm = s.tlm := rfl
@[simp] theorem setTsen_fw (s : State) (x : Nat) (h : ThmSensor) : (s.setTsen x h).fw = s.fw := rfl
@[simp] theorem setTsen_core (s : State) (x : Nat) (h : ThmSensor) : (s.setTsen x h).core = s.core := rfl
@[simp] theorem setTsen_cache (s : State) (x : Nat) (h : ThmSensor) : (s.setTsen x h).cache = s.cache := rfl
@[simp] theorem setTsen_ram (s : State) (x : Nat) (h : ThmSensor) : (s.setTsen x h).ram = s.ram := rfl
@[simp] theorem setTsen_yutre (s : State) (x : Nat) (h : ThmSensor) : (s.setTsen x h).yutre = s.yutre := rfl
@[simp] theorem setTsen_pst (s : State) (x : Nat) (h : ThmSensor) : (s.setTsen x h).pst = s.pst := rfl
@[simp] theorem setTsen_smb (s : State) (x : Nat) (h : ThmSensor) : (s.setTsen x h).smb = s.smb := rfl
@[simp] theorem setTsen_mch (s : State) (x : Nat) (h : ThmSensor) : (s.setTsen x h).mch = s.mch := rfl
@[simp] theorem setTsen_rst (s : State) (x : Nat) (h : ThmSensor) : (s.setTsen x h).rst = s.rst := rfl
@[simp] theorem setTsen_hold (s : State) (x : Nat) (h : ThmSensor) : (s.setTsen x h).hold = s.hold := rfl
@[simp] theorem setTsen_out (s : State) (x : Nat) (h : ThmSensor) : (s.setTsen x h).out = s.out := rfl
@[simp] theorem setTsen_pending (s : State) (x : Nat) (h : ThmSensor) : (s.setTsen x h).pending = s.pending := rfl
@[simp] theorem setTgrp_regs (s : State) (q : Nat) (h : ThmGroup) : (s.setTgrp q h).regs = s.regs := rfl
@[simp] theorem setTgrp_ts (s : State) (q : Nat) (h : ThmGroup) : (s.setTgrp q h).ts = s.ts := rfl
@[simp] theorem setTgrp_efuse (s : State) (q : Nat) (h : ThmGroup) : (s.setTgrp q h).efuse = s.efuse := rfl
@[simp] theorem setTgrp_latch (s : State) (q : Nat) (h : ThmGroup) : (s.setTgrp q h).latch = s.latch := rfl
@[simp] theorem setTgrp_rdata (s : State) (q : Nat) (h : ThmGroup) : (s.setTgrp q h).rdata = s.rdata := rfl
@[simp] theorem setTgrp_freeCtr (s : State) (q : Nat) (h : ThmGroup) : (s.setTgrp q h).freeCtr = s.freeCtr := rfl
@[simp] theorem setTgrp_tim (s : State) (q : Nat) (h : ThmGroup) : (s.setTgrp q h).tim = s.tim := rfl
@[simp] theorem setTgrp_sea (s : State) (q : Nat) (h : ThmGroup) : (s.setTgrp q h).sea = s.sea := rfl
@[simp] theorem setTgrp_cell (s : State) (q : Nat) (h : ThmGroup) : (s.setTgrp q h).cell = s.cell := rfl
@[simp] theorem setTgrp_rgn (s : State) (q : Nat) (h : ThmGroup) : (s.setTgrp q h).rgn = s.rgn := rfl
@[simp] theorem setTgrp_cfg (s : State) (q : Nat) (h : ThmGroup) : (s.setTgrp q h).cfg = s.cfg := rfl
@[simp] theorem setTgrp_ph (s : State) (q : Nat) (h : ThmGroup) : (s.setTgrp q h).ph = s.ph := rfl
@[simp] theorem setTgrp_xph (s : State) (q : Nat) (h : ThmGroup) : (s.setTgrp q h).xph = s.xph := rfl
@[simp] theorem setTgrp_loop (s : State) (q : Nat) (h : ThmGroup) : (s.setTgrp q h).loop = s.loop := rfl
@[simp] theorem setTgrp_lpe (s : State) (q : Nat) (h : ThmGroup) : (s.setTgrp q h).lpe = s.lpe := rfl
@[simp] theorem setTgrp_trc (s : State) (q : Nat) (h : ThmGroup) : (s.setTgrp q h).trc = s.trc := rfl
@[simp] theorem setTgrp_ttb (s : State) (q : Nat) (h : ThmGroup) : (s.setTgrp q h).ttb = s.ttb := rfl
@[simp] theorem setTgrp_odr (s : State) (q : Nat) (h : ThmGroup) : (s.setTgrp q h).odr = s.odr := rfl
@[simp] theorem setTgrp_skid (s : State) (q : Nat) (h : ThmGroup) : (s.setTgrp q h).skid = s.skid := rfl
@[simp] theorem setTgrp_tndr (s : State) (q : Nat) (h : ThmGroup) : (s.setTgrp q h).tndr = s.tndr := rfl
@[simp] theorem setTgrp_pwr (s : State) (q : Nat) (h : ThmGroup) : (s.setTgrp q h).pwr = s.pwr := rfl
@[simp] theorem setTgrp_pwrRgn (s : State) (q : Nat) (h : ThmGroup) : (s.setTgrp q h).pwrRgn = s.pwrRgn := rfl
@[simp] theorem setTgrp_wblGrp (s : State) (q : Nat) (h : ThmGroup) : (s.setTgrp q h).wblGrp = s.wblGrp := rfl
@[simp] theorem setTgrp_cplr (s : State) (q : Nat) (h : ThmGroup) : (s.setTgrp q h).cplr = s.cplr := rfl
@[simp] theorem setTgrp_cplrEp (s : State) (q : Nat) (h : ThmGroup) : (s.setTgrp q h).cplrEp = s.cplrEp := rfl
@[simp] theorem setTgrp_cplrSlot (s : State) (q : Nat) (h : ThmGroup) : (s.setTgrp q h).cplrSlot = s.cplrSlot := rfl
@[simp] theorem setTgrp_sns (s : State) (q : Nat) (h : ThmGroup) : (s.setTgrp q h).sns = s.sns := rfl
@[simp] theorem setTgrp_snsConv (s : State) (q : Nat) (h : ThmGroup) : (s.setTgrp q h).snsConv = s.snsConv := rfl
@[simp] theorem setTgrp_snsComp (s : State) (q : Nat) (h : ThmGroup) : (s.setTgrp q h).snsComp = s.snsComp := rfl
@[simp] theorem setTgrp_thmSensor (s : State) (q : Nat) (h : ThmGroup) : (s.setTgrp q h).thmSensor = s.thmSensor := rfl
@[simp] theorem setTgrp_thm (s : State) (q : Nat) (h : ThmGroup) : (s.setTgrp q h).thm = s.thm := rfl
@[simp] theorem setTgrp_cbse (s : State) (q : Nat) (h : ThmGroup) : (s.setTgrp q h).cbse = s.cbse := rfl
@[simp] theorem setTgrp_tlm (s : State) (q : Nat) (h : ThmGroup) : (s.setTgrp q h).tlm = s.tlm := rfl
@[simp] theorem setTgrp_fw (s : State) (q : Nat) (h : ThmGroup) : (s.setTgrp q h).fw = s.fw := rfl
@[simp] theorem setTgrp_core (s : State) (q : Nat) (h : ThmGroup) : (s.setTgrp q h).core = s.core := rfl
@[simp] theorem setTgrp_cache (s : State) (q : Nat) (h : ThmGroup) : (s.setTgrp q h).cache = s.cache := rfl
@[simp] theorem setTgrp_ram (s : State) (q : Nat) (h : ThmGroup) : (s.setTgrp q h).ram = s.ram := rfl
@[simp] theorem setTgrp_yutre (s : State) (q : Nat) (h : ThmGroup) : (s.setTgrp q h).yutre = s.yutre := rfl
@[simp] theorem setTgrp_pst (s : State) (q : Nat) (h : ThmGroup) : (s.setTgrp q h).pst = s.pst := rfl
@[simp] theorem setTgrp_smb (s : State) (q : Nat) (h : ThmGroup) : (s.setTgrp q h).smb = s.smb := rfl
@[simp] theorem setTgrp_mch (s : State) (q : Nat) (h : ThmGroup) : (s.setTgrp q h).mch = s.mch := rfl
@[simp] theorem setTgrp_rst (s : State) (q : Nat) (h : ThmGroup) : (s.setTgrp q h).rst = s.rst := rfl
@[simp] theorem setTgrp_hold (s : State) (q : Nat) (h : ThmGroup) : (s.setTgrp q h).hold = s.hold := rfl
@[simp] theorem setTgrp_out (s : State) (q : Nat) (h : ThmGroup) : (s.setTgrp q h).out = s.out := rfl
@[simp] theorem setTgrp_pending (s : State) (q : Nat) (h : ThmGroup) : (s.setTgrp q h).pending = s.pending := rfl
@[simp] theorem c0Leave_regs (s : State) (n : Nat) : (s.c0Leave n).regs = s.regs := rfl
@[simp] theorem c0Leave_ts (s : State) (n : Nat) : (s.c0Leave n).ts = s.ts := rfl
@[simp] theorem c0Leave_efuse (s : State) (n : Nat) : (s.c0Leave n).efuse = s.efuse := rfl
@[simp] theorem c0Leave_latch (s : State) (n : Nat) : (s.c0Leave n).latch = s.latch := rfl
@[simp] theorem c0Leave_rdata (s : State) (n : Nat) : (s.c0Leave n).rdata = s.rdata := rfl
@[simp] theorem c0Leave_freeCtr (s : State) (n : Nat) : (s.c0Leave n).freeCtr = s.freeCtr := rfl
@[simp] theorem c0Leave_tim (s : State) (n : Nat) : (s.c0Leave n).tim = s.tim := rfl
@[simp] theorem c0Leave_sea (s : State) (n : Nat) : (s.c0Leave n).sea = s.sea := rfl
@[simp] theorem c0Leave_cell (s : State) (n : Nat) : (s.c0Leave n).cell = s.cell := rfl
@[simp] theorem c0Leave_rgn (s : State) (n : Nat) : (s.c0Leave n).rgn = s.rgn := rfl
@[simp] theorem c0Leave_cfg (s : State) (n : Nat) : (s.c0Leave n).cfg = s.cfg := rfl
@[simp] theorem c0Leave_ph (s : State) (n : Nat) : (s.c0Leave n).ph = s.ph := rfl
@[simp] theorem c0Leave_xph (s : State) (n : Nat) : (s.c0Leave n).xph = s.xph := rfl
@[simp] theorem c0Leave_loop (s : State) (n : Nat) : (s.c0Leave n).loop = s.loop := rfl
@[simp] theorem c0Leave_lpe (s : State) (n : Nat) : (s.c0Leave n).lpe = s.lpe := rfl
@[simp] theorem c0Leave_trc (s : State) (n : Nat) : (s.c0Leave n).trc = s.trc := rfl
@[simp] theorem c0Leave_ttb (s : State) (n : Nat) : (s.c0Leave n).ttb = s.ttb := rfl
@[simp] theorem c0Leave_odr (s : State) (n : Nat) : (s.c0Leave n).odr = s.odr := rfl
@[simp] theorem c0Leave_skid (s : State) (n : Nat) : (s.c0Leave n).skid = s.skid := rfl
@[simp] theorem c0Leave_tndr (s : State) (n : Nat) : (s.c0Leave n).tndr = s.tndr := rfl
@[simp] theorem c0Leave_pwr (s : State) (n : Nat) : (s.c0Leave n).pwr = s.pwr := rfl
@[simp] theorem c0Leave_pwrRgn (s : State) (n : Nat) : (s.c0Leave n).pwrRgn = s.pwrRgn := rfl
@[simp] theorem c0Leave_wblGrp (s : State) (n : Nat) : (s.c0Leave n).wblGrp = s.wblGrp := rfl
@[simp] theorem c0Leave_cplr (s : State) (n : Nat) : (s.c0Leave n).cplr = s.cplr := rfl
@[simp] theorem c0Leave_cplrEp (s : State) (n : Nat) : (s.c0Leave n).cplrEp = s.cplrEp := rfl
@[simp] theorem c0Leave_cplrSlot (s : State) (n : Nat) : (s.c0Leave n).cplrSlot = s.cplrSlot := rfl
@[simp] theorem c0Leave_sns (s : State) (n : Nat) : (s.c0Leave n).sns = s.sns := rfl
@[simp] theorem c0Leave_snsConv (s : State) (n : Nat) : (s.c0Leave n).snsConv = s.snsConv := rfl
@[simp] theorem c0Leave_snsComp (s : State) (n : Nat) : (s.c0Leave n).snsComp = s.snsComp := rfl
@[simp] theorem c0Leave_thmSensor (s : State) (n : Nat) : (s.c0Leave n).thmSensor = s.thmSensor := rfl
@[simp] theorem c0Leave_thmGroup (s : State) (n : Nat) : (s.c0Leave n).thmGroup = s.thmGroup := rfl
@[simp] theorem c0Leave_thm (s : State) (n : Nat) : (s.c0Leave n).thm = s.thm := rfl
@[simp] theorem c0Leave_cbse (s : State) (n : Nat) : (s.c0Leave n).cbse = s.cbse := rfl
@[simp] theorem c0Leave_tlm (s : State) (n : Nat) : (s.c0Leave n).tlm = s.tlm := rfl
@[simp] theorem c0Leave_fw (s : State) (n : Nat) : (s.c0Leave n).fw = s.fw := rfl
@[simp] theorem c0Leave_core (s : State) (n : Nat) : (s.c0Leave n).core = s.core := rfl
@[simp] theorem c0Leave_cache (s : State) (n : Nat) : (s.c0Leave n).cache = s.cache := rfl
@[simp] theorem c0Leave_ram (s : State) (n : Nat) : (s.c0Leave n).ram = s.ram := rfl
@[simp] theorem c0Leave_yutre (s : State) (n : Nat) : (s.c0Leave n).yutre = s.yutre := rfl
@[simp] theorem c0Leave_smb (s : State) (n : Nat) : (s.c0Leave n).smb = s.smb := rfl
@[simp] theorem c0Leave_mch (s : State) (n : Nat) : (s.c0Leave n).mch = s.mch := rfl
@[simp] theorem c0Leave_rst (s : State) (n : Nat) : (s.c0Leave n).rst = s.rst := rfl
@[simp] theorem c0Leave_hold (s : State) (n : Nat) : (s.c0Leave n).hold = s.hold := rfl
@[simp] theorem c0Leave_out (s : State) (n : Nat) : (s.c0Leave n).out = s.out := rfl
@[simp] theorem c0Leave_pending (s : State) (n : Nat) : (s.c0Leave n).pending = s.pending := rfl
theorem unfold_completes {c s p} (t : State) (h : exec c s = .next t) (hp : p t) : Completes c s p := ⟨t, h, hp⟩
@[simp] theorem phid_setPhid_same (s : State) (p : Nat) (h : PhHid) : (s.setPhid p h).phid p = h := by
  unfold State.setPhid State.phid; rw [mapGet_mapSet_same]

theorem phid_setPhid_other (s : State) (p q : Nat) (h : PhHid) (hq : q ≠ p) : (s.setPhid p h).phid q = s.phid q := by
  unfold State.setPhid State.phid; rw [mapGet_mapSet_other _ _ _ _ _ _ hq]

theorem smbLatch_regs (s : State) : (smbLatch s).regs = s.regs := rfl
theorem smbLatch_ph (s : State) : (smbLatch s).ph = s.ph := rfl
theorem phid_congr {s t : State} (h : t.ph = s.ph) (p : Nat) : t.phid p = s.phid p := by unfold State.phid; rw [h]
theorem fldGet_bit (w : Word) (i : Nat) : fldGet w i i = (w.getLsbD i).toNat := by
  unfold fldGet BitVec.getLsbD
  rw [BitVec.toNat_ushiftRight, Nat.shiftRight_eq_div_pow, Nat.toNat_testBit]; simp

theorem loopHid_setLoopHid_same (s : State) (p : Nat) (h : LoopHid) : (s.setLoopHid p h).loopHid p = h := by
  unfold State.setLoopHid State.loopHid; rw [mapGet_mapSet_same]

theorem loopHid_setLoopHid_other (s : State) (p q : Nat) (h : LoopHid) (hq : q ≠ p) : (s.setLoopHid p h).loopHid q = s.loopHid q := by
  unfold State.setLoopHid State.loopHid; rw [mapGet_mapSet_other _ _ _ _ _ _ hq]

theorem loopHid_congr {s t : State} (h : t.loop = s.loop) (p : Nat) : t.loopHid p = s.loopHid p := by unfold State.loopHid; rw [h]
theorem discardOutputs_regs (s : State) : (discardOutputs s).regs = s.regs := by
  unfold discardOutputs State.each
  generalize s.loop.map Prod.fst = l
  induction l generalizing s with
  | nil => rfl
  | cons a l ih => rw [List.foldl_cons, ih]; rfl

theorem discardOutputs_upd (s : State) : { discardOutputs s with loop := s.loop } = s := by
  unfold discardOutputs State.each
  generalize s.loop.map Prod.fst = l
  have : ∀ (l : List Nat) (z : State), { (l.foldl (fun s k => s.setLoopHid k { s.loopHid k with pend := none, balPend := [] }) z) with loop := s.loop } = { z with loop := s.loop } := by
    intro l
    induction l with
    | nil => intro z; rfl
    | cons a l ih => intro z; rw [List.foldl_cons, ih]; rfl
  exact this l s

theorem each_field {α β : Type} (g : State → β) (l : List α) (f : State → α → State) (s : State) (h : ∀ s a, g (f s a) = g s) : g (s.each l f) = g s := by
  unfold State.each
  induction l generalizing s with
  | nil => rfl
  | cons a l ih => rw [List.foldl_cons, ih]; exact h s a

theorem memWritten_ttb (m b : Nat) (os : List Nat) (s : State) : (memWritten m b os s).ttb = s.ttb := by
  unfold memWritten
  apply each_field (fun s => s.ttb)
  intro s a
  have hm : ∀ z, (memUe m a z).ttb = z.ttb := fun z => by unfold memUe; dsimp only; split <;> rfl
  dsimp only
  repeat' split
  all_goals first | rfl | exact hm s

theorem memWritten_odr (m b : Nat) (os : List Nat) (s : State) : (memWritten m b os s).odr = s.odr := by
  unfold memWritten
  apply each_field (fun s => s.odr)
  intro s a
  have hm : ∀ z, (memUe m a z).odr = z.odr := fun z => by unfold memUe; dsimp only; split <;> rfl
  dsimp only
  repeat' split
  all_goals first | rfl | exact hm s

theorem newCycle_eq (s : State) : s.newCycle = { s with tim := { s.tim with cycle := s.newCycle.tim.cycle }, fw := { s.fw with quiet := s.newCycle.fw.quiet } } := by
  unfold State.newCycle; dsimp only; split <;> rfl

theorem passEdges_eq (s : State) (n : Nat) : s.passEdges n = { s with ts := (s.passEdges n).ts, tim := { s.tim with edges := (s.passEdges n).tim.edges, slewLeft := (s.passEdges n).tim.slewLeft, slewEdges := (s.passEdges n).tim.slewEdges, cycle := (s.passEdges n).tim.cycle }, fw := { s.fw with quiet := (s.passEdges n).fw.quiet } } := by
  unfold State.passEdges; dsimp only; rw [newCycle_eq]

theorem passCoarse_eq (s : State) (n : Nat) : s.passCoarse n = { s with ts := (s.passCoarse n).ts, tim := { s.tim with cycle := (s.passCoarse n).tim.cycle }, fw := { s.fw with quiet := (s.passCoarse n).fw.quiet } } := by
  unfold State.passCoarse; rw [newCycle_eq]

theorem advanceTo_ex (s : State) (t : Dword) : ∃ p : Dword × Nat × Int × Nat × List (Nat × Word) × Nat, s.advanceTo t = { s with ts := p.1, tim := { s.tim with edges := p.2.1, slewLeft := p.2.2.1, slewEdges := p.2.2.2.1, cycle := p.2.2.2.2.1 }, fw := { s.fw with quiet := p.2.2.2.2.2 } } := by
  refine ⟨⟨(s.advanceTo t).ts, (s.advanceTo t).tim.edges, (s.advanceTo t).tim.slewLeft, (s.advanceTo t).tim.slewEdges, (s.advanceTo t).tim.cycle, (s.advanceTo t).fw.quiet⟩, ?_⟩
  unfold State.advanceTo
  dsimp only
  split
  · rfl
  · split
    · rw [passEdges_eq]
    · split
      · rfl
      · rw [passCoarse_eq]
noncomputable def State.advTs (s : State) (t : Dword) : Dword := (Classical.choose (advanceTo_ex s t)).1
noncomputable def State.advEdges (s : State) (t : Dword) : Nat := (Classical.choose (advanceTo_ex s t)).2.1
noncomputable def State.advLeft (s : State) (t : Dword) : Int := (Classical.choose (advanceTo_ex s t)).2.2.1
noncomputable def State.advSlew (s : State) (t : Dword) : Nat := (Classical.choose (advanceTo_ex s t)).2.2.2.1
noncomputable def State.advCycle (s : State) (t : Dword) : List (Nat × Word) := (Classical.choose (advanceTo_ex s t)).2.2.2.2.1
noncomputable def State.advQuiet (s : State) (t : Dword) : Nat := (Classical.choose (advanceTo_ex s t)).2.2.2.2.2

theorem advanceTo_eq (s : State) (t : Dword) : s.advanceTo t = { s with ts := s.advTs t, tim := { s.tim with edges := s.advEdges t, slewLeft := s.advLeft t, slewEdges := s.advSlew t, cycle := s.advCycle t }, fw := { s.fw with quiet := s.advQuiet t } } := Classical.choose_spec (advanceTo_ex s t)

theorem locked_adv (s : State) (t : Dword) : (s.advanceTo t).locked = s.locked := by
  unfold State.locked State.bit; rw [State.advanceTo_get]

theorem rippleEdge_ex (s : State) : ∃ p : Int × Nat, rippleEdge s = { s with freeCtr := p.2, xph := { s.xph with acc := p.1 } } := by
  unfold rippleEdge
  dsimp only
  split
  · exact ⟨(_, s.freeCtr), rfl⟩
  split
  · exact ⟨(_, s.freeCtr + 1), rfl⟩
  · exact ⟨(_, s.freeCtr), rfl⟩

theorem rippleRun_ex (n : Nat) (s : State) : ∃ p : Int × Nat, rippleRun n s = { s with freeCtr := p.2, xph := { s.xph with acc := p.1 } } := by
  induction n generalizing s with
  | zero => exact ⟨(s.xph.acc, s.freeCtr), rfl⟩
  | succ n ih =>
    rw [rippleRun]
    dsimp only
    split
    · exact ⟨(s.xph.acc, s.freeCtr), rfl⟩
    · obtain ⟨p, hp⟩ := rippleEdge_ex s
      obtain ⟨q, hq⟩ := ih (rippleEdge s)
      rw [hq, hp]
      exact ⟨q, rfl⟩

theorem rippleCatch_ex (s : State) : ∃ p : Int × Nat, rippleCatch s = { s with freeCtr := p.2, xph := { s.xph with acc := p.1, ripEdges := s.tim.edges } } := by
  obtain ⟨p, hp⟩ := rippleRun_ex (s.tim.edges - s.xph.ripEdges) s
  refine ⟨p, ?_⟩
  unfold rippleCatch
  dsimp only
  rw [hp]
noncomputable def State.ripAcc (s : State) : Int := (Classical.choose (rippleCatch_ex s)).1
noncomputable def State.ripFree (s : State) : Nat := (Classical.choose (rippleCatch_ex s)).2

theorem rippleCatch_eq (s : State) : rippleCatch s = { s with freeCtr := s.ripFree, xph := { s.xph with acc := s.ripAcc, ripEdges := s.tim.edges } } := Classical.choose_spec (rippleCatch_ex s)

theorem get_of_put {w z : State} {f : Fld} {v : Nat} (hw : w.regs = (z.put f v).regs) (g : Fld) (h : g.addr ≠ f.addr ∨ f.hi < g.lo ∨ g.hi < f.lo) : w.get g = z.get g := by
  have h1 : w.get g = (z.put f v).get g := by unfold State.get; rw [State.rd_congr _ _ _ hw]
  rw [h1, State.get_put_other _ _ _ _ h]

theorem locked_of_put {w z : State} {f : Fld} {v : Nat} (hw : w.regs = (z.put f v).regs) (h : TIM_STAT.PLL_LOCK.addr ≠ f.addr ∨ f.hi < TIM_STAT.PLL_LOCK.lo ∨ TIM_STAT.PLL_LOCK.hi < f.lo) : w.locked = z.locked := by
  unfold State.locked State.bit; rw [get_of_put hw _ h]

theorem saveRaise_unlocked {w : State} (h : w.locked = false) : saveRaise w = w := by
  rw [saveRaise, if_neg]; rintro ⟨_, h', _⟩; rw [h] at h'; cases h'

theorem saveRaise_run {w : State} (h0 : w.hold.saveDue = true) (h1 : w.locked = true) (h2 : w.get TIM_STAT.CTRL_GOOD = 1) (h3 : w.rst.inst = false) : saveRaise w = { w with hold := { w.hold with saveDue := false } }.pulse 27 := by
  rw [saveRaise, if_pos ⟨h0, h1, by rw [State.bit, h2]; rfl, by rw [h3]; rfl⟩]
def saveMark (u : State) : State := { holdEvent 3 (u.put HOLD_STAT.TIMEOUT 1) with hold := { (holdEvent 3 (u.put HOLD_STAT.TIMEOUT 1)).hold with saveDue := true } }

theorem saveTimeout_run {z : State} (h : z.holdState ≠ 0 ∧ z.unsaved = true) : saveTimeout z = saveRaise (saveMark (z.advanceTo (BitVec.ofNat 64 (z.hold.decl + 25600000)))) := by
  unfold saveMark; rw [saveTimeout, if_pos h]

theorem saveMark_locked (z : State) : (saveMark z).locked = z.locked := locked_of_put (z := z) (f := HOLD_STAT.TIMEOUT) (v := 1) rfl (by decide)
theorem saveMark_good (z : State) : (saveMark z).get TIM_STAT.CTRL_GOOD = z.get TIM_STAT.CTRL_GOOD := get_of_put (z := z) (f := HOLD_STAT.TIMEOUT) (v := 1) rfl _ (by decide)

theorem saveMark_due (z : State) : (saveMark z).hold.saveDue = true := rfl
theorem saveMark_rst (z : State) : (saveMark z).rst = z.rst := rfl
theorem saveMark_ts (z : State) : (saveMark z).ts = z.ts := rfl
theorem saveMark_pulses (z : State) : (saveMark z).cbse.pulses = z.cbse.pulses := rfl
theorem saveMark_port (z : State) : (saveMark z).pst.port = z.pst.port ++ [32 * kHOLD + 3] := rfl
theorem saveMark_timeout (z : State) : (saveMark z).get HOLD_STAT.TIMEOUT = 1 := by
  show (z.put HOLD_STAT.TIMEOUT 1).get HOLD_STAT.TIMEOUT = 1
  rw [State.get_put_same _ _ _ (by decide) (by decide)]; rfl

theorem saveMark_keeps (z : State) : z.KeepsBits (saveMark z) [HOLD_STAT.TIMEOUT] := by
  have : z.KeepsBits (z.put HOLD_STAT.TIMEOUT 1) [HOLD_STAT.TIMEOUT] := State.KeepsBits.put (State.KeepsBits.refl z) _ _
  exact this.of_regs rfl

theorem saveRaise_ts (w : State) : (saveRaise w).ts = w.ts := by unfold saveRaise; split <;> rfl
theorem saveRaise_regs (w : State) : (saveRaise w).regs = w.regs := by unfold saveRaise; split <;> rfl
theorem saveRaise_pst (w : State) : (saveRaise w).pst = w.pst := by unfold saveRaise; split <;> rfl
theorem saveRaise_done {w : State} (h0 : w.hold.saveDue = true) (h1 : w.locked = true) (h2 : w.get TIM_STAT.CTRL_GOOD = 1) (h3 : w.rst.inst = false) : (saveRaise w).hold.saveDue = false ∧ (saveRaise w).cbse.pulses = w.cbse.pulses ++ [27] := by
  rw [saveRaise, if_pos ⟨h0, h1, by rw [State.bit, h2]; rfl, by rw [h3]; rfl⟩]; exact ⟨rfl, rfl⟩

theorem permits_adv {s : State} {r a v} (h : s.Permits r a v) (e : Dword) : (s.advanceTo e).Permits r a v := by rw [advanceTo_eq]; exact h
theorem State.running_of {s : State} (h : s.rst.inst = false) (k : State → State) : s.running k = k s := by
  rw [State.running, if_neg (by simp [h])]

theorem putCellState_active (c : Nat) (s : State) : putCellState c cACTIVE s = s.put (CELL_STAT.STATE c) cACTIVE := rfl
theorem putCellState_standby (c : Nat) (s : State) : putCellState c cSTANDBY s =
    (((s.put (CELL_STAT.HYS_LO c) 0).put (CELL_STAT.HYS_HI c) 0).put (CELL_STAT.ILIM c) 0).put (CELL_STAT.STATE c) cSTANDBY := rfl

theorem putCellState_uncoupled (c : Nat) (s : State) : putCellState c cUNCOUPLED s =
    (((s.put (CELL_STAT.HYS_LO c) 0).put (CELL_STAT.HYS_HI c) 0).put (CELL_STAT.ILIM c) 0).put (CELL_STAT.STATE c) cUNCOUPLED := rfl

theorem putCellState_test (c : Nat) (s : State) : putCellState c cTEST s =
    (readingsEnd c (((s.put (CELL_STAT.HYS_LO c) 0).put (CELL_STAT.HYS_HI c) 0).put (CELL_STAT.ILIM c) 0)).put (CELL_STAT.STATE c) cTEST := rfl

theorem putCellState_parked (c : Nat) (s : State) : putCellState c cPARKED s =
    (readingsEnd c (((s.put (CELL_STAT.HYS_LO c) 0).put (CELL_STAT.HYS_HI c) 0).put (CELL_STAT.ILIM c) 0)).put (CELL_STAT.STATE c) cPARKED := rfl

theorem chid_setChid_same (s : State) (c : Nat) (h : CellHid) : (s.setChid c h).chid c = h := by
  unfold State.setChid State.chid; rw [mapGet_mapSet_same]

theorem cellState_regs {s t : State} (h : t.regs = s.regs) (c : Nat) : t.cellState c = s.cellState c := by
  unfold State.cellState State.get; rw [State.rd_congr _ _ _ h]

theorem cellState_setChid (s : State) (c d : Nat) (h : CellHid) : (s.setChid c h).cellState d = s.cellState d := rfl
theorem chid_undoKeep_pre (s : State) (c k : Nat) : ((undoKeep c k s).chid c).pre = (s.chid c).pre := by
  unfold undoKeep; dsimp only; rw [chid_setChid_same]

theorem chid_undoKeep_entry (s : State) (c k : Nat) : ((undoKeep c k s).chid c).entry = (s.chid c).entry := by
  unfold undoKeep; dsimp only; rw [chid_setChid_same]

theorem undoKeep_regs (s : State) (c k : Nat) : (undoKeep c k s).regs = s.regs := rfl
theorem State.KeepsBits.trans {u v w : State} {fs : List Fld} (h : State.KeepsBits u v fs) (h' : State.KeepsBits v w fs) : State.KeepsBits u w fs :=
  fun a i hi => (h' a i hi).trans (h a i hi)

theorem undoKeep_rd (s : State) (c k a : Nat) : (undoKeep c k s).rd a = s.rd a := State.rd_congr _ _ _ (undoKeep_regs s c k)
theorem chid_put (s : State) (f : Fld) (v c : Nat) : (s.put f v).chid c = s.chid c := (rfl)
theorem chid_ring (s : State) (k o c : Nat) : (s.ring k o).chid c = s.chid c := (rfl)
theorem smbDo_of {s : State} {k : State → State} (h : s.rst.por = false) : smbDo k s = k s := by unfold smbDo; rw [h]; rfl
theorem frame_intro {u t : State} {fs gs : List Fld} (h : State.KeepsBits u t fs) (hs : ∀ f ∈ fs, f ∈ gs) (he : { t with regs := u.regs } = u) : State.Frame u t gs := ⟨h.mono hs, he⟩

theorem keeps_regs_eq {u t : State} (h : t.regs = u.regs) : State.KeepsBits u t [] := fun a i _ => by rw [State.rd_congr u t a h]
theorem rhid_setRhid_same (s : State) (c : Nat) (h : RgnHid) : (s.setRhid c h).rhid c = h := by
  unfold State.setRhid State.rhid; rw [mapGet_mapSet_same]

theorem rhid_adv (s : State) (e : Dword) (n : Nat) : (s.advanceTo e).rhid n = s.rhid n := by simp [State.rhid]
theorem chid_adv (s : State) (e : Dword) (n : Nat) : (s.advanceTo e).chid n = s.chid n := by simp [State.chid]
theorem phid_adv (s : State) (e : Dword) (n : Nat) : (s.advanceTo e).phid n = s.phid n := by simp [State.phid]
theorem adv_regs (s : State) (e : Dword) : (s.advanceTo e).regs = s.regs := State.advanceTo_regs s e
theorem epRole_adv (s : State) (e : Dword) (x : Nat) : (s.advanceTo e).epRole x = s.epRole x := by
  unfold State.epRole State.inst State.get
  rw [advanceTo_efuse, State.rd_congr _ _ _ (adv_regs s e)]

theorem cslot_adv (s : State) (e : Dword) (x : Nat) : (s.advanceTo e).cslot x = s.cslot x := by simp [State.cslot]
theorem cep_adv (s : State) (e : Dword) (x : Nat) : (s.advanceTo e).cep x = s.cep x := by simp [State.cep]
theorem adv_keeps (s : State) (e : Dword) : s.KeepsBits (s.advanceTo e) [] := keeps_regs_eq (State.advanceTo_regs _ _)
theorem yutre_accepts {s : State} {m : YMsg} {op : Nat} (h : s.Accepts m op) (body : State → State) : (body s).Replied m op (yutre m op body s) := by
  obtain ⟨h1, h2, h3, h4, h5, h6, h7, h8⟩ := h
  unfold State.Replied yutre
  rw [h1]
  have hx : ∀ x y : State, (if (!true) = true then x else y) = y := fun _ _ => rfl
  rw [hx]
  have ha : (match s.lastYutre m with | some e => if e.seq = m.sq.toNat then some e.reply else none | none => none) = none := by
    cases hl : s.lastYutre m with
    | none => rfl
    | some e => dsimp only; rw [if_neg (h2 e hl)]
  dsimp only
  have hm : (if m.vmaj ≠ 3 then s.reply stVERSION [] else if 56 < m.len.toNat ∨ 8 ≤ m.flags.toNat ∨ m.flags.toNat % 2 = 1 then s.reply stBADPARAM []
      else if (!definedOpcode op) = true then s.reply stBADOPCODE [] else if (!s.permits m op) = true then s.reply stDENIED [] else body s) = body s := by
    rw [if_neg (by simp [h3]), if_neg (by omega), if_neg (by rw [h7]; decide), if_neg (by rw [h8]; decide)]
  rw [hm]
  split
  · rename_i ws hw
    have := hw.symm.trans ha
    exact absurd this (by simp)
  · rfl

theorem State.Replied.of_eq {u v : State} {m op t} (h : u.Replied m op t) (e : u = v) : v.Replied m op t := e ▸ h
theorem State.Replied.regs {u : State} {m op t} (h : u.Replied m op t) : t.regs = u.regs := by rw [h]

end Sys2Proof.Machine
end

