-- ==== Sys2Proof/Laws/Keeps.lean ====
section
/-! SUPPORT. Laws/Keeps.lean: what every operation of the machine keeps, and how the relation passes through writes,
updates, choices and loops. Laws/KeepsSea.lean, KeepsPolicy.lean and KeepsCommands.lean say it once per operation. -/

namespace Sys2Proof.Machine

/-- From u to t the canonical forms are kept, the queue is as it was, eFuses are only blown (SVN fuses upwards), and no free
value is drawn twice. -/
structure Keeps (u t : State) : Prop where
  regs : u.regsWf → t.regsWf
  ram : u.ramWf → t.ramWf
  pending : t.pending = u.pending
  efuse : { t.efuse with fused := u.efuse.fused } = u.efuse
  fused : u.efuse.fused ≤ t.efuse.fused
  free : u.freeCtr ≤ t.freeCtr

theorem Keeps.refl (s : State) : Keeps s s := ⟨id, id, rfl, rfl, le_refl _, le_refl _⟩

theorem wr_keeps {u s : State} (h : Keeps u s) (a : Nat) (w : Word) : Keeps u (s.wr a w) :=
  ⟨fun x => State.wr_wf (h.regs x) a w, h.ram, h.pending, h.efuse, h.fused, h.free⟩

theorem put_keeps {u s : State} (h : Keeps u s) (f : Fld) (v : Nat) : Keeps u (s.put f v) := wr_keeps h _ _

theorem ite_keeps {u a b : State} {c : Prop} [Decidable c] (ha : Keeps u a) (hb : Keeps u b) :
    Keeps u (if c then a else b) := by split <;> assumption

theorem each_keeps {α : Type} {u s : State} (h : Keeps u s) (l : List α) (f : State → α → State)
    (hf : ∀ s x, Keeps u s → Keeps u (f s x)) : Keeps u (s.each l f) := by
  unfold State.each
  induction l generalizing s with
  | nil => exact h
  | cons x l ih => exact ih (hf _ _ h)

theorem snd_keeps {α : Type} {u t : State} {p : α × State} {a : α} (hp : p = (a, t)) (h : Keeps u p.2) : Keeps u t := by
  subst hp; exact h

theorem snd3_keeps {α β : Type} {u t : State} {p : α × β × State} {a : α} {b : β} (hp : p = (a, b, t))
    (h : Keeps u p.2.2) : Keeps u t := by
  subst hp; exact h

/-- Every other field may change. -/
theorem upd_keeps {u s : State} (h : Keeps u s) (ts latch rdata tim sea cell rgn cfg ph xph loop lpe trc ttb odr skid tndr pwr pwrRgn wblGrp cplr cplrEp cplrSlot sns snsConv snsComp thmSensor thmGroup thm cbse tlm fw core cache yutre pst smb mch rst hold out) :
    Keeps u (State.mk s.regs ts s.efuse latch rdata s.freeCtr tim sea cell rgn cfg ph xph loop lpe trc ttb odr skid tndr pwr pwrRgn wblGrp cplr cplrEp cplrSlot sns snsConv snsComp thmSensor thmGroup thm cbse tlm fw core cache s.ram yutre pst smb mch rst hold out s.pending) :=
  ⟨h.regs, h.ram, h.pending, h.efuse, h.fused, h.free⟩

/-- The memories may change to another canonical form. -/
theorem updRam_keeps {u s : State} (h : Keeps u s) (ram) (hm : s.ramWf → mapWf (fun _ => (0 : Byte)) ram = true)
    (ts latch rdata tim sea cell rgn cfg ph xph loop lpe trc ttb odr skid tndr pwr pwrRgn wblGrp cplr cplrEp cplrSlot sns snsConv snsComp thmSensor thmGroup thm cbse tlm fw core cache yutre pst smb mch rst hold out) :
    Keeps u (State.mk s.regs ts s.efuse latch rdata s.freeCtr tim sea cell rgn cfg ph xph loop lpe trc ttb odr skid tndr pwr pwrRgn wblGrp cplr cplrEp cplrSlot sns snsConv snsComp thmSensor thmGroup thm cbse tlm fw core cache ram yutre pst smb mch rst hold out s.pending) :=
  ⟨h.regs, fun x => hm (h.ram x), h.pending, h.efuse, h.fused, h.free⟩


theorem fold3_keeps {α β γ : Type} {u : State} {p : α × β × State} (h : Keeps u p.2.2) (l : List γ)
    (f : α × β × State → γ → α × β × State) (hf : ∀ a x, Keeps u a.2.2 → Keeps u (f a x).2.2) :
    Keeps u (l.foldl f p).2.2 := by
  induction l generalizing p with
  | nil => exact h
  | cons x l ih => exact ih (hf _ _ h)

/-- The SVN fuses may be blown further. -/
theorem fuse_keeps {u s : State} (h : Keeps u s) (n : Nat) (hn : s.efuse.fused ≤ n) :
    Keeps u { s with efuse := { s.efuse with fused := n } } :=
  ⟨h.regs, h.ram, h.pending, h.efuse, le_trans h.fused hn, h.free⟩

theorem fst_keeps {α : Type} {u t : State} {p : State × α} {a : α} (hp : p = (t, a)) (h : Keeps u p.1) : Keeps u t := by
  subst hp; exact h

theorem fold1_keeps {α γ : Type} {u : State} {p : State × α} (h : Keeps u p.1) (l : List γ)
    (f : State × α → γ → State × α) (hf : ∀ a x, Keeps u a.1 → Keeps u (f a x).1) : Keeps u (l.foldl f p).1 := by
  induction l generalizing p with
  | nil => exact h
  | cons x l ih => exact ih (hf _ _ h)

theorem fold2_keeps {α γ : Type} {u : State} {p : α × State} (h : Keeps u p.2) (l : List γ)
    (f : α × State → γ → α × State) (hf : ∀ a x, Keeps u a.2 → Keeps u (f a x).2) : Keeps u (l.foldl f p).2 := by
  induction l generalizing p with
  | nil => exact h
  | cons x l ih => exact ih (hf _ _ h)

end Sys2Proof.Machine
end

