-- ==== Sys2Proof/Laws/KeepsSea.lean ====
section
/-! SUPPORT. Laws/KeepsSea.lean: what the shared operations of the window, the cells, the regions, Skid, the front stage and the loops keep. -/

namespace Sys2Proof.Machine

/-! ### Ops -/

theorem State.putB_keeps {u₀ s : State} (hk : Keeps u₀ s) (f : Fld) (b : Bool) :
    Keeps u₀ (State.putB s f b) := by
  unfold State.putB
  with_reducible repeat' first | assumption | apply put_keeps

theorem State.putI_keeps {u₀ s : State} (hk : Keeps u₀ s) (f : Fld) (v : Int) :
    Keeps u₀ (State.putI s f v) := by
  unfold State.putI
  with_reducible repeat' first | assumption | apply put_keeps

theorem State.addSat_keeps {u₀ s : State} (hk : Keeps u₀ s) (f : Fld) (k : Nat) :
    Keeps u₀ (State.addSat s f k) := by
  unfold State.addSat
  with_reducible repeat' first | assumption | apply put_keeps

theorem State.incSat_keeps {u₀ s : State} (hk : Keeps u₀ s) (f : Fld) :
    Keeps u₀ (State.incSat s f) := by
  unfold State.incSat
  with_reducible repeat' first | assumption | apply State.addSat_keeps

theorem State.addWrap_keeps {u₀ s : State} (hk : Keeps u₀ s) (f : Fld) (k : Nat) :
    Keeps u₀ (State.addWrap s f k) := by
  unfold State.addWrap
  with_reducible repeat' first | assumption | apply put_keeps

theorem State.keepMax_keeps {u₀ s : State} (hk : Keeps u₀ s) (f : Fld) (v : Nat) :
    Keeps u₀ (State.keepMax s f v) := by
  unfold State.keepMax
  with_reducible repeat' first | assumption | apply put_keeps | apply wr_keeps | apply ite_keeps

theorem State.keepMaxI_keeps {u₀ s : State} (hk : Keeps u₀ s) (f : Fld) (v : Int) :
    Keeps u₀ (State.keepMaxI s f v) := by
  unfold State.keepMaxI
  with_reducible repeat' first
    | assumption | apply State.putI_keeps | apply put_keeps | apply wr_keeps | apply ite_keeps

theorem State.wrN_keeps {u₀ s : State} (hk : Keeps u₀ s) (a : Nat) (v : Nat) :
    Keeps u₀ (State.wrN s a v) := by
  unfold State.wrN
  with_reducible repeat' first | assumption | apply put_keeps | apply wr_keeps

theorem State.wrI_keeps {u₀ s : State} (hk : Keeps u₀ s) (a : Nat) (v : Int) :
    Keeps u₀ (State.wrI s a v) := by
  unfold State.wrI
  with_reducible repeat' first | assumption | apply put_keeps | apply wr_keeps

theorem State.put64_keeps {u₀ s : State} (hk : Keeps u₀ s) (a : Nat) (v : Nat) :
    Keeps u₀ (State.put64 s a v) := by
  unfold State.put64
  with_reducible repeat' first | assumption | apply State.wrN_keeps

theorem State.put64At_keeps {u₀ s : State} (hk : Keeps u₀ s) (lo hi : Nat) (v : Nat) :
    Keeps u₀ (State.put64At s lo hi v) := by
  unfold State.put64At
  with_reducible repeat' first | assumption | apply State.wrN_keeps

theorem State.newCycle_keeps {u₀ s : State} (hk : Keeps u₀ s) :
    Keeps u₀ (State.newCycle s) := by
  unfold State.newCycle
  with_reducible repeat' first
    | assumption | apply put_keeps | apply wr_keeps | apply ite_keeps | refine each_keeps ?_ _ _ (fun _ _ _ => ?_)
    | (refine snd_keeps (by assumption) ?_) | (refine snd3_keeps (by assumption) ?_)
    | fail_if_no_progress apply upd_keeps

theorem State.passEdges_keeps {u₀ s : State} (hk : Keeps u₀ s) (n : Nat) :
    Keeps u₀ (State.passEdges s n) := by
  unfold State.passEdges
  with_reducible repeat' first
    | assumption | apply State.newCycle_keeps | apply put_keeps | apply wr_keeps | apply ite_keeps
    | refine each_keeps ?_ _ _ (fun _ _ _ => ?_) | (refine snd_keeps (by assumption) ?_)
    | (refine snd3_keeps (by assumption) ?_) | fail_if_no_progress apply upd_keeps

theorem State.passCoarse_keeps {u₀ s : State} (hk : Keeps u₀ s) (d : Nat) :
    Keeps u₀ (State.passCoarse s d) := by
  unfold State.passCoarse
  with_reducible repeat' first
    | assumption | apply State.newCycle_keeps | apply put_keeps | apply wr_keeps | apply ite_keeps
    | refine each_keeps ?_ _ _ (fun _ _ _ => ?_) | (refine snd_keeps (by assumption) ?_)
    | (refine snd3_keeps (by assumption) ?_) | fail_if_no_progress apply upd_keeps

theorem State.advanceTo_keeps {u₀ s : State} (hk : Keeps u₀ s) (t : Dword) :
    Keeps u₀ (State.advanceTo s t) := by
  unfold State.advanceTo
  with_reducible repeat' first
    | assumption | apply State.passEdges_keeps | apply State.passCoarse_keeps | apply put_keeps | apply wr_keeps
    | apply ite_keeps

theorem State.running_keeps {u₀ s : State} (hk : Keeps u₀ s) (k : State → State) (h_k : ∀ s, Keeps u₀ s → Keeps u₀ (k s)) :
    Keeps u₀ (State.running s k) := by
  unfold State.running
  with_reducible repeat' first | assumption | apply h_k | apply put_keeps | apply wr_keeps | apply ite_keeps

theorem State.drawFree_keeps {u s : State} (h : Keeps u s) : Keeps u s.drawFree.2 :=
  ⟨h.regs, h.ram, h.pending, h.efuse, h.fused, Nat.le_succ_of_le h.free⟩

theorem State.roundOpen_keeps {u₀ s : State} (hk : Keeps u₀ s) (a : Int) (b : Nat) :
    Keeps u₀ (State.roundOpen s a b).2 := by
  unfold State.roundOpen
  with_reducible repeat' first
    | assumption | apply State.drawFree_keeps | apply put_keeps | apply wr_keeps | apply ite_keeps
    | refine each_keeps ?_ _ _ (fun _ _ _ => ?_) | (refine snd_keeps (by assumption) ?_)
    | (refine snd3_keeps (by assumption) ?_) | fail_if_no_progress apply upd_keeps | split | dsimp only

theorem State.putOr_keeps {u₀ s : State} (hk : Keeps u₀ s) (f : Fld) (v : Int) :
    Keeps u₀ (State.putOr s f v) := by
  unfold State.putOr
  with_reducible repeat' first
    | assumption | apply State.drawFree_keeps | apply put_keeps | apply wr_keeps | apply ite_keeps

theorem State.putIOr_keeps {u₀ s : State} (hk : Keeps u₀ s) (f : Fld) (v : Int) :
    Keeps u₀ (State.putIOr s f v) := by
  unfold State.putIOr
  with_reducible repeat' first
    | assumption | apply State.putI_keeps | apply State.drawFree_keeps | apply put_keeps | apply wr_keeps
    | apply ite_keeps

theorem State.pulse_keeps {u₀ s : State} (hk : Keeps u₀ s) (b : Nat) :
    Keeps u₀ (State.pulse s b) := by
  unfold State.pulse
  with_reducible repeat' first
    | assumption | apply put_keeps | apply wr_keeps | apply ite_keeps | refine each_keeps ?_ _ _ (fun _ _ _ => ?_)
    | (refine snd_keeps (by assumption) ?_) | (refine snd3_keeps (by assumption) ?_)
    | fail_if_no_progress apply upd_keeps

theorem State.ring_keeps {u₀ s : State} (hk : Keeps u₀ s) (k o : Nat) :
    Keeps u₀ (State.ring s k o) := by
  unfold State.ring
  with_reducible repeat' first
    | assumption | apply put_keeps | apply wr_keeps | apply ite_keeps | refine each_keeps ?_ _ _ (fun _ _ _ => ?_)
    | (refine snd_keeps (by assumption) ?_) | (refine snd3_keeps (by assumption) ?_)
    | fail_if_no_progress apply upd_keeps

theorem State.c0Count_keeps {u₀ s : State} (hk : Keeps u₀ s) (n : Nat) :
    Keeps u₀ (State.c0Count s n) := by
  unfold State.c0Count
  with_reducible repeat' first
    | assumption | apply State.pulse_keeps | apply put_keeps | apply wr_keeps | apply ite_keeps

theorem State.c0Touch_keeps {u₀ s : State} (hk : Keeps u₀ s) :
    Keeps u₀ (State.c0Touch s) := by
  unfold State.c0Touch
  with_reducible repeat' first | assumption | apply State.c0Count_keeps

theorem State.c0Enter_keeps {u₀ s : State} (hk : Keeps u₀ s) (n : Nat) :
    Keeps u₀ (State.c0Enter s n) := by
  unfold State.c0Enter
  with_reducible repeat' first
    | assumption | apply State.c0Count_keeps | apply put_keeps | apply wr_keeps | apply ite_keeps
    | refine each_keeps ?_ _ _ (fun _ _ _ => ?_) | (refine snd_keeps (by assumption) ?_)
    | (refine snd3_keeps (by assumption) ?_) | fail_if_no_progress apply upd_keeps

theorem State.c0Leave_keeps {u₀ s : State} (hk : Keeps u₀ s) (n : Nat) :
    Keeps u₀ (State.c0Leave s n) := by
  unfold State.c0Leave
  with_reducible repeat' first
    | assumption | apply put_keeps | apply wr_keeps | apply ite_keeps | refine each_keeps ?_ _ _ (fun _ _ _ => ?_)
    | (refine snd_keeps (by assumption) ?_) | (refine snd3_keeps (by assumption) ?_)
    | fail_if_no_progress apply upd_keeps

theorem State.reply_keeps {u₀ s : State} (hk : Keeps u₀ s) (st : Nat) (ws : List Word) :
    Keeps u₀ (State.reply s st ws) := by
  unfold State.reply
  with_reducible repeat' first
    | assumption | apply put_keeps | apply wr_keeps | apply ite_keeps | refine each_keeps ?_ _ _ (fun _ _ _ => ?_)
    | (refine snd_keeps (by assumption) ?_) | (refine snd3_keeps (by assumption) ?_)
    | fail_if_no_progress apply upd_keeps

theorem State.answer_keeps {u₀ s : State} (hk : Keeps u₀ s) (ws : List Word) :
    Keeps u₀ (State.answer s ws) := by
  unfold State.answer
  with_reducible repeat' first
    | assumption | apply put_keeps | apply wr_keeps | apply ite_keeps | refine each_keeps ?_ _ _ (fun _ _ _ => ?_)
    | (refine snd_keeps (by assumption) ?_) | (refine snd3_keeps (by assumption) ?_)
    | fail_if_no_progress apply upd_keeps

theorem State.hostWrite_keeps {u₀ s : State} (hk : Keeps u₀ s) (addr : Nat) (ws : List Word) :
    Keeps u₀ (State.hostWrite s addr ws) := by
  unfold State.hostWrite
  with_reducible repeat' first
    | assumption | apply put_keeps | apply wr_keeps | apply ite_keeps | refine each_keeps ?_ _ _ (fun _ _ _ => ?_)
    | (refine snd_keeps (by assumption) ?_) | (refine snd3_keeps (by assumption) ?_)
    | fail_if_no_progress apply upd_keeps

theorem storeReg_keeps {u₀ s : State} (hk : Keeps u₀ s) (a : Nat) (v : Word) :
    Keeps u₀ (storeReg a v s) := by
  unfold storeReg
  with_reducible repeat' first
    | assumption | apply put_keeps | apply wr_keeps | apply ite_keeps | refine each_keeps ?_ _ _ (fun _ _ _ => ?_)
    | (refine snd_keeps (by assumption) ?_) | (refine snd3_keeps (by assumption) ?_)
    | fail_if_no_progress apply upd_keeps | split

theorem recordDenied_keeps {u₀ s : State} (hk : Keeps u₀ s) (req : Requester) (a : Nat) :
    Keeps u₀ (recordDenied req a s) := by
  unfold recordDenied
  with_reducible repeat' first | assumption | apply put_keeps | apply wr_keeps | apply ite_keeps

theorem gated_keeps {u₀ s : State} (hk : Keeps u₀ s) (req : Requester) (a : Nat) (v : Word) (h : Word → State → State) (h_h : ∀ w s, Keeps u₀ s → Keeps u₀ (h w s)) :
    Keeps u₀ (gated req a v h s) := by
  unfold gated
  with_reducible repeat' first
    | assumption | apply recordDenied_keeps | apply h_h | apply put_keeps | apply wr_keeps | apply ite_keeps
    | refine each_keeps ?_ _ _ (fun _ _ _ => ?_) | (refine snd_keeps (by assumption) ?_)
    | (refine snd3_keeps (by assumption) ?_) | fail_if_no_progress apply upd_keeps | split

theorem memUe_keeps {u₀ s : State} (hk : Keeps u₀ s) (m o : Nat) :
    Keeps u₀ (memUe m o s) := by
  unfold memUe
  with_reducible repeat' first
    | assumption | apply State.incSat_keeps | apply State.wrN_keeps | apply State.pulse_keeps | apply put_keeps
    | apply wr_keeps | apply ite_keeps | refine each_keeps ?_ _ _ (fun _ _ _ => ?_)
    | (refine snd_keeps (by assumption) ?_) | (refine snd3_keeps (by assumption) ?_)
    | fail_if_no_progress apply upd_keeps

theorem memCe_keeps {u₀ s : State} (hk : Keeps u₀ s) (m o : Nat) :
    Keeps u₀ (memCe m o s) := by
  unfold memCe
  with_reducible repeat' first
    | assumption | apply State.incSat_keeps | apply State.wrN_keeps | apply State.pulse_keeps

theorem memWritten_keeps {u₀ s : State} (hk : Keeps u₀ s) (m base : Nat) (os : List Nat) :
    Keeps u₀ (memWritten m base os s) := by
  unfold memWritten
  with_reducible repeat' first
    | assumption | apply memUe_keeps | apply State.drawFree_keeps | apply put_keeps | apply wr_keeps | apply ite_keeps
    | refine each_keeps ?_ _ _ (fun _ _ _ => ?_) | (refine snd_keeps (by assumption) ?_)
    | (refine snd3_keeps (by assumption) ?_) | fail_if_no_progress apply upd_keeps

theorem latchHi_keeps {u₀ s : State} (hk : Keeps u₀ s) (req : Requester) (hi : Nat) (w : Word) :
    Keeps u₀ (latchHi req hi w s) := by
  unfold latchHi
  with_reducible repeat' first
    | assumption | apply put_keeps | apply wr_keeps | apply ite_keeps | refine each_keeps ?_ _ _ (fun _ _ _ => ?_)
    | (refine snd_keeps (by assumption) ?_) | (refine snd3_keeps (by assumption) ?_)
    | fail_if_no_progress apply upd_keeps

theorem clearRC_keeps {u₀ s : State} (hk : Keeps u₀ s) (a : Nat) :
    Keeps u₀ (clearRC a s) := by
  unfold clearRC
  with_reducible repeat' first
    | assumption | apply put_keeps | apply wr_keeps | apply ite_keeps | refine each_keeps ?_ _ _ (fun _ _ _ => ?_)
    | (refine snd_keeps (by assumption) ?_) | (refine snd3_keeps (by assumption) ?_)
    | fail_if_no_progress apply upd_keeps | split

theorem resetWindow_keeps {u s : State} (h : Keeps u s) : Keeps u (resetWindow s) :=
  ⟨fun x => mapWf_filter regReset _ _ (h.regs x), h.ram, h.pending, h.efuse, h.fused, h.free⟩

theorem loadEfuse_keeps {u₀ s : State} (hk : Keeps u₀ s) :
    Keeps u₀ (loadEfuse s) := by
  unfold loadEfuse
  with_reducible repeat' first
    | assumption | apply put_keeps | apply wr_keeps | apply ite_keeps | refine each_keeps ?_ _ _ (fun _ _ _ => ?_)

/-! ### CellOps -/

theorem setRegionBit_keeps {u₀ s : State} (hk : Keeps u₀ s) (base n : Nat) :
    Keeps u₀ (setRegionBit base n s) := by
  unfold setRegionBit
  with_reducible repeat' first | assumption | apply State.wrN_keeps

theorem State.setChid_keeps {u₀ s : State} (hk : Keeps u₀ s) (c : Nat) (h : CellHid) :
    Keeps u₀ (State.setChid s c h) := by
  unfold State.setChid
  with_reducible repeat' first
    | assumption | apply put_keeps | apply wr_keeps | apply ite_keeps | refine each_keeps ?_ _ _ (fun _ _ _ => ?_)
    | (refine snd_keeps (by assumption) ?_) | (refine snd3_keeps (by assumption) ?_)
    | fail_if_no_progress apply upd_keeps

theorem State.setRhid_keeps {u₀ s : State} (hk : Keeps u₀ s) (n : Nat) (h : RgnHid) :
    Keeps u₀ (State.setRhid s n h) := by
  unfold State.setRhid
  with_reducible repeat' first
    | assumption | apply put_keeps | apply wr_keeps | apply ite_keeps | refine each_keeps ?_ _ _ (fun _ _ _ => ?_)
    | (refine snd_keeps (by assumption) ?_) | (refine snd3_keeps (by assumption) ?_)
    | fail_if_no_progress apply upd_keeps

theorem tieSync_keeps {u₀ s : State} (hk : Keeps u₀ s) (c : Nat) :
    Keeps u₀ (tieSync c s) := by
  unfold tieSync
  with_reducible repeat' first
    | assumption | apply put_keeps | apply wr_keeps | apply ite_keeps | refine each_keeps ?_ _ _ (fun _ _ _ => ?_)
    | (refine snd_keeps (by assumption) ?_) | (refine snd3_keeps (by assumption) ?_)
    | fail_if_no_progress apply upd_keeps

theorem cellCmdDone_keeps {u₀ s : State} (hk : Keeps u₀ s) (c res : Nat) :
    Keeps u₀ (cellCmdDone c res s) := by
  unfold cellCmdDone
  with_reducible repeat' first | assumption | apply State.setChid_keeps | apply State.ring_keeps | apply put_keeps

theorem cellCmdAbandon_keeps {u₀ s : State} (hk : Keeps u₀ s) (c : Nat) :
    Keeps u₀ (cellCmdAbandon c s) := by
  unfold cellCmdAbandon
  with_reducible repeat' first
    | assumption | apply cellCmdDone_keeps | apply put_keeps | apply wr_keeps | apply ite_keeps

theorem prechargeAbandon_keeps {u₀ s : State} (hk : Keeps u₀ s) (c : Nat) :
    Keeps u₀ (prechargeAbandon c s) := by
  unfold prechargeAbandon
  with_reducible repeat' first
    | assumption | apply cellCmdAbandon_keeps | apply State.setChid_keeps | apply put_keeps | apply wr_keeps
    | apply ite_keeps | refine each_keeps ?_ _ _ (fun _ _ _ => ?_) | (refine snd_keeps (by assumption) ?_)
    | (refine snd3_keeps (by assumption) ?_) | fail_if_no_progress apply upd_keeps | split

theorem prechargeStart_keeps {u₀ s : State} (hk : Keeps u₀ s) (why : Precharge) (c : Nat) :
    Keeps u₀ (prechargeStart why c s) := by
  unfold prechargeStart
  with_reducible repeat' first
    | assumption | apply State.setChid_keeps | apply put_keeps | apply wr_keeps | apply ite_keeps

theorem testFail_keeps {u₀ s : State} (hk : Keeps u₀ s) (c : Nat) :
    Keeps u₀ (testFail c s) := by
  unfold testFail
  with_reducible repeat' first | assumption | apply put_keeps | apply wr_keeps | apply ite_keeps

theorem readingsEnd_keeps {u₀ s : State} (hk : Keeps u₀ s) (c : Nat) :
    Keeps u₀ (readingsEnd c s) := by
  unfold readingsEnd
  with_reducible repeat' first | assumption | apply put_keeps

theorem putCellState_keeps {u₀ s : State} (hk : Keeps u₀ s) (c st : Nat) :
    Keeps u₀ (putCellState c st s) := by
  unfold putCellState
  with_reducible repeat' first
    | assumption | apply readingsEnd_keeps | apply put_keeps | apply wr_keeps | apply ite_keeps

theorem unpark_keeps {u₀ s : State} (hk : Keeps u₀ s) (c : Nat) :
    Keeps u₀ (unpark c s) := by
  unfold unpark
  with_reducible repeat' first
    | assumption | apply putCellState_keeps | apply put_keeps | apply wr_keeps | apply ite_keeps

theorem applyEntry_keeps {u₀ s : State} (hk : Keeps u₀ s) (c e : Nat) :
    Keeps u₀ (applyEntry c e s) := by
  unfold applyEntry
  with_reducible repeat' first
    | assumption | apply prechargeAbandon_keeps | apply tieSync_keeps | apply State.setChid_keeps
    | apply State.wrN_keeps | apply putCellState_keeps | apply unpark_keeps | apply put_keeps | apply wr_keeps
    | apply ite_keeps

theorem commitEntry_keeps {u₀ s : State} (hk : Keeps u₀ s) (c e : Nat) :
    Keeps u₀ (commitEntry c e s) := by
  unfold commitEntry
  with_reducible repeat' first
    | assumption | apply State.setChid_keeps | apply applyEntry_keeps | apply put_keeps | apply wr_keeps
    | apply ite_keeps

theorem settle_keeps {u₀ s : State} (hk : Keeps u₀ s) (c st : Nat) :
    Keeps u₀ (settle c st s) := by
  unfold settle
  with_reducible repeat' first
    | assumption | apply putCellState_keeps | apply applyEntry_keeps | apply unpark_keeps | apply put_keeps
    | apply wr_keeps | apply ite_keeps | refine each_keeps ?_ _ _ (fun _ _ _ => ?_)
    | (refine snd_keeps (by assumption) ?_) | (refine snd3_keeps (by assumption) ?_)
    | fail_if_no_progress apply upd_keeps | split | dsimp only

theorem releaseCell_keeps {u₀ s : State} (hk : Keeps u₀ s) (c : Nat) :
    Keeps u₀ (releaseCell c s) := by
  unfold releaseCell
  with_reducible repeat' first
    | assumption | apply settle_keeps | apply testFail_keeps | apply put_keeps | apply wr_keeps | apply ite_keeps

theorem releaseCells_keeps {u₀ s : State} (hk : Keeps u₀ s) (cs : List Nat) :
    Keeps u₀ (releaseCells cs s) := by
  unfold releaseCells
  with_reducible repeat' first
    | assumption | apply releaseCell_keeps | apply put_keeps | apply wr_keeps | apply ite_keeps
    | refine each_keeps ?_ _ _ (fun _ _ _ => ?_)

theorem selfcheckAbandon_keeps {u₀ s : State} (hk : Keeps u₀ s) (c : Nat) :
    Keeps u₀ (selfcheckAbandon c s) := by
  unfold selfcheckAbandon
  with_reducible repeat' first
    | assumption | apply cellCmdAbandon_keeps | apply put_keeps | apply wr_keeps | apply ite_keeps

theorem safeBegins_keeps {u₀ s : State} (hk : Keeps u₀ s) (cs : List Nat) :
    Keeps u₀ (safeBegins cs s) := by
  unfold safeBegins
  with_reducible repeat' first
    | assumption | apply selfcheckAbandon_keeps | apply prechargeAbandon_keeps | apply put_keeps | apply wr_keeps
    | apply ite_keeps | refine each_keeps ?_ _ _ (fun _ _ _ => ?_)

theorem takeTarget_keeps {u₀ s : State} (hk : Keeps u₀ s) (c : Nat) (g : Target) :
    Keeps u₀ (takeTarget c g s) := by
  unfold takeTarget
  with_reducible repeat' first | assumption | apply put_keeps

theorem deliverTarget_keeps {u₀ s : State} (hk : Keeps u₀ s) (c : Nat) (g : Target) :
    Keeps u₀ (deliverTarget c g s) := by
  unfold deliverTarget
  with_reducible repeat' first
    | assumption | apply State.setChid_keeps | apply takeTarget_keeps | apply put_keeps | apply wr_keeps
    | apply ite_keeps

theorem blendFrame_keeps {u₀ s : State} (hk : Keeps u₀ s) (c : Nat) :
    Keeps u₀ (blendFrame c s) := by
  unfold blendFrame
  with_reducible repeat' first | assumption | apply put_keeps | apply wr_keeps | apply ite_keeps

theorem limitReached_keeps {u₀ s : State} (hk : Keeps u₀ s) (c f : Nat) :
    Keeps u₀ (limitReached c f s) := by
  unfold limitReached
  with_reducible repeat' first
    | assumption | apply State.setChid_keeps | apply put_keeps | apply wr_keeps | apply ite_keeps
    | refine each_keeps ?_ _ _ (fun _ _ _ => ?_) | (refine snd_keeps (by assumption) ?_)
    | (refine snd3_keeps (by assumption) ?_) | fail_if_no_progress apply upd_keeps

theorem foldCheck_keeps {u₀ s : State} (hk : Keeps u₀ s) (c : Nat) :
    Keeps u₀ (foldCheck c s) := by
  unfold foldCheck
  with_reducible repeat' first
    | assumption | apply State.ring_keeps | apply put_keeps | apply wr_keeps | apply ite_keeps
    | refine each_keeps ?_ _ _ (fun _ _ _ => ?_) | (refine snd_keeps (by assumption) ?_)
    | (refine snd3_keeps (by assumption) ?_) | fail_if_no_progress apply upd_keeps

theorem ageTake_keeps {u₀ s : State} (hk : Keeps u₀ s) (k : Nat) :
    Keeps u₀ (ageTake k s) := by
  unfold ageTake
  with_reducible repeat' first
    | assumption | apply put_keeps | apply wr_keeps | apply ite_keeps | refine each_keeps ?_ _ _ (fun _ _ _ => ?_)
    | (refine snd_keeps (by assumption) ?_) | (refine snd3_keeps (by assumption) ?_)
    | fail_if_no_progress apply upd_keeps

theorem cellRun_keeps {u₀ s : State} (hk : Keeps u₀ s) (c n : Nat) :
    Keeps u₀ (cellRun c n s) := by
  unfold cellRun
  with_reducible repeat' first
    | assumption | apply foldCheck_keeps | apply State.setChid_keeps | apply put_keeps | apply wr_keeps
    | apply ite_keeps | refine each_keeps ?_ _ _ (fun _ _ _ => ?_) | (refine snd_keeps (by assumption) ?_)
    | (refine snd3_keeps (by assumption) ?_) | fail_if_no_progress apply upd_keeps

theorem seaTake_keeps {u₀ s : State} (hk : Keeps u₀ s) (k : Nat) :
    Keeps u₀ (seaTake k s) := by
  unfold seaTake
  with_reducible repeat' first
    | assumption | apply ageTake_keeps | apply cellRun_keeps | apply put_keeps | apply wr_keeps | apply ite_keeps
    | refine each_keeps ?_ _ _ (fun _ _ _ => ?_) | (refine snd_keeps (by assumption) ?_)
    | (refine snd3_keeps (by assumption) ?_) | fail_if_no_progress apply upd_keeps

theorem seaCatch_keeps {u₀ s : State} (hk : Keeps u₀ s) :
    Keeps u₀ (seaCatch s) := by
  unfold seaCatch
  with_reducible repeat' first | assumption | apply seaTake_keeps

theorem cellCurrent_keeps {u₀ s : State} (hk : Keeps u₀ s) (c : Nat) (i : Int) :
    Keeps u₀ (cellCurrent c i s) := by
  unfold cellCurrent
  with_reducible repeat' first
    | assumption | apply State.putI_keeps | apply State.keepMaxI_keeps | apply State.drawFree_keeps
    | apply limitReached_keeps | apply put_keeps | apply wr_keeps | apply ite_keeps

theorem sensorSample_keeps {u₀ s : State} (hk : Keeps u₀ s) (c j raw : Nat) :
    Keeps u₀ (sensorSample c j raw s) := by
  unfold sensorSample
  with_reducible repeat' first | assumption | apply State.putB_keeps | apply put_keeps

theorem cellRunPut_keeps {u₀ s : State} (hk : Keeps u₀ s) (c k : Nat) (holds anew : Bool) :
    Keeps u₀ (cellRunPut c k holds anew s) := by
  unfold cellRunPut
  with_reducible repeat' first | assumption | apply State.setChid_keeps

theorem sensorExclude_keeps {u₀ s : State} (hk : Keeps u₀ s) (c j cause : Nat) :
    Keeps u₀ (sensorExclude c j cause s) := by
  unfold sensorExclude
  with_reducible repeat' first | assumption | apply State.pulse_keeps | apply State.ring_keeps | apply put_keeps

theorem sensorChecks_keeps {u₀ s : State} (hk : Keeps u₀ s) (c : Nat) (moved : List Nat) :
    Keeps u₀ (sensorChecks c moved s) := by
  unfold sensorChecks
  with_reducible repeat' first
    | assumption | apply cellRunPut_keeps | apply sensorExclude_keeps | apply put_keeps | apply wr_keeps
    | apply ite_keeps | refine each_keeps ?_ _ _ (fun _ _ _ => ?_)

theorem currentRuns_keeps {u₀ s : State} (hk : Keeps u₀ s) (c : Nat) :
    Keeps u₀ (currentRuns c s) := by
  unfold currentRuns
  with_reducible repeat' first | assumption | apply cellRunPut_keeps

/-! ### TraceOps -/

theorem State.setTrcCh_keeps {u₀ s : State} (hk : Keeps u₀ s) (ch : Nat) (h : TrcCh) :
    Keeps u₀ (State.setTrcCh s ch h) := by
  unfold State.setTrcCh
  with_reducible repeat' first
    | assumption | apply put_keeps | apply wr_keeps | apply ite_keeps | refine each_keeps ?_ _ _ (fun _ _ _ => ?_)
    | (refine snd_keeps (by assumption) ?_) | (refine snd3_keeps (by assumption) ?_)
    | fail_if_no_progress apply upd_keeps

theorem traceExportEnd_keeps {u₀ s : State} (hk : Keeps u₀ s) (res : Nat) (runs : Bool) :
    Keeps u₀ (traceExportEnd res runs s) := by
  unfold traceExportEnd
  with_reducible repeat' first
    | assumption | apply State.ring_keeps | apply put_keeps | apply wr_keeps | apply ite_keeps

theorem traceExport_keeps {u₀ s : State} (hk : Keeps u₀ s) :
    Keeps u₀ (traceExport s) := by
  unfold traceExport
  with_reducible repeat' first
    | assumption | apply traceExportEnd_keeps | apply put_keeps | apply wr_keeps | apply ite_keeps
    | refine each_keeps ?_ _ _ (fun _ _ _ => ?_) | (refine snd_keeps (by assumption) ?_)
    | (refine snd3_keeps (by assumption) ?_) | fail_if_no_progress apply upd_keeps

theorem traceFinish_keeps {u₀ s : State} (hk : Keeps u₀ s) :
    Keeps u₀ (traceFinish s) := by
  unfold traceFinish
  with_reducible repeat' first
    | assumption | apply State.ring_keeps | apply traceExport_keeps | apply put_keeps | apply wr_keeps
    | apply ite_keeps

theorem traceTrigger_keeps {u₀ s : State} (hk : Keeps u₀ s) (cause : Nat) :
    Keeps u₀ (traceTrigger cause s) := by
  unfold traceTrigger
  with_reducible repeat' first
    | assumption | apply State.put64_keeps | apply State.setTrcCh_keeps | apply traceFinish_keeps
    | apply State.ring_keeps | apply put_keeps | apply wr_keeps | apply ite_keeps
    | refine each_keeps ?_ _ _ (fun _ _ _ => ?_)

theorem traceRecord_keeps {u₀ s : State} (hk : Keeps u₀ s) (ch : Nat) (v : Int) :
    Keeps u₀ (traceRecord ch v s) := by
  unfold traceRecord
  with_reducible repeat' first
    | assumption | apply State.wrI_keeps | apply State.wrN_keeps | apply memWritten_keeps | apply State.setTrcCh_keeps
    | apply traceTrigger_keeps | apply traceFinish_keeps | apply put_keeps | apply wr_keeps | apply ite_keeps

theorem traceOccasion_keeps {u₀ s : State} (hk : Keeps u₀ s) (ch : Nat) (v : Int) :
    Keeps u₀ (traceOccasion ch v s) := by
  unfold traceOccasion
  with_reducible repeat' first
    | assumption | apply State.setTrcCh_keeps | apply traceRecord_keeps | apply put_keeps | apply wr_keeps
    | apply ite_keeps

theorem traceSignal_keeps {u₀ s : State} (hk : Keeps u₀ s) (sig : Nat) (p : State → Nat → Bool) (v : Int) :
    Keeps u₀ (traceSignal sig p v s) := by
  unfold traceSignal
  with_reducible repeat' first
    | assumption | apply traceOccasion_keeps | apply put_keeps | apply wr_keeps | apply ite_keeps
    | refine each_keeps ?_ _ _ (fun _ _ _ => ?_)

theorem traceArm_keeps {u₀ s : State} (hk : Keeps u₀ s) :
    Keeps u₀ (traceArm s) := by
  unfold traceArm
  with_reducible repeat' first
    | assumption | apply put_keeps | apply wr_keeps | apply ite_keeps | refine each_keeps ?_ _ _ (fun _ _ _ => ?_)
    | (refine snd_keeps (by assumption) ?_) | (refine snd3_keeps (by assumption) ?_)
    | fail_if_no_progress apply upd_keeps

theorem softTrigger_keeps {u₀ s : State} (hk : Keeps u₀ s) :
    Keeps u₀ (softTrigger s) := by
  unfold softTrigger
  with_reducible repeat' first
    | assumption | apply traceTrigger_keeps | apply put_keeps | apply wr_keeps | apply ite_keeps

theorem trcCtrlWrite_keeps {u₀ s : State} (hk : Keeps u₀ s) (v : Word) :
    Keeps u₀ (trcCtrlWrite v s) := by
  unfold trcCtrlWrite
  with_reducible repeat' first
    | assumption | apply softTrigger_keeps | apply traceArm_keeps | apply put_keeps | apply wr_keeps | apply ite_keeps
    | refine each_keeps ?_ _ _ (fun _ _ _ => ?_) | (refine snd_keeps (by assumption) ?_)
    | (refine snd3_keeps (by assumption) ?_) | fail_if_no_progress apply upd_keeps

theorem trcPostWrite_keeps {u₀ s : State} (hk : Keeps u₀ s) (v : Word) :
    Keeps u₀ (trcPostWrite v s) := by
  unfold trcPostWrite
  with_reducible repeat' first | assumption | apply traceFinish_keeps | apply storeReg_keeps

theorem trcCfgWrite_keeps {u₀ s : State} (hk : Keeps u₀ s) (a : Nat) (v : Word) :
    Keeps u₀ (trcCfgWrite a v s) := by
  unfold trcCfgWrite
  with_reducible repeat' first
    | assumption | apply storeReg_keeps | apply put_keeps | apply wr_keeps | apply ite_keeps

/-! ### SkidOps -/

theorem State.setSkidHid_keeps {u₀ s : State} (hk : Keeps u₀ s) (n : Nat) (h : SkidHid) :
    Keeps u₀ (State.setSkidHid s n h) := by
  unfold State.setSkidHid
  with_reducible repeat' first
    | assumption | apply put_keeps | apply wr_keeps | apply ite_keeps | refine each_keeps ?_ _ _ (fun _ _ _ => ?_)
    | (refine snd_keeps (by assumption) ?_) | (refine snd3_keeps (by assumption) ?_)
    | fail_if_no_progress apply upd_keeps

theorem skidLevel_keeps {u₀ s : State} (hk : Keeps u₀ s) (n lv : Nat) :
    Keeps u₀ (skidLevel n lv s) := by
  unfold skidLevel
  with_reducible repeat' first
    | assumption | apply setRegionBit_keeps | apply State.ring_keeps | apply put_keeps | apply wr_keeps
    | apply ite_keeps

theorem skidCount_keeps {u₀ s : State} (hk : Keeps u₀ s) (past : Bool) (n k : Nat) :
    Keeps u₀ (skidCount past n k s) := by
  unfold skidCount
  with_reducible repeat' first
    | assumption | apply State.put64_keeps | apply State.setSkidHid_keeps | apply State.wrN_keeps | apply put_keeps
    | apply wr_keeps | apply ite_keeps

theorem skidLine_keeps {u₀ s : State} (hk : Keeps u₀ s) (n r ts : Nat) :
    Keeps u₀ (skidLine n r ts s) := by
  unfold skidLine
  with_reducible repeat' first
    | assumption | apply State.setSkidHid_keeps | apply State.keepMax_keeps | apply State.addWrap_keeps
    | apply State.wrN_keeps | apply traceTrigger_keeps | apply put_keeps | apply wr_keeps | apply ite_keeps

theorem skidPass_keeps {u₀ s : State} (hk : Keeps u₀ s) (past : Bool) (n low upto : Nat) :
    Keeps u₀ (skidPass past n low upto s) := by
  unfold skidPass
  with_reducible repeat' first
    | assumption | apply State.setSkidHid_keeps | apply skidLine_keeps | apply skidCount_keeps
    | refine fold2_keeps ?_ _ _ (fun _ _ _ => ?_)

theorem skidSchedule_keeps {u₀ s : State} (hk : Keeps u₀ s) (n k ts : Nat) :
    Keeps u₀ (skidSchedule n k ts s) := by
  unfold skidSchedule
  with_reducible repeat' first | assumption | apply State.setSkidHid_keeps

theorem skidStop_keeps {u₀ s : State} (hk : Keeps u₀ s) (n : Nat) :
    Keeps u₀ (skidStop n s) := by
  unfold skidStop
  with_reducible repeat' first
    | assumption | apply skidLevel_keeps | apply skidSchedule_keeps | apply put_keeps | apply wr_keeps
    | apply ite_keeps

theorem skidRecheck_keeps {u₀ s : State} (hk : Keeps u₀ s) (n : Nat) :
    Keeps u₀ (skidRecheck n s) := by
  unfold skidRecheck
  with_reducible repeat' first
    | assumption | apply skidStop_keeps | apply skidLevel_keeps | apply put_keeps | apply wr_keeps | apply ite_keeps

theorem countEdges_keeps {u₀ s : State} (hk : Keeps u₀ s) :
    Keeps u₀ (countEdges s) := by
  unfold countEdges
  with_reducible repeat' first
    | assumption | apply State.put64_keeps | apply skidRecheck_keeps | apply skidPass_keeps | apply put_keeps
    | apply wr_keeps | apply ite_keeps | refine each_keeps ?_ _ _ (fun _ _ _ => ?_)
    | (refine snd_keeps (by assumption) ?_) | (refine snd3_keeps (by assumption) ?_)
    | fail_if_no_progress apply upd_keeps

theorem skidDecide_keeps {u₀ s : State} (hk : Keeps u₀ s) (n v ts : Nat) :
    Keeps u₀ (skidDecide n v ts s) := by
  unfold skidDecide
  with_reducible repeat' first
    | assumption | apply countEdges_keeps | apply State.keepMax_keeps | apply skidSchedule_keeps | apply put_keeps
    | apply wr_keeps | apply ite_keeps

theorem skidWindowEnd_keeps {u₀ s : State} (hk : Keeps u₀ s) (n : Nat) :
    Keeps u₀ (skidWindowEnd n s) := by
  unfold skidWindowEnd
  with_reducible repeat' first
    | assumption | apply countEdges_keeps | apply State.wrN_keeps | apply skidLevel_keeps
    | apply State.setSkidHid_keeps | apply put_keeps | apply wr_keeps | apply ite_keeps

theorem skidWindowTo_keeps {u₀ s : State} (hk : Keeps u₀ s) (n : Nat) (t : Dword) :
    Keeps u₀ (skidWindowTo n t s) := by
  unfold skidWindowTo
  with_reducible repeat' first
    | assumption | apply skidWindowEnd_keeps | apply State.advanceTo_keeps | apply put_keeps | apply wr_keeps
    | apply ite_keeps

theorem skidEscalate_keeps {u₀ s : State} (hk : Keeps u₀ s) (n : Nat) :
    Keeps u₀ (skidEscalate n s) := by
  unfold skidEscalate
  with_reducible repeat' first
    | assumption | apply countEdges_keeps | apply skidLevel_keeps | apply State.setSkidHid_keeps
    | apply State.incSat_keeps | apply put_keeps | apply wr_keeps | apply ite_keeps

theorem skidEscWrite_keeps {u₀ s : State} (hk : Keeps u₀ s) (n : Nat) (v : Word) :
    Keeps u₀ (skidEscWrite n v s) := by
  unfold skidEscWrite
  with_reducible repeat' first
    | assumption | apply storeReg_keeps | apply put_keeps | apply wr_keeps | apply ite_keeps

theorem skidWrite_keeps {u₀ s : State} (hk : Keeps u₀ s) (a : Nat) (v : Word) :
    Keeps u₀ (skidWrite a v s) := by
  unfold skidWrite
  with_reducible repeat' first
    | assumption | apply countEdges_keeps | apply storeReg_keeps | apply skidRecheck_keeps
    | apply State.setSkidHid_keeps | apply skidSchedule_keeps | apply skidEscWrite_keeps | apply put_keeps
    | apply wr_keeps | apply ite_keeps | refine each_keeps ?_ _ _ (fun _ _ _ => ?_)

/-! ### RegionOps -/

theorem putRgnState_keeps {u₀ s : State} (hk : Keeps u₀ s) (n st : Nat) :
    Keeps u₀ (putRgnState n st s) := by
  unfold putRgnState
  with_reducible repeat' first
    | assumption | apply skidStop_keeps | apply setRegionBit_keeps | apply State.ring_keeps | apply put_keeps
    | apply wr_keeps | apply ite_keeps

theorem rgnCmdDone_keeps {u : State} (n : Nat) (r : Nat × State) (h : Keeps u r.2) : Keeps u (rgnCmdDone n r) := by
  unfold rgnCmdDone
  exact State.ring_keeps (setRegionBit_keeps (put_keeps (put_keeps h _ _) _ _) _ _) _ _

theorem rgnCmdAbandon_keeps {u₀ s : State} (hk : Keeps u₀ s) (n : Nat) :
    Keeps u₀ (rgnCmdAbandon n s) := by
  unfold rgnCmdAbandon
  with_reducible repeat' first
    | assumption | apply State.setRhid_keeps | apply rgnCmdDone_keeps | apply put_keeps | apply wr_keeps
    | apply ite_keeps

theorem regionFault_keeps {u₀ s : State} (hk : Keeps u₀ s) (n cause ts : Nat) :
    Keeps u₀ (regionFault n cause ts s) := by
  unfold regionFault
  with_reducible repeat' first
    | assumption | apply rgnCmdAbandon_keeps | apply State.setRhid_keeps | apply putRgnState_keeps
    | apply State.wrN_keeps | apply safeBegins_keeps | apply setRegionBit_keeps | apply State.ring_keeps
    | apply put_keeps

theorem regionCause_keeps {u₀ s : State} (hk : Keeps u₀ s) (n cause ts : Nat) :
    Keeps u₀ (regionCause n cause ts s) := by
  unfold regionCause
  with_reducible repeat' first
    | assumption | apply regionFault_keeps | apply put_keeps | apply wr_keeps | apply ite_keeps

theorem regionsSafe_keeps {u₀ s : State} (hk : Keeps u₀ s) (ts : Nat) :
    Keeps u₀ (regionsSafe ts s) := by
  unfold regionsSafe
  with_reducible repeat' first
    | assumption | apply regionCause_keeps | apply put_keeps | apply wr_keeps | apply ite_keeps
    | refine each_keeps ?_ _ _ (fun _ _ _ => ?_)

theorem healthCheck_keeps {u₀ s : State} (hk : Keeps u₀ s) (n : Nat) :
    Keeps u₀ (healthCheck n s) := by
  unfold healthCheck
  with_reducible repeat' first
    | assumption | apply regionCause_keeps | apply put_keeps | apply wr_keeps | apply ite_keeps

theorem lameTick_keeps {u₀ s : State} (hk : Keeps u₀ s) (n : Nat) :
    Keeps u₀ (lameTick n s) := by
  unfold lameTick
  with_reducible repeat' first
    | assumption | apply putRgnState_keeps | apply put_keeps | apply wr_keeps | apply ite_keeps

theorem spareJoin_keeps {u₀ s : State} (hk : Keeps u₀ s) (n : Nat) :
    Keeps u₀ (spareJoin n s) := by
  unfold spareJoin
  with_reducible repeat' first
    | assumption | apply prechargeStart_keeps | apply put_keeps | apply wr_keeps | apply ite_keeps
    | refine each_keeps ?_ _ _ (fun _ _ _ => ?_) | (refine snd_keeps (by assumption) ?_)
    | (refine snd3_keeps (by assumption) ?_) | fail_if_no_progress apply upd_keeps | split

theorem uncoupleCell_keeps {u₀ s : State} (hk : Keeps u₀ s) (c cause : Nat) :
    Keeps u₀ (uncoupleCell c cause s) := by
  unfold uncoupleCell
  with_reducible repeat' first
    | assumption | apply cellCmdAbandon_keeps | apply State.setChid_keeps | apply putCellState_keeps
    | apply State.pulse_keeps | apply State.ring_keeps | apply spareJoin_keeps | apply healthCheck_keeps
    | apply put_keeps | apply wr_keeps | apply ite_keeps

theorem inrushCheck_keeps {u₀ s : State} (hk : Keeps u₀ s) (n : Nat) :
    Keeps u₀ (inrushCheck n s) := by
  unfold inrushCheck
  with_reducible repeat' first | assumption | apply State.putI_keeps | apply State.putB_keeps

theorem startRamp_keeps {u₀ s : State} (hk : Keeps u₀ s) (n : Nat) :
    Keeps u₀ (startRamp n s) := by
  unfold startRamp
  with_reducible repeat' first
    | assumption | apply State.setRhid_keeps | apply putRgnState_keeps | apply prechargeStart_keeps | apply put_keeps
    | apply wr_keeps | apply ite_keeps | refine each_keeps ?_ _ _ (fun _ _ _ => ?_)

theorem doEnable_keeps {u₀ s : State} (hk : Keeps u₀ s) (n : Nat) :
    Keeps u₀ (doEnable n s).2 := by
  unfold doEnable
  with_reducible repeat' first
    | assumption | apply startRamp_keeps | apply put_keeps | apply wr_keeps | apply ite_keeps

theorem rgnPend_keeps {u₀ s : State} (hk : Keeps u₀ s) (n op : Nat) :
    Keeps u₀ (rgnPend n op s) := by
  unfold rgnPend
  with_reducible repeat' first | assumption | apply State.setRhid_keeps

theorem putRef_keeps {u₀ s : State} (hk : Keeps u₀ s) (n ref : Nat) :
    Keeps u₀ (putRef n ref s) := by
  unfold putRef
  with_reducible repeat' first | assumption | apply State.setRhid_keeps | apply put_keeps

theorem doDisable_keeps {u₀ s : State} (hk : Keeps u₀ s) (n : Nat) :
    Keeps u₀ (doDisable n s).2 := by
  unfold doDisable
  with_reducible repeat' first
    | assumption | apply putRgnState_keeps | apply putRef_keeps | apply put_keeps | apply wr_keeps | apply ite_keeps
    | refine each_keeps ?_ _ _ (fun _ _ _ => ?_) | (refine snd_keeps (by assumption) ?_)
    | (refine snd3_keeps (by assumption) ?_) | fail_if_no_progress apply upd_keeps | split | dsimp only

theorem doClearFault_keeps {u₀ s : State} (hk : Keeps u₀ s) (n : Nat) :
    Keeps u₀ (doClearFault n s).2 := by
  unfold doClearFault
  with_reducible repeat' first
    | assumption | apply putRgnState_keeps | apply releaseCells_keeps | apply put_keeps | apply wr_keeps
    | apply ite_keeps | refine each_keeps ?_ _ _ (fun _ _ _ => ?_) | (refine snd_keeps (by assumption) ?_)
    | (refine snd3_keeps (by assumption) ?_) | fail_if_no_progress apply upd_keeps | split

theorem regionOff_keeps {u₀ s : State} (hk : Keeps u₀ s) (n : Nat) :
    Keeps u₀ (regionOff n s) := by
  unfold regionOff
  with_reducible repeat' first
    | assumption | apply putRgnState_keeps | apply prechargeAbandon_keeps | apply settle_keeps | apply put_keeps
    | apply wr_keeps | apply ite_keeps | refine each_keeps ?_ _ _ (fun _ _ _ => ?_)

theorem rgnCommand_keeps {u₀ s : State} (hk : Keeps u₀ s) (n op : Nat) :
    Keeps u₀ (rgnCommand n op s) := by
  unfold rgnCommand
  with_reducible repeat' first
    | assumption | apply rgnCmdDone_keeps | apply inrushCheck_keeps | apply rgnPend_keeps | apply State.setRhid_keeps
    | apply doEnable_keeps | apply doDisable_keeps | apply doClearFault_keeps | apply put_keeps | apply wr_keeps
    | apply ite_keeps | refine each_keeps ?_ _ _ (fun _ _ _ => ?_) | (refine snd_keeps (by assumption) ?_)
    | (refine snd3_keeps (by assumption) ?_) | fail_if_no_progress apply upd_keeps | split

theorem rgnDisable_keeps {u₀ s : State} (hk : Keeps u₀ s) (n : Nat) :
    Keeps u₀ (rgnDisable n s) := by
  unfold rgnDisable
  with_reducible repeat' first | assumption | apply rgnPend_keeps | apply put_keeps | apply wr_keeps | apply ite_keeps

theorem rgnCmdTick_keeps {u₀ s : State} (hk : Keeps u₀ s) (n : Nat) :
    Keeps u₀ (rgnCmdTick n s) := by
  unfold rgnCmdTick
  with_reducible repeat' first
    | assumption | apply State.setRhid_keeps | apply doDisable_keeps | apply rgnCmdDone_keeps | apply doEnable_keeps
    | apply doClearFault_keeps | apply put_keeps | apply wr_keeps | apply ite_keeps
    | refine each_keeps ?_ _ _ (fun _ _ _ => ?_) | (refine snd_keeps (by assumption) ?_)
    | (refine snd3_keeps (by assumption) ?_) | fail_if_no_progress apply upd_keeps | split

theorem rgnPendingTick_keeps {u₀ s : State} (hk : Keeps u₀ s) (n : Nat) :
    Keeps u₀ (rgnPendingTick n s) := by
  unfold rgnPendingTick
  with_reducible repeat' first
    | assumption | apply startRamp_keeps | apply inrushCheck_keeps | apply setRegionBit_keeps | apply State.ring_keeps
    | apply put_keeps | apply wr_keeps | apply ite_keeps

theorem rampTick_keeps {u₀ s : State} (hk : Keeps u₀ s) (n : Nat) :
    Keeps u₀ (rampTick n s) := by
  unfold rampTick
  with_reducible repeat' first
    | assumption | apply putRef_keeps | apply State.setRhid_keeps | apply put_keeps | apply wr_keeps | apply ite_keeps

theorem rampEnd_keeps {u₀ s : State} (hk : Keeps u₀ s) (n : Nat) :
    Keeps u₀ (rampEnd n s) := by
  unfold rampEnd
  with_reducible repeat' first | assumption | apply State.setRhid_keeps | apply putRgnState_keeps

theorem drainTick_keeps {u₀ s : State} (hk : Keeps u₀ s) (n : Nat) :
    Keeps u₀ (drainTick n s) := by
  unfold drainTick
  with_reducible repeat' first
    | assumption | apply putRef_keeps | apply regionOff_keeps | apply put_keeps | apply wr_keeps | apply ite_keeps

theorem veffPut_keeps {u₀ s : State} (hk : Keeps u₀ s) (n : Nat) :
    Keeps u₀ (veffPut n s) := by
  unfold veffPut
  with_reducible repeat' first | assumption | apply put_keeps

theorem regionTick_keeps {u₀ s : State} (hk : Keeps u₀ s) (n : Nat) :
    Keeps u₀ (regionTick n s) := by
  unfold regionTick
  with_reducible repeat' first
    | assumption | apply regionCause_keeps | apply lameTick_keeps | apply healthCheck_keeps | apply rgnCmdTick_keeps
    | apply rampTick_keeps | apply rampEnd_keeps | apply drainTick_keeps | apply rgnPendingTick_keeps
    | apply veffPut_keeps | apply put_keeps | apply wr_keeps | apply ite_keeps

theorem deliverMin_keeps {u₀ s : State} (hk : Keeps u₀ s) (n v cnt : Nat) (valid : Bool) :
    Keeps u₀ (deliverMin n v cnt valid s) := by
  unfold deliverMin
  with_reducible repeat' first | assumption | apply State.putB_keeps | apply put_keeps

theorem minvReplace_keeps {u₀ s : State} (hk : Keeps u₀ s) (n v sensor : Nat) (ts : Dword) :
    Keeps u₀ (minvReplace n v sensor ts s) := by
  unfold minvReplace
  with_reducible repeat' first
    | assumption | apply State.setRhid_keeps | apply put_keeps | apply wr_keeps | apply ite_keeps

theorem rampSeen_keeps {u₀ s : State} (hk : Keeps u₀ s) (n v : Nat) :
    Keeps u₀ (rampSeen n v s) := by
  unfold rampSeen
  with_reducible repeat' first
    | assumption | apply State.setRhid_keeps | apply put_keeps | apply wr_keeps | apply ite_keeps

theorem deliverValid_keeps {u₀ s : State} (hk : Keeps u₀ s) (n v x cnt : Nat) (ts : Dword) :
    Keeps u₀ (deliverValid n v x cnt ts s) := by
  unfold deliverValid
  with_reducible repeat' first
    | assumption | apply skidDecide_keeps | apply rampSeen_keeps | apply minvReplace_keeps | apply deliverMin_keeps

theorem minvClear_keeps {u₀ s : State} (hk : Keeps u₀ s) (n : Nat) :
    Keeps u₀ (minvClear n s) := by
  unfold minvClear
  with_reducible repeat' first | assumption | apply put_keeps

theorem minvLatch_keeps {u₀ s : State} (hk : Keeps u₀ s) (req : Requester) (n : Nat) :
    Keeps u₀ (minvLatch req n s) := by
  unfold minvLatch
  with_reducible repeat' first | assumption | apply latchHi_keeps

theorem regionChecks_keeps {u₀ s : State} (hk : Keeps u₀ s) (n : Nat) :
    Keeps u₀ (regionChecks n s) := by
  unfold regionChecks
  with_reducible repeat' first
    | assumption | apply State.setRhid_keeps | apply regionCause_keeps | apply healthCheck_keeps | apply put_keeps
    | apply wr_keeps | apply ite_keeps

theorem commitEnd_keeps {u₀ s : State} (hk : Keeps u₀ s) (res cause n : Nat) :
    Keeps u₀ (commitEnd res cause n s) := by
  unfold commitEnd
  with_reducible repeat' first
    | assumption | apply State.ring_keeps | apply put_keeps | apply wr_keeps | apply ite_keeps
    | refine each_keeps ?_ _ _ (fun _ _ _ => ?_) | (refine snd_keeps (by assumption) ?_)
    | (refine snd3_keeps (by assumption) ?_) | fail_if_no_progress apply upd_keeps

theorem commitApply_keeps {u₀ s : State} (hk : Keeps u₀ s) :
    Keeps u₀ (commitApply s) := by
  unfold commitApply
  with_reducible repeat' first
    | assumption | apply commitEntry_keeps | apply State.addWrap_keeps | apply healthCheck_keeps | apply put_keeps
    | apply wr_keeps | apply ite_keeps | refine each_keeps ?_ _ _ (fun _ _ _ => ?_)

theorem revertApply_keeps {u₀ s : State} (hk : Keeps u₀ s) :
    Keeps u₀ (revertApply s) := by
  unfold revertApply
  with_reducible repeat' first
    | assumption | apply State.wrN_keeps | apply put_keeps | apply wr_keeps | apply ite_keeps
    | refine each_keeps ?_ _ _ (fun _ _ _ => ?_)

theorem cfgCtrlWrite_keeps {u₀ s : State} (hk : Keeps u₀ s) (v : Word) :
    Keeps u₀ (cfgCtrlWrite v s) := by
  unfold cfgCtrlWrite
  with_reducible repeat' first
    | assumption | apply put_keeps | apply wr_keeps | apply ite_keeps | refine each_keeps ?_ _ _ (fun _ _ _ => ?_)
    | (refine snd_keeps (by assumption) ?_) | (refine snd3_keeps (by assumption) ?_)
    | fail_if_no_progress apply upd_keeps

theorem shadowWrite_keeps {u₀ s : State} (hk : Keeps u₀ s) (a : Nat) (v : Word) :
    Keeps u₀ (shadowWrite a v s) := by
  unfold shadowWrite
  with_reducible repeat' first
    | assumption | apply storeReg_keeps | apply put_keeps | apply wr_keeps | apply ite_keeps

/-! ### EngineOps -/

theorem reinCombine_keeps {u₀ s : State} (hk : Keeps u₀ s) :
    Keeps u₀ (reinCombine s) := by
  unfold reinCombine
  with_reducible repeat' first
    | assumption | apply countEdges_keeps | apply State.ring_keeps | apply put_keeps | apply wr_keeps
    | apply ite_keeps | refine each_keeps ?_ _ _ (fun _ _ _ => ?_)

theorem giveNotice_keeps {u₀ s : State} (hk : Keeps u₀ s) (out : Bool) (land : Nat) (di : Int) (regions : List Nat) (act : Nat) :
    Keeps u₀ (giveNotice out land di regions act s) := by
  unfold giveNotice
  with_reducible repeat' first
    | assumption | apply State.ring_keeps | apply put_keeps | apply wr_keeps | apply ite_keeps
    | refine each_keeps ?_ _ _ (fun _ _ _ => ?_) | (refine snd_keeps (by assumption) ?_)
    | (refine snd3_keeps (by assumption) ?_) | fail_if_no_progress apply upd_keeps

theorem withdrawNotices_keeps {u₀ s : State} (hk : Keeps u₀ s) :
    Keeps u₀ (withdrawNotices s) := by
  unfold withdrawNotices
  with_reducible repeat' first
    | assumption | apply put_keeps | apply wr_keeps | apply ite_keeps | refine each_keeps ?_ _ _ (fun _ _ _ => ?_)
    | (refine snd_keeps (by assumption) ?_) | (refine snd3_keeps (by assumption) ?_)
    | fail_if_no_progress apply upd_keeps

theorem noteIssue_keeps {u₀ s : State} (hk : Keeps u₀ s) (g t : Nat) :
    Keeps u₀ (noteIssue g t s) := by
  unfold noteIssue
  with_reducible repeat' first
    | assumption | apply put_keeps | apply wr_keeps | apply ite_keeps | refine each_keeps ?_ _ _ (fun _ _ _ => ?_)
    | (refine snd_keeps (by assumption) ?_) | (refine snd3_keeps (by assumption) ?_)
    | fail_if_no_progress apply upd_keeps

theorem landNotices_keeps {u₀ s : State} (hk : Keeps u₀ s) :
    Keeps u₀ (landNotices s) := by
  unfold landNotices
  with_reducible repeat' first
    | assumption | apply put_keeps | apply wr_keeps | apply ite_keeps | refine each_keeps ?_ _ _ (fun _ _ _ => ?_)
    | (refine snd_keeps (by assumption) ?_) | (refine snd3_keeps (by assumption) ?_)
    | fail_if_no_progress apply upd_keeps

theorem putOrder_keeps {u₀ s : State} (hk : Keeps u₀ s) (g why o f : Nat) :
    Keeps u₀ (putOrder g why o f s) := by
  unfold putOrder
  with_reducible repeat' first | assumption | apply State.putB_keeps | apply put_keeps

theorem tenderReport_keeps {u₀ s : State} (hk : Keeps u₀ s) (d nfill short : Nat) :
    Keeps u₀ (tenderReport d nfill short s) := by
  unfold tenderReport
  with_reducible repeat' first
    | assumption | apply State.putB_keeps | apply State.ring_keeps | apply State.incSat_keeps
    | apply State.keepMax_keeps | apply put_keeps | apply wr_keeps | apply ite_keeps

theorem countNotices_keeps {u₀ s : State} (hk : Keeps u₀ s) :
    Keeps u₀ (countNotices s) := by
  unfold countNotices
  with_reducible repeat' first
    | assumption | apply put_keeps | apply wr_keeps | apply ite_keeps | refine each_keeps ?_ _ _ (fun _ _ _ => ?_)
    | (refine snd_keeps (by assumption) ?_) | (refine snd3_keeps (by assumption) ?_)
    | fail_if_no_progress apply upd_keeps

theorem tenderTick_keeps {u₀ s : State} (hk : Keeps u₀ s) (issued : List (Nat × Nat)) :
    Keeps u₀ (tenderTick issued s) := by
  unfold tenderTick
  with_reducible repeat' first
    | assumption | apply countNotices_keeps | apply landNotices_keeps | apply noteIssue_keeps | apply putOrder_keeps
    | apply State.put64_keeps | apply State.putI_keeps | apply tenderReport_keeps | apply put_keeps | apply wr_keeps
    | apply ite_keeps | refine each_keeps ?_ _ _ (fun _ _ _ => ?_) | (refine snd_keeps (by assumption) ?_)
    | (refine snd3_keeps (by assumption) ?_) | fail_if_no_progress apply upd_keeps

/-! ### FrontOps -/

theorem smbLatch_keeps {u₀ s : State} (hk : Keeps u₀ s) :
    Keeps u₀ (smbLatch s) := by
  unfold smbLatch
  with_reducible repeat' first
    | assumption | apply put_keeps | apply wr_keeps | apply ite_keeps | refine each_keeps ?_ _ _ (fun _ _ _ => ?_)
    | (refine snd_keeps (by assumption) ?_) | (refine snd3_keeps (by assumption) ?_)
    | fail_if_no_progress apply upd_keeps

theorem State.setPhid_keeps {u₀ s : State} (hk : Keeps u₀ s) (p : Nat) (h : PhHid) :
    Keeps u₀ (State.setPhid s p h) := by
  unfold State.setPhid
  with_reducible repeat' first
    | assumption | apply put_keeps | apply wr_keeps | apply ite_keeps | refine each_keeps ?_ _ _ (fun _ _ _ => ?_)
    | (refine snd_keeps (by assumption) ?_) | (refine snd3_keeps (by assumption) ?_)
    | fail_if_no_progress apply upd_keeps

theorem vimWatch_keeps {u₀ s : State} (hk : Keeps u₀ s) :
    Keeps u₀ (vimWatch s) := by
  unfold vimWatch
  with_reducible repeat' first
    | assumption | apply put_keeps | apply wr_keeps | apply ite_keeps | refine each_keeps ?_ _ _ (fun _ _ _ => ?_)
    | (refine snd_keeps (by assumption) ?_) | (refine snd3_keeps (by assumption) ?_)
    | fail_if_no_progress apply upd_keeps

theorem putVimRef_keeps {u₀ s : State} (hk : Keeps u₀ s) (ref : Nat) :
    Keeps u₀ (putVimRef ref s) := by
  unfold putVimRef
  with_reducible repeat' first
    | assumption | apply vimWatch_keeps | apply put_keeps | apply wr_keeps | apply ite_keeps
    | refine each_keeps ?_ _ _ (fun _ _ _ => ?_) | (refine snd_keeps (by assumption) ?_)
    | (refine snd3_keeps (by assumption) ?_) | fail_if_no_progress apply upd_keeps

theorem combineVim_keeps {u₀ s : State} (hk : Keeps u₀ s) :
    Keeps u₀ (combineVim s) := by
  unfold combineVim
  with_reducible repeat' first
    | assumption | apply putVimRef_keeps | apply vimWatch_keeps | apply put_keeps | apply wr_keeps | apply ite_keeps
    | refine each_keeps ?_ _ _ (fun _ _ _ => ?_) | (refine snd_keeps (by assumption) ?_)
    | (refine snd3_keeps (by assumption) ?_) | fail_if_no_progress apply upd_keeps | split

theorem moveVimRef_keeps {u₀ s : State} (hk : Keeps u₀ s) (step : Nat) :
    Keeps u₀ (moveVimRef step s) := by
  unfold moveVimRef
  with_reducible repeat' first | assumption | apply putVimRef_keeps

theorem rippleEdge_keeps {u₀ s : State} (hk : Keeps u₀ s) :
    Keeps u₀ (rippleEdge s) := by
  unfold rippleEdge
  with_reducible repeat' first
    | assumption | apply State.drawFree_keeps | apply put_keeps | apply wr_keeps | apply ite_keeps
    | refine each_keeps ?_ _ _ (fun _ _ _ => ?_) | (refine snd_keeps (by assumption) ?_)
    | (refine snd3_keeps (by assumption) ?_) | fail_if_no_progress apply upd_keeps | split

theorem rippleRun_keeps {u s : State} (h : Keeps u s) (n : Nat) : Keeps u (rippleRun n s) := by
  induction n generalizing s with
  | zero => exact h
  | succ n ih =>
    unfold rippleRun
    exact ite_keeps h (ih (rippleEdge_keeps h))

theorem rippleCatch_keeps {u₀ s : State} (hk : Keeps u₀ s) :
    Keeps u₀ (rippleCatch s) := by
  unfold rippleCatch
  with_reducible repeat' first
    | assumption | apply rippleRun_keeps | apply put_keeps | apply wr_keeps | apply ite_keeps
    | refine each_keeps ?_ _ _ (fun _ _ _ => ?_) | (refine snd_keeps (by assumption) ?_)
    | (refine snd3_keeps (by assumption) ?_) | fail_if_no_progress apply upd_keeps

theorem firePhase_keeps {u₀ s : State} (hk : Keeps u₀ s) (p x : Nat) :
    Keeps u₀ (firePhase p x s) := by
  unfold firePhase
  with_reducible repeat' first
    | assumption | apply State.setPhid_keeps | apply put_keeps | apply wr_keeps | apply ite_keeps
    | refine each_keeps ?_ _ _ (fun _ _ _ => ?_) | (refine snd_keeps (by assumption) ?_)
    | (refine snd3_keeps (by assumption) ?_) | fail_if_no_progress apply upd_keeps

theorem endOnTime_keeps {u₀ s : State} (hk : Keeps u₀ s) (p x run : Nat) :
    Keeps u₀ (endOnTime p x run s) := by
  unfold endOnTime
  with_reducible repeat' first | assumption | apply State.setPhid_keeps

theorem idlePhase_keeps {u₀ s : State} (hk : Keeps u₀ s) (p : Nat) :
    Keeps u₀ (idlePhase p s) := by
  unfold idlePhase
  with_reducible repeat' first | assumption | apply State.setPhid_keeps | apply put_keeps

theorem idlePool_keeps {u₀ s : State} (hk : Keeps u₀ s) :
    Keeps u₀ (idlePool s) := by
  unfold idlePool
  with_reducible repeat' first
    | assumption | apply idlePhase_keeps | apply State.setPhid_keeps | apply put_keeps | apply wr_keeps
    | apply ite_keeps | refine each_keeps ?_ _ _ (fun _ _ _ => ?_) | (refine snd_keeps (by assumption) ?_)
    | (refine snd3_keeps (by assumption) ?_) | fail_if_no_progress apply upd_keeps

theorem frontLatch_keeps {u₀ s : State} (hk : Keeps u₀ s) (cause : Nat) :
    Keeps u₀ (frontLatch cause s) := by
  unfold frontLatch
  with_reducible repeat' first
    | assumption | apply idlePool_keeps | apply rippleCatch_keeps | apply smbLatch_keeps | apply State.ring_keeps
    | apply put_keeps | apply wr_keeps | apply ite_keeps | refine each_keeps ?_ _ _ (fun _ _ _ => ?_)
    | (refine snd_keeps (by assumption) ?_) | (refine snd3_keeps (by assumption) ?_)
    | fail_if_no_progress apply upd_keeps

theorem frontFault_keeps {u₀ s : State} (hk : Keeps u₀ s) (cause : Nat) :
    Keeps u₀ (frontFault cause s) := by
  unfold frontFault
  with_reducible repeat' first
    | assumption | apply frontLatch_keeps | apply put_keeps | apply wr_keeps | apply ite_keeps

theorem phaseLatch_keeps {u₀ s : State} (hk : Keeps u₀ s) (p cause : Nat) :
    Keeps u₀ (phaseLatch p cause s) := by
  unfold phaseLatch
  with_reducible repeat' first
    | assumption | apply rippleCatch_keeps | apply State.setPhid_keeps | apply smbLatch_keeps
    | apply State.pulse_keeps | apply State.ring_keeps | apply frontLatch_keeps | apply put_keeps | apply wr_keeps
    | apply ite_keeps | refine each_keeps ?_ _ _ (fun _ _ _ => ?_) | (refine snd_keeps (by assumption) ?_)
    | (refine snd3_keeps (by assumption) ?_) | fail_if_no_progress apply upd_keeps

theorem addPhases_keeps {u₀ s : State} (hk : Keeps u₀ s) (k : Nat) :
    Keeps u₀ (addPhases k s).2 := by
  unfold addPhases
  with_reducible repeat' first
    | assumption | apply put_keeps | apply wr_keeps | apply ite_keeps | refine each_keeps ?_ _ _ (fun _ _ _ => ?_)

theorem phaseCount_keeps {u₀ s : State} (hk : Keeps u₀ s) :
    Keeps u₀ (phaseCount s) := by
  unfold phaseCount
  with_reducible repeat' first
    | assumption | apply addPhases_keeps | apply put_keeps | apply wr_keeps | apply ite_keeps
    | refine each_keeps ?_ _ _ (fun _ _ _ => ?_) | (refine snd_keeps (by assumption) ?_)
    | (refine snd3_keeps (by assumption) ?_) | fail_if_no_progress apply upd_keeps

theorem shedPhase_keeps {u₀ s : State} (hk : Keeps u₀ s) (p : Nat) :
    Keeps u₀ (shedPhase p s) := by
  unfold shedPhase
  with_reducible repeat' first
    | assumption | apply State.setPhid_keeps | apply put_keeps | apply wr_keeps | apply ite_keeps
    | refine each_keeps ?_ _ _ (fun _ _ _ => ?_) | (refine snd_keeps (by assumption) ?_)
    | (refine snd3_keeps (by assumption) ?_) | fail_if_no_progress apply upd_keeps

theorem cancelShed_keeps {u₀ s : State} (hk : Keeps u₀ s) :
    Keeps u₀ (cancelShed s) := by
  unfold cancelShed
  with_reducible repeat' first
    | assumption | apply rippleCatch_keeps | apply State.ring_keeps | apply addPhases_keeps | apply put_keeps
    | apply wr_keeps | apply ite_keeps | refine each_keeps ?_ _ _ (fun _ _ _ => ?_)
    | (refine snd_keeps (by assumption) ?_) | (refine snd3_keeps (by assumption) ?_)
    | fail_if_no_progress apply upd_keeps

theorem writeNfc_keeps {u₀ s : State} (hk : Keeps u₀ s) (v : Nat) :
    Keeps u₀ (writeNfc v s) := by
  unfold writeNfc
  with_reducible repeat' first
    | assumption | apply cancelShed_keeps | apply put_keeps | apply wr_keeps | apply ite_keeps

theorem startFront_keeps {u₀ s : State} (hk : Keeps u₀ s) :
    Keeps u₀ (startFront s) := by
  unfold startFront
  with_reducible repeat' first
    | assumption | apply rippleCatch_keeps | apply State.setPhid_keeps | apply putVimRef_keeps | apply put_keeps
    | apply wr_keeps | apply ite_keeps | refine each_keeps ?_ _ _ (fun _ _ _ => ?_)
    | (refine snd_keeps (by assumption) ?_) | (refine snd3_keeps (by assumption) ?_)
    | fail_if_no_progress apply upd_keeps

theorem stopFront_keeps {u₀ s : State} (hk : Keeps u₀ s) :
    Keeps u₀ (stopFront s) := by
  unfold stopFront
  with_reducible repeat' first | assumption | apply idlePool_keeps | apply rippleCatch_keeps | apply put_keeps

theorem frontCommand_keeps {u₀ s : State} (hk : Keeps u₀ s) (op : Nat) :
    Keeps u₀ (frontCommand op s) := by
  unfold frontCommand
  with_reducible repeat' first
    | assumption | apply startFront_keeps | apply stopFront_keeps | apply State.ring_keeps | apply put_keeps
    | apply wr_keeps | apply ite_keeps | refine each_keeps ?_ _ _ (fun _ _ _ => ?_)
    | (refine snd_keeps (by assumption) ?_) | (refine snd3_keeps (by assumption) ?_)
    | fail_if_no_progress apply upd_keeps | split

theorem xphCfgWrite_keeps {u₀ s : State} (hk : Keeps u₀ s) (v : Word) :
    Keeps u₀ (xphCfgWrite v s) := by
  unfold xphCfgWrite
  with_reducible repeat' first
    | assumption | apply storeReg_keeps | apply combineVim_keeps | apply put_keeps | apply wr_keeps | apply ite_keeps
    | refine each_keeps ?_ _ _ (fun _ _ _ => ?_) | (refine snd_keeps (by assumption) ?_)
    | (refine snd3_keeps (by assumption) ?_) | fail_if_no_progress apply upd_keeps

theorem xphOcpWrite_keeps {u₀ s : State} (hk : Keeps u₀ s) (v : Word) :
    Keeps u₀ (xphOcpWrite v s) := by
  unfold xphOcpWrite
  with_reducible repeat' first
    | assumption | apply storeReg_keeps | apply put_keeps | apply wr_keeps | apply ite_keeps

theorem vimPtWrite_keeps {u₀ s : State} (hk : Keeps u₀ s) (hi : Bool) (v : Word) :
    Keeps u₀ (vimPtWrite hi v s) := by
  unfold vimPtWrite
  with_reducible repeat' first | assumption | apply combineVim_keeps | apply storeReg_keeps

theorem phaseEnable_keeps {u₀ s : State} (hk : Keeps u₀ s) (p : Nat) (en : Bool) :
    Keeps u₀ (phaseEnable p en s) := by
  unfold phaseEnable
  with_reducible repeat' first
    | assumption | apply State.putB_keeps | apply shedPhase_keeps | apply phaseCount_keeps | apply put_keeps
    | apply wr_keeps | apply ite_keeps | refine each_keeps ?_ _ _ (fun _ _ _ => ?_)
    | (refine snd_keeps (by assumption) ?_) | (refine snd3_keeps (by assumption) ?_)
    | fail_if_no_progress apply upd_keeps | split

theorem phCfgWrite_keeps {u₀ s : State} (hk : Keeps u₀ s) (p : Nat) (v : Word) :
    Keeps u₀ (phCfgWrite p v s) := by
  unfold phCfgWrite
  with_reducible repeat' first
    | assumption | apply State.putI_keeps | apply phaseEnable_keeps | apply put_keeps | apply wr_keeps
    | apply ite_keeps

theorem phaseClear_keeps {u₀ s : State} (hk : Keeps u₀ s) (p : Nat) :
    Keeps u₀ (phaseClear p s) := by
  unfold phaseClear
  with_reducible repeat' first | assumption | apply put_keeps | apply wr_keeps | apply ite_keeps

theorem syncEdge_keeps {u₀ s : State} (hk : Keeps u₀ s) (x period : Nat) :
    Keeps u₀ (syncEdge x period s) := by
  unfold syncEdge
  with_reducible repeat' first
    | assumption | apply put_keeps | apply wr_keeps | apply ite_keeps | refine each_keeps ?_ _ _ (fun _ _ _ => ?_)
    | (refine snd_keeps (by assumption) ?_) | (refine snd3_keeps (by assumption) ?_)
    | fail_if_no_progress apply upd_keeps

theorem syncPeriod_keeps {u₀ s : State} (hk : Keeps u₀ s) (period : Nat) :
    Keeps u₀ (syncPeriod period s) := by
  unfold syncPeriod
  with_reducible repeat' first
    | assumption | apply put_keeps | apply wr_keeps | apply ite_keeps | refine each_keeps ?_ _ _ (fun _ _ _ => ?_)
    | (refine snd_keeps (by assumption) ?_) | (refine snd3_keeps (by assumption) ?_)
    | fail_if_no_progress apply upd_keeps

theorem syncLost_keeps {u₀ s : State} (hk : Keeps u₀ s) :
    Keeps u₀ (syncLost s) := by
  unfold syncLost
  with_reducible repeat' first
    | assumption | apply State.pulse_keeps | apply State.ring_keeps | apply put_keeps | apply wr_keeps
    | apply ite_keeps | refine each_keeps ?_ _ _ (fun _ _ _ => ?_) | (refine snd_keeps (by assumption) ?_)
    | (refine snd3_keeps (by assumption) ?_) | fail_if_no_progress apply upd_keeps

theorem iseaKeep_keeps {u₀ s : State} (hk : Keeps u₀ s) :
    Keeps u₀ (iseaKeep s) := by
  unfold iseaKeep
  with_reducible repeat' first
    | assumption | apply put_keeps | apply wr_keeps | apply ite_keeps | refine each_keeps ?_ _ _ (fun _ _ _ => ?_)
    | (refine snd_keeps (by assumption) ?_) | (refine snd3_keeps (by assumption) ?_)
    | fail_if_no_progress apply upd_keeps

theorem State.front_keeps {u₀ s : State} (hk : Keeps u₀ s) (k : State → State) (h_k : ∀ s, Keeps u₀ s → Keeps u₀ (k s)) :
    Keeps u₀ (State.front s k) := by
  unfold State.front
  with_reducible repeat' first
    | assumption | refine State.running_keeps ?_ _ (fun _ _ => ?_) | apply rippleCatch_keeps | apply h_k

theorem State.frontAt_keeps {u₀ s : State} (hk : Keeps u₀ s) (t : Dword) (k : State → State) (h_k : ∀ s, Keeps u₀ s → Keeps u₀ (k s)) :
    Keeps u₀ (State.frontAt s t k) := by
  unfold State.frontAt
  with_reducible repeat' first
    | assumption | refine State.running_keeps ?_ _ (fun _ _ => ?_) | apply rippleCatch_keeps
    | apply State.advanceTo_keeps | apply h_k

/-! ### ProfileOps -/

theorem pgRefresh_keeps {u₀ s : State} (hk : Keeps u₀ s) (j : Nat) :
    Keeps u₀ (pgRefresh j s) := by
  unfold pgRefresh
  with_reducible repeat' first
    | assumption | apply State.wrI_keeps | apply State.putB_keeps | apply State.ring_keeps | apply put_keeps
    | apply wr_keeps | apply ite_keeps

theorem pgTarget_keeps {u₀ s : State} (hk : Keeps u₀ s) (j : Nat) (v : Int) :
    Keeps u₀ (pgTarget j v s) := by
  unfold pgTarget
  with_reducible repeat' first | assumption | apply pgRefresh_keeps | apply State.wrI_keeps

theorem pgLoad_keeps {u₀ s : State} (hk : Keeps u₀ s) (j code : Nat) :
    Keeps u₀ (pgLoad j code s) := by
  unfold pgLoad
  with_reducible repeat' first | assumption | apply pgRefresh_keeps | apply State.put64_keeps | apply State.wrN_keeps

theorem pgStep_keeps {u₀ s : State} (hk : Keeps u₀ s) (j : Nat) :
    Keeps u₀ (pgStep j s) := by
  unfold pgStep
  with_reducible repeat' first
    | assumption | apply pgRefresh_keeps | apply State.put64_keeps | apply State.wrI_keeps | apply put_keeps
    | apply wr_keeps | apply ite_keeps

theorem pgFirst_keeps {u₀ s : State} (hk : Keeps u₀ s) (n : Nat) :
    Keeps u₀ (pgFirst n s) := by
  unfold pgFirst
  with_reducible repeat' first
    | assumption | apply pgLoad_keeps | apply State.setRhid_keeps | apply put_keeps | apply wr_keeps | apply ite_keeps

theorem pgTick_keeps {u₀ s : State} (hk : Keeps u₀ s) (f : Nat) :
    Keeps u₀ (pgTick f s) := by
  unfold pgTick
  with_reducible repeat' first
    | assumption | apply pgFirst_keeps | apply pgStep_keeps | apply traceSignal_keeps | apply put_keeps
    | apply wr_keeps | apply ite_keeps | refine each_keeps ?_ _ _ (fun _ _ _ => ?_)

theorem pgWrite_keeps {u₀ s : State} (hk : Keeps u₀ s) (j o : Nat) (v : Word) :
    Keeps u₀ (pgWrite j o v s) := by
  unfold pgWrite
  with_reducible repeat' first
    | assumption | apply storeReg_keeps | apply pgTarget_keeps | apply pgRefresh_keeps | apply put_keeps
    | apply wr_keeps | apply ite_keeps

theorem vsetWrite_keeps {u₀ s : State} (hk : Keeps u₀ s) (n : Nat) (v : Word) :
    Keeps u₀ (vsetWrite n v s) := by
  unfold vsetWrite
  with_reducible repeat' first
    | assumption | apply storeReg_keeps | apply pgTarget_keeps | apply put_keeps | apply wr_keeps | apply ite_keeps

/-! ### LoopOps -/

theorem State.setLoopHid_keeps {u₀ s : State} (hk : Keeps u₀ s) (k : Nat) (h : LoopHid) :
    Keeps u₀ (State.setLoopHid s k h) := by
  unfold State.setLoopHid
  with_reducible repeat' first
    | assumption | apply put_keeps | apply wr_keeps | apply ite_keeps | refine each_keeps ?_ _ _ (fun _ _ _ => ?_)
    | (refine snd_keeps (by assumption) ?_) | (refine snd3_keeps (by assumption) ?_)
    | fail_if_no_progress apply upd_keeps

theorem putSection_keeps {u₀ s : State} (hk : Keeps u₀ s) (k i : Nat) (p : Option Nat) (x1 x2 y1 y2 : Int) :
    Keeps u₀ (putSection k i p x1 x2 y1 y2 s) := by
  unfold putSection
  with_reducible repeat' first
    | assumption | apply State.wrI_keeps | apply put_keeps | apply wr_keeps | apply ite_keeps
    | refine each_keeps ?_ _ _ (fun _ _ _ => ?_) | (refine snd_keeps (by assumption) ?_)
    | (refine snd3_keeps (by assumption) ?_) | fail_if_no_progress apply upd_keeps | split

theorem clearSections_keeps {u₀ s : State} (hk : Keeps u₀ s) (k : Nat) (p : Option Nat) :
    Keeps u₀ (clearSections k p s) := by
  unfold clearSections
  with_reducible repeat' first
    | assumption | apply putSection_keeps | apply put_keeps | apply wr_keeps | apply ite_keeps
    | refine each_keeps ?_ _ _ (fun _ _ _ => ?_) | (refine snd_keeps (by assumption) ?_)
    | (refine snd3_keeps (by assumption) ?_) | fail_if_no_progress apply upd_keeps | split

theorem noteSaturation_keeps {u₀ s : State} (hk : Keeps u₀ s) (k : Nat) (inp out : Bool) (secs : List Nat) :
    Keeps u₀ (noteSaturation k inp out secs s) := by
  unfold noteSaturation
  with_reducible repeat' first
    | assumption | apply State.wrN_keeps | apply State.ring_keeps | apply traceTrigger_keeps | apply put_keeps
    | apply wr_keeps | apply ite_keeps

theorem loopCompute_keeps {u₀ s : State} (hk : Keeps u₀ s) (k : Nat) (h : LoopHdr) (p : Option Nat) (a b c : Int) :
    Keeps u₀ (loopCompute k h p a b c s).2 := by
  unfold loopCompute
  with_reducible repeat' first
    | assumption | apply putSection_keeps | apply State.wrI_keeps | apply traceSignal_keeps
    | apply noteSaturation_keeps | apply put_keeps | apply wr_keeps | apply ite_keeps
    | refine each_keeps ?_ _ _ (fun _ _ _ => ?_)

theorem balChannel_keeps {u₀ s : State} (hk : Keeps u₀ s) (k : Nat) (h : LoopHdr) (fresh : Bool) (p : Nat) :
    Keeps u₀ (balChannel k h fresh p s) := by
  unfold balChannel
  with_reducible repeat' first
    | assumption | apply State.setLoopHid_keeps | apply clearSections_keeps | apply loopCompute_keeps
    | apply put_keeps | apply wr_keeps | apply ite_keeps | refine each_keeps ?_ _ _ (fun _ _ _ => ?_)
    | (refine snd_keeps (by assumption) ?_) | (refine snd3_keeps (by assumption) ?_)
    | fail_if_no_progress apply upd_keeps | split

theorem loopTick_keeps {u₀ s : State} (hk : Keeps u₀ s) (k : Nat) :
    Keeps u₀ (loopTick k s) := by
  unfold loopTick
  with_reducible repeat' first
    | assumption | apply State.setLoopHid_keeps | apply balChannel_keeps | apply clearSections_keeps
    | apply loopCompute_keeps | apply put_keeps | apply wr_keeps | apply ite_keeps
    | refine each_keeps ?_ _ _ (fun _ _ _ => ?_) | (refine snd_keeps (by assumption) ?_)
    | (refine snd3_keeps (by assumption) ?_) | fail_if_no_progress apply upd_keeps | split

theorem loopApply_keeps {u₀ s : State} (hk : Keeps u₀ s) (k : Nat) (h : LoopHdr) (p : Option Nat) (u : Int) :
    Keeps u₀ (loopApply k h p u s) := by
  unfold loopApply
  with_reducible repeat' first
    | assumption | apply deliverTarget_keeps | apply State.setRhid_keeps | apply State.putI_keeps
    | apply traceSignal_keeps | apply put_keeps | apply wr_keeps | apply ite_keeps
    | refine each_keeps ?_ _ _ (fun _ _ _ => ?_) | (refine snd_keeps (by assumption) ?_)
    | (refine snd3_keeps (by assumption) ?_) | fail_if_no_progress apply upd_keeps | split

theorem applyOutputs_keeps {u₀ s : State} (hk : Keeps u₀ s) (f : Nat) :
    Keeps u₀ (applyOutputs f s) := by
  unfold applyOutputs
  with_reducible repeat' first
    | assumption | apply State.setLoopHid_keeps | apply loopApply_keeps | apply put_keeps | apply wr_keeps
    | apply ite_keeps | refine each_keeps ?_ _ _ (fun _ _ _ => ?_) | (refine snd_keeps (by assumption) ?_)
    | (refine snd3_keeps (by assumption) ?_) | fail_if_no_progress apply upd_keeps | split

theorem discardOutputs_keeps {u₀ s : State} (hk : Keeps u₀ s) :
    Keeps u₀ (discardOutputs s) := by
  unfold discardOutputs
  with_reducible repeat' first
    | assumption | apply State.setLoopHid_keeps | apply put_keeps | apply wr_keeps | apply ite_keeps
    | refine each_keeps ?_ _ _ (fun _ _ _ => ?_)

theorem sampleLoops_keeps {u₀ s : State} (hk : Keeps u₀ s) (f : Nat) :
    Keeps u₀ (sampleLoops f s) := by
  unfold sampleLoops
  with_reducible repeat' first
    | assumption | apply loopTick_keeps | apply put_keeps | apply wr_keeps | apply ite_keeps
    | refine each_keeps ?_ _ _ (fun _ _ _ => ?_)

theorem lpeCommitEnd_keeps {u₀ s : State} (hk : Keeps u₀ s) (res cause k : Nat) :
    Keeps u₀ (lpeCommitEnd res cause k s) := by
  unfold lpeCommitEnd
  with_reducible repeat' first
    | assumption | apply State.ring_keeps | apply put_keeps | apply wr_keeps | apply ite_keeps
    | refine each_keeps ?_ _ _ (fun _ _ _ => ?_) | (refine snd_keeps (by assumption) ?_)
    | (refine snd3_keeps (by assumption) ?_) | fail_if_no_progress apply upd_keeps

theorem lpeLoad_keeps {u₀ s : State} (hk : Keeps u₀ s) :
    Keeps u₀ (lpeLoad s) := by
  unfold lpeLoad
  with_reducible repeat' first | assumption | apply put_keeps

theorem lpeApplyCommit_keeps {u₀ s : State} (hk : Keeps u₀ s) :
    Keeps u₀ (lpeApplyCommit s) := by
  unfold lpeApplyCommit
  with_reducible repeat' first
    | assumption | apply State.setLoopHid_keeps | apply lpeLoad_keeps | apply lpeCommitEnd_keeps | apply put_keeps
    | apply wr_keeps | apply ite_keeps | refine each_keeps ?_ _ _ (fun _ _ _ => ?_)

theorem lpeApplyRevert_keeps {u₀ s : State} (hk : Keeps u₀ s) :
    Keeps u₀ (lpeApplyRevert s) := by
  unfold lpeApplyRevert
  with_reducible repeat' first
    | assumption | apply memWritten_keeps | apply put_keeps | apply wr_keeps | apply ite_keeps
    | refine each_keeps ?_ _ _ (fun _ _ _ => ?_)

theorem lpeCtrlWrite_keeps {u₀ s : State} (hk : Keeps u₀ s) (v : Word) :
    Keeps u₀ (lpeCtrlWrite v s) := by
  unfold lpeCtrlWrite
  with_reducible repeat' first
    | assumption | apply discardOutputs_keeps | apply put_keeps | apply wr_keeps | apply ite_keeps
    | refine each_keeps ?_ _ _ (fun _ _ _ => ?_) | (refine snd_keeps (by assumption) ?_)
    | (refine snd3_keeps (by assumption) ?_) | fail_if_no_progress apply upd_keeps

theorem balStateWrite_keeps {u₀ s : State} (hk : Keeps u₀ s) (a : Nat) (v : Word) :
    Keeps u₀ (balStateWrite a v s) := by
  unfold balStateWrite
  with_reducible repeat' first
    | assumption | apply storeReg_keeps | apply put_keeps | apply wr_keeps | apply ite_keeps

theorem lpePut_keeps {u₀ s : State} (hk : Keeps u₀ s) (a : Nat) (v : Word) :
    Keeps u₀ (lpePut a v s) := by
  unfold lpePut
  with_reducible repeat' first | assumption | apply memWritten_keeps | apply storeReg_keeps

theorem lpeMemWrite_keeps {u₀ s : State} (hk : Keeps u₀ s) (a : Nat) (v : Word) :
    Keeps u₀ (lpeMemWrite a v s) := by
  unfold lpeMemWrite
  with_reducible repeat' first | assumption | apply lpePut_keeps | apply put_keeps | apply wr_keeps | apply ite_keeps

theorem lpeWrite_keeps {u₀ s : State} (hk : Keeps u₀ s) (a : Nat) (v : Word) :
    Keeps u₀ (lpeWrite a v s) := by
  unfold lpeWrite
  with_reducible repeat' first
    | assumption | apply lpeMemWrite_keeps | apply balStateWrite_keeps | apply storeReg_keeps | apply put_keeps
    | apply wr_keeps | apply ite_keeps

/-! ### PostilionOps -/

theorem State.setCoreSt_keeps {u₀ s : State} (hk : Keeps u₀ s) (i : Nat) (c : CoreSt) :
    Keeps u₀ (State.setCoreSt s i c) := by
  unfold State.setCoreSt
  with_reducible repeat' first
    | assumption | apply put_keeps | apply wr_keeps | apply ite_keeps | refine each_keeps ?_ _ _ (fun _ _ _ => ?_)
    | (refine snd_keeps (by assumption) ?_) | (refine snd3_keeps (by assumption) ?_)
    | fail_if_no_progress apply upd_keeps

theorem wdogStart_keeps {u₀ s : State} (hk : Keeps u₀ s) (i : Nat) :
    Keeps u₀ (wdogStart i s) := by
  unfold wdogStart
  with_reducible repeat' first | assumption | apply State.setCoreSt_keeps

theorem wdogKeep_keeps {u₀ s : State} (hk : Keeps u₀ s) (i : Nat) :
    Keeps u₀ (wdogKeep i s) := by
  unfold wdogKeep
  with_reducible repeat' first | assumption | apply State.setCoreSt_keeps

theorem doorbellIn_keeps {u₀ s : State} (hk : Keeps u₀ s) (n : Nat) :
    Keeps u₀ (doorbellIn n s) := by
  unfold doorbellIn
  with_reducible repeat' first
    | assumption | apply put_keeps | apply wr_keeps | apply ite_keeps | refine each_keeps ?_ _ _ (fun _ _ _ => ?_)
    | (refine snd_keeps (by assumption) ?_) | (refine snd3_keeps (by assumption) ?_)
    | fail_if_no_progress apply upd_keeps

theorem coalesceRelease_keeps {u₀ s : State} (hk : Keeps u₀ s) (c : Nat) :
    Keeps u₀ (coalesceRelease c s) := by
  unfold coalesceRelease
  with_reducible repeat' first
    | assumption | apply put_keeps | apply wr_keeps | apply ite_keeps | refine each_keeps ?_ _ _ (fun _ _ _ => ?_)
    | (refine snd_keeps (by assumption) ?_) | (refine snd3_keeps (by assumption) ?_)
    | fail_if_no_progress apply upd_keeps

theorem acceptDoorbell_keeps {u₀ s : State} (hk : Keeps u₀ s) (n : Nat) :
    Keeps u₀ (acceptDoorbell n s) := by
  unfold acceptDoorbell
  with_reducible repeat' first
    | assumption | apply State.pulse_keeps | apply coalesceRelease_keeps | apply State.incSat_keeps
    | apply State.c0Enter_keeps | apply put_keeps | apply wr_keeps | apply ite_keeps
    | refine each_keeps ?_ _ _ (fun _ _ _ => ?_) | (refine snd_keeps (by assumption) ?_)
    | (refine snd3_keeps (by assumption) ?_) | fail_if_no_progress apply upd_keeps

theorem acceptNext_keeps {u₀ s : State} (hk : Keeps u₀ s) :
    Keeps u₀ (acceptNext s) := by
  unfold acceptNext
  with_reducible repeat' first
    | assumption | apply acceptDoorbell_keeps | apply put_keeps | apply wr_keeps | apply ite_keeps
    | refine each_keeps ?_ _ _ (fun _ _ _ => ?_) | (refine snd_keeps (by assumption) ?_)
    | (refine snd3_keeps (by assumption) ?_) | fail_if_no_progress apply upd_keeps | split

theorem wakeCore_keeps {u₀ s : State} (hk : Keeps u₀ s) (i : Nat) :
    Keeps u₀ (wakeCore i s) := by
  unfold wakeCore
  with_reducible repeat' first
    | assumption | apply wdogKeep_keeps | apply put_keeps | apply wr_keeps | apply ite_keeps

theorem bindSource_keeps {u₀ s : State} (hk : Keeps u₀ s) (n : Nat) :
    Keeps u₀ (bindSource n s) := by
  unfold bindSource
  with_reducible repeat' first
    | assumption | apply State.c0Leave_keeps | apply State.hostWrite_keeps | apply wakeCore_keeps | apply put_keeps
    | apply wr_keeps | apply ite_keeps | refine each_keeps ?_ _ _ (fun _ _ _ => ?_)
    | (refine snd_keeps (by assumption) ?_) | (refine snd3_keeps (by assumption) ?_)
    | fail_if_no_progress apply upd_keeps | split

theorem unbind_keeps {u₀ s : State} (hk : Keeps u₀ s) (n : Nat) :
    Keeps u₀ (unbind n s) := by
  unfold unbind
  with_reducible repeat' first
    | assumption | apply put_keeps | apply wr_keeps | apply ite_keeps | refine each_keeps ?_ _ _ (fun _ _ _ => ?_)
    | (refine snd_keeps (by assumption) ?_) | (refine snd3_keeps (by assumption) ?_)
    | fail_if_no_progress apply upd_keeps

theorem claim_keeps {u₀ s : State} (hk : Keeps u₀ s) (i : Nat) :
    Keeps u₀ (claim i s).2 := by
  unfold claim
  with_reducible repeat' first
    | assumption | apply put_keeps | apply wr_keeps | apply ite_keeps | refine each_keeps ?_ _ _ (fun _ _ _ => ?_)
    | (refine snd_keeps (by assumption) ?_) | (refine snd3_keeps (by assumption) ?_)
    | fail_if_no_progress apply upd_keeps | split | dsimp only

theorem complete_keeps {u₀ s : State} (hk : Keeps u₀ s) (i n : Nat) :
    Keeps u₀ (complete i n s) := by
  unfold complete
  with_reducible repeat' first | assumption | apply put_keeps | apply wr_keeps | apply ite_keeps

theorem hostClaim_keeps {u₀ s : State} (hk : Keeps u₀ s) :
    Keeps u₀ (hostClaim s).2 := by
  unfold hostClaim
  with_reducible repeat' first
    | assumption | apply unbind_keeps | apply put_keeps | apply wr_keeps | apply ite_keeps
    | refine each_keeps ?_ _ _ (fun _ _ _ => ?_) | (refine snd_keeps (by assumption) ?_)
    | (refine snd3_keeps (by assumption) ?_) | fail_if_no_progress apply upd_keeps | split | dsimp only

theorem coreLeave_keeps {u₀ s : State} (hk : Keeps u₀ s) (i : Nat) :
    Keeps u₀ (coreLeave i s) := by
  unfold coreLeave
  with_reducible repeat' first
    | assumption | apply unbind_keeps | apply put_keeps | apply wr_keeps | apply ite_keeps
    | refine each_keeps ?_ _ _ (fun _ _ _ => ?_)

theorem hostUnbind_keeps {u₀ s : State} (hk : Keeps u₀ s) :
    Keeps u₀ (hostUnbind s) := by
  unfold hostUnbind
  with_reducible repeat' first
    | assumption | apply unbind_keeps | apply put_keeps | apply wr_keeps | apply ite_keeps
    | refine each_keeps ?_ _ _ (fun _ _ _ => ?_)

theorem openWindow_keeps {u₀ s : State} (hk : Keeps u₀ s) (n : Nat) :
    Keeps u₀ (openWindow n s) := by
  unfold openWindow
  with_reducible repeat' first
    | assumption | apply put_keeps | apply wr_keeps | apply ite_keeps | refine each_keeps ?_ _ _ (fun _ _ _ => ?_)
    | (refine snd_keeps (by assumption) ?_) | (refine snd3_keeps (by assumption) ?_)
    | fail_if_no_progress apply upd_keeps

theorem maskWindowEnd_keeps {u₀ s : State} (hk : Keeps u₀ s) (n : Nat) :
    Keeps u₀ (maskWindowEnd n s) := by
  unfold maskWindowEnd
  with_reducible repeat' first
    | assumption | apply unbind_keeps | apply put_keeps | apply wr_keeps | apply ite_keeps
    | refine each_keeps ?_ _ _ (fun _ _ _ => ?_) | (refine snd_keeps (by assumption) ?_)
    | (refine snd3_keeps (by assumption) ?_) | fail_if_no_progress apply upd_keeps | split

theorem windowsCatch_keeps {u₀ s : State} (hk : Keeps u₀ s) :
    Keeps u₀ (windowsCatch s) := by
  unfold windowsCatch
  with_reducible repeat' first
    | assumption | apply maskWindowEnd_keeps | apply put_keeps | apply wr_keeps | apply ite_keeps
    | refine each_keeps ?_ _ _ (fun _ _ _ => ?_)

theorem bindAll_keeps {u₀ s : State} (hk : Keeps u₀ s) :
    Keeps u₀ (bindAll s) := by
  unfold bindAll
  with_reducible repeat' first
    | assumption | apply bindSource_keeps | apply put_keeps | apply wr_keeps | apply ite_keeps
    | refine each_keeps ?_ _ _ (fun _ _ _ => ?_)

theorem pstWork_keeps {u₀ s : State} (hk : Keeps u₀ s) :
    Keeps u₀ (pstWork s) := by
  unfold pstWork
  with_reducible repeat' first
    | assumption | apply bindAll_keeps | apply windowsCatch_keeps | apply coalesceRelease_keeps | apply put_keeps
    | apply wr_keeps | apply ite_keeps | refine each_keeps ?_ _ _ (fun _ _ _ => ?_)

theorem srcCfgWrite_keeps {u₀ s : State} (hk : Keeps u₀ s) (n : Nat) (v : Word) :
    Keeps u₀ (srcCfgWrite n v s) := by
  unfold srcCfgWrite
  with_reducible repeat' first
    | assumption | apply storeReg_keeps | apply State.c0Leave_keeps | apply openWindow_keeps | apply put_keeps
    | apply wr_keeps | apply ite_keeps

theorem srcStatWrite_keeps {u₀ s : State} (hk : Keeps u₀ s) (n : Nat) (v : Word) :
    Keeps u₀ (srcStatWrite n v s) := by
  unfold srcStatWrite
  with_reducible repeat' first
    | assumption | apply unbind_keeps | apply State.c0Leave_keeps | apply put_keeps | apply wr_keeps | apply ite_keeps

theorem pstCtrlWrite_keeps {u₀ s : State} (hk : Keeps u₀ s) (v : Word) :
    Keeps u₀ (pstCtrlWrite v s) := by
  unfold pstCtrlWrite
  with_reducible repeat' first
    | assumption | apply storeReg_keeps | apply openWindow_keeps | apply put_keeps | apply wr_keeps | apply ite_keeps
    | refine each_keeps ?_ _ _ (fun _ _ _ => ?_)

theorem tierWrite_keeps {u₀ s : State} (hk : Keeps u₀ s) (a : Nat) (v : Word) :
    Keeps u₀ (tierWrite a v s) := by
  unfold tierWrite
  with_reducible repeat' first
    | assumption | apply storeReg_keeps | apply put_keeps | apply wr_keeps | apply ite_keeps

theorem pstWrite_keeps {u₀ s : State} (hk : Keeps u₀ s) (a : Nat) (v : Word) :
    Keeps u₀ (pstWrite a v s) := by
  unfold pstWrite
  with_reducible repeat' first
    | assumption | apply pstCtrlWrite_keeps | apply tierWrite_keeps | apply doorbellIn_keeps | apply storeReg_keeps
    | apply srcCfgWrite_keeps | apply srcStatWrite_keeps | apply put_keeps | apply wr_keeps | apply ite_keeps

theorem edgeCaught_keeps {u₀ s : State} (hk : Keeps u₀ s) (e : Nat) (rising : Bool) :
    Keeps u₀ (edgeCaught e rising s) := by
  unfold edgeCaught
  with_reducible repeat' first
    | assumption | apply doorbellIn_keeps | apply put_keeps | apply wr_keeps | apply ite_keeps

theorem edgesRelease_keeps {u₀ s : State} (hk : Keeps u₀ s) :
    Keeps u₀ (edgesRelease s) := by
  unfold edgesRelease
  with_reducible repeat' first
    | assumption | apply put_keeps | apply wr_keeps | apply ite_keeps | refine each_keeps ?_ _ _ (fun _ _ _ => ?_)
    | (refine snd_keeps (by assumption) ?_) | (refine snd3_keeps (by assumption) ?_)
    | fail_if_no_progress apply upd_keeps

end Sys2Proof.Machine
end

