-- ==== Sys2Proof/Laws/KeepsPolicy.lean ====
section
/-! SUPPORT. Laws/KeepsPolicy.lean: what the shared operations of the other blocks keep. -/

namespace Sys2Proof.Machine

/-! ### OutriderOps -/

theorem dmaError_keeps {u₀ s : State} (hk : Keeps u₀ s) (unit addr : Nat) :
    Keeps u₀ (dmaError unit addr s) := by
  unfold dmaError
  with_reducible repeat' first
    | assumption | apply State.pulse_keeps | apply put_keeps | apply wr_keeps | apply ite_keeps
    | refine each_keeps ?_ _ _ (fun _ _ _ => ?_) | (refine snd_keeps (by assumption) ?_)
    | (refine snd3_keeps (by assumption) ?_) | fail_if_no_progress apply upd_keeps

theorem publish_keeps {u₀ s : State} (hk : Keeps u₀ s) (ws : List Word) (t : Nat) :
    Keeps u₀ (publish ws t s) := by
  unfold publish
  with_reducible repeat' first
    | assumption | apply State.addWrap_keeps | apply State.incSat_keeps | apply State.ring_keeps | apply put_keeps
    | apply wr_keeps | apply ite_keeps | refine each_keeps ?_ _ _ (fun _ _ _ => ?_)
    | (refine snd_keeps (by assumption) ?_) | (refine snd3_keeps (by assumption) ?_)
    | fail_if_no_progress apply upd_keeps

theorem publishZero_keeps {u₀ s : State} (hk : Keeps u₀ s) (t : Nat) :
    Keeps u₀ (publishZero t s) := by
  unfold publishZero
  with_reducible repeat' first
    | assumption | apply publish_keeps | apply put_keeps | apply wr_keeps | apply ite_keeps
    | refine each_keeps ?_ _ _ (fun _ _ _ => ?_) | (refine snd_keeps (by assumption) ?_)
    | (refine snd3_keeps (by assumption) ?_) | fail_if_no_progress apply upd_keeps

theorem odrFail_keeps {u₀ s : State} (hk : Keeps u₀ s) :
    Keeps u₀ (odrFail s) := by
  unfold odrFail
  with_reducible repeat' first
    | assumption | apply publishZero_keeps | apply State.ring_keeps | apply put_keeps | apply wr_keeps
    | apply ite_keeps

theorem odrPublish_keeps {u₀ s : State} (hk : Keeps u₀ s) (f : Nat) :
    Keeps u₀ (odrPublish f s) := by
  unfold odrPublish
  with_reducible repeat' first
    | assumption | apply publish_keeps | apply put_keeps | apply wr_keeps | apply ite_keeps
    | refine each_keeps ?_ _ _ (fun _ _ _ => ?_) | (refine snd_keeps (by assumption) ?_)
    | (refine snd3_keeps (by assumption) ?_) | fail_if_no_progress apply upd_keeps | split

theorem odrSample_keeps {u₀ s : State} (hk : Keeps u₀ s) (f : Nat) :
    Keeps u₀ (odrSample f s) := by
  unfold odrSample
  with_reducible repeat' first
    | assumption | apply odrFail_keeps | apply memUe_keeps | apply State.incSat_keeps | apply put_keeps
    | apply wr_keeps | apply ite_keeps | refine each_keeps ?_ _ _ (fun _ _ _ => ?_)
    | (refine snd_keeps (by assumption) ?_) | (refine snd3_keeps (by assumption) ?_)
    | fail_if_no_progress apply upd_keeps | split

theorem noteEngineEvents_keeps {u₀ s : State} (hk : Keeps u₀ s) (evs : List (Nat × Nat)) :
    Keeps u₀ (noteEngineEvents evs s) := by
  unfold noteEngineEvents
  with_reducible repeat' first
    | assumption | apply put_keeps | apply wr_keeps | apply ite_keeps | refine each_keeps ?_ _ _ (fun _ _ _ => ?_)
    | (refine snd_keeps (by assumption) ?_) | (refine snd3_keeps (by assumption) ?_)
    | fail_if_no_progress apply upd_keeps

theorem odrStartEnd_keeps {u₀ s : State} (hk : Keeps u₀ s) (res : Nat) :
    Keeps u₀ (odrStartEnd res s) := by
  unfold odrStartEnd
  with_reducible repeat' first | assumption | apply State.ring_keeps | apply put_keeps

theorem odrValidated_keeps {u₀ s : State} (hk : Keeps u₀ s) :
    Keeps u₀ (odrValidated s) := by
  unfold odrValidated
  with_reducible repeat' first
    | assumption | apply odrStartEnd_keeps | apply State.wrN_keeps | apply put_keeps | apply wr_keeps
    | apply ite_keeps

theorem odrRefuse_keeps {u₀ s : State} (hk : Keeps u₀ s) :
    Keeps u₀ (odrRefuse s) := by
  unfold odrRefuse
  with_reducible repeat' first | assumption | apply State.ring_keeps | apply put_keeps

theorem odrStop_keeps {u₀ s : State} (hk : Keeps u₀ s) :
    Keeps u₀ (odrStop s) := by
  unfold odrStop
  with_reducible repeat' first
    | assumption | apply odrStartEnd_keeps | apply publishZero_keeps | apply put_keeps | apply wr_keeps
    | apply ite_keeps

theorem outCtlWrite_keeps {u₀ s : State} (hk : Keeps u₀ s) (v : Word) :
    Keeps u₀ (outCtlWrite v s) := by
  unfold outCtlWrite
  with_reducible repeat' first
    | assumption | apply odrRefuse_keeps | apply storeReg_keeps | apply odrStop_keeps | apply odrStartEnd_keeps
    | apply put_keeps | apply wr_keeps | apply ite_keeps

theorem odrDmaEnd_keeps {u₀ s : State} (hk : Keeps u₀ s) (res : Nat) :
    Keeps u₀ (odrDmaEnd res s) := by
  unfold odrDmaEnd
  with_reducible repeat' first | assumption | apply State.ring_keeps | apply put_keeps

theorem outDmaWrite_keeps {u₀ s : State} (hk : Keeps u₀ s) (v : Word) :
    Keeps u₀ (outDmaWrite v s) := by
  unfold outDmaWrite
  with_reducible repeat' first
    | assumption | apply odrDmaEnd_keeps | apply put_keeps | apply wr_keeps | apply ite_keeps
    | refine each_keeps ?_ _ _ (fun _ _ _ => ?_) | (refine snd_keeps (by assumption) ?_)
    | (refine snd3_keeps (by assumption) ?_) | fail_if_no_progress apply upd_keeps

theorem outDmaDone_keeps {u₀ s : State} (hk : Keeps u₀ s) (ws : List Word) (ok : Bool) :
    Keeps u₀ (outDmaDone ws ok s) := by
  unfold outDmaDone
  with_reducible repeat' first
    | assumption | apply memWritten_keeps | apply odrDmaEnd_keeps | apply dmaError_keeps | apply put_keeps
    | apply wr_keeps | apply ite_keeps | refine each_keeps ?_ _ _ (fun _ _ _ => ?_)
    | (refine snd_keeps (by assumption) ?_) | (refine snd3_keeps (by assumption) ?_)
    | fail_if_no_progress apply upd_keeps

theorem odrWrite_keeps {u₀ s : State} (hk : Keeps u₀ s) (a : Nat) (v : Word) :
    Keeps u₀ (odrWrite a v s) := by
  unfold odrWrite
  with_reducible repeat' first
    | assumption | apply outCtlWrite_keeps | apply outDmaWrite_keeps | apply odrRefuse_keeps | apply memWritten_keeps
    | apply storeReg_keeps | apply put_keeps | apply wr_keeps | apply ite_keeps

/-! ### PowerOps -/

theorem pwrEvent_keeps {u₀ s : State} (hk : Keeps u₀ s) (f : Fld) (off : Nat) :
    Keeps u₀ (pwrEvent f off s) := by
  unfold pwrEvent
  with_reducible repeat' first | assumption | apply State.ring_keeps | apply put_keeps

theorem State.setPrgn_keeps {u₀ s : State} (hk : Keeps u₀ s) (n : Nat) (h : PwrRgn) :
    Keeps u₀ (State.setPrgn s n h) := by
  unfold State.setPrgn
  with_reducible repeat' first
    | assumption | apply put_keeps | apply wr_keeps | apply ite_keeps | refine each_keeps ?_ _ _ (fun _ _ _ => ?_)
    | (refine snd_keeps (by assumption) ?_) | (refine snd3_keeps (by assumption) ?_)
    | fail_if_no_progress apply upd_keeps

theorem State.setWgrp_keeps {u₀ s : State} (hk : Keeps u₀ s) (g : Nat) (h : WblGrp) :
    Keeps u₀ (State.setWgrp s g h) := by
  unfold State.setWgrp
  with_reducible repeat' first
    | assumption | apply put_keeps | apply wr_keeps | apply ite_keeps | refine each_keeps ?_ _ _ (fun _ _ _ => ?_)
    | (refine snd_keeps (by assumption) ?_) | (refine snd3_keeps (by assumption) ?_)
    | fail_if_no_progress apply upd_keeps

theorem policyVset_keeps {u₀ s : State} (hk : Keeps u₀ s) (n i : Nat) :
    Keeps u₀ (policyVset n i s) := by
  unfold policyVset
  with_reducible repeat' first | assumption | apply vsetWrite_keeps

theorem freqRequest_keeps {u₀ s : State} (hk : Keeps u₀ s) (n f : Nat) :
    Keeps u₀ (freqRequest n f s) := by
  unfold freqRequest
  with_reducible repeat' first
    | assumption | apply pwrEvent_keeps | apply put_keeps | apply wr_keeps | apply ite_keeps

theorem moveAtOnce_keeps {u₀ s : State} (hk : Keeps u₀ s) (n t : Nat) :
    Keeps u₀ (moveAtOnce n t s) := by
  unfold moveAtOnce
  with_reducible repeat' first | assumption | apply policyVset_keeps | apply State.setPrgn_keeps | apply put_keeps

theorem moveStart_keeps {u₀ s : State} (hk : Keeps u₀ s) (n t : Nat) :
    Keeps u₀ (moveStart n t s) := by
  unfold moveStart
  with_reducible repeat' first
    | assumption | apply moveAtOnce_keeps | apply policyVset_keeps | apply State.setPrgn_keeps
    | apply freqRequest_keeps | apply put_keeps | apply wr_keeps | apply ite_keeps

theorem pointReport_keeps {u₀ s : State} (hk : Keeps u₀ s) (n : Nat) :
    Keeps u₀ (pointReport n s) := by
  unfold pointReport
  with_reducible repeat' first
    | assumption | apply State.putB_keeps | apply put_keeps | apply wr_keeps | apply ite_keeps

theorem pointTick_keeps {u₀ s : State} (hk : Keeps u₀ s) (n : Nat) :
    Keeps u₀ (pointTick n s) := by
  unfold pointTick
  with_reducible repeat' first
    | assumption | apply freqRequest_keeps | apply State.setPrgn_keeps | apply moveAtOnce_keeps
    | apply moveStart_keeps | apply put_keeps | apply wr_keeps | apply ite_keeps
    | refine each_keeps ?_ _ _ (fun _ _ _ => ?_) | (refine snd_keeps (by assumption) ?_)
    | (refine snd3_keeps (by assumption) ?_) | fail_if_no_progress apply upd_keeps | split

theorem moveUpDone_keeps {u₀ s : State} (hk : Keeps u₀ s) (n : Nat) :
    Keeps u₀ (moveUpDone n s) := by
  unfold moveUpDone
  with_reducible repeat' first
    | assumption | apply freqRequest_keeps | apply State.setPrgn_keeps | apply put_keeps | apply wr_keeps
    | apply ite_keeps | refine each_keeps ?_ _ _ (fun _ _ _ => ?_) | (refine snd_keeps (by assumption) ?_)
    | (refine snd3_keeps (by assumption) ?_) | fail_if_no_progress apply upd_keeps | split

theorem freqAck_keeps {u₀ s : State} (hk : Keeps u₀ s) (n : Nat) (v : Word) :
    Keeps u₀ (freqAck n v s) := by
  unfold freqAck
  with_reducible repeat' first
    | assumption | apply storeReg_keeps | apply policyVset_keeps | apply State.setPrgn_keeps | apply put_keeps
    | apply wr_keeps | apply ite_keeps | refine each_keeps ?_ _ _ (fun _ _ _ => ?_)
    | (refine snd_keeps (by assumption) ?_) | (refine snd3_keeps (by assumption) ?_)
    | fail_if_no_progress apply upd_keeps | split | dsimp only

theorem ackTimeout_keeps {u₀ s : State} (hk : Keeps u₀ s) (n : Nat) :
    Keeps u₀ (ackTimeout n s) := by
  unfold ackTimeout
  with_reducible repeat' first
    | assumption | apply pwrEvent_keeps | apply put_keeps | apply wr_keeps | apply ite_keeps
    | refine each_keeps ?_ _ _ (fun _ _ _ => ?_) | (refine snd_keeps (by assumption) ?_)
    | (refine snd3_keeps (by assumption) ?_) | fail_if_no_progress apply upd_keeps | split

theorem opValidate_keeps {u₀ s : State} (hk : Keeps u₀ s) :
    Keeps u₀ (opValidate s) := by
  unfold opValidate
  with_reducible repeat' first
    | assumption | apply pwrEvent_keeps | apply put_keeps | apply wr_keeps | apply ite_keeps
    | refine each_keeps ?_ _ _ (fun _ _ _ => ?_) | (refine snd_keeps (by assumption) ?_)
    | (refine snd3_keeps (by assumption) ?_) | fail_if_no_progress apply upd_keeps | split | dsimp only

theorem pwrCtrlWrite_keeps {u₀ s : State} (hk : Keeps u₀ s) (v : Word) :
    Keeps u₀ (pwrCtrlWrite v s) := by
  unfold pwrCtrlWrite
  with_reducible repeat' first
    | assumption | apply storeReg_keeps | apply put_keeps | apply wr_keeps | apply ite_keeps
    | refine each_keeps ?_ _ _ (fun _ _ _ => ?_) | (refine snd_keeps (by assumption) ?_)
    | (refine snd3_keeps (by assumption) ?_) | fail_if_no_progress apply upd_keeps

theorem opWrite_keeps {u₀ s : State} (hk : Keeps u₀ s) (n i : Nat) (v : Word) :
    Keeps u₀ (opWrite n i v s) := by
  unfold opWrite
  with_reducible repeat' first
    | assumption | apply storeReg_keeps | apply put_keeps | apply wr_keeps | apply ite_keeps

theorem estimateRegion_keeps {u₀ s : State} (hk : Keeps u₀ s) (n : Nat) :
    Keeps u₀ (estimateRegion n s) := by
  unfold estimateRegion
  with_reducible repeat' first
    | assumption | apply State.putOr_keeps | apply State.setPrgn_keeps | apply State.setWgrp_keeps | apply put_keeps
    | apply wr_keeps | apply ite_keeps | refine each_keeps ?_ _ _ (fun _ _ _ => ?_)

theorem measureRegion_keeps {u₀ s : State} (hk : Keeps u₀ s) (n : Nat) :
    Keeps u₀ (measureRegion n s) := by
  unfold measureRegion
  with_reducible repeat' first
    | assumption | apply State.roundOpen_keeps | apply State.putOr_keeps | apply State.setPrgn_keeps

theorem powerEstimate_keeps {u₀ s : State} (hk : Keeps u₀ s) :
    Keeps u₀ (powerEstimate s) := by
  unfold powerEstimate
  with_reducible repeat' first
    | assumption | apply estimateRegion_keeps | apply measureRegion_keeps | apply put_keeps | apply wr_keeps
    | apply ite_keeps | refine each_keeps ?_ _ _ (fun _ _ _ => ?_) | (refine snd_keeps (by assumption) ?_)
    | (refine snd3_keeps (by assumption) ?_) | fail_if_no_progress apply upd_keeps

theorem calSnapshot_keeps {u₀ s : State} (hk : Keeps u₀ s) :
    Keeps u₀ (calSnapshot s) := by
  unfold calSnapshot
  with_reducible repeat' first
    | assumption | apply State.put64_keeps | apply State.wrN_keeps | apply State.setPrgn_keeps | apply pwrEvent_keeps
    | apply put_keeps | apply wr_keeps | apply ite_keeps | refine each_keeps ?_ _ _ (fun _ _ _ => ?_)
    | (refine snd_keeps (by assumption) ?_) | (refine snd3_keeps (by assumption) ?_)
    | fail_if_no_progress apply upd_keeps

theorem coeffApply_keeps {u₀ s : State} (hk : Keeps u₀ s) :
    Keeps u₀ (coeffApply s) := by
  unfold coeffApply
  with_reducible repeat' first
    | assumption | apply State.addWrap_keeps | apply put_keeps | apply wr_keeps | apply ite_keeps
    | refine each_keeps ?_ _ _ (fun _ _ _ => ?_)

theorem capTick_keeps {u₀ s : State} (hk : Keeps u₀ s) :
    Keeps u₀ (capTick s) := by
  unfold capTick
  with_reducible repeat' first
    | assumption | apply put_keeps | apply wr_keeps | apply ite_keeps | refine each_keeps ?_ _ _ (fun _ _ _ => ?_)

theorem energyTick_keeps {u₀ s : State} (hk : Keeps u₀ s) :
    Keeps u₀ (energyTick s) := by
  unfold energyTick
  with_reducible repeat' first
    | assumption | apply State.setPrgn_keeps | apply State.put64At_keeps | apply State.setWgrp_keeps | apply put_keeps
    | apply wr_keeps | apply ite_keeps | refine each_keeps ?_ _ _ (fun _ _ _ => ?_)
    | (refine snd_keeps (by assumption) ?_) | (refine snd3_keeps (by assumption) ?_)
    | fail_if_no_progress apply upd_keeps

theorem levelTick_keeps {u₀ s : State} (hk : Keeps u₀ s) :
    Keeps u₀ (levelTick s) := by
  unfold levelTick
  with_reducible repeat' first
    | assumption | apply State.putI_keeps | apply put_keeps | apply wr_keeps | apply ite_keeps
    | refine each_keeps ?_ _ _ (fun _ _ _ => ?_) | (refine snd_keeps (by assumption) ?_)
    | (refine snd3_keeps (by assumption) ?_) | fail_if_no_progress apply upd_keeps

theorem pointsTick_keeps {u₀ s : State} (hk : Keeps u₀ s) :
    Keeps u₀ (pointsTick s) := by
  unfold pointsTick
  with_reducible repeat' first
    | assumption | apply pointTick_keeps | apply pointReport_keeps | apply put_keeps | apply wr_keeps
    | apply ite_keeps | refine each_keeps ?_ _ _ (fun _ _ _ => ?_)

theorem capStep_keeps {u₀ s : State} (hk : Keeps u₀ s) (m share : Nat) :
    Keeps u₀ (capStep m share s) := by
  unfold capStep
  with_reducible repeat' first
    | assumption | apply State.putI_keeps | apply pwrEvent_keeps | apply State.incSat_keeps | apply put_keeps
    | apply wr_keeps | apply ite_keeps | refine each_keeps ?_ _ _ (fun _ _ _ => ?_)
    | (refine snd_keeps (by assumption) ?_) | (refine snd3_keeps (by assumption) ?_)
    | fail_if_no_progress apply upd_keeps

theorem takeShare_keeps {u₀ s : State} (hk : Keeps u₀ s) :
    Keeps u₀ (takeShare s) := by
  unfold takeShare
  with_reducible repeat' first
    | assumption | apply pwrEvent_keeps | apply put_keeps | apply wr_keeps | apply ite_keeps
    | refine each_keeps ?_ _ _ (fun _ _ _ => ?_) | (refine snd_keeps (by assumption) ?_)
    | (refine snd3_keeps (by assumption) ?_) | fail_if_no_progress apply upd_keeps | split

theorem capBoundary_keeps {u₀ s : State} (hk : Keeps u₀ s) :
    Keeps u₀ (capBoundary s) := by
  unfold capBoundary
  with_reducible repeat' first
    | assumption | apply takeShare_keeps | apply State.putOr_keeps | apply capStep_keeps | apply put_keeps
    | apply wr_keeps | apply ite_keeps | refine each_keeps ?_ _ _ (fun _ _ _ => ?_)
    | (refine snd_keeps (by assumption) ?_) | (refine snd3_keeps (by assumption) ?_)
    | fail_if_no_progress apply upd_keeps

theorem shareReport_keeps {u₀ s : State} (hk : Keeps u₀ s) (k m : Nat) :
    Keeps u₀ (shareReport k m s) := by
  unfold shareReport
  with_reducible repeat' first
    | assumption | apply put_keeps | apply wr_keeps | apply ite_keeps | refine each_keeps ?_ _ _ (fun _ _ _ => ?_)
    | (refine snd_keeps (by assumption) ?_) | (refine snd3_keeps (by assumption) ?_)
    | fail_if_no_progress apply upd_keeps

theorem shareCompute_keeps {u₀ s : State} (hk : Keeps u₀ s) :
    Keeps u₀ (shareCompute s) := by
  unfold shareCompute
  with_reducible repeat' first
    | assumption | apply put_keeps | apply wr_keeps | apply ite_keeps | refine each_keeps ?_ _ _ (fun _ _ _ => ?_)
    | (refine snd_keeps (by assumption) ?_) | (refine snd3_keeps (by assumption) ?_)
    | fail_if_no_progress apply upd_keeps

theorem shareReceive_keeps {u₀ s : State} (hk : Keeps u₀ s) (m : ShareMsg) :
    Keeps u₀ (shareReceive m s) := by
  unfold shareReceive
  with_reducible repeat' first
    | assumption | apply State.putB_keeps | apply put_keeps | apply wr_keeps | apply ite_keeps
    | refine each_keeps ?_ _ _ (fun _ _ _ => ?_) | (refine snd_keeps (by assumption) ?_)
    | (refine snd3_keeps (by assumption) ?_) | fail_if_no_progress apply upd_keeps

theorem wblWrite_keeps {u₀ s : State} (hk : Keeps u₀ s) (rec : List Word) (left : Option Nat) :
    Keeps u₀ (wblWrite rec left s).2.2 := by
  unfold wblWrite
  with_reducible repeat' first
    | assumption | apply pwrEvent_keeps | apply State.incSat_keeps | apply State.addWrap_keeps | apply dmaError_keeps
    | apply State.hostWrite_keeps | apply put_keeps | apply wr_keeps | apply ite_keeps
    | refine each_keeps ?_ _ _ (fun _ _ _ => ?_) | (refine snd_keeps (by assumption) ?_)
    | (refine snd3_keeps (by assumption) ?_) | fail_if_no_progress apply upd_keeps | split | dsimp only

theorem waybillEnd_keeps {u₀ s : State} (hk : Keeps u₀ s) (fail : Option Nat) :
    Keeps u₀ (waybillEnd fail s) := by
  unfold waybillEnd
  with_reducible repeat' first
    | assumption | apply State.put64_keeps | apply wblWrite_keeps | apply pwrEvent_keeps
    | refine fold3_keeps ?_ _ _ (fun _ _ _ => ?_) | apply put_keeps | apply wr_keeps | apply ite_keeps
    | refine each_keeps ?_ _ _ (fun _ _ _ => ?_) | (refine snd_keeps (by assumption) ?_)
    | (refine snd3_keeps (by assumption) ?_) | fail_if_no_progress apply upd_keeps | split

theorem pwrBounds_keeps {u₀ s : State} (hk : Keeps u₀ s) :
    Keeps u₀ (pwrBounds s) := by
  unfold pwrBounds
  with_reducible repeat' first
    | assumption | apply coeffApply_keeps | apply powerEstimate_keeps | apply calSnapshot_keeps
    | apply waybillEnd_keeps | apply capBoundary_keeps | apply put_keeps | apply wr_keeps | apply ite_keeps

theorem pwrTick_keeps {u₀ s : State} (hk : Keeps u₀ s) :
    Keeps u₀ (pwrTick s) := by
  unfold pwrTick
  with_reducible repeat' first
    | assumption | apply pointsTick_keeps | apply levelTick_keeps | apply energyTick_keeps | apply pwrBounds_keeps
    | apply capTick_keeps | apply put_keeps | apply wr_keeps | apply ite_keeps

theorem capCfgWrite_keeps {u₀ s : State} (hk : Keeps u₀ s) (v : Word) :
    Keeps u₀ (capCfgWrite v s) := by
  unfold capCfgWrite
  with_reducible repeat' first
    | assumption | apply storeReg_keeps | apply put_keeps | apply wr_keeps | apply ite_keeps

theorem pwrWrite_keeps {u₀ s : State} (hk : Keeps u₀ s) (a : Nat) (v : Word) :
    Keeps u₀ (pwrWrite a v s) := by
  unfold pwrWrite
  with_reducible repeat' first
    | assumption | apply pwrCtrlWrite_keeps | apply storeReg_keeps | apply capCfgWrite_keeps | apply opWrite_keeps
    | apply freqAck_keeps | apply put_keeps | apply wr_keeps | apply ite_keeps

/-! ### TimeOps -/

theorem tsAdjWrite_keeps {u₀ s : State} (hk : Keeps u₀ s) (v : Word) :
    Keeps u₀ (tsAdjWrite v s) := by
  unfold tsAdjWrite
  with_reducible repeat' first
    | assumption | apply State.putI_keeps | apply State.newCycle_keeps | apply put_keeps | apply wr_keeps
    | apply ite_keeps | refine each_keeps ?_ _ _ (fun _ _ _ => ?_) | (refine snd_keeps (by assumption) ?_)
    | (refine snd3_keeps (by assumption) ?_) | fail_if_no_progress apply upd_keeps

theorem slewStep_keeps {u₀ s : State} (hk : Keeps u₀ s) :
    Keeps u₀ (slewStep s) := by
  unfold slewStep
  with_reducible repeat' first
    | assumption | apply State.passEdges_keeps | apply put_keeps | apply wr_keeps | apply ite_keeps

/-! ### CouplerOps -/

theorem cplrEvent_keeps {u₀ s : State} (hk : Keeps u₀ s) (f : Fld) (off : Nat) :
    Keeps u₀ (cplrEvent f off s) := by
  unfold cplrEvent
  with_reducible repeat' first | assumption | apply State.ring_keeps | apply put_keeps

theorem cplrOvf_keeps {u₀ s : State} (hk : Keeps u₀ s) (f : Fld) :
    Keeps u₀ (cplrOvf f s) := by
  unfold cplrOvf
  with_reducible repeat' first | assumption | apply cplrEvent_keeps | apply put_keeps

theorem cplrCfg_keeps {u₀ s : State} (hk : Keeps u₀ s) (f : Fld) :
    Keeps u₀ (cplrCfg f s) := by
  unfold cplrCfg
  with_reducible repeat' first | assumption | apply cplrEvent_keeps | apply put_keeps

theorem State.setCep_keeps {u₀ s : State} (hk : Keeps u₀ s) (e : Nat) (h : CplrEp) :
    Keeps u₀ (State.setCep s e h) := by
  unfold State.setCep
  with_reducible repeat' first
    | assumption | apply put_keeps | apply wr_keeps | apply ite_keeps | refine each_keeps ?_ _ _ (fun _ _ _ => ?_)
    | (refine snd_keeps (by assumption) ?_) | (refine snd3_keeps (by assumption) ?_)
    | fail_if_no_progress apply upd_keeps

theorem State.setCslot_keeps {u₀ s : State} (hk : Keeps u₀ s) (x : Nat) (h : CplrSlot) :
    Keeps u₀ (State.setCslot s x h) := by
  unfold State.setCslot
  with_reducible repeat' first
    | assumption | apply put_keeps | apply wr_keeps | apply ite_keeps | refine each_keeps ?_ _ _ (fun _ _ _ => ?_)
    | (refine snd_keeps (by assumption) ?_) | (refine snd3_keeps (by assumption) ?_)
    | fail_if_no_progress apply upd_keeps

theorem cplrSend_keeps {u₀ s : State} (hk : Keeps u₀ s) (e : Nat) (ws : List Word) :
    Keeps u₀ (cplrSend e ws s) := by
  unfold cplrSend
  with_reducible repeat' first
    | assumption | apply put_keeps | apply wr_keeps | apply ite_keeps | refine each_keeps ?_ _ _ (fun _ _ _ => ?_)
    | (refine snd_keeps (by assumption) ?_) | (refine snd3_keeps (by assumption) ?_)
    | fail_if_no_progress apply upd_keeps

theorem cplrSendDown_keeps {u₀ s : State} (hk : Keeps u₀ s) (ws : List Word) :
    Keeps u₀ (cplrSendDown ws s) := by
  unfold cplrSendDown
  with_reducible repeat' first
    | assumption | apply cplrSend_keeps | apply put_keeps | apply wr_keeps | apply ite_keeps
    | refine each_keeps ?_ _ _ (fun _ _ _ => ?_)

theorem cplrSendUp_keeps {u₀ s : State} (hk : Keeps u₀ s) (ws : List Word) :
    Keeps u₀ (cplrSendUp ws s) := by
  unfold cplrSendUp
  with_reducible repeat' first
    | assumption | apply cplrSend_keeps | apply put_keeps | apply wr_keeps | apply ite_keeps
    | refine each_keeps ?_ _ _ (fun _ _ _ => ?_)

theorem sendHello_keeps {u₀ s : State} (hk : Keeps u₀ s) (e : Nat) :
    Keeps u₀ (sendHello e s) := by
  unfold sendHello
  with_reducible repeat' first
    | assumption | apply State.setCep_keeps | apply put_keeps | apply wr_keeps | apply ite_keeps
    | refine each_keeps ?_ _ _ (fun _ _ _ => ?_) | (refine snd_keeps (by assumption) ?_)
    | (refine snd3_keeps (by assumption) ?_) | fail_if_no_progress apply upd_keeps

theorem cplrRefresh_keeps {u₀ s : State} (hk : Keeps u₀ s) :
    Keeps u₀ (cplrRefresh s) := by
  unfold cplrRefresh
  with_reducible repeat' first
    | assumption | apply State.putB_keeps | apply cplrEvent_keeps | apply put_keeps | apply wr_keeps | apply ite_keeps

theorem cocapRequests_keeps {u₀ s : State} (hk : Keeps u₀ s) :
    Keeps u₀ (cocapRequests s) := by
  unfold cocapRequests
  with_reducible repeat' first
    | assumption | apply reinCombine_keeps | apply put_keeps | apply wr_keeps | apply ite_keeps
    | refine each_keeps ?_ _ _ (fun _ _ _ => ?_)

theorem putGrate_keeps {u₀ s : State} (hk : Keeps u₀ s) (x r : Nat) :
    Keeps u₀ (putGrate x r s) := by
  unfold putGrate
  with_reducible repeat' first
    | assumption | apply cplrEvent_keeps | apply put_keeps | apply wr_keeps | apply ite_keeps

theorem cocapSlot_keeps {u₀ s : State} (hk : Keeps u₀ s) (x r e : Nat) :
    Keeps u₀ (cocapSlot x r e s) := by
  unfold cocapSlot
  with_reducible repeat' first
    | assumption | apply putGrate_keeps | apply State.incSat_keeps | apply State.setCslot_keeps | apply cplrOvf_keeps
    | apply put_keeps | apply wr_keeps | apply ite_keeps

theorem cocapPass_keeps {u₀ s : State} (hk : Keeps u₀ s) (gid r e : Nat) :
    Keeps u₀ (cocapPass gid r e s) := by
  unfold cocapPass
  with_reducible repeat' first
    | assumption | apply cplrSendDown_keeps | apply cocapRequests_keeps | apply cocapSlot_keeps | apply put_keeps
    | apply wr_keeps | apply ite_keeps | refine each_keeps ?_ _ _ (fun _ _ _ => ?_)
    | (refine snd_keeps (by assumption) ?_) | (refine snd3_keeps (by assumption) ?_)
    | fail_if_no_progress apply upd_keeps

theorem aggReport_keeps {u₀ s : State} (hk : Keeps u₀ s) (gid r : Nat) :
    Keeps u₀ (aggReport gid r s) := by
  unfold aggReport
  with_reducible repeat' first
    | assumption | apply cocapPass_keeps | apply cplrSendUp_keeps | apply put_keeps | apply wr_keeps | apply ite_keeps

theorem aggPut_keeps {u₀ s : State} (hk : Keeps u₀ s) (gid key r : Nat) :
    Keeps u₀ (aggPut gid key r s) := by
  unfold aggPut
  with_reducible repeat' first
    | assumption | apply aggReport_keeps | apply cplrOvf_keeps | apply put_keeps | apply wr_keeps | apply ite_keeps
    | refine each_keeps ?_ _ _ (fun _ _ _ => ?_) | (refine snd_keeps (by assumption) ?_)
    | (refine snd3_keeps (by assumption) ?_) | fail_if_no_progress apply upd_keeps | split | dsimp only

theorem announceAll_keeps {u₀ s : State} (hk : Keeps u₀ s) :
    Keeps u₀ (announceAll s) := by
  unfold announceAll
  with_reducible repeat' first
    | assumption | apply aggPut_keeps | apply put_keeps | apply wr_keeps | apply ite_keeps
    | refine each_keeps ?_ _ _ (fun _ _ _ => ?_)

theorem reinAll_keeps {u₀ s : State} (hk : Keeps u₀ s) :
    Keeps u₀ (reinAll s) := by
  unfold reinAll
  with_reducible repeat' first | assumption | apply announceAll_keeps | apply reinCombine_keeps

theorem State.working_keeps {u₀ s : State} (hk : Keeps u₀ s) (k : State → State) (h_k : ∀ s, Keeps u₀ s → Keeps u₀ (k s)) :
    Keeps u₀ (State.working s k) := by
  unfold State.working
  with_reducible repeat' first
    | assumption | refine State.running_keeps ?_ _ (fun _ _ => ?_) | apply reinAll_keeps | apply h_k

theorem slotsApply_keeps {u₀ s : State} (hk : Keeps u₀ s) :
    Keeps u₀ (slotsApply s) := by
  unfold slotsApply
  with_reducible repeat' first
    | assumption | apply putGrate_keeps | apply aggPut_keeps | apply State.setCslot_keeps | apply announceAll_keeps
    | apply cocapRequests_keeps | apply put_keeps | apply wr_keeps | apply ite_keeps
    | refine each_keeps ?_ _ _ (fun _ _ _ => ?_)

theorem cocapAdopt_keeps {u₀ s : State} (hk : Keeps u₀ s) :
    Keeps u₀ (cocapAdopt s) := by
  unfold cocapAdopt
  with_reducible repeat' first
    | assumption | apply cocapRequests_keeps | apply putGrate_keeps | apply State.setCslot_keeps | apply put_keeps
    | apply wr_keeps | apply ite_keeps | refine each_keeps ?_ _ _ (fun _ _ _ => ?_)
    | (refine snd_keeps (by assumption) ?_) | (refine snd3_keeps (by assumption) ?_)
    | fail_if_no_progress apply upd_keeps | split | dsimp only

theorem emRefresh_keeps {u₀ s : State} (hk : Keeps u₀ s) :
    Keeps u₀ (emRefresh s) := by
  unfold emRefresh
  with_reducible repeat' first
    | assumption | apply reinAll_keeps | apply cplrEvent_keeps | apply put_keeps | apply wr_keeps | apply ite_keeps
    | refine each_keeps ?_ _ _ (fun _ _ _ => ?_)

theorem emPut_keeps {u₀ s : State} (hk : Keeps u₀ s) (i issuer seq rate expire : Nat) :
    Keeps u₀ (emPut i issuer seq rate expire s) := by
  unfold emPut
  with_reducible repeat' first | assumption | apply put_keeps

theorem emDrop_keeps {u₀ s : State} (hk : Keeps u₀ s) (i : Nat) :
    Keeps u₀ (emDrop i s) := by
  unfold emDrop
  with_reducible repeat' first | assumption | apply put_keeps | apply wr_keeps

theorem emApply_keeps {u₀ s : State} (hk : Keeps u₀ s) (issuer seq rate expire : Nat) :
    Keeps u₀ (emApply issuer seq rate expire s) := by
  unfold emApply
  with_reducible repeat' first
    | assumption | apply State.c0Touch_keeps | apply emDrop_keeps | apply emPut_keeps | apply cplrOvf_keeps
    | apply emRefresh_keeps | apply put_keeps | apply wr_keeps | apply ite_keeps
    | refine each_keeps ?_ _ _ (fun _ _ _ => ?_) | (refine snd_keeps (by assumption) ?_)
    | (refine snd3_keeps (by assumption) ?_) | fail_if_no_progress apply upd_keeps | split

theorem emExpire_keeps {u₀ s : State} (hk : Keeps u₀ s) :
    Keeps u₀ (emExpire s) := by
  unfold emExpire
  with_reducible repeat' first
    | assumption | apply emRefresh_keeps | apply emDrop_keeps | apply put_keeps | apply wr_keeps | apply ite_keeps
    | refine each_keeps ?_ _ _ (fun _ _ _ => ?_)

theorem emIssue_keeps {u₀ s : State} (hk : Keeps u₀ s) (v : Word) :
    Keeps u₀ (emIssue v s) := by
  unfold emIssue
  with_reducible repeat' first
    | assumption | apply emApply_keeps | apply cplrSendDown_keeps | apply put_keeps | apply wr_keeps | apply ite_keeps
    | refine each_keeps ?_ _ _ (fun _ _ _ => ?_) | (refine snd_keeps (by assumption) ?_)
    | (refine snd3_keeps (by assumption) ?_) | fail_if_no_progress apply upd_keeps

theorem envCurrent_keeps {u₀ s : State} (hk : Keeps u₀ s) (p : EnvPoint) :
    Keeps u₀ (envCurrent p s) := by
  unfold envCurrent
  with_reducible repeat' first
    | assumption | apply State.putB_keeps | apply cplrEvent_keeps | apply put_keeps | apply wr_keeps | apply ite_keeps
    | refine each_keeps ?_ _ _ (fun _ _ _ => ?_) | (refine snd_keeps (by assumption) ?_)
    | (refine snd3_keeps (by assumption) ?_) | fail_if_no_progress apply upd_keeps

theorem envTake_keeps {u₀ s : State} (hk : Keeps u₀ s) (p : EnvPoint) :
    Keeps u₀ (envTake p s) := by
  unfold envTake
  with_reducible repeat' first
    | assumption | apply cplrSendDown_keeps | apply envCurrent_keeps | apply put_keeps | apply wr_keeps
    | apply ite_keeps | refine each_keeps ?_ _ _ (fun _ _ _ => ?_) | (refine snd_keeps (by assumption) ?_)
    | (refine snd3_keeps (by assumption) ?_) | fail_if_no_progress apply upd_keeps

theorem envDue_keeps {u s : State} (h : Keeps u s) (l : List EnvPoint) : Keeps u (envDue l s) := by
  induction l generalizing s with
  | nil => exact h
  | cons p rest ih =>
    unfold envDue
    exact ite_keeps (ih (envCurrent_keeps (upd_keeps h ..) p)) h

theorem envIssue_keeps {u₀ s : State} (hk : Keeps u₀ s) (v : Word) :
    Keeps u₀ (envIssue v s) := by
  unfold envIssue
  with_reducible repeat' first
    | assumption | apply envTake_keeps | apply cplrCfg_keeps | apply put_keeps | apply wr_keeps | apply ite_keeps

theorem envTarget_keeps {u₀ s : State} (hk : Keeps u₀ s) :
    Keeps u₀ (envTarget s) := by
  unfold envTarget
  with_reducible repeat' first
    | assumption | apply State.putOr_keeps | apply State.putI_keeps | apply cplrCfg_keeps | apply pgTarget_keeps
    | apply put_keeps | apply wr_keeps | apply ite_keeps | refine each_keeps ?_ _ _ (fun _ _ _ => ?_)
    | (refine snd_keeps (by assumption) ?_) | (refine snd3_keeps (by assumption) ?_)
    | fail_if_no_progress apply upd_keeps

theorem envWindowEnd_keeps {u₀ s : State} (hk : Keeps u₀ s) :
    Keeps u₀ (envWindowEnd s) := by
  unfold envWindowEnd
  with_reducible repeat' first
    | assumption | apply State.putB_keeps | apply State.drawFree_keeps | apply State.roundOpen_keeps
    | apply State.putI_keeps | apply put_keeps | apply wr_keeps | apply ite_keeps
    | refine each_keeps ?_ _ _ (fun _ _ _ => ?_) | (refine snd_keeps (by assumption) ?_)
    | (refine snd3_keeps (by assumption) ?_) | fail_if_no_progress apply upd_keeps

theorem applyTheta_keeps {u₀ s : State} (hk : Keeps u₀ s) (theta : Int) :
    Keeps u₀ (applyTheta theta s) := by
  unfold applyTheta
  with_reducible repeat' first
    | assumption | apply State.putI_keeps | apply State.putB_keeps | apply tsAdjWrite_keeps | apply put_keeps
    | apply wr_keeps | apply ite_keeps

theorem unmeasure_keeps {u₀ s : State} (hk : Keeps u₀ s) :
    Keeps u₀ (unmeasure s) := by
  unfold unmeasure
  with_reducible repeat' first | assumption | apply put_keeps

theorem peerAbsent_keeps {u₀ s : State} (hk : Keeps u₀ s) (e : Nat) :
    Keeps u₀ (peerAbsent e s) := by
  unfold peerAbsent
  with_reducible repeat' first
    | assumption | apply cplrRefresh_keeps | apply cplrEvent_keeps | apply aggPut_keeps | apply unmeasure_keeps
    | apply put_keeps | apply wr_keeps | apply ite_keeps | refine each_keeps ?_ _ _ (fun _ _ _ => ?_)

theorem peerReturn_keeps {u₀ s : State} (hk : Keeps u₀ s) (e : Nat) :
    Keeps u₀ (peerReturn e s) := by
  unfold peerReturn
  with_reducible repeat' first
    | assumption | apply cplrRefresh_keeps | apply cplrEvent_keeps | apply cplrSend_keeps | apply put_keeps
    | apply wr_keeps | apply ite_keeps | refine each_keeps ?_ _ _ (fun _ _ _ => ?_)
    | (refine snd_keeps (by assumption) ?_) | (refine snd3_keeps (by assumption) ?_)
    | fail_if_no_progress apply upd_keeps | split

theorem heartbeatIn_keeps {u₀ s : State} (hk : Keeps u₀ s) (e : Nat) :
    Keeps u₀ (heartbeatIn e s) := by
  unfold heartbeatIn
  with_reducible repeat' first
    | assumption | apply State.setCep_keeps | apply peerReturn_keeps | apply put_keeps | apply wr_keeps
    | apply ite_keeps

theorem epochEnd_keeps {u₀ s : State} (hk : Keeps u₀ s) (e : Nat) :
    Keeps u₀ (epochEnd e s) := by
  unfold epochEnd
  with_reducible repeat' first
    | assumption | apply State.setCep_keeps | apply State.incSat_keeps | apply peerAbsent_keeps | apply put_keeps
    | apply wr_keeps | apply ite_keeps

theorem cplrEpoch_keeps {u₀ s : State} (hk : Keeps u₀ s) :
    Keeps u₀ (cplrEpoch s) := by
  unfold cplrEpoch
  with_reducible repeat' first
    | assumption | apply epochEnd_keeps | apply cocapAdopt_keeps | apply slotsApply_keeps | apply emExpire_keeps
    | apply envTarget_keeps | apply envDue_keeps | apply sendHello_keeps | apply cplrSend_keeps
    | apply applyTheta_keeps | apply put_keeps | apply wr_keeps | apply ite_keeps
    | refine each_keeps ?_ _ _ (fun _ _ _ => ?_) | (refine snd_keeps (by assumption) ?_)
    | (refine snd3_keeps (by assumption) ?_) | fail_if_no_progress apply upd_keeps

theorem cplrCtrlWrite_keeps {u₀ s : State} (hk : Keeps u₀ s) (v : Word) :
    Keeps u₀ (cplrCtrlWrite v s) := by
  unfold cplrCtrlWrite
  with_reducible repeat' first
    | assumption | apply storeReg_keeps | apply cplrCfg_keeps | apply State.setCep_keeps | apply cplrRefresh_keeps
    | apply sendHello_keeps | apply put_keeps | apply wr_keeps | apply ite_keeps
    | refine each_keeps ?_ _ _ (fun _ _ _ => ?_)

theorem txCommand_keeps {u₀ s : State} (hk : Keeps u₀ s) (q : Nat) (v : Word) :
    Keeps u₀ (txCommand q v s) := by
  unfold txCommand
  with_reducible repeat' first
    | assumption | apply put_keeps | apply wr_keeps | apply ite_keeps | refine each_keeps ?_ _ _ (fun _ _ _ => ?_)
    | (refine snd_keeps (by assumption) ?_) | (refine snd3_keeps (by assumption) ?_)
    | fail_if_no_progress apply upd_keeps

theorem txDrain_keeps {u₀ s : State} (hk : Keeps u₀ s) :
    Keeps u₀ (txDrain s) := by
  unfold txDrain
  with_reducible repeat' first
    | assumption | apply put_keeps | apply wr_keeps | apply ite_keeps | refine each_keeps ?_ _ _ (fun _ _ _ => ?_)
    | (refine snd_keeps (by assumption) ?_) | (refine snd3_keeps (by assumption) ?_)
    | fail_if_no_progress apply upd_keeps | split

theorem rwLand_keeps {u₀ s : State} (hk : Keeps u₀ s) (off be : Nat) (lo hi : Word) :
    Keeps u₀ (rwLand off be lo hi s) := by
  unfold rwLand
  with_reducible repeat' first | assumption | apply memWritten_keeps | apply put_keeps | apply wr_keeps

theorem rwPut_keeps {u₀ s : State} (hk : Keeps u₀ s) (peer win : Nat) (w : Option RwWindow) :
    Keeps u₀ (rwPut peer win w s) := by
  unfold rwPut
  with_reducible repeat' first
    | assumption | apply put_keeps | apply wr_keeps | apply ite_keeps | refine each_keeps ?_ _ _ (fun _ _ _ => ?_)
    | (refine snd_keeps (by assumption) ?_) | (refine snd3_keeps (by assumption) ?_)
    | fail_if_no_progress apply upd_keeps

theorem rwAccept_keeps {u₀ s : State} (hk : Keeps u₀ s) (peer win be : Nat) (commit : Bool) (seq off : Nat) (lo hi : Word) :
    Keeps u₀ (rwAccept peer win be commit seq off lo hi s) := by
  unfold rwAccept
  with_reducible repeat' first
    | assumption | apply State.incSat_keeps | apply cplrOvf_keeps | apply rwPut_keeps | apply rwLand_keeps
    | apply put_keeps | apply wr_keeps | apply ite_keeps | refine each_keeps ?_ _ _ (fun _ _ _ => ?_)
    | (refine snd_keeps (by assumption) ?_) | (refine snd3_keeps (by assumption) ?_)
    | fail_if_no_progress apply upd_keeps

theorem commitLand_keeps {u₀ s : State} (hk : Keeps u₀ s) (w : RwWindow) (h : HeldCommit) (incomplete : Bool) :
    Keeps u₀ (commitLand w h incomplete s) := by
  unfold commitLand
  with_reducible repeat' first
    | assumption | apply rwPut_keeps | apply rwLand_keeps | apply cplrEvent_keeps | apply put_keeps | apply wr_keeps
    | apply ite_keeps | refine each_keeps ?_ _ _ (fun _ _ _ => ?_) | (refine snd_keeps (by assumption) ?_)
    | (refine snd3_keeps (by assumption) ?_) | fail_if_no_progress apply upd_keeps

theorem completionRead_keeps {u₀ s : State} (hk : Keeps u₀ s) (req : Requester) :
    Keeps u₀ (completionRead req s) := by
  unfold completionRead
  with_reducible repeat' first
    | assumption | apply State.answer_keeps | apply put_keeps | apply wr_keeps | apply ite_keeps
    | refine each_keeps ?_ _ _ (fun _ _ _ => ?_) | (refine snd_keeps (by assumption) ?_)
    | (refine snd3_keeps (by assumption) ?_) | fail_if_no_progress apply upd_keeps | split

theorem cplrWrite_keeps {u₀ s : State} (hk : Keeps u₀ s) (a : Nat) (v : Word) :
    Keeps u₀ (cplrWrite a v s) := by
  unfold cplrWrite
  with_reducible repeat' first
    | assumption | apply cplrCtrlWrite_keeps | apply storeReg_keeps | apply emIssue_keeps | apply envIssue_keeps
    | apply txCommand_keeps | apply memWritten_keeps | apply put_keeps | apply wr_keeps | apply ite_keeps

/-! ### Cells -/

theorem healthAround_keeps {u₀ s : State} (hk : Keeps u₀ s) (n : Nat) (c : Nat) :
    Keeps u₀ (healthAround n c s) := by
  unfold healthAround
  with_reducible repeat' first
    | assumption | apply healthCheck_keeps | apply put_keeps | apply wr_keeps | apply ite_keeps

theorem undoKeep_keeps {u₀ s : State} (hk : Keeps u₀ s) (c st : Nat) :
    Keeps u₀ (undoKeep c st s) := by
  unfold undoKeep
  with_reducible repeat' first | assumption | apply State.setChid_keeps

theorem cmdDemote_keeps {u₀ s : State} (hk : Keeps u₀ s) (c : Nat) :
    Keeps u₀ (cmdDemote c s) := by
  unfold cmdDemote
  with_reducible repeat' first
    | assumption | apply cellCmdDone_keeps | apply healthAround_keeps | apply settle_keeps | apply undoKeep_keeps
    | apply put_keeps | apply wr_keeps | apply ite_keeps

theorem cmdJoin_keeps {u₀ s : State} (hk : Keeps u₀ s) (c : Nat) :
    Keeps u₀ (cmdJoin c s) := by
  unfold cmdJoin
  with_reducible repeat' first
    | assumption | apply State.setChid_keeps | apply cellCmdDone_keeps | apply put_keeps | apply wr_keeps
    | apply ite_keeps

theorem cmdRecouple_keeps {u₀ s : State} (hk : Keeps u₀ s) (c : Nat) :
    Keeps u₀ (cmdRecouple c s) := by
  unfold cmdRecouple
  with_reducible repeat' first
    | assumption | apply State.setChid_keeps | apply cellCmdDone_keeps | apply put_keeps | apply wr_keeps
    | apply ite_keeps

theorem cmdEnterTest_keeps {u₀ s : State} (hk : Keeps u₀ s) (c : Nat) :
    Keeps u₀ (cmdEnterTest c s) := by
  unfold cmdEnterTest
  with_reducible repeat' first
    | assumption | apply cellCmdDone_keeps | apply putCellState_keeps | apply undoKeep_keeps | apply put_keeps
    | apply wr_keeps | apply ite_keeps

theorem cmdExitTest_keeps {u₀ s : State} (hk : Keeps u₀ s) (c : Nat) :
    Keeps u₀ (cmdExitTest c s) := by
  unfold cmdExitTest
  with_reducible repeat' first
    | assumption | apply settle_keeps | apply testFail_keeps | apply undoKeep_keeps | apply healthAround_keeps
    | apply cellCmdDone_keeps | apply State.setChid_keeps | apply put_keeps | apply wr_keeps | apply ite_keeps

theorem cmdUncouple_keeps {u₀ s : State} (hk : Keeps u₀ s) (c : Nat) :
    Keeps u₀ (cmdUncouple c s) := by
  unfold cmdUncouple
  with_reducible repeat' first
    | assumption | apply cellCmdDone_keeps | apply uncoupleCell_keeps | apply undoKeep_keeps | apply put_keeps
    | apply wr_keeps | apply ite_keeps

theorem cellCommand_keeps {u₀ s : State} (hk : Keeps u₀ s) (c op : Nat) :
    Keeps u₀ (cellCommand c op s) := by
  unfold cellCommand
  with_reducible repeat' first
    | assumption | apply cellCmdDone_keeps | apply cmdDemote_keeps | apply cmdJoin_keeps | apply cmdRecouple_keeps
    | apply cmdEnterTest_keeps | apply cmdExitTest_keeps | apply cmdUncouple_keeps | apply put_keeps | apply wr_keeps
    | apply ite_keeps | refine each_keeps ?_ _ _ (fun _ _ _ => ?_) | (refine snd_keeps (by assumption) ?_)
    | (refine snd3_keeps (by assumption) ?_) | fail_if_no_progress apply upd_keeps | split

theorem cellCmdWrite_keeps {u₀ s : State} (hk : Keeps u₀ s) (req : Requester) (c op : Nat) :
    Keeps u₀ (cellCmdWrite req c op s) := by
  unfold cellCmdWrite
  with_reducible repeat' first
    | assumption | refine gated_keeps ?_ _ _ _ _ (fun _ _ _ => ?_) | apply reinAll_keeps | apply cellCommand_keeps

theorem execNop_keeps {u₀ s : State} (hk : Keeps u₀ s) (req : Requester) (c : CellIx) :
    ∃ s', execNop req c s = .next s' ∧ Keeps u₀ s' := by
  unfold execNop
  refine ⟨_, rfl, ?_⟩
  with_reducible repeat' first | assumption | apply cellCmdWrite_keeps

theorem execDemote_keeps {u₀ s : State} (hk : Keeps u₀ s) (req : Requester) (c : CellIx) :
    ∃ s', execDemote req c s = .next s' ∧ Keeps u₀ s' := by
  unfold execDemote
  refine ⟨_, rfl, ?_⟩
  with_reducible repeat' first | assumption | apply cellCmdWrite_keeps

theorem execJoin_keeps {u₀ s : State} (hk : Keeps u₀ s) (req : Requester) (c : CellIx) :
    ∃ s', execJoin req c s = .next s' ∧ Keeps u₀ s' := by
  unfold execJoin
  refine ⟨_, rfl, ?_⟩
  with_reducible repeat' first | assumption | apply cellCmdWrite_keeps

theorem execRecouple_keeps {u₀ s : State} (hk : Keeps u₀ s) (req : Requester) (c : CellIx) :
    ∃ s', execRecouple req c s = .next s' ∧ Keeps u₀ s' := by
  unfold execRecouple
  refine ⟨_, rfl, ?_⟩
  with_reducible repeat' first | assumption | apply cellCmdWrite_keeps

theorem execEnterTest_keeps {u₀ s : State} (hk : Keeps u₀ s) (req : Requester) (c : CellIx) :
    ∃ s', execEnterTest req c s = .next s' ∧ Keeps u₀ s' := by
  unfold execEnterTest
  refine ⟨_, rfl, ?_⟩
  with_reducible repeat' first | assumption | apply cellCmdWrite_keeps

theorem execExitTest_keeps {u₀ s : State} (hk : Keeps u₀ s) (req : Requester) (c : CellIx) :
    ∃ s', execExitTest req c s = .next s' ∧ Keeps u₀ s' := by
  unfold execExitTest
  refine ⟨_, rfl, ?_⟩
  with_reducible repeat' first | assumption | apply cellCmdWrite_keeps

theorem execUncouple_keeps {u₀ s : State} (hk : Keeps u₀ s) (req : Requester) (c : CellIx) :
    ∃ s', execUncouple req c s = .next s' ∧ Keeps u₀ s' := by
  unfold execUncouple
  refine ⟨_, rfl, ?_⟩
  with_reducible repeat' first | assumption | apply cellCmdWrite_keeps

theorem execCellCmdReserved_keeps {u₀ s : State} (hk : Keeps u₀ s) (req : Requester) (c : CellIx) (op : BitVec 4) :
    ∃ s', execCellCmdReserved req c op s = .next s' ∧ Keeps u₀ s' := by
  unfold execCellCmdReserved
  refine ⟨_, rfl, ?_⟩
  with_reducible repeat' first | assumption | apply cellCmdWrite_keeps

theorem snsRunsEnd_keeps {u₀ s : State} (hk : Keeps u₀ s) (c mask : Nat) :
    Keeps u₀ (snsRunsEnd c mask s) := by
  unfold snsRunsEnd
  with_reducible repeat' first | assumption | apply State.setChid_keeps

theorem snsWrite_keeps {u₀ s : State} (hk : Keeps u₀ s) (c : Nat) (v : Word) :
    Keeps u₀ (snsWrite c v s) := by
  unfold snsWrite
  with_reducible repeat' first
    | assumption | apply storeReg_keeps | apply snsRunsEnd_keeps | apply put_keeps | apply wr_keeps | apply ite_keeps
    | refine each_keeps ?_ _ _ (fun _ _ _ => ?_)

theorem execCellSnsWrite_keeps {u₀ s : State} (hk : Keeps u₀ s) (req : Requester) (c : CellIx) (excl : BitVec 4) :
    ∃ s', execCellSnsWrite req c excl s = .next s' ∧ Keeps u₀ s' := by
  unfold execCellSnsWrite
  refine ⟨_, rfl, ?_⟩
  with_reducible repeat' first
    | assumption | refine gated_keeps ?_ _ _ _ _ (fun _ _ _ => ?_) | apply reinAll_keeps | apply snsWrite_keeps

theorem execSensorExclusion_keeps {u₀ s : State} (hk : Keeps u₀ s) (c : CellIx) (j : Fin 4) (cause : Nat) :
    ∃ s', execSensorExclusion c j cause s = .next s' ∧ Keeps u₀ s' := by
  unfold execSensorExclusion
  refine ⟨_, rfl, ?_⟩
  with_reducible repeat' first
    | assumption | refine State.working_keeps ?_ _ (fun _ _ => ?_) | apply sensorExclude_keeps | apply put_keeps
    | apply wr_keeps | apply ite_keeps | refine each_keeps ?_ _ _ (fun _ _ _ => ?_)
    | (refine snd_keeps (by assumption) ?_) | (refine snd3_keeps (by assumption) ?_)
    | fail_if_no_progress apply upd_keeps | split

theorem execBlendFrameBoundary_keeps {u₀ s : State} (hk : Keeps u₀ s) (c : CellIx) :
    ∃ s', execBlendFrameBoundary c s = .next s' ∧ Keeps u₀ s' := by
  unfold execBlendFrameBoundary
  refine ⟨_, rfl, ?_⟩
  with_reducible repeat' first
    | assumption | refine State.working_keeps ?_ _ (fun _ _ => ?_) | apply blendFrame_keeps | apply put_keeps
    | apply wr_keeps | apply ite_keeps

theorem windowCompare_keeps {u₀ s : State} (hk : Keeps u₀ s) (c uv : Nat) :
    Keeps u₀ (windowCompare c uv s) := by
  unfold windowCompare
  with_reducible repeat' first | assumption | apply State.putB_keeps

theorem execWindowCrossing_keeps {u₀ s : State} (hk : Keeps u₀ s) (c : CellIx) (uv : Nat) :
    ∃ s', execWindowCrossing c uv s = .next s' ∧ Keeps u₀ s' := by
  unfold execWindowCrossing
  refine ⟨_, rfl, ?_⟩
  with_reducible repeat' first
    | assumption | refine State.working_keeps ?_ _ (fun _ _ => ?_) | apply windowCompare_keeps | apply put_keeps
    | apply wr_keeps | apply ite_keeps

theorem execCellCurrentLimit_keeps {u₀ s : State} (hk : Keeps u₀ s) (c : CellIx) (r : LimitReading) :
    ∃ s', execCellCurrentLimit c r s = .next s' ∧ Keeps u₀ s' := by
  unfold execCellCurrentLimit
  refine ⟨_, rfl, ?_⟩
  with_reducible repeat' first
    | assumption | refine State.working_keeps ?_ _ (fun _ _ => ?_) | apply limitReached_keeps | apply put_keeps
    | apply wr_keeps | apply ite_keeps

theorem execFoldback_keeps {u₀ s : State} (hk : Keeps u₀ s) (c : CellIx) :
    ∃ s', execFoldback c s = .next s' ∧ Keeps u₀ s' := by
  unfold execFoldback
  refine ⟨_, rfl, ?_⟩
  with_reducible repeat' first
    | assumption | refine State.working_keeps ?_ _ (fun _ _ => ?_) | apply foldCheck_keeps | apply seaCatch_keeps

theorem execFoldbackRecovery_keeps {u₀ s : State} (hk : Keeps u₀ s) (c : CellIx) :
    ∃ s', execFoldbackRecovery c s = .next s' ∧ Keeps u₀ s' := by
  unfold execFoldbackRecovery
  refine ⟨_, rfl, ?_⟩
  with_reducible repeat' first
    | assumption | refine State.working_keeps ?_ _ (fun _ _ => ?_) | apply seaCatch_keeps | apply foldCheck_keeps
    | apply put_keeps | apply wr_keeps | apply ite_keeps

theorem execCellPrechargeDone_keeps {u₀ s : State} (hk : Keeps u₀ s) (c : CellIx) :
    ∃ s', execCellPrechargeDone c s = .next s' ∧ Keeps u₀ s' := by
  unfold execCellPrechargeDone
  refine ⟨_, rfl, ?_⟩
  with_reducible repeat' first
    | assumption | refine State.working_keeps ?_ _ (fun _ _ => ?_) | apply undoKeep_keeps | apply putCellState_keeps
    | apply State.setChid_keeps | apply deliverTarget_keeps | apply cellCmdDone_keeps | apply put_keeps
    | apply wr_keeps | apply ite_keeps

theorem execCellSelfcheckDone_keeps {u₀ s : State} (hk : Keeps u₀ s) (c : CellIx) (pass : Bool) :
    ∃ s', execCellSelfcheckDone c pass s = .next s' ∧ Keeps u₀ s' := by
  unfold execCellSelfcheckDone
  refine ⟨_, rfl, ?_⟩
  with_reducible repeat' first
    | assumption | refine State.working_keeps ?_ _ (fun _ _ => ?_) | apply undoKeep_keeps | apply settle_keeps
    | apply healthAround_keeps | apply cellCmdDone_keeps | apply put_keeps | apply wr_keeps | apply ite_keeps

theorem undoCommand_keeps {u₀ s : State} (hk : Keeps u₀ s) (c : Nat) :
    Keeps u₀ (undoCommand c s) := by
  unfold undoCommand
  with_reducible repeat' first
    | assumption | apply State.setChid_keeps | apply putCellState_keeps | apply tieSync_keeps | apply State.wrN_keeps
    | apply put_keeps | apply wr_keeps | apply ite_keeps | refine each_keeps ?_ _ _ (fun _ _ _ => ?_)
    | (refine snd_keeps (by assumption) ?_) | (refine snd3_keeps (by assumption) ?_)
    | fail_if_no_progress apply upd_keeps | split | dsimp only

theorem cellFail_keeps {u₀ s : State} (hk : Keeps u₀ s) (c cause : Nat) :
    Keeps u₀ (cellFail c cause s) := by
  unfold cellFail
  with_reducible repeat' first
    | assumption | apply undoCommand_keeps | apply State.setChid_keeps | apply testFail_keeps
    | apply uncoupleCell_keeps | apply put_keeps | apply wr_keeps | apply ite_keeps

theorem execCellFailure_keeps {u₀ s : State} (hk : Keeps u₀ s) (t : Dword) (c : CellIx) (cause : Nat) :
    ∃ s', execCellFailure t c cause s = .next s' ∧ Keeps u₀ s' := by
  unfold execCellFailure
  refine ⟨_, rfl, ?_⟩
  with_reducible repeat' first
    | assumption | refine State.working_keeps ?_ _ (fun _ _ => ?_) | apply State.advanceTo_keeps
    | apply cellFail_keeps | apply put_keeps | apply wr_keeps | apply ite_keeps

theorem testWrite_keeps {u₀ s : State} (hk : Keeps u₀ s) (c : Nat) (v : Word) :
    Keeps u₀ (testWrite c v s) := by
  unfold testWrite
  with_reducible repeat' first
    | assumption | apply testFail_keeps | apply storeReg_keeps | apply put_keeps | apply wr_keeps | apply ite_keeps

theorem execCellTestStart_keeps {u₀ s : State} (hk : Keeps u₀ s) (req : Requester) (c : CellIx) (value : Word) :
    ∃ s', execCellTestStart req c value s = .next s' ∧ Keeps u₀ s' := by
  unfold execCellTestStart
  refine ⟨_, rfl, ?_⟩
  with_reducible repeat' first | assumption | refine gated_keeps ?_ _ _ _ _ (fun _ _ _ => ?_) | apply testWrite_keeps

theorem execCellTestAbandon_keeps {u₀ s : State} (hk : Keeps u₀ s) (req : Requester) (c : CellIx) (value : Word) :
    ∃ s', execCellTestAbandon req c value s = .next s' ∧ Keeps u₀ s' := by
  unfold execCellTestAbandon
  refine ⟨_, rfl, ?_⟩
  with_reducible repeat' first | assumption | refine gated_keeps ?_ _ _ _ _ (fun _ _ _ => ?_) | apply testWrite_keeps

theorem cellTestDone_keeps {u₀ s : State} (hk : Keeps u₀ s) (c : Nat) (r : TestResult) :
    Keeps u₀ (cellTestDone c r s) := by
  unfold cellTestDone
  with_reducible repeat' first
    | assumption | apply testFail_keeps | apply put_keeps | apply wr_keeps | apply ite_keeps
    | refine each_keeps ?_ _ _ (fun _ _ _ => ?_) | (refine snd_keeps (by assumption) ?_)
    | (refine snd3_keeps (by assumption) ?_) | fail_if_no_progress apply upd_keeps | split

theorem execCellTestDone_keeps {u₀ s : State} (hk : Keeps u₀ s) (c : CellIx) (resa : BitVec 13) (resb : TestB) (complete : Bool) :
    ∃ s', execCellTestDone c resa resb complete s = .next s' ∧ Keeps u₀ s' := by
  unfold execCellTestDone
  refine ⟨_, rfl, ?_⟩
  with_reducible repeat' first
    | assumption | refine State.working_keeps ?_ _ (fun _ _ => ?_) | apply cellTestDone_keeps

theorem cellIslandGood_keeps {u₀ s : State} (hk : Keeps u₀ s) :
    Keeps u₀ (cellIslandGood s) := by
  unfold cellIslandGood
  with_reducible repeat' first
    | assumption | apply unpark_keeps | apply releaseCells_keeps | apply healthCheck_keeps | apply put_keeps
    | apply wr_keeps | apply ite_keeps | refine each_keeps ?_ _ _ (fun _ _ _ => ?_)

theorem execCellIslandGood_keeps {u₀ s : State} (hk : Keeps u₀ s) (t : Dword) :
    ∃ s', execCellIslandGood t s = .next s' ∧ Keeps u₀ s' := by
  unfold execCellIslandGood
  refine ⟨_, rfl, ?_⟩
  with_reducible repeat' first
    | assumption | apply reinAll_keeps | apply cellIslandGood_keeps | apply State.advanceTo_keeps | apply put_keeps
    | apply wr_keeps | apply ite_keeps

theorem cellIslandLoss_keeps {u₀ s : State} (hk : Keeps u₀ s) :
    Keeps u₀ (cellIslandLoss s) := by
  unfold cellIslandLoss
  with_reducible repeat' first
    | assumption | apply prechargeAbandon_keeps | apply settle_keeps | apply healthCheck_keeps | apply put_keeps
    | apply wr_keeps | apply ite_keeps | refine each_keeps ?_ _ _ (fun _ _ _ => ?_)

theorem execCellIslandLoss_keeps {u₀ s : State} (hk : Keeps u₀ s) (t : Dword) :
    ∃ s', execCellIslandLoss t s = .next s' ∧ Keeps u₀ s' := by
  unfold execCellIslandLoss
  refine ⟨_, rfl, ?_⟩
  with_reducible repeat' first
    | assumption | apply reinAll_keeps | apply cellIslandLoss_keeps | apply State.advanceTo_keeps | apply put_keeps
    | apply wr_keeps | apply ite_keeps

/-! ### ThermalOps -/

theorem State.setTsen_keeps {u₀ s : State} (hk : Keeps u₀ s) (x : Nat) (h : ThmSensor) :
    Keeps u₀ (State.setTsen s x h) := by
  unfold State.setTsen
  with_reducible repeat' first
    | assumption | apply put_keeps | apply wr_keeps | apply ite_keeps | refine each_keeps ?_ _ _ (fun _ _ _ => ?_)
    | (refine snd_keeps (by assumption) ?_) | (refine snd3_keeps (by assumption) ?_)
    | fail_if_no_progress apply upd_keeps

theorem State.setTgrp_keeps {u₀ s : State} (hk : Keeps u₀ s) (q : Nat) (h : ThmGroup) :
    Keeps u₀ (State.setTgrp s q h) := by
  unfold State.setTgrp
  with_reducible repeat' first
    | assumption | apply put_keeps | apply wr_keeps | apply ite_keeps | refine each_keeps ?_ _ _ (fun _ _ _ => ?_)
    | (refine snd_keeps (by assumption) ?_) | (refine snd3_keeps (by assumption) ?_)
    | fail_if_no_progress apply upd_keeps

theorem thmEvent_keeps {u₀ s : State} (hk : Keeps u₀ s) (f : Fld) (o : Nat) :
    Keeps u₀ (thmEvent f o s) := by
  unfold thmEvent
  with_reducible repeat' first | assumption | apply State.ring_keeps | apply put_keeps

theorem thmDemand_keeps {u₀ s : State} (hk : Keeps u₀ s) (src q : Nat) :
    Keeps u₀ (thmDemand src q s) := by
  unfold thmDemand
  with_reducible repeat' first
    | assumption | apply State.setTgrp_keeps | apply State.incSat_keeps | apply put_keeps | apply wr_keeps
    | apply ite_keeps

theorem thmDemandAll_keeps {u₀ s : State} (hk : Keeps u₀ s) (src : Nat) :
    Keeps u₀ (thmDemandAll src s) := by
  unfold thmDemandAll
  with_reducible repeat' first
    | assumption | apply thmDemand_keeps | apply put_keeps | apply wr_keeps | apply ite_keeps
    | refine each_keeps ?_ _ _ (fun _ _ _ => ?_)

theorem thmDemandMask_keeps {u₀ s : State} (hk : Keeps u₀ s) (src m : Nat) :
    Keeps u₀ (thmDemandMask src m s) := by
  unfold thmDemandMask
  with_reducible repeat' first
    | assumption | apply thmDemand_keeps | apply put_keeps | apply wr_keeps | apply ite_keeps
    | refine each_keeps ?_ _ _ (fun _ _ _ => ?_)

theorem thmGuard_keeps {u₀ s : State} (hk : Keeps u₀ s) :
    Keeps u₀ (thmGuard s) := by
  unfold thmGuard
  with_reducible repeat' first
    | assumption | apply thmDemandAll_keeps | apply put_keeps | apply wr_keeps | apply ite_keeps
    | refine each_keeps ?_ _ _ (fun _ _ _ => ?_) | (refine snd_keeps (by assumption) ?_)
    | (refine snd3_keeps (by assumption) ?_) | fail_if_no_progress apply upd_keeps

theorem thmGuardWrite_keeps {u₀ s : State} (hk : Keeps u₀ s) (v : Word) :
    Keeps u₀ (thmGuardWrite v s) := by
  unfold thmGuardWrite
  with_reducible repeat' first
    | assumption | apply thmGuard_keeps | apply storeReg_keeps | apply put_keeps | apply wr_keeps | apply ite_keeps
    | refine each_keeps ?_ _ _ (fun _ _ _ => ?_) | (refine snd_keeps (by assumption) ?_)
    | (refine snd3_keeps (by assumption) ?_) | fail_if_no_progress apply upd_keeps

theorem thmTickDemand_keeps {u₀ s : State} (hk : Keeps u₀ s) (f : Nat) :
    Keeps u₀ (thmTickDemand f s) := by
  unfold thmTickDemand
  with_reducible repeat' first
    | assumption | apply thmDemandMask_keeps | apply put_keeps | apply wr_keeps | apply ite_keeps

theorem thmNextSweep_keeps {u₀ s : State} (hk : Keeps u₀ s) (q : Nat) :
    Keeps u₀ (thmNextSweep q s) := by
  unfold thmNextSweep
  with_reducible repeat' first | assumption | apply State.setTgrp_keeps

theorem thmRelock_keeps {u₀ s : State} (hk : Keeps u₀ s) :
    Keeps u₀ (thmRelock s) := by
  unfold thmRelock
  with_reducible repeat' first
    | assumption | apply thmNextSweep_keeps | apply State.setTgrp_keeps | apply put_keeps | apply wr_keeps
    | apply ite_keeps | refine each_keeps ?_ _ _ (fun _ _ _ => ?_)

theorem thmMeasureTo_keeps {u₀ s : State} (hk : Keeps u₀ s) (q : Nat) :
    Keeps u₀ (thmMeasureTo q s) := by
  unfold thmMeasureTo
  with_reducible repeat' first
    | assumption | apply State.passEdges_keeps | apply put_keeps | apply wr_keeps | apply ite_keeps

theorem thmMeasure_keeps {u₀ s : State} (hk : Keeps u₀ s) (q : Nat) (count : Option (Nat × Int)) :
    Keeps u₀ (thmMeasure q count s) := by
  unfold thmMeasure
  with_reducible repeat' first
    | assumption | apply State.setTgrp_keeps | apply State.addWrap_keeps | apply State.setTsen_keeps
    | apply State.putI_keeps | apply State.drawFree_keeps | apply put_keeps | apply wr_keeps | apply ite_keeps
    | refine each_keeps ?_ _ _ (fun _ _ _ => ?_) | (refine snd_keeps (by assumption) ?_)
    | (refine snd3_keeps (by assumption) ?_) | fail_if_no_progress apply upd_keeps | split | dsimp only

theorem thmExclude_keeps {u₀ s : State} (hk : Keeps u₀ s) (x cause : Nat) :
    Keeps u₀ (thmExclude x cause s) := by
  unfold thmExclude
  with_reducible repeat' first
    | assumption | apply State.setTsen_keeps | apply thmEvent_keeps | apply State.pulse_keeps | apply put_keeps

theorem thmExclusions_keeps {u₀ s : State} (hk : Keeps u₀ s) (q : Nat) :
    Keeps u₀ (thmExclusions q s) := by
  unfold thmExclusions
  with_reducible repeat' first
    | assumption | apply thmExclude_keeps | apply State.setTsen_keeps | apply put_keeps | apply wr_keeps
    | apply ite_keeps | refine each_keeps ?_ _ _ (fun _ _ _ => ?_)

theorem thmSctlWrite_keeps {u₀ s : State} (hk : Keeps u₀ s) (x : Nat) (v : Word) :
    Keeps u₀ (thmSctlWrite x v s) := by
  unfold thmSctlWrite
  with_reducible repeat' first
    | assumption | apply storeReg_keeps | apply State.setTsen_keeps | apply put_keeps | apply wr_keeps
    | apply ite_keeps

theorem ordersZero_keeps {u₀ s : State} (hk : Keeps u₀ s) :
    Keeps u₀ (ordersZero s) := by
  unfold ordersZero
  with_reducible repeat' first
    | assumption | apply put_keeps | apply wr_keeps | apply ite_keeps | refine each_keeps ?_ _ _ (fun _ _ _ => ?_)
    | (refine snd_keeps (by assumption) ?_) | (refine snd3_keeps (by assumption) ?_)
    | fail_if_no_progress apply upd_keeps

theorem thmShutdown_keeps {u₀ s : State} (hk : Keeps u₀ s) (q : Nat) :
    Keeps u₀ (thmShutdown q s) := by
  unfold thmShutdown
  with_reducible repeat' first
    | assumption | apply State.wrN_keeps | apply ordersZero_keeps | apply thmEvent_keeps | apply put_keeps
    | apply wr_keeps | apply ite_keeps | refine each_keeps ?_ _ _ (fun _ _ _ => ?_)
    | (refine snd_keeps (by assumption) ?_) | (refine snd3_keeps (by assumption) ?_)
    | fail_if_no_progress apply upd_keeps

theorem thmHard_keeps {u₀ s : State} (hk : Keeps u₀ s) :
    Keeps u₀ (thmHard s) := by
  unfold thmHard
  with_reducible repeat' first | assumption | apply thmEvent_keeps | apply put_keeps

theorem thmCounts_keeps {u₀ s : State} (hk : Keeps u₀ s) :
    Keeps u₀ (thmCounts s) := by
  unfold thmCounts
  with_reducible repeat' first | assumption | apply put_keeps

theorem thmEvaluate_keeps {u₀ s : State} (hk : Keeps u₀ s) (q : Nat) :
    Keeps u₀ (thmEvaluate q s) := by
  unfold thmEvaluate
  with_reducible repeat' first
    | assumption | apply State.putB_keeps | apply thmEvent_keeps | apply State.pulse_keeps | apply thmCounts_keeps
    | apply State.putI_keeps | apply State.wrN_keeps | apply thmShutdown_keeps | apply thmHard_keeps | apply put_keeps
    | apply wr_keeps | apply ite_keeps

theorem thmSweepEnd_keeps {u₀ s : State} (hk : Keeps u₀ s) (q : Nat) :
    Keeps u₀ (thmSweepEnd q s) := by
  unfold thmSweepEnd
  with_reducible repeat' first
    | assumption | apply thmEvaluate_keeps | apply thmExclusions_keeps | apply State.incSat_keeps
    | apply thmEvent_keeps | apply thmDemandAll_keeps | apply thmNextSweep_keeps | apply put_keeps | apply wr_keeps
    | apply ite_keeps

theorem thmRequests_keeps {u₀ s : State} (hk : Keeps u₀ s) :
    Keeps u₀ (thmRequests s) := by
  unfold thmRequests
  with_reducible repeat' first
    | assumption | apply put_keeps | apply wr_keeps | apply ite_keeps | refine each_keeps ?_ _ _ (fun _ _ _ => ?_)

theorem thmThrottleTick_keeps {u₀ s : State} (hk : Keeps u₀ s) :
    Keeps u₀ (thmThrottleTick s) := by
  unfold thmThrottleTick
  with_reducible repeat' first
    | assumption | apply thmRequests_keeps | apply put_keeps | apply wr_keeps | apply ite_keeps
    | refine each_keeps ?_ _ _ (fun _ _ _ => ?_)

theorem drainTo_keeps {u₀ s : State} (hk : Keeps u₀ s) :
    Keeps u₀ (drainTo s) := by
  unfold drainTo
  with_reducible repeat' first | assumption | apply State.advanceTo_keeps

theorem thmTimeout_keeps {u₀ s : State} (hk : Keeps u₀ s) :
    Keeps u₀ (thmTimeout s) := by
  unfold thmTimeout
  with_reducible repeat' first
    | assumption | apply thmHard_keeps | apply State.advanceTo_keeps | apply put_keeps | apply wr_keeps
    | apply ite_keeps

theorem thmDrained_keeps {u₀ s : State} (hk : Keeps u₀ s) :
    Keeps u₀ (thmDrained s) := by
  unfold thmDrained
  with_reducible repeat' first
    | assumption | apply rgnDisable_keeps | apply put_keeps | apply wr_keeps | apply ite_keeps
    | refine each_keeps ?_ _ _ (fun _ _ _ => ?_) | (refine snd_keeps (by assumption) ?_)
    | (refine snd3_keeps (by assumption) ?_) | fail_if_no_progress apply upd_keeps

theorem thmDown_keeps {u₀ s : State} (hk : Keeps u₀ s) :
    Keeps u₀ (thmDown s) := by
  unfold thmDown
  with_reducible repeat' first
    | assumption | apply stopFront_keeps | apply thmEvent_keeps | apply put_keeps | apply wr_keeps | apply ite_keeps

theorem thmCtrlWrite_keeps {u₀ s : State} (hk : Keeps u₀ s) (v : Word) :
    Keeps u₀ (thmCtrlWrite v s) := by
  unfold thmCtrlWrite
  with_reducible repeat' first | assumption | apply put_keeps | apply wr_keeps | apply ite_keeps

theorem thmGthWrite_keeps {u₀ s : State} (hk : Keeps u₀ s) (q : Nat) (v : Word) :
    Keeps u₀ (thmGthWrite q v s) := by
  unfold thmGthWrite
  with_reducible repeat' first
    | assumption | apply storeReg_keeps | apply put_keeps | apply wr_keeps | apply ite_keeps

theorem thmLdemWrite_keeps {u₀ s : State} (hk : Keeps u₀ s) (v : Word) :
    Keeps u₀ (thmLdemWrite v s) := by
  unfold thmLdemWrite
  with_reducible repeat' first
    | assumption | apply storeReg_keeps | apply put_keeps | apply wr_keeps | apply ite_keeps

theorem thmDemWrite_keeps {u₀ s : State} (hk : Keeps u₀ s) (hi : Bool) (v : Word) :
    Keeps u₀ (thmDemWrite hi v s) := by
  unfold thmDemWrite
  with_reducible repeat' first | assumption | apply thmDemandMask_keeps

theorem thmWrite_keeps {u₀ s : State} (hk : Keeps u₀ s) (a : Nat) (v : Word) :
    Keeps u₀ (thmWrite a v s) := by
  unfold thmWrite
  with_reducible repeat' first
    | assumption | apply thmCtrlWrite_keeps | apply thmLdemWrite_keeps | apply thmGuardWrite_keeps
    | apply thmDemWrite_keeps | apply thmGthWrite_keeps | apply thmRequests_keeps | apply storeReg_keeps
    | apply thmSctlWrite_keeps | apply put_keeps | apply wr_keeps | apply ite_keeps

/-! ### CabooseOps -/

theorem recordLatch_keeps {u₀ s : State} (hk : Keeps u₀ s) (b ts : Nat) :
    Keeps u₀ (recordLatch b ts s) := by
  unfold recordLatch
  with_reducible repeat' first
    | assumption | apply State.incSat_keeps | apply State.keepMax_keeps | apply State.wrN_keeps
    | apply State.putB_keeps | apply State.put64_keeps | apply State.ring_keeps | apply traceTrigger_keeps
    | apply put_keeps | apply wr_keeps | apply ite_keeps

theorem overrideBegins_keeps {u₀ s : State} (hk : Keeps u₀ s) (ts : Nat) :
    Keeps u₀ (overrideBegins ts s) := by
  unfold overrideBegins
  with_reducible repeat' first
    | assumption | apply frontFault_keeps | apply regionsSafe_keeps | apply reinAll_keeps | apply ordersZero_keeps
    | apply safeBegins_keeps

theorem latchStore_keeps {u₀ s : State} (hk : Keeps u₀ s) (ls : List (Nat × Nat)) :
    Keeps u₀ (latchStore ls s) := by
  unfold latchStore
  with_reducible repeat' first
    | assumption | apply State.put64_keeps | apply State.addSat_keeps | apply put_keeps | apply wr_keeps
    | apply ite_keeps | refine each_keeps ?_ _ _ (fun _ _ _ => ?_) | (refine snd_keeps (by assumption) ?_)
    | (refine snd3_keeps (by assumption) ?_) | fail_if_no_progress apply upd_keeps | split | dsimp only

theorem faultLatch_keeps {u₀ s : State} (hk : Keeps u₀ s) :
    Keeps u₀ (faultLatch s) := by
  unfold faultLatch
  with_reducible repeat' first
    | assumption | apply latchStore_keeps | apply recordLatch_keeps | apply State.ring_keeps | apply smbLatch_keeps
    | apply overrideBegins_keeps | apply put_keeps | apply wr_keeps | apply ite_keeps
    | refine each_keeps ?_ _ _ (fun _ _ _ => ?_)

theorem statusDrop_keeps {u₀ s : State} (hk : Keeps u₀ s) (ask up : Nat) :
    Keeps u₀ (statusDrop ask up s) := by
  unfold statusDrop
  with_reducible repeat' first
    | assumption | apply State.put64_keeps | apply State.ring_keeps | apply put_keeps | apply wr_keeps
    | apply ite_keeps

theorem statusClear_keeps {u₀ s : State} (hk : Keeps u₀ s) (hi : Bool) (v : Word) :
    Keeps u₀ (statusClear hi v s) := by
  unfold statusClear
  with_reducible repeat' first
    | assumption | apply statusDrop_keeps | apply reinAll_keeps | apply releaseCells_keeps | apply put_keeps
    | apply wr_keeps | apply ite_keeps

theorem forceWrite_keeps {u₀ s : State} (hk : Keeps u₀ s) (hi : Bool) (v : Word) :
    Keeps u₀ (forceWrite hi v s) := by
  unfold forceWrite
  with_reducible repeat' first | assumption | apply put_keeps | apply wr_keeps | apply ite_keeps

theorem scrubTo_keeps {u₀ s : State} (hk : Keeps u₀ s) (m : Nat) :
    Keeps u₀ (scrubTo m s) := by
  unfold scrubTo
  with_reducible repeat' first
    | assumption | apply State.passEdges_keeps | apply put_keeps | apply wr_keeps | apply ite_keeps

theorem scrubRead_keeps {u₀ s : State} (hk : Keeps u₀ s) (m found : Nat) :
    Keeps u₀ (scrubRead m found s) := by
  unfold scrubRead
  with_reducible repeat' first
    | assumption | apply State.addWrap_keeps | apply memUe_keeps | apply memCe_keeps | apply put_keeps
    | apply wr_keeps | apply ite_keeps | refine each_keeps ?_ _ _ (fun _ _ _ => ?_)
    | (refine snd_keeps (by assumption) ?_) | (refine snd3_keeps (by assumption) ?_)
    | fail_if_no_progress apply upd_keeps

theorem cbseWrite_keeps {u₀ s : State} (hk : Keeps u₀ s) (a : Nat) (v : Word) :
    Keeps u₀ (cbseWrite a v s) := by
  unfold cbseWrite
  with_reducible repeat' first
    | assumption | apply statusClear_keeps | apply forceWrite_keeps | apply storeReg_keeps | apply put_keeps
    | apply wr_keeps | apply ite_keeps

/-! ### SenseOps -/

theorem snsEvent_keeps {u₀ s : State} (hk : Keeps u₀ s) (f : Fld) (off : Nat) :
    Keeps u₀ (snsEvent f off s) := by
  unfold snsEvent
  with_reducible repeat' first | assumption | apply State.ring_keeps | apply put_keeps

theorem State.setSconv_keeps {u₀ s : State} (hk : Keeps u₀ s) (k : Nat) (h : SnsConv) :
    Keeps u₀ (State.setSconv s k h) := by
  unfold State.setSconv
  with_reducible repeat' first
    | assumption | apply put_keeps | apply wr_keeps | apply ite_keeps | refine each_keeps ?_ _ _ (fun _ _ _ => ?_)
    | (refine snd_keeps (by assumption) ?_) | (refine snd3_keeps (by assumption) ?_)
    | fail_if_no_progress apply upd_keeps

theorem State.setScomp_keeps {u₀ s : State} (hk : Keeps u₀ s) (w : Nat) (h : SnsComp) :
    Keeps u₀ (State.setScomp s w h) := by
  unfold State.setScomp
  with_reducible repeat' first
    | assumption | apply put_keeps | apply wr_keeps | apply ite_keeps | refine each_keeps ?_ _ _ (fun _ _ _ => ?_)
    | (refine snd_keeps (by assumption) ?_) | (refine snd3_keeps (by assumption) ?_)
    | fail_if_no_progress apply upd_keeps

theorem startSlot_keeps {u₀ s : State} (hk : Keeps u₀ s) (k f : Nat) :
    Keeps u₀ (startSlot k f s) := by
  unfold startSlot
  with_reducible repeat' first | assumption | apply State.setSconv_keeps | apply put_keeps

theorem senseSlots_keeps {u₀ s : State} (hk : Keeps u₀ s) (f : Nat) :
    Keeps u₀ (senseSlots f s) := by
  unfold senseSlots
  with_reducible repeat' first
    | assumption | apply startSlot_keeps | apply put_keeps | apply wr_keeps | apply ite_keeps
    | refine each_keeps ?_ _ _ (fun _ _ _ => ?_)

theorem senseCurrent_keeps {u₀ s : State} (hk : Keeps u₀ s) (p code : Nat) :
    Keeps u₀ (senseCurrent p code s) := by
  unfold senseCurrent
  with_reducible repeat' first
    | assumption | apply State.putI_keeps | apply State.setPhid_keeps | apply phaseLatch_keeps
    | apply State.putIOr_keeps | apply phaseCount_keeps | apply State.keepMaxI_keeps | apply put_keeps
    | apply wr_keeps | apply ite_keeps

theorem senseStage_keeps {u₀ s : State} (hk : Keeps u₀ s) (p code : Nat) :
    Keeps u₀ (senseStage p code s) := by
  unfold senseStage
  with_reducible repeat' first
    | assumption | apply State.setPhid_keeps | apply phaseLatch_keeps | apply put_keeps | apply wr_keeps
    | apply ite_keeps

theorem senseV12_keeps {u₀ s : State} (hk : Keeps u₀ s) (code : Nat) :
    Keeps u₀ (senseV12 code s) := by
  unfold senseV12
  with_reducible repeat' first
    | assumption | apply frontFault_keeps | apply put_keeps | apply wr_keeps | apply ite_keeps
    | refine each_keeps ?_ _ _ (fun _ _ _ => ?_) | (refine snd_keeps (by assumption) ?_)
    | (refine snd3_keeps (by assumption) ?_) | fail_if_no_progress apply upd_keeps

theorem sensePoint_keeps {u₀ s : State} (hk : Keeps u₀ s) (i v : Nat) :
    Keeps u₀ (sensePoint i v s) := by
  unfold sensePoint
  with_reducible repeat' first
    | assumption | apply combineVim_keeps | apply put_keeps | apply wr_keeps | apply ite_keeps
    | refine each_keeps ?_ _ _ (fun _ _ _ => ?_) | (refine snd_keeps (by assumption) ?_)
    | (refine snd3_keeps (by assumption) ?_) | fail_if_no_progress apply upd_keeps

theorem senseUse_keeps {u₀ s : State} (hk : Keeps u₀ s) (k ch code : Nat) :
    Keeps u₀ (senseUse k ch code s) := by
  unfold senseUse
  with_reducible repeat' first
    | assumption | apply rippleCatch_keeps | apply senseCurrent_keeps | apply senseStage_keeps | apply senseV12_keeps
    | apply State.putI_keeps | apply sensePoint_keeps | apply put_keeps | apply wr_keeps | apply ite_keeps
    | refine each_keeps ?_ _ _ (fun _ _ _ => ?_) | (refine snd_keeps (by assumption) ?_)
    | (refine snd3_keeps (by assumption) ?_) | fail_if_no_progress apply upd_keeps | split

theorem pairCheck_keeps {u₀ s : State} (hk : Keeps u₀ s) (k m start code : Nat) :
    Keeps u₀ (pairCheck k m start code s) := by
  unfold pairCheck
  with_reducible repeat' first
    | assumption | apply State.setSconv_keeps | apply put_keeps | apply wr_keeps | apply ite_keeps
    | refine each_keeps ?_ _ _ (fun _ _ _ => ?_) | (refine snd_keeps (by assumption) ?_)
    | (refine snd3_keeps (by assumption) ?_) | fail_if_no_progress apply upd_keeps | split | dsimp only

theorem referenceCheck_keeps {u₀ s : State} (hk : Keeps u₀ s) (k code : Nat) :
    Keeps u₀ (referenceCheck k code s) := by
  unfold referenceCheck
  with_reducible repeat' first
    | assumption | apply State.setSconv_keeps | apply snsEvent_keeps | apply State.pulse_keeps | apply put_keeps
    | apply wr_keeps | apply ite_keeps | refine each_keeps ?_ _ _ (fun _ _ _ => ?_)
    | (refine snd_keeps (by assumption) ?_) | (refine snd3_keeps (by assumption) ?_)
    | fail_if_no_progress apply upd_keeps | split | dsimp only

theorem senseCheck_keeps {u₀ s : State} (hk : Keeps u₀ s) (k chk start code : Nat) :
    Keeps u₀ (senseCheck k chk start code s) := by
  unfold senseCheck
  with_reducible repeat' first
    | assumption | apply pairCheck_keeps | apply State.setSconv_keeps | apply referenceCheck_keeps | apply put_keeps
    | apply wr_keeps | apply ite_keeps | refine each_keeps ?_ _ _ (fun _ _ _ => ?_)
    | (refine snd_keeps (by assumption) ?_) | (refine snd3_keeps (by assumption) ?_)
    | fail_if_no_progress apply upd_keeps | split

theorem compWindows_keeps {u₀ s : State} (hk : Keeps u₀ s) (w x : Nat) :
    Keeps u₀ (compWindows w x s) := by
  unfold compWindows
  with_reducible repeat' first
    | assumption | apply State.setScomp_keeps | apply put_keeps | apply wr_keeps | apply ite_keeps

theorem compTo_keeps {u₀ s : State} (hk : Keeps u₀ s) (w x : Nat) :
    Keeps u₀ (compTo w x s) := by
  unfold compTo
  with_reducible repeat' first
    | assumption | apply compWindows_keeps | apply State.setScomp_keeps | apply put_keeps | apply wr_keeps
    | apply ite_keeps

theorem compWinWrite_keeps {u₀ s : State} (hk : Keeps u₀ s) (w : Nat) (v : Word) :
    Keeps u₀ (compWinWrite w v s) := by
  unfold compWinWrite
  with_reducible repeat' first | assumption | apply storeReg_keeps | apply compTo_keeps | apply State.setScomp_keeps

theorem compCount_keeps {u₀ s : State} (hk : Keeps u₀ s) (w b : Nat) :
    Keeps u₀ (compCount w b s) := by
  unfold compCount
  with_reducible repeat' first
    | assumption | apply compTo_keeps | apply State.setScomp_keeps | apply State.incSat_keeps | apply put_keeps
    | apply wr_keeps | apply ite_keeps

theorem compResult_keeps {u₀ s : State} (hk : Keeps u₀ s) (w b code : Nat) :
    Keeps u₀ (compResult w b code s) := by
  unfold compResult
  with_reducible repeat' first
    | assumption | apply compCount_keeps | apply State.setScomp_keeps | apply put_keeps | apply wr_keeps
    | apply ite_keeps

theorem compReport_keeps {u₀ s : State} (hk : Keeps u₀ s) (w : Nat) :
    Keeps u₀ (compReport w s) := by
  unfold compReport
  with_reducible repeat' first | assumption | apply State.ring_keeps | apply put_keeps | apply wr_keeps

theorem compExit_keeps {u₀ s : State} (hk : Keeps u₀ s) (w : Nat) :
    Keeps u₀ (compExit w s) := by
  unfold compExit
  with_reducible repeat' first
    | assumption | apply State.putB_keeps | apply compReport_keeps | apply State.pulse_keeps | apply put_keeps
    | apply wr_keeps | apply ite_keeps

theorem compReenter_keeps {u₀ s : State} (hk : Keeps u₀ s) (w : Nat) :
    Keeps u₀ (compReenter w s) := by
  unfold compReenter
  with_reducible repeat' first
    | assumption | apply compReport_keeps | apply put_keeps | apply wr_keeps | apply ite_keeps

theorem convStore_keeps {u₀ s : State} (hk : Keeps u₀ s) (k ch code : Nat) (ovr : Bool) :
    Keeps u₀ (convStore k ch code ovr s) := by
  unfold convStore
  with_reducible repeat' first
    | assumption | apply State.setSconv_keeps | apply State.putB_keeps | apply State.addWrap_keeps | apply put_keeps
    | apply wr_keeps | apply ite_keeps | refine each_keeps ?_ _ _ (fun _ _ _ => ?_)
    | (refine snd_keeps (by assumption) ?_) | (refine snd3_keeps (by assumption) ?_)
    | fail_if_no_progress apply upd_keeps

theorem convReport_keeps {u₀ s : State} (hk : Keeps u₀ s) (k ch start code : Nat) (ovr urgent : Bool) :
    Keeps u₀ (convReport k ch start code ovr urgent s) := by
  unfold convReport
  with_reducible repeat' first
    | assumption | apply State.putB_keeps | apply snsEvent_keeps | apply compResult_keeps | apply put_keeps
    | apply wr_keeps | apply ite_keeps | refine each_keeps ?_ _ _ (fun _ _ _ => ?_)

theorem convComplete_keeps {u₀ s : State} (hk : Keeps u₀ s) (k raw : Nat) :
    Keeps u₀ (convComplete k raw s) := by
  unfold convComplete
  with_reducible repeat' first
    | assumption | apply convStore_keeps | apply convReport_keeps | apply senseUse_keeps | apply senseCheck_keeps
    | apply put_keeps | apply wr_keeps | apply ite_keeps | refine each_keeps ?_ _ _ (fun _ _ _ => ?_)
    | (refine snd_keeps (by assumption) ?_) | (refine snd3_keeps (by assumption) ?_)
    | fail_if_no_progress apply upd_keeps | split

theorem pairFail_keeps {u₀ s : State} (hk : Keeps u₀ s) (pair : Nat) :
    Keeps u₀ (pairFail pair s) := by
  unfold pairFail
  with_reducible repeat' first
    | assumption | apply snsEvent_keeps | apply State.pulse_keeps | apply put_keeps | apply wr_keeps | apply ite_keeps

theorem pairRecover_keeps {u₀ s : State} (hk : Keeps u₀ s) (pair : Nat) :
    Keeps u₀ (pairRecover pair s) := by
  unfold pairRecover
  with_reducible repeat' first
    | assumption | apply snsEvent_keeps | apply put_keeps | apply wr_keeps | apply ite_keeps

theorem refSettled_keeps {u₀ s : State} (hk : Keeps u₀ s) (k : Nat) :
    Keeps u₀ (refSettled k s) := by
  unfold refSettled
  with_reducible repeat' first
    | assumption | apply settle_keeps | apply State.advanceTo_keeps | apply State.setSconv_keeps
    | apply snsEvent_keeps | apply put_keeps | apply wr_keeps | apply ite_keeps
    | refine each_keeps ?_ _ _ (fun _ _ _ => ?_) | (refine snd_keeps (by assumption) ?_)
    | (refine snd3_keeps (by assumption) ?_) | fail_if_no_progress apply upd_keeps | split

theorem slotEnd_keeps {u₀ s : State} (hk : Keeps u₀ s) (k : Nat) :
    Keeps u₀ (slotEnd k s) := by
  unfold slotEnd
  with_reducible repeat' first
    | assumption | apply State.advanceTo_keeps | apply put_keeps | apply wr_keeps | apply ite_keeps
    | refine each_keeps ?_ _ _ (fun _ _ _ => ?_) | (refine snd_keeps (by assumption) ?_)
    | (refine snd3_keeps (by assumption) ?_) | fail_if_no_progress apply upd_keeps | split

theorem urgentWrite_keeps {u₀ s : State} (hk : Keeps u₀ s) (k ch : Nat) :
    Keeps u₀ (urgentWrite k ch s) := by
  unfold urgentWrite
  with_reducible repeat' first
    | assumption | apply State.setSconv_keeps | apply put_keeps | apply wr_keeps | apply ite_keeps

theorem snsCfgWrite_keeps {u₀ s : State} (hk : Keeps u₀ s) (k : Nat) (v : Word) :
    Keeps u₀ (snsCfgWrite k v s) := by
  unfold snsCfgWrite
  with_reducible repeat' first
    | assumption | apply storeReg_keeps | apply State.setSconv_keeps | apply settle_keeps | apply put_keeps
    | apply wr_keeps | apply ite_keeps

theorem snsCtrlWrite_keeps {u₀ s : State} (hk : Keeps u₀ s) (v : Word) :
    Keeps u₀ (snsCtrlWrite v s) := by
  unfold snsCtrlWrite
  with_reducible repeat' first
    | assumption | apply storeReg_keeps | apply State.setSconv_keeps | apply put_keeps | apply wr_keeps
    | apply ite_keeps | refine each_keeps ?_ _ _ (fun _ _ _ => ?_)

theorem compWrite_keeps {u₀ s : State} (hk : Keeps u₀ s) (w : Nat) (band : Bool) (v : Word) :
    Keeps u₀ (compWrite w band v s) := by
  unfold compWrite
  with_reducible repeat' first
    | assumption | apply storeReg_keeps | apply put_keeps | apply wr_keeps | apply ite_keeps

theorem testCurrentWrite_keeps {u₀ s : State} (hk : Keeps u₀ s) (v : Word) :
    Keeps u₀ (testCurrentWrite v s) := by
  unfold testCurrentWrite
  with_reducible repeat' first
    | assumption | apply storeReg_keeps | apply put_keeps | apply wr_keeps | apply ite_keeps

theorem compCatch_keeps {u₀ s : State} (hk : Keeps u₀ s) (a : Nat) :
    Keeps u₀ (compCatch a s) := by
  unfold compCatch
  with_reducible repeat' first | assumption | apply compTo_keeps | apply put_keeps | apply wr_keeps | apply ite_keeps

theorem snsBlockWrite_keeps {u₀ s : State} (hk : Keeps u₀ s) (a : Nat) (v : Word) :
    Keeps u₀ (snsBlockWrite a v s) := by
  unfold snsBlockWrite
  with_reducible repeat' first
    | assumption | apply snsCtrlWrite_keeps | apply storeReg_keeps | apply testCurrentWrite_keeps
    | apply snsCfgWrite_keeps | apply urgentWrite_keeps | apply compWrite_keeps | apply compWinWrite_keeps
    | apply put_keeps | apply wr_keeps | apply ite_keeps

/-! ### FirmwareOps -/

theorem flashErase_keeps {u₀ s : State} (hk : Keeps u₀ s) (a n : Nat) :
    Keeps u₀ (flashErase a n s) := by
  unfold flashErase
  with_reducible repeat' first
    | assumption | apply put_keeps | apply wr_keeps | apply ite_keeps | refine each_keeps ?_ _ _ (fun _ _ _ => ?_)
    | (refine snd_keeps (by assumption) ?_) | (refine snd3_keeps (by assumption) ?_)
    | fail_if_no_progress apply upd_keeps

theorem flashWrite_keeps {u₀ s : State} (hk : Keeps u₀ s) (a : Nat) (bs : List Byte) :
    Keeps u₀ (flashWrite a bs s) := by
  unfold flashWrite
  with_reducible repeat' first
    | assumption | apply put_keeps | apply wr_keeps | apply ite_keeps | refine each_keeps ?_ _ _ (fun _ _ _ => ?_)
    | (refine snd_keeps (by assumption) ?_) | (refine snd3_keeps (by assumption) ?_)
    | fail_if_no_progress apply upd_keeps

theorem dirWrite_keeps {u₀ s : State} (hk : Keeps u₀ s) (active state tries : Nat) :
    Keeps u₀ (dirWrite active state tries s) := by
  unfold dirWrite
  with_reducible repeat' first | assumption | apply flashWrite_keeps | apply flashErase_keeps | apply State.putB_keeps

theorem State.ramPut_keeps {u s : State} (h : Keeps u s) (m o : Nat) (bs : List Byte) : Keeps u (State.ramPut s m o bs) := by
  refine ⟨h.regs, fun x => ?_, h.pending, h.efuse, h.fused, h.free⟩
  have key (l : List (Byte × Nat)) : ∀ r : Map Byte, mapWf (fun _ => (0 : Byte)) r = true →
      mapWf (fun _ => (0 : Byte)) (l.foldl (fun r e => mapSet 0 r (State.ramKey m (o + e.2)) e.1) r) = true := by
    induction l with
    | nil => exact fun _ hr => hr
    | cons e l ih => exact fun r hr => ih _ (mapWf_mapSet (fun _ => (0 : Byte)) r _ _ hr)
  exact key _ _ (h.ram x)

theorem loadSections_keeps {u₀ s : State} (hk : Keeps u₀ s) (p : Nat → Bool) (h body : List Byte) :
    Keeps u₀ (loadSections p h body s) := by
  unfold loadSections
  with_reducible repeat' first
    | assumption | apply State.ramPut_keeps | apply put_keeps | apply wr_keeps | apply ite_keeps
    | refine each_keeps ?_ _ _ (fun _ _ _ => ?_)

theorem coreEntry_keeps {u₀ s : State} (hk : Keeps u₀ s) (h : List Byte) (i : Nat) :
    Keeps u₀ (coreEntry h i s) := by
  unfold coreEntry
  with_reducible repeat' first
    | assumption | apply State.drawFree_keeps | apply State.setCoreSt_keeps | apply put_keeps | apply wr_keeps
    | apply ite_keeps | refine each_keeps ?_ _ _ (fun _ _ _ => ?_) | (refine snd_keeps (by assumption) ?_)
    | (refine snd3_keeps (by assumption) ?_) | fail_if_no_progress apply upd_keeps | split

theorem releaseCore_keeps {u₀ s : State} (hk : Keeps u₀ s) (h : List Byte) (i : Nat) :
    Keeps u₀ (releaseCore h i s) := by
  unfold releaseCore
  with_reducible repeat' first
    | assumption | apply coreEntry_keeps | apply wdogStart_keeps | apply State.setCoreSt_keeps | apply put_keeps

theorem imageRuns_keeps {u₀ s : State} (hk : Keeps u₀ s) (h : List Byte) (slot : Nat) :
    Keeps u₀ (imageRuns h slot s) := by
  unfold imageRuns
  with_reducible repeat' first
    | assumption | apply coreEntry_keeps | apply releaseCore_keeps | apply State.wrN_keeps | apply put_keeps
    | apply wr_keeps | apply ite_keeps | refine each_keeps ?_ _ _ (fun _ _ _ => ?_)

theorem bootFail_keeps {u₀ s : State} (hk : Keeps u₀ s) :
    Keeps u₀ (bootFail s) := by
  unfold bootFail
  with_reducible repeat' first
    | assumption | apply put_keeps | apply wr_keeps | apply ite_keeps | refine each_keeps ?_ _ _ (fun _ _ _ => ?_)
    | (refine snd_keeps (by assumption) ?_) | (refine snd3_keeps (by assumption) ?_)
    | fail_if_no_progress apply upd_keeps

theorem romLoad_keeps {u₀ s : State} (hk : Keeps u₀ s) (slot : Nat) (second : Bool) :
    Keeps u₀ (romLoad slot second s) := by
  unfold romLoad
  with_reducible repeat' first
    | assumption | apply loadSections_keeps | apply put_keeps | apply wr_keeps | apply ite_keeps
    | refine each_keeps ?_ _ _ (fun _ _ _ => ?_) | (refine snd_keeps (by assumption) ?_)
    | (refine snd3_keeps (by assumption) ?_) | fail_if_no_progress apply upd_keeps

theorem romBoot_keeps {u₀ s : State} (hk : Keeps u₀ s) :
    Keeps u₀ (romBoot s) := by
  unfold romBoot
  with_reducible repeat' first
    | assumption | apply wdogStart_keeps | apply State.setCoreSt_keeps | apply dirWrite_keeps | apply State.putB_keeps
    | apply romLoad_keeps | apply put_keeps | apply wr_keeps | apply ite_keeps
    | refine each_keeps ?_ _ _ (fun _ _ _ => ?_) | (refine snd_keeps (by assumption) ?_)
    | (refine snd3_keeps (by assumption) ?_) | fail_if_no_progress apply upd_keeps

theorem unload_keeps {u s : State} (hk : Keeps u s) (h : List Byte) : Keeps u (unload h s) := by
  unfold unload
  exact updRam_keeps hk _ (mapWf_filter (fun _ => (0 : Byte)) _ _) ..

theorem imageVerified_keeps {u₀ s : State} (hk : Keeps u₀ s) :
    Keeps u₀ (imageVerified s) := by
  unfold imageVerified
  with_reducible repeat' first
    | assumption | apply imageRuns_keeps | apply unload_keeps | apply bootFail_keeps | apply romLoad_keeps
    | apply put_keeps | apply wr_keeps | apply ite_keeps | refine each_keeps ?_ _ _ (fun _ _ _ => ?_)
    | (refine snd_keeps (by assumption) ?_) | (refine snd3_keeps (by assumption) ?_)
    | fail_if_no_progress apply upd_keeps | split

theorem imagePush_keeps {u₀ s : State} (hk : Keeps u₀ s) (slot : Nat) (trial : Bool) (img : List Byte) :
    Keeps u₀ (imagePush slot trial img s) := by
  unfold imagePush
  with_reducible repeat' first
    | assumption | apply imageRuns_keeps | apply loadSections_keeps | apply State.putB_keeps | apply bootFail_keeps
    | apply put_keeps | apply wr_keeps | apply ite_keeps | refine each_keeps ?_ _ _ (fun _ _ _ => ?_)
    | (refine snd_keeps (by assumption) ?_) | (refine snd3_keeps (by assumption) ?_)
    | fail_if_no_progress apply upd_keeps

theorem holdCore_keeps {u₀ s : State} (hk : Keeps u₀ s) (i : Nat) :
    Keeps u₀ (holdCore i s) := by
  unfold holdCore
  with_reducible repeat' first | assumption | apply coreLeave_keeps | apply State.setCoreSt_keeps | apply put_keeps

theorem firmwareReset_keeps {u s : State} (h : Keeps u s) : Keeps u (firmwareReset s) := by
  unfold firmwareReset
  apply romBoot_keeps
  with_reducible refine updRam_keeps ?_ [] (fun _ => rfl) ..
  refine each_keeps (each_keeps (each_keeps h _ _ fun _ _ hs => holdCore_keeps hs ..) _ _ fun _ _ hs => ?_) _ _
    fun _ _ hs => State.incSat_keeps hs ..
  exact each_keeps hs _ _ fun _ _ hs => wr_keeps hs ..

theorem watchdogReset_keeps {u₀ s : State} (hk : Keeps u₀ s) :
    Keeps u₀ (watchdogReset s) := by
  unfold watchdogReset
  with_reducible repeat' first
    | assumption | apply dirWrite_keeps | apply firmwareReset_keeps | apply put_keeps | apply wr_keeps
    | apply ite_keeps

theorem kickCore_keeps {u₀ s : State} (hk : Keeps u₀ s) (i : Nat) :
    Keeps u₀ (kickCore i s) := by
  unfold kickCore
  with_reducible repeat' first | assumption | apply wdogStart_keeps

theorem watchdogExpiry_keeps {u₀ s : State} (hk : Keeps u₀ s) (i : Nat) :
    Keeps u₀ (watchdogExpiry i s) := by
  unfold watchdogExpiry
  with_reducible repeat' first
    | assumption | apply State.advanceTo_keeps | apply holdCore_keeps | apply State.pulse_keeps
    | apply State.ring_keeps | apply watchdogReset_keeps | apply State.setCoreSt_keeps | apply put_keeps
    | apply wr_keeps | apply ite_keeps

theorem reloadDone_keeps {u₀ s : State} (hk : Keeps u₀ s) (i : Nat) :
    Keeps u₀ (reloadDone i s) := by
  unfold reloadDone
  with_reducible repeat' first
    | assumption | apply releaseCore_keeps | apply loadSections_keeps | apply State.incSat_keeps
    | apply watchdogReset_keeps | apply put_keeps | apply wr_keeps | apply ite_keeps

theorem hbWrite_keeps {u₀ s : State} (hk : Keeps u₀ s) (v : Word) :
    Keeps u₀ (hbWrite v s) := by
  unfold hbWrite
  with_reducible repeat' first
    | assumption | apply storeReg_keeps | apply put_keeps | apply wr_keeps | apply ite_keeps
    | refine each_keeps ?_ _ _ (fun _ _ _ => ?_) | (refine snd_keeps (by assumption) ?_)
    | (refine snd3_keeps (by assumption) ?_) | fail_if_no_progress apply upd_keeps

theorem hbStale_keeps {u₀ s : State} (hk : Keeps u₀ s) :
    Keeps u₀ (hbStale s) := by
  unfold hbStale
  with_reducible repeat' first
    | assumption | apply State.advanceTo_keeps | apply put_keeps | apply wr_keeps | apply ite_keeps

theorem hostPeriodEnd_keeps {u₀ s : State} (hk : Keeps u₀ s) :
    Keeps u₀ (hostPeriodEnd s) := by
  unfold hostPeriodEnd
  with_reducible repeat' first
    | assumption | apply State.incSat_keeps | apply smbLatch_keeps | apply hostUnbind_keeps | apply State.ring_keeps
    | apply put_keeps | apply wr_keeps | apply ite_keeps | refine each_keeps ?_ _ _ (fun _ _ _ => ?_)
    | (refine snd_keeps (by assumption) ?_) | (refine snd3_keeps (by assumption) ?_)
    | fail_if_no_progress apply upd_keeps

theorem hostTo_keeps {u₀ s : State} (hk : Keeps u₀ s) :
    Keeps u₀ (hostTo s) := by
  unfold hostTo
  with_reducible repeat' first
    | assumption | apply hostPeriodEnd_keeps | apply put_keeps | apply wr_keeps | apply ite_keeps
    | refine each_keeps ?_ _ _ (fun _ _ _ => ?_) | (refine snd_keeps (by assumption) ?_)
    | (refine snd3_keeps (by assumption) ?_) | fail_if_no_progress apply upd_keeps

theorem hostKick_keeps {u₀ s : State} (hk : Keeps u₀ s) :
    Keeps u₀ (hostKick s) := by
  unfold hostKick
  with_reducible repeat' first
    | assumption | apply hostTo_keeps | apply State.ring_keeps | apply put_keeps | apply wr_keeps | apply ite_keeps
    | refine each_keeps ?_ _ _ (fun _ _ _ => ?_) | (refine snd_keeps (by assumption) ?_)
    | (refine snd3_keeps (by assumption) ?_) | fail_if_no_progress apply upd_keeps

theorem activationStart_keeps {u₀ s : State} (hk : Keeps u₀ s) :
    Keeps u₀ (activationStart s) := by
  unfold activationStart
  with_reducible repeat' first
    | assumption | apply State.advanceTo_keeps | apply dirWrite_keeps | apply State.ring_keeps | apply put_keeps
    | apply wr_keeps | apply ite_keeps | refine each_keeps ?_ _ _ (fun _ _ _ => ?_)
    | (refine snd_keeps (by assumption) ?_) | (refine snd3_keeps (by assumption) ?_)
    | fail_if_no_progress apply upd_keeps

theorem orderedReset_keeps {u₀ s : State} (hk : Keeps u₀ s) :
    Keeps u₀ (orderedReset s) := by
  unfold orderedReset
  with_reducible repeat' first
    | assumption | apply firmwareReset_keeps | apply put_keeps | apply wr_keeps | apply ite_keeps
    | refine each_keeps ?_ _ _ (fun _ _ _ => ?_) | (refine snd_keeps (by assumption) ?_)
    | (refine snd3_keeps (by assumption) ?_) | fail_if_no_progress apply upd_keeps

theorem stageBegin_keeps {u₀ s : State} (hk : Keeps u₀ s) (len : Nat) :
    Keeps u₀ (stageBegin len s) := by
  unfold stageBegin
  with_reducible repeat' first
    | assumption | apply State.reply_keeps | apply flashErase_keeps | apply put_keeps | apply wr_keeps
    | apply ite_keeps | refine each_keeps ?_ _ _ (fun _ _ _ => ?_) | (refine snd_keeps (by assumption) ?_)
    | (refine snd3_keeps (by assumption) ?_) | fail_if_no_progress apply upd_keeps

theorem fabricError_keeps {u₀ s : State} (hk : Keeps u₀ s) (addr : Nat) :
    Keeps u₀ (fabricError addr s) := by
  unfold fabricError
  with_reducible repeat' first | assumption | apply State.drawFree_keeps | apply dmaError_keeps

theorem stageData_keeps {u₀ s : State} (hk : Keeps u₀ s) (off n addr : Nat) (descOk : Bool) (data : Option (List Byte)) :
    Keeps u₀ (stageData off n addr descOk data s) := by
  unfold stageData
  with_reducible repeat' first
    | assumption | apply State.reply_keeps | apply fabricError_keeps | apply flashWrite_keeps | apply put_keeps
    | apply wr_keeps | apply ite_keeps | refine each_keeps ?_ _ _ (fun _ _ _ => ?_)
    | (refine snd_keeps (by assumption) ?_) | (refine snd3_keeps (by assumption) ?_)
    | fail_if_no_progress apply upd_keeps | split

theorem stageEnd_keeps {u₀ s : State} (hk : Keeps u₀ s) :
    Keeps u₀ (stageEnd s) := by
  unfold stageEnd
  with_reducible repeat' first
    | assumption | apply State.reply_keeps | apply State.ring_keeps | apply romBoot_keeps | apply put_keeps
    | apply wr_keeps | apply ite_keeps | refine each_keeps ?_ _ _ (fun _ _ _ => ?_)
    | (refine snd_keeps (by assumption) ?_) | (refine snd3_keeps (by assumption) ?_)
    | fail_if_no_progress apply upd_keeps

theorem activate_keeps {u₀ s : State} (hk : Keeps u₀ s) :
    Keeps u₀ (activate s) := by
  unfold activate
  with_reducible repeat' first
    | assumption | apply State.reply_keeps | apply State.ring_keeps | apply put_keeps | apply wr_keeps
    | apply ite_keeps

theorem cancelActivation_keeps {u₀ s : State} (hk : Keeps u₀ s) :
    Keeps u₀ (cancelActivation s) := by
  unfold cancelActivation
  with_reducible repeat' first
    | assumption | apply State.reply_keeps | apply put_keeps | apply wr_keeps | apply ite_keeps

theorem confirm_keeps {u s : State} (h : Keeps u s) : Keeps u (confirm s) := by
  unfold confirm
  split
  · exact State.reply_keeps h ..
  · dsimp only
    split
    · exact State.reply_keeps (fuse_keeps (dirWrite_keeps h ..) _ (le_max_left _ _)) ..
    · exact State.reply_keeps h ..

theorem haltCore_keeps {u₀ s : State} (hk : Keeps u₀ s) (i : Nat) (pc : Word) :
    Keeps u₀ (haltCore i pc s) := by
  unfold haltCore
  with_reducible repeat' first
    | assumption | apply coreLeave_keeps | apply State.setCoreSt_keeps | apply put_keeps | apply wr_keeps

theorem dbgCtrlWrite_keeps {u₀ s : State} (hk : Keeps u₀ s) (i : Nat) (pc : Word) (v : Word) :
    Keeps u₀ (dbgCtrlWrite i pc v s) := by
  unfold dbgCtrlWrite
  with_reducible repeat' first
    | assumption | apply haltCore_keeps | apply kickCore_keeps | apply put_keeps | apply wr_keeps | apply ite_keeps

theorem fwWrite_keeps {u₀ s : State} (hk : Keeps u₀ s) (a : Nat) (v : Word) :
    Keeps u₀ (fwWrite a v s) := by
  unfold fwWrite
  with_reducible repeat' first
    | assumption | apply hbWrite_keeps | apply hostKick_keeps | apply storeReg_keeps | apply hostTo_keeps
    | apply wdogKeep_keeps | apply kickCore_keeps | apply put_keeps | apply wr_keeps | apply ite_keeps

/-! ### MailOps -/

theorem chEmpty_keeps {u₀ s : State} (hk : Keeps u₀ s) (c : Nat) :
    Keeps u₀ (chEmpty c s) := by
  unfold chEmpty
  with_reducible repeat' first
    | assumption | apply put_keeps | apply wr_keeps | apply ite_keeps | refine each_keeps ?_ _ _ (fun _ _ _ => ?_)
    | (refine snd_keeps (by assumption) ?_) | (refine snd3_keeps (by assumption) ?_)
    | fail_if_no_progress apply upd_keeps

theorem fillTimeout_keeps {u₀ s : State} (hk : Keeps u₀ s) (c : Nat) :
    Keeps u₀ (fillTimeout c s) := by
  unfold fillTimeout
  with_reducible repeat' first
    | assumption | apply chEmpty_keeps | apply State.incSat_keeps | apply put_keeps | apply wr_keeps | apply ite_keeps

theorem fillTimeouts_keeps {u₀ s : State} (hk : Keeps u₀ s) :
    Keeps u₀ (fillTimeouts s) := by
  unfold fillTimeouts
  with_reducible repeat' first
    | assumption | apply fillTimeout_keeps | apply put_keeps | apply wr_keeps | apply ite_keeps
    | refine each_keeps ?_ _ _ (fun _ _ _ => ?_)

theorem chClaim_keeps {u₀ s : State} (hk : Keeps u₀ s) (req : Requester) (c : Nat) :
    Keeps u₀ (chClaim req c s).2 := by
  unfold chClaim
  with_reducible repeat' first
    | assumption | apply fillTimeout_keeps | apply put_keeps | apply wr_keeps | apply ite_keeps
    | refine each_keeps ?_ _ _ (fun _ _ _ => ?_) | (refine snd_keeps (by assumption) ?_)
    | (refine snd3_keeps (by assumption) ?_) | fail_if_no_progress apply upd_keeps | split | dsimp only

theorem chArrive_keeps {u₀ s : State} (hk : Keeps u₀ s) (c sndr esrc : Nat) :
    Keeps u₀ (chArrive c sndr esrc s) := by
  unfold chArrive
  with_reducible repeat' first
    | assumption | apply chEmpty_keeps | apply State.wrN_keeps | apply State.ring_keeps | apply State.c0Touch_keeps
    | apply put_keeps | apply wr_keeps | apply ite_keeps

theorem chPost_keeps {u₀ s : State} (hk : Keeps u₀ s) (req : Requester) (c esrc : Nat) :
    Keeps u₀ (chPost req c esrc s) := by
  unfold chPost
  with_reducible repeat' first
    | assumption | apply chArrive_keeps | apply put_keeps | apply wr_keeps | apply ite_keeps

theorem chTake_keeps {u₀ s : State} (hk : Keeps u₀ s) (req : Requester) (c : Nat) :
    Keeps u₀ (chTake req c s) := by
  unfold chTake
  with_reducible repeat' first
    | assumption | apply chEmpty_keeps | apply State.wrN_keeps | apply doorbellIn_keeps | apply put_keeps
    | apply wr_keeps | apply ite_keeps

theorem chAbandon_keeps {u₀ s : State} (hk : Keeps u₀ s) (req : Requester) (c : Nat) :
    Keeps u₀ (chAbandon req c s) := by
  unfold chAbandon
  with_reducible repeat' first | assumption | apply chEmpty_keeps | apply put_keeps | apply wr_keeps | apply ite_keeps

theorem chCtlWrite_keeps {u₀ s : State} (hk : Keeps u₀ s) (req : Requester) (c : Nat) (v : Word) :
    Keeps u₀ (chCtlWrite req c v s) := by
  unfold chCtlWrite
  with_reducible repeat' first
    | assumption | apply fillTimeout_keeps | apply chPost_keeps | apply chTake_keeps | apply chAbandon_keeps
    | apply put_keeps | apply wr_keeps | apply ite_keeps

theorem chCfgWrite_keeps {u₀ s : State} (hk : Keeps u₀ s) (c : Nat) (v : Word) :
    Keeps u₀ (chCfgWrite c v s) := by
  unfold chCfgWrite
  with_reducible repeat' first
    | assumption | apply fillTimeout_keeps | apply storeReg_keeps | apply put_keeps | apply wr_keeps | apply ite_keeps

theorem slotWrite_keeps {u₀ s : State} (hk : Keeps u₀ s) (req : Requester) (c w : Nat) (v : Word) :
    Keeps u₀ (slotWrite req c w v s) := by
  unfold slotWrite
  with_reducible repeat' first
    | assumption | apply fillTimeout_keeps | apply put_keeps | apply wr_keeps | apply ite_keeps

theorem dbenWrite_keeps {u₀ s : State} (hk : Keeps u₀ s) (r : Nat) (v : Word) :
    Keeps u₀ (dbenWrite r v s) := by
  unfold dbenWrite
  with_reducible repeat' first
    | assumption | apply State.ring_keeps | apply put_keeps | apply wr_keeps | apply ite_keeps
    | refine each_keeps ?_ _ _ (fun _ _ _ => ?_)

theorem mchPeerWrite_keeps {u₀ s : State} (hk : Keeps u₀ s) (v : Word) :
    Keeps u₀ (mchPeerWrite v s) := by
  unfold mchPeerWrite
  with_reducible repeat' first
    | assumption | apply storeReg_keeps | apply put_keeps | apply wr_keeps | apply ite_keeps

theorem peerPost_keeps {u₀ s : State} (hk : Keeps u₀ s) (peer win : Nat) (incomplete : Bool) :
    Keeps u₀ (peerPost peer win incomplete s) := by
  unfold peerPost
  with_reducible repeat' first
    | assumption | apply fillTimeout_keeps | apply chArrive_keeps | apply State.incSat_keeps | apply put_keeps
    | apply wr_keeps | apply ite_keeps | refine each_keeps ?_ _ _ (fun _ _ _ => ?_)

theorem commitDue_keeps {u₀ s : State} (hk : Keeps u₀ s) (peer win : Nat) (timeout : Bool) :
    Keeps u₀ (commitDue peer win timeout s) := by
  unfold commitDue
  with_reducible repeat' first
    | assumption | apply State.advanceTo_keeps | apply complete_keeps | apply peerPost_keeps | apply commitLand_keeps
    | apply put_keeps | apply wr_keeps | apply ite_keeps | refine each_keeps ?_ _ _ (fun _ _ _ => ?_)
    | (refine snd_keeps (by assumption) ?_) | (refine snd3_keeps (by assumption) ?_)
    | fail_if_no_progress apply upd_keeps | split

theorem mchWrite_keeps {u₀ s : State} (hk : Keeps u₀ s) (req : Requester) (a : Nat) (v : Word) :
    Keeps u₀ (mchWrite req a v s) := by
  unfold mchWrite
  with_reducible repeat' first
    | assumption | apply mchPeerWrite_keeps | apply storeReg_keeps | apply fillTimeouts_keeps | apply dbenWrite_keeps
    | apply slotWrite_keeps | apply chCfgWrite_keeps | apply chCtlWrite_keeps | apply put_keeps | apply wr_keeps
    | apply ite_keeps

/-! ### TelemetryOps -/

theorem tlmEvent_keeps {u₀ s : State} (hk : Keeps u₀ s) (f : Fld) (o : Nat) :
    Keeps u₀ (tlmEvent f o s) := by
  unfold tlmEvent
  with_reducible repeat' first | assumption | apply State.ring_keeps | apply put_keeps

theorem freezeCapture_keeps {u₀ s : State} (hk : Keeps u₀ s) (timed : Bool) :
    Keeps u₀ (freezeCapture timed s) := by
  unfold freezeCapture
  with_reducible repeat' first
    | assumption | apply seaCatch_keeps | apply rippleCatch_keeps | apply countEdges_keeps | apply State.wrN_keeps
    | apply State.put64_keeps | apply put_keeps | apply wr_keeps | apply ite_keeps
    | refine each_keeps ?_ _ _ (fun _ _ _ => ?_) | (refine snd_keeps (by assumption) ?_)
    | (refine snd3_keeps (by assumption) ?_) | fail_if_no_progress apply upd_keeps

theorem freezeLocal_keeps {u₀ s : State} (hk : Keeps u₀ s) :
    Keeps u₀ (freezeLocal s) := by
  unfold freezeLocal
  with_reducible repeat' first
    | assumption | apply tlmEvent_keeps | apply State.advanceTo_keeps | apply freezeCapture_keeps | apply put_keeps
    | apply wr_keeps | apply ite_keeps | refine each_keeps ?_ _ _ (fun _ _ _ => ?_)
    | (refine snd_keeps (by assumption) ?_) | (refine snd3_keeps (by assumption) ?_)
    | fail_if_no_progress apply upd_keeps

theorem freezeTimed_keeps {u₀ s : State} (hk : Keeps u₀ s) :
    Keeps u₀ (freezeTimed s) := by
  unfold freezeTimed
  with_reducible repeat' first
    | assumption | apply tlmEvent_keeps | apply freezeCapture_keeps | apply put_keeps | apply wr_keeps
    | apply ite_keeps | refine each_keeps ?_ _ _ (fun _ _ _ => ?_) | (refine snd_keeps (by assumption) ?_)
    | (refine snd3_keeps (by assumption) ?_) | fail_if_no_progress apply upd_keeps

theorem armedTo_keeps {u₀ s : State} (hk : Keeps u₀ s) :
    Keeps u₀ (armedTo s) := by
  unfold armedTo
  with_reducible repeat' first
    | assumption | apply State.advanceTo_keeps | apply put_keeps | apply wr_keeps | apply ite_keeps
    | refine each_keeps ?_ _ _ (fun _ _ _ => ?_) | (refine snd_keeps (by assumption) ?_)
    | (refine snd3_keeps (by assumption) ?_) | fail_if_no_progress apply upd_keeps | split

theorem freezeRelock_keeps {u₀ s : State} (hk : Keeps u₀ s) :
    Keeps u₀ (freezeRelock s) := by
  unfold freezeRelock
  with_reducible repeat' first
    | assumption | apply freezeLocal_keeps | apply put_keeps | apply wr_keeps | apply ite_keeps
    | refine each_keeps ?_ _ _ (fun _ _ _ => ?_) | (refine snd_keeps (by assumption) ?_)
    | (refine snd3_keeps (by assumption) ?_) | fail_if_no_progress apply upd_keeps

theorem frzCtrlWrite_keeps {u₀ s : State} (hk : Keeps u₀ s) (v : Word) :
    Keeps u₀ (frzCtrlWrite v s) := by
  unfold frzCtrlWrite
  with_reducible repeat' first
    | assumption | apply freezeLocal_keeps | apply put_keeps | apply wr_keeps | apply ite_keeps
    | refine each_keeps ?_ _ _ (fun _ _ _ => ?_) | (refine snd_keeps (by assumption) ?_)
    | (refine snd3_keeps (by assumption) ?_) | fail_if_no_progress apply upd_keeps

theorem freezeDone_keeps {u₀ s : State} (hk : Keeps u₀ s) :
    Keeps u₀ (freezeDone s) := by
  unfold freezeDone
  with_reducible repeat' first | assumption | apply put_keeps

theorem unloadTo_keeps {u₀ s : State} (hk : Keeps u₀ s) :
    Keeps u₀ (unloadTo s) := by
  unfold unloadTo
  with_reducible repeat' first
    | assumption | apply State.passEdges_keeps | apply put_keeps | apply wr_keeps | apply ite_keeps
    | refine each_keeps ?_ _ _ (fun _ _ _ => ?_) | (refine snd_keeps (by assumption) ?_)
    | (refine snd3_keeps (by assumption) ?_) | fail_if_no_progress apply upd_keeps | split

theorem freezeUnloaded_keeps {u₀ s : State} (hk : Keeps u₀ s) :
    Keeps u₀ (freezeUnloaded s) := by
  unfold freezeUnloaded
  with_reducible repeat' first
    | assumption | apply tlmEvent_keeps | apply freezeDone_keeps | apply put_keeps | apply wr_keeps | apply ite_keeps
    | refine each_keeps ?_ _ _ (fun _ _ _ => ?_) | (refine snd_keeps (by assumption) ?_)
    | (refine snd3_keeps (by assumption) ?_) | fail_if_no_progress apply upd_keeps | split

theorem ringExport_keeps {u₀ s : State} (hk : Keeps u₀ s) (fail : Option (Nat × Nat)) :
    Keeps u₀ (ringExport fail s) := by
  unfold ringExport
  with_reducible repeat' first
    | assumption | apply tlmEvent_keeps | apply State.incSat_keeps | apply dmaError_keeps
    | apply State.hostWrite_keeps | apply freezeDone_keeps | refine fst_keeps (by assumption) ?_
    | refine fold1_keeps ?_ _ _ (fun _ _ _ => ?_) | apply put_keeps | apply wr_keeps | apply ite_keeps
    | refine each_keeps ?_ _ _ (fun _ _ _ => ?_) | (refine snd_keeps (by assumption) ?_)
    | (refine snd3_keeps (by assumption) ?_) | fail_if_no_progress apply upd_keeps | split | dsimp only

theorem traceExported_keeps {u₀ s : State} (hk : Keeps u₀ s) (fail : Option Nat) :
    Keeps u₀ (traceExported fail s) := by
  unfold traceExported
  with_reducible repeat' first
    | assumption | apply traceExportEnd_keeps | apply State.hostWrite_keeps | apply dmaError_keeps
    | apply traceArm_keeps | apply put_keeps | apply wr_keeps | apply ite_keeps
    | refine each_keeps ?_ _ _ (fun _ _ _ => ?_) | (refine snd_keeps (by assumption) ?_)
    | (refine snd3_keeps (by assumption) ?_) | fail_if_no_progress apply upd_keeps | split

theorem trxWrite_keeps {u₀ s : State} (hk : Keeps u₀ s) (v : Word) :
    Keeps u₀ (trxWrite v s) := by
  unfold trxWrite
  with_reducible repeat' first
    | assumption | apply traceExport_keeps | apply put_keeps | apply wr_keeps | apply ite_keeps

theorem tlmWrite_keeps {u₀ s : State} (hk : Keeps u₀ s) (a : Nat) (v : Word) :
    Keeps u₀ (tlmWrite a v s) := by
  unfold tlmWrite
  with_reducible repeat' first
    | assumption | apply frzCtrlWrite_keeps | apply trxWrite_keeps | apply storeReg_keeps | apply put_keeps
    | apply wr_keeps | apply ite_keeps

theorem ageCell_keeps {u₀ s : State} (hk : Keeps u₀ s) (c : Nat) (a : AgeAcc) (tie : Nat) :
    Keeps u₀ (ageCell c a tie s) := by
  unfold ageCell
  with_reducible repeat' first
    | assumption | apply State.putOr_keeps | apply State.drawFree_keeps | apply State.roundOpen_keeps
    | apply State.putI_keeps | apply put_keeps | apply wr_keeps | apply ite_keeps

theorem ageTo_keeps {u₀ s : State} (hk : Keeps u₀ s) :
    Keeps u₀ (ageTo s) := by
  unfold ageTo
  with_reducible repeat' first
    | assumption | apply State.passEdges_keeps | apply put_keeps | apply wr_keeps | apply ite_keeps

theorem ageWindowEnd_keeps {u₀ s : State} (hk : Keeps u₀ s) (ties : List (Fin 4)) :
    Keeps u₀ (ageWindowEnd ties s) := by
  unfold ageWindowEnd
  with_reducible repeat' first
    | assumption | apply seaCatch_keeps | apply ageCell_keeps | apply put_keeps | apply wr_keeps | apply ite_keeps
    | refine each_keeps ?_ _ _ (fun _ _ _ => ?_) | (refine snd_keeps (by assumption) ?_)
    | (refine snd3_keeps (by assumption) ?_) | fail_if_no_progress apply upd_keeps

theorem hravgEpoch_keeps {u₀ s : State} (hk : Keeps u₀ s) :
    Keeps u₀ (hravgEpoch s) := by
  unfold hravgEpoch
  with_reducible repeat' first
    | assumption | apply State.wrI_keeps | apply put_keeps | apply wr_keeps | apply ite_keeps
    | refine each_keeps ?_ _ _ (fun _ _ _ => ?_)

theorem epochBoundary_keeps {u₀ s : State} (hk : Keeps u₀ s) :
    Keeps u₀ (epochBoundary s) := by
  unfold epochBoundary
  with_reducible repeat' first | assumption | apply hravgEpoch_keeps | apply cplrEpoch_keeps

theorem epochBounds_keeps {u₀ s : State} (hk : Keeps u₀ s) :
    Keeps u₀ (epochBounds s) := by
  unfold epochBounds
  with_reducible repeat' first
    | assumption | apply envWindowEnd_keeps | apply epochBoundary_keeps | apply put_keeps | apply wr_keeps
    | apply ite_keeps

theorem cpmSample_keeps {u₀ s : State} (hk : Keeps u₀ s) (n : Nat) (slack : Option (BitVec 16)) :
    Keeps u₀ (cpmSample n slack s) := by
  unfold cpmSample
  with_reducible repeat' first
    | assumption | apply State.putB_keeps | apply State.putI_keeps | apply put_keeps | apply wr_keeps
    | apply ite_keeps

theorem eolWrite_keeps {u₀ s : State} (hk : Keeps u₀ s) (a : Nat) (v : Word) :
    Keeps u₀ (eolWrite a v s) := by
  unfold eolWrite
  with_reducible repeat' first
    | assumption | apply storeReg_keeps | apply State.pulse_keeps | apply State.ring_keeps | apply put_keeps
    | apply wr_keeps | apply ite_keeps

theorem ageWrite_keeps {u₀ s : State} (hk : Keeps u₀ s) (a : Nat) (v : Word) :
    Keeps u₀ (ageWrite a v s) := by
  unfold ageWrite
  with_reducible repeat' first
    | assumption | apply eolWrite_keeps | apply storeReg_keeps | apply put_keeps | apply wr_keeps | apply ite_keeps

/-! ### TtbOps -/

theorem putTtb_keeps {u₀ s : State} (hk : Keeps u₀ s) (st : Nat) :
    Keeps u₀ (putTtb st s) := by
  unfold putTtb
  with_reducible repeat' first | assumption | apply put_keeps

theorem putCursor_keeps {u₀ s : State} (hk : Keeps u₀ s) (i : Nat) :
    Keeps u₀ (putCursor i s) := by
  unfold putCursor
  with_reducible repeat' first | assumption | apply put_keeps

theorem withdrawActions_keeps {u₀ s : State} (hk : Keeps u₀ s) :
    Keeps u₀ (withdrawActions s) := by
  unfold withdrawActions
  with_reducible repeat' first
    | assumption | apply withdrawNotices_keeps | apply put_keeps | apply wr_keeps | apply ite_keeps
    | refine each_keeps ?_ _ _ (fun _ _ _ => ?_) | (refine snd_keeps (by assumption) ?_)
    | (refine snd3_keeps (by assumption) ?_) | fail_if_no_progress apply upd_keeps

theorem endActivation_keeps {u₀ s : State} (hk : Keeps u₀ s) :
    Keeps u₀ (endActivation s) := by
  unfold endActivation
  with_reducible repeat' first
    | assumption | apply withdrawActions_keeps | apply put_keeps | apply wr_keeps | apply ite_keeps
    | refine each_keeps ?_ _ _ (fun _ _ _ => ?_) | (refine snd_keeps (by assumption) ?_)
    | (refine snd3_keeps (by assumption) ?_) | fail_if_no_progress apply upd_keeps

theorem startBuild_keeps {u₀ s : State} (hk : Keeps u₀ s) :
    Keeps u₀ (startBuild s) := by
  unfold startBuild
  with_reducible repeat' first
    | assumption | apply put_keeps | apply wr_keeps | apply ite_keeps | refine each_keeps ?_ _ _ (fun _ _ _ => ?_)
    | (refine snd_keeps (by assumption) ?_) | (refine snd3_keeps (by assumption) ?_)
    | fail_if_no_progress apply upd_keeps

theorem enterLost_keeps {u₀ s : State} (hk : Keeps u₀ s) :
    Keeps u₀ (enterLost s) := by
  unfold enterLost
  with_reducible repeat' first
    | assumption | apply putTtb_keeps | apply endActivation_keeps | apply State.incSat_keeps | apply State.ring_keeps
    | apply put_keeps

theorem ttbArm_keeps {u₀ s : State} (hk : Keeps u₀ s) :
    Keeps u₀ (ttbArm s) := by
  unfold ttbArm
  with_reducible repeat' first
    | assumption | apply State.addSat_keeps | apply endActivation_keeps | apply putTtb_keeps | apply startBuild_keeps
    | apply put_keeps | apply wr_keeps | apply ite_keeps | refine each_keeps ?_ _ _ (fun _ _ _ => ?_)
    | (refine snd_keeps (by assumption) ?_) | (refine snd3_keeps (by assumption) ?_)
    | fail_if_no_progress apply upd_keeps

theorem ttbStop_keeps {u₀ s : State} (hk : Keeps u₀ s) :
    Keeps u₀ (ttbStop s) := by
  unfold ttbStop
  with_reducible repeat' first
    | assumption | apply startBuild_keeps | apply putTtb_keeps | apply endActivation_keeps | apply put_keeps
    | apply wr_keeps | apply ite_keeps | refine each_keeps ?_ _ _ (fun _ _ _ => ?_)
    | (refine snd_keeps (by assumption) ?_) | (refine snd3_keeps (by assumption) ?_)
    | fail_if_no_progress apply upd_keeps

theorem ttbCtrlWrite_keeps {u₀ s : State} (hk : Keeps u₀ s) (v : Word) :
    Keeps u₀ (ttbCtrlWrite v s) := by
  unfold ttbCtrlWrite
  with_reducible repeat' first
    | assumption | apply ttbStop_keeps | apply ttbArm_keeps | apply startBuild_keeps | apply put_keeps
    | apply wr_keeps | apply ite_keeps

theorem dirRead_keeps {u₀ s : State} (hk : Keeps u₀ s) :
    Keeps u₀ (dirRead s).2 := by
  unfold dirRead
  with_reducible repeat' first
    | assumption | apply State.drawFree_keeps | refine fold2_keeps ?_ _ _ (fun _ _ _ => ?_) | apply put_keeps
    | apply wr_keeps | apply ite_keeps | refine each_keeps ?_ _ _ (fun _ _ _ => ?_)
    | (refine snd_keeps (by assumption) ?_) | (refine snd3_keeps (by assumption) ?_)
    | fail_if_no_progress apply upd_keeps | split | dsimp only

theorem dirDone_keeps {u₀ s : State} (hk : Keeps u₀ s) :
    Keeps u₀ (dirDone s) := by
  unfold dirDone
  with_reducible repeat' first
    | assumption | apply dirRead_keeps | apply memUe_keeps | apply State.putB_keeps | apply State.ring_keeps
    | apply putTtb_keeps | apply putCursor_keeps | apply put_keeps | apply wr_keeps | apply ite_keeps
    | refine each_keeps ?_ _ _ (fun _ _ _ => ?_) | (refine snd_keeps (by assumption) ?_)
    | (refine snd3_keeps (by assumption) ?_) | fail_if_no_progress apply upd_keeps

theorem putEntry_keeps {u₀ s : State} (hk : Keeps u₀ s) (i : Nat) (ws : List (Nat × Word)) :
    Keeps u₀ (putEntry i ws s) := by
  unfold putEntry
  with_reducible repeat' first
    | assumption | apply memWritten_keeps | apply put_keeps | apply wr_keeps | apply ite_keeps
    | refine each_keeps ?_ _ _ (fun _ _ _ => ?_) | (refine snd_keeps (by assumption) ?_)
    | (refine snd3_keeps (by assumption) ?_) | fail_if_no_progress apply upd_keeps

theorem freeSlots_keeps {u₀ s : State} (hk : Keeps u₀ s) (at_ : Nat) :
    Keeps u₀ (freeSlots at_ s) := by
  unfold freeSlots
  with_reducible repeat' first
    | assumption | apply put_keeps | apply wr_keeps | apply ite_keeps | refine each_keeps ?_ _ _ (fun _ _ _ => ?_)
    | (refine snd_keeps (by assumption) ?_) | (refine snd3_keeps (by assumption) ?_)
    | fail_if_no_progress apply upd_keeps

theorem activateEntry_keeps {u₀ s : State} (hk : Keeps u₀ s) (tm act : Nat) (snap : List Word) (i : Nat) :
    Keeps u₀ (activateEntry tm act snap i s) := by
  unfold activateEntry
  with_reducible repeat' first
    | assumption | apply memUe_keeps | apply State.incSat_keeps | apply State.ring_keeps | apply freeSlots_keeps
    | apply giveNotice_keeps | apply put_keeps | apply wr_keeps | apply ite_keeps
    | refine each_keeps ?_ _ _ (fun _ _ _ => ?_) | (refine snd_keeps (by assumption) ?_)
    | (refine snd3_keeps (by assumption) ?_) | fail_if_no_progress apply upd_keeps | split

theorem groupDone_keeps {u₀ s : State} (hk : Keeps u₀ s) (e : Nat) :
    Keeps u₀ (groupDone e s) := by
  unfold groupDone
  with_reducible repeat' first
    | assumption | apply putCursor_keeps | apply State.addWrap_keeps | apply putTtb_keeps | apply State.ring_keeps
    | apply put_keeps | apply wr_keeps | apply ite_keeps

theorem groupCatch_keeps {u₀ s : State} (hk : Keeps u₀ s) (upto : Nat) :
    Keeps u₀ (groupCatch upto s) := by
  unfold groupCatch
  with_reducible repeat' first
    | assumption | apply activateEntry_keeps | apply groupDone_keeps | apply put_keeps | apply wr_keeps
    | apply ite_keeps | refine each_keeps ?_ _ _ (fun _ _ _ => ?_) | (refine snd_keeps (by assumption) ?_)
    | (refine snd3_keeps (by assumption) ?_) | fail_if_no_progress apply upd_keeps | split

theorem startGroup_keeps {u₀ s : State} (hk : Keeps u₀ s) (i edge : Nat) (m : Marker) :
    Keeps u₀ (startGroup i edge m s) := by
  unfold startGroup
  with_reducible repeat' first
    | assumption | apply put_keeps | apply wr_keeps | apply ite_keeps | refine each_keeps ?_ _ _ (fun _ _ _ => ?_)
    | (refine snd_keeps (by assumption) ?_) | (refine snd3_keeps (by assumption) ?_)
    | fail_if_no_progress apply upd_keeps

theorem markerIn_keeps {u₀ s : State} (hk : Keeps u₀ s) (m cp t : Nat) :
    Keeps u₀ (markerIn m cp t s) := by
  unfold markerIn
  with_reducible repeat' first
    | assumption | apply State.incSat_keeps | apply enterLost_keeps | apply put_keeps | apply wr_keeps
    | apply ite_keeps | refine each_keeps ?_ _ _ (fun _ _ _ => ?_) | (refine snd_keeps (by assumption) ?_)
    | (refine snd3_keeps (by assumption) ?_) | fail_if_no_progress apply upd_keeps

theorem portNext_keeps {u₀ s : State} (hk : Keeps u₀ s) (upto : Nat) :
    Keeps u₀ (portNext upto s) := by
  unfold portNext
  with_reducible repeat' first
    | assumption | apply groupCatch_keeps | apply markerIn_keeps | apply put_keeps | apply wr_keeps | apply ite_keeps
    | refine each_keeps ?_ _ _ (fun _ _ _ => ?_) | (refine snd_keeps (by assumption) ?_)
    | (refine snd3_keeps (by assumption) ?_) | fail_if_no_progress apply upd_keeps | split

theorem portCatch_keeps {u₀ s : State} (hk : Keeps u₀ s) (upto : Nat) :
    Keeps u₀ (portCatch upto s) := by
  unfold portCatch
  with_reducible repeat' first
    | assumption | apply portNext_keeps | apply put_keeps | apply wr_keeps | apply ite_keeps
    | refine each_keeps ?_ _ _ (fun _ _ _ => ?_)

theorem ttbCatch_keeps {u₀ s : State} (hk : Keeps u₀ s) :
    Keeps u₀ (ttbCatch s) := by
  unfold ttbCatch
  with_reducible repeat' first | assumption | apply groupCatch_keeps | apply portCatch_keeps

theorem markerPresent_keeps {u₀ s : State} (hk : Keeps u₀ s) (m cp : Nat) :
    Keeps u₀ (markerPresent m cp s) := by
  unfold markerPresent
  with_reducible repeat' first
    | assumption | apply groupCatch_keeps | apply portCatch_keeps | apply put_keeps | apply wr_keeps | apply ite_keeps
    | refine each_keeps ?_ _ _ (fun _ _ _ => ?_) | (refine snd_keeps (by assumption) ?_)
    | (refine snd3_keeps (by assumption) ?_) | fail_if_no_progress apply upd_keeps

theorem ttbLookup_keeps {u₀ s : State} (hk : Keeps u₀ s) (edge : Nat) (m : Marker) :
    Keeps u₀ (ttbLookup edge m s).2 := by
  unfold ttbLookup
  with_reducible repeat' first
    | assumption | apply startGroup_keeps | apply putTtb_keeps | apply putCursor_keeps | apply State.ring_keeps
    | apply put_keeps | apply wr_keeps | apply ite_keeps | refine each_keeps ?_ _ _ (fun _ _ _ => ?_)
    | (refine snd_keeps (by assumption) ?_) | (refine snd3_keeps (by assumption) ?_)
    | fail_if_no_progress apply upd_keeps | split

theorem handleMarker_keeps {u₀ s : State} (hk : Keeps u₀ s) (edge : Nat) (m : Marker) :
    Keeps u₀ (handleMarker edge m s).2 := by
  unfold handleMarker
  with_reducible repeat' first
    | assumption | apply State.incSat_keeps | apply startGroup_keeps | apply ttbLookup_keeps | apply enterLost_keeps
    | apply put_keeps | apply wr_keeps | apply ite_keeps | refine each_keeps ?_ _ _ (fun _ _ _ => ?_)
    | (refine snd_keeps (by assumption) ?_) | (refine snd3_keeps (by assumption) ?_)
    | fail_if_no_progress apply upd_keeps | split | dsimp only

theorem markerHandle_keeps {u₀ s : State} (hk : Keeps u₀ s) (lag : Nat) :
    Keeps u₀ (markerHandle lag s) := by
  unfold markerHandle
  with_reducible repeat' first
    | assumption | apply ttbCatch_keeps | apply handleMarker_keeps | apply groupCatch_keeps | apply State.putB_keeps
    | apply put_keeps | apply wr_keeps | apply ite_keeps | refine each_keeps ?_ _ _ (fun _ _ _ => ?_)
    | (refine snd_keeps (by assumption) ?_) | (refine snd3_keeps (by assumption) ?_)
    | fail_if_no_progress apply upd_keeps | split | dsimp only

theorem landLegs_keeps {u₀ s : State} (hk : Keeps u₀ s) :
    Keeps u₀ (landLegs s) := by
  unfold landLegs
  with_reducible repeat' first
    | assumption | apply State.ring_keeps | apply put_keeps | apply wr_keeps | apply ite_keeps
    | refine each_keeps ?_ _ _ (fun _ _ _ => ?_) | (refine snd_keeps (by assumption) ?_)
    | (refine snd3_keeps (by assumption) ?_) | fail_if_no_progress apply upd_keeps | split | dsimp only

theorem countActions_keeps {u₀ s : State} (hk : Keeps u₀ s) :
    Keeps u₀ (countActions s) := by
  unfold countActions
  with_reducible repeat' first
    | assumption | apply put_keeps | apply wr_keeps | apply ite_keeps | refine each_keeps ?_ _ _ (fun _ _ _ => ?_)
    | (refine snd_keeps (by assumption) ?_) | (refine snd3_keeps (by assumption) ?_)
    | fail_if_no_progress apply upd_keeps

theorem forecastTick_keeps {u₀ s : State} (hk : Keeps u₀ s) :
    Keeps u₀ (forecastTick s) := by
  unfold forecastTick
  with_reducible repeat' first
    | assumption | apply ttbCatch_keeps | apply countActions_keeps | apply freeSlots_keeps | apply landLegs_keeps
    | apply State.putI_keeps | apply writeNfc_keeps | apply put_keeps | apply wr_keeps | apply ite_keeps
    | refine each_keeps ?_ _ _ (fun _ _ _ => ?_)

theorem ttbDmaEnd_keeps {u₀ s : State} (hk : Keeps u₀ s) (res : Nat) :
    Keeps u₀ (ttbDmaEnd res s) := by
  unfold ttbDmaEnd
  with_reducible repeat' first | assumption | apply startBuild_keeps | apply State.ring_keeps | apply put_keeps

theorem ttbDmaWrite_keeps {u₀ s : State} (hk : Keeps u₀ s) (v : Word) :
    Keeps u₀ (ttbDmaWrite v s) := by
  unfold ttbDmaWrite
  with_reducible repeat' first
    | assumption | apply ttbDmaEnd_keeps | apply put_keeps | apply wr_keeps | apply ite_keeps
    | refine each_keeps ?_ _ _ (fun _ _ _ => ?_) | (refine snd_keeps (by assumption) ?_)
    | (refine snd3_keeps (by assumption) ?_) | fail_if_no_progress apply upd_keeps

theorem dmaSlot_keeps {u₀ s : State} (hk : Keeps u₀ s) :
    Keeps u₀ (dmaSlot s) := by
  unfold dmaSlot
  with_reducible repeat' first
    | assumption | apply State.passEdges_keeps | apply put_keeps | apply wr_keeps | apply ite_keeps

theorem ttbDmaEntry_keeps {u₀ s : State} (hk : Keeps u₀ s) (ws : List Word) :
    Keeps u₀ (ttbDmaEntry ws s) := by
  unfold ttbDmaEntry
  with_reducible repeat' first
    | assumption | apply putEntry_keeps | apply put_keeps | apply wr_keeps | apply ite_keeps
    | refine each_keeps ?_ _ _ (fun _ _ _ => ?_) | (refine snd_keeps (by assumption) ?_)
    | (refine snd3_keeps (by assumption) ?_) | fail_if_no_progress apply upd_keeps

theorem ttbDmaFinish_keeps {u₀ s : State} (hk : Keeps u₀ s) (ok : Bool) :
    Keeps u₀ (ttbDmaFinish ok s) := by
  unfold ttbDmaFinish
  with_reducible repeat' first
    | assumption | apply ttbDmaEnd_keeps | apply dmaError_keeps | apply put_keeps | apply wr_keeps | apply ite_keeps

theorem timetableWrite_keeps {u₀ s : State} (hk : Keeps u₀ s) (i w : Nat) (v : Word) :
    Keeps u₀ (timetableWrite i w v s) := by
  unfold timetableWrite
  with_reducible repeat' first
    | assumption | apply putEntry_keeps | apply put_keeps | apply wr_keeps | apply ite_keeps

theorem ttbWrite_keeps {u₀ s : State} (hk : Keeps u₀ s) (a : Nat) (v : Word) :
    Keeps u₀ (ttbWrite a v s) := by
  unfold ttbWrite
  with_reducible repeat' first
    | assumption | apply ttbCatch_keeps | apply timetableWrite_keeps | apply ttbCtrlWrite_keeps
    | apply ttbDmaWrite_keeps | apply storeReg_keeps | apply put_keeps | apply wr_keeps | apply ite_keeps

/-! ### HoldOps -/

theorem holdEvent_keeps {u₀ s : State} (hk : Keeps u₀ s) (o : Nat) :
    Keeps u₀ (holdEvent o s) := by
  unfold holdEvent
  with_reducible repeat' first | assumption | apply State.ring_keeps

theorem sagEdge_keeps {u₀ s : State} (hk : Keeps u₀ s) :
    Keeps u₀ (sagEdge s) := by
  unfold sagEdge
  with_reducible repeat' first
    | assumption | apply odrStop_keeps | apply ttbStop_keeps | apply ordersZero_keeps | apply rgnDisable_keeps
    | apply smbLatch_keeps | apply put_keeps | apply wr_keeps | apply ite_keeps
    | refine each_keeps ?_ _ _ (fun _ _ _ => ?_) | (refine snd_keeps (by assumption) ?_)
    | (refine snd3_keeps (by assumption) ?_) | fail_if_no_progress apply upd_keeps

theorem sagDeclared_keeps {u₀ s : State} (hk : Keeps u₀ s) :
    Keeps u₀ (sagDeclared s) := by
  unfold sagDeclared
  with_reducible repeat' first
    | assumption | apply State.incSat_keeps | apply State.put64_keeps | apply holdEvent_keeps | apply sagEdge_keeps
    | apply put_keeps | apply wr_keeps | apply ite_keeps | refine each_keeps ?_ _ _ (fun _ _ _ => ?_)
    | (refine snd_keeps (by assumption) ?_) | (refine snd3_keeps (by assumption) ?_)
    | fail_if_no_progress apply upd_keeps

theorem sagFrontStop_keeps {u₀ s : State} (hk : Keeps u₀ s) :
    Keeps u₀ (sagFrontStop s) := by
  unfold sagFrontStop
  with_reducible repeat' first
    | assumption | apply frontFault_keeps | apply put_keeps | apply wr_keeps | apply ite_keeps

theorem savesDone_keeps {u₀ s : State} (hk : Keeps u₀ s) :
    Keeps u₀ (savesDone s) := by
  unfold savesDone
  with_reducible repeat' first
    | assumption | apply holdEvent_keeps | apply put_keeps | apply wr_keeps | apply ite_keeps

theorem captureDone_keeps {u₀ s : State} (hk : Keeps u₀ s) (missing peers : List Nat) :
    Keeps u₀ (captureDone missing peers s) := by
  unfold captureDone
  with_reducible repeat' first
    | assumption | apply State.advanceTo_keeps | apply holdEvent_keeps | apply put_keeps | apply wr_keeps
    | apply ite_keeps | refine each_keeps ?_ _ _ (fun _ _ _ => ?_) | (refine snd_keeps (by assumption) ?_)
    | (refine snd3_keeps (by assumption) ?_) | fail_if_no_progress apply upd_keeps

theorem recordProgrammed_keeps {u₀ s : State} (hk : Keeps u₀ s) (k : Nat) (words : List Word) :
    Keeps u₀ (recordProgrammed k words s) := by
  unfold recordProgrammed
  with_reducible repeat' first
    | assumption | apply flashWrite_keeps | apply savesDone_keeps | apply put_keeps | apply wr_keeps | apply ite_keeps
    | refine each_keeps ?_ _ _ (fun _ _ _ => ?_) | (refine snd_keeps (by assumption) ?_)
    | (refine snd3_keeps (by assumption) ?_) | fail_if_no_progress apply upd_keeps | split

theorem saveRaise_keeps {u₀ s : State} (hk : Keeps u₀ s) :
    Keeps u₀ (saveRaise s) := by
  unfold saveRaise
  with_reducible repeat' first
    | assumption | apply State.pulse_keeps | apply put_keeps | apply wr_keeps | apply ite_keeps
    | refine each_keeps ?_ _ _ (fun _ _ _ => ?_) | (refine snd_keeps (by assumption) ?_)
    | (refine snd3_keeps (by assumption) ?_) | fail_if_no_progress apply upd_keeps

theorem saveTimeout_keeps {u₀ s : State} (hk : Keeps u₀ s) :
    Keeps u₀ (saveTimeout s) := by
  unfold saveTimeout
  with_reducible repeat' first
    | assumption | apply State.advanceTo_keeps | apply holdEvent_keeps | apply saveRaise_keeps | apply put_keeps
    | apply wr_keeps | apply ite_keeps | refine each_keeps ?_ _ _ (fun _ _ _ => ?_)
    | (refine snd_keeps (by assumption) ?_) | (refine snd3_keeps (by assumption) ?_)
    | fail_if_no_progress apply upd_keeps

theorem keptSave_keeps {u₀ s : State} (hk : Keeps u₀ s) :
    Keeps u₀ (keptSave s) := by
  unfold keptSave
  with_reducible repeat' first
    | assumption | apply put_keeps | apply wr_keeps | apply ite_keeps | refine each_keeps ?_ _ _ (fun _ _ _ => ?_)
    | (refine snd_keeps (by assumption) ?_) | (refine snd3_keeps (by assumption) ?_)
    | fail_if_no_progress apply upd_keeps

theorem sagEnd_keeps {u₀ s : State} (hk : Keeps u₀ s) :
    Keeps u₀ (sagEnd s) := by
  unfold sagEnd
  with_reducible repeat' first
    | assumption | apply keptSave_keeps | apply holdEvent_keeps | apply put_keeps | apply wr_keeps | apply ite_keeps

theorem holdFrameWrite_keeps {u₀ s : State} (hk : Keeps u₀ s) (v : Word) :
    Keeps u₀ (holdFrameWrite v s) := by
  unfold holdFrameWrite
  with_reducible repeat' first | assumption | apply keptSave_keeps | apply storeReg_keeps

/-! ### PmbusOps -/

theorem replyLinear_keeps {u₀ s : State} (hk : Keeps u₀ s) (w : Option Nat) :
    Keeps u₀ (replyLinear w s) := by
  unfold replyLinear
  with_reducible repeat' first
    | assumption | apply State.answer_keeps | apply State.drawFree_keeps | apply put_keeps | apply wr_keeps
    | apply ite_keeps | refine each_keeps ?_ _ _ (fun _ _ _ => ?_) | (refine snd_keeps (by assumption) ?_)
    | (refine snd3_keeps (by assumption) ?_) | fail_if_no_progress apply upd_keeps | split

theorem replyHottest_keeps {u₀ s : State} (hk : Keeps u₀ s) (l : List Int) (den : Nat) :
    Keeps u₀ (replyHottest l den s) := by
  unfold replyHottest
  with_reducible repeat' first
    | assumption | apply replyLinear_keeps | apply put_keeps | apply wr_keeps | apply ite_keeps
    | refine each_keeps ?_ _ _ (fun _ _ _ => ?_) | (refine snd_keeps (by assumption) ?_)
    | (refine snd3_keeps (by assumption) ?_) | fail_if_no_progress apply upd_keeps | split

theorem cmlLatch_keeps {u₀ s : State} (hk : Keeps u₀ s) (b : Nat) :
    Keeps u₀ (cmlLatch b s) := by
  unfold cmlLatch
  with_reducible repeat' first
    | assumption | apply put_keeps | apply wr_keeps | apply ite_keeps | refine each_keeps ?_ _ _ (fun _ _ _ => ?_)
    | (refine snd_keeps (by assumption) ?_) | (refine snd3_keeps (by assumption) ?_)
    | fail_if_no_progress apply upd_keeps

theorem smbFresh_keeps {u₀ s : State} (hk : Keeps u₀ s) :
    Keeps u₀ (smbFresh s) := by
  unfold smbFresh
  with_reducible repeat' first
    | assumption | apply smbLatch_keeps | apply put_keeps | apply wr_keeps | apply ite_keeps

theorem smbDo_keeps {u₀ s : State} (hk : Keeps u₀ s) (k : State → State) (h_k : ∀ s, Keeps u₀ s → Keeps u₀ (k s)) :
    Keeps u₀ (smbDo k s) := by
  unfold smbDo
  with_reducible repeat' first | assumption | apply h_k | apply put_keeps | apply wr_keeps | apply ite_keeps

theorem replyRegs_keeps {u₀ s : State} (hk : Keeps u₀ s) (as : List Nat) :
    Keeps u₀ (replyRegs as s) := by
  unfold replyRegs
  with_reducible repeat' first | assumption | apply State.answer_keeps

theorem replyText_keeps {u₀ s : State} (hk : Keeps u₀ s) (t : String) :
    Keeps u₀ (replyText t s) := by
  unfold replyText
  with_reducible repeat' first | assumption | apply State.answer_keeps

/-! ### ResetOps -/

theorem resetCtrl_keeps {u s : State} (h : Keeps u s) : Keeps u (resetCtrl s) := by
  have h1 := resetWindow_keeps h
  exact ⟨h1.regs, fun _ => rfl, h1.pending, h1.efuse, h1.fused, h1.free⟩

theorem assertReset_keeps {u₀ s : State} (hk : Keeps u₀ s) :
    Keeps u₀ (assertReset s) := by
  unfold assertReset
  with_reducible repeat' first
    | assumption | apply resetCtrl_keeps | apply State.newCycle_keeps | apply loadEfuse_keeps | apply put_keeps
    | apply wr_keeps | apply ite_keeps | refine each_keeps ?_ _ _ (fun _ _ _ => ?_)
    | (refine snd_keeps (by assumption) ?_) | (refine snd3_keeps (by assumption) ?_)
    | fail_if_no_progress apply upd_keeps

theorem releaseReset_keeps {u₀ s : State} (hk : Keeps u₀ s) :
    Keeps u₀ (releaseReset s) := by
  unfold releaseReset
  with_reducible repeat' first
    | assumption | apply settle_keeps | apply saveRaise_keeps | apply romBoot_keeps | apply edgesRelease_keeps
    | apply reinAll_keeps | apply put_keeps | apply wr_keeps | apply ite_keeps
    | refine each_keeps ?_ _ _ (fun _ _ _ => ?_) | (refine snd_keeps (by assumption) ?_)
    | (refine snd3_keeps (by assumption) ?_) | fail_if_no_progress apply upd_keeps

theorem powerOnReset_keeps {u s : State} (h : Keeps u s) (asel : Nat) : Keeps u (powerOnReset asel s) := by
  unfold powerOnReset
  apply loadEfuse_keeps
  have h1 := resetCtrl_keeps h
  exact ⟨fun _ => rfl, fun _ => rfl, h1.pending, h1.efuse, h1.fused, h1.free⟩

theorem noteCause_keeps {u₀ s : State} (hk : Keeps u₀ s) (f : Fld) :
    Keeps u₀ (noteCause f s) := by
  unfold noteCause
  with_reducible repeat' first | assumption | apply put_keeps

theorem releasePor_keeps {u₀ s : State} (hk : Keeps u₀ s) :
    Keeps u₀ (releasePor s) := by
  unfold releasePor
  with_reducible repeat' first
    | assumption | apply noteCause_keeps | apply put_keeps | apply wr_keeps | apply ite_keeps
    | refine each_keeps ?_ _ _ (fun _ _ _ => ?_) | (refine snd_keeps (by assumption) ?_)
    | (refine snd3_keeps (by assumption) ?_) | fail_if_no_progress apply upd_keeps

theorem holdRstWrite_keeps {u₀ s : State} (hk : Keeps u₀ s) (v : Word) :
    Keeps u₀ (holdRstWrite v s) := by
  unfold holdRstWrite
  with_reducible repeat' first
    | assumption | apply noteCause_keeps | apply assertReset_keeps | apply firmwareReset_keeps | apply put_keeps
    | apply wr_keeps | apply ite_keeps | refine each_keeps ?_ _ _ (fun _ _ _ => ?_)
    | (refine snd_keeps (by assumption) ?_) | (refine snd3_keeps (by assumption) ?_)
    | fail_if_no_progress apply upd_keeps

theorem holdWrite_keeps {u₀ s : State} (hk : Keeps u₀ s) (a : Nat) (v : Word) :
    Keeps u₀ (holdWrite a v s) := by
  unfold holdWrite
  with_reducible repeat' first
    | assumption | apply holdFrameWrite_keeps | apply holdRstWrite_keeps | apply storeReg_keeps | apply put_keeps
    | apply wr_keeps | apply ite_keeps

theorem clocksStop_keeps {u₀ s : State} (hk : Keeps u₀ s) :
    Keeps u₀ (clocksStop s) := by
  unfold clocksStop
  with_reducible repeat' first
    | assumption | apply countEdges_keeps | apply State.setSconv_keeps | apply ordersZero_keeps
    | apply frontFault_keeps | apply safeBegins_keeps | apply put_keeps | apply wr_keeps | apply ite_keeps
    | refine each_keeps ?_ _ _ (fun _ _ _ => ?_) | (refine snd_keeps (by assumption) ?_)
    | (refine snd3_keeps (by assumption) ?_) | fail_if_no_progress apply upd_keeps

theorem lossOfLock_keeps {u₀ s : State} (hk : Keeps u₀ s) (refAbsent : Bool) :
    Keeps u₀ (lossOfLock refAbsent s) := by
  unfold lossOfLock
  with_reducible repeat' first
    | assumption | apply State.putB_keeps | apply State.incSat_keeps | apply clocksStop_keeps | apply put_keeps
    | apply wr_keeps | apply ite_keeps | refine each_keeps ?_ _ _ (fun _ _ _ => ?_)
    | (refine snd_keeps (by assumption) ?_) | (refine snd3_keeps (by assumption) ?_)
    | fail_if_no_progress apply upd_keeps

theorem timCtrlWrite_keeps {u₀ s : State} (hk : Keeps u₀ s) (v : Word) :
    Keeps u₀ (timCtrlWrite v s) := by
  unfold timCtrlWrite
  with_reducible repeat' first
    | assumption | apply clocksStop_keeps | apply put_keeps | apply wr_keeps | apply ite_keeps

theorem relock_keeps {u₀ s : State} (hk : Keeps u₀ s) :
    Keeps u₀ (relock s) := by
  unfold relock
  with_reducible repeat' first
    | assumption | apply skidStop_keeps | apply skidSchedule_keeps | apply State.setSkidHid_keeps
    | apply regionsSafe_keeps | apply freezeRelock_keeps | apply thmRelock_keeps | apply put_keeps | apply wr_keeps
    | apply ite_keeps | refine each_keeps ?_ _ _ (fun _ _ _ => ?_) | (refine snd_keeps (by assumption) ?_)
    | (refine snd3_keeps (by assumption) ?_) | fail_if_no_progress apply upd_keeps

theorem pllLock_keeps {u₀ s : State} (hk : Keeps u₀ s) :
    Keeps u₀ (pllLock s) := by
  unfold pllLock
  with_reducible repeat' first
    | assumption | apply relock_keeps | apply releaseCells_keeps | apply edgesRelease_keeps | apply reinAll_keeps
    | apply saveRaise_keeps | apply sagEdge_keeps | apply put_keeps | apply wr_keeps | apply ite_keeps
    | refine each_keeps ?_ _ _ (fun _ _ _ => ?_) | (refine snd_keeps (by assumption) ?_)
    | (refine snd3_keeps (by assumption) ?_) | fail_if_no_progress apply upd_keeps

theorem referenceAbsent_keeps {u₀ s : State} (hk : Keeps u₀ s) :
    Keeps u₀ (referenceAbsent s) := by
  unfold referenceAbsent
  with_reducible repeat' first | assumption | apply put_keeps | apply wr_keeps | apply ite_keeps

theorem referenceReturn_keeps {u₀ s : State} (hk : Keeps u₀ s) :
    Keeps u₀ (referenceReturn s) := by
  unfold referenceReturn
  with_reducible repeat' first
    | assumption | apply put_keeps | apply wr_keeps | apply ite_keeps | refine each_keeps ?_ _ _ (fun _ _ _ => ?_)
    | (refine snd_keeps (by assumption) ?_) | (refine snd3_keeps (by assumption) ?_)
    | fail_if_no_progress apply upd_keeps

theorem timWrite_keeps {u₀ s : State} (hk : Keeps u₀ s) (a : Nat) (v : Word) :
    Keeps u₀ (timWrite a v s) := by
  unfold timWrite
  with_reducible repeat' first
    | assumption | apply timCtrlWrite_keeps | apply tsAdjWrite_keeps | apply storeReg_keeps | apply put_keeps
    | apply wr_keeps | apply ite_keeps

theorem ctrlGood_keeps {u₀ s : State} (hk : Keeps u₀ s) :
    Keeps u₀ (ctrlGood s) := by
  unfold ctrlGood
  with_reducible repeat' first
    | assumption | apply put_keeps | apply wr_keeps | apply ite_keeps | refine each_keeps ?_ _ _ (fun _ _ _ => ?_)
    | (refine snd_keeps (by assumption) ?_) | (refine snd3_keeps (by assumption) ?_)
    | fail_if_no_progress apply upd_keeps

theorem ctrlLoss_keeps {u₀ s : State} (hk : Keeps u₀ s) :
    Keeps u₀ (ctrlLoss s) := by
  unfold ctrlLoss
  with_reducible repeat' first
    | assumption | apply assertReset_keeps | apply noteCause_keeps | apply put_keeps | apply wr_keeps
    | apply ite_keeps | refine each_keeps ?_ _ _ (fun _ _ _ => ?_) | (refine snd_keeps (by assumption) ?_)
    | (refine snd3_keeps (by assumption) ?_) | fail_if_no_progress apply upd_keeps

/-! ### AccessOps -/

theorem ramWrite_keeps {u₀ s : State} (hk : Keeps u₀ s) (m o : Nat) (bs : List Byte) :
    Keeps u₀ (ramWrite m o bs s) := by
  unfold ramWrite
  with_reducible repeat' first
    | assumption | apply State.ramPut_keeps | apply memUe_keeps | apply State.drawFree_keeps | apply put_keeps
    | apply wr_keeps | apply ite_keeps | refine each_keeps ?_ _ _ (fun _ _ _ => ?_)
    | (refine snd_keeps (by assumption) ?_) | (refine snd3_keeps (by assumption) ?_)
    | fail_if_no_progress apply upd_keeps

theorem ramRead_keeps {u₀ s : State} (hk : Keeps u₀ s) (m o n : Nat) :
    Keeps u₀ (ramRead m o n s).2 := by
  unfold ramRead
  with_reducible repeat' first
    | assumption | apply memUe_keeps | apply put_keeps | apply wr_keeps | apply ite_keeps
    | refine each_keeps ?_ _ _ (fun _ _ _ => ?_) | (refine snd_keeps (by assumption) ?_)
    | (refine snd3_keeps (by assumption) ?_) | fail_if_no_progress apply upd_keeps | split

theorem loseReservations_keeps {u₀ s : State} (hk : Keeps u₀ s) (writers line : Nat) :
    Keeps u₀ (loseReservations writers line s) := by
  unfold loseReservations
  with_reducible repeat' first
    | assumption | apply State.setCoreSt_keeps | apply put_keeps | apply wr_keeps | apply ite_keeps
    | refine each_keeps ?_ _ _ (fun _ _ _ => ?_) | (refine snd_keeps (by assumption) ?_)
    | (refine snd3_keeps (by assumption) ?_) | fail_if_no_progress apply upd_keeps | split

theorem vlWrite_keeps {u₀ s : State} (hk : Keeps u₀ s) (a : Nat) (v : Word) :
    Keeps u₀ (vlWrite a v s) := by
  unfold vlWrite
  with_reducible repeat' first
    | assumption | apply storeReg_keeps | apply fwWrite_keeps | apply put_keeps | apply wr_keeps | apply ite_keeps

theorem xphWrite_keeps {u₀ s : State} (hk : Keeps u₀ s) (a : Nat) (v : Word) :
    Keeps u₀ (xphWrite a v s) := by
  unfold xphWrite
  with_reducible repeat' first
    | assumption | apply rippleCatch_keeps | apply frontCommand_keeps | apply xphCfgWrite_keeps
    | apply xphOcpWrite_keeps | apply vimPtWrite_keeps | apply phCfgWrite_keeps | apply phaseClear_keeps
    | apply storeReg_keeps | apply put_keeps | apply wr_keeps | apply ite_keeps

theorem rgnWrite_keeps {u₀ s : State} (hk : Keeps u₀ s) (a : Nat) (v : Word) :
    Keeps u₀ (rgnWrite a v s) := by
  unfold rgnWrite
  with_reducible repeat' first
    | assumption | apply cfgCtrlWrite_keeps | apply storeReg_keeps | apply rgnCommand_keeps | apply vsetWrite_keeps
    | apply shadowWrite_keeps | apply put_keeps | apply wr_keeps | apply ite_keeps

theorem cellWrite_keeps {u₀ s : State} (hk : Keeps u₀ s) (a : Nat) (v : Word) :
    Keeps u₀ (cellWrite a v s) := by
  unfold cellWrite
  with_reducible repeat' first
    | assumption | apply storeReg_keeps | apply shadowWrite_keeps | apply cellCommand_keeps | apply snsWrite_keeps
    | apply testWrite_keeps | apply put_keeps | apply wr_keeps | apply ite_keeps

theorem vsnWrite_keeps {u₀ s : State} (hk : Keeps u₀ s) (a : Nat) (v : Word) :
    Keeps u₀ (vsnWrite a v s) := by
  unfold vsnWrite
  with_reducible repeat' first
    | assumption | apply minvClear_keeps | apply storeReg_keeps | apply put_keeps | apply wr_keeps | apply ite_keeps

theorem lpeBlockWrite_keeps {u₀ s : State} (hk : Keeps u₀ s) (a : Nat) (v : Word) :
    Keeps u₀ (lpeBlockWrite a v s) := by
  unfold lpeBlockWrite
  with_reducible repeat' first
    | assumption | apply lpeCtrlWrite_keeps | apply pgWrite_keeps | apply lpeWrite_keeps | apply put_keeps
    | apply wr_keeps | apply ite_keeps

theorem trcWrite_keeps {u₀ s : State} (hk : Keeps u₀ s) (a : Nat) (v : Word) :
    Keeps u₀ (trcWrite a v s) := by
  unfold trcWrite
  with_reducible repeat' first
    | assumption | apply trcCtrlWrite_keeps | apply trcPostWrite_keeps | apply trcCfgWrite_keeps
    | apply storeReg_keeps | apply put_keeps | apply wr_keeps | apply ite_keeps

theorem dbgWrite_keeps {u₀ s : State} (hk : Keeps u₀ s) (a : Nat) (v : Word) :
    Keeps u₀ (dbgWrite a v s) := by
  unfold dbgWrite
  with_reducible repeat' first
    | assumption | apply State.drawFree_keeps | apply dbgCtrlWrite_keeps | apply storeReg_keeps | apply put_keeps
    | apply wr_keeps | apply ite_keeps

theorem regAction_keeps {u₀ s : State} (hk : Keeps u₀ s) (req : Requester) (a : Nat) (v : Word) :
    Keeps u₀ (regAction req a v s) := by
  unfold regAction
  with_reducible repeat' first
    | assumption | apply vlWrite_keeps | apply pstWrite_keeps | apply mchWrite_keeps | apply cbseWrite_keeps
    | apply timWrite_keeps | apply xphWrite_keeps | apply rgnWrite_keeps | apply cellWrite_keeps
    | apply vsnWrite_keeps | apply snsBlockWrite_keeps | apply thmWrite_keeps | apply lpeBlockWrite_keeps
    | apply ttbWrite_keeps | apply odrWrite_keeps | apply storeReg_keeps | apply skidWrite_keeps
    | apply pwrWrite_keeps | apply cplrWrite_keeps | apply tlmWrite_keeps | apply ageWrite_keeps
    | apply holdWrite_keeps | apply trcWrite_keeps | apply dbgWrite_keeps | apply put_keeps | apply wr_keeps
    | apply ite_keeps

theorem regWrite_keeps {u₀ s : State} (hk : Keeps u₀ s) (req : Requester) (a : Nat) (v : Word) :
    Keeps u₀ (regWrite req a v s) := by
  unfold regWrite
  with_reducible repeat' first
    | assumption | refine gated_keeps ?_ _ _ _ _ (fun _ _ _ => ?_) | apply reinAll_keeps | apply regAction_keeps

theorem narrowWrite_keeps {u₀ s : State} (hk : Keeps u₀ s) (req : Requester) (w : Width) (addr : Nat) (v : Word) :
    Keeps u₀ (narrowWrite req w addr v s) := by
  unfold narrowWrite
  with_reducible repeat' first
    | assumption | apply recordDenied_keeps | apply put_keeps | apply wr_keeps | apply ite_keeps

theorem shadowRead_keeps {u₀ s : State} (hk : Keeps u₀ s) (i : Nat) :
    Keeps u₀ (shadowRead i s).2 := by
  unfold shadowRead
  with_reducible repeat' first
    | assumption | apply State.drawFree_keeps | apply put_keeps | apply wr_keeps | apply ite_keeps
    | refine each_keeps ?_ _ _ (fun _ _ _ => ?_) | (refine snd_keeps (by assumption) ?_)
    | (refine snd3_keeps (by assumption) ?_) | fail_if_no_progress apply upd_keeps | split | dsimp only

theorem memRead_keeps {u₀ s : State} (hk : Keeps u₀ s) (m base a : Nat) :
    Keeps u₀ (memRead m base a s).2 := by
  unfold memRead
  with_reducible repeat' first
    | assumption | apply memUe_keeps | apply shadowRead_keeps | apply put_keeps | apply wr_keeps | apply ite_keeps
    | refine each_keeps ?_ _ _ (fun _ _ _ => ?_) | (refine snd_keeps (by assumption) ?_)
    | (refine snd3_keeps (by assumption) ?_) | fail_if_no_progress apply upd_keeps | split

theorem regRead_keeps {u₀ s : State} (hk : Keeps u₀ s) (req : Requester) (a : Nat) :
    Keeps u₀ (regRead req a s).2 := by
  unfold regRead
  with_reducible repeat' first
    | assumption | apply memRead_keeps | apply hostClaim_keeps | apply windowsCatch_keeps | apply completionRead_keeps
    | apply chClaim_keeps | apply countEdges_keeps | apply seaCatch_keeps | apply ttbCatch_keeps
    | apply compCatch_keeps | apply hostTo_keeps | apply fillTimeouts_keeps | apply latchHi_keeps
    | apply minvLatch_keeps | apply clearRC_keeps | apply put_keeps | apply wr_keeps | apply ite_keeps
    | refine each_keeps ?_ _ _ (fun _ _ _ => ?_) | (refine snd_keeps (by assumption) ?_)
    | (refine snd3_keeps (by assumption) ?_) | fail_if_no_progress apply upd_keeps | split

theorem apertureWrite_keeps {u₀ s : State} (hk : Keeps u₀ s) (req : Requester) (i ca : Nat) (v : Word) :
    Keeps u₀ (apertureWrite req i ca v s) := by
  unfold apertureWrite
  with_reducible repeat' first
    | assumption | apply ramWrite_keeps | apply loseReservations_keeps | apply regWrite_keeps | apply put_keeps
    | apply wr_keeps | apply ite_keeps | refine each_keeps ?_ _ _ (fun _ _ _ => ?_)
    | (refine snd_keeps (by assumption) ?_) | (refine snd3_keeps (by assumption) ?_)
    | fail_if_no_progress apply upd_keeps | split

theorem apertureRead_keeps {u₀ s : State} (hk : Keeps u₀ s) (req : Requester) (i ca : Nat) :
    Keeps u₀ (apertureRead req i ca s).2 := by
  unfold apertureRead
  with_reducible repeat' first
    | assumption | apply ramRead_keeps | apply regRead_keeps | apply State.drawFree_keeps | apply put_keeps
    | apply wr_keeps | apply ite_keeps | refine each_keeps ?_ _ _ (fun _ _ _ => ?_)
    | (refine snd_keeps (by assumption) ?_) | (refine snd3_keeps (by assumption) ?_)
    | fail_if_no_progress apply upd_keeps | split

theorem windowWrite_keeps {u₀ s : State} (hk : Keeps u₀ s) (req : Requester) (w : Width) (a : Nat) (v : Word) :
    Keeps u₀ (windowWrite req w a v s) := by
  unfold windowWrite
  with_reducible repeat' first
    | assumption | apply recordDenied_keeps | apply apertureWrite_keeps | apply regWrite_keeps
    | apply narrowWrite_keeps | apply put_keeps | apply wr_keeps | apply ite_keeps
    | refine each_keeps ?_ _ _ (fun _ _ _ => ?_) | (refine snd_keeps (by assumption) ?_)
    | (refine snd3_keeps (by assumption) ?_) | fail_if_no_progress apply upd_keeps | split

theorem windowRead_keeps {u₀ s : State} (hk : Keeps u₀ s) (req : Requester) (w : Width) (a : Nat) :
    Keeps u₀ (windowRead req w a s).2 := by
  unfold windowRead
  with_reducible repeat' first
    | assumption | apply apertureRead_keeps | apply regRead_keeps | apply put_keeps | apply wr_keeps | apply ite_keeps
    | refine each_keeps ?_ _ _ (fun _ _ _ => ?_) | (refine snd_keeps (by assumption) ?_)
    | (refine snd3_keeps (by assumption) ?_) | fail_if_no_progress apply upd_keeps | split | dsimp only

/-! ### CoreMemOps -/

theorem commonsWrite_keeps {u₀ s : State} (hk : Keeps u₀ s) (writers o : Nat) (bs : List Byte) :
    Keeps u₀ (commonsWrite writers o bs s) := by
  unfold commonsWrite
  with_reducible repeat' first | assumption | apply loseReservations_keeps | apply ramWrite_keeps

theorem State.setLines_keeps {u₀ s : State} (hk : Keeps u₀ s) (g : Nat) (l : List CacheLine) :
    Keeps u₀ (State.setLines s g l) := by
  unfold State.setLines
  with_reducible repeat' first
    | assumption | apply put_keeps | apply wr_keeps | apply ite_keeps | refine each_keeps ?_ _ _ (fun _ _ _ => ?_)
    | (refine snd_keeps (by assumption) ?_) | (refine snd3_keeps (by assumption) ?_)
    | fail_if_no_progress apply upd_keeps

theorem State.putLine_keeps {u₀ s : State} (hk : Keeps u₀ s) (g : Nat) (l : CacheLine) :
    Keeps u₀ (State.putLine s g l) := by
  unfold State.putLine
  with_reducible repeat' first | assumption | apply State.setLines_keeps

theorem lineOut_keeps {u₀ s : State} (hk : Keeps u₀ s) (l : CacheLine) :
    Keeps u₀ (lineOut l s) := by
  unfold lineOut
  with_reducible repeat' first
    | assumption | apply commonsWrite_keeps | apply put_keeps | apply wr_keeps | apply ite_keeps
    | refine each_keeps ?_ _ _ (fun _ _ _ => ?_)

theorem lineClean_keeps {u₀ s : State} (hk : Keeps u₀ s) (g a : Nat) :
    Keeps u₀ (lineClean g a s) := by
  unfold lineClean
  with_reducible repeat' first
    | assumption | apply lineOut_keeps | apply State.putLine_keeps | apply put_keeps | apply wr_keeps
    | apply ite_keeps | refine each_keeps ?_ _ _ (fun _ _ _ => ?_) | (refine snd_keeps (by assumption) ?_)
    | (refine snd3_keeps (by assumption) ?_) | fail_if_no_progress apply upd_keeps | split

theorem cacheDue_keeps {u₀ s : State} (hk : Keeps u₀ s) :
    Keeps u₀ (cacheDue s) := by
  unfold cacheDue
  with_reducible repeat' first
    | assumption | apply lineClean_keeps | apply put_keeps | apply wr_keeps | apply ite_keeps
    | refine each_keeps ?_ _ _ (fun _ _ _ => ?_)

theorem lineDrop_keeps {u₀ s : State} (hk : Keeps u₀ s) (g a : Nat) :
    Keeps u₀ (lineDrop g a s) := by
  unfold lineDrop
  with_reducible repeat' first
    | assumption | apply lineOut_keeps | apply State.setLines_keeps | apply put_keeps | apply wr_keeps
    | apply ite_keeps | refine each_keeps ?_ _ _ (fun _ _ _ => ?_) | (refine snd_keeps (by assumption) ?_)
    | (refine snd3_keeps (by assumption) ?_) | fail_if_no_progress apply upd_keeps | split

theorem cacheClean_keeps {u₀ s : State} (hk : Keeps u₀ s) (g : Nat) :
    Keeps u₀ (cacheClean g s) := by
  unfold cacheClean
  with_reducible repeat' first
    | assumption | apply lineClean_keeps | apply put_keeps | apply wr_keeps | apply ite_keeps
    | refine each_keeps ?_ _ _ (fun _ _ _ => ?_)

theorem cacheDrop_keeps {u₀ s : State} (hk : Keeps u₀ s) (g : Nat) :
    Keeps u₀ (cacheDrop g s) := by
  unfold cacheDrop
  with_reducible repeat' first | assumption | apply cacheClean_keeps | apply State.setLines_keeps

theorem lineFetch_keeps {u₀ s : State} (hk : Keeps u₀ s) (a : Nat) :
    Keeps u₀ (lineFetch a s).2 := by
  unfold lineFetch
  with_reducible repeat' first
    | assumption | apply ramRead_keeps | refine fold2_keeps ?_ _ _ (fun _ _ _ => ?_) | apply put_keeps
    | apply wr_keeps | apply ite_keeps | refine each_keeps ?_ _ _ (fun _ _ _ => ?_)
    | (refine snd_keeps (by assumption) ?_) | (refine snd3_keeps (by assumption) ?_)
    | fail_if_no_progress apply upd_keeps | split

theorem cacheRoom_keeps {u₀ s : State} (hk : Keeps u₀ s) (g : Nat) :
    Keeps u₀ (cacheRoom g s) := by
  unfold cacheRoom
  with_reducible repeat' first
    | assumption | apply State.drawFree_keeps | apply lineDrop_keeps | apply put_keeps | apply wr_keeps
    | apply ite_keeps

theorem lineIn_keeps {u₀ s : State} (hk : Keeps u₀ s) (g a : Nat) :
    Keeps u₀ (lineIn g a s) := by
  unfold lineIn
  with_reducible repeat' first
    | assumption | apply cacheRoom_keeps | apply lineFetch_keeps | apply State.putLine_keeps | apply put_keeps
    | apply wr_keeps | apply ite_keeps | refine each_keeps ?_ _ _ (fun _ _ _ => ?_)
    | (refine snd_keeps (by assumption) ?_) | (refine snd3_keeps (by assumption) ?_)
    | fail_if_no_progress apply upd_keeps | split

theorem cacheByte_keeps {u₀ s : State} (hk : Keeps u₀ s) (i a : Nat) (b : Byte) :
    Keeps u₀ (cacheByte i a b s) := by
  unfold cacheByte
  with_reducible repeat' first
    | assumption | apply lineIn_keeps | apply State.putLine_keeps | apply put_keeps | apply wr_keeps | apply ite_keeps
    | refine each_keeps ?_ _ _ (fun _ _ _ => ?_) | (refine snd_keeps (by assumption) ?_)
    | (refine snd3_keeps (by assumption) ?_) | fail_if_no_progress apply upd_keeps | split | dsimp only

theorem cacheCopy_keeps {u₀ s : State} (hk : Keeps u₀ s) (i a : Nat) (b : Byte) :
    Keeps u₀ (cacheCopy i a b s) := by
  unfold cacheCopy
  with_reducible repeat' first
    | assumption | apply State.putLine_keeps | apply put_keeps | apply wr_keeps | apply ite_keeps
    | refine each_keeps ?_ _ _ (fun _ _ _ => ?_) | (refine snd_keeps (by assumption) ?_)
    | (refine snd3_keeps (by assumption) ?_) | fail_if_no_progress apply upd_keeps | split

theorem drainStore_keeps {u₀ s : State} (hk : Keeps u₀ s) (i : Nat) (e : BufStore) :
    Keeps u₀ (drainStore i e s) := by
  unfold drainStore
  with_reducible repeat' first
    | assumption | apply cacheByte_keeps | apply windowWrite_keeps | apply cacheCopy_keeps | apply put_keeps
    | apply wr_keeps | apply ite_keeps | refine each_keeps ?_ _ _ (fun _ _ _ => ?_)
    | (refine snd_keeps (by assumption) ?_) | (refine snd3_keeps (by assumption) ?_)
    | fail_if_no_progress apply upd_keeps | split

theorem drainSome_keeps {u s : State} (h : Keeps u s) (i : Nat) (go : Nat → BufStore → Bool) :
    Keeps u (drainSome i go s) := by
  have key (l : List (BufStore × Nat)) : ∀ acc : List BufStore × State, Keeps u acc.2 →
      Keeps u (l.foldl
        (fun (acc : List BufStore × State) e =>
          if go e.2 e.1 && !acc.1.any e.1.meets then (acc.1, drainStore i e.1 acc.2) else (acc.1 ++ [e.1], acc.2)) acc).2 := by
    induction l with
    | nil => exact fun _ hr => hr
    | cons e l ih =>
      intro acc hr
      refine ih _ ?_
      dsimp only
      split
      · exact drainStore_keeps hr ..
      · exact hr
  exact State.setCoreSt_keeps (key _ _ h) ..

theorem drainAll_keeps {u₀ s : State} (hk : Keeps u₀ s) (i : Nat) :
    Keeps u₀ (drainAll i s) := by
  unfold drainAll
  with_reducible repeat' first | assumption | apply drainSome_keeps

theorem plainStore_keeps {u₀ s : State} (hk : Keeps u₀ s) (i a : Nat) (bs : List Byte) :
    Keeps u₀ (plainStore i a bs s) := by
  unfold plainStore
  with_reducible repeat' first
    | assumption | apply ramWrite_keeps | apply windowWrite_keeps | apply drainSome_keeps
    | apply State.setCoreSt_keeps | apply State.drawFree_keeps | apply put_keeps | apply wr_keeps | apply ite_keeps
    | refine each_keeps ?_ _ _ (fun _ _ _ => ?_) | (refine snd_keeps (by assumption) ?_)
    | (refine snd3_keeps (by assumption) ?_) | fail_if_no_progress apply upd_keeps | split

theorem coreException_keeps {u₀ s : State} (hk : Keeps u₀ s) (i cause : Nat) :
    Keeps u₀ (coreException i cause s) := by
  unfold coreException
  with_reducible repeat' first | assumption | apply State.setCoreSt_keeps

theorem release_keeps {u₀ s : State} (hk : Keeps u₀ s) (i scope : Nat) :
    Keeps u₀ (release i scope s) := by
  unfold release
  with_reducible repeat' first
    | assumption | apply drainAll_keeps | apply cacheClean_keeps | apply put_keeps | apply wr_keeps | apply ite_keeps

theorem acquire_keeps {u₀ s : State} (hk : Keeps u₀ s) (i scope : Nat) :
    Keeps u₀ (acquire i scope s) := by
  unfold acquire
  with_reducible repeat' first
    | assumption | apply cacheDrop_keeps | apply put_keeps | apply wr_keeps | apply ite_keeps

theorem ordering_keeps {u₀ s : State} (hk : Keeps u₀ s) (i scope : Nat) (f : State → State) (h_f : ∀ s, Keeps u₀ s → Keeps u₀ (f s)) :
    Keeps u₀ (ordering i scope f s) := by
  unfold ordering
  with_reducible repeat' first
    | assumption | apply coreException_keeps | apply h_f | apply put_keeps | apply wr_keeps | apply ite_keeps

theorem atomicAt_keeps {u₀ s : State} (hk : Keeps u₀ s) (i : Nat) (op : AmoOp) (a m o : Nat) (v : Word) :
    Keeps u₀ (atomicAt i op a m o v s).2 := by
  unfold atomicAt
  with_reducible repeat' first
    | assumption | apply commonsWrite_keeps | apply ramWrite_keeps | apply State.setCoreSt_keeps
    | apply State.answer_keeps | apply ramRead_keeps | apply coreException_keeps | apply put_keeps | apply wr_keeps
    | apply ite_keeps | refine each_keeps ?_ _ _ (fun _ _ _ => ?_) | (refine snd_keeps (by assumption) ?_)
    | (refine snd3_keeps (by assumption) ?_) | fail_if_no_progress apply upd_keeps | split

theorem atomicAccess_keeps {u₀ s : State} (hk : Keeps u₀ s) (i : Nat) (op : AmoOp) (a : Nat) (v : Word) (aq rl : Bool) :
    Keeps u₀ (atomicAccess i op a v aq rl s) := by
  unfold atomicAccess
  with_reducible repeat' first
    | assumption | apply release_keeps | apply coreException_keeps | apply atomicAt_keeps | apply drainSome_keeps
    | apply lineDrop_keeps | apply acquire_keeps | apply put_keeps | apply wr_keeps | apply ite_keeps
    | refine each_keeps ?_ _ _ (fun _ _ _ => ?_) | (refine snd_keeps (by assumption) ?_)
    | (refine snd3_keeps (by assumption) ?_) | fail_if_no_progress apply upd_keeps | split

/-! ### YutreOps -/

theorem yutre_keeps {u₀ s : State} (hk : Keeps u₀ s) (m : YMsg) (op : Nat) (body : State → State) (h_body : ∀ s, Keeps u₀ s → Keeps u₀ (body s)) :
    Keeps u₀ (yutre m op body s) := by
  unfold yutre
  with_reducible repeat' first
    | assumption | apply State.reply_keeps | apply State.answer_keeps | apply h_body | apply put_keeps
    | apply wr_keeps | apply ite_keeps | refine each_keeps ?_ _ _ (fun _ _ _ => ?_)
    | (refine snd_keeps (by assumption) ?_) | (refine snd3_keeps (by assumption) ?_)
    | fail_if_no_progress apply upd_keeps | split

/-! ### TickOps -/

theorem treeDeliver_keeps {u₀ s : State} (hk : Keeps u₀ s) (n : Nat) :
    Keeps u₀ (treeDeliver n s) := by
  unfold treeDeliver
  with_reducible repeat' first
    | assumption | apply deliverValid_keeps | apply deliverMin_keeps | apply put_keeps | apply wr_keeps
    | apply ite_keeps | refine each_keeps ?_ _ _ (fun _ _ _ => ?_) | (refine snd_keeps (by assumption) ?_)
    | (refine snd3_keeps (by assumption) ?_) | fail_if_no_progress apply upd_keeps | split

theorem sumDeliver_keeps {u₀ s : State} (hk : Keeps u₀ s) (n : Nat) :
    Keeps u₀ (sumDeliver n s) := by
  unfold sumDeliver
  with_reducible repeat' first
    | assumption | apply State.roundOpen_keeps | apply State.putIOr_keeps | apply State.keepMaxI_keeps

theorem seaCurrents_keeps {u₀ s : State} (hk : Keeps u₀ s) (xs : List (CellIx × BitVec 13)) :
    Keeps u₀ (seaCurrents xs s) := by
  unfold seaCurrents
  with_reducible repeat' first
    | assumption | apply cellCurrent_keeps | apply seaCatch_keeps | apply currentRuns_keeps | apply put_keeps
    | apply wr_keeps | apply ite_keeps | refine each_keeps ?_ _ _ (fun _ _ _ => ?_)

theorem seaReadings_keeps {u₀ s : State} (hk : Keeps u₀ s) (xs : List (CellIx × Fin 4 × BitVec 11)) :
    Keeps u₀ (seaReadings xs s) := by
  unfold seaReadings
  with_reducible repeat' first
    | assumption | apply sensorSample_keeps | apply sensorChecks_keeps | apply put_keeps | apply wr_keeps
    | apply ite_keeps | refine each_keeps ?_ _ _ (fun _ _ _ => ?_)

theorem seaFailures_keeps {u₀ s : State} (hk : Keeps u₀ s) :
    Keeps u₀ (seaFailures s) := by
  unfold seaFailures
  with_reducible repeat' first
    | assumption | apply cellFail_keeps | apply put_keeps | apply wr_keeps | apply ite_keeps
    | refine each_keeps ?_ _ _ (fun _ _ _ => ?_) | (refine snd_keeps (by assumption) ?_)
    | (refine snd3_keeps (by assumption) ?_) | fail_if_no_progress apply upd_keeps | split

theorem seaEdge_keeps {u₀ s : State} (hk : Keeps u₀ s) (e : SeaEdge) :
    Keeps u₀ (seaEdge e s) := by
  unfold seaEdge
  with_reducible repeat' first
    | assumption | apply State.advanceTo_keeps | apply seaTake_keeps | apply treeDeliver_keeps
    | apply sumDeliver_keeps | apply iseaKeep_keeps | apply seaFailures_keeps | apply seaCurrents_keeps
    | apply seaReadings_keeps | apply regionChecks_keeps | apply put_keeps | apply wr_keeps | apply ite_keeps
    | refine each_keeps ?_ _ _ (fun _ _ _ => ?_) | (refine snd_keeps (by assumption) ?_)
    | (refine snd3_keeps (by assumption) ?_) | fail_if_no_progress apply upd_keeps

theorem fmeasTick_keeps {u₀ s : State} (hk : Keeps u₀ s) :
    Keeps u₀ (fmeasTick s) := by
  unfold fmeasTick
  with_reducible repeat' first
    | assumption | apply State.drawFree_keeps | apply put_keeps | apply wr_keeps | apply ite_keeps
    | refine each_keeps ?_ _ _ (fun _ _ _ => ?_) | (refine snd_keeps (by assumption) ?_)
    | (refine snd3_keeps (by assumption) ?_) | fail_if_no_progress apply upd_keeps | split

theorem traceTick_keeps {u₀ s : State} (hk : Keeps u₀ s) :
    Keeps u₀ (traceTick s) := by
  unfold traceTick
  with_reducible repeat' first
    | assumption | apply traceOccasion_keeps | apply put_keeps | apply wr_keeps | apply ite_keeps
    | refine each_keeps ?_ _ _ (fun _ _ _ => ?_) | (refine snd_keeps (by assumption) ?_)
    | (refine snd3_keeps (by assumption) ?_) | fail_if_no_progress apply upd_keeps | split

theorem regionTicks_keeps {u₀ s : State} (hk : Keeps u₀ s) (f : Nat) :
    Keeps u₀ (regionTicks f s) := by
  unfold regionTicks
  with_reducible repeat' first
    | assumption | apply regionTick_keeps | apply veffPut_keeps | apply put_keeps | apply wr_keeps | apply ite_keeps
    | refine each_keeps ?_ _ _ (fun _ _ _ => ?_)

theorem relockTick_keeps {u₀ s : State} (hk : Keeps u₀ s) :
    Keeps u₀ (relockTick s) := by
  unfold relockTick
  with_reducible repeat' first
    | assumption | apply publishZero_keeps | apply discardOutputs_keeps | apply put_keeps | apply wr_keeps
    | apply ite_keeps | refine each_keeps ?_ _ _ (fun _ _ _ => ?_) | (refine snd_keeps (by assumption) ?_)
    | (refine snd3_keeps (by assumption) ?_) | fail_if_no_progress apply upd_keeps

theorem tickWork_keeps {u₀ s : State} (hk : Keeps u₀ s) (f : Nat) (issued : List (Nat × Nat)) (slacks : List (Nat × Option (BitVec 16))) :
    Keeps u₀ (tickWork f issued slacks s) := by
  unfold tickWork
  with_reducible repeat' first
    | assumption | apply fmeasTick_keeps | apply epochBounds_keeps | apply hostTo_keeps | apply fillTimeouts_keeps
    | apply relockTick_keeps | apply tenderTick_keeps | apply forecastTick_keeps | apply odrPublish_keeps
    | apply pgTick_keeps | apply applyOutputs_keeps | apply regionTicks_keeps | apply lpeApplyCommit_keeps
    | apply odrSample_keeps | apply sampleLoops_keeps | apply thmThrottleTick_keeps | apply thmTickDemand_keeps
    | apply thmGuard_keeps | apply pwrTick_keeps | apply cpmSample_keeps | apply pstWork_keeps
    | apply sagFrontStop_keeps | apply cacheDue_keeps | apply reinAll_keeps | apply traceTick_keeps
    | apply senseSlots_keeps | apply put_keeps | apply wr_keeps | apply ite_keeps
    | refine each_keeps ?_ _ _ (fun _ _ _ => ?_) | (refine snd_keeps (by assumption) ?_)
    | (refine snd3_keeps (by assumption) ?_) | fail_if_no_progress apply upd_keeps

theorem baseTick_keeps {u₀ s : State} (hk : Keeps u₀ s) (t : Dword) (x : TickSamples) :
    Keeps u₀ (baseTick t x s) := by
  unfold baseTick
  with_reducible repeat' first
    | assumption | apply seaEdge_keeps | apply State.advanceTo_keeps | apply noteEngineEvents_keeps
    | apply tickWork_keeps | apply put_keeps | apply wr_keeps | apply ite_keeps
    | refine each_keeps ?_ _ _ (fun _ _ _ => ?_)

theorem reportConds_keeps {u₀ s : State} (hk : Keeps u₀ s) :
    Keeps u₀ (reportConds s) := by
  unfold reportConds
  with_reducible repeat' first
    | assumption | apply put_keeps | apply wr_keeps | apply ite_keeps | refine each_keeps ?_ _ _ (fun _ _ _ => ?_)
    | (refine snd_keeps (by assumption) ?_) | (refine snd3_keeps (by assumption) ?_)
    | fail_if_no_progress apply upd_keeps

theorem edgeWork_keeps {u₀ s : State} (hk : Keeps u₀ s) :
    Keeps u₀ (edgeWork s) := by
  unfold edgeWork
  with_reducible repeat' first
    | assumption | apply pstWork_keeps | apply acceptNext_keeps | apply faultLatch_keeps | apply txDrain_keeps
    | apply ttbCatch_keeps | apply rippleCatch_keeps | apply sagFrontStop_keeps | apply sagEdge_keeps
    | apply seaEdge_keeps | apply reportConds_keeps | apply smbLatch_keeps | apply reinAll_keeps
    | apply freezeTimed_keeps | apply tickWork_keeps | apply noteEngineEvents_keeps | apply put_keeps | apply wr_keeps
    | apply ite_keeps

theorem clockEdge_keeps {u₀ s : State} (hk : Keeps u₀ s) :
    Keeps u₀ (clockEdge s) := by
  unfold clockEdge
  with_reducible repeat' first
    | assumption | apply State.passEdges_keeps | apply releaseReset_keeps | apply edgeWork_keeps
    | apply State.passCoarse_keeps | apply put_keeps | apply wr_keeps | apply ite_keeps

/-! ### YutreReg -/

theorem schWrite_keeps {u₀ s : State} (hk : Keeps u₀ s) (a : Nat) (v : Word) :
    Keeps u₀ (schWrite a v s) := by
  unfold schWrite
  with_reducible repeat' first | assumption | apply windowWrite_keeps

theorem schWrites_keeps {u₀ s : State} (hk : Keeps u₀ s) (l : List (Nat × Word)) :
    Keeps u₀ (schWrites l s) := by
  unfold schWrites
  with_reducible repeat' first
    | assumption | apply schWrite_keeps | apply put_keeps | apply wr_keeps | apply ite_keeps
    | refine each_keeps ?_ _ _ (fun _ _ _ => ?_)

theorem schReads_keeps {u₀ s : State} (hk : Keeps u₀ s) (as : List Nat) :
    Keeps u₀ (schReads as s).2 := by
  unfold schReads
  with_reducible repeat' first | assumption | apply windowRead_keeps | refine fold2_keeps ?_ _ _ (fun _ _ _ => ?_)

theorem schReply_keeps {u₀ s : State} (hk : Keeps u₀ s) (st : Nat) (as : List Nat) :
    Keeps u₀ (schReply st as s) := by
  unfold schReply
  with_reducible repeat' first | assumption | apply schReads_keeps | apply State.reply_keeps

theorem yReadReg_keeps {u₀ s : State} (hk : Keeps u₀ s) (off n : Nat) :
    Keeps u₀ (yReadReg off n s) := by
  unfold yReadReg
  with_reducible repeat' first
    | assumption | apply State.reply_keeps | apply schReply_keeps | apply put_keeps | apply wr_keeps | apply ite_keeps

theorem yWriteReg_keeps {u₀ s : State} (hk : Keeps u₀ s) (off : Nat) (v : Word) :
    Keeps u₀ (yWriteReg off v s) := by
  unfold yWriteReg
  with_reducible repeat' first
    | assumption | apply State.reply_keeps | apply schWrite_keeps | apply put_keeps | apply wr_keeps | apply ite_keeps
    | refine each_keeps ?_ _ _ (fun _ _ _ => ?_) | (refine snd_keeps (by assumption) ?_)
    | (refine snd3_keeps (by assumption) ?_) | fail_if_no_progress apply upd_keeps | split

theorem drawStatus_keeps {u₀ s : State} (hk : Keeps u₀ s) :
    Keeps u₀ (drawStatus s).2 := by
  unfold drawStatus
  with_reducible repeat' first | assumption | apply State.drawFree_keeps

theorem rgnToEnd_keeps {u₀ s : State} (hk : Keeps u₀ s) (n : Nat) :
    Keeps u₀ (rgnToEnd n s) := by
  unfold rgnToEnd
  with_reducible repeat' first
    | assumption | apply reinAll_keeps | apply veffPut_keeps | apply rgnCmdTick_keeps | apply put_keeps
    | apply wr_keeps | apply ite_keeps

theorem yRegionCmd_keeps {u₀ s : State} (hk : Keeps u₀ s) (n op : Nat) :
    Keeps u₀ (yRegionCmd n op s) := by
  unfold yRegionCmd
  with_reducible repeat' first
    | assumption | apply State.reply_keeps | apply rgnToEnd_keeps | apply schWrite_keeps | apply schReply_keeps
    | apply put_keeps | apply wr_keeps | apply ite_keeps

theorem yFrontCmd_keeps {u₀ s : State} (hk : Keeps u₀ s) (op : Nat) :
    Keeps u₀ (yFrontCmd op s) := by
  unfold yFrontCmd
  with_reducible repeat' first | assumption | apply schWrite_keeps | apply schReply_keeps

theorem commitToEnd_keeps {u₀ s : State} (hk : Keeps u₀ s) :
    Keeps u₀ (commitToEnd s) := by
  unfold commitToEnd
  with_reducible repeat' first
    | assumption | apply commitEnd_keeps | apply commitApply_keeps | apply put_keeps | apply wr_keeps
    | apply ite_keeps | refine each_keeps ?_ _ _ (fun _ _ _ => ?_) | (refine snd_keeps (by assumption) ?_)
    | (refine snd3_keeps (by assumption) ?_) | fail_if_no_progress apply upd_keeps | split

theorem yConfig_keeps {u₀ s : State} (hk : Keeps u₀ s) (n : Nat) (commit : Bool) (pairs : List (Nat × Word)) :
    Keeps u₀ (yConfig n commit pairs s) := by
  unfold yConfig
  with_reducible repeat' first
    | assumption | apply State.reply_keeps | apply schWrites_keeps | apply schWrite_keeps | apply commitToEnd_keeps
    | apply schReply_keeps | apply put_keeps | apply wr_keeps | apply ite_keeps

theorem ySetPkgCap_keeps {u₀ s : State} (hk : Keeps u₀ s) (host smin : Nat) :
    Keeps u₀ (ySetPkgCap host smin s) := by
  unfold ySetPkgCap
  with_reducible repeat' first
    | assumption | apply schWrite_keeps | apply State.reply_keeps | apply put_keeps | apply wr_keeps | apply ite_keeps

theorem ySetOp_keeps {u₀ s : State} (hk : Keeps u₀ s) (n ix vcode fmhz valid : Nat) :
    Keeps u₀ (ySetOp n ix vcode fmhz valid s) := by
  unfold ySetOp
  with_reducible repeat' first
    | assumption | apply State.reply_keeps | apply schWrite_keeps | apply put_keeps | apply wr_keeps | apply ite_keeps

theorem ySetLegPref_keeps {u₀ s : State} (hk : Keeps u₀ s) (leg ix noBoost : Nat) :
    Keeps u₀ (ySetLegPref leg ix noBoost s) := by
  unfold ySetLegPref
  with_reducible repeat' first
    | assumption | apply State.reply_keeps | apply schWrite_keeps | apply put_keeps | apply wr_keeps | apply ite_keeps

theorem ySetMode_keeps {u₀ s : State} (hk : Keeps u₀ s) (flags defIdx pg : Nat) :
    Keeps u₀ (ySetMode flags defIdx pg s) := by
  unfold ySetMode
  with_reducible repeat' first | assumption | apply opValidate_keeps | apply schWrite_keeps | apply State.reply_keeps

theorem yGetRegion_keeps {u₀ s : State} (hk : Keeps u₀ s) (n : Nat) :
    Keeps u₀ (yGetRegion n s) := by
  unfold yGetRegion
  with_reducible repeat' first
    | assumption | apply State.reply_keeps | apply schReply_keeps | apply put_keeps | apply wr_keeps | apply ite_keeps

theorem ySetTree_keeps {u₀ s : State} (hk : Keeps u₀ s) (role hbMiss pkg mask : Nat) (eps : List Nat) :
    Keeps u₀ (ySetTree role hbMiss pkg mask eps s) := by
  unfold ySetTree
  with_reducible repeat' first
    | assumption | apply State.reply_keeps | apply schWrite_keeps | apply put_keeps | apply wr_keeps | apply ite_keeps
    | refine each_keeps ?_ _ _ (fun _ _ _ => ?_)

theorem ySetGroup_keeps {u₀ s : State} (hk : Keeps u₀ s) (x gid policy en : Nat) (lo hi : Word) :
    Keeps u₀ (ySetGroup x gid policy en lo hi s) := by
  unfold ySetGroup
  with_reducible repeat' first
    | assumption | apply State.reply_keeps | apply schWrites_keeps | apply put_keeps | apply wr_keeps
    | apply ite_keeps

theorem yEnvPoint_keeps {u₀ s : State} (hk : Keeps u₀ s) (epoch : Word) (frac fleet : Nat) :
    Keeps u₀ (yEnvPoint epoch frac fleet s) := by
  unfold yEnvPoint
  with_reducible repeat' first
    | assumption | apply State.reply_keeps | apply schWrites_keeps | apply put_keeps | apply wr_keeps
    | apply ite_keeps

theorem ySetEnv_keeps {u₀ s : State} (hk : Keeps u₀ s) (ref ki imax : Nat) :
    Keeps u₀ (ySetEnv ref ki imax s) := by
  unfold ySetEnv
  with_reducible repeat' first | assumption | apply schWrites_keeps | apply State.reply_keeps

theorem yEmcap_keeps {u₀ s : State} (hk : Keeps u₀ s) (rate ttl : Nat) :
    Keeps u₀ (yEmcap rate ttl s) := by
  unfold yEmcap
  with_reducible repeat' first | assumption | apply schWrite_keeps | apply State.reply_keeps

theorem yGetGroup_keeps {u₀ s : State} (hk : Keeps u₀ s) (x : Nat) :
    Keeps u₀ (yGetGroup x s) := by
  unfold yGetGroup
  with_reducible repeat' first
    | assumption | apply State.reply_keeps | apply schReply_keeps | apply put_keeps | apply wr_keeps | apply ite_keeps

theorem yLoadProgram_keeps {u₀ s : State} (hk : Keeps u₀ s) (descOk : Bool) (addr n dst start loop : Nat) (arm : Bool) (data : List Word) (ok : Bool) :
    Keeps u₀ (yLoadProgram descOk addr n dst start loop arm data ok s) := by
  unfold yLoadProgram
  with_reducible repeat' first
    | assumption | apply State.reply_keeps | apply schWrite_keeps | apply schWrites_keeps | apply ttbDmaEntry_keeps
    | apply dmaSlot_keeps | apply ttbDmaFinish_keeps | apply schReply_keeps | apply put_keeps | apply wr_keeps
    | apply ite_keeps | refine each_keeps ?_ _ _ (fun _ _ _ => ?_)

theorem yLoadRset_keeps {u₀ s : State} (hk : Keeps u₀ s) (descOk : Bool) (addr n i : Nat) (data : Option (List Word)) :
    Keeps u₀ (yLoadRset descOk addr n i data s) := by
  unfold yLoadRset
  with_reducible repeat' first
    | assumption | apply State.reply_keeps | apply fabricError_keeps | apply schWrites_keeps | apply put_keeps
    | apply wr_keeps | apply ite_keeps | refine each_keeps ?_ _ _ (fun _ _ _ => ?_)
    | (refine snd_keeps (by assumption) ?_) | (refine snd3_keeps (by assumption) ?_)
    | fail_if_no_progress apply upd_keeps | split

theorem yLoadWeights_keeps {u₀ s : State} (hk : Keeps u₀ s) (descOk : Bool) (addr len : Nat) (start : Bool) (data : Option (List Word)) :
    Keeps u₀ (yLoadWeights descOk addr len start data s) := by
  unfold yLoadWeights
  with_reducible repeat' first
    | assumption | apply State.reply_keeps | apply odrStop_keeps | apply schReply_keeps | apply fabricError_keeps
    | apply schWrites_keeps | apply odrValidated_keeps | apply schWrite_keeps | apply put_keeps | apply wr_keeps
    | apply ite_keeps | refine each_keeps ?_ _ _ (fun _ _ _ => ?_) | (refine snd_keeps (by assumption) ?_)
    | (refine snd3_keeps (by assumption) ?_) | fail_if_no_progress apply upd_keeps | split

theorem yForecastCtl_keeps {u₀ s : State} (hk : Keeps u₀ s) (op mask : Nat) (ws : List Word) :
    Keeps u₀ (yForecastCtl op mask ws s) := by
  unfold yForecastCtl
  with_reducible repeat' first
    | assumption | apply State.reply_keeps | apply schWrites_keeps | apply schReply_keeps | apply schWrite_keeps
    | apply put_keeps | apply wr_keeps | apply ite_keeps

theorem ySetJob_keeps {u₀ s : State} (hk : Keeps u₀ s) (j : Nat) (lo hi : Word) :
    Keeps u₀ (ySetJob j lo hi s) := by
  unfold ySetJob
  with_reducible repeat' first
    | assumption | apply State.reply_keeps | apply schWrites_keeps | apply put_keeps | apply wr_keeps
    | apply ite_keeps

theorem ySetGroups_keeps {u₀ s : State} (hk : Keeps u₀ s) (j mask : Nat) :
    Keeps u₀ (ySetGroups j mask s) := by
  unfold ySetGroups
  with_reducible repeat' first
    | assumption | apply State.reply_keeps | apply schWrites_keeps | apply put_keeps | apply wr_keeps
    | apply ite_keeps

theorem yWaybillRing_keeps {u₀ s : State} (hk : Keeps u₀ s) (addr sz ivl : Nat) (en : Bool) :
    Keeps u₀ (yWaybillRing addr sz ivl en s) := by
  unfold yWaybillRing
  with_reducible repeat' first | assumption | apply schWrite_keeps | apply schWrites_keeps | apply State.reply_keeps

theorem yGetJob_keeps {u₀ s : State} (hk : Keeps u₀ s) (j : Nat) :
    Keeps u₀ (yGetJob j s) := by
  unfold yGetJob
  with_reducible repeat' first
    | assumption | apply State.reply_keeps | apply schReply_keeps | apply put_keeps | apply wr_keeps | apply ite_keeps

theorem yFreeze_keeps {u₀ s : State} (hk : Keeps u₀ s) (flags tag ts : Nat) :
    Keeps u₀ (yFreeze flags tag ts s) := by
  unfold yFreeze
  with_reducible repeat' first
    | assumption | apply schWrites_keeps | apply schReply_keeps | apply schWrite_keeps | apply put_keeps
    | apply wr_keeps | apply ite_keeps

theorem yTlmRing_keeps {u₀ s : State} (hk : Keeps u₀ s) (addr sz first last : Nat) (en : Bool) :
    Keeps u₀ (yTlmRing addr sz first last en s) := by
  unfold yTlmRing
  with_reducible repeat' first | assumption | apply schWrite_keeps | apply schWrites_keeps | apply State.reply_keeps

theorem yTraceExport_keeps {u₀ s : State} (hk : Keeps u₀ s) (addr mask flags : Nat) :
    Keeps u₀ (yTraceExport addr mask flags s) := by
  unfold yTraceExport
  with_reducible repeat' first | assumption | apply schWrites_keeps | apply schReply_keeps

theorem yGetAge_keeps {u₀ s : State} (hk : Keeps u₀ s) (n : Nat) :
    Keeps u₀ (yGetAge n s) := by
  unfold yGetAge
  with_reducible repeat' first
    | assumption | apply State.reply_keeps | apply schReply_keeps | apply put_keeps | apply wr_keeps | apply ite_keeps

theorem yCellTest_keeps {u₀ s : State} (hk : Keeps u₀ s) (c : Nat) (v : Word) (exit : Bool) (result : Option TestResult) :
    Keeps u₀ (yCellTest c v exit result s) := by
  unfold yCellTest
  with_reducible repeat' first
    | assumption | apply State.reply_keeps | apply schReply_keeps | apply schWrite_keeps | apply cellTestDone_keeps
    | apply drawStatus_keeps | apply put_keeps | apply wr_keeps | apply ite_keeps
    | refine each_keeps ?_ _ _ (fun _ _ _ => ?_) | (refine snd_keeps (by assumption) ?_)
    | (refine snd3_keeps (by assumption) ?_) | fail_if_no_progress apply upd_keeps | split

theorem ySkidForce_keeps {u₀ s : State} (hk : Keeps u₀ s) (n depth : Nat) :
    Keeps u₀ (ySkidForce n depth s) := by
  unfold ySkidForce
  with_reducible repeat' first
    | assumption | apply State.reply_keeps | apply schWrite_keeps | apply put_keeps | apply wr_keeps | apply ite_keeps

theorem yTraceArm_keeps {u₀ s : State} (hk : Keeps u₀ s) (cfg : List Word) (trig thr : Word) (post : Nat) :
    Keeps u₀ (yTraceArm cfg trig thr post s) := by
  unfold yTraceArm
  with_reducible repeat' first | assumption | apply schWrite_keeps | apply schWrites_keeps | apply schReply_keeps

theorem ySnsUrgent_keeps {u₀ s : State} (hk : Keeps u₀ s) (k ch : Nat) (raw : Option (BitVec 14)) :
    Keeps u₀ (ySnsUrgent k ch raw s) := by
  unfold ySnsUrgent
  with_reducible repeat' first
    | assumption | apply State.reply_keeps | apply schWrite_keeps | apply schReply_keeps | apply State.setSconv_keeps
    | apply convComplete_keeps | apply drawStatus_keeps | apply put_keeps | apply wr_keeps | apply ite_keeps
    | refine each_keeps ?_ _ _ (fun _ _ _ => ?_) | (refine snd_keeps (by assumption) ?_)
    | (refine snd3_keeps (by assumption) ?_) | fail_if_no_progress apply upd_keeps | split

end Sys2Proof.Machine
end

