-- ==== Sys2Proof/Laws/KeepsCommands.lean ====
section
/-! SUPPORT. Laws/KeepsCommands.lean: each meaning answers a next state that keeps what Laws/Keeps.lean says. -/

namespace Sys2Proof.Machine

/-! ### Access -/

theorem execRegisterWrite_keeps {u₀ s : State} (hk : Keeps u₀ s) (req : Requester) (width : Width) (addr : Offset) (value : Word) :
    ∃ s', execRegisterWrite req width addr value s = .next s' ∧ Keeps u₀ s' := by
  unfold execRegisterWrite
  refine ⟨_, rfl, ?_⟩
  with_reducible repeat' first | assumption | apply windowWrite_keeps

theorem execCounterLowRead_keeps {u₀ s : State} (hk : Keeps u₀ s) (req : Requester) (width : Width) (addr : Offset) :
    ∃ s', execCounterLowRead req width addr s = .next s' ∧ Keeps u₀ s' := by
  unfold execCounterLowRead
  refine ⟨_, rfl, ?_⟩
  with_reducible repeat' first | assumption | apply windowRead_keeps | apply State.answer_keeps

theorem execReadClear_keeps {u₀ s : State} (hk : Keeps u₀ s) (req : Requester) (width : Width) (addr : Offset) :
    ∃ s', execReadClear req width addr s = .next s' ∧ Keeps u₀ s' := by
  unfold execReadClear
  refine ⟨_, rfl, ?_⟩
  with_reducible repeat' first | assumption | apply windowRead_keeps | apply State.answer_keeps

/-! ### Caboose -/

theorem execFaultLatch_keeps {u₀ s : State} (hk : Keeps u₀ s) (t : Dword) :
    ∃ s', execFaultLatch t s = .next s' ∧ Keeps u₀ s' := by
  unfold execFaultLatch
  refine ⟨_, rfl, ?_⟩
  with_reducible repeat' first
    | assumption | refine State.running_keeps ?_ _ (fun _ _ => ?_) | apply faultLatch_keeps
    | apply State.advanceTo_keeps

theorem execStatusClear_keeps {u₀ s : State} (hk : Keeps u₀ s) (req : Requester) (hi : Bool) (value : Word) :
    ∃ s', execStatusClear req hi value s = .next s' ∧ Keeps u₀ s' := by
  unfold execStatusClear
  refine ⟨_, rfl, ?_⟩
  with_reducible repeat' first
    | assumption | refine gated_keeps ?_ _ _ _ _ (fun _ _ _ => ?_) | apply statusClear_keeps

theorem execForceWrite_keeps {u₀ s : State} (hk : Keeps u₀ s) (req : Requester) (hi : Bool) (value : Word) :
    ∃ s', execForceWrite req hi value s = .next s' ∧ Keeps u₀ s' := by
  unfold execForceWrite
  refine ⟨_, rfl, ?_⟩
  with_reducible repeat' first | assumption | refine gated_keeps ?_ _ _ _ _ (fun _ _ _ => ?_) | apply forceWrite_keeps

theorem execMemoryCorrectedError_keeps {u₀ s : State} (hk : Keeps u₀ s) (t : Dword) (m : MemIx) (off : BitVec 20) :
    ∃ s', execMemoryCorrectedError t m off s = .next s' ∧ Keeps u₀ s' := by
  unfold execMemoryCorrectedError
  refine ⟨_, rfl, ?_⟩
  with_reducible repeat' first
    | assumption | refine State.running_keeps ?_ _ (fun _ _ => ?_) | apply memCe_keeps | apply State.advanceTo_keeps

theorem execMemoryUncorrectableError_keeps {u₀ s : State} (hk : Keeps u₀ s) (t : Dword) (m : MemIx) (off : BitVec 20) (fabric : Bool) :
    ∃ s', execMemoryUncorrectableError t m off fabric s = .next s' ∧ Keeps u₀ s' := by
  unfold execMemoryUncorrectableError
  refine ⟨_, rfl, ?_⟩
  with_reducible repeat' first
    | assumption | refine State.running_keeps ?_ _ (fun _ _ => ?_) | apply memUe_keeps | apply State.advanceTo_keeps
    | apply State.answer_keeps | apply put_keeps | apply wr_keeps | apply ite_keeps

theorem execScrubRead_keeps {u₀ s : State} (hk : Keeps u₀ s) (t : Dword) (m : MemIx) (found : Fin 3) :
    ∃ s', execScrubRead t m found s = .next s' ∧ Keeps u₀ s' := by
  unfold execScrubRead
  refine ⟨_, rfl, ?_⟩
  with_reducible repeat' first
    | assumption | refine State.running_keeps ?_ _ (fun _ _ => ?_) | apply scrubRead_keeps | apply scrubTo_keeps
    | apply State.advanceTo_keeps

/-! ### CoreMem -/

theorem execVlFrel_keeps {u₀ s : State} (hk : Keeps u₀ s) (t : Dword) (core : CoreIx) (scope : Fin 4) :
    ∃ s', execVlFrel t core scope s = .next s' ∧ Keeps u₀ s' := by
  unfold execVlFrel
  refine ⟨_, rfl, ?_⟩
  with_reducible repeat' first
    | assumption | refine ordering_keeps ?_ _ _ _ (fun _ _ => ?_) | apply release_keeps | apply cacheDue_keeps
    | apply State.advanceTo_keeps

theorem execVlFacq_keeps {u₀ s : State} (hk : Keeps u₀ s) (t : Dword) (core : CoreIx) (scope : Fin 4) :
    ∃ s', execVlFacq t core scope s = .next s' ∧ Keeps u₀ s' := by
  unfold execVlFacq
  refine ⟨_, rfl, ?_⟩
  with_reducible repeat' first
    | assumption | refine ordering_keeps ?_ _ _ _ (fun _ _ => ?_) | apply acquire_keeps | apply cacheDue_keeps
    | apply State.advanceTo_keeps

theorem execVlFfull_keeps {u₀ s : State} (hk : Keeps u₀ s) (t : Dword) (core : CoreIx) (scope : Fin 4) :
    ∃ s', execVlFfull t core scope s = .next s' ∧ Keeps u₀ s' := by
  unfold execVlFfull
  refine ⟨_, rfl, ?_⟩
  with_reducible repeat' first
    | assumption | refine ordering_keeps ?_ _ _ _ (fun _ _ => ?_) | apply acquire_keeps | apply release_keeps
    | apply cacheDue_keeps | apply State.advanceTo_keeps

theorem execFence_keeps {u₀ s : State} (hk : Keeps u₀ s) (t : Dword) (core : CoreIx) (storesFirst : Bool) :
    ∃ s', execFence t core storesFirst s = .next s' ∧ Keeps u₀ s' := by
  unfold execFence
  refine ⟨_, rfl, ?_⟩
  with_reducible repeat' first
    | assumption | apply cacheDue_keeps | apply State.advanceTo_keeps | apply drainAll_keeps | apply put_keeps
    | apply wr_keeps | apply ite_keeps

theorem execAtomic_keeps {u₀ s : State} (hk : Keeps u₀ s) (t : Dword) (core : CoreIx) (op : AmoOp) (addr value : Word) (aq rl : Bool) :
    ∃ s', execAtomic t core op addr value aq rl s = .next s' ∧ Keeps u₀ s' := by
  unfold execAtomic
  refine ⟨_, rfl, ?_⟩
  with_reducible repeat' first
    | assumption | apply atomicAccess_keeps | apply cacheDue_keeps | apply State.advanceTo_keeps

theorem execReservationExpiry_keeps {u₀ s : State} (hk : Keeps u₀ s) (t : Dword) (core : CoreIx) :
    ∃ s', execReservationExpiry t core s = .next s' ∧ Keeps u₀ s' := by
  unfold execReservationExpiry
  refine ⟨_, rfl, ?_⟩
  with_reducible repeat' first
    | assumption | apply State.advanceTo_keeps | apply State.passEdges_keeps | apply State.setCoreSt_keeps
    | apply put_keeps | apply wr_keeps | apply ite_keeps | refine each_keeps ?_ _ _ (fun _ _ _ => ?_)
    | (refine snd_keeps (by assumption) ?_) | (refine snd3_keeps (by assumption) ?_)
    | fail_if_no_progress apply upd_keeps | split | dsimp only

theorem execDirtyWriteBack_keeps {u₀ s : State} (hk : Keeps u₀ s) (t : Dword) (group : Fin 3) (addr : Word) :
    ∃ s', execDirtyWriteBack t group addr s = .next s' ∧ Keeps u₀ s' := by
  unfold execDirtyWriteBack
  refine ⟨_, rfl, ?_⟩
  with_reducible repeat' first
    | assumption | apply lineClean_keeps | apply cacheDue_keeps | apply State.advanceTo_keeps

theorem execPlainStore_keeps {u₀ s : State} (hk : Keeps u₀ s) (t : Dword) (core : CoreIx) (width : Width) (addr value : Word) :
    ∃ s', execPlainStore t core width addr value s = .next s' ∧ Keeps u₀ s' := by
  unfold execPlainStore
  refine ⟨_, rfl, ?_⟩
  with_reducible repeat' first
    | assumption | apply cacheDue_keeps | apply State.advanceTo_keeps | apply plainStore_keeps | apply put_keeps
    | apply wr_keeps | apply ite_keeps

theorem execInterruptEntry_keeps {u₀ s : State} (hk : Keeps u₀ s) (t : Dword) (core : CoreIx) :
    ∃ s', execInterruptEntry t core s = .next s' ∧ Keeps u₀ s' := by
  unfold execInterruptEntry
  refine ⟨_, rfl, ?_⟩
  with_reducible repeat' first
    | assumption | apply cacheDue_keeps | apply State.advanceTo_keeps | apply State.setCoreSt_keeps | apply put_keeps
    | apply wr_keeps | apply ite_keeps

/-! ### Coupler -/

theorem cplrReceive_keeps {u₀ s : State} (hk : Keeps u₀ s) (t : Dword) (e r : Nat) (f : State → State) (h_f : ∀ s, Keeps u₀ s → Keeps u₀ (f s)) :
    Keeps u₀ (cplrReceive t e r f s) := by
  unfold cplrReceive
  with_reducible repeat' first
    | assumption | refine State.working_keeps ?_ _ (fun _ _ => ?_) | apply State.advanceTo_keeps | apply h_f
    | apply put_keeps | apply wr_keeps | apply ite_keeps

theorem execEpochPulse_keeps {u₀ s : State} (hk : Keeps u₀ s) (t : Dword) :
    ∃ s', execEpochPulse t s = .next s' ∧ Keeps u₀ s' := by
  unfold execEpochPulse
  refine ⟨_, rfl, ?_⟩
  with_reducible repeat' first
    | assumption | refine State.running_keeps ?_ _ (fun _ _ => ?_) | apply State.advanceTo_keeps
    | apply applyTheta_keeps | apply put_keeps | apply wr_keeps | apply ite_keeps

theorem execLinkUp_keeps {u₀ s : State} (hk : Keeps u₀ s) (t : Dword) (e : Fin 17) :
    ∃ s', execLinkUp t e s = .next s' ∧ Keeps u₀ s' := by
  unfold execLinkUp
  refine ⟨_, rfl, ?_⟩
  with_reducible repeat' first
    | assumption | apply State.advanceTo_keeps | apply State.setCep_keeps
    | refine State.running_keeps ?_ _ (fun _ _ => ?_) | apply sendHello_keeps

theorem execLinkDown_keeps {u₀ s : State} (hk : Keeps u₀ s) (t : Dword) (e : Fin 17) :
    ∃ s', execLinkDown t e s = .next s' ∧ Keeps u₀ s' := by
  unfold execLinkDown
  refine ⟨_, rfl, ?_⟩
  with_reducible repeat' first | assumption | apply State.advanceTo_keeps | apply State.setCep_keeps

theorem execSidebandEndResetChange_keeps {u₀ s : State} (hk : Keeps u₀ s) (t : Dword) (k : Fin 3) (up : Bool) :
    ∃ s', execSidebandEndResetChange t k up s = .next s' ∧ Keeps u₀ s' := by
  unfold execSidebandEndResetChange
  refine ⟨_, rfl, ?_⟩
  with_reducible repeat' first | assumption | apply State.advanceTo_keeps | apply State.setCep_keeps

theorem execHello_keeps {u₀ s : State} (hk : Keeps u₀ s) (t : Dword) (e : Fin 20) :
    ∃ s', execHello t e s = .next s' ∧ Keeps u₀ s' := by
  unfold execHello
  refine ⟨_, rfl, ?_⟩
  with_reducible repeat' first
    | assumption | refine State.running_keeps ?_ _ (fun _ _ => ?_) | apply State.advanceTo_keeps
    | apply State.setCep_keeps | apply put_keeps | apply wr_keeps | apply ite_keeps

theorem execHb_keeps {u₀ s : State} (hk : Keeps u₀ s) (t : Dword) (e : Fin 20) :
    ∃ s', execHb t e s = .next s' ∧ Keeps u₀ s' := by
  unfold execHb
  refine ⟨_, rfl, ?_⟩
  with_reducible repeat' first
    | assumption | refine State.working_keeps ?_ _ (fun _ _ => ?_) | apply heartbeatIn_keeps
    | apply State.advanceTo_keeps

theorem execSync_keeps {u₀ s : State} (hk : Keeps u₀ s) (t : Dword) (e : Fin 20) (t1 : Dword) (turn : Nat) :
    ∃ s', execSync t e t1 turn s = .next s' ∧ Keeps u₀ s' := by
  unfold execSync
  refine ⟨_, rfl, ?_⟩
  with_reducible repeat' first
    | assumption | refine cplrReceive_keeps ?_ _ _ _ _ (fun _ _ => ?_) | apply cplrSend_keeps | apply put_keeps
    | apply wr_keeps | apply ite_keeps | refine each_keeps ?_ _ _ (fun _ _ _ => ?_)
    | (refine snd_keeps (by assumption) ?_) | (refine snd3_keeps (by assumption) ?_)
    | fail_if_no_progress apply upd_keeps

theorem execSyncRsp_keeps {u₀ s : State} (hk : Keeps u₀ s) (t : Dword) (e : Fin 20) :
    ∃ s', execSyncRsp t e s = .next s' ∧ Keeps u₀ s' := by
  unfold execSyncRsp
  refine ⟨_, rfl, ?_⟩
  with_reducible repeat' first
    | assumption | refine cplrReceive_keeps ?_ _ _ _ _ (fun _ _ => ?_) | apply cplrSend_keeps

theorem execSyncFin_keeps {u₀ s : State} (hk : Keeps u₀ s) (t : Dword) (e : Fin 20) (t4 : Dword) :
    ∃ s', execSyncFin t e t4 s = .next s' ∧ Keeps u₀ s' := by
  unfold execSyncFin
  refine ⟨_, rfl, ?_⟩
  with_reducible repeat' first
    | assumption | refine cplrReceive_keeps ?_ _ _ _ _ (fun _ _ => ?_) | apply applyTheta_keeps | apply put_keeps
    | apply wr_keeps | apply ite_keeps | refine each_keeps ?_ _ _ (fun _ _ _ => ?_)
    | (refine snd_keeps (by assumption) ?_) | (refine snd3_keeps (by assumption) ?_)
    | fail_if_no_progress apply upd_keeps | split

theorem execEnv_keeps {u₀ s : State} (hk : Keeps u₀ s) (t : Dword) (e : Fin 20) (epoch : Word) (frac : BitVec 16) (fleet : Bool) :
    ∃ s', execEnv t e epoch frac fleet s = .next s' ∧ Keeps u₀ s' := by
  unfold execEnv
  refine ⟨_, rfl, ?_⟩
  with_reducible repeat' first
    | assumption | refine cplrReceive_keeps ?_ _ _ _ _ (fun _ _ => ?_) | apply envTake_keeps

theorem execEmcapMessage_keeps {u₀ s : State} (hk : Keeps u₀ s) (t : Dword) (e : Fin 20) (issuer : BitVec 17) (sq : BitVec 16) (rate : BitVec 8) (expire : Word) :
    ∃ s', execEmcapMessage t e issuer sq rate expire s = .next s' ∧ Keeps u₀ s' := by
  unfold execEmcapMessage
  refine ⟨_, rfl, ?_⟩
  with_reducible repeat' first
    | assumption | refine cplrReceive_keeps ?_ _ _ _ _ (fun _ _ => ?_) | apply emApply_keeps
    | apply cplrSendDown_keeps | apply put_keeps | apply wr_keeps | apply ite_keeps

theorem execConote_keeps {u₀ s : State} (hk : Keeps u₀ s) (t : Dword) (e : Fin 20) (gid : BitVec 16) (rate : BitVec 8) :
    ∃ s', execConote t e gid rate s = .next s' ∧ Keeps u₀ s' := by
  unfold execConote
  refine ⟨_, rfl, ?_⟩
  with_reducible repeat' first
    | assumption | refine cplrReceive_keeps ?_ _ _ _ _ (fun _ _ => ?_) | apply aggPut_keeps | apply put_keeps
    | apply wr_keeps | apply ite_keeps

theorem execCocap_keeps {u₀ s : State} (hk : Keeps u₀ s) (t : Dword) (e : Fin 20) (gid : BitVec 16) (rate : BitVec 8) (epoch : Word) :
    ∃ s', execCocap t e gid rate epoch s = .next s' ∧ Keeps u₀ s' := by
  unfold execCocap
  refine ⟨_, rfl, ?_⟩
  with_reducible repeat' first
    | assumption | refine cplrReceive_keeps ?_ _ _ _ _ (fun _ _ => ?_) | apply cocapPass_keeps | apply put_keeps
    | apply wr_keeps | apply ite_keeps

theorem execRwrite_keeps {u₀ s : State} (hk : Keeps u₀ s) (t : Dword) (peer : BitVec 17) (win be : BitVec 8) (commit : Bool) (sq : BitVec 16) (lo hi off : Word) :
    ∃ s', execRwrite t peer win be commit sq lo hi off s = .next s' ∧ Keeps u₀ s' := by
  unfold execRwrite
  refine ⟨_, rfl, ?_⟩
  with_reducible repeat' first
    | assumption | refine State.running_keeps ?_ _ (fun _ _ => ?_) | apply State.advanceTo_keeps
    | apply rwAccept_keeps | apply put_keeps | apply wr_keeps | apply ite_keeps

theorem execReservedKind_keeps {u₀ s : State} (hk : Keeps u₀ s) (t : Dword) (e : Fin 20) :
    ∃ s', execReservedKind t e s = .next s' ∧ Keeps u₀ s' := by
  unfold execReservedKind
  refine ⟨_, rfl, ?_⟩
  with_reducible repeat' first
    | assumption | refine State.running_keeps ?_ _ (fun _ _ => ?_) | apply State.advanceTo_keeps
    | apply State.incSat_keeps | apply put_keeps | apply wr_keeps | apply ite_keeps

theorem execEnvIssue_keeps {u₀ s : State} (hk : Keeps u₀ s) (req : Requester) (value : Word) :
    ∃ s', execEnvIssue req value s = .next s' ∧ Keeps u₀ s' := by
  unfold execEnvIssue
  refine ⟨_, rfl, ?_⟩
  with_reducible repeat' first | assumption | refine gated_keeps ?_ _ _ _ _ (fun _ _ _ => ?_) | apply envIssue_keeps

theorem execEnvPointCurrent_keeps {u₀ s : State} (hk : Keeps u₀ s) (t : Dword) :
    ∃ s', execEnvPointCurrent t s = .next s' ∧ Keeps u₀ s' := by
  unfold execEnvPointCurrent
  refine ⟨_, rfl, ?_⟩
  with_reducible repeat' first
    | assumption | refine State.running_keeps ?_ _ (fun _ _ => ?_) | apply State.advanceTo_keeps | apply envDue_keeps

theorem execEnvWindowEnd_keeps {u₀ s : State} (hk : Keeps u₀ s) (t : Dword) :
    ∃ s', execEnvWindowEnd t s = .next s' ∧ Keeps u₀ s' := by
  unfold execEnvWindowEnd
  refine ⟨_, rfl, ?_⟩
  with_reducible repeat' first
    | assumption | refine State.running_keeps ?_ _ (fun _ _ => ?_) | apply State.advanceTo_keeps
    | apply envWindowEnd_keeps | apply put_keeps | apply wr_keeps | apply ite_keeps

theorem execCocapAdopt_keeps {u₀ s : State} (hk : Keeps u₀ s) (t : Dword) :
    ∃ s', execCocapAdopt t s = .next s' ∧ Keeps u₀ s' := by
  unfold execCocapAdopt
  refine ⟨_, rfl, ?_⟩
  with_reducible repeat' first
    | assumption | refine State.working_keeps ?_ _ (fun _ _ => ?_) | apply cocapAdopt_keeps
    | apply State.advanceTo_keeps

theorem execEmcapIssue_keeps {u₀ s : State} (hk : Keeps u₀ s) (req : Requester) (value : Word) :
    ∃ s', execEmcapIssue req value s = .next s' ∧ Keeps u₀ s' := by
  unfold execEmcapIssue
  refine ⟨_, rfl, ?_⟩
  with_reducible repeat' first | assumption | refine gated_keeps ?_ _ _ _ _ (fun _ _ _ => ?_) | apply emIssue_keeps

theorem execRwriteSend_keeps {u₀ s : State} (hk : Keeps u₀ s) (req : Requester) (q : Fin 12) :
    ∃ s', execRwriteSend req q s = .next s' ∧ Keeps u₀ s' := by
  unfold execRwriteSend
  refine ⟨_, rfl, ?_⟩
  with_reducible repeat' first | assumption | refine gated_keeps ?_ _ _ _ _ (fun _ _ _ => ?_) | apply txCommand_keeps

theorem execRwriteCommitSend_keeps {u₀ s : State} (hk : Keeps u₀ s) (req : Requester) (q : Fin 12) :
    ∃ s', execRwriteCommitSend req q s = .next s' ∧ Keeps u₀ s' := by
  unfold execRwriteCommitSend
  refine ⟨_, rfl, ?_⟩
  with_reducible repeat' first | assumption | refine gated_keeps ?_ _ _ _ _ (fun _ _ _ => ?_) | apply txCommand_keeps

theorem execRwriteWindowIdle_keeps {u₀ s : State} (hk : Keeps u₀ s) (t : Dword) (peer : BitVec 17) (win : BitVec 8) :
    ∃ s', execRwriteWindowIdle t peer win s = .next s' ∧ Keeps u₀ s' := by
  unfold execRwriteWindowIdle
  refine ⟨_, rfl, ?_⟩
  with_reducible repeat' first
    | assumption | refine State.running_keeps ?_ _ (fun _ _ => ?_) | apply State.advanceTo_keeps | apply rwPut_keeps
    | apply put_keeps | apply wr_keeps | apply ite_keeps | refine each_keeps ?_ _ _ (fun _ _ _ => ?_)
    | (refine snd_keeps (by assumption) ?_) | (refine snd3_keeps (by assumption) ?_)
    | fail_if_no_progress apply upd_keeps | split | dsimp only

theorem execCompletionRead_keeps {u₀ s : State} (hk : Keeps u₀ s) (req : Requester) :
    ∃ s', execCompletionRead req s = .next s' ∧ Keeps u₀ s' := by
  unfold execCompletionRead
  refine ⟨_, rfl, ?_⟩
  with_reducible repeat' first
    | assumption | refine State.running_keeps ?_ _ (fun _ _ => ?_) | apply completionRead_keeps

theorem execCouplerEnable_keeps {u₀ s : State} (hk : Keeps u₀ s) (req : Requester) (value : Word) :
    ∃ s', execCouplerEnable req value s = .next s' ∧ Keeps u₀ s' := by
  unfold execCouplerEnable
  refine ⟨_, rfl, ?_⟩
  with_reducible repeat' first
    | assumption | refine gated_keeps ?_ _ _ _ _ (fun _ _ _ => ?_) | apply cplrCtrlWrite_keeps

/-! ### Firmware -/

theorem execImageVerified_keeps {u₀ s : State} (hk : Keeps u₀ s) (t : Dword) :
    ∃ s', execImageVerified t s = .next s' ∧ Keeps u₀ s' := by
  unfold execImageVerified
  refine ⟨_, rfl, ?_⟩
  with_reducible repeat' first
    | assumption | refine State.running_keeps ?_ _ (fun _ _ => ?_) | apply imageVerified_keeps
    | apply State.advanceTo_keeps

theorem execImagePush_keeps {u₀ s : State} (hk : Keeps u₀ s) (t : Dword) (slot trial : Bool) (image : List (BitVec 8)) :
    ∃ s', execImagePush t slot trial image s = .next s' ∧ Keeps u₀ s' := by
  unfold execImagePush
  refine ⟨_, rfl, ?_⟩
  with_reducible repeat' first
    | assumption | refine State.running_keeps ?_ _ (fun _ _ => ?_) | apply imagePush_keeps
    | apply State.advanceTo_keeps

theorem execFirmwareReset_keeps {u₀ s : State} (hk : Keeps u₀ s) (t : Dword) :
    ∃ s', execFirmwareReset t s = .next s' ∧ Keeps u₀ s' := by
  unfold execFirmwareReset
  refine ⟨_, rfl, ?_⟩
  with_reducible repeat' first
    | assumption | refine State.running_keeps ?_ _ (fun _ _ => ?_) | apply orderedReset_keeps
    | apply State.advanceTo_keeps

theorem execGetFw_keeps {u₀ s : State} (hk : Keeps u₀ s) (m : YMsg) :
    ∃ s', execGetFw m s = .next s' ∧ Keeps u₀ s' := by
  unfold execGetFw
  refine ⟨_, rfl, ?_⟩
  with_reducible repeat' first | assumption | refine yutre_keeps ?_ _ _ _ (fun _ _ => ?_) | apply State.reply_keeps

theorem execStageBegin_keeps {u₀ s : State} (hk : Keeps u₀ s) (m : YMsg) :
    ∃ s', execStageBegin m s = .next s' ∧ Keeps u₀ s' := by
  unfold execStageBegin
  refine ⟨_, rfl, ?_⟩
  with_reducible repeat' first | assumption | refine yutre_keeps ?_ _ _ _ (fun _ _ => ?_) | apply stageBegin_keeps

theorem execStageData_keeps {u₀ s : State} (hk : Keeps u₀ s) (m : YMsg) (data : Option (List (BitVec 8))) :
    ∃ s', execStageData m data s = .next s' ∧ Keeps u₀ s' := by
  unfold execStageData
  refine ⟨_, rfl, ?_⟩
  with_reducible repeat' first | assumption | refine yutre_keeps ?_ _ _ _ (fun _ _ => ?_) | apply stageData_keeps

theorem execStageEnd_keeps {u₀ s : State} (hk : Keeps u₀ s) (m : YMsg) :
    ∃ s', execStageEnd m s = .next s' ∧ Keeps u₀ s' := by
  unfold execStageEnd
  refine ⟨_, rfl, ?_⟩
  with_reducible repeat' first | assumption | refine yutre_keeps ?_ _ _ _ (fun _ _ => ?_) | apply stageEnd_keeps

theorem execActivate_keeps {u₀ s : State} (hk : Keeps u₀ s) (m : YMsg) :
    ∃ s', execActivate m s = .next s' ∧ Keeps u₀ s' := by
  unfold execActivate
  refine ⟨_, rfl, ?_⟩
  with_reducible repeat' first | assumption | refine yutre_keeps ?_ _ _ _ (fun _ _ => ?_) | apply activate_keeps

theorem execCancel_keeps {u₀ s : State} (hk : Keeps u₀ s) (m : YMsg) :
    ∃ s', execCancel m s = .next s' ∧ Keeps u₀ s' := by
  unfold execCancel
  refine ⟨_, rfl, ?_⟩
  with_reducible repeat' first
    | assumption | refine yutre_keeps ?_ _ _ _ (fun _ _ => ?_) | apply cancelActivation_keeps

theorem execConfirm_keeps {u₀ s : State} (hk : Keeps u₀ s) (m : YMsg) :
    ∃ s', execConfirm m s = .next s' ∧ Keeps u₀ s' := by
  unfold execConfirm
  refine ⟨_, rfl, ?_⟩
  with_reducible repeat' first | assumption | refine yutre_keeps ?_ _ _ _ (fun _ _ => ?_) | apply confirm_keeps

theorem execHeartbeat_keeps {u₀ s : State} (hk : Keeps u₀ s) (m : YMsg) :
    ∃ s', execHeartbeat m s = .next s' ∧ Keeps u₀ s' := by
  unfold execHeartbeat
  refine ⟨_, rfl, ?_⟩
  with_reducible repeat' first
    | assumption | refine yutre_keeps ?_ _ _ _ (fun _ _ => ?_) | refine gated_keeps ?_ _ _ _ _ (fun _ _ _ => ?_)
    | apply hostKick_keeps | apply State.reply_keeps

theorem execActivationStart_keeps {u₀ s : State} (hk : Keeps u₀ s) (t : Dword) :
    ∃ s', execActivationStart t s = .next s' ∧ Keeps u₀ s' := by
  unfold execActivationStart
  refine ⟨_, rfl, ?_⟩
  with_reducible repeat' first
    | assumption | refine State.running_keeps ?_ _ (fun _ _ => ?_) | apply activationStart_keeps
    | apply State.advanceTo_keeps

theorem execWatchdogKick_keeps {u₀ s : State} (hk : Keeps u₀ s) (t : Dword) (req : Requester) (core : CoreIx) :
    ∃ s', execWatchdogKick t req core s = .next s' ∧ Keeps u₀ s' := by
  unfold execWatchdogKick
  refine ⟨_, rfl, ?_⟩
  with_reducible repeat' first
    | assumption | refine gated_keeps ?_ _ _ _ _ (fun _ _ _ => ?_) | apply kickCore_keeps
    | apply State.advanceTo_keeps

theorem execWatchdogExpiry_keeps {u₀ s : State} (hk : Keeps u₀ s) (t : Dword) (core : CoreIx) :
    ∃ s', execWatchdogExpiry t core s = .next s' ∧ Keeps u₀ s' := by
  unfold execWatchdogExpiry
  refine ⟨_, rfl, ?_⟩
  with_reducible repeat' first
    | assumption | refine State.running_keeps ?_ _ (fun _ _ => ?_) | apply watchdogExpiry_keeps
    | apply State.advanceTo_keeps

theorem execCoreReloadDone_keeps {u₀ s : State} (hk : Keeps u₀ s) (t : Dword) (core : CoreIx) :
    ∃ s', execCoreReloadDone t core s = .next s' ∧ Keeps u₀ s' := by
  unfold execCoreReloadDone
  refine ⟨_, rfl, ?_⟩
  with_reducible repeat' first
    | assumption | refine State.running_keeps ?_ _ (fun _ _ => ?_) | apply reloadDone_keeps
    | apply State.advanceTo_keeps

theorem execHostKick_keeps {u₀ s : State} (hk : Keeps u₀ s) (req : Requester) (value : Word) :
    ∃ s', execHostKick req value s = .next s' ∧ Keeps u₀ s' := by
  unfold execHostKick
  refine ⟨_, rfl, ?_⟩
  with_reducible repeat' first | assumption | refine gated_keeps ?_ _ _ _ _ (fun _ _ _ => ?_) | apply hostKick_keeps

theorem execHostPeriodEnd_keeps {u₀ s : State} (hk : Keeps u₀ s) (t : Dword) :
    ∃ s', execHostPeriodEnd t s = .next s' ∧ Keeps u₀ s' := by
  unfold execHostPeriodEnd
  refine ⟨_, rfl, ?_⟩
  with_reducible repeat' first
    | assumption | refine State.running_keeps ?_ _ (fun _ _ => ?_) | apply hostTo_keeps | apply State.advanceTo_keeps

theorem execFwHeartbeatStale_keeps {u₀ s : State} (hk : Keeps u₀ s) (t : Dword) :
    ∃ s', execFwHeartbeatStale t s = .next s' ∧ Keeps u₀ s' := by
  unfold execFwHeartbeatStale
  refine ⟨_, rfl, ?_⟩
  with_reducible repeat' first
    | assumption | refine State.running_keeps ?_ _ (fun _ _ => ?_) | apply hbStale_keeps | apply State.advanceTo_keeps

theorem execHalt_keeps {u₀ s : State} (hk : Keeps u₀ s) (req : Requester) (core : CoreIx) (pc : Word) :
    ∃ s', execHalt req core pc s = .next s' ∧ Keeps u₀ s' := by
  unfold execHalt
  refine ⟨_, rfl, ?_⟩
  with_reducible repeat' first
    | assumption | refine gated_keeps ?_ _ _ _ _ (fun _ _ _ => ?_) | apply dbgCtrlWrite_keeps

theorem execResume_keeps {u₀ s : State} (hk : Keeps u₀ s) (req : Requester) (core : CoreIx) :
    ∃ s', execResume req core s = .next s' ∧ Keeps u₀ s' := by
  unfold execResume
  refine ⟨_, rfl, ?_⟩
  with_reducible repeat' first
    | assumption | refine gated_keeps ?_ _ _ _ _ (fun _ _ _ => ?_) | apply dbgCtrlWrite_keeps

theorem execStep_keeps {u₀ s : State} (hk : Keeps u₀ s) (req : Requester) (core : CoreIx) (pc : Word) :
    ∃ s', execStep req core pc s = .next s' ∧ Keeps u₀ s' := by
  unfold execStep
  refine ⟨_, rfl, ?_⟩
  with_reducible repeat' first
    | assumption | refine gated_keeps ?_ _ _ _ _ (fun _ _ _ => ?_) | apply dbgCtrlWrite_keeps

theorem execPkgConditionReport_keeps {u₀ s : State} (hk : Keeps u₀ s) (t : Dword) (k : Fin 4) (conds : BitVec 6) :
    ∃ s', execPkgConditionReport t k conds s = .next s' ∧ Keeps u₀ s' := by
  unfold execPkgConditionReport
  refine ⟨_, rfl, ?_⟩
  with_reducible repeat' first
    | assumption | refine State.running_keeps ?_ _ (fun _ _ => ?_) | apply State.advanceTo_keeps | apply put_keeps
    | apply wr_keeps | apply ite_keeps | refine each_keeps ?_ _ _ (fun _ _ _ => ?_)
    | (refine snd_keeps (by assumption) ?_) | (refine snd3_keeps (by assumption) ?_)
    | fail_if_no_progress apply upd_keeps

/-! ### Forecast -/

theorem execMarker_keeps {u₀ s : State} (hk : Keeps u₀ s) (t : Dword) (cp : Fin 16) (marker : BitVec 16) :
    ∃ s', execMarker t cp marker s = .next s' ∧ Keeps u₀ s' := by
  unfold execMarker
  refine ⟨_, rfl, ?_⟩
  with_reducible repeat' first
    | assumption | refine State.running_keeps ?_ _ (fun _ _ => ?_) | apply markerPresent_keeps
    | apply State.advanceTo_keeps

theorem execMarkerHandle_keeps {u₀ s : State} (hk : Keeps u₀ s) (t : Dword) (lag : Fin 5) :
    ∃ s', execMarkerHandle t lag s = .next s' ∧ Keeps u₀ s' := by
  unfold execMarkerHandle
  refine ⟨_, rfl, ?_⟩
  with_reducible repeat' first
    | assumption | refine State.running_keeps ?_ _ (fun _ _ => ?_) | apply markerHandle_keeps
    | apply State.advanceTo_keeps

theorem execForecastArm_keeps {u₀ s : State} (hk : Keeps u₀ s) (req : Requester) :
    ∃ s', execForecastArm req s = .next s' ∧ Keeps u₀ s' := by
  unfold execForecastArm
  refine ⟨_, rfl, ?_⟩
  with_reducible repeat' first | assumption | refine gated_keeps ?_ _ _ _ _ (fun _ _ _ => ?_) | apply ttbWrite_keeps

theorem execForecastStop_keeps {u₀ s : State} (hk : Keeps u₀ s) (req : Requester) :
    ∃ s', execForecastStop req s = .next s' ∧ Keeps u₀ s' := by
  unfold execForecastStop
  refine ⟨_, rfl, ?_⟩
  with_reducible repeat' first | assumption | refine gated_keeps ?_ _ _ _ _ (fun _ _ _ => ?_) | apply ttbWrite_keeps

theorem execRescan_keeps {u₀ s : State} (hk : Keeps u₀ s) (req : Requester) :
    ∃ s', execRescan req s = .next s' ∧ Keeps u₀ s' := by
  unfold execRescan
  refine ⟨_, rfl, ?_⟩
  with_reducible repeat' first | assumption | refine gated_keeps ?_ _ _ _ _ (fun _ _ _ => ?_) | apply ttbWrite_keeps

theorem execDirectoryBuildDone_keeps {u₀ s : State} (hk : Keeps u₀ s) (t : Dword) :
    ∃ s', execDirectoryBuildDone t s = .next s' ∧ Keeps u₀ s' := by
  unfold execDirectoryBuildDone
  refine ⟨_, rfl, ?_⟩
  with_reducible repeat' first
    | assumption | refine State.running_keeps ?_ _ (fun _ _ => ?_) | apply dirDone_keeps | apply ttbCatch_keeps
    | apply State.advanceTo_keeps

theorem execTtbDmaStart_keeps {u₀ s : State} (hk : Keeps u₀ s) (req : Requester) :
    ∃ s', execTtbDmaStart req s = .next s' ∧ Keeps u₀ s' := by
  unfold execTtbDmaStart
  refine ⟨_, rfl, ?_⟩
  with_reducible repeat' first | assumption | refine gated_keeps ?_ _ _ _ _ (fun _ _ _ => ?_) | apply ttbWrite_keeps

theorem execTtbDmaEntryWrite_keeps {u₀ s : State} (hk : Keeps u₀ s) (t : Dword) (w0 w1 w2 w3 : Word) :
    ∃ s', execTtbDmaEntryWrite t w0 w1 w2 w3 s = .next s' ∧ Keeps u₀ s' := by
  unfold execTtbDmaEntryWrite
  refine ⟨_, rfl, ?_⟩
  with_reducible repeat' first
    | assumption | refine State.running_keeps ?_ _ (fun _ _ => ?_) | apply ttbDmaEntry_keeps | apply ttbCatch_keeps
    | apply dmaSlot_keeps | apply State.advanceTo_keeps

theorem execTtbDmaDone_keeps {u₀ s : State} (hk : Keeps u₀ s) (t : Dword) (ok : Bool) :
    ∃ s', execTtbDmaDone t ok s = .next s' ∧ Keeps u₀ s' := by
  unfold execTtbDmaDone
  refine ⟨_, rfl, ?_⟩
  with_reducible repeat' first
    | assumption | refine State.running_keeps ?_ _ (fun _ _ => ?_) | apply ttbDmaFinish_keeps | apply ttbCatch_keeps
    | apply State.advanceTo_keeps

theorem execTimetableWrite_keeps {u₀ s : State} (hk : Keeps u₀ s) (req : Requester) (idx : BitVec 16) (w : Fin 4) (value : Word) :
    ∃ s', execTimetableWrite req idx w value s = .next s' ∧ Keeps u₀ s' := by
  unfold execTimetableWrite
  refine ⟨_, rfl, ?_⟩
  with_reducible repeat' first | assumption | refine gated_keeps ?_ _ _ _ _ (fun _ _ _ => ?_) | apply ttbWrite_keeps

theorem execTtbInitDone_keeps {u₀ s : State} (hk : Keeps u₀ s) (t : Dword) :
    ∃ s', execTtbInitDone t s = .next s' ∧ Keeps u₀ s' := by
  unfold execTtbInitDone
  refine ⟨_, rfl, ?_⟩
  with_reducible repeat' first
    | assumption | refine State.running_keeps ?_ _ (fun _ _ => ?_) | apply State.advanceTo_keeps | apply put_keeps

theorem execGroupIdle_keeps {u₀ s : State} (hk : Keeps u₀ s) (t : Dword) (g : GroupIx) :
    ∃ s', execGroupIdle t g s = .next s' ∧ Keeps u₀ s' := by
  unfold execGroupIdle
  refine ⟨_, rfl, ?_⟩
  with_reducible repeat' first
    | assumption | refine State.running_keeps ?_ _ (fun _ _ => ?_) | apply State.advanceTo_keeps | apply put_keeps
    | apply wr_keeps | apply ite_keeps | refine each_keeps ?_ _ _ (fun _ _ _ => ?_)
    | (refine snd_keeps (by assumption) ?_) | (refine snd3_keeps (by assumption) ?_)
    | fail_if_no_progress apply upd_keeps

/-! ### Front -/

theorem xphCmdWrite_keeps {u₀ s : State} (hk : Keeps u₀ s) (req : Requester) (op : Nat) :
    Keeps u₀ (xphCmdWrite req op s) := by
  unfold xphCmdWrite
  with_reducible repeat' first
    | assumption | refine gated_keeps ?_ _ _ _ _ (fun _ _ _ => ?_) | apply frontCommand_keeps
    | apply rippleCatch_keeps

theorem execStart_keeps {u₀ s : State} (hk : Keeps u₀ s) (req : Requester) :
    ∃ s', execStart req s = .next s' ∧ Keeps u₀ s' := by
  unfold execStart
  refine ⟨_, rfl, ?_⟩
  with_reducible repeat' first | assumption | apply xphCmdWrite_keeps

theorem execStop_keeps {u₀ s : State} (hk : Keeps u₀ s) (req : Requester) :
    ∃ s', execStop req s = .next s' ∧ Keeps u₀ s' := by
  unfold execStop
  refine ⟨_, rfl, ?_⟩
  with_reducible repeat' first | assumption | apply xphCmdWrite_keeps

theorem execClear_keeps {u₀ s : State} (hk : Keeps u₀ s) (req : Requester) :
    ∃ s', execClear req s = .next s' ∧ Keeps u₀ s' := by
  unfold execClear
  refine ⟨_, rfl, ?_⟩
  with_reducible repeat' first | assumption | apply xphCmdWrite_keeps

theorem execXphNop_keeps {u₀ s : State} (hk : Keeps u₀ s) (req : Requester) :
    ∃ s', execXphNop req s = .next s' ∧ Keeps u₀ s' := by
  unfold execXphNop
  refine ⟨_, rfl, ?_⟩
  with_reducible repeat' first | assumption | apply xphCmdWrite_keeps

theorem execXphCmdReserved_keeps {u₀ s : State} (hk : Keeps u₀ s) (req : Requester) (op : BitVec 4) :
    ∃ s', execXphCmdReserved req op s = .next s' ∧ Keeps u₀ s' := by
  unfold execXphCmdReserved
  refine ⟨_, rfl, ?_⟩
  with_reducible repeat' first | assumption | apply xphCmdWrite_keeps

theorem execSoftstartRefStart_keeps {u₀ s : State} (hk : Keeps u₀ s) (t : Dword) :
    ∃ s', execSoftstartRefStart t s = .next s' ∧ Keeps u₀ s' := by
  unfold execSoftstartRefStart
  refine ⟨_, rfl, ?_⟩
  with_reducible repeat' first
    | assumption | refine State.frontAt_keeps ?_ _ _ (fun _ _ => ?_) | apply phaseCount_keeps | apply putVimRef_keeps
    | apply put_keeps | apply wr_keeps | apply ite_keeps | refine each_keeps ?_ _ _ (fun _ _ _ => ?_)
    | (refine snd_keeps (by assumption) ?_) | (refine snd3_keeps (by assumption) ?_)
    | fail_if_no_progress apply upd_keeps

theorem execSoftstartRampStep_keeps {u₀ s : State} (hk : Keeps u₀ s) (t : Dword) :
    ∃ s', execSoftstartRampStep t s = .next s' ∧ Keeps u₀ s' := by
  unfold execSoftstartRampStep
  refine ⟨_, rfl, ?_⟩
  with_reducible repeat' first
    | assumption | refine State.frontAt_keeps ?_ _ _ (fun _ _ => ?_) | apply moveVimRef_keeps | apply put_keeps
    | apply wr_keeps | apply ite_keeps

theorem execSoftstartEnd_keeps {u₀ s : State} (hk : Keeps u₀ s) (t : Dword) :
    ∃ s', execSoftstartEnd t s = .next s' ∧ Keeps u₀ s' := by
  unfold execSoftstartEnd
  refine ⟨_, rfl, ?_⟩
  with_reducible repeat' first
    | assumption | refine State.frontAt_keeps ?_ _ _ (fun _ _ => ?_) | apply vimWatch_keeps | apply State.ring_keeps
    | apply put_keeps | apply wr_keeps | apply ite_keeps

theorem execXphNoRise_keeps {u₀ s : State} (hk : Keeps u₀ s) (t : Dword) :
    ∃ s', execXphNoRise t s = .next s' ∧ Keeps u₀ s' := by
  unfold execXphNoRise
  refine ⟨_, rfl, ?_⟩
  with_reducible repeat' first
    | assumption | refine State.frontAt_keeps ?_ _ _ (fun _ _ => ?_) | apply frontLatch_keeps | apply put_keeps
    | apply wr_keeps | apply ite_keeps

theorem execXphUnderVoltage_keeps {u₀ s : State} (hk : Keeps u₀ s) (t : Dword) :
    ∃ s', execXphUnderVoltage t s = .next s' ∧ Keeps u₀ s' := by
  unfold execXphUnderVoltage
  refine ⟨_, rfl, ?_⟩
  with_reducible repeat' first
    | assumption | refine State.frontAt_keeps ?_ _ _ (fun _ _ => ?_) | apply frontLatch_keeps | apply put_keeps
    | apply wr_keeps | apply ite_keeps

theorem execXphVsetWrite_keeps {u₀ s : State} (hk : Keeps u₀ s) (req : Requester) (value : Word) :
    ∃ s', execXphVsetWrite req value s = .next s' ∧ Keeps u₀ s' := by
  unfold execXphVsetWrite
  refine ⟨_, rfl, ?_⟩
  with_reducible repeat' first | assumption | refine gated_keeps ?_ _ _ _ _ (fun _ _ _ => ?_) | apply storeReg_keeps

theorem execVimReferenceSlew_keeps {u₀ s : State} (hk : Keeps u₀ s) (t : Dword) :
    ∃ s', execVimReferenceSlew t s = .next s' ∧ Keeps u₀ s' := by
  unfold execVimReferenceSlew
  refine ⟨_, rfl, ?_⟩
  with_reducible repeat' first
    | assumption | refine State.frontAt_keeps ?_ _ _ (fun _ _ => ?_) | apply moveVimRef_keeps | apply put_keeps
    | apply wr_keeps | apply ite_keeps

theorem execSensePointExclusion_keeps {u₀ s : State} (hk : Keeps u₀ s) (t : Dword) (k : Fin 4) :
    ∃ s', execSensePointExclusion t k s = .next s' ∧ Keeps u₀ s' := by
  unfold execSensePointExclusion
  refine ⟨_, rfl, ?_⟩
  with_reducible repeat' first
    | assumption | refine State.frontAt_keeps ?_ _ _ (fun _ _ => ?_) | apply combineVim_keeps
    | apply State.pulse_keeps | apply State.ring_keeps | apply frontFault_keeps | apply put_keeps | apply wr_keeps
    | apply ite_keeps | refine each_keeps ?_ _ _ (fun _ _ _ => ?_) | (refine snd_keeps (by assumption) ?_)
    | (refine snd3_keeps (by assumption) ?_) | fail_if_no_progress apply upd_keeps

theorem execSensePointInclude_keeps {u₀ s : State} (hk : Keeps u₀ s) (req : Requester) (upper : Bool) (value : Word) :
    ∃ s', execSensePointInclude req upper value s = .next s' ∧ Keeps u₀ s' := by
  unfold execSensePointInclude
  refine ⟨_, rfl, ?_⟩
  with_reducible repeat' first
    | assumption | refine gated_keeps ?_ _ _ _ _ (fun _ _ _ => ?_) | apply vimPtWrite_keeps | apply rippleCatch_keeps

theorem execTrigger_keeps {u₀ s : State} (hk : Keeps u₀ s) (x : EdgeSense) :
    ∃ s', execTrigger x s = .next s' ∧ Keeps u₀ s' := by
  unfold execTrigger
  refine ⟨_, rfl, ?_⟩
  with_reducible repeat' first
    | assumption | refine State.front_keeps ?_ _ (fun _ _ => ?_) | apply firePhase_keeps | apply put_keeps
    | apply wr_keeps | apply ite_keeps | refine each_keeps ?_ _ _ (fun _ _ _ => ?_)
    | (refine snd_keeps (by assumption) ?_) | (refine snd3_keeps (by assumption) ?_)
    | fail_if_no_progress apply upd_keeps | split

theorem execOnTimeEnd_keeps {u₀ s : State} (hk : Keeps u₀ s) (p : PhaseIx) (x : Nat) :
    ∃ s', execOnTimeEnd p x s = .next s' ∧ Keeps u₀ s' := by
  unfold execOnTimeEnd
  refine ⟨_, rfl, ?_⟩
  with_reducible repeat' first
    | assumption | refine State.front_keeps ?_ _ (fun _ _ => ?_) | apply endOnTime_keeps | apply put_keeps
    | apply wr_keeps | apply ite_keeps

theorem execCycleLimit_keeps {u₀ s : State} (hk : Keeps u₀ s) (p : PhaseIx) (x : Nat) :
    ∃ s', execCycleLimit p x s = .next s' ∧ Keeps u₀ s' := by
  unfold execCycleLimit
  refine ⟨_, rfl, ?_⟩
  with_reducible repeat' first
    | assumption | refine State.front_keeps ?_ _ (fun _ _ => ?_) | apply smbLatch_keeps | apply endOnTime_keeps
    | apply phaseLatch_keeps | apply put_keeps | apply wr_keeps | apply ite_keeps
    | refine each_keeps ?_ _ _ (fun _ _ _ => ?_) | (refine snd_keeps (by assumption) ?_)
    | (refine snd3_keeps (by assumption) ?_) | fail_if_no_progress apply upd_keeps

theorem execZeroCurrent_keeps {u₀ s : State} (hk : Keeps u₀ s) (p : PhaseIx) :
    ∃ s', execZeroCurrent p s = .next s' ∧ Keeps u₀ s' := by
  unfold execZeroCurrent
  refine ⟨_, rfl, ?_⟩
  with_reducible repeat' first
    | assumption | refine State.front_keeps ?_ _ (fun _ _ => ?_) | apply State.setPhid_keeps | apply phaseCount_keeps
    | apply put_keeps | apply wr_keeps | apply ite_keeps

theorem execNegativeCurrentLimit_keeps {u₀ s : State} (hk : Keeps u₀ s) (p : PhaseIx) :
    ∃ s', execNegativeCurrentLimit p s = .next s' ∧ Keeps u₀ s' := by
  unfold execNegativeCurrentLimit
  refine ⟨_, rfl, ?_⟩
  with_reducible repeat' first
    | assumption | refine State.front_keeps ?_ _ (fun _ _ => ?_) | apply State.setPhid_keeps | apply put_keeps
    | apply wr_keeps | apply ite_keeps

theorem execSyncLock_keeps {u₀ s : State} (hk : Keeps u₀ s) (t : Dword) (period : Nat) :
    ∃ s', execSyncLock t period s = .next s' ∧ Keeps u₀ s' := by
  unfold execSyncLock
  refine ⟨_, rfl, ?_⟩
  with_reducible repeat' first
    | assumption | refine State.frontAt_keeps ?_ _ _ (fun _ _ => ?_) | apply syncPeriod_keeps | apply State.ring_keeps
    | apply put_keeps | apply wr_keeps | apply ite_keeps | refine each_keeps ?_ _ _ (fun _ _ _ => ?_)
    | (refine snd_keeps (by assumption) ?_) | (refine snd3_keeps (by assumption) ?_)
    | fail_if_no_progress apply upd_keeps

theorem execSyncEdge_keeps {u₀ s : State} (hk : Keeps u₀ s) (x : Nat) (period : Nat) :
    ∃ s', execSyncEdge x period s = .next s' ∧ Keeps u₀ s' := by
  unfold execSyncEdge
  refine ⟨_, rfl, ?_⟩
  with_reducible repeat' first
    | assumption | refine State.front_keeps ?_ _ (fun _ _ => ?_) | apply syncPeriod_keeps | apply syncLost_keeps
    | apply syncEdge_keeps | apply put_keeps | apply wr_keeps | apply ite_keeps

theorem execSlotTrigger_keeps {u₀ s : State} (hk : Keeps u₀ s) (p : PhaseIx) (x : Nat) :
    ∃ s', execSlotTrigger p x s = .next s' ∧ Keeps u₀ s' := by
  unfold execSlotTrigger
  refine ⟨_, rfl, ?_⟩
  with_reducible repeat' first
    | assumption | refine State.front_keeps ?_ _ (fun _ _ => ?_) | apply firePhase_keeps | apply put_keeps
    | apply wr_keeps | apply ite_keeps | refine each_keeps ?_ _ _ (fun _ _ _ => ?_)
    | (refine snd_keeps (by assumption) ?_) | (refine snd3_keeps (by assumption) ?_)
    | fail_if_no_progress apply upd_keeps

theorem execFastTrip_keeps {u₀ s : State} (hk : Keeps u₀ s) (x : EdgeSense) :
    ∃ s', execFastTrip x s = .next s' ∧ Keeps u₀ s' := by
  unfold execFastTrip
  refine ⟨_, rfl, ?_⟩
  with_reducible repeat' first
    | assumption | refine State.front_keeps ?_ _ (fun _ _ => ?_) | apply firePhase_keeps | apply put_keeps
    | apply wr_keeps | apply ite_keeps | refine each_keeps ?_ _ _ (fun _ _ _ => ?_)
    | (refine snd_keeps (by assumption) ?_) | (refine snd3_keeps (by assumption) ?_)
    | fail_if_no_progress apply upd_keeps | split

theorem execSyncLost_keeps {u₀ s : State} (hk : Keeps u₀ s) (t : Dword) :
    ∃ s', execSyncLost t s = .next s' ∧ Keeps u₀ s' := by
  unfold execSyncLost
  refine ⟨_, rfl, ?_⟩
  with_reducible repeat' first | assumption | refine State.frontAt_keeps ?_ _ _ (fun _ _ => ?_) | apply syncLost_keeps

theorem execShedDwellExpiry_keeps {u₀ s : State} (hk : Keeps u₀ s) (t : Dword) :
    ∃ s', execShedDwellExpiry t s = .next s' ∧ Keeps u₀ s' := by
  unfold execShedDwellExpiry
  refine ⟨_, rfl, ?_⟩
  with_reducible repeat' first
    | assumption | refine State.frontAt_keeps ?_ _ _ (fun _ _ => ?_) | apply phaseCount_keeps | apply shedPhase_keeps
    | apply put_keeps | apply wr_keeps | apply ite_keeps | refine each_keeps ?_ _ _ (fun _ _ _ => ?_)
    | (refine snd_keeps (by assumption) ?_) | (refine snd3_keeps (by assumption) ?_)
    | fail_if_no_progress apply upd_keeps | split

theorem execLoadStep_keeps {u₀ s : State} (hk : Keeps u₀ s) (t : Dword) :
    ∃ s', execLoadStep t s = .next s' ∧ Keeps u₀ s' := by
  unfold execLoadStep
  refine ⟨_, rfl, ?_⟩
  with_reducible repeat' first
    | assumption | refine State.frontAt_keeps ?_ _ _ (fun _ _ => ?_) | apply State.ring_keeps | apply cancelShed_keeps
    | apply put_keeps | apply wr_keeps | apply ite_keeps | refine each_keeps ?_ _ _ (fun _ _ _ => ?_)
    | (refine snd_keeps (by assumption) ?_) | (refine snd3_keeps (by assumption) ?_)
    | fail_if_no_progress apply upd_keeps

theorem execStepHoldEnd_keeps {u₀ s : State} (hk : Keeps u₀ s) (t : Dword) :
    ∃ s', execStepHoldEnd t s = .next s' ∧ Keeps u₀ s' := by
  unfold execStepHoldEnd
  refine ⟨_, rfl, ?_⟩
  with_reducible repeat' first
    | assumption | refine State.frontAt_keeps ?_ _ _ (fun _ _ => ?_) | apply phaseCount_keeps | apply put_keeps
    | apply wr_keeps | apply ite_keeps | refine each_keeps ?_ _ _ (fun _ _ _ => ?_)
    | (refine snd_keeps (by assumption) ?_) | (refine snd3_keeps (by assumption) ?_)
    | fail_if_no_progress apply upd_keeps

theorem execReturnPhaseFire_keeps {u₀ s : State} (hk : Keeps u₀ s) (x : Nat) :
    ∃ s', execReturnPhaseFire x s = .next s' ∧ Keeps u₀ s' := by
  unfold execReturnPhaseFire
  refine ⟨_, rfl, ?_⟩
  with_reducible repeat' first
    | assumption | refine State.front_keeps ?_ _ (fun _ _ => ?_) | apply firePhase_keeps | apply put_keeps
    | apply wr_keeps | apply ite_keeps | refine each_keeps ?_ _ _ (fun _ _ _ => ?_)
    | (refine snd_keeps (by assumption) ?_) | (refine snd3_keeps (by assumption) ?_)
    | fail_if_no_progress apply upd_keeps | split

theorem execOverVoltage_keeps {u₀ s : State} (hk : Keeps u₀ s) (t : Dword) (k : Fin 4) :
    ∃ s', execOverVoltage t k s = .next s' ∧ Keeps u₀ s' := by
  unfold execOverVoltage
  refine ⟨_, rfl, ?_⟩
  with_reducible repeat' first
    | assumption | refine State.frontAt_keeps ?_ _ _ (fun _ _ => ?_) | apply State.setPhid_keeps
    | apply smbLatch_keeps | apply put_keeps | apply wr_keeps | apply ite_keeps
    | refine each_keeps ?_ _ _ (fun _ _ _ => ?_) | (refine snd_keeps (by assumption) ?_)
    | (refine snd3_keeps (by assumption) ?_) | fail_if_no_progress apply upd_keeps

theorem execCrowbarRelease_keeps {u₀ s : State} (hk : Keeps u₀ s) (t : Dword) :
    ∃ s', execCrowbarRelease t s = .next s' ∧ Keeps u₀ s' := by
  unfold execCrowbarRelease
  refine ⟨_, rfl, ?_⟩
  with_reducible repeat' first
    | assumption | refine State.frontAt_keeps ?_ _ _ (fun _ _ => ?_) | apply frontLatch_keeps | apply put_keeps
    | apply wr_keeps | apply ite_keeps

theorem execPhaseOverCurrent_keeps {u₀ s : State} (hk : Keeps u₀ s) (t : Dword) (p : PhaseIx) :
    ∃ s', execPhaseOverCurrent t p s = .next s' ∧ Keeps u₀ s' := by
  unfold execPhaseOverCurrent
  refine ⟨_, rfl, ?_⟩
  with_reducible repeat' first
    | assumption | refine State.frontAt_keeps ?_ _ _ (fun _ _ => ?_) | apply phaseLatch_keeps | apply put_keeps
    | apply wr_keeps | apply ite_keeps

theorem execPhaseEnableWrite_keeps {u₀ s : State} (hk : Keeps u₀ s) (req : Requester) (p : PhaseIx) (value : Word) :
    ∃ s', execPhaseEnableWrite req p value s = .next s' ∧ Keeps u₀ s' := by
  unfold execPhaseEnableWrite
  refine ⟨_, rfl, ?_⟩
  with_reducible repeat' first
    | assumption | refine gated_keeps ?_ _ _ _ _ (fun _ _ _ => ?_) | apply phCfgWrite_keeps | apply rippleCatch_keeps

theorem execPhaseClear_keeps {u₀ s : State} (hk : Keeps u₀ s) (req : Requester) (p : PhaseIx) :
    ∃ s', execPhaseClear req p s = .next s' ∧ Keeps u₀ s' := by
  unfold execPhaseClear
  refine ⟨_, rfl, ?_⟩
  with_reducible repeat' first
    | assumption | refine gated_keeps ?_ _ _ _ _ (fun _ _ _ => ?_) | apply phaseClear_keeps | apply rippleCatch_keeps
    | apply put_keeps | apply wr_keeps | apply ite_keeps

/-! ### Hold -/

theorem execSagDeclared_keeps {u₀ s : State} (hk : Keeps u₀ s) (t : Dword) :
    ∃ s', execSagDeclared t s = .next s' ∧ Keeps u₀ s' := by
  unfold execSagDeclared
  refine ⟨_, rfl, ?_⟩
  with_reducible repeat' first | assumption | apply sagDeclared_keeps | apply State.advanceTo_keeps

theorem execFrontStopSag_keeps {u₀ s : State} (hk : Keeps u₀ s) (t : Dword) :
    ∃ s', execFrontStopSag t s = .next s' ∧ Keeps u₀ s' := by
  unfold execFrontStopSag
  refine ⟨_, rfl, ?_⟩
  with_reducible repeat' first
    | assumption | apply State.advanceTo_keeps | apply sagFrontStop_keeps | apply put_keeps | apply wr_keeps
    | apply ite_keeps

theorem execCrashCaptureDone_keeps {u₀ s : State} (hk : Keeps u₀ s) (t : Dword) (missing : List (Fin 1024)) (peers : List (Fin 4)) :
    ∃ s', execCrashCaptureDone t missing peers s = .next s' ∧ Keeps u₀ s' := by
  unfold execCrashCaptureDone
  refine ⟨_, rfl, ?_⟩
  with_reducible repeat' first | assumption | apply captureDone_keeps | apply State.advanceTo_keeps

theorem execRecordProgrammed_keeps {u₀ s : State} (hk : Keeps u₀ s) (t : Dword) (k : Fin 4) (words : List Word) :
    ∃ s', execRecordProgrammed t k words s = .next s' ∧ Keeps u₀ s' := by
  unfold execRecordProgrammed
  refine ⟨_, rfl, ?_⟩
  with_reducible repeat' first | assumption | apply recordProgrammed_keeps | apply State.advanceTo_keeps

theorem execSaveTimeout_keeps {u₀ s : State} (hk : Keeps u₀ s) (t : Dword) :
    ∃ s', execSaveTimeout t s = .next s' ∧ Keeps u₀ s' := by
  unfold execSaveTimeout
  refine ⟨_, rfl, ?_⟩
  with_reducible repeat' first | assumption | apply saveTimeout_keeps | apply State.advanceTo_keeps

theorem execSagEnd_keeps {u₀ s : State} (hk : Keeps u₀ s) (t : Dword) :
    ∃ s', execSagEnd t s = .next s' ∧ Keeps u₀ s' := by
  unfold execSagEnd
  refine ⟨_, rfl, ?_⟩
  with_reducible repeat' first | assumption | apply sagEnd_keeps | apply State.advanceTo_keeps

/-! ### Loops -/

theorem execLpeCommit_keeps {u₀ s : State} (hk : Keeps u₀ s) (req : Requester) (value : Word) :
    ∃ s', execLpeCommit req value s = .next s' ∧ Keeps u₀ s' := by
  unfold execLpeCommit
  refine ⟨_, rfl, ?_⟩
  with_reducible repeat' first
    | assumption | refine gated_keeps ?_ _ _ _ _ (fun _ _ _ => ?_) | apply lpeCtrlWrite_keeps

theorem execLpeValidationDone_keeps {u₀ s : State} (hk : Keeps u₀ s) (t : Dword) :
    ∃ s', execLpeValidationDone t s = .next s' ∧ Keeps u₀ s' := by
  unfold execLpeValidationDone
  refine ⟨_, rfl, ?_⟩
  with_reducible repeat' first
    | assumption | refine State.running_keeps ?_ _ (fun _ _ => ?_) | apply State.advanceTo_keeps
    | apply lpeCommitEnd_keeps | apply put_keeps | apply wr_keeps | apply ite_keeps
    | refine each_keeps ?_ _ _ (fun _ _ _ => ?_) | (refine snd_keeps (by assumption) ?_)
    | (refine snd3_keeps (by assumption) ?_) | fail_if_no_progress apply upd_keeps

theorem execLpeRevert_keeps {u₀ s : State} (hk : Keeps u₀ s) (req : Requester) (value : Word) :
    ∃ s', execLpeRevert req value s = .next s' ∧ Keeps u₀ s' := by
  unfold execLpeRevert
  refine ⟨_, rfl, ?_⟩
  with_reducible repeat' first
    | assumption | refine gated_keeps ?_ _ _ _ _ (fun _ _ _ => ?_) | apply lpeCtrlWrite_keeps

theorem execLpeRevertDone_keeps {u₀ s : State} (hk : Keeps u₀ s) (t : Dword) :
    ∃ s', execLpeRevertDone t s = .next s' ∧ Keeps u₀ s' := by
  unfold execLpeRevertDone
  refine ⟨_, rfl, ?_⟩
  with_reducible repeat' first
    | assumption | refine State.running_keeps ?_ _ (fun _ _ => ?_) | apply lpeApplyRevert_keeps
    | apply State.advanceTo_keeps | apply put_keeps | apply wr_keeps | apply ite_keeps
    | refine each_keeps ?_ _ _ (fun _ _ _ => ?_) | (refine snd_keeps (by assumption) ?_)
    | (refine snd3_keeps (by assumption) ?_) | fail_if_no_progress apply upd_keeps

theorem execLpeInitDone_keeps {u₀ s : State} (hk : Keeps u₀ s) (t : Dword) :
    ∃ s', execLpeInitDone t s = .next s' ∧ Keeps u₀ s' := by
  unfold execLpeInitDone
  refine ⟨_, rfl, ?_⟩
  with_reducible repeat' first
    | assumption | refine State.running_keeps ?_ _ (fun _ _ => ?_) | apply State.advanceTo_keeps | apply put_keeps

theorem execLpeStateWrite_keeps {u₀ s : State} (hk : Keeps u₀ s) (req : Requester) (addr : Offset) (value : Word) :
    ∃ s', execLpeStateWrite req addr value s = .next s' ∧ Keeps u₀ s' := by
  unfold execLpeStateWrite
  refine ⟨_, rfl, ?_⟩
  with_reducible repeat' first
    | assumption | refine gated_keeps ?_ _ _ _ _ (fun _ _ _ => ?_) | apply lpeWrite_keeps | apply put_keeps
    | apply wr_keeps | apply ite_keeps

theorem execLpeEnableWrite_keeps {u₀ s : State} (hk : Keeps u₀ s) (req : Requester) (value : Word) :
    ∃ s', execLpeEnableWrite req value s = .next s' ∧ Keeps u₀ s' := by
  unfold execLpeEnableWrite
  refine ⟨_, rfl, ?_⟩
  with_reducible repeat' first
    | assumption | refine gated_keeps ?_ _ _ _ _ (fun _ _ _ => ?_) | apply lpeCtrlWrite_keeps

theorem execPgTargetWrite_keeps {u₀ s : State} (hk : Keeps u₀ s) (req : Requester) (j : Fin 16) (value : Word) :
    ∃ s', execPgTargetWrite req j value s = .next s' ∧ Keeps u₀ s' := by
  unfold execPgTargetWrite
  refine ⟨_, rfl, ?_⟩
  with_reducible repeat' first | assumption | refine gated_keeps ?_ _ _ _ _ (fun _ _ _ => ?_) | apply pgWrite_keeps

theorem execTrcArm_keeps {u₀ s : State} (hk : Keeps u₀ s) (req : Requester) :
    ∃ s', execTrcArm req s = .next s' ∧ Keeps u₀ s' := by
  unfold execTrcArm
  refine ⟨_, rfl, ?_⟩
  with_reducible repeat' first
    | assumption | refine gated_keeps ?_ _ _ _ _ (fun _ _ _ => ?_) | apply trcCtrlWrite_keeps

theorem execTrcStop_keeps {u₀ s : State} (hk : Keeps u₀ s) (req : Requester) :
    ∃ s', execTrcStop req s = .next s' ∧ Keeps u₀ s' := by
  unfold execTrcStop
  refine ⟨_, rfl, ?_⟩
  with_reducible repeat' first
    | assumption | refine gated_keeps ?_ _ _ _ _ (fun _ _ _ => ?_) | apply trcCtrlWrite_keeps

theorem execTrcSwtrig_keeps {u₀ s : State} (hk : Keeps u₀ s) (req : Requester) :
    ∃ s', execTrcSwtrig req s = .next s' ∧ Keeps u₀ s' := by
  unfold execTrcSwtrig
  refine ⟨_, rfl, ?_⟩
  with_reducible repeat' first
    | assumption | refine gated_keeps ?_ _ _ _ _ (fun _ _ _ => ?_) | apply trcCtrlWrite_keeps

theorem execTraceTimedTrigger_keeps {u₀ s : State} (hk : Keeps u₀ s) (t : Dword) :
    ∃ s', execTraceTimedTrigger t s = .next s' ∧ Keeps u₀ s' := by
  unfold execTraceTimedTrigger
  refine ⟨_, rfl, ?_⟩
  with_reducible repeat' first
    | assumption | refine State.running_keeps ?_ _ (fun _ _ => ?_) | apply State.advanceTo_keeps
    | apply traceTrigger_keeps | apply put_keeps | apply wr_keeps | apply ite_keeps

/-! ### Mail -/

theorem execChannelClaim_keeps {u₀ s : State} (hk : Keeps u₀ s) (t : Dword) (req : Requester) (c : Fin 32) :
    ∃ s', execChannelClaim t req c s = .next s' ∧ Keeps u₀ s' := by
  unfold execChannelClaim
  refine ⟨_, rfl, ?_⟩
  split
  · exact State.answer_keeps hk _
  · dsimp only
    with_reducible repeat' first
      | assumption | apply chClaim_keeps | apply State.advanceTo_keeps | apply State.answer_keeps

theorem execPost_keeps {u₀ s : State} (hk : Keeps u₀ s) (t : Dword) (req : Requester) (c : Fin 32) (esrc : BitVec 10) :
    ∃ s', execPost t req c esrc s = .next s' ∧ Keeps u₀ s' := by
  unfold execPost
  refine ⟨_, rfl, ?_⟩
  with_reducible repeat' first
    | assumption | refine gated_keeps ?_ _ _ _ _ (fun _ _ _ => ?_) | apply chCtlWrite_keeps
    | apply State.advanceTo_keeps

theorem execTake_keeps {u₀ s : State} (hk : Keeps u₀ s) (req : Requester) (c : Fin 32) :
    ∃ s', execTake req c s = .next s' ∧ Keeps u₀ s' := by
  unfold execTake
  refine ⟨_, rfl, ?_⟩
  with_reducible repeat' first | assumption | refine gated_keeps ?_ _ _ _ _ (fun _ _ _ => ?_) | apply chCtlWrite_keeps

theorem execAbandon_keeps {u₀ s : State} (hk : Keeps u₀ s) (req : Requester) (c : Fin 32) :
    ∃ s', execAbandon req c s = .next s' ∧ Keeps u₀ s' := by
  unfold execAbandon
  refine ⟨_, rfl, ?_⟩
  with_reducible repeat' first | assumption | refine gated_keeps ?_ _ _ _ _ (fun _ _ _ => ?_) | apply chCtlWrite_keeps

theorem execFillTimeout_keeps {u₀ s : State} (hk : Keeps u₀ s) (t : Dword) (c : Fin 32) :
    ∃ s', execFillTimeout t c s = .next s' ∧ Keeps u₀ s' := by
  unfold execFillTimeout
  refine ⟨_, rfl, ?_⟩
  with_reducible repeat' first
    | assumption | apply State.advanceTo_keeps | apply fillTimeout_keeps | apply put_keeps | apply wr_keeps
    | apply ite_keeps

theorem execChannelConfigWrite_keeps {u₀ s : State} (hk : Keeps u₀ s) (req : Requester) (c : Fin 32) (value : Word) :
    ∃ s', execChannelConfigWrite req c value s = .next s' ∧ Keeps u₀ s' := by
  unfold execChannelConfigWrite
  refine ⟨_, rfl, ?_⟩
  with_reducible repeat' first | assumption | refine gated_keeps ?_ _ _ _ _ (fun _ _ _ => ?_) | apply chCfgWrite_keeps

theorem execSlotWrite_keeps {u₀ s : State} (hk : Keeps u₀ s) (req : Requester) (c : Fin 32) (w : Fin 16) (value : Word) :
    ∃ s', execSlotWrite req c w value s = .next s' ∧ Keeps u₀ s' := by
  unfold execSlotWrite
  refine ⟨_, rfl, ?_⟩
  with_reducible repeat' first | assumption | refine gated_keeps ?_ _ _ _ _ (fun _ _ _ => ?_) | apply slotWrite_keeps

theorem execDbenWrite_keeps {u₀ s : State} (hk : Keeps u₀ s) (req : Requester) (r : Fin 12) (value : Word) :
    ∃ s', execDbenWrite req r value s = .next s' ∧ Keeps u₀ s' := by
  unfold execDbenWrite
  refine ⟨_, rfl, ?_⟩
  with_reducible repeat' first | assumption | refine gated_keeps ?_ _ _ _ _ (fun _ _ _ => ?_) | apply dbenWrite_keeps

theorem execRwriteCommitLand_keeps {u₀ s : State} (hk : Keeps u₀ s) (t : Dword) (peer : BitVec 17) (win : BitVec 8) :
    ∃ s', execRwriteCommitLand t peer win s = .next s' ∧ Keeps u₀ s' := by
  unfold execRwriteCommitLand
  refine ⟨_, rfl, ?_⟩
  with_reducible repeat' first | assumption | apply commitDue_keeps | apply State.advanceTo_keeps

theorem execRwriteCommitTimeout_keeps {u₀ s : State} (hk : Keeps u₀ s) (t : Dword) (peer : BitVec 17) (win : BitVec 8) :
    ∃ s', execRwriteCommitTimeout t peer win s = .next s' ∧ Keeps u₀ s' := by
  unfold execRwriteCommitTimeout
  refine ⟨_, rfl, ?_⟩
  with_reducible repeat' first | assumption | apply commitDue_keeps | apply State.advanceTo_keeps

/-! ### Outrider -/

theorem execOutriderRunTick_keeps {u₀ s : State} (hk : Keeps u₀ s) (t : Dword) :
    ∃ s', execOutriderRunTick t s = .next s' ∧ Keeps u₀ s' := by
  unfold execOutriderRunTick
  refine ⟨_, rfl, ?_⟩
  with_reducible repeat' first
    | assumption | apply baseTick_keeps | apply put_keeps | apply wr_keeps | apply ite_keeps

theorem execOutriderStart_keeps {u₀ s : State} (hk : Keeps u₀ s) (req : Requester) (value : Word) :
    ∃ s', execOutriderStart req value s = .next s' ∧ Keeps u₀ s' := by
  unfold execOutriderStart
  refine ⟨_, rfl, ?_⟩
  with_reducible repeat' first
    | assumption | refine gated_keeps ?_ _ _ _ _ (fun _ _ _ => ?_) | apply outCtlWrite_keeps

theorem execOutriderValidationDone_keeps {u₀ s : State} (hk : Keeps u₀ s) (t : Dword) :
    ∃ s', execOutriderValidationDone t s = .next s' ∧ Keeps u₀ s' := by
  unfold execOutriderValidationDone
  refine ⟨_, rfl, ?_⟩
  with_reducible repeat' first
    | assumption | refine State.running_keeps ?_ _ (fun _ _ => ?_) | apply odrValidated_keeps
    | apply State.advanceTo_keeps

theorem execOutriderStop_keeps {u₀ s : State} (hk : Keeps u₀ s) (req : Requester) (value : Word) :
    ∃ s', execOutriderStop req value s = .next s' ∧ Keeps u₀ s' := by
  unfold execOutriderStop
  refine ⟨_, rfl, ?_⟩
  with_reducible repeat' first
    | assumption | refine gated_keeps ?_ _ _ _ _ (fun _ _ _ => ?_) | apply outCtlWrite_keeps

theorem execOutriderClear_keeps {u₀ s : State} (hk : Keeps u₀ s) (req : Requester) (value : Word) :
    ∃ s', execOutriderClear req value s = .next s' ∧ Keeps u₀ s' := by
  unfold execOutriderClear
  refine ⟨_, rfl, ?_⟩
  with_reducible repeat' first
    | assumption | refine gated_keeps ?_ _ _ _ _ (fun _ _ _ => ?_) | apply outCtlWrite_keeps

theorem execOutriderError_keeps {u₀ s : State} (hk : Keeps u₀ s) (t : Dword) :
    ∃ s', execOutriderError t s = .next s' ∧ Keeps u₀ s' := by
  unfold execOutriderError
  refine ⟨_, rfl, ?_⟩
  with_reducible repeat' first
    | assumption | refine State.running_keeps ?_ _ (fun _ _ => ?_) | apply odrFail_keeps | apply State.advanceTo_keeps

theorem execOutriderDmaStart_keeps {u₀ s : State} (hk : Keeps u₀ s) (req : Requester) :
    ∃ s', execOutriderDmaStart req s = .next s' ∧ Keeps u₀ s' := by
  unfold execOutriderDmaStart
  refine ⟨_, rfl, ?_⟩
  with_reducible repeat' first
    | assumption | refine gated_keeps ?_ _ _ _ _ (fun _ _ _ => ?_) | apply outDmaWrite_keeps

theorem execOutriderDmaDone_keeps {u₀ s : State} (hk : Keeps u₀ s) (t : Dword) (words : List Word) (ok : Bool) :
    ∃ s', execOutriderDmaDone t words ok s = .next s' ∧ Keeps u₀ s' := by
  unfold execOutriderDmaDone
  refine ⟨_, rfl, ?_⟩
  with_reducible repeat' first
    | assumption | refine State.running_keeps ?_ _ (fun _ _ => ?_) | apply outDmaDone_keeps
    | apply State.advanceTo_keeps

theorem execOutriderInitDone_keeps {u₀ s : State} (hk : Keeps u₀ s) (t : Dword) :
    ∃ s', execOutriderInitDone t s = .next s' ∧ Keeps u₀ s' := by
  unfold execOutriderInitDone
  refine ⟨_, rfl, ?_⟩
  with_reducible repeat' first
    | assumption | refine State.running_keeps ?_ _ (fun _ _ => ?_) | apply State.advanceTo_keeps | apply put_keeps

/-! ### Pmbus -/

theorem execPage_keeps {u₀ s : State} (hk : Keeps u₀ s) (page : BitVec 8) :
    ∃ s', execPage page s = .next s' ∧ Keeps u₀ s' := by
  unfold execPage
  refine ⟨_, rfl, ?_⟩
  with_reducible repeat' first
    | assumption | refine smbDo_keeps ?_ _ (fun _ _ => ?_) | apply cmlLatch_keeps | apply put_keeps | apply wr_keeps
    | apply ite_keeps

theorem execPageRead_keeps {u₀ s : State} (hk : Keeps u₀ s) :
    ∃ s', execPageRead s = .next s' ∧ Keeps u₀ s' := by
  unfold execPageRead
  refine ⟨_, rfl, ?_⟩
  with_reducible repeat' first | assumption | refine smbDo_keeps ?_ _ (fun _ _ => ?_) | apply State.answer_keeps

theorem execClearFaults_keeps {u₀ s : State} (hk : Keeps u₀ s) :
    ∃ s', execClearFaults s = .next s' ∧ Keeps u₀ s' := by
  unfold execClearFaults
  refine ⟨_, rfl, ?_⟩
  with_reducible repeat' first
    | assumption | refine smbDo_keeps ?_ _ (fun _ _ => ?_) | apply put_keeps | apply wr_keeps | apply ite_keeps
    | refine each_keeps ?_ _ _ (fun _ _ _ => ?_) | (refine snd_keeps (by assumption) ?_)
    | (refine snd3_keeps (by assumption) ?_) | fail_if_no_progress apply upd_keeps

theorem execCapability_keeps {u₀ s : State} (hk : Keeps u₀ s) :
    ∃ s', execCapability s = .next s' ∧ Keeps u₀ s' := by
  unfold execCapability
  refine ⟨_, rfl, ?_⟩
  with_reducible repeat' first | assumption | refine smbDo_keeps ?_ _ (fun _ _ => ?_) | apply State.answer_keeps

theorem execVoutMode_keeps {u₀ s : State} (hk : Keeps u₀ s) :
    ∃ s', execVoutMode s = .next s' ∧ Keeps u₀ s' := by
  unfold execVoutMode
  refine ⟨_, rfl, ?_⟩
  with_reducible repeat' first | assumption | refine smbDo_keeps ?_ _ (fun _ _ => ?_) | apply State.answer_keeps

theorem execStatusByte_keeps {u₀ s : State} (hk : Keeps u₀ s) :
    ∃ s', execStatusByte s = .next s' ∧ Keeps u₀ s' := by
  unfold execStatusByte
  refine ⟨_, rfl, ?_⟩
  with_reducible repeat' first
    | assumption | refine smbDo_keeps ?_ _ (fun _ _ => ?_) | apply smbFresh_keeps | apply State.answer_keeps

theorem execStatusWord_keeps {u₀ s : State} (hk : Keeps u₀ s) :
    ∃ s', execStatusWord s = .next s' ∧ Keeps u₀ s' := by
  unfold execStatusWord
  refine ⟨_, rfl, ?_⟩
  with_reducible repeat' first
    | assumption | refine smbDo_keeps ?_ _ (fun _ _ => ?_) | apply smbFresh_keeps | apply State.answer_keeps

theorem execStatusVout_keeps {u₀ s : State} (hk : Keeps u₀ s) :
    ∃ s', execStatusVout s = .next s' ∧ Keeps u₀ s' := by
  unfold execStatusVout
  refine ⟨_, rfl, ?_⟩
  with_reducible repeat' first
    | assumption | refine smbDo_keeps ?_ _ (fun _ _ => ?_) | apply smbFresh_keeps | apply State.answer_keeps

theorem execStatusIout_keeps {u₀ s : State} (hk : Keeps u₀ s) :
    ∃ s', execStatusIout s = .next s' ∧ Keeps u₀ s' := by
  unfold execStatusIout
  refine ⟨_, rfl, ?_⟩
  with_reducible repeat' first
    | assumption | refine smbDo_keeps ?_ _ (fun _ _ => ?_) | apply smbFresh_keeps | apply State.answer_keeps

theorem execStatusInput_keeps {u₀ s : State} (hk : Keeps u₀ s) :
    ∃ s', execStatusInput s = .next s' ∧ Keeps u₀ s' := by
  unfold execStatusInput
  refine ⟨_, rfl, ?_⟩
  with_reducible repeat' first
    | assumption | refine smbDo_keeps ?_ _ (fun _ _ => ?_) | apply smbFresh_keeps | apply State.answer_keeps

theorem execStatusTemperature_keeps {u₀ s : State} (hk : Keeps u₀ s) :
    ∃ s', execStatusTemperature s = .next s' ∧ Keeps u₀ s' := by
  unfold execStatusTemperature
  refine ⟨_, rfl, ?_⟩
  with_reducible repeat' first
    | assumption | refine smbDo_keeps ?_ _ (fun _ _ => ?_) | apply smbFresh_keeps | apply State.answer_keeps

theorem execStatusCml_keeps {u₀ s : State} (hk : Keeps u₀ s) :
    ∃ s', execStatusCml s = .next s' ∧ Keeps u₀ s' := by
  unfold execStatusCml
  refine ⟨_, rfl, ?_⟩
  with_reducible repeat' first
    | assumption | refine smbDo_keeps ?_ _ (fun _ _ => ?_) | apply smbFresh_keeps | apply State.answer_keeps

theorem execStatusMfrSpecific_keeps {u₀ s : State} (hk : Keeps u₀ s) :
    ∃ s', execStatusMfrSpecific s = .next s' ∧ Keeps u₀ s' := by
  unfold execStatusMfrSpecific
  refine ⟨_, rfl, ?_⟩
  with_reducible repeat' first
    | assumption | refine smbDo_keeps ?_ _ (fun _ _ => ?_) | apply smbFresh_keeps | apply State.answer_keeps

theorem execReadVin_keeps {u₀ s : State} (hk : Keeps u₀ s) :
    ∃ s', execReadVin s = .next s' ∧ Keeps u₀ s' := by
  unfold execReadVin
  refine ⟨_, rfl, ?_⟩
  with_reducible repeat' first | assumption | refine smbDo_keeps ?_ _ (fun _ _ => ?_) | apply replyLinear_keeps

theorem execReadIin_keeps {u₀ s : State} (hk : Keeps u₀ s) :
    ∃ s', execReadIin s = .next s' ∧ Keeps u₀ s' := by
  unfold execReadIin
  refine ⟨_, rfl, ?_⟩
  with_reducible repeat' first | assumption | refine smbDo_keeps ?_ _ (fun _ _ => ?_) | apply replyLinear_keeps

theorem execReadVout_keeps {u₀ s : State} (hk : Keeps u₀ s) :
    ∃ s', execReadVout s = .next s' ∧ Keeps u₀ s' := by
  unfold execReadVout
  refine ⟨_, rfl, ?_⟩
  with_reducible repeat' first | assumption | refine smbDo_keeps ?_ _ (fun _ _ => ?_) | apply State.answer_keeps

theorem execReadIout_keeps {u₀ s : State} (hk : Keeps u₀ s) :
    ∃ s', execReadIout s = .next s' ∧ Keeps u₀ s' := by
  unfold execReadIout
  refine ⟨_, rfl, ?_⟩
  with_reducible repeat' first | assumption | refine smbDo_keeps ?_ _ (fun _ _ => ?_) | apply replyLinear_keeps

theorem execReadTemperature1_keeps {u₀ s : State} (hk : Keeps u₀ s) :
    ∃ s', execReadTemperature1 s = .next s' ∧ Keeps u₀ s' := by
  unfold execReadTemperature1
  refine ⟨_, rfl, ?_⟩
  with_reducible repeat' first | assumption | refine smbDo_keeps ?_ _ (fun _ _ => ?_) | apply replyHottest_keeps

theorem execReadTemperature2_keeps {u₀ s : State} (hk : Keeps u₀ s) :
    ∃ s', execReadTemperature2 s = .next s' ∧ Keeps u₀ s' := by
  unfold execReadTemperature2
  refine ⟨_, rfl, ?_⟩
  with_reducible repeat' first | assumption | refine smbDo_keeps ?_ _ (fun _ _ => ?_) | apply replyHottest_keeps

theorem execReadPout_keeps {u₀ s : State} (hk : Keeps u₀ s) :
    ∃ s', execReadPout s = .next s' ∧ Keeps u₀ s' := by
  unfold execReadPout
  refine ⟨_, rfl, ?_⟩
  with_reducible repeat' first | assumption | refine smbDo_keeps ?_ _ (fun _ _ => ?_) | apply replyLinear_keeps

theorem execPmbusRevision_keeps {u₀ s : State} (hk : Keeps u₀ s) :
    ∃ s', execPmbusRevision s = .next s' ∧ Keeps u₀ s' := by
  unfold execPmbusRevision
  refine ⟨_, rfl, ?_⟩
  with_reducible repeat' first | assumption | refine smbDo_keeps ?_ _ (fun _ _ => ?_) | apply State.answer_keeps

theorem execMfrId_keeps {u₀ s : State} (hk : Keeps u₀ s) :
    ∃ s', execMfrId s = .next s' ∧ Keeps u₀ s' := by
  unfold execMfrId
  refine ⟨_, rfl, ?_⟩
  with_reducible repeat' first | assumption | refine smbDo_keeps ?_ _ (fun _ _ => ?_) | apply replyText_keeps

theorem execMfrModel_keeps {u₀ s : State} (hk : Keeps u₀ s) :
    ∃ s', execMfrModel s = .next s' ∧ Keeps u₀ s' := by
  unfold execMfrModel
  refine ⟨_, rfl, ?_⟩
  with_reducible repeat' first | assumption | refine smbDo_keeps ?_ _ (fun _ _ => ?_) | apply replyText_keeps

theorem execMfrPkgCap_keeps {u₀ s : State} (hk : Keeps u₀ s) (value : BitVec 16) :
    ∃ s', execMfrPkgCap value s = .next s' ∧ Keeps u₀ s' := by
  unfold execMfrPkgCap
  refine ⟨_, rfl, ?_⟩
  with_reducible repeat' first
    | assumption | refine smbDo_keeps ?_ _ (fun _ _ => ?_) | refine State.running_keeps ?_ _ (fun _ _ => ?_)
    | apply pwrWrite_keeps | apply cmlLatch_keeps | apply put_keeps | apply wr_keeps | apply ite_keeps

theorem execMfrPkgCapRead_keeps {u₀ s : State} (hk : Keeps u₀ s) :
    ∃ s', execMfrPkgCapRead s = .next s' ∧ Keeps u₀ s' := by
  unfold execMfrPkgCapRead
  refine ⟨_, rfl, ?_⟩
  with_reducible repeat' first | assumption | refine smbDo_keeps ?_ _ (fun _ _ => ?_) | apply State.answer_keeps

theorem execMfrInstStatus_keeps {u₀ s : State} (hk : Keeps u₀ s) :
    ∃ s', execMfrInstStatus s = .next s' ∧ Keeps u₀ s' := by
  unfold execMfrInstStatus
  refine ⟨_, rfl, ?_⟩
  with_reducible repeat' first | assumption | refine smbDo_keeps ?_ _ (fun _ _ => ?_) | apply replyRegs_keeps

theorem execMfrCapState_keeps {u₀ s : State} (hk : Keeps u₀ s) :
    ∃ s', execMfrCapState s = .next s' ∧ Keeps u₀ s' := by
  unfold execMfrCapState
  refine ⟨_, rfl, ?_⟩
  with_reducible repeat' first | assumption | refine smbDo_keeps ?_ _ (fun _ _ => ?_) | apply State.answer_keeps

theorem execMfrEin_keeps {u₀ s : State} (hk : Keeps u₀ s) :
    ∃ s', execMfrEin s = .next s' ∧ Keeps u₀ s' := by
  unfold execMfrEin
  refine ⟨_, rfl, ?_⟩
  with_reducible repeat' first | assumption | refine smbDo_keeps ?_ _ (fun _ _ => ?_) | apply State.answer_keeps

theorem execPmbusInvalidCommand_keeps {u₀ s : State} (hk : Keeps u₀ s) (fault : Fin 4) :
    ∃ s', execPmbusInvalidCommand fault s = .next s' ∧ Keeps u₀ s' := by
  unfold execPmbusInvalidCommand
  refine ⟨_, rfl, ?_⟩
  with_reducible repeat' first | assumption | refine smbDo_keeps ?_ _ (fun _ _ => ?_) | apply cmlLatch_keeps

theorem execAlertResponse_keeps {u₀ s : State} (hk : Keeps u₀ s) :
    ∃ s', execAlertResponse s = .next s' ∧ Keeps u₀ s' := by
  unfold execAlertResponse
  refine ⟨_, rfl, ?_⟩
  with_reducible repeat' first
    | assumption | refine smbDo_keeps ?_ _ (fun _ _ => ?_) | apply smbFresh_keeps | apply put_keeps | apply wr_keeps
    | apply ite_keeps | refine each_keeps ?_ _ _ (fun _ _ _ => ?_) | (refine snd_keeps (by assumption) ?_)
    | (refine snd3_keeps (by assumption) ?_) | fail_if_no_progress apply upd_keeps

/-! ### Postilion -/

theorem onCore_keeps {u₀ s : State} (hk : Keeps u₀ s) (i : Nat) (f : State → State) (h_f : ∀ s, Keeps u₀ s → Keeps u₀ (f s)) :
    Keeps u₀ (onCore i f s) := by
  unfold onCore
  with_reducible repeat' first | assumption | apply h_f | apply put_keeps | apply wr_keeps | apply ite_keeps

theorem execTsCsrRead_keeps {u₀ s : State} (hk : Keeps u₀ s) (t : Dword) (i : CoreIx) (high : Bool) :
    ∃ s', execTsCsrRead t i high s = .next s' ∧ Keeps u₀ s' := by
  unfold execTsCsrRead
  refine ⟨_, rfl, ?_⟩
  with_reducible repeat' first
    | assumption | refine onCore_keeps ?_ _ _ (fun _ _ => ?_) | apply State.answer_keeps | apply State.advanceTo_keeps
    | apply put_keeps | apply wr_keeps | apply ite_keeps | refine each_keeps ?_ _ _ (fun _ _ _ => ?_)
    | (refine snd_keeps (by assumption) ?_) | (refine snd3_keeps (by assumption) ?_)
    | fail_if_no_progress apply upd_keeps

theorem execClaim_keeps {u₀ s : State} (hk : Keeps u₀ s) (t : Dword) (i : CoreIx) :
    ∃ s', execClaim t i s = .next s' ∧ Keeps u₀ s' := by
  unfold execClaim
  refine ⟨_, rfl, ?_⟩
  with_reducible repeat' first
    | assumption | refine onCore_keeps ?_ _ _ (fun _ _ => ?_) | apply claim_keeps | apply State.answer_keeps
    | apply windowsCatch_keeps | apply State.advanceTo_keeps

theorem execComplete_keeps {u₀ s : State} (hk : Keeps u₀ s) (t : Dword) (i : CoreIx) (value : Word) :
    ∃ s', execComplete t i value s = .next s' ∧ Keeps u₀ s' := by
  unfold execComplete
  refine ⟨_, rfl, ?_⟩
  with_reducible repeat' first
    | assumption | refine onCore_keeps ?_ _ _ (fun _ _ => ?_) | apply complete_keeps | apply State.advanceTo_keeps

theorem acceptEdge_keeps {u₀ s : State} (hk : Keeps u₀ s) :
    Keeps u₀ (acceptEdge s) := by
  unfold acceptEdge
  with_reducible repeat' first
    | assumption | apply State.passEdges_keeps | apply put_keeps | apply wr_keeps | apply ite_keeps

theorem execDoorbell_keeps {u₀ s : State} (hk : Keeps u₀ s) (t : Dword) (write : Option (Requester × BitVec 16)) :
    ∃ s', execDoorbell t write s = .next s' ∧ Keeps u₀ s' := by
  unfold execDoorbell
  refine ⟨_, rfl, ?_⟩
  with_reducible repeat' first
    | assumption | refine State.running_keeps ?_ _ (fun _ _ => ?_) | apply State.advanceTo_keeps
    | apply acceptNext_keeps | apply acceptEdge_keeps | apply recordDenied_keeps | apply doorbellIn_keeps
    | apply put_keeps | apply wr_keeps | apply ite_keeps | refine each_keeps ?_ _ _ (fun _ _ _ => ?_)
    | (refine snd_keeps (by assumption) ?_) | (refine snd3_keeps (by assumption) ?_)
    | fail_if_no_progress apply upd_keeps | split

theorem execSourceBind_keeps {u₀ s : State} (hk : Keeps u₀ s) (t : Dword) (n : SourceIx) :
    ∃ s', execSourceBind t n s = .next s' ∧ Keeps u₀ s' := by
  unfold execSourceBind
  refine ⟨_, rfl, ?_⟩
  with_reducible repeat' first
    | assumption | apply State.advanceTo_keeps | apply bindSource_keeps | apply put_keeps | apply wr_keeps
    | apply ite_keeps

theorem execCoalesceRelease_keeps {u₀ s : State} (hk : Keeps u₀ s) (t : Dword) (c : Fin 16) :
    ∃ s', execCoalesceRelease t c s = .next s' ∧ Keeps u₀ s' := by
  unfold execCoalesceRelease
  refine ⟨_, rfl, ?_⟩
  with_reducible repeat' first
    | assumption | apply State.advanceTo_keeps | apply coalesceRelease_keeps | apply put_keeps | apply wr_keeps
    | apply ite_keeps

theorem execHostClaim_keeps {u₀ s : State} (hk : Keeps u₀ s) (t : Dword) :
    ∃ s', execHostClaim t s = .next s' ∧ Keeps u₀ s' := by
  unfold execHostClaim
  refine ⟨_, rfl, ?_⟩
  split
  · exact State.answer_keeps hk _
  · dsimp only
    with_reducible repeat' first
      | assumption | apply hostClaim_keeps | apply windowsCatch_keeps | apply State.advanceTo_keeps
      | apply State.answer_keeps

theorem execSourceMask_keeps {u₀ s : State} (hk : Keeps u₀ s) (req : Requester) (n : SourceIx) (value : Word) :
    ∃ s', execSourceMask req n value s = .next s' ∧ Keeps u₀ s' := by
  unfold execSourceMask
  refine ⟨_, rfl, ?_⟩
  with_reducible repeat' first
    | assumption | refine gated_keeps ?_ _ _ _ _ (fun _ _ _ => ?_) | apply srcCfgWrite_keeps | apply put_keeps
    | apply wr_keeps | apply ite_keeps

theorem execMaskWindowEnd_keeps {u₀ s : State} (hk : Keeps u₀ s) (t : Dword) (n : SourceIx) :
    ∃ s', execMaskWindowEnd t n s = .next s' ∧ Keeps u₀ s' := by
  unfold execMaskWindowEnd
  refine ⟨_, rfl, ?_⟩
  with_reducible repeat' first
    | assumption | apply State.advanceTo_keeps | apply maskWindowEnd_keeps | apply State.passEdges_keeps
    | apply put_keeps | apply wr_keeps | apply ite_keeps | refine each_keeps ?_ _ _ (fun _ _ _ => ?_)
    | (refine snd_keeps (by assumption) ?_) | (refine snd3_keeps (by assumption) ?_)
    | fail_if_no_progress apply upd_keeps | split

theorem execSourcePendClear_keeps {u₀ s : State} (hk : Keeps u₀ s) (req : Requester) (n : SourceIx) (value : Word) :
    ∃ s', execSourcePendClear req n value s = .next s' ∧ Keeps u₀ s' := by
  unfold execSourcePendClear
  refine ⟨_, rfl, ?_⟩
  with_reducible repeat' first
    | assumption | refine gated_keeps ?_ _ _ _ _ (fun _ _ _ => ?_) | apply srcStatWrite_keeps | apply put_keeps
    | apply wr_keeps | apply ite_keeps

theorem execGlobalDisable_keeps {u₀ s : State} (hk : Keeps u₀ s) (req : Requester) (value : Word) :
    ∃ s', execGlobalDisable req value s = .next s' ∧ Keeps u₀ s' := by
  unfold execGlobalDisable
  refine ⟨_, rfl, ?_⟩
  with_reducible repeat' first
    | assumption | refine gated_keeps ?_ _ _ _ _ (fun _ _ _ => ?_) | apply pstCtrlWrite_keeps

theorem execEdgeCaught_keeps {u₀ s : State} (hk : Keeps u₀ s) (t : Dword) (e : Fin 32) (rising : Bool) :
    ∃ s', execEdgeCaught t e rising s = .next s' ∧ Keeps u₀ s' := by
  unfold execEdgeCaught
  refine ⟨_, rfl, ?_⟩
  with_reducible repeat' first | assumption | apply edgeCaught_keeps | apply State.advanceTo_keeps

/-! ### Power -/

theorem execOpEnable_keeps {u₀ s : State} (hk : Keeps u₀ s) (req : Requester) (value : Word) :
    ∃ s', execOpEnable req value s = .next s' ∧ Keeps u₀ s' := by
  unfold execOpEnable
  refine ⟨_, rfl, ?_⟩
  with_reducible repeat' first
    | assumption | refine gated_keeps ?_ _ _ _ _ (fun _ _ _ => ?_) | apply pwrCtrlWrite_keeps

theorem execOpValidationDone_keeps {u₀ s : State} (hk : Keeps u₀ s) (t : Dword) :
    ∃ s', execOpValidationDone t s = .next s' ∧ Keeps u₀ s' := by
  unfold execOpValidationDone
  refine ⟨_, rfl, ?_⟩
  with_reducible repeat' first
    | assumption | refine State.running_keeps ?_ _ (fun _ _ => ?_) | apply opValidate_keeps
    | apply State.advanceTo_keeps

theorem execMoveUpComplete_keeps {u₀ s : State} (hk : Keeps u₀ s) (t : Dword) (n : RegionIx) :
    ∃ s', execMoveUpComplete t n s = .next s' ∧ Keeps u₀ s' := by
  unfold execMoveUpComplete
  refine ⟨_, rfl, ?_⟩
  with_reducible repeat' first
    | assumption | refine State.running_keeps ?_ _ (fun _ _ => ?_) | apply moveUpDone_keeps
    | apply State.advanceTo_keeps

theorem execFreqAck_keeps {u₀ s : State} (hk : Keeps u₀ s) (req : Requester) (n : RegionIx) (value : Word) :
    ∃ s', execFreqAck req n value s = .next s' ∧ Keeps u₀ s' := by
  unfold execFreqAck
  refine ⟨_, rfl, ?_⟩
  with_reducible repeat' first
    | assumption | refine gated_keeps ?_ _ _ _ _ (fun _ _ _ => ?_) | apply freqAck_keeps | apply put_keeps
    | apply wr_keeps | apply ite_keeps

theorem execFreqAckTimeout_keeps {u₀ s : State} (hk : Keeps u₀ s) (t : Dword) (n : RegionIx) :
    ∃ s', execFreqAckTimeout t n s = .next s' ∧ Keeps u₀ s' := by
  unfold execFreqAckTimeout
  refine ⟨_, rfl, ?_⟩
  with_reducible repeat' first
    | assumption | refine State.running_keeps ?_ _ (fun _ _ => ?_) | apply ackTimeout_keeps
    | apply State.advanceTo_keeps

theorem execPowerEstimate_keeps {u₀ s : State} (hk : Keeps u₀ s) (t : Dword) :
    ∃ s', execPowerEstimate t s = .next s' ∧ Keeps u₀ s' := by
  unfold execPowerEstimate
  refine ⟨_, rfl, ?_⟩
  with_reducible repeat' first
    | assumption | refine State.running_keeps ?_ _ (fun _ _ => ?_) | apply State.advanceTo_keeps
    | apply powerEstimate_keeps | apply put_keeps | apply wr_keeps | apply ite_keeps

theorem execCalibrationSnapshot_keeps {u₀ s : State} (hk : Keeps u₀ s) (t : Dword) :
    ∃ s', execCalibrationSnapshot t s = .next s' ∧ Keeps u₀ s' := by
  unfold execCalibrationSnapshot
  refine ⟨_, rfl, ?_⟩
  with_reducible repeat' first
    | assumption | refine State.running_keeps ?_ _ (fun _ _ => ?_) | apply State.advanceTo_keeps
    | apply calSnapshot_keeps | apply put_keeps | apply wr_keeps | apply ite_keeps

theorem execCoeffCommit_keeps {u₀ s : State} (hk : Keeps u₀ s) (req : Requester) (value : Word) :
    ∃ s', execCoeffCommit req value s = .next s' ∧ Keeps u₀ s' := by
  unfold execCoeffCommit
  refine ⟨_, rfl, ?_⟩
  with_reducible repeat' first | assumption | refine gated_keeps ?_ _ _ _ _ (fun _ _ _ => ?_) | apply storeReg_keeps

theorem execCoeffCommitApply_keeps {u₀ s : State} (hk : Keeps u₀ s) (t : Dword) :
    ∃ s', execCoeffCommitApply t s = .next s' ∧ Keeps u₀ s' := by
  unfold execCoeffCommitApply
  refine ⟨_, rfl, ?_⟩
  with_reducible repeat' first
    | assumption | refine State.running_keeps ?_ _ (fun _ _ => ?_) | apply State.advanceTo_keeps
    | apply coeffApply_keeps | apply put_keeps | apply wr_keeps | apply ite_keeps

theorem execCapWindowBoundary_keeps {u₀ s : State} (hk : Keeps u₀ s) (t : Dword) :
    ∃ s', execCapWindowBoundary t s = .next s' ∧ Keeps u₀ s' := by
  unfold execCapWindowBoundary
  refine ⟨_, rfl, ?_⟩
  with_reducible repeat' first
    | assumption | refine State.running_keeps ?_ _ (fun _ _ => ?_) | apply State.advanceTo_keeps
    | apply capBoundary_keeps | apply put_keeps | apply wr_keeps | apply ite_keeps

theorem execShareReport_keeps {u₀ s : State} (hk : Keeps u₀ s) (t : Dword) (k : Fin 4) (m : BitVec 16) :
    ∃ s', execShareReport t k m s = .next s' ∧ Keeps u₀ s' := by
  unfold execShareReport
  refine ⟨_, rfl, ?_⟩
  with_reducible repeat' first
    | assumption | refine State.running_keeps ?_ _ (fun _ _ => ?_) | apply shareReport_keeps
    | apply State.advanceTo_keeps

theorem execShareCompute_keeps {u₀ s : State} (hk : Keeps u₀ s) (t : Dword) :
    ∃ s', execShareCompute t s = .next s' ∧ Keeps u₀ s' := by
  unfold execShareCompute
  refine ⟨_, rfl, ?_⟩
  with_reducible repeat' first
    | assumption | refine State.running_keeps ?_ _ (fun _ _ => ?_) | apply shareCompute_keeps
    | apply State.advanceTo_keeps

theorem execShareReceive_keeps {u₀ s : State} (hk : Keeps u₀ s) (t : Dword) (share cap : BitVec 16) (pkg bmc : Word) (envEn : Bool) (pg : Fin 16) :
    ∃ s', execShareReceive t share cap pkg bmc envEn pg s = .next s' ∧ Keeps u₀ s' := by
  unfold execShareReceive
  refine ⟨_, rfl, ?_⟩
  with_reducible repeat' first
    | assumption | refine State.running_keeps ?_ _ (fun _ _ => ?_) | apply shareReceive_keeps
    | apply State.advanceTo_keeps

theorem execWaybillIntervalEnd_keeps {u₀ s : State} (hk : Keeps u₀ s) (t : Dword) (fail : Option (Fin 16)) :
    ∃ s', execWaybillIntervalEnd t fail s = .next s' ∧ Keeps u₀ s' := by
  unfold execWaybillIntervalEnd
  refine ⟨_, rfl, ?_⟩
  with_reducible repeat' first
    | assumption | refine State.running_keeps ?_ _ (fun _ _ => ?_) | apply State.advanceTo_keeps
    | apply waybillEnd_keeps | apply put_keeps | apply wr_keeps | apply ite_keeps

/-! ### Regions -/

theorem onRegion_keeps {u₀ s : State} (hk : Keeps u₀ s) (n : RegionIx) (f : State → State) (h_f : ∀ s, Keeps u₀ s → Keeps u₀ (f s)) :
    ∃ s', onRegion n f s = .next s' ∧ Keeps u₀ s' := by
  unfold onRegion
  refine ⟨_, rfl, ?_⟩
  with_reducible repeat' first | assumption | apply h_f | apply put_keeps | apply wr_keeps | apply ite_keeps

theorem execCfgCommit_keeps {u₀ s : State} (hk : Keeps u₀ s) (req : Requester) (value : Word) :
    ∃ s', execCfgCommit req value s = .next s' ∧ Keeps u₀ s' := by
  unfold execCfgCommit
  refine ⟨_, rfl, ?_⟩
  with_reducible repeat' first
    | assumption | refine gated_keeps ?_ _ _ _ _ (fun _ _ _ => ?_) | apply cfgCtrlWrite_keeps

theorem execCfgRevert_keeps {u₀ s : State} (hk : Keeps u₀ s) (req : Requester) (value : Word) :
    ∃ s', execCfgRevert req value s = .next s' ∧ Keeps u₀ s' := by
  unfold execCfgRevert
  refine ⟨_, rfl, ?_⟩
  with_reducible repeat' first
    | assumption | refine gated_keeps ?_ _ _ _ _ (fun _ _ _ => ?_) | apply cfgCtrlWrite_keeps

theorem execCommitValidationDone_keeps {u₀ s : State} (hk : Keeps u₀ s) :
    ∃ s', execCommitValidationDone s = .next s' ∧ Keeps u₀ s' := by
  unfold execCommitValidationDone
  refine ⟨_, rfl, ?_⟩
  with_reducible repeat' first
    | assumption | refine State.running_keeps ?_ _ (fun _ _ => ?_) | apply commitEnd_keeps | apply put_keeps
    | apply wr_keeps | apply ite_keeps | refine each_keeps ?_ _ _ (fun _ _ _ => ?_)
    | (refine snd_keeps (by assumption) ?_) | (refine snd3_keeps (by assumption) ?_)
    | fail_if_no_progress apply upd_keeps

theorem execCommitSafePoint_keeps {u₀ s : State} (hk : Keeps u₀ s) (t : Dword) :
    ∃ s', execCommitSafePoint t s = .next s' ∧ Keeps u₀ s' := by
  unfold execCommitSafePoint
  refine ⟨_, rfl, ?_⟩
  with_reducible repeat' first
    | assumption | refine State.working_keeps ?_ _ (fun _ _ => ?_) | apply commitEnd_keeps | apply commitApply_keeps
    | apply State.advanceTo_keeps | apply put_keeps | apply wr_keeps | apply ite_keeps

theorem execSafePointTimeout_keeps {u₀ s : State} (hk : Keeps u₀ s) (t : Dword) :
    ∃ s', execSafePointTimeout t s = .next s' ∧ Keeps u₀ s' := by
  unfold execSafePointTimeout
  refine ⟨_, rfl, ?_⟩
  with_reducible repeat' first
    | assumption | refine State.running_keeps ?_ _ (fun _ _ => ?_) | apply commitEnd_keeps
    | apply State.advanceTo_keeps | apply put_keeps | apply wr_keeps | apply ite_keeps
    | refine each_keeps ?_ _ _ (fun _ _ _ => ?_) | (refine snd_keeps (by assumption) ?_)
    | (refine snd3_keeps (by assumption) ?_) | fail_if_no_progress apply upd_keeps | split

theorem execCfgRevertDone_keeps {u₀ s : State} (hk : Keeps u₀ s) :
    ∃ s', execCfgRevertDone s = .next s' ∧ Keeps u₀ s' := by
  unfold execCfgRevertDone
  refine ⟨_, rfl, ?_⟩
  with_reducible repeat' first
    | assumption | refine State.running_keeps ?_ _ (fun _ _ => ?_) | apply revertApply_keeps | apply put_keeps
    | apply wr_keeps | apply ite_keeps | refine each_keeps ?_ _ _ (fun _ _ _ => ?_)
    | (refine snd_keeps (by assumption) ?_) | (refine snd3_keeps (by assumption) ?_)
    | fail_if_no_progress apply upd_keeps

theorem execRgnVsetWrite_keeps {u₀ s : State} (hk : Keeps u₀ s) (req : Requester) (n : RegionIx) (value : Word) :
    ∃ s', execRgnVsetWrite req n value s = .next s' ∧ Keeps u₀ s' := by
  unfold execRgnVsetWrite
  refine ⟨_, rfl, ?_⟩
  with_reducible repeat' first
    | assumption | refine gated_keeps ?_ _ _ _ _ (fun _ _ _ => ?_) | apply vsetWrite_keeps | apply put_keeps
    | apply wr_keeps | apply ite_keeps

theorem rgnCmdWrite_keeps {u₀ s : State} (hk : Keeps u₀ s) (req : Requester) (n op : Nat) :
    Keeps u₀ (rgnCmdWrite req n op s) := by
  unfold rgnCmdWrite
  with_reducible repeat' first
    | assumption | refine gated_keeps ?_ _ _ _ _ (fun _ _ _ => ?_) | apply reinAll_keeps | apply rgnCommand_keeps

theorem execRegionNop_keeps {u₀ s : State} (hk : Keeps u₀ s) (req : Requester) (n : RegionIx) :
    ∃ s', execRegionNop req n s = .next s' ∧ Keeps u₀ s' := by
  unfold execRegionNop
  refine ⟨_, rfl, ?_⟩
  with_reducible repeat' first
    | assumption | apply rgnCmdWrite_keeps | apply put_keeps | apply wr_keeps | apply ite_keeps

theorem execEnable_keeps {u₀ s : State} (hk : Keeps u₀ s) (req : Requester) (n : RegionIx) :
    ∃ s', execEnable req n s = .next s' ∧ Keeps u₀ s' := by
  unfold execEnable
  refine ⟨_, rfl, ?_⟩
  with_reducible repeat' first
    | assumption | apply rgnCmdWrite_keeps | apply put_keeps | apply wr_keeps | apply ite_keeps

theorem execDisable_keeps {u₀ s : State} (hk : Keeps u₀ s) (req : Requester) (n : RegionIx) :
    ∃ s', execDisable req n s = .next s' ∧ Keeps u₀ s' := by
  unfold execDisable
  refine ⟨_, rfl, ?_⟩
  with_reducible repeat' first
    | assumption | apply rgnCmdWrite_keeps | apply put_keeps | apply wr_keeps | apply ite_keeps

theorem execClearFault_keeps {u₀ s : State} (hk : Keeps u₀ s) (req : Requester) (n : RegionIx) :
    ∃ s', execClearFault req n s = .next s' ∧ Keeps u₀ s' := by
  unfold execClearFault
  refine ⟨_, rfl, ?_⟩
  with_reducible repeat' first
    | assumption | apply rgnCmdWrite_keeps | apply put_keeps | apply wr_keeps | apply ite_keeps

theorem execRegionCmdReserved_keeps {u₀ s : State} (hk : Keeps u₀ s) (req : Requester) (n : RegionIx) (op : BitVec 4) :
    ∃ s', execRegionCmdReserved req n op s = .next s' ∧ Keeps u₀ s' := by
  unfold execRegionCmdReserved
  refine ⟨_, rfl, ?_⟩
  with_reducible repeat' first
    | assumption | apply rgnCmdWrite_keeps | apply put_keeps | apply wr_keeps | apply ite_keeps

theorem execPendingEnableExecute_keeps {u₀ s : State} (hk : Keeps u₀ s) (t : Dword) (n : RegionIx) :
    ∃ s', execPendingEnableExecute t n s = .next s' ∧ Keeps u₀ s' := by
  unfold execPendingEnableExecute
  refine ⟨_, rfl, ?_⟩
  with_reducible repeat' first
    | assumption | refine State.working_keeps ?_ _ (fun _ _ => ?_) | apply rgnPendingTick_keeps
    | apply State.advanceTo_keeps | apply put_keeps | apply wr_keeps | apply ite_keeps

theorem execRampEnd_keeps {u₀ s : State} (hk : Keeps u₀ s) (t : Dword) (n : RegionIx) :
    ∃ s', execRampEnd t n s = .next s' ∧ Keeps u₀ s' := by
  unfold execRampEnd
  refine ⟨_, rfl, ?_⟩
  with_reducible repeat' first
    | assumption | refine State.working_keeps ?_ _ (fun _ _ => ?_) | apply rampEnd_keeps | apply State.advanceTo_keeps
    | apply put_keeps | apply wr_keeps | apply ite_keeps

theorem execRegionNoRise_keeps {u₀ s : State} (hk : Keeps u₀ s) (t : Dword) (n : RegionIx) :
    ∃ s', execRegionNoRise t n s = .next s' ∧ Keeps u₀ s' := by
  unfold execRegionNoRise
  refine ⟨_, rfl, ?_⟩
  with_reducible repeat' first
    | assumption | refine State.working_keeps ?_ _ (fun _ _ => ?_) | apply State.advanceTo_keeps
    | apply regionCause_keeps | apply put_keeps | apply wr_keeps | apply ite_keeps

theorem execRegionShort_keeps {u₀ s : State} (hk : Keeps u₀ s) (t : Dword) (n : RegionIx) :
    ∃ s', execRegionShort t n s = .next s' ∧ Keeps u₀ s' := by
  unfold execRegionShort
  refine ⟨_, rfl, ?_⟩
  with_reducible repeat' first
    | assumption | refine State.working_keeps ?_ _ (fun _ _ => ?_) | apply State.advanceTo_keeps
    | apply regionCause_keeps | apply put_keeps | apply wr_keeps | apply ite_keeps

theorem execRegionBlind_keeps {u₀ s : State} (hk : Keeps u₀ s) (t : Dword) (n : RegionIx) :
    ∃ s', execRegionBlind t n s = .next s' ∧ Keeps u₀ s' := by
  unfold execRegionBlind
  refine ⟨_, rfl, ?_⟩
  with_reducible repeat' first
    | assumption | refine State.working_keeps ?_ _ (fun _ _ => ?_) | apply State.advanceTo_keeps
    | apply regionCause_keeps | apply put_keeps | apply wr_keeps | apply ite_keeps

theorem execMinvClear_keeps {u₀ s : State} (hk : Keeps u₀ s) (req : Requester) (n : RegionIx) :
    ∃ s', execMinvClear req n s = .next s' ∧ Keeps u₀ s' := by
  unfold execMinvClear
  refine ⟨_, rfl, ?_⟩
  with_reducible repeat' first
    | assumption | refine gated_keeps ?_ _ _ _ _ (fun _ _ _ => ?_) | apply minvClear_keeps | apply put_keeps
    | apply wr_keeps | apply ite_keeps

theorem execMinvRead_keeps {u₀ s : State} (hk : Keeps u₀ s) (req : Requester) (n : RegionIx) :
    ∃ s', execMinvRead req n s = .next s' ∧ Keeps u₀ s' := by
  unfold execMinvRead
  refine ⟨_, rfl, ?_⟩
  with_reducible repeat' first
    | assumption | refine State.running_keeps ?_ _ (fun _ _ => ?_) | apply minvLatch_keeps | apply State.answer_keeps
    | apply put_keeps | apply wr_keeps | apply ite_keeps

theorem execMinvReplacement_keeps {u₀ s : State} (hk : Keeps u₀ s) (t : Dword) (n : RegionIx) (v : BitVec 11) (sensor : BitVec 14) :
    ∃ s', execMinvReplacement t n v sensor s = .next s' ∧ Keeps u₀ s' := by
  unfold execMinvReplacement
  refine ⟨_, rfl, ?_⟩
  with_reducible repeat' first
    | assumption | refine State.working_keeps ?_ _ (fun _ _ => ?_) | apply State.advanceTo_keeps
    | apply deliverValid_keeps | apply put_keeps | apply wr_keeps | apply ite_keeps

/-! ### Reset -/

theorem execPllEnable_keeps {u₀ s : State} (hk : Keeps u₀ s) (req : Requester) :
    ∃ s', execPllEnable req s = .next s' ∧ Keeps u₀ s' := by
  unfold execPllEnable
  refine ⟨_, rfl, ?_⟩
  with_reducible repeat' first
    | assumption | refine gated_keeps ?_ _ _ _ _ (fun _ _ _ => ?_) | apply timCtrlWrite_keeps

theorem execPllStop_keeps {u₀ s : State} (hk : Keeps u₀ s) (req : Requester) :
    ∃ s', execPllStop req s = .next s' ∧ Keeps u₀ s' := by
  unfold execPllStop
  refine ⟨_, rfl, ?_⟩
  with_reducible repeat' first
    | assumption | refine gated_keeps ?_ _ _ _ _ (fun _ _ _ => ?_) | apply timCtrlWrite_keeps

theorem execPllLock_keeps {u₀ s : State} (hk : Keeps u₀ s) (t : Dword) :
    ∃ s', execPllLock t s = .next s' ∧ Keeps u₀ s' := by
  unfold execPllLock
  refine ⟨_, rfl, ?_⟩
  with_reducible repeat' first | assumption | apply pllLock_keeps | apply State.advanceTo_keeps

theorem execLossOfLock_keeps {u₀ s : State} (hk : Keeps u₀ s) (t : Dword) (refAbsent : Bool) :
    ∃ s', execLossOfLock t refAbsent s = .next s' ∧ Keeps u₀ s' := by
  unfold execLossOfLock
  refine ⟨_, rfl, ?_⟩
  with_reducible repeat' first | assumption | apply lossOfLock_keeps | apply State.advanceTo_keeps

theorem execTsSlew_keeps {u₀ s : State} (hk : Keeps u₀ s) (req : Requester) (offset : BitVec 16) :
    ∃ s', execTsSlew req offset s = .next s' ∧ Keeps u₀ s' := by
  unfold execTsSlew
  refine ⟨_, rfl, ?_⟩
  with_reducible repeat' first | assumption | refine gated_keeps ?_ _ _ _ _ (fun _ _ _ => ?_) | apply tsAdjWrite_keeps

theorem execTsStep_keeps {u₀ s : State} (hk : Keeps u₀ s) (req : Requester) (offset : BitVec 16) :
    ∃ s', execTsStep req offset s = .next s' ∧ Keeps u₀ s' := by
  unfold execTsStep
  refine ⟨_, rfl, ?_⟩
  with_reducible repeat' first | assumption | refine gated_keeps ?_ _ _ _ _ (fun _ _ _ => ?_) | apply tsAdjWrite_keeps

theorem execSlewStep_keeps {u₀ s : State} (hk : Keeps u₀ s) :
    ∃ s', execSlewStep s = .next s' ∧ Keeps u₀ s' := by
  unfold execSlewStep
  refine ⟨_, rfl, ?_⟩
  with_reducible repeat' first | assumption | apply slewStep_keeps

theorem execCtrlPowerGood_keeps {u₀ s : State} (hk : Keeps u₀ s) (t : Dword) :
    ∃ s', execCtrlPowerGood t s = .next s' ∧ Keeps u₀ s' := by
  unfold execCtrlPowerGood
  refine ⟨_, rfl, ?_⟩
  with_reducible repeat' first | assumption | apply ctrlGood_keeps | apply State.advanceTo_keeps

theorem execCtrlPowerLoss_keeps {u₀ s : State} (hk : Keeps u₀ s) (t : Dword) :
    ∃ s', execCtrlPowerLoss t s = .next s' ∧ Keeps u₀ s' := by
  unfold execCtrlPowerLoss
  refine ⟨_, rfl, ?_⟩
  with_reducible repeat' first | assumption | apply ctrlLoss_keeps | apply State.advanceTo_keeps

theorem execReferenceAbsent_keeps {u₀ s : State} (hk : Keeps u₀ s) (t : Dword) :
    ∃ s', execReferenceAbsent t s = .next s' ∧ Keeps u₀ s' := by
  unfold execReferenceAbsent
  refine ⟨_, rfl, ?_⟩
  with_reducible repeat' first | assumption | apply referenceAbsent_keeps | apply State.advanceTo_keeps

theorem execReferenceReturn_keeps {u₀ s : State} (hk : Keeps u₀ s) (t : Dword) :
    ∃ s', execReferenceReturn t s = .next s' ∧ Keeps u₀ s' := by
  unfold execReferenceReturn
  refine ⟨_, rfl, ?_⟩
  with_reducible repeat' first | assumption | apply referenceReturn_keeps | apply State.advanceTo_keeps

theorem execPowerOnReset_keeps {u₀ s : State} (hk : Keeps u₀ s) (asel : Fin 4) :
    ∃ s', execPowerOnReset asel s = .next s' ∧ Keeps u₀ s' := by
  unfold execPowerOnReset
  refine ⟨_, rfl, ?_⟩
  with_reducible repeat' first | assumption | apply powerOnReset_keeps

theorem execPowerOnResetRelease_keeps {u₀ s : State} (hk : Keeps u₀ s) (t : Dword) :
    ∃ s', execPowerOnResetRelease t s = .next s' ∧ Keeps u₀ s' := by
  unfold execPowerOnResetRelease
  refine ⟨_, rfl, ?_⟩
  with_reducible repeat' first | assumption | apply releasePor_keeps | apply State.advanceTo_keeps

theorem execResetPin_keeps {u₀ s : State} (hk : Keeps u₀ s) (t : Dword) (low : Bool) :
    ∃ s', execResetPin t low s = .next s' ∧ Keeps u₀ s' := by
  unfold execResetPin
  refine ⟨_, rfl, ?_⟩
  with_reducible repeat' first
    | assumption | apply State.advanceTo_keeps | apply assertReset_keeps | apply noteCause_keeps | apply put_keeps
    | apply wr_keeps | apply ite_keeps | refine each_keeps ?_ _ _ (fun _ _ _ => ?_)
    | (refine snd_keeps (by assumption) ?_) | (refine snd3_keeps (by assumption) ?_)
    | fail_if_no_progress apply upd_keeps

theorem execSoftwareInstanceReset_keeps {u₀ s : State} (hk : Keeps u₀ s) (t : Dword) (req : Requester) :
    ∃ s', execSoftwareInstanceReset t req s = .next s' ∧ Keeps u₀ s' := by
  unfold execSoftwareInstanceReset
  refine ⟨_, rfl, ?_⟩
  with_reducible repeat' first
    | assumption | refine gated_keeps ?_ _ _ _ _ (fun _ _ _ => ?_) | apply holdRstWrite_keeps
    | apply State.advanceTo_keeps

theorem execSoftwareFirmwareReset_keeps {u₀ s : State} (hk : Keeps u₀ s) (t : Dword) (req : Requester) :
    ∃ s', execSoftwareFirmwareReset t req s = .next s' ∧ Keeps u₀ s' := by
  unfold execSoftwareFirmwareReset
  refine ⟨_, rfl, ?_⟩
  with_reducible repeat' first
    | assumption | refine gated_keeps ?_ _ _ _ _ (fun _ _ _ => ?_) | apply holdRstWrite_keeps
    | apply State.advanceTo_keeps

theorem execInstanceResetRelease_keeps {u₀ s : State} (hk : Keeps u₀ s) (t : Dword) :
    ∃ s', execInstanceResetRelease t s = .next s' ∧ Keeps u₀ s' := by
  unfold execInstanceResetRelease
  refine ⟨_, rfl, ?_⟩
  with_reducible repeat' first | assumption | apply releaseReset_keeps | apply State.advanceTo_keeps

theorem execBoundaryScanEnter_keeps {u₀ s : State} (hk : Keeps u₀ s) (e : ScanUpdate) :
    ∃ s', execBoundaryScanEnter e s = .next s' ∧ Keeps u₀ s' := by
  unfold execBoundaryScanEnter
  refine ⟨_, rfl, ?_⟩
  with_reducible repeat' first
    | assumption | apply assertReset_keeps | apply State.advanceTo_keeps | apply put_keeps | apply wr_keeps
    | apply ite_keeps | refine each_keeps ?_ _ _ (fun _ _ _ => ?_) | (refine snd_keeps (by assumption) ?_)
    | (refine snd3_keeps (by assumption) ?_) | fail_if_no_progress apply upd_keeps

theorem execBoundaryScanExit_keeps {u₀ s : State} (hk : Keeps u₀ s) (t : Dword) :
    ∃ s', execBoundaryScanExit t s = .next s' ∧ Keeps u₀ s' := by
  unfold execBoundaryScanExit
  refine ⟨_, rfl, ?_⟩
  with_reducible repeat' first
    | assumption | apply State.advanceTo_keeps | apply put_keeps | apply wr_keeps | apply ite_keeps
    | refine each_keeps ?_ _ _ (fun _ _ _ => ?_) | (refine snd_keeps (by assumption) ?_)
    | (refine snd3_keeps (by assumption) ?_) | fail_if_no_progress apply upd_keeps

/-! ### Sense -/

theorem execConversionComplete_keeps {u₀ s : State} (hk : Keeps u₀ s) (t : Dword) (k : Fin 4) (raw : BitVec 14) :
    ∃ s', execConversionComplete t k raw s = .next s' ∧ Keeps u₀ s' := by
  unfold execConversionComplete
  refine ⟨_, rfl, ?_⟩
  with_reducible repeat' first
    | assumption | refine State.running_keeps ?_ _ (fun _ _ => ?_) | apply convComplete_keeps | apply slotEnd_keeps
    | apply State.advanceTo_keeps

theorem execUrgentRequest_keeps {u₀ s : State} (hk : Keeps u₀ s) (req : Requester) (k : Fin 4) (ch : BitVec 6) :
    ∃ s', execUrgentRequest req k ch s = .next s' ∧ Keeps u₀ s' := by
  unfold execUrgentRequest
  refine ⟨_, rfl, ?_⟩
  with_reducible repeat' first
    | assumption | refine gated_keeps ?_ _ _ _ _ (fun _ _ _ => ?_) | apply urgentWrite_keeps

theorem execSnsRefWrite_keeps {u₀ s : State} (hk : Keeps u₀ s) (req : Requester) (k : Fin 4) (value : Word) :
    ∃ s', execSnsRefWrite req k value s = .next s' ∧ Keeps u₀ s' := by
  unfold execSnsRefWrite
  refine ⟨_, rfl, ?_⟩
  with_reducible repeat' first
    | assumption | refine gated_keeps ?_ _ _ _ _ (fun _ _ _ => ?_) | apply snsCfgWrite_keeps

theorem execRefSettled_keeps {u₀ s : State} (hk : Keeps u₀ s) (t : Dword) (k : Fin 4) :
    ∃ s', execRefSettled t k s = .next s' ∧ Keeps u₀ s' := by
  unfold execRefSettled
  refine ⟨_, rfl, ?_⟩
  with_reducible repeat' first
    | assumption | refine State.running_keeps ?_ _ (fun _ _ => ?_) | apply refSettled_keeps
    | apply State.advanceTo_keeps

theorem execPairFail_keeps {u₀ s : State} (hk : Keeps u₀ s) (t : Dword) (pair : Fin 2) :
    ∃ s', execPairFail t pair s = .next s' ∧ Keeps u₀ s' := by
  unfold execPairFail
  refine ⟨_, rfl, ?_⟩
  with_reducible repeat' first
    | assumption | refine State.running_keeps ?_ _ (fun _ _ => ?_) | apply pairFail_keeps
    | apply State.advanceTo_keeps

theorem execPairRecover_keeps {u₀ s : State} (hk : Keeps u₀ s) (t : Dword) (pair : Fin 2) :
    ∃ s', execPairRecover t pair s = .next s' ∧ Keeps u₀ s' := by
  unfold execPairRecover
  refine ⟨_, rfl, ?_⟩
  with_reducible repeat' first
    | assumption | refine State.running_keeps ?_ _ (fun _ _ => ?_) | apply pairRecover_keeps
    | apply State.advanceTo_keeps

theorem execWindowExit_keeps {u₀ s : State} (hk : Keeps u₀ s) (t : Dword) (w : Fin 64) :
    ∃ s', execWindowExit t w s = .next s' ∧ Keeps u₀ s' := by
  unfold execWindowExit
  refine ⟨_, rfl, ?_⟩
  with_reducible repeat' first
    | assumption | refine State.running_keeps ?_ _ (fun _ _ => ?_) | apply compExit_keeps
    | apply State.advanceTo_keeps

theorem execWindowReentry_keeps {u₀ s : State} (hk : Keeps u₀ s) (t : Dword) (w : Fin 64) :
    ∃ s', execWindowReentry t w s = .next s' ∧ Keeps u₀ s' := by
  unfold execWindowReentry
  refine ⟨_, rfl, ?_⟩
  with_reducible repeat' first
    | assumption | refine State.running_keeps ?_ _ (fun _ _ => ?_) | apply compReenter_keeps
    | apply State.advanceTo_keeps

theorem execWindowDutyEnd_keeps {u₀ s : State} (hk : Keeps u₀ s) (t : Dword) (w : Fin 64) :
    ∃ s', execWindowDutyEnd t w s = .next s' ∧ Keeps u₀ s' := by
  unfold execWindowDutyEnd
  refine ⟨_, rfl, ?_⟩
  with_reducible repeat' first
    | assumption | refine State.running_keeps ?_ _ (fun _ _ => ?_) | apply State.advanceTo_keeps | apply compTo_keeps

theorem execWindowConfigWrite_keeps {u₀ s : State} (hk : Keeps u₀ s) (req : Requester) (w : Fin 64) (band : Bool) (value : Word) :
    ∃ s', execWindowConfigWrite req w band value s = .next s' ∧ Keeps u₀ s' := by
  unfold execWindowConfigWrite
  refine ⟨_, rfl, ?_⟩
  with_reducible repeat' first | assumption | refine gated_keeps ?_ _ _ _ _ (fun _ _ _ => ?_) | apply compWrite_keeps

theorem execSnsPtCtlWrite_keeps {u₀ s : State} (hk : Keeps u₀ s) (req : Requester) (value : Word) :
    ∃ s', execSnsPtCtlWrite req value s = .next s' ∧ Keeps u₀ s' := by
  unfold execSnsPtCtlWrite
  refine ⟨_, rfl, ?_⟩
  with_reducible repeat' first
    | assumption | refine gated_keeps ?_ _ _ _ _ (fun _ _ _ => ?_) | apply testCurrentWrite_keeps

/-! ### Skid -/

theorem skidMinimum_keeps {u₀ s : State} (hk : Keeps u₀ s) (n v x cnt : Nat) :
    Keeps u₀ (skidMinimum n v x cnt s) := by
  unfold skidMinimum
  with_reducible repeat' first
    | assumption | apply deliverValid_keeps | apply put_keeps | apply wr_keeps | apply ite_keeps

theorem execSkidTrip_keeps {u₀ s : State} (hk : Keeps u₀ s) (t : Dword) (n : RegionIx) (v : Minimum) (cnt : Nat) :
    ∃ s', execSkidTrip t n v cnt s = .next s' ∧ Keeps u₀ s' := by
  unfold execSkidTrip
  refine ⟨_, rfl, ?_⟩
  with_reducible repeat' first
    | assumption | refine State.running_keeps ?_ _ (fun _ _ => ?_) | apply skidMinimum_keeps
    | apply State.advanceTo_keeps

theorem execSkidReleaseStep_keeps {u₀ s : State} (hk : Keeps u₀ s) (t : Dword) (n : RegionIx) (v : Minimum) (cnt : Nat) :
    ∃ s', execSkidReleaseStep t n v cnt s = .next s' ∧ Keeps u₀ s' := by
  unfold execSkidReleaseStep
  refine ⟨_, rfl, ?_⟩
  with_reducible repeat' first
    | assumption | refine State.running_keeps ?_ _ (fun _ _ => ?_) | apply skidMinimum_keeps
    | apply State.advanceTo_keeps

theorem execSkidWindowEnd_keeps {u₀ s : State} (hk : Keeps u₀ s) (t : Dword) (n : RegionIx) :
    ∃ s', execSkidWindowEnd t n s = .next s' ∧ Keeps u₀ s' := by
  unfold execSkidWindowEnd
  refine ⟨_, rfl, ?_⟩
  with_reducible repeat' first
    | assumption | refine State.running_keeps ?_ _ (fun _ _ => ?_) | apply reinAll_keeps | apply skidWindowTo_keeps
    | apply put_keeps | apply wr_keeps | apply ite_keeps

theorem execSkidEscalate_keeps {u₀ s : State} (hk : Keeps u₀ s) (t : Dword) (n : RegionIx) :
    ∃ s', execSkidEscalate t n s = .next s' ∧ Keeps u₀ s' := by
  unfold execSkidEscalate
  refine ⟨_, rfl, ?_⟩
  with_reducible repeat' first
    | assumption | refine State.running_keeps ?_ _ (fun _ _ => ?_) | apply reinAll_keeps | apply skidEscalate_keeps
    | apply State.advanceTo_keeps | apply put_keeps | apply wr_keeps | apply ite_keeps

theorem execSkidEscWrite_keeps {u₀ s : State} (hk : Keeps u₀ s) (req : Requester) (n : RegionIx) (value : Word) :
    ∃ s', execSkidEscWrite req n value s = .next s' ∧ Keeps u₀ s' := by
  unfold execSkidEscWrite
  refine ⟨_, rfl, ?_⟩
  with_reducible repeat' first
    | assumption | refine gated_keeps ?_ _ _ _ _ (fun _ _ _ => ?_) | apply reinAll_keeps | apply skidWrite_keeps
    | apply put_keeps | apply wr_keeps | apply ite_keeps

theorem execSkidWinWrite_keeps {u₀ s : State} (hk : Keeps u₀ s) (req : Requester) (n : RegionIx) (value : Word) :
    ∃ s', execSkidWinWrite req n value s = .next s' ∧ Keeps u₀ s' := by
  unfold execSkidWinWrite
  refine ⟨_, rfl, ?_⟩
  with_reducible repeat' first
    | assumption | refine gated_keeps ?_ _ _ _ _ (fun _ _ _ => ?_) | apply reinAll_keeps | apply skidWrite_keeps
    | apply put_keeps | apply wr_keeps | apply ite_keeps

theorem execSkidForceWrite_keeps {u₀ s : State} (hk : Keeps u₀ s) (req : Requester) (n : RegionIx) (value : Word) :
    ∃ s', execSkidForceWrite req n value s = .next s' ∧ Keeps u₀ s' := by
  unfold execSkidForceWrite
  refine ⟨_, rfl, ?_⟩
  with_reducible repeat' first
    | assumption | refine gated_keeps ?_ _ _ _ _ (fun _ _ _ => ?_) | apply skidWrite_keeps | apply put_keeps
    | apply wr_keeps | apply ite_keeps

/-! ### Telemetry -/

theorem execFreezeLocal_keeps {u₀ s : State} (hk : Keeps u₀ s) (req : Requester) (value : Word) :
    ∃ s', execFreezeLocal req value s = .next s' ∧ Keeps u₀ s' := by
  unfold execFreezeLocal
  refine ⟨_, rfl, ?_⟩
  with_reducible repeat' first
    | assumption | refine gated_keeps ?_ _ _ _ _ (fun _ _ _ => ?_) | apply frzCtrlWrite_keeps

theorem execFreezeArm_keeps {u₀ s : State} (hk : Keeps u₀ s) (req : Requester) (value : Word) :
    ∃ s', execFreezeArm req value s = .next s' ∧ Keeps u₀ s' := by
  unfold execFreezeArm
  refine ⟨_, rfl, ?_⟩
  with_reducible repeat' first
    | assumption | refine gated_keeps ?_ _ _ _ _ (fun _ _ _ => ?_) | apply frzCtrlWrite_keeps

theorem execFreezeDisarm_keeps {u₀ s : State} (hk : Keeps u₀ s) (req : Requester) (value : Word) :
    ∃ s', execFreezeDisarm req value s = .next s' ∧ Keeps u₀ s' := by
  unfold execFreezeDisarm
  refine ⟨_, rfl, ?_⟩
  with_reducible repeat' first
    | assumption | refine gated_keeps ?_ _ _ _ _ (fun _ _ _ => ?_) | apply frzCtrlWrite_keeps

theorem execFreezeTimedCapture_keeps {u₀ s : State} (hk : Keeps u₀ s) (t : Dword) :
    ∃ s', execFreezeTimedCapture t s = .next s' ∧ Keeps u₀ s' := by
  unfold execFreezeTimedCapture
  refine ⟨_, rfl, ?_⟩
  with_reducible repeat' first
    | assumption | refine State.running_keeps ?_ _ (fun _ _ => ?_) | apply freezeTimed_keeps | apply armedTo_keeps
    | apply State.advanceTo_keeps

theorem execFreezeUnloadDone_keeps {u₀ s : State} (hk : Keeps u₀ s) (t : Dword) :
    ∃ s', execFreezeUnloadDone t s = .next s' ∧ Keeps u₀ s' := by
  unfold execFreezeUnloadDone
  refine ⟨_, rfl, ?_⟩
  with_reducible repeat' first
    | assumption | refine State.running_keeps ?_ _ (fun _ _ => ?_) | apply freezeUnloaded_keeps | apply unloadTo_keeps
    | apply State.advanceTo_keeps

theorem execRingExportDone_keeps {u₀ s : State} (hk : Keeps u₀ s) (t : Dword) (fail : Option (Fin 80 × Fin 1024)) :
    ∃ s', execRingExportDone t fail s = .next s' ∧ Keeps u₀ s' := by
  unfold execRingExportDone
  refine ⟨_, rfl, ?_⟩
  with_reducible repeat' first
    | assumption | refine State.running_keeps ?_ _ (fun _ _ => ?_) | apply ringExport_keeps
    | apply State.advanceTo_keeps

theorem execTraceExportStart_keeps {u₀ s : State} (hk : Keeps u₀ s) (req : Requester) (value : Word) :
    ∃ s', execTraceExportStart req value s = .next s' ∧ Keeps u₀ s' := by
  unfold execTraceExportStart
  refine ⟨_, rfl, ?_⟩
  with_reducible repeat' first | assumption | refine gated_keeps ?_ _ _ _ _ (fun _ _ _ => ?_) | apply trxWrite_keeps

theorem execTraceExportDone_keeps {u₀ s : State} (hk : Keeps u₀ s) (t : Dword) (fail : Option (BitVec 19)) :
    ∃ s', execTraceExportDone t fail s = .next s' ∧ Keeps u₀ s' := by
  unfold execTraceExportDone
  refine ⟨_, rfl, ?_⟩
  with_reducible repeat' first
    | assumption | refine State.running_keeps ?_ _ (fun _ _ => ?_) | apply traceExported_keeps
    | apply State.advanceTo_keeps

theorem execAgeWindowEnd_keeps {u₀ s : State} (hk : Keeps u₀ s) (t : Dword) (ties : List (Fin 4)) :
    ∃ s', execAgeWindowEnd t ties s = .next s' ∧ Keeps u₀ s' := by
  unfold execAgeWindowEnd
  refine ⟨_, rfl, ?_⟩
  with_reducible repeat' first
    | assumption | refine State.running_keeps ?_ _ (fun _ _ => ?_) | apply ageWindowEnd_keeps | apply ageTo_keeps
    | apply State.advanceTo_keeps

theorem execEolWrite_keeps {u₀ s : State} (hk : Keeps u₀ s) (req : Requester) (region : Bool) (ix : CellIx) (value : Word) :
    ∃ s', execEolWrite req region ix value s = .next s' ∧ Keeps u₀ s' := by
  unfold execEolWrite
  refine ⟨_, rfl, ?_⟩
  with_reducible repeat' first
    | assumption | refine gated_keeps ?_ _ _ _ _ (fun _ _ _ => ?_) | apply eolWrite_keeps | apply put_keeps
    | apply wr_keeps | apply ite_keeps

theorem execEpochBoundary_keeps {u₀ s : State} (hk : Keeps u₀ s) (t : Dword) :
    ∃ s', execEpochBoundary t s = .next s' ∧ Keeps u₀ s' := by
  unfold execEpochBoundary
  refine ⟨_, rfl, ?_⟩
  with_reducible repeat' first
    | assumption | refine State.working_keeps ?_ _ (fun _ _ => ?_) | apply State.advanceTo_keeps
    | apply epochBoundary_keeps | apply put_keeps | apply wr_keeps | apply ite_keeps

/-! ### Thermal -/

theorem execThermalGuard_keeps {u₀ s : State} (hk : Keeps u₀ s) (t : Dword) :
    ∃ s', execThermalGuard t s = .next s' ∧ Keeps u₀ s' := by
  unfold execThermalGuard
  refine ⟨_, rfl, ?_⟩
  with_reducible repeat' first
    | assumption | refine State.running_keeps ?_ _ (fun _ _ => ?_) | apply thmGuard_keeps
    | apply State.advanceTo_keeps

theorem execThermalDemand_keeps {u₀ s : State} (hk : Keeps u₀ s) (req : Requester) (hi : Bool) (value : Word) :
    ∃ s', execThermalDemand req hi value s = .next s' ∧ Keeps u₀ s' := by
  unfold execThermalDemand
  refine ⟨_, rfl, ?_⟩
  with_reducible repeat' first
    | assumption | refine gated_keeps ?_ _ _ _ _ (fun _ _ _ => ?_) | apply thmDemWrite_keeps

theorem execThermalMeasurement_keeps {u₀ s : State} (hk : Keeps u₀ s) (t : Dword) (q : GroupIx) (count : Option (BitVec 32 × BitVec 16)) :
    ∃ s', execThermalMeasurement t q count s = .next s' ∧ Keeps u₀ s' := by
  unfold execThermalMeasurement
  refine ⟨_, rfl, ?_⟩
  with_reducible repeat' first
    | assumption | refine State.running_keeps ?_ _ (fun _ _ => ?_) | apply thmMeasure_keeps | apply thmMeasureTo_keeps
    | apply State.advanceTo_keeps

theorem execSweepEnd_keeps {u₀ s : State} (hk : Keeps u₀ s) (t : Dword) (q : GroupIx) :
    ∃ s', execSweepEnd t q s = .next s' ∧ Keeps u₀ s' := by
  unfold execSweepEnd
  refine ⟨_, rfl, ?_⟩
  with_reducible repeat' first
    | assumption | refine State.working_keeps ?_ _ (fun _ _ => ?_) | apply thmSweepEnd_keeps
    | apply State.advanceTo_keeps

theorem execThermalSensorExclWrite_keeps {u₀ s : State} (hk : Keeps u₀ s) (req : Requester) (x : Fin 512) (value : Word) :
    ∃ s', execThermalSensorExclWrite req x value s = .next s' ∧ Keeps u₀ s' := by
  unfold execThermalSensorExclWrite
  refine ⟨_, rfl, ?_⟩
  with_reducible repeat' first
    | assumption | refine gated_keeps ?_ _ _ _ _ (fun _ _ _ => ?_) | apply thmSctlWrite_keeps

theorem execDieDrained_keeps {u₀ s : State} (hk : Keeps u₀ s) (t : Dword) :
    ∃ s', execDieDrained t s = .next s' ∧ Keeps u₀ s' := by
  unfold execDieDrained
  refine ⟨_, rfl, ?_⟩
  with_reducible repeat' first
    | assumption | refine State.working_keeps ?_ _ (fun _ _ => ?_) | apply State.advanceTo_keeps
    | apply thmDrained_keeps | apply drainTo_keeps | apply put_keeps | apply wr_keeps | apply ite_keeps

theorem execThermalDown_keeps {u₀ s : State} (hk : Keeps u₀ s) (t : Dword) :
    ∃ s', execThermalDown t s = .next s' ∧ Keeps u₀ s' := by
  unfold execThermalDown
  refine ⟨_, rfl, ?_⟩
  with_reducible repeat' first
    | assumption | refine State.working_keeps ?_ _ (fun _ _ => ?_) | apply thmDown_keeps | apply State.advanceTo_keeps

theorem execThermalHardTimeout_keeps {u₀ s : State} (hk : Keeps u₀ s) (t : Dword) :
    ∃ s', execThermalHardTimeout t s = .next s' ∧ Keeps u₀ s' := by
  unfold execThermalHardTimeout
  refine ⟨_, rfl, ?_⟩
  with_reducible repeat' first
    | assumption | refine State.working_keeps ?_ _ (fun _ _ => ?_) | apply thmTimeout_keeps
    | apply State.advanceTo_keeps

theorem execThermalClear_keeps {u₀ s : State} (hk : Keeps u₀ s) (req : Requester) (value : Word) :
    ∃ s', execThermalClear req value s = .next s' ∧ Keeps u₀ s' := by
  unfold execThermalClear
  refine ⟨_, rfl, ?_⟩
  with_reducible repeat' first
    | assumption | refine gated_keeps ?_ _ _ _ _ (fun _ _ _ => ?_) | apply thmCtrlWrite_keeps

/-! ### Tick -/

theorem execBaseTick_keeps {u₀ s : State} (hk : Keeps u₀ s) (t : Dword) (x : TickSamples) :
    ∃ s', execBaseTick t x s = .next s' ∧ Keeps u₀ s' := by
  unfold execBaseTick
  refine ⟨_, rfl, ?_⟩
  with_reducible repeat' first | assumption | apply baseTick_keeps

/-! ### Yutre -/

theorem execYutreUnknownOpcode_keeps {u s : State} (h : Keeps u s) (m : YMsg) (op : BitVec 16) :
    ∃ s', execYutreUnknownOpcode m op s = .next s' ∧ Keeps u s' :=
  ⟨_, rfl, ite_keeps h (yutre_keeps h _ _ _ fun _ hs => hs)⟩

theorem execGetVersion_keeps {u₀ s : State} (hk : Keeps u₀ s) (m : YMsg) :
    ∃ s', execGetVersion m s = .next s' ∧ Keeps u₀ s' := by
  unfold execGetVersion
  refine ⟨_, rfl, ?_⟩
  with_reducible repeat' first
    | assumption | refine yutre_keeps ?_ _ _ _ (fun _ _ => ?_) | apply schReads_keeps | apply State.reply_keeps

theorem execGetStatus_keeps {u₀ s : State} (hk : Keeps u₀ s) (m : YMsg) :
    ∃ s', execGetStatus m s = .next s' ∧ Keeps u₀ s' := by
  unfold execGetStatus
  refine ⟨_, rfl, ?_⟩
  with_reducible repeat' first | assumption | refine yutre_keeps ?_ _ _ _ (fun _ _ => ?_) | apply schReply_keeps

theorem execReadReg_keeps {u₀ s : State} (hk : Keeps u₀ s) (m : YMsg) :
    ∃ s', execReadReg m s = .next s' ∧ Keeps u₀ s' := by
  unfold execReadReg
  refine ⟨_, rfl, ?_⟩
  with_reducible repeat' first | assumption | refine yutre_keeps ?_ _ _ _ (fun _ _ => ?_) | apply yReadReg_keeps

theorem execWriteReg_keeps {u₀ s : State} (hk : Keeps u₀ s) (m : YMsg) :
    ∃ s', execWriteReg m s = .next s' ∧ Keeps u₀ s' := by
  unfold execWriteReg
  refine ⟨_, rfl, ?_⟩
  with_reducible repeat' first | assumption | refine yutre_keeps ?_ _ _ _ (fun _ _ => ?_) | apply yWriteReg_keeps

theorem execRegionCmd_keeps {u₀ s : State} (hk : Keeps u₀ s) (m : YMsg) :
    ∃ s', execRegionCmd m s = .next s' ∧ Keeps u₀ s' := by
  unfold execRegionCmd
  refine ⟨_, rfl, ?_⟩
  with_reducible repeat' first | assumption | refine yutre_keeps ?_ _ _ _ (fun _ _ => ?_) | apply yRegionCmd_keeps

theorem execFrontCmd_keeps {u₀ s : State} (hk : Keeps u₀ s) (m : YMsg) :
    ∃ s', execFrontCmd m s = .next s' ∧ Keeps u₀ s' := by
  unfold execFrontCmd
  refine ⟨_, rfl, ?_⟩
  with_reducible repeat' first | assumption | refine yutre_keeps ?_ _ _ _ (fun _ _ => ?_) | apply yFrontCmd_keeps

theorem execConfig_keeps {u₀ s : State} (hk : Keeps u₀ s) (m : YMsg) :
    ∃ s', execConfig m s = .next s' ∧ Keeps u₀ s' := by
  unfold execConfig
  refine ⟨_, rfl, ?_⟩
  with_reducible repeat' first | assumption | refine yutre_keeps ?_ _ _ _ (fun _ _ => ?_) | apply yConfig_keeps

theorem execGetPolicy_keeps {u₀ s : State} (hk : Keeps u₀ s) (m : YMsg) :
    ∃ s', execGetPolicy m s = .next s' ∧ Keeps u₀ s' := by
  unfold execGetPolicy
  refine ⟨_, rfl, ?_⟩
  with_reducible repeat' first | assumption | refine yutre_keeps ?_ _ _ _ (fun _ _ => ?_) | apply schReply_keeps

theorem execSetPkgCap_keeps {u₀ s : State} (hk : Keeps u₀ s) (m : YMsg) :
    ∃ s', execSetPkgCap m s = .next s' ∧ Keeps u₀ s' := by
  unfold execSetPkgCap
  refine ⟨_, rfl, ?_⟩
  with_reducible repeat' first | assumption | refine yutre_keeps ?_ _ _ _ (fun _ _ => ?_) | apply ySetPkgCap_keeps

theorem execSetOp_keeps {u₀ s : State} (hk : Keeps u₀ s) (m : YMsg) :
    ∃ s', execSetOp m s = .next s' ∧ Keeps u₀ s' := by
  unfold execSetOp
  refine ⟨_, rfl, ?_⟩
  with_reducible repeat' first | assumption | refine yutre_keeps ?_ _ _ _ (fun _ _ => ?_) | apply ySetOp_keeps

theorem execSetLegPref_keeps {u₀ s : State} (hk : Keeps u₀ s) (m : YMsg) :
    ∃ s', execSetLegPref m s = .next s' ∧ Keeps u₀ s' := by
  unfold execSetLegPref
  refine ⟨_, rfl, ?_⟩
  with_reducible repeat' first | assumption | refine yutre_keeps ?_ _ _ _ (fun _ _ => ?_) | apply ySetLegPref_keeps

theorem execSetMode_keeps {u₀ s : State} (hk : Keeps u₀ s) (m : YMsg) :
    ∃ s', execSetMode m s = .next s' ∧ Keeps u₀ s' := by
  unfold execSetMode
  refine ⟨_, rfl, ?_⟩
  with_reducible repeat' first | assumption | refine yutre_keeps ?_ _ _ _ (fun _ _ => ?_) | apply ySetMode_keeps

theorem execGetRegion_keeps {u₀ s : State} (hk : Keeps u₀ s) (m : YMsg) :
    ∃ s', execGetRegion m s = .next s' ∧ Keeps u₀ s' := by
  unfold execGetRegion
  refine ⟨_, rfl, ?_⟩
  with_reducible repeat' first | assumption | refine yutre_keeps ?_ _ _ _ (fun _ _ => ?_) | apply yGetRegion_keeps

theorem execLoadProgram_keeps {u₀ s : State} (hk : Keeps u₀ s) (m : YMsg) (data : List Word) (ok : Bool) :
    ∃ s', execLoadProgram m data ok s = .next s' ∧ Keeps u₀ s' := by
  unfold execLoadProgram
  refine ⟨_, rfl, ?_⟩
  with_reducible repeat' first | assumption | refine yutre_keeps ?_ _ _ _ (fun _ _ => ?_) | apply yLoadProgram_keeps

theorem execLoadRset_keeps {u₀ s : State} (hk : Keeps u₀ s) (m : YMsg) (data : Option (List Word)) :
    ∃ s', execLoadRset m data s = .next s' ∧ Keeps u₀ s' := by
  unfold execLoadRset
  refine ⟨_, rfl, ?_⟩
  with_reducible repeat' first | assumption | refine yutre_keeps ?_ _ _ _ (fun _ _ => ?_) | apply yLoadRset_keeps

theorem execLoadWeights_keeps {u₀ s : State} (hk : Keeps u₀ s) (m : YMsg) (data : Option (List Word)) :
    ∃ s', execLoadWeights m data s = .next s' ∧ Keeps u₀ s' := by
  unfold execLoadWeights
  refine ⟨_, rfl, ?_⟩
  with_reducible repeat' first | assumption | refine yutre_keeps ?_ _ _ _ (fun _ _ => ?_) | apply yLoadWeights_keeps

theorem execForecastCtl_keeps {u₀ s : State} (hk : Keeps u₀ s) (m : YMsg) :
    ∃ s', execForecastCtl m s = .next s' ∧ Keeps u₀ s' := by
  unfold execForecastCtl
  refine ⟨_, rfl, ?_⟩
  with_reducible repeat' first | assumption | refine yutre_keeps ?_ _ _ _ (fun _ _ => ?_) | apply yForecastCtl_keeps

theorem execGetForecast_keeps {u₀ s : State} (hk : Keeps u₀ s) (m : YMsg) :
    ∃ s', execGetForecast m s = .next s' ∧ Keeps u₀ s' := by
  unfold execGetForecast
  refine ⟨_, rfl, ?_⟩
  with_reducible repeat' first | assumption | refine yutre_keeps ?_ _ _ _ (fun _ _ => ?_) | apply schReply_keeps

theorem execGetCoupler_keeps {u₀ s : State} (hk : Keeps u₀ s) (m : YMsg) :
    ∃ s', execGetCoupler m s = .next s' ∧ Keeps u₀ s' := by
  unfold execGetCoupler
  refine ⟨_, rfl, ?_⟩
  with_reducible repeat' first | assumption | refine yutre_keeps ?_ _ _ _ (fun _ _ => ?_) | apply schReply_keeps

theorem execSetTree_keeps {u₀ s : State} (hk : Keeps u₀ s) (m : YMsg) :
    ∃ s', execSetTree m s = .next s' ∧ Keeps u₀ s' := by
  unfold execSetTree
  refine ⟨_, rfl, ?_⟩
  with_reducible repeat' first | assumption | refine yutre_keeps ?_ _ _ _ (fun _ _ => ?_) | apply ySetTree_keeps

theorem execSetGroup_keeps {u₀ s : State} (hk : Keeps u₀ s) (m : YMsg) :
    ∃ s', execSetGroup m s = .next s' ∧ Keeps u₀ s' := by
  unfold execSetGroup
  refine ⟨_, rfl, ?_⟩
  with_reducible repeat' first | assumption | refine yutre_keeps ?_ _ _ _ (fun _ _ => ?_) | apply ySetGroup_keeps

theorem execEnvPoint_keeps {u₀ s : State} (hk : Keeps u₀ s) (m : YMsg) :
    ∃ s', execEnvPoint m s = .next s' ∧ Keeps u₀ s' := by
  unfold execEnvPoint
  refine ⟨_, rfl, ?_⟩
  with_reducible repeat' first | assumption | refine yutre_keeps ?_ _ _ _ (fun _ _ => ?_) | apply yEnvPoint_keeps

theorem execSetEnv_keeps {u₀ s : State} (hk : Keeps u₀ s) (m : YMsg) :
    ∃ s', execSetEnv m s = .next s' ∧ Keeps u₀ s' := by
  unfold execSetEnv
  refine ⟨_, rfl, ?_⟩
  with_reducible repeat' first | assumption | refine yutre_keeps ?_ _ _ _ (fun _ _ => ?_) | apply ySetEnv_keeps

theorem execEmcap_keeps {u₀ s : State} (hk : Keeps u₀ s) (m : YMsg) :
    ∃ s', execEmcap m s = .next s' ∧ Keeps u₀ s' := by
  unfold execEmcap
  refine ⟨_, rfl, ?_⟩
  with_reducible repeat' first | assumption | refine yutre_keeps ?_ _ _ _ (fun _ _ => ?_) | apply yEmcap_keeps

theorem execGetGroup_keeps {u₀ s : State} (hk : Keeps u₀ s) (m : YMsg) :
    ∃ s', execGetGroup m s = .next s' ∧ Keeps u₀ s' := by
  unfold execGetGroup
  refine ⟨_, rfl, ?_⟩
  with_reducible repeat' first | assumption | refine yutre_keeps ?_ _ _ _ (fun _ _ => ?_) | apply yGetGroup_keeps

theorem execSetJob_keeps {u₀ s : State} (hk : Keeps u₀ s) (m : YMsg) :
    ∃ s', execSetJob m s = .next s' ∧ Keeps u₀ s' := by
  unfold execSetJob
  refine ⟨_, rfl, ?_⟩
  with_reducible repeat' first | assumption | refine yutre_keeps ?_ _ _ _ (fun _ _ => ?_) | apply ySetJob_keeps

theorem execSetGroups_keeps {u₀ s : State} (hk : Keeps u₀ s) (m : YMsg) :
    ∃ s', execSetGroups m s = .next s' ∧ Keeps u₀ s' := by
  unfold execSetGroups
  refine ⟨_, rfl, ?_⟩
  with_reducible repeat' first | assumption | refine yutre_keeps ?_ _ _ _ (fun _ _ => ?_) | apply ySetGroups_keeps

theorem execWaybillRing_keeps {u₀ s : State} (hk : Keeps u₀ s) (m : YMsg) :
    ∃ s', execWaybillRing m s = .next s' ∧ Keeps u₀ s' := by
  unfold execWaybillRing
  refine ⟨_, rfl, ?_⟩
  with_reducible repeat' first | assumption | refine yutre_keeps ?_ _ _ _ (fun _ _ => ?_) | apply yWaybillRing_keeps

theorem execGetJob_keeps {u₀ s : State} (hk : Keeps u₀ s) (m : YMsg) :
    ∃ s', execGetJob m s = .next s' ∧ Keeps u₀ s' := by
  unfold execGetJob
  refine ⟨_, rfl, ?_⟩
  with_reducible repeat' first | assumption | refine yutre_keeps ?_ _ _ _ (fun _ _ => ?_) | apply yGetJob_keeps

theorem execFreeze_keeps {u₀ s : State} (hk : Keeps u₀ s) (m : YMsg) :
    ∃ s', execFreeze m s = .next s' ∧ Keeps u₀ s' := by
  unfold execFreeze
  refine ⟨_, rfl, ?_⟩
  with_reducible repeat' first | assumption | refine yutre_keeps ?_ _ _ _ (fun _ _ => ?_) | apply yFreeze_keeps

theorem execTlmRing_keeps {u₀ s : State} (hk : Keeps u₀ s) (m : YMsg) :
    ∃ s', execTlmRing m s = .next s' ∧ Keeps u₀ s' := by
  unfold execTlmRing
  refine ⟨_, rfl, ?_⟩
  with_reducible repeat' first | assumption | refine yutre_keeps ?_ _ _ _ (fun _ _ => ?_) | apply yTlmRing_keeps

theorem execTraceExport_keeps {u₀ s : State} (hk : Keeps u₀ s) (m : YMsg) :
    ∃ s', execTraceExport m s = .next s' ∧ Keeps u₀ s' := by
  unfold execTraceExport
  refine ⟨_, rfl, ?_⟩
  with_reducible repeat' first | assumption | refine yutre_keeps ?_ _ _ _ (fun _ _ => ?_) | apply yTraceExport_keeps

theorem execGetAge_keeps {u₀ s : State} (hk : Keeps u₀ s) (m : YMsg) :
    ∃ s', execGetAge m s = .next s' ∧ Keeps u₀ s' := by
  unfold execGetAge
  refine ⟨_, rfl, ?_⟩
  with_reducible repeat' first | assumption | refine yutre_keeps ?_ _ _ _ (fun _ _ => ?_) | apply yGetAge_keeps

theorem execCbseForce_keeps {u₀ s : State} (hk : Keeps u₀ s) (m : YMsg) :
    ∃ s', execCbseForce m s = .next s' ∧ Keeps u₀ s' := by
  unfold execCbseForce
  refine ⟨_, rfl, ?_⟩
  with_reducible repeat' first
    | assumption | refine yutre_keeps ?_ _ _ _ (fun _ _ => ?_) | apply schReply_keeps | apply schWrites_keeps

theorem execCellTest_keeps {u₀ s : State} (hk : Keeps u₀ s) (m : YMsg) (result : Option TestResult) :
    ∃ s', execCellTest m result s = .next s' ∧ Keeps u₀ s' := by
  unfold execCellTest
  refine ⟨_, rfl, ?_⟩
  with_reducible repeat' first | assumption | refine yutre_keeps ?_ _ _ _ (fun _ _ => ?_) | apply yCellTest_keeps

theorem execSkidForce_keeps {u₀ s : State} (hk : Keeps u₀ s) (m : YMsg) :
    ∃ s', execSkidForce m s = .next s' ∧ Keeps u₀ s' := by
  unfold execSkidForce
  refine ⟨_, rfl, ?_⟩
  with_reducible repeat' first | assumption | refine yutre_keeps ?_ _ _ _ (fun _ _ => ?_) | apply ySkidForce_keeps

theorem execTraceArm_keeps {u₀ s : State} (hk : Keeps u₀ s) (m : YMsg) :
    ∃ s', execTraceArm m s = .next s' ∧ Keeps u₀ s' := by
  unfold execTraceArm
  refine ⟨_, rfl, ?_⟩
  with_reducible repeat' first | assumption | refine yutre_keeps ?_ _ _ _ (fun _ _ => ?_) | apply yTraceArm_keeps

theorem execSnsUrgent_keeps {u₀ s : State} (hk : Keeps u₀ s) (m : YMsg) (raw : Option (BitVec 14)) :
    ∃ s', execSnsUrgent m raw s = .next s' ∧ Keeps u₀ s' := by
  unfold execSnsUrgent
  refine ⟨_, rfl, ?_⟩
  with_reducible repeat' first | assumption | refine yutre_keeps ?_ _ _ _ (fun _ _ => ?_) | apply ySnsUrgent_keeps

end Sys2Proof.Machine
end

