-- ==== Sys2Proof/Laws/Resets.lean ====
section
/-! SUPPORT. Laws/Resets.lean: what every register reads after an instance reset and after a power-on reset. -/

namespace Sys2Proof.Machine

/-- An instance reset keeps the registers of power-on reset and gives every other its reset word. -/
theorem resetWindow_rd (s : State) (a : Nat) :
    (resetWindow s).rd a = if keptByInstanceReset a then s.rd a else regReset a := mapGet_filter _ _ keptByInstanceReset a

theorem each_rd {α : Type} (s : State) (l : List α) (f : State → α → State) (a : Nat)
    (h : ∀ s x, (f s x).rd a = s.rd a) : (s.each l f).rd a = s.rd a := by
  unfold State.each
  induction l generalizing s with
  | nil => rfl
  | cons x l ih => rw [List.foldl_cons, ih, h]

/-- The eFuse load writes the converters' and the thermal sensors' trims alone. -/
theorem loadEfuse_rd (s : State) (a : Nat) (h1 : ∀ k < 4, a ≠ SNS_TRIM k) (h2 : ∀ k < 512, a ≠ THM_SCTL k) :
    (loadEfuse s).rd a = s.rd a := by
  unfold loadEfuse
  rw [each_rd, each_rd]
  · intro s x
    split
    · rename_i h; exact State.rd_wr_other _ _ _ _ (h1 _ h)
    · rfl
  · intro s x
    split
    · rename_i h; exact State.rd_put_other _ _ _ _ (h2 _ h)
    · rfl

/-- What a register reads after instance reset is asserted. -/
theorem assertReset_rd (s : State) (a : Nat) (hi : s.rst.inst = false) (h1 : ∀ k < 4, a ≠ SNS_TRIM k)
    (h2 : ∀ k < 512, a ≠ THM_SCTL k) (h3 : a ≠ CBSE_FIRST) :
    (assertReset s).rd a = if keptByInstanceReset a then s.rd a else regReset a := by
  unfold assertReset
  rw [if_neg (by simp [hi])]
  refine Eq.trans (b := (loadEfuse _).rd a) rfl ?_
  rw [loadEfuse_rd _ _ h1 h2]
  show (((resetCtrl s).put CBSE_FIRST.PRIOR 1).put CBSE_FIRST.OPEN 0).rd a = _
  rw [State.rd_put_other _ _ _ _ h3, State.rd_put_other _ _ _ _ h3]
  exact resetWindow_rd s a

/-- What a register reads after a power-on reset. -/
theorem powerOnReset_rd (s : State) (k a : Nat) (h1 : ∀ k < 4, a ≠ SNS_TRIM k) (h2 : ∀ k < 512, a ≠ THM_SCTL k) :
    (powerOnReset k s).rd a = regReset a := by
  unfold powerOnReset
  dsimp only
  rw [loadEfuse_rd _ _ h1 h2]
  rfl

/-- The eFuse load changes registers alone. -/
theorem loadEfuse_frame (s : State) : { loadEfuse s with regs := s.regs } = s := by
  have key {α : Type} (l : List α) (f : State → α → State) (hf : ∀ u x, { f u x with regs := u.regs } = u) :
      ∀ u : State, { u.each l f with regs := u.regs } = u := by
    induction l with
    | nil => intro u; rfl
    | cons x l ih =>
      intro u
      have h1 := ih (f u x)
      have h2 := hf u x
      have h3 : ({ (f u x).each l f with regs := (f u x).regs } : State).regs = (f u x).regs := rfl
      calc { u.each (x :: l) f with regs := u.regs }
          = { ({ (f u x).each l f with regs := (f u x).regs } : State) with regs := u.regs } := rfl
        _ = { f u x with regs := u.regs } := by rw [h1]
        _ = u := h2
  unfold loadEfuse
  have a1 := key s.efuse.snsTrim (fun s e => if e.1 < 4 then s.wr (SNS_TRIM e.1) e.2 else s)
    (fun u x => by dsimp only; split <;> rfl) s
  have a2 := fun u : State => key s.efuse.thmOfs (fun s e => if e.1 < 512 then s.put (THM_SCTL.OFS e.1) e.2 else s)
    (fun u x => by dsimp only; split <;> rfl) u
  dsimp only
  have e1 : (s.each s.efuse.snsTrim fun s e => if e.1 < 4 then s.wr (SNS_TRIM e.1) e.2 else s).efuse = s.efuse := by
    have := congrArg State.efuse a1
    exact this
  generalize hu : (s.each s.efuse.snsTrim fun s e => if e.1 < 4 then s.wr (SNS_TRIM e.1) e.2 else s) = u at *
  rw [e1]
  calc { u.each s.efuse.thmOfs (fun s e => if e.1 < 512 then s.put (THM_SCTL.OFS e.1) e.2 else s) with regs := s.regs }
      = { ({ u.each s.efuse.thmOfs (fun s e => if e.1 < 512 then s.put (THM_SCTL.OFS e.1) e.2 else s) with
            regs := u.regs } : State) with regs := s.regs } := rfl
    _ = { u with regs := s.regs } := by rw [a2]
    _ = s := a1

/-- The eFuse load is an update of the registers. -/
theorem loadEfuse_eq (s : State) : loadEfuse s = { s with regs := (loadEfuse s).regs } :=
  congrArg (fun z : State => { z with regs := (loadEfuse s).regs }) (loadEfuse_frame s)

/-- Instance reset, from a state out of it, stands asserted after it. -/
theorem assertReset_rst (s : State) (h : s.rst.inst = false) : (assertReset s).rst = { s.rst with inst := true } := by
  unfold assertReset
  rw [if_neg (by simp [h])]
  dsimp only
  rw [loadEfuse_eq]
  rfl

/-- TS runs on through an instance reset. -/
theorem assertReset_ts (s : State) : (assertReset s).ts = s.ts := by
  unfold assertReset
  split
  · rfl
  · dsimp only
    rw [loadEfuse_eq]
    rfl

end Sys2Proof.Machine
end

