-- ==== Sys2Proof/WellFormed.lean ====
section
/-! DEFINITION. WellFormed.lean: which commands a sender of the spec can send. Types already bound most operands; what is
left are index 0 of regions (R119) and of interrupt sources (R580), the reserved operation codes, the form of a Yutre
command (R618), the order of a tick's samples, and ranges that the spec states. -/

namespace Sys2Proof

/-- A Yutre command fits its slot, and is no reply (R618). -/
def YMsg.wellFormed (m : YMsg) : Bool :=
  decide (m.len.toNat ≤ 56) && decide (m.pay.length ≤ 56) && m.flags.toNat % 2 == 0

/-- CKS edges in rising order, none after TS t. -/
def SeaEdge.rising (t : Dword) : List SeaEdge → Bool
  | [] => true
  | [e] => decide (e.ts.toNat ≤ t.toNat)
  | e :: f :: rest => decide (e.ts.toNat < f.ts.toNat) && SeaEdge.rising t (f :: rest)

/-- The samples of a frame that ends at TS t: ordered, and slacks for regions only. -/
def TickSamples.wellFormed (x : TickSamples) (t : Dword) : Bool :=
  SeaEdge.rising t x.sea && x.slacks.all fun e => e.1 != 0

/-- Is the command one that the spec describes? -/
def Instr.wellFormed (i : Instr) : Bool :=
  match i with
  | .registerWrite _ _ _ _ => true
  | .counterLowRead _ _ _ => true
  | .readClear _ _ _ => true
  | .pllEnable _ => true
  | .pllStop _ => true
  | .pllLock _ => true
  | .lossOfLock _ _ => true
  | .tsSlew _ _ => true
  | .tsStep _ _ => true
  | .slewStep => true
  | .ctrlPowerGood _ => true
  | .ctrlPowerLoss _ => true
  | .cellIslandGood _ => true
  | .cellIslandLoss _ => true
  | .blendFrameBoundary _ => true
  | .windowCrossing _ _ => true
  | .cellCurrentLimit _ _ => true
  | .foldback _ => true
  | .foldbackRecovery _ => true
  | .sensorExclusion _ _ _ => true
  | .cellSnsWrite _ _ _ => true
  | .nop _ _ => true
  | .demote _ _ => true
  | .join _ _ => true
  | .recouple _ _ => true
  | .enterTest _ _ => true
  | .exitTest _ _ => true
  | .uncouple _ _ => true
  | .cellCmdReserved _ _ op => decide (7 ≤ op.toNat)
  | .cellPrechargeDone _ => true
  | .cellSelfcheckDone _ _ => true
  | .cellFailure _ _ _ => true
  | .cellTestStart _ _ _ => true
  | .cellTestDone _ _ _ _ => true
  | .cellTestAbandon _ _ _ => true
  | .cfgCommit _ _ => true
  | .commitValidationDone => true
  | .commitSafePoint _ => true
  | .safePointTimeout _ => true
  | .cfgRevert _ _ => true
  | .cfgRevertDone => true
  | .rgnVsetWrite _ n _ => n != 0
  | .regionNop _ n => n != 0
  | .enable _ n => n != 0
  | .disable _ n => n != 0
  | .clearFault _ n => n != 0
  | .regionCmdReserved _ n op => n != 0 && decide (4 ≤ op.toNat)
  | .pendingEnableExecute _ n => n != 0
  | .rampEnd _ n => n != 0
  | .regionNoRise _ n => n != 0
  | .regionShort _ n => n != 0
  | .regionBlind _ n => n != 0
  | .minvClear _ n => n != 0
  | .minvRead _ n => n != 0
  | .start _ => true
  | .stop _ => true
  | .clear _ => true
  | .xphNop _ => true
  | .xphCmdReserved _ op => decide (4 ≤ op.toNat)
  | .softstartRefStart _ => true
  | .softstartRampStep _ => true
  | .softstartEnd _ => true
  | .xphNoRise _ => true
  | .xphUnderVoltage _ => true
  | .xphVsetWrite _ _ => true
  | .sensePointExclusion _ _ => true
  | .sensePointInclude _ _ _ => true
  | .trigger _ => true
  | .onTimeEnd _ _ => true
  | .cycleLimit _ _ => true
  | .zeroCurrent _ => true
  | .negativeCurrentLimit _ => true
  | .syncLock _ period => decide (2133 ≤ period) && decide (period ≤ 5334)
  | .syncEdge _ _ => true
  | .slotTrigger _ _ => true
  | .fastTrip _ => true
  | .syncLost _ => true
  | .shedDwellExpiry _ => true
  | .loadStep _ => true
  | .stepHoldEnd _ => true
  | .returnPhaseFire _ => true
  | .overVoltage _ _ => true
  | .crowbarRelease _ => true
  | .phaseOverCurrent _ _ => true
  | .phaseEnableWrite _ _ _ => true
  | .phaseClear _ _ => true
  | .baseTick t x => x.wellFormed t
  | .lpeCommit _ _ => true
  | .lpeValidationDone _ => true
  | .lpeRevert _ _ => true
  | .lpeRevertDone _ => true
  | .lpeInitDone _ => true
  | .lpeStateWrite _ addr _ => (decide (0x740000 ≤ addr.toNat) && decide (addr.toNat < 0x780000)) ||
      (decide (0x700100 ≤ addr.toNat) && decide (addr.toNat < 0x700300))
  | .lpeEnableWrite _ _ => true
  | .pgTargetWrite _ _ _ => true
  | .trcArm _ => true
  | .trcStop _ => true
  | .trcSwtrig _ => true
  | .traceTimedTrigger _ => true
  | .marker _ _ _ => true
  | .markerHandle _ _ => true
  | .forecastArm _ => true
  | .forecastStop _ => true
  | .rescan _ => true
  | .directoryBuildDone _ => true
  | .ttbDmaStart _ => true
  | .ttbDmaEntryWrite _ _ _ _ _ => true
  | .ttbDmaDone _ _ => true
  | .timetableWrite _ _ _ _ => true
  | .ttbInitDone _ => true
  | .outriderRunTick _ => true
  | .outriderStart _ _ => true
  | .outriderValidationDone _ => true
  | .outriderStop _ _ => true
  | .outriderClear _ _ => true
  | .outriderError _ => true
  | .outriderDmaStart _ => true
  | .outriderDmaDone _ _ _ => true
  | .outriderInitDone _ => true
  | .skidTrip _ n _ _ => n != 0
  | .skidReleaseStep _ n _ _ => n != 0
  | .skidWindowEnd _ n => n != 0
  | .skidEscalate _ n => n != 0
  | .skidEscWrite _ n _ => n != 0
  | .skidWinWrite _ n _ => n != 0
  | .skidForceWrite _ n _ => n != 0
  | .groupIdle _ _ => true
  | .opEnable _ _ => true
  | .opValidationDone _ => true
  | .moveUpComplete _ n => n != 0
  | .freqAck _ n _ => n != 0
  | .freqAckTimeout _ n => n != 0
  | .powerEstimate _ => true
  | .calibrationSnapshot _ => true
  | .coeffCommit _ _ => true
  | .coeffCommitApply _ => true
  | .capWindowBoundary _ => true
  | .shareReport _ k _ => k != 0
  | .shareCompute _ => true
  | .shareReceive _ _ _ _ _ _ _ => true
  | .waybillIntervalEnd _ _ => true
  | .getPolicy m => m.wellFormed
  | .setPkgCap m => m.wellFormed
  | .setOp m => m.wellFormed
  | .setLegPref m => m.wellFormed
  | .setMode m => m.wellFormed
  | .getRegion m => m.wellFormed
  | .epochBoundary _ => true
  | .epochPulse _ => true
  | .linkUp _ _ => true
  | .hello _ _ => true
  | .hb _ _ => true
  | .sync _ _ _ _ => true
  | .syncRsp _ _ => true
  | .syncFin _ _ _ => true
  | .env _ _ _ _ _ => true
  | .emcapMessage _ _ _ _ _ _ => true
  | .conote _ _ _ _ => true
  | .cocap _ _ _ _ _ => true
  | .rwrite _ _ _ _ _ _ _ _ _ => true
  | .reservedKind _ _ => true
  | .envIssue _ _ => true
  | .envPointCurrent _ => true
  | .envWindowEnd _ => true
  | .cocapAdopt _ => true
  | .emcapIssue _ _ => true
  | .rwriteSend _ _ => true
  | .rwriteCommitSend _ _ => true
  | .rwriteCommitLand _ _ _ => true
  | .rwriteCommitTimeout _ _ _ => true
  | .rwriteWindowIdle _ _ _ => true
  | .completionRead _ => true
  | .couplerEnable _ _ => true
  | .getCoupler m => m.wellFormed
  | .setTree m => m.wellFormed
  | .setGroup m => m.wellFormed
  | .envPoint m => m.wellFormed
  | .setEnv m => m.wellFormed
  | .emcap m => m.wellFormed
  | .getGroup m => m.wellFormed
  | .conversionComplete _ _ _ => true
  | .urgentRequest _ _ _ => true
  | .snsRefWrite _ _ _ => true
  | .refSettled _ _ => true
  | .pairFail _ _ => true
  | .pairRecover _ _ => true
  | .windowExit _ _ => true
  | .windowReentry _ _ => true
  | .windowDutyEnd _ _ => true
  | .windowConfigWrite _ _ _ _ => true
  | .snsPtCtlWrite _ _ => true
  | .thermalGuard _ => true
  | .thermalDemand _ _ _ => true
  | .thermalMeasurement _ _ _ => true
  | .sweepEnd _ _ => true
  | .thermalSensorExclWrite _ _ _ => true
  | .dieDrained _ => true
  | .thermalDown _ => true
  | .thermalHardTimeout _ => true
  | .thermalClear _ _ => true
  | .faultLatch _ => true
  | .statusClear _ _ _ => true
  | .forceWrite _ _ _ => true
  | .memoryCorrectedError _ _ _ => true
  | .memoryUncorrectableError _ _ _ _ => true
  | .scrubRead _ _ _ => true
  | .freezeLocal _ _ => true
  | .freezeArm _ _ => true
  | .freezeDisarm _ _ => true
  | .freezeTimedCapture _ => true
  | .freezeUnloadDone _ => true
  | .ringExportDone _ _ => true
  | .traceExportStart _ _ => true
  | .traceExportDone _ _ => true
  | .ageWindowEnd _ _ => true
  | .eolWrite _ _ _ _ => true
  | .imageVerified _ => true
  | .imagePush _ _ _ _ => true
  | .firmwareReset _ => true
  | .getFw m => m.wellFormed
  | .stageBegin m => m.wellFormed
  | .stageData m _ => m.wellFormed
  | .stageEnd m => m.wellFormed
  | .activate m => m.wellFormed
  | .cancel m => m.wellFormed
  | .confirm m => m.wellFormed
  | .heartbeat m => m.wellFormed
  | .activationStart _ => true
  | .watchdogKick _ _ _ => true
  | .watchdogExpiry _ _ => true
  | .coreReloadDone _ _ => true
  | .hostKick _ _ => true
  | .hostPeriodEnd _ => true
  | .fwHeartbeatStale _ => true
  | .halt _ _ _ => true
  | .resume _ _ => true
  | .step _ _ _ => true
  | .vlFrel _ _ _ => true
  | .vlFacq _ _ _ => true
  | .vlFfull _ _ _ => true
  | .fence _ _ _ => true
  | .atomic _ _ _ _ _ _ _ => true
  | .reservationExpiry _ _ => true
  | .dirtyWriteBack _ _ _ => true
  | .tsCsrRead _ _ _ => true
  | .claim _ _ => true
  | .complete _ _ _ => true
  | .doorbell _ _ => true
  | .sourceBind _ n => n != 0
  | .coalesceRelease _ _ => true
  | .hostClaim _ => true
  | .sourceMask _ n _ => n != 0
  | .maskWindowEnd _ n => n != 0
  | .sourcePendClear _ n _ => n != 0
  | .globalDisable _ _ => true
  | .edgeCaught _ _ _ => true
  | .channelClaim _ _ _ => true
  | .post _ _ _ _ => true
  | .take _ _ => true
  | .abandon _ _ => true
  | .fillTimeout _ _ => true
  | .channelConfigWrite _ _ _ => true
  | .slotWrite _ _ _ _ => true
  | .dbenWrite _ _ _ => true
  | .yutreUnknownOpcode m _ => m.wellFormed
  | .getVersion m => m.wellFormed
  | .getStatus m => m.wellFormed
  | .readReg m => m.wellFormed
  | .writeReg m => m.wellFormed
  | .regionCmd m => m.wellFormed
  | .frontCmd m => m.wellFormed
  | .config m => m.wellFormed
  | .loadProgram m _ _ => m.wellFormed
  | .loadRset m _ => m.wellFormed
  | .loadWeights m _ => m.wellFormed
  | .forecastCtl m => m.wellFormed
  | .getForecast m => m.wellFormed
  | .setJob m => m.wellFormed
  | .setGroups m => m.wellFormed
  | .waybillRing m => m.wellFormed
  | .getJob m => m.wellFormed
  | .freeze m => m.wellFormed
  | .tlmRing m => m.wellFormed
  | .traceExport m => m.wellFormed
  | .getAge m => m.wellFormed
  | .cbseForce m => m.wellFormed
  | .cellTest m _ => m.wellFormed
  | .skidForce m => m.wellFormed
  | .traceArm m => m.wellFormed
  | .snsUrgent m _ => m.wellFormed
  | .page _ => true
  | .pageRead => true
  | .clearFaults => true
  | .capability => true
  | .voutMode => true
  | .statusByte => true
  | .statusWord => true
  | .statusVout => true
  | .statusIout => true
  | .statusInput => true
  | .statusTemperature => true
  | .statusCml => true
  | .statusMfrSpecific => true
  | .readVin => true
  | .readIin => true
  | .readVout => true
  | .readIout => true
  | .readTemperature1 => true
  | .readTemperature2 => true
  | .readPout => true
  | .pmbusRevision => true
  | .mfrId => true
  | .mfrModel => true
  | .mfrPkgCap _ => true
  | .mfrPkgCapRead => true
  | .mfrInstStatus => true
  | .mfrCapState => true
  | .mfrEin => true
  | .pmbusInvalidCommand _ => true
  | .alertResponse => true
  | .powerOnReset _ => true
  | .powerOnResetRelease _ => true
  | .resetPin _ _ => true
  | .softwareInstanceReset _ _ => true
  | .softwareFirmwareReset _ _ => true
  | .instanceResetRelease _ => true
  | .sagDeclared _ => true
  | .frontStopSag _ => true
  | .crashCaptureDone _ _ _ => true
  | .recordProgrammed _ _ _ => true
  | .saveTimeout _ => true
  | .sagEnd _ => true
  | .boundaryScanEnter _ => true
  | .boundaryScanExit _ => true
  | .referenceAbsent _ => true
  | .referenceReturn _ => true
  | .linkDown _ _ => true
  | .sidebandEndResetChange _ _ _ => true
  | .minvReplacement _ n _ _ => n != 0
  | .vimReferenceSlew _ => true
  | .plainStore _ _ _ _ _ => true
  | .interruptEntry _ _ => true
  | .pkgConditionReport _ k _ => k != 0

end Sys2Proof
end

