-- ==== Sys2Proof/Tests/Slice0.lean ====
section
/-! SUPPORT. Tests/Slice0.lean: the model against the worked examples that the spec carries through to register values,
ill-formed commands that WellFormed refuses, and, for every statement with hypotheses, states and operands that meet them. -/

namespace Sys2Proof.Tests
open Sys2Proof Sys2Proof.Machine

set_option Elab.async false
set_option linter.all false

/-- The state after reset with the given fields written. -/
def st (l : List (Fld × Nat)) : State := l.foldl (fun s e => s.put e.1 e.2) State.reset
/-- How a witness shows that a write is permitted. -/
theorem permits_of {s : State} {req : Requester} {a : Nat} {v : Word}
    (h : (!deniedWhole req a v s && ((regDef? a).all fun r => restrictedWord r req.code (s.rd a) v == v) &&
      (!s.rst.inst || keptByInstanceReset a)) = true) : s.Permits req a v := by
  simp only [Bool.and_eq_true, Bool.not_eq_true'] at h
  refine ⟨h.1.1, fun r hr => ?_, fun hi => ?_⟩
  · have := h.1.2
    rw [hr] at this
    simpa using this
  · simpa [hi] using h.2
/-- How a witness shows that a Yutre command is accepted. -/
theorem accepts_of {s : State} {m : YMsg} {op : Nat}
    (h : (s.serves m op && (s.lastYutre m).all (fun e => e.seq != m.sq.toNat) && decide (m.vmaj = 3) && decide (m.len.toNat ≤ 56) &&
      decide (m.flags.toNat < 8) && decide (m.flags.toNat % 2 = 0) && definedOpcode op && s.permits m op) = true) :
    s.Accepts m op := by
  simp only [Bool.and_eq_true, decide_eq_true_eq] at h
  obtain ⟨⟨⟨⟨⟨⟨⟨h1, h2⟩, h3⟩, h4⟩, h5⟩, h6⟩, h7⟩, h8⟩ := h
  refine ⟨h1, fun e he => ?_, h3, h4, h5, h6, h7, h8⟩
  rw [he] at h2
  simpa using h2

/-! ### Well-formedness -/

/-- A Yutre command with the given length, flags and payload. -/
def yMsg (len flags : BitVec 8) (pay : List (BitVec 8)) : YMsg := ⟨.host, 0, 0, 3, 1, 7, len, flags, pay⟩

/-- A Yutre command longer than its slot, one whose payload is, and a reply are refused (R618); one that fits is not. -/
theorem test_wf_yutre :
    (Instr.getPolicy (yMsg 57 0 [])).wellFormed = false ∧
      (Instr.getPolicy (yMsg 0 0 (List.replicate 57 0))).wellFormed = false ∧
      (Instr.getPolicy (yMsg 0 1 [])).wellFormed = false ∧ (Instr.getPolicy (yMsg 56 2 [])).wellFormed = true := by decide

/-- Region 0, source 0 and instance 0 as a share's or a report's sender are refused. -/
theorem test_wf_index :
    (Instr.rgnVsetWrite .host 0 280).wellFormed = false ∧ (Instr.enable .host 0).wellFormed = false ∧
      (Instr.sourceBind 5 0).wellFormed = false ∧ (Instr.shareReport 5 0 1).wellFormed = false ∧
      (Instr.pkgConditionReport 5 0 1).wellFormed = false ∧ (Instr.enable .host 255).wellFormed = true := by decide

/-- A reserved-operation row does not carry an operation that has a row of its own. -/
theorem test_wf_reserved :
    (Instr.cellCmdReserved .host 5 6).wellFormed = false ∧ (Instr.cellCmdReserved .host 5 7).wellFormed = true ∧
      (Instr.regionCmdReserved .host 5 3).wellFormed = false ∧ (Instr.regionCmdReserved .host 5 4).wellFormed = true ∧
      (Instr.regionCmdReserved .host 0 4).wellFormed = false ∧
      (Instr.xphCmdReserved .host 3).wellFormed = false ∧ (Instr.xphCmdReserved .host 4).wellFormed = true := by decide

/-- A synchronisation period outside its range and an address outside the loop states are refused. -/
theorem test_wf_range :
    (Instr.syncLock 5 2132).wellFormed = false ∧ (Instr.syncLock 5 5335).wellFormed = false ∧
      (Instr.syncLock 5 2133).wellFormed = true ∧ (Instr.lpeStateWrite .sch 0x73FFFC 1).wellFormed = false ∧
      (Instr.lpeStateWrite .sch 0x740000 1).wellFormed = true := by decide

/-- CKS edges of a frame out of order or after its end, and a slack of region 0, are refused. -/
theorem test_wf_tick :
    (Instr.baseTick 100 ⟨[⟨20, [], []⟩, ⟨18, [], []⟩], [], [], []⟩).wellFormed = false ∧
      (Instr.baseTick 100 ⟨[⟨102, [], []⟩], [], [], []⟩).wellFormed = false ∧
      (Instr.baseTick 100 ⟨[], [], [], [(0, none)]⟩).wellFormed = false ∧
      (Instr.baseTick 100 ⟨[⟨18, [], []⟩, ⟨20, [], []⟩], [], [], [(7, none)]⟩).wellFormed = true := by decide

/-- No word spells a command, so the state stays as it is. -/
theorem test_no_words : decodeTableWord 32 0 = none ∧ (State.reset.withFetchWord 32 0).pending = [] := by decide

/-- The register map is canonical after reset. -/
theorem test_reset_wf : State.reset.regsWf := by decide

/-! ### The spec's own worked examples -/

/-- An instance out of reset, its CTRL island good and its PLL locked, with the given fields written. -/
def live (l : List (Fld × Nat)) : State :=
  let s := st ([(TIM_STAT.CTRL_GOOD, 1), (TIM_STAT.PLL_LOCK, 1)] ++ l)
  { s with rst := { s.rst with inst := false, por := false } }

/-- The state a command leaves; the state itself where it stops. -/
def after (c : Instr) (s : State) : State :=
  match exec c s with
  | .next t => t
  | _ => s

/-- spec/00_scope.md: a set-point of code 20 reads back as 40 (R7), and 0.750 V is code 280. -/
theorem test_vset_legal :
    (after (.rgnVsetWrite .host 3 20) (live [])).get (RGN_VSET.CODE 3) = 40 ∧
      (after (.rgnVsetWrite .host 3 280) (live [])).get (RGN_VSET.CODE 3) = 280 := by decide +kernel

/-- spec/01_architecture.md: the denied write of the worked example under R38. -/
theorem test_denied_write :
    let s := after (.rgnVsetWrite .host 3 0x118) (live [(VL_CTRL.HOST_RO, 1)])
    s.rd VL_DENY_ADDR = 0x00100310 ∧ s.get VL_STAT.DENIED_WR = 1 ∧ s.rd (RGN_VSET 3) = State.reset.rd (RGN_VSET 3) ∧
      s.blockView VL_STAT = 0x21 ∧
      (after (.registerWrite .host .b32 0x8 0x20) (s.advanceTo 10)).get VL_STAT.DENIED_WR = 0 := by decide +kernel

/-- spec/02_time_and_clocks.md: 72 steps of a slew by -72 after TS 2,399,000 end at TS 2,417,360 (R54). -/
theorem test_slew :
    let s := (List.range 72).foldl (fun s _ => slewStep s)
      (after (.tsSlew .sec 0xFFB8) { live [(TIM_STAT.PLL_LOCK, 1)] with ts := 2399000 })
    s.ts = 2417360 ∧ fldGet (s.blockView TIM_TS_ADJ) 31 31 = 0 := by decide +kernel

/-- spec/03_cells.md: the target map's worked example (R77) takes 3:1 with BLEND 15 and FCODE 41. -/
theorem test_target_map :
    targetMap (3 / 4) (1 / 5) 2 (fun r => 1 + ((r : Rat) - 1) / 5) (fun r => (35 + 5 * ((r : Rat) - 1)) / 1000) = (2, 15, 41) := by
  decide +kernel

/-- spec/03_cells.md: cell 798 fails with FLYCAP; its neighbours of RGN7 count it (R80, R108). -/
theorem test_cell_failure :
    let s := after (.cellFailure 100 798 2)
      (live ((TIM_STAT.CELL_GOOD, 1) :: ([798, 797, 799, 734, 862].flatMap fun c =>
        [(CELL_MAP_LIVE.REGION c, 7), (CELL_STAT.STATE c, 2)])))
    s.rd (CELL_STAT 798) = 0x00200003 ∧ s.blockView (CELL_STAT 799) = 0x00000402 ∧ s.nbrUnc 734 = 1 ∧ s.nbrUnc 862 = 1 ∧
      CELL_STAT 798 = 0x20C78C := by decide +kernel

/-- spec/05_front_stage.md: T_on of phase 5 at TON 573 with TRIM -19 is 552 ticks (R178). -/
theorem test_on_time : (live [(XPH_TON.TON, 573), (XPH_PH_CFG.TRIM 5, 0xED)]).tOn 5 = 552 := by decide +kernel

/-- spec/05_front_stage.md: N_auto of 208 A at 17.5 A a phase is 12, of 185 A it is 11, of 321 A it is 19 (R188). -/
theorem test_phase_count :
    ([208, 185, 321].map fun a =>
      (live ((XPH_CFG.SHED_EN, 1) :: (XPH_IVIM.IVIM, 16 * a) :: (List.range 32).map fun p => (XPH_PH_STAT.STATE p, 4))).nReq) =
      [12, 11, 19] := by decide +kernel

/-- R218's definition of rshr; its remark on rshr(-25, 1) says otherwise (log entry 106). -/
theorem test_rshr : rshr (-25) 1 = -12 ∧ rshr 25 1 = 13 ∧ rshr (-26) 1 = -13 := by decide +kernel

/-- spec/06_loop_engine.md: one tick of the RGN7 loop (R219, R222, R225): x0 = 32, y0 = 27, u = 3,027. -/
theorem test_loop_tick :
    inputStage 3000 2968 1 (-1) 0 0 = (32, false) ∧
      sectionFix ⟨[5, 0xFFFFFFFF, 0, 1, 0], 0x23, 26, 0, 20, 0⟩ 32 = (27, false) ∧
      outputStage 27 3000 1 1 0 0 3800 = (3027, 3027, false) := by decide +kernel

/-- The generator of the example after k steps: X, V and A. -/
def pgAfter (k : Nat) : Int × Int × Int :=
  let s0 := (((((live [(PG_CFG.EN 3, 1)]).wrN (PG_VMAX 3) 0x20000).wrN (PG_AMAX 3) 0x4000).wrN (PG_JMAX 3) 0x1000).wrI
    (PG_TGT 3) 280).put64 (PG_X_LO 3) (240 * 65536)
  let s := s0.each (List.range k) fun s _ => pgStep 3 s
  (s.pgX 3, s.numI (PG_V 3), s.numI (PG_A 3))

/-- spec/06_loop_engine.md: the first four steps of generator 3 (R240). -/
theorem test_profile :
    pgAfter 1 = (15732736, 4096, 4096) ∧ pgAfter 2 = (15745024, 12288, 8192) ∧ pgAfter 3 = (15769600, 24576, 12288) ∧
      pgAfter 4 = (15810560, 40960, 16384) := by decide +kernel

/-- spec/08_outrider.md: row 6 of the example forms 0x3E82_0000 (R294..R299). -/
theorem test_dot_row :
    let w := [0x78, 0x18, 0xF8, 0x3C].map fmtE4M3.decode
    let a := [0x78, 0x18, 0x78, 0x30].map fmtE4M3.decode
    toFp32 (dotRow false ((w.zip a).map fun e => fpMul e.1 e.2) (ofFp32 0xBF000000)).1 = 0x3E820000 := by decide +kernel

/-- RGN7 of the Skid example, ON with VTRIP 256, after the minimum tree's readings. -/
def skidAfter (vs : List Nat) : State :=
  vs.foldl (fun s v => skidDecide 7 v 0 s)
    (live [(RGN_STAT.STATE 7, 2), (RGN_VTRIP_LIVE.VTRIP 7, 256), (SKID_CTRL.EN, 1), (SKID_CFG.EN 7, 1), (SKID_CFG.DMAX 7, 4),
      (SKID_CFG.RELHOLD 7, 64), (SKID_CFG.DSTEP 7, 10), (SKID_CFG.HYST 7, 5)])

/-- spec/09_skid.md: depths 1, 2, 3, 3 at 718, 703, 695 and 691 mV, held at 722 mV, released one step by 64 readings of
726 mV; the peak reads depth 3 and deficit 116 (R321..R324). -/
theorem test_skid :
    ([[718], [718, 703], [718, 703, 695], [718, 703, 695, 691]].map fun l => (skidAfter l).get (SKID_RSTAT.DEPTH 7)) =
        [1, 2, 3, 3] ∧
      (skidAfter [718, 703, 695, 691, 722]).get (SKID_RSTAT.RELCNT 7) = 0 ∧
      (skidAfter ([718, 703, 695, 691, 722] ++ List.replicate 63 726)).get (SKID_RSTAT.DEPTH 7) = 3 ∧
      (skidAfter ([718, 703, 695, 691, 722] ++ List.replicate 64 726)).get (SKID_RSTAT.DEPTH 7) = 2 ∧
      (skidPass false 7 0 1 (skidAfter [718, 703, 695, 691])).rd (SKID_PEAK 7) = 0x00030074 := by decide +kernel

/-- spec/10_reins_and_tender.md: group 9's combiner gives 48 with SRC CAP; REIN_RATE reads 0x530 (R340). -/
theorem test_reins :
    let s := reinCombine (live [(RGN_STAT.STATE 7, 2), (RGN_EG_LO_LIVE.EG 7, 0x200), (SKID_RSTAT.LEVEL 7, 1),
      (REIN_HWREQ0.THERM 9, 60), (REIN_CAP.RATE 9, 48)])
    s.rd (REIN_RATE 9) = 0x530 ∧ s.rd (REIN_CAP 9) = 0x30 := by decide +kernel

/-- spec/11_power_policy.md: equal instances above the cap share it equally; the example's windows step l to 10 (R380, R382). -/
theorem test_cap :
    sharesOf 3200 800 [3584, 3584, 3584, 3584] = [800, 800, 800, 800] ∧
      (([3584, 3296, 3008, 2720, 2432, 2144, 1856, 1568, 1424, 1352, 1316].foldl (fun s m => capStep m 800 s)
        (live [(PWR_CTRL.CAP_EN, 1), (PWR_STAT.LMAX, 10)])).rd PWR_DEFICIT) = 0x00010204 := by decide +kernel

/-- spec/11_power_policy.md: 4.48 J split 3 to 1, of which 0.2 of slot 2 is filler (R389). -/
theorem test_waybill_split :
    ((splitEnergy 4480000 ([0, 3000000000000, 1000000000000] ++ List.replicate 13 0)
      ([0, 0, 200000000000] ++ List.replicate 13 0)).take 3) = [(0, 0), (3360000, 0), (1120000, 224000)] := by decide +kernel

/-- spec/12_coupler.md: the envelope target at the boundary of epoch 9,000 (R413). -/
theorem test_envelope :
    let s := envTarget (live [(PWR_CTRL.ENV_EN, 1), (CPLR_ENV_CUR.VALID, 1), (CPLR_ENV_CUR.FRAC, 26214),
      (CPLR_ENV_REF.REF, 14400), (CPLR_ENV_TGT.I, 0xFFE8), (CPLR_ENV_TRIM.KI, 0)])
    s.rd CPLR_ENV_TGT = 0xFFE82CFF ∧ s.numI (PG_TGT (s.get PWR_CTRL.PG)) = 11495 := by decide +kernel

/-- The remote-write example's arrivals in order. -/
def rwAfter (sqs : List (Nat × Bool)) : State :=
  sqs.foldl (fun s e => rwAccept 0x46 5 15 e.2 e.1 (0x30000 + 8 * e.1) 1 0 s) (live [(CPLR_CTRL.EN, 1)])

/-- spec/12_coupler.md: SEQ 2, COMMIT 4, 0, 3, 1; the COMMIT lands with the last, and the record names 5 writes of peer 0x46
in window 5 (R423..R427). -/
theorem test_remote_write :
    (after (.rwriteCommitLand 1000 0x46 5) (rwAfter [(2, false), (4, true), (0, false), (3, false)])).cplr.recs = [] ∧
      (after (.rwriteCommitLand 1000 0x46 5) (rwAfter [(2, false), (4, true), (0, false), (3, false), (1, false)])).cplr.recs =
        [(0x80050005, 0x46)] := by decide +kernel

/-- spec/13_sense_converters.md: V12, HOLD and I12 results of the worked example (R437, R438). -/
theorem test_sense :
    (senseV12 13653 (live [])).get XPH_IN.V12 = 12000 ∧ (senseUse 3 6 13107 (live [])).get SNS_AON.HOLD = 4800 ∧
      (senseUse 3 1 6458 (live [])).get XPH_IN.I12 = 597 := by decide +kernel

/-- spec/14_thermal.md: group 9 at 108.5 °C throttles to 50 from sensor 75 (R466..R469). -/
theorem test_thermal :
    let s := thmEvaluate 9 (live ((List.range 8).flatMap fun k =>
      [(THM_S.TEMP (72 + k), if k = 3 then 1736 else 1600), (THM_S.VALID (72 + k), 1)]))
    s.rd (THM_GSTAT 9) = 0x983006C8 ∧ s.get (THM_GREQ.TGT 9) = 50 := by decide +kernel

/-- spec/20_mail_coach.md: the PMBus words of the worked example. -/
theorem test_linear11 :
    linear11 12000 1000 (-6) 0 = some 0xD300 ∧ linear11 597 16 (-6) 0 = some 0xE255 ∧
      linear11 3328 16 (-4) 2 = some 0xF340 ∧ linear11 (1600 * 3328) 12800 (-2) 3 = some 0xFB40 := by decide +kernel

/-- SET_PKG_CAP of the worked example: HOST 3,200, SMIN 800, SEQ 0x17. -/
def capMsg : YMsg := ⟨.host, 0, 0, 3, 2, 0x17, 4, 0, [0x80, 0x0C, 0x20, 0x03]⟩

/-- spec/20_mail_coach.md: the reply's words, and PWR_PKG as SCH leaves it (R618..R620, R385). -/
theorem test_set_pkg_cap :
    let s := after (.setPkgCap capMsg) (live [(FW_CORE.STATE 2, 1), (FW_CORE.STATE 3, 1)])
    s.rd PWR_PKG = 0x0C800320 := by decide +kernel

/-- spec/19_postilion.md: the group holds both sources, with COUNT 2, and releases them 8,000 ticks after the first (R595). -/
theorem test_coalescing :
    let s0 := (((live [(FW_CORE.STATE 2, 1), (FW_CORE.STATE 3, 1)]).wr (PST_SRC_CFG 192) 0x82400006).wr (PST_SRC_CFG 193)
      0x82400006).wr (PST_CG_CFG 2) 0x0300000A
    let s := acceptDoorbell 193 ((acceptDoorbell 192 (s0.advanceTo 1000)).advanceTo 4200)
    s.get (PST_CG_STAT.COUNT 2) = 2 ∧ (coalesceRelease 2 (s.advanceTo 8999)).get (PST_SRC_STAT.HELD 193) = 1 ∧ (after (.coalesceRelease 4200 2) s).ts = 9000 ∧
      (after (.coalesceRelease 9000 2) s).get (PST_SRC_STAT.HELD 193) = 0 ∧
      (after (.coalesceRelease 9000 2) s).get (PST_CG_STAT.OPEN 2) = 0 := by decide +kernel

/-- spec/20_mail_coach.md: the reply to SET_PKG_CAP (R619). -/
theorem test_set_pkg_cap_reply :
    (after (.setPkgCap capMsg) (live [(FW_CORE.STATE 2, 1), (FW_CORE.STATE 3, 1)])).rdata = [0x02010203, 0x01040017, 0] := by
  decide +kernel

/-- spec/20_mail_coach.md: the host claims channel 0, posts with ESRC 620, and the channel reads 0x9B00_0002 (R607, R609). -/
theorem test_channel :
    let s := after (.channelClaim 100 .host 0) (live [(FW_CORE.STATE 2, 1), (TIM_STAT.PLL_LOCK, 1)])
    let u := after (.post 200 .host 0 620) s
    s.rdata = [1] ∧ u.blockView (MCH_CH_STAT 0) = 0x9B000002 ∧ (after (.take .sch 0) u).get (MCH_CH_STAT.STATE 0) = 0 := by
  decide +kernel

/-- The Caboose example at t0 + 3 µs: the crowbar's source latched, then that of window comparator 3. -/
def faultsMet : State :=
  faultLatch ((faultLatch (((live [(XPH_STAT.STATE, 3), (TIM_STAT.PLL_LOCK, 1)])).advanceTo 100)).pulse 15)

/-- spec/15_caboose.md: the registers of the worked example at its three times (R480..R486). -/
theorem test_caboose :
    let s := faultsMet
    let u := after (.statusClear .sch false 0x8010) (s.advanceTo 2500)
    let v := after (.statusClear .sch false 0x10) ((faultLatch ((u.put XPH_STAT.STATE 4).put XPH_STAT.CAUSE 1)).advanceTo 9000)
    [s, u, v].map (fun s => s.rd CBSE_STATUS_LO) = [0x8010, 0x10, 0] ∧
      [s, u, v].map (fun s => s.rd CBSE_FIRST) = [0xA3010004, 0xA3010004, 0x23010004] ∧
      [s, u, v].map (fun s => s.blockView CBSE_STAT) = [0x80010000, 0x80010100, 0x100] ∧
      s.get (CBSE_CNT.COUNT 4) = 1 ∧ s.get (CBSE_CNT.COUNT 15) = 1 := by decide +kernel

/-- The forecast example's machine after marker 0x0412 has been accepted and handled at TS 80,000,000, at a base tick of TS t. -/
def forecastAt (t : Nat) : State :=
  let s := ((((live [(TTB_STAT.STATE, 2), (TTB_CUR.IDX, 0x123), (TTB_CUR.EXPECT, 0x412), (TTB_CFG.FF_EN, 1), (TTB_CFG.CMIN, 4),
    (TTB_BUMP.BK, 13), (TTB_BUMP.BMAX, 16), (RGN_STAT.STATE 20, 2), (RGN_ISUM.I 20, 8000), (RGN_VEFF.CODE 20, 280),
    (XPH_VIM.VIM, 1600), (XPH_IVIM.IVIM, 3328)]).wr (TTB_ENT 0x123 0) 0x0A000412).wr (TTB_ENT 0x123 1) 0x258).wr
      (TTB_ENT 0x123 2) 0x2000C005).wr (TTB_RSET 5 0) 0x00100000
  let s := markerHandle 0 (markerIn 0x412 0 80000000 (s.advanceTo 80000000))
  forecastTick (s.advanceTo (BitVec.ofNat 64 t))

/-- spec/07_forecast.md: the phase window opens at 80,003,200 with F = 1,173 and NFC = 17; current and bump at 80,004,000;
they end at 80,005,200 and 80,006,400 (R272..R281). -/
theorem test_forecast :
    [80003100, 80003200, 80004000, 80005200, 80006400].map (fun t => (forecastAt t).rd TTB_FCAST) =
        [0, 0x00110495, 0x00110495, 0x00110495, 0] ∧
      [80003900, 80004000, 80005100, 80005200].map (fun t => (forecastAt t).rd (TTB_RGN 20)) = [0, 0x00080A00, 0x00080A00, 0] ∧
      (forecastAt 80003200).rd XPH_NREQ = 0x00110000 ∧ (forecastAt 80003200).get TTB_CUR.IDX = 0x124 := by decide +kernel

/-- spec/08_outrider.md: the Outrider correction of the forecast example, DI_eff 3,210 (R272). -/
theorem test_corrected :
    let s := (((live []).wr (TTB_ENT 1 0) 0x0A000412).wr (TTB_ENT 1 1) 0x258).wr (TTB_ENT 1 2) 0x2700C005
    s.corrected 1 ([0, 0, 0, 0, 0, 0, 0x3E820000, 0]) = (3210, 600) := by decide +kernel

/-- The Tender example: the base tick before the barrier, the notice that lands at t0, and k + 1 base ticks from t0. -/
def barrierAt (k : Nat) : State :=
  let s := live [(TNDR_CTRL.EN, 1), (TNDR_CTRL.PRE_EN, 1), (TNDR_CTRL.FC_EN, 1), (TNDR_CTRL.FLEET_EN, 0), (TNDR_CFG.IFG, 192),
    (TNDR_DIE.SLOPE, 4), (TNDR_PRE.MAX, 800), (RGN_STAT.STATE 20, 2), (RGN_ISUM.I 20, 8000), (RGN_VEFF.CODE 20, 280),
    (RGN_EG_HI_LIVE.EG 20, 0xFFFF)]
  let s := tenderTick ((List.range 16).map fun g => (32 + g, 990)) (s.advanceTo 1000)
  let s := giveNotice false 1100 (-3072) [20] 1000 s
  (List.range (k + 1)).foldl (fun s i => tenderTick [] (s.advanceTo (BitVec.ofNat 64 (1100 + 100 * i)))) s

/-- spec/10_reins_and_tender.md: at b0 D = 3,072 and all 16 groups are ordered 64; at b1 IFL is 7,996; at b2 D = 3,064 and
TNDR_ORD[47] reads 0xA03F_003F (R345..R350). -/
theorem test_tender :
    [0, 1, 2].map (fun k => (barrierAt k).get TNDR_STAT.D) = [3072, 3072, 3064] ∧
      [0, 1, 2].map (fun k => (barrierAt k).get TNDR_FLOOR.IFL) = [8000, 7996, 7992] ∧
      (barrierAt 0).get (TNDR_ORD.F 47) = 64 ∧ (barrierAt 2).get (TNDR_ORD.F 45) = 64 ∧
      (barrierAt 2).rd (TNDR_ORD 47) = 0xA03F003F ∧ (barrierAt 1).get TNDR_FLOOR.IPRG = 4928 := by decide +kernel

/-- spec/08_outrider.md: C of the worked example is 148 (R307). -/
theorem test_outrider_cycles :
    (live [(OUT_SHAPE.NIN, 48), (OUT_SHAPE.NHID, 4), (OUT_SHAPE.NOUT, 8)]).odrCycles = 148 := by decide +kernel

/-- FIPS 180-4: the first and last round constants, the first and last initial words, and the digest of "abc". -/
theorem test_sha :
    shaK.getD 0 0 = 0x428a2f98d728ae22 ∧ shaK.getD 79 0 = 0x6c44198c4a475817 ∧ shaInit.getD 0 0 = 0xcbbb9d5dc1059ed8 ∧
      shaInit.getD 7 0 = 0x47b5481dbefa4fa4 ∧
      sha384 [0x61, 0x62, 0x63] =
        0xcb00753f45a35e8bb5a03d699ac65007272c32ab0eded1631a8b605a43ff5bed8086072ba1e7cc2358baeca134c825a7 := by
  decide +kernel

/-- Cells 70 and 71 of RGN7, 20 ns after cell 71 came to it, and then cell 71 as RGN8's (R68, R69). -/
theorem test_tie :
    let s := tieSync 71 ((live [(CELL_MAP_LIVE.REGION 70, 7), (CELL_MAP_LIVE.REGION 71, 7)]).advanceTo 100)
    s.tieClosed 70 71 = false ∧ (s.advanceTo 115).tieClosed 71 70 = false ∧ (s.advanceTo 116).tieClosed 71 70 = true ∧
      (tieSync 71 ((s.advanceTo 116).put (CELL_MAP_LIVE.REGION 71) 8)).tieClosed 70 71 = false := by decide +kernel

/-- spec/22_signals_and_test.md: cells 1 and 2 are the control and output cells of FS_PWM[0] (R664). -/
theorem test_scan :
    ([0, 2, 4, 6].map fun v => ({ live [] with rst := { (live []).rst with cells := v } }).scanLevel (.fsPwm 0)) =
      [.hiZ, .low, .hiZ, .high] := by decide +kernel

/-! ### Witnesses of the statements' hypotheses -/

/-- States and operands that meet the hypotheses of StepRunsFront. -/
theorem witness_StepRunsFront :
    (∃ (c : Instr) (s : State) (rest : List Instr), s.pending = c :: rest) := by
  refine ⟨.slewStep, { State.reset with pending := [.slewStep] }, [], ?_⟩
  · first | decide +kernel | rfl

/-- States and operands that meet the hypotheses of EmptyQueueIsOneClockEdge. -/
theorem witness_EmptyQueueIsOneClockEdge :
    (∃ (s : State), s.pending = [] ∧ s.rst.por = true) ∧
    (∃ (s : State), s.pending = [] ∧ s.rst.por = false ∧ s.bit TIM_STAT.PLL_LOCK = false) ∧
    (∃ (s : State), s.pending = [] ∧ s.rst.por = false ∧ s.bit TIM_STAT.PLL_LOCK = true) := by
  refine ⟨?_, ?_, ?_⟩
  · refine ⟨{ State.reset with rst := { State.reset.rst with por := true } }, ?_, ?_⟩
    · first | decide +kernel | rfl
    · first | decide +kernel | rfl
  · refine ⟨{ st [(TIM_STAT.PLL_LOCK, 0)] with rst := { State.reset.rst with por := false } }, ?_, ?_, ?_⟩
    · first | decide +kernel | rfl
    · first | decide +kernel | rfl
    · first | decide +kernel | rfl
  · refine ⟨{ st [(TIM_STAT.PLL_LOCK, 1)] with rst := { State.reset.rst with por := false } }, ?_, ?_, ?_⟩
    · first | decide +kernel | rfl
    · first | decide +kernel | rfl
    · first | decide +kernel | rfl

/-- States and operands that meet the hypotheses of EveryStepKeepsTheCanonicalForms. -/
theorem witness_EveryStepKeepsTheCanonicalForms :
    (∃ (s : State), s.regsWf ∧ s.ramWf) := by
  refine ⟨State.reset, ?_, ?_⟩
  · decide +kernel
  · decide +kernel

/-- States and operands that meet the hypotheses of ResetStateIsCanonical. -/
theorem witness_ResetStateIsCanonical :
    (∃ (n : RegionIx), 1 ≤ n.val) := by
  refine ⟨255, ?_⟩
  · decide +kernel

/-- States and operands that meet the hypotheses of DeniedWritesAreIgnoredAndRecorded. -/
theorem witness_DeniedWritesAreIgnoredAndRecorded :
    (∃ (req : Requester) (a : Offset) (v : Word) (s : State), a.toNat % 4 = 0 ∧ s.rst.inst = false ∧ deniedWhole
      req a.toNat v s = true) := by
  refine ⟨.peer, 0x1C00000, 1, { State.reset with rst := { State.reset.rst with inst := false, por := false } }, ?_, ?_, ?_⟩
  · first | decide +kernel | rfl
  · first | decide +kernel | rfl
  · first | decide +kernel | rfl

/-- States and operands that meet the hypotheses of NarrowWritesAreIgnored. -/
theorem witness_NarrowWritesAreIgnored :
    (∃ (req : Requester) (w : Width) (a : Offset) (v : Word) (s : State), (¬ (w = .b32 ∧ a.toNat % 4 = 0))) := by
  refine ⟨.sec, .b16, 0x40, 1, State.reset, ?_⟩
  · decide +kernel

/-- States and operands that meet the hypotheses of RegisterWriteActsByAccessCode. -/
theorem witness_RegisterWriteActsByAccessCode :
    (∃ (req : Requester) (a : Offset) (v : Word) (s : State), a.toNat % 4 = 0 ∧ a.toNat < 0x100 ∧ s.Permits req
      a.toNat v) := by
  refine ⟨.sec, 0x40, 1, { State.reset with rst := { State.reset.rst with inst := false, por := false } }, ?_, ?_, ?_⟩
  · first | decide +kernel | rfl
  · decide +kernel
  · exact permits_of (by decide +kernel)

/-- States and operands that meet the hypotheses of TimeReadLatchesItsHighHalf. -/
theorem witness_TimeReadLatchesItsHighHalf :
    (∃ (req : Requester) (s : State), s.rst.inst = false) := by
  refine ⟨.sec, { State.reset with rst := { State.reset.rst with inst := false, por := false } }, ?_⟩
  · first | decide +kernel | rfl

/-- States and operands that meet the hypotheses of FieldsFollowTheirAccessCodes. -/
theorem witness_FieldsFollowTheirAccessCodes :
    (∃ (a : ℕ) (v : Word) (s : State) (r : RegDef) (f : FieldDef), regDef? a = some r ∧ f ∈ r.fields ∧ f.acc =
      .rw ∧ f.clamp = true) ∧
    (∃ (a : ℕ) (v : Word) (s : State) (r : RegDef) (f : FieldDef), regDef? a = some r ∧ f ∈ r.fields ∧ f.acc =
      .rw ∧ f.clamp = false) ∧
    (∃ (a : ℕ) (v : Word) (s : State) (r : RegDef) (f : FieldDef) (i : ℕ), regDef? a = some r ∧ f ∈ r.fields ∧
      f.acc = .w1c ∧ f.lo ≤ i ∧ i ≤ f.hi) ∧
    (∃ (a : ℕ) (v : Word) (s : State) (r : RegDef) (f : FieldDef) (i : ℕ), regDef? a = some r ∧ f ∈ r.fields ∧
      f.acc = .w1s ∧ f.lo ≤ i ∧ i ≤ f.hi) ∧
    (∃ (a : ℕ) (v : Word) (s : State) (r : RegDef) (f : FieldDef), regDef? a = some r ∧ f ∈ r.fields ∧ (f.acc =
      .ro ∨ f.acc = .wo ∨ f.acc = .rc)) ∧
    (∃ (a : ℕ) (v : Word) (s : State) (r : RegDef) (b : ℕ), regDef? a = some r ∧ b ≠ a) := by
  refine ⟨?_, ?_, ?_, ?_, ?_, ?_⟩
  · refine ⟨(RGN_VSET 1), 1, State.reset, ((regDef? (RGN_VSET 1)).getD ⟨0, 0, 0, 0, 0, 0, 0, 0, false, []⟩), ((((regDef? (RGN_VSET 1)).getD ⟨0, 0, 0, 0, 0, 0, 0, 0, false, []⟩).fields).getD 0 ⟨0, 0, .ro, 0, 0, false, 0⟩), ?_, ?_, ?_, ?_⟩
    · first | decide +kernel | rfl
    · decide +kernel
    · first | decide +kernel | rfl
    · first | decide +kernel | rfl
  · refine ⟨(MCH_CH_CFG 31), 1, State.reset, ((regDef? (MCH_CH_CFG 31)).getD ⟨0, 0, 0, 0, 0, 0, 0, 0, false, []⟩), ((((regDef? (MCH_CH_CFG 31)).getD ⟨0, 0, 0, 0, 0, 0, 0, 0, false, []⟩).fields).getD 0 ⟨0, 0, .ro, 0, 0, false, 0⟩), ?_, ?_, ?_, ?_⟩
    · first | decide +kernel | rfl
    · decide +kernel
    · first | decide +kernel | rfl
    · first | decide +kernel | rfl
  · refine ⟨MCH_STAT, 1, State.reset, ((regDef? MCH_STAT).getD ⟨0, 0, 0, 0, 0, 0, 0, 0, false, []⟩), ((((regDef? MCH_STAT).getD ⟨0, 0, 0, 0, 0, 0, 0, 0, false, []⟩).fields).getD 4 ⟨0, 0, .ro, 0, 0, false, 0⟩), 0, ?_, ?_, ?_, ?_, ?_⟩
    · first | decide +kernel | rfl
    · decide +kernel
    · first | decide +kernel | rfl
    · decide +kernel
    · decide +kernel
  · refine ⟨RGN_CFG_CTRL, 1, State.reset, ((regDef? RGN_CFG_CTRL).getD ⟨0, 0, 0, 0, 0, 0, 0, 0, false, []⟩), ((((regDef? RGN_CFG_CTRL).getD ⟨0, 0, 0, 0, 0, 0, 0, 0, false, []⟩).fields).getD 1 ⟨0, 0, .ro, 0, 0, false, 0⟩), 0, ?_, ?_, ?_, ?_, ?_⟩
    · first | decide +kernel | rfl
    · decide +kernel
    · first | decide +kernel | rfl
    · decide +kernel
    · decide +kernel
  · refine ⟨(MCH_CH_CFG 31), 1, State.reset, ((regDef? (MCH_CH_CFG 31)).getD ⟨0, 0, 0, 0, 0, 0, 0, 0, false, []⟩), ((((regDef? (MCH_CH_CFG 31)).getD ⟨0, 0, 0, 0, 0, 0, 0, 0, false, []⟩).fields).getD 1 ⟨0, 0, .ro, 0, 0, false, 0⟩), ?_, ?_, ?_⟩
    · first | decide +kernel | rfl
    · decide +kernel
    · decide +kernel
  · refine ⟨(MCH_CH_CFG 31), 1, State.reset, ((regDef? (MCH_CH_CFG 31)).getD ⟨0, 0, 0, 0, 0, 0, 0, 0, false, []⟩), 0, ?_, ?_⟩
    · first | decide +kernel | rfl
    · decide +kernel

/-- States and operands that meet the hypotheses of ReadClearsItsCounters. -/
theorem witness_ReadClearsItsCounters :
    (∃ (req : Requester) (w : Width) (s : State), s.rst.inst = false) := by
  refine ⟨.sec, .b32, { State.reset with rst := { State.reset.rst with inst := false, por := false } }, ?_⟩
  · first | decide +kernel | rfl

/-- States and operands that meet the hypotheses of TimeBaseCommandsComplete. -/
theorem witness_TimeBaseCommandsComplete :
    (∃ (req : Requester) (s : State), s.Permits req TIM_CTRL 1) ∧
    (∃ (req : Requester) (s : State), s.Permits req TIM_CTRL 0 ∧ s.get TIM_CTRL.PLL_EN = 1 ∧ s.locked = false ∧
      s.liveRegions = [] ∧ (∀ p < 32, s.phState p = 0 ∨ s.phState p = 1 ∨ s.phState p = 5)) ∧
    (∃ (req : Requester) (s : State), s.Permits req TIM_CTRL 0 ∧ s.get TIM_CTRL.PLL_EN = 1 ∧ s.liveRegions ≠ []) ∧
    (∃ (req : Requester) (off : BitVec 16) (s : State), s.Permits req TIM_TS_ADJ (off.zeroExtend 32)) ∧
    (∃ (req : Requester) (off : BitVec 16) (s : State), s.Permits req TIM_TS_ADJ (BitVec.ofNat 32 (65536 +
      off.toNat)) ∧ 0 < toSigned 16 off.toNat ∧ s.bit TIM_STAT.TS_ALIGNED = false) ∧
    (∃ (req : Requester) (off : BitVec 16) (s : State), s.Permits req TIM_TS_ADJ (BitVec.ofNat 32 (65536 +
      off.toNat)) ∧ (toSigned 16 off.toNat ≤ 0 ∨ s.bit TIM_STAT.TS_ALIGNED = true)) ∧
    (∃ (s : State), s.locked = true ∧ 0 < s.tim.slewLeft ∧ s.tim.slewEdges < 256) ∧
    (∃ (s : State), s.locked = true ∧ s.tim.slewLeft < 0 ∧ s.tim.slewEdges < 256) ∧
    (∃ (e : Dword) (s : State), s.locked = false) ∧
    (∃ (e : Dword) (s : State), s.locked = false ∧ s.rst.pllDue = false) ∧
    (∃ (e : Dword) (s : State), s.locked = false ∧ s.rst.pllDue = true ∧ s.rst.por = false) ∧
    (∃ (s : State), (s.tim.slewLeft = 0 ∨ s.locked = false)) := by
  refine ⟨?_, ?_, ?_, ?_, ?_, ?_, ?_, ?_, ?_, ?_, ?_, ?_⟩
  · refine ⟨.sec, { State.reset with rst := { State.reset.rst with inst := false, por := false } }, ?_⟩
    · exact permits_of (by decide +kernel)
  · refine ⟨.sec, { (st ((TIM_CTRL.PLL_EN, 1) :: (List.range 32).map fun p => (XPH_PH_STAT.STATE p, 0))) with rst := { State.reset.rst with inst := false, por := false } }, ?_, ?_, ?_, ?_, ?_⟩
    · exact permits_of (by decide +kernel)
    · first | decide +kernel | rfl
    · first | decide +kernel | rfl
    · first | decide +kernel | rfl
    · decide +kernel
  · refine ⟨.sec, { st [(TIM_CTRL.PLL_EN, 1), (RGN_STAT.STATE 255, 2)] with rst := { State.reset.rst with inst := false, por := false } }, ?_, ?_, ?_⟩
    · exact permits_of (by decide +kernel)
    · first | decide +kernel | rfl
    · decide +kernel
  · refine ⟨.sec, 1, { State.reset with rst := { State.reset.rst with inst := false, por := false } }, ?_⟩
    · exact permits_of (by decide +kernel)
  · refine ⟨.sec, 1, { st [(TIM_STAT.TS_ALIGNED, 0)] with rst := { State.reset.rst with inst := false, por := false } }, ?_, ?_, ?_⟩
    · exact permits_of (by decide +kernel)
    · decide +kernel
    · first | decide +kernel | rfl
  · refine ⟨.sec, 0xFFFF, { State.reset with rst := { State.reset.rst with inst := false, por := false } }, ?_, ?_⟩
    · exact permits_of (by decide +kernel)
    · decide +kernel
  · refine ⟨{ st [(TIM_STAT.PLL_LOCK, 1)] with tim := { State.reset.tim with slewLeft := 1 } }, ?_, ?_, ?_⟩
    · first | decide +kernel | rfl
    · decide +kernel
    · decide +kernel
  · refine ⟨{ st [(TIM_STAT.PLL_LOCK, 1)] with tim := { State.reset.tim with slewLeft := -1 } }, ?_, ?_, ?_⟩
    · first | decide +kernel | rfl
    · decide +kernel
    · decide +kernel
  · refine ⟨0x123456789, st [(TIM_STAT.PLL_LOCK, 0)], ?_⟩
    · first | decide +kernel | rfl
  · refine ⟨0x123456789, { st [(TIM_STAT.PLL_LOCK, 0)] with rst := { State.reset.rst with pllDue := false } }, ?_, ?_⟩
    · first | decide +kernel | rfl
    · first | decide +kernel | rfl
  · refine ⟨0x123456789, { st [(TIM_STAT.PLL_LOCK, 0)] with rst := { State.reset.rst with pllDue := true, por := false } }, ?_, ?_, ?_⟩
    · first | decide +kernel | rfl
    · first | decide +kernel | rfl
    · first | decide +kernel | rfl
  · refine ⟨{ State.reset with tim := { State.reset.tim with slewLeft := 0 } }, ?_⟩
    · decide +kernel

/-- States and operands that meet the hypotheses of ResetCommandsComplete. -/
theorem witness_ResetCommandsComplete :
    (∃ (e : Dword) (s : State), s.get TIM_STAT.CTRL_GOOD = 0) ∧
    (∃ (e : Dword) (s : State), s.get TIM_STAT.CTRL_GOOD = 1 ∧ s.rst.inst = false) ∧
    (∃ (e : Dword) (s : State), s.rst.inst = false) ∧
    (∃ (e : Dword) (req : Requester) (s : State), s.Permits req HOLD_RST 0x5A01 ∧ s.rst.inst = false) ∧
    (∃ (e : Dword) (req : Requester) (s : State), s.Permits req HOLD_RST 0x5A02 ∧ s.rst.inst = false) ∧
    (∃ (e : Dword) (x : BitVec 127) (s : State), s.rst.inst = false) ∧
    (∃ (e : Dword) (s : State), s.rst.por = true ∧ s.rst.pin = false ∧ s.get TIM_STAT.CTRL_GOOD = 1 ∧ s.get
      TIM_STAT.REF_PRESENT = 1) ∧
    (∃ (e : Dword) (s : State), s.rst.por = true ∧ s.rst.pin = false ∧ s.get TIM_STAT.CTRL_GOOD = 1 ∧ s.get
      TIM_STAT.REF_PRESENT = 0) ∧
    (∃ (e : Dword) (s : State), s.rst.inst = true ∧ (s.advanceTo e).resetHeld = false ∧ s.locked = true ∧
      s.hold.saveDue = false) := by
  refine ⟨?_, ?_, ?_, ?_, ?_, ?_, ?_, ?_, ?_⟩
  · refine ⟨0x123456789, st [(TIM_STAT.CTRL_GOOD, 0)], ?_⟩
    · first | decide +kernel | rfl
  · refine ⟨0x123456789, { st [(TIM_STAT.CTRL_GOOD, 1)] with rst := { State.reset.rst with inst := false, por := false } }, ?_, ?_⟩
    · first | decide +kernel | rfl
    · first | decide +kernel | rfl
  · refine ⟨0x123456789, { State.reset with rst := { State.reset.rst with inst := false, por := false } }, ?_⟩
    · first | decide +kernel | rfl
  · refine ⟨0x123456789, .sec, { State.reset with rst := { State.reset.rst with inst := false, por := false } }, ?_, ?_⟩
    · exact permits_of (by decide +kernel)
    · first | decide +kernel | rfl
  · refine ⟨0x123456789, .sec, { State.reset with rst := { State.reset.rst with inst := false, por := false } }, ?_, ?_⟩
    · exact permits_of (by decide +kernel)
    · first | decide +kernel | rfl
  · refine ⟨0x123456789, 1, { State.reset with rst := { State.reset.rst with inst := false, por := false } }, ?_⟩
    · first | decide +kernel | rfl
  · refine ⟨0x123456789, { st [(TIM_STAT.CTRL_GOOD, 1), (TIM_STAT.REF_PRESENT, 1)] with rst := { State.reset.rst with por := true, pin := false } }, ?_, ?_, ?_, ?_⟩
    · first | decide +kernel | rfl
    · first | decide +kernel | rfl
    · first | decide +kernel | rfl
    · first | decide +kernel | rfl
  · refine ⟨0x123456789, { st [(TIM_STAT.CTRL_GOOD, 1), (TIM_STAT.REF_PRESENT, 0)] with rst := { State.reset.rst with por := true, pin := false } }, ?_, ?_, ?_, ?_⟩
    · first | decide +kernel | rfl
    · first | decide +kernel | rfl
    · first | decide +kernel | rfl
    · first | decide +kernel | rfl
  · refine ⟨0x123456789, { st [(TIM_STAT.PLL_LOCK, 1), (TIM_STAT.CTRL_GOOD, 1)] with rst := { State.reset.rst with por := false, inst := true }, hold := State.reset.hold }, ?_, ?_, ?_, ?_⟩
    · first | decide +kernel | rfl
    · first | decide +kernel | rfl
    · first | decide +kernel | rfl
    · first | decide +kernel | rfl

/-- States and operands that meet the hypotheses of LockAndIslandCommandsComplete. -/
theorem witness_LockAndIslandCommandsComplete :
    (∃ (e : Dword) (s : State), s.get TIM_CTRL.PLL_EN = 1 ∧ s.locked = false ∧ s.get TIM_STAT.REF_PRESENT = 1 ∧
      s.rst.inst = true ∧ s.tim.unlockDue = true) ∧
    (∃ (e : Dword) (s : State), s.get TIM_CTRL.PLL_EN = 1 ∧ s.locked = false ∧ s.get TIM_STAT.REF_PRESENT = 1 ∧
      s.rst.inst = false) ∧
    (∃ (e : Dword) (r : Bool) (s : State), s.locked = true) ∧
    (∃ (req : Requester) (s : State), s.Permits req TIM_CTRL 0 ∧ s.get TIM_CTRL.PLL_EN = 1 ∧ s.locked = true ∧
      s.liveRegions = [] ∧ (∀ p < 32, s.phState p = 0 ∨ s.phState p = 1 ∨ s.phState p = 5)) ∧
    (∃ (e : Dword) (s : State), s.get TIM_STAT.CTRL_GOOD = 1 ∧ s.get TIM_STAT.CELL_GOOD = 0) ∧
    (∃ (e : Dword) (s : State), s.get TIM_STAT.CELL_GOOD = 1) ∧
    (∃ (c : CellIx) (s : State), s.cellState c = 0 ∧ s.cellRegion c ≠ 0 ∧ s.get TIM_STAT.CELL_GOOD = 1) := by
  refine ⟨?_, ?_, ?_, ?_, ?_, ?_, ?_⟩
  · refine ⟨0x123456789, { st [(TIM_CTRL.PLL_EN, 1), (TIM_STAT.PLL_LOCK, 0), (TIM_STAT.REF_PRESENT, 1)] with rst := { State.reset.rst with inst := true }, tim := { State.reset.tim with unlockDue := true } }, ?_, ?_, ?_, ?_, ?_⟩
    · first | decide +kernel | rfl
    · first | decide +kernel | rfl
    · first | decide +kernel | rfl
    · first | decide +kernel | rfl
    · first | decide +kernel | rfl
  · refine ⟨0x123456789, { st [(TIM_CTRL.PLL_EN, 1), (TIM_STAT.PLL_LOCK, 0), (TIM_STAT.REF_PRESENT, 1)] with rst := { State.reset.rst with inst := false, por := false } }, ?_, ?_, ?_, ?_⟩
    · first | decide +kernel | rfl
    · first | decide +kernel | rfl
    · first | decide +kernel | rfl
    · first | decide +kernel | rfl
  · refine ⟨0x123456789, true, st [(TIM_STAT.PLL_LOCK, 1)], ?_⟩
    · first | decide +kernel | rfl
  · refine ⟨.sec, { (st ((TIM_CTRL.PLL_EN, 1) :: (TIM_STAT.PLL_LOCK, 1) :: (List.range 32).map fun p => (XPH_PH_STAT.STATE p, 0))) with rst := { State.reset.rst with inst := false, por := false } }, ?_, ?_, ?_, ?_, ?_⟩
    · exact permits_of (by decide +kernel)
    · first | decide +kernel | rfl
    · first | decide +kernel | rfl
    · first | decide +kernel | rfl
    · decide +kernel
  · refine ⟨0x123456789, st [(TIM_STAT.CTRL_GOOD, 1), (TIM_STAT.CELL_GOOD, 0)], ?_, ?_⟩
    · first | decide +kernel | rfl
    · first | decide +kernel | rfl
  · refine ⟨0x123456789, st [(TIM_STAT.CELL_GOOD, 1)], ?_⟩
    · first | decide +kernel | rfl
  · refine ⟨3071, st [(CELL_STAT.STATE (3071 : CellIx), 0), (CELL_MAP_LIVE.REGION (3071 : CellIx), 7), (TIM_STAT.CELL_GOOD, 1)], ?_, ?_, ?_⟩
    · first | decide +kernel | rfl
    · decide +kernel
    · first | decide +kernel | rfl

/-- States and operands that meet the hypotheses of SagSequenceCommandsComplete. -/
theorem witness_SagSequenceCommandsComplete :
    (∃ (e : Dword) (s : State), s.get HOLD_CTRL.EN = 1 ∧ s.rst.scan = false ∧ s.rst.por = false ∧ s.holdState ≠
      0) ∧
    (∃ (e : Dword) (s : State), s.get HOLD_CTRL.EN = 1 ∧ s.rst.scan = false ∧ s.rst.por = false ∧ s.holdState =
      0) ∧
    (∃ (e : Dword) (s : State), s.holdState ≠ 0 ∧ s.fsRuns = true ∧ (s.liveRegions.all (fun n => s.rgnState n ==
      5) = true)) ∧
    (∃ (e : Dword) (s : State), s.holdState ≠ 0 ∧ s.fsRuns = true ∧ (s.liveRegions.all (fun n => s.rgnState n ==
      5) = false)) ∧
    (∃ (e : Dword) (s : State), s.holdState ≠ 0 ∧ s.unsaved = true ∧ s.locked = true ∧ s.get TIM_STAT.CTRL_GOOD
      = 1 ∧ s.rst.inst = false) ∧
    (∃ (e : Dword) (s : State), s.holdState ≠ 0 ∧ s.unsaved = true ∧ s.locked = false) ∧
    (∃ (e : Dword) (s : State), s.holdState = 3 ∧ (s.inst ≠ 0 ∨ s.get HOLD_FRAME.ARMED = 0 ∨ s.hold.kept = [])) ∧
    (∃ (s : State), s.inst = 0 ∧ s.get HOLD_FRAME.ARMED = 1 ∧ s.holdState = 0 ∧ s.hold.kept ≠ []) ∧
    (∃ (e : Dword) (k : Fin 4) (ws : List Word) (s : State), s.hold.todo.head? = some k.val ∧ s.inst ≠ 0 ∧
      s.hold.todo.length ≠ 1) ∧
    (∃ (e : Dword) (miss : List (Fin 1024)) (peers : List (Fin 4)) (s : State), s.holdState = 1 ∧ s.hold.due =
      true ∧ s.hold.edgeDue = false ∧ s.hold.cut = false ∧ s.inst ≠ 0 ∧ s.hold.taken.isSome = true ∧
      peers.contains 0 = true) := by
  refine ⟨?_, ?_, ?_, ?_, ?_, ?_, ?_, ?_, ?_, ?_⟩
  · refine ⟨0x123456789, { st [(HOLD_CTRL.EN, 1), (HOLD_STAT.STATE, 1)] with rst := { State.reset.rst with scan := false, por := false } }, ?_, ?_, ?_, ?_⟩
    · first | decide +kernel | rfl
    · first | decide +kernel | rfl
    · first | decide +kernel | rfl
    · decide +kernel
  · refine ⟨0x123456789, { st [(HOLD_CTRL.EN, 1), (HOLD_STAT.STATE, 0)] with rst := { State.reset.rst with scan := false, por := false } }, ?_, ?_, ?_, ?_⟩
    · first | decide +kernel | rfl
    · first | decide +kernel | rfl
    · first | decide +kernel | rfl
    · first | decide +kernel | rfl
  · refine ⟨0x123456789, st [(HOLD_STAT.STATE, 1), (XPH_STAT.STATE, 2)], ?_, ?_, ?_⟩
    · decide +kernel
    · first | decide +kernel | rfl
    · first | decide +kernel | rfl
  · refine ⟨0x123456789, st [(HOLD_STAT.STATE, 1), (XPH_STAT.STATE, 2), (RGN_STAT.STATE 255, 2)], ?_, ?_, ?_⟩
    · decide +kernel
    · first | decide +kernel | rfl
    · first | decide +kernel | rfl
  · refine ⟨0x123456789, { st [(HOLD_STAT.STATE, 1), (TIM_STAT.PLL_LOCK, 1), (TIM_STAT.CTRL_GOOD, 1)] with rst := { State.reset.rst with inst := false, por := false } }, ?_, ?_, ?_, ?_, ?_⟩
    · decide +kernel
    · first | decide +kernel | rfl
    · first | decide +kernel | rfl
    · first | decide +kernel | rfl
    · first | decide +kernel | rfl
  · refine ⟨0x123456789, st [(HOLD_STAT.STATE, 1), (TIM_STAT.PLL_LOCK, 0)], ?_, ?_, ?_⟩
    · decide +kernel
    · first | decide +kernel | rfl
    · first | decide +kernel | rfl
  · refine ⟨0x123456789, { st [(HOLD_STAT.STATE, 3)] with efuse := { State.reset.efuse with inst := 1 } }, ?_, ?_⟩
    · first | decide +kernel | rfl
    · decide +kernel
  · refine ⟨{ st [(HOLD_FRAME.ARMED, 1), (HOLD_STAT.STATE, 0)] with hold := { State.reset.hold with kept := [2] }, efuse := { State.reset.efuse with inst := 0 } }, ?_, ?_, ?_, ?_⟩
    · first | decide +kernel | rfl
    · first | decide +kernel | rfl
    · first | decide +kernel | rfl
    · decide +kernel
  · refine ⟨0x123456789, 3, [], { State.reset with hold := { State.reset.hold with todo := [3, 0] }, efuse := { State.reset.efuse with inst := 1 } }, ?_, ?_, ?_⟩
    · first | decide +kernel | rfl
    · decide +kernel
    · decide +kernel
  · refine ⟨0x123456789, [], [0], { st [(HOLD_STAT.STATE, 1)] with hold := { State.reset.hold with taken := some [], due := true, edgeDue := false, cut := false }, efuse := { State.reset.efuse with inst := 1 } }, ?_, ?_, ?_, ?_, ?_, ?_, ?_⟩
    · first | decide +kernel | rfl
    · first | decide +kernel | rfl
    · first | decide +kernel | rfl
    · first | decide +kernel | rfl
    · decide +kernel
    · first | decide +kernel | rfl
    · first | decide +kernel | rfl

/-- States and operands that meet the hypotheses of CellCommandsComplete. -/
theorem witness_CellCommandsComplete :
    (∃ (c : CellIx) (s : State), s.cellState c = 2 ∧ s.cellSafe c = false ∧ s.rst.inst = false) ∧
    (∃ (c : CellIx) (uv : ℕ) (s : State), s.cellState c = 2 ∧ s.cellSafe c = false ∧ s.get (CELL_TRIM.VW c) ≠ 0
      ∧ s.rst.inst = false) ∧
    (∃ (c : CellIx) (i : BitVec 13) (f : ℕ) (s : State), s.conducts c = true ∧ s.cellLimit c ≤ i.toInt ∧
      s.rst.inst = false) ∧
    (∃ (c : CellIx) (i : BitVec 13) (f : ℕ) (s : State), (s.conducts c = false ∨ i.toInt < s.cellLimit c) ∧
      s.rst.inst = false) ∧
    (∃ (c : CellIx) (s : State), (seaCatch s).get (CELL_STAT.FOLDBACK c) = 0 ∧ 7680000 ≤ ((seaCatch s).chid
      c).exqf ∧ s.rst.inst = false) ∧
    (∃ (c : CellIx) (s : State), (seaCatch s).get (CELL_STAT.FOLDBACK c) = 0 ∧ ((seaCatch s).chid c).exqf <
      7680000 ∧ s.rst.inst = false) ∧
    (∃ (c : CellIx) (s : State), (seaCatch s).get (CELL_STAT.FOLDBACK c) = 1 ∧ ((seaCatch s).chid c).exqf = 0 ∧
      s.rst.inst = false) ∧
    (∃ (c : CellIx) (s : State), ((seaCatch s).get (CELL_STAT.FOLDBACK c) = 0 ∨ ((seaCatch s).chid c).exqf ≠ 0)
      ∧ s.rst.inst = false) ∧
    (∃ (c : CellIx) (j : Fin 4) (k : ℕ) (d : ℕ) (s : State), s.snsMeets c j k = true ∧ snsRunLength k ≤
      s.cellRunLen c (3 * j + k - 1) ∧ s.snsDue c j = some d ∧ s.rst.inst = false) ∧
    (∃ (req : Requester) (c : CellIx) (x : BitVec 4) (s : State), s.Permits req (CELL_SNS c) (BitVec.ofNat 32
      x.toNat) ∧ s.freshBits (CELL_SNS c) = 0) ∧
    (∃ (req : Requester) (c : CellIx) (s : State), s.Permits req (CELL_CMD c) 0 ∧ s.get (CELL_CMD.PEND c) = 0) ∧
    (∃ (req : Requester) (c : CellIx) (op : BitVec 4) (s : State), s.Permits req (CELL_CMD c) (BitVec.ofNat 32
      op.toNat) ∧ s.get (CELL_CMD.PEND c) = 0 ∧ 7 ≤ op.toNat) ∧
    (∃ (req : Requester) (c : CellIx) (s : State), s.Permits req (CELL_CMD c) 1 ∧ s.get (CELL_CMD.PEND c) = 0 ∧
      s.thisCycle (s.chid c).failAt = false ∧ s.cellState c = 2 ∧ s.get (RGN_FLOOR_LIVE.FLOOR (s.cellRegion c))
      * s.assigned (s.cellRegion c) ≤ 100 * ((s.activeCells (s.cellRegion c)).length - 1) ∧ (s.chid c).entry =
      none) ∧
    (∃ (req : Requester) (c : CellIx) (s : State), s.Permits req (CELL_CMD c) 2 ∧ s.get (CELL_CMD.PEND c) = 0 ∧
      s.thisCycle (s.chid c).failAt = false ∧ s.cellState c = 1 ∧ (s.rgnState (s.cellRegion c) = 2 ∨ s.rgnState
      (s.cellRegion c) = 3) ∧ s.cellRegion c ≠ 0 ∧ s.cellSafe c = false) ∧
    (∃ (req : Requester) (c : CellIx) (s : State), s.Permits req (CELL_CMD c) 3 ∧ s.get (CELL_CMD.PEND c) = 0 ∧
      s.thisCycle (s.chid c).failAt = false ∧ (s.cellState c = 3 ∨ (s.cellState c = 0 ∧ s.get (CELL_STAT.CAUSE
      c) ≠ 0)) ∧ s.cellSafe c = false) ∧
    (∃ (req : Requester) (c : CellIx) (s : State), s.Permits req (CELL_CMD c) 4 ∧ s.get (CELL_CMD.PEND c) = 0 ∧
      s.thisCycle (s.chid c).failAt = false ∧ s.cellState c = 0) ∧
    (∃ (req : Requester) (c : CellIx) (s : State), s.Permits req (CELL_CMD c) 5 ∧ s.get (CELL_CMD.PEND c) = 0 ∧
      s.thisCycle (s.chid c).failAt = false ∧ s.cellState c = 4) ∧
    (∃ (req : Requester) (c : CellIx) (s : State), s.Permits req (CELL_CMD c) 6 ∧ s.get (CELL_CMD.PEND c) = 0 ∧
      s.thisCycle (s.chid c).failAt = false ∧ (s.cellState c = 1 ∨ s.cellState c = 2)) ∧
    (∃ (c : CellIx) (s : State) (op : ℕ), 1 ≤ op ∧ op ≤ 6 ∧ s.get (CELL_CMD.PEND c) = 0 ∧ s.thisCycle (s.chid
      c).failAt = true) ∧
    (∃ (s : State) (a : ℕ), a < 0x1100000 ∧ a ≠ LPE_EVT) := by
  refine ⟨?_, ?_, ?_, ?_, ?_, ?_, ?_, ?_, ?_, ?_, ?_, ?_, ?_, ?_, ?_, ?_, ?_, ?_, ?_, ?_⟩
  · refine ⟨3071, { st [(CELL_STAT.STATE (3071 : CellIx), 2), (TIM_STAT.CELL_GOOD, 1)] with rst := { State.reset.rst with inst := false, por := false } }, ?_, ?_, ?_⟩
    · first | decide +kernel | rfl
    · first | decide +kernel | rfl
    · first | decide +kernel | rfl
  · refine ⟨3071, 1, { st [(CELL_STAT.STATE (3071 : CellIx), 2), (TIM_STAT.CELL_GOOD, 1), (CELL_TRIM.VW (3071 : CellIx), 1)] with rst := { State.reset.rst with inst := false, por := false } }, ?_, ?_, ?_, ?_⟩
    · first | decide +kernel | rfl
    · first | decide +kernel | rfl
    · decide +kernel
    · first | decide +kernel | rfl
  · refine ⟨3071, 0xFFF, 1, { st [(CELL_STAT.STATE 3071, 2), (TIM_STAT.CELL_GOOD, 1), (CELL_TGT_SP.SPMASK 3071, 1)] with rst := { State.reset.rst with inst := false, por := false } }, ?_, ?_, ?_⟩
    · first | decide +kernel | rfl
    · decide +kernel
    · first | decide +kernel | rfl
  · refine ⟨3071, 1, 1, { State.reset with rst := { State.reset.rst with inst := false, por := false } }, ?_, ?_⟩
    · decide +kernel
    · first | decide +kernel | rfl
  · refine ⟨3071, { State.reset with cell := [(3071, { exqf := 7680000 })], rst := { State.reset.rst with inst := false, por := false } }, ?_, ?_, ?_⟩
    · first | decide +kernel | rfl
    · decide +kernel
    · first | decide +kernel | rfl
  · refine ⟨3071, { (st [(CELL_STAT.STATE 3071, 2), (TIM_STAT.CELL_GOOD, 1), (TIM_STAT.PLL_LOCK, 1), (CELL_MAP_LIVE.REGION 3071, 255)]) with rst := { State.reset.rst with inst := false, por := false } }, ?_, ?_, ?_⟩
    · first | decide +kernel | rfl
    · decide +kernel
    · first | decide +kernel | rfl
  · refine ⟨3071, { st [(CELL_STAT.FOLDBACK 3071, 1)] with rst := { State.reset.rst with inst := false, por := false } }, ?_, ?_, ?_⟩
    · first | decide +kernel | rfl
    · first | decide +kernel | rfl
    · first | decide +kernel | rfl
  · refine ⟨3071, { State.reset with rst := { State.reset.rst with inst := false, por := false } }, ?_, ?_⟩
    · decide +kernel
    · first | decide +kernel | rfl
  · refine ⟨3071, 3, 1, 1, { st [(CELL_STAT.STATE 3071, 2), (TIM_STAT.CELL_GOOD, 1), (CELL_MAP_LIVE.REGION 3071, 7), (RGN_STAT.STATE 7, 2), (CELL_VS23.VALID3 3071, 1)] with cell := [(3071, { runs := [(9, 1)] })], tim := { State.reset.tim with edges := 8 }, rst := { State.reset.rst with inst := false, por := false } }, ?_, ?_, ?_, ?_⟩
    · first | decide +kernel | rfl
    · decide +kernel
    · first | decide +kernel | rfl
    · first | decide +kernel | rfl
  · refine ⟨.sec, 3071, 1, { State.reset with rst := { State.reset.rst with inst := false, por := false } }, ?_, ?_⟩
    · exact permits_of (by decide +kernel)
    · first | decide +kernel | rfl
  · refine ⟨.sec, 3071, { st [(CELL_CMD.PEND (3071 : CellIx), 0), (RGN_STAT.STATE 7, 2)] with rst := { State.reset.rst with inst := false, por := false } }, ?_, ?_⟩
    · exact permits_of (by decide +kernel)
    · first | decide +kernel | rfl
  · refine ⟨.sec, 3071, 7, { st [(CELL_CMD.PEND (3071 : CellIx), 0)] with rst := { State.reset.rst with inst := false, por := false } }, ?_, ?_, ?_⟩
    · exact permits_of (by decide +kernel)
    · first | decide +kernel | rfl
    · decide +kernel
  · refine ⟨.sec, 3071, { st [(CELL_CMD.PEND (3071 : CellIx), 0), (CELL_STAT.STATE (3071 : CellIx), 2)] with rst := { State.reset.rst with inst := false, por := false } }, ?_, ?_, ?_, ?_, ?_, ?_⟩
    · exact permits_of (by decide +kernel)
    · first | decide +kernel | rfl
    · first | decide +kernel | rfl
    · first | decide +kernel | rfl
    · decide +kernel
    · first | decide +kernel | rfl
  · refine ⟨.sec, 3071, { st [(CELL_CMD.PEND (3071 : CellIx), 0), (CELL_STAT.STATE (3071 : CellIx), 1), (CELL_MAP_LIVE.REGION (3071 : CellIx), 7), (TIM_STAT.CELL_GOOD, 1), (RGN_STAT.STATE 7, 2), (CELL_MAP_LIVE.REGION 3071, 7)] with rst := { State.reset.rst with inst := false, por := false } }, ?_, ?_, ?_, ?_, ?_, ?_, ?_⟩
    · exact permits_of (by decide +kernel)
    · first | decide +kernel | rfl
    · first | decide +kernel | rfl
    · first | decide +kernel | rfl
    · decide +kernel
    · decide +kernel
    · first | decide +kernel | rfl
  · refine ⟨.sec, 3071, { st [(CELL_CMD.PEND (3071 : CellIx), 0), (CELL_STAT.STATE (3071 : CellIx), 3), (TIM_STAT.CELL_GOOD, 1)] with rst := { State.reset.rst with inst := false, por := false } }, ?_, ?_, ?_, ?_, ?_⟩
    · exact permits_of (by decide +kernel)
    · first | decide +kernel | rfl
    · first | decide +kernel | rfl
    · decide +kernel
    · first | decide +kernel | rfl
  · refine ⟨.sec, 3071, { st [(CELL_CMD.PEND (3071 : CellIx), 0), (CELL_STAT.STATE (3071 : CellIx), 0)] with rst := { State.reset.rst with inst := false, por := false } }, ?_, ?_, ?_, ?_⟩
    · exact permits_of (by decide +kernel)
    · first | decide +kernel | rfl
    · first | decide +kernel | rfl
    · first | decide +kernel | rfl
  · refine ⟨.sec, 3071, { st [(CELL_CMD.PEND (3071 : CellIx), 0), (CELL_STAT.STATE (3071 : CellIx), 4)] with rst := { State.reset.rst with inst := false, por := false } }, ?_, ?_, ?_, ?_⟩
    · exact permits_of (by decide +kernel)
    · first | decide +kernel | rfl
    · first | decide +kernel | rfl
    · first | decide +kernel | rfl
  · refine ⟨.sec, 3071, { st [(CELL_CMD.PEND (3071 : CellIx), 0), (CELL_STAT.STATE (3071 : CellIx), 1)] with rst := { State.reset.rst with inst := false, por := false } }, ?_, ?_, ?_, ?_⟩
    · exact permits_of (by decide +kernel)
    · first | decide +kernel | rfl
    · first | decide +kernel | rfl
    · decide +kernel
  · refine ⟨3071, { st [(CELL_CMD.PEND (3071 : CellIx), 0)] with cell := [(3071, { failAt := some 0 })] }, 1, ?_, ?_, ?_, ?_⟩
    · decide +kernel
    · decide +kernel
    · first | decide +kernel | rfl
    · first | decide +kernel | rfl
  · refine ⟨State.reset, 1, ?_, ?_⟩
    · decide +kernel
    · decide +kernel

/-- States and operands that meet the hypotheses of CellTestAndFailureCommandsComplete. -/
theorem witness_CellTestAndFailureCommandsComplete :
    (∃ (c : CellIx) (s : State), (s.chid c).pre ≠ .none ∧ (s.chid c).pre ≠ .join ∧ s.cellState c = 1 ∧
      s.cellSafe c = false ∧ s.rst.inst = false) ∧
    (∃ (c : CellIx) (s : State), (s.chid c).pre = .join ∧ s.cellState c = 1 ∧ s.cellSafe c = false ∧ s.rst.inst
      = false) ∧
    (∃ (c : CellIx) (s : State), s.get (CELL_CMD.PEND c) = 1 ∧ (s.chid c).cmd = 3 ∧ s.cellState c = 3 ∧
      s.cellSafe c = false ∧ (s.chid c).entry = none ∧ s.rst.inst = false) ∧
    (∃ (c : CellIx) (s : State), s.get (CELL_CMD.PEND c) = 1 ∧ (s.chid c).cmd = 3 ∧ s.cellSafe c = false ∧
      s.rst.inst = false) ∧
    (∃ (e : Dword) (c : CellIx) (k : ℕ) (s : State), (s.advanceTo e).mayFail c k = true ∧ s.cellState c ≠ 4 ∧ (∀
      j, (s.chid c).failAt = some j → j ≠ (s.advanceTo e).cks) ∧ (∀ u, (s.chid c).undo = some u → u.cks ≠
      (s.advanceTo e).cks) ∧ s.rst.inst = false) ∧
    (∃ (e : Dword) (c : CellIx) (k : ℕ) (s : State), (s.advanceTo e).mayFail c k = true ∧ s.cellState c = 4 ∧
      s.get (CELL_TEST.GO c) = 1 ∧ (∀ j, (s.chid c).failAt = some j → j ≠ (s.advanceTo e).cks) ∧ (∀ u, (s.chid
      c).undo = some u → u.cks ≠ (s.advanceTo e).cks) ∧ s.rst.inst = false) ∧
    (∃ (c : CellIx) (k : Fin 16) (s : State), s.get (CELL_CMD.PEND c) = 0) ∧
    (∃ (req : Requester) (c : CellIx) (v : Word) (s : State), s.Permits req (CELL_TEST c) v ∧ s.get
      (CELL_TEST.GO c) = 0 ∧ s.cellState c = 4 ∧ (s.chid c).biasBad = false ∧ fldGet v 3 3 = 1 ∧ (storeReg
      (CELL_TEST c) v s).get (CELL_TEST.MODE c) ≠ 0) ∧
    (∃ (req : Requester) (c : CellIx) (v : Word) (s : State), s.Permits req (CELL_TEST c) v ∧ s.get
      (CELL_TEST.GO c) = 1 ∧ fldGet v 2 0 = 0) ∧
    (∃ (c : CellIx) (r : TestResult) (a : ℕ) (b : ℕ) (s : State), s.get (CELL_TEST.GO c) = 1 ∧ s.testResult c r
      = some (a, b) ∧ (s.cellSafe c = false ∨ s.get (CELL_TEST.MODE c) = 4) ∧ s.rst.inst = false) ∧
    (∃ (c : CellIx) (r : TestResult) (s : State), s.get (CELL_TEST.GO c) = 1 ∧ (s.testResult c r = none ∨
      (s.cellSafe c = true ∧ s.get (CELL_TEST.MODE c) ≠ 4)) ∧ s.rst.inst = false) := by
  refine ⟨?_, ?_, ?_, ?_, ?_, ?_, ?_, ?_, ?_, ?_, ?_⟩
  · refine ⟨3071, { st [(CELL_STAT.STATE (3071 : CellIx), 1), (TIM_STAT.CELL_GOOD, 1)] with cell := [(3071, { pre := .region })], rst := { State.reset.rst with inst := false, por := false } }, ?_, ?_, ?_, ?_, ?_⟩
    · decide +kernel
    · decide +kernel
    · first | decide +kernel | rfl
    · first | decide +kernel | rfl
    · first | decide +kernel | rfl
  · refine ⟨3071, { st [(CELL_STAT.STATE (3071 : CellIx), 1), (TIM_STAT.CELL_GOOD, 1)] with cell := [(3071, { pre := .join })], rst := { State.reset.rst with inst := false, por := false } }, ?_, ?_, ?_, ?_⟩
    · first | decide +kernel | rfl
    · first | decide +kernel | rfl
    · first | decide +kernel | rfl
    · first | decide +kernel | rfl
  · refine ⟨3071, { st [(CELL_CMD.PEND (3071 : CellIx), 1), (CELL_STAT.STATE (3071 : CellIx), 3), (TIM_STAT.CELL_GOOD, 1)] with cell := [(3071, { cmd := 3 })], rst := { State.reset.rst with inst := false, por := false } }, ?_, ?_, ?_, ?_, ?_, ?_⟩
    · first | decide +kernel | rfl
    · first | decide +kernel | rfl
    · first | decide +kernel | rfl
    · first | decide +kernel | rfl
    · first | decide +kernel | rfl
    · first | decide +kernel | rfl
  · refine ⟨3071, { st [(CELL_CMD.PEND (3071 : CellIx), 1), (TIM_STAT.CELL_GOOD, 1)] with cell := [(3071, { cmd := 3 })], rst := { State.reset.rst with inst := false, por := false } }, ?_, ?_, ?_, ?_⟩
    · first | decide +kernel | rfl
    · first | decide +kernel | rfl
    · first | decide +kernel | rfl
    · first | decide +kernel | rfl
  · refine ⟨0x123456789, 3071, 2, { st [(CELL_STAT.STATE (3071 : CellIx), 0), (CELL_STAT.STATE 3071, 1)] with rst := { State.reset.rst with inst := false, por := false } }, ?_, ?_, ?_, ?_, ?_⟩
    · first | decide +kernel | rfl
    · decide +kernel
    · first | decide +kernel | rfl
    · first | decide +kernel | rfl
    · first | decide +kernel | rfl
  · refine ⟨0x123456789, 3071, 2, { st [(CELL_STAT.STATE (3071 : CellIx), 4), (CELL_TEST.GO (3071 : CellIx), 1)] with rst := { State.reset.rst with inst := false, por := false } }, ?_, ?_, ?_, ?_, ?_, ?_⟩
    · first | decide +kernel | rfl
    · first | decide +kernel | rfl
    · first | decide +kernel | rfl
    · first | decide +kernel | rfl
    · first | decide +kernel | rfl
    · first | decide +kernel | rfl
  · refine ⟨3071, 15, st [(CELL_CMD.PEND (3071 : CellIx), 0)], ?_⟩
    · first | decide +kernel | rfl
  · refine ⟨.sec, 3071, 9, { st [(CELL_TEST.GO (3071 : CellIx), 0), (CELL_STAT.STATE (3071 : CellIx), 4)] with rst := { State.reset.rst with inst := false, por := false } }, ?_, ?_, ?_, ?_, ?_, ?_⟩
    · exact permits_of (by decide +kernel)
    · first | decide +kernel | rfl
    · first | decide +kernel | rfl
    · first | decide +kernel | rfl
    · first | decide +kernel | rfl
    · decide +kernel
  · refine ⟨.sec, 3071, 0, { st [(CELL_TEST.GO (3071 : CellIx), 1)] with rst := { State.reset.rst with inst := false, por := false } }, ?_, ?_, ?_⟩
    · exact permits_of (by decide +kernel)
    · first | decide +kernel | rfl
    · first | decide +kernel | rfl
  · refine ⟨3071, ⟨5, .raws 100 200 300 400, true⟩, 5, 100, { st [(CELL_TEST.GO (3071 : CellIx), 1), (CELL_TEST.MODE 3071, 1), (TIM_STAT.CELL_GOOD, 1)] with rst := { State.reset.rst with inst := false, por := false } }, ?_, ?_, ?_, ?_⟩
    · first | decide +kernel | rfl
    · first | decide +kernel | rfl
    · decide +kernel
    · first | decide +kernel | rfl
  · refine ⟨3071, ⟨0, .word 0, false⟩, { st [(CELL_TEST.GO (3071 : CellIx), 1)] with rst := { State.reset.rst with inst := false, por := false } }, ?_, ?_, ?_⟩
    · first | decide +kernel | rfl
    · decide +kernel
    · first | decide +kernel | rfl

/-- States and operands that meet the hypotheses of ConfigurationCommandsComplete. -/
theorem witness_ConfigurationCommandsComplete :
    (∃ (req : Requester) (v : Word) (s : State), s.Permits req RGN_CFG_CTRL (v ||| 1) ∧ s.get RGN_CFG_STAT.BUSY
      = 0) ∧
    (∃ (req : Requester) (v : Word) (s : State), s.Permits req RGN_CFG_CTRL (v ||| 1) ∧ s.get RGN_CFG_STAT.BUSY
      = 1) ∧
    (∃ (req : Requester) (s : State), s.Permits req RGN_CFG_CTRL 2 ∧ s.get RGN_CFG_STAT.BUSY = 0) ∧
    (∃ (s : State), s.cfg = .validating ∧ s.commitCheck.1 = 0 ∧ s.rst.inst = false) ∧
    (∃ (k : ℕ) (n : ℕ) (s : State), s.cfg = .validating ∧ s.commitCheck = (k, n) ∧ k ≠ 0 ∧ k < 16 ∧ n < 256 ∧
      s.rst.inst = false) ∧
    (∃ (e : Dword) (s : State), s.cfg = .waiting ∧ s.affectedRegions.any s.blocksCommit = false ∧ s.rst.inst =
      false) ∧
    (∃ (e : Dword) (n : ℕ) (s : State), s.cfg = .waiting ∧ s.affectedRegions.find? s.blocksCommit = some n ∧ n <
      256 ∧ s.rst.inst = false) ∧
    (∃ (s : State), s.cfg = .reverting ∧ s.rst.inst = false) ∧
    (∃ (s : State), s.cfg = .reverting ∧ s.rst.inst = false) ∧
    (∃ (req : Requester) (n : RegionIx) (v : Word) (s : State), n.val ≠ 0 ∧ s.Permits req (RGN_VSET n) v ∧
      (storeReg (RGN_VSET n) v s).profiled n = false) ∧
    (∃ (req : Requester) (n : RegionIx) (v : Word) (s : State), n.val ≠ 0 ∧ s.Permits req (RGN_VSET n) v ∧
      (storeReg (RGN_VSET n) v s).profiled n = true) := by
  refine ⟨?_, ?_, ?_, ?_, ?_, ?_, ?_, ?_, ?_, ?_, ?_⟩
  · refine ⟨.sec, 1, { st [(RGN_CFG_STAT.BUSY, 0)] with rst := { State.reset.rst with inst := false, por := false } }, ?_, ?_⟩
    · exact permits_of (by decide +kernel)
    · first | decide +kernel | rfl
  · refine ⟨.sec, 1, { st [(RGN_CFG_STAT.BUSY, 1)] with rst := { State.reset.rst with inst := false, por := false } }, ?_, ?_⟩
    · exact permits_of (by decide +kernel)
    · first | decide +kernel | rfl
  · refine ⟨.sec, { st [(RGN_CFG_STAT.BUSY, 0)] with rst := { State.reset.rst with inst := false, por := false } }, ?_, ?_⟩
    · exact permits_of (by decide +kernel)
    · first | decide +kernel | rfl
  · refine ⟨{ State.reset with cfg := .validating, rst := { State.reset.rst with inst := false, por := false } }, ?_, ?_, ?_⟩
    · first | decide +kernel | rfl
    · first | decide +kernel | rfl
    · first | decide +kernel | rfl
  · refine ⟨2, 255, { st [(RGN_LIM.VMIN 255, 41), (RGN_LIM.VMAX 255, 40)] with cfg := .validating, rst := { State.reset.rst with inst := false, por := false } }, ?_, ?_, ?_, ?_, ?_, ?_⟩
    · first | decide +kernel | rfl
    · first | decide +kernel | rfl
    · decide +kernel
    · decide +kernel
    · decide +kernel
    · first | decide +kernel | rfl
  · refine ⟨0x123456789, { State.reset with cfg := .waiting, rst := { State.reset.rst with inst := false, por := false } }, ?_, ?_, ?_⟩
    · first | decide +kernel | rfl
    · first | decide +kernel | rfl
    · first | decide +kernel | rfl
  · refine ⟨0x123456789, 255, { st [(RGN_STAT.STATE 255, 1), (RGN_LIM.VMIN 255, 41)] with cfg := .waiting, rst := { State.reset.rst with inst := false, por := false } }, ?_, ?_, ?_, ?_⟩
    · first | decide +kernel | rfl
    · first | decide +kernel | rfl
    · decide +kernel
    · first | decide +kernel | rfl
  · refine ⟨{ State.reset with cfg := .reverting, rst := { State.reset.rst with inst := false, por := false } }, ?_, ?_⟩
    · first | decide +kernel | rfl
    · first | decide +kernel | rfl
  · refine ⟨{ State.reset with cfg := .reverting, rst := { State.reset.rst with inst := false, por := false } }, ?_, ?_⟩
    · first | decide +kernel | rfl
    · first | decide +kernel | rfl
  · refine ⟨.sec, 255, 1, { State.reset with rst := { State.reset.rst with inst := false, por := false } }, ?_, ?_, ?_⟩
    · decide +kernel
    · exact permits_of (by decide +kernel)
    · first | decide +kernel | rfl
  · refine ⟨.sec, 255, 1, { st [(RGN_STAT.STATE 255, 2), (RGN_PROF_LIVE.PG_EN 255, 1)] with rst := { State.reset.rst with inst := false, por := false } }, ?_, ?_, ?_⟩
    · decide +kernel
    · exact permits_of (by decide +kernel)
    · first | decide +kernel | rfl

/-- States and operands that meet the hypotheses of RegionCommandsComplete. -/
theorem witness_RegionCommandsComplete :
    (∃ (k : ℕ) (r : ℕ) (u : State), r < 256 ∧ k ≠ 0 ∧ k < 256) ∧
    (∃ (req : Requester) (n : RegionIx) (s : State), n.val ≠ 0 ∧ s.Permits req (RGN_CMD n) 0 ∧ s.get
      (RGN_CMD.PEND n) = 0 ∧ s.get VL_STAT.CFG_COMMITTED = 1) ∧
    (∃ (req : Requester) (n : RegionIx) (s : State), n.val ≠ 0 ∧ s.Permits req (RGN_CMD n) 0 ∧ s.get
      (RGN_CMD.PEND n) = 0 ∧ s.get VL_STAT.CFG_COMMITTED = 0) ∧
    (∃ (req : Requester) (n : RegionIx) (s : State), n.val ≠ 0 ∧ s.Permits req (RGN_CMD n) 1 ∧ s.get
      (RGN_CMD.PEND n) = 0 ∧ s.get VL_STAT.CFG_COMMITTED = 1 ∧ s.get THM_STAT.STATE = 0 ∧ s.rgnState n = 0 ∧
      s.get XPH_STAT.STATE = 2 ∧ s.get TIM_STAT.CELL_GOOD = 1 ∧ s.assigned n ≠ 0 ∧ s.assigned n ≤ 2 * s.healthy
      n) ∧
    (∃ (req : Requester) (n : RegionIx) (s : State), n.val ≠ 0 ∧ s.Permits req (RGN_CMD n) 1 ∧ s.get
      (RGN_CMD.PEND n) = 0 ∧ s.get VL_STAT.CFG_COMMITTED = 1 ∧ s.get THM_STAT.STATE = 0 ∧ s.rgnState n = 4) ∧
    (∃ (req : Requester) (n : RegionIx) (s : State), n.val ≠ 0 ∧ s.Permits req (RGN_CMD n) 2 ∧ s.get
      (RGN_CMD.PEND n) = 0 ∧ s.get VL_STAT.CFG_COMMITTED = 1 ∧ (s.rgnState n = 1 ∨ s.rgnState n = 2 ∨ s.rgnState
      n = 3)) ∧
    (∃ (req : Requester) (n : RegionIx) (s : State), n.val ≠ 0 ∧ s.Permits req (RGN_CMD n) 3 ∧ s.get
      (RGN_CMD.PEND n) = 0 ∧ s.get VL_STAT.CFG_COMMITTED = 1 ∧ s.rgnState n = 5 ∧ s.thisCycle (s.rhid n).faultAt
      = false) ∧
    (∃ (req : Requester) (n : RegionIx) (op : BitVec 4) (s : State), n.val ≠ 0 ∧ s.Permits req (RGN_CMD n)
      (BitVec.ofNat 32 op.toNat) ∧ s.get (RGN_CMD.PEND n) = 0 ∧ 4 ≤ op.toNat ∧ s.get VL_STAT.CFG_COMMITTED = 1) ∧
    (∃ (k : ℕ) (op : ℕ) (u : State), 1 ≤ op ∧ op ≤ 3 ∧ u.get (RGN_CMD.PEND k) = 0 ∧ u.rgnState k = 5 ∧
      u.thisCycle (u.rhid k).faultAt = true) ∧
    (∃ (k : ℕ) (op : ℕ) (u : State), u.get (RGN_CMD.PEND k) = 1) ∧
    (∃ (k : ℕ) (s : State), (s.rhid k).cmd = 1 ∧ s.rgnState k = 0 ∧ s.enableStatus k = 0) ∧
    (∃ (k : ℕ) (s : State), (s.rhid k).cmd = 2 ∧ (s.rgnState k = 2 ∨ s.rgnState k = 3) ∧ s.get
      VL_STAT.CFG_COMMITTED = 1) ∧
    (∃ (k : ℕ) (s : State), (s.rhid k).cmd = 2 ∧ s.rgnState k = 1 ∧ s.get VL_STAT.CFG_COMMITTED = 1) ∧
    (∃ (k : ℕ) (s : State), (s.rhid k).cmd = 3 ∧ s.rgnState k = 5 ∧ s.get VL_STAT.CFG_COMMITTED = 1) ∧
    (∃ (e : Dword) (n : RegionIx) (s : State), n.val ≠ 0 ∧ s.get (RGN_STAT.ENABLE_PENDING n) = 1 ∧ s.rgnState n
      = 0 ∧ s.activeCells n = [] ∧ s.rst.inst = false) ∧
    (∃ (e : Dword) (n : RegionIx) (s : State), n.val ≠ 0 ∧ s.rgnState n = 1 ∧ (s.rhid n).first = false ∧ (s.rhid
      n).ref = s.rampTarget n ∧ 16 ≤ (s.rhid n).good ∧ s.rst.inst = false) ∧
    (∃ (e : Dword) (n : RegionIx) (t0 : ℕ) (s : State), n.val ≠ 0 ∧ s.rgnState n = 1 ∧ (s.rhid n).lag = some t0
      ∧ t0 + 800 * s.get (RGN_SS_LIVE.WIN n) ≤ (s.advanceTo e).now ∧ s.rst.inst = false) ∧
    (∃ (e : Dword) (n : RegionIx) (k : ℕ) (s : State), n.val ≠ 0 ∧ s.rgnState n = 1 ∧ s.activeCells n ≠ [] ∧
      ((s.activeCells n).length ≤ 4 * ((s.activeCells n).filter fun c => s.bit (CELL_STAT.ILIM c)).length) ∧
      (s.rhid n).short = some k ∧ k + 3 ≤ (s.advanceTo e).cks ∧ s.rst.inst = false) ∧
    (∃ (e : Dword) (n : RegionIx) (k : ℕ) (s : State), n.val ≠ 0 ∧ 1 ≤ s.rgnState n ∧ s.rgnState n ≤ 4 ∧
      s.treeCount n = 0 ∧ (s.rhid n).blind = some k ∧ k + 63 ≤ (s.advanceTo e).cks ∧ s.rst.inst = false) ∧
    (∃ (req : Requester) (n : RegionIx) (s : State), n.val ≠ 0 ∧ s.Permits req (VSN_CTRL n) 1) ∧
    (∃ (req : Requester) (n : RegionIx) (s : State), n.val ≠ 0 ∧ s.rst.inst = false) ∧
    (∃ (e : Dword) (n : RegionIx) (v : BitVec 11) (x : BitVec 14) (s : State), n.val ≠ 0 ∧ s.rst.inst = false) := by
  refine ⟨?_, ?_, ?_, ?_, ?_, ?_, ?_, ?_, ?_, ?_, ?_, ?_, ?_, ?_, ?_, ?_, ?_, ?_, ?_, ?_, ?_, ?_⟩
  · refine ⟨1, 1, State.reset, ?_, ?_, ?_⟩
    · decide +kernel
    · decide +kernel
    · decide +kernel
  · refine ⟨.sec, 255, { st [(RGN_CMD.PEND (255 : RegionIx), 0), (VL_STAT.CFG_COMMITTED, 1)] with rst := { State.reset.rst with inst := false, por := false } }, ?_, ?_, ?_, ?_⟩
    · decide +kernel
    · exact permits_of (by decide +kernel)
    · first | decide +kernel | rfl
    · first | decide +kernel | rfl
  · refine ⟨.sec, 255, { st [(RGN_CMD.PEND (255 : RegionIx), 0), (VL_STAT.CFG_COMMITTED, 0), (CELL_MAP_LIVE.REGION 3071, 255), (CELL_STAT.STATE 3071, 1)] with rst := { State.reset.rst with inst := false, por := false } }, ?_, ?_, ?_, ?_⟩
    · decide +kernel
    · exact permits_of (by decide +kernel)
    · first | decide +kernel | rfl
    · first | decide +kernel | rfl
  · refine ⟨.sec, 255, { st [(RGN_CMD.PEND (255 : RegionIx), 0), (VL_STAT.CFG_COMMITTED, 1), (THM_STAT.STATE, 0), (RGN_STAT.STATE (255 : RegionIx), 0), (XPH_STAT.STATE, 2), (TIM_STAT.CELL_GOOD, 1), (CELL_MAP_LIVE.REGION 3071, 255), (CELL_STAT.STATE 3071, 2)] with rst := { State.reset.rst with inst := false, por := false } }, ?_, ?_, ?_, ?_, ?_, ?_, ?_, ?_, ?_, ?_⟩
    · decide +kernel
    · exact permits_of (by decide +kernel)
    · first | decide +kernel | rfl
    · first | decide +kernel | rfl
    · first | decide +kernel | rfl
    · first | decide +kernel | rfl
    · first | decide +kernel | rfl
    · first | decide +kernel | rfl
    · decide +kernel
    · decide +kernel
  · refine ⟨.sec, 255, { st [(RGN_CMD.PEND (255 : RegionIx), 0), (VL_STAT.CFG_COMMITTED, 1), (THM_STAT.STATE, 0), (RGN_STAT.STATE (255 : RegionIx), 4)] with rst := { State.reset.rst with inst := false, por := false } }, ?_, ?_, ?_, ?_, ?_, ?_⟩
    · decide +kernel
    · exact permits_of (by decide +kernel)
    · first | decide +kernel | rfl
    · first | decide +kernel | rfl
    · first | decide +kernel | rfl
    · first | decide +kernel | rfl
  · refine ⟨.sec, 255, { st [(RGN_CMD.PEND (255 : RegionIx), 0), (VL_STAT.CFG_COMMITTED, 1), (RGN_STAT.STATE (255 : RegionIx), 1)] with rst := { State.reset.rst with inst := false, por := false } }, ?_, ?_, ?_, ?_, ?_⟩
    · decide +kernel
    · exact permits_of (by decide +kernel)
    · first | decide +kernel | rfl
    · first | decide +kernel | rfl
    · decide +kernel
  · refine ⟨.sec, 255, { st [(RGN_CMD.PEND (255 : RegionIx), 0), (VL_STAT.CFG_COMMITTED, 1), (RGN_STAT.STATE (255 : RegionIx), 5)] with rst := { State.reset.rst with inst := false, por := false } }, ?_, ?_, ?_, ?_, ?_, ?_⟩
    · decide +kernel
    · exact permits_of (by decide +kernel)
    · first | decide +kernel | rfl
    · first | decide +kernel | rfl
    · first | decide +kernel | rfl
    · first | decide +kernel | rfl
  · refine ⟨.sec, 255, 4, { st [(RGN_CMD.PEND (255 : RegionIx), 0), (VL_STAT.CFG_COMMITTED, 1)] with rst := { State.reset.rst with inst := false, por := false } }, ?_, ?_, ?_, ?_, ?_⟩
    · decide +kernel
    · exact permits_of (by decide +kernel)
    · first | decide +kernel | rfl
    · decide +kernel
    · first | decide +kernel | rfl
  · refine ⟨1, 1, { st [(RGN_CMD.PEND 1, 0), (RGN_STAT.STATE 1, 5)] with rgn := [(1, { faultAt := some 0 })] }, ?_, ?_, ?_, ?_, ?_⟩
    · decide +kernel
    · decide +kernel
    · first | decide +kernel | rfl
    · first | decide +kernel | rfl
    · first | decide +kernel | rfl
  · refine ⟨1, 1, st [(RGN_CMD.PEND 1, 1)], ?_⟩
    · first | decide +kernel | rfl
  · refine ⟨1, { st [(RGN_STAT.STATE 1, 0), (CELL_MAP_LIVE.REGION 3071, 1), (CELL_STAT.STATE 3071, 1), (VL_STAT.CFG_COMMITTED, 1), (XPH_STAT.STATE, 2), (TIM_STAT.CELL_GOOD, 1)] with rgn := [(1, { cmd := 1 })] }, ?_, ?_, ?_⟩
    · first | decide +kernel | rfl
    · first | decide +kernel | rfl
    · first | decide +kernel | rfl
  · refine ⟨1, { st [(RGN_STAT.STATE 1, 2), (VL_STAT.CFG_COMMITTED, 1), (RGN_STAT.STATE 1, 2)] with rgn := [(1, { cmd := 2 })] }, ?_, ?_, ?_⟩
    · first | decide +kernel | rfl
    · decide +kernel
    · first | decide +kernel | rfl
  · refine ⟨1, { st [(RGN_STAT.STATE 1, 1), (VL_STAT.CFG_COMMITTED, 1)] with rgn := [(1, { cmd := 2 })] }, ?_, ?_, ?_⟩
    · first | decide +kernel | rfl
    · first | decide +kernel | rfl
    · first | decide +kernel | rfl
  · refine ⟨1, { st [(RGN_STAT.STATE 1, 5), (VL_STAT.CFG_COMMITTED, 1)] with rgn := [(1, { cmd := 3 })] }, ?_, ?_, ?_⟩
    · first | decide +kernel | rfl
    · first | decide +kernel | rfl
    · first | decide +kernel | rfl
  · refine ⟨0x123456789, 255, { st [(RGN_STAT.ENABLE_PENDING (255 : RegionIx), 1), (RGN_STAT.STATE (255 : RegionIx), 0)] with rst := { State.reset.rst with inst := false, por := false } }, ?_, ?_, ?_, ?_, ?_⟩
    · decide +kernel
    · first | decide +kernel | rfl
    · first | decide +kernel | rfl
    · first | decide +kernel | rfl
    · first | decide +kernel | rfl
  · refine ⟨0x123456789, 255, { st [(RGN_STAT.STATE (255 : RegionIx), 1), (RGN_VSET.CODE 255, 280), (RGN_LIM_LIVE.VMIN 255, 40), (RGN_LIM_LIVE.VMAX 255, 400)] with rgn := [(255, { ref := 3000, good := 16 })], rst := { State.reset.rst with inst := false, por := false } }, ?_, ?_, ?_, ?_, ?_, ?_⟩
    · decide +kernel
    · first | decide +kernel | rfl
    · first | decide +kernel | rfl
    · first | decide +kernel | rfl
    · decide +kernel
    · first | decide +kernel | rfl
  · refine ⟨10000, 255, 1, { st [(RGN_STAT.STATE (255 : RegionIx), 1), (RGN_SS_LIVE.WIN 255, 1), (TIM_STAT.PLL_LOCK, 1)] with rgn := [(255, { lag := some 1 })], rst := { State.reset.rst with inst := false, por := false } }, ?_, ?_, ?_, ?_, ?_⟩
    · decide +kernel
    · first | decide +kernel | rfl
    · first | decide +kernel | rfl
    · decide +kernel
    · first | decide +kernel | rfl
  · refine ⟨0x123456789, 255, 1, { st [(RGN_STAT.STATE (255 : RegionIx), 1), (CELL_MAP_LIVE.REGION 3071, 255), (CELL_STAT.STATE 3071, 2), (CELL_STAT.ILIM 3071, 1)] with rgn := [(255, { short := some 1 })], tim := { State.reset.tim with edges := 8 }, rst := { State.reset.rst with inst := false, por := false } }, ?_, ?_, ?_, ?_, ?_, ?_, ?_⟩
    · decide +kernel
    · first | decide +kernel | rfl
    · decide +kernel
    · decide +kernel
    · first | decide +kernel | rfl
    · decide +kernel
    · first | decide +kernel | rfl
  · refine ⟨0x123456789, 255, 1, { st [(RGN_STAT.STATE 255, 1)] with rgn := [(255, { blind := some 1 })], tim := { State.reset.tim with edges := 128 }, rst := { State.reset.rst with inst := false, por := false } }, ?_, ?_, ?_, ?_, ?_, ?_, ?_⟩
    · decide +kernel
    · decide +kernel
    · decide +kernel
    · first | decide +kernel | rfl
    · first | decide +kernel | rfl
    · decide +kernel
    · first | decide +kernel | rfl
  · refine ⟨.sec, 255, { State.reset with rst := { State.reset.rst with inst := false, por := false } }, ?_, ?_⟩
    · decide +kernel
    · exact permits_of (by decide +kernel)
  · refine ⟨.sec, 255, { State.reset with rst := { State.reset.rst with inst := false, por := false } }, ?_, ?_⟩
    · decide +kernel
    · first | decide +kernel | rfl
  · refine ⟨0x123456789, 255, 1, 1, { State.reset with rst := { State.reset.rst with inst := false, por := false } }, ?_, ?_⟩
    · decide +kernel
    · first | decide +kernel | rfl

/-- States and operands that meet the hypotheses of FrontStageCommandsComplete. -/
theorem witness_FrontStageCommandsComplete :
    (∃ (req : Requester) (s : State), s.Permits req XPH_CMD 1 ∧ s.get XPH_CMD.PEND = 0 ∧ s.fsState = 0 ∧
      s.startReady = true) ∧
    (∃ (req : Requester) (s : State), s.Permits req XPH_CMD 1 ∧ s.get XPH_CMD.PEND = 0 ∧ s.fsState = 0 ∧
      s.startReady = false) ∧
    (∃ (req : Requester) (s : State), s.Permits req XPH_CMD 2 ∧ s.get XPH_CMD.PEND = 0 ∧ (s.fsState = 1 ∨
      s.fsState = 2) ∧ (∀ n ∈ s.liveRegions, s.rgnState n = 5)) ∧
    (∃ (req : Requester) (s : State), s.Permits req XPH_CMD 3 ∧ s.get XPH_CMD.PEND = 0 ∧ s.fsState = 4 ∧
      s.causeGone = true) ∧
    (∃ (req : Requester) (s : State), s.Permits req XPH_CMD 3 ∧ s.get XPH_CMD.PEND = 0 ∧ s.fsState = 4 ∧
      s.causeGone = false) ∧
    (∃ (req : Requester) (s : State), s.Permits req XPH_CMD 0 ∧ s.get XPH_CMD.PEND = 0) ∧
    (∃ (req : Requester) (op : BitVec 4) (s : State), s.Permits req XPH_CMD (BitVec.ofNat 32 op.toNat) ∧ s.get
      XPH_CMD.PEND = 0 ∧ 4 ≤ op.toNat) ∧
    (∃ (e : Dword) (s : State), s.fsState = 1 ∧ s.xph.refOn = false ∧ s.rst.inst = false) ∧
    (∃ (e : Dword) (s : State), s.fsState = 1 ∧ s.xph.refOn = true ∧ s.rst.inst = false) ∧
    (∃ (e : Dword) (s : State), s.fsState = 2 ∧ s.rst.inst = false) ∧
    (∃ (e : Dword) (t0 : ℕ) (s : State), s.fsState = 1 ∧ s.xph.refOn = true ∧ s.xph.ref = 25 * s.get
      XPH_VSET.CODE ∧ s.xph.near = some t0 ∧ t0 + 8000 ≤ (s.advanceTo e).now ∧ s.rst.inst = false) ∧
    (∃ (e : Dword) (s : State), (s.fsState ≠ 1 ∨ s.xph.refOn = false ∨ s.xph.ref ≠ 25 * s.get XPH_VSET.CODE ∨
      s.xph.near = none) ∧ s.rst.inst = false) ∧
    (∃ (k : ℕ) (s : State), k < 16) ∧
    (∃ (e : Dword) (t0 : ℕ) (s : State), s.fsState = 1 ∧ s.xph.low = some t0 ∧ t0 + 800 * s.get XPH_SS.NR_WIN ≤
      (s.advanceTo e).now ∧ s.rst.inst = false) ∧
    (∃ (e : Dword) (t0 : ℕ) (s : State), s.fsState = 2 ∧ s.xph.under = some t0 ∧ t0 + 800 * s.get XPH_SS.NR_WIN
      ≤ (s.advanceTo e).now ∧ s.rst.inst = false) ∧
    (∃ (e : Dword) (s : State), s.fsState = 3 ∧ s.rst.inst = false) ∧
    (∃ (req : Requester) (up : Bool) (v : Word) (s : State), s.Permits req (if up then XPH_VIMPT23 else
      XPH_VIMPT01) v) ∧
    (∃ (e : Dword) (k : Fin 4) (s : State), s.vimPoints.contains k.val = true ∧ 3 ≤ s.vimPoints.length ∧ 8 ≤
      mapGet 0 s.xph.ptRun k ∧ s.rst.inst = false) := by
  refine ⟨?_, ?_, ?_, ?_, ?_, ?_, ?_, ?_, ?_, ?_, ?_, ?_, ?_, ?_, ?_, ?_, ?_, ?_⟩
  · refine ⟨.sec, { st [(XPH_CMD.PEND, 0), (XPH_STAT.STATE, 0), (TIM_STAT.PLL_LOCK, 1), (XPH_IN.V12, 12000)] with rst := { State.reset.rst with inst := false, por := false } }, ?_, ?_, ?_, ?_⟩
    · exact permits_of (by decide +kernel)
    · first | decide +kernel | rfl
    · first | decide +kernel | rfl
    · first | decide +kernel | rfl
  · refine ⟨.sec, { st [(XPH_CMD.PEND, 0), (XPH_STAT.STATE, 0)] with rst := { State.reset.rst with inst := false, por := false } }, ?_, ?_, ?_, ?_⟩
    · exact permits_of (by decide +kernel)
    · first | decide +kernel | rfl
    · first | decide +kernel | rfl
    · first | decide +kernel | rfl
  · refine ⟨.sec, { st [(XPH_CMD.PEND, 0), (XPH_STAT.STATE, 1)] with rst := { State.reset.rst with inst := false, por := false } }, ?_, ?_, ?_, ?_⟩
    · exact permits_of (by decide +kernel)
    · first | decide +kernel | rfl
    · decide +kernel
    · first | decide +kernel | rfl
  · refine ⟨.sec, { st [(XPH_CMD.PEND, 0), (XPH_STAT.STATE, 4)] with rst := { State.reset.rst with inst := false, por := false } }, ?_, ?_, ?_, ?_⟩
    · exact permits_of (by decide +kernel)
    · first | decide +kernel | rfl
    · first | decide +kernel | rfl
    · first | decide +kernel | rfl
  · refine ⟨.sec, { st [(XPH_CMD.PEND, 0), (XPH_STAT.STATE, 4), (XPH_STAT.CAUSE, 6), (XPH_IN.V12, 14000)] with rst := { State.reset.rst with inst := false, por := false } }, ?_, ?_, ?_, ?_⟩
    · exact permits_of (by decide +kernel)
    · first | decide +kernel | rfl
    · first | decide +kernel | rfl
    · first | decide +kernel | rfl
  · refine ⟨.sec, { st [(XPH_CMD.PEND, 0)] with rst := { State.reset.rst with inst := false, por := false } }, ?_, ?_⟩
    · exact permits_of (by decide +kernel)
    · first | decide +kernel | rfl
  · refine ⟨.sec, 4, { st [(XPH_CMD.PEND, 0)] with rst := { State.reset.rst with inst := false, por := false } }, ?_, ?_, ?_⟩
    · exact permits_of (by decide +kernel)
    · first | decide +kernel | rfl
    · decide +kernel
  · refine ⟨0x123456789, { st [(XPH_STAT.STATE, 1)] with xph := { State.reset.xph with refOn := false }, rst := { State.reset.rst with inst := false, por := false } }, ?_, ?_, ?_⟩
    · first | decide +kernel | rfl
    · first | decide +kernel | rfl
    · first | decide +kernel | rfl
  · refine ⟨0x123456789, { st [(XPH_STAT.STATE, 1)] with xph := { State.reset.xph with ref := 40000, refOn := true }, rst := { State.reset.rst with inst := false, por := false } }, ?_, ?_, ?_⟩
    · first | decide +kernel | rfl
    · first | decide +kernel | rfl
    · first | decide +kernel | rfl
  · refine ⟨0x123456789, { st [(XPH_STAT.STATE, 2)] with rst := { State.reset.rst with inst := false, por := false } }, ?_, ?_⟩
    · first | decide +kernel | rfl
    · first | decide +kernel | rfl
  · refine ⟨0x123456789, 1, { st [(XPH_STAT.STATE, 1), (XPH_VSET.CODE, 1600), (TIM_STAT.PLL_LOCK, 1)] with xph := { State.reset.xph with refOn := true, ref := 40000, near := some 1 }, rst := { State.reset.rst with inst := false, por := false } }, ?_, ?_, ?_, ?_, ?_, ?_⟩
    · first | decide +kernel | rfl
    · first | decide +kernel | rfl
    · first | decide +kernel | rfl
    · first | decide +kernel | rfl
    · decide +kernel
    · first | decide +kernel | rfl
  · refine ⟨0x123456789, { st [(XPH_STAT.STATE, 0)] with rst := { State.reset.rst with inst := false, por := false } }, ?_, ?_⟩
    · decide +kernel
    · first | decide +kernel | rfl
  · refine ⟨1, State.reset, ?_⟩
    · decide +kernel
  · refine ⟨0x123456789, 1, { st [(XPH_STAT.STATE, 1), (TIM_STAT.PLL_LOCK, 1)] with xph := { State.reset.xph with low := some 1 }, rst := { State.reset.rst with inst := false, por := false } }, ?_, ?_, ?_, ?_⟩
    · first | decide +kernel | rfl
    · first | decide +kernel | rfl
    · decide +kernel
    · first | decide +kernel | rfl
  · refine ⟨0x123456789, 1, { st [(XPH_STAT.STATE, 2), (TIM_STAT.PLL_LOCK, 1)] with xph := { State.reset.xph with under := some 1 }, rst := { State.reset.rst with inst := false, por := false } }, ?_, ?_, ?_, ?_⟩
    · first | decide +kernel | rfl
    · first | decide +kernel | rfl
    · decide +kernel
    · first | decide +kernel | rfl
  · refine ⟨0x123456789, { st [(XPH_STAT.STATE, 3)] with rst := { State.reset.rst with inst := false, por := false } }, ?_, ?_⟩
    · first | decide +kernel | rfl
    · first | decide +kernel | rfl
  · refine ⟨.sec, true, 1, { State.reset with rst := { State.reset.rst with inst := false, por := false } }, ?_⟩
    · exact permits_of (by decide +kernel)
  · refine ⟨0x123456789, 3, { st [(XPH_CFG.SNS_EN, 15)] with xph := { State.reset.xph with ptRun := [(3, 8)] }, rst := { State.reset.rst with inst := false, por := false } }, ?_, ?_, ?_, ?_⟩
    · first | decide +kernel | rfl
    · decide +kernel
    · decide +kernel
    · first | decide +kernel | rfl

/-- States and operands that meet the hypotheses of FrontStageSwitchingCommandsComplete. -/
theorem witness_FrontStageSwitchingCommandsComplete :
    (∃ (req : Requester) (v : Word) (s : State), s.Permits req XPH_VSET v) ∧
    (∃ (x : ℕ) (uv : ℕ) (p : ℕ) (s : State), s.mayTrigger = true ∧ (s.get XPH_CFG.MODE = 0 ∨ s.get
      XPH_STAT.SYNC_LOCK = 0) ∧ s.blanked x = true ∧ (rippleCatch s).vimBelow uv 0 = true ∧ s.nextPhase = some p
      ∧ s.phReady p x = true ∧ s.rst.inst = false) ∧
    (∃ (x : ℕ) (uv : ℕ) (s : State), (s.mayTrigger = false ∨ (s.get XPH_CFG.MODE = 1 ∧ s.get XPH_STAT.SYNC_LOCK
      = 1) ∨ s.blanked x = false ∨ (rippleCatch s).vimBelow uv 0 = false ∨ (∃ p, s.nextPhase = some p ∧
      s.phReady p x = false)) ∧ s.rst.inst = false) ∧
    (∃ (p : PhaseIx) (x : ℕ) (s : State), s.mayTrigger = true ∧ s.get XPH_STAT.SYNC_LOCK = 1 ∧ s.phState p = 2 ∧
      s.phReady p x = true ∧ (∃ e ∈ s.xph.slots, e.1 = p.val ∧ e.2 ≤ x) ∧ s.rst.inst = false) ∧
    (∃ (x : ℕ) (uv : ℕ) (p : ℕ) (s : State), s.mayTrigger = true ∧ s.get XPH_STAT.SYNC_LOCK = 1 ∧ s.blanked x =
      true ∧ (rippleCatch s).vimBelow uv (5000 * s.get XPH_RIP.FAST) = true ∧ s.nextReady x = some p ∧
      s.rst.inst = false) ∧
    (∃ (x : ℕ) (p : ℕ) (rest : List ℕ) (s : State), s.xph.back = p :: rest ∧ s.fsRuns = true ∧ s.phState p = 2 ∧
      s.blanked x = true ∧ s.phReady p x = true ∧ s.rst.inst = false) ∧
    (∃ (p : PhaseIx) (x : ℕ) (s : State), (s.phid p).pwm = .high ∧ (s.phid p).start + (s.phid p).ton ≤ x ∧
      s.rst.inst = false) ∧
    (∃ (p : PhaseIx) (x : ℕ) (s : State), (s.phid p).pwm = .high ∧ s.rst.inst = false) ∧
    (∃ (p : PhaseIx) (s : State), s.fsState = 2 ∧ s.phState p = 2 ∧ s.xphCfg XPH_CFG.DE_EN = 0 ∧ (s.phid p).pwm
      = .low ∧ s.rst.inst = false) ∧
    (∃ (p : PhaseIx) (s : State), s.fsRuns = true ∧ (s.phid p).pwm = .low ∧ s.phState p = 2 ∧ (s.fsState = 1 ∨
      s.xphCfg XPH_CFG.DE_EN = 1) ∧ s.rst.inst = false) ∧
    (∃ (p : PhaseIx) (s : State), s.fsRuns = true ∧ (s.phid p).pwm = .low ∧ s.phState p = 3 ∧ s.rst.inst =
      false) := by
  refine ⟨?_, ?_, ?_, ?_, ?_, ?_, ?_, ?_, ?_, ?_, ?_⟩
  · refine ⟨.sec, 1, { State.reset with rst := { State.reset.rst with inst := false, por := false } }, ?_⟩
    · exact permits_of (by decide +kernel)
  · refine ⟨1, 0, 31, { st [(XPH_CFG.MODE, 0), (XPH_STAT.STATE, 2), (XPH_PH_STAT.STATE 31, 2)] with xph := { State.reset.xph with ref := 40000 }, rst := { State.reset.rst with inst := false, por := false } }, ?_, ?_, ?_, ?_, ?_, ?_, ?_⟩
    · first | decide +kernel | rfl
    · decide +kernel
    · first | decide +kernel | rfl
    · first | decide +kernel | rfl
    · first | decide +kernel | rfl
    · first | decide +kernel | rfl
    · first | decide +kernel | rfl
  · refine ⟨1, 1, { st [(XPH_STAT.STATE, 2)] with xph := { State.reset.xph with slots := [(31, 1)] }, rst := { State.reset.rst with inst := false, por := false } }, ?_, ?_⟩
    · decide +kernel
    · first | decide +kernel | rfl
  · refine ⟨31, 1, { st [(XPH_STAT.SYNC_LOCK, 1), (XPH_PH_STAT.STATE (31 : PhaseIx), 2), (XPH_STAT.STATE, 2), (XPH_PH_STAT.STATE 31, 2)] with xph := { State.reset.xph with slots := [(31, 1)] }, rst := { State.reset.rst with inst := false, por := false } }, ?_, ?_, ?_, ?_, ?_, ?_⟩
    · first | decide +kernel | rfl
    · first | decide +kernel | rfl
    · first | decide +kernel | rfl
    · first | decide +kernel | rfl
    · exact ⟨(31, 1), by decide +kernel, by decide +kernel⟩
    · first | decide +kernel | rfl
  · refine ⟨1, 0, 31, { st [(XPH_STAT.SYNC_LOCK, 1), (XPH_STAT.STATE, 2), (XPH_PH_STAT.STATE 31, 2)] with xph := { State.reset.xph with ref := 400000 }, rst := { State.reset.rst with inst := false, por := false } }, ?_, ?_, ?_, ?_, ?_, ?_⟩
    · first | decide +kernel | rfl
    · first | decide +kernel | rfl
    · first | decide +kernel | rfl
    · first | decide +kernel | rfl
    · first | decide +kernel | rfl
    · first | decide +kernel | rfl
  · refine ⟨1, 31, [], { st [(XPH_PH_STAT.STATE 31, 2), (XPH_STAT.STATE, 2), (XPH_PH_STAT.STATE 31, 2)] with xph := { State.reset.xph with back := [31] }, rst := { State.reset.rst with inst := false, por := false } }, ?_, ?_, ?_, ?_, ?_, ?_⟩
    · first | decide +kernel | rfl
    · first | decide +kernel | rfl
    · first | decide +kernel | rfl
    · first | decide +kernel | rfl
    · first | decide +kernel | rfl
    · first | decide +kernel | rfl
  · refine ⟨31, 1, { State.reset with ph := [(31, { pwm := .high })], rst := { State.reset.rst with inst := false, por := false } }, ?_, ?_, ?_⟩
    · first | decide +kernel | rfl
    · decide +kernel
    · first | decide +kernel | rfl
  · refine ⟨31, 1, { State.reset with ph := [(31, { pwm := .high })], rst := { State.reset.rst with inst := false, por := false } }, ?_, ?_⟩
    · first | decide +kernel | rfl
    · first | decide +kernel | rfl
  · refine ⟨31, { st [(XPH_PH_STAT.STATE (31 : PhaseIx), 2), (XPH_STAT.STATE, 2), (XPH_PH_STAT.STATE 31, 2), (XPH_CFG.DE_EN, 0)] with ph := [(31, { pwm := .low })], rst := { State.reset.rst with inst := false, por := false } }, ?_, ?_, ?_, ?_, ?_⟩
    · first | decide +kernel | rfl
    · first | decide +kernel | rfl
    · first | decide +kernel | rfl
    · first | decide +kernel | rfl
    · first | decide +kernel | rfl
  · refine ⟨31, { st [(XPH_STAT.STATE, 2), (XPH_PH_STAT.STATE (31 : PhaseIx), 2), (XPH_STAT.STATE, 1)] with ph := [(31, { pwm := .low })], rst := { State.reset.rst with inst := false, por := false } }, ?_, ?_, ?_, ?_, ?_⟩
    · first | decide +kernel | rfl
    · first | decide +kernel | rfl
    · first | decide +kernel | rfl
    · decide +kernel
    · first | decide +kernel | rfl
  · refine ⟨31, { st [(XPH_PH_STAT.STATE (31 : PhaseIx), 3), (XPH_STAT.STATE, 2)] with ph := [(31, { pwm := .low })], rst := { State.reset.rst with inst := false, por := false } }, ?_, ?_, ?_, ?_⟩
    · first | decide +kernel | rfl
    · first | decide +kernel | rfl
    · first | decide +kernel | rfl
    · first | decide +kernel | rfl

/-- States and operands that meet the hypotheses of PhaseAndSyncCommandsComplete. -/
theorem witness_PhaseAndSyncCommandsComplete :
    (∃ (e : Dword) (period : ℕ) (s : State), s.get XPH_CFG.MODE = 1 ∧ s.get XPH_STAT.SYNC_LOCK = 0 ∧ (syncPeriod
      period s).syncMet = true ∧ s.rst.inst = false) ∧
    (∃ (e : Dword) (period : ℕ) (s : State), s.get XPH_CFG.MODE = 1 ∧ s.get XPH_STAT.SYNC_LOCK = 0 ∧ (syncPeriod
      period s).syncMet = false ∧ s.rst.inst = false) ∧
    (∃ (p : ℕ) (ps : List ℕ) (s : State), s.xph.periods = p :: ps) ∧
    (∃ (p : ℕ) (ps : List ℕ) (s : State) (q : ℕ), s.xph.periods = p :: ps ∧ q ∈ p :: ps) ∧
    (∃ (x : ℕ) (period : ℕ) (s : State), s.get XPH_CFG.MODE = 1 ∧ s.get XPH_STAT.SYNC_LOCK = 1 ∧ s.fsRuns = true
      ∧ 2133 ≤ period ∧ period ≤ 5334 ∧ s.rst.inst = false) ∧
    (∃ (x : ℕ) (period : ℕ) (s : State), s.get XPH_CFG.MODE = 1 ∧ s.get XPH_STAT.SYNC_LOCK = 1 ∧ (period < 2133
      ∨ 5334 < period) ∧ s.rst.inst = false) ∧
    (∃ (x : ℕ) (period : ℕ) (s : State), s.get XPH_CFG.MODE = 1 ∧ s.get XPH_STAT.SYNC_LOCK = 0 ∧ s.rst.inst =
      false) ∧
    (∃ (e : Dword) (s : State), s.get XPH_STAT.SYNC_LOCK = 1 ∧ s.rst.inst = false) ∧
    (∃ (e : Dword) (p : ℕ) (s : State), s.xph.dwell = true ∧ s.counting = true ∧ s.actives.getLast? = some p ∧
      s.rst.inst = false) ∧
    (∃ (e : Dword) (s : State), (s.advanceTo e).stepSeen = true ∧ s.rst.inst = false) ∧
    (∃ (e : Dword) (s : State), (s.advanceTo e).stepSeen = false ∧ s.rst.inst = false) ∧
    (∃ (e : Dword) (s : State), s.xph.hold = true ∧ s.rst.inst = false) ∧
    (∃ (e : Dword) (k : Fin 4) (s : State), s.fsRuns = true ∧ s.vimPoints.contains k.val = true ∧ s.rst.inst =
      false) ∧
    (∃ (e : Dword) (p : PhaseIx) (s : State), s.inPool p = true ∧ s.rst.inst = false) ∧
    (∃ (req : Requester) (p : PhaseIx) (v : Word) (s : State), s.Permits req (XPH_PH_CFG p) v) ∧
    (∃ (p : ℕ) (v : Word) (s : State), p < 32) ∧
    (∃ (p : ℕ) (s : State), p < 32 ∧ s.phState p = 1 ∧ s.get (XPH_PH_CFG.EN p) = 1) ∧
    (∃ (p : ℕ) (s : State), p < 32 ∧ s.phState p = 4 ∧ s.get (XPH_PH_CFG.EN p) = 1) ∧
    (∃ (p : ℕ) (s : State), p < 32 ∧ s.phState p = 0) ∧
    (∃ (req : Requester) (p : PhaseIx) (s : State), s.Permits req (XPH_PH_CTRL p) 1 ∧ s.phState p = 5 ∧ s.get
      (XPH_PH_STAT.LCAUSE p) ≠ 3 ∧ s.get (XPH_PH_STAT.LCAUSE p) ≠ 4) := by
  refine ⟨?_, ?_, ?_, ?_, ?_, ?_, ?_, ?_, ?_, ?_, ?_, ?_, ?_, ?_, ?_, ?_, ?_, ?_, ?_, ?_⟩
  · refine ⟨0x123456789, 4000, { st [(XPH_CFG.MODE, 1), (XPH_STAT.SYNC_LOCK, 0)] with xph := { State.reset.xph with periods := List.replicate 8 4000 }, rst := { State.reset.rst with inst := false, por := false } }, ?_, ?_, ?_, ?_⟩
    · first | decide +kernel | rfl
    · first | decide +kernel | rfl
    · first | decide +kernel | rfl
    · first | decide +kernel | rfl
  · refine ⟨0x123456789, 1, { st [(XPH_CFG.MODE, 1), (XPH_STAT.SYNC_LOCK, 0)] with rst := { State.reset.rst with inst := false, por := false } }, ?_, ?_, ?_, ?_⟩
    · first | decide +kernel | rfl
    · first | decide +kernel | rfl
    · first | decide +kernel | rfl
    · first | decide +kernel | rfl
  · refine ⟨5, [6], { State.reset with xph := { State.reset.xph with periods := [5, 6] } }, ?_⟩
    · first | decide +kernel | rfl
  · refine ⟨5, [6], { State.reset with xph := { State.reset.xph with periods := [5, 6] } }, 6, ?_, ?_⟩
    · first | decide +kernel | rfl
    · decide +kernel
  · refine ⟨1, 5334, { st [(XPH_CFG.MODE, 1), (XPH_STAT.SYNC_LOCK, 1), (XPH_STAT.STATE, 2)] with rst := { State.reset.rst with inst := false, por := false } }, ?_, ?_, ?_, ?_, ?_, ?_⟩
    · first | decide +kernel | rfl
    · first | decide +kernel | rfl
    · first | decide +kernel | rfl
    · decide +kernel
    · decide +kernel
    · first | decide +kernel | rfl
  · refine ⟨1, 1, { st [(XPH_CFG.MODE, 1), (XPH_STAT.SYNC_LOCK, 1)] with rst := { State.reset.rst with inst := false, por := false } }, ?_, ?_, ?_, ?_⟩
    · first | decide +kernel | rfl
    · first | decide +kernel | rfl
    · decide +kernel
    · first | decide +kernel | rfl
  · refine ⟨1, 1, { st [(XPH_CFG.MODE, 1), (XPH_STAT.SYNC_LOCK, 0)] with rst := { State.reset.rst with inst := false, por := false } }, ?_, ?_, ?_⟩
    · first | decide +kernel | rfl
    · first | decide +kernel | rfl
    · first | decide +kernel | rfl
  · refine ⟨0x123456789, { st [(XPH_STAT.SYNC_LOCK, 1)] with rst := { State.reset.rst with inst := false, por := false } }, ?_, ?_⟩
    · first | decide +kernel | rfl
    · first | decide +kernel | rfl
  · refine ⟨0x123456789, 31, { st [(XPH_STAT.STATE, 2), (XPH_PH_STAT.STATE 31, 2)] with xph := { State.reset.xph with dwell := true }, rst := { State.reset.rst with inst := false, por := false } }, ?_, ?_, ?_, ?_⟩
    · first | decide +kernel | rfl
    · first | decide +kernel | rfl
    · first | decide +kernel | rfl
    · first | decide +kernel | rfl
  · refine ⟨0x123456789, { st [(XPH_SHED.STEP_TH, 1), (RGN_STAT.STATE 255, 2), (RGN_ISUM.I 255, 8000)] with rst := { State.reset.rst with inst := false, por := false } }, ?_, ?_⟩
    · first | decide +kernel | rfl
    · first | decide +kernel | rfl
  · refine ⟨0x123456789, { State.reset with rst := { State.reset.rst with inst := false, por := false } }, ?_, ?_⟩
    · first | decide +kernel | rfl
    · first | decide +kernel | rfl
  · refine ⟨0x123456789, { State.reset with xph := { State.reset.xph with hold := true }, rst := { State.reset.rst with inst := false, por := false } }, ?_, ?_⟩
    · first | decide +kernel | rfl
    · first | decide +kernel | rfl
  · refine ⟨0x123456789, 3, { st [(XPH_STAT.STATE, 2)] with rst := { State.reset.rst with inst := false, por := false } }, ?_, ?_, ?_⟩
    · first | decide +kernel | rfl
    · first | decide +kernel | rfl
    · first | decide +kernel | rfl
  · refine ⟨0x123456789, 31, { st [(XPH_STAT.STATE, 2), (XPH_PH_STAT.STATE 31, 2)] with rst := { State.reset.rst with inst := false, por := false } }, ?_, ?_⟩
    · first | decide +kernel | rfl
    · first | decide +kernel | rfl
  · refine ⟨.sec, 31, 1, { State.reset with rst := { State.reset.rst with inst := false, por := false } }, ?_⟩
    · exact permits_of (by decide +kernel)
  · refine ⟨1, 1, State.reset, ?_⟩
    · decide +kernel
  · refine ⟨1, st [(XPH_PH_STAT.STATE 1, 1), (XPH_PH_CFG.EN 1, 1)], ?_, ?_, ?_⟩
    · decide +kernel
    · first | decide +kernel | rfl
    · first | decide +kernel | rfl
  · refine ⟨1, st [(XPH_PH_STAT.STATE 1, 4), (XPH_PH_CFG.EN 1, 1)], ?_, ?_, ?_⟩
    · decide +kernel
    · first | decide +kernel | rfl
    · first | decide +kernel | rfl
  · refine ⟨1, st [(XPH_PH_STAT.STATE 1, 0)], ?_, ?_⟩
    · decide +kernel
    · first | decide +kernel | rfl
  · refine ⟨.sec, 31, { st [(XPH_PH_STAT.STATE (31 : PhaseIx), 5), (XPH_PH_STAT.LCAUSE (31 : PhaseIx), 0), (XPH_PH_STAT.LCAUSE (31 : PhaseIx), 0)] with rst := { State.reset.rst with inst := false, por := false } }, ?_, ?_, ?_, ?_⟩
    · exact permits_of (by decide +kernel)
    · first | decide +kernel | rfl
    · decide +kernel
    · decide +kernel

/-- States and operands that meet the hypotheses of LoopEngineCommandsComplete. -/
theorem witness_LoopEngineCommandsComplete :
    (∃ (t : Dword) (x : TickSamples) (s : State), s.locked = true ∧ s.rst.inst = false ∧ s.tim.frame < t.toNat /
      100) ∧
    (∃ (t : Dword) (x : TickSamples) (s : State), (s.locked = false ∨ s.rst.inst = true ∨ t.toNat / 100 ≤
      s.tim.frame)) ∧
    (∃ (req : Requester) (v : Word) (s : State), s.Permits req LPE_CTRL (v ||| 1) ∧ s.get LPE_STAT.BUSY = 0 ∧
      fldGet v 2 2 = 1) ∧
    (∃ (req : Requester) (v : Word) (s : State), s.Permits req LPE_CTRL (v ||| 1) ∧ s.get LPE_STAT.BUSY = 1 ∧
      fldGet v 2 2 = 1) ∧
    (∃ (t : Dword) (s : State), s.lpe.phase = .validating ∧ s.lpeCheck = (0, 0) ∧ s.rst.inst = false) ∧
    (∃ (t : Dword) (s : State), s.lpe.phase = .validating ∧ s.lpeCheck.1 ≠ 0 ∧ s.lpeCheck.1 < 8 ∧ s.lpeCheck.2 <
      512 ∧ s.rst.inst = false) ∧
    (∃ (req : Requester) (v : Word) (s : State), s.Permits req LPE_CTRL ((v ||| 2) &&& ~~~1) ∧ s.get
      LPE_STAT.BUSY = 0 ∧ fldGet v 2 2 = 1) ∧
    (∃ (t : Dword) (s : State), s.lpe.phase = .reverting ∧ s.rst.inst = false) ∧
    (∃ (t : Dword) (s : State), s.rst.inst = false) ∧
    (∃ (req : Requester) (v : Word) (s : State), s.Permits req LPE_CTRL v ∧ fldGet v 0 0 = 0 ∧ fldGet v 1 1 = 0) ∧
    (∃ (req : Requester) (a : Offset) (v : Word) (s : State), (LPE_DCFG 0 ≤ a.toNat ∧ a.toNat < LPE_DCFG 512) ∧
      a.toNat % 4 = 0 ∧ s.Permits req a.toNat v ∧ s.get LPE_STAT.INIT_DONE = 1 ∧ (0x40 ≤ (a.toNat - LPE_DCFG 0)
      % 0x200 ∧ (a.toNat - LPE_DCFG 0) % 0x200 < 0x1A8 ∧ 0x18 ≤ ((a.toNat - LPE_DCFG 0) % 0x200 - 0x40) % 0x28)) ∧
    (∃ (req : Requester) (a : Offset) (v : Word) (s : State), (LPE_BAL_X1 0 ≤ a.toNat ∧ a.toNat < LPE_BAL_X1 32)
      ∧ a.toNat % 4 = 0 ∧ s.Permits req a.toNat v) ∧
    (∃ (req : Requester) (j : Fin 16) (v : Word) (s : State), s.Permits req (PG_TGT j) v ∧ s.pgBound j = false) ∧
    (∃ (req : Requester) (j : Fin 16) (v : Word) (s : State), s.Permits req (PG_TGT j) v ∧ s.pgBound j = true) := by
  refine ⟨?_, ?_, ?_, ?_, ?_, ?_, ?_, ?_, ?_, ?_, ?_, ?_, ?_, ?_⟩
  · refine ⟨0x123456789, ⟨[], [], [], []⟩, { st [(TIM_STAT.PLL_LOCK, 1)] with rst := { State.reset.rst with inst := false, por := false } }, ?_, ?_, ?_⟩
    · first | decide +kernel | rfl
    · first | decide +kernel | rfl
    · decide +kernel
  · refine ⟨0x123456789, ⟨[], [], [], []⟩, st [(TIM_STAT.PLL_LOCK, 0)], ?_⟩
    · decide +kernel
  · refine ⟨.sec, 4, { st [(LPE_STAT.BUSY, 0)] with rst := { State.reset.rst with inst := false, por := false } }, ?_, ?_, ?_⟩
    · exact permits_of (by decide +kernel)
    · first | decide +kernel | rfl
    · first | decide +kernel | rfl
  · refine ⟨.sec, 4, { st [(LPE_STAT.BUSY, 1)] with rst := { State.reset.rst with inst := false, por := false } }, ?_, ?_, ?_⟩
    · exact permits_of (by decide +kernel)
    · first | decide +kernel | rfl
    · first | decide +kernel | rfl
  · refine ⟨0x123456789, { State.reset with lpe := ⟨.validating⟩, rst := { State.reset.rst with inst := false, por := false } }, ?_, ?_, ?_⟩
    · first | decide +kernel | rfl
    · first | decide +kernel | rfl
    · first | decide +kernel | rfl
  · refine ⟨0x123456789, { st [(LPE_DCFG.EN 511, 1), (LPE_DCFG.PHASE 511, 1)] with lpe := ⟨.validating⟩, rst := { State.reset.rst with inst := false, por := false } }, ?_, ?_, ?_, ?_, ?_⟩
    · first | decide +kernel | rfl
    · decide +kernel
    · decide +kernel
    · decide +kernel
    · first | decide +kernel | rfl
  · refine ⟨.sec, 4, { st [(LPE_STAT.BUSY, 0)] with rst := { State.reset.rst with inst := false, por := false } }, ?_, ?_, ?_⟩
    · exact permits_of (by decide +kernel)
    · first | decide +kernel | rfl
    · first | decide +kernel | rfl
  · refine ⟨0x123456789, { State.reset with lpe := ⟨.reverting⟩, rst := { State.reset.rst with inst := false, por := false } }, ?_, ?_⟩
    · first | decide +kernel | rfl
    · first | decide +kernel | rfl
  · refine ⟨0x123456789, { State.reset with rst := { State.reset.rst with inst := false, por := false } }, ?_⟩
    · first | decide +kernel | rfl
  · refine ⟨.sec, 0, { State.reset with rst := { State.reset.rst with inst := false, por := false } }, ?_, ?_, ?_⟩
    · exact permits_of (by decide +kernel)
    · first | decide +kernel | rfl
    · first | decide +kernel | rfl
  · refine ⟨.sec, 0x740058, 1, { st [(LPE_STAT.INIT_DONE, 1)] with rst := { State.reset.rst with inst := false, por := false } }, ?_, ?_, ?_, ?_, ?_⟩
    · decide +kernel
    · first | decide +kernel | rfl
    · exact permits_of (by decide +kernel)
    · first | decide +kernel | rfl
    · decide +kernel
  · refine ⟨.sec, (BitVec.ofNat 25 (LPE_BAL_X1 0)), 1, { State.reset with rst := { State.reset.rst with inst := false, por := false } }, ?_, ?_, ?_⟩
    · decide +kernel
    · first | decide +kernel | rfl
    · exact permits_of (by decide +kernel)
  · refine ⟨.sec, 15, 1, { State.reset with rst := { State.reset.rst with inst := false, por := false } }, ?_, ?_⟩
    · exact permits_of (by decide +kernel)
    · first | decide +kernel | rfl
  · refine ⟨.sec, 15, 1, { st [(RGN_PROF_LIVE.PG_EN 255, 1), (RGN_PROF_LIVE.PG 255, 15)] with rst := { State.reset.rst with inst := false, por := false } }, ?_, ?_⟩
    · exact permits_of (by decide +kernel)
    · first | decide +kernel | rfl

/-- States and operands that meet the hypotheses of TraceCommandsComplete. -/
theorem witness_TraceCommandsComplete :
    (∃ (req : Requester) (s : State), s.Permits req TRC_CTRL 1 ∧ (s.trcState = 0 ∨ s.trcState = 3) ∧ s.get
      TLM_TRX_CTRL.BUSY = 0) ∧
    (∃ (req : Requester) (s : State), s.Permits req TRC_CTRL 4 ∧ s.trcState ≠ 0) ∧
    (∃ (req : Requester) (s : State), s.Permits req TRC_CTRL 2) ∧
    (∃ (e : Dword) (s : State), s.trcState = 1 ∧ s.get TRC_TRIG.SRC = 5 ∧ s.get64 TRC_TTS_LO ≤ (s.advanceTo
      e).now ∧ s.rst.inst = false) ∧
    (∃ (cause : ℕ) (s : State), s.trcState = 1 ∧ cause < 8) := by
  refine ⟨?_, ?_, ?_, ?_, ?_⟩
  · refine ⟨.sec, { st [(TRC_STAT.STATE, 0), (TLM_TRX_CTRL.BUSY, 0)] with rst := { State.reset.rst with inst := false, por := false } }, ?_, ?_, ?_⟩
    · exact permits_of (by decide +kernel)
    · decide +kernel
    · first | decide +kernel | rfl
  · refine ⟨.sec, { st [(TRC_STAT.STATE, 1)] with rst := { State.reset.rst with inst := false, por := false } }, ?_, ?_⟩
    · exact permits_of (by decide +kernel)
    · decide +kernel
  · refine ⟨.sec, { State.reset with rst := { State.reset.rst with inst := false, por := false } }, ?_⟩
    · exact permits_of (by decide +kernel)
  · refine ⟨0x123456789, { st [(TRC_STAT.STATE, 1), (TRC_TRIG.SRC, 5)] with rst := { State.reset.rst with inst := false, por := false } }, ?_, ?_, ?_, ?_⟩
    · first | decide +kernel | rfl
    · first | decide +kernel | rfl
    · decide +kernel
    · first | decide +kernel | rfl
  · refine ⟨1, st [(TRC_STAT.STATE, 1)], ?_, ?_⟩
    · first | decide +kernel | rfl
    · decide +kernel

/-- States and operands that meet the hypotheses of ForecastCommandsComplete (part 1). -/
theorem witness_ForecastCommandsComplete_1 :
    (∃ (m : ℕ) (cp : ℕ) (n : ℕ) (s : State), 0x8000 ≤ m ∧ m < 2 ^ 16 ∧ cp < 16) ∧
    (∃ (m : ℕ) (cp : ℕ) (n : ℕ) (s : State), m < 0x8000 ∧ cp < 16 ∧ s.ttb.queue.length < 16) ∧
    (∃ (m : ℕ) (cp : ℕ) (n : ℕ) (s : State), m < 0x8000 ∧ 16 ≤ s.ttb.queue.length) ∧
    (∃ (e : Dword) (cp : Fin 16) (m : BitVec 16) (s : State), s.rst.inst = false) ∧
    (∃ (upto : ℕ) (p : PortMarker) (q : PortMarker) (s : State), s.ttb.run = none ∧ s.ttb.port = [p, q] ∧ p.edge
      = q.edge ∧ q.cp < p.cp ∧ s.ttb.portEdge ≤ p.edge ∧ p.edge ≤ upto) ∧
    (∃ (e : Dword) (lag : Fin 5) (s : State), s.rst.inst = false) ∧
    (∃ (edge : ℕ) (m : Marker) (s : State), s.ttbState = 2 ∧ m.marker = s.entMarker (s.get TTB_CUR.IDX)) ∧
    (∃ (upto : ℕ) (r : GroupRun) (s : State), s.ttb.run = some r ∧ upto < r.edge) ∧
    (∃ (upto : ℕ) (r : GroupRun) (s : State), s.ttb.run = some r ∧ r.edge ≤ upto ∧ r.last ≤ r.next + (upto -
      r.edge)) ∧
    (∃ (from_ : ℕ) (m : Marker) (s : State), s.ttbState = 1) ∧
    (∃ (req : Requester) (s : State), s.Permits req TTB_CTRL 1 ∧ (ttbCatch s).get TTB_DMA_CTRL.BUSY = 0) ∧
    (∃ (req : Requester) (s : State), s.Permits req TTB_CTRL 1 ∧ (ttbCatch s).get TTB_DMA_CTRL.BUSY = 1) ∧
    (∃ (req : Requester) (s : State), s.Permits req TTB_CTRL 2) ∧
    (∃ (req : Requester) (s : State), s.Permits req TTB_CTRL 4) ∧
    (∃ (e : Dword) (s : State), (ttbCatch (s.advanceTo e)).building = true ∧ s.rst.inst = false) ∧
    (∃ (req : Requester) (s : State) (u : State), s.Permits req TTB_DMA_CTRL 1 ∧ u = ttbCatch s ∧ u.get
      TTB_DMA_CTRL.BUSY = 0 ∧ u.get64 TTB_DMA_SRC_LO % 16 = 0 ∧ u.get TTB_DMA_LEN.DST + u.ttbDmaCount ≤ 65536) ∧
    (∃ (req : Requester) (s : State) (u : State), s.Permits req TTB_DMA_CTRL 1 ∧ u = ttbCatch s ∧ u.get
      TTB_DMA_CTRL.BUSY = 0 ∧ (u.get64 TTB_DMA_SRC_LO % 16 ≠ 0 ∨ 65536 < u.get TTB_DMA_LEN.DST + u.ttbDmaCount)) ∧
    (∃ (res : ℕ) (s : State), res < 65536) ∧
    (∃ (e : Dword) (w0 : Word) (w1 : Word) (w2 : Word) (w3 : Word) (s : State) (z : State), z = ttbCatch
      (dmaSlot (s.advanceTo e)) ∧ z.get TTB_DMA_CTRL.BUSY = 1 ∧ z.ttb.dmaLeft ≠ 0 ∧ z.inLiveSpan z.ttb.dmaNext =
      false ∧ z.get TTB_STAT.INIT_DONE = 1 ∧ s.rst.inst = false) ∧
    (∃ (e : Dword) (s : State) (z : State), z = ttbCatch (s.advanceTo e) ∧ z.get TTB_DMA_CTRL.BUSY = 1 ∧
      z.ttb.dmaLeft = 0 ∧ s.rst.inst = false) ∧
    (∃ (e : Dword) (s : State) (z : State), z = ttbCatch (s.advanceTo e) ∧ z.get TTB_DMA_CTRL.BUSY = 1 ∧
      s.rst.inst = false) ∧
    (∃ (req : Requester) (i : BitVec 16) (w : Fin 4) (v : Word) (s : State) (u : State), s.Permits req (TTB_ENT
      i.toNat w.val) v ∧ u = ttbCatch s ∧ u.get TTB_STAT.INIT_DONE = 1) ∧
    (∃ (req : Requester) (i : BitVec 16) (w : Fin 4) (v : Word) (s : State), s.Permits req (TTB_ENT i.toNat
      w.val) v ∧ (ttbCatch s).get TTB_STAT.INIT_DONE = 0) ∧
    (∃ (i : ℕ) (w : ℕ) (v : Word) (s : State), s.building = false ∧ (∀ o, s.memBad 12 o = false)) := by
  refine ⟨?_, ?_, ?_, ?_, ?_, ?_, ?_, ?_, ?_, ?_, ?_, ?_, ?_, ?_, ?_, ?_, ?_, ?_, ?_, ?_, ?_, ?_, ?_, ?_⟩
  · refine ⟨0x8000, 1, 1, State.reset, ?_, ?_, ?_⟩
    · decide +kernel
    · decide +kernel
    · decide +kernel
  · refine ⟨1, 1, 1, State.reset, ?_, ?_, ?_⟩
    · decide +kernel
    · decide +kernel
    · decide +kernel
  · refine ⟨1, 1, 1, { State.reset with ttb := { State.reset.ttb with queue := List.replicate 16 ⟨0x7FFF, 15, 99, []⟩ } }, ?_, ?_⟩
    · decide +kernel
    · decide +kernel
  · refine ⟨0x123456789, 15, 1, { State.reset with rst := { State.reset.rst with inst := false, por := false } }, ?_⟩
    · first | decide +kernel | rfl
  · refine ⟨1, ⟨0, 2, 5⟩, ⟨0, 1, 6⟩, { State.reset with ttb := { State.reset.ttb with port := [⟨0, 2, 5⟩, ⟨0, 1, 6⟩] } }, ?_, ?_, ?_, ?_, ?_, ?_⟩
    · first | decide +kernel | rfl
    · first | decide +kernel | rfl
    · first | decide +kernel | rfl
    · decide +kernel
    · decide +kernel
    · decide +kernel
  · refine ⟨0x123456789, 4, { State.reset with rst := { State.reset.rst with inst := false, por := false } }, ?_⟩
    · first | decide +kernel | rfl
  · refine ⟨1, ⟨0, 15, 99, []⟩, st [(TTB_STAT.STATE, 2)], ?_, ?_⟩
    · first | decide +kernel | rfl
    · first | decide +kernel | rfl
  · refine ⟨1, ⟨0, 3, 10, ⟨0, 15, 99, []⟩⟩, { State.reset with ttb := { State.reset.ttb with run := some ⟨0, 3, 10, ⟨0, 15, 99, []⟩⟩ } }, ?_, ?_⟩
    · first | decide +kernel | rfl
    · decide +kernel
  · refine ⟨1, ⟨0, 0, 0, ⟨0, 15, 99, []⟩⟩, { State.reset with ttb := { State.reset.ttb with run := some ⟨0, 0, 0, ⟨0, 15, 99, []⟩⟩ } }, ?_, ?_, ?_⟩
    · first | decide +kernel | rfl
    · decide +kernel
    · decide +kernel
  · refine ⟨1, ⟨0, 15, 99, []⟩, st [(TTB_STAT.STATE, 1)], ?_⟩
    · first | decide +kernel | rfl
  · refine ⟨.sec, { State.reset with rst := { State.reset.rst with inst := false, por := false } }, ?_, ?_⟩
    · exact permits_of (by decide +kernel)
    · first | decide +kernel | rfl
  · refine ⟨.sec, { st [(TTB_DMA_CTRL.BUSY, 1)] with rst := { State.reset.rst with inst := false, por := false } }, ?_, ?_⟩
    · exact permits_of (by decide +kernel)
    · first | decide +kernel | rfl
  · refine ⟨.sec, { State.reset with rst := { State.reset.rst with inst := false, por := false } }, ?_⟩
    · exact permits_of (by decide +kernel)
  · refine ⟨.sec, { st [(TTB_DMA_LEN.DST, 65535)] with rst := { State.reset.rst with inst := false, por := false } }, ?_⟩
    · exact permits_of (by decide +kernel)
  · refine ⟨0x123456789, { State.reset with ttb := { State.reset.ttb with arming := true }, rst := { State.reset.rst with inst := false, por := false } }, ?_, ?_⟩
    · first | decide +kernel | rfl
    · first | decide +kernel | rfl
  · refine ⟨.sec, { st [(TTB_DMA_CTRL.BUSY, 0)] with ttb := { State.reset.ttb with dmaLeft := 1 }, rst := { State.reset.rst with inst := false, por := false } }, ttbCatch ({ st [(TTB_DMA_CTRL.BUSY, 0)] with ttb := { State.reset.ttb with dmaLeft := 1 }, rst := { State.reset.rst with inst := false, por := false } }), ?_, ?_, ?_, ?_, ?_⟩
    · exact permits_of (by decide +kernel)
    · first | rfl | decide +kernel
    · first | decide +kernel | rfl
    · first | decide +kernel | rfl
    · decide +kernel
  · refine ⟨.sec, { st [(TTB_DMA_CTRL.BUSY, 0), (TTB_DMA_LEN.DST, 65535)] with rst := { State.reset.rst with inst := false, por := false } }, ttbCatch ({ st [(TTB_DMA_CTRL.BUSY, 0), (TTB_DMA_LEN.DST, 65535)] with rst := { State.reset.rst with inst := false, por := false } }), ?_, ?_, ?_, ?_⟩
    · exact permits_of (by decide +kernel)
    · first | rfl | decide +kernel
    · first | decide +kernel | rfl
    · decide +kernel
  · refine ⟨1, State.reset, ?_⟩
    · decide +kernel
  · refine ⟨0x123456789, 1, 1, 1, 1, { st [(TTB_DMA_CTRL.BUSY, 1), (TTB_STAT.INIT_DONE, 1)] with ttb := { State.reset.ttb with dmaLeft := 1 }, rst := { State.reset.rst with inst := false, por := false } }, ttbCatch (dmaSlot (({ st [(TTB_DMA_CTRL.BUSY, 1), (TTB_STAT.INIT_DONE, 1)] with ttb := { State.reset.ttb with dmaLeft := 1 }, rst := { State.reset.rst with inst := false, por := false } }).advanceTo (0x123456789 : Dword))), ?_, ?_, ?_, ?_, ?_, ?_⟩
    · first | rfl | decide +kernel
    · first | decide +kernel | rfl
    · decide +kernel
    · first | decide +kernel | rfl
    · first | decide +kernel | rfl
    · first | decide +kernel | rfl
  · refine ⟨0x123456789, { st [(TTB_DMA_CTRL.BUSY, 1)] with rst := { State.reset.rst with inst := false, por := false }, ttb := { State.reset.ttb with dmaLeft := 0 } }, ttbCatch (({ st [(TTB_DMA_CTRL.BUSY, 1)] with rst := { State.reset.rst with inst := false, por := false }, ttb := { State.reset.ttb with dmaLeft := 0 } }).advanceTo (0x123456789 : Dword)), ?_, ?_, ?_, ?_⟩
    · first | rfl | decide +kernel
    · first | decide +kernel | rfl
    · first | decide +kernel | rfl
    · first | decide +kernel | rfl
  · refine ⟨0x123456789, { st [(TTB_DMA_CTRL.BUSY, 1)] with rst := { State.reset.rst with inst := false, por := false } }, ttbCatch (({ st [(TTB_DMA_CTRL.BUSY, 1)] with rst := { State.reset.rst with inst := false, por := false } }).advanceTo (0x123456789 : Dword)), ?_, ?_, ?_⟩
    · first | rfl | decide +kernel
    · first | decide +kernel | rfl
    · first | decide +kernel | rfl
  · refine ⟨.sec, 1, 3, 1, { st [(TTB_STAT.INIT_DONE, 1)] with rst := { State.reset.rst with inst := false, por := false } }, ttbCatch ({ st [(TTB_STAT.INIT_DONE, 1)] with rst := { State.reset.rst with inst := false, por := false } }), ?_, ?_, ?_⟩
    · exact permits_of (by decide +kernel)
    · first | rfl | decide +kernel
    · first | decide +kernel | rfl
  · refine ⟨.sec, 1, 3, 1, { State.reset with rst := { State.reset.rst with inst := false, por := false } }, ?_, ?_⟩
    · exact permits_of (by decide +kernel)
    · first | decide +kernel | rfl
  · refine ⟨1, 1, 1, State.reset, ?_, ?_⟩
    · first | decide +kernel | rfl
    · exact fun o => rfl

/-- States and operands that meet the hypotheses of ForecastCommandsComplete (part 2). -/
theorem witness_ForecastCommandsComplete_2 :
    (∃ (e : Dword) (s : State), s.rst.inst = false) ∧
    (∃ (e : Dword) (g : GroupIx) (s : State), s.rst.inst = false) := by
  refine ⟨?_, ?_⟩
  · refine ⟨0x123456789, { State.reset with rst := { State.reset.rst with inst := false, por := false } }, ?_⟩
    · first | decide +kernel | rfl
  · refine ⟨0x123456789, 63, { State.reset with rst := { State.reset.rst with inst := false, por := false } }, ?_⟩
    · first | decide +kernel | rfl

/-- States and operands that meet the hypotheses of OutriderCommandsComplete. -/
theorem witness_OutriderCommandsComplete :
    (∃ (f : ℕ) (s : State), s.runTick f = false) ∧
    (∃ (f : ℕ) (s : State) (ws : List Word), s.runTick f = true ∧ s.odr.run = some ws) ∧
    (∃ (f : ℕ) (s : State) (w : ℕ), s.runTick f = true ∧ s.odrBad = some w) ∧
    (∃ (f : ℕ) (s : State), s.runTick f = true ∧ s.odrBad = none) ∧
    (∃ (ws : List Word) (n : ℕ) (s : State) (j : ℕ), ws.length = 32 ∧ j < 32) ∧
    (∃ (req : Requester) (v : Word) (s : State), s.Permits req OUT_CTL ((v &&& ~~~7) ||| 1) ∧ s.odrState = 0 ∧
      s.get OUT_STAT.VALIDATING = 0 ∧ s.get OUT_STAT.INIT_DONE = 1 ∧ s.get OUT_DMA_CTRL.BUSY = 0) ∧
    (∃ (e : Dword) (s : State), s.get OUT_STAT.VALIDATING = 1 ∧ s.odrCheck = 0 ∧ s.rst.inst = false) ∧
    (∃ (e : Dword) (s : State), s.get OUT_STAT.VALIDATING = 1 ∧ s.odrCheck ≠ 0 ∧ s.odrCheck < 8 ∧ s.rst.inst =
      false) ∧
    (∃ (req : Requester) (v : Word) (s : State), s.Permits req OUT_CTL ((v &&& ~~~7) ||| 2) ∧ s.odrState = 1 ∧
      s.get OUT_STAT.VALIDATING = 0) ∧
    (∃ (req : Requester) (v : Word) (s : State), s.Permits req OUT_CTL ((v &&& ~~~7) ||| 2) ∧ s.odrState = 0 ∧
      s.get OUT_STAT.VALIDATING = 1) ∧
    (∃ (req : Requester) (v : Word) (s : State), s.Permits req OUT_CTL ((v &&& ~~~7) ||| 4) ∧ s.odrState = 2 ∧
      s.get OUT_STAT.VALIDATING = 0) ∧
    (∃ (e : Dword) (s : State), s.odrState = 1 ∧ s.rst.inst = false) ∧
    (∃ (req : Requester) (s : State), s.Permits req OUT_DMA_CTRL 1 ∧ s.get OUT_DMA_CTRL.BUSY = 0 ∧ s.odrState =
      0 ∧ s.get OUT_STAT.VALIDATING = 0 ∧ s.get64 OUT_DMA_SRC_LO % 4 = 0 ∧ s.get OUT_DMA_LEN.DST % 4 = 0 ∧ s.get
      OUT_DMA_LEN.DST + 4 * s.odrDmaCount ≤ 65536) ∧
    (∃ (req : Requester) (s : State), s.Permits req OUT_DMA_CTRL 1 ∧ s.get OUT_DMA_CTRL.BUSY = 0 ∧ s.odrState ≠
      0) ∧
    (∃ (e : Dword) (ws : List Word) (s : State), s.get OUT_DMA_CTRL.BUSY = 1 ∧ ws.length = s.odr.dmaLeft ∧ s.get
      OUT_STAT.INIT_DONE = 1 ∧ s.rst.inst = false) ∧
    (∃ (e : Dword) (ws : List Word) (s : State), s.get OUT_DMA_CTRL.BUSY = 1 ∧ ws.length ≤ s.odr.dmaLeft ∧ s.get
      OUT_STAT.INIT_DONE = 1 ∧ s.rst.inst = false) ∧
    (∃ (res : ℕ) (s : State), res < 65536) ∧
    (∃ (e : Dword) (s : State), s.rst.inst = false) := by
  refine ⟨?_, ?_, ?_, ?_, ?_, ?_, ?_, ?_, ?_, ?_, ?_, ?_, ?_, ?_, ?_, ?_, ?_, ?_⟩
  · refine ⟨1, State.reset, ?_⟩
    · first | decide +kernel | rfl
  · refine ⟨0, { st [(OUT_STAT.STATE, 1), (OUT_CTL.PERIOD, 1)] with odr := { State.reset.odr with run := some [1] } }, [1], ?_, ?_⟩
    · first | decide +kernel | rfl
    · first | decide +kernel | rfl
  · refine ⟨0, { st [(OUT_STAT.STATE, 1), (OUT_CTL.PERIOD, 1), (OUT_SHAPE.NIN, 1), (OUT_SHAPE.NHID, 1), (OUT_SHAPE.NOUT, 1)] with cbse := { State.reset.cbse with bad := [(13, 0)] } }, 0, ?_, ?_⟩
    · first | decide +kernel | rfl
    · first | decide +kernel | rfl
  · refine ⟨0, st [(OUT_STAT.STATE, 1), (OUT_CTL.PERIOD, 1)], ?_, ?_⟩
    · first | decide +kernel | rfl
    · first | decide +kernel | rfl
  · refine ⟨List.replicate 32 7, 1, State.reset, 31, ?_, ?_⟩
    · first | decide +kernel | rfl
    · decide +kernel
  · refine ⟨.sec, 1, { st [(OUT_STAT.STATE, 0), (OUT_STAT.VALIDATING, 0), (OUT_STAT.INIT_DONE, 1), (OUT_DMA_CTRL.BUSY, 0)] with rst := { State.reset.rst with inst := false, por := false } }, ?_, ?_, ?_, ?_, ?_⟩
    · exact permits_of (by decide +kernel)
    · first | decide +kernel | rfl
    · first | decide +kernel | rfl
    · first | decide +kernel | rfl
    · first | decide +kernel | rfl
  · refine ⟨0x123456789, { st [(OUT_STAT.VALIDATING, 1), (OUT_SHAPE.NIN, 1), (OUT_SHAPE.NHID, 1), (OUT_SHAPE.NOUT, 1), (OUT_CTL.PERIOD, 4), (OUT_LBASE.WBASE 1, 64), (OUT_LBASE.BBASE 0, 128), (OUT_LBASE.BBASE 1, 192)] with rst := { State.reset.rst with inst := false, por := false } }, ?_, ?_, ?_⟩
    · first | decide +kernel | rfl
    · first | decide +kernel | rfl
    · first | decide +kernel | rfl
  · refine ⟨0x123456789, { st [(OUT_STAT.VALIDATING, 1)] with rst := { State.reset.rst with inst := false, por := false } }, ?_, ?_, ?_, ?_⟩
    · first | decide +kernel | rfl
    · decide +kernel
    · decide +kernel
    · first | decide +kernel | rfl
  · refine ⟨.sec, 1, { st [(OUT_STAT.STATE, 1), (OUT_STAT.VALIDATING, 0)] with rst := { State.reset.rst with inst := false, por := false } }, ?_, ?_, ?_⟩
    · exact permits_of (by decide +kernel)
    · first | decide +kernel | rfl
    · first | decide +kernel | rfl
  · refine ⟨.sec, 1, { st [(OUT_STAT.STATE, 0), (OUT_STAT.VALIDATING, 1)] with rst := { State.reset.rst with inst := false, por := false } }, ?_, ?_, ?_⟩
    · exact permits_of (by decide +kernel)
    · first | decide +kernel | rfl
    · first | decide +kernel | rfl
  · refine ⟨.sec, 1, { st [(OUT_STAT.STATE, 2), (OUT_STAT.VALIDATING, 0)] with rst := { State.reset.rst with inst := false, por := false } }, ?_, ?_, ?_⟩
    · exact permits_of (by decide +kernel)
    · first | decide +kernel | rfl
    · first | decide +kernel | rfl
  · refine ⟨0x123456789, { st [(OUT_STAT.STATE, 1)] with rst := { State.reset.rst with inst := false, por := false } }, ?_, ?_⟩
    · first | decide +kernel | rfl
    · first | decide +kernel | rfl
  · refine ⟨.sec, { st [(OUT_DMA_CTRL.BUSY, 0), (OUT_STAT.STATE, 0), (OUT_STAT.VALIDATING, 0)] with rst := { State.reset.rst with inst := false, por := false } }, ?_, ?_, ?_, ?_, ?_, ?_, ?_⟩
    · exact permits_of (by decide +kernel)
    · first | decide +kernel | rfl
    · first | decide +kernel | rfl
    · first | decide +kernel | rfl
    · first | decide +kernel | rfl
    · first | decide +kernel | rfl
    · decide +kernel
  · refine ⟨.sec, { st [(OUT_DMA_CTRL.BUSY, 0), (OUT_STAT.STATE, 1)] with rst := { State.reset.rst with inst := false, por := false } }, ?_, ?_, ?_⟩
    · exact permits_of (by decide +kernel)
    · first | decide +kernel | rfl
    · decide +kernel
  · refine ⟨0x123456789, [], { st [(OUT_DMA_CTRL.BUSY, 1), (OUT_STAT.INIT_DONE, 1)] with rst := { State.reset.rst with inst := false, por := false } }, ?_, ?_, ?_, ?_⟩
    · first | decide +kernel | rfl
    · first | decide +kernel | rfl
    · first | decide +kernel | rfl
    · first | decide +kernel | rfl
  · refine ⟨0x123456789, [], { st [(OUT_DMA_CTRL.BUSY, 1), (OUT_STAT.INIT_DONE, 1)] with rst := { State.reset.rst with inst := false, por := false } }, ?_, ?_, ?_, ?_⟩
    · first | decide +kernel | rfl
    · decide +kernel
    · first | decide +kernel | rfl
    · first | decide +kernel | rfl
  · refine ⟨1, State.reset, ?_⟩
    · decide +kernel
  · refine ⟨0x123456789, { State.reset with rst := { State.reset.rst with inst := false, por := false } }, ?_⟩
    · first | decide +kernel | rfl

/-- States and operands that meet the hypotheses of SkidCommandsComplete. -/
theorem witness_SkidCommandsComplete :
    (∃ (e : Dword) (n : RegionIx) (v : BitVec 11) (x : BitVec 14) (cnt : ℕ) (s : State), n.val ≠ 0 ∧ s.rst.inst
      = false) ∧
    (∃ (e : Dword) (n : RegionIx) (v : BitVec 11) (x : BitVec 14) (cnt : ℕ) (s : State), n.val ≠ 0 ∧ s.rst.inst
      = false) ∧
    (∃ (n : ℕ) (v : ℕ) (ts : ℕ) (s : State), (countEdges s).skidActs n = false) ∧
    (∃ (n : ℕ) (v : ℕ) (ts : ℕ) (dt : ℕ) (s : State) (u : State), u = countEdges s ∧ u.skidActs n = true ∧ ((4 *
      v : Nat) : Int) < u.skidTrip n ∧ dt = min (u.skidCfg n (SKID_CFG.DMAX n)) (((u.skidTrip n - ((4 * v : Nat)
      : Int)).toNat + 4 * u.skidCfg n (SKID_CFG.DSTEP n) - 1) / (4 * u.skidCfg n (SKID_CFG.DSTEP n)))) ∧
    (∃ (n : ℕ) (v : ℕ) (ts : ℕ) (s : State) (u : State), u = countEdges s ∧ u.skidActs n = true ∧ u.skidTrip n +
      (4 * u.skidCfg n (SKID_CFG.HYST n) : Nat) ≤ ((4 * v : Nat) : Int) ∧ 0 < u.get (SKID_RSTAT.DEPTH n) ∧
      u.skidCfg n (SKID_CFG.RELHOLD n) ≤ u.get (SKID_RSTAT.RELCNT n) + 1) ∧
    (∃ (n : ℕ) (v : ℕ) (ts : ℕ) (s : State) (u : State), u = countEdges s ∧ u.skidActs n = true ∧ u.skidTrip n +
      (4 * u.skidCfg n (SKID_CFG.HYST n) : Nat) ≤ ((4 * v : Nat) : Int) ∧ 0 < u.get (SKID_RSTAT.DEPTH n) ∧ u.get
      (SKID_RSTAT.RELCNT n) + 1 < u.skidCfg n (SKID_CFG.RELHOLD n)) ∧
    (∃ (n : ℕ) (k : ℕ) (ts : ℕ) (s : State) (q : ℕ), (s.skidHid n).due = [] ∧ q = max (s.get (SKID_RSTAT.DEPTH
      n)) (s.get (SKID_FORCE.DEPTH n))) ∧
    (∃ (n : ℕ) (k : ℕ) (q : ℕ) (ts : ℕ) (s : State), s.rst.inst = false ∧ s.locked = true ∧ (s.skidHid n).due =
      [(k, q, ts)]) ∧
    (∃ (n : ℕ) (s : State), (s.rst.inst = true ∨ s.locked = false)) ∧
    (∃ (e : Dword) (n : RegionIx) (s : State), n.val ≠ 0 ∧ s.rst.inst = false) ∧
    (∃ (n : ℕ) (s : State) (u : State), u = countEdges s ∧ (u.skidHid n).gap = false ∧ u.get (SKID_RSTAT.LEVEL
      n) = 0) ∧
    (∃ (e : Dword) (n : RegionIx) (s : State), n.val ≠ 0 ∧ s.rst.inst = false) ∧
    (∃ (n : ℕ) (s : State) (u : State), u = countEdges s ∧ u.skidActs n = true ∧ u.get (SKID_WIN.ESC_EN n) = 1 ∧
      (u.skidHid n).rose = false ∧ (u.skidHid n).gap = false ∧ u.get (SKID_RSTAT.LEVEL n) < u.skidCap n ∧
      u.skidDuty n (u.skidEsc n (SKID_ESC.TH n)) < u.num (SKID_DCUR n)) ∧
    (∃ (n : ℕ) (s : State) (u : State), u = countEdges s ∧ u.skidActs n = true ∧ u.get (SKID_WIN.ESC_EN n) = 1 ∧
      (u.skidHid n).rose = false ∧ (u.skidHid n).gap = false ∧ u.get (SKID_RSTAT.LEVEL n) < u.skidCap n ∧ u.num
      (SKID_DCUR n) ≤ u.skidDuty n (u.skidEsc n (SKID_ESC.TH n))) ∧
    (∃ (req : Requester) (n : RegionIx) (v : Word) (s : State), n.val ≠ 0 ∧ s.Permits req (SKID_ESC n.val) v) ∧
    (∃ (req : Requester) (n : RegionIx) (v : Word) (s : State), n.val ≠ 0 ∧ s.Permits req (SKID_WIN n.val) v) ∧
    (∃ (req : Requester) (n : RegionIx) (v : Word) (s : State), n.val ≠ 0 ∧ s.Permits req (SKID_FORCE n.val) v) := by
  refine ⟨?_, ?_, ?_, ?_, ?_, ?_, ?_, ?_, ?_, ?_, ?_, ?_, ?_, ?_, ?_, ?_, ?_⟩
  · refine ⟨0x123456789, 255, 1, 1, 1, { State.reset with rst := { State.reset.rst with inst := false, por := false } }, ?_, ?_⟩
    · decide +kernel
    · first | decide +kernel | rfl
  · refine ⟨0x123456789, 255, 1, 1, 1, { st [(SKID_RSTAT.DEPTH 255, 1)] with rst := { State.reset.rst with inst := false, por := false } }, ?_, ?_⟩
    · decide +kernel
    · first | decide +kernel | rfl
  · refine ⟨1, 1, 1, State.reset, ?_⟩
    · first | decide +kernel | rfl
  · refine ⟨1, 1, 1, min ((countEdges (st [(RGN_STAT.STATE 1, 2), (SKID_CTRL.EN, 1), (SKID_CFG.EN 1, 1)])).skidCfg 1 (SKID_CFG.DMAX 1)) ((((countEdges (st [(RGN_STAT.STATE 1, 2), (SKID_CTRL.EN, 1), (SKID_CFG.EN 1, 1)])).skidTrip 1 - ((4 * 1 : Nat) : Int)).toNat + 4 * (countEdges (st [(RGN_STAT.STATE 1, 2), (SKID_CTRL.EN, 1), (SKID_CFG.EN 1, 1)])).skidCfg 1 (SKID_CFG.DSTEP 1) - 1) / (4 * (countEdges (st [(RGN_STAT.STATE 1, 2), (SKID_CTRL.EN, 1), (SKID_CFG.EN 1, 1)])).skidCfg 1 (SKID_CFG.DSTEP 1))), st [(RGN_STAT.STATE 1, 2), (SKID_CTRL.EN, 1), (SKID_CFG.EN 1, 1)], countEdges (st [(RGN_STAT.STATE 1, 2), (SKID_CTRL.EN, 1), (SKID_CFG.EN 1, 1)]), ?_, ?_, ?_, ?_⟩
    · first | rfl | decide +kernel
    · first | decide +kernel | rfl
    · decide +kernel
    · first | rfl | decide +kernel
  · refine ⟨255, 2047, 1, st [(RGN_STAT.STATE 255, 2), (SKID_CTRL.EN, 1), (SKID_CFG.EN 255, 1), (SKID_RSTAT.DEPTH 255, 1), (SKID_CFG.RELHOLD 255, 1)], countEdges (st [(RGN_STAT.STATE 255, 2), (SKID_CTRL.EN, 1), (SKID_CFG.EN 255, 1), (SKID_RSTAT.DEPTH 255, 1), (SKID_CFG.RELHOLD 255, 1)]), ?_, ?_, ?_, ?_, ?_⟩
    · first | rfl | decide +kernel
    · first | decide +kernel | rfl
    · decide +kernel
    · decide +kernel
    · decide +kernel
  · refine ⟨255, 2047, 1, st [(RGN_STAT.STATE 255, 2), (SKID_CTRL.EN, 1), (SKID_CFG.EN 255, 1), (SKID_RSTAT.DEPTH 255, 1), (SKID_CFG.RELHOLD 255, 5)], countEdges (st [(RGN_STAT.STATE 255, 2), (SKID_CTRL.EN, 1), (SKID_CFG.EN 255, 1), (SKID_RSTAT.DEPTH 255, 1), (SKID_CFG.RELHOLD 255, 5)]), ?_, ?_, ?_, ?_, ?_⟩
    · first | rfl | decide +kernel
    · first | decide +kernel | rfl
    · decide +kernel
    · decide +kernel
    · decide +kernel
  · refine ⟨1, 1, 1, State.reset, max (State.reset.get (SKID_RSTAT.DEPTH 1)) (State.reset.get (SKID_FORCE.DEPTH 1)), ?_, ?_⟩
    · first | decide +kernel | rfl
    · first | rfl | decide +kernel
  · refine ⟨255, 1, 1, 1, { st [(TIM_STAT.PLL_LOCK, 1)] with skid := [(255, { due := [(1, 1, 1)] })], rst := { State.reset.rst with inst := false, por := false } }, ?_, ?_, ?_⟩
    · first | decide +kernel | rfl
    · first | decide +kernel | rfl
    · first | decide +kernel | rfl
  · refine ⟨1, { State.reset with rst := { State.reset.rst with inst := true } }, ?_⟩
    · decide +kernel
  · refine ⟨0x123456789, 255, { st [(RGN_STAT.STATE 255, 2), (SKID_CTRL.EN, 1), (SKID_CFG.EN 255, 1), (SKID_FORCE.DEPTH 255, 1)] with rst := { State.reset.rst with inst := false, por := false } }, ?_, ?_⟩
    · decide +kernel
    · first | decide +kernel | rfl
  · refine ⟨1, st [(SKID_RSTAT.LEVEL 1, 0)], countEdges (st [(SKID_RSTAT.LEVEL 1, 0)]), ?_, ?_, ?_⟩
    · first | rfl | decide +kernel
    · first | decide +kernel | rfl
    · first | decide +kernel | rfl
  · refine ⟨0x123456789, 255, { State.reset with rst := { State.reset.rst with inst := false, por := false } }, ?_, ?_⟩
    · decide +kernel
    · first | decide +kernel | rfl
  · refine ⟨255, st [(RGN_STAT.STATE 255, 2), (SKID_CTRL.EN, 1), (SKID_CFG.EN 255, 1), (SKID_WIN.ESC_EN 255, 1), (SKID_WIN.ESC_EN 255, 1), (SKID_ESC.STEP 255, 1), (SKID_ESC.FLOOR 255, 32), (SKID_ESC.TH 255, 1), (SKID_DCUR.CW 255, 30000)], countEdges (st [(RGN_STAT.STATE 255, 2), (SKID_CTRL.EN, 1), (SKID_CFG.EN 255, 1), (SKID_WIN.ESC_EN 255, 1), (SKID_WIN.ESC_EN 255, 1), (SKID_ESC.STEP 255, 1), (SKID_ESC.FLOOR 255, 32), (SKID_ESC.TH 255, 1), (SKID_DCUR.CW 255, 30000)]), ?_, ?_, ?_, ?_, ?_, ?_, ?_⟩
    · first | rfl | decide +kernel
    · first | decide +kernel | rfl
    · first | decide +kernel | rfl
    · first | decide +kernel | rfl
    · first | decide +kernel | rfl
    · decide +kernel
    · decide +kernel
  · refine ⟨255, st [(RGN_STAT.STATE 255, 2), (SKID_CTRL.EN, 1), (SKID_CFG.EN 255, 1), (SKID_WIN.ESC_EN 255, 1), (SKID_WIN.ESC_EN 255, 1), (SKID_ESC.STEP 255, 1), (SKID_ESC.FLOOR 255, 32), (SKID_ESC.TH 255, 1), (SKID_DCUR.CW 255, 5)], countEdges (st [(RGN_STAT.STATE 255, 2), (SKID_CTRL.EN, 1), (SKID_CFG.EN 255, 1), (SKID_WIN.ESC_EN 255, 1), (SKID_WIN.ESC_EN 255, 1), (SKID_ESC.STEP 255, 1), (SKID_ESC.FLOOR 255, 32), (SKID_ESC.TH 255, 1), (SKID_DCUR.CW 255, 5)]), ?_, ?_, ?_, ?_, ?_, ?_, ?_⟩
    · first | rfl | decide +kernel
    · first | decide +kernel | rfl
    · first | decide +kernel | rfl
    · first | decide +kernel | rfl
    · first | decide +kernel | rfl
    · decide +kernel
    · decide +kernel
  · refine ⟨.sec, 255, 1, { State.reset with rst := { State.reset.rst with inst := false, por := false } }, ?_, ?_⟩
    · decide +kernel
    · exact permits_of (by decide +kernel)
  · refine ⟨.sec, 255, 1, { State.reset with rst := { State.reset.rst with inst := false, por := false } }, ?_, ?_⟩
    · decide +kernel
    · exact permits_of (by decide +kernel)
  · refine ⟨.sec, 255, 1, { State.reset with rst := { State.reset.rst with inst := false, por := false } }, ?_, ?_⟩
    · decide +kernel
    · exact permits_of (by decide +kernel)

/-- States and operands that meet the hypotheses of PowerPolicyCommandsComplete. -/
theorem witness_PowerPolicyCommandsComplete :
    (∃ (req : Requester) (v : Word) (s : State), s.Permits req PWR_CTRL (v ||| 1) ∧ s.inst = 0 ∧ s.get
      PWR_CTRL.OP_EN = 0) ∧
    (∃ (e : Dword) (s : State), s.pwr.checking = true ∧ (∀ n ∈ s.opRegions, s.opTableOk n = true) ∧ s.rst.inst =
      false) ∧
    (∃ (e : Dword) (n : ℕ) (s : State), s.pwr.checking = true ∧ n < 256 ∧ ((s.opRegions.find? fun n =>
      !s.opTableOk n) = some n) ∧ s.rst.inst = false) ∧
    (∃ (e : Dword) (n : RegionIx) (tt : ℕ) (since : ℕ) (s : State), (s.prgn n).move = some ⟨true, tt, since⟩ ∧
      s.profiled n = false ∧ since + 800 ≤ (s.advanceTo e).now ∧ tt < 16 ∧ s.rst.inst = false) ∧
    (∃ (req : Requester) (n : RegionIx) (v : Word) (tt : ℕ) (since : ℕ) (u : State) (s : State), n.val ≠ 0 ∧
      s.Permits req (PWR_FREQ n) v ∧ (s.prgn n).move = some ⟨false, tt, since⟩ ∧ u = storeReg (PWR_FREQ n) v s ∧
      u.get (PWR_FREQ.ACK n) ≤ u.get (PWR_OP.FMHZ n tt) ∧ tt < 16) ∧
    (∃ (req : Requester) (n : RegionIx) (v : Word) (tt : ℕ) (since : ℕ) (u : State) (s : State), n.val ≠ 0 ∧
      s.Permits req (PWR_FREQ n) v ∧ (s.prgn n).move = some ⟨false, tt, since⟩ ∧ u = storeReg (PWR_FREQ n) v s ∧
      u.get (PWR_OP.FMHZ n tt) < u.get (PWR_FREQ.ACK n)) ∧
    (∃ (e : Dword) (n : RegionIx) (tt : ℕ) (since : ℕ) (s : State), (s.prgn n).move = some ⟨false, tt, since⟩ ∧
      since + 800 * s.get PWR_FACK.TO ≤ (s.advanceTo e).now ∧ s.rst.inst = false) ∧
    (∃ (e : Dword) (s : State), s.rst.inst = false) ∧
    (∃ (n : ℕ) (s : State), s.regionPower n < 2 ^ 20) ∧
    (∃ (e : Dword) (s : State), s.rst.inst = false) ∧
    (∃ (req : Requester) (v : Word) (s : State), s.Permits req PWR_CAL (v ||| 1)) ∧
    (∃ (e : Dword) (s : State), s.rst.inst = false) ∧
    (∃ (s : State), s.get PWR_CAL.COMMIT = 1) ∧
    (∃ (e : Dword) (s : State), s.rst.inst = false) ∧
    (∃ (s : State), s.locked = false) ∧
    (∃ (s : State), s.locked = true) ∧
    (∃ (e : Dword) (k : Fin 4) (m : BitVec 16) (s : State), s.inst = 0 ∧ k.val ≠ 0 ∧ s.rst.inst = false) ∧
    (∃ (e : Dword) (s : State), s.inst = 0 ∧ s.pwr.sharesDue = true ∧ s.rst.inst = false) ∧
    (∃ (e : Dword) (share : BitVec 16) (cap : BitVec 16) (pkg : Word) (bmc : Word) (envEn : Bool) (pg : Fin 16)
      (s : State), s.inst ≠ 0 ∧ s.rst.inst = false) ∧
    (∃ (e : Dword) (fail : Option (Fin 16)) (s : State), s.rst.inst = false) := by
  refine ⟨?_, ?_, ?_, ?_, ?_, ?_, ?_, ?_, ?_, ?_, ?_, ?_, ?_, ?_, ?_, ?_, ?_, ?_, ?_, ?_⟩
  · refine ⟨.sec, 1, { st [(PWR_CTRL.OP_EN, 0)] with efuse := { State.reset.efuse with inst := 0 }, rst := { State.reset.rst with inst := false, por := false } }, ?_, ?_, ?_⟩
    · exact permits_of (by decide +kernel)
    · first | decide +kernel | rfl
    · first | decide +kernel | rfl
  · refine ⟨0x123456789, { State.reset with pwr := { State.reset.pwr with checking := true }, rst := { State.reset.rst with inst := false, por := false } }, ?_, ?_, ?_⟩
    · first | decide +kernel | rfl
    · first | decide +kernel | rfl
    · first | decide +kernel | rfl
  · refine ⟨0x123456789, 255, { st [(PWR_OP.FMHZ 255 0, 1), (PWR_OP.VALID 255 5, 1)] with pwr := { State.reset.pwr with checking := true }, rst := { State.reset.rst with inst := false, por := false } }, ?_, ?_, ?_, ?_⟩
    · first | decide +kernel | rfl
    · decide +kernel
    · first | decide +kernel | rfl
    · first | decide +kernel | rfl
  · refine ⟨0x123456789, 255, 15, 9, { State.reset with pwrRgn := [(255, { move := some ⟨true, 15, 9⟩ })], rst := { State.reset.rst with inst := false, por := false } }, ?_, ?_, ?_, ?_, ?_⟩
    · first | decide +kernel | rfl
    · first | decide +kernel | rfl
    · decide +kernel
    · decide +kernel
    · first | decide +kernel | rfl
  · refine ⟨.sec, 255, 1, 15, 9, storeReg (PWR_FREQ (255 : RegionIx)) (1 : Word) ({ State.reset with pwrRgn := [(255, { move := some ⟨false, 15, 9⟩ })], rst := { State.reset.rst with inst := false, por := false } }), { State.reset with pwrRgn := [(255, { move := some ⟨false, 15, 9⟩ })], rst := { State.reset.rst with inst := false, por := false } }, ?_, ?_, ?_, ?_, ?_, ?_⟩
    · decide +kernel
    · exact permits_of (by decide +kernel)
    · first | decide +kernel | rfl
    · first | rfl | decide +kernel
    · decide +kernel
    · decide +kernel
  · refine ⟨.sec, 255, 0xFFF0000, 15, 9, storeReg (PWR_FREQ (255 : RegionIx)) (0xFFF0000 : Word) ({ State.reset with pwrRgn := [(255, { move := some ⟨false, 15, 9⟩ })], rst := { State.reset.rst with inst := false, por := false } }), { State.reset with pwrRgn := [(255, { move := some ⟨false, 15, 9⟩ })], rst := { State.reset.rst with inst := false, por := false } }, ?_, ?_, ?_, ?_, ?_⟩
    · decide +kernel
    · exact permits_of (by decide +kernel)
    · first | decide +kernel | rfl
    · first | rfl | decide +kernel
    · decide +kernel
  · refine ⟨0x123456789, 255, 15, 9, { State.reset with pwrRgn := [(255, { move := some ⟨false, 15, 9⟩ })], rst := { State.reset.rst with inst := false, por := false } }, ?_, ?_, ?_⟩
    · first | decide +kernel | rfl
    · decide +kernel
    · first | decide +kernel | rfl
  · refine ⟨0x123456789, { State.reset with rst := { State.reset.rst with inst := false, por := false } }, ?_⟩
    · first | decide +kernel | rfl
  · refine ⟨1, State.reset, ?_⟩
    · decide +kernel
  · refine ⟨0x123456789, { State.reset with rst := { State.reset.rst with inst := false, por := false } }, ?_⟩
    · first | decide +kernel | rfl
  · refine ⟨.sec, 1, { State.reset with rst := { State.reset.rst with inst := false, por := false } }, ?_⟩
    · exact permits_of (by decide +kernel)
  · refine ⟨0x123456789, { State.reset with rst := { State.reset.rst with inst := false, por := false } }, ?_⟩
    · first | decide +kernel | rfl
  · refine ⟨st [(PWR_CAL.COMMIT, 1)], ?_⟩
    · first | decide +kernel | rfl
  · refine ⟨0x123456789, { State.reset with rst := { State.reset.rst with inst := false, por := false } }, ?_⟩
    · first | decide +kernel | rfl
  · refine ⟨st [(TIM_STAT.PLL_LOCK, 0)], ?_⟩
    · first | decide +kernel | rfl
  · refine ⟨st [(TIM_STAT.PLL_LOCK, 1)], ?_⟩
    · first | decide +kernel | rfl
  · refine ⟨0x123456789, 3, 1, { State.reset with efuse := { State.reset.efuse with inst := 0 }, rst := { State.reset.rst with inst := false, por := false } }, ?_, ?_, ?_⟩
    · first | decide +kernel | rfl
    · decide +kernel
    · first | decide +kernel | rfl
  · refine ⟨0x123456789, { State.reset with efuse := { State.reset.efuse with inst := 0 }, pwr := { State.reset.pwr with sharesDue := true }, rst := { State.reset.rst with inst := false, por := false } }, ?_, ?_, ?_⟩
    · first | decide +kernel | rfl
    · first | decide +kernel | rfl
    · first | decide +kernel | rfl
  · refine ⟨0x123456789, 1, 1, 1, 1, true, 15, { State.reset with efuse := { State.reset.efuse with inst := 1 }, rst := { State.reset.rst with inst := false, por := false } }, ?_, ?_⟩
    · decide +kernel
    · first | decide +kernel | rfl
  · refine ⟨0x123456789, none, { State.reset with rst := { State.reset.rst with inst := false, por := false } }, ?_⟩
    · first | decide +kernel | rfl

/-- States and operands that meet the hypotheses of SenseCommandsComplete. -/
theorem witness_SenseCommandsComplete :
    (∃ (e : Dword) (k : Fin 4) (raw : BitVec 14) (slot : SnsSlot) (s : State) (z : State), z = slotEnd k
      (s.advanceTo e) ∧ (z.sconv k).cur = some slot ∧ slot.ch < 64 ∧ s.rst.inst = false) ∧
    (∃ (e : Dword) (k : Fin 4) (raw : BitVec 14) (s : State), (s.sconv k).cur = none ∧ s.rst.inst = false) ∧
    (∃ (req : Requester) (k : Fin 4) (ch : BitVec 6) (s : State), s.Permits req (SNS_URG k) (BitVec.ofNat 32
      ch.toNat) ∧ ch.toNat < snsChannels k ∧ (s.sconv k).urg.length < 4) ∧
    (∃ (req : Requester) (k : Fin 4) (ch : BitVec 6) (s : State), s.Permits req (SNS_URG k) (BitVec.ofNat 32
      ch.toNat) ∧ snsChannels k ≤ ch.toNat) ∧
    (∃ (req : Requester) (k : Fin 4) (ch : BitVec 6) (s : State), s.Permits req (SNS_URG k) (BitVec.ofNat 32
      ch.toNat) ∧ ch.toNat < snsChannels k ∧ 4 ≤ (s.sconv k).urg.length) ∧
    (∃ (req : Requester) (k : Fin 4) (v : Word) (u : State) (s : State), s.Permits req (SNS_CFG k) v ∧ u =
      storeReg (SNS_CFG k) v s) ∧
    (∃ (e : Dword) (k : Fin 4) (x : ℕ) (s : State) (z : State), z = s.advanceTo e ∧ (z.sconv k).settle = some x
      ∧ s.rst.inst = false) ∧
    (∃ (e : Dword) (k : Fin 4) (s : State), (s.sconv k).settle = none ∧ s.rst.inst = false) ∧
    (∃ (e : Dword) (p : Fin 2) (f : Fld) (b : Fld) (s : State), pairFields p = (f, b) ∧ s.get f = 0 ∧ s.get
      SNS_CHK.NFAIL ≤ (s.sconv (2 * p.val)).dis ∧ s.rst.inst = false) ∧
    (∃ (e : Dword) (p : Fin 2) (f : Fld) (b : Fld) (s : State), pairFields p = (f, b) ∧ s.get f = 1 ∧ s.get
      SNS_CHK.NFAIL ≤ (s.sconv (2 * p.val)).agr ∧ s.rst.inst = false) ∧
    (∃ (k : ℕ) (m : ℕ) (a : ℕ) (other : ℕ) (start : ℕ) (code : ℕ) (d : ℕ) (s : State), pairOf k m = some (a,
      other) ∧ k ≠ other ∧ k < 4 ∧ (s.sconv other).pair = some (start, d)) ∧
    (∃ (e : Dword) (w : Fin 64) (s : State), s.get (SNS_WC_CFG.EN w) = 1 ∧ s.get (SNS_WC_STAT.OUT w) = 0 ∧ s.get
      (SNS_WC_CFG.FILT w) ≤ s.get (SNS_WC_STAT.FCNT w) ∧ s.rst.inst = false) ∧
    (∃ (e : Dword) (w : Fin 64) (s : State), s.get (SNS_WC_CFG.EN w) = 1 ∧ s.get (SNS_WC_STAT.OUT w) = 1 ∧ s.get
      (SNS_WC_CFG.FILT w) ≤ s.get (SNS_WC_STAT.FCNT w) ∧ s.rst.inst = false) ∧
    (∃ (e : Dword) (w : Fin 64) (s : State), s.rst.inst = false) ∧
    (∃ (w : ℕ) (x : ℕ) (s : State) (k : ℕ), (s.scomp w).since < x ∧ s.get (SNS_WC_WIN.WIN w) = (s.scomp w).win ∧
      (s.scomp w).win ≠ 0 ∧ k = x / (800 * (s.scomp w).win) - (s.scomp w).since / (800 * (s.scomp w).win)) ∧
    (∃ (req : Requester) (w : Fin 64) (band : Bool) (v : Word) (u : State) (s : State), s.Permits req (if band
      then SNS_WC_BAND w else SNS_WC_CFG w) v ∧ u = storeReg (if band then SNS_WC_BAND w else SNS_WC_CFG w) v s) ∧
    (∃ (req : Requester) (v : Word) (s : State), s.Permits req SNS_PT_CTL v) := by
  refine ⟨?_, ?_, ?_, ?_, ?_, ?_, ?_, ?_, ?_, ?_, ?_, ?_, ?_, ?_, ?_, ?_, ?_⟩
  · refine ⟨0x123456789, 3, 1, ⟨3, false, 0, 0⟩, { State.reset with snsConv := [(3, { cur := some ⟨3, false, 0, 0⟩ })], rst := { State.reset.rst with inst := false, por := false } }, slotEnd (3 : Fin 4) (({ State.reset with snsConv := [(3, { cur := some ⟨3, false, 0, 0⟩ })], rst := { State.reset.rst with inst := false, por := false } }).advanceTo (0x123456789 : Dword)), ?_, ?_, ?_, ?_⟩
    · first | rfl | decide +kernel
    · first | decide +kernel | rfl
    · decide +kernel
    · first | decide +kernel | rfl
  · refine ⟨0x123456789, 3, 1, { State.reset with rst := { State.reset.rst with inst := false, por := false } }, ?_, ?_⟩
    · first | decide +kernel | rfl
    · first | decide +kernel | rfl
  · refine ⟨.sec, 3, 1, { State.reset with rst := { State.reset.rst with inst := false, por := false } }, ?_, ?_, ?_⟩
    · exact permits_of (by decide +kernel)
    · decide +kernel
    · decide +kernel
  · refine ⟨.sec, 3, 63, { State.reset with rst := { State.reset.rst with inst := false, por := false } }, ?_, ?_⟩
    · exact permits_of (by decide +kernel)
    · decide +kernel
  · refine ⟨.sec, 3, 1, { State.reset with snsConv := [(3, { urg := [1, 2, 3, 4] })], rst := { State.reset.rst with inst := false, por := false } }, ?_, ?_, ?_⟩
    · exact permits_of (by decide +kernel)
    · decide +kernel
    · decide +kernel
  · refine ⟨.sec, 3, 1, storeReg (SNS_CFG (3 : Fin 4)) (1 : Word) ({ State.reset with rst := { State.reset.rst with inst := false, por := false } }), { State.reset with rst := { State.reset.rst with inst := false, por := false } }, ?_, ?_⟩
    · exact permits_of (by decide +kernel)
    · first | rfl | decide +kernel
  · refine ⟨0x123456789, 3, 1, { State.reset with snsConv := [(3, { settle := some 1 })], rst := { State.reset.rst with inst := false, por := false } }, ({ State.reset with snsConv := [(3, { settle := some 1 })], rst := { State.reset.rst with inst := false, por := false } }).advanceTo (0x123456789 : Dword), ?_, ?_, ?_⟩
    · first | rfl | decide +kernel
    · first | decide +kernel | rfl
    · first | decide +kernel | rfl
  · refine ⟨0x123456789, 3, { State.reset with rst := { State.reset.rst with inst := false, por := false } }, ?_, ?_⟩
    · first | decide +kernel | rfl
    · first | decide +kernel | rfl
  · refine ⟨0x123456789, 1, SNS_STAT.PAIR23_BAD, SNS_STAT.BLAME23, { st [(SNS_STAT.PAIR23_BAD, 0)] with snsConv := [(2, { dis := 15 })], rst := { State.reset.rst with inst := false, por := false } }, ?_, ?_, ?_, ?_⟩
    · first | decide +kernel | rfl
    · first | decide +kernel | rfl
    · decide +kernel
    · first | decide +kernel | rfl
  · refine ⟨0x123456789, 1, SNS_STAT.PAIR23_BAD, SNS_STAT.BLAME23, { st [(SNS_STAT.PAIR23_BAD, 1), (SNS_STAT.PAIR23_BAD, 1)] with snsConv := [(2, { agr := 15 })], rst := { State.reset.rst with inst := false, por := false } }, ?_, ?_, ?_, ?_⟩
    · first | decide +kernel | rfl
    · first | decide +kernel | rfl
    · decide +kernel
    · first | decide +kernel | rfl
  · refine ⟨2, 1, 2, 3, 1, 1, 1, { State.reset with snsConv := [(3, { pair := some (1, 1) })] }, ?_, ?_, ?_, ?_⟩
    · first | decide +kernel | rfl
    · decide +kernel
    · decide +kernel
    · first | decide +kernel | rfl
  · refine ⟨0x123456789, 63, { st [(SNS_WC_CFG.EN (63 : Fin 64), 1), (SNS_WC_STAT.OUT (63 : Fin 64), 0), (SNS_WC_CFG.FILT 63, 0)] with rst := { State.reset.rst with inst := false, por := false } }, ?_, ?_, ?_, ?_⟩
    · first | decide +kernel | rfl
    · first | decide +kernel | rfl
    · decide +kernel
    · first | decide +kernel | rfl
  · refine ⟨0x123456789, 63, { st [(SNS_WC_CFG.EN (63 : Fin 64), 1), (SNS_WC_STAT.OUT (63 : Fin 64), 1), (SNS_WC_CFG.FILT 63, 0)] with rst := { State.reset.rst with inst := false, por := false } }, ?_, ?_, ?_, ?_⟩
    · first | decide +kernel | rfl
    · first | decide +kernel | rfl
    · decide +kernel
    · first | decide +kernel | rfl
  · refine ⟨0x123456789, 63, { State.reset with rst := { State.reset.rst with inst := false, por := false } }, ?_⟩
    · first | decide +kernel | rfl
  · refine ⟨1, 1, { st [(SNS_WC_WIN.WIN 1, 1)] with snsComp := [(1, { win := 1 })] }, 1 / (800 * (({ st [(SNS_WC_WIN.WIN 1, 1)] with snsComp := [(1, { win := 1 })] }).scomp 1).win) - (({ st [(SNS_WC_WIN.WIN 1, 1)] with snsComp := [(1, { win := 1 })] }).scomp 1).since / (800 * (({ st [(SNS_WC_WIN.WIN 1, 1)] with snsComp := [(1, { win := 1 })] }).scomp 1).win), ?_, ?_, ?_, ?_⟩
    · decide +kernel
    · first | decide +kernel | rfl
    · decide +kernel
    · first | rfl | decide +kernel
  · refine ⟨.sec, 63, true, 1, storeReg (if true then SNS_WC_BAND (63 : Fin 64) else SNS_WC_CFG (63 : Fin 64)) (1 : Word) ({ State.reset with rst := { State.reset.rst with inst := false, por := false } }), { State.reset with rst := { State.reset.rst with inst := false, por := false } }, ?_, ?_⟩
    · exact permits_of (by decide +kernel)
    · first | rfl | decide +kernel
  · refine ⟨.sec, 1, { State.reset with rst := { State.reset.rst with inst := false, por := false } }, ?_⟩
    · exact permits_of (by decide +kernel)

/-- States and operands that meet the hypotheses of ThermalCommandsComplete. -/
theorem witness_ThermalCommandsComplete :
    (∃ (e : Dword) (s : State), s.rst.inst = false) ∧
    (∃ (q : ℕ) (s : State), s.get THM_GUARD.EN = 1 ∧ s.locked = true ∧ q < 64 ∧ (s.tgrp q).pos = none ∧ (s.tgrp
      q).pending = false ∧ (s.tgrp q).demBy = 0 ∧ s.thm.guardAt / (800 * s.thm.guard) ≠ s.now / (800 *
      s.thm.guard)) ∧
    (∃ (s : State), (s.get THM_GUARD.EN = 0 ∨ s.get THM_GUARD.PERIOD = s.thm.guard ∧ s.thm.guardAt / (800 *
      s.thm.guard) = s.now / (800 * s.thm.guard))) ∧
    (∃ (req : Requester) (hi : Bool) (v : Word) (m : ℕ) (q : ℕ) (s : State), s.Permits req (if hi then
      THM_DEM_HI else THM_DEM_LO) v ∧ s.locked = true ∧ m = (if hi then v.toNat * 2 ^ 32 else v.toNat) ∧ (s.tgrp
      q).pos = none ∧ (s.tgrp q).pending = false ∧ (s.tgrp q).demBy = 0) ∧
    (∃ (e : Dword) (q : GroupIx) (p : ℕ) (s : State) (y : State), y = thmMeasureTo q (s.advanceTo e) ∧ (y.tgrp
      q).pos = some p ∧ p < 8 ∧ y.locked = true ∧ s.rst.inst = false) ∧
    (∃ (e : Dword) (q : GroupIx) (p : ℕ) (raw : BitVec 32) (c : BitVec 16) (z : ℤ) (s : State) (y : State), y =
      thmMeasureTo q (s.advanceTo e) ∧ (y.tgrp q).pos = some p ∧ p < 8 ∧ y.locked = true ∧ z = c.toInt + y.getI
      (THM_SCTL.OFS (8 * q.val + p)) ∧ -32768 ≤ z ∧ z ≤ 32767 ∧ s.rst.inst = false) ∧
    (∃ (e : Dword) (q : GroupIx) (s : State), (s.tgrp q).pos ≠ some 8 ∧ s.rst.inst = false) ∧
    (∃ (e : Dword) (q : GroupIx) (u : State) (v : State) (s : State), (s.tgrp q).pos = some 8 ∧ u = (thmEvaluate
      q (thmExclusions q (s.advanceTo e))).incSat THM_CNT.SWEEPS ∧ v = (if (u.tgrp q).fw then thmEvent
      THM_EVT.FWDONE 6 u else u) ∧ s.rst.inst = false) ∧
    (∃ (q : ℕ) (s : State), (s.tgrp q).pos.isSome = true) ∧
    (∃ (req : Requester) (x : Fin 512) (v : Word) (u : State) (s : State), s.Permits req (THM_SCTL x) v ∧ u =
      storeReg (THM_SCTL x) (if s.bit (THM_SCTL.XCAUSE x) then v ||| (s.freshBits (THM_SCTL x) &&& 0x80000000)
      else v) s) ∧
    (∃ (e : Dword) (y : State) (z : State) (u : State) (s : State), y = s.advanceTo e ∧ z = (if y.thmState = 1
      then drainTo y else y) ∧ z.thmState = 1 ∧ z.thm.drained = false ∧ z.sagOn = false ∧ z.locked = true ∧ u =
      { z with thm := { z.thm with drained := true } } ∧ s.rst.inst = false) ∧
    (∃ (e : Dword) (y : State) (z : State) (s : State), y = s.advanceTo e ∧ z = (if y.thmState = 1 then drainTo
      y else y) ∧ (z.thmState ≠ 1 ∨ z.thm.drained = true) ∧ s.rst.inst = false) ∧
    (∃ (e : Dword) (z : State) (s : State), z = s.advanceTo e ∧ z.thmState = 1 ∧ z.thm.drained = true ∧ z.sagOn
      = false ∧ (∀ n ∈ z.liveRegions, z.rgnState n = rFAULTED) ∧ s.rst.inst = false) ∧
    (∃ (e : Dword) (y : State) (s : State), y = s.advanceTo e ∧ y.thmState = 1 ∧ s.rst.inst = false) ∧
    (∃ (req : Requester) (v : Word) (s : State), s.Permits req THM_CTRL v ∧ fldGet v 0 0 = 1) := by
  refine ⟨?_, ?_, ?_, ?_, ?_, ?_, ?_, ?_, ?_, ?_, ?_, ?_, ?_, ?_, ?_⟩
  · refine ⟨0x123456789, { State.reset with rst := { State.reset.rst with inst := false, por := false } }, ?_⟩
    · first | decide +kernel | rfl
  · refine ⟨1, { st [(THM_GUARD.EN, 1), (TIM_STAT.PLL_LOCK, 1)] with ts := 200000 }, ?_, ?_, ?_, ?_, ?_, ?_, ?_⟩
    · first | decide +kernel | rfl
    · first | decide +kernel | rfl
    · decide +kernel
    · first | decide +kernel | rfl
    · first | decide +kernel | rfl
    · first | decide +kernel | rfl
    · decide +kernel
  · refine ⟨st [(THM_GUARD.EN, 0)], ?_⟩
    · decide +kernel
  · refine ⟨.sec, true, 1, (if true then (1 : Word).toNat * 2 ^ 32 else (1 : Word).toNat), 1, { st [(TIM_STAT.PLL_LOCK, 1)] with thmGroup := [(63, { pos := some 7 })], rst := { State.reset.rst with inst := false, por := false } }, ?_, ?_, ?_, ?_, ?_, ?_⟩
    · exact permits_of (by decide +kernel)
    · first | decide +kernel | rfl
    · first | rfl | decide +kernel
    · first | decide +kernel | rfl
    · first | decide +kernel | rfl
    · first | decide +kernel | rfl
  · refine ⟨0x123456789, 63, 7, { st [(TIM_STAT.PLL_LOCK, 1)] with thmGroup := [(63, { pos := some 7 })], rst := { State.reset.rst with inst := false, por := false } }, thmMeasureTo (63 : GroupIx) (({ st [(TIM_STAT.PLL_LOCK, 1)] with thmGroup := [(63, { pos := some 7 })], rst := { State.reset.rst with inst := false, por := false } }).advanceTo (0x123456789 : Dword)), ?_, ?_, ?_, ?_, ?_⟩
    · first | rfl | decide +kernel
    · first | decide +kernel | rfl
    · decide +kernel
    · first | decide +kernel | rfl
    · first | decide +kernel | rfl
  · refine ⟨0x123456789, 63, 7, 1, 1, (1 : BitVec 16).toInt + (thmMeasureTo (63 : GroupIx) (({ st [(TIM_STAT.PLL_LOCK, 1)] with thmGroup := [(63, { pos := some 7 })], rst := { State.reset.rst with inst := false, por := false } }).advanceTo (0x123456789 : Dword))).getI (THM_SCTL.OFS (8 * (63 : GroupIx).val + 7)), { st [(TIM_STAT.PLL_LOCK, 1)] with thmGroup := [(63, { pos := some 7 })], rst := { State.reset.rst with inst := false, por := false } }, thmMeasureTo (63 : GroupIx) (({ st [(TIM_STAT.PLL_LOCK, 1)] with thmGroup := [(63, { pos := some 7 })], rst := { State.reset.rst with inst := false, por := false } }).advanceTo (0x123456789 : Dword)), ?_, ?_, ?_, ?_, ?_, ?_, ?_, ?_⟩
    · first | rfl | decide +kernel
    · first | decide +kernel | rfl
    · decide +kernel
    · first | decide +kernel | rfl
    · first | rfl | decide +kernel
    · decide +kernel
    · decide +kernel
    · first | decide +kernel | rfl
  · refine ⟨0x123456789, 63, { State.reset with rst := { State.reset.rst with inst := false, por := false } }, ?_, ?_⟩
    · decide +kernel
    · first | decide +kernel | rfl
  · refine ⟨0x123456789, 63, (thmEvaluate (63 : GroupIx) (thmExclusions (63 : GroupIx) (({ State.reset with thmGroup := [(63, { pos := some 8 })], rst := { State.reset.rst with inst := false, por := false } }).advanceTo (0x123456789 : Dword)))).incSat THM_CNT.SWEEPS, (if (((thmEvaluate (63 : GroupIx) (thmExclusions (63 : GroupIx) (({ State.reset with thmGroup := [(63, { pos := some 8 })], rst := { State.reset.rst with inst := false, por := false } }).advanceTo (0x123456789 : Dword)))).incSat THM_CNT.SWEEPS).tgrp (63 : GroupIx)).fw then thmEvent THM_EVT.FWDONE 6 ((thmEvaluate (63 : GroupIx) (thmExclusions (63 : GroupIx) (({ State.reset with thmGroup := [(63, { pos := some 8 })], rst := { State.reset.rst with inst := false, por := false } }).advanceTo (0x123456789 : Dword)))).incSat THM_CNT.SWEEPS) else ((thmEvaluate (63 : GroupIx) (thmExclusions (63 : GroupIx) (({ State.reset with thmGroup := [(63, { pos := some 8 })], rst := { State.reset.rst with inst := false, por := false } }).advanceTo (0x123456789 : Dword)))).incSat THM_CNT.SWEEPS)), { State.reset with thmGroup := [(63, { pos := some 8 })], rst := { State.reset.rst with inst := false, por := false } }, ?_, ?_, ?_, ?_⟩
    · first | decide +kernel | rfl
    · first | rfl | decide +kernel
    · first | rfl | decide +kernel
    · first | decide +kernel | rfl
  · refine ⟨63, { State.reset with thmGroup := [(63, { pos := some 8 })] }, ?_⟩
    · first | decide +kernel | rfl
  · refine ⟨.sec, 511, 1, storeReg (THM_SCTL (511 : Fin 512)) (if ({ State.reset with rst := { State.reset.rst with inst := false, por := false } }).bit (THM_SCTL.XCAUSE (511 : Fin 512)) then (1 : Word) ||| (({ State.reset with rst := { State.reset.rst with inst := false, por := false } }).freshBits (THM_SCTL (511 : Fin 512)) &&& 0x80000000) else (1 : Word)) ({ State.reset with rst := { State.reset.rst with inst := false, por := false } }), { State.reset with rst := { State.reset.rst with inst := false, por := false } }, ?_, ?_⟩
    · exact permits_of (by decide +kernel)
    · first | rfl | decide +kernel
  · refine ⟨0x123456789, ({ st [(THM_STAT.STATE, 1), (TIM_STAT.PLL_LOCK, 1)] with rst := { State.reset.rst with inst := false, por := false } }).advanceTo (0x123456789 : Dword), (if (({ st [(THM_STAT.STATE, 1), (TIM_STAT.PLL_LOCK, 1)] with rst := { State.reset.rst with inst := false, por := false } }).advanceTo (0x123456789 : Dword)).thmState = 1 then drainTo (({ st [(THM_STAT.STATE, 1), (TIM_STAT.PLL_LOCK, 1)] with rst := { State.reset.rst with inst := false, por := false } }).advanceTo (0x123456789 : Dword)) else (({ st [(THM_STAT.STATE, 1), (TIM_STAT.PLL_LOCK, 1)] with rst := { State.reset.rst with inst := false, por := false } }).advanceTo (0x123456789 : Dword))), { (if (({ st [(THM_STAT.STATE, 1), (TIM_STAT.PLL_LOCK, 1)] with rst := { State.reset.rst with inst := false, por := false } }).advanceTo (0x123456789 : Dword)).thmState = 1 then drainTo (({ st [(THM_STAT.STATE, 1), (TIM_STAT.PLL_LOCK, 1)] with rst := { State.reset.rst with inst := false, por := false } }).advanceTo (0x123456789 : Dword)) else (({ st [(THM_STAT.STATE, 1), (TIM_STAT.PLL_LOCK, 1)] with rst := { State.reset.rst with inst := false, por := false } }).advanceTo (0x123456789 : Dword))) with thm := { (if (({ st [(THM_STAT.STATE, 1), (TIM_STAT.PLL_LOCK, 1)] with rst := { State.reset.rst with inst := false, por := false } }).advanceTo (0x123456789 : Dword)).thmState = 1 then drainTo (({ st [(THM_STAT.STATE, 1), (TIM_STAT.PLL_LOCK, 1)] with rst := { State.reset.rst with inst := false, por := false } }).advanceTo (0x123456789 : Dword)) else (({ st [(THM_STAT.STATE, 1), (TIM_STAT.PLL_LOCK, 1)] with rst := { State.reset.rst with inst := false, por := false } }).advanceTo (0x123456789 : Dword))).thm with drained := true } }, { st [(THM_STAT.STATE, 1), (TIM_STAT.PLL_LOCK, 1)] with rst := { State.reset.rst with inst := false, por := false } }, ?_, ?_, ?_, ?_, ?_, ?_, ?_, ?_⟩
    · first | rfl | decide +kernel
    · first | rfl | decide +kernel
    · first | decide +kernel | rfl
    · first | decide +kernel | rfl
    · first | decide +kernel | rfl
    · first | decide +kernel | rfl
    · first | rfl | decide +kernel
    · first | decide +kernel | rfl
  · refine ⟨0x123456789, ({ State.reset with rst := { State.reset.rst with inst := false, por := false } }).advanceTo (0x123456789 : Dword), (if (({ State.reset with rst := { State.reset.rst with inst := false, por := false } }).advanceTo (0x123456789 : Dword)).thmState = 1 then drainTo (({ State.reset with rst := { State.reset.rst with inst := false, por := false } }).advanceTo (0x123456789 : Dword)) else (({ State.reset with rst := { State.reset.rst with inst := false, por := false } }).advanceTo (0x123456789 : Dword))), { State.reset with rst := { State.reset.rst with inst := false, por := false } }, ?_, ?_, ?_, ?_⟩
    · first | rfl | decide +kernel
    · first | rfl | decide +kernel
    · decide +kernel
    · first | decide +kernel | rfl
  · refine ⟨0x123456789, ({ st [(THM_STAT.STATE, 1)] with rst := { State.reset.rst with inst := false, por := false }, thm := { State.reset.thm with drained := true } }).advanceTo (0x123456789 : Dword), { st [(THM_STAT.STATE, 1)] with rst := { State.reset.rst with inst := false, por := false }, thm := { State.reset.thm with drained := true } }, ?_, ?_, ?_, ?_, ?_, ?_⟩
    · first | rfl | decide +kernel
    · first | decide +kernel | rfl
    · first | decide +kernel | rfl
    · first | decide +kernel | rfl
    · first | decide +kernel | rfl
    · first | decide +kernel | rfl
  · refine ⟨0x123456789, ({ st [(THM_STAT.STATE, 1)] with rst := { State.reset.rst with inst := false, por := false } }).advanceTo (0x123456789 : Dword), { st [(THM_STAT.STATE, 1)] with rst := { State.reset.rst with inst := false, por := false } }, ?_, ?_, ?_⟩
    · first | rfl | decide +kernel
    · first | decide +kernel | rfl
    · first | decide +kernel | rfl
  · refine ⟨.sec, 1, { State.reset with rst := { State.reset.rst with inst := false, por := false } }, ?_, ?_⟩
    · exact permits_of (by decide +kernel)
    · first | decide +kernel | rfl

/-- States and operands that meet the hypotheses of CabooseCommandsComplete. -/
theorem witness_CabooseCommandsComplete :
    (∃ (e : Dword) (s : State), s.locked = false ∧ s.rst.inst = false) ∧
    (∃ (e : Dword) (ls : List (ℕ × ℕ)) (u : State) (v : State) (w : State) (y : State) (s : State), s.locked =
      true ∧ y = s.advanceTo e ∧ ls = y.cbseLatches ∧ u = latchStore ls y ∧ (v = u.each (latchOrder ls) (fun z b
      => recordLatch b (if b = 3 ∧ y.tim.unlockDue then y.tim.unlockTs.toNat else y.now) z)) ∧ (w = (if (ls.any
      fun e => cbseClass e.1 == 1) && v.bit CBSE_CTRL.CE_IE then v.ring kCBSE 2 else v)) ∧ s.rst.inst = false) ∧
    (∃ (ls : List (ℕ × ℕ)) (u : State) (s : State), (∀ x ∈ ls, x.1 < 43) ∧ u = latchStore ls s) ∧
    (∃ (ls : List (ℕ × ℕ)) (u : State) (s : State) (b : ℕ), (∀ x ∈ ls, x.1 < 43) ∧ u = latchStore ls s ∧ b < 43
      ∧ b ∉ ls.map Prod.fst) ∧
    (∃ (req : Requester) (hi : Bool) (v : Word) (new : ℕ) (ask : ℕ) (u : State) (s : State), s.Permits req (if
      hi then CBSE_STATUS_HI else CBSE_STATUS_LO) v ∧ new = (s.freshBits CBSE_STATUS_LO).toNat + 2 ^ 32 *
      (s.freshBits CBSE_STATUS_HI).toNat ∧ ask = ((if hi then v.toNat * 2 ^ 32 else v.toNat) &&& s.cbseStatus) -
      (((if hi then v.toNat * 2 ^ 32 else v.toNat) &&& s.cbseStatus) &&& new) ∧ u = statusDrop ask (ask &&&
      s.clearPins) s) ∧
    (∃ (ask : ℕ) (up : ℕ) (u : State) (s : State), u = statusDrop ask up s) ∧
    (∃ (ask : ℕ) (up : ℕ) (u : State) (s : State), u = statusDrop ask up s ∧ up = 0) ∧
    (∃ (ask : ℕ) (up : ℕ) (u : State) (s : State), u = statusDrop ask up s ∧ up ≠ 0) ∧
    (∃ (req : Requester) (hi : Bool) (v : Word) (s : State), s.Permits req (if hi then CBSE_FORCE_HI else
      CBSE_FORCE_LO) v) ∧
    (∃ (e : Dword) (m : MemIx) (off : BitVec 20) (s : State), s.rst.inst = false) ∧
    (∃ (e : Dword) (m : MemIx) (off : BitVec 20) (o : ℕ) (fabric : Bool) (s : State), o = off.toNat % memSize m
      ∧ s.rst.inst = false) ∧
    (∃ (e : Dword) (m : MemIx) (found : Fin 3) (o : ℕ) (next : ℕ) (int : ℕ) (was : ℕ) (due : ℕ) (u : State) (z :
      State) (s : State), z = scrubTo m (s.advanceTo e) ∧ z.get CBSE_SCRUB.EN = 1 ∧ z.locked = true ∧ o = mapGet
      0 z.cbse.scrub m ∧ next = (if memSize m ≤ o + 8 then 0 else o + 8) ∧ int = z.get CBSE_SCRUB.INT ∧ was =
      mapGet 0 z.cbse.scrubAt m ∧ due = (if z.tim.edges ≤ was + int then was else z.tim.edges) + int ∧ u =
      { z with cbse := { z.cbse with scrub := mapSet 0 z.cbse.scrub m next, scrubAt := mapSet 0 z.cbse.scrubAt m due } }
      ∧ s.rst.inst = false) ∧
    (∃ (e : Dword) (m : MemIx) (found : Fin 3) (z : State) (s : State), z = scrubTo m (s.advanceTo e) ∧ (z.get
      CBSE_SCRUB.EN = 0 ∨ z.locked = false) ∧ s.rst.inst = false) ∧
    (∃ (m : MemIx) (s : State), (s.get CBSE_SCRUB.EN = 0 ∨ s.locked = false ∨ mapGet 0 s.cbse.scrubAt m ≤
      s.tim.edges)) ∧
    (∃ (m : MemIx) (s : State), s.get CBSE_SCRUB.EN = 1 ∧ s.locked = true ∧ s.tim.edges < mapGet 0
      s.cbse.scrubAt m) := by
  refine ⟨?_, ?_, ?_, ?_, ?_, ?_, ?_, ?_, ?_, ?_, ?_, ?_, ?_, ?_, ?_⟩
  · refine ⟨0x123456789, { st [(TIM_STAT.PLL_LOCK, 0)] with rst := { State.reset.rst with inst := false, por := false } }, ?_, ?_⟩
    · first | decide +kernel | rfl
    · first | decide +kernel | rfl
  · refine ⟨0x123456789, (({ st [(TIM_STAT.PLL_LOCK, 1)] with rst := { State.reset.rst with inst := false, por := false } }).advanceTo (0x123456789 : Dword)).cbseLatches, latchStore ((({ st [(TIM_STAT.PLL_LOCK, 1)] with rst := { State.reset.rst with inst := false, por := false } }).advanceTo (0x123456789 : Dword)).cbseLatches) (({ st [(TIM_STAT.PLL_LOCK, 1)] with rst := { State.reset.rst with inst := false, por := false } }).advanceTo (0x123456789 : Dword)), ((latchStore ((({ st [(TIM_STAT.PLL_LOCK, 1)] with rst := { State.reset.rst with inst := false, por := false } }).advanceTo (0x123456789 : Dword)).cbseLatches) (({ st [(TIM_STAT.PLL_LOCK, 1)] with rst := { State.reset.rst with inst := false, por := false } }).advanceTo (0x123456789 : Dword))).each (latchOrder ((({ st [(TIM_STAT.PLL_LOCK, 1)] with rst := { State.reset.rst with inst := false, por := false } }).advanceTo (0x123456789 : Dword)).cbseLatches)) fun z b => recordLatch b (if b = 3 ∧ (({ st [(TIM_STAT.PLL_LOCK, 1)] with rst := { State.reset.rst with inst := false, por := false } }).advanceTo (0x123456789 : Dword)).tim.unlockDue then (({ st [(TIM_STAT.PLL_LOCK, 1)] with rst := { State.reset.rst with inst := false, por := false } }).advanceTo (0x123456789 : Dword)).tim.unlockTs.toNat else (({ st [(TIM_STAT.PLL_LOCK, 1)] with rst := { State.reset.rst with inst := false, por := false } }).advanceTo (0x123456789 : Dword)).now) z), (if (((({ st [(TIM_STAT.PLL_LOCK, 1)] with rst := { State.reset.rst with inst := false, por := false } }).advanceTo (0x123456789 : Dword)).cbseLatches).any fun e => cbseClass e.1 == 1) && ((latchStore ((({ st [(TIM_STAT.PLL_LOCK, 1)] with rst := { State.reset.rst with inst := false, por := false } }).advanceTo (0x123456789 : Dword)).cbseLatches) (({ st [(TIM_STAT.PLL_LOCK, 1)] with rst := { State.reset.rst with inst := false, por := false } }).advanceTo (0x123456789 : Dword))).each (latchOrder ((({ st [(TIM_STAT.PLL_LOCK, 1)] with rst := { State.reset.rst with inst := false, por := false } }).advanceTo (0x123456789 : Dword)).cbseLatches)) fun z b => recordLatch b (if b = 3 ∧ (({ st [(TIM_STAT.PLL_LOCK, 1)] with rst := { State.reset.rst with inst := false, por := false } }).advanceTo (0x123456789 : Dword)).tim.unlockDue then (({ st [(TIM_STAT.PLL_LOCK, 1)] with rst := { State.reset.rst with inst := false, por := false } }).advanceTo (0x123456789 : Dword)).tim.unlockTs.toNat else (({ st [(TIM_STAT.PLL_LOCK, 1)] with rst := { State.reset.rst with inst := false, por := false } }).advanceTo (0x123456789 : Dword)).now) z).bit CBSE_CTRL.CE_IE then ((latchStore ((({ st [(TIM_STAT.PLL_LOCK, 1)] with rst := { State.reset.rst with inst := false, por := false } }).advanceTo (0x123456789 : Dword)).cbseLatches) (({ st [(TIM_STAT.PLL_LOCK, 1)] with rst := { State.reset.rst with inst := false, por := false } }).advanceTo (0x123456789 : Dword))).each (latchOrder ((({ st [(TIM_STAT.PLL_LOCK, 1)] with rst := { State.reset.rst with inst := false, por := false } }).advanceTo (0x123456789 : Dword)).cbseLatches)) fun z b => recordLatch b (if b = 3 ∧ (({ st [(TIM_STAT.PLL_LOCK, 1)] with rst := { State.reset.rst with inst := false, por := false } }).advanceTo (0x123456789 : Dword)).tim.unlockDue then (({ st [(TIM_STAT.PLL_LOCK, 1)] with rst := { State.reset.rst with inst := false, por := false } }).advanceTo (0x123456789 : Dword)).tim.unlockTs.toNat else (({ st [(TIM_STAT.PLL_LOCK, 1)] with rst := { State.reset.rst with inst := false, por := false } }).advanceTo (0x123456789 : Dword)).now) z).ring kCBSE 2 else ((latchStore ((({ st [(TIM_STAT.PLL_LOCK, 1)] with rst := { State.reset.rst with inst := false, por := false } }).advanceTo (0x123456789 : Dword)).cbseLatches) (({ st [(TIM_STAT.PLL_LOCK, 1)] with rst := { State.reset.rst with inst := false, por := false } }).advanceTo (0x123456789 : Dword))).each (latchOrder ((({ st [(TIM_STAT.PLL_LOCK, 1)] with rst := { State.reset.rst with inst := false, por := false } }).advanceTo (0x123456789 : Dword)).cbseLatches)) fun z b => recordLatch b (if b = 3 ∧ (({ st [(TIM_STAT.PLL_LOCK, 1)] with rst := { State.reset.rst with inst := false, por := false } }).advanceTo (0x123456789 : Dword)).tim.unlockDue then (({ st [(TIM_STAT.PLL_LOCK, 1)] with rst := { State.reset.rst with inst := false, por := false } }).advanceTo (0x123456789 : Dword)).tim.unlockTs.toNat else (({ st [(TIM_STAT.PLL_LOCK, 1)] with rst := { State.reset.rst with inst := false, por := false } }).advanceTo (0x123456789 : Dword)).now) z)), ({ st [(TIM_STAT.PLL_LOCK, 1)] with rst := { State.reset.rst with inst := false, por := false } }).advanceTo (0x123456789 : Dword), { st [(TIM_STAT.PLL_LOCK, 1)] with rst := { State.reset.rst with inst := false, por := false } }, ?_, ?_, ?_, ?_, ?_, ?_, ?_⟩
    · first | decide +kernel | rfl
    · first | rfl | decide +kernel
    · first | rfl | decide +kernel
    · first | rfl | decide +kernel
    · first | rfl | decide +kernel
    · first | rfl | decide +kernel
    · first | decide +kernel | rfl
  · refine ⟨[], latchStore ([]) State.reset, State.reset, ?_, ?_⟩
    · decide +kernel
    · first | rfl | decide +kernel
  · refine ⟨[], latchStore ([]) State.reset, State.reset, 1, ?_, ?_, ?_, ?_⟩
    · decide +kernel
    · first | rfl | decide +kernel
    · decide +kernel
    · decide +kernel
  · refine ⟨.sec, true, 1, (({ State.reset with rst := { State.reset.rst with inst := false, por := false } }).freshBits CBSE_STATUS_LO).toNat + 2 ^ 32 * (({ State.reset with rst := { State.reset.rst with inst := false, por := false } }).freshBits CBSE_STATUS_HI).toNat, ((if true then (1 : Word).toNat * 2 ^ 32 else (1 : Word).toNat) &&& ({ State.reset with rst := { State.reset.rst with inst := false, por := false } }).cbseStatus) - (((if true then (1 : Word).toNat * 2 ^ 32 else (1 : Word).toNat) &&& ({ State.reset with rst := { State.reset.rst with inst := false, por := false } }).cbseStatus) &&& ((({ State.reset with rst := { State.reset.rst with inst := false, por := false } }).freshBits CBSE_STATUS_LO).toNat + 2 ^ 32 * (({ State.reset with rst := { State.reset.rst with inst := false, por := false } }).freshBits CBSE_STATUS_HI).toNat)), statusDrop (((if true then (1 : Word).toNat * 2 ^ 32 else (1 : Word).toNat) &&& ({ State.reset with rst := { State.reset.rst with inst := false, por := false } }).cbseStatus) - (((if true then (1 : Word).toNat * 2 ^ 32 else (1 : Word).toNat) &&& ({ State.reset with rst := { State.reset.rst with inst := false, por := false } }).cbseStatus) &&& ((({ State.reset with rst := { State.reset.rst with inst := false, por := false } }).freshBits CBSE_STATUS_LO).toNat + 2 ^ 32 * (({ State.reset with rst := { State.reset.rst with inst := false, por := false } }).freshBits CBSE_STATUS_HI).toNat))) ((((if true then (1 : Word).toNat * 2 ^ 32 else (1 : Word).toNat) &&& ({ State.reset with rst := { State.reset.rst with inst := false, por := false } }).cbseStatus) - (((if true then (1 : Word).toNat * 2 ^ 32 else (1 : Word).toNat) &&& ({ State.reset with rst := { State.reset.rst with inst := false, por := false } }).cbseStatus) &&& ((({ State.reset with rst := { State.reset.rst with inst := false, por := false } }).freshBits CBSE_STATUS_LO).toNat + 2 ^ 32 * (({ State.reset with rst := { State.reset.rst with inst := false, por := false } }).freshBits CBSE_STATUS_HI).toNat))) &&& ({ State.reset with rst := { State.reset.rst with inst := false, por := false } }).clearPins) ({ State.reset with rst := { State.reset.rst with inst := false, por := false } }), { State.reset with rst := { State.reset.rst with inst := false, por := false } }, ?_, ?_, ?_, ?_⟩
    · exact permits_of (by decide +kernel)
    · first | rfl | decide +kernel
    · first | rfl | decide +kernel
    · first | rfl | decide +kernel
  · refine ⟨1, 1, statusDrop 1 1 State.reset, State.reset, ?_⟩
    · first | rfl | decide +kernel
  · refine ⟨1, 0, statusDrop 1 0 State.reset, State.reset, ?_, ?_⟩
    · first | rfl | decide +kernel
    · first | rfl | decide +kernel
  · refine ⟨1, 1, statusDrop 1 1 State.reset, State.reset, ?_, ?_⟩
    · first | rfl | decide +kernel
    · decide +kernel
  · refine ⟨.sec, true, 1, { State.reset with rst := { State.reset.rst with inst := false, por := false } }, ?_⟩
    · exact permits_of (by decide +kernel)
  · refine ⟨0x123456789, 17, 1, { State.reset with rst := { State.reset.rst with inst := false, por := false } }, ?_⟩
    · first | decide +kernel | rfl
  · refine ⟨0x123456789, 17, 1, (1 : BitVec 20).toNat % memSize (17 : MemIx), true, { State.reset with rst := { State.reset.rst with inst := false, por := false } }, ?_, ?_⟩
    · first | rfl | decide +kernel
    · first | decide +kernel | rfl
  · refine ⟨0x123456789, 17, 2, mapGet 0 (scrubTo (17 : MemIx) (({ st [(CBSE_SCRUB.EN, 1), (TIM_STAT.PLL_LOCK, 1)] with rst := { State.reset.rst with inst := false, por := false } }).advanceTo (0x123456789 : Dword))).cbse.scrub (17 : MemIx), (if memSize (17 : MemIx) ≤ (mapGet 0 (scrubTo (17 : MemIx) (({ st [(CBSE_SCRUB.EN, 1), (TIM_STAT.PLL_LOCK, 1)] with rst := { State.reset.rst with inst := false, por := false } }).advanceTo (0x123456789 : Dword))).cbse.scrub (17 : MemIx)) + 8 then 0 else (mapGet 0 (scrubTo (17 : MemIx) (({ st [(CBSE_SCRUB.EN, 1), (TIM_STAT.PLL_LOCK, 1)] with rst := { State.reset.rst with inst := false, por := false } }).advanceTo (0x123456789 : Dword))).cbse.scrub (17 : MemIx)) + 8), (scrubTo (17 : MemIx) (({ st [(CBSE_SCRUB.EN, 1), (TIM_STAT.PLL_LOCK, 1)] with rst := { State.reset.rst with inst := false, por := false } }).advanceTo (0x123456789 : Dword))).get CBSE_SCRUB.INT, mapGet 0 (scrubTo (17 : MemIx) (({ st [(CBSE_SCRUB.EN, 1), (TIM_STAT.PLL_LOCK, 1)] with rst := { State.reset.rst with inst := false, por := false } }).advanceTo (0x123456789 : Dword))).cbse.scrubAt (17 : MemIx), (if (scrubTo (17 : MemIx) (({ st [(CBSE_SCRUB.EN, 1), (TIM_STAT.PLL_LOCK, 1)] with rst := { State.reset.rst with inst := false, por := false } }).advanceTo (0x123456789 : Dword))).tim.edges ≤ (mapGet 0 (scrubTo (17 : MemIx) (({ st [(CBSE_SCRUB.EN, 1), (TIM_STAT.PLL_LOCK, 1)] with rst := { State.reset.rst with inst := false, por := false } }).advanceTo (0x123456789 : Dword))).cbse.scrubAt (17 : MemIx)) + ((scrubTo (17 : MemIx) (({ st [(CBSE_SCRUB.EN, 1), (TIM_STAT.PLL_LOCK, 1)] with rst := { State.reset.rst with inst := false, por := false } }).advanceTo (0x123456789 : Dword))).get CBSE_SCRUB.INT) then (mapGet 0 (scrubTo (17 : MemIx) (({ st [(CBSE_SCRUB.EN, 1), (TIM_STAT.PLL_LOCK, 1)] with rst := { State.reset.rst with inst := false, por := false } }).advanceTo (0x123456789 : Dword))).cbse.scrubAt (17 : MemIx)) else (scrubTo (17 : MemIx) (({ st [(CBSE_SCRUB.EN, 1), (TIM_STAT.PLL_LOCK, 1)] with rst := { State.reset.rst with inst := false, por := false } }).advanceTo (0x123456789 : Dword))).tim.edges) + ((scrubTo (17 : MemIx) (({ st [(CBSE_SCRUB.EN, 1), (TIM_STAT.PLL_LOCK, 1)] with rst := { State.reset.rst with inst := false, por := false } }).advanceTo (0x123456789 : Dword))).get CBSE_SCRUB.INT), { (scrubTo (17 : MemIx) (({ st [(CBSE_SCRUB.EN, 1), (TIM_STAT.PLL_LOCK, 1)] with rst := { State.reset.rst with inst := false, por := false } }).advanceTo (0x123456789 : Dword))) with cbse := { (scrubTo (17 : MemIx) (({ st [(CBSE_SCRUB.EN, 1), (TIM_STAT.PLL_LOCK, 1)] with rst := { State.reset.rst with inst := false, por := false } }).advanceTo (0x123456789 : Dword))).cbse with scrub := mapSet 0 (scrubTo (17 : MemIx) (({ st [(CBSE_SCRUB.EN, 1), (TIM_STAT.PLL_LOCK, 1)] with rst := { State.reset.rst with inst := false, por := false } }).advanceTo (0x123456789 : Dword))).cbse.scrub (17 : MemIx) (if memSize (17 : MemIx) ≤ (mapGet 0 (scrubTo (17 : MemIx) (({ st [(CBSE_SCRUB.EN, 1), (TIM_STAT.PLL_LOCK, 1)] with rst := { State.reset.rst with inst := false, por := false } }).advanceTo (0x123456789 : Dword))).cbse.scrub (17 : MemIx)) + 8 then 0 else (mapGet 0 (scrubTo (17 : MemIx) (({ st [(CBSE_SCRUB.EN, 1), (TIM_STAT.PLL_LOCK, 1)] with rst := { State.reset.rst with inst := false, por := false } }).advanceTo (0x123456789 : Dword))).cbse.scrub (17 : MemIx)) + 8), scrubAt := mapSet 0 (scrubTo (17 : MemIx) (({ st [(CBSE_SCRUB.EN, 1), (TIM_STAT.PLL_LOCK, 1)] with rst := { State.reset.rst with inst := false, por := false } }).advanceTo (0x123456789 : Dword))).cbse.scrubAt (17 : MemIx) ((if (scrubTo (17 : MemIx) (({ st [(CBSE_SCRUB.EN, 1), (TIM_STAT.PLL_LOCK, 1)] with rst := { State.reset.rst with inst := false, por := false } }).advanceTo (0x123456789 : Dword))).tim.edges ≤ (mapGet 0 (scrubTo (17 : MemIx) (({ st [(CBSE_SCRUB.EN, 1), (TIM_STAT.PLL_LOCK, 1)] with rst := { State.reset.rst with inst := false, por := false } }).advanceTo (0x123456789 : Dword))).cbse.scrubAt (17 : MemIx)) + ((scrubTo (17 : MemIx) (({ st [(CBSE_SCRUB.EN, 1), (TIM_STAT.PLL_LOCK, 1)] with rst := { State.reset.rst with inst := false, por := false } }).advanceTo (0x123456789 : Dword))).get CBSE_SCRUB.INT) then (mapGet 0 (scrubTo (17 : MemIx) (({ st [(CBSE_SCRUB.EN, 1), (TIM_STAT.PLL_LOCK, 1)] with rst := { State.reset.rst with inst := false, por := false } }).advanceTo (0x123456789 : Dword))).cbse.scrubAt (17 : MemIx)) else (scrubTo (17 : MemIx) (({ st [(CBSE_SCRUB.EN, 1), (TIM_STAT.PLL_LOCK, 1)] with rst := { State.reset.rst with inst := false, por := false } }).advanceTo (0x123456789 : Dword))).tim.edges) + ((scrubTo (17 : MemIx) (({ st [(CBSE_SCRUB.EN, 1), (TIM_STAT.PLL_LOCK, 1)] with rst := { State.reset.rst with inst := false, por := false } }).advanceTo (0x123456789 : Dword))).get CBSE_SCRUB.INT)) } }, scrubTo (17 : MemIx) (({ st [(CBSE_SCRUB.EN, 1), (TIM_STAT.PLL_LOCK, 1)] with rst := { State.reset.rst with inst := false, por := false } }).advanceTo (0x123456789 : Dword)), { st [(CBSE_SCRUB.EN, 1), (TIM_STAT.PLL_LOCK, 1)] with rst := { State.reset.rst with inst := false, por := false } }, ?_, ?_, ?_, ?_, ?_, ?_, ?_, ?_, ?_, ?_⟩
    · first | rfl | decide +kernel
    · first | decide +kernel | rfl
    · first | decide +kernel | rfl
    · first | rfl | decide +kernel
    · first | rfl | decide +kernel
    · first | rfl | decide +kernel
    · first | rfl | decide +kernel
    · first | rfl | decide +kernel
    · first | rfl | decide +kernel
    · first | decide +kernel | rfl
  · refine ⟨0x123456789, 17, 2, scrubTo (17 : MemIx) (({ st [(CBSE_SCRUB.EN, 0)] with rst := { State.reset.rst with inst := false, por := false } }).advanceTo (0x123456789 : Dword)), { st [(CBSE_SCRUB.EN, 0)] with rst := { State.reset.rst with inst := false, por := false } }, ?_, ?_, ?_⟩
    · first | rfl | decide +kernel
    · decide +kernel
    · first | decide +kernel | rfl
  · refine ⟨17, st [(CBSE_SCRUB.EN, 0)], ?_⟩
    · decide +kernel
  · refine ⟨17, { st [(CBSE_SCRUB.EN, 1), (TIM_STAT.PLL_LOCK, 1)] with cbse := { State.reset.cbse with scrubAt := [(17, 100)] } }, ?_, ?_, ?_⟩
    · first | decide +kernel | rfl
    · first | decide +kernel | rfl
    · decide +kernel

/-- States and operands that meet the hypotheses of TelemetryCommandsComplete. -/
theorem witness_TelemetryCommandsComplete :
    (∃ (req : Requester) (v : Word) (u : State) (s : State), s.Permits req TLM_FRZ_CTRL (v ||| 1) ∧ u =
      frzCtrlWrite ((v ||| 1) &&& 0xFFFFFFFE) s) ∧
    (∃ (timed : Bool) (u : State) (s : State), u = seaCatch (rippleCatch (countEdges s))) ∧
    (∃ (timed : Bool) (u : State) (s : State), u = seaCatch (rippleCatch (countEdges s)) ∧ timed = true) ∧
    (∃ (req : Requester) (v : Word) (s : State), s.Permits req TLM_FRZ_CTRL (v ||| 2) ∧ v.getLsbD 0 = false ∧
      v.getLsbD 2 = false) ∧
    (∃ (req : Requester) (v : Word) (s : State), s.Permits req TLM_FRZ_CTRL (v ||| 4) ∧ v.getLsbD 0 = false) ∧
    (∃ (s : State), s.tlm.armed = none) ∧
    (∃ (s : State) (ts : ℕ), s.tlm.armed = some ts) ∧
    (∃ (s : State), s.tlm.run = none) ∧
    (∃ (s : State) (r : FreezeRun), s.tlm.run = some r ∧ s.locked = true ∧ s.tim.edges < r.edge + 5280) ∧
    (∃ (s : State) (r : FreezeRun), s.tlm.run = some r ∧ (s.locked = false ∨ r.edge + 5280 ≤ s.tim.edges)) ∧
    (∃ (e : Dword) (z : State) (s : State), z = armedTo (s.advanceTo e) ∧ s.rst.inst = false) ∧
    (∃ (e : Dword) (z : State) (s : State), z = unloadTo (s.advanceTo e) ∧ (z.tlm.run = none ∨ ∃ r, z.tlm.run =
      some r ∧ z.tim.edges < r.edge + 5280) ∧ s.rst.inst = false) ∧
    (∃ (e : Dword) (r : FreezeRun) (s : State) (w : State), s = unloadTo (w.advanceTo e) ∧ s.tlm.run = some r ∧
      r.edge + 5280 ≤ s.tim.edges ∧ w.rst.inst = false) ∧
    (∃ (e : Dword) (fail : Option (Fin 80 × Fin 1024)) (s : State), s.tlm.exporting = false ∧ s.rst.inst =
      false) ∧
    (∃ (e : Dword) (fail : Option (Fin 80 × Fin 1024)) (s : State), s.tlm.exporting = true ∧ s.rst.inst = false) ∧
    (∃ (req : Requester) (v : Word) (u : State) (s : State), s.Permits req TLM_TRX_CTRL (v ||| 1) ∧ u = (s.put
      TLM_TRX_CTRL.CHMASK (fldGet (v ||| 1) 15 8)).put TLM_TRX_CTRL.AUTO (fldGet (v ||| 1) 1 1)) ∧
    (∃ (e : Dword) (fail : Option (BitVec 19)) (s : State), s.get TLM_TRX_CTRL.BUSY = 0 ∧ s.rst.inst = false) ∧
    (∃ (e : Dword) (s : State), s.get TLM_TRX_CTRL.BUSY = 1 ∧ s.tlm.armDue = false ∧ s.rst.inst = false) ∧
    (∃ (e : Dword) (ties : List (Fin 4)) (z : State) (u : State) (n : ℕ) (s : State), z = ageTo (s.advanceTo e)
      ∧ u = seaCatch z ∧ n = (u.cks - u.tlm.ageAt) / 65536 ∧ s.rst.inst = false) ∧
    (∃ (c : CellIx) (a : AgeAcc) (tie : ℕ) (s : State), a.n < 4096 ∧ a.k = 0) ∧
    (∃ (c : CellIx) (a : AgeAcc) (tie : ℕ) (v : ℤ) (s : State), 4096 ≤ a.n ∧ a.n ≤ 65536 ∧ a.k = 0 ∧ a.bare =
      false ∧ a.den ≠ 0 ∧ v = (1024 * a.num / a.den).floor ∧ 0 ≤ v ∧ v < 65536) ∧
    (∃ (c : CellIx) (a : AgeAcc) (tie : ℕ) (top : ℕ) (js : List ℕ) (j : ℕ) (m : ℤ) (w : State) (s : State), a.n
      < 4096 ∧ a.k ≠ 0 ∧ top = (a.d.map Int.natAbs).foldl max 0 ∧ (js = (List.range 4).filter (fun j =>
      (a.d.getD j 0).natAbs == top)) ∧ j = js.getD (tie % js.length) 0 ∧ (m, w) = (s.put (AGE_CELL0.NSAMP c)
      (a.n / 16)).roundOpen (64 * a.d.getD j 0) a.k) ∧
    (∃ (req : Requester) (rg : Bool) (ix : CellIx) (v : Word) (a : ℕ) (u : State) (s : State), (rg = true → 1 ≤
      ix.val ∧ ix.val < 256) ∧ a = (if rg then AGE_RGN3 ix else AGE_CELL3 ix) ∧ s.Permits req a v ∧ u = storeReg
      a v s) := by
  refine ⟨?_, ?_, ?_, ?_, ?_, ?_, ?_, ?_, ?_, ?_, ?_, ?_, ?_, ?_, ?_, ?_, ?_, ?_, ?_, ?_, ?_, ?_, ?_⟩
  · refine ⟨.sec, 1, frzCtrlWrite (((1 : Word) ||| 1) &&& 0xFFFFFFFE) ({ State.reset with rst := { State.reset.rst with inst := false, por := false } }), { State.reset with rst := { State.reset.rst with inst := false, por := false } }, ?_, ?_⟩
    · exact permits_of (by decide +kernel)
    · first | rfl | decide +kernel
  · refine ⟨true, seaCatch (rippleCatch (countEdges State.reset)), State.reset, ?_⟩
    · first | rfl | decide +kernel
  · refine ⟨true, seaCatch (rippleCatch (countEdges State.reset)), State.reset, ?_, ?_⟩
    · first | rfl | decide +kernel
    · first | rfl | decide +kernel
  · refine ⟨.sec, 2, { State.reset with rst := { State.reset.rst with inst := false, por := false } }, ?_, ?_, ?_⟩
    · exact permits_of (by decide +kernel)
    · first | decide +kernel | rfl
    · first | decide +kernel | rfl
  · refine ⟨.sec, 2, { State.reset with rst := { State.reset.rst with inst := false, por := false } }, ?_, ?_⟩
    · exact permits_of (by decide +kernel)
    · first | decide +kernel | rfl
  · refine ⟨State.reset, ?_⟩
    · first | decide +kernel | rfl
  · refine ⟨{ State.reset with tlm := { State.reset.tlm with armed := some 1 } }, 1, ?_⟩
    · first | decide +kernel | rfl
  · refine ⟨State.reset, ?_⟩
    · first | decide +kernel | rfl
  · refine ⟨{ st [(TIM_STAT.PLL_LOCK, 1)] with tlm := { State.reset.tlm with run := some ⟨0, [], false⟩ } }, ⟨0, [], false⟩, ?_, ?_, ?_⟩
    · first | decide +kernel | rfl
    · first | decide +kernel | rfl
    · decide +kernel
  · refine ⟨{ st [(TIM_STAT.PLL_LOCK, 0)] with tlm := { State.reset.tlm with run := some ⟨0, [], false⟩ } }, ⟨0, [], false⟩, ?_, ?_⟩
    · first | decide +kernel | rfl
    · decide +kernel
  · refine ⟨0x123456789, armedTo (({ State.reset with rst := { State.reset.rst with inst := false, por := false } }).advanceTo (0x123456789 : Dword)), { State.reset with rst := { State.reset.rst with inst := false, por := false } }, ?_, ?_⟩
    · first | rfl | decide +kernel
    · first | decide +kernel | rfl
  · refine ⟨0x123456789, unloadTo (({ State.reset with tlm := { State.reset.tlm with run := some ⟨0, [], false⟩ }, rst := { State.reset.rst with inst := false, por := false } }).advanceTo (0x123456789 : Dword)), { State.reset with tlm := { State.reset.tlm with run := some ⟨0, [], false⟩ }, rst := { State.reset.rst with inst := false, por := false } }, ?_, ?_, ?_⟩
    · first | rfl | decide +kernel
    · decide +kernel
    · first | decide +kernel | rfl
  · refine ⟨0x123456789, ⟨0, [], false⟩, unloadTo (({ st [(TIM_STAT.PLL_LOCK, 1)] with tlm := { State.reset.tlm with run := some ⟨0, [], false⟩ }, rst := { State.reset.rst with inst := false, por := false } }).advanceTo (0x123456789 : Dword)), { st [(TIM_STAT.PLL_LOCK, 1)] with tlm := { State.reset.tlm with run := some ⟨0, [], false⟩ }, rst := { State.reset.rst with inst := false, por := false } }, ?_, ?_, ?_, ?_⟩
    · first | rfl | decide +kernel
    · first | decide +kernel | rfl
    · decide +kernel
    · first | decide +kernel | rfl
  · refine ⟨0x123456789, none, { State.reset with tlm := { State.reset.tlm with exporting := false }, rst := { State.reset.rst with inst := false, por := false } }, ?_, ?_⟩
    · first | decide +kernel | rfl
    · first | decide +kernel | rfl
  · refine ⟨0x123456789, none, { State.reset with tlm := { State.reset.tlm with exporting := true }, rst := { State.reset.rst with inst := false, por := false } }, ?_, ?_⟩
    · first | decide +kernel | rfl
    · first | decide +kernel | rfl
  · refine ⟨.sec, 1, (({ State.reset with rst := { State.reset.rst with inst := false, por := false } }).put TLM_TRX_CTRL.CHMASK (fldGet ((1 : Word) ||| 1) 15 8)).put TLM_TRX_CTRL.AUTO (fldGet ((1 : Word) ||| 1) 1 1), { State.reset with rst := { State.reset.rst with inst := false, por := false } }, ?_, ?_⟩
    · exact permits_of (by decide +kernel)
    · first | rfl | decide +kernel
  · refine ⟨0x123456789, none, { st [(TLM_TRX_CTRL.BUSY, 0)] with rst := { State.reset.rst with inst := false, por := false } }, ?_, ?_⟩
    · first | decide +kernel | rfl
    · first | decide +kernel | rfl
  · refine ⟨0x123456789, { st [(TLM_TRX_CTRL.BUSY, 1), (CELL_STAT.STATE 3071, 2)] with tlm := { State.reset.tlm with armDue := false }, rst := { State.reset.rst with inst := false, por := false } }, ?_, ?_, ?_⟩
    · first | decide +kernel | rfl
    · first | decide +kernel | rfl
    · first | decide +kernel | rfl
  · refine ⟨0x123456789, [], ageTo (({ State.reset with rst := { State.reset.rst with inst := false, por := false } }).advanceTo (0x123456789 : Dword)), seaCatch (ageTo (({ State.reset with rst := { State.reset.rst with inst := false, por := false } }).advanceTo (0x123456789 : Dword))), ((seaCatch (ageTo (({ State.reset with rst := { State.reset.rst with inst := false, por := false } }).advanceTo (0x123456789 : Dword)))).cks - (seaCatch (ageTo (({ State.reset with rst := { State.reset.rst with inst := false, por := false } }).advanceTo (0x123456789 : Dword)))).tlm.ageAt) / 65536, { State.reset with rst := { State.reset.rst with inst := false, por := false } }, ?_, ?_, ?_, ?_⟩
    · first | rfl | decide +kernel
    · first | rfl | decide +kernel
    · first | rfl | decide +kernel
    · first | decide +kernel | rfl
  · refine ⟨3071, { n := 1 }, 1, State.reset, ?_, ?_⟩
    · decide +kernel
    · first | decide +kernel | rfl
  · refine ⟨3071, { n := 4096, num := 1, den := 1 }, 1, 1024, State.reset, ?_, ?_, ?_, ?_, ?_, ?_, ?_, ?_⟩
    · decide +kernel
    · decide +kernel
    · first | decide +kernel | rfl
    · first | decide +kernel | rfl
    · decide +kernel
    · first | rfl | decide +kernel
    · decide +kernel
    · decide +kernel
  · refine ⟨3071, { n := 1, k := 1 }, 1, 0, [0, 1, 2, 3], 1, 0, ((State.reset.put (AGE_CELL0.NSAMP 3071) (1 / 16)).roundOpen (64 * 0) 1).2, State.reset, ?_, ?_, ?_, ?_, ?_, ?_⟩
    · decide +kernel
    · decide +kernel
    · first | rfl | decide +kernel
    · first | rfl | decide +kernel
    · first | rfl | decide +kernel
    · first | decide +kernel | rfl
  · refine ⟨.sec, true, 255, 1, (if true then AGE_RGN3 (255 : CellIx) else AGE_CELL3 (255 : CellIx)), storeReg (if true then AGE_RGN3 (255 : CellIx) else AGE_CELL3 (255 : CellIx)) (1 : Word) ({ State.reset with rst := { State.reset.rst with inst := false, por := false } }), { State.reset with rst := { State.reset.rst with inst := false, por := false } }, ?_, ?_, ?_, ?_⟩
    · first | rfl | decide +kernel
    · first | rfl | decide +kernel
    · exact permits_of (by decide +kernel)
    · first | rfl | decide +kernel

/-- States and operands that meet the hypotheses of CouplerTimeAndTrainingCommandsComplete. -/
theorem witness_CouplerTimeAndTrainingCommandsComplete :
    (∃ (e : Dword) (z : State) (s : State), z = s.advanceTo e ∧ s.rst.inst = false) ∧
    (∃ (e : ℕ) (s : State), (s.cep e).hb = true) ∧
    (∃ (e : ℕ) (s : State), (s.cep e).hb = false ∧ e < 20 ∧ (s.get (CPLR_EP_STAT.PRESENT e) = 0 ∨ min (s.get
      (CPLR_EP_STAT.MISS e) + 1) 15 < s.get CPLR_CTRL.HB_MISS)) ∧
    (∃ (e : ℕ) (s : State) (u : State), (s.cep e).hb = false ∧ e < 20 ∧ s.get (CPLR_EP_STAT.PRESENT e) = 1 ∧
      s.get CPLR_CTRL.HB_MISS ≤ min (s.get (CPLR_EP_STAT.MISS e) + 1) 15 ∧ u = (s.setCep e
      { s.cep e with run := 0 }).put (CPLR_EP_STAT.MISS e) (min (s.get (CPLR_EP_STAT.MISS e) + 1) 15)) ∧
    (∃ (e : Dword) (k : ℕ) (s : State) (u : State), u = s.advanceTo e ∧ s.inst ≠ 0 ∧ s.get CPLR_CTRL.EN = 1 ∧ k
      = (u.now + 400000) / 800000 ∧ s.rst.inst = false) ∧
    (∃ (th : ℤ) (s : State) (u : State), (u = ((s.put CPLR_OFS.VALID 1).putI CPLR_OFS.THETA (satS 16 th)).putB
      TIM_STAT.TS_ALIGNED (decide (-80 ≤ th ∧ th ≤ 80))) ∧ -1 ≤ th ∧ th ≤ 1 ∧ s.get TIM_STAT.CKA_SRC = 2) ∧
    (∃ (th : ℤ) (s : State) (u : State), (u = ((s.put CPLR_OFS.VALID 1).putI CPLR_OFS.THETA (satS 16 th)).putB
      TIM_STAT.TS_ALIGNED (decide (-80 ≤ th ∧ th ≤ 80))) ∧ -1 ≤ th ∧ th ≤ 1 ∧ s.get TIM_STAT.CKA_SRC ≠ 2) ∧
    (∃ (th : ℤ) (s : State) (u : State), u = ((s.put CPLR_OFS.VALID 1).putI CPLR_OFS.THETA (satS 16 th)).put
      TIM_STAT.TS_ALIGNED 0 ∧ th ≤ -800) ∧
    (∃ (th : ℤ) (s : State) (u : State), u = ((s.put CPLR_OFS.VALID 1).putI CPLR_OFS.THETA (satS 16 th)).put
      TIM_STAT.TS_ALIGNED 0 ∧ -800 < th ∧ th < -80) ∧
    (∃ (th : ℤ) (s : State) (u : State), u = ((s.put CPLR_OFS.VALID 1).putI CPLR_OFS.THETA (satS 16 th)).put
      TIM_STAT.TS_ALIGNED 0 ∧ 80 < th ∧ th ≤ 32768) ∧
    (∃ (e : Dword) (x : Fin 17) (s : State) (u : State), u = (s.advanceTo e).setCep x
      { s.cep x with up := true }) ∧
    (∃ (e : Dword) (x : Fin 17) (s : State) (u : State), u = (s.advanceTo e).setCep x
      { s.cep x with up := false }) ∧
    (∃ (e : Dword) (k : Fin 3) (up : Bool) (s : State) (u : State), u = (s.advanceTo e).setCep (17 + k)
      { s.cep (17 + k) with up := up }) ∧
    (∃ (x : ℕ) (s : State), x < 17 ∧ s.epoch ≥ 4 ∧ ((s.cep x).helloIn = none ∨ (s.cep x).helloIn = some (s.epoch
      - 4))) ∧
    (∃ (x : ℕ) (a : ℕ) (b : ℕ) (s : State), s.rst.inst = false ∧ (s.cep x).up = true ∧ (s.cep x).helloIn = some
      a ∧ (s.cep x).helloOut = some b ∧ s.epoch < a + 4 ∧ s.epoch < b + 4) ∧
    (∃ (e : Dword) (x : Fin 20) (s : State), s.get CPLR_CTRL.EN = 1 ∧ s.epRole x ≠ 0 ∧ s.rst.inst = false) ∧
    (∃ (e : Dword) (x : Fin 20) (s : State) (u : State) (v : State), u = (s.advanceTo e).setCep x
      { s.cep x with hb := true, run := if (s.cep x).hb then (s.cep x).run else (s.cep x).run + 1 } ∧ v = u.put
      (CPLR_EP_STAT.MISS x) 0 ∧ s.get CPLR_CTRL.EN = 1 ∧ s.epRole x ≠ 0 ∧ s.rst.inst = false) ∧
    (∃ (x : ℕ) (ws : List Word) (s : State), s.cplrOn = true ∧ s.trained x = true) ∧
    (∃ (x : ℕ) (ws : List Word) (s : State), (s.cplrOn = false ∨ s.trained x = false)) ∧
    (∃ (e : Dword) (x : Fin 20) (t1 : Dword) (turn : ℕ) (s : State) (u : State), u = s.advanceTo e ∧ s.get
      CPLR_CTRL.EN = 1 ∧ s.epRole x = 1 ∧ s.rst.inst = false) ∧
    (∃ (e : Dword) (x : Fin 20) (s : State) (u : State), u = s.advanceTo e ∧ s.get CPLR_CTRL.EN = 1 ∧ s.epRole x
      = 2 ∧ s.rst.inst = false) ∧
    (∃ (e : Dword) (x : Fin 20) (t4 : Dword) (t1 : ℕ) (t2 : ℕ) (t3 : ℕ) (s : State) (u : State), u = s.advanceTo
      e ∧ s.get CPLR_CTRL.EN = 1 ∧ s.epRole x = 1 ∧ s.cplr.sync = some (t1, t2, t3) ∧ s.rst.inst = false) ∧
    (∃ (e : Dword) (x : Fin 20) (s : State) (u : State), u = s.advanceTo e ∧ s.get CPLR_CTRL.EN = 1 ∧ s.epRole x
      ≠ 0 ∧ s.rst.inst = false) := by
  refine ⟨?_, ?_, ?_, ?_, ?_, ?_, ?_, ?_, ?_, ?_, ?_, ?_, ?_, ?_, ?_, ?_, ?_, ?_, ?_, ?_, ?_, ?_, ?_⟩
  · refine ⟨0x123456789, ({ State.reset with rst := { State.reset.rst with inst := false, por := false } }).advanceTo (0x123456789 : Dword), { State.reset with rst := { State.reset.rst with inst := false, por := false } }, ?_, ?_⟩
    · first | rfl | decide +kernel
    · first | decide +kernel | rfl
  · refine ⟨19, { State.reset with cplrEp := [(19, { hb := true })] }, ?_⟩
    · first | decide +kernel | rfl
  · refine ⟨19, st [(CPLR_EP_STAT.PRESENT 19, 0)], ?_, ?_, ?_⟩
    · first | decide +kernel | rfl
    · decide +kernel
    · decide +kernel
  · refine ⟨19, st [(CPLR_EP_STAT.PRESENT 19, 1), (CPLR_EP_STAT.MISS 19, 15)], ((st [(CPLR_EP_STAT.PRESENT 19, 1), (CPLR_EP_STAT.MISS 19, 15)]).setCep 19 { (st [(CPLR_EP_STAT.PRESENT 19, 1), (CPLR_EP_STAT.MISS 19, 15)]).cep 19 with run := 0 }).put (CPLR_EP_STAT.MISS 19) (min ((st [(CPLR_EP_STAT.PRESENT 19, 1), (CPLR_EP_STAT.MISS 19, 15)]).get (CPLR_EP_STAT.MISS 19) + 1) 15), ?_, ?_, ?_, ?_, ?_⟩
    · first | decide +kernel | rfl
    · decide +kernel
    · first | decide +kernel | rfl
    · decide +kernel
    · first | rfl | decide +kernel
  · refine ⟨1, 0, { st [(CPLR_CTRL.EN, 1)] with efuse := { State.reset.efuse with inst := 1 }, rst := { State.reset.rst with inst := false, por := false } }, ({ st [(CPLR_CTRL.EN, 1)] with efuse := { State.reset.efuse with inst := 1 }, rst := { State.reset.rst with inst := false, por := false } }).advanceTo (1 : Dword), ?_, ?_, ?_, ?_, ?_⟩
    · first | rfl | decide +kernel
    · decide +kernel
    · first | decide +kernel | rfl
    · first | rfl | decide +kernel
    · first | decide +kernel | rfl
  · refine ⟨1, st [(TIM_STAT.CKA_SRC, 2)], (((st [(TIM_STAT.CKA_SRC, 2)]).put CPLR_OFS.VALID 1).putI CPLR_OFS.THETA (satS 16 (1 : ℤ))).putB TIM_STAT.TS_ALIGNED (decide (-80 ≤ (1 : ℤ) ∧ (1 : ℤ) ≤ 80)), ?_, ?_, ?_, ?_⟩
    · first | rfl | decide +kernel
    · decide +kernel
    · decide +kernel
    · first | decide +kernel | rfl
  · refine ⟨1, st [(TIM_STAT.CKA_SRC, 0)], (((st [(TIM_STAT.CKA_SRC, 0)]).put CPLR_OFS.VALID 1).putI CPLR_OFS.THETA (satS 16 (1 : ℤ))).putB TIM_STAT.TS_ALIGNED (decide (-80 ≤ (1 : ℤ) ∧ (1 : ℤ) ≤ 80)), ?_, ?_, ?_, ?_⟩
    · first | rfl | decide +kernel
    · decide +kernel
    · decide +kernel
    · decide +kernel
  · refine ⟨-800, State.reset, ((State.reset.put CPLR_OFS.VALID 1).putI CPLR_OFS.THETA (satS 16 (-800))).put TIM_STAT.TS_ALIGNED 0, ?_, ?_⟩
    · first | rfl | decide +kernel
    · decide +kernel
  · refine ⟨-81, State.reset, ((State.reset.put CPLR_OFS.VALID 1).putI CPLR_OFS.THETA (satS 16 (-81))).put TIM_STAT.TS_ALIGNED 0, ?_, ?_, ?_⟩
    · first | rfl | decide +kernel
    · decide +kernel
    · decide +kernel
  · refine ⟨81, State.reset, ((State.reset.put CPLR_OFS.VALID 1).putI CPLR_OFS.THETA (satS 16 (81 : ℤ))).put TIM_STAT.TS_ALIGNED 0, ?_, ?_, ?_⟩
    · first | rfl | decide +kernel
    · decide +kernel
    · decide +kernel
  · refine ⟨0x123456789, 16, State.reset, (State.reset.advanceTo (0x123456789 : Dword)).setCep (16 : Fin 17) { State.reset.cep (16 : Fin 17) with up := true }, ?_⟩
    · first | rfl | decide +kernel
  · refine ⟨0x123456789, 16, State.reset, (State.reset.advanceTo (0x123456789 : Dword)).setCep (16 : Fin 17) { State.reset.cep (16 : Fin 17) with up := false }, ?_⟩
    · first | rfl | decide +kernel
  · refine ⟨0x123456789, 2, true, State.reset, (State.reset.advanceTo (0x123456789 : Dword)).setCep (17 + (2 : Fin 3)) { State.reset.cep (17 + (2 : Fin 3)) with up := true }, ?_⟩
    · first | rfl | decide +kernel
  · refine ⟨16, { State.reset with ts := 4000000 }, ?_, ?_, ?_⟩
    · decide +kernel
    · decide +kernel
    · decide +kernel
  · refine ⟨16, 0, 0, { State.reset with cplrEp := [(16, { up := true, helloIn := some 0, helloOut := some 0 })], rst := { State.reset.rst with inst := false, por := false } }, ?_, ?_, ?_, ?_, ?_, ?_⟩
    · first | decide +kernel | rfl
    · first | decide +kernel | rfl
    · first | decide +kernel | rfl
    · first | decide +kernel | rfl
    · decide +kernel
    · decide +kernel
  · refine ⟨0x123456789, 16, { st [(CPLR_CTRL.EN, 1), (CPLR_EP_CFG.ROLE (16 : Fin 20), 1)] with rst := { State.reset.rst with inst := false, por := false } }, ?_, ?_, ?_⟩
    · first | decide +kernel | rfl
    · decide +kernel
    · first | decide +kernel | rfl
  · refine ⟨0x123456789, 16, { st [(CPLR_CTRL.EN, 1), (CPLR_EP_CFG.ROLE (16 : Fin 20), 1)] with rst := { State.reset.rst with inst := false, por := false } }, (({ st [(CPLR_CTRL.EN, 1), (CPLR_EP_CFG.ROLE (16 : Fin 20), 1)] with rst := { State.reset.rst with inst := false, por := false } }).advanceTo (0x123456789 : Dword)).setCep (16 : Fin 20) { ({ st [(CPLR_CTRL.EN, 1), (CPLR_EP_CFG.ROLE (16 : Fin 20), 1)] with rst := { State.reset.rst with inst := false, por := false } }).cep (16 : Fin 20) with hb := true, run := if (({ st [(CPLR_CTRL.EN, 1), (CPLR_EP_CFG.ROLE (16 : Fin 20), 1)] with rst := { State.reset.rst with inst := false, por := false } }).cep (16 : Fin 20)).hb then (({ st [(CPLR_CTRL.EN, 1), (CPLR_EP_CFG.ROLE (16 : Fin 20), 1)] with rst := { State.reset.rst with inst := false, por := false } }).cep (16 : Fin 20)).run else (({ st [(CPLR_CTRL.EN, 1), (CPLR_EP_CFG.ROLE (16 : Fin 20), 1)] with rst := { State.reset.rst with inst := false, por := false } }).cep (16 : Fin 20)).run + 1 }, ((({ st [(CPLR_CTRL.EN, 1), (CPLR_EP_CFG.ROLE (16 : Fin 20), 1)] with rst := { State.reset.rst with inst := false, por := false } }).advanceTo (0x123456789 : Dword)).setCep (16 : Fin 20) { ({ st [(CPLR_CTRL.EN, 1), (CPLR_EP_CFG.ROLE (16 : Fin 20), 1)] with rst := { State.reset.rst with inst := false, por := false } }).cep (16 : Fin 20) with hb := true, run := if (({ st [(CPLR_CTRL.EN, 1), (CPLR_EP_CFG.ROLE (16 : Fin 20), 1)] with rst := { State.reset.rst with inst := false, por := false } }).cep (16 : Fin 20)).hb then (({ st [(CPLR_CTRL.EN, 1), (CPLR_EP_CFG.ROLE (16 : Fin 20), 1)] with rst := { State.reset.rst with inst := false, por := false } }).cep (16 : Fin 20)).run else (({ st [(CPLR_CTRL.EN, 1), (CPLR_EP_CFG.ROLE (16 : Fin 20), 1)] with rst := { State.reset.rst with inst := false, por := false } }).cep (16 : Fin 20)).run + 1 }).put (CPLR_EP_STAT.MISS (16 : Fin 20)) 0, ?_, ?_, ?_, ?_, ?_⟩
    · first | rfl | decide +kernel
    · first | rfl | decide +kernel
    · first | decide +kernel | rfl
    · decide +kernel
    · first | decide +kernel | rfl
  · refine ⟨17, [], { st [(CPLR_CTRL.EN, 1)] with cplrEp := [(17, { up := true })], rst := { State.reset.rst with inst := false, por := false } }, ?_, ?_⟩
    · first | decide +kernel | rfl
    · first | decide +kernel | rfl
  · refine ⟨1, [], State.reset, ?_⟩
    · decide +kernel
  · refine ⟨0x123456789, 16, 0x123456789, 1, { st [(CPLR_CTRL.EN, 1), (CPLR_EP_CFG.ROLE (16 : Fin 20), 1)] with rst := { State.reset.rst with inst := false, por := false } }, ({ st [(CPLR_CTRL.EN, 1), (CPLR_EP_CFG.ROLE (16 : Fin 20), 1)] with rst := { State.reset.rst with inst := false, por := false } }).advanceTo (0x123456789 : Dword), ?_, ?_, ?_, ?_⟩
    · first | rfl | decide +kernel
    · first | decide +kernel | rfl
    · first | decide +kernel | rfl
    · first | decide +kernel | rfl
  · refine ⟨0x123456789, 16, { st [(CPLR_CTRL.EN, 1), (CPLR_EP_CFG.ROLE (16 : Fin 20), 2)] with cplr := { State.reset.cplr with sync := some (1, 2, 3) }, rst := { State.reset.rst with inst := false, por := false } }, ({ st [(CPLR_CTRL.EN, 1), (CPLR_EP_CFG.ROLE (16 : Fin 20), 2)] with cplr := { State.reset.cplr with sync := some (1, 2, 3) }, rst := { State.reset.rst with inst := false, por := false } }).advanceTo (0x123456789 : Dword), ?_, ?_, ?_, ?_⟩
    · first | rfl | decide +kernel
    · first | decide +kernel | rfl
    · first | decide +kernel | rfl
    · first | decide +kernel | rfl
  · refine ⟨0x123456789, 16, 0x123456789, 1, 1, 1, { st [(CPLR_CTRL.EN, 1), (CPLR_EP_CFG.ROLE (16 : Fin 20), 1), (CPLR_EP_CFG.ROLE 16, 1)] with cplr := { State.reset.cplr with sync := some (1, 1, 1) }, rst := { State.reset.rst with inst := false, por := false } }, ({ st [(CPLR_CTRL.EN, 1), (CPLR_EP_CFG.ROLE (16 : Fin 20), 1), (CPLR_EP_CFG.ROLE 16, 1)] with cplr := { State.reset.cplr with sync := some (1, 1, 1) }, rst := { State.reset.rst with inst := false, por := false } }).advanceTo (0x123456789 : Dword), ?_, ?_, ?_, ?_, ?_⟩
    · first | rfl | decide +kernel
    · first | decide +kernel | rfl
    · first | decide +kernel | rfl
    · first | decide +kernel | rfl
    · first | decide +kernel | rfl
  · refine ⟨0x123456789, 16, { st [(CPLR_CTRL.EN, 1), (CPLR_EP_CFG.ROLE (16 : Fin 20), 1)] with rst := { State.reset.rst with inst := false, por := false } }, ({ st [(CPLR_CTRL.EN, 1), (CPLR_EP_CFG.ROLE (16 : Fin 20), 1)] with rst := { State.reset.rst with inst := false, por := false } }).advanceTo (0x123456789 : Dword), ?_, ?_, ?_, ?_⟩
    · first | rfl | decide +kernel
    · first | decide +kernel | rfl
    · decide +kernel
    · first | decide +kernel | rfl

/-- States and operands that meet the hypotheses of CouplerPolicyCommandsComplete (part 1). -/
theorem witness_CouplerPolicyCommandsComplete_1 :
    (∃ (e : Dword) (x : Fin 20) (ep : Word) (fr : BitVec 16) (fl : Bool) (s : State) (u : State), u =
      s.advanceTo e ∧ s.get CPLR_CTRL.EN = 1 ∧ s.epRole x = 1 ∧ s.rst.inst = false) ∧
    (∃ (p : EnvPoint) (s : State) (u : State), u = cplrSendDown (s.envMessage p) s ∧ u.now = s.now ∧ 800000 *
      p.epoch ≤ s.now) ∧
    (∃ (p : EnvPoint) (s : State) (u : State), u = cplrSendDown (s.envMessage p) s ∧ u.now = s.now ∧ s.now <
      800000 * p.epoch) ∧
    (∃ (p : EnvPoint) (l : List EnvPoint), (l.Pairwise (fun a b => a.epoch < b.epoch))) ∧
    (∃ (p : EnvPoint) (l : List EnvPoint) (q : EnvPoint), (l.Pairwise (fun a b => a.epoch < b.epoch)) ∧ q ∈
      envInsert p l) ∧
    (∃ (p : EnvPoint) (l : List EnvPoint) (q : EnvPoint), (l.Pairwise (fun a b => a.epoch < b.epoch)) ∧ q ∈ l ∧
      q.epoch < p.epoch) ∧
    (∃ (p : EnvPoint) (l : List EnvPoint) (q : EnvPoint), (l.Pairwise (fun a b => a.epoch < b.epoch)) ∧ (∃ q ∈
      l, q.epoch = p.epoch) ∧ q ∈ envInsert p l) ∧
    (∃ (req : Requester) (v : Word) (s : State), s.Permits req CPLR_ENV_ISSUE v) ∧
    (∃ (e : Dword) (p : EnvPoint) (rest : List EnvPoint) (s : State) (u : State), u = s.advanceTo e ∧ s.cplr.env
      = p :: rest ∧ s.rst.inst = false) ∧
    (∃ (e : Dword) (s : State), s.cplr.env = [] ∧ s.rst.inst = false) ∧
    (∃ (e : Dword) (z : State) (s : State), z = s.advanceTo e ∧ s.rst.inst = false) ∧
    (∃ (u : State), u.inst ≠ 0) ∧
    (∃ (u : State), u.inst = 0) ∧
    (∃ (u : State), u.inst = 0 ∧ 0 < u.cplr.winT ∧ u.cplr.winM = 10 * u.cplr.winT) ∧
    (∃ (e : Dword) (x : Fin 20) (is : BitVec 17) (q : BitVec 16) (r : BitVec 8) (ex : Word) (s : State) (u :
      State) (v : State), u = s.advanceTo e ∧ s.get CPLR_CTRL.EN = 1 ∧ s.epRole x = 1 ∧ v = emApply is.toNat
      q.toNat r.toNat ex.toNat u ∧ s.rst.inst = false) ∧
    (∃ (s : State) (rate : ℕ), (rate = (s.emEntries.map fun i => s.get (CPLR_EM_TAB1.RATE i)).foldl min 64) ∧
      s.get CPLR_EM_STAT.RATE = rate) ∧
    (∃ (is : ℕ) (sq : ℕ) (r : ℕ) (ex : ℕ) (i : ℕ) (s : State) (u : State), u = s.c0Touch ∧ ((u.emEntries.find?
      fun i => u.get (CPLR_EM_TAB0.ISSUER i) == is) = some i) ∧ 1 ≤ (sq + 65536 - u.get (CPLR_EM_TAB1.SEQ i)) %
      65536 ∧ (sq + 65536 - u.get (CPLR_EM_TAB1.SEQ i)) % 65536 ≤ 32767 ∧ r = 64) ∧
    (∃ (is : ℕ) (sq : ℕ) (r : ℕ) (ex : ℕ) (i : ℕ) (s : State) (u : State), u = s.c0Touch ∧ ((u.emEntries.find?
      fun i => u.get (CPLR_EM_TAB0.ISSUER i) == is) = some i) ∧ 1 ≤ (sq + 65536 - u.get (CPLR_EM_TAB1.SEQ i)) %
      65536 ∧ (sq + 65536 - u.get (CPLR_EM_TAB1.SEQ i)) % 65536 ≤ 32767 ∧ r ≠ 64) ∧
    (∃ (is : ℕ) (sq : ℕ) (r : ℕ) (ex : ℕ) (i : ℕ) (s : State) (u : State), u = s.c0Touch ∧ ((u.emEntries.find?
      fun i => u.get (CPLR_EM_TAB0.ISSUER i) == is) = some i) ∧ ((sq + 65536 - u.get (CPLR_EM_TAB1.SEQ i)) %
      65536 = 0 ∨ 32767 < (sq + 65536 - u.get (CPLR_EM_TAB1.SEQ i)) % 65536)) ∧
    (∃ (is : ℕ) (sq : ℕ) (r : ℕ) (ex : ℕ) (s : State) (u : State) (i : ℕ), u = s.c0Touch ∧ ((u.emEntries.find?
      fun i => u.get (CPLR_EM_TAB0.ISSUER i) == is) = none) ∧ r ≠ 64 ∧ (((List.range 4).find? fun i => !u.bit
      (CPLR_EM_TAB0.VALID i)) = some i)) ∧
    (∃ (is : ℕ) (sq : ℕ) (r : ℕ) (ex : ℕ) (s : State) (u : State), u = s.c0Touch ∧ ((u.emEntries.find? fun i =>
      u.get (CPLR_EM_TAB0.ISSUER i) == is) = none) ∧ r ≠ 64 ∧ (((List.range 4).find? fun i => !u.bit
      (CPLR_EM_TAB0.VALID i)) = none)) ∧
    (∃ (i : ℕ) (is : ℕ) (sq : ℕ) (r : ℕ) (ex : ℕ) (s : State), i < 4 ∧ is < 2 ^ 17 ∧ sq < 65536 ∧ r < 128 ∧ ex <
      2 ^ 32) ∧
    (∃ (req : Requester) (v : Word) (s : State) (u : State) (w : ℕ), s.Permits req CPLR_EM_ISSUE v ∧ 1 ≤ fldGet
      v 6 0 ∧ fldGet v 6 0 ≤ 64 ∧ u = emApply s.memberId ((s.cplr.emSeq + 1) % 65536) (fldGet v 6 0) w
      { s with cplr := { s.cplr with emSeq := (s.cplr.emSeq + 1) % 65536 } } ∧ (fldGet v 31 16 = 0 → w = 0) ∧
      (fldGet v 31 16 ≠ 0 → w = (s.epoch + fldGet v 31 16) % 2 ^ 32)) ∧
    (∃ (req : Requester) (v : Word) (s : State), s.Permits req CPLR_EM_ISSUE v ∧ (fldGet v 6 0 = 0 ∨ 64 < fldGet
      v 6 0)) := by
  refine ⟨?_, ?_, ?_, ?_, ?_, ?_, ?_, ?_, ?_, ?_, ?_, ?_, ?_, ?_, ?_, ?_, ?_, ?_, ?_, ?_, ?_, ?_, ?_, ?_⟩
  · refine ⟨0x123456789, 16, 1, 1, true, { st [(CPLR_CTRL.EN, 1), (CPLR_EP_CFG.ROLE (16 : Fin 20), 1)] with rst := { State.reset.rst with inst := false, por := false } }, ({ st [(CPLR_CTRL.EN, 1), (CPLR_EP_CFG.ROLE (16 : Fin 20), 1)] with rst := { State.reset.rst with inst := false, por := false } }).advanceTo (0x123456789 : Dword), ?_, ?_, ?_, ?_⟩
    · first | rfl | decide +kernel
    · first | decide +kernel | rfl
    · first | decide +kernel | rfl
    · first | decide +kernel | rfl
  · refine ⟨⟨0, 5, true⟩, State.reset, (cplrSendDown (State.reset.envMessage ⟨0, 5, true⟩) State.reset), ?_, ?_, ?_⟩
    · first | rfl | decide +kernel
    · first | decide +kernel | rfl
    · decide +kernel
  · refine ⟨⟨1, 5, true⟩, State.reset, (cplrSendDown (State.reset.envMessage ⟨1, 5, true⟩) State.reset), ?_, ?_, ?_⟩
    · first | rfl | decide +kernel
    · first | decide +kernel | rfl
    · decide +kernel
  · refine ⟨⟨3, 9, false⟩, [⟨1, 5, true⟩, ⟨3, 6, true⟩], ?_⟩
    · decide +kernel
  · refine ⟨⟨3, 9, false⟩, [⟨1, 5, true⟩, ⟨3, 6, true⟩], ⟨3, 9, false⟩, ?_, ?_⟩
    · decide +kernel
    · decide +kernel
  · refine ⟨⟨3, 9, false⟩, [⟨1, 5, true⟩, ⟨3, 6, true⟩], ⟨1, 5, true⟩, ?_, ?_, ?_⟩
    · decide +kernel
    · decide +kernel
    · decide +kernel
  · refine ⟨⟨3, 9, false⟩, [⟨1, 5, true⟩, ⟨3, 6, true⟩], ⟨3, 9, false⟩, ?_, ?_, ?_⟩
    · decide +kernel
    · first | decide +kernel | rfl
    · decide +kernel
  · refine ⟨.sec, 1, { State.reset with rst := { State.reset.rst with inst := false, por := false } }, ?_⟩
    · exact permits_of (by decide +kernel)
  · refine ⟨0x123456789, ⟨3, 9, false⟩, [], { State.reset with cplr := { State.reset.cplr with env := [⟨3, 9, false⟩] }, rst := { State.reset.rst with inst := false, por := false } }, ({ State.reset with cplr := { State.reset.cplr with env := [⟨3, 9, false⟩] }, rst := { State.reset.rst with inst := false, por := false } }).advanceTo (0x123456789 : Dword), ?_, ?_, ?_⟩
    · first | rfl | decide +kernel
    · first | decide +kernel | rfl
    · first | decide +kernel | rfl
  · refine ⟨0x123456789, { State.reset with cplr := { State.reset.cplr with env := [] }, rst := { State.reset.rst with inst := false, por := false } }, ?_, ?_⟩
    · first | decide +kernel | rfl
    · first | decide +kernel | rfl
  · refine ⟨0x123456789, ({ State.reset with rst := { State.reset.rst with inst := false, por := false } }).advanceTo (0x123456789 : Dword), { State.reset with rst := { State.reset.rst with inst := false, por := false } }, ?_, ?_⟩
    · first | rfl | decide +kernel
    · first | decide +kernel | rfl
  · refine ⟨{ State.reset with efuse := { State.reset.efuse with inst := 1 } }, ?_⟩
    · decide +kernel
  · refine ⟨{ State.reset with efuse := { State.reset.efuse with inst := 0 } }, ?_⟩
    · first | decide +kernel | rfl
  · refine ⟨{ State.reset with cplr := { State.reset.cplr with winT := 1, winM := 10 }, efuse := { State.reset.efuse with inst := 0 } }, ?_, ?_, ?_⟩
    · first | decide +kernel | rfl
    · decide +kernel
    · first | decide +kernel | rfl
  · refine ⟨0x123456789, 16, 1, 1, 1, 1, { st [(CPLR_CTRL.EN, 1), (CPLR_EP_CFG.ROLE (16 : Fin 20), 1), (CPLR_EP_CFG.ROLE 16, 1)] with rst := { State.reset.rst with inst := false, por := false } }, ({ st [(CPLR_CTRL.EN, 1), (CPLR_EP_CFG.ROLE (16 : Fin 20), 1), (CPLR_EP_CFG.ROLE 16, 1)] with rst := { State.reset.rst with inst := false, por := false } }).advanceTo (0x123456789 : Dword), emApply (1 : BitVec 17).toNat (1 : BitVec 16).toNat (1 : BitVec 8).toNat (1 : Word).toNat (({ st [(CPLR_CTRL.EN, 1), (CPLR_EP_CFG.ROLE (16 : Fin 20), 1), (CPLR_EP_CFG.ROLE 16, 1)] with rst := { State.reset.rst with inst := false, por := false } }).advanceTo (0x123456789 : Dword)), ?_, ?_, ?_, ?_, ?_⟩
    · first | rfl | decide +kernel
    · first | decide +kernel | rfl
    · first | decide +kernel | rfl
    · first | rfl | decide +kernel
    · first | decide +kernel | rfl
  · refine ⟨st [(CPLR_EM_STAT.RATE, 64)], 64, ?_, ?_⟩
    · first | rfl | decide +kernel
    · first | decide +kernel | rfl
  · refine ⟨1, 1, 64, 1, 0, st [(CPLR_EM_TAB0.VALID 0, 1), (CPLR_EM_TAB0.ISSUER 0, 1)], (st [(CPLR_EM_TAB0.VALID 0, 1), (CPLR_EM_TAB0.ISSUER 0, 1)]).c0Touch, ?_, ?_, ?_, ?_, ?_⟩
    · first | rfl | decide +kernel
    · first | decide +kernel | rfl
    · decide +kernel
    · decide +kernel
    · first | rfl | decide +kernel
  · refine ⟨1, 1, 1, 1, 0, st [(CPLR_EM_TAB0.VALID 0, 1), (CPLR_EM_TAB0.ISSUER 0, 1)], (st [(CPLR_EM_TAB0.VALID 0, 1), (CPLR_EM_TAB0.ISSUER 0, 1)]).c0Touch, ?_, ?_, ?_, ?_, ?_⟩
    · first | rfl | decide +kernel
    · first | decide +kernel | rfl
    · decide +kernel
    · decide +kernel
    · decide +kernel
  · refine ⟨1, 0, 1, 1, 0, st [(CPLR_EM_TAB0.VALID 0, 1), (CPLR_EM_TAB0.ISSUER 0, 1)], (st [(CPLR_EM_TAB0.VALID 0, 1), (CPLR_EM_TAB0.ISSUER 0, 1)]).c0Touch, ?_, ?_, ?_⟩
    · first | rfl | decide +kernel
    · first | decide +kernel | rfl
    · decide +kernel
  · refine ⟨1, 1, 1, 1, State.reset, State.reset.c0Touch, 0, ?_, ?_, ?_, ?_⟩
    · first | rfl | decide +kernel
    · first | decide +kernel | rfl
    · decide +kernel
    · first | decide +kernel | rfl
  · refine ⟨1, 1, 1, 1, st [(CPLR_EM_TAB0.VALID 0, 1), (CPLR_EM_TAB0.VALID 1, 1), (CPLR_EM_TAB0.VALID 2, 1), (CPLR_EM_TAB0.VALID 3, 1)], (st [(CPLR_EM_TAB0.VALID 0, 1), (CPLR_EM_TAB0.VALID 1, 1), (CPLR_EM_TAB0.VALID 2, 1), (CPLR_EM_TAB0.VALID 3, 1)]).c0Touch, ?_, ?_, ?_, ?_⟩
    · first | rfl | decide +kernel
    · first | decide +kernel | rfl
    · decide +kernel
    · first | decide +kernel | rfl
  · refine ⟨1, 1, 1, 1, 1, State.reset, ?_, ?_, ?_, ?_, ?_⟩
    · decide +kernel
    · decide +kernel
    · decide +kernel
    · decide +kernel
    · decide +kernel
  · refine ⟨.sec, 1, { State.reset with rst := { State.reset.rst with inst := false, por := false } }, emApply ({ State.reset with rst := { State.reset.rst with inst := false, por := false } }).memberId ((({ State.reset with rst := { State.reset.rst with inst := false, por := false } }).cplr.emSeq + 1) % 65536) (fldGet (1 : Word) 6 0) 0 { ({ State.reset with rst := { State.reset.rst with inst := false, por := false } }) with cplr := { ({ State.reset with rst := { State.reset.rst with inst := false, por := false } }).cplr with emSeq := (({ State.reset with rst := { State.reset.rst with inst := false, por := false } }).cplr.emSeq + 1) % 65536 } }, 0, ?_, ?_, ?_, ?_, ?_, ?_⟩
    · exact permits_of (by decide +kernel)
    · decide +kernel
    · decide +kernel
    · first | rfl | decide +kernel
    · first | decide +kernel | rfl
    · first | decide +kernel | rfl
  · refine ⟨.sec, 0, { State.reset with rst := { State.reset.rst with inst := false, por := false } }, ?_, ?_⟩
    · exact permits_of (by decide +kernel)
    · decide +kernel

/-- States and operands that meet the hypotheses of CouplerPolicyCommandsComplete (part 2). -/
theorem witness_CouplerPolicyCommandsComplete_2 :
    (∃ (e : Dword) (x : Fin 20) (gid : BitVec 16) (r : BitVec 8) (s : State) (u : State), u = s.advanceTo e ∧
      s.get CPLR_CTRL.EN = 1 ∧ s.epRole x = 2 ∧ s.rst.inst = false) ∧
    (∃ (gid : ℕ) (k : ℕ) (r : ℕ) (s : State), ((s.cplr.agg.any fun a => a.gid == gid) = false) ∧ r ≠ 64 ∧
      s.cplr.agg.length < 256) ∧
    (∃ (gid : ℕ) (k : ℕ) (r : ℕ) (s : State), ((s.cplr.agg.any fun a => a.gid == gid) = false) ∧ r ≠ 64 ∧ 256 ≤
      s.cplr.agg.length) ∧
    (∃ (gid : ℕ) (r : ℕ) (s : State), s.isRoot = true) ∧
    (∃ (gid : ℕ) (r : ℕ) (s : State), s.isRoot = false) ∧
    (∃ (f : Fld) (s : State), (f = CPLR_EVT.AGG_OVF ∨ f = CPLR_EVT.EM_OVF ∨ f = CPLR_EVT.RW_OVF)) ∧
    (∃ (e : Dword) (x : Fin 20) (gid : BitVec 16) (r : BitVec 8) (ep : Word) (s : State) (u : State), u =
      s.advanceTo e ∧ s.get CPLR_CTRL.EN = 1 ∧ s.epRole x = 1 ∧ s.rst.inst = false) ∧
    (∃ (x : ℕ) (r : ℕ) (ep : ℕ) (s : State) (u : State) (ps : List (ℕ × ℕ)), x < 4 ∧ r < 128 ∧ u = s.put
      (CPLR_GRP_STAT.RG x) r ∧ ps = pairInsert r ep (s.cslot x).pairs ∧ s.now < 800000 * ep ∧ ps.length ≤ 4) ∧
    (∃ (x : ℕ) (r : ℕ) (ep : ℕ) (s : State) (u : State) (ps : List (ℕ × ℕ)), x < 4 ∧ r < 128 ∧ u = s.put
      (CPLR_GRP_STAT.RG x) r ∧ ps = pairInsert r ep (s.cslot x).pairs ∧ s.now < 800000 * ep ∧ 4 < ps.length) ∧
    (∃ (x : ℕ) (r : ℕ) (ep : ℕ) (s : State) (u : State), x < 4 ∧ u = putGrate x r (s.put (CPLR_GRP_STAT.RG x) r)
      ∧ 800000 * ep ≤ s.now) ∧
    (∃ (e : Dword) (s : State), s.rst.inst = false) ∧
    (∃ (e : Dword) (s : State), (∀ x < 4, (s.cslot x).pairs = []) ∧ s.rst.inst = false) ∧
    (∃ (req : Requester) (v : Word) (s : State) (u : State), s.Permits req CPLR_CTRL (v ||| 0x80000000) ∧ s.get
      CPLR_CTRL.EN = 0 ∧ u = storeReg CPLR_CTRL (v ||| 0x80000000) s ∧ u.cplrBad = true) ∧
    (∃ (req : Requester) (v : Word) (s : State) (u : State), s.Permits req CPLR_CTRL (v ||| 0x80000000) ∧ s.get
      CPLR_CTRL.EN = 0 ∧ u = storeReg CPLR_CTRL (v ||| 0x80000000) s ∧ u.cplrBad = false) := by
  refine ⟨?_, ?_, ?_, ?_, ?_, ?_, ?_, ?_, ?_, ?_, ?_, ?_, ?_, ?_⟩
  · refine ⟨0x123456789, 16, 1, 1, { st [(CPLR_CTRL.EN, 1), (CPLR_EP_CFG.ROLE (16 : Fin 20), 2)] with rst := { State.reset.rst with inst := false, por := false } }, ({ st [(CPLR_CTRL.EN, 1), (CPLR_EP_CFG.ROLE (16 : Fin 20), 2)] with rst := { State.reset.rst with inst := false, por := false } }).advanceTo (0x123456789 : Dword), ?_, ?_, ?_, ?_⟩
    · first | rfl | decide +kernel
    · first | decide +kernel | rfl
    · first | decide +kernel | rfl
    · first | decide +kernel | rfl
  · refine ⟨1, 1, 1, State.reset, ?_, ?_, ?_⟩
    · first | decide +kernel | rfl
    · decide +kernel
    · decide +kernel
  · refine ⟨1, 1, 1, { State.reset with cplr := { State.reset.cplr with agg := List.replicate 256 ⟨0, [], 64, none⟩ } }, ?_, ?_, ?_⟩
    · first | decide +kernel | rfl
    · decide +kernel
    · decide +kernel
  · refine ⟨1, 1, st [(CPLR_CTRL.EN, 1), (CPLR_CTRL.ROLE, 1)], ?_⟩
    · first | decide +kernel | rfl
  · refine ⟨1, 1, State.reset, ?_⟩
    · first | decide +kernel | rfl
  · refine ⟨CPLR_EVT.AGG_OVF, State.reset, ?_⟩
    · first | rfl | decide +kernel
  · refine ⟨0x123456789, 16, 1, 1, 1, { st [(CPLR_CTRL.EN, 1), (CPLR_EP_CFG.ROLE (16 : Fin 20), 1)] with rst := { State.reset.rst with inst := false, por := false } }, ({ st [(CPLR_CTRL.EN, 1), (CPLR_EP_CFG.ROLE (16 : Fin 20), 1)] with rst := { State.reset.rst with inst := false, por := false } }).advanceTo (0x123456789 : Dword), ?_, ?_, ?_, ?_⟩
    · first | rfl | decide +kernel
    · first | decide +kernel | rfl
    · first | decide +kernel | rfl
    · first | decide +kernel | rfl
  · refine ⟨1, 1, 1, State.reset, State.reset.put (CPLR_GRP_STAT.RG 1) 1, pairInsert 1 1 (State.reset.cslot 1).pairs, ?_, ?_, ?_, ?_, ?_, ?_⟩
    · decide +kernel
    · decide +kernel
    · first | rfl | decide +kernel
    · first | rfl | decide +kernel
    · decide +kernel
    · decide +kernel
  · refine ⟨1, 1, 6, { State.reset with cplrSlot := [(1, { pairs := [(1, 1), (2, 2), (3, 3), (4, 4)] })] }, ({ State.reset with cplrSlot := [(1, { pairs := [(1, 1), (2, 2), (3, 3), (4, 4)] })] }).put (CPLR_GRP_STAT.RG 1) 1, pairInsert 1 6 (({ State.reset with cplrSlot := [(1, { pairs := [(1, 1), (2, 2), (3, 3), (4, 4)] })] }).cslot 1).pairs, ?_, ?_, ?_, ?_, ?_, ?_⟩
    · decide +kernel
    · decide +kernel
    · first | rfl | decide +kernel
    · first | rfl | decide +kernel
    · decide +kernel
    · decide +kernel
  · refine ⟨1, 1, 0, State.reset, putGrate 1 1 (State.reset.put (CPLR_GRP_STAT.RG 1) 1), ?_, ?_, ?_⟩
    · decide +kernel
    · first | rfl | decide +kernel
    · decide +kernel
  · refine ⟨0x123456789, { State.reset with rst := { State.reset.rst with inst := false, por := false } }, ?_⟩
    · first | decide +kernel | rfl
  · refine ⟨0x123456789, { st [(CPLR_EP_CFG.ROLE 0, 1), (CPLR_EP_CFG.ROLE 16, 1)] with rst := { State.reset.rst with inst := false, por := false } }, ?_, ?_⟩
    · first | decide +kernel | rfl
    · first | decide +kernel | rfl
  · refine ⟨.sec, 1, { st [(CPLR_CTRL.EN, 0), (CPLR_EP_CFG.ROLE 16, 1), (CPLR_EP_CFG.ROLE 15, 1)] with rst := { State.reset.rst with inst := false, por := false } }, storeReg CPLR_CTRL ((1 : Word) ||| 0x80000000) ({ st [(CPLR_CTRL.EN, 0), (CPLR_EP_CFG.ROLE 16, 1), (CPLR_EP_CFG.ROLE 15, 1)] with rst := { State.reset.rst with inst := false, por := false } }), ?_, ?_, ?_, ?_⟩
    · exact permits_of (by decide +kernel)
    · first | decide +kernel | rfl
    · first | rfl | decide +kernel
    · first | decide +kernel | rfl
  · refine ⟨.sec, 1, { st [(CPLR_CTRL.EN, 0)] with rst := { State.reset.rst with inst := false, por := false } }, storeReg CPLR_CTRL ((1 : Word) ||| 0x80000000) ({ st [(CPLR_CTRL.EN, 0)] with rst := { State.reset.rst with inst := false, por := false } }), ?_, ?_, ?_, ?_⟩
    · exact permits_of (by decide +kernel)
    · first | decide +kernel | rfl
    · first | rfl | decide +kernel
    · first | decide +kernel | rfl

/-- States and operands that meet the hypotheses of RemoteWriteCommandsComplete. -/
theorem witness_RemoteWriteCommandsComplete :
    (∃ (e : Dword) (pr : BitVec 17) (win : BitVec 8) (be : BitVec 8) (c : Bool) (sq : BitVec 16) (lo : Word) (hi
      : Word) (off : Word) (s : State) (u : State), u = s.advanceTo e ∧ s.get CPLR_CTRL.EN = 1 ∧ s.rst.inst =
      false) ∧
    (∃ (pr : ℕ) (win : ℕ) (be : ℕ) (c : Bool) (sq : ℕ) (off : ℕ) (lo : Word) (hi : Word) (s : State), (off % 8 ≠
      0 ∨ be = 0 ∨ off < s.get CPLR_RW_BASE.BASE ∨ s.get CPLR_RW_LIM.LIM < off + 8 ∨ 262144 < off + 8)) ∧
    (∃ (pr : ℕ) (win : ℕ) (be : ℕ) (sq : ℕ) (off : ℕ) (lo : Word) (hi : Word) (s : State) (w : RwWindow) (u :
      State), off % 8 = 0 ∧ be ≠ 0 ∧ s.get CPLR_RW_BASE.BASE ≤ off ∧ off + 8 ≤ s.get CPLR_RW_LIM.LIM ∧ off + 8 ≤
      262144 ∧ s.rwFind pr win = some w ∧ (u =
      { s with cplr := { s.cplr with late := s.cplr.late.filter fun e => !(e.1 == pr && e.2.1 == win) } })) ∧
    (∃ (pr : ℕ) (win : ℕ) (be : ℕ) (c : Bool) (sq : ℕ) (off : ℕ) (lo : Word) (hi : Word) (s : State), off % 8 =
      0 ∧ be ≠ 0 ∧ s.get CPLR_RW_BASE.BASE ≤ off ∧ off + 8 ≤ s.get CPLR_RW_LIM.LIM ∧ off + 8 ≤ 262144 ∧ s.rwFind
      pr win = none ∧ ((s.cplr.late.any fun e => e.1 == pr && e.2.1 == win && decide (sq < e.2.2)) = true)) ∧
    (∃ (req : Requester) (q : Fin 12) (s : State) (l : List (List Word)) (ws : List Word), s.Permits req
      (CPLR_TX_CMD q) 1 ∧ l = s.txQueue q ∧ l.length < 8 ∧ ws = s.message 0x0A 0 (s.get (CPLR_TX_CTL.SEQ q))
      (s.num (CPLR_TX_DST q) + 2 ^ 32 * (s.get (CPLR_TX_CTL.WIN q) + 256 * s.get (CPLR_TX_CTL.BE q))) [s.num
      (CPLR_TX_DATA_LO q), s.num (CPLR_TX_DATA_HI q), s.num (CPLR_TX_ADDR q)]) ∧
    (∃ (req : Requester) (q : Fin 12) (s : State) (l : List (List Word)) (ws : List Word), s.Permits req
      (CPLR_TX_CMD q) 2 ∧ l = s.txQueue q ∧ l.length < 8 ∧ ws = s.message 0x0A 1 (s.get (CPLR_TX_CTL.SEQ q))
      (s.num (CPLR_TX_DST q) + 2 ^ 32 * (s.get (CPLR_TX_CTL.WIN q) + 256 * s.get (CPLR_TX_CTL.BE q))) [s.num
      (CPLR_TX_DATA_LO q), s.num (CPLR_TX_DATA_HI q), s.num (CPLR_TX_ADDR q)]) ∧
    (∃ (req : Requester) (q : Fin 12) (s : State), 8 ≤ (s.txQueue q).length ∧ s.Permits req (CPLR_TX_CMD q) 1) ∧
    (∃ (req : Requester) (q : Fin 12) (s : State), 8 ≤ (s.txQueue q).length ∧ s.Permits req (CPLR_TX_CMD q) 2) ∧
    (∃ (e : Dword) (pr : BitVec 17) (win : BitVec 8) (w : RwWindow) (h : HeldCommit) (s : State) (u : State) (y
      : State), u = s.advanceTo e ∧ s.rwFind pr.toNat win.toNat = some w ∧ w.held = some h ∧ y = u.advanceTo
      (BitVec.ofNat 64 (h.since + 800 * s.get CPLR_RW_TO.TO)) ∧ w.complete h.seq = true ∧ s.cplr.recs.length <
      64) ∧
    (∃ (e : Dword) (pr : BitVec 17) (win : BitVec 8) (w : RwWindow) (h : HeldCommit) (s : State) (u : State) (y
      : State), u = s.advanceTo e ∧ s.rwFind pr.toNat win.toNat = some w ∧ w.held = some h ∧ y = u.advanceTo
      (BitVec.ofNat 64 (h.since + 800 * s.get CPLR_RW_TO.TO)) ∧ (w.complete h.seq = false ∨ 64 ≤
      s.cplr.recs.length)) ∧
    (∃ (e : Dword) (pr : BitVec 17) (win : BitVec 8) (w : RwWindow) (h : HeldCommit) (s : State) (u : State) (y
      : State), u = s.advanceTo e ∧ s.rwFind pr.toNat win.toNat = some w ∧ w.held = some h ∧ y = u.advanceTo
      (BitVec.ofNat 64 (h.since + 800 * s.get CPLR_RW_TO.TO)) ∧ s.cplr.recs.length < 64) ∧
    (∃ (e : Dword) (pr : BitVec 17) (win : BitVec 8) (w : RwWindow) (h : HeldCommit) (s : State) (u : State) (y
      : State), u = s.advanceTo e ∧ s.rwFind pr.toNat win.toNat = some w ∧ w.held = some h ∧ y = u.advanceTo
      (BitVec.ofNat 64 (h.since + 800 * s.get CPLR_RW_TO.TO)) ∧ 64 ≤ s.cplr.recs.length) ∧
    (∃ (w : RwWindow) (h : HeldCommit) (s : State) (t : State), t = commitLand w h false s) ∧
    (∃ (e : Dword) (pr : BitVec 17) (win : BitVec 8) (w : RwWindow) (s : State) (u : State), u = s.advanceTo e ∧
      s.rwFind pr.toNat win.toNat = some w ∧ s.rst.inst = false) ∧
    (∃ (req : Requester) (s : State), s.cplr.recs = []) ∧
    (∃ (req : Requester) (s : State) (w : Word) (p : ℕ) (rest : List (Word × ℕ)), s.cplr.recs = (w, p) :: rest) ∧
    (∃ (pr : ℕ) (win : ℕ) (s : State) (p : ℕ) (x : ℕ), (p, x) ≠ (pr, win)) := by
  refine ⟨?_, ?_, ?_, ?_, ?_, ?_, ?_, ?_, ?_, ?_, ?_, ?_, ?_, ?_, ?_, ?_, ?_⟩
  · refine ⟨0x123456789, 1, 1, 1, true, 1, 1, 1, 1, { st [(CPLR_CTRL.EN, 1)] with rst := { State.reset.rst with inst := false, por := false } }, ({ st [(CPLR_CTRL.EN, 1)] with rst := { State.reset.rst with inst := false, por := false } }).advanceTo (0x123456789 : Dword), ?_, ?_, ?_⟩
    · first | rfl | decide +kernel
    · first | decide +kernel | rfl
    · first | decide +kernel | rfl
  · refine ⟨1, 1, 1, true, 1, 1, 1, 1, State.reset, ?_⟩
    · decide +kernel
  · refine ⟨9, 1, 255, 1, 262136, 1, 1, { st [(CPLR_RW_LIM.LIM, 262144)] with cplr := { State.reset.cplr with wins := [⟨9, 1, [], none, 0⟩] } }, ⟨9, 1, [], none, 0⟩, { ({ st [(CPLR_RW_LIM.LIM, 262144)] with cplr := { State.reset.cplr with wins := [⟨9, 1, [], none, 0⟩] } }) with cplr := { ({ st [(CPLR_RW_LIM.LIM, 262144)] with cplr := { State.reset.cplr with wins := [⟨9, 1, [], none, 0⟩] } }).cplr with late := ({ st [(CPLR_RW_LIM.LIM, 262144)] with cplr := { State.reset.cplr with wins := [⟨9, 1, [], none, 0⟩] } }).cplr.late.filter fun e => !(e.1 == 9 && e.2.1 == 1) } }, ?_, ?_, ?_, ?_, ?_, ?_, ?_⟩
    · first | decide +kernel | rfl
    · decide +kernel
    · decide +kernel
    · decide +kernel
    · decide +kernel
    · first | decide +kernel | rfl
    · first | rfl | decide +kernel
  · refine ⟨9, 1, 255, true, 1, 262136, 1, 1, { st [(CPLR_RW_LIM.LIM, 262144)] with cplr := { State.reset.cplr with late := [(9, 1, 2)] } }, ?_, ?_, ?_, ?_, ?_, ?_, ?_⟩
    · first | decide +kernel | rfl
    · decide +kernel
    · decide +kernel
    · decide +kernel
    · decide +kernel
    · first | decide +kernel | rfl
    · first | decide +kernel | rfl
  · refine ⟨(.cc 7), 11, { State.reset with rst := { State.reset.rst with inst := false, por := false } }, ({ State.reset with rst := { State.reset.rst with inst := false, por := false } }).txQueue (11 : Fin 12), ({ State.reset with rst := { State.reset.rst with inst := false, por := false } }).message 0x0A 0 (({ State.reset with rst := { State.reset.rst with inst := false, por := false } }).get (CPLR_TX_CTL.SEQ (11 : Fin 12))) (({ State.reset with rst := { State.reset.rst with inst := false, por := false } }).num (CPLR_TX_DST (11 : Fin 12)) + 2 ^ 32 * (({ State.reset with rst := { State.reset.rst with inst := false, por := false } }).get (CPLR_TX_CTL.WIN (11 : Fin 12)) + 256 * ({ State.reset with rst := { State.reset.rst with inst := false, por := false } }).get (CPLR_TX_CTL.BE (11 : Fin 12)))) [({ State.reset with rst := { State.reset.rst with inst := false, por := false } }).num (CPLR_TX_DATA_LO (11 : Fin 12)), ({ State.reset with rst := { State.reset.rst with inst := false, por := false } }).num (CPLR_TX_DATA_HI (11 : Fin 12)), ({ State.reset with rst := { State.reset.rst with inst := false, por := false } }).num (CPLR_TX_ADDR (11 : Fin 12))], ?_, ?_, ?_, ?_⟩
    · exact permits_of (by decide +kernel)
    · first | rfl | decide +kernel
    · decide +kernel
    · first | rfl | decide +kernel
  · refine ⟨(.cc 7), 11, { State.reset with rst := { State.reset.rst with inst := false, por := false } }, ({ State.reset with rst := { State.reset.rst with inst := false, por := false } }).txQueue (11 : Fin 12), ({ State.reset with rst := { State.reset.rst with inst := false, por := false } }).message 0x0A 1 (({ State.reset with rst := { State.reset.rst with inst := false, por := false } }).get (CPLR_TX_CTL.SEQ (11 : Fin 12))) (({ State.reset with rst := { State.reset.rst with inst := false, por := false } }).num (CPLR_TX_DST (11 : Fin 12)) + 2 ^ 32 * (({ State.reset with rst := { State.reset.rst with inst := false, por := false } }).get (CPLR_TX_CTL.WIN (11 : Fin 12)) + 256 * ({ State.reset with rst := { State.reset.rst with inst := false, por := false } }).get (CPLR_TX_CTL.BE (11 : Fin 12)))) [({ State.reset with rst := { State.reset.rst with inst := false, por := false } }).num (CPLR_TX_DATA_LO (11 : Fin 12)), ({ State.reset with rst := { State.reset.rst with inst := false, por := false } }).num (CPLR_TX_DATA_HI (11 : Fin 12)), ({ State.reset with rst := { State.reset.rst with inst := false, por := false } }).num (CPLR_TX_ADDR (11 : Fin 12))], ?_, ?_, ?_, ?_⟩
    · exact permits_of (by decide +kernel)
    · first | rfl | decide +kernel
    · decide +kernel
    · first | rfl | decide +kernel
  · refine ⟨(.cc 7), 11, { State.reset with cplr := { State.reset.cplr with tx := [(11, List.replicate 8 [1])] }, rst := { State.reset.rst with inst := false, por := false } }, ?_, ?_⟩
    · decide +kernel
    · exact permits_of (by decide +kernel)
  · refine ⟨(.cc 7), 11, { State.reset with cplr := { State.reset.cplr with tx := [(11, List.replicate 8 [1])] }, rst := { State.reset.rst with inst := false, por := false } }, ?_, ?_⟩
    · decide +kernel
    · exact permits_of (by decide +kernel)
  · refine ⟨0x123456789, 9, 1, ⟨9, 1, [], some ⟨0, 8, 255, 1, 2, 0⟩, 0⟩, ⟨0, 8, 255, 1, 2, 0⟩, { State.reset with cplr := { State.reset.cplr with wins := [⟨9, 1, [], some ⟨0, 8, 255, 1, 2, 0⟩, 0⟩] } }, ({ State.reset with cplr := { State.reset.cplr with wins := [⟨9, 1, [], some ⟨0, 8, 255, 1, 2, 0⟩, 0⟩] } }).advanceTo (0x123456789 : Dword), (({ State.reset with cplr := { State.reset.cplr with wins := [⟨9, 1, [], some ⟨0, 8, 255, 1, 2, 0⟩, 0⟩] } }).advanceTo (0x123456789 : Dword)).advanceTo (BitVec.ofNat 64 ((⟨0, 8, 255, 1, 2, 0⟩ : HeldCommit).since + 800 * ({ State.reset with cplr := { State.reset.cplr with wins := [⟨9, 1, [], some ⟨0, 8, 255, 1, 2, 0⟩, 0⟩] } }).get CPLR_RW_TO.TO)), ?_, ?_, ?_, ?_, ?_, ?_⟩
    · first | rfl | decide +kernel
    · first | decide +kernel | rfl
    · first | decide +kernel | rfl
    · first | rfl | decide +kernel
    · first | decide +kernel | rfl
    · decide +kernel
  · refine ⟨0x123456789, 9, 1, ⟨9, 1, [], some ⟨5, 8, 255, 1, 2, 0⟩, 0⟩, ⟨5, 8, 255, 1, 2, 0⟩, { State.reset with cplr := { State.reset.cplr with wins := [⟨9, 1, [], some ⟨5, 8, 255, 1, 2, 0⟩, 0⟩] } }, ({ State.reset with cplr := { State.reset.cplr with wins := [⟨9, 1, [], some ⟨5, 8, 255, 1, 2, 0⟩, 0⟩] } }).advanceTo (0x123456789 : Dword), (({ State.reset with cplr := { State.reset.cplr with wins := [⟨9, 1, [], some ⟨5, 8, 255, 1, 2, 0⟩, 0⟩] } }).advanceTo (0x123456789 : Dword)).advanceTo (BitVec.ofNat 64 ((⟨5, 8, 255, 1, 2, 0⟩ : HeldCommit).since + 800 * ({ State.reset with cplr := { State.reset.cplr with wins := [⟨9, 1, [], some ⟨5, 8, 255, 1, 2, 0⟩, 0⟩] } }).get CPLR_RW_TO.TO)), ?_, ?_, ?_, ?_, ?_⟩
    · first | rfl | decide +kernel
    · first | decide +kernel | rfl
    · first | decide +kernel | rfl
    · first | rfl | decide +kernel
    · decide +kernel
  · refine ⟨0x123456789, 9, 1, ⟨9, 1, [], some ⟨5, 8, 255, 1, 2, 0⟩, 0⟩, ⟨5, 8, 255, 1, 2, 0⟩, { State.reset with cplr := { State.reset.cplr with wins := [⟨9, 1, [], some ⟨5, 8, 255, 1, 2, 0⟩, 0⟩] } }, ({ State.reset with cplr := { State.reset.cplr with wins := [⟨9, 1, [], some ⟨5, 8, 255, 1, 2, 0⟩, 0⟩] } }).advanceTo (0x123456789 : Dword), (({ State.reset with cplr := { State.reset.cplr with wins := [⟨9, 1, [], some ⟨5, 8, 255, 1, 2, 0⟩, 0⟩] } }).advanceTo (0x123456789 : Dword)).advanceTo (BitVec.ofNat 64 ((⟨5, 8, 255, 1, 2, 0⟩ : HeldCommit).since + 800 * ({ State.reset with cplr := { State.reset.cplr with wins := [⟨9, 1, [], some ⟨5, 8, 255, 1, 2, 0⟩, 0⟩] } }).get CPLR_RW_TO.TO)), ?_, ?_, ?_, ?_, ?_⟩
    · first | rfl | decide +kernel
    · first | decide +kernel | rfl
    · first | decide +kernel | rfl
    · first | rfl | decide +kernel
    · decide +kernel
  · refine ⟨0x123456789, 9, 1, ⟨9, 1, [], some ⟨0, 8, 255, 1, 2, 0⟩, 0⟩, ⟨0, 8, 255, 1, 2, 0⟩, { State.reset with cplr := { State.reset.cplr with wins := [⟨9, 1, [], some ⟨0, 8, 255, 1, 2, 0⟩, 0⟩], recs := List.replicate 64 (0, 0) } }, ({ State.reset with cplr := { State.reset.cplr with wins := [⟨9, 1, [], some ⟨0, 8, 255, 1, 2, 0⟩, 0⟩], recs := List.replicate 64 (0, 0) } }).advanceTo (0x123456789 : Dword), (({ State.reset with cplr := { State.reset.cplr with wins := [⟨9, 1, [], some ⟨0, 8, 255, 1, 2, 0⟩, 0⟩], recs := List.replicate 64 (0, 0) } }).advanceTo (0x123456789 : Dword)).advanceTo (BitVec.ofNat 64 ((⟨0, 8, 255, 1, 2, 0⟩ : HeldCommit).since + 800 * ({ State.reset with cplr := { State.reset.cplr with wins := [⟨9, 1, [], some ⟨0, 8, 255, 1, 2, 0⟩, 0⟩], recs := List.replicate 64 (0, 0) } }).get CPLR_RW_TO.TO)), ?_, ?_, ?_, ?_, ?_⟩
    · first | rfl | decide +kernel
    · first | decide +kernel | rfl
    · first | decide +kernel | rfl
    · first | rfl | decide +kernel
    · decide +kernel
  · refine ⟨⟨9, 1, [], some ⟨0, 8, 255, 1, 2, 0⟩, 0⟩, ⟨0, 8, 255, 1, 2, 0⟩, { State.reset with cplr := { State.reset.cplr with wins := [⟨9, 1, [], some ⟨0, 8, 255, 1, 2, 0⟩, 0⟩] } }, commitLand (⟨9, 1, [], some ⟨0, 8, 255, 1, 2, 0⟩, 0⟩ : RwWindow) (⟨0, 8, 255, 1, 2, 0⟩ : HeldCommit) false ({ State.reset with cplr := { State.reset.cplr with wins := [⟨9, 1, [], some ⟨0, 8, 255, 1, 2, 0⟩, 0⟩] } }), ?_⟩
    · first | rfl | decide +kernel
  · refine ⟨0x123456789, 9, 1, ⟨9, 1, [], none, 0⟩, { State.reset with cplr := { State.reset.cplr with wins := [⟨9, 1, [], none, 0⟩] }, rst := { State.reset.rst with inst := false, por := false } }, ({ State.reset with cplr := { State.reset.cplr with wins := [⟨9, 1, [], none, 0⟩] }, rst := { State.reset.rst with inst := false, por := false } }).advanceTo (0x123456789 : Dword), ?_, ?_, ?_⟩
    · first | rfl | decide +kernel
    · first | decide +kernel | rfl
    · first | decide +kernel | rfl
  · refine ⟨.sec, { State.reset with cplr := { State.reset.cplr with recs := [] } }, ?_⟩
    · first | decide +kernel | rfl
  · refine ⟨.sec, { State.reset with cplr := { State.reset.cplr with recs := [(5, 9)] } }, 5, 9, [], ?_⟩
    · first | decide +kernel | rfl
  · refine ⟨1, 1, State.reset, 2, 1, ?_⟩
    · decide +kernel

/-- States and operands that meet the hypotheses of InterruptControllerCommandsComplete (part 1). -/
theorem witness_InterruptControllerCommandsComplete_1 :
    (∃ (e : Dword) (i : CoreIx) (s : State) (u : State), u = s.advanceTo e ∧ s.coreState i = 1) ∧
    (∃ (e : Dword) (i : CoreIx) (s : State) (u : State), u = windowsCatch (s.advanceTo e) ∧ u.coreState i = 1 ∧
      u.topAt i = 0) ∧
    (∃ (e : Dword) (i : CoreIx) (s : State) (u : State) (n : ℕ), u = windowsCatch (s.advanceTo e) ∧ u.coreState
      i = 1 ∧ u.topAt i = n ∧ n ≠ 0) ∧
    (∃ (e : Dword) (i : CoreIx) (v : Word) (n : ℕ) (s : State) (u : State), u = s.advanceTo e ∧ s.coreState i =
      1 ∧ v.toNat = n ∧ 1 ≤ n ∧ n ≤ 1023 ∧ s.get (PST_SRC_STAT.ACTIVE n) = 1 ∧ s.get (PST_SRC_STAT.TGT n) =
      i.val) ∧
    (∃ (e : Dword) (i : CoreIx) (v : Word) (s : State) (u : State), u = s.advanceTo e ∧ s.coreState i = 1 ∧
      (v.toNat = 0 ∨ 1023 < v.toNat ∨ s.get (PST_SRC_STAT.ACTIVE v.toNat) = 0 ∨ s.get (PST_SRC_STAT.TGT v.toNat)
      ≠ i.val)) ∧
    (∃ (e : Dword) (req : Requester) (n : BitVec 16) (s : State) (u : State), u = s.advanceTo e ∧ deniedWhole
      req PST_DOORBELL (BitVec.ofNat 32 n.toNat) u = false ∧ s.rst.inst = false) ∧
    (∃ (e : Dword) (s : State), s.rst.inst = false) ∧
    (∃ (s : State), s.locked = true ∧ 2 ≤ s.takenNow.1) ∧
    (∃ (s : State), (s.locked = false ∨ s.takenNow.1 < 2)) ∧
    (∃ (s : State), s.pst.takenAt = s.tim.edges) ∧
    (∃ (s : State), s.pst.takenAt ≠ s.tim.edges) ∧
    (∃ (n : ℕ) (s : State) (v : State), (n = 0 ∨ 1023 < n) ∧ v = acceptDoorbell n s) ∧
    (∃ (n : ℕ) (s : State) (v : State), 1 ≤ n ∧ n ≤ 1023 ∧ s.get (PST_SRC_CFG.C0 n) = 0 ∧ s.get
      (PST_SRC_STAT.PEND n) = 0 ∧ s.get (PST_SRC_CFG.CG n) = 0 ∧ v = acceptDoorbell n s) ∧
    (∃ (n : ℕ) (z : State) (s : State) (v : State), 1 ≤ n ∧ n ≤ 1023 ∧ s = coalesceRelease (if z.srcC0 n then 0
      else z.get (PST_SRC_CFG.CG n)) z ∧ s.get (PST_SRC_STAT.PEND n) = 1 ∧ s.get (PST_SRC_STAT.HELD n) = 0 ∧ v =
      acceptDoorbell n z) ∧
    (∃ (s : State) (u : State) (x : ℕ), s.locked = true ∧ s.takenNow.1 < 2 ∧ s.nextDoorbell = some x ∧ u =
      { s with pst := { s.pst with port := s.pst.port.erase x, takenAt := s.tim.edges, taken := s.takenNow.1 + 1, latchTaken := s.takenNow.2 || decide (65536 ≤ x) } }
      ∧ x < 65536) ∧
    (∃ (s : State) (u : State) (x : ℕ), s.locked = true ∧ s.takenNow.1 < 2 ∧ s.nextDoorbell = some x ∧ u =
      { s with pst := { s.pst with port := s.pst.port.erase x, takenAt := s.tim.edges, taken := s.takenNow.1 + 1, latchTaken := s.takenNow.2 || decide (65536 ≤ x) } }
      ∧ 65536 ≤ x) ∧
    (∃ (s : State), (s.locked = false ∨ 2 ≤ s.takenNow.1 ∨ s.portNow = [])) ∧
    (∃ (s : State) (x : ℕ), ((s.portNow.find? fun x => decide (1 ≤ x % 65536) && decide (x % 65536 ≤ 1023) &&
      s.srcC0 (x % 65536)) = some x)) ∧
    (∃ (s : State) (x : ℕ) (rest : List ℕ), ((s.portNow.find? fun x => decide (1 ≤ x % 65536) && decide (x %
      65536 ≤ 1023) && s.srcC0 (x % 65536)) = none) ∧ s.portNow = x :: rest) ∧
    (∃ (e : Dword) (n : SourceIx) (s : State) (u : State) (v : State), n.val ≠ 0 ∧ u = s.advanceTo e ∧
      u.deliverable n = false) ∧
    (∃ (e : Dword) (n : SourceIx) (s : State) (u : State) (v : State), n.val ≠ 0 ∧ u = s.advanceTo e ∧
      u.deliverable n = true ∧ u.route n = none) ∧
    (∃ (e : Dword) (n : SourceIx) (s : State) (u : State) (v : State) (i : ℕ), n.val ≠ 0 ∧ u = s.advanceTo e ∧
      u.deliverable n = true ∧ u.route n = some i ∧ i ≠ 11 ∧ v = ((u.put (PST_SRC_STAT.BOUND n) 1).put
      (PST_SRC_STAT.TGT n) i).c0Leave n) ∧
    (∃ (e : Dword) (n : SourceIx) (s : State) (u : State) (v : State), n.val ≠ 0 ∧ u = s.advanceTo e ∧
      u.deliverable n = true ∧ u.route n = some 11 ∧ v = ((u.put (PST_SRC_STAT.BOUND n) 1).put (PST_SRC_STAT.TGT
      n) 11).c0Leave n) ∧
    (∃ (n : ℕ) (i : ℕ) (s : State) (v : State), n < 1024 ∧ i < 16 ∧ v = ((s.put (PST_SRC_STAT.BOUND n) 1).put
      (PST_SRC_STAT.TGT n) i).c0Leave n) := by
  refine ⟨?_, ?_, ?_, ?_, ?_, ?_, ?_, ?_, ?_, ?_, ?_, ?_, ?_, ?_, ?_, ?_, ?_, ?_, ?_, ?_, ?_, ?_, ?_, ?_⟩
  · refine ⟨0x123456789, 10, st [(FW_CORE.STATE (10 : CoreIx), 1)], (st [(FW_CORE.STATE (10 : CoreIx), 1)]).advanceTo (0x123456789 : Dword), ?_, ?_⟩
    · first | rfl | decide +kernel
    · first | decide +kernel | rfl
  · refine ⟨0x123456789, 10, st [(FW_CORE.STATE (10 : CoreIx), 1)], windowsCatch ((st [(FW_CORE.STATE (10 : CoreIx), 1)]).advanceTo (0x123456789 : Dword)), ?_, ?_, ?_⟩
    · first | rfl | decide +kernel
    · first | decide +kernel | rfl
    · first | decide +kernel | rfl
  · refine ⟨0x123456789, 10, st [(FW_CORE.STATE (10 : CoreIx), 1), (PST_SRC_STAT.BOUND 1023, 1), (PST_SRC_STAT.TGT 1023, 10)], windowsCatch ((st [(FW_CORE.STATE (10 : CoreIx), 1), (PST_SRC_STAT.BOUND 1023, 1), (PST_SRC_STAT.TGT 1023, 10)]).advanceTo (0x123456789 : Dword)), 1023, ?_, ?_, ?_, ?_⟩
    · first | rfl | decide +kernel
    · first | decide +kernel | rfl
    · first | decide +kernel | rfl
    · decide +kernel
  · refine ⟨0x123456789, 10, 1, 1, st [(FW_CORE.STATE (10 : CoreIx), 1), (PST_SRC_STAT.ACTIVE 1, 1), (PST_SRC_STAT.TGT 1, (10 : CoreIx).val)], (st [(FW_CORE.STATE (10 : CoreIx), 1), (PST_SRC_STAT.ACTIVE 1, 1), (PST_SRC_STAT.TGT 1, (10 : CoreIx).val)]).advanceTo (0x123456789 : Dword), ?_, ?_, ?_, ?_, ?_, ?_, ?_⟩
    · first | rfl | decide +kernel
    · first | decide +kernel | rfl
    · first | decide +kernel | rfl
    · decide +kernel
    · decide +kernel
    · first | decide +kernel | rfl
    · first | decide +kernel | rfl
  · refine ⟨0x123456789, 10, 1, st [(FW_CORE.STATE (10 : CoreIx), 1)], (st [(FW_CORE.STATE (10 : CoreIx), 1)]).advanceTo (0x123456789 : Dword), ?_, ?_, ?_⟩
    · first | rfl | decide +kernel
    · first | decide +kernel | rfl
    · decide +kernel
  · refine ⟨0x123456789, .sec, 1, { State.reset with rst := { State.reset.rst with inst := false, por := false } }, ({ State.reset with rst := { State.reset.rst with inst := false, por := false } }).advanceTo (0x123456789 : Dword), ?_, ?_, ?_⟩
    · first | rfl | decide +kernel
    · first | decide +kernel | rfl
    · first | decide +kernel | rfl
  · refine ⟨0x123456789, { State.reset with rst := { State.reset.rst with inst := false, por := false } }, ?_⟩
    · first | decide +kernel | rfl
  · refine ⟨{ st [(TIM_STAT.PLL_LOCK, 1)] with pst := { State.reset.pst with taken := 2 } }, ?_, ?_⟩
    · first | decide +kernel | rfl
    · decide +kernel
  · refine ⟨st [(TIM_STAT.PLL_LOCK, 0)], ?_⟩
    · decide +kernel
  · refine ⟨State.reset, ?_⟩
    · first | decide +kernel | rfl
  · refine ⟨{ State.reset with pst := { State.reset.pst with takenAt := 5 } }, ?_⟩
    · decide +kernel
  · refine ⟨0, State.reset, acceptDoorbell 0 State.reset, ?_, ?_⟩
    · first | rfl | decide +kernel
    · first | rfl | decide +kernel
  · refine ⟨1, st [(PST_SRC_CFG.C0 1, 0), (PST_SRC_STAT.PEND 1, 0), (PST_SRC_CFG.CG 1, 0)], acceptDoorbell 1 (st [(PST_SRC_CFG.C0 1, 0), (PST_SRC_STAT.PEND 1, 0), (PST_SRC_CFG.CG 1, 0)]), ?_, ?_, ?_, ?_, ?_, ?_⟩
    · decide +kernel
    · decide +kernel
    · first | decide +kernel | rfl
    · first | decide +kernel | rfl
    · first | decide +kernel | rfl
    · first | rfl | decide +kernel
  · refine ⟨1023, st [(PST_SRC_STAT.PEND 1023, 1), (PST_SRC_STAT.HELD 1023, 0)], coalesceRelease (if (st [(PST_SRC_STAT.PEND 1023, 1), (PST_SRC_STAT.HELD 1023, 0)]).srcC0 1023 then 0 else (st [(PST_SRC_STAT.PEND 1023, 1), (PST_SRC_STAT.HELD 1023, 0)]).get (PST_SRC_CFG.CG 1023)) (st [(PST_SRC_STAT.PEND 1023, 1), (PST_SRC_STAT.HELD 1023, 0)]), acceptDoorbell 1023 (st [(PST_SRC_STAT.PEND 1023, 1), (PST_SRC_STAT.HELD 1023, 0)]), ?_, ?_, ?_, ?_, ?_, ?_⟩
    · decide +kernel
    · decide +kernel
    · first | rfl | decide +kernel
    · first | decide +kernel | rfl
    · first | decide +kernel | rfl
    · first | rfl | decide +kernel
  · refine ⟨{ st [(TIM_STAT.PLL_LOCK, 1)] with pst := { State.reset.pst with port := [1023] } }, { ({ st [(TIM_STAT.PLL_LOCK, 1)] with pst := { State.reset.pst with port := [1023] } }) with pst := { ({ st [(TIM_STAT.PLL_LOCK, 1)] with pst := { State.reset.pst with port := [1023] } }).pst with port := ({ st [(TIM_STAT.PLL_LOCK, 1)] with pst := { State.reset.pst with port := [1023] } }).pst.port.erase 1023, takenAt := ({ st [(TIM_STAT.PLL_LOCK, 1)] with pst := { State.reset.pst with port := [1023] } }).tim.edges, taken := ({ st [(TIM_STAT.PLL_LOCK, 1)] with pst := { State.reset.pst with port := [1023] } }).takenNow.1 + 1, latchTaken := ({ st [(TIM_STAT.PLL_LOCK, 1)] with pst := { State.reset.pst with port := [1023] } }).takenNow.2 || decide (65536 ≤ 1023) } }, 1023, ?_, ?_, ?_, ?_, ?_⟩
    · first | decide +kernel | rfl
    · decide +kernel
    · first | decide +kernel | rfl
    · first | rfl | decide +kernel
    · decide +kernel
  · refine ⟨{ st [(TIM_STAT.PLL_LOCK, 1)] with pst := { State.reset.pst with port := [66559] } }, { ({ st [(TIM_STAT.PLL_LOCK, 1)] with pst := { State.reset.pst with port := [66559] } }) with pst := { ({ st [(TIM_STAT.PLL_LOCK, 1)] with pst := { State.reset.pst with port := [66559] } }).pst with port := ({ st [(TIM_STAT.PLL_LOCK, 1)] with pst := { State.reset.pst with port := [66559] } }).pst.port.erase 66559, takenAt := ({ st [(TIM_STAT.PLL_LOCK, 1)] with pst := { State.reset.pst with port := [66559] } }).tim.edges, taken := ({ st [(TIM_STAT.PLL_LOCK, 1)] with pst := { State.reset.pst with port := [66559] } }).takenNow.1 + 1, latchTaken := ({ st [(TIM_STAT.PLL_LOCK, 1)] with pst := { State.reset.pst with port := [66559] } }).takenNow.2 || decide (65536 ≤ 66559) } }, 66559, ?_, ?_, ?_, ?_, ?_⟩
    · first | decide +kernel | rfl
    · decide +kernel
    · first | decide +kernel | rfl
    · first | rfl | decide +kernel
    · decide +kernel
  · refine ⟨st [(TIM_STAT.PLL_LOCK, 0)], ?_⟩
    · decide +kernel
  · refine ⟨{ st [(PST_SRC_CFG.C0 1023, 1)] with pst := { State.reset.pst with port := [5, 1023] } }, 1023, ?_⟩
    · first | decide +kernel | rfl
  · refine ⟨{ State.reset with pst := { State.reset.pst with port := [1023, 5] } }, 1023, [5], ?_, ?_⟩
    · first | decide +kernel | rfl
    · first | decide +kernel | rfl
  · refine ⟨0x123456789, 1023, State.reset, State.reset.advanceTo (0x123456789 : Dword), State.reset, ?_, ?_, ?_⟩
    · decide +kernel
    · first | rfl | decide +kernel
    · first | decide +kernel | rfl
  · refine ⟨0x123456789, 1023, st [(PST_SRC_STAT.PEND 1023, 1), (PST_SRC_CFG.EN 1023, 1)], (st [(PST_SRC_STAT.PEND 1023, 1), (PST_SRC_CFG.EN 1023, 1)]).advanceTo (0x123456789 : Dword), State.reset, ?_, ?_, ?_, ?_⟩
    · decide +kernel
    · first | rfl | decide +kernel
    · first | decide +kernel | rfl
    · first | decide +kernel | rfl
  · refine ⟨0x123456789, 1023, st [(PST_SRC_STAT.PEND 1023, 1), (PST_SRC_CFG.EN 1023, 1), (PST_SRC_CFG.TMASK 1023, 1024), (FW_CORE.STATE 10, 1)], (st [(PST_SRC_STAT.PEND 1023, 1), (PST_SRC_CFG.EN 1023, 1), (PST_SRC_CFG.TMASK 1023, 1024), (FW_CORE.STATE 10, 1)]).advanceTo (0x123456789 : Dword), ((((st [(PST_SRC_STAT.PEND 1023, 1), (PST_SRC_CFG.EN 1023, 1), (PST_SRC_CFG.TMASK 1023, 1024), (FW_CORE.STATE 10, 1)]).advanceTo (0x123456789 : Dword)).put (PST_SRC_STAT.BOUND (1023 : SourceIx)) 1).put (PST_SRC_STAT.TGT (1023 : SourceIx)) 10).c0Leave (1023 : SourceIx), 10, ?_, ?_, ?_, ?_, ?_, ?_⟩
    · decide +kernel
    · first | rfl | decide +kernel
    · first | decide +kernel | rfl
    · first | decide +kernel | rfl
    · decide +kernel
    · first | rfl | decide +kernel
  · refine ⟨0x123456789, 1023, st [(PST_SRC_STAT.PEND 1023, 1), (PST_SRC_CFG.EN 1023, 1), (PST_SRC_CFG.TMASK 1023, 2048)], (st [(PST_SRC_STAT.PEND 1023, 1), (PST_SRC_CFG.EN 1023, 1), (PST_SRC_CFG.TMASK 1023, 2048)]).advanceTo (0x123456789 : Dword), ((((st [(PST_SRC_STAT.PEND 1023, 1), (PST_SRC_CFG.EN 1023, 1), (PST_SRC_CFG.TMASK 1023, 2048)]).advanceTo (0x123456789 : Dword)).put (PST_SRC_STAT.BOUND (1023 : SourceIx)) 1).put (PST_SRC_STAT.TGT (1023 : SourceIx)) 11).c0Leave (1023 : SourceIx), ?_, ?_, ?_, ?_, ?_⟩
    · decide +kernel
    · first | rfl | decide +kernel
    · first | decide +kernel | rfl
    · first | decide +kernel | rfl
    · first | rfl | decide +kernel
  · refine ⟨1, 1, State.reset, ((State.reset.put (PST_SRC_STAT.BOUND 1) 1).put (PST_SRC_STAT.TGT 1) 1).c0Leave 1, ?_, ?_, ?_⟩
    · decide +kernel
    · decide +kernel
    · first | rfl | decide +kernel

/-- States and operands that meet the hypotheses of InterruptControllerCommandsComplete (part 2). -/
theorem witness_InterruptControllerCommandsComplete_2 :
    (∃ (i : ℕ) (s : State), i < 11 ∧ s.coreState i = 3 ∧ s.meip i = true) ∧
    (∃ (i : ℕ) (s : State), i < 11 ∧ (s.coreState i ≠ 3 ∨ s.meip i = false)) ∧
    (∃ (s : State) (n : ℕ), (s.get (PST_SRC_STAT.PEND n) = 0 ∨ s.get (PST_SRC_STAT.HELD n) = 1 ∨ s.get
      (PST_SRC_STAT.BOUND n) = 1 ∨ s.get (PST_SRC_STAT.ACTIVE n) = 1 ∨ s.get (PST_SRC_CFG.EN n) = 0 ∨ (s.get
      PST_CTRL.GDIS = 1 ∧ s.get (PST_SRC_CFG.C0 n) = 0))) ∧
    (∃ (s : State) (n : ℕ) (i : ℕ), i ≠ 11 ∧ s.route n = some i) ∧
    (∃ (s : State) (n : ℕ) (i : ℕ) (j : ℕ), i ≠ 11 ∧ s.route n = some i ∧ j < 11 ∧ s.eligible n j = true) ∧
    (∃ (e : Dword) (c : Fin 16) (s : State) (u : State) (y : State), c.val ≠ 0 ∧ u = s.advanceTo e ∧ y = (if
      u.coalesceDue c then u else u.advanceTo (BitVec.ofNat 64 (u.coalesceEnd c))) ∧ u.get (PST_CG_STAT.OPEN c)
      = 1 ∧ y.coalesceDue c = true) ∧
    (∃ (e : Dword) (c : Fin 16) (s : State) (u : State) (y : State), c.val ≠ 0 ∧ u = s.advanceTo e ∧ y = (if
      u.coalesceDue c then u else u.advanceTo (BitVec.ofNat 64 (u.coalesceEnd c))) ∧ u.get (PST_CG_STAT.OPEN c)
      = 0) ∧
    (∃ (l : List ℕ) (s : State) (t : State) (n : ℕ), (t = s.each l (fun s n => s.put (PST_SRC_STAT.HELD n) 0)) ∧
      n ∈ l) ∧
    (∃ (l : List ℕ) (s : State) (t : State) (n : ℕ), (t = s.each l (fun s n => s.put (PST_SRC_STAT.HELD n) 0))) ∧
    (∃ (l : List ℕ) (s : State) (t : State) (a : ℕ), (t = s.each l (fun s n => s.put (PST_SRC_STAT.HELD n) 0)) ∧
      (∀ n ∈ l, a ≠ PST_SRC_STAT n)) ∧
    (∃ (n : ℕ) (s : State) (t : State), t = unbind n s) ∧
    (∃ (n : ℕ) (s : State) (t : State), t = unbind n s ∧ s.get (PST_SRC_STAT.ACTIVE n) = 0) ∧
    (∃ (n : ℕ) (s : State) (t : State), t = unbind n s ∧ s.get (PST_SRC_STAT.ACTIVE n) = 1) ∧
    (∃ (e : Dword) (s : State) (u : State), u = windowsCatch (s.advanceTo e) ∧ s.rst.inst = true) ∧
    (∃ (e : Dword) (s : State) (u : State), u = windowsCatch (s.advanceTo e) ∧ s.rst.inst = false ∧ u.topAt 11 =
      0) ∧
    (∃ (e : Dword) (s : State) (u : State) (n : ℕ), u = windowsCatch (s.advanceTo e) ∧ s.rst.inst = false ∧
      u.topAt 11 = n ∧ n ≠ 0) ∧
    (∃ (req : Requester) (n : SourceIx) (v : Word) (s : State) (u : State) (w : State), n.val ≠ 0 ∧ s.Permits
      req (PST_SRC_CFG n) v ∧ s.get (PST_SRC_CFG.C0 n) = 0 ∧ u = storeReg (PST_SRC_CFG n) v s ∧ u.get
      (PST_SRC_CFG.C0 n) = 0 ∧ w = (if s.get (PST_SRC_CFG.CG n) = u.get (PST_SRC_CFG.CG n) then u else u.put
      (PST_SRC_STAT.HELD n) 0)) ∧
    (∃ (n : ℕ) (s : State), s.get (PST_SRC_STAT.BOUND n) = 1 ∧ ((s.pst.windows.any fun e => e.1 == n) = false)) ∧
    (∃ (n : ℕ) (s : State), (s.get (PST_SRC_STAT.BOUND n) = 0 ∨ (s.pst.windows.any fun e => e.1 == n) = true)) ∧
    (∃ (e : Dword) (n : SourceIx) (s : State) (u : State) (y : State) (x : ℕ × ℕ), u = s.advanceTo e ∧
      ((u.pst.windows.find? fun e => e.1 == n.val) = some x) ∧ (y = (if u.locked = true ∧ u.tim.edges < x.2 + 16
      then u.passEdges (x.2 + 16 - u.tim.edges) else u)) ∧ u.locked = false ∧ u.tim.edges < x.2 + 16) ∧
    (∃ (e : Dword) (n : SourceIx) (s : State) (u : State) (y : State) (x : ℕ × ℕ), u = s.advanceTo e ∧
      ((u.pst.windows.find? fun e => e.1 == n.val) = some x) ∧ (y = (if u.locked = true ∧ u.tim.edges < x.2 + 16
      then u.passEdges (x.2 + 16 - u.tim.edges) else u)) ∧ x.2 + 16 ≤ y.tim.edges ∧ s.get (PST_SRC_STAT.BOUND n)
      = 1) ∧
    (∃ (e : Dword) (n : SourceIx) (s : State) (u : State) (y : State) (x : ℕ × ℕ), u = s.advanceTo e ∧
      ((u.pst.windows.find? fun e => e.1 == n.val) = some x) ∧ (y = (if u.locked = true ∧ u.tim.edges < x.2 + 16
      then u.passEdges (x.2 + 16 - u.tim.edges) else u)) ∧ x.2 + 16 ≤ y.tim.edges ∧ s.get (PST_SRC_STAT.BOUND n)
      = 0) ∧
    (∃ (req : Requester) (n : SourceIx) (v : Word) (s : State), n.val ≠ 0 ∧ s.Permits req (PST_SRC_STAT n) v ∧
      v.getLsbD 31 = false) ∧
    (∃ (req : Requester) (n : SourceIx) (v : Word) (s : State), n.val ≠ 0 ∧ s.Permits req (PST_SRC_STAT n) v ∧
      v.getLsbD 31 = true) := by
  refine ⟨?_, ?_, ?_, ?_, ?_, ?_, ?_, ?_, ?_, ?_, ?_, ?_, ?_, ?_, ?_, ?_, ?_, ?_, ?_, ?_, ?_, ?_, ?_, ?_⟩
  · refine ⟨10, st [(FW_CORE.STATE 10, 3), (PST_SRC_STAT.BOUND 1023, 1), (PST_SRC_STAT.TGT 1023, 10), (FW_CORE.STATE 10, 3)], ?_, ?_, ?_⟩
    · decide +kernel
    · first | decide +kernel | rfl
    · first | decide +kernel | rfl
  · refine ⟨1, st [(FW_CORE.STATE 1, 0)], ?_, ?_⟩
    · decide +kernel
    · decide +kernel
  · refine ⟨st [(PST_SRC_STAT.PEND 1, 0)], 1, ?_⟩
    · decide +kernel
  · refine ⟨st [(PST_SRC_CFG.TMASK 1023, 1024), (FW_CORE.STATE 10, 1)], 1023, 10, ?_, ?_⟩
    · decide +kernel
    · first | decide +kernel | rfl
  · refine ⟨st [(PST_SRC_CFG.TMASK 1023, 1024), (FW_CORE.STATE 10, 1)], 1023, 10, 10, ?_, ?_, ?_, ?_⟩
    · decide +kernel
    · first | decide +kernel | rfl
    · decide +kernel
    · first | decide +kernel | rfl
  · refine ⟨0x123456789, 15, { st [(PST_CG_STAT.OPEN (15 : Fin 16), 1), (PST_CG_STAT.OPEN 15, 1), (TIM_STAT.PLL_LOCK, 1)] with rst := { State.reset.rst with inst := false, por := false } }, ({ st [(PST_CG_STAT.OPEN (15 : Fin 16), 1), (PST_CG_STAT.OPEN 15, 1), (TIM_STAT.PLL_LOCK, 1)] with rst := { State.reset.rst with inst := false, por := false } }).advanceTo (0x123456789 : Dword), (if (({ st [(PST_CG_STAT.OPEN (15 : Fin 16), 1), (PST_CG_STAT.OPEN 15, 1), (TIM_STAT.PLL_LOCK, 1)] with rst := { State.reset.rst with inst := false, por := false } }).advanceTo (0x123456789 : Dword)).coalesceDue (15 : Fin 16) then (({ st [(PST_CG_STAT.OPEN (15 : Fin 16), 1), (PST_CG_STAT.OPEN 15, 1), (TIM_STAT.PLL_LOCK, 1)] with rst := { State.reset.rst with inst := false, por := false } }).advanceTo (0x123456789 : Dword)) else (({ st [(PST_CG_STAT.OPEN (15 : Fin 16), 1), (PST_CG_STAT.OPEN 15, 1), (TIM_STAT.PLL_LOCK, 1)] with rst := { State.reset.rst with inst := false, por := false } }).advanceTo (0x123456789 : Dword)).advanceTo (BitVec.ofNat 64 ((({ st [(PST_CG_STAT.OPEN (15 : Fin 16), 1), (PST_CG_STAT.OPEN 15, 1), (TIM_STAT.PLL_LOCK, 1)] with rst := { State.reset.rst with inst := false, por := false } }).advanceTo (0x123456789 : Dword)).coalesceEnd (15 : Fin 16)))), ?_, ?_, ?_, ?_, ?_⟩
    · decide +kernel
    · first | rfl | decide +kernel
    · first | rfl | decide +kernel
    · first | decide +kernel | rfl
    · first | decide +kernel | rfl
  · refine ⟨0x123456789, 15, st [(PST_CG_STAT.OPEN (15 : Fin 16), 0)], (st [(PST_CG_STAT.OPEN (15 : Fin 16), 0)]).advanceTo (0x123456789 : Dword), (if ((st [(PST_CG_STAT.OPEN (15 : Fin 16), 0)]).advanceTo (0x123456789 : Dword)).coalesceDue (15 : Fin 16) then ((st [(PST_CG_STAT.OPEN (15 : Fin 16), 0)]).advanceTo (0x123456789 : Dword)) else ((st [(PST_CG_STAT.OPEN (15 : Fin 16), 0)]).advanceTo (0x123456789 : Dword)).advanceTo (BitVec.ofNat 64 (((st [(PST_CG_STAT.OPEN (15 : Fin 16), 0)]).advanceTo (0x123456789 : Dword)).coalesceEnd (15 : Fin 16)))), ?_, ?_, ?_, ?_⟩
    · decide +kernel
    · first | rfl | decide +kernel
    · first | rfl | decide +kernel
    · first | decide +kernel | rfl
  · refine ⟨[1, 1023], State.reset, (State.reset.each [1, 1023] fun s n => s.put (PST_SRC_STAT.HELD n) 0), 1023, ?_, ?_⟩
    · first | rfl | decide +kernel
    · decide +kernel
  · refine ⟨[1, 1023], State.reset, (State.reset.each [1, 1023] fun s n => s.put (PST_SRC_STAT.HELD n) 0), 5, ?_⟩
    · first | rfl | decide +kernel
  · refine ⟨[1, 1023], State.reset, (State.reset.each [1, 1023] fun s n => s.put (PST_SRC_STAT.HELD n) 0), 0, ?_, ?_⟩
    · first | rfl | decide +kernel
    · decide +kernel
  · refine ⟨1, State.reset, unbind 1 State.reset, ?_⟩
    · first | rfl | decide +kernel
  · refine ⟨1, st [(PST_SRC_STAT.ACTIVE 1, 0)], unbind 1 (st [(PST_SRC_STAT.ACTIVE 1, 0)]), ?_, ?_⟩
    · first | rfl | decide +kernel
    · first | decide +kernel | rfl
  · refine ⟨1, st [(PST_SRC_STAT.ACTIVE 1, 1)], unbind 1 (st [(PST_SRC_STAT.ACTIVE 1, 1)]), ?_, ?_⟩
    · first | rfl | decide +kernel
    · first | decide +kernel | rfl
  · refine ⟨0, { State.reset with pst := { State.reset.pst with windows := [(1023, 5)] }, rst := { State.reset.rst with inst := true } }, windowsCatch (({ State.reset with pst := { State.reset.pst with windows := [(1023, 5)] }, rst := { State.reset.rst with inst := true } }).advanceTo (0 : Dword)), ?_, ?_⟩
    · first | rfl | decide +kernel
    · first | decide +kernel | rfl
  · refine ⟨0x123456789, { State.reset with pst := { State.reset.pst with windows := [(1023, 5)] }, tim := { State.reset.tim with edges := 21 }, rst := { State.reset.rst with inst := false, por := false } }, windowsCatch (({ State.reset with pst := { State.reset.pst with windows := [(1023, 5)] }, tim := { State.reset.tim with edges := 21 }, rst := { State.reset.rst with inst := false, por := false } }).advanceTo (0x123456789 : Dword)), ?_, ?_, ?_⟩
    · first | rfl | decide +kernel
    · first | decide +kernel | rfl
    · first | decide +kernel | rfl
  · refine ⟨0x123456789, { st [(PST_SRC_STAT.BOUND 1023, 1), (PST_SRC_STAT.TGT 1023, 11)] with rst := { State.reset.rst with inst := false, por := false } }, windowsCatch (({ st [(PST_SRC_STAT.BOUND 1023, 1), (PST_SRC_STAT.TGT 1023, 11)] with rst := { State.reset.rst with inst := false, por := false } }).advanceTo (0x123456789 : Dword)), 1023, ?_, ?_, ?_, ?_⟩
    · first | rfl | decide +kernel
    · first | decide +kernel | rfl
    · first | decide +kernel | rfl
    · decide +kernel
  · refine ⟨.sec, 1023, 1, { st [(PST_SRC_CFG.C0 (1023 : SourceIx), 0)] with rst := { State.reset.rst with inst := false, por := false } }, storeReg (PST_SRC_CFG (1023 : SourceIx)) (1 : Word) ({ st [(PST_SRC_CFG.C0 (1023 : SourceIx), 0)] with rst := { State.reset.rst with inst := false, por := false } }), (if ({ st [(PST_SRC_CFG.C0 (1023 : SourceIx), 0)] with rst := { State.reset.rst with inst := false, por := false } }).get (PST_SRC_CFG.CG (1023 : SourceIx)) = (storeReg (PST_SRC_CFG (1023 : SourceIx)) (1 : Word) ({ st [(PST_SRC_CFG.C0 (1023 : SourceIx), 0)] with rst := { State.reset.rst with inst := false, por := false } })).get (PST_SRC_CFG.CG (1023 : SourceIx)) then (storeReg (PST_SRC_CFG (1023 : SourceIx)) (1 : Word) ({ st [(PST_SRC_CFG.C0 (1023 : SourceIx), 0)] with rst := { State.reset.rst with inst := false, por := false } })) else (storeReg (PST_SRC_CFG (1023 : SourceIx)) (1 : Word) ({ st [(PST_SRC_CFG.C0 (1023 : SourceIx), 0)] with rst := { State.reset.rst with inst := false, por := false } })).put (PST_SRC_STAT.HELD (1023 : SourceIx)) 0), ?_, ?_, ?_, ?_, ?_, ?_⟩
    · decide +kernel
    · exact permits_of (by decide +kernel)
    · first | decide +kernel | rfl
    · first | rfl | decide +kernel
    · first | decide +kernel | rfl
    · first | rfl | decide +kernel
  · refine ⟨1, st [(PST_SRC_STAT.BOUND 1, 1)], ?_, ?_⟩
    · first | decide +kernel | rfl
    · first | decide +kernel | rfl
  · refine ⟨1, st [(PST_SRC_STAT.BOUND 1, 0)], ?_⟩
    · decide +kernel
  · refine ⟨0x123456789, 1023, { st [(TIM_STAT.PLL_LOCK, 0)] with pst := { State.reset.pst with windows := [(1023, 5)] } }, ({ st [(TIM_STAT.PLL_LOCK, 0)] with pst := { State.reset.pst with windows := [(1023, 5)] } }).advanceTo (0x123456789 : Dword), (if (({ st [(TIM_STAT.PLL_LOCK, 0)] with pst := { State.reset.pst with windows := [(1023, 5)] } }).advanceTo (0x123456789 : Dword)).locked = true ∧ (({ st [(TIM_STAT.PLL_LOCK, 0)] with pst := { State.reset.pst with windows := [(1023, 5)] } }).advanceTo (0x123456789 : Dword)).tim.edges < (1023, 5).2 + 16 then (({ st [(TIM_STAT.PLL_LOCK, 0)] with pst := { State.reset.pst with windows := [(1023, 5)] } }).advanceTo (0x123456789 : Dword)).passEdges ((1023, 5).2 + 16 - (({ st [(TIM_STAT.PLL_LOCK, 0)] with pst := { State.reset.pst with windows := [(1023, 5)] } }).advanceTo (0x123456789 : Dword)).tim.edges) else (({ st [(TIM_STAT.PLL_LOCK, 0)] with pst := { State.reset.pst with windows := [(1023, 5)] } }).advanceTo (0x123456789 : Dword))), (1023, 5), ?_, ?_, ?_, ?_, ?_⟩
    · first | rfl | decide +kernel
    · first | decide +kernel | rfl
    · first | rfl | decide +kernel
    · first | decide +kernel | rfl
    · decide +kernel
  · refine ⟨0x123456789, 1023, { st [(PST_SRC_STAT.BOUND (1023 : SourceIx), 1), (TIM_STAT.PLL_LOCK, 1), (PST_SRC_STAT.BOUND 1023, 1)] with pst := { State.reset.pst with windows := [(1023, 5)] }, rst := { State.reset.rst with inst := false, por := false } }, ({ st [(PST_SRC_STAT.BOUND (1023 : SourceIx), 1), (TIM_STAT.PLL_LOCK, 1), (PST_SRC_STAT.BOUND 1023, 1)] with pst := { State.reset.pst with windows := [(1023, 5)] }, rst := { State.reset.rst with inst := false, por := false } }).advanceTo (0x123456789 : Dword), (if (({ st [(PST_SRC_STAT.BOUND (1023 : SourceIx), 1), (TIM_STAT.PLL_LOCK, 1), (PST_SRC_STAT.BOUND 1023, 1)] with pst := { State.reset.pst with windows := [(1023, 5)] }, rst := { State.reset.rst with inst := false, por := false } }).advanceTo (0x123456789 : Dword)).locked = true ∧ (({ st [(PST_SRC_STAT.BOUND (1023 : SourceIx), 1), (TIM_STAT.PLL_LOCK, 1), (PST_SRC_STAT.BOUND 1023, 1)] with pst := { State.reset.pst with windows := [(1023, 5)] }, rst := { State.reset.rst with inst := false, por := false } }).advanceTo (0x123456789 : Dword)).tim.edges < (1023, 5).2 + 16 then (({ st [(PST_SRC_STAT.BOUND (1023 : SourceIx), 1), (TIM_STAT.PLL_LOCK, 1), (PST_SRC_STAT.BOUND 1023, 1)] with pst := { State.reset.pst with windows := [(1023, 5)] }, rst := { State.reset.rst with inst := false, por := false } }).advanceTo (0x123456789 : Dword)).passEdges ((1023, 5).2 + 16 - (({ st [(PST_SRC_STAT.BOUND (1023 : SourceIx), 1), (TIM_STAT.PLL_LOCK, 1), (PST_SRC_STAT.BOUND 1023, 1)] with pst := { State.reset.pst with windows := [(1023, 5)] }, rst := { State.reset.rst with inst := false, por := false } }).advanceTo (0x123456789 : Dword)).tim.edges) else (({ st [(PST_SRC_STAT.BOUND (1023 : SourceIx), 1), (TIM_STAT.PLL_LOCK, 1), (PST_SRC_STAT.BOUND 1023, 1)] with pst := { State.reset.pst with windows := [(1023, 5)] }, rst := { State.reset.rst with inst := false, por := false } }).advanceTo (0x123456789 : Dword))), (1023, 5), ?_, ?_, ?_, ?_, ?_⟩
    · first | rfl | decide +kernel
    · first | decide +kernel | rfl
    · first | rfl | decide +kernel
    · decide +kernel
    · first | decide +kernel | rfl
  · refine ⟨0x123456789, 1023, { st [(PST_SRC_STAT.BOUND (1023 : SourceIx), 0), (TIM_STAT.PLL_LOCK, 1), (PST_SRC_STAT.BOUND 1023, 0)] with pst := { State.reset.pst with windows := [(1023, 5)] }, rst := { State.reset.rst with inst := false, por := false } }, ({ st [(PST_SRC_STAT.BOUND (1023 : SourceIx), 0), (TIM_STAT.PLL_LOCK, 1), (PST_SRC_STAT.BOUND 1023, 0)] with pst := { State.reset.pst with windows := [(1023, 5)] }, rst := { State.reset.rst with inst := false, por := false } }).advanceTo (0x123456789 : Dword), (if (({ st [(PST_SRC_STAT.BOUND (1023 : SourceIx), 0), (TIM_STAT.PLL_LOCK, 1), (PST_SRC_STAT.BOUND 1023, 0)] with pst := { State.reset.pst with windows := [(1023, 5)] }, rst := { State.reset.rst with inst := false, por := false } }).advanceTo (0x123456789 : Dword)).locked = true ∧ (({ st [(PST_SRC_STAT.BOUND (1023 : SourceIx), 0), (TIM_STAT.PLL_LOCK, 1), (PST_SRC_STAT.BOUND 1023, 0)] with pst := { State.reset.pst with windows := [(1023, 5)] }, rst := { State.reset.rst with inst := false, por := false } }).advanceTo (0x123456789 : Dword)).tim.edges < (1023, 5).2 + 16 then (({ st [(PST_SRC_STAT.BOUND (1023 : SourceIx), 0), (TIM_STAT.PLL_LOCK, 1), (PST_SRC_STAT.BOUND 1023, 0)] with pst := { State.reset.pst with windows := [(1023, 5)] }, rst := { State.reset.rst with inst := false, por := false } }).advanceTo (0x123456789 : Dword)).passEdges ((1023, 5).2 + 16 - (({ st [(PST_SRC_STAT.BOUND (1023 : SourceIx), 0), (TIM_STAT.PLL_LOCK, 1), (PST_SRC_STAT.BOUND 1023, 0)] with pst := { State.reset.pst with windows := [(1023, 5)] }, rst := { State.reset.rst with inst := false, por := false } }).advanceTo (0x123456789 : Dword)).tim.edges) else (({ st [(PST_SRC_STAT.BOUND (1023 : SourceIx), 0), (TIM_STAT.PLL_LOCK, 1), (PST_SRC_STAT.BOUND 1023, 0)] with pst := { State.reset.pst with windows := [(1023, 5)] }, rst := { State.reset.rst with inst := false, por := false } }).advanceTo (0x123456789 : Dword))), (1023, 5), ?_, ?_, ?_, ?_, ?_⟩
    · first | rfl | decide +kernel
    · first | decide +kernel | rfl
    · first | rfl | decide +kernel
    · decide +kernel
    · first | decide +kernel | rfl
  · refine ⟨.sec, 1023, 1, { State.reset with rst := { State.reset.rst with inst := false, por := false } }, ?_, ?_, ?_⟩
    · decide +kernel
    · exact permits_of (by decide +kernel)
    · first | decide +kernel | rfl
  · refine ⟨.sec, 1023, 0x80000000, { State.reset with rst := { State.reset.rst with inst := false, por := false } }, ?_, ?_, ?_⟩
    · decide +kernel
    · exact permits_of (by decide +kernel)
    · first | decide +kernel | rfl

/-- States and operands that meet the hypotheses of InterruptControllerCommandsComplete (part 3). -/
theorem witness_InterruptControllerCommandsComplete_3 :
    (∃ (req : Requester) (v : Word) (s : State) (u : State), s.Permits req PST_CTRL v ∧ u = storeReg PST_CTRL v
      s ∧ (s.get PST_CTRL.GDIS = 1 ∨ u.get PST_CTRL.GDIS = 0)) ∧
    (∃ (req : Requester) (v : Word) (s : State) (u : State), s.Permits req PST_CTRL v ∧ u = storeReg PST_CTRL v
      s ∧ s.get PST_CTRL.GDIS = 0 ∧ u.get PST_CTRL.GDIS = 1) ∧
    (∃ (e : Dword) (k : Fin 32) (rising : Bool) (s : State) (u : State), u = s.advanceTo e ∧ (s.get (PST_EDGE.EN
      k) = 0 ∨ k.val = 7 ∨ s.get (PST_EDGE.POL k) = 3 ∨ (s.get (PST_EDGE.POL k) = 0 ∧ rising = false) ∨ (s.get
      (PST_EDGE.POL k) = 1 ∧ rising = true))) ∧
    (∃ (e : Dword) (k : Fin 32) (s : State) (u : State) (rising : Bool), u = s.advanceTo e ∧ s.get (PST_EDGE.EN
      k) = 1 ∧ k.val ≠ 7 ∧ s.get (PST_EDGE.POL k) = 2 ∧ s.get (PST_EDGE.WAKE k) = 0 ∧ s.get (PST_EDGE.LATCHED k)
      = 0 ∧ s.locked = true ∧ s.rst.inst = false) ∧
    (∃ (e : Dword) (k : Fin 32) (s : State) (u : State) (rising : Bool), u = s.advanceTo e ∧ s.get (PST_EDGE.EN
      k) = 1 ∧ k.val ≠ 7 ∧ s.get (PST_EDGE.POL k) = 2 ∧ s.get (PST_EDGE.WAKE k) = 0 ∧ s.get (PST_EDGE.LATCHED k)
      = 0 ∧ (s.locked = false ∨ s.rst.inst = true)) ∧
    (∃ (e : Dword) (k : Fin 32) (s : State) (u : State) (rising : Bool), u = s.advanceTo e ∧ s.get (PST_EDGE.EN
      k) = 1 ∧ k.val ≠ 7 ∧ s.get (PST_EDGE.POL k) = 2 ∧ s.get (PST_EDGE.WAKE k) = 0 ∧ s.get (PST_EDGE.LATCHED k)
      = 1) := by
  refine ⟨?_, ?_, ?_, ?_, ?_, ?_⟩
  · refine ⟨.sec, 1, { st [(PST_CTRL.GDIS, 1)] with rst := { State.reset.rst with inst := false, por := false } }, storeReg PST_CTRL (1 : Word) ({ st [(PST_CTRL.GDIS, 1)] with rst := { State.reset.rst with inst := false, por := false } }), ?_, ?_, ?_⟩
    · exact permits_of (by decide +kernel)
    · first | rfl | decide +kernel
    · decide +kernel
  · refine ⟨.sec, 1, { st [(PST_CTRL.GDIS, 0)] with rst := { State.reset.rst with inst := false, por := false } }, storeReg PST_CTRL (1 : Word) ({ st [(PST_CTRL.GDIS, 0)] with rst := { State.reset.rst with inst := false, por := false } }), ?_, ?_, ?_, ?_⟩
    · exact permits_of (by decide +kernel)
    · first | rfl | decide +kernel
    · first | decide +kernel | rfl
    · first | decide +kernel | rfl
  · refine ⟨0x123456789, 31, true, st [(PST_EDGE.EN (31 : Fin 32), 0)], (st [(PST_EDGE.EN (31 : Fin 32), 0)]).advanceTo (0x123456789 : Dword), ?_, ?_⟩
    · first | rfl | decide +kernel
    · decide +kernel
  · refine ⟨0x123456789, 31, { st [(PST_EDGE.EN (31 : Fin 32), 1), (PST_EDGE.POL (31 : Fin 32), 2), (PST_EDGE.WAKE (31 : Fin 32), 0), (PST_EDGE.LATCHED (31 : Fin 32), 0), (TIM_STAT.PLL_LOCK, 1)] with rst := { State.reset.rst with inst := false, por := false } }, ({ st [(PST_EDGE.EN (31 : Fin 32), 1), (PST_EDGE.POL (31 : Fin 32), 2), (PST_EDGE.WAKE (31 : Fin 32), 0), (PST_EDGE.LATCHED (31 : Fin 32), 0), (TIM_STAT.PLL_LOCK, 1)] with rst := { State.reset.rst with inst := false, por := false } }).advanceTo (0x123456789 : Dword), true, ?_, ?_, ?_, ?_, ?_, ?_, ?_, ?_⟩
    · first | rfl | decide +kernel
    · first | decide +kernel | rfl
    · decide +kernel
    · first | decide +kernel | rfl
    · first | decide +kernel | rfl
    · first | decide +kernel | rfl
    · first | decide +kernel | rfl
    · first | decide +kernel | rfl
  · refine ⟨0x123456789, 31, st [(PST_EDGE.EN (31 : Fin 32), 1), (PST_EDGE.POL (31 : Fin 32), 2), (PST_EDGE.WAKE (31 : Fin 32), 0), (PST_EDGE.LATCHED (31 : Fin 32), 0), (TIM_STAT.PLL_LOCK, 0)], (st [(PST_EDGE.EN (31 : Fin 32), 1), (PST_EDGE.POL (31 : Fin 32), 2), (PST_EDGE.WAKE (31 : Fin 32), 0), (PST_EDGE.LATCHED (31 : Fin 32), 0), (TIM_STAT.PLL_LOCK, 0)]).advanceTo (0x123456789 : Dword), true, ?_, ?_, ?_, ?_, ?_, ?_, ?_⟩
    · first | rfl | decide +kernel
    · first | decide +kernel | rfl
    · decide +kernel
    · first | decide +kernel | rfl
    · first | decide +kernel | rfl
    · first | decide +kernel | rfl
    · decide +kernel
  · refine ⟨0x123456789, 31, st [(PST_EDGE.EN (31 : Fin 32), 1), (PST_EDGE.POL (31 : Fin 32), 2), (PST_EDGE.WAKE (31 : Fin 32), 0), (PST_EDGE.LATCHED (31 : Fin 32), 1)], (st [(PST_EDGE.EN (31 : Fin 32), 1), (PST_EDGE.POL (31 : Fin 32), 2), (PST_EDGE.WAKE (31 : Fin 32), 0), (PST_EDGE.LATCHED (31 : Fin 32), 1)]).advanceTo (0x123456789 : Dword), true, ?_, ?_, ?_, ?_, ?_, ?_⟩
    · first | rfl | decide +kernel
    · first | decide +kernel | rfl
    · decide +kernel
    · first | decide +kernel | rfl
    · first | decide +kernel | rfl
    · first | decide +kernel | rfl

/-- States and operands that meet the hypotheses of MailCoachCommandsComplete. -/
theorem witness_MailCoachCommandsComplete :
    (∃ (e : Dword) (req : Requester) (c : Fin 32) (s : State) (u : State), u = fillTimeout c (s.advanceTo e) ∧
      s.rst.inst = false ∧ u.chState c = 0 ∧ u.get (MCH_CH_CFG.EN c) = 1) ∧
    (∃ (e : Dword) (req : Requester) (c : Fin 32) (s : State) (u : State), u = fillTimeout c (s.advanceTo e) ∧
      s.rst.inst = false ∧ (u.chState c ≠ 0 ∨ u.get (MCH_CH_CFG.EN c) = 0)) ∧
    (∃ (e : Dword) (req : Requester) (c : Fin 32) (s : State), s.rst.inst = true) ∧
    (∃ (e : Dword) (req : Requester) (c : Fin 32) (esrc : BitVec 10) (s : State) (z : State) (u : State) (v :
      BitVec 32), z = s.advanceTo e ∧ u = fillTimeout c z ∧ v = BitVec.ofNat 32 (esrc.toNat * 65536 + 1) ∧
      z.Permits req (MCH_CH_CTL c) v ∧ u.ownsCh req c = true ∧ (esrc.toNat = 0 ∨ 608 ≤ esrc.toNat)) ∧
    (∃ (e : Dword) (req : Requester) (c : Fin 32) (esrc : BitVec 10) (s : State) (z : State) (u : State) (v :
      BitVec 32), z = s.advanceTo e ∧ u = fillTimeout c z ∧ v = BitVec.ofNat 32 (esrc.toNat * 65536 + 1) ∧
      z.Permits req (MCH_CH_CTL c) v ∧ (u.ownsCh req c = false ∨ (1 ≤ esrc.toNat ∧ esrc.toNat < 608))) ∧
    (∃ (req : Requester) (c : Fin 32) (z : State) (s : State) (r : ℕ), z.Permits req (MCH_CH_CTL c) 2 ∧ s =
      fillTimeout c z ∧ r = s.get (MCH_CH_CFG.RCV c) ∧ s.chState c = 2 ∧ s.receivesCh req c = true) ∧
    (∃ (req : Requester) (c : Fin 32) (z : State) (s : State) (r : ℕ), z.Permits req (MCH_CH_CTL c) 2 ∧ s =
      fillTimeout c z ∧ r = s.get (MCH_CH_CFG.RCV c) ∧ (s.chState c ≠ 2 ∨ s.receivesCh req c = false)) ∧
    (∃ (req : Requester) (c : Fin 32) (z : State) (s : State), z.Permits req (MCH_CH_CTL c) 4 ∧ s = fillTimeout
      c z ∧ s.ownsCh req c = true) ∧
    (∃ (req : Requester) (c : Fin 32) (z : State) (s : State), z.Permits req (MCH_CH_CTL c) 4 ∧ s = fillTimeout
      c z ∧ s.ownsCh req c = false) ∧
    (∃ (e : Dword) (c : Fin 32) (s : State) (u : State), u = s.advanceTo e ∧ u.chState c = 1) ∧
    (∃ (e : Dword) (c : Fin 32) (s : State) (u : State), u = s.advanceTo e ∧ u.chState c ≠ 1) ∧
    (∃ (c : Fin 32) (s : State) (t : State), t = fillTimeout c s ∧ s.chState c = 1 ∧ s.fillEnd c ≤ s.now) ∧
    (∃ (c : Fin 32) (s : State) (t : State), t = fillTimeout c s ∧ (s.chState c ≠ 1 ∨ s.now < s.fillEnd c)) ∧
    (∃ (c : Fin 32) (s : State) (t : State), t = fillTimeout c s) ∧
    (∃ (req : Requester) (c : Fin 32) (v : Word) (z : State) (s : State), z.Permits req (MCH_CH_CFG c) v ∧ s =
      fillTimeout c z ∧ s.chState c = 0) ∧
    (∃ (req : Requester) (c : Fin 32) (v : Word) (z : State) (s : State), z.Permits req (MCH_CH_CFG c) v ∧ s =
      fillTimeout c z ∧ s.chState c ≠ 0) ∧
    (∃ (req : Requester) (c : Fin 32) (w : Fin 16) (v : Word) (z : State) (s : State), z.Permits req (MCH_SLOT c
      w) v ∧ s = fillTimeout c z ∧ s.ownsCh req c = true) ∧
    (∃ (req : Requester) (c : Fin 32) (w : Fin 16) (v : Word) (z : State) (s : State), z.Permits req (MCH_SLOT c
      w) v ∧ s = fillTimeout c z ∧ s.ownsCh req c = false) ∧
    (∃ (req : Requester) (r : Fin 12) (v : Word) (s : State), s.Permits req (MCH_DBEN r) v) ∧
    (∃ (c : Fin 32) (q : ℕ) (x : ℕ) (s : State) (r : ℕ) (t : State), r = s.get (MCH_CH_CFG.RCV c) ∧ r < 12 ∧ q <
      16 ∧ x < 1024 ∧ s.get (MCH_CH_CFG.C0 c) = 0 ∧ t = chArrive c q x s) ∧
    (∃ (c : Fin 32) (q : ℕ) (x : ℕ) (s : State) (r : ℕ) (t : State), r = s.get (MCH_CH_CFG.RCV c) ∧ r < 12 ∧ q <
      16 ∧ x < 1024 ∧ s.get (MCH_CH_CFG.C0 c) = 0 ∧ t = chArrive c q x s ∧ bitOf (s.num (MCH_DBEN r)) c = true) ∧
    (∃ (c : Fin 32) (q : ℕ) (x : ℕ) (s : State) (r : ℕ) (t : State), r = s.get (MCH_CH_CFG.RCV c) ∧ r < 12 ∧ q <
      16 ∧ x < 1024 ∧ s.get (MCH_CH_CFG.C0 c) = 0 ∧ t = chArrive c q x s ∧ bitOf (s.num (MCH_DBEN r)) c = false) := by
  refine ⟨?_, ?_, ?_, ?_, ?_, ?_, ?_, ?_, ?_, ?_, ?_, ?_, ?_, ?_, ?_, ?_, ?_, ?_, ?_, ?_, ?_, ?_⟩
  · refine ⟨0x123456789, .sec, 31, { st [(MCH_CH_STAT.STATE (31 : Fin 32), 0), (MCH_CH_CFG.EN (31 : Fin 32), 1)] with rst := { State.reset.rst with inst := false, por := false } }, fillTimeout (31 : Fin 32) (({ st [(MCH_CH_STAT.STATE (31 : Fin 32), 0), (MCH_CH_CFG.EN (31 : Fin 32), 1)] with rst := { State.reset.rst with inst := false, por := false } }).advanceTo (0x123456789 : Dword)), ?_, ?_, ?_, ?_⟩
    · first | rfl | decide +kernel
    · first | decide +kernel | rfl
    · first | decide +kernel | rfl
    · first | decide +kernel | rfl
  · refine ⟨0x123456789, .sec, 31, { st [(MCH_CH_STAT.STATE (31 : Fin 32), 1), (MCH_CH_STAT.STATE 31, 2)] with rst := { State.reset.rst with inst := false, por := false } }, fillTimeout (31 : Fin 32) (({ st [(MCH_CH_STAT.STATE (31 : Fin 32), 1), (MCH_CH_STAT.STATE 31, 2)] with rst := { State.reset.rst with inst := false, por := false } }).advanceTo (0x123456789 : Dword)), ?_, ?_, ?_⟩
    · first | rfl | decide +kernel
    · first | decide +kernel | rfl
    · decide +kernel
  · refine ⟨0x123456789, .sec, 31, { st [(MCH_CH_STAT.STATE 31, 1), (MCH_CH_STAT.OWNER 31, 1)] with rst := { State.reset.rst with inst := true } }, ?_⟩
    · first | decide +kernel | rfl
  · refine ⟨0, .sec, 31, 608, { st [(MCH_CH_STAT.STATE 31, 1), (MCH_CH_STAT.OWNER 31, 1)] with rst := { State.reset.rst with inst := false, por := false } }, ({ st [(MCH_CH_STAT.STATE 31, 1), (MCH_CH_STAT.OWNER 31, 1)] with rst := { State.reset.rst with inst := false, por := false } }).advanceTo (0 : Dword), fillTimeout (31 : Fin 32) (({ st [(MCH_CH_STAT.STATE 31, 1), (MCH_CH_STAT.OWNER 31, 1)] with rst := { State.reset.rst with inst := false, por := false } }).advanceTo (0 : Dword)), BitVec.ofNat 32 ((608 : BitVec 10).toNat * 65536 + 1), ?_, ?_, ?_, ?_, ?_, ?_⟩
    · first | rfl | decide +kernel
    · first | rfl | decide +kernel
    · first | rfl | decide +kernel
    · exact permits_of (by decide +kernel)
    · first | decide +kernel | rfl
    · decide +kernel
  · refine ⟨0x123456789, .sec, 31, 1, { st [(MCH_CH_CFG.RCV 31, 0)] with rst := { State.reset.rst with inst := false, por := false } }, ({ st [(MCH_CH_CFG.RCV 31, 0)] with rst := { State.reset.rst with inst := false, por := false } }).advanceTo (0x123456789 : Dword), fillTimeout (31 : Fin 32) (({ st [(MCH_CH_CFG.RCV 31, 0)] with rst := { State.reset.rst with inst := false, por := false } }).advanceTo (0x123456789 : Dword)), BitVec.ofNat 32 ((1 : BitVec 10).toNat * 65536 + 1), ?_, ?_, ?_, ?_, ?_⟩
    · first | rfl | decide +kernel
    · first | rfl | decide +kernel
    · first | rfl | decide +kernel
    · exact permits_of (by decide +kernel)
    · decide +kernel
  · refine ⟨.sec, 31, { st [(MCH_CH_STAT.STATE (31 : Fin 32), 2), (MCH_CH_STAT.STATE 31, 2), (MCH_CH_CFG.RCV 31, 0)] with rst := { State.reset.rst with inst := false, por := false } }, fillTimeout (31 : Fin 32) ({ st [(MCH_CH_STAT.STATE (31 : Fin 32), 2), (MCH_CH_STAT.STATE 31, 2), (MCH_CH_CFG.RCV 31, 0)] with rst := { State.reset.rst with inst := false, por := false } }), (fillTimeout (31 : Fin 32) ({ st [(MCH_CH_STAT.STATE (31 : Fin 32), 2), (MCH_CH_STAT.STATE 31, 2), (MCH_CH_CFG.RCV 31, 0)] with rst := { State.reset.rst with inst := false, por := false } })).get (MCH_CH_CFG.RCV (31 : Fin 32)), ?_, ?_, ?_, ?_, ?_⟩
    · exact permits_of (by decide +kernel)
    · first | rfl | decide +kernel
    · first | rfl | decide +kernel
    · first | decide +kernel | rfl
    · first | decide +kernel | rfl
  · refine ⟨.sec, 31, { st [(MCH_CH_STAT.STATE (31 : Fin 32), 0)] with rst := { State.reset.rst with inst := false, por := false } }, fillTimeout (31 : Fin 32) ({ st [(MCH_CH_STAT.STATE (31 : Fin 32), 0)] with rst := { State.reset.rst with inst := false, por := false } }), (fillTimeout (31 : Fin 32) ({ st [(MCH_CH_STAT.STATE (31 : Fin 32), 0)] with rst := { State.reset.rst with inst := false, por := false } })).get (MCH_CH_CFG.RCV (31 : Fin 32)), ?_, ?_, ?_, ?_⟩
    · exact permits_of (by decide +kernel)
    · first | rfl | decide +kernel
    · first | rfl | decide +kernel
    · decide +kernel
  · refine ⟨.sec, 31, { st [(MCH_CH_STAT.STATE 31, 1), (MCH_CH_STAT.OWNER 31, 1)] with rst := { State.reset.rst with inst := false, por := false } }, fillTimeout (31 : Fin 32) ({ st [(MCH_CH_STAT.STATE 31, 1), (MCH_CH_STAT.OWNER 31, 1)] with rst := { State.reset.rst with inst := false, por := false } }), ?_, ?_, ?_⟩
    · exact permits_of (by decide +kernel)
    · first | rfl | decide +kernel
    · first | decide +kernel | rfl
  · refine ⟨.sec, 31, { State.reset with rst := { State.reset.rst with inst := false, por := false } }, fillTimeout (31 : Fin 32) ({ State.reset with rst := { State.reset.rst with inst := false, por := false } }), ?_, ?_, ?_⟩
    · exact permits_of (by decide +kernel)
    · first | rfl | decide +kernel
    · first | decide +kernel | rfl
  · refine ⟨0x123456789, 31, st [(MCH_CH_STAT.STATE (31 : Fin 32), 1)], (st [(MCH_CH_STAT.STATE (31 : Fin 32), 1)]).advanceTo (0x123456789 : Dword), ?_, ?_⟩
    · first | rfl | decide +kernel
    · first | decide +kernel | rfl
  · refine ⟨0x123456789, 31, st [(MCH_CH_STAT.STATE (31 : Fin 32), 0)], (st [(MCH_CH_STAT.STATE (31 : Fin 32), 0)]).advanceTo (0x123456789 : Dword), ?_, ?_⟩
    · first | rfl | decide +kernel
    · decide +kernel
  · refine ⟨31, st [(MCH_CH_STAT.STATE (31 : Fin 32), 1), (MCH_CH_STAT.STATE 31, 1), (MCH_CFG.FILL_TO, 0)], fillTimeout (31 : Fin 32) (st [(MCH_CH_STAT.STATE (31 : Fin 32), 1), (MCH_CH_STAT.STATE 31, 1), (MCH_CFG.FILL_TO, 0)]), ?_, ?_, ?_⟩
    · first | rfl | decide +kernel
    · first | decide +kernel | rfl
    · decide +kernel
  · refine ⟨31, State.reset, fillTimeout (31 : Fin 32) State.reset, ?_, ?_⟩
    · first | rfl | decide +kernel
    · decide +kernel
  · refine ⟨31, State.reset, fillTimeout (31 : Fin 32) State.reset, ?_⟩
    · first | rfl | decide +kernel
  · refine ⟨.sec, 31, 1, { st [(MCH_CH_STAT.STATE (31 : Fin 32), 0)] with rst := { State.reset.rst with inst := false, por := false } }, fillTimeout (31 : Fin 32) ({ st [(MCH_CH_STAT.STATE (31 : Fin 32), 0)] with rst := { State.reset.rst with inst := false, por := false } }), ?_, ?_, ?_⟩
    · exact permits_of (by decide +kernel)
    · first | rfl | decide +kernel
    · first | decide +kernel | rfl
  · refine ⟨.sec, 31, 1, { st [(MCH_CH_STAT.STATE (31 : Fin 32), 1)] with rst := { State.reset.rst with inst := false, por := false } }, fillTimeout (31 : Fin 32) ({ st [(MCH_CH_STAT.STATE (31 : Fin 32), 1)] with rst := { State.reset.rst with inst := false, por := false } }), ?_, ?_, ?_⟩
    · exact permits_of (by decide +kernel)
    · first | rfl | decide +kernel
    · decide +kernel
  · refine ⟨.sec, 31, 15, 1, { st [(MCH_CH_STAT.STATE 31, 1), (MCH_CH_STAT.OWNER 31, 1)] with rst := { State.reset.rst with inst := false, por := false } }, fillTimeout (31 : Fin 32) ({ st [(MCH_CH_STAT.STATE 31, 1), (MCH_CH_STAT.OWNER 31, 1)] with rst := { State.reset.rst with inst := false, por := false } }), ?_, ?_, ?_⟩
    · exact permits_of (by decide +kernel)
    · first | rfl | decide +kernel
    · first | decide +kernel | rfl
  · refine ⟨.sec, 31, 15, 1, { State.reset with rst := { State.reset.rst with inst := false, por := false } }, fillTimeout (31 : Fin 32) ({ State.reset with rst := { State.reset.rst with inst := false, por := false } }), ?_, ?_, ?_⟩
    · exact permits_of (by decide +kernel)
    · first | rfl | decide +kernel
    · first | decide +kernel | rfl
  · refine ⟨.sec, 11, 1, { State.reset with rst := { State.reset.rst with inst := false, por := false } }, ?_⟩
    · exact permits_of (by decide +kernel)
  · refine ⟨31, 1, 1, st [(MCH_CH_CFG.C0 (31 : Fin 32), 0)], (st [(MCH_CH_CFG.C0 (31 : Fin 32), 0)]).get (MCH_CH_CFG.RCV (31 : Fin 32)), chArrive (31 : Fin 32) 1 1 (st [(MCH_CH_CFG.C0 (31 : Fin 32), 0)]), ?_, ?_, ?_, ?_, ?_, ?_⟩
    · first | rfl | decide +kernel
    · decide +kernel
    · decide +kernel
    · decide +kernel
    · first | decide +kernel | rfl
    · first | rfl | decide +kernel
  · refine ⟨31, 15, 1023, st [(MCH_CH_CFG.C0 (31 : Fin 32), 0), (MCH_CH_CFG.RCV 31, 11), (MCH_DBEN.DBEN 11, 0x80000000)], (st [(MCH_CH_CFG.C0 (31 : Fin 32), 0), (MCH_CH_CFG.RCV 31, 11), (MCH_DBEN.DBEN 11, 0x80000000)]).get (MCH_CH_CFG.RCV (31 : Fin 32)), chArrive (31 : Fin 32) 15 1023 (st [(MCH_CH_CFG.C0 (31 : Fin 32), 0), (MCH_CH_CFG.RCV 31, 11), (MCH_DBEN.DBEN 11, 0x80000000)]), ?_, ?_, ?_, ?_, ?_, ?_, ?_⟩
    · first | rfl | decide +kernel
    · decide +kernel
    · decide +kernel
    · decide +kernel
    · first | decide +kernel | rfl
    · first | rfl | decide +kernel
    · first | decide +kernel | rfl
  · refine ⟨31, 1, 1, st [(MCH_CH_CFG.C0 (31 : Fin 32), 0)], (st [(MCH_CH_CFG.C0 (31 : Fin 32), 0)]).get (MCH_CH_CFG.RCV (31 : Fin 32)), chArrive (31 : Fin 32) 1 1 (st [(MCH_CH_CFG.C0 (31 : Fin 32), 0)]), ?_, ?_, ?_, ?_, ?_, ?_, ?_⟩
    · first | rfl | decide +kernel
    · decide +kernel
    · decide +kernel
    · decide +kernel
    · first | decide +kernel | rfl
    · first | rfl | decide +kernel
    · first | decide +kernel | rfl

/-- States and operands that meet the hypotheses of CoreMemoryCommandsComplete. -/
theorem witness_CoreMemoryCommandsComplete :
    (∃ (e : Dword) (i : CoreIx) (k : Fin 4) (s : State) (u : State), u = cacheDue (s.advanceTo e) ∧ u.coreState
      i ≠ 1) ∧
    (∃ (e : Dword) (i : CoreIx) (s : State) (u : State), u = cacheDue (s.advanceTo e) ∧ u.coreState i = 1) ∧
    (∃ (e : Dword) (i : CoreIx) (k : Fin 4) (s : State) (u : State), u = cacheDue (s.advanceTo e) ∧ u.coreState
      i = 1 ∧ k.val ≠ 3 ∧ k.val = 0) ∧
    (∃ (e : Dword) (i : CoreIx) (k : Fin 4) (s : State) (u : State), u = cacheDue (s.advanceTo e) ∧ u.coreState
      i = 1 ∧ k.val ≠ 3 ∧ k.val ≠ 0) ∧
    (∃ (i : ℕ) (g : ℕ) (a : ℕ) (s : State) (l : CacheLine), (lineClean g a s).lineAt g a = some l) ∧
    (∃ (e : Dword) (i : CoreIx) (s : State) (u : State), u = cacheDue (s.advanceTo e) ∧ u.coreState i = 1) ∧
    (∃ (e : Dword) (i : CoreIx) (op : AmoOp) (a : Word) (v : Word) (s : State) (u : State) (aq : Bool), u =
      cacheDue (s.advanceTo e) ∧ u.coreState i = 1 ∧ (a.toNat % 4 ≠ 0 ∨ (∀ o, memKind i a.toNat ≠ .loc o ∧
      memKind i a.toNat ≠ .commons o))) ∧
    (∃ (e : Dword) (i : CoreIx) (op : AmoOp) (a : Word) (v : Word) (o : ℕ) (s : State) (u : State) (w : State)
      (bs : List (BitVec 8)) (old : BitVec 32), u = cacheDue (s.advanceTo e) ∧ u.coreState i = 1 ∧ a.toNat % 4 =
      0 ∧ memKind i a.toNat = .loc o ∧ i.val ≠ 11 ∧ op ≠ .sc ∧ op ≠ .lr ∧ ramRead i o 4 u = (some bs, w) ∧ old =
      BitVec.ofNat 32 (leBytes bs)) ∧
    (∃ (e : Dword) (i : CoreIx) (a : Word) (v : Word) (o : ℕ) (s : State) (u : State) (w : State) (bs : List
      (BitVec 8)), u = cacheDue (s.advanceTo e) ∧ u.coreState i = 1 ∧ a.toNat % 4 = 0 ∧ memKind i a.toNat = .loc
      o ∧ i.val ≠ 11 ∧ ramRead i o 4 u = (some bs, w)) ∧
    (∃ (e : Dword) (i : CoreIx) (a : Word) (v : Word) (o : ℕ) (s : State) (u : State) (w : State) (bs : List
      (BitVec 8)), u = cacheDue (s.advanceTo e) ∧ u.coreState i = 1 ∧ a.toNat % 4 = 0 ∧ memKind i a.toNat = .loc
      o ∧ i.val ≠ 11 ∧ ramRead i o 4 u = (none, w)) ∧
    (∃ (e : Dword) (i : CoreIx) (a : Word) (v : Word) (o : ℕ) (s : State) (u : State), u = cacheDue (s.advanceTo
      e) ∧ u.coreState i = 1 ∧ a.toNat % 4 = 0 ∧ memKind i a.toNat = .loc o ∧ i.val ≠ 11) ∧
    (∃ (e : Dword) (i : CoreIx) (s : State) (u : State) (y : State) (r : Reservation), u = s.advanceTo e ∧
      (u.coreSt i).resv = some r ∧ (y = (if u.locked = true ∧ u.tim.edges < r.since + 256 then u.passEdges
      (r.since + 256 - u.tim.edges) else u)) ∧ r.since + 256 ≤ y.tim.edges) ∧
    (∃ (e : Dword) (i : CoreIx) (s : State) (u : State) (y : State) (r : Reservation), u = s.advanceTo e ∧
      (u.coreSt i).resv = some r ∧ (y = (if u.locked = true ∧ u.tim.edges < r.since + 256 then u.passEdges
      (r.since + 256 - u.tim.edges) else u)) ∧ y.tim.edges < r.since + 256) ∧
    (∃ (e : Dword) (i : CoreIx) (w : Width) (a : Word) (v : Word) (s : State) (u : State) (o : ℕ), u = cacheDue
      (s.advanceTo e) ∧ u.coreState i = 1 ∧ memKind i a.toNat = .loc o) ∧
    (∃ (e : Dword) (i : CoreIx) (w : Width) (a : Word) (v : Word) (s : State) (u : State) (o : ℕ), u = cacheDue
      (s.advanceTo e) ∧ u.coreState i = 1 ∧ memKind i a.toNat = .host o) ∧
    (∃ (e : Dword) (i : CoreIx) (w : Width) (a : Word) (v : Word) (s : State) (u : State) (o : ℕ), u = cacheDue
      (s.advanceTo e) ∧ u.coreState i = 1 ∧ memKind i a.toNat = .device o) ∧
    (∃ (e : Dword) (i : CoreIx) (w : Width) (a : Word) (v : Word) (s : State) (u : State) (o : ℕ), u = cacheDue
      (s.advanceTo e) ∧ u.coreState i = 1 ∧ memKind i a.toNat = .nowhere) ∧
    (∃ (e : Dword) (i : CoreIx) (w : Width) (a : Word) (v : Word) (s : State) (u : State) (z : State) (f :
      BitVec 32), u = cacheDue (s.advanceTo e) ∧ u.coreState i = 1 ∧ (∃ o, memKind i a.toNat = .commons o ∨
      memKind i a.toNat = .wmem o) ∧ (u.coreSt i).buf.length < 8 ∧ z =
      { u.setCoreSt i { u.coreSt i with buf := (u.coreSt i).buf ++ [⟨a.toNat, toLe w.bytes v.toNat⟩] } with freeCtr := u.freeCtr + 1 }
      ∧ f = Config.freeWord u.freeCtr) ∧
    (∃ (e : Dword) (i : CoreIx) (s : State) (u : State), u = cacheDue (s.advanceTo e) ∧ u.coreState i = 1 ∧
      u.meip i = true) ∧
    (∃ (e : Dword) (i : CoreIx) (s : State) (u : State), u = cacheDue (s.advanceTo e) ∧ (u.coreState i ≠ 1 ∨
      u.meip i = false)) ∧
    (∃ (s : State), (∀ g l, l ∈ s.lines g → l.dirty = 0 ∨ s.tim.edges < l.since + 16000)) := by
  refine ⟨?_, ?_, ?_, ?_, ?_, ?_, ?_, ?_, ?_, ?_, ?_, ?_, ?_, ?_, ?_, ?_, ?_, ?_, ?_, ?_, ?_⟩
  · refine ⟨0x123456789, 10, 3, st [(FW_CORE.STATE (10 : CoreIx), 0)], cacheDue ((st [(FW_CORE.STATE (10 : CoreIx), 0)]).advanceTo (0x123456789 : Dword)), ?_, ?_⟩
    · first | rfl | decide +kernel
    · decide +kernel
  · refine ⟨0x123456789, 10, st [(FW_CORE.STATE (10 : CoreIx), 1)], cacheDue ((st [(FW_CORE.STATE (10 : CoreIx), 1)]).advanceTo (0x123456789 : Dword)), ?_, ?_⟩
    · first | rfl | decide +kernel
    · first | decide +kernel | rfl
  · refine ⟨0x123456789, 10, 0, st [(FW_CORE.STATE (10 : CoreIx), 1)], cacheDue ((st [(FW_CORE.STATE (10 : CoreIx), 1)]).advanceTo (0x123456789 : Dword)), ?_, ?_, ?_, ?_⟩
    · first | rfl | decide +kernel
    · first | decide +kernel | rfl
    · decide +kernel
    · first | decide +kernel | rfl
  · refine ⟨0x123456789, 10, 2, st [(FW_CORE.STATE (10 : CoreIx), 1)], cacheDue ((st [(FW_CORE.STATE (10 : CoreIx), 1)]).advanceTo (0x123456789 : Dword)), ?_, ?_, ?_, ?_⟩
    · first | rfl | decide +kernel
    · first | decide +kernel | rfl
    · decide +kernel
    · decide +kernel
  · refine ⟨1, 1, 0x40000, { State.reset with cache := [(1, [{ line := 0x1000, data := List.replicate 64 0, dirty := 1, writers := 1, since := 0 }])] }, { line := 0x1000, data := List.replicate 64 0, dirty := 0, writers := 0, since := 0 }, ?_⟩
    · first | decide +kernel | rfl
  · refine ⟨0x123456789, 10, st [(FW_CORE.STATE (10 : CoreIx), 1)], cacheDue ((st [(FW_CORE.STATE (10 : CoreIx), 1)]).advanceTo (0x123456789 : Dword)), ?_, ?_⟩
    · first | rfl | decide +kernel
    · first | decide +kernel | rfl
  · refine ⟨0x123456789, 10, .add, 0x41, 1, st [(FW_CORE.STATE (10 : CoreIx), 1)], cacheDue ((st [(FW_CORE.STATE (10 : CoreIx), 1)]).advanceTo (0x123456789 : Dword)), true, ?_, ?_, ?_⟩
    · first | rfl | decide +kernel
    · first | decide +kernel | rfl
    · exact .inl (by decide)
  · refine ⟨0x123456789, 10, .maxu, 0x1FFFC, 1, 0x1FFFC, st [(FW_CORE.STATE (10 : CoreIx), 1)], cacheDue ((st [(FW_CORE.STATE (10 : CoreIx), 1)]).advanceTo (0x123456789 : Dword)), ((st [(FW_CORE.STATE 10, 1)]).advanceTo 0x123456789), [0, 0, 0, 0], BitVec.ofNat 32 (leBytes ([0, 0, 0, 0])), ?_, ?_, ?_, ?_, ?_, ?_, ?_, ?_, ?_⟩
    · first | rfl | decide +kernel
    · first | decide +kernel | rfl
    · first | decide +kernel | rfl
    · first | decide +kernel | rfl
    · decide +kernel
    · decide +kernel
    · decide +kernel
    · first | decide +kernel | rfl
    · first | rfl | decide +kernel
  · refine ⟨0x123456789, 10, 0x1FFFC, 1, 0x1FFFC, st [(FW_CORE.STATE (10 : CoreIx), 1)], cacheDue ((st [(FW_CORE.STATE (10 : CoreIx), 1)]).advanceTo (0x123456789 : Dword)), ((st [(FW_CORE.STATE 10, 1)]).advanceTo 0x123456789), [0, 0, 0, 0], ?_, ?_, ?_, ?_, ?_, ?_⟩
    · first | rfl | decide +kernel
    · first | decide +kernel | rfl
    · first | decide +kernel | rfl
    · first | decide +kernel | rfl
    · decide +kernel
    · first | decide +kernel | rfl
  · refine ⟨0x123456789, 10, 0x1FFFC, 1, 0x1FFFC, { st [(FW_CORE.STATE 10, 1)] with cbse := { State.reset.cbse with bad := [(10, 0x1FFF8)] } }, cacheDue (({ st [(FW_CORE.STATE 10, 1)] with cbse := { State.reset.cbse with bad := [(10, 0x1FFF8)] } }).advanceTo (0x123456789 : Dword)), (ramRead 10 0x1FFFC 4 (({ st [(FW_CORE.STATE 10, 1)] with cbse := { State.reset.cbse with bad := [(10, 0x1FFF8)] } }).advanceTo 0x123456789)).2, [], ?_, ?_, ?_, ?_, ?_, ?_⟩
    · first | rfl | decide +kernel
    · first | decide +kernel | rfl
    · first | decide +kernel | rfl
    · first | decide +kernel | rfl
    · decide +kernel
    · first | decide +kernel | rfl
  · refine ⟨0x123456789, 10, 0x1FFFC, 1, 0x1FFFC, st [(FW_CORE.STATE (10 : CoreIx), 1)], cacheDue ((st [(FW_CORE.STATE (10 : CoreIx), 1)]).advanceTo (0x123456789 : Dword)), ?_, ?_, ?_, ?_, ?_⟩
    · first | rfl | decide +kernel
    · first | decide +kernel | rfl
    · first | decide +kernel | rfl
    · first | decide +kernel | rfl
    · decide +kernel
  · refine ⟨0x123456789, 10, { State.reset with core := [(10, { resv := some ⟨7, 0⟩ })], tim := { State.reset.tim with edges := 256 } }, ({ State.reset with core := [(10, { resv := some ⟨7, 0⟩ })], tim := { State.reset.tim with edges := 256 } }).advanceTo (0x123456789 : Dword), (if (({ State.reset with core := [(10, { resv := some ⟨7, 0⟩ })], tim := { State.reset.tim with edges := 256 } }).advanceTo (0x123456789 : Dword)).locked = true ∧ (({ State.reset with core := [(10, { resv := some ⟨7, 0⟩ })], tim := { State.reset.tim with edges := 256 } }).advanceTo (0x123456789 : Dword)).tim.edges < (⟨7, 0⟩ : Reservation).since + 256 then (({ State.reset with core := [(10, { resv := some ⟨7, 0⟩ })], tim := { State.reset.tim with edges := 256 } }).advanceTo (0x123456789 : Dword)).passEdges ((⟨7, 0⟩ : Reservation).since + 256 - (({ State.reset with core := [(10, { resv := some ⟨7, 0⟩ })], tim := { State.reset.tim with edges := 256 } }).advanceTo (0x123456789 : Dword)).tim.edges) else (({ State.reset with core := [(10, { resv := some ⟨7, 0⟩ })], tim := { State.reset.tim with edges := 256 } }).advanceTo (0x123456789 : Dword))), ⟨7, 0⟩, ?_, ?_, ?_, ?_⟩
    · first | rfl | decide +kernel
    · first | decide +kernel | rfl
    · first | rfl | decide +kernel
    · decide +kernel
  · refine ⟨0, 10, { State.reset with core := [(10, { resv := some ⟨7, 0⟩ })] }, ({ State.reset with core := [(10, { resv := some ⟨7, 0⟩ })] }).advanceTo (0 : Dword), (if (({ State.reset with core := [(10, { resv := some ⟨7, 0⟩ })] }).advanceTo (0 : Dword)).locked = true ∧ (({ State.reset with core := [(10, { resv := some ⟨7, 0⟩ })] }).advanceTo (0 : Dword)).tim.edges < (⟨7, 0⟩ : Reservation).since + 256 then (({ State.reset with core := [(10, { resv := some ⟨7, 0⟩ })] }).advanceTo (0 : Dword)).passEdges ((⟨7, 0⟩ : Reservation).since + 256 - (({ State.reset with core := [(10, { resv := some ⟨7, 0⟩ })] }).advanceTo (0 : Dword)).tim.edges) else (({ State.reset with core := [(10, { resv := some ⟨7, 0⟩ })] }).advanceTo (0 : Dword))), ⟨7, 0⟩, ?_, ?_, ?_, ?_⟩
    · first | rfl | decide +kernel
    · first | decide +kernel | rfl
    · first | rfl | decide +kernel
    · decide +kernel
  · refine ⟨0x123456789, 10, .b32, 0x1FFFC, 1, st [(FW_CORE.STATE (10 : CoreIx), 1)], cacheDue ((st [(FW_CORE.STATE (10 : CoreIx), 1)]).advanceTo (0x123456789 : Dword)), 0x1FFFC, ?_, ?_, ?_⟩
    · first | rfl | decide +kernel
    · first | decide +kernel | rfl
    · first | decide +kernel | rfl
  · refine ⟨0x123456789, 2, .b32, 0xBFFFFFFF, 1, st [(FW_CORE.STATE (2 : CoreIx), 1)], cacheDue ((st [(FW_CORE.STATE (2 : CoreIx), 1)]).advanceTo (0x123456789 : Dword)), 0x3FFFFFFF, ?_, ?_, ?_⟩
    · first | rfl | decide +kernel
    · first | decide +kernel | rfl
    · first | decide +kernel | rfl
  · refine ⟨0x123456789, 10, .b32, 0x40000000, 1, st [(FW_CORE.STATE (10 : CoreIx), 1)], cacheDue ((st [(FW_CORE.STATE (10 : CoreIx), 1)]).advanceTo (0x123456789 : Dword)), 0, ?_, ?_, ?_⟩
    · first | rfl | decide +kernel
    · first | decide +kernel | rfl
    · first | decide +kernel | rfl
  · refine ⟨0x123456789, 10, .b32, 0xC0000000, 1, st [(FW_CORE.STATE (10 : CoreIx), 1)], cacheDue ((st [(FW_CORE.STATE (10 : CoreIx), 1)]).advanceTo (0x123456789 : Dword)), 0x1FFFC, ?_, ?_, ?_⟩
    · first | rfl | decide +kernel
    · first | decide +kernel | rfl
    · first | decide +kernel | rfl
  · refine ⟨0x123456789, 10, .b16, 0x1007FFFF, 1, st [(FW_CORE.STATE (10 : CoreIx), 1)], cacheDue ((st [(FW_CORE.STATE (10 : CoreIx), 1)]).advanceTo (0x123456789 : Dword)), { ((st [(FW_CORE.STATE 10, 1)]).advanceTo 0x123456789).setCoreSt 10 { (st [(FW_CORE.STATE 10, 1)]).coreSt 10 with buf := ((st [(FW_CORE.STATE 10, 1)]).coreSt 10).buf ++ [⟨(0x1007FFFF : Word).toNat, toLe Width.b16.bytes (1 : Word).toNat⟩] } with freeCtr := (st [(FW_CORE.STATE 10, 1)]).freeCtr + 1 }, Config.freeWord (cacheDue ((st [(FW_CORE.STATE (10 : CoreIx), 1)]).advanceTo (0x123456789 : Dword))).freeCtr, ?_, ?_, ?_, ?_, ?_, ?_⟩
    · first | rfl | decide +kernel
    · first | decide +kernel | rfl
    · exact ⟨0x7FFFF, .inl (by decide +kernel)⟩
    · decide +kernel
    · first | rfl | decide +kernel
    · first | rfl | decide +kernel
  · refine ⟨0x123456789, 10, st [(FW_CORE.STATE (10 : CoreIx), 1), (PST_SRC_STAT.BOUND 1023, 1), (PST_SRC_STAT.TGT 1023, 10)], cacheDue ((st [(FW_CORE.STATE (10 : CoreIx), 1), (PST_SRC_STAT.BOUND 1023, 1), (PST_SRC_STAT.TGT 1023, 10)]).advanceTo (0x123456789 : Dword)), ?_, ?_, ?_⟩
    · first | rfl | decide +kernel
    · first | decide +kernel | rfl
    · first | decide +kernel | rfl
  · refine ⟨0x123456789, 10, st [(FW_CORE.STATE (10 : CoreIx), 0), (PST_SRC_STAT.BOUND 1023, 1), (PST_SRC_STAT.TGT 1023, 10)], cacheDue ((st [(FW_CORE.STATE (10 : CoreIx), 0), (PST_SRC_STAT.BOUND 1023, 1), (PST_SRC_STAT.TGT 1023, 10)]).advanceTo (0x123456789 : Dword)), ?_, ?_⟩
    · first | rfl | decide +kernel
    · decide +kernel
  · refine ⟨State.reset, ?_⟩
    · intro g l hl; exact absurd hl (by simp [State.lines, State.reset, mapGet])

/-- States and operands that meet the hypotheses of FirmwareCommandsComplete (part 1). -/
theorem witness_FirmwareCommandsComplete_1 :
    (∃ (e : Dword) (s : State) (u : State), u = s.advanceTo e ∧ (u.coreState 0 ≠ 1 ∨ u.fw.loading = none) ∧
      s.rst.inst = false) ∧
    (∃ (e : Dword) (s : State) (u : State) (k : ℕ) (b : Bool), u = s.advanceTo e ∧ u.coreState 0 = 1 ∧
      u.fw.loading = some (k, b) ∧ s.rst.inst = false) ∧
    (∃ (s : State) (t : State), t = bootFail s) ∧
    (∃ (h : List (BitVec 8)) (i : ℕ) (a : ℕ) (s : State) (t : State), entryOf h i = some a ∧ t = releaseCore h i
      s) ∧
    (∃ (e : Dword) (k : Bool) (b : Bool) (img : List (BitVec 8)) (s : State) (u : State), u = s.advanceTo e ∧
      (u.inst = 0 ∨ u.get FW_STAT.BOOT ≠ 0 ∨ u.coreState 0 ≠ 1) ∧ s.rst.inst = false) ∧
    (∃ (e : Dword) (k : Bool) (b : Bool) (img : List (BitVec 8)) (s : State) (u : State), u = s.advanceTo e ∧
      u.inst ≠ 0 ∧ u.get FW_STAT.BOOT = 0 ∧ u.coreState 0 = 1 ∧ s.rst.inst = false) ∧
    (∃ (e : Dword) (s : State) (u : State), u = s.advanceTo e ∧ u.inst ≠ 0 ∧ s.rst.inst = false) ∧
    (∃ (e : Dword) (s : State) (u : State), u = s.advanceTo e ∧ u.inst = 0 ∧ u.fw.resetDue = true ∧ s.rst.inst =
      false) ∧
    (∃ (e : Dword) (s : State) (u : State), u = s.advanceTo e ∧ u.inst = 0 ∧ u.fw.resetDue = false ∧ s.rst.inst
      = false) ∧
    (∃ (s : State), s.inst ≠ 0) ∧
    (∃ (e : Dword) (s : State) (u : State), u = s.advanceTo e ∧ (u.inst ≠ 0 ∨ u.get FW_ACT.PEND = 0 ∨
      u.class0Bits ≠ 0) ∧ s.rst.inst = false) ∧
    (∃ (e : Dword) (s : State) (u : State) (y : State) (w : State), u = s.advanceTo e ∧ u.inst = 0 ∧ u.get
      FW_ACT.PEND = 1 ∧ u.class0Bits = 0 ∧ y = u.advanceTo (BitVec.ofNat 64 (u.fw.quiet + 8000000)) ∧ w =
      (dirWrite y.stagedSlot 1 3 y).ring kVL 3 ∧ s.rst.inst = false) ∧
    (∃ (e : Dword) (req : Requester) (i : CoreIx) (s : State) (u : State), u = s.advanceTo e ∧ u.Permits req
      (FW_KICK i) 0) ∧
    (∃ (e : Dword) (i : CoreIx) (s : State) (u : State), u = s.advanceTo e ∧ u.wdogCounts i = false ∧ s.rst.inst
      = false) ∧
    (∃ (e : Dword) (i : CoreIx) (s : State) (u : State) (y : State) (w : State), u = s.advanceTo e ∧
      u.wdogCounts i = true ∧ y = u.advanceTo (BitVec.ofNat 64 (u.wdogEnd i)) ∧ w = holdCore i (((y.put
      (FW_WDOG.EXP i) 1).pulse 41).ring kVL 1) ∧ s.rst.inst = false) ∧
    (∃ (e : Dword) (i : CoreIx) (s : State) (u : State) (h : List (BitVec 8)) (b : List (BitVec 8)), u =
      s.advanceTo e ∧ u.runningImage = (h, b) ∧ (u.coreSt i).reload = false ∧ s.rst.inst = false) ∧
    (∃ (e : Dword) (i : CoreIx) (s : State) (u : State) (h : List (BitVec 8)) (b : List (BitVec 8)), u =
      s.advanceTo e ∧ u.runningImage = (h, b) ∧ (u.coreSt i).reload = true ∧ sha384 b = beBytes ((h.drop
      24).take 48) ∧ s.rst.inst = false) ∧
    (∃ (e : Dword) (i : CoreIx) (s : State) (u : State) (h : List (BitVec 8)) (b : List (BitVec 8)), u =
      s.advanceTo e ∧ u.runningImage = (h, b) ∧ (u.coreSt i).reload = true ∧ sha384 b ≠ beBytes ((h.drop
      24).take 48) ∧ s.rst.inst = false) ∧
    (∃ (req : Requester) (v : Word) (s : State) (z : State) (u : State), s.Permits req FW_HOST_KICK v ∧ z =
      hostTo s ∧ u = { z.put FW_HOST_HB.MISS 0 with fw := { z.fw with kick := true } }) ∧
    (∃ (u : State) (t : State), t = hostPeriodEnd u ∧ u.fw.kick = true) ∧
    (∃ (u : State) (t : State), t = hostPeriodEnd u ∧ u.fw.kick = false ∧ (min (u.get FW_HOST_HB.MISS + 1) 255 <
      3 ∨ u.get FW_STAT.HOST_LOST = 1)) ∧
    (∃ (u : State) (t : State), t = hostPeriodEnd u ∧ u.fw.kick = false ∧ 3 ≤ min (u.get FW_HOST_HB.MISS + 1)
      255 ∧ u.get FW_STAT.HOST_LOST = 0) ∧
    (∃ (e : Dword) (s : State) (u : State) (l : ℕ), u = s.advanceTo e ∧ l = 800000 * u.get FW_HOST_HB.PERIOD ∧
      s.rst.inst = false) ∧
    (∃ (e : Dword) (s : State) (u : State), u = s.advanceTo e ∧ u.get FW_STAT.FW_OK = 1 ∧ s.rst.inst = false) := by
  refine ⟨?_, ?_, ?_, ?_, ?_, ?_, ?_, ?_, ?_, ?_, ?_, ?_, ?_, ?_, ?_, ?_, ?_, ?_, ?_, ?_, ?_, ?_, ?_, ?_⟩
  · refine ⟨0x123456789, { st [(FW_CORE.STATE 0, 0)] with rst := { State.reset.rst with inst := false, por := false } }, ({ st [(FW_CORE.STATE 0, 0)] with rst := { State.reset.rst with inst := false, por := false } }).advanceTo (0x123456789 : Dword), ?_, ?_, ?_⟩
    · first | rfl | decide +kernel
    · decide +kernel
    · first | decide +kernel | rfl
  · refine ⟨0x123456789, { st [(FW_CORE.STATE 0, 1)] with fw := { State.reset.fw with loading := some (1, true) }, rst := { State.reset.rst with inst := false, por := false } }, ({ st [(FW_CORE.STATE 0, 1)] with fw := { State.reset.fw with loading := some (1, true) }, rst := { State.reset.rst with inst := false, por := false } }).advanceTo (0x123456789 : Dword), 1, true, ?_, ?_, ?_, ?_⟩
    · first | rfl | decide +kernel
    · first | decide +kernel | rfl
    · first | decide +kernel | rfl
    · first | decide +kernel | rfl
  · refine ⟨State.reset, bootFail State.reset, ?_⟩
    · first | rfl | decide +kernel
  · refine ⟨(List.replicate 21 0 ++ [1] ++ List.replicate 50 0 ++ [3] ++ List.replicate 11 0 ++ [4, 0, 0, 0]), 10, 4, State.reset, releaseCore (List.replicate 21 0 ++ [1] ++ List.replicate 50 0 ++ [3] ++ List.replicate 11 0 ++ [4, 0, 0, 0]) 10 State.reset, ?_, ?_⟩
    · first | decide +kernel | rfl
    · first | rfl | decide +kernel
  · refine ⟨0x123456789, true, true, [], { State.reset with rst := { State.reset.rst with inst := false, por := false }, efuse := { State.reset.efuse with inst := 0 } }, ({ State.reset with rst := { State.reset.rst with inst := false, por := false }, efuse := { State.reset.efuse with inst := 0 } }).advanceTo (0x123456789 : Dword), ?_, ?_, ?_⟩
    · first | rfl | decide +kernel
    · decide +kernel
    · first | decide +kernel | rfl
  · refine ⟨0x123456789, true, true, [], { st [(FW_STAT.BOOT, 0), (FW_CORE.STATE 0, 1)] with rst := { State.reset.rst with inst := false, por := false }, efuse := { State.reset.efuse with inst := 1 } }, ({ st [(FW_STAT.BOOT, 0), (FW_CORE.STATE 0, 1)] with rst := { State.reset.rst with inst := false, por := false }, efuse := { State.reset.efuse with inst := 1 } }).advanceTo (0x123456789 : Dword), ?_, ?_, ?_, ?_, ?_⟩
    · first | rfl | decide +kernel
    · decide +kernel
    · first | decide +kernel | rfl
    · first | decide +kernel | rfl
    · first | decide +kernel | rfl
  · refine ⟨0x123456789, { State.reset with rst := { State.reset.rst with inst := false, por := false }, efuse := { State.reset.efuse with inst := 1 } }, ({ State.reset with rst := { State.reset.rst with inst := false, por := false }, efuse := { State.reset.efuse with inst := 1 } }).advanceTo (0x123456789 : Dword), ?_, ?_, ?_⟩
    · first | rfl | decide +kernel
    · decide +kernel
    · first | decide +kernel | rfl
  · refine ⟨0x123456789, { State.reset with rst := { State.reset.rst with inst := false, por := false }, efuse := { State.reset.efuse with inst := 0 }, fw := { State.reset.fw with resetDue := true } }, ({ State.reset with rst := { State.reset.rst with inst := false, por := false }, efuse := { State.reset.efuse with inst := 0 }, fw := { State.reset.fw with resetDue := true } }).advanceTo (0x123456789 : Dword), ?_, ?_, ?_, ?_⟩
    · first | rfl | decide +kernel
    · first | decide +kernel | rfl
    · first | decide +kernel | rfl
    · first | decide +kernel | rfl
  · refine ⟨0x123456789, { State.reset with rst := { State.reset.rst with inst := false, por := false }, efuse := { State.reset.efuse with inst := 0 }, fw := { State.reset.fw with resetDue := false } }, ({ State.reset with rst := { State.reset.rst with inst := false, por := false }, efuse := { State.reset.efuse with inst := 0 }, fw := { State.reset.fw with resetDue := false } }).advanceTo (0x123456789 : Dword), ?_, ?_, ?_, ?_⟩
    · first | rfl | decide +kernel
    · first | decide +kernel | rfl
    · first | decide +kernel | rfl
    · first | decide +kernel | rfl
  · refine ⟨{ State.reset with efuse := { State.reset.efuse with inst := 1 } }, ?_⟩
    · decide +kernel
  · refine ⟨0x123456789, { State.reset with rst := { State.reset.rst with inst := false, por := false }, efuse := { State.reset.efuse with inst := 1 } }, ({ State.reset with rst := { State.reset.rst with inst := false, por := false }, efuse := { State.reset.efuse with inst := 1 } }).advanceTo (0x123456789 : Dword), ?_, ?_, ?_⟩
    · first | rfl | decide +kernel
    · decide +kernel
    · first | decide +kernel | rfl
  · refine ⟨0x123456789, { st [(FW_ACT.PEND, 1)] with rst := { State.reset.rst with inst := false, por := false }, efuse := { State.reset.efuse with inst := 0 } }, ({ st [(FW_ACT.PEND, 1)] with rst := { State.reset.rst with inst := false, por := false }, efuse := { State.reset.efuse with inst := 0 } }).advanceTo (0x123456789 : Dword), (({ st [(FW_ACT.PEND, 1)] with rst := { State.reset.rst with inst := false, por := false }, efuse := { State.reset.efuse with inst := 0 } }).advanceTo (0x123456789 : Dword)).advanceTo (BitVec.ofNat 64 ((({ st [(FW_ACT.PEND, 1)] with rst := { State.reset.rst with inst := false, por := false }, efuse := { State.reset.efuse with inst := 0 } }).advanceTo (0x123456789 : Dword)).fw.quiet + 8000000)), (dirWrite ((({ st [(FW_ACT.PEND, 1)] with rst := { State.reset.rst with inst := false, por := false }, efuse := { State.reset.efuse with inst := 0 } }).advanceTo (0x123456789 : Dword)).advanceTo (BitVec.ofNat 64 ((({ st [(FW_ACT.PEND, 1)] with rst := { State.reset.rst with inst := false, por := false }, efuse := { State.reset.efuse with inst := 0 } }).advanceTo (0x123456789 : Dword)).fw.quiet + 8000000))).stagedSlot 1 3 ((({ st [(FW_ACT.PEND, 1)] with rst := { State.reset.rst with inst := false, por := false }, efuse := { State.reset.efuse with inst := 0 } }).advanceTo (0x123456789 : Dword)).advanceTo (BitVec.ofNat 64 ((({ st [(FW_ACT.PEND, 1)] with rst := { State.reset.rst with inst := false, por := false }, efuse := { State.reset.efuse with inst := 0 } }).advanceTo (0x123456789 : Dword)).fw.quiet + 8000000)))).ring kVL 3, ?_, ?_, ?_, ?_, ?_, ?_, ?_⟩
    · first | rfl | decide +kernel
    · first | decide +kernel | rfl
    · first | decide +kernel | rfl
    · first | decide +kernel | rfl
    · first | rfl | decide +kernel
    · first | rfl | decide +kernel
    · first | decide +kernel | rfl
  · refine ⟨0x123456789, (.cc 7), 10, { State.reset with rst := { State.reset.rst with inst := false, por := false } }, ({ State.reset with rst := { State.reset.rst with inst := false, por := false } }).advanceTo (0x123456789 : Dword), ?_, ?_⟩
    · first | rfl | decide +kernel
    · exact permits_of (by decide +kernel)
  · refine ⟨0x123456789, 10, { State.reset with rst := { State.reset.rst with inst := false, por := false } }, ({ State.reset with rst := { State.reset.rst with inst := false, por := false } }).advanceTo (0x123456789 : Dword), ?_, ?_, ?_⟩
    · first | rfl | decide +kernel
    · first | decide +kernel | rfl
    · first | decide +kernel | rfl
  · refine ⟨0x123456789, 10, { st [(FW_WDOG.EN 10, 1), (FW_CORE.STATE 10, 1)] with rst := { State.reset.rst with inst := false, por := false } }, ({ st [(FW_WDOG.EN 10, 1), (FW_CORE.STATE 10, 1)] with rst := { State.reset.rst with inst := false, por := false } }).advanceTo (0x123456789 : Dword), (({ st [(FW_WDOG.EN 10, 1), (FW_CORE.STATE 10, 1)] with rst := { State.reset.rst with inst := false, por := false } }).advanceTo (0x123456789 : Dword)).advanceTo (BitVec.ofNat 64 ((({ st [(FW_WDOG.EN 10, 1), (FW_CORE.STATE 10, 1)] with rst := { State.reset.rst with inst := false, por := false } }).advanceTo (0x123456789 : Dword)).wdogEnd (10 : CoreIx))), holdCore (10 : CoreIx) (((((({ st [(FW_WDOG.EN 10, 1), (FW_CORE.STATE 10, 1)] with rst := { State.reset.rst with inst := false, por := false } }).advanceTo (0x123456789 : Dword)).advanceTo (BitVec.ofNat 64 ((({ st [(FW_WDOG.EN 10, 1), (FW_CORE.STATE 10, 1)] with rst := { State.reset.rst with inst := false, por := false } }).advanceTo (0x123456789 : Dword)).wdogEnd (10 : CoreIx)))).put (FW_WDOG.EXP (10 : CoreIx)) 1).pulse 41).ring kVL 1), ?_, ?_, ?_, ?_, ?_⟩
    · first | rfl | decide +kernel
    · first | decide +kernel | rfl
    · first | rfl | decide +kernel
    · first | rfl | decide +kernel
    · first | decide +kernel | rfl
  · refine ⟨0x123456789, 10, { State.reset with rst := { State.reset.rst with inst := false, por := false } }, ({ State.reset with rst := { State.reset.rst with inst := false, por := false } }).advanceTo (0x123456789 : Dword), (State.reset.advanceTo 0x123456789).runningImage.1, (State.reset.advanceTo 0x123456789).runningImage.2, ?_, ?_, ?_, ?_⟩
    · first | rfl | decide +kernel
    · exact (Prod.eta _).symm
    · first | decide +kernel | rfl
    · first | decide +kernel | rfl
  · refine ⟨0x123456789, 10, { State.reset with efuse := { State.reset.efuse with inst := 3 }, fw := { State.reset.fw with pushed := [(12, 0), (13, 0), (14, 0), (15, 0)] ++ ((toBe 48 0x38b060a751ac96384cd9327eb1b1e36a21fdb71114be07434c0cc7bf63f6e1da274edebfe76f65fbd51ad2f14898b95b).zipIdx.map fun e => (24 + e.2, e.1)) }, core := [(10, { reload := true })], rst := { State.reset.rst with inst := false, por := false } }, (({ State.reset with efuse := { State.reset.efuse with inst := 3 }, fw := { State.reset.fw with pushed := [(12, 0), (13, 0), (14, 0), (15, 0)] ++ ((toBe 48 0x38b060a751ac96384cd9327eb1b1e36a21fdb71114be07434c0cc7bf63f6e1da274edebfe76f65fbd51ad2f14898b95b).zipIdx.map fun e => (24 + e.2, e.1)) }, core := [(10, { reload := true })], rst := { State.reset.rst with inst := false, por := false } } : State).advanceTo 0x123456789), (({ State.reset with efuse := { State.reset.efuse with inst := 3 }, fw := { State.reset.fw with pushed := [(12, 0), (13, 0), (14, 0), (15, 0)] ++ ((toBe 48 0x38b060a751ac96384cd9327eb1b1e36a21fdb71114be07434c0cc7bf63f6e1da274edebfe76f65fbd51ad2f14898b95b).zipIdx.map fun e => (24 + e.2, e.1)) }, core := [(10, { reload := true })], rst := { State.reset.rst with inst := false, por := false } } : State).advanceTo 0x123456789).runningImage.1, (({ State.reset with efuse := { State.reset.efuse with inst := 3 }, fw := { State.reset.fw with pushed := [(12, 0), (13, 0), (14, 0), (15, 0)] ++ ((toBe 48 0x38b060a751ac96384cd9327eb1b1e36a21fdb71114be07434c0cc7bf63f6e1da274edebfe76f65fbd51ad2f14898b95b).zipIdx.map fun e => (24 + e.2, e.1)) }, core := [(10, { reload := true })], rst := { State.reset.rst with inst := false, por := false } } : State).advanceTo 0x123456789).runningImage.2, ?_, ?_, ?_, ?_, ?_⟩
    · first | rfl | decide +kernel
    · exact (Prod.eta _).symm
    · first | decide +kernel | rfl
    · first | decide +kernel | rfl
    · first | decide +kernel | rfl
  · refine ⟨0x123456789, 10, { State.reset with efuse := { State.reset.efuse with inst := 3 }, fw := { State.reset.fw with pushed := [(12, 0), (13, 0), (14, 0), (15, 0)] ++ ((toBe 48 0).zipIdx.map fun e => (24 + e.2, e.1)) }, core := [(10, { reload := true })], rst := { State.reset.rst with inst := false, por := false } }, (({ State.reset with efuse := { State.reset.efuse with inst := 3 }, fw := { State.reset.fw with pushed := [(12, 0), (13, 0), (14, 0), (15, 0)] ++ ((toBe 48 0).zipIdx.map fun e => (24 + e.2, e.1)) }, core := [(10, { reload := true })], rst := { State.reset.rst with inst := false, por := false } } : State).advanceTo 0x123456789), (({ State.reset with efuse := { State.reset.efuse with inst := 3 }, fw := { State.reset.fw with pushed := [(12, 0), (13, 0), (14, 0), (15, 0)] ++ ((toBe 48 0).zipIdx.map fun e => (24 + e.2, e.1)) }, core := [(10, { reload := true })], rst := { State.reset.rst with inst := false, por := false } } : State).advanceTo 0x123456789).runningImage.1, (({ State.reset with efuse := { State.reset.efuse with inst := 3 }, fw := { State.reset.fw with pushed := [(12, 0), (13, 0), (14, 0), (15, 0)] ++ ((toBe 48 0).zipIdx.map fun e => (24 + e.2, e.1)) }, core := [(10, { reload := true })], rst := { State.reset.rst with inst := false, por := false } } : State).advanceTo 0x123456789).runningImage.2, ?_, ?_, ?_, ?_, ?_⟩
    · first | rfl | decide +kernel
    · exact (Prod.eta _).symm
    · first | decide +kernel | rfl
    · decide +kernel
    · first | decide +kernel | rfl
  · refine ⟨.sec, 1, { State.reset with rst := { State.reset.rst with inst := false, por := false } }, hostTo ({ State.reset with rst := { State.reset.rst with inst := false, por := false } }), { (hostTo ({ State.reset with rst := { State.reset.rst with inst := false, por := false } })).put FW_HOST_HB.MISS 0 with fw := { (hostTo ({ State.reset with rst := { State.reset.rst with inst := false, por := false } })).fw with kick := true } }, ?_, ?_, ?_⟩
    · exact permits_of (by decide +kernel)
    · first | rfl | decide +kernel
    · first | rfl | decide +kernel
  · refine ⟨{ State.reset with fw := { State.reset.fw with kick := true } }, hostPeriodEnd ({ State.reset with fw := { State.reset.fw with kick := true } }), ?_, ?_⟩
    · first | rfl | decide +kernel
    · first | decide +kernel | rfl
  · refine ⟨{ State.reset with fw := { State.reset.fw with kick := false } }, hostPeriodEnd ({ State.reset with fw := { State.reset.fw with kick := false } }), ?_, ?_, ?_⟩
    · first | rfl | decide +kernel
    · first | decide +kernel | rfl
    · decide +kernel
  · refine ⟨{ st [(FW_STAT.HOST_LOST, 0), (FW_HOST_HB.MISS, 2)] with fw := { State.reset.fw with kick := false } }, hostPeriodEnd ({ st [(FW_STAT.HOST_LOST, 0), (FW_HOST_HB.MISS, 2)] with fw := { State.reset.fw with kick := false } }), ?_, ?_, ?_, ?_⟩
    · first | rfl | decide +kernel
    · first | decide +kernel | rfl
    · decide +kernel
    · first | decide +kernel | rfl
  · refine ⟨0x123456789, { State.reset with rst := { State.reset.rst with inst := false, por := false } }, ({ State.reset with rst := { State.reset.rst with inst := false, por := false } }).advanceTo (0x123456789 : Dword), 800000 * (({ State.reset with rst := { State.reset.rst with inst := false, por := false } }).advanceTo (0x123456789 : Dword)).get FW_HOST_HB.PERIOD, ?_, ?_, ?_⟩
    · first | rfl | decide +kernel
    · first | rfl | decide +kernel
    · first | decide +kernel | rfl
  · refine ⟨0x123456789, { st [(FW_STAT.FW_OK, 1)] with rst := { State.reset.rst with inst := false, por := false } }, ({ st [(FW_STAT.FW_OK, 1)] with rst := { State.reset.rst with inst := false, por := false } }).advanceTo (0x123456789 : Dword), ?_, ?_, ?_⟩
    · first | rfl | decide +kernel
    · first | decide +kernel | rfl
    · first | decide +kernel | rfl

/-- States and operands that meet the hypotheses of FirmwareCommandsComplete (part 2). -/
theorem witness_FirmwareCommandsComplete_2 :
    (∃ (e : Dword) (s : State) (u : State), u = s.advanceTo e ∧ u.get FW_STAT.FW_OK = 0 ∧ s.rst.inst = false) ∧
    (∃ (req : Requester) (i : CoreIx) (pc : Word) (s : State), s.Permits req (DBG_CTRL i) 1 ∧ (s.coreState i = 1
      ∨ s.coreState i = 3)) ∧
    (∃ (req : Requester) (i : CoreIx) (pc : Word) (s : State), s.Permits req (DBG_CTRL i) 1 ∧ s.coreState i ≠ 1
      ∧ s.coreState i ≠ 3) ∧
    (∃ (req : Requester) (i : CoreIx) (s : State), s.Permits req (DBG_CTRL i) 2 ∧ s.coreState i = 2) ∧
    (∃ (req : Requester) (i : CoreIx) (s : State), s.Permits req (DBG_CTRL i) 2 ∧ s.coreState i ≠ 2) ∧
    (∃ (req : Requester) (i : CoreIx) (pc : Word) (s : State), s.Permits req (DBG_CTRL i) 4 ∧ s.coreState i ≠ 0) ∧
    (∃ (req : Requester) (i : CoreIx) (pc : Word) (s : State), s.Permits req (DBG_CTRL i) 4 ∧ s.coreState i = 0) ∧
    (∃ (i : ℕ) (pc : Word) (s : State), i < 11) ∧
    (∃ (e : Dword) (k : Fin 4) (c : BitVec 6) (s : State) (u : State), u = s.advanceTo e ∧ (u.inst ≠ 0 ∨ k.val =
      0) ∧ s.rst.inst = false) ∧
    (∃ (e : Dword) (k : Fin 4) (c : BitVec 6) (s : State) (u : State), u = s.advanceTo e ∧ u.inst = 0 ∧ k.val ≠
      0 ∧ s.rst.inst = false) := by
  refine ⟨?_, ?_, ?_, ?_, ?_, ?_, ?_, ?_, ?_, ?_⟩
  · refine ⟨0x123456789, { st [(FW_STAT.FW_OK, 0)] with rst := { State.reset.rst with inst := false, por := false } }, ({ st [(FW_STAT.FW_OK, 0)] with rst := { State.reset.rst with inst := false, por := false } }).advanceTo (0x123456789 : Dword), ?_, ?_, ?_⟩
    · first | rfl | decide +kernel
    · first | decide +kernel | rfl
    · first | decide +kernel | rfl
  · refine ⟨.sec, 10, 1, { st [(FW_CORE.STATE (10 : CoreIx), 1)] with rst := { State.reset.rst with inst := false, por := false } }, ?_, ?_⟩
    · exact permits_of (by decide +kernel)
    · decide +kernel
  · refine ⟨.sec, 10, 1, { st [(FW_CORE.STATE (10 : CoreIx), 0), (FW_CORE.STATE (10 : CoreIx), 0)] with rst := { State.reset.rst with inst := false, por := false } }, ?_, ?_, ?_⟩
    · exact permits_of (by decide +kernel)
    · decide +kernel
    · decide +kernel
  · refine ⟨.sec, 10, { st [(FW_CORE.STATE (10 : CoreIx), 2)] with rst := { State.reset.rst with inst := false, por := false } }, ?_, ?_⟩
    · exact permits_of (by decide +kernel)
    · first | decide +kernel | rfl
  · refine ⟨.sec, 10, { st [(FW_CORE.STATE (10 : CoreIx), 0)] with rst := { State.reset.rst with inst := false, por := false } }, ?_, ?_⟩
    · exact permits_of (by decide +kernel)
    · decide +kernel
  · refine ⟨.sec, 10, 1, { st [(FW_CORE.STATE (10 : CoreIx), 1)] with rst := { State.reset.rst with inst := false, por := false } }, ?_, ?_⟩
    · exact permits_of (by decide +kernel)
    · decide +kernel
  · refine ⟨.sec, 10, 1, { st [(FW_CORE.STATE (10 : CoreIx), 0)] with rst := { State.reset.rst with inst := false, por := false } }, ?_, ?_⟩
    · exact permits_of (by decide +kernel)
    · first | decide +kernel | rfl
  · refine ⟨1, 1, State.reset, ?_⟩
    · decide +kernel
  · refine ⟨0x123456789, 0, 1, { State.reset with rst := { State.reset.rst with inst := false, por := false }, efuse := { State.reset.efuse with inst := 1 } }, ({ State.reset with rst := { State.reset.rst with inst := false, por := false }, efuse := { State.reset.efuse with inst := 1 } }).advanceTo (0x123456789 : Dword), ?_, ?_, ?_⟩
    · first | rfl | decide +kernel
    · decide +kernel
    · first | decide +kernel | rfl
  · refine ⟨0x123456789, 3, 1, { State.reset with rst := { State.reset.rst with inst := false, por := false }, efuse := { State.reset.efuse with inst := 0 } }, ({ State.reset with rst := { State.reset.rst with inst := false, por := false }, efuse := { State.reset.efuse with inst := 0 } }).advanceTo (0x123456789 : Dword), ?_, ?_, ?_, ?_⟩
    · first | rfl | decide +kernel
    · first | decide +kernel | rfl
    · decide +kernel
    · first | decide +kernel | rfl

/-- States and operands that meet the hypotheses of RepeatedYutreCommandsGetTheStoredReply. -/
theorem witness_RepeatedYutreCommandsGetTheStoredReply :
    (∃ (m : YMsg) (op : ℕ) (body : State → State) (s : State) (t : State), s.serves m op = true ∧ t = yutre m op
      body s) ∧
    (∃ (m : YMsg) (op : ℕ) (body : State → State) (s : State) (e : YutreSeen), s.serves m op = true ∧
      s.lastYutre m = some e ∧ e.seq = m.sq.toNat) ∧
    (∃ (s : State), s.rst.inst = false) := by
  refine ⟨?_, ?_, ?_⟩
  · refine ⟨⟨.host, 0, 0, 3, 1, 7, 0, 0, []⟩, 1, id, st [(FW_CORE.STATE 2, 1)], yutre (⟨.host, 0, 0, 3, 1, 7, 0, 0, []⟩ : YMsg) 1 id (st [(FW_CORE.STATE 2, 1)]), ?_, ?_⟩
    · first | decide +kernel | rfl
    · first | rfl | decide +kernel
  · refine ⟨⟨.host, 0, 0, 3, 1, 7, 0, 0, []⟩, 1, id, { st [(FW_CORE.STATE 2, 1)] with yutre := [⟨0, 0, 0, 7, [1, 2]⟩] }, ⟨0, 0, 0, 7, [1, 2]⟩, ?_, ?_, ?_⟩
    · first | decide +kernel | rfl
    · first | decide +kernel | rfl
    · first | decide +kernel | rfl
  · refine ⟨{ State.reset with rst := { State.reset.rst with inst := false, por := false } }, ?_⟩
    · first | decide +kernel | rfl

/-- States and operands that meet the hypotheses of YutreChecksComeBeforeTheOpcode. -/
theorem witness_YutreChecksComeBeforeTheOpcode :
    (∃ (m : YMsg) (op : ℕ) (body : State → State) (s : State), s.serves m op = false) ∧
    (∃ (m : YMsg) (op : ℕ) (body : State → State) (s : State), s.serves m op = true ∧ (∀ e, s.lastYutre m = some
      e → e.seq ≠ m.sq.toNat) ∧ m.vmaj ≠ 3) ∧
    (∃ (m : YMsg) (op : ℕ) (body : State → State) (s : State), s.serves m op = true ∧ (∀ e, s.lastYutre m = some
      e → e.seq ≠ m.sq.toNat) ∧ m.vmaj = 3 ∧ (56 < m.len.toNat ∨ 8 ≤ m.flags.toNat ∨ m.flags.toNat % 2 = 1)) ∧
    (∃ (m : YMsg) (op : ℕ) (body : State → State) (s : State), s.serves m op = true ∧ (∀ e, s.lastYutre m = some
      e → e.seq ≠ m.sq.toNat) ∧ m.vmaj = 3 ∧ m.len.toNat ≤ 56 ∧ m.flags.toNat < 8 ∧ m.flags.toNat % 2 = 0 ∧
      definedOpcode op = true ∧ s.permits m op = false) ∧
    (∃ (m : YMsg) (op : BitVec 16) (s : State), s.serves m op.toNat = true ∧ (∀ e, s.lastYutre m = some e →
      e.seq ≠ m.sq.toNat) ∧ m.vmaj = 3 ∧ m.len.toNat ≤ 56 ∧ m.flags.toNat < 8 ∧ m.flags.toNat % 2 = 0 ∧
      definedOpcode op.toNat = false) ∧
    (∃ (m : YMsg) (op : BitVec 16) (s : State), m.sndr = .host) ∧
    (∃ (m : YMsg) (op : BitVec 16) (s : State), m.sndr = .peer) ∧
    (∃ (m : YMsg) (op : BitVec 16) (s : State), (m.sndr = .sch ∨ m.sndr = .sec ∨ m.sndr = .pmc)) ∧
    (∃ (m : YMsg) (op : ℕ) (u : State) (t : State), op < 65536 ∧ u.rdata.length ≤ 16 ∧ u.Replied m op t) := by
  refine ⟨?_, ?_, ?_, ?_, ?_, ?_, ?_, ?_, ?_⟩
  · refine ⟨⟨.host, 0, 0, 3, 1, 7, 0, 0, []⟩, 0x100, id, State.reset, ?_⟩
    · first | decide +kernel | rfl
  · refine ⟨⟨.host, 0, 0, 4, 1, 7, 0, 0, []⟩, 0x100, id, st [(FW_CORE.STATE 2, 1)], ?_, ?_, ?_⟩
    · first | decide +kernel | rfl
    · first | decide +kernel | rfl
    · decide +kernel
  · refine ⟨⟨.host, 0, 0, 3, 1, 7, 57, 0, []⟩, 0x100, id, st [(FW_CORE.STATE 2, 1)], ?_, ?_, ?_, ?_⟩
    · first | decide +kernel | rfl
    · first | decide +kernel | rfl
    · first | decide +kernel | rfl
    · decide +kernel
  · refine ⟨⟨.dma, 0, 0, 3, 1, 7, 0, 0, []⟩, 0x100, id, st [(FW_CORE.STATE 2, 1), (FW_CORE.STATE 2, 1)], ?_, ?_, ?_, ?_, ?_, ?_, ?_, ?_⟩
    · first | decide +kernel | rfl
    · first | decide +kernel | rfl
    · first | decide +kernel | rfl
    · decide +kernel
    · decide +kernel
    · first | decide +kernel | rfl
    · first | decide +kernel | rfl
    · first | decide +kernel | rfl
  · refine ⟨⟨.host, 0, 0, 3, 1, 7, 0, 0, []⟩, 0x107, st [(FW_CORE.STATE 2, 1)], ?_, ?_, ?_, ?_, ?_, ?_, ?_⟩
    · first | decide +kernel | rfl
    · first | decide +kernel | rfl
    · first | decide +kernel | rfl
    · decide +kernel
    · decide +kernel
    · first | decide +kernel | rfl
    · first | decide +kernel | rfl
  · refine ⟨⟨.host, 0, 0, 3, 1, 7, 0, 0, []⟩, 0x100, State.reset, ?_⟩
    · first | decide +kernel | rfl
  · refine ⟨⟨.peer, 0, 0, 3, 1, 7, 0, 0, []⟩, 0x100, State.reset, ?_⟩
    · first | decide +kernel | rfl
  · refine ⟨⟨.pmc, 0, 0, 3, 1, 7, 0, 0, []⟩, 0x100, State.reset, ?_⟩
    · decide +kernel
  · refine ⟨⟨.host, 0, 0, 3, 1, 7, 0, 0, []⟩, 0xFFFF, State.reset, { State.reset with rdata := replyWords (⟨.host, 0, 0, 3, 1, 7, 0, 0, []⟩ : YMsg) 0xFFFF [], yutre := [⟨0, 0, 0, 7, replyWords (⟨.host, 0, 0, 3, 1, 7, 0, 0, []⟩ : YMsg) 0xFFFF []⟩] }, ?_, ?_, ?_⟩
    · decide +kernel
    · decide +kernel
    · exact rfl

/-- States and operands that meet the hypotheses of YutreStatusAndPowerOpcodesComplete (part 1). -/
theorem witness_YutreStatusAndPowerOpcodesComplete_1 :
    (∃ (m : YMsg) (s : State), s.Accepts m 0x100) ∧
    (∃ (m : YMsg) (s : State), s.Accepts m 0x101) ∧
    (∃ (m : YMsg) (s : State), s.Accepts m 0x102 ∧ (m.b8 4 = 0 ∨ 12 < m.b8 4 ∨ m.b32 0 % 4 ≠ 0 ∨ 2 ^ 25 < m.b32
      0 + 4 * m.b8 4)) ∧
    (∃ (m : YMsg) (s : State), s.Accepts m 0x102 ∧ (1 ≤ m.b8 4 ∧ m.b8 4 ≤ 12 ∧ m.b32 0 % 4 = 0 ∧ m.b32 0 + 4 *
      m.b8 4 ≤ 2 ^ 25)) ∧
    (∃ (m : YMsg) (s : State), s.Accepts m 0x103 ∧ (m.b32 0 % 4 ≠ 0 ∨ 2 ^ 25 ≤ m.b32 0)) ∧
    (∃ (m : YMsg) (s : State), s.Accepts m 0x103 ∧ (m.b32 0 % 4 = 0 ∧ m.b32 0 < 2 ^ 25 ∧ resultOf (m.b32 0) =
      none)) ∧
    (∃ (m : YMsg) (s : State) (f : Fld), s.Accepts m 0x103 ∧ (m.b32 0 % 4 = 0 ∧ m.b32 0 < 2 ^ 25 ∧ resultOf
      (m.b32 0) = some f)) ∧
    (∃ (m : YMsg) (s : State), s.Accepts m 0x104 ∧ m.b8 0 = 0) ∧
    (∃ (m : YMsg) (s : State), s.Accepts m 0x104 ∧ (1 ≤ m.b8 0 ∧ m.b8 0 ≤ 255)) ∧
    (∃ (m : YMsg) (s : State), s.Accepts m 0x105) ∧
    (∃ (m : YMsg) (s : State) (pairs : List (ℕ × Word)), s.Accepts m 0x106 ∧ (pairs = (List.range (m.b8 0)).map
      (fun k => (m.b32 (4 + 8 * k), m.word (8 + 8 * k)))) ∧ (m.b8 0 = 0 ∨ 6 < m.b8 0 ∨ (pairs.all fun e =>
      configOffset e.1) = false)) ∧
    (∃ (m : YMsg) (s : State) (pairs : List (ℕ × Word)), s.Accepts m 0x106 ∧ (pairs = (List.range (m.b8 0)).map
      (fun k => (m.b32 (4 + 8 * k), m.word (8 + 8 * k)))) ∧ 1 ≤ m.b8 0 ∧ m.b8 0 ≤ 6 ∧ ((pairs.all fun e =>
      configOffset e.1) = true) ∧ m.b8 1 % 2 = 0) ∧
    (∃ (m : YMsg) (s : State) (pairs : List (ℕ × Word)) (u : State), s.Accepts m 0x106 ∧ (pairs = (List.range
      (m.b8 0)).map (fun k => (m.b32 (4 + 8 * k), m.word (8 + 8 * k)))) ∧ 1 ≤ m.b8 0 ∧ m.b8 0 ≤ 6 ∧ ((pairs.all
      fun e => configOffset e.1) = true) ∧ m.b8 1 % 2 = 1 ∧ u = commitToEnd (schWrite RGN_CFG_CTRL 1 (schWrites
      pairs s))) ∧
    (∃ (m : YMsg) (s : State), s.Accepts m 0x200) ∧
    (∃ (m : YMsg) (s : State), s.Accepts m 0x201 ∧ s.inst ≠ 0) ∧
    (∃ (m : YMsg) (s : State), s.Accepts m 0x201 ∧ s.inst = 0) ∧
    (∃ (m : YMsg) (s : State), s.Accepts m 0x202 ∧ (m.b8 0 = 0 ∨ 256 ≤ m.b8 0 ∨ 15 < m.b8 1 ∨ 511 < m.b16 2 ∨
      4095 < m.b16 4 ∨ 1 < m.b8 6)) ∧
    (∃ (m : YMsg) (s : State), s.Accepts m 0x202 ∧ ((1 ≤ m.b8 0 ∧ m.b8 0 ≤ 255 ∧ m.b8 1 ≤ 15 ∧ m.b16 2 ≤ 511 ∧
      m.b16 4 ≤ 4095 ∧ m.b8 6 ≤ 1) ∧ s.get PWR_CTRL.OP_EN = 1 ∧ s.rgnState (m.b8 0) ≠ 0)) ∧
    (∃ (m : YMsg) (s : State), s.Accepts m 0x202 ∧ ((1 ≤ m.b8 0 ∧ m.b8 0 ≤ 255 ∧ m.b8 1 ≤ 15 ∧ m.b16 2 ≤ 511 ∧
      m.b16 4 ≤ 4095 ∧ m.b8 6 ≤ 1) ∧ (s.get PWR_CTRL.OP_EN = 0 ∨ s.rgnState (m.b8 0) = 0))) ∧
    (∃ (m : YMsg) (s : State), s.Accepts m 0x203 ∧ 63 < m.b8 0) ∧
    (∃ (m : YMsg) (s : State), s.Accepts m 0x203 ∧ m.b8 0 ≤ 63) ∧
    (∃ (m : YMsg) (s : State) (u : State), s.Accepts m 0x204 ∧ u = opValidate (schWrite PWR_CTRL (w32 (m.b8 2 %
      16 * 2 ^ 20 + m.b8 1 % 16 * 2 ^ 16 + m.b8 0 % 32)) s) ∧ (m.b8 0 % 2 = 1 ∧ u.get PWR_CTRL.OP_EN = 0)) ∧
    (∃ (m : YMsg) (s : State) (u : State), s.Accepts m 0x204 ∧ u = opValidate (schWrite PWR_CTRL (w32 (m.b8 2 %
      16 * 2 ^ 20 + m.b8 1 % 16 * 2 ^ 16 + m.b8 0 % 32)) s) ∧ (m.b8 0 % 2 = 0 ∨ u.get PWR_CTRL.OP_EN = 1)) ∧
    (∃ (m : YMsg) (s : State), s.Accepts m 0x205 ∧ m.b8 0 = 0) := by
  refine ⟨?_, ?_, ?_, ?_, ?_, ?_, ?_, ?_, ?_, ?_, ?_, ?_, ?_, ?_, ?_, ?_, ?_, ?_, ?_, ?_, ?_, ?_, ?_, ?_⟩
  · refine ⟨⟨.host, 0, 0, 3, 1, 7, 0, 0, []⟩, st [(FW_CORE.STATE 2, 1)], ?_⟩
    · exact accepts_of (by decide +kernel)
  · refine ⟨⟨.host, 0, 0, 3, 1, 7, 0, 0, []⟩, st [(FW_CORE.STATE 2, 1)], ?_⟩
    · exact accepts_of (by decide +kernel)
  · refine ⟨⟨.host, 0, 0, 3, 1, 7, 5, 0, [0, 0, 0, 0, 0]⟩, st [(FW_CORE.STATE 2, 1)], ?_, ?_⟩
    · exact accepts_of (by decide +kernel)
    · decide +kernel
  · refine ⟨⟨.host, 0, 0, 3, 1, 7, 5, 0, [0, 0, 0, 0, 1]⟩, st [(FW_CORE.STATE 2, 1)], ?_, ?_⟩
    · exact accepts_of (by decide +kernel)
    · decide +kernel
  · refine ⟨⟨.host, 0, 0, 3, 1, 7, 4, 0, [1, 0, 0, 0]⟩, st [(FW_CORE.STATE 2, 1)], ?_, ?_⟩
    · exact accepts_of (by decide +kernel)
    · decide +kernel
  · refine ⟨⟨.host, 0, 0, 3, 1, 7, 4, 0, [0, 0, 0, 0]⟩, st [(FW_CORE.STATE 2, 1)], ?_, ?_⟩
    · exact accepts_of (by decide +kernel)
    · decide +kernel
  · refine ⟨⟨.host, 0, 0, 3, 1, 7, 4, 0, [0, 0, 8, 0]⟩, st [(FW_CORE.STATE 2, 1)], XPH_CMD.RES, ?_, ?_⟩
    · exact accepts_of (by decide +kernel)
    · decide +kernel
  · refine ⟨⟨.host, 0, 0, 3, 1, 7, 1, 0, [0]⟩, st [(FW_CORE.STATE 2, 1)], ?_, ?_⟩
    · exact accepts_of (by decide +kernel)
    · first | decide +kernel | rfl
  · refine ⟨⟨.host, 0, 0, 3, 1, 7, 1, 0, [1]⟩, st [(FW_CORE.STATE 2, 1)], ?_, ?_⟩
    · exact accepts_of (by decide +kernel)
    · decide +kernel
  · refine ⟨⟨.host, 0, 0, 3, 1, 7, 0, 0, []⟩, st [(FW_CORE.STATE 2, 1)], ?_⟩
    · exact accepts_of (by decide +kernel)
  · refine ⟨⟨.host, 0, 0, 3, 1, 7, 1, 0, [7]⟩, st [(FW_CORE.STATE 2, 1)], (List.range ((⟨.host, 0, 0, 3, 1, 7, 1, 0, [7]⟩ : YMsg).b8 0)).map (fun k => ((⟨.host, 0, 0, 3, 1, 7, 1, 0, [7]⟩ : YMsg).b32 (4 + 8 * k), (⟨.host, 0, 0, 3, 1, 7, 1, 0, [7]⟩ : YMsg).word (8 + 8 * k))), ?_, ?_, ?_⟩
    · exact accepts_of (by decide +kernel)
    · first | rfl | decide +kernel
    · decide +kernel
  · refine ⟨⟨.host, 0, 0, 3, 1, 7, 8, 0, [1, 0, 0, 0, 32, 255, 16, 0]⟩, st [(FW_CORE.STATE 2, 1)], (List.range ((⟨.host, 0, 0, 3, 1, 7, 8, 0, [1, 0, 0, 0, 32, 255, 16, 0]⟩ : YMsg).b8 0)).map (fun k => ((⟨.host, 0, 0, 3, 1, 7, 8, 0, [1, 0, 0, 0, 32, 255, 16, 0]⟩ : YMsg).b32 (4 + 8 * k), (⟨.host, 0, 0, 3, 1, 7, 8, 0, [1, 0, 0, 0, 32, 255, 16, 0]⟩ : YMsg).word (8 + 8 * k))), ?_, ?_, ?_, ?_, ?_, ?_⟩
    · exact accepts_of (by decide +kernel)
    · first | rfl | decide +kernel
    · decide +kernel
    · decide +kernel
    · first | decide +kernel | rfl
    · first | decide +kernel | rfl
  · refine ⟨⟨.host, 0, 0, 3, 1, 7, 8, 0, [1, 1, 0, 0, 32, 255, 16, 0]⟩, st [(FW_CORE.STATE 2, 1)], (List.range ((⟨.host, 0, 0, 3, 1, 7, 8, 0, [1, 1, 0, 0, 32, 255, 16, 0]⟩ : YMsg).b8 0)).map (fun k => ((⟨.host, 0, 0, 3, 1, 7, 8, 0, [1, 1, 0, 0, 32, 255, 16, 0]⟩ : YMsg).b32 (4 + 8 * k), (⟨.host, 0, 0, 3, 1, 7, 8, 0, [1, 1, 0, 0, 32, 255, 16, 0]⟩ : YMsg).word (8 + 8 * k))), commitToEnd (schWrite RGN_CFG_CTRL 1 (schWrites ((List.range ((⟨.host, 0, 0, 3, 1, 7, 8, 0, [1, 1, 0, 0, 32, 255, 16, 0]⟩ : YMsg).b8 0)).map (fun k => ((⟨.host, 0, 0, 3, 1, 7, 8, 0, [1, 1, 0, 0, 32, 255, 16, 0]⟩ : YMsg).b32 (4 + 8 * k), (⟨.host, 0, 0, 3, 1, 7, 8, 0, [1, 1, 0, 0, 32, 255, 16, 0]⟩ : YMsg).word (8 + 8 * k)))) (st [(FW_CORE.STATE 2, 1)]))), ?_, ?_, ?_, ?_, ?_, ?_, ?_⟩
    · exact accepts_of (by decide +kernel)
    · first | rfl | decide +kernel
    · decide +kernel
    · decide +kernel
    · first | decide +kernel | rfl
    · first | decide +kernel | rfl
    · first | rfl | decide +kernel
  · refine ⟨⟨.host, 0, 0, 3, 1, 7, 0, 0, []⟩, st [(FW_CORE.STATE 2, 1)], ?_⟩
    · exact accepts_of (by decide +kernel)
  · refine ⟨⟨.host, 0, 0, 3, 1, 7, 0, 0, []⟩, { st [(FW_CORE.STATE 2, 1)] with efuse := { State.reset.efuse with inst := 1 } }, ?_, ?_⟩
    · exact accepts_of (by decide +kernel)
    · decide +kernel
  · refine ⟨⟨.host, 0, 0, 3, 1, 7, 0, 0, []⟩, { st [(FW_CORE.STATE 2, 1)] with efuse := { State.reset.efuse with inst := 0 } }, ?_, ?_⟩
    · exact accepts_of (by decide +kernel)
    · first | decide +kernel | rfl
  · refine ⟨⟨.host, 0, 0, 3, 1, 7, 1, 0, [0]⟩, st [(FW_CORE.STATE 2, 1)], ?_, ?_⟩
    · exact accepts_of (by decide +kernel)
    · decide +kernel
  · refine ⟨⟨.host, 0, 0, 3, 1, 7, 2, 0, [255, 15]⟩, st [(FW_CORE.STATE 2, 1), (PWR_CTRL.OP_EN, 1), (RGN_STAT.STATE 255, 2)], ?_, ?_⟩
    · exact accepts_of (by decide +kernel)
    · decide +kernel
  · refine ⟨⟨.host, 0, 0, 3, 1, 7, 7, 0, [255, 15, 255, 1, 255, 15, 1]⟩, st [(FW_CORE.STATE 2, 1), (PWR_CTRL.OP_EN, 0)], ?_, ?_⟩
    · exact accepts_of (by decide +kernel)
    · decide +kernel
  · refine ⟨⟨.host, 0, 0, 3, 1, 7, 1, 0, [64]⟩, st [(FW_CORE.STATE 2, 1)], ?_, ?_⟩
    · exact accepts_of (by decide +kernel)
    · decide +kernel
  · refine ⟨⟨.host, 0, 0, 3, 1, 7, 0, 0, []⟩, st [(FW_CORE.STATE 2, 1)], ?_, ?_⟩
    · exact accepts_of (by decide +kernel)
    · decide +kernel
  · refine ⟨⟨.host, 0, 0, 3, 1, 7, 1, 0, [1]⟩, st [(FW_CORE.STATE 2, 1), (PWR_CTRL.OP_EN, 0), (PWR_OP.FMHZ 255 0, 1), (PWR_OP.VALID 255 5, 1)], opValidate (schWrite PWR_CTRL (w32 ((⟨.host, 0, 0, 3, 1, 7, 1, 0, [1]⟩ : YMsg).b8 2 % 16 * 2 ^ 20 + (⟨.host, 0, 0, 3, 1, 7, 1, 0, [1]⟩ : YMsg).b8 1 % 16 * 2 ^ 16 + (⟨.host, 0, 0, 3, 1, 7, 1, 0, [1]⟩ : YMsg).b8 0 % 32)) (st [(FW_CORE.STATE 2, 1), (PWR_CTRL.OP_EN, 0), (PWR_OP.FMHZ 255 0, 1), (PWR_OP.VALID 255 5, 1)])), ?_, ?_, ?_⟩
    · exact accepts_of (by decide +kernel)
    · first | rfl | decide +kernel
    · decide +kernel
  · refine ⟨⟨.host, 0, 0, 3, 1, 7, 1, 0, [0]⟩, st [(FW_CORE.STATE 2, 1)], opValidate (schWrite PWR_CTRL (w32 ((⟨.host, 0, 0, 3, 1, 7, 1, 0, [0]⟩ : YMsg).b8 2 % 16 * 2 ^ 20 + (⟨.host, 0, 0, 3, 1, 7, 1, 0, [0]⟩ : YMsg).b8 1 % 16 * 2 ^ 16 + (⟨.host, 0, 0, 3, 1, 7, 1, 0, [0]⟩ : YMsg).b8 0 % 32)) (st [(FW_CORE.STATE 2, 1)])), ?_, ?_, ?_⟩
    · exact accepts_of (by decide +kernel)
    · first | rfl | decide +kernel
    · decide +kernel
  · refine ⟨⟨.host, 0, 0, 3, 1, 7, 1, 0, [0]⟩, st [(FW_CORE.STATE 2, 1)], ?_, ?_⟩
    · exact accepts_of (by decide +kernel)
    · first | decide +kernel | rfl

/-- States and operands that meet the hypotheses of YutreStatusAndPowerOpcodesComplete (part 2). -/
theorem witness_YutreStatusAndPowerOpcodesComplete_2 :
    (∃ (m : YMsg) (s : State), s.Accepts m 0x205 ∧ (1 ≤ m.b8 0 ∧ m.b8 0 ≤ 255)) := by
  refine ⟨⟨.host, 0, 0, 3, 1, 7, 1, 0, [1]⟩, st [(FW_CORE.STATE 2, 1)], ?_, ?_⟩
  · exact accepts_of (by decide +kernel)
  · decide +kernel

/-- States and operands that meet the hypotheses of YutreFleetOpcodesComplete. -/
theorem witness_YutreFleetOpcodesComplete :
    (∃ (m : YMsg) (s : State), s.Accepts m 0x400) ∧
    (∃ (m : YMsg) (s : State), s.Accepts m 0x401) ∧
    (∃ (role : ℕ) (hb : ℕ) (pkg : ℕ) (mask : ℕ) (eps : List ℕ) (s : State) (a : State) (b : State) (c : State),
      2 ^ 17 ≤ mask) ∧
    (∃ (role : ℕ) (hb : ℕ) (pkg : ℕ) (mask : ℕ) (eps : List ℕ) (s : State) (a : State) (b : State) (c : State),
      mask < 2 ^ 17 ∧ a = schWrite CPLR_ID (w32 (pkg % 32768 * 4)) (schWrite CPLR_CTRL (s.rd CPLR_CTRL &&&
      0x7FFFFFFF) s) ∧ (b = a.each (List.range 17) (fun s e => schWrite (CPLR_EP_CFG e) (w32
      (match ((bitsOf mask 17).zip eps).find? fun x => x.1 == e with | some (_, x) => (if 32768 ≤ x then 1 else 2) * 2 ^ 30 + x % 32768 | none => 0))
      s)) ∧ c = schWrite CPLR_CTRL (w32 (role % 4 * 2 ^ 29 + hb % 16 + 2 ^ 31)) (schWrite CPLR_CTRL (w32 (role %
      4 * 2 ^ 29 + hb % 16)) b) ∧ c.get CPLR_CTRL.EN = 0) ∧
    (∃ (role : ℕ) (hb : ℕ) (pkg : ℕ) (mask : ℕ) (eps : List ℕ) (s : State) (a : State) (b : State) (c : State),
      mask < 2 ^ 17 ∧ a = schWrite CPLR_ID (w32 (pkg % 32768 * 4)) (schWrite CPLR_CTRL (s.rd CPLR_CTRL &&&
      0x7FFFFFFF) s) ∧ (b = a.each (List.range 17) (fun s e => schWrite (CPLR_EP_CFG e) (w32
      (match ((bitsOf mask 17).zip eps).find? fun x => x.1 == e with | some (_, x) => (if 32768 ≤ x then 1 else 2) * 2 ^ 30 + x % 32768 | none => 0))
      s)) ∧ c = schWrite CPLR_CTRL (w32 (role % 4 * 2 ^ 29 + hb % 16 + 2 ^ 31)) (schWrite CPLR_CTRL (w32 (role %
      4 * 2 ^ 29 + hb % 16)) b) ∧ c.get CPLR_CTRL.EN = 1) ∧
    (∃ (m : YMsg) (s : State), s.Accepts m 0x402 ∧ 3 < m.b8 0) ∧
    (∃ (m : YMsg) (s : State), s.Accepts m 0x402 ∧ m.b8 0 ≤ 3) ∧
    (∃ (m : YMsg) (s : State), s.Accepts m 0x403 ∧ s.isRoot = false) ∧
    (∃ (m : YMsg) (s : State), s.Accepts m 0x403 ∧ s.isRoot = true) ∧
    (∃ (m : YMsg) (s : State), s.Accepts m 0x404) ∧
    (∃ (m : YMsg) (s : State), s.Accepts m 0x405) ∧
    (∃ (m : YMsg) (s : State), s.Accepts m 0x406 ∧ 3 < m.b8 0) ∧
    (∃ (m : YMsg) (s : State), s.Accepts m 0x406 ∧ m.b8 0 ≤ 3) := by
  refine ⟨?_, ?_, ?_, ?_, ?_, ?_, ?_, ?_, ?_, ?_, ?_, ?_, ?_⟩
  · refine ⟨⟨.host, 0, 0, 3, 1, 7, 0, 0, []⟩, st [(FW_CORE.STATE 2, 1)], ?_⟩
    · exact accepts_of (by decide +kernel)
  · refine ⟨⟨.host, 0, 0, 3, 1, 7, 0, 0, []⟩, st [(FW_CORE.STATE 2, 1)], ?_⟩
    · exact accepts_of (by decide +kernel)
  · refine ⟨1, 1, 1, 131072, [], State.reset, State.reset, State.reset, State.reset, ?_⟩
    · decide +kernel
  · refine ⟨1, 1, 1, 3, [32768, 32768], State.reset, schWrite CPLR_ID (w32 (1 % 32768 * 4)) (schWrite CPLR_CTRL (State.reset.rd CPLR_CTRL &&& 0x7FFFFFFF) State.reset), (schWrite CPLR_ID (w32 (1 % 32768 * 4)) (schWrite CPLR_CTRL (State.reset.rd CPLR_CTRL &&& 0x7FFFFFFF) State.reset)).each (List.range 17) (fun s e => schWrite (CPLR_EP_CFG e) (w32 (match ((bitsOf 3 17).zip ([32768, 32768])).find? fun x => x.1 == e with | some (_, x) => (if 32768 ≤ x then 1 else 2) * 2 ^ 30 + x % 32768 | none => 0)) s), schWrite CPLR_CTRL (w32 (1 % 4 * 2 ^ 29 + 1 % 16 + 2 ^ 31)) (schWrite CPLR_CTRL (w32 (1 % 4 * 2 ^ 29 + 1 % 16)) ((schWrite CPLR_ID (w32 (1 % 32768 * 4)) (schWrite CPLR_CTRL (State.reset.rd CPLR_CTRL &&& 0x7FFFFFFF) State.reset)).each (List.range 17) (fun s e => schWrite (CPLR_EP_CFG e) (w32 (match ((bitsOf 3 17).zip ([32768, 32768])).find? fun x => x.1 == e with | some (_, x) => (if 32768 ≤ x then 1 else 2) * 2 ^ 30 + x % 32768 | none => 0)) s))), ?_, ?_, ?_, ?_, ?_⟩
    · decide +kernel
    · first | rfl | decide +kernel
    · first | rfl | decide +kernel
    · first | rfl | decide +kernel
    · first | decide +kernel | rfl
  · refine ⟨0, 5, 1, 1, [32769], { State.reset with rst := { State.reset.rst with inst := false, por := false } }, schWrite CPLR_ID (w32 (1 % 32768 * 4)) (schWrite CPLR_CTRL (({ State.reset with rst := { State.reset.rst with inst := false, por := false } }).rd CPLR_CTRL &&& 0x7FFFFFFF) ({ State.reset with rst := { State.reset.rst with inst := false, por := false } })), (schWrite CPLR_ID (w32 (1 % 32768 * 4)) (schWrite CPLR_CTRL (({ State.reset with rst := { State.reset.rst with inst := false, por := false } }).rd CPLR_CTRL &&& 0x7FFFFFFF) ({ State.reset with rst := { State.reset.rst with inst := false, por := false } }))).each (List.range 17) (fun s e => schWrite (CPLR_EP_CFG e) (w32 (match ((bitsOf 1 17).zip ([32769])).find? fun x => x.1 == e with | some (_, x) => (if 32768 ≤ x then 1 else 2) * 2 ^ 30 + x % 32768 | none => 0)) s), schWrite CPLR_CTRL (w32 (0 % 4 * 2 ^ 29 + 5 % 16 + 2 ^ 31)) (schWrite CPLR_CTRL (w32 (0 % 4 * 2 ^ 29 + 5 % 16)) ((schWrite CPLR_ID (w32 (1 % 32768 * 4)) (schWrite CPLR_CTRL (({ State.reset with rst := { State.reset.rst with inst := false, por := false } }).rd CPLR_CTRL &&& 0x7FFFFFFF) ({ State.reset with rst := { State.reset.rst with inst := false, por := false } }))).each (List.range 17) (fun s e => schWrite (CPLR_EP_CFG e) (w32 (match ((bitsOf 1 17).zip ([32769])).find? fun x => x.1 == e with | some (_, x) => (if 32768 ≤ x then 1 else 2) * 2 ^ 30 + x % 32768 | none => 0)) s))), ?_, ?_, ?_, ?_, ?_⟩
    · decide +kernel
    · first | rfl | decide +kernel
    · first | rfl | decide +kernel
    · first | rfl | decide +kernel
    · decide +kernel
  · refine ⟨⟨.host, 0, 0, 3, 1, 7, 1, 0, [4]⟩, st [(FW_CORE.STATE 2, 1)], ?_, ?_⟩
    · exact accepts_of (by decide +kernel)
    · decide +kernel
  · refine ⟨⟨.host, 0, 0, 3, 1, 7, 0, 0, []⟩, st [(FW_CORE.STATE 2, 1)], ?_, ?_⟩
    · exact accepts_of (by decide +kernel)
    · decide +kernel
  · refine ⟨⟨.host, 0, 0, 3, 1, 7, 0, 0, []⟩, st [(FW_CORE.STATE 2, 1)], ?_, ?_⟩
    · exact accepts_of (by decide +kernel)
    · first | decide +kernel | rfl
  · refine ⟨⟨.host, 0, 0, 3, 1, 7, 0, 0, []⟩, st [(FW_CORE.STATE 2, 1), (CPLR_CTRL.EN, 1), (CPLR_CTRL.ROLE, 1)], ?_, ?_⟩
    · exact accepts_of (by decide +kernel)
    · first | decide +kernel | rfl
  · refine ⟨⟨.host, 0, 0, 3, 1, 7, 0, 0, []⟩, st [(FW_CORE.STATE 2, 1)], ?_⟩
    · exact accepts_of (by decide +kernel)
  · refine ⟨⟨.host, 0, 0, 3, 1, 7, 0, 0, []⟩, st [(FW_CORE.STATE 2, 1)], ?_⟩
    · exact accepts_of (by decide +kernel)
  · refine ⟨⟨.host, 0, 0, 3, 1, 7, 1, 0, [4]⟩, st [(FW_CORE.STATE 2, 1)], ?_, ?_⟩
    · exact accepts_of (by decide +kernel)
    · decide +kernel
  · refine ⟨⟨.host, 0, 0, 3, 1, 7, 0, 0, []⟩, st [(FW_CORE.STATE 2, 1)], ?_, ?_⟩
    · exact accepts_of (by decide +kernel)
    · decide +kernel

/-- States and operands that meet the hypotheses of YutreForecastTelemetryAndTestOpcodesComplete (part 1). -/
theorem witness_YutreForecastTelemetryAndTestOpcodesComplete_1 :
    (∃ (m : YMsg) (data : List Word) (ok : Bool) (s : State) (n : ℕ), s.Accepts m 0x300 ∧ n = m.b32 8 / 16 ∧
      (m.descOk 0 16 0 (fun n => n % 16 == 0) = false ∨ 65536 < m.b16 16 + n)) ∧
    (∃ (m : YMsg) (data : List Word) (ok : Bool) (s : State) (n : ℕ), s.Accepts m 0x300 ∧ n = m.b32 8 / 16 ∧
      (m.descOk 0 16 0 (fun n => n % 16 == 0) = true) ∧ m.b16 16 + n ≤ 65536 ∧ s.get TTB_DMA_CTRL.BUSY = 1) ∧
    (∃ (m : YMsg) (data : List Word) (ok : Bool) (s : State) (n : ℕ) (u : State) (v : State), s.Accepts m 0x300
      ∧ n = m.b32 8 / 16 ∧ (m.descOk 0 16 0 (fun n => n % 16 == 0) = true) ∧ m.b16 16 + n ≤ 65536 ∧ s.get
      TTB_DMA_CTRL.BUSY = 0 ∧ u = schWrites [(TTB_DMA_SRC_LO, w32 (m.b64 0)), (TTB_DMA_SRC_HI, w32 (m.b64 0 / 2
      ^ 32)), (TTB_DMA_LEN, w32 (n % 65536 * 65536 + m.b16 16)), (TTB_DMA_CTRL, 1)] (schWrite TTB_CTRL 2 s) ∧ (v
      = ttbDmaFinish ok (u.each (List.range (if ok then n else min n (data.length / 4))) fun s i => ttbDmaEntry
      ((List.range 4).map fun w => hostWord data (4 * i + w)) (dmaSlot s))) ∧ ok = false) ∧
    (∃ (m : YMsg) (data : List Word) (ok : Bool) (s : State) (n : ℕ) (u : State) (v : State) (w : State),
      s.Accepts m 0x300 ∧ n = m.b32 8 / 16 ∧ (m.descOk 0 16 0 (fun n => n % 16 == 0) = true) ∧ m.b16 16 + n ≤
      65536 ∧ s.get TTB_DMA_CTRL.BUSY = 0 ∧ u = schWrites [(TTB_DMA_SRC_LO, w32 (m.b64 0)), (TTB_DMA_SRC_HI, w32
      (m.b64 0 / 2 ^ 32)), (TTB_DMA_LEN, w32 (n % 65536 * 65536 + m.b16 16)), (TTB_DMA_CTRL, 1)] (schWrite
      TTB_CTRL 2 s) ∧ (v = ttbDmaFinish ok (u.each (List.range (if ok then n else min n (data.length / 4))) fun
      s i => ttbDmaEntry ((List.range 4).map fun w => hostWord data (4 * i + w)) (dmaSlot s))) ∧ ok = true ∧
      (m.b8 22 % 2 = 1 → w = schWrite TTB_CTRL 1 (schWrite TTB_RANGE (w32 (m.b16 20 * 65536 + m.b16 18)) v)) ∧
      (m.b8 22 % 2 = 0 → w = schWrite TTB_RANGE (w32 (m.b16 20 * 65536 + m.b16 18)) v)) ∧
    (∃ (m : YMsg) (data : Option (List Word)) (s : State) (n : ℕ), s.Accepts m 0x301 ∧ n = m.b32 8 / 32 ∧
      (m.descOk 0 1 0 (fun n => n % 32 == 0) = false ∨ 256 < m.b8 16 + n)) ∧
    (∃ (m : YMsg) (data : Option (List Word)) (s : State) (n : ℕ), s.Accepts m 0x301 ∧ n = m.b32 8 / 32 ∧
      (m.descOk 0 1 0 (fun n => n % 32 == 0) = true) ∧ m.b8 16 + n ≤ 256 ∧ data = none) ∧
    (∃ (m : YMsg) (data : Option (List Word)) (s : State) (n : ℕ) (d : List Word), s.Accepts m 0x301 ∧ n = m.b32
      8 / 32 ∧ (m.descOk 0 1 0 (fun n => n % 32 == 0) = true) ∧ m.b8 16 + n ≤ 256 ∧ data = some d) ∧
    (∃ (m : YMsg) (data : Option (List Word)) (s : State) (u : State) (ok : Bool), s.Accepts m 0x302 ∧ (ok =
      m.descOk 0 4 0 (fun n => decide (2080 ≤ n) && decide (n ≤ 67616))) ∧ u = odrStop s ∧ ok = false) ∧
    (∃ (m : YMsg) (data : Option (List Word)) (s : State) (u : State) (ok : Bool), s.Accepts m 0x302 ∧ (ok =
      m.descOk 0 4 0 (fun n => decide (2080 ≤ n) && decide (n ≤ 67616))) ∧ u = odrStop s ∧ ok = true ∧
      (u.odrState ≠ 0 ∨ u.get OUT_DMA_CTRL.BUSY = 1)) ∧
    (∃ (m : YMsg) (data : Option (List Word)) (s : State) (u : State) (ok : Bool), s.Accepts m 0x302 ∧ (ok =
      m.descOk 0 4 0 (fun n => decide (2080 ≤ n) && decide (n ≤ 67616))) ∧ u = odrStop s ∧ ok = true ∧
      u.odrState = 0 ∧ u.get OUT_DMA_CTRL.BUSY = 0 ∧ data = none) ∧
    (∃ (m : YMsg) (data : Option (List Word)) (s : State) (u : State) (ok : Bool) (d : List Word) (v : State),
      s.Accepts m 0x302 ∧ (ok = m.descOk 0 4 0 (fun n => decide (2080 ≤ n) && decide (n ≤ 67616))) ∧ u = odrStop
      s ∧ ok = true ∧ u.odrState = 0 ∧ u.get OUT_DMA_CTRL.BUSY = 0 ∧ data = some d ∧ v = schWrites (weightImage
      (m.b32 8) d) u ∧ m.b8 16 % 2 = 0) ∧
    (∃ (m : YMsg) (data : Option (List Word)) (s : State) (u : State) (ok : Bool) (d : List Word) (v : State) (w
      : State), s.Accepts m 0x302 ∧ (ok = m.descOk 0 4 0 (fun n => decide (2080 ≤ n) && decide (n ≤ 67616))) ∧ u
      = odrStop s ∧ ok = true ∧ u.odrState = 0 ∧ u.get OUT_DMA_CTRL.BUSY = 0 ∧ data = some d ∧ v = schWrites
      (weightImage (m.b32 8) d) u ∧ m.b8 16 % 2 = 1 ∧ w = odrValidated (schWrite OUT_CTL ((v.rd OUT_CTL &&&
      0xFFFFF8) ||| 1) v)) ∧
    (∃ (m : YMsg) (s : State) (ws : List (ℕ × Word)), s.Accepts m 0x303 ∧ (ws = (((([TTB_CFG, TTB_LEAD,
      TTB_HOLD, TTB_BUMP, TTB_ETA].zip ((List.range 5).map fun k => m.word (4 + 4 * k))).zipIdx.filter fun e =>
      bitOf (m.b8 1) e.2).map (·.1)) : List (Nat × Word))) ∧ 2 < m.b8 0) ∧
    (∃ (m : YMsg) (s : State) (ws : List (ℕ × Word)), s.Accepts m 0x303 ∧ (ws = (((([TTB_CFG, TTB_LEAD,
      TTB_HOLD, TTB_BUMP, TTB_ETA].zip ((List.range 5).map fun k => m.word (4 + 4 * k))).zipIdx.filter fun e =>
      bitOf (m.b8 1) e.2).map (·.1)) : List (Nat × Word))) ∧ m.b8 0 = 0) ∧
    (∃ (m : YMsg) (s : State) (ws : List (ℕ × Word)), s.Accepts m 0x303 ∧ (ws = (((([TTB_CFG, TTB_LEAD,
      TTB_HOLD, TTB_BUMP, TTB_ETA].zip ((List.range 5).map fun k => m.word (4 + 4 * k))).zipIdx.filter fun e =>
      bitOf (m.b8 1) e.2).map (·.1)) : List (Nat × Word))) ∧ m.b8 0 = 1) ∧
    (∃ (m : YMsg) (s : State) (ws : List (ℕ × Word)), s.Accepts m 0x303 ∧ (ws = (((([TTB_CFG, TTB_LEAD,
      TTB_HOLD, TTB_BUMP, TTB_ETA].zip ((List.range 5).map fun k => m.word (4 + 4 * k))).zipIdx.filter fun e =>
      bitOf (m.b8 1) e.2).map (·.1)) : List (Nat × Word))) ∧ m.b8 0 = 2) ∧
    (∃ (m : YMsg) (s : State), s.Accepts m 0x304) ∧
    (∃ (m : YMsg) (s : State), s.Accepts m 0x500 ∧ (m.b8 0 = 0 ∨ 15 < m.b8 0)) ∧
    (∃ (m : YMsg) (s : State), s.Accepts m 0x500 ∧ (1 ≤ m.b8 0 ∧ m.b8 0 ≤ 15)) ∧
    (∃ (m : YMsg) (s : State), s.Accepts m 0x501 ∧ 15 < m.b8 0) ∧
    (∃ (m : YMsg) (s : State), s.Accepts m 0x501 ∧ m.b8 0 ≤ 15) ∧
    (∃ (m : YMsg) (s : State), s.Accepts m 0x502) ∧
    (∃ (m : YMsg) (s : State), s.Accepts m 0x503 ∧ 15 < m.b8 0) ∧
    (∃ (m : YMsg) (s : State), s.Accepts m 0x503 ∧ m.b8 0 ≤ 15) := by
  refine ⟨?_, ?_, ?_, ?_, ?_, ?_, ?_, ?_, ?_, ?_, ?_, ?_, ?_, ?_, ?_, ?_, ?_, ?_, ?_, ?_, ?_, ?_, ?_, ?_⟩
  · refine ⟨⟨.host, 0, 0, 3, 1, 7, 0, 0, []⟩, [], true, st [(FW_CORE.STATE 2, 1)], (⟨.host, 0, 0, 3, 1, 7, 0, 0, []⟩ : YMsg).b32 8 / 16, ?_, ?_, ?_⟩
    · exact accepts_of (by decide +kernel)
    · first | rfl | decide +kernel
    · decide +kernel
  · refine ⟨⟨.host, 0, 0, 3, 1, 7, 9, 2, [0, 0, 0, 0, 0, 0, 0, 0, 16]⟩, [], true, st [(FW_CORE.STATE 2, 1), (TTB_DMA_CTRL.BUSY, 1)], (⟨.host, 0, 0, 3, 1, 7, 9, 2, [0, 0, 0, 0, 0, 0, 0, 0, 16]⟩ : YMsg).b32 8 / 16, ?_, ?_, ?_, ?_, ?_⟩
    · exact accepts_of (by decide +kernel)
    · first | rfl | decide +kernel
    · first | decide +kernel | rfl
    · decide +kernel
    · first | decide +kernel | rfl
  · refine ⟨⟨.host, 0, 0, 3, 1, 7, 9, 2, [0, 0, 0, 0, 0, 0, 0, 0, 16]⟩, [1, 2, 3, 4], false, st [(TTB_DMA_CTRL.BUSY, 0), (FW_CORE.STATE 2, 1)], (⟨.host, 0, 0, 3, 1, 7, 9, 2, [0, 0, 0, 0, 0, 0, 0, 0, 16]⟩ : YMsg).b32 8 / 16, schWrites [(TTB_DMA_SRC_LO, w32 ((⟨.host, 0, 0, 3, 1, 7, 9, 2, [0, 0, 0, 0, 0, 0, 0, 0, 16]⟩ : YMsg).b64 0)), (TTB_DMA_SRC_HI, w32 ((⟨.host, 0, 0, 3, 1, 7, 9, 2, [0, 0, 0, 0, 0, 0, 0, 0, 16]⟩ : YMsg).b64 0 / 2 ^ 32)), (TTB_DMA_LEN, w32 (((⟨.host, 0, 0, 3, 1, 7, 9, 2, [0, 0, 0, 0, 0, 0, 0, 0, 16]⟩ : YMsg).b32 8 / 16) % 65536 * 65536 + (⟨.host, 0, 0, 3, 1, 7, 9, 2, [0, 0, 0, 0, 0, 0, 0, 0, 16]⟩ : YMsg).b16 16)), (TTB_DMA_CTRL, 1)] (schWrite TTB_CTRL 2 (st [(TTB_DMA_CTRL.BUSY, 0), (FW_CORE.STATE 2, 1)])), ttbDmaFinish false ((schWrites [(TTB_DMA_SRC_LO, w32 ((⟨.host, 0, 0, 3, 1, 7, 9, 2, [0, 0, 0, 0, 0, 0, 0, 0, 16]⟩ : YMsg).b64 0)), (TTB_DMA_SRC_HI, w32 ((⟨.host, 0, 0, 3, 1, 7, 9, 2, [0, 0, 0, 0, 0, 0, 0, 0, 16]⟩ : YMsg).b64 0 / 2 ^ 32)), (TTB_DMA_LEN, w32 (((⟨.host, 0, 0, 3, 1, 7, 9, 2, [0, 0, 0, 0, 0, 0, 0, 0, 16]⟩ : YMsg).b32 8 / 16) % 65536 * 65536 + (⟨.host, 0, 0, 3, 1, 7, 9, 2, [0, 0, 0, 0, 0, 0, 0, 0, 16]⟩ : YMsg).b16 16)), (TTB_DMA_CTRL, 1)] (schWrite TTB_CTRL 2 (st [(TTB_DMA_CTRL.BUSY, 0), (FW_CORE.STATE 2, 1)]))).each (List.range (if false then ((⟨.host, 0, 0, 3, 1, 7, 9, 2, [0, 0, 0, 0, 0, 0, 0, 0, 16]⟩ : YMsg).b32 8 / 16) else min ((⟨.host, 0, 0, 3, 1, 7, 9, 2, [0, 0, 0, 0, 0, 0, 0, 0, 16]⟩ : YMsg).b32 8 / 16) (([1, 2, 3, 4]).length / 4))) fun s i => ttbDmaEntry ((List.range 4).map fun w => hostWord ([1, 2, 3, 4]) (4 * i + w)) (dmaSlot s)), ?_, ?_, ?_, ?_, ?_, ?_, ?_, ?_⟩
    · exact accepts_of (by decide +kernel)
    · first | rfl | decide +kernel
    · first | decide +kernel | rfl
    · decide +kernel
    · first | decide +kernel | rfl
    · first | rfl | decide +kernel
    · first | rfl | decide +kernel
    · first | rfl | decide +kernel
  · refine ⟨⟨.host, 0, 0, 3, 1, 7, 9, 2, [0, 0, 0, 0, 0, 0, 0, 0, 16]⟩, [1, 2, 3, 4], true, st [(TTB_DMA_CTRL.BUSY, 0), (FW_CORE.STATE 2, 1)], (⟨.host, 0, 0, 3, 1, 7, 9, 2, [0, 0, 0, 0, 0, 0, 0, 0, 16]⟩ : YMsg).b32 8 / 16, schWrites [(TTB_DMA_SRC_LO, w32 ((⟨.host, 0, 0, 3, 1, 7, 9, 2, [0, 0, 0, 0, 0, 0, 0, 0, 16]⟩ : YMsg).b64 0)), (TTB_DMA_SRC_HI, w32 ((⟨.host, 0, 0, 3, 1, 7, 9, 2, [0, 0, 0, 0, 0, 0, 0, 0, 16]⟩ : YMsg).b64 0 / 2 ^ 32)), (TTB_DMA_LEN, w32 (((⟨.host, 0, 0, 3, 1, 7, 9, 2, [0, 0, 0, 0, 0, 0, 0, 0, 16]⟩ : YMsg).b32 8 / 16) % 65536 * 65536 + (⟨.host, 0, 0, 3, 1, 7, 9, 2, [0, 0, 0, 0, 0, 0, 0, 0, 16]⟩ : YMsg).b16 16)), (TTB_DMA_CTRL, 1)] (schWrite TTB_CTRL 2 (st [(TTB_DMA_CTRL.BUSY, 0), (FW_CORE.STATE 2, 1)])), ttbDmaFinish true ((schWrites [(TTB_DMA_SRC_LO, w32 ((⟨.host, 0, 0, 3, 1, 7, 9, 2, [0, 0, 0, 0, 0, 0, 0, 0, 16]⟩ : YMsg).b64 0)), (TTB_DMA_SRC_HI, w32 ((⟨.host, 0, 0, 3, 1, 7, 9, 2, [0, 0, 0, 0, 0, 0, 0, 0, 16]⟩ : YMsg).b64 0 / 2 ^ 32)), (TTB_DMA_LEN, w32 (((⟨.host, 0, 0, 3, 1, 7, 9, 2, [0, 0, 0, 0, 0, 0, 0, 0, 16]⟩ : YMsg).b32 8 / 16) % 65536 * 65536 + (⟨.host, 0, 0, 3, 1, 7, 9, 2, [0, 0, 0, 0, 0, 0, 0, 0, 16]⟩ : YMsg).b16 16)), (TTB_DMA_CTRL, 1)] (schWrite TTB_CTRL 2 (st [(TTB_DMA_CTRL.BUSY, 0), (FW_CORE.STATE 2, 1)]))).each (List.range (if true then ((⟨.host, 0, 0, 3, 1, 7, 9, 2, [0, 0, 0, 0, 0, 0, 0, 0, 16]⟩ : YMsg).b32 8 / 16) else min ((⟨.host, 0, 0, 3, 1, 7, 9, 2, [0, 0, 0, 0, 0, 0, 0, 0, 16]⟩ : YMsg).b32 8 / 16) (([1, 2, 3, 4]).length / 4))) fun s i => ttbDmaEntry ((List.range 4).map fun w => hostWord ([1, 2, 3, 4]) (4 * i + w)) (dmaSlot s)), (schWrite TTB_RANGE (w32 ((⟨.host, 0, 0, 3, 1, 7, 9, 2, [0, 0, 0, 0, 0, 0, 0, 0, 16]⟩ : YMsg).b16 20 * 65536 + (⟨.host, 0, 0, 3, 1, 7, 9, 2, [0, 0, 0, 0, 0, 0, 0, 0, 16]⟩ : YMsg).b16 18)) (ttbDmaFinish true ((schWrites [(TTB_DMA_SRC_LO, w32 ((⟨.host, 0, 0, 3, 1, 7, 9, 2, [0, 0, 0, 0, 0, 0, 0, 0, 16]⟩ : YMsg).b64 0)), (TTB_DMA_SRC_HI, w32 ((⟨.host, 0, 0, 3, 1, 7, 9, 2, [0, 0, 0, 0, 0, 0, 0, 0, 16]⟩ : YMsg).b64 0 / 2 ^ 32)), (TTB_DMA_LEN, w32 (((⟨.host, 0, 0, 3, 1, 7, 9, 2, [0, 0, 0, 0, 0, 0, 0, 0, 16]⟩ : YMsg).b32 8 / 16) % 65536 * 65536 + (⟨.host, 0, 0, 3, 1, 7, 9, 2, [0, 0, 0, 0, 0, 0, 0, 0, 16]⟩ : YMsg).b16 16)), (TTB_DMA_CTRL, 1)] (schWrite TTB_CTRL 2 (st [(TTB_DMA_CTRL.BUSY, 0), (FW_CORE.STATE 2, 1)]))).each (List.range (if true then ((⟨.host, 0, 0, 3, 1, 7, 9, 2, [0, 0, 0, 0, 0, 0, 0, 0, 16]⟩ : YMsg).b32 8 / 16) else min ((⟨.host, 0, 0, 3, 1, 7, 9, 2, [0, 0, 0, 0, 0, 0, 0, 0, 16]⟩ : YMsg).b32 8 / 16) (([1, 2, 3, 4]).length / 4))) fun s i => ttbDmaEntry ((List.range 4).map fun w => hostWord ([1, 2, 3, 4]) (4 * i + w)) (dmaSlot s)))), ?_, ?_, ?_, ?_, ?_, ?_, ?_, ?_, ?_, ?_⟩
    · exact accepts_of (by decide +kernel)
    · first | rfl | decide +kernel
    · first | decide +kernel | rfl
    · decide +kernel
    · first | decide +kernel | rfl
    · first | rfl | decide +kernel
    · first | rfl | decide +kernel
    · first | rfl | decide +kernel
    · first | decide +kernel | rfl
    · exact fun _ => rfl
  · refine ⟨⟨.host, 0, 0, 3, 1, 7, 0, 0, []⟩, none, st [(FW_CORE.STATE 2, 1)], (⟨.host, 0, 0, 3, 1, 7, 0, 0, []⟩ : YMsg).b32 8 / 32, ?_, ?_, ?_⟩
    · exact accepts_of (by decide +kernel)
    · first | rfl | decide +kernel
    · decide +kernel
  · refine ⟨⟨.host, 0, 0, 3, 1, 7, 9, 2, [0, 0, 0, 0, 0, 0, 0, 0, 32]⟩, none, st [(FW_CORE.STATE 2, 1)], (⟨.host, 0, 0, 3, 1, 7, 9, 2, [0, 0, 0, 0, 0, 0, 0, 0, 32]⟩ : YMsg).b32 8 / 32, ?_, ?_, ?_, ?_, ?_⟩
    · exact accepts_of (by decide +kernel)
    · first | rfl | decide +kernel
    · first | decide +kernel | rfl
    · decide +kernel
    · first | rfl | decide +kernel
  · refine ⟨⟨.host, 0, 0, 3, 1, 7, 9, 2, [0, 0, 0, 0, 0, 0, 0, 0, 32]⟩, some ([1, 2, 3, 4, 5, 6, 7, 8]), st [(FW_CORE.STATE 2, 1)], (⟨.host, 0, 0, 3, 1, 7, 9, 2, [0, 0, 0, 0, 0, 0, 0, 0, 32]⟩ : YMsg).b32 8 / 32, [1, 2, 3, 4, 5, 6, 7, 8], ?_, ?_, ?_, ?_, ?_⟩
    · exact accepts_of (by decide +kernel)
    · first | rfl | decide +kernel
    · first | decide +kernel | rfl
    · decide +kernel
    · first | rfl | decide +kernel
  · refine ⟨⟨.host, 0, 0, 3, 1, 7, 0, 0, []⟩, none, st [(FW_CORE.STATE 2, 1)], odrStop (st [(FW_CORE.STATE 2, 1)]), (⟨.host, 0, 0, 3, 1, 7, 0, 0, []⟩ : YMsg).descOk 0 4 0 (fun n => decide (2080 ≤ n) && decide (n ≤ 67616)), ?_, ?_, ?_, ?_⟩
    · exact accepts_of (by decide +kernel)
    · first | rfl | decide +kernel
    · first | rfl | decide +kernel
    · first | rfl | decide +kernel
  · refine ⟨⟨.host, 0, 0, 3, 1, 7, 10, 2, [0, 0, 0, 0, 0, 0, 0, 0, 32, 8]⟩, none, st [(FW_CORE.STATE 2, 1), (OUT_STAT.STATE, 1), (OUT_DMA_CTRL.BUSY, 1)], odrStop (st [(FW_CORE.STATE 2, 1), (OUT_STAT.STATE, 1), (OUT_DMA_CTRL.BUSY, 1)]), (⟨.host, 0, 0, 3, 1, 7, 10, 2, [0, 0, 0, 0, 0, 0, 0, 0, 32, 8]⟩ : YMsg).descOk 0 4 0 (fun n => decide (2080 ≤ n) && decide (n ≤ 67616)), ?_, ?_, ?_, ?_, ?_⟩
    · exact accepts_of (by decide +kernel)
    · first | rfl | decide +kernel
    · first | rfl | decide +kernel
    · first | rfl | decide +kernel
    · decide +kernel
  · refine ⟨⟨.host, 0, 0, 3, 1, 7, 17, 2, [0, 0, 0, 0, 0, 0, 0, 0, 32, 8, 0, 0, 0, 0, 0, 0, 0]⟩, none, st [(FW_CORE.STATE 2, 1), (OUT_STAT.STATE, 0), (OUT_DMA_CTRL.BUSY, 0)], odrStop (st [(FW_CORE.STATE 2, 1), (OUT_STAT.STATE, 0), (OUT_DMA_CTRL.BUSY, 0)]), (⟨.host, 0, 0, 3, 1, 7, 17, 2, [0, 0, 0, 0, 0, 0, 0, 0, 32, 8, 0, 0, 0, 0, 0, 0, 0]⟩ : YMsg).descOk 0 4 0 (fun n => decide (2080 ≤ n) && decide (n ≤ 67616)), ?_, ?_, ?_, ?_, ?_, ?_, ?_⟩
    · exact accepts_of (by decide +kernel)
    · first | rfl | decide +kernel
    · first | rfl | decide +kernel
    · first | rfl | decide +kernel
    · first | decide +kernel | rfl
    · first | decide +kernel | rfl
    · first | rfl | decide +kernel
  · refine ⟨⟨.host, 0, 0, 3, 1, 7, 17, 2, [0, 0, 0, 0, 0, 0, 0, 0, 32, 8, 0, 0, 0, 0, 0, 0, 0]⟩, some ([1, 2]), st [(FW_CORE.STATE 2, 1), (OUT_STAT.STATE, 0), (OUT_DMA_CTRL.BUSY, 0)], odrStop (st [(FW_CORE.STATE 2, 1), (OUT_STAT.STATE, 0), (OUT_DMA_CTRL.BUSY, 0)]), (⟨.host, 0, 0, 3, 1, 7, 17, 2, [0, 0, 0, 0, 0, 0, 0, 0, 32, 8, 0, 0, 0, 0, 0, 0, 0]⟩ : YMsg).descOk 0 4 0 (fun n => decide (2080 ≤ n) && decide (n ≤ 67616)), [1, 2], schWrites (weightImage ((⟨.host, 0, 0, 3, 1, 7, 17, 2, [0, 0, 0, 0, 0, 0, 0, 0, 32, 8, 0, 0, 0, 0, 0, 0, 0]⟩ : YMsg).b32 8) ([1, 2])) (odrStop (st [(FW_CORE.STATE 2, 1), (OUT_STAT.STATE, 0), (OUT_DMA_CTRL.BUSY, 0)])), ?_, ?_, ?_, ?_, ?_, ?_, ?_, ?_, ?_⟩
    · exact accepts_of (by decide +kernel)
    · first | rfl | decide +kernel
    · first | rfl | decide +kernel
    · first | rfl | decide +kernel
    · first | decide +kernel | rfl
    · first | decide +kernel | rfl
    · first | rfl | decide +kernel
    · first | rfl | decide +kernel
    · first | decide +kernel | rfl
  · refine ⟨⟨.host, 0, 0, 3, 1, 7, 17, 2, [0, 0, 0, 0, 0, 0, 0, 0, 32, 8, 0, 0, 0, 0, 0, 0, 1]⟩, some ([1, 2]), st [(FW_CORE.STATE 2, 1), (OUT_STAT.STATE, 0), (OUT_DMA_CTRL.BUSY, 0)], odrStop (st [(FW_CORE.STATE 2, 1), (OUT_STAT.STATE, 0), (OUT_DMA_CTRL.BUSY, 0)]), (⟨.host, 0, 0, 3, 1, 7, 17, 2, [0, 0, 0, 0, 0, 0, 0, 0, 32, 8, 0, 0, 0, 0, 0, 0, 1]⟩ : YMsg).descOk 0 4 0 (fun n => decide (2080 ≤ n) && decide (n ≤ 67616)), [1, 2], schWrites (weightImage ((⟨.host, 0, 0, 3, 1, 7, 17, 2, [0, 0, 0, 0, 0, 0, 0, 0, 32, 8, 0, 0, 0, 0, 0, 0, 1]⟩ : YMsg).b32 8) ([1, 2])) (odrStop (st [(FW_CORE.STATE 2, 1), (OUT_STAT.STATE, 0), (OUT_DMA_CTRL.BUSY, 0)])), odrValidated (schWrite OUT_CTL (((schWrites (weightImage ((⟨.host, 0, 0, 3, 1, 7, 17, 2, [0, 0, 0, 0, 0, 0, 0, 0, 32, 8, 0, 0, 0, 0, 0, 0, 1]⟩ : YMsg).b32 8) ([1, 2])) (odrStop (st [(FW_CORE.STATE 2, 1), (OUT_STAT.STATE, 0), (OUT_DMA_CTRL.BUSY, 0)]))).rd OUT_CTL &&& 0xFFFFF8) ||| 1) (schWrites (weightImage ((⟨.host, 0, 0, 3, 1, 7, 17, 2, [0, 0, 0, 0, 0, 0, 0, 0, 32, 8, 0, 0, 0, 0, 0, 0, 1]⟩ : YMsg).b32 8) ([1, 2])) (odrStop (st [(FW_CORE.STATE 2, 1), (OUT_STAT.STATE, 0), (OUT_DMA_CTRL.BUSY, 0)])))), ?_, ?_, ?_, ?_, ?_, ?_, ?_, ?_, ?_, ?_⟩
    · exact accepts_of (by decide +kernel)
    · first | rfl | decide +kernel
    · first | rfl | decide +kernel
    · first | rfl | decide +kernel
    · first | decide +kernel | rfl
    · first | decide +kernel | rfl
    · first | rfl | decide +kernel
    · first | rfl | decide +kernel
    · first | decide +kernel | rfl
    · first | rfl | decide +kernel
  · refine ⟨⟨.host, 0, 0, 3, 1, 7, 1, 0, [3]⟩, st [(FW_CORE.STATE 2, 1)], (((([TTB_CFG, TTB_LEAD, TTB_HOLD, TTB_BUMP, TTB_ETA].zip ((List.range 5).map fun k => (⟨.host, 0, 0, 3, 1, 7, 1, 0, [3]⟩ : YMsg).word (4 + 4 * k))).zipIdx.filter fun e => bitOf ((⟨.host, 0, 0, 3, 1, 7, 1, 0, [3]⟩ : YMsg).b8 1) e.2).map (·.1)) : List (Nat × Word)), ?_, ?_, ?_⟩
    · exact accepts_of (by decide +kernel)
    · first | rfl | decide +kernel
    · decide +kernel
  · refine ⟨⟨.host, 0, 0, 3, 1, 7, 1, 0, [0]⟩, st [(FW_CORE.STATE 2, 1)], (((([TTB_CFG, TTB_LEAD, TTB_HOLD, TTB_BUMP, TTB_ETA].zip ((List.range 5).map fun k => (⟨.host, 0, 0, 3, 1, 7, 1, 0, [0]⟩ : YMsg).word (4 + 4 * k))).zipIdx.filter fun e => bitOf ((⟨.host, 0, 0, 3, 1, 7, 1, 0, [0]⟩ : YMsg).b8 1) e.2).map (·.1)) : List (Nat × Word)), ?_, ?_, ?_⟩
    · exact accepts_of (by decide +kernel)
    · first | rfl | decide +kernel
    · first | decide +kernel | rfl
  · refine ⟨⟨.host, 0, 0, 3, 1, 7, 1, 0, [1]⟩, st [(FW_CORE.STATE 2, 1)], (((([TTB_CFG, TTB_LEAD, TTB_HOLD, TTB_BUMP, TTB_ETA].zip ((List.range 5).map fun k => (⟨.host, 0, 0, 3, 1, 7, 1, 0, [1]⟩ : YMsg).word (4 + 4 * k))).zipIdx.filter fun e => bitOf ((⟨.host, 0, 0, 3, 1, 7, 1, 0, [1]⟩ : YMsg).b8 1) e.2).map (·.1)) : List (Nat × Word)), ?_, ?_, ?_⟩
    · exact accepts_of (by decide +kernel)
    · first | rfl | decide +kernel
    · first | decide +kernel | rfl
  · refine ⟨⟨.host, 0, 0, 3, 1, 7, 1, 0, [2]⟩, st [(FW_CORE.STATE 2, 1)], (((([TTB_CFG, TTB_LEAD, TTB_HOLD, TTB_BUMP, TTB_ETA].zip ((List.range 5).map fun k => (⟨.host, 0, 0, 3, 1, 7, 1, 0, [2]⟩ : YMsg).word (4 + 4 * k))).zipIdx.filter fun e => bitOf ((⟨.host, 0, 0, 3, 1, 7, 1, 0, [2]⟩ : YMsg).b8 1) e.2).map (·.1)) : List (Nat × Word)), ?_, ?_, ?_⟩
    · exact accepts_of (by decide +kernel)
    · first | rfl | decide +kernel
    · first | decide +kernel | rfl
  · refine ⟨⟨.host, 0, 0, 3, 1, 7, 0, 0, []⟩, st [(FW_CORE.STATE 2, 1)], ?_⟩
    · exact accepts_of (by decide +kernel)
  · refine ⟨⟨.host, 0, 0, 3, 1, 7, 1, 0, [0]⟩, st [(FW_CORE.STATE 2, 1)], ?_, ?_⟩
    · exact accepts_of (by decide +kernel)
    · decide +kernel
  · refine ⟨⟨.host, 0, 0, 3, 1, 7, 1, 0, [1]⟩, st [(FW_CORE.STATE 2, 1)], ?_, ?_⟩
    · exact accepts_of (by decide +kernel)
    · decide +kernel
  · refine ⟨⟨.host, 0, 0, 3, 1, 7, 1, 0, [16]⟩, st [(FW_CORE.STATE 2, 1)], ?_, ?_⟩
    · exact accepts_of (by decide +kernel)
    · decide +kernel
  · refine ⟨⟨.host, 0, 0, 3, 1, 7, 0, 0, []⟩, st [(FW_CORE.STATE 2, 1)], ?_, ?_⟩
    · exact accepts_of (by decide +kernel)
    · decide +kernel
  · refine ⟨⟨.host, 0, 0, 3, 1, 7, 0, 0, []⟩, st [(FW_CORE.STATE 2, 1)], ?_⟩
    · exact accepts_of (by decide +kernel)
  · refine ⟨⟨.host, 0, 0, 3, 1, 7, 1, 0, [16]⟩, st [(FW_CORE.STATE 2, 1)], ?_, ?_⟩
    · exact accepts_of (by decide +kernel)
    · decide +kernel
  · refine ⟨⟨.host, 0, 0, 3, 1, 7, 0, 0, []⟩, st [(FW_CORE.STATE 2, 1)], ?_, ?_⟩
    · exact accepts_of (by decide +kernel)
    · decide +kernel

/-- States and operands that meet the hypotheses of YutreForecastTelemetryAndTestOpcodesComplete (part 2). -/
theorem witness_YutreForecastTelemetryAndTestOpcodesComplete_2 :
    (∃ (m : YMsg) (s : State), s.Accepts m 0x504 ∧ m.b8 0 / 2 ^ 1 % 2 = 1) ∧
    (∃ (m : YMsg) (s : State), s.Accepts m 0x504 ∧ m.b8 0 / 2 ^ 1 % 2 = 0) ∧
    (∃ (m : YMsg) (s : State), s.Accepts m 0x505) ∧
    (∃ (m : YMsg) (s : State) (u : State), s.Accepts m 0x506 ∧ u = schWrites [(TLM_TRX_LO, w32 (m.b64 0)),
      (TLM_TRX_HI, w32 (m.b64 0 / 2 ^ 32)), (TLM_TRX_CTRL, w32 (m.b8 8 * 256 + m.b8 9 % 2 * 2 + m.b8 9 / 2 %
      2))] s ∧ (m.b8 9 / 2 % 2 = 1 ∧ (s.get TLM_TRX_CTRL.BUSY = 1 ∨ u.get TLM_TRX_CTRL.BUSY = 0))) ∧
    (∃ (m : YMsg) (s : State) (u : State), s.Accepts m 0x506 ∧ u = schWrites [(TLM_TRX_LO, w32 (m.b64 0)),
      (TLM_TRX_HI, w32 (m.b64 0 / 2 ^ 32)), (TLM_TRX_CTRL, w32 (m.b8 8 * 256 + m.b8 9 % 2 * 2 + m.b8 9 / 2 %
      2))] s ∧ (m.b8 9 / 2 % 2 = 0 ∨ (s.get TLM_TRX_CTRL.BUSY = 0 ∧ u.get TLM_TRX_CTRL.BUSY = 1))) ∧
    (∃ (m : YMsg) (s : State), s.Accepts m 0x507 ∧ m.b8 0 = 0) ∧
    (∃ (m : YMsg) (s : State), s.Accepts m 0x507 ∧ (1 ≤ m.b8 0 ∧ m.b8 0 ≤ 255)) ∧
    (∃ (m : YMsg) (s : State), s.Accepts m 0x700) ∧
    (∃ (m : YMsg) (r : Option TestResult) (s : State) (c : ℕ), s.Accepts m 0x701 ∧ c = m.b16 0 ∧ 3072 ≤ c) ∧
    (∃ (m : YMsg) (r : Option TestResult) (s : State) (c : ℕ), s.Accepts m 0x701 ∧ c = m.b16 0 ∧ c < 3072 ∧
      s.cellState c ≠ 0 ∧ s.cellState c ≠ 4) ∧
    (∃ (m : YMsg) (r : Option TestResult) (s : State) (c : ℕ) (x : TestResult) (u : State) (v : State),
      s.Accepts m 0x701 ∧ c = m.b16 0 ∧ c < 3072 ∧ s.cellState c = 4 ∧ r = some x ∧ u = schWrite (CELL_TEST c)
      (m.word 4) s ∧ u.get (CELL_TEST.GO c) = 1 ∧ v = cellTestDone c x u ∧ m.b8 8 % 2 = 0) ∧
    (∃ (m : YMsg) (r : Option TestResult) (s : State) (c : ℕ) (x : TestResult) (u : State) (v : State),
      s.Accepts m 0x701 ∧ c = m.b16 0 ∧ c < 3072 ∧ s.cellState c = 4 ∧ r = some x ∧ u = schWrite (CELL_TEST c)
      (m.word 4) s ∧ u.get (CELL_TEST.GO c) = 1 ∧ v = cellTestDone c x u ∧ m.b8 8 % 2 = 1) ∧
    (∃ (m : YMsg) (r : Option TestResult) (s : State) (c : ℕ) (w : State) (x : TestResult) (u : State) (v :
      State), s.Accepts m 0x701 ∧ c = m.b16 0 ∧ c < 3072 ∧ s.cellState c = 0 ∧ w = schWrite (CELL_CMD c) 4 s ∧
      w.cellState c = 4 ∧ r = some x ∧ u = schWrite (CELL_TEST c) (m.word 4) w ∧ u.get (CELL_TEST.GO c) = 1 ∧ v
      = cellTestDone c x u ∧ m.b8 8 % 2 = 1) ∧
    (∃ (m : YMsg) (s : State), s.Accepts m 0x702 ∧ m.b8 0 = 0) ∧
    (∃ (m : YMsg) (s : State), s.Accepts m 0x702 ∧ (1 ≤ m.b8 0 ∧ m.b8 0 ≤ 255)) ∧
    (∃ (m : YMsg) (s : State), s.Accepts m 0x703) ∧
    (∃ (m : YMsg) (r : Option (BitVec 14)) (s : State) (k : ℕ) (u : State), s.Accepts m 0x704 ∧ k = m.b8 0 ∧ u =
      schWrite (SNS_URG k) (w32 (m.b8 1 % 64)) s ∧ 3 < k) ∧
    (∃ (m : YMsg) (r : Option (BitVec 14)) (s : State) (k : ℕ) (u : State), s.Accepts m 0x704 ∧ k = m.b8 0 ∧ u =
      schWrite (SNS_URG k) (w32 (m.b8 1 % 64)) s ∧ k ≤ 3 ∧ snsChannels k ≤ m.b8 1 % 64) ∧
    (∃ (m : YMsg) (r : Option (BitVec 14)) (s : State) (k : ℕ) (u : State), s.Accepts m 0x704 ∧ k = m.b8 0 ∧ u =
      schWrite (SNS_URG k) (w32 (m.b8 1 % 64)) s ∧ k ≤ 3 ∧ m.b8 1 % 64 < snsChannels k ∧ 4 ≤ (s.sconv
      k).urg.length) ∧
    (∃ (m : YMsg) (r : Option (BitVec 14)) (s : State) (k : ℕ) (u : State) (x : BitVec 14) (v : State) (w :
      State), s.Accepts m 0x704 ∧ k = m.b8 0 ∧ u = schWrite (SNS_URG k) (w32 (m.b8 1 % 64)) s ∧ k ≤ 3 ∧ m.b8 1 %
      64 < snsChannels k ∧ (s.sconv k).urg.length < 4 ∧ u.snsOn k = true ∧ u.locked = true ∧ r = some x ∧ v =
      (u.setSconv k
      { u.sconv k with cur := some ⟨m.b8 1 % 64, true, 0, (u.now / 100 + 1) * 100⟩, urg := (u.sconv k).urg.erase (m.b8 1 % 64) }).put
      (SNS_URG.QD k) ((u.sconv k).urg.erase (m.b8 1 % 64)).length ∧ w = convComplete k x.toNat v) := by
  refine ⟨?_, ?_, ?_, ?_, ?_, ?_, ?_, ?_, ?_, ?_, ?_, ?_, ?_, ?_, ?_, ?_, ?_, ?_, ?_, ?_⟩
  · refine ⟨⟨.host, 0, 0, 3, 1, 7, 1, 0, [2]⟩, st [(FW_CORE.STATE 2, 1)], ?_, ?_⟩
    · exact accepts_of (by decide +kernel)
    · first | decide +kernel | rfl
  · refine ⟨⟨.host, 0, 0, 3, 1, 7, 0, 0, []⟩, st [(FW_CORE.STATE 2, 1)], ?_, ?_⟩
    · exact accepts_of (by decide +kernel)
    · first | decide +kernel | rfl
  · refine ⟨⟨.host, 0, 0, 3, 1, 7, 0, 0, []⟩, st [(FW_CORE.STATE 2, 1)], ?_⟩
    · exact accepts_of (by decide +kernel)
  · refine ⟨⟨.host, 0, 0, 3, 1, 7, 10, 0, [0, 0, 0, 0, 0, 0, 0, 0, 0, 2]⟩, st [(FW_CORE.STATE 2, 1), (TLM_TRX_CTRL.BUSY, 1)], schWrites [(TLM_TRX_LO, w32 ((⟨.host, 0, 0, 3, 1, 7, 10, 0, [0, 0, 0, 0, 0, 0, 0, 0, 0, 2]⟩ : YMsg).b64 0)), (TLM_TRX_HI, w32 ((⟨.host, 0, 0, 3, 1, 7, 10, 0, [0, 0, 0, 0, 0, 0, 0, 0, 0, 2]⟩ : YMsg).b64 0 / 2 ^ 32)), (TLM_TRX_CTRL, w32 ((⟨.host, 0, 0, 3, 1, 7, 10, 0, [0, 0, 0, 0, 0, 0, 0, 0, 0, 2]⟩ : YMsg).b8 8 * 256 + (⟨.host, 0, 0, 3, 1, 7, 10, 0, [0, 0, 0, 0, 0, 0, 0, 0, 0, 2]⟩ : YMsg).b8 9 % 2 * 2 + (⟨.host, 0, 0, 3, 1, 7, 10, 0, [0, 0, 0, 0, 0, 0, 0, 0, 0, 2]⟩ : YMsg).b8 9 / 2 % 2))] (st [(FW_CORE.STATE 2, 1), (TLM_TRX_CTRL.BUSY, 1)]), ?_, ?_, ?_⟩
    · exact accepts_of (by decide +kernel)
    · first | rfl | decide +kernel
    · decide +kernel
  · refine ⟨⟨.host, 0, 0, 3, 1, 7, 0, 0, []⟩, st [(FW_CORE.STATE 2, 1)], schWrites [(TLM_TRX_LO, w32 ((⟨.host, 0, 0, 3, 1, 7, 0, 0, []⟩ : YMsg).b64 0)), (TLM_TRX_HI, w32 ((⟨.host, 0, 0, 3, 1, 7, 0, 0, []⟩ : YMsg).b64 0 / 2 ^ 32)), (TLM_TRX_CTRL, w32 ((⟨.host, 0, 0, 3, 1, 7, 0, 0, []⟩ : YMsg).b8 8 * 256 + (⟨.host, 0, 0, 3, 1, 7, 0, 0, []⟩ : YMsg).b8 9 % 2 * 2 + (⟨.host, 0, 0, 3, 1, 7, 0, 0, []⟩ : YMsg).b8 9 / 2 % 2))] (st [(FW_CORE.STATE 2, 1)]), ?_, ?_, ?_⟩
    · exact accepts_of (by decide +kernel)
    · first | rfl | decide +kernel
    · decide +kernel
  · refine ⟨⟨.host, 0, 0, 3, 1, 7, 1, 0, [0]⟩, st [(FW_CORE.STATE 2, 1)], ?_, ?_⟩
    · exact accepts_of (by decide +kernel)
    · first | decide +kernel | rfl
  · refine ⟨⟨.host, 0, 0, 3, 1, 7, 1, 0, [1]⟩, st [(FW_CORE.STATE 2, 1)], ?_, ?_⟩
    · exact accepts_of (by decide +kernel)
    · decide +kernel
  · refine ⟨⟨.host, 0, 0, 3, 1, 7, 0, 0, []⟩, st [(FW_CORE.STATE 2, 1), (VL_CTRL.DBG_EN, 1)], ?_⟩
    · exact accepts_of (by decide +kernel)
  · refine ⟨⟨.host, 0, 0, 3, 1, 7, 2, 0, [0, 12]⟩, none, st [(FW_CORE.STATE 2, 1), (VL_CTRL.DBG_EN, 1)], (⟨.host, 0, 0, 3, 1, 7, 2, 0, [0, 12]⟩ : YMsg).b16 0, ?_, ?_, ?_⟩
    · exact accepts_of (by decide +kernel)
    · first | rfl | decide +kernel
    · decide +kernel
  · refine ⟨⟨.host, 0, 0, 3, 1, 7, 2, 0, [0, 0]⟩, none, st [(FW_CORE.STATE 2, 1), (VL_CTRL.DBG_EN, 1), (CELL_STAT.STATE ((⟨.host, 0, 0, 3, 1, 7, 2, 0, [0, 0]⟩ : YMsg).b16 0), 1), (CELL_STAT.STATE ((⟨.host, 0, 0, 3, 1, 7, 2, 0, [0, 0]⟩ : YMsg).b16 0), 0), (CELL_STAT.STATE 0, 2)], (⟨.host, 0, 0, 3, 1, 7, 2, 0, [0, 0]⟩ : YMsg).b16 0, ?_, ?_, ?_, ?_, ?_⟩
    · exact accepts_of (by decide +kernel)
    · first | rfl | decide +kernel
    · decide +kernel
    · decide +kernel
    · decide +kernel
  · refine ⟨⟨.host, 0, 0, 3, 1, 7, 9, 0, [0, 0, 0, 0, 9, 0, 0, 0, 0]⟩, some (⟨5, .raws 1 2 3 4, true⟩ : TestResult), { (st [(FW_CORE.STATE 2, 1), (VL_CTRL.DBG_EN, 1), (TIM_STAT.CTRL_GOOD, 1), (TIM_STAT.CELL_GOOD, 1), (CELL_STAT.STATE 0, 4)]) with rst := { State.reset.rst with inst := false, por := false } }, (⟨.host, 0, 0, 3, 1, 7, 9, 0, [0, 0, 0, 0, 9, 0, 0, 0, 0]⟩ : YMsg).b16 0, ⟨5, .raws 1 2 3 4, true⟩, schWrite (CELL_TEST ((⟨.host, 0, 0, 3, 1, 7, 9, 0, [0, 0, 0, 0, 9, 0, 0, 0, 0]⟩ : YMsg).b16 0)) ((⟨.host, 0, 0, 3, 1, 7, 9, 0, [0, 0, 0, 0, 9, 0, 0, 0, 0]⟩ : YMsg).word 4) ({ (st [(FW_CORE.STATE 2, 1), (VL_CTRL.DBG_EN, 1), (TIM_STAT.CTRL_GOOD, 1), (TIM_STAT.CELL_GOOD, 1), (CELL_STAT.STATE 0, 4)]) with rst := { State.reset.rst with inst := false, por := false } }), cellTestDone ((⟨.host, 0, 0, 3, 1, 7, 9, 0, [0, 0, 0, 0, 9, 0, 0, 0, 0]⟩ : YMsg).b16 0) (⟨5, .raws 1 2 3 4, true⟩ : TestResult) (schWrite (CELL_TEST ((⟨.host, 0, 0, 3, 1, 7, 9, 0, [0, 0, 0, 0, 9, 0, 0, 0, 0]⟩ : YMsg).b16 0)) ((⟨.host, 0, 0, 3, 1, 7, 9, 0, [0, 0, 0, 0, 9, 0, 0, 0, 0]⟩ : YMsg).word 4) ({ (st [(FW_CORE.STATE 2, 1), (VL_CTRL.DBG_EN, 1), (TIM_STAT.CTRL_GOOD, 1), (TIM_STAT.CELL_GOOD, 1), (CELL_STAT.STATE 0, 4)]) with rst := { State.reset.rst with inst := false, por := false } })), ?_, ?_, ?_, ?_, ?_, ?_, ?_, ?_, ?_⟩
    · exact accepts_of (by decide +kernel)
    · first | rfl | decide +kernel
    · decide +kernel
    · first | decide +kernel | rfl
    · first | rfl | decide +kernel
    · first | rfl | decide +kernel
    · first | decide +kernel | rfl
    · first | rfl | decide +kernel
    · first | decide +kernel | rfl
  · refine ⟨⟨.host, 0, 0, 3, 1, 7, 9, 0, [0, 0, 0, 0, 9, 0, 0, 0, 1]⟩, some (⟨5, .raws 1 2 3 4, true⟩ : TestResult), { (st [(FW_CORE.STATE 2, 1), (VL_CTRL.DBG_EN, 1), (TIM_STAT.CTRL_GOOD, 1), (TIM_STAT.CELL_GOOD, 1), (CELL_STAT.STATE 0, 4)]) with rst := { State.reset.rst with inst := false, por := false } }, (⟨.host, 0, 0, 3, 1, 7, 9, 0, [0, 0, 0, 0, 9, 0, 0, 0, 1]⟩ : YMsg).b16 0, ⟨5, .raws 1 2 3 4, true⟩, schWrite (CELL_TEST ((⟨.host, 0, 0, 3, 1, 7, 9, 0, [0, 0, 0, 0, 9, 0, 0, 0, 1]⟩ : YMsg).b16 0)) ((⟨.host, 0, 0, 3, 1, 7, 9, 0, [0, 0, 0, 0, 9, 0, 0, 0, 1]⟩ : YMsg).word 4) ({ (st [(FW_CORE.STATE 2, 1), (VL_CTRL.DBG_EN, 1), (TIM_STAT.CTRL_GOOD, 1), (TIM_STAT.CELL_GOOD, 1), (CELL_STAT.STATE 0, 4)]) with rst := { State.reset.rst with inst := false, por := false } }), cellTestDone ((⟨.host, 0, 0, 3, 1, 7, 9, 0, [0, 0, 0, 0, 9, 0, 0, 0, 1]⟩ : YMsg).b16 0) (⟨5, .raws 1 2 3 4, true⟩ : TestResult) (schWrite (CELL_TEST ((⟨.host, 0, 0, 3, 1, 7, 9, 0, [0, 0, 0, 0, 9, 0, 0, 0, 1]⟩ : YMsg).b16 0)) ((⟨.host, 0, 0, 3, 1, 7, 9, 0, [0, 0, 0, 0, 9, 0, 0, 0, 1]⟩ : YMsg).word 4) ({ (st [(FW_CORE.STATE 2, 1), (VL_CTRL.DBG_EN, 1), (TIM_STAT.CTRL_GOOD, 1), (TIM_STAT.CELL_GOOD, 1), (CELL_STAT.STATE 0, 4)]) with rst := { State.reset.rst with inst := false, por := false } })), ?_, ?_, ?_, ?_, ?_, ?_, ?_, ?_, ?_⟩
    · exact accepts_of (by decide +kernel)
    · first | rfl | decide +kernel
    · decide +kernel
    · first | decide +kernel | rfl
    · first | rfl | decide +kernel
    · first | rfl | decide +kernel
    · first | decide +kernel | rfl
    · first | rfl | decide +kernel
    · first | decide +kernel | rfl
  · refine ⟨⟨.host, 0, 0, 3, 1, 7, 9, 0, [0, 0, 0, 0, 9, 0, 0, 0, 1]⟩, some (⟨5, .raws 1 2 3 4, true⟩ : TestResult), { (st [(FW_CORE.STATE 2, 1), (VL_CTRL.DBG_EN, 1), (TIM_STAT.CTRL_GOOD, 1), (TIM_STAT.CELL_GOOD, 1), (CELL_STAT.STATE 0, 0)]) with rst := { State.reset.rst with inst := false, por := false } }, (⟨.host, 0, 0, 3, 1, 7, 9, 0, [0, 0, 0, 0, 9, 0, 0, 0, 1]⟩ : YMsg).b16 0, schWrite (CELL_CMD ((⟨.host, 0, 0, 3, 1, 7, 9, 0, [0, 0, 0, 0, 9, 0, 0, 0, 1]⟩ : YMsg).b16 0)) 4 ({ (st [(FW_CORE.STATE 2, 1), (VL_CTRL.DBG_EN, 1), (TIM_STAT.CTRL_GOOD, 1), (TIM_STAT.CELL_GOOD, 1), (CELL_STAT.STATE 0, 0)]) with rst := { State.reset.rst with inst := false, por := false } }), ⟨5, .raws 1 2 3 4, true⟩, schWrite (CELL_TEST ((⟨.host, 0, 0, 3, 1, 7, 9, 0, [0, 0, 0, 0, 9, 0, 0, 0, 1]⟩ : YMsg).b16 0)) ((⟨.host, 0, 0, 3, 1, 7, 9, 0, [0, 0, 0, 0, 9, 0, 0, 0, 1]⟩ : YMsg).word 4) (schWrite (CELL_CMD ((⟨.host, 0, 0, 3, 1, 7, 9, 0, [0, 0, 0, 0, 9, 0, 0, 0, 1]⟩ : YMsg).b16 0)) 4 ({ (st [(FW_CORE.STATE 2, 1), (VL_CTRL.DBG_EN, 1), (TIM_STAT.CTRL_GOOD, 1), (TIM_STAT.CELL_GOOD, 1), (CELL_STAT.STATE 0, 0)]) with rst := { State.reset.rst with inst := false, por := false } })), cellTestDone ((⟨.host, 0, 0, 3, 1, 7, 9, 0, [0, 0, 0, 0, 9, 0, 0, 0, 1]⟩ : YMsg).b16 0) (⟨5, .raws 1 2 3 4, true⟩ : TestResult) (schWrite (CELL_TEST ((⟨.host, 0, 0, 3, 1, 7, 9, 0, [0, 0, 0, 0, 9, 0, 0, 0, 1]⟩ : YMsg).b16 0)) ((⟨.host, 0, 0, 3, 1, 7, 9, 0, [0, 0, 0, 0, 9, 0, 0, 0, 1]⟩ : YMsg).word 4) (schWrite (CELL_CMD ((⟨.host, 0, 0, 3, 1, 7, 9, 0, [0, 0, 0, 0, 9, 0, 0, 0, 1]⟩ : YMsg).b16 0)) 4 ({ (st [(FW_CORE.STATE 2, 1), (VL_CTRL.DBG_EN, 1), (TIM_STAT.CTRL_GOOD, 1), (TIM_STAT.CELL_GOOD, 1), (CELL_STAT.STATE 0, 0)]) with rst := { State.reset.rst with inst := false, por := false } }))), ?_, ?_, ?_, ?_, ?_, ?_, ?_, ?_, ?_, ?_, ?_⟩
    · exact accepts_of (by decide +kernel)
    · first | rfl | decide +kernel
    · decide +kernel
    · first | decide +kernel | rfl
    · first | rfl | decide +kernel
    · first | decide +kernel | rfl
    · first | rfl | decide +kernel
    · first | rfl | decide +kernel
    · first | decide +kernel | rfl
    · first | rfl | decide +kernel
    · first | decide +kernel | rfl
  · refine ⟨⟨.host, 0, 0, 3, 1, 7, 1, 0, [0]⟩, st [(FW_CORE.STATE 2, 1), (VL_CTRL.DBG_EN, 1)], ?_, ?_⟩
    · exact accepts_of (by decide +kernel)
    · first | decide +kernel | rfl
  · refine ⟨⟨.host, 0, 0, 3, 1, 7, 1, 0, [1]⟩, st [(FW_CORE.STATE 2, 1), (VL_CTRL.DBG_EN, 1)], ?_, ?_⟩
    · exact accepts_of (by decide +kernel)
    · decide +kernel
  · refine ⟨⟨.host, 0, 0, 3, 1, 7, 0, 0, []⟩, st [(FW_CORE.STATE 2, 1), (VL_CTRL.DBG_EN, 1)], ?_⟩
    · exact accepts_of (by decide +kernel)
  · refine ⟨⟨.host, 0, 0, 3, 1, 7, 1, 0, [4]⟩, none, st [(FW_CORE.STATE 2, 1), (VL_CTRL.DBG_EN, 1)], (⟨.host, 0, 0, 3, 1, 7, 1, 0, [4]⟩ : YMsg).b8 0, schWrite (SNS_URG ((⟨.host, 0, 0, 3, 1, 7, 1, 0, [4]⟩ : YMsg).b8 0)) (w32 ((⟨.host, 0, 0, 3, 1, 7, 1, 0, [4]⟩ : YMsg).b8 1 % 64)) (st [(FW_CORE.STATE 2, 1), (VL_CTRL.DBG_EN, 1)]), ?_, ?_, ?_, ?_⟩
    · exact accepts_of (by decide +kernel)
    · first | rfl | decide +kernel
    · first | rfl | decide +kernel
    · decide +kernel
  · refine ⟨⟨.host, 0, 0, 3, 1, 7, 2, 0, [0, 63]⟩, none, st [(FW_CORE.STATE 2, 1), (VL_CTRL.DBG_EN, 1)], (⟨.host, 0, 0, 3, 1, 7, 2, 0, [0, 63]⟩ : YMsg).b8 0, schWrite (SNS_URG ((⟨.host, 0, 0, 3, 1, 7, 2, 0, [0, 63]⟩ : YMsg).b8 0)) (w32 ((⟨.host, 0, 0, 3, 1, 7, 2, 0, [0, 63]⟩ : YMsg).b8 1 % 64)) (st [(FW_CORE.STATE 2, 1), (VL_CTRL.DBG_EN, 1)]), ?_, ?_, ?_, ?_, ?_⟩
    · exact accepts_of (by decide +kernel)
    · first | rfl | decide +kernel
    · first | rfl | decide +kernel
    · decide +kernel
    · decide +kernel
  · refine ⟨⟨.host, 0, 0, 3, 1, 7, 0, 0, []⟩, none, { st [(FW_CORE.STATE 2, 1), (VL_CTRL.DBG_EN, 1)] with snsConv := [(0, { urg := [1, 2, 3, 4] })] }, (⟨.host, 0, 0, 3, 1, 7, 0, 0, []⟩ : YMsg).b8 0, schWrite (SNS_URG ((⟨.host, 0, 0, 3, 1, 7, 0, 0, []⟩ : YMsg).b8 0)) (w32 ((⟨.host, 0, 0, 3, 1, 7, 0, 0, []⟩ : YMsg).b8 1 % 64)) ({ st [(FW_CORE.STATE 2, 1), (VL_CTRL.DBG_EN, 1)] with snsConv := [(0, { urg := [1, 2, 3, 4] })] }), ?_, ?_, ?_, ?_, ?_, ?_⟩
    · exact accepts_of (by decide +kernel)
    · first | rfl | decide +kernel
    · first | rfl | decide +kernel
    · decide +kernel
    · decide +kernel
    · decide +kernel
  · refine ⟨⟨.host, 0, 0, 3, 1, 7, 0, 0, []⟩, some (1 : BitVec 14), st [(FW_CORE.STATE 2, 1), (VL_CTRL.DBG_EN, 1), (TIM_STAT.PLL_LOCK, 1)], (⟨.host, 0, 0, 3, 1, 7, 0, 0, []⟩ : YMsg).b8 0, schWrite (SNS_URG ((⟨.host, 0, 0, 3, 1, 7, 0, 0, []⟩ : YMsg).b8 0)) (w32 ((⟨.host, 0, 0, 3, 1, 7, 0, 0, []⟩ : YMsg).b8 1 % 64)) (st [(FW_CORE.STATE 2, 1), (VL_CTRL.DBG_EN, 1), (TIM_STAT.PLL_LOCK, 1)]), 1, ((schWrite (SNS_URG ((⟨.host, 0, 0, 3, 1, 7, 0, 0, []⟩ : YMsg).b8 0)) (w32 ((⟨.host, 0, 0, 3, 1, 7, 0, 0, []⟩ : YMsg).b8 1 % 64)) (st [(FW_CORE.STATE 2, 1), (VL_CTRL.DBG_EN, 1), (TIM_STAT.PLL_LOCK, 1)])).setSconv ((⟨.host, 0, 0, 3, 1, 7, 0, 0, []⟩ : YMsg).b8 0) { (schWrite (SNS_URG ((⟨.host, 0, 0, 3, 1, 7, 0, 0, []⟩ : YMsg).b8 0)) (w32 ((⟨.host, 0, 0, 3, 1, 7, 0, 0, []⟩ : YMsg).b8 1 % 64)) (st [(FW_CORE.STATE 2, 1), (VL_CTRL.DBG_EN, 1), (TIM_STAT.PLL_LOCK, 1)])).sconv ((⟨.host, 0, 0, 3, 1, 7, 0, 0, []⟩ : YMsg).b8 0) with cur := some ⟨(⟨.host, 0, 0, 3, 1, 7, 0, 0, []⟩ : YMsg).b8 1 % 64, true, 0, ((schWrite (SNS_URG ((⟨.host, 0, 0, 3, 1, 7, 0, 0, []⟩ : YMsg).b8 0)) (w32 ((⟨.host, 0, 0, 3, 1, 7, 0, 0, []⟩ : YMsg).b8 1 % 64)) (st [(FW_CORE.STATE 2, 1), (VL_CTRL.DBG_EN, 1), (TIM_STAT.PLL_LOCK, 1)])).now / 100 + 1) * 100⟩, urg := ((schWrite (SNS_URG ((⟨.host, 0, 0, 3, 1, 7, 0, 0, []⟩ : YMsg).b8 0)) (w32 ((⟨.host, 0, 0, 3, 1, 7, 0, 0, []⟩ : YMsg).b8 1 % 64)) (st [(FW_CORE.STATE 2, 1), (VL_CTRL.DBG_EN, 1), (TIM_STAT.PLL_LOCK, 1)])).sconv ((⟨.host, 0, 0, 3, 1, 7, 0, 0, []⟩ : YMsg).b8 0)).urg.erase ((⟨.host, 0, 0, 3, 1, 7, 0, 0, []⟩ : YMsg).b8 1 % 64) }).put (SNS_URG.QD ((⟨.host, 0, 0, 3, 1, 7, 0, 0, []⟩ : YMsg).b8 0)) (((schWrite (SNS_URG ((⟨.host, 0, 0, 3, 1, 7, 0, 0, []⟩ : YMsg).b8 0)) (w32 ((⟨.host, 0, 0, 3, 1, 7, 0, 0, []⟩ : YMsg).b8 1 % 64)) (st [(FW_CORE.STATE 2, 1), (VL_CTRL.DBG_EN, 1), (TIM_STAT.PLL_LOCK, 1)])).sconv ((⟨.host, 0, 0, 3, 1, 7, 0, 0, []⟩ : YMsg).b8 0)).urg.erase ((⟨.host, 0, 0, 3, 1, 7, 0, 0, []⟩ : YMsg).b8 1 % 64)).length, convComplete ((⟨.host, 0, 0, 3, 1, 7, 0, 0, []⟩ : YMsg).b8 0) (1 : BitVec 14).toNat (((schWrite (SNS_URG ((⟨.host, 0, 0, 3, 1, 7, 0, 0, []⟩ : YMsg).b8 0)) (w32 ((⟨.host, 0, 0, 3, 1, 7, 0, 0, []⟩ : YMsg).b8 1 % 64)) (st [(FW_CORE.STATE 2, 1), (VL_CTRL.DBG_EN, 1), (TIM_STAT.PLL_LOCK, 1)])).setSconv ((⟨.host, 0, 0, 3, 1, 7, 0, 0, []⟩ : YMsg).b8 0) { (schWrite (SNS_URG ((⟨.host, 0, 0, 3, 1, 7, 0, 0, []⟩ : YMsg).b8 0)) (w32 ((⟨.host, 0, 0, 3, 1, 7, 0, 0, []⟩ : YMsg).b8 1 % 64)) (st [(FW_CORE.STATE 2, 1), (VL_CTRL.DBG_EN, 1), (TIM_STAT.PLL_LOCK, 1)])).sconv ((⟨.host, 0, 0, 3, 1, 7, 0, 0, []⟩ : YMsg).b8 0) with cur := some ⟨(⟨.host, 0, 0, 3, 1, 7, 0, 0, []⟩ : YMsg).b8 1 % 64, true, 0, ((schWrite (SNS_URG ((⟨.host, 0, 0, 3, 1, 7, 0, 0, []⟩ : YMsg).b8 0)) (w32 ((⟨.host, 0, 0, 3, 1, 7, 0, 0, []⟩ : YMsg).b8 1 % 64)) (st [(FW_CORE.STATE 2, 1), (VL_CTRL.DBG_EN, 1), (TIM_STAT.PLL_LOCK, 1)])).now / 100 + 1) * 100⟩, urg := ((schWrite (SNS_URG ((⟨.host, 0, 0, 3, 1, 7, 0, 0, []⟩ : YMsg).b8 0)) (w32 ((⟨.host, 0, 0, 3, 1, 7, 0, 0, []⟩ : YMsg).b8 1 % 64)) (st [(FW_CORE.STATE 2, 1), (VL_CTRL.DBG_EN, 1), (TIM_STAT.PLL_LOCK, 1)])).sconv ((⟨.host, 0, 0, 3, 1, 7, 0, 0, []⟩ : YMsg).b8 0)).urg.erase ((⟨.host, 0, 0, 3, 1, 7, 0, 0, []⟩ : YMsg).b8 1 % 64) }).put (SNS_URG.QD ((⟨.host, 0, 0, 3, 1, 7, 0, 0, []⟩ : YMsg).b8 0)) (((schWrite (SNS_URG ((⟨.host, 0, 0, 3, 1, 7, 0, 0, []⟩ : YMsg).b8 0)) (w32 ((⟨.host, 0, 0, 3, 1, 7, 0, 0, []⟩ : YMsg).b8 1 % 64)) (st [(FW_CORE.STATE 2, 1), (VL_CTRL.DBG_EN, 1), (TIM_STAT.PLL_LOCK, 1)])).sconv ((⟨.host, 0, 0, 3, 1, 7, 0, 0, []⟩ : YMsg).b8 0)).urg.erase ((⟨.host, 0, 0, 3, 1, 7, 0, 0, []⟩ : YMsg).b8 1 % 64)).length), ?_, ?_, ?_, ?_, ?_, ?_, ?_, ?_, ?_, ?_, ?_⟩
    · exact accepts_of (by decide +kernel)
    · first | rfl | decide +kernel
    · first | rfl | decide +kernel
    · decide +kernel
    · decide +kernel
    · decide +kernel
    · first | decide +kernel | rfl
    · first | decide +kernel | rfl
    · first | rfl | decide +kernel
    · first | rfl | decide +kernel
    · first | rfl | decide +kernel

/-- States and operands that meet the hypotheses of YutreFirmwareOpcodesComplete (part 1). -/
theorem witness_YutreFirmwareOpcodesComplete_1 :
    (∃ (m : YMsg) (s : State), s.Accepts m 0x600 ∧ s.fw.verified = none) ∧
    (∃ (m : YMsg) (s : State) (f : Word × ℕ), s.Accepts m 0x600 ∧ s.fw.verified = some f) ∧
    (∃ (m : YMsg) (s : State), s.Accepts m 0x601 ∧ s.inst ≠ 0) ∧
    (∃ (m : YMsg) (s : State), s.Accepts m 0x601 ∧ (s.inst = 0 ∧ (s.get FW_ACT.PEND = 1 ∨ s.fw.resetDue =
      true))) ∧
    (∃ (m : YMsg) (s : State), s.Accepts m 0x601 ∧ ((s.inst = 0 ∧ s.get FW_ACT.PEND = 0 ∧ s.fw.resetDue = false)
      ∧ 0x800000 < m.b32 0)) ∧
    (∃ (m : YMsg) (s : State), s.Accepts m 0x601 ∧ ((s.inst = 0 ∧ s.get FW_ACT.PEND = 0 ∧ s.fw.resetDue = false)
      ∧ m.b32 0 ≤ 0x800000)) ∧
    (∃ (m : YMsg) (data : Option (List (BitVec 8))) (s : State) (ok : Bool), s.Accepts m 0x602 ∧ (ok = m.descOk
      4 1 0 (fun _ => true)) ∧ s.inst ≠ 0) ∧
    (∃ (m : YMsg) (data : Option (List (BitVec 8))) (s : State) (ok : Bool), s.Accepts m 0x602 ∧ (ok = m.descOk
      4 1 0 (fun _ => true)) ∧ s.inst = 0 ∧ s.fw.staged = none) ∧
    (∃ (m : YMsg) (data : Option (List (BitVec 8))) (s : State) (ok : Bool) (len : ℕ), s.Accepts m 0x602 ∧ (ok =
      m.descOk 4 1 0 (fun _ => true)) ∧ s.inst = 0 ∧ s.fw.staged = some len ∧ (ok = false ∨ len < m.b32 0 +
      m.b32 12)) ∧
    (∃ (m : YMsg) (data : Option (List (BitVec 8))) (s : State) (ok : Bool) (len : ℕ), s.Accepts m 0x602 ∧ (ok =
      m.descOk 4 1 0 (fun _ => true)) ∧ s.inst = 0 ∧ s.fw.staged = some len ∧ ok = true ∧ m.b32 0 + m.b32 12 ≤
      len ∧ data = none) ∧
    (∃ (m : YMsg) (data : Option (List (BitVec 8))) (s : State) (ok : Bool) (len : ℕ) (d : List (BitVec 8)) (u :
      State), s.Accepts m 0x602 ∧ (ok = m.descOk 4 1 0 (fun _ => true)) ∧ s.inst = 0 ∧ s.fw.staged = some len ∧
      ok = true ∧ m.b32 0 + m.b32 12 ≤ len ∧ data = some d ∧ u = flashWrite (slotBase s.stagedSlot + m.b32 0)
      (d.take (m.b32 12)) s) ∧
    (∃ (m : YMsg) (s : State) (u : State) (f : ℕ) (v : State), s.Accepts m 0x603 ∧ u = s.ring kVL 5 ∧ f =
      u.slotFault u.stagedSlot ∧ v =
      { u with fw := { u.fw with verified := some (BitVec.ofNat 32 (hdrField (u.slotHeader u.stagedSlot) 16 4), hdrField (u.slotHeader u.stagedSlot) 8 4) } }
      ∧ s.inst ≠ 0) ∧
    (∃ (m : YMsg) (s : State) (u : State) (f : ℕ) (v : State), s.Accepts m 0x603 ∧ u = s.ring kVL 5 ∧ f =
      u.slotFault u.stagedSlot ∧ v =
      { u with fw := { u.fw with verified := some (BitVec.ofNat 32 (hdrField (u.slotHeader u.stagedSlot) 16 4), hdrField (u.slotHeader u.stagedSlot) 8 4) } }
      ∧ s.inst = 0) ∧
    (∃ (m : YMsg) (s : State), s.Accepts m 0x604 ∧ s.inst ≠ 0) ∧
    (∃ (m : YMsg) (s : State), s.Accepts m 0x604 ∧ (s.inst = 0 ∧ s.get FW_ACT.PEND = 1 ∧ s.get FW_ACT.DEFERRED =
      1)) ∧
    (∃ (m : YMsg) (s : State), s.Accepts m 0x604 ∧ (s.inst = 0 ∧ s.get FW_ACT.PEND = 1 ∧ s.get FW_ACT.DEFERRED =
      0)) ∧
    (∃ (m : YMsg) (s : State), s.Accepts m 0x604 ∧ (s.inst = 0 ∧ s.get FW_ACT.PEND = 0 ∧ s.fw.verified = none)) ∧
    (∃ (m : YMsg) (s : State), s.Accepts m 0x604 ∧ ((s.inst = 0 ∧ s.get FW_ACT.PEND = 0 ∧ s.fw.verified.isSome =
      true) ∧ (s.put FW_ACT.PEND 1).settled = true)) ∧
    (∃ (m : YMsg) (s : State), s.Accepts m 0x604 ∧ ((s.inst = 0 ∧ s.get FW_ACT.PEND = 0 ∧ s.fw.verified.isSome =
      true) ∧ (s.put FW_ACT.PEND 1).settled = false)) ∧
    (∃ (m : YMsg) (s : State), s.Accepts m 0x605 ∧ s.inst ≠ 0) ∧
    (∃ (m : YMsg) (s : State), s.Accepts m 0x605 ∧ s.inst = 0) ∧
    (∃ (m : YMsg) (s : State) (u : State) (d : BootDir), s.Accepts m 0x606 ∧ d = s.directory.2 ∧ u = dirWrite
      d.active 0 d.tries s ∧ s.inst ≠ 0) ∧
    (∃ (m : YMsg) (s : State) (u : State) (d : BootDir), s.Accepts m 0x606 ∧ d = s.directory.2 ∧ u = dirWrite
      d.active 0 d.tries s ∧ s.inst = 0 ∧ d.state ≠ 1) ∧
    (∃ (m : YMsg) (s : State) (u : State) (d : BootDir), s.Accepts m 0x606 ∧ d = s.directory.2 ∧ u = dirWrite
      d.active 0 d.tries s ∧ s.inst = 0 ∧ d.state = 1) := by
  refine ⟨?_, ?_, ?_, ?_, ?_, ?_, ?_, ?_, ?_, ?_, ?_, ?_, ?_, ?_, ?_, ?_, ?_, ?_, ?_, ?_, ?_, ?_, ?_, ?_⟩
  · refine ⟨⟨.host, 0, 0, 3, 1, 7, 0, 0, []⟩, st [(FW_CORE.STATE 2, 1)], ?_, ?_⟩
    · exact accepts_of (by decide +kernel)
    · first | decide +kernel | rfl
  · refine ⟨⟨.host, 0, 0, 3, 1, 7, 0, 0, []⟩, { st [(FW_CORE.STATE 2, 1)] with fw := { State.reset.fw with verified := some (3, 4) } }, (3, 4), ?_, ?_⟩
    · exact accepts_of (by decide +kernel)
    · first | decide +kernel | rfl
  · refine ⟨⟨.host, 0, 0, 3, 1, 7, 0, 0, []⟩, { st [(FW_CORE.STATE 2, 1)] with efuse := { State.reset.efuse with inst := 1 } }, ?_, ?_⟩
    · exact accepts_of (by decide +kernel)
    · decide +kernel
  · refine ⟨⟨.host, 0, 0, 3, 1, 7, 0, 0, []⟩, { st [(FW_CORE.STATE 2, 1), (FW_ACT.PEND, 1)] with efuse := { State.reset.efuse with inst := 0 } }, ?_, ?_⟩
    · exact accepts_of (by decide +kernel)
    · decide +kernel
  · refine ⟨⟨.host, 0, 0, 3, 1, 7, 4, 0, [1, 0, 128, 0]⟩, { st [(FW_CORE.STATE 2, 1), (FW_ACT.PEND, 0)] with efuse := { State.reset.efuse with inst := 0 }, fw := { State.reset.fw with resetDue := false } }, ?_, ?_⟩
    · exact accepts_of (by decide +kernel)
    · decide +kernel
  · refine ⟨⟨.host, 0, 0, 3, 1, 7, 0, 0, []⟩, { st [(FW_CORE.STATE 2, 1), (FW_ACT.PEND, 0)] with efuse := { State.reset.efuse with inst := 0 }, fw := { State.reset.fw with resetDue := false } }, ?_, ?_⟩
    · exact accepts_of (by decide +kernel)
    · decide +kernel
  · refine ⟨⟨.host, 0, 0, 3, 1, 7, 0, 0, []⟩, none, { st [(FW_CORE.STATE 2, 1)] with efuse := { State.reset.efuse with inst := 1 } }, (⟨.host, 0, 0, 3, 1, 7, 0, 0, []⟩ : YMsg).descOk 4 1 0 (fun _ => true), ?_, ?_, ?_⟩
    · exact accepts_of (by decide +kernel)
    · first | rfl | decide +kernel
    · decide +kernel
  · refine ⟨⟨.host, 0, 0, 3, 1, 7, 0, 0, []⟩, none, { st [(FW_CORE.STATE 2, 1)] with efuse := { State.reset.efuse with inst := 0 } }, (⟨.host, 0, 0, 3, 1, 7, 0, 0, []⟩ : YMsg).descOk 4 1 0 (fun _ => true), ?_, ?_, ?_, ?_⟩
    · exact accepts_of (by decide +kernel)
    · first | rfl | decide +kernel
    · first | decide +kernel | rfl
    · first | decide +kernel | rfl
  · refine ⟨⟨.host, 0, 0, 3, 1, 7, 16, 0, []⟩, none, { st [(FW_CORE.STATE 2, 1)] with fw := { State.reset.fw with staged := some 4096 }, efuse := { State.reset.efuse with inst := 0 } }, (⟨.host, 0, 0, 3, 1, 7, 16, 0, []⟩ : YMsg).descOk 4 1 0 (fun _ => true), 4096, ?_, ?_, ?_, ?_, ?_⟩
    · exact accepts_of (by decide +kernel)
    · first | rfl | decide +kernel
    · first | decide +kernel | rfl
    · first | decide +kernel | rfl
    · first | rfl | decide +kernel
  · refine ⟨⟨.host, 0, 0, 3, 1, 7, 16, 2, [0, 0, 0, 0, 0, 0, 0, 0, 0, 0, 0, 0, 5]⟩, none, { st [(FW_CORE.STATE 2, 1)] with fw := { State.reset.fw with staged := some 4096 }, efuse := { State.reset.efuse with inst := 0 } }, (⟨.host, 0, 0, 3, 1, 7, 16, 2, [0, 0, 0, 0, 0, 0, 0, 0, 0, 0, 0, 0, 5]⟩ : YMsg).descOk 4 1 0 (fun _ => true), 4096, ?_, ?_, ?_, ?_, ?_, ?_, ?_⟩
    · exact accepts_of (by decide +kernel)
    · first | rfl | decide +kernel
    · first | decide +kernel | rfl
    · first | decide +kernel | rfl
    · first | rfl | decide +kernel
    · decide +kernel
    · first | rfl | decide +kernel
  · refine ⟨⟨.host, 0, 0, 3, 1, 7, 16, 2, [0, 0, 0, 0, 0, 0, 0, 0, 0, 0, 0, 0, 5]⟩, some ([1, 2, 3]), { st [(FW_CORE.STATE 2, 1)] with fw := { State.reset.fw with staged := some 4096 }, efuse := { State.reset.efuse with inst := 0 } }, (⟨.host, 0, 0, 3, 1, 7, 16, 2, [0, 0, 0, 0, 0, 0, 0, 0, 0, 0, 0, 0, 5]⟩ : YMsg).descOk 4 1 0 (fun _ => true), 4096, [1, 2, 3], flashWrite (slotBase ({ st [(FW_CORE.STATE 2, 1)] with fw := { State.reset.fw with staged := some 4096 }, efuse := { State.reset.efuse with inst := 0 } }).stagedSlot + (⟨.host, 0, 0, 3, 1, 7, 16, 2, [0, 0, 0, 0, 0, 0, 0, 0, 0, 0, 0, 0, 5]⟩ : YMsg).b32 0) (([1, 2, 3]).take ((⟨.host, 0, 0, 3, 1, 7, 16, 2, [0, 0, 0, 0, 0, 0, 0, 0, 0, 0, 0, 0, 5]⟩ : YMsg).b32 12)) ({ st [(FW_CORE.STATE 2, 1)] with fw := { State.reset.fw with staged := some 4096 }, efuse := { State.reset.efuse with inst := 0 } }), ?_, ?_, ?_, ?_, ?_, ?_, ?_, ?_⟩
    · exact accepts_of (by decide +kernel)
    · first | rfl | decide +kernel
    · first | decide +kernel | rfl
    · first | decide +kernel | rfl
    · first | rfl | decide +kernel
    · decide +kernel
    · first | rfl | decide +kernel
    · first | rfl | decide +kernel
  · refine ⟨⟨.host, 0, 0, 3, 1, 7, 0, 0, []⟩, { st [(FW_CORE.STATE 2, 1)] with efuse := { State.reset.efuse with inst := 1 } }, ({ st [(FW_CORE.STATE 2, 1)] with efuse := { State.reset.efuse with inst := 1 } }).ring kVL 5, (({ st [(FW_CORE.STATE 2, 1)] with efuse := { State.reset.efuse with inst := 1 } }).ring kVL 5).slotFault (({ st [(FW_CORE.STATE 2, 1)] with efuse := { State.reset.efuse with inst := 1 } }).ring kVL 5).stagedSlot, { (({ st [(FW_CORE.STATE 2, 1)] with efuse := { State.reset.efuse with inst := 1 } }).ring kVL 5) with fw := { (({ st [(FW_CORE.STATE 2, 1)] with efuse := { State.reset.efuse with inst := 1 } }).ring kVL 5).fw with verified := some (BitVec.ofNat 32 (hdrField ((({ st [(FW_CORE.STATE 2, 1)] with efuse := { State.reset.efuse with inst := 1 } }).ring kVL 5).slotHeader (({ st [(FW_CORE.STATE 2, 1)] with efuse := { State.reset.efuse with inst := 1 } }).ring kVL 5).stagedSlot) 16 4), hdrField ((({ st [(FW_CORE.STATE 2, 1)] with efuse := { State.reset.efuse with inst := 1 } }).ring kVL 5).slotHeader (({ st [(FW_CORE.STATE 2, 1)] with efuse := { State.reset.efuse with inst := 1 } }).ring kVL 5).stagedSlot) 8 4) } }, ?_, ?_, ?_, ?_, ?_⟩
    · exact accepts_of (by decide +kernel)
    · first | rfl | decide +kernel
    · first | rfl | decide +kernel
    · first | rfl | decide +kernel
    · decide +kernel
  · refine ⟨⟨.host, 0, 0, 3, 1, 7, 0, 0, []⟩, { st [(FW_CORE.STATE 2, 1)] with efuse := { State.reset.efuse with inst := 0 } }, ({ st [(FW_CORE.STATE 2, 1)] with efuse := { State.reset.efuse with inst := 0 } }).ring kVL 5, (({ st [(FW_CORE.STATE 2, 1)] with efuse := { State.reset.efuse with inst := 0 } }).ring kVL 5).slotFault (({ st [(FW_CORE.STATE 2, 1)] with efuse := { State.reset.efuse with inst := 0 } }).ring kVL 5).stagedSlot, { (({ st [(FW_CORE.STATE 2, 1)] with efuse := { State.reset.efuse with inst := 0 } }).ring kVL 5) with fw := { (({ st [(FW_CORE.STATE 2, 1)] with efuse := { State.reset.efuse with inst := 0 } }).ring kVL 5).fw with verified := some (BitVec.ofNat 32 (hdrField ((({ st [(FW_CORE.STATE 2, 1)] with efuse := { State.reset.efuse with inst := 0 } }).ring kVL 5).slotHeader (({ st [(FW_CORE.STATE 2, 1)] with efuse := { State.reset.efuse with inst := 0 } }).ring kVL 5).stagedSlot) 16 4), hdrField ((({ st [(FW_CORE.STATE 2, 1)] with efuse := { State.reset.efuse with inst := 0 } }).ring kVL 5).slotHeader (({ st [(FW_CORE.STATE 2, 1)] with efuse := { State.reset.efuse with inst := 0 } }).ring kVL 5).stagedSlot) 8 4) } }, ?_, ?_, ?_, ?_, ?_⟩
    · exact accepts_of (by decide +kernel)
    · first | rfl | decide +kernel
    · first | rfl | decide +kernel
    · first | rfl | decide +kernel
    · first | decide +kernel | rfl
  · refine ⟨⟨.host, 0, 0, 3, 1, 7, 0, 0, []⟩, { st [(FW_CORE.STATE 2, 1)] with efuse := { State.reset.efuse with inst := 1 } }, ?_, ?_⟩
    · exact accepts_of (by decide +kernel)
    · decide +kernel
  · refine ⟨⟨.host, 0, 0, 3, 1, 7, 0, 0, []⟩, { st [(FW_CORE.STATE 2, 1), (FW_ACT.PEND, 1), (FW_ACT.DEFERRED, 1)] with efuse := { State.reset.efuse with inst := 0 } }, ?_, ?_⟩
    · exact accepts_of (by decide +kernel)
    · decide +kernel
  · refine ⟨⟨.host, 0, 0, 3, 1, 7, 0, 0, []⟩, { st [(FW_CORE.STATE 2, 1), (FW_ACT.PEND, 1), (FW_ACT.DEFERRED, 0)] with efuse := { State.reset.efuse with inst := 0 } }, ?_, ?_⟩
    · exact accepts_of (by decide +kernel)
    · decide +kernel
  · refine ⟨⟨.host, 0, 0, 3, 1, 7, 0, 0, []⟩, { st [(FW_CORE.STATE 2, 1), (FW_ACT.PEND, 0)] with efuse := { State.reset.efuse with inst := 0 } }, ?_, ?_⟩
    · exact accepts_of (by decide +kernel)
    · decide +kernel
  · refine ⟨⟨.host, 0, 0, 3, 1, 7, 0, 0, []⟩, { st [(FW_CORE.STATE 2, 1), (FW_ACT.PEND, 0)] with fw := { State.reset.fw with verified := some (3, 4) }, ts := 8000000, efuse := { State.reset.efuse with inst := 0 } }, ?_, ?_⟩
    · exact accepts_of (by decide +kernel)
    · decide +kernel
  · refine ⟨⟨.host, 0, 0, 3, 1, 7, 0, 0, []⟩, { st [(FW_CORE.STATE 2, 1), (FW_ACT.PEND, 0)] with fw := { State.reset.fw with verified := some (3, 4) }, efuse := { State.reset.efuse with inst := 0 } }, ?_, ?_⟩
    · exact accepts_of (by decide +kernel)
    · decide +kernel
  · refine ⟨⟨.host, 0, 0, 3, 1, 7, 0, 0, []⟩, { st [(FW_CORE.STATE 2, 1)] with efuse := { State.reset.efuse with inst := 1 } }, ?_, ?_⟩
    · exact accepts_of (by decide +kernel)
    · decide +kernel
  · refine ⟨⟨.host, 0, 0, 3, 1, 7, 0, 0, []⟩, { st [(FW_CORE.STATE 2, 1)] with efuse := { State.reset.efuse with inst := 0 } }, ?_, ?_⟩
    · exact accepts_of (by decide +kernel)
    · first | decide +kernel | rfl
  · refine ⟨⟨.host, 0, 0, 3, 1, 7, 0, 0, []⟩, { st [(FW_CORE.STATE 2, 1)] with efuse := { State.reset.efuse with inst := 1 } }, dirWrite (({ st [(FW_CORE.STATE 2, 1)] with efuse := { State.reset.efuse with inst := 1 } }).directory.2).active 0 (({ st [(FW_CORE.STATE 2, 1)] with efuse := { State.reset.efuse with inst := 1 } }).directory.2).tries ({ st [(FW_CORE.STATE 2, 1)] with efuse := { State.reset.efuse with inst := 1 } }), ({ st [(FW_CORE.STATE 2, 1)] with efuse := { State.reset.efuse with inst := 1 } }).directory.2, ?_, ?_, ?_, ?_⟩
    · exact accepts_of (by decide +kernel)
    · first | rfl | decide +kernel
    · first | rfl | decide +kernel
    · decide +kernel
  · refine ⟨⟨.host, 0, 0, 3, 1, 7, 0, 0, []⟩, { st [(FW_CORE.STATE 2, 1)] with efuse := { State.reset.efuse with inst := 0 } }, dirWrite (({ st [(FW_CORE.STATE 2, 1)] with efuse := { State.reset.efuse with inst := 0 } }).directory.2).active 0 (({ st [(FW_CORE.STATE 2, 1)] with efuse := { State.reset.efuse with inst := 0 } }).directory.2).tries ({ st [(FW_CORE.STATE 2, 1)] with efuse := { State.reset.efuse with inst := 0 } }), ({ st [(FW_CORE.STATE 2, 1)] with efuse := { State.reset.efuse with inst := 0 } }).directory.2, ?_, ?_, ?_, ?_, ?_⟩
    · exact accepts_of (by decide +kernel)
    · first | rfl | decide +kernel
    · first | rfl | decide +kernel
    · first | decide +kernel | rfl
    · decide +kernel
  · refine ⟨⟨.host, 0, 0, 3, 1, 7, 0, 0, []⟩, { st [(FW_CORE.STATE 2, 1)] with fw := (dirWrite 0 1 3 State.reset).fw, efuse := { State.reset.efuse with inst := 0 } }, dirWrite (({ st [(FW_CORE.STATE 2, 1)] with fw := (dirWrite 0 1 3 State.reset).fw, efuse := { State.reset.efuse with inst := 0 } }).directory.2).active 0 (({ st [(FW_CORE.STATE 2, 1)] with fw := (dirWrite 0 1 3 State.reset).fw, efuse := { State.reset.efuse with inst := 0 } }).directory.2).tries ({ st [(FW_CORE.STATE 2, 1)] with fw := (dirWrite 0 1 3 State.reset).fw, efuse := { State.reset.efuse with inst := 0 } }), ({ st [(FW_CORE.STATE 2, 1)] with fw := (dirWrite 0 1 3 State.reset).fw, efuse := { State.reset.efuse with inst := 0 } }).directory.2, ?_, ?_, ?_, ?_, ?_⟩
    · exact accepts_of (by decide +kernel)
    · first | rfl | decide +kernel
    · first | rfl | decide +kernel
    · first | decide +kernel | rfl
    · first | decide +kernel | rfl

/-- States and operands that meet the hypotheses of YutreFirmwareOpcodesComplete (part 2). -/
theorem witness_YutreFirmwareOpcodesComplete_2 :
    (∃ (m : YMsg) (s : State), s.Accepts m 0x607 ∧ s.Permits .sch FW_HOST_KICK 0) := by
  refine ⟨⟨.host, 0, 0, 3, 1, 7, 0, 0, []⟩, { st [(FW_CORE.STATE 2, 1)] with rst := { State.reset.rst with inst := false, por := false } }, ?_, ?_⟩
  · exact accepts_of (by decide +kernel)
  · exact permits_of (by decide +kernel)

/-- States and operands that meet the hypotheses of PmbusTransactionsComplete (part 1). -/
theorem witness_PmbusTransactionsComplete_1 :
    (∃ (p : BitVec 8) (s : State), p = 0 ∧ s.rst.por = false) ∧
    (∃ (p : BitVec 8) (s : State), p ≠ 0 ∧ s.rst.por = false) ∧
    (∃ (s : State), s.rst.por = false) ∧
    (∃ (s : State), s.rst.por = false) ∧
    (∃ (s : State), s.rst.por = false) ∧
    (∃ (s : State), s.rst.por = false) ∧
    (∃ (s : State), s.rst.por = false) ∧
    (∃ (s : State), s.rst.por = false) ∧
    (∃ (s : State), s.rst.por = false) ∧
    (∃ (s : State) (u : State), u = smbFresh s ∧ s.rst.por = false) ∧
    (∃ (s : State) (u : State), u = smbFresh s ∧ s.rst.por = false) ∧
    (∃ (num : ℤ) (den : ℕ), 0 < den) ∧
    (∃ (num : ℤ) (den : ℕ) (lo : ℤ) (hi : ℤ) (w : ℕ), linear11 num den lo hi = some w) ∧
    (∃ (s : State) (w : ℕ), linear11 (s.get XPH_IN.V12 : Nat) 1000 (-6) 0 = some w ∧ s.rst.por = false) ∧
    (∃ (s : State) (w : ℕ), linear11 (s.getI XPH_IN.I12) 16 (-6) 0 = some w ∧ s.rst.por = false) ∧
    (∃ (s : State), linear11 (s.getI XPH_IN.I12) 16 (-6) 0 = none ∧ s.rst.por = false) ∧
    (∃ (s : State), s.rst.por = false) ∧
    (∃ (s : State) (w : ℕ), linear11 (s.getI XPH_IVIM.IVIM) 16 (-4) 2 = some w ∧ s.rst.por = false) ∧
    (∃ (s : State) (w : ℕ), linear11 (s.get XPH_VIM.VIM * s.getI XPH_IVIM.IVIM) 12800 (-2) 3 = some w ∧
      s.rst.por = false) ∧
    (∃ (s : State), linear11 (s.get XPH_VIM.VIM * s.getI XPH_IVIM.IVIM) 12800 (-2) 3 = none ∧ s.rst.por = false) ∧
    (∃ (s : State) (l : List ℤ), (l = (((List.range 64).filter fun q => s.bit (THM_GSTAT.VALID q)).map fun q =>
      s.getI (THM_GSTAT.TEMP q))) ∧ l = [] ∧ s.rst.por = false) ∧
    (∃ (s : State) (l : List ℤ) (x : ℤ) (w : ℕ), (l = (((List.range 64).filter fun q => s.bit (THM_GSTAT.VALID
      q)).map fun q => s.getI (THM_GSTAT.TEMP q))) ∧ x ∈ l ∧ (∀ y ∈ l, y ≤ x) ∧ linear11 x 16 (-4) 0 = some w ∧
      s.rst.por = false) ∧
    (∃ (s : State) (l : List ℤ), (l = (((List.range 32).filter fun p => s.bit (XPH_PH_CFG.EN p)).map fun p =>
      ((s.get (XPH_PH_MEAS.TEMP p) : Nat) : Int))) ∧ l = [] ∧ s.rst.por = false) ∧
    (∃ (s : State) (l : List ℤ) (x : ℤ) (w : ℕ), (l = (((List.range 32).filter fun p => s.bit (XPH_PH_CFG.EN
      p)).map fun p => ((s.get (XPH_PH_MEAS.TEMP p) : Nat) : Int))) ∧ x ∈ l ∧ (∀ y ∈ l, y ≤ x) ∧ linear11 x 1
      (-4) 0 = some w ∧ s.rst.por = false) := by
  refine ⟨?_, ?_, ?_, ?_, ?_, ?_, ?_, ?_, ?_, ?_, ?_, ?_, ?_, ?_, ?_, ?_, ?_, ?_, ?_, ?_, ?_, ?_, ?_, ?_⟩
  · refine ⟨0, { State.reset with rst := { State.reset.rst with por := false } }, ?_, ?_⟩
    · first | rfl | decide +kernel
    · first | decide +kernel | rfl
  · refine ⟨1, { State.reset with rst := { State.reset.rst with por := false } }, ?_, ?_⟩
    · decide +kernel
    · first | decide +kernel | rfl
  · refine ⟨{ State.reset with rst := { State.reset.rst with por := false } }, ?_⟩
    · first | decide +kernel | rfl
  · refine ⟨{ State.reset with rst := { State.reset.rst with por := false } }, ?_⟩
    · first | decide +kernel | rfl
  · refine ⟨{ State.reset with rst := { State.reset.rst with por := false } }, ?_⟩
    · first | decide +kernel | rfl
  · refine ⟨{ State.reset with rst := { State.reset.rst with por := false } }, ?_⟩
    · first | decide +kernel | rfl
  · refine ⟨{ State.reset with rst := { State.reset.rst with por := false } }, ?_⟩
    · first | decide +kernel | rfl
  · refine ⟨{ State.reset with rst := { State.reset.rst with por := false } }, ?_⟩
    · first | decide +kernel | rfl
  · refine ⟨{ State.reset with rst := { State.reset.rst with por := false } }, ?_⟩
    · first | decide +kernel | rfl
  · refine ⟨{ State.reset with rst := { State.reset.rst with por := false } }, smbFresh ({ State.reset with rst := { State.reset.rst with por := false } }), ?_, ?_⟩
    · first | rfl | decide +kernel
    · first | decide +kernel | rfl
  · refine ⟨{ State.reset with rst := { State.reset.rst with por := false } }, smbFresh ({ State.reset with rst := { State.reset.rst with por := false } }), ?_, ?_⟩
    · first | rfl | decide +kernel
    · first | decide +kernel | rfl
  · refine ⟨1, 1, ?_⟩
    · decide +kernel
  · refine ⟨-1, 2, -1, 1, 65535, ?_⟩
    · first | decide +kernel | rfl
  · refine ⟨{ st [(XPH_IN.V12, 12000)] with rst := { State.reset.rst with por := false } }, ((linear11 ((st [(XPH_IN.V12, 12000)]).get XPH_IN.V12 : Nat) 1000 (-6) 0).getD 0), ?_, ?_⟩
    · first | decide +kernel | rfl
    · first | decide +kernel | rfl
  · refine ⟨{ (st [(XPH_IN.I12, 80)]) with rst := { State.reset.rst with inst := false, por := false } }, ((linear11 ((st [(XPH_IN.I12, 80)]).getI XPH_IN.I12) 16 (-6) 0).getD 0), ?_, ?_⟩
    · first | decide +kernel | rfl
    · first | decide +kernel | rfl
  · refine ⟨{ (st [(XPH_IN.I12, 0x7FFF)]) with rst := { State.reset.rst with inst := false, por := false } }, ?_, ?_⟩
    · first | decide +kernel | rfl
    · first | decide +kernel | rfl
  · refine ⟨{ State.reset with rst := { State.reset.rst with por := false } }, ?_⟩
    · first | decide +kernel | rfl
  · refine ⟨{ (st [(XPH_IVIM.IVIM, 80), (XPH_VIM.VIM, 1200)]) with rst := { State.reset.rst with inst := false, por := false } }, ((linear11 ((st [(XPH_IVIM.IVIM, 80), (XPH_VIM.VIM, 1200)]).getI XPH_IVIM.IVIM) 16 (-4) 2).getD 0), ?_, ?_⟩
    · first | decide +kernel | rfl
    · first | decide +kernel | rfl
  · refine ⟨{ (st [(XPH_IVIM.IVIM, 80), (XPH_VIM.VIM, 1200)]) with rst := { State.reset.rst with inst := false, por := false } }, ((linear11 ((st [(XPH_IVIM.IVIM, 80), (XPH_VIM.VIM, 1200)]).get XPH_VIM.VIM * (st [(XPH_IVIM.IVIM, 80), (XPH_VIM.VIM, 1200)]).getI XPH_IVIM.IVIM) 12800 (-2) 3).getD 0), ?_, ?_⟩
    · first | decide +kernel | rfl
    · first | decide +kernel | rfl
  · refine ⟨{ (st [(XPH_IVIM.IVIM, 32767), (XPH_VIM.VIM, 4095)]) with rst := { State.reset.rst with inst := false, por := false } }, ?_, ?_⟩
    · first | decide +kernel | rfl
    · first | decide +kernel | rfl
  · refine ⟨{ State.reset with rst := { State.reset.rst with por := false } }, (((List.range 64).filter fun q => ({ State.reset with rst := { State.reset.rst with por := false } }).bit (THM_GSTAT.VALID q)).map fun q => ({ State.reset with rst := { State.reset.rst with por := false } }).getI (THM_GSTAT.TEMP q)), ?_, ?_, ?_⟩
    · first | rfl | decide +kernel
    · first | rfl | decide +kernel
    · first | decide +kernel | rfl
  · refine ⟨{ (st [(THM_GSTAT.VALID 63, 1), (THM_GSTAT.TEMP 63, 800)]) with rst := { State.reset.rst with inst := false, por := false } }, (((List.range 64).filter fun q => ({ (st [(THM_GSTAT.VALID 63, 1), (THM_GSTAT.TEMP 63, 800)]) with rst := { State.reset.rst with inst := false, por := false } }).bit (THM_GSTAT.VALID q)).map fun q => ({ (st [(THM_GSTAT.VALID 63, 1), (THM_GSTAT.TEMP 63, 800)]) with rst := { State.reset.rst with inst := false, por := false } }).getI (THM_GSTAT.TEMP q)), 800, ((linear11 800 16 (-4) 0).getD 0), ?_, ?_, ?_, ?_, ?_⟩
    · first | rfl | decide +kernel
    · decide +kernel
    · decide +kernel
    · first | decide +kernel | rfl
    · first | decide +kernel | rfl
  · refine ⟨{ (st ((List.range 32).map fun p => (XPH_PH_CFG.EN p, 0))) with rst := { State.reset.rst with inst := false, por := false } }, (((List.range 32).filter fun p => ({ (st ((List.range 32).map fun p => (XPH_PH_CFG.EN p, 0))) with rst := { State.reset.rst with inst := false, por := false } }).bit (XPH_PH_CFG.EN p)).map fun p => ((({ (st ((List.range 32).map fun p => (XPH_PH_CFG.EN p, 0))) with rst := { State.reset.rst with inst := false, por := false } }).get (XPH_PH_MEAS.TEMP p) : Nat) : Int)), ?_, ?_, ?_⟩
    · first | rfl | decide +kernel
    · decide +kernel
    · first | decide +kernel | rfl
  · refine ⟨{ (st ([(XPH_PH_CFG.EN 31, 1), (XPH_PH_MEAS.TEMP 31, 55)] ++ (List.range 31).map fun p => (XPH_PH_CFG.EN p, 0))) with rst := { State.reset.rst with inst := false, por := false } }, (((List.range 32).filter fun p => ({ (st ([(XPH_PH_CFG.EN 31, 1), (XPH_PH_MEAS.TEMP 31, 55)] ++ (List.range 31).map fun p => (XPH_PH_CFG.EN p, 0))) with rst := { State.reset.rst with inst := false, por := false } }).bit (XPH_PH_CFG.EN p)).map fun p => ((({ (st ([(XPH_PH_CFG.EN 31, 1), (XPH_PH_MEAS.TEMP 31, 55)] ++ (List.range 31).map fun p => (XPH_PH_CFG.EN p, 0))) with rst := { State.reset.rst with inst := false, por := false } }).get (XPH_PH_MEAS.TEMP p) : Nat) : Int)), 55, ((linear11 55 1 (-4) 0).getD 0), ?_, ?_, ?_, ?_, ?_⟩
    · first | rfl | decide +kernel
    · decide +kernel
    · decide +kernel
    · first | decide +kernel | rfl
    · first | decide +kernel | rfl

/-- States and operands that meet the hypotheses of PmbusTransactionsComplete (part 2). -/
theorem witness_PmbusTransactionsComplete_2 :
    (∃ (v : BitVec 16) (s : State), s.rst.por = false ∧ s.inst = 0 ∧ s.rst.inst = false) ∧
    (∃ (v : BitVec 16) (s : State), s.rst.por = false ∧ s.inst = 0 ∧ s.rst.inst = true) ∧
    (∃ (v : BitVec 16) (s : State), s.rst.por = false ∧ s.inst ≠ 0) ∧
    (∃ (s : State) (v : ℕ), v = s.get PWR_PKG_BMC.BMC ∧ s.rst.por = false) ∧
    (∃ (s : State), s.rst.por = false) ∧
    (∃ (s : State), s.rst.por = false) ∧
    (∃ (s : State), s.rst.por = false) ∧
    (∃ (f : Fin 4) (s : State), s.rst.por = false) ∧
    (∃ (s : State) (u : State), u = smbFresh s ∧ u.smb.alert = true ∧ u.get MCH_SMB.ALERT_EN = 1 ∧ s.rst.por =
      false) ∧
    (∃ (s : State) (u : State), u = smbFresh s ∧ (u.smb.alert = false ∨ u.get MCH_SMB.ALERT_EN = 0) ∧ s.rst.por
      = false) := by
  refine ⟨?_, ?_, ?_, ?_, ?_, ?_, ?_, ?_, ?_, ?_⟩
  · refine ⟨1, { State.reset with rst := { State.reset.rst with por := false, inst := false }, efuse := { State.reset.efuse with inst := 0 } }, ?_, ?_, ?_⟩
    · first | decide +kernel | rfl
    · first | decide +kernel | rfl
    · first | decide +kernel | rfl
  · refine ⟨1, { State.reset with rst := { State.reset.rst with por := false, inst := true }, efuse := { State.reset.efuse with inst := 0 } }, ?_, ?_, ?_⟩
    · first | decide +kernel | rfl
    · first | decide +kernel | rfl
    · first | decide +kernel | rfl
  · refine ⟨1, { State.reset with rst := { State.reset.rst with por := false }, efuse := { State.reset.efuse with inst := 1 } }, ?_, ?_⟩
    · first | decide +kernel | rfl
    · decide +kernel
  · refine ⟨{ State.reset with rst := { State.reset.rst with por := false } }, ({ State.reset with rst := { State.reset.rst with por := false } }).get PWR_PKG_BMC.BMC, ?_, ?_⟩
    · first | rfl | decide +kernel
    · first | decide +kernel | rfl
  · refine ⟨{ State.reset with rst := { State.reset.rst with por := false } }, ?_⟩
    · first | decide +kernel | rfl
  · refine ⟨{ State.reset with rst := { State.reset.rst with por := false } }, ?_⟩
    · first | decide +kernel | rfl
  · refine ⟨{ State.reset with rst := { State.reset.rst with por := false } }, ?_⟩
    · first | decide +kernel | rfl
  · refine ⟨3, { State.reset with rst := { State.reset.rst with por := false } }, ?_⟩
    · first | decide +kernel | rfl
  · refine ⟨{ st [(MCH_SMB.ALERT_EN, 1)] with smb := { State.reset.smb with alert := true }, rst := { State.reset.rst with por := false } }, smbFresh ({ st [(MCH_SMB.ALERT_EN, 1)] with smb := { State.reset.smb with alert := true }, rst := { State.reset.rst with por := false } }), ?_, ?_, ?_, ?_⟩
    · first | rfl | decide +kernel
    · first | decide +kernel | rfl
    · first | decide +kernel | rfl
    · first | decide +kernel | rfl
  · refine ⟨{ State.reset with rst := { State.reset.rst with por := false } }, smbFresh ({ State.reset with rst := { State.reset.rst with por := false } }), ?_, ?_, ?_⟩
    · first | rfl | decide +kernel
    · decide +kernel
    · first | decide +kernel | rfl

/-- States and operands that meet the hypotheses of PllStopIsRefusedWhileAnythingIsLive. -/
theorem witness_PllStopIsRefusedWhileAnythingIsLive :
    (∃ (req : Requester) (s : State), s.Permits req TIM_CTRL 0 ∧ s.get TIM_CTRL.PLL_EN = 1 ∧ ((∃ n, 1 ≤ n ∧ n <
      256 ∧ s.rgnState n ≠ 0) ∨ (∃ p, p < 32 ∧ s.phState p ≠ 0 ∧ s.phState p ≠ 1 ∧ s.phState p ≠ 5))) ∧
    (∃ (req : Requester) (s : State), s.Permits req TIM_CTRL 0 ∧ s.get TIM_CTRL.PLL_EN = 1 ∧ (∀ n, 1 ≤ n → n <
      256 → s.rgnState n = 0) ∧ (∀ p, p < 32 → s.phState p = 0 ∨ s.phState p = 1 ∨ s.phState p = 5)) := by
  refine ⟨?_, ?_⟩
  · refine ⟨.sec, { (st [(TIM_CTRL.PLL_EN, 1), (RGN_STAT.STATE 255, 2)]) with rst := { State.reset.rst with inst := false, por := false } }, ?_, ?_, ?_⟩
    · exact permits_of (by decide +kernel)
    · first | decide +kernel | rfl
    · exact .inl ⟨255, by decide +kernel⟩
  · refine ⟨.sec, { (st ((TIM_CTRL.PLL_EN, 1) :: (List.range 32).map fun p => (XPH_PH_STAT.STATE p, 0))) with rst := { State.reset.rst with inst := false, por := false } }, ?_, ?_, ?_, ?_⟩
    · exact permits_of (by decide +kernel)
    · first | decide +kernel | rfl
    · first | decide +kernel | rfl
    · decide +kernel

/-- States and operands that meet the hypotheses of OneClaimOfAMailChannelSucceeds. -/
theorem witness_OneClaimOfAMailChannelSucceeds :
    (∃ (e : Dword) (e' : Dword) (p : Requester) (q : Requester) (c : Fin 32) (s : State), s.rst.inst = true) ∧
    (∃ (e : Dword) (e' : Dword) (p : Requester) (q : Requester) (c : Fin 32) (s : State), s.rst.inst = false ∧
      ((fillTimeout c (s.advanceTo e)).chState c ≠ 0 ∨ (fillTimeout c (s.advanceTo e)).get (MCH_CH_CFG.EN c) =
      0)) ∧
    (∃ (e : Dword) (e' : Dword) (p : Requester) (q : Requester) (c : Fin 32) (s : State), s.rst.inst = false) := by
  refine ⟨?_, ?_, ?_⟩
  · refine ⟨0x123456789, 0x123456789, .sec, .sec, 31, { State.reset with rst := { State.reset.rst with inst := true } }, ?_⟩
    · first | decide +kernel | rfl
  · refine ⟨0x123456789, 0x123456789, .sec, .sec, 31, { st [(MCH_CH_STAT.STATE 31, 2)] with rst := { State.reset.rst with inst := false, por := false } }, ?_, ?_⟩
    · first | decide +kernel | rfl
    · decide +kernel
  · refine ⟨0x123456789, 0x123456789, .sec, .sec, 31, { State.reset with rst := { State.reset.rst with inst := false, por := false } }, ?_⟩
    · first | decide +kernel | rfl

/-- States and operands that meet the hypotheses of ChannelConfigurationWaitsForEmpty. -/
theorem witness_ChannelConfigurationWaitsForEmpty :
    (∃ (req : Requester) (p : Requester) (e : Dword) (c : Fin 32) (v : Word) (s : State) (u : State), s.Permits
      req (MCH_CH_CFG c) v ∧ u = fillTimeout c s ∧ u.chState c ≠ 0) ∧
    (∃ (req : Requester) (p : Requester) (e : Dword) (c : Fin 32) (v : Word) (s : State) (u : State), s.Permits
      req (MCH_CH_CFG c) v ∧ u = fillTimeout c s ∧ u.chState c = 0) := by
  refine ⟨?_, ?_⟩
  · refine ⟨.sec, .sec, 0x123456789, 31, 1, { st [(MCH_CH_STAT.STATE (31 : Fin 32), 1)] with rst := { State.reset.rst with inst := false, por := false } }, fillTimeout (31 : Fin 32) ({ st [(MCH_CH_STAT.STATE (31 : Fin 32), 1)] with rst := { State.reset.rst with inst := false, por := false } }), ?_, ?_, ?_⟩
    · exact permits_of (by decide +kernel)
    · first | rfl | decide +kernel
    · decide +kernel
  · refine ⟨.sec, .sec, 0x123456789, 31, 1, { st [(MCH_CH_STAT.STATE (31 : Fin 32), 0)] with rst := { State.reset.rst with inst := false, por := false } }, fillTimeout (31 : Fin 32) ({ st [(MCH_CH_STAT.STATE (31 : Fin 32), 0)] with rst := { State.reset.rst with inst := false, por := false } }), ?_, ?_, ?_⟩
    · exact permits_of (by decide +kernel)
    · first | rfl | decide +kernel
    · first | decide +kernel | rfl

/-- States and operands that meet the hypotheses of ExactArithmeticKeepsItsBounds. -/
theorem witness_ExactArithmeticKeepsItsBounds :
    (∃ (m : ℕ), m < 2 ^ 64) ∧
    (∃ (p : ℕ) (smin : ℕ) (ms : List ℕ), ms.length = 4) ∧
    (∃ (p : ℕ) (smin : ℕ) (ms : List ℕ) (x : ℕ), ms.length = 4 ∧ 4 * smin ≤ p ∧ p < ms.sum ∧ x ∈ sharesOf p smin
      ms) ∧
    (∃ (e : ℕ) (ws : List ℕ) (fs : List ℕ), ws.length = 16 ∧ fs.length = 16) := by
  refine ⟨?_, ?_, ?_, ?_⟩
  · refine ⟨1, ?_⟩
    · decide +kernel
  · refine ⟨13, 2, [5, 5, 5, 6], ?_⟩
    · first | decide +kernel | rfl
  · refine ⟨13, 2, [5, 5, 5, 6], ((sharesOf 13 2 [5, 5, 5, 6]).getD 0 0), ?_, ?_, ?_, ?_⟩
    · first | decide +kernel | rfl
    · decide +kernel
    · decide +kernel
    · decide +kernel
  · refine ⟨1000, (List.replicate 16 3), (List.replicate 16 1), ?_, ?_⟩
    · first | decide +kernel | rfl
    · first | decide +kernel | rfl

/-- States and operands that meet the hypotheses of ResetsHoldTheirCommands. -/
theorem witness_ResetsHoldTheirCommands :
    (∃ (c : Instr) (s : State), heldInReset c = true ∧ s.rst.inst = true) ∧
    (∃ (c : Instr) (s : State), onPmbus c = true ∧ s.rst.por = true) := by
  refine ⟨?_, ?_⟩
  · refine ⟨(.loadStep 5), { State.reset with rst := { State.reset.rst with inst := true } }, ?_, ?_⟩
    · first | decide +kernel | rfl
    · first | decide +kernel | rfl
  · refine ⟨.alertResponse, { State.reset with rst := { State.reset.rst with por := true } }, ?_, ?_⟩
    · first | decide +kernel | rfl
    · first | decide +kernel | rfl

end Sys2Proof.Tests
end

/-! PROOFS of the family spec/00_scope.md. Every command by its Keeps law, so that one step keeps the canonical forms. -/

namespace Sys2Proof.Machine

/-- Every command answers a next state and keeps the canonical forms: one law of Laws/Keeps*.lean per command. -/
theorem exec_keeps (s : State) : ∀ c : Instr, ∃ t, exec c s = .next t ∧ Keeps s t
  | .registerWrite .. => execRegisterWrite_keeps (Keeps.refl s) ..
  | .counterLowRead .. => execCounterLowRead_keeps (Keeps.refl s) ..
  | .readClear .. => execReadClear_keeps (Keeps.refl s) ..
  | .pllEnable .. => execPllEnable_keeps (Keeps.refl s) ..
  | .pllStop .. => execPllStop_keeps (Keeps.refl s) ..
  | .pllLock .. => execPllLock_keeps (Keeps.refl s) ..
  | .lossOfLock .. => execLossOfLock_keeps (Keeps.refl s) ..
  | .tsSlew .. => execTsSlew_keeps (Keeps.refl s) ..
  | .tsStep .. => execTsStep_keeps (Keeps.refl s) ..
  | .slewStep .. => execSlewStep_keeps (Keeps.refl s) ..
  | .ctrlPowerGood .. => execCtrlPowerGood_keeps (Keeps.refl s) ..
  | .ctrlPowerLoss .. => execCtrlPowerLoss_keeps (Keeps.refl s) ..
  | .cellIslandGood .. => execCellIslandGood_keeps (Keeps.refl s) ..
  | .cellIslandLoss .. => execCellIslandLoss_keeps (Keeps.refl s) ..
  | .blendFrameBoundary .. => execBlendFrameBoundary_keeps (Keeps.refl s) ..
  | .windowCrossing .. => execWindowCrossing_keeps (Keeps.refl s) ..
  | .cellCurrentLimit .. => execCellCurrentLimit_keeps (Keeps.refl s) ..
  | .foldback .. => execFoldback_keeps (Keeps.refl s) ..
  | .foldbackRecovery .. => execFoldbackRecovery_keeps (Keeps.refl s) ..
  | .sensorExclusion .. => execSensorExclusion_keeps (Keeps.refl s) ..
  | .cellSnsWrite .. => execCellSnsWrite_keeps (Keeps.refl s) ..
  | .nop .. => execNop_keeps (Keeps.refl s) ..
  | .demote .. => execDemote_keeps (Keeps.refl s) ..
  | .join .. => execJoin_keeps (Keeps.refl s) ..
  | .recouple .. => execRecouple_keeps (Keeps.refl s) ..
  | .enterTest .. => execEnterTest_keeps (Keeps.refl s) ..
  | .exitTest .. => execExitTest_keeps (Keeps.refl s) ..
  | .uncouple .. => execUncouple_keeps (Keeps.refl s) ..
  | .cellCmdReserved .. => execCellCmdReserved_keeps (Keeps.refl s) ..
  | .cellPrechargeDone .. => execCellPrechargeDone_keeps (Keeps.refl s) ..
  | .cellSelfcheckDone .. => execCellSelfcheckDone_keeps (Keeps.refl s) ..
  | .cellFailure .. => execCellFailure_keeps (Keeps.refl s) ..
  | .cellTestStart .. => execCellTestStart_keeps (Keeps.refl s) ..
  | .cellTestDone .. => execCellTestDone_keeps (Keeps.refl s) ..
  | .cellTestAbandon .. => execCellTestAbandon_keeps (Keeps.refl s) ..
  | .cfgCommit .. => execCfgCommit_keeps (Keeps.refl s) ..
  | .commitValidationDone .. => execCommitValidationDone_keeps (Keeps.refl s) ..
  | .commitSafePoint .. => execCommitSafePoint_keeps (Keeps.refl s) ..
  | .safePointTimeout .. => execSafePointTimeout_keeps (Keeps.refl s) ..
  | .cfgRevert .. => execCfgRevert_keeps (Keeps.refl s) ..
  | .cfgRevertDone .. => execCfgRevertDone_keeps (Keeps.refl s) ..
  | .rgnVsetWrite .. => execRgnVsetWrite_keeps (Keeps.refl s) ..
  | .regionNop .. => execRegionNop_keeps (Keeps.refl s) ..
  | .enable .. => execEnable_keeps (Keeps.refl s) ..
  | .disable .. => execDisable_keeps (Keeps.refl s) ..
  | .clearFault .. => execClearFault_keeps (Keeps.refl s) ..
  | .regionCmdReserved .. => execRegionCmdReserved_keeps (Keeps.refl s) ..
  | .pendingEnableExecute .. => execPendingEnableExecute_keeps (Keeps.refl s) ..
  | .rampEnd .. => execRampEnd_keeps (Keeps.refl s) ..
  | .regionNoRise .. => execRegionNoRise_keeps (Keeps.refl s) ..
  | .regionShort .. => execRegionShort_keeps (Keeps.refl s) ..
  | .regionBlind .. => execRegionBlind_keeps (Keeps.refl s) ..
  | .minvClear .. => execMinvClear_keeps (Keeps.refl s) ..
  | .minvRead .. => execMinvRead_keeps (Keeps.refl s) ..
  | .start .. => execStart_keeps (Keeps.refl s) ..
  | .stop .. => execStop_keeps (Keeps.refl s) ..
  | .clear .. => execClear_keeps (Keeps.refl s) ..
  | .xphNop .. => execXphNop_keeps (Keeps.refl s) ..
  | .xphCmdReserved .. => execXphCmdReserved_keeps (Keeps.refl s) ..
  | .softstartRefStart .. => execSoftstartRefStart_keeps (Keeps.refl s) ..
  | .softstartRampStep .. => execSoftstartRampStep_keeps (Keeps.refl s) ..
  | .softstartEnd .. => execSoftstartEnd_keeps (Keeps.refl s) ..
  | .xphNoRise .. => execXphNoRise_keeps (Keeps.refl s) ..
  | .xphUnderVoltage .. => execXphUnderVoltage_keeps (Keeps.refl s) ..
  | .xphVsetWrite .. => execXphVsetWrite_keeps (Keeps.refl s) ..
  | .sensePointExclusion .. => execSensePointExclusion_keeps (Keeps.refl s) ..
  | .sensePointInclude .. => execSensePointInclude_keeps (Keeps.refl s) ..
  | .trigger .. => execTrigger_keeps (Keeps.refl s) ..
  | .onTimeEnd .. => execOnTimeEnd_keeps (Keeps.refl s) ..
  | .cycleLimit .. => execCycleLimit_keeps (Keeps.refl s) ..
  | .zeroCurrent .. => execZeroCurrent_keeps (Keeps.refl s) ..
  | .negativeCurrentLimit .. => execNegativeCurrentLimit_keeps (Keeps.refl s) ..
  | .syncLock .. => execSyncLock_keeps (Keeps.refl s) ..
  | .syncEdge .. => execSyncEdge_keeps (Keeps.refl s) ..
  | .slotTrigger .. => execSlotTrigger_keeps (Keeps.refl s) ..
  | .fastTrip .. => execFastTrip_keeps (Keeps.refl s) ..
  | .syncLost .. => execSyncLost_keeps (Keeps.refl s) ..
  | .shedDwellExpiry .. => execShedDwellExpiry_keeps (Keeps.refl s) ..
  | .loadStep .. => execLoadStep_keeps (Keeps.refl s) ..
  | .stepHoldEnd .. => execStepHoldEnd_keeps (Keeps.refl s) ..
  | .returnPhaseFire .. => execReturnPhaseFire_keeps (Keeps.refl s) ..
  | .overVoltage .. => execOverVoltage_keeps (Keeps.refl s) ..
  | .crowbarRelease .. => execCrowbarRelease_keeps (Keeps.refl s) ..
  | .phaseOverCurrent .. => execPhaseOverCurrent_keeps (Keeps.refl s) ..
  | .phaseEnableWrite .. => execPhaseEnableWrite_keeps (Keeps.refl s) ..
  | .phaseClear .. => execPhaseClear_keeps (Keeps.refl s) ..
  | .baseTick .. => execBaseTick_keeps (Keeps.refl s) ..
  | .lpeCommit .. => execLpeCommit_keeps (Keeps.refl s) ..
  | .lpeValidationDone .. => execLpeValidationDone_keeps (Keeps.refl s) ..
  | .lpeRevert .. => execLpeRevert_keeps (Keeps.refl s) ..
  | .lpeRevertDone .. => execLpeRevertDone_keeps (Keeps.refl s) ..
  | .lpeInitDone .. => execLpeInitDone_keeps (Keeps.refl s) ..
  | .lpeStateWrite .. => execLpeStateWrite_keeps (Keeps.refl s) ..
  | .lpeEnableWrite .. => execLpeEnableWrite_keeps (Keeps.refl s) ..
  | .pgTargetWrite .. => execPgTargetWrite_keeps (Keeps.refl s) ..
  | .trcArm .. => execTrcArm_keeps (Keeps.refl s) ..
  | .trcStop .. => execTrcStop_keeps (Keeps.refl s) ..
  | .trcSwtrig .. => execTrcSwtrig_keeps (Keeps.refl s) ..
  | .traceTimedTrigger .. => execTraceTimedTrigger_keeps (Keeps.refl s) ..
  | .marker .. => execMarker_keeps (Keeps.refl s) ..
  | .markerHandle .. => execMarkerHandle_keeps (Keeps.refl s) ..
  | .forecastArm .. => execForecastArm_keeps (Keeps.refl s) ..
  | .forecastStop .. => execForecastStop_keeps (Keeps.refl s) ..
  | .rescan .. => execRescan_keeps (Keeps.refl s) ..
  | .directoryBuildDone .. => execDirectoryBuildDone_keeps (Keeps.refl s) ..
  | .ttbDmaStart .. => execTtbDmaStart_keeps (Keeps.refl s) ..
  | .ttbDmaEntryWrite .. => execTtbDmaEntryWrite_keeps (Keeps.refl s) ..
  | .ttbDmaDone .. => execTtbDmaDone_keeps (Keeps.refl s) ..
  | .timetableWrite .. => execTimetableWrite_keeps (Keeps.refl s) ..
  | .ttbInitDone .. => execTtbInitDone_keeps (Keeps.refl s) ..
  | .outriderRunTick .. => execOutriderRunTick_keeps (Keeps.refl s) ..
  | .outriderStart .. => execOutriderStart_keeps (Keeps.refl s) ..
  | .outriderValidationDone .. => execOutriderValidationDone_keeps (Keeps.refl s) ..
  | .outriderStop .. => execOutriderStop_keeps (Keeps.refl s) ..
  | .outriderClear .. => execOutriderClear_keeps (Keeps.refl s) ..
  | .outriderError .. => execOutriderError_keeps (Keeps.refl s) ..
  | .outriderDmaStart .. => execOutriderDmaStart_keeps (Keeps.refl s) ..
  | .outriderDmaDone .. => execOutriderDmaDone_keeps (Keeps.refl s) ..
  | .outriderInitDone .. => execOutriderInitDone_keeps (Keeps.refl s) ..
  | .skidTrip .. => execSkidTrip_keeps (Keeps.refl s) ..
  | .skidReleaseStep .. => execSkidReleaseStep_keeps (Keeps.refl s) ..
  | .skidWindowEnd .. => execSkidWindowEnd_keeps (Keeps.refl s) ..
  | .skidEscalate .. => execSkidEscalate_keeps (Keeps.refl s) ..
  | .skidEscWrite .. => execSkidEscWrite_keeps (Keeps.refl s) ..
  | .skidWinWrite .. => execSkidWinWrite_keeps (Keeps.refl s) ..
  | .skidForceWrite .. => execSkidForceWrite_keeps (Keeps.refl s) ..
  | .groupIdle .. => execGroupIdle_keeps (Keeps.refl s) ..
  | .opEnable .. => execOpEnable_keeps (Keeps.refl s) ..
  | .opValidationDone .. => execOpValidationDone_keeps (Keeps.refl s) ..
  | .moveUpComplete .. => execMoveUpComplete_keeps (Keeps.refl s) ..
  | .freqAck .. => execFreqAck_keeps (Keeps.refl s) ..
  | .freqAckTimeout .. => execFreqAckTimeout_keeps (Keeps.refl s) ..
  | .powerEstimate .. => execPowerEstimate_keeps (Keeps.refl s) ..
  | .calibrationSnapshot .. => execCalibrationSnapshot_keeps (Keeps.refl s) ..
  | .coeffCommit .. => execCoeffCommit_keeps (Keeps.refl s) ..
  | .coeffCommitApply .. => execCoeffCommitApply_keeps (Keeps.refl s) ..
  | .capWindowBoundary .. => execCapWindowBoundary_keeps (Keeps.refl s) ..
  | .shareReport .. => execShareReport_keeps (Keeps.refl s) ..
  | .shareCompute .. => execShareCompute_keeps (Keeps.refl s) ..
  | .shareReceive .. => execShareReceive_keeps (Keeps.refl s) ..
  | .waybillIntervalEnd .. => execWaybillIntervalEnd_keeps (Keeps.refl s) ..
  | .getPolicy .. => execGetPolicy_keeps (Keeps.refl s) ..
  | .setPkgCap .. => execSetPkgCap_keeps (Keeps.refl s) ..
  | .setOp .. => execSetOp_keeps (Keeps.refl s) ..
  | .setLegPref .. => execSetLegPref_keeps (Keeps.refl s) ..
  | .setMode .. => execSetMode_keeps (Keeps.refl s) ..
  | .getRegion .. => execGetRegion_keeps (Keeps.refl s) ..
  | .epochBoundary .. => execEpochBoundary_keeps (Keeps.refl s) ..
  | .epochPulse .. => execEpochPulse_keeps (Keeps.refl s) ..
  | .linkUp .. => execLinkUp_keeps (Keeps.refl s) ..
  | .hello .. => execHello_keeps (Keeps.refl s) ..
  | .hb .. => execHb_keeps (Keeps.refl s) ..
  | .sync .. => execSync_keeps (Keeps.refl s) ..
  | .syncRsp .. => execSyncRsp_keeps (Keeps.refl s) ..
  | .syncFin .. => execSyncFin_keeps (Keeps.refl s) ..
  | .env .. => execEnv_keeps (Keeps.refl s) ..
  | .emcapMessage .. => execEmcapMessage_keeps (Keeps.refl s) ..
  | .conote .. => execConote_keeps (Keeps.refl s) ..
  | .cocap .. => execCocap_keeps (Keeps.refl s) ..
  | .rwrite .. => execRwrite_keeps (Keeps.refl s) ..
  | .reservedKind .. => execReservedKind_keeps (Keeps.refl s) ..
  | .envIssue .. => execEnvIssue_keeps (Keeps.refl s) ..
  | .envPointCurrent .. => execEnvPointCurrent_keeps (Keeps.refl s) ..
  | .envWindowEnd .. => execEnvWindowEnd_keeps (Keeps.refl s) ..
  | .cocapAdopt .. => execCocapAdopt_keeps (Keeps.refl s) ..
  | .emcapIssue .. => execEmcapIssue_keeps (Keeps.refl s) ..
  | .rwriteSend .. => execRwriteSend_keeps (Keeps.refl s) ..
  | .rwriteCommitSend .. => execRwriteCommitSend_keeps (Keeps.refl s) ..
  | .rwriteCommitLand .. => execRwriteCommitLand_keeps (Keeps.refl s) ..
  | .rwriteCommitTimeout .. => execRwriteCommitTimeout_keeps (Keeps.refl s) ..
  | .rwriteWindowIdle .. => execRwriteWindowIdle_keeps (Keeps.refl s) ..
  | .completionRead .. => execCompletionRead_keeps (Keeps.refl s) ..
  | .couplerEnable .. => execCouplerEnable_keeps (Keeps.refl s) ..
  | .getCoupler .. => execGetCoupler_keeps (Keeps.refl s) ..
  | .setTree .. => execSetTree_keeps (Keeps.refl s) ..
  | .setGroup .. => execSetGroup_keeps (Keeps.refl s) ..
  | .envPoint .. => execEnvPoint_keeps (Keeps.refl s) ..
  | .setEnv .. => execSetEnv_keeps (Keeps.refl s) ..
  | .emcap .. => execEmcap_keeps (Keeps.refl s) ..
  | .getGroup .. => execGetGroup_keeps (Keeps.refl s) ..
  | .conversionComplete .. => execConversionComplete_keeps (Keeps.refl s) ..
  | .urgentRequest .. => execUrgentRequest_keeps (Keeps.refl s) ..
  | .snsRefWrite .. => execSnsRefWrite_keeps (Keeps.refl s) ..
  | .refSettled .. => execRefSettled_keeps (Keeps.refl s) ..
  | .pairFail .. => execPairFail_keeps (Keeps.refl s) ..
  | .pairRecover .. => execPairRecover_keeps (Keeps.refl s) ..
  | .windowExit .. => execWindowExit_keeps (Keeps.refl s) ..
  | .windowReentry .. => execWindowReentry_keeps (Keeps.refl s) ..
  | .windowDutyEnd .. => execWindowDutyEnd_keeps (Keeps.refl s) ..
  | .windowConfigWrite .. => execWindowConfigWrite_keeps (Keeps.refl s) ..
  | .snsPtCtlWrite .. => execSnsPtCtlWrite_keeps (Keeps.refl s) ..
  | .thermalGuard .. => execThermalGuard_keeps (Keeps.refl s) ..
  | .thermalDemand .. => execThermalDemand_keeps (Keeps.refl s) ..
  | .thermalMeasurement .. => execThermalMeasurement_keeps (Keeps.refl s) ..
  | .sweepEnd .. => execSweepEnd_keeps (Keeps.refl s) ..
  | .thermalSensorExclWrite .. => execThermalSensorExclWrite_keeps (Keeps.refl s) ..
  | .dieDrained .. => execDieDrained_keeps (Keeps.refl s) ..
  | .thermalDown .. => execThermalDown_keeps (Keeps.refl s) ..
  | .thermalHardTimeout .. => execThermalHardTimeout_keeps (Keeps.refl s) ..
  | .thermalClear .. => execThermalClear_keeps (Keeps.refl s) ..
  | .faultLatch .. => execFaultLatch_keeps (Keeps.refl s) ..
  | .statusClear .. => execStatusClear_keeps (Keeps.refl s) ..
  | .forceWrite .. => execForceWrite_keeps (Keeps.refl s) ..
  | .memoryCorrectedError .. => execMemoryCorrectedError_keeps (Keeps.refl s) ..
  | .memoryUncorrectableError .. => execMemoryUncorrectableError_keeps (Keeps.refl s) ..
  | .scrubRead .. => execScrubRead_keeps (Keeps.refl s) ..
  | .freezeLocal .. => execFreezeLocal_keeps (Keeps.refl s) ..
  | .freezeArm .. => execFreezeArm_keeps (Keeps.refl s) ..
  | .freezeDisarm .. => execFreezeDisarm_keeps (Keeps.refl s) ..
  | .freezeTimedCapture .. => execFreezeTimedCapture_keeps (Keeps.refl s) ..
  | .freezeUnloadDone .. => execFreezeUnloadDone_keeps (Keeps.refl s) ..
  | .ringExportDone .. => execRingExportDone_keeps (Keeps.refl s) ..
  | .traceExportStart .. => execTraceExportStart_keeps (Keeps.refl s) ..
  | .traceExportDone .. => execTraceExportDone_keeps (Keeps.refl s) ..
  | .ageWindowEnd .. => execAgeWindowEnd_keeps (Keeps.refl s) ..
  | .eolWrite .. => execEolWrite_keeps (Keeps.refl s) ..
  | .imageVerified .. => execImageVerified_keeps (Keeps.refl s) ..
  | .imagePush .. => execImagePush_keeps (Keeps.refl s) ..
  | .firmwareReset .. => execFirmwareReset_keeps (Keeps.refl s) ..
  | .getFw .. => execGetFw_keeps (Keeps.refl s) ..
  | .stageBegin .. => execStageBegin_keeps (Keeps.refl s) ..
  | .stageData .. => execStageData_keeps (Keeps.refl s) ..
  | .stageEnd .. => execStageEnd_keeps (Keeps.refl s) ..
  | .activate .. => execActivate_keeps (Keeps.refl s) ..
  | .cancel .. => execCancel_keeps (Keeps.refl s) ..
  | .confirm .. => execConfirm_keeps (Keeps.refl s) ..
  | .heartbeat .. => execHeartbeat_keeps (Keeps.refl s) ..
  | .activationStart .. => execActivationStart_keeps (Keeps.refl s) ..
  | .watchdogKick .. => execWatchdogKick_keeps (Keeps.refl s) ..
  | .watchdogExpiry .. => execWatchdogExpiry_keeps (Keeps.refl s) ..
  | .coreReloadDone .. => execCoreReloadDone_keeps (Keeps.refl s) ..
  | .hostKick .. => execHostKick_keeps (Keeps.refl s) ..
  | .hostPeriodEnd .. => execHostPeriodEnd_keeps (Keeps.refl s) ..
  | .fwHeartbeatStale .. => execFwHeartbeatStale_keeps (Keeps.refl s) ..
  | .halt .. => execHalt_keeps (Keeps.refl s) ..
  | .resume .. => execResume_keeps (Keeps.refl s) ..
  | .step .. => execStep_keeps (Keeps.refl s) ..
  | .vlFrel .. => execVlFrel_keeps (Keeps.refl s) ..
  | .vlFacq .. => execVlFacq_keeps (Keeps.refl s) ..
  | .vlFfull .. => execVlFfull_keeps (Keeps.refl s) ..
  | .fence .. => execFence_keeps (Keeps.refl s) ..
  | .atomic .. => execAtomic_keeps (Keeps.refl s) ..
  | .reservationExpiry .. => execReservationExpiry_keeps (Keeps.refl s) ..
  | .dirtyWriteBack .. => execDirtyWriteBack_keeps (Keeps.refl s) ..
  | .tsCsrRead .. => execTsCsrRead_keeps (Keeps.refl s) ..
  | .claim .. => execClaim_keeps (Keeps.refl s) ..
  | .complete .. => execComplete_keeps (Keeps.refl s) ..
  | .doorbell .. => execDoorbell_keeps (Keeps.refl s) ..
  | .sourceBind .. => execSourceBind_keeps (Keeps.refl s) ..
  | .coalesceRelease .. => execCoalesceRelease_keeps (Keeps.refl s) ..
  | .hostClaim .. => execHostClaim_keeps (Keeps.refl s) ..
  | .sourceMask .. => execSourceMask_keeps (Keeps.refl s) ..
  | .maskWindowEnd .. => execMaskWindowEnd_keeps (Keeps.refl s) ..
  | .sourcePendClear .. => execSourcePendClear_keeps (Keeps.refl s) ..
  | .globalDisable .. => execGlobalDisable_keeps (Keeps.refl s) ..
  | .edgeCaught .. => execEdgeCaught_keeps (Keeps.refl s) ..
  | .channelClaim .. => execChannelClaim_keeps (Keeps.refl s) ..
  | .post .. => execPost_keeps (Keeps.refl s) ..
  | .take .. => execTake_keeps (Keeps.refl s) ..
  | .abandon .. => execAbandon_keeps (Keeps.refl s) ..
  | .fillTimeout .. => execFillTimeout_keeps (Keeps.refl s) ..
  | .channelConfigWrite .. => execChannelConfigWrite_keeps (Keeps.refl s) ..
  | .slotWrite .. => execSlotWrite_keeps (Keeps.refl s) ..
  | .dbenWrite .. => execDbenWrite_keeps (Keeps.refl s) ..
  | .yutreUnknownOpcode .. => execYutreUnknownOpcode_keeps (Keeps.refl s) ..
  | .getVersion .. => execGetVersion_keeps (Keeps.refl s) ..
  | .getStatus .. => execGetStatus_keeps (Keeps.refl s) ..
  | .readReg .. => execReadReg_keeps (Keeps.refl s) ..
  | .writeReg .. => execWriteReg_keeps (Keeps.refl s) ..
  | .regionCmd .. => execRegionCmd_keeps (Keeps.refl s) ..
  | .frontCmd .. => execFrontCmd_keeps (Keeps.refl s) ..
  | .config .. => execConfig_keeps (Keeps.refl s) ..
  | .loadProgram .. => execLoadProgram_keeps (Keeps.refl s) ..
  | .loadRset .. => execLoadRset_keeps (Keeps.refl s) ..
  | .loadWeights .. => execLoadWeights_keeps (Keeps.refl s) ..
  | .forecastCtl .. => execForecastCtl_keeps (Keeps.refl s) ..
  | .getForecast .. => execGetForecast_keeps (Keeps.refl s) ..
  | .setJob .. => execSetJob_keeps (Keeps.refl s) ..
  | .setGroups .. => execSetGroups_keeps (Keeps.refl s) ..
  | .waybillRing .. => execWaybillRing_keeps (Keeps.refl s) ..
  | .getJob .. => execGetJob_keeps (Keeps.refl s) ..
  | .freeze .. => execFreeze_keeps (Keeps.refl s) ..
  | .tlmRing .. => execTlmRing_keeps (Keeps.refl s) ..
  | .traceExport .. => execTraceExport_keeps (Keeps.refl s) ..
  | .getAge .. => execGetAge_keeps (Keeps.refl s) ..
  | .cbseForce .. => execCbseForce_keeps (Keeps.refl s) ..
  | .cellTest .. => execCellTest_keeps (Keeps.refl s) ..
  | .skidForce .. => execSkidForce_keeps (Keeps.refl s) ..
  | .traceArm .. => execTraceArm_keeps (Keeps.refl s) ..
  | .snsUrgent .. => execSnsUrgent_keeps (Keeps.refl s) ..
  | .page .. => execPage_keeps (Keeps.refl s) ..
  | .pageRead .. => execPageRead_keeps (Keeps.refl s) ..
  | .clearFaults .. => execClearFaults_keeps (Keeps.refl s) ..
  | .capability .. => execCapability_keeps (Keeps.refl s) ..
  | .voutMode .. => execVoutMode_keeps (Keeps.refl s) ..
  | .statusByte .. => execStatusByte_keeps (Keeps.refl s) ..
  | .statusWord .. => execStatusWord_keeps (Keeps.refl s) ..
  | .statusVout .. => execStatusVout_keeps (Keeps.refl s) ..
  | .statusIout .. => execStatusIout_keeps (Keeps.refl s) ..
  | .statusInput .. => execStatusInput_keeps (Keeps.refl s) ..
  | .statusTemperature .. => execStatusTemperature_keeps (Keeps.refl s) ..
  | .statusCml .. => execStatusCml_keeps (Keeps.refl s) ..
  | .statusMfrSpecific .. => execStatusMfrSpecific_keeps (Keeps.refl s) ..
  | .readVin .. => execReadVin_keeps (Keeps.refl s) ..
  | .readIin .. => execReadIin_keeps (Keeps.refl s) ..
  | .readVout .. => execReadVout_keeps (Keeps.refl s) ..
  | .readIout .. => execReadIout_keeps (Keeps.refl s) ..
  | .readTemperature1 .. => execReadTemperature1_keeps (Keeps.refl s) ..
  | .readTemperature2 .. => execReadTemperature2_keeps (Keeps.refl s) ..
  | .readPout .. => execReadPout_keeps (Keeps.refl s) ..
  | .pmbusRevision .. => execPmbusRevision_keeps (Keeps.refl s) ..
  | .mfrId .. => execMfrId_keeps (Keeps.refl s) ..
  | .mfrModel .. => execMfrModel_keeps (Keeps.refl s) ..
  | .mfrPkgCap .. => execMfrPkgCap_keeps (Keeps.refl s) ..
  | .mfrPkgCapRead .. => execMfrPkgCapRead_keeps (Keeps.refl s) ..
  | .mfrInstStatus .. => execMfrInstStatus_keeps (Keeps.refl s) ..
  | .mfrCapState .. => execMfrCapState_keeps (Keeps.refl s) ..
  | .mfrEin .. => execMfrEin_keeps (Keeps.refl s) ..
  | .pmbusInvalidCommand .. => execPmbusInvalidCommand_keeps (Keeps.refl s) ..
  | .alertResponse .. => execAlertResponse_keeps (Keeps.refl s) ..
  | .powerOnReset .. => execPowerOnReset_keeps (Keeps.refl s) ..
  | .powerOnResetRelease .. => execPowerOnResetRelease_keeps (Keeps.refl s) ..
  | .resetPin .. => execResetPin_keeps (Keeps.refl s) ..
  | .softwareInstanceReset .. => execSoftwareInstanceReset_keeps (Keeps.refl s) ..
  | .softwareFirmwareReset .. => execSoftwareFirmwareReset_keeps (Keeps.refl s) ..
  | .instanceResetRelease .. => execInstanceResetRelease_keeps (Keeps.refl s) ..
  | .sagDeclared .. => execSagDeclared_keeps (Keeps.refl s) ..
  | .frontStopSag .. => execFrontStopSag_keeps (Keeps.refl s) ..
  | .crashCaptureDone .. => execCrashCaptureDone_keeps (Keeps.refl s) ..
  | .recordProgrammed .. => execRecordProgrammed_keeps (Keeps.refl s) ..
  | .saveTimeout .. => execSaveTimeout_keeps (Keeps.refl s) ..
  | .sagEnd .. => execSagEnd_keeps (Keeps.refl s) ..
  | .boundaryScanEnter .. => execBoundaryScanEnter_keeps (Keeps.refl s) ..
  | .boundaryScanExit .. => execBoundaryScanExit_keeps (Keeps.refl s) ..
  | .referenceAbsent .. => execReferenceAbsent_keeps (Keeps.refl s) ..
  | .referenceReturn .. => execReferenceReturn_keeps (Keeps.refl s) ..
  | .linkDown .. => execLinkDown_keeps (Keeps.refl s) ..
  | .sidebandEndResetChange .. => execSidebandEndResetChange_keeps (Keeps.refl s) ..
  | .minvReplacement .. => execMinvReplacement_keeps (Keeps.refl s) ..
  | .vimReferenceSlew .. => execVimReferenceSlew_keeps (Keeps.refl s) ..
  | .plainStore .. => execPlainStore_keeps (Keeps.refl s) ..
  | .interruptEntry .. => execInterruptEntry_keeps (Keeps.refl s) ..
  | .pkgConditionReport .. => execPkgConditionReport_keeps (Keeps.refl s) ..

/-- The state that a step works on: the front command is off the queue. -/
def State.dequeued (s : State) : State := { s with pending := s.pending.tail }

/-- One step answers a next state that keeps what Keeps names of the state it worked on. -/
theorem step_keeps (s : State) : ∃ t, step s = .next t ∧ Keeps s.dequeued t := by
  cases h : s.pending with
  | nil =>
    have hs : s.dequeued = s := by
      cases s
      subst h
      rfl
    rw [hs]
    exact ⟨clockEdge s, by simp only [step, h], clockEdge_keeps (Keeps.refl s)⟩
  | cons c rest =>
    have hs : s.dequeued = { s with pending := rest } := by simp only [State.dequeued, h, List.tail_cons]
    rw [hs]
    obtain ⟨t, ht, hk⟩ := exec_keeps { s with pending := rest } c
    exact ⟨t, by simp only [step, h, ht], hk⟩

/-- Settles O3: no command and no clock edge fails, and each keeps both maps canonical; the queue is no part of either. -/
theorem everyStepKeepsTheCanonicalForms : Obligations.EveryStepKeepsTheCanonicalForms := by
  intro s hregs hram
  obtain ⟨t, ht, hk⟩ := step_keeps s
  exact ⟨t, ht, hk.regs hregs, hk.ram hram⟩

end Sys2Proof.Machine

/-! ### Writes to the window -/

namespace Sys2Proof.Machine

open State

/-- Recording a denied write changes DENIED_WR and the two fields of VL_DENY_ADDR alone (R38). -/
theorem recordDenied_frame (req : Requester) (a : Nat) (s : State) :
    s.Frame (recordDenied req a s) [VL_STAT.DENIED_WR, VL_DENY_ADDR.REQ, VL_DENY_ADDR.OFFSET] := by
  unfold recordDenied
  split
  · exact frame_intro (KeepsBits.refl s) (by simp) rfl
  · dsimp only
    split
    · exact frame_intro ((KeepsBits.refl s).put _ _) (by simp) rfl
    · exact frame_intro ((((KeepsBits.refl s).put _ _).put _ _).put _ _) (by simp) rfl

/-- A narrow write leaves the state or records a denial (R13). -/
theorem narrowWrite_cases (req : Requester) (w : Width) (a : Nat) (v : Word) (s : State) :
    narrowWrite req w a v s = s ∨ narrowWrite req w a v s = recordDenied req (a / 4 * 4) s := by
  unfold narrowWrite
  exact (ite_eq_or_eq _ _ _).symm

/-- A narrow write that the requester may make leaves the state (R13). -/
theorem narrowWrite_permits {req : Requester} {w : Width} {a : Nat} {v : Word} {s : State}
    (hkey : a / 4 * 4 ≠ HOLD_RST) (hp : s.Permits req (a / 4 * 4) (narrowMerge w a (s.rd (a / 4 * 4)) v)) :
    narrowWrite req w a v s = s := by
  obtain ⟨hwhole, hfields, -⟩ := hp
  unfold narrowWrite
  dsimp only
  rw [if_neg hkey, hwhole, Bool.false_or, if_neg]
  cases hr : regDef? (a / 4 * 4) with
  | none => simp
  | some r => simp [hfields r hr]

/-- A write that is not an aligned 32-bit one is lost where reset holds the register, and is else a narrow one (R13,
R633). -/
theorem windowWrite_narrow (req : Requester) {w : Width} {a : Nat} (v : Word) (s : State)
    (h : ¬ (w = .b32 ∧ a % 4 = 0)) :
    windowWrite req w a v s = s ∨ windowWrite req w a v s = narrowWrite req w a v s := by
  unfold windowWrite
  split
  · exact .inl rfl
  · exact .inr rfl

/-- Settles O8, from the two outcomes of a narrow write and the frame of the record. -/
theorem narrowWritesAreIgnored : Obligations.NarrowWritesAreIgnored := by
  intro req w a v s hnarrow
  have hcases : windowWrite req w a.toNat v s = s ∨
      windowWrite req w a.toNat v s = recordDenied req (a.toNat / 4 * 4) s := by
    rcases windowWrite_narrow req v s hnarrow with h | h
    · exact .inl h
    · rw [h]
      exact narrowWrite_cases req w a.toNat v s
  refine ⟨windowWrite req w a.toNat v s, rfl, ?_, hcases, fun hkey hp => ?_⟩
  · rcases hcases with h | h
    · rw [h]
      exact frame_intro (KeepsBits.refl s) (by simp) rfl
    · rw [h]
      exact recordDenied_frame req _ s
  · rcases windowWrite_narrow req v s hnarrow with h | h
    · exact h
    · rw [h, narrowWrite_permits hkey hp]

/-- Below the debug windows there is no aperture (R551). -/
theorem apertureAddr_none (s : State) {a : Nat} (h : a < 0x1C00000) : apertureAddr s a = none :=
  if_neg fun hc => absurd hc.1 (Nat.not_le.mpr h)

/-- A permitted aligned 32-bit write below the debug windows acts on its register, and the combiner follows (R336). -/
theorem windowWrite_permits {req : Requester} {a : Nat} {v : Word} {s : State} (halign : a % 4 = 0)
    (hlow : a < 0x1C00000) (hp : s.Permits req a v) :
    windowWrite req .b32 a v s = reinAll (regAction req a v s) := by
  unfold windowWrite
  rw [if_neg (not_held hp.2.2), if_pos ⟨rfl, halign⟩, apertureAddr_none s hlow]
  exact gated_permits hp _

/-- The VL registers below the firmware registers store by their access codes. -/
theorem regAction_VL (req : Requester) {a : Nat} (v : Word) (s : State) (h : a < 0x100) :
    regAction req a v s = storeReg a v s := by
  unfold regAction vlWrite
  rw [if_pos (by omega), if_pos (by simpa [FW_STAT] using h)]

/-- A defined register holds the stored word of its table after a write (R17). -/
theorem storeReg_rd_same {a : Nat} {r : RegDef} (hr : regDef? a = some r) (v : Word) (s : State) :
    (storeReg a v s).rd a = storeWord r (s.freshBits a) (s.rd a) v := by
  simp only [storeReg, hr, rd_wr_same]

/-- A write to an offset with no register is ignored (R14). -/
theorem storeReg_undefined {a : Nat} (hr : regDef? a = none) (v : Word) (s : State) : storeReg a v s = s := by
  simp only [storeReg, hr]

/-- A write leaves every other register. -/
theorem storeReg_rd_other {a b : Nat} (h : b ≠ a) (v : Word) (s : State) : (storeReg a v s).rd b = s.rd b := by
  cases hr : regDef? a with
  | none => rw [storeReg_undefined hr]
  | some r =>
    simp only [storeReg, hr]
    exact rd_wr_other _ _ _ _ h

/-- Settles O9: the write stores by access codes, and what follows it writes from the Reins block up, or LPE_EVT. -/
theorem registerWriteActsByAccessCode : Obligations.RegisterWriteActsByAccessCode := by
  intro req a v s halign hlow hp
  have hw : windowWrite req .b32 a.toNat v s = reinAll (storeReg a.toNat v s) := by
    rw [windowWrite_permits halign (by omega) hp, regAction_VL req v s hlow]
  have hsame : (reinAll (storeReg a.toNat v s)).rd a.toNat = (storeReg a.toNat v s).rd a.toNat :=
    reinAll_rd _ _ (by omega) (by unfold LPE_EVT; omega)
  refine ⟨reinAll (storeReg a.toNat v s), congrArg _ hw, fun r hr => ?_, fun hr => ?_, fun b hb hevt hne => ?_⟩
  · rw [hsame, storeReg_rd_same hr]
  · rw [hsame, storeReg_undefined hr]
  · rw [reinAll_rd _ _ hb hevt, storeReg_rd_other hne]

end Sys2Proof.Machine

/-! ### What a write leaves in one field -/

namespace Sys2Proof.Machine

open State

/-- The mask of a field has 1s in exactly the field's bits. -/
theorem fldMask_getLsbD {hi lo i : Nat} (hl : lo ≤ i) (hi' : i ≤ hi) (hw : hi < 32) :
    (fldMask hi lo).getLsbD i = true := by
  simp only [fldMask, BitVec.getLsbD_ofNat, Nat.testBit_mul_two_pow, Nat.testBit_two_pow_sub_one, Bool.and_eq_true,
    decide_eq_true_eq]
  omega

/-- Words that agree in a field agree in each of its bits. -/
theorem getLsbD_of_fldGet {x y : Word} {hi lo i : Nat} (h : fldGet x hi lo = fldGet y hi lo) (hl : lo ≤ i)
    (hi' : i ≤ hi) : x.getLsbD i = y.getLsbD i := by
  have hb := congrArg (fun n => n.testBit (i - lo)) h
  simpa [fldGet, Nat.testBit_mod_two_pow, BitVec.toNat_ushiftRight, Nat.testBit_shiftRight, BitVec.testBit_toNat,
    show i - lo < hi + 1 - lo by omega, show lo + (i - lo) = i by omega] using hb

/-- A field of a well-formed register lies inside the word, with its legal values inside the field. -/
theorem inside_of_mem {fs : List FieldDef} (h : fieldsOk fs = true) {f : FieldDef} (hf : f ∈ fs) :
    f.inside = true := by
  induction fs with
  | nil => simp at hf
  | cons g gs ih =>
    simp only [fieldsOk, Bool.and_eq_true] at h
    obtain ⟨⟨hg, -⟩, hgs⟩ := h
    rcases List.mem_cons.mp hf with rfl | hf
    · exact hg
    · exact ih hgs hf

/-- A field's place and its legal values, as inequalities. -/
theorem FieldDef.bounds {f : FieldDef} (h : f.inside = true) :
    f.lo ≤ f.hi ∧ f.hi < 32 ∧ f.least ≤ f.most ∧ f.most < 2 ^ (f.hi + 1 - f.lo) := by
  simpa [FieldDef.inside, and_assoc] using h

/-- A legal value is stored whole. -/
theorem fldGet_fldSet_legal {f : FieldDef} (hf : f.inside = true) (acc : Word) {x : Nat} (hx : x ≤ f.most) :
    fldGet (fldSet acc f.hi f.lo x) f.hi f.lo = x := by
  obtain ⟨hlo, hhi, -, hmost⟩ := FieldDef.bounds hf
  rw [fldGet_fldSet_same _ _ _ _ hlo hhi, Nat.mod_eq_of_lt (lt_of_le_of_lt hx hmost)]

/-- A clamped RW field takes the nearest usable code (R7). -/
theorem storeField_clamped {f : FieldDef} (hf : f.inside = true) (hacc : f.acc = .rw) (hc : f.clamp = true)
    (fresh v acc : Word) :
    fldGet (storeField fresh v acc f) f.hi f.lo = clampN f.least f.most (fldGet v f.hi f.lo) := by
  obtain ⟨-, -, hle, -⟩ := FieldDef.bounds hf
  have hlegal : f.least ≤ clampN f.least f.most (fldGet v f.hi f.lo) ∧
      clampN f.least f.most (fldGet v f.hi f.lo) ≤ f.most := by
    unfold clampN
    omega
  simp only [storeField, hacc, hc, if_true]
  rw [if_pos hlegal, fldGet_fldSet_legal hf acc hlegal.2]

/-- An RW field takes a legal value and keeps its own against a reserved one (R19). -/
theorem storeField_rw {f : FieldDef} (hf : f.inside = true) (hacc : f.acc = .rw) (hc : f.clamp = false)
    (fresh v acc : Word) :
    fldGet (storeField fresh v acc f) f.hi f.lo =
      if f.least ≤ fldGet v f.hi f.lo ∧ fldGet v f.hi f.lo ≤ f.most then fldGet v f.hi f.lo
      else fldGet acc f.hi f.lo := by
  simp only [storeField, hacc, hc, Bool.false_eq_true, if_false]
  split
  · rename_i hlegal
    exact fldGet_fldSet_legal hf acc hlegal.2
  · rfl

/-- A W1C field loses the written 1s, but for bits set in this cycle (R17, R18). -/
theorem storeField_w1c {f : FieldDef} (hf : f.inside = true) (hacc : f.acc = .w1c) (fresh v acc : Word) {i : Nat}
    (hl : f.lo ≤ i) (hi : i ≤ f.hi) :
    (storeField fresh v acc f).getLsbD i = (acc.getLsbD i && !(v.getLsbD i && !fresh.getLsbD i)) := by
  obtain ⟨-, hw, -, -⟩ := FieldDef.bounds hf
  simp only [storeField, hacc, BitVec.getLsbD_and, BitVec.getLsbD_not, fldMask_getLsbD hl hi hw,
    show i < 32 by omega, decide_true, Bool.true_and, Bool.and_true]

/-- A W1S field gains the written 1s (R17). -/
theorem storeField_w1s {f : FieldDef} (hf : f.inside = true) (hacc : f.acc = .w1s) (fresh v acc : Word) {i : Nat}
    (hl : f.lo ≤ i) (hi : i ≤ f.hi) : (storeField fresh v acc f).getLsbD i = (acc.getLsbD i || v.getLsbD i) := by
  obtain ⟨-, hw, -, -⟩ := FieldDef.bounds hf
  simp only [storeField, hacc, BitVec.getLsbD_or, BitVec.getLsbD_and, fldMask_getLsbD hl hi hw, Bool.and_true]

/-- RO, WO and RC fields ignore the write (R17). -/
theorem storeField_ignored {f : FieldDef} (hacc : f.acc = .ro ∨ f.acc = .wo ∨ f.acc = .rc) (fresh v acc : Word) :
    storeField fresh v acc f = acc := by
  rcases hacc with h | h | h <;> simp only [storeField, h]

/-- A field of a defined register after a write holds what its own access code stores over its old value. -/
theorem storeReg_field {a : Nat} {r : RegDef} (hr : regDef? a = some r) (v : Word) (s : State) {f : FieldDef}
    (hf : f ∈ r.fields) :
    ∃ acc, fldGet acc f.hi f.lo = s.get ⟨a, f.hi, f.lo⟩ ∧
      fldGet ((storeReg a v s).rd a) f.hi f.lo = fldGet (storeField (s.freshBits a) v acc f) f.hi f.lo := by
  rw [storeReg_rd_same hr]
  exact storeWord_field r (regDef?_ok hr) (s.freshBits a) (s.rd a) v f hf

/-- Settles O11, one lemma per access code: the table's fields are apart, so each holds what its own code stores. -/
theorem fieldsFollowTheirAccessCodes : Obligations.FieldsFollowTheirAccessCodes := by
  intro a v s r hr
  refine ⟨fun f hf => ?_, fun b hb => storeReg_rd_other hb v s⟩
  have hin : f.inside = true := inside_of_mem (regDef?_ok hr) hf
  obtain ⟨acc, hold, hnew⟩ := storeReg_field hr v s hf
  refine ⟨fun hacc hc => ?_, fun hacc hc => ?_, fun hacc i hl hi => ?_, fun hacc i hl hi => ?_, fun hacc => ?_⟩
  · exact hnew.trans (storeField_clamped hin hacc hc _ v acc)
  · exact hold ▸ hnew.trans (storeField_rw hin hacc hc _ v acc)
  · rw [getLsbD_of_fldGet hnew hl hi, storeField_w1c hin hacc _ v acc hl hi, getLsbD_of_fldGet hold hl hi]
  · rw [getLsbD_of_fldGet hnew hl hi, storeField_w1s hin hacc _ v acc hl hi, getLsbD_of_fldGet hold hl hi]
  · rw [storeField_ignored hacc] at hnew
    exact hnew.trans hold

end Sys2Proof.Machine

/-! ### Reads of the window -/

namespace Sys2Proof.Machine

open State

/-- Out of reset, a read below the debug apertures is a read of the whole register (R13). -/
theorem windowRead_reg (req : Requester) (w : Width) {a : Nat} {s : State} (hrun : s.rst.inst = false)
    (halign : a % 4 = 0) (hlow : a < 0x1C00000) :
    windowRead req w a s = (narrowRead w a (regRead req a s).1, (regRead req a s).2) := by
  have ha : a / 4 * 4 = a := by omega
  unfold windowRead
  simp only [ha, hrun, apertureAddr_none s hlow, Bool.false_eq_true, if_false]

/-- An aligned 32-bit read returns the whole word. -/
theorem narrowRead_b32 {a : Nat} (halign : a % 4 = 0) (v : Word) : narrowRead .b32 a v = v := by
  apply BitVec.eq_of_toNat_eq
  have hv := v.isLt
  simp only [narrowRead, halign, Width.bytes, Nat.mul_zero, BitVec.ushiftRight_zero, BitVec.toNat_ofNat]
  omega

/-- A read of the low half of TS answers it and latches the high half for the requester (R15). -/
theorem regRead_TIM_TS_LO (req : Requester) (s : State) :
    regRead req TIM_TS_LO s =
      (BitVec.ofNat 32 s.now, clearRC TIM_TS_LO (latchHi req TIM_TS_HI (BitVec.ofNat 32 (s.now / 2 ^ 32)) s)) := rfl

/-- A read of the high half of TS answers the requester's latch (R503). -/
theorem regRead_TIM_TS_HI (req : Requester) (s : State) :
    regRead req TIM_TS_HI s = (latchedHi req TIM_TS_HI s, clearRC TIM_TS_HI s) := rfl

/-- A read of VL_STAT answers it as the block reports it, and clears its RC field. -/
theorem regRead_VL_STAT (req : Requester) (s : State) :
    regRead req VL_STAT s = (s.viewVlStat (s.rd VL_STAT), clearRC VL_STAT s) := rfl

/-- Neither half of TS has an RC field: a read writes its word back. -/
theorem clearRC_TIM_TS_LO (s : State) : clearRC TIM_TS_LO s = s.wr TIM_TS_LO (s.rd TIM_TS_LO) := rfl

theorem clearRC_TIM_TS_HI (s : State) : clearRC TIM_TS_HI s = s.wr TIM_TS_HI (s.rd TIM_TS_HI) := rfl

/-- The one RC field of VL_STAT is the peak C0_PEAK. -/
theorem clearRC_VL_STAT (s : State) :
    clearRC VL_STAT s = s.put VL_STAT.C0_PEAK
      (rcLeft true (fldGet (mapGet (regReset VL_STAT) s.tim.cycle VL_STAT) 15 8) (s.get VL_STAT.C0_PEAK)) := rfl

/-- A register that takes its own word leaves every bit of the window. -/
theorem wr_rd_keepsBits (s : State) (a : Nat) : s.KeepsBits (s.wr a (s.rd a)) [] := by
  intro b i _
  by_cases hb : b = a
  · rw [hb, rd_wr_same]
  · rw [rd_wr_other _ _ _ _ hb]

/-- The latch of a counter reads back for the requester that latched it (R503). -/
theorem latchedHi_latchHi_same (req : Requester) (hi : Nat) (w : Word) (s : State) :
    latchedHi req hi (latchHi req hi w s) = w := mapGet_mapSet_same _ _ _ _

/-- Another requester's latch of the same counter is apart (R503). -/
theorem latchedHi_latchHi_other {q req : Requester} (h : q.code ≠ req.code) (hi : Nat) (w : Word) (s : State) :
    latchedHi q hi (latchHi req hi w s) = latchedHi q hi s :=
  mapGet_mapSet_other _ _ _ _ _ _ (by unfold latchKey; omega)

/-- A read command completes with the word and the state of its read of the window. -/
theorem counterLowRead_completes {req : Requester} {w : Width} {a : Offset} {s u : State} {v : Word}
    {post : State → Prop} (h : windowRead req w a.toNat s = (v, u)) (hp : post (u.answer [v])) :
    Completes (.counterLowRead req w a) s post :=
  ⟨u.answer [v], by simp only [exec, execCounterLowRead, h], hp⟩

theorem readClear_completes {req : Requester} {w : Width} {a : Offset} {s u : State} {v : Word}
    {post : State → Prop} (h : windowRead req w a.toNat s = (v, u)) (hp : post (u.answer [v])) :
    Completes (.readClear req w a) s post :=
  ⟨u.answer [v], by simp only [exec, execReadClear, h], hp⟩

/-- Settles O10: the read of the low half latches for its requester alone; neither half of TS has an RC field. -/
theorem timeReadLatchesItsHighHalf : Obligations.TimeReadLatchesItsHighHalf := by
  intro req s hrun
  constructor
  · have hread : windowRead req .b32 TIM_TS_LO s = (BitVec.ofNat 32 s.now,
        clearRC TIM_TS_LO (latchHi req TIM_TS_HI (BitVec.ofNat 32 (s.now / 2 ^ 32)) s)) := by
      rw [windowRead_reg req .b32 hrun (by decide) (by decide), narrowRead_b32 (by decide), regRead_TIM_TS_LO]
    refine counterLowRead_completes hread ⟨rfl, ?_, fun q hq => ?_, ?_, rfl⟩
    · exact latchedHi_latchHi_same req TIM_TS_HI _ s
    · exact latchedHi_latchHi_other hq TIM_TS_HI _ s
    · exact answer_keepsBits (wr_rd_keepsBits (latchHi req TIM_TS_HI _ s) TIM_TS_LO) _
  · have hread : windowRead req .b32 TIM_TS_HI s = (latchedHi req TIM_TS_HI s, clearRC TIM_TS_HI s) := by
      rw [windowRead_reg req .b32 hrun (by decide) (by decide), narrowRead_b32 (by decide), regRead_TIM_TS_HI]
    exact counterLowRead_completes hread ⟨rfl, answer_keepsBits (wr_rd_keepsBits s TIM_TS_HI) _, rfl⟩

/-- What a read leaves of a peak fits its field. -/
theorem rcLeft_peak_mod (was : Nat) (s : State) (f : Fld) :
    rcLeft true was (s.get f) % 2 ^ (f.hi + 1 - f.lo) = if was = s.get f then 0 else s.get f := by
  have hlt : s.get f < 2 ^ (f.hi + 1 - f.lo) := fldGet_lt _ _ _
  simp only [rcLeft, if_true]
  split
  · exact Nat.zero_mod _
  · exact Nat.mod_eq_of_lt hlt

/-- Settles O12: the read of VL_STAT writes C0_PEAK alone, with what R18 leaves of a peak. -/
theorem readClearsItsCounters : Obligations.ReadClearsItsCounters := by
  intro req w s hrun
  have hread : windowRead req w VL_STAT s =
      (narrowRead w VL_STAT (s.viewVlStat (s.rd VL_STAT)), clearRC VL_STAT s) := by
    rw [windowRead_reg req w hrun (by decide) (by decide), regRead_VL_STAT]
  refine readClear_completes hread ⟨rfl, fun was hwas => ?_, ?_⟩
  · rw [answer_get, clearRC_VL_STAT, get_put_same _ _ _ (by decide) (by decide), ← hwas, rcLeft_peak_mod]
  · rw [clearRC_VL_STAT]
    exact answer_keepsBits ((KeepsBits.refl s).put _ _) _

end Sys2Proof.Machine

/-! PROOFS of the family spec/01_architecture.md. The eFuses along a step, and the record of a denied write. -/

/-! ### The eFuses -/

namespace Sys2Proof.Machine

/-- Settles O4: `Keeps` names both facts of the eFuses, and taking the front command off the queue touches none. -/
theorem antiRollbackFusesAreNeverUnblown : Obligations.AntiRollbackFusesAreNeverUnblown := by
  intro s
  obtain ⟨t, ht, hk⟩ := step_keeps s
  exact ⟨t, ht, hk.fused, hk.efuse⟩

end Sys2Proof.Machine

/-! ### Denied writes -/

namespace Sys2Proof

/-- A requester code fits the four bits of VL_DENY_ADDR.REQ. -/
theorem Requester.code_lt (req : Requester) : req.code < 2 ^ 4 := by
  cases req with
  | cc k =>
    have hk := k.isLt
    simp only [Requester.code]
    omega
  | _ => decide

end Sys2Proof

namespace Sys2Proof.Machine

open State

/-- A denied write out of instance reset leaves DENIED_WR at 1 (R38). -/
theorem recordDenied_DENIED_WR (req : Requester) (a : Nat) {s : State} (hrun : s.rst.inst = false) :
    (recordDenied req a s).get VL_STAT.DENIED_WR = 1 := by
  simp only [recordDenied, hrun, Bool.false_eq_true, if_false]
  rw [get_put_same _ _ _ (by decide) (by decide)]
  rfl

/-- The first denied write leaves its requester and the offset of its word in VL_DENY_ADDR (R38). -/
theorem recordDenied_first (req : Requester) {a : Nat} {s : State} (hrun : s.rst.inst = false) (ha : a < 2 ^ 25)
    (hfirst : s.get VL_STAT.DENIED_WR = 0) :
    (recordDenied req a s).get VL_DENY_ADDR.REQ = req.code ∧
      (recordDenied req a s).get VL_DENY_ADDR.OFFSET = a / 4 * 4 := by
  have hrec : recordDenied req a s =
      ((s.put VL_DENY_ADDR.REQ req.code).put VL_DENY_ADDR.OFFSET (a / 4 * 4)).put VL_STAT.DENIED_WR 1 := by
    simp [recordDenied, hrun, State.bit, hfirst]
  rw [hrec]
  constructor
  · rw [get_put_other _ _ _ _ (by decide), get_put_other _ _ _ _ (by decide),
      get_put_same _ _ _ (by decide) (by decide)]
    exact Nat.mod_eq_of_lt req.code_lt
  · rw [get_put_other _ _ _ _ (by decide), get_put_same _ _ _ (by decide) (by decide)]
    exact Nat.mod_eq_of_lt (lt_of_le_of_lt (Nat.div_mul_le_self a 4) ha)

/-- A later denied write leaves VL_DENY_ADDR (R38). -/
theorem recordDenied_later (req : Requester) (a : Nat) {s : State} (hrun : s.rst.inst = false)
    (hlater : s.get VL_STAT.DENIED_WR = 1) : (recordDenied req a s).rd VL_DENY_ADDR = s.rd VL_DENY_ADDR := by
  have hrec : recordDenied req a s = s.put VL_STAT.DENIED_WR 1 := by
    simp [recordDenied, hrun, State.bit, hlater]
  rw [hrec, rd_put_other _ _ _ _ (by decide)]

/-- An aligned 32-bit write that is denied as a whole only records the denial, through an aperture as at a register
(R36, R38). -/
theorem windowWrite_denied {req : Requester} {a : Nat} {v : Word} {s : State} (halign : a % 4 = 0) (hfree : s.Free a)
    (hd : deniedWhole req a v s = true) : windowWrite req .b32 a v s = recordDenied req a s := by
  unfold windowWrite
  rw [if_neg (not_held hfree), if_pos ⟨rfl, halign⟩]
  cases apertureAddr s a with
  | none => exact gated_denied hd hfree _
  | some core => exact if_pos hd

/-- Settles O7: the write comes down to the record of its denial, whose fields and frame are those of R38. -/
theorem deniedWritesAreIgnoredAndRecorded : Obligations.DeniedWritesAreIgnoredAndRecorded := by
  intro req a v s halign hrun hd
  have hfree : s.Free a.toNat := fun h => absurd h (by simp [hrun])
  have hword : a.toNat / 4 * 4 = a.toNat := Nat.div_mul_cancel (Nat.dvd_of_mod_eq_zero halign)
  refine ⟨recordDenied req a.toNat s, congrArg _ (windowWrite_denied halign hfree hd),
    recordDenied_DENIED_WR req _ hrun, fun hfirst => ?_, recordDenied_later req _ hrun, recordDenied_frame req _ s⟩
  obtain ⟨hreq, hoff⟩ := recordDenied_first req hrun a.isLt hfirst
  exact ⟨hreq, hoff.trans hword⟩

end Sys2Proof.Machine

/-! PROOFS of the family spec/02_time_and_clocks.md. The clock edge, the commands that a reset holds, the stop of the PLL,
the resets with their releases, and lock and loss of lock with the CTRL and CELL islands. -/

namespace Sys2Proof.Machine

open State

/-! ### Fields of one bit and frames of one field -/

/-- A one-bit field that reads 1 is set. -/
theorem State.bit_of_get {s : State} {f : Fld} (h : s.get f = 1) : s.bit f = true := by
  rw [State.bit, h]
  rfl

/-- A field that reads 0 is clear. -/
theorem State.bit_of_get_zero {s : State} {f : Fld} (h : s.get f = 0) : s.bit f = false := by
  rw [State.bit, h]
  rfl

/-- A stored 1 reads back from a field of any width. -/
theorem get_put_one (s : State) (f : Fld) (hle : f.lo ≤ f.hi) (hlt : f.hi < 32) : (s.put f 1).get f = 1 := by
  rw [get_put_same _ _ _ hle hlt]
  exact Nat.mod_eq_of_lt (Nat.one_lt_two_pow (by omega))

/-- A stored 0 reads back. -/
theorem get_put_zero (s : State) (f : Fld) (hle : f.lo ≤ f.hi) (hlt : f.hi < 32) : (s.put f 0).get f = 0 := by
  rw [get_put_same _ _ _ hle hlt, Nat.zero_mod]

/-- A store to one field is framed by that field. -/
theorem frame_put (s : State) (f : Fld) (v : Nat) : s.Frame (s.put f v) [f] :=
  frame_intro ((KeepsBits.refl s).put f v) (fun _ h => h) rfl

/-! ### One clock edge -/

/-- Power-on reset holds the clock edge (R48). -/
theorem clockEdge_por {s : State} (h : s.rst.por = true) : clockEdge s = s := if_pos h

/-- Without the lock an edge is one of CKA, of 32 ticks (R49). -/
theorem clockEdge_coarse {s : State} (hpor : s.rst.por = false) (hlock : s.bit TIM_STAT.PLL_LOCK = false) :
    clockEdge s = s.passCoarse 32 := by
  rw [clockEdge, if_neg (by simp [hpor]), State.locked, if_neg (by simp [hlock])]

/-- Settles O2: a step on an empty queue is a clock edge, and no edge puts a command into the queue. -/
theorem emptyQueueIsOneClockEdge : Obligations.EmptyQueueIsOneClockEdge := by
  intro s hq
  have hstep : step s = .next (clockEdge s) := by simp only [step, hq]
  refine ⟨fun hpor => ?_, fun hpor hlock => ?_, fun _ _ => ?_⟩
  · rw [hstep, clockEdge_por hpor]
  · exact ⟨s.passCoarse 32, by rw [hstep, clockEdge_coarse hpor hlock], rfl, rfl, rfl⟩
  · exact ⟨clockEdge s, hstep, (clockEdge_keeps (Keeps.refl s)).pending.trans hq⟩

/-! ### Commands that a reset holds -/

/-- A command of the CTRL island does nothing while instance reset is asserted. -/
theorem State.running_held {s : State} (h : s.rst.inst = true) (k : State → State) : s.running k = s := if_pos h

/-- A region's command of the CTRL island is held as a whole: region 0 has none. -/
theorem onRegion_running (n : RegionIx) (k : State → State) (s : State) :
    onRegion n (fun s => s.running k) s = .next (s.running fun s => if n.val = 0 then s else k s) := by
  unfold onRegion State.running
  split <;> simp_all

/-- Each of the held commands acts through the guard of the CTRL island (R62, R633). -/
theorem exec_running {c : Instr} (hc : heldInReset c = true) : ∃ k, ∀ s, exec c s = .next (s.running k) := by
  cases c <;> cases hc
  case minvReplacement | pendingEnableExecute | rampEnd | regionBlind | regionNoRise | regionShort =>
    exact ⟨_, onRegion_running _ _⟩
  all_goals exact ⟨_, fun _ => rfl⟩

/-- Each PMBus transaction acts through the guard of the PMBus target (R638). -/
theorem exec_smbDo {c : Instr} (hc : onPmbus c = true) : ∃ k, ∀ s, exec c s = .next (smbDo k s) := by
  cases c <;> cases hc
  all_goals exact ⟨_, fun _ => rfl⟩

/-- Settles O53: both guards leave the state to a reset (the list of held commands is the model's choice, log entry 21). -/
theorem resetsHoldTheirCommands : Obligations.ResetsHoldTheirCommands := by
  refine ⟨fun c s hc hinst => ?_, fun c s hc hpor => ?_⟩
  · obtain ⟨k, hk⟩ := exec_running hc
    exact ⟨s, by rw [hk, State.running_held hinst], rfl⟩
  · obtain ⟨k, hk⟩ := exec_smbDo hc
    exact ⟨s, by rw [hk, smbDo, if_pos hpor], rfl⟩

/-! ### The live regions and the stop of the PLL -/

/-- The reset word of RGN_STAT says OFF for every region (R131, R132). -/
theorem regReset_RGN_STAT_off : ∀ n : Fin 256, fldGet (regReset (RGN_STAT n)) 2 0 = 0 := by decide +kernel

/-- A key that reads other than the default is listed. -/
theorem mem_of_mapGet_ne {α : Type} {d : α} {m : Map α} {k : Nat} (h : mapGet d m k ≠ d) : ∃ v, (k, v) ∈ m := by
  induction m with
  | nil => exact absurd rfl h
  | cons e m ih =>
    obtain ⟨a, v⟩ := e
    by_cases ha : a = k
    · exact ⟨v, by simp [ha]⟩
    · rw [mapGet, if_neg ha] at h
      obtain ⟨v, hv⟩ := ih h
      exact ⟨v, List.mem_cons_of_mem _ hv⟩

/-- An element below the bound whose register differs from its reset word is listed. -/
theorem mem_listed {s : State} {base stride n i : Nat} (hs : 0 < stride) (hi : i < n)
    (h : s.rd (base + stride * i) ≠ regReset (base + stride * i)) : i ∈ s.listed base stride n := by
  obtain ⟨w, hw⟩ := mem_of_mapGet_ne h
  refine List.mem_filterMap.mpr ⟨_, hw, ?_⟩
  simp [Nat.mul_div_cancel_left _ hs, hi]

/-- Every listed element lies below the bound. -/
theorem lt_of_mem_listed {s : State} {base stride n i : Nat} (h : i ∈ s.listed base stride n) : i < n := by
  obtain ⟨e, -, he⟩ := List.mem_filterMap.mp h
  split at he
  · rename_i hc
    cases he
    exact hc.2.2
  · cases he

/-- The walked list of regions; an unlisted region reads the reset word of RGN_STAT, which is OFF. -/
theorem State.mem_liveRegions {s : State} {n : Nat} : n ∈ s.liveRegions ↔ 1 ≤ n ∧ n < 256 ∧ s.rgnState n ≠ 0 := by
  unfold State.liveRegions
  simp only [List.mem_filter, Bool.and_eq_true, decide_eq_true_eq, bne_iff_ne, ne_eq]
  constructor
  · rintro ⟨hl, h1, hne⟩
    exact ⟨h1, lt_of_mem_listed hl, hne⟩
  · rintro ⟨h1, h256, hne⟩
    refine ⟨mem_listed (by decide) h256 fun hreset => hne ?_, h1, hne⟩
    have hoff := regReset_RGN_STAT_off ⟨n, h256⟩
    have hrd : s.rd (RGN_STAT n) = regReset (RGN_STAT n) := by simpa [RGN_STAT] using hreset
    exact (congrArg (fldGet · 2 0) hrd).trans hoff

/-- Settles O48. -/
theorem liveRegionsAreThoseNotOff : Obligations.LiveRegionsAreThoseNotOff := fun _ _ => State.mem_liveRegions

/-- What holds a write of 0 to PLL_EN up (R47): a region that is not OFF, or a phase that is not latched off or disabled. -/
def State.LiveLoad (s : State) : Prop :=
  (∃ n, 1 ≤ n ∧ n < 256 ∧ s.rgnState n ≠ 0) ∨ ∃ p, p < 32 ∧ s.phState p ≠ 0 ∧ s.phState p ≠ 1 ∧ s.phState p ≠ 5

/-- The machine's test for such a load walks the live regions and the 32 phases. -/
theorem liveLoad_iff (s : State) :
    (!s.liveRegions.isEmpty || (List.range 32).any fun p => s.phState p != 0 && s.phState p != 1 && s.phState p != 5) = true ↔
      s.LiveLoad := by
  have hregions : (!s.liveRegions.isEmpty) = true ↔ ∃ n, 1 ≤ n ∧ n < 256 ∧ s.rgnState n ≠ 0 := by
    rw [Bool.not_eq_true', List.isEmpty_eq_false_iff_exists_mem]
    exact exists_congr fun n => State.mem_liveRegions
  rw [Bool.or_eq_true, hregions]
  simp [State.LiveLoad, and_assoc]

/-- No region to walk, and every phase DISABLED, IDLE or LATCHED (R165): there is no such load. -/
theorem State.not_liveLoad {s : State} (hregions : s.liveRegions = [])
    (hphases : ∀ p < 32, s.phState p = 0 ∨ s.phState p = 1 ∨ s.phState p = 5) : ¬ s.LiveLoad := by
  rintro (⟨n, hn⟩ | ⟨p, h32, h0, h1, h5⟩)
  · exact List.not_mem_nil (hregions ▸ State.mem_liveRegions.mpr hn)
  · rcases hphases p h32 with h | h | h
    · exact h0 h
    · exact h1 h
    · exact h5 h

/-- With a live load the write only notes its refusal (R47). -/
theorem timCtrlWrite_refused {s : State} (hen : s.get TIM_CTRL.PLL_EN = 1) (h : s.LiveLoad) :
    timCtrlWrite 0 s = s.put TIM_STAT.PLL_OFF_REFUSED 1 := by
  unfold timCtrlWrite
  rw [if_neg (by decide), State.bit_of_get hen, if_neg (by decide), if_pos ((liveLoad_iff s).mpr h)]

/-- Without one PLL_EN falls, and with the PLL locked the clocks stop (R47, R674). -/
theorem timCtrlWrite_stop {s : State} (hen : s.get TIM_CTRL.PLL_EN = 1) (h : ¬ s.LiveLoad) :
    timCtrlWrite 0 s = if s.locked then clocksStop (s.put TIM_CTRL.PLL_EN 0) else s.put TIM_CTRL.PLL_EN 0 := by
  have hlocked : (s.put TIM_CTRL.PLL_EN 0).locked = s.locked := locked_of_put rfl (by decide)
  unfold timCtrlWrite
  rw [if_neg (by decide), State.bit_of_get hen, if_neg (by decide), if_neg (mt (liveLoad_iff s).mp h)]
  simp only [hlocked]

/-- Settles O49: the two branches of the write of 0. -/
theorem pllStopIsRefusedWhileAnythingIsLive : Obligations.PllStopIsRefusedWhileAnythingIsLive := by
  intro req s hp hen
  have hwrite : exec (.pllStop req) s = .next (timCtrlWrite 0 s) := congrArg _ (gated_permits hp timCtrlWrite)
  refine ⟨fun hlive => ?_, fun hregions hphases => ?_⟩
  · refine ⟨s.put TIM_STAT.PLL_OFF_REFUSED 1, by rw [hwrite, timCtrlWrite_refused hen hlive], ?_, ?_, frame_put ..⟩
    · rw [get_put_other _ _ _ _ (by decide), hen]
    · exact get_put_one _ _ (by decide) (by decide)
  · have hnone : s.liveRegions = [] := List.eq_nil_iff_forall_not_mem.mpr fun n hn => by
      obtain ⟨h1, h256, hne⟩ := State.mem_liveRegions.mp hn
      exact hne (hregions n h1 h256)
    have hstop := timCtrlWrite_stop hen (State.not_liveLoad hnone hphases)
    exact ⟨_, hwrite, fun hlock => hstop.trans (if_neg (by simp [hlock])), fun hlock => hstop.trans (if_pos hlock)⟩

/-! ### The resets -/

/-- A field whose register instance reset keeps reads as before; only the trims and CBSE_FIRST are written (R633). -/
theorem assertReset_get_kept (s : State) (f : Fld) (hkept : keptByInstanceReset f.addr = true)
    (hsns : ∀ k < 4, f.addr ≠ SNS_TRIM k) (hthm : ∀ k < 512, f.addr ≠ THM_SCTL k) (hfirst : f.addr ≠ CBSE_FIRST) :
    (assertReset s).get f = s.get f := by
  cases hi : s.rst.inst with
  | true => rw [assertReset, if_pos hi]
  | false => rw [State.get, State.get, assertReset_rd s _ hi hsns hthm hfirst, if_pos hkept]

/-- HOLD_RCAUSE is a register of power-on reset alone (R635). -/
theorem assertReset_get_RCAUSE (s : State) (f : Fld) (h : f.addr = HOLD_RCAUSE) : (assertReset s).get f = s.get f :=
  assertReset_get_kept s f (by rw [h]; decide) (by rw [h]; unfold HOLD_RCAUSE SNS_TRIM; omega)
    (by rw [h]; unfold HOLD_RCAUSE THM_SCTL; omega) (by rw [h]; decide)

/-- TIM_STAT is a register of power-on reset alone (R46). -/
theorem assertReset_get_TIM_STAT (s : State) (f : Fld) (h : f.addr = TIM_STAT) : (assertReset s).get f = s.get f :=
  assertReset_get_kept s f (by rw [h]; decide) (by rw [h]; unfold TIM_STAT SNS_TRIM; omega)
    (by rw [h]; unfold TIM_STAT THM_SCTL; omega) (by rw [h]; decide)

/-- A cause noted before the assertion stands after it (R635). -/
theorem assertReset_noteCause (s : State) {f : Fld} (haddr : f.addr = HOLD_RCAUSE) (hle : f.lo ≤ f.hi) (hlt : f.hi < 32) :
    (assertReset (noteCause f s)).get f = 1 :=
  (assertReset_get_RCAUSE _ f haddr).trans (get_put_one s f hle hlt)

/-- After the assertion instance reset stands asserted. -/
theorem assertReset_inst (s : State) : (assertReset s).rst.inst = true := by
  cases h : s.rst.inst with
  | true => rw [assertReset, if_pos h, h]
  | false => rw [assertReset_rst s h]

/-- The loss of the CTRL island takes the cell sea's power with it and asserts instance reset (R63, R635). -/
theorem ctrlLoss_good {s : State} (h : s.bit TIM_STAT.CTRL_GOOD = true) :
    (ctrlLoss s).rst.inst = true ∧ (ctrlLoss s).get HOLD_RCAUSE.CTRL_PG = 1 ∧
      (ctrlLoss s).get TIM_STAT.CTRL_GOOD = 0 ∧ (ctrlLoss s).get TIM_STAT.CELL_GOOD = 0 := by
  rw [ctrlLoss, if_pos h]
  refine ⟨assertReset_inst _, assertReset_noteCause _ rfl (by decide) (by decide), ?_, ?_⟩
  · rw [assertReset_get_TIM_STAT _ _ rfl, noteCause, get_put_other _ _ _ _ (by decide), get_put_other _ _ _ _ (by decide)]
    exact get_put_zero _ _ (by decide) (by decide)
  · rw [assertReset_get_TIM_STAT _ _ rfl, noteCause, get_put_other _ _ _ _ (by decide)]
    exact get_put_zero _ _ (by decide) (by decide)

/-- Every field beside the window that a power-on reset gives a value of its own (R633, R634). -/
theorem powerOnReset_hidden (k : Nat) (s : State) : ∃ w : State,
    powerOnReset k s = { w with regs := (powerOnReset k s).regs } ∧ w.ts = 0 ∧ w.ram = [] ∧ w.core = [] ∧ w.yutre = [] ∧
      w.rst = { por := true, pin := s.rst.pin, scan := s.rst.scan, cells := s.rst.cells, asel := k, inst := true } ∧
      w.efuse = s.efuse ∧ w.fw.flash = s.fw.flash ∧ w.pending = s.pending :=
  ⟨_, loadEfuse_eq _, rfl, rfl, rfl, rfl, rfl, rfl, rfl, rfl⟩

/-- The state once power-on reset is no longer asserted, before the release does its work. -/
def State.porDropped (s : State) : State := { s with rst := { s.rst with por := false } }

/-- With the CTRL island good and the pin high the release notes no cause; PLL_EN waits for the reference (R637). -/
theorem releasePor_good {s : State} (hpor : s.rst.por = true) (hpin : s.rst.pin = false)
    (hgood : s.get TIM_STAT.CTRL_GOOD = 1) :
    releasePor s =
      if s.bit TIM_STAT.REF_PRESENT then s.porDropped.put TIM_CTRL.PLL_EN 1
      else { s.porDropped with rst := { s.porDropped.rst with pllDue := true } } := by
  have hbit : s.porDropped.bit TIM_STAT.CTRL_GOOD = true := State.bit_of_get hgood
  have hnopin : ¬ s.porDropped.rst.pin = true := by rw [State.porDropped, hpin]; decide
  rw [releasePor, if_pos hpor, ← State.porDropped]
  dsimp only
  rw [if_pos hbit, if_neg hnopin]
  rfl

/-- The release of instance reset once no source holds it, with nothing to save (R635). -/
theorem releaseReset_run {s : State} (hinst : s.rst.inst = true) (hheld : s.resetHeld = false) (hlock : s.locked = true)
    (hsave : s.hold.saveDue = false) : ∃ u, releaseReset s = romBoot (edgesRelease (reinAll u)) ∧
      u.rst = { s.rst with inst := false, soft := none, released := s.now } ∧ u.fw.quiet = s.now ∧ u.fw.hostAt = s.now ∧
      u.regs = s.regs := by
  unfold releaseReset
  rw [if_pos ⟨hinst, by rw [hheld]; rfl, hlock⟩]
  dsimp only
  rw [saveRaise, if_neg fun h => absurd (hsave.symm.trans h.1) (by decide)]
  exact ⟨_, rfl, rfl, rfl, rfl, rfl⟩

/-- In power-on reset TS stands (R48). -/
theorem advanceTo_por {s : State} (h : s.rst.por = true) (e : Dword) : s.advanceTo e = s := by
  unfold State.advanceTo
  simp only [h, or_true, if_true]

/-- Settles O14, command by command, from what the assertion and the releases of the resets leave (a memory's reset value is 0:
log entry 14). -/
theorem resetCommandsComplete : Obligations.ResetCommandsComplete := by
  refine ⟨fun e s hbad => ?_, fun e s hgood hrun => ?_, fun e s hrun => ?_, fun e s => ?_, fun e req s hp hrun => ?_,
    fun e req s hp hrun => ?_, fun e x s hrun => ?_, fun e s => ?_, fun k s => ?_, fun e s hpor hpin hgood href => ?_,
    fun e s hpor hpin hgood href => ?_, fun e s hinst hheld hlock hsave => ?_⟩
  · have hbit : (s.advanceTo e).bit TIM_STAT.CTRL_GOOD = false :=
      State.bit_of_get_zero ((s.advanceTo_get e _).trans hbad)
    refine ⟨ctrlGood (s.advanceTo e), rfl, ?_⟩
    rw [ctrlGood, hbit, ← advanceTo_rst s e]
    exact ⟨get_put_one _ _ (by decide) (by decide), frame_intro ((KeepsBits.refl _).put _ _) (fun _ h => h) rfl⟩
  · exact ⟨_, rfl, ctrlLoss_good (State.bit_of_get ((s.advanceTo_get e _).trans hgood))⟩
  · exact ⟨_, rfl, assertReset_inst _, rfl, assertReset_noteCause _ rfl (by decide) (by decide)⟩
  · exact ⟨_, rfl, by rw [← advanceTo_rst s e]; rfl, s.advanceTo_regs e⟩
  · refine ⟨_, congrArg Host.Outcome.next (gated_permits (permits_adv hp e) holdRstWrite), assertReset_inst _, ?_, ?_⟩
    · exact congrArg (fun w : Dword => some w.toNat) (assertReset_ts _)
    · exact assertReset_noteCause _ rfl (by decide) (by decide)
  · refine ⟨_, congrArg Host.Outcome.next (gated_permits (permits_adv hp e) holdRstWrite),
      (s.advanceTo e).put HOLD_RCAUSE.SW_FW 1, frame_put .., get_put_one _ _ (by decide) (by decide), ?_⟩
    have hinst : ((s.advanceTo e).put HOLD_RCAUSE.SW_FW 1).rst.inst = false := by
      rw [put_rst, advanceTo_rst, hrun]
    rw [holdRstWrite, if_neg (by decide), if_pos rfl]
    exact if_neg (by rw [noteCause, hinst]; decide)
  · have hinst : (s.advanceTo e).rst.inst = false := by rw [advanceTo_rst, hrun]
    refine ⟨_, rfl, assertReset_inst _, rfl, rfl, fun a hsns hthm hfirst => ?_⟩
    exact (assertReset_rd _ a hinst hsns hthm hfirst).trans (by rw [State.advanceTo_rd])
  · exact ⟨_, rfl, by rw [← advanceTo_rst s e], s.advanceTo_regs e⟩
  · obtain ⟨w, hw, hts, hram, hcore, hyutre, hrst, hefuse, hflash, hpending⟩ := powerOnReset_hidden k.val s
    refine ⟨powerOnReset k.val s, rfl, ?_⟩
    have hrd := powerOnReset_rd s k.val
    rw [hw] at hrd ⊢
    refine ⟨hts, ?_, ?_, ?_, hram, hcore, hyutre, hefuse, hflash, hpending, hrd⟩ <;> simp [hrst]
  · refine ⟨s.porDropped.put TIM_CTRL.PLL_EN 1, congrArg Host.Outcome.next ?_, ?_⟩
    · rw [advanceTo_por hpor, releasePor_good hpor hpin hgood, if_pos (State.bit_of_get href)]
    · rw [advanceTo_por hpor]
      exact ⟨get_put_one _ _ (by decide) (by decide), rfl, frame_put ..⟩
  · refine ⟨releasePor s, by rw [← congrArg releasePor (advanceTo_por hpor e)]; rfl, ?_⟩
    rw [releasePor_good hpor hpin hgood, if_neg (by rw [State.bit_of_get_zero href]; decide)]
    exact ⟨rfl, rfl, rfl⟩
  · have h := releaseReset_run (s := s.advanceTo e) (by rwa [advanceTo_rst]) hheld ((locked_adv s e).trans hlock)
      (by rwa [advanceTo_hold])
    obtain ⟨u, hu, hrst, hquiet, hhost, hregs⟩ := h
    rw [advanceTo_rst] at hrst
    exact ⟨_, rfl, u, hu, hrst, hquiet, hhost, hregs.trans (s.advanceTo_regs e)⟩

/-! ### Lock and loss of lock -/

/-- What the lock itself writes, before its consequences (R45). -/
def lockMarks (s : State) : State := ((s.put TIM_STAT.PLL_LOCK 1).put TIM_STAT.TS_COARSE 0).put TIM_STAT.CKA_SRC 0

/-- Nothing else changes (R45). -/
theorem lockMarks_frame (s : State) :
    s.Frame (lockMarks s) [TIM_STAT.PLL_LOCK, TIM_STAT.TS_COARSE, TIM_STAT.CKA_SRC] :=
  frame_intro ((((KeepsBits.refl s).put _ _).put _ _).put _ _) (by simp) rfl

/-- Locked, TS fine again, and CKA from the PLL (R45). -/
theorem lockMarks_reads (s : State) : (lockMarks s).get TIM_STAT.PLL_LOCK = 1 ∧
    (lockMarks s).get TIM_STAT.TS_COARSE = 0 ∧ (lockMarks s).get TIM_STAT.CKA_SRC = 0 := by
  unfold lockMarks
  refine ⟨?_, ?_, ?_⟩ <;> simp (disch := decide) only [get_put_other, get_put_one, get_put_zero]

/-- The lock detector lets the cells go and the frame starts at the edge of the lock (R45, R674). -/
def lockTaken (s : State) : State := { s with tim := { s.tim with lockSafe := s.tim.unlockDue, frame := s.now / 100 } }

/-- What follows a lock: cells are let go, and out of instance reset the combiner runs and what waited is delivered. -/
def lockFollows (s : State) : State :=
  let s := if s.tim.lockSafe then s else releaseCells s.touchedCells s
  let s := if s.rst.inst then s else edgesRelease (reinAll s)
  saveRaise (if s.hold.edgeDue ∧ !s.rst.inst then sagEdge s else s)

/-- The edges of CKS are counted from the edge of the lock (R45). -/
def lockAligned (s : State) : State := { lockMarks s with tim := { s.tim with cksPar := s.tim.edges % 2 } }

/-- With PLL_EN set and a reference the PLL locks (R40, R45). -/
theorem pllLock_locks {s : State} (hen : s.get TIM_CTRL.PLL_EN = 1) (hlock : s.locked = false)
    (href : s.get TIM_STAT.REF_PRESENT = 1) :
    pllLock s = lockFollows (lockTaken (if s.rst.inst then lockAligned s else relock (lockAligned s))) :=
  if_pos ⟨State.bit_of_get hen, by rw [hlock]; rfl, State.bit_of_get href⟩

/-- In instance reset a lock that ends a loss only raises what waits for CKF: the safe states stand (R43, R646). -/
theorem pllLock_held {s : State} (hen : s.get TIM_CTRL.PLL_EN = 1) (hlock : s.locked = false)
    (href : s.get TIM_STAT.REF_PRESENT = 1) (hinst : s.rst.inst = true) (hdue : s.tim.unlockDue = true) :
    pllLock s = saveRaise (lockTaken (lockAligned s)) := by
  have hinst' : (lockTaken (lockAligned s)).rst.inst = true := hinst
  have hsafe : (lockTaken (lockAligned s)).tim.lockSafe = true := hdue
  rw [pllLock_locks hen hlock href, if_pos hinst]
  unfold lockFollows
  simp only [hsafe, hinst', if_true, Bool.not_true, Bool.false_eq_true, and_false, if_false]

/-- Out of instance reset what waits for the relock acts before the other consequences of a lock (R45). -/
theorem pllLock_run {s : State} (hen : s.get TIM_CTRL.PLL_EN = 1) (hlock : s.locked = false)
    (href : s.get TIM_STAT.REF_PRESENT = 1) (hrun : s.rst.inst = false) :
    pllLock s = lockFollows (lockTaken (relock (lockAligned s))) := by
  rw [pllLock_locks hen hlock href, if_neg (by rw [hrun]; decide)]

/-- The fields of TIM_STAT that the stop of the fast clocks writes (R42, R44). -/
def stopMarks (s : State) : State :=
  let u := (((countEdges s).put TIM_STAT.PLL_LOCK 0).put TIM_STAT.TS_COARSE 1).put TIM_STAT.TS_ALIGNED 0
  if !s.bit TIM_STAT.REF_PRESENT then (u.put TIM_STAT.CKA_SRC 2).put TIM_STAT.TS_DEGRADED 1 else u.put TIM_STAT.CKA_SRC 1

/-- The lock detector holds the cells, and no conversion runs on (R43). -/
def clocksHeld (s : State) : State :=
  let u := { stopMarks s with tim := { (stopMarks s).tim with lockSafe := true } }
  u.each [0, 1, 2, 3] fun s k => s.setSconv k { s.sconv k with cur := none }

/-- A stop of the clocks is the held state followed by its consequences, in their order (R43, R352). -/
theorem clocksStop_eq (s : State) : clocksStop s =
    ordersZero (frontFault 8 (safeBegins (clocksHeld s).touchedCells (clocksHeld s))) := by
  unfold clocksStop clocksHeld stopMarks
  rfl

theorem clocksHeld_regs (s : State) : (clocksHeld s).regs = (stopMarks s).regs := by
  unfold clocksHeld
  generalize stopMarks s = u
  rfl

theorem clocksHeld_lockSafe (s : State) : (clocksHeld s).tim.lockSafe = true := rfl

/-- Not locked, TS coarse and no longer aligned (R42). -/
theorem stopMarks_reads (s : State) : (stopMarks s).get TIM_STAT.PLL_LOCK = 0 ∧
    (stopMarks s).get TIM_STAT.TS_COARSE = 1 ∧ (stopMarks s).get TIM_STAT.TS_ALIGNED = 0 := by
  unfold stopMarks
  refine ⟨?_, ?_, ?_⟩ <;> split <;> simp (disch := decide) only [get_put_other, get_put_one, get_put_zero]

/-- Without a reference CKA runs on the backup oscillator and TS is degraded; with one it runs on the reference (R44). -/
theorem stopMarks_source (s : State) :
    (stopMarks s).get TIM_STAT.CKA_SRC = (if s.get TIM_STAT.REF_PRESENT = 0 then 2 else 1) ∧
      (s.get TIM_STAT.REF_PRESENT = 0 → (stopMarks s).get TIM_STAT.TS_DEGRADED = 1) := by
  unfold stopMarks
  by_cases href : s.get TIM_STAT.REF_PRESENT = 0
  · rw [if_pos href, if_pos (by rw [State.bit_of_get_zero href]; rfl)]
    refine ⟨?_, fun _ => get_put_one _ _ (by decide) (by decide)⟩
    rw [get_put_other _ _ _ _ (by decide), get_put_same _ _ _ (by decide) (by decide)]
    rfl
  · rw [if_neg href, if_neg (by simp [State.bit, href])]
    exact ⟨get_put_one _ _ (by decide) (by decide), fun h => absurd h href⟩

theorem stopMarks_keepsBits (s : State) : (countEdges s).KeepsBits (stopMarks s)
    [TIM_STAT.PLL_LOCK, TIM_STAT.TS_COARSE, TIM_STAT.TS_ALIGNED, TIM_STAT.CKA_SRC, TIM_STAT.TS_DEGRADED] := by
  have hmarks := (((KeepsBits.refl (countEdges s)).put TIM_STAT.PLL_LOCK 0).put TIM_STAT.TS_COARSE 1).put
    TIM_STAT.TS_ALIGNED 0
  unfold stopMarks
  split
  · exact ((hmarks.put _ _).put _ _).mono (by simp)
  · exact (hmarks.put _ _).mono (by simp)

/-- The declaration of a loss of lock, before the clocks stop (R41). -/
def lossMarks (refAbsent : Bool) (s : State) : State :=
  let u := ((s.putB TIM_STAT.REF_PRESENT (!refAbsent)).put TIM_STAT.LOCK_LOST 1).incSat TIM_LOCK_CNT.COUNT
  { u with tim := { u.tim with unlockDue := true, unlockTs := u.ts } }

/-- A loss of lock is its declaration and then the stop of the clocks (R41, R42). -/
theorem lossOfLock_locked {s : State} (h : s.locked = true) (r : Bool) :
    lossOfLock r s = clocksStop (lossMarks r s) := if_pos h

/-- The reference as it was seen, LOCK_LOST, and the count, which saturates (R41). -/
theorem lossMarks_reads (r : Bool) (s : State) :
    (lossMarks r s).get TIM_STAT.REF_PRESENT = (if r then 0 else 1) ∧ (lossMarks r s).get TIM_STAT.LOCK_LOST = 1 ∧
      (lossMarks r s).get TIM_LOCK_CNT.COUNT = min (s.get TIM_LOCK_CNT.COUNT + 1) 65535 := by
  unfold lossMarks State.incSat State.addSat State.putB
  simp only [get_with_tim]
  refine ⟨?_, ?_, ?_⟩
  · rw [get_put_other _ _ _ _ (by decide), get_put_other _ _ _ _ (by decide), get_put_same _ _ _ (by decide) (by decide)]
    cases r <;> rfl
  · rw [get_put_other _ _ _ _ (by decide), get_put_one _ _ (by decide) (by decide)]
  · rw [get_put_same _ _ _ (by decide) (by decide), get_put_other _ _ _ _ (by decide), get_put_other _ _ _ _ (by decide)]
    exact Nat.mod_eq_of_lt (lt_of_le_of_lt (Nat.min_le_right _ _) (by decide))

theorem lossMarks_keepsBits (r : Bool) (s : State) :
    s.KeepsBits (lossMarks r s) [TIM_STAT.REF_PRESENT, TIM_STAT.LOCK_LOST, TIM_LOCK_CNT.COUNT] :=
  ((((KeepsBits.refl s).put TIM_STAT.REF_PRESENT (!r).toNat).put TIM_STAT.LOCK_LOST 1).put TIM_LOCK_CNT.COUNT _).mono
    (by simp)

/-- A cell that reports a state in which it rests reports no local response and no current limit (R91). -/
theorem putCellState_rest {st : Nat} (h : st = cSTANDBY ∨ st = cUNCOUPLED) (c : Nat) (s : State) :
    putCellState c st s =
      (((s.put (CELL_STAT.HYS_LO c) 0).put (CELL_STAT.HYS_HI c) 0).put (CELL_STAT.ILIM c) 0).put (CELL_STAT.STATE c) st := by
  rcases h with rfl | rfl
  · exact putCellState_standby c s
  · exact putCellState_uncoupled c s

/-- A mapped PARKED cell leaves it while the CELL island is good (R101). -/
theorem unpark_mapped {c : Nat} {s : State} (hparked : s.cellState c = cPARKED) (hregion : s.cellRegion c ≠ 0)
    (hgood : s.get TIM_STAT.CELL_GOOD = 1) :
    unpark c s = putCellState c (if s.get (CELL_STAT.CAUSE c) = 0 then cSTANDBY else cUNCOUPLED) s :=
  if_pos ⟨hparked, hregion, State.bit_of_get hgood⟩

/-- It becomes STANDBY, or UNCOUPLED when it holds a CAUSE, and nothing else of the window changes (R98, R101). -/
theorem unpark_leaves {c : Nat} {s : State} (hparked : s.cellState c = cPARKED) (hregion : s.cellRegion c ≠ 0)
    (hgood : s.get TIM_STAT.CELL_GOOD = 1) :
    (unpark c s).cellState c = (if s.get (CELL_STAT.CAUSE c) = 0 then 1 else 3) ∧
      s.KeepsBits (unpark c s) [CELL_STAT.STATE c, CELL_STAT.HYS_LO c, CELL_STAT.HYS_HI c, CELL_STAT.ILIM c] := by
  have hrest : (if s.get (CELL_STAT.CAUSE c) = 0 then cSTANDBY else cUNCOUPLED) = cSTANDBY ∨
      (if s.get (CELL_STAT.CAUSE c) = 0 then cSTANDBY else cUNCOUPLED) = cUNCOUPLED := ite_eq_or_eq _ _ _
  rw [unpark_mapped hparked hregion hgood, putCellState_rest hrest]
  refine ⟨?_, KeepsBits.mono (((((KeepsBits.refl s).put _ _).put _ _).put _ _).put _ _) (by simp)⟩
  rw [State.cellState, get_put_same _ _ _ (Nat.zero_le _) (show 2 < 32 by decide)]
  split <;> rfl

/-- Settles O15, command by command, from the marks that a lock and a stop of the clocks leave; that what waits for the relock
acts only out of reset is the model's choice (log entry 22). -/
theorem lockAndIslandCommandsComplete : Obligations.LockAndIslandCommandsComplete := by
  refine ⟨fun e s hen hlock href hinst hdue => ?_, fun e s hen hlock href hrun => ?_, fun e r s hlock => ?_,
    fun req s hp hen hlock hregions hphases => ?_, fun s => ?_, fun e s hctrl hcell => ?_, fun e s hcell => ?_,
    fun c s hparked hregion hgood => unpark_leaves hparked hregion hgood⟩
  · have hinst' : (s.advanceTo e).rst.inst = true := by rwa [advanceTo_rst]
    have hdue' : (s.advanceTo e).tim.unlockDue = true := by rw [advanceTo_eq]; exact hdue
    obtain ⟨hpll, hcoarse, hsrc⟩ := lockMarks_reads (s.advanceTo e)
    refine ⟨_, rfl, lockMarks (s.advanceTo e), lockMarks_frame _, hpll, hcoarse, hsrc, hdue', ?_⟩
    exact pllLock_held ((s.advanceTo_get e _).trans hen) ((locked_adv s e).trans hlock)
      ((s.advanceTo_get e _).trans href) hinst' hdue'
  · have hrun' : (s.advanceTo e).rst.inst = false := by rwa [advanceTo_rst]
    have hruns := pllLock_run ((s.advanceTo_get e _).trans hen) ((locked_adv s e).trans hlock)
      ((s.advanceTo_get e _).trans href) hrun'
    obtain ⟨hpll, hcoarse, hsrc⟩ := lockMarks_reads (s.advanceTo e)
    refine ⟨pllLock (s.advanceTo e), rfl, lockMarks (s.advanceTo e), relock (lockAligned (s.advanceTo e)),
      lockTaken (relock (lockAligned (s.advanceTo e))), lockMarks_frame _, hpll, hcoarse, hsrc, rfl, rfl, ?_⟩
    refine hruns.trans ?_
    generalize lockTaken (relock (lockAligned (s.advanceTo e))) = w
    rfl
  · obtain ⟨href, hlost, hcount⟩ := lossMarks_reads r (s.advanceTo e)
    rw [State.advanceTo_get] at hcount
    refine ⟨_, rfl, lossMarks r (s.advanceTo e), lossOfLock_locked ((locked_adv s e).trans hlock) r, href, hlost, hcount,
      rfl, rfl, ?_⟩
    exact (adv_keeps s e).mono (by simp) |>.trans (lossMarks_keepsBits r _)
  · refine ⟨_, congrArg Host.Outcome.next (gated_permits hp timCtrlWrite), s.put TIM_CTRL.PLL_EN 0, ?_,
      get_put_zero _ _ (by decide) (by decide), frame_put ..⟩
    rw [timCtrlWrite_stop hen (State.not_liveLoad hregions hphases), if_pos hlock]
  · obtain ⟨hlock, hcoarse, haligned⟩ := stopMarks_reads s
    obtain ⟨hsrc, hdegraded⟩ := stopMarks_source s
    have hget (f : Fld) : (clocksHeld s).get f = (stopMarks s).get f := by
      rw [State.get, State.get, rd_congr _ _ _ (clocksHeld_regs s)]
    exact ⟨clocksHeld s, clocksStop_eq s, (hget _).trans hlock, (hget _).trans hcoarse, (hget _).trans haligned,
      clocksHeld_lockSafe s, (hget _).trans hsrc, fun h => (hget _).trans (hdegraded h),
      (stopMarks_keepsBits s).of_regs (clocksHeld_regs s)⟩
  · refine ⟨_, congrArg Host.Outcome.next
      (if_pos ⟨State.bit_of_get hctrl, by rw [State.bit_of_get_zero hcell]; rfl⟩), (s.advanceTo e).put TIM_STAT.CELL_GOOD 1,
      frame_put .., get_put_one _ _ (by decide) (by decide), rfl⟩
  · exact ⟨_, congrArg Host.Outcome.next (if_pos (State.bit_of_get hcell)), (s.advanceTo e).put TIM_STAT.CELL_GOOD 0,
      frame_put .., get_put_zero _ _ (by decide) (by decide), rfl⟩

end Sys2Proof.Machine

/-! PROOFS of the family spec/03_cells.md. What a command or an event of the cell sea leaves in its cell, with the frame
of each. -/

namespace Sys2Proof.Machine

open State

/-! ### Reads after a store, and frames -/

/-- A stored value that fits its field reads back whole; `rfl` proves the bound of a named field, at every index. -/
theorem get_put_fit (s : State) (f : Fld) (v : Nat)
    (h : (decide (f.lo ≤ f.hi) && decide (f.hi < 32) && decide (v < 2 ^ (f.hi + 1 - f.lo))) = true) :
    (s.put f v).get f = v := by
  simp only [Bool.and_eq_true, decide_eq_true_eq] at h
  obtain ⟨⟨hle, hlt⟩, hv⟩ := h
  rw [get_put_same _ _ _ hle hlt, Nat.mod_eq_of_lt hv]

/-- A stored value reads back cut to the width of its field. -/
theorem get_put_cut (s : State) (f : Fld) (v : Nat) (h : (decide (f.lo ≤ f.hi) && decide (f.hi < 32)) = true) :
    (s.put f v).get f = v % 2 ^ (f.hi + 1 - f.lo) := by
  simp only [Bool.and_eq_true, decide_eq_true_eq] at h
  exact get_put_same _ _ _ h.1 h.2

/-- A field of other bits reads as before. -/
theorem get_put_apart (s : State) (f g : Fld) (v : Nat) (h : (decide (f.hi < g.lo) || decide (g.hi < f.lo)) = true) :
    (s.put f v).get g = s.get g :=
  get_put_other _ _ _ _ (.inr (by simpa only [Bool.or_eq_true, decide_eq_true_eq] using h))

/-- A field of another register reads as before. -/
theorem get_put_reg (s : State) (f g : Fld) (v : Nat) (h : g.addr ≠ f.addr) : (s.put f v).get g = s.get g :=
  get_put_other _ _ _ _ (.inl h)

/-- A field of another register reads as before the write. -/
theorem storeReg_get_other {a : Nat} {f : Fld} (h : f.addr ≠ a) (v : Word) (s : State) :
    (storeReg a v s).get f = s.get f := by
  rw [State.get, State.get, storeReg_rd_other h]

/-- A write of a register leaves the hidden state of the cells. -/
theorem storeReg_chid (a : Nat) (v : Word) (s : State) (c : Nat) : (storeReg a v s).chid c = s.chid c := by
  unfold storeReg
  split <;> rfl

/-- A pulse is the last of those that wait for Caboose (R479). -/
theorem pulse_pulses (s : State) (b : Nat) : (s.pulse b).cbse.pulses = s.cbse.pulses ++ [b] := rfl

/-- A doorbell is the last of those that wait at the port (R580). -/
theorem ring_port (s : State) (k o : Nat) : (s.ring k o).pst.port = s.pst.port ++ [32 * k + o] := rfl

/-- Frames compose. -/
theorem State.Frame.trans {u v w : State} {fs : List Fld} (h : u.Frame v fs) (h' : v.Frame w fs) : u.Frame w fs :=
  ⟨h.1.trans h'.1, (congrArg (fun x : State => { x with regs := u.regs }) h'.2).trans h.2⟩

/-- Registers at different places in the blocks of their cells are different registers (R65). -/
theorem cellReg_ne {o o' c d : Nat} (h : o % 0x40 ≠ o' % 0x40) : o + 0x40 * c ≠ o' + 0x40 * d := by omega

/-! ### How a command or an event of the cell sea runs -/

/-- Out of instance reset an event acts, and the combiner follows (R336). -/
theorem completes_working {i : Instr} {s : State} {k : State → State} {post : State → Prop}
    (hexec : exec i s = .next (s.working k)) (hrun : s.rst.inst = false) (hpost : post (reinAll (k s))) :
    Completes i s post :=
  ⟨reinAll (k s), hexec.trans (congrArg _ (running_of hrun _)), hpost⟩

/-- The OP field of a written CELL_CMD word is the OP. -/
theorem fldGet_low4 {op : Nat} (h : op < 16) : fldGet (BitVec.ofNat 32 op) 3 0 = op := by
  simp only [fldGet, BitVec.ushiftRight_zero, BitVec.toNat_ofNat]
  omega

/-- A permitted CELL_CMD write runs the cell command of its OP, and the combiner follows (R102). -/
theorem completes_cellCommand {i : Instr} {req : Requester} {c op : Nat} {s u : State} {post : State → Prop}
    (hexec : exec i s = .next (cellCmdWrite req c op s)) (hp : s.Permits req (CELL_CMD c) (BitVec.ofNat 32 op))
    (hop : op < 16) (hcmd : cellCommand c op s = u) (hpost : post (reinAll u)) : Completes i s post := by
  refine ⟨reinAll u, hexec.trans (congrArg _ ?_), hpost⟩
  rw [cellCmdWrite, gated_permits hp, fldGet_low4 hop, hcmd]

/-- With no command in progress NOP ends at once, also in the cycle of a failure (R102, R104). -/
theorem cellCommand_nop {c : Nat} {s : State} (hidle : s.get (CELL_CMD.PEND c) = 0) :
    cellCommand c 0 s = cellCmdDone c stOK s := by
  simp [cellCommand, bit_of_get_zero hidle]

/-- A reserved OP ends BAD_PARAM (R102). -/
theorem cellCommand_reserved {c op : Nat} {s : State} (hidle : s.get (CELL_CMD.PEND c) = 0) (hop : 7 ≤ op) :
    cellCommand c op s = cellCmdDone c stBADPARAM s := by
  obtain ⟨n, rfl⟩ := Nat.exists_eq_add_of_le' hop
  unfold cellCommand
  rw [bit_of_get_zero hidle, if_neg (by decide), if_neg (by omega)]
  rfl

/-- In the CKS cycle of a failure the six commands end NOT_READY (R104). -/
theorem cellCommand_failCycle {c op : Nat} {s : State} (hidle : s.get (CELL_CMD.PEND c) = 0) (hlow : 1 ≤ op)
    (hhigh : op ≤ 6) (hfail : s.thisCycle (s.chid c).failAt = true) :
    cellCommand c op s = cellCmdDone c stNOTREADY s := by
  unfold cellCommand
  rw [bit_of_get_zero hidle, if_neg (by decide), if_pos ⟨hlow, hhigh, hfail⟩]

/-- In every other cycle, with no command in progress, each of the six acts (R102). -/
theorem cellCommand_acts {c : Nat} {s : State} (hidle : s.get (CELL_CMD.PEND c) = 0)
    (hcycle : s.thisCycle (s.chid c).failAt = false) :
    cellCommand c 1 s = cmdDemote c s ∧ cellCommand c 2 s = cmdJoin c s ∧ cellCommand c 3 s = cmdRecouple c s ∧
      cellCommand c 4 s = cmdEnterTest c s ∧ cellCommand c 5 s = cmdExitTest c s ∧
      cellCommand c 6 s = cmdUncouple c s := by
  simp [cellCommand, bit_of_get_zero hidle, hcycle]

/-! ### The start and the end of a command -/

/-- Stores to the window do not touch the hidden state of the cells, so the two commute. -/
theorem setChid_put (s : State) (c : Nat) (h : CellHid) (f : Fld) (v : Nat) :
    (s.setChid c h).put f v = (s.put f v).setChid c h := rfl

/-- A completion is two stores and the doorbell of the cluster (R103, R110). -/
theorem cellCmdDone_eq (c res : Nat) (s : State) :
    cellCmdDone c res s =
      (((s.put (CELL_CMD.PEND c) 0).put (CELL_CMD.RES c) res).setChid c { s.chid c with cmd := 0 }).ring kCELL
        (24 + cluster c) := by
  rw [cellCmdDone, setChid_put, setChid_put]

/-- It leaves its status, PEND 0 and the doorbell, and no other field of the window (R103, R110). -/
theorem cellCmdDone_leaves (c : Nat) {res : Nat} (hres : res < 2 ^ 16) (s : State) :
    (cellCmdDone c res s).get (CELL_CMD.RES c) = res ∧ (cellCmdDone c res s).get (CELL_CMD.PEND c) = 0 ∧
      (cellCmdDone c res s).pst.port = s.pst.port ++ [32 * kCELL + (24 + cluster c)] ∧
      s.KeepsBits (cellCmdDone c res s) [CELL_CMD.RES c, CELL_CMD.PEND c] := by
  rw [cellCmdDone_eq]
  refine ⟨?_, ?_, rfl, ring_keepsBits (setChid_keepsBits (((KeepsBits.refl s).put _ _).put _ _) _ _) _ _⟩
  · rw [ring_get, setChid_get, get_put_cut _ _ _ rfl]
    exact Nat.mod_eq_of_lt hres
  · rw [ring_get, setChid_get, get_put_apart _ _ _ _ rfl, get_put_fit _ _ _ rfl]

/-- It leaves the status registers of the cells. -/
theorem cellCmdDone_get_stat (c d res : Nat) (s : State) (f : Fld) (hf : f.addr = CELL_STAT d) :
    (cellCmdDone c res s).get f = s.get f := by
  have hreg : CELL_STAT d ≠ CELL_CMD c := cellReg_ne (by decide)
  rw [cellCmdDone_eq, ring_get, setChid_get, get_put_reg _ _ _ _ (hf ▸ hreg), get_put_reg _ _ _ _ (hf ▸ hreg)]

/-- A command to cell c starts, and the cell goes on with the hidden state h (R103). -/
def cmdStarted (c : Nat) (h : CellHid) (s : State) : State :=
  ((s.put (CELL_CMD.PEND c) 1).put (CELL_CMD.RES c) stBUSY).setChid c h

/-- It leaves PEND 1 and RES BUSY (R103). -/
theorem cmdStarted_leaves (c : Nat) (h : CellHid) (s : State) :
    (cmdStarted c h s).get (CELL_CMD.PEND c) = 1 ∧ (cmdStarted c h s).get (CELL_CMD.RES c) = stBUSY ∧
      (s.setChid c h).Frame (cmdStarted c h s) [CELL_CMD.PEND c, CELL_CMD.RES c] := by
  rw [cmdStarted, ← setChid_put, ← setChid_put]
  refine ⟨?_, get_put_fit _ _ _ rfl, frame_intro (((KeepsBits.refl _).put _ _).put _ _) (by simp) rfl⟩
  rw [get_put_apart _ _ _ _ rfl, get_put_fit _ _ _ rfl]

/-! ### Targets and the tile window (R76, R78, R81) -/

/-- The two stores of a blend frame. -/
theorem ratioBlend_leaves (c x y : Nat) (s : State) :
    let u := (s.put (CELL_TGT.RATIO c) x).put (CELL_TGT.BLEND c) y
    u.get (CELL_TGT.RATIO c) = x % 8 ∧ u.get (CELL_TGT.BLEND c) = y % 16 ∧
      s.Frame u [CELL_TGT.RATIO c, CELL_TGT.BLEND c] := by
  intro u
  refine ⟨?_, get_put_cut _ _ _ rfl, frame_intro (((KeepsBits.refl s).put _ _).put _ _) (by simp) rfl⟩
  rw [get_put_apart _ _ _ _ rfl]
  exact get_put_cut _ _ _ rfl

/-- A blend frame moves the ratio one step at most, with BLEND 0 on the way (R76). -/
theorem blendFrame_leaves {c r : Nat} {g : Target} {s : State} (hg : (s.chid c).want = g)
    (hr : s.get (CELL_TGT.RATIO c) = r) :
    (blendFrame c s).get (CELL_TGT.RATIO c) =
        (if g.ratio ≤ r + 1 ∧ r ≤ g.ratio + 1 then g.ratio else if r < g.ratio then r + 1 else r - 1) % 8 ∧
      (blendFrame c s).get (CELL_TGT.BLEND c) = (if g.ratio ≤ r + 1 ∧ r ≤ g.ratio + 1 then g.blend else 0) % 16 ∧
      s.Frame (blendFrame c s) [CELL_TGT.RATIO c, CELL_TGT.BLEND c] := by
  unfold blendFrame
  rw [hg, hr]
  by_cases hnear : g.ratio ≤ r + 1 ∧ r ≤ g.ratio + 1
  · simp only [if_pos hnear]
    exact ratioBlend_leaves ..
  · simp only [if_neg hnear]
    exact ratioBlend_leaves ..

/-- A stored truth value reads back. -/
theorem bit_putB_same (s : State) (f : Fld) (b : Bool) (h : (decide (f.lo ≤ f.hi) && decide (f.hi < 32)) = true) :
    (s.putB f b).bit f = b := by
  simp only [Bool.and_eq_true, decide_eq_true_eq] at h
  obtain ⟨hle, hlt⟩ := h
  rw [State.putB, State.bit]
  cases b with
  | false =>
    rw [Bool.toNat_false, get_put_zero _ _ hle hlt]
    rfl
  | true =>
    rw [Bool.toNat_true, get_put_one _ _ hle hlt]
    rfl

/-- The reports of a comparator with hysteresis, for the tile voltage x and the window v ± w (R78, R81): at an edge and
beyond it one report stands, 2 mV inside both edges none, and in between each keeps what it was. -/
theorem window_cases {v w x : Int} {lo hi wasLo wasHi : Bool} (hw : 0 ≤ w)
    (hlo : lo = ((decide (x < v - w) || (wasLo && decide (x < v - w + 2000))) && !decide (v + w < x)))
    (hhi : hi = ((decide (v + w < x) || (wasHi && decide (v + w - 2000 < x))) && !decide (x < v - w))) :
    (x < v - w → lo = true ∧ hi = false) ∧ (v + w < x → hi = true ∧ lo = false) ∧
      (v - w + 2000 ≤ x ∧ x ≤ v + w - 2000 → lo = false ∧ hi = false) ∧
      (v - w ≤ x ∧ x < v - w + 2000 ∧ x ≤ v + w → lo = wasLo) ∧
      (v + w - 2000 < x ∧ x ≤ v + w ∧ v - w ≤ x → hi = wasHi) := by
  subst hlo hhi
  refine ⟨fun hbelow => ?_, fun habove => ?_, fun hinside => ?_, fun hlower => ?_, fun hupper => ?_⟩
  · have hnot : ¬ v + w < x := by omega
    simp [hbelow, hnot]
  · have hnot : ¬ x < v - w := by omega
    simp [habove, hnot]
  · have hback : ¬ x < v - w + 2000 ∧ ¬ v + w - 2000 < x ∧ ¬ x < v - w ∧ ¬ v + w < x := by omega
    simp [hback]
  · have hin : ¬ x < v - w ∧ ¬ v + w < x := by omega
    simp [hlower, hin]
  · have hin : ¬ x < v - w ∧ ¬ v + w < x := by omega
    simp [hupper, hin]

/-- What the comparator leaves in the two reports of the local response (R78, R81). -/
theorem windowCompare_leaves (c uv : Nat) (s : State) :
    let v : Int := (400000 + 1250 * s.get (CELL_TGT_SP.VT c) : Nat)
    let w : Int := (1250 * s.get (CELL_TRIM.VW c) : Nat)
    (windowCompare c uv s).bit (CELL_STAT.HYS_LO c) =
      ((decide ((uv : Int) < v - w) || (s.bit (CELL_STAT.HYS_LO c) && decide ((uv : Int) < v - w + 2000))) &&
        !decide (v + w < (uv : Int))) ∧
    (windowCompare c uv s).bit (CELL_STAT.HYS_HI c) =
      ((decide (v + w < (uv : Int)) || (s.bit (CELL_STAT.HYS_HI c) && decide (v + w - 2000 < (uv : Int)))) &&
        !decide ((uv : Int) < v - w)) ∧
    s.Frame (windowCompare c uv s) [CELL_STAT.HYS_LO c, CELL_STAT.HYS_HI c] := by
  intro v w
  refine ⟨?_, bit_putB_same _ _ _ rfl, frame_intro (((KeepsBits.refl s).put _ _).put _ _) (by simp) rfl⟩
  rw [windowCompare, State.putB, State.bit, get_put_apart _ _ _ _ rfl]
  exact bit_putB_same _ _ _ rfl

/-! ### The current limit and FOLDBACK (R86, R88) -/

/-- At the limit the cell reports it and holds a code that is not above the present one (R86). -/
theorem limitReached_leaves (c f : Nat) (s : State) :
    (limitReached c f s).get (CELL_STAT.ILIM c) = 1 ∧ (limitReached c f s).get (CELL_STAT.ILIM_SEEN c) = 1 ∧
      (limitReached c f s).cell = mapSet {} s.cell c { s.chid c with limFcode := min f (s.fcodeEff c) } ∧
      s.KeepsBits (limitReached c f s) [CELL_STAT.ILIM c, CELL_STAT.ILIM_SEEN c] := by
  unfold limitReached
  simp only [setChid_get]
  refine ⟨?_, get_put_fit _ _ _ rfl, rfl, ?_⟩
  · rw [get_put_apart _ _ _ _ rfl, get_put_fit _ _ _ rfl]
  · exact setChid_keepsBits
      (KeepsBits.mono (((keeps_regs_eq (t := { s with tlm := _ }) rfl).put _ _).put _ _) (by simp)) _ _

/-- EXQF at its upper end sets FOLDBACK, with its doorbell and its count (R88). -/
theorem foldCheck_sets {c : Nat} {s : State} (hoff : s.get (CELL_STAT.FOLDBACK c) = 0)
    (hfull : 7680000 ≤ (s.chid c).exqf) :
    (foldCheck c s).get (CELL_STAT.FOLDBACK c) = 1 ∧
      (foldCheck c s).pst.port = s.pst.port ++ [32 * kCELL + (16 + cluster c)] ∧ (foldCheck c s).cell = s.cell ∧
      (foldCheck c s).tlm.nfold = mapSet 0 s.tlm.nfold c (min 0xFFFF (mapGet 0 s.tlm.nfold c + 1)) ∧
      s.KeepsBits (foldCheck c s) [CELL_STAT.FOLDBACK c] := by
  unfold foldCheck
  simp only [bit_of_get_zero hoff, Bool.false_eq_true, if_false, if_pos hfull]
  exact ⟨get_put_fit _ _ _ rfl, rfl, rfl, rfl, ring_keepsBits ((keeps_regs_eq rfl).put _ _) _ _⟩

/-- Below its upper end EXQF leaves a cell that is not folded back (R88). -/
theorem foldCheck_waits {c : Nat} {s : State} (hoff : s.get (CELL_STAT.FOLDBACK c) = 0)
    (hlow : (s.chid c).exqf < 7680000) : foldCheck c s = s := by
  unfold foldCheck
  simp only [bit_of_get_zero hoff, Bool.false_eq_true, if_false, if_neg (Nat.not_le.mpr hlow)]

/-- In a cell that is folded back EXQF acts at 0 alone (R88). -/
theorem foldCheck_folded {c : Nat} {s : State} (hon : s.bit (CELL_STAT.FOLDBACK c) = true) :
    foldCheck c s = if (s.chid c).exqf = 0 then s.put (CELL_STAT.FOLDBACK c) 0 else s := by
  unfold foldCheck
  simp only [hon, if_true]

/-! ### Sensors (R94, R96) -/

/-- A set bit below the width stays below it. -/
theorem setBitN_lt_16 : ∀ n < 16, ∀ j < 4, setBitN n j < 16 := by decide

/-- The cause field of sensor j of cell c. -/
def xcauseFld (c j : Nat) : Fld := ⟨CELL_SNS c, 2 * j + 9, 2 * j + 8⟩

/-- A stored cause of two bits reads back. -/
theorem get_put_xcause (c : Nat) {j k : Nat} (hj : j < 4) (hk : k < 4) (s : State) :
    (s.put (xcauseFld c j) k).get (xcauseFld c j) = k := by
  rw [get_put_same _ _ _ (by simp [xcauseFld]) (by simp only [xcauseFld]; omega)]
  have hwidth : (xcauseFld c j).hi + 1 - (xcauseFld c j).lo = 2 := by simp only [xcauseFld]; omega
  rw [hwidth]
  omega

/-- The cause of another sensor is another field. -/
theorem get_put_xcause_other (c : Nat) {i j : Nat} (k : Nat) (h : i ≠ j) (s : State) :
    (s.put (xcauseFld c j) k).get (xcauseFld c i) = s.get (xcauseFld c i) := by
  refine get_put_other _ _ _ _ (.inr ?_)
  simp only [xcauseFld]
  omega

/-- The causes stand above the exclusion bits. -/
theorem get_EXCL_put_xcause (c j k : Nat) (s : State) :
    (s.put (xcauseFld c j) k).get (CELL_SNS.EXCL c) = s.get (CELL_SNS.EXCL c) := by
  refine get_put_other _ _ _ _ (.inr (.inr ?_))
  simp only [xcauseFld, CELL_SNS.EXCL]
  omega

/-- The causes of the four sensors stand side by side in one field. -/
theorem frame_put_xcause (c : Nat) {j : Nat} (hj : j < 4) (k : Nat) (s : State) :
    s.Frame (s.put (xcauseFld c j) k) [CELL_SNS.XCAUSE c] := by
  obtain ⟨hkeeps, hrest⟩ := frame_put s (xcauseFld c j) k
  refine ⟨fun a i ha => hkeeps a i fun f hf hin => ha (CELL_SNS.XCAUSE c) (by simp) ?_, hrest⟩
  rw [List.mem_singleton.mp hf] at hin
  simp only [xcauseFld] at hin
  simp only [CELL_SNS.XCAUSE]
  omega

/-- The causes of R94 are 1 to 3. -/
theorem snsDue_lt {s : State} {c j d : Nat} (h : s.snsDue c j = some d) : d < 4 := by
  have hmem := List.mem_of_find?_eq_some h
  simp only [List.mem_cons, List.not_mem_nil, or_false] at hmem
  omega

/-- An exclusion sets the bit of the sensor and its cause, pulses source 12 and rings the cluster (R94, R110, R111). -/
theorem sensorExclude_leaves (c : Nat) {j d : Nat} (hj : j < 4) (hd : d < 4) (s : State) :
    (sensorExclude c j d s).get (CELL_SNS.EXCL c) = setBitN (s.get (CELL_SNS.EXCL c)) j ∧
      (sensorExclude c j d s).get (xcauseFld c j) = d ∧ (sensorExclude c j d s).cbse.pulses = s.cbse.pulses ++ [12] ∧
      (sensorExclude c j d s).pst.port = s.pst.port ++ [32 * kCELL + (8 + cluster c)] ∧
      s.KeepsBits (sensorExclude c j d s) [CELL_SNS.EXCL c, xcauseFld c j] := by
  have heq : sensorExclude c j d s = (((s.put (CELL_SNS.EXCL c) (setBitN (s.get (CELL_SNS.EXCL c)) j)).put
      (xcauseFld c j) d).pulse 12).ring kCELL (8 + cluster c) := rfl
  rw [heq]
  refine ⟨?_, ?_, rfl, rfl, ring_keepsBits (pulse_keepsBits
    ((((KeepsBits.refl s).put _ _).put _ _).mono (by simp)) _) _ _⟩
  · rw [ring_get, pulse_get, get_EXCL_put_xcause, get_put_cut _ _ _ rfl]
    exact Nat.mod_eq_of_lt (setBitN_lt_16 _ (fldGet_lt _ _ _) j hj)
  · rw [ring_get, pulse_get, get_put_xcause c hj hd]

/-- The causes of the sensors of `l` that `p` names are cleared. -/
def causesClear (c : Nat) (p : Nat → Bool) (l : List Nat) (s : State) : State :=
  s.each l fun s j => if p j then s.put (xcauseFld c j) 0 else s

/-- Only causes change, each to 0 where it is named. -/
theorem causesClear_leaves (c : Nat) (p : Nat → Bool) (l : List Nat) (hl : ∀ j ∈ l, j < 4) (s : State) :
    (∀ j < 4, (causesClear c p l s).get (xcauseFld c j) = if j ∈ l ∧ p j then 0 else s.get (xcauseFld c j)) ∧
      (causesClear c p l s).get (CELL_SNS.EXCL c) = s.get (CELL_SNS.EXCL c) ∧
      s.Frame (causesClear c p l s) [CELL_SNS.XCAUSE c] := by
  induction l generalizing s with
  | nil => exact ⟨fun j _ => by simp [causesClear, State.each], rfl, frame_intro (KeepsBits.refl s) (by simp) rfl⟩
  | cons i l ih =>
    have hi : i < 4 := hl i (by simp)
    have hstep : causesClear c p (i :: l) s = causesClear c p l (if p i then s.put (xcauseFld c i) 0 else s) := rfl
    obtain ⟨hcause, hexcl, hframe⟩ := ih (fun j hj => hl j (List.mem_cons_of_mem _ hj))
      (if p i then s.put (xcauseFld c i) 0 else s)
    rw [hstep]
    cases hp : p i with
    | false =>
      simp only [hp, Bool.false_eq_true, if_false] at hcause hexcl hframe ⊢
      refine ⟨fun j hj => ?_, hexcl, hframe⟩
      rw [hcause j hj]
      by_cases hji : j = i
      · simp [hji, hp]
      · simp [hji]
    | true =>
      simp only [hp, if_true] at hcause hexcl hframe ⊢
      refine ⟨fun j hj => ?_, hexcl.trans (get_EXCL_put_xcause ..), (frame_put_xcause c hi 0 s).trans hframe⟩
      rw [hcause j hj]
      by_cases hji : j = i
      · simp [hji, hp, get_put_xcause c hi]
      · simp [hji, get_put_xcause_other c 0 hji]

/-- Does a write of v to CELL_SNS take back the exclusion of sensor j (R96)? -/
def takesBack (c : Nat) (v : Word) (s : State) (j : Nat) : Bool :=
  bitOf (s.get (CELL_SNS.EXCL c)) j && !bitOf (fldGet v 3 0) j

/-- The stored word of a CELL_SNS write, with the cause of each exclusion that it takes back cleared (R96). -/
def snsCleared (c : Nat) (v : Word) (s : State) : State :=
  causesClear c (takesBack c v s) (List.range 4) (storeReg (CELL_SNS c) v s)

/-- With nothing of CELL_SNS set in the present CKF cycle a write clears those causes and ends the runs of the sensors
(R96). -/
theorem snsWrite_eq {c : Nat} {v : Word} {s : State} (hfresh : s.freshBits (CELL_SNS c) = 0) :
    snsWrite c v s = snsRunsEnd c (s.get (CELL_SNS.EXCL c) ||| (snsCleared c v s).get (CELL_SNS.EXCL c))
      (snsCleared c v s) := by
  have hnone : ∀ j, bitOf (fldGet 0 3 0) j = false := fun j => by simp [fldGet, bitOf]
  unfold snsWrite snsCleared causesClear takesBack
  simp only [hfresh, hnone, Bool.false_eq_true, false_and, if_false, Bool.and_eq_true]
  rfl

/-- What a write of CELL_SNS leaves over the stored word (R96). -/
theorem snsWrite_leaves {c : Nat} {v : Word} {s u : State} (hfresh : s.freshBits (CELL_SNS c) = 0)
    (hu : storeReg (CELL_SNS c) v s = u) :
    (snsWrite c v s).get (CELL_SNS.EXCL c) = u.get (CELL_SNS.EXCL c) ∧
      (∀ j < 4, (snsWrite c v s).get (xcauseFld c j) =
        if bitOf (s.get (CELL_SNS.EXCL c)) j ∧ bitOf (fldGet v 3 0) j = false then 0 else u.get (xcauseFld c j)) ∧
      u.KeepsBits (snsWrite c v s) [CELL_SNS.XCAUSE c] ∧
      { snsWrite c v s with regs := u.regs, cell := u.cell } = u := by
  obtain ⟨hcause, hexcl, hframe⟩ :=
    causesClear_leaves c (takesBack c v s) (List.range 4) (fun _ hj => List.mem_range.mp hj) u
  rw [snsWrite_eq hfresh, snsRunsEnd, snsCleared, hu]
  simp only [setChid_get]
  refine ⟨hexcl, fun j hj => ?_, setChid_keepsBits hframe.1 _ _, ?_⟩
  · rw [hcause j hj]
    simp only [takesBack, List.mem_range, hj, true_and, Bool.and_eq_true, Bool.not_eq_true']
  · exact congrArg (fun x : State => { x with cell := u.cell }) hframe.2

/-! ### Entering a state -/

/-- An ACTIVE cell reports its state and nothing else (R97). -/
theorem putCellState_active_leaves (c : Nat) (s : State) :
    (putCellState c cACTIVE s).cellState c = cACTIVE ∧ s.Frame (putCellState c cACTIVE s) [CELL_STAT.STATE c] := by
  rw [putCellState_active]
  exact ⟨get_put_fit _ _ _ rfl, frame_put ..⟩

/-- A STANDBY or UNCOUPLED cell reports its state and no local response (R91, R97). -/
theorem putCellState_rest_leaves {st : Nat} (h : st = cSTANDBY ∨ st = cUNCOUPLED) (c : Nat) (s : State) :
    (putCellState c st s).cellState c = st ∧ s.Frame (putCellState c st s)
      [CELL_STAT.STATE c, CELL_STAT.HYS_LO c, CELL_STAT.HYS_HI c, CELL_STAT.ILIM c] := by
  rw [putCellState_rest h]
  refine ⟨?_, frame_intro (((((KeepsBits.refl s).put _ _).put _ _).put _ _).put _ _) (by simp) rfl⟩
  rcases h with rfl | rfl <;> exact get_put_fit _ _ _ rfl

/-- A TEST cell reports its state, no local response and no valid reading (R91, R97). -/
theorem putCellState_test_leaves (c : Nat) (s : State) :
    (putCellState c cTEST s).cellState c = cTEST ∧ s.Frame (putCellState c cTEST s)
      [CELL_STAT.STATE c, CELL_STAT.HYS_LO c, CELL_STAT.HYS_HI c, CELL_STAT.ILIM c, CELL_VS01.VALID0 c,
        CELL_VS01.VALID1 c, CELL_VS23.VALID2 c, CELL_VS23.VALID3 c] := by
  rw [putCellState_test, readingsEnd]
  refine ⟨get_put_fit _ _ _ rfl, frame_intro ((((((((KeepsBits.refl s).put _ _).put _ _).put _ _).put _ _).put _ _).put
    _ _).put _ _ |>.put _ _) (by simp) rfl⟩

/-- Without a pending entry a cell settles in STANDBY by reporting it (R100). -/
theorem settle_standby {c : Nat} {s : State} (hentry : (s.chid c).entry = none) :
    settle c cSTANDBY s = putCellState c cSTANDBY s := by
  have hkept : ((putCellState c cSTANDBY s).chid c).entry = none := hentry
  unfold settle
  simp only [hkept]
  rfl

/-! ### The six commands (R102) -/

/-- What is kept of a cell for the rest of the CKS cycle is no register (R104). -/
theorem undoKeep_keepsBits (c k : Nat) (s : State) : s.KeepsBits (undoKeep c k s) [] := keeps_regs_eq rfl

/-- DEMOTE above the floor takes the cell to STANDBY with OK (R102). -/
theorem cmdDemote_acts {c : Nat} {s : State} (hactive : s.cellState c = cACTIVE)
    (hfloor : s.get (RGN_FLOOR_LIVE.FLOOR (s.cellRegion c)) * s.assigned (s.cellRegion c) ≤
      100 * ((s.activeCells (s.cellRegion c)).length - 1)) (hentry : (s.chid c).entry = none) :
    cmdDemote c s = healthAround (s.cellRegion c) c
      (cellCmdDone c stOK (putCellState c cSTANDBY (undoKeep c cACTIVE s))) := by
  rw [← settle_standby ((chid_undoKeep_entry s c cACTIVE).trans hentry)]
  unfold cmdDemote
  simp only [hactive, ne_eq, not_true, if_false, if_neg (Nat.not_lt.mpr hfloor)]

/-- A cell in STANDBY after DEMOTE, and its frame. -/
theorem demoted_leaves (c : Nat) (s : State) :
    let u := cellCmdDone c stOK (putCellState c cSTANDBY (undoKeep c cACTIVE s))
    u.cellState c = 1 ∧ u.get (CELL_CMD.RES c) = stOK ∧ u.get (CELL_CMD.PEND c) = 0 ∧
      u.pst.port = s.pst.port ++ [32 * kCELL + (24 + cluster c)] ∧
      s.KeepsBits u [CELL_CMD.RES c, CELL_CMD.PEND c, CELL_STAT.STATE c, CELL_STAT.HYS_LO c, CELL_STAT.HYS_HI c,
        CELL_STAT.ILIM c] := by
  intro u
  obtain ⟨hstate, hframe⟩ := putCellState_rest_leaves (.inl rfl) c (undoKeep c cACTIVE s)
  obtain ⟨hres, hpend, hport, hkeeps⟩ :=
    cellCmdDone_leaves c (show stOK < 2 ^ 16 by decide) (putCellState c cSTANDBY (undoKeep c cACTIVE s))
  refine ⟨(cellCmdDone_get_stat c c _ _ _ rfl).trans hstate, hres, hpend, hport, ?_⟩
  exact ((undoKeep_keepsBits c cACTIVE s).mono (by simp)).trans ((hframe.1.mono (by simp)).trans (hkeeps.mono (by simp)))

/-- JOIN starts the pre-charge of a STANDBY cell of a region at work (R99, R102). -/
theorem cmdJoin_acts {c : Nat} {s : State} (hstandby : s.cellState c = cSTANDBY)
    (hlive : s.rgnState (s.cellRegion c) = rON ∨ s.rgnState (s.cellRegion c) = rLAME) (hregion : s.cellRegion c ≠ 0)
    (hsafe : s.cellSafe c = false) :
    cmdJoin c s = cmdStarted c { s.chid c with cmd := 2, pre := .join } s :=
  if_pos ⟨hstandby, hlive, hregion, by rw [hsafe]; rfl⟩

/-- RECOUPLE starts the self-check of an UNCOUPLED cell, or of a PARKED one that holds a cause (R102). -/
theorem cmdRecouple_acts {c : Nat} {s : State}
    (hstate : s.cellState c = cUNCOUPLED ∨ (s.cellState c = cPARKED ∧ s.get (CELL_STAT.CAUSE c) ≠ 0))
    (hsafe : s.cellSafe c = false) :
    cmdRecouple c s = cmdStarted c { s.chid c with cmd := 3 } s :=
  if_pos ⟨hstate, by rw [hsafe]; rfl⟩

/-- A PARKED cell enters TEST with OK (R102, R115). -/
theorem enteredTest_leaves (c : Nat) (s : State) :
    let u := cellCmdDone c stOK (putCellState c cTEST (undoKeep c cPARKED s))
    u.cellState c = 4 ∧ u.get (CELL_CMD.RES c) = stOK ∧ u.pst.port = s.pst.port ++ [32 * kCELL + (24 + cluster c)] ∧
      s.KeepsBits u [CELL_CMD.RES c, CELL_CMD.PEND c, CELL_STAT.STATE c, CELL_STAT.HYS_LO c, CELL_STAT.HYS_HI c,
        CELL_STAT.ILIM c, CELL_VS01.VALID0 c, CELL_VS01.VALID1 c, CELL_VS23.VALID2 c, CELL_VS23.VALID3 c] := by
  intro u
  obtain ⟨hstate, hframe⟩ := putCellState_test_leaves c (undoKeep c cPARKED s)
  obtain ⟨hres, -, hport, hkeeps⟩ :=
    cellCmdDone_leaves c (show stOK < 2 ^ 16 by decide) (putCellState c cTEST (undoKeep c cPARKED s))
  refine ⟨(cellCmdDone_get_stat c c _ _ _ rfl).trans hstate, hres, hport, ?_⟩
  exact ((undoKeep_keepsBits c cPARKED s).mono (by simp)).trans ((hframe.1.mono (by simp)).trans (hkeeps.mono (by simp)))

/-- Settles O17, command by command. That NOP, DEMOTE, ENTER_TEST, EXIT_TEST, UNCOUPLE and the reserved OPs end in the
step of their write is log entry 30, the operand of CELL_CURRENT_LIMIT is log entries 31 and 120, and what a failure does to
a command of its CKS cycle is log entry 117. -/
theorem cellCommandsComplete : Obligations.CellCommandsComplete := by
  refine ⟨fun c s hactive hsafe hrun => ?_, fun c uv s hactive hsafe hvw hrun => ?_,
    fun c i f s hconducts hlimit hrun => ?_, fun c i f s hbelow hrun => ?_, fun c s hoff hfull hrun => ?_,
    fun c s hoff hlow hrun => ?_, fun c s hon hzero hrun => ?_, fun c s hnone hrun => ?_,
    fun c j k d s hmeets hlength hdue hrun => ?_,
    fun req c x s hp hfresh => ?_, fun req c s hp hidle => ?_, fun req c op s hp hidle hop => ?_,
    fun req c s hp hidle hcycle hactive hfloor hentry => ?_,
    fun req c s hp hidle hcycle hstandby hlive hregion hsafe => ?_,
    fun req c s hp hidle hcycle hstate hsafe => ?_, fun req c s hp hidle hcycle hparked => ?_,
    fun req c s hp hidle hcycle htest => ?_, fun req c s hp hidle hcycle hstate => ?_,
    fun c s op hlow hhigh hidle hfail => cellCommand_failCycle hidle hlow hhigh hfail,
    fun s a ha hevt => reinAll_rd s a ha hevt⟩
  · refine completes_working rfl hrun ⟨_, congrArg reinAll (if_pos ⟨hactive, by rw [hsafe]; rfl⟩), ?_⟩
    exact blendFrame_leaves rfl rfl
  · refine completes_working rfl hrun ⟨_, congrArg reinAll (if_pos ⟨hactive, by rw [hsafe]; rfl, hvw⟩), ?_⟩
    obtain ⟨hlo, hhi, hframe⟩ := windowCompare_leaves c uv s
    obtain ⟨hbelow, habove, hinside, hlower, hupper⟩ := window_cases (Int.natCast_nonneg _) hlo hhi
    exact ⟨hbelow, habove, hinside, hlower, hupper, hframe⟩
  · exact completes_working rfl hrun ⟨_, congrArg reinAll (if_pos ⟨hconducts, hlimit⟩), limitReached_leaves c f s⟩
  · refine completes_working rfl hrun (congrArg reinAll (if_neg ?_))
    rintro ⟨hconducts, hlimit⟩
    exact hbelow.elim (by simp [hconducts]) (Int.not_lt.mpr hlimit)
  · exact completes_working rfl hrun ⟨_, rfl, foldCheck_sets hoff hfull⟩
  · exact completes_working rfl hrun (congrArg reinAll (foldCheck_waits hoff hlow))
  · refine completes_working rfl hrun ⟨(seaCatch s).put (CELL_STAT.FOLDBACK c) 0, congrArg reinAll ?_,
      get_put_fit _ _ _ rfl, frame_put ..⟩
    rw [if_pos (bit_of_get hon), foldCheck_folded (bit_of_get hon), if_pos hzero]
  · refine completes_working rfl hrun (congrArg reinAll ?_)
    dsimp only
    split
    · next hon =>
      have hnonzero : ((seaCatch s).chid c).exqf ≠ 0 := hnone.resolve_left fun hoff => by
        rw [bit_of_get_zero hoff] at hon
        cases hon
      rw [foldCheck_folded hon, if_neg hnonzero]
    · rfl
  · refine completes_working rfl hrun ⟨_, congrArg reinAll ?_, sensorExclude_leaves c j.isLt (snsDue_lt hdue) s⟩
    simp only [hmeets, hlength, decide_true, Bool.and_self, if_true, hdue]
  · refine ⟨_, congrArg Host.Outcome.next (gated_permits hp _), _, _, rfl, rfl, ?_⟩
    have hcases := snsWrite_leaves (v := BitVec.ofNat 32 x.toNat) hfresh rfl
    rwa [fldGet_low4 x.isLt] at hcases
  · obtain ⟨hres, hpend, hport, hkeeps⟩ := cellCmdDone_leaves c (show stOK < 2 ^ 16 by decide) s
    exact completes_cellCommand rfl hp (by decide) (cellCommand_nop hidle) ⟨_, rfl, hres, hpend, hport, hkeeps⟩
  · obtain ⟨hres, hpend, hport, hkeeps⟩ := cellCmdDone_leaves c (show stBADPARAM < 2 ^ 16 by decide) s
    exact completes_cellCommand rfl hp op.isLt (cellCommand_reserved hidle hop) ⟨_, rfl, hres, hpend, hport, hkeeps⟩
  · obtain ⟨hcmd, -⟩ := cellCommand_acts hidle hcycle
    exact completes_cellCommand rfl hp (by decide) (hcmd.trans (cmdDemote_acts hactive hfloor hentry))
      ⟨_, rfl, demoted_leaves c s⟩
  · obtain ⟨-, hcmd, -⟩ := cellCommand_acts hidle hcycle
    exact completes_cellCommand rfl hp (by decide) (hcmd.trans (cmdJoin_acts hstandby hlive hregion hsafe))
      ⟨_, rfl, cmdStarted_leaves c _ s⟩
  · obtain ⟨-, -, hcmd, -⟩ := cellCommand_acts hidle hcycle
    exact completes_cellCommand rfl hp (by decide) (hcmd.trans (cmdRecouple_acts hstate hsafe))
      ⟨_, rfl, cmdStarted_leaves c _ s⟩
  · obtain ⟨-, -, -, hcmd, -⟩ := cellCommand_acts hidle hcycle
    exact completes_cellCommand rfl hp (by decide) (hcmd.trans (if_pos hparked)) ⟨_, rfl, enteredTest_leaves c s⟩
  · obtain ⟨-, -, -, -, hcmd, -⟩ := cellCommand_acts hidle hcycle
    exact completes_cellCommand rfl hp (by decide) (hcmd.trans (if_pos htest)) ⟨_, rfl, rfl⟩
  · obtain ⟨-, -, -, -, -, hcmd⟩ := cellCommand_acts hidle hcycle
    exact completes_cellCommand rfl hp (by decide) (hcmd.trans (if_pos hstate))
      ⟨_, _, rfl, rfl, cellCmdDone_leaves c (show stOK < 2 ^ 16 by decide) _⟩

/-! ### The end of a pre-charge and of a self-check (R76, R99, R102) -/

/-- An UNCOUPLED cell after its self-check passed: no cause, in STANDBY, and RECOUPLE ends (R102). -/
def recoupled (c : Nat) (s : State) : State :=
  cellCmdDone c stOK (putCellState c cSTANDBY ((undoKeep c cSTANDBY s).put (CELL_STAT.CAUSE c) 0))

theorem recoupled_leaves (c : Nat) (s : State) :
    (recoupled c s).cellState c = 1 ∧ (recoupled c s).get (CELL_STAT.CAUSE c) = 0 ∧
      (recoupled c s).get (CELL_CMD.PEND c) = 0 ∧ (recoupled c s).get (CELL_CMD.RES c) = stOK ∧
      (recoupled c s).pst.port = s.pst.port ++ [32 * kCELL + (24 + cluster c)] ∧
      s.KeepsBits (recoupled c s) [CELL_STAT.CAUSE c, CELL_STAT.STATE c, CELL_STAT.HYS_LO c, CELL_STAT.HYS_HI c,
        CELL_STAT.ILIM c, CELL_CMD.PEND c, CELL_CMD.RES c] := by
  unfold recoupled
  obtain ⟨hstate, hframe⟩ := putCellState_rest_leaves (.inl rfl) c ((undoKeep c cSTANDBY s).put (CELL_STAT.CAUSE c) 0)
  obtain ⟨hres, hpend, hport, hkeeps⟩ := cellCmdDone_leaves c (show stOK < 2 ^ 16 by decide)
    (putCellState c cSTANDBY ((undoKeep c cSTANDBY s).put (CELL_STAT.CAUSE c) 0))
  refine ⟨(cellCmdDone_get_stat c c _ _ _ rfl).trans hstate, ?_, hpend, hres, hport, ?_⟩
  · rw [cellCmdDone_get_stat c c _ _ _ rfl, putCellState_standby, get_put_apart _ _ _ _ rfl, get_put_apart _ _ _ _ rfl,
      get_put_apart _ _ _ _ rfl, get_put_apart _ _ _ _ rfl, get_put_fit _ _ _ rfl]
  · exact (((undoKeep_keepsBits c cSTANDBY s).put (CELL_STAT.CAUSE c) 0).mono (by simp)).trans
      ((hframe.1.mono (by simp)).trans (hkeeps.mono (by simp)))

/-- A self-check that failed leaves the cause SELFCHECK and ends RECOUPLE with INTERNAL (R102). -/
theorem selfcheckFailed_leaves (c : Nat) (s : State) :
    let u := cellCmdDone c stINTERNAL (s.put (CELL_STAT.CAUSE c) 7)
    u.get (CELL_STAT.CAUSE c) = 7 ∧ u.get (CELL_CMD.PEND c) = 0 ∧ u.get (CELL_CMD.RES c) = stINTERNAL ∧
      s.KeepsBits u [CELL_STAT.CAUSE c, CELL_CMD.PEND c, CELL_CMD.RES c] := by
  intro u
  obtain ⟨hres, hpend, -, hkeeps⟩ :=
    cellCmdDone_leaves c (show stINTERNAL < 2 ^ 16 by decide) (s.put (CELL_STAT.CAUSE c) 7)
  refine ⟨?_, hpend, hres, ((frame_put s _ 7).1.mono (by simp)).trans (hkeeps.mono (by simp))⟩
  exact (cellCmdDone_get_stat c c _ _ _ rfl).trans (get_put_fit _ _ _ rfl)

/-! ### Tests (R116, R117) -/

/-- A running test that fails ends with DONE and FAIL (R117). -/
theorem testFail_leaves {c : Nat} {s : State} (hgo : s.get (CELL_TEST.GO c) = 1) :
    (testFail c s).get (CELL_TEST.GO c) = 0 ∧ (testFail c s).get (CELL_TEST_RES.DONE c) = 1 ∧
      (testFail c s).get (CELL_TEST_RES.FAIL c) = 1 ∧
      s.Frame (testFail c s) [CELL_TEST.GO c, CELL_TEST_RES.DONE c, CELL_TEST_RES.FAIL c] := by
  have hreg : CELL_TEST c ≠ CELL_TEST_RES c := cellReg_ne (by decide)
  rw [testFail, if_pos (bit_of_get hgo)]
  refine ⟨?_, ?_, get_put_fit _ _ _ rfl, frame_intro ((((KeepsBits.refl s).put _ _).put _ _).put _ _) (by simp) rfl⟩
  · rw [get_put_reg _ _ _ _ hreg, get_put_reg _ _ _ _ hreg, get_put_fit _ _ _ rfl]
  · rw [get_put_apart _ _ _ _ rfl, get_put_fit _ _ _ rfl]

/-- A test that completes stores its results (R116). -/
theorem testStored_leaves (c a b : Nat) (s : State) :
    let u := (((s.put (CELL_TEST.GO c) 0).put (CELL_TEST_RES.DONE c) 1).put (CELL_TEST_RES.RESA c) a).put
      (CELL_TEST_RES.RESB c) b
    u.get (CELL_TEST.GO c) = 0 ∧ u.get (CELL_TEST_RES.DONE c) = 1 ∧ u.get (CELL_TEST_RES.RESA c) = a % 4096 ∧
      u.get (CELL_TEST_RES.RESB c) = b % 65536 ∧
      s.Frame u [CELL_TEST.GO c, CELL_TEST_RES.DONE c, CELL_TEST_RES.RESA c, CELL_TEST_RES.RESB c] := by
  intro u
  have hreg : CELL_TEST c ≠ CELL_TEST_RES c := cellReg_ne (by decide)
  refine ⟨?_, ?_, ?_, get_put_cut _ _ _ rfl,
    frame_intro (((((KeepsBits.refl s).put _ _).put _ _).put _ _).put _ _) (by simp) rfl⟩
  · rw [get_put_reg _ _ _ _ hreg, get_put_reg _ _ _ _ hreg, get_put_reg _ _ _ _ hreg, get_put_fit _ _ _ rfl]
  · rw [get_put_apart _ _ _ _ rfl, get_put_apart _ _ _ _ rfl, get_put_fit _ _ _ rfl]
  · rw [get_put_apart _ _ _ _ rfl]
    exact get_put_cut _ _ _ rfl

/-- MODE = IDLE abandons the running test, whatever else the write carries (R117). -/
theorem testWrite_abandons {c : Nat} {v : Word} {s : State} (hgo : s.get (CELL_TEST.GO c) = 1)
    (hidle : fldGet v 2 0 = 0) : testWrite c v s = (testFail c s).put (CELL_TEST.MODE c) 0 := by
  rw [testWrite, if_pos (bit_of_get hgo), if_pos hidle]

/-- The test ends with FAIL, and its mode is IDLE (R117). -/
theorem testAbandoned_leaves {c : Nat} {s : State} (hgo : s.get (CELL_TEST.GO c) = 1) :
    let u := (testFail c s).put (CELL_TEST.MODE c) 0
    u.get (CELL_TEST.GO c) = 0 ∧ u.get (CELL_TEST.MODE c) = 0 ∧ u.get (CELL_TEST_RES.DONE c) = 1 ∧
      u.get (CELL_TEST_RES.FAIL c) = 1 ∧
      s.Frame u [CELL_TEST.GO c, CELL_TEST.MODE c, CELL_TEST_RES.DONE c, CELL_TEST_RES.FAIL c] := by
  intro u
  have hreg : CELL_TEST_RES c ≠ CELL_TEST c := cellReg_ne (by decide)
  obtain ⟨hclear, hdone, hfail, hkeeps, hrest⟩ := testFail_leaves hgo
  refine ⟨?_, get_put_fit _ _ _ rfl, ?_, ?_, frame_intro (hkeeps.put (CELL_TEST.MODE c) 0) (by simp) hrest⟩
  · rw [get_put_apart _ _ _ _ rfl, hclear]
  · rw [get_put_reg _ _ _ _ hreg, hdone]
  · rw [get_put_reg _ _ _ _ hreg, hfail]

/-- What a started test of a mode leaves over the stored word: GO, and its results cleared (R116). -/
def testStarted (c : Nat) (u : State) : State :=
  (((u.put (CELL_TEST.GO c) 0).put (CELL_TEST_RES.FAIL c) 0).put (CELL_TEST_RES.DONE c) 0).put (CELL_TEST.GO c) 1

theorem testStarted_leaves (c : Nat) (u : State) :
    (testStarted c u).get (CELL_TEST.GO c) = 1 ∧ (testStarted c u).get (CELL_TEST_RES.DONE c) = 0 ∧
      (testStarted c u).get (CELL_TEST_RES.FAIL c) = 0 ∧
      u.Frame (testStarted c u) [CELL_TEST.GO c, CELL_TEST_RES.DONE c, CELL_TEST_RES.FAIL c] := by
  have hreg : CELL_TEST_RES c ≠ CELL_TEST c := cellReg_ne (by decide)
  unfold testStarted
  refine ⟨get_put_fit _ _ _ rfl, ?_, ?_,
    frame_intro (((((KeepsBits.refl u).put _ _).put _ _).put _ _).put _ _) (by simp) rfl⟩
  · rw [get_put_reg _ _ _ _ hreg, get_put_fit _ _ _ rfl]
  · rw [get_put_reg _ _ _ _ hreg, get_put_apart _ _ _ _ rfl, get_put_fit _ _ _ rfl]

/-- GO with a mode starts a test in a TEST cell whose bias supply stands (R107, R116). -/
theorem testWrite_starts {c : Nat} {v : Word} {s : State} (hidle : s.get (CELL_TEST.GO c) = 0)
    (htest : s.cellState c = cTEST) (hbias : (s.chid c).biasBad = false) (hgo : fldGet v 3 3 = 1)
    (hmode : (storeReg (CELL_TEST c) v s).get (CELL_TEST.MODE c) ≠ 0) :
    testWrite c v s = testStarted c (storeReg (CELL_TEST c) v s) := by
  have hstat : CELL_STAT c ≠ CELL_TEST c := cellReg_ne (by decide)
  have hreg : CELL_TEST c ≠ CELL_TEST_RES c := cellReg_ne (by decide)
  have hstate : ((storeReg (CELL_TEST c) v s).put (CELL_TEST.GO c) 0).cellState c = cTEST := by
    rw [State.cellState, get_put_reg _ _ _ _ hstat, storeReg_get_other hstat]
    exact htest
  have hkeptMode : (((storeReg (CELL_TEST c) v s).put (CELL_TEST.GO c) 0).put (CELL_TEST_RES.FAIL c) 0).get
      (CELL_TEST.MODE c) ≠ 0 := by
    rwa [get_put_reg _ _ _ _ hreg, get_put_apart _ _ _ _ rfl]
  have hkeptBias : ((testStarted c (storeReg (CELL_TEST c) v s)).chid c).biasBad = false := by
    rw [← hbias, ← storeReg_chid (CELL_TEST c) v s c]
    rfl
  rw [testWrite, bit_of_get_zero hidle, if_neg (by decide)]
  dsimp only
  rw [if_pos ⟨hgo, hstate⟩, if_neg hkeptMode, ← testStarted, hkeptBias, if_neg (by decide)]

/-! ### Failures (R107 to R109) -/

/-- A cell that uncouples, before a spare joins and the region is evaluated: its pre-charge ends, it reports UNCOUPLED and
the cause, and the Caboose source and the doorbell of its cluster are written (R108, R109). -/
def uncoupled (c cause : Nat) (s : State) : State :=
  ((((putCellState c cUNCOUPLED s).put (CELL_STAT.CAUSE c) cause).setChid c
    { s.chid c with pre := .none }).pulse 11).ring kCELL (cluster c)

theorem uncoupled_leaves (c : Nat) {k : Nat} (hk : k < 16) (s : State) :
    (uncoupled c k s).cellState c = 3 ∧ (uncoupled c k s).get (CELL_STAT.CAUSE c) = k ∧
      (uncoupled c k s).cbse.pulses = s.cbse.pulses ++ [11] ∧
      (uncoupled c k s).pst.port = s.pst.port ++ [32 * kCELL + cluster c] ∧
      s.KeepsBits (uncoupled c k s) [CELL_STAT.STATE c, CELL_STAT.CAUSE c, CELL_STAT.HYS_LO c, CELL_STAT.HYS_HI c,
        CELL_STAT.ILIM c] := by
  obtain ⟨hstate, hkeeps, -⟩ := putCellState_rest_leaves (.inr rfl) c s
  have hget (f : Fld) : (uncoupled c k s).get f = ((putCellState c cUNCOUPLED s).put (CELL_STAT.CAUSE c) k).get f := by
    rw [uncoupled, ring_get, pulse_get, setChid_get]
  refine ⟨?_, ?_, ?_, ?_, ring_keepsBits (pulse_keepsBits (setChid_keepsBits
    ((hkeeps.put (CELL_STAT.CAUSE c) k).mono (by simp)) _ _) _) _ _⟩
  · rw [State.cellState, hget, get_put_apart _ _ _ _ rfl]
    exact hstate
  · rw [hget, get_put_cut _ _ _ rfl]
    exact Nat.mod_eq_of_lt hk
  · rw [uncoupled, ring_cbse, pulse_pulses, putCellState_uncoupled, setChid_cbse]
    rfl
  · rw [uncoupled, ring_port, pulse_pst, putCellState_uncoupled, setChid_pst]
    rfl

/-- There is no command to abandon (R104). -/
theorem cellCmdAbandon_idle {c : Nat} {s : State} (hidle : s.get (CELL_CMD.PEND c) = 0) : cellCmdAbandon c s = s := by
  rw [cellCmdAbandon, bit_of_get_zero hidle, if_neg (by decide)]

/-- With no command in progress an uncoupling cell leaves as said, then a spare joins for an ACTIVE cell (R114) and the
region is evaluated (R145). -/
theorem uncoupleCell_idle {c k : Nat} {s : State} (hidle : s.get (CELL_CMD.PEND c) = 0) :
    uncoupleCell c k s = healthCheck (s.cellRegion c)
      (if s.cellState c = cACTIVE then spareJoin (s.cellRegion c) (uncoupled c k s) else uncoupled c k s) := by
  have hcommute (h : CellHid) : (putCellState c cUNCOUPLED (s.setChid c h)).put (CELL_STAT.CAUSE c) k =
      ((putCellState c cUNCOUPLED s).put (CELL_STAT.CAUSE c) k).setChid c h := by
    rw [putCellState_uncoupled, setChid_put, setChid_put, setChid_put, setChid_put, ← putCellState_uncoupled,
      setChid_put]
  rw [uncoupleCell, cellCmdAbandon_idle hidle]
  dsimp only
  simp only [hcommute, beq_iff_eq, uncoupled]

/-- A cell in whose CKS cycle neither a failure nor a command came before (R104). -/
def State.FailsAlone (s : State) (c : Nat) : Prop :=
  s.thisCycle (s.chid c).failAt = false ∧ ∀ u, (s.chid c).undo = some u → u.cks ≠ s.cks

/-- The failure that comes first in its CKS cycle is noted with that cycle (R107). -/
def failMarked (c : Nat) (s : State) : State := s.setChid c { s.chid c with failAt := some s.cks }

/-- A command of an earlier CKS cycle stands (R104). -/
theorem undoCommand_alone {c : Nat} {s : State} (h : s.FailsAlone c) : undoCommand c s = s := by
  unfold undoCommand
  dsimp only
  split
  · next u hu => rw [if_neg (h.2 u hu)]
  · rfl

/-- No command of this CKS cycle is abandoned (R104). -/
theorem undone_alone {c : Nat} {s : State} (h : s.FailsAlone c) :
    ((s.chid c).undo.any fun u => u.cks == s.cks) = false := by
  cases hu : (s.chid c).undo with
  | none => rfl
  | some u => simpa using h.2 u hu

/-- Time that passes to the failure's edge keeps what the cell last met. -/
theorem failsAlone_adv {s : State} {e : Dword} {c : Nat}
    (hfirst : ∀ j, (s.chid c).failAt = some j → j ≠ (s.advanceTo e).cks)
    (hfree : ∀ u, (s.chid c).undo = some u → u.cks ≠ (s.advanceTo e).cks) : (s.advanceTo e).FailsAlone c := by
  rw [State.FailsAlone, chid_adv]
  refine ⟨?_, hfree⟩
  rw [State.thisCycle, beq_eq_false_iff_ne]
  exact fun h => hfirst _ h rfl

/-- A failure that the state allows finds the cell STANDBY, ACTIVE or TEST, and has a cause of R107. -/
theorem mayFail_cases {s : State} {c k : Nat} (h : s.mayFail c k = true) :
    (s.cellState c = cSTANDBY ∨ s.cellState c = cACTIVE ∨ s.cellState c = cTEST) ∧ k < 16 := by
  unfold State.mayFail at h
  simp only [Bool.and_eq_true, Bool.or_eq_true, beq_iff_eq, or_assoc] at h
  obtain ⟨hstate, hcause⟩ := h
  refine ⟨hstate, Nat.lt_of_not_le fun hk => ?_⟩
  obtain ⟨n, rfl⟩ := Nat.exists_eq_add_of_le' hk
  exact Bool.false_ne_true hcause

/-- In STANDBY or ACTIVE the cell uncouples with the cause, or with SELFCHECK during pre-charge (R107, R108). -/
theorem cellFail_uncouples {c k : Nat} {s : State} (h : s.FailsAlone c)
    (hstate : s.cellState c = cSTANDBY ∨ s.cellState c = cACTIVE) :
    cellFail c k s = uncoupleCell c (if (s.chid c).pre = .none then k else 7) (failMarked c s) := by
  have hnot : ¬ (s.cellState c = cTEST ∨ s.cellState c = cPARKED) ∧ ¬ s.cellState c = cUNCOUPLED := by
    rcases hstate with hs | hs <;> rw [hs] <;> decide
  simp only [cellFail, h.1, undoCommand_alone h, undone_alone h, Bool.false_eq_true, if_false, Bool.and_false,
    cellState_setChid, hnot, chid_setChid_same, failMarked]

/-- In TEST the cause is recorded and the test fails; a failed bias supply stands (R107, R117). -/
def failedInTest (c k : Nat) (s : State) : State :=
  let u := testFail c ((failMarked c s).put (CELL_STAT.CAUSE c) k)
  if k = 4 then u.setChid c { u.chid c with biasBad := true } else u

/-- It finds a TEST cell so when no other failure of the CKS cycle came before (R107). -/
theorem cellFail_test {c k : Nat} {s : State} (h : s.FailsAlone c) (htest : s.cellState c = cTEST) :
    cellFail c k s = failedInTest c k s := by
  simp only [cellFail, h.1, undoCommand_alone h, Bool.false_eq_true, if_false, cellState_setChid, htest, true_or, if_true,
    and_true, failMarked, failedInTest]

/-- The hidden state of the cells is no part of a test's end. -/
theorem testFail_chid (c d : Nat) (s : State) : (testFail c s).chid d = s.chid d := by
  unfold testFail
  split <;> rfl

/-- The end of a test leaves the status registers of the cells. -/
theorem testFail_get_stat (c d : Nat) (s : State) (f : Fld) (hf : f.addr = CELL_STAT d) :
    (testFail c s).get f = s.get f := by
  have htest : CELL_STAT d ≠ CELL_TEST c := cellReg_ne (by decide)
  have hres : CELL_STAT d ≠ CELL_TEST_RES c := cellReg_ne (by decide)
  unfold testFail
  split
  · rw [get_put_reg _ _ _ _ (hf ▸ hres), get_put_reg _ _ _ _ (hf ▸ hres), get_put_reg _ _ _ _ (hf ▸ htest)]
  · rfl

/-- A failed bias supply stands, whatever fails after it (log entry 119). -/
theorem failedInTest_biasBad (c k : Nat) (s : State) :
    ((failedInTest c k s).chid c).biasBad = true ↔ k = 4 ∨ (s.chid c).biasBad = true := by
  have hkept : ((testFail c ((failMarked c s).put (CELL_STAT.CAUSE c) k)).chid c).biasBad = (s.chid c).biasBad := by
    rw [testFail_chid, chid_put, failMarked, chid_setChid_same]
  unfold failedInTest
  by_cases hk : k = 4
  · simp [hk, chid_setChid_same]
  · simp [hk, hkept]

theorem failedInTest_leaves {c k : Nat} {s : State} (hgo : s.get (CELL_TEST.GO c) = 1) (hk : k < 16) :
    (failedInTest c k s).get (CELL_STAT.CAUSE c) = k ∧ (failedInTest c k s).get (CELL_TEST.GO c) = 0 ∧
      (failedInTest c k s).get (CELL_TEST_RES.DONE c) = 1 ∧ (failedInTest c k s).get (CELL_TEST_RES.FAIL c) = 1 ∧
      (((failedInTest c k s).chid c).biasBad = true ↔ k = 4 ∨ (s.chid c).biasBad = true) ∧
      s.KeepsBits (failedInTest c k s)
        [CELL_STAT.CAUSE c, CELL_TEST.GO c, CELL_TEST_RES.DONE c, CELL_TEST_RES.FAIL c] := by
  have hstat : CELL_TEST c ≠ CELL_STAT c := cellReg_ne (by decide)
  have hgo' : ((failMarked c s).put (CELL_STAT.CAUSE c) k).get (CELL_TEST.GO c) = 1 := by
    rw [get_put_reg _ _ _ _ hstat, failMarked, setChid_get, hgo]
  obtain ⟨hclear, hdone, hfail, hkeeps, -⟩ := testFail_leaves hgo'
  have hregs : (failedInTest c k s).regs = (testFail c ((failMarked c s).put (CELL_STAT.CAUSE c) k)).regs := by
    unfold failedInTest
    dsimp only
    split <;> rfl
  have hget (f : Fld) :
      (failedInTest c k s).get f = (testFail c ((failMarked c s).put (CELL_STAT.CAUSE c) k)).get f := by
    rw [State.get, State.get, rd_congr _ _ _ hregs]
  have hmarked : s.KeepsBits ((failMarked c s).put (CELL_STAT.CAUSE c) k) [CELL_STAT.CAUSE c] :=
    (keeps_regs_eq (t := failMarked c s) rfl).put _ _
  refine ⟨?_, (hget _).trans hclear, (hget _).trans hdone, (hget _).trans hfail, failedInTest_biasBad c k s,
    ((hmarked.mono (by simp)).trans (hkeeps.mono (by simp))).of_regs hregs⟩
  rw [hget, testFail_get_stat c c _ _ rfl, get_put_cut _ _ _ rfl]
  exact Nat.mod_eq_of_lt hk

/-- A failure that the state allows is detected at its edge, and the combiner follows (R107, R336). -/
theorem completes_failure {e : Dword} {c : CellIx} {k : Nat} {s : State} {post : State → Prop}
    (hrun : s.rst.inst = false) (hmay : (s.advanceTo e).mayFail c k = true)
    (hpost : post (reinAll (cellFail c k (s.advanceTo e)))) : Completes (.cellFailure e c k) s post := by
  refine completes_working rfl hrun ?_
  dsimp only
  rwa [if_pos (by rw [hmay]; rfl)]

/-- Settles O18, from what each end of a pre-charge, of a self-check and of a test leaves, and from the two outcomes of a
failure that comes alone in its CKS cycle (log entry 117). That a test which moves switches fails in the safe state is log
entry 118, and that a failed bias supply stands until EXIT_TEST is log entry 119. -/
theorem cellTestAndFailureCommandsComplete : Obligations.CellTestAndFailureCommandsComplete := by
  refine ⟨fun c s hpre hnojoin hstandby hsafe hrun => ?_, fun c s hjoin hstandby hsafe hrun => ?_,
    fun c s hpend hcmd huncoupled hsafe hentry hrun => ?_, fun c s hpend hcmd hsafe hrun => ?_,
    fun e c k s hmay htest hfirst hfree hrun => ?_, fun e c k s hmay htest hgo hfirst hfree hrun => ?_,
    fun c k s hidle => ⟨_, uncoupleCell_idle hidle, uncoupled_leaves c k.isLt s⟩,
    fun req c v s hp hidle htest hbias hgo hmode => ?_, fun req c v s hp hgo hidle => ?_,
    fun c r a b s hgo hresult hmoves hrun => ?_, fun c r s hgo hnone hrun => ?_⟩
  · refine completes_working rfl hrun ⟨putCellState c cACTIVE (s.setChid c { s.chid c with pre := .none }),
      congrArg reinAll ?_, putCellState_active_leaves ..⟩
    dsimp only
    rw [if_pos ⟨hpre, hstandby, by rw [hsafe]; rfl⟩, if_neg hnojoin, if_neg hnojoin]
  · refine completes_working rfl hrun ⟨putCellState c cACTIVE
      ((undoKeep c cACTIVE s).setChid c { (undoKeep c cACTIVE s).chid c with pre := .none }),
      congrArg reinAll ?_, putCellState_active_leaves ..⟩
    dsimp only
    rw [if_pos ⟨by rw [hjoin]; decide, hstandby, by rw [hsafe]; rfl⟩, if_pos hjoin, if_pos hjoin]
  · refine completes_working rfl hrun ⟨recoupled c s, congrArg reinAll ?_, recoupled_leaves c s⟩
    have hstate : ((undoKeep c cSTANDBY s).put (CELL_STAT.CAUSE c) 0).cellState c = cUNCOUPLED := by
      rw [State.cellState, get_put_apart _ _ _ _ rfl]
      exact huncoupled
    have hentry' : (((undoKeep c cSTANDBY s).put (CELL_STAT.CAUSE c) 0).chid c).entry = none :=
      (chid_undoKeep_entry s c cSTANDBY).trans hentry
    dsimp only
    rw [if_pos ⟨bit_of_get hpend, hcmd, by rw [hsafe]; rfl⟩, if_pos rfl, if_pos hstate, settle_standby hentry',
      recoupled]
  · refine completes_working rfl hrun ⟨_, congrArg reinAll ?_, selfcheckFailed_leaves c s⟩
    dsimp only
    rw [if_pos ⟨bit_of_get hpend, hcmd, by rw [hsafe]; rfl⟩, if_neg (by decide)]
  · have halone : (s.advanceTo e).FailsAlone c := failsAlone_adv hfirst hfree
    have hkept : (s.advanceTo e).cellState c = s.cellState c := State.advanceTo_get ..
    obtain ⟨hstate, -⟩ := mayFail_cases hmay
    have hstate' : (s.advanceTo e).cellState c = cSTANDBY ∨ (s.advanceTo e).cellState c = cACTIVE :=
      hstate.imp_right fun h => h.resolve_right fun h4 => htest (hkept ▸ h4)
    refine completes_failure hrun hmay (congrArg reinAll ?_)
    rw [cellFail_uncouples halone hstate', failMarked, chid_adv]
  · have halone : (s.advanceTo e).FailsAlone c := failsAlone_adv hfirst hfree
    have htest' : (s.advanceTo e).cellState c = cTEST := (State.advanceTo_get ..).trans htest
    obtain ⟨hcause, hclear, hdone, hfail, hbias, hkeeps⟩ :=
      failedInTest_leaves ((s.advanceTo_get e _).trans hgo) (mayFail_cases hmay).2
    rw [chid_adv] at hbias
    exact completes_failure hrun hmay
      ⟨_, congrArg reinAll (cellFail_test halone htest'), hcause, hclear, hdone, hfail, hbias, hkeeps⟩
  · exact ⟨_, congrArg Host.Outcome.next ((gated_permits hp _).trans (testWrite_starts hidle htest hbias hgo hmode)),
      testStarted_leaves ..⟩
  · exact ⟨_, congrArg Host.Outcome.next ((gated_permits hp _).trans (testWrite_abandons hgo hidle)),
      testAbandoned_leaves hgo⟩
  · refine completes_working rfl hrun ⟨_, congrArg reinAll ?_, testStored_leaves c a b s⟩
    have hcan : ¬ (s.cellSafe c = true ∧ s.get (CELL_TEST.MODE c) ≠ 4) := by
      rintro ⟨hsafe, hmode⟩
      exact hmoves.elim (by simp [hsafe]) hmode
    simp only [cellTestDone, bit_of_get hgo, if_true, hresult, if_neg hcan]
  · refine completes_working rfl hrun ⟨testFail c s, congrArg reinAll ?_, testFail_leaves hgo⟩
    rw [cellTestDone, if_pos (bit_of_get hgo)]
    split
    · next a b hresult =>
      rw [if_pos (hnone.resolve_left (by simp [hresult]))]
    · rfl

end Sys2Proof.Machine

/-! PROOFS of the family spec/04_regions.md. What the commit, the revert and the set-point write of the
regions' configuration leave, and the commands, the faults and the recorded minimum of a region, with the frame of each. -/

namespace Sys2Proof.Machine

open State

/-! ### What depends on the registers alone -/

/-- The registers of s, with everything beside them as reset leaves it. -/
def State.windowOnly (s : State) : State := { State.reset with regs := s.regs }

/-- A view of the registers alone is the same over equal registers. -/
theorem view_of_regs {α : Type} (view : State → α) (hview : ∀ s, view s = view s.windowOnly) {s t : State}
    (h : t.regs = s.regs) : view t = view s :=
  calc view t = view t.windowOnly := hview t
    _ = view s.windowOnly := by rw [State.windowOnly, State.windowOnly, h]
    _ = view s := (hview s).symm

theorem rgnState_of_regs {s t : State} (h : t.regs = s.regs) (n : Nat) : t.rgnState n = s.rgnState n :=
  view_of_regs (State.rgnState · n) (fun _ => rfl) h

theorem assigned_of_regs {s t : State} (h : t.regs = s.regs) (n : Nat) : t.assigned n = s.assigned n :=
  view_of_regs (State.assigned · n) (fun _ => rfl) h

theorem healthy_of_regs {s t : State} (h : t.regs = s.regs) (n : Nat) : t.healthy n = s.healthy n :=
  view_of_regs (State.healthy · n) (fun _ => rfl) h

theorem activeCells_of_regs {s t : State} (h : t.regs = s.regs) (n : Nat) : t.activeCells n = s.activeCells n :=
  view_of_regs (State.activeCells · n) (fun _ => rfl) h

theorem treeCount_of_regs {s t : State} (h : t.regs = s.regs) (n : Nat) : t.treeCount n = s.treeCount n :=
  view_of_regs (State.treeCount · n) (fun _ => rfl) h

theorem enableStatus_of_regs {s t : State} (h : t.regs = s.regs) (n : Nat) : t.enableStatus n = s.enableStatus n :=
  view_of_regs (State.enableStatus · n) (fun _ => rfl) h

/-! ### Addresses, and how a command or an event of a region runs -/

/-- Registers at different places in the blocks of their regions are different registers (R121). -/
theorem regionReg_ne {o o' m n : Nat} (h : o % 0x100 ≠ o' % 0x100) : o + 0x100 * m ≠ o' + 0x100 * n := by omega

/-- A command to a region other than region 0 acts (R119, R158). -/
theorem onRegion_acts {n : RegionIx} (hn : n.val ≠ 0) (f : State → State) (s : State) : onRegion n f s = .next (f s) :=
  congrArg _ (if_neg hn)

/-- Out of instance reset an event of a region acts, and the combiner follows (R336). -/
theorem completes_regionEvent {i : Instr} {n : RegionIx} {s : State} {k : State → State} {post : State → Prop}
    (hexec : exec i s = onRegion n (fun s => s.working k) s) (hn : n.val ≠ 0) (hrun : s.rst.inst = false)
    (hpost : post (reinAll (k s))) : Completes i s post :=
  completes_working (hexec.trans (onRegion_acts hn _ s)) hrun hpost

/-- A permitted RGN_CMD write runs the region command of its OP, and the combiner follows (R133). -/
theorem completes_regionCommand {i : Instr} {req : Requester} {n : RegionIx} {op : Nat} {s u : State}
    {post : State → Prop} (hexec : exec i s = onRegion n (rgnCmdWrite req n op) s) (hn : n.val ≠ 0)
    (hp : s.Permits req (RGN_CMD n) (BitVec.ofNat 32 op)) (hop : op < 16) (hcmd : rgnCommand n op s = u)
    (hpost : post (reinAll u)) : Completes i s post := by
  refine ⟨reinAll u, hexec.trans ((onRegion_acts hn _ s).trans (congrArg _ ?_)), hpost⟩
  rw [rgnCmdWrite, gated_permits hp, fldGet_low4 hop, hcmd]

/-! ### The commit (R123 to R127) -/

/-- The bit of COMMIT stands in a word written with it. -/
theorem fldGet_or_one (v : Word) : fldGet (v ||| 1) 0 0 = 1 := by
  rw [fldGet_bit]
  simp

/-- A commit starts: it is validated while COMMIT and BUSY stand, with RES = BUSY (R123). -/
def commitStarted (s : State) : State :=
  { ((s.put RGN_CFG_CTRL.COMMIT 1).put RGN_CFG_STAT.BUSY 1).put RGN_CFG_STAT.RES stBUSY with cfg := .validating }

/-- A write with COMMIT = 1 starts a commit when none runs (R123). -/
theorem cfgCtrlWrite_commit {v : Word} {s : State} (hv : fldGet v 0 0 = 1) (hidle : s.get RGN_CFG_STAT.BUSY = 0) :
    cfgCtrlWrite v s = commitStarted s := by
  simp [cfgCtrlWrite, hv, bit_of_get_zero hidle, commitStarted]

/-- While one runs it only marks that it came (R127). -/
theorem cfgCtrlWrite_during {v : Word} {s : State} (hv : fldGet v 0 0 = 1) (hbusy : s.get RGN_CFG_STAT.BUSY = 1) :
    cfgCtrlWrite v s = s.put RGN_CFG_STAT.WR_DURING 1 := by
  simp [cfgCtrlWrite, hv, bit_of_get hbusy]

/-- A write of REVERT alone starts a revert when nothing runs (R128). -/
theorem cfgCtrlWrite_revert {v : Word} {s : State} (hcommit : fldGet v 0 0 = 0) (hrevert : fldGet v 1 1 = 1)
    (hidle : s.get RGN_CFG_STAT.BUSY = 0) :
    cfgCtrlWrite v s = { s.put RGN_CFG_STAT.BUSY 1 with cfg := .reverting } := by
  simp [cfgCtrlWrite, hcommit, hrevert, bit_of_get_zero hidle]

/-- What the start of a commit leaves. -/
theorem commitStarted_leaves (s : State) :
    (commitStarted s).get RGN_CFG_CTRL.COMMIT = 1 ∧ (commitStarted s).get RGN_CFG_STAT.BUSY = 1 ∧
      (commitStarted s).get RGN_CFG_STAT.RES = stBUSY ∧
      State.Frame { s with cfg := .validating } (commitStarted s)
        [RGN_CFG_CTRL.COMMIT, RGN_CFG_STAT.BUSY, RGN_CFG_STAT.RES] := by
  unfold commitStarted
  simp only [get_with_cfg]
  refine ⟨?_, ?_, get_put_fit _ _ _ rfl, frame_intro (fs := [RGN_CFG_STAT.RES, RGN_CFG_STAT.BUSY, RGN_CFG_CTRL.COMMIT])
    ?_ (by simp) rfl⟩
  · rw [get_put_reg _ _ _ _ (by decide), get_put_reg _ _ _ _ (by decide), get_put_fit _ _ _ rfl]
  · rw [get_put_apart _ _ _ _ rfl, get_put_fit _ _ _ rfl]
  · exact (((KeepsBits.refl s).put _ _).put _ _).put _ _

/-- The five fields that the end of a commit writes (R124 to R126). -/
def commitEndFields : List Fld :=
  [RGN_CFG_CTRL.COMMIT, RGN_CFG_STAT.BUSY, RGN_CFG_STAT.RES, RGN_CFG_STAT.ERR_CAUSE, RGN_CFG_STAT.ERR_RGN]

/-- What the end of a commit leaves: its status, cause and region, nothing running, and RGN offset 3 rung (R124 to R126,
R156). -/
theorem commitEnd_leaves {res cause n : Nat} (hres : res < 2 ^ 16) (hcause : cause < 16) (hn : n < 256) (s : State) :
    (commitEnd res cause n s).get RGN_CFG_CTRL.COMMIT = 0 ∧ (commitEnd res cause n s).get RGN_CFG_STAT.BUSY = 0 ∧
      (commitEnd res cause n s).get RGN_CFG_STAT.RES = res ∧
      (commitEnd res cause n s).get RGN_CFG_STAT.ERR_CAUSE = cause ∧
      (commitEnd res cause n s).get RGN_CFG_STAT.ERR_RGN = n ∧ (commitEnd res cause n s).cfg = .idle ∧
      (commitEnd res cause n s).pst.port = s.pst.port ++ [32 * kRGN + 3] ∧
      s.KeepsBits (commitEnd res cause n s) commitEndFields := by
  unfold commitEnd
  simp only [ring_get]
  refine ⟨?_, ?_, ?_, ?_, ?_, rfl, rfl, ring_keepsBits (KeepsBits.mono
    ((((((keeps_regs_eq (t := { s with cfg := _ }) rfl).put _ _).put _ _).put _ _).put _ _).put _ _)
      (by simp [commitEndFields])) _ _⟩
  · rw [get_put_reg _ _ _ _ (by decide), get_put_reg _ _ _ _ (by decide), get_put_reg _ _ _ _ (by decide),
      get_put_reg _ _ _ _ (by decide), get_put_fit _ _ _ rfl]
  · rw [get_put_apart _ _ _ _ rfl, get_put_apart _ _ _ _ rfl, get_put_apart _ _ _ _ rfl, get_put_fit _ _ _ rfl]
  · rw [get_put_apart _ _ _ _ rfl, get_put_apart _ _ _ _ rfl, get_put_cut _ _ _ rfl]
    exact Nat.mod_eq_of_lt hres
  · rw [get_put_apart _ _ _ _ rfl, get_put_cut _ _ _ rfl]
    exact Nat.mod_eq_of_lt hcause
  · rw [get_put_cut _ _ _ rfl]
    exact Nat.mod_eq_of_lt hn

/-! ### The revert (R128) -/

/-- A loop that copies words apart from all it writes leaves each target with the source's word. -/
theorem each_copy {ι : Type} (src dst : ι → Nat) (l : List ι) (hapart : ∀ x ∈ l, ∀ y ∈ l, src x ≠ dst y)
    (hinj : ∀ x ∈ l, ∀ y ∈ l, dst x = dst y → x = y) (s : State) :
    ∀ x ∈ l, (s.each l fun s x => s.wr (dst x) (s.rd (src x))).rd (dst x) = s.rd (src x) := by
  induction l generalizing s with
  | nil => simp
  | cons y l ih =>
    have ih' := ih (fun x hx z hz => hapart x (List.mem_cons_of_mem _ hx) z (List.mem_cons_of_mem _ hz))
      (fun x hx z hz => hinj x (List.mem_cons_of_mem _ hx) z (List.mem_cons_of_mem _ hz))
      (s.wr (dst y) (s.rd (src y)))
    intro x hx
    by_cases hxl : x ∈ l
    · exact (ih' x hxl).trans (rd_wr_other _ _ _ _ (hapart x hx y (by simp)))
    · obtain rfl : x = y := (List.mem_cons.mp hx).resolve_right hxl
      refine List.foldlRecOn l _ (motive := fun t : State => t.rd (dst x) = s.rd (src x)) (rd_wr_same _ _ _)
        fun t ht z hz => ?_
      have hne : dst x ≠ dst z := fun h => hxl (hinj x hx z (List.mem_cons_of_mem _ hz) h ▸ hz)
      rw [rd_wr_other _ _ _ _ hne, ht]

/-- The shadowed words of the regions of a list, by region and offset. -/
def shadowWords (l : List Nat) : List (Nat × Nat) := l.flatMap fun n => shadowOffsets.map (Prod.mk n)

/-- The shadowed words stand in one quarter of a region's block, and their live copies in the next (R121). -/
theorem shadowOffsets_range : ∀ o ∈ shadowOffsets, 0x20 ≤ o ∧ o < 0x40 := by decide

theorem mem_shadowWords {l : List Nat} {p : Nat × Nat} : p ∈ shadowWords l ↔ p.1 ∈ l ∧ p.2 ∈ shadowOffsets := by
  obtain ⟨n, o⟩ := p
  simp [shadowWords]

/-- The regions' part of a revert copies word by word (R128). -/
def regionsRevert (l : List Nat) (s : State) : State :=
  s.each (shadowWords l) fun s p => s.wr (rgnWord p.1 p.2) (s.rd (rgnWord p.1 (p.2 + 0x40)))

/-- The cells' part follows: an entry held by an ACTIVE or TEST cell, or else the live one (R100, R128). -/
theorem revertApply_eq (s : State) :
    revertApply s = (regionsRevert s.cfgRegions s).each (regionsRevert s.cfgRegions s).cfgCells fun s c =>
      s.wrN (CELL_MAP c) ((s.chid c).entry.getD (s.num (CELL_MAP_LIVE c))) := by
  have hregions : regionsRevert s.cfgRegions s = s.each s.cfgRegions fun s n =>
      s.each shadowOffsets fun s o => s.wr (rgnWord n o) (s.rd (rgnWord n (o + 0x40))) := by
    simp only [regionsRevert, shadowWords, State.each, List.foldl_flatMap, List.foldl_map]
  rw [revertApply, ← hregions]

/-- Every shadowed word of the regions of the list then reads as its live copy did (R128). -/
theorem regionsRevert_shadow {l : List Nat} {n o : Nat} (hn : n ∈ l) (ho : o ∈ shadowOffsets) (s : State) :
    (regionsRevert l s).rd (rgnWord n o) = s.rd (rgnWord n (o + 0x40)) := by
  refine each_copy (fun p : Nat × Nat => rgnWord p.1 (p.2 + 0x40)) (fun p => rgnWord p.1 p.2) (shadowWords l)
    (fun p hp q hq => ?_) (fun p hp q hq h => ?_) s (n, o) (mem_shadowWords.mpr ⟨hn, ho⟩)
  all_goals
    have hp' := shadowOffsets_range _ (mem_shadowWords.mp hp).2
    have hq' := shadowOffsets_range _ (mem_shadowWords.mp hq).2
  · simp only [rgnWord]
    omega
  · simp only [rgnWord] at h
    exact Prod.ext (by omega) (by omega)

/-- The cells' part of a revert stands above the regions' blocks. -/
theorem revertApply_rd_region {n : Nat} (hn : n < 256) {o : Nat} (ho : o < 0x100) (s : State) :
    (revertApply s).rd (rgnWord n o) = (regionsRevert s.cfgRegions s).rd (rgnWord n o) := by
  rw [revertApply_eq]
  refine each_rd _ _ _ _ fun t c => rd_wr_other _ _ _ _ ?_
  simp only [rgnWord, CELL_MAP]
  omega

/-- A revert that has copied every word z of the configuration ends (R128). -/
def revertEnded (z : State) : State := { z.put RGN_CFG_STAT.BUSY 0 with cfg := .idle }

/-- What the end of a revert leaves. -/
theorem revertEnded_leaves (z : State) :
    (revertEnded z).cfg = .idle ∧ (revertEnded z).get RGN_CFG_STAT.BUSY = 0 ∧
      z.KeepsBits (revertEnded z) [RGN_CFG_STAT.BUSY] :=
  ⟨rfl, get_put_fit z RGN_CFG_STAT.BUSY 0 rfl, (frame_put z RGN_CFG_STAT.BUSY 0).1⟩

theorem revertEnded_rd_other {a : Nat} (h : a ≠ RGN_CFG_STAT) (z : State) : (revertEnded z).rd a = z.rd a :=
  rd_put_other z RGN_CFG_STAT.BUSY a 0 h

/-- The shadow words then read as the live ones did: what follows the copy of the regions writes none of them (R128). -/
theorem revertEnded_rd_shadow {n o : Nat} {s : State} (hn : n ∈ s.cfgRegions) (hlt : n < 256) (ho : o ∈ shadowOffsets) :
    (revertEnded (revertApply s)).rd (rgnWord n o) = s.rd (rgnWord n (o + 0x40)) := by
  obtain ⟨hfrom, hto⟩ := shadowOffsets_range o ho
  have hstat : rgnWord n o ≠ RGN_CFG_STAT := by
    simp only [rgnWord, RGN_CFG_STAT]
    omega
  calc (revertEnded (revertApply s)).rd (rgnWord n o)
      = (revertApply s).rd (rgnWord n o) := revertEnded_rd_other hstat _
    _ = (regionsRevert s.cfgRegions s).rd (rgnWord n o) := revertApply_rd_region hlt (by omega) s
    _ = s.rd (rgnWord n (o + 0x40)) := regionsRevert_shadow hn ho s

/-- The machine's revert ends so (R128). -/
theorem exec_cfgRevertDone {s : State} (hcfg : s.cfg = .reverting) (hrun : s.rst.inst = false) :
    exec .cfgRevertDone s = .next (revertEnded (revertApply s)) :=
  congrArg Host.Outcome.next ((running_of hrun _).trans (if_pos hcfg))

/-! ### The set-point (R129) -/

/-- A set-point that no profile shapes is stored (R129). -/
theorem vsetWrite_plain {n : Nat} {v : Word} {s : State} (h : (storeReg (RGN_VSET n) v s).profiled n = false) :
    vsetWrite n v s = storeReg (RGN_VSET n) v s := by
  simp [vsetWrite, h]

/-- One that a profile shapes becomes the target of its generator too (R129). -/
theorem vsetWrite_profiled {n : Nat} {v : Word} {s u : State} (hu : u = storeReg (RGN_VSET n) v s)
    (h : u.profiled n = true) :
    vsetWrite n v s = pgTarget (u.get (RGN_PROF_LIVE.PG n)) (u.get (RGN_VSET.CODE n) : Nat) u := by
  subst hu
  simp [vsetWrite, h]

/-- Settles O19: each command from what its one operation leaves; the shadow words of a revert are a copy between words
that stand apart. -/
theorem configurationCommandsComplete : Obligations.ConfigurationCommandsComplete := by
  refine ⟨fun req v s hp hidle => ?_, fun req v s hp hbusy => ?_, fun req s hp hidle => ?_,
    fun s hcfg hpass hrun => ?_, fun k n s hcfg hcheck hk hk16 hn hrun => ?_, fun e s hcfg hfree hrun => ?_,
    fun e n s hcfg hheld hn hrun => ?_, fun s hcfg hrun => ?_, fun s hcfg hrun => ?_,
    fun req n v s hn hp hplain => ?_, fun req n v s hn hp hprofiled => ?_⟩
  · exact ⟨_, congrArg Host.Outcome.next ((gated_permits hp _).trans (cfgCtrlWrite_commit (fldGet_or_one v) hidle)),
      commitStarted_leaves s⟩
  · exact ⟨_, congrArg Host.Outcome.next ((gated_permits hp _).trans (cfgCtrlWrite_during (fldGet_or_one v) hbusy)),
      get_put_fit _ _ _ rfl, frame_put ..⟩
  · exact ⟨_, congrArg Host.Outcome.next ((gated_permits hp _).trans
      (cfgCtrlWrite_revert (by decide) (by decide) hidle)),
      get_put_fit s RGN_CFG_STAT.BUSY 1 rfl, (frame_put s RGN_CFG_STAT.BUSY 1).1, rfl⟩
  · refine ⟨_, congrArg Host.Outcome.next ((running_of hrun _).trans ?_), rfl⟩
    simp only [hcfg, if_true, hpass]
  · refine ⟨_, congrArg Host.Outcome.next ((running_of hrun _).trans ?_),
      commitEnd_leaves (by decide : stBADPARAM < 2 ^ 16) hk16 hn s⟩
    simp only [hcfg, if_true, hcheck, if_neg hk]
  · obtain ⟨hcommit, hbusy, hres, -, -, hidle, hport, hkeeps⟩ :=
      commitEnd_leaves (by decide : stOK < 2 ^ 16) (by decide : 0 < 16) (by decide : 0 < 256)
        (commitApply (s.advanceTo e))
    refine completes_working rfl hrun ⟨_, _, rfl, congrArg reinAll ?_, hcommit, hbusy, hres, hidle, hport, hkeeps⟩
    exact if_pos ⟨hcfg, by rw [hfree]; rfl⟩
  · obtain ⟨hcommit, hbusy, hres, hcause, hrgn, hidle, hport, hkeeps⟩ :=
      commitEnd_leaves (by decide : stBUSY < 2 ^ 16) (by decide : 7 < 16) hn (s.advanceTo e)
    refine ⟨_, congrArg Host.Outcome.next ((running_of hrun _).trans ?_), hcommit, hbusy, hres, hcause, hrgn, hidle,
      hport.trans (by rw [advanceTo_pst]), ((adv_keeps s e).mono (by simp)).trans hkeeps⟩
    simp only [hcfg, if_true, hheld]
  · exact ⟨_, exec_cfgRevertDone hcfg hrun, revertEnded_leaves _⟩
  · exact ⟨_, exec_cfgRevertDone hcfg hrun, fun n hn _ hlt o ho => revertEnded_rd_shadow hn hlt ho⟩
  · exact ⟨_, (onRegion_acts hn _ s).trans
      (congrArg Host.Outcome.next ((gated_permits hp _).trans (vsetWrite_plain hplain))), rfl⟩
  · exact ⟨_, (onRegion_acts hn _ s).trans
      (congrArg Host.Outcome.next ((gated_permits hp _).trans (vsetWrite_profiled rfl hprofiled))), _, rfl, rfl⟩

/-! ### The end of a region command (R134, R156) -/

/-- A bit of a number, as the library tests it. -/
theorem bitOf_eq_testBit (n b : Nat) : bitOf n b = n.testBit b := by
  rw [bitOf, Nat.testBit_eq_decide_div_mod_eq]
  rfl

/-- A bit that is set reads 1. -/
theorem testBit_setBitN (n b : Nat) : (setBitN n b).testBit b = true := by
  unfold setBitN
  split
  · next h => rwa [← bitOf_eq_testBit]
  · next h =>
    rw [bitOf_eq_testBit] at h
    rw [Nat.add_comm, Nat.testBit_two_pow_add_eq]
    simp [h]

/-- The word of RGN_EVT_CMD that holds the bit of region n (R156). -/
theorem evtCmd_word (n : Nat) : RGN_EVT_CMD 0 + 4 * (n / 32) = RGN_EVT_CMD (n / 32) := by simp [RGN_EVT_CMD]

/-- An event of a command sets the region's bit and writes no other word (R156). -/
theorem setCmdBit_leaves (n : Nat) (s : State) :
    bitOf ((setRegionBit (RGN_EVT_CMD 0) n s).num (RGN_EVT_CMD (n / 32))) (n % 32) = true ∧
      (∀ f : Fld, f.addr ≠ RGN_EVT_CMD (n / 32) → (setRegionBit (RGN_EVT_CMD 0) n s).get f = s.get f) ∧
      s.KeepsBits (setRegionBit (RGN_EVT_CMD 0) n s) [RGN_EVT_CMD.EVT (n / 32)] := by
  unfold setRegionBit
  rw [evtCmd_word, State.wrN]
  refine ⟨?_, fun f hf => get_wr_other _ _ _ _ hf, (KeepsBits.refl s).wr _ _⟩
  have hbit : n % 32 < 32 := Nat.mod_lt _ (by decide)
  rw [State.num, rd_wr_same, bitOf_eq_testBit, BitVec.toNat_ofNat, Nat.testBit_mod_two_pow, testBit_setBitN]
  simp [hbit]

/-- What the end of a region command leaves: its status, PEND 0, the region's event and RGN offset 2 rung (R134,
R156). -/
theorem rgnCmdDone_leaves (n : Nat) {r : Nat} (hr : r < 2 ^ 16) (s : State) :
    (rgnCmdDone n (r, s)).get (RGN_CMD.RES n) = r ∧ (rgnCmdDone n (r, s)).get (RGN_CMD.PEND n) = 0 ∧
      (rgnCmdDone n (r, s)).pst.port = s.pst.port ++ [32 * kRGN + 2] ∧
      bitOf ((rgnCmdDone n (r, s)).num (RGN_EVT_CMD (n / 32))) (n % 32) = true ∧
      s.KeepsBits (rgnCmdDone n (r, s)) [RGN_CMD.PEND n, RGN_CMD.RES n, RGN_EVT_CMD.EVT (n / 32)] := by
  have hword : RGN_CMD n ≠ RGN_EVT_CMD (n / 32) := by
    simp only [RGN_CMD, RGN_EVT_CMD]
    omega
  obtain ⟨hbit, hother, hkeeps⟩ := setCmdBit_leaves n ((s.put (RGN_CMD.PEND n) 0).put (RGN_CMD.RES n) r)
  rw [rgnCmdDone, ring_get, ring_get, State.num, ring_rd]
  refine ⟨?_, ?_, rfl, hbit, ring_keepsBits (((((KeepsBits.refl s).put _ _).put _ _).mono (by simp)).trans
    (hkeeps.mono (by simp))) _ _⟩
  · rw [hother _ hword, get_put_cut _ _ _ rfl]
    exact Nat.mod_eq_of_lt hr
  · rw [hother _ hword, get_put_apart _ _ _ _ rfl, get_put_fit _ _ _ rfl]

/-! ### What an ENABLE may meet (R133, R474) -/

/-- An OFF region is enabled with the front stage in RUN, the cell island good and enough healthy cells (R133). -/
theorem enableStatus_ready {n : Nat} {s : State} (hcommitted : s.get VL_STAT.CFG_COMMITTED = 1)
    (hcool : s.get THM_STAT.STATE = 0) (hoff : s.rgnState n = rOFF) (hfront : s.get XPH_STAT.STATE = 2)
    (hgood : s.get TIM_STAT.CELL_GOOD = 1) (hcells : s.assigned n ≠ 0) (hhealthy : s.assigned n ≤ 2 * s.healthy n) :
    s.enableStatus n = stOK := by
  simp [State.enableStatus, bit_of_get hcommitted, hcool, hoff, hfront, bit_of_get hgood, hcells,
    Nat.not_lt.mpr hhealthy]

/-- A DRAINING region's enable waits for its end (R133, R136). -/
theorem enableStatus_draining {n : Nat} {s : State} (hcommitted : s.get VL_STAT.CFG_COMMITTED = 1)
    (hcool : s.get THM_STAT.STATE = 0) (hdraining : s.rgnState n = rDRAINING) : s.enableStatus n = stDEFERRED := by
  have hoff : ¬ rDRAINING = rOFF := by decide
  simp [State.enableStatus, bit_of_get hcommitted, hcool, hdraining, hoff]

/-- The enable of a DRAINING region is kept in ENABLE_PENDING (R133, R136). -/
theorem doEnable_deferred {n : Nat} {s : State} (h : s.enableStatus n = stDEFERRED) :
    doEnable n s = (stDEFERRED, s.put (RGN_STAT.ENABLE_PENDING n) 1) := by
  simp [doEnable, h]

/-- The enable of an OFF region starts its ramp (R133). -/
theorem doEnable_starts {n : Nat} {s : State} (h : s.enableStatus n = stOK) (hoff : s.rgnState n = rOFF) :
    doEnable n s = (stOK, startRamp n s) := by
  have hnow : ¬ stOK = stDEFERRED := by decide
  simp [doEnable, h, hoff, hnow]

/-! ### A write of RGN_CMD (R132 to R135) -/

/-- A command of region n takes effect in the present CKS cycle (R135). -/
def cmdNoted (n : Nat) (s : State) : State := s.setRhid n { s.rhid n with cmdAt := some s.cks }

/-- Which commands move the state of their region, and so wait for its loop tick (R132). -/
theorem rgnMoves_enable {n : Nat} {s : State} (hcommitted : s.get VL_STAT.CFG_COMMITTED = 1)
    (hoff : s.rgnState n = rOFF) (hok : s.enableStatus n = stOK) : s.rgnMoves n 1 = true := by
  simp [State.rgnMoves, bit_of_get hcommitted, hoff, hok]

theorem rgnMoves_enable_draining {n : Nat} {s : State} (hdraining : s.rgnState n = rDRAINING) :
    s.rgnMoves n 1 = false := by
  have hoff : ¬ rDRAINING = rOFF := by decide
  simp [State.rgnMoves, hdraining, hoff]

theorem rgnMoves_disable {n : Nat} {s : State} (hcommitted : s.get VL_STAT.CFG_COMMITTED = 1)
    (hwork : s.rgnState n = rRAMPING ∨ s.rgnState n = rON ∨ s.rgnState n = rLAME) : s.rgnMoves n 2 = true := by
  simp [State.rgnMoves, bit_of_get hcommitted, or_assoc, hwork]

theorem rgnMoves_clearFault {n : Nat} {s : State} (hcommitted : s.get VL_STAT.CFG_COMMITTED = 1)
    (hfaulted : s.rgnState n = rFAULTED) : s.rgnMoves n 3 = true := by
  simp [State.rgnMoves, bit_of_get hcommitted, hfaulted]

theorem rgnMoves_nop (n : Nat) (s : State) : s.rgnMoves n 0 = false := by simp [State.rgnMoves]

theorem rgnMoves_reserved {n op : Nat} (hop : 4 ≤ op) (s : State) : s.rgnMoves n op = false := by
  have hnone : op ≠ 1 ∧ op ≠ 2 ∧ op ≠ 3 := by omega
  simp [State.rgnMoves, hnone]

/-- While a command is in progress a write is ignored (R134). -/
theorem rgnCommand_ignored {n : Nat} (op : Nat) {s : State} (hbusy : s.get (RGN_CMD.PEND n) = 1) :
    rgnCommand n op s = s := if_pos (bit_of_get hbusy)

/-- In the CKS cycle of a fault the three commands end NOT_READY (R135). -/
theorem rgnCommand_faultCycle {n op : Nat} {s : State} (hidle : s.get (RGN_CMD.PEND n) = 0) (hlow : 1 ≤ op)
    (hhigh : op ≤ 3) (hfaulted : s.rgnState n = rFAULTED) (hcycle : s.thisCycle (s.rhid n).faultAt = true) :
    rgnCommand n op s = rgnCmdDone n (stNOTREADY, s) := by
  unfold rgnCommand
  rw [bit_of_get_zero hidle, if_neg (by decide), if_pos ⟨hlow, hhigh, hfaulted, hcycle⟩]

/-- A command that waits for the loop tick of region n, which goes on with OP in its hidden state (R132, R134). -/
def rgnCmdStarted (n op : Nat) (s : State) : State :=
  rgnPend n op ((s.put (RGN_CMD.PEND n) 1).put (RGN_CMD.RES n) stBUSY)

/-- Outside the cycle of a fault a command that moves its region's state is started; an ENABLE makes its inrush check at
once (R132, R138). -/
theorem rgnCommand_starts {n op : Nat} {s : State} (hidle : s.get (RGN_CMD.PEND n) = 0)
    (hcycle : ¬ (s.rgnState n = rFAULTED ∧ s.thisCycle (s.rhid n).faultAt = true)) (hmoves : s.rgnMoves n op = true) :
    rgnCommand n op s = rgnCmdStarted n op (if op = 1 then inrushCheck n s else s) := by
  unfold rgnCommand
  rw [bit_of_get_zero hidle, if_neg (by decide), if_neg fun h => hcycle h.2.2, if_pos hmoves, rgnCmdStarted]

/-- NOP ends at once (R133). -/
theorem rgnCommand_nop {n : Nat} {s : State} (hidle : s.get (RGN_CMD.PEND n) = 0) :
    rgnCommand n 0 s = rgnCmdDone n (if s.bit VL_STAT.CFG_COMMITTED then stOK else stNOTREADY, cmdNoted n s) := by
  unfold rgnCommand
  rw [bit_of_get_zero hidle, if_neg (by decide), if_neg (by omega), rgnMoves_nop, if_neg (by decide)]
  rfl

/-- A reserved OP ends at once (R133). -/
theorem rgnCommand_reserved {n op : Nat} {s : State} (hidle : s.get (RGN_CMD.PEND n) = 0) (hop : 4 ≤ op) :
    rgnCommand n op s =
      rgnCmdDone n (if s.bit VL_STAT.CFG_COMMITTED then stBADPARAM else stNOTREADY, cmdNoted n s) := by
  obtain ⟨k, rfl⟩ := Nat.exists_eq_add_of_le' hop
  unfold rgnCommand
  rw [bit_of_get_zero hidle, if_neg (by decide), if_neg (by omega), rgnMoves_reserved hop, if_neg (by decide)]
  rfl

/-- The ENABLE of a DRAINING region ends at once (R133). -/
theorem rgnCommand_deferred {n : Nat} {s : State} (hidle : s.get (RGN_CMD.PEND n) = 0)
    (hcommitted : s.get VL_STAT.CFG_COMMITTED = 1) (hcool : s.get THM_STAT.STATE = 0)
    (hdraining : s.rgnState n = rDRAINING) :
    rgnCommand n 1 s = rgnCmdDone n (stDEFERRED, (cmdNoted n s).put (RGN_STAT.ENABLE_PENDING n) 1) := by
  have hfault : ¬ rDRAINING = rFAULTED := by decide
  have hstatus : (cmdNoted n s).enableStatus n = stDEFERRED :=
    (enableStatus_of_regs rfl n).trans (enableStatus_draining hcommitted hcool hdraining)
  unfold rgnCommand
  rw [bit_of_get_zero hidle, if_neg (by decide), if_neg (by simp [hdraining, hfault]),
    rgnMoves_enable_draining hdraining, if_neg (by decide), ← doEnable_deferred hstatus]
  rfl

/-- Stores to the window do not touch the hidden state of the regions, so the two commute. -/
theorem setRhid_put (s : State) (n : Nat) (h : RgnHid) (f : Fld) (v : Nat) :
    (s.setRhid n h).put f v = (s.put f v).setRhid n h := rfl

theorem rhid_put (s : State) (n : Nat) (f : Fld) (v : Nat) : (s.put f v).rhid n = s.rhid n := rfl

/-- The start of a command leaves PEND 1 and RES BUSY (R134). -/
theorem rgnCmdStarted_leaves (n op : Nat) (s : State) :
    (rgnCmdStarted n op s).get (RGN_CMD.PEND n) = 1 ∧ (rgnCmdStarted n op s).get (RGN_CMD.RES n) = stBUSY ∧
      ((rgnCmdStarted n op s).rhid n).cmd = op ∧
      (s.setRhid n { s.rhid n with cmd := op }).Frame (rgnCmdStarted n op s) [RGN_CMD.PEND n, RGN_CMD.RES n] := by
  rw [rgnCmdStarted, rgnPend, rhid_put, rhid_put, ← setRhid_put, ← setRhid_put]
  refine ⟨?_, get_put_fit _ _ _ rfl, ?_, frame_intro (((KeepsBits.refl _).put _ _).put _ _) (by simp) rfl⟩
  · rw [get_put_apart _ _ _ _ rfl, get_put_fit _ _ _ rfl]
  · rw [rhid_put, rhid_put, rhid_setRhid_same]

/-- A value saturated to 16 bits reads back signed (R3). -/
theorem toSigned_ofSigned_satS (v : Int) : toSigned 16 (ofSigned 16 (satS 16 v)) = satS 16 v := by
  simp only [toSigned, ofSigned, satS]
  omega

/-- What the inrush check leaves: the headroom, and whether the next ramp is SLOWED (R138). -/
theorem inrushCheck_leaves (n : Nat) (s : State) :
    (inrushCheck n s).getI (RGN_RAMP.HR n) = satS 16 s.headroom ∧
      (inrushCheck n s).bit (RGN_STAT.SLOWED n) = decide (s.headroom < s.getI (RGN_INRUSH_LIVE.BUDGET n)) ∧
      s.KeepsBits (inrushCheck n s) [RGN_RAMP.HR n, RGN_STAT.SLOWED n] := by
  have hword : RGN_RAMP n ≠ RGN_STAT n := regionReg_ne (by decide)
  refine ⟨?_, bit_putB_same _ _ _ rfl, (((KeepsBits.refl s).put _ _).put _ _).mono (by simp)⟩
  rw [inrushCheck, State.getI, State.putB, get_put_reg _ _ _ _ hword, State.putI, get_put_cut _ _ _ rfl]
  exact (congrArg _ (Nat.mod_eq_of_lt (by simp only [ofSigned, RGN_RAMP.HR]; omega))).trans
    (toSigned_ofSigned_satS s.headroom)

/-- What the ENABLE of an OFF region leaves until its loop tick (R134, R138). -/
theorem enableStarted_leaves (n : Nat) (s : State) :
    let u := rgnCmdStarted n 1 (inrushCheck n s)
    u.get (RGN_CMD.PEND n) = 1 ∧ u.get (RGN_CMD.RES n) = stBUSY ∧ (u.rhid n).cmd = 1 ∧
      u.getI (RGN_RAMP.HR n) = satS 16 s.headroom ∧
      u.bit (RGN_STAT.SLOWED n) = decide (s.headroom < s.getI (RGN_INRUSH_LIVE.BUDGET n)) ∧
      s.KeepsBits u [RGN_CMD.PEND n, RGN_CMD.RES n, RGN_RAMP.HR n, RGN_STAT.SLOWED n] := by
  intro u
  obtain ⟨hpend, hres, hcmd, hframe, -⟩ := rgnCmdStarted_leaves n 1 (inrushCheck n s)
  obtain ⟨hroom, hslowed, hkeeps⟩ := inrushCheck_leaves n s
  have hkept : (inrushCheck n s).KeepsBits u [RGN_CMD.PEND n, RGN_CMD.RES n] :=
    ((setRhid_keepsBits (KeepsBits.refl _) _ _).mono (by simp)).trans hframe
  have hramp : RGN_RAMP n ≠ RGN_CMD n := regionReg_ne (by decide)
  have hstat : RGN_STAT n ≠ RGN_CMD n := regionReg_ne (by decide)
  have hget (f : Fld) (hf : f.addr ≠ RGN_CMD n) : u.get f = (inrushCheck n s).get f :=
    hkept.get f (by simp [RGN_CMD.PEND, RGN_CMD.RES, hf])
  refine ⟨hpend, hres, hcmd, ?_, ?_, (hkeeps.mono (by simp)).trans (hkept.mono (by simp))⟩
  · rw [← hroom, State.getI, State.getI, hget _ hramp]
  · rw [← hslowed, State.bit, State.bit, hget _ hstat]

/-! ### The region loop tick (R132, R133, R143, R150) -/

/-- The command that waits in region n is taken at its loop tick (R132). -/
def cmdTaken (n : Nat) (s : State) : State := s.setRhid n { s.rhid n with cmd := 0, cmdAt := some s.cks }

theorem rgnCmdTick_enable {n : Nat} {s : State} (h : (s.rhid n).cmd = 1) :
    rgnCmdTick n s = rgnCmdDone n (doEnable n (cmdTaken n s)) := by
  simp [rgnCmdTick, h, cmdTaken]

theorem rgnCmdTick_disable {n : Nat} {s : State} (h : (s.rhid n).cmd = 2) :
    rgnCmdTick n s = rgnCmdDone n (doDisable n (cmdTaken n s)) := by
  simp [rgnCmdTick, h, cmdTaken]

theorem rgnCmdTick_clearFault {n : Nat} {s : State} (h : (s.rhid n).cmd = 3) :
    rgnCmdTick n s = rgnCmdDone n (doClearFault n (cmdTaken n s)) := by
  simp [rgnCmdTick, h, cmdTaken]

/-- A ramp is drained from where it stands (R143). -/
theorem doDisable_ramping {n : Nat} {s : State} (hcommitted : s.get VL_STAT.CFG_COMMITTED = 1)
    (hstate : s.rgnState n = rRAMPING) : doDisable n s = (stOK, putRgnState n rDRAINING s) := by
  simp [doDisable, bit_of_get hcommitted, hstate]

/-- A region at work is drained from its effective set-point (R143). -/
theorem doDisable_working {n : Nat} {s : State} (hcommitted : s.get VL_STAT.CFG_COMMITTED = 1)
    (hstate : s.rgnState n = rON ∨ s.rgnState n = rLAME) :
    doDisable n s = (stOK, putRgnState n rDRAINING (putRef n (1600 + 5 * s.get (RGN_VEFF.CODE n)) s)) := by
  have hramp : ¬ s.rgnState n = rRAMPING := by rcases hstate with h | h <;> rw [h] <;> decide
  simp [doDisable, bit_of_get hcommitted, hramp, hstate]

/-- A FAULTED region becomes OFF and lets its cells go (R150). -/
theorem doClearFault_faulted {n : Nat} {s : State} (hcommitted : s.get VL_STAT.CFG_COMMITTED = 1)
    (hstate : s.rgnState n = rFAULTED) :
    doClearFault n s = (stOK, releaseCells ((putRgnState n rOFF s).cellsOf n) (putRgnState n rOFF s)) := by
  simp [doClearFault, bit_of_get hcommitted, hstate]

/-- The pending enable of an OFF region with no ACTIVE cell executes, or is discarded (R136). -/
theorem rgnPendingTick_acts {n : Nat} {s z : State} (hpending : s.get (RGN_STAT.ENABLE_PENDING n) = 1)
    (hoff : s.rgnState n = rOFF) (hcells : s.activeCells n = []) (hz : z = s.put (RGN_STAT.ENABLE_PENDING n) 0) :
    rgnPendingTick n s = (setRegionBit (RGN_EVT_CMD 0) n
      (if z.enableStatus n = stOK then startRamp n (inrushCheck n z) else z)).ring kRGN 4 := by
  rw [rgnPendingTick, if_pos ⟨bit_of_get hpending, hoff, by rw [hcells]; rfl⟩, hz]

/-! ### The end of the ramp, and faults (R141, R142, R148) -/

/-- The conditions of the ramp's end (R141). -/
theorem rampMet_of {n : Nat} {s : State} (hstate : s.rgnState n = rRAMPING) (hfirst : (s.rhid n).first = false)
    (href : (s.rhid n).ref = s.rampTarget n) (hgood : 16 ≤ (s.rhid n).good) : s.rampMet n = true := by
  simp [State.rampMet, hstate, hfirst, href, hgood]

/-- Passing time changes no register, and so none of the counts that decide ON or LAME (R132). -/
theorem rampEnd_adv (n : Nat) (e : Dword) (s : State) :
    rampEnd n (s.advanceTo e) = putRgnState n
      (if 100 * s.healthy n < s.get (RGN_FLOOR_LIVE.FLOOR n) * s.assigned n then rLAME else rON)
      ((s.advanceTo e).setRhid n { s.rhid n with pgLoad := true }) := by
  have hregs : ((s.advanceTo e).setRhid n { s.rhid n with pgLoad := true }).regs = s.regs := s.advanceTo_regs e
  simp only [rampEnd, rhid_adv, healthy_of_regs hregs, assigned_of_regs hregs, setRhid_get, advanceTo_get]

/-- A cause that may fault the region's state faults it (R148). -/
theorem regionCause_faults {n cause : Nat} (ts : Nat) {s : State} (h : causeStates cause (s.rgnState n) = true) :
    regionCause n cause ts s = regionFault n cause ts s := if_pos h

/-- Out of instance reset a cause that is due at its instant, and may fault the region's state, faults it (R148). -/
theorem completes_regionCause {i : Instr} {n : RegionIx} {e : Dword} {cause : Nat} {s : State} (due : State → Bool)
    (hexec : exec i s = onRegion n (fun s => s.working fun s =>
      if due (s.advanceTo e) then regionCause n cause (s.advanceTo e).now32 (s.advanceTo e) else s.advanceTo e) s)
    (hn : n.val ≠ 0) (hrun : s.rst.inst = false) (hdue : due (s.advanceTo e) = true)
    (hstate : causeStates cause (s.rgnState n) = true) :
    Completes i s fun t => t = reinAll (regionFault n cause (s.advanceTo e).now32 (s.advanceTo e)) := by
  refine completes_regionEvent hexec hn hrun (congrArg reinAll ((if_pos hdue).trans (regionCause_faults _ ?_)))
  rwa [rgnState_of_regs (s.advanceTo_regs e)]

/-- Minima that lag behind the ramp for WIN µs are NO_RISE (R142). -/
theorem noRise_of_lag {n t₀ : Nat} {s : State} (hstate : s.rgnState n = rRAMPING) (hlag : (s.rhid n).lag = some t₀)
    (hlate : t₀ + 800 * s.get (RGN_SS_LIVE.WIN n) ≤ s.now) : s.noRise n = true := by
  simp [State.noRise, hstate, hlag, hlate]

/-- A quarter of the ACTIVE cells at their limit in four samples in a row is SHORT (R142). -/
theorem shortRun_of {n k : Nat} {s : State} (hstate : s.rgnState n = rRAMPING) (hcells : s.activeCells n ≠ [])
    (hquarter : (s.activeCells n).length ≤ 4 * ((s.activeCells n).filter fun c => s.bit (CELL_STAT.ILIM c)).length)
    (hshort : (s.rhid n).short = some k) (hlate : k + 3 ≤ s.cks) : s.shortRun n = true := by
  simp [State.shortRun, State.shortNow, hstate, hcells, hquarter, hshort, hlate]

/-- A tree that is empty in 64 samples in a row is BLIND (R148). -/
theorem blindRun_of {n k : Nat} {s : State} (hempty : s.treeCount n = 0) (hblind : (s.rhid n).blind = some k)
    (hlate : k + 63 ≤ s.cks) : s.blindRun n = true := by
  simp [State.blindRun, hempty, hblind, hlate]

/-! ### The recorded minimum (R151 to R155) -/

/-- Registers at different places in the blocks of the minimum trees are different registers. -/
theorem treeReg_ne {o o' m n : Nat} (h : o % 0x20 ≠ o' % 0x20) : o + 0x20 * m ≠ o' + 0x20 * n := by omega

/-- What a clear of VSN_MINV leaves (R154). -/
theorem minvClear_leaves (n : Nat) (s : State) :
    (minvClear n s).get (VSN_MINV.VALID n) = 0 ∧ (minvClear n s).get (VSN_MINV.V n) = 0x7FF ∧
      s.Frame (minvClear n s) [VSN_MINV.VALID n, VSN_MINV.V n] := by
  rw [minvClear]
  refine ⟨?_, ?_, frame_intro (((KeepsBits.refl s).put _ _).put _ _) (by simp) rfl⟩
  · rw [get_put_apart _ _ _ _ rfl, get_put_fit _ _ _ rfl]
  · rw [get_put_cut _ _ _ rfl]
    exact Nat.mod_eq_of_lt (by decide : 0x7FF < 2 ^ 11)

/-- The latch of another counter of the same requester is apart (R503). -/
theorem latchedHi_latchHi_other_counter {req : Requester} {hi hi' : Nat} (h : hi' ≠ hi) (w : Word) (s : State) :
    latchedHi req hi' (latchHi req hi w s) = latchedHi req hi' s :=
  mapGet_mapSet_other _ _ _ _ _ _ (by unfold latchKey; omega)

/-- A read of VSN_MINV latches both halves of its time-stamp for the requester (R155). -/
theorem minvLatch_leaves (req : Requester) (n : Nat) (s : State) :
    latchedHi req (VSN_MINV_TSL n) (minvLatch req n s) = BitVec.ofNat 32 (s.rhid n).minvTs.toNat ∧
      latchedHi req (VSN_MINV_TSH n) (minvLatch req n s) = BitVec.ofNat 32 ((s.rhid n).minvTs.toNat / 2 ^ 32) := by
  have hapart : VSN_MINV_TSL n ≠ VSN_MINV_TSH n := treeReg_ne (by decide)
  rw [minvLatch, latchedHi_latchHi_other_counter hapart, latchedHi_latchHi_same, latchedHi_latchHi_same]
  exact ⟨rfl, rfl⟩

/-- A valid minimum stands in VSN_VMIN (R151, R152). -/
theorem deliverMin_leaves (n cnt : Nat) {v : Nat} (hv : v < 2 ^ 11) (s : State) :
    (deliverMin n v cnt true s).get (VSN_VMIN.VALID n) = 1 ∧ (deliverMin n v cnt true s).get (VSN_VMIN.V n) = v ∧
      (deliverMin n v cnt true s).rgn = s.rgn ∧
      s.KeepsBits (deliverMin n v cnt true s) [VSN_VMIN.VALID n, VSN_VMIN.V n, VSN_VMIN.CNT n] := by
  simp only [deliverMin, if_true, State.putB, Bool.toNat_true]
  refine ⟨?_, ?_, rfl, ((((KeepsBits.refl s).put _ _).put _ _).put _ _).mono (by simp)⟩
  · rw [get_put_apart _ _ _ _ rfl, get_put_apart _ _ _ _ rfl, get_put_fit _ _ _ rfl]
  · rw [get_put_apart _ _ _ _ rfl, get_put_cut _ _ _ rfl]
    exact Nat.mod_eq_of_lt hv

/-- A minimum of v mV replaces the recorded one: the region is ON or LAME, and v lies below it (R153). -/
def State.Replaces (s : State) (n v : Nat) : Prop :=
  (s.rgnState n = rON ∨ s.rgnState n = rLAME) ∧ v < s.get (VSN_MINV.V n)

theorem minvReplace_not {n v x : Nat} {ts : Dword} {s : State} (h : ¬ s.Replaces n v) : minvReplace n v x ts s = s :=
  if_neg h

/-- The recorded minimum is replaced with its sensor and its time-stamp (R153). -/
theorem minvReplace_leaves {n v x : Nat} {s : State} (h : s.Replaces n v) (hv : v < 2 ^ 11) (hx : x < 2 ^ 14)
    (ts : Dword) :
    (minvReplace n v x ts s).get (VSN_MINV.VALID n) = 1 ∧ (minvReplace n v x ts s).get (VSN_MINV.V n) = v ∧
      (minvReplace n v x ts s).get (VSN_MINV.SENSOR n) = x ∧ ((minvReplace n v x ts s).rhid n).minvTs = ts ∧
      s.KeepsBits (minvReplace n v x ts s) [VSN_MINV.VALID n, VSN_MINV.V n, VSN_MINV.SENSOR n] := by
  unfold State.Replaces at h
  rw [minvReplace, if_pos h]
  simp only [setRhid_get, rhid_setRhid_same]
  refine ⟨?_, ?_, ?_, trivial, setRhid_keepsBits ((((KeepsBits.refl s).put _ _).put _ _).put _ _ |>.mono
    (by simp)) _ _⟩
  · rw [get_put_apart _ _ _ _ rfl, get_put_apart _ _ _ _ rfl, get_put_fit _ _ _ rfl]
  · rw [get_put_cut _ _ _ rfl]
    exact Nat.mod_eq_of_lt hv
  · rw [get_put_apart _ _ _ _ rfl, get_put_cut _ _ _ rfl]
    exact Nat.mod_eq_of_lt hx

/-- The ramp checks change no register and not the recorded time-stamp (R141, R142). -/
theorem rampSeen_leaves (n v : Nat) (s : State) :
    (rampSeen n v s).regs = s.regs ∧ ((rampSeen n v s).rhid n).minvTs = (s.rhid n).minvTs := by
  unfold rampSeen
  dsimp only
  split
  · exact ⟨rfl, by rw [rhid_setRhid_same]⟩
  · exact ⟨rfl, rfl⟩

/-- A valid minimum before Skid decides on it: reported, recorded where it is lower, and seen by the ramp (R151,
R153). -/
def minSeen (n v x cnt : Nat) (ts : Dword) (s : State) : State :=
  rampSeen n v (minvReplace n v x ts (deliverMin n v cnt true s))

/-- The report of a minimum touches nothing that decides whether it is recorded. -/
theorem replaces_deliverMin {n v : Nat} (hn : n < 256) (hv : v < 2 ^ 11) (w cnt : Nat) (s : State) :
    (deliverMin n v cnt true s).Replaces n w ↔ s.Replaces n w := by
  obtain ⟨-, -, -, hkeeps⟩ := deliverMin_leaves n cnt hv s
  have hstat : RGN_STAT n ≠ VSN_VMIN n := by
    simp only [RGN_STAT, VSN_VMIN]
    omega
  have hminv : VSN_MINV n ≠ VSN_VMIN n := treeReg_ne (by decide)
  have hstate : (deliverMin n v cnt true s).rgnState n = s.rgnState n :=
    hkeeps.get _ (by simp [RGN_STAT.STATE, VSN_VMIN.VALID, VSN_VMIN.V, VSN_VMIN.CNT, hstat])
  rw [State.Replaces, State.Replaces, hstate,
    hkeeps.get _ (by simp [VSN_MINV.V, VSN_VMIN.VALID, VSN_VMIN.V, VSN_VMIN.CNT, hminv])]

/-- What a minimum leaves before Skid decides on it (R151, R153). -/
theorem minSeen_leaves {n v x : Nat} (hn : n < 256) (hv : v < 2 ^ 11) (hx : x < 2 ^ 14) (cnt : Nat) (ts : Dword)
    {s u : State} (hu : u = minSeen n v x cnt ts s) :
    u.get (VSN_VMIN.VALID n) = 1 ∧ u.get (VSN_VMIN.V n) = v ∧
      (s.Replaces n v → u.get (VSN_MINV.VALID n) = 1 ∧ u.get (VSN_MINV.V n) = v ∧ u.get (VSN_MINV.SENSOR n) = x ∧
        (u.rhid n).minvTs = ts) ∧
      (¬ s.Replaces n v → (u.rhid n).minvTs = (s.rhid n).minvTs ∧
        s.KeepsBits u [VSN_VMIN.VALID n, VSN_VMIN.V n, VSN_VMIN.CNT n]) ∧
      s.KeepsBits u [VSN_MINV.VALID n, VSN_MINV.V n, VSN_MINV.SENSOR n, VSN_VMIN.VALID n, VSN_VMIN.V n,
        VSN_VMIN.CNT n] := by
  obtain ⟨hvalid, hval, hrgn, hkeeps⟩ := deliverMin_leaves n cnt hv s
  have hiff := replaces_deliverMin hn hv v cnt s
  have hminv : VSN_VMIN n ≠ VSN_MINV n := treeReg_ne (by decide)
  have hts : ((deliverMin n v cnt true s).rhid n).minvTs = (s.rhid n).minvTs := rfl
  rw [minSeen] at hu
  generalize deliverMin n v cnt true s = d at *
  obtain ⟨hregs, hstamp⟩ := rampSeen_leaves n v (minvReplace n v x ts d)
  rw [← hu] at hregs hstamp
  have hget (f : Fld) : u.get f = (minvReplace n v x ts d).get f := view_of_regs (State.get · f) (fun _ => rfl) hregs
  by_cases h : s.Replaces n v
  · obtain ⟨hmvalid, hmval, hsensor, hmts, hmkeeps⟩ := minvReplace_leaves (hiff.mpr h) hv hx ts
    have hfar (f : Fld) (hf : f.addr = VSN_VMIN n) : u.get f = d.get f :=
      (hget f).trans (hmkeeps.get f (by simp [VSN_MINV.VALID, VSN_MINV.V, VSN_MINV.SENSOR, hf, hminv]))
    exact ⟨(hfar _ rfl).trans hvalid, (hfar _ rfl).trans hval,
      fun _ => ⟨(hget _).trans hmvalid, (hget _).trans hmval, (hget _).trans hsensor, hstamp.trans hmts⟩,
      fun hnot => absurd h hnot, ((hkeeps.mono (by simp)).trans (hmkeeps.mono (by simp))).of_regs hregs⟩
  · rw [minvReplace_not (mt hiff.mp h)] at hregs hstamp hget
    exact ⟨(hget _).trans hvalid, (hget _).trans hval, fun hrep => absurd hrep h,
      fun _ => ⟨hstamp.trans hts, hkeeps.of_regs hregs⟩, (hkeeps.mono (by simp)).of_regs hregs⟩

/-- A read of VSN_MINV answers its word, and latches (R155). -/
theorem exec_minvRead {req : Requester} {n : RegionIx} {s : State} (hn : n.val ≠ 0) (hrun : s.rst.inst = false) :
    exec (.minvRead req n) s = .next (minvLatch req n (s.answer [s.rd (VSN_MINV n)])) :=
  (onRegion_acts hn (fun s => (s.answer [s.rd (VSN_MINV n)]).running (minvLatch req n)) s).trans
    (congrArg Host.Outcome.next (running_of (s := s.answer [s.rd (VSN_MINV n)]) hrun _))

/-- Settles O20, command by command and event by event. That NOP, DEFERRED and the reserved OPs end in the step of their
write while the others wait for the loop tick is log entry 30, and that H and SLOWED are formed at the write is log
entry 122. -/
theorem regionCommandsComplete : Obligations.RegionCommandsComplete := by
  refine ⟨fun k r u hr _ _ => rgnCmdDone_leaves k (lt_of_lt_of_le hr (by decide)) u,
    fun req n s hn hp hidle hcommitted => ?_, fun req n s hn hp hidle huncommitted => ?_,
    fun req n s hn hp hidle hcommitted hcool hoff hfront hgood hcells hhealthy => ?_,
    fun req n s hn hp hidle hcommitted hcool hdraining => ?_, fun req n s hn hp hidle hcommitted hwork => ?_,
    fun req n s hn hp hidle hcommitted hfaulted hcycle => ?_, fun req n op s hn hp hidle hop hcommitted => ?_,
    fun k op u hlow hhigh hidle hfaulted hcycle => rgnCommand_faultCycle hidle hlow hhigh hfaulted hcycle,
    fun k op u hbusy => rgnCommand_ignored op hbusy, fun k s hcmd hoff hok => ?_,
    fun k s hcmd hwork hcommitted => ?_, fun k s hcmd hramp hcommitted => ?_,
    fun k s hcmd hfaulted hcommitted => ?_, fun e n s hn hpending hoff hcells hrun => ?_,
    fun e n s hn hstate hfirst href hgood hrun => ?_, fun e n t₀ s hn hstate hlag hlate hrun => ?_,
    fun e n k s hn hstate hcells hquarter hshort hlate hrun => ?_,
    fun e n k s hn hlow hhigh hempty hblind hlate hrun => ?_, fun req n s hn hp => ?_,
    fun req n s hn hrun => ?_, fun e n v x s hn hrun => ?_⟩
  · exact completes_regionCommand rfl hn hp (by decide) (rgnCommand_nop hidle)
      ⟨_, rfl, by rw [bit_of_get hcommitted]; rfl⟩
  · exact completes_regionCommand rfl hn hp (by decide) (rgnCommand_nop hidle)
      ⟨_, rfl, by rw [bit_of_get_zero huncommitted]; rfl⟩
  · have hok : s.enableStatus n = stOK := enableStatus_ready hcommitted hcool hoff hfront hgood hcells hhealthy
    have hcycle : ¬ (s.rgnState n = rFAULTED ∧ s.thisCycle (s.rhid n).faultAt = true) :=
      fun h => absurd (hoff.symm.trans h.1) (by decide)
    exact completes_regionCommand rfl hn hp (by decide)
      ((rgnCommand_starts hidle hcycle (rgnMoves_enable hcommitted hoff hok)).trans (by rw [if_pos rfl]))
      ⟨_, rfl, enableStarted_leaves n s⟩
  · exact completes_regionCommand rfl hn hp (by decide) (rgnCommand_deferred hidle hcommitted hcool hdraining)
      ⟨_, rfl, rfl⟩
  · have hcycle : ¬ (s.rgnState n = rFAULTED ∧ s.thisCycle (s.rhid n).faultAt = true) := by
      rintro ⟨hfaulted, -⟩
      rw [hfaulted] at hwork
      exact absurd hwork (by decide)
    obtain ⟨hpend, hres, -, hframe⟩ := rgnCmdStarted_leaves n 2 s
    exact completes_regionCommand rfl hn hp (by decide)
      ((rgnCommand_starts hidle hcycle (rgnMoves_disable hcommitted hwork)).trans (by rw [if_neg (by decide)]))
      ⟨_, rfl, hpend, hres, hframe⟩
  · have hcycle' : ¬ (s.rgnState n = rFAULTED ∧ s.thisCycle (s.rhid n).faultAt = true) := by simp [hcycle]
    obtain ⟨hpend, hres, -, hframe⟩ := rgnCmdStarted_leaves n 3 s
    exact completes_regionCommand rfl hn hp (by decide)
      ((rgnCommand_starts hidle hcycle' (rgnMoves_clearFault hcommitted hfaulted)).trans (by rw [if_neg (by decide)]))
      ⟨_, rfl, hpend, hres, hframe⟩
  · refine completes_regionCommand rfl hn hp op.isLt (rgnCommand_reserved hidle hop) ?_
    rw [bit_of_get hcommitted]
    rfl
  · have hstatus : (cmdTaken k s).enableStatus k = stOK := (enableStatus_of_regs rfl k).trans hok
    exact (rgnCmdTick_enable hcmd).trans (congrArg (rgnCmdDone k) (doEnable_starts hstatus hoff))
  · exact (rgnCmdTick_disable hcmd).trans
      (congrArg (rgnCmdDone k) (doDisable_working (s := cmdTaken k s) hcommitted hwork))
  · exact (rgnCmdTick_disable hcmd).trans
      (congrArg (rgnCmdDone k) (doDisable_ramping (s := cmdTaken k s) hcommitted hramp))
  · exact (rgnCmdTick_clearFault hcmd).trans
      (congrArg (rgnCmdDone k) (doClearFault_faulted (s := cmdTaken k s) hcommitted hfaulted))
  · have hregs : (s.advanceTo e).regs = s.regs := s.advanceTo_regs e
    exact completes_regionEvent rfl hn hrun ⟨_, rfl, congrArg reinAll (rgnPendingTick_acts
      ((s.advanceTo_get e _).trans hpending) ((rgnState_of_regs hregs n).trans hoff)
      ((activeCells_of_regs hregs n).trans hcells) rfl)⟩
  · exact completes_regionEvent rfl hn hrun ⟨_, rfl, congrArg reinAll
      ((if_pos (rampMet_of hstate hfirst href hgood)).trans (rampEnd_adv n e s))⟩
  · exact completes_regionCause (State.noRise · n) rfl hn hrun (noRise_of_lag
      ((rgnState_of_regs (s.advanceTo_regs e) n).trans hstate) (by rw [rhid_adv, hlag]) (by rwa [advanceTo_get]))
      (by rw [hstate]; rfl)
  · have hactive := activeCells_of_regs (s.advanceTo_regs e) n
    exact completes_regionCause (State.shortRun · n) rfl hn hrun (shortRun_of
      ((rgnState_of_regs (s.advanceTo_regs e) n).trans hstate) (by rwa [hactive])
      (by simpa only [hactive, State.bit, advanceTo_get] using hquarter) (by rw [rhid_adv, hshort]) hlate)
      (by rw [hstate]; rfl)
  · exact completes_regionCause (State.blindRun · n) rfl hn hrun (blindRun_of
      ((treeCount_of_regs (s.advanceTo_regs e) n).trans hempty) (by rw [rhid_adv, hblind]) hlate)
      (by simp [causeStates, poweredState, hlow, hhigh])
  · exact ⟨_, (onRegion_acts hn _ s).trans
      (congrArg Host.Outcome.next ((gated_permits hp _).trans (if_pos (by decide)))), minvClear_leaves n s⟩
  · obtain ⟨hlow, hhigh⟩ := minvLatch_leaves req n (s.answer [s.rd (VSN_MINV n)])
    exact ⟨_, exec_minvRead hn hrun, rfl, hlow, hhigh, rfl⟩
  · obtain ⟨hvalid, hval, hrep, hnot, hkeeps⟩ := minSeen_leaves n.isLt v.isLt x.isLt ((s.advanceTo e).treeCount n)
      ((s.advanceTo e).ts - 2) (s := s.advanceTo e) rfl
    have hiff : (s.advanceTo e).Replaces n v.toNat ↔ s.Replaces n v.toNat := by
      rw [State.Replaces, State.Replaces, rgnState_of_regs (s.advanceTo_regs e), advanceTo_get]
    rw [hiff] at hrep hnot
    rw [rhid_adv] at hnot
    refine completes_regionEvent rfl hn hrun ⟨_, rfl, hvalid, hval, hrep, fun h => ?_,
      ((adv_keeps s e).mono (by simp)).trans hkeeps⟩
    obtain ⟨hstamp, hbits⟩ := hnot h
    exact ⟨hstamp, ((adv_keeps s e).mono (by simp)).trans hbits⟩

end Sys2Proof.Machine

/-! PROOFS of the family spec/05_front_stage.md. What the commands, the reference, the sense points, the latches, the
triggers, sync and the phase count of the front stage leave, with the frame of each. -/

namespace Sys2Proof.Machine

open State

/-! ### What an event of the front stage acts on -/

/-- A view that shows none of the accumulator's own state is the same after it has caught up (R179). -/
theorem view_rippleCatch {α : Type} (view : State → α)
    (hview : ∀ s free acc rip,
      view { s with freeCtr := free, xph := { s.xph with acc := acc, ripEdges := rip } } = view s) (s : State) :
    view (rippleCatch s) = view s := by
  rw [rippleCatch_eq, hview]

@[simp] theorem rippleCatch_regs (s : State) : (rippleCatch s).regs = s.regs :=
  view_rippleCatch State.regs (fun _ _ _ _ => rfl) s
@[simp] theorem rippleCatch_ph (s : State) : (rippleCatch s).ph = s.ph := view_rippleCatch State.ph (fun _ _ _ _ => rfl) s
@[simp] theorem rippleCatch_pst (s : State) : (rippleCatch s).pst = s.pst :=
  view_rippleCatch State.pst (fun _ _ _ _ => rfl) s
@[simp] theorem rippleCatch_cbse (s : State) : (rippleCatch s).cbse = s.cbse :=
  view_rippleCatch State.cbse (fun _ _ _ _ => rfl) s
@[simp] theorem rippleCatch_now (s : State) : (rippleCatch s).now = s.now :=
  view_rippleCatch State.now (fun _ _ _ _ => rfl) s
@[simp] theorem rippleCatch_xph (s : State) :
    (rippleCatch s).xph = { s.xph with acc := s.ripAcc, ripEdges := s.tim.edges } := congrArg State.xph (rippleCatch_eq s)
@[simp] theorem rippleCatch_rd (s : State) (a : Nat) : (rippleCatch s).rd a = s.rd a := rd_congr _ _ _ (rippleCatch_regs s)
@[simp] theorem rippleCatch_get (s : State) (f : Fld) : (rippleCatch s).get f = s.get f :=
  view_rippleCatch (State.get · f) (fun _ _ _ _ => rfl) s
@[simp] theorem rippleCatch_bit (s : State) (f : Fld) : (rippleCatch s).bit f = s.bit f :=
  view_rippleCatch (State.bit · f) (fun _ _ _ _ => rfl) s
@[simp] theorem rippleCatch_phid (s : State) (p : Nat) : (rippleCatch s).phid p = s.phid p :=
  phid_congr (rippleCatch_ph s) p

@[simp] theorem rippleCatch_fsState (s : State) : (rippleCatch s).fsState = s.fsState := rippleCatch_get s _
@[simp] theorem rippleCatch_phState (s : State) (p : Nat) : (rippleCatch s).phState p = s.phState p := rippleCatch_get s _
@[simp] theorem rippleCatch_fsRuns (s : State) : (rippleCatch s).fsRuns = s.fsRuns :=
  view_rippleCatch State.fsRuns (fun _ _ _ _ => rfl) s
@[simp] theorem rippleCatch_rgnState (s : State) (n : Nat) : (rippleCatch s).rgnState n = s.rgnState n :=
  rgnState_of_regs (rippleCatch_regs s) n
@[simp] theorem rippleCatch_liveRegions (s : State) : (rippleCatch s).liveRegions = s.liveRegions :=
  view_rippleCatch State.liveRegions (fun _ _ _ _ => rfl) s
@[simp] theorem rippleCatch_startReady (s : State) : (rippleCatch s).startReady = s.startReady :=
  view_rippleCatch State.startReady (fun _ _ _ _ => rfl) s
@[simp] theorem rippleCatch_causeGone (s : State) : (rippleCatch s).causeGone = s.causeGone :=
  view_rippleCatch State.causeGone (fun _ _ _ _ => rfl) s
@[simp] theorem rippleCatch_vimPoints (s : State) : (rippleCatch s).vimPoints = s.vimPoints :=
  view_rippleCatch State.vimPoints (fun _ _ _ _ => rfl) s
@[simp] theorem rippleCatch_phasesIn (s : State) (st : Nat) : (rippleCatch s).phasesIn st = s.phasesIn st :=
  view_rippleCatch (State.phasesIn · st) (fun _ _ _ _ => rfl) s
@[simp] theorem rippleCatch_actives (s : State) : (rippleCatch s).actives = s.actives := rippleCatch_phasesIn s 2
@[simp] theorem rippleCatch_inPool (s : State) (p : Nat) : (rippleCatch s).inPool p = s.inPool p :=
  view_rippleCatch (State.inPool · p) (fun _ _ _ _ => rfl) s
@[simp] theorem rippleCatch_counting (s : State) : (rippleCatch s).counting = s.counting :=
  view_rippleCatch State.counting (fun _ _ _ _ => rfl) s
@[simp] theorem rippleCatch_mayTrigger (s : State) : (rippleCatch s).mayTrigger = s.mayTrigger :=
  view_rippleCatch State.mayTrigger (fun _ _ _ _ => rfl) s
@[simp] theorem rippleCatch_blanked (s : State) (x : Nat) : (rippleCatch s).blanked x = s.blanked x :=
  view_rippleCatch (State.blanked · x) (fun _ _ _ _ => rfl) s
@[simp] theorem rippleCatch_phReady (s : State) (p x : Nat) : (rippleCatch s).phReady p x = s.phReady p x :=
  view_rippleCatch (State.phReady · p x) (fun _ _ _ _ => rfl) s
@[simp] theorem rippleCatch_nextPhase (s : State) : (rippleCatch s).nextPhase = s.nextPhase :=
  view_rippleCatch State.nextPhase (fun _ _ _ _ => rfl) s
@[simp] theorem rippleCatch_nextReady (s : State) (x : Nat) : (rippleCatch s).nextReady x = s.nextReady x :=
  view_rippleCatch (State.nextReady · x) (fun _ _ _ _ => rfl) s
@[simp] theorem rippleCatch_xphCfg (s : State) (f : Fld) : (rippleCatch s).xphCfg f = s.xphCfg f :=
  view_rippleCatch (State.xphCfg · f) (fun _ _ _ _ => rfl) s
@[simp] theorem rippleCatch_stepSeen (s : State) : (rippleCatch s).stepSeen = s.stepSeen :=
  view_rippleCatch State.stepSeen (fun _ _ _ _ => rfl) s

@[simp] theorem advanceTo_phid (s : State) (e : Dword) (p : Nat) : (s.advanceTo e).phid p = s.phid p := phid_adv s e p
@[simp] theorem advanceTo_fsState (s : State) (e : Dword) : (s.advanceTo e).fsState = s.fsState := advanceTo_get s e _
@[simp] theorem advanceTo_phState (s : State) (e : Dword) (p : Nat) : (s.advanceTo e).phState p = s.phState p :=
  advanceTo_get s e _
@[simp] theorem advanceTo_fsRuns (s : State) (e : Dword) : (s.advanceTo e).fsRuns = s.fsRuns :=
  view_of_regs State.fsRuns (fun _ => rfl) (s.advanceTo_regs e)
@[simp] theorem advanceTo_vimPoints (s : State) (e : Dword) : (s.advanceTo e).vimPoints = s.vimPoints :=
  view_of_regs State.vimPoints (fun _ => rfl) (s.advanceTo_regs e)
@[simp] theorem advanceTo_phasesIn (s : State) (e : Dword) (st : Nat) : (s.advanceTo e).phasesIn st = s.phasesIn st :=
  view_of_regs (State.phasesIn · st) (fun _ => rfl) (s.advanceTo_regs e)
@[simp] theorem advanceTo_actives (s : State) (e : Dword) : (s.advanceTo e).actives = s.actives :=
  advanceTo_phasesIn s e 2
@[simp] theorem advanceTo_inPool (s : State) (e : Dword) (p : Nat) : (s.advanceTo e).inPool p = s.inPool p :=
  view_of_regs (State.inPool · p) (fun _ => rfl) (s.advanceTo_regs e)
@[simp] theorem advanceTo_counting (s : State) (e : Dword) : (s.advanceTo e).counting = s.counting := by
  simp [State.counting]

theorem rippleCatch_keepsBits (s : State) : s.KeepsBits (rippleCatch s) [] := keeps_regs_eq (rippleCatch_regs s)

/-- The registers stand as they were when the accumulator has caught up to the time of an event. -/
theorem caught_keepsBits (s : State) (e : Dword) : s.KeepsBits (rippleCatch (s.advanceTo e)) [] :=
  keeps_regs_eq ((rippleCatch_regs _).trans (s.advanceTo_regs e))

/-- An event of the front stage out of instance reset. -/
theorem completes_front {i : Instr} {s u : State} {k : State → State} {post : State → Prop}
    (hexec : exec i s = .next (s.front k)) (hrun : s.rst.inst = false) (hact : k (rippleCatch s) = u) (hpost : post u) :
    Completes i s post :=
  ⟨u, hexec.trans (congrArg _ ((running_of hrun _).trans hact)), hpost⟩

/-- A timed event of the front stage out of instance reset. -/
theorem completes_frontAt {i : Instr} {e : Dword} {s u : State} {k : State → State} {post : State → Prop}
    (hexec : exec i s = .next (s.frontAt e k)) (hrun : s.rst.inst = false)
    (hact : k (rippleCatch (s.advanceTo e)) = u) (hpost : post u) : Completes i s post :=
  ⟨u, hexec.trans (congrArg _ ((running_of hrun _).trans hact)), hpost⟩

/-- Registers at different places in the blocks of their phases are different registers (R166). -/
theorem phaseReg_ne {o o' p q : Nat} (h : o % 0x20 ≠ o' % 0x20) : o + 0x20 * p ≠ o' + 0x20 * q := by omega

/-- A register below the blocks of the phases is none of theirs. -/
theorem lowReg_ne_phaseReg {a o p : Nat} (h : a < o) : a ≠ o + 0x20 * p := by omega

/-! ### The VIM reference and the combined reading (R171 to R175) -/

theorem vimWatch_regs (s : State) : (vimWatch s).regs = s.regs := rfl

/-- A condition goes on being held from the evaluation at which it was first seen. -/
theorem heldFrom_iff {holds : Bool} {p : Prop} [Decidable p] (h : holds = true ↔ p) (was : Option Nat) (t : Nat) :
    heldFrom holds was t = if p then some (was.getD t) else none := if_congr h rfl rfl

/-- The reference is stored whole and reported as its nearest code (R171, R174). -/
theorem putVimRef_leaves (r : Nat) (s : State) :
    (putVimRef r s).xph.ref = r ∧ (putVimRef r s).get XPH_VIM.VREF = min 4095 ((2 * r + 25) / 50) ∧
      s.KeepsBits (putVimRef r s) [XPH_VIM.VREF] := by
  refine ⟨rfl, ?_, (KeepsBits.of_regs ((KeepsBits.refl s).put XPH_VIM.VREF _) rfl)⟩
  refine (get_put_cut { s with xph := { s.xph with ref := r } } XPH_VIM.VREF _ rfl).trans (Nat.mod_eq_of_lt ?_)
  exact lt_of_le_of_lt (Nat.min_le_left _ _) (by decide)

/-- A step takes the reference towards the set-point and not past it (R171, R174). -/
theorem moveVimRef_leaves (step : Nat) (s : State) :
    (moveVimRef step s).xph.ref = (if s.xph.ref ≤ 25 * s.get XPH_VSET.CODE
        then min (25 * s.get XPH_VSET.CODE) (s.xph.ref + step)
        else max (25 * s.get XPH_VSET.CODE) (s.xph.ref - step)) ∧
      (moveVimRef step s).get XPH_VIM.VREF = min 4095 ((2 * (moveVimRef step s).xph.ref + 25) / 50) ∧
      s.KeepsBits (moveVimRef step s) [XPH_VIM.VREF] := by
  obtain ⟨href, hcode, hframe⟩ := putVimRef_leaves (if s.xph.ref ≤ 25 * s.get XPH_VSET.CODE
    then min (25 * s.get XPH_VSET.CODE) (s.xph.ref + step) else max (25 * s.get XPH_VSET.CODE) (s.xph.ref - step)) s
  exact ⟨href, hcode.trans (congrArg (fun r => min 4095 ((2 * r + 25) / 50)) href.symm), hframe⟩

/-- The mean of the conversions of some sense points, to the nearest code (R175). -/
def State.vimMean (s : State) (ps : List Nat) : Nat := (2 * (ps.map s.vimPoint).sum + ps.length) / (2 * ps.length)

/-- With no point included the reading stays (R175). -/
theorem combineVim_none {s : State} (h : s.vimPoints = []) : combineVim s = s := by
  unfold combineVim
  rw [h]

/-- With a point included the mean is stored, and the reference follows it in the first 20 µs of a start (R171, R175). -/
theorem combineVim_some {s z : State} (h : s.vimPoints ≠ []) (hz : s.put XPH_VIM.VIM (s.vimMean s.vimPoints) = z) :
    combineVim s = putVimRef (25 * z.get XPH_VIM.VIM) z ∨ combineVim s = vimWatch z := by
  obtain ⟨p, ps, hps⟩ := List.exists_cons_of_ne_nil h
  subst hz
  unfold combineVim
  rw [hps]
  exact ite_eq_or_eq _ _ _

/-- Only the reading and the reported reference of the window change, and no pulse or doorbell is sent (R175). -/
theorem combineVim_leaves (s : State) :
    (combineVim s).cbse = s.cbse ∧ (combineVim s).pst = s.pst ∧
      s.KeepsBits (combineVim s) [XPH_VIM.VIM, XPH_VIM.VREF] := by
  by_cases h : s.vimPoints = []
  · rw [combineVim_none h]
    exact ⟨rfl, rfl, (KeepsBits.refl s).mono (by simp)⟩
  · have hput := (KeepsBits.refl s).put XPH_VIM.VIM (s.vimMean s.vimPoints)
    rcases combineVim_some h rfl with heq | heq
    · rw [heq]
      exact ⟨rfl, rfl, (hput.mono (by simp)).trans ((putVimRef_leaves _ _).2.2.mono (by simp))⟩
    · rw [heq]
      exact ⟨rfl, rfl, (hput.mono (by simp)).of_regs (vimWatch_regs _)⟩

/-- The combined reading is the mean of the included points (R175). -/
theorem combineVim_reading {s : State} {ps : List Nat} (hps : s.vimPoints = ps) (hne : ps ≠ []) :
    (combineVim s).get XPH_VIM.VIM = s.vimMean ps % 4096 := by
  subst hps
  have hput : (s.put XPH_VIM.VIM (s.vimMean s.vimPoints)).get XPH_VIM.VIM = s.vimMean s.vimPoints % 4096 :=
    get_put_cut _ _ _ rfl
  rcases combineVim_some hne rfl with heq | heq
  · rw [heq, ← hput]
    exact (putVimRef_leaves _ _).2.2.get _ (by decide)
  · rw [heq, ← hput]
    rfl

/-! ### The commands of the front stage (R169 to R171) -/

/-- A front-stage command ends with a status (R169, R170). -/
def xphCmdDone (res : Nat) (s : State) : State := ((s.put XPH_CMD.PEND 0).put XPH_CMD.RES res).ring kXPH 7

/-- It leaves its status, PEND 0 and XPH offset 7, and no other field of the window (R169, R201). -/
theorem xphCmdDone_leaves {res : Nat} (hres : res < 2 ^ 16) (s : State) :
    (xphCmdDone res s).get XPH_CMD.RES = res ∧ (xphCmdDone res s).get XPH_CMD.PEND = 0 ∧
      (xphCmdDone res s).pst.port = s.pst.port ++ [32 * kXPH + 7] ∧
      s.KeepsBits (xphCmdDone res s) [XPH_CMD.RES, XPH_CMD.PEND] := by
  unfold xphCmdDone
  refine ⟨?_, ?_, rfl, ring_keepsBits (((KeepsBits.refl s).put _ _).put _ _) _ _⟩
  · rw [ring_get, get_put_cut _ _ _ rfl]
    exact Nat.mod_eq_of_lt hres
  · rw [ring_get, get_put_apart _ _ _ _ rfl, get_put_fit _ _ _ rfl]

/-- It leaves every other register. -/
theorem xphCmdDone_get {f : Fld} (h : f.addr ≠ XPH_CMD) (res : Nat) (s : State) : (xphCmdDone res s).get f = s.get f := by
  rw [xphCmdDone, ring_get, get_put_reg _ _ _ _ h, get_put_reg _ _ _ _ h]

/-- A permitted XPH_CMD write runs the command of its OP after the ripple accumulator has caught up (R169). -/
theorem completes_xphCommand {i : Instr} {req : Requester} {op : Nat} {s u : State} {post : State → Prop}
    (hexec : exec i s = .next (xphCmdWrite req op s)) (hp : s.Permits req XPH_CMD (BitVec.ofNat 32 op)) (hop : op < 16)
    (hcmd : frontCommand op (rippleCatch s) = u) (hpost : post u) : Completes i s post := by
  refine ⟨u, hexec.trans (congrArg _ ?_), hpost⟩
  rw [xphCmdWrite, gated_permits hp, fldGet_low4 hop, hcmd]

section Commands

variable {s : State} (hidle : s.get XPH_CMD.PEND = 0)
include hidle

/-- NOP (R169). -/
theorem frontCommand_nop : frontCommand 0 s = xphCmdDone stOK s := by
  simp [frontCommand, bit_of_get_zero hidle, xphCmdDone]

/-- A reserved OP (R169). -/
theorem frontCommand_reserved {op : Nat} (hop : 4 ≤ op) : frontCommand op s = xphCmdDone stBADPARAM s := by
  obtain ⟨n, rfl⟩ := Nat.exists_eq_add_of_le' hop
  simp [frontCommand, bit_of_get_zero hidle, xphCmdDone]

/-- START of a front stage that is OFF and ready (R169, R171). -/
theorem frontCommand_start (hoff : s.fsState = 0) (hready : s.startReady = true) :
    frontCommand 1 s = xphCmdDone stOK (startFront s) := by
  simp [frontCommand, bit_of_get_zero hidle, hoff, hready, xphCmdDone]

/-- START of one that is OFF and not ready (R169). -/
theorem frontCommand_start_notReady (hoff : s.fsState = 0) (hready : s.startReady = false) :
    frontCommand 1 s = xphCmdDone stNOTREADY s := by
  simp [frontCommand, bit_of_get_zero hidle, hoff, hready, xphCmdDone]

/-- STOP of a front stage that switches, with no region in use (R169). -/
theorem frontCommand_stop (hruns : s.fsState = 1 ∨ s.fsState = 2) (hregions : ∀ n ∈ s.liveRegions, s.rgnState n = 5) :
    frontCommand 2 s = xphCmdDone stOK (stopFront s) := by
  have hall : (s.liveRegions.all fun n => s.rgnState n == 5) = true := by simpa using hregions
  simp [frontCommand, bit_of_get_zero hidle, hruns, hall, xphCmdDone]

/-- CLEAR of a latch whose cause is gone (R199). -/
theorem frontCommand_clear (hlatched : s.fsState = 4) (hgone : s.causeGone = true) :
    frontCommand 3 s = xphCmdDone stOK (s.put XPH_STAT.STATE 0) := by
  simp [frontCommand, bit_of_get_zero hidle, hlatched, hgone, xphCmdDone]

/-- CLEAR of a latch whose cause stands (R199). -/
theorem frontCommand_clear_stands (hlatched : s.fsState = 4) (hgone : s.causeGone = false) :
    frontCommand 3 s = xphCmdDone stBUSY s := by
  simp [frontCommand, bit_of_get_zero hidle, hlatched, hgone, xphCmdDone]

end Commands

/-- An IDLE phase at START: its output is released and it is SHED (R171). -/
def phaseStarted (s : State) (p : Nat) : State :=
  (s.setPhid p { s.phid p with pwm := .hiZ, ilimRun := 0 }).put (XPH_PH_STAT.STATE p) 4

/-- START before the reference is set: every enabled phase is SHED and the front stage SOFTSTART (R171). -/
def startedFront (s : State) : State :=
  let u := s.each (s.phasesIn 1) phaseStarted
  { u with xph := { u.xph with acc := 0, ripEdges := u.tim.edges, refOn := false, last := none, lastTrig := none,
                               dwell := false, back := [], slots := [] } }.put XPH_STAT.STATE 1

theorem startFront_eq (s : State) :
    startFront s = putVimRef (25 * (startedFront s).get XPH_VIM.VIM) (startedFront s) := by
  have hvim : (startedFront s).get XPH_VIM.VIM = (s.each (s.phasesIn 1) phaseStarted).get XPH_VIM.VIM :=
    get_put_reg _ _ _ _ (by decide)
  rw [hvim]
  rfl

/-- It leaves SOFTSTART with the reference at the VIM reading, which does not ramp yet (R171). -/
theorem startFront_leaves (s : State) :
    (startFront s).fsState = 1 ∧ (startFront s).xph.ref = 25 * s.get XPH_VIM.VIM ∧ (startFront s).xph.refOn = false ∧
      (startFront s).pst = s.pst := by
  have hvim : (startedFront s).get XPH_VIM.VIM = s.get XPH_VIM.VIM :=
    (get_put_reg _ _ _ _ (by decide)).trans
      (each_field (State.get · XPH_VIM.VIM) (s.phasesIn 1) phaseStarted s fun _ _ =>
        get_put_reg _ _ _ _ (lowReg_ne_phaseReg (by decide)))
  rw [startFront_eq, hvim]
  refine ⟨?_, rfl, rfl, each_field State.pst (s.phasesIn 1) phaseStarted s fun _ _ => rfl⟩
  exact ((putVimRef_leaves _ (startedFront s)).2.2.get XPH_STAT.STATE (by decide)).trans (get_put_fit _ _ _ rfl)

/-- STOP leaves the front stage OFF without power good (R169). -/
theorem stopFront_leaves (s : State) : (stopFront s).fsState = 0 ∧ (stopFront s).get XPH_STAT.PG = 0 :=
  ⟨(get_put_apart _ _ _ _ rfl).trans (get_put_fit _ _ _ rfl), get_put_fit _ _ _ rfl⟩

/-! ### The latches of the front stage (R197, R200) -/

/-- What a latch reports (R197, R201). -/
def latchMarks (k : Nat) (s : State) : State :=
  (((s.put XPH_STAT.STATE 4).put XPH_STAT.CAUSE k).put XPH_STAT.PG 0).put XPH_EVT.LATCH 1

/-- LATCHED with its cause, PG 0 and the event. -/
theorem latchMarks_leaves {k : Nat} (hk : k < 16) (s : State) :
    (latchMarks k s).fsState = 4 ∧ (latchMarks k s).get XPH_STAT.CAUSE = k ∧ (latchMarks k s).get XPH_STAT.PG = 0 ∧
      (latchMarks k s).get XPH_EVT.LATCH = 1 ∧
      s.KeepsBits (latchMarks k s) [XPH_STAT.STATE, XPH_STAT.CAUSE, XPH_STAT.PG, XPH_EVT.LATCH] := by
  unfold latchMarks State.fsState
  refine ⟨?_, ?_, ?_, get_put_fit _ _ _ rfl, ((((KeepsBits.refl s).put _ _).put _ _).put _ _).put _ _ |>.mono (by simp)⟩
  · simp (disch := decide) only [get_put_other, get_put_fit]
  · simp (disch := decide) only [get_put_other, get_put_same]
    exact Nat.mod_eq_of_lt hk
  · simp (disch := decide) only [get_put_other, get_put_fit]

/-- Nothing else of the window changes once the pool is idle (R197). -/
theorem frontLatch_regs (k : Nat) (s : State) :
    (frontLatch k s).regs = (latchMarks k (idlePool (rippleCatch s))).regs := by
  unfold frontLatch
  generalize idlePool (rippleCatch s) = z
  rfl

/-- A latch leaves LATCHED with its cause, PG 0 and its event over the idle pool (R197, R201). -/
theorem frontLatch_leaves {k : Nat} (hk : k < 16) (s : State) :
    (frontLatch k s).fsState = 4 ∧ (frontLatch k s).get XPH_STAT.CAUSE = k ∧ (frontLatch k s).get XPH_STAT.PG = 0 ∧
      (frontLatch k s).get XPH_EVT.LATCH = 1 ∧
      (idlePool (rippleCatch s)).KeepsBits (frontLatch k s)
        [XPH_STAT.STATE, XPH_STAT.CAUSE, XPH_STAT.PG, XPH_EVT.LATCH] := by
  obtain ⟨hstate, hcause, hpg, hevt, hframe⟩ := latchMarks_leaves hk (idlePool (rippleCatch s))
  have hget (f : Fld) : (frontLatch k s).get f = (latchMarks k (idlePool (rippleCatch s))).get f :=
    view_of_regs (State.get · f) (fun _ => rfl) (frontLatch_regs k s)
  exact ⟨(hget _).trans hstate, (hget _).trans hcause, (hget _).trans hpg, (hget _).trans hevt,
    hframe.of_regs (frontLatch_regs k s)⟩

/-- Soft start ends in RUN with power good and its event (R172, R201). -/
theorem runReached_leaves (s : State) :
    let t := (vimWatch (((s.put XPH_STAT.STATE 2).put XPH_STAT.PG 1).put XPH_EVT.RUN 1)).ring kXPH 2
    t.fsState = 2 ∧ t.get XPH_STAT.PG = 1 ∧ t.get XPH_EVT.RUN = 1 ∧ t.pst.port = s.pst.port ++ [32 * kXPH + 2] ∧
      s.KeepsBits t [XPH_STAT.STATE, XPH_STAT.PG, XPH_EVT.RUN] := by
  intro t
  have hget (f : Fld) : t.get f = (((s.put XPH_STAT.STATE 2).put XPH_STAT.PG 1).put XPH_EVT.RUN 1).get f := rfl
  refine ⟨?_, ?_, ?_, rfl, KeepsBits.of_regs ((((KeepsBits.refl s).put XPH_STAT.STATE 2).put XPH_STAT.PG 1).put
    XPH_EVT.RUN 1 |>.mono (by simp)) rfl⟩
  · rw [State.fsState, hget]
    simp (disch := decide) only [get_put_other, get_put_fit]
  · rw [hget]
    simp (disch := decide) only [get_put_other, get_put_fit]
  · rw [hget]
    simp (disch := decide) only [get_put_fit]

/-! ### The exclusion of a sense point (R176, R177) -/

/-- The exclusion bit is one bit of a sense-point register. -/
theorem ptExcl_place (k : Nat) : (ptExcl k).lo = (ptExcl k).hi ∧ (ptExcl k).hi < 32 ∧
    ((ptExcl k).addr = XPH_VIMPT01 ∨ (ptExcl k).addr = XPH_VIMPT23) := by
  match k with
  | 0 | 1 | 2 => decide
  | _ + 3 => exact ⟨rfl, show 31 < 32 by decide, .inr rfl⟩

/-- A point is excluded, before the front stage looks at how many are left (R176, R201). -/
def pointExcluded (k : Nat) (s : State) : State :=
  ((combineVim (({ s with xph := { s.xph with ptRun := mapSet 0 s.xph.ptRun k 0 } }.put (ptExcl k) 1).put
    XPH_EVT.PT_EXCL 1)).pulse 8).ring kXPH 6

/-- It leaves its bit and event, source 8 pulsed and XPH offset 6, with the mean of the points left (R176, R177, R201). -/
theorem pointExcluded_leaves (k : Nat) (s : State) :
    (pointExcluded k s).get (ptExcl k) = 1 ∧ (pointExcluded k s).get XPH_EVT.PT_EXCL = 1 ∧
      (pointExcluded k s).cbse.pulses = s.cbse.pulses ++ [8] ∧
      (pointExcluded k s).pst.port = s.pst.port ++ [32 * kXPH + 6] ∧
      s.KeepsBits (pointExcluded k s) [ptExcl k, XPH_EVT.PT_EXCL, XPH_VIM.VIM, XPH_VIM.VREF] := by
  obtain ⟨hlo, hhi, haddr⟩ := ptExcl_place k
  have hvim : (ptExcl k).addr ≠ XPH_VIM := by rcases haddr with h | h <;> rw [h] <;> decide
  have hevt : (ptExcl k).addr ≠ XPH_EVT := by rcases haddr with h | h <;> rw [h] <;> decide
  unfold pointExcluded
  generalize hz : { s with xph := { s.xph with ptRun := mapSet 0 s.xph.ptRun k 0 } } = z
  obtain ⟨hcbse, hpst, hframe⟩ := combineVim_leaves ((z.put (ptExcl k) 1).put XPH_EVT.PT_EXCL 1)
  have hapart (g : Fld) (hg : g.addr ≠ XPH_VIM) : ∀ f ∈ [XPH_VIM.VIM, XPH_VIM.VREF],
      g.addr ≠ f.addr ∨ f.hi < g.lo ∨ g.hi < f.lo := by
    simp [XPH_VIM.VIM, XPH_VIM.VREF, hg]
  have hkeeps : s.KeepsBits ((z.put (ptExcl k) 1).put XPH_EVT.PT_EXCL 1) [XPH_EVT.PT_EXCL, ptExcl k] :=
    ((keeps_regs_eq (hz ▸ rfl)).put _ _).put _ _
  refine ⟨?_, ?_, ?_, ?_, ring_keepsBits (pulse_keepsBits ((hkeeps.mono (by simp)).trans (hframe.mono (by simp))) _) _ _⟩
  · rw [ring_get, pulse_get, hframe.get _ (hapart _ hvim), get_put_reg _ _ _ _ hevt,
      get_put_one _ _ (le_of_eq hlo) hhi]
  · rw [ring_get, pulse_get, hframe.get _ (hapart _ (by decide)), get_put_fit _ _ _ rfl]
  · rw [← show z.cbse = s.cbse from hz ▸ rfl]
    exact (pulse_pulses _ 8).trans (congrArg (fun c => c.pulses ++ [8]) hcbse)
  · rw [← show z.pst = s.pst from hz ▸ rfl]
    exact (ring_port _ kXPH 6).trans (congrArg (fun c => c.port ++ [32 * kXPH + 6]) hpst)

/-- Settles O21, command by command and event by event. That START, STOP and CLEAR end in the step of their write is log
entry 30, VREF as the nearest code with halves upwards and a start from either side are log entry 34, and the edges at which
the reading is compared are log entry 129. -/
theorem frontStageCommandsComplete : Obligations.FrontStageCommandsComplete := by
  refine ⟨fun req s hp hidle hoff hready => ?_, fun req s hp hidle hoff hready => ?_,
    fun req s hp hidle hruns hregions => ?_, fun req s hp hidle hlatched hgone => ?_,
    fun req s hp hidle hlatched hgone => ?_, fun req s hp hidle => ?_, fun req op s hp hidle hop => ?_,
    fun e s hstate hwaits hrun => ?_, fun e s hstate hramps hrun => ?_, fun e s hstate hrun => ?_,
    fun e t₀ s hstate hramps href hnear hlate hrun => ?_, fun e s hnot hrun => ?_,
    fun k s hk => ⟨_, rfl, frontLatch_leaves hk s⟩, fun e t₀ s hstate hlow hlate hrun => ?_,
    fun e t₀ s hstate hunder hlate hrun => ?_, fun e s hstate hrun => ?_, fun s => ?_, fun req up v s hp => ?_,
    fun e k s hincluded hthree hdisagrees hrun => ?_⟩
  · obtain ⟨hstate, href, hramps, hpst⟩ := startFront_leaves (rippleCatch s)
    obtain ⟨hres, hpend, hport, hframe⟩ := xphCmdDone_leaves (res := stOK) (by decide) (startFront (rippleCatch s))
    refine completes_xphCommand rfl hp (by decide) (frontCommand_start (by simpa) (by simpa) (by simpa))
      ⟨_, rfl, hres, hpend, (xphCmdDone_get (by decide) _ _).trans hstate, href.trans (by simp), hramps, ?_, hframe⟩
    rw [hport, hpst, rippleCatch_pst]
  · obtain ⟨hres, hpend, hport, hframe⟩ := xphCmdDone_leaves (res := stNOTREADY) (by decide) (rippleCatch s)
    exact completes_xphCommand rfl hp (by decide) (frontCommand_start_notReady (by simpa) (by simpa) (by simpa))
      ⟨hres, hpend, by simpa using hport, ((rippleCatch_keepsBits s).mono (by simp)).trans hframe⟩
  · obtain ⟨hoff, hpg⟩ := stopFront_leaves (rippleCatch s)
    obtain ⟨hres, hpend, -, hframe⟩ := xphCmdDone_leaves (res := stOK) (by decide) (stopFront (rippleCatch s))
    exact completes_xphCommand rfl hp (by decide) (frontCommand_stop (by simpa) (by simpa) (by simpa))
      ⟨hres, hpend, (xphCmdDone_get (by decide) _ _).trans hoff, (xphCmdDone_get (by decide) _ _).trans hpg, hframe⟩
  · obtain ⟨hres, hpend, hport, hframe⟩ :=
      xphCmdDone_leaves (res := stOK) (by decide) ((rippleCatch s).put XPH_STAT.STATE 0)
    refine completes_xphCommand rfl hp (by decide) (frontCommand_clear (by simpa) (by simpa) (by simpa))
      ⟨hres, hpend, (xphCmdDone_get (by decide) _ _).trans (get_put_fit _ _ _ rfl), by simpa using hport, ?_⟩
    exact (((rippleCatch_keepsBits s).put XPH_STAT.STATE 0).mono (by simp)).trans (hframe.mono (by simp))
  · obtain ⟨hres, hpend, hport, hframe⟩ := xphCmdDone_leaves (res := stBUSY) (by decide) (rippleCatch s)
    exact completes_xphCommand rfl hp (by decide) (frontCommand_clear_stands (by simpa) (by simpa) (by simpa))
      ⟨hres, hpend, (xphCmdDone_get (by decide) _ _).trans (by simpa), by simpa using hport,
        ((rippleCatch_keepsBits s).mono (by simp)).trans hframe⟩
  · obtain ⟨hres, hpend, hport, hframe⟩ := xphCmdDone_leaves (res := stOK) (by decide) (rippleCatch s)
    exact completes_xphCommand rfl hp (by decide) (frontCommand_nop (by simpa))
      ⟨hres, hpend, by simpa using hport, ((rippleCatch_keepsBits s).mono (by simp)).trans hframe⟩
  · obtain ⟨hres, hpend, hport, hframe⟩ := xphCmdDone_leaves (res := stBADPARAM) (by decide) (rippleCatch s)
    exact completes_xphCommand rfl hp op.isLt (frontCommand_reserved (by simpa) hop)
      ⟨hres, hpend, by simpa using hport, ((rippleCatch_keepsBits s).mono (by simp)).trans hframe⟩
  · exact completes_frontAt rfl hrun (if_pos (by simp [hstate, hwaits])) ⟨_, rfl, by simp⟩
  · obtain ⟨href, hcode, hframe⟩ := moveVimRef_leaves (2 * s.get XPH_SS.SLOPE) (rippleCatch (s.advanceTo e))
    refine completes_frontAt rfl hrun ((if_pos (by simp [hstate, hramps])).trans (by simp))
      ⟨href.trans (by simp), hcode, ((caught_keepsBits s e).mono (by simp)).trans hframe⟩
  · obtain ⟨href, hcode, hframe⟩ := moveVimRef_leaves (20 * s.get XPH_VSET.SLEW) (rippleCatch (s.advanceTo e))
    refine completes_frontAt rfl hrun ((if_pos (by simp [hstate])).trans (by simp))
      ⟨href.trans (by simp), hcode, ((caught_keepsBits s e).mono (by simp)).trans hframe⟩
  · obtain ⟨hstate', hpg, hevt, hport, hframe⟩ := runReached_leaves (rippleCatch (s.advanceTo e))
    exact completes_frontAt rfl hrun (if_pos (by simp [hstate, hramps, href, hnear, hlate]))
      ⟨hstate', hpg, hevt, by simpa using hport, ((caught_keepsBits s e).mono (by simp)).trans hframe⟩
  · refine completes_frontAt rfl hrun (if_neg ?_) rfl
    rintro ⟨hstate, hramps, href, hheld⟩
    simp only [rippleCatch_xph, advanceTo_xph, rippleCatch_fsState, advanceTo_fsState, rippleCatch_get,
      advanceTo_get] at hstate hramps href hheld
    rcases hnot with h | h | h | h
    · exact h hstate
    · exact absurd hramps (by simp [h])
    · exact h href
    · exact absurd hheld (by simp [h])
  · exact completes_frontAt rfl hrun (if_pos (by simp [hstate, hlow, hlate])) rfl
  · exact completes_frontAt rfl hrun (if_pos (by simp [hstate, hunder, hlate])) rfl
  · exact completes_frontAt rfl hrun (if_pos (by simp [hstate])) rfl
  · exact ⟨rfl, heldFrom_iff (by simp) _ _, heldFrom_iff (by simp) _ _, heldFrom_iff (by simp [and_assoc]) _ _⟩
  · exact ⟨_, congrArg Host.Outcome.next (gated_permits hp _), _, rfl, rfl, (combineVim_leaves _).2.2,
      fun ps hps hne => combineVim_reading hps hne⟩
  · obtain ⟨hbit, hevt, hpulse, hport, hframe⟩ := pointExcluded_leaves k (rippleCatch (s.advanceTo e))
    refine completes_frontAt rfl hrun (if_pos ?_) ⟨pointExcluded k (rippleCatch (s.advanceTo e)), rfl, hbit, hevt,
      by simpa using hpulse, by simpa using hport, ((caught_keepsBits s e).mono (by simp)).trans hframe⟩
    simpa [hthree, hdisagrees] using hincluded

/-! ### A write of XPH_VSET (R174) -/

/-- The mask of a field has no 1 outside the field. -/
theorem fldMask_getLsbD_other {hi lo i : Nat} (h : ¬ (lo ≤ i ∧ i ≤ hi)) : (fldMask hi lo).getLsbD i = false := by
  simp only [fldMask, BitVec.getLsbD_ofNat, Nat.testBit_mul_two_pow, Nat.testBit_two_pow_sub_one, Bool.and_eq_false_iff,
    decide_eq_false_iff_not]
  omega

/-- Whatever its access code, a field's store leaves every bit outside the field (R17). -/
theorem storeField_getLsbD_other (fresh v acc : Word) {f : FieldDef} {i : Nat} (h : ¬ (f.lo ≤ i ∧ i ≤ f.hi)) :
    (storeField fresh v acc f).getLsbD i = acc.getLsbD i := by
  have hmask := fldMask_getLsbD_other h
  have hstored (x : Nat) :
      (if f.least ≤ x ∧ x ≤ f.most then fldSet acc f.hi f.lo x else acc).getLsbD i = acc.getLsbD i := by
    split
    · exact fldSet_getLsbD_other _ _ _ _ _ h
    · rfl
  unfold storeField
  cases f.acc with
  | rw => exact hstored _
  | w1c =>
    by_cases hi : i < 32
    · simp only [BitVec.getLsbD_and, BitVec.getLsbD_not, hmask, hi, Bool.and_false, Bool.false_and, Bool.not_false,
        decide_true, Bool.and_true]
    · rw [BitVec.getLsbD_of_ge _ _ (Nat.le_of_not_lt hi), BitVec.getLsbD_of_ge _ _ (Nat.le_of_not_lt hi)]
  | w1s => simp only [BitVec.getLsbD_or, BitVec.getLsbD_and, hmask, Bool.and_false, Bool.or_false]
  | ro | wo | rc => rfl

/-- A register's write leaves the bits outside its fields (R17). -/
theorem storeWord_getLsbD_other (r : RegDef) (fresh old v : Word) {i : Nat}
    (h : ∀ f ∈ r.fields, ¬ (f.lo ≤ i ∧ i ≤ f.hi)) : (storeWord r fresh old v).getLsbD i = old.getLsbD i := by
  unfold storeWord
  generalize r.fields = fs at h
  induction fs generalizing old with
  | nil => rfl
  | cons f fs ih =>
    rw [List.foldl_cons, ih _ fun g hg => h g (List.mem_cons_of_mem _ hg)]
    exact storeField_getLsbD_other fresh v old (h f List.mem_cons_self)

/-- A write of a register is framed by the fields of its table. -/
theorem storeReg_frame {a : Nat} {r : RegDef} (hr : regDef? a = some r) (v : Word) (s : State) :
    s.Frame (storeReg a v s) (r.fields.map fun f => ⟨a, f.hi, f.lo⟩) := by
  refine ⟨fun b i hb => ?_, by simp only [storeReg, hr]; rfl⟩
  by_cases hab : b = a
  · rw [hab, storeReg_rd_same hr]
    exact storeWord_getLsbD_other r _ _ _ fun f hf hi =>
      hb _ (List.mem_map_of_mem hf) ⟨hab.symm, hi⟩
  · rw [storeReg_rd_other hab]

/-- The table of XPH_VSET: SLEW from 1, and CODE clamped to 1,280..1,920 (R174). -/
theorem regDef?_XPH_VSET :
    regDef? XPH_VSET = some ⟨XPH_VSET, 4, 0, 1, 4, 0, 1, 0x40640, false, [frange 23 16 1 255, fvim 11 0]⟩ := rfl

/-- A write of XPH_VSET limits CODE, keeps SLEW against 0, and leaves everything else (R19, R174). -/
theorem storeReg_XPH_VSET_leaves (v : Word) (s : State) :
    (storeReg XPH_VSET v s).get XPH_VSET.CODE = max 1280 (min 1920 (fldGet v 11 0)) ∧
      (storeReg XPH_VSET v s).get XPH_VSET.SLEW =
        (if fldGet v 23 16 = 0 then s.get XPH_VSET.SLEW else fldGet v 23 16) ∧
      s.Frame (storeReg XPH_VSET v s) [XPH_VSET.CODE, XPH_VSET.SLEW] := by
  obtain ⟨was, -, hcode⟩ := storeReg_field regDef?_XPH_VSET v s (f := fvim 11 0) (by simp)
  obtain ⟨old, hold, hslew⟩ := storeReg_field regDef?_XPH_VSET v s (f := frange 23 16 1 255) (by simp)
  have hwidth : fldGet v 23 16 < 2 ^ 8 := fldGet_lt v 23 16
  refine ⟨hcode.trans (storeField_clamped (by decide) rfl rfl _ v was), ?_, ?_⟩
  · refine hslew.trans ((storeField_rw (by decide) rfl rfl _ v old).trans ?_)
    rw [hold]
    by_cases h : fldGet v 23 16 = 0
    · rw [if_pos h]
      exact if_neg fun hlegal => absurd (h ▸ hlegal.1) (by decide)
    · rw [if_neg h]
      exact if_pos ⟨Nat.one_le_iff_ne_zero.mpr h, Nat.le_of_lt_succ hwidth⟩
  · obtain ⟨hbits, hrest⟩ := storeReg_frame regDef?_XPH_VSET v s
    exact ⟨hbits.mono (by simp [XPH_VSET.CODE, XPH_VSET.SLEW, frange, fvim]), hrest⟩

/-! ### Triggers and the ends of on-times (R178 to R185, R191) -/

/-- A trigger begins the trimmed on-time of its phase, and no register and no other phase changes (R178). -/
theorem firePhase_leaves (p x : Nat) {s z : State} (hregs : z.regs = s.regs) (hph : z.ph = s.ph) :
    ((firePhase p x z).phid p).pwm = .high ∧ ((firePhase p x z).phid p).start = x ∧
      ((firePhase p x z).phid p).ton = s.tOn p ∧ (∀ q, q ≠ p → (firePhase p x z).phid q = s.phid q) ∧
      (firePhase p x z).regs = s.regs := by
  have hphid (q : Nat) : (firePhase p x z).phid q =
      (z.setPhid p { z.phid p with pwm := .high, start := x, ton := z.tOn p }).phid q := rfl
  rw [hphid p, phid_setPhid_same]
  refine ⟨rfl, rfl, view_of_regs (State.tOn · p) (fun _ => rfl) hregs, fun q hq => ?_, hregs⟩
  rw [hphid q, phid_setPhid_other _ _ _ _ hq, phid_congr hph]

/-- The state with other slots due (R184, R185). -/
def State.withSlots (s : State) (l : List (Nat × Nat)) : State := { s with xph := { s.xph with slots := l } }

/-- An event that gives one phase a new output changes that phase alone. -/
theorem setPhid_caught_leaves (p : Nat) (h : PhHid) (s : State) :
    ((rippleCatch s).setPhid p h).phid p = h ∧ (∀ q, q ≠ p → ((rippleCatch s).setPhid p h).phid q = s.phid q) ∧
      { (rippleCatch s).setPhid p h with ph := s.ph } = rippleCatch s := by
  refine ⟨phid_setPhid_same _ p h, fun q hq => ?_, ?_⟩
  · rw [phid_setPhid_other _ p q h hq, rippleCatch_phid]
  · rw [← rippleCatch_ph s]
    rfl

/-- ILIM ends an on-time: it is counted, and ILIM_SEEN is set (R181). -/
def limitEnded (p x : Nat) (s : State) : State :=
  let u := { s with tlm := { s.tlm with nlimt := mapSet 0 s.tlm.nlimt p (mapGet 0 s.tlm.nlimt p + 1) } }
  smbLatch ((endOnTime p x ((s.phid p).ilimRun + 1) u).put (XPH_PH_STAT.ILIM_SEEN p) 1)

/-- It leaves PWM low, one more in the run of ILIM, and ILIM_SEEN alone of the window (R181). -/
theorem limitEnded_leaves (p x : Nat) (s : State) :
    (limitEnded p x s).phid p = { s.phid p with pwm := .low, ended := some x, ilimRun := (s.phid p).ilimRun + 1 } ∧
      (limitEnded p x s).get (XPH_PH_STAT.ILIM_SEEN p) = 1 ∧
      s.KeepsBits (limitEnded p x s) [XPH_PH_STAT.ILIM_SEEN p] := by
  have hphid : (limitEnded p x s).phid p =
      (s.setPhid p { s.phid p with pwm := .low, ended := some x, ilimRun := (s.phid p).ilimRun + 1 }).phid p := rfl
  refine ⟨hphid.trans (phid_setPhid_same s p _), (smbLatch_get _ _).trans (get_put_fit _ _ _ rfl), smbLatch_keepsBits ?_⟩
  exact (endOnTime_keepsBits (keeps_regs_eq rfl) _ _ _).put _ _

/-- The eighth on-time in a row that ILIM ends latches the phase (R181, R196). -/
theorem completes_cycleLimit {p : PhaseIx} {x : Nat} {s : State} {post : State → Prop} (hrun : s.rst.inst = false)
    (hhigh : (s.phid p).pwm = .high)
    (hpost : post (if 8 ≤ (s.phid p).ilimRun + 1 then phaseLatch p 2 (limitEnded p x (rippleCatch s))
      else limitEnded p x (rippleCatch s))) : Completes (.cycleLimit p x) s post := by
  refine completes_front rfl hrun (if_pos (by simpa)) ?_
  rw [rippleCatch_phid]
  rwa [limitEnded, rippleCatch_phid] at hpost

/-- The first returning phase fires, and the others wait (R191). -/
theorem completes_returnPhaseFire {x p : Nat} {rest : List Nat} {s u : State} {post : State → Prop}
    (hrun : s.rst.inst = false) (hback : s.xph.back = p :: rest) (hruns : s.fsRuns = true) (hactive : s.phState p = 2)
    (hblanked : s.blanked x = true) (hready : s.phReady p x = true)
    (hu : firePhase p x (rippleCatch s) = u) (hpost : post { u with xph := { u.xph with back := rest } }) :
    Completes (.returnPhaseFire x) s post := by
  subst hu
  refine completes_front rfl hrun ?_ hpost
  simp [hback, hruns, hactive, hblanked, hready]

/-- A SHEDDING phase at zero current stops: SHED, or DISABLED with EN 0 (R166, R188). -/
def shedEnded (p : Nat) (s : State) : State :=
  (s.setPhid p { s.phid p with pwm := .hiZ }).put (XPH_PH_STAT.STATE p) (if s.bit (XPH_PH_CFG.EN p) then 4 else 0)

/-- It leaves that state alone of the window, and the output high-impedance (R182, R188). -/
theorem shedEnded_leaves (p : Nat) (s : State) :
    (shedEnded p s).phid p = { s.phid p with pwm := .hiZ } ∧
      (shedEnded p s).phState p = (if s.get (XPH_PH_CFG.EN p) = 0 then 0 else 4) ∧
      s.KeepsBits (shedEnded p s) [XPH_PH_STAT.STATE p] := by
  refine ⟨phid_setPhid_same s p _, ?_, (setPhid_keepsBits (KeepsBits.refl s) _ _).put _ _⟩
  have hstate : (shedEnded p s).phState p = (if s.bit (XPH_PH_CFG.EN p) then 4 else 0) % 2 ^ 3 := get_put_cut _ _ _ rfl
  by_cases hen : s.get (XPH_PH_CFG.EN p) = 0
  · rw [hstate, bit_of_get_zero hen, if_pos hen]
    rfl
  · have hbit : s.bit (XPH_PH_CFG.EN p) = true := by simpa [State.bit] using hen
    rw [hstate, hbit, if_neg hen]
    rfl

/-- Settles O22, event by event: each comes down to the one phase that it fires or stops. -/
theorem frontStageSwitchingCommandsComplete : Obligations.FrontStageSwitchingCommandsComplete := by
  refine ⟨fun req v s hp => ⟨_, congrArg Host.Outcome.next (gated_permits hp _), storeReg_XPH_VSET_leaves v s⟩,
    fun x uv p s hmay hfree hblanked hbelow hnext hready hrun => ?_, fun x uv s hnot hrun => ?_,
    fun p x s hmay hlock hactive hready hslot hrun => ?_, fun x uv p s hmay hlock hblanked hbelow hnext hrun => ?_,
    fun x p rest s hback hruns hactive hblanked hready hrun => ?_, fun p x s hhigh hover hrun => ?_,
    fun p x s hhigh hrun => ?_, fun p s hstate hactive hde hlow hrun => ?_,
    fun p s hruns hlow hactive hemulates hrun => ?_, fun p s hruns hlow hshedding hrun => ?_⟩
  · obtain ⟨hpwm, hstart, hton, hother, hregs⟩ := firePhase_leaves p x (rippleCatch_regs s) (rippleCatch_ph s)
    refine completes_front rfl hrun ((if_pos (by simpa [hmay, hblanked, hbelow, State.bit] using hfree)).trans ?_)
      ⟨rfl, rfl, by simp [firePhase], rfl, hpwm, hstart, hton, hother, hregs, by simp [firePhase]⟩
    simp [hnext, hready]
  · refine completes_front rfl hrun ?_ rfl
    simp only [rippleCatch_mayTrigger, rippleCatch_bit, rippleCatch_blanked, rippleCatch_nextPhase, rippleCatch_phReady]
    rcases hnot with h | ⟨hmode, hlock⟩ | h | h | ⟨p, hnext, hready⟩
    · simp [h]
    · simp [State.bit, hmode, hlock]
    · simp [h]
    · simp [h]
    · simp [hnext, hready]
  · obtain ⟨hpwm, hstart, hton, hother, hregs⟩ := firePhase_leaves p x
      (z := (rippleCatch s).withSlots (slotUsed p (rippleCatch s).xph.slots)) (rippleCatch_regs s) (rippleCatch_ph s)
    exact completes_front rfl hrun (if_pos (by simpa [State.bit, hmay, hlock, hactive, hready] using hslot))
      ⟨p.val, rfl, rfl, rfl, by simp [firePhase], rfl, hpwm, hstart, hton, hother, hregs, by simp [firePhase]⟩
  · obtain ⟨hpwm, hstart, hton, hother, hregs⟩ := firePhase_leaves p x
      (z := (rippleCatch s).withSlots ((rippleCatch s).xph.slots.filter (·.1 != p))) (rippleCatch_regs s) (rippleCatch_ph s)
    refine completes_front rfl hrun ((if_pos (by simp [State.bit, hmay, hlock, hblanked, hbelow])).trans ?_)
      ⟨rfl, rfl, by simp [firePhase, State.withSlots], rfl, hpwm, hstart, hton, hother, hregs,
        by simp [firePhase, State.withSlots]⟩
    simp only [rippleCatch_nextReady, hnext]
    rfl
  · obtain ⟨hpwm, hstart, hton, hother, hregs⟩ := firePhase_leaves p x (rippleCatch_regs s) (rippleCatch_ph s)
    exact completes_returnPhaseFire hrun hback hruns hactive hblanked hready rfl
      ⟨rfl, rfl, rfl, by simp [firePhase], rfl, hpwm, hstart, hton, hother, hregs⟩
  · rw [← rippleCatch_phid]
    exact completes_front rfl hrun (if_pos (by simp [hhigh, hover])) (setPhid_caught_leaves p _ s)
  · obtain ⟨hphid, hseen, hframe⟩ := limitEnded_leaves p x (rippleCatch s)
    exact completes_cycleLimit hrun hhigh ⟨_, rfl, by simpa using hphid, hseen,
      ((rippleCatch_keepsBits s).mono (by simp)).trans hframe⟩
  · rw [← rippleCatch_phid]
    exact completes_front rfl hrun (if_pos (by simp [hstate, hactive, hde, hlow])) (setPhid_caught_leaves p _ s)
  · rw [← rippleCatch_phid]
    exact completes_front rfl hrun ((if_pos (by simpa [hruns, hactive, hlow] using hemulates)).trans
      (if_neg (by simp [hactive]))) (setPhid_caught_leaves p _ s)
  · obtain ⟨hphid, hstate, hframe⟩ := shedEnded_leaves p (rippleCatch s)
    exact completes_front rfl hrun ((if_pos (by simp [hruns, hshedding, hlow])).trans (if_pos (by simpa)))
      ⟨shedEnded p (rippleCatch s), rfl, by simpa using hphid, by simpa using hstate,
        ((rippleCatch_keepsBits s).mono (by simp)).trans hframe⟩

/-! ### Sync (R183 to R186) -/

/-- A period in range, by its bounds (R183). -/
theorem syncRange_iff (p : Nat) : syncRange p = true ↔ 2133 ≤ p ∧ p ≤ 5334 := by
  simp only [syncRange, Bool.and_eq_true, decide_eq_true_eq]

/-- The latest 8 periods meet R183: each in range, and within 1 % of the first of them. -/
theorem syncMet_iff {p : Nat} {ps : List Nat} {s : State} (h : s.xph.periods = p :: ps) :
    s.syncMet = true ↔ ps.length = 7 ∧
      ∀ q ∈ p :: ps, 2133 ≤ q ∧ q ≤ 5334 ∧ 100 * (q : Int) ≤ 101 * p ∧ 99 * (p : Int) ≤ 100 * q := by
  have hnear (q : Nat) : (syncRange q && decide (100 * codeGap p q ≤ p)) = true ↔
      2133 ≤ q ∧ q ≤ 5334 ∧ 100 * (q : Int) ≤ 101 * p ∧ 99 * (p : Int) ≤ 100 * q := by
    rw [Bool.and_eq_true, syncRange_iff, decide_eq_true_eq, codeGap]
    omega
  unfold State.syncMet
  rw [h]
  simp only [Bool.and_eq_true, beq_iff_eq, List.all_eq_true, hnear]

@[simp] theorem syncPeriod_rd (period : Nat) (s : State) (a : Nat) : (syncPeriod period s).rd a = s.rd a := rfl
@[simp] theorem syncPeriod_get (period : Nat) (s : State) (f : Fld) : (syncPeriod period s).get f = s.get f := rfl
@[simp] theorem syncPeriod_fsRuns (period : Nat) (s : State) : (syncPeriod period s).fsRuns = s.fsRuns := rfl
@[simp] theorem syncPeriod_pst (period : Nat) (s : State) : (syncPeriod period s).pst = s.pst := rfl
@[simp] theorem syncPeriod_lostSync (period : Nat) (s : State) :
    (syncPeriod period s).xph.lostSync = s.xph.lostSync := rfl

/-- Whether the periods meet R183 shows in the kept periods alone. -/
theorem syncMet_of_periods {s t : State} (h : t.xph.periods = s.xph.periods) : t.syncMet = s.syncMet := by
  unfold State.syncMet
  rw [h]

/-- The periods measured do not depend on the ripple or the time. -/
theorem syncPeriod_caught_syncMet (period : Nat) (s : State) (e : Dword) :
    (syncPeriod period (rippleCatch (s.advanceTo e))).syncMet = (syncPeriod period s).syncMet :=
  syncMet_of_periods (by simp [syncPeriod])

/-- The slots of an edge: one for each ACTIVE phase beside those still waiting, whatever the ripple (R184). -/
theorem syncEdge_caught_slots (x period : Nat) (s : State) :
    (syncEdge x period (syncPeriod period (rippleCatch s))).xph.slots =
      s.xph.slots.filter (fun e => decide (e.2 ≤ x)) ++
        s.actives.zipIdx.map (fun e => (e.1, x + (2 * s.slotOffset e.1 e.2 s.actives.length * period + 64) / 128)) :=
  view_rippleCatch (fun s => (syncEdge x period (syncPeriod period s)).xph.slots) (fun _ _ _ _ => rfl) s

/-- The lock is set; one regained after a loss is an event (R183, R186, R201). -/
def syncLocked (s : State) : State :=
  let t := { s.put XPH_STAT.SYNC_LOCK 1 with xph := { s.xph with lostSync := false } }
  if s.xph.lostSync then (t.put XPH_EVT.SYNC_LOCK 1).ring kXPH 5 else t

/-- The first lock is no event (R183, R186). -/
theorem syncLocked_leaves (s : State) :
    (syncLocked s).get XPH_STAT.SYNC_LOCK = 1 ∧ (syncLocked s).xph = { s.xph with lostSync := false } ∧
      (s.xph.lostSync = true → (syncLocked s).get XPH_EVT.SYNC_LOCK = 1 ∧
        (syncLocked s).pst.port = s.pst.port ++ [32 * kXPH + 5]) ∧
      (s.xph.lostSync = false → (syncLocked s).rd XPH_EVT = s.rd XPH_EVT ∧ (syncLocked s).pst.port = s.pst.port) ∧
      s.KeepsBits (syncLocked s) [XPH_STAT.SYNC_LOCK, XPH_EVT.SYNC_LOCK] := by
  have hput := (KeepsBits.refl s).put XPH_STAT.SYNC_LOCK 1
  unfold syncLocked
  cases s.xph.lostSync with
  | true =>
    rw [if_pos rfl]
    refine ⟨(get_put_reg _ _ _ _ (by decide)).trans (get_put_fit s _ _ rfl), rfl,
      fun _ => ⟨get_put_fit _ _ _ rfl, rfl⟩, fun h => absurd h (by decide), ?_⟩
    exact ((hput.put XPH_EVT.SYNC_LOCK 1).mono (by simp)).of_regs rfl
  | false =>
    exact ⟨get_put_fit s _ _ rfl, rfl, fun h => absurd h (by decide), fun _ => ⟨rd_put_other _ _ _ _ (by decide), rfl⟩,
      (hput.mono (by simp)).of_regs rfl⟩

/-- A loss of sync clears the lock and the slots, is an event, and pulses source 9 (R186, R201). -/
theorem syncLost_leaves {s : State} (hlock : s.get XPH_STAT.SYNC_LOCK = 1) :
    (syncLost s).get XPH_STAT.SYNC_LOCK = 0 ∧ (syncLost s).get XPH_EVT.SYNC_LOST = 1 ∧ (syncLost s).xph.slots = [] ∧
      (syncLost s).xph.lostSync = true ∧ (syncLost s).cbse.pulses = s.cbse.pulses ++ [9] ∧
      (syncLost s).pst.port = s.pst.port ++ [32 * kXPH + 5] ∧
      s.KeepsBits (syncLost s) [XPH_STAT.SYNC_LOCK, XPH_EVT.SYNC_LOST] := by
  unfold syncLost
  rw [bit_of_get hlock, if_pos rfl]
  refine ⟨?_, ?_, rfl, rfl, rfl, rfl, KeepsBits.of_regs
    (((KeepsBits.refl s).put XPH_STAT.SYNC_LOCK 0).put XPH_EVT.SYNC_LOST 1 |>.mono (by simp)) rfl⟩
  · simp (disch := decide) only [ring_get, pulse_get, get_with_xph, get_put_other, get_put_fit]
  · simp (disch := decide) only [ring_get, pulse_get, get_with_xph, get_put_fit]

/-! ### The phase count, load steps and over-voltage (R188 to R193) -/

/-- A phase that starts to shed finishes its on-time, and neither returns nor fires a slot (R164, R188). -/
theorem shedPhase_leaves (p : Nat) (s : State) :
    (shedPhase p s).phState p = 3 ∧
      (shedPhase p s).phid p = (if (s.phid p).pwm = .high then s.phid p else { s.phid p with pwm := .low }) ∧
      (∀ q ∈ (shedPhase p s).xph.back, q ≠ p) ∧ (∀ f ∈ (shedPhase p s).xph.slots, f.1 ≠ p) ∧
      s.KeepsBits (shedPhase p s) [XPH_PH_STAT.STATE p] := by
  refine ⟨get_put_fit (s.setPhid p _) _ _ rfl, phid_setPhid_same s p _, fun q hq => ?_, fun f hf => ?_,
    ((setPhid_keepsBits (KeepsBits.refl s) _ _).put _ _).of_regs rfl⟩
  · exact bne_iff_ne.mp (List.mem_filter.mp hq).2
  · exact bne_iff_ne.mp (List.mem_filter.mp hf).2

/-- ISEA's rise over 64 CKS edges reaches a threshold that is not 0 (R189). -/
theorem stepSeen_iff (s : State) :
    s.stepSeen = true ↔
      s.get XPH_SHED.STEP_TH ≠ 0 ∧ (16 * s.get XPH_SHED.STEP_TH : Nat) ≤ s.isea - s.iseaBefore := by
  simp only [State.stepSeen, Bool.and_eq_true, bne_iff_ne, decide_eq_true_eq]

/-- A load step is an event and starts its hold, before the sheds in progress are cancelled (R189, R201). -/
def stepTaken (s : State) : State :=
  let u := (s.put XPH_EVT.STEP 1).ring kXPH 3
  { u with xph := { u.xph with hold := decide (u.get XPH_SHED.HOLD ≠ 0) } }

/-- A HOLD of 0 starts no hold (R189; log entry 36). -/
theorem stepTaken_leaves (s : State) :
    (stepTaken s).get XPH_EVT.STEP = 1 ∧ (stepTaken s).xph.hold = decide (s.get XPH_SHED.HOLD ≠ 0) ∧
      (stepTaken s).pst.port = s.pst.port ++ [32 * kXPH + 3] ∧ s.KeepsBits (stepTaken s) [XPH_EVT.STEP] := by
  have hhold : ((s.put XPH_EVT.STEP 1).ring kXPH 3).get XPH_SHED.HOLD = s.get XPH_SHED.HOLD := by
    rw [ring_get, get_put_reg _ _ _ _ (by decide)]
  exact ⟨get_put_fit s _ _ rfl, congrArg (fun h => decide (h ≠ 0)) hhold, rfl,
    ((KeepsBits.refl s).put XPH_EVT.STEP 1).of_regs rfl⟩

/-- A phase's output is driven low until release (R193). -/
def crowPhase (s : State) (p : Nat) : State := s.setPhid p { s.phid p with pwm := .low, crow := true }

/-- Crowbarring a list of phases drives exactly those. -/
theorem phid_each_crowPhase (l : List Nat) (s : State) (q : Nat) :
    (s.each l crowPhase).phid q = if q ∈ l then { s.phid q with pwm := .low, crow := true } else s.phid q := by
  unfold State.each
  induction l generalizing s with
  | nil => simp
  | cons p l ih =>
    rw [List.foldl_cons, ih]
    by_cases hq : q = p
    · subst hq
      simp [crowPhase]
    · rw [crowPhase, phid_setPhid_other _ _ _ _ hq]
      simp [hq]

/-- The crowbar of every phase that is ACTIVE or SHEDDING (R192, R193). -/
def crowbarred (s : State) : State :=
  let u := s.each (s.phasesIn 2 ++ s.phasesIn 3) crowPhase
  let u := { u with xph := { u.xph with back := [], slots := [], dwell := false, refOn := false } }
  smbLatch ((u.put XPH_STAT.STATE 3).put XPH_STAT.PG 0)

/-- A phase is listed by its state. -/
theorem mem_phasesIn {s : State} {p st : Nat} : p ∈ s.phasesIn st ↔ p < 32 ∧ s.phState p = st := by
  simp [State.phasesIn]

/-- The outputs that the crowbar leaves (R193). -/
theorem crowbarred_phid (s : State) (p : Nat) :
    (crowbarred s).phid p = if p < 32 ∧ (s.phState p = 2 ∨ s.phState p = 3)
      then { s.phid p with pwm := .low, crow := true } else s.phid p := by
  refine (phid_each_crowPhase (s.phasesIn 2 ++ s.phasesIn 3) s p).trans (if_congr ?_ rfl rfl)
  rw [List.mem_append, mem_phasesIn, mem_phasesIn, and_or_left]

/-- CROWBAR, PG 0, nothing left to fire, and no other field of the window changed (R192). -/
theorem crowbarred_leaves (s : State) :
    (crowbarred s).fsState = 3 ∧ (crowbarred s).get XPH_STAT.PG = 0 ∧ (crowbarred s).xph.back = [] ∧
      (crowbarred s).xph.slots = [] ∧ (crowbarred s).xph.dwell = false ∧
      s.KeepsBits (crowbarred s) [XPH_STAT.STATE, XPH_STAT.PG] := by
  have hregs : (s.each (s.phasesIn 2 ++ s.phasesIn 3) crowPhase).regs = s.regs :=
    each_field State.regs _ crowPhase s fun _ _ => rfl
  unfold crowbarred State.fsState
  generalize s.each (s.phasesIn 2 ++ s.phasesIn 3) crowPhase = u at hregs
  refine ⟨?_, ?_, rfl, rfl, rfl, smbLatch_keepsBits (((keeps_regs_eq hregs).put XPH_STAT.STATE 3).put XPH_STAT.PG 0
    |>.mono (by simp))⟩
  · simp (disch := decide) only [smbLatch_get, get_put_other, get_put_fit]
  · simp (disch := decide) only [smbLatch_get, get_put_fit]

/-! ### Phase enables and phase clears (R166, R187, R199) -/

/-- The trim of a written word is stored when it lies within −64..+64 (R187). -/
theorem trim_legal_iff {x : Nat} (hx : x < 2 ^ 8) :
    (-64 ≤ toSigned 8 x ∧ toSigned 8 x ≤ 64) ↔ x ≤ 64 ∨ 192 ≤ x := by
  unfold toSigned
  dsimp only
  split <;> omega

/-- An eight-bit code survives its signed reading. -/
theorem ofSigned_toSigned_8 {x : Nat} (hx : x < 2 ^ 8) : ofSigned 8 (toSigned 8 x) = x := by
  unfold ofSigned toSigned
  dsimp only
  split <;> omega

/-- The offset and the trim of a written XPH_PH_CFG word, before its EN acts (R187). -/
def phTrimmed (p : Nat) (v : Word) (s : State) : State :=
  let u := s.put (XPH_PH_CFG.OFS p) (fldGet v 21 16)
  if -64 ≤ toSigned 8 (fldGet v 7 0) ∧ toSigned 8 (fldGet v 7 0) ≤ 64
  then u.putI (XPH_PH_CFG.TRIM p) (toSigned 8 (fldGet v 7 0)) else u

/-- A trim out of range leaves the old one (R187). -/
theorem phTrimmed_leaves (p : Nat) (v : Word) (s : State) :
    (phTrimmed p v s).get (XPH_PH_CFG.OFS p) = fldGet v 21 16 ∧
      (phTrimmed p v s).get (XPH_PH_CFG.TRIM p) =
        (if fldGet v 7 0 ≤ 64 ∨ 192 ≤ fldGet v 7 0 then fldGet v 7 0 else s.get (XPH_PH_CFG.TRIM p)) ∧
      s.KeepsBits (phTrimmed p v s) [XPH_PH_CFG.OFS p, XPH_PH_CFG.TRIM p] := by
  have hx : fldGet v 7 0 < 2 ^ 8 := fldGet_lt v 7 0
  have hofs : (s.put (XPH_PH_CFG.OFS p) (fldGet v 21 16)).get (XPH_PH_CFG.OFS p) = fldGet v 21 16 :=
    (get_put_cut _ _ _ rfl).trans (Nat.mod_eq_of_lt (fldGet_lt v 21 16))
  have hput := (KeepsBits.refl s).put (XPH_PH_CFG.OFS p) (fldGet v 21 16)
  unfold phTrimmed
  simp only [trim_legal_iff hx]
  by_cases hlegal : fldGet v 7 0 ≤ 64 ∨ 192 ≤ fldGet v 7 0
  · rw [if_pos hlegal, if_pos hlegal]
    refine ⟨(get_put_apart _ _ _ _ rfl).trans hofs, ?_, (hput.put _ _).mono (by simp)⟩
    refine (get_put_cut _ _ _ rfl).trans ?_
    exact (congrArg (· % 2 ^ 8) (ofSigned_toSigned_8 hx)).trans (Nat.mod_eq_of_lt hx)
  · rw [if_neg hlegal, if_neg hlegal]
    exact ⟨hofs, get_put_apart _ _ _ _ rfl, hput.mono (by simp)⟩

/-- A write of EN that gives its phase another state, before the phases are counted anew (R166). -/
def phEnabled (p : Nat) (en : Bool) (st : Nat) (s : State) : State :=
  (s.putB (XPH_PH_CFG.EN p) en).put (XPH_PH_STAT.STATE p) st

/-- It leaves both fields as written, and no other of the window. -/
theorem phEnabled_leaves (p : Nat) (en : Bool) {st : Nat} (hst : st < 2 ^ 3) (s : State) :
    (phEnabled p en st s).get (XPH_PH_CFG.EN p) = en.toNat ∧ (phEnabled p en st s).phState p = st ∧
      s.KeepsBits (phEnabled p en st s) [XPH_PH_CFG.EN p, XPH_PH_STAT.STATE p] := by
  refine ⟨?_, ?_, ((KeepsBits.refl s).put _ _).put _ _ |>.mono (by simp)⟩
  · have hreg : XPH_PH_CFG p ≠ XPH_PH_STAT p := phaseReg_ne (by decide)
    refine (get_put_reg _ _ _ _ hreg).trans ((get_put_cut _ _ _ rfl).trans ?_)
    exact Nat.mod_eq_of_lt (show en.toNat < 2 by cases en <;> decide)
  · exact (get_put_cut _ _ _ rfl).trans (Nat.mod_eq_of_lt hst)

/-- EN 0 to a phase that is IDLE or SHED makes it DISABLED at once (R166). -/
theorem phaseEnable_off {p : Nat} {s : State} (hst : s.phState p = 1 ∨ s.phState p = 4)
    (hen : s.get (XPH_PH_CFG.EN p) = 1) : phaseEnable p false s = phaseCount (phEnabled p false 0 s) := by
  unfold phaseEnable
  rw [bit_of_get hen]
  rcases hst with h | h <;> rw [h] <;> rfl

/-- EN 1 to a DISABLED phase makes it SHED while the front stage switches, and else IDLE (R166). -/
theorem phaseEnable_on {p : Nat} {s : State} (hst : s.phState p = 0) :
    phaseEnable p true s = phaseCount (phEnabled p true (if s.fsRuns then 4 else 1) s) := by
  have hstate : (s.putB (XPH_PH_CFG.EN p) true).fsState = s.fsState :=
    get_put_reg _ _ _ _ (lowReg_ne_phaseReg (by decide))
  have hruns : (s.putB (XPH_PH_CFG.EN p) true).fsRuns = s.fsRuns := by rw [State.fsRuns, hstate, State.fsRuns]
  unfold phaseEnable phEnabled
  simp [hst, hruns]

/-- What EN gives a phase that leaves its latch (R199). -/
def State.clearedState (s : State) (p : Nat) : Nat :=
  if s.get (XPH_PH_CFG.EN p) = 0 then 0 else if s.fsRuns then 4 else 1

/-- CLR of a latched phase whose cause is neither OT nor STAGE (R199). -/
theorem phaseClear_leaves {p : Nat} {s : State} (hlatched : s.phState p = 5) (hot : s.get (XPH_PH_STAT.LCAUSE p) ≠ 3)
    (hstage : s.get (XPH_PH_STAT.LCAUSE p) ≠ 4) :
    (phaseClear p s).phState p = s.clearedState p ∧ s.Frame (phaseClear p s) [XPH_PH_STAT.STATE p] := by
  have hclear : phaseClear p s = s.put (XPH_PH_STAT.STATE p) (s.clearedState p) := by
    -- the cause is neither of the two that its match names
    simp [phaseClear, hlatched, State.clearedState, State.bit]
  have hfit : s.clearedState p < 2 ^ 3 := by
    unfold State.clearedState
    split
    · decide
    · split <;> decide
  rw [hclear]
  exact ⟨(get_put_cut _ _ _ rfl).trans (Nat.mod_eq_of_lt hfit), frame_put ..⟩

/-- Settles O23, command by command and event by event. That the slot of an edge takes an exact half upwards is log
entry 128, and that HOLD = 0 starts no hold and how a shed phase ends its on-time are log entry 36. -/
theorem phaseAndSyncCommandsComplete : Obligations.PhaseAndSyncCommandsComplete := by
  refine ⟨fun e period s hmode hlock hmet hrun => ?_, fun e period s hmode hlock hmet hrun => ?_,
    fun p ps s hperiods => syncMet_iff hperiods, fun x period s hmode hlock hruns hlow hhigh hrun => ?_,
    fun x period s hmode hlock hout hrun => ?_, fun x period s hmode hlock hrun => ?_, fun e s hlock hrun => ?_,
    fun e p s hdwell hcounting hlast hrun => ?_, fun e s hseen hrun => ?_, fun e s hseen hrun => ?_, stepSeen_iff,
    fun e s hhold hrun => ?_, fun e k s hruns hincluded hrun => ?_, fun e p s hpool hrun => ?_,
    fun req p v s hp => ⟨_, congrArg Host.Outcome.next (gated_permits hp _), rfl⟩,
    fun p v s _ => ⟨phTrimmed p v s, rfl, phTrimmed_leaves p v s⟩,
    fun p s _ hidle hen => ⟨_, phaseEnable_off (.inl hidle) hen, phEnabled_leaves p false (by decide) s⟩,
    fun p s _ hshed hen => ⟨_, phaseEnable_off (.inr hshed) hen, phEnabled_leaves p false (by decide) s⟩,
    fun p s _ hdisabled => ⟨_, phaseEnable_on hdisabled, phEnabled_leaves p true (by split <;> decide) s⟩,
    fun req p s hp hlatched hot hstage => ?_⟩
  · obtain ⟨hbit, hxph, hagain, hfirst, hframe⟩ := syncLocked_leaves (syncPeriod period (rippleCatch (s.advanceTo e)))
    refine completes_frontAt rfl hrun ((if_pos (by simp [State.bit, hmode, hlock])).trans
        (if_pos ((syncPeriod_caught_syncMet ..).trans hmet)))
      ⟨hbit, congrArg XphSt.period hxph, congrArg XphSt.lostSync hxph, fun h => ?_, fun h => ?_,
        ((caught_keepsBits s e).mono (by simp)).trans hframe⟩
    · obtain ⟨hevt, hport⟩ := hagain (by simpa using h)
      exact ⟨hevt, hport.trans (by simp)⟩
    · obtain ⟨hevt, hport⟩ := hfirst (by simpa using h)
      exact ⟨hevt.trans (by simp), hport.trans (by simp)⟩
  · exact completes_frontAt rfl hrun ((if_pos (by simp [State.bit, hmode, hlock])).trans
        (if_neg (by simp [syncPeriod_caught_syncMet, hmet])))
      ⟨rfl, (rippleCatch_regs _).trans (s.advanceTo_regs e)⟩
  · have hrange := (syncRange_iff period).mpr ⟨hlow, hhigh⟩
    exact completes_front rfl hrun ((if_pos (by simp [State.bit, hmode])).trans ((if_neg (by simp [State.bit, hlock])).trans
        ((if_neg (by simp [hrange])).trans (if_pos (by simpa)))))
      ⟨rfl, syncEdge_caught_slots x period s, rippleCatch_regs s, rippleCatch_ph s⟩
  · have hrange : syncRange period = false := by
      rw [← Bool.not_eq_true, syncRange_iff]
      omega
    exact completes_front rfl hrun ((if_pos (by simp [State.bit, hmode])).trans ((if_neg (by simp [State.bit, hlock])).trans
      (if_pos (by simp [hrange])))) rfl
  · exact completes_front rfl hrun ((if_pos (by simp [State.bit, hmode])).trans (if_pos (by simp [State.bit, hlock])))
      ⟨rfl, rippleCatch_regs s⟩
  · obtain ⟨hbit, hevt, hslots, hlost, hpulse, hport, hframe⟩ :=
      syncLost_leaves (s := rippleCatch (s.advanceTo e)) (by simpa)
    exact completes_frontAt rfl hrun rfl ⟨hbit, hevt, hslots, hlost, by simpa using hpulse, by simpa using hport,
      ((caught_keepsBits s e).mono (by simp)).trans hframe⟩
  · obtain ⟨hstate, hphid, hback, hslots, hframe⟩ := shedPhase_leaves p (rippleCatch (s.advanceTo e))
    refine completes_frontAt rfl hrun ((if_pos (by simp [hdwell, hcounting])).trans ?_)
      ⟨shedPhase p (rippleCatch (s.advanceTo e)), rfl, hstate, by simpa using hphid, hback, hslots,
        ((caught_keepsBits s e).mono (by simp)).trans hframe⟩
    simp [hlast]
  · obtain ⟨hevt, hhold, hport, hframe⟩ := stepTaken_leaves (rippleCatch (s.advanceTo e))
    exact completes_frontAt rfl hrun (if_pos (by simpa)) ⟨stepTaken (rippleCatch (s.advanceTo e)), rfl, hevt,
      by simpa using hhold, by simpa using hport, ((caught_keepsBits s e).mono (by simp)).trans hframe⟩
  · exact completes_frontAt rfl hrun (if_neg (by simp [hseen])) rfl
  · exact completes_frontAt rfl hrun (if_pos (by simpa)) ⟨_, rfl, rfl, by simp⟩
  · obtain ⟨hstate, hpg, hback, hslots, hdwell, hframe⟩ := crowbarred_leaves (rippleCatch (s.advanceTo e))
    have hphid := crowbarred_phid (rippleCatch (s.advanceTo e))
    simp only [rippleCatch_phState, advanceTo_phState, rippleCatch_phid, advanceTo_phid] at hphid
    refine completes_frontAt (u := crowbarred (rippleCatch (s.advanceTo e))) rfl hrun
      (if_pos ⟨by simpa, by simpa using hincluded⟩)
      ⟨hstate, hpg, hback, hslots, hdwell, fun p hp hon => ?_, fun p h2 h3 => ?_,
        ((caught_keepsBits s e).mono (by simp)).trans hframe⟩
    · have hp' := (hphid p).trans (if_pos ⟨hp, hon⟩)
      exact ⟨congrArg PhHid.pwm hp', congrArg PhHid.crow hp'⟩
    · exact (hphid p).trans (if_neg (by simp [h2, h3]))
  · exact completes_frontAt rfl hrun (if_pos (by simpa)) rfl
  · obtain ⟨hstate, hframe⟩ := phaseClear_leaves (p := p.val) (s := rippleCatch s) (by simpa) (by simpa) (by simpa)
    exact ⟨_, congrArg Host.Outcome.next ((gated_permits hp _).trans (if_pos (by decide))),
      hstate.trans (by simp [State.clearedState]), hframe⟩

end Sys2Proof.Machine

/-! PROOFS of the family spec/06_loop_engine.md. The exact arithmetic of the profiles, the power shares and the Waybill, and
what the base tick and the commands of the Loop Engine and of the trace leave. -/

namespace Sys2Proof.Machine

open State

/-! ### The integer square root (R240) -/

/-- r is floor(√m) with its bits below b still to be found. -/
def IsRootTo (m b r : Nat) : Prop := r * r ≤ m ∧ m < (r + 2 ^ b) * (r + 2 ^ b)

/-- Bit b is tried: it stays where the square still fits (R240). -/
def rootBit (m r b : Nat) : Nat := if (r + 2 ^ b) * (r + 2 ^ b) ≤ m then r + 2 ^ b else r

/-- A bit tried is a bit found. -/
theorem rootBit_isRootTo {m b r : Nat} (h : IsRootTo m (b + 1) r) : IsRootTo m b (rootBit m r b) := by
  obtain ⟨hle, hlt⟩ := h
  unfold rootBit
  split
  case isTrue hfits => exact ⟨hfits, by rwa [Nat.add_assoc, ← Nat.two_mul, ← Nat.pow_succ']⟩
  case isFalse hover => exact ⟨hle, Nat.lt_of_not_le hover⟩

theorem isqrt_eq (m : Nat) : isqrt m = (List.range 32).foldl (fun r i => rootBit m r (31 - i)) 0 := rfl

/-- The first n bits tried leave 32 - n to be found. -/
theorem rootBits_isRootTo {m : Nat} (hm : m < 2 ^ 64) (n : Nat) (hn : n ≤ 32) :
    IsRootTo m (32 - n) ((List.range n).foldl (fun r i => rootBit m r (31 - i)) 0) := by
  induction n with
  | zero => exact ⟨Nat.zero_le m, by simpa using hm⟩
  | succ n ih =>
    rw [List.range_succ, List.foldl_append, show 32 - (n + 1) = 31 - n by omega]
    refine rootBit_isRootTo ?_
    rw [show 31 - n + 1 = 32 - n by omega]
    exact ih (by omega)

/-- The integer square root is exact (R240). -/
theorem isqrt_exact {m : Nat} (hm : m < 2 ^ 64) : isqrt m * isqrt m ≤ m ∧ m < (isqrt m + 1) * (isqrt m + 1) :=
  isqrt_eq m ▸ rootBits_isRootTo hm 32 le_rfl

/-! ### Amounts shared out in proportion (R380, R389) -/

/-- Parts of c in proportion to weights that sum to at most d, each rounded down, sum to at most c. -/
theorem sum_prorated_le (c d : Nat) (l : List Nat) (h : l.sum ≤ d) : (l.map fun x => c * x / d).sum ≤ c := by
  have hsum : (l.map fun x => c * x / d).sum ≤ c * l.sum / d := by
    clear h
    induction l with
    | nil => simp
    | cons x l ih =>
      simp only [List.map_cons, List.sum_cons, Nat.mul_add]
      exact (Nat.add_le_add_left ih _).trans (Nat.div_add_div_le_add_div)
  calc (l.map fun x => c * x / d).sum ≤ c * l.sum / d := hsum
    _ ≤ c * d / d := Nat.div_le_div_right (Nat.mul_le_mul_left c h)
    _ ≤ c := Nat.div_le_of_le_mul (Nat.mul_comm c d).le

/-- A constant added to each of some amounts. -/
theorem sum_map_const_add (k : Nat) (l : List Nat) (f : Nat → Nat) :
    (l.map fun x => k + f x).sum = l.length * k + (l.map f).sum := by
  simp [List.sum_map_add]

/-! ### The four shares of the package cap (R380) -/

section Shares

variable {p smin : Nat} {ms : List Nat}

/-- A cap below four reserves is divided evenly. -/
theorem sharesOf_short (hcap : p < 4 * smin) : sharesOf p smin ms = ms.map fun _ => p / 4 := if_pos hcap

/-- What a cap leaves over the powers asked for is divided evenly. -/
theorem sharesOf_room (hcap : 4 * smin ≤ p) (hroom : ms.sum ≤ p) :
    sharesOf p smin ms = ms.map fun m => m + (p - ms.sum) / 4 :=
  (if_neg (Nat.not_lt.mpr hcap)).trans (if_pos hroom)

/-- With no power above the reserve, what the cap leaves over the reserves is divided evenly. -/
theorem sharesOf_even (hcap : 4 * smin ≤ p) (hover : p < ms.sum) (hnone : (ms.map fun m => m - smin).sum = 0) :
    sharesOf p smin ms = ms.map fun _ => smin + (p - 4 * smin) / 4 :=
  (if_neg (Nat.not_lt.mpr hcap)).trans ((if_neg (Nat.not_le.mpr hover)).trans (if_pos hnone))

/-- Else it is divided in proportion to the powers above the reserve. -/
theorem sharesOf_prorated (hcap : 4 * smin ≤ p) (hover : p < ms.sum) (hsome : (ms.map fun m => m - smin).sum ≠ 0) :
    sharesOf p smin ms =
      (ms.map fun m => m - smin).map fun e => smin + (p - 4 * smin) * e / (ms.map fun m => m - smin).sum :=
  (if_neg (Nat.not_lt.mpr hcap)).trans ((if_neg (Nat.not_le.mpr hover)).trans (if_neg hsome))

/-- Every power has its share. -/
theorem sharesOf_length : (sharesOf p smin ms).length = ms.length := by
  unfold sharesOf
  dsimp only
  split_ifs <;> simp

/-- The shares of four powers sum to at most the cap (R380). -/
theorem sharesOf_sum_le (hlen : ms.length = 4) : (sharesOf p smin ms).sum ≤ p := by
  rcases Nat.lt_or_ge p (4 * smin) with hcap | hcap
  · rw [sharesOf_short hcap, List.map_const', List.sum_replicate, hlen, smul_eq_mul]
    omega
  rcases Nat.lt_or_ge p ms.sum with hover | hroom
  · by_cases hnone : (ms.map fun m => m - smin).sum = 0
    · rw [sharesOf_even hcap hover hnone, List.map_const', List.sum_replicate, hlen, smul_eq_mul]
      omega
    · have hparts := sum_prorated_le (p - 4 * smin) _ (ms.map fun m => m - smin) le_rfl
      rw [sharesOf_prorated hcap hover hnone, sum_map_const_add, List.length_map, hlen]
      omega
  · rw [sharesOf_room hcap hroom, List.sum_map_add, List.map_id', List.map_const', List.sum_replicate, hlen, smul_eq_mul]
    omega

/-- Where the cap covers the reserves and not the powers, every share covers the reserve (R380). -/
theorem le_of_mem_sharesOf (hcap : 4 * smin ≤ p) (hover : p < ms.sum) : ∀ x ∈ sharesOf p smin ms, smin ≤ x := by
  by_cases hnone : (ms.map fun m => m - smin).sum = 0
  · rw [sharesOf_even hcap hover hnone]
    exact List.forall_mem_map.mpr fun _ _ => Nat.le_add_right _ _
  · rw [sharesOf_prorated hcap hover hnone]
    exact List.forall_mem_map.mpr fun _ _ => Nat.le_add_right _ _

end Shares

/-! ### The energy of a Waybill interval (R389) -/

/-- The energies of the slots: in proportion to their weights, with what rounding leaves in slot 0, and all in slot 0 when no
slot has a weight (R389). -/
def energyParts (e : Nat) (ws : List Nat) : List Nat :=
  if ws.sum = 0 then e :: List.replicate 15 0
  else (e - ((ws.drop 1).map fun w => e * w / ws.sum).sum) :: (ws.drop 1).map fun w => e * w / ws.sum

theorem energyParts_length (e : Nat) {ws : List Nat} (hlen : ws.length = 16) : (energyParts e ws).length = 16 := by
  unfold energyParts
  split_ifs <;> simp [hlen]

/-- The parts sum to the energy: those of slots 1 to 15 never exceed it, and slot 0 has the rest. -/
theorem energyParts_sum (e : Nat) (ws : List Nat) : (energyParts e ws).sum = e := by
  unfold energyParts
  split_ifs
  case pos => simp
  case neg =>
    exact Nat.sub_add_cancel (sum_prorated_le e _ _ ((List.drop_sublist 1 ws).sum_le_sum fun _ _ => Nat.zero_le _))

/-- The split gives each slot its part, beside its fill (R389). -/
theorem splitEnergy_energies (e : Nat) {ws fs : List Nat} (hws : ws.length = 16) (hfs : fs.length = 16) :
    (splitEnergy e ws fs).map (·.1) = energyParts e ws := by
  have hparts := energyParts_length e hws
  rw [show splitEnergy e ws fs = ((energyParts e ws).zip (ws.zip fs)).map _ from rfl, List.map_map]
  exact List.map_fst_zip (by simp [hparts, hws, hfs])

/-- Settles O52: the invariant of the bits of the root, and rounding down in every proportional part. -/
theorem exactArithmeticKeepsItsBounds : Obligations.ExactArithmeticKeepsItsBounds := by
  refine ⟨fun m hm => isqrt_exact hm, fun p smin ms hlen => ?_, fun e ws fs hws hfs => ?_⟩
  · exact ⟨sharesOf_length.trans hlen, sharesOf_sum_le hlen, le_of_mem_sharesOf⟩
  · have henergies := splitEnergy_energies e hws hfs
    have hlength := congrArg List.length henergies
    rw [List.length_map, energyParts_length e hws] at hlength
    exact ⟨hlength, henergies ▸ energyParts_sum e ws⟩

/-! ### How a command or an event of the Loop Engine runs -/

/-- A permitted write runs the register's own action. -/
theorem completes_permitted {i : Instr} {req : Requester} {a : Nat} {v : Word} {h : Word → State → State} {s u : State}
    {post : State → Prop} (hexec : exec i s = .next (gated req a v h s)) (hp : s.Permits req a v) (hact : h v s = u)
    (hpost : post u) : Completes i s post :=
  ⟨u, hexec.trans (congrArg Host.Outcome.next ((gated_permits hp h).trans hact)), hpost⟩

/-- Out of instance reset an event of the CTRL island acts. -/
theorem completes_running {i : Instr} {k : State → State} {s u : State} {post : State → Prop}
    (hexec : exec i s = .next (s.running k)) (hrun : s.rst.inst = false) (hact : k s = u) (hpost : post u) :
    Completes i s post :=
  ⟨u, hexec.trans (congrArg Host.Outcome.next ((running_of hrun k).trans hact)), hpost⟩

/-! ### Loops over a list -/

section Loops

variable {ι : Type} {f : State → ι → State} {x : ι}

/-- What the element x establishes and every element keeps holds after a loop that reaches x. -/
theorem each_establishes (P : State → Prop) (hset : ∀ s, P (f s x)) (hkeep : ∀ s y, P s → P (f s y)) {l : List ι}
    {s : State} (h : P s ∨ x ∈ l) : P (s.each l f) := by
  induction l generalizing s with
  | nil => exact h.resolve_right List.not_mem_nil
  | cons y l ih =>
    refine ih ?_
    rcases h with h | h
    · exact .inl (hkeep s y h)
    · rcases List.mem_cons.mp h with rfl | h
      · exact .inl (hset s)
      · exact .inr h

/-- A view that every element changes by itself alone is the same after the loop when it was before. -/
theorem each_view_congr {α : Type} (view : State → α) (hf : ∀ s t y, view s = view t → view (f s y) = view (f t y))
    (l : List ι) {s t : State} (h : view s = view t) : view (s.each l f) = view (t.each l f) := by
  induction l generalizing s t with
  | nil => exact h
  | cons y l ih => exact ih (hf s t y h)

end Loops

/-! ### A 64-bit pair of registers (R15) -/

/-- A 64-bit value stored in a pair reads back. -/
theorem get64_put64 (s : State) (a : Nat) {v : Nat} (hv : v < 2 ^ 64) : (s.put64 a v).get64 a = v := by
  have hlo : ((s.put64 a v).rd a) = BitVec.ofNat 32 (v % 2 ^ 32) :=
    (rd_wr_other _ _ _ _ (by omega)).trans (rd_wr_same _ _ _)
  have hhi : ((s.put64 a v).rd (a + 4)) = BitVec.ofNat 32 (v / 2 ^ 32 % 2 ^ 32) := rd_wr_same _ _ _
  rw [State.get64, State.num, State.num, hlo, hhi, BitVec.toNat_ofNat, BitVec.toNat_ofNat]
  omega

/-- A pair reads as before where its two words do. -/
theorem get64_of_rd {s t : State} {a : Nat} (hlo : t.rd a = s.rd a) (hhi : t.rd (a + 4) = s.rd (a + 4)) :
    t.get64 a = s.get64 a := by
  rw [State.get64, State.get64, State.num, State.num, State.num, State.num, hlo, hhi]

/-- A field of neither word of the pair reads as before. -/
theorem get_put64_other (s : State) {a : Nat} (v : Nat) {f : Fld} (hlo : f.addr ≠ a) (hhi : f.addr ≠ a + 4) :
    (s.put64 a v).get f = s.get f :=
  (get_wr_other _ _ _ _ hhi).trans (get_wr_other _ _ _ _ hlo)

/-! ### The base tick (R204, R206) -/

/-- A base tick does the work of its frame (R206). -/
theorem baseTick_works {t : Dword} {s : State} (x : TickSamples) (hlock : s.locked = true) (hrun : s.rst.inst = false)
    (hframe : s.tim.frame < t.toNat / 100) :
    baseTick t x s = tickWork (t.toNat / 100) (x.issued.map fun e => (e.1.val, e.2.toNat))
      ((x.slacks.filter fun e => e.1.val != 0).map fun e => (e.1.val, e.2))
      (noteEngineEvents (x.events.map fun e => (4 * e.1.val + e.2.1.val, e.2.2))
        ((s.each x.sea fun s e => seaEdge e s).advanceTo t)) :=
  if_neg (by simp [hlock, hrun, hframe])

/-- None falls without the lock, in instance reset or within the frame (R204). -/
theorem baseTick_none {t : Dword} {s : State} (x : TickSamples)
    (h : s.locked = false ∨ s.rst.inst = true ∨ t.toNat / 100 ≤ s.tim.frame) : baseTick t x s = s :=
  if_pos (by simpa using h)

/-! ### Outputs not yet applied (R208, R251) -/

/-- A discard leaves no output of any loop waiting (R208, R251). -/
theorem discardOutputs_leaves (s : State) (k : Nat) :
    ((discardOutputs s).loopHid k).pend = none ∧ ((discardOutputs s).loopHid k).balPend = [] := by
  refine each_establishes (x := k) (fun t => (t.loopHid k).pend = none ∧ (t.loopHid k).balPend = [])
    (fun t => ?_) (fun t j h => ?_) ?_
  · rw [loopHid_setLoopHid_same]
    exact ⟨rfl, rfl⟩
  · by_cases hj : k = j
    · rw [hj, loopHid_setLoopHid_same]
      exact ⟨rfl, rfl⟩
    · rwa [loopHid_setLoopHid_other _ _ _ _ hj]
  · by_cases hlisted : s.loopHid k = {}
    · rw [hlisted]
      exact .inl ⟨rfl, rfl⟩
    · obtain ⟨h, hmem⟩ := mem_of_mapGet_ne hlisted
      exact .inr (List.mem_map_of_mem hmem)

/-- It acts on the loops' own state alone. -/
theorem discardOutputs_loop {s t : State} (h : t.loop = s.loop) : (discardOutputs t).loop = (discardOutputs s).loop := by
  unfold discardOutputs
  rw [h]
  refine each_view_congr State.loop (fun u w k huw => ?_) _ h
  simp only [State.setLoopHid, State.loopHid, huw]

/-! ### Writes of LPE_CTRL (R210, R213, R251) -/

/-- The word with REVERT set and COMMIT clear. -/
theorem revertWord_bits (v : Word) : fldGet ((v ||| 2) &&& ~~~1) 0 0 = 0 ∧ fldGet ((v ||| 2) &&& ~~~1) 1 1 = 1 ∧
    fldGet ((v ||| 2) &&& ~~~1) 2 2 = fldGet v 2 2 := by
  simp [fldGet_bit]

/-- The word with COMMIT set has the EN of the word. -/
theorem commitWord_en (v : Word) : fldGet (v ||| 1) 2 2 = fldGet v 2 2 := by
  simp [fldGet_bit]

/-- A commit starts: it is validated while COMMIT and BUSY stand, with RES = BUSY (R210). -/
def lpeCommitStarted (s : State) : State :=
  { ((s.put LPE_CTRL.COMMIT 1).put LPE_STAT.BUSY 1).put LPE_STAT.RES stBUSY with
    lpe := { s.lpe with phase := .validating } }

/-- A revert starts (R213). -/
def lpeRevertStarted (s : State) : State := { s.put LPE_STAT.BUSY 1 with lpe := { s.lpe with phase := .reverting } }

section LpeCtrl

variable {v : Word} {s : State}

theorem put_EN_bit_BUSY (s : State) (n : Nat) : (s.put LPE_CTRL.EN n).bit LPE_STAT.BUSY = s.bit LPE_STAT.BUSY :=
  congrArg (· != 0) (get_put_reg _ _ _ _ (by decide))

/-- COMMIT with nothing running (R210). -/
theorem lpeCtrlWrite_commit (hen : fldGet v 2 2 = 1) (hcommit : fldGet v 0 0 = 1) (hidle : s.get LPE_STAT.BUSY = 0) :
    lpeCtrlWrite v s = lpeCommitStarted (s.put LPE_CTRL.EN 1) := by
  simp [lpeCtrlWrite, hen, hcommit, put_EN_bit_BUSY, bit_of_get_zero hidle, lpeCommitStarted]

/-- COMMIT while a commit or a revert runs (R213). -/
theorem lpeCtrlWrite_during (hen : fldGet v 2 2 = 1) (hcommit : fldGet v 0 0 = 1) (hbusy : s.get LPE_STAT.BUSY = 1) :
    lpeCtrlWrite v s = (s.put LPE_CTRL.EN 1).put LPE_EVT.WR_DURING 1 := by
  simp [lpeCtrlWrite, hen, hcommit, put_EN_bit_BUSY, bit_of_get hbusy]

/-- REVERT alone with nothing running (R213). -/
theorem lpeCtrlWrite_revert (hen : fldGet v 2 2 = 1) (hcommit : fldGet v 0 0 = 0) (hrevert : fldGet v 1 1 = 1)
    (hidle : s.get LPE_STAT.BUSY = 0) :
    lpeCtrlWrite v s = lpeRevertStarted (s.put LPE_CTRL.EN 1) := by
  simp [lpeCtrlWrite, hen, hcommit, hrevert, put_EN_bit_BUSY, bit_of_get_zero hidle, lpeRevertStarted]

/-- EN alone (R251). -/
theorem lpeCtrlWrite_enable (hcommit : fldGet v 0 0 = 0) (hrevert : fldGet v 1 1 = 0) : lpeCtrlWrite v s =
    if fldGet v 2 2 = 0 then discardOutputs (s.put LPE_CTRL.EN (fldGet v 2 2))
    else s.put LPE_CTRL.EN (fldGet v 2 2) := by
  simp [lpeCtrlWrite, hcommit, hrevert]

end LpeCtrl

/-- What the start of a commit leaves (R210). -/
theorem lpeCommitStarted_leaves (s : State) :
    (lpeCommitStarted s).get LPE_CTRL.COMMIT = 1 ∧ (lpeCommitStarted s).get LPE_STAT.BUSY = 1 ∧
      (lpeCommitStarted s).get LPE_STAT.RES = stBUSY ∧ (lpeCommitStarted s).get LPE_CTRL.EN = s.get LPE_CTRL.EN ∧
      s.KeepsBits (lpeCommitStarted s) [LPE_STAT.RES, LPE_STAT.BUSY, LPE_CTRL.COMMIT] := by
  unfold lpeCommitStarted
  simp only [get_with_lpe]
  refine ⟨?_, ?_, get_put_fit _ _ _ rfl, ?_,
    KeepsBits.of_regs ((((KeepsBits.refl s).put LPE_CTRL.COMMIT 1).put LPE_STAT.BUSY 1).put LPE_STAT.RES stBUSY) rfl⟩
  · rw [get_put_reg _ _ _ _ (by decide), get_put_reg _ _ _ _ (by decide), get_put_fit _ _ _ rfl]
  · rw [get_put_apart _ _ _ _ rfl, get_put_fit _ _ _ rfl]
  · rw [get_put_reg _ _ _ _ (by decide), get_put_reg _ _ _ _ (by decide), get_put_apart _ _ _ _ rfl]

/-- What the start of a revert leaves (R213). -/
theorem lpeRevertStarted_leaves (s : State) :
    (lpeRevertStarted s).get LPE_STAT.BUSY = 1 ∧ (lpeRevertStarted s).get LPE_CTRL.EN = s.get LPE_CTRL.EN ∧
      s.KeepsBits (lpeRevertStarted s) [LPE_STAT.BUSY] :=
  ⟨get_put_fit s LPE_STAT.BUSY 1 rfl, get_put_reg s LPE_STAT.BUSY LPE_CTRL.EN 1 (by decide),
    (frame_put s LPE_STAT.BUSY 1).1⟩

/-- EN is stored, and EN = 0 discards every output not yet applied; nothing else changes (R251). -/
theorem enableStored_leaves {n : Nat} (hn : n < 2) (s : State) :
    let t := if n = 0 then discardOutputs (s.put LPE_CTRL.EN n) else s.put LPE_CTRL.EN n
    t.get LPE_CTRL.EN = n ∧ (n = 1 → t.loop = s.loop) ∧ (n = 0 → t.loop = (discardOutputs s).loop) ∧
      s.KeepsBits t [LPE_CTRL.EN] ∧ { t with regs := s.regs, loop := s.loop } = s := by
  intro t
  have hstored : (s.put LPE_CTRL.EN n).get LPE_CTRL.EN = n :=
    (get_put_cut _ _ _ rfl).trans (Nat.mod_eq_of_lt hn)
  have hkeeps : s.KeepsBits (s.put LPE_CTRL.EN n) [LPE_CTRL.EN] := (frame_put _ _ _).1
  by_cases hoff : n = 0
  · have ht : t = discardOutputs (s.put LPE_CTRL.EN n) := if_pos hoff
    have hregs := discardOutputs_regs (s.put LPE_CTRL.EN n)
    rw [ht]
    refine ⟨(view_of_regs (State.get · LPE_CTRL.EN) (fun _ => rfl) hregs).trans hstored, fun h => by omega,
      fun _ => discardOutputs_loop rfl, hkeeps.of_regs hregs, ?_⟩
    exact congrArg (fun u : State => { u with regs := s.regs }) (discardOutputs_upd (s.put LPE_CTRL.EN n))
  · have ht : t = s.put LPE_CTRL.EN n := if_neg hoff
    rw [ht]
    exact ⟨hstored, fun _ => rfl, fun h => absurd h hoff, hkeeps, rfl⟩

/-! ### The end of a commit and of a revert (R210, R211, R213) -/

theorem lpeCheck_advanceTo (s : State) (t : Dword) : (s.advanceTo t).lpeCheck = s.lpeCheck :=
  view_of_regs State.lpeCheck (fun _ => rfl) (s.advanceTo_regs t)

/-- Validation that finds nothing wrong waits for the base tick (R210). -/
theorem exec_lpeValidationDone_good {t : Dword} {s : State} (hphase : s.lpe.phase = .validating)
    (hgood : s.lpeCheck = (0, 0)) (hrun : s.rst.inst = false) : exec (.lpeValidationDone t) s =
      .next { s.advanceTo t with lpe := { (s.advanceTo t).lpe with phase := .waiting } } := by
  refine congrArg Host.Outcome.next ((running_of hrun _).trans ((if_pos hphase).trans ?_))
  simp [lpeCheck_advanceTo, hgood]

/-- One that finds a fault ends the commit with it (R210, R211). -/
theorem exec_lpeValidationDone_bad {t : Dword} {s : State} (hphase : s.lpe.phase = .validating)
    (hbad : s.lpeCheck.1 ≠ 0) (hrun : s.rst.inst = false) : exec (.lpeValidationDone t) s =
      .next (lpeCommitEnd stBADPARAM s.lpeCheck.1 s.lpeCheck.2 (s.advanceTo t)) := by
  refine congrArg Host.Outcome.next ((running_of hrun _).trans ((if_pos hphase).trans ?_))
  simp [lpeCheck_advanceTo, hbad]

/-- What the end of a commit reports (R211). -/
def lpeCommitMarks (res cause k : Nat) (s : State) : State :=
  (((((s.put LPE_STAT.RES res).put LPE_STAT.ERR_CAUSE cause).put LPE_STAT.ERR_K k).put LPE_STAT.BUSY 0).put
    LPE_CTRL.COMMIT 0).put LPE_EVT.COMMIT 1

/-- Its status, cause and descriptor, with nothing running. -/
theorem lpeCommitMarks_leaves {res cause k : Nat} (hres : res < 2 ^ 16) (hcause : cause < 8) (hk : k < 512) (s : State) :
    (lpeCommitMarks res cause k s).get LPE_STAT.RES = res ∧
      (lpeCommitMarks res cause k s).get LPE_STAT.ERR_CAUSE = cause ∧
      (lpeCommitMarks res cause k s).get LPE_STAT.ERR_K = k ∧ (lpeCommitMarks res cause k s).get LPE_STAT.BUSY = 0 ∧
      (lpeCommitMarks res cause k s).get LPE_CTRL.COMMIT = 0 ∧ (lpeCommitMarks res cause k s).get LPE_EVT.COMMIT = 1 ∧
      s.KeepsBits (lpeCommitMarks res cause k s)
        [LPE_STAT.RES, LPE_STAT.ERR_CAUSE, LPE_STAT.ERR_K, LPE_STAT.BUSY, LPE_CTRL.COMMIT, LPE_EVT.COMMIT] := by
  unfold lpeCommitMarks
  refine ⟨?_, ?_, ?_, ?_, ?_, get_put_fit _ _ _ rfl,
    ((((((KeepsBits.refl s).put _ _).put _ _).put _ _).put _ _).put _ _).put _ _ |>.mono (by simp)⟩
  · simp (disch := decide) only [get_put_other, get_put_same]
    exact Nat.mod_eq_of_lt hres
  · simp (disch := decide) only [get_put_other, get_put_same]
    exact Nat.mod_eq_of_lt hcause
  · simp (disch := decide) only [get_put_other, get_put_same]
    exact Nat.mod_eq_of_lt hk
  · simp (disch := decide) only [get_put_other, get_put_fit]
  · simp (disch := decide) only [get_put_other, get_put_fit]

theorem lpeCommitMarks_pst (res cause k : Nat) (s : State) : (lpeCommitMarks res cause k s).pst = s.pst := by
  simp only [lpeCommitMarks, put_pst]

/-- The end of a commit reports, leaves nothing running and rings LPE offset 1 (R211, R250). -/
theorem lpeCommitEnd_eq (res cause k : Nat) (s : State) : lpeCommitEnd res cause k s =
    { lpeCommitMarks res cause k s with
      lpe := { (lpeCommitMarks res cause k s).lpe with phase := .idle } }.ring kLPE 1 := rfl

theorem lpeCommitEnd_phase (res cause k : Nat) (s : State) : (lpeCommitEnd res cause k s).lpe.phase = .idle := rfl

theorem lpeCommitEnd_regs (res cause k : Nat) (s : State) :
    (lpeCommitEnd res cause k s).regs = (lpeCommitMarks res cause k s).regs := rfl

theorem lpeCommitEnd_port (res cause k : Nat) (s : State) :
    (lpeCommitEnd res cause k s).pst.port = s.pst.port ++ [32 * kLPE + 1] := by
  rw [lpeCommitEnd_eq, ring_port, lpeCommitMarks_pst]

/-- What the end of a commit leaves (R211, R250). -/
theorem lpeCommitEnd_leaves {res cause k : Nat} (hres : res < 2 ^ 16) (hcause : cause < 8) (hk : k < 512) (s : State) :
    (lpeCommitEnd res cause k s).get LPE_STAT.RES = res ∧ (lpeCommitEnd res cause k s).get LPE_STAT.ERR_CAUSE = cause ∧
      (lpeCommitEnd res cause k s).get LPE_STAT.ERR_K = k ∧ (lpeCommitEnd res cause k s).get LPE_STAT.BUSY = 0 ∧
      (lpeCommitEnd res cause k s).get LPE_CTRL.COMMIT = 0 ∧ (lpeCommitEnd res cause k s).get LPE_EVT.COMMIT = 1 ∧
      s.KeepsBits (lpeCommitEnd res cause k s)
        [LPE_STAT.RES, LPE_STAT.ERR_CAUSE, LPE_STAT.ERR_K, LPE_STAT.BUSY, LPE_CTRL.COMMIT, LPE_EVT.COMMIT] := by
  have hregs := lpeCommitEnd_regs res cause k s
  have hget (f : Fld) : (lpeCommitEnd res cause k s).get f = (lpeCommitMarks res cause k s).get f :=
    view_of_regs (State.get · f) (fun _ => rfl) hregs
  obtain ⟨hres', hcause', hk', hbusy, hcommit, hevt, hframe⟩ := lpeCommitMarks_leaves hres hcause hk s
  exact ⟨(hget _).trans hres', (hget _).trans hcause', (hget _).trans hk', (hget _).trans hbusy,
    (hget _).trans hcommit, (hget _).trans hevt, hframe.of_regs hregs⟩

/-- A revert ends once the live headers w are copied back (R213). -/
def lpeRevertEnded (w : State) : State :=
  { w.put LPE_STAT.BUSY 0 with lpe := { (w.put LPE_STAT.BUSY 0).lpe with phase := .idle } }

/-- What the end of a revert leaves. -/
theorem lpeRevertEnded_leaves (w : State) :
    (lpeRevertEnded w).get LPE_STAT.BUSY = 0 ∧ (lpeRevertEnded w).lpe.phase = .idle ∧
      w.KeepsBits (lpeRevertEnded w) [LPE_STAT.BUSY] :=
  ⟨get_put_fit w LPE_STAT.BUSY 0 rfl, rfl, (frame_put w LPE_STAT.BUSY 0).1⟩

/-- The machine's revert ends so (R213). -/
theorem exec_lpeRevertDone {t : Dword} {s : State} (hphase : s.lpe.phase = .reverting) (hrun : s.rst.inst = false) :
    exec (.lpeRevertDone t) s = .next (lpeRevertEnded (lpeApplyRevert (s.advanceTo t))) :=
  congrArg Host.Outcome.next ((running_of hrun _).trans (if_pos hphase))

/-! ### State words (R216, R217) -/

/-- A write to a section's state word is taken where its loop is held or not enabled, and else only reported (R216). -/
theorem lpeWrite_section {a : Nat} {s : State} (v : Word) (hrange : LPE_DCFG 0 ≤ a ∧ a < LPE_DCFG 512)
    (hinit : s.get LPE_STAT.INIT_DONE = 1) (hstate : 0x40 ≤ (a - LPE_DCFG 0) % 0x200 ∧
      (a - LPE_DCFG 0) % 0x200 < 0x1A8 ∧ 0x18 ≤ ((a - LPE_DCFG 0) % 0x200 - 0x40) % 0x28) :
    lpeWrite a v s = if s.loopIdle ((a - LPE_DCFG 0) / 0x200) then lpePut a v s else s.put LPE_EVT.WR_LIVE 1 :=
  (if_pos hrange).trans ((if_neg (by simp [bit_of_get hinit])).trans ((if_neg (by omega)).trans (if_pos hstate)))

/-- A write to a state word of the balancing channels is taken where every live BAL loop is held, and else only reported
(R216). -/
theorem lpeWrite_balance {a : Nat} (v : Word) (s : State) (hrange : LPE_BAL_X1 0 ≤ a ∧ a < LPE_BAL_X1 32) :
    lpeWrite a v s = if s.liveLoops.all (fun k => !(s.liveHdr k).bal || s.loopIdle k) then storeReg a v s
      else s.put LPE_EVT.WR_LIVE 1 := by
  have hapart : ¬ (LPE_DCFG 0 ≤ a ∧ a < LPE_DCFG 512) := by
    simp only [LPE_BAL_X1, LPE_DCFG] at hrange ⊢
    omega
  exact (if_neg hapart).trans (if_pos hrange)

/-- Is every live BAL loop held (R216)? -/
theorem balLoops_idle_iff (s : State) : s.liveLoops.all (fun k => !(s.liveHdr k).bal || s.loopIdle k) = true ↔
    ∀ k ∈ s.liveLoops, (s.liveHdr k).bal = true → s.loopIdle k = true := by
  simp only [List.all_eq_true, Bool.or_eq_true, Bool.not_eq_true', ← Bool.not_eq_true, imp_iff_not_or]

/-- A permitted write to a word of the descriptors or of the balancing channels (R216). -/
theorem exec_lpeStateWrite {req : Requester} {a : Offset} {v : Word} {s : State} (halign : a.toNat % 4 = 0)
    (hrange : (LPE_DCFG 0 ≤ a.toNat ∧ a.toNat < LPE_DCFG 512) ∨ (LPE_BAL_X1 0 ≤ a.toNat ∧ a.toNat < LPE_BAL_X1 32))
    (hp : s.Permits req a.toNat v) : exec (.lpeStateWrite req a v) s = .next (lpeWrite a.toNat v s) := by
  have hword : a.toNat / 4 * 4 = a.toNat := by omega
  change Host.Outcome.next (if _ then gated req (a.toNat / 4 * 4) v (lpeWrite (a.toNat / 4 * 4)) s else s) = _
  rw [hword, if_pos hrange, gated_permits hp]

/-! ### A profile generator's target (R241, R242) -/

/-- A generator's registers at different places are different registers. -/
theorem pgReg_ne {o o' i j : Nat} (h : o % 0x40 ≠ o' % 0x40) : o + 0x40 * i ≠ o' + 0x40 * j := by omega

/-- A register below the generators' blocks is none of theirs. -/
theorem pgReg_ne_low {a o j : Nat} (h : a < o) : o + 0x40 * j ≠ a := by omega

/-- The position depends on its two words alone. -/
theorem pgX_of_rd {j : Nat} {s t : State} (hlo : t.rd (PG_X_LO j) = s.rd (PG_X_LO j))
    (hhi : t.rd (PG_X_HI j) = s.rd (PG_X_HI j)) : t.pgX j = s.pgX j := by
  have hnext : PG_X_LO j + 4 = PG_X_HI j := by
    simp only [PG_X_LO, PG_X_HI]
    omega
  exact congrArg (toSigned 64) (get64_of_rd hlo (hnext ▸ hhi))

/-- PG_OUT and PG_STAT.DONE follow the generator's state (R240, R241). -/
def pgShown (j : Nat) (s : State) : State :=
  let u := s.wrI (PG_OUT j) (sat32 (rshr (s.pgX j) 16))
  u.putB (PG_STAT.DONE j)
    (decide (s.pgX j = u.numI (PG_TGT j) * 65536) && decide (u.num (PG_V j) = 0) && decide (u.num (PG_A j) = 0))

/-- DONE set anew is an event (R250, R251). -/
theorem pgRefresh_eq (j : Nat) (s : State) : pgRefresh j s =
    if !s.bit (PG_STAT.DONE j) && (pgShown j s).bit (PG_STAT.DONE j) then
      ((pgShown j s).put LPE_EVT.PGDONE 1).ring kLPE 4
    else pgShown j s := rfl

theorem pgShown_rd {j a : Nat} (hout : a ≠ PG_OUT j) (hstat : a ≠ PG_STAT j) (s : State) :
    (pgShown j s).rd a = s.rd a :=
  (rd_put_other _ _ _ _ hstat).trans (rd_wr_other _ _ _ _ hout)

theorem pgShown_pst (j : Nat) (s : State) : (pgShown j s).pst = s.pst :=
  (put_pst (s.wrI (PG_OUT j) _) (PG_STAT.DONE j) _).trans (wr_pst s (PG_OUT j) _)

/-- A decided proposition stored in a field reads back as its truth value. -/
theorem get_putB_decide (s : State) (f : Fld) (p : Prop) [Decidable p]
    (h : (decide (f.lo ≤ f.hi) && decide (f.hi < 32)) = true) :
    (s.putB f (decide p)).get f = if p then 1 else 0 := by
  simp only [Bool.and_eq_true, decide_eq_true_eq] at h
  obtain ⟨hle, hlt⟩ := h
  unfold State.putB
  by_cases hp : p
  · rw [if_pos hp, decide_eq_true hp, Bool.toNat_true, get_put_one _ _ hle hlt]
  · rw [if_neg hp, decide_eq_false hp, Bool.toNat_false, get_put_zero _ _ hle hlt]

/-- DONE tells whether the generator is at rest at its target (R241). -/
theorem pgShown_done (j : Nat) (s : State) : (pgShown j s).get (PG_STAT.DONE j) =
    if s.pgX j = s.numI (PG_TGT j) * 65536 ∧ s.num (PG_V j) = 0 ∧ s.num (PG_A j) = 0 then 1 else 0 := by
  have hrd {a : Nat} (ha : a ≠ PG_OUT j) : (s.wrI (PG_OUT j) (sat32 (rshr (s.pgX j) 16))).rd a = s.rd a :=
    rd_wr_other _ _ _ _ ha
  have htgt := hrd (a := PG_TGT j) (pgReg_ne (by decide))
  have hv := hrd (a := PG_V j) (pgReg_ne (by decide))
  have ha := hrd (a := PG_A j) (pgReg_ne (by decide))
  simp only [pgShown, State.num, State.numI, htgt, hv, ha, ← Bool.decide_and, and_assoc]
  exact get_putB_decide _ _ _ rfl

/-- Beside its two registers a refresh stores its event (R240, R241, R250). -/
theorem pgRefresh_rd {j a : Nat} (hout : a ≠ PG_OUT j) (hstat : a ≠ PG_STAT j) (hevt : a ≠ LPE_EVT) (s : State) :
    (pgRefresh j s).rd a = s.rd a := by
  rw [pgRefresh_eq]
  split
  · rw [ring_rd, rd_put_other _ _ _ _ hevt, pgShown_rd hout hstat]
  · exact pgShown_rd hout hstat s

theorem pgRefresh_done (j : Nat) (s : State) :
    (pgRefresh j s).get (PG_STAT.DONE j) = (pgShown j s).get (PG_STAT.DONE j) := by
  rw [pgRefresh_eq]
  split
  · rw [ring_get, get_put_reg _ _ _ _ (show 0x701004 + 0x40 * j ≠ 0x70000c by omega)]
  · rfl

/-- DONE that rises is reported, with LPE offset 4 rung (R250, R251). -/
theorem pgRefresh_rises {j : Nat} {s : State} (hwas : s.get (PG_STAT.DONE j) = 0)
    (hdone : (pgRefresh j s).get (PG_STAT.DONE j) = 1) :
    (pgRefresh j s).get LPE_EVT.PGDONE = 1 ∧ (pgRefresh j s).pst.port = s.pst.port ++ [32 * kLPE + 4] := by
  rw [pgRefresh_done] at hdone
  rw [pgRefresh_eq, if_pos (by simp [bit_of_get_zero hwas, bit_of_get hdone])]
  rw [ring_get, ring_port, put_pst, pgShown_pst]
  exact ⟨get_put_fit _ _ _ rfl, rfl⟩

/-- DONE that stands at 0 rings nothing. -/
theorem pgRefresh_waits {j : Nat} {s : State} (hnot : (pgRefresh j s).get (PG_STAT.DONE j) = 0) :
    (pgRefresh j s).pst = s.pst := by
  rw [pgRefresh_done] at hnot
  rw [pgRefresh_eq, if_neg (by simp [bit_of_get_zero hnot]), pgShown_pst]

/-- A new target is stored, with position, speed and acceleration as they were, and DONE tells whether the generator is at
rest there (R241). -/
theorem pgTarget_leaves (j : Nat) (v : Word) (s : State) :
    let t := pgTarget j v.toInt s
    t.rd (PG_TGT j) = v ∧
      t.get (PG_STAT.DONE j) = (if s.pgX j = v.toInt * 65536 ∧ s.num (PG_V j) = 0 ∧ s.num (PG_A j) = 0 then 1 else 0) ∧
      t.pgX j = s.pgX j ∧ t.rd (PG_V j) = s.rd (PG_V j) ∧ t.rd (PG_A j) = s.rd (PG_A j) ∧
      (s.get (PG_STAT.DONE j) = 0 → t.get (PG_STAT.DONE j) = 1 →
        t.get LPE_EVT.PGDONE = 1 ∧ t.pst.port = s.pst.port ++ [32 * kLPE + 4]) ∧
      (t.get (PG_STAT.DONE j) = 0 → t.pst = s.pst) := by
  intro t
  obtain ⟨z, hz⟩ : ∃ z, s.wrI (PG_TGT j) v.toInt = z := ⟨_, rfl⟩
  have ht : t = pgRefresh j z := congrArg (pgRefresh j) hz
  have htgt : z.rd (PG_TGT j) = v := by
    rw [← hz, State.wrI, rd_wr_same, BitVec.ofInt_toInt]
  have hrd {a : Nat} (ha : a ≠ PG_TGT j) : z.rd a = s.rd a := hz ▸ rd_wr_other _ _ _ _ ha
  have hkept {a : Nat} (hout : a ≠ PG_OUT j) (hstat : a ≠ PG_STAT j) (hevt : a ≠ LPE_EVT) : t.rd a = z.rd a :=
    ht ▸ pgRefresh_rd hout hstat hevt z
  have hx : z.pgX j = s.pgX j := pgX_of_rd (hrd (pgReg_ne (by decide))) (hrd (pgReg_ne (by decide)))
  have hv : z.rd (PG_V j) = s.rd (PG_V j) := hrd (pgReg_ne (by decide))
  have ha : z.rd (PG_A j) = s.rd (PG_A j) := hrd (pgReg_ne (by decide))
  have hwas : z.get (PG_STAT.DONE j) = s.get (PG_STAT.DONE j) :=
    congrArg (fun w => fldGet w 0 0) (hrd (a := PG_STAT j) (pgReg_ne (by decide)))
  have hpst : z.pst = s.pst := hz ▸ wr_pst _ _ _
  refine ⟨?_, ?_, ?_, ?_, ?_, fun hzero hone => ?_, fun hzero => ?_⟩
  · exact (hkept (pgReg_ne (by decide)) (pgReg_ne (by decide)) (pgReg_ne_low (by decide))).trans htgt
  · rw [ht, pgRefresh_done, pgShown_done, hx, State.numI, htgt, State.num, State.num, hv, ha]
    rfl
  · exact (pgX_of_rd (hkept (pgReg_ne (by decide)) (pgReg_ne (by decide)) (pgReg_ne_low (by decide)))
      (hkept (pgReg_ne (by decide)) (pgReg_ne (by decide)) (pgReg_ne_low (by decide)))).trans hx
  · exact (hkept (pgReg_ne (by decide)) (pgReg_ne (by decide)) (pgReg_ne_low (by decide))).trans hv
  · exact (hkept (pgReg_ne (by decide)) (pgReg_ne (by decide)) (pgReg_ne_low (by decide))).trans ha
  · rw [ht] at hone ⊢
    rw [← hpst]
    exact pgRefresh_rises (hwas.trans hzero) hone
  · rw [ht] at hzero ⊢
    exact (pgRefresh_waits hzero).trans hpst

/-- A write of a free generator's target is a new target (R241, R243). -/
theorem pgWrite_target {j : Nat} {s : State} (hfree : s.pgBound j = false) (v : Word) :
    pgWrite j 8 v s = pgTarget j v.toInt s := by
  simp [pgWrite, hfree]

/-- A write of a bound generator's target is ignored (R242). -/
theorem pgWrite_target_bound {j : Nat} {s : State} (hbound : s.pgBound j = true) (v : Word) : pgWrite j 8 v s = s := by
  simp [pgWrite, hbound]

/-- Settles O24, command by command. That the tick is tickWork, in its order of the blocks, is log entry 24, and which frame
counts as new is log entry 25. -/
theorem loopEngineCommandsComplete : Obligations.LoopEngineCommandsComplete := by
  refine ⟨fun t x s hlock hrun hframe => ⟨_, rfl, baseTick_works x hlock hrun hframe⟩,
    fun t x s h => ⟨_, rfl, baseTick_none x h⟩, fun req v s hp hidle hen => ?_, fun req v s hp hbusy hen => ?_,
    fun t s hphase hgood hrun => ?_, fun t s hphase hbad hcause hk hrun => ?_, fun req v s hp hidle hen => ?_,
    fun t s hphase hrun => ?_, fun t s hrun => ?_, fun req v s hp hcommit hrevert => ?_, discardOutputs_leaves,
    fun req a v s hrange halign hp hinit hstate => ?_, fun req a v s hrange halign hp => ?_,
    fun req j v s hp hfree => ?_, fun req j v s hp hbound => ?_⟩
  · obtain ⟨hcommit, hbusy, hres, hon, hframe⟩ := lpeCommitStarted_leaves (s.put LPE_CTRL.EN 1)
    refine completes_permitted rfl hp (lpeCtrlWrite_commit ((commitWord_en v).trans hen) (fldGet_or_one v) hidle)
      ⟨hcommit, hbusy, hres, hon.trans (get_put_fit _ _ _ rfl), rfl, rfl, ?_⟩
    exact ((frame_put s LPE_CTRL.EN 1).1.mono (by simp)).trans (hframe.mono (by simp))
  · exact completes_permitted rfl hp (lpeCtrlWrite_during ((commitWord_en v).trans hen) (fldGet_or_one v) hbusy)
      ⟨get_put_fit _ _ _ rfl, rfl, (((KeepsBits.refl s).put _ _).put _ _).mono (by simp)⟩
  · exact ⟨_, exec_lpeValidationDone_good hphase hgood hrun, rfl, s.advanceTo_regs t⟩
  · obtain ⟨hres, hcause', hk', hbusy, hcommit, hevt, hframe⟩ :=
      lpeCommitEnd_leaves (res := stBADPARAM) (by decide) hcause hk (s.advanceTo t)
    exact ⟨_, exec_lpeValidationDone_bad hphase hbad hrun, hres, hcause', hk', hbusy, hcommit, hevt,
      lpeCommitEnd_phase _ _ _ _, by rw [lpeCommitEnd_port, advanceTo_pst], ((adv_keeps s t).mono (by simp)).trans hframe⟩
  · obtain ⟨hcommit, hrevert, hen'⟩ := revertWord_bits v
    obtain ⟨hbusy, hon, hframe⟩ := lpeRevertStarted_leaves (s.put LPE_CTRL.EN 1)
    exact completes_permitted rfl hp (lpeCtrlWrite_revert (hen'.trans hen) hcommit hrevert hidle)
      ⟨hbusy, hon.trans (get_put_fit _ _ _ rfl), rfl, rfl,
        ((frame_put s LPE_CTRL.EN 1).1.mono (by simp)).trans (hframe.mono (by simp))⟩
  · exact ⟨_, exec_lpeRevertDone hphase hrun, lpeApplyRevert (s.advanceTo t), rfl, lpeRevertEnded_leaves _⟩
  · exact completes_running rfl hrun rfl ⟨get_put_fit _ _ _ rfl, frame_put _ _ _⟩
  · exact completes_permitted rfl hp (lpeCtrlWrite_enable hcommit hrevert) (enableStored_leaves (fldGet_lt v 2 2) s)
  · refine ⟨_, exec_lpeStateWrite halign (.inl hrange) hp, fun hidle => ?_, fun hlive => ?_⟩
    · rw [lpeWrite_section v hrange hinit hstate, if_pos hidle]
    · rw [lpeWrite_section v hrange hinit hstate, if_neg (by simp [hlive])]
      exact ⟨get_put_fit _ _ _ rfl, frame_put _ _ _⟩
  · refine ⟨_, exec_lpeStateWrite halign (.inr hrange) hp, fun hidle => ?_, fun ⟨k, hk, hbal, hlive⟩ => ?_⟩
    · rw [lpeWrite_balance v s hrange, if_pos ((balLoops_idle_iff s).mpr hidle)]
    · rw [lpeWrite_balance v s hrange, if_neg fun h => by simp [(balLoops_idle_iff s).mp h k hk hbal] at hlive]
      exact ⟨get_put_fit _ _ _ rfl, frame_put _ _ _⟩
  · exact completes_permitted rfl hp (pgWrite_target hfree v) (pgTarget_leaves j v s)
  · exact completes_permitted rfl hp (pgWrite_target_bound hbound v) rfl

/-! ### ARM and STOP of the trace (R246) -/

@[simp] theorem trcCh_setTrcCh_same (s : State) (ch : Nat) (h : TrcCh) : (s.setTrcCh ch h).trcCh ch = h :=
  mapGet_mapSet_same _ _ _ _

theorem trcCh_setTrcCh_other (s : State) {ch ch' : Nat} (h : TrcCh) (hne : ch' ≠ ch) :
    (s.setTrcCh ch h).trcCh ch' = s.trcCh ch' := mapGet_mapSet_other _ _ _ _ _ _ hne

/-- Registers at different places in the blocks of their trace channels are different registers (R245). -/
theorem traceReg_ne {o o' c d : Nat} (h : o % 0x10 ≠ o' % 0x10) : o + 0x10 * c ≠ o' + 0x10 * d := by omega

/-- A write of ARM alone arms an idle trace that nothing is reading out (R246, R519). -/
theorem trcCtrlWrite_arm {s : State} (hidle : s.trcState = 0 ∨ s.trcState = 3) (hfree : s.get TLM_TRX_CTRL.BUSY = 0) :
    trcCtrlWrite 1 s = traceArm s := by
  have harms : (s.trcState == 0 || s.trcState == 3) = true := by simpa using hidle
  simp [trcCtrlWrite, fldGet, harms, bit_of_get_zero hfree]

/-- A write of STOP alone stops a trace that is not idle (R246). -/
theorem trcCtrlWrite_stop {s : State} (hbusy : s.trcState ≠ 0) : trcCtrlWrite 4 s = s.put TRC_STAT.STATE 0 := by
  simp [trcCtrlWrite, fldGet, hbusy]

/-- A write of SWTRIG alone is a soft trigger (R247). -/
theorem trcCtrlWrite_swtrig (s : State) : trcCtrlWrite 2 s = softTrigger s := by
  simp [trcCtrlWrite, fldGet]

/-- The write pointers of the channels of a list are cleared one by one (R246). -/
def wptrsCleared (l : List Nat) (s : State) : State := s.each l fun s ch => s.wr (TRC_CH_WPTR ch) 0

theorem wptrsCleared_rd {l : List Nat} {ch : Nat} (hch : ch ∈ l) (s : State) :
    (wptrsCleared l s).rd (TRC_CH_WPTR ch) = 0 := by
  refine each_establishes (x := ch) (fun t => t.rd (TRC_CH_WPTR ch) = 0) (fun t => rd_wr_same _ _ _)
    (fun t c ht => ?_) (.inr hch)
  by_cases hc : TRC_CH_WPTR ch = TRC_CH_WPTR c
  · rw [hc]
    exact rd_wr_same _ _ _
  · rw [rd_wr_other _ _ _ _ hc, ht]

theorem wptrsCleared_rd_other {l : List Nat} {a : Nat} (ha : ∀ ch ∈ l, a ≠ TRC_CH_WPTR ch) (s : State) :
    (wptrsCleared l s).rd a = s.rd a := by
  unfold wptrsCleared State.each
  exact List.foldlRecOn l _ (motive := fun t : State => t.rd a = s.rd a) rfl fun t ht ch hch =>
    (rd_wr_other _ _ _ _ (ha ch hch)).trans ht

theorem wptrsCleared_upd (l : List Nat) (s : State) : { wptrsCleared l s with regs := s.regs } = s := by
  unfold wptrsCleared
  exact each_field (fun t : State => { t with regs := s.regs }) l (fun s ch => s.wr (TRC_CH_WPTR ch) 0) s fun _ _ => rfl

/-- ARM leaves ARMED with every write pointer 0 and every channel forgotten, and nothing else (R246). -/
theorem traceArm_leaves {s : State} (hidle : s.trcState = 0 ∨ s.trcState = 3) :
    (traceArm s).trcState = 1 ∧ (∀ ch, ch < 8 → (traceArm s).rd (TRC_CH_WPTR ch) = 0) ∧ (traceArm s).trc = [] ∧
      (∀ a, a ≠ TRC_STAT → (∀ ch, ch < 8 → a ≠ TRC_CH_WPTR ch) → (traceArm s).rd a = s.rd a) ∧
      { traceArm s with regs := s.regs, trc := s.trc } = s := by
  have harm : traceArm s = wptrsCleared (List.range 8) { s.put TRC_STAT.STATE 1 with trc := [] } := if_pos hidle
  have hother {a : Nat} (ha : ∀ ch, ch < 8 → a ≠ TRC_CH_WPTR ch) : (traceArm s).rd a = (s.put TRC_STAT.STATE 1).rd a :=
    harm ▸ wptrsCleared_rd_other (fun ch hch => ha ch (List.mem_range.mp hch)) _
  have hupd := wptrsCleared_upd (List.range 8) { s.put TRC_STAT.STATE 1 with trc := [] }
  rw [← harm] at hupd
  refine ⟨?_, fun ch hch => harm ▸ wptrsCleared_rd (List.mem_range.mpr hch) _, congrArg State.trc hupd,
    fun a hstat hptr => (hother hptr).trans (rd_put_other s TRC_STAT.STATE a 1 hstat),
    congrArg (fun t : State => { t with regs := s.regs, trc := s.trc }) hupd⟩
  have hstat : (traceArm s).rd TRC_STAT = (s.put TRC_STAT.STATE 1).rd TRC_STAT :=
    hother fun ch _ => by simp only [TRC_STAT, TRC_CH_WPTR]; omega
  exact (congrArg (fun w => fldGet w 1 0) hstat).trans (get_put_fit s TRC_STAT.STATE 1 rfl)

/-! ### The trigger (R247, R248) -/

/-- What a trigger reports (R247, R248). -/
def triggerMarks (cause : Nat) (s : State) : State :=
  (((s.put TRC_STAT.STATE 2).put TRC_STAT.CAUSE cause).put64 TRC_TRIG_TS_LO s.now).put LPE_EVT.TRG 1

/-- TRIGGERED with its cause, its TS and its event. -/
theorem triggerMarks_leaves {cause : Nat} (hcause : cause < 8) (s : State) :
    (triggerMarks cause s).trcState = 2 ∧ (triggerMarks cause s).get TRC_STAT.CAUSE = cause ∧
      (triggerMarks cause s).get64 TRC_TRIG_TS_LO = s.now ∧ (triggerMarks cause s).get LPE_EVT.TRG = 1 := by
  unfold triggerMarks
  refine ⟨?_, ?_, ?_, get_put_fit _ _ _ rfl⟩
  · rw [State.trcState, get_put_reg _ _ _ _ (by decide), get_put64_other _ _ (by decide) (by decide),
      get_put_apart _ _ _ _ rfl, get_put_fit _ _ _ rfl]
  · rw [get_put_reg _ _ _ _ (by decide), get_put64_other _ _ (by decide) (by decide), get_put_cut _ _ _ rfl]
    exact Nat.mod_eq_of_lt hcause
  · rw [get64_of_rd (rd_put_other _ _ _ _ (by decide)) (rd_put_other _ _ _ _ (by decide))]
    exact get64_put64 _ _ s.ts.isLt

/-- The registers of the channels stand as they were. -/
theorem triggerMarks_rd_channel (cause : Nat) {a : Nat} (ha : 0x1a00100 ≤ a) (s : State) :
    (triggerMarks cause s).rd a = s.rd a := by
  unfold triggerMarks State.put64 State.wrN
  rw [rd_put_other, rd_wr_other, rd_wr_other, rd_put_other, rd_put_other] <;>
    (simp only [LPE_EVT.TRG, LPE_EVT, TRC_TRIG_TS_LO, TRC_STAT.CAUSE, TRC_STAT.STATE, TRC_STAT]; omega)

/-- The entry at which channel ch is triggered: the one just written when it recorded at this edge, else the next (R248). -/
def State.triggerEntry (s : State) (ch : Nat) : Nat :=
  if (s.trcCh ch).lastTs = some s.now then (s.get (TRC_CH_WPTR.PTR ch) + 4095) % 4096 else s.get (TRC_CH_WPTR.PTR ch)

/-- How many of its entries stand after the trigger already (R248). -/
def State.triggerSince (s : State) (ch : Nat) : Nat := if (s.trcCh ch).lastTs = some s.now then 1 else 0

/-- Channel ch takes note of the trigger (R248). -/
def channelTriggered (s : State) (ch : Nat) : State :=
  (s.setTrcCh ch { s.trcCh ch with since := s.triggerSince ch }).put (TRC_CH_TPTR.PTR ch) (s.triggerEntry ch)

theorem triggerEntry_lt (s : State) (ch : Nat) : s.triggerEntry ch < 4096 := by
  have hptr : s.get (TRC_CH_WPTR.PTR ch) < 4096 := fldGet_lt _ _ _
  unfold State.triggerEntry
  split <;> omega

theorem channelTriggered_trcCh_same (s : State) (ch : Nat) :
    (channelTriggered s ch).trcCh ch = { s.trcCh ch with since := s.triggerSince ch } := trcCh_setTrcCh_same s ch _

theorem channelTriggered_trcCh_other (s : State) {c ch : Nat} (h : ch ≠ c) :
    (channelTriggered s c).trcCh ch = s.trcCh ch := trcCh_setTrcCh_other s _ h

/-- The channel's last record, and what follows from it, are not touched while the channels take note. -/
theorem channelTriggered_lastTs (s : State) (c ch : Nat) :
    ((channelTriggered s c).trcCh ch).lastTs = (s.trcCh ch).lastTs := by
  by_cases h : ch = c
  · rw [h, channelTriggered_trcCh_same]
  · rw [channelTriggered_trcCh_other s h]

theorem channelTriggered_wptr (s : State) (c ch : Nat) :
    (channelTriggered s c).get (TRC_CH_WPTR.PTR ch) = s.get (TRC_CH_WPTR.PTR ch) :=
  get_put_reg _ _ _ _ (traceReg_ne (by decide))

theorem channelTriggered_triggerSince (s : State) (c ch : Nat) :
    (channelTriggered s c).triggerSince ch = s.triggerSince ch := by
  rw [State.triggerSince, channelTriggered_lastTs]
  rfl

theorem channelTriggered_triggerEntry (s : State) (c ch : Nat) :
    (channelTriggered s c).triggerEntry ch = s.triggerEntry ch := by
  rw [State.triggerEntry, channelTriggered_lastTs, channelTriggered_wptr]
  rfl

/-- Has channel ch taken note of the trigger (R248)? -/
def State.Noted (s : State) (ch : Nat) : Prop :=
  (s.trcCh ch).since = s.triggerSince ch ∧ s.get (TRC_CH_TPTR.PTR ch) = s.triggerEntry ch

theorem channelTriggered_noted_same (s : State) (ch : Nat) : (channelTriggered s ch).Noted ch := by
  rw [State.Noted, channelTriggered_triggerSince, channelTriggered_triggerEntry]
  refine ⟨congrArg TrcCh.since (channelTriggered_trcCh_same s ch), (get_put_cut _ _ _ rfl).trans ?_⟩
  exact Nat.mod_eq_of_lt (triggerEntry_lt s ch)

theorem channelTriggered_noted {s : State} {ch : Nat} (h : s.Noted ch) (c : Nat) : (channelTriggered s c).Noted ch := by
  by_cases hc : ch = c
  · exact hc ▸ channelTriggered_noted_same s ch
  · have hptr : TRC_CH_TPTR ch ≠ TRC_CH_TPTR c := by
      unfold TRC_CH_TPTR
      omega
    rw [State.Noted, channelTriggered_triggerSince, channelTriggered_triggerEntry]
    exact ⟨(congrArg TrcCh.since (channelTriggered_trcCh_other s hc)).trans h.1, (get_put_reg _ _ _ _ hptr).trans h.2⟩

/-- A trigger before the trace looks whether entries are awaited (R247, R248). -/
def traceTriggered (cause : Nat) (s : State) : State :=
  ((triggerMarks cause s).each (List.range 8) channelTriggered).ring kLPE 2

/-- A trace that is ARMED triggers, and ends at once where no entry is awaited (R247, R248). -/
theorem traceTrigger_armed {s : State} (harmed : s.trcState = 1) (cause : Nat) :
    traceTrigger cause s = traceFinish (traceTriggered cause s) := by
  have hbody (s : State) (ch : Nat) : channelTriggered s ch =
      if (s.trcCh ch).lastTs = some s.now then
        (s.setTrcCh ch { s.trcCh ch with since := 1 }).put (TRC_CH_TPTR.PTR ch) ((s.get (TRC_CH_WPTR.PTR ch) + 4095) % 4096)
      else (s.setTrcCh ch { s.trcCh ch with since := 0 }).put (TRC_CH_TPTR.PTR ch) (s.get (TRC_CH_WPTR.PTR ch)) := by
    unfold channelTriggered State.triggerEntry State.triggerSince
    split <;> rfl
  rw [traceTriggered, show channelTriggered = _ from funext fun s => funext (hbody s)]
  exact if_pos harmed

/-- A register that is no trigger pointer reads as the marks left it. -/
theorem traceTriggered_rd (cause : Nat) {a : Nat} (ha : ∀ ch, a ≠ TRC_CH_TPTR ch) (s : State) :
    (traceTriggered cause s).rd a = (triggerMarks cause s).rd a := by
  rw [traceTriggered, ring_rd]
  exact each_rd _ _ _ _ fun _ ch => rd_put_other _ _ _ _ (ha ch)

/-- It rings LPE offset 2 (R250). -/
theorem traceTriggered_port (cause : Nat) (s : State) :
    (traceTriggered cause s).pst.port = s.pst.port ++ [32 * kLPE + 2] := by
  rw [traceTriggered, ring_port, each_field State.pst _ channelTriggered _ fun _ _ => rfl]
  rfl

/-- Every channel has taken note, and what it noted follows from the state before. -/
theorem traceTriggered_noted (cause : Nat) {ch : Nat} (hch : ch < 8) (s : State) :
    (traceTriggered cause s).Noted ch ∧ (traceTriggered cause s).triggerSince ch = (triggerMarks cause s).triggerSince ch ∧
      (traceTriggered cause s).triggerEntry ch = (triggerMarks cause s).triggerEntry ch := by
  have hmem : ch ∈ List.range 8 := List.mem_range.mpr hch
  unfold traceTriggered
  generalize List.range 8 = l at hmem ⊢
  refine ⟨?_, ?_, ?_⟩
  · exact each_establishes (f := channelTriggered) (State.Noted · ch) (channelTriggered_noted_same · ch)
      (fun _ c h => channelTriggered_noted h c) (.inr hmem)
  · exact each_field (State.triggerSince · ch) l channelTriggered _ fun t c => channelTriggered_triggerSince t c ch
  · exact each_field (State.triggerEntry · ch) l channelTriggered _ fun t c => channelTriggered_triggerEntry t c ch

/-- What a trigger leaves in the reports of the trace. -/
theorem traceTriggered_reports {cause : Nat} (hcause : cause < 8) (s : State) :
    (traceTriggered cause s).trcState = 2 ∧ (traceTriggered cause s).get TRC_STAT.CAUSE = cause ∧
      (traceTriggered cause s).get64 TRC_TRIG_TS_LO = s.now ∧ (traceTriggered cause s).get LPE_EVT.TRG = 1 ∧
      (traceTriggered cause s).pst.port = s.pst.port ++ [32 * kLPE + 2] := by
  obtain ⟨hstate, hcause', hts, hevt⟩ := triggerMarks_leaves hcause s
  have hrd {a : Nat} (ha : a < 0x1a00100) : (traceTriggered cause s).rd a = (triggerMarks cause s).rd a :=
    traceTriggered_rd cause (fun ch => by unfold TRC_CH_TPTR; omega) s
  have hget {f : Fld} (hf : f.addr < 0x1a00100) : (traceTriggered cause s).get f = (triggerMarks cause s).get f :=
    congrArg (fun w => fldGet w f.hi f.lo) (hrd hf)
  refine ⟨(hget (by decide)).trans hstate, (hget (by decide)).trans hcause', ?_, (hget (by decide)).trans hevt,
    traceTriggered_port cause s⟩
  exact (get64_of_rd (hrd (by decide)) (hrd (by decide))).trans hts

/-- What a trigger leaves in each channel (R248). -/
theorem traceTriggered_channel (cause : Nat) {ch : Nat} (hch : ch < 8) (s : State) :
    ((traceTriggered cause s).trcCh ch).since = s.triggerSince ch ∧
      (traceTriggered cause s).get (TRC_CH_TPTR.PTR ch) = s.triggerEntry ch := by
  obtain ⟨⟨hcount, hptr⟩, hsince, hentry⟩ := traceTriggered_noted cause hch s
  have hwptr : (triggerMarks cause s).get (TRC_CH_WPTR.PTR ch) = s.get (TRC_CH_WPTR.PTR ch) :=
    congrArg (fun w => fldGet w 11 0) (triggerMarks_rd_channel cause (show 0x1a00100 ≤ 0x1a00104 + 0x10 * ch by omega) s)
  refine ⟨hcount.trans hsince, hptr.trans (hentry.trans ?_)⟩
  rw [State.triggerEntry, hwptr]
  rfl

/-- Settles O25, command by command; the trigger by its marks and its loop over the channels. -/
theorem traceCommandsComplete : Obligations.TraceCommandsComplete := by
  refine ⟨fun req s hp hidle hfree => ?_, fun req s hp hbusy => ?_, fun req s hp => ?_,
    fun e s harmed hsrc hdue hrun => ?_, fun cause s harmed hcause => ?_⟩
  · exact completes_permitted rfl hp (trcCtrlWrite_arm hidle hfree) (traceArm_leaves hidle)
  · exact completes_permitted rfl hp (trcCtrlWrite_stop hbusy) ⟨get_put_fit _ _ _ rfl, frame_put _ _ _⟩
  · refine completes_permitted rfl hp (trcCtrlWrite_swtrig s)
      ⟨fun harmed => if_pos harmed, fun hlate hnow => ?_, fun hnone => ?_⟩
    · have hcause : softTrigger s = s.put TRC_STAT.CAUSE 0 := (if_neg (by omega)).trans (if_pos ⟨hlate, hnow⟩)
      exact hcause ▸ ⟨get_put_fit _ _ _ rfl, frame_put _ _ _⟩
    · exact (if_neg (by omega)).trans (if_neg (by omega))
  · refine completes_running rfl hrun (if_pos ⟨?_, ?_, ?_⟩) rfl
    · exact (advanceTo_get s e _).trans harmed
    · exact (advanceTo_get s e _).trans hsrc
    · exact (get64_of_rd (advanceTo_rd s e _) (advanceTo_rd s e _)).trans_le hdue
  · obtain ⟨hstate, hcause', hts, hevt, hport⟩ := traceTriggered_reports hcause s
    exact ⟨traceTriggered cause s, traceTrigger_armed harmed cause, hstate, hcause', hts, hevt, hport,
      fun ch hch => traceTriggered_channel cause hch s⟩

end Sys2Proof.Machine

/-! PROOFS of the family spec/07_forecast.md. What markers, the writes of TTB_CTRL, the sync directory, the Timetable's
loading and an idle group leave. -/

namespace Sys2Proof.Machine

open State

/-! ### Fields over equal registers, and counters of one byte -/

/-- A field reads the same over equal registers. -/
theorem get_of_regs {s t : State} (h : t.regs = s.regs) (f : Fld) : t.get f = s.get f :=
  congrArg (fun w => fldGet w f.hi f.lo) (rd_congr s t f.addr h)

/-- A counter of eight bits saturates at 255 (R262, R266). -/
theorem get_addSat_byte {f : Fld} (hwidth : f.hi = f.lo + 7) (htop : f.hi < 32) (s : State) (k : Nat) :
    (s.addSat f k).get f = min (s.get f + k) 255 := by
  have hbits : f.hi + 1 - f.lo = 8 := by omega
  rw [State.addSat, get_put_same _ _ _ (by omega) htop, hbits]
  omega

/-! ### The state of the path (R263, R264, R266, R675) -/

/-- A state other than TRACKING expects no marker (R264). -/
theorem putTtb_leaves {st : Nat} (hst : st < 8) (hexpects : st ≠ 2) (s : State) :
    (putTtb st s).ttbState = st ∧ (putTtb st s).get TTB_CUR.EXPECT = 0xFFFF ∧
      s.KeepsBits (putTtb st s) [TTB_STAT.STATE, TTB_CUR.EXPECT] := by
  have hput : putTtb st s = (s.put TTB_STAT.STATE st).put TTB_CUR.EXPECT 0xFFFF :=
    congrArg ((s.put TTB_STAT.STATE st).put TTB_CUR.EXPECT) (if_neg hexpects)
  rw [hput]
  refine ⟨?_, get_put_fit _ _ _ rfl, (((KeepsBits.refl s).put _ _).put _ _).mono (by simp)⟩
  rw [State.ttbState, get_put_reg _ _ _ _ (by decide), get_put_cut _ _ _ rfl]
  exact Nat.mod_eq_of_lt hst

/-- A state is stored in STATE and EXPECT alone. -/
theorem putTtb_get {f : Fld} (st : Nat) (s : State) (hstate : f.addr ≠ TTB_STAT ∨ 2 < f.lo) (hcur : f.addr ≠ TTB_CUR) :
    (putTtb st s).get f = s.get f :=
  (get_put_reg _ TTB_CUR.EXPECT _ _ hcur).trans (get_put_other _ TTB_STAT.STATE _ _ (hstate.imp_right .inl))

/-- LOST: no action, no notice, no activation and no expected marker is left; it is counted and reported (R264, R266,
R675). -/
theorem enterLost_leaves (s : State) :
    (enterLost s).ttbState = 3 ∧ (enterLost s).get TTB_CUR.EXPECT = 0xFFFF ∧ (enterLost s).get TTB_EVT.LOST = 1 ∧
      (enterLost s).ttb.acts = [] ∧ (enterLost s).ttb.run = none ∧ (enterLost s).tndr.notices = [] ∧
      (enterLost s).get TTB_CNT1.LOST = min (s.get TTB_CNT1.LOST + 1) 255 ∧
      (enterLost s).pst.port = s.pst.port ++ [32 * kTTB + 0] ∧
      s.KeepsBits (enterLost s) [TTB_STAT.STATE, TTB_CUR.EXPECT, TTB_EVT.LOST, TTB_CNT1.LOST] := by
  obtain ⟨hstate, hexpect, hkeeps⟩ := putTtb_leaves (st := 3) (by decide) (by decide) (endActivation s)
  have hcount : (putTtb 3 (endActivation s)).get TTB_CNT1.LOST = s.get TTB_CNT1.LOST :=
    putTtb_get 3 _ (.inl (by decide)) (by decide)
  refine ⟨?_, ?_, ?_, rfl, rfl, rfl, ?_, rfl, ?_⟩
  · rw [State.ttbState, enterLost, ring_get, get_put_reg _ _ _ _ (by decide)]
    exact (get_put_reg _ TTB_CNT1.LOST _ _ (by decide)).trans hstate
  · rw [enterLost, ring_get, get_put_reg _ _ _ _ (by decide)]
    exact (get_put_reg _ TTB_CNT1.LOST _ _ (by decide)).trans hexpect
  · rw [enterLost, ring_get, get_put_fit _ _ _ rfl]
  · rw [enterLost, ring_get, get_put_reg _ _ _ _ (by decide), State.incSat, get_addSat_byte rfl (by decide), hcount]
  · exact (((hkeeps.put TTB_CNT1.LOST _).put TTB_EVT.LOST 1).of_regs (ring_regs _ kTTB 0)).mono (by simp)

/-! ### Markers at the port (R260..R262) -/

/-- An accepted marker is reported with its command processor and its time (R260). -/
def markerShown (m cp t : Nat) (s : State) : State :=
  ((s.put TTB_LAST.MARKER m).put TTB_LAST.CP cp).put TTB_LAST_TS.TS (t % 2 ^ 32)

theorem markerShown_leaves {m cp : Nat} (t : Nat) (hm : m < 2 ^ 16) (hcp : cp < 16) (s : State) :
    (markerShown m cp t s).get TTB_LAST.MARKER = m ∧ (markerShown m cp t s).get TTB_LAST.CP = cp ∧
      (markerShown m cp t s).get TTB_LAST_TS.TS = t % 2 ^ 32 ∧
      s.KeepsBits (markerShown m cp t s) [TTB_LAST.MARKER, TTB_LAST.CP, TTB_LAST_TS.TS] := by
  unfold markerShown
  refine ⟨?_, ?_, ?_, ((((KeepsBits.refl s).put _ _).put _ _).put _ _).mono (by simp)⟩
  · rw [get_put_reg _ _ _ _ (by decide), get_put_apart _ _ _ _ rfl, get_put_cut _ _ _ rfl]
    exact Nat.mod_eq_of_lt hm
  · rw [get_put_reg _ _ _ _ (by decide), get_put_cut _ _ _ rfl]
    exact Nat.mod_eq_of_lt hcp
  · rw [get_put_cut _ _ _ rfl]
    exact Nat.mod_mod _ _

/-- The report is in no word of Outrider, so the set that R305 gives the marker is that of the state before. -/
theorem markerShown_outSetFor (m cp t : Nat) (s : State) (tm : Nat) :
    (markerShown m cp t s).outSetFor tm = s.outSetFor tm := by
  have hword (j : Nat) : (markerShown m cp t s).rd (OUT_O j) = s.rd (OUT_O j) := by
    have hlast : OUT_O j ≠ TTB_LAST := by unfold OUT_O TTB_LAST; omega
    have hts : OUT_O j ≠ TTB_LAST_TS := by unfold OUT_O TTB_LAST_TS; omega
    exact (rd_put_other _ _ _ _ hts).trans ((rd_put_other _ _ _ _ hlast).trans (rd_put_other _ _ _ _ hlast))
  have hset : (markerShown m cp t s).outSet = s.outSet := List.map_congr_left fun j _ => hword j
  rw [State.outSetFor, State.outSetFor, hset]
  rfl

section MarkerIn

variable {m : Nat} {s : State}

/-- A free marker is reported and counted (R262). -/
theorem markerIn_free (hfree : 0x8000 ≤ m) (cp t : Nat) :
    markerIn m cp t s = (markerShown m cp t s).incSat TTB_CNT2.FREE := if_pos hfree

/-- A forecast marker joins a queue that has room (R261). -/
theorem markerIn_room (hforecast : m < 0x8000) (hroom : s.ttb.queue.length < 16) (cp t : Nat) :
    markerIn m cp t s = { markerShown m cp t s with
      ttb := { s.ttb with queue := s.ttb.queue ++ [⟨m, cp, t, s.outSetFor t⟩], lastFc := some t } } := by
  rw [← markerShown_outSetFor m cp t s t]
  exact (if_neg (by omega)).trans (if_pos hroom)

/-- With a full queue it is dropped, which IDLE does not count and which TRACKING does not survive (R261). -/
theorem markerIn_full (hforecast : m < 0x8000) (hfull : 16 ≤ s.ttb.queue.length) (cp t : Nat) :
    markerIn m cp t s = if s.ttbState = 0 then s
      else if s.ttbState = 2 then enterLost (s.incSat TTB_CNT2.MDROP) else s.incSat TTB_CNT2.MDROP := by
  have hstate : (s.incSat TTB_CNT2.MDROP).ttbState = s.ttbState := get_put_reg _ TTB_CNT2.MDROP _ _ (by decide)
  rw [markerIn, if_neg (by omega), if_neg (by omega)]
  simp only [hstate]

end MarkerIn

/-- What the acceptance of a free marker leaves (R260, R262). -/
theorem markerIn_free_leaves {m cp : Nat} (n : Nat) (hfree : 0x8000 ≤ m) (hm : m < 2 ^ 16) (hcp : cp < 16) (s : State) :
    (markerIn m cp n s).get TTB_LAST.MARKER = m ∧ (markerIn m cp n s).get TTB_LAST.CP = cp ∧
      (markerIn m cp n s).get TTB_LAST_TS.TS = n % 2 ^ 32 ∧
      (markerIn m cp n s).get TTB_CNT2.FREE = min (s.get TTB_CNT2.FREE + 1) 255 ∧ (markerIn m cp n s).ttb = s.ttb ∧
      s.KeepsBits (markerIn m cp n s) [TTB_LAST.MARKER, TTB_LAST.CP, TTB_LAST_TS.TS, TTB_CNT2.FREE] := by
  obtain ⟨hmarker, hproc, hts, hkeeps⟩ := markerShown_leaves n hm hcp s
  have hcount : (markerShown m cp n s).get TTB_CNT2.FREE = s.get TTB_CNT2.FREE := hkeeps.get _ (by decide)
  have hother {f : Fld} (h : f.addr ≠ TTB_CNT2) :
      ((markerShown m cp n s).incSat TTB_CNT2.FREE).get f = (markerShown m cp n s).get f :=
    get_put_reg _ TTB_CNT2.FREE _ _ h
  rw [markerIn_free hfree]
  refine ⟨(hother (by decide)).trans hmarker, (hother (by decide)).trans hproc, (hother (by decide)).trans hts, ?_, rfl,
    (hkeeps.put TTB_CNT2.FREE _).mono (by simp)⟩
  rw [State.incSat, get_addSat_byte rfl (by decide), hcount]

/-- What a forecast marker leaves that finds room in the queue (R260, R261). -/
theorem markerIn_room_leaves {m cp : Nat} {s : State} (n : Nat) (hforecast : m < 0x8000) (hcp : cp < 16)
    (hroom : s.ttb.queue.length < 16) :
    (markerIn m cp n s).ttb.queue = s.ttb.queue ++ [⟨m, cp, n, s.outSetFor n⟩] ∧
      (markerIn m cp n s).ttb.lastFc = some n ∧ (markerIn m cp n s).get TTB_LAST.MARKER = m ∧
      (markerIn m cp n s).get TTB_LAST.CP = cp ∧ (markerIn m cp n s).get TTB_LAST_TS.TS = n % 2 ^ 32 ∧
      s.KeepsBits (markerIn m cp n s) [TTB_LAST.MARKER, TTB_LAST.CP, TTB_LAST_TS.TS] := by
  obtain ⟨hmarker, hproc, hts, hkeeps⟩ := markerShown_leaves n (by omega : m < 2 ^ 16) hcp s
  have hregs : (markerIn m cp n s).regs = (markerShown m cp n s).regs := by rw [markerIn_room hforecast hroom]
  have httb : (markerIn m cp n s).ttb =
      { s.ttb with queue := s.ttb.queue ++ [⟨m, cp, n, s.outSetFor n⟩], lastFc := some n } := by
    rw [markerIn_room hforecast hroom]
  exact ⟨congrArg TtbSt.queue httb, congrArg TtbSt.lastFc httb, (get_of_regs hregs _).trans hmarker,
    (get_of_regs hregs _).trans hproc, (get_of_regs hregs _).trans hts, hkeeps.of_regs hregs⟩

/-! ### The activation of a group (R271) -/

section GroupCatch

variable {upto : Nat} {s : State}

/-- With no group in progress nothing is activated. -/
theorem groupCatch_none (hrun : s.ttb.run = none) : groupCatch upto s = s := by
  simp only [groupCatch, hrun]

/-- Before the edge of its next entry a group waits. -/
theorem groupCatch_before {r : GroupRun} (hrun : s.ttb.run = some r) (hbefore : upto < r.edge) :
    groupCatch upto s = s := by
  simp only [groupCatch, hrun, if_pos hbefore]

/-- The entries of group r from its next one to its last are activated, one per edge in increasing index (R271). -/
def entriesActivated (r : GroupRun) (s : State) : State :=
  s.each (s.listedEntries.filter fun k => decide (r.next ≤ k) && decide (k ≤ r.last)) fun s k =>
    activateEntry r.marker.tm (s.tsAtEdge (r.edge + (k - r.next))) r.marker.snap k s

/-- Once the edge of its last entry has come, the whole group is activated and done (R265, R271). -/
theorem groupCatch_whole {r : GroupRun} (hrun : s.ttb.run = some r) (hdue : r.edge ≤ upto)
    (hlast : r.last ≤ r.next + (upto - r.edge)) :
    groupCatch upto s = groupDone r.last
      { entriesActivated r s with ttb := { (entriesActivated r s).ttb with run := none } } := by
  have hend : min r.last (r.next + (upto - r.edge)) = r.last := Nat.min_eq_left hlast
  simp only [groupCatch, hrun, if_neg (Nat.not_lt.mpr hdue), hend, if_true, entriesActivated]

end GroupCatch

/-- A presented marker waits at the port from the present edge on, or, without a clock, from the next (R260). -/
theorem markerPresent_leaves (m cp : Nat) (s : State) : ∃ u,
    u = groupCatch s.tim.edges (portCatch (s.tim.edges - 1) s) ∧
      (markerPresent m cp s).ttb.port =
        u.ttb.port ++ [⟨if u.locked then u.tim.edges else u.tim.edges + 1, cp, m⟩] ∧
      { markerPresent m cp s with ttb := u.ttb } = u := by
  refine ⟨_, rfl, ?_⟩
  unfold markerPresent
  generalize groupCatch s.tim.edges (portCatch (s.tim.edges - 1) s) = u
  exact ⟨rfl, rfl⟩

/-- Of two markers presented at one edge the port accepts that of the lower command processor (R260). -/
theorem portNext_lower {upto : Nat} {p q : PortMarker} {s : State} (hrun : s.ttb.run = none) (hport : s.ttb.port = [p, q])
    (hedge : p.edge = q.edge) (hlower : q.cp < p.cp) (hfree : s.ttb.portEdge ≤ p.edge) (hdue : p.edge ≤ upto) :
    portNext upto s = markerIn q.marker q.cp (s.tsAtEdge p.edge)
      { s with ttb := { s.ttb with port := [p], portEdge := p.edge + 1 } } := by
  have hne : p ≠ q := fun h => Nat.lt_irrefl _ (h ▸ hlower)
  have hfirst : max s.ttb.portEdge (min p.edge q.edge) = p.edge := by omega
  have hready : [p, q].filter (fun x => decide (x.edge ≤ p.edge)) = [p, q] := by simp [hedge]
  have herase : [p, q].erase q = [p] := by simp [hne]
  simp only [portNext, hport, List.foldl_cons, List.foldl_nil, hfirst, if_neg (Nat.not_lt.mpr hdue), hready,
    List.headD_cons, lt_irrefl, if_false, if_pos hlower, groupCatch_none hrun, herase]
  rfl

/-! ### Markers taken from the queue (R263, R265) -/

section MarkerHandle

variable {edge : Nat} {m : Marker} {s : State}

/-- SCAN drops every marker (R263). -/
theorem handleMarker_scan (hscan : s.ttbState = 1) : handleMarker edge m s = (false, s.incSat TTB_CNT2.MDROP) := by
  simp only [handleMarker, hscan]

/-- The expected marker starts the group at the cursor (R265). -/
theorem handleMarker_expected (htracking : s.ttbState = 2) (hexpected : m.marker = s.entMarker (s.get TTB_CUR.IDX)) :
    handleMarker edge m s = (true, startGroup (s.get TTB_CUR.IDX) edge m s) := by
  simp only [handleMarker, htracking, if_pos hexpected]

/-- With no group in progress the oldest marker of the queue is handled, and MATCH tells whether it activates one. -/
theorem markerHandle_takes {rest : List Marker} {lag : Nat} {b : Bool} {w : State} (hrun : (ttbCatch s).ttb.run = none)
    (hqueue : (ttbCatch s).ttb.queue = m :: rest)
    (hhandled : handleMarker ((ttbCatch s).tim.edges + lag) m
      { ttbCatch s with ttb := { (ttbCatch s).ttb with queue := rest } } = (b, w)) :
    markerHandle lag s = groupCatch w.tim.edges (w.putB TTB_LAST.MATCH b) := by
  simp only [markerHandle]
  split
  · next hfirst =>
    obtain ⟨rfl, rfl⟩ := List.cons.inj (hfirst.symm.trans hqueue)
    rw [hhandled]
  · next hneither => exact absurd hqueue (hneither _ _ hrun)

/-- While a group is being activated, or with an empty queue, no marker is taken (R271). -/
theorem markerHandle_waits (lag : Nat) (hwaits : (ttbCatch s).ttb.run ≠ none ∨ (ttbCatch s).ttb.queue = []) :
    markerHandle lag s = ttbCatch s := by
  simp only [markerHandle]
  split
  · next hrun hqueue => simp [hrun, hqueue] at hwaits
  · rfl

end MarkerHandle

/-! ### Writes of TTB_CTRL (R264, R270, R675) -/

theorem ttbWrite_CTRL (v : Word) (s : State) : ttbWrite TTB_CTRL v s = ttbCtrlWrite v (ttbCatch s) := by
  simp only [ttbWrite, lt_irrefl, if_false, if_true]

/-- ARM during a transfer is refused (R264). -/
theorem ttbCtrlWrite_refused {s : State} (hbusy : s.get TTB_DMA_CTRL.BUSY = 1) :
    ttbCtrlWrite 1 s = s.put TTB_EVT.ARM_REFUSED 1 := by
  simp [ttbCtrlWrite, fldGet, ttbArm, bit_of_get hbusy]

/-- What SCAN starts from: no marker, no action, no activation, and a build that has read nothing (R264, R270, R675). -/
def ttbArmed (s : State) : State :=
  let s := s.addSat TTB_CNT2.MDROP s.ttb.queue.length
  startBuild (endActivation { s with ttb := { s.ttb with queue := [], arming := true } })

/-- ARM with no transfer running leads to SCAN (R264). -/
theorem ttbCtrlWrite_arm {s : State} (hidle : s.get TTB_DMA_CTRL.BUSY = 0) :
    ttbCtrlWrite 1 s = putTtb 1 (ttbArmed s) := by
  simp [ttbCtrlWrite, fldGet, ttbArm, bit_of_get_zero hidle, ttbArmed]

/-- What ARM leaves: nothing queued or in force, and the discarded markers counted (R264, R675). -/
theorem ttbArmed_leaves (s : State) :
    (putTtb 1 (ttbArmed s)).ttbState = 1 ∧ (putTtb 1 (ttbArmed s)).get TTB_CUR.EXPECT = 0xFFFF ∧
      (putTtb 1 (ttbArmed s)).ttb.queue = [] ∧ (putTtb 1 (ttbArmed s)).ttb.acts = [] ∧
      (putTtb 1 (ttbArmed s)).ttb.arming = true ∧ (putTtb 1 (ttbArmed s)).ttb.run = none ∧
      (putTtb 1 (ttbArmed s)).ttb.olds = [] ∧ (putTtb 1 (ttbArmed s)).tndr.notices = [] ∧
      (putTtb 1 (ttbArmed s)).get TTB_CNT2.MDROP = min (s.get TTB_CNT2.MDROP + s.ttb.queue.length) 255 ∧
      s.KeepsBits (putTtb 1 (ttbArmed s)) [TTB_STAT.STATE, TTB_CUR.EXPECT, TTB_CNT2.MDROP] := by
  have hregs : (ttbArmed s).regs = (s.addSat TTB_CNT2.MDROP s.ttb.queue.length).regs := rfl
  obtain ⟨hstate, hexpect, hkeeps⟩ := putTtb_leaves (st := 1) (by decide) (by decide) (ttbArmed s)
  have hcounted : s.KeepsBits (ttbArmed s) [TTB_CNT2.MDROP] := (frame_put s TTB_CNT2.MDROP _).1.of_regs hregs
  refine ⟨hstate, hexpect, rfl, rfl, rfl, rfl, rfl, rfl, ?_, (hcounted.mono (by simp)).trans (hkeeps.mono (by simp))⟩
  rw [putTtb_get 1 _ (.inl (by decide)) (by decide)]
  exact (get_of_regs hregs _).trans (get_addSat_byte rfl (by decide) _ _)

/-- STOP empties the marker queue and ends a build that ARM alone started, in every state (R264, R675). -/
def ttbStopped (s : State) : State :=
  let s := { s with ttb := { s.ttb with queue := [], arming := false } }
  if s.bit TTB_STAT.SCANNING then s else startBuild s

/-- It touches no register. -/
theorem ttbStopped_leaves (s : State) :
    (ttbStopped s).regs = s.regs ∧ (ttbStopped s).ttb.queue = [] ∧ (ttbStopped s).ttb.arming = false := by
  simp only [ttbStopped]
  split
  · exact ⟨rfl, rfl, rfl⟩
  · exact ⟨rfl, rfl, rfl⟩

/-- STOP leads to IDLE, out of every other state with its actions withdrawn (R264, R675). -/
theorem ttbCtrlWrite_stop (s : State) : ttbCtrlWrite 2 s =
    if s.ttbState = 0 then ttbStopped s else putTtb 0 (endActivation (ttbStopped s)) := by
  have hstop : ttbCtrlWrite 2 s = ttbStop s := by simp [ttbCtrlWrite, fldGet]
  have hstate : (ttbStopped s).ttbState = s.ttbState :=
    get_of_regs (ttbStopped_leaves s).1 _
  rw [hstop, ← hstate]
  rfl

/-- What STOP leaves (R264, R675). -/
theorem ttbCtrlWrite_stop_leaves (s : State) :
    (ttbCtrlWrite 2 s).ttb.queue = [] ∧ (ttbCtrlWrite 2 s).ttb.arming = false ∧ (ttbCtrlWrite 2 s).ttbState = 0 ∧
      (s.ttbState ≠ 0 → (ttbCtrlWrite 2 s).get TTB_CUR.EXPECT = 0xFFFF ∧ (ttbCtrlWrite 2 s).ttb.acts = [] ∧
        (ttbCtrlWrite 2 s).ttb.run = none ∧ (ttbCtrlWrite 2 s).tndr.notices = []) ∧
      s.KeepsBits (ttbCtrlWrite 2 s) [TTB_STAT.STATE, TTB_CUR.EXPECT] := by
  obtain ⟨hregs, hqueue, harming⟩ := ttbStopped_leaves s
  rw [ttbCtrlWrite_stop]
  split
  · next hidle =>
    exact ⟨hqueue, harming, (get_of_regs hregs _).trans hidle, fun h => absurd hidle h,
      (keeps_regs_eq hregs).mono (by simp)⟩
  · obtain ⟨hstate, hexpect, hkeeps⟩ := putTtb_leaves (st := 0) (by decide) (by decide) (endActivation (ttbStopped s))
    exact ⟨hqueue, harming, hstate, fun _ => ⟨hexpect, rfl, rfl, rfl⟩,
      ((keeps_regs_eq (t := endActivation (ttbStopped s)) hregs).mono (by simp)).trans hkeeps⟩

/-- RESCAN starts a build, and changes nothing else (R270). -/
theorem ttbCtrlWrite_rescan_leaves (s : State) :
    (ttbCtrlWrite 4 s).get TTB_STAT.SCANNING = 1 ∧ (ttbCtrlWrite 4 s).ttb.olds = [] ∧
      s.KeepsBits (ttbCtrlWrite 4 s) [TTB_STAT.SCANNING] ∧ { ttbCtrlWrite 4 s with regs := s.regs, ttb := s.ttb } = s := by
  have hrescan : ttbCtrlWrite 4 s = (startBuild s).put TTB_STAT.SCANNING 1 := by simp [ttbCtrlWrite, fldGet]
  rw [hrescan]
  exact ⟨get_put_fit _ _ _ rfl, rfl, (frame_put (startBuild s) _ _).1, rfl⟩

/-! ### The end of a build (R264, R267, R270) -/

/-- The entries that a build read and that hold an uncorrectable error are reported (R498). -/
def dirErrors (es : List DirEntry) (s : State) : State :=
  s.each (es.filter fun x => s.entUe x.1) fun s x => memUe 12 (16 * x.1) s

/-- The directory is stored, with what it left out, and no build is running (R267, R270). -/
def dirStored (dir : List (Nat × Nat)) (dup full : Bool) (s : State) : State :=
  let s := { s with ttb := { s.ttb with dir := dir, arming := false, olds := [] } }
  ((((s.putB TTB_STAT.DUP_SYNC dup).putB TTB_STAT.DIR_FULL full).put TTB_STAT.NSYNC dir.length).put
    TTB_STAT.SCANNING 0).ring kTTB 7

/-- A build after ARM leads from SCAN to TRACKING at START (R264). -/
def dirTracked (arming : Bool) (s : State) : State :=
  if arming then putTtb 2 (putCursor (s.get TTB_RANGE.START) s) else s

theorem dirDone_building {s u : State} {es : List DirEntry} {dir : List (Nat × Nat)} {dup full : Bool}
    (hbuilding : s.building = true) (hread : dirRead s = (es, u))
    (hbuilt : dirBuild ((dirErrors es u).get TTB_RANGE.START) (es.filter fun x => !(dirErrors es u).entUe x.1) =
      (dir, dup, full)) :
    dirDone s = dirTracked (dirErrors es u).ttb.arming (dirStored dir dup full (dirErrors es u)) := by
  rw [dirDone, if_pos hbuilding, hread]
  unfold dirErrors at hbuilt
  simp only [hbuilt]
  rfl

theorem dirStored_leaves (dir : List (Nat × Nat)) (dup full : Bool) (s : State) :
    (dirStored dir dup full s).get TTB_STAT.SCANNING = 0 ∧ (dirStored dir dup full s).get TTB_STAT.DUP_SYNC = dup.toNat ∧
      (dirStored dir dup full s).get TTB_STAT.DIR_FULL = full.toNat := by
  unfold dirStored State.putB
  simp only [ring_get]
  refine ⟨get_put_fit _ _ _ rfl, ?_, ?_⟩
  · rw [get_put_apart _ _ _ _ rfl, get_put_apart _ _ _ _ rfl, get_put_apart _ _ _ _ rfl, get_put_cut _ _ _ rfl]
    exact Nat.mod_eq_of_lt (Bool.toNat_lt dup)
  · rw [get_put_apart _ _ _ _ rfl, get_put_apart _ _ _ _ rfl, get_put_cut _ _ _ rfl]
    exact Nat.mod_eq_of_lt (Bool.toNat_lt full)

/-- The way to TRACKING touches STATE and the cursor alone. -/
theorem dirTracked_leaves (arming : Bool) (s : State) :
    (dirTracked arming s).ttb = s.ttb ∧ (dirTracked arming s).pst = s.pst ∧
      ∀ f : Fld, 2 < f.lo → f.addr ≠ TTB_CUR → (dirTracked arming s).get f = s.get f := by
  unfold dirTracked
  split
  · exact ⟨rfl, rfl, fun f hstate hcur => (putTtb_get 2 _ (.inr hstate) hcur).trans (get_put_reg _ _ _ _ hcur)⟩
  · exact ⟨rfl, rfl, fun _ _ _ => rfl⟩

/-- What the end of a build leaves (R264, R267, R270). -/
theorem dirDone_leaves {s : State} (hbuilding : s.building = true) : ∃ es u dir dup full,
    (es, u) = dirRead s ∧
    (dir, dup, full) = dirBuild ((dirErrors es u).get TTB_RANGE.START) (es.filter fun x => !(dirErrors es u).entUe x.1) ∧
    (dirDone s).ttb.dir = dir ∧ (dirDone s).ttb.arming = false ∧ (dirDone s).ttb.olds = [] ∧
    (dirDone s).get TTB_STAT.SCANNING = 0 ∧ (dirDone s).get TTB_STAT.DUP_SYNC = dup.toNat ∧
    (dirDone s).get TTB_STAT.DIR_FULL = full.toNat ∧
    (dirDone s).pst.port = (dirErrors es u).pst.port ++ [32 * kTTB + 7] := by
  rcases hread : dirRead s with ⟨es, u⟩
  rcases hbuilt : dirBuild ((dirErrors es u).get TTB_RANGE.START) (es.filter fun x => !(dirErrors es u).entUe x.1)
    with ⟨dir, dup, full⟩
  obtain ⟨httb, hpst, hother⟩ := dirTracked_leaves (dirErrors es u).ttb.arming (dirStored dir dup full (dirErrors es u))
  obtain ⟨hscanning, hdup, hfull⟩ := dirStored_leaves dir dup full (dirErrors es u)
  refine ⟨es, u, dir, dup, full, rfl, hbuilt.symm, ?_⟩
  rw [dirDone_building hbuilding hread hbuilt, httb, hpst, hother _ (by decide) (by decide),
    hother _ (by decide) (by decide), hother _ (by decide) (by decide)]
  exact ⟨rfl, rfl, rfl, hscanning, hdup, hfull, rfl⟩

/-! ### Transfers and writes of the Timetable (R285..R288, R676) -/

theorem ttbWrite_DMA_CTRL (v : Word) (s : State) : ttbWrite TTB_DMA_CTRL v s = ttbDmaWrite v (ttbCatch s) := by
  have hafter : ¬ TTB_DMA_CTRL < TTB_CTRL := by decide
  have hother : TTB_DMA_CTRL ≠ TTB_CTRL := by decide
  simp only [ttbWrite, if_neg hafter, if_neg hother, if_true]

/-- A transfer starts with the range that the registers name (R285). -/
def ttbDmaStarted (s : State) : State :=
  { (s.put TTB_DMA_CTRL.GO 1).put TTB_DMA_CTRL.BUSY 1 with
    ttb := { s.ttb with dmaNext := s.get TTB_DMA_LEN.DST, dmaLeft := s.ttbDmaCount, dmaSrc := s.get64 TTB_DMA_SRC_LO } }

section DmaWrite

variable {s : State}

/-- GO with a good source and range starts a transfer (R285). -/
theorem ttbDmaWrite_start (hidle : s.get TTB_DMA_CTRL.BUSY = 0) (hsrc : s.get64 TTB_DMA_SRC_LO % 16 = 0)
    (hrange : s.get TTB_DMA_LEN.DST + s.ttbDmaCount ≤ 65536) : ttbDmaWrite 1 s = ttbDmaStarted s := by
  have hother {f : Fld} (h : f.addr ≠ TTB_DMA_CTRL) :
      ((s.put TTB_DMA_CTRL.GO 1).put TTB_DMA_CTRL.BUSY 1).get f = s.get f :=
    (get_put_reg _ _ _ _ h).trans (get_put_reg _ _ _ _ h)
  have hword {a : Nat} (h : a ≠ TTB_DMA_CTRL) :
      ((s.put TTB_DMA_CTRL.GO 1).put TTB_DMA_CTRL.BUSY 1).rd a = s.rd a :=
    (rd_put_other _ _ _ _ h).trans (rd_put_other _ _ _ _ h)
  have hdst := hother (f := TTB_DMA_LEN.DST) (by decide)
  have hcount : ((s.put TTB_DMA_CTRL.GO 1).put TTB_DMA_CTRL.BUSY 1).ttbDmaCount = s.ttbDmaCount := by
    simp only [State.ttbDmaCount, hother (f := TTB_DMA_LEN.CNT) (by decide)]
  have haddress := get64_of_rd (hword (a := TTB_DMA_SRC_LO) (by decide)) (hword (by decide))
  have hgo : ¬ (fldGet (1 : Word) 0 0 = 0 ∨ s.bit TTB_DMA_CTRL.BUSY = true) := by simp [bit_of_get_zero hidle, fldGet]
  have hgood : ¬ (s.get64 TTB_DMA_SRC_LO % 16 ≠ 0 ∨ 65536 < s.get TTB_DMA_LEN.DST + s.ttbDmaCount) := by omega
  simp only [ttbDmaWrite, if_neg hgo, if_neg hgood, hdst, hcount, haddress]
  rfl

/-- A source that is not aligned, or a range beyond the table, ends it with BAD_PARAM (R285). -/
theorem ttbDmaWrite_bad (hidle : s.get TTB_DMA_CTRL.BUSY = 0)
    (hbad : s.get64 TTB_DMA_SRC_LO % 16 ≠ 0 ∨ 65536 < s.get TTB_DMA_LEN.DST + s.ttbDmaCount) :
    ttbDmaWrite 1 s = ttbDmaEnd stBADPARAM s := by
  have hgo : ¬ (fldGet (1 : Word) 0 0 = 0 ∨ s.bit TTB_DMA_CTRL.BUSY = true) := by simp [bit_of_get_zero hidle, fldGet]
  rw [ttbDmaWrite, if_neg hgo, if_pos hbad]

end DmaWrite

/-- A started transfer is busy, and nothing else of the window changes (R285). -/
theorem ttbDmaStarted_leaves (s : State) :
    (ttbDmaStarted s).get TTB_DMA_CTRL.BUSY = 1 ∧ (ttbDmaStarted s).get TTB_DMA_CTRL.GO = 1 ∧
      (ttbDmaStarted s).ttb = { s.ttb with
        dmaNext := s.get TTB_DMA_LEN.DST, dmaLeft := s.ttbDmaCount, dmaSrc := s.get64 TTB_DMA_SRC_LO } ∧
      s.KeepsBits (ttbDmaStarted s) [TTB_DMA_CTRL.BUSY, TTB_DMA_CTRL.GO] ∧
      { ttbDmaStarted s with regs := s.regs, ttb := s.ttb } = s := by
  have hregs : (ttbDmaStarted s).regs = ((s.put TTB_DMA_CTRL.GO 1).put TTB_DMA_CTRL.BUSY 1).regs := rfl
  refine ⟨?_, ?_, rfl, (((KeepsBits.refl s).put _ _).put _ _).of_regs hregs, rfl⟩
  · rw [get_of_regs hregs, get_put_fit _ _ _ rfl]
  · rw [get_of_regs hregs, get_put_apart _ _ _ _ rfl, get_put_fit _ _ _ rfl]

/-- What the end of a transfer reports, before the rebuild (R285). -/
def ttbDmaReported (res : Nat) (s : State) : State :=
  (((s.put TTB_DMA_CTRL.RES res).put TTB_DMA_CTRL.BUSY 0).put TTB_DMA_CTRL.GO 0).put TTB_EVT.DMA 1

theorem ttbDmaReported_leaves {res : Nat} (hres : res < 2 ^ 16) (s : State) :
    (ttbDmaReported res s).get TTB_DMA_CTRL.RES = res ∧ (ttbDmaReported res s).get TTB_DMA_CTRL.BUSY = 0 ∧
      (ttbDmaReported res s).get TTB_DMA_CTRL.GO = 0 ∧ (ttbDmaReported res s).get TTB_EVT.DMA = 1 ∧
      s.KeepsBits (ttbDmaReported res s) [TTB_EVT.DMA, TTB_DMA_CTRL.GO, TTB_DMA_CTRL.BUSY, TTB_DMA_CTRL.RES] := by
  unfold ttbDmaReported
  refine ⟨?_, ?_, ?_, get_put_fit _ _ _ rfl, ((((KeepsBits.refl s).put _ _).put _ _).put _ _).put _ _⟩
  · simp (disch := decide) only [get_put_other, get_put_same]
    exact Nat.mod_eq_of_lt hres
  · simp (disch := decide) only [get_put_other, get_put_fit]
  · simp (disch := decide) only [get_put_other, get_put_fit]

/-- The end of a transfer with status res: its report, its doorbell and a rebuild (R270, R285). -/
theorem ttbDmaEnd_leaves {res : Nat} (hres : res < 2 ^ 16) (s : State) :
    (ttbDmaEnd res s).get TTB_DMA_CTRL.RES = res ∧ (ttbDmaEnd res s).get TTB_DMA_CTRL.BUSY = 0 ∧
      (ttbDmaEnd res s).get TTB_DMA_CTRL.GO = 0 ∧ (ttbDmaEnd res s).get TTB_EVT.DMA = 1 ∧
      (ttbDmaEnd res s).get TTB_STAT.SCANNING = 1 ∧ (ttbDmaEnd res s).pst.port = s.pst.port ++ [32 * kTTB + 3] ∧
      s.KeepsBits (ttbDmaEnd res s)
        [TTB_DMA_CTRL.RES, TTB_DMA_CTRL.BUSY, TTB_DMA_CTRL.GO, TTB_EVT.DMA, TTB_STAT.SCANNING] := by
  obtain ⟨hres', hbusy, hgo, hevt, hkeeps⟩ := ttbDmaReported_leaves hres s
  have hend : ttbDmaEnd res s = (startBuild ((ttbDmaReported res s).ring kTTB 3)).put TTB_STAT.SCANNING 1 := rfl
  have hregs : (startBuild ((ttbDmaReported res s).ring kTTB 3)).regs = (ttbDmaReported res s).regs := rfl
  have hother {f : Fld} (h : f.addr ≠ TTB_STAT) : (ttbDmaEnd res s).get f = (ttbDmaReported res s).get f :=
    (get_put_reg _ TTB_STAT.SCANNING _ _ h).trans (get_of_regs hregs f)
  refine ⟨(hother (by decide)).trans hres', (hother (by decide)).trans hbusy, (hother (by decide)).trans hgo,
    (hother (by decide)).trans hevt, get_put_fit _ _ _ rfl, rfl, ?_⟩
  rw [hend]
  exact ((hkeeps.of_regs hregs).put TTB_STAT.SCANNING 1).mono (by simp)

/-- A store in the Timetable leaves the count of the entries that a transfer has still to write. -/
theorem putEntry_dmaLeft (i : Nat) (ws : List (Nat × Word)) (s : State) :
    (putEntry i ws s).ttb.dmaLeft = s.ttb.dmaLeft := by
  simp only [putEntry, memWritten_ttb]
  refine (each_field (fun t : State => t.ttb.dmaLeft) ws (fun s e => s.wr (TTB_ENT i e.1) e.2) _ fun _ _ => rfl).trans ?_
  split <;> rfl

/-- The next entry of a running transfer is stored outside the live span, and the transfer moves on (R285, R286). -/
theorem ttbDmaEntry_stores {s : State} (w0 w1 w2 w3 : Word) (hbusy : s.get TTB_DMA_CTRL.BUSY = 1)
    (hleft : s.ttb.dmaLeft ≠ 0) (hspan : s.inLiveSpan s.ttb.dmaNext = false) (hinit : s.get TTB_STAT.INIT_DONE = 1) :
    let u := putEntry s.ttb.dmaNext [(0, w0), (1, w1), (2, w2), (3, w3)] s
    ttbDmaEntry [w0, w1, w2, w3] s = { u with ttb := { u.ttb with
      dmaNext := s.ttb.dmaNext + 1, dmaLeft := s.ttb.dmaLeft - 1, dmaSrc := u.ttb.dmaSrc + 16,
      dmaEdge := u.tim.edges + 1 } } := by
  intro u
  have hruns : ¬ ((!s.bit TTB_DMA_CTRL.BUSY) = true ∨ s.ttb.dmaLeft = 0 ∨ s.inLiveSpan s.ttb.dmaNext = true) := by
    simp [bit_of_get hbusy, hleft, hspan]
  rw [← putEntry_dmaLeft s.ttb.dmaNext [(0, w0), (1, w1), (2, w2), (3, w3)] s]
  simp only [ttbDmaEntry, if_neg hruns, if_pos (bit_of_get hinit)]
  rfl

/-- A transfer whose entries are all written completes (R285). -/
theorem ttbDmaFinish_whole {s : State} (hbusy : s.get TTB_DMA_CTRL.BUSY = 1) (hleft : s.ttb.dmaLeft = 0) :
    ttbDmaFinish true s = ttbDmaEnd stOK s := by
  simp [ttbDmaFinish, bit_of_get hbusy, hleft]

/-- An error of the host fabric ends it with INTERNAL and Caboose source 1 (R285, R500). -/
theorem ttbDmaFinish_error {s : State} (hbusy : s.get TTB_DMA_CTRL.BUSY = 1) :
    ttbDmaFinish false s = ttbDmaEnd stINTERNAL (dmaError 0 s.ttb.dmaSrc s) := by
  simp [ttbDmaFinish, bit_of_get hbusy]

/-- A direct write takes effect from INIT_DONE on, outside the live span (R286, R288). -/
theorem timetableWrite_cases {s : State} (i w : Nat) (v : Word) :
    (s.get TTB_STAT.INIT_DONE = 0 → timetableWrite i w v s = s) ∧
    (s.get TTB_STAT.INIT_DONE = 1 → s.inLiveSpan i = true → timetableWrite i w v s = s.put TTB_EVT.WR_LIVE 1) ∧
    (s.get TTB_STAT.INIT_DONE = 1 → s.inLiveSpan i = false → timetableWrite i w v s = putEntry i [(w, v)] s) := by
  refine ⟨fun hinit => ?_, fun hinit hspan => ?_, fun hinit hspan => ?_⟩
  · simp [timetableWrite, bit_of_get_zero hinit]
  · simp [timetableWrite, bit_of_get hinit, hspan]
  · simp [timetableWrite, bit_of_get hinit, hspan]

/-- A write at the offset of word w of entry i is one of that word (R255). -/
theorem ttbWrite_entry {i w : Nat} (hi : i < 65536) (hw : w < 4) (v : Word) (s : State) :
    ttbWrite (TTB_ENT i w) v s = timetableWrite i w v (ttbCatch s) := by
  have hbelow : TTB_ENT i w < TTB_CTRL := by unfold TTB_ENT TTB_CTRL; omega
  have hentry : (TTB_ENT i w - TTB_ENT 0 0) / 16 = i := by unfold TTB_ENT; omega
  have hword : (TTB_ENT i w - TTB_ENT 0 0) / 4 % 4 = w := by unfold TTB_ENT; omega
  simp only [ttbWrite, if_pos hbelow, hentry, hword]

/-- A write in a memory with no known bad word only stores (R496). -/
theorem memWritten_good {m : Nat} {s : State} (hgood : ∀ o, s.memBad m o = false) (base : Nat) (os : List Nat) :
    memWritten m base os s = s :=
  List.foldl_fixed' (fun o => if_neg (by simp [hgood])) _

/-- With no build running and no known bad word, an entry's new word is all that changes (R270, R496). -/
theorem putEntry_plain {s : State} (i w : Nat) (v : Word) (hidle : s.building = false)
    (hgood : ∀ o, s.memBad 12 o = false) : putEntry i [(w, v)] s = s.wr (TTB_ENT i w) v := by
  have hno : ¬ s.building = true := by simp [hidle]
  simp only [putEntry, if_neg hno]
  exact memWritten_good (s := s.wr (TTB_ENT i w) v) hgood _ _

/-! ### Idle groups (R345) -/

/-- A group noted as idle joins those that are. -/
theorem contains_noted (g h : Nat) (l : List Nat) :
    (g :: l.filter (· != g)).contains h = (h == g || l.contains h) := by
  by_cases hg : h = g
  · simp [hg]
  · simp [hg, List.contains_eq_mem]

/-- Settles O26, command by command. Markers that stand at the port until a later edge are log entry 132, a build that
starts afresh at a further trigger is log entry 133, and the activation as a state of its own is log entry 47. -/
theorem forecastCommandsComplete : Obligations.ForecastCommandsComplete := by
  refine ⟨fun m cp n s hfree hm hcp => ⟨_, rfl, markerIn_free_leaves n hfree hm hcp s⟩,
    fun m cp n s hm hcp hroom => ⟨_, rfl, markerIn_room_leaves n hm hcp hroom⟩,
    fun m cp n s hm hfull => markerIn_full hm hfull cp n,
    fun e cp m s hrun => completes_running rfl hrun rfl (markerPresent_leaves m.toNat cp.val (s.advanceTo e)),
    fun upto p q s hrun hport hedge hlower hfree hdue => portNext_lower hrun hport hedge hlower hfree hdue,
    fun s => ⟨_, rfl, enterLost_leaves s⟩, fun e lag s hrun => ?_,
    fun edge m s htracking hexpected => ⟨handleMarker_expected htracking hexpected, rfl⟩,
    fun upto r s hrun => ⟨groupCatch_before hrun, groupCatch_whole hrun⟩,
    fun edge m s hscan => handleMarker_scan hscan, fun req s hp hidle => ?_, fun req s hp hbusy => ?_,
    fun req s hp => ?_, fun req s hp => ?_, fun e s hbuilding hrun => ?_, fun req s hp u hu hidle hsrc hrange => ?_,
    fun req s hp u hu hidle hbad => ?_, fun res s hres => ⟨_, rfl, ttbDmaEnd_leaves hres s⟩,
    fun e w0 w1 w2 w3 s z hz hbusy hleft hspan hinit hrun => ?_, fun e s z hz hbusy hleft hrun => ?_,
    fun e s z hz hbusy hrun => ?_, fun req i w v s hp u hu hinit => ?_, fun req i w v s hp hinit => ?_,
    fun i w v s hidle hgood => putEntry_plain i w v hidle hgood, fun e s hrun => ?_, fun e g s hrun => ?_⟩
  · exact completes_running rfl hrun rfl ⟨_, rfl,
      fun m rest hnone hqueue => ⟨_, _, rfl, markerHandle_takes hnone hqueue rfl⟩, markerHandle_waits lag⟩
  · exact completes_permitted rfl hp ((ttbWrite_CTRL 1 s).trans (ttbCtrlWrite_arm hidle))
      ⟨_, rfl, ttbArmed_leaves (ttbCatch s)⟩
  · exact completes_permitted rfl hp ((ttbWrite_CTRL 1 s).trans (ttbCtrlWrite_refused hbusy))
      ⟨get_put_fit _ _ _ rfl, frame_put _ _ _⟩
  · exact completes_permitted rfl hp (ttbWrite_CTRL 2 s) ⟨_, rfl, ttbCtrlWrite_stop_leaves (ttbCatch s)⟩
  · exact completes_permitted rfl hp (ttbWrite_CTRL 4 s) (ttbCtrlWrite_rescan_leaves (ttbCatch s))
  · exact completes_running rfl hrun rfl (dirDone_leaves hbuilding)
  · subst hu
    exact completes_permitted rfl hp ((ttbWrite_DMA_CTRL 1 s).trans (ttbDmaWrite_start hidle hsrc hrange))
      (ttbDmaStarted_leaves (ttbCatch s))
  · subst hu
    exact completes_permitted rfl hp ((ttbWrite_DMA_CTRL 1 s).trans (ttbDmaWrite_bad hidle hbad)) rfl
  · exact completes_running rfl hrun ((congrArg (ttbDmaEntry [w0, w1, w2, w3]) hz.symm).trans
      (ttbDmaEntry_stores w0 w1 w2 w3 hbusy hleft hspan hinit)) ⟨_, rfl, rfl, rfl, rfl⟩
  · exact completes_running rfl hrun ((congrArg (ttbDmaFinish true) hz.symm).trans (ttbDmaFinish_whole hbusy hleft)) rfl
  · exact completes_running rfl hrun ((congrArg (ttbDmaFinish false) hz.symm).trans (ttbDmaFinish_error hbusy))
      ⟨_, rfl, rfl, rfl, rfl⟩
  · subst hu
    obtain ⟨-, hlive, hstores⟩ := timetableWrite_cases (s := ttbCatch s) i.toNat w.val v
    refine completes_permitted rfl hp (ttbWrite_entry i.isLt w.isLt v s) ⟨fun hspan => ?_, hstores hinit⟩
    rw [hlive hinit hspan]
    exact ⟨get_put_fit _ _ _ rfl, frame_put _ _ _⟩
  · exact completes_permitted rfl hp (ttbWrite_entry i.isLt w.isLt v s) ((timetableWrite_cases _ _ _).1 hinit)
  · exact completes_running rfl hrun rfl ⟨get_put_fit _ _ _ rfl, frame_put _ _ _⟩
  · refine completes_running rfl hrun rfl ⟨_, rfl, fun hissued => if_pos hissued, fun hidle => ?_⟩
    rw [if_neg (Bool.eq_false_iff.mp hidle)]
    exact ⟨(contains_noted _ _ _).trans (by simp), fun h hne => (contains_noted _ _ _).trans (by simp [hne]), rfl⟩

end Sys2Proof.Machine

/-! PROOFS of the family spec/08_outrider.md. What the commands and the events of Outrider leave, and what the forecast,
waybill, telemetry, ageing and test opcodes of Yutre do. -/

namespace Sys2Proof.Machine

open State

/-! ### Publication (R292, R304) -/

/-- The outputs stand above the registers that a publication reports in. -/
theorem output_ne {a : Nat} (ha : a < OUT_O 0) (j : Nat) : OUT_O j ≠ a := by
  unfold OUT_O at *
  omega

/-- Words of a list stored in the outputs of their indices. -/
def outputsStored (l : List (Word × Nat)) (s : State) : State := s.each l fun s e => s.wr (OUT_O e.2) e.1

/-- They are stored in no other register. -/
theorem outputsStored_rd_other {l : List (Word × Nat)} {a : Nat} (ha : ∀ e ∈ l, a ≠ OUT_O e.2) (s : State) :
    (outputsStored l s).rd a = s.rd a := by
  unfold outputsStored State.each
  exact List.foldlRecOn l _ (motive := fun t : State => t.rd a = s.rd a) rfl fun t ht e he =>
    (rd_wr_other _ _ _ _ (ha e he)).trans ht

/-- Consecutive words stored from output k on stand there. -/
theorem outputsStored_rd {ws : List Word} {j : Nat} (hj : j < ws.length) (k : Nat) (s : State) :
    (outputsStored (ws.zipIdx k) s).rd (OUT_O (k + j)) = ws.getD j 0 := by
  induction ws generalizing k j s with
  | nil => exact absurd hj (Nat.not_lt_zero j)
  | cons w ws ih =>
    change (outputsStored (ws.zipIdx (k + 1)) (s.wr (OUT_O k) w)).rd (OUT_O (k + j)) = _
    cases j with
    | zero =>
      have hlater : ∀ e ∈ ws.zipIdx (k + 1), OUT_O k ≠ OUT_O e.2 := fun e he => by
        have := (List.mem_zipIdx he).1
        unfold OUT_O
        omega
      exact (outputsStored_rd_other hlater _).trans (rd_wr_same _ _ _)
    | succ j =>
      rw [show k + (j + 1) = k + 1 + j by omega, ih (Nat.lt_of_succ_lt_succ hj)]
      rfl

/-- A publication stores the outputs, counts the set and notes its time. -/
def setStored (ws : List Word) (t : Nat) (s : State) : State :=
  ((outputsStored ws.zipIdx { s with odr := { s.odr with
    pubAt := t, before := if s.odr.pubAt < t then s.outSet else s.odr.before } }).addWrap OUT_RUNCNT.COUNT 1).put
    OUT_PUB_TS.TS (t % 2 ^ 32)

/-- A set with a word that is not finite is reported (R316). -/
def nonFiniteNoted (s : State) : State :=
  (((s.put OUT_STAT.NONFIN 1).put OUT_EVT.NONFIN 1).incSat OUT_CNT.NONFIN).ring kODR 2

/-- The two ends of a publication. -/
theorem publish_cases (ws : List Word) (t : Nat) (s : State) :
    publish ws t s = nonFiniteNoted (setStored ws t s) ∨ publish ws t s = setStored ws t s := by
  unfold publish nonFiniteNoted setStored outputsStored
  exact ite_eq_or_eq _ _ _

/-- The report changes no register that holds the set. -/
theorem publish_rd {a : Nat} (hstat : a ≠ OUT_STAT) (hevt : a ≠ OUT_EVT) (hcnt : a ≠ OUT_CNT) (ws : List Word) (t : Nat)
    (s : State) : (publish ws t s).rd a = (setStored ws t s).rd a := by
  rcases publish_cases ws t s with h | h
  · rw [h]
    exact (ring_rd _ kODR 2 a).trans ((rd_put_other _ OUT_CNT.NONFIN _ _ hcnt).trans
      ((rd_put_other _ OUT_EVT.NONFIN _ _ hevt).trans (rd_put_other _ OUT_STAT.NONFIN _ _ hstat)))
  · rw [h]

theorem publish_get {f : Fld} (hstat : f.addr ≠ OUT_STAT) (hevt : f.addr ≠ OUT_EVT) (hcnt : f.addr ≠ OUT_CNT)
    (ws : List Word) (t : Nat) (s : State) : (publish ws t s).get f = (setStored ws t s).get f :=
  congrArg (fun w => fldGet w f.hi f.lo) (publish_rd hstat hevt hcnt ws t s)

/-- The hidden part of a publication: its time, and the set that markers accepted before it use (R305). -/
theorem publish_odr (ws : List Word) (t : Nat) (s : State) :
    (publish ws t s).odr = { s.odr with
      pubAt := t, before := if s.odr.pubAt < t then s.outSet else s.odr.before } := by
  have hstored : (setStored ws t s).odr = { s.odr with
      pubAt := t, before := if s.odr.pubAt < t then s.outSet else s.odr.before } :=
    each_field (fun z : State => z.odr) ws.zipIdx (fun z e => z.wr (OUT_O e.2) e.1) _ fun _ _ => rfl
  rcases publish_cases ws t s with h | h <;> rw [h] <;> exact hstored

/-- What a publication leaves in the window (R292, R304). -/
theorem publish_leaves (ws : List Word) (t : Nat) (s : State) {j : Nat} (hj : j < ws.length) :
    (publish ws t s).rd (OUT_O j) = ws.getD j 0 ∧
      (publish ws t s).get OUT_RUNCNT.COUNT = (s.get OUT_RUNCNT.COUNT + 1) % 2 ^ 32 ∧
      (publish ws t s).get OUT_PUB_TS.TS = t % 2 ^ 32 := by
  have hcount {z : State} : (outputsStored ws.zipIdx z).get OUT_RUNCNT.COUNT = z.get OUT_RUNCNT.COUNT :=
    congrArg (fun w => fldGet w 31 0) (outputsStored_rd_other (fun e _ => (output_ne (by decide) e.2).symm) z)
  refine ⟨?_, ?_, ?_⟩
  · rw [publish_rd (output_ne (by decide) j) (output_ne (by decide) j) (output_ne (by decide) j)]
    refine (rd_put_other _ OUT_PUB_TS.TS _ _ (output_ne (by decide) j)).trans
      ((rd_put_other _ OUT_RUNCNT.COUNT _ _ (output_ne (by decide) j)).trans ?_)
    simpa using outputsStored_rd hj 0 _
  · rw [publish_get (by decide) (by decide) (by decide)]
    refine (get_put_reg _ OUT_PUB_TS.TS _ _ (by decide)).trans ((get_put_cut _ _ _ rfl).trans ?_)
    rw [hcount]
    exact Nat.mod_mod _ _
  · rw [publish_get (by decide) (by decide) (by decide)]
    exact (get_put_cut _ _ _ rfl).trans (Nat.mod_mod _ _)

/-! ### Run ticks (R303, R304, R314) -/

section RunTick

variable {f : Nat} {s : State}

/-- In any other frame nothing is published and nothing sampled. -/
theorem odrPublish_other (h : s.runTick f = false) : odrPublish f s = s := if_neg (by simp [h])

theorem odrSample_other (h : s.runTick f = false) : odrSample f s = s := if_neg (by simp [h])

/-- The run of the tick before is published (R304). -/
theorem odrPublish_run {ws : List Word} (h : s.runTick f = true) (hrun : s.odr.run = some ws) :
    odrPublish f s = publish ws s.now { s with odr := { s.odr with run := none } } := by
  simp only [odrPublish, if_pos h, hrun]

/-- A run that meets a bad word is abandoned (R314). -/
theorem odrSample_bad {w : Nat} (h : s.runTick f = true) (hbad : s.odrBad = some w) :
    odrSample f s = odrFail (memUe 13 w s) := by
  simp only [odrSample, if_pos h, hbad]

/-- Else the run of the inputs sampled now waits for the next run tick (R297, R303). -/
theorem odrSample_run (h : s.runTick f = true) (hgood : s.odrBad = none) :
    (odrSample f s).odr.run =
      some (s.odrRun (((List.range (s.get OUT_SHAPE.NIN)).map s.odrInput).map Prod.fst)).1 := by
  simp only [odrSample, if_pos h, hgood]

end RunTick

/-! ### START and its validation (R311..R313, R316) -/

/-- The end of a START: its outcome, its event and its doorbell. -/
theorem odrStartEnd_leaves {res : Nat} (hres : res < 2 ^ 16) (s : State) :
    (odrStartEnd res s).get OUT_STAT.RES = res ∧ (odrStartEnd res s).get OUT_STAT.VALIDATING = 0 ∧
      (odrStartEnd res s).get OUT_EVT.STARTED = 1 ∧ (odrStartEnd res s).pst.port = s.pst.port ++ [32 * kODR + 0] ∧
      s.KeepsBits (odrStartEnd res s) [OUT_EVT.STARTED, OUT_STAT.VALIDATING, OUT_STAT.RES] := by
  have hregs : (odrStartEnd res s).regs =
      (((s.put OUT_STAT.RES res).put OUT_STAT.VALIDATING 0).put OUT_EVT.STARTED 1).regs := ring_regs _ kODR 0
  refine ⟨?_, ?_, ?_, rfl, ((((KeepsBits.refl s).put _ _).put _ _).put _ _).of_regs hregs⟩
  · rw [get_of_regs hregs, get_put_reg _ _ _ _ (by decide), get_put_apart _ _ _ _ rfl, get_put_cut _ _ _ rfl]
    exact Nat.mod_eq_of_lt hres
  · rw [get_of_regs hregs, get_put_reg _ _ _ _ (by decide), get_put_fit _ _ _ rfl]
  · rw [get_of_regs hregs, get_put_fit _ _ _ rfl]

/-- It changes two registers. -/
theorem odrStartEnd_rd {a : Nat} (hstat : a ≠ OUT_STAT) (hevt : a ≠ OUT_EVT) (res : Nat) (s : State) :
    (odrStartEnd res s).rd a = s.rd a :=
  (ring_rd _ kODR 0 a).trans ((rd_put_other _ OUT_EVT.STARTED _ _ hevt).trans
    ((rd_put_other _ OUT_STAT.VALIDATING _ _ hstat).trans (rd_put_other _ OUT_STAT.RES _ _ hstat)))

/-- The checks of a START and the cycles of a run read registers alone (R312, R313). -/
theorem odrCheck_advanceTo (s : State) (t : Dword) : (s.advanceTo t).odrCheck = s.odrCheck :=
  view_of_regs State.odrCheck (fun _ => rfl) (s.advanceTo_regs t)

theorem odrCycles_of_shape {s t : State} (h : t.rd OUT_SHAPE = s.rd OUT_SHAPE) : t.odrCycles = s.odrCycles := by
  have hget {f : Fld} (hf : f.addr = OUT_SHAPE) : t.get f = s.get f := by rw [State.get, State.get, hf, h]
  simp only [State.odrCycles, hget (f := OUT_SHAPE.NIN) rfl, hget (f := OUT_SHAPE.NHID) rfl,
    hget (f := OUT_SHAPE.NOUT) rfl]

section Validation

variable {s : State} (hval : s.get OUT_STAT.VALIDATING = 1)

include hval

/-- A check that fails ends the START with its cause (R312). -/
theorem odrValidated_bad (hbad : s.odrCheck ≠ 0) :
    odrValidated s = odrStartEnd stBADPARAM (s.put OUT_STAT.ERR_CAUSE s.odrCheck) := by
  simp only [odrValidated, if_pos (bit_of_get hval), if_neg hbad]

/-- With none failing Outrider runs, and OUT_CYC holds the cycles of a run (R313). -/
theorem odrValidated_good (hgood : s.odrCheck = 0) : odrValidated s =
    odrStartEnd stOK (((s.put OUT_STAT.ERR_CAUSE 0).wrN OUT_CYC s.odrCycles).put OUT_STAT.STATE 1) := by
  have hcycles : (s.put OUT_STAT.ERR_CAUSE 0).odrCycles = s.odrCycles :=
    odrCycles_of_shape (rd_put_other _ _ _ _ (by decide))
  simp only [odrValidated, if_pos (bit_of_get hval), hgood, if_true, hcycles]

/-- What a failed START leaves. -/
theorem odrValidated_bad_leaves (hbad : s.odrCheck ≠ 0) (hcause : s.odrCheck < 8) :
    (odrValidated s).get OUT_STAT.RES = stBADPARAM ∧ (odrValidated s).get OUT_STAT.ERR_CAUSE = s.odrCheck ∧
      (odrValidated s).get OUT_STAT.VALIDATING = 0 ∧ (odrValidated s).get OUT_EVT.STARTED = 1 ∧
      (odrValidated s).pst.port = s.pst.port ++ [32 * kODR + 0] ∧
      s.KeepsBits (odrValidated s) [OUT_STAT.RES, OUT_STAT.ERR_CAUSE, OUT_STAT.VALIDATING, OUT_EVT.STARTED] := by
  rw [odrValidated_bad hval hbad]
  obtain ⟨hres, hvalidating, hstarted, hport, hkeeps⟩ :=
    odrStartEnd_leaves (res := stBADPARAM) (by decide) (s.put OUT_STAT.ERR_CAUSE s.odrCheck)
  refine ⟨hres, ?_, hvalidating, hstarted, hport,
    (((KeepsBits.refl s).put OUT_STAT.ERR_CAUSE _).mono (by simp)).trans (hkeeps.mono (by simp))⟩
  rw [hkeeps.get _ (by decide), get_put_cut _ _ _ rfl]
  exact Nat.mod_eq_of_lt (hcause.trans (by decide))

/-- What a START that succeeds leaves. -/
theorem odrValidated_good_leaves (hgood : s.odrCheck = 0) :
    (odrValidated s).odrState = 1 ∧ (odrValidated s).get OUT_STAT.RES = stOK ∧
      (odrValidated s).get OUT_STAT.ERR_CAUSE = 0 ∧ (odrValidated s).get OUT_STAT.VALIDATING = 0 ∧
      (odrValidated s).get OUT_EVT.STARTED = 1 ∧ (odrValidated s).num OUT_CYC = s.odrCycles % 2 ^ 32 ∧
      (odrValidated s).pst.port = s.pst.port ++ [32 * kODR + 0] := by
  rw [odrValidated_good hval hgood]
  obtain ⟨hres, hvalidating, hstarted, hport, hkeeps⟩ := odrStartEnd_leaves (res := stOK) (by decide)
    (((s.put OUT_STAT.ERR_CAUSE 0).wrN OUT_CYC s.odrCycles).put OUT_STAT.STATE 1)
  refine ⟨?_, hres, ?_, hvalidating, hstarted, ?_, hport⟩
  · rw [State.odrState, hkeeps.get _ (by decide), get_put_fit _ _ _ rfl]
  · rw [hkeeps.get _ (by decide), get_put_apart _ _ _ _ rfl, State.wrN, get_wr_other _ _ _ _ (by decide),
      get_put_fit _ _ _ rfl]
  · rw [State.num, odrStartEnd_rd (by decide) (by decide), rd_put_other _ _ _ _ (by decide), State.wrN, rd_wr_same,
      BitVec.toNat_ofNat]

end Validation

/-! ### Writes of OUT_CTL (R306, R307, R310, R311) -/

/-- The word with START alone. -/
theorem startWord_bits (v : Word) : fldGet ((v &&& ~~~7) ||| 1) 0 0 = 1 ∧ fldGet ((v &&& ~~~7) ||| 1) 1 1 = 0 ∧
    fldGet ((v &&& ~~~7) ||| 1) 2 2 = 0 := by
  simp [fldGet_bit]

/-- The word with STOP alone. -/
theorem stopWord_bits (v : Word) : fldGet ((v &&& ~~~7) ||| 2) 1 1 = 1 ∧ fldGet ((v &&& ~~~7) ||| 2) 2 2 = 0 := by
  simp [fldGet_bit]

/-- The word with CLEAR alone. -/
theorem clearWord_bits (v : Word) : fldGet ((v &&& ~~~7) ||| 4) 0 0 = 0 ∧ fldGet ((v &&& ~~~7) ||| 4) 1 1 = 0 ∧
    fldGet ((v &&& ~~~7) ||| 4) 2 2 = 1 := by
  simp [fldGet_bit]

section OutCtl

variable {v : Word} {s : State}

/-- A write of OUT_CTL leaves the status. -/
theorem storeReg_OUT_CTL_get {f : Fld} (h : f.addr ≠ OUT_CTL) : (storeReg OUT_CTL v s).get f = s.get f :=
  storeReg_get_other h v s

/-- RUN and validation lock the configuration (R310). -/
theorem odrLocked_running (h : s.odrState = 1) : s.odrLocked = true := by simp [State.odrLocked, h]

theorem odrLocked_validating (h : s.get OUT_STAT.VALIDATING = 1) : s.odrLocked = true := by
  simp [State.odrLocked, bit_of_get h]

theorem odrLocked_open (hstate : s.odrState ≠ 1) (hval : s.get OUT_STAT.VALIDATING = 0) : s.odrLocked = false := by
  simp [State.odrLocked, hstate, bit_of_get_zero hval]

/-- The refusal of a write leaves the status (R310). -/
theorem odrRefuse_get {f : Fld} (h : f.addr ≠ OUT_EVT) : (odrRefuse s).get f = s.get f :=
  get_put_reg _ OUT_EVT.WR_REFUSED _ _ h

/-- START in IDLE once initialised, with no transfer running: the word is stored and validation begins (R311). -/
theorem outCtlWrite_start (hstart : fldGet v 0 0 = 1) (hstop : fldGet v 1 1 = 0) (hclear : fldGet v 2 2 = 0)
    (hidle : s.odrState = 0) (hval : s.get OUT_STAT.VALIDATING = 0) (hinit : s.get OUT_STAT.INIT_DONE = 1)
    (hfree : s.get OUT_DMA_CTRL.BUSY = 0) :
    outCtlWrite v s = (storeReg OUT_CTL v s).put OUT_STAT.VALIDATING 1 := by
  have hstored {f : Fld} (h : f.addr ≠ OUT_CTL) := storeReg_OUT_CTL_get (v := v) (s := s) h
  have hidle' : (storeReg OUT_CTL v s).odrState = 0 := (hstored (by decide)).trans hidle
  have hlocked : s.odrLocked = false := odrLocked_open (by omega) hval
  have hlocked' : (storeReg OUT_CTL v s).odrLocked = false :=
    odrLocked_open (by omega) ((hstored (by decide)).trans hval)
  have hinit' := bit_of_get ((hstored (f := OUT_STAT.INIT_DONE) (by decide)).trans hinit)
  have hfree' := bit_of_get_zero ((hstored (f := OUT_DMA_CTRL.BUSY) (by decide)).trans hfree)
  simp [outCtlWrite, hlocked, hlocked', hstart, hstop, hclear, hidle', hinit', hfree']

/-- STOP alone while the configuration is locked refuses the rest of the word and stops (R306, R310, R311). -/
theorem outCtlWrite_stop (hstop : fldGet v 1 1 = 1) (hclear : fldGet v 2 2 = 0) (hlocked : s.odrLocked = true) :
    outCtlWrite v s = odrStop (odrRefuse s) := by
  simp [outCtlWrite, hlocked, hstop, hclear]

/-- STOP in RUN leads to IDLE and publishes the zero set at the next CKF edge (R306, R307). -/
theorem odrStop_running (hrun : s.odrState = 1) (hval : s.get OUT_STAT.VALIDATING = 0) :
    odrStop s = publishZero s.nextEdge (s.put OUT_STAT.STATE 0) := by
  simp [odrStop, hrun, bit_of_get_zero hval]

/-- STOP during validation ends the START with BUSY (R311). -/
theorem odrStop_validating (hval : s.get OUT_STAT.VALIDATING = 1) : odrStop s = odrStartEnd stBUSY s := by
  simp [odrStop, bit_of_get hval]

/-- CLEAR in ERROR leads to IDLE (R311). -/
theorem outCtlWrite_clear (hstart : fldGet v 0 0 = 0) (hstop : fldGet v 1 1 = 0) (hclear : fldGet v 2 2 = 1)
    (herror : s.odrState = 2) (hval : s.get OUT_STAT.VALIDATING = 0) :
    outCtlWrite v s = (storeReg OUT_CTL v s).put OUT_STAT.STATE 0 := by
  have hlocked : s.odrLocked = false := odrLocked_open (by omega) hval
  have herror' : (storeReg OUT_CTL v s).odrState = 2 := (storeReg_OUT_CTL_get (by decide)).trans herror
  simp [outCtlWrite, hlocked, hstart, hstop, hclear, herror']

end OutCtl

/-- The state reads as it was stored. -/
theorem odrState_put {n : Nat} (hn : n < 4) (s : State) : (s.put OUT_STAT.STATE n).odrState = n :=
  (get_put_cut s OUT_STAT.STATE n rfl).trans (Nat.mod_eq_of_lt hn)

/-! ### An error in RUN (R314) -/

/-- Outrider enters ERROR and publishes the zero set at the next CKF edge. -/
theorem odrFail_running {s : State} (hrun : s.odrState = 1) : odrFail s =
    ((publishZero s.nextEdge (s.put OUT_STAT.STATE 2)).put OUT_EVT.ERROR 1).ring kODR 1 :=
  if_pos hrun

/-- What is reported after that publication. -/
theorem odrFail_leaves {s u : State} (hrun : s.odrState = 1)
    (hu : u = publishZero s.nextEdge (s.put OUT_STAT.STATE 2)) :
    (odrFail s).get OUT_EVT.ERROR = 1 ∧ (odrFail s).pst.port = u.pst.port ++ [32 * kODR + 1] ∧
      u.KeepsBits (odrFail s) [OUT_EVT.ERROR] := by
  rw [odrFail_running hrun, ← hu]
  exact ⟨get_put_fit _ _ _ rfl, rfl, ((KeepsBits.refl u).put OUT_EVT.ERROR 1).of_regs rfl⟩

/-! ### Weight transfers (R309, R316) -/

/-- A transfer starts with the range that the registers name. -/
def odrDmaStarted (s : State) : State :=
  { (s.put OUT_DMA_CTRL.GO 1).put OUT_DMA_CTRL.BUSY 1 with
    odr := { s.odr with
      dmaLeft := s.odrDmaCount, dmaDst := s.get OUT_DMA_LEN.DST, dmaSrc := s.get64 OUT_DMA_SRC_LO } }

section DmaWrite

variable {s : State} (hfree : s.get OUT_DMA_CTRL.BUSY = 0)

include hfree

/-- A GO outside IDLE ends with BUSY. -/
theorem outDmaWrite_busy (hstate : s.odrState ≠ 0) : outDmaWrite 1 s = odrDmaEnd stBUSY s := by
  have hgo : ¬ (fldGet (1 : Word) 0 0 = 0 ∨ s.bit OUT_DMA_CTRL.BUSY = true) := by simp [bit_of_get_zero hfree, fldGet]
  rw [outDmaWrite, if_neg hgo, if_pos (.inl hstate)]

/-- GO in IDLE with a good source and range starts a transfer. -/
theorem outDmaWrite_start (hidle : s.odrState = 0) (hval : s.get OUT_STAT.VALIDATING = 0)
    (hsrc : s.get64 OUT_DMA_SRC_LO % 4 = 0) (hdst : s.get OUT_DMA_LEN.DST % 4 = 0)
    (hrange : s.get OUT_DMA_LEN.DST + 4 * s.odrDmaCount ≤ 65536) : outDmaWrite 1 s = odrDmaStarted s := by
  have hother {f : Fld} (h : f.addr ≠ OUT_DMA_CTRL) :
      ((s.put OUT_DMA_CTRL.GO 1).put OUT_DMA_CTRL.BUSY 1).get f = s.get f :=
    (get_put_reg _ _ _ _ h).trans (get_put_reg _ _ _ _ h)
  have hword {a : Nat} (h : a ≠ OUT_DMA_CTRL) :
      ((s.put OUT_DMA_CTRL.GO 1).put OUT_DMA_CTRL.BUSY 1).rd a = s.rd a :=
    (rd_put_other _ _ _ _ h).trans (rd_put_other _ _ _ _ h)
  have hfrom := hother (f := OUT_DMA_LEN.DST) (by decide)
  have hcount : ((s.put OUT_DMA_CTRL.GO 1).put OUT_DMA_CTRL.BUSY 1).odrDmaCount = s.odrDmaCount := by
    simp only [State.odrDmaCount, hother (f := OUT_DMA_LEN.CNT) (by decide)]
  have haddress := get64_of_rd (hword (a := OUT_DMA_SRC_LO) (by decide)) (hword (by decide))
  have hgo : ¬ (fldGet (1 : Word) 0 0 = 0 ∨ s.bit OUT_DMA_CTRL.BUSY = true) := by simp [bit_of_get_zero hfree, fldGet]
  have hopen : ¬ (s.odrState ≠ 0 ∨ s.bit OUT_STAT.VALIDATING = true) := by simp [hidle, bit_of_get_zero hval]
  have hgood : ¬ (s.get64 OUT_DMA_SRC_LO % 4 ≠ 0 ∨ s.get OUT_DMA_LEN.DST % 4 ≠ 0 ∨
      65536 < s.get OUT_DMA_LEN.DST + 4 * s.odrDmaCount) := by omega
  simp only [outDmaWrite, if_neg hgo, if_neg hopen, if_neg hgood, hfrom, hcount, haddress]
  rfl

end DmaWrite

/-- A started transfer is busy and holds its range; nothing else of the window changes. -/
theorem odrDmaStarted_leaves (s : State) :
    (odrDmaStarted s).get OUT_DMA_CTRL.BUSY = 1 ∧ (odrDmaStarted s).get OUT_DMA_CTRL.GO = 1 ∧
      (odrDmaStarted s).odr.dmaLeft = s.odrDmaCount ∧ (odrDmaStarted s).odr.dmaDst = s.get OUT_DMA_LEN.DST ∧
      (odrDmaStarted s).odr.dmaSrc = s.get64 OUT_DMA_SRC_LO ∧
      s.KeepsBits (odrDmaStarted s) [OUT_DMA_CTRL.BUSY, OUT_DMA_CTRL.GO] := by
  have hregs : (odrDmaStarted s).regs = ((s.put OUT_DMA_CTRL.GO 1).put OUT_DMA_CTRL.BUSY 1).regs := rfl
  refine ⟨?_, ?_, rfl, rfl, rfl, (((KeepsBits.refl s).put _ _).put _ _).of_regs hregs⟩
  · rw [get_of_regs hregs, get_put_fit _ _ _ rfl]
  · rw [get_of_regs hregs, get_put_apart _ _ _ _ rfl, get_put_fit _ _ _ rfl]

/-- The end of a transfer with status res: its report and its doorbell. -/
theorem odrDmaEnd_leaves {res : Nat} (hres : res < 2 ^ 16) (s : State) :
    (odrDmaEnd res s).get OUT_DMA_CTRL.RES = res ∧ (odrDmaEnd res s).get OUT_DMA_CTRL.BUSY = 0 ∧
      (odrDmaEnd res s).get OUT_DMA_CTRL.GO = 0 ∧ (odrDmaEnd res s).get OUT_EVT.DMA = 1 ∧
      (odrDmaEnd res s).pst.port = s.pst.port ++ [32 * kODR + 3] ∧
      s.KeepsBits (odrDmaEnd res s) [OUT_DMA_CTRL.RES, OUT_DMA_CTRL.BUSY, OUT_DMA_CTRL.GO, OUT_EVT.DMA] := by
  have hregs : (odrDmaEnd res s).regs = ((((s.put OUT_DMA_CTRL.RES res).put OUT_DMA_CTRL.BUSY 0).put
    OUT_DMA_CTRL.GO 0).put OUT_EVT.DMA 1).regs := ring_regs _ kODR 3
  refine ⟨?_, ?_, ?_, (get_of_regs hregs _).trans (get_put_fit _ _ _ rfl), rfl,
    ((((((KeepsBits.refl s).put _ _).put _ _).put _ _).put _ _).of_regs hregs).mono (by simp)⟩
  · rw [get_of_regs hregs]
    simp (disch := decide) only [get_put_other, get_put_same]
    exact Nat.mod_eq_of_lt hres
  · rw [get_of_regs hregs]
    simp (disch := decide) only [get_put_other, get_put_fit]
  · rw [get_of_regs hregs]
    simp (disch := decide) only [get_put_other, get_put_fit]

/-- The words ws of a transfer are stored from its destination on. -/
def weightsStored (ws : List Word) (s : State) : State :=
  memWritten 13 (OUT_WMEM 0) ((List.range ws.length).map fun i => 4 * (s.odr.dmaDst / 4 + i))
    (s.each ws.zipIdx fun z x => z.wr (OUT_WMEM (s.odr.dmaDst / 4 + x.2)) x.1)

/-- The store leaves the hidden part of Outrider. -/
theorem weightsStored_odr (ws : List Word) (s : State) : (weightsStored ws s).odr = s.odr :=
  (memWritten_odr _ _ _ _).trans
    (each_field State.odr ws.zipIdx (fun z x => z.wr (OUT_WMEM (s.odr.dmaDst / 4 + x.2)) x.1) s fun _ _ => rfl)

section DmaDone

variable {ws : List Word} {s : State} (hbusy : s.get OUT_DMA_CTRL.BUSY = 1) (hinit : s.get OUT_STAT.INIT_DONE = 1)

include hbusy hinit

/-- A transfer of which every word has come completes. -/
theorem outDmaDone_whole (hlen : ws.length = s.odr.dmaLeft) : outDmaDone ws true s =
    odrDmaEnd stOK { weightsStored ws s with odr := { (weightsStored ws s).odr with dmaLeft := 0 } } := by
  have htake : ws.take s.odr.dmaLeft = ws := List.take_of_length_le hlen.le
  have hruns : ¬ ((!s.bit OUT_DMA_CTRL.BUSY || (true && ws.length != s.odr.dmaLeft)) = true) := by
    simp [bit_of_get hbusy, hlen]
  simp only [outDmaDone, htake, if_neg hruns, if_pos (bit_of_get hinit), if_true]
  rfl

/-- An error of the host fabric ends it after the words that came; Caboose takes unit 1 and the address (R500). -/
theorem outDmaDone_error (hlen : ws.length ≤ s.odr.dmaLeft) : outDmaDone ws false s =
    odrDmaEnd stINTERNAL (dmaError 1 (s.odr.dmaSrc + 4 * ws.length)
      { weightsStored ws s with odr := { (weightsStored ws s).odr with dmaLeft := 0 } }) := by
  have htake : ws.take s.odr.dmaLeft = ws := List.take_of_length_le hlen
  have hruns : ¬ ((!s.bit OUT_DMA_CTRL.BUSY || (false && ws.length != s.odr.dmaLeft)) = true) := by
    simp [bit_of_get hbusy]
  rw [← weightsStored_odr ws s]
  simp only [outDmaDone, htake, if_neg hruns, if_pos (bit_of_get hinit), if_false, Bool.false_eq_true]
  rfl

end DmaDone

/-- Settles O27, command by command. A run tick as the base tick of its frame is log entry 134, the zero set stored at
once with the stamp of the next edge is log entry 135, the word that ends a run is log entry 136. -/
theorem outriderCommandsComplete : Obligations.OutriderCommandsComplete := by
  refine ⟨fun e s => ?runTick, fun f s => ⟨fun h => ⟨odrPublish_other h, odrSample_other h⟩,
      fun ws h hrun => odrPublish_run h hrun, fun w h hbad => odrSample_bad h hbad, odrSample_run⟩,
    fun ws n s j hlen hj => ?publish, fun req v s hp hidle hval hinit hfree => ?start, fun e s hval hgood hrun => ?good,
    fun e s hval hbad hcause hrun => ?bad, fun req v s hp hrun hval => ?stop, fun req v s hp hidle hval => ?cancel,
    fun req v s hp herror hval => ?clear, fun e s hstate hrun => ?error,
    fun req s hp hfree hidle hval hsrc hdst hrange => ?dmaStart, fun req s hp hfree hstate => ?dmaBusy,
    fun e ws s hbusy hlen hinit hrun => ?dmaWhole, fun e ws s hbusy hlen hinit hrun => ?dmaError,
    fun res s hres => ⟨_, rfl, odrDmaEnd_leaves hres s⟩, fun e s hrun => ?initDone⟩
  case runTick => exact ⟨_, rfl, fun h => if_neg (by simp [h]), fun h => if_pos h⟩
  case publish =>
    obtain ⟨hword, hcount, hts⟩ := publish_leaves ws n s (j := j) (by omega)
    exact ⟨hword, congrArg OdrSt.pubAt (publish_odr ws n s), hcount, hts, congrArg OdrSt.before (publish_odr ws n s)⟩
  case start =>
    obtain ⟨hstart, hstop, hclear⟩ := startWord_bits v
    exact completes_permitted rfl hp (outCtlWrite_start hstart hstop hclear hidle hval hinit hfree) rfl
  case good =>
    have hleaves := odrValidated_good_leaves (s := s.advanceTo e) (by simpa using hval)
      ((odrCheck_advanceTo s e).trans hgood)
    rw [advanceTo_pst, odrCycles_of_shape (s.advanceTo_rd e _)] at hleaves
    exact completes_running rfl hrun rfl hleaves
  case bad =>
    rw [← odrCheck_advanceTo s e] at hbad hcause
    obtain ⟨hres, herr, hvalidating, hstarted, hport, hkeeps⟩ :=
      odrValidated_bad_leaves (s := s.advanceTo e) (by simpa using hval) hbad hcause
    rw [advanceTo_pst] at hport
    exact completes_running rfl hrun rfl ⟨hres, herr.trans (odrCheck_advanceTo s e), hvalidating, hstarted, hport,
      ((advanceTo_keepsBits (KeepsBits.refl s) e).mono (by simp)).trans hkeeps⟩
  case stop =>
    obtain ⟨hstop, hclear⟩ := stopWord_bits v
    exact completes_permitted rfl hp ((outCtlWrite_stop hstop hclear (odrLocked_running hrun)).trans
      (odrStop_running ((odrRefuse_get (by decide)).trans hrun) ((odrRefuse_get (by decide)).trans hval))) rfl
  case cancel =>
    obtain ⟨hstop, hclear⟩ := stopWord_bits v
    exact completes_permitted rfl hp ((outCtlWrite_stop hstop hclear (odrLocked_validating hval)).trans
      (odrStop_validating ((odrRefuse_get (by decide)).trans hval))) rfl
  case clear =>
    obtain ⟨hstart, hstop, hclear⟩ := clearWord_bits v
    exact completes_permitted rfl hp (outCtlWrite_clear hstart hstop hclear herror hval)
      ⟨odrState_put (by decide) _, frame_put _ _ _⟩
  case error =>
    exact completes_running rfl hrun rfl
      ⟨_, _, rfl, rfl, odrFail_leaves ((s.advanceTo_get e OUT_STAT.STATE).trans hstate) rfl⟩
  case dmaStart =>
    exact completes_permitted rfl hp (outDmaWrite_start hfree hidle hval hsrc hdst hrange) (odrDmaStarted_leaves s)
  case dmaBusy => exact completes_permitted rfl hp (outDmaWrite_busy hfree hstate) rfl
  case dmaWhole =>
    exact completes_running rfl hrun (outDmaDone_whole (by simpa using hbusy) (by simpa using hinit)
      (by simpa using hlen)) ⟨weightsStored ws (s.advanceTo e), by rw [weightsStored, advanceTo_odr], rfl⟩
  case dmaError =>
    exact completes_running rfl hrun (outDmaDone_error (by simpa using hbusy) (by simpa using hinit)
      (by simpa using hlen)) ⟨weightsStored ws (s.advanceTo e), by rw [weightsStored, advanceTo_odr],
        by rw [advanceTo_odr]⟩
  case initDone => exact completes_running rfl hrun rfl ⟨get_put_fit _ _ _ rfl, frame_put _ _ _⟩

/-! ### How an accepted Yutre command runs (R618, R620, R623) -/

/-- The shared checks passed, the opcode's own meaning gives the reply that is framed and kept. -/
theorem yutre_accepted {m : YMsg} {op : Nat} {s : State} (h : s.Accepts m op) (body : State → State) :
    (body s).Replied m op (yutre m op body s) := by
  obtain ⟨hserves, hnew, hversion, hlen, hflags, heven, hdefined, hpermits⟩ := h
  have hform : ¬ (56 < m.len.toNat ∨ 8 ≤ m.flags.toNat ∨ m.flags.toNat % 2 = 1) := by omega
  simp only [yutre, hserves, hversion, hform, hdefined, hpermits, ne_eq, not_true_eq_false, Bool.not_true,
    Bool.false_eq_true, if_false]
  cases hlast : s.lastYutre m with
  | none => rfl
  | some e =>
    simp only [if_neg (hnew e hlast)]
    rfl

/-- So an accepted command completes with the reply of its meaning. -/
theorem completes_accepted {i : Instr} {m : YMsg} {op : Nat} {body : State → State} {s u : State}
    (hexec : exec i s = .next (yutre m op body s)) (h : s.Accepts m op) (hbody : body s = u) :
    Completes i s fun t => u.Replied m op t :=
  ⟨_, hexec, hbody ▸ yutre_accepted h body⟩

/-! ### LOAD_PROGRAM, LOAD_RSET and LOAD_WEIGHTS (R285, R621, R625) -/

section LoadProgram

variable {descOk : Bool} {addr n dst start loop : Nat} {arm : Bool} {data : List Word} {ok : Bool} {s : State}

/-- A bad descriptor, or entries past the end of the program memory. -/
theorem yLoadProgram_bad (h : descOk = false ∨ 65536 < dst + n) :
    yLoadProgram descOk addr n dst start loop arm data ok s = s.reply stBADPARAM [] :=
  if_pos (by simpa using h)

/-- A transfer of the Timetable is running. -/
theorem yLoadProgram_busy (hdesc : descOk = true) (hrange : dst + n ≤ 65536) (hbusy : s.get TTB_DMA_CTRL.BUSY = 1) :
    yLoadProgram descOk addr n dst start loop arm data ok s = s.reply stBUSY [] :=
  (if_neg (by simpa [hdesc] using hrange)).trans (if_pos (bit_of_get hbusy))

/-- STOP and the transfer, which ends with the last entry or with the error of the host fabric (R285). -/
def programTransferred (addr n dst : Nat) (data : List Word) (ok : Bool) (s : State) : State :=
  let u := schWrites [(TTB_DMA_SRC_LO, w32 addr), (TTB_DMA_SRC_HI, w32 (addr / 2 ^ 32)),
    (TTB_DMA_LEN, w32 (n % 65536 * 65536 + dst)), (TTB_DMA_CTRL, 1)] (schWrite TTB_CTRL 2 s)
  ttbDmaFinish ok (u.each (List.range (if ok then n else min n (data.length / 4))) fun s i =>
    ttbDmaEntry ((List.range 4).map fun w => hostWord data (4 * i + w)) (dmaSlot s))

/-- An error of the host fabric ends the load after its transfer. -/
theorem yLoadProgram_error (hdesc : descOk = true) (hrange : dst + n ≤ 65536) (hidle : s.get TTB_DMA_CTRL.BUSY = 0) :
    yLoadProgram descOk addr n dst start loop arm data false s =
      schReply stINTERNAL [TTB_DMA_CTRL, TTB_STAT] (programTransferred addr n dst data false s) :=
  (if_neg (by simpa [hdesc] using hrange)).trans (if_neg (by simp [bit_of_get_zero hidle]))

/-- The range, and ARM on request, follow a transfer that is whole. -/
def programArmed (start loop : Nat) (arm : Bool) (s : State) : State :=
  let s := schWrite TTB_RANGE (w32 (loop * 65536 + start)) s
  if arm then schWrite TTB_CTRL 1 s else s

theorem yLoadProgram_whole {w : State} (hdesc : descOk = true) (hrange : dst + n ≤ 65536)
    (hidle : s.get TTB_DMA_CTRL.BUSY = 0)
    (hw : w = programArmed start loop arm (programTransferred addr n dst data true s)) :
    yLoadProgram descOk addr n dst start loop arm data true s =
      schReply (w.get TTB_DMA_CTRL.RES) [TTB_DMA_CTRL, TTB_STAT] w :=
  hw ▸ (if_neg (by simpa [hdesc] using hrange)).trans (if_neg (by simp [bit_of_get_zero hidle]))

end LoadProgram

section LoadRset

variable {descOk : Bool} {addr n i : Nat} {s : State}

/-- A bad descriptor, or masks past the end of the mask memory. -/
theorem yLoadRset_bad {data : Option (List Word)} (h : descOk = false ∨ 256 < i + n) :
    yLoadRset descOk addr n i data s = s.reply stBADPARAM [] :=
  if_pos (by simpa using h)

/-- An error of the host fabric ends the load (R500). -/
theorem yLoadRset_error (hdesc : descOk = true) (hrange : i + n ≤ 256) :
    yLoadRset descOk addr n i none s = (fabricError addr s).reply stINTERNAL [] :=
  if_neg (by simpa [hdesc] using hrange)

/-- The masks are written from mask i on. -/
theorem yLoadRset_loads (hdesc : descOk = true) (hrange : i + n ≤ 256) (d : List Word) :
    yLoadRset descOk addr n i (some d) s =
      (schWrites ((List.range (8 * n)).map fun k => (TTB_RSET i 0 + 4 * k, hostWord d k)) s).reply stOK [] :=
  if_neg (by simpa [hdesc] using hrange)

end LoadRset

section LoadWeights

variable {descOk : Bool} {addr len : Nat} {start : Bool} {data : Option (List Word)} {d : List Word} {s u : State}

/-- A bad descriptor. -/
theorem yLoadWeights_bad (hdesc : descOk = false) :
    yLoadWeights descOk addr len start data s = s.reply stBADPARAM [] :=
  if_pos (by simp [hdesc])

variable (hdesc : descOk = true) (hu : u = odrStop s)

include hdesc hu in
/-- After STOP, Outrider is not IDLE or a weight transfer is running (R311). -/
theorem yLoadWeights_busy (h : u.odrState ≠ 0 ∨ u.get OUT_DMA_CTRL.BUSY = 1) :
    yLoadWeights descOk addr len start data s = schReply stBUSY [OUT_STAT, OUT_CYC] u := by
  subst hu
  exact (if_neg (by simp [hdesc])).trans (if_pos (h.imp_right bit_of_get))

variable (hidle : u.odrState = 0) (hfree : u.get OUT_DMA_CTRL.BUSY = 0)

include hidle hfree

/-- With Outrider IDLE and no transfer running the load goes on. -/
theorem loadWeights_open : ¬ (u.odrState ≠ 0 ∨ u.bit OUT_DMA_CTRL.BUSY = true) := by
  simp [hidle, bit_of_get_zero hfree]

include hdesc hu

/-- With Outrider IDLE an error of the host fabric ends the load. -/
theorem yLoadWeights_error : yLoadWeights descOk addr len start none s =
    schReply stINTERNAL [OUT_STAT, OUT_CYC] (fabricError addr u) := by
  simp only [yLoadWeights, hdesc, Bool.not_true, Bool.false_eq_true, if_false, ← hu,
    if_neg (loadWeights_open hidle hfree)]

variable {v : State} (hv : v = schWrites (weightImage len d) u)

include hv

/-- The image is written (R625). -/
theorem yLoadWeights_image (hstart : start = false) :
    yLoadWeights descOk addr len start (some d) s = schReply stOK [OUT_STAT, OUT_CYC] v := by
  simp only [yLoadWeights, hdesc, hstart, Bool.not_true, Bool.false_eq_true, if_false, ← hu,
    if_neg (loadWeights_open hidle hfree), ← hv]

/-- After the image a START is validated to its end (R311, R312). -/
theorem yLoadWeights_start {w : State} (hstart : start = true)
    (hw : w = odrValidated (schWrite OUT_CTL ((v.rd OUT_CTL &&& 0xFFFFF8) ||| 1) v)) :
    yLoadWeights descOk addr len start (some d) s = schReply (w.get OUT_STAT.RES) [OUT_STAT, OUT_CYC] w := by
  simp only [yLoadWeights, hdesc, hstart, Bool.not_true, Bool.false_eq_true, if_false, if_true, ← hu,
    if_neg (loadWeights_open hidle hfree), ← hv]
  rw [← hw]

end LoadWeights

/-! ### FORECAST_CTL (R624) -/

/-- The masked registers are written, then the command bit of the operation. -/
theorem yForecastCtl_acts {op mask : Nat} {ws : List Word} {v : Word} {s : State} (hop : op ≤ 2)
    (hv : [2, 1, 4].getD op 0 = v) :
    yForecastCtl op mask ws s = schReply stOK [TTB_STAT] (schWrite TTB_CTRL v
      (schWrites ((([TTB_CFG, TTB_LEAD, TTB_HOLD, TTB_BUMP, TTB_ETA].zip ws).zipIdx.filter
        fun e => bitOf mask e.2).map (·.1)) s)) := by
  subst hv
  exact if_neg (by omega)

/-! ### FREEZE and TRACE_EXPORT (R624) -/

/-- The one write of TLM_FRZ_CTRL follows that of the armed time, which ARM alone asks for. -/
theorem yFreeze_writes {flags tag ts : Nat} {s u : State}
    (hu : (if flags / 2 ^ 1 % 2 = 1 then
      schWrites [(TLM_FRZ_AT_LO, w32 ts), (TLM_FRZ_AT_HI, w32 (ts / 2 ^ 32))] s else s) = u) :
    yFreeze flags tag ts s = schReply stOK [TLM_FRZ_STAT, TLM_FRZ_NUM] (schWrite TLM_FRZ_CTRL
      (w32 (tag * 65536 + flags / 2 ^ 2 % 2 * 256 + flags / 2 ^ 3 % 2 * 4 + flags / 2 ^ 1 % 2 * 2 +
        flags / 2 ^ 0 % 2)) u) := by
  subst hu
  rfl

section TraceExport

variable {addr mask flags : Nat} {s u : State}
  (hu : u = schWrites [(TLM_TRX_LO, w32 addr), (TLM_TRX_HI, w32 (addr / 2 ^ 32)),
    (TLM_TRX_CTRL, w32 (mask * 256 + flags % 2 * 2 + flags / 2 % 2))] s)

include hu

/-- The status is the RES of a GO that begins no transfer, else OK. -/
theorem yTraceExport_replies : yTraceExport addr mask flags s = schReply
    (if flags / 2 % 2 = 1 ∧ (s.bit TLM_TRX_CTRL.BUSY ∨ !u.bit TLM_TRX_CTRL.BUSY) then u.get TLM_TRX_CTRL.RES else stOK)
    [TLM_TRX_CTRL] u := by
  subst hu
  rfl

/-- A GO begins none while one runs, and when none runs after it. -/
theorem yTraceExport_refused (hgo : flags / 2 % 2 = 1)
    (hnone : s.get TLM_TRX_CTRL.BUSY = 1 ∨ u.get TLM_TRX_CTRL.BUSY = 0) :
    yTraceExport addr mask flags s = schReply (u.get TLM_TRX_CTRL.RES) [TLM_TRX_CTRL] u := by
  rw [yTraceExport_replies hu, if_pos ⟨hgo, hnone.imp bit_of_get fun h => by simp [bit_of_get_zero h]⟩]

/-- Without GO, or with a transfer begun, the status is OK. -/
theorem yTraceExport_accepted (h : flags / 2 % 2 = 0 ∨ s.get TLM_TRX_CTRL.BUSY = 0 ∧ u.get TLM_TRX_CTRL.BUSY = 1) :
    yTraceExport addr mask flags s = schReply stOK [TLM_TRX_CTRL] u := by
  rw [yTraceExport_replies hu, if_neg]
  rintro ⟨hgo, hnone⟩
  obtain ⟨hwas, hstarted⟩ := h.resolve_left (by omega)
  simp [bit_of_get_zero hwas, bit_of_get hstarted] at hnone

end TraceExport

/-! ### CELL_TEST and SNS_URGENT (R445, R446, R624) -/

section CellTest

variable {c : Nat} {v : Word} {exit : Bool} {result : Option TestResult} {x : TestResult} {s : State}

/-- A cell in a state other than PARKED and TEST is not ready. -/
theorem yCellTest_notReady (hc : c < 3072) (hparked : s.cellState c ≠ cPARKED) (htest : s.cellState c ≠ cTEST) :
    yCellTest c v exit result s = schReply stNOTREADY [CELL_TEST_RES c, CELL_STAT c] s :=
  (if_neg (by omega)).trans (if_pos ⟨hparked, htest⟩)

/-- A cell in TEST is tested, and EXIT_TEST follows on request. -/
theorem yCellTest_tests {u : State} (hc : c < 3072) (htest : s.cellState c = cTEST)
    (hu : u = schWrite (CELL_TEST c) v s) (hgo : u.get (CELL_TEST.GO c) = 1) :
    yCellTest c v exit (some x) s = schReply stOK [CELL_TEST_RES c, CELL_STAT c]
      (if exit then schWrite (CELL_CMD c) 5 (cellTestDone c x u) else cellTestDone c x u) := by
  have hstate : ¬ (s.cellState c ≠ cPARKED ∧ s.cellState c ≠ cTEST) := fun h => h.2 htest
  have hentered : s.cellState c ≠ cPARKED := by rw [htest]; decide
  have hwaits : ¬ (!u.bit (CELL_TEST.GO c)) = true := by simp [bit_of_get hgo]
  subst hu
  simp only [yCellTest, if_neg (Nat.not_le.mpr hc), if_neg hstate, if_neg hentered, if_neg (not_not.mpr htest),
    if_neg hwaits]

/-- The cell stays in TEST. -/
theorem yCellTest_stays {u : State} (hc : c < 3072) (htest : s.cellState c = cTEST)
    (hu : u = schWrite (CELL_TEST c) v s) (hgo : u.get (CELL_TEST.GO c) = 1) (hexit : exit = false) :
    yCellTest c v exit (some x) s = schReply stOK [CELL_TEST_RES c, CELL_STAT c] (cellTestDone c x u) := by
  rw [yCellTest_tests hc htest hu hgo, if_neg (by simp [hexit])]

/-- The cell leaves TEST. -/
theorem yCellTest_exits {u : State} (hc : c < 3072) (htest : s.cellState c = cTEST)
    (hu : u = schWrite (CELL_TEST c) v s) (hgo : u.get (CELL_TEST.GO c) = 1) (hexit : exit = true) :
    yCellTest c v exit (some x) s =
      schReply stOK [CELL_TEST_RES c, CELL_STAT c] (schWrite (CELL_CMD c) 5 (cellTestDone c x u)) := by
  rw [yCellTest_tests hc htest hu hgo, if_pos hexit]

/-- A PARKED cell that ENTER_TEST brings to TEST goes on as one that was there. -/
theorem yCellTest_enters (hc : c < 3072) (hparked : s.cellState c = cPARKED)
    (hentered : (schWrite (CELL_CMD c) 4 s).cellState c = cTEST) :
    yCellTest c v exit result s = yCellTest c v exit result (schWrite (CELL_CMD c) 4 s) := by
  have hbefore : ¬ (s.cellState c ≠ cPARKED ∧ s.cellState c ≠ cTEST) := fun h => h.1 hparked
  have hafter : ¬ ((schWrite (CELL_CMD c) 4 s).cellState c ≠ cPARKED ∧
      (schWrite (CELL_CMD c) 4 s).cellState c ≠ cTEST) := fun h => h.2 hentered
  have hleft : (schWrite (CELL_CMD c) 4 s).cellState c ≠ cPARKED := by rw [hentered]; decide
  simp only [yCellTest, if_neg (Nat.not_le.mpr hc), if_neg hbefore, if_neg hafter, if_pos hparked, if_neg hleft]

end CellTest

section SnsUrgent

variable {k ch : Nat} {raw : Option (BitVec 14)} {x : BitVec 14} {s u : State}

/-- A channel that the converter lacks. -/
theorem ySnsUrgent_absent (hk : k ≤ 3) (hu : u = schWrite (SNS_URG k) (w32 (ch % 64)) s) (h : snsChannels k ≤ ch % 64) :
    ySnsUrgent k ch raw s = schReply stBADPARAM [SNS_URES k] u := by
  subst hu
  exact (if_neg (by omega)).trans (if_pos (decide_eq_true h))

/-- A full queue of urgent conversions (R445). -/
theorem ySnsUrgent_full (hk : k ≤ 3) (hu : u = schWrite (SNS_URG k) (w32 (ch % 64)) s) (h : ch % 64 < snsChannels k)
    (hfull : 4 ≤ (s.sconv k).urg.length) : ySnsUrgent k ch raw s = schReply stBUSY [SNS_URES k] u := by
  subst hu
  exact (if_neg (by omega)).trans ((if_neg (by simpa using h)).trans (if_pos (decide_eq_true hfull)))

/-- The urgent conversion leaves the queue and begins (R445). -/
def urgentTaken (k ch : Nat) (s : State) : State :=
  let h := s.sconv k
  (s.setSconv k { h with cur := some ⟨ch % 64, true, 0, (s.now / 100 + 1) * 100⟩, urg := h.urg.erase (ch % 64) }).put
    (SNS_URG.QD k) (h.urg.erase (ch % 64)).length

/-- Its result is reported, and the conversion that ran before it is still running (R446). -/
theorem ySnsUrgent_converts {w : State} (hk : k ≤ 3) (hu : u = schWrite (SNS_URG k) (w32 (ch % 64)) s)
    (h : ch % 64 < snsChannels k) (hroom : (s.sconv k).urg.length < 4) (hon : u.snsOn k = true)
    (hlock : u.locked = true) (hw : w = convComplete k x.toNat (urgentTaken k ch u)) :
    ySnsUrgent k ch (some x) s =
      schReply stOK [SNS_URES k] (w.setSconv k { w.sconv k with cur := (u.sconv k).cur }) := by
  have hbad : ¬ decide (snsChannels k ≤ ch % 64) = true := by simpa using h
  have hfull : ¬ decide (4 ≤ (s.sconv k).urg.length) = true := by simpa using hroom
  subst hw hu
  simp only [ySnsUrgent, if_neg (Nat.not_lt.mpr hk), if_neg hbad, if_neg hfull, if_pos (And.intro hon hlock),
    urgentTaken]

end SnsUrgent

/-- Settles O45, opcode by opcode. Results as operands and loads that end in their step are log entry 100, BAD_PARAM for
a job slot, region, cell, converter or channel that does not exist is log entry 99. -/
theorem yutreForecastTelemetryAndTestOpcodesComplete : Obligations.YutreForecastTelemetryAndTestOpcodesComplete := by
  refine ⟨?loadProgram, ?loadRset, ?loadWeights, ?forecastCtl, fun m s ha => completes_accepted rfl ha rfl, ?setJob,
    ?setGroups, fun m s ha => completes_accepted rfl ha rfl, ?getJob, ?freeze,
    fun m s ha => completes_accepted rfl ha rfl, ?traceExport, ?getAge, fun m s ha => completes_accepted rfl ha rfl,
    ?cellTest, ?skidForce, fun m s ha => completes_accepted rfl ha rfl, ?snsUrgent⟩
  case loadProgram =>
    rintro m data ok s _ ha rfl
    refine ⟨fun hbad => completes_accepted rfl ha (yLoadProgram_bad hbad),
      fun hdesc hrange hbusy => completes_accepted rfl ha (yLoadProgram_busy hdesc hrange hbusy), ?_⟩
    rintro u v hdesc hrange hidle rfl rfl
    constructor
    · rintro rfl
      exact completes_accepted rfl ha (yLoadProgram_error hdesc hrange hidle)
    · rintro w rfl harm hnot
      refine completes_accepted rfl ha (yLoadProgram_whole hdesc hrange hidle ?_)
      rcases Nat.mod_two_eq_zero_or_one (m.b8 22) with hbit | hbit
      · exact (hnot hbit).trans (if_neg (by simp [hbit])).symm
      · exact (harm hbit).trans (if_pos (by simp [hbit])).symm
  case loadRset =>
    rintro m data s _ ha rfl
    refine ⟨fun hbad => completes_accepted rfl ha (yLoadRset_bad hbad), ?_, ?_⟩
    · rintro hdesc hrange rfl
      exact completes_accepted rfl ha (yLoadRset_error hdesc hrange)
    · rintro d hdesc hrange rfl
      exact completes_accepted rfl ha (yLoadRset_loads hdesc hrange d)
  case loadWeights =>
    rintro m data s u _ ha rfl hu
    refine ⟨fun hbad => completes_accepted rfl ha (yLoadWeights_bad hbad),
      fun hdesc hbusy => completes_accepted rfl ha (yLoadWeights_busy hdesc hu hbusy),
      fun hdesc hidle hfree => ⟨?_, ?_⟩⟩
    · rintro rfl
      exact completes_accepted rfl ha (yLoadWeights_error hdesc hu hidle hfree)
    · rintro d v rfl hv
      exact ⟨fun hbit => completes_accepted rfl ha (yLoadWeights_image hdesc hu hidle hfree hv (by simp [hbit])),
        fun w hbit hw => completes_accepted rfl ha (yLoadWeights_start hdesc hu hidle hfree hv (by simp [hbit]) hw)⟩
  case forecastCtl =>
    rintro m s _ ha rfl
    exact ⟨fun hop => completes_accepted rfl ha (if_pos hop),
      fun hop => completes_accepted rfl ha (yForecastCtl_acts (by omega) (by rw [hop]; rfl)),
      fun hop => completes_accepted rfl ha (yForecastCtl_acts (by omega) (by rw [hop]; rfl)),
      fun hop => completes_accepted rfl ha (yForecastCtl_acts (by omega) (by rw [hop]; rfl))⟩
  case setJob | setGroups | getJob =>
    exact fun m s ha => ⟨fun habsent => completes_accepted rfl ha (if_pos habsent),
      fun hslot => completes_accepted rfl ha (if_neg (by omega))⟩
  case freeze =>
    exact fun m s ha => ⟨fun harm => completes_accepted rfl ha (yFreeze_writes (if_pos harm)),
      fun hnot => completes_accepted rfl ha (yFreeze_writes (if_neg (by omega)))⟩
  case traceExport =>
    exact fun m s u ha hu => ⟨fun hnone => completes_accepted rfl ha (yTraceExport_refused hu hnone.1 hnone.2),
      fun hstarts => completes_accepted rfl ha (yTraceExport_accepted hu hstarts)⟩
  case getAge | skidForce =>
    exact fun m s ha => ⟨fun habsent => completes_accepted rfl ha (if_pos (.inl habsent)),
      fun hregion => completes_accepted rfl ha (if_neg (by omega))⟩
  case cellTest =>
    rintro m r s _ ha rfl
    refine ⟨fun habsent => completes_accepted rfl ha (if_pos habsent),
      fun hc hparked htest => completes_accepted rfl ha (yCellTest_notReady hc hparked htest), ?_, ?_⟩
    · rintro x u _ hc htest rfl hu hgo rfl
      exact ⟨fun hbit => completes_accepted rfl ha (yCellTest_stays hc htest hu hgo (by simp [hbit])),
        fun hbit => completes_accepted rfl ha (yCellTest_exits hc htest hu hgo (by simp [hbit]))⟩
    · rintro _ x u _ hc hparked rfl htest rfl hu hgo rfl hbit
      exact completes_accepted rfl ha
        ((yCellTest_enters hc hparked htest).trans (yCellTest_exits hc htest hu hgo (by simp [hbit])))
  case snsUrgent =>
    rintro m r s _ u ha rfl hu
    refine ⟨fun habsent => completes_accepted rfl ha (if_pos habsent),
      fun hk habsent => completes_accepted rfl ha (ySnsUrgent_absent hk hu habsent),
      fun hk hch hfull => completes_accepted rfl ha (ySnsUrgent_full hk hu hch hfull), ?_⟩
    rintro x _ w hk hch hroom hon hlock rfl rfl hw
    exact completes_accepted rfl ha (ySnsUrgent_converts hk hu hch hroom hon hlock hw)

end Sys2Proof.Machine

/-! PROOFS of the family spec/09_skid.md. What a delivered minimum, the windows, escalation and the register writes of Skid
leave. -/

namespace Sys2Proof.Machine

open State

/-! ### What Skid keeps beside the registers -/

/-- What was last stored for a region stands. -/
@[simp] theorem skidHid_setSkidHid_same (s : State) (n : Nat) (h : SkidHid) : (s.setSkidHid n h).skidHid n = h :=
  mapGet_mapSet_same _ _ _ _

/-- A number written in a word leaves it, and the time. -/
@[simp] theorem skidHid_wrN (s : State) (a v n : Nat) : (s.wrN a v).skidHid n = s.skidHid n := rfl
@[simp] theorem now_wrN (s : State) (a v : Nat) : (s.wrN a v).now = s.now := rfl
@[simp] theorem tim_wrN (s : State) (a v : Nat) : (s.wrN a v).tim = s.tim := rfl

/-- A number written in a word reads back modulo 2^32. -/
theorem num_wrN_same (s : State) (a v : Nat) : (s.wrN a v).num a = v % 2 ^ 32 := by
  rw [State.num, State.wrN, rd_wr_same, BitVec.toNat_ofNat]

/-- A word copied from another register reads as that one. -/
theorem rd_wrN_num (s : State) (a b : Nat) : (s.wrN a (s.num b)).rd a = s.rd b := by
  rw [State.wrN, rd_wr_same, State.num, BitVec.ofNat_toNat, BitVec.setWidth_eq]

/-! ### How a command or an event of Skid runs -/

/-- Out of instance reset a minimum for a region other than region 0 is shown, recorded, seen by the ramp, and decided on
with the TS of the CKS edge before (R151, R153, R322, R323). -/
theorem completes_skidMinimum {i : Instr} {e : Dword} {n v x cnt : Nat} {s : State}
    (hexec : exec i s = .next (s.running fun s => skidMinimum n v x cnt (s.advanceTo e))) (hn : n ≠ 0)
    (hrun : s.rst.inst = false) : Completes i s fun t => ∃ z, z = s.advanceTo e ∧
      t = skidDecide n v (z.ts - 2).toNat
        (rampSeen n v (minvReplace n v x (z.ts - 2) (deliverMin n v cnt true z))) :=
  completes_running hexec hrun (if_neg hn) ⟨_, rfl, rfl⟩

/-- Out of instance reset an event of a region other than region 0 acts, and the combiner follows (R336). -/
theorem completes_skidEvent {i : Instr} {n : Nat} {s u : State} {k : State → State} {post : State → Prop}
    (hexec : exec i s = .next (s.running fun s => if n = 0 then s else reinAll (k s))) (hn : n ≠ 0)
    (hrun : s.rst.inst = false) (hact : k s = u) (hpost : post (reinAll u)) : Completes i s post :=
  completes_running hexec hrun ((if_neg hn).trans (congrArg reinAll hact)) hpost

/-- A permitted write to a region other than region 0 runs the register's own action. -/
theorem completes_skidWrite {i : Instr} {req : Requester} {n a : Nat} {v : Word} {s u : State}
    {h : Word → State → State} {post : State → Prop}
    (hexec : exec i s = .next (if n = 0 then s else gated req a v h s)) (hn : n ≠ 0) (hp : s.Permits req a v)
    (hact : h v s = u) (hpost : post u) : Completes i s post :=
  completes_permitted (hexec.trans (congrArg Host.Outcome.next (if_neg hn))) hp hact hpost

/-! ### The decision (R322, R323, R327) -/

section Decision

variable {n v ts : Nat} {s u : State}

/-- Where Skid does not act, the edges passed are counted and nothing is decided (R327). -/
theorem skidDecide_idle (h : (countEdges s).skidActs n = false) : skidDecide n v ts s = countEdges s :=
  if_neg (by simp [h])

/-- Below the trip level the deficit keeps its peak; the depth rises at once to the deficit in steps, or is kept and the
release starts anew (R322, R323). -/
theorem skidDecide_trip {dt : Nat} {w : State} (hu : u = countEdges s) (hacts : u.skidActs n = true)
    (hlow : ((4 * v : Nat) : Int) < u.skidTrip n)
    (hdt : dt = min (u.skidCfg n (SKID_CFG.DMAX n)) (((u.skidTrip n - ((4 * v : Nat) : Int)).toNat +
      4 * u.skidCfg n (SKID_CFG.DSTEP n) - 1) / (4 * u.skidCfg n (SKID_CFG.DSTEP n))))
    (hw : w = u.keepMax (SKID_PEAK.DEFICIT n) (min (u.skidTrip n - ((4 * v : Nat) : Int)).toNat 0xFFFF)) :
    skidDecide n v ts s = if u.get (SKID_RSTAT.DEPTH n) < dt
      then skidSchedule n w.cks ts ((w.put (SKID_RSTAT.DEPTH n) dt).put (SKID_RSTAT.RELCNT n) 0)
      else w.put (SKID_RSTAT.RELCNT n) 0 := by
  have hband : ((4 * v : Nat) : Int) < u.skidTrip n + (4 * w.skidCfg n (SKID_CFG.HYST n) : Nat) := by omega
  simp only [skidDecide, ← hu, hacts, if_true, if_pos hlow, ← hdt, ← hw, if_pos hband]

/-- At or above the release level with a depth, the RELHOLD-th reading in a row takes the depth down by one, and an earlier
one counts (R323). -/
theorem skidDecide_release (hu : u = countEdges s) (hacts : u.skidActs n = true)
    (hhigh : u.skidTrip n + (4 * u.skidCfg n (SKID_CFG.HYST n) : Nat) ≤ ((4 * v : Nat) : Int))
    (hdeep : 0 < u.get (SKID_RSTAT.DEPTH n)) :
    skidDecide n v ts s = if u.skidCfg n (SKID_CFG.RELHOLD n) ≤ u.get (SKID_RSTAT.RELCNT n) + 1
      then skidSchedule n u.cks ts
        ((u.put (SKID_RSTAT.DEPTH n) (u.get (SKID_RSTAT.DEPTH n) - 1)).put (SKID_RSTAT.RELCNT n) 0)
      else u.put (SKID_RSTAT.RELCNT n) (u.get (SKID_RSTAT.RELCNT n) + 1) := by
  have habove : ¬ ((4 * v : Nat) : Int) < u.skidTrip n := by omega
  simp only [skidDecide, ← hu, hacts, if_true, if_neg habove, Nat.not_lt_zero, if_false, if_neg (not_lt.mpr hhigh),
    if_neg hdeep.ne']

end Decision

/-! ### The request (R324, R325, R329) -/

/-- With no request on its way, max(depth, FORCE) is decided where it differs from the request on the lines; they keep
theirs (R324, R325). -/
theorem skidSchedule_leaves {n k ts q : Nat} {s : State} (hdue : (s.skidHid n).due = [])
    (hq : q = max (s.get (SKID_RSTAT.DEPTH n)) (s.get (SKID_FORCE.DEPTH n))) :
    (skidSchedule n k ts s).regs = s.regs ∧ ((skidSchedule n k ts s).skidHid n).line = (s.skidHid n).line ∧
      ((skidSchedule n k ts s).skidHid n).due = (if q = (s.skidHid n).line then [] else [(k, q, ts)]) := by
  simp [skidSchedule, hdue, ← hq]

/-- A decided request stands on the lines from the CKS edge after its decision (R325). -/
theorem skidRequest_due {n k q ts : Nat} {s : State} (hrun : s.rst.inst = false) (hlock : s.locked = true)
    (hdue : (s.skidHid n).due = [(k, q, ts)]) :
    s.skidRequest n = (if k < s.cks then q else (s.skidHid n).line) := by
  simp [State.skidRequest, hrun, hlock, hdue]

/-- In reset and without lock the lines are 0 (R329). -/
theorem skidRequest_held {n : Nat} {s : State} (h : s.rst.inst = true ∨ s.locked = false) : s.skidRequest n = 0 :=
  if_pos (by simpa using h)

/-! ### The end of a window (R330) -/

/-- Between two windows of a new length a gap stands, unless the old one ends where the new one begins. -/
def State.skidGap (s : State) (n : Nat) : Bool :=
  decide (s.get (SKID_WIN.WIN n) ≠ (s.skidHid n).win) && decide (s.now % (800 * s.get (SKID_WIN.WIN n)) ≠ 0)

/-- What the window after the present one starts with. -/
def State.skidAnew (s : State) (n : Nat) : SkidHid :=
  { s.skidHid n with win := s.get (SKID_WIN.WIN n), gap := s.skidGap n, rose := false, start := s.tim.edges - 1,
                     since := s.now, ahead := 0 }

/-- A window that is no gap, at LEVEL 0: the count moves to SKID_DUTY, and the next window starts with what counted for it
already. -/
theorem skidWindowEnd_window {n : Nat} {s u : State} (hu : u = countEdges s) (hgap : (u.skidHid n).gap = false)
    (hlevel : u.get (SKID_RSTAT.LEVEL n) = 0) :
    skidWindowEnd n s = ((u.wrN (SKID_DUTY n) (u.num (SKID_DCUR n))).setSkidHid n (u.skidAnew n)).wrN (SKID_DCUR n)
      (if u.skidGap n then 0 else (u.skidHid n).ahead) := by
  have hwin : (u.wrN (SKID_DUTY n) (u.num (SKID_DCUR n))).get (SKID_WIN.WIN n) = u.get (SKID_WIN.WIN n) :=
    congrArg (fldGet · 15 0) (rd_wr_other _ _ _ _ (cellReg_ne (by decide)))
  simp [skidWindowEnd, ← hu, hgap, hlevel, hwin, State.skidAnew, State.skidGap]

/-- What such a window's end leaves, and that no other register changes (R330). -/
theorem skidWindowEnd_leaves {n : Nat} {s u : State} (hu : u = countEdges s) (hgap : (u.skidHid n).gap = false)
    (hlevel : u.get (SKID_RSTAT.LEVEL n) = 0) :
    (skidWindowEnd n s).rd (SKID_DUTY n) = u.rd (SKID_DCUR n) ∧ (skidWindowEnd n s).skidHid n = u.skidAnew n ∧
      (skidWindowEnd n s).num (SKID_DCUR n) = (if u.skidGap n then 0 else (u.skidHid n).ahead % 2 ^ 32) ∧
      ∀ a, a ≠ SKID_DUTY n → a ≠ SKID_DCUR n → (skidWindowEnd n s).rd a = u.rd a := by
  have hapart : SKID_DUTY n ≠ SKID_DCUR n := cellReg_ne (by decide)
  rw [skidWindowEnd_window hu hgap hlevel]
  refine ⟨?_, skidHid_setSkidHid_same _ _ _, ?_, fun a hduty hdcur => ?_⟩
  · rw [State.wrN, rd_wr_other _ _ _ _ hapart, setSkidHid_rd, rd_wrN_num]
  · rw [num_wrN_same]
    split <;> rfl
  · rw [State.wrN, rd_wr_other _ _ _ _ hdcur, setSkidHid_rd, State.wrN, rd_wr_other _ _ _ _ hduty]

/-- Time passes through the end of a window that it has reached (R330). -/
theorem skidWindowTo_ended {n : Nat} {e : Dword} {s : State} (h : s.skidEnd n ≤ e.toNat) :
    skidWindowTo n e s = (skidWindowEnd n (s.advanceTo (BitVec.ofNat 64 (s.skidEnd n)))).advanceTo e := if_pos h

theorem skidWindowTo_running {n : Nat} {e : Dword} {s : State} (h : e.toNat < s.skidEnd n) :
    skidWindowTo n e s = s.advanceTo e := if_neg (not_le.mpr h)

/-! ### Escalation (R331) -/

section Escalation

variable {n : Nat} {s u : State} (hu : u = countEdges s) (hacts : u.skidActs n = true)
  (hen : u.get (SKID_WIN.ESC_EN n) = 1) (hrose : (u.skidHid n).rose = false) (hgap : (u.skidHid n).gap = false)
  (hcap : u.get (SKID_RSTAT.LEVEL n) < u.skidCap n)

include hu hacts hen hrose hgap hcap in
/-- A duty count above its threshold raises LEVEL by one, once in the window, and counts the rise. -/
theorem skidEscalate_rises (hover : u.skidDuty n (u.skidEsc n (SKID_ESC.TH n)) < u.num (SKID_DCUR n)) :
    skidEscalate n s = (skidLevel n (u.get (SKID_RSTAT.LEVEL n) + 1)
      (u.setSkidHid n { u.skidHid n with rose := true })).incSat (SKID_ESCCNT.RISES n) := by
  simp only [skidEscalate, ← hu]
  exact if_pos ⟨hacts, bit_of_get hen, by simp [hrose], by simp [hgap], hover, hcap⟩

include hu in
/-- A duty count up to its threshold changes nothing. -/
theorem skidEscalate_stays (hunder : u.num (SKID_DCUR n) ≤ u.skidDuty n (u.skidEsc n (SKID_ESC.TH n))) :
    skidEscalate n s = u := by
  simp only [skidEscalate, ← hu]
  exact if_neg fun ⟨_, _, _, _, hover, _⟩ => absurd hover (not_lt.mpr hunder)

end Escalation

/-! ### The register writes (R324, R328, R331) -/

section Writes

variable {n : Nat} (hn : n ≠ 0) (hlt : n < 256) (v : Word) (s : State)

include hn hlt in
/-- The place of a word in the block of a region tells the region and the word (R335). -/
theorem skidReg_place {o : Nat} (ho : o < 0x40) : ¬ 0x1201000 + o + 0x40 * n < SKID_CFG 0 ∧ ¬ (n = 0 ∨ 256 ≤ n) ∧
    (0x1201000 + o + 0x40 * n - SKID_CFG 0) / 0x40 = n ∧ (0x1201000 + o + 0x40 * n - SKID_CFG 0) % 0x40 = o := by
  unfold SKID_CFG
  omega

include hn hlt in
/-- A write of SKID_ESC keeps the word in force until the next CKS edge (R328). -/
theorem skidWrite_ESC : skidWrite (SKID_ESC n) v s = skidEscWrite n v ((countEdges s).setSkidHid n
    { (countEdges s).skidHid n with
      escWas := (countEdges s).skidKeep ((countEdges s).skidHid n).escWas (SKID_ESC n) }) := by
  obtain ⟨hblock, hsome, hregion, hword⟩ := skidReg_place hn hlt (o := 0x10) (by decide)
  simp only [skidWrite, SKID_ESC, hregion, hword, if_neg hblock, if_neg hsome]
  rfl

include hn hlt in
/-- A write of SKID_WIN holds at once, with its check (R330, R332). -/
theorem skidWrite_WIN : skidWrite (SKID_WIN n) v s = skidRecheck n (storeReg (SKID_WIN n) v (countEdges s)) := by
  obtain ⟨hblock, hsome, hregion, hword⟩ := skidReg_place hn hlt (o := 0x14) (by decide)
  simp only [skidWrite, SKID_WIN, hregion, hword, if_neg hblock, if_neg hsome]
  rfl

include hn hlt in
/-- A write of SKID_FORCE takes part in the decision of the next CKS edge (R324, R328). -/
theorem skidWrite_FORCE : skidWrite (SKID_FORCE n) v s =
    skidSchedule n ((countEdges s).cks + 1) (countEdges s).now (storeReg (SKID_FORCE n) v (countEdges s)) := by
  obtain ⟨hblock, hsome, hregion, hword⟩ := skidReg_place hn hlt (o := 0x08) (by decide)
  simp only [skidWrite, SKID_FORCE, hregion, hword, if_neg hblock, if_neg hsome]
  rfl

end Writes

/-- Settles O28, clause by clause: the delivered minimum, the decision, the request, the windows, escalation and the
register writes. The request that waits for the next CKS edge is log entry 138. -/
theorem skidCommandsComplete : Obligations.SkidCommandsComplete := by
  refine ⟨fun e n v x cnt s hn hrun => completes_skidMinimum rfl hn hrun,
    fun e n v x cnt s hn hrun => completes_skidMinimum rfl hn hrun, fun n v ts s hidle => skidDecide_idle hidle,
    fun n v ts dt s u hu hacts hlow hdt => ?trip, fun n v ts s u hu hacts hhigh hdeep => ?release,
    fun n k ts s hdue q hq => skidSchedule_leaves hdue hq,
    fun n k q ts s hrun hlock hdue => skidRequest_due hrun hlock hdue, fun n s hheld => skidRequest_held hheld,
    fun e n s hn hrun => ?windowEvent, fun n s u hu hgap hlevel => ?windowEnd,
    fun e n s hn hrun => completes_skidEvent rfl hn hrun rfl rfl,
    fun n s u hu hacts hen hrose hgap hcap => ⟨fun hover => ?rises, skidEscalate_stays hu⟩,
    fun req n v s hn hp => ?esc, fun req n v s hn hp => ?win, fun req n v s hn hp => ?force⟩
  case trip =>
    have hdecide := skidDecide_trip (ts := ts) hu hacts hlow hdt rfl
    exact ⟨_, rfl, fun hrise => hdecide.trans (if_pos hrise), fun hkept => hdecide.trans (if_neg (not_lt.mpr hkept))⟩
  case release =>
    have hdecide := skidDecide_release (ts := ts) hu hacts hhigh hdeep
    exact ⟨fun hlast => hdecide.trans (if_pos hlast), fun hearly => hdecide.trans (if_neg (not_le.mpr hearly))⟩
  case windowEvent =>
    exact completes_skidEvent rfl hn hrun rfl
      ⟨fun hend => congrArg reinAll (skidWindowTo_ended hend), fun hruns => congrArg reinAll (skidWindowTo_running hruns)⟩
  case windowEnd =>
    obtain ⟨hduty, hanew, hdcur, hrest⟩ := skidWindowEnd_leaves hu hgap hlevel
    refine ⟨_, rfl, hduty, ?_⟩
    rw [hanew]
    exact ⟨rfl, rfl, rfl, rfl, rfl, hdcur, hrest⟩
  case rises =>
    exact ⟨_, skidEscalate_rises hu hacts hen hrose hgap hcap hover, skidHid_setSkidHid_same _ _ _, rfl⟩
  case esc =>
    exact completes_skidWrite rfl hn hp (congrArg reinAll (skidWrite_ESC hn n.isLt v s)) ⟨_, rfl, rfl⟩
  case win => exact completes_skidWrite rfl hn hp (congrArg reinAll (skidWrite_WIN hn n.isLt v s)) rfl
  case force => exact completes_skidWrite rfl hn hp (skidWrite_FORCE hn n.isLt v s) ⟨_, rfl, rfl⟩

end Sys2Proof.Machine

/-! PROOFS of the family spec/11_power_policy.md.
What the commands and the events of power policy leave, and what a PMBus transaction answers and latches. -/

namespace Sys2Proof.Machine

open State

/-! ### Addresses, events and the state of a region beside the registers -/

/-- Registers at different places in the blocks of their regions are different registers (R359). -/
theorem powerReg_ne {o o' m n : Nat} (h : o % 0x80 ≠ o' % 0x80) : o + 0x80 * m ≠ o' + 0x80 * n := by omega

/-- The regions' registers stand above the shared ones. -/
theorem powerReg_ne_low {a o n : Nat} (h : a < o) : o + 0x80 * n ≠ a := by omega

/-- An event shows in its flag (R393). -/
theorem pwrEvent_sets (f : Fld) (o : Nat) (s : State) (hle : f.lo ≤ f.hi) (hlt : f.hi < 32) :
    (pwrEvent f o s).get f = 1 :=
  get_put_one s f hle hlt

/-- An event leaves the fields of other registers. -/
theorem pwrEvent_get {f g : Fld} (h : g.addr ≠ f.addr) (o : Nat) (s : State) : (pwrEvent f o s).get g = s.get g :=
  get_put_reg s f g 1 h

/-- An event adds its flag to a frame. -/
theorem pwrEvent_keepsBits {u s : State} {fs : List Fld} (h : u.KeepsBits s fs) (f : Fld) (o : Nat) :
    u.KeepsBits (pwrEvent f o s) (f :: fs) := h.put f 1

/-- What was last stored for a region stands. -/
@[simp] theorem prgn_setPrgn_same (s : State) (n : Nat) (h : PwrRgn) : (s.setPrgn n h).prgn n = h :=
  mapGet_mapSet_same _ _ _ _

/-- The passing of time leaves it. -/
@[simp] theorem prgn_adv (s : State) (e : Dword) (n : Nat) : (s.advanceTo e).prgn n = s.prgn n := by
  rw [State.prgn, State.prgn, advanceTo_pwrRgn]

/-- A write of a register leaves it. -/
theorem storeReg_prgn (a : Nat) (v : Word) (s : State) (n : Nat) : (storeReg a v s).prgn n = s.prgn n := by
  unfold storeReg
  split <;> rfl

/-- A write of a register leaves the number of the instance. -/
theorem storeReg_inst (a : Nat) (v : Word) (s : State) : (storeReg a v s).inst = s.inst := by
  unfold storeReg
  split <;> rfl

/-- The passing of time leaves the number of the instance. -/
theorem inst_adv (s : State) (e : Dword) : (s.advanceTo e).inst = s.inst := by
  rw [State.inst, State.inst, advanceTo_efuse]

/-- A boundary is made when it is due and no base tick has made it (R372, R379, R387, log entry 140). -/
theorem completes_boundary {i : Instr} {e : Dword} {s : State} {due : State → Bool} {act : State → State}
    (hexec : exec i s = .next (s.running fun s => if due (s.advanceTo e) then act (s.advanceTo e) else s.advanceTo e))
    (hrun : s.rst.inst = false) : Completes i s fun t => ∃ z, z = s.advanceTo e ∧ (due z = true → t = act z) ∧
      (due z = false → t = z) :=
  completes_running hexec hrun rfl ⟨_, rfl, fun h => if_pos h, fun h => if_neg (ne_true_of_eq_false h)⟩

/-! ### Operating points (R358, R360) -/

/-- Without ENV_EN the trim of the envelope is 0 (R413). -/
def trimFollows (s : State) : State := if s.bit PWR_CTRL.ENV_EN then s else s.put CPLR_ENV_TGT.I 0

/-- Without CAP_EN the cap level is 0 (R382). -/
def levelFollows (s : State) : State :=
  if s.bit PWR_CTRL.CAP_EN then s else { s.put PWR_STAT.L 0 with pwr := { s.pwr with under := 0 } }

theorem trimFollows_leaves (s : State) :
    (trimFollows s).pwr.checking = s.pwr.checking ∧ s.KeepsBits (trimFollows s) [CPLR_ENV_TGT.I] := by
  unfold trimFollows
  split
  · exact ⟨rfl, (KeepsBits.refl s).mono (by simp)⟩
  · exact ⟨rfl, (KeepsBits.refl s).put _ 0⟩

theorem levelFollows_leaves (s : State) :
    (levelFollows s).pwr.checking = s.pwr.checking ∧ s.KeepsBits (levelFollows s) [PWR_STAT.L] := by
  unfold levelFollows
  split
  · exact ⟨rfl, (KeepsBits.refl s).mono (by simp)⟩
  · exact ⟨rfl, (KeepsBits.refl s).put PWR_STAT.L 0⟩

/-- The end of a write of PWR_CTRL keeps the check and all other bits. -/
theorem ctrlFollows_leaves (s : State) : (levelFollows (trimFollows s)).pwr.checking = s.pwr.checking ∧
    s.KeepsBits (levelFollows (trimFollows s)) [CPLR_ENV_TGT.I, PWR_STAT.L] := by
  obtain ⟨htrim, htrims⟩ := trimFollows_leaves s
  obtain ⟨hlevel, hlevels⟩ := levelFollows_leaves (trimFollows s)
  exact ⟨hlevel.trans htrim, (htrims.mono (by simp)).trans (hlevels.mono (by simp))⟩

/-- OP_EN shows 0 while the tables are checked (R360). -/
def checkStarted (u : State) : State := { u.put PWR_CTRL.OP_EN 0 with pwr := { u.pwr with checking := true } }

/-- On instance 0 a write of OP_EN = 1 over 0 starts the check (R360). -/
theorem pwrCtrlWrite_checks {v : Word} {s : State} (hinst : s.inst = 0) (hset : fldGet v 0 0 = 1)
    (hoff : s.get PWR_CTRL.OP_EN = 0) : pwrCtrlWrite v s =
      levelFollows (trimFollows (checkStarted (storeReg PWR_CTRL v s))) := by
  have hold : fldGet (s.rd PWR_CTRL) 0 0 = 0 := hoff
  unfold pwrCtrlWrite
  simp only [storeReg_inst, hinst, hset, hold, if_true, one_ne_zero, if_false]
  rfl

theorem opRegions_of_regs {s t : State} (h : t.regs = s.regs) : t.opRegions = s.opRegions :=
  view_of_regs State.opRegions (fun _ => rfl) h

theorem opTableOk_of_regs {s t : State} (h : t.regs = s.regs) (n : Nat) : t.opTableOk n = s.opTableOk n :=
  view_of_regs (State.opTableOk · n) (fun _ => rfl) h

/-- The check of the tables is over (R360). -/
def checkEnded (s : State) : State := { s with pwr := { s.pwr with checking := false } }

/-- With no failing region the check ends with OP_EN 1 (R360). -/
theorem opValidate_good {s : State} (hchecking : s.pwr.checking = true)
    (hgood : ∀ n ∈ s.opRegions, s.opTableOk n = true) :
    opValidate s = (checkEnded s).put PWR_CTRL.OP_EN 1 := by
  unfold opValidate
  rw [if_pos hchecking]
  dsimp only
  split
  · rename_i n hfirst
    have hfails : (s.opRegions.find? fun n => !s.opTableOk n) = some n := hfirst
    have hbad : (!s.opTableOk n) = true := List.find?_some (p := fun n => !s.opTableOk n) hfails
    rw [hgood n (List.mem_of_find?_eq_some hfails)] at hbad
    cases hbad
  · rfl

/-- A failing region ends the check with OP_ERR and its number, as an event (R360, R393). -/
theorem opValidate_bad {n : Nat} {s : State} (hchecking : s.pwr.checking = true)
    (hfails : (s.opRegions.find? fun n => !s.opTableOk n) = some n) :
    opValidate s = pwrEvent PWR_EVT.OPERR 8 (((checkEnded s).put PWR_STAT.OP_ERR 1).put PWR_STAT.ERR_RGN n) := by
  unfold opValidate
  rw [if_pos hchecking]
  dsimp only
  split
  · rename_i m hfirst
    obtain rfl : n = m := Option.some.inj (hfails.symm.trans hfirst)
    rfl
  · rename_i hnone
    cases hfails.symm.trans hnone

/-- What a failed check leaves, and the report to the interrupt controller. -/
theorem opFailed_leaves {n : Nat} (hn : n < 2 ^ 8) (s : State) : ∃ t,
    t = pwrEvent PWR_EVT.OPERR 8 (((checkEnded s).put PWR_STAT.OP_ERR 1).put PWR_STAT.ERR_RGN n) ∧
    t.get PWR_STAT.OP_ERR = 1 ∧ t.get PWR_STAT.ERR_RGN = n ∧ t.get PWR_EVT.OPERR = 1 ∧
    t.get PWR_CTRL.OP_EN = s.get PWR_CTRL.OP_EN ∧ t.pwr.checking = false ∧ t.pst.port = s.pst.port ++ [32 * kPWR + 8] ∧
    s.KeepsBits t [PWR_STAT.OP_ERR, PWR_STAT.ERR_RGN, PWR_EVT.OPERR] := by
  have hkeeps : s.KeepsBits (((checkEnded s).put PWR_STAT.OP_ERR 1).put PWR_STAT.ERR_RGN n)
      [PWR_STAT.ERR_RGN, PWR_STAT.OP_ERR] :=
    KeepsBits.put (KeepsBits.put (KeepsBits.refl s) PWR_STAT.OP_ERR 1) PWR_STAT.ERR_RGN n
  refine ⟨_, rfl, ?_, ?_, pwrEvent_sets _ _ _ (by decide) (by decide), ?_, rfl, rfl,
    (pwrEvent_keepsBits hkeeps _ _).mono (by simp)⟩
  · rw [pwrEvent_get (by decide), get_put_apart _ _ _ _ rfl, get_put_one _ _ (by decide) (by decide)]
  · rw [pwrEvent_get (by decide), get_put_same _ _ _ (by decide) (by decide)]
    exact Nat.mod_eq_of_lt hn
  · rw [pwrEvent_get (by decide), hkeeps.get _ (by decide)]

/-! ### Moves (R363 to R367) -/

/-- A frequency request stands cut to its field; a change is an event (R393). -/
theorem freqRequest_leaves (n f : Nat) (s : State) : (freqRequest n f s).get (PWR_FREQ.REQ n) = f % 4096 ∧
    s.KeepsBits (freqRequest n f s) [PWR_FREQ.REQ n, PWR_EVT.FREQ] := by
  unfold freqRequest
  split
  · rename_i hsame
    exact ⟨hsame ▸ (Nat.mod_eq_of_lt (fldGet_lt _ 11 0)).symm, (KeepsBits.refl s).mono (by simp)⟩
  · exact ⟨(pwrEvent_get (powerReg_ne_low (by decide)) _ _).trans (get_put_cut _ _ _ rfl),
      (pwrEvent_keepsBits ((KeepsBits.refl s).put (PWR_FREQ.REQ n) f) _ _).mono (by simp)⟩

/-- The request that a move up to a point of frequency f makes when its voltage is reached: none for 0 (R364). -/
def freqReached (n f : Nat) (s : State) : State := if f = 0 then s else freqRequest n f s

theorem freqReached_leaves (n f : Nat) (s : State) :
    (f ≠ 0 → (freqReached n f s).get (PWR_FREQ.REQ n) = f % 4096) ∧
    (f = 0 → (freqReached n f s).get (PWR_FREQ.REQ n) = s.get (PWR_FREQ.REQ n)) ∧
    s.KeepsBits (freqReached n f s) [PWR_FREQ.REQ n, PWR_EVT.FREQ] := by
  unfold freqReached
  split
  · rename_i hzero
    exact ⟨fun h => absurd hzero h, fun _ => rfl, (KeepsBits.refl s).mono (by simp)⟩
  · rename_i hsome
    obtain ⟨hreq, hkeeps⟩ := freqRequest_leaves n f s
    exact ⟨fun _ => hreq, fun h => absurd h hsome, hkeeps⟩

/-- The point of a finished move up is set and nothing is pending (R364). -/
def moveUpEnded (n t f : Nat) (s : State) : State :=
  ((freqReached n f s).setPrgn n { (freqReached n f s).prgn n with move := none }).put (PWR_RGN_STAT.I n) t

/-- Without a profile the voltage of a move up is reached 1 µs after the write (R364). -/
theorem moveUpDone_reached {n t since : Nat} {s : State} (hmove : (s.prgn n).move = some ⟨true, t, since⟩)
    (hplain : s.profiled n = false) (hdue : since + 800 ≤ s.now) :
    moveUpDone n s = moveUpEnded n t (s.get (PWR_OP.FMHZ n t)) s := by
  unfold moveUpDone
  simp only [hmove, hplain, Bool.false_eq_true, if_false, decide_eq_true hdue, if_true]
  rfl

theorem moveUpEnded_leaves {t : Nat} (ht : t < 2 ^ 4) (n f : Nat) (s : State) : ∃ u, u = moveUpEnded n t f s ∧
    u.get (PWR_RGN_STAT.I n) = t ∧ (u.prgn n).move = none ∧
    (f ≠ 0 → u.get (PWR_FREQ.REQ n) = f % 4096) ∧ (f = 0 → u.get (PWR_FREQ.REQ n) = s.get (PWR_FREQ.REQ n)) ∧
    s.KeepsBits u [PWR_RGN_STAT.I n, PWR_FREQ.REQ n, PWR_EVT.FREQ] := by
  obtain ⟨hsome, hnone, hkeeps⟩ := freqReached_leaves n f s
  have hreq : (moveUpEnded n t f s).get (PWR_FREQ.REQ n) = (freqReached n f s).get (PWR_FREQ.REQ n) :=
    get_put_reg _ _ _ _ (powerReg_ne (by decide))
  refine ⟨_, rfl, ?_, ?_, fun h => hreq.trans (hsome h), fun h => hreq.trans (hnone h), hkeeps.put _ t⟩
  · rw [moveUpEnded, get_put_cut _ _ _ rfl]
    exact Nat.mod_eq_of_lt ht
  · exact congrArg PwrRgn.move (prgn_setPrgn_same _ _ _)

/-- The point of a finished move down is set and PEND is cleared (R365). -/
def moveDownEnded (n t : Nat) (w : State) : State := (w.put (PWR_RGN_STAT.I n) t).put (PWR_RGN_STAT.PEND n) 0

theorem moveDownEnded_leaves {t : Nat} (ht : t < 2 ^ 4) (n : Nat) (w : State) :
    (moveDownEnded n t w).get (PWR_RGN_STAT.I n) = t ∧ (moveDownEnded n t w).get (PWR_RGN_STAT.PEND n) = 0 ∧
    w.Frame (moveDownEnded n t w) [PWR_RGN_STAT.I n, PWR_RGN_STAT.PEND n] := by
  refine ⟨?_, get_put_fit _ _ _ rfl, frame_intro (((KeepsBits.refl w).put _ _).put _ _) (by simp) rfl⟩
  rw [moveDownEnded, get_put_apart _ _ _ _ rfl, get_put_cut _ _ _ rfl]
  exact Nat.mod_eq_of_lt ht

section Acknowledge

variable {n t since : Nat} {v : Word} {s u : State} (hmove : (s.prgn n).move = some ⟨false, t, since⟩)
  (hu : u = storeReg (PWR_FREQ n) v s)

include hmove hu

/-- An acknowledgement at or below the frequency of the point completes a move down: the set-point follows (R365). -/
theorem freqAck_completes (hack : u.get (PWR_FREQ.ACK n) ≤ u.get (PWR_OP.FMHZ n t)) :
    freqAck n v s = moveDownEnded n t (policyVset n t (u.setPrgn n { s.prgn n with move := none })) := by
  subst hu
  unfold freqAck
  simp only [storeReg_prgn, hmove, hack, if_true]
  rfl

/-- One above it is stored, and the move waits on (R365). -/
theorem freqAck_waits (hack : u.get (PWR_OP.FMHZ n t) < u.get (PWR_FREQ.ACK n)) : freqAck n v s = u := by
  subst hu
  unfold freqAck
  simp only [storeReg_prgn, hmove, not_le.mpr hack, if_false]

end Acknowledge

/-- A move down that has waited for the time-out sets FTO as an event, and waits on (R367, R393). -/
theorem ackTimeout_due {n t since : Nat} {s : State} (hmove : (s.prgn n).move = some ⟨false, t, since⟩)
    (hdue : since + 800 * s.get PWR_FACK.TO ≤ s.now) :
    ackTimeout n s = pwrEvent PWR_EVT.FTO 4 (s.put (PWR_RGN_STAT.FTO n) 1) := by
  unfold ackTimeout
  simp only [hmove, hdue, if_true]

theorem ackTimedOut_leaves (n : Nat) (s : State) : ∃ t, t = pwrEvent PWR_EVT.FTO 4 (s.put (PWR_RGN_STAT.FTO n) 1) ∧
    t.get (PWR_RGN_STAT.FTO n) = 1 ∧ t.get PWR_EVT.FTO = 1 ∧ t.pst.port = s.pst.port ++ [32 * kPWR + 4] ∧
    t.pwrRgn = s.pwrRgn ∧ s.KeepsBits t [PWR_RGN_STAT.FTO n, PWR_EVT.FTO] :=
  ⟨_, rfl, (pwrEvent_get (powerReg_ne_low (by decide)) _ _).trans (get_put_fit _ _ _ rfl),
    pwrEvent_sets _ _ _ (by decide) (by decide), rfl, rfl,
    (pwrEvent_keepsBits ((KeepsBits.refl s).put (PWR_RGN_STAT.FTO n) 1) _ _).mono (by simp)⟩

/-! ### The estimate and the coefficients (R372, R376) -/

/-- A value that fits its field is stored whole (R372). -/
theorem putOr_fits {f : Fld} {v : Nat} (h : v < 2 ^ (f.hi + 1 - f.lo)) (s : State) : s.putOr f v = s.put f v :=
  if_pos ⟨Int.natCast_nonneg v, by exact_mod_cast h⟩

/-- Beside the registers, the estimate keeps the sums of R375 and the Waybill weights: it stores the power alone. -/
theorem estimateRegion_regs (n : Nat) (s : State) :
    (estimateRegion n s).regs = (s.putOr (PWR_EST.P n) (s.regionPower n)).regs := by
  unfold estimateRegion
  dsimp only
  refine (each_field State.regs _ _ _ ?_).trans (setPrgn_regs _ _ _)
  exact fun t w => setWgrp_regs t _ _

/-- A power that fits is written, and no other bit (R372). -/
theorem estimateRegion_leaves {n : Nat} {s : State} (h : s.regionPower n < 2 ^ 20) :
    (estimateRegion n s).get (PWR_EST.P n) = s.regionPower n ∧ s.KeepsBits (estimateRegion n s) [PWR_EST.P n] := by
  have hregs : (estimateRegion n s).regs = (s.put (PWR_EST.P n) (s.regionPower n)).regs :=
    (estimateRegion_regs n s).trans (congrArg State.regs (putOr_fits h s))
  refine ⟨(get_of_regs hregs _).trans ((get_put_cut _ _ _ rfl).trans (Nat.mod_eq_of_lt h)), ?_⟩
  exact ((KeepsBits.refl s).put _ _).of_regs hregs

/-- The coefficients in force for region n are its shadow's. -/
def State.CoeffsLive (s : State) (n : Nat) : Prop :=
  s.rd (PWR_KL01 n) = s.rd (PWR_K01 n) ∧ s.rd (PWR_KL23 n) = s.rd (PWR_K23 n) ∧ s.rd (PWR_PSL n) = s.rd (PWR_PS n)

/-- Is there a live coefficient of some region at offset a? -/
def LiveCoeff (a : Nat) : Prop := ∃ n, a = PWR_KL01 n ∨ a = PWR_KL23 n ∨ a = PWR_PSL n

/-- Region n's part of the copy of the shadows (R376). -/
def coeffsCopied (s : State) (n : Nat) : State :=
  if s.rd (PWR_K01 n) = s.rd (PWR_KL01 n) ∧ s.rd (PWR_K23 n) = s.rd (PWR_KL23 n) ∧
      s.rd (PWR_PS n) = s.rd (PWR_PSL n) then s
  else ((s.wr (PWR_KL01 n) (s.rd (PWR_K01 n))).wr (PWR_KL23 n) (s.rd (PWR_K23 n))).wr (PWR_PSL n) (s.rd (PWR_PS n))

/-- Word for word: the region's live coefficients read as its shadow's, every other word as before. -/
theorem coeffsCopied_rd (s : State) (n a : Nat) : (coeffsCopied s n).rd a =
    if a = PWR_PSL n then s.rd (PWR_PS n) else if a = PWR_KL23 n then s.rd (PWR_K23 n)
    else if a = PWR_KL01 n then s.rd (PWR_K01 n) else s.rd a := by
  unfold coeffsCopied
  split
  · rename_i hsame
    obtain ⟨h01, h23, hps⟩ := hsame
    rw [hps, h23, h01]
    split_ifs with ha ha ha
    · rw [ha]
    · rw [ha]
    · rw [ha]
    · rfl
  · simp only [rd_wr]

/-- It writes live coefficients of the region alone. -/
theorem coeffsCopied_rd_other {a n : Nat} (h : a ≠ PWR_KL01 n ∧ a ≠ PWR_KL23 n ∧ a ≠ PWR_PSL n) (s : State) :
    (coeffsCopied s n).rd a = s.rd a := by
  obtain ⟨h01, h23, hps⟩ := h
  rw [coeffsCopied_rd, if_neg hps, if_neg h23, if_neg h01]

/-- No shadow is a live coefficient. -/
theorem shadowCoeff_not_live (n : Nat) :
    ¬ LiveCoeff (PWR_K01 n) ∧ ¬ LiveCoeff (PWR_K23 n) ∧ ¬ LiveCoeff (PWR_PS n) := by
  simp only [LiveCoeff, PWR_K01, PWR_K23, PWR_PS, PWR_KL01, PWR_KL23, PWR_PSL]
  omega

/-- A copied region's coefficients are live. -/
theorem coeffsCopied_live (s : State) (n : Nat) : (coeffsCopied s n).CoeffsLive n := by
  simp [State.CoeffsLive, coeffsCopied_rd, PWR_K01, PWR_K23, PWR_PS, PWR_KL01, PWR_KL23, PWR_PSL]

/-- Copying another region's, or its own again, leaves them so. -/
theorem coeffsCopied_keeps_live {s : State} {n : Nat} (h : s.CoeffsLive n) (m : Nat) :
    (coeffsCopied s m).CoeffsLive n := by
  by_cases hmn : m = n
  · exact hmn ▸ coeffsCopied_live s m
  · have hshadow := shadowCoeff_not_live n
    simp only [LiveCoeff, not_exists, not_or] at hshadow
    obtain ⟨hk01, hk23, hps⟩ := hshadow
    have hother (o : Nat) : o + 0x80 * n ≠ o + 0x80 * m := by omega
    have hl01 := coeffsCopied_rd_other (a := PWR_KL01 n) (n := m)
      ⟨hother _, powerReg_ne (by decide), powerReg_ne (by decide)⟩ s
    have hl23 := coeffsCopied_rd_other (a := PWR_KL23 n) (n := m)
      ⟨powerReg_ne (by decide), hother _, powerReg_ne (by decide)⟩ s
    have hlps := coeffsCopied_rd_other (a := PWR_PSL n) (n := m)
      ⟨powerReg_ne (by decide), powerReg_ne (by decide), hother _⟩ s
    rwa [State.CoeffsLive, hl01, hl23, hlps, coeffsCopied_rd_other (hk01 m), coeffsCopied_rd_other (hk23 m),
      coeffsCopied_rd_other (hps m)]

/-- The shadows of all regions are copied live (R376). -/
def coeffsApplied (s : State) : State := s.each ((List.range 256).drop 1) coeffsCopied

theorem coeffsApplied_rd_other {a : Nat} (h : ¬ LiveCoeff a) (s : State) : (coeffsApplied s).rd a = s.rd a := by
  simp only [LiveCoeff, not_exists, not_or] at h
  unfold coeffsApplied State.each
  refine List.foldlRecOn _ _ (motive := fun t : State => t.rd a = s.rd a) rfl fun t ht n _ => ?_
  exact (coeffsCopied_rd_other (h n) t).trans ht

theorem coeffsApplied_rd {n : Nat} (hlow : 1 ≤ n) (hlt : n < 256) (s : State) :
    (coeffsApplied s).rd (PWR_KL01 n) = s.rd (PWR_K01 n) ∧ (coeffsApplied s).rd (PWR_KL23 n) = s.rd (PWR_K23 n) ∧
    (coeffsApplied s).rd (PWR_PSL n) = s.rd (PWR_PS n) := by
  have hmem : n ∈ (List.range 256).drop 1 := List.mem_drop_iff_getElem.mpr ⟨n - 1, by simp; omega, by simp; omega⟩
  obtain ⟨h01, h23, hps⟩ := each_establishes (fun t : State => t.CoeffsLive n) (fun t => coeffsCopied_live t n)
    (fun t m h => coeffsCopied_keeps_live h m) (s := s) (.inr hmem)
  obtain ⟨hk01, hk23, hkps⟩ := shadowCoeff_not_live n
  exact ⟨h01.trans (coeffsApplied_rd_other hk01 s), h23.trans (coeffsApplied_rd_other hk23 s),
    hps.trans (coeffsApplied_rd_other hkps s)⟩

/-- The copy is counted and COMMIT is cleared (R376). -/
def coeffsCommitted (s : State) : State := ((coeffsApplied s).addWrap PWR_CAL.CALGEN 1).put PWR_CAL.COMMIT 0

theorem coeffApply_commit {s : State} (h : s.get PWR_CAL.COMMIT = 1) : coeffApply s = coeffsCommitted s :=
  if_pos (State.bit_of_get h)

theorem coeffsCommitted_rd {a : Nat} (h : a ≠ PWR_CAL) (s : State) :
    (coeffsCommitted s).rd a = (coeffsApplied s).rd a :=
  (rd_put_other _ _ _ _ h).trans (rd_put_other _ _ _ _ h)

theorem coeffsCommitted_leaves (s : State) : ∃ t, t = coeffsCommitted s ∧ t.get PWR_CAL.COMMIT = 0 ∧
    t.get PWR_CAL.CALGEN = (s.get PWR_CAL.CALGEN + 1) % 65536 ∧
    (∀ n, 1 ≤ n → n < 256 → t.rd (PWR_KL01 n) = s.rd (PWR_K01 n) ∧ t.rd (PWR_KL23 n) = s.rd (PWR_K23 n) ∧
      t.rd (PWR_PSL n) = s.rd (PWR_PS n)) ∧
    (∀ a, a ≠ PWR_CAL → (∀ n, a ≠ PWR_KL01 n ∧ a ≠ PWR_KL23 n ∧ a ≠ PWR_PSL n) → t.rd a = s.rd a) := by
  refine ⟨_, rfl, get_put_zero _ _ (by decide) (by decide), ?_, fun n hlow hlt => ?_, fun a hcal hlive => ?_⟩
  · have hcal : ¬ LiveCoeff PWR_CAL := by
      simp only [LiveCoeff, PWR_CAL, PWR_KL01, PWR_KL23, PWR_PSL]
      omega
    have hgen : (coeffsApplied s).get PWR_CAL.CALGEN = s.get PWR_CAL.CALGEN :=
      congrArg (fldGet · 31 16) (coeffsApplied_rd_other hcal s)
    rw [coeffsCommitted, get_put_apart _ _ _ _ rfl, State.addWrap, get_put_cut _ _ _ rfl, hgen]
    exact Nat.mod_mod _ _
  · obtain ⟨h01, h23, hps⟩ := coeffsApplied_rd hlow hlt s
    exact ⟨(coeffsCommitted_rd (powerReg_ne_low (by decide)) s).trans h01,
      (coeffsCommitted_rd (powerReg_ne_low (by decide)) s).trans h23,
      (coeffsCommitted_rd (powerReg_ne_low (by decide)) s).trans hps⟩
  · refine (coeffsCommitted_rd hcal s).trans (coeffsApplied_rd_other ?_ s)
    rintro ⟨n, h | h | h⟩
    · exact (hlive n).1 h
    · exact (hlive n).2.1 h
    · exact (hlive n).2.2 h

/-- A write of COMMIT = 1 sets it (R17, R376). -/
theorem storeReg_PWR_CAL_commit (v : Word) (s : State) : (storeReg PWR_CAL (v ||| 1) s).get PWR_CAL.COMMIT = 1 := by
  obtain ⟨acc, -, hstored⟩ := storeReg_field (a := PWR_CAL) rfl (v ||| 1) s (f := fdef 0 0 .w1s) (by decide)
  have hset := storeField_w1s (f := fdef 0 0 .w1s) (by decide) rfl (s.freshBits PWR_CAL) (v ||| 1) acc (i := 0)
    (by decide) (by decide)
  refine hstored.trans ((fldGet_bit _ 0).trans ?_)
  rw [hset]
  simp

/-! ### The package cap (R378 to R382) -/

/-- What a cap-window boundary latches (R379). -/
def capLatched (s : State) : State :=
  { s with pwr := { s.pwr with einCap := s.pwr.ein, sumCap := s.pwr.sum, badCap := false, capAt := s.now } }

/-- Without the lock a boundary only latches (R379). -/
theorem capBoundary_unlocked {s : State} (h : s.locked = false) : capBoundary s = capLatched s :=
  if_neg (show ¬ (capLatched s).locked = true from ne_true_of_eq_false h)

/-- The shares of the window are due, and no report of it has come (R380). -/
def sharesAwaited (v : State) : State := { v with pwr := { v.pwr with due := true, sharesDue := true, got := [] } }

/-- An instance other than 0 sends its reading besides (R380). -/
def capReported (v : State) : State :=
  { sharesAwaited v with
    out := if v.inst = 0 then v.out else { v.out with reports := v.out.reports ++ [v.get PWR_SHARE.MEAS] } }

/-- Reporting keeps the registers; instance 0 only awaits the others' reports (R380). -/
theorem capReported_eq (v : State) : capReported v = if (sharesAwaited v).inst = 0 then sharesAwaited v else
    { sharesAwaited v with
      out := { (sharesAwaited v).out with reports := (sharesAwaited v).out.reports ++ [v.get PWR_SHARE.MEAS] } } := by
  unfold capReported
  by_cases hzero : v.inst = 0
  · rw [if_pos hzero, if_pos (show (sharesAwaited v).inst = 0 from hzero)]
    rfl
  · rw [if_neg hzero, if_neg (show ¬ (sharesAwaited v).inst = 0 from hzero)]
    rfl

/-- The share in use from a boundary on, with the reading of the window before it (R379 to R381). -/
def shareInUse (s : State) : State :=
  takeShare ((capLatched s).putOr PWR_SHARE.MEAS
    (windowPower (toSigned 64 (s.pwr.ein + 2 ^ 64 - s.pwr.einCap)) (s.pwr.sum - s.pwr.sumCap) s.pwr.badCap))

/-- With the lock the share is taken, the reading reported, and the stepper acts (R379 to R382). -/
theorem capBoundary_locked {s : State} (h : s.locked = true) : capBoundary s =
    capStep ((shareInUse s).get PWR_SHARE.MEAS) ((shareInUse s).get PWR_SHARE.SHARE) (capReported (shareInUse s)) := by
  have hshare (v : State) : (capReported v).get PWR_SHARE.SHARE = v.get PWR_SHARE.SHARE := rfl
  rw [← hshare, capReported_eq]
  exact if_pos (show (capLatched s).locked = true from h)

section Report

variable {k m : Nat} {s : State} (hinst : s.inst = 0) (hk : k ≠ 0)

include hinst hk

/-- A report within 10 µs of its boundary enters the table (R380). -/
theorem shareReport_timely (hm : m < 2 ^ 16) (htime : s.now % 80000 ≤ 8000) : ∃ t, t = shareReport k m s ∧
    t.get (PWR_SHTAB.M k) = m ∧ mapGet 0 t.pwr.got k = m ∧ s.KeepsBits t [PWR_SHTAB.M k] ∧
    { t with regs := s.regs, pwr := s.pwr } = s := by
  refine ⟨_, (if_pos ⟨hinst, hk, htime⟩).symm, ?_, mapGet_insert_same _ _ _ _ (mapErase_ne _ _),
    (KeepsBits.refl s).put (PWR_SHTAB.M k) m, rfl⟩
  exact (get_put_cut s (PWR_SHTAB.M k) m rfl).trans (Nat.mod_eq_of_lt hm)

omit hinst hk in
/-- A later one is not used (R381). -/
theorem shareReport_late (htime : 8000 < s.now % 80000) : shareReport k m s = s :=
  if_neg fun h => not_le.mpr htime h.2.2

end Report

/-- The value M of instance i that instance 0 has for this window: its own reading, or a report (R380). -/
def State.reported (s : State) (i : Nat) : Option Nat :=
  if i = 0 then some (s.get PWR_SHARE.MEAS) else (s.pwr.got.find? fun e => e.1 == i).map (·.2)

/-- The four values M, S for one that is missing (R380, R381). -/
def State.measures (s : State) : List Nat := (List.range 4).map fun i => (s.reported i).getD (s.get PWR_PKG.SMIN)

theorem measures_eq (s : State) : s.measures.length = 4 ∧ s.measures.getD 0 0 = s.get PWR_SHARE.MEAS ∧
    ∀ i, 1 ≤ i → i < 4 → s.measures.getD i 0 =
      ((s.pwr.got.find? fun x => x.1 == i).map (·.2)).getD (s.get PWR_PKG.SMIN) := by
  refine ⟨by simp [State.measures], by simp [State.measures, State.reported], fun i hlow hlt => ?_⟩
  have hi : i ≠ 0 := by omega
  simp [State.measures, State.reported, List.getD_eq_getElem?_getD, hlt, hi]

/-- The table of the values and the shares (R380). -/
def shareTable (shares : List Nat) (s : State) : State :=
  s.each (List.range 4) fun t i =>
    (t.put (PWR_SHTAB.M i) ((s.reported i).getD 0xFFFF)).put (PWR_SHTAB.SHARE i) (shares.getD i 0)

theorem pkgCap_adv (s : State) (e : Dword) : (s.advanceTo e).pkgCap = s.pkgCap := by
  rw [advanceTo_eq]
  rfl

theorem shareTable_out (shares : List Nat) (s : State) : (shareTable shares s).out = s.out :=
  each_field State.out _ _ _ fun _ _ => rfl

/-- What instance 0 sends to instance i with its share (R378, R380). -/
def shareMsg (shares : List Nat) (z : State) (i : Nat) : ShareMsg :=
  ⟨i, shares.getD i 0, z.pkgCap, z.rd PWR_PKG, z.rd PWR_PKG_BMC, z.bit PWR_CTRL.ENV_EN, z.get PWR_CTRL.PG⟩

/-- Instance 0 keeps its own share for the next window and sends the others theirs (R380). -/
def sharesSent (shares : List Nat) (total : Nat) (z : State) : State :=
  { z with
    pwr := { z.pwr with sharesDue := false, next := some (shares.getD 0 0), mEpoch := z.pwr.mEpoch + total }
    out := { z.out with shares := z.out.shares ++ [1, 2, 3].map (shareMsg shares z) } }

theorem shareCompute_due {s : State} (hinst : s.inst = 0) (hdue : s.pwr.sharesDue = true) {shares : List Nat}
    (hshares : shares = sharesOf s.pkgCap (s.get PWR_PKG.SMIN) s.measures) :
    shareCompute s = sharesSent shares s.measures.sum (shareTable shares s) := by
  subst hshares
  exact if_pos ⟨hinst, hdue⟩

theorem sharesSent_leaves (shares : List Nat) (total : Nat) (z : State) : ∃ t, t = sharesSent shares total z ∧
    t.pwr.next = some (shares.getD 0 0) ∧ t.pwr.sharesDue = false ∧
    (t.out.shares.drop z.out.shares.length).map (fun x => (x.dest, x.share, x.cap)) =
      [1, 2, 3].map fun i => (i, shares.getD i 0, t.pkgCap) := by
  refine ⟨_, rfl, rfl, rfl, ?_⟩
  rw [sharesSent, List.drop_left, List.map_map]
  rfl

/-- The terms of the cap as instance 0 sends them (R378). -/
def termsMirrored (m : ShareMsg) (s : State) : State :=
  ((s.put PWR_PKG_EFF.P m.cap).wr PWR_PKG m.pkg).wr PWR_PKG_BMC m.bmc

/-- The fields of PWR_CTRL that it sends with them (R378). -/
def ctrlMirrored (m : ShareMsg) (s : State) : State := (s.putB PWR_CTRL.ENV_EN m.envEn).put PWR_CTRL.PG m.pg

/-- The share is taken for the next window, with the mirrored terms (R380, R381). -/
def shareTaken (m : ShareMsg) (s : State) : State :=
  { (ctrlMirrored m (termsMirrored m s)).put PWR_STAT.SHARE_LOST 0 with
    pwr := { s.pwr with next := some m.share, missed := 0 } }

theorem shareReceive_other {s : State} (hinst : s.inst ≠ 0) (m : ShareMsg) : shareReceive m s = shareTaken m s :=
  if_neg hinst

/-- The terms read as they were sent (R378). -/
theorem termsMirrored_leaves {m : ShareMsg} (hcap : m.cap < 2 ^ 16) (s : State) :
    (termsMirrored m s).get PWR_PKG_EFF.P = m.cap ∧ (termsMirrored m s).rd PWR_PKG = m.pkg ∧
    (termsMirrored m s).rd PWR_PKG_BMC = m.bmc := by
  refine ⟨?_, (rd_wr_other _ _ _ _ (by decide)).trans (rd_wr_same _ _ _), rd_wr_same _ _ _⟩
  rw [termsMirrored, get_wr_other _ _ _ _ (by decide), get_wr_other _ _ _ _ (by decide), get_put_cut _ _ _ rfl]
  exact Nat.mod_eq_of_lt hcap

/-- The fields of PWR_CTRL read as they were sent, and every other register as before (R378). -/
theorem ctrlMirrored_leaves {m : ShareMsg} (hpg : m.pg < 2 ^ 4) (s : State) :
    (ctrlMirrored m s).get PWR_CTRL.ENV_EN = m.envEn.toNat ∧ (ctrlMirrored m s).get PWR_CTRL.PG = m.pg ∧
    ∀ a, a ≠ PWR_CTRL → (ctrlMirrored m s).rd a = s.rd a := by
  refine ⟨?_, (get_put_cut _ _ _ rfl).trans (Nat.mod_eq_of_lt hpg),
    fun a ha => (rd_put_other _ _ _ _ ha).trans (rd_put_other _ _ _ _ ha)⟩
  rw [ctrlMirrored, get_put_apart _ _ _ _ rfl, State.putB, get_put_cut _ _ _ rfl]
  exact Nat.mod_eq_of_lt (Bool.toNat_lt m.envEn)

theorem shareTaken_leaves {m : ShareMsg} (hcap : m.cap < 2 ^ 16) (hpg : m.pg < 2 ^ 4) (s : State) :
    ∃ t, t = shareTaken m s ∧ t.pwr.next = some m.share ∧ t.pwr.missed = 0 ∧ t.get PWR_PKG_EFF.P = m.cap ∧
    t.rd PWR_PKG = m.pkg ∧ t.rd PWR_PKG_BMC = m.bmc ∧ t.get PWR_CTRL.ENV_EN = m.envEn.toNat ∧ t.get PWR_CTRL.PG = m.pg ∧
    t.get PWR_STAT.SHARE_LOST = 0 := by
  obtain ⟨heff, hpkg, hbmc⟩ := termsMirrored_leaves hcap s
  obtain ⟨hen, hgen, hother⟩ := ctrlMirrored_leaves hpg (termsMirrored m s)
  have hregs : (shareTaken m s).regs = ((ctrlMirrored m (termsMirrored m s)).put PWR_STAT.SHARE_LOST 0).regs := rfl
  have hctrl {f : Fld} (hf : f.addr ≠ PWR_STAT) : (shareTaken m s).get f = (ctrlMirrored m (termsMirrored m s)).get f :=
    (get_of_regs hregs f).trans (get_put_reg _ _ _ _ hf)
  have hterm {a : Nat} (hctrl : a ≠ PWR_CTRL) (hstat : a ≠ PWR_STAT) :
      (shareTaken m s).rd a = (termsMirrored m s).rd a :=
    (rd_congr _ _ a hregs).trans ((rd_put_other _ _ _ _ hstat).trans (hother a hctrl))
  refine ⟨_, rfl, rfl, rfl, ?_, (hterm (by decide) (by decide)).trans hpkg, (hterm (by decide) (by decide)).trans hbmc,
    (hctrl (by decide)).trans hen, (hctrl (by decide)).trans hgen,
    (get_of_regs hregs _).trans (get_put_zero _ _ (by decide) (by decide))⟩
  rw [← heff, State.get, State.get, hterm (by decide) (by decide)]

/-! ### The Waybill (R389, R392) -/

/-- The end of an interval starts the next one: the remainder is carried, and all that an interval gathers is cleared. -/
theorem waybillEnd_leaves (fail : Option Nat) (s : State) : ∃ t, t = waybillEnd fail s ∧ t.wblGrp = [] ∧
    t.pwr.carry = s.intervalEnergy.2 ∧ t.pwr.badIvl = false ∧ t.pwr.capped = false ∧ t.pwr.unattain = false ∧
    t.pwr.boost = false ∧ t.pwr.lost = false ∧ t.pwr.legs = 0 :=
  ⟨_, rfl, rfl, rfl, rfl, rfl, rfl, rfl, rfl, rfl⟩

/-- Settles O29, clause by clause. A boundary is made only when it is due and not yet made (log entry 140), and a report
later than 8,000 ticks after its boundary is dropped (log entry 141). -/
theorem powerPolicyCommandsComplete : Obligations.PowerPolicyCommandsComplete := by
  refine ⟨fun req v s hp hinst hoff => ?enable, fun e s hchecking hgood hrun => ?good,
    fun e n s hchecking hn hfails hrun => ?bad, fun e n tt since s hmove hplain hdue ht hrun => ?up,
    fun req n v tt since u s hn hp hmove hu hack ht => ?down, fun req n v tt since u s hn hp hmove hu hack => ?waits,
    fun e n tt since s hmove hdue hrun => ?timeout, fun e s hrun => ?estimate, fun s => ⟨_, _, rfl, rfl, rfl⟩,
    fun n s h => estimateRegion_leaves h, fun e s hrun => ?calibration, fun req v s hp => ?commit,
    fun e s hrun => ?apply, fun s h => (coeffApply_commit h).symm ▸ coeffsCommitted_leaves s, fun e s hrun => ?boundary,
    fun s h => ⟨_, rfl, ?unlocked⟩, fun s h => ⟨_, _, rfl, rfl, capBoundary_locked h⟩,
    fun e k m s hinst hk hrun => ?report, fun e s hinst hdue hrun => ?compute,
    fun e share cap pkg bmc envEn pg s hinst hrun => ?receive, fun e fail s hrun => ?interval,
    fun fail s => waybillEnd_leaves fail s⟩
  case enable =>
    obtain ⟨hchecking, hkeeps⟩ := ctrlFollows_leaves (checkStarted (storeReg PWR_CTRL (v ||| 1) s))
    have hstarted : (storeReg PWR_CTRL (v ||| 1) s).KeepsBits (checkStarted (storeReg PWR_CTRL (v ||| 1) s))
        [PWR_CTRL.OP_EN] := (KeepsBits.refl _).put PWR_CTRL.OP_EN 0
    refine completes_permitted rfl hp (pwrCtrlWrite_checks hinst (fldGet_or_one v) hoff) ⟨_, rfl, ?_, hchecking, ?_⟩
    · exact (hkeeps.get _ (by decide)).trans (get_put_zero _ _ (by decide) (by decide))
    · exact (hstarted.mono (by simp)).trans (hkeeps.mono (by simp))
  case good =>
    refine completes_running rfl hrun (opValidate_good (by rw [advanceTo_pwr, hchecking]) fun n hn => ?_)
      ⟨get_put_one _ _ (by decide) (by decide), rfl, ?_⟩
    · rw [opTableOk_of_regs (adv_regs s e)]
      exact hgood n (opRegions_of_regs (adv_regs s e) ▸ hn)
    · exact KeepsBits.put (u := s) (adv_keeps s e) PWR_CTRL.OP_EN 1
  case bad =>
    obtain ⟨t, ht, herr, hrgn, hevt, hen, hend, hport, hkeeps⟩ := opFailed_leaves hn (s.advanceTo e)
    refine completes_running rfl hrun ((opValidate_bad (by rw [advanceTo_pwr, hchecking]) ?_).trans ht.symm)
      ⟨herr, hrgn, hevt, hen.trans (advanceTo_get s e _), hend, by rwa [advanceTo_pst] at hport,
        ((adv_keeps s e).mono (by simp)).trans hkeeps⟩
    rw [opRegions_of_regs (adv_regs s e)]
    simpa only [opTableOk_of_regs (adv_regs s e)] using hfails
  case up =>
    obtain ⟨t, ht', hpoint, hnone, hsome, hzero, hkeeps⟩ :=
      moveUpEnded_leaves ht n (s.get (PWR_OP.FMHZ n tt)) (s.advanceTo e)
    refine completes_running rfl hrun ((moveUpDone_reached (by rwa [prgn_adv]) ?_ hdue).trans ?_)
      ⟨hpoint, hnone, hsome, fun h => (hzero h).trans (advanceTo_get s e _),
        ((adv_keeps s e).mono (by simp)).trans hkeeps⟩
    · exact (view_of_regs (State.profiled · n.val) (fun _ => rfl) (adv_regs s e)).trans hplain
    · rw [advanceTo_get, ht']
  case down =>
    obtain ⟨hpoint, hpend, hframe⟩ :=
      moveDownEnded_leaves ht n (policyVset n tt (u.setPrgn n { s.prgn n with move := none }))
    exact completes_skidWrite rfl hn hp (freqAck_completes hmove hu hack) ⟨_, rfl, hpoint, hpend, hframe⟩
  case waits => exact completes_skidWrite rfl hn hp (freqAck_waits hmove hu hack) rfl
  case timeout =>
    obtain ⟨t, ht, hfto, hevt, hport, hrgn, hkeeps⟩ := ackTimedOut_leaves n (s.advanceTo e)
    refine completes_running rfl hrun ((ackTimeout_due (by rwa [prgn_adv]) (by rwa [advanceTo_get])).trans ht.symm)
      ⟨hfto, hevt, by rwa [advanceTo_pst] at hport, hrgn.trans (advanceTo_pwrRgn s e),
        ((adv_keeps s e).mono (by simp)).trans hkeeps⟩
  case estimate =>
    exact completes_boundary (due := fun z => z.boundaryDue 800 z.pwr.estAt) rfl hrun
  case calibration =>
    exact completes_running rfl hrun rfl ⟨_, rfl, fun h => if_pos h, fun h => if_neg (ne_true_of_eq_false h),
      pwrEvent_sets _ _ _ (by decide) (by decide)⟩
  case commit => exact completes_permitted rfl hp rfl ⟨rfl, storeReg_PWR_CAL_commit v s⟩
  case apply =>
    exact completes_running rfl hrun rfl ⟨_, rfl, fun h => if_pos h, fun hearly hfresh =>
      if_neg fun hdue => hdue.elim (ne_true_of_eq_false hearly) hfresh⟩
  case boundary =>
    exact completes_boundary (due := fun z => z.boundaryDue 80000 z.pwr.capAt) rfl hrun
  case unlocked =>
    rw [capBoundary_unlocked h]
    exact ⟨rfl, rfl, rfl, rfl, rfl⟩
  case report =>
    refine completes_running rfl hrun rfl ⟨_, rfl, fun htime => ?_, fun htime => shareReport_late htime⟩
    obtain ⟨t, ht, hleaves⟩ := shareReport_timely ((inst_adv s e).trans hinst) hk m.isLt htime
    exact ht ▸ hleaves
  case compute =>
    obtain ⟨hlen, hown, hothers⟩ := measures_eq s
    have hmeasures : (s.advanceTo e).measures = s.measures := by
      simp only [State.measures, State.reported, advanceTo_get, advanceTo_pwr]
    have hshares : sharesOf s.pkgCap (s.get PWR_PKG.SMIN) s.measures =
        sharesOf (s.advanceTo e).pkgCap ((s.advanceTo e).get PWR_PKG.SMIN) (s.advanceTo e).measures := by
      rw [pkgCap_adv, advanceTo_get, hmeasures]
    obtain ⟨t, ht, hnext, hdone, hsent⟩ := sharesSent_leaves (sharesOf s.pkgCap (s.get PWR_PKG.SMIN) s.measures)
      (s.advanceTo e).measures.sum (shareTable (sharesOf s.pkgCap (s.get PWR_PKG.SMIN) s.measures) (s.advanceTo e))
    have hout : (shareTable (sharesOf s.pkgCap (s.get PWR_PKG.SMIN) s.measures) (s.advanceTo e)).out = s.out :=
      (shareTable_out _ _).trans (advanceTo_out s e)
    rw [hout] at hsent
    exact completes_running rfl hrun
      ((shareCompute_due ((inst_adv s e).trans hinst) (by rwa [advanceTo_pwr]) hshares).trans ht.symm)
      ⟨s.measures, hlen, hown, hothers, hnext, hdone, hsent⟩
  case receive =>
    obtain ⟨t, ht, hleaves⟩ := shareTaken_leaves
      (m := ⟨s.inst, share.toNat, cap.toNat, pkg, bmc &&& 0xFFFF, envEn, pg.val⟩) cap.isLt pg.isLt (s.advanceTo e)
    have hother : (s.advanceTo e).inst ≠ 0 := by rwa [inst_adv]
    exact completes_running rfl hrun ((shareReceive_other hother _).trans ht.symm) hleaves
  case interval => exact completes_boundary (due := fun z => z.boundaryDue z.ivlLength z.pwr.ivlStart) rfl hrun

end Sys2Proof.Machine

/-! What a PMBus transaction answers and latches (R626 to R630). -/

namespace Sys2Proof.Machine

open State

/-! ### How a transaction runs, and the bytes of a reply (R627) -/

/-- Out of power-on reset the target answers. -/
theorem completes_smb {i : Instr} {k : State → State} {s u : State} {post : State → Prop}
    (hexec : exec i s = .next (smbDo k s)) (hpor : s.rst.por = false) (hact : k s = u) (hpost : post u) :
    Completes i s post :=
  ⟨u, hexec.trans (congrArg Host.Outcome.next ((smbDo_of hpor).trans hact)), hpost⟩

theorem smbBytes_one (v : Nat) : smbBytes 1 v = [BitVec.ofNat 32 (v % 256)] := by
  simp [smbBytes]

theorem smbBytes_two (v : Nat) : smbBytes 2 v = [BitVec.ofNat 32 (v % 256), BitVec.ofNat 32 (v / 256 % 256)] := by
  simp [smbBytes, List.range_succ]

theorem smbBytes_length (n v : Nat) : (smbBytes n v).length = n := by
  simp [smbBytes]

/-- A transaction that answers one byte. -/
theorem completes_byte {i : Instr} {k : State → State} {s u : State} {v : Nat}
    (hexec : exec i s = .next (smbDo k s)) (hpor : s.rst.por = false) (hact : k s = u.answer (smbBytes 1 v)) :
    Completes i s fun t => t = u.answer [BitVec.ofNat 32 (v % 256)] :=
  completes_smb hexec hpor hact (congrArg u.answer (smbBytes_one v))

/-- A transaction that answers two bytes. -/
theorem completes_word {i : Instr} {k : State → State} {s u : State} {v : Nat}
    (hexec : exec i s = .next (smbDo k s)) (hpor : s.rst.por = false) (hact : k s = u.answer (smbBytes 2 v)) :
    Completes i s fun t => t = u.answer [BitVec.ofNat 32 (v % 256), BitVec.ofNat 32 (v / 256 % 256)] :=
  completes_smb hexec hpor hact (congrArg u.answer (smbBytes_two v))

/-! ### The summary bits of STATUS_WORD (R629) -/

/-- The sum of the weights of the flags that are set. -/
def flagSum (l : List (Bool × Nat)) : Nat := (l.map fun x => if x.1 then 2 ^ x.2 else 0).sum

/-- Flags at falling places below k weigh less than 2^k together. -/
theorem flagSum_lt {l : List (Bool × Nat)} (hfalls : l.Pairwise fun x y => y.2 < x.2) {k : Nat}
    (hk : ∀ x ∈ l, x.2 < k) :
    flagSum l < 2 ^ k := by
  induction l generalizing k with
  | nil => exact Nat.two_pow_pos k
  | cons x l ih =>
    obtain ⟨hbelow, hrest⟩ := List.pairwise_cons.mp hfalls
    have htail : flagSum l < 2 ^ x.2 := ih hrest hbelow
    have hhead : (if x.1 then 2 ^ x.2 else 0) ≤ 2 ^ x.2 := by split <;> simp
    calc flagSum (x :: l) = (if x.1 then 2 ^ x.2 else 0) + flagSum l := by simp [flagSum]
      _ < 2 ^ (x.2 + 1) := by rw [Nat.pow_succ]; omega
      _ ≤ 2 ^ k := Nat.pow_le_pow_right (by decide) (hk x List.mem_cons_self)

/-- Each of them is the bit of the sum at its own place. -/
theorem bitOf_flagSum {l : List (Bool × Nat)} (hfalls : l.Pairwise fun x y => y.2 < x.2) {b : Bool} {k : Nat}
    (hmem : (b, k) ∈ l) : bitOf (flagSum l) k = b := by
  rw [bitOf_eq_testBit]
  induction l with
  | nil => exact absurd hmem List.not_mem_nil
  | cons x l ih =>
    obtain ⟨hbelow, hrest⟩ := List.pairwise_cons.mp hfalls
    have hsplit : flagSum (x :: l) = 2 ^ x.2 * x.1.toNat + flagSum l := by cases h : x.1 <;> simp [flagSum, h]
    rw [hsplit, Nat.testBit_two_pow_mul_add _ (flagSum_lt hrest hbelow)]
    rcases List.mem_cons.mp hmem with rfl | hmem
    · cases b <;> simp
    · rw [if_pos (hbelow _ hmem), ih hrest hmem]

/-- The conditions that STATUS_WORD sums up, with their bits (R629). -/
def State.statusFlags (s : State) : List (Bool × Nat) :=
  [(s.smb.vout != 0, 15), (s.smb.iout != 0, 14), (s.smb.input != 0, 13), (s.smb.mfr != 0, 12),
    (!s.bit XPH_STAT.PG, 11), (s.fsState != 2, 6), (bitOf s.smb.vout 7, 5), (bitOf s.smb.iout 7, 4),
    (bitOf s.smb.input 4, 3), (s.smb.temp != 0, 2), (s.smb.cml != 0, 1)]

theorem statusWord_eq (s : State) : s.statusWord = flagSum s.statusFlags := by
  simp only [State.statusWord, flagSum, State.statusFlags, List.map_cons, List.map_nil, List.sum_cons, List.sum_nil]
  omega

/-- A summary bit is set exactly when its condition holds (R629). -/
theorem bitOf_statusWord {s : State} {b : Bool} {k : Nat} (h : (b, k) ∈ s.statusFlags) : bitOf s.statusWord k = b := by
  rw [statusWord_eq]
  exact bitOf_flagSum (by simp [State.statusFlags]) h

theorem statusWord_summary (s : State) :
    (s.smb.cml ≠ 0 ↔ bitOf s.statusWord 1 = true) ∧ (s.smb.temp ≠ 0 ↔ bitOf s.statusWord 2 = true) ∧
    (s.fsState ≠ 2 ↔ bitOf s.statusWord 6 = true) ∧ (s.get XPH_STAT.PG = 0 ↔ bitOf s.statusWord 11 = true) ∧
    (s.smb.mfr ≠ 0 ↔ bitOf s.statusWord 12 = true) ∧ (s.smb.input ≠ 0 ↔ bitOf s.statusWord 13 = true) ∧
    (s.smb.iout ≠ 0 ↔ bitOf s.statusWord 14 = true) ∧ (s.smb.vout ≠ 0 ↔ bitOf s.statusWord 15 = true) := by
  have hnonzero {v k : Nat} (h : (v != 0, k) ∈ s.statusFlags) : v ≠ 0 ↔ bitOf s.statusWord k = true := by
    rw [bitOf_statusWord h, bne_iff_ne]
  have hstate : bitOf s.statusWord 6 = (s.fsState != 2) := bitOf_statusWord (by simp [State.statusFlags])
  have hgood : bitOf s.statusWord 11 = !s.bit XPH_STAT.PG := bitOf_statusWord (by simp [State.statusFlags])
  refine ⟨hnonzero (by simp [State.statusFlags]), hnonzero (by simp [State.statusFlags]), ?_, ?_,
    hnonzero (by simp [State.statusFlags]), hnonzero (by simp [State.statusFlags]),
    hnonzero (by simp [State.statusFlags]), hnonzero (by simp [State.statusFlags])⟩
  · rw [hstate, bne_iff_ne]
  · rw [hgood, State.bit]
    simp

/-! ### Data formats (R628) -/

/-- The rounded quotient is the nearest integer, halves upwards. -/
theorem roundHalfUp_bounds (num : Int) {den : Nat} (hden : 0 < den) :
    2 * num - den < 2 * den * roundHalfUp num den ∧ 2 * den * roundHalfUp num den ≤ 2 * num + den := by
  have hpos : (0 : Int) < ((2 * den : Nat) : Int) := by omega
  have hq : roundHalfUp num den = (2 * num + den) / ((2 * den : Nat) : Int) :=
    Int.fdiv_eq_ediv_of_nonneg _ hpos.le
  have hlow := Int.lt_ediv_add_one_mul_self (2 * num + den) hpos
  have hhigh := Int.ediv_mul_le (2 * num + den) hpos.ne'
  rw [← hq] at hlow hhigh
  push_cast at hlow hhigh
  constructor <;> linarith

theorem roundHalfUp_nonneg (num : Nat) {den : Nat} (hden : 0 < den) : 0 ≤ roundHalfUp num den := by
  obtain ⟨hlow, -⟩ := roundHalfUp_bounds num hden
  by_contra hneg
  have : 2 * (den : Int) * roundHalfUp num den ≤ 2 * den * (-1) := by
    exact mul_le_mul_of_nonneg_left (by omega) (by omega)
  omega

/-- A LINEAR11 word has the least exponent of the range for which the mantissa fits (R628). -/
theorem linear11_some {num : Int} {den : Nat} {lo hi : Int} {w : Nat} (h : linear11 num den lo hi = some w) :
    ∃ n, lo ≤ n ∧ n ≤ hi ∧ -1024 ≤ linearY num den n ∧ linearY num den n ≤ 1023 ∧
      w = ofSigned 5 n * 2 ^ 11 + ofSigned 11 (linearY num den n) ∧
      ∀ k, lo ≤ k → k < n → ¬ (-1024 ≤ linearY num den k ∧ linearY num den k ≤ 1023) := by
  obtain ⟨n, hfind, hw⟩ := Option.map_eq_some_iff.mp h
  rw [List.find?_map] at hfind
  obtain ⟨i, hfirst, rfl⟩ := Option.map_eq_some_iff.mp hfind
  obtain ⟨hfits, hrange, hleast⟩ := List.find?_range_eq_some.mp hfirst
  have hi' : i < (hi - lo + 1).toNat := List.mem_range.mp hrange
  simp only [Function.comp_apply, Bool.and_eq_true, decide_eq_true_eq] at hfits
  obtain ⟨hmin, hmax⟩ := hfits
  refine ⟨lo + i, by omega, by omega, hmin, hmax, hw.symm, fun k hlow hlt hk => ?_⟩
  have hnot := hleast (k - lo).toNat (by omega)
  rw [Function.comp_apply, show lo + ((k - lo).toNat : Int) = k by omega] at hnot
  simp [hk.1, hk.2] at hnot

/-! ### Readings (R628) -/

/-- Outside it two bytes of no stated value are answered, and no register changes (log entry 8). -/
theorem replyLinear_none (s : State) : ∃ b0 b1 : Word, (replyLinear none s).rdata = [b0, b1] ∧
    (replyLinear none s).regs = s.regs :=
  ⟨_, _, smbBytes_two _, rfl⟩

section Linear

variable {i : Instr} {r : State → Option Nat} {s : State}
  (hexec : exec i s = .next (smbDo (fun s => replyLinear (r s) s) s))

include hexec

/-- A reading in the range of its command. -/
theorem completes_linear {w : Nat} (hr : r s = some w) (hpor : s.rst.por = false) :
    Completes i s fun t => t = s.answer [BitVec.ofNat 32 (w % 256), BitVec.ofNat 32 (w / 256 % 256)] :=
  completes_word hexec hpor (congrArg (replyLinear · s) hr)

/-- A reading outside it. -/
theorem completes_unstated (hr : r s = none) (hpor : s.rst.por = false) :
    Completes i s fun t => ∃ b0 b1 : Word, t.rdata = [b0, b1] ∧ t.regs = s.regs :=
  completes_smb hexec hpor (congrArg (replyLinear · s) hr) (replyLinear_none s)

end Linear

/-- The largest value is answered. -/
theorem replyHottest_max {l : List Int} {x : Int} (hmem : x ∈ l) (hmax : ∀ y ∈ l, y ≤ x) (den : Nat) (s : State) :
    replyHottest l den s = replyLinear (linear11 x den (-4) 0) s := by
  cases l with
  | nil => exact absurd hmem List.not_mem_nil
  | cons t ts =>
    have hlargest : ts.foldl max t = x :=
      Option.some.inj (List.max?_cons'.symm.trans (List.max?_eq_some_iff.mpr ⟨hmem, hmax⟩))
    rw [replyHottest, hlargest]

section Hottest

variable {i : Instr} {l : State → List Int} {den : Nat} {s : State}
  (hexec : exec i s = .next (smbDo (fun s => replyHottest (l s) den s) s)) (hpor : s.rst.por = false)

include hexec hpor

/-- With nothing to read there is no stated value. -/
theorem completes_hottest_none (hnone : l s = []) :
    Completes i s fun t => ∃ b0 b1 : Word, t.rdata = [b0, b1] ∧ t.regs = s.regs :=
  completes_smb hexec hpor (congrArg (replyHottest · den s) hnone) (replyLinear_none s)

/-- The hottest reading is answered. -/
theorem completes_hottest {x : Int} (hmem : x ∈ l s) (hmax : ∀ y ∈ l s, y ≤ x) {w : Nat}
    (hw : linear11 x den (-4) 0 = some w) :
    Completes i s fun t => t = s.answer [BitVec.ofNat 32 (w % 256), BitVec.ofNat 32 (w / 256 % 256)] :=
  completes_word hexec hpor ((replyHottest_max hmem hmax den s).trans (congrArg (replyLinear · s) hw))

end Hottest

/-- READ_VOUT answers VIM in volts times 4,096, rounded (R628). -/
theorem completes_readVout {s : State} (hpor : s.rst.por = false) : Completes .readVout s fun t => ∃ v : Nat,
    (v : Int) = roundHalfUp (128 * s.get XPH_VIM.VIM : Nat) 25 ∧
    t = s.answer [BitVec.ofNat 32 (v % 256), BitVec.ofNat 32 (v / 256 % 256)] := by
  obtain ⟨v, hv⟩ := Int.eq_ofNat_of_zero_le (roundHalfUp_nonneg (128 * s.get XPH_VIM.VIM) (den := 25) (by decide))
  obtain ⟨t, hexec, ht⟩ := completes_word (i := .readVout) (v := v) rfl hpor (by rw [hv]; rfl)
  exact ⟨t, hexec, v, hv.symm, ht⟩

/-! ### The alert (R629, R630) -/

/-- Bringing the sub-status up to date changes nothing else. -/
theorem smbFresh_eq (s : State) : smbFresh s = { s with smb := (smbFresh s).smb } := by
  unfold smbFresh
  split <;> rfl

/-- A latched bit of STATUS_CML stands (R629). -/
theorem cmlLatch_bit (b : Nat) (s : State) : bitOf (cmlLatch b s).smb.cml b = true :=
  (bitOf_eq_testBit _ _).trans (testBit_setBitN s.smb.cml b)

/-- The target that drives the alert answers its address and drops it (R630). -/
theorem alertDriven_iff (s : State) : s.smbAlert = true ↔ s.smb.alert = true ∧ s.get MCH_SMB.ALERT_EN ≠ 0 := by
  simp [State.smbAlert, State.bit]

/-- Settles O47, transaction by transaction. CLEAR_FAULTS keeps the alert and block replies carry no count (log entry
101); a reading outside the range of its command is a free value (log entry 8); instance reset holds PWR_PKG_BMC (log
entry 21). -/
theorem pmbusTransactionsComplete : Obligations.PmbusTransactionsComplete := by
  refine ⟨fun p s => ⟨fun hp hpor => completes_smb rfl hpor (if_pos hp) rfl,
      fun hp hpor => completes_smb rfl hpor (if_neg hp) rfl⟩,
    fun s hpor => completes_smb rfl hpor rfl rfl, fun s hpor => completes_smb rfl hpor rfl rfl,
    fun s hpor => completes_smb rfl hpor rfl rfl, fun s hpor => completes_smb rfl hpor rfl rfl,
    fun s hpor => completes_smb rfl hpor rfl rfl, fun s hpor => completes_smb rfl hpor rfl rfl,
    fun s hpor => completes_smb rfl hpor rfl ⟨rfl, rfl⟩, fun s u hu => ?status, fun s u hu => ?sub,
    statusWord_summary, fun num den hden => roundHalfUp_bounds num hden, fun num den lo hi w h => linear11_some h,
    fun s w h hpor => completes_linear rfl h hpor,
    fun s => ⟨fun w h hpor => completes_linear rfl h hpor, fun h hpor => completes_unstated rfl h hpor⟩,
    fun s hpor => completes_readVout hpor, fun s w h hpor => completes_linear rfl h hpor,
    fun s => ⟨fun w h hpor => completes_linear rfl h hpor, fun h hpor => completes_unstated rfl h hpor⟩,
    fun s l hl => ?groups, fun s l hl => ?phases, fun v s hpor => ?cap, fun s v hv hpor => ?capRead,
    fun s hpor => completes_smb rfl hpor rfl rfl, fun s hpor => completes_smb rfl hpor rfl rfl,
    fun s hpor => completes_smb rfl hpor rfl ⟨rfl, smbBytes_length _ _⟩,
    fun f s hpor => completes_smb rfl hpor rfl ⟨_, rfl, cmlLatch_bit _ s, rfl, rfl⟩, fun s u hu => ?alert⟩
  case status =>
    subst hu
    exact ⟨fun hpor => completes_byte rfl hpor rfl, fun hpor => completes_word rfl hpor rfl⟩
  case sub =>
    subst hu
    exact ⟨fun hpor => completes_byte rfl hpor rfl, fun hpor => completes_byte rfl hpor rfl,
      fun hpor => completes_byte rfl hpor rfl, fun hpor => completes_byte rfl hpor rfl,
      fun hpor => completes_byte rfl hpor rfl, fun hpor => completes_byte rfl hpor rfl⟩
  case groups =>
    subst hl
    exact ⟨fun hnone hpor => completes_hottest_none rfl hpor hnone,
      fun x hmem hmax w h hpor => completes_hottest rfl hpor hmem hmax h⟩
  case phases =>
    subst hl
    exact ⟨fun hnone hpor => completes_hottest_none rfl hpor hnone,
      fun x hmem hmax w h hpor => completes_hottest rfl hpor hmem hmax h⟩
  case cap =>
    exact ⟨fun hinst hrun => completes_smb rfl hpor ((if_pos hinst).trans (running_of hrun _)) rfl,
      fun hinst hheld => completes_smb rfl hpor ((if_pos hinst).trans (running_held hheld _)) rfl,
      fun hinst => completes_smb rfl hpor (if_neg hinst) rfl⟩
  case capRead =>
    subst hv
    exact completes_word rfl hpor rfl
  case alert =>
    have hfresh : u = { s with smb := u.smb } := hu ▸ smbFresh_eq s
    refine ⟨fun halert hen hpor => ?_, fun hquiet hpor => ?_⟩
    · have hdriven : (smbFresh s).smbAlert = true := hu ▸ (alertDriven_iff u).mpr ⟨halert, by rw [hen]; decide⟩
      subst hu
      refine completes_smb rfl hpor (if_pos hdriven) ⟨rfl, ?_, rfl⟩
      rw [hfresh]
      rfl
    · have hidle : ¬ (smbFresh s).smbAlert = true := fun h => by
        obtain ⟨halert, hen⟩ := (alertDriven_iff _).mp h
        rw [hu] at hquiet
        exact hquiet.elim (ne_false_of_eq_true halert) hen
      exact completes_smb rfl hpor (if_neg hidle) hu.symm

end Sys2Proof.Machine

/-! PROOFS of the model's own frame: the step on a waiting command, what every command keeps, and the state after reset. -/

namespace Sys2Proof.Machine

open State

/-- Settles O1. -/
theorem stepRunsFront : Obligations.StepRunsFront := by
  intro c s rest hfront
  rw [step, hfront]

/-- Settles O5: `Keeps` says both of every command (log entries 1 and 8). -/
theorem commandsLeaveTheQueueAndFreshFreeValues : Obligations.CommandsLeaveTheQueueAndFreshFreeValues := by
  intro c s
  obtain ⟨t, hexec, hkeeps⟩ := exec_keeps s c
  exact ⟨t, hexec, hkeeps.pending, hkeeps.free⟩

/-- After reset every register reads its reset word. -/
theorem reset_rd (a : Nat) : State.reset.rd a = regReset a := rfl

/-- The tables of the cells define no word at 0x0C but CELL_STAT, and its reset word is 0: PARKED (R97). -/
theorem regReset_CELL_STAT {c : Nat} (hc : c < 3072) : regReset (CELL_STAT c) = 0 := by
  have hspecial : specialReset (CELL_STAT c) = none := by
    unfold specialReset CELL_STAT
    simp (disch := (try simp only [SNS_MASK_LO, SNS_MASK_HI, SNS_RES, THM_GMAP_HI, THM_GMAP_LO, PST_SRC_CFG, MCH_CH_CFG]
                    omega)) only [if_neg]
  have hdef : ∃ r, regDef? (CELL_STAT c) = some r ∧ r.reset = 0 := by
    unfold regDef? tableOf CELL_STAT
    simp (disch := omega) only [if_neg, if_pos]
    simp (disch := (simp only [RegDef.covers, Bool.and_eq_true, decide_eq_true_eq]; omega)) only
      [tableCELL, tableCELL1, List.cons_append, List.find?_cons_of_neg, List.find?_cons_of_pos]
    exact ⟨_, rfl, rfl⟩
  obtain ⟨r, hr, hzero⟩ := hdef
  simp [regReset, hspecial, hr, hzero]

/-- The reset words of a region's set-point and of its recorded minimum (R129, R155). -/
theorem regReset_setpoint_minimum : ∀ n : RegionIx, 1 ≤ n.val →
    fldGet (regReset (RGN_VSET n)) 8 0 = 40 ∧ regReset (VSN_MINV n) = 0x7FF := by decide +kernel

/-- Settles O6. That the memories, the fuses and what stands beside the window read 0 after reset is the model's choice of
`State.reset` (log entries 10, 11 and 12). -/
theorem resetStateIsCanonical : Obligations.ResetStateIsCanonical := by
  refine ⟨rfl, rfl, rfl, rfl, rfl, rfl, rfl, regReset_setpoint_minimum, rfl, rfl, fun c => ?_, regReset_RGN_STAT_off⟩
  change fldGet (State.reset.rd (CELL_STAT c)) 2 0 = 0
  rw [reset_rd, regReset_CELL_STAT c.isLt]
  rfl

end Sys2Proof.Machine

/-! PROOFS of the family spec/20_mail_coach.md. What the accesses to a mail channel leave, each after a fill that is over has
ended (R608). -/

namespace Sys2Proof.Machine

open State

/-! ### The end of a fill (R608) -/

/-- The registers of a channel at different places are different registers, and no global register of Mail Coach. -/
theorem mailReg_ne {o o' c d : Nat} (h : o % 0x80 ≠ o' % 0x80) : o + 0x80 * c ≠ o' + 0x80 * d := by omega

theorem mailReg_ne_low {a o c : Nat} (h : a < o) : o + 0x80 * c ≠ a := by omega

/-- EMPTY leaves no owner, and no start of a fill (R606). -/
theorem chEmpty_leaves (c : Nat) (s : State) :
    (chEmpty c s).chState c = 0 ∧ (chEmpty c s).get (MCH_CH_STAT.OWNER c) = 0 ∧ (chEmpty c s).mch = mapSet 0 s.mch c 0 ∧
      s.KeepsBits (chEmpty c s) [MCH_CH_STAT.STATE c, MCH_CH_STAT.OWNER c] := by
  unfold chEmpty chState
  have hkeeps : s.KeepsBits ((s.put (MCH_CH_STAT.STATE c) 0).put (MCH_CH_STAT.OWNER c) 0)
      [MCH_CH_STAT.STATE c, MCH_CH_STAT.OWNER c] := (((KeepsBits.refl s).put _ _).put _ _).mono (by simp)
  refine ⟨?_, ?_, rfl, hkeeps.of_regs rfl⟩
  · rw [get_with_mch, get_put_apart _ _ _ _ rfl, get_put_fit _ _ _ rfl]
  · rw [get_with_mch, get_put_fit _ _ _ rfl]

/-- A channel that is not FILLING, or not long enough, stays as it is (R608). -/
theorem fillTimeout_stands {c : Nat} {s : State} (h : s.chState c ≠ 1 ∨ s.now < s.fillEnd c) : fillTimeout c s = s :=
  if_neg fun ⟨hfilling, hover⟩ => h.elim (fun hne => hne hfilling) (Nat.not_lt.mpr hover)

/-- A fill that is over returns the channel to EMPTY and is counted (R608). -/
theorem fillTimeout_over {c : Nat} {s : State} (hfilling : s.chState c = 1) (hover : s.fillEnd c ≤ s.now) :
    fillTimeout c s = ((chEmpty c s).put MCH_STAT.FILL_EXP 1).incSat MCH_CNT.FILL_EXP := if_pos ⟨hfilling, hover⟩

theorem fillTimeout_over_leaves {c : Nat} {s : State} (hfilling : s.chState c = 1) (hover : s.fillEnd c ≤ s.now) :
    (fillTimeout c s).chState c = 0 ∧ (fillTimeout c s).get (MCH_CH_STAT.OWNER c) = 0 ∧
      (fillTimeout c s).get MCH_STAT.FILL_EXP = 1 ∧
      (fillTimeout c s).get MCH_CNT.FILL_EXP = min (s.get MCH_CNT.FILL_EXP + 1) 65535 ∧
      s.KeepsBits (fillTimeout c s)
        [MCH_CH_STAT.STATE c, MCH_CH_STAT.OWNER c, MCH_STAT.FILL_EXP, MCH_CNT.FILL_EXP] := by
  obtain ⟨hstate, howner, -, hkeeps⟩ := chEmpty_leaves c s
  have hlow : ∀ a, a < 0x2104c → MCH_CH_STAT c ≠ a := fun a ha => mailReg_ne_low ha
  have hget (f : Fld) (hf : f.addr = MCH_CH_STAT c) :
      (((chEmpty c s).put MCH_STAT.FILL_EXP 1).incSat MCH_CNT.FILL_EXP).get f = (chEmpty c s).get f := by
    unfold incSat addSat
    rw [get_put_reg _ _ _ _ (hf ▸ hlow _ (by decide)), get_put_reg _ _ _ _ (hf ▸ hlow _ (by decide))]
  have hcount : ((chEmpty c s).put MCH_STAT.FILL_EXP 1).get MCH_CNT.FILL_EXP = s.get MCH_CNT.FILL_EXP := by
    rw [get_put_reg _ _ _ _ (by decide)]
    exact hkeeps.get _ (by simp only [List.forall_mem_cons]; exact ⟨.inl (hlow _ (by decide)).symm, .inl (hlow _ (by decide)).symm, by simp⟩)
  rw [fillTimeout_over hfilling hover]
  refine ⟨(hget _ rfl).trans hstate, (hget _ rfl).trans howner, ?_, ?_, ((hkeeps.put _ _).put _ _).mono (by simp)⟩
  · unfold incSat addSat
    rw [get_put_reg _ _ _ _ (by decide), get_put_fit _ _ _ rfl]
  · unfold incSat addSat
    rw [get_put_cut _ _ _ rfl, hcount]
    simp only [MCH_CNT.FILL_EXP]
    omega

/-- The end of a fill leaves every register but the status of its channel and the two counts of MCH. -/
theorem fillTimeout_get {c : Nat} (f : Fld) (hstat : f.addr ≠ MCH_CH_STAT c) (hevent : f.addr ≠ MCH_STAT)
    (hcount : f.addr ≠ MCH_CNT) (s : State) : (fillTimeout c s).get f = s.get f := by
  unfold fillTimeout incSat addSat chEmpty
  split
  · rw [get_put_reg _ _ _ _ hcount, get_put_reg _ _ _ _ hevent, get_with_mch, get_put_reg _ _ _ _ hstat,
      get_put_reg _ _ _ _ hstat]
  · rfl

@[simp] theorem fillTimeout_rst (c : Nat) (s : State) : (fillTimeout c s).rst = s.rst := by
  unfold fillTimeout
  split <;> rfl

@[simp] theorem fillTimeout_now (c : Nat) (s : State) : (fillTimeout c s).now = s.now := by
  unfold fillTimeout
  split <;> rfl

/-- It does not touch whether the channel is enabled. -/
theorem fillTimeout_get_EN (c : Nat) (s : State) : (fillTimeout c s).get (MCH_CH_CFG.EN c) = s.get (MCH_CH_CFG.EN c) :=
  fillTimeout_get _ (mailReg_ne (by decide)) (mailReg_ne_low (by decide)) (mailReg_ne_low (by decide)) s

/-! ### The claim (R606, R607) -/

/-- What a claim of an enabled EMPTY channel leaves (R606). -/
def chClaimed (req : Requester) (c : Nat) (s : State) : State :=
  { (s.put (MCH_CH_STAT.STATE c) 1).put (MCH_CH_STAT.OWNER c) req.code with mch := mapSet 0 s.mch c s.now }

theorem chClaimed_leaves (req : Requester) (c : Nat) (s : State) :
    (chClaimed req c s).chState c = 1 ∧ (chClaimed req c s).get (MCH_CH_STAT.OWNER c) = req.code % 16 ∧
      mapGet 0 (chClaimed req c s).mch c = s.now ∧
      s.KeepsBits (chClaimed req c s) [MCH_CH_STAT.STATE c, MCH_CH_STAT.OWNER c] := by
  have hkeeps : s.KeepsBits ((s.put (MCH_CH_STAT.STATE c) 1).put (MCH_CH_STAT.OWNER c) req.code)
      [MCH_CH_STAT.STATE c, MCH_CH_STAT.OWNER c] := (((KeepsBits.refl s).put _ _).put _ _).mono (by simp)
  unfold chClaimed chState
  refine ⟨?_, ?_, mapGet_mapSet_same _ _ _ _, hkeeps.of_regs rfl⟩
  · rw [get_with_mch, get_put_apart _ _ _ _ rfl, get_put_fit _ _ _ rfl]
  · rw [get_with_mch, get_put_cut _ _ _ rfl]
    rfl

theorem chClaim_empty {req : Requester} {c : Nat} {s u : State} (hu : u = fillTimeout c s) (hempty : u.chState c = 0)
    (hen : u.get (MCH_CH_CFG.EN c) = 1) : chClaim req c s = (1, chClaimed req c u) := by
  subst hu
  exact if_pos ⟨hempty, bit_of_get hen⟩

theorem chClaim_refused {req : Requester} {c : Nat} {s u : State} (hu : u = fillTimeout c s)
    (h : u.chState c ≠ 0 ∨ u.get (MCH_CH_CFG.EN c) = 0) : chClaim req c s = (0, u) := by
  subst hu
  refine if_neg fun ⟨hempty, hen⟩ => h.elim (fun hne => hne hempty) fun hoff => ?_
  rw [bit_of_get_zero hoff] at hen
  exact absurd hen (by decide)

/-- Out of reset a claim answers what `chClaim` answers, at its time-stamp (R607). -/
theorem completes_channelClaim {e : Dword} {req : Requester} {c : Fin 32} {s u : State} {n : Nat} {post : State → Prop}
    (hrun : s.rst.inst = false) (hclaim : chClaim req c.val (s.advanceTo e) = (n, u))
    (hpost : post (u.answer [BitVec.ofNat 32 n])) : Completes (.channelClaim e req c) s post :=
  ⟨_, congrArg Host.Outcome.next (by simp only [hrun, hclaim, Bool.false_eq_true, if_false]), hpost⟩

/-- In instance reset a claim only reads the register (log entry 21). -/
theorem completes_channelClaim_held (e : Dword) (req : Requester) (c : Fin 32) {s : State} (h : s.rst.inst = true) :
    Completes (.channelClaim e req c) s fun t => t = s.answer [s.rd (MCH_CH_CLAIM c)] :=
  ⟨_, congrArg Host.Outcome.next (by simp only [h, if_true]), rfl⟩

theorem completes_channelClaim_refused {e : Dword} {req : Requester} {c : Fin 32} {s u : State} (hrun : s.rst.inst = false)
    (hu : u = fillTimeout c (s.advanceTo e)) (h : u.chState c ≠ 0 ∨ u.get (MCH_CH_CFG.EN c) = 0) :
    Completes (.channelClaim e req c) s fun t => t = u.answer [0] :=
  completes_channelClaim hrun (chClaim_refused hu h) rfl

/-- While a claim stands, every claim answers 0 (R607). -/
theorem completes_channelClaim_standing {e : Dword} {req : Requester} {c : Fin 32} {s : State} (hrun : s.rst.inst = false)
    (hfilling : s.chState c = 1) (hearly : (s.advanceTo e).now < (s.advanceTo e).fillEnd c) :
    Completes (.channelClaim e req c) s fun t => t = (s.advanceTo e).answer [0] := by
  refine completes_channelClaim_refused hrun (fillTimeout_stands (.inr hearly)).symm (.inl ?_)
  rw [chState, State.advanceTo_get, ← chState, hfilling]
  decide

/-- Settles O50. That a claim in instance reset only reads the register is log entry 21, and that a fill over at the access's
own TS ends first is log entry 156. -/
theorem oneClaimOfAMailChannelSucceeds : Obligations.OneClaimOfAMailChannelSucceeds := by
  intro e e' p q c s
  refine ⟨fun h => completes_channelClaim_held e p c h,
    fun hrun => ⟨fun h => completes_channelClaim_refused hrun rfl h, ?_⟩⟩
  obtain ⟨u, hu⟩ : ∃ u, u = fillTimeout c (s.advanceTo e) := ⟨_, rfl⟩
  have hrun' : u.rst.inst = false := by rw [hu, fillTimeout_rst, advanceTo_rst, hrun]
  by_cases hok : u.chState c = 0 ∧ u.get (MCH_CH_CFG.EN c) = 1
  · refine completes_channelClaim hrun (chClaim_empty hu hok.1 hok.2) fun _ hearly => ?_
    obtain ⟨hfilling, -⟩ := chClaimed_leaves p c u
    rw [chState, ← answer_get, ← chState] at hfilling
    exact completes_channelClaim_standing hrun' hfilling hearly
  · have hrefused : u.chState c ≠ 0 ∨ u.get (MCH_CH_CFG.EN c) = 0 := by
      have hbit : u.get (MCH_CH_CFG.EN c) < 2 := fldGet_lt _ _ _
      omega
    refine completes_channelClaim hrun (chClaim_refused hu hrefused) fun hone => ?_
    exact absurd hone (by simp [answer])

/-! ### Writes of the configuration and of the slots (R608, R611) -/

/-- A write of a register is a change of the registers alone. -/
theorem storeReg_rst (a : Nat) (v : Word) (s : State) : (storeReg a v s).rst = s.rst := by
  unfold storeReg
  split <;> rfl

/-- The table of a channel's configuration (R611). -/
theorem regDef?_MCH_CH_CFG {c : Nat} (hc : c < 32) :
    regDef? (MCH_CH_CFG c) = some ⟨0x21040, 128, 0, 32, 4, 0, 1, 0x80000002, false,
      [fdef 31 31 .rw, fdef 30 30 .ro, frange 3 0 0 11]⟩ := by
  unfold regDef? tableOf MCH_CH_CFG
  simp (disch := omega) only [if_neg, if_pos]
  simp (disch := (simp only [RegDef.covers, Bool.and_eq_true, decide_eq_true_eq]; omega)) only
    [tableMCH, tableMCH1, List.cons_append, List.find?_cons_of_neg, List.find?_cons_of_pos]

/-- A write of the configuration stores EN as written (R19, R611). -/
theorem storeReg_MCH_CH_CFG_EN {c : Nat} (hc : c < 32) (v : Word) (s : State) :
    (storeReg (MCH_CH_CFG c) v s).get (MCH_CH_CFG.EN c) = fldGet v 31 31 := by
  have hmem : fdef 31 31 .rw ∈ [fdef 31 31 .rw, fdef 30 30 .ro, frange 3 0 0 11] := by simp
  obtain ⟨acc, -, hnew⟩ := storeReg_field (regDef?_MCH_CH_CFG hc) v s hmem
  refine hnew.trans ((storeField_rw (f := fdef 31 31 .rw) rfl rfl rfl _ v acc).trans (if_pos ⟨Nat.zero_le _, ?_⟩))
  exact Nat.le_of_lt_succ (fldGet_lt v 31 31)

theorem chCfgWrite_empty {c : Nat} {s u : State} (v : Word) (hu : u = fillTimeout c s) (hempty : u.chState c = 0) :
    chCfgWrite c v s = storeReg (MCH_CH_CFG c) v u := by
  subst hu
  exact if_pos hempty

theorem chCfgWrite_taken {c : Nat} {s u : State} (v : Word) (hu : u = fillTimeout c s) (htaken : u.chState c ≠ 0) :
    chCfgWrite c v s = u.put MCH_STAT.BADWR 1 := by
  subst hu
  exact if_neg htaken

/-- A refused access of Mail Coach sets its bit of MCH_STAT and nothing else. -/
theorem mailRefused_leaves {f : Fld} (hwidth : f.lo = f.hi) (htop : f.hi < 32) (s : State) :
    (s.put f 1).get f = 1 ∧ s.Frame (s.put f 1) [f] :=
  ⟨get_put_one _ _ (hwidth ▸ le_refl _) htop, frame_put ..⟩

theorem completes_channelConfigWrite_taken {req : Requester} {c : Fin 32} {v : Word} {s u : State}
    (hp : s.Permits req (MCH_CH_CFG c) v) (hu : u = fillTimeout c s) (htaken : u.chState c ≠ 0) :
    Completes (.channelConfigWrite req c v) s fun t => t.get MCH_STAT.BADWR = 1 ∧ u.Frame t [MCH_STAT.BADWR] :=
  completes_permitted rfl hp (chCfgWrite_taken v hu htaken) (mailRefused_leaves rfl (by decide) u)

/-- Settles O51. That a fill over at the access's own TS ends first is log entry 156. -/
theorem channelConfigurationWaitsForEmpty : Obligations.ChannelConfigurationWaitsForEmpty := by
  intro req p e c v s hp u hu
  refine ⟨fun htaken => completes_channelConfigWrite_taken hp hu htaken, fun hempty => ?_⟩
  refine completes_permitted rfl hp (chCfgWrite_empty v hu hempty)
    ⟨⟨_, regDef?_MCH_CH_CFG c.isLt, storeReg_rd_same (regDef?_MCH_CH_CFG c.isLt) v u⟩, fun a ha => storeReg_rd_other ha v u,
      fun hrun hoff => ?_⟩
  have hen : (storeReg (MCH_CH_CFG c) v u).get (MCH_CH_CFG.EN c) = 0 := (storeReg_MCH_CH_CFG_EN c.isLt v u).trans hoff
  refine ⟨hen, completes_channelClaim_refused ?_ rfl (.inr ?_)⟩
  · rw [storeReg_rst, hu, fillTimeout_rst, hrun]
  · rw [fillTimeout_get_EN, State.advanceTo_get, hen]

end Sys2Proof.Machine

/-! PROOFS of the family spec/20_mail_coach.md, further: posts, takes, doorbell enables and the arrival of a message. -/

namespace Sys2Proof.Machine

open State

/-! ### The accesses of MCH_CH_CTL (R606, R609, R610) -/

/-- The word of POST asks for POST alone, with its event source (R609). -/
theorem postWord_fields (x : BitVec 10) {v : Word} (hv : v = BitVec.ofNat 32 (x.toNat * 65536 + 1)) :
    fldGet v 0 0 = 1 ∧ fldGet v 25 16 = x.toNat ∧ fldGet v 1 1 = 0 ∧ fldGet v 2 2 = 0 := by
  have hx := x.isLt
  subst hv
  simp only [fldGet, BitVec.toNat_ushiftRight, BitVec.toNat_ofNat, Nat.shiftRight_eq_div_pow]
  omega

theorem chCtlWrite_post {req : Requester} {c : Nat} {v : Word} {s u : State} (hu : u = fillTimeout c s)
    (x : BitVec 10) (hv : v = BitVec.ofNat 32 (x.toNat * 65536 + 1)) :
    chCtlWrite req c v s = chPost req c x.toNat u := by
  obtain ⟨hpost, hesrc, htake, habandon⟩ := postWord_fields x hv
  subst hu
  simp [chCtlWrite, hpost, hesrc, htake, habandon]

theorem chCtlWrite_take {req : Requester} {c : Nat} {s u : State} (hu : u = fillTimeout c s) :
    chCtlWrite req c 2 s = chTake req c u := by
  subst hu
  rfl

theorem chCtlWrite_abandon {req : Requester} {c : Nat} {s u : State} (hu : u = fillTimeout c s) :
    chCtlWrite req c 4 s = chAbandon req c u := by
  subst hu
  rfl

theorem chPost_refused {req : Requester} {c x : Nat} {u : State} (h : u.ownsCh req c = false ∨ (1 ≤ x ∧ x < 608)) :
    chPost req c x u = u.put MCH_STAT.BADPOST 1 :=
  if_neg fun ⟨howns, hsource⟩ => h.elim (fun hnot => by rw [hnot] at howns; exact absurd howns (by decide)) (by omega)

theorem chTake_refused {req : Requester} {c : Nat} {s : State} (h : s.chState c ≠ 2 ∨ s.receivesCh req c = false) :
    chTake req c s = s.put MCH_STAT.BADTAKE 1 :=
  if_neg fun ⟨hfull, hrcv⟩ => h.elim (fun hne => hne hfull) fun hnot => by rw [hnot] at hrcv; exact absurd hrcv (by decide)

/-- The doorbell words stand before the channels. -/
theorem mchDb_ne {r c : Nat} (hr : r < 16) : MCH_DB r ≠ MCH_CH_STAT c := by
  unfold MCH_DB MCH_CH_STAT
  omega

/-- A take empties the channel, clears its doorbell bit and rings its event source, if any (R610). -/
theorem chTake_full {req : Requester} {c r : Nat} {s : State} (hr : r = s.get (MCH_CH_CFG.RCV c)) (hfull : s.chState c = 2)
    (hrcv : s.receivesCh req c = true) :
    ∃ w, w = (chEmpty c s).wrN (MCH_DB r) (clearBitN (s.num (MCH_DB r)) c) ∧
      (s.get (MCH_CH_STAT.ESRC c) = 0 → chTake req c s = w) ∧
      (s.get (MCH_CH_STAT.ESRC c) ≠ 0 → chTake req c s = doorbellIn (s.get (MCH_CH_STAT.ESRC c)) w) := by
  have htake : chTake req c s = if s.get (MCH_CH_STAT.ESRC c) = 0 then (chEmpty c s).wrN (MCH_DB r) (clearBitN (s.num (MCH_DB r)) c)
      else doorbellIn (s.get (MCH_CH_STAT.ESRC c)) ((chEmpty c s).wrN (MCH_DB r) (clearBitN (s.num (MCH_DB r)) c)) := by
    subst hr
    exact (if_pos (⟨hfull, hrcv⟩ : s.chState c = 2 ∧ s.receivesCh req c = true)).trans rfl
  refine ⟨_, rfl, fun hzero => ?_, fun hsource => ?_⟩
  · rw [htake, if_pos hzero]
  · rw [htake, if_neg hsource]

/-! ### Slots, doorbell enables and the arrival of a message (R608, R612, R609) -/

theorem slotWrite_owner {req : Requester} {c w : Nat} {v : Word} {s u : State} (hu : u = fillTimeout c s)
    (howns : u.ownsCh req c = true) : slotWrite req c w v s = u.wr (MCH_SLOT c w) v := by
  subst hu
  exact if_pos howns

theorem slotWrite_refused {req : Requester} {c w : Nat} {v : Word} {s u : State} (hu : u = fillTimeout c s)
    (hnot : u.ownsCh req c = false) : slotWrite req c w v s = u.put MCH_STAT.BADWR 1 := by
  subst hu
  exact if_neg (by rw [hnot]; decide)

/-- Ringing one doorbell after the other appends them to the port, and leaves every register. -/
theorem each_ring (k : Nat) (l : List Nat) (s : State) :
    (s.each l fun s c => s.ring k c).pst.port = s.pst.port ++ l.map (fun c => 32 * k + c) ∧
      (s.each l fun s c => s.ring k c).regs = s.regs := by
  induction l generalizing s with
  | nil => simp [each]
  | cons c l ih =>
    obtain ⟨hport, hregs⟩ := ih (s.ring k c)
    exact ⟨hport.trans (by rw [ring_port]; simp), hregs⟩

theorem dbenWrite_leaves (r : Nat) (v : Word) (s : State) :
    (dbenWrite r v s).rd (MCH_DBEN r) = v ∧
      (dbenWrite r v s).pst.port = s.pst.port ++ (bitsOf (v &&& s.rd (MCH_DB r)).toNat 32).map (fun c => 32 * kMCH + c) ∧
      s.KeepsRegs (dbenWrite r v s) (· = MCH_DBEN r) := by
  have hne : MCH_DB r ≠ MCH_DBEN r := by unfold MCH_DB MCH_DBEN; omega
  obtain ⟨hport, hregs⟩ := each_ring kMCH (bitsOf (v &&& (s.wr (MCH_DBEN r) v).rd (MCH_DB r)).toNat 32) (s.wr (MCH_DBEN r) v)
  rw [rd_wr_other _ _ _ _ hne] at hport hregs
  refine ⟨?_, hport, fun a ha => ?_⟩
  · exact (rd_congr _ _ _ hregs).trans (rd_wr_same _ _ _)
  · exact (rd_congr _ _ _ hregs).trans (rd_wr_other _ _ _ _ ha)

/-- Channel c holds the message, and its receiver's doorbell bit is set (R609). -/
def chFilled (c sndr esrc r : Nat) (s : State) : State :=
  let m := ((chEmpty c s).put (MCH_CH_STAT.STATE c) 2).put (MCH_CH_STAT.SNDR c) sndr
  ((m.put (MCH_CH_STAT.ESRC c) esrc).wrN (MCH_CH_TS c) s.now32).wrN (MCH_DB r) (setBitN (m.num (MCH_DB r)) c)

/-- What stands in the status of the channel and in the doorbell word. -/
theorem chFilled_leaves {c q x r : Nat} (hc : c < 32) (hr : r < 16) (hq : q < 16) (hx : x < 1024) (s : State) :
    (chFilled c q x r s).chState c = 2 ∧ (chFilled c q x r s).get (MCH_CH_STAT.SNDR c) = q ∧
      (chFilled c q x r s).get (MCH_CH_STAT.ESRC c) = x ∧ (chFilled c q x r s).get (MCH_CH_STAT.OWNER c) = 0 ∧
      (chFilled c q x r s).num (MCH_CH_TS c) = s.now32 ∧ ((chFilled c q x r s).rd (MCH_DB r)).getLsbD c = true := by
  have hdb : ∀ f : Fld, f.addr = MCH_CH_STAT c → (chFilled c q x r s).get f =
      ((((chEmpty c s).put (MCH_CH_STAT.STATE c) 2).put (MCH_CH_STAT.SNDR c) q).put (MCH_CH_STAT.ESRC c) x).get f := by
    intro f hf
    unfold chFilled State.wrN
    rw [get_wr_other _ _ _ _ (hf ▸ (mchDb_ne hr).symm),
      get_wr_other _ _ _ _ (hf ▸ (mailReg_ne (by decide) : MCH_CH_STAT c ≠ MCH_CH_TS c))]
  have hts : MCH_CH_TS c ≠ MCH_DB r := by unfold MCH_CH_TS MCH_DB; omega
  obtain ⟨-, howner, -, -⟩ := chEmpty_leaves c s
  refine ⟨?_, ?_, ?_, ?_, ?_, ?_⟩
  · rw [chState, hdb _ rfl, get_put_apart _ _ _ _ rfl, get_put_apart _ _ _ _ rfl, get_put_fit _ _ _ rfl]
  · rw [hdb _ rfl, get_put_apart _ _ _ _ rfl, get_put_cut _ _ _ rfl]
    exact Nat.mod_eq_of_lt hq
  · rw [hdb _ rfl, get_put_cut _ _ _ rfl]
    exact Nat.mod_eq_of_lt hx
  · rw [hdb _ rfl, get_put_apart _ _ _ _ rfl, get_put_apart _ _ _ _ rfl, get_put_apart _ _ _ _ rfl, howner]
  · unfold chFilled
    rw [State.num, State.wrN, rd_wr_other _ _ _ _ hts, ← State.num, num_wrN_same, State.now32, Nat.mod_mod]
  · unfold chFilled
    rw [State.wrN, rd_wr_same, BitVec.getLsbD_ofNat, testBit_setBitN, decide_eq_true hc, Bool.and_true]

/-- Until its doorbell the arrival changes the registers and the start of the fill alone. -/
theorem chFilled_pst (c q x r : Nat) (s : State) : (chFilled c q x r s).pst = s.pst := rfl

/-- The arrival does not touch a doorbell enable or a channel's configuration. -/
theorem chFilled_rd {a c q x r : Nat} {s : State} (hstat : a ≠ MCH_CH_STAT c) (hts : a ≠ MCH_CH_TS c) (hdb : a ≠ MCH_DB r) :
    (chFilled c q x r s).rd a = s.rd a := by
  unfold chFilled chEmpty State.wrN
  rw [rd_wr_other _ _ _ _ hdb, rd_wr_other _ _ _ _ hts, rd_put_other _ _ _ _ hstat, rd_put_other _ _ _ _ hstat,
    rd_put_other _ _ _ _ hstat, rd_with_mch, rd_put_other _ _ _ _ hstat, rd_put_other _ _ _ _ hstat]

/-- A message that arrives rings its doorbell when that is enabled (R609, R612). -/
theorem chArrive_eq {c q x r : Nat} {s u : State} (hr : r = s.get (MCH_CH_CFG.RCV c)) (hr12 : r < 12) (hu : u = chFilled c q x r s)
    (hc0 : s.get (MCH_CH_CFG.C0 c) = 0) :
    chArrive c q x s = if bitOf (s.num (MCH_DBEN r)) c then u.ring kMCH c else u := by
  have hcfg : u.rd (MCH_CH_CFG c) = s.rd (MCH_CH_CFG c) := by
    rw [hu]
    exact chFilled_rd (mailReg_ne (by decide)) (mailReg_ne (by decide)) (by unfold MCH_CH_CFG MCH_DB; omega)
  have hen : u.num (MCH_DBEN r) = s.num (MCH_DBEN r) := by
    rw [State.num, hu, chFilled_rd (by unfold MCH_DBEN MCH_CH_STAT; omega) (by unfold MCH_DBEN MCH_CH_TS; omega)
      (by unfold MCH_DBEN MCH_DB; omega)]
    rfl
  have hplain : ∀ v : State, v.rd (MCH_CH_CFG c) = s.rd (MCH_CH_CFG c) →
      (if v.bit (MCH_CH_CFG.C0 c) then v.c0Touch else v) = v := fun v hv => if_neg (by
    rw [bit_of_get_zero (show v.get (MCH_CH_CFG.C0 c) = 0 from (congrArg (fldGet · 30 30) hv).trans hc0)]; decide)
  have harrive : chArrive c q x s =
      (let w := if bitOf (u.num (MCH_DBEN r)) c then u.ring kMCH c else u
       if w.bit (MCH_CH_CFG.C0 c) then w.c0Touch else w) := by
    subst hu hr
    rfl
  rw [harrive, hen]
  exact hplain _ (by split <;> exact hcfg)

theorem chArrive_leaves {c q x r : Nat} {s t : State} (hc : c < 32) (hr : r = s.get (MCH_CH_CFG.RCV c)) (hr12 : r < 12)
    (hq : q < 16) (hx : x < 1024) (hc0 : s.get (MCH_CH_CFG.C0 c) = 0) (ht : t = chArrive c q x s) :
    t.chState c = 2 ∧ t.get (MCH_CH_STAT.SNDR c) = q ∧ t.get (MCH_CH_STAT.ESRC c) = x ∧ t.get (MCH_CH_STAT.OWNER c) = 0 ∧
      t.num (MCH_CH_TS c) = s.now32 ∧ (t.rd (MCH_DB r)).getLsbD c = true ∧
      (bitOf (s.num (MCH_DBEN r)) c = true → t.pst.port = s.pst.port ++ [32 * kMCH + c]) ∧
      (bitOf (s.num (MCH_DBEN r)) c = false → t.pst = s.pst) := by
  obtain ⟨u, hu⟩ : ∃ u, u = chFilled c q x r s := ⟨_, rfl⟩
  have hpst : u.pst = s.pst := by rw [hu, chFilled_pst]
  have hleaves := chFilled_leaves hc (by omega : r < 16) hq hx s
  rw [chArrive_eq hr hr12 hu hc0] at ht
  rw [← hu] at hleaves
  obtain ⟨hstate, hsndr, hesrc, howner, hts, hdb⟩ := hleaves
  cases hen : bitOf (s.num (MCH_DBEN r)) c with
  | true =>
    rw [hen, if_pos rfl] at ht
    have hrd (a : Nat) : t.rd a = u.rd a := by rw [ht]; rfl
    have hget (f : Fld) : t.get f = u.get f := by rw [State.get, State.get, hrd]
    refine ⟨(hget _).trans hstate, (hget _).trans hsndr, (hget _).trans hesrc, (hget _).trans howner, ?_, ?_, fun _ => ?_,
      fun h => absurd h (by decide)⟩
    · rw [State.num, hrd]
      exact hts
    · rw [hrd, hdb]
    · rw [ht, ring_port, hpst]
  | false =>
    rw [hen, if_neg (by decide)] at ht
    subst ht
    exact ⟨hstate, hsndr, hesrc, howner, hts, hdb, fun h => absurd h (by decide), fun _ => hpst⟩

/-- Out of reset a claim of an enabled EMPTY channel answers 1 and makes it FILLING for the requester (R606, R607). -/
theorem completes_channelClaim_empty {e : Dword} {req : Requester} {c : Fin 32} {s u : State} (hrun : s.rst.inst = false)
    (hu : u = fillTimeout c (s.advanceTo e)) (hempty : u.chState c = 0) (hen : u.get (MCH_CH_CFG.EN c) = 1) :
    Completes (.channelClaim e req c) s fun t => t.rdata = [1] ∧ t.chState c = 1 ∧
      t.get (MCH_CH_STAT.OWNER c) = req.code % 16 ∧ mapGet 0 t.mch c.val = u.now ∧
      u.KeepsBits t [MCH_CH_STAT.STATE c, MCH_CH_STAT.OWNER c] := by
  refine completes_channelClaim hrun (chClaim_empty hu hempty hen) ?_
  obtain ⟨hstate, howner, hsince, hkeeps⟩ := chClaimed_leaves req c u
  refine ⟨rfl, ?_, ?_, hsince, hkeeps.of_regs rfl⟩
  · rw [chState, answer_get, ← chState, hstate]
  · rw [answer_get, howner]

/-- A permitted POST acts at its time-stamp (R609). -/
theorem completes_post {e : Dword} {req : Requester} {c : Fin 32} {x : BitVec 10} {v : Word} {s t : State}
    {post : State → Prop} (hv : v = BitVec.ofNat 32 (x.toNat * 65536 + 1))
    (hp : (s.advanceTo e).Permits req (MCH_CH_CTL c) v) (hact : chCtlWrite req c v (s.advanceTo e) = t) (hpost : post t) :
    Completes (.post e req c x) s post := by
  subst hv
  exact ⟨t, congrArg Host.Outcome.next ((gated_permits hp _).trans hact), hpost⟩

/-- Settles O38. That a claim in instance reset only reads the register is log entry 21, and that a fill over at the access's
own TS ends first is log entry 156. -/
theorem mailCoachCommandsComplete : Obligations.MailCoachCommandsComplete := by
  refine ⟨?claim, ?held, ?post, ?take, ?abandon, ?timeout, ?fill, ?config, ?slot, ?enable, ?arrive⟩
  case claim =>
    intro e req c s u hu hrun
    exact ⟨fun hempty hen => completes_channelClaim_empty hrun hu hempty hen,
      fun h => completes_channelClaim_refused hrun hu h⟩
  case held => exact fun e req c s h => completes_channelClaim_held e req c h
  case post =>
    intro e req c x s z u v hz hu hv hp
    subst hz
    exact ⟨fun howns hsource => completes_post hv hp (chCtlWrite_post hu x hv) (if_pos ⟨howns, hsource⟩),
      fun h => completes_post hv hp ((chCtlWrite_post hu x hv).trans (chPost_refused h))
        (mailRefused_leaves rfl (by decide) u)⟩
  case take =>
    intro req c z s r hp hs hr
    refine ⟨fun hfull hrcv => ?_, fun h => completes_permitted rfl hp ((chCtlWrite_take hs).trans (chTake_refused h))
      (mailRefused_leaves rfl (by decide) s)⟩
    exact completes_permitted rfl hp (chCtlWrite_take hs) (chTake_full hr hfull hrcv)
  case abandon =>
    intro req c z s hp hs
    refine ⟨fun howns => completes_permitted rfl hp ((chCtlWrite_abandon hs).trans (if_pos howns)) (chEmpty_leaves c s),
      fun hnot => completes_permitted rfl hp ((chCtlWrite_abandon hs).trans (if_neg (by rw [hnot]; decide))) rfl⟩
  case timeout =>
    intro e c s u hu
    subst hu
    exact ⟨fun h => ⟨_, congrArg Host.Outcome.next (if_pos h), rfl⟩, fun h => ⟨_, congrArg Host.Outcome.next (if_neg h), rfl⟩⟩
  case fill =>
    intro c s t ht
    subst ht
    exact ⟨fun hfilling hover => fillTimeout_over_leaves hfilling hover, fun h => fillTimeout_stands h, rfl⟩
  case config =>
    intro req c v z s hp hs
    exact ⟨fun hempty => completes_permitted rfl hp (chCfgWrite_empty v hs hempty) rfl,
      fun htaken => completes_channelConfigWrite_taken hp hs htaken⟩
  case slot =>
    intro req c w v z s hp hs
    refine ⟨fun howns => completes_permitted rfl hp (slotWrite_owner hs howns) ⟨rd_wr_same _ _ _, fun a ha => rd_wr_other _ _ _ _ ha, rfl⟩,
      fun hnot => completes_permitted rfl hp (slotWrite_refused hs hnot) (mailRefused_leaves rfl (by decide) s)⟩
  case enable => exact fun req r v s hp => completes_permitted rfl hp rfl (dbenWrite_leaves r v s)
  case arrive =>
    exact fun c q x s r t hr hr12 hq hx hc0 ht => chArrive_leaves c.isLt hr hr12 hq hx hc0 ht

end Sys2Proof.Machine

/-! PROOFS of the shared checks, the stored replies and the fleet and firmware opcodes of Yutre (spec/20_mail_coach.md,
spec/17_firmware.md). -/

namespace Sys2Proof.Machine

open State

/-! ### The stored reply (R623) -/

/-- The reply of the last command is found under its sender and channel. -/
theorem replied_lastYutre {m : YMsg} {op : Nat} {u t : State} (h : u.Replied m op t) :
    ∃ e, t.lastYutre m = some e ∧ e.seq = m.sq.toNat ∧ e.reply = t.rdata := by
  subst h
  refine ⟨⟨m.sndr.code, m.member.toNat, m.ch.val, m.sq.toNat, replyWords m op u.rdata⟩, ?_, rfl, rfl⟩
  have hothers : ∀ e ∈ u.yutre.filter (fun e => !(e.sndr == m.sndr.code && e.member == m.member.toNat && e.ch == m.ch.val)),
      ¬ (e.sndr == m.sndr.code && e.member == m.member.toNat && e.ch == m.ch.val) = true := fun e he => by
    exact Bool.not_eq_true _ ▸ Bool.not_eq_true' _ ▸ (List.mem_filter.mp he).2
  unfold lastYutre
  rw [List.find?_append, List.find?_eq_none.mpr hothers]
  simp

/-- A command that no core serves changes nothing (R620). -/
theorem yutre_unserved {m : YMsg} {op : Nat} {s : State} (h : s.serves m op = false) (body : State → State) :
    yutre m op body s = s := by
  simp [yutre, h]

/-- A repeated sequence number gets the stored reply (R623). -/
theorem yutre_repeated {m : YMsg} {op : Nat} {s : State} {e : YutreSeen} (hserves : s.serves m op = true)
    (hlast : s.lastYutre m = some e) (hseq : e.seq = m.sq.toNat) (body : State → State) :
    yutre m op body s = s.answer e.reply := by
  simp [yutre, hserves, hlast, hseq]

/-- The state that the checks before an opcode's own meaning leave, with the reply of the first that fails (R620). -/
def yutreChecked (m : YMsg) (op : Nat) (body : State → State) (s : State) : State :=
  if m.vmaj ≠ 3 then s.reply stVERSION []
  else if 56 < m.len.toNat ∨ 8 ≤ m.flags.toNat ∨ m.flags.toNat % 2 = 1 then s.reply stBADPARAM []
  else if !definedOpcode op then s.reply stBADOPCODE []
  else if !s.permits m op then s.reply stDENIED []
  else body s

/-- A new sequence number is checked, replied to and kept (R620, R623). -/
theorem yutre_new {m : YMsg} {op : Nat} {s : State} (hserves : s.serves m op = true)
    (hnew : ∀ e, s.lastYutre m = some e → e.seq ≠ m.sq.toNat) (body : State → State) :
    (yutreChecked m op body s).Replied m op (yutre m op body s) := by
  simp only [yutre, hserves, Bool.not_true, Bool.false_eq_true, if_false]
  cases hlast : s.lastYutre m with
  | none => rfl
  | some e =>
    simp only [if_neg (hnew e hlast)]
    rfl

/-! The ROM's boot leaves the kept commands. -/

@[simp] theorem dirWrite_yutre (a st k : Nat) (s : State) : (dirWrite a st k s).yutre = s.yutre := rfl

@[simp] theorem loadSections_yutre (p : Nat → Bool) (h body : List Byte) (s : State) :
    (loadSections p h body s).yutre = s.yutre :=
  each_field State.yutre _ _ _ fun _ _ => each_field State.yutre _ _ _ fun _ _ => rfl

@[simp] theorem romLoad_yutre (slot : Nat) (second : Bool) (s : State) : (romLoad slot second s).yutre = s.yutre := by
  simp [romLoad, apply_ite State.yutre]

/-- Once SEC has started, instance 0 chooses a slot and loads it, and another instance waits for a push (R537, R539). -/
def romChooses (s : State) : State :=
  if s.inst = 0 then
    let d := s.directory.2
    let spent := d.state = 1 ∧ d.tries = 0
    let slot := if spent then 1 - d.active else d.active
    romLoad slot false (if spent then dirWrite slot 2 0 s else s.putB FW_STAT.TRIAL (d.state == 1))
  else { s with fw := { s.fw with pushFails := 0 } }

theorem romChooses_yutre (s : State) : (romChooses s).yutre = s.yutre := by
  unfold romChooses
  split
  · dsimp only
    rw [romLoad_yutre]
    split <;> rfl
  · rfl

@[simp] theorem romBoot_yutre (s : State) : (romBoot s).yutre = s.yutre := romChooses_yutre _

theorem loadEfuse_yutre (s : State) : (loadEfuse s).yutre = s.yutre := by
  rw [loadEfuse_eq]

/-- Settles O41. -/
theorem repeatedYutreCommandsGetTheStoredReply : Obligations.RepeatedYutreCommandsGetTheStoredReply := by
  refine ⟨fun m op body s t hserves ht => ?_, fun m op body s e hserves hlast hseq => yutre_repeated hserves hlast hseq body,
    fun s hrun => ?_, fun s => ?_⟩
  · subst ht
    by_cases hrepeat : ∃ e, s.lastYutre m = some e ∧ e.seq = m.sq.toNat
    · obtain ⟨e, hlast, hseq⟩ := hrepeat
      rw [yutre_repeated hserves hlast hseq body]
      exact ⟨e, hlast, hseq, rfl⟩
    · exact replied_lastYutre (yutre_new hserves (fun e hlast hseq => hrepeat ⟨e, hlast, hseq⟩) body)
  · rw [assertReset, hrun, if_neg (by decide)]
    exact (loadEfuse_yutre _).trans rfl
  · unfold firmwareReset
    rw [romBoot_yutre]

/-! ### The checks and the frame of a reply (R618, R619, R620) -/

/-- A reply of at most 16 words carries its version, opcode, sequence number and length (R618, R619). -/
theorem replyWords_frame {m : YMsg} {op : Nat} {ws : List Word} (hop : op < 65536) (hlen : ws.length ≤ 16) :
    ∃ w0 w1, replyWords m op ws = w0 :: w1 :: ws ∧ fldGet w0 7 0 = 3 ∧ fldGet w0 15 8 = 2 ∧ fldGet w0 31 16 = op ∧
      fldGet w1 15 0 = m.sq.toNat ∧ fldGet w1 31 24 = 1 ∧
      (op ≠ 0x100 → op ≠ 0x603 → fldGet w1 23 16 = 4 * ws.length) := by
  have hsq := m.sq.isLt
  obtain ⟨p, hp⟩ : ∃ p, p = if (op = 0x100 ∨ op = 0x603) ∧ 1 < ws.length then 2 else 0 := ⟨_, rfl⟩
  have hwords : replyWords m op ws = BitVec.ofNat 32 (3 + 2 * 2 ^ 8 + op * 2 ^ 16) ::
      BitVec.ofNat 32 (m.sq.toNat + (4 * ws.length - p) * 2 ^ 16 + 2 ^ 24) :: ws := by rw [hp]; rfl
  have hplain : op ≠ 0x100 → op ≠ 0x603 → p = 0 := fun hver hend =>
    hp.trans (if_neg fun h => h.1.elim hver hend)
  refine ⟨_, _, hwords, ?_⟩
  simp only [fldGet, BitVec.toNat_ushiftRight, BitVec.toNat_ofNat, Nat.shiftRight_eq_div_pow]
  refine ⟨by omega, by omega, by omega, by omega, by omega, fun hver hend => ?_⟩
  rw [hplain hver hend]
  omega

/-- The defined opcodes, range by range (R624). -/
theorem definedOpcode_iff (op : Nat) : definedOpcode op = true ↔
    (0x100 ≤ op ∧ op ≤ 0x106) ∨ (0x200 ≤ op ∧ op ≤ 0x205) ∨ (0x300 ≤ op ∧ op ≤ 0x304) ∨ (0x400 ≤ op ∧ op ≤ 0x406) ∨
      (0x500 ≤ op ∧ op ≤ 0x507) ∨ (0x600 ≤ op ∧ op ≤ 0x607) ∨ (0x700 ≤ op ∧ op ≤ 0x704) := by
  simp only [definedOpcode, Bool.or_eq_true, Bool.and_eq_true, decide_eq_true_eq, or_assoc]

/-- Settles O42. -/
theorem yutreChecksComeBeforeTheOpcode : Obligations.YutreChecksComeBeforeTheOpcode := by
  refine ⟨fun m op body s h => yutre_unserved h body, ?version, ?form, ?denied, ?unknown, definedOpcode_iff, ?permits, ?frame⟩
  case version =>
    intro m op body s hserves hnew hver
    have hchecked : yutreChecked m op body s = s.reply stVERSION [] := if_pos hver
    exact hchecked ▸ yutre_new hserves hnew body
  case form =>
    intro m op body s hserves hnew hver hform
    have hchecked : yutreChecked m op body s = s.reply stBADPARAM [] := (if_neg (not_not.mpr hver)).trans (if_pos hform)
    exact hchecked ▸ yutre_new hserves hnew body
  case denied =>
    intro m op body s hserves hnew hver hlen hflags heven hdefined hdenied
    have hchecked : yutreChecked m op body s = s.reply stDENIED [] := by
      rw [yutreChecked, if_neg (not_not.mpr hver), if_neg (by omega), hdefined, hdenied]
      rfl
    exact hchecked ▸ yutre_new hserves hnew body
  case unknown =>
    intro m op s hserves hnew hver hlen hflags heven hunknown
    have hchecked : yutreChecked m op.toNat id s = s.reply stBADOPCODE [] := by
      rw [yutreChecked, if_neg (not_not.mpr hver), if_neg (by omega), hunknown]
      rfl
    exact ⟨_, congrArg Host.Outcome.next (if_neg (by rw [hunknown]; decide)), hchecked ▸ yutre_new hserves hnew id⟩
  case permits =>
    intro m op s
    refine ⟨fun h => ?_, fun h => ?_, fun h => ?_⟩
    · simp only [permits, h]
    · simp only [permits, h]
    · rcases h with h | h | h <;> simp only [permits, h]
  case frame =>
    intro m op u t hop hlen h
    subst h
    exact replyWords_frame hop hlen

/-! ### The fleet opcodes (R430, R431) -/

/-- A mask beyond the 17 endpoints is refused. -/
theorem ySetTree_bad {role hb pkg mask : Nat} {eps : List Nat} {s : State} (h : 2 ^ 17 ≤ mask) :
    ySetTree role hb pkg mask eps s = s.reply stBADPARAM [] := if_pos h

/-- EN falls, the configuration is written, and EN is written last: the reply says whether it stands (R431). -/
theorem ySetTree_replies {role hb pkg mask : Nat} {eps : List Nat} {s a b c : State} (h : mask < 2 ^ 17)
    (ha : a = schWrite CPLR_ID (w32 (pkg % 32768 * 4)) (schWrite CPLR_CTRL (s.rd CPLR_CTRL &&& 0x7FFFFFFF) s))
    (hb' : b = a.each (List.range 17) (fun s e => schWrite (CPLR_EP_CFG e) (w32
      (match ((bitsOf mask 17).zip eps).find? fun x => x.1 == e with
        | some (_, x) => (if 32768 ≤ x then 1 else 2) * 2 ^ 30 + x % 32768
        | none => 0)) s))
    (hc : c = schWrite CPLR_CTRL (w32 (role % 4 * 2 ^ 29 + hb % 16 + 2 ^ 31)) (schWrite CPLR_CTRL (w32 (role % 4 * 2 ^ 29 + hb % 16)) b)) :
    ySetTree role hb pkg mask eps s = c.reply (if c.cplrOn then stOK else stBADPARAM) [] := by
  subst ha hb' hc
  exact if_neg (by omega)

/-- Settles O44. That a slot beyond 3 is replied BAD_PARAM, and that payload values are cut to their field, is log entry 99. -/
theorem yutreFleetOpcodesComplete : Obligations.YutreFleetOpcodesComplete := by
  refine ⟨?coupler, ?tree, ?treeLeaves, ?group, ?point, ?env, ?emcap, ?getGroup⟩
  case coupler => exact fun m s h => completes_accepted rfl h rfl
  case tree => exact fun m s h => completes_accepted rfl h rfl
  case treeLeaves =>
    intro role hb pkg mask eps s a b c
    refine ⟨fun h => ySetTree_bad h, fun h ha hb' hc => ⟨fun hoff => ?_, fun hon => ?_⟩⟩
    · rw [ySetTree_replies h ha hb' hc, cplrOn, bit_of_get_zero hoff]
      rfl
    · rw [ySetTree_replies h ha hb' hc, cplrOn, bit_of_get hon]
      rfl
  case group => exact fun m s h => ⟨fun hx => completes_accepted rfl h (if_pos hx), fun hx => completes_accepted rfl h (if_neg (by omega))⟩
  case point =>
    exact fun m s h => ⟨fun hroot => completes_accepted rfl h (if_pos (by rw [hroot]; rfl)),
      fun hroot => completes_accepted rfl h (if_neg (by rw [hroot]; decide))⟩
  case env => exact fun m s h => completes_accepted rfl h rfl
  case emcap => exact fun m s h => completes_accepted rfl h rfl
  case getGroup =>
    exact fun m s h => ⟨fun hx => completes_accepted rfl h (if_pos hx), fun hx => completes_accepted rfl h (if_neg (by omega))⟩

/-! ### The firmware opcodes (R543, R544, R546, R547, R550) -/

theorem stageBegin_busy {len : Nat} {s : State} (hinst : s.inst = 0) (h : s.get FW_ACT.PEND = 1 ∨ s.fw.resetDue = true) :
    stageBegin len s = s.reply stBUSY [] := by
  have hbusy : s.bit FW_ACT.PEND = true ∨ s.fw.resetDue = true := h.imp_left bit_of_get
  rw [stageBegin, if_neg (not_not.mpr hinst), if_pos hbusy]

theorem stageBegin_free {len : Nat} {s : State} (hinst : s.inst = 0) (hpend : s.get FW_ACT.PEND = 0)
    (hdue : s.fw.resetDue = false) :
    stageBegin len s = if 0x800000 < len then s.reply stBADPARAM []
      else ({ flashErase (slotBase s.stagedSlot) 0x800000 s with
        fw := { (flashErase (slotBase s.stagedSlot) 0x800000 s).fw with staged := some len, verified := none } } : State).reply stOK [] := by
  have hfree : ¬ (s.bit FW_ACT.PEND = true ∨ s.fw.resetDue = true) := by simp [bit_of_get_zero hpend, hdue]
  rw [stageBegin, if_neg (not_not.mpr hinst), if_neg hfree]

section StageData

variable {off n addr len : Nat} {ok : Bool} {data : Option (List Byte)} {d : List Byte} {s : State}

theorem stageData_notReady (hinst : s.inst = 0) (hnone : s.fw.staged = none) :
    stageData off n addr ok data s = s.reply stNOTREADY [] := by
  unfold stageData
  rw [if_neg (not_not.mpr hinst), hnone]

theorem stageData_bad (hinst : s.inst = 0) (hlen : s.fw.staged = some len) (h : ok = false ∨ len < off + n) :
    stageData off n addr ok data s = s.reply stBADPARAM [] := by
  unfold stageData
  rw [if_neg (not_not.mpr hinst), hlen]
  exact if_pos (by simpa using h)

theorem stageData_error (hinst : s.inst = 0) (hlen : s.fw.staged = some len) (hok : ok = true) (hfits : off + n ≤ len) :
    stageData off n addr ok none s = (fabricError addr s).reply stINTERNAL [] := by
  unfold stageData
  rw [if_neg (not_not.mpr hinst), hlen]
  exact if_neg (by simp [hok, hfits])

theorem stageData_stores {u : State} (hinst : s.inst = 0) (hlen : s.fw.staged = some len) (hok : ok = true)
    (hfits : off + n ≤ len) (hu : u = flashWrite (slotBase s.stagedSlot + off) (d.take n) s) :
    stageData off n addr ok (some d) s = ({ u with fw := { u.fw with verified := none } } : State).reply stOK [] := by
  unfold stageData
  rw [if_neg (not_not.mpr hinst), hlen, hu]
  exact if_neg (by simp [hok, hfits])

end StageData

/-- The image in the staged slot is refused, with the number of the first failing check (R536, R543). -/
theorem stageEnd_refuses {s u : State} (hinst : s.inst = 0) (hu : u = s.ring kVL 5) {f : Nat} (hf : f = u.slotFault u.stagedSlot)
    (h : f ≠ 0) :
    stageEnd s = ({ u with fw := { u.fw with verified := none } } : State).reply stBADPARAM [BitVec.ofNat 32 f] := by
  rw [hf] at h ⊢
  subst hu
  rw [stageEnd, if_neg (not_not.mpr hinst)]
  exact if_neg h

/-- A valid image is kept as verified; in FAIL the ROM then boots again (R540, R543). -/
theorem stageEnd_verifies {s u v : State} (hinst : s.inst = 0) (hu : u = s.ring kVL 5) {f : Nat} (hf : f = u.slotFault u.stagedSlot)
    (h : f = 0)
    (hv : v = { u with fw := { u.fw with
      verified := some (BitVec.ofNat 32 (hdrField (u.slotHeader u.stagedSlot) 16 4), hdrField (u.slotHeader u.stagedSlot) 8 4) } }) :
    stageEnd s = (if s.get FW_STAT.BOOT = 4 then romBoot v else v).reply stOK [] := by
  have hboot : v.get FW_STAT.BOOT = s.get FW_STAT.BOOT := by
    rw [hv, get_with_fw, hu]
    rfl
  rw [← hboot]
  rw [hf] at h
  subst hv hu
  rw [stageEnd, if_neg (not_not.mpr hinst)]
  exact if_pos h

theorem activate_pending {s : State} (hinst : s.inst = 0) (hpend : s.get FW_ACT.PEND = 1) :
    activate s = s.reply (if s.bit FW_ACT.DEFERRED then stDEFERRED else stOK) [] := by
  rw [activate, if_neg (not_not.mpr hinst), if_pos (bit_of_get hpend)]

theorem activate_notReady {s : State} (hinst : s.inst = 0) (hpend : s.get FW_ACT.PEND = 0) (hnone : s.fw.verified = none) :
    activate s = s.reply stNOTREADY [] := by
  rw [activate, if_neg (not_not.mpr hinst), bit_of_get_zero hpend, if_neg (by decide), hnone]
  rfl

theorem activate_acts {s : State} (hinst : s.inst = 0) (hpend : s.get FW_ACT.PEND = 0) (hsome : s.fw.verified.isSome = true) :
    activate s = if (s.put FW_ACT.PEND 1).settled then (s.put FW_ACT.PEND 1).reply stOK []
      else (((s.put FW_ACT.PEND 1).put FW_ACT.DEFERRED 1).ring kVL 4).reply stDEFERRED [] := by
  have hready : ¬ s.fw.verified.isNone = true := by
    rw [← Option.not_isSome, hsome]
    decide
  rw [activate, if_neg (not_not.mpr hinst), bit_of_get_zero hpend, if_neg (by decide), if_neg hready]

/-- CONFIRM ends a trial and raises the fused version (R547). -/
theorem confirm_trial {s u : State} (hinst : s.inst = 0) (htrial : s.directory.2.state = 1)
    (hu : u = dirWrite s.directory.2.active 0 s.directory.2.tries s) :
    confirm s = ({ u with efuse := { s.efuse with fused := max s.efuse.fused (u.get FW_STAT.SVN) } } : State).reply stOK [] := by
  subst hu
  rw [confirm, if_neg (not_not.mpr hinst)]
  exact if_pos htrial

theorem confirm_notReady {s : State} (hinst : s.inst = 0) (htrial : s.directory.2.state ≠ 1) :
    confirm s = s.reply stNOTREADY [] := by
  rw [confirm, if_neg (not_not.mpr hinst)]
  exact if_neg htrial

/-- Settles O46. -/
theorem yutreFirmwareOpcodesComplete : Obligations.YutreFirmwareOpcodesComplete := by
  refine ⟨?getFw, ?begin, ?data, ?finish, ?activate, ?cancel, ?confirm, ?heartbeat⟩
  case getFw =>
    intro m s h
    refine ⟨fun hnone => completes_accepted rfl h ?_, fun f hsome => completes_accepted rfl h ?_⟩
    · simp only [hnone]
    · obtain ⟨ver, svn⟩ := f
      simp only [hsome]
  case begin =>
    exact fun m s h => ⟨fun hinst => completes_accepted rfl h (if_pos hinst),
      fun ⟨hinst, hbusy⟩ => completes_accepted rfl h (stageBegin_busy hinst hbusy),
      fun ⟨⟨hinst, hpend, hdue⟩, hlong⟩ => completes_accepted rfl h ((stageBegin_free hinst hpend hdue).trans (if_pos hlong)),
      fun ⟨⟨hinst, hpend, hdue⟩, hfits⟩ =>
        completes_accepted rfl h ((stageBegin_free hinst hpend hdue).trans (if_neg (Nat.not_lt.mpr hfits)))⟩
  case data =>
    intro m data s ok h hok
    subst hok
    refine ⟨fun hinst => completes_accepted rfl h (if_pos hinst),
      fun hinst hnone => completes_accepted rfl h (stageData_notReady hinst hnone),
      fun len hinst hlen hbad => completes_accepted rfl h (stageData_bad hinst hlen hbad),
      fun len hinst hlen hdesc hfits hdata => ?_, fun len d u hinst hlen hdesc hfits hdata hu => ?_⟩
    · subst hdata
      exact completes_accepted rfl h (stageData_error hinst hlen hdesc hfits)
    · subst hdata
      exact completes_accepted rfl h (stageData_stores hinst hlen hdesc hfits hu)
  case finish =>
    intro m s u f v h hu hf hv
    refine ⟨fun hinst => completes_accepted rfl h (if_pos hinst), fun hinst => ⟨yutre m 0x603 stageEnd s, rfl, ?_⟩⟩
    have hreplied := yutre_accepted h stageEnd
    refine ⟨fun hbad => ?_, fun hgood hfail => ?_, fun hgood hrun => ?_⟩
    · rwa [stageEnd_refuses hinst hu hf hbad] at hreplied
    · rwa [stageEnd_verifies hinst hu hf hgood hv, if_pos hfail] at hreplied
    · rwa [stageEnd_verifies hinst hu hf hgood hv, if_neg hrun] at hreplied
  case activate =>
    refine fun m s h => ⟨fun hinst => completes_accepted rfl h (if_pos hinst),
      fun ⟨hinst, hpend, hdeferred⟩ => completes_accepted rfl h ((activate_pending hinst hpend).trans ?_),
      fun ⟨hinst, hpend, hnow⟩ => completes_accepted rfl h ((activate_pending hinst hpend).trans ?_),
      fun ⟨hinst, hpend, hnone⟩ => completes_accepted rfl h (activate_notReady hinst hpend hnone),
      fun ⟨⟨hinst, hpend, hsome⟩, hsettled⟩ => completes_accepted rfl h ((activate_acts hinst hpend hsome).trans (if_pos hsettled)),
      fun ⟨⟨hinst, hpend, hsome⟩, hwaits⟩ =>
        completes_accepted rfl h ((activate_acts hinst hpend hsome).trans (if_neg (by rw [hwaits]; decide)))⟩
    · rw [bit_of_get hdeferred, if_pos rfl]
    · rw [bit_of_get_zero hnow, if_neg (by decide)]
  case cancel =>
    exact fun m s h => ⟨fun hinst => completes_accepted rfl h (if_pos hinst),
      fun hinst => completes_accepted rfl h (if_neg (not_not.mpr hinst))⟩
  case confirm =>
    intro m s u d h hd hu
    subst hd
    exact ⟨fun hinst => completes_accepted rfl h (if_pos hinst),
      fun hinst htrial => completes_accepted rfl h (confirm_notReady hinst htrial),
      fun hinst htrial => completes_accepted rfl h (confirm_trial hinst htrial hu)⟩
  case heartbeat =>
    refine fun m s h hp => completes_accepted rfl h ?_
    rw [gated_permits hp]

end Sys2Proof.Machine

/-! PROOFS of the V12 sag sequence (spec/21_reset_and_holdup.md). What its events leave. -/

namespace Sys2Proof.Machine

open State

/-! ### The declaration (R639, R640, R648) -/

/-- A declaration counts the sag and records its TS. -/
def sagCounted (s : State) : State := (s.incSat HOLD_STAT.SAGS).put64 HOLD_SAG_TS_LO s.now

theorem sagCounted_leaves (s : State) :
    (sagCounted s).get HOLD_STAT.SAGS = min (s.get HOLD_STAT.SAGS + 1) 255 ∧
      (sagCounted s).num HOLD_SAG_TS_LO = s.now % 2 ^ 32 ∧ (sagCounted s).num HOLD_SAG_TS_HI = s.now / 2 ^ 32 ∧
      s.Frame (sagCounted s) [HOLD_STAT.SAGS, HOLD_SAG_TS_LO.TS, HOLD_SAG_TS_HI.TS] := by
  have hnow : s.now < 2 ^ 64 := s.ts.isLt
  unfold sagCounted
  refine ⟨?_, ?_, ?_, ?_, rfl⟩
  · rw [get_put64_other _ _ (by decide) (by decide), incSat, addSat, get_put_cut _ _ _ rfl]
    simp only [HOLD_STAT.SAGS]
    omega
  · rw [put64, State.num, State.wrN, rd_wr_other _ _ _ _ (by decide), ← State.num, num_wrN_same]
    omega
  · rw [put64, show HOLD_SAG_TS_HI = HOLD_SAG_TS_LO + 4 from rfl, num_wrN_same]
    omega
  · exact ((((KeepsBits.refl s).put HOLD_STAT.SAGS _).wr HOLD_SAG_TS_LO _).wr HOLD_SAG_TS_HI _).mono (by decide)

/-- The count and its TS touch no other register. -/
theorem sagCounted_get {f : Fld} (hstat : f.addr ≠ HOLD_STAT ∨ 23 < f.lo ∨ f.hi < 16) (hlo : f.addr ≠ HOLD_SAG_TS_LO)
    (hhi : f.addr ≠ HOLD_SAG_TS_HI) (s : State) : (sagCounted s).get f = s.get f := by
  rw [sagCounted, get_put64_other _ _ hlo hhi, incSat, addSat, get_put_other _ _ _ _ hstat]

/-- The frame that SEC has armed for this sequence, if any (R643). -/
def armedFrame (s : State) : Option Nat :=
  if s.inst = 0 ∧ s.bit HOLD_FRAME.ARMED then some (s.get HOLD_FRAME.FRAME) else none

theorem sagCounted_armedFrame (s : State) : armedFrame (sagCounted s) = armedFrame s := by
  have harmed : (sagCounted s).bit HOLD_FRAME.ARMED = s.bit HOLD_FRAME.ARMED := by
    rw [State.bit, sagCounted_get (.inl (by decide)) (by decide) (by decide), ← State.bit]
  rw [armedFrame, harmed, sagCounted_get (.inl (by decide)) (by decide) (by decide)]
  rfl

/-- The sequence begins: the declaration's TS, the capture edge to come and the armed frame (R640). -/
def sagBegun (u : State) : State :=
  holdEvent 0
    { u.put HOLD_STAT.STATE 1 with
      hold := { u.hold with
                decl := u.now, edgeDue := true, frame := armedFrame u, taken := none, todo := [], due := true } }

theorem sagBegun_rd (u : State) (a : Nat) : (sagBegun u).rd a = (u.put HOLD_STAT.STATE 1).rd a := rfl

theorem sagBegun_get (u : State) (f : Fld) : (sagBegun u).get f = (u.put HOLD_STAT.STATE 1).get f := rfl

theorem sagBegun_hidden (u : State) : (sagBegun u).hold.decl = u.now ∧ (sagBegun u).hold.edgeDue = true ∧
    (sagBegun u).hold.due = true ∧ (sagBegun u).hold.frame = armedFrame u ∧
    (sagBegun u).pst.port = u.pst.port ++ [32 * kHOLD] ∧ (sagBegun u).rst = u.rst := ⟨rfl, rfl, rfl, rfl, rfl, rfl⟩

theorem sagBegun_locked (s : State) : (sagBegun (sagCounted s)).locked = s.locked := by
  rw [locked, State.bit, sagBegun_get, get_put_reg _ _ _ _ (by decide),
    sagCounted_get (.inl (by decide)) (by decide) (by decide), ← State.bit, ← locked]

/-- An armed detector takes a declaration out of power-on reset and of a boundary scan (R639). -/
theorem sagDeclared_taken {s : State} (hen : s.get HOLD_CTRL.EN = 1) (hscan : s.rst.scan = false) (hpor : s.rst.por = false) :
    sagDeclared s = if s.holdState ≠ 0 then sagCounted s
      else if s.locked ∧ !s.rst.inst then sagEdge (sagBegun (sagCounted s)) else sagBegun (sagCounted s) := by
  have hacts : ¬ ((!s.bit HOLD_CTRL.EN) = true ∨ s.rst.scan = true ∨ s.rst.por = true) := by
    simp [bit_of_get hen, hscan, hpor]
  have hstate : s.holdState = (sagCounted s).holdState := (sagCounted_get (.inr (.inr (by decide))) (by decide) (by decide) s).symm
  rw [← sagBegun_locked s, hstate]
  exact if_neg hacts

theorem sagBegun_leaves (s : State) :
    (sagBegun (sagCounted s)).get HOLD_STAT.STATE = 1 ∧
      (sagBegun (sagCounted s)).get HOLD_STAT.SAGS = min (s.get HOLD_STAT.SAGS + 1) 255 ∧
      (sagBegun (sagCounted s)).num HOLD_SAG_TS_LO = s.now % 2 ^ 32 ∧
      (sagBegun (sagCounted s)).num HOLD_SAG_TS_HI = s.now / 2 ^ 32 ∧
      s.KeepsBits (sagBegun (sagCounted s)) [HOLD_STAT.STATE, HOLD_STAT.SAGS, HOLD_SAG_TS_LO.TS, HOLD_SAG_TS_HI.TS] := by
  obtain ⟨hsags, hlo, hhi, hkeeps, -⟩ := sagCounted_leaves s
  refine ⟨?_, ?_, ?_, ?_, (hkeeps.put HOLD_STAT.STATE 1).of_regs rfl⟩
  · rw [sagBegun_get, get_put_fit _ _ _ rfl]
  · rw [sagBegun_get, get_put_apart _ _ _ _ rfl, hsags]
  · rw [State.num, sagBegun_rd, rd_put_other _ _ _ _ (by decide), ← State.num, hlo]
  · rw [State.num, sagBegun_rd, rd_put_other _ _ _ _ (by decide), ← State.num, hhi]

/-! ### The stop of the front stage and the end of the sequence (R641, R646, R647) -/

theorem sagFrontStop_stops {s : State} (hstate : s.holdState ≠ 0) (hruns : s.fsRuns = true)
    (h : s.liveRegions.all (fun n => s.rgnState n == 5) = true ∨ s.hold.decl + 800 * s.get HOLD_CTRL.FS_TO ≤ s.now) :
    sagFrontStop s = frontFault 9 s := if_pos ⟨hstate, hruns, h⟩

theorem execFrontStopSag_runs {e : Dword} {s z : State} (hz : z = s.advanceTo e) (hstate : z.holdState ≠ 0)
    (hruns : z.fsRuns = true) :
    execFrontStopSag e s = .next (if z.liveRegions.all (fun n => z.rgnState n == 5) then sagFrontStop z
      else sagFrontStop (z.advanceTo (BitVec.ofNat 64 (z.hold.decl + 800 * z.get HOLD_CTRL.FS_TO)))) := by
  subst hz
  exact congrArg Host.Outcome.next (if_neg (by simp [hstate, hruns]))

/-- What the events of the sequence ask of the state, time leaves as it is. -/
theorem holdViews_adv (s : State) (e : Dword) :
    (s.advanceTo e).holdState = s.holdState ∧ (s.advanceTo e).fsRuns = s.fsRuns ∧
      (s.advanceTo e).liveRegions = s.liveRegions ∧ (s.advanceTo e).rgnState = s.rgnState ∧
      (s.advanceTo e).unsaved = s.unsaved ∧ (s.advanceTo e).inst = s.inst := by
  rw [advanceTo_eq]
  exact ⟨rfl, rfl, rfl, rfl, rfl, rfl⟩

/-- A save that has timed out marks it, and raises HOLD_SAVE (R646). -/
theorem completes_saveTimeout {e : Dword} {s u : State} {post : State → Prop} (hstate : s.holdState ≠ 0)
    (hunsaved : s.unsaved = true) (hu : u = (s.advanceTo e).advanceTo (BitVec.ofNat 64 (s.hold.decl + 25600000)))
    (hpost : post (saveRaise (saveMark u))) : Completes (.saveTimeout e) s post := by
  obtain ⟨hstate', -, -, -, hunsaved', -⟩ := holdViews_adv s e
  refine ⟨_, congrArg Host.Outcome.next (saveTimeout_run ⟨hstate'.trans_ne hstate, hunsaved'.trans hunsaved⟩), ?_⟩
  rwa [advanceTo_hold, ← hu]

/-- What a timed-out save leaves, raised or not. -/
theorem saveMark_leaves (u : State) :
    (saveRaise (saveMark u)).ts = u.ts ∧ (saveRaise (saveMark u)).get HOLD_STAT.TIMEOUT = 1 ∧
      (saveRaise (saveMark u)).pst.port = u.pst.port ++ [32 * kHOLD + 3] ∧
      u.KeepsBits (saveRaise (saveMark u)) [HOLD_STAT.TIMEOUT] := by
  refine ⟨(saveRaise_ts _).trans (saveMark_ts u), ?_, ?_, (saveMark_keeps u).of_regs (saveRaise_regs _)⟩
  · rw [get_of_regs (saveRaise_regs _), saveMark_timeout]
  · rw [saveRaise_pst, saveMark_port]

/-- The end of a sequence (R647): STATE is 0 and HOLD offset 1 is written. -/
def sagEnded (s : State) : State := holdEvent 1 (s.put HOLD_STAT.STATE 0)

theorem sagEnded_leaves (s : State) : (sagEnded s).holdState = 0 ∧
    (sagEnded s).pst.port = s.pst.port ++ [32 * kHOLD + 1] ∧ s.KeepsBits (sagEnded s) [HOLD_STAT.STATE] := by
  unfold sagEnded holdEvent
  refine ⟨?_, ring_port _ _ _, ((KeepsBits.refl s).put HOLD_STAT.STATE 0).of_regs rfl⟩
  rw [holdState, State.ring, get_with_pst, get_put_fit _ _ _ rfl]

/-- With no record kept for an armed frame of instance 0 nothing more is saved (R646). -/
theorem sagEnd_holding {s : State} (hstate : s.holdState = 3)
    (h : s.inst ≠ 0 ∨ s.get HOLD_FRAME.ARMED = 0 ∨ s.hold.kept = []) : sagEnd s = sagEnded s := by
  have harmed : (sagEnded s).get HOLD_FRAME.ARMED = s.get HOLD_FRAME.ARMED := by
    unfold sagEnded holdEvent
    rw [State.ring, get_with_pst, get_put_reg _ _ _ _ (by decide)]
  have hnone : keptSave (sagEnded s) = sagEnded s := if_neg fun ⟨hinst, hbit, _, hkept⟩ => by
    rcases h with h | h | h
    · exact h hinst
    · rw [bit_of_get_zero (harmed.trans h)] at hbit
      exact absurd hbit (by decide)
    · rw [show (sagEnded s).hold.kept = [] from h] at hkept
      exact absurd hkept (by decide)
  exact (if_pos (.inl hstate)).trans hnone

/-! ### Records (R642, R644) -/

/-- A record programmed on an instance other than 0 leaves its bit in DONE and is off the list (R644). -/
def recordDone (k : Nat) (s : State) : State :=
  { s.put HOLD_STAT.DONE (setBitN (s.get HOLD_STAT.DONE) k) with hold := { s.hold with todo := s.hold.todo.drop 1 } }

theorem savesDone_left {s : State} (h : s.hold.todo.isEmpty = false) : savesDone s = s := if_neg (by rw [h]; decide)

theorem recordProgrammed_elsewhere {k : Nat} {ws : List Word} {s : State} (hhead : s.hold.todo.head? = some k)
    (hinst : s.inst ≠ 0) (hmore : s.hold.todo.length ≠ 1) : recordProgrammed k ws s = recordDone k s := by
  have hleft : (s.hold.todo.drop 1).isEmpty = false := by
    cases hlist : s.hold.todo with
    | nil => rw [hlist] at hhead; cases hhead
    | cons x l =>
      cases l with
      | nil => rw [hlist] at hmore; exact absurd rfl hmore
      | cons y l => rfl
  have hdone : savesDone (recordDone k s) = recordDone k s := savesDone_left hleft
  unfold recordProgrammed
  rw [if_pos hhead]
  cases hframe : s.hold.frame with
  | none => exact hdone
  | some f =>
    simp only [if_neg hinst]
    exact hdone

theorem recordDone_leaves {k : Nat} (hk : k < 4) (s : State) :
    (recordDone k s).get HOLD_STAT.DONE = setBitN (s.get HOLD_STAT.DONE) k ∧
      (recordDone k s).hold.todo = s.hold.todo.drop 1 ∧ s.KeepsBits (recordDone k s) [HOLD_STAT.DONE] := by
  refine ⟨?_, rfl, ((KeepsBits.refl s).put HOLD_STAT.DONE _).of_regs rfl⟩
  unfold recordDone
  rw [get_with_hold, get_put_cut _ _ _ rfl]
  exact Nat.mod_eq_of_lt (setBitN_lt_16 _ (fldGet_lt _ _ _) k hk)

/-- Words stored elsewhere leave a register. -/
theorem each_wr_rd_other {f : Nat → Nat} {a : Nat} {l : List (Word × Nat)} (h : ∀ e ∈ l, a ≠ f e.2) (s : State) :
    (s.each l fun s e => s.wr (f e.2) e.1).rd a = s.rd a := by
  induction l generalizing s with
  | nil => rfl
  | cons e l ih =>
    exact (ih (fun e he => h e (List.mem_cons_of_mem _ he)) _).trans (rd_wr_other _ _ _ _ (h e List.mem_cons_self))

/-- Words stored one after the other, at different places, all stand there afterwards. -/
theorem each_wr_rd {f : Nat → Nat} (hf : ∀ i j, f i = f j → i = j) (ws : List Word) (n : Nat) (s : State) {w : Nat}
    (hlo : n ≤ w) (hhi : w < n + ws.length) :
    (s.each (ws.zipIdx n) fun s e => s.wr (f e.2) e.1).rd (f w) = ws.getD (w - n) 0 := by
  induction ws generalizing n s with
  | nil => exact absurd hhi (by simpa using hlo)
  | cons v ws ih =>
    rw [List.zipIdx_cons]
    change ((s.wr (f n) v).each (ws.zipIdx (n + 1)) fun s e => s.wr (f e.2) e.1).rd (f w) = _
    rcases Nat.eq_or_lt_of_le hlo with rfl | hlt
    · rw [each_wr_rd_other, rd_wr_same, Nat.sub_self]
      · rfl
      · intro e he heq
        have hidx := (List.mem_zipIdx he).1
        have := hf _ _ heq
        omega
    · rw [ih (n + 1) _ hlt (by simp only [List.length_cons] at hhi; omega)]
      obtain ⟨k, hk⟩ := Nat.exists_eq_add_of_lt hlt
      subst hk
      rw [show n + k + 1 - n = k + 1 by omega, show n + k + 1 - (n + 1) = k by omega]
      rfl

/-- The words that the AON island and the capture give are taken at the capture: later time does not change them. -/
theorem crashRecord_adv (s : State) (e : Dword) (missing : List Nat) :
    (s.advanceTo e).crashRecord missing = s.crashRecord missing := by
  rw [advanceTo_eq]
  rfl

theorem crashRecord_length (s : State) (missing : List Nat) : (s.crashRecord missing).length = 1024 := by
  simp [crashRecord]

/-- A record stands in the AON buffer. -/
def recordStored (ws : List Word) (s : State) : State := s.each ws.zipIdx fun s e => s.wr (aonBuffer e.2) e.1

theorem recordStored_hold (ws : List Word) (s : State) : (recordStored ws s).hold = s.hold :=
  each_field State.hold ws.zipIdx _ s fun _ _ => rfl

theorem recordStored_inst (ws : List Word) (s : State) : (recordStored ws s).inst = s.inst :=
  each_field State.inst ws.zipIdx _ s fun _ _ => rfl

theorem recordStored_rd {ws : List Word} (s : State) {w : Nat} (h : w < ws.length) :
    (recordStored ws s).rd (aonBuffer w) = ws.getD w 0 :=
  each_wr_rd (fun i j => by unfold aonBuffer; omega) ws 0 s (Nat.zero_le w) (by rwa [Nat.zero_add])

/-- An instance that answers instance 0 has its record to send: its save starts (R643). -/
def captureKept (w : State) : State :=
  { w.put HOLD_STAT.STATE 2 with
    hold := { w.hold with taken := none, due := false, kept := [], saves := w.hold.saves + 1, todo := [w.inst] } }

theorem captureDone_complete {missing peers : List Nat} {s w : State} (hstate : s.holdState = 1) (hdue : s.hold.due = true)
    (hedge : s.hold.edgeDue = false) (hcut : s.hold.cut = false) (hinst : s.inst ≠ 0) (htaken : s.hold.taken.isSome = true)
    (hpeers : peers.contains 0 = true) (hw : w = recordStored (s.crashRecord []) s) :
    captureDone missing peers s = captureKept w := by
  have hstarts : ¬ (s.holdState ≠ 1 ∨ (!s.hold.due) = true) := by simp [hstate, hdue]
  have hwhole : (s.hold.taken.isNone || !([] : List Nat).isEmpty) = false := by
    rw [← Option.not_isSome, htaken]
    rfl
  have hinst' : w.inst ≠ 0 := by rwa [hw, recordStored_inst]
  unfold captureDone
  rw [if_neg hstarts]
  simp only [hedge, hcut, Bool.false_eq_true, if_false, hwhole]
  rw [← recordStored, ← hw]
  exact (if_neg hinst').trans (if_pos hpeers)

theorem captureKept_leaves (ws : List Word) (s w : State) (hlen : ws.length = 1024) (hw : w = recordStored ws s) :
    (captureKept w).holdState = 2 ∧ (captureKept w).hold.todo = [s.inst] ∧
      (captureKept w).hold.saves = s.hold.saves + 1 ∧ (captureKept w).hold.taken = none ∧
      (captureKept w).hold.due = false ∧ ∀ k < 1024, (captureKept w).rd (aonBuffer k) = ws.getD k 0 := by
  have hhold : w.hold = s.hold := by rw [hw, recordStored_hold]
  have hinst : w.inst = s.inst := by rw [hw, recordStored_inst]
  unfold captureKept
  refine ⟨?_, congrArg (fun i => [i]) hinst, congrArg (fun h => h.saves + 1) hhold, rfl, rfl, fun k hk => ?_⟩
  · rw [holdState, get_with_hold, get_put_fit _ _ _ rfl]
  · rw [rd_with_hold, rd_put_other _ _ _ _ (by unfold aonBuffer HOLD_STAT.STATE HOLD_STAT; simp only; omega), hw,
      recordStored_rd _ (hlen ▸ hk)]

/-- Settles O16. That the capture edge waits while instance reset stands, and the peers of the capture, are log entry 102. -/
theorem sagSequenceCommandsComplete : Obligations.SagSequenceCommandsComplete := by
  refine ⟨?again, ?begins, ?stop, ?stopLater, ?timeout, ?timeoutHeld, ?ends, ?kept, ?programmed, ?captured⟩
  case again =>
    intro e s hen hscan hpor hstate
    obtain ⟨hstate', -⟩ := holdViews_adv s e
    obtain ⟨hsags, hlo, hhi, hframe⟩ := sagCounted_leaves (s.advanceTo e)
    rw [State.advanceTo_get] at hsags
    refine ⟨sagCounted (s.advanceTo e), congrArg Host.Outcome.next ?_, hsags, hlo, hhi, hframe⟩
    rw [sagDeclared_taken (by rwa [State.advanceTo_get]) (by rwa [advanceTo_rst]) (by rwa [advanceTo_rst]), hstate',
      if_pos hstate]
  case begins =>
    intro e s hen hscan hpor hstate
    obtain ⟨hstate', -, -, -, -, hinst⟩ := holdViews_adv s e
    obtain ⟨u, hu⟩ : ∃ u, u = sagBegun (sagCounted (s.advanceTo e)) := ⟨_, rfl⟩
    obtain ⟨hst, hsags, hlo, hhi, hkeeps⟩ := sagBegun_leaves (s.advanceTo e)
    obtain ⟨hdecl, hedge, hdue, hframe, hport, -⟩ := sagBegun_hidden (sagCounted (s.advanceTo e))
    rw [← hu] at hst hsags hlo hhi hkeeps hdecl hedge hdue hframe hport
    rw [State.advanceTo_get] at hsags
    rw [sagCounted_armedFrame] at hframe
    refine ⟨_, congrArg Host.Outcome.next (sagDeclared_taken (by rwa [State.advanceTo_get]) (by rwa [advanceTo_rst])
      (by rwa [advanceTo_rst])), u, ?_, hst, hsags, hlo, hhi, hdecl, hedge, hdue, hframe.trans ?_, ?_,
      ((adv_keeps s e).mono (by simp)).trans hkeeps⟩
    · rw [hstate', if_neg (not_not.mpr hstate), locked_adv, advanceTo_rst, hu]
    · rw [armedFrame, hinst, State.bit, State.advanceTo_get, State.advanceTo_get, ← State.bit]
    · exact hport.trans (congrArg (fun p => p.port ++ _) (advanceTo_pst s e))
  case stop =>
    intro e s hstate hruns hall
    obtain ⟨hstate', hruns', hlive, hrgn, -⟩ := holdViews_adv s e
    refine ⟨_, execFrontStopSag_runs rfl (hstate'.trans_ne hstate) (hruns'.trans hruns), ?_⟩
    rw [hlive, hrgn, if_pos hall]
    exact sagFrontStop_stops (hstate'.trans_ne hstate) (hruns'.trans hruns) (.inl (by rw [hlive, hrgn, hall]))
  case stopLater =>
    intro e s hstate hruns hall
    obtain ⟨hstate', hruns', hlive, hrgn, -⟩ := holdViews_adv s e
    obtain ⟨u, hu⟩ : ∃ u, u = (s.advanceTo e).advanceTo (BitVec.ofNat 64 (s.hold.decl + 800 * s.get HOLD_CTRL.FS_TO)) :=
      ⟨_, rfl⟩
    obtain ⟨hstate'', hruns'', -⟩ := holdViews_adv (s.advanceTo e) (BitVec.ofNat 64 (s.hold.decl + 800 * s.get HOLD_CTRL.FS_TO))
    rw [← hu, hstate'] at hstate''
    rw [← hu, hruns'] at hruns''
    have hover : u.hold.decl + 800 * u.get HOLD_CTRL.FS_TO = s.hold.decl + 800 * s.get HOLD_CTRL.FS_TO := by
      rw [hu, advanceTo_hold, advanceTo_hold, State.advanceTo_get, State.advanceTo_get]
    refine ⟨_, execFrontStopSag_runs rfl (hstate'.trans_ne hstate) (hruns'.trans hruns), u, hu, fun hnow => ?_⟩
    rw [hlive, hrgn, if_neg (by rw [hall]; decide), advanceTo_hold, State.advanceTo_get, ← hu]
    exact sagFrontStop_stops (hstate''.trans_ne hstate) (hruns''.trans hruns) (.inr (hover ▸ hnow))
  case timeout =>
    intro e s hstate hunsaved hlock hgood hrun
    obtain ⟨u, hu⟩ : ∃ u, u = (s.advanceTo e).advanceTo (BitVec.ofNat 64 (s.hold.decl + 25600000)) := ⟨_, rfl⟩
    obtain ⟨hts, hmark, hport, hkeeps⟩ := saveMark_leaves u
    obtain ⟨hdue, hpulses⟩ := saveRaise_done (saveMark_due u)
      (by rw [saveMark_locked, hu, locked_adv, locked_adv, hlock])
      (by rw [saveMark_good, hu, State.advanceTo_get, State.advanceTo_get, hgood])
      (by rw [saveMark_rst, hu, advanceTo_rst, advanceTo_rst, hrun])
    rw [saveMark_pulses] at hpulses
    exact completes_saveTimeout hstate hunsaved hu ⟨u, hu, hts, hmark, hdue, hpulses, hport, hkeeps⟩
  case timeoutHeld =>
    intro e s hstate hunsaved hlock
    obtain ⟨u, hu⟩ : ∃ u, u = (s.advanceTo e).advanceTo (BitVec.ofNat 64 (s.hold.decl + 25600000)) := ⟨_, rfl⟩
    obtain ⟨hts, hmark, hport, hkeeps⟩ := saveMark_leaves u
    have hheld : saveRaise (saveMark u) = saveMark u :=
      saveRaise_unlocked (by rw [saveMark_locked, hu, locked_adv, locked_adv, hlock])
    exact completes_saveTimeout hstate hunsaved hu ⟨u, hu, hts, hmark, by rw [hheld, saveMark_due], hport, hkeeps⟩
  case ends =>
    intro e s hstate hkept
    obtain ⟨hstate', -, -, -, -, hinst'⟩ := holdViews_adv s e
    have hends := sagEnd_holding (s := s.advanceTo e) (hstate'.trans hstate) (by rwa [hinst', State.advanceTo_get, advanceTo_hold])
    obtain ⟨hst, hport, hkeeps⟩ := sagEnded_leaves (s.advanceTo e)
    rw [advanceTo_pst] at hport
    exact ⟨_, congrArg Host.Outcome.next hends, hst, hport, ((adv_keeps s e).mono (by simp)).trans hkeeps⟩
  case kept =>
    intro s hinst harmed hidle hkept
    exact if_pos ⟨hinst, bit_of_get harmed, hidle, by simpa using hkept⟩
  case programmed =>
    intro e k ws s hhead hinst hmore
    obtain ⟨-, -, -, -, -, hinst'⟩ := holdViews_adv s e
    have hrec := recordProgrammed_elsewhere (ws := ws) (by rwa [advanceTo_hold]) (hinst'.trans_ne hinst)
      (by rwa [advanceTo_hold])
    obtain ⟨hdone, htodo, hkeeps⟩ := recordDone_leaves k.isLt (s.advanceTo e)
    rw [State.advanceTo_get] at hdone
    rw [advanceTo_hold] at htodo
    exact ⟨_, congrArg Host.Outcome.next hrec, hdone, htodo, ((adv_keeps s e).mono (by simp)).trans hkeeps⟩
  case captured =>
    intro e miss peers s hstate hdue hedge hcut hinst htaken hpeers
    obtain ⟨hstate', -, -, -, -, hinst'⟩ := holdViews_adv s e
    have hcapture := captureDone_complete (missing := miss.map (·.val)) (peers := peers.map (·.val)) (hstate'.trans hstate)
      (by rwa [advanceTo_hold]) (by rwa [advanceTo_hold]) (by rwa [advanceTo_hold]) (hinst'.trans_ne hinst)
      (by rwa [advanceTo_hold]) (by simpa using hpeers) rfl
    rw [crashRecord_adv] at hcapture
    obtain ⟨hst, htodo, hsaves, htaken', hdue', hwords⟩ := captureKept_leaves _ (s.advanceTo e) _
      (crashRecord_length s []) rfl
    rw [hinst'] at htodo
    rw [advanceTo_hold] at hsaves
    exact ⟨_, congrArg Host.Outcome.next hcapture, hst, htodo, hsaves, htaken', hdue', hwords⟩

end Sys2Proof.Machine

/-! PROOFS of the remote writes of Coupler (spec/12_coupler.md). What writes, commits, windows, completion records and transmit
sets leave. -/

namespace Sys2Proof.Machine

open State

/-! ### Windows (R427, R428) -/

/-- A write of the memories leaves Coupler's hidden state. -/
theorem memUe_cplr (m o : Nat) (s : State) : (memUe m o s).cplr = s.cplr := by
  unfold memUe
  dsimp only
  split <;> rfl

theorem memWritten_cplr (m b : Nat) (os : List Nat) (s : State) : (memWritten m b os s).cplr = s.cplr := by
  unfold memWritten
  refine each_field State.cplr _ _ _ fun t w => ?_
  simp [drawFree, apply_ite State.cplr, memUe_cplr]

theorem rwLand_cplr (off be : Nat) (lo hi : Word) (s : State) : (rwLand off be lo hi s).cplr = s.cplr :=
  memWritten_cplr _ _ _ s

/-- The windows that stand once one is replaced or closed. -/
theorem rwPut_wins (peer win : Nat) (w : Option RwWindow) (s : State) :
    (rwPut peer win w s).cplr =
      { s.cplr with wins := (s.cplr.wins.filter fun w => !(w.peer == peer && w.win == win)) ++ w.toList } := rfl

theorem rwPut_open (peer win : Nat) (w : Option RwWindow) (s : State) :
    (rwPut peer win w s).get CPLR_RW_OPEN.OPEN = (rwPut peer win w s).cplr.wins.length % 128 :=
  get_put_cut _ _ _ rfl

theorem rwPut_keepsBits (peer win : Nat) (w : Option RwWindow) (s : State) :
    s.KeepsBits (rwPut peer win w s) [CPLR_RW_OPEN.OPEN] := by
  unfold rwPut
  exact KeepsBits.put (u := s) (keeps_regs_eq rfl) _ _

/-- A window that is closed is found no more. -/
theorem rwFind_rwPut_none (peer win : Nat) (s : State) : (rwPut peer win none s).rwFind peer win = none := by
  rw [rwFind, rwPut_wins, List.find?_eq_none]
  intro w hw
  simp only [Option.toList_none, List.append_nil] at hw
  simpa [imp_iff_not_or] using (List.mem_filter.mp hw).2

/-- Closing a window leaves every other. -/
theorem rwFind_rwPut_other {peer win p x : Nat} (h : (p, x) ≠ (peer, win)) (s : State) :
    (rwPut peer win none s).rwFind p x = s.rwFind p x := by
  have hother : ∀ w : RwWindow, (w.peer == p && w.win == x) = true → (!(w.peer == peer && w.win == win)) = true := fun w hw => by
    simp only [Bool.and_eq_true, beq_iff_eq] at hw
    obtain ⟨rfl, rfl⟩ := hw
    simpa [Prod.ext_iff, imp_iff_not_or] using h
  unfold rwFind
  rw [rwPut_wins]
  simp only [Option.toList_none, List.append_nil, List.find?_filter]
  congr 1
  funext w
  cases hw : (w.peer == p && w.win == x)
  · simp
  · simp [hother w hw]

/-! ### A remote write (R426, R428) -/

/-- An acceptable write: enabled bytes of one 8-byte word between the two limits (R426). -/
def rwFits (off be : Nat) (s : State) : Prop :=
  off % 8 = 0 ∧ be ≠ 0 ∧ s.get CPLR_RW_BASE.BASE ≤ off ∧ off + 8 ≤ s.get CPLR_RW_LIM.LIM ∧ off + 8 ≤ 262144

section Accept

variable {pr win be sq off : Nat} {c : Bool} {lo hi : Word} {s u : State} {w : RwWindow}

theorem rwAccept_rejected (h : off % 8 ≠ 0 ∨ be = 0 ∨ off < s.get CPLR_RW_BASE.BASE ∨ s.get CPLR_RW_LIM.LIM < off + 8 ∨
    262144 < off + 8) : rwAccept pr win be c sq off lo hi s = s.incSat CPLR_CNT.RW_REJ := if_pos h

theorem rwFits.accepts (h : rwFits off be s) : ¬ (off % 8 ≠ 0 ∨ be = 0 ∨ off < s.get CPLR_RW_BASE.BASE ∨
    s.get CPLR_RW_LIM.LIM < off + 8 ∨ 262144 < off + 8) := by
  obtain ⟨halign, hbe, hbase, hlim, hram⟩ := h
  omega

/-- A write of a window closed incomplete, older than its commit, is late (R428). -/
theorem rwAccept_late (hfits : rwFits off be s) (hnone : s.rwFind pr win = none)
    (hold : (s.cplr.late.any fun e => e.1 == pr && e.2.1 == win && decide (sq < e.2.2)) = true) :
    rwAccept pr win be c sq off lo hi s = s.incSat CPLR_CNT.RW_LATE := by
  unfold rwAccept
  rw [if_neg hfits.accepts, if_pos ⟨by rw [hnone]; rfl, hold⟩]

/-- The sequence numbers kept of a window that has closed incomplete are forgotten with its next write (log entry 66). -/
def lateForgotten (pr win : Nat) (s : State) : State :=
  { s with cplr := { s.cplr with late := s.cplr.late.filter fun e => !(e.1 == pr && e.2.1 == win) } }

/-- A write into an open window lands, a commit is held (R427). -/
theorem rwAccept_open (hfits : rwFits off be s) (hfind : s.rwFind pr win = some w) (hu : u = lateForgotten pr win s) :
    rwAccept pr win be c sq off lo hi s =
      if c then rwPut pr win (some { w with held := some ⟨sq, off, be, lo, hi, s.now⟩, last := s.now }) u
      else rwPut pr win (some { w with landed := w.landed ++ [sq], last := s.now }) (rwLand off be lo hi u) := by
  subst hu
  unfold rwAccept
  rw [if_neg hfits.accepts, hfind, if_neg (by simp), if_neg (by simp)]
  rfl

end Accept

/-- A count of a byte goes up by one, and stays at 255. -/
theorem incSat_byte {f : Fld} (hwidth : f.hi = f.lo + 7) (htop : f.hi < 32) (s : State) :
    (s.incSat f).get f = min (s.get f + 1) 255 ∧ s.Frame (s.incSat f) [f] :=
  ⟨get_addSat_byte hwidth htop s 1, frame_put ..⟩

/-! ### Transmit sets (R425) -/

/-- The remote write that set q describes. -/
def txMessage (q commit : Nat) (s : State) : List Word :=
  s.message 0x0A commit (s.get (CPLR_TX_CTL.SEQ q))
    (s.num (CPLR_TX_DST q) + 2 ^ 32 * (s.get (CPLR_TX_CTL.WIN q) + 256 * s.get (CPLR_TX_CTL.BE q)))
    [s.num (CPLR_TX_DATA_LO q), s.num (CPLR_TX_DATA_HI q), s.num (CPLR_TX_ADDR q)]

/-- The set's queue once a message is appended. -/
def txAppended (q : Nat) (ws : List Word) (s : State) : State :=
  { s with cplr := { s.cplr with tx := mapSet [] s.cplr.tx q (s.txQueue q ++ [ws]) } }

theorem txCommand_full {q : Nat} {v : Word} {s : State} (hv : fldGet v 1 0 ≠ 0) (hfull : 8 ≤ (s.txQueue q).length) :
    txCommand q v s = s.put (CPLR_TX_STAT.OVF q) 1 := (if_neg hv).trans (if_pos hfull)

theorem txCommand_appends {q : Nat} {v : Word} {s : State} (hv : fldGet v 1 0 ≠ 0) (hroom : (s.txQueue q).length < 8) :
    txCommand q v s =
      (txAppended q (txMessage q (fldGet v 1 1) s) s).put (CPLR_TX_STAT.N q) ((s.txQueue q).length + 1) :=
  (if_neg hv).trans (if_neg (Nat.not_le.mpr hroom))

/-- SEND and COMMIT append one message and count it. -/
theorem txAppended_leaves {q : Nat} {ws : List Word} {s t : State} (hroom : (s.txQueue q).length < 8)
    (ht : t = (txAppended q ws s).put (CPLR_TX_STAT.N q) ((s.txQueue q).length + 1)) :
    t.txQueue q = s.txQueue q ++ [ws] ∧ t.get (CPLR_TX_STAT.N q) = (s.txQueue q).length + 1 ∧
      (txAppended q ws s).Frame t [CPLR_TX_STAT.N q] := by
  subst ht
  refine ⟨mapGet_mapSet_same _ _ _ _, ?_, frame_put ..⟩
  rw [get_put_cut _ _ _ rfl]
  exact Nat.mod_eq_of_lt (by simp only [CPLR_TX_STAT.N]; omega)

theorem completes_txCommand {i : Instr} {req : Requester} {q : Nat} {v : Word} {s : State} {l : List (List Word)}
    {ws : List Word} (hexec : exec i s = .next (gated req (CPLR_TX_CMD q) v (txCommand q) s))
    (hp : s.Permits req (CPLR_TX_CMD q) v) (hv : fldGet v 1 0 ≠ 0) (hl : l = s.txQueue q) (hroom : l.length < 8)
    (hws : ws = txMessage q (fldGet v 1 1) s) :
    Completes i s fun t => t.txQueue q = l ++ [ws] ∧ t.get (CPLR_TX_STAT.N q) = l.length + 1 ∧
      State.Frame { s with cplr := { s.cplr with tx := mapSet [] s.cplr.tx q (l ++ [ws]) } } t [CPLR_TX_STAT.N q] := by
  subst hl hws
  exact completes_permitted hexec hp (txCommand_appends hv hroom) (txAppended_leaves hroom rfl)

theorem completes_txCommand_full {i : Instr} {req : Requester} {q : Nat} {v : Word} {s : State}
    (hexec : exec i s = .next (gated req (CPLR_TX_CMD q) v (txCommand q) s)) (hp : s.Permits req (CPLR_TX_CMD q) v)
    (hv : fldGet v 1 0 ≠ 0) (hfull : 8 ≤ (s.txQueue q).length) :
    Completes i s fun t => t.get (CPLR_TX_STAT.OVF q) = 1 ∧ s.Frame t [CPLR_TX_STAT.OVF q] :=
  completes_permitted hexec hp (txCommand_full hv hfull) ⟨get_put_fit _ _ _ rfl, frame_put ..⟩

/-! ### Commits and completion records (R427, R428) -/

theorem rwFind_adv (s : State) (e : Dword) (pr win : Nat) : (s.advanceTo e).rwFind pr win = s.rwFind pr win := by
  rw [rwFind, advanceTo_cplr, ← rwFind]

/-- A held commit lands once every earlier write has landed, or at its time limit, while fewer than 64 records stand. -/
theorem commitDue_held {pr win : Nat} {timeout : Bool} {s y : State} {w : RwWindow} {h : HeldCommit}
    (hfind : s.rwFind pr win = some w) (hheld : w.held = some h)
    (hy : y = if timeout then s.advanceTo (BitVec.ofNat 64 (h.since + 800 * s.get CPLR_RW_TO.TO)) else s) :
    commitDue pr win timeout s =
      if (timeout || w.complete h.seq) && decide (y.cplr.recs.length < 64) then
        peerPost pr win timeout (commitLand w h timeout y) else y := by
  subst hy
  unfold commitDue
  rw [hfind]
  dsimp only
  rw [hheld]

/-- A commit that lands in full appends its record, raises RWC and closes its window. -/
theorem commitLand_leaves {w : RwWindow} {h : HeldCommit} {s t : State} (ht : t = commitLand w h false s) :
    t.cplr.recs = s.cplr.recs ++ [(BitVec.ofNat 32 (2 ^ 31 + w.win * 65536 + (w.landed.length + 1) % 65536), w.peer)] ∧
      t.get CPLR_EVT.RWC = 1 ∧ t.cplr.late = s.cplr.late ∧ t.rwFind w.peer w.win = none := by
  obtain ⟨u, hu⟩ : ∃ u, u = rwPut w.peer w.win none (rwLand h.off h.be h.lo h.hi s) := ⟨_, rfl⟩
  have hrecs : u.cplr.recs = s.cplr.recs := by rw [hu, rwPut_wins, rwLand_cplr]
  have hlate : u.cplr.late = s.cplr.late := by rw [hu, rwPut_wins, rwLand_cplr]
  have hclosed : u.rwFind w.peer w.win = none := hu ▸ rwFind_rwPut_none _ _ _
  have hland : t = cplrEvent CPLR_EVT.RWC 2 { u with cplr := { u.cplr with
      recs := u.cplr.recs ++ [(BitVec.ofNat 32 (2 ^ 31 + w.win * 65536 + (w.landed.length + 1) % 65536), w.peer)] } } := by
    rw [ht, hu]
    simp only [commitLand, Bool.toNat_false, Nat.zero_mul, Nat.add_zero]
    rfl
  rw [← hrecs, ← hlate, hland]
  refine ⟨rfl, ?_, rfl, hclosed⟩
  rw [cplrEvent, State.ring, get_with_pst, get_put_fit _ _ _ rfl]

/-- Settles O36. The sequence numbers kept after an INCOMPLETE commit, and when they are forgotten, are log entry 66. -/
theorem remoteWriteCommandsComplete : Obligations.RemoteWriteCommandsComplete := by
  refine ⟨?write, ?rejected, ?opened, ?late, ?send, ?commit, ?full, ?held, fun w h s t ht => commitLand_leaves ht, ?idle, ?records, ?closed⟩
  case write =>
    intro e pr win be c sq lo hi off s u hu hon hrun
    subst hu
    have hon' : (s.advanceTo e).cplrOn = true := bit_of_get ((State.advanceTo_get ..).trans hon)
    exact completes_running rfl hrun (if_pos hon') rfl
  case rejected =>
    intro pr win be c sq off lo hi s h
    rw [rwAccept_rejected h]
    exact incSat_byte rfl (by decide) s
  case opened =>
    intro pr win be sq off lo hi s w u halign hbe hbase hlim hram hfind hu
    have hfits : rwFits off be s := ⟨halign, hbe, hbase, hlim, hram⟩
    exact ⟨rwAccept_open hfits hfind hu, rwAccept_open hfits hfind hu⟩
  case late =>
    intro pr win be c sq off lo hi s halign hbe hbase hlim hram hnone hold
    rw [rwAccept_late ⟨halign, hbe, hbase, hlim, hram⟩ hnone hold]
    exact incSat_byte rfl (by decide) s
  case send => exact fun req q s l ws hp hl hroom hws => completes_txCommand rfl hp (by decide) hl hroom hws
  case commit => exact fun req q s l ws hp hl hroom hws => completes_txCommand rfl hp (by decide) hl hroom hws
  case full =>
    exact fun req q s hfull => ⟨fun hp => completes_txCommand_full rfl hp (by decide) hfull,
      fun hp => completes_txCommand_full rfl hp (by decide) hfull⟩
  case held =>
    intro e pr win w h s u y hu hfind hheld hy
    subst hu
    have hfind' : (s.advanceTo e).rwFind pr.toNat win.toNat = some w := (rwFind_adv ..).trans hfind
    have hrecs : y.cplr.recs.length = s.cplr.recs.length := by rw [hy, advanceTo_cplr, advanceTo_cplr]
    have hland := commitDue_held (timeout := false) (y := s.advanceTo e) hfind' hheld rfl
    have hlate := commitDue_held (timeout := true) (y := y) hfind' hheld (by rw [hy, State.advanceTo_get]; rfl)
    rw [Bool.false_or, advanceTo_cplr] at hland
    rw [Bool.true_or, Bool.true_and, hrecs] at hlate
    refine ⟨fun hwhole hroom => ⟨_, congrArg Host.Outcome.next hland, ?_⟩, fun hwaits => ⟨_, congrArg Host.Outcome.next hland, ?_⟩,
      fun hroom => ⟨_, congrArg Host.Outcome.next hlate, ?_⟩, fun hfull => ⟨_, congrArg Host.Outcome.next hlate, ?_⟩⟩
    · rw [hwhole, if_pos (by simpa using hroom)]
    · rw [if_neg]
      rcases hwaits with hpart | hfull
      · simp [hpart]
      · simp [Nat.not_lt.mpr hfull]
    · rw [if_pos (by simpa using hroom)]
    · rw [if_neg (by simpa using hfull)]
  case idle =>
    intro e pr win w s u hu hfind hrun
    subst hu
    have hfind' : (s.advanceTo e).rwFind pr.toNat win.toNat = some w := (rwFind_adv ..).trans hfind
    have hidle : execRwriteWindowIdle e pr win s = .next (if w.last + 8000000 ≤ (s.advanceTo e).now then
        rwPut pr.toNat win.toNat none (s.advanceTo e) else s.advanceTo e) := by
      rw [execRwriteWindowIdle, running_of hrun]
      dsimp only
      rw [hfind']
    exact ⟨_, hidle, fun hover => if_pos hover, fun hearly => if_neg (Nat.not_le.mpr hearly)⟩
  case records =>
    intro req s
    refine ⟨fun hnone => ⟨_, rfl, ?_⟩, fun w p rest hsome => ⟨_, rfl, ?_⟩⟩
    · rw [completionRead, hnone]
    · rw [completionRead, hsome]
      exact ⟨rfl, rfl, rfl⟩
  case closed =>
    exact fun pr win s => ⟨rwFind_rwPut_none pr win s, rwPut_open pr win none s, fun p x h => rwFind_rwPut_other h s,
      rwPut_keepsBits pr win none s⟩

end Sys2Proof.Machine

/-! PROOFS of Coupler's time and training (spec/12_coupler.md). What epochs, routes, HELLO, HB and the SYNC exchange do. -/

namespace Sys2Proof.Machine

open State

/-! ### Endpoints -/

theorem cep_setCep_same (s : State) (e : Nat) (h : CplrEp) : (s.setCep e h).cep e = h := mapGet_mapSet_same _ _ _ _

theorem cplrOn_adv {s : State} (h : s.get CPLR_CTRL.EN = 1) (e : Dword) : (s.advanceTo e).cplrOn = true :=
  bit_of_get ((State.advanceTo_get ..).trans h)

/-- An endpoint whose far end is down is not trained (R400). -/
theorem trained_down {e : Nat} {s : State} (h : (s.cep e).up = false) : s.trained e = false := by
  simp [trained, h]

/-- A sideband endpoint is trained exactly while both ends are out of reset (R400). -/
theorem trained_sideband {e : Nat} (he : 17 ≤ e) (s : State) : s.trained e = (!s.rst.inst && (s.cep e).up) := by
  simp [trained, he]

/-- A link endpoint with no HELLO within the last 4 epochs is not trained (R400; log entry 61). -/
theorem trained_stale {x : Nat} {s : State} (hx : x < 17) (hepoch : 4 ≤ s.epoch)
    (h : (s.cep x).helloIn = none ∨ (s.cep x).helloIn = some (s.epoch - 4)) : s.trained x = false := by
  have hlink : decide (17 ≤ x) = false := decide_eq_false (by omega)
  rcases h with h | h
  · simp [trained, hlink, h]
  · have hold : ¬ s.epoch < s.epoch - 4 + 4 := by omega
    simp [trained, hlink, h, hold]

/-- One with its route up and a fresh HELLO each way is trained. -/
theorem trained_fresh {x a b : Nat} {s : State} (hrun : s.rst.inst = false) (hup : (s.cep x).up = true)
    (hin : (s.cep x).helloIn = some a) (hout : (s.cep x).helloOut = some b) (ha : s.epoch < a + 4) (hb : s.epoch < b + 4) :
    s.trained x = true := by
  simp [trained, hrun, hup, hin, hout, ha, hb]

/-! ### The end of an epoch and heartbeats (R402, R404) -/

theorem epochEnd_marked {e : Nat} {s : State} (h : (s.cep e).hb = true) :
    epochEnd e s = s.setCep e { s.cep e with hb := false } := if_pos h

/-- The state of an endpoint that missed its HB: the run starts anew and a miss counts. -/
def epochMissed (e : Nat) (s : State) : State := (s.setCep e { s.cep e with run := 0 }).incSat (CPLR_EP_STAT.MISS e)

theorem epochMissed_leaves (e : Nat) (s : State) :
    (epochMissed e s).get (CPLR_EP_STAT.MISS e) = min (s.get (CPLR_EP_STAT.MISS e) + 1) 15 ∧
      (epochMissed e s).get (CPLR_EP_STAT.PRESENT e) = s.get (CPLR_EP_STAT.PRESENT e) ∧
      (epochMissed e s).get CPLR_CTRL.HB_MISS = s.get CPLR_CTRL.HB_MISS ∧
      epochMissed e s = (s.setCep e { s.cep e with run := 0 }).put (CPLR_EP_STAT.MISS e)
        (min (s.get (CPLR_EP_STAT.MISS e) + 1) 15) := by
  unfold epochMissed incSat addSat
  rw [State.setCep_get]
  refine ⟨?_, ?_, ?_, rfl⟩
  · rw [get_put_cut _ _ _ rfl]
    simp only [CPLR_EP_STAT.MISS]
    omega
  · rw [get_put_apart _ _ _ _ rfl, State.setCep_get]
  · rw [get_put_reg _ _ _ _ (by simp only [CPLR_CTRL.HB_MISS, CPLR_CTRL, CPLR_EP_STAT.MISS, CPLR_EP_STAT]; omega), State.setCep_get]

/-- An epoch without an HB counts a miss; the peer is absent once HB_MISS of them stand (R402, R403). -/
theorem epochEnd_missed {e : Nat} {s : State} (h : (s.cep e).hb = false) :
    epochEnd e s = if (epochMissed e s).present e ∧ s.get CPLR_CTRL.HB_MISS ≤ min (s.get (CPLR_EP_STAT.MISS e) + 1) 15 then
      peerAbsent e (epochMissed e s) else epochMissed e s := by
  obtain ⟨hmiss, -, hlimit, -⟩ := epochMissed_leaves e s
  rw [← hmiss, ← hlimit]
  exact if_neg (by rw [h]; decide)

theorem epochMissed_present (e : Nat) (s : State) : (epochMissed e s).present e = s.present e := by
  obtain ⟨-, hpresent, -, -⟩ := epochMissed_leaves e s
  rw [present, present, State.bit, State.bit, hpresent]

/-- What an HB leaves (R402): the mark, the run of epochs with an HB, and no miss. -/
def heartbeatSeen (e : Nat) (s : State) : State :=
  (s.setCep e { s.cep e with hb := true, run := if (s.cep e).hb then (s.cep e).run else (s.cep e).run + 1 }).put
    (CPLR_EP_STAT.MISS e) 0

theorem heartbeatIn_seen {e : Nat} {s : State} (hon : s.cplrOn = true) (hrole : s.epRole e ≠ 0) :
    heartbeatIn e s = if !s.present e && decide (2 ≤ ((heartbeatSeen e s).cep e).run) then
      peerReturn e (heartbeatSeen e s) else heartbeatSeen e s := by
  have hpresent : (heartbeatSeen e s).present e = s.present e := by
    rw [present, present, State.bit, State.bit, heartbeatSeen, get_put_apart _ _ _ _ rfl, State.setCep_get]
  have hrun : ((heartbeatSeen e s).cep e).run = if (s.cep e).hb then (s.cep e).run else (s.cep e).run + 1 :=
    congrArg CplrEp.run (cep_setCep_same s e _)
  rw [← hpresent, hrun]
  exact if_pos ⟨hon, hrole⟩

/-! ### Offsets (R406, R407) -/

/-- A measured offset is reported, and TS_ALIGNED says whether it lies within 80 ticks. -/
def thetaReported (th : Int) (s : State) : State :=
  ((s.put CPLR_OFS.VALID 1).putI CPLR_OFS.THETA (satS 16 th)).putB TIM_STAT.TS_ALIGNED (decide (-80 ≤ th ∧ th ≤ 80))

theorem thetaReported_source (th : Int) (s : State) : (thetaReported th s).get TIM_STAT.CKA_SRC = s.get TIM_STAT.CKA_SRC := by
  rw [thetaReported, putB, get_put_apart _ _ _ _ rfl, putI, get_put_reg _ _ _ _ (by decide), get_put_reg _ _ _ _ (by decide)]

/-- An aligned offset clears the degraded mark unless CKA runs from source 2; a larger one is corrected. -/
theorem applyTheta_eq (th : Int) (s : State) :
    applyTheta th s =
      (let u := if decide (-80 ≤ th ∧ th ≤ 80) = true ∧ s.get TIM_STAT.CKA_SRC ≠ 2 then (thetaReported th s).put TIM_STAT.TS_DEGRADED 0
        else thetaReported th s
       if -2 < th ∧ th < 2 then u
       else if (!decide (-80 ≤ th ∧ th ≤ 80)) = true ∧ th ≤ -800 then tsAdjWrite (BitVec.ofNat 32 (65536 + (min (-th) 32767).toNat)) u
       else tsAdjWrite (BitVec.ofNat 32 (ofSigned 16 (clampI (-32768) 32767 (-th)))) u) := by
  rw [← thetaReported_source th s]
  unfold applyTheta thetaReported
  rw [Bool.decide_and]

theorem applyTheta_small {th : Int} {s : State} (hlo : -1 ≤ th) (hhi : th ≤ 1) :
    (s.get TIM_STAT.CKA_SRC = 2 → applyTheta th s = thetaReported th s) ∧
      (s.get TIM_STAT.CKA_SRC ≠ 2 → applyTheta th s = (thetaReported th s).put TIM_STAT.TS_DEGRADED 0) := by
  have hsmall : -2 < th ∧ th < 2 := by omega
  have haligned : decide (-80 ≤ th ∧ th ≤ 80) = true := decide_eq_true (by omega)
  rw [applyTheta_eq]
  simp only [if_pos hsmall, haligned, true_and]
  exact ⟨fun h => if_neg (not_not.mpr h), fun h => if_pos h⟩

/-- Beyond 80 ticks TS_ALIGNED falls and TS is corrected: by a step from 800 ticks behind on, else by a slew. -/
theorem applyTheta_far {th : Int} {s : State} (hfar : th < -80 ∨ 80 < th) :
    applyTheta th s = if th ≤ -800 then tsAdjWrite (BitVec.ofNat 32 (65536 + (min (-th) 32767).toNat)) (thetaReported th s)
      else tsAdjWrite (BitVec.ofNat 32 (ofSigned 16 (clampI (-32768) 32767 (-th)))) (thetaReported th s) := by
  have hlarge : ¬ (-2 < th ∧ th < 2) := by omega
  have haligned : decide (-80 ≤ th ∧ th ≤ 80) = false := decide_eq_false (by omega)
  rw [applyTheta_eq]
  simp only [if_neg hlarge, haligned, Bool.false_eq_true, false_and, if_false, Bool.not_false, true_and]

/-- The offset of a slew, as TIM_TS_ADJ takes it. -/
theorem slewWord {th : Int} (hlo : -800 < th) (hhi : th ≤ 32768) :
    ofSigned 16 (clampI (-32768) 32767 (-th)) = if th ≤ 0 then (-th).toNat else 65536 - th.toNat := by
  unfold ofSigned clampI
  split <;> omega

/-- A message on an endpoint of the role that its direction asks for is received (log entry 60). -/
theorem cplrReceive_acts {e : Dword} {x r : Nat} {f : State → State} {s : State} (hon : s.get CPLR_CTRL.EN = 1)
    (hrole : s.epRole x = r) (hrun : s.rst.inst = false) : cplrReceive e x r f s = reinAll (f (s.advanceTo e)) := by
  rw [cplrReceive, State.working, running_of hrun]
  exact congrArg reinAll (if_pos ⟨cplrOn_adv hon e, (epRole_adv ..).trans hrole⟩)

theorem cplrSend_sent {x : Nat} {ws : List Word} {s : State} (hon : s.cplrOn = true) (htrained : s.trained x = true) :
    cplrSend x ws s = { s with out := { s.out with msgs := s.out.msgs ++ [⟨some x, ws⟩] } } := if_pos ⟨hon, htrained⟩

theorem cplrSend_dropped {x : Nat} {ws : List Word} {s : State} (h : s.cplrOn = false ∨ s.trained x = false) :
    cplrSend x ws s = s := if_neg fun ⟨hon, htrained⟩ => by
  rcases h with h | h
  · rw [h] at hon; exact absurd hon (by decide)
  · rw [h] at htrained; exact absurd htrained (by decide)

/-- Settles O34. That a HELLO counts while it is less than 4 epochs old is log entry 61, and that a message on an endpoint of
another role does nothing is log entry 60. -/
theorem couplerTimeAndTrainingCommandsComplete : Obligations.CouplerTimeAndTrainingCommandsComplete := by
  refine ⟨?boundary, fun e s h => epochEnd_marked h, ?missed, ?absent, ?pulse, ?small, ?far, ?up, ?down, ?sideband,
    fun x s hx hepoch h => trained_stale hx hepoch h, fun x a b s hrun hup hin hout ha hb => trained_fresh hrun hup hin hout ha hb,
    ?hello, ?hb, fun x ws s => ⟨cplrSend_sent, cplrSend_dropped⟩, ?sync, ?rsp, ?fin, ?reserved⟩
  case boundary =>
    intro e z s hz hrun
    subst hz
    refine ⟨_, congrArg Host.Outcome.next (running_of hrun _), fun hdue => congrArg reinAll (if_pos hdue),
      fun hmade => congrArg reinAll (if_neg (by rw [hmade]; decide))⟩
  case missed =>
    intro e s hmark he hpresent
    obtain ⟨hmiss, -, -, heq⟩ := epochMissed_leaves e s
    have hstays : epochEnd e s = epochMissed e s := (epochEnd_missed hmark).trans (if_neg fun ⟨hthere, hlimit⟩ => by
      rcases hpresent with h | h
      · rw [epochMissed_present, present, bit_of_get_zero h] at hthere
        exact absurd hthere (by decide)
      · omega)
    rw [hstays]
    exact ⟨hmiss, heq ▸ frame_put ..⟩
  case absent =>
    intro e s u hmark he hpresent hlimit hu
    obtain ⟨-, -, -, heq⟩ := epochMissed_leaves e s
    rw [epochEnd_missed hmark, if_pos ⟨(epochMissed_present e s).trans (bit_of_get hpresent), hlimit⟩, heq, hu]
  case pulse =>
    intro e k s u hu hinst hon hk hrun
    subst hu hk
    refine completes_running rfl hrun (if_pos ⟨(inst_adv s e).trans_ne hinst, cplrOn_adv hon e⟩) ?_
    rw [State.advanceTo_get]
  case small =>
    intro th s u hu hlo hhi
    subst hu
    exact applyTheta_small hlo hhi
  case far =>
    intro th s u hu
    have hreport : th < -80 ∨ 80 < th → u = thetaReported th s := fun hfar => by
      rw [hu, thetaReported, decide_eq_false (by omega), putB, Bool.toNat_false]
    refine ⟨fun hstep => ?_, fun hlo hhi => ?_, fun hlo hhi => ?_⟩
    · rw [applyTheta_far (by omega), if_pos hstep, ← hreport (by omega)]
    · rw [applyTheta_far (by omega), if_neg (by omega), slewWord hlo (by omega), if_pos (by omega), ← hreport (by omega)]
    · rw [applyTheta_far (by omega), if_neg (by omega), slewWord (by omega) hhi, if_neg (by omega), ← hreport (by omega)]
  case up =>
    intro e x s u hu
    rw [← cep_adv s e] at hu
    have hrst : u.rst = s.rst := by rw [hu, setCep_rst, advanceTo_rst]
    refine ⟨u.running fun s => sendHello x s, by rw [hu]; rfl, fun hrun => running_of (hrst ▸ hrun) _,
      fun hheld => running_held (hrst ▸ hheld) _⟩
  case down =>
    intro e x s u hu
    rw [← cep_adv s e] at hu
    refine ⟨u, by rw [hu]; rfl, rfl, trained_down ?_⟩
    rw [hu, cep_setCep_same]
  case sideband =>
    intro e k up s u hu
    rw [← cep_adv s e] at hu
    refine ⟨u, by rw [hu]; rfl, rfl, ?_⟩
    rw [trained_sideband (by omega), hu, cep_setCep_same, setCep_rst, advanceTo_rst]
  case hello =>
    intro e x s hon hrole hrun
    refine completes_running rfl hrun (if_pos ⟨cplrOn_adv hon e, (epRole_adv ..).trans_ne hrole⟩) ?_
    rw [cep_adv]
  case hb =>
    intro e x s u v hu hv hon hrole hrun
    have hseen : v = heartbeatSeen x (s.advanceTo e) := by rw [hv, hu, heartbeatSeen, cep_adv]
    have hcep : (heartbeatSeen x (s.advanceTo e)).cep x = u.cep x := by rw [← hseen, hv]; rfl
    have hacts := heartbeatIn_seen (cplrOn_adv hon e) ((epRole_adv s e x).trans_ne hrole)
    rw [hcep, ← hseen, present, State.bit, State.advanceTo_get, ← State.bit] at hacts
    refine ⟨_, congrArg Host.Outcome.next ((running_of hrun _).trans (congrArg reinAll hacts)), fun ⟨habsent, htwo⟩ => ?_,
      fun hstays => ?_⟩
    · rw [bit_of_get_zero habsent, if_pos (by simpa using htwo)]
    · rw [if_neg]
      rcases hstays with h | h
      · simp [bit_of_get h]
      · simp [Nat.not_le.mpr h]
  case sync =>
    intro e x t1 turn s u hu hon hrole hrun
    subst hu
    exact ⟨_, congrArg Host.Outcome.next (cplrReceive_acts hon hrole hrun), rfl⟩
  case rsp =>
    intro e x s u hu hon hrole hrun
    subst hu
    exact ⟨_, congrArg Host.Outcome.next (cplrReceive_acts hon hrole hrun), rfl⟩
  case fin =>
    intro e x t4 t1 t2 t3 s u hu hon hrole hsync hrun
    have hsync' : u.cplr.sync = some (t1, t2, t3) := by rw [hu, advanceTo_cplr, hsync]
    refine ⟨_, congrArg Host.Outcome.next (cplrReceive_acts hon hrole hrun), ?_⟩
    rw [← hu]
    simp only [hsync']
  case reserved =>
    intro e x s u hu hon hrole hrun
    subst hu
    refine completes_running rfl hrun (if_pos ⟨cplrOn_adv hon e, (epRole_adv ..).trans_ne hrole⟩) ⟨?_, frame_put ..⟩
    rw [incSat, get_addSat_byte rfl (by decide), State.advanceTo_get]

end Sys2Proof.Machine

/-! PROOFS of the family spec/15_caboose.md. What sampling the pins, clearing status, forcing sources, memory errors and the
scrubbers leave. -/

namespace Sys2Proof.Machine

open State

/-! ### 64-bit pairs -/

/-- A pair stored modulo 2^64 reads back so (R15). -/
theorem get64_put64_cut (s : State) (a v : Nat) : (s.put64 a v).get64 a = v % 2 ^ 64 := by
  rw [State.get64, put64, num_wrN_same, State.num, State.wrN, rd_wr_other _ _ _ _ (by omega), ← State.num, num_wrN_same]
  omega

theorem rd_put64_other (s : State) {a b : Nat} (v : Nat) (hlo : b ≠ a) (hhi : b ≠ a + 4) : (s.put64 a v).rd b = s.rd b := by
  rw [put64, State.wrN, rd_wr_other _ _ _ _ hhi, State.wrN, rd_wr_other _ _ _ _ hlo]

theorem get64_of_regs {s t : State} (h : t.regs = s.regs) (a : Nat) : t.get64 a = s.get64 a :=
  get64_of_rd (rd_congr _ _ _ h) (rd_congr _ _ _ h)

/-! ### Sampling the pins (R480..R484, R488) -/

/-- The counts of the sources touch no other register, and a source that did not latch keeps its count. -/
theorem latchCounts_rd {a : Nat} {ls : List (Nat × Nat)} (h : ∀ x ∈ ls, a ≠ CBSE_CNT x.1) (s : State) :
    (s.each ls fun s e => s.addSat (CBSE_CNT.COUNT e.1) e.2).rd a = s.rd a := by
  induction ls generalizing s with
  | nil => rfl
  | cons x ls ih =>
    exact (ih (fun y hy => h y (List.mem_cons_of_mem _ hy)) _).trans (rd_put_other _ _ _ _ (h x List.mem_cons_self))

/-- The pins and the status as one edge leaves them, before the counts. -/
def latchPins (ls : List (Nat × Nat)) (s : State) : State :=
  let t := s.put64 CBSE_PIN_LO (s.cbse.pulses.foldl setBitN s.cbseLevels)
  let u : State :=
    { t with
      cbse := { t.cbse with pulses := [], pulseAt := [], dma := none }
      tim := { t.tim with unlockDue := false, lockSafe := false } }
  u.put64 CBSE_STATUS_LO (ls.foldl (fun m e => setBitN m e.1) s.cbseStatus)

/-- The first DMA error is recorded (R500, R501). -/
def latchDma (dma : Option (Nat × Nat)) (s : State) : State :=
  match dma with
  | some (u, a) => ((s.put CBSE_DMA.VALID 1).put CBSE_DMA.UNIT u).put64 CBSE_DMA_ADDR_LO a
  | none => s

theorem latchDma_rd {a : Nat} (h : a < CBSE_DMA ∨ CBSE_DMA_ADDR_HI < a) (dma : Option (Nat × Nat)) (s : State) :
    (latchDma dma s).rd a = s.rd a := by
  cases dma with
  | none => rfl
  | some e =>
    simp only [CBSE_DMA, CBSE_DMA_ADDR_HI] at h
    rw [latchDma, rd_put64_other _ _ (by simp only [CBSE_DMA_ADDR_LO]; omega) (by simp only [CBSE_DMA_ADDR_LO]; omega),
      rd_put_other _ _ _ _ (by simp only [CBSE_DMA.UNIT, CBSE_DMA]; omega),
      rd_put_other _ _ _ _ (by simp only [CBSE_DMA.VALID, CBSE_DMA]; omega)]

theorem latchStore_eq (ls : List (Nat × Nat)) (s : State) :
    latchStore ls s = latchDma (if ls.any (fun e => e.1 == 1) && !s.bit CBSE_DMA.VALID then s.cbse.dma else none)
      ((latchPins ls s).each ls fun s e => s.addSat (CBSE_CNT.COUNT e.1) e.2) := by
  have hstatus : (s.put64 CBSE_PIN_LO (s.cbse.pulses.foldl setBitN s.cbseLevels)).cbseStatus = s.cbseStatus :=
    get64_of_rd (rd_put64_other _ _ (by decide) (by decide)) (rd_put64_other _ _ (by decide) (by decide))
  unfold latchStore latchPins
  rw [← hstatus]
  rfl

/-- A register that no count and no DMA record names reads as the pins' storing left it. -/
theorem latchStore_rd {a : Nat} {ls : List (Nat × Nat)} (hcnt : ∀ x ∈ ls, a ≠ CBSE_CNT x.1)
    (hdma : a < CBSE_DMA ∨ CBSE_DMA_ADDR_HI < a) (s : State) : (latchStore ls s).rd a = (latchPins ls s).rd a := by
  rw [latchStore_eq, latchDma_rd hdma, latchCounts_rd hcnt]

theorem latchStore_hidden (ls : List (Nat × Nat)) (s : State) :
    (latchStore ls s).cbse.pulses = [] ∧ (latchStore ls s).tim.unlockDue = false := by
  have hcounts : ∀ t : State, (t.each ls fun s e => s.addSat (CBSE_CNT.COUNT e.1) e.2).cbse = t.cbse ∧
      (t.each ls fun s e => s.addSat (CBSE_CNT.COUNT e.1) e.2).tim = t.tim := fun t =>
    ⟨each_field State.cbse ls _ t fun _ _ => rfl, each_field State.tim ls _ t fun _ _ => rfl⟩
  have hdma : ∀ (d : Option (Nat × Nat)) (t : State), (latchDma d t).cbse = t.cbse ∧ (latchDma d t).tim = t.tim := fun d t => by
    cases d <;> exact ⟨rfl, rfl⟩
  rw [latchStore_eq, (hdma _ _).1, (hdma _ _).2, (hcounts _).1, (hcounts _).2]
  exact ⟨rfl, rfl⟩

theorem latchStore_leaves (ls : List (Nat × Nat)) (s : State) :
    (latchStore ls s).get64 CBSE_STATUS_LO = ls.foldl (fun m e => setBitN m e.1) s.cbseStatus % 2 ^ 64 ∧
      (latchStore ls s).get64 CBSE_PIN_LO = s.cbse.pulses.foldl setBitN s.cbseLevels % 2 ^ 64 ∧
      (∀ b, b < 43 → b ∉ ls.map Prod.fst → (latchStore ls s).rd (CBSE_CNT b) = s.rd (CBSE_CNT b)) := by
  have hlow : ∀ a, a < CBSE_DMA → (latchStore ls s).rd a = (latchPins ls s).rd a := fun a ha =>
    latchStore_rd (fun x _ => by simp only [CBSE_DMA] at ha; unfold CBSE_CNT; omega) (.inl ha) s
  refine ⟨?_, ?_, fun b hb hnot => ?_⟩
  · rw [get64_of_rd (hlow _ (by decide)) (hlow _ (by decide)), latchPins, get64_put64_cut]
  · rw [get64_of_rd (hlow _ (by decide)) (hlow _ (by decide)), latchPins,
      get64_of_rd (rd_put64_other _ _ (by decide) (by decide)) (rd_put64_other _ _ (by decide) (by decide))]
    exact get64_put64_cut _ _ _
  · have hother : ∀ x ∈ ls, CBSE_CNT b ≠ CBSE_CNT x.1 := fun x hx heq => hnot (by
      have hsame : x.1 = b := by unfold CBSE_CNT at heq; omega
      exact hsame ▸ List.mem_map_of_mem hx)
    have hne : ∀ a, a < 0x30100 → CBSE_CNT b ≠ a := fun a ha => by unfold CBSE_CNT; omega
    rw [latchStore_rd hother (.inr (by unfold CBSE_CNT CBSE_DMA_ADDR_HI; omega)), latchPins,
      rd_put64_other _ _ (hne _ (by decide)) (hne _ (by decide))]
    exact rd_put64_other _ _ (hne _ (by decide)) (hne _ (by decide))

/-- The record has met the latches of the edge, highest class first, and a corrected latch has rung (R483, R484). -/
def latchRecorded (ls : List (Nat × Nat)) (y : State) : State :=
  let v := (latchStore ls y).each (latchOrder ls) fun z b =>
    recordLatch b (if b = 3 ∧ y.tim.unlockDue then y.tim.unlockTs.toNat else y.now) z
  if (ls.any fun e => cbseClass e.1 == 1) && v.bit CBSE_CTRL.CE_IE then v.ring kCBSE 2 else v

/-- The reaction by the highest class that latched (R489): with a fatal latch the override begins, at ts. -/
def latchReacts (ls : List (Nat × Nat)) (ts : Nat) (w : State) : State :=
  if ls.any (fun e => cbseClass e.1 == 3) then smbLatch (overrideBegins ts (w.ring kCBSE 1))
  else if ls.any (fun e => cbseClass e.1 == 2) then smbLatch w
  else w

/-- An edge of a running CKF samples the pins and reacts by the highest class that latched (R484, R489). -/
theorem faultLatch_edge {y : State} (hlock : y.locked = true) :
    ∃ ts, faultLatch y = latchReacts y.cbseLatches ts (latchRecorded y.cbseLatches y) :=
  ⟨_, if_neg (by simp [hlock])⟩

theorem faultLatch_stopped {y : State} (hlock : y.locked = false) : faultLatch y = y := if_pos (by simp [hlock])

theorem any_class_iff (ls : List (Nat × Nat)) (c : Nat) :
    ls.any (fun e => cbseClass e.1 == c) = true ↔ ∃ x ∈ ls, cbseClass x.1 = c := by
  simp

theorem latchReacts_corrected {ls : List (Nat × Nat)} (h : ∀ x ∈ ls, cbseClass x.1 = 1) (ts : Nat) (w : State) :
    latchReacts ls ts w = w := by
  have hno : ∀ c, c ≠ 1 → ¬ ls.any (fun e => cbseClass e.1 == c) = true := fun c hc hany => by
    obtain ⟨x, hx, hcls⟩ := (any_class_iff ls c).mp hany
    exact hc (hcls.symm.trans (h x hx))
  exact (if_neg (hno 3 (by decide))).trans (if_neg (hno 2 (by decide)))

theorem latchReacts_contained {ls : List (Nat × Nat)} (hno : ∀ x ∈ ls, cbseClass x.1 ≠ 3) (h : ∃ x ∈ ls, cbseClass x.1 = 2)
    (ts : Nat) (w : State) : latchReacts ls ts w = smbLatch w := by
  have hnot : ¬ ls.any (fun e => cbseClass e.1 == 3) = true := fun hany => by
    obtain ⟨x, hx, hcls⟩ := (any_class_iff ls 3).mp hany
    exact hno x hx hcls
  exact (if_neg hnot).trans (if_pos ((any_class_iff ls 2).mpr h))

theorem latchReacts_fatal {ls : List (Nat × Nat)} (h : ∃ x ∈ ls, cbseClass x.1 = 3) (ts : Nat) (w : State) :
    latchReacts ls ts w = smbLatch (overrideBegins ts (w.ring kCBSE 1)) :=
  if_pos ((any_class_iff ls 3).mpr h)

/-! ### Status (R485, R486) -/

theorem ring_rd (k o : Nat) (s : State) (a : Nat) : (s.ring k o).rd a = s.rd a := rd_congr _ _ _ rfl

theorem ring_get (k o : Nat) (s : State) (f : Fld) : (s.ring k o).get f = s.get f := congrArg (fldGet · f.hi f.lo) (ring_rd ..)

/-- The status without the cleared bits, and the refusal of those whose pin is high. -/
def statusDropped (ask up : Nat) (s : State) : State :=
  let t := s.put64 CBSE_STATUS_LO (s.cbseStatus - (ask - up))
  if up = 0 then t else (t.put CBSE_STAT.CLR_REFUSED 1).ring kCBSE 4

theorem statusDropped_leaves (ask up : Nat) (s : State) :
    (statusDropped ask up s).get64 CBSE_STATUS_LO = (s.cbseStatus - (ask - up)) % 2 ^ 64 ∧
      (up = 0 → (statusDropped ask up s).get CBSE_STAT.CLR_REFUSED = s.get CBSE_STAT.CLR_REFUSED) ∧
      (up ≠ 0 → (statusDropped ask up s).get CBSE_STAT.CLR_REFUSED = 1) ∧
      (∀ a, a ∉ [CBSE_STATUS_LO, CBSE_STATUS_HI, CBSE_STAT] → (statusDropped ask up s).rd a = s.rd a) := by
  have hput : ∀ a, a ∉ [CBSE_STATUS_LO, CBSE_STATUS_HI, CBSE_STAT] →
      (s.put64 CBSE_STATUS_LO (s.cbseStatus - (ask - up))).rd a = s.rd a := fun a ha => by
    simp only [List.mem_cons, List.not_mem_nil, or_false, not_or] at ha
    exact rd_put64_other _ _ ha.1 ha.2.1
  unfold statusDropped
  by_cases hup : up = 0
  · simp only [if_pos hup]
    refine ⟨get64_put64_cut _ _ _, fun _ => get_put64_other _ _ (by decide) (by decide), fun h => absurd hup h, hput⟩
  · simp only [if_neg hup]
    refine ⟨?_, fun h => absurd h hup, fun _ => ?_, fun a ha => ?_⟩
    · rw [get64_of_rd (ring_rd ..) (ring_rd ..),
        get64_of_rd (rd_put_other _ _ _ _ (by decide)) (rd_put_other _ _ _ _ (by decide)), get64_put64_cut]
    · rw [ring_get, get_put_fit _ _ _ rfl]
    · have hstat : a ≠ CBSE_STAT := fun h => ha (by simp [h])
      rw [ring_rd, rd_put_other _ _ _ _ hstat, hput a ha]

/-- Does a contained or fatal bit stand (R485)? -/
def seriousStands (s : State) : Bool := (bitsOf s.cbseStatus cbseBits).any fun b => cbseClass b != 1

theorem statusDrop_eq (ask up : Nat) (s : State) :
    statusDrop ask up s =
      if (statusDropped ask up s).bit CBSE_FIRST.OPEN && !seriousStands (statusDropped ask up s) then
        ((statusDropped ask up s).put CBSE_FIRST.OPEN 0).ring kCBSE 3
      else statusDropped ask up s := rfl

theorem statusDrop_leaves {ask up : Nat} {s u : State} (hu : u = statusDrop ask up s) :
    u.get64 CBSE_STATUS_LO = (s.cbseStatus - (ask - up)) % 2 ^ 64 ∧
      (up = 0 → u.get CBSE_STAT.CLR_REFUSED = s.get CBSE_STAT.CLR_REFUSED) ∧ (up ≠ 0 → u.get CBSE_STAT.CLR_REFUSED = 1) ∧
      u.get CBSE_FIRST.OPEN = (if seriousStands u then s.get CBSE_FIRST.OPEN else 0) ∧
      s.KeepsRegs u (fun a => a ∈ [CBSE_STATUS_LO, CBSE_STATUS_HI, CBSE_STAT, CBSE_FIRST]) := by
  obtain ⟨hstatus, hnone, hrefused, hrest⟩ := statusDropped_leaves ask up s
  obtain ⟨w, hw⟩ : ∃ w, w = statusDropped ask up s := ⟨_, rfl⟩
  rw [statusDrop_eq, ← hw] at hu
  rw [← hw] at hstatus hnone hrefused hrest
  have hopen : w.get CBSE_FIRST.OPEN = s.get CBSE_FIRST.OPEN := by
    rw [State.get, State.get, hrest _ (by decide)]
  by_cases hcloses : (w.bit CBSE_FIRST.OPEN && !seriousStands w) = true
  · rw [if_pos hcloses] at hu
    have hrd : ∀ a, a ≠ CBSE_FIRST → u.rd a = w.rd a := fun a ha => by
      rw [hu, ring_rd, rd_put_other _ _ _ _ ha]
    have hget : ∀ f : Fld, f.addr ≠ CBSE_FIRST → u.get f = w.get f := fun f hf => by rw [State.get, State.get, hrd _ hf]
    have hserious : seriousStands u = seriousStands w := by
      unfold seriousStands cbseStatus
      rw [get64_of_rd (hrd _ (by decide)) (hrd _ (by decide))]
    refine ⟨(get64_of_rd (hrd _ (by decide)) (hrd _ (by decide))).trans hstatus, fun h => (hget _ (by decide)).trans (hnone h),
      fun h => (hget _ (by decide)).trans (hrefused h), ?_, fun a ha => ?_⟩
    · have hnot : seriousStands u = false := by
        rw [hserious]
        simpa using ((Bool.and_eq_true _ _).mp hcloses).2
      rw [hnot, hu, ring_get, get_put_fit _ _ _ rfl]
      rfl
    · simp only [List.mem_cons, List.not_mem_nil, or_false, not_or] at ha
      obtain ⟨hlo, hhi, hstat, hfirst⟩ := ha
      rw [hrd a hfirst, hrest a (by simp [hlo, hhi, hstat])]
  · rw [if_neg hcloses] at hu
    subst hu
    refine ⟨hstatus, hnone, hrefused, ?_, fun a ha => ?_⟩
    · rw [← hopen]
      cases hserious : seriousStands u with
      | true => rw [if_pos rfl]
      | false =>
        rw [hserious, Bool.not_false, Bool.and_true] at hcloses
        rw [if_neg (by decide)]
        by_contra hne
        exact hcloses (by simpa [State.bit] using hne)
    · simp only [List.mem_cons, List.not_mem_nil, or_false, not_or] at ha
      obtain ⟨hlo, hhi, hstat, -⟩ := ha
      rw [hrest a (by simp [hlo, hhi, hstat])]

/-! ### Memory errors and the scrubbers (R495, R497, R499) -/

theorem off_fits (m : MemIx) (off : BitVec 20) : off.toNat % memSize m < 2 ^ 32 :=
  (Nat.mod_le _ _).trans_lt (off.isLt.trans (by decide))

/-- A corrected error counts, keeps its address and pulses source 42. -/
theorem memCe_leaves {m : MemIx} {o : Nat} (ho : o < 2 ^ 32) (s : State) :
    (memCe m o s).get (CBSE_MEM_CNT.CE m) = min (s.get (CBSE_MEM_CNT.CE m) + 1) 0xFFFF ∧
      (memCe m o s).num (CBSE_CE_ADDR m) = o / 8 * 8 ∧ (memCe m o s).cbse.pulses = s.cbse.pulses ++ [42] ∧
      s.KeepsBits (memCe m o s) [CBSE_MEM_CNT.CE m, CBSE_CE_ADDR.V m] := by
  unfold memCe
  refine ⟨?_, ?_, rfl, ((((KeepsBits.refl s).put _ _).wr _ _).of_regs rfl).mono (by simp [CBSE_CE_ADDR.V])⟩
  · rw [State.pulse, get_with_cbse, State.wrN, get_wr_other _ _ _ _ (by simp only [CBSE_MEM_CNT.CE, CBSE_MEM_CNT, CBSE_CE_ADDR]; omega),
      incSat, addSat, get_put_cut _ _ _ rfl]
    simp only [CBSE_MEM_CNT.CE]
    omega
  · rw [State.pulse, State.num, rd_with_cbse, ← State.num, num_wrN_same]
    omega

/-- An uncorrectable error counts, keeps its address, marks the word bad and pulses the memory's source. -/
theorem memUe_leaves {m : MemIx} {o : Nat} (ho : o < 2 ^ 32) (s : State) :
    (memUe m o s).get (CBSE_MEM_CNT.UE m) = min (s.get (CBSE_MEM_CNT.UE m) + 1) 0xFFFF ∧
      (memUe m o s).num (CBSE_UE_ADDR m) = o / 8 * 8 ∧ (m.val, o / 8 * 8) ∈ (memUe m o s).cbse.bad ∧
      (∀ x, x ≠ (m.val, o / 8 * 8) → (x ∈ (memUe m o s).cbse.bad ↔ x ∈ s.cbse.bad)) ∧
      (memUe m o s).cbse.pulses = s.cbse.pulses ++ [memSource m] ∧
      s.KeepsBits (memUe m o s) [CBSE_MEM_CNT.UE m, CBSE_UE_ADDR.V m] ∧ (memUe m o s).rdata = s.rdata := by
  obtain ⟨w, hw⟩ : ∃ w : State, w = (s.incSat (CBSE_MEM_CNT.UE m)).wrN (CBSE_UE_ADDR m) (o / 8 * 8) := ⟨_, rfl⟩
  have hbad : w.cbse = s.cbse := by rw [hw]; rfl
  have hrdata : w.rdata = s.rdata := by rw [hw]; rfl
  have hcount : w.get (CBSE_MEM_CNT.UE m) = min (s.get (CBSE_MEM_CNT.UE m) + 1) 0xFFFF := by
    rw [hw, State.wrN, get_wr_other _ _ _ _ (by simp only [CBSE_MEM_CNT.UE, CBSE_MEM_CNT, CBSE_UE_ADDR]; omega), incSat, addSat,
      get_put_cut _ _ _ rfl]
    simp only [CBSE_MEM_CNT.UE]
    omega
  have haddr : w.num (CBSE_UE_ADDR m) = o / 8 * 8 := by
    rw [hw, num_wrN_same]
    omega
  have hkeeps : s.KeepsBits w [CBSE_MEM_CNT.UE m, CBSE_UE_ADDR.V m] := by
    rw [hw]
    exact (((KeepsBits.refl s).put _ _).wr _ _).mono (by simp [CBSE_UE_ADDR.V])
  have hue : memUe m o s = (if w.cbse.bad.contains (m.val, o / 8 * 8) then w else
      { w with cbse := { w.cbse with bad := w.cbse.bad ++ [(m.val, o / 8 * 8)] } }).pulse (memSource m) := by
    rw [hw]
    rfl
  rw [hue]
  split
  case isTrue hin =>
    refine ⟨hcount, haddr, by simpa [State.pulse] using hin, fun x _ => ?_, ?_, hkeeps.of_regs rfl, hrdata⟩
    · simp [State.pulse, hbad]
    · exact congrArg (fun c => c.pulses ++ [memSource m]) hbad
  case isFalse hout =>
    refine ⟨hcount, haddr, by simp [State.pulse], fun x hx => ?_, ?_, hkeeps.of_regs rfl, hrdata⟩
    · simp [State.pulse, hx, hbad]
    · exact congrArg (fun c => c.pulses ++ [memSource m]) hbad

/-- A write of a force word is stored, of the high word the bits of the sources only (R492). -/
theorem forceWrite_leaves (hi : Bool) (v : Word) (s : State) :
    (forceWrite hi v s).rd (if hi then CBSE_FORCE_HI else CBSE_FORCE_LO) = (if hi then v &&& 0x7FF else v) ∧
      s.Frame (forceWrite hi v s) [⟨if hi then CBSE_FORCE_HI else CBSE_FORCE_LO, 31, 0⟩] := by
  have hframe : ∀ a w, s.Frame (s.wr a w) [⟨a, 31, 0⟩] := fun a w =>
    ⟨(KeepsBits.refl s).wr a w, rfl⟩
  cases hi
  · exact ⟨rd_wr_same _ _ _, hframe _ _⟩
  · exact ⟨rd_wr_same _ _ _, hframe _ _⟩

/-- The scrubber of memory m is at its word o; u is the state with the next word and its edge noted (R497). -/
theorem scrubRead_on {m found : Nat} {z : State} (hen : z.get CBSE_SCRUB.EN = 1) (hlock : z.locked = true) {o next due : Nat}
    (ho : o = mapGet 0 z.cbse.scrub m) (hnext : next = if memSize m ≤ o + 8 then 0 else o + 8)
    (hdue : due = (if z.tim.edges ≤ mapGet 0 z.cbse.scrubAt m + z.get CBSE_SCRUB.INT then mapGet 0 z.cbse.scrubAt m
      else z.tim.edges) + z.get CBSE_SCRUB.INT) {u : State}
    (hu : u = { z with cbse := { z.cbse with scrub := mapSet 0 z.cbse.scrub m next
                                             scrubAt := mapSet 0 z.cbse.scrubAt m due } }) :
    ∃ v, v = (if next = 0 then u.addWrap (CBSE_PASS.V m) 1 else u) ∧
      scrubRead m found z = if found = 2 ∨ v.memBad m o then memUe m o v else if found = 1 then memCe m o v else v := by
  subst hu hdue hnext ho
  exact ⟨_, rfl, if_pos ⟨by rw [bit_of_get hen], hlock⟩⟩

theorem scrubRead_off {m found : Nat} {z : State} (h : z.get CBSE_SCRUB.EN = 0 ∨ z.locked = false) :
    scrubRead m found z = z :=
  if_neg fun ⟨hen, hlock⟩ => by
    rcases h with h | h
    · rw [bit_of_get_zero h] at hen
      exact Bool.false_ne_true hen
    · exact Bool.false_ne_true (h.symm.trans hlock)

theorem scrubTo_leaves (m : Nat) (s : State) :
    (s.get CBSE_SCRUB.EN = 0 ∨ s.locked = false ∨ mapGet 0 s.cbse.scrubAt m ≤ s.tim.edges → scrubTo m s = s) ∧
      (s.get CBSE_SCRUB.EN = 1 → s.locked = true → s.tim.edges < mapGet 0 s.cbse.scrubAt m →
        scrubTo m s = s.passEdges (mapGet 0 s.cbse.scrubAt m - s.tim.edges)) := by
  refine ⟨fun h => if_neg fun ⟨hen, hlock, hlate⟩ => ?_, fun hen hlock hlate => if_pos ⟨bit_of_get hen, hlock, hlate⟩⟩
  rcases h with h | h | h
  · rw [bit_of_get_zero h] at hen
    exact Bool.false_ne_true hen
  · exact Bool.false_ne_true (h.symm.trans hlock)
  · exact absurd hlate (Nat.not_lt.mpr h)

/-- Settles O32: each command clause by clause. That a read which waited does not move the next due edge is log entry 148,
and that a clear leaves the bits which hardware set in the same cycle is log entry 109. -/
theorem cabooseCommandsComplete : Obligations.CabooseCommandsComplete := by
  refine ⟨fun e s hlock hrun => ?_, fun e ls u v w y s hlock hy hls hu hv hw hrun => ?_, fun ls u s _ hu => ?_,
    fun req hi v new ask u s hp hnew hask hu => ?_, fun ask up u s hu => statusDrop_leaves hu, fun req hi v s hp => ?_,
    fun e m off s hrun => ?_, fun e m off o fabric s ho hrun => ?_,
    fun e m found o next int was due u z s hz hen hlock ho hnext hint hwas hdue hu hrun => ?_,
    fun e m found z s hz hoff hrun => ?_, fun m s => scrubTo_leaves m s⟩
  · exact completes_running rfl hrun (faultLatch_stopped ((locked_adv s e).trans hlock)) rfl
  · have hyl : y.locked = true := by rw [hy, locked_adv, hlock]
    obtain ⟨ts, hedge⟩ := faultLatch_edge hyl
    have hrec : w = latchRecorded ls y := by rw [hw, hv, hu]; rfl
    rw [← hls, ← hrec, hy] at hedge
    refine completes_running rfl hrun hedge ⟨fun h => ?_, fun hno h => ?_, fun h => ⟨ts, ?_⟩⟩
    · exact latchReacts_corrected h ts w
    · exact latchReacts_contained hno h ts w
    · exact latchReacts_fatal h ts w
  · subst hu
    obtain ⟨hstatus, hpins, hcounts⟩ := latchStore_leaves ls s
    obtain ⟨hpulses, hunlock⟩ := latchStore_hidden ls s
    exact ⟨hstatus, hpins, hpulses, hunlock, hcounts⟩
  · subst hu hask hnew
    exact completes_permitted rfl hp rfl rfl
  · exact completes_permitted rfl hp rfl (forceWrite_leaves hi v s)
  · obtain ⟨hcount, haddr, hpulse, hkeeps⟩ := memCe_leaves (m := m) (off_fits m off) (s.advanceTo e)
    rw [State.advanceTo_get] at hcount
    rw [advanceTo_cbse] at hpulse
    exact completes_running rfl hrun rfl ⟨hcount, haddr, hpulse, ((adv_keeps s e).mono (by simp)).trans hkeeps⟩
  · obtain ⟨hcount, haddr, hbad, hothers, hpulse, hkeeps, hrdata⟩ := memUe_leaves (m := m) (off_fits m off) (s.advanceTo e)
    rw [State.advanceTo_get] at hcount
    rw [advanceTo_cbse] at hothers hpulse
    rw [advanceTo_rdata] at hrdata
    have hkept := ((adv_keeps s e).mono (by simp)).trans hkeeps
    subst ho
    cases fabric with
    | false => exact completes_running rfl hrun rfl ⟨hcount, haddr, hbad, hothers, hpulse, hrdata, hkept⟩
    | true =>
      refine completes_running (u := (memUe m (off.toNat % memSize m) (s.advanceTo e)).answer [0xFFFFFFFF]) rfl hrun rfl ?_
      exact ⟨hcount, haddr, hbad, hothers, hpulse, rfl, hkept.of_regs rfl⟩
  · subst hz hint hwas
    obtain ⟨v, hv, hread⟩ := scrubRead_on (found := found.val) hen hlock ho hnext hdue hu
    have hvbad : v.memBad m o = (scrubTo m (s.advanceTo e)).memBad m o := by
      rw [hv, hu]
      split <;> rfl
    rw [hvbad] at hread
    refine completes_running rfl hrun hread ⟨v, hv, fun hf hb => ?_, fun hf hb => ?_, fun h => if_pos h⟩
    · rw [if_neg (by simp [hf, hb]), if_neg (by omega)]
    · rw [if_neg (by simp [hf, hb]), if_pos hf]
  · subst hz
    exact completes_running rfl hrun rfl (scrubRead_off hoff)

end Sys2Proof.Machine

/-! PROOFS of the family spec/18_memory_model.md. What releases, acquires, fences, atomics, plain stores, reservations and
write-backs do to core memory. -/

namespace Sys2Proof.Machine

open State

/-- A command that answers r completes with whatever holds of r. -/
theorem completes_next {i : Instr} {s r u : State} {post : State → Prop} (hexec : exec i s = .next r) (hact : r = u)
    (hpost : post u) : Completes i s post := ⟨r, hexec, hact ▸ hpost⟩

theorem coreSt_setCoreSt_same (s : State) (i : Nat) (c : CoreSt) : (s.setCoreSt i c).coreSt i = c := mapGet_mapSet_same ..

/-! ### Ordering (R562..R564) -/

theorem ordering_stopped {i : Nat} {s : State} (h : s.coreState i ≠ 1) (k : Nat) (f : State → State) : ordering i k f s = s :=
  if_pos h

theorem ordering_reserved {i : Nat} {s : State} (h : s.coreState i = 1) (f : State → State) :
    ordering i 3 f s = s.setCoreSt i { s.coreSt i with exc := 2 } :=
  (if_neg (not_not.mpr h)).trans (if_pos rfl)

theorem ordering_acts {i k : Nat} {s : State} (h : s.coreState i = 1) (hk : k ≠ 3) (f : State → State) : ordering i k f s = f s :=
  (if_neg (not_not.mpr h)).trans (if_neg hk)

theorem release_group {k : Nat} (hk : k = 0) (i : Nat) (s : State) : release i k s = drainAll i s := if_pos hk

theorem release_wider {k : Nat} (hk : k ≠ 0) (i : Nat) (s : State) :
    release i k s = cacheClean (coreGroup i) (drainAll i s) := if_neg hk

theorem acquire_group {k : Nat} (hk : k = 0) (i : Nat) (s : State) : acquire i k s = s := if_pos hk

theorem acquire_wider {k : Nat} (hk : k ≠ 0) (i : Nat) (s : State) : acquire i k s = cacheDrop (coreGroup i) s := if_neg hk

/-- A drain of every store, oldest first, keeps none: no older store stays that a later one could meet. -/
theorem drainAll_empties (i : Nat) (s : State) : ((drainAll i s).coreSt i).buf = [] := by
  have hfold : ∀ (es : List (BufStore × Nat)) (t : State), (es.foldl
      (fun (acc : List BufStore × State) e =>
        if true && !acc.1.any e.1.meets then (acc.1, drainStore i e.1 acc.2) else (acc.1 ++ [e.1], acc.2)) ([], t)).1 = [] := by
    intro es
    induction es with
    | nil => exact fun _ => rfl
    | cons e es ih => exact fun t => ih _
  rw [drainAll, drainSome, coreSt_setCoreSt_same]
  exact hfold _ _

theorem cacheDrop_empties (g : Nat) (s : State) : (cacheDrop g s).lines g = [] := by
  rw [cacheDrop, State.setLines, State.lines, mapGet_mapSet_same]

/-- A line put into a cache is the one found at its address. -/
theorem lineAt_putLine {g a : Nat} {l : CacheLine} (hl : l.line = a / 64) (s : State) : (s.putLine g l).lineAt g a = some l := by
  rw [State.putLine, State.setLines, State.lineAt, State.lines, mapGet_mapSet_same, List.find?_append,
    List.find?_eq_none.mpr fun x hx => by simpa [hl] using (List.mem_filter.mp hx).2]
  simp [hl]

theorem lineClean_clean {g a : Nat} {s : State} {l : CacheLine} (h : (lineClean g a s).lineAt g a = some l) : l.dirty = 0 := by
  unfold lineClean at h
  cases hold : s.lineAt g a with
  | none => rw [hold] at h; simp [hold] at h
  | some k =>
    have hline : k.line = a / 64 := by simpa using List.find?_some hold
    rw [hold] at h
    dsimp only at h
    split at h
    case isTrue hclean =>
      rw [hold, Option.some.injEq] at h
      exact h ▸ hclean
    case isFalse =>
      rw [lineAt_putLine (l := { k with dirty := 0, writers := 0 }) hline, Option.some.injEq] at h
      rw [← h]

/-! ### Atomics (R569, R570) -/

/-- An atomic of a running core without ordering is its access. -/
theorem atomicAccess_plain {i : Nat} {s : State} (h : s.coreState i = 1) {op : AmoOp} {a o : Nat} (v : Word) (ha : a % 4 = 0)
    (hloc : memKind i a = .loc o) : atomicAccess i op a v false false s = (atomicAt i op a i o v s).2 := by
  unfold atomicAccess
  rw [if_neg (not_not.mpr h), if_neg Bool.false_ne_true]
  dsimp only
  rw [if_neg (not_not.mpr ha), hloc]
  rfl

theorem atomicAccess_faults {i : Nat} {s : State} (h : s.coreState i = 1) {op : AmoOp} {a : Nat} (v : Word) (aq : Bool)
    (ha : a % 4 ≠ 0 ∨ ∀ o, memKind i a ≠ .loc o ∧ memKind i a ≠ .commons o) :
    atomicAccess i op a v aq false s = s.setCoreSt i { s.coreSt i with exc := 7 } := by
  unfold atomicAccess
  rw [if_neg (not_not.mpr h), if_neg Bool.false_ne_true]
  dsimp only
  by_cases hal : a % 4 = 0
  · rw [if_neg (not_not.mpr hal)]
    have hkind := ha.resolve_left (not_not.mpr hal)
    cases hk : memKind i a with
    | loc o => exact absurd hk (hkind o).1
    | commons o => exact absurd hk (hkind o).2
    | _ => cases aq <;> rfl
  · rw [if_pos hal]
    cases aq <;> rfl

/-- What an AMO at core memory leaves. -/
theorem atomicAt_amo {i : Nat} {op : AmoOp} (hsc : op ≠ .sc) (hlr : op ≠ .lr) (hi : i ≠ 11) (a : Nat) {o : Nat} (v : Word)
    {s w : State} {bs : List Byte} (hread : ramRead i o 4 s = (some bs, w)) : (atomicAt i op a i o v s).2 =
      (ramWrite i o (toLe 4 (amoResult op (BitVec.ofNat 32 (leBytes bs)) v).toNat) w).answer [BitVec.ofNat 32 (leBytes bs)] := by
  unfold atomicAt
  rw [if_neg hsc, hread]
  dsimp only
  rw [if_neg hlr, if_neg hi]

theorem atomicAt_lr (i a m o : Nat) (v : Word) {s w : State} {bs : List Byte} (hread : ramRead m o 4 s = (some bs, w)) :
    (atomicAt i .lr a m o v s).2 =
      (w.setCoreSt i { w.coreSt i with resv := some ⟨a / 64, w.tim.edges⟩ }).answer [BitVec.ofNat 32 (leBytes bs)] := by
  unfold atomicAt
  rw [if_neg (by decide), hread]
  rfl

theorem atomicAt_lr_fault (i a m o : Nat) (v : Word) {s w : State} (hread : ramRead m o 4 s = (none, w)) :
    (atomicAt i .lr a m o v s).2 = w.setCoreSt i { w.coreSt i with exc := 5 } := by
  unfold atomicAt
  rw [if_neg (by decide), hread]
  rfl

/-- A store conditional: it stores with a valid reservation, and always ends the reservation. -/
theorem atomicAt_sc {i : Nat} (hi : i ≠ 11) (a o : Nat) (v : Word) (s : State) : ∃ u, u = (if s.reserves i a then
      ramWrite i o (toLe 4 v.toNat) s else s) ∧ (atomicAt i .sc a i o v s).2 =
        (u.setCoreSt i { u.coreSt i with resv := none }).answer [if s.reserves i a then 0 else 1] := by
  refine ⟨_, rfl, ?_⟩
  unfold atomicAt
  rw [if_pos rfl]
  dsimp only
  rw [if_neg hi]

/-! ### Plain stores (R556, R559) -/

/-- A store of kind COMMONS or WMEM enters the buffer, which has room, and any stores may then leave. -/
theorem plainStore_buffered {i a o : Nat} (hkind : memKind i a = .commons o ∨ memKind i a = .wmem o) (bs : List Byte) {s : State}
    (hroom : (s.coreSt i).buf.length < 8) : plainStore i a bs s =
      drainSome i (fun k _ => bitOf (Config.freeWord s.freeCtr).toNat k)
        { s.setCoreSt i { s.coreSt i with buf := (s.coreSt i).buf ++ [⟨a, bs⟩] } with freeCtr := s.freeCtr + 1 } := by
  unfold plainStore
  rcases hkind with hk | hk <;> rw [hk] <;> dsimp only <;> rw [if_neg (Nat.not_le.mpr hroom)] <;> rfl

theorem cacheDue_quiet {s : State} (h : ∀ g l, l ∈ s.lines g → l.dirty = 0 ∨ s.tim.edges < l.since + 16000) : cacheDue s = s := by
  have hnone : ∀ g, (s.lines g).filter (fun l => l.dirty != 0 && decide (l.since + 16000 ≤ s.tim.edges)) = [] := fun g =>
    List.filter_eq_nil_iff.mpr fun l hl => by
      rcases h g l hl with hclean | hearly
      · simp [hclean]
      · simp [hearly]
  unfold cacheDue
  simp only [State.each, List.foldl_cons, List.foldl_nil, hnone]

/-- A reservation of r ends once 256 cycles since its LR have passed, which time passes to while CKF runs. -/
theorem reservationExpiry_leaves {e : Dword} {i : CoreIx} {s y : State} {r : Reservation}
    (hresv : ((s.advanceTo e).coreSt i).resv = some r)
    (hy : y = if (s.advanceTo e).locked = true ∧ (s.advanceTo e).tim.edges < r.since + 256 then
      (s.advanceTo e).passEdges (r.since + 256 - (s.advanceTo e).tim.edges) else s.advanceTo e) :
    Completes (.reservationExpiry e i) s fun t =>
      t = if r.since + 256 ≤ y.tim.edges then y.setCoreSt i { y.coreSt i with resv := none } else y := by
  subst hy
  refine ⟨_, rfl, ?_⟩
  dsimp only
  rw [hresv]

/-- Settles O39: each instruction clause by clause. The exception codes 2, 5 and 7 are log entry 92; an SC that ends the
reservation also when it fails is log entry 93. -/
theorem coreMemoryCommandsComplete : Obligations.CoreMemoryCommandsComplete := by
  refine ⟨?_, ?_, ?_, fun i g a s => ?_, ?_, ?_, ?_, ?_, ?_, ?_, fun e g a s => completes_next rfl rfl rfl, ?_, ?_, ?_,
    fun s h => cacheDue_quiet h⟩
  · rintro e i k s _ rfl hst
    exact ⟨completes_next rfl (ordering_stopped hst ..) rfl, completes_next rfl (ordering_stopped hst ..) rfl,
      completes_next rfl (ordering_stopped hst ..) rfl⟩
  · rintro e i s _ rfl hrun
    exact ⟨completes_next rfl (ordering_reserved hrun _) rfl, completes_next rfl (ordering_reserved hrun _) rfl,
      completes_next rfl (ordering_reserved hrun _) rfl⟩
  · rintro e i k s _ rfl hrun hk
    refine ⟨fun h => ⟨?_, ?_, ?_⟩, fun h => ⟨?_, ?_, ?_⟩⟩ <;> refine completes_next rfl (ordering_acts hrun hk _) ?_
    · exact release_group h ..
    · exact acquire_group h ..
    · exact (acquire_group h ..).trans (release_group h ..)
    · exact release_wider h ..
    · exact acquire_wider h ..
    · exact (acquire_wider h ..).trans (congrArg _ (release_wider h ..))
  · exact ⟨drainAll_empties i s, cacheDrop_empties g s, fun l h => lineClean_clean h⟩
  · rintro e i s _ rfl hrun
    exact ⟨completes_next rfl (if_pos ⟨hrun, rfl⟩) rfl, completes_next rfl (if_neg fun h => Bool.false_ne_true h.2) rfl⟩
  · rintro e i op a v s _ rfl hrun ha aq
    exact completes_next rfl (atomicAccess_faults hrun v aq ha) rfl
  · rintro e i op a v o s _ w bs _ rfl hrun ha hloc hi hsc hlr hread rfl
    exact completes_next rfl (atomicAccess_plain hrun v ha hloc) (atomicAt_amo hsc hlr hi _ v hread)
  · rintro e i a v o s _ w bs rfl hrun ha hloc hi
    have hplain := atomicAccess_plain (op := .lr) hrun v ha hloc
    refine ⟨fun hread => ?_, fun hread => completes_next rfl hplain (atomicAt_lr_fault i _ i o v hread)⟩
    exact completes_next rfl (hplain.trans (atomicAt_lr i _ i o v hread))
      ⟨rfl, congrArg CoreSt.resv (coreSt_setCoreSt_same ..), rfl⟩
  · rintro e i a v o s _ rfl hrun ha hloc hi
    obtain ⟨u, hu, hsc⟩ := atomicAt_sc hi a.toNat o v (cacheDue (s.advanceTo e))
    refine completes_next rfl ((atomicAccess_plain hrun v ha hloc).trans hsc) ?_
    have hram : ∀ c x, ((u.setCoreSt i c).answer x).ram = u.ram := fun _ _ => rfl
    refine ⟨congrArg CoreSt.resv (coreSt_setCoreSt_same ..), fun h => ?_, fun h => ?_⟩
    · rw [if_pos h] at hu ⊢
      exact ⟨rfl, (hram _ _).trans (congrArg State.ram hu)⟩
    · rw [if_neg (by simp [h])] at hu ⊢
      exact ⟨rfl, (hram _ _).trans (congrArg State.ram hu)⟩
  · rintro e i s _ y r rfl hresv hy
    obtain ⟨t, hexec, ht⟩ := reservationExpiry_leaves hresv hy
    exact ⟨fun h => ⟨t, hexec, ht.trans (if_pos h)⟩, fun h => ⟨t, hexec, ht.trans (if_neg (Nat.not_le.mpr h))⟩⟩
  · rintro e i w a v s _ o rfl hrun
    have hstore : ∀ {u : State}, plainStore i a.toNat (toLe w.bytes v.toNat) (cacheDue (s.advanceTo e)) = u →
        Completes (.plainStore e i w a v) s fun t => t = u := fun hu => completes_next rfl ((if_pos hrun).trans hu) rfl
    refine ⟨fun hk => hstore ?_, fun hk => hstore ?_, fun hk => hstore ?_, fun hk => hstore ?_⟩
    all_goals
      unfold plainStore
      rw [hk]
  · rintro e i w a v s _ _ _ rfl hrun ⟨o, hkind⟩ hroom rfl rfl
    exact completes_next rfl (if_pos hrun) (plainStore_buffered hkind _ hroom)
  · rintro e i s _ rfl
    refine ⟨fun hrun hmeip => completes_next rfl (if_pos ⟨hrun, hmeip⟩) rfl, fun h => completes_next rfl (if_neg fun hboth => ?_) rfl⟩
    exact h.elim (fun hst => hst hboth.1) fun hm => Bool.false_ne_true (hm.symm.trans hboth.2)

end Sys2Proof.Machine

/-! PROOFS of the family spec/19_postilion.md. What time-stamp reads, doorbells, binding, claims, completes, coalescing, masking
and edge latches leave. -/

namespace Sys2Proof.Machine

open State

/-- A core that runs makes its access of a CSR. -/
theorem onCore_runs {k : Nat} {t : State} (h : t.coreState k = 1) (f : State → State) : onCore k f t = f t := if_pos h

theorem coreState_adv (s : State) (e : Dword) (k : Nat) : (s.advanceTo e).coreState k = s.coreState k := advanceTo_get ..

/-! ### Claims and completes (R590, R591, R594) -/

/-- A claim of the top source n: it is active, and neither bound nor pending. -/
theorem claim_leaves {i n : Nat} {s : State} (hn : s.topAt i = n) (hne : n ≠ 0) : (claim i s).1 = n ∧
    (claim i s).2.get (PST_SRC_STAT.ACTIVE n) = 1 ∧ (claim i s).2.get (PST_SRC_STAT.BOUND n) = 0 ∧
    (claim i s).2.get (PST_SRC_STAT.PEND n) = 0 ∧
    (claim i s).2.pst = { s.pst with windows := s.pst.windows.filter (·.1 != n) } ∧
    s.KeepsBits (claim i s).2 [PST_SRC_STAT.ACTIVE n, PST_SRC_STAT.BOUND n, PST_SRC_STAT.PEND n] := by
  obtain ⟨w, hw⟩ : ∃ w : State, w = { s with pst := { s.pst with windows := s.pst.windows.filter (·.1 != n) } } := ⟨_, rfl⟩
  have hclaim : claim i s =
      (n, ((w.put (PST_SRC_STAT.ACTIVE n) 1).put (PST_SRC_STAT.BOUND n) 0).put (PST_SRC_STAT.PEND n) 0) := by
    unfold claim
    rw [hn, hw]
    exact if_neg hne
  have hkeeps : s.KeepsBits w [] := keeps_regs_eq (hw ▸ rfl)
  rw [hclaim]
  refine ⟨rfl, ?_, ?_, get_put_fit _ _ _ rfl, ?_, (((hkeeps.put _ _).put _ _).put _ _).mono (by simp)⟩
  · rw [get_put_apart _ _ _ _ rfl, get_put_apart _ _ _ _ rfl, get_put_fit _ _ _ rfl]
  · rw [get_put_apart _ _ _ _ rfl, get_put_fit _ _ _ rfl]
  · exact hw ▸ rfl

theorem claim_none {i : Nat} {s : State} (h : s.topAt i = 0) : claim i s = (0, s) := if_pos h

theorem complete_ends {i n : Nat} {s : State} (hlo : 1 ≤ n) (hhi : n ≤ 1023) (hactive : s.get (PST_SRC_STAT.ACTIVE n) = 1)
    (htgt : s.get (PST_SRC_STAT.TGT n) = i) : (complete i n s).get (PST_SRC_STAT.ACTIVE n) = 0 ∧
      (complete i n s).get (PST_SRC_STAT.TGT n) = 0 ∧
      s.Frame (complete i n s) [PST_SRC_STAT.ACTIVE n, PST_SRC_STAT.TGT n] := by
  have hends : complete i n s = (s.put (PST_SRC_STAT.ACTIVE n) 0).put (PST_SRC_STAT.TGT n) 0 :=
    if_pos ⟨hlo, hhi, bit_of_get hactive, htgt⟩
  rw [hends]
  exact ⟨(get_put_apart _ _ _ _ rfl).trans (get_put_fit _ _ _ rfl), get_put_fit _ _ _ rfl,
    frame_intro (((KeepsBits.refl s).put _ _).put _ _) (by simp) rfl⟩

theorem complete_bad {i n : Nat} {s : State} (h : n = 0 ∨ 1023 < n ∨ s.get (PST_SRC_STAT.ACTIVE n) = 0 ∨
    s.get (PST_SRC_STAT.TGT n) ≠ i) : complete i n s = s.put PST_STAT.BADCOMP 1 :=
  if_neg fun ⟨hlo, hhi, hactive, htgt⟩ => by
    rcases h with h | h | h | h
    · omega
    · omega
    · exact Bool.false_ne_true ((bit_of_get_zero h).symm.trans hactive)
    · exact h htgt

/-! ### Doorbells (R582, R583, R601) -/

theorem acceptEdge_leaves (s : State) : (s.locked = true → 2 ≤ s.takenNow.1 → acceptEdge s = s.passEdges 1) ∧
    (s.locked = false ∨ s.takenNow.1 < 2 → acceptEdge s = s) ∧
    (s.pst.takenAt = s.tim.edges → s.takenNow = (s.pst.taken, s.pst.latchTaken)) ∧
    (s.pst.takenAt ≠ s.tim.edges → s.takenNow = (0, false)) := by
  refine ⟨fun hlock htwo => if_pos ⟨hlock, htwo⟩, fun h => if_neg fun ⟨hlock, htwo⟩ => ?_, fun h => if_pos h, fun h => if_neg h⟩
  rcases h with h | h
  · exact Bool.false_ne_true (h.symm.trans hlock)
  · omega

theorem acceptDoorbell_bad {n : Nat} (h : n = 0 ∨ 1023 < n) (s : State) :
    acceptDoorbell n s = (s.put PST_STAT.BADSRC 1).pulse 2 := if_pos h

/-- A source that is pending only counts its doorbell; c is the coalescing group that its release concerns. -/
theorem acceptDoorbell_merged {n : Nat} (hlo : 1 ≤ n) (hhi : n ≤ 1023) {z s : State}
    (hs : s = coalesceRelease (if z.srcC0 n then 0 else z.get (PST_SRC_CFG.CG n)) z) (hpend : s.get (PST_SRC_STAT.PEND n) = 1)
    (hheld : s.get (PST_SRC_STAT.HELD n) = 0) : acceptDoorbell n z = s.incSat (PST_SRC_STAT.NDB n) := by
  obtain ⟨w, hw⟩ : ∃ w, w = s.incSat (PST_SRC_STAT.NDB n) := ⟨_, rfl⟩
  have hpendw : w.bit (PST_SRC_STAT.PEND n) = true := by
    rw [hw]
    exact bit_of_get ((get_put_apart _ _ _ _ rfl).trans hpend)
  have hheldw : w.bit (PST_SRC_STAT.HELD n) = false := by
    rw [hw]
    exact bit_of_get_zero ((get_put_apart _ _ _ _ rfl).trans hheld)
  have hstays : (if w.srcC0 n = true ∧ (!w.bit (PST_SRC_STAT.PEND n)) = true then w.c0Enter n else w) = w :=
    if_neg fun h => by simp [hpendw] at h
  unfold acceptDoorbell
  rw [if_neg (by omega)]
  dsimp only
  rw [← hs, ← hw, hstays]
  exact (if_pos hpendw).trans ((if_neg fun h => Bool.false_ne_true (hheldw.symm.trans h.1)).trans rfl)

/-- A source outside the groups that is not pending becomes pending. -/
theorem acceptDoorbell_fresh {n : Nat} (hlo : 1 ≤ n) (hhi : n ≤ 1023) {s : State} (hc0 : s.get (PST_SRC_CFG.C0 n) = 0)
    (hpend : s.get (PST_SRC_STAT.PEND n) = 0) (hcg : s.get (PST_SRC_CFG.CG n) = 0) :
    acceptDoorbell n s = (s.incSat (PST_SRC_STAT.NDB n)).put (PST_SRC_STAT.PEND n) 1 := by
  obtain ⟨w, hw⟩ : ∃ w, w = s.incSat (PST_SRC_STAT.NDB n) := ⟨_, rfl⟩
  have hpendw : w.bit (PST_SRC_STAT.PEND n) = false := by
    rw [hw]
    exact bit_of_get_zero ((get_put_apart _ _ _ _ rfl).trans hpend)
  have hc0w : w.srcC0 n = false := by
    rw [hw]
    exact bit_of_get_zero ((get_put_reg _ _ _ _ (by simp only [PST_SRC_CFG.C0, PST_SRC_CFG, PST_SRC_STAT.NDB, PST_SRC_STAT]; omega)).trans hc0)
  have hquiet : coalesceRelease 0 s = s := if_neg fun h => h.1 rfl
  have hgroup : (if s.srcC0 n then 0 else s.get (PST_SRC_CFG.CG n)) = 0 := by
    rw [hcg, ite_self]
  have hstays : (if w.srcC0 n = true ∧ (!w.bit (PST_SRC_STAT.PEND n)) = true then w.c0Enter n else w) = w :=
    if_neg fun h => Bool.false_ne_true (hc0w.symm.trans h.1)
  unfold acceptDoorbell
  rw [if_neg (by omega)]
  dsimp only
  rw [hgroup, hquiet, ← hw, hstays]
  exact (if_neg fun h => Bool.false_ne_true (hpendw.symm.trans h)).trans (if_pos rfl)

theorem get_incSat_half {f : Fld} (hlo : f.lo = 0) (hhi : f.hi = 15) (s : State) :
    (s.incSat f).get f = min (s.get f + 1) 65535 := by
  rw [incSat, addSat, get_put_cut _ _ _ (by simp [hlo, hhi]), hlo, hhi]
  omega

/-- The doorbell x that is accepted next leaves the port; a held edge's latch clears with it. -/
theorem acceptNext_takes {s u : State} {x : Nat} (hlock : s.locked = true) (hroom : s.takenNow.1 < 2)
    (hnext : s.nextDoorbell = some x)
    (hu : u = { s with pst := { s.pst with port := s.pst.port.erase x, takenAt := s.tim.edges, taken := s.takenNow.1 + 1
                                           latchTaken := s.takenNow.2 || decide (65536 ≤ x) } }) :
    acceptNext s = acceptDoorbell (x % 65536) (if x < 65536 then u else u.put (PST_EDGE.LATCHED (x / 65536 - 1)) 0) := by
  unfold acceptNext
  rw [if_pos (by simp [hlock, hroom]), hnext, hu]

theorem acceptNext_waits {s : State} (h : s.locked = false ∨ 2 ≤ s.takenNow.1 ∨ s.portNow = []) : acceptNext s = s := by
  have hnone : (if s.locked && decide (s.takenNow.1 < 2) then s.nextDoorbell else none) = none := by
    rcases h with h | h | h
    · rw [h]; rfl
    · exact if_neg (by rw [Bool.and_eq_true, decide_eq_true_eq]; omega)
    · rw [State.nextDoorbell, h]
      exact ite_self _
  unfold acceptNext
  rw [hnone]

theorem nextDoorbell_class0 {s : State} {x : Nat}
    (h : (s.portNow.find? fun x => decide (1 ≤ x % 65536) && decide (x % 65536 ≤ 1023) && s.srcC0 (x % 65536)) = some x) :
    s.nextDoorbell = some x := by
  unfold State.nextDoorbell
  rw [h]

theorem nextDoorbell_first {s : State} {x : Nat} {rest : List Nat}
    (h : (s.portNow.find? fun x => decide (1 ≤ x % 65536) && decide (x % 65536 ≤ 1023) && s.srcC0 (x % 65536)) = none)
    (hport : s.portNow = x :: rest) : s.nextDoorbell = some x := by
  unfold State.nextDoorbell
  rw [h, hport]
  rfl

/-! ### Binding (R583, R587, R589, R594) -/

theorem deliverable_not {s : State} {n : Nat} (h : s.get (PST_SRC_STAT.PEND n) = 0 ∨ s.get (PST_SRC_STAT.HELD n) = 1 ∨
    s.get (PST_SRC_STAT.BOUND n) = 1 ∨ s.get (PST_SRC_STAT.ACTIVE n) = 1 ∨ s.get (PST_SRC_CFG.EN n) = 0 ∨
    (s.get PST_CTRL.GDIS = 1 ∧ s.get (PST_SRC_CFG.C0 n) = 0)) : s.deliverable n = false := by
  unfold State.deliverable
  rcases h with h | h | h | h | h | ⟨h, hc0⟩
  · simp [bit_of_get_zero h]
  · simp [bit_of_get h]
  · simp [bit_of_get h]
  · simp [bit_of_get h]
  · simp [bit_of_get_zero h]
  · simp [bit_of_get h, State.srcC0, bit_of_get_zero hc0]

/-- The first core of highest running priority among those seen (R587). -/
def weaker (p : Nat → Nat) (b : Option Nat) (i : Nat) : Option Nat :=
  match b with
  | none => some i
  | some j => if p j < p i then some i else b

/-- The best core is one of those offered, and none of them runs weaker. -/
theorem weaker_best (p : Nat → Nat) : ∀ (l : List Nat) (b : Option Nat) (i : Nat), l.foldl (weaker p) b = some i →
    (b = some i ∨ i ∈ l) ∧ (∀ j ∈ l, p j ≤ p i) ∧ ∀ j, b = some j → p j ≤ p i
  | [], _, i, h => ⟨.inl h, by simp, fun j hj => by
      rw [hj, List.foldl_nil, Option.some.injEq] at h
      exact h ▸ le_rfl⟩
  | k :: l, b, i, h => by
    obtain ⟨hmem, hall, hstart⟩ := weaker_best p l (weaker p b k) i h
    cases b with
    | none =>
      have hk := hstart k rfl
      refine ⟨.inr ?_, fun j hj => ?_, by simp⟩
      · exact hmem.elim (fun h => by rw [weaker, Option.some.injEq] at h; simp [h]) fun h => List.mem_cons_of_mem _ h
      · exact (List.mem_cons.mp hj).elim (fun h => h ▸ hk) (hall j)
    | some m =>
      unfold weaker at hmem hstart
      dsimp only at hmem hstart
      split at hstart
      case isTrue hlt =>
        rw [if_pos hlt] at hmem
        have hk := hstart k rfl
        refine ⟨.inr ?_, fun j hj => ?_, fun j hj => ?_⟩
        · exact hmem.elim (fun h => by rw [Option.some.injEq] at h; simp [h]) fun h => List.mem_cons_of_mem _ h
        · exact (List.mem_cons.mp hj).elim (fun h => h ▸ hk) (hall j)
        · exact Option.some.inj hj ▸ hlt.le.trans hk
      case isFalse hge =>
        rw [if_neg hge] at hmem
        have hm := hstart m rfl
        refine ⟨hmem.imp_right fun h => List.mem_cons_of_mem _ h, fun j hj => ?_, fun j hj => hstart j hj⟩
        exact (List.mem_cons.mp hj).elim (fun h => h ▸ (by omega)) (hall j)

theorem route_core {s : State} {n i : Nat} (hi : i ≠ 11) (h : s.route n = some i) :
    i < 11 ∧ s.eligible n i = true ∧ ∀ j < 11, s.eligible n j = true → s.runPrio j ≤ s.runPrio i := by
  have hfold : ((List.range 11).filter (s.eligible n)).foldl (weaker s.runPrio) none = some i := by
    unfold State.route at h
    split at h
    · exact absurd (Option.some.inj h).symm hi
    · exact h
  obtain ⟨hmem, hall, -⟩ := weaker_best _ _ _ _ hfold
  obtain ⟨hrange, helig⟩ := List.mem_filter.mp (hmem.resolve_left (by simp))
  exact ⟨List.mem_range.mp hrange, helig, fun j hj he => hall j (List.mem_filter.mpr ⟨List.mem_range.mpr hj, he⟩)⟩

theorem bindSource_undelivered {s : State} {n : Nat} (h : s.deliverable n = false) : bindSource n s = s :=
  if_neg (by simp [h])

theorem bindSource_unrouted {s : State} {n : Nat} (h : s.deliverable n = true) (hroute : s.route n = none) :
    bindSource n s = s := by
  unfold bindSource
  rw [if_pos h, hroute]

theorem bindSource_core {s v : State} {n i : Nat} (h : s.deliverable n = true) (hroute : s.route n = some i) (hi : i ≠ 11)
    (hv : v = ((s.put (PST_SRC_STAT.BOUND n) 1).put (PST_SRC_STAT.TGT n) i).c0Leave n) : bindSource n s = wakeCore i v := by
  unfold bindSource
  rw [if_pos h, hroute, hv]
  exact if_neg hi

theorem bindSource_host {s v : State} {n : Nat} (h : s.deliverable n = true) (hroute : s.route n = some 11)
    (hv : v = ((s.put (PST_SRC_STAT.BOUND n) 1).put (PST_SRC_STAT.TGT n) 11).c0Leave n) :
    bindSource n s = if (s.boundTo 11).isEmpty then v.hostWrite (v.get64 PST_MSI_LO) [v.rd PST_MSI_DATA] else v := by
  unfold bindSource
  rw [if_pos h, hroute, hv]
  rfl

theorem bound_leaves {n i : Nat} (hi : i < 16) {s v : State}
    (hv : v = ((s.put (PST_SRC_STAT.BOUND n) 1).put (PST_SRC_STAT.TGT n) i).c0Leave n) : v.get (PST_SRC_STAT.BOUND n) = 1 ∧
      v.get (PST_SRC_STAT.TGT n) = i ∧ v.pst.c0 = s.pst.c0.filter (· != n) ∧
      s.KeepsBits v [PST_SRC_STAT.BOUND n, PST_SRC_STAT.TGT n] := by
  obtain ⟨w, hw⟩ : ∃ w, w = (s.put (PST_SRC_STAT.BOUND n) 1).put (PST_SRC_STAT.TGT n) i := ⟨_, rfl⟩
  rw [← hw] at hv
  have hget : ∀ f, v.get f = w.get f := fun f => get_of_regs (hv ▸ rfl) f
  refine ⟨?_, ?_, by rw [hv, hw]; rfl, ?_⟩
  · rw [hget, hw, get_put_apart _ _ _ _ rfl, get_put_fit _ _ _ rfl]
  · rw [hget, hw, get_put_cut _ _ _ rfl]
    exact Nat.mod_eq_of_lt hi
  · refine KeepsBits.of_regs ?_ (hv ▸ rfl : v.regs = w.regs)
    exact hw ▸ (((KeepsBits.refl s).put _ _).put _ _).mono (by simp)

theorem wakeCore_leaves (i : Nat) (s : State) : (s.coreState i = 3 → s.meip i = true →
      wakeCore i s = (wdogKeep i s).put (FW_CORE.STATE i) 1 ∧ (wakeCore i s).coreState i = 1 ∧
        s.KeepsBits (wakeCore i s) [FW_CORE.STATE i]) ∧
    (s.coreState i ≠ 3 ∨ s.meip i = false → wakeCore i s = s) := by
  refine ⟨fun hst hmeip => ?_, fun h => if_neg fun ⟨hst, hmeip⟩ => ?_⟩
  · have hwake : wakeCore i s = (wdogKeep i s).put (FW_CORE.STATE i) 1 := if_pos ⟨hst, hmeip⟩
    have hkeeps : s.KeepsBits (wdogKeep i s) [] := keeps_regs_eq rfl
    rw [hwake]
    exact ⟨rfl, get_put_fit _ _ _ rfl, (hkeeps.put _ _).mono (by simp)⟩
  · exact h.elim (fun h => h hst) fun h => Bool.false_ne_true (h.symm.trans hmeip)

/-! ### Coalescing (R595) -/

theorem coalesceDue_iff (c : Nat) (s : State) : s.coalesceDue c = true ↔
    s.get (PST_CG_CFG.CNT c) ≤ s.get (PST_CG_STAT.COUNT c) ∨ s.coalesceEnd c ≤ s.now := by
  unfold State.coalesceDue
  simp

theorem coalesceRelease_due {c : Nat} {y : State} (hc : c ≠ 0) (hopen : y.get (PST_CG_STAT.OPEN c) = 1)
    (hdue : y.coalesceDue c = true) : ∃ w : State, coalesceRelease c y =
        w.each (w.srcs.filter fun n => w.get (PST_SRC_CFG.CG n) == c) (fun s n => s.put (PST_SRC_STAT.HELD n) 0) ∧
      w.get (PST_CG_STAT.OPEN c) = 0 ∧ w.get (PST_CG_STAT.COUNT c) = 0 ∧ w.pst = { y.pst with t1 := mapSet 0 y.pst.t1 c 0 } ∧
      y.KeepsBits w [PST_CG_STAT.OPEN c, PST_CG_STAT.COUNT c] := by
  obtain ⟨v, hv⟩ : ∃ v, v = (y.put (PST_CG_STAT.OPEN c) 0).put (PST_CG_STAT.COUNT c) 0 := ⟨_, rfl⟩
  obtain ⟨w, hw⟩ : ∃ w, w = { v with pst := { y.pst with t1 := mapSet 0 y.pst.t1 c 0 } } := ⟨_, rfl⟩
  have hget : ∀ f, w.get f = v.get f := fun f => get_of_regs (hw ▸ rfl) f
  refine ⟨w, ?_, ?_, ?_, hw ▸ rfl, ?_⟩
  · rw [hw, hv]
    exact if_pos ⟨hc, bit_of_get hopen, hdue⟩
  · rw [hget, hv, get_put_apart _ _ _ _ rfl, get_put_fit _ _ _ rfl]
  · rw [hget, hv, get_put_fit _ _ _ rfl]
  · refine KeepsBits.of_regs ?_ (hw ▸ rfl : w.regs = v.regs)
    exact hv ▸ (((KeepsBits.refl y).put _ _).put _ _).mono (by simp)

theorem srcStat_inj {m n : Nat} (h : PST_SRC_STAT m = PST_SRC_STAT n) : m = n := by
  unfold PST_SRC_STAT at h
  omega

/-- What frees the held sources of a group leaves. -/
theorem freeHeld_leaves (l : List Nat) (s : State) :
    (∀ n, n ∈ l ∨ s.get (PST_SRC_STAT.HELD n) = 0 → (s.each l fun s n => s.put (PST_SRC_STAT.HELD n) 0).get (PST_SRC_STAT.HELD n) = 0) ∧
      (∀ n, (s.each l fun s n => s.put (PST_SRC_STAT.HELD n) 0).get (PST_SRC_STAT.PEND n) = s.get (PST_SRC_STAT.PEND n)) ∧
      (∀ a, (∀ n ∈ l, a ≠ PST_SRC_STAT n) → (s.each l fun s n => s.put (PST_SRC_STAT.HELD n) 0).rd a = s.rd a) := by
  induction l generalizing s with
  | nil => exact ⟨fun n h => h.resolve_left (by simp), fun _ => rfl, fun _ _ => rfl⟩
  | cons m l ih =>
    obtain ⟨hheld, hpend, hrest⟩ := ih (s.put (PST_SRC_STAT.HELD m) 0)
    refine ⟨fun n h => hheld n ?_, fun n => (hpend n).trans ?_, fun a ha => (hrest a fun n hn => ha n (List.mem_cons_of_mem _ hn)).trans ?_⟩
    · by_cases hmn : n = m
      · exact .inr (hmn ▸ get_put_fit _ _ _ rfl)
      · refine h.imp (fun h => (List.mem_cons.mp h).resolve_left hmn) fun h => ?_
        rw [get_put_reg _ _ _ _ fun heq => hmn (srcStat_inj heq), h]
    · exact get_put_apart _ _ _ _ rfl
    · exact rd_put_other _ _ _ _ (ha m List.mem_cons_self)

/-! ### Unbinding and masking (R594, R597..R599) -/

theorem unbind_leaves (n : Nat) (s : State) : (unbind n s).get (PST_SRC_STAT.BOUND n) = 0 ∧
    (s.get (PST_SRC_STAT.ACTIVE n) = 0 → (unbind n s).get (PST_SRC_STAT.TGT n) = 0) ∧
    (s.get (PST_SRC_STAT.ACTIVE n) = 1 → (unbind n s).get (PST_SRC_STAT.TGT n) = s.get (PST_SRC_STAT.TGT n)) ∧
    (unbind n s).pst.windows = s.pst.windows.filter (·.1 != n) ∧
    s.KeepsBits (unbind n s) [PST_SRC_STAT.BOUND n, PST_SRC_STAT.TGT n] := by
  obtain ⟨k, hk⟩ : ∃ k, k = if s.bit (PST_SRC_STAT.ACTIVE n) then s.get (PST_SRC_STAT.TGT n) else 0 := ⟨_, rfl⟩
  obtain ⟨w, hw⟩ : ∃ w, w = (s.put (PST_SRC_STAT.BOUND n) 0).put (PST_SRC_STAT.TGT n) k := ⟨_, rfl⟩
  have hregs : (unbind n s).regs = w.regs := by rw [hw, hk]; rfl
  have hget : ∀ f, (unbind n s).get f = w.get f := fun f => get_of_regs hregs f
  refine ⟨?_, fun h => ?_, fun h => ?_, rfl, KeepsBits.of_regs ?_ hregs⟩
  · rw [hget, hw, get_put_apart _ _ _ _ rfl, get_put_fit _ _ _ rfl]
  · rw [hget, hw, hk, bit_of_get_zero h, if_neg Bool.false_ne_true, get_put_fit _ _ _ rfl]
  · rw [hget, hw, hk, bit_of_get h, if_pos rfl, get_put_cut _ _ _ rfl]
    exact Nat.mod_eq_of_lt (fldGet_lt _ _ _)
  · exact hw ▸ (((KeepsBits.refl s).put _ _).put _ _).mono (by simp)

theorem openWindow_leaves (n : Nat) (s : State) : (s.get (PST_SRC_STAT.BOUND n) = 1 →
      (s.pst.windows.any fun e => e.1 == n) = false →
      openWindow n s = { s with pst := { s.pst with windows := s.pst.windows ++ [(n, s.tim.edges)] } }) ∧
    (s.get (PST_SRC_STAT.BOUND n) = 0 ∨ (s.pst.windows.any fun e => e.1 == n) = true → openWindow n s = s) := by
  refine ⟨fun hbound hnone => if_pos ⟨bit_of_get hbound, by simp [hnone]⟩, fun h => if_neg fun ⟨hbound, hnone⟩ => ?_⟩
  rcases h with h | h
  · exact Bool.false_ne_true ((bit_of_get_zero h).symm.trans hbound)
  · rw [h] at hnone
    exact Bool.false_ne_true hnone

/-- A write that leaves source n outside Class 0: u holds the words written, w what is held then. -/
theorem srcCfgWrite_leaves {n : Nat} {v : Word} {s u w : State} (hwas : s.get (PST_SRC_CFG.C0 n) = 0)
    (hu : u = storeReg (PST_SRC_CFG n) v s) (hc0 : u.get (PST_SRC_CFG.C0 n) = 0)
    (hw : w = if s.get (PST_SRC_CFG.CG n) = u.get (PST_SRC_CFG.CG n) then u else u.put (PST_SRC_STAT.HELD n) 0) :
    srcCfgWrite n v s =
      if s.bit (PST_SRC_CFG.EN n) && !u.bit (PST_SRC_CFG.EN n) then openWindow n w else w := by
  have hget : ∀ f : Fld, f.addr = PST_SRC_CFG n → w.get f = u.get f := fun f hf => by
    rw [hw]
    split
    · rfl
    · exact get_put_reg _ _ _ _ (by simp only [hf, PST_SRC_CFG, PST_SRC_STAT.HELD, PST_SRC_STAT]; omega)
  have hwasB : s.srcC0 n = false := bit_of_get_zero hwas
  have huB : u.srcC0 n = false := bit_of_get_zero hc0
  have hwB : w.srcC0 n = false := bit_of_get_zero ((hget _ rfl).trans hc0)
  have hen : w.bit (PST_SRC_CFG.EN n) = u.bit (PST_SRC_CFG.EN n) := by
    rw [State.bit, State.bit, hget _ rfl]
  have hheld : (if s.get (PST_SRC_CFG.CG n) ≠ u.get (PST_SRC_CFG.CG n) ∨ u.srcC0 n = true then
      u.put (PST_SRC_STAT.HELD n) 0 else u) = w := by
    rw [hw, huB]
    by_cases h : s.get (PST_SRC_CFG.CG n) = u.get (PST_SRC_CFG.CG n)
    · rw [if_pos h, if_neg (by simp [h])]
    · rw [if_neg h, if_pos (.inl h)]
  unfold srcCfgWrite
  dsimp only
  rw [← hu, hheld, hwasB, Bool.false_and, if_neg Bool.false_ne_true, hwB, hen, bne_self_eq_false, Bool.or_false]

/-- The window x of source n at the edge y. -/
theorem maskWindowEnd_window {n : Nat} {x : Nat × Nat} {y : State}
    (h : (y.pst.windows.find? fun e => e.1 == n) = some x) : maskWindowEnd n y =
      if x.2 + 16 ≤ y.tim.edges then (if y.bit (PST_SRC_STAT.BOUND n) then unbind n y
        else { y with pst := { y.pst with windows := y.pst.windows.filter (·.1 != n) } })
      else y := by
  unfold maskWindowEnd
  rw [h]

theorem completes_maskWindowEnd {e : Dword} {n : SourceIx} {s y : State} {x : Nat × Nat}
    (hx : ((s.advanceTo e).pst.windows.find? fun e => e.1 == n.val) = some x)
    (hy : y = if (s.advanceTo e).locked = true ∧ (s.advanceTo e).tim.edges < x.2 + 16 then
      (s.advanceTo e).passEdges (x.2 + 16 - (s.advanceTo e).tim.edges) else s.advanceTo e) :
    Completes (.maskWindowEnd e n) s fun t => t = if x.2 + 16 ≤ y.tim.edges then
      (if s.bit (PST_SRC_STAT.BOUND n) then unbind n y
        else { y with pst := { y.pst with windows := y.pst.windows.filter (·.1 != n.val) } })
      else y := by
  have hpst : y.pst = (s.advanceTo e).pst := by
    rw [hy]
    split
    · rw [passEdges_eq]
    · rfl
  have hbound : y.bit (PST_SRC_STAT.BOUND n) = s.bit (PST_SRC_STAT.BOUND n) := by
    rw [hy, State.bit, State.bit]
    split
    · rw [State.passEdges_get, State.advanceTo_get]
    · rw [State.advanceTo_get]
  rw [← hbound]
  refine ⟨_, rfl, ?_⟩
  dsimp only
  rw [hx, ← maskWindowEnd_window (hpst ▸ hx), hy]

/-- A write of 1 to PEND: source n is neither pending, held nor bound. -/
theorem srcStatWrite_clears {n : Nat} {v : Word} (hv : fldGet v 31 31 = 1) (s : State) :
    (srcStatWrite n v s).get (PST_SRC_STAT.PEND n) = 0 ∧ (srcStatWrite n v s).get (PST_SRC_STAT.HELD n) = 0 ∧
      (srcStatWrite n v s).get (PST_SRC_STAT.BOUND n) = 0 ∧ (srcStatWrite n v s).pst.c0 = s.pst.c0.filter (· != n) ∧
      s.KeepsBits (srcStatWrite n v s) [PST_SRC_STAT.PEND n, PST_SRC_STAT.HELD n, PST_SRC_STAT.BOUND n, PST_SRC_STAT.TGT n] := by
  obtain ⟨w, hw⟩ : ∃ w, w = ((unbind n s).put (PST_SRC_STAT.PEND n) 0).put (PST_SRC_STAT.HELD n) 0 := ⟨_, rfl⟩
  have hclear : srcStatWrite n v s = w.c0Leave n := by
    unfold srcStatWrite
    rw [hw, if_neg (by rw [hv]; decide)]
  obtain ⟨hbound, -, -, -, hkeeps⟩ := unbind_leaves n s
  have hget : ∀ f, (w.c0Leave n).get f = w.get f := fun f => get_of_regs rfl f
  have hc0 : w.pst.c0 = s.pst.c0 := by
    rw [hw]
    rfl
  rw [hclear]
  refine ⟨?_, ?_, ?_, congrArg (List.filter (· != n)) hc0, KeepsBits.of_regs (s := w) ?_ rfl⟩
  · rw [hget, hw, get_put_apart _ _ _ _ rfl, get_put_fit _ _ _ rfl]
  · rw [hget, hw, get_put_fit _ _ _ rfl]
  · rw [hget, hw, get_put_apart _ _ _ _ rfl, get_put_apart _ _ _ _ rfl, hbound]
  · exact hw ▸ ((hkeeps.put _ _).put _ _).mono (by simp)

/-! ### The edge latches (R603) -/

theorem edgeCaught_ignored {k : Nat} {rising : Bool} {s : State} (h : s.get (PST_EDGE.EN k) = 0 ∨ k = 7 ∨
    s.get (PST_EDGE.POL k) = 3 ∨ (s.get (PST_EDGE.POL k) = 0 ∧ rising = false) ∨
    (s.get (PST_EDGE.POL k) = 1 ∧ rising = true)) : edgeCaught k rising s = s :=
  if_neg fun ⟨hen, hk, hpol⟩ => by
    rcases h with h | h | h | ⟨h, rfl⟩ | ⟨h, rfl⟩
    · exact Bool.false_ne_true ((bit_of_get_zero h).symm.trans hen)
    · exact hk h
    · simp [h] at hpol
    · simp [h] at hpol
    · simp [h] at hpol

/-- What a latch that is on does with an edge, before it wakes the clocks. -/
def edgeTaken (k : Nat) (s : State) : State :=
  if s.bit (PST_EDGE.LATCHED k) then
    (if s.rst.inst then s.put (PST_EDGE.LOST k) 1 else (s.put (PST_EDGE.LOST k) 1).put PST_STAT.EDGE_LOST 1)
  else if s.locked ∧ !s.rst.inst then
    (if s.get (PST_EDGE.SRC k) = 0 then s else doorbellIn (s.get (PST_EDGE.SRC k)) s)
  else s.put (PST_EDGE.LATCHED k) 1

/-- A latch for both directions that does not wake only takes the edge. -/
theorem edgeCaught_taken {k : Nat} {s : State} (hen : s.get (PST_EDGE.EN k) = 1) (hk : k ≠ 7)
    (hpol : s.get (PST_EDGE.POL k) = 2) (hwake : s.get (PST_EDGE.WAKE k) = 0) (hlow : PST_EDGE k ≠ PST_STAT) (rising : Bool) :
    edgeCaught k rising s = edgeTaken k s := by
  have hstays : (edgeTaken k s).get (PST_EDGE.WAKE k) = s.get (PST_EDGE.WAKE k) := by
    unfold edgeTaken
    split_ifs
    · exact get_put_apart _ _ _ _ rfl
    · exact (get_put_reg _ _ _ _ hlow).trans (get_put_apart _ _ _ _ rfl)
    · rfl
    · rfl
    · exact get_put_apart _ _ _ _ rfl
  have hnowake : ¬ ((edgeTaken k s).bit (PST_EDGE.WAKE k) = true ∧ (!(edgeTaken k s).bit TIM_CTRL.PLL_EN) = true) := fun h =>
    Bool.false_ne_true ((bit_of_get_zero (hstays.trans hwake)).symm.trans h.1)
  exact (if_pos ⟨bit_of_get hen, hk, .inl hpol⟩).trans (if_neg hnowake)

theorem edgeTaken_passed {k : Nat} {s : State} (hlatched : s.get (PST_EDGE.LATCHED k) = 0) (hlock : s.locked = true)
    (hrun : s.rst.inst = false) :
    edgeTaken k s = if s.get (PST_EDGE.SRC k) = 0 then s else doorbellIn (s.get (PST_EDGE.SRC k)) s :=
  (if_neg fun h => Bool.false_ne_true ((bit_of_get_zero hlatched).symm.trans h)).trans (if_pos ⟨hlock, by simp [hrun]⟩)

theorem edgeTaken_held {k : Nat} {s : State} (hlatched : s.get (PST_EDGE.LATCHED k) = 0)
    (h : s.locked = false ∨ s.rst.inst = true) : edgeTaken k s = s.put (PST_EDGE.LATCHED k) 1 :=
  (if_neg fun h => Bool.false_ne_true ((bit_of_get_zero hlatched).symm.trans h)).trans <| if_neg fun ⟨hlock, hrun⟩ => by
    rcases h with h | h
    · exact Bool.false_ne_true (h.symm.trans hlock)
    · simp [h] at hrun

theorem edgeTaken_lost {k : Nat} {s : State} (hlatched : s.get (PST_EDGE.LATCHED k) = 1) (hlow : PST_EDGE k ≠ PST_STAT) :
    (edgeTaken k s).get (PST_EDGE.LOST k) = 1 ∧ (s.rst.inst = false → (edgeTaken k s).get PST_STAT.EDGE_LOST = 1) ∧
      s.Frame (edgeTaken k s) [PST_EDGE.LOST k, PST_STAT.EDGE_LOST] := by
  have htaken : edgeTaken k s = if s.rst.inst then s.put (PST_EDGE.LOST k) 1
      else (s.put (PST_EDGE.LOST k) 1).put PST_STAT.EDGE_LOST 1 := if_pos (bit_of_get hlatched)
  rw [htaken]
  cases s.rst.inst with
  | true =>
    rw [if_pos rfl]
    exact ⟨get_put_fit _ _ _ rfl, fun h => absurd h (by decide), frame_intro ((KeepsBits.refl s).put _ _) (by simp) rfl⟩
  | false =>
    rw [if_neg Bool.false_ne_true]
    exact ⟨(get_put_reg _ _ _ _ hlow).trans (get_put_fit _ _ _ rfl), fun _ => get_put_fit _ _ _ rfl,
      frame_intro (((KeepsBits.refl s).put _ _).put _ _) (by simp) rfl⟩

/-- Settles O37: each command clause by clause. The doorbell that merely accepts the next waiting one is log entry 97, the
merged doorbell that does not count in its group is log entry 95, the source that leaves its group and is held no longer is log
entry 154, a window that ends at its edge is log entry 153, and the host's claim in instance reset is log entry 21. -/
theorem interruptControllerCommandsComplete : Obligations.InterruptControllerCommandsComplete := by
  refine ⟨?_, ?_, ?_, ?_, ?_, fun e s hrun => completes_running rfl hrun rfl rfl, acceptEdge_leaves, ?_, ?_, ?_, ?_,
    fun s => ⟨acceptNext_waits, fun x => nextDoorbell_class0, fun x rest => nextDoorbell_first⟩, ?_,
    fun n i s v _ hi hv => bound_leaves hi hv, fun i s _ => wakeCore_leaves i s, fun s n => deliverable_not,
    fun s n i => route_core, ?_, fun c s => ⟨rfl, coalesceDue_iff c s⟩, ?_, ?_, ?_, ?_, openWindow_leaves, ?_, ?_, ?_, ?_, ?_⟩
  · rintro e i s _ rfl hst
    have hcore := onCore_runs ((coreState_adv s e i).trans hst)
    refine ⟨completes_next rfl (hcore _) ⟨rfl, mapGet_mapSet_same .., advanceTo_regs s e⟩, completes_next rfl (hcore _) ?_⟩
    exact congrArg (fun l => (s.advanceTo e).answer [mapGet 0 l (16 * 2 ^ 25 + i.val)]) (advanceTo_latch s e)
  · rintro e i s _ rfl hst
    refine ⟨fun htop => ?_, fun n htop hn => ?_⟩
    · refine completes_next rfl (onCore_runs hst _) ?_
      dsimp only
      rw [claim_none htop]
      rfl
    · obtain ⟨hno, hactive, hbound, hpend, hpst, hkeeps⟩ := claim_leaves htop hn
      obtain ⟨r, hr⟩ : ∃ r, r = claim i (windowsCatch (s.advanceTo e)) := ⟨_, rfl⟩
      rw [← hr] at hno hactive hbound hpend hpst hkeeps
      refine completes_next (u := r.2.answer [BitVec.ofNat 32 r.1]) rfl ((onCore_runs hst _).trans (by rw [← hr])) ?_
      exact ⟨congrArg (fun m => [BitVec.ofNat 32 m]) hno, hactive, hbound, hpend, hpst, hkeeps.of_regs rfl⟩
  · rintro e i v n s _ rfl hst rfl hlo hhi hactive htgt
    rw [← State.advanceTo_get s e] at hactive htgt
    exact completes_next rfl (onCore_runs ((coreState_adv s e i).trans hst) _) (complete_ends hlo hhi hactive htgt)
  · rintro e i v s _ rfl hst hbad
    rw [← State.advanceTo_get s e, ← State.advanceTo_get s e (PST_SRC_STAT.TGT v.toNat)] at hbad
    exact completes_next rfl ((onCore_runs ((coreState_adv s e i).trans hst) _).trans (complete_bad hbad))
      ⟨get_put_fit _ _ _ rfl, frame_put _ _ _⟩
  · rintro e req n s _ rfl hallowed hrun
    exact completes_running rfl hrun (if_neg fun h => Bool.false_ne_true (hallowed.symm.trans h)) rfl
  · rintro n s _ hn rfl
    rw [acceptDoorbell_bad hn]
    exact ⟨get_put_fit _ _ _ rfl, rfl, (((KeepsBits.refl s).put _ _).mono (by simp)).of_regs rfl⟩
  · rintro n s _ hlo hhi hc0 hpend hcg rfl
    rw [acceptDoorbell_fresh hlo hhi hc0 hpend hcg]
    exact ⟨get_put_fit _ _ _ rfl, (get_put_apart _ _ _ _ rfl).trans (get_incSat_half rfl rfl s),
      frame_intro (((KeepsBits.refl s).put _ _).put _ _) (by simp) rfl⟩
  · rintro n z s _ hlo hhi hs hpend hheld rfl
    rw [acceptDoorbell_merged hlo hhi hs hpend hheld]
    exact ⟨get_incSat_half rfl rfl s, frame_put _ _ _⟩
  · rintro s u x hlock hroom hnext hu
    rw [acceptNext_takes hlock hroom hnext hu]
    exact ⟨fun hx => by rw [if_pos hx, Nat.mod_eq_of_lt hx], fun hx => by rw [if_neg (Nat.not_lt.mpr hx)]⟩
  · rintro e n s _ v hn rfl
    have hbind : ∀ {t}, bindSource n (s.advanceTo e) = t → Completes (.sourceBind e n) s fun u => u = t := fun h =>
      completes_next rfl ((if_neg hn).trans h) rfl
    refine ⟨fun hnot => hbind (bindSource_undelivered hnot), fun hdel hroute => hbind (bindSource_unrouted hdel hroute),
      fun i hdel hroute hi hv => hbind (bindSource_core hdel hroute hi hv), fun hdel hroute hv => ?_⟩
    refine completes_next rfl ((if_neg hn).trans (bindSource_host hdel hroute hv)) ⟨fun h => if_pos h, fun h => if_neg ?_⟩
    simp [h]
  · rintro e c s _ y hc rfl hy
    refine ⟨fun hopen hdue => ?_, fun hclosed => completes_next rfl (if_pos (.inr (by rw [bit_of_get_zero hclosed]; rfl))) rfl⟩
    have hopeny : y.get (PST_CG_STAT.OPEN c) = 1 := by
      rw [hy]
      split
      · exact hopen
      · rw [State.advanceTo_get, hopen]
    obtain ⟨w, hw, hrest⟩ := coalesceRelease_due hc hopeny hdue
    refine completes_next rfl ((if_neg fun h => ?_).trans (hy ▸ rfl : _ = coalesceRelease c y)) ⟨w, hw, hrest⟩
    rw [bit_of_get hopen] at h
    exact h.elim hc Bool.false_ne_true
  · rintro l s _ rfl
    obtain ⟨hheld, hpend, hrest⟩ := freeHeld_leaves l s
    exact ⟨fun n hn => hheld n (.inl hn), hpend, hrest⟩
  · rintro n s _ rfl
    exact unbind_leaves n s
  · rintro e s _ rfl
    refine ⟨fun hreset => completes_next rfl (if_pos hreset) rfl, fun hrun htop => ?_, fun n hrun htop hn => ?_⟩
    all_goals refine completes_next rfl (if_neg (by simp [hrun])) ?_
    · have hclaim : hostClaim (windowsCatch (s.advanceTo e)) = (0, windowsCatch (s.advanceTo e)) := if_pos htop
      dsimp only
      rw [hclaim]
      rfl
    · subst htop
      have hclaim : hostClaim (windowsCatch (s.advanceTo e)) = _ := if_neg hn
      dsimp only
      rw [hclaim]
  · rintro req n v s u w hn hp hwas hu hc0 hw
    have hwrite := srcCfgWrite_leaves hwas hu hc0 hw
    refine completes_next rfl ((if_neg hn).trans ((gated_permits hp _).trans hwrite)) ⟨fun hen hoff => if_pos ?_, fun h => if_neg fun hboth => ?_⟩
    · rw [bit_of_get hen, bit_of_get_zero hoff]
      rfl
    · rw [Bool.and_eq_true, Bool.not_eq_true'] at hboth
      rcases h with h | h
      · exact Bool.false_ne_true ((bit_of_get_zero h).symm.trans hboth.1)
      · exact Bool.false_ne_true (hboth.2.symm.trans (bit_of_get h))
  · rintro e n s _ y x rfl hx hy
    obtain ⟨t, hexec, ht⟩ := completes_maskWindowEnd hx hy
    refine ⟨fun hlock hearly => ⟨t, hexec, ht.trans ?_⟩, fun hover hbound => ⟨t, hexec, ht.trans ?_⟩,
      fun hover hbound => ⟨t, hexec, ht.trans ?_⟩⟩
    · have hstill : y = s.advanceTo e := hy.trans (if_neg fun h => Bool.false_ne_true (hlock.symm.trans h.1))
      rw [hstill, if_neg (Nat.not_le.mpr hearly)]
    · rw [if_pos hover, if_pos (bit_of_get hbound)]
    · rw [if_pos hover, if_neg (by simp [bit_of_get_zero hbound])]
  · rintro req n v s hn hp
    refine ⟨fun h => ?_, fun h => ?_⟩
    all_goals refine completes_next rfl ((if_neg hn).trans (gated_permits hp _)) ?_
    · exact if_pos (by rw [fldGet_bit, h]; rfl)
    · exact srcStatWrite_clears (by rw [fldGet_bit, h]; rfl) s
  · rintro req v s _ hp rfl
    refine ⟨fun h => completes_permitted rfl hp (if_neg fun hboth => ?_) rfl,
      fun hwas hnow => completes_permitted rfl hp (if_pos ?_) rfl⟩
    · rw [Bool.and_eq_true, Bool.not_eq_true'] at hboth
      rcases h with h | h
      · exact Bool.false_ne_true (hboth.1.symm.trans (bit_of_get h))
      · exact Bool.false_ne_true ((bit_of_get_zero h).symm.trans hboth.2)
    · rw [bit_of_get_zero hwas, bit_of_get hnow]
      rfl
  · rintro e k rising s _ rfl h
    simp only [← State.advanceTo_get s e] at h
    exact completes_next rfl (edgeCaught_ignored h) rfl
  · rintro e k s _ rfl hen hk hpol hwake rising
    have hlow : PST_EDGE k ≠ PST_STAT := by
      unfold PST_EDGE PST_STAT
      omega
    have hadv := State.advanceTo_get s e
    have htaken := edgeCaught_taken ((hadv _).trans hen) hk ((hadv _).trans hpol) ((hadv _).trans hwake) hlow rising
    refine ⟨fun hlatched hlock hrun => ?_, fun hlatched h => ?_, fun hlatched => ?_⟩
    · refine completes_next rfl (htaken.trans (edgeTaken_passed ((hadv _).trans hlatched) ((locked_adv s e).trans hlock)
        ((congrArg _ (advanceTo_rst s e)).trans hrun))) ?_
      rw [hadv]
      exact ⟨fun h => if_pos h, fun h => if_neg h⟩
    · refine completes_next rfl (htaken.trans (edgeTaken_held ((hadv _).trans hlatched) ?_)) ⟨get_put_fit _ _ _ rfl, frame_put _ _ _⟩
      rwa [locked_adv, advanceTo_rst]
    · have hlost := edgeTaken_lost ((hadv _).trans hlatched) hlow
      rw [advanceTo_rst] at hlost
      exact completes_next rfl htaken hlost

end Sys2Proof.Machine

/-! PROOFS of the family spec/17_firmware.md. What boot, pushes, firmware resets, activations, watchdogs, heartbeats, debug halts
and condition reports leave. -/

namespace Sys2Proof.Machine

open State

/-! ### Boot (R537, R539, R540) -/

theorem imageVerified_none {s : State} (h : s.coreState 0 ≠ 1 ∨ s.fw.loading = none) : imageVerified s = s := by
  have hnone : (if s.coreState 0 = 1 then s.fw.loading else none) = none := by
    rcases h with h | h
    · exact if_neg h
    · rw [h, ite_self]
  unfold imageVerified
  rw [hnone]

/-- The image that is being loaded has been checked: it runs, or the other slot is tried, or the boot fails. -/
theorem imageVerified_loaded {s : State} {k : Nat} {b : Bool} (hcore : s.coreState 0 = 1) (hload : s.fw.loading = some (k, b)) :
    imageVerified s = if s.slotFault k = 0 then
        imageRuns (s.slotHeader k) k { s with fw := { s.fw with loading := none }
                                              out := { s.out with pushes := s.out.pushes ++ [s.slotHeader k ++ s.slotBody k] } }
      else if b then bootFail (unload (s.slotHeader k) s) else romLoad (1 - k) true (unload (s.slotHeader k) s) := by
  unfold imageVerified
  rw [if_pos hcore, hload]

theorem bootFail_leaves (s : State) : (bootFail s).get FW_STAT.BOOT = 4 ∧ (bootFail s).get (MCH_CH_CFG.RCV 0) = 0 ∧
    (bootFail s).get (MCH_CH_CFG.RCV 1) = 11 ∧ (bootFail s).fw.loading = none ∧
    s.KeepsBits (bootFail s) [FW_STAT.BOOT, MCH_CH_CFG.RCV 0, MCH_CH_CFG.RCV 1] := by
  obtain ⟨w, hw⟩ : ∃ w : State, w = { s.put FW_STAT.BOOT 4 with fw := { s.fw with loading := none } } := ⟨_, rfl⟩
  have hfail : bootFail s = (w.put (MCH_CH_CFG.RCV 0) 0).put (MCH_CH_CFG.RCV 1) 11 := by
    rw [hw]
    rfl
  have hkeeps : s.KeepsBits w [FW_STAT.BOOT] := by
    rw [hw]
    exact ((KeepsBits.refl s).put _ _).of_regs rfl
  have hboot : w.get FW_STAT.BOOT = 4 := by
    rw [hw]
    exact (get_of_regs rfl _).trans (get_put_fit s FW_STAT.BOOT 4 rfl)
  rw [hfail]
  refine ⟨?_, ?_, get_put_fit _ _ _ rfl, hw ▸ rfl, ((hkeeps.put _ _).put _ _).mono (by simp)⟩
  · rw [get_put_reg _ _ _ _ (by decide), get_put_reg _ _ _ _ (by decide), hboot]
  · rw [get_put_reg _ _ _ _ (by decide), get_put_fit _ _ _ rfl]

theorem coreEntry_section {h : List (BitVec 8)} {i a : Nat} (hentry : entryOf h i = some a) (s : State) :
    coreEntry h i s = s.setCoreSt i { s.coreSt i with pc := BitVec.ofNat 32 a } := by
  unfold coreEntry
  rw [hentry]

/-- A core released with a section of its own goes on at its address. -/
theorem releaseCore_leaves {h : List (BitVec 8)} {i a : Nat} (hentry : entryOf h i = some a) (s : State) :
    (releaseCore h i s).coreState i = 1 ∧ ((releaseCore h i s).coreSt i).pc = BitVec.ofNat 32 a ∧
      ((releaseCore h i s).coreSt i).kicked = s.now ∧ ((releaseCore h i s).coreSt i).wdog = 0 ∧
      ((releaseCore h i s).coreSt i).reload = false ∧ s.KeepsBits (releaseCore h i s) [FW_CORE.STATE i] := by
  obtain ⟨w, hw⟩ : ∃ w, w = (s.setCoreSt i { s.coreSt i with pc := BitVec.ofNat 32 a }).put (FW_CORE.STATE i) 1 := ⟨_, rfl⟩
  have hcore : w.coreSt i = { s.coreSt i with pc := BitVec.ofNat 32 a } := by
    rw [hw]
    exact coreSt_setCoreSt_same ..
  have hnow : w.now = s.now := by
    rw [hw]
    rfl
  have hrel : releaseCore h i s = wdogStart i (w.setCoreSt i { w.coreSt i with reload := false }) := by
    unfold releaseCore
    rw [coreEntry_section hentry, ← hw]
  have hst : (releaseCore h i s).coreSt i = { s.coreSt i with pc := BitVec.ofNat 32 a, reload := false, kicked := s.now, wdog := 0 } := by
    rw [hrel, wdogStart, coreSt_setCoreSt_same, coreSt_setCoreSt_same, hcore, ← hnow]
    rfl
  have hregs : (releaseCore h i s).regs = w.regs := by
    rw [hrel]
    rfl
  refine ⟨(get_of_regs hregs _).trans ?_, ?_, ?_, ?_, ?_, KeepsBits.of_regs ?_ hregs⟩
  · rw [hw, get_put_fit _ _ _ rfl]
  · rw [hst]
  · rw [hst]
  · rw [hst]
  · rw [hst]
  · rw [hw]
    exact ((KeepsBits.refl s).of_regs rfl).put _ _

theorem imageRuns_leaves (h : List (BitVec 8)) (k : Nat) (s : State) : (imageRuns h k s).get FW_STAT.BOOT = 3 ∧
    (imageRuns h k s).get FW_STAT.SLOT = k % 2 ∧ (imageRuns h k s).get FW_STAT.SVN = hdrField h 8 4 % 256 ∧
    (imageRuns h k s).num FW_VER = hdrField h 16 4 % 2 ^ 32 := by
  obtain ⟨w, hw⟩ : ∃ w, w = coreEntry h 0 (s.each ((List.range 11).drop 1) fun s i => releaseCore h i s) := ⟨_, rfl⟩
  have hruns : imageRuns h k s = (((w.put FW_STAT.BOOT 3).put FW_STAT.SLOT k).put FW_STAT.SVN (hdrField h 8 4 % 256)).wrN FW_VER
      (hdrField h 16 4) := by
    rw [hw]
    rfl
  rw [hruns]
  refine ⟨?_, ?_, ?_, num_wrN_same ..⟩
  · rw [State.wrN, get_wr_other _ _ _ _ (by decide), get_put_apart _ _ _ _ rfl, get_put_apart _ _ _ _ rfl, get_put_fit _ _ _ rfl]
  · rw [State.wrN, get_wr_other _ _ _ _ (by decide), get_put_apart _ _ _ _ rfl, get_put_cut _ _ _ rfl]
    rfl
  · rw [State.wrN, get_wr_other _ _ _ _ (by decide), get_put_cut _ _ _ rfl]
    exact Nat.mod_mod _ _

theorem imagePush_ignored {s : State} (h : s.inst = 0 ∨ s.get FW_STAT.BOOT ≠ 0 ∨ s.coreState 0 ≠ 1) (k : Nat) (b : Bool)
    (img : List (BitVec 8)) : imagePush k b img s = s := if_pos h

/-- A push that an instance 1..3 waits for. -/
theorem imagePush_awaited {s : State} (hinst : s.inst ≠ 0) (hboot : s.get FW_STAT.BOOT = 0) (hcore : s.coreState 0 = 1) (k : Nat)
    (b : Bool) (img : List (BitVec 8)) : imagePush k b img s =
      if imageFault s.efuse (img.take 512) (img.drop 512) = 0 then
        (imageRuns (img.take 512) k (loadSections (fun _ => true) (img.take 512) (img.drop 512)
          { s with fw := { s.fw with pushed := img.zipIdx.foldl (fun f e => mapSet 0xFF f e.2 e.1) [] } })).putB FW_STAT.TRIAL b
      else if s.fw.pushFails = 0 then
        { s with fw := { s.fw with pushFails := 1 }, out := { s.out with pushFails := s.out.pushFails ++ [s.now] } }
      else bootFail { s with fw := { s.fw with pushFails := 2 } } :=
  if_neg (by simp [hinst, hboot, hcore])

/-! ### Firmware reset (R542) -/

theorem coreLeave_efuse (i : Nat) (s : State) : (coreLeave i s).efuse = s.efuse := by
  unfold coreLeave
  dsimp only
  rw [each_field State.efuse, each_field State.efuse]
  all_goals exact fun _ _ => rfl

theorem holdCore_leaves (i : Nat) (s : State) : (holdCore i s).coreState i = 0 ∧ ((holdCore i s).coreSt i).buf = [] ∧
    ((holdCore i s).coreSt i).resv = none ∧ (holdCore i s).KeepsBits (coreLeave i s) [FW_CORE.STATE i] ∧
    (holdCore i s).efuse = s.efuse := by
  obtain ⟨w, hw⟩ : ∃ w, w = (coreLeave i s).put (FW_CORE.STATE i) 0 := ⟨_, rfl⟩
  have hhold : holdCore i s = w.setCoreSt i { w.coreSt i with buf := [], resv := none } := by
    rw [hw]
    rfl
  have hkeeps : (coreLeave i s).KeepsBits w [FW_CORE.STATE i] := hw ▸ (KeepsBits.refl _).put _ _
  have hefuse : w.efuse = (coreLeave i s).efuse := by
    rw [hw]
    rfl
  rw [hhold]
  refine ⟨(get_of_regs (rfl : (w.setCoreSt i _).regs = w.regs) _).trans (hw ▸ get_put_fit _ _ _ rfl), ?_, ?_, fun a j ha => ?_, ?_⟩
  · rw [coreSt_setCoreSt_same]
  · rw [coreSt_setCoreSt_same]
  · exact (hkeeps a j ha).symm
  · exact hefuse.trans (coreLeave_efuse i s)

/-- What a firmware reset leaves before the boot runs. -/
def firmwareCleared (s : State) : State :=
  let s := s.each (List.range 11) fun s i => holdCore i s
  let s := s.each (List.range 11) fun s i => s.each (coreRegs i) fun s a => s.wr a (regReset a)
  let s := s.each (List.range 11) fun s i => s.incSat (FW_CORE.RESETS i)
  { s with ram := [], cache := [], core := [], yutre := [], fw := { s.fw with loading := none, resetDue := false } }

theorem firmwareReset_eq (s : State) : firmwareReset s = romBoot (firmwareCleared s) := rfl

theorem firmwareCleared_inst (s : State) : (firmwareCleared s).inst = s.inst := by
  have hefuse : (firmwareCleared s).efuse = s.efuse := by
    unfold firmwareCleared
    dsimp only
    rw [each_field State.efuse, each_field State.efuse, each_field State.efuse _ _ s fun t i => (holdCore_leaves i t).2.2.2.2]
    · exact fun t i => each_field State.efuse _ _ _ fun _ _ => rfl
    · exact fun _ _ => rfl
  exact congrArg (fun e : Efuse => e.inst % 4) hefuse

/-- SEC of an instance 1..3 runs its ROM and waits for a push (R539). -/
theorem romBoot_waits {s : State} (h : s.inst ≠ 0) : ∃ u, u = wdogStart 0
    ((((s.put (FW_CORE.STATE 0) 1).put FW_STAT.BOOT 0)).setCoreSt 0 { s.coreSt 0 with reload := false }) ∧
      romBoot s = { u with fw := { u.fw with pushFails := 0 } } :=
  ⟨_, rfl, if_neg h⟩

theorem firmwareReset_leaves {s : State} (h : s.inst ≠ 0) : (firmwareReset s).ram = [] ∧ (firmwareReset s).cache = [] ∧
    (firmwareReset s).yutre = [] ∧ (firmwareReset s).coreState 0 = 1 ∧ (firmwareReset s).get FW_STAT.BOOT = 0 ∧
    (firmwareReset s).fw.resetDue = false ∧ ((firmwareReset s).coreSt 0).buf = [] ∧ ((firmwareReset s).coreSt 0).resv = none := by
  obtain ⟨c, hc⟩ : ∃ c, c = firmwareCleared s := ⟨_, rfl⟩
  have hram : c.ram = [] := hc ▸ rfl
  have hcache : c.cache = [] := hc ▸ rfl
  have hyutre : c.yutre = [] := hc ▸ rfl
  have hdue : c.fw.resetDue = false := hc ▸ rfl
  have hcore : c.core = [] := hc ▸ rfl
  obtain ⟨u, hu, hboot⟩ := romBoot_waits (s := c) (by rw [hc, firmwareCleared_inst]; exact h)
  obtain ⟨w, hw⟩ : ∃ w, w = (c.put (FW_CORE.STATE 0) 1).put FW_STAT.BOOT 0 := ⟨_, rfl⟩
  rw [← hw] at hu
  have hregs : (firmwareReset s).regs = w.regs := by
    rw [firmwareReset_eq, ← hc, hboot, hu]
    rfl
  have hkept : (firmwareReset s).ram = c.ram ∧ (firmwareReset s).cache = c.cache ∧ (firmwareReset s).yutre = c.yutre ∧
      (firmwareReset s).fw.resetDue = c.fw.resetDue := by
    rw [firmwareReset_eq, ← hc, hboot, hu, hw]
    exact ⟨rfl, rfl, rfl, rfl⟩
  have hsec : (firmwareReset s).coreSt 0 = { c.coreSt 0 with reload := false, kicked := w.now, wdog := 0 } := by
    rw [firmwareReset_eq, ← hc, hboot]
    refine (congrArg (fun t : State => t.coreSt 0) hu).trans ?_
    rw [wdogStart, coreSt_setCoreSt_same, coreSt_setCoreSt_same]
    rfl
  have hnew : c.coreSt 0 = {} := by
    rw [State.coreSt, hcore]
    rfl
  refine ⟨hkept.1.trans hram, hkept.2.1.trans hcache, hkept.2.2.1.trans hyutre, (get_of_regs hregs _).trans ?_,
    (get_of_regs hregs _).trans ?_, hkept.2.2.2.trans hdue, ?_, ?_⟩
  · rw [hw, get_put_reg _ _ _ _ (by decide), get_put_fit _ _ _ rfl]
  · rw [hw, get_put_fit _ _ _ rfl]
  · rw [hsec, hnew]
  · rw [hsec, hnew]

/-! ### Activation, watchdogs and heartbeats (R546, R549, R550) -/

theorem activationStart_waits {s : State} (h : s.inst ≠ 0 ∨ s.get FW_ACT.PEND = 0 ∨ s.class0Bits ≠ 0) :
    activationStart s = s :=
  if_neg fun ⟨hinst, hpend, hquiet⟩ => by
    rcases h with h | h | h
    · exact h hinst
    · exact Bool.false_ne_true ((bit_of_get_zero h).symm.trans hpend)
    · exact h hquiet

theorem activationStart_acts {s y w : State} (hinst : s.inst = 0) (hpend : s.get FW_ACT.PEND = 1) (hquiet : s.class0Bits = 0)
    (hy : y = s.advanceTo (BitVec.ofNat 64 (s.fw.quiet + 8000000))) (hw : w = (dirWrite y.stagedSlot 1 3 y).ring kVL 3) :
    activationStart s = { (w.put FW_ACT.PEND 0).put FW_ACT.DEFERRED 0 with
      fw := { w.fw with staged := none, verified := none, resetDue := true } } := by
  unfold activationStart
  rw [if_pos ⟨hinst, bit_of_get hpend, hquiet⟩]
  dsimp only
  rw [← hy, ← hw]

/-- The watchdog of core i, which counts, has counted TO ms at y; w is the state with the core held. -/
theorem watchdogExpiry_acts {i : Nat} {s y w : State} (hcounts : s.wdogCounts i = true)
    (hy : y = s.advanceTo (BitVec.ofNat 64 (s.wdogEnd i)))
    (hw : w = holdCore i (((y.put (FW_WDOG.EXP i) 1).pulse 41).ring kVL 1)) :
    watchdogExpiry i s = if i = 0 then watchdogReset w else w.setCoreSt i { w.coreSt i with reload := true } := by
  unfold watchdogExpiry
  rw [if_pos hcounts]
  dsimp only
  rw [← hy, ← hw]

theorem reloadDone_acts {i : Nat} {s : State} {h b : List (BitVec 8)} (hreload : (s.coreSt i).reload = true)
    (himage : s.runningImage = (h, b)) : reloadDone i s =
      if sha384 b = beBytes ((h.drop 24).take 48) then
        releaseCore h i ((loadSections (· == i) h b s).incSat (FW_CORE.RESETS i))
      else watchdogReset s := by
  unfold reloadDone
  rw [if_pos hreload, himage]

/-- A kick by the host at z, where its periods have ended; u is the state with the kick noted. -/
theorem hostKick_leaves {s z u : State} (hz : z = hostTo s)
    (hu : u = { z.put FW_HOST_HB.MISS 0 with fw := { z.fw with kick := true } }) :
    hostKick s = if z.bit FW_STAT.HOST_LOST then (u.put FW_STAT.HOST_LOST 0).ring kVL 2 else u := by
  have hlost : u.bit FW_STAT.HOST_LOST = z.bit FW_STAT.HOST_LOST := by
    rw [State.bit, State.bit, hu, get_with_fw, get_put_reg _ _ _ _ (by decide)]
  rw [← hlost]
  unfold hostKick
  dsimp only
  rw [← hz, ← hu]

theorem hostPeriodEnd_kicked {u : State} (h : u.fw.kick = true) : hostPeriodEnd u = { u with fw := { u.fw with kick := false } } :=
  if_pos h

/-- A period without a kick counts in MISS, and the third sets HOST_LOST. -/
theorem hostPeriodEnd_missed {u w : State} (h : u.fw.kick = false)
    (hw : w = u.put FW_HOST_HB.MISS (min (u.get FW_HOST_HB.MISS + 1) 255)) : hostPeriodEnd u =
      if 3 ≤ min (u.get FW_HOST_HB.MISS + 1) 255 ∧ u.get FW_STAT.HOST_LOST = 0 then
        smbLatch (hostUnbind ((w.put FW_STAT.HOST_LOST 1).ring kVL 2))
      else w := by
  have hmiss : w.get FW_HOST_HB.MISS = min (u.get FW_HOST_HB.MISS + 1) 255 := by
    rw [hw, get_put_cut _ _ _ rfl]
    exact Nat.mod_eq_of_lt (by simp only [FW_HOST_HB.MISS]; omega)
  have hlost : w.get FW_STAT.HOST_LOST = u.get FW_STAT.HOST_LOST := by
    rw [hw, get_put_reg _ _ _ _ (by decide)]
  have hinc : u.incSat FW_HOST_HB.MISS = w := hw ▸ rfl
  have hzero : (!w.bit FW_STAT.HOST_LOST) = true ↔ u.get FW_STAT.HOST_LOST = 0 := by
    have hlt : u.get FW_STAT.HOST_LOST < 2 := fldGet_lt _ _ _
    rw [State.bit, hlost]
    interval_cases u.get FW_STAT.HOST_LOST <;> decide
  unfold hostPeriodEnd
  rw [if_neg (by simp [h])]
  dsimp only
  rw [hinc, hmiss]
  simp only [hzero]

theorem hbStale_off {s : State} (h : s.get FW_STAT.FW_OK = 0) : hbStale s = s := if_neg (by simp [bit_of_get_zero h])

/-! ### Debug windows (R552) -/

theorem haltCore_leaves (i : Nat) (pc : Word) (s : State) : (haltCore i pc s).rd (DBG_PC i) = pc ∧
    ((haltCore i pc s).coreSt i).pc = pc ∧
    (coreLeave i s).KeepsBits (haltCore i pc s) [FW_CORE.STATE i, DBG_STAT.HALTED i, ⟨DBG_PC i, 31, 0⟩] ∧
    (haltCore i pc s).coreState i = 2 ∧ (haltCore i pc s).get (DBG_STAT.HALTED i) = 1 := by
  obtain ⟨v, hv⟩ : ∃ v, v = ((coreLeave i s).put (FW_CORE.STATE i) 2).put (DBG_STAT.HALTED i) 1 := ⟨_, rfl⟩
  have hhalt : haltCore i pc s = (v.wr (DBG_PC i) pc).setCoreSt i { (v.wr (DBG_PC i) pc).coreSt i with pc := pc } := by
    unfold haltCore
    rw [← hv]
    rfl
  have hkeeps : (coreLeave i s).KeepsBits v [DBG_STAT.HALTED i, FW_CORE.STATE i] :=
    hv ▸ ((KeepsBits.refl _).put _ _).put _ _
  have hregs : (haltCore i pc s).regs = (v.wr (DBG_PC i) pc).regs := by
    rw [hhalt]
    rfl
  have hkept := hkeeps.wr (DBG_PC i) pc
  refine ⟨(rd_congr _ _ _ hregs).trans (rd_wr_same ..), ?_, (hkept.mono fun f hf => ?_).of_regs hregs,
    (get_of_regs hregs _).trans ?_, (get_of_regs hregs _).trans ?_⟩
  · rw [hhalt, coreSt_setCoreSt_same]
  · simp only [List.mem_cons, List.not_mem_nil, or_false] at hf ⊢
    tauto
  · rw [get_wr_other _ _ _ _ (by simp only [FW_CORE.STATE, FW_CORE, DBG_PC]; omega), hv,
      get_put_reg _ _ _ _ (by simp only [FW_CORE.STATE, FW_CORE, DBG_STAT.HALTED, DBG_STAT]; omega), get_put_fit _ _ _ rfl]
  · rw [get_wr_other _ _ _ _ (by simp only [DBG_STAT.HALTED, DBG_STAT, DBG_PC]; omega), hv, get_put_fit _ _ _ rfl]

/-- What RESUME makes of a halted core. -/
def resumed (i : Nat) (s : State) : State := wdogStart i ((s.put (FW_CORE.STATE i) 1).put (DBG_STAT.HALTED i) 0)

theorem resumed_leaves (i : Nat) (s : State) : (resumed i s).coreState i = 1 ∧ (resumed i s).get (DBG_STAT.HALTED i) = 0 ∧
    ((resumed i s).coreSt i).pc = (s.coreSt i).pc ∧ ((resumed i s).coreSt i).kicked = s.now ∧
    ((resumed i s).coreSt i).wdog = 0 ∧ s.KeepsBits (resumed i s) [FW_CORE.STATE i, DBG_STAT.HALTED i] := by
  obtain ⟨v, hv⟩ : ∃ v, v = (s.put (FW_CORE.STATE i) 1).put (DBG_STAT.HALTED i) 0 := ⟨_, rfl⟩
  have hpc : (v.coreSt i).pc = (s.coreSt i).pc := hv ▸ rfl
  have hnow : v.now = s.now := hv ▸ rfl
  have hkeeps : s.KeepsBits v [DBG_STAT.HALTED i, FW_CORE.STATE i] := hv ▸ ((KeepsBits.refl _).put _ _).put _ _
  have hresumed : resumed i s = v.setCoreSt i { v.coreSt i with kicked := v.now, wdog := 0 } := by
    rw [hv]
    rfl
  have hregs : (resumed i s).regs = v.regs := by
    rw [hresumed]
    rfl
  have hst : (resumed i s).coreSt i = { v.coreSt i with kicked := v.now, wdog := 0 } := by
    rw [hresumed, coreSt_setCoreSt_same]
  refine ⟨(get_of_regs hregs _).trans ?_, (get_of_regs hregs _).trans ?_, ?_, ?_, ?_, (hkeeps.mono (by simp)).of_regs hregs⟩
  · rw [hv, get_put_reg _ _ _ _ (by simp only [FW_CORE.STATE, FW_CORE, DBG_STAT.HALTED, DBG_STAT]; omega), get_put_fit _ _ _ rfl]
  · rw [hv, get_put_fit _ _ _ rfl]
  · rw [hst, hpc]
  · rw [hst, hnow]
  · rw [hst]

/-- A write of HALT alone. -/
theorem dbgCtrlWrite_halt (i : Nat) (pc : Word) (s : State) : dbgCtrlWrite i pc 1 s =
    if s.coreState i = 1 ∨ s.coreState i = 3 then haltCore i pc s else s := by
  unfold dbgCtrlWrite
  simp [fldGet]

theorem dbgCtrlWrite_resume (i : Nat) (pc : Word) (s : State) : dbgCtrlWrite i pc 2 s =
    if s.coreState i = 2 then resumed i s else s := by
  unfold dbgCtrlWrite
  simp [fldGet, resumed, kickCore]

theorem dbgCtrlWrite_step (i : Nat) (pc : Word) (s : State) : dbgCtrlWrite i pc 4 s =
    if s.coreState i ≠ 0 then haltCore i pc s else s := by
  unfold dbgCtrlWrite
  simp [fldGet]

/-- Settles O40: each command clause by clause. The staged image forgotten when an activation starts and what RESETS counts are
log entry 84, the reload source on instances 1..3 is log entry 85, and host periods counted at the next look, 256 at most, are log
entry 151. -/
theorem firmwareCommandsComplete : Obligations.FirmwareCommandsComplete := by
  refine ⟨?_, ?_, ?_, fun h k s => imageRuns_leaves h k s, ?_, ?_, fun s hinst => firmwareReset_leaves hinst, ?_, ?_, ?_, ?_, ?_,
    ?_, ?_, ?_, ?_, ?_, ?_, ?_, ?_, ?_⟩
  · rintro e s _ rfl
    refine ⟨fun h hrun => completes_running rfl hrun (imageVerified_none h) rfl, fun k b hcore hload hrun => ?_⟩
    refine completes_running rfl hrun (imageVerified_loaded hcore hload) ⟨fun h => if_pos h, fun h hb => ?_, fun h hb => ?_⟩
    · rw [if_neg h, if_neg (by simp [hb])]
    · rw [if_neg h, if_pos hb]
  · rintro s _ rfl
    exact bootFail_leaves s
  · rintro h i a s _ hentry rfl
    exact releaseCore_leaves hentry s
  · rintro e k b img s _ rfl
    refine ⟨fun h hrun => completes_running rfl hrun (imagePush_ignored h _ _ _) rfl, fun hinst hboot hcore hrun => ?_⟩
    refine completes_running rfl hrun (imagePush_awaited hinst hboot hcore _ _ _) ⟨fun hbad hfirst => ?_, fun hbad hsecond => ?_,
      fun hgood w hw => ?_⟩
    · rw [if_neg hbad, if_pos hfirst]
    · rw [if_neg hbad, if_neg hsecond]
    · rw [if_pos hgood, hw]
  · rintro e s _ rfl
    refine ⟨fun h hrun => completes_running rfl hrun (if_neg h) rfl, fun h hdue hrun => ?_, fun h hdue hrun => ?_⟩
    · exact completes_running rfl hrun ((if_pos h).trans (if_pos hdue)) rfl
    · exact completes_running rfl hrun ((if_pos h).trans (if_neg (by simp [hdue]))) rfl
  · rintro e s _ rfl
    refine ⟨fun h hrun => completes_running rfl hrun (activationStart_waits h) rfl, fun y w hinst hpend hquiet hy hw hrun => ?_⟩
    exact completes_running rfl hrun (activationStart_acts hinst hpend hquiet hy hw) rfl
  · rintro e req i s _ rfl hp
    exact completes_next rfl (gated_permits hp _) rfl
  · rintro e i s _ rfl
    refine ⟨fun h hrun => completes_running rfl hrun (if_neg (by simp [h])) rfl, fun y w hcounts hy hw hrun => ?_⟩
    exact completes_running rfl hrun (watchdogExpiry_acts hcounts hy hw) ⟨fun h => if_pos h, fun h => if_neg h⟩
  · intro i s
    obtain ⟨hstate, hbuf, hresv, hkeeps, -⟩ := holdCore_leaves i s
    exact ⟨hstate, hbuf, hresv, hkeeps⟩
  · rintro e i s _ h b rfl himage
    refine ⟨fun hno hrun => completes_running rfl hrun (if_neg (by simp [hno])) rfl, fun hreload hgood hrun => ?_,
      fun hreload hbad hrun => ?_⟩
    · exact completes_running rfl hrun ((reloadDone_acts hreload himage).trans (if_pos hgood)) rfl
    · exact completes_running rfl hrun ((reloadDone_acts hreload himage).trans (if_neg hbad)) rfl
  · rintro req v s z u hp hz hu
    refine completes_permitted rfl hp (hostKick_leaves hz hu) ⟨fun h => if_neg (by simp [bit_of_get_zero h]), fun h => ?_⟩
    have hport : u.pst.port = z.pst.port := by
      rw [hu]
      rfl
    rw [if_pos (bit_of_get h)]
    exact ⟨(ring_get ..).trans (get_put_fit _ _ _ rfl), congrArg (· ++ [32 * kVL + 2]) hport,
      ((KeepsBits.refl u).put _ _).of_regs rfl⟩
  · rintro u _ rfl
    refine ⟨fun h => hostPeriodEnd_kicked h, fun h hno => ?_, fun h hthree hlost => ?_⟩
    · exact (hostPeriodEnd_missed h rfl).trans (if_neg (by omega))
    · exact (hostPeriodEnd_missed h rfl).trans (if_pos ⟨hthree, hlost⟩)
  · rintro e s _ _ rfl rfl hrun
    exact completes_running rfl hrun rfl rfl
  · rintro e s _ rfl
    exact ⟨fun h hrun => completes_running rfl hrun (if_pos (bit_of_get h)) rfl,
      fun h hrun => completes_running rfl hrun (hbStale_off h) rfl⟩
  · rintro req i pc s hp
    exact ⟨fun h => completes_permitted rfl hp ((dbgCtrlWrite_halt i pc s).trans (if_pos h)) rfl,
      fun h1 h3 => completes_permitted rfl hp ((dbgCtrlWrite_halt i pc s).trans (if_neg (not_or.mpr ⟨h1, h3⟩))) rfl⟩
  · rintro req i s hp
    exact ⟨fun h => completes_permitted rfl hp ((dbgCtrlWrite_resume i 0 s).trans (if_pos h)) (resumed_leaves i s),
      fun h => completes_permitted rfl hp ((dbgCtrlWrite_resume i 0 s).trans (if_neg h)) rfl⟩
  · rintro req i pc s hp
    exact ⟨fun h => completes_permitted rfl hp ((dbgCtrlWrite_step i pc s).trans (if_pos h)) rfl,
      fun h => completes_permitted rfl hp ((dbgCtrlWrite_step i pc s).trans (if_neg (not_not.mpr h))) rfl⟩
  · intro i pc s
    obtain ⟨hpc, hst, hkeeps, hstate, hhalted⟩ := haltCore_leaves i pc s
    exact ⟨hpc, hst, hkeeps, fun _ => ⟨hstate, hhalted⟩⟩
  · rintro e k c s _ rfl
    refine ⟨fun h hrun => completes_running rfl hrun (if_neg (by omega)) rfl, fun hinst hk hrun => ?_⟩
    refine completes_running rfl hrun (if_pos ⟨hinst, hk⟩) ⟨rfl, rfl, fun h => if_neg h, fun h => if_pos h⟩

end Sys2Proof.Machine

/-! PROOFS of the family spec/16_telemetry_and_ageing.md. What Freeze requests, captures, unloads, the exports, ageing windows and
end-of-life words leave. -/

namespace Sys2Proof.Machine

open State

/-! ### Fields of a masked word -/

/-- A field outside the bits that an OR sets reads as before. -/
theorem fldGet_or_apart (v m : Word) {hi lo : Nat} (h : fldGet m hi lo = 0) : fldGet (v ||| m) hi lo = fldGet v hi lo := by
  unfold fldGet at h ⊢
  rw [← Nat.and_two_pow_sub_one_eq_mod] at h ⊢
  rw [← Nat.and_two_pow_sub_one_eq_mod, BitVec.ushiftRight_or_distrib, BitVec.toNat_or, Nat.and_or_distrib_right, h, Nat.or_zero]

/-- A field all of whose bits an AND keeps reads as before. -/
theorem fldGet_and_kept (v m : Word) {hi lo : Nat} (h : fldGet m hi lo = 2 ^ (hi + 1 - lo) - 1) :
    fldGet (v &&& m) hi lo = fldGet v hi lo := by
  unfold fldGet at h ⊢
  rw [← Nat.and_two_pow_sub_one_eq_mod] at h ⊢
  rw [← Nat.and_two_pow_sub_one_eq_mod, BitVec.ushiftRight_and_distrib, BitVec.toNat_and, Nat.and_assoc, h]

/-! ### Freeze (R507..R511) -/

/-- What a write of TLM_FRZ_CTRL does before a LOCAL request (R508). -/
def frzArmed (v : Word) (s : State) : State :=
  let s := (s.put TLM_FRZ_CTRL.TAG (fldGet v 31 16)).put TLM_FRZ_CTRL.EXPORT (fldGet v 8 8)
  if fldGet v 2 2 = 1 then
    { s.put TLM_FRZ_STAT.ARMED 0 with tlm := { s.tlm with armed := none, late := false } }
  else if fldGet v 1 1 = 1 then
    let at_ := s.get64 TLM_FRZ_AT_LO
    { s.put TLM_FRZ_STAT.ARMED 1 with tlm := { s.tlm with armed := some at_, late := decide (at_ ≤ s.now) } }
  else s

theorem frzCtrlWrite_eq (v : Word) (s : State) :
    frzCtrlWrite v s = if fldGet v 0 0 = 1 then freezeLocal (frzArmed v s) else frzArmed v s := rfl

/-- A LOCAL request meets what the write without it leaves. -/
theorem frzCtrlWrite_local (v : Word) (s : State) :
    frzCtrlWrite (v ||| 1) s = freezeLocal (frzCtrlWrite ((v ||| 1) &&& 0xFFFFFFFE) s) := by
  have hlocal : fldGet ((v ||| 1) &&& 0xFFFFFFFE) 0 0 = 0 := by
    rw [fldGet_bit]
    simp
  have harmed : frzArmed ((v ||| 1) &&& 0xFFFFFFFE) s = frzArmed (v ||| 1) s := by
    unfold frzArmed
    rw [fldGet_and_kept _ _ (by decide), fldGet_and_kept _ _ (by decide), fldGet_and_kept _ _ (by decide),
      fldGet_and_kept _ _ (by decide)]
  rw [frzCtrlWrite_eq, frzCtrlWrite_eq, if_pos (fldGet_or_one v), hlocal, if_neg (by decide), harmed]

theorem freezeLocal_busy {u : State} (h : u.get TLM_FRZ_STAT.BUSY = 1) : (freezeLocal u).get TLM_FRZ_STAT.REFUSED = 1 ∧
    (freezeLocal u).get TLM_EVT.LOSS = 1 ∧ (freezeLocal u).pst.port = u.pst.port ++ [32 * kTLM + 4] ∧
    u.KeepsBits (freezeLocal u) [TLM_FRZ_STAT.REFUSED, TLM_EVT.LOSS] := by
  obtain ⟨w, hw⟩ : ∃ w, w = (u.put TLM_FRZ_STAT.REFUSED 1).put TLM_EVT.LOSS 1 := ⟨_, rfl⟩
  have hlocal : freezeLocal u = w.ring kTLM 4 := hw ▸ if_pos (bit_of_get h)
  have hport : w.pst.port = u.pst.port := hw ▸ rfl
  have hkeeps : u.KeepsBits w [TLM_EVT.LOSS, TLM_FRZ_STAT.REFUSED] := hw ▸ ((KeepsBits.refl u).put _ _).put _ _
  rw [hlocal]
  refine ⟨?_, ?_, congrArg (· ++ [32 * kTLM + 4]) hport, (hkeeps.mono (by simp)).of_regs rfl⟩
  · rw [ring_get, hw, get_put_reg _ _ _ _ (by decide), get_put_fit _ _ _ rfl]
  · rw [ring_get, hw, get_put_fit _ _ _ rfl]

theorem freezeLocal_idle {u : State} (h : u.get TLM_FRZ_STAT.BUSY = 0) : freezeLocal u = if u.locked then
      freezeCapture (u.advanceTo (u.ts + 1)).armedDue (u.advanceTo (u.ts + 1))
    else { u with tlm := { u.tlm with localDue := true } } :=
  if_neg (by simp [bit_of_get_zero h])

/-- The number and the time of a capture, before its run is kept. -/
def frzCounted (timed late : Bool) (u : State) : State :=
  let s := u.wrN TLM_FRZ_NUM ((u.num TLM_FRZ_NUM + 1) % 2 ^ 32)
  let s := (s.put64 TLM_FRZ_TS_LO s.now).put TLM_FRZ_STAT.BUSY 1
  let s := if late then s.put TLM_FRZ_STAT.LATE 1 else s
  if timed then { s.put TLM_FRZ_STAT.ARMED 0 with tlm := { s.tlm with armed := none, late := false } } else s

theorem freezeCapture_eq {timed : Bool} {s u : State} (hu : u = seaCatch (rippleCatch (countEdges s))) : ∃ late run,
    freezeCapture timed s = { frzCounted timed late u with
      tlm := { (frzCounted timed late u).tlm with run := some run, localDue := false } } := by
  subst hu
  exact ⟨_, _, rfl⟩

theorem frzCounted_leaves (timed late : Bool) (u : State) :
    (frzCounted timed late u).num TLM_FRZ_NUM = (u.num TLM_FRZ_NUM + 1) % 2 ^ 32 ∧
      (frzCounted timed late u).get64 TLM_FRZ_TS_LO = u.now % 2 ^ 64 ∧ (frzCounted timed late u).get TLM_FRZ_STAT.BUSY = 1 ∧
      (timed = true → (frzCounted timed late u).tlm.armed = none) := by
  obtain ⟨v, hv⟩ : ∃ v, v = (u.wrN TLM_FRZ_NUM ((u.num TLM_FRZ_NUM + 1) % 2 ^ 32)).put64 TLM_FRZ_TS_LO u.now := ⟨_, rfl⟩
  have hnum : v.num TLM_FRZ_NUM = (u.num TLM_FRZ_NUM + 1) % 2 ^ 32 := by
    rw [hv, State.num, rd_put64_other _ _ (by decide) (by decide), ← State.num, num_wrN_same, Nat.mod_mod]
  have hts : v.get64 TLM_FRZ_TS_LO = u.now % 2 ^ 64 := by
    rw [hv, get64_put64_cut]
  obtain ⟨w, hw⟩ : ∃ w, w = v.put TLM_FRZ_STAT.BUSY 1 := ⟨_, rfl⟩
  have hcounted : frzCounted timed late u =
      (if timed then { (if late then w.put TLM_FRZ_STAT.LATE 1 else w).put TLM_FRZ_STAT.ARMED 0 with
        tlm := { (if late then w.put TLM_FRZ_STAT.LATE 1 else w).tlm with armed := none, late := false } }
      else if late then w.put TLM_FRZ_STAT.LATE 1 else w) := by
    rw [hw, hv]
    rfl
  obtain ⟨x, hx⟩ : ∃ x, x = if late then w.put TLM_FRZ_STAT.LATE 1 else w := ⟨_, rfl⟩
  rw [← hx] at hcounted
  have hrdx : ∀ a, a ≠ TLM_FRZ_STAT → x.rd a = v.rd a := fun a ha => by
    rw [hx, hw]
    split
    · rw [rd_put_other _ _ _ _ ha, rd_put_other _ _ _ _ ha]
    · rw [rd_put_other _ _ _ _ ha]
  have hbusyx : x.get TLM_FRZ_STAT.BUSY = 1 := by
    rw [hx, hw]
    split
    · rw [get_put_apart _ _ _ _ rfl, get_put_fit _ _ _ rfl]
    · rw [get_put_fit _ _ _ rfl]
  have hrd : ∀ a, a ≠ TLM_FRZ_STAT → (frzCounted timed late u).rd a = v.rd a := fun a ha => by
    rw [hcounted, ← hrdx a ha]
    split
    · rw [rd_with_tlm, rd_put_other _ _ _ _ ha]
    · rfl
  refine ⟨(congrArg BitVec.toNat (hrd _ (by decide))).trans hnum, (get64_of_rd (hrd _ (by decide)) (hrd _ (by decide))).trans hts,
    ?_, fun h => ?_⟩
  · rw [hcounted]
    split
    · rw [get_with_tlm, get_put_apart _ _ _ _ rfl, hbusyx]
    · exact hbusyx
  · rw [hcounted, if_pos h]

theorem frzArmed_armed {v : Word} (harm : fldGet v 1 1 = 1) (hno : fldGet v 2 2 = 0) (s : State) :
    (frzArmed v s).get TLM_FRZ_STAT.ARMED = 1 ∧ (frzArmed v s).tlm.armed = some (s.get64 TLM_FRZ_AT_LO) ∧
      (frzArmed v s).tlm.late = decide (s.get64 TLM_FRZ_AT_LO ≤ s.now) ∧
      (frzArmed v s).get TLM_FRZ_CTRL.TAG = fldGet v 31 16 ∧ (frzArmed v s).get TLM_FRZ_CTRL.EXPORT = fldGet v 8 8 ∧
      s.KeepsBits (frzArmed v s) [TLM_FRZ_STAT.ARMED, TLM_FRZ_CTRL.TAG, TLM_FRZ_CTRL.EXPORT] := by
  obtain ⟨w, hw⟩ : ∃ w, w = (s.put TLM_FRZ_CTRL.TAG (fldGet v 31 16)).put TLM_FRZ_CTRL.EXPORT (fldGet v 8 8) := ⟨_, rfl⟩
  have harmed : frzArmed v s = { w.put TLM_FRZ_STAT.ARMED 1 with
      tlm := { w.tlm with armed := some (w.get64 TLM_FRZ_AT_LO), late := decide (w.get64 TLM_FRZ_AT_LO ≤ w.now) } } := by
    rw [hw]
    exact (if_neg (by omega)).trans (if_pos harm)
  have hat : w.get64 TLM_FRZ_AT_LO = s.get64 TLM_FRZ_AT_LO := by
    rw [hw, get64_of_rd (rd_put_other _ _ _ _ (by decide)) (rd_put_other _ _ _ _ (by decide)),
      get64_of_rd (rd_put_other _ _ _ _ (by decide)) (rd_put_other _ _ _ _ (by decide))]
  have hnow : w.now = s.now := hw ▸ rfl
  have hkeeps : s.KeepsBits w [TLM_FRZ_CTRL.EXPORT, TLM_FRZ_CTRL.TAG] := hw ▸ ((KeepsBits.refl s).put _ _).put _ _
  rw [harmed]
  refine ⟨?_, congrArg some hat, by rw [hat, hnow], ?_, ?_, (((hkeeps.put TLM_FRZ_STAT.ARMED 1).mono (by simp)).of_regs rfl)⟩
  · rw [get_with_tlm, get_put_fit _ _ _ rfl]
  · rw [get_with_tlm, get_put_reg _ _ _ _ (by decide), hw, get_put_apart _ _ _ _ rfl, get_put_cut _ _ _ rfl]
    exact Nat.mod_eq_of_lt (fldGet_lt v 31 16)
  · rw [get_with_tlm, get_put_reg _ _ _ _ (by decide), hw, get_put_cut _ _ _ rfl]
    exact Nat.mod_eq_of_lt (fldGet_lt v 8 8)

theorem frzArmed_disarmed {v : Word} (hdisarm : fldGet v 2 2 = 1) (s : State) :
    (frzArmed v s).get TLM_FRZ_STAT.ARMED = 0 ∧ (frzArmed v s).tlm.armed = none ∧ (frzArmed v s).tlm.late = false ∧
      s.KeepsBits (frzArmed v s) [TLM_FRZ_STAT.ARMED, TLM_FRZ_CTRL.TAG, TLM_FRZ_CTRL.EXPORT] := by
  obtain ⟨w, hw⟩ : ∃ w, w = (s.put TLM_FRZ_CTRL.TAG (fldGet v 31 16)).put TLM_FRZ_CTRL.EXPORT (fldGet v 8 8) := ⟨_, rfl⟩
  have harmed : frzArmed v s = { w.put TLM_FRZ_STAT.ARMED 0 with tlm := { w.tlm with armed := none, late := false } } := by
    rw [hw]
    exact if_pos hdisarm
  have hkeeps : s.KeepsBits w [TLM_FRZ_CTRL.EXPORT, TLM_FRZ_CTRL.TAG] := hw ▸ ((KeepsBits.refl s).put _ _).put _ _
  rw [harmed]
  refine ⟨?_, rfl, rfl, (((hkeeps.put TLM_FRZ_STAT.ARMED 0).mono (by simp)).of_regs rfl)⟩
  rw [get_with_tlm, get_put_fit _ _ _ rfl]

theorem armedTo_at {s : State} {ts : Nat} (h : s.tlm.armed = some ts) : armedTo s = s.advanceTo (BitVec.ofNat 64 ts) := by
  unfold armedTo
  rw [h]

theorem armedTo_none {s : State} (h : s.tlm.armed = none) : armedTo s = s := by
  unfold armedTo
  rw [h]

theorem unloadTo_none {s : State} (h : s.tlm.run = none) : unloadTo s = s := by
  unfold unloadTo
  rw [h]

theorem unloadTo_run {s : State} {r : FreezeRun} (h : s.tlm.run = some r) : unloadTo s =
    if s.locked ∧ s.tim.edges < r.edge + 5280 then s.passEdges (r.edge + 5280 - s.tim.edges) else s := by
  unfold unloadTo
  rw [h]

theorem freezeTimed_waits {z : State} (h : z.armedDue = false ∨ z.locked = false) : freezeTimed z = z :=
  if_neg fun hboth => h.elim (fun h => Bool.false_ne_true (h.symm.trans hboth.1)) fun h =>
    Bool.false_ne_true (h.symm.trans hboth.2)

theorem freezeTimed_captures {z : State} (hdue : z.armedDue = true) (hlock : z.locked = true)
    (hidle : z.get TLM_FRZ_STAT.BUSY = 0) : freezeTimed z = freezeCapture true z :=
  (if_pos ⟨hdue, hlock⟩).trans (if_neg (by simp [bit_of_get_zero hidle]))

/-- An armed time at which a Freeze runs is missed (R510). -/
theorem freezeTimed_missed {z : State} (hdue : z.armedDue = true) (hlock : z.locked = true)
    (hbusy : z.get TLM_FRZ_STAT.BUSY = 1) : (freezeTimed z).get TLM_FRZ_STAT.ARMED = 0 ∧
      (freezeTimed z).get TLM_FRZ_STAT.MISSED = 1 ∧ (freezeTimed z).get TLM_EVT.LOSS = 1 ∧ (freezeTimed z).tlm.armed = none ∧
      z.KeepsBits (freezeTimed z) [TLM_FRZ_STAT.ARMED, TLM_FRZ_STAT.MISSED, TLM_EVT.LOSS] := by
  obtain ⟨v, hv⟩ : ∃ v : State, v = { z.put TLM_FRZ_STAT.ARMED 0 with tlm := { z.tlm with armed := none, late := false } } := ⟨_, rfl⟩
  obtain ⟨w, hw⟩ : ∃ w, w = (v.put TLM_FRZ_STAT.MISSED 1).put TLM_EVT.LOSS 1 := ⟨_, rfl⟩
  have htimed : freezeTimed z = w.ring kTLM 4 := by
    rw [hw, hv]
    exact (if_pos ⟨hdue, hlock⟩).trans (if_pos (bit_of_get hbusy))
  have hkeeps : z.KeepsBits v [TLM_FRZ_STAT.ARMED] := hv ▸ ((KeepsBits.refl z).put _ _).of_regs rfl
  have hkept : v.KeepsBits w [TLM_EVT.LOSS, TLM_FRZ_STAT.MISSED] := hw ▸ ((KeepsBits.refl v).put _ _).put _ _
  have harmed : w.tlm.armed = none := by
    rw [hw, hv]
    rfl
  rw [htimed]
  refine ⟨?_, ?_, ?_, harmed, ((hkeeps.mono (by simp)).trans (hkept.mono (by simp))).of_regs rfl⟩
  · rw [ring_get, hw, get_put_reg _ _ _ _ (by decide), get_put_apart _ _ _ _ rfl, hv, get_with_tlm, get_put_fit _ _ _ rfl]
  · rw [ring_get, hw, get_put_reg _ _ _ _ (by decide), get_put_fit _ _ _ rfl]
  · rw [ring_get, hw, get_put_fit _ _ _ rfl]

/-! ### The unload (R511, R513) -/

theorem freezeUnloaded_early {s : State} (h : s.tlm.run = none ∨ ∃ r, s.tlm.run = some r ∧ s.tim.edges < r.edge + 5280) :
    freezeUnloaded s = s := by
  unfold freezeUnloaded
  rcases h with h | ⟨r, h, hearly⟩
  · rw [h]
  · rw [h]
    exact if_pos hearly

/-- The shadow holds the capture; the sequence word of each tile last. -/
def shadowFilled (r : FreezeRun) (s : State) : State :=
  let t := s.each (s.listed (TLM_SHADOW 0) 4 (80 * 256)) fun s i => s.wr (TLM_SHADOW i) 0
  let t := t.each r.image fun s e => s.wr (TLM_SHADOW e.1) e.2
  t.each (List.range 80) fun u i => u.wr (TLM_SHADOW (256 * i)) (BitVec.ofNat 32 (2 * s.num TLM_FRZ_NUM))

theorem shadowFilled_seq (r : FreezeRun) (s : State) {i : Nat} (hi : i < 80) :
    (shadowFilled r s).rd (TLM_SHADOW (256 * i)) = BitVec.ofNat 32 (2 * s.num TLM_FRZ_NUM) := by
  refine each_establishes (x := i) (fun u => u.rd (TLM_SHADOW (256 * i)) = BitVec.ofNat 32 (2 * s.num TLM_FRZ_NUM))
    (fun u => rd_wr_same ..) (fun u j hu => ?_) (.inr (List.mem_range.mpr hi))
  by_cases hij : j = i
  · rw [hij, rd_wr_same]
  · rwa [rd_wr_other _ _ _ _ (by unfold TLM_SHADOW; omega)]

theorem shadowFilled_pst (r : FreezeRun) (s : State) : (shadowFilled r s).pst = s.pst := by
  unfold shadowFilled
  dsimp only
  rw [each_field State.pst, each_field State.pst, each_field State.pst]
  all_goals exact fun _ _ => rfl

/-- The end of an unload: the shadow is filled, and the Freeze ends when no export is due. -/
theorem freezeUnloaded_over {s : State} {r : FreezeRun} (hrun : s.tlm.run = some r) (hover : r.edge + 5280 ≤ s.tim.edges) :
    ∃ w : State, w.regs = (shadowFilled r s).regs ∧ w.pst = s.pst ∧ w.tlm.run = none ∧ w.tlm.exporting = r.exports ∧
      freezeUnloaded s = if r.exports then (w.put TLM_EVT.FRZ 1).ring kTLM 0
        else ((w.put TLM_EVT.FRZ 1).ring kTLM 0).put TLM_FRZ_STAT.BUSY 0 := by
  obtain ⟨f, hf⟩ : ∃ f, f = shadowFilled r s := ⟨_, rfl⟩
  have hpst : f.pst = s.pst := hf ▸ shadowFilled_pst r s
  refine ⟨{ f with cbse := { f.cbse with bad := f.cbse.bad.filter fun e => !(e.1 == 17 && decide (e.2 < 80 * 1024)) }
                   tlm := { f.tlm with run := none, exporting := r.exports } }, by rw [hf], hpst, rfl, rfl, ?_⟩
  unfold freezeUnloaded
  rw [hrun, hf]
  exact if_neg (Nat.not_lt.mpr hover)

theorem freezeUnloaded_leaves {s : State} {r : FreezeRun} (hrun : s.tlm.run = some r) (hover : r.edge + 5280 ≤ s.tim.edges) :
    (freezeUnloaded s).tlm.run = none ∧ (freezeUnloaded s).tlm.exporting = r.exports ∧
      (freezeUnloaded s).get TLM_EVT.FRZ = 1 ∧ (r.exports = false → (freezeUnloaded s).get TLM_FRZ_STAT.BUSY = 0) ∧
      (freezeUnloaded s).pst.port = s.pst.port ++ [32 * kTLM + 0] ∧
      (∀ i, i < 80 → (freezeUnloaded s).rd (TLM_SHADOW (256 * i)) = BitVec.ofNat 32 (2 * s.num TLM_FRZ_NUM)) := by
  obtain ⟨w, hregs, hpst, hnone, hexports, heq⟩ := freezeUnloaded_over hrun hover
  obtain ⟨v, hv⟩ : ∃ v, v = (w.put TLM_EVT.FRZ 1).ring kTLM 0 := ⟨_, rfl⟩
  have hvrun : v.tlm = w.tlm := hv ▸ rfl
  have hvport : v.pst.port = s.pst.port ++ [32 * kTLM + 0] := by
    rw [hv, ← hpst]
    rfl
  have hvfrz : v.get TLM_EVT.FRZ = 1 := by
    rw [hv, ring_get, get_put_fit _ _ _ rfl]
  have hvseq : ∀ i, i < 80 → v.rd (TLM_SHADOW (256 * i)) = BitVec.ofNat 32 (2 * s.num TLM_FRZ_NUM) := fun i hi => by
    rw [hv, ring_rd, rd_put_other _ _ _ _ (by simp only [TLM_SHADOW, TLM_EVT.FRZ, TLM_EVT]; omega), rd_congr _ _ _ hregs,
      shadowFilled_seq r s hi]
  rw [← hv] at heq
  cases hex : r.exports with
  | true =>
    rw [hex, if_pos rfl] at heq
    rw [heq]
    exact ⟨hvrun ▸ hnone, hvrun ▸ hexports.trans hex, hvfrz, fun h => absurd h (by decide), hvport, hvseq⟩
  | false =>
    rw [hex, if_neg Bool.false_ne_true] at heq
    rw [heq]
    refine ⟨?_, ?_, (get_put_reg _ _ _ _ (by decide)).trans hvfrz, fun _ => get_put_fit _ _ _ rfl, hvport, fun i hi => ?_⟩
    · exact (congrArg TlmSt.run hvrun).trans hnone
    · exact (congrArg TlmSt.exporting hvrun).trans (hexports.trans hex)
    · rw [rd_put_other _ _ _ _ (by simp only [TLM_SHADOW, TLM_FRZ_STAT.BUSY, TLM_FRZ_STAT]; omega), hvseq i hi]

/-! ### Exports (R516..R519) -/

/-- A ring export ends the Freeze, whatever it copied. -/
theorem ringExport_ends (fail : Option (Nat × Nat)) {s : State} (h : s.tlm.exporting = true) : ∃ v : State,
    ringExport fail s = (({ v with tlm := { v.tlm with exporting := false } }.put TLM_EVT.RING 1).ring kTLM 1).put
      TLM_FRZ_STAT.BUSY 0 := by
  unfold ringExport
  rw [if_pos h]
  exact ⟨_, rfl⟩

theorem ringExport_leaves (fail : Option (Nat × Nat)) {s : State} (h : s.tlm.exporting = true) :
    (ringExport fail s).tlm.exporting = false ∧ (ringExport fail s).get TLM_FRZ_STAT.BUSY = 0 ∧
      (ringExport fail s).get TLM_EVT.RING = 1 := by
  obtain ⟨v, hv⟩ := ringExport_ends fail h
  rw [hv]
  refine ⟨rfl, get_put_fit _ _ _ rfl, ?_⟩
  rw [get_put_reg _ _ _ _ (by decide), ring_get, get_put_fit _ _ _ rfl]

/-- What the end of a trace export leaves in its register: running on (BUSY of another export) or ended. -/
theorem traceExportEnd_leaves {res : Nat} (hres : res < 2 ^ 16) (runs : Bool) (s : State) :
    (traceExportEnd res runs s).get TLM_TRX_CTRL.RES = res ∧ (traceExportEnd res runs s).get TLM_EVT.TRX = 1 ∧
      (runs = false → (traceExportEnd res runs s).get TLM_TRX_CTRL.BUSY = 0 ∧
        (traceExportEnd res runs s).get TLM_TRX_CTRL.GO = 0) ∧
      s.KeepsBits (traceExportEnd res runs s) (if runs then [TLM_TRX_CTRL.RES, TLM_EVT.TRX] else
        [TLM_TRX_CTRL.RES, TLM_TRX_CTRL.BUSY, TLM_TRX_CTRL.GO, TLM_EVT.TRX]) := by
  obtain ⟨v, hv⟩ : ∃ v, v = (s.put TLM_TRX_CTRL.RES res).put TLM_EVT.TRX 1 := ⟨_, rfl⟩
  have hvres : v.get TLM_TRX_CTRL.RES = res := by
    rw [hv, get_put_reg _ _ _ _ (by decide), get_put_cut _ _ _ rfl]
    exact Nat.mod_eq_of_lt hres
  have hvtrx : v.get TLM_EVT.TRX = 1 := by
    rw [hv, get_put_fit _ _ _ rfl]
  have hkeeps : s.KeepsBits v [TLM_EVT.TRX, TLM_TRX_CTRL.RES] := hv ▸ ((KeepsBits.refl s).put _ _).put _ _
  cases runs with
  | true =>
    have hend : traceExportEnd res true s = v.ring kTLM 3 := hv ▸ rfl
    rw [hend, ring_get, ring_get, if_pos rfl]
    exact ⟨hvres, hvtrx, fun h => absurd h (by decide), (hkeeps.mono (by simp)).of_regs rfl⟩
  | false =>
    have hend : traceExportEnd res false s = ((v.put TLM_TRX_CTRL.BUSY 0).put TLM_TRX_CTRL.GO 0).ring kTLM 3 := hv ▸ rfl
    rw [hend, ring_get, ring_get, ring_get, ring_get, if_neg Bool.false_ne_true]
    refine ⟨?_, ?_, fun _ => ⟨?_, get_put_fit _ _ _ rfl⟩, (((hkeeps.put _ _).put _ _).mono (by simp)).of_regs rfl⟩
    · rw [get_put_apart _ _ _ _ rfl, get_put_apart _ _ _ _ rfl, hvres]
    · rw [get_put_reg _ _ _ _ (by decide), get_put_reg _ _ _ _ (by decide), hvtrx]
    · rw [get_put_apart _ _ _ _ rfl, get_put_fit _ _ _ rfl]

theorem traceExport_busy {s : State} (h : s.get TLM_TRX_CTRL.BUSY = 1) : traceExport s = traceExportEnd stBUSY true s :=
  if_pos (bit_of_get h)

theorem traceExport_unready {s : State} (h : s.get TLM_TRX_CTRL.BUSY = 0) (htrc : s.trcState = 1 ∨ s.trcState = 2) :
    traceExport s = traceExportEnd stNOTREADY false s :=
  (if_neg (by simp [bit_of_get_zero h])).trans (if_pos htrc)

/-- A trace export that starts. -/
theorem traceExport_starts {s : State} (h : s.get TLM_TRX_CTRL.BUSY = 0) (h1 : s.trcState ≠ 1) (h2 : s.trcState ≠ 2) :
    (traceExport s).regs = (s.put TLM_TRX_CTRL.BUSY 1).regs := by
  unfold traceExport
  rw [if_neg (by simp [bit_of_get_zero h]), if_neg (not_or.mpr ⟨h1, h2⟩)]

/-- A write with GO, where u holds the channels and AUTO. -/
theorem trxWrite_go {v : Word} {s u : State}
    (hu : u = (s.put TLM_TRX_CTRL.CHMASK (fldGet (v ||| 1) 15 8)).put TLM_TRX_CTRL.AUTO (fldGet (v ||| 1) 1 1)) :
    trxWrite (v ||| 1) s = if u.bit TLM_TRX_CTRL.BUSY then traceExport u else traceExport (u.put TLM_TRX_CTRL.GO 1) := by
  subst hu
  exact if_pos (fldGet_or_one v)

theorem traceExported_idle (fail : Option Nat) {s : State} (h : s.get TLM_TRX_CTRL.BUSY = 0) : traceExported fail s = s :=
  if_neg (by simp [bit_of_get_zero h])

/-- A trace export ends without an error, and no trace waits to be armed. -/
theorem traceExported_ends {s : State} (h : s.get TLM_TRX_CTRL.BUSY = 1) (hdue : s.tlm.armDue = false) :
    traceExported none s =
      traceExportEnd stOK false (s.hostWrite s.tlm.trxBase ((bitsOf s.tlm.trxMask 8).flatMap s.traceBlock)) := by
  obtain ⟨u, hu⟩ : ∃ u, u = traceExportEnd stOK false
      (s.hostWrite s.tlm.trxBase ((bitsOf s.tlm.trxMask 8).flatMap s.traceBlock)) := ⟨_, rfl⟩
  have hkept : u.tlm = s.tlm := hu ▸ rfl
  unfold traceExported
  rw [if_pos (bit_of_get h)]
  dsimp only
  rw [← hu, hkept, hdue, if_neg Bool.false_ne_true]

theorem traceBlock_adv (s : State) (e : Dword) (ch : Nat) : (s.advanceTo e).traceBlock ch = s.traceBlock ch := by
  rw [advanceTo_eq]
  rfl

/-! ### Ageing (R520, R521, R525) -/

theorem putOr_tlm (s : State) (f : Fld) (v : Int) : (s.putOr f v).tlm = s.tlm := by
  unfold putOr
  split <;> rfl

theorem roundOpen_kept (s : State) (a : Int) (b : Nat) :
    (s.roundOpen a b).2.tlm = s.tlm ∧ (s.roundOpen a b).2.regs = s.regs := by
  unfold roundOpen
  dsimp only
  split <;> exact ⟨rfl, rfl⟩

/-- What an ageing window reports of RHO. -/
def ageRho (c : Nat) (a : AgeAcc) (s : State) : State :=
  if a.n < 4096 then s
  else if a.bare ∨ a.den = 0 then s.putOr (AGE_CELL0.RHO c) (-1)
  else s.putOr (AGE_CELL0.RHO c) (1024 * a.num / a.den).floor

/-- What an ageing window reports of the drift of a cell's sensors, of which it gathered k samples. -/
def ageDrift (c : Nat) (a : AgeAcc) (tie : Nat) (s : State) : State :=
  let top := (a.d.map Int.natAbs).foldl max 0
  let js := (List.range 4).filter fun j => (a.d.getD j 0).natAbs == top
  let j := js.getD (tie % js.length) 0
  let (m, s) := s.roundOpen (64 * a.d.getD j 0) a.k
  (s.put (AGE_CELL1.J c) j).putI (AGE_CELL1.SDRIFT c) (satS 16 m)

theorem ageCell_eq (c : Nat) (a : AgeAcc) (tie : Nat) (s : State) : ageCell c a tie s =
    if a.k = 0 then ageRho c a (s.put (AGE_CELL0.NSAMP c) (a.n / 16))
    else ageDrift c a tie (ageRho c a (s.put (AGE_CELL0.NSAMP c) (a.n / 16))) := rfl

theorem ageRho_tlm (c : Nat) (a : AgeAcc) (s : State) : (ageRho c a s).tlm = s.tlm := by
  unfold ageRho
  split_ifs
  · rfl
  · exact putOr_tlm ..
  · exact putOr_tlm ..

theorem ageCell_tlm (c : Nat) (a : AgeAcc) (tie : Nat) (s : State) : (ageCell c a tie s).tlm = s.tlm := by
  have hrho : (ageRho c a (s.put (AGE_CELL0.NSAMP c) (a.n / 16))).tlm = s.tlm := ageRho_tlm ..
  rw [ageCell_eq]
  split
  · exact hrho
  · exact (roundOpen_kept _ _ _).1.trans hrho

/-- n windows have ended at u. -/
theorem ageWindowEnd_over {ties : List (Fin 4)} {z u : State} (hu : u = seaCatch z) {n : Nat}
    (hn : n = (u.cks - u.tlm.ageAt) / 65536) (hne : n ≠ 0) : (ageWindowEnd ties z).tlm.ageAt = u.tlm.ageAt + 65536 * n ∧
      (ageWindowEnd ties z).tlm.age = (if n = 1 then u.tlm.ageNext else []) ∧ (ageWindowEnd ties z).tlm.ageNext = [] ∧
      (ageWindowEnd ties z).regs = (u.each (u.busyCells.filter fun c => u.cellState c == cACTIVE)
        fun s c => ageCell c (mapGet {} s.tlm.age c) (ties.getD c 0).val s).regs := by
  obtain ⟨w, hw⟩ : ∃ w, w = u.each (u.busyCells.filter fun c => u.cellState c == cACTIVE)
      fun s c => ageCell c (mapGet {} s.tlm.age c) (ties.getD c 0).val s := ⟨_, rfl⟩
  have htlm : w.tlm = u.tlm := hw ▸ each_field State.tlm _ _ _ fun _ _ => ageCell_tlm ..
  have hend : ageWindowEnd ties z = { w with tlm := { w.tlm with ageAt := w.tlm.ageAt + 65536 * n
                                                                 age := if n = 1 then w.tlm.ageNext else [], ageNext := [] } } := by
    unfold ageWindowEnd
    dsimp only
    rw [← hu, ← hn, if_neg hne, ← hw]
  rw [hend, ← hw, ← htlm]
  exact ⟨rfl, rfl, rfl, rfl⟩

theorem ageWindowEnd_early {ties : List (Fin 4)} {z u : State} (hu : u = seaCatch z)
    (hn : (u.cks - u.tlm.ageAt) / 65536 = 0) : ageWindowEnd ties z = u := by
  subst hu
  exact if_pos hn

theorem ageRho_few (c : Nat) {a : AgeAcc} (h : a.n < 4096) (s : State) : ageRho c a s = s := if_pos h

theorem ageRho_many (c : Nat) {a : AgeAcc} (h : 4096 ≤ a.n) (hbare : a.bare = false) (hden : a.den ≠ 0) {v : Int}
    (hv : v = (1024 * a.num / a.den).floor) (hlo : 0 ≤ v) (hhi : v < 65536) (s : State) :
    ageRho c a s = s.put (AGE_CELL0.RHO c) v.toNat := by
  unfold ageRho
  rw [if_neg (Nat.not_lt.mpr h), if_neg (by simp [hbare, hden]), ← hv]
  exact if_pos ⟨hlo, hhi⟩

theorem ageDrift_leaves (c : Nat) (a : AgeAcc) (tie : Nat) {j : Nat} {m : Int} {s w : State} {js : List Nat}
    (hjs : js = (List.range 4).filter fun j => (a.d.getD j 0).natAbs == (a.d.map Int.natAbs).foldl max 0)
    (hj : j = js.getD (tie % js.length) 0) (hround : (m, w) = s.roundOpen (64 * a.d.getD j 0) a.k) :
    (ageDrift c a tie s).get (AGE_CELL1.J c) = j % 4 ∧ (ageDrift c a tie s).getI (AGE_CELL1.SDRIFT c) = satS 16 m ∧
      (ageDrift c a tie s).get (AGE_CELL0.NSAMP c) = s.get (AGE_CELL0.NSAMP c) := by
  have hregs : w.regs = s.regs := by
    have hkept := (roundOpen_kept s (64 * a.d.getD j 0) a.k).2
    rwa [← hround] at hkept
  have hdrift : ageDrift c a tie s =
      (w.put (AGE_CELL1.J c) j).put (AGE_CELL1.SDRIFT c) (ofSigned 16 (satS 16 m)) := by
    unfold ageDrift
    dsimp only
    rw [← hjs, ← hj, ← hround]
    rfl
  have hapart : AGE_CELL0 c ≠ AGE_CELL1 c := by
    unfold AGE_CELL0 AGE_CELL1
    omega
  rw [hdrift]
  refine ⟨?_, ?_, ?_⟩
  · rw [get_put_apart _ _ _ _ rfl, get_put_cut _ _ _ rfl]
    rfl
  · have hfits : ofSigned 16 (satS 16 m) % 2 ^ 16 = ofSigned 16 (satS 16 m) := by
      simp only [ofSigned, satS]
      omega
    rw [State.getI, get_put_cut _ _ _ rfl]
    exact (congrArg (toSigned 16) hfits).trans (toSigned_ofSigned_satS m)
  · rw [get_put_reg _ _ _ _ hapart, get_put_reg _ _ _ _ hapart, get_of_regs hregs]

theorem eolWrite_eq {a : Nat} {v : Word} {s u : State} (hu : u = storeReg a v s) : eolWrite a v s =
    if s.get AGE_CTRL.ALARM ≤ fldGet (s.rd a) 15 0 ∧ fldGet (u.rd a) 15 0 < s.get AGE_CTRL.ALARM then
      ((u.pulse 25).put AGE_CTRL.EVT 1).ring kAGE 0
    else u := by
  subst hu
  rfl

/-- Settles O33: each command clause by clause. A LOCAL capture at the tick after its write is log entry 76; the armed time, which
ARM takes from TLM_FRZ_AT, is log entry 77. -/
theorem telemetryCommandsComplete : Obligations.TelemetryCommandsComplete := by
  refine ⟨?_, ?_, ?_, ?_, fun s => ⟨armedTo_none, fun ts => armedTo_at, unloadTo_none, fun r hr => ⟨?_, ?_⟩⟩, ?_, ?_, ?_, ?_, ?_,
    ?_, ?_, ?_, ?_, ?_, ?_, ?_, ?_⟩
  · rintro req v u s hp rfl
    refine completes_permitted rfl hp (frzCtrlWrite_local v s) ⟨fun h => freezeLocal_busy h, fun h hlock => ?_, fun h hlock => ?_⟩
    · rw [freezeLocal_idle h, if_neg fun h => Bool.false_ne_true (hlock.symm.trans h)]
    · rw [freezeLocal_idle h, if_pos hlock]
  · intro timed u s hu
    obtain ⟨late, run, hcapture⟩ := freezeCapture_eq (timed := timed) hu
    obtain ⟨hnum, hts, hbusy, harmed⟩ := frzCounted_leaves timed late u
    obtain ⟨w, hw⟩ : ∃ w, w = frzCounted timed late u := ⟨_, rfl⟩
    rw [← hw] at hcapture hnum hts hbusy harmed
    rw [hcapture]
    exact ⟨hnum, (get64_of_regs rfl _).trans hts, (get_with_tlm ..).trans hbusy, rfl, harmed, rfl⟩
  · intro req v s hp h0 h2
    have hbit0 : fldGet (v ||| 2) 0 0 = 0 := by rw [fldGet_or_apart _ _ (by decide), fldGet_bit, h0]; rfl
    have hbit1 : fldGet (v ||| 2) 1 1 = 1 := by rw [fldGet_bit]; simp
    have hbit2 : fldGet (v ||| 2) 2 2 = 0 := by rw [fldGet_or_apart _ _ (by decide), fldGet_bit, h2]; rfl
    have harmed := frzArmed_armed hbit1 hbit2 s
    rw [fldGet_or_apart v 2 (hi := 31) (lo := 16) (by decide), fldGet_or_apart v 2 (hi := 8) (lo := 8) (by decide)] at harmed
    exact completes_permitted rfl hp ((frzCtrlWrite_eq _ s).trans (if_neg (by omega))) harmed
  · intro req v s hp h0
    have hbit0 : fldGet (v ||| 4) 0 0 = 0 := by rw [fldGet_or_apart _ _ (by decide), fldGet_bit, h0]; rfl
    have hbit2 : fldGet (v ||| 4) 2 2 = 1 := by rw [fldGet_bit]; simp
    exact completes_permitted rfl hp ((frzCtrlWrite_eq _ s).trans (if_neg (by omega))) (frzArmed_disarmed hbit2 s)
  · exact fun hlock hearly => (unloadTo_run hr).trans (if_pos ⟨hlock, hearly⟩)
  · refine fun h => (unloadTo_run hr).trans (if_neg fun ⟨hlock, hearly⟩ => ?_)
    exact h.elim (fun h => Bool.false_ne_true (h.symm.trans hlock)) fun h => absurd hearly (Nat.not_lt.mpr h)
  · rintro e _ s rfl hrun
    exact completes_running rfl hrun rfl ⟨freezeTimed_waits, freezeTimed_captures, freezeTimed_missed⟩
  · rintro e _ s rfl h hrun
    exact completes_running rfl hrun (freezeUnloaded_early h) rfl
  · rintro e r _ w rfl hr hover hrun
    exact completes_running rfl hrun rfl (freezeUnloaded_leaves hr hover)
  · intro e fail s hidle hrun
    refine completes_running rfl hrun (if_neg ?_) rfl
    rw [advanceTo_tlm, hidle]
    exact Bool.false_ne_true
  · intro e fail s hexports hrun
    exact completes_running rfl hrun rfl (ringExport_leaves _ ((congrArg TlmSt.exporting (advanceTo_tlm s e)).trans hexports))
  · intro req v u s hp hu
    have hbusy : u.get TLM_TRX_CTRL.BUSY = s.get TLM_TRX_CTRL.BUSY := by
      rw [hu, get_put_apart _ _ _ _ rfl, get_put_apart _ _ _ _ rfl]
    have hgobusy : (u.put TLM_TRX_CTRL.GO 1).get TLM_TRX_CTRL.BUSY = s.get TLM_TRX_CTRL.BUSY :=
      (get_put_apart _ _ _ _ rfl).trans hbusy
    have htrc : (u.put TLM_TRX_CTRL.GO 1).trcState = s.trcState := by
      rw [hu]
      exact (get_put_reg _ _ _ _ (by decide)).trans ((get_put_reg _ _ _ _ (by decide)).trans (get_put_reg _ _ _ _ (by decide)))
    have hgo : s.get TLM_TRX_CTRL.BUSY = 0 → trxWrite (v ||| 1) s = traceExport (u.put TLM_TRX_CTRL.GO 1) := fun h =>
      (trxWrite_go hu).trans (if_neg (by simp [bit_of_get_zero (hbusy.trans h)]))
    refine completes_permitted rfl hp rfl ⟨fun h => ?_, fun h hst => ?_, fun h h1 h2 => ?_⟩
    · rw [trxWrite_go hu, if_pos (bit_of_get (hbusy.trans h)), traceExport_busy (hbusy.trans h)]
      obtain ⟨hres, htrx, -, hkeeps⟩ := traceExportEnd_leaves (res := stBUSY) (by decide) true u
      exact ⟨hres, htrx, hkeeps⟩
    · rw [hgo h, traceExport_unready (hgobusy.trans h) (htrc.symm ▸ hst)]
      obtain ⟨hres, htrx, hends, -⟩ := traceExportEnd_leaves (res := stNOTREADY) (by decide) false (u.put TLM_TRX_CTRL.GO 1)
      exact ⟨hres, (hends rfl).1, (hends rfl).2, htrx⟩
    · have hregs := traceExport_starts (hgobusy.trans h) (htrc.symm ▸ h1) (htrc.symm ▸ h2)
      rw [hgo h]
      refine ⟨(get_of_regs hregs _).trans (get_put_fit _ _ _ rfl), (get_of_regs hregs _).trans ?_,
        KeepsBits.of_regs ((((KeepsBits.refl u).put _ _).put _ _)) hregs⟩
      rw [get_put_apart _ _ _ _ rfl, get_put_fit _ _ _ rfl]
  · intro e fail s hidle hrun
    exact completes_running rfl hrun (traceExported_idle _ ((State.advanceTo_get ..).trans hidle)) rfl
  · intro e s hbusy hdue hrun
    have hends := traceExported_ends ((State.advanceTo_get s e _).trans hbusy) ((congrArg TlmSt.armDue (advanceTo_tlm s e)).trans hdue)
    rw [advanceTo_tlm, funext (traceBlock_adv s e)] at hends
    obtain ⟨w, hw⟩ : ∃ w, w = (s.advanceTo e).hostWrite s.tlm.trxBase ((bitsOf s.tlm.trxMask 8).flatMap s.traceBlock) := ⟨_, rfl⟩
    rw [← hw] at hends
    obtain ⟨hres, htrx, hended, hkeeps⟩ := traceExportEnd_leaves (res := stOK) (by decide) false w
    have hhost : w.out.host = s.out.host ++ [⟨s.tlm.trxBase % 2 ^ 64, (bitsOf s.tlm.trxMask 8).flatMap s.traceBlock⟩] := by
      rw [hw, ← advanceTo_out s e]
      rfl
    have hkept : s.KeepsBits w [] := (adv_keeps s e).of_regs (hw ▸ rfl)
    refine completes_running rfl hrun hends ⟨hres, (hended rfl).1, (hended rfl).2, htrx, hhost, ?_⟩
    exact (hkept.mono (by simp)).trans hkeeps
  · rintro e ties _ u n s rfl hu hn hrun
    refine completes_running rfl hrun rfl ⟨fun h => ageWindowEnd_early hu (hn ▸ h), fun h => ageWindowEnd_over hu hn h⟩
  · intro c a tie s hn hk
    rw [ageCell_eq, if_pos hk, ageRho_few c hn, get_put_cut _ _ _ rfl]
    exact ⟨Nat.mod_eq_of_lt (by simp only [AGE_CELL0.NSAMP]; omega), frame_put _ _ _⟩
  · intro c a tie v s hn hmost hk hbare hden hv hlo hhi
    rw [ageCell_eq, if_pos hk, ageRho_many c hn hbare hden hv hlo hhi]
    refine ⟨?_, ?_, frame_intro (((KeepsBits.refl s).put _ _).put _ _) (by simp) rfl⟩
    · rw [get_put_apart _ _ _ _ rfl, get_put_cut _ _ _ rfl]
      exact Nat.mod_eq_of_lt (by simp only [AGE_CELL0.NSAMP]; omega)
    · rw [get_put_cut _ _ _ rfl]
      simp only [AGE_CELL0.RHO]
      omega
  · rintro c a tie top js j m w s hn hk rfl hjs hj hround
    obtain ⟨hJ, hsdrift, hnsamp⟩ := ageDrift_leaves c a tie hjs hj hround
    rw [ageCell_eq, if_neg hk, ageRho_few c hn]
    refine ⟨hJ, hsdrift, hnsamp.trans ?_⟩
    rw [get_put_cut _ _ _ rfl]
    exact Nat.mod_eq_of_lt (by simp only [AGE_CELL0.NSAMP]; omega)
  · intro req rg ix v a u s hix ha hp hu
    have hwrite := eolWrite_eq hu
    have hdone : Completes (.eolWrite req rg ix v) s fun t => t = eolWrite a v s := by
      cases rg with
      | true =>
        rw [if_pos rfl] at ha
        subst ha
        exact completes_next rfl ((if_pos (hix rfl)).trans (gated_permits hp _)) rfl
      | false =>
        rw [if_neg Bool.false_ne_true] at ha
        subst ha
        exact completes_next rfl (gated_permits hp _) rfl
    obtain ⟨t, hexec, ht⟩ := hdone
    refine ⟨t, hexec, fun h => ?_, fun h => ht.trans (hwrite.trans (if_neg h))⟩
    rw [if_pos h] at hwrite
    have hkept : u.cbse.pulses = s.cbse.pulses ∧ u.pst.port = s.pst.port := by
      rw [hu]
      unfold storeReg
      split <;> exact ⟨rfl, rfl⟩
    obtain ⟨hpulses, hport⟩ := hkept
    rw [ht, hwrite]
    refine ⟨(ring_get ..).trans (get_put_fit _ _ _ rfl), congrArg (· ++ [25]) hpulses,
      congrArg (· ++ [32 * kAGE + 0]) hport, ?_⟩
    exact (((KeepsBits.refl u).of_regs rfl).put AGE_CTRL.EVT 1).of_regs rfl

end Sys2Proof.Machine

/-! PROOFS of the family spec/14_thermal.md. What demands, measurements, sweeps, exclusions, the drain, DOWN, HARD and the clear
leave. -/

namespace Sys2Proof.Machine

open State

/-! ### Groups and sensors -/

theorem tgrp_setTgrp_same (s : State) (q : Nat) (g : ThmGroup) : (s.setTgrp q g).tgrp q = g := mapGet_mapSet_same ..

theorem tgrp_setTgrp_other (s : State) {p q : Nat} (g : ThmGroup) (h : q ≠ p) : (s.setTgrp p g).tgrp q = s.tgrp q :=
  mapGet_mapSet_other _ _ _ _ _ _ h

theorem tsen_setTsen_same (s : State) (x : Nat) (h : ThmSensor) : (s.setTsen x h).tsen x = h := mapGet_mapSet_same ..

/-! ### Demands (R461, R462) -/

/-- A demand of an idle group without an earlier one starts its sweep. -/
theorem thmDemand_idle {src q : Nat} {s : State} (hlock : s.locked = true) (hpos : (s.tgrp q).pos = none)
    (hpend : (s.tgrp q).pending = false) (hby : (s.tgrp q).demBy = 0) : (thmDemand src q s).tgrp q =
      { s.tgrp q with pos := some 0, start := s.tim.edges + 1, fw := src == 2, demAt := s.now, demBy := 2 ^ src } := by
  unfold thmDemand
  dsimp only
  rw [if_neg fun h => h.1 hby, hpend, if_neg Bool.false_ne_true, hpos, hlock, if_neg (by decide), tgrp_setTgrp_same]

/-- A demand changes its own group, and no part of the machine that decides on another group's. -/
theorem thmDemand_kept (src : Nat) (s : State) (p : Nat) : (∀ q, q ≠ p → (thmDemand src p s).tgrp q = s.tgrp q) ∧
    (thmDemand src p s).locked = s.locked ∧ (thmDemand src p s).tim = s.tim ∧ (thmDemand src p s).now = s.now := by
  unfold thmDemand
  dsimp only
  split_ifs
  · exact ⟨fun q h => tgrp_setTgrp_other _ _ h, rfl, rfl, rfl⟩
  · exact ⟨fun q h => tgrp_setTgrp_other _ _ h, rfl, rfl, rfl⟩
  · exact ⟨fun q h => tgrp_setTgrp_other _ _ h, locked_of_put (z := s) (f := THM_CNT.MERGED) rfl (by decide), rfl, rfl⟩
  · exact ⟨fun q h => tgrp_setTgrp_other _ _ h, rfl, rfl, rfl⟩
  · exact ⟨fun q h => tgrp_setTgrp_other _ _ h, rfl, rfl, rfl⟩

theorem thmDemands_unnamed {src q : Nat} {l : List Nat} (h : q ∉ l) (s : State) :
    (s.each l fun s p => thmDemand src p s).tgrp q = s.tgrp q := by
  induction l generalizing s with
  | nil => rfl
  | cons p l ih =>
    obtain ⟨hp, hl⟩ := not_or.mp (mt List.mem_cons.mpr h)
    exact (ih hl _).trans ((thmDemand_kept src s p).1 q hp)

/-- Demands of several groups start the sweep of an idle one among them. -/
theorem thmDemands_idle {src q : Nat} {l : List Nat} (hmem : q ∈ l) (hdup : l.Nodup) {s : State} (hlock : s.locked = true)
    (hpos : (s.tgrp q).pos = none) (hpend : (s.tgrp q).pending = false) (hby : (s.tgrp q).demBy = 0) :
    (s.each l fun s p => thmDemand src p s).tgrp q =
      { s.tgrp q with pos := some 0, start := s.tim.edges + 1, fw := src == 2, demAt := s.now, demBy := 2 ^ src } := by
  induction l generalizing s with
  | nil => exact absurd hmem (by simp)
  | cons p l ih =>
    obtain ⟨hp, hl⟩ := List.nodup_cons.mp hdup
    obtain ⟨hother, hlocked, htim, hnow⟩ := thmDemand_kept src s p
    by_cases hqp : q = p
    · subst hqp
      exact (thmDemands_unnamed hp _).trans (thmDemand_idle hlock hpos hpend hby)
    · have hsame := hother q hqp
      have hrest := ih ((List.mem_cons.mp hmem).resolve_left hqp) hl (hlocked.trans hlock) (hsame ▸ hpos) (hsame ▸ hpend)
        (hsame ▸ hby)
      rw [hsame, htim, hnow] at hrest
      exact hrest

theorem bitsOf_nodup (m n : Nat) : (bitsOf m n).Nodup := List.nodup_range.filter _

/-- The guard window at the TS that stands, without its demands. -/
def guardNoted (s : State) : State :=
  { s with thm := { s.thm with
      guardAt := s.now
      guard := if decide (s.get THM_GUARD.PERIOD ≠ s.thm.guard) && decide (s.thm.guardTurn ≤ s.now) then s.get THM_GUARD.PERIOD
        else s.thm.guard } }

/-- Has a guard boundary passed since the last look (R461)? -/
def guardDue (s : State) : Bool :=
  (decide (s.get THM_GUARD.PERIOD ≠ s.thm.guard) && decide (s.thm.guardTurn ≤ s.now)) ||
    decide (s.thm.guardAt / (800 * s.thm.guard) ≠ s.now / (800 * s.thm.guard))

theorem thmGuard_eq (s : State) :
    thmGuard s = if guardDue s ∧ s.bit THM_GUARD.EN then thmDemandAll 0 (guardNoted s) else guardNoted s := rfl

theorem guardNoted_kept (s : State) : (guardNoted s).thmGroup = s.thmGroup ∧ (guardNoted s).regs = s.regs := ⟨rfl, rfl⟩

theorem thmGuard_quiet {s : State} (h : s.get THM_GUARD.EN = 0 ∨ s.get THM_GUARD.PERIOD = s.thm.guard ∧
    s.thm.guardAt / (800 * s.thm.guard) = s.now / (800 * s.thm.guard)) : thmGuard s = guardNoted s := by
  rw [thmGuard_eq]
  refine if_neg fun ⟨hdue, hen⟩ => ?_
  rcases h with h | ⟨hperiod, hsame⟩
  · exact Bool.false_ne_true ((bit_of_get_zero h).symm.trans hen)
  · simp [guardDue, hperiod, hsame] at hdue

/-! ### Measurements (R460, R464) -/

/-- The measurement is counted and the sweep is at its next sensor. -/
def measureStepped (q p : Nat) (s : State) : State :=
  (s.setTgrp q { s.tgrp q with pos := some (p + 1), start := (s.tgrp q).start + 800 }).addWrap (THM_S.SEQ (8 * q + p)) 1

/-- What a measurement that yielded no count leaves of the sensor. -/
def countLost (x : Nat) (s : State) : State :=
  (s.put (THM_S.NOCNT x) 1).setTsen x (if s.bit (THM_SCTL.EXCL x) then s.tsen x
    else { s.tsen x with range := (s.tsen x).range + 1, raw := none, same := 0 })

/-- The register of a measurement at temperature t, which fits. -/
def countPut (x : Nat) (t : Int) (s : State) : State :=
  ((s.put (THM_S.NOCNT x) 0).put (THM_S.VALID x) 1).putI (THM_S.TEMP x) t

/-- What the sensor x remembers after a raw count at temperature t. -/
def countSeen (raw : Nat) (t : Int) (h : ThmSensor) : ThmSensor :=
  { h with range := if decide (t < -640) || decide (2400 < t) then h.range + 1 else 0, raw := some raw
           same := if h.raw = some raw then h.same + 1 else 1 }

theorem measureStepped_leaves (q p : Nat) (s : State) :
    (measureStepped q p s).get (THM_S.SEQ (8 * q + p)) = (s.get (THM_S.SEQ (8 * q + p)) + 1) % 64 ∧
      ((measureStepped q p s).tgrp q).pos = some (p + 1) ∧ (∀ x, (measureStepped q p s).tsen x = s.tsen x) ∧
      (∀ f x, f.addr = THM_SCTL x → (measureStepped q p s).get f = s.get f) ∧
      s.KeepsBits (measureStepped q p s) [THM_S.SEQ (8 * q + p)] := by
  obtain ⟨g, hg⟩ : ∃ g, g = s.setTgrp q { s.tgrp q with pos := some (p + 1), start := (s.tgrp q).start + 800 } := ⟨_, rfl⟩
  have hget : ∀ f, g.get f = s.get f := fun f => get_of_regs (hg ▸ rfl) f
  have hstep : measureStepped q p s = g.put (THM_S.SEQ (8 * q + p)) ((s.get (THM_S.SEQ (8 * q + p)) + 1) % 64) := by
    rw [← hget, hg]
    rfl
  have hkeeps : s.KeepsBits g [] := keeps_regs_eq (hg ▸ rfl)
  have htgrp : (g.tgrp q).pos = some (p + 1) := by
    rw [hg, tgrp_setTgrp_same]
  have htsen : ∀ x, g.tsen x = s.tsen x := fun x => hg ▸ rfl
  rw [hstep]
  refine ⟨?_, htgrp, htsen, fun f x hf => ?_, hkeeps.put _ _⟩
  · rw [get_put_cut _ _ _ rfl]
    exact Nat.mod_mod _ _
  · rw [get_put_reg _ _ _ _ (by rw [hf]; simp only [THM_SCTL, THM_S.SEQ, THM_S]; omega), hget]

/-- A measurement of the present sensor of group q, its 8th or an earlier one. -/
theorem thmMeasure_none {q p : Nat} {s : State} (hpos : (s.tgrp q).pos = some p) (hp : p < 8) (hlock : s.locked = true) :
    thmMeasure q none s = countLost (8 * q + p) (measureStepped q p s) := by
  unfold thmMeasure
  dsimp only
  rw [hpos]
  exact if_neg (by simp [hp, hlock])

theorem thmMeasure_count {q p raw : Nat} {c t : Int} {s : State} (hpos : (s.tgrp q).pos = some p) (hp : p < 8)
    (hlock : s.locked = true) (ht : t = c + s.getI (THM_SCTL.OFS (8 * q + p))) (hlo : -32768 ≤ t) (hhi : t ≤ 32767) :
    thmMeasure q (some (raw, c)) s = (countPut (8 * q + p) t (measureStepped q p s)).setTsen (8 * q + p)
      (if (measureStepped q p s).bit (THM_SCTL.EXCL (8 * q + p)) then (measureStepped q p s).tsen (8 * q + p)
        else countSeen raw t ((measureStepped q p s).tsen (8 * q + p))) := by
  have hofs : (measureStepped q p s).getI (THM_SCTL.OFS (8 * q + p)) = s.getI (THM_SCTL.OFS (8 * q + p)) :=
    congrArg (toSigned 16) ((measureStepped_leaves q p s).2.2.2.1 _ _ rfl)
  obtain ⟨w, hw⟩ : ∃ w, w = measureStepped q p s := ⟨_, rfl⟩
  have hfits : (if -32768 ≤ t ∧ t ≤ 32767 then
        ((w.put (THM_S.NOCNT (8 * q + p)) 0).put (THM_S.VALID (8 * q + p)) 1).putI (THM_S.TEMP (8 * q + p)) t
      else
        let (f, z) := ((w.put (THM_S.NOCNT (8 * q + p)) 0).put (THM_S.VALID (8 * q + p)) 1).drawFree
        z.put (THM_S.TEMP (8 * q + p)) (f.toNat % 65536)) = countPut (8 * q + p) t w := if_pos ⟨hlo, hhi⟩
  rw [← hw] at hofs ⊢
  rw [← hofs] at ht
  unfold thmMeasure
  dsimp only
  rw [hpos]
  dsimp only
  rw [if_neg (by simp [hp, hlock]), ← measureStepped, ← hw, ← ht, hfits]
  rfl

theorem countLost_leaves {q p x : Nat} (hx : x = 8 * q + p) (y : State) :
    (countLost x (measureStepped q p y)).get (THM_S.NOCNT x) = 1 ∧
      (countLost x (measureStepped q p y)).get (THM_S.SEQ x) = (y.get (THM_S.SEQ x) + 1) % 64 ∧
      ((countLost x (measureStepped q p y)).tgrp q).pos = some (p + 1) ∧
      (countLost x (measureStepped q p y)).tsen x = (if y.get (THM_SCTL.EXCL x) = 1 then y.tsen x
        else { y.tsen x with range := (y.tsen x).range + 1, raw := none, same := 0 }) ∧
      y.KeepsBits (countLost x (measureStepped q p y)) [THM_S.NOCNT x, THM_S.SEQ x] := by
  subst hx
  obtain ⟨hseq, hpos, htsen, hsctl, hkeeps⟩ := measureStepped_leaves q p y
  have hexcl : (measureStepped q p y).bit (THM_SCTL.EXCL (8 * q + p)) = decide (y.get (THM_SCTL.EXCL (8 * q + p)) = 1) := by
    have hlt : y.get (THM_SCTL.EXCL (8 * q + p)) < 2 := fldGet_lt _ _ _
    rw [State.bit, hsctl _ _ rfl]
    interval_cases y.get (THM_SCTL.EXCL (8 * q + p)) <;> rfl
  obtain ⟨w, hw⟩ : ∃ w, w = measureStepped q p y := ⟨_, rfl⟩
  rw [← hw] at hseq hpos hkeeps hexcl ⊢
  have htsenw : w.tsen (8 * q + p) = y.tsen (8 * q + p) := hw ▸ htsen _
  have hget : ∀ f h, ((w.put (THM_S.NOCNT (8 * q + p)) 1).setTsen (8 * q + p) h).get f =
      (w.put (THM_S.NOCNT (8 * q + p)) 1).get f := fun f h => get_of_regs rfl f
  unfold countLost
  refine ⟨(hget _ _).trans (get_put_fit _ _ _ rfl), (hget _ _).trans ((get_put_apart _ _ _ _ rfl).trans hseq), hpos, ?_,
    (hkeeps.put _ _).of_regs rfl⟩
  rw [tsen_setTsen_same, hexcl, htsenw]
  simp only [decide_eq_true_eq]

theorem toSigned_ofSigned_16 {t : Int} (hlo : -32768 ≤ t) (hhi : t ≤ 32767) : toSigned 16 (ofSigned 16 t % 2 ^ 16) = t := by
  simp only [toSigned, ofSigned]
  omega

theorem countPut_leaves (x : Nat) {t : Int} (hlo : -32768 ≤ t) (hhi : t ≤ 32767) (w : State) :
    (countPut x t w).getI (THM_S.TEMP x) = t ∧ (countPut x t w).get (THM_S.NOCNT x) = 0 ∧
      (countPut x t w).get (THM_S.VALID x) = 1 ∧ (countPut x t w).get (THM_S.SEQ x) = w.get (THM_S.SEQ x) ∧
      w.KeepsBits (countPut x t w) [THM_S.TEMP x, THM_S.VALID x, THM_S.NOCNT x] := by
  have hput : countPut x t w = ((w.put (THM_S.NOCNT x) 0).put (THM_S.VALID x) 1).put (THM_S.TEMP x) (ofSigned 16 t) := rfl
  rw [hput]
  refine ⟨?_, ?_, ?_, ?_, (((KeepsBits.refl w).put _ _).put _ _).put _ _⟩
  · rw [State.getI, get_put_cut _ _ _ rfl]
    exact toSigned_ofSigned_16 hlo hhi
  · rw [get_put_apart _ _ _ _ rfl, get_put_apart _ _ _ _ rfl, get_put_fit _ _ _ rfl]
  · rw [get_put_apart _ _ _ _ rfl, get_put_fit _ _ _ rfl]
  · rw [get_put_apart _ _ _ _ rfl, get_put_apart _ _ _ _ rfl, get_put_apart _ _ _ _ rfl]

theorem thmMeasure_count_leaves {q p x raw : Nat} {c t : Int} {y : State} (hx : x = 8 * q + p)
    (hpos : (y.tgrp q).pos = some p) (hp : p < 8) (hlock : y.locked = true) (ht : t = c + y.getI (THM_SCTL.OFS x))
    (hlo : -32768 ≤ t) (hhi : t ≤ 32767) : (thmMeasure q (some (raw, c)) y).getI (THM_S.TEMP x) = t ∧
      (thmMeasure q (some (raw, c)) y).get (THM_S.NOCNT x) = 0 ∧ (thmMeasure q (some (raw, c)) y).get (THM_S.VALID x) = 1 ∧
      ((thmMeasure q (some (raw, c)) y).tgrp q).pos = some (p + 1) ∧
      (thmMeasure q (some (raw, c)) y).get (THM_S.SEQ x) = (y.get (THM_S.SEQ x) + 1) % 64 ∧
      (y.get (THM_SCTL.EXCL x) = 0 → ((thmMeasure q (some (raw, c)) y).tsen x).range =
          (if t < -640 ∨ 2400 < t then (y.tsen x).range + 1 else 0) ∧
        ((thmMeasure q (some (raw, c)) y).tsen x).raw = some raw) ∧
      y.KeepsBits (thmMeasure q (some (raw, c)) y) [THM_S.TEMP x, THM_S.NOCNT x, THM_S.VALID x, THM_S.SEQ x] := by
  subst hx
  obtain ⟨hseq, hnext, htsen, hsctl, hkeeps⟩ := measureStepped_leaves q p y
  rw [thmMeasure_count hpos hp hlock ht hlo hhi]
  have hexcl := hsctl (THM_SCTL.EXCL (8 * q + p)) _ rfl
  obtain ⟨w, hw⟩ : ∃ w, w = measureStepped q p y := ⟨_, rfl⟩
  rw [← hw] at hseq hnext hkeeps hexcl ⊢
  have htsenw : w.tsen (8 * q + p) = y.tsen (8 * q + p) := hw ▸ htsen _
  obtain ⟨htemp, hnocnt, hvalid, hseqput, hkept⟩ := countPut_leaves (8 * q + p) hlo hhi w
  have hpos' : ((countPut (8 * q + p) t w).tgrp q).pos = some (p + 1) := hnext
  obtain ⟨v, hv⟩ : ∃ v, v = countPut (8 * q + p) t w := ⟨_, rfl⟩
  rw [← hv] at htemp hnocnt hvalid hseqput hkept hpos' ⊢
  have hget : ∀ f h, (v.setTsen (8 * q + p) h).get f = v.get f := fun f h => get_of_regs rfl f
  refine ⟨(congrArg (toSigned 16) (hget _ _)).trans htemp, (hget _ _).trans hnocnt, (hget _ _).trans hvalid, hpos',
    (hget _ _).trans (hseqput.trans hseq), fun h => ?_, ?_⟩
  · have hoff : w.bit (THM_SCTL.EXCL (8 * q + p)) = false := bit_of_get_zero (hexcl.trans h)
    rw [tsen_setTsen_same, hoff, if_neg Bool.false_ne_true, htsenw]
    exact ⟨by simp [countSeen], rfl⟩
  · exact ((hkeeps.mono (by simp)).trans (hkept.mono (by simp))).of_regs rfl

/-! ### Sweeps and exclusions (R462, R465, R466) -/

theorem thmSweepEnd_none {q : Nat} {s : State} (h : (s.tgrp q).pos ≠ some 8) : thmSweepEnd q s = s := if_neg h

theorem thmSweepEnd_over {q : Nat} {s u v : State} (h : (s.tgrp q).pos = some 8)
    (hu : u = (thmEvaluate q (thmExclusions q s)).incSat THM_CNT.SWEEPS)
    (hv : v = if (u.tgrp q).fw then thmEvent THM_EVT.FWDONE 6 u else u) :
    thmSweepEnd q s = thmNextSweep q (if v.thmState = 1 then thmDemandAll 3 v else v) := by
  subst hu hv
  exact if_pos h

theorem thmNextSweep_leaves {q : Nat} {s : State} (h : (s.tgrp q).pos.isSome = true) : (thmNextSweep q s).tgrp q =
      (if (s.tgrp q).pending then { s.tgrp q with pos := some 0, fw := (s.tgrp q).fwNext, pending := false, fwNext := false }
       else { s.tgrp q with pos := none, fw := false }) ∧
    { thmNextSweep q s with thmGroup := s.thmGroup } = s := by
  refine ⟨?_, rfl⟩
  unfold thmNextSweep
  dsimp only
  rw [tgrp_setTgrp_same, if_pos h]

theorem tgrp_adv (s : State) (e : Dword) (q : Nat) : (s.advanceTo e).tgrp q = s.tgrp q :=
  congrArg (fun m => mapGet ({} : ThmGroup) m q) (advanceTo_thmGroup s e)

/-- A write of THM_SCTL, where u holds the word that is stored. -/
theorem thmSctlWrite_eq {x : Nat} {v : Word} {s u : State} (hu : u = storeReg (THM_SCTL x)
      (if s.bit (THM_SCTL.XCAUSE x) then v ||| (s.freshBits (THM_SCTL x) &&& 0x80000000) else v) s) :
    thmSctlWrite x v s =
      if s.bit (THM_SCTL.EXCL x) != u.bit (THM_SCTL.EXCL x) then
        (if s.bit (THM_SCTL.EXCL x) && !u.bit (THM_SCTL.EXCL x) then u.put (THM_SCTL.XCAUSE x) 0 else u).setTsen x {}
      else (if s.bit (THM_SCTL.EXCL x) && !u.bit (THM_SCTL.EXCL x) then u.put (THM_SCTL.XCAUSE x) 0 else u) := by
  subst hu
  rfl

theorem thmSctlWrite_leaves {x : Nat} {v : Word} {s u : State} (hu : u = storeReg (THM_SCTL x)
      (if s.bit (THM_SCTL.XCAUSE x) then v ||| (s.freshBits (THM_SCTL x) &&& 0x80000000) else v) s) :
    (u.get (THM_SCTL.EXCL x) = s.get (THM_SCTL.EXCL x) → thmSctlWrite x v s = u) ∧
      (u.get (THM_SCTL.EXCL x) ≠ s.get (THM_SCTL.EXCL x) → (thmSctlWrite x v s).tsen x = {} ∧
        (u.get (THM_SCTL.EXCL x) = 0 → (thmSctlWrite x v s).get (THM_SCTL.XCAUSE x) = 0 ∧
          u.KeepsBits (thmSctlWrite x v s) [THM_SCTL.XCAUSE x]) ∧
        (u.get (THM_SCTL.EXCL x) = 1 → (thmSctlWrite x v s).regs = u.regs)) := by
  have hltu : u.get (THM_SCTL.EXCL x) < 2 := fldGet_lt _ _ _
  have hlts : s.get (THM_SCTL.EXCL x) < 2 := fldGet_lt _ _ _
  rw [thmSctlWrite_eq hu]
  refine ⟨fun h => ?_, fun h => ?_⟩
  · have hbit : s.bit (THM_SCTL.EXCL x) = u.bit (THM_SCTL.EXCL x) := by rw [State.bit, State.bit, h]
    rw [hbit, bne_self_eq_false, if_neg Bool.false_ne_true, Bool.and_not_self, if_neg Bool.false_ne_true]
  · rcases Nat.lt_succ_iff_lt_or_eq.mp hltu with hoff | hon
    · have hoff : u.get (THM_SCTL.EXCL x) = 0 := Nat.lt_one_iff.mp hoff
      have hwas : s.get (THM_SCTL.EXCL x) = 1 := by omega
      rw [bit_of_get hwas, bit_of_get_zero hoff, if_pos (by decide), if_pos (by decide)]
      refine ⟨tsen_setTsen_same .., fun _ => ⟨(get_of_regs rfl _).trans (get_put_fit u (THM_SCTL.XCAUSE x) 0 rfl),
        ((KeepsBits.refl u).put _ _).of_regs rfl⟩, fun h => absurd h (by omega)⟩
    · have hwas : s.get (THM_SCTL.EXCL x) = 0 := by omega
      rw [bit_of_get_zero hwas, bit_of_get hon, if_pos (by decide), if_neg (by decide)]
      exact ⟨tsen_setTsen_same .., fun h => absurd h (by omega), fun _ => rfl⟩

/-! ### Shutdown (R472, R473, R476) -/

theorem thmDrained_acts {z u : State} (hst : z.thmState = 1) (hnot : z.thm.drained = false) (hsag : z.sagOn = false)
    (hlock : z.locked = true) (hu : u = { z with thm := { z.thm with drained := true } }) : thmDrained z =
      u.each (u.listed (RGN_STAT 0) 0x100 256) fun s n => (rgnDisable n s).put (RGN_STAT.ENABLE_PENDING n) 0 := by
  subst hu
  exact if_pos ⟨hst, by simp [hnot], by simp [hsag], hlock⟩

theorem thmDrained_done {z : State} (h : z.thmState ≠ 1 ∨ z.thm.drained = true) : thmDrained z = z :=
  if_neg fun ⟨hst, hnot, _⟩ => h.elim (fun h => h hst) fun h => by simp [h] at hnot

/-- The front stage as DOWN leaves it. -/
def frontDown (z : State) : State := if z.fsState = 1 ∨ z.fsState = 2 then stopFront z else z

theorem thmDown_acts {z : State} (hst : z.thmState = 1) (hdrained : z.thm.drained = true) (hsag : z.sagOn = false)
    (hoff : ∀ n ∈ z.liveRegions, z.rgnState n = rFAULTED) :
    thmDown z = (((frontDown z).put THM_STAT.STATE 2).put THM_EVT.DOWN 1).ring kTHM 3 :=
  if_pos ⟨hst, hdrained, by simp [hsag], List.all_eq_true.mpr fun n hn => beq_iff_eq.mpr (hoff n hn)⟩

/-- What a thermal state st with its event leaves. -/
theorem stateDown_leaves {st : Nat} (hst : st < 4) (z : State) : ∃ w, w = ((z.put THM_STAT.STATE st).put THM_EVT.DOWN 1).ring kTHM 3 ∧
    w.get THM_STAT.STATE = st ∧ w.get THM_EVT.DOWN = 1 ∧ w.pst.port = z.pst.port ++ [32 * kTHM + 3] ∧
    z.KeepsBits w [THM_STAT.STATE, THM_EVT.DOWN] := by
  obtain ⟨v, hv⟩ : ∃ v, v = (z.put THM_STAT.STATE st).put THM_EVT.DOWN 1 := ⟨_, rfl⟩
  have hport : v.pst.port = z.pst.port := hv ▸ rfl
  have hkeeps : z.KeepsBits v [THM_EVT.DOWN, THM_STAT.STATE] := hv ▸ ((KeepsBits.refl z).put _ _).put _ _
  refine ⟨v.ring kTHM 3, hv ▸ rfl, ?_, ?_, congrArg (· ++ [32 * kTHM + 3]) hport, (hkeeps.mono (by simp)).of_regs rfl⟩
  · rw [ring_get, hv, get_put_reg _ _ _ _ (by decide), get_put_cut _ _ _ rfl]
    exact Nat.mod_eq_of_lt hst
  · rw [ring_get, hv, get_put_fit _ _ _ rfl]

/-- Is CLR answered with RUN (R476)? -/
def clears (s : State) : Prop :=
  2 ≤ s.thmState ∧ (s.listed (THM_GSTAT 0) 0x20 64).all (fun q => s.get (THM_GSTAT.LEVEL q) != 3) = true ∧
    (s.thmState = 3 → s.num CBSE_STATUS_LO &&& fatalMask &&& (2 ^ 32 - 1 - 2 ^ 19) = 0)

theorem thmCtrlWrite_clears {v : Word} (hv : fldGet v 0 0 = 1) {s : State} (h : clears s) :
    thmCtrlWrite v s = s.put THM_STAT.STATE 0 := (if_neg (by omega)).trans (if_pos h)

theorem thmCtrlWrite_refuses {v : Word} (hv : fldGet v 0 0 = 1) {s : State} (h : ¬ clears s) :
    thmCtrlWrite v s = s.put THM_EVT.CLR_REFUSED 1 := (if_neg (by omega)).trans (if_neg h)

theorem cool_iff (s : State) : (s.listed (THM_GSTAT 0) 0x20 64).all (fun q => s.get (THM_GSTAT.LEVEL q) != 3) = true ↔
    ∀ q ∈ s.listed (THM_GSTAT 0) 0x20 64, s.get (THM_GSTAT.LEVEL q) ≠ 3 := by
  simp

/-- Settles O31: each command clause by clause. CLR in HARD that ignores HARD's own latch, and CLR refused in RUN and SHUTDOWN, are
log entry 72; the exclusions at the sweep's end are log entry 69. -/
theorem thermalCommandsComplete : Obligations.ThermalCommandsComplete := by
  refine ⟨fun e s hrun => completes_running rfl hrun rfl rfl, ?_, ?_, ?_, ?_, ?_, ?_, ?_, fun q s h => thmNextSweep_leaves h, ?_, ?_,
    ?_, ?_, ?_, ?_⟩
  · intro q s hen hlock hq hpos hpend hby hpassed
    have hdue : guardDue s = true := by simp [guardDue, hpassed]
    rw [thmGuard_eq, if_pos ⟨hdue, bit_of_get hen⟩]
    exact thmDemands_idle (s := guardNoted s) (List.mem_range.mpr hq) List.nodup_range hlock hpos hpend hby
  · intro s h
    rw [thmGuard_quiet h]
    exact guardNoted_kept s
  · rintro req hi v m q s hp hlock rfl hpos hpend hby
    refine completes_permitted rfl hp rfl ?_
    by_cases hmem : q ∈ bitsOf (if hi then v.toNat * 2 ^ 32 else v.toNat) 64
    · rw [if_pos hmem]
      exact thmDemands_idle hmem (bitsOf_nodup ..) hlock hpos hpend hby
    · rw [if_neg hmem]
      exact thmDemands_unnamed hmem s
  · rintro e q p s y rfl hpos hp hlock hrun
    exact completes_running rfl hrun (thmMeasure_none hpos hp hlock) ⟨_, rfl, countLost_leaves rfl _⟩
  · rintro e q p raw c z s y rfl hpos hp hlock hz hlo hhi hrun
    exact completes_running rfl hrun rfl ⟨_, rfl, thmMeasure_count_leaves rfl hpos hp hlock hz hlo hhi⟩
  · intro e q s hpos hrun
    exact completes_working rfl hrun (congrArg reinAll (thmSweepEnd_none (by rwa [tgrp_adv])))
  · intro e q u v s hpos hu hv hrun
    exact completes_working rfl hrun (congrArg reinAll (thmSweepEnd_over (by rwa [tgrp_adv]) hu hv))
  · intro req x v u s hp hu
    exact completes_permitted rfl hp rfl (thmSctlWrite_leaves hu)
  · rintro e y z u s rfl hz hst hnot hsag hlock hu hrun
    subst hz
    exact completes_working rfl hrun (congrArg reinAll (thmDrained_acts hst hnot hsag hlock hu))
  · rintro e y z s rfl rfl h hrun
    exact completes_working rfl hrun (congrArg reinAll (thmDrained_done h))
  · rintro e z s rfl hst hdrained hsag hoff hrun
    obtain ⟨w, hw, hstate, hevent, hport, hkeeps⟩ := stateDown_leaves (st := 2) (by decide) (frontDown (s.advanceTo e))
    refine completes_working rfl hrun ⟨w, congrArg reinAll ((thmDown_acts hst hdrained hsag hoff).trans hw.symm), hstate, hevent,
      fun hfront => ?_, fun h1 h2 => ?_⟩
    · obtain ⟨hstop, hpg⟩ := stopFront_leaves (s.advanceTo e)
      have hdown : frontDown (s.advanceTo e) = stopFront (s.advanceTo e) := if_pos hfront
      rw [hdown] at hkeeps
      exact ⟨(hkeeps.get _ (by decide)).trans hstop, (hkeeps.get _ (by decide)).trans hpg⟩
    · have hdown : frontDown (s.advanceTo e) = s.advanceTo e := if_neg (not_or.mpr ⟨h1, h2⟩)
      rw [hdown] at hkeeps hport
      exact ⟨hkeeps, hport⟩
  · rintro e y s rfl hst hrun
    obtain ⟨w, hw, hstate, hevent, hport, hkeeps⟩ := stateDown_leaves (st := 3) (by decide)
      ((s.advanceTo e).advanceTo (BitVec.ofNat 64 ((s.advanceTo e).thm.sd + 1600000)))
    exact completes_working rfl hrun ⟨_, w, rfl, congrArg reinAll ((if_pos hst).trans hw.symm), hstate, hevent, hport, hkeeps⟩
  · intro req v s hp hv
    refine completes_permitted rfl hp rfl ⟨fun ⟨hst, hcool, hothers⟩ => ?_, fun h => ?_⟩
    · rw [thmCtrlWrite_clears hv ⟨hst, (cool_iff s).mpr hcool, hothers⟩]
      exact ⟨get_put_fit _ _ _ rfl, frame_put _ _ _⟩
    · have hno : ¬ clears s := fun ⟨hst, hcool, _⟩ => by
        rcases h with h | ⟨q, hq, hlevel⟩
        · omega
        · exact (cool_iff s).mp hcool q hq hlevel
      rw [thmCtrlWrite_refuses hv hno]
      exact ⟨get_put_fit _ _ _ rfl, frame_put _ _ _⟩

end Sys2Proof.Machine

/-! PROOFS of the family spec/13_sense_converters.md. What conversions, urgent requests, reference changes, pair checks, window
comparators and the pattern current leave. -/

namespace Sys2Proof.Machine

open State

/-! ### Converters and comparators -/

theorem sconv_setSconv_same (s : State) (k : Nat) (h : SnsConv) : (s.setSconv k h).sconv k = h := mapGet_mapSet_same ..

theorem sconv_setSconv_other (s : State) {j k : Nat} (h : SnsConv) (hjk : j ≠ k) : (s.setSconv k h).sconv j = s.sconv j :=
  mapGet_mapSet_other _ _ _ _ _ _ hjk

theorem scomp_setScomp_same (s : State) (w : Nat) (h : SnsComp) : (s.setScomp w h).scomp w = h := mapGet_mapSet_same ..

theorem setSconv_get (s : State) (k : Nat) (h : SnsConv) (f : Fld) : (s.setSconv k h).get f = s.get f := get_of_regs rfl f

theorem setScomp_get (s : State) (w : Nat) (h : SnsComp) (f : Fld) : (s.setScomp w h).get f = s.get f := get_of_regs rfl f

theorem sconv_adv (s : State) (e : Dword) (k : Nat) : (s.advanceTo e).sconv k = s.sconv k :=
  congrArg (fun m => mapGet ({} : SnsConv) m k) (advanceTo_snsConv s e)

theorem scomp_adv (s : State) (e : Dword) (w : Nat) : (s.advanceTo e).scomp w = s.scomp w :=
  congrArg (fun m => mapGet ({} : SnsComp) m w) (advanceTo_snsComp s e)

theorem keepsBits_of_adv {s t : State} {e : Dword} {fs : List Fld} (h : (s.advanceTo e).KeepsBits t fs) : s.KeepsBits t fs :=
  ((adv_keeps s e).mono (by simp)).trans h

theorem bit_eq_one {f : Fld} (hf : f.hi + 1 - f.lo = 1) (s : State) : s.bit f = decide (s.get f = 1) := by
  have hlt : s.get f < 2 := by
    have hlt := fldGet_lt (s.rd f.addr) f.hi f.lo
    rw [hf] at hlt
    exact hlt
  rw [State.bit]
  interval_cases s.get f <;> rfl

/-! ### Conversions (R432, R437, R441) -/

/-- The cause of a result that has just been converted, kept beside its register. -/
def baseNoted (k ch : Nat) (x : State) : State :=
  { x with sns := { x.sns with base := mapInsert (mapErase x.sns.base (snsKey k ch)) (snsKey k ch)
                                         (if bitOf (x.get SNS_STAT.SETTLED) k then 0 else 2) } }

/-- The registers that a result of converter k on channel ch writes. -/
theorem convStore_leaves (k ch code : Nat) (ovr : Bool) (z : State) :
    (convStore k ch code ovr z).get (SNS_RES.CODE k ch) = code % 65536 ∧
      (convStore k ch code ovr z).get (SNS_RES.SEQ k ch) = (z.get (SNS_RES.SEQ k ch) + 1) % 64 ∧
      (convStore k ch code ovr z).bit (SNS_RES.OVR k ch) = ovr ∧
      (convStore k ch code ovr z).get (SNS_CNT.COUNT k) = (z.get (SNS_CNT.COUNT k) + 1) % 2 ^ 32 ∧
      ((convStore k ch code ovr z).sconv k).cur = none ∧
      z.KeepsBits (convStore k ch code ovr z) [SNS_RES.CODE k ch, SNS_RES.SEQ k ch, SNS_RES.OVR k ch, SNS_CNT.COUNT k] := by
  have hapart : SNS_CNT k ≠ SNS_RES k ch := by
    unfold SNS_CNT SNS_RES
    omega
  obtain ⟨y, hy⟩ : ∃ y, y = z.setSconv k { z.sconv k with cur := none } := ⟨_, rfl⟩
  have hgety : ∀ f, y.get f = z.get f := fun f => hy ▸ setSconv_get z k _ f
  have hcur : (y.sconv k).cur = none := by
    rw [hy, sconv_setSconv_same]
  obtain ⟨x, hx⟩ : ∃ x, x = ((y.put (SNS_RES.OVR k ch) ovr.toNat).put (SNS_RES.CODE k ch) code).put (SNS_RES.SEQ k ch)
      ((z.get (SNS_RES.SEQ k ch) + 1) % 64) := ⟨_, rfl⟩
  obtain ⟨v, hv⟩ : ∃ v, v = baseNoted k ch x := ⟨_, rfl⟩
  have hgetv : ∀ f, v.get f = x.get f := fun f => hv ▸ get_of_regs rfl f
  have hcount : v.get (SNS_CNT.COUNT k) = z.get (SNS_CNT.COUNT k) := by
    rw [hgetv, hx, get_put_reg _ _ _ _ hapart, get_put_reg _ _ _ _ hapart, get_put_reg _ _ _ _ hapart, hgety]
  have hseq : ((y.put (SNS_RES.OVR k ch) ovr.toNat).put (SNS_RES.CODE k ch) code).get (SNS_RES.SEQ k ch) =
      z.get (SNS_RES.SEQ k ch) := by
    rw [get_put_apart _ _ _ _ rfl, get_put_apart _ _ _ _ rfl, hgety]
  have hstore : convStore k ch code ovr z = v.put (SNS_CNT.COUNT k) ((z.get (SNS_CNT.COUNT k) + 1) % 2 ^ 32) := by
    rw [← hcount, hv, hx, ← hseq, hy]
    rfl
  have hkeeps : z.KeepsBits v [SNS_RES.SEQ k ch, SNS_RES.CODE k ch, SNS_RES.OVR k ch] := by
    have hykeeps : z.KeepsBits y [] := keeps_regs_eq (hy ▸ rfl)
    refine KeepsBits.of_regs ?_ (hv ▸ rfl : v.regs = x.regs)
    exact hx ▸ ((hykeeps.put _ _).put _ _).put _ _
  have hcurv : (v.sconv k).cur = none := by
    rw [hv, hx]
    exact hcur
  rw [hstore]
  refine ⟨?_, ?_, ?_, ?_, hcurv, (hkeeps.put _ _).mono (by simp)⟩
  · rw [get_put_reg _ _ _ _ hapart.symm, hgetv, hx, get_put_apart _ _ _ _ rfl, get_put_cut _ _ _ rfl]
    rfl
  · rw [get_put_reg _ _ _ _ hapart.symm, hgetv, hx, get_put_cut _ _ _ rfl]
    exact Nat.mod_mod _ _
  · have hovr : (v.put (SNS_CNT.COUNT k) ((z.get (SNS_CNT.COUNT k) + 1) % 2 ^ 32)).get (SNS_RES.OVR k ch) = ovr.toNat % 2 := by
      rw [get_put_reg _ _ _ _ hapart.symm, hgetv, hx, get_put_apart _ _ _ _ rfl, get_put_apart _ _ _ _ rfl, get_put_cut _ _ _ rfl]
      rfl
    rw [State.bit, hovr]
    cases ovr <;> rfl
  · rw [get_put_cut _ _ _ rfl]
    exact Nat.mod_mod _ _

theorem convComplete_slot {k raw : Nat} {slot : SnsSlot} {z : State} (h : (z.sconv k).cur = some slot) : convComplete k raw z =
    convReport k slot.ch slot.start (z.snsCode k raw) (raw == 0 || raw == 16383) slot.urgent
      (senseUse k slot.ch (z.snsCode k raw) (senseCheck k slot.chk slot.start (z.snsCode k raw)
        (convStore k slot.ch (z.snsCode k raw) (raw == 0 || raw == 16383) z))) := by
  unfold convComplete
  rw [h]

/-- Without a slot in progress nothing ends. -/
theorem convComplete_idle {k raw : Nat} {z : State} (h : (z.sconv k).cur = none) : convComplete k raw (slotEnd k z) = z := by
  have hend : slotEnd k z = z := by
    unfold slotEnd
    rw [h]
  unfold convComplete
  rw [hend, h]

/-! ### Urgent requests and references (R440, R441, R445) -/

theorem fldGet_channel (ch : BitVec 6) : fldGet (BitVec.ofNat 32 ch.toNat) 5 0 = ch.toNat := by
  have hlt := ch.isLt
  simp only [fldGet, BitVec.ushiftRight_zero, BitVec.toNat_ofNat]
  omega

theorem urgentWrite_bad {k ch : Nat} (h : snsChannels k ≤ ch) (s : State) : urgentWrite k ch s = s.put SNS_EVT.URG_BAD 1 :=
  if_pos h

theorem urgentWrite_full {k ch : Nat} (h : ch < snsChannels k) {s : State} (hfull : 4 ≤ (s.sconv k).urg.length) :
    urgentWrite k ch s = s.put SNS_EVT.URG_OVF 1 :=
  (if_neg (Nat.not_le.mpr h)).trans (if_pos hfull)

theorem urgentWrite_joins {k ch : Nat} (h : ch < snsChannels k) {s : State} (hroom : (s.sconv k).urg.length < 4) :
    (urgentWrite k ch s).sconv k = { s.sconv k with urg := (s.sconv k).urg ++ [ch] } ∧
      (urgentWrite k ch s).get (SNS_URG.QD k) = (s.sconv k).urg.length + 1 ∧
      (∀ j, j ≠ k → (urgentWrite k ch s).sconv j = s.sconv j) ∧ s.KeepsBits (urgentWrite k ch s) [SNS_URG.QD k] ∧
      { urgentWrite k ch s with regs := s.regs, snsConv := s.snsConv } = s := by
  have hjoins : urgentWrite k ch s = (s.setSconv k { s.sconv k with urg := (s.sconv k).urg ++ [ch] }).put (SNS_URG.QD k)
      ((s.sconv k).urg.length + 1) := (if_neg (Nat.not_le.mpr h)).trans (if_neg (Nat.not_le.mpr hroom))
  rw [hjoins]
  refine ⟨sconv_setSconv_same .., ?_, fun j hj => sconv_setSconv_other _ _ hj, ((KeepsBits.refl s).of_regs rfl).put _ _, rfl⟩
  rw [get_put_cut _ _ _ rfl]
  exact Nat.mod_eq_of_lt (by simp only [SNS_URG.QD]; omega)

theorem clearBitN_le (n b : Nat) : clearBitN n b ≤ n := by
  unfold clearBitN
  split
  · exact Nat.sub_le _ _
  · exact le_rfl

theorem get_lt_sixteen {f : Fld} (hf : f.hi + 1 - f.lo = 4) (s : State) : s.get f < 16 := by
  have hlt := fldGet_lt (s.rd f.addr) f.hi f.lo
  rw [hf] at hlt
  exact hlt

theorem snsCfgWrite_same {k : Nat} {v : Word} {s u : State} (hu : u = storeReg (SNS_CFG k) v s)
    (h : u.rd (SNS_CFG k) = s.rd (SNS_CFG k)) : snsCfgWrite k v s = u := by
  subst hu
  exact if_pos h

theorem snsCfgWrite_changed {k : Nat} {v : Word} {s u : State} (hu : u = storeReg (SNS_CFG k) v s)
    (h : u.rd (SNS_CFG k) ≠ s.rd (SNS_CFG k)) (hstat : SNS_STAT ≠ SNS_CFG k) :
    (snsCfgWrite k v s).get SNS_STAT.SETTLED = clearBitN (s.get SNS_STAT.SETTLED) k ∧
      u.KeepsBits (snsCfgWrite k v s) [SNS_STAT.SETTLED] ∧
      ((snsCfgWrite k v s).sconv k).settle = some (u.now + if u.get (SNS_CFG.REF k) = 1 then 40000 else 16000) := by
  have hsettled : u.get SNS_STAT.SETTLED = s.get SNS_STAT.SETTLED := hu ▸ storeReg_get_other hstat v s
  have hwrite : snsCfgWrite k v s = (u.setSconv k { u.sconv k with
      settle := some (u.now + if u.get (SNS_CFG.REF k) = 1 then 40000 else 16000) }).put SNS_STAT.SETTLED
        (clearBitN (u.get SNS_STAT.SETTLED) k) := by
    subst hu
    exact if_neg h
  rw [hwrite]
  refine ⟨?_, ((KeepsBits.refl u).of_regs rfl).put _ _, congrArg SnsConv.settle (sconv_setSconv_same ..)⟩
  rw [get_put_cut _ _ _ rfl, hsettled]
  exact Nat.mod_eq_of_lt ((clearBitN_le _ _).trans_lt (get_lt_sixteen rfl s))

theorem refSettled_none {k : Nat} {z : State} (h : (z.sconv k).settle = none) : refSettled k z = z := by
  unfold refSettled
  rw [h]

theorem refSettled_at {k x : Nat} (hk : k < 4) {z y : State} (h : (z.sconv k).settle = some x)
    (hy : y = z.advanceTo (BitVec.ofNat 64 x)) : (refSettled k z).get SNS_STAT.SETTLED = setBitN (y.get SNS_STAT.SETTLED) k ∧
      ((refSettled k z).sconv k).settle = none ∧ (refSettled k z).get SNS_EVT.SETTLED = 1 ∧
      (refSettled k z).pst.port = y.pst.port ++ [32 * kSNS + 10] ∧
      y.KeepsBits (refSettled k z) [SNS_STAT.SETTLED, SNS_EVT.SETTLED] := by
  obtain ⟨w, hw⟩ : ∃ w, w = y.setSconv k { y.sconv k with settle := none } := ⟨_, rfl⟩
  have hget : ∀ f, w.get f = y.get f := fun f => hw ▸ setSconv_get y k _ f
  obtain ⟨v, hv⟩ : ∃ v, v = (w.put SNS_STAT.SETTLED (setBitN (y.get SNS_STAT.SETTLED) k)).put SNS_EVT.SETTLED 1 := ⟨_, rfl⟩
  have hsettled : refSettled k z = v.ring kSNS 10 := by
    rw [hv, ← hget, hw, hy]
    unfold refSettled
    rw [h]
    rfl
  have hport : v.pst.port = y.pst.port := by
    rw [hv, hw]
    rfl
  have hconv : (v.sconv k).settle = none := by
    rw [hv, hw]
    exact congrArg SnsConv.settle (sconv_setSconv_same ..)
  have hkeeps : y.KeepsBits v [SNS_EVT.SETTLED, SNS_STAT.SETTLED] := by
    have hwkeeps : y.KeepsBits w [] := keeps_regs_eq (hw ▸ rfl)
    exact hv ▸ (hwkeeps.put _ _).put _ _
  rw [hsettled]
  refine ⟨?_, hconv, ?_, congrArg (· ++ [32 * kSNS + 10]) hport, (hkeeps.mono (by simp)).of_regs rfl⟩
  · rw [ring_get, hv, get_put_reg _ _ _ _ (by decide), get_put_cut _ _ _ rfl]
    exact Nat.mod_eq_of_lt (setBitN_lt_16 _ (get_lt_sixteen rfl y) _ hk)
  · rw [ring_get, hv, get_put_fit _ _ _ rfl]

/-! ### Pairs (R448, R450, R451) -/

theorem pairBlame_lt (s : State) (p : Nat) : s.pairBlame p < 4 := by
  unfold State.pairBlame
  dsimp only
  split_ifs <;> (try split) <;> (try split_ifs) <;> decide

theorem pairFields_apart {p : Nat} {f b : Fld} (h : pairFields p = (f, b)) : f.addr = SNS_STAT ∧ b.addr = SNS_STAT ∧
    (f = ⟨SNS_STAT, 12, 12⟩ ∧ b = ⟨SNS_STAT, 17, 16⟩ ∨ f = ⟨SNS_STAT, 13, 13⟩ ∧ b = ⟨SNS_STAT, 19, 18⟩) := by
  unfold pairFields at h
  split at h
  · obtain ⟨rfl, rfl⟩ := Prod.mk.inj h
    exact ⟨rfl, rfl, .inl ⟨rfl, rfl⟩⟩
  · obtain ⟨rfl, rfl⟩ := Prod.mk.inj h
    exact ⟨rfl, rfl, .inr ⟨rfl, rfl⟩⟩

/-- A pair's bit, its blame and the PLAUS event written together. -/
theorem pairNoted_leaves {p v blame : Nat} {f b : Fld} (hf : pairFields p = (f, b)) (hv : v < 2) (hblame : blame < 4) (z : State) :
    ∃ t, t = snsEvent SNS_EVT.PLAUS 8 ((z.put f v).put b blame) ∧ t.get f = v ∧ t.get b = blame ∧ t.get SNS_EVT.PLAUS = 1 ∧
      t.pst.port = z.pst.port ++ [32 * kSNS + 8] ∧ t.cbse.pulses = z.cbse.pulses ∧ z.KeepsBits t [f, b, SNS_EVT.PLAUS] := by
  obtain ⟨x, hx⟩ : ∃ x, x = ((z.put f v).put b blame).put SNS_EVT.PLAUS 1 := ⟨_, rfl⟩
  have hport : x.pst.port = z.pst.port := hx ▸ rfl
  have hpulses : x.cbse.pulses = z.cbse.pulses := hx ▸ rfl
  have hkeeps : z.KeepsBits x [SNS_EVT.PLAUS, b, f] := hx ▸ (((KeepsBits.refl z).put _ _).put _ _).put _ _
  have hfields : x.get f = v ∧ x.get b = blame := by
    rw [hx]
    obtain ⟨-, -, ⟨rfl, rfl⟩ | ⟨rfl, rfl⟩⟩ := pairFields_apart hf
    all_goals
      refine ⟨?_, ?_⟩
      · rw [get_put_reg _ _ _ _ (by decide), get_put_apart _ _ _ _ rfl, get_put_cut _ _ _ rfl]
        exact Nat.mod_eq_of_lt hv
      · rw [get_put_reg _ _ _ _ (by decide), get_put_cut _ _ _ rfl]
        exact Nat.mod_eq_of_lt hblame
  refine ⟨x.ring kSNS 8, hx ▸ rfl, (ring_get ..).trans hfields.1, (ring_get ..).trans hfields.2, ?_,
    congrArg (· ++ [32 * kSNS + 8]) hport, hpulses, (hkeeps.mono ?_).of_regs rfl⟩
  · rw [ring_get, hx, get_put_fit _ _ _ rfl]
  · intro g hg
    simp only [List.mem_cons, List.not_mem_nil, or_false] at hg ⊢
    tauto

theorem pairFail_fails {p : Nat} {f b : Fld} {z : State} (hf : pairFields p = (f, b)) (hok : z.get f = 0)
    (hrun : z.get SNS_CHK.NFAIL ≤ (z.sconv (2 * p)).dis) :
    pairFail p z = (snsEvent SNS_EVT.PLAUS 8 ((z.put f 1).put b (z.pairBlame p))).pulse 14 := by
  unfold pairFail
  rw [hf]
  exact if_pos ⟨by rw [bit_of_get_zero hok]; rfl, hrun⟩

theorem pairRecover_recovers {p : Nat} {f b : Fld} {z : State} (hf : pairFields p = (f, b)) (hbad : z.get f = 1)
    (hrun : z.get SNS_CHK.NFAIL ≤ (z.sconv (2 * p)).agr) :
    pairRecover p z = snsEvent SNS_EVT.PLAUS 8 ((z.put f 0).put b 0) := by
  unfold pairRecover
  rw [hf]
  exact if_pos ⟨bit_of_get hbad, hrun⟩

/-- A check slot of a pair whose other converter gave its code of the same slot counts (R450). -/
theorem pairCheck_counts {k m a other start code d : Nat} {s : State} (hpair : pairOf k m = some (a, other)) (hne : k ≠ other)
    (hother : (s.sconv other).pair = some (start, d)) : ∃ t, t = pairCheck k m start code s ∧
    (s.apart code d = true → (t.sconv a).dis = min 15 ((s.sconv a).dis + 1) ∧ (t.sconv a).agr = 0) ∧
    (s.apart code d = false → (t.sconv a).dis = 0 ∧ (t.sconv a).agr = min 15 ((s.sconv a).agr + 1)) := by
  obtain ⟨z, hz⟩ : ∃ z, z = s.setSconv k { s.sconv k with pair := some (start, code) } := ⟨_, rfl⟩
  have hdis : (z.sconv a).dis = (s.sconv a).dis ∧ (z.sconv a).agr = (s.sconv a).agr := by
    rw [hz]
    by_cases hak : a = k
    · rw [hak, sconv_setSconv_same]
      exact ⟨rfl, rfl⟩
    · rw [sconv_setSconv_other _ _ hak]
      exact ⟨rfl, rfl⟩
  have hpairz : (z.sconv other).pair = some (start, d) := by
    rw [hz, sconv_setSconv_other _ _ hne.symm, hother]
  have hapart : z.apart code d = s.apart code d := by
    rw [State.apart, hz, setSconv_get]
    rfl
  have hcheck : pairCheck k m start code s = if s.apart code d = true
      then z.setSconv a { z.sconv a with dis := min 15 ((z.sconv a).dis + 1), agr := 0 }
      else z.setSconv a { z.sconv a with dis := 0, agr := min 15 ((z.sconv a).agr + 1) } := by
    rw [← hapart]
    unfold pairCheck
    rw [hpair]
    dsimp only
    rw [← hz, hpairz]
    exact if_pos rfl
  refine ⟨_, rfl, fun h => ?_, fun h => ?_⟩
  · rw [hcheck, if_pos h, sconv_setSconv_same]
    exact ⟨congrArg (fun n => min 15 (n + 1)) hdis.1, rfl⟩
  · rw [hcheck, h, if_neg Bool.false_ne_true, sconv_setSconv_same]
    exact ⟨rfl, congrArg (fun n => min 15 (n + 1)) hdis.2⟩

/-! ### Window comparators (R453 to R456) -/

/-- The event word that holds comparator w's bit. -/
def wevtReg (w : Nat) : Nat := if w < 32 then SNS_WEVT_LO else SNS_WEVT_HI

theorem wevtReg_lt (w : Nat) : wevtReg w < SNS_WC_CFG 0 := by
  unfold wevtReg
  split <;> decide

theorem wcReg_ne_wevtReg {a w : Nat} (h : SNS_WC_CFG 0 ≤ a) : a ≠ wevtReg w := ((wevtReg_lt w).trans_le h).ne'

theorem compReport_leaves (w : Nat) (s : State) : ((compReport w s).rd (wevtReg w)).getLsbD (w % 32) = true ∧
    (compReport w s).pst.port = s.pst.port ++ [32 * kSNS + s.get (SNS_WC_CFG.ROUTE w)] ∧
    (compReport w s).cbse.pulses = s.cbse.pulses ∧ s.KeepsBits (compReport w s) [⟨wevtReg w, 31, 0⟩] := by
  obtain ⟨u, hu⟩ : ∃ u, u = s.wr (wevtReg w) (s.rd (wevtReg w) ||| BitVec.ofNat 32 (2 ^ (w % 32))) := ⟨_, rfl⟩
  have hroute : u.get (SNS_WC_CFG.ROUTE w) = s.get (SNS_WC_CFG.ROUTE w) :=
    hu ▸ get_wr_other _ _ _ _ (wcReg_ne_wevtReg (by simp only [SNS_WC_CFG.ROUTE, SNS_WC_CFG]; omega))
  have hport : u.pst.port = s.pst.port := hu ▸ rfl
  have hpulses : u.cbse.pulses = s.cbse.pulses := hu ▸ rfl
  have hreport : compReport w s = u.ring kSNS (s.get (SNS_WC_CFG.ROUTE w)) := by
    unfold compReport
    rw [← hroute, hu]
    rfl
  rw [hreport]
  refine ⟨?_, congrArg (· ++ [32 * kSNS + s.get (SNS_WC_CFG.ROUTE w)]) hport, hpulses, (hu ▸ (KeepsBits.refl s).wr _ _).of_regs rfl⟩
  rw [ring_rd, hu, rd_wr_same, BitVec.getLsbD_or, BitVec.getLsbD_ofNat, Nat.testBit_two_pow_self]
  simp [Nat.mod_lt]

/-- The status of a comparator that has just gone OUT. -/
def outNoted (w : Nat) (s : State) : State :=
  ((s.put (SNS_WC_STAT.OUT w) 1).putB (SNS_WC_STAT.HIGH w) (s.scomp w).high).put (SNS_WC_STAT.FCNT w) 0

theorem compExit_goesOut {w : Nat} {z : State} (hen : z.get (SNS_WC_CFG.EN w) = 1) (hin : z.get (SNS_WC_STAT.OUT w) = 0)
    (hfull : z.get (SNS_WC_CFG.FILT w) ≤ z.get (SNS_WC_STAT.FCNT w)) : compExit w z =
      if (compReport w (outNoted w z)).bit (SNS_WC_CFG.CBSE w) then (compReport w (outNoted w z)).pulse 15
      else compReport w (outNoted w z) :=
  if_pos ⟨bit_of_get hen, by rw [bit_of_get_zero hin]; rfl, hfull⟩

theorem outNoted_leaves (w : Nat) (z : State) : (outNoted w z).get (SNS_WC_STAT.OUT w) = 1 ∧
    (outNoted w z).bit (SNS_WC_STAT.HIGH w) = (z.scomp w).high ∧ (outNoted w z).get (SNS_WC_STAT.FCNT w) = 0 ∧
    z.KeepsBits (outNoted w z) [SNS_WC_STAT.FCNT w, SNS_WC_STAT.HIGH w, SNS_WC_STAT.OUT w] := by
  unfold outNoted State.putB
  refine ⟨?_, ?_, get_put_fit _ _ _ rfl, (((KeepsBits.refl z).put _ _).put _ _).put _ _⟩
  · rw [get_put_apart _ _ _ _ rfl, get_put_apart _ _ _ _ rfl, get_put_fit _ _ _ rfl]
  · rw [State.bit, get_put_apart _ _ _ _ rfl, get_put_cut _ _ _ rfl]
    cases (z.scomp w).high <;> rfl

theorem wcCfg_ne_wcStat (w : Nat) : SNS_WC_CFG w ≠ SNS_WC_STAT w := by
  unfold SNS_WC_CFG SNS_WC_STAT
  omega

theorem wcStat_ge (w : Nat) : SNS_WC_CFG 0 ≤ SNS_WC_STAT w := by
  unfold SNS_WC_CFG SNS_WC_STAT
  omega

theorem wcCfg_ge (w : Nat) : SNS_WC_CFG 0 ≤ SNS_WC_CFG w := by
  unfold SNS_WC_CFG
  omega

theorem compExit_leaves {w : Nat} {z : State} (hen : z.get (SNS_WC_CFG.EN w) = 1) (hin : z.get (SNS_WC_STAT.OUT w) = 0)
    (hfull : z.get (SNS_WC_CFG.FILT w) ≤ z.get (SNS_WC_STAT.FCNT w)) : ∃ t, t = compExit w z ∧
      t.get (SNS_WC_STAT.OUT w) = 1 ∧ t.bit (SNS_WC_STAT.HIGH w) = (z.scomp w).high ∧ t.get (SNS_WC_STAT.FCNT w) = 0 ∧
      (t.rd (wevtReg w)).getLsbD (w % 32) = true ∧ t.pst.port = z.pst.port ++ [32 * kSNS + z.get (SNS_WC_CFG.ROUTE w)] ∧
      t.cbse.pulses = z.cbse.pulses ++ (if z.get (SNS_WC_CFG.CBSE w) = 1 then [15] else []) ∧
      z.KeepsBits t [SNS_WC_STAT.OUT w, SNS_WC_STAT.HIGH w, SNS_WC_STAT.FCNT w, ⟨wevtReg w, 31, 0⟩] := by
  obtain ⟨v, hv⟩ : ∃ v, v = outNoted w z := ⟨_, rfl⟩
  obtain ⟨r, hr⟩ : ∃ r, r = compReport w v := ⟨_, rfl⟩
  obtain ⟨hout, hhigh, hfcnt, hnoted⟩ := hv ▸ outNoted_leaves w z
  obtain ⟨hbit, hport, hpulses, hreport⟩ := hr ▸ compReport_leaves w v
  have hportv : v.pst.port = z.pst.port := hv ▸ rfl
  have hpulsesv : v.cbse.pulses = z.cbse.pulses := hv ▸ rfl
  have hcfg : ∀ f, f.addr = SNS_WC_CFG w → v.get f = z.get f := fun f hf => hnoted.get f fun g hg => .inl (by
    simp only [List.mem_cons, List.not_mem_nil, or_false] at hg
    rw [hf]
    rcases hg with rfl | rfl | rfl <;> exact wcCfg_ne_wcStat w)
  have hkept : ∀ f, SNS_WC_CFG 0 ≤ f.addr → r.get f = v.get f := fun f hf => hreport.get f fun g hg => .inl (by
    rw [List.mem_singleton.mp hg]
    exact wcReg_ne_wevtReg hf)
  have hkeeps : z.KeepsBits r [SNS_WC_STAT.OUT w, SNS_WC_STAT.HIGH w, SNS_WC_STAT.FCNT w, ⟨wevtReg w, 31, 0⟩] :=
    (hnoted.mono fun f hf => by
      simp only [List.mem_cons, List.not_mem_nil, or_false] at hf ⊢
      tauto).trans (hreport.mono (by simp))
  have hexit : compExit w z = if z.get (SNS_WC_CFG.CBSE w) = 1 then r.pulse 15 else r := by
    rw [compExit_goesOut hen hin hfull, ← hv, ← hr, bit_eq_one rfl, hkept _ (wcCfg_ge w), hcfg _ rfl]
    simp only [decide_eq_true_eq]
  have hbits : (∀ f, SNS_WC_CFG 0 ≤ f.addr → (compExit w z).get f = v.get f) ∧ (compExit w z).regs = r.regs ∧
      (compExit w z).pst.port = r.pst.port := by
    rw [hexit]
    split
    · exact ⟨fun f hf => (get_of_regs rfl f).trans (hkept f hf), rfl, rfl⟩
    · exact ⟨hkept, rfl, rfl⟩
  obtain ⟨hgett, hregs, hportt⟩ := hbits
  refine ⟨_, rfl, (hgett _ (wcStat_ge w)).trans hout, ?_, (hgett _ (wcStat_ge w)).trans hfcnt, ?_, ?_, ?_, hkeeps.of_regs hregs⟩
  · rw [State.bit, hgett _ (wcStat_ge w)]
    exact hhigh
  · rw [rd_congr _ _ _ hregs]
    exact hbit
  · rw [hportt, hport, hportv, hcfg _ rfl]
  · rw [hexit, ← hpulsesv, ← hpulses]
    split
    · rfl
    · exact (List.append_nil _).symm

/-- The status of a comparator that has just returned IN. -/
def inNoted (w : Nat) (s : State) : State := (s.put (SNS_WC_STAT.OUT w) 0).put (SNS_WC_STAT.FCNT w) 0

theorem inNoted_get {w : Nat} (s : State) {f : Fld} (h : f.addr = SNS_WC_CFG w) : (inNoted w s).get f = s.get f :=
  (get_put_reg _ _ _ _ (h ▸ wcCfg_ne_wcStat w)).trans (get_put_reg _ _ _ _ (h ▸ wcCfg_ne_wcStat w))

theorem inNoted_leaves (w : Nat) (z : State) : (inNoted w z).get (SNS_WC_STAT.OUT w) = 0 ∧
    (inNoted w z).get (SNS_WC_STAT.FCNT w) = 0 ∧ z.Frame (inNoted w z) [SNS_WC_STAT.OUT w, SNS_WC_STAT.FCNT w] := by
  refine ⟨?_, get_put_fit _ _ _ rfl, frame_intro (((KeepsBits.refl z).put _ _).put _ _) (by simp) rfl⟩
  exact (get_put_apart _ _ _ _ rfl).trans (get_put_fit _ _ _ rfl)

theorem compReenter_returns {w : Nat} {z : State} (hen : z.get (SNS_WC_CFG.EN w) = 1) (hout : z.get (SNS_WC_STAT.OUT w) = 1)
    (hfull : z.get (SNS_WC_CFG.FILT w) ≤ z.get (SNS_WC_STAT.FCNT w)) : compReenter w z =
      if (inNoted w z).bit (SNS_WC_CFG.REENTRY w) then compReport w (inNoted w z) else inNoted w z :=
  if_pos ⟨bit_of_get hen, bit_of_get hout, hfull⟩

theorem compReenter_leaves {w : Nat} {z : State} (hen : z.get (SNS_WC_CFG.EN w) = 1) (hout : z.get (SNS_WC_STAT.OUT w) = 1)
    (hfull : z.get (SNS_WC_CFG.FILT w) ≤ z.get (SNS_WC_STAT.FCNT w)) : ∃ t, t = compReenter w z ∧
      t.get (SNS_WC_STAT.OUT w) = 0 ∧ t.get (SNS_WC_STAT.FCNT w) = 0 ∧
      (z.get (SNS_WC_CFG.REENTRY w) = 0 → z.Frame t [SNS_WC_STAT.OUT w, SNS_WC_STAT.FCNT w]) ∧
      (z.get (SNS_WC_CFG.REENTRY w) = 1 → t.pst.port = z.pst.port ++ [32 * kSNS + z.get (SNS_WC_CFG.ROUTE w)]) := by
  obtain ⟨v, hv⟩ : ∃ v, v = inNoted w z := ⟨_, rfl⟩
  obtain ⟨hin, hfcnt, hframe⟩ := hv ▸ inNoted_leaves w z
  obtain ⟨-, hport, -, hreport⟩ := compReport_leaves w v
  have hportv : v.pst.port = z.pst.port := hv ▸ rfl
  have hcfg : ∀ f, f.addr = SNS_WC_CFG w → v.get f = z.get f := fun f hf => hv ▸ inNoted_get z hf
  have hkept : ∀ f, f.addr = SNS_WC_STAT w → (compReport w v).get f = v.get f := fun f hf => hreport.get f fun g hg => .inl (by
    rw [List.mem_singleton.mp hg, hf]
    exact wcReg_ne_wevtReg (wcStat_ge w))
  have hreturn : compReenter w z = if z.get (SNS_WC_CFG.REENTRY w) = 1 then compReport w v else v := by
    rw [compReenter_returns hen hout hfull, ← hv, bit_eq_one rfl, hcfg _ rfl]
    simp only [decide_eq_true_eq]
  by_cases hroute : z.get (SNS_WC_CFG.REENTRY w) = 1
  · rw [if_pos hroute] at hreturn
    refine ⟨_, hreturn.symm, (hkept _ rfl).trans hin, (hkept _ rfl).trans hfcnt, fun h => absurd (hroute.symm.trans h) (by decide),
      fun _ => ?_⟩
    rw [hport, hportv, hcfg _ rfl]
  · rw [if_neg hroute] at hreturn
    exact ⟨_, hreturn.symm, hin, hfcnt, fun _ => hframe, fun h => absurd h hroute⟩

theorem compWindows_leaves {w x k : Nat} {s : State} (hwin : (s.scomp w).win ≠ 0)
    (hk : k = x / (800 * (s.scomp w).win) - (s.scomp w).since / (800 * (s.scomp w).win)) : ∃ t, t = compWindows w x s ∧
      (t.scomp w).since = x ∧ (k = 0 → (t.scomp w).duty = (s.scomp w).duty ∧ t.regs = s.regs) ∧
      (k = 1 → t.get (SNS_WC_STAT.DUTY w) = min (s.scomp w).duty 0xFFFF ∧ (t.scomp w).duty = 0) ∧
      (1 < k → t.get (SNS_WC_STAT.DUTY w) = 0 ∧ (t.scomp w).duty = 0) ∧ s.KeepsBits t [SNS_WC_STAT.DUTY w] := by
  obtain ⟨z, hz⟩ : ∃ z, z = if k = 0 then s else s.put (SNS_WC_STAT.DUTY w) (if k = 1 then min (s.scomp w).duty 0xFFFF else 0) :=
    ⟨_, rfl⟩
  have hwindows : compWindows w x s = z.setScomp w { s.scomp w with duty := if k = 0 then (s.scomp w).duty else 0, since := x } := by
    unfold compWindows
    dsimp only
    rw [if_neg hwin, ← hk, ← hz]
  have hkeeps : s.KeepsBits z [SNS_WC_STAT.DUTY w] := by
    rw [hz]
    split
    · exact (KeepsBits.refl s).mono (by simp)
    · exact (KeepsBits.refl s).put _ _
  have hduty : k ≠ 0 → z.get (SNS_WC_STAT.DUTY w) = if k = 1 then min (s.scomp w).duty 0xFFFF else 0 := fun h => by
    rw [hz, if_neg h, get_put_cut _ _ _ rfl]
    refine Nat.mod_eq_of_lt (show _ < 65536 from ?_)
    split
    · exact (min_le_right _ _).trans_lt (by decide)
    · decide
  rw [hwindows]
  refine ⟨_, rfl, ?_, fun h => ⟨?_, ?_⟩, fun h => ⟨?_, ?_⟩, fun h => ⟨?_, ?_⟩, hkeeps.of_regs rfl⟩
  · rw [scomp_setScomp_same]
  · rw [scomp_setScomp_same]
    exact if_pos h
  · exact (show z.regs = s.regs by rw [hz, if_pos h])
  · rw [setScomp_get, hduty (by omega), if_pos h]
  · rw [scomp_setScomp_same]
    exact if_neg (by omega)
  · rw [setScomp_get, hduty (by omega), if_neg (by omega)]
  · rw [scomp_setScomp_same]
    exact if_neg (by omega)

theorem compTo_same {w x : Nat} {s : State} (hx : (s.scomp w).since < x) (hwin : s.get (SNS_WC_WIN.WIN w) = (s.scomp w).win) :
    compTo w x s = compWindows w x s :=
  (if_neg (Nat.not_le.mpr hx)).trans (if_pos hwin)

/-- The register of comparator w that a configuration write names. -/
def compReg (w : Nat) (band : Bool) : Nat := if band then SNS_WC_BAND w else SNS_WC_CFG w

/-- The written word after the band rule (R456). -/
def bandRuled (w : Nat) (band : Bool) (s u : State) : State :=
  if band then u.wr (SNS_WC_BAND w) (s.rd (SNS_WC_BAND w)) else u.put (SNS_WC_CFG.HYST w) (s.get (SNS_WC_CFG.HYST w))

theorem compWrite_obeyed {w : Nat} {band : Bool} {v : Word} {s u : State} (hu : u = storeReg (compReg w band) v s)
    (h : u.get (SNS_WC_BAND.LO w) + 2 * u.get (SNS_WC_CFG.HYST w) ≤ u.get (SNS_WC_BAND.HI w)) : compWrite w band v s = inNoted w u := by
  subst hu
  exact congrArg (inNoted w) (if_neg (by rintro (h' | h') <;> exact absurd h (by unfold compReg; omega)))

theorem compWrite_broken {w : Nat} {band : Bool} {v : Word} {s u : State} (hu : u = storeReg (compReg w band) v s)
    (h : u.get (SNS_WC_BAND.HI w) < u.get (SNS_WC_BAND.LO w) + 2 * u.get (SNS_WC_CFG.HYST w)) :
    compWrite w band v s = inNoted w (bandRuled w band s u) := by
  subst hu
  exact congrArg (inNoted w) (if_pos (.inr h))

theorem wcBand_ne_wcCfg (w : Nat) : SNS_WC_BAND w ≠ SNS_WC_CFG w := by
  unfold SNS_WC_BAND SNS_WC_CFG
  omega

theorem wcBand_ne_wcStat (w : Nat) : SNS_WC_BAND w ≠ SNS_WC_STAT w := by
  unfold SNS_WC_BAND SNS_WC_STAT
  omega

/-- Of a write that breaks the band rule the old words stay. -/
theorem bandRuled_keeps {w : Nat} {band : Bool} {v : Word} {s u : State} (hu : u = storeReg (compReg w band) v s) :
    (bandRuled w band s u).rd (SNS_WC_BAND w) = s.rd (SNS_WC_BAND w) ∧
      (bandRuled w band s u).get (SNS_WC_CFG.HYST w) = s.get (SNS_WC_CFG.HYST w) := by
  cases band
  · refine ⟨(rd_put_other _ _ _ _ (wcBand_ne_wcCfg w)).trans (hu ▸ storeReg_rd_other (wcBand_ne_wcCfg w) v s), ?_⟩
    exact (get_put_cut _ _ _ rfl).trans (Nat.mod_eq_of_lt (fldGet_lt ..))
  · exact ⟨rd_wr_same .., (get_wr_other _ _ _ _ (wcBand_ne_wcCfg w).symm).trans
      (hu ▸ storeReg_get_other (wcBand_ne_wcCfg w).symm v s)⟩

theorem compWrite_leaves {w : Nat} {band : Bool} {v : Word} {s u : State} (hu : u = storeReg (compReg w band) v s) :
    ∃ t, t = compWrite w band v s ∧ t.get (SNS_WC_STAT.OUT w) = 0 ∧ t.get (SNS_WC_STAT.FCNT w) = 0 ∧
    (u.get (SNS_WC_BAND.LO w) + 2 * u.get (SNS_WC_CFG.HYST w) ≤ u.get (SNS_WC_BAND.HI w) →
      u.Frame t [SNS_WC_STAT.OUT w, SNS_WC_STAT.FCNT w]) ∧
    (u.get (SNS_WC_BAND.HI w) < u.get (SNS_WC_BAND.LO w) + 2 * u.get (SNS_WC_CFG.HYST w) →
      t.rd (SNS_WC_BAND w) = s.rd (SNS_WC_BAND w) ∧ t.get (SNS_WC_CFG.HYST w) = s.get (SNS_WC_CFG.HYST w)) := by
  rcases Nat.lt_or_ge (u.get (SNS_WC_BAND.HI w)) (u.get (SNS_WC_BAND.LO w) + 2 * u.get (SNS_WC_CFG.HYST w)) with h | h
  · obtain ⟨x, hx⟩ : ∃ x, x = bandRuled w band s u := ⟨_, rfl⟩
    obtain ⟨hband, hhyst⟩ := hx ▸ bandRuled_keeps hu
    obtain ⟨hout, hfcnt, hkeeps, -⟩ := inNoted_leaves w x
    refine ⟨_, rfl, ?_⟩
    rw [compWrite_broken hu h, ← hx]
    refine ⟨hout, hfcnt, fun h' => absurd h (Nat.not_lt.mpr h'), fun _ => ⟨?_, (inNoted_get x rfl).trans hhyst⟩⟩
    exact ((rd_put_other _ _ _ _ (wcBand_ne_wcStat w)).trans (rd_put_other _ _ _ _ (wcBand_ne_wcStat w))).trans hband
  · obtain ⟨hout, hfcnt, hframe⟩ := inNoted_leaves w u
    exact ⟨_, (compWrite_obeyed hu h).symm, hout, hfcnt, fun _ => hframe, fun h' => absurd h' (Nat.not_lt.mpr h)⟩

/-- Settles O30: each command clause by clause. The order of a conversion's uses (convReport after senseUse after senseCheck) is log
entry 67; that a pair is compared at its second code is log entry 145. -/
theorem senseCommandsComplete : Obligations.SenseCommandsComplete := by
  refine ⟨?_, ?_, ?_, ?_, ?_, ?_, ?_, ?_, ?_, fun _ _ _ _ _ _ _ _ hpair hne _ hother => pairCheck_counts hpair hne hother, ?_, ?_,
    fun e w s hrun => completes_running rfl hrun rfl ⟨_, rfl, rfl⟩, ?_, ?_, ?_⟩
  · rintro e k raw slot s z rfl hcur - hrun
    obtain ⟨hcode, hseq, hovr, hcount, hfree, hkeeps⟩ := convStore_leaves k.val slot.ch
      ((slotEnd k (s.advanceTo e)).snsCode k raw.toNat) (raw.toNat == 0 || raw.toNat == 16383) (slotEnd k (s.advanceTo e))
    exact completes_running rfl hrun (convComplete_slot hcur) ⟨_, _, _, rfl, rfl, hcode, hseq, hovr, hcount, hfree, hkeeps, rfl⟩
  · intro e k raw s hcur hrun
    exact completes_running rfl hrun (convComplete_idle (by rwa [sconv_adv])) rfl
  · intro req k ch s hp hch hroom
    refine completes_permitted rfl hp (congrArg (urgentWrite k.val · s) (fldGet_channel ch)) ?_
    exact urgentWrite_joins hch hroom
  · intro req k ch s hp
    refine ⟨fun hbad => ?_, fun hch hfull => ?_⟩
    · refine completes_permitted rfl hp ((congrArg (urgentWrite k.val · s) (fldGet_channel ch)).trans (urgentWrite_bad hbad s)) ?_
      exact ⟨get_put_fit _ _ _ rfl, frame_put _ _ _⟩
    · refine completes_permitted rfl hp ((congrArg (urgentWrite k.val · s) (fldGet_channel ch)).trans (urgentWrite_full hch hfull)) ?_
      exact ⟨get_put_fit _ _ _ rfl, frame_put _ _ _⟩
  · intro req k v u s hp hu
    have hstat : SNS_STAT ≠ SNS_CFG k := by
      unfold SNS_STAT SNS_CFG
      omega
    exact completes_permitted rfl hp rfl ⟨snsCfgWrite_same hu, fun h => snsCfgWrite_changed hu h hstat⟩
  · rintro e k x s z rfl hsettle hrun
    exact completes_running rfl hrun rfl ⟨_, rfl, refSettled_at k.isLt hsettle rfl⟩
  · intro e k s hsettle hrun
    exact completes_running rfl hrun (refSettled_none (by rwa [sconv_adv])) rfl
  · intro e p f b s hf hok hdis hrun
    obtain ⟨t, ht, hbit, hblame, hevent, hport, hpulses, hkeeps⟩ :=
      pairNoted_leaves hf (v := 1) (by decide) (pairBlame_lt (s.advanceTo e) p) (s.advanceTo e)
    refine completes_running rfl hrun ((pairFail_fails hf ?_ ?_).trans (congrArg (State.pulse · 14) ht.symm)) ?_
    · rwa [State.advanceTo_get]
    · rwa [State.advanceTo_get, sconv_adv]
    · exact ⟨(get_of_regs rfl f).trans hbit, (get_of_regs rfl b).trans hblame, (get_of_regs rfl _).trans hevent,
        congrArg (· ++ [14]) (hpulses.trans (congrArg CbseSt.pulses (advanceTo_cbse s e))),
        hport.trans (congrArg (fun x => PstSt.port x ++ [32 * kSNS + 8]) (advanceTo_pst s e)),
        (keepsBits_of_adv hkeeps).of_regs rfl⟩
  · intro e p f b s hf hbad hagr hrun
    obtain ⟨t, ht, hbit, hblame, hevent, hport, -, hkeeps⟩ :=
      pairNoted_leaves hf (v := 0) (by decide) (blame := 0) (by decide) (s.advanceTo e)
    refine completes_running rfl hrun ((pairRecover_recovers hf ?_ ?_).trans ht.symm) ?_
    · rwa [State.advanceTo_get]
    · rwa [State.advanceTo_get, sconv_adv]
    · exact ⟨hbit, hblame, hevent, hport.trans (congrArg (fun x => PstSt.port x ++ [32 * kSNS + 8]) (advanceTo_pst s e)),
        keepsBits_of_adv hkeeps⟩
  · intro e w s hen hin hfull hrun
    obtain ⟨t, ht, hout, hhigh, hfcnt, hevent, hport, hpulses, hkeeps⟩ := compExit_leaves (w := w) (z := s.advanceTo e)
      (by rwa [State.advanceTo_get]) (by rwa [State.advanceTo_get]) (by rwa [State.advanceTo_get, State.advanceTo_get])
    rw [scomp_adv] at hhigh
    rw [State.advanceTo_get, advanceTo_pst] at hport
    rw [State.advanceTo_get, advanceTo_cbse] at hpulses
    exact completes_running rfl hrun ht.symm ⟨hout, hhigh, hfcnt, hevent, hport, hpulses, keepsBits_of_adv hkeeps⟩
  · intro e w s hen hout hfull hrun
    obtain ⟨t, ht, hin, hfcnt, hframe, hport⟩ := compReenter_leaves (w := w) (z := s.advanceTo e)
      (by rwa [State.advanceTo_get]) (by rwa [State.advanceTo_get]) (by rwa [State.advanceTo_get, State.advanceTo_get])
    rw [State.advanceTo_get] at hframe
    rw [State.advanceTo_get, State.advanceTo_get, advanceTo_pst] at hport
    exact completes_running rfl hrun ht.symm ⟨hin, hfcnt, hframe, hport⟩
  · intro w x s hx hwin hlen k hk
    rw [compTo_same hx hwin]
    exact compWindows_leaves hlen hk
  · intro req w band v u s hp hu
    obtain ⟨t, ht, hleaves⟩ := compWrite_leaves (w := w) (band := band) (v := v) hu
    exact completes_permitted rfl hp ht.symm hleaves
  · intro req v s hp
    refine completes_permitted rfl hp rfl ⟨fun h => if_neg (by rw [h]; exact Bool.false_ne_true), fun h => ?_⟩
    rw [show testCurrentWrite v s = s.put SNS_EVT.URG_BAD 1 from if_pos h]
    exact ⟨get_put_fit _ _ _ rfl, frame_put _ _ _⟩

end Sys2Proof.Machine

/-! PROOFS of Coupler's policies (spec/12_coupler.md). What envelope points, emergency caps, co-capping messages and enabling leave. -/

namespace Sys2Proof.Machine

open State

/-! ### Messages and events of Coupler (R401, R429) -/

theorem cplrSend_kept (x : Nat) (ws : List Word) (s : State) :
    (cplrSend x ws s).now = s.now ∧ (cplrSend x ws s).regs = s.regs ∧ (cplrSend x ws s).cplr = s.cplr := by
  unfold cplrSend
  split <;> exact ⟨rfl, rfl, rfl⟩

theorem cplrSendDown_kept (ws : List Word) (s : State) :
    (cplrSendDown ws s).now = s.now ∧ (cplrSendDown ws s).regs = s.regs ∧ (cplrSendDown ws s).cplr = s.cplr :=
  ⟨each_field (·.now) _ _ _ fun s x => (cplrSend_kept x ws s).1, each_field (·.regs) _ _ _ fun s x => (cplrSend_kept x ws s).2.1,
    each_field (·.cplr) _ _ _ fun s x => (cplrSend_kept x ws s).2.2⟩

/-- Two flags of CPLR_EVT set at once, and the ring of their source. -/
theorem cplrFlags_leave {f g : Fld} {off : Nat} (h : (decide (g.hi < f.lo) || decide (f.hi < g.lo)) = true) (hf : f.hi = f.lo ∧ f.hi < 32)
    (hg : g.hi = g.lo ∧ g.hi < 32) (s : State) :
    (cplrEvent g off (s.put f 1)).get f = 1 ∧ (cplrEvent g off (s.put f 1)).get g = 1 ∧
      (cplrEvent g off (s.put f 1)).pst.port = s.pst.port ++ [32 * kCPLR + off] ∧
      s.KeepsBits (cplrEvent g off (s.put f 1)) [f, g] := by
  obtain ⟨u, hu⟩ : ∃ u, u = (s.put f 1).put g 1 := ⟨_, rfl⟩
  have hring : cplrEvent g off (s.put f 1) = u.ring kCPLR off := hu ▸ rfl
  have hport : u.pst.port = s.pst.port := hu ▸ rfl
  have hkeeps : s.KeepsBits u [g, f] := hu ▸ ((KeepsBits.refl s).put _ _).put _ _
  rw [hring]
  refine ⟨?_, ?_, congrArg (· ++ [32 * kCPLR + off]) hport, (hkeeps.mono (by simp)).of_regs rfl⟩
  · rw [ring_get, hu, get_put_apart _ _ _ _ h, get_put_one _ _ hf.1.ge hf.2]
  · rw [ring_get, hu, get_put_one _ _ hg.1.ge hg.2]

theorem cplrOvf_leaves {f : Fld} (h : f = CPLR_EVT.AGG_OVF ∨ f = CPLR_EVT.EM_OVF ∨ f = CPLR_EVT.RW_OVF) (s : State) :
    (cplrOvf f s).get f = 1 ∧ (cplrOvf f s).get CPLR_EVT.OVF = 1 ∧ (cplrOvf f s).pst.port = s.pst.port ++ [32 * kCPLR + 6] ∧
      s.KeepsBits (cplrOvf f s) [f, CPLR_EVT.OVF] := by
  rcases h with rfl | rfl | rfl <;> exact cplrFlags_leave rfl ⟨rfl, by decide⟩ ⟨rfl, by decide⟩ s

theorem cplrCfg_leaves (s : State) : (cplrCfg CPLR_EVT.CFG_ERR s).get CPLR_EVT.CFG_ERR = 1 ∧
    (cplrCfg CPLR_EVT.CFG_ERR s).get CPLR_EVT.CFG = 1 ∧ (cplrCfg CPLR_EVT.CFG_ERR s).pst.port = s.pst.port ++ [32 * kCPLR + 7] ∧
    s.KeepsBits (cplrCfg CPLR_EVT.CFG_ERR s) [CPLR_EVT.CFG_ERR, CPLR_EVT.CFG] :=
  cplrFlags_leave rfl ⟨rfl, by decide⟩ ⟨rfl, by decide⟩ s

/-- A message on an endpoint of its role does what its reception does, then the groups' rates follow. -/
theorem completes_received {i : Instr} {e : Dword} {x r : Nat} {f : State → State} {s u : State} {post : State → Prop}
    (hexec : exec i s = .next (cplrReceive e x r f s)) (hon : s.get CPLR_CTRL.EN = 1) (hrole : s.epRole x = r)
    (hrun : s.rst.inst = false) (hact : f (s.advanceTo e) = u) (hpost : post (reinAll u)) : Completes i s post :=
  ⟨_, hexec.trans (congrArg _ ((cplrReceive_acts hon hrole hrun).trans (congrArg reinAll hact))), hpost⟩

/-! ### Envelope points (R411, R412, R415) -/

theorem envTake_eq {p : EnvPoint} {s u : State} (hu : u = cplrSendDown (s.envMessage p) s) (hnow : u.now = s.now) :
    (800000 * p.epoch ≤ s.now → envTake p s = envCurrent p u) ∧
      (s.now < 800000 * p.epoch → envTake p s = { u with cplr := { u.cplr with env := (envInsert p u.cplr.env).take 4 } }) := by
  rw [← hnow, hu]
  exact ⟨fun h => if_pos h, fun h => if_neg (Nat.not_le.mpr h)⟩

theorem envCurrent_leaves (p : EnvPoint) (s : State) : (envCurrent p s).get CPLR_ENV_CUR.VALID = 1 ∧
    (envCurrent p s).get CPLR_ENV_CUR.FRAC = p.frac % 65536 ∧ (envCurrent p s).bit CPLR_ENV_CUR.FLEET = p.fleet ∧
    (envCurrent p s).get CPLR_EVT.ENV = 1 ∧ (envCurrent p s).cplr = { s.cplr with envEpoch := p.epoch } ∧
    (envCurrent p s).pst.port = s.pst.port ++ [32 * kCPLR + 5] ∧
    s.KeepsBits (envCurrent p s) [CPLR_ENV_CUR.VALID, CPLR_ENV_CUR.FRAC, CPLR_ENV_CUR.FLEET, CPLR_EVT.ENV] := by
  obtain ⟨x, hx⟩ : ∃ x, x = ((s.put CPLR_ENV_CUR.VALID 1).put CPLR_ENV_CUR.FLEET p.fleet.toNat).put CPLR_ENV_CUR.FRAC p.frac :=
    ⟨_, rfl⟩
  obtain ⟨y, hy⟩ : ∃ y, y = { x with cplr := { s.cplr with envEpoch := p.epoch } } := ⟨_, rfl⟩
  obtain ⟨u, hu⟩ : ∃ u, u = y.put CPLR_EVT.ENV 1 := ⟨_, rfl⟩
  have hring : envCurrent p s = u.ring kCPLR 5 := by
    rw [hu, hy, hx]
    rfl
  have hcur : ∀ f, f.addr = CPLR_ENV_CUR → u.get f = x.get f := fun f hf => by
    rw [hu, get_put_reg _ _ _ _ (by rw [hf]; decide), hy, get_with_cplr]
  have hcplr : u.cplr = { s.cplr with envEpoch := p.epoch } := by
    rw [hu, put_cplr, hy]
  have hport : u.pst.port = s.pst.port := by
    rw [hu, hy, hx]
    rfl
  have hkeeps : s.KeepsBits u [CPLR_EVT.ENV, CPLR_ENV_CUR.FRAC, CPLR_ENV_CUR.FLEET, CPLR_ENV_CUR.VALID] := by
    have hx' : s.KeepsBits x [CPLR_ENV_CUR.FRAC, CPLR_ENV_CUR.FLEET, CPLR_ENV_CUR.VALID] :=
      hx ▸ (((KeepsBits.refl s).put _ _).put _ _).put _ _
    exact hu ▸ (hx'.of_regs (hy ▸ rfl : y.regs = x.regs)).put _ _
  rw [hring]
  refine ⟨?_, ?_, ?_, ?_, hcplr, congrArg (· ++ [32 * kCPLR + 5]) hport, (hkeeps.mono ?_).of_regs rfl⟩
  · rw [ring_get, hcur _ rfl, hx, get_put_apart _ _ _ _ rfl, get_put_apart _ _ _ _ rfl, get_put_fit _ _ _ rfl]
  · rw [ring_get, hcur _ rfl, hx, get_put_cut _ _ _ rfl]
    rfl
  · rw [State.bit, ring_get, hcur _ rfl, hx, get_put_apart _ _ _ _ rfl, get_put_cut _ _ _ rfl]
    cases p.fleet <;> rfl
  · rw [ring_get, hu, get_put_fit _ _ _ rfl]
  · intro f hf
    simp only [List.mem_cons, List.not_mem_nil, or_false] at hf ⊢
    tauto

theorem mem_envInsert_self (p : EnvPoint) (l : List EnvPoint) : p ∈ envInsert p l := by
  induction l with
  | nil => exact List.mem_singleton.mpr rfl
  | cons a l ih =>
    unfold envInsert
    split_ifs
    · exact List.mem_singleton.mpr rfl
    · exact List.mem_cons_self ..
    · exact List.mem_cons_of_mem _ ih

theorem of_mem_envInsert {p q : EnvPoint} {l : List EnvPoint} (h : q ∈ envInsert p l) : q = p ∨ q ∈ l := by
  induction l with
  | nil => exact .inl (List.mem_singleton.mp h)
  | cons a l ih =>
    unfold envInsert at h
    split_ifs at h
    · exact .inl (List.mem_singleton.mp h)
    · exact List.mem_cons.mp h
    · rcases List.mem_cons.mp h with rfl | h
      · exact .inr (List.mem_cons_self ..)
      · exact (ih h).imp_right (List.mem_cons_of_mem _)

/-- A pending list stays in rising order of epochs (R412). -/
theorem envInsert_pairwise (p : EnvPoint) {l : List EnvPoint} (h : l.Pairwise fun a b => a.epoch < b.epoch) :
    (envInsert p l).Pairwise fun a b => a.epoch < b.epoch := by
  induction l with
  | nil => exact List.pairwise_singleton ..
  | cons a l ih =>
    obtain ⟨hfirst, hrest⟩ := List.pairwise_cons.mp h
    unfold envInsert
    split_ifs with heq hlt
    · exact List.pairwise_singleton ..
    · refine List.pairwise_cons.mpr ⟨fun q hq => ?_, h⟩
      rcases List.mem_cons.mp hq with rfl | hq
      · exact hlt
      · exact hlt.trans (hfirst q hq)
    · refine List.pairwise_cons.mpr ⟨fun q hq => ?_, ih hrest⟩
      rcases of_mem_envInsert hq with rfl | hq
      · omega
      · exact hfirst q hq

/-- Points before the new one stay. -/
theorem mem_envInsert_before {p q : EnvPoint} {l : List EnvPoint} (h : l.Pairwise fun a b => a.epoch < b.epoch) (hq : q ∈ l)
    (hlt : q.epoch < p.epoch) : q ∈ envInsert p l := by
  induction l with
  | nil => exact absurd hq List.not_mem_nil
  | cons a l ih =>
    obtain ⟨hfirst, hrest⟩ := List.pairwise_cons.mp h
    have hle : a.epoch ≤ q.epoch := by
      rcases List.mem_cons.mp hq with rfl | hq
      · exact le_rfl
      · exact (hfirst q hq).le
    unfold envInsert
    rw [if_neg (by omega), if_neg (by omega)]
    rcases List.mem_cons.mp hq with rfl | hq
    · exact List.mem_cons_self ..
    · exact List.mem_cons_of_mem _ (ih hrest hq)

/-- A point for the epoch of a pending one takes the place of it and of all later ones (R412). -/
theorem envInsert_replaces {p : EnvPoint} {l : List EnvPoint} (h : l.Pairwise fun a b => a.epoch < b.epoch)
    (heq : ∃ q ∈ l, q.epoch = p.epoch) : ∀ q ∈ envInsert p l, q.epoch ≤ p.epoch := by
  induction l with
  | nil => exact fun q hq => (congrArg EnvPoint.epoch (List.mem_singleton.mp hq)).le
  | cons a l ih =>
    obtain ⟨hfirst, hrest⟩ := List.pairwise_cons.mp h
    obtain ⟨x, hx, hxp⟩ := heq
    intro q hq
    unfold envInsert at hq
    rcases List.mem_cons.mp hx with rfl | hx
    · rw [if_pos hxp] at hq
      exact (congrArg EnvPoint.epoch (List.mem_singleton.mp hq)).le
    · have hbefore := hfirst x hx
      rw [if_neg (by omega), if_neg (by omega)] at hq
      rcases List.mem_cons.mp hq with rfl | hq
      · omega
      · exact ih hrest ⟨x, hx, hxp⟩ q hq

/-- The end of an envelope window before its error is written: VALID, CONSTR, and the sums cleared. -/
def windowCleared (s : State) : State :=
  { (s.put CPLR_ENV_ERR.VALID 1).putB CPLR_ENV_ERR.CONSTR s.cplr.winOk with
    cplr := { s.cplr with envAt := s.now, winM := 0, winT := 0, winOk := true } }

/-- The error of an envelope window with sums m and n. -/
def windowErred (m n : Nat) (s : State) : State :=
  if n = 0 then s.drawFree.2.put CPLR_ENV_ERR.ERR (s.drawFree.1.toNat % 65536)
  else
    let r := s.roundOpen (((m : Int) - 10 * n) * 10000) (10 * n)
    if -32768 ≤ r.1 ∧ r.1 ≤ 32767 then r.2.putI CPLR_ENV_ERR.ERR r.1
    else r.2.drawFree.2.put CPLR_ENV_ERR.ERR (r.2.drawFree.1.toNat % 65536)

theorem envWindowEnd_root {u : State} (h : u.inst = 0) :
    envWindowEnd u = windowErred u.cplr.winM u.cplr.winT (windowCleared u) :=
  if_neg (not_not.mpr h)

theorem envWindowEnd_other {u : State} (h : u.inst ≠ 0) :
    envWindowEnd u = { u with cplr := { u.cplr with envAt := u.now } } :=
  if_pos h

theorem roundOpen_cplr (s : State) (a : Int) (b : Nat) : (s.roundOpen a b).2.cplr = s.cplr := by
  unfold roundOpen
  dsimp only
  split <;> rfl

/-- Whatever the sums, only ERR is written. -/
theorem windowErred_writes (m n : Nat) (s : State) :
    ∃ (y : State) (v : Nat), windowErred m n s = y.put CPLR_ENV_ERR.ERR v ∧ y.regs = s.regs ∧ y.cplr = s.cplr := by
  unfold windowErred
  dsimp only
  split_ifs
  · exact ⟨_, _, rfl, rfl, rfl⟩
  · exact ⟨_, _, rfl, (roundOpen_kept ..).2, roundOpen_cplr ..⟩
  · exact ⟨_, _, rfl, (roundOpen_kept ..).2, roundOpen_cplr ..⟩

theorem windowErred_matching {m n : Nat} (hpos : 0 < n) (hmatch : m = 10 * n) (s : State) :
    (windowErred m n s).getI CPLR_ENV_ERR.ERR = 0 := by
  have hzero : ((m : Int) - 10 * n) * 10000 = 0 := by
    rw [hmatch]
    push_cast
    ring
  have hround : s.roundOpen 0 (10 * n) = (0, s) := by
    unfold roundOpen floorDiv
    rw [Int.zero_fdiv]
    exact if_pos (Int.zero_mul _)
  unfold windowErred
  rw [if_neg hpos.ne', hzero, hround]
  dsimp only
  rw [if_pos (by decide), getI, putI, get_put_cut _ _ _ rfl]
  rfl

theorem windowCleared_leaves (s : State) : (windowCleared s).get CPLR_ENV_ERR.VALID = 1 ∧
    (windowCleared s).bit CPLR_ENV_ERR.CONSTR = s.cplr.winOk ∧
    s.KeepsBits (windowCleared s) [CPLR_ENV_ERR.CONSTR, CPLR_ENV_ERR.VALID] := by
  obtain ⟨x, hx⟩ : ∃ x, x = (s.put CPLR_ENV_ERR.VALID 1).put CPLR_ENV_ERR.CONSTR s.cplr.winOk.toNat := ⟨_, rfl⟩
  have hregs : (windowCleared s).regs = x.regs := hx ▸ rfl
  have hkeeps : s.KeepsBits x [CPLR_ENV_ERR.CONSTR, CPLR_ENV_ERR.VALID] := hx ▸ ((KeepsBits.refl s).put _ _).put _ _
  refine ⟨?_, ?_, hkeeps.of_regs hregs⟩
  · rw [get_of_regs hregs, hx, get_put_apart _ _ _ _ rfl, get_put_fit _ _ _ rfl]
  · rw [State.bit, get_of_regs hregs, hx, get_put_cut _ _ _ rfl]
    cases s.cplr.winOk <;> rfl

theorem envWindowEnd_leaves {u : State} (h : u.inst = 0) : (envWindowEnd u).get CPLR_ENV_ERR.VALID = 1 ∧
    (envWindowEnd u).bit CPLR_ENV_ERR.CONSTR = u.cplr.winOk ∧
    (envWindowEnd u).cplr = { u.cplr with envAt := u.now, winM := 0, winT := 0, winOk := true } ∧
    u.KeepsBits (envWindowEnd u) [CPLR_ENV_ERR.VALID, CPLR_ENV_ERR.CONSTR, CPLR_ENV_ERR.ERR] := by
  obtain ⟨z, hz⟩ : ∃ z, z = windowCleared u := ⟨_, rfl⟩
  have hcplr : z.cplr = { u.cplr with envAt := u.now, winM := 0, winT := 0, winOk := true } := hz ▸ rfl
  obtain ⟨hvalid, hconstr, hkeeps⟩ := hz ▸ windowCleared_leaves u
  obtain ⟨y, v, hput, hregs, hsame⟩ := windowErred_writes u.cplr.winM u.cplr.winT z
  rw [envWindowEnd_root h, ← hz, hput]
  refine ⟨?_, ?_, hsame.trans hcplr, ((hkeeps.of_regs hregs).put _ _).mono ?_⟩
  · rw [get_put_apart _ _ _ _ rfl, get_of_regs hregs, hvalid]
  · rw [State.bit, get_put_apart _ _ _ _ rfl, get_of_regs hregs]
    exact hconstr
  · intro f hf
    simp only [List.mem_cons, List.not_mem_nil, or_false] at hf ⊢
    tauto

theorem envIssue_root {v : Word} {s : State} (h : s.isRoot = true) :
    envIssue v s = envTake ⟨s.epochOf (s.get CPLR_ENV_ISSUE_E.E), fldGet v 15 0, v.getLsbD 16⟩ s := by
  have hbit : (fldGet v 16 16 == 1) = v.getLsbD 16 := by
    rw [fldGet_bit]
    cases v.getLsbD 16 <;> rfl
  rw [← hbit]
  exact if_pos h

theorem envIssue_other {v : Word} {s : State} (h : s.isRoot = false) : envIssue v s = cplrCfg CPLR_EVT.CFG_ERR s :=
  if_neg (by rw [h]; exact Bool.false_ne_true)

/-! ### Emergency caps (R422 to R424) -/

theorem foldl_min_le (l : List Nat) (a : Nat) : l.foldl min a ≤ a := by
  induction l generalizing a with
  | nil => exact le_rfl
  | cons x l ih => exact (ih _).trans (min_le_left ..)

theorem emEntries_length (s : State) : s.emEntries.length ≤ 4 := List.length_filter_le ..

/-- With the least rate as before only the count is written anew. -/
theorem emRefresh_same {s : State} {rate : Nat} (hrate : rate = (s.emEntries.map fun i => s.get (CPLR_EM_TAB1.RATE i)).foldl min 64)
    (hsame : s.get CPLR_EM_STAT.RATE = rate) :
    emRefresh s = (s.put CPLR_EM_STAT.NENT s.emEntries.length).put CPLR_EM_STAT.RATE rate := by
  unfold emRefresh
  dsimp only
  rw [← hrate]
  exact if_pos hsame.symm

theorem emRefresh_leaves {s : State} {rate : Nat} (hrate : rate = (s.emEntries.map fun i => s.get (CPLR_EM_TAB1.RATE i)).foldl min 64)
    (hsame : s.get CPLR_EM_STAT.RATE = rate) : (emRefresh s).get CPLR_EM_STAT.NENT = s.emEntries.length ∧
      (emRefresh s).get CPLR_EM_STAT.RATE = rate ∧ s.Frame (emRefresh s) [CPLR_EM_STAT.NENT, CPLR_EM_STAT.RATE] := by
  have hlength := emEntries_length s
  have hle : rate ≤ 64 := hrate ▸ foldl_min_le ..
  rw [emRefresh_same hrate hsame]
  refine ⟨?_, ?_, frame_intro (((KeepsBits.refl s).put _ _).put _ _) (by simp) rfl⟩
  · rw [get_put_apart _ _ _ _ rfl, get_put_cut _ _ _ rfl]
    exact Nat.mod_eq_of_lt (show _ < 8 by omega)
  · rw [get_put_cut _ _ _ rfl]
    exact Nat.mod_eq_of_lt (show _ < 128 by omega)

/-- A message of an issuer with an entry: a newer sequence number replaces or removes it, any other leaves it (R424). -/
theorem emApply_known {is sq r ex i : Nat} {s u : State} (hu : u = s.c0Touch)
    (hfind : (u.emEntries.find? fun i => u.get (CPLR_EM_TAB0.ISSUER i) == is) = some i) :
    emApply is sq r ex s = emRefresh (if 1 ≤ (sq + 65536 - u.get (CPLR_EM_TAB1.SEQ i)) % 65536 ∧
      (sq + 65536 - u.get (CPLR_EM_TAB1.SEQ i)) % 65536 ≤ 32767 then (if r = 64 then emDrop i u else emPut i is sq r ex u) else u) := by
  unfold emApply
  dsimp only
  rw [← hu, hfind]

/-- A message of a new issuer takes the first free entry (R424). -/
theorem emApply_enters {is sq r ex i : Nat} {s u : State} (hu : u = s.c0Touch)
    (hfind : (u.emEntries.find? fun i => u.get (CPLR_EM_TAB0.ISSUER i) == is) = none) (hr : r ≠ 64)
    (hfree : ((List.range 4).find? fun i => !u.bit (CPLR_EM_TAB0.VALID i)) = some i) :
    emApply is sq r ex s = emRefresh (emPut i is sq r ex u) := by
  unfold emApply
  dsimp only
  rw [← hu, hfind]
  dsimp only
  rw [if_neg hr, hfree]

/-- With no free entry it overflows, and takes the place of a larger rate (R424). -/
theorem emApply_overflows {is sq r ex : Nat} {s u : State} (hu : u = s.c0Touch)
    (hfind : (u.emEntries.find? fun i => u.get (CPLR_EM_TAB0.ISSUER i) == is) = none) (hr : r ≠ 64)
    (hfull : ((List.range 4).find? fun i => !u.bit (CPLR_EM_TAB0.VALID i)) = none) :
    emApply is sq r ex s = emRefresh (cplrOvf CPLR_EVT.EM_OVF
      (if r < u.get (CPLR_EM_TAB1.RATE u.emVictim) then emPut u.emVictim is sq r ex u else u)) := by
  unfold emApply
  dsimp only
  rw [← hu, hfind]
  dsimp only
  rw [if_neg hr, hfull]

theorem emTab_apart (i : Nat) :
    CPLR_EM_TAB0 i ≠ CPLR_EM_TAB1 i ∧ CPLR_EM_TAB0 i ≠ CPLR_EM_TAB2 i ∧ CPLR_EM_TAB1 i ≠ CPLR_EM_TAB2 i := by
  unfold CPLR_EM_TAB0 CPLR_EM_TAB1 CPLR_EM_TAB2
  omega

theorem emPut_leaves {i is sq r ex : Nat} (s : State) (his : is < 2 ^ 17) (hsq : sq < 65536) (hr : r < 128) (hex : ex < 2 ^ 32) :
    (emPut i is sq r ex s).get (CPLR_EM_TAB0.VALID i) = 1 ∧ (emPut i is sq r ex s).get (CPLR_EM_TAB0.ISSUER i) = is ∧
      (emPut i is sq r ex s).get (CPLR_EM_TAB1.SEQ i) = sq ∧ (emPut i is sq r ex s).get (CPLR_EM_TAB1.RATE i) = r ∧
      (emPut i is sq r ex s).get (CPLR_EM_TAB2.EXPIRE i) = ex ∧
      s.Frame (emPut i is sq r ex s) [CPLR_EM_TAB0.VALID i, CPLR_EM_TAB0.ISSUER i, CPLR_EM_TAB1.SEQ i, CPLR_EM_TAB1.RATE i,
        CPLR_EM_TAB2.EXPIRE i] := by
  obtain ⟨h01, h02, h12⟩ := emTab_apart i
  unfold emPut
  refine ⟨?_, ?_, ?_, ?_, ?_, frame_intro (((((KeepsBits.refl s).put _ _).put _ _).put _ _).put _ _ |>.put _ _) ?_ rfl⟩
  · rw [get_put_reg _ _ _ _ h02, get_put_reg _ _ _ _ h01, get_put_reg _ _ _ _ h01, get_put_apart _ _ _ _ rfl, get_put_fit _ _ _ rfl]
  · rw [get_put_reg _ _ _ _ h02, get_put_reg _ _ _ _ h01, get_put_reg _ _ _ _ h01, get_put_cut _ _ _ rfl]
    exact Nat.mod_eq_of_lt his
  · rw [get_put_reg _ _ _ _ h12, get_put_apart _ _ _ _ rfl, get_put_cut _ _ _ rfl]
    exact Nat.mod_eq_of_lt hsq
  · rw [get_put_reg _ _ _ _ h12, get_put_cut _ _ _ rfl]
    exact Nat.mod_eq_of_lt hr
  · rw [get_put_cut _ _ _ rfl]
    exact Nat.mod_eq_of_lt hex
  · intro f hf
    simp only [List.mem_cons, List.not_mem_nil, or_false] at hf ⊢
    tauto

theorem emDrop_invalid (i : Nat) (s : State) : (emDrop i s).get (CPLR_EM_TAB0.VALID i) = 0 := by
  obtain ⟨h01, h02, -⟩ := emTab_apart i
  have hrd : (emDrop i s).rd (CPLR_EM_TAB0 i) = 0 := by
    rw [emDrop, rd_wr_other _ _ _ _ h02, rd_wr_other _ _ _ _ h01, rd_wr_same]
  exact congrArg (fldGet · 31 31) hrd

theorem emIssue_ignored {v : Word} {s : State} (h : fldGet v 6 0 = 0 ∨ 64 < fldGet v 6 0) : emIssue v s = s := if_pos h

theorem emIssue_issues {v : Word} {s u : State} {w : Nat} (hlo : 1 ≤ fldGet v 6 0) (hhi : fldGet v 6 0 ≤ 64)
    (hu : u = emApply s.memberId ((s.cplr.emSeq + 1) % 65536) (fldGet v 6 0) w
      { s with cplr := { s.cplr with emSeq := (s.cplr.emSeq + 1) % 65536 } })
    (hw : w = if fldGet v 31 16 = 0 then 0 else (s.epoch + fldGet v 31 16) % 2 ^ 32) :
    emIssue v s = cplrSendDown (u.emMessage u.memberId ((s.cplr.emSeq + 1) % 65536) (fldGet v 6 0) w) u := by
  unfold emIssue
  dsimp only
  rw [if_neg (by omega), ← hw, ← hu]

/-! ### Co-capping (R418 to R421) -/

/-- A contribution for a GID that the table lacks enters it, or overflows (R419). -/
theorem aggPut_new {gid k r : Nat} {s : State} (h : (s.cplr.agg.any fun a => a.gid == gid) = false) (hr : r ≠ 64) :
    aggPut gid k r s = if s.cplr.agg.length < 256 then
      aggReport gid r { s with cplr := { s.cplr with agg := s.cplr.agg ++ [⟨gid, [(k, r)], r, none⟩] } }
      else cplrOvf CPLR_EVT.AGG_OVF s := by
  unfold aggPut
  dsimp only
  rw [h, if_neg Bool.false_ne_true, if_neg hr]

theorem cocapSlot_waits {x r ep : Nat} {s u : State} {ps : List (Nat × Nat)} (hu : u = s.put (CPLR_GRP_STAT.RG x) r)
    (hps : ps = pairInsert r ep (s.cslot x).pairs) (hlater : s.now < 800000 * ep) :
    cocapSlot x r ep s = if 4 < ps.length then cplrOvf CPLR_EVT.AGG_OVF (u.setCslot x { s.cslot x with pairs := ps.take 4 })
      else u.setCslot x { s.cslot x with pairs := ps.take 4 } := by
  have hnow : u.now = s.now := hu ▸ rfl
  have hslot : u.cslot x = s.cslot x := hu ▸ rfl
  unfold cocapSlot
  dsimp only
  rw [← hu, hnow, hslot, ← hps]
  exact if_neg (Nat.not_le.mpr hlater)

theorem cocapSlot_late {x r ep : Nat} {s u : State} (hu : u = putGrate x r (s.put (CPLR_GRP_STAT.RG x) r)) (hpast : 800000 * ep ≤ s.now) :
    (cocapSlot x r ep s).get (CPLR_GRP_STAT.LATE x) = 1 ∧
      u.KeepsBits (cocapSlot x r ep s) [CPLR_GRP_STAT.LATE x, CPLR_CNT.CC_LATE] := by
  have hlate : cocapSlot x r ep s = (u.put (CPLR_GRP_STAT.LATE x) 1).incSat CPLR_CNT.CC_LATE := by
    subst hu
    exact if_pos hpast
  have happart : CPLR_GRP_STAT x ≠ CPLR_CNT := by
    unfold CPLR_GRP_STAT CPLR_CNT
    omega
  rw [hlate]
  refine ⟨?_, (((KeepsBits.refl u).put _ _).put _ _).mono (by simp)⟩
  rw [incSat, addSat, get_put_reg _ _ _ _ happart, get_put_fit _ _ _ rfl]

/-- An operation that leaves the state at every element leaves it. -/
theorem each_idle {ι : Type} {f : State → ι → State} {l : List ι} {s : State} (h : ∀ x ∈ l, f s x = s) : s.each l f = s := by
  unfold State.each
  induction l with
  | nil => rfl
  | cons a l ih =>
    rw [List.foldl_cons, h a (List.mem_cons_self ..)]
    exact ih fun x hx => h x (List.mem_cons_of_mem _ hx)

theorem cocapAdopt_idle {s : State} (h : ∀ x < 4, (s.cslot x).pairs = []) : cocapAdopt s = cocapRequests s :=
  congrArg cocapRequests (each_idle fun x hx => by dsimp only; rw [h x (List.mem_range.mp hx)])

/-! ### Enabling (R431) -/

/-- An endpoint as enabling leaves it. -/
def endpointCleared (x : Nat) (s : State) : State :=
  ((s.setCep x { s.cep x with hb := false, run := 0 }).put (CPLR_EP_STAT.PRESENT x) 0).put (CPLR_EP_STAT.MISS x) 0

/-- All endpoints as enabling leaves them. -/
def endpointsCleared (s : State) : State := s.each (List.range 20) fun s x => endpointCleared x s

theorem endpointCleared_get {x : Nat} {f : Fld} (h : f.addr ≠ CPLR_EP_STAT x) (s : State) : (endpointCleared x s).get f = s.get f := by
  rw [endpointCleared, get_put_reg _ _ _ _ h, get_put_reg _ _ _ _ h, State.setCep_get]

theorem endpointCleared_same (x : Nat) (s : State) : (endpointCleared x s).get (CPLR_EP_STAT.PRESENT x) = 0 ∧
    (endpointCleared x s).get (CPLR_EP_STAT.MISS x) = 0 := by
  refine ⟨?_, get_put_fit _ _ _ rfl⟩
  rw [endpointCleared, get_put_apart _ _ _ _ rfl, get_put_fit _ _ _ rfl]

theorem endpointsCleared_absent {x : Nat} (hx : x < 20) (s : State) : (endpointsCleared s).get (CPLR_EP_STAT.PRESENT x) = 0 ∧
    (endpointsCleared s).get (CPLR_EP_STAT.MISS x) = 0 := by
  refine each_establishes (f := fun s y => endpointCleared y s) (x := x)
    (fun u => u.get (CPLR_EP_STAT.PRESENT x) = 0 ∧ u.get (CPLR_EP_STAT.MISS x) = 0)
    (fun s => endpointCleared_same x s) (fun s y h => ?_) (.inr (List.mem_range.mpr hx))
  obtain ⟨hpresent, hmiss⟩ := h
  by_cases hxy : x = y
  · exact hxy ▸ endpointCleared_same x s
  · have hapart : CPLR_EP_STAT x ≠ CPLR_EP_STAT y := by
      unfold CPLR_EP_STAT
      omega
    exact ⟨(endpointCleared_get hapart s).trans hpresent, (endpointCleared_get hapart s).trans hmiss⟩

theorem endpointsCleared_on (s : State) : (endpointsCleared s).get CPLR_CTRL.EN = s.get CPLR_CTRL.EN :=
  each_field (·.get CPLR_CTRL.EN) _ _ _ fun s x => endpointCleared_get (by
    simp only [CPLR_CTRL.EN, CPLR_CTRL, CPLR_EP_STAT]
    omega) s

/-- A write of EN = 1 sets it (R17). -/
theorem storeReg_CPLR_CTRL_on (v : Word) (s : State) : (storeReg CPLR_CTRL (v ||| 0x80000000) s).get CPLR_CTRL.EN = 1 := by
  have hbit : fldGet (v ||| 0x80000000) 31 31 = 1 := by
    rw [fldGet_bit]
    simp
  obtain ⟨acc, -, hstored⟩ := storeReg_field (a := CPLR_CTRL) rfl (v ||| 0x80000000) s (f := (fdef 31 31 .rw).by 10) (by decide)
  have hlegal := storeField_rw (f := (fdef 31 31 .rw).by 10) (by decide) rfl rfl (s.freshBits CPLR_CTRL) (v ||| 0x80000000) acc
  exact hstored.trans (hlegal.trans ((if_pos ⟨Nat.zero_le _, hbit.le⟩).trans hbit))

theorem cplrCtrlWrite_rises {v : Word} {s u : State} (hu : u = storeReg CPLR_CTRL v s) (hoff : s.cplrOn = false) (hon : u.cplrOn = true) :
    cplrCtrlWrite v s = if u.cplrBad then cplrCfg CPLR_EVT.CFG_ERR (u.put CPLR_CTRL.EN 0)
      else cplrRefresh ((endpointsCleared u).each (List.range 17) fun s x => sendHello x s) := by
  unfold cplrCtrlWrite
  dsimp only
  rw [hoff, if_neg Bool.false_ne_true, ← hu, hon]
  exact if_pos rfl

theorem enable_refused_leaves {u : State} : ∃ t, t = cplrCfg CPLR_EVT.CFG_ERR (u.put CPLR_CTRL.EN 0) ∧ t.get CPLR_CTRL.EN = 0 ∧
    t.get CPLR_EVT.CFG_ERR = 1 ∧ t.get CPLR_EVT.CFG = 1 ∧ u.KeepsBits t [CPLR_CTRL.EN, CPLR_EVT.CFG_ERR, CPLR_EVT.CFG] := by
  obtain ⟨herr, hcfg, -, hkeeps⟩ := cplrCfg_leaves (u.put CPLR_CTRL.EN 0)
  have hoff : u.KeepsBits (u.put CPLR_CTRL.EN 0) [CPLR_CTRL.EN] := (KeepsBits.refl u).put _ _
  refine ⟨_, rfl, (hkeeps.get _ (by decide)).trans (get_put_fit _ _ _ rfl), herr, hcfg, (hoff.mono (by simp)).trans (hkeeps.mono ?_)⟩
  simp

/-- Settles O35: each command clause by clause. That a received EMCAP, CONOTE or COCAP of an illegal rate or GID changes nothing
is the model's own choice, which no rule cited and no log entry gives. -/
theorem couplerPolicyCommandsComplete : Obligations.CouplerPolicyCommandsComplete := by
  refine ⟨?env, fun p s u => envTake_eq, cplrSendDown_kept, envCurrent_leaves, ?insert, ?issue, ?current, ?none, ?window, ?error, ?emcap,
    fun s rate => emRefresh_leaves, ?known, ?unknown, ?entry, ?emIssue, ?emIgnored, ?conote, ?aggregate, ?report, ?overflow, ?cocap,
    ?waits, fun x r ep s u _ => cocapSlot_late, fun e s hrun => completes_working rfl hrun rfl, ?idle, ?enable⟩
  case env =>
    rintro e x ep fr fl s u rfl hon hrole hrun
    exact completes_received rfl hon hrole hrun rfl rfl
  case insert =>
    intro p l h
    exact ⟨envInsert_pairwise p h, mem_envInsert_self p l, fun q => of_mem_envInsert, fun q => mem_envInsert_before h,
      envInsert_replaces h⟩
  case issue =>
    intro req v s hp
    refine completes_permitted rfl hp rfl ⟨envIssue_root, fun h => ?_⟩
    rw [envIssue_other h]
    exact cplrCfg_leaves s
  case current =>
    rintro e p rest s u rfl hpending hrun
    have hdue : envDue (s.advanceTo e).cplr.env (s.advanceTo e) = envDue (p :: rest) (s.advanceTo e) := by
      rw [advanceTo_cplr, hpending]
    exact completes_running rfl hrun hdue ⟨fun h => if_neg (Nat.not_le.mpr h), fun h => if_pos h⟩
  case none =>
    intro e s hnone hrun
    refine completes_running rfl hrun (u := s.advanceTo e) ?_ rfl
    dsimp only
    rw [advanceTo_cplr, hnone]
    rfl
  case window =>
    rintro e z s rfl hrun
    exact completes_running rfl hrun rfl ⟨fun h => if_pos h, fun h => if_neg (by rw [h]; exact Bool.false_ne_true)⟩
  case error =>
    intro u
    refine ⟨envWindowEnd_other, envWindowEnd_leaves, fun h hpos hmatch => ?_⟩
    rw [envWindowEnd_root h]
    exact windowErred_matching hpos hmatch _
  case emcap =>
    rintro e x is q r ex s u v rfl hon hrole hv hrun
    refine completes_received rfl hon hrole hrun rfl ⟨fun h => ?_, fun h => congrArg reinAll (if_pos h)⟩
    dsimp only
    rw [if_neg (by omega), ← hv]
  case known =>
    intro is sq r ex i s u hu hfind
    rw [emApply_known hu hfind]
    refine ⟨fun hlo hhi => ⟨fun hr => ?_, fun hr => ?_⟩, fun h => ?_⟩
    · rw [if_pos ⟨hlo, hhi⟩, if_pos hr]
    · rw [if_pos ⟨hlo, hhi⟩, if_neg hr]
    · rw [if_neg (by omega)]
  case unknown =>
    intro is sq r ex s u hu hfind hr
    exact ⟨fun i => emApply_enters hu hfind hr, emApply_overflows hu hfind hr⟩
  case entry =>
    intro i is sq r ex s _ his hsq hr hex
    obtain ⟨hvalid, hissuer, hseq, hrate, hexpire, hframe⟩ := emPut_leaves (i := i) s his hsq hr hex
    exact ⟨hvalid, hissuer, hseq, hrate, hexpire, emDrop_invalid i s, hframe⟩
  case emIssue =>
    intro req v s u w hp hlo hhi hu hforever hlasts
    refine completes_permitted rfl hp rfl (emIssue_issues hlo hhi hu ?_)
    split_ifs with h
    · exact hforever h
    · exact hlasts h
  case emIgnored =>
    intro req v s hp h
    exact completes_permitted rfl hp rfl (emIssue_ignored h)
  case conote =>
    rintro e x gid r s u rfl hon hrole hrun
    exact completes_received rfl hon hrole hrun rfl ⟨fun h => congrArg reinAll (if_neg (by omega)), fun h => congrArg reinAll (if_pos h)⟩
  case aggregate =>
    intro gid k r s hnew hr
    rw [aggPut_new hnew hr]
    exact ⟨fun h => if_pos h, fun h => if_neg (Nat.not_lt.mpr h)⟩
  case report =>
    intro gid r s
    exact ⟨fun h => if_pos h, fun h => if_neg (by rw [h]; exact Bool.false_ne_true)⟩
  case overflow =>
    intro f s h
    exact cplrOvf_leaves h s
  case cocap =>
    rintro e x gid r ep s u rfl hon hrole hrun
    exact completes_received rfl hon hrole hrun rfl ⟨fun h => congrArg reinAll (if_neg (by omega)), fun h => congrArg reinAll (if_pos h)⟩
  case waits =>
    intro x r ep s u ps _ _ hu hps hlater
    rw [cocapSlot_waits hu hps hlater]
    refine ⟨fun h => ?_, fun h => if_pos h⟩
    rw [if_neg (Nat.not_lt.mpr h), List.take_of_length_le h]
  case idle =>
    intro e s hnone hrun
    exact completes_working rfl hrun (congrArg reinAll (cocapAdopt_idle fun x hx => by rw [cslot_adv, hnone x hx]))
  case enable =>
    intro req v s u hp hoff hu
    have hwrite := cplrCtrlWrite_rises hu (bit_of_get_zero hoff) (hu ▸ bit_of_get (storeReg_CPLR_CTRL_on v s))
    refine ⟨fun hbad => ?_, fun hright => ?_⟩
    · obtain ⟨t, ht, hleaves⟩ := enable_refused_leaves (u := u)
      exact completes_permitted rfl hp (hwrite.trans ((if_pos hbad).trans ht.symm)) hleaves
    · refine completes_permitted rfl hp (hwrite.trans (if_neg (by rw [hright]; exact Bool.false_ne_true))) ⟨_, rfl, fun x hx =>
        endpointsCleared_absent hx u, (endpointsCleared_on u).trans ?_⟩
      rw [hu]
      exact storeReg_CPLR_CTRL_on v s

end Sys2Proof.Machine
